-- ==== Sys2Proof/Word.lean ====
section
/-! DEFINITION. The word type of the management space (00_scope.md: registers are 32 bits wide) and its plainest
arithmetic. -/

namespace Sys2Proof

/-- A register of the management space. -/
abbrev Word := BitVec 32

/-- A byte of an addressed memory. -/
abbrev Byte := BitVec 8

end Sys2Proof
end

