-- ==== Sys2Proof/Syntax.lean ====
section
/-! DEFINITION. The commands of the hub: one constructor for each row of spec/opcode_table.json, with the operands the
row's rule names (the requester's path, the unit, and what only the outside knows: a measurement, a message, an edge). -/

namespace Sys2Proof

/-- A path into the management space (R16). -/
inductive Path where
  | host (h : Fin 32)
  | mgmt
  | engine (e : Fin 24)
  | smbus
  | svcUsb
deriving DecidableEq, Repr

/-- The release tag of a cell (R81, R119-R121): none, an arrival time in ns, or an arrival position of an axis in
units of 2^-16 micrometre with a direction (false increasing, true decreasing). -/
inductive Tag where
  | none
  | time (t : Nat)
  | axis (a : Fin 8) (pos : Int) (dir : Bool)
deriving DecidableEq, Repr

/-- The kind of traffic of a cell, with what its flow key is formed from (R83): a line of the pool (its address bits [51:6]), a channel of a
tunnel (class and channel), a PCIe transaction of a device on an M-port (requester ID and traffic class), a door's traffic (queue pair), and
management, mailbox and event traffic (requester code). -/
inductive Traffic where
  | pool (line : BitVec 46)
  | tunnel (chan : BitVec 16)
  | pcie (rid : BitVec 16) (tc : BitVec 3)
  | virtio (pair : BitVec 3)
  | mgmt (code : BitVec 8)
deriving DecidableEq, Repr

/-- A message, or the part of one that is at hand, as it enters an input port (R81): its ports, kind of traffic, bytes and tag; the egress
queue that its ingress block's class map gives it, where no rule fixes it (R110); whether the output's link has credits for the whole cell
(R99), which only the link knows; whether it begins and ends its message. -/
structure CellIn where
  src     : Fin 72
  dst     : Fin 72
  kind    : Traffic
  queue   : Fin 16
  payload : List (BitVec 8)
  tag     : Tag
  credits : Bool
  som     : Bool
  eom     : Bool
deriving DecidableEq, Repr

/-- A stream of the switch core (R82): input port, output port and logical plane. -/
structure StreamId where
  inp   : Fin 72
  out   : Fin 72
  plane : Fin 2
deriving DecidableEq, Repr

/-- What the sensors and the PDS die report at the close of a governor window (R125): the highest temperature and its sensor, and the
sum of the fabric-die rail powers in mW. -/
structure GovSample where
  tj     : Int
  sensor : Fin 64
  railMw : Nat
deriving DecidableEq, Repr

/-- A PTP message as a port receives it (R57): an Announce with the priority vector it carries, as a rank in which a lower
number is better; a Sync or Follow_Up with its origin time in ns; a delay or peer-delay exchange; a management message. -/
inductive PtpMsg where
  | announce (clockIdentity rank : Nat)
  | sync (origin : Nat) (twoStep : Bool)
  | followUp (origin : Nat)
  | delayReq (seq : Nat)
  | delayResp (rx : Nat)
  | pdelayReq (seq : Nat)
  | pdelayResp (rx tx : Nat)
  | management (write : Bool)
deriving DecidableEq, Repr

/-- What a read spans (R18): an offset, and how many words it reads beyond the first. -/
structure ReadSpan where
  addr : BitVec 26
  more : BitVec 10
deriving DecidableEq, Repr

/-- A PTP message with the domainNumber it carries, and the bytes of its flit before its stamp point where it comes through a dock's
tunnel (R57, R58). -/
structure PtpIn where
  msg : PtpMsg
  dom : BitVec 8
  off : BitVec 8
deriving DecidableEq, Repr

/-- The periodic messages of a PTP port. -/
inductive PtpKind where
  | sync | announce | delayReq | announceTimeout
deriving DecidableEq, Repr

/-- A message that a PTP port sends, with the bytes of its flit before its stamp point where it leaves through a dock's tunnel (R58). -/
structure PtpOut where
  kind : PtpKind
  off  : BitVec 8
deriving DecidableEq, Repr

/-- A level of an axis's Z input (R63). -/
structure ZLevel where
  axis  : Fin 8
  level : Bool
deriving DecidableEq, Repr

/-- What a link's training agreed with the partner: IDE, the partner's support of L0p, and its ASPM enable for L1 (R195). -/
structure LinkCaps where
  ide  : Bool
  l0p  : Bool
  aspm : Bool
deriving DecidableEq, Repr

/-- Why a vat bank is retired (R105): a word of a sub-array fails SECDED uncorrectably, its two control copies disagree, or it had a number of
corrected errors within one second. -/
inductive BankTrouble where
  | word (sub : Fin 9)
  | control
  | corrected (n : Nat)
deriving DecidableEq, Repr

/-- A fault of a vat bank (R105), with the cells that have units in the bank, which only the bank allocation knows. -/
structure BankFault where
  why   : BankTrouble
  cells : List Nat
deriving DecidableEq, Repr

/-- The head of a command entry as the hub reads it from the ring (R43). -/
structure CmdHead where
  seq    : Word
  opcode : BitVec 16
  noDone : Bool
  token  : Word
deriving DecidableEq, Repr

/-- The SnpType of a CXL.mem request (R141). -/
inductive SnpType where
  | noOp | snpData | snpInv | snpCur
deriving DecidableEq, Repr

/-- The MetaField and MetaValue of a CXL.mem request: no operation, or the value I, S or A (R141). -/
inductive MetaVal where
  | noOp | i | s | a
deriving DecidableEq, Repr

/-- What SECDED finds in a stored word: good, corrected, or uncorrectable. -/
inductive EccFind where
  | good | corrected | bad
deriving DecidableEq, Repr

/-- What the arrays show on the way of a host's request: the colour entries, by granule, that upsets have hit meanwhile (R176), a row of the line's directory set with an
uncorrectable entry (R164), and whether the word of the cream line that would serve is uncorrectable (R159). -/
structure Look where
  colours : List (BitVec 24 × EccFind) := []
  row     : Option (Fin 3) := none
  cream   : Bool := false
deriving DecidableEq, Repr

/-- The address of a host's CXL.mem request, as a DPA, with what its way shows. -/
structure MemAddr where
  dpa  : BitVec 52
  look : Look := {}
deriving DecidableEq, Repr

/-- Why a bank of a cream cache may fault (R149): an uncorrectable word, a control mismatch, or a number of corrected errors within one
second. -/
inductive CreamTrouble where
  | word | control
  | corrected (n : Nat)
deriving DecidableEq, Repr

/-- Why a data slice may fail (R164): a control-path parity error, a tracker that disagrees with its copy, an uncorrectable entry of a row, or
a number of corrected errors within one second. -/
inductive SliceTrouble where
  | control | tracker
  | entry (row : Fin 49152)
  | corrected (n : Nat)
deriving DecidableEq, Repr

/-- A host's act on the MSI-X capability of its management function (R379, PCIe 7.0): MSI-X Enable, Function Mask, a write of a table entry. -/
inductive MsixAct where
  | enable (on : Bool)
  | mask (on : Bool)
  | entry (vec : Fin 64) (addr : BitVec 64) (data : Word) (masked : Bool)
deriving DecidableEq, Repr

/-- The far end of a PTM dialogue (R61, R185): a host's PTM Root, with its time in ns; a device below an M-port's root port, by its requester ID. -/
inductive PtmEnd where
  | host (h : Fin 32)
  | device (m : Fin 16) (id : BitVec 16)
deriving DecidableEq, Repr

/-- The address and the length in bytes that the header of a request or an AER header log names (R44, R197). -/
structure TlpSpan where
  addr : BitVec 64 := 0
  len  : BitVec 16 := 0
deriving DecidableEq, Repr

/-- The target of a write that a target's AER header log names (R197), and what else the log shows of it. -/
structure TargetLog where
  port : Fin 72
  span : TlpSpan := {}
deriving DecidableEq, Repr

/-- How far a host's request to a bound function has come (R193, R197): completed or acknowledged at once; on its way; an earlier posted write, by
its ingress sequence number, or an earlier non-posted request, by its tag, has been acknowledged or completed. -/
inductive FnReq where
  | done (span : TlpSpan)
  | sent (span : TlpSpan)
  | acked (seq : Word)
deriving DecidableEq, Repr

/-- What the partner of an H- or M-port says of low-power states on a link that is up (R195): an LTR message, or its ASPM enable. -/
inductive PartnerSays where
  | ltr (value : Word)
  | aspm (on : Bool)
deriving DecidableEq, Repr

/-- The forms of a CXL.mem write (R141): SnpInv, or SnpType No-Op with MetaValue I or S. -/
inductive WrForm where
  | snpInv | metaI | metaS
deriving DecidableEq, Repr

/-- A PCIe atomic operation (R175): fetch and add, swap, or compare and swap, on an operand of 4, 8 or 16 bytes. -/
inductive AtomicOp where
  | fetchAdd (bytes v : Nat)
  | swap (bytes v : Nat)
  | cas (bytes cmp new : Nat)
deriving DecidableEq, Repr

/-- A PCIe function as the hub's enumeration finds it below a root port (R189): requester ID, Vendor ID and Device ID, Class
Code. -/
structure FoundFn where
  id     : BitVec 16
  vendor : BitVec 16
  device : BitVec 16
  cls    : BitVec 24
deriving DecidableEq, Repr

/-- What an M-port's link-up finds (R188, R189): an expander of a capacity in GiB, or a PCIe hierarchy. -/
inductive MpDevice where
  | expander (gib : Nat)
  | pcie (fns : List FoundFn)
deriving DecidableEq, Repr

/-- A received training frame (R214) as its receiver sees it: the marker's match (none, or whether it is inverted), the CRC, bytes
9 to 14, the measured delay of lane 1 behind lane 0 in UI, and whether the lane has adapted, and the widths in 1/64 UI that the loupe has measured of its eyes (R218). -/
structure TrainFrame where
  marker  : Option Bool
  crcOk   : Bool
  b9      : BitVec 8
  flags   : BitVec 8
  req     : BitVec 8
  preset  : BitVec 8
  inUse   : BitVec 8
  count   : BitVec 8
  skew    : BitVec 16
  adapted : Bool
  eyes    : List Nat
deriving DecidableEq, Repr

/-- The header fields of a flit that every received flit carries (R232): SEQ, ACK and CR, and the bytes its FEC corrected. -/
structure FlitHdr where
  seq   : BitVec 12
  ack   : BitVec 12
  crCls : BitVec 3
  cr    : BitVec 9
  errs  : List (Fin 256 × BitVec 8)
deriving DecidableEq, Repr

/-- The channel and the body of a DATA_BAD flit (R233). -/
structure BadPart where
  chan : BitVec 5
  body : List (BitVec 8)
deriving DecidableEq, Repr

/-- A RETRAIN_REQ or RETRAIN_ACK (R257): number, proposal, byte 2, ENC declared, link identity. -/
structure RetrainMsg where
  num  : BitVec 8
  rate : BitVec 2
  mask : BitVec 2
  b2   : BitVec 8
  enc  : Bool
  id   : BitVec 64
deriving DecidableEq, Repr

/-- A display sink of a DESCRIBE (R271). -/
structure SinkInfo where
  width   : BitVec 16
  height  : BitVec 16
  refresh : BitVec 8
  formats : BitVec 8
deriving DecidableEq, Repr

/-- A DESCRIBE (R271): identities, the endpoints of T-PCIE, T-ETH, T-DISP and T-SIG, and the display sinks. -/
structure DescribeMsg where
  vid   : BitVec 16
  pid   : BitVec 16
  pcie  : BitVec 8
  eth   : BitVec 8
  disp  : BitVec 8
  sgl   : BitVec 8
  sinks : List SinkInfo
deriving DecidableEq, Repr

/-- What a driver sets up with a door beside VERSION_1 and RING_PACKED (R276): the other feature bits that it accepts, and its queue pairs. -/
structure DriverSetup where
  others : BitVec 64
  pairs  : Fin 9
deriving DecidableEq, Repr

/-- An Ethernet frame at a forwarder port (R274), with the queue pair that a host's driver sends it on (R83, R276). -/
structure EthIn where
  pair  : Fin 8 := 0
  bytes : List (BitVec 8)
deriving DecidableEq, Repr

/-- A TLP of a T-PCIE channel (R272, R273): the successful end of the hub's scan; a completion to a host's request; the
function's memory reads, writes and atomic operations; its INTx messages; its PTM request (R62), with the bytes of its flit before its stamp
point; another TLP of the function; and a TLP from the bound vDSP down to the function. -/
inductive TlpIn where
  | scanDone (vendor device : BitVec 16) (cls : BitVec 24)
  | cpl (tag : BitVec 16)
  | read (tag : BitVec 16) (addr : BitVec 64) (len : BitVec 13)
  | write (addr : BitVec 64) (data : List (BitVec 8))
  | atomic (tag : BitVec 16) (addr : BitVec 64) (op : AtomicOp)
  | intx (on : Bool)
  | ptm (off : BitVec 8)
  | other
  | down (tlp : List (BitVec 8))
deriving DecidableEq, Repr

/-- What an unattached dock port's CC pins show for tCCDebounce (R294): Rd on one pin (`cc2` tells CC2) with Ra on the other or
not; Rd on both; Ra on both; Rp on one with VBUS above 4.0 V. -/
inductive CcSeen where
  | rd (cc2 ra : Bool)
  | rdBoth
  | raBoth
  | rp (cc2 : Bool)
deriving DecidableEq, Repr

/-- A cable's answer to Discover Identity on SOP' (R298). -/
inductive CableAns where
  | passive (vdo : Word)
  | active
  | none
deriving DecidableEq, Repr

/-- An EPR_Mode message of the sink on a port (R299, R303): Enter, or Exit. -/
structure EprCall where
  port : Fin 16
  exit : Bool := false
deriving DecidableEq, Repr

/-- The partner's sink capabilities by their first PDO: Sink_Capabilities, or EPR_Sink_Capabilities (R299). -/
inductive SinkCaps where
  | spr (pdo : Word)
  | epr (pdo : Word)
deriving DecidableEq, Repr

/-- A port's sample (R328): VOUT and VBK in mV, current in mA, signed. -/
structure PortSample where
  vout : BitVec 16
  vbk  : BitVec 16
  ma   : BitVec 16
deriving DecidableEq, Repr

/-- A feed's sample (R328): voltage in mV, current in 10 mA, signed. -/
structure FeedSample where
  mv : BitVec 16
  c  : BitVec 16
deriving DecidableEq, Repr


/-- What the check of a word read from an engine's memory finds (R384). -/
inductive Ecc where
  | none | corrected | bad
deriving DecidableEq, Repr

/-- Why an engine traps without another rule: the TRAP instruction, or an uncorrectable error of the word fetched (R384, R386). -/
inductive TrapCause where
  | software (imm : BitVec 18)
  | ecc
deriving DecidableEq, Repr

/-- What verifies a program's signature (R396): the owner program key, the vendor test key, or neither. -/
inductive ProgSig where
  | owner | vendor | bad
deriving DecidableEq, Repr


/-- An engine's program in a firmware image: its entry point and the words of both memories (R382, R418). -/
structure EngImage where
  eng   : Fin 24
  entry : BitVec 16
  imem  : List Word
  dmem  : List Word
deriving DecidableEq, Repr

/-- A firmware image as it is read (R418): whether its header format is valid, the SHA-384 of the key that its signature names and whether that
signature verifies, its version, its own hash, and its programs. -/
structure FwImage where
  formatOk : Bool
  keyHash  : BitVec 384
  sigOk    : Bool
  version  : BitVec 16
  hash     : BitVec 384
  progs    : List EngImage
deriving DecidableEq, Repr

/-- Who requests a life-cycle step (R437): a path, or JTAG. -/
inductive LcFrom where
  | path (p : Path)
  | jtag
deriving DecidableEq, Repr

/-- An element of the repair map: class, instance, detail (R445). -/
structure RepElem where
  cls    : BitVec 4
  inst   : BitVec 12
  detail : BitVec 16
deriving DecidableEq, Repr

/-- A failing element of a test program (R449, R450): what it is in the map's terms, and for a memory the failing rows and columns diagnosed. -/
structure RepFail where
  elem : RepElem
  rows : List RepElem := []
deriving DecidableEq, Repr

/-- What a test program found in one element (R449): its signature, whether its march found a mismatch, what it is in the map's terms
where it has a class, and the rows, columns, slices or PLLs diagnosed. -/
structure ElemResult where
  elem  : Option RepElem
  sig   : BitVec 64
  march : Bool
  rows  : List RepElem
deriving DecidableEq, Repr

/-- A device on the internal USB hub's bus: the hub, and its own three functions (R455). -/
inductive UsbDevice where
  | hub | mgmt | recovery | log
deriving DecidableEq, Repr

/-- A feature of a hub port (R455, R461). -/
inductive PortFeature where
  | enable | suspend | reset | power | cConnection | cEnable | cSuspend | cOverCurrent | cReset
deriving DecidableEq, Repr

/-- A feature that SET_FEATURE and CLEAR_FEATURE name (R461, R463). -/
inductive UsbFeature where
  | remoteWake
  | halt (ep : Fin 4)
  | port (n : Fin 19) (f : PortFeature)
deriving DecidableEq, Repr

/-- A control request with a side effect (R461). -/
inductive UsbReq where
  | regWrite (addr : BitVec 32) (len : BitVec 16) (words : List Word)
  | setAddress (d : UsbDevice) (addr : BitVec 7)
  | setConfiguration (d : UsbDevice) (cfg : BitVec 8)
  | setFeature (d : UsbDevice) (f : UsbFeature)
  | clearFeature (d : UsbDevice) (f : UsbFeature)
deriving DecidableEq, Repr


/-- The commands of spec/opcode_table.json, in the table's order. -/
inductive Instr where
  | registerWrite (p : Path) (addr : BitVec 26) (value : List Word) (be : List (BitVec 4))
  | ownerWrite (p : Path) (page : BitVec 14) (value : Word)
  | pageEnable (p : Path) (page : BitVec 14) (en : Bool)
  | txnOpen (p : Path)
  | txnCommit (p : Path) (value : Word)
  | txnAbort (p : Path) (value : Word)
  | atTimeCommit (slot : Fin 8)
  | abortedIdle (slot : Fin 8)
  | quarantineEnd (kind : Fin 6) (id : Nat)
  | cmdPost (p : Path) (h : Fin 32) (count : Word) (entries : List CmdHead)
  | nop (h : Fin 32) (seq : Word)
  | unknownOpcode (h : Fin 32) (seq : Word)
  | evtConsumedWrite (p : Path) (h : Fin 32) (count : Word)
  | resync (p : Path) (h : Fin 32)
  | ringRestart (p : Path) (h : Fin 32)
  | ringEnable (p : Path) (h : Fin 32) (cmdEn evtEn : Bool)
  | nowLoRead (p : Path) (r : ReadSpan)
  | stepGo (p : Path)
  | slewComplete
  | ptpMessage (port : Fin 48) (m : PtpIn)
  | ptmDialogue (e : PtmEnd) (hostTime : BitVec 64)
  | axisTransition (a : Fin 8) (la lb : Bool)
  | swDelta (p : Path) (a : Fin 8) (delta : Word)
  | zPulse (z : ZLevel)
  | velUpdate (a : Fin 8)
  | axisStopped (a : Fin 8)
  | positionCrossing (a : Fin 8)
  | axCmdClear (p : Path) (a : Fin 8)
  | axCmdLoad (p : Path) (a : Fin 8)
  | tctrlArm (p : Path) (n : Fin 16) (value : Word)
  | tctrlDisarm (p : Path) (n : Fin 16) (value : Word)
  | triggerFire (n : Fin 16)
  | pulseEnd (n : Fin 16)
  | captureEdge (n : Fin 16) (level : Bool)
  | capPop (p : Path) (n : Fin 16)
  | syncEdge (m : Fin 4) (level : Bool)
  | syncLost (m : Fin 4)
  | cellArrival (c : CellIn)
  | churnMatch
  | cellAtOutput (id : Nat) (crcOk : Bool)
  | cumulativeAck (st : StreamId) (seq : BitVec 16)
  | streamNak (st : StreamId)
  | ackTimeout (st : StreamId)
  | checkCell (plane : Fin 3) (inp out : Fin 72) (crcOk : Bool)
  | planeFail (plane : Fin 3)
  | planeForce (p : Path) (plane : Fin 3)
  | failoverComplete
  | bankRetire (bank : Fin 50) (fault : BankFault) (badReads lost : List Nat)
  | bankCopyComplete (bank : Fin 50)
  | holdRelease (id : Nat)
  | holdAgeExpiry (id : Nat)
  | holdPeakReset (p : Path)
  | htResultRead (p : Path)
  | shaperRefill (sh : Fin 4096)
  | shaperEnable (p : Path) (value : Word)
  | coarseSlot
  | axwWidthWrite (p : Path) (a : Fin 8) (width : Word)
  | wheelPeakReset (p : Path)
  | governorWindow (g : GovSample)
  | governorFirmware
  | linkIdle (port : Fin 64)
  | memrd (h : Fin 32) (tag : BitVec 16) (at_ : MemAddr) (snp : SnpType) (mv : MetaVal)
  | memrddata (h : Fin 32) (tag : BitVec 16) (at_ : MemAddr)
  | meminv (h : Fin 32) (tag : BitVec 16) (at_ : MemAddr) (own : Bool)
  | memclnevct (h : Fin 32) (tag : BitVec 16) (at_ : MemAddr)
  | memwr (h : Fin 32) (tag : BitVec 16) (at_ : MemAddr) (form : WrForm) (data : BitVec 512) (poison : Bool)
  | memwrptl (h : Fin 32) (tag : BitVec 16) (at_ : MemAddr) (form : WrForm) (data : BitVec 512) (be : BitVec 64) (poison : Bool)
  | memspecrd (h : Fin 32) (dpa : BitVec 52)
  | birspi (h : Fin 32) (bitag : BitVec 12) (block : Bool)
  | birsps (h : Fin 32) (bitag : BitVec 12) (block : Bool)
  | birspe (h : Fin 32) (bitag : BitVec 12) (block : Bool)
  | biconflict (h : Fin 32) (tag : BitVec 16) (dpa : BitVec 52)
  | functionMemRead (fn : Fin 256) (gen : BitVec 4) (tag : BitVec 16) (addr : BitVec 64) (len : BitVec 13)
  | functionMemWrite (fn : Fin 256) (gen : BitVec 4) (addr : BitVec 64) (data : List (BitVec 8))
  | functionAtomic (fn : Fin 256) (gen : BitVec 4) (tag : BitVec 16) (addr : BitVec 64) (op : AtomicOp)
  | expanderMemdata (m : Fin 16) (tag : BitVec 16) (data : BitVec 512) (poison : Bool)
  | expanderCmp (m : Fin 16) (tag : BitVec 16)
  | expanderBisnp (m : Fin 16) (addr : BitVec 52)
  | completionTimeout (m : Fin 16) (idx : BitVec 12)
  | tagFree (m : Fin 16) (idx : BitVec 12)
  | bisnpTimeout (h : Fin 32) (bitag : BitVec 12)
  | regionEnable (p : Path) (r : Fin 16) (value : Word)
  | regionRecall (p : Path) (r : Fin 16)
  | regionRecallEnd (r : Fin 16)
  | windowEnable (p : Path) (cream : Bool)
  | windowRecall (p : Path)
  | windowRecallEnd (h : Fin 32) (w : Fin 64)
  | lossWalkEnd (port : Fin 72)
  | poolLostClr (p : Path) (ports : BitVec 16)
  | creamBankFault (n : Fin 8) (bank : Fin 8) (why : CreamTrouble)
  | crDrop (p : Path) (n : Fin 8)
  | crDisable (p : Path) (n : Fin 8)
  | sliceFail (d : Fin 32) (why : SliceTrouble)
  | sliceForce (p : Path) (d : Fin 32)
  | reconstructionServing (d : Fin 32)
  | rebuildComplete (d : Fin 32)
  | reflectorFail (g : Fin 2)
  | dxFail
  | byAddr (p : Path)
  | byPos (p : Path)
  | drainEnd
  | drainLimit
  | logClr (p : Path)
  | drainMaxReset (p : Path)
  | hpLinkUp (h : Fin 32) (rate width : Fin 8) (caps : LinkCaps)
  | hpLinkDown (h : Fin 32)
  | hpDisable (p : Path) (h : Fin 32)
  | hpRetrain (p : Path) (h : Fin 32)
  | mpLinkUp (m : Fin 16) (rate : Fin 8) (width : Fin 16) (caps : LinkCaps) (dev : MpDevice)
  | mpLinkDown (m : Fin 16)
  | mpRetrain (p : Path) (m : Fin 16)
  | ltrMessage (port : Fin 48) (value : PartnerSays)
  | linkStateExit (port : Fin 64)
  | bind (h : Fin 32) (seq : Word) (host vdsp src : BitVec 8) (id : BitVec 16) (poolBase poolSize poolDev : Word)
  | unbind (h : Fin 32) (seq : Word) (host vdsp slot : BitVec 8) (gen : BitVec 4) (force : Bool)
  | powerControllerOff (h : Fin 32) (d : Fin 16)
  | unbindGrace (h : Fin 32) (d : Fin 16)
  | writeFence (h : Fin 32) (seq : Word) (init : BitVec 16) (target : BitVec 8)
  | fenceComplete (h : Fin 32) (seq : Word)
  | pllLockLoss (m : Fin 80) (pll : Fin 2) (both : Bool)
  | pllSwap (p : Path)
  | pllReturn (m : Fin 81) (pll : Fin 2)
  | pllRetry (m : Fin 80) (got : Option (Fin 2))
  | tapRail (m : Fin 80) (lane : Fin 4)
  | seqStart (p : Path) (step : Fin 64)
  | seqStop (p : Path)
  | seqEnd (m : Fin 80)
  | seqTxsrc (m : Fin 80)
  | seqRate (m : Fin 80)
  | seqWait (m : Fin 80)
  | seqWaitExpiry (m : Fin 80)
  | seqWaitfor (m : Fin 80)
  | waitforMet (m : Fin 80)
  | waitforTimeout (m : Fin 80)
  | seqAdapt (m : Fin 80)
  | seqFreeze (m : Fin 80)
  | seqFfe (m : Fin 80)
  | seqEngine (m : Fin 80)
  | seqJump (m : Fin 80)
  | seqSetlc (m : Fin 80)
  | seqDjnz (m : Fin 80)
  | seqReservedOp (m : Fin 80)
  | seqContinue (p : Path) (next : Fin 64)
  | trainingFrame (n : Fin 16) (lane : Fin 2) (f : TrainFrame)
  | slip (p : Path) (n : Fin 16) (lane : Fin 2)
  | dlRestart (p : Path) (n : Fin 16)
  | rateTimeout (n : Fin 16)
  | bringupTimeout (n : Fin 16)
  | bringupRestart (n : Fin 16)
  | laneExcluded (n : Fin 16) (lane : Fin 2)
  | eyeGo (p : Path) (value : Word)
  | eyeStop (p : Path)
  | eyePointDone (m : Fin 80) (lane : Fin 4) (errs : BitVec 64)
  | audit (m : Fin 80) (lane : Fin 4) (mism : List Nat) (badCal : BitVec 8)
  | injectOne (p : Path)
  | deepExitComplete (port : Fin 64)
  | flitTime (n : Fin 16)
  | idleFlit (n : Fin 16) (h : FlitHdr)
  | dataFlit (n : Fin 16) (h : FlitHdr) (cls : BitVec 3) (chan : BitVec 5) (body : List (BitVec 8))
  | dataBadFlit (n : Fin 16) (h : FlitHdr) (cls : BitVec 3) (part : BadPart)
  | sealFlit (n : Fin 16) (h : FlitHdr) (tag : BitVec 128) (counter : BitVec 64) (count : BitVec 8)
  | nakFlit (n : Fin 16) (h : FlitHdr)
  | initFlit (n : Fin 16) (h : FlitHdr) (version : BitVec 16) (enc : Bool) (credits : List (BitVec 16)) (depth : BitVec 16) (id : BitVec 64)
  | pmFlit (n : Fin 16) (h : FlitHdr) (op st cnt : BitVec 8)
  | pauseFlit (n : Fin 16) (h : FlitHdr)
  | echoFlit (n : Fin 16) (h : FlitHdr) (num : BitVec 64)
  | echoReplyFlit (n : Fin 16) (h : FlitHdr) (num : BitVec 64) (turn devDelay : Word)
  | reservedFlit (n : Fin 16) (h : FlitHdr)
  | crcFailedFlit (n : Fin 16)
  | nakRearm (n : Fin 16)
  | replayTimeout (n : Fin 16)
  | sealWaitExpiry (n : Fin 16)
  | initTimeout (n : Fin 16)
  | dead (n : Fin 16)
  | linkRestart (n : Fin 16)
  | lkRetrain (p : Path) (n : Fin 16) (rate mask : BitVec 2)
  | lkDown (p : Path) (n : Fin 16)
  | retrainReq (n : Fin 16) (r : RetrainMsg)
  | retrainAck (n : Fin 16) (r : RetrainMsg)
  | retrainTimeout (n : Fin 16)
  | echoPeriod (n : Fin 16)
  | echoTimeout (n : Fin 16)
  | describe (n : Fin 16) (d : DescribeMsg)
  | chOpen (n : Fin 16) (cls idx gen : BitVec 8)
  | chClose (n : Fin 16) (cls idx gen : BitVec 8)
  | allotAck (n : Fin 16) (num : BitVec 8) (rx : Bool)
  | allotNak (n : Fin 16) (num : BitVec 8) (rx : Bool) (reason : BitVec 8)
  | ltol (n : Fin 16) (ns : Word)
  | vendorMgmt (n : Fin 16) (code : BitVec 7) (payload : List (BitVec 8))
  | badMgmtMessage (n : Fin 16) (code : BitVec 8)
  | chCmdOpen (p : Path) (n : Fin 16)
  | chCmdClose (p : Path) (n : Fin 16)
  | tlp (n : Fin 16) (chan : BitVec 16) (t : TlpIn)
  | pcieScanTimeout (n : Fin 16) (chan : BitVec 16)
  | ethFrame (port : Fin 544) (frame : EthIn)
  | fwdAge (mac : BitVec 48) (vid : BitVec 12) (dom : BitVec 4)
  | fwdPortCfg (h : Fin 32) (seq : Word) (port : BitVec 16) (dom : BitVec 8) (learn block : Bool)
  | fwdFlush (h : Fin 32) (seq : Word) (dom : BitVec 8)
  | featuresOk (h : Fin 32) (version1 ringPacked : Bool) (pairs : DriverSetup)
  | epochBoundary (n : Fin 16) (rx : Bool)
  | sbuTmgmt (n : Fin 16) (crcOk : Bool) (seq : BitVec 8) (msg : List (BitVec 8))
  | sbuTsig (n : Fin 16) (crcOk : Bool) (seq : BitVec 8) (msg : List (BitVec 8))
  | wake (n : Fin 16) (crcOk : Bool) (seq : BitVec 8)
  | sbuAck (n : Fin 16) (crcOk : Bool) (acked : BitVec 8)
  | sbuTimeout (n : Fin 16)
  | attach (n : Fin 16) (cc : CcSeen)
  | drpToggle (n : Fin 16)
  | trySrcTimeout (n : Fin 16) (vbus cc2 : Bool)
  | detach (n : Fin 16)
  | vconnFault (n : Fin 16)
  | cableIdentity (n : Fin 16) (a : CableAns)
  | sourceCapRepeat (n : Fin 16)
  | request (n : Fin 16) (rdo : Word)
  | eprRequest (n : Fin 16) (rdo pdo : Word)
  | eprMode (n : EprCall)
  | eprKeepalive (n : Fin 16)
  | eprKeepaliveTimeout (n : Fin 16)
  | getSourceCap (n : Fin 16)
  | getSinkCap (n : Fin 16)
  | sinkCapabilities (n : Fin 16) (pdo : SinkCaps)
  | sourceCapabilities (n : Fin 16) (pdo : Word)
  | drSwap (n : Fin 16)
  | prSwap (n : Fin 16)
  | vconnSwap (n : Fin 16)
  | softReset (n : Fin 16)
  | hardReset (n : Fin 16)
  | accept (n : Fin 16)
  | reject (n : Fin 16)
  | pdWait (n : Fin 16)
  | psRdy (n : Fin 16)
  | goodcrc (n : Fin 16) (sent : Bool)
  | goodcrcTimeout (n : Fin 16)
  | notSupported (n : Fin 16)
  | getStatus (n : Fin 16)
  | getRevision (n : Fin 16)
  | getSourceCapExtended (n : Fin 16)
  | eprGetSourceCap (n : Fin 16)
  | bistMessage (n : Fin 16) (carrier : Bool)
  | unsupportedMessage (n : Fin 16) (outOfSeq : Bool)
  | senderResponseTimeout (n : Fin 16)
  | srcTransition (n : Fin 16)
  | psTransitionTimeout (n : Fin 16)
  | srcRecover (n : Fin 16)
  | errorRecoveryEnd (n : Fin 16)
  | swapRetry (n : Fin 16)
  | discoverIdentityAck (n : Fin 16)
  | discoverSvidsAck (n : Fin 16) (svids : List (BitVec 16))
  | discoverModesAck (n : Fin 16) (vdos : List Word)
  | enterModeAck (n : Fin 16) (vdo idLo idHi : Word)
  | vdmNak (n : Fin 16)
  | vdmBusy (n : Fin 16)
  | vdmRetry (n : Fin 16)
  | attention (n : Fin 16) (vdo : Word)
  | modeRetry (n : Fin 16)
  | pdCmdExit (p : Path) (n : Fin 16)
  | pdCmdEnter (p : Path) (n : Fin 16)
  | pdCmdSendCaps (p : Path) (n : Fin 16)
  | pdCmdDrSwap (p : Path) (n : Fin 16)
  | pdCmdPrSwap (p : Path) (n : Fin 16)
  | pdCmdSoftReset (p : Path) (n : Fin 16)
  | pdCmdHardReset (p : Path) (n : Fin 16)
  | pdSrcWrite (p : Path) (n : Fin 16) (value : Word)
  | pdDisable (p : Path) (n : Fin 16)
  | feedReverse (feed : Fin 2)
  | feedLost (feed : Fin 2)
  | feedOvervoltage (feed : Fin 2)
  | feedReturn (feed : Fin 2)
  | busUv
  | dockBusReturn
  | trimStep (n : Fin 16)
  | moveComplete (n : Fin 16)
  | moveTimeout (n : Fin 16)
  | efuseEnable (n : Fin 16) (en : Bool)
  | buckTimeout (n : Fin 16)
  | gateOn (n : Fin 16)
  | gateTimeout (n : Fin 16)
  | limiting (n : Fin 16) (on : Bool)
  | ocpTimer (n : Fin 16)
  | fastTrip (n : Fin 16)
  | overvolt (n : Fin 16)
  | undervolt (n : Fin 16)
  | reverse (n : Fin 16)
  | offWaitEnd (n : Fin 16)
  | powerGood (n : Fin 16)
  | discharged (n : Fin 16)
  | clrLockout (p : Path) (n : Fin 16)
  | clrPeak (p : Path) (n : Fin 16)
  | frameTrigger (n : Fin 8)
  | frameStart (n : Fin 8)
  | lineHandover (n : Fin 8)
  | fetchError (n : Fin 8) (l : Fin 4) (guard : Bool)
  | soEnable (p : Path) (n : Fin 8)
  | soDisable (p : Path) (n : Fin 8)
  | dirty (p : Path) (n : Fin 8)
  | signal (n : Fin 16) (tch : Fin 32) (ch : BitVec 16) (due : Option (BitVec 64)) (payload : List (BitVec 8))
  | intr (n : Fin 16) (tch : Fin 32) (ch : BitVec 16) (due : Option (BitVec 64)) (payload : List (BitVec 8))
  | regAck (n : Fin 16) (tch : Fin 32) (q : BitVec 16) (status : BitVec 8)
  | regData (n : Fin 16) (tch : Fin 32) (q : BitVec 16) (status : BitVec 8) (d : List (BitVec 8))
  | sigSend (h : Fin 32) (seq : Word) (ch : BitVec 16) (op : BitVec 8) (tag : BitVec 2) (axis : Fin 8) (dir : Bool) (value : BitVec 64) (payload : List (BitVec 8))
  | edgeRead (h : Fin 32) (seq : Word) (port tch len : BitVec 8) (addr : Word) (haddr : BitVec 64)
  | edgeWrite (h : Fin 32) (seq : Word) (port tch len : BitVec 8) (addr : Word) (data : List (BitVec 8))
  | edgeRmw (h : Fin 32) (seq : Word) (port tch len : BitVec 8) (addr : Word) (andMask xorMask : BitVec 64)
  | semTake (h : Fin 32) (seq : Word) (port tch : BitVec 8)
  | semGive (h : Fin 32) (seq : Word)
  | regTimeout (n : Fin 16) (tch : Fin 32) (q : BitVec 16)
  | semWaitTimeout (h : Fin 32) (seq : Word)
  | semHoldLimit (n : Fin 16) (tch : Fin 32)
  | poll (e : Fin 256)
  | raLife (b : Fin 32)
  | routeValid (p : Path) (value : Word)
  | dpfClr (p : Path)
  | hookTimeout (k : Fin 4)
  | engBrcmd (p : Path) (e : Fin 24) (offset : BitVec 18)
  | evtEnWrite (p : Path) (page : BitVec 14) (value : Word)
  | claim (p : Path) (t : Fin 57) (fast : Bool)
  | complete (p : Path) (t : Fin 57) (fast : Bool) (ev : BitVec 12)
  | targetEnable (t : Fin 57)
  | evRouteWrite (p : Path) (value : Word)
  | tgtQconsWrite (p : Path) (t : Fin 57) (value : Word)
  | msixEnable (h : Fin 32) (act : MsixAct)
  | pinFilterEdge (pin : Fin 5) (level : Bool)
  | add (e : Fin 24) (gd ga gb : Fin 16)
  | sub (e : Fin 24) (gd ga gb : Fin 16)
  | and (e : Fin 24) (gd ga gb : Fin 16)
  | or (e : Fin 24) (gd ga gb : Fin 16)
  | xor (e : Fin 24) (gd ga gb : Fin 16)
  | shl (e : Fin 24) (gd ga gb : Fin 16)
  | shr (e : Fin 24) (gd ga gb : Fin 16)
  | sar (e : Fin 24) (gd ga gb : Fin 16)
  | mul (e : Fin 24) (gd ga gb : Fin 16)
  | sltu (e : Fin 24) (gd ga gb : Fin 16)
  | addi (e : Fin 24) (gd ga : Fin 16) (imm : BitVec 18)
  | andi (e : Fin 24) (gd ga : Fin 16) (imm : BitVec 18)
  | ori (e : Fin 24) (gd ga : Fin 16) (imm : BitVec 18)
  | xori (e : Fin 24) (gd ga : Fin 16) (imm : BitVec 18)
  | lui (e : Fin 24) (gd ga : Fin 16) (imm : BitVec 18)
  | ld (e : Fin 24) (gd ga : Fin 16) (imm : BitVec 18) (ecc : Ecc)
  | st (e : Fin 24) (gd ga : Fin 16) (imm : BitVec 18)
  | ldb (e : Fin 24) (gd ga : Fin 16) (imm : BitVec 18) (ecc : Ecc)
  | stb (e : Fin 24) (gd ga : Fin 16) (imm : BitVec 18) (ecc : Ecc)
  | beq (e : Fin 24) (ga gb : Fin 16) (off : BitVec 18)
  | bne (e : Fin 24) (ga gb : Fin 16) (off : BitVec 18)
  | blt (e : Fin 24) (ga gb : Fin 16) (off : BitVec 18)
  | bltu (e : Fin 24) (ga gb : Fin 16) (off : BitVec 18)
  | jal (e : Fin 24) (gd : Fin 16) (off : BitVec 22)
  | jr (e : Fin 24) (gd ga : Fin 16) (imm : BitVec 18)
  | csrr (e : Fin 24) (gd : Fin 16) (csr : BitVec 18)
  | csrw (e : Fin 24) (ga : Fin 16) (csr : BitVec 18)
  | wait (e : Fin 24)
  | retn (e : Fin 24)
  | retf (e : Fin 24)
  | ckpt (e : Fin 24)
  | fence (e : Fin 24)
  | trap (e : Fin 24) (cause : TrapCause)
  | illegalInstruction (e : Fin 24)
  | fastEntry (e : Fin 24)
  | normalEntry (e : Fin 24)
  | watchdog (e : Fin 24)
  | engineFault (e : Fin 24)
  | autoCkpt
  | lockstepMismatch
  | engLoad (h : Fin 32) (seq : Word) (eng : BitVec 8) (prog : List (BitVec 8)) (len : Word) (sig : ProgSig)
  | engStop (h : Fin 32) (seq : Word) (eng : BitVec 8)
  | engCtrlStart (p : Path) (e : Fin 24)
  | engCtrlStop (p : Path) (e : Fin 24)
  | mwDataAccess (p : Path) (value : Option Word)
  | domainRequest (p : Path) (page : Option (BitVec 14)) (req : BitVec 2)
  | domainTransition (d : Fin 232) (done : Bool)
  | domainTransitionTimeout (d : Fin 232)
  | wakeSource (src : Fin 6)
  | wakeTime
  | aonBrownout
  | warnTrip (rail : Fin 6) (mv : BitVec 16)
  | rideThroughEnd
  | resetTrip (rail : Fin 6) (mv : BitVec 16)
  | resetRelease (rail : Fin 6)
  | thermalTrip (sensor : Fin 64)
  | thermalRestart
  | clockPllLockLoss (pll : Fin 2)
  | xtalLost
  | xtalHoldExpiry
  | xtalReturn
  | x32kLost
  | toPll (p : Path)
  | pllSwitchDone
  | clkSwap (p : Path)
  | porstN
  | warmN
  | rstCmdWarm (p : Path) (key : BitVec 8)
  | imageVerified (img : FwImage)
  | bootWatchdog
  | startDone (us : Word)
  | generate (p : Path) (target : BitVec 8) (attr : BitVec 2) (exp : Bool)
  | derive (p : Path) (target source : BitVec 8) (attr : BitVec 2) (exp : Bool)
  | unwrap (p : Path) (target source : BitVec 8) (attr : BitVec 2) (exp : Bool)
  | wrap (p : Path) (target source : BitVec 8)
  | zero (p : Path) (target : BitVec 8)
  | random (p : Path)
  | drbgFail (reason : Fin 2)
  | drbgRestart (p : Path)
  | remask
  | rootGen (p : Path)
  | tamperTrip (src : Fin 8)
  | getVersion (h : Fin 32)
  | getCapabilities (h : Fin 32)
  | negotiateAlgorithms (h : Fin 32) (common : Bool)
  | getDigests (h : Fin 32) (chain : List (BitVec 8))
  | getCertificate (h : Fin 32) (slot : Fin 8) (off len : BitVec 16) (chain : List (BitVec 8))
  | challenge (h : Fin 32) (slot : Fin 8) (nonce : BitVec 256)
  | getMeasurements (h : Fin 32) (index : BitVec 8)
  | keyExchange (h : Fin 32) (slot : Fin 8) (nonce : BitVec 256)
  | finish (h : Fin 32) (macOk : Bool)
  | endSession (h : Fin 32)
  | keyProg (port : Fin 48) (sub : Fin 3) (rx : Bool) (set : Bool) (key : BitVec 256)
  | kSetGo (port : Fin 48) (sub : Fin 3) (rx : Bool) (set : Bool)
  | kSetStop (port : Fin 48) (sub : Fin 3) (rx : Bool) (set : Bool)
  | lcReq (src : LcFrom) (key : BitVec 8) (target : BitVec 3)
  | lcBlowDone
  | otpCmdGo (p : Path) (id : BitVec 8)
  | otpWriteDone (ok : Bool)
  | rstCmdShutdown (p : Path) (key : BitVec 8)
  | quiesceDone
  | bistProgramDone (elems : List ElemResult)
  | record
  | shutdownDone (ms : BitVec 16)
  | bistGo (p : Path) (prog : Fin 16)
  | avsMeasure (ppm : List (BitVec 20))
  | avsStep
  | avsAck
  | busReset (hs : Bool)
  | suspend
  | resume
  | remoteWake (reason : Fin 3)
  | downstreamAttach (n : Fin 16) (on : Bool)
  | regRead (addr : BitVec 32) (len : BitVec 16)
  | regWrite (addr : BitVec 32) (len : BitVec 16) (words : List Word) (done : Bool)
  | getView
  | setAddress (d : UsbDevice) (addr : BitVec 7) (done : Bool)
  | setConfiguration (d : UsbDevice) (cfg : BitVec 8) (done : Bool)
  | setFeature (d : UsbDevice) (f : UsbFeature) (done : Bool)
  | clearFeature (d : UsbDevice) (f : UsbFeature) (done : Bool)
  | ep1In
  | ep2Read
  | ep2Write
  | outToken (data : List (BitVec 8))
  | pingToken
  | recoveryImage (img : FwImage)
  | logIn (unsent : List (BitVec 8))
  | smbusSetPointer (offset : Word) (pecOk : Bool)
  | smbusRead (pecOk : Bool)
  | smbusWrite (value : Word) (pecOk : Bool)
  | alertResponse
  | heldCountRead (p : Path)
  | dlatMeasUpdate (port : Fin 48) (rtt : BitVec 16)
  | measurementSample (ports : List PortSample) (a b : FeedSample) (bus : BitVec 16)
  | vbatLow (mv : BitVec 16)
  | hotWarning (sensor : Fin 64)
  | serviceAttach (on : Bool)
  | targetError (init : BitVec 9) (seq : Word) (target : TargetLog)
  | hostFunctionRequest (h : Fin 32) (d : Fin 16) (tag : BitVec 16) (posted : Bool) (st : FnReq)
  | ptpMessageInterval (port : Fin 48) (m : PtpOut)
  | vatWake
  | atAxisFineSlot (slot : Fin 8)
deriving DecidableEq, Repr

end Sys2Proof
end

