-- ==== Sys2Proof/Decode.lean ====
section
/-! DEFINITION. The command that a table word spells. No row of spec/opcode_table.json gives bits: the commands are register accesses, messages,
events and timers, which no instruction word encodes. -/

namespace Sys2Proof

/-- No row of the table gives bits, so that no word spells a command. -/
def decodeTableWord (_nbits _w : Nat) : Option Instr := none

end Sys2Proof
end

