-- ==== Sys2Proof/Config.lean ====
section
/-! DEFINITION. What the spec leaves open: free values that nothing constrains (opaque constants with no body) and
the outcomes of the outside standards the spec names without their text (ciphers, hashes, key derivation). Each is named
in notes/assumptions. -/

namespace Sys2Proof.Config

/-- VEL when the two transitions it is formed from carry the same hub time: R67 divides by their distance. Log entry 11. -/
opaque velZeroSpan (dp : Int) : Int

/-- A value the spec leaves open, fresh for each count of the model's own counter. Log entry 3. -/
opaque free (n : Nat) : Nat

/-- The rank of the hub's own PTP data set for its priorities and clockIdentity, a lower number better: the Best Master Clock Algorithm is
IEEE 1588's (R57). Log entry 12. -/
opaque ptpOwnRank (priority1 priority2 clockIdentity : Nat) : Nat

/-- The increment the servo on EN23 writes for an offset from its reference, and whether it then counts as locked (R53,
R57): the spec gives no control law. Log entry 13. -/
opaque servoAdj (offset : Int) : Int
opaque servoLocked (offset : Int) : Bool

/-- The eight SECDED bits of a directory entry over its other 73 bits: the spec names the code, not its matrix (R143). Log
entry 14. -/
opaque dirEcc (bits : Nat) : Nat

/-- The magnitudes of c-1 and c+1 in 1/64 of a PCIe transmitter preset (R208): they are PCIe 7.0's. Log entry 15. -/
opaque pcieFfe (preset : Nat) : Nat × Nat

/-- Whether a quotient that is no integer is rounded up in composition (R337): the spec gives no rounding rule there. Log entry 21. -/
opaque roundUp (num den : Nat) : Bool

/-- AES-256-CMAC of a message under a key, as 128 bits: NIST SP 800-38B's, which R426 names without its text. Log entry 22. -/
opaque cmac (key : Nat) (msg : List (BitVec 8)) : Nat

/-- The 40 bytes of a 256-bit key wrapped under RFC 3394 (R424). Log entry 22. -/
opaque keyWrap (kek key : Nat) : List (BitVec 8)

/-- The key that a block unwraps to, as its length in bytes and its value, or none where its integrity check fails (RFC 3394 and
RFC 5649, R424). Log entry 22. -/
opaque keyUnwrap (kek : Nat) (block : List (BitVec 8)) : Option (Nat × Nat)

/-- Byte `i` of the keystream of AES-256-GCM under a key and a 12-byte IV, and the tag over AAD and ciphertext, its byte i in bits 8i to 8i + 7
(R251): NIST SP 800-38D's, which the spec names without its text. No key stands for an emptied slot. Log entry 22. -/
opaque gcmByte (key : Option Nat) (iv : List (BitVec 8)) (i : Nat) : BitVec 8
opaque gcmTag (key : Option Nat) (iv aad text : List (BitVec 8)) : BitVec 128

/-- SHA-384 of a message (R418, R430). Log entry 22. -/
opaque sha384 (msg : List (BitVec 8)) : Nat

/-- An ECDSA P-384 signature with a private scalar and a per-signature random value (R430). Log entry 22. -/
opaque sign (d : Nat) (msg : List (BitVec 8)) (k : Nat) : List (BitVec 8)

/-- The public value of an ECDHE exchange with a random scalar (R430). Log entry 22. -/
opaque ecdhPublic (k : Nat) : List (BitVec 8)

/-- TRIM_MV in the TRIM record (R453): R438 does not say which of its bits hold it. Log entry 25. -/
opaque trimMv (record : List Nat) : Nat

/-- EYE_MIN (R218): the least eye width in 1/64 UI that lets a lane be READY at a PAM4 rate. The spec names it and gives no value. Log entry
67. -/
opaque eyeMin : Nat

end Sys2Proof.Config
end

