-- ==== Sys2Proof/Machine/RegMap.lean ====
section
/-! DEFINITION. The register map of the management space (R1-R5, R20, R21, R482 and every page template of the
spec): the page templates with their registers and fields, written from the field tables' columns Bits, Field,
Access, Reset and Takes effect, and, for a value the Meaning column restricts, the values it admits. -/

namespace Sys2Proof.Machine

/-- The access codes of R1 (a reserved field, RSV, is a gap between the fields of a register). -/
inductive Acc where
  | rw | ro | w1c | w1s | wo | rwl
deriving DecidableEq, Repr

/-- The takes-effect codes of R4; `none` is the dash of a read-only field. -/
inductive Takes where
  | now | commit | refill | frame | epoch | link | ring | boot | none
deriving DecidableEq, Repr

/-- The form a Meaning requires of a written value (R482): a write that breaks it is refused as BAD_VALUE. -/
inductive Chk where
  | any
  | range (lo hi : Nat)
  | oneOf (l : List Nat)
  | notIn (l : List Nat)
  | mult (m : Nat)
  /-- Zero-like value `z`, or a value from `lo` to `hi`. -/
  | zeroOr (lo hi z : Nat)
  /-- A two's complement value of `w` bits whose magnitude is at most `m`. -/
  | srange (w m : Nat)
deriving DecidableEq, Repr

/-- Does the written value have the form its Meaning requires? -/
def Chk.admits : Chk → Nat → Bool
  | .any, _ => true
  | .range lo hi, v => decide (lo ≤ v) && decide (v ≤ hi)
  | .oneOf l, v => l.contains v
  | .notIn l, v => !l.contains v
  | .mult m, v => v % m == 0
  | .zeroOr lo hi z, v => v == z || (decide (lo ≤ v) && decide (v ≤ hi))
  | .srange w m, v => decide (v ≤ m) || (decide (2 ^ w - m ≤ v) && decide (v < 2 ^ w))

/-- The select that a window register is reached through (R24, R116, R230): its data registers exist once for
each value of the select. -/
inductive Win where
  | evSel
  | setSel
  | qsel
  | shSel
  | lsel
  | chSel
  | statSel
  | lensHost
  | lensWin
  | colSel
  | maskSel
  | rtSel
  | plSel
  | ksSel
  | domSel
  | repSel
  | ageSel
  | bistSel
  | lwMacro
  | lwLane
  | lwStep
  | otpSel
deriving DecidableEq, Repr

/-- Where the copies of a register stand: one for all, one per path (R24), or one per value of a window select. -/
inductive Bank where
  | plain
  | perPath
  | win (w : Win)
deriving DecidableEq, Repr

/-- One row of a field table. -/
structure FieldSpec where
  lo    : Nat
  width : Nat
  acc   : Acc
  reset : Nat
  takes : Takes
  chk   : Chk
deriving DecidableEq, Repr

/-- One register of a page template: its offset in the page, how many copies stand `stride` bytes apart, whether it is
marked (saved), how it is banked, and its fields. -/
structure RegSpec where
  off    : Nat
  count  : Nat
  stride : Nat
  saved  : Bool
  bank   : Bank
  fields : List FieldSpec
deriving DecidableEq, Repr

/-- The page templates of the spec. -/
inductive PageKind where
  | global0
  | global1
  | global2
  | time0
  | time1
  | time2
  | time3
  | axis
  | event0
  | event1
  | event2
  | sched0
  | sched1
  | sched2
  | sched3
  | sched4
  | sched5
  | mailbox
  | target
  | hport0
  | hport1
  | mport
  | dport0
  | dport1
  | dport2
  | dport3
  | dport4
  | dport5
  | switch0
  | switch1
  | switch2
  | switch3
  | dir0
  | dir1
  | dir2
  | dir3
  | dir4
  | cream
  | guard0
  | guard1
  | guard2
  | guard3
  | scanout
  | bridge0
  | bridge1
  | bridge2
  | bridge3
  | bridge4
  | bridge5
  | engine0
  | engine1
  | engpage
  | key0
  | key1
  | key2
  | power0
  | power1
  | power2
  | power3
  | power4
  | power8
  | repair0
  | repair1
  | repair2
  | bist16
  | lane32
  | otp48
  | svcusb
deriving DecidableEq, Repr

/-- A register field by name: its bank number (0 for a plain register, 1 + the path's index or 1 + the value of the
select otherwise), its offset in the management space, its bits and its Reset value. -/
structure Fld where
  bank  : Nat
  addr  : Nat
  lo    : Nat
  width : Nat
  reset : Nat
deriving DecidableEq, Repr

/-- The number a field is stored under. -/
def Fld.key (f : Fld) : Nat := (f.bank * 0x4000000 + f.addr) * 32 + f.lo

/-- The pages of one template: where they lie and what their headers read (R20, R21). -/
structure PageSpec where
  kind   : PageKind
  base   : Nat
  stride : Nat
  count  : Nat
  block  : Nat
  page   : Nat
  /-- The page number rises with the instance. -/
  pageN  : Bool
  fast   : Nat
deriving DecidableEq, Repr

/-- QCFG_q.EC at reset, per port (chapter 5, page 1). -/
def resetEc (port : Nat) : Nat := if port < 32 then 1 else if port < 48 then 2 else if port < 64 then 3 else 0

/-- COST_c at reset (chapter 5, page 4). -/
def resetCost (c : Nat) : Nat := [32, 128, 128, 96, 64, 64, 64, 64].getD c 64

/-- RMASKk and WMASKk at reset (chapter 7, page 2): bit 0 of mask 0 of initiators 0-33. -/
def resetMask (init k : Nat) : Nat := if k = 0 ∧ init ≤ 33 then 1 else 0

def fs (lo width : Nat) (acc : Acc) (reset : Nat) (takes : Takes := .now) (chk : Chk := .any) : FieldSpec :=
  ⟨lo, width, acc, reset, takes, chk⟩

def rg (off count stride : Nat) (saved : Bool) (bank : Bank) (fields : List FieldSpec) : RegSpec :=
  ⟨off, count, stride, saved, bank, fields⟩

/-- Registers of page template GLOBAL0 (18_power_clocks_start.md). -/
def regsGlobal0 : List RegSpec := [
  rg 0x40 1 0 false .plain [fs 16 16 .ro 0x4832 .none, fs 8 8 .ro 160 .none, fs 0 8 .ro 1 .none],
  rg 0x44 1 0 false .plain [fs 0 32 .ro 0 .none],
  rg 0x48 1 0 false .plain [fs 0 32 .ro 0 .none],
  rg 0x4c 1 0 false .plain [fs 8 8 .ro 0 .none, fs 0 4 .ro 0 .none],
  rg 0x50 1 0 false .plain [fs 8 8 .wo 0, fs 1 1 .wo 0, fs 0 1 .wo 0],
  rg 0x54 1 0 false .plain [fs 8 1 .ro 0 .none, fs 0 3 .ro 0 .none],
  rg 0x58 1 0 false .plain [fs 0 32 .ro 0 .none],
  rg 0x5c 1 0 true .plain [fs 8 8 .rw 2 .boot (.range 1 60), fs 1 1 .rw 1 .boot, fs 0 1 .rw 0 .boot],
  rg 0x60 1 0 false .plain [fs 0 32 .ro 0 .none]]

/-- Registers of page template GLOBAL1 (19_keys_lifecycle.md). -/
def regsGlobal1 : List RegSpec := [
  rg 0x40 1 0 false .plain [fs 8 3 .ro 0 .none, fs 4 1 .ro 0 .none, fs 0 3 .ro 0 .none],
  rg 0x44 1 0 false .plain [fs 8 8 .wo 0, fs 0 3 .wo 0],
  rg 0x48 1 0 false .plain [fs 0 8 .ro 0 .none],
  rg 0x4c 1 0 false .plain [fs 0 2 .ro 0 .none]]

/-- Registers of page template GLOBAL2 (02_management_space.md). -/
def regsGlobal2 : List RegSpec := [
  rg 0x40 1 0 false .plain [fs 0 16 .ro 0 .none],
  rg 0x44 1 0 false .perPath [fs 0 16 .rw 0],
  rg 0x48 1 0 false .perPath [fs 0 32 .rw 0],
  rg 0x4c 1 0 false .perPath [fs 0 32 .rw 0],
  rg 0x50 1 0 false .plain [fs 24 3 .wo 0, fs 23 1 .wo 0, fs 20 3 .wo 0, fs 16 4 .wo 0, fs 12 4 .wo 0, fs 0 3 .wo 0],
  rg 0x54 1 0 false .plain [fs 12 4 .wo 0, fs 0 3 .wo 0],
  rg 0x58 1 0 true .plain [fs 0 32 .ro 0 .none],
  rg 0x5c 1 0 true .plain [fs 0 16 .rw 100],
  rg 0x60 1 0 true .plain [fs 0 8 .rw 255 .now (.zeroOr 0 31 255)],
  rg 0x64 1 0 false .plain [fs 0 32 .ro 0 .none],
  rg 0x68 1 0 false .plain [fs 8 4 .ro 0 .none, fs 0 8 .ro 255 .none],
  rg 0x6c 1 0 false .plain [fs 0 26 .ro 0 .none],
  rg 0x70 1 0 false .plain [fs 0 32 .ro 0 .none],
  rg 0x74 1 0 false .plain [fs 0 32 .ro 0 .none],
  rg 0x80 8 4 false .plain [fs 16 13 .ro 0 .none, fs 8 8 .ro 255 .none, fs 4 4 .ro 0 .none, fs 3 1 .ro 0 .none, fs 0 3 .ro 0 .none],
  rg 0xa0 8 4 false .plain [fs 8 24 .ro 0 .none, fs 4 4 .ro 0 .none, fs 0 4 .ro 0 .none],
  rg 0xc0 6 4 false .plain [fs 0 32 .ro 0 .none]]

/-- Registers of page template TIME0 (03_timebases.md). -/
def regsTime0 : List RegSpec := [
  rg 0x40 1 0 true .plain [fs 2 2 .rw 0, fs 0 2 .rw 0],
  rg 0x44 1 0 true .plain [fs 0 32 .rw 0],
  rg 0x48 1 0 false .plain [fs 0 32 .ro 0 .none],
  rg 0x4c 1 0 false .plain [fs 0 32 .ro 0 .none],
  rg 0x50 1 0 false .plain [fs 0 32 .ro 0 .none],
  rg 0x54 1 0 false .plain [fs 0 32 .rw 0],
  rg 0x58 1 0 false .plain [fs 0 32 .rw 0],
  rg 0x5c 1 0 false .plain [fs 0 1 .w1s 0],
  rg 0x60 1 0 true .plain [fs 0 11 .rw 0x1f4 .now (.range 1 1000)],
  rg 0x64 1 0 false .plain [fs 8 6 .ro 63 .none, fs 4 1 .ro 0 .none, fs 2 2 .ro 0 .none, fs 1 1 .w1c 0, fs 0 1 .ro 0 .none],
  rg 0x68 1 0 false .plain [fs 0 32 .ro 0 .none],
  rg 0x6c 1 0 false .plain [fs 0 32 .ro 0 .none],
  rg 0x70 1 0 false .plain [fs 0 32 .ro 0 .none],
  rg 0x74 1 0 true .plain [fs 24 8 .rw 128, fs 16 8 .rw 128, fs 8 8 .rw 0 .now (.range 0 127), fs 2 1 .rw 0, fs 0 2 .rw 0],
  rg 0x78 1 0 true .plain [fs 0 16 .rw 0],
  rg 0x7c 1 0 true .plain [fs 0 32 .rw 0]]

/-- Registers of page template TIME1 (03_timebases.md). -/
def regsTime1 : List RegSpec := [
  rg 0x40 64 8 true .plain [fs 0 32 .rw 0],
  rg 0x44 64 8 true .plain [fs 0 32 .rw 0],
  rg 0x240 36 4 true .plain [fs 0 32 .rw 0]]

/-- Registers of page template TIME2 (03_timebases.md). -/
def regsTime2 : List RegSpec := [
  rg 0x40 16 32 true .plain [fs 11 1 .w1s 0, fs 10 1 .w1s 0, fs 8 1 .rw 0, fs 7 1 .rw 0, fs 4 3 .rw 0, fs 3 1 .rw 0, fs 0 3 .rw 0],
  rg 0x44 16 32 true .plain [fs 0 24 .rw 1 .now (.range 1 16777215)],
  rg 0x48 16 32 true .plain [fs 0 32 .rw 0],
  rg 0x4c 16 32 true .plain [fs 0 32 .rw 0],
  rg 0x50 16 32 true .plain [fs 0 32 .rw 0],
  rg 0x54 16 32 true .plain [fs 0 32 .rw 0],
  rg 0x58 16 32 true .plain [fs 0 32 .rw 0],
  rg 0x5c 16 32 false .plain [fs 16 16 .ro 0 .none, fs 2 1 .ro 0 .none, fs 1 1 .ro 0 .none, fs 0 1 .ro 0 .none]]

/-- Registers of page template TIME3 (03_timebases.md). -/
def regsTime3 : List RegSpec := [
  rg 0x40 16 32 true .plain [fs 12 8 .rw 0, fs 7 1 .rw 0, fs 4 3 .rw 0, fs 1 2 .rw 1 .now (.notIn [0]), fs 0 1 .rw 0],
  rg 0x44 16 32 false .plain [fs 0 32 .ro 0 .none],
  rg 0x48 16 32 false .plain [fs 0 32 .ro 0 .none],
  rg 0x4c 16 32 false .plain [fs 0 32 .ro 0 .none],
  rg 0x50 16 32 false .plain [fs 0 32 .ro 0 .none],
  rg 0x54 16 32 false .plain [fs 16 16 .ro 0 .none, fs 8 1 .ro 0 .none, fs 0 5 .ro 0 .none],
  rg 0x58 16 32 false .plain [fs 0 1 .wo 0],
  rg 0x240 4 16 true .plain [fs 16 1 .ro 0 .none, fs 8 8 .rw 0, fs 1 1 .rw 0, fs 0 1 .rw 0],
  rg 0x244 4 16 false .plain [fs 0 32 .ro 0 .none],
  rg 0x248 4 16 false .plain [fs 0 32 .ro 0 .none],
  rg 0x24c 4 16 false .plain [fs 0 32 .ro 0 .none]]

/-- Registers of page template AXIS (03_timebases.md). -/
def regsAxis : List RegSpec := [
  rg 0x40 1 0 true .plain [fs 16 4 .rw 0, fs 8 2 .rw 0 .now (.notIn [3]), fs 5 2 .rw 0, fs 4 1 .rw 0, fs 2 2 .rw 0 .now (.notIn [3]), fs 0 2 .rw 0 .now (.range 0 1)],
  rg 0x44 1 0 true .plain [fs 0 32 .rw 0],
  rg 0x48 1 0 true .plain [fs 0 32 .rw 1],
  rg 0x4c 1 0 true .plain [fs 0 32 .rw 0],
  rg 0x50 1 0 true .plain [fs 0 32 .rw 0],
  rg 0x54 1 0 false .plain [fs 0 32 .ro 0 .none],
  rg 0x58 1 0 false .plain [fs 0 32 .ro 0 .none],
  rg 0x5c 1 0 false .plain [fs 0 32 .ro 0 .none],
  rg 0x60 1 0 false .plain [fs 0 32 .ro 0 .none],
  rg 0x64 1 0 false .plain [fs 0 32 .ro 0 .none],
  rg 0x68 1 0 true .plain [fs 0 16 .rw 100 .now (.range 1 1000)],
  rg 0x6c 1 0 true .plain [fs 0 24 .rw 0x2710 .now (.range 1 16777215)],
  rg 0x70 1 0 true .plain [fs 0 16 .rw 0x4e20],
  rg 0x74 1 0 false .plain [fs 8 3 .ro 0 .none, fs 7 1 .w1c 0, fs 6 1 .ro 0 .none, fs 5 1 .w1c 0, fs 4 1 .ro 0 .none, fs 3 1 .ro 0 .none, fs 2 1 .ro 1 .none, fs 1 1 .ro 0 .none, fs 0 1 .ro 0 .none],
  rg 0x78 1 0 false .plain [fs 1 1 .w1s 0, fs 0 1 .w1s 0],
  rg 0x7c 1 0 true .plain [fs 0 32 .rw 0],
  rg 0x80 1 0 true .plain [fs 0 32 .rw 0],
  rg 0x84 1 0 false .plain [fs 0 32 .ro 0 .none],
  rg 0x88 1 0 false .plain [fs 0 32 .ro 0 .none],
  rg 0x8c 1 0 false .plain [fs 0 32 .wo 0],
  rg 0x90 1 0 false .plain [fs 0 32 .ro 0 .none],
  rg 0x94 1 0 false .plain [fs 0 32 .ro 0 .none],
  rg 0x98 1 0 false .plain [fs 0 32 .ro 0 .none],
  rg 0x9c 1 0 false .plain [fs 0 32 .ro 0 .none]]

/-- Registers of page template EVENT0 (16_events.md). -/
def regsEvent0 : List RegSpec := [
  rg 0x40 1 0 true .plain [fs 0 1 .rw 1],
  rg 0x44 1 0 false .plain [fs 0 32 .ro 0 .none],
  rg 0x48 1 0 false .plain [fs 0 32 .ro 0 .none],
  rg 0x60 5 4 true .plain [fs 20 1 .ro 0 .none, fs 16 2 .rw 1 .now (.notIn [0]), fs 0 12 .rw 25 .now (.notIn [0])]]

/-- Registers of page template EVENT1 (16_events.md). -/
def regsEvent1 : List RegSpec := [
  rg 0x40 1 0 false .perPath [fs 0 12 .rw 0],
  rg 0x44 1 0 false (.win .evSel) [fs 0 6 .rw 0],
  rg 0x48 1 0 false (.win .evSel) [fs 0 32 .ro 0 .none],
  rg 0x4c 1 0 false (.win .evSel) [fs 16 1 .ro 0 .none, fs 8 7 .ro 127 .none, fs 0 3 .ro 0 .none]]

/-- Registers of page template EVENT2 (16_events.md). -/
def regsEvent2 : List RegSpec := [
  rg 0x40 1 0 false .perPath [fs 0 6 .rw 0],
  rg 0x44 1 0 false (.win .setSel) [fs 0 32 .rw 0],
  rg 0x48 1 0 false (.win .setSel) [fs 0 25 .rw 0],
  rg 0x4c 1 0 false (.win .setSel) [fs 0 6 .ro 0 .none]]

/-- Registers of page template SCHED0 (05_scheduling_energy.md). -/
def regsSched0 : List RegSpec := [
  rg 0x40 1 0 true .plain [fs 16 2 .rw 0, fs 0 1 .rw 1 .refill],
  rg 0x44 1 0 false .plain [fs 0 32 .ro 0 .none],
  rg 0x48 1 0 false .plain [fs 0 32 .ro 0 .none],
  rg 0x4c 1 0 false .plain [fs 0 32 .ro 0 .none],
  rg 0x50 1 0 false .plain [fs 0 18 .ro 0 .none],
  rg 0x54 1 0 false .plain [fs 31 1 .w1s 0, fs 0 18 .ro 0 .none],
  rg 0x58 1 0 false .plain [fs 0 18 .ro 0 .none],
  rg 0x60 8 4 true .plain [fs 0 32 .rw 0x10000 .now (.notIn [0])],
  rg 0x80 8 4 false .plain [fs 16 10 .ro 0 .none, fs 0 16 .ro 0 .none]]

/-- Registers of page template SCHED1 (05_scheduling_energy.md). -/
def regsSched1 : List RegSpec := [
  rg 0x40 1 0 false .perPath [fs 0 7 .rw 0 .now (.range 0 71)],
  rg 0x80 16 4 false (.win .qsel) [fs 31 1 .rw 0, fs 16 12 .rw 0, fs 12 3 .rw 0 .refill, fs 0 12 .rw 16 .refill],
  rg 0xc0 16 4 false (.win .qsel) [fs 0 20 .ro 0 .none],
  rg 0x100 16 4 false (.win .qsel) [fs 16 12 .ro 0 .none, fs 0 13 .ro 0 .none]]

/-- Registers of page template SCHED2 (05_scheduling_energy.md). -/
def regsSched2 : List RegSpec := [
  rg 0x40 1 0 false .perPath [fs 0 12 .rw 0],
  rg 0x44 1 0 false (.win .shSel) [fs 31 1 .rw 0, fs 28 1 .rw 0 .refill, fs 16 12 .rw 0 .refill],
  rg 0x48 1 0 false (.win .shSel) [fs 0 24 .rw 0x400 .refill (.notIn [0])],
  rg 0x4c 1 0 false (.win .shSel) [fs 0 24 .rw 0x100 .refill (.notIn [0])],
  rg 0x50 1 0 false (.win .shSel) [fs 0 24 .rw 0x1000 .refill (.range 256 16777215)],
  rg 0x54 1 0 false (.win .shSel) [fs 0 32 .ro 0 .none],
  rg 0x58 1 0 false (.win .shSel) [fs 1 1 .ro 0 .none, fs 0 1 .ro 0 .none]]

/-- Registers of page template SCHED3 (05_scheduling_energy.md). -/
def regsSched3 : List RegSpec := [
  rg 0x40 64 4 true .plain [fs 0 32 .rw 0],
  rg 0x140 64 4 false .plain [fs 0 20 .ro 0 .none],
  rg 0x240 1 0 true .plain [fs 0 32 .rw 0],
  rg 0x244 1 0 true .plain [fs 0 32 .rw 0]]

/-- Registers of page template SCHED4 (05_scheduling_energy.md). -/
def regsSched4 : List RegSpec := [
  rg 0x40 1 0 true .plain [fs 16 8 .rw 25 .now (.range 5 100), fs 8 8 .rw 50 .now (.range 0 200), fs 2 1 .rw 1, fs 1 1 .rw 0, fs 0 1 .rw 1],
  rg 0x44 1 0 true .plain [fs 0 8 .rw 105 .now (.range 60 110)],
  rg 0x48 1 0 true .plain [fs 0 10 .rw 0x109],
  rg 0x4c 1 0 true .plain [fs 0 16 .rw 0],
  rg 0x50 1 0 true .plain [fs 0 16 .rw 0],
  rg 0x54 1 0 true .plain [fs 0 16 .rw 0],
  rg 0x58 1 0 false .plain [fs 24 8 .ro 0 .none, fs 16 4 .ro 0 .none, fs 8 3 .rw 6 .now (.range 0 6), fs 0 3 .ro 0 .none],
  rg 0x5c 1 0 false .plain [fs 24 8 .ro 0 .none, fs 16 8 .ro 0 .none, fs 8 8 .ro 0 .none, fs 0 8 .ro 0 .none],
  rg 0x60 1 0 false .plain [fs 8 6 .ro 0 .none, fs 0 8 .ro 0 .none],
  rg 0x64 1 0 false .plain [fs 0 20 .ro 0 .none],
  rg 0x68 1 0 false .plain [fs 0 20 .ro 0 .none],
  rg 0x6c 1 0 false .plain [fs 0 32 .ro 0 .none],
  rg 0x70 1 0 true .plain [fs 0 16 .rw 0],
  rg 0x74 1 0 true .plain [fs 0 16 .rw 0],
  rg 0x80 8 4 true .plain [fs 0 8 .rw 0 .refill]]

/-- Registers of page template SCHED5 (05_scheduling_energy.md). -/
def regsSched5 : List RegSpec := [
  rg 0x40 1 0 false .perPath [fs 0 6 .rw 0],
  rg 0x44 1 0 false (.win .lsel) [fs 0 24 .rw 0xffffff],
  rg 0x48 1 0 false (.win .lsel) [fs 0 24 .ro 0xffffff .none],
  rg 0x4c 1 0 false (.win .lsel) [fs 0 32 .ro 0xffffffff .none],
  rg 0x50 1 0 false (.win .lsel) [fs 0 16 .rw 0x7d0],
  rg 0x54 1 0 false (.win .lsel) [fs 16 1 .ro 0 .none, fs 8 3 .ro 0 .none, fs 0 3 .ro 0 .none]]

/-- Registers of page template MAILBOX (02_management_space.md). -/
def regsMailbox : List RegSpec := [
  rg 0x40 1 0 true .plain [fs 2 1 .w1s 0, fs 1 1 .rw 0, fs 0 1 .rw 0],
  rg 0x44 1 0 true .plain [fs 0 32 .rw 0 .ring],
  rg 0x48 1 0 true .plain [fs 0 32 .rw 0 .ring],
  rg 0x4c 1 0 true .plain [fs 0 5 .rw 6 .ring (.range 6 16)],
  rg 0x50 1 0 true .plain [fs 0 32 .rw 0 .ring],
  rg 0x54 1 0 true .plain [fs 0 32 .rw 0 .ring],
  rg 0x58 1 0 true .plain [fs 0 5 .rw 6 .ring (.range 6 16)],
  rg 0x5c 1 0 false .plain [fs 0 32 .rw 0],
  rg 0x60 1 0 false .plain [fs 0 32 .ro 0xffffffff .none],
  rg 0x64 1 0 false .plain [fs 1 1 .ro 0 .none, fs 0 1 .ro 0 .none],
  rg 0x68 1 0 false .plain [fs 0 32 .rw 0],
  rg 0x6c 1 0 false .plain [fs 0 32 .ro 0 .none],
  rg 0x70 1 0 false .plain [fs 0 32 .ro 0 .none],
  rg 0x74 1 0 false .plain [fs 0 32 .ro 0 .none],
  rg 0x78 1 0 false .plain [fs 0 1 .wo 0],
  rg 0x7c 1 0 false .plain [fs 0 32 .ro 0 .none],
  rg 0x80 1 0 false .plain [fs 0 32 .ro 0 .none],
  rg 0x84 1 0 false .plain [fs 0 32 .ro 0 .none],
  rg 0x88 1 0 false .plain [fs 0 1 .ro 0 .none]]

/-- Registers of page template TARGET (16_events.md). -/
def regsTarget : List RegSpec := [
  rg 0x40 1 0 true .plain [fs 16 6 .rw 1, fs 8 6 .rw 0, fs 1 1 .rw 1, fs 0 1 .rw 0],
  rg 0x44 1 0 true .plain [fs 24 4 .rw 6 .now (.range 4 10), fs 0 18 .rw 0 .now (.mult 32)],
  rg 0x48 1 0 false .plain [fs 0 10 .ro 0 .none],
  rg 0x4c 1 0 false .plain [fs 0 10 .rw 0],
  rg 0x50 1 0 false .plain [fs 31 1 .ro 0 .none, fs 0 12 .ro 0 .none],
  rg 0x54 1 0 false .plain [fs 0 12 .wo 0],
  rg 0x58 1 0 false .plain [fs 31 1 .ro 0 .none, fs 0 12 .ro 0 .none],
  rg 0x5c 1 0 false .plain [fs 0 12 .wo 0],
  rg 0x60 1 0 false .plain [fs 16 13 .ro 0 .none, fs 14 1 .ro 0 .none, fs 0 13 .ro 0 .none],
  rg 0x64 1 0 false .plain [fs 0 32 .ro 0 .none],
  rg 0x68 1 0 false .plain [fs 0 32 .ro 0 .none]]

/-- Registers of page template HPORT0 (08_host_memory_ports.md). -/
def regsHport0 : List RegSpec := [
  rg 0x40 1 0 true .plain [fs 13 1 .rw 1, fs 12 1 .rw 1, fs 8 3 .rw 4 .link (.oneOf [1, 2, 4]), fs 4 4 .rw 7 .link (.range 1 7), fs 1 1 .w1s 0, fs 0 1 .rw 1],
  rg 0x44 1 0 false .plain [fs 16 5 .ro 0 .none, fs 12 3 .ro 0 .none, fs 8 3 .ro 0 .none, fs 4 4 .ro 0 .none, fs 3 1 .ro 0 .none, fs 0 2 .ro 0 .none],
  rg 0x48 1 0 false .plain [fs 0 16 .ro 0 .none],
  rg 0x4c 1 0 false .plain [fs 0 32 .rw 0],
  rg 0x50 1 0 false .plain [fs 0 32 .ro 0 .none],
  rg 0x54 1 0 false .plain [fs 0 32 .ro 0 .none],
  rg 0x58 1 0 false .plain [fs 0 32 .ro 0 .none],
  rg 0x5c 1 0 true .plain [fs 8 8 .rw 10 .now (.range 1 255), fs 0 1 .rw 0],
  rg 0x60 1 0 false .plain [fs 0 32 .ro 0 .none],
  rg 0x64 1 0 false .plain [fs 0 32 .ro 0 .none],
  rg 0x68 1 0 false .plain [fs 0 32 .ro 0 .none],
  rg 0x6c 1 0 false .plain [fs 0 32 .ro 0 .none]]

/-- Registers of page template HPORT1 (08_host_memory_ports.md). -/
def regsHport1 : List RegSpec := [
  rg 0x40 16 32 false .plain [fs 16 2 .ro 0 .none, fs 8 4 .ro 0 .none, fs 0 8 .ro 0 .none],
  rg 0x44 16 32 false .plain [fs 16 7 .ro 0 .none, fs 0 16 .ro 0 .none],
  rg 0x48 16 32 false .plain [fs 0 24 .ro 0 .none],
  rg 0x4c 16 32 false .plain [fs 0 24 .ro 0 .none],
  rg 0x50 16 32 false .plain [fs 0 24 .ro 0 .none],
  rg 0x54 16 32 false .plain [fs 0 32 .ro 0 .none],
  rg 0x240 1 0 true .plain [fs 0 16 .rw 0x1388 .now (.notIn [0])]]

/-- Registers of page template MPORT (08_host_memory_ports.md). -/
def regsMport : List RegSpec := [
  rg 0x40 1 0 true .plain [fs 13 1 .rw 1, fs 12 1 .rw 1, fs 8 4 .rw 8 .link (.oneOf [1, 2, 4, 8]), fs 4 4 .rw 7 .link (.range 1 7), fs 2 1 .w1s 0, fs 0 2 .rw 0 .link (.notIn [3])],
  rg 0x44 1 0 false .plain [fs 16 1 .ro 0 .none, fs 12 3 .ro 0 .none, fs 8 4 .ro 0 .none, fs 4 4 .ro 0 .none, fs 3 1 .ro 0 .none, fs 0 2 .ro 0 .none],
  rg 0x48 1 0 false .plain [fs 0 12 .ro 0 .none],
  rg 0x4c 1 0 true .plain [fs 16 8 .rw 1 .now (.range 1 255), fs 0 16 .rw 10 .now (.range 1 1000)],
  rg 0x50 1 0 false .plain [fs 0 32 .ro 0 .none],
  rg 0x54 1 0 false .plain [fs 16 13 .ro 0 .none, fs 0 13 .ro 0 .none],
  rg 0x58 1 0 false .plain [fs 0 32 .ro 0 .none],
  rg 0x5c 1 0 false .plain [fs 0 32 .ro 0 .none],
  rg 0x60 1 0 false .plain [fs 0 32 .ro 0 .none],
  rg 0x64 1 0 false .plain [fs 0 16 .ro 0 .none],
  rg 0x68 1 0 false .plain [fs 0 32 .ro 0 .none]]

/-- Registers of page template DPORT0 (09_lanes.md). -/
def regsDport0 : List RegSpec := [
  rg 0x40 1 0 true .plain [fs 4 2 .rw 3 .link (.notIn [0]), fs 0 2 .rw 3 .link],
  rg 0x44 1 0 true .plain [fs 24 8 .rw 5 .now (.notIn [0]), fs 16 8 .rw 10 .now (.notIn [0]), fs 0 16 .rw 50 .now (.notIn [0])],
  rg 0x48 1 0 false .plain [fs 24 4 .ro 0 .none, fs 20 2 .ro 0 .none, fs 16 2 .ro 0 .none, fs 12 1 .ro 0 .none, fs 8 2 .ro 0 .none, fs 4 2 .ro 3 .none, fs 0 2 .ro 0 .none],
  rg 0x4c 1 0 false .plain [fs 0 32 .ro 0 .none],
  rg 0x50 1 0 false .plain [fs 0 32 .ro 0 .none],
  rg 0x54 1 0 false .plain [fs 16 9 .ro 0 .none, fs 0 9 .ro 0 .none],
  rg 0x58 1 0 false .plain [fs 0 16 .ro 0 .none],
  rg 0x5c 1 0 false .plain [fs 16 8 .ro 0 .none, fs 0 8 .ro 0 .none],
  rg 0x60 1 0 false .plain [fs 8 1 .w1s 0, fs 1 1 .w1s 0, fs 0 1 .w1s 0],
  rg 0x64 1 0 false .plain [fs 0 32 .ro 0 .none],
  rg 0x68 1 0 false .plain [fs 0 32 .ro 0 .none],
  rg 0x6c 1 0 false .plain [fs 0 32 .ro 0 .none]]

/-- Registers of page template DPORT1 (10_tunnel_link.md). -/
def regsDport1 : List RegSpec := [
  rg 0x40 1 0 true .plain [fs 16 8 .rw 32 .now (.range 8 255), fs 8 4 .rw 7 .now (.notIn [0]), fs 4 1 .rw 1, fs 0 1 .rw 0],
  rg 0x44 1 0 true .plain [fs 16 16 .rw 0x5dc .now (.range 100 65535), fs 0 16 .rw 0x7d0 .now (.range 500 65535)],
  rg 0x48 1 0 true .plain [fs 24 8 .rw 32 .now (.notIn [0]), fs 16 5 .rw 20 .now (.range 10 24), fs 8 8 .rw 4 .now (.notIn [0]), fs 0 4 .rw 4 .now (.notIn [0])],
  rg 0x4c 1 0 true .plain [fs 8 8 .rw 0, fs 0 8 .rw 0],
  rg 0x50 1 0 true .plain [fs 0 32 .rw 0],
  rg 0x54 1 0 true .plain [fs 0 32 .rw 0],
  rg 0x58 1 0 true .plain [fs 16 9 .rw 128, fs 0 9 .rw 128],
  rg 0x5c 1 0 true .plain [fs 16 9 .rw 128, fs 0 9 .rw 0x100],
  rg 0x60 1 0 true .plain [fs 0 9 .rw 16],
  rg 0x64 1 0 false .plain [fs 8 2 .wo 0, fs 4 2 .wo 0, fs 1 1 .w1s 0, fs 0 1 .w1s 0],
  rg 0x68 1 0 false .plain [fs 28 4 .ro 0 .none, fs 16 9 .ro 0 .none, fs 12 1 .ro 0 .none, fs 11 1 .ro 0 .none, fs 0 3 .ro 0 .none],
  rg 0x6c 1 0 false .plain [fs 16 12 .ro 0 .none, fs 0 12 .ro 0 .none],
  rg 0x70 1 0 false .plain [fs 16 12 .ro 0xfff .none, fs 0 12 .ro 0xfff .none],
  rg 0x74 1 0 false .plain [fs 16 9 .ro 0 .none, fs 0 9 .ro 0 .none],
  rg 0x78 1 0 false .plain [fs 16 9 .ro 0 .none, fs 0 9 .ro 0 .none],
  rg 0x7c 1 0 false .plain [fs 0 9 .ro 0 .none],
  rg 0x80 1 0 false .plain [fs 0 32 .ro 0 .none],
  rg 0x84 1 0 false .plain [fs 0 32 .ro 0 .none],
  rg 0x88 1 0 false .plain [fs 0 32 .ro 0 .none],
  rg 0x8c 1 0 false .plain [fs 0 32 .ro 0 .none],
  rg 0x90 1 0 false .plain [fs 0 20 .ro 0 .none],
  rg 0x94 1 0 false .plain [fs 0 20 .ro 0 .none],
  rg 0x98 1 0 false .plain [fs 0 32 .ro 0 .none],
  rg 0x9c 1 0 false .plain [fs 0 32 .ro 0 .none],
  rg 0xa0 1 0 false .plain [fs 0 32 .ro 0 .none],
  rg 0xa4 1 0 false .plain [fs 0 32 .ro 0 .none],
  rg 0xa8 1 0 false .plain [fs 0 32 .ro 0 .none],
  rg 0xac 1 0 false .plain [fs 0 32 .ro 0 .none],
  rg 0xb0 1 0 false .plain [fs 0 32 .ro 0 .none],
  rg 0xb4 1 0 false .plain [fs 0 32 .ro 0 .none],
  rg 0xb8 1 0 false .plain [fs 0 32 .ro 0 .none],
  rg 0xbc 1 0 false .plain [fs 0 32 .ro 0 .none]]

/-- Registers of page template DPORT2 (11_tunnel_classes.md). -/
def regsDport2 : List RegSpec := [
  rg 0x40 1 0 true .plain [fs 4 1 .rw 1, fs 0 4 .rw 3 .now (.range 2 15)],
  rg 0x44 1 0 true .plain [fs 16 4 .rw 0 .now (.notIn [1]), fs 12 4 .rw 3 .now (.notIn [1]), fs 8 4 .rw 2 .now (.notIn [1]), fs 4 4 .rw 8 .now (.notIn [1]), fs 0 4 .rw 5 .now (.notIn [1])],
  rg 0x48 1 0 true .plain [fs 9 5 .rw 27 .epoch, fs 1 5 .rw 27 .epoch],
  rg 0x60 1 0 true .plain [fs 0 3 .ro 5 .none, fs 4 3 .rw 0 .epoch (.range 0 5), fs 8 3 .rw 0 .epoch (.range 0 5), fs 12 3 .rw 0 .epoch (.range 0 5), fs 16 3 .rw 0 .epoch (.range 0 5), fs 20 3 .rw 0 .epoch (.range 0 5), fs 24 3 .rw 0 .epoch (.range 0 5), fs 28 3 .rw 0 .epoch (.range 0 5)],
  rg 0x64 7 4 true .plain [fs 0 3 .rw 0 .epoch (.range 0 5), fs 4 3 .rw 0 .epoch (.range 0 5), fs 8 3 .rw 0 .epoch (.range 0 5), fs 12 3 .rw 0 .epoch (.range 0 5), fs 16 3 .rw 0 .epoch (.range 0 5), fs 20 3 .rw 0 .epoch (.range 0 5), fs 24 3 .rw 0 .epoch (.range 0 5), fs 28 3 .rw 0 .epoch (.range 0 5)],
  rg 0x80 1 0 true .plain [fs 0 3 .ro 5 .none, fs 4 3 .rw 0 .epoch (.oneOf [0, 1, 2, 4, 5]), fs 8 3 .rw 0 .epoch (.oneOf [0, 1, 2, 4, 5]), fs 12 3 .rw 0 .epoch (.oneOf [0, 1, 2, 4, 5]), fs 16 3 .rw 0 .epoch (.oneOf [0, 1, 2, 4, 5]), fs 20 3 .rw 0 .epoch (.oneOf [0, 1, 2, 4, 5]), fs 24 3 .rw 0 .epoch (.oneOf [0, 1, 2, 4, 5]), fs 28 3 .rw 0 .epoch (.oneOf [0, 1, 2, 4, 5])],
  rg 0x84 7 4 true .plain [fs 0 3 .rw 0 .epoch (.oneOf [0, 1, 2, 4, 5]), fs 4 3 .rw 0 .epoch (.oneOf [0, 1, 2, 4, 5]), fs 8 3 .rw 0 .epoch (.oneOf [0, 1, 2, 4, 5]), fs 12 3 .rw 0 .epoch (.oneOf [0, 1, 2, 4, 5]), fs 16 3 .rw 0 .epoch (.oneOf [0, 1, 2, 4, 5]), fs 20 3 .rw 0 .epoch (.oneOf [0, 1, 2, 4, 5]), fs 24 3 .rw 0 .epoch (.oneOf [0, 1, 2, 4, 5]), fs 28 3 .rw 0 .epoch (.oneOf [0, 1, 2, 4, 5])],
  rg 0xa0 1 0 false .plain [fs 22 2 .ro 0 .none, fs 20 2 .ro 0 .none, fs 19 1 .ro 1 .none, fs 18 1 .ro 0 .none, fs 17 1 .ro 0 .none, fs 16 1 .ro 0 .none, fs 8 8 .ro 0 .none, fs 0 8 .ro 0 .none],
  rg 0xa4 1 0 false .plain [fs 0 32 .ro 0 .none],
  rg 0xa8 1 0 false .plain [fs 0 32 .ro 0 .none],
  rg 0xac 1 0 false .plain [fs 24 6 .ro 0 .none, fs 18 6 .ro 0 .none, fs 12 6 .ro 0 .none, fs 6 6 .ro 0 .none, fs 0 6 .ro 0 .none],
  rg 0xb0 1 0 false .plain [fs 24 6 .ro 0 .none, fs 18 6 .ro 0 .none, fs 12 6 .ro 0 .none, fs 6 6 .ro 0 .none, fs 0 6 .ro 0 .none],
  rg 0xb4 1 0 false .plain [fs 0 16 .ro 0 .none],
  rg 0xb8 1 0 false .plain [fs 0 32 .ro 0 .none],
  rg 0xbc 1 0 false .plain [fs 0 32 .ro 0 .none],
  rg 0xc0 1 0 false .plain [fs 0 32 .ro 0 .none]]

/-- Registers of page template DPORT3 (11_tunnel_classes.md). -/
def regsDport3 : List RegSpec := [
  rg 0x40 1 0 true .plain [fs 1 1 .rw 1, fs 0 1 .rw 1],
  rg 0x44 1 0 false .perPath [fs 8 3 .rw 1 .now (.range 1 5), fs 0 5 .rw 0],
  rg 0x48 1 0 false (.win .chSel) [fs 18 1 .ro 0 .none, fs 16 2 .ro 0 .none, fs 0 16 .ro 0 .none],
  rg 0x4c 1 0 false (.win .chSel) [fs 1 1 .w1s 0, fs 0 1 .w1s 0],
  rg 0x50 1 0 false (.win .chSel) [fs 0 32 .ro 0 .none],
  rg 0x54 1 0 false (.win .chSel) [fs 0 32 .ro 0 .none],
  rg 0x58 1 0 false (.win .chSel) [fs 0 32 .ro 0 .none],
  rg 0x60 4 4 false .plain [fs 0 32 .ro 0 .none],
  rg 0x70 1 0 false .plain [fs 16 16 .ro 0 .none, fs 0 16 .ro 0 .none],
  rg 0x74 1 0 false .plain [fs 0 32 .ro 0 .none],
  rg 0x78 1 0 false .plain [fs 0 32 .ro 0 .none],
  rg 0x7c 1 0 false .plain [fs 0 32 .ro 0 .none],
  rg 0x80 1 0 false .plain [fs 0 32 .ro 0 .none],
  rg 0x84 1 0 false .plain [fs 0 32 .ro 0 .none],
  rg 0x88 1 0 true .plain [fs 16 8 .rw 20 .now (.notIn [0]), fs 8 4 .rw 8 .now (.notIn [0]), fs 0 1 .rw 1],
  rg 0x8c 1 0 false .plain [fs 16 8 .ro 0 .none, fs 8 8 .ro 0 .none, fs 0 1 .ro 0 .none],
  rg 0x90 1 0 false .plain [fs 0 32 .ro 0 .none]]

/-- Registers of page template DPORT4 (12_dock_port_negotiation.md). -/
def regsDport4 : List RegSpec := [
  rg 0x40 1 0 true .plain [fs 7 1 .rw 0, fs 6 1 .rw 0, fs 5 1 .rw 1, fs 4 1 .rw 0, fs 3 1 .rw 1, fs 1 2 .rw 0 .now (.range 0 1), fs 0 1 .rw 1],
  rg 0x44 1 0 true .plain [fs 0 8 .rw 150 .now (.range 100 200)],
  rg 0x48 1 0 true .plain [fs 8 1 .rw 0, fs 0 8 .rw 240 .now (.range 15 240)],
  rg 0x4c 1 0 true .plain [fs 16 4 .rw 10 .now (.notIn [0]), fs 0 16 .rw 100 .now (.range 10 65535)],
  rg 0x50 1 0 true .plain [fs 0 4 .rw 3 .now (.notIn [0])],
  rg 0x54 1 0 false .plain [fs 6 1 .w1s 0, fs 5 1 .w1s 0, fs 4 1 .w1s 0, fs 3 1 .w1s 0, fs 2 1 .w1s 0, fs 1 1 .w1s 0, fs 0 1 .w1s 0],
  rg 0x58 1 0 false .plain [fs 12 2 .ro 0 .none, fs 10 2 .ro 0 .none, fs 9 1 .ro 0 .none, fs 8 1 .ro 0 .none, fs 7 1 .ro 0 .none, fs 6 1 .ro 0 .none, fs 5 1 .ro 0 .none, fs 4 1 .ro 0 .none, fs 3 1 .ro 0 .none, fs 2 1 .ro 0 .none, fs 1 1 .ro 0 .none, fs 0 1 .ro 0 .none],
  rg 0x5c 1 0 false .plain [fs 0 32 .ro 0 .none],
  rg 0x60 1 0 false .plain [fs 0 32 .ro 0 .none],
  rg 0x64 1 0 false .plain [fs 0 32 .ro 0 .none],
  rg 0x68 1 0 false .plain [fs 0 32 .ro 0 .none],
  rg 0x6c 1 0 false .plain [fs 0 32 .ro 0 .none],
  rg 0x70 1 0 false .plain [fs 0 32 .ro 0 .none],
  rg 0x74 1 0 false .plain [fs 8 1 .ro 0 .none, fs 4 4 .ro 0 .none, fs 0 4 .ro 0 .none],
  rg 0x78 1 0 false .plain [fs 0 32 .ro 0 .none],
  rg 0x7c 1 0 false .plain [fs 0 32 .ro 0 .none],
  rg 0x80 1 0 false .plain [fs 0 32 .ro 0 .none],
  rg 0x84 1 0 false .plain [fs 0 32 .ro 0 .none]]

/-- Registers of page template DPORT5 (13_vbus_feeds.md). -/
def regsDport5 : List RegSpec := [
  rg 0x40 1 0 true .plain [fs 24 8 .rw 3 .now (.notIn [0]), fs 8 1 .rw 1, fs 4 1 .rw 1, fs 0 1 .rw 1],
  rg 0x44 1 0 true .plain [fs 16 10 .ro 0 .none, fs 0 10 .rw 0x177 .now (.range 50 650)],
  rg 0x48 1 0 true .plain [fs 24 8 .rw 10 .now (.notIn [0]), fs 16 8 .rw 5 .now (.notIn [0]), fs 8 6 .rw 5 .now (.range 1 50), fs 0 8 .rw 100 .now (.notIn [0])],
  rg 0x4c 1 0 true .plain [fs 16 4 .rw 2 .now (.notIn [0]), fs 0 4 .rw 5 .now (.range 1 10)],
  rg 0x50 1 0 false .plain [fs 16 12 .ro 0 .none, fs 0 16 .ro 0 .none],
  rg 0x54 1 0 true .plain [fs 16 16 .rw 0, fs 0 16 .rw 0 .now (.srange 16 1000)],
  rg 0x58 1 0 false .plain [fs 1 1 .w1s 0, fs 0 1 .w1s 0],
  rg 0x5c 1 0 false .plain [fs 12 4 .ro 0 .none, fs 8 1 .ro 0 .none, fs 4 1 .ro 0 .none, fs 3 1 .ro 0 .none, fs 2 1 .ro 0 .none, fs 1 1 .ro 0 .none, fs 0 1 .ro 0 .none],
  rg 0x60 1 0 false .plain [fs 16 16 .ro 0 .none, fs 0 4 .ro 0 .none],
  rg 0x64 1 0 false .plain [fs 0 16 .ro 0 .none],
  rg 0x68 1 0 false .plain [fs 0 16 .ro 0 .none],
  rg 0x6c 1 0 false .plain [fs 0 16 .ro 0 .none],
  rg 0x70 1 0 false .plain [fs 0 20 .ro 0 .none],
  rg 0x74 1 0 false .plain [fs 0 16 .ro 0 .none],
  rg 0x78 1 0 false .plain [fs 0 32 .ro 0 .none],
  rg 0x7c 1 0 false .plain [fs 0 32 .ro 0 .none],
  rg 0x80 1 0 false .plain [fs 0 32 .ro 0 .none],
  rg 0x84 1 0 true .plain [fs 0 16 .rw 0x1388 .now (.range 500 50000)],
  rg 0x88 1 0 false .plain [fs 0 8 .ro 0 .none]]

/-- Registers of page template SWITCH0 (04_switch_core.md). -/
def regsSwitch0 : List RegSpec := [
  rg 0x40 1 0 true .plain [fs 0 1 .rw 1],
  rg 0x44 1 0 true .plain [fs 0 32 .rw 0 .boot],
  rg 0x48 1 0 true .plain [fs 0 16 .rw 0x3e8 .now (.range 100 65535)],
  rg 0x4c 1 0 false .plain [fs 4 2 .ro 2 .none, fs 2 2 .ro 1 .none, fs 0 2 .ro 0 .none],
  rg 0x50 1 0 false .plain [fs 12 1 .ro 0 .none, fs 8 1 .ro 0 .none, fs 4 2 .ro 1 .none, fs 2 2 .ro 0 .none, fs 0 2 .ro 0 .none],
  rg 0x54 1 0 true .plain [fs 16 5 .rw 16 .now (.range 10 24), fs 0 8 .rw 8 .now (.range 1 255)],
  rg 0x58 1 0 false .plain [fs 4 1 .rwl 0, fs 0 2 .rwl 0],
  rg 0x5c 1 0 false .plain [fs 0 32 .ro 0 .none],
  rg 0x60 1 0 false .plain [fs 0 32 .ro 0 .none],
  rg 0x64 1 0 false .plain [fs 0 32 .ro 0 .none],
  rg 0x68 3 4 false .plain [fs 0 32 .ro 0 .none],
  rg 0x74 1 0 false .plain [fs 0 32 .ro 0 .none]]

/-- Registers of page template SWITCH1 (04_switch_core.md). -/
def regsSwitch1 : List RegSpec := [
  rg 0x40 1 0 true .plain [fs 0 4 .rw 8 .now (.range 1 15)],
  rg 0x44 1 0 true .plain [fs 0 16 .rw 0xea60 .now (.range 1 65535)],
  rg 0x48 1 0 true .plain [fs 0 7 .rw 90 .now (.range 10 99)],
  rg 0x4c 1 0 true .plain [fs 0 16 .rw 64 .now (.notIn [0])],
  rg 0x50 4 4 false .plain [fs 0 32 .ro 0 .none],
  rg 0x60 1 0 false .plain [fs 16 6 .ro 63 .none, fs 8 4 .ro 15 .none, fs 0 6 .ro 63 .none],
  rg 0x64 1 0 false .plain [fs 0 20 .ro 0xc0000 .none],
  rg 0x68 1 0 false .plain [fs 0 19 .ro 0 .none],
  rg 0x6c 1 0 false .plain [fs 0 18 .ro 0 .none],
  rg 0x70 1 0 false .plain [fs 31 1 .w1s 0, fs 0 18 .ro 0 .none],
  rg 0x74 1 0 false .plain [fs 0 32 .ro 0 .none],
  rg 0x78 1 0 false .plain [fs 0 32 .ro 0 .none],
  rg 0x7c 1 0 false .plain [fs 0 32 .ro 0 .none]]

/-- Registers of page template SWITCH2 (04_switch_core.md). -/
def regsSwitch2 : List RegSpec := [
  rg 0x40 1 0 false .perPath [fs 0 7 .rw 0 .now (.range 0 71)],
  rg 0x44 1 0 false (.win .statSel) [fs 0 32 .ro 0 .none],
  rg 0x48 1 0 false (.win .statSel) [fs 0 32 .ro 0 .none],
  rg 0x4c 1 0 false (.win .statSel) [fs 0 32 .ro 0 .none],
  rg 0x50 1 0 false (.win .statSel) [fs 0 32 .ro 0 .none],
  rg 0x54 1 0 false (.win .statSel) [fs 0 13 .ro 0 .none],
  rg 0x58 1 0 false (.win .statSel) [fs 0 19 .ro 0 .none],
  rg 0x5c 1 0 false (.win .statSel) [fs 0 18 .ro 0 .none],
  rg 0x60 1 0 false (.win .statSel) [fs 0 32 .ro 0 .none],
  rg 0x64 1 0 false (.win .statSel) [fs 0 32 .ro 0 .none]]

/-- Registers of page template SWITCH3 (04_switch_core.md). -/
def regsSwitch3 : List RegSpec := [
  rg 0x40 1 0 false .plain [fs 16 3 .rw 1 .now (.range 1 5), fs 8 7 .rw 0 .now (.range 0 71), fs 0 7 .rw 0 .now (.range 0 71)],
  rg 0x44 1 0 false .plain [fs 0 32 .rw 0],
  rg 0x48 1 0 false .plain [fs 0 32 .rw 0],
  rg 0x4c 1 0 false .plain [fs 16 16 .ro 0 .none, fs 2 2 .ro 0 .none, fs 0 1 .ro 0 .none]]

/-- Registers of page template DIR0 (06_coherent_pool.md). -/
def regsDir0 : List RegSpec := [
  rg 0x40 1 0 true .plain [fs 2 1 .rw 1, fs 1 1 .rw 1, fs 0 1 .rw 0 .boot],
  rg 0x44 1 0 true .plain [fs 0 16 .rw 0x7d0 .now (.range 100 65535)],
  rg 0x48 1 0 false .plain [fs 0 32 .ro 0 .none],
  rg 0x4c 1 0 false .plain [fs 8 4 .ro 0 .none, fs 0 7 .ro 127 .none],
  rg 0x50 1 0 false .plain [fs 0 32 .ro 0 .none],
  rg 0x54 1 0 false .plain [fs 0 32 .ro 0 .none],
  rg 0x58 1 0 false .plain [fs 0 32 .ro 0 .none],
  rg 0x5c 1 0 false .plain [fs 0 32 .ro 0 .none],
  rg 0x60 1 0 false .plain [fs 16 16 .ro 0 .none, fs 8 1 .ro 0 .none, fs 0 7 .ro 127 .none]]

/-- Registers of page template DIR1 (06_coherent_pool.md). -/
def regsDir1 : List RegSpec := [
  rg 0x40 16 32 true .plain [fs 0 15 .rw 0],
  rg 0x44 16 32 true .plain [fs 0 16 .rw 0],
  rg 0x48 16 32 true .plain [fs 31 1 .ro 0 .none, fs 16 11 .rw 0, fs 8 5 .rw 0 .now (.range 0 18), fs 4 4 .rw 0, fs 0 1 .rw 0],
  rg 0x4c 16 32 true .plain [fs 0 32 .rw 0],
  rg 0x50 16 32 true .plain [fs 0 32 .rw 0],
  rg 0x240 1 0 false .plain [fs 16 1 .ro 0 .none, fs 0 16 .ro 0 .none],
  rg 0x244 1 0 false .plain [fs 0 16 .wo 0]]

/-- Registers of page template DIR2 (06_coherent_pool.md). -/
def regsDir2 : List RegSpec := [
  rg 0x40 1 0 false .perPath [fs 8 6 .rw 0, fs 0 5 .rw 0],
  rg 0x44 1 0 false (.win .lensHost) [fs 0 25 .rw 0x1000000 .link (.range 1 16777216)],
  rg 0x48 1 0 false (.win .lensWin) [fs 0 24 .rw 0],
  rg 0x4c 1 0 false (.win .lensWin) [fs 0 25 .rw 0],
  rg 0x50 1 0 false (.win .lensWin) [fs 0 24 .rw 0],
  rg 0x54 1 0 false (.win .lensWin) [fs 8 1 .ro 0 .none, fs 1 1 .rw 1, fs 0 1 .rw 0],
  rg 0x58 1 0 false (.win .lensHost) [fs 0 32 .ro 0 .none],
  rg 0x5c 1 0 false (.win .lensHost) [fs 0 32 .ro 0 .none],
  rg 0x60 1 0 false (.win .lensHost) [fs 0 32 .ro 0 .none]]

/-- Registers of page template DIR3 (06_coherent_pool.md). -/
def regsDir3 : List RegSpec := [
  rg 0x40 1 0 false .plain [fs 0 32 .ro 0 .none],
  rg 0x44 1 0 false .plain [fs 0 32 .ro 0 .none],
  rg 0x48 1 0 false .plain [fs 15 1 .ro 0 .none, fs 8 5 .ro 0 .none, fs 4 2 .ro 0 .none, fs 2 2 .ro 0 .none, fs 0 2 .ro 0 .none],
  rg 0x4c 1 0 false .plain [fs 31 1 .ro 0 .none, fs 16 5 .ro 0 .none, fs 0 16 .ro 0 .none],
  rg 0x50 1 0 false .plain [fs 8 4 .ro 0 .none, fs 0 5 .ro 0 .none],
  rg 0x54 1 0 true .plain [fs 0 16 .rw 64 .now (.notIn [0])],
  rg 0x58 1 0 false .plain [fs 5 1 .rwl 0, fs 0 5 .rwl 0],
  rg 0x5c 1 0 false .plain [fs 0 32 .ro 0 .none],
  rg 0x60 1 0 false .plain [fs 0 32 .ro 0 .none],
  rg 0x64 1 0 false .plain [fs 0 32 .ro 0 .none]]

/-- Registers of page template DIR4 (06_coherent_pool.md). -/
def regsDir4 : List RegSpec := [
  rg 0x40 1 0 false .plain [fs 0 32 .rw 0],
  rg 0x44 1 0 false .plain [fs 0 32 .rw 0],
  rg 0x48 1 0 false .plain [fs 24 5 .rw 0 .now (.range 0 17), fs 8 14 .rw 0, fs 0 5 .rw 0],
  rg 0x4c 1 0 false .plain [fs 1 1 .w1s 0, fs 0 1 .w1s 0],
  rg 0x50 1 0 false .plain [fs 2 1 .ro 0 .none, fs 1 1 .ro 0 .none, fs 0 1 .ro 0 .none],
  rg 0x54 1 0 false .plain [fs 0 32 .ro 0 .none],
  rg 0x58 1 0 false .plain [fs 0 32 .ro 0 .none],
  rg 0x5c 1 0 false .plain [fs 0 17 .ro 0 .none]]

/-- Registers of page template CREAM (06_coherent_pool.md). -/
def regsCream : List RegSpec := [
  rg 0x40 1 0 true .plain [fs 2 1 .w1s 0, fs 1 1 .rw 0, fs 0 1 .rw 1],
  rg 0x44 1 0 false .plain [fs 0 16 .ro 0 .none],
  rg 0x48 1 0 true .plain [fs 0 16 .rw 64 .now (.notIn [0])],
  rg 0x4c 1 0 false .plain [fs 0 18 .ro 0 .none],
  rg 0x50 1 0 false .plain [fs 0 18 .ro 0 .none],
  rg 0x54 1 0 false .plain [fs 0 32 .ro 0 .none],
  rg 0x58 1 0 false .plain [fs 0 32 .ro 0 .none],
  rg 0x5c 1 0 false .plain [fs 0 32 .ro 0 .none],
  rg 0x60 1 0 false .plain [fs 0 32 .ro 0 .none],
  rg 0x64 1 0 false .plain [fs 0 32 .ro 0 .none],
  rg 0x68 1 0 false .plain [fs 0 32 .ro 0 .none],
  rg 0x6c 1 0 false .plain [fs 0 32 .ro 0 .none]]

/-- Registers of page template GUARD0 (07_memory_guard.md). -/
def regsGuard0 : List RegSpec := [
  rg 0x40 1 0 true .plain [fs 0 1 .rw 0],
  rg 0x44 1 0 false .plain [fs 8 1 .ro 0 .none, fs 4 1 .ro 0 .none, fs 0 3 .ro 0 .none],
  rg 0x48 1 0 false .plain [fs 0 12 .ro 0 .none],
  rg 0x4c 1 0 false .plain [fs 31 1 .w1s 0, fs 0 12 .ro 0 .none],
  rg 0x50 1 0 false .plain [fs 0 32 .ro 0 .none],
  rg 0x54 1 0 false .plain [fs 0 32 .ro 0 .none],
  rg 0x58 1 0 false .plain [fs 0 32 .ro 0 .none],
  rg 0x5c 1 0 false .plain [fs 0 32 .ro 0 .none],
  rg 0x60 1 0 false .plain [fs 0 32 .ro 0 .none],
  rg 0x64 1 0 false .plain [fs 0 32 .ro 0 .none],
  rg 0x68 1 0 false .plain [fs 0 24 .ro 0 .none]]

/-- Registers of page template GUARD1 (07_memory_guard.md). -/
def regsGuard1 : List RegSpec := [
  rg 0x40 1 0 false .perPath [fs 0 24 .rw 0],
  rg 0x44 1 0 false (.win .colSel) [fs 24 8 .wo 0 .commit, fs 0 17 .wo 0 .commit],
  rg 0x48 1 0 false (.win .colSel) [fs 8 1 .ro 0 .none, fs 0 8 .ro 0 .none]]

/-- Registers of page template GUARD2 (07_memory_guard.md). -/
def regsGuard2 : List RegSpec := [
  rg 0x40 1 0 false .perPath [fs 0 9 .rw 0],
  rg 0x44 1 0 false (.win .maskSel) [fs 0 32 .ro 0 .none],
  rg 0x80 8 4 false (.win .maskSel) [fs 0 32 .rw 0 .commit],
  rg 0xa0 8 4 false (.win .maskSel) [fs 0 32 .rw 0 .commit]]

/-- Registers of page template GUARD3 (07_memory_guard.md). -/
def regsGuard3 : List RegSpec := [
  rg 0x40 1 0 false .plain [fs 8 5 .ro 0 .none, fs 0 4 .ro 0 .none],
  rg 0x44 1 0 false .plain [fs 0 1 .wo 0],
  rg 0x48 1 0 false .plain [fs 0 32 .ro 0 .none],
  rg 0x80 16 32 false .plain [fs 24 8 .ro 0 .none, fs 16 4 .ro 0 .none, fs 12 3 .ro 0 .none, fs 0 9 .ro 0 .none],
  rg 0x84 16 32 false .plain [fs 0 32 .ro 0 .none],
  rg 0x88 16 32 false .plain [fs 0 32 .ro 0 .none],
  rg 0x8c 16 32 false .plain [fs 0 16 .ro 0 .none],
  rg 0x90 16 32 false .plain [fs 0 32 .ro 0 .none],
  rg 0x94 16 32 false .plain [fs 0 32 .ro 0 .none],
  rg 0x98 16 32 false .plain [fs 0 32 .ro 0 .none]]

/-- Registers of page template SCANOUT (14_scan_out.md). -/
def regsScanout : List RegSpec := [
  rg 0x40 1 0 true .plain [fs 24 1 .rw 1 .frame, fs 22 2 .rw 0 .frame, fs 20 2 .rw 0 .frame, fs 16 2 .rw 0 .frame (.notIn [3]), fs 12 2 .rw 0 .frame, fs 8 4 .rw 0 .frame, fs 0 1 .rw 0],
  rg 0x44 1 0 true .plain [fs 16 16 .rw 0x438 .frame (.range 16 2160), fs 0 16 .rw 0x780 .frame (.range 16 3840)],
  rg 0x48 1 0 true .plain [fs 16 8 .rw 4 .frame (.range 1 64), fs 0 16 .rw 0x465 .frame],
  rg 0x4c 1 0 true .plain [fs 0 32 .rw 0x28155555 .frame],
  rg 0x50 1 0 true .plain [fs 0 16 .rw 127 .frame],
  rg 0x54 1 0 true .plain [fs 0 32 .rw 0 .frame],
  rg 0x58 1 0 true .plain [fs 0 32 .rw 0 .frame],
  rg 0x5c 1 0 true .plain [fs 0 20 .rw 0 .frame (.range 0 1000000)],
  rg 0x60 1 0 true .plain [fs 8 8 .rw 4 .frame (.notIn [0]), fs 0 4 .rw 4 .frame (.range 2 15)],
  rg 0x64 1 0 true .plain [fs 0 32 .rw 0 .frame],
  rg 0x68 1 0 false .plain [fs 0 1 .w1s 0],
  rg 0x6c 1 0 false .plain [fs 24 7 .ro 0 .none, fs 16 4 .ro 1 .none, fs 5 1 .ro 0 .none, fs 4 1 .ro 0 .none, fs 3 1 .ro 0 .none, fs 2 1 .ro 0 .none, fs 1 1 .ro 0 .none, fs 0 1 .ro 0 .none],
  rg 0x70 1 0 true .plain [fs 0 32 .ro 0 .none],
  rg 0x74 1 0 false .plain [fs 0 32 .ro 0 .none],
  rg 0x78 1 0 false .plain [fs 0 32 .ro 0 .none],
  rg 0x7c 1 0 false .plain [fs 0 32 .ro 0 .none],
  rg 0x80 1 0 false .plain [fs 0 32 .ro 0 .none],
  rg 0x84 1 0 false .plain [fs 0 32 .ro 0 .none],
  rg 0x100 4 64 true .plain [fs 8 8 .rw 255 .frame, fs 5 3 .rw 0 .frame, fs 4 1 .rw 0 .frame, fs 1 2 .rw 0 .frame, fs 0 1 .rw 0 .frame],
  rg 0x104 4 64 true .plain [fs 0 32 .rw 0 .frame (.mult 64)],
  rg 0x108 4 64 true .plain [fs 0 32 .rw 0 .frame (.range 0 1048575)],
  rg 0x10c 4 64 true .plain [fs 0 24 .rw 0 .frame (.mult 64)],
  rg 0x110 4 64 true .plain [fs 16 16 .rw 1 .frame (.notIn [0]), fs 0 16 .rw 1 .frame (.notIn [0])],
  rg 0x114 4 64 true .plain [fs 16 16 .rw 0 .frame, fs 0 16 .rw 0 .frame],
  rg 0x118 4 64 true .plain [fs 16 16 .rw 0 .frame, fs 0 16 .rw 0 .frame],
  rg 0x11c 4 64 true .plain [fs 0 32 .rw 0 .frame],
  rg 0x120 4 64 true .plain [fs 0 32 .rw 0 .frame],
  rg 0x124 4 64 true .plain [fs 0 32 .rw 0 .frame],
  rg 0x128 4 64 true .plain [fs 0 32 .rw 0 .frame],
  rg 0x12c 4 64 true .plain [fs 0 24 .rw 0xffffff .frame],
  rg 0x130 4 64 false .plain [fs 16 16 .ro 0 .none, fs 4 2 .ro 0 .none, fs 2 1 .ro 0 .none, fs 1 1 .ro 0 .none, fs 0 1 .ro 0 .none],
  rg 0x134 4 64 false .plain [fs 16 16 .ro 0 .none, fs 0 16 .ro 0 .none],
  rg 0x138 4 64 false .plain [fs 0 32 .ro 0 .none],
  rg 0x13c 4 64 false .plain [fs 0 32 .ro 0 .none]]

/-- Registers of page template BRIDGE0 (15_signal_bridge.md). -/
def regsBridge0 : List RegSpec := [
  rg 0x40 1 0 true .plain [fs 0 1 .rw 1],
  rg 0x44 1 0 true .plain [fs 0 18 .rw 0x3e8 .now (.range 10 250000)],
  rg 0x48 1 0 true .plain [fs 16 9 .rw 50 .now (.range 1 400), fs 0 16 .rw 100 .now (.notIn [0])],
  rg 0x4c 1 0 true .plain [fs 0 16 .rw 100 .now (.notIn [0])],
  rg 0x50 1 0 false .plain [fs 0 32 .ro 0 .none],
  rg 0x54 1 0 false .plain [fs 0 32 .ro 0 .none],
  rg 0x58 1 0 false .plain [fs 0 32 .ro 0 .none],
  rg 0x5c 1 0 false .plain [fs 0 32 .ro 0 .none],
  rg 0x60 1 0 false .plain [fs 0 32 .ro 0 .none],
  rg 0x64 1 0 false .plain [fs 0 32 .ro 0 .none],
  rg 0x68 1 0 false .plain [fs 8 7 .ro 127 .none, fs 0 8 .ro 0 .none]]

/-- Registers of page template BRIDGE1 (15_signal_bridge.md). -/
def regsBridge1 : List RegSpec := [
  rg 0x40 48 4 true .plain [fs 16 13 .rw 0 .now (.range 0 4096), fs 0 16 .rw 0],
  rg 0x100 32 8 true .plain [fs 8 24 .rw 0, fs 0 1 .rw 0],
  rg 0x104 32 8 true .plain [fs 0 32 .rw 0]]

/-- Registers of page template BRIDGE2 (15_signal_bridge.md). -/
def regsBridge2 : List RegSpec := [
  rg 0x40 1 0 false .perPath [fs 0 16 .rw 0],
  rg 0x44 1 0 false (.win .rtSel) [fs 31 1 .rw 0, fs 27 4 .ro 0 .none, fs 25 2 .rw 0, fs 22 3 .rw 0, fs 21 1 .rw 0, fs 20 1 .rw 0, fs 19 1 .rw 0, fs 14 5 .rw 0, fs 0 12 .rw 0],
  rg 0x48 1 0 false (.win .rtSel) [fs 0 32 .rw 0],
  rg 0x4c 1 0 false (.win .rtSel) [fs 0 5 .rw 0],
  rg 0x50 1 0 false (.win .rtSel) [fs 0 32 .ro 0 .none]]

/-- Registers of page template BRIDGE3 (15_signal_bridge.md). -/
def regsBridge3 : List RegSpec := [
  rg 0x40 1 0 false .perPath [fs 0 8 .rw 0],
  rg 0x44 1 0 false (.win .plSel) [fs 31 1 .rw 0, fs 30 1 .rw 1, fs 29 1 .rw 0, fs 28 1 .rw 0, fs 23 5 .rw 0, fs 18 5 .rw 0, fs 14 4 .rw 0, fs 11 3 .rw 4 .now (.range 1 4)],
  rg 0x48 1 0 false (.win .plSel) [fs 0 32 .rw 0],
  rg 0x4c 1 0 false (.win .plSel) [fs 0 32 .rw 0xffffffff],
  rg 0x50 1 0 false (.win .plSel) [fs 0 24 .rw 0x3e8 .now (.range 10 16777215)],
  rg 0x54 1 0 false (.win .plSel) [fs 0 32 .rw 0 .now (.mult 16)],
  rg 0x58 1 0 false (.win .plSel) [fs 0 32 .rw 0],
  rg 0x5c 1 0 false (.win .plSel) [fs 0 32 .ro 0 .none],
  rg 0x60 1 0 false (.win .plSel) [fs 16 16 .ro 0 .none, fs 1 1 .ro 0 .none, fs 0 1 .ro 0 .none]]

/-- Registers of page template BRIDGE4 (15_signal_bridge.md). -/
def regsBridge4 : List RegSpec := [
  rg 0x40 32 16 true .plain [fs 31 1 .rw 0, fs 30 1 .rw 0, fs 16 4 .rw 0, fs 8 5 .rw 0, fs 0 8 .rw 64 .now (.range 1 232)],
  rg 0x44 32 16 true .plain [fs 0 32 .rw 0],
  rg 0x48 32 16 true .plain [fs 0 32 .rw 0]]

/-- Registers of page template BRIDGE5 (15_signal_bridge.md). -/
def regsBridge5 : List RegSpec := [
  rg 0x40 1 0 false .plain [fs 8 5 .ro 0 .none, fs 0 4 .ro 0 .none],
  rg 0x44 1 0 false .plain [fs 0 1 .wo 0],
  rg 0x80 16 16 false .plain [fs 27 5 .ro 0 .none, fs 24 3 .ro 0 .none, fs 16 4 .ro 0 .none, fs 8 5 .ro 0 .none, fs 0 8 .ro 0 .none],
  rg 0x84 16 16 false .plain [fs 0 32 .ro 0 .none],
  rg 0x88 16 16 false .plain [fs 0 32 .ro 0 .none],
  rg 0x8c 16 16 false .plain [fs 0 32 .ro 0 .none]]

/-- Registers of page template ENGINE0 (17_engines.md). -/
def regsEngine0 : List RegSpec := [
  rg 0x40 1 0 true .plain [fs 0 8 .rw 10 .now (.range 1 15)],
  rg 0x44 1 0 false .plain [fs 2 1 .ro 0 .none, fs 0 2 .ro 0 .none],
  rg 0x48 1 0 false .plain [fs 0 32 .ro 0 .none],
  rg 0x4c 1 0 false .plain [fs 0 32 .ro 0 .none],
  rg 0x50 1 0 false .plain [fs 0 32 .ro 0x76543210 .none],
  rg 0x54 1 0 false .plain [fs 0 32 .ro 0xfedcba98 .none],
  rg 0x58 1 0 false .plain [fs 0 16 .ro 0 .none],
  rg 0x5c 1 0 false .plain [fs 16 16 .ro 0 .none, fs 0 4 .ro 0 .none]]

/-- Registers of page template ENGINE1 (17_engines.md). -/
def regsEngine1 : List RegSpec := [
  rg 0x40 1 0 false .perPath [fs 16 5 .rw 0 .now (.range 0 23), fs 0 1 .rw 0],
  rg 0x44 1 0 false .plain [fs 0 18 .rw 0 .now (.mult 4)],
  rg 0x48 1 0 false .plain [fs 0 32 .rw 0]]

/-- Registers of page template ENGPAGE (17_engines.md). -/
def regsEngpage : List RegSpec := [
  rg 0x40 1 0 false .plain [fs 1 1 .rwl 0, fs 0 1 .rwl 0],
  rg 0x44 1 0 false .plain [fs 4 4 .ro 0 .none, fs 0 3 .ro 0 .none],
  rg 0x48 1 0 false .plain [fs 0 16 .ro 0 .none],
  rg 0x4c 1 0 true .plain [fs 0 20 .rw 0x3e8 .now (.range 10 1000000)],
  rg 0x50 1 0 true .plain [fs 20 4 .rw 4 .now (.range 2 6), fs 0 18 .rw 0 .now (.mult 64)],
  rg 0x54 1 0 false .plain [fs 0 6 .ro 0 .none],
  rg 0x58 1 0 false .plain [fs 0 6 .rw 0],
  rg 0x5c 1 0 false .plain [fs 0 18 .wo 0],
  rg 0x60 1 0 false .plain [fs 31 1 .ro 0 .none, fs 0 8 .ro 0 .none],
  rg 0x64 1 0 false .plain [fs 0 32 .ro 0 .none],
  rg 0x68 1 0 false .plain [fs 0 32 .ro 0 .none]]

/-- Registers of page template KEY0 (19_keys_lifecycle.md). -/
def regsKey0 : List RegSpec := [
  rg 0x40 1 0 true .plain [fs 16 10 .rw 64 .now (.range 1 1000), fs 0 16 .rw 0x400 .now (.notIn [0])],
  rg 0x44 1 0 false .plain [fs 1 1 .ro 0 .none, fs 0 1 .ro 0 .none],
  rg 0x48 1 0 false .plain [fs 0 1 .w1s 0],
  rg 0x4c 1 0 true .plain [fs 0 8 .rwl 255],
  rg 0x50 1 0 true .plain [fs 8 4 .rwl 3 .now (.range 1 15), fs 0 4 .rwl 0],
  rg 0x54 1 0 true .plain [fs 8 8 .ro 0 .none, fs 0 8 .w1c 0],
  rg 0x58 1 0 true .plain [fs 0 32 .ro 0 .none],
  rg 0x5c 1 0 true .plain [fs 0 32 .ro 0 .none],
  rg 0x60 1 0 false .plain [fs 8 8 .ro 0 .none, fs 1 1 .w1c 0, fs 0 1 .ro 0 .none],
  rg 0x64 1 0 false .plain [fs 0 32 .ro 0 .none]]

/-- Registers of page template KEY1 (19_keys_lifecycle.md). -/
def regsKey1 : List RegSpec := [
  rg 0x40 1 0 false .perPath [fs 0 8 .rw 0],
  rg 0x44 1 0 false (.win .ksSel) [fs 31 1 .ro 0 .none, fs 30 1 .ro 0 .none, fs 28 2 .ro 0 .none, fs 27 1 .ro 0 .none, fs 0 8 .ro 255 .none],
  rg 0x48 1 0 false (.win .ksSel) [fs 0 32 .ro 0 .none]]

/-- Registers of page template KEY2 (19_keys_lifecycle.md). -/
def regsKey2 : List RegSpec := [
  rg 0x40 1 0 false .perPath [fs 31 1 .w1s 0, fs 16 8 .rw 0, fs 8 8 .rw 0, fs 6 1 .rw 0, fs 4 2 .rw 0, fs 0 4 .rw 0 .now (.range 1 6)],
  rg 0x44 1 0 false .perPath [fs 0 6 .rw 0 .now (.range 0 48)],
  rg 0x48 1 0 false .perPath [fs 31 1 .ro 0 .none, fs 0 4 .ro 0 .none],
  rg 0x4c 1 0 false .perPath [fs 0 8 .rw 255],
  rg 0x80 12 4 false .perPath [fs 0 32 .rw 0]]

/-- Registers of page template POWER0 (18_power_clocks_start.md). -/
def regsPower0 : List RegSpec := [
  rg 0x40 1 0 false .perPath [fs 0 8 .rw 0 .now (.range 0 231)],
  rg 0x44 1 0 false (.win .domSel) [fs 0 2 .rw 0 .now (.notIn [3])],
  rg 0x48 1 0 false (.win .domSel) [fs 8 1 .w1c 0, fs 4 2 .ro 0 .none, fs 3 1 .ro 0 .none, fs 0 2 .ro 0 .none],
  rg 0x4c 1 0 false (.win .domSel) [fs 0 32 .ro 0 .none],
  rg 0x50 1 0 true .plain [fs 0 24 .rw 0],
  rg 0x54 1 0 false .plain [fs 0 20 .ro 0 .none],
  rg 0x80 15 4 false .plain [fs 0 32 .ro 0 .none]]

/-- Registers of page template POWER1 (18_power_clocks_start.md). -/
def regsPower1 : List RegSpec := [
  rg 0x40 1 0 false .plain [fs 4 1 .ro 0 .none, fs 0 1 .ro 0 .none],
  rg 0x44 1 0 false .plain [fs 0 32 .ro 0 .none],
  rg 0x48 1 0 false .plain [fs 0 32 .ro 0 .none],
  rg 0x4c 1 0 false .plain [fs 0 16 .ro 0 .none],
  rg 0x80 6 16 true .plain [fs 24 8 .rw 50 .now (.range 5 255), fs 16 8 .rw 5 .now (.range 2 255), fs 8 8 .rw 80 .now (.range 20 150), fs 0 8 .rw 40 .now (.range 10 70)],
  rg 0x84 6 16 false .plain [fs 0 16 .ro 0 .none],
  rg 0x88 6 16 false .plain [fs 0 16 .ro 0xffff .none],
  rg 0x8c 6 16 false .plain [fs 0 1 .w1s 0]]

/-- Registers of page template POWER2 (18_power_clocks_start.md). -/
def regsPower2 : List RegSpec := [
  rg 0x40 1 0 true .plain [fs 0 1 .rw 1],
  rg 0x44 1 0 false .plain [fs 0 12 .ro 0 .none, fs 16 1 .ro 0 .none],
  rg 0x48 1 0 true .plain [fs 0 6 .rw 63],
  rg 0x4c 1 0 true .plain [fs 0 32 .rw 0xffffffff],
  rg 0x50 1 0 true .plain [fs 0 32 .rw 0xffffffff],
  rg 0x54 1 0 false .plain [fs 0 6 .ro 0 .none]]

/-- Registers of page template POWER3 (18_power_clocks_start.md). -/
def regsPower3 : List RegSpec := [
  rg 0x40 1 0 true .plain [fs 0 16 .rw 100 .now (.range 1 10000)],
  rg 0x44 1 0 false .plain [fs 1 1 .w1s 0, fs 0 1 .w1s 0],
  rg 0x48 1 0 false .plain [fs 12 2 .ro 3 .none, fs 8 2 .ro 3 .none, fs 4 1 .ro 0 .none, fs 3 1 .ro 0 .none, fs 2 1 .ro 0 .none, fs 0 1 .ro 0 .none],
  rg 0x4c 1 0 false .plain [fs 0 32 .ro 0 .none]]

/-- Registers of page template POWER4 (18_power_clocks_start.md). -/
def regsPower4 : List RegSpec := [
  rg 0x40 1 0 true .plain [fs 8 1 .rw 1, fs 0 8 .rw 120 .now (.range 110 125)],
  rg 0x44 1 0 false .plain [fs 8 6 .ro 0 .none, fs 0 1 .w1c 0],
  rg 0x48 1 0 false .plain [fs 0 32 .ro 0 .none]]

/-- Registers of page template POWER8 (13_vbus_feeds.md). -/
def regsPower8 : List RegSpec := [
  rg 0x40 1 0 true .plain [fs 8 8 .rw 1 .now (.range 1 20), fs 1 1 .rw 1, fs 0 1 .rw 1],
  rg 0x44 1 0 true .plain [fs 16 10 .rw 0x249 .now (.range 450 590), fs 0 10 .rw 0x1a4 .now (.range 300 440)],
  rg 0x48 1 0 true .plain [fs 16 8 .rw 10 .now (.notIn [0]), fs 0 10 .rw 0x190 .now (.range 300 440)],
  rg 0x4c 1 0 true .plain [fs 16 16 .rw 0x1f4 .now (.range 100 10000), fs 0 16 .rw 0x1f4 .now (.range 100 10000)],
  rg 0x50 1 0 false .plain [fs 16 1 .ro 0 .none, fs 8 2 .ro 0 .none, fs 0 2 .ro 0 .none],
  rg 0x54 1 0 false .plain [fs 0 16 .ro 0 .none],
  rg 0x58 1 0 false .plain [fs 0 16 .ro 0 .none],
  rg 0x5c 1 0 false .plain [fs 0 24 .ro 0 .none],
  rg 0x60 1 0 false .plain [fs 0 16 .ro 0 .none],
  rg 0x64 1 0 false .plain [fs 0 16 .ro 0 .none],
  rg 0x68 1 0 false .plain [fs 0 24 .ro 0 .none],
  rg 0x6c 1 0 false .plain [fs 0 16 .ro 0 .none],
  rg 0x70 1 0 false .plain [fs 0 24 .ro 0 .none],
  rg 0x74 1 0 false .plain [fs 0 32 .ro 0 .none],
  rg 0x78 1 0 false .plain [fs 0 32 .ro 0 .none],
  rg 0x7c 1 0 false .plain [fs 0 32 .ro 0 .none],
  rg 0x80 1 0 false .plain [fs 0 32 .ro 0 .none],
  rg 0x84 1 0 false .plain [fs 0 32 .ro 0 .none],
  rg 0x88 1 0 false .plain [fs 0 32 .ro 0 .none],
  rg 0x8c 1 0 false .plain [fs 0 32 .ro 0 .none],
  rg 0x90 1 0 false .plain [fs 0 32 .ro 0 .none]]

/-- Registers of page template REPAIR0 (20_repair.md). -/
def regsRepair0 : List RegSpec := [
  rg 0x40 1 0 true .plain [fs 1 1 .rw 1, fs 0 1 .rwl 1],
  rg 0x44 1 0 false .plain [fs 24 1 .ro 0 .none, fs 16 2 .ro 2 .none, fs 0 11 .ro 0 .none],
  rg 0x48 1 0 false .plain [fs 0 32 .ro 0 .none],
  rg 0x4c 1 0 false .plain [fs 0 10 .ro 0 .none],
  rg 0x50 1 0 false .plain [fs 5 1 .ro 1 .none, fs 4 1 .ro 1 .none, fs 2 2 .ro 2 .none, fs 0 2 .ro 1 .none]]

/-- Registers of page template REPAIR1 (20_repair.md). -/
def regsRepair1 : List RegSpec := [
  rg 0x40 1 0 false .perPath [fs 0 10 .rw 0],
  rg 0x44 1 0 false (.win .repSel) [fs 0 32 .ro 0 .none],
  rg 0x48 1 0 false (.win .repSel) [fs 0 16 .ro 0 .none]]

/-- Registers of page template REPAIR2 (20_repair.md). -/
def regsRepair2 : List RegSpec := [
  rg 0x40 1 0 true .plain [fs 16 16 .rw 60 .now (.notIn [0]), fs 8 8 .rw 4 .now (.range 1 20), fs 0 1 .rwl 1],
  rg 0x44 1 0 false .plain [fs 31 1 .ro 0 .none, fs 16 12 .ro 0 .none, fs 0 12 .ro 0 .none],
  rg 0x48 1 0 false .plain [fs 20 6 .ro 0 .none, fs 0 20 .ro 0 .none],
  rg 0x4c 1 0 false .perPath [fs 0 5 .rw 0],
  rg 0x50 1 0 false (.win .ageSel) [fs 0 20 .ro 0 .none]]

/-- Registers of page template BIST16 (20_repair.md). -/
def regsBist16 : List RegSpec := [
  rg 0x40 1 0 true .plain [fs 0 1 .rw 0],
  rg 0x44 1 0 false .plain [fs 16 16 .ro 0 .none, fs 8 4 .ro 0 .none, fs 0 3 .ro 0 .none],
  rg 0x48 1 0 false .plain [fs 0 16 .ro 0 .none],
  rg 0x4c 1 0 false .plain [fs 8 1 .rwl 0, fs 0 4 .rwl 0],
  rg 0x50 1 0 false .perPath [fs 0 4 .rw 0],
  rg 0x54 1 0 false (.win .bistSel) [fs 8 8 .ro 0 .none, fs 0 2 .ro 0 .none],
  rg 0x58 1 0 false (.win .bistSel) [fs 0 32 .ro 0 .none],
  rg 0x5c 1 0 false (.win .bistSel) [fs 0 32 .ro 0 .none]]

/-- Registers of page template LANE32 (09_lanes.md). -/
def regsLane32 : List RegSpec := [
  rg 0x40 1 0 false .perPath [fs 8 2 .rw 0, fs 0 7 .rw 0 .now (.range 0 79)],
  rg 0x44 1 0 false .perPath [fs 0 6 .rw 0],
  rg 0x48 1 0 false .plain [fs 20 3 .ro 0 .none, fs 16 2 .ro 0 .none, fs 0 7 .ro 127 .none],
  rg 0x80 1 0 false (.win .lwMacro) [fs 8 1 .rw 0 .link, fs 0 1 .w1s 0],
  rg 0x84 1 0 false (.win .lwMacro) [fs 12 2 .ro 3 .none, fs 8 2 .ro 3 .none, fs 4 1 .ro 0 .none, fs 0 4 .ro 0 .none],
  rg 0x88 1 0 false (.win .lwMacro) [fs 0 32 .ro 0 .none],
  rg 0x8c 1 0 false (.win .lwMacro) [fs 16 6 .rw 0, fs 1 1 .w1s 0, fs 0 1 .w1s 0],
  rg 0x90 1 0 false (.win .lwMacro) [fs 16 16 .ro 0 .none, fs 8 6 .ro 0 .none, fs 3 1 .ro 0 .none, fs 2 1 .ro 0 .none, fs 1 1 .ro 0 .none, fs 0 1 .ro 0 .none],
  rg 0x94 1 0 false (.win .lwStep) [fs 0 32 .rw 0],
  rg 0x98 1 0 false (.win .lwMacro) [fs 8 6 .wo 0, fs 0 1 .wo 0],
  rg 0x9c 1 0 false (.win .lwMacro) [fs 16 8 .rw 16 .now (.notIn [0]), fs 0 16 .rw 0x3e8],
  rg 0x100 1 0 false (.win .lwLane) [fs 4 1 .rw 0 .link, fs 3 1 .rw 0, fs 2 1 .rw 1, fs 1 1 .rw 1, fs 0 1 .rw 1],
  rg 0x104 1 0 false (.win .lwLane) [fs 8 3 .ro 0 .none, fs 7 1 .ro 0 .none, fs 5 2 .ro 0 .none, fs 3 1 .ro 0 .none, fs 2 1 .w1c 0, fs 1 1 .ro 0 .none, fs 0 1 .ro 0 .none],
  rg 0x108 1 0 false (.win .lwLane) [fs 16 6 .ro 0 .none, fs 8 6 .ro 0 .none, fs 0 4 .ro 0 .none],
  rg 0x10c 1 0 false (.win .lwLane) [fs 0 5 .rw 16],
  rg 0x110 1 0 false (.win .lwLane) [fs 0 32 .rw 0],
  rg 0x114 1 0 false (.win .lwLane) [fs 0 32 .rw 0],
  rg 0x118 1 0 false (.win .lwLane) [fs 0 32 .rw 0],
  rg 0x11c 1 0 false (.win .lwLane) [fs 31 1 .w1s 0, fs 30 1 .w1s 0, fs 28 2 .rw 1 .now (.notIn [3]), fs 16 6 .rw 0, fs 8 8 .rw 0 .now (.notIn [128]), fs 0 6 .rw 20 .now (.range 16 40)],
  rg 0x120 1 0 false (.win .lwLane) [fs 1 2 .ro 0 .none, fs 0 1 .ro 0 .none],
  rg 0x124 1 0 false (.win .lwLane) [fs 0 32 .ro 0 .none],
  rg 0x128 1 0 false (.win .lwLane) [fs 0 32 .ro 0 .none],
  rg 0x12c 1 0 false (.win .lwLane) [fs 0 16 .ro 0 .none],
  rg 0x130 1 0 false (.win .lwLane) [fs 8 4 .rw 6 .now (.range 0 9), fs 5 1 .rw 0, fs 4 1 .rw 0, fs 1 1 .rw 0, fs 0 1 .rw 0],
  rg 0x134 1 0 false (.win .lwLane) [fs 0 32 .rw 0],
  rg 0x138 1 0 false (.win .lwLane) [fs 0 32 .rw 0],
  rg 0x13c 1 0 false (.win .lwLane) [fs 8 1 .w1s 0, fs 0 6 .rw 0 .now (.zeroOr 10 40 0)],
  rg 0x140 1 0 false (.win .lwLane) [fs 1 1 .w1c 0, fs 0 1 .ro 0 .none],
  rg 0x144 1 0 false (.win .lwLane) [fs 0 32 .ro 0 .none],
  rg 0x148 1 0 false (.win .lwLane) [fs 0 32 .ro 0 .none],
  rg 0x14c 1 0 false (.win .lwLane) [fs 0 32 .ro 0 .none],
  rg 0x150 1 0 false (.win .lwLane) [fs 0 2 .rw 0]]

/-- Registers of page template OTP48 (19_keys_lifecycle.md). -/
def regsOtp48 : List RegSpec := [
  rg 0x40 1 0 false .perPath [fs 0 11 .rw 0],
  rg 0x44 1 0 false (.win .otpSel) [fs 0 32 .ro 0 .none],
  rg 0x48 1 0 false .plain [fs 31 1 .w1s 0, fs 0 8 .rw 0],
  rg 0x4c 1 0 false .plain [fs 31 1 .ro 0 .none, fs 24 4 .ro 0 .none, fs 16 2 .ro 0 .none],
  rg 0x50 1 0 false .plain [fs 0 28 .ro 0 .none],
  rg 0x80 32 4 false .plain [fs 0 32 .rw 0]]

/-- Registers of page template SVCUSB (21_service_usb.md). -/
def regsSvcusb : List RegSpec := [
  rg 0x40 1 0 true .plain [fs 4 3 .rw 7, fs 2 1 .rw 1, fs 1 1 .rw 1, fs 0 1 .rw 1],
  rg 0x44 1 0 false .plain [fs 20 1 .ro 0 .none, fs 16 2 .ro 0 .none, fs 8 7 .ro 0 .none, fs 4 1 .ro 0 .none, fs 0 2 .ro 0 .none],
  rg 0x48 1 0 true .plain [fs 0 3 .rw 7],
  rg 0x4c 1 0 false .plain [fs 9 1 .ro 0 .none, fs 8 1 .ro 0 .none, fs 0 3 .rw 0],
  rg 0x50 1 0 false .plain [fs 0 19 .ro 0 .none],
  rg 0x54 1 0 false .plain [fs 0 32 .ro 0 .none],
  rg 0x58 1 0 false .plain [fs 0 32 .ro 0 .none],
  rg 0x5c 1 0 false .plain [fs 16 16 .ro 0 .none, fs 0 16 .ro 0 .none]]

/-- The registers of each page template beyond the header. -/
def pageRegs : PageKind → List RegSpec
  | .global0 => regsGlobal0
  | .global1 => regsGlobal1
  | .global2 => regsGlobal2
  | .time0 => regsTime0
  | .time1 => regsTime1
  | .time2 => regsTime2
  | .time3 => regsTime3
  | .axis => regsAxis
  | .event0 => regsEvent0
  | .event1 => regsEvent1
  | .event2 => regsEvent2
  | .sched0 => regsSched0
  | .sched1 => regsSched1
  | .sched2 => regsSched2
  | .sched3 => regsSched3
  | .sched4 => regsSched4
  | .sched5 => regsSched5
  | .mailbox => regsMailbox
  | .target => regsTarget
  | .hport0 => regsHport0
  | .hport1 => regsHport1
  | .mport => regsMport
  | .dport0 => regsDport0
  | .dport1 => regsDport1
  | .dport2 => regsDport2
  | .dport3 => regsDport3
  | .dport4 => regsDport4
  | .dport5 => regsDport5
  | .switch0 => regsSwitch0
  | .switch1 => regsSwitch1
  | .switch2 => regsSwitch2
  | .switch3 => regsSwitch3
  | .dir0 => regsDir0
  | .dir1 => regsDir1
  | .dir2 => regsDir2
  | .dir3 => regsDir3
  | .dir4 => regsDir4
  | .cream => regsCream
  | .guard0 => regsGuard0
  | .guard1 => regsGuard1
  | .guard2 => regsGuard2
  | .guard3 => regsGuard3
  | .scanout => regsScanout
  | .bridge0 => regsBridge0
  | .bridge1 => regsBridge1
  | .bridge2 => regsBridge2
  | .bridge3 => regsBridge3
  | .bridge4 => regsBridge4
  | .bridge5 => regsBridge5
  | .engine0 => regsEngine0
  | .engine1 => regsEngine1
  | .engpage => regsEngpage
  | .key0 => regsKey0
  | .key1 => regsKey1
  | .key2 => regsKey2
  | .power0 => regsPower0
  | .power1 => regsPower1
  | .power2 => regsPower2
  | .power3 => regsPower3
  | .power4 => regsPower4
  | .power8 => regsPower8
  | .repair0 => regsRepair0
  | .repair1 => regsRepair1
  | .repair2 => regsRepair2
  | .bist16 => regsBist16
  | .lane32 => regsLane32
  | .otp48 => regsOtp48
  | .svcusb => regsSvcusb

/-- The 366 pages in use (R20), template by template, in ascending order of their bases. -/
def pageTable : List PageSpec := [
  ⟨.global0, 0x0, 0x0, 1, 0x1, 0, false, 0x0⟩,
  ⟨.global1, 0x1000, 0x0, 1, 0x1, 1, false, 0x0⟩,
  ⟨.global2, 0x2000, 0x0, 1, 0x1, 2, false, 0x0⟩,
  ⟨.time0, 0x10000, 0x0, 1, 0x2, 0, false, 0x1⟩,
  ⟨.time1, 0x11000, 0x0, 1, 0x2, 1, false, 0x0⟩,
  ⟨.time2, 0x12000, 0x0, 1, 0x2, 2, false, 0x0⟩,
  ⟨.time3, 0x13000, 0x0, 1, 0x2, 3, false, 0x0⟩,
  ⟨.axis, 0x14000, 0x1000, 8, 0x2, 4, true, 0x41⟩,
  ⟨.event0, 0x20000, 0x0, 1, 0x3, 0, false, 0x78⟩,
  ⟨.event1, 0x21000, 0x0, 1, 0x3, 1, false, 0x0⟩,
  ⟨.event2, 0x22000, 0x0, 1, 0x3, 2, false, 0x0⟩,
  ⟨.sched0, 0x40000, 0x0, 1, 0x4, 0, false, 0x0⟩,
  ⟨.sched1, 0x41000, 0x0, 1, 0x4, 1, false, 0x0⟩,
  ⟨.sched2, 0x42000, 0x0, 1, 0x4, 2, false, 0x0⟩,
  ⟨.sched3, 0x43000, 0x0, 1, 0x4, 3, false, 0x0⟩,
  ⟨.sched4, 0x44000, 0x0, 1, 0x4, 4, false, 0x8⟩,
  ⟨.sched5, 0x45000, 0x0, 1, 0x4, 5, false, 0x0⟩,
  ⟨.mailbox, 0x80000, 0x1000, 32, 0x5, 0, true, 0x0⟩,
  ⟨.target, 0xc0000, 0x1000, 57, 0x3, 16, true, 0x0⟩,
  ⟨.hport0, 0x100000, 0x10000, 32, 0x10, 0, false, 0x2⟩,
  ⟨.hport1, 0x101000, 0x10000, 32, 0x10, 1, false, 0x0⟩,
  ⟨.mport, 0x300000, 0x10000, 16, 0x11, 0, false, 0xa⟩,
  ⟨.dport0, 0x400000, 0x10000, 16, 0x12, 0, false, 0x10⟩,
  ⟨.dport1, 0x401000, 0x10000, 16, 0x12, 1, false, 0x2⟩,
  ⟨.dport2, 0x402000, 0x10000, 16, 0x12, 2, false, 0x0⟩,
  ⟨.dport3, 0x403000, 0x10000, 16, 0x12, 3, false, 0x8⟩,
  ⟨.dport4, 0x404000, 0x10000, 16, 0x12, 4, false, 0xc0⟩,
  ⟨.dport5, 0x405000, 0x10000, 16, 0x12, 5, false, 0x2⟩,
  ⟨.switch0, 0x500000, 0x0, 1, 0x20, 0, false, 0x5⟩,
  ⟨.switch1, 0x501000, 0x0, 1, 0x20, 1, false, 0x41⟩,
  ⟨.switch2, 0x502000, 0x0, 1, 0x20, 2, false, 0x0⟩,
  ⟨.switch3, 0x503000, 0x0, 1, 0x20, 3, false, 0x0⟩,
  ⟨.dir0, 0x600000, 0x0, 1, 0x21, 0, false, 0x28⟩,
  ⟨.dir1, 0x601000, 0x0, 1, 0x21, 1, false, 0x0⟩,
  ⟨.dir2, 0x602000, 0x0, 1, 0x21, 2, false, 0x0⟩,
  ⟨.dir3, 0x603000, 0x0, 1, 0x21, 3, false, 0x21⟩,
  ⟨.dir4, 0x604000, 0x0, 1, 0x21, 4, false, 0x0⟩,
  ⟨.cream, 0x610000, 0x1000, 8, 0x21, 16, true, 0x0⟩,
  ⟨.guard0, 0x700000, 0x0, 1, 0x22, 0, false, 0x4⟩,
  ⟨.guard1, 0x701000, 0x0, 1, 0x22, 1, false, 0x0⟩,
  ⟨.guard2, 0x702000, 0x0, 1, 0x22, 2, false, 0x0⟩,
  ⟨.guard3, 0x703000, 0x0, 1, 0x22, 3, false, 0x0⟩,
  ⟨.scanout, 0x800000, 0x1000, 8, 0x23, 0, true, 0x0⟩,
  ⟨.bridge0, 0x900000, 0x0, 1, 0x24, 0, false, 0x0⟩,
  ⟨.bridge1, 0x901000, 0x0, 1, 0x24, 1, false, 0x0⟩,
  ⟨.bridge2, 0x902000, 0x0, 1, 0x24, 2, false, 0x0⟩,
  ⟨.bridge3, 0x903000, 0x0, 1, 0x24, 3, false, 0x0⟩,
  ⟨.bridge4, 0x904000, 0x0, 1, 0x24, 4, false, 0x0⟩,
  ⟨.bridge5, 0x905000, 0x0, 1, 0x24, 5, false, 0x0⟩,
  ⟨.engine0, 0xa00000, 0x0, 1, 0x25, 0, false, 0x15⟩,
  ⟨.engine1, 0xa01000, 0x0, 1, 0x25, 1, false, 0x0⟩,
  ⟨.engpage, 0xa10000, 0x1000, 24, 0x25, 16, true, 0x1⟩,
  ⟨.key0, 0x1000000, 0x0, 1, 0x30, 0, false, 0x1⟩,
  ⟨.key1, 0x1001000, 0x0, 1, 0x30, 1, false, 0x0⟩,
  ⟨.key2, 0x1002000, 0x0, 1, 0x30, 2, false, 0x0⟩,
  ⟨.power0, 0x1100000, 0x0, 1, 0x31, 0, false, 0x0⟩,
  ⟨.power1, 0x1101000, 0x0, 1, 0x31, 1, false, 0x5⟩,
  ⟨.power2, 0x1102000, 0x0, 1, 0x31, 2, false, 0x0⟩,
  ⟨.power3, 0x1103000, 0x0, 1, 0x31, 3, false, 0x5⟩,
  ⟨.power4, 0x1104000, 0x0, 1, 0x31, 4, false, 0x1⟩,
  ⟨.power8, 0x1108000, 0x0, 1, 0x31, 8, false, 0x55⟩,
  ⟨.repair0, 0x1200000, 0x0, 1, 0x32, 0, false, 0x0⟩,
  ⟨.repair1, 0x1201000, 0x0, 1, 0x32, 1, false, 0x0⟩,
  ⟨.repair2, 0x1202000, 0x0, 1, 0x32, 2, false, 0x0⟩,
  ⟨.bist16, 0x1210000, 0x0, 1, 0x32, 16, false, 0x0⟩,
  ⟨.lane32, 0x1220000, 0x0, 1, 0x32, 32, false, 0x4d⟩,
  ⟨.otp48, 0x1230000, 0x0, 1, 0x32, 48, false, 0x0⟩,
  ⟨.svcusb, 0x1300000, 0x0, 1, 0x33, 0, false, 0x0⟩]

/-- A run of event numbers: bits `bit0` to `bit0 + len - 1` of EVT_STAT of `count` pages, `pageStride` apart from
`page0`, are the events from `ev0 + evStride * n` (R368 and the page templates). -/
structure EvRow where
  page0      : Nat
  pageStride : Nat
  count      : Nat
  bit0       : Nat
  len        : Nat
  ev0        : Nat
  evStride   : Nat
deriving DecidableEq, Repr

/-- The event bits of every page template. -/
def evTable : List EvRow := [
  ⟨0x0, 0x0, 1, 0, 3, 0, 0⟩,
  ⟨0x1000, 0x0, 1, 0, 2, 48, 0⟩,
  ⟨0x2000, 0x0, 1, 0, 5, 32, 0⟩,
  ⟨0x10000, 0x0, 1, 0, 8, 3072, 0⟩,
  ⟨0x12000, 0x0, 1, 0, 32, 3088, 0⟩,
  ⟨0x13000, 0x0, 1, 0, 16, 3200, 0⟩,
  ⟨0x13000, 0x0, 1, 16, 16, 3216, 0⟩,
  ⟨0x14000, 0x1000, 8, 0, 8, 3136, 8⟩,
  ⟨0x20000, 0x0, 1, 0, 2, 4, 0⟩,
  ⟨0x20000, 0x0, 1, 2, 1, 8, 0⟩,
  ⟨0x20000, 0x0, 1, 3, 4, 40, 0⟩,
  ⟨0x40000, 0x0, 1, 0, 3, 128, 0⟩,
  ⟨0x44000, 0x0, 1, 0, 5, 144, 0⟩,
  ⟨0x80000, 0x1000, 32, 0, 2, 64, 2⟩,
  ⟨0x100000, 0x10000, 32, 0, 16, 256, 32⟩,
  ⟨0x101000, 0x10000, 32, 0, 16, 272, 32⟩,
  ⟨0x300000, 0x10000, 16, 0, 32, 1280, 32⟩,
  ⟨0x400000, 0x10000, 16, 0, 8, 1792, 64⟩,
  ⟨0x401000, 0x10000, 16, 0, 8, 1800, 64⟩,
  ⟨0x402000, 0x10000, 16, 0, 8, 1808, 64⟩,
  ⟨0x403000, 0x10000, 16, 0, 8, 1816, 64⟩,
  ⟨0x404000, 0x10000, 16, 0, 16, 1824, 64⟩,
  ⟨0x405000, 0x10000, 16, 0, 16, 1840, 64⟩,
  ⟨0x500000, 0x0, 1, 0, 4, 2816, 0⟩,
  ⟨0x501000, 0x0, 1, 0, 7, 2824, 0⟩,
  ⟨0x600000, 0x0, 1, 0, 6, 2832, 0⟩,
  ⟨0x601000, 0x0, 1, 0, 1, 2838, 0⟩,
  ⟨0x602000, 0x0, 1, 0, 2, 2848, 0⟩,
  ⟨0x603000, 0x0, 1, 0, 7, 2840, 0⟩,
  ⟨0x610000, 0x1000, 8, 0, 4, 2880, 4⟩,
  ⟨0x700000, 0x0, 1, 0, 3, 2944, 0⟩,
  ⟨0x703000, 0x0, 1, 0, 2, 2948, 0⟩,
  ⟨0x800000, 0x1000, 8, 0, 20, 3328, 32⟩,
  ⟨0x900000, 0x0, 1, 0, 5, 3584, 0⟩,
  ⟨0x903000, 0x0, 1, 0, 2, 3600, 0⟩,
  ⟨0x905000, 0x0, 1, 0, 2, 3616, 0⟩,
  ⟨0xa00000, 0x0, 1, 0, 7, 3840, 0⟩,
  ⟨0xa10000, 0x1000, 24, 0, 1, 3872, 1⟩,
  ⟨0x1000000, 0x0, 1, 0, 4, 4064, 0⟩,
  ⟨0x1100000, 0x0, 1, 0, 1, 16, 0⟩,
  ⟨0x1101000, 0x0, 1, 0, 5, 10, 0⟩,
  ⟨0x1102000, 0x0, 1, 0, 3, 18, 0⟩,
  ⟨0x1103000, 0x0, 1, 0, 5, 24, 0⟩,
  ⟨0x1104000, 0x0, 1, 0, 2, 30, 0⟩,
  ⟨0x1108000, 0x0, 1, 0, 7, 160, 0⟩,
  ⟨0x1200000, 0x0, 1, 0, 5, 3968, 0⟩,
  ⟨0x1202000, 0x0, 1, 0, 2, 3973, 0⟩,
  ⟨0x1210000, 0x0, 1, 0, 2, 3976, 0⟩,
  ⟨0x1220000, 0x0, 1, 0, 7, 3904, 0⟩,
  ⟨0x1230000, 0x0, 1, 0, 2, 4080, 0⟩,
  ⟨0x1300000, 0x0, 1, 0, 4, 52, 0⟩]

end Sys2Proof.Machine
end

