-- ==== Sys2Proof/Machine/Fields.lean ====
section
/-! DEFINITION. A name for every register field of the management space, from the same field tables as the register
map: `n` is the instance of the page's unit, `p` the index of the path that a banked register belongs to, `w` the value
of the window's select, `i` the index of the register in its array. -/

namespace Sys2Proof.Machine.F

/-! 18_power_clocks_start.md: CHIP_ID, template GLOBAL0. -/

def CHIP_ID_PART : Fld := ⟨0, 0x40, 16, 16, 0x4832⟩
def CHIP_ID_REV : Fld := ⟨0, 0x40, 8, 8, 160⟩
def CHIP_ID_GRADE : Fld := ⟨0, 0x40, 0, 8, 1⟩
def SERIAL_LO_SERIAL : Fld := ⟨0, 0x44, 0, 32, 0⟩
def SERIAL_HI_SERIAL : Fld := ⟨0, 0x48, 0, 32, 0⟩
def RST_CAUSE_RAIL : Fld := ⟨0, 0x4c, 8, 8, 0⟩
def RST_CAUSE_CAUSE : Fld := ⟨0, 0x4c, 0, 4, 0⟩
def RST_CMD_KEY : Fld := ⟨0, 0x50, 8, 8, 0⟩
def RST_CMD_SHUTDOWN : Fld := ⟨0, 0x50, 1, 1, 0⟩
def RST_CMD_WARM : Fld := ⟨0, 0x50, 0, 1, 0⟩
def START_STAT_SLOT : Fld := ⟨0, 0x54, 8, 1, 0⟩
def START_STAT_PHASE : Fld := ⟨0, 0x54, 0, 3, 0⟩
def START_US_US : Fld := ⟨0, 0x58, 0, 32, 0⟩
def BOOT_CTRL_WDOG_S : Fld := ⟨0, 0x5c, 8, 8, 2⟩
def BOOT_CTRL_RECOVERY_EN : Fld := ⟨0, 0x5c, 1, 1, 1⟩
def BOOT_CTRL_SLOT_PREF : Fld := ⟨0, 0x5c, 0, 1, 0⟩
def WARM_COUNT_COUNT : Fld := ⟨0, 0x60, 0, 32, 0⟩

/-! 19_keys_lifecycle.md: LC_STAT, template GLOBAL1. -/

def LC_STAT_NEXT : Fld := ⟨0, 0x1040, 8, 3, 0⟩
def LC_STAT_PENDING : Fld := ⟨0, 0x1040, 4, 1, 0⟩
def LC_STAT_STATE : Fld := ⟨0, 0x1040, 0, 3, 0⟩
def LC_REQ_KEY : Fld := ⟨0, 0x1044, 8, 8, 0⟩
def LC_REQ_TARGET : Fld := ⟨0, 0x1044, 0, 3, 0⟩
def LC_WORDS_BLOWN : Fld := ⟨0, 0x1048, 0, 8, 0⟩
def JTAG_STAT_LEVEL : Fld := ⟨0, 0x104c, 0, 2, 0⟩

/-! 02_management_space.md: TXN_OPEN, template GLOBAL2. -/

def TXN_OPEN_TAG : Fld := ⟨0, 0x2040, 0, 16, 0⟩
def TXN_CUR_TAG (p : Nat) : Fld := ⟨p + 1, 0x2044, 0, 16, 0⟩
def TXN_PARAM_LO_VALUE (p : Nat) : Fld := ⟨p + 1, 0x2048, 0, 32, 0⟩
def TXN_PARAM_HI_VALUE (p : Nat) : Fld := ⟨p + 1, 0x204c, 0, 32, 0⟩
def TXN_COMMIT_SO : Fld := ⟨0, 0x2050, 24, 3, 0⟩
def TXN_COMMIT_DIR : Fld := ⟨0, 0x2050, 23, 1, 0⟩
def TXN_COMMIT_AXIS : Fld := ⟨0, 0x2050, 20, 3, 0⟩
def TXN_COMMIT_COND : Fld := ⟨0, 0x2050, 16, 4, 0⟩
def TXN_COMMIT_GEN : Fld := ⟨0, 0x2050, 12, 4, 0⟩
def TXN_COMMIT_SLOT : Fld := ⟨0, 0x2050, 0, 3, 0⟩
def TXN_ABORT_GEN : Fld := ⟨0, 0x2054, 12, 4, 0⟩
def TXN_ABORT_SLOT : Fld := ⟨0, 0x2054, 0, 3, 0⟩
def CFG_SEQ_COUNT : Fld := ⟨0, 0x2058, 0, 32, 0⟩
def TXN_IDLE_LIMIT_MS : Fld := ⟨0, 0x205c, 0, 16, 100⟩
def FM_PATH_REQ : Fld := ⟨0, 0x2060, 0, 8, 255⟩
def ACC_ERR_COUNT_COUNT : Fld := ⟨0, 0x2064, 0, 32, 0⟩
def ACC_ERR_LOG_REASON : Fld := ⟨0, 0x2068, 8, 4, 0⟩
def ACC_ERR_LOG_REQ : Fld := ⟨0, 0x2068, 0, 8, 255⟩
def ACC_ERR_ADDR_OFFSET : Fld := ⟨0, 0x206c, 0, 26, 0⟩
def CTIME_LO_NS : Fld := ⟨0, 0x2070, 0, 32, 0⟩
def CTIME_HI_NS : Fld := ⟨0, 0x2074, 0, 32, 0⟩
def TXN_STAT_COUNT (i : Nat) : Fld := ⟨0, 0x2080 + 4 * i, 16, 13, 0⟩
def TXN_STAT_OPENER (i : Nat) : Fld := ⟨0, 0x2080 + 4 * i, 8, 8, 255⟩
def TXN_STAT_GEN (i : Nat) : Fld := ⟨0, 0x2080 + 4 * i, 4, 4, 0⟩
def TXN_STAT_QUAR (i : Nat) : Fld := ⟨0, 0x2080 + 4 * i, 3, 1, 0⟩
def TXN_STAT_STATE (i : Nat) : Fld := ⟨0, 0x2080 + 4 * i, 0, 3, 0⟩
def TXN_RESULT_SEQ (i : Nat) : Fld := ⟨0, 0x20a0 + 4 * i, 8, 24, 0⟩
def TXN_RESULT_GEN (i : Nat) : Fld := ⟨0, 0x20a0 + 4 * i, 4, 4, 0⟩
def TXN_RESULT_RESULT (i : Nat) : Fld := ⟨0, 0x20a0 + 4 * i, 0, 4, 0⟩
def STALE_COUNT_COUNT (i : Nat) : Fld := ⟨0, 0x20c0 + 4 * i, 0, 32, 0⟩

/-! 03_timebases.md: CLK_CTRL, template TIME0. -/

def TIME0_CLK_CTRL_PPS_SEL : Fld := ⟨0, 0x10040, 2, 2, 0⟩
def TIME0_CLK_CTRL_SERVO_SRC : Fld := ⟨0, 0x10040, 0, 2, 0⟩
def INCR_ADJ_ADJ : Fld := ⟨0, 0x10044, 0, 32, 0⟩
def NOW_LO_NS : Fld := ⟨0, 0x10048, 0, 32, 0⟩
def NOW_HI_NS : Fld := ⟨0, 0x1004c, 0, 32, 0⟩
def NOW_FRAC_FRAC : Fld := ⟨0, 0x10050, 0, 32, 0⟩
def STEP_LO_NS : Fld := ⟨0, 0x10054, 0, 32, 0⟩
def STEP_HI_NS : Fld := ⟨0, 0x10058, 0, 32, 0⟩
def STEP_GO_GO : Fld := ⟨0, 0x1005c, 0, 1, 0⟩
def SLEW_PPM_PPM : Fld := ⟨0, 0x10060, 0, 11, 0x1f4⟩
def TIME0_CLK_STAT_SLAVE_PORT : Fld := ⟨0, 0x10064, 8, 6, 63⟩
def TIME0_CLK_STAT_GM : Fld := ⟨0, 0x10064, 4, 1, 0⟩
def TIME0_CLK_STAT_SERVO : Fld := ⟨0, 0x10064, 2, 2, 0⟩
def TIME0_CLK_STAT_COLD : Fld := ⟨0, 0x10064, 1, 1, 0⟩
def TIME0_CLK_STAT_SLEWING : Fld := ⟨0, 0x10064, 0, 1, 0⟩
def SLEW_REMAIN_NS : Fld := ⟨0, 0x10068, 0, 32, 0⟩
def STEP_COUNT_COUNT : Fld := ⟨0, 0x1006c, 0, 32, 0⟩
def TIME0_LATE_COUNT_COUNT : Fld := ⟨0, 0x10070, 0, 32, 0⟩
def PTP_CTRL_PRIORITY2 : Fld := ⟨0, 0x10074, 24, 8, 128⟩
def PTP_CTRL_PRIORITY1 : Fld := ⟨0, 0x10074, 16, 8, 128⟩
def PTP_CTRL_DOMAIN : Fld := ⟨0, 0x10074, 8, 8, 0⟩
def PTP_CTRL_ONE_STEP : Fld := ⟨0, 0x10074, 2, 1, 0⟩
def PTP_CTRL_PROFILE : Fld := ⟨0, 0x10074, 0, 2, 0⟩
def PTP_DOCK_EN_EN : Fld := ⟨0, 0x10078, 0, 16, 0⟩
def PTP_DOOR_EN_EN : Fld := ⟨0, 0x1007c, 0, 32, 0⟩

/-! 03_timebases.md: ASYM_IN, template TIME1. -/

def ASYM_IN_PS (i : Nat) : Fld := ⟨0, 0x11040 + 8 * i, 0, 32, 0⟩
def ASYM_EG_PS (i : Nat) : Fld := ⟨0, 0x11044 + 8 * i, 0, 32, 0⟩
def PIN_OFS_PS (i : Nat) : Fld := ⟨0, 0x11240 + 4 * i, 0, 32, 0⟩

/-! 03_timebases.md: TCTRL, template TIME2. -/

def TCTRL_DISARM (i : Nat) : Fld := ⟨0, 0x12040 + 32 * i, 11, 1, 0⟩
def TCTRL_ARM (i : Nat) : Fld := ⟨0, 0x12040 + 32 * i, 10, 1, 0⟩
def TCTRL_ACTIVE (i : Nat) : Fld := ⟨0, 0x12040 + 32 * i, 8, 1, 0⟩
def TCTRL_DIR (i : Nat) : Fld := ⟨0, 0x12040 + 32 * i, 7, 1, 0⟩
def TCTRL_AXIS (i : Nat) : Fld := ⟨0, 0x12040 + 32 * i, 4, 3, 0⟩
def TCTRL_POL (i : Nat) : Fld := ⟨0, 0x12040 + 32 * i, 3, 1, 0⟩
def TCTRL_MODE (i : Nat) : Fld := ⟨0, 0x12040 + 32 * i, 0, 3, 0⟩
def TWIDTH_CYCLES (i : Nat) : Fld := ⟨0, 0x12044 + 32 * i, 0, 24, 1⟩
def TPARAM_LO_VALUE (i : Nat) : Fld := ⟨0, 0x12048 + 32 * i, 0, 32, 0⟩
def TPARAM_HI_VALUE (i : Nat) : Fld := ⟨0, 0x1204c + 32 * i, 0, 32, 0⟩
def TPERIOD_LO_VALUE (i : Nat) : Fld := ⟨0, 0x12050 + 32 * i, 0, 32, 0⟩
def TPERIOD_HI_VALUE (i : Nat) : Fld := ⟨0, 0x12054 + 32 * i, 0, 32, 0⟩
def TLEAD_NS (i : Nat) : Fld := ⟨0, 0x12058 + 32 * i, 0, 32, 0⟩
def TSTAT_FIRE_COUNT (i : Nat) : Fld := ⟨0, 0x1205c + 32 * i, 16, 16, 0⟩
def TSTAT_OUTPUT (i : Nat) : Fld := ⟨0, 0x1205c + 32 * i, 2, 1, 0⟩
def TSTAT_LATE (i : Nat) : Fld := ⟨0, 0x1205c + 32 * i, 1, 1, 0⟩
def TSTAT_ARMED (i : Nat) : Fld := ⟨0, 0x1205c + 32 * i, 0, 1, 0⟩

/-! 03_timebases.md: CAP_CTRL, template TIME3. -/

def CAP_CTRL_FILTER (i : Nat) : Fld := ⟨0, 0x13040 + 32 * i, 12, 8, 0⟩
def CAP_CTRL_AXIS_EN (i : Nat) : Fld := ⟨0, 0x13040 + 32 * i, 7, 1, 0⟩
def CAP_CTRL_AXIS (i : Nat) : Fld := ⟨0, 0x13040 + 32 * i, 4, 3, 0⟩
def CAP_CTRL_EDGE (i : Nat) : Fld := ⟨0, 0x13040 + 32 * i, 1, 2, 1⟩
def CAP_CTRL_EN (i : Nat) : Fld := ⟨0, 0x13040 + 32 * i, 0, 1, 0⟩
def CAP_TIME_LO_NS (i : Nat) : Fld := ⟨0, 0x13044 + 32 * i, 0, 32, 0⟩
def CAP_TIME_HI_NS (i : Nat) : Fld := ⟨0, 0x13048 + 32 * i, 0, 32, 0⟩
def CAP_POS_LO_POS (i : Nat) : Fld := ⟨0, 0x1304c + 32 * i, 0, 32, 0⟩
def CAP_POS_HI_POS (i : Nat) : Fld := ⟨0, 0x13050 + 32 * i, 0, 32, 0⟩
def CAP_STAT_OVF_COUNT (i : Nat) : Fld := ⟨0, 0x13054 + 32 * i, 16, 16, 0⟩
def CAP_STAT_EDGE (i : Nat) : Fld := ⟨0, 0x13054 + 32 * i, 8, 1, 0⟩
def CAP_STAT_FILL (i : Nat) : Fld := ⟨0, 0x13054 + 32 * i, 0, 5, 0⟩
def CAP_POP_POP (i : Nat) : Fld := ⟨0, 0x13058 + 32 * i, 0, 1, 0⟩
def SYNC_CTRL_LOST (i : Nat) : Fld := ⟨0, 0x13240 + 16 * i, 16, 1, 0⟩
def SYNC_CTRL_FILTER (i : Nat) : Fld := ⟨0, 0x13240 + 16 * i, 8, 8, 0⟩
def SYNC_CTRL_EDGE (i : Nat) : Fld := ⟨0, 0x13240 + 16 * i, 1, 1, 0⟩
def SYNC_CTRL_EN (i : Nat) : Fld := ⟨0, 0x13240 + 16 * i, 0, 1, 0⟩
def SYNC_LAST_LO_NS (i : Nat) : Fld := ⟨0, 0x13244 + 16 * i, 0, 32, 0⟩
def SYNC_LAST_HI_NS (i : Nat) : Fld := ⟨0, 0x13248 + 16 * i, 0, 32, 0⟩
def SYNC_PERIOD_NS (i : Nat) : Fld := ⟨0, 0x1324c + 16 * i, 0, 32, 0⟩

/-! 03_timebases.md: AX_CTRL, template AXIS. -/

def AX_CTRL_FILTER (n : Nat) : Fld := ⟨0, 0x14040 + 0x1000 * n, 16, 4, 0⟩
def AX_CTRL_POLICY (n : Nat) : Fld := ⟨0, 0x14040 + 0x1000 * n, 8, 2, 0⟩
def AX_CTRL_Z_MODE (n : Nat) : Fld := ⟨0, 0x14040 + 0x1000 * n, 5, 2, 0⟩
def AX_CTRL_INVERT (n : Nat) : Fld := ⟨0, 0x14040 + 0x1000 * n, 4, 1, 0⟩
def AX_CTRL_DECODE (n : Nat) : Fld := ⟨0, 0x14040 + 0x1000 * n, 2, 2, 0⟩
def AX_CTRL_SOURCE (n : Nat) : Fld := ⟨0, 0x14040 + 0x1000 * n, 0, 2, 0⟩
def SCALE_LO_FRAC (n : Nat) : Fld := ⟨0, 0x14044 + 0x1000 * n, 0, 32, 0⟩
def SCALE_HI_INT (n : Nat) : Fld := ⟨0, 0x14048 + 0x1000 * n, 0, 32, 1⟩
def OFFSET_LO_POS (n : Nat) : Fld := ⟨0, 0x1404c + 0x1000 * n, 0, 32, 0⟩
def OFFSET_HI_POS (n : Nat) : Fld := ⟨0, 0x14050 + 0x1000 * n, 0, 32, 0⟩
def COUNT_LO_COUNT (n : Nat) : Fld := ⟨0, 0x14054 + 0x1000 * n, 0, 32, 0⟩
def COUNT_HI_COUNT (n : Nat) : Fld := ⟨0, 0x14058 + 0x1000 * n, 0, 32, 0⟩
def POS_LO_POS (n : Nat) : Fld := ⟨0, 0x1405c + 0x1000 * n, 0, 32, 0⟩
def POS_HI_POS (n : Nat) : Fld := ⟨0, 0x14060 + 0x1000 * n, 0, 32, 0⟩
def VEL_VEL (n : Nat) : Fld := ⟨0, 0x14064 + 0x1000 * n, 0, 32, 0⟩
def VEL_WINDOW_US (n : Nat) : Fld := ⟨0, 0x14068 + 0x1000 * n, 0, 16, 100⟩
def STOP_TIMEOUT_US (n : Nat) : Fld := ⟨0, 0x1406c + 0x1000 * n, 0, 24, 0x2710⟩
def VEL_LIMIT_KCPS (n : Nat) : Fld := ⟨0, 0x14070 + 0x1000 * n, 0, 16, 0x4e20⟩
def AX_STAT_ZBA (n : Nat) : Fld := ⟨0, 0x14074 + 0x1000 * n, 8, 3, 0⟩
def AX_STAT_RET_TRACK (n : Nat) : Fld := ⟨0, 0x14074 + 0x1000 * n, 7, 1, 0⟩
def AX_STAT_HOMED (n : Nat) : Fld := ⟨0, 0x14074 + 0x1000 * n, 6, 1, 0⟩
def AX_STAT_Z_SEEN (n : Nat) : Fld := ⟨0, 0x14074 + 0x1000 * n, 5, 1, 0⟩
def AX_STAT_OVERSPEED (n : Nat) : Fld := ⟨0, 0x14074 + 0x1000 * n, 4, 1, 0⟩
def AX_STAT_DIR (n : Nat) : Fld := ⟨0, 0x14074 + 0x1000 * n, 3, 1, 0⟩
def AX_STAT_STOPPED (n : Nat) : Fld := ⟨0, 0x14074 + 0x1000 * n, 2, 1, 1⟩
def AX_STAT_LOST (n : Nat) : Fld := ⟨0, 0x14074 + 0x1000 * n, 1, 1, 0⟩
def AX_STAT_UNCERTAIN (n : Nat) : Fld := ⟨0, 0x14074 + 0x1000 * n, 0, 1, 0⟩
def AX_CMD_LOAD (n : Nat) : Fld := ⟨0, 0x14078 + 0x1000 * n, 1, 1, 0⟩
def AX_CMD_CLEAR (n : Nat) : Fld := ⟨0, 0x14078 + 0x1000 * n, 0, 1, 0⟩
def COUNT_LOAD_LO_COUNT (n : Nat) : Fld := ⟨0, 0x1407c + 0x1000 * n, 0, 32, 0⟩
def COUNT_LOAD_HI_COUNT (n : Nat) : Fld := ⟨0, 0x14080 + 0x1000 * n, 0, 32, 0⟩
def Z_COUNT_LO_COUNT (n : Nat) : Fld := ⟨0, 0x14084 + 0x1000 * n, 0, 32, 0⟩
def Z_COUNT_HI_COUNT (n : Nat) : Fld := ⟨0, 0x14088 + 0x1000 * n, 0, 32, 0⟩
def SW_DELTA_DELTA (n : Nat) : Fld := ⟨0, 0x1408c + 0x1000 * n, 0, 32, 0⟩
def ILLEGAL_COUNT_COUNT (n : Nat) : Fld := ⟨0, 0x14090 + 0x1000 * n, 0, 32, 0⟩
def EDGE_TIME_LO_NS (n : Nat) : Fld := ⟨0, 0x14094 + 0x1000 * n, 0, 32, 0⟩
def EDGE_TIME_HI_NS (n : Nat) : Fld := ⟨0, 0x14098 + 0x1000 * n, 0, 32, 0⟩
def POLICY_COUNT_COUNT (n : Nat) : Fld := ⟨0, 0x1409c + 0x1000 * n, 0, 32, 0⟩

/-! 16_events.md: EV_CTRL, template EVENT0. -/

def EV_CTRL_EN : Fld := ⟨0, 0x20040, 0, 1, 1⟩
def HELD_COUNT_COUNT : Fld := ⟨0, 0x20044, 0, 32, 0⟩
def DELIV_COUNT_COUNT : Fld := ⟨0, 0x20048, 0, 32, 0⟩
def PF_LEVEL (i : Nat) : Fld := ⟨0, 0x20060 + 4 * i, 20, 1, 0⟩
def PF_EDGE (i : Nat) : Fld := ⟨0, 0x20060 + 4 * i, 16, 2, 1⟩
def PF_CYCLES (i : Nat) : Fld := ⟨0, 0x20060 + 4 * i, 0, 12, 25⟩

/-! 16_events.md: EV_SEL, template EVENT1. -/

def EV_SEL_EVENT (p : Nat) : Fld := ⟨p + 1, 0x21040, 0, 12, 0⟩
def EV_ROUTE_SET (w : Nat) : Fld := ⟨w + 1, 0x21044, 0, 6, 0⟩
def EV_COUNT_COUNT (w : Nat) : Fld := ⟨w + 1, 0x21048, 0, 32, 0⟩
def EV_STATE_FAST (w : Nat) : Fld := ⟨w + 1, 0x2104c, 16, 1, 0⟩
def EV_STATE_TARGET (w : Nat) : Fld := ⟨w + 1, 0x2104c, 8, 7, 127⟩
def EV_STATE_STATE (w : Nat) : Fld := ⟨w + 1, 0x2104c, 0, 3, 0⟩

/-! 16_events.md: SET_SEL, template EVENT2. -/

def SET_SEL_SET (p : Nat) : Fld := ⟨p + 1, 0x22040, 0, 6, 0⟩
def SET_LO_TARGETS (w : Nat) : Fld := ⟨w + 1, 0x22044, 0, 32, 0⟩
def SET_HI_TARGETS (w : Nat) : Fld := ⟨w + 1, 0x22048, 0, 25, (if w = 0 then 1 else 0)⟩
def SET_PTR_PTR (w : Nat) : Fld := ⟨w + 1, 0x2204c, 0, 6, 0⟩

/-! 05_scheduling_energy.md: SCHED_CTRL, template SCHED0. -/

def SCHED_CTRL_Q_MGMT : Fld := ⟨0, 0x40040, 16, 2, 0⟩
def SCHED_CTRL_WSCALE_EN : Fld := ⟨0, 0x40040, 0, 1, 1⟩
def SCHED0_LATE_COUNT_COUNT : Fld := ⟨0, 0x40044, 0, 32, 0⟩
def WAKE_LATE_COUNT_COUNT : Fld := ⟨0, 0x40048, 0, 32, 0⟩
def RESLIP_COUNT_COUNT : Fld := ⟨0, 0x4004c, 0, 32, 0⟩
def WHEEL_FILL_ENTRIES : Fld := ⟨0, 0x40050, 0, 18, 0⟩
def WHEEL_PEAK_RESET : Fld := ⟨0, 0x40054, 31, 1, 0⟩
def WHEEL_PEAK_ENTRIES : Fld := ⟨0, 0x40054, 0, 18, 0⟩
def OVF_FILL_ENTRIES : Fld := ⟨0, 0x40058, 0, 18, 0⟩
def AXW_WIDTH_WIDTH (i : Nat) : Fld := ⟨0, 0x40060 + 4 * i, 0, 32, 0x10000⟩
def AXW_STAT_SLOT (i : Nat) : Fld := ⟨0, 0x40080 + 4 * i, 16, 10, 0⟩
def AXW_STAT_ITEMS (i : Nat) : Fld := ⟨0, 0x40080 + 4 * i, 0, 16, 0⟩

/-! 05_scheduling_energy.md: QSEL, template SCHED1. -/

def QSEL_PORT (p : Nat) : Fld := ⟨p + 1, 0x41040, 0, 7, 0⟩
def QCFG_SH_EN (w i : Nat) : Fld := ⟨w + 1, 0x41080 + 4 * i, 31, 1, 0⟩
def QCFG_SHAPER (w i : Nat) : Fld := ⟨w + 1, 0x41080 + 4 * i, 16, 12, 0⟩
def QCFG_EC (w i : Nat) : Fld := ⟨w + 1, 0x41080 + 4 * i, 12, 3, (resetEc w)⟩
def QCFG_WEIGHT (w i : Nat) : Fld := ⟨w + 1, 0x41080 + 4 * i, 0, 12, 16⟩
def QSTAT_DEPTH (w i : Nat) : Fld := ⟨w + 1, 0x410c0 + 4 * i, 0, 20, 0⟩
def QDRR_QE (w i : Nat) : Fld := ⟨w + 1, 0x41100 + 4 * i, 16, 12, 0⟩
def QDRR_DEFICIT (w i : Nat) : Fld := ⟨w + 1, 0x41100 + 4 * i, 0, 13, 0⟩

/-! 05_scheduling_energy.md: SH_SEL, template SCHED2. -/

def SH_SEL_SH (p : Nat) : Fld := ⟨p + 1, 0x42040, 0, 12, 0⟩
def SH_CTRL_EN (w : Nat) : Fld := ⟨w + 1, 0x42044, 31, 1, 0⟩
def SH_CTRL_PARENT_EN (w : Nat) : Fld := ⟨w + 1, 0x42044, 28, 1, 0⟩
def SH_CTRL_PARENT (w : Nat) : Fld := ⟨w + 1, 0x42044, 16, 12, 0⟩
def SH_INTERVAL_TICKS (w : Nat) : Fld := ⟨w + 1, 0x42048, 0, 24, 0x400⟩
def SH_QUANTUM_BYTES (w : Nat) : Fld := ⟨w + 1, 0x4204c, 0, 24, 0x100⟩
def SH_BURST_BYTES (w : Nat) : Fld := ⟨w + 1, 0x42050, 0, 24, 0x1000⟩
def SH_TOKENS_BYTES (w : Nat) : Fld := ⟨w + 1, 0x42054, 0, 32, 0⟩
def SH_STAT_PENDING (w : Nat) : Fld := ⟨w + 1, 0x42058, 1, 1, 0⟩
def SH_STAT_ELIGIBLE (w : Nat) : Fld := ⟨w + 1, 0x42058, 0, 1, 0⟩

/-! 05_scheduling_energy.md: DLAT_ADJ, template SCHED3. -/

def DLAT_ADJ_NS (i : Nat) : Fld := ⟨0, 0x43040 + 4 * i, 0, 32, 0⟩
def DLAT_MEAS_NS (i : Nat) : Fld := ⟨0, 0x43140 + 4 * i, 0, 20, 0⟩
def DLAT_FIXED_LO_MASK : Fld := ⟨0, 0x43240, 0, 32, 0⟩
def DLAT_FIXED_HI_MASK : Fld := ⟨0, 0x43244, 0, 32, 0⟩

/-! 05_scheduling_energy.md: GOV_CTRL, template SCHED4. -/

def GOV_CTRL_CAP_PCT : Fld := ⟨0, 0x44040, 16, 8, 25⟩
def GOV_CTRL_GUARD_PCT : Fld := ⟨0, 0x44040, 8, 8, 50⟩
def GOV_CTRL_ALLOW_DEEP_D : Fld := ⟨0, 0x44040, 2, 1, 1⟩
def GOV_CTRL_ALLOW_DEEP_HM : Fld := ⟨0, 0x44040, 1, 1, 0⟩
def GOV_CTRL_EN : Fld := ⟨0, 0x44040, 0, 1, 1⟩
def TJ_LIMIT_DEGC : Fld := ⟨0, 0x44044, 0, 8, 105⟩
def P_DIE_LIMIT_W : Fld := ⟨0, 0x44048, 0, 10, 0x109⟩
def P_FEEDA_LIMIT_W : Fld := ⟨0, 0x4404c, 0, 16, 0⟩
def P_FEEDB_LIMIT_W : Fld := ⟨0, 0x44050, 0, 16, 0⟩
def P_DOCK_LIMIT_W : Fld := ⟨0, 0x44054, 0, 16, 0⟩
def LADDER_PI : Fld := ⟨0, 0x44058, 24, 8, 0⟩
def LADDER_CAUSE : Fld := ⟨0, 0x44058, 16, 4, 0⟩
def LADDER_MAX_LEVEL : Fld := ⟨0, 0x44058, 8, 3, 6⟩
def LADDER_LEVEL : Fld := ⟨0, 0x44058, 0, 3, 0⟩
def RATIO_DOCK : Fld := ⟨0, 0x4405c, 24, 8, 0⟩
def RATIO_FEEDB : Fld := ⟨0, 0x4405c, 16, 8, 0⟩
def RATIO_FEEDA : Fld := ⟨0, 0x4405c, 8, 8, 0⟩
def RATIO_DIE : Fld := ⟨0, 0x4405c, 0, 8, 0⟩
def TJ_MAX_SENSOR : Fld := ⟨0, 0x44060, 8, 6, 0⟩
def TJ_MAX_DEGC : Fld := ⟨0, 0x44060, 0, 8, 0⟩
def P_DIE_MW : Fld := ⟨0, 0x44064, 0, 20, 0⟩
def P_DIE_AVG_MW : Fld := ⟨0, 0x44068, 0, 20, 0⟩
def LADDER_UP_COUNT_COUNT : Fld := ⟨0, 0x4406c, 0, 32, 0⟩
def SHED_PRS_EN_PORTS : Fld := ⟨0, 0x44070, 0, 16, 0⟩
def SHED_EPR_EN_PORTS : Fld := ⟨0, 0x44074, 0, 16, 0⟩
def COST_COST (i : Nat) : Fld := ⟨0, 0x44080 + 4 * i, 0, 8, (resetCost i)⟩

/-! 05_scheduling_energy.md: LSEL, template SCHED5. -/

def LSEL_PORT (p : Nat) : Fld := ⟨p + 1, 0x45040, 0, 6, 0⟩
def TOL_CAP_NS (w : Nat) : Fld := ⟨w + 1, 0x45044, 0, 24, 0xffffff⟩
def TOL_LTR_NS (w : Nat) : Fld := ⟨w + 1, 0x45048, 0, 24, 0xffffff⟩
def TOL_REL_NS (w : Nat) : Fld := ⟨w + 1, 0x4504c, 0, 32, 0xffffffff⟩
def IDLE_HOLD_NS (w : Nat) : Fld := ⟨w + 1, 0x45050, 0, 16, 0x7d0⟩
def LSTATE_IDLE (w : Nat) : Fld := ⟨w + 1, 0x45054, 16, 1, 0⟩
def LSTATE_TARGET (w : Nat) : Fld := ⟨w + 1, 0x45054, 8, 3, 0⟩
def LSTATE_STATE (w : Nat) : Fld := ⟨w + 1, 0x45054, 0, 3, 0⟩

/-! 02_management_space.md: RING_CTRL, template MAILBOX. -/

def RING_CTRL_RESTART (n : Nat) : Fld := ⟨0, 0x80040 + 0x1000 * n, 2, 1, 0⟩
def RING_CTRL_EVT_EN (n : Nat) : Fld := ⟨0, 0x80040 + 0x1000 * n, 1, 1, 0⟩
def RING_CTRL_CMD_EN (n : Nat) : Fld := ⟨0, 0x80040 + 0x1000 * n, 0, 1, 0⟩
def CMD_BASE_LO_ADDR (n : Nat) : Fld := ⟨0, 0x80044 + 0x1000 * n, 0, 32, 0⟩
def CMD_BASE_HI_ADDR (n : Nat) : Fld := ⟨0, 0x80048 + 0x1000 * n, 0, 32, 0⟩
def CMD_SIZE_LOG2 (n : Nat) : Fld := ⟨0, 0x8004c + 0x1000 * n, 0, 5, 6⟩
def EVT_BASE_LO_ADDR (n : Nat) : Fld := ⟨0, 0x80050 + 0x1000 * n, 0, 32, 0⟩
def EVT_BASE_HI_ADDR (n : Nat) : Fld := ⟨0, 0x80054 + 0x1000 * n, 0, 32, 0⟩
def EVT_SIZE_LOG2 (n : Nat) : Fld := ⟨0, 0x80058 + 0x1000 * n, 0, 5, 6⟩
def CMD_POST_COUNT (n : Nat) : Fld := ⟨0, 0x8005c + 0x1000 * n, 0, 32, 0⟩
def CMD_SEQ_DONE_SEQ (n : Nat) : Fld := ⟨0, 0x80060 + 0x1000 * n, 0, 32, 0xffffffff⟩
def CMD_STAT_BUSY (n : Nat) : Fld := ⟨0, 0x80064 + 0x1000 * n, 1, 1, 0⟩
def CMD_STAT_HALTED (n : Nat) : Fld := ⟨0, 0x80064 + 0x1000 * n, 0, 1, 0⟩
def EVT_CONSUMED_COUNT (n : Nat) : Fld := ⟨0, 0x80068 + 0x1000 * n, 0, 32, 0⟩
def EVT_SEQ_NEXT_SEQ (n : Nat) : Fld := ⟨0, 0x8006c + 0x1000 * n, 0, 32, 0⟩
def EVT_WRITTEN_COUNT (n : Nat) : Fld := ⟨0, 0x80070 + 0x1000 * n, 0, 32, 0⟩
def EVT_DROP_COUNT_COUNT (n : Nat) : Fld := ⟨0, 0x80074 + 0x1000 * n, 0, 32, 0⟩
def RESYNC_GO (n : Nat) : Fld := ⟨0, 0x80078 + 0x1000 * n, 0, 1, 0⟩
def RESYNC_CMD_DONE_VALUE (n : Nat) : Fld := ⟨0, 0x8007c + 0x1000 * n, 0, 32, 0⟩
def RESYNC_EVT_NEXT_VALUE (n : Nat) : Fld := ⟨0, 0x80080 + 0x1000 * n, 0, 32, 0⟩
def RESYNC_CFG_SEQ_VALUE (n : Nat) : Fld := ⟨0, 0x80084 + 0x1000 * n, 0, 32, 0⟩
def RESYNC_STAT_VALID (n : Nat) : Fld := ⟨0, 0x80088 + 0x1000 * n, 0, 1, 0⟩

/-! 16_events.md: TGT_CTRL, template TARGET. -/

def TGT_CTRL_VEC_F (n : Nat) : Fld := ⟨0, 0xc0040 + 0x1000 * n, 16, 6, 1⟩
def TGT_CTRL_VEC_N (n : Nat) : Fld := ⟨0, 0xc0040 + 0x1000 * n, 8, 6, 0⟩
def TGT_CTRL_PRES (n : Nat) : Fld := ⟨0, 0xc0040 + 0x1000 * n, 1, 1, 1⟩
def TGT_CTRL_EN (n : Nat) : Fld := ⟨0, 0xc0040 + 0x1000 * n, 0, 1, (if n = 32 then 1 else 0)⟩
def TGT_QCFG_LOG2 (n : Nat) : Fld := ⟨0, 0xc0044 + 0x1000 * n, 24, 4, 6⟩
def TGT_QCFG_BASE (n : Nat) : Fld := ⟨0, 0xc0044 + 0x1000 * n, 0, 18, 0⟩
def TGT_QPROD_INDEX (n : Nat) : Fld := ⟨0, 0xc0048 + 0x1000 * n, 0, 10, 0⟩
def TGT_QCONS_INDEX (n : Nat) : Fld := ⟨0, 0xc004c + 0x1000 * n, 0, 10, 0⟩
def CLAIM_N_VALID (n : Nat) : Fld := ⟨0, 0xc0050 + 0x1000 * n, 31, 1, 0⟩
def CLAIM_N_EVENT (n : Nat) : Fld := ⟨0, 0xc0050 + 0x1000 * n, 0, 12, 0⟩
def COMPLETE_N_EVENT (n : Nat) : Fld := ⟨0, 0xc0054 + 0x1000 * n, 0, 12, 0⟩
def CLAIM_F_VALID (n : Nat) : Fld := ⟨0, 0xc0058 + 0x1000 * n, 31, 1, 0⟩
def CLAIM_F_EVENT (n : Nat) : Fld := ⟨0, 0xc0058 + 0x1000 * n, 0, 12, 0⟩
def COMPLETE_F_EVENT (n : Nat) : Fld := ⟨0, 0xc005c + 0x1000 * n, 0, 12, 0⟩
def TGT_STAT_PEND_F (n : Nat) : Fld := ⟨0, 0xc0060 + 0x1000 * n, 16, 13, 0⟩
def TGT_STAT_PRESENT (n : Nat) : Fld := ⟨0, 0xc0060 + 0x1000 * n, 14, 1, 0⟩
def TGT_STAT_PEND_N (n : Nat) : Fld := ⟨0, 0xc0060 + 0x1000 * n, 0, 13, 0⟩
def TGT_DELIV_COUNT (n : Nat) : Fld := ⟨0, 0xc0064 + 0x1000 * n, 0, 32, 0⟩
def TGT_QDROP_COUNT (n : Nat) : Fld := ⟨0, 0xc0068 + 0x1000 * n, 0, 32, 0⟩

/-! 08_host_memory_ports.md: HP_CTRL, template HPORT0. -/

def HP_CTRL_L1_EN (n : Nat) : Fld := ⟨0, 0x100040 + 0x10000 * n, 13, 1, 1⟩
def HP_CTRL_L0P_EN (n : Nat) : Fld := ⟨0, 0x100040 + 0x10000 * n, 12, 1, 1⟩
def HP_CTRL_MAX_WIDTH (n : Nat) : Fld := ⟨0, 0x100040 + 0x10000 * n, 8, 3, 4⟩
def HP_CTRL_MAX_RATE (n : Nat) : Fld := ⟨0, 0x100040 + 0x10000 * n, 4, 4, 7⟩
def HP_CTRL_RETRAIN (n : Nat) : Fld := ⟨0, 0x100040 + 0x10000 * n, 1, 1, 0⟩
def HP_CTRL_EN (n : Nat) : Fld := ⟨0, 0x100040 + 0x10000 * n, 0, 1, 1⟩
def HP_STAT_FENCES (n : Nat) : Fld := ⟨0, 0x100044 + 0x10000 * n, 16, 5, 0⟩
def HP_STAT_LSTATE (n : Nat) : Fld := ⟨0, 0x100044 + 0x10000 * n, 12, 3, 0⟩
def HP_STAT_WIDTH (n : Nat) : Fld := ⟨0, 0x100044 + 0x10000 * n, 8, 3, 0⟩
def HP_STAT_RATE (n : Nat) : Fld := ⟨0, 0x100044 + 0x10000 * n, 4, 4, 0⟩
def HP_STAT_IDE (n : Nat) : Fld := ⟨0, 0x100044 + 0x10000 * n, 3, 1, 0⟩
def HP_STAT_LINK (n : Nat) : Fld := ⟨0, 0x100044 + 0x10000 * n, 0, 2, 0⟩
def HP_STAT2_RTT (n : Nat) : Fld := ⟨0, 0x100048 + 0x10000 * n, 0, 16, 0⟩
def HP_LTR_VALUE (n : Nat) : Fld := ⟨0, 0x10004c + 0x10000 * n, 0, 32, 0⟩
def HP_SEQ_SEQ (n : Nat) : Fld := ⟨0, 0x100050 + 0x10000 * n, 0, 32, 0⟩
def HP_LWE_COUNT_COUNT (n : Nat) : Fld := ⟨0, 0x100054 + 0x10000 * n, 0, 32, 0⟩
def HP_DOWN_COUNT_COUNT (n : Nat) : Fld := ⟨0, 0x100058 + 0x10000 * n, 0, 32, 0⟩
def PTM_CTRL_PERIOD (n : Nat) : Fld := ⟨0, 0x10005c + 0x10000 * n, 8, 8, 10⟩
def PTM_CTRL_EN (n : Nat) : Fld := ⟨0, 0x10005c + 0x10000 * n, 0, 1, 0⟩
def PTM_HUB_LO_NS (n : Nat) : Fld := ⟨0, 0x100060 + 0x10000 * n, 0, 32, 0⟩
def PTM_HUB_HI_NS (n : Nat) : Fld := ⟨0, 0x100064 + 0x10000 * n, 0, 32, 0⟩
def PTM_HOST_LO_NS (n : Nat) : Fld := ⟨0, 0x100068 + 0x10000 * n, 0, 32, 0⟩
def PTM_HOST_HI_NS (n : Nat) : Fld := ⟨0, 0x10006c + 0x10000 * n, 0, 32, 0⟩

/-! 08_host_memory_ports.md: VDSP_STAT, template HPORT1. -/

def VDSP_STAT_STATE (n i : Nat) : Fld := ⟨0, 0x101040 + 0x10000 * n + 32 * i, 16, 2, 0⟩
def VDSP_STAT_GEN (n i : Nat) : Fld := ⟨0, 0x101040 + 0x10000 * n + 32 * i, 8, 4, 0⟩
def VDSP_STAT_SLOT (n i : Nat) : Fld := ⟨0, 0x101040 + 0x10000 * n + 32 * i, 0, 8, 0⟩
def VDSP_SRC_PORT (n i : Nat) : Fld := ⟨0, 0x101044 + 0x10000 * n + 32 * i, 16, 7, 0⟩
def VDSP_SRC_ID (n i : Nat) : Fld := ⟨0, 0x101044 + 0x10000 * n + 32 * i, 0, 16, 0⟩
def VDSP_POOL_BASE_UNITS (n i : Nat) : Fld := ⟨0, 0x101048 + 0x10000 * n + 32 * i, 0, 24, 0⟩
def VDSP_POOL_SIZE_UNITS (n i : Nat) : Fld := ⟨0, 0x10104c + 0x10000 * n + 32 * i, 0, 24, 0⟩
def VDSP_POOL_DEV_UNITS (n i : Nat) : Fld := ⟨0, 0x101050 + 0x10000 * n + 32 * i, 0, 24, 0⟩
def VDSP_SEQ_SEQ (n i : Nat) : Fld := ⟨0, 0x101054 + 0x10000 * n + 32 * i, 0, 32, 0⟩
def UNBIND_GRACE_MS (n : Nat) : Fld := ⟨0, 0x101240 + 0x10000 * n, 0, 16, 0x1388⟩

/-! 08_host_memory_ports.md: MP_CTRL, template MPORT. -/

def MP_CTRL_L1_EN (n : Nat) : Fld := ⟨0, 0x300040 + 0x10000 * n, 13, 1, 1⟩
def MP_CTRL_L0P_EN (n : Nat) : Fld := ⟨0, 0x300040 + 0x10000 * n, 12, 1, 1⟩
def MP_CTRL_MAX_WIDTH (n : Nat) : Fld := ⟨0, 0x300040 + 0x10000 * n, 8, 4, 8⟩
def MP_CTRL_MAX_RATE (n : Nat) : Fld := ⟨0, 0x300040 + 0x10000 * n, 4, 4, 7⟩
def MP_CTRL_RETRAIN (n : Nat) : Fld := ⟨0, 0x300040 + 0x10000 * n, 2, 1, 0⟩
def MP_CTRL_MODE (n : Nat) : Fld := ⟨0, 0x300040 + 0x10000 * n, 0, 2, 0⟩
def MP_STAT_MISMATCH (n : Nat) : Fld := ⟨0, 0x300044 + 0x10000 * n, 16, 1, 0⟩
def MP_STAT_LSTATE (n : Nat) : Fld := ⟨0, 0x300044 + 0x10000 * n, 12, 3, 0⟩
def MP_STAT_WIDTH (n : Nat) : Fld := ⟨0, 0x300044 + 0x10000 * n, 8, 4, 0⟩
def MP_STAT_RATE (n : Nat) : Fld := ⟨0, 0x300044 + 0x10000 * n, 4, 4, 0⟩
def MP_STAT_IDE (n : Nat) : Fld := ⟨0, 0x300044 + 0x10000 * n, 3, 1, 0⟩
def MP_STAT_LINK (n : Nat) : Fld := ⟨0, 0x300044 + 0x10000 * n, 0, 2, 0⟩
def MP_CAP_GIB (n : Nat) : Fld := ⟨0, 0x300048 + 0x10000 * n, 0, 12, 0⟩
def CTO_CFG_LIMIT (n : Nat) : Fld := ⟨0, 0x30004c + 0x10000 * n, 16, 8, 1⟩
def CTO_CFG_MS (n : Nat) : Fld := ⟨0, 0x30004c + 0x10000 * n, 0, 16, 10⟩
def MP_CTO_COUNT_COUNT (n : Nat) : Fld := ⟨0, 0x300050 + 0x10000 * n, 0, 32, 0⟩
def MP_TAG_STAT_WAITING (n : Nat) : Fld := ⟨0, 0x300054 + 0x10000 * n, 16, 13, 0⟩
def MP_TAG_STAT_IN_USE (n : Nat) : Fld := ⟨0, 0x300054 + 0x10000 * n, 0, 13, 0⟩
def MP_LTR_VALUE (n : Nat) : Fld := ⟨0, 0x300058 + 0x10000 * n, 0, 32, 0⟩
def MP_LATE_CPL_COUNT (n : Nat) : Fld := ⟨0, 0x30005c + 0x10000 * n, 0, 32, 0⟩
def MP_PROTO_COUNT_COUNT (n : Nat) : Fld := ⟨0, 0x300060 + 0x10000 * n, 0, 32, 0⟩
def MP_RTT_NS (n : Nat) : Fld := ⟨0, 0x300064 + 0x10000 * n, 0, 16, 0⟩
def MP_DOWN_COUNT_COUNT (n : Nat) : Fld := ⟨0, 0x300068 + 0x10000 * n, 0, 32, 0⟩

/-! 09_lanes.md: DL_CTRL, template DPORT0. -/

def DL_CTRL_LANES (n : Nat) : Fld := ⟨0, 0x400040 + 0x10000 * n, 4, 2, 3⟩
def DL_CTRL_MAX_RATE (n : Nat) : Fld := ⟨0, 0x400040 + 0x10000 * n, 0, 2, 3⟩
def DL_TIMEOUT_LANE_MS (n : Nat) : Fld := ⟨0, 0x400044 + 0x10000 * n, 24, 8, 5⟩
def DL_TIMEOUT_RATE_MS (n : Nat) : Fld := ⟨0, 0x400044 + 0x10000 * n, 16, 8, 10⟩
def DL_TIMEOUT_BRINGUP_MS (n : Nat) : Fld := ⟨0, 0x400044 + 0x10000 * n, 0, 16, 50⟩
def DL_STAT_STAGE (n : Nat) : Fld := ⟨0, 0x400048 + 0x10000 * n, 24, 4, 0⟩
def DL_STAT_WIDTH (n : Nat) : Fld := ⟨0, 0x400048 + 0x10000 * n, 20, 2, 0⟩
def DL_STAT_RATE (n : Nat) : Fld := ⟨0, 0x400048 + 0x10000 * n, 16, 2, 0⟩
def DL_STAT_LANE_SWAP (n : Nat) : Fld := ⟨0, 0x400048 + 0x10000 * n, 12, 1, 0⟩
def DL_STAT_POL (n : Nat) : Fld := ⟨0, 0x400048 + 0x10000 * n, 8, 2, 0⟩
def DL_STAT_CAP (n : Nat) : Fld := ⟨0, 0x400048 + 0x10000 * n, 4, 2, 3⟩
def DL_STAT_PARTNER_RATE (n : Nat) : Fld := ⟨0, 0x400048 + 0x10000 * n, 0, 2, 0⟩
def DL_PARTNER0_BYTES (n : Nat) : Fld := ⟨0, 0x40004c + 0x10000 * n, 0, 32, 0⟩
def DL_PARTNER1_BYTES (n : Nat) : Fld := ⟨0, 0x400050 + 0x10000 * n, 0, 32, 0⟩
def DL_SLIP_LANE1 (n : Nat) : Fld := ⟨0, 0x400054 + 0x10000 * n, 16, 9, 0⟩
def DL_SLIP_LANE0 (n : Nat) : Fld := ⟨0, 0x400054 + 0x10000 * n, 0, 9, 0⟩
def DL_SKEW_UI (n : Nat) : Fld := ⟨0, 0x400058 + 0x10000 * n, 0, 16, 0⟩
def DL_HITS_LANE1 (n : Nat) : Fld := ⟨0, 0x40005c + 0x10000 * n, 16, 8, 0⟩
def DL_HITS_LANE0 (n : Nat) : Fld := ⟨0, 0x40005c + 0x10000 * n, 0, 8, 0⟩
def DL_CMD_RESTART (n : Nat) : Fld := ⟨0, 0x400060 + 0x10000 * n, 8, 1, 0⟩
def DL_CMD_SLIP1 (n : Nat) : Fld := ⟨0, 0x400060 + 0x10000 * n, 1, 1, 0⟩
def DL_CMD_SLIP0 (n : Nat) : Fld := ⟨0, 0x400060 + 0x10000 * n, 0, 1, 0⟩
def DL_BRINGUP_COUNT_COUNT (n : Nat) : Fld := ⟨0, 0x400064 + 0x10000 * n, 0, 32, 0⟩
def DL_FALLBACK_COUNT_COUNT (n : Nat) : Fld := ⟨0, 0x400068 + 0x10000 * n, 0, 32, 0⟩
def DL_CRC_COUNT_COUNT (n : Nat) : Fld := ⟨0, 0x40006c + 0x10000 * n, 0, 32, 0⟩

/-! 10_tunnel_link.md: LK_CTRL, template DPORT1. -/

def LK_CTRL_SEAL_WAIT (n : Nat) : Fld := ⟨0, 0x401040 + 0x10000 * n, 16, 8, 32⟩
def LK_CTRL_GROUP_MAX (n : Nat) : Fld := ⟨0, 0x401040 + 0x10000 * n, 8, 4, 7⟩
def LK_CTRL_ECHO_EN (n : Nat) : Fld := ⟨0, 0x401040 + 0x10000 * n, 4, 1, 1⟩
def LK_CTRL_ENC_EN (n : Nat) : Fld := ⟨0, 0x401040 + 0x10000 * n, 0, 1, 0⟩
def LK_TIMERS_REPLAY_NS (n : Nat) : Fld := ⟨0, 0x401044 + 0x10000 * n, 16, 16, 0x5dc⟩
def LK_TIMERS_DEAD_NS (n : Nat) : Fld := ⟨0, 0x401044 + 0x10000 * n, 0, 16, 0x7d0⟩
def LK_LIMITS_CRC_LIMIT (n : Nat) : Fld := ⟨0, 0x401048 + 0x10000 * n, 24, 8, 32⟩
def LK_LIMITS_CRC_WIN_LOG2 (n : Nat) : Fld := ⟨0, 0x401048 + 0x10000 * n, 16, 5, 20⟩
def LK_LIMITS_TAG_LIMIT (n : Nat) : Fld := ⟨0, 0x401048 + 0x10000 * n, 8, 8, 4⟩
def LK_LIMITS_REPLAY_LIMIT (n : Nat) : Fld := ⟨0, 0x401048 + 0x10000 * n, 0, 4, 4⟩
def LK_CRYPT_RX_SLOT (n : Nat) : Fld := ⟨0, 0x40104c + 0x10000 * n, 8, 8, 0⟩
def LK_CRYPT_TX_SLOT (n : Nat) : Fld := ⟨0, 0x40104c + 0x10000 * n, 0, 8, 0⟩
def LK_SALT_TX_SALT (n : Nat) : Fld := ⟨0, 0x401050 + 0x10000 * n, 0, 32, 0⟩
def LK_SALT_RX_SALT (n : Nat) : Fld := ⟨0, 0x401054 + 0x10000 * n, 0, 32, 0⟩
def LK_GRANT0_ETH (n : Nat) : Fld := ⟨0, 0x401058 + 0x10000 * n, 16, 9, 128⟩
def LK_GRANT0_PCIE (n : Nat) : Fld := ⟨0, 0x401058 + 0x10000 * n, 0, 9, 128⟩
def LK_GRANT1_SIG (n : Nat) : Fld := ⟨0, 0x40105c + 0x10000 * n, 16, 9, 128⟩
def LK_GRANT1_DISP (n : Nat) : Fld := ⟨0, 0x40105c + 0x10000 * n, 0, 9, 0x100⟩
def LK_GRANT2_MGMT (n : Nat) : Fld := ⟨0, 0x401060 + 0x10000 * n, 0, 9, 16⟩
def LK_CMD_RATE (n : Nat) : Fld := ⟨0, 0x401064 + 0x10000 * n, 8, 2, 0⟩
def LK_CMD_MASK (n : Nat) : Fld := ⟨0, 0x401064 + 0x10000 * n, 4, 2, 0⟩
def LK_CMD_DOWN (n : Nat) : Fld := ⟨0, 0x401064 + 0x10000 * n, 1, 1, 0⟩
def LK_CMD_RETRAIN (n : Nat) : Fld := ⟨0, 0x401064 + 0x10000 * n, 0, 1, 0⟩
def LK_STAT_DOWN_CAUSE (n : Nat) : Fld := ⟨0, 0x401068 + 0x10000 * n, 28, 4, 0⟩
def LK_STAT_MIRROR (n : Nat) : Fld := ⟨0, 0x401068 + 0x10000 * n, 16, 9, 0⟩
def LK_STAT_ENC (n : Nat) : Fld := ⟨0, 0x401068 + 0x10000 * n, 12, 1, 0⟩
def LK_STAT_LEADER (n : Nat) : Fld := ⟨0, 0x401068 + 0x10000 * n, 11, 1, 0⟩
def LK_STAT_STATE (n : Nat) : Fld := ⟨0, 0x401068 + 0x10000 * n, 0, 3, 0⟩
def LK_SEQ_RX_EXPECT (n : Nat) : Fld := ⟨0, 0x40106c + 0x10000 * n, 16, 12, 0⟩
def LK_SEQ_TX_NEXT (n : Nat) : Fld := ⟨0, 0x40106c + 0x10000 * n, 0, 12, 0⟩
def LK_ACK_ACK_RX (n : Nat) : Fld := ⟨0, 0x401070 + 0x10000 * n, 16, 12, 0xfff⟩
def LK_ACK_ACK_TX (n : Nat) : Fld := ⟨0, 0x401070 + 0x10000 * n, 0, 12, 0xfff⟩
def LK_AVAIL0_ETH (n : Nat) : Fld := ⟨0, 0x401074 + 0x10000 * n, 16, 9, 0⟩
def LK_AVAIL0_PCIE (n : Nat) : Fld := ⟨0, 0x401074 + 0x10000 * n, 0, 9, 0⟩
def LK_AVAIL1_SIG (n : Nat) : Fld := ⟨0, 0x401078 + 0x10000 * n, 16, 9, 0⟩
def LK_AVAIL1_DISP (n : Nat) : Fld := ⟨0, 0x401078 + 0x10000 * n, 0, 9, 0⟩
def LK_AVAIL2_MGMT (n : Nat) : Fld := ⟨0, 0x40107c + 0x10000 * n, 0, 9, 0⟩
def LK_ID_LO_ID (n : Nat) : Fld := ⟨0, 0x401080 + 0x10000 * n, 0, 32, 0⟩
def LK_ID_HI_ID (n : Nat) : Fld := ⟨0, 0x401084 + 0x10000 * n, 0, 32, 0⟩
def LK_PID_LO_ID (n : Nat) : Fld := ⟨0, 0x401088 + 0x10000 * n, 0, 32, 0⟩
def LK_PID_HI_ID (n : Nat) : Fld := ⟨0, 0x40108c + 0x10000 * n, 0, 32, 0⟩
def LK_RTT_NS (n : Nat) : Fld := ⟨0, 0x401090 + 0x10000 * n, 0, 20, 0⟩
def LK_DEV_DELAY_NS (n : Nat) : Fld := ⟨0, 0x401094 + 0x10000 * n, 0, 20, 0⟩
def LK_FEC_CORR_COUNT (n : Nat) : Fld := ⟨0, 0x401098 + 0x10000 * n, 0, 32, 0⟩
def LK_CRC_FAIL_COUNT (n : Nat) : Fld := ⟨0, 0x40109c + 0x10000 * n, 0, 32, 0⟩
def LK_REPLAY_COUNT_COUNT (n : Nat) : Fld := ⟨0, 0x4010a0 + 0x10000 * n, 0, 32, 0⟩
def LK_NAK_TX_COUNT (n : Nat) : Fld := ⟨0, 0x4010a4 + 0x10000 * n, 0, 32, 0⟩
def LK_NAK_RX_COUNT (n : Nat) : Fld := ⟨0, 0x4010a8 + 0x10000 * n, 0, 32, 0⟩
def LK_DUP_COUNT_COUNT (n : Nat) : Fld := ⟨0, 0x4010ac + 0x10000 * n, 0, 32, 0⟩
def LK_TAG_FAIL_COUNT (n : Nat) : Fld := ⟨0, 0x4010b0 + 0x10000 * n, 0, 32, 0⟩
def LK_PROTO_COUNT_COUNT (n : Nat) : Fld := ⟨0, 0x4010b4 + 0x10000 * n, 0, 32, 0⟩
def LK_RETRAIN_COUNT_COUNT (n : Nat) : Fld := ⟨0, 0x4010b8 + 0x10000 * n, 0, 32, 0⟩
def LK_DOWN_COUNT_COUNT (n : Nat) : Fld := ⟨0, 0x4010bc + 0x10000 * n, 0, 32, 0⟩

/-! 11_tunnel_classes.md: PR_CTRL, template DPORT2. -/

def PR_CTRL_EXPRESS (n : Nat) : Fld := ⟨0, 0x402040 + 0x10000 * n, 4, 1, 1⟩
def PR_CTRL_LEAD (n : Nat) : Fld := ⟨0, 0x402040 + 0x10000 * n, 0, 4, 3⟩
def PR_QMAP_MGMT (n : Nat) : Fld := ⟨0, 0x402044 + 0x10000 * n, 16, 4, 0⟩
def PR_QMAP_SIG (n : Nat) : Fld := ⟨0, 0x402044 + 0x10000 * n, 12, 4, 3⟩
def PR_QMAP_DISP (n : Nat) : Fld := ⟨0, 0x402044 + 0x10000 * n, 8, 4, 2⟩
def PR_QMAP_ETH (n : Nat) : Fld := ⟨0, 0x402044 + 0x10000 * n, 4, 4, 8⟩
def PR_QMAP_PCIE (n : Nat) : Fld := ⟨0, 0x402044 + 0x10000 * n, 0, 4, 5⟩
def PR_BE_RX (n : Nat) : Fld := ⟨0, 0x402048 + 0x10000 * n, 9, 5, 27⟩
def PR_BE_TX (n : Nat) : Fld := ⟨0, 0x402048 + 0x10000 * n, 1, 5, 27⟩
def PR_TXMAP_SLOT0 (n i : Nat) : Fld := ⟨0, 0x402060 + 0x10000 * n + 4 * i, 0, 3, (if i = 0 then 5 else 0)⟩
def PR_TXMAP_SLOT1 (n i : Nat) : Fld := ⟨0, 0x402060 + 0x10000 * n + 4 * i, 4, 3, 0⟩
def PR_TXMAP_SLOT2 (n i : Nat) : Fld := ⟨0, 0x402060 + 0x10000 * n + 4 * i, 8, 3, 0⟩
def PR_TXMAP_SLOT3 (n i : Nat) : Fld := ⟨0, 0x402060 + 0x10000 * n + 4 * i, 12, 3, 0⟩
def PR_TXMAP_SLOT4 (n i : Nat) : Fld := ⟨0, 0x402060 + 0x10000 * n + 4 * i, 16, 3, 0⟩
def PR_TXMAP_SLOT5 (n i : Nat) : Fld := ⟨0, 0x402060 + 0x10000 * n + 4 * i, 20, 3, 0⟩
def PR_TXMAP_SLOT6 (n i : Nat) : Fld := ⟨0, 0x402060 + 0x10000 * n + 4 * i, 24, 3, 0⟩
def PR_TXMAP_SLOT7 (n i : Nat) : Fld := ⟨0, 0x402060 + 0x10000 * n + 4 * i, 28, 3, 0⟩
def PR_RXMAP_SLOT0 (n i : Nat) : Fld := ⟨0, 0x402080 + 0x10000 * n + 4 * i, 0, 3, (if i = 0 then 5 else 0)⟩
def PR_RXMAP_SLOT1 (n i : Nat) : Fld := ⟨0, 0x402080 + 0x10000 * n + 4 * i, 4, 3, 0⟩
def PR_RXMAP_SLOT2 (n i : Nat) : Fld := ⟨0, 0x402080 + 0x10000 * n + 4 * i, 8, 3, 0⟩
def PR_RXMAP_SLOT3 (n i : Nat) : Fld := ⟨0, 0x402080 + 0x10000 * n + 4 * i, 12, 3, 0⟩
def PR_RXMAP_SLOT4 (n i : Nat) : Fld := ⟨0, 0x402080 + 0x10000 * n + 4 * i, 16, 3, 0⟩
def PR_RXMAP_SLOT5 (n i : Nat) : Fld := ⟨0, 0x402080 + 0x10000 * n + 4 * i, 20, 3, 0⟩
def PR_RXMAP_SLOT6 (n i : Nat) : Fld := ⟨0, 0x402080 + 0x10000 * n + 4 * i, 24, 3, 0⟩
def PR_RXMAP_SLOT7 (n i : Nat) : Fld := ⟨0, 0x402080 + 0x10000 * n + 4 * i, 28, 3, 0⟩
def PR_STAT_TX_NAK (n : Nat) : Fld := ⟨0, 0x4020a0 + 0x10000 * n, 22, 2, 0⟩
def PR_STAT_RX_NAK (n : Nat) : Fld := ⟨0, 0x4020a0 + 0x10000 * n, 20, 2, 0⟩
def PR_STAT_DEFAULT (n : Nat) : Fld := ⟨0, 0x4020a0 + 0x10000 * n, 19, 1, 1⟩
def PR_STAT_DISP_WAIT (n : Nat) : Fld := ⟨0, 0x4020a0 + 0x10000 * n, 18, 1, 0⟩
def PR_STAT_RX_PENDING (n : Nat) : Fld := ⟨0, 0x4020a0 + 0x10000 * n, 17, 1, 0⟩
def PR_STAT_TX_PENDING (n : Nat) : Fld := ⟨0, 0x4020a0 + 0x10000 * n, 16, 1, 0⟩
def PR_STAT_RX_ALLOT (n : Nat) : Fld := ⟨0, 0x4020a0 + 0x10000 * n, 8, 8, 0⟩
def PR_STAT_TX_ALLOT (n : Nat) : Fld := ⟨0, 0x4020a0 + 0x10000 * n, 0, 8, 0⟩
def PR_STC_COUNT (n : Nat) : Fld := ⟨0, 0x4020a4 + 0x10000 * n, 0, 32, 0⟩
def PR_RTC_COUNT (n : Nat) : Fld := ⟨0, 0x4020a8 + 0x10000 * n, 0, 32, 0⟩
def PR_SLOTS_TX_MGMT_M1 (n : Nat) : Fld := ⟨0, 0x4020ac + 0x10000 * n, 24, 6, 0⟩
def PR_SLOTS_TX_SIG (n : Nat) : Fld := ⟨0, 0x4020ac + 0x10000 * n, 18, 6, 0⟩
def PR_SLOTS_TX_DISP (n : Nat) : Fld := ⟨0, 0x4020ac + 0x10000 * n, 12, 6, 0⟩
def PR_SLOTS_TX_ETH (n : Nat) : Fld := ⟨0, 0x4020ac + 0x10000 * n, 6, 6, 0⟩
def PR_SLOTS_TX_PCIE (n : Nat) : Fld := ⟨0, 0x4020ac + 0x10000 * n, 0, 6, 0⟩
def PR_SLOTS_RX_MGMT_M1 (n : Nat) : Fld := ⟨0, 0x4020b0 + 0x10000 * n, 24, 6, 0⟩
def PR_SLOTS_RX_SIG (n : Nat) : Fld := ⟨0, 0x4020b0 + 0x10000 * n, 18, 6, 0⟩
def PR_SLOTS_RX_DISP (n : Nat) : Fld := ⟨0, 0x4020b0 + 0x10000 * n, 12, 6, 0⟩
def PR_SLOTS_RX_ETH (n : Nat) : Fld := ⟨0, 0x4020b0 + 0x10000 * n, 6, 6, 0⟩
def PR_SLOTS_RX_PCIE (n : Nat) : Fld := ⟨0, 0x4020b0 + 0x10000 * n, 0, 6, 0⟩
def PR_WAIT_NS (n : Nat) : Fld := ⟨0, 0x4020b4 + 0x10000 * n, 0, 16, 0⟩
def PR_ALLOT_LATE_COUNT (n : Nat) : Fld := ⟨0, 0x4020b8 + 0x10000 * n, 0, 32, 0⟩
def PR_EXP_COUNT_COUNT (n : Nat) : Fld := ⟨0, 0x4020bc + 0x10000 * n, 0, 32, 0⟩
def PR_EXP_DELAYED_COUNT (n : Nat) : Fld := ⟨0, 0x4020c0 + 0x10000 * n, 0, 32, 0⟩

/-! 11_tunnel_classes.md: CLS_CTRL, template DPORT3. -/

def CLS_CTRL_PCIE_SCAN (n : Nat) : Fld := ⟨0, 0x403040 + 0x10000 * n, 1, 1, 1⟩
def CLS_CTRL_AUTO_OPEN (n : Nat) : Fld := ⟨0, 0x403040 + 0x10000 * n, 0, 1, 1⟩
def CH_SEL_CLASS (n p : Nat) : Fld := ⟨p + 1, 0x403044 + 0x10000 * n, 8, 3, 1⟩
def CH_SEL_INDEX (n p : Nat) : Fld := ⟨p + 1, 0x403044 + 0x10000 * n, 0, 5, 0⟩
def CH_INFO_BOUND (n w : Nat) : Fld := ⟨w + 1, 0x403048 + 0x10000 * n, 18, 1, 0⟩
def CH_INFO_STATE (n w : Nat) : Fld := ⟨w + 1, 0x403048 + 0x10000 * n, 16, 2, 0⟩
def CH_INFO_WORD (n w : Nat) : Fld := ⟨w + 1, 0x403048 + 0x10000 * n, 0, 16, 0⟩
def CH_CMD_CLOSE (n w : Nat) : Fld := ⟨w + 1, 0x40304c + 0x10000 * n, 1, 1, 0⟩
def CH_CMD_OPEN (n w : Nat) : Fld := ⟨w + 1, 0x40304c + 0x10000 * n, 0, 1, 0⟩
def CH_TX_MSG_COUNT (n w : Nat) : Fld := ⟨w + 1, 0x403050 + 0x10000 * n, 0, 32, 0⟩
def CH_RX_MSG_COUNT (n w : Nat) : Fld := ⟨w + 1, 0x403054 + 0x10000 * n, 0, 32, 0⟩
def CH_DROP_COUNT (n w : Nat) : Fld := ⟨w + 1, 0x403058 + 0x10000 * n, 0, 32, 0⟩
def CH_MASK_OPEN (n i : Nat) : Fld := ⟨0, 0x403060 + 0x10000 * n + 4 * i, 0, 32, 0⟩
def DEV_ID_PID (n : Nat) : Fld := ⟨0, 0x403070 + 0x10000 * n, 16, 16, 0⟩
def DEV_ID_VID (n : Nat) : Fld := ⟨0, 0x403070 + 0x10000 * n, 0, 16, 0⟩
def CLS_MGMT_ERR_COUNT (n : Nat) : Fld := ⟨0, 0x403074 + 0x10000 * n, 0, 32, 0⟩
def LOSS_ETH_COUNT (n : Nat) : Fld := ⟨0, 0x403078 + 0x10000 * n, 0, 32, 0⟩
def LOSS_SIG_COUNT (n : Nat) : Fld := ⟨0, 0x40307c + 0x10000 * n, 0, 32, 0⟩
def LOSS_DISP_COUNT (n : Nat) : Fld := ⟨0, 0x403080 + 0x10000 * n, 0, 32, 0⟩
def FWD_FULL_COUNT (n : Nat) : Fld := ⟨0, 0x403084 + 0x10000 * n, 0, 32, 0⟩
def SBU_CTRL_TIMEOUT (n : Nat) : Fld := ⟨0, 0x403088 + 0x10000 * n, 16, 8, 20⟩
def SBU_CTRL_RETRY (n : Nat) : Fld := ⟨0, 0x403088 + 0x10000 * n, 8, 4, 8⟩
def SBU_CTRL_EN (n : Nat) : Fld := ⟨0, 0x403088 + 0x10000 * n, 0, 1, 1⟩
def SBU_STAT_RX_SEQ (n : Nat) : Fld := ⟨0, 0x40308c + 0x10000 * n, 16, 8, 0⟩
def SBU_STAT_TX_SEQ (n : Nat) : Fld := ⟨0, 0x40308c + 0x10000 * n, 8, 8, 0⟩
def SBU_STAT_UP (n : Nat) : Fld := ⟨0, 0x40308c + 0x10000 * n, 0, 1, 0⟩
def SBU_ERR_COUNT (n : Nat) : Fld := ⟨0, 0x403090 + 0x10000 * n, 0, 32, 0⟩

/-! 12_dock_port_negotiation.md: PD_CTRL, template DPORT4. -/

def PD_CTRL_PRS_ACCEPT (n : Nat) : Fld := ⟨0, 0x404040 + 0x10000 * n, 7, 1, 0⟩
def PD_CTRL_UP (n : Nat) : Fld := ⟨0, 0x404040 + 0x10000 * n, 6, 1, 0⟩
def PD_CTRL_MODE_EN (n : Nat) : Fld := ⟨0, 0x404040 + 0x10000 * n, 5, 1, 1⟩
def PD_CTRL_DR_ACCEPT (n : Nat) : Fld := ⟨0, 0x404040 + 0x10000 * n, 4, 1, 0⟩
def PD_CTRL_EPR_EN (n : Nat) : Fld := ⟨0, 0x404040 + 0x10000 * n, 3, 1, 1⟩
def PD_CTRL_ROLE_DEFAULT (n : Nat) : Fld := ⟨0, 0x404040 + 0x10000 * n, 1, 2, 0⟩
def PD_CTRL_EN (n : Nat) : Fld := ⟨0, 0x404040 + 0x10000 * n, 0, 1, 1⟩
def PD_TIMERS_CC_DEB_MS (n : Nat) : Fld := ⟨0, 0x404044 + 0x10000 * n, 0, 8, 150⟩
def PD_SRC_SPR_ONLY (n : Nat) : Fld := ⟨0, 0x404048 + 0x10000 * n, 8, 1, 0⟩
def PD_SRC_MAX_W (n : Nat) : Fld := ⟨0, 0x404048 + 0x10000 * n, 0, 8, 240⟩
def PD_SWAP_ATTEMPTS (n : Nat) : Fld := ⟨0, 0x40404c + 0x10000 * n, 16, 4, 10⟩
def PD_SWAP_RETRY_MS (n : Nat) : Fld := ⟨0, 0x40404c + 0x10000 * n, 0, 16, 100⟩
def PD_MODE_CTRL_RETRIES (n : Nat) : Fld := ⟨0, 0x404050 + 0x10000 * n, 0, 4, 3⟩
def PD_CMD_EXIT (n : Nat) : Fld := ⟨0, 0x404054 + 0x10000 * n, 6, 1, 0⟩
def PD_CMD_ENTER (n : Nat) : Fld := ⟨0, 0x404054 + 0x10000 * n, 5, 1, 0⟩
def PD_CMD_SEND_CAPS (n : Nat) : Fld := ⟨0, 0x404054 + 0x10000 * n, 4, 1, 0⟩
def PD_CMD_DR_SWAP (n : Nat) : Fld := ⟨0, 0x404054 + 0x10000 * n, 3, 1, 0⟩
def PD_CMD_PR_SWAP (n : Nat) : Fld := ⟨0, 0x404054 + 0x10000 * n, 2, 1, 0⟩
def PD_CMD_SOFT_RESET (n : Nat) : Fld := ⟨0, 0x404054 + 0x10000 * n, 1, 1, 0⟩
def PD_CMD_HARD_RESET (n : Nat) : Fld := ⟨0, 0x404054 + 0x10000 * n, 0, 1, 0⟩
def PD_STAT_SWAP (n : Nat) : Fld := ⟨0, 0x404058 + 0x10000 * n, 12, 2, 0⟩
def PD_STAT_RP (n : Nat) : Fld := ⟨0, 0x404058 + 0x10000 * n, 10, 2, 0⟩
def PD_STAT_CABLE (n : Nat) : Fld := ⟨0, 0x404058 + 0x10000 * n, 9, 1, 0⟩
def PD_STAT_MODE (n : Nat) : Fld := ⟨0, 0x404058 + 0x10000 * n, 8, 1, 0⟩
def PD_STAT_NO_DRAW (n : Nat) : Fld := ⟨0, 0x404058 + 0x10000 * n, 7, 1, 0⟩
def PD_STAT_EPR (n : Nat) : Fld := ⟨0, 0x404058 + 0x10000 * n, 6, 1, 0⟩
def PD_STAT_CONTRACT (n : Nat) : Fld := ⟨0, 0x404058 + 0x10000 * n, 5, 1, 0⟩
def PD_STAT_VCONN_ON (n : Nat) : Fld := ⟨0, 0x404058 + 0x10000 * n, 4, 1, 0⟩
def PD_STAT_DATA_ROLE (n : Nat) : Fld := ⟨0, 0x404058 + 0x10000 * n, 3, 1, 0⟩
def PD_STAT_POWER_ROLE (n : Nat) : Fld := ⟨0, 0x404058 + 0x10000 * n, 2, 1, 0⟩
def PD_STAT_ORIENT (n : Nat) : Fld := ⟨0, 0x404058 + 0x10000 * n, 1, 1, 0⟩
def PD_STAT_ATTACHED (n : Nat) : Fld := ⟨0, 0x404058 + 0x10000 * n, 0, 1, 0⟩
def PD_CONTRACT_RDO (n : Nat) : Fld := ⟨0, 0x40405c + 0x10000 * n, 0, 32, 0⟩
def PD_PDO_PDO (n : Nat) : Fld := ⟨0, 0x404060 + 0x10000 * n, 0, 32, 0⟩
def PD_PARTNER_SNK_PDO (n : Nat) : Fld := ⟨0, 0x404064 + 0x10000 * n, 0, 32, 0⟩
def PD_CABLE_VDO_VDO (n : Nat) : Fld := ⟨0, 0x404068 + 0x10000 * n, 0, 32, 0⟩
def PD_MODE_VDO_VDO (n : Nat) : Fld := ⟨0, 0x40406c + 0x10000 * n, 0, 32, 0⟩
def PD_ENTER_VDO_VDO (n : Nat) : Fld := ⟨0, 0x404070 + 0x10000 * n, 0, 32, 0⟩
def PD_SWAP_LOG_KIND (n : Nat) : Fld := ⟨0, 0x404074 + 0x10000 * n, 8, 1, 0⟩
def PD_SWAP_LOG_ATTEMPTS (n : Nat) : Fld := ⟨0, 0x404074 + 0x10000 * n, 4, 4, 0⟩
def PD_SWAP_LOG_RESULT (n : Nat) : Fld := ⟨0, 0x404074 + 0x10000 * n, 0, 4, 0⟩
def PD_HR_COUNT_COUNT (n : Nat) : Fld := ⟨0, 0x404078 + 0x10000 * n, 0, 32, 0⟩
def PD_MSG_ERR_COUNT (n : Nat) : Fld := ⟨0, 0x40407c + 0x10000 * n, 0, 32, 0⟩
def PD_ATTACH_REFUSED_COUNT (n : Nat) : Fld := ⟨0, 0x404080 + 0x10000 * n, 0, 32, 0⟩
def PD_MODE_COUNT_COUNT (n : Nat) : Fld := ⟨0, 0x404084 + 0x10000 * n, 0, 32, 0⟩

/-! 13_vbus_feeds.md: VB_CTRL, template DPORT5. -/

def VB_CTRL_FAULT_LIMIT (n : Nat) : Fld := ⟨0, 0x405040 + 0x10000 * n, 24, 8, 3⟩
def VB_CTRL_TRACK (n : Nat) : Fld := ⟨0, 0x405040 + 0x10000 * n, 8, 1, 1⟩
def VB_CTRL_ILIM_AUTO (n : Nat) : Fld := ⟨0, 0x405040 + 0x10000 * n, 4, 1, 1⟩
def VB_CTRL_EN (n : Nat) : Fld := ⟨0, 0x405040 + 0x10000 * n, 0, 1, 1⟩
def VB_ILIM_IN_FORCE (n : Nat) : Fld := ⟨0, 0x405044 + 0x10000 * n, 16, 10, 0⟩
def VB_ILIM_MAN_10MA (n : Nat) : Fld := ⟨0, 0x405044 + 0x10000 * n, 0, 10, 0x177⟩
def VB_TIMING_GATE_MS (n : Nat) : Fld := ⟨0, 0x405048 + 0x10000 * n, 24, 8, 10⟩
def VB_TIMING_BUCK_MS (n : Nat) : Fld := ⟨0, 0x405048 + 0x10000 * n, 16, 8, 5⟩
def VB_TIMING_RAMP_VMS (n : Nat) : Fld := ⟨0, 0x405048 + 0x10000 * n, 8, 6, 5⟩
def VB_TIMING_FT_10US (n : Nat) : Fld := ⟨0, 0x405048 + 0x10000 * n, 0, 8, 100⟩
def VB_WIN_UV_MS (n : Nat) : Fld := ⟨0, 0x40504c + 0x10000 * n, 16, 4, 2⟩
def VB_WIN_PCT (n : Nat) : Fld := ⟨0, 0x40504c + 0x10000 * n, 0, 4, 5⟩
def VB_VSET_CODE (n : Nat) : Fld := ⟨0, 0x405050 + 0x10000 * n, 16, 12, 0⟩
def VB_VSET_TARGET_10MV (n : Nat) : Fld := ⟨0, 0x405050 + 0x10000 * n, 0, 16, 0⟩
def VB_CAL_GAIN (n : Nat) : Fld := ⟨0, 0x405054 + 0x10000 * n, 16, 16, 0⟩
def VB_CAL_OFFSET_MV (n : Nat) : Fld := ⟨0, 0x405054 + 0x10000 * n, 0, 16, 0⟩
def VB_CMD_CLR_PEAK (n : Nat) : Fld := ⟨0, 0x405058 + 0x10000 * n, 1, 1, 0⟩
def VB_CMD_CLR_LOCKOUT (n : Nat) : Fld := ⟨0, 0x405058 + 0x10000 * n, 0, 1, 0⟩
def VB_STAT_STATE (n : Nat) : Fld := ⟨0, 0x40505c + 0x10000 * n, 12, 4, 0⟩
def VB_STAT_LOCKOUT (n : Nat) : Fld := ⟨0, 0x40505c + 0x10000 * n, 8, 1, 0⟩
def VB_STAT_TIMER (n : Nat) : Fld := ⟨0, 0x40505c + 0x10000 * n, 4, 1, 0⟩
def VB_STAT_LIMITING (n : Nat) : Fld := ⟨0, 0x40505c + 0x10000 * n, 3, 1, 0⟩
def VB_STAT_GATE_ON (n : Nat) : Fld := ⟨0, 0x40505c + 0x10000 * n, 2, 1, 0⟩
def VB_STAT_IN_WINDOW (n : Nat) : Fld := ⟨0, 0x40505c + 0x10000 * n, 1, 1, 0⟩
def VB_STAT_PGOOD (n : Nat) : Fld := ⟨0, 0x40505c + 0x10000 * n, 0, 1, 0⟩
def VB_FAULT_LOG_VOUT_10MV (n : Nat) : Fld := ⟨0, 0x405060 + 0x10000 * n, 16, 16, 0⟩
def VB_FAULT_LOG_CAUSE (n : Nat) : Fld := ⟨0, 0x405060 + 0x10000 * n, 0, 4, 0⟩
def VB_VOUT_MV (n : Nat) : Fld := ⟨0, 0x405064 + 0x10000 * n, 0, 16, 0⟩
def VB_VBK_MV (n : Nat) : Fld := ⟨0, 0x405068 + 0x10000 * n, 0, 16, 0⟩
def VB_IOUT_MA (n : Nat) : Fld := ⟨0, 0x40506c + 0x10000 * n, 0, 16, 0⟩
def VB_P_WIN_MW (n : Nat) : Fld := ⟨0, 0x405070 + 0x10000 * n, 0, 20, 0⟩
def VB_I_PEAK_MA (n : Nat) : Fld := ⟨0, 0x405074 + 0x10000 * n, 0, 16, 0⟩
def VB_E_LO_UJ (n : Nat) : Fld := ⟨0, 0x405078 + 0x10000 * n, 0, 32, 0⟩
def VB_E_HI_UJ (n : Nat) : Fld := ⟨0, 0x40507c + 0x10000 * n, 0, 32, 0⟩
def VB_FAULT_COUNT_COUNT (n : Nat) : Fld := ⟨0, 0x405080 + 0x10000 * n, 0, 32, 0⟩
def VB_SHUNT_UOHM (n : Nat) : Fld := ⟨0, 0x405084 + 0x10000 * n, 0, 16, 0x1388⟩
def VB_TRIM_STEPS (n : Nat) : Fld := ⟨0, 0x405088 + 0x10000 * n, 0, 8, 0⟩

/-! 04_switch_core.md: SW_CTRL, template SWITCH0. -/

def SW_CTRL_SKIM_EN : Fld := ⟨0, 0x500040, 0, 1, 1⟩
def HASH_SEED_SEED : Fld := ⟨0, 0x500044, 0, 32, 0⟩
def ACK_TIMEOUT_CYCLES : Fld := ⟨0, 0x500048, 0, 16, 0x3e8⟩
def PLANE_MAP_SPARE : Fld := ⟨0, 0x50004c, 4, 2, 2⟩
def PLANE_MAP_L1 : Fld := ⟨0, 0x50004c, 2, 2, 1⟩
def PLANE_MAP_L0 : Fld := ⟨0, 0x50004c, 0, 2, 0⟩
def PLANE_STAT_FAILOVER : Fld := ⟨0, 0x500050, 12, 1, 0⟩
def PLANE_STAT_DEGRADED : Fld := ⟨0, 0x500050, 8, 1, 0⟩
def PLANE_STAT_P2 : Fld := ⟨0, 0x500050, 4, 2, 1⟩
def PLANE_STAT_P1 : Fld := ⟨0, 0x500050, 2, 2, 0⟩
def PLANE_STAT_P0 : Fld := ⟨0, 0x500050, 0, 2, 0⟩
def PLANE_ERR_CFG_WIN_LOG2 : Fld := ⟨0, 0x500054, 16, 5, 16⟩
def PLANE_ERR_CFG_LIMIT : Fld := ⟨0, 0x500054, 0, 8, 8⟩
def PLANE_CMD_FORCE : Fld := ⟨0, 0x500058, 4, 1, 0⟩
def PLANE_CMD_PLANE : Fld := ⟨0, 0x500058, 0, 2, 0⟩
def FAILOVER_COUNT_COUNT : Fld := ⟨0, 0x50005c, 0, 32, 0⟩
def FAILOVER_LAST_NS : Fld := ⟨0, 0x500060, 0, 32, 0⟩
def FAULT_LATE_COUNT_COUNT : Fld := ⟨0, 0x500064, 0, 32, 0⟩
def PLANE_CRC_ERR_COUNT (i : Nat) : Fld := ⟨0, 0x500068 + 4 * i, 0, 32, 0⟩
def REPLAY_COUNT_COUNT : Fld := ⟨0, 0x500074, 0, 32, 0⟩

/-! 04_switch_core.md: VAT_CTRL, template SWITCH1. -/

def VAT_CTRL_ALPHA : Fld := ⟨0, 0x501040, 0, 4, 8⟩
def HOLD_AGE_LIMIT_MS : Fld := ⟨0, 0x501044, 0, 16, 0xea60⟩
def HOLD_WARN_PCT : Fld := ⟨0, 0x501048, 0, 7, 90⟩
def BANK_CE_LIMIT_COUNT : Fld := ⟨0, 0x50104c, 0, 16, 64⟩
def BANK_STAT_STATE (i : Nat) : Fld := ⟨0, 0x501050 + 4 * i, 0, 32, (if i = 3 then 5 else 0)⟩
def BANK_RETIRE_LOG_SPARE : Fld := ⟨0, 0x501060, 16, 6, 63⟩
def BANK_RETIRE_LOG_SUB : Fld := ⟨0, 0x501060, 8, 4, 15⟩
def BANK_RETIRE_LOG_BANK : Fld := ⟨0, 0x501060, 0, 6, 63⟩
def VAT_FREE_UNITS : Fld := ⟨0, 0x501064, 0, 20, 0xc0000⟩
def SHARED_USED_UNITS : Fld := ⟨0, 0x501068, 0, 19, 0⟩
def HOLD_USED_UNITS : Fld := ⟨0, 0x50106c, 0, 18, 0⟩
def HOLD_PEAK_RESET : Fld := ⟨0, 0x501070, 31, 1, 0⟩
def HOLD_PEAK_UNITS : Fld := ⟨0, 0x501070, 0, 18, 0⟩
def HOLD_FULL_COUNT_COUNT : Fld := ⟨0, 0x501074, 0, 32, 0⟩
def HOLD_EXPIRED_COUNT_COUNT : Fld := ⟨0, 0x501078, 0, 32, 0⟩
def UNCORR_COUNT_COUNT : Fld := ⟨0, 0x50107c, 0, 32, 0⟩

/-! 04_switch_core.md: STAT_SEL, template SWITCH2. -/

def STAT_SEL_PORT (p : Nat) : Fld := ⟨p + 1, 0x502040, 0, 7, 0⟩
def CELLS_IN_COUNT (w : Nat) : Fld := ⟨w + 1, 0x502044, 0, 32, 0⟩
def CELLS_OUT_COUNT (w : Nat) : Fld := ⟨w + 1, 0x502048, 0, 32, 0⟩
def SKIMMED_COUNT (w : Nat) : Fld := ⟨w + 1, 0x50204c, 0, 32, 0⟩
def REPLAYED_COUNT (w : Nat) : Fld := ⟨w + 1, 0x502050, 0, 32, 0⟩
def RES_USED_UNITS (w : Nat) : Fld := ⟨w + 1, 0x502054, 0, 13, 0⟩
def SHR_USED_UNITS (w : Nat) : Fld := ⟨w + 1, 0x502058, 0, 19, 0⟩
def HELD_UNITS (w : Nat) : Fld := ⟨w + 1, 0x50205c, 0, 18, 0⟩
def STALL_CT_COUNT (w : Nat) : Fld := ⟨w + 1, 0x502060, 0, 32, 0⟩
def DISCARDED_COUNT (w : Nat) : Fld := ⟨w + 1, 0x502064, 0, 32, 0⟩

/-! 04_switch_core.md: HT_SRC_DST, template SWITCH3. -/

def HT_SRC_DST_KEY_TYPE : Fld := ⟨0, 0x503040, 16, 3, 1⟩
def HT_SRC_DST_DST : Fld := ⟨0, 0x503040, 8, 7, 0⟩
def HT_SRC_DST_SRC : Fld := ⟨0, 0x503040, 0, 7, 0⟩
def HT_KEY_LO_KEY : Fld := ⟨0, 0x503044, 0, 32, 0⟩
def HT_KEY_HI_KEY : Fld := ⟨0, 0x503048, 0, 32, 0⟩
def HT_RESULT_CRC_HI : Fld := ⟨0, 0x50304c, 16, 16, 0⟩
def HT_RESULT_PHYS : Fld := ⟨0, 0x50304c, 2, 2, 0⟩
def HT_RESULT_LOGICAL : Fld := ⟨0, 0x50304c, 0, 1, 0⟩

/-! 06_coherent_pool.md: CTRL, template DIR0. -/

def CTRL_FILL_REMOTE : Fld := ⟨0, 0x600040, 2, 1, 1⟩
def CTRL_E_GRANT : Fld := ⟨0, 0x600040, 1, 1, 1⟩
def CTRL_COMPAT : Fld := ⟨0, 0x600040, 0, 1, 0⟩
def BISNP_TIMEOUT_US : Fld := ⟨0, 0x600044, 0, 16, 0x7d0⟩
def PROTO_ERR_COUNT_COUNT : Fld := ⟨0, 0x600048, 0, 32, 0⟩
def PROTO_ERR_LOG_REASON : Fld := ⟨0, 0x60004c, 8, 4, 0⟩
def PROTO_ERR_LOG_PORT : Fld := ⟨0, 0x60004c, 0, 7, 127⟩
def VICTIM_COUNT_COUNT : Fld := ⟨0, 0x600050, 0, 32, 0⟩
def BISNP_COUNT_COUNT : Fld := ⟨0, 0x600054, 0, 32, 0⟩
def POISON_FWD_COUNT_COUNT : Fld := ⟨0, 0x600058, 0, 32, 0⟩
def LOSS_COUNT_COUNT : Fld := ⟨0, 0x60005c, 0, 32, 0⟩
def LOSS_STAT_SEQ : Fld := ⟨0, 0x600060, 16, 16, 0⟩
def LOSS_STAT_BUSY : Fld := ⟨0, 0x600060, 8, 1, 0⟩
def LOSS_STAT_PORT : Fld := ⟨0, 0x600060, 0, 7, 127⟩

/-! 06_coherent_pool.md: REG_BASE, template DIR1. -/

def REG_BASE_GIB (i : Nat) : Fld := ⟨0, 0x601040 + 32 * i, 0, 15, 0⟩
def REG_SIZE_GIB (i : Nat) : Fld := ⟨0, 0x601044 + 32 * i, 0, 16, 0⟩
def REG_CFG_RECALL (i : Nat) : Fld := ⟨0, 0x601048 + 32 * i, 31, 1, 0⟩
def REG_CFG_DBASE_GIB (i : Nat) : Fld := ⟨0, 0x601048 + 32 * i, 16, 11, 0⟩
def REG_CFG_GRAN (i : Nat) : Fld := ⟨0, 0x601048 + 32 * i, 8, 5, 0⟩
def REG_CFG_WAYS (i : Nat) : Fld := ⟨0, 0x601048 + 32 * i, 4, 4, 0⟩
def REG_CFG_EN (i : Nat) : Fld := ⟨0, 0x601048 + 32 * i, 0, 1, 0⟩
def REG_TGT_LO_PORTS (i : Nat) : Fld := ⟨0, 0x60104c + 32 * i, 0, 32, 0⟩
def REG_TGT_HI_PORTS (i : Nat) : Fld := ⟨0, 0x601050 + 32 * i, 0, 32, 0⟩
def POOL_STAT_RECALL : Fld := ⟨0, 0x601240, 16, 1, 0⟩
def POOL_STAT_LOST : Fld := ⟨0, 0x601240, 0, 16, 0⟩
def POOL_LOST_CLR_PORTS : Fld := ⟨0, 0x601244, 0, 16, 0⟩

/-! 06_coherent_pool.md: LENS_SEL, template DIR2. -/

def LENS_SEL_WIN (p : Nat) : Fld := ⟨p + 1, 0x602040, 8, 6, 0⟩
def LENS_SEL_HOST (p : Nat) : Fld := ⟨p + 1, 0x602040, 0, 5, 0⟩
def LENS_SIZE_UNITS (w : Nat) : Fld := ⟨w + 1, 0x602044, 0, 25, 0x1000000⟩
def WIN_DPA_UNITS (w : Nat) : Fld := ⟨w + 1, 0x602048, 0, 24, 0⟩
def WIN_SIZE_UNITS (w : Nat) : Fld := ⟨w + 1, 0x60204c, 0, 25, 0⟩
def WIN_POOL_UNITS (w : Nat) : Fld := ⟨w + 1, 0x602050, 0, 24, 0⟩
def WIN_ATTR_RECALL (w : Nat) : Fld := ⟨w + 1, 0x602054, 8, 1, 0⟩
def WIN_ATTR_CREAM (w : Nat) : Fld := ⟨w + 1, 0x602054, 1, 1, 1⟩
def WIN_ATTR_EN (w : Nat) : Fld := ⟨w + 1, 0x602054, 0, 1, 0⟩
def UNMAPPED_COUNT_COUNT (w : Nat) : Fld := ⟨w + 1, 0x602058, 0, 32, 0⟩
def UNMAPPED_ADDR_LO_DPA (w : Nat) : Fld := ⟨w + 1, 0x60205c, 0, 32, 0⟩
def UNMAPPED_ADDR_HI_DPA (w : Nat) : Fld := ⟨w + 1, 0x602060, 0, 32, 0⟩

/-! 06_coherent_pool.md: SLICE_STAT0, template DIR3. -/

def SLICE_STAT0_STATE : Fld := ⟨0, 0x603040, 0, 32, 0⟩
def SLICE_STAT1_STATE : Fld := ⟨0, 0x603044, 0, 32, 0⟩
def SPARE_STAT_ROLE_VALID : Fld := ⟨0, 0x603048, 15, 1, 0⟩
def SPARE_STAT_ROLE : Fld := ⟨0, 0x603048, 8, 5, 0⟩
def SPARE_STAT_DX : Fld := ⟨0, 0x603048, 4, 2, 0⟩
def SPARE_STAT_DP1 : Fld := ⟨0, 0x603048, 2, 2, 0⟩
def SPARE_STAT_DP0 : Fld := ⟨0, 0x603048, 0, 2, 0⟩
def REBUILD_STAT_ACTIVE : Fld := ⟨0, 0x60304c, 31, 1, 0⟩
def REBUILD_STAT_SLICE : Fld := ⟨0, 0x60304c, 16, 5, 0⟩
def REBUILD_STAT_ROW : Fld := ⟨0, 0x60304c, 0, 16, 0⟩
def SLICE_FAIL_LOG_CAUSE : Fld := ⟨0, 0x603050, 8, 4, 0⟩
def SLICE_FAIL_LOG_SLICE : Fld := ⟨0, 0x603050, 0, 5, 0⟩
def SLICE_CE_LIMIT_COUNT : Fld := ⟨0, 0x603054, 0, 16, 64⟩
def SLICE_CMD_FORCE : Fld := ⟨0, 0x603058, 5, 1, 0⟩
def SLICE_CMD_SLICE : Fld := ⟨0, 0x603058, 0, 5, 0⟩
def ROW_FIX_COUNT_COUNT : Fld := ⟨0, 0x60305c, 0, 32, 0⟩
def RECON_LAST_NS : Fld := ⟨0, 0x603060, 0, 32, 0⟩
def REBUILD_LAST_US : Fld := ⟨0, 0x603064, 0, 32, 0⟩

/-! 06_coherent_pool.md: ENT_ADDR_LO, template DIR4. -/

def ENT_ADDR_LO_ADDR : Fld := ⟨0, 0x604040, 0, 32, 0⟩
def ENT_ADDR_HI_ADDR : Fld := ⟨0, 0x604044, 0, 32, 0⟩
def ENT_POS_WAY : Fld := ⟨0, 0x604048, 24, 5, 0⟩
def ENT_POS_SET : Fld := ⟨0, 0x604048, 8, 14, 0⟩
def ENT_POS_SLICE : Fld := ⟨0, 0x604048, 0, 5, 0⟩
def ENT_CMD_BY_POS : Fld := ⟨0, 0x60404c, 1, 1, 0⟩
def ENT_CMD_BY_ADDR : Fld := ⟨0, 0x60404c, 0, 1, 0⟩
def ENT_STAT_RECON : Fld := ⟨0, 0x604050, 2, 1, 0⟩
def ENT_STAT_HIT : Fld := ⟨0, 0x604050, 1, 1, 0⟩
def ENT_STAT_BUSY : Fld := ⟨0, 0x604050, 0, 1, 0⟩
def ENT_DATA0_BITS : Fld := ⟨0, 0x604054, 0, 32, 0⟩
def ENT_DATA1_BITS : Fld := ⟨0, 0x604058, 0, 32, 0⟩
def ENT_DATA2_BITS : Fld := ⟨0, 0x60405c, 0, 17, 0⟩

/-! 06_coherent_pool.md: CR_CTRL, template CREAM. -/

def CR_CTRL_DROP (n : Nat) : Fld := ⟨0, 0x610040 + 0x1000 * n, 2, 1, 0⟩
def CR_CTRL_RET_KEEP (n : Nat) : Fld := ⟨0, 0x610040 + 0x1000 * n, 1, 1, 0⟩
def CR_CTRL_EN (n : Nat) : Fld := ⟨0, 0x610040 + 0x1000 * n, 0, 1, 1⟩
def CR_BANK_STAT_STATE (n : Nat) : Fld := ⟨0, 0x610044 + 0x1000 * n, 0, 16, 0⟩
def CR_CE_LIMIT_COUNT (n : Nat) : Fld := ⟨0, 0x610048 + 0x1000 * n, 0, 16, 64⟩
def CR_LINES_COUNT (n : Nat) : Fld := ⟨0, 0x61004c + 0x1000 * n, 0, 18, 0⟩
def CR_F_LINES_COUNT (n : Nat) : Fld := ⟨0, 0x610050 + 0x1000 * n, 0, 18, 0⟩
def CR_HIT_OWN_COUNT (n : Nat) : Fld := ⟨0, 0x610054 + 0x1000 * n, 0, 32, 0⟩
def CR_HIT_REMOTE_COUNT (n : Nat) : Fld := ⟨0, 0x610058 + 0x1000 * n, 0, 32, 0⟩
def CR_SERVE_INT_COUNT (n : Nat) : Fld := ⟨0, 0x61005c + 0x1000 * n, 0, 32, 0⟩
def CR_FILL_COUNT (n : Nat) : Fld := ⟨0, 0x610060 + 0x1000 * n, 0, 32, 0⟩
def CR_EVICT_COUNT (n : Nat) : Fld := ⟨0, 0x610064 + 0x1000 * n, 0, 32, 0⟩
def CR_STALE_COUNT (n : Nat) : Fld := ⟨0, 0x610068 + 0x1000 * n, 0, 32, 0⟩
def CR_DROP_COUNT_COUNT (n : Nat) : Fld := ⟨0, 0x61006c + 0x1000 * n, 0, 32, 0⟩

/-! 07_memory_guard.md: GUARD_CTRL, template GUARD0. -/

def GUARD_CTRL_LOG_FREEZE : Fld := ⟨0, 0x700040, 0, 1, 0⟩
def DRAIN_STAT_STRAGGLED : Fld := ⟨0, 0x700044, 8, 1, 0⟩
def DRAIN_STAT_ACTIVE : Fld := ⟨0, 0x700044, 4, 1, 0⟩
def DRAIN_STAT_SLOT : Fld := ⟨0, 0x700044, 0, 3, 0⟩
def DRAIN_LAST_NS : Fld := ⟨0, 0x700048, 0, 12, 0⟩
def DRAIN_MAX_RESET : Fld := ⟨0, 0x70004c, 31, 1, 0⟩
def DRAIN_MAX_NS : Fld := ⟨0, 0x70004c, 0, 12, 0⟩
def STRAGGLE_COUNT_COUNT : Fld := ⟨0, 0x700050, 0, 32, 0⟩
def VIOL_COUNT_R_COUNT : Fld := ⟨0, 0x700054, 0, 32, 0⟩
def VIOL_COUNT_W_COUNT : Fld := ⟨0, 0x700058, 0, 32, 0⟩
def VIOL_COUNT_A_COUNT : Fld := ⟨0, 0x70005c, 0, 32, 0⟩
def SPLIT_COUNT_COUNT : Fld := ⟨0, 0x700060, 0, 32, 0⟩
def COL_ECC_COUNT_COUNT : Fld := ⟨0, 0x700064, 0, 32, 0⟩
def COL_ECC_GRAN_GRAN : Fld := ⟨0, 0x700068, 0, 24, 0⟩

/-! 07_memory_guard.md: COL_SEL, template GUARD1. -/

def COL_SEL_GRAN (p : Nat) : Fld := ⟨p + 1, 0x701040, 0, 24, 0⟩
def COL_FILL_COLOUR (w : Nat) : Fld := ⟨w + 1, 0x701044, 24, 8, 0⟩
def COL_FILL_COUNT_M1 (w : Nat) : Fld := ⟨w + 1, 0x701044, 0, 17, 0⟩
def COL_READ_BAD (w : Nat) : Fld := ⟨w + 1, 0x701048, 8, 1, 0⟩
def COL_READ_COLOUR (w : Nat) : Fld := ⟨w + 1, 0x701048, 0, 8, 0⟩

/-! 07_memory_guard.md: MASK_SEL, template GUARD2. -/

def MASK_SEL_INIT (p : Nat) : Fld := ⟨p + 1, 0x702040, 0, 9, 0⟩
def INIT_VIOL_COUNT (w : Nat) : Fld := ⟨w + 1, 0x702044, 0, 32, 0⟩
def RMASK_COLOURS (w i : Nat) : Fld := ⟨w + 1, 0x702080 + 4 * i, 0, 32, (resetMask w i)⟩
def WMASK_COLOURS (w i : Nat) : Fld := ⟨w + 1, 0x7020a0 + 4 * i, 0, 32, (resetMask w i)⟩

/-! 07_memory_guard.md: LOG_STAT, template GUARD3. -/

def LOG_STAT_FILL : Fld := ⟨0, 0x703040, 8, 5, 0⟩
def LOG_STAT_NEXT : Fld := ⟨0, 0x703040, 0, 4, 0⟩
def LOG_CLR_CLR : Fld := ⟨0, 0x703044, 0, 1, 0⟩
def LOG_LOST_COUNT : Fld := ⟨0, 0x703048, 0, 32, 0⟩
def LOG_INFO_COLOUR (i : Nat) : Fld := ⟨0, 0x703080 + 32 * i, 24, 8, 0⟩
def LOG_INFO_REASON (i : Nat) : Fld := ⟨0, 0x703080 + 32 * i, 16, 4, 0⟩
def LOG_INFO_OP (i : Nat) : Fld := ⟨0, 0x703080 + 32 * i, 12, 3, 0⟩
def LOG_INFO_INIT (i : Nat) : Fld := ⟨0, 0x703080 + 32 * i, 0, 9, 0⟩
def LOG_ADDR_LO_ADDR (i : Nat) : Fld := ⟨0, 0x703084 + 32 * i, 0, 32, 0⟩
def LOG_ADDR_HI_ADDR (i : Nat) : Fld := ⟨0, 0x703088 + 32 * i, 0, 32, 0⟩
def LOG_LEN_BYTES (i : Nat) : Fld := ⟨0, 0x70308c + 32 * i, 0, 16, 0⟩
def LOG_TIME_LO_NS (i : Nat) : Fld := ⟨0, 0x703090 + 32 * i, 0, 32, 0⟩
def LOG_TIME_HI_NS (i : Nat) : Fld := ⟨0, 0x703094 + 32 * i, 0, 32, 0⟩
def LOG_SEQ_SEQ (i : Nat) : Fld := ⟨0, 0x703098 + 32 * i, 0, 32, 0⟩

/-! 14_scan_out.md: SO_CTRL, template SCANOUT. -/

def SO_CTRL_LOWREF_EN (n : Nat) : Fld := ⟨0, 0x800040 + 0x1000 * n, 24, 1, 1⟩
def SO_CTRL_SYNC_SEL (n : Nat) : Fld := ⟨0, 0x800040 + 0x1000 * n, 22, 2, 0⟩
def SO_CTRL_SRC (n : Nat) : Fld := ⟨0, 0x800040 + 0x1000 * n, 20, 2, 0⟩
def SO_CTRL_FORMAT (n : Nat) : Fld := ⟨0, 0x800040 + 0x1000 * n, 16, 2, 0⟩
def SO_CTRL_SINK (n : Nat) : Fld := ⟨0, 0x800040 + 0x1000 * n, 12, 2, 0⟩
def SO_CTRL_PORT (n : Nat) : Fld := ⟨0, 0x800040 + 0x1000 * n, 8, 4, 0⟩
def SO_CTRL_EN (n : Nat) : Fld := ⟨0, 0x800040 + 0x1000 * n, 0, 1, 0⟩
def SO_SIZE_HEIGHT (n : Nat) : Fld := ⟨0, 0x800044 + 0x1000 * n, 16, 16, 0x438⟩
def SO_SIZE_WIDTH (n : Nat) : Fld := ⟨0, 0x800044 + 0x1000 * n, 0, 16, 0x780⟩
def SO_VTIME_FETCH_LEAD (n : Nat) : Fld := ⟨0, 0x800048 + 0x1000 * n, 16, 8, 4⟩
def SO_VTIME_VTOTAL (n : Nat) : Fld := ⟨0, 0x800048 + 0x1000 * n, 0, 16, 0x465⟩
def SO_PERIOD_LO_P (n : Nat) : Fld := ⟨0, 0x80004c + 0x1000 * n, 0, 32, 0x28155555⟩
def SO_PERIOD_HI_P (n : Nat) : Fld := ⟨0, 0x800050 + 0x1000 * n, 0, 16, 127⟩
def SO_PHASE_LO_NS (n : Nat) : Fld := ⟨0, 0x800054 + 0x1000 * n, 0, 32, 0⟩
def SO_PHASE_HI_NS (n : Nat) : Fld := ⟨0, 0x800058 + 0x1000 * n, 0, 32, 0⟩
def SO_SYNC_DLY_NS (n : Nat) : Fld := ⟨0, 0x80005c + 0x1000 * n, 0, 20, 0⟩
def SO_LOWREF_HOLD (n : Nat) : Fld := ⟨0, 0x800060 + 0x1000 * n, 8, 8, 4⟩
def SO_LOWREF_DIV (n : Nat) : Fld := ⟨0, 0x800060 + 0x1000 * n, 0, 4, 4⟩
def SO_LOCK_ADJ_NS (n : Nat) : Fld := ⟨0, 0x800064 + 0x1000 * n, 0, 32, 0⟩
def SO_CMD_DIRTY (n : Nat) : Fld := ⟨0, 0x800068 + 0x1000 * n, 0, 1, 0⟩
def SO_STAT_LEAD (n : Nat) : Fld := ⟨0, 0x80006c + 0x1000 * n, 24, 7, 0⟩
def SO_STAT_DIV (n : Nat) : Fld := ⟨0, 0x80006c + 0x1000 * n, 16, 4, 1⟩
def SO_STAT_NO_SINK (n : Nat) : Fld := ⟨0, 0x80006c + 0x1000 * n, 5, 1, 0⟩
def SO_STAT_SINK_LIMIT (n : Nat) : Fld := ⟨0, 0x80006c + 0x1000 * n, 4, 1, 0⟩
def SO_STAT_FREERUN (n : Nat) : Fld := ⟨0, 0x80006c + 0x1000 * n, 3, 1, 0⟩
def SO_STAT_LOW (n : Nat) : Fld := ⟨0, 0x80006c + 0x1000 * n, 2, 1, 0⟩
def SO_STAT_SENDING (n : Nat) : Fld := ⟨0, 0x80006c + 0x1000 * n, 1, 1, 0⟩
def SO_STAT_RUNNING (n : Nat) : Fld := ⟨0, 0x80006c + 0x1000 * n, 0, 1, 0⟩
def SO_FRAME_NUMBER (n : Nat) : Fld := ⟨0, 0x800070 + 0x1000 * n, 0, 32, 0⟩
def SO_START_LO_NS (n : Nat) : Fld := ⟨0, 0x800074 + 0x1000 * n, 0, 32, 0⟩
def SO_START_HI_NS (n : Nat) : Fld := ⟨0, 0x800078 + 0x1000 * n, 0, 32, 0⟩
def SO_SENT_COUNT_COUNT (n : Nat) : Fld := ⟨0, 0x80007c + 0x1000 * n, 0, 32, 0⟩
def SO_SKIP_COUNT_COUNT (n : Nat) : Fld := ⟨0, 0x800080 + 0x1000 * n, 0, 32, 0⟩
def SO_SLIP_COUNT_COUNT (n : Nat) : Fld := ⟨0, 0x800084 + 0x1000 * n, 0, 32, 0⟩
def L_CTRL_GALPHA (n i : Nat) : Fld := ⟨0, 0x800100 + 0x1000 * n + 64 * i, 8, 8, 255⟩
def L_CTRL_AXIS (n i : Nat) : Fld := ⟨0, 0x800100 + 0x1000 * n + 64 * i, 5, 3, 0⟩
def L_CTRL_LOCK_EN (n i : Nat) : Fld := ⟨0, 0x800100 + 0x1000 * n + 64 * i, 4, 1, 0⟩
def L_CTRL_FMT (n i : Nat) : Fld := ⟨0, 0x800100 + 0x1000 * n + 64 * i, 1, 2, 0⟩
def L_CTRL_EN (n i : Nat) : Fld := ⟨0, 0x800100 + 0x1000 * n + 64 * i, 0, 1, 0⟩
def L_BASE_LO_ADDR (n i : Nat) : Fld := ⟨0, 0x800104 + 0x1000 * n + 64 * i, 0, 32, 0⟩
def L_BASE_HI_ADDR (n i : Nat) : Fld := ⟨0, 0x800108 + 0x1000 * n + 64 * i, 0, 32, 0⟩
def L_PITCH_BYTES (n i : Nat) : Fld := ⟨0, 0x80010c + 0x1000 * n + 64 * i, 0, 24, 0⟩
def L_SRC_H (n i : Nat) : Fld := ⟨0, 0x800110 + 0x1000 * n + 64 * i, 16, 16, 1⟩
def L_SRC_W (n i : Nat) : Fld := ⟨0, 0x800110 + 0x1000 * n + 64 * i, 0, 16, 1⟩
def L_DST_Y (n i : Nat) : Fld := ⟨0, 0x800114 + 0x1000 * n + 64 * i, 16, 16, 0⟩
def L_DST_X (n i : Nat) : Fld := ⟨0, 0x800114 + 0x1000 * n + 64 * i, 0, 16, 0⟩
def L_RECT_H (n i : Nat) : Fld := ⟨0, 0x800118 + 0x1000 * n + 64 * i, 16, 16, 0⟩
def L_RECT_W (n i : Nat) : Fld := ⟨0, 0x800118 + 0x1000 * n + 64 * i, 0, 16, 0⟩
def L_ORG_X_ORG (n i : Nat) : Fld := ⟨0, 0x80011c + 0x1000 * n + 64 * i, 0, 32, 0⟩
def L_ORG_Y_ORG (n i : Nat) : Fld := ⟨0, 0x800120 + 0x1000 * n + 64 * i, 0, 32, 0⟩
def L_SCALE_X_SCALE (n i : Nat) : Fld := ⟨0, 0x800124 + 0x1000 * n + 64 * i, 0, 32, 0⟩
def L_SCALE_Y_SCALE (n i : Nat) : Fld := ⟨0, 0x800128 + 0x1000 * n + 64 * i, 0, 32, 0⟩
def L_COLOUR_RGB (n i : Nat) : Fld := ⟨0, 0x80012c + 0x1000 * n + 64 * i, 0, 24, 0xffffff⟩
def L_STAT_ERR_COUNT (n i : Nat) : Fld := ⟨0, 0x800130 + 0x1000 * n + 64 * i, 16, 16, 0⟩
def L_STAT_CAUSE (n i : Nat) : Fld := ⟨0, 0x800130 + 0x1000 * n + 64 * i, 4, 2, 0⟩
def L_STAT_HELD (n i : Nat) : Fld := ⟨0, 0x800130 + 0x1000 * n + 64 * i, 2, 1, 0⟩
def L_STAT_FROZEN (n i : Nat) : Fld := ⟨0, 0x800130 + 0x1000 * n + 64 * i, 1, 1, 0⟩
def L_STAT_OFF (n i : Nat) : Fld := ⟨0, 0x800130 + 0x1000 * n + 64 * i, 0, 1, 0⟩
def L_ORG_CUR_Y (n i : Nat) : Fld := ⟨0, 0x800134 + 0x1000 * n + 64 * i, 16, 16, 0⟩
def L_ORG_CUR_X (n i : Nat) : Fld := ⟨0, 0x800134 + 0x1000 * n + 64 * i, 0, 16, 0⟩
def L_CRC_CRC (n i : Nat) : Fld := ⟨0, 0x800138 + 0x1000 * n + 64 * i, 0, 32, 0⟩
def L_UNDERRUN_COUNT_COUNT (n i : Nat) : Fld := ⟨0, 0x80013c + 0x1000 * n + 64 * i, 0, 32, 0⟩

/-! 15_signal_bridge.md: BR_CTRL, template BRIDGE0. -/

def BR_CTRL_EN : Fld := ⟨0, 0x900040, 0, 1, 1⟩
def BR_TIMING_REG_TIMEOUT_US : Fld := ⟨0, 0x900044, 0, 18, 0x3e8⟩
def BR_SEM_HOLD_MS : Fld := ⟨0, 0x900048, 16, 9, 50⟩
def BR_SEM_WAIT_MS : Fld := ⟨0, 0x900048, 0, 16, 100⟩
def BR_RA_RA_LIFE_US : Fld := ⟨0, 0x90004c, 0, 16, 100⟩
def BR_MSG_COUNT_COUNT : Fld := ⟨0, 0x900050, 0, 32, 0⟩
def BR_NO_ROUTE_COUNT : Fld := ⟨0, 0x900054, 0, 32, 0⟩
def BR_FAIL_COUNT_COUNT : Fld := ⟨0, 0x900058, 0, 32, 0⟩
def BR_TIMEOUT_COUNT_COUNT : Fld := ⟨0, 0x90005c, 0, 32, 0⟩
def BR_LATE_RSP_COUNT : Fld := ⟨0, 0x900060, 0, 32, 0⟩
def BR_SEM_BREAK_COUNT : Fld := ⟨0, 0x900064, 0, 32, 0⟩
def BR_LOG_PORT : Fld := ⟨0, 0x900068, 8, 7, 127⟩
def BR_LOG_REASON : Fld := ⟨0, 0x900068, 0, 8, 0⟩

/-! 15_signal_bridge.md: SEG, template BRIDGE1. -/

def SEG_COUNT (i : Nat) : Fld := ⟨0, 0x901040 + 4 * i, 16, 13, 0⟩
def SEG_BASE (i : Nat) : Fld := ⟨0, 0x901040 + 4 * i, 0, 16, 0⟩
def HBUF_LO_ADDR (i : Nat) : Fld := ⟨0, 0x901100 + 8 * i, 8, 24, 0⟩
def HBUF_LO_EN (i : Nat) : Fld := ⟨0, 0x901100 + 8 * i, 0, 1, 0⟩
def HBUF_HI_ADDR (i : Nat) : Fld := ⟨0, 0x901104 + 8 * i, 0, 32, 0⟩

/-! 15_signal_bridge.md: RT_SEL, template BRIDGE2. -/

def RT_SEL_ENTRY (p : Nat) : Fld := ⟨p + 1, 0x902040, 0, 16, 0⟩
def RT_W0_VALID (w : Nat) : Fld := ⟨w + 1, 0x902044, 31, 1, 0⟩
def RT_W0_GEN (w : Nat) : Fld := ⟨w + 1, 0x902044, 27, 4, 0⟩
def RT_W0_TAG_MODE (w : Nat) : Fld := ⟨w + 1, 0x902044, 25, 2, 0⟩
def RT_W0_AXIS (w : Nat) : Fld := ⟨w + 1, 0x902044, 22, 3, 0⟩
def RT_W0_DIR (w : Nat) : Fld := ⟨w + 1, 0x902044, 21, 1, 0⟩
def RT_W0_HOOK (w : Nat) : Fld := ⟨w + 1, 0x902044, 20, 1, 0⟩
def RT_W0_DST_KIND (w : Nat) : Fld := ⟨w + 1, 0x902044, 19, 1, 0⟩
def RT_W0_DST (w : Nat) : Fld := ⟨w + 1, 0x902044, 14, 5, 0⟩
def RT_W0_NEW_CH (w : Nat) : Fld := ⟨w + 1, 0x902044, 0, 12, 0⟩
def RT_W1_PARAM (w : Nat) : Fld := ⟨w + 1, 0x902048, 0, 32, 0⟩
def RT_W2_DST_TCH (w : Nat) : Fld := ⟨w + 1, 0x90204c, 0, 5, 0⟩
def RT_HITS_COUNT (w : Nat) : Fld := ⟨w + 1, 0x902050, 0, 32, 0⟩

/-! 15_signal_bridge.md: PL_SEL, template BRIDGE3. -/

def PL_SEL_ENTRY (p : Nat) : Fld := ⟨p + 1, 0x903040, 0, 8, 0⟩
def PL_CTRL_EN (w : Nat) : Fld := ⟨w + 1, 0x903044, 31, 1, 0⟩
def PL_CTRL_SBU_OK (w : Nat) : Fld := ⟨w + 1, 0x903044, 30, 1, 1⟩
def PL_CTRL_MIRROR_EN (w : Nat) : Fld := ⟨w + 1, 0x903044, 29, 1, 0⟩
def PL_CTRL_HOST_EN (w : Nat) : Fld := ⟨w + 1, 0x903044, 28, 1, 0⟩
def PL_CTRL_HOST (w : Nat) : Fld := ⟨w + 1, 0x903044, 23, 5, 0⟩
def PL_CTRL_TCH (w : Nat) : Fld := ⟨w + 1, 0x903044, 18, 5, 0⟩
def PL_CTRL_PORT (w : Nat) : Fld := ⟨w + 1, 0x903044, 14, 4, 0⟩
def PL_CTRL_LEN (w : Nat) : Fld := ⟨w + 1, 0x903044, 11, 3, 4⟩
def PL_ADDR_ADDR (w : Nat) : Fld := ⟨w + 1, 0x903048, 0, 32, 0⟩
def PL_MASK_MASK (w : Nat) : Fld := ⟨w + 1, 0x90304c, 0, 32, 0xffffffff⟩
def PL_PERIOD_US (w : Nat) : Fld := ⟨w + 1, 0x903050, 0, 24, 0x3e8⟩
def PL_MIRROR_LO_ADDR (w : Nat) : Fld := ⟨w + 1, 0x903054, 0, 32, 0⟩
def PL_MIRROR_HI_ADDR (w : Nat) : Fld := ⟨w + 1, 0x903058, 0, 32, 0⟩
def PL_VALUE_VALUE (w : Nat) : Fld := ⟨w + 1, 0x90305c, 0, 32, 0⟩
def PL_STAT_SKIP (w : Nat) : Fld := ⟨w + 1, 0x903060, 16, 16, 0⟩
def PL_STAT_VIA_SBU (w : Nat) : Fld := ⟨w + 1, 0x903060, 1, 1, 0⟩
def PL_STAT_BUSY (w : Nat) : Fld := ⟨w + 1, 0x903060, 0, 1, 0⟩

/-! 15_signal_bridge.md: RG_CTRL, template BRIDGE4. -/

def RG_CTRL_EN (i : Nat) : Fld := ⟨0, 0x904040 + 16 * i, 31, 1, 0⟩
def RG_CTRL_PREFETCH (i : Nat) : Fld := ⟨0, 0x904040 + 16 * i, 30, 1, 0⟩
def RG_CTRL_PORT (i : Nat) : Fld := ⟨0, 0x904040 + 16 * i, 16, 4, 0⟩
def RG_CTRL_TCH (i : Nat) : Fld := ⟨0, 0x904040 + 16 * i, 8, 5, 0⟩
def RG_CTRL_RA_BYTES (i : Nat) : Fld := ⟨0, 0x904040 + 16 * i, 0, 8, 64⟩
def RG_LO_ADDR (i : Nat) : Fld := ⟨0, 0x904044 + 16 * i, 0, 32, 0⟩
def RG_HI_ADDR (i : Nat) : Fld := ⟨0, 0x904048 + 16 * i, 0, 32, 0⟩

/-! 15_signal_bridge.md: DPF_STAT, template BRIDGE5. -/

def DPF_STAT_FILL : Fld := ⟨0, 0x905040, 8, 5, 0⟩
def DPF_STAT_NEXT : Fld := ⟨0, 0x905040, 0, 4, 0⟩
def DPF_CLR_CLR : Fld := ⟨0, 0x905044, 0, 1, 0⟩
def DPF_INFO_HOST (i : Nat) : Fld := ⟨0, 0x905080 + 16 * i, 27, 5, 0⟩
def DPF_INFO_CAUSE (i : Nat) : Fld := ⟨0, 0x905080 + 16 * i, 24, 3, 0⟩
def DPF_INFO_PORT (i : Nat) : Fld := ⟨0, 0x905080 + 16 * i, 16, 4, 0⟩
def DPF_INFO_TCH (i : Nat) : Fld := ⟨0, 0x905080 + 16 * i, 8, 5, 0⟩
def DPF_INFO_BYTES (i : Nat) : Fld := ⟨0, 0x905080 + 16 * i, 0, 8, 0⟩
def DPF_ADDR_ADDR (i : Nat) : Fld := ⟨0, 0x905084 + 16 * i, 0, 32, 0⟩
def DPF_TIME_LO_NS (i : Nat) : Fld := ⟨0, 0x905088 + 16 * i, 0, 32, 0⟩
def DPF_TIME_HI_NS (i : Nat) : Fld := ⟨0, 0x90508c + 16 * i, 0, 32, 0⟩

/-! 17_engines.md: LOCK_CTRL, template ENGINE0. -/

def LOCK_CTRL_CKPT_US : Fld := ⟨0, 0xa00040, 0, 8, 10⟩
def LOCK_STAT_EN02_READY : Fld := ⟨0, 0xa00044, 2, 1, 0⟩
def LOCK_STAT_MGMT : Fld := ⟨0, 0xa00044, 0, 2, 0⟩
def CKPT_COUNT_COUNT : Fld := ⟨0, 0xa00048, 0, 32, 0⟩
def TAKEOVER_NS_NS : Fld := ⟨0, 0xa0004c, 0, 32, 0⟩
def SERVE_LO_ENG : Fld := ⟨0, 0xa00050, 0, 32, 0x76543210⟩
def SERVE_HI_ENG : Fld := ⟨0, 0xa00054, 0, 32, 0xfedcba98⟩
def ORPHAN_PORTS : Fld := ⟨0, 0xa00058, 0, 16, 0⟩
def IMG_STAT_VERSION : Fld := ⟨0, 0xa0005c, 16, 16, 0⟩
def IMG_STAT_RESULT : Fld := ⟨0, 0xa0005c, 0, 4, 0⟩

/-! 17_engines.md: MW_SEL, template ENGINE1. -/

def MW_SEL_ENGINE (p : Nat) : Fld := ⟨p + 1, 0xa01040, 16, 5, 0⟩
def MW_SEL_SPACE (p : Nat) : Fld := ⟨p + 1, 0xa01040, 0, 1, 0⟩
def MW_ADDR_OFFSET : Fld := ⟨0, 0xa01044, 0, 18, 0⟩
def MW_DATA_WORD : Fld := ⟨0, 0xa01048, 0, 32, 0⟩

/-! 17_engines.md: ENG_CTRL, template ENGPAGE. -/

def ENG_CTRL_STOP (n : Nat) : Fld := ⟨0, 0xa10040 + 0x1000 * n, 1, 1, 0⟩
def ENG_CTRL_START (n : Nat) : Fld := ⟨0, 0xa10040 + 0x1000 * n, 0, 1, 0⟩
def ENG_STAT_CAUSE (n : Nat) : Fld := ⟨0, 0xa10044 + 0x1000 * n, 4, 4, 0⟩
def ENG_STAT_STATE (n : Nat) : Fld := ⟨0, 0xa10044 + 0x1000 * n, 0, 3, 0⟩
def ENG_PC_PC (n : Nat) : Fld := ⟨0, 0xa10048 + 0x1000 * n, 0, 16, 0⟩
def ENG_WDOG_US (n : Nat) : Fld := ⟨0, 0xa1004c + 0x1000 * n, 0, 20, 0x3e8⟩
def ENG_HOOK_LOG2 (n : Nat) : Fld := ⟨0, 0xa10050 + 0x1000 * n, 20, 4, 4⟩
def ENG_HOOK_BASE (n : Nat) : Fld := ⟨0, 0xa10050 + 0x1000 * n, 0, 18, 0⟩
def ENG_HOOK_PROD_INDEX (n : Nat) : Fld := ⟨0, 0xa10054 + 0x1000 * n, 0, 6, 0⟩
def ENG_HOOK_CONS_INDEX (n : Nat) : Fld := ⟨0, 0xa10058 + 0x1000 * n, 0, 6, 0⟩
def ENG_BRCMD_OFFSET (n : Nat) : Fld := ⟨0, 0xa1005c + 0x1000 * n, 0, 18, 0⟩
def ENG_BRSTAT_DONE (n : Nat) : Fld := ⟨0, 0xa10060 + 0x1000 * n, 31, 1, 0⟩
def ENG_BRSTAT_REASON (n : Nat) : Fld := ⟨0, 0xa10060 + 0x1000 * n, 0, 8, 0⟩
def ENG_FAULT_COUNT_COUNT (n : Nat) : Fld := ⟨0, 0xa10064 + 0x1000 * n, 0, 32, 0⟩
def ENG_ECC_COUNT_COUNT (n : Nat) : Fld := ⟨0, 0xa10068 + 0x1000 * n, 0, 32, 0⟩

/-! 19_keys_lifecycle.md: KV_CTRL, template KEY0. -/

def KV_CTRL_REMASK_MS : Fld := ⟨0, 0x1000040, 16, 10, 64⟩
def KV_CTRL_RESEED : Fld := ⟨0, 0x1000040, 0, 16, 0x400⟩
def ROOT_STAT_KEYS : Fld := ⟨0, 0x1000044, 1, 1, 0⟩
def ROOT_STAT_VALID : Fld := ⟨0, 0x1000044, 0, 1, 0⟩
def ROOT_CMD_GEN : Fld := ⟨0, 0x1000048, 0, 1, 0⟩
def TAMPER_EN_SRC : Fld := ⟨0, 0x100004c, 0, 8, 255⟩
def TAMPER_PIN_FILT : Fld := ⟨0, 0x1000050, 8, 4, 3⟩
def TAMPER_PIN_POL : Fld := ⟨0, 0x1000050, 0, 4, 0⟩
def TAMPER_STAT_LAST : Fld := ⟨0, 0x1000054, 8, 8, 0⟩
def TAMPER_STAT_LATCH : Fld := ⟨0, 0x1000054, 0, 8, 0⟩
def TAMPER_TIME_S : Fld := ⟨0, 0x1000058, 0, 32, 0⟩
def TAMPER_COUNT_COUNT : Fld := ⟨0, 0x100005c, 0, 32, 0⟩
def DRBG_STAT_REASON : Fld := ⟨0, 0x1000060, 8, 8, 0⟩
def DRBG_STAT_FAIL : Fld := ⟨0, 0x1000060, 1, 1, 0⟩
def DRBG_STAT_OK : Fld := ⟨0, 0x1000060, 0, 1, 0⟩
def REMASK_COUNT_COUNT : Fld := ⟨0, 0x1000064, 0, 32, 0⟩

/-! 19_keys_lifecycle.md: KS_SEL, template KEY1. -/

def KS_SEL_SLOT (p : Nat) : Fld := ⟨p + 1, 0x1001040, 0, 8, 0⟩
def KS_INFO_VALID (w : Nat) : Fld := ⟨w + 1, 0x1001044, 31, 1, 0⟩
def KS_INFO_EXPORT (w : Nat) : Fld := ⟨w + 1, 0x1001044, 30, 1, 0⟩
def KS_INFO_ATTR (w : Nat) : Fld := ⟨w + 1, 0x1001044, 28, 2, 0⟩
def KS_INFO_FIXED (w : Nat) : Fld := ⟨w + 1, 0x1001044, 27, 1, 0⟩
def KS_INFO_OWNER (w : Nat) : Fld := ⟨w + 1, 0x1001044, 0, 8, 255⟩
def KS_USES_COUNT (w : Nat) : Fld := ⟨w + 1, 0x1001048, 0, 32, 0⟩

/-! 19_keys_lifecycle.md: KV_CMD, template KEY2. -/

def KV_CMD_GO (p : Nat) : Fld := ⟨p + 1, 0x1002040, 31, 1, 0⟩
def KV_CMD_TARGET (p : Nat) : Fld := ⟨p + 1, 0x1002040, 16, 8, 0⟩
def KV_CMD_SOURCE (p : Nat) : Fld := ⟨p + 1, 0x1002040, 8, 8, 0⟩
def KV_CMD_EXPORT (p : Nat) : Fld := ⟨p + 1, 0x1002040, 6, 1, 0⟩
def KV_CMD_ATTR (p : Nat) : Fld := ⟨p + 1, 0x1002040, 4, 2, 0⟩
def KV_CMD_OP (p : Nat) : Fld := ⟨p + 1, 0x1002040, 0, 4, 0⟩
def KV_LEN_BYTES (p : Nat) : Fld := ⟨p + 1, 0x1002044, 0, 6, 0⟩
def KV_STAT_BUSY (p : Nat) : Fld := ⟨p + 1, 0x1002048, 31, 1, 0⟩
def KV_STAT_RESULT (p : Nat) : Fld := ⟨p + 1, 0x1002048, 0, 4, 0⟩
def KV_OWNER_REQ (p : Nat) : Fld := ⟨p + 1, 0x100204c, 0, 8, 255⟩
def KV_DATA_BYTES (p i : Nat) : Fld := ⟨p + 1, 0x1002080 + 4 * i, 0, 32, 0⟩

/-! 18_power_clocks_start.md: DOM_SEL, template POWER0. -/

def DOM_SEL_DOM (p : Nat) : Fld := ⟨p + 1, 0x1100040, 0, 8, 0⟩
def DOM_CTRL_REQ (w : Nat) : Fld := ⟨w + 1, 0x1100044, 0, 2, 0⟩
def DOM_STAT_ERR (w : Nat) : Fld := ⟨w + 1, 0x1100048, 8, 1, 0⟩
def DOM_STAT_TARGET (w : Nat) : Fld := ⟨w + 1, 0x1100048, 4, 2, 0⟩
def DOM_STAT_DEFERRED (w : Nat) : Fld := ⟨w + 1, 0x1100048, 3, 1, 0⟩
def DOM_STAT_STATE (w : Nat) : Fld := ⟨w + 1, 0x1100048, 0, 2, 0⟩
def DOM_RET_COUNT_COUNT (w : Nat) : Fld := ⟨w + 1, 0x110004c, 0, 32, 0⟩
def ENGINE_RET_KEEP : Fld := ⟨0, 0x1100050, 0, 24, 0⟩
def SAVE_USED_BYTES : Fld := ⟨0, 0x1100054, 0, 20, 0⟩
def DOM_MAP_STATE (i : Nat) : Fld := ⟨0, 0x1100080 + 4 * i, 0, 32, 0⟩

/-! 18_power_clocks_start.md: RT_STAT, template POWER1. -/

def RT_STAT_EXIT_HOLD : Fld := ⟨0, 0x1101040, 4, 1, 0⟩
def RT_STAT_ACTIVE : Fld := ⟨0, 0x1101040, 0, 1, 0⟩
def DIP_COUNT_COUNT : Fld := ⟨0, 0x1101044, 0, 32, 0⟩
def RT_LAST_NS : Fld := ⟨0, 0x1101048, 0, 32, 0⟩
def VBAT_MV_MV : Fld := ⟨0, 0x110104c, 0, 16, 0⟩
def SM_CFG_RESET_FILT (i : Nat) : Fld := ⟨0, 0x1101080 + 16 * i, 24, 8, 50⟩
def SM_CFG_WARN_FILT (i : Nat) : Fld := ⟨0, 0x1101080 + 16 * i, 16, 8, 5⟩
def SM_CFG_RESET_PCT (i : Nat) : Fld := ⟨0, 0x1101080 + 16 * i, 8, 8, 80⟩
def SM_CFG_WARN_PCT (i : Nat) : Fld := ⟨0, 0x1101080 + 16 * i, 0, 8, 40⟩
def SM_V_MV (i : Nat) : Fld := ⟨0, 0x1101084 + 16 * i, 0, 16, 0⟩
def SM_MIN_MV (i : Nat) : Fld := ⟨0, 0x1101088 + 16 * i, 0, 16, 0xffff⟩
def SM_CMD_CLR_MIN (i : Nat) : Fld := ⟨0, 0x110108c + 16 * i, 0, 1, 0⟩

/-! 18_power_clocks_start.md: AON_CTRL, template POWER2. -/

def AON_CTRL_LP_EN : Fld := ⟨0, 0x1102040, 0, 1, 1⟩
def AON_STAT_LOAD_MA10 : Fld := ⟨0, 0x1102044, 0, 12, 0⟩
def AON_STAT_MODE : Fld := ⟨0, 0x1102044, 16, 1, 0⟩
def WAKE_EN_SRC : Fld := ⟨0, 0x1102048, 0, 6, 63⟩
def WAKE_TIME_LO_NS : Fld := ⟨0, 0x110204c, 0, 32, 0xffffffff⟩
def WAKE_TIME_HI_NS : Fld := ⟨0, 0x1102050, 0, 32, 0xffffffff⟩
def WAKE_LOG_SRC : Fld := ⟨0, 0x1102054, 0, 6, 0⟩

/-! 18_power_clocks_start.md: CLK_CTRL, template POWER3. -/

def POWER3_CLK_CTRL_XTAL_HOLD_MS : Fld := ⟨0, 0x1103040, 0, 16, 100⟩
def CLK_CMD_SWAP : Fld := ⟨0, 0x1103044, 1, 1, 0⟩
def CLK_CMD_TO_PLL : Fld := ⟨0, 0x1103044, 0, 1, 0⟩
def POWER3_CLK_STAT_PLL_B : Fld := ⟨0, 0x1103048, 12, 2, 3⟩
def POWER3_CLK_STAT_PLL_A : Fld := ⟨0, 0x1103048, 8, 2, 3⟩
def POWER3_CLK_STAT_ACTIVE : Fld := ⟨0, 0x1103048, 4, 1, 0⟩
def POWER3_CLK_STAT_X32K_OK : Fld := ⟨0, 0x1103048, 3, 1, 0⟩
def POWER3_CLK_STAT_XTAL_OK : Fld := ⟨0, 0x1103048, 2, 1, 0⟩
def POWER3_CLK_STAT_ON_PLL : Fld := ⟨0, 0x1103048, 0, 1, 0⟩
def CLK_SW_COUNT_COUNT : Fld := ⟨0, 0x110304c, 0, 32, 0⟩

/-! 18_power_clocks_start.md: THERM_CTRL, template POWER4. -/

def THERM_CTRL_AUTO_RESTART : Fld := ⟨0, 0x1104040, 8, 1, 1⟩
def THERM_CTRL_TRIP_DEGC : Fld := ⟨0, 0x1104040, 0, 8, 120⟩
def THERM_STAT_SENSOR : Fld := ⟨0, 0x1104044, 8, 6, 0⟩
def THERM_STAT_TRIPPED : Fld := ⟨0, 0x1104044, 0, 1, 0⟩
def TRIP_COUNT_COUNT : Fld := ⟨0, 0x1104048, 0, 32, 0⟩

/-! 13_vbus_feeds.md: FD_CTRL, template POWER8. -/

def FD_CTRL_REV_A : Fld := ⟨0, 0x1108040, 8, 8, 1⟩
def FD_CTRL_EN_B : Fld := ⟨0, 0x1108040, 1, 1, 1⟩
def FD_CTRL_EN_A : Fld := ⟨0, 0x1108040, 0, 1, 1⟩
def FD_THRESH_OV : Fld := ⟨0, 0x1108044, 16, 10, 0x249⟩
def FD_THRESH_UV : Fld := ⟨0, 0x1108044, 0, 10, 0x1a4⟩
def FD_BUS_UV_US : Fld := ⟨0, 0x1108048, 16, 8, 10⟩
def FD_BUS_UV : Fld := ⟨0, 0x1108048, 0, 10, 0x190⟩
def FD_SHUNT_B_UOHM : Fld := ⟨0, 0x110804c, 16, 16, 0x1f4⟩
def FD_SHUNT_A_UOHM : Fld := ⟨0, 0x110804c, 0, 16, 0x1f4⟩
def FD_STAT_BUS_LOW : Fld := ⟨0, 0x1108050, 16, 1, 0⟩
def FD_STAT_B : Fld := ⟨0, 0x1108050, 8, 2, 0⟩
def FD_STAT_A : Fld := ⟨0, 0x1108050, 0, 2, 0⟩
def FDA_V_MV : Fld := ⟨0, 0x1108054, 0, 16, 0⟩
def FDA_I_C10MA : Fld := ⟨0, 0x1108058, 0, 16, 0⟩
def FDA_P_WIN_MW : Fld := ⟨0, 0x110805c, 0, 24, 0⟩
def FDB_V_MV : Fld := ⟨0, 0x1108060, 0, 16, 0⟩
def FDB_I_C10MA : Fld := ⟨0, 0x1108064, 0, 16, 0⟩
def FDB_P_WIN_MW : Fld := ⟨0, 0x1108068, 0, 24, 0⟩
def BUS_V_MV : Fld := ⟨0, 0x110806c, 0, 16, 0⟩
def BUS_P_WIN_MW : Fld := ⟨0, 0x1108070, 0, 24, 0⟩
def FDA_E_LO_UJ : Fld := ⟨0, 0x1108074, 0, 32, 0⟩
def FDA_E_HI_UJ : Fld := ⟨0, 0x1108078, 0, 32, 0⟩
def FDB_E_LO_UJ : Fld := ⟨0, 0x110807c, 0, 32, 0⟩
def FDB_E_HI_UJ : Fld := ⟨0, 0x1108080, 0, 32, 0⟩
def BUS_E_LO_UJ : Fld := ⟨0, 0x1108084, 0, 32, 0⟩
def BUS_E_HI_UJ : Fld := ⟨0, 0x1108088, 0, 32, 0⟩
def FD_CHANGE_COUNT_COUNT : Fld := ⟨0, 0x110808c, 0, 32, 0⟩
def BUS_UV_COUNT_COUNT : Fld := ⟨0, 0x1108090, 0, 32, 0⟩

/-! 20_repair.md: REP_CTRL, template REPAIR0. -/

def REP_CTRL_FLASH_EN : Fld := ⟨0, 0x1200040, 1, 1, 1⟩
def REP_CTRL_FUSE_EN : Fld := ⟨0, 0x1200040, 0, 1, 1⟩
def REP_STAT_FLASH_OK : Fld := ⟨0, 0x1200044, 24, 1, 0⟩
def REP_STAT_MAP_SRC : Fld := ⟨0, 0x1200044, 16, 2, 2⟩
def REP_STAT_ENTRIES : Fld := ⟨0, 0x1200044, 0, 11, 0⟩
def REP_LOG_ELEM : Fld := ⟨0, 0x1200048, 0, 32, 0⟩
def FUSE_USED_ENTRIES : Fld := ⟨0, 0x120004c, 0, 10, 0⟩
def SPARE_LEFT_EN02 : Fld := ⟨0, 0x1200050, 5, 1, 1⟩
def SPARE_LEFT_DX : Fld := ⟨0, 0x1200050, 4, 1, 1⟩
def SPARE_LEFT_BANKS : Fld := ⟨0, 0x1200050, 2, 2, 2⟩
def SPARE_LEFT_PLANES : Fld := ⟨0, 0x1200050, 0, 2, 1⟩

/-! 20_repair.md: REP_SEL, template REPAIR1. -/

def REP_SEL_ENTRY (p : Nat) : Fld := ⟨p + 1, 0x1201040, 0, 10, 0⟩
def REP_ELEM_WORD (w : Nat) : Fld := ⟨w + 1, 0x1201044, 0, 32, 0⟩
def REP_INFO_WORD (w : Nat) : Fld := ⟨w + 1, 0x1201048, 0, 16, 0⟩

/-! 20_repair.md: AVS_CTRL, template REPAIR2. -/

def AVS_CTRL_PERIOD_S : Fld := ⟨0, 0x1202040, 16, 16, 60⟩
def AVS_CTRL_GAIN : Fld := ⟨0, 0x1202040, 8, 8, 4⟩
def AVS_CTRL_EN : Fld := ⟨0, 0x1202040, 0, 1, 1⟩
def AVS_STAT_CEIL : Fld := ⟨0, 0x1202044, 31, 1, 0⟩
def AVS_STAT_TRIM_MV : Fld := ⟨0, 0x1202044, 16, 12, 0⟩
def AVS_STAT_SET_MV : Fld := ⟨0, 0x1202044, 0, 12, 0⟩
def AGE_WORST_MON : Fld := ⟨0, 0x1202048, 20, 6, 0⟩
def AGE_WORST_PPM : Fld := ⟨0, 0x1202048, 0, 20, 0⟩
def AGE_SEL_MON (p : Nat) : Fld := ⟨p + 1, 0x120204c, 0, 5, 0⟩
def AGE_PPM_PPM (w : Nat) : Fld := ⟨w + 1, 0x1202050, 0, 20, 0⟩

/-! 20_repair.md: SHUT_CTRL, template BIST16. -/

def SHUT_CTRL_RESTART : Fld := ⟨0, 0x1210040, 0, 1, 0⟩
def BIST_STAT_FAILS : Fld := ⟨0, 0x1210044, 16, 16, 0⟩
def BIST_STAT_PROG : Fld := ⟨0, 0x1210044, 8, 4, 0⟩
def BIST_STAT_PHASE : Fld := ⟨0, 0x1210044, 0, 3, 0⟩
def SHUT_LAST_MS_MS : Fld := ⟨0, 0x1210048, 0, 16, 0⟩
def BIST_CMD_GO : Fld := ⟨0, 0x121004c, 8, 1, 0⟩
def BIST_CMD_PROG : Fld := ⟨0, 0x121004c, 0, 4, 0⟩
def BIST_SEL_PROG (p : Nat) : Fld := ⟨p + 1, 0x1210050, 0, 4, 0⟩
def BIST_RES_FAILED (w : Nat) : Fld := ⟨w + 1, 0x1210054, 8, 8, 0⟩
def BIST_RES_RESULT (w : Nat) : Fld := ⟨w + 1, 0x1210054, 0, 2, 0⟩
def BIST_SIG_LO_SIG (w : Nat) : Fld := ⟨w + 1, 0x1210058, 0, 32, 0⟩
def BIST_SIG_HI_SIG (w : Nat) : Fld := ⟨w + 1, 0x121005c, 0, 32, 0⟩

/-! 09_lanes.md: LW_SEL, template LANE32. -/

def LW_SEL_LANE (p : Nat) : Fld := ⟨p + 1, 0x1220040, 8, 2, 0⟩
def LW_SEL_MACRO (p : Nat) : Fld := ⟨p + 1, 0x1220040, 0, 7, 0⟩
def SEQ_SEL_STEP (p : Nat) : Fld := ⟨p + 1, 0x1220044, 0, 6, 0⟩
def LW_LOG_KIND : Fld := ⟨0, 0x1220048, 20, 3, 0⟩
def LW_LOG_LANE : Fld := ⟨0, 0x1220048, 16, 2, 0⟩
def LW_LOG_MACRO : Fld := ⟨0, 0x1220048, 0, 7, 127⟩
def MAC_CTRL_REF_SEL (w : Nat) : Fld := ⟨w + 1, 0x1220080, 8, 1, 0⟩
def MAC_CTRL_PLL_SWAP (w : Nat) : Fld := ⟨w + 1, 0x1220080, 0, 1, 0⟩
def MAC_STAT_PLL_B (w : Nat) : Fld := ⟨w + 1, 0x1220084, 12, 2, 3⟩
def MAC_STAT_PLL_A (w : Nat) : Fld := ⟨w + 1, 0x1220084, 8, 2, 3⟩
def MAC_STAT_ACTIVE (w : Nat) : Fld := ⟨w + 1, 0x1220084, 4, 1, 0⟩
def MAC_STAT_RATE (w : Nat) : Fld := ⟨w + 1, 0x1220084, 0, 4, 0⟩
def PLL_SW_COUNT_COUNT (w : Nat) : Fld := ⟨w + 1, 0x1220088, 0, 32, 0⟩
def SEQ_CTRL_START_STEP (w : Nat) : Fld := ⟨w + 1, 0x122008c, 16, 6, 0⟩
def SEQ_CTRL_STOP (w : Nat) : Fld := ⟨w + 1, 0x122008c, 1, 1, 0⟩
def SEQ_CTRL_START (w : Nat) : Fld := ⟨w + 1, 0x122008c, 0, 1, 0⟩
def SEQ_STAT_LC (w : Nat) : Fld := ⟨w + 1, 0x1220090, 16, 16, 0⟩
def SEQ_STAT_STEP (w : Nat) : Fld := ⟨w + 1, 0x1220090, 8, 6, 0⟩
def SEQ_STAT_WAIT_ENGINE (w : Nat) : Fld := ⟨w + 1, 0x1220090, 3, 1, 0⟩
def SEQ_STAT_RESULT (w : Nat) : Fld := ⟨w + 1, 0x1220090, 2, 1, 0⟩
def SEQ_STAT_DONE (w : Nat) : Fld := ⟨w + 1, 0x1220090, 1, 1, 0⟩
def SEQ_STAT_RUNNING (w : Nat) : Fld := ⟨w + 1, 0x1220090, 0, 1, 0⟩
def SEQ_STEP_WORD (w : Nat) : Fld := ⟨w + 1, 0x1220094, 0, 32, 0⟩
def SEQ_CMD_NEXT (w : Nat) : Fld := ⟨w + 1, 0x1220098, 8, 6, 0⟩
def SEQ_CMD_CONTINUE (w : Nat) : Fld := ⟨w + 1, 0x1220098, 0, 1, 0⟩
def AUDIT_CFG_SLICE_LIMIT (w : Nat) : Fld := ⟨w + 1, 0x122009c, 16, 8, 16⟩
def AUDIT_CFG_PERIOD_MS (w : Nat) : Fld := ⟨w + 1, 0x122009c, 0, 16, 0x3e8⟩
def LN_CTRL_POL_INV (w : Nat) : Fld := ⟨w + 1, 0x1220100, 4, 1, 0⟩
def LN_CTRL_FREEZE (w : Nat) : Fld := ⟨w + 1, 0x1220100, 3, 1, 0⟩
def LN_CTRL_ADAPT_DFE (w : Nat) : Fld := ⟨w + 1, 0x1220100, 2, 1, 1⟩
def LN_CTRL_ADAPT_CTLE (w : Nat) : Fld := ⟨w + 1, 0x1220100, 1, 1, 1⟩
def LN_CTRL_TX_EN (w : Nat) : Fld := ⟨w + 1, 0x1220100, 0, 1, 1⟩
def LN_STAT_SPARED_SLICE (w : Nat) : Fld := ⟨w + 1, 0x1220104, 8, 3, 0⟩
def LN_STAT_RETIRED (w : Nat) : Fld := ⟨w + 1, 0x1220104, 7, 1, 0⟩
def LN_STAT_LOUPE (w : Nat) : Fld := ⟨w + 1, 0x1220104, 5, 2, 0⟩
def LN_STAT_ADAPTED (w : Nat) : Fld := ⟨w + 1, 0x1220104, 3, 1, 0⟩
def LN_STAT_RAIL (w : Nat) : Fld := ⟨w + 1, 0x1220104, 2, 1, 0⟩
def LN_STAT_CDR_LOCK (w : Nat) : Fld := ⟨w + 1, 0x1220104, 1, 1, 0⟩
def LN_STAT_SIGNAL (w : Nat) : Fld := ⟨w + 1, 0x1220104, 0, 1, 0⟩
def TX_FFE_C_POST (w : Nat) : Fld := ⟨w + 1, 0x1220108, 16, 6, 0⟩
def TX_FFE_C_PRE (w : Nat) : Fld := ⟨w + 1, 0x1220108, 8, 6, 0⟩
def TX_FFE_PRESET (w : Nat) : Fld := ⟨w + 1, 0x1220108, 0, 4, 0⟩
def CTLE_PEAK (w : Nat) : Fld := ⟨w + 1, 0x122010c, 0, 5, 16⟩
def DFE0_TAPS (w : Nat) : Fld := ⟨w + 1, 0x1220110, 0, 32, 0⟩
def DFE1_TAPS (w : Nat) : Fld := ⟨w + 1, 0x1220114, 0, 32, 0⟩
def DFE2_TAPS (w : Nat) : Fld := ⟨w + 1, 0x1220118, 0, 32, 0⟩
def EYE_CTRL_GO (w : Nat) : Fld := ⟨w + 1, 0x122011c, 31, 1, 0⟩
def EYE_CTRL_STOP (w : Nat) : Fld := ⟨w + 1, 0x122011c, 30, 1, 0⟩
def EYE_CTRL_EYE (w : Nat) : Fld := ⟨w + 1, 0x122011c, 28, 2, 1⟩
def EYE_CTRL_PHASE (w : Nat) : Fld := ⟨w + 1, 0x122011c, 16, 6, 0⟩
def EYE_CTRL_VOFS (w : Nat) : Fld := ⟨w + 1, 0x122011c, 8, 8, 0⟩
def EYE_CTRL_DWELL_LOG2 (w : Nat) : Fld := ⟨w + 1, 0x122011c, 0, 6, 20⟩
def EYE_STAT_ABORT (w : Nat) : Fld := ⟨w + 1, 0x1220120, 1, 2, 0⟩
def EYE_STAT_BUSY (w : Nat) : Fld := ⟨w + 1, 0x1220120, 0, 1, 0⟩
def EYE_ERR_LO_COUNT (w : Nat) : Fld := ⟨w + 1, 0x1220124, 0, 32, 0⟩
def EYE_ERR_HI_COUNT (w : Nat) : Fld := ⟨w + 1, 0x1220128, 0, 32, 0⟩
def SLICE_STAT_STATE (w : Nat) : Fld := ⟨w + 1, 0x122012c, 0, 16, 0⟩
def PRBS_CTRL_PATTERN (w : Nat) : Fld := ⟨w + 1, 0x1220130, 8, 4, 6⟩
def PRBS_CTRL_CHK_INV (w : Nat) : Fld := ⟨w + 1, 0x1220130, 5, 1, 0⟩
def PRBS_CTRL_GEN_INV (w : Nat) : Fld := ⟨w + 1, 0x1220130, 4, 1, 0⟩
def PRBS_CTRL_CHK_EN (w : Nat) : Fld := ⟨w + 1, 0x1220130, 1, 1, 0⟩
def PRBS_CTRL_GEN_EN (w : Nat) : Fld := ⟨w + 1, 0x1220130, 0, 1, 0⟩
def PRBS_USER_LO_BITS (w : Nat) : Fld := ⟨w + 1, 0x1220134, 0, 32, 0⟩
def PRBS_USER_HI_BITS (w : Nat) : Fld := ⟨w + 1, 0x1220138, 0, 32, 0⟩
def INJ_CTRL_ONE (w : Nat) : Fld := ⟨w + 1, 0x122013c, 8, 1, 0⟩
def INJ_CTRL_RATE_LOG2 (w : Nat) : Fld := ⟨w + 1, 0x122013c, 0, 6, 0⟩
def PRBS_STAT_LOCK_LOST (w : Nat) : Fld := ⟨w + 1, 0x1220140, 1, 1, 0⟩
def PRBS_STAT_LOCK (w : Nat) : Fld := ⟨w + 1, 0x1220140, 0, 1, 0⟩
def PRBS_ERR_COUNT (w : Nat) : Fld := ⟨w + 1, 0x1220144, 0, 32, 0⟩
def PRBS_BITS_LO_COUNT (w : Nat) : Fld := ⟨w + 1, 0x1220148, 0, 32, 0⟩
def PRBS_BITS_HI_COUNT (w : Nat) : Fld := ⟨w + 1, 0x122014c, 0, 32, 0⟩
def LB_CTRL_MODE (w : Nat) : Fld := ⟨w + 1, 0x1220150, 0, 2, 0⟩

/-! 19_keys_lifecycle.md: OTP_SEL, template OTP48. -/

def OTP_SEL_WORD (p : Nat) : Fld := ⟨p + 1, 0x1230040, 0, 11, 0⟩
def OTP_WORD_DATA (w : Nat) : Fld := ⟨w + 1, 0x1230044, 0, 32, 0⟩
def OTP_CMD_GO : Fld := ⟨0, 0x1230048, 31, 1, 0⟩
def OTP_CMD_ID : Fld := ⟨0, 0x1230048, 0, 8, 0⟩
def OTP_STAT_BUSY : Fld := ⟨0, 0x123004c, 31, 1, 0⟩
def OTP_STAT_RESULT : Fld := ⟨0, 0x123004c, 24, 4, 0⟩
def OTP_STAT_GEN : Fld := ⟨0, 0x123004c, 16, 2, 0⟩
def OTP_VALID_GENS : Fld := ⟨0, 0x1230050, 0, 28, 0⟩
def OTP_BUF_DATA (i : Nat) : Fld := ⟨0, 0x1230080 + 4 * i, 0, 32, 0⟩

/-! 21_service_usb.md: SVC_CTRL, template SVCUSB. -/

def SVC_CTRL_FUNC_EN : Fld := ⟨0, 0x1300040, 4, 3, 7⟩
def SVC_CTRL_FULL_EN : Fld := ⟨0, 0x1300040, 2, 1, 1⟩
def SVC_CTRL_HS_EN : Fld := ⟨0, 0x1300040, 1, 1, 1⟩
def SVC_CTRL_EN : Fld := ⟨0, 0x1300040, 0, 1, 1⟩
def SVC_STAT_SUSPENDED : Fld := ⟨0, 0x1300044, 20, 1, 0⟩
def SVC_STAT_CONFIG : Fld := ⟨0, 0x1300044, 16, 2, 0⟩
def SVC_STAT_ADDRESS : Fld := ⟨0, 0x1300044, 8, 7, 0⟩
def SVC_STAT_HIGH : Fld := ⟨0, 0x1300044, 4, 1, 0⟩
def SVC_STAT_STATE : Fld := ⟨0, 0x1300044, 0, 2, 0⟩
def SVC_WAKE_EN_SRC : Fld := ⟨0, 0x1300048, 0, 3, 7⟩
def SVC_WAKE_LOG_COLLIDED : Fld := ⟨0, 0x130004c, 9, 1, 0⟩
def SVC_WAKE_LOG_SERVED : Fld := ⟨0, 0x130004c, 8, 1, 0⟩
def SVC_WAKE_LOG_REASON : Fld := ⟨0, 0x130004c, 0, 3, 0⟩
def SVC_PORTS_CONN : Fld := ⟨0, 0x1300050, 0, 19, 0⟩
def SVC_RESET_COUNT_COUNT : Fld := ⟨0, 0x1300054, 0, 32, 0⟩
def SVC_ABORT_COUNT_COUNT : Fld := ⟨0, 0x1300058, 0, 32, 0⟩
def SVC_FLOW_NAK : Fld := ⟨0, 0x130005c, 16, 16, 0⟩
def SVC_FLOW_NYET : Fld := ⟨0, 0x130005c, 0, 16, 0⟩

end Sys2Proof.Machine.F
end

