-- ==== Sys2Proof/Machine/Operands.lean ====
section
/-! DEFINITION. Operand forms: requester codes of paths (R16), two's complement fields, 64-bit values in two halves, and
bits. -/

namespace Sys2Proof.Machine

/-- The requester code of a path (R16); EN00 and EN01 present 0x20. -/
def pathCode : Path → Nat
  | .host h => h.val
  | .mgmt => 0x20
  | .engine e => if e.val < 2 then 0x20 else 0x20 + e.val
  | .smbus => 0x40
  | .svcUsb => 0x41

/-- A `w`-bit value read as two's complement. -/
def toSigned (w v : Nat) : Int := if v < 2 ^ (w - 1) then (v : Int) else (v : Int) - (2 ^ w : Nat)

/-- The `w`-bit two's complement of an integer. -/
def ofSigned (w : Nat) (i : Int) : Nat := (i % (2 ^ w : Nat)).toNat

/-- Bit `b` of a word as 0 or 1. -/
def bitOf (v b : Nat) : Nat := v / 2 ^ b % 2

/-- Is bit `b` of a word set? -/
def hasBit (v b : Nat) : Bool := v / 2 ^ b % 2 == 1

/-- The word with bit `b` set or cleared. -/
def putBit (v b : Nat) (x : Bool) : Nat :=
  if hasBit v b then (if x then v else v - 2 ^ b) else (if x then v + 2 ^ b else v)

/-- Field of `w` bits at `lo`. -/
def bits (v lo w : Nat) : Nat := v / 2 ^ lo % 2 ^ w

/-- 0 or 1. -/
def b2n (b : Bool) : Nat := if b then 1 else 0

/-- Saturating addition of a counter of `w` bits. -/
def satAdd (w v d : Nat) : Nat := min (v + d) (2 ^ w - 1)

/-- A write to a register of a page template: the page, the unit's instance, the register's offset and index in its
array, the copy of a banked register (the path's index or the value of the window's select), the requester code, and the
word written. -/
structure Wr where
  k  : PageKind
  n  : Nat
  ro : Nat
  i  : Nat
  w  : Nat
  p  : Nat
  v  : Nat
deriving DecidableEq, Repr

end Sys2Proof.Machine
end

