-- ==== Sys2Proof/Machine/Tbl.lean ====
section
/-! DEFINITION. Finite tables: a list of (key, value) pairs with strictly rising keys, an unlisted key reading as a
default. Registers, memories and the per-unit records of State are such tables. -/

namespace Sys2Proof.Machine

/-- A table from numbers to values. -/
abbrev Tbl (α : Type) := List (Nat × α)

variable {α : Type}

/-- The value at key `x`, or the default. -/
def tget (d : α) : Tbl α → Nat → α
  | [], _ => d
  | (k, v) :: t, x => if x = k then v else tget d t x

/-- The table with the value at key `x` replaced by `a`, kept in ascending order. -/
def tset : Tbl α → Nat → α → Tbl α
  | [], x, a => [(x, a)]
  | (k, v) :: t, x, a =>
    if x < k then (x, a) :: (k, v) :: t
    else if x = k then (x, a) :: t
    else (k, v) :: tset t x a

/-- The table without key `x`. -/
def tdel (t : Tbl α) (x : Nat) : Tbl α := t.filter (fun p => p.1 != x)

/-- Writing with a default: a value equal to the default leaves no entry. -/
def tput [DecidableEq α] (d : α) (t : Tbl α) (x : Nat) (a : α) : Tbl α :=
  if a = d then tdel t x else tset t x a

/-- Are the keys strictly rising? -/
def tsorted : Tbl α → Bool
  | [] => true
  | [_] => true
  | (k, _) :: (k', v') :: t => decide (k < k') && tsorted ((k', v') :: t)

end Sys2Proof.Machine
end

