-- ==== Sys2Proof/Machine/State.lean ====
section
/-! DEFINITION. The state of the hub as plain data: the register file (the fields of RegMap.lean, sparse), the state that
no register holds, chapter by chapter, the queue of waiting commands, and what the hub has emitted. -/

namespace Sys2Proof.Machine

/-! ### Chapter 2: transactions, mailboxes (R27-R49) -/

/-- The state of a transaction slot (TXN_STATn.STATE). -/
inductive SlotState where
  | free | opened | armed | broken
deriving DecidableEq, Repr

/-- One shadow entry (R32): the copy (bank) and address of a register, and the value to apply. -/
structure Shadow where
  bank  : Nat
  addr  : Nat
  value : Nat
deriving DecidableEq, Repr

/-- Where the wheel entry of a held cell or an armed commit stands (R117, R122); `fine` carries the fixed release instant in ns. -/
inductive Wheel where
  | none
  | fine (t : Int)
  | coarse (t : Int)
  | overflow (t : Int)
  | axisWheel
  | axisOverflow
deriving DecidableEq, Repr

/-- One transaction slot (R27-R41). `met` holds, once the commit condition is met, whether it was met late; `drain` is
set while the guard drain of R179 runs for it; `wheel` is where an armed commit's wheel entry stands (R117, R122). `result` and `resGen`, `resSeq` are TXN_RESULTn. -/
structure Slot where
  state   : SlotState := .free
  gen     : Nat := 0
  quar    : Bool := false
  opener  : Nat := 0xFF
  entries : List Shadow := []
  cond    : Nat := 0
  axis    : Nat := 0
  dir     : Nat := 0
  so      : Nat := 0
  param   : Nat := 0
  met     : Option Bool := none
  drain   : Bool := false
  wheel   : Wheel := .none
  crossed : Bool := false
  result  : Nat := 0
  resGen  : Nat := 0
  resSeq  : Nat := 0
deriving DecidableEq, Repr

/-- A mailbox of a host beyond its RW registers (R42-R47): the event counts, the count of command entries read, the SEQ
of the last entry read, the heads of the
entries posted and not yet read, in ring order, the heads of the commands that run, the ring sizes and bases in force, and the latched values of RESYNC. -/
structure Mail where
  evtSeq   : Nat := 0
  written  : Nat := 0
  dropped  : Nat := 0
  posted   : List CmdHead := []
  read     : Nat := 0
  lastSeq  : Nat := 0xFFFFFFFF
  done     : Nat := 0xFFFFFFFF
  running  : List CmdHead := []
  finished : List Nat := []
  halted   : Bool := false
  cmdBase  : Nat := 0
  cmdLog2  : Nat := 6
  evtBase  : Nat := 0
  evtLog2  : Nat := 6
  rsDone   : Nat := 0
  rsEvt    : Nat := 0
  rsCfg    : Nat := 0
  rsValid  : Bool := false
deriving DecidableEq, Repr

/-- A 32-byte record of a host's event ring (R44). -/
structure Rec where
  seq    : Nat
  typ    : Nat
  source : Nat
  ref    : Nat
  status : Nat
  addr   : Nat
  data   : Nat
deriving DecidableEq, Repr

/-! ### Chapter 16: the event unit (R368-R380) -/

/-- EV_STATE.STATE. -/
inductive EvPhase where
  | idle | held | pending | inService
deriving DecidableEq, Repr

/-- One event source: its EVT_STAT bit, its count, the hub time of its last occurrence in ns (R375), whether a
delivery of it is held (R373), and the state, target and class of its last delivery. -/
structure EvRec where
  stat   : Bool := false
  count  : Nat := 0
  occ    : Nat := 0
  held   : Bool := false
  phase  : EvPhase := .idle
  target : Nat := 0x7F
  fast   : Bool := false
deriving DecidableEq, Repr

/-- A vector of a host's MSI-X table (R184, R379): its message address and data, its mask, and its bit of the Pending Bit Array. A vector is
masked after reset (PCIe 7.0: PRESUMED, log entry 58). -/
structure MsixVec where
  addr   : Nat := 0
  data   : Nat := 0
  masked : Bool := true
  pend   : Bool := false
deriving DecidableEq, Repr

/-- One target (R371-R378): the pending and in-service sets of both classes, the events held back behind their own
service, the engine ring's producer index, the counts, and a host's MSI-X capability: enabled, Function Mask, the table (R184, R379). -/
structure TgtRec where
  pendN : List Nat := []
  pendF : List Nat := []
  servN : List Nat := []
  servF : List Nat := []
  backN : List Nat := []
  backF : List Nat := []
  qprod : Nat := 0
  deliv : Nat := 0
  qdrop : Nat := 0
  msix  : Bool := false
  fmask : Bool := false
  vecs  : Tbl MsixVec := []
deriving DecidableEq, Repr

/-- The event unit. `holdSeen` is clear while HELD_COUNT was last read as 0 and nothing was held since (R373). -/
structure EvUnit where
  recs     : Tbl EvRec := []
  tgts     : Tbl TgtRec := []
  ptrs     : Tbl Nat := []
  heldCt   : Nat := 0
  delivCt  : Nat := 0
  holdSeen : Bool := false
deriving DecidableEq, Repr

/-! ### Chapter 3: time, axes, triggers, captures (R50-R80) -/

/-- The hub clock in units of 2^-32 ns, and the part of a slew not yet absorbed, in the same units (R50, R54). -/
structure Clock where
  ticks : Nat := 0
  slew  : Int := 0
deriving DecidableEq, Repr

/-- An axis beyond its registers: the POS last evaluated, the position and time of the last counted transition, the
transitions counted within the velocity window (newest first), the qualified levels of A, B and Z, whether start levels
have been taken, whether the first Z pulse after a write of Z_MODE has come, and the always-on bit of R74. -/
structure AxisSt where
  lastPos : Int := 0
  pc      : Int := 0
  tc      : Nat := 0
  hist    : List (Int × Nat) := []
  a       : Bool := false
  b       : Bool := false
  z       : Bool := false
  started : Bool := false
  zStart  : Bool := false
  p0      : Int := 0
  zDone   : Bool := false
  counted : Bool := false
deriving DecidableEq, Repr

/-- A trigger beyond its registers: PARAM, AXIS and DIR as taken at ARM, the period, the index k of the next grid point, the fire
instant in ns where one is predicted, whether a ONCE mode has fired, its pulse still running, and the time-clock cycles that are left of the
running pulse. -/
structure Trig where
  param  : Int := 0
  period : Nat := 0
  axis   : Nat := 0
  dir    : Bool := false
  k      : Nat := 0
  fireAt : Option Int := none
  fired  : Bool := false
  left   : Nat := 0
deriving DecidableEq, Repr

/-- One entry of a capture queue (R78). -/
structure CapEntry where
  stamp  : Nat
  pos    : Int
  rising : Bool
deriving DecidableEq, Repr

/-- A capture input: whether a level has been qualified, the level, and the queue (front first). -/
structure Capture where
  seen  : Bool := false
  level : Bool := false
  queue : List CapEntry := []
deriving DecidableEq, Repr

/-- A sync input: whether an edge has been taken since EN rose. -/
structure SyncIn where
  edges : Nat := 0
  last  : Nat := 0
  level : Bool := false
  seen  : Bool := false
deriving DecidableEq, Repr

/-- A PTP port's state (IEEE 1588, R57). -/
inductive PtpState where
  | initializing | listening | master | slave | passive | uncalibrated | disabled
deriving DecidableEq, Repr

/-- A PTP port: its state, the ranks of the masters heard by their clockIdentity, the last stamps of Sync and delay exchanges, the mean path delay
formed from them, and the sequence numbers of its own messages. -/
structure PtpPort where
  state   : PtpState := .initializing
  foreign : Tbl Nat := []
  t1      : Int := 0
  t2      : Int := 0
  t3      : Int := 0
  t4      : Int := 0
  path    : Int := 0
  seqSync : Nat := 0
  seqAnn  : Nat := 0
  seqDly  : Nat := 0
  twoStep : Bool := false
deriving DecidableEq, Repr

/-- What every PTP message of the hub carries beside its type and stamp (R57): domainNumber, clockIdentity and, in an Announce, the hub's
priorities. -/
structure PtpHdr where
  domain    : Nat
  ident     : Nat
  priority1 : Nat
  priority2 : Nat
deriving DecidableEq, Repr

/-- Time, axes, triggers and captures. `past` holds the clock of the last 255 time-clock cycles, the newest first, and `offset` the servo's last
measured offset from its reference. -/
structure TimeSt where
  clk    : Clock := {}
  past   : List Nat := []
  axes   : Tbl AxisSt := []
  trigs  : Tbl Trig := []
  caps   : Tbl Capture := []
  syncs  : Tbl SyncIn := []
  ptp    : Tbl PtpPort := []
  offset : Int := 0
deriving DecidableEq, Repr

/-! ### Chapters 4 and 5: the switch core, the wheels, the governor (R81-R132) -/

/-- The partition a cell is charged to (R92). -/
inductive Part where
  | reserve | shared | hold
deriving DecidableEq, Repr

/-- Where a cell stands: held in the hold pool, waiting to cross, crossing, or accepted at its output and not yet
acknowledged. -/
inductive CellPhase where
  | held | waiting | crossing | accepted
deriving DecidableEq, Repr

/-- A cell in the vat (R81). `inp` is the input it crosses from: its source port, or 71 once released from the hold pool. `jumped` says of a
held cell that POS jumped over its release position (R69), `crossed` that POS crossed it in an evaluation that deferred the cell (R123); `sentAt`
is the instant at which the cell last began to cross; `spoilt` says that it cannot be rebuilt and keeps its place only for the DATA_BAD flit that
its tunnel sends (R106, R233). -/
structure Cell where
  id       : Nat
  src      : Nat
  dst      : Nat
  inp      : Nat
  keyType  : Nat
  flowKey  : Nat
  queue    : Nat
  payload  : List (BitVec 8)
  units    : Nat
  tag      : Tag
  plane    : Nat
  seq      : Nat := 0
  arrival  : Nat
  part     : Part
  phase    : CellPhase
  wheel    : Wheel := .none
  late     : Bool := false
  jumped   : Bool := false
  crossed  : Bool := false
  sentAt   : Nat := 0
  skim     : Bool := false
  replay   : Bool := false
  replays  : Nat := 0
  som      : Bool := true
  eom      : Bool := true
  spoilt   : Bool := false
deriving DecidableEq, Repr

/-- A stream (R82, R96): the next sequence number at its input and the number its output expects. -/
structure Stream where
  next   : Nat := 0
  expect : Nat := 0
deriving DecidableEq, Repr

/-- What a message that crosses the core in cells is for: the Ethernet forwarder, from one of its ports (R274); one of the forwarder's ports;
a tunnel, as segments (R269); or the host of a T-PCIE channel (R272). -/
inductive CoreGoal where
  | forward (port : Nat)
  | port (port : Nat)
  | tunnel
  | host (n i : Nat)
deriving DecidableEq, Repr

/-- A message that the hub itself cuts into cells (R81): its ports, kind of traffic and bytes; what of it still waits to enter the core, the ids of
its cells under way, and whether one of them was lost. -/
structure CoreMsg where
  src   : Nat
  dst   : Nat
  kind  : Traffic
  bytes : List (BitVec 8)
  goal  : CoreGoal
  left  : Option (List (BitVec 8))
  ids   : List Nat := []
  lost  : Bool := false
deriving DecidableEq, Repr

/-- The switch core. Streams are keyed by (input * 72 + output) * 2 + logical plane; grant and accept pointers by
72 * physical plane + port; deficits by 16 * output + queue; error windows by physical plane, as (start, count).
`shared` is the size of the shared partition, `fails` the failovers that run as (instant of detection, logical planes), `stopped` is set once no plane is
left, `copying` maps a spare bank to the bank it takes over (a bank to itself where none is left), `bankCells` to the cells with units in it,
`vatDebt` the units that copies into the other banks still lack (R106), `stalled` maps an input port held back under R93 to the units of the
cell it waits to take, `lastUse` is the instant a pair, (physical plane * 72 + input) * 72 + output, was last used on a plane (R87), `outAt`
the instant an output was last crossed to (R129), `shNext` is each shaper's next refill time, `shOvf` the shapers whose entry
waits on the time overflow list, `capWin` the window of
ladder level 6 per output as (start, units), `parity` the alternation of ride-through, `msgs` the Ethernet frames and TLPs that cross or wait to, oldest
first. -/
structure SwitchSt where
  cells   : List Cell := []
  nextId  : Nat := 0
  streams : Tbl Stream := []
  grants  : Tbl Nat := []
  accepts : Tbl Nat := []
  errWin  : Tbl (Nat × Nat) := []
  shared  : Nat := 360448
  fails   : List (Nat × List Nat) := []
  stopped : Bool := false
  warned  : Bool := false
  copying : Tbl Nat := []
  bankCells : Tbl (List Nat) := []
  vatDebt : Nat := 0
  stalled : Tbl Nat := []
  lastUse : Tbl Nat := []
  outAt   : Tbl Nat := []
  shNext  : Tbl Nat := []
  shOvf   : List Nat := []
  capWin  : Tbl (Nat × Nat) := []
  parity  : Bool := false
  msgs    : List CoreMsg := []
deriving DecidableEq, Repr

/-- The energy governor (R125-R131): consecutive windows in which the entry conditions of levels 4 to 6 and the exit condition of each level
held, the windows since the ladder stood at level 3 or below, the ports shed in order, the ports whose swap has stopped (R308), the powers of
the running millisecond, and which crossings have been reported: of the temperature, and of the budgets (die, feed A, feed B, dock bus). -/
structure GovSt where
  up4     : Nat := 0
  up5     : Nat := 0
  up6     : Nat := 0
  down    : Tbl Nat := []
  calm    : Nat := 0
  shed    : List Nat := []
  stopped : List Nat := []
  sumMw   : Nat := 0
  nSum    : Nat := 0
  tjOver  : Bool := false
  rOver   : List Nat := []
deriving DecidableEq, Repr

/-! ### Chapters 6 to 8: the pool, the guard, host and memory ports (R133-R200, R484) -/

/-- The stable states of a line (R143, R145). -/
inductive Stable where
  | i | s | f | e | m
deriving DecidableEq, Repr

/-- The transient states of an entry (R143). -/
inductive Trans where
  | none | snp | mem | vic
deriving DecidableEq, Repr

/-- A directory entry (R143): the line it stands for; the presence masks of hosts and cream caches, FWD and AGE as the entry
holds them. -/
structure DirEntry where
  line  : Nat
  st    : Stable := .i
  tr    : Trans := .none
  hosts : Nat := 0
  cream : Nat := 0
  fwd   : Nat := 0x3F
  age   : Nat := 3
deriving DecidableEq, Repr

/-- A line of a cream cache (R148): its data, and whether it is held in F. -/
structure CrLine where
  line : Nat
  f    : Bool
  data : BitVec 512
deriving DecidableEq, Repr

/-- The request kinds of R141, and a function's atomic operation (R172). -/
inductive ReqKind where
  | rdS | rdO | rdC | wrU | wbI | wbS | rel | atomic
deriving DecidableEq, Repr

/-- Where a request stands: checked, and not accepted by its slice yet; accepted and waiting; waiting for a way (R158); for its snoops; for an earlier write of the same line; for the expander; for the
expander's Cmp; or answered by it while its slice is fenced (R164). -/
inductive ReqPhase where
  | travel | queued | way | snoop | after | read | write | answered
deriving DecidableEq, Repr

/-- Data of a line under way, with the bytes it covers and its poison. -/
structure LineData where
  data   : BitVec 512
  be     : BitVec 64
  poison : Bool
deriving DecidableEq, Repr

/-- A request at the pool (R141, R153). `port` is the crossbar port it enters from, `init` its initiator (R170), `mport` and
`dpa` where the pool map put its line, `wb` the data of an owner's write-back, `snooped` tells that an owner was snooped,
`gone` that its initiator is lost, `way` the victim's way it waits for (R158), `came` the core cycle in which it came to its slice (R153). -/
structure Req where
  id      : Nat := 0
  port    : Nat
  init    : Nat
  tag     : Nat
  kind    : ReqKind
  noData  : Bool := false
  addr    : Nat
  len     : Nat := 64
  mport   : Nat := 0
  dpa     : Nat := 0
  creamOk : Bool := false
  eOk     : Bool := false
  wr      : LineData := ⟨0, 0, false⟩
  aop     : Option AtomicOp := none
  seq     : Nat := 0
  phase   : ReqPhase := .travel
  wb      : Option LineData := none
  snooped : Bool := false
  gone    : Bool := false
  way     : Option Nat := none
  came    : Nat := 0
deriving DecidableEq, Repr

/-- An access at its check point (R170): a host's line request, or a read, write or atomic operation of another initiator. -/
inductive Access where
  | line (r : Req)
  | read (port init tag addr len : Nat)
  | write (port init seq addr : Nat) (data : List (BitVec 8))
  | atomic (port init tag addr : Nat) (op : AtomicOp)
deriving DecidableEq, Repr

/-- A back-invalidate outstanding (R154): kind 0 BISnpCur, 1 BISnpData, 2 BISnpInv. `discard` is set while the line's
expander is lost (R161), `got` once the host's write-back has been taken as its data. -/
structure Snoop where
  host    : Nat
  bitag   : Nat
  line    : Nat
  kind    : Nat
  discard : Bool := false
  got     : Bool := false
deriving DecidableEq, Repr

/-- What waits for a slice's write-back lane (R153): a write-back, a release, a back-invalidate response. -/
inductive LaneEntry where
  | wb (r : Req)
  | rel (r : Req)
  | bir (h bitag kind line : Nat) (block : Bool)
deriving DecidableEq, Repr

/-- A write on its way to an expander (R197). `src` names the initiator and number of the write it carries, `req` the tracker
that waits for it, `wb` tells that it holds a buffer of its slice's write-back lane (R153). -/
structure PWrite where
  id    : Nat
  mport : Nat
  dpa   : Nat
  addr  : Nat
  len   : Nat
  d     : LineData
  src   : Option (Nat × Nat) := none
  req   : Option Nat := none
  wb    : Bool := false
deriving DecidableEq, Repr

/-- An access to an expander: the read of a request, or a write. -/
inductive XJob where
  | rd (req : Nat)
  | wr (w : Nat)
deriving DecidableEq, Repr

/-- A tag index towards an expander (R189): its generation, and whether it is free, in use, or in its 2 ms wait. -/
inductive TagState where
  | free | use (j : XJob) | wait
deriving DecidableEq, Repr

structure XTag where
  gen : Nat := 0
  st  : TagState := .free
deriving DecidableEq, Repr

/-- A region of the pool map as a recall keeps it (R134, R135). -/
structure Region where
  base  : Nat
  size  : Nat
  gran  : Nat
  ways  : Nat
  tgts  : Nat
  dbase : Nat
deriving DecidableEq, Repr

/-- A window recall (R138): the window as it was. -/
structure WinRecall where
  host : Nat
  win  : Nat
  dpa  : Nat
  size : Nat
  pool : Nat
deriving DecidableEq, Repr

/-- A loss walk (R160, R161): the crossbar port lost, its sequence number, and the lines listed. -/
structure Walk where
  port   : Nat
  seq    : Nat
  listed : Nat
deriving DecidableEq, Repr

/-- One numbered write under way (R197): parts not yet delivered or failed, at one target; `fn` is the bound function that a
host writes, as its slot + 1, with the write's address and length. -/
structure WTrack where
  init   : Nat
  seq    : Nat
  target : Nat
  left   : Nat
  fn     : Nat := 0
  addr   : Nat := 0
  len    : Nat := 0
deriving DecidableEq, Repr

/-- A failed write (R198). -/
structure WFail where
  init   : Nat
  seq    : Nat
  target : Nat
deriving DecidableEq, Repr

/-- A WRITE_FENCE that waits (R198): the command, its initiator and target, its fence point, and the previous fence's. -/
structure Fence where
  host   : Nat
  seq    : Nat
  init   : Nat
  target : Nat
  point  : Nat
  prev   : Option Nat
deriving DecidableEq, Repr

/-- A function's read whose completions go out in address order (R175): each part with its length and its data once there.
`abort` tells that a Completer Abort ends it. -/
structure FRead where
  init  : Nat
  tag   : Nat
  parts : List (Nat × Nat × Option (BitVec 512 × Bool))
  abort : Bool
deriving DecidableEq, Repr

/-- A function slot (R190): its generation, quarantine, the host and vDSP it is bound to. -/
structure FnSlot where
  gen   : Nat := 0
  quar  : Bool := false
  bound : Option (Nat × Nat) := none
deriving DecidableEq, Repr

/-- A function that enumeration has found (R189): the crossbar port and the requester ID or T-PCIE channel. -/
structure Found where
  port : Nat
  id   : Nat
deriving DecidableEq, Repr

/-- The pool: requests, the directory by (slice * 16384 + set) * 18 + way, the cream caches by (cache * 8 + bank) * 1024 +
set with the most recently used line first, back-invalidates, writes and accesses under way, the tags by M-port * 4096 +
index, the times of recent timeouts, recalls (a region with the number of recalls it stands for), loss walks, the slices'
rotating pointers, the slices that are fenced, served by reconstruction for good, or lost with their group, and the instants
of failures and of the rebuild's start; the write-back lanes' waiting entries; the reflectors' rows by 49152 * group + row and the copies of the
slices' trackers (R163); and the last fixes of rows by 49152 * slice + row (R164). -/
structure PoolSt where
  nextId  : Nat := 0
  reqs    : List Req := []
  dir     : Tbl DirEntry := []
  cream   : Tbl (List CrLine) := []
  snoops  : List Snoop := []
  writes  : List PWrite := []
  xq      : List (Nat × XJob) := []
  tags    : Tbl XTag := []
  ctos    : Tbl (List Nat) := []
  recalls : Tbl Region := []
  wins    : List WinRecall := []
  walks   : List Walk := []
  ptrs    : Tbl Nat := []
  fenced  : List Nat := []
  forGood : List Nat := []
  dead    : List Nat := []
  failAt  : Tbl Nat := []
  rebAt   : Nat := 0
  freads  : List FRead := []
  lane    : List LaneEntry := []
  refl    : Tbl Nat := []
  trk     : List Req := []
  fixes   : Tbl Nat := []
deriving DecidableEq, Repr

/-- The guard: the colour table as the granules at which the colour changes, the bad entries, the slots that share the
running drain, its start, the accesses that it holds in arrival order (R179), the numbers and targets of the held writes, the corrected errors of the colour table, and the entries that upsets
have hit and no check has met yet (R176). -/
structure GuardSt where
  colours : Tbl Nat := []
  bad     : List Nat := []
  drain   : List Nat := []
  start   : Nat := 0
  held    : List Access := []
  marks   : List (Nat × Nat × Nat) := []
  corr    : Nat := 0
  upset   : Tbl EccFind := []
deriving DecidableEq, Repr

/-- What a vDSP's Slot Status and Link Status show its host (R192, R193): Presence Detect State, Data Link Layer Link Active, their changed bits,
Attention Button Pressed, and DPC. -/
structure VdspCfg where
  present : Bool := false
  active  : Bool := false
  presChg : Bool := false
  dllChg  : Bool := false
  button  : Bool := false
  dpc     : Bool := false
deriving DecidableEq, Repr

/-- A BIND that waits for its host's link to leave DEEP (R194). -/
structure BindReq where
  h    : Nat
  seq  : Nat
  host : Nat
  vdsp : Nat
  src  : Nat
  id   : Nat
  base : Nat
  size : Nat
  dev  : Nat
deriving DecidableEq, Repr

/-- Ports and bindings: what the partners of H- and M-ports support, function slots, the functions found, the removals that wait with their commands, the numbered writes
under way and failed, the fences that wait, the points of earlier fences by initiator * 256 + target, and the non-posted
requests of hosts to functions by (host, vDSP, tag). `seqs` are the next ingress sequence numbers of the function slots, `vcfg` the vDSPs' slot and link status by 16 * host + vDSP, `binds` the BIND
commands that wait for a link, `training` the H- and M-ports that retrain, `errLog` the last AER header log of a target by port. -/
structure PortSt where
  partner  : Tbl LinkCaps := []
  slots    : Tbl FnSlot := []
  found    : List Found := []
  removals : List (Nat × Nat × Nat × Nat) := []
  wtrack   : List WTrack := []
  fails    : List WFail := []
  fences   : List Fence := []
  lastF    : Tbl Nat := []
  np       : List (Nat × Nat × Nat) := []
  seqs     : Tbl Nat := []
  vcfg     : Tbl VdspCfg := []
  binds    : List BindReq := []
  training : List Nat := []
  errLog   : Tbl TlpSpan := []
deriving DecidableEq, Repr

/-- The load of the lens that a message to a host reports (R140). -/
inductive DevLoad where
  | light | optimal | moderate | severe
deriving DecidableEq, Repr

/-- What the hub sends a host on CXL.mem (R140); MemData carries a MetaValue. -/
inductive S2M where
  | memData (data : BitVec 512) (poison : Bool) (mv : Nat)
  | cmp | cmpS | cmpE | cmpM | biConflictAck
  | biSnp (kind bitag dpa : Nat)
deriving DecidableEq, Repr


/-! ### Chapters 9 to 11: lanes, tunnel links, classes (R201-R293) -/

/-- What a sequencer program waits for (R212): nothing, a WAIT's time, or a WAITFOR's condition. -/
inductive SeqWait where
  | none | time | cond
deriving DecidableEq, Repr

/-- A SerDes macro beyond its registers (R205-R213): the wait of its sequencer, each lane's transmitter source and frozen
items, the times at which its PLLs lost lock as (PLL, ns), whether its program is held by an exit from DEEP, and whether its
ENGINE request has been taken, the time of its last PLL switch, the lanes of which a tap is known to rest at a range limit, and the times at
which the taps of lanes were last settled (R210). -/
structure Macro where
  wait   : SeqWait := .none
  txsrc  : Tbl Nat := []
  frozen : Tbl Nat := []
  losses : List (Nat × Nat) := []
  held   : Bool := false
  taken  : Bool := false
  swAt   : Option Nat := none
  railed : List Nat := []
  tapAt  : Tbl Nat := []
deriving DecidableEq, Repr

/-- A receiving lane in dock bring-up (R215-R221): its stage, whether it has marker lock, and what the partner's frames on it
last said: its lane number, that it has CDR and marker lock, that it is READY, READY_TO_FLIT; and whether its eye check has passed. -/
structure LaneTr where
  stage  : Nat := 0
  lock   : Bool := false
  far    : Option Nat := none
  pLock  : Bool := false
  pReady : Bool := false
  pFlit  : Bool := false
  eyeOk  : Bool := false
deriving DecidableEq, Repr

/-- Dock bring-up (R214-R221): whether frames are sent, the ends' lane masks, the two lanes, the rate its transmitter runs at, the failures
at rate code 0, whether FAIL is sent, whether the port is silent or has failed, the rate and mask of an agreed retrain or low-power exit, and
whether flits are sent and expected, the countdown that runs (whether to flits, and its next number), the number of the next frame, and the
filler's register (R214). -/
structure Train where
  on      : Bool := false
  mask    : Nat := 0
  pmask   : Nat := 3
  l0      : LaneTr := {}
  l1      : LaneTr := {}
  txRate  : Nat := 0
  fails   : Nat := 0
  failTx  : Bool := false
  silent  : Bool := false
  failed  : Bool := false
  retrain : Option (Nat × Nat) := none
  flitTx  : Bool := false
  flitRx  : Bool := false
  cd      : Option (Bool × Nat) := none
  count   : Nat := 0
  fill    : Nat := 8191
deriving DecidableEq, Repr

/-- A sequenced flit in the mirror (R240). `eom` tells that it ends a message, `msg` which of the bridge's messages, by its cell. -/
structure Mir where
  seq  : Nat
  typ  : Nat
  cls  : Nat
  chan : Nat
  body : List (BitVec 8)
  eom  : Bool := false
  msg  : Option Nat := none
deriving DecidableEq, Repr

/-- A flit as sent (R232): the header's fields and the body. -/
structure Flit where
  typ  : Nat
  seq  : Nat
  ack  : Nat
  crc  : Nat
  cr   : Nat
  cls  : Nat
  chan : Nat
  body : List (BitVec 8)
deriving DecidableEq, Repr

/-- The body of a DATA flit that waits for a slot (R283); `born` is the slot count at which it came and `bornAt` the ns, `som` and `eom` tell whether it
begins and ends a message, `allot` the direction and number of the ALLOT whose content it takes when it is first sent (R285). -/
structure TxItem where
  cls     : Nat
  chan    : Nat
  body    : List (BitVec 8)
  bad     : Bool := false
  express : Bool := false
  born    : Nat := 0
  bornAt  : Nat := 0
  som     : Bool := true
  eom     : Bool := false
  msg     : Option Nat := none
  allot   : Option (Bool × Nat) := none
deriving DecidableEq, Repr

/-- A DATA or DATA_BAD flit as it crossed the cable: staged until its SEAL (R253), or sent in the open group (R250). -/
structure RxFlit where
  seq  : Nat
  cls  : Nat
  chan : Nat
  bad  : Bool
  body : List (BitVec 8)
deriving DecidableEq, Repr

/-- What the hub declares in an INIT or retrain exchange (R251, R266): whether it seals, its key slots, and its salts. -/
structure Exch where
  enc    : Bool := false
  txSlot : Nat := 0
  rxSlot : Nat := 0
  saltTx : Nat := 0
  saltRx : Nat := 0
deriving DecidableEq, Repr

/-- A link-state or pause flit due (R246, R254, R258). -/
inductive Ctl where
  | pm (op st cnt : Nat)
  | pause
deriving DecidableEq, Repr

/-- A retrain request of the hub that is unanswered (R257, R260). -/
structure RtReq where
  num    : Nat
  rate   : Nat
  mask   : Nat
  reason : Nat
  reps   : Nat := 0
deriving DecidableEq, Repr

/-- An allotment that has been sent, or waits to be (R284, R285): its epoch is fixed when it is first sent; `again` tells that it repeats the content
of a late one. -/
structure Allot where
  num   : Nat
  epoch : Option Nat := none
  map   : List Nat
  be    : Nat
  acked : Bool := false
  again : Bool := false
deriving DecidableEq, Repr

/-- One direction of the prism (R281-R286): the allotment in force, the number of the last ALLOT and the epoch it was sent in,
the ALLOT whose switch has not come, and whether a change waits to be sent. -/
structure PrismDir where
  map   : List Nat := []
  be    : Nat := 27
  num   : Nat := 0
  sent  : Option Nat := none
  pend  : Option Allot := none
  dirty : Bool := false
deriving DecidableEq, Repr

/-- An SBU packet of types 1 to 3 (R290). -/
structure SbuPkt where
  typ  : Nat
  body : List (BitVec 8)
deriving DecidableEq, Repr

/-- A tunnel link (R238-R265, R281-R291) beyond its registers: the mirror; NAK and replay; the partner's counts seen, the credits it
may still spend, the counts returned, and the rotation of CR; INIT; staging and seals; the windows of failures; handshakes;
echoes as (number, t1); waiting flits; the prism; messages being joined; the endpoints and sinks last described; the
channels whose opening waits for a quarantine; the sideband. `offer` are the credits that this exchange's INITs grant, `decl` what the running exchange
declares and `crypt` what the last one brought into force; `begun` says that a sequenced flit has been sent, `rxOn` that one not INIT has come (R239, R281);
`group` is the open group as it went out (R250), `repAt` the STC at which the last replay started (R244), `owe` the T-SIG credits that wait for the core
(R249); `pmRefAt` the RTC of the last PM REFUSE sent, `pmGone` whether a late answer to an old PM request may come, `pauseDue` whether a pause waits
for the exit from NARROW, `rtSoft` whether software's retrain runs; `inFrame` are the T-DISP channels in a frame, `midway` the channels in a message (R269), `scans` those that the
hub scans (R273), and `sbuSeen` is the SEQ of the last sideband packet taken (R290). -/
structure Link where
  train    : Train := {}
  mirror   : List Mir := []
  pDepth   : Nat := 0
  nakArmed : Bool := true
  nakDue   : Bool := false
  replay   : List Nat := []
  oldReps  : Nat := 0
  seen     : List Nat := [0, 0, 0, 0, 0]
  left     : List Nat := [0, 0, 0, 0, 0]
  ret      : List Nat := [0, 0, 0, 0, 0]
  rot      : Nat := 0
  inits    : Nat := 0
  initRx   : Bool := false
  staged   : List RxFlit := []
  group    : List RxFlit := []
  sealDue  : Bool := false
  sealTx   : Nat := 0
  sealRx   : Nat := 0
  tagFails : List Nat := []
  win      : Nat := 0
  winFail  : Nat := 0
  ctl      : List Ctl := []
  pmReq    : Option Nat := none
  pmAns    : Option Nat := none
  pmSent   : Bool := false
  pmAfter  : Nat := 0
  widen    : Bool := false
  rtNum    : Nat := 0
  rtReq    : Option RtReq := none
  rtWait   : Option (Nat × Nat × Nat) := none
  rtTgt    : Option (Nat × Nat) := none
  rtEnc    : Bool := false
  pauseTx  : Bool := false
  pauseRx  : Bool := false
  resume   : Bool := false
  echoNum  : Nat := 0
  echoDue  : Bool := false
  echoOut  : Option (Nat × Nat) := none
  reply    : Option (Nat × Nat) := none
  q        : List TxItem := []
  tx       : PrismDir := {}
  rx       : PrismDir := {}
  dispOld  : Option (List Nat) := none
  inFrame  : List Nat := []
  carry    : List Nat := [0, 0, 0, 0, 0]
  beLast   : Nat := 0
  parts    : Tbl (List (BitVec 8)) := []
  skip     : List Nat := []
  want     : List Nat := []
  sinks    : List SinkInfo := []
  sbuQ     : List SbuPkt := []
  sbuOut   : Bool := false
  sbuReps  : Nat := 0
  offer    : List Nat := [0, 0, 0, 0, 0]
  decl     : Exch := {}
  crypt    : Exch := {}
  begun    : Bool := false
  rxOn     : Bool := false
  repAt    : Option Nat := none
  owe      : List Nat := [0, 0, 0, 0, 0]
  pmRefAt  : Option Nat := none
  pmGone   : Bool := false
  pauseDue : Bool := false
  rtSoft   : Bool := false
  midway   : List Nat := []
  scans    : List Nat := []
  sbuSeen  : Option Nat := none
deriving DecidableEq, Repr

/-- A learned entry of the Ethernet forwarder (R274): an outer VID of 0 stands for none. -/
structure FwdEntry where
  mac  : Nat
  vid  : Nat
  dom  : Nat
  port : Nat
deriving DecidableEq, Repr

/-- A forwarder port's settings (R275). -/
structure FwdPort where
  dom   : Nat := 0
  learn : Bool := true
  block : Bool := false
deriving DecidableEq, Repr

/-- A host's door (R276): whether FEATURES_OK is accepted, the queue pairs in use, and the feature bits that driver and door have agreed. -/
structure Door where
  ok    : Bool := false
  pairs : Nat := 1
  feats : Nat := 0
deriving DecidableEq, Repr

/-- Lanes, links and the forwarder. `audits` holds the next slice of each lane's audit under way (R224). -/
structure LinkSt where
  macros : Tbl Macro := []
  links  : Tbl Link := []
  deepX  : List Nat := []
  audits : Tbl Nat := []
  fwd    : List FwdEntry := []
  fwdP   : Tbl FwdPort := []
  doors  : Tbl Door := []
deriving DecidableEq, Repr

/-- An entry of the soft repair map (R445): word 0, the spare in use, the history and the state (1 RUNTIME, 2 SOFT, 3 FUSED). -/
structure RepEntry where
  elem  : Nat
  spare : Nat := 0xFF
  hist  : Nat := 0
  st    : Nat := 1
deriving DecidableEq, Repr



/-! ### Chapters 12 and 13: dock port attach, contracts, mode entry; VBUS and feeds (R294-R331) -/

/-- The USB PD messages that the hub sends (R299). -/
inductive PdKind where
  | goodCrc | accept | reject | wait | psRdy | getSinkCap | drSwap | prSwap | softReset | hardReset | notSupported
  | sourceCaps | request | sinkCaps | eprMode | revision | status | vdm | eprSourceCaps | sourceCapsExt | eprKeepAliveAck
  | bistCarrier | bistData
deriving DecidableEq, Repr

/-- A message as the hub sends it: on SOP' or SOP, its kind, and its data objects. -/
structure PdMsg where
  prime : Bool := false
  kind  : PdKind
  objs  : List Nat := []
deriving DecidableEq, Repr

/-- The power sequence that runs on a port (R301): none; VBUS ramping to 5 V before capabilities; the cable being asked;
capabilities sent; a request accepted, then its move; the way to 20 V after EPR (R304); a swap requested; a swap to sink or to source by its
stages (R306); a hard reset by its stages (R309); a Soft_Reset sent; as sink the request sent, then accepted; Get_Sink_Cap sent. -/
inductive PdSeq where
  | idle
  | start
  | cable
  | caps
  | accepted (rdo pdo : Nat)
  | moving (rdo pdo : Nat)
  | exitRamp
  | exitMove
  | swapReq
  | toSink (stage : Nat)
  | toSrc (stage : Nat)
  | hardRst (stage : Nat)
  | softRst
  | snkReq
  | snkTrans
  | getSink
deriving DecidableEq, Repr

/-- A dock port's policy beyond its registers: whether it attached as source; the role in use since it last was unattached; Try.SRC;
whether VBUS must first read below vSafe0V; error recovery; VCONN lost for this attach; Discover Identity attempts on SOP';
capabilities sent without GoodCRC; the messages not yet acknowledged with the retries used; the power sequence; the hub's own swap (0
none, 1 PR, 2 DR), the requests sent for it, whether it is still to be requested, whether it is to be requested again, and whether the running
swap is the hub's; whether new capabilities are due; hard resets since a contract; the VDM stage (0 none, 1 to 4 the requests of
R310, 5 the Enter Mode ACK taken), the BUSY answers to it and whether one waits for its repeat, whether discovery waits; failed
entries in a row; completed entries; a BIST in progress; the partner's 5 V PDO; whether a Soft_Reset of the hub waits for a running swap. -/
structure PdPort where
  asSrc    : Bool := true
  role     : Nat := 0
  trySrc   : Bool := false
  needSafe : Bool := false
  errRec   : Bool := false
  vcFault  : Bool := false
  tries    : Nat := 0
  caps     : Nat := 0
  unacked  : List (PdMsg × Nat) := []
  seq      : PdSeq := .idle
  own      : Nat := 0
  sent     : Nat := 0
  due      : Bool := false
  again    : Bool := false
  ownSwap  : Bool := false
  capsDue  : Bool := false
  hr       : Nat := 0
  vdm      : Nat := 0
  busy     : Nat := 0
  hold     : Bool := false
  vdmDue   : Bool := false
  fails    : Nat := 0
  entries  : Nat := 0
  bist     : Nat := 0
  srcPdo   : Nat := 0
  softDue  : Bool := false
deriving DecidableEq, Repr

/-- A port's VBUS switch beyond its registers: the policy's request, the enable of R322 (before its latch, lockout and OFF_WAIT),
the discharge, a move that waits for the fault timer, the times of latch-offs, and the samples of the running window. -/
structure VbPort where
  req     : Bool := false
  disch   : Bool := false
  moveDue : Bool := false
  times   : List Nat := []
  sumUw   : Int := 0
  samples : Nat := 0
deriving DecidableEq, Repr

/-- Dock power: ports, the hold after a dock bus under-voltage, the energy accumulators in pJ (0-15 ports, 16 FEED_A, 17
FEED_B, 18 dock bus), and the feeds' samples of the running window. -/
structure PowSt where
  pd      : Tbl PdPort := []
  vb      : Tbl VbPort := []
  busHeld : Bool := false
  energy  : Tbl Int := []
  sumA    : Int := 0
  sumB    : Int := 0
  samples : Nat := 0
deriving DecidableEq, Repr



/-! ### Chapter 14: scan-out (R332-R347) -/

/-- A 64-byte fetch of a layer for a line (R338): its data once it is there. -/
structure ScanFetch where
  layer : Nat
  line  : Nat
  addr  : Nat
  tag   : Nat
  data  : Option (BitVec 512) := none
deriving DecidableEq, Repr

/-- A layer beyond its registers: P_REF, whether it is to be latched, the origin in force in pixels, the effective LOCK_EN of the
last frame start, the CRC of the running frame, and the origin at the last sent frame. -/
structure ScanLayer where
  pRef   : Int := 0
  refDue : Bool := false
  ox     : Int := 0
  oy     : Int := 0
  lock   : Bool := false
  crc    : Nat := 0
  sentOx : Int := 0
  sentOy : Int := 0
deriving DecidableEq, Repr

/-- A raster engine beyond its registers: the instant of its next trigger where one is known, the trigger whose frame has not
started, the next line, the flits not yet taken by the core, DIRTY, whether the running frame may be quiet, quiet sent frames in a
row, whether the last sent frame was quiet and whether there is one, starts since the last sent frame, whether the next frame is to
go at full rate, the layers, and the fetches. -/
structure ScanEng where
  next    : Option Int := none
  due     : Option Nat := none
  line    : Nat := 0
  outQ    : List (List (BitVec 8) × Bool) := []
  dirty   : Bool := false
  cand    : Bool := false
  quiet   : Nat := 0
  lastQ   : Bool := false
  sent    : Bool := false
  since   : Nat := 0
  full    : Bool := false
  layers  : Tbl ScanLayer := []
  buf     : List ScanFetch := []
deriving DecidableEq, Repr

/-- The raster engines, and the number of the next fetch. -/
structure ScanSt where
  engs    : Tbl ScanEng := []
  nextTag : Nat := 0
deriving DecidableEq, Repr



/-! ### Chapter 15: the signal bridge (R348-R367, R397, R398) -/

/-- Who started a message (R365): a SIG_SEND command, a dock device on a T-SIG channel, a bridge engine, a register operation of a
target, or the hub itself. -/
inductive SigFrom where
  | host (h seq : Nat)
  | dock (n tch : Nat)
  | engine (e : Nat)
  | op (t num : Nat)
  | hub
deriving DecidableEq, Repr

/-- A T-SIG message on its way through the core: the crossbar port it enters from, the crossbar port of origin, its destination port,
with the T-SIG channel of a dock port or the host behind port 70; its initiator and bridge channel there, and what is delivered. -/
structure SigMsg where
  port    : Nat := 65
  src     : Nat := 65
  dst     : Nat
  tch     : Nat := 0
  host    : Nat := 0
  orig    : SigFrom := .hub
  ch      : Nat := 0
  word    : Nat := 0
  op      : Nat
  late    : Bool := false
  due     : Option Nat := none
  payload : List (BitVec 8) := []
  tag     : Tag := .none
deriving DecidableEq, Repr

/-- A message at the bridge (R348-R354): its source port and initiator, its header, DUE bytes and payload, the tag of its SIG_SEND,
and t_in; `hook` is its route entry while it waits for room in a hook ring. -/
structure SigIn where
  src     : Nat
  orig    : SigFrom
  ch      : Nat
  op      : Nat
  late    : Bool := false
  due     : Option Nat := none
  payload : List (BitVec 8)
  tag     : Tag := .none
  tin     : Int
  hook    : Option Nat := none
deriving DecidableEq, Repr

/-- What a register operation is for: an EDGE_READ with its LEN and host address, an EDGE_WRITE, the read and the write of an EDGE_RMW,
a poll; nothing any more once its host is lost. -/
inductive OpWhy where
  | read (h seq len haddr : Nat)
  | write (h seq : Nat)
  | rmw (h seq and_ xor_ : Nat)
  | rmwW (h seq old : Nat)
  | poll (e : Nat)
  | gone
deriving DecidableEq, Repr

/-- A register operation (R358): its number in the bridge, its SEQ once sent, whether it writes, address, length and data, the token it
bears, whether it went over the sideband, and whether its surplus is kept (R363). -/
structure RegOp where
  num   : Nat
  seq   : Nat := 0
  write : Bool
  addr  : Nat
  len   : Nat
  data  : List (BitVec 8) := []
  token : Nat := 0
  why   : OpWhy
  sbu   : Bool := false
  keep  : Bool := false
deriving DecidableEq, Repr

/-- What waits at a target, in arrival order: an operation, or a SEM_TAKE. -/
inductive SigWait where
  | op (o : RegOp)
  | take (h seq : Nat)
deriving DecidableEq, Repr

/-- A semaphore (R359): free, held under a token by a host, or held by an EDGE_RMW's chain that began with operation `num`. -/
inductive SemHold where
  | free
  | token (tok h : Nat)
  | rmw (num h : Nat)
deriving DecidableEq, Repr

/-- A target of register operations (R358, R359): the next SEQ, what is outstanding, what waits, the semaphore, and whether its token's
hold limit has passed. -/
structure SigTarget where
  next : Nat := 0
  out  : List RegOp := []
  wait : List SigWait := []
  sem  : SemHold := .free
  brk  : Bool := false
deriving DecidableEq, Repr

/-- A mailbox token index (R43, R48): its generation, its target while held, and whether it is in quarantine. -/
structure SemTok where
  gen  : Nat := 0
  tgt  : Option Nat := none
  quar : Bool := false
deriving DecidableEq, Repr

/-- A read-ahead buffer (R363, R364): its target, first address and bytes, which of them have been served, the host whose read fetched
them, when, and the count of its last use. -/
structure RaBuf where
  tgt    : Nat
  addr   : Nat
  data   : List (BitVec 8)
  served : List Bool
  host   : Nat
  born   : Nat
  used   : Nat
deriving DecidableEq, Repr

/-- A poll entry beyond its registers (R362): whether a response came since EN rose, the value last compared, and the changes counted. -/
structure PollSt where
  seen    : Bool := false
  last    : Nat := 0
  changes : Nat := 0
deriving DecidableEq, Repr

/-- The bridge: messages not yet accepted by the core, messages under way by cell, the messages that wait in each lane, targets by
32 * dock port + T-SIG channel, tokens by index, route entries in quarantine, read-ahead buffers by slot, and polls. -/
structure BrSt where
  outQ  : List SigMsg := []
  msgs  : Tbl SigMsg := []
  lanes : Tbl (List SigIn) := []
  tgts  : Tbl SigTarget := []
  toks  : Tbl SemTok := []
  quar  : List Nat := []
  bufs  : Tbl RaBuf := []
  uses  : Nat := 0
  ops   : Nat := 0
  polls : Tbl PollSt := []
deriving DecidableEq, Repr



/-! ### Chapter 17: the engines (R382-R399) -/

/-- What an engine holds beyond its memories (R386, R387): PC, both banks of registers by 16 * bank + number, whether the alternate bank is in
use and was in use before a fast entry, STATUS, the other CSRs, the cycles counted, and the latched halves. -/
structure EngCore where
  pc     : Nat := 0
  regs   : Tbl Nat := []
  alt    : Bool := false
  was    : Bool := false
  status : Nat := 0
  nvec   : Nat := 0
  fvec   : Nat := 0
  npc    : Nat := 0
  fpc    : Nat := 0
  cause  : Nat := 0
  cycles : Nat := 0
  cycHi  : Nat := 0
  timeHi : Nat := 0
deriving DecidableEq, Repr

/-- The engines: cores by number, the pair's journal of stores to data memory as (offset, word), the last checkpoint, the engines whose
bridge command has completed and not been taken, and how the pair is formed (R451): 0 EN00 and EN01, 1 EN01 and EN02, 2 EN00 and
EN02, 3 none. -/
structure EngSt where
  cores   : Tbl EngCore := []
  journal : List (Nat × Nat) := []
  ckpt    : Option EngCore := none
  brDone  : List Nat := []
  pair    : Nat := 0
deriving DecidableEq, Repr



/-! ### Chapter 18: power domains, supplies, clocks, starts (R400-R421) -/

/-- Power, clocks and starts beyond their registers: domains in transition, as 4 * the state left + the state to reach; the wake image
as (bank * 2^26 + offset) of the registers written while their domain was OFF (R26); when ride-through began, whether it is to begin
once a transition ends, and what waits for its end: H- and M-ports that are to retrain, macros and the clock unit that are to swap PLLs,
domains whose state is to change (R409); rails below WARN; why the fabric die is held off: 0-5 a rail in reset, 6 a thermal trip, 7 an orderly shutdown that has ended; whether the
die has cooled since the trip, and AUTO_RESTART as it stood; whether the hub clock holds at 0, and whether a warm start waits for its PLL
switch (R415, R417); TO_PLL written, and whether the crystal was lost while the switch was under way; the clock unit's losses of lock as (PLL, ns); the crystals lost; the slot a start is to prefer, the slots
that have failed in this start; the domains that the repair map holds ON (R445); and the image in use. -/
structure PwrSt where
  trans    : Tbl Nat := []
  wake     : List Nat := []
  rtAt     : Nat := 0
  rtDue    : Bool := false
  rtPorts  : List Nat := []
  rtMacs   : List Nat := []
  rtClk    : Bool := false
  rtDoms   : List Nat := []
  warned   : List Nat := []
  dark     : List Nat := []
  cool     : Bool := false
  autoRe   : Bool := true
  coldHold : Bool := true
  warming  : Bool := false
  toPll    : Bool := false
  onHeld   : Bool := false
  losses   : List (Nat × Nat) := []
  xtalLost : Bool := false
  x32kLost : Bool := false
  prefer   : Option Nat := none
  tried    : Nat := 0
  heldOn   : List Nat := []
  image    : Option FwImage := none
deriving DecidableEq, Repr


/-! ### Chapter 19: key vault, root cell, life cycle, OTP (R422-R442) -/

/-- A slot's key as the vault holds it (R428): masked, and its mask. -/
structure KeySlot where
  masked : Nat
  mask   : Nat
deriving DecidableEq, Repr

/-- An SPDM responder of an H-port (R430): version, capabilities and algorithms negotiated, and the session: 0 none, 1 between KEY_EXCHANGE
and FINISH, 2 established. -/
structure Spdm where
  ver  : Bool := false
  caps : Bool := false
  algs : Bool := false
  sess : Nat := 0
deriving DecidableEq, Repr

/-- The keys that IDE_KM has programmed on a port, as sub-stream + 4 * direction + 8 * key set, and those in use (R431). -/
structure IdePort where
  prog : List Nat := []
  live : List Nat := []
deriving DecidableEq, Repr

/-- The vault beyond its registers: filled slots; the root cell's secret and its seconds; requests to the DRBG since it was seeded;
responders and IDE ports; the tampers that occurred while the fabric die was unpowered and wait to be reported. -/
structure VaultSt where
  keys   : Tbl KeySlot := []
  root   : Option Nat := none
  secs   : Nat := 0
  reqs   : Nat := 0
  spdm   : Tbl Spdm := []
  ide    : Tbl IdePort := []
  late   : Bool := false
deriving DecidableEq, Repr

/-- OTP: its words; the record slots that failed their read-back, as 4 * ID + generation; the data of the records in force, by ID (R438); a
record being written as (ID, generation, data); the life-cycle step whose words are being blown, as the new state. -/
structure OtpSt where
  words : Tbl Nat := []
  bad   : List Nat := []
  recs  : Tbl (List Nat) := []
  busy  : Option (Nat × Nat × List Nat) := none
  blow  : Option Nat := none
deriving DecidableEq, Repr


/-! ### Chapter 20: soft repair map, orderly shutdown, ageing (R443-R454, R471) -/

/-- The orderly shutdown beyond its registers: whether one runs, whether a program runs alone, when it began, the elements that failed and the programs that
decided; the flash copy of the map, where a valid one exists; the core setpoint held in AON in tenths of a mV, the setpoint
asked for, and whether a Vout write waits for its acknowledgement. -/
structure RepSt where
  run    : Bool := false
  alone  : Bool := false
  begun  : Nat := 0
  fails  : List RepFail := []
  tested : List Nat := []
  flash  : Option (List RepEntry) := none
  copies : Nat := 0
  setp   : Option Nat := none
  want   : Nat := 0
  sent   : Bool := false
deriving DecidableEq, Repr


/-! ### Chapters 21 and 22: the service port, the internal USB hub, SMBus (R455-R464, R473, R474) -/

/-- A device on the internal hub's bus: its address, its configuration, and whether remote wake is enabled. -/
structure UsbDev where
  addr  : Nat := 0
  cfg   : Nat := 0
  rwake : Bool := false
deriving DecidableEq, Repr

/-- A downstream port of the internal hub: enabled, suspended, and its change bits as bit 0 connection, 1 enable, 2 suspend, 3 over-current,
4 reset. -/
structure UsbPort where
  enabled : Bool := false
  susp    : Bool := false
  change  : Nat := 0
deriving DecidableEq, Repr

/-- The service port: VBUS present; devices (0 hub, 1 management, 2 recovery, 3 log); the control transfer whose status stage has not come; ports
by number - 1; EP2's packets in its buffers, the bytes handed to the command engine, and whether the last packet handed over was a short one;
halted endpoints as 16 * device + endpoint; the REASON that EP1 returned last; HS_EN and FULL_EN as taken at the last bus reset; since when the bus
is suspended; a remote wake pending or driven, and since when it is driven. -/
structure UsbSt where
  vbus : Bool := false
  devs : Tbl UsbDev := []
  ctl  : Option UsbReq := none
  ports : Tbl UsbPort := []
  bufs : List (List (BitVec 8)) := []
  cmd  : List (BitVec 8) := []
  short : Bool := false
  halts : List Nat := []
  ep1  : Nat := 0
  high : Bool := false
  full : Bool := true
  sus  : Option Nat := none
  wake : Bool := false
  drove : Option Nat := none
deriving DecidableEq, Repr

/-! ### What the hub emits -/

/-- What the hub emits, newest first in `Signals.out`: the acts that a neighbour of the hub sees. Later chapters add
their own messages. -/
inductive Out where
  /-- A record written to a host's event ring at a ring index (R44, R375). -/
  | record (host index : Nat) (r : Rec)
  /-- An MSI-X message of a host on a vector, with the address and data of its table entry (R379). -/
  | msix (host vec addr data : Nat)
  /-- The value a read returned to a path. -/
  | readData (path addr value : Nat)
  /-- A cell returned to its tagging block: its id, source port, and 1 HOLD_FULL or 2 HOLD_EXPIRED (R95). -/
  | cellReturned (id src reason : Nat)
  /-- A cell delivered by an output, with its late mark (R96, R120). -/
  | cellOut (id dst : Nat) (late : Bool)
  /-- A NAK of a stream (R97). -/
  | nak (inp out plane seq : Nat)
  /-- A stream's resync check cell, naming its oldest unacknowledged number (R102). -/
  | resync (inp out plane seq : Nat)
  /-- An output ends a cell that the core cannot finish with its link's nullify or abort mechanism (R101, R106). -/
  | cellEnded (id dst : Nat)
  /-- An input port held back under R93. -/
  | heldBack (port : Nat)
  /-- A trigger ball driven to a level, at an instant in ps (R60, R75). -/
  | trigger (n : Nat) (high : Bool) (ps : Int)
  /-- A PTP message sent on a PTP port: its type number and stamp (R57); a one-step Pdelay_Resp carries its turnaround time. -/
  | ptp (port typ seq : Nat) (stamp : Int) (h : PtpHdr)
  /-- The answer to a PTP management message: the data asked for, or NOT_SUPPORTED (R57). -/
  | ptpMgmt (port : Nat) (ok : Bool)
  /-- A PTM request to a host's PTM Root (R61). -/
  | ptmReq (host : Nat)
  /-- The answer of a PTM Responder, with the PTM master time in ns: a vDSP's to a function on a port and identifier (R62, R185). -/
  | ptmResp (port id time : Nat)
  /-- A link state requested of a port (R129). -/
  | linkState (port st : Nat)
  /-- The firmware's level-5 acts of R128: kind 1 swap, 2 SPR limit, 3 undo. -/
  | shed (port kind : Nat)
  /-- A message to a host on CXL.mem, with the tag of the request it answers and DevLoad (R140). -/
  | s2m (host tag : Nat) (m : S2M) (load : DevLoad)
  /-- A request to an expander: read or write, its tag, SnpType, address and data (R188, R189). -/
  | m2s (mport tag : Nat) (wr : Bool) (snp : SnpType) (dpa : Nat) (d : LineData)
  /-- An expander's HDM decoder is programmed: base DPA and size in GiB (R188). -/
  | hdm (mport base gib : Nat)
  /-- The L1 Exit Latency that a port's Link Capabilities report (R195). -/
  | linkCap (port l1 : Nat)
  /-- The BIRspI that answers an expander's BISnp (R188). -/
  | expBirsp (mport : Nat)
  /-- A completion to a function, with a tag: data and poison, or a Completer Abort (R174, R175). -/
  | fnCpl (init tag addr len : Nat) (d : Option (BitVec 512 × Bool))
  /-- A request of a function that goes on to its bound host (R191). -/
  | toHost (host vdsp : Nat) (wr : Bool) (addr len : Nat)
  /-- A request of a host that goes on to a bound function (R197's table), on a T-PCIE channel with its requester and completer IDs there (R272). -/
  | toFn (host vdsp port id : Nat) (ids : Option (Nat × Nat)) (posted : Bool)
  /-- A Completer Abort to a host's outstanding request to a removed function (R193). -/
  | hostAbort (host vdsp tag : Nat)
  /-- A vDSP's signal to its host (R192, R193): 1 presence and link state changed, 2 attention button, 3 DPC. -/
  | vdsp (host d kind : Nat)
  /-- An answer to scan-out (32) or the bridge (33) (R174, R484): data and poison, or an error. -/
  | poolReply (init tag : Nat) (d : Option (BitVec 512 × Bool))
  /-- An H-port, M-port or D-port link retrains (R199, R200). -/
  | retrain (port : Nat)
  /-- A flit on a dock port's lanes (R232), with the mask of the receptacle's pairs whose transmitters carry it (R212, R230,
  R237, R295): bit 0 is TX1/RX1, bit 1 TX2/RX2. -/
  | flit (port lanes : Nat) (f : Flit)
  /-- A dock port's transmitter: 0 electrical idle, 1 training frames, 2 flits (R215, R219, R221), with the mask of its pairs (R295). -/
  | dockTx (port mode rate mask : Nat)
  /-- What a lane's generator drives from now on (R226-R228): nothing, or a pattern as its order and feedback mask (64 and its bits for USER), whether
  inverted, and RATE_LOG2; `ball` tells that the balls are driven. On a dock macro `lane` is the receptacle's pair less 1 (R295). -/
  | pattern (mac lane : Nat) (ball : Bool) (p : Option ((Nat × Nat) × Bool × Nat))
  /-- A lane's transmitter sends back the recovered receive data, or ceases to (R228). -/
  | farLoop (mac lane : Nat) (on : Bool)
  /-- A training frame on a pair of a dock port's receptacle: 0 TX1/RX1, 1 TX2/RX2 (R214, R295). -/
  | frame (port pair : Nat) (b : List (BitVec 8))
  /-- One bit of the next transmitted word of a lane is inverted (R227). -/
  | inject (mac lane : Nat)
  /-- A message handed on by a tunnel class: T-PCIE TLPs and vendor T-MGMT messages (R270, R272). -/
  | message (port cls chan : Nat) (b : List (BitVec 8))
  /-- The hub's scan of a T-PCIE function starts, with the requester and completer IDs of its configuration reads (R272, R273). -/
  | scan (port word requester completer : Nat)
  /-- What a host's door shows its driver: the features it offers, whether it has accepted FEATURES_OK, its MAC, its mtu and its most queue
  pairs (R276). -/
  | doorCfg (host offered : Nat) (ok : Bool) (mac mtu maxPairs : Nat)
  /-- An Ethernet frame that a host's door receives, with its queue pair (R276). -/
  | door (host pair : Nat) (frame : List (BitVec 8))
  /-- An INTx message to a vDSP (R272). -/
  | intx (host vdsp : Nat) (on : Bool)
  /-- The bytes of a packet on a dock port's sideband, with the SBU pin it goes out on (R290). -/
  | sbu (port pin : Nat) (b : List (BitVec 8))
  /-- A request to an engine (R211, R270, R388): its number and what it is about. -/
  | engReq (e what arg : Nat)
  /-- A USB PD message on a dock port's CC pin (R299). -/
  | pd (port : Nat) (m : PdMsg)
  /-- Bytes written to a host's memory (R356, R357). -/
  | hostMem (host addr : Nat) (b : List (BitVec 8))
  /-- IRQ_N driven by a trip of the thermal protection, or released (R411). -/
  | irq (low : Bool)
  /-- An SPDM or IDE_KM response on a port: the request's code and the response's bytes, or an error (R430, R431). -/
  | spdm (port code : Nat) (b : Option (List (BitVec 8)))
  /-- A Vout write to the VDD_CORE regulator in tenths of a mV (R471). -/
  | vout (mv10 : Nat)
  /-- The map is written to flash copy 0 or 1 (R452). -/
  | flashMap (copy : Nat)
  /-- What an endpoint of the management, recovery or log function answers: data, or a handshake 0 ACK, 1 NYET, 2 NAK, 3 STALL (R457-R460). -/
  | usbData (ep : Nat) (b : List (BitVec 8))
  | usbAns (ep ans : Nat)
  /-- K is driven on the service bus (R463). -/
  | usbWake
  /-- An answer on SMBus (R473, R474). -/
  | smb (b : List (BitVec 8))
deriving DecidableEq, Repr

/-- What raising an event, writing a record or answering a read touches: the event unit, the mailboxes and the block's output. -/
structure Signals where
  ev     : EvUnit := {}
  mail   : Tbl Mail := []
  out    : List Out := []
deriving DecidableEq, Repr

/-- The block has no fault: it never stops (no command of the spec stops the hub's management). -/
inductive Fault where
deriving DecidableEq, Repr

/-- Why a command is refused by the model. -/
inductive Refusal where
  /-- The command's meaning is not written yet; raised by Dispatch.lean only. Safe: the run stops. -/
  | notModelled (mnemonic : String)
deriving DecidableEq, Repr

/-- The hub. -/
structure State where
  /-- The waiting commands, first in, first out. -/
  pending : List Instr := []
  /-- Register fields that differ from their Reset value, by `Fld.key`. -/
  regs    : Tbl Nat := []
  /-- For fields whose written value does not govern yet (R4, R5): the value still in force, by `Fld.key`. -/
  lag     : Tbl Nat := []
  sig     : Signals := {}
  /-- The eight transaction slots (R28). -/
  slots   : Tbl Slot := []
  /-- Latched HI halves, by path index * 2^26 + address (R51). -/
  latch   : Tbl Nat := []
  time    : TimeSt := {}
  sw      : SwitchSt := {}
  gov     : GovSt := {}
  pool    : PoolSt := {}
  gd      : GuardSt := {}
  port    : PortSt := {}
  link    : LinkSt := {}
  repair  : List RepEntry := []
  pow     : PowSt := {}
  scan    : ScanSt := {}
  br      : BrSt := {}
  engs    : EngSt := {}
  pwr     : PwrSt := {}
  vault   : VaultSt := {}
  otp     : OtpSt := {}
  rep     : RepSt := {}
  usb     : UsbSt := {}
  /-- The SMBus address pointer (R474). -/
  smbPtr  : Nat := 0
  /-- The model's own counter that free values are applied to (log entry 3). -/
  freeCtr : Nat := 0
  /-- Engine memories as 32-bit words, keyed by (engine * 2 + space) * 2^18 + byte offset (R382). -/
  mem     : Tbl Nat := []
deriving DecidableEq, Repr

/-- The machine right after reset: VIN_AON has come up on a hub whose OTP is blank (log entry 2). Every register holds its Reset value, but
for what the start itself has done (R419): every dock port shows its default terminations (R294), the DRBG runs, the default setpoint has been sent
(R471), and EV3972 and EV4065 have been raised, as the root cell is empty. -/
def State.reset : State :=
  { regs := (List.range 16).map (fun n => ((0x404058 + 0x10000 * n) * 32 + 10, 2)) ++ [(0x1000060 * 32, 1), (0x1202044 * 32, 750)],
    sig := { ev := { recs := [(3972, { stat := true, count := 1 }), (4065, { stat := true, count := 1 })] }, out := [.vout 7500] } }

end Sys2Proof.Machine
end

