-- ==== Sys2Proof/Machine/Ops.lean ====
section
/-! DEFINITION. The named operations that every meaning is written over: register fields, the hub time, outputs, events
and their delivery (R369-R379), host records (R44-R46), refused writes (R19), stale generations (R49). -/

namespace Sys2Proof.Machine

/-- What a command's meaning answers. -/
abbrev Res := Host.Outcome State Fault Refusal

/-! ### Register fields -/

/-- The value last written to a field (R5), or its Reset value. -/
def State.get (s : State) (f : Fld) : Nat := tget f.reset s.regs f.key

/-- The state with a field holding `v`, cut to the field's width. -/
def State.set (s : State) (f : Fld) (v : Nat) : State :=
  { s with regs := tput f.reset s.regs f.key (v % 2 ^ f.width) }

/-- The value of a field that governs the hub (R4): the one still in force where a write has not taken effect yet. -/
def State.eff (s : State) (f : Fld) : Nat := tget (s.get f) s.lag f.key

/-- A boundary of the field's Takes-effect code: the value last written governs from now on. -/
def State.takeUp (s : State) (f : Fld) : State := { s with lag := tdel s.lag f.key }

/-- Is a one-bit field set? -/
def State.on (s : State) (f : Fld) : Bool := s.get f == 1

/-- Set or clear a one-bit field. -/
def State.put (s : State) (f : Fld) (b : Bool) : State := s.set f (b2n b)

/-- Add to a counter that saturates. -/
def State.sat (s : State) (f : Fld) (d : Nat := 1) : State := s.set f (satAdd f.width (s.get f) d)

/-- Add to a counter that wraps. -/
def State.wrap (s : State) (f : Fld) (d : Nat := 1) : State := s.set f (s.get f + d)

/-- Subtract from a count, not below 0. -/
def State.sub (s : State) (f : Fld) (d : Nat) : State := s.set f (s.get f - d)

/-- A 64-bit value held in two registers. -/
def State.get64 (s : State) (lo hi : Fld) : Nat := s.get lo + 2 ^ 32 * s.get hi

def State.set64 (s : State) (lo hi : Fld) (v : Nat) : State := (s.set lo v).set hi (v / 2 ^ 32)

/-- A signed value of a field's width. -/
def State.getI (s : State) (f : Fld) : Int := toSigned f.width (s.get f)

def State.setI (s : State) (f : Fld) (v : Int) : State := s.set f (ofSigned f.width v)

def State.getI64 (s : State) (lo hi : Fld) : Int := toSigned 64 (s.get64 lo hi)

def State.setI64 (s : State) (lo hi : Fld) (v : Int) : State := s.set64 lo hi (ofSigned 64 v)

/-- The copies of a list of fields set to given values, in order. -/
def State.sets (s : State) (l : List (Fld × Nat)) : State := l.foldl (fun s p => s.set p.1 p.2) s

/-- A field back at its Reset value, with no value in force left behind. -/
def State.clear (s : State) (f : Fld) : State := (s.set f f.reset).takeUp f

/-! ### Hub time -/

/-- The integer nanoseconds of the hub clock (R50, R52). -/
def State.now (s : State) : Nat := s.time.clk.ticks / 2 ^ 32

/-- The core cycle: half a ns. -/
def State.cycle (s : State) : Nat := s.time.clk.ticks / 2 ^ 31

/-! ### Output and free values -/

def State.emit (s : State) (o : Out) : State := { s with sig := { s.sig with out := o :: s.sig.out } }

/-- A fresh free value (log entry 3). -/
def State.fresh (s : State) : Nat × State := (Config.free s.freeCtr, { s with freeCtr := s.freeCtr + 1 })

/-- The key that a slot of the vault holds (R428). -/
def State.slotKey (s : State) (k : Nat) : Option Nat :=
  (s.vault.keys.find? (fun e => e.1 == k)).map (fun e => e.2.masked ^^^ e.2.mask)

/-! ### Page headers (R21) -/

/-- The fast-class mask a page's EVT_FAST resets to. -/
def fastReset (pg : Nat) : Nat :=
  match pageTable.find? (fun p => decide (p.base ≤ pg) &&
    (if p.stride = 0 then pg == p.base else (pg - p.base) % p.stride == 0 && decide ((pg - p.base) / p.stride < p.count))) with
  | some p => p.fast
  | none => 0

/-- The requester an OWNER names at reset (R24, R378). -/
def ownerReset (pg : Nat) : Nat :=
  if 0x80000 ≤ pg ∧ pg < 0xA0000 then (pg - 0x80000) / 0x1000
  else if 0xC0000 ≤ pg ∧ pg < 0xF8000 then
    let t := (pg - 0xC0000) / 0x1000
    if t < 32 then t else if t < 34 then 0x20 else t - 34 + 0x22
  else 0xFF

def hDomReq (pg : Nat) : Fld := ⟨0, pg + 0x8, 1, 2, 0⟩
def hEn (pg : Nat) : Fld := ⟨0, pg + 0x8, 0, 1, 1⟩
def hEvtEn (pg : Nat) : Fld := ⟨0, pg + 0x14, 0, 32, 0⟩
def hEvtFast (pg : Nat) : Fld := ⟨0, pg + 0x18, 0, 32, fastReset pg⟩
def hTxnTag (pg : Nat) : Fld := ⟨0, pg + 0x1C, 0, 16, 0⟩
def hOwner (pg : Nat) : Fld := ⟨0, pg + 0x20, 0, 8, ownerReset pg⟩
def hSeq (pg : Nat) : Fld := ⟨0, pg + 0x24, 0, 32, 0⟩

/-! ### Event sources -/

/-- The page and EVT_STAT bit of an event number (R368). -/
def evSrc (ev : Nat) : Option (Nat × Nat) :=
  evTable.findSome? (fun r =>
    if r.ev0 ≤ ev then
      let d := ev - r.ev0
      if r.evStride = 0 then (if d < r.len then some (r.page0, r.bit0 + d) else none)
      else if d / r.evStride < r.count ∧ d % r.evStride < r.len then
        some (r.page0 + d / r.evStride * r.pageStride, r.bit0 + d % r.evStride)
      else none
    else none)

/-- The event number of a page's EVT_STAT bit. -/
def evOf (pg bit : Nat) : Option Nat :=
  evTable.findSome? (fun r =>
    if r.page0 ≤ pg ∧ r.bit0 ≤ bit ∧ bit < r.bit0 + r.len then
      if r.pageStride = 0 then (if pg = r.page0 then some (r.ev0 + (bit - r.bit0)) else none)
      else if (pg - r.page0) % r.pageStride = 0 ∧ (pg - r.page0) / r.pageStride < r.count then
        some (r.ev0 + (pg - r.page0) / r.pageStride * r.evStride + (bit - r.bit0))
      else none
    else none)

def State.evRec (s : State) (ev : Nat) : EvRec := tget {} s.sig.ev.recs ev

/-- Is the event's EVT_STAT bit 1? -/
def State.evStat (s : State) (ev : Nat) : Bool := (s.evRec ev).stat

def State.setEv (s : State) (ev : Nat) (r : EvRec) : State :=
  { s with sig := { s.sig with ev := { s.sig.ev with recs := tset s.sig.ev.recs ev r } } }

def State.tgt (s : State) (t : Nat) : TgtRec := tget {} s.sig.ev.tgts t

def State.setTgt (s : State) (t : Nat) (r : TgtRec) : State :=
  { s with sig := { s.sig with ev := { s.sig.ev with tgts := tset s.sig.ev.tgts t r } } }

def State.mail (s : State) (h : Nat) : Mail := tget {} s.sig.mail h

def State.setMail (s : State) (h : Nat) (m : Mail) : State :=
  { s with sig := { s.sig with mail := tset s.sig.mail h m } }

/-- A page's EVT_STAT register. -/
def State.evtStatWord (s : State) (pg : Nat) : Nat :=
  (List.range 32).foldl (fun w b =>
    match evOf pg b with
    | some ev => if s.evStat ev then w + 2 ^ b else w
    | none => w) 0

/-! ### Targets (R371) -/

/-- The engine of the lockstep pair that the other follows (R382, R451). -/
def State.pairLead (s : State) : Nat := if s.engs.pair = 1 then 1 else 0

/-- The engine whose data memory and request lines serve a target: the pair's, or EN02 after take-over, for target 32. -/
def State.tgtEngine (s : State) (t : Nat) : Nat := if t = 32 then (if s.get F.LOCK_STAT_MGMT = 1 then 2 else s.pairLead) else t - 32

/-- Does an engine run (R390: executing or asleep in a WAIT, its domain ON)? -/
def State.engRuns (s : State) (e : Nat) : Bool :=
  (s.get (F.ENG_STAT_STATE e) == 2 || s.get (F.ENG_STAT_STATE e) == 3) && (decide (e < 3) || s.get (F.DOM_STAT_STATE (64 + e)) == 0)

/-- Is a target present? -/
def State.present (s : State) (t : Nat) : Bool :=
  if t < 32 then s.get (F.HP_STAT_LINK t) == 2 && s.on (F.HP_CTRL_EN t)
  else if t = 32 then s.get F.LOCK_STAT_MGMT != 2 && s.engRuns (s.tgtEngine 32)
  else if t = 33 then false
  else if t = 34 then s.get F.LOCK_STAT_MGMT == 0 && s.engs.pair == 0 && s.engRuns 2
  else if t < 56 then s.engRuns (t - 32)
  else t == 56

/-- Is a target enabled: TGT_CTRL.EN is 1 and it is present? -/
def State.tgtEnabled (s : State) (t : Nat) : Bool := s.on (F.TGT_CTRL_EN t) && s.present t

/-- The mask of a target set. -/
def State.setMask (s : State) (set : Nat) : Nat := s.get (F.SET_LO_TARGETS set) + 2 ^ 32 * s.get (F.SET_HI_TARGETS set)

/-- The first enabled target of a set at or after its pointer (R372). -/
def State.pick (s : State) (set : Nat) : Option Nat :=
  ((List.range 57).map (fun i => (tget 0 s.sig.ev.ptrs set + i) % 57)).find?
    (fun t => hasBit (s.setMask set) t && s.tgtEnabled t)

/-- IRQ_N is driven low while target 56 has a pending event of either class (R379), or while a thermal trip holds it (R411). -/
def State.irqLow (s : State) : Bool := s.pwr.dark.contains 6 || !(s.tgt 56).pendN.isEmpty || !(s.tgt 56).pendF.isEmpty

/-- A host's MSI-X vector asks for its message (R379): sent, or kept as a pending bit while it is masked. -/
def State.sendVec (s : State) (t v : Nat) : State :=
  let x := tget {} (s.tgt t).vecs v
  if (s.tgt t).fmask || x.masked then s.setTgt t { s.tgt t with vecs := tset (s.tgt t).vecs v { x with pend := true } }
  else s.emit (.msix t v x.addr x.data)

/-- Raise a request on a target's normal or fast line (R379): an MSI-X message for a host whose MSI-X is enabled. -/
def State.request (s : State) (t : Nat) (fast : Bool) : State :=
  if t < 32 then
    if (s.tgt t).msix then s.sendVec t (s.get (if fast then F.TGT_CTRL_VEC_F t else F.TGT_CTRL_VEC_N t)) else s
  else s

/-! ### Records -/

/-- Records of a host's event ring that the host has not consumed. -/
def State.unread (s : State) (h : Nat) : Nat := ((s.mail h).written + 2 ^ 32 - s.get (F.EVT_CONSUMED_COUNT h)) % 2 ^ 32

/-- Can a record be written to a host's event ring now (R46; while its H-port is up and EVT_EN is 1)? -/
def State.ringRoom (s : State) (h : Nat) : Bool :=
  s.on (F.RING_CTRL_EVT_EN h) && s.get (F.HP_STAT_LINK h) == 2 && decide (s.unread h < 2 ^ (s.mail h).evtLog2)

/-- Write a record to a host's event ring, or drop and count it (R46); the flag tells that it was dropped. -/
def State.putRec (s : State) (h : Nat) (r : Rec) : State × Bool :=
  let m := s.mail h
  let next := (m.evtSeq + 1) % 2 ^ 32
  if s.ringRoom h then
    let s1 := (s.setMail h { m with evtSeq := next, written := (m.written + 1) % 2 ^ 32 }).emit
      (.record h (m.written % 2 ^ m.evtLog2) { r with seq := m.evtSeq })
    (if s.unread h = 0 then s1.request h false else s1, false)
  else (s.setMail h { m with evtSeq := next, dropped := satAdd 32 m.dropped 1 }, true)

/-- The key of a word of an engine memory; space 0 is instruction memory, 1 data memory (R382). -/
def engKey (e space off : Nat) : Nat := (e * 2 + space) * 2 ^ 18 + off

def State.engWord (s : State) (e space off : Nat) : Nat := tget 0 s.mem (engKey e space off)

def State.setEngWord (s : State) (e space off v : Nat) : State :=
  { s with mem := tput 0 s.mem (engKey e space off) (v % 2 ^ 32) }

/-- The eight words of a record as an engine's ring holds them (R44, R375). -/
def recWords (r : Rec) : List Nat :=
  [r.seq, r.typ + 2 ^ 16 * r.source, r.ref, r.status, r.addr % 2 ^ 32, r.addr / 2 ^ 32, r.data % 2 ^ 32, r.data / 2 ^ 32]

/-- Store consecutive words in an engine's data memory. -/
def State.storeWords (s : State) (e off : Nat) : List Nat → State
  | [] => s
  | w :: ws => (s.setEngWord e 1 off w).storeWords e (off + 4) ws

/-- Write a record to an engine's ring, or drop and count it when it would fill the last free entry (R375). -/
def State.putEngRec (s : State) (t : Nat) (r : Rec) : State × Bool :=
  let size := 2 ^ s.get (F.TGT_QCFG_LOG2 t)
  let g := s.tgt t
  let cons := s.get (F.TGT_QCONS_INDEX t) % size
  let prod := g.qprod % size
  if (prod + 1) % size = cons then (s.setTgt t { g with qdrop := satAdd 32 g.qdrop 1 }, true)
  else
    let s1 := s.storeWords (s.tgtEngine t) (s.get (F.TGT_QCFG_BASE t) + 32 * prod) (recWords { r with seq := prod })
    let s2 := s1.setTgt t { g with qprod := (prod + 1) % size }
    (if prod = cons then s2.request t false else s2, false)

/-! ### Delivery -/

/-- The EVENT record of an event (R375). -/
def State.evtRecord (s : State) (ev pg : Nat) : Rec :=
  { seq := 0, typ := 0x50, source := ev, ref := (s.evRec ev).count, status := s.evtStatWord pg, addr := (s.evRec ev).occ, data := pg }

/-- Present an event as claimable (R377): pending, or held back behind its own service; the request is raised when the
pending set was empty. -/
def State.claimable (s : State) (t ev : Nat) (fast : Bool) : State :=
  let g := s.tgt t
  if fast then
    if g.servF.contains ev then s.setTgt t { g with backF := ev :: g.backF.erase ev }
    else
      let s1 := s.setTgt t { g with pendF := ev :: g.pendF.erase ev }
      if g.pendF.isEmpty then s1.request t true else s1
  else
    if g.servN.contains ev then s.setTgt t { g with backN := ev :: g.backN.erase ev }
    else
      let s1 := s.setTgt t { g with pendN := ev :: g.pendN.erase ev }
      if g.pendN.isEmpty then s1.request t false else s1

/-- Deliver an event in a class (R370-R375), or hold it (R373); EV3842 goes to IRQ_N whatever its set (R393). The list names the events this
raises in turn. -/
def State.deliver (s : State) (ev pg : Nat) (fast : Bool) : State × List Nat :=
  let r := s.evRec ev
  let set := s.get (F.EV_ROUTE_SET ev)
  match (if ev = 3842 then some 56 else if s.on F.EV_CTRL_EN then s.pick set else none) with
  | none =>
    let u := s.sig.ev
    let s1 := (s.setEv ev { r with phase := .held, held := true })
    let s2 := { s1 with sig := { s1.sig with ev := { s1.sig.ev with
      heldCt := satAdd 32 u.heldCt 1, holdSeen := true } } }
    (s2, if u.holdSeen then [] else [4])
  | some t =>
    let g := s.tgt t
    let s1 := s.setTgt t { g with deliv := satAdd 32 g.deliv 1 }
    let s2 := { s1 with sig := { s1.sig with ev := { s1.sig.ev with
      delivCt := satAdd 32 s1.sig.ev.delivCt 1, ptrs := tset s1.sig.ev.ptrs set ((t + 1) % 57) } } }
    if fast || s.on (F.TGT_CTRL_PRES t) then
      let ph := if (if fast then g.servF else g.servN).contains ev then EvPhase.inService else .pending
      ((s2.setEv ev { r with held := false, phase := ph, target := t, fast := fast }).claimable t ev fast, [])
    else
      let s3 := s2.setEv ev { r with held := false, phase := .idle, target := t, fast := fast }
      if t < 32 then
        let p := s3.putRec t (s.evtRecord ev pg)
        (p.1, if p.2 then [65 + 2 * t] else [])
      else
        let p := s3.putEngRec t (s.evtRecord ev pg)
        (p.1, if p.2 then [5] else [])

/-- One occurrence of an event (R369): counted, its EVT_STAT bit set, and delivered when the bit rises while enabled. -/
def State.occur (s : State) (ev : Nat) : State × List Nat :=
  match evSrc ev with
  | none => (s, [])
  | some (pg, bit) =>
    let r := s.evRec ev
    let s1 := s.setEv ev { r with stat := true, count := satAdd 32 r.count 1, occ := s.now }
    if !r.stat && hasBit (s.get (hEvtEn pg)) bit && s.on (hEn pg) then s1.deliver ev pg (hasBit (s.get (hEvtFast pg)) bit) else (s1, [])

/-- Events and the events their delivery raises, one after the other. -/
def State.occurAll : Nat → State → List Nat → State
  | 0, s, _ => s
  | _, s, [] => s
  | n + 1, s, e :: es => (s.occur e).1.occurAll n (es ++ (s.occur e).2)

/-- Raise an event. Its delivery can raise EV0004, EV0005 and the drop events of the 32 mailboxes, each once. -/
def State.raise (s : State) (ev : Nat) : State := { s with sig := (s.occurAll 40 [ev]).sig }

/-- Raise an event if a condition holds. -/
def State.raiseIf (s : State) (c : Bool) (ev : Nat) : State := if c then s.raise ev else s

/-- Deliver an event whose EVT_STAT bit already stands, in a class. -/
def State.redeliverAs (s : State) (fast : Bool) (ev : Nat) : State :=
  match evSrc ev with
  | none => s
  | some (pg, _) => { s with sig := ((s.deliver ev pg fast).1.occurAll 40 (s.deliver ev pg fast).2).sig }

/-- The class that an event's EVT_FAST bit gives it now (R370). -/
def State.fastNow (s : State) (ev : Nat) : Bool :=
  match evSrc ev with
  | some (pg, bit) => hasBit (s.get (hEvtFast pg)) bit
  | none => false

/-- Deliver an event whose EVT_STAT bit already stands, in the class its EVT_FAST bit gives it now (R23, R369, R370, R373). -/
def State.redeliver (s : State) (ev : Nat) : State := s.redeliverAs (s.fastNow ev) ev

/-- Write a record to a host's ring; a dropped one raises the mailbox's drop event (R46). -/
def State.postRec (s : State) (h : Nat) (r : Rec) : State :=
  { s with sig := (if (s.putRec h r).2 then (s.putRec h r).1.raise (65 + 2 * h) else (s.putRec h r).1).sig }

/-- The CMD_DONE record of a mailbox command (R44). -/
def cmdDone (seq status data addr : Nat) : Rec :=
  { seq := 0, typ := 1, source := 70, ref := seq, status := status, addr := addr, data := data }

/-- Advance CMD_SEQ_DONE over every command that has completed (R45). -/
def doneThrough : Nat → Nat → List Nat → Nat
  | 0, d, _ => d
  | n + 1, d, fin => if fin.contains ((d + 1) % 2 ^ 32) then doneThrough n ((d + 1) % 2 ^ 32) fin else d

/-- The head of a command that host `h` has running under a sequence number. -/
def State.running? (s : State) (h seq : Nat) : Option CmdHead := (s.mail h).running.find? (fun c => c.seq.toNat == seq)

/-- A mailbox command of host `h` completes (R45, R46): CMD_SEQ_DONE advances, and CMD_DONE is written unless the entry's
NO_DONE is set. Once management is lost, none completes (R393). -/
def State.complete (s : State) (h seq status data : Nat) (addr : Nat := 0) : State :=
  let m := s.mail h
  match (if s.get F.LOCK_STAT_MGMT = 2 then none else s.running? h seq) with
  | none => s
  | some c =>
    let fin := seq :: m.finished
    let d := doneThrough (fin.length + 1) m.done fin
    let s1 := s.setMail h { m with running := m.running.erase c, done := d,
                                   finished := fin.filter (fun q => decide (0 < (q + 2 ^ 32 - d) % 2 ^ 32) && decide ((q + 2 ^ 32 - d) % 2 ^ 32 < 2 ^ 31)) }
    if c.noDone then s1 else s1.postRec h (cmdDone seq status data addr)

/-! ### Refused writes and stale identifiers -/

/-- The reasons of ACC_ERR_LOG.REASON. -/
inductive Reason where
  | notOwner | outsideView | partialWrite | pageHeld | txnFull | staleTag | lifeCycle | badCond | badValue
deriving DecidableEq, Repr

def reasonCode : Reason → Nat
  | .notOwner => 1
  | .outsideView => 2
  | .partialWrite => 3
  | .pageHeld => 4
  | .txnFull => 5
  | .staleTag => 6
  | .lifeCycle => 7
  | .badCond => 8
  | .badValue => 9

/-- A refused write (R19): counted, recorded, and EV0034 raised; nothing else changes. -/
def State.refuse (s : State) (p : Path) (addr : Nat) (r : Reason) : State :=
  ((((s.sat F.ACC_ERR_COUNT_COUNT).set F.ACC_ERR_LOG_REASON (reasonCode r)).set F.ACC_ERR_LOG_REQ (pathCode p)).set
    F.ACC_ERR_ADDR_OFFSET addr).raise 34

/-- A message, write or command whose identifier is stale (R49). -/
def State.stale (s : State) (kind : Nat) : State := (s.sat (F.STALE_COUNT_COUNT kind)).raise 35

/-! ### Life cycle and power domains -/

/-- The life-cycle state (R435): 0 BLANK, 1 FACTORY, 2 PROVISIONED, 3 DEPLOYED, 4 RETURNED, 5 ENDED. -/
def State.life (s : State) : Nat := s.get F.LC_STAT_STATE

/-- The life-cycle states FACTORY and RETURNED, in which test commands are open (R436). -/
def State.testMode (s : State) : Bool := s.life == 1 || s.life == 4

/-- DOM_STAT.STATE of a domain: 0 ON, 1 RET, 2 OFF, 3 in transition. -/
def State.domState (s : State) (d : Nat) : Nat := s.get (F.DOM_STAT_STATE d)

def State.mapPwr (s : State) (f : PwrSt → PwrSt) : State := { s with pwr := f s.pwr }

/-- Is the fabric die held off: a rail that holds all of it in reset, a thermal trip, or an orderly shutdown that has ended (R410, R411,
R447)? -/
def State.isDark (s : State) : Bool := s.pwr.dark.any (fun d => d != 2 && d != 3 && d != 4)

/-- Does ride-through run (R409)? -/
def State.riding (s : State) : Bool := s.on F.RT_STAT_ACTIVE

/-- A record in force since the last start (R438). -/
def State.record (s : State) (id : Nat) : Option (List Nat) := (s.otp.recs.find? (fun e => e.1 == id)).map (fun e => e.2)

end Sys2Proof.Machine
end

