-- ==== Sys2Proof/Machine/Access.lean ====
section
/-! DEFINITION. Access to the management space (R16-R26): where an offset falls, what a path may see and write, and how a
word is stored into the fields of a register. -/

namespace Sys2Proof.Machine

/-! ### Where an offset falls (R20, R21) -/

/-- A page in use: its template, the instance of its unit, and its base. -/
structure Page where
  ps : PageSpec
  n  : Nat
  pg : Nat
deriving DecidableEq, Repr

/-- The page in use that holds an offset of the space, if one does. -/
def pageOf (addr : Nat) : Option Page :=
  let pg := addr / 4096 * 4096
  pageTable.findSome? (fun ps =>
    if ps.stride = 0 then (if pg = ps.base then some ⟨ps, 0, pg⟩ else none)
    else if ps.base ≤ pg ∧ (pg - ps.base) % ps.stride = 0 ∧ (pg - ps.base) / ps.stride < ps.count then
      some ⟨ps, (pg - ps.base) / ps.stride, pg⟩
    else none)

/-- The writable registers of the page header (R21). -/
def regsHeader : List RegSpec := [
  rg 0x8 1 0 true .plain [fs 1 2 .rw 0 .now (.notIn [3]), fs 0 1 .rw 1],
  rg 0x10 1 0 false .plain [fs 0 32 .w1c 0],
  rg 0x14 1 0 true .plain [fs 0 32 .rw 0],
  rg 0x18 1 0 true .plain [fs 0 32 .rw 0],
  rg 0x1c 1 0 false .plain [fs 0 16 .ro 0 .none],
  rg 0x20 1 0 true .plain [fs 0 8 .rw 0xFF],
  rg 0x24 1 0 true .plain [fs 0 32 .ro 0 .none]]

/-- The register of a page template at an offset, with its index in its array. -/
def findReg (k : PageKind) (off : Nat) : Option (RegSpec × Nat) :=
  (if off < 0x40 then regsHeader else pageRegs k).findSome? (fun r =>
    if r.count ≤ 1 then (if off = r.off then some (r, 0) else none)
    else if r.off ≤ off ∧ (off - r.off) % r.stride = 0 ∧ (off - r.off) / r.stride < r.count then
      some (r, (off - r.off) / r.stride)
    else none)

/-- The Reset values that depend on the unit, the select or the index. -/
def resetOf (k : PageKind) (pg ro n w i lo dflt : Nat) : Nat :=
  if ro = 0x18 then fastReset pg
  else if ro = 0x20 then ownerReset pg
  else match k with
    | .event2 => if ro = 0x48 ∧ w = 0 then 1 else dflt
    | .sched1 => if ro = 0x80 ∧ lo = 12 then resetEc w else dflt
    | .sched4 => if ro = 0x80 then resetCost i else dflt
    | .target => if ro = 0x40 ∧ lo = 0 ∧ n = 32 then 1 else dflt
    | .switch1 => if ro = 0x50 ∧ i = 3 then 5 else dflt
    | .guard2 => if ro = 0x80 ∨ ro = 0xa0 then resetMask w i else dflt
    | .dport2 => if (ro = 0x60 ∨ ro = 0x80) ∧ i = 0 ∧ lo = 0 then 5 else dflt
    | _ => dflt

/-- The value of a window's select for a path (R24, R116, R230). -/
def State.winIndex (s : State) (p n : Nat) : Win → Nat
  | .evSel => s.get (F.EV_SEL_EVENT p)
  | .setSel => s.get (F.SET_SEL_SET p)
  | .qsel => s.get (F.QSEL_PORT p)
  | .shSel => s.get (F.SH_SEL_SH p)
  | .lsel => s.get (F.LSEL_PORT p)
  | .chSel => s.get (F.CH_SEL_CLASS n p) * 32 + s.get (F.CH_SEL_INDEX n p)
  | .statSel => s.get (F.STAT_SEL_PORT p)
  | .lensHost => s.get (F.LENS_SEL_HOST p)
  | .lensWin => s.get (F.LENS_SEL_HOST p) * 64 + s.get (F.LENS_SEL_WIN p)
  | .colSel => s.get (F.COL_SEL_GRAN p)
  | .maskSel => s.get (F.MASK_SEL_INIT p)
  | .rtSel => s.get (F.RT_SEL_ENTRY p)
  | .plSel => s.get (F.PL_SEL_ENTRY p)
  | .ksSel => s.get (F.KS_SEL_SLOT p)
  | .domSel => s.get (F.DOM_SEL_DOM p)
  | .repSel => s.get (F.REP_SEL_ENTRY p)
  | .ageSel => s.get (F.AGE_SEL_MON p)
  | .bistSel => s.get (F.BIST_SEL_PROG p)
  | .lwMacro => s.get (F.LW_SEL_MACRO p)
  | .lwLane => s.get (F.LW_SEL_MACRO p) * 4 + s.get (F.LW_SEL_LANE p)
  | .lwStep => s.get (F.LW_SEL_MACRO p) * 256 + s.get (F.SEQ_SEL_STEP p)
  | .otpSel => s.get (F.OTP_SEL_WORD p)

/-- The number of the copy that a register's banking picks: 0 for a plain register. -/
def State.bankOf (s : State) (p n : Nat) : Bank → Nat
  | .plain => 0
  | .perPath => p + 1
  | .win w => s.winIndex p n w + 1

/-- The field of a register copy. -/
def fldOf (pgn : Page) (r : RegSpec) (i bank addr : Nat) (f : FieldSpec) : Fld :=
  ⟨bank, addr, f.lo, f.width, resetOf pgn.ps.kind pgn.pg r.off pgn.n (bank - 1) i f.lo f.reset⟩

/-! ### Power domains of the pages (R400) -/

/-- The power domain that holds a page. -/
def pageDom (k : PageKind) (n : Nat) : Nat :=
  match k with
  | .time0 | .time1 | .time2 | .time3 | .axis => 2
  | .event0 | .event1 | .event2 | .target => 3
  | .sched0 | .sched1 | .sched2 | .sched3 | .sched4 | .sched5 => 4
  | .switch0 | .switch1 | .switch2 | .switch3 => 5
  | .dir0 | .dir1 | .dir2 | .dir3 | .dir4 => 10
  | .cream => 46 + n
  | .guard0 | .guard1 | .guard2 | .guard3 => 54
  | .bridge0 | .bridge1 | .bridge2 | .bridge3 | .bridge4 | .bridge5 => 55
  | .key0 | .key1 | .key2 => 57
  | .svcusb => 58
  | .scanout => 59 + n
  | .engpage => if n < 3 then 1 else 64 + n
  | .hport0 | .hport1 => 88 + n
  | .mport => 120 + n
  | .dport0 | .dport1 | .dport2 | .dport3 | .dport4 | .dport5 => 136 + n
  | _ => 1

/-- The power domain that holds a register copy: the settings behind the lane window lie in the SerDes domain of their macro (R230). -/
def regDom (k : PageKind) (n : Nat) (b : Bank) (bank : Nat) : Nat :=
  match b with
  | .win .lwMacro => 152 + (bank - 1)
  | .win .lwLane => 152 + (bank - 1) / 4
  | .win .lwStep => 152 + (bank - 1) / 256
  | _ => pageDom k n

/-- Is a register copy handled as a saved one (R26): it is marked so, or it lies behind the lane window (R230)? -/
def RegSpec.held (r : RegSpec) : Bool :=
  r.saved || (match r.bank with
    | .win .lwMacro | .win .lwLane | .win .lwStep => true
    | _ => false)

/-! ### Views and ownership (R16, R22, R24) -/

/-- Does an offset lie in a path's view (R16)? -/
def State.inView (s : State) (p : Path) (addr : Nat) : Bool :=
  let pg := addr / 4096 * 4096
  let global := pg == 0 || pg == 0x1000 || pg == 0x2000
  let power := (0x1100000 ≤ pg && pg ≤ 0x1104000) || pg == 0x1108000
  let repair := (0x1200000 ≤ pg && pg ≤ 0x1202000) || pg == 0x1210000
  match p with
  | .smbus => pg == 0 || pg == 0x1000 || power || pg == 0x44000 || repair
  | .svcUsb =>
    if s.life = 1 ∨ s.life = 4 then true
    else if s.life = 2 ∨ s.life = 3 then global || power || repair
    else pg == 0
  | _ => true

/-- Is a path's view of an offset read only (R16)? The registers open to every path (R24) are written all the same. -/
def State.viewReadOnly (s : State) (p : Path) (addr : Nat) : Bool :=
  let pg := addr / 4096 * 4096
  match p with
  | .smbus => !((0x1100000 ≤ pg && pg ≤ 0x1104000) || pg == 0x1108000)
  | .svcUsb => !(s.life == 1 || s.life == 4)
  | _ => false

/-- Does the page's OWNER name the requester, or is it requester 0x20 (R24)? -/
def State.owns (s : State) (p pg : Nat) : Bool := p == 0x20 || s.get (hOwner pg) == p

/-- Is the page's OWNER one that cannot be written (R24, R378)? -/
def ownerFixed (k : PageKind) (n : Nat) : Bool :=
  match k with
  | .mailbox | .global2 | .key1 | .key2 => true
  | .target => decide (n < 56)
  | _ => false

/-- The registers that every path in whose view they lie may write (R24). -/
def openToAll (k : PageKind) (off : Nat) (b : Bank) : Bool :=
  decide (b = .perPath) || (decide (k = .global2) && (off == 0x50 || off == 0x54)) || (decide (k = .key2) && decide (0x40 ≤ off))

/-- The pages that all paths share, so that their OWNER bars none of them (R24). -/
def sharedPage (k : PageKind) : Bool :=
  match k with
  | .global2 | .key1 | .key2 => true
  | _ => false

/-- The registers that are never shadowed (R30, R116 and the other windows' rules). -/
def neverShadowed (k : PageKind) (off : Nat) (b : Bank) : Bool :=
  decide (b = .perPath) || decide (k = .global2) || decide (k = .mailbox) || off == 0x20 || decide (k = .key2) ||
    (decide (k = .target) && decide (0x50 ≤ off) && decide (off ≤ 0x5C))

/-! ### Storing a word -/

/-- Does an RWL field store the value in the present life-cycle state (R1, R436)? -/
def State.rwlStores (s : State) (k : PageKind) (ro v : Nat) : Bool :=
  let open_ := s.testMode
  match k with
  | .key0 => open_ || s.life == 2
  | .repair0 => open_ || s.life == 2
  | .repair2 => open_ || (v == 1 && ro == 0x40)
  | _ => open_

/-- Does a write reach the field's stored value? -/
def State.stores (s : State) (k : PageKind) (ro : Nat) (f : FieldSpec) (v : Nat) : Bool :=
  match f.acc with
  | .rw | .w1c | .w1s | .wo => true
  | .rwl => s.rwlStores k ro v
  | .ro => false

/-- Does the word have the form that every field it reaches requires (R482)? -/
def State.formOk (s : State) (k : PageKind) (r : RegSpec) (v : Nat) : Bool :=
  r.fields.all (fun f => !s.stores k r.off f (bits v f.lo f.width) || f.chk.admits (bits v f.lo f.width))

/-- Keep the value in force of a field whose new value does not govern yet (R4). -/
def State.keepInForce (s : State) (f : Fld) : State :=
  if s.lag.any (fun e => e.1 == f.key) then s else { s with lag := tset s.lag f.key (s.get f) }

/-- Store a field's part of a word; `commit` tells a commit cycle from a direct write (R4). -/
def State.storeField (s : State) (k : PageKind) (ro : Nat) (spec : FieldSpec) (f : Fld) (v : Nat) (commit : Bool) : State :=
  match spec.acc with
  | .rw | .rwl =>
    if !s.stores k ro spec v then s
    else match spec.takes with
      | .now | .none => s.set f v
      | .commit => if commit then s.set f v else s
      | _ => (s.keepInForce f).set f v
  | .w1c => s.set f (Nat.land (s.get f) (2 ^ f.width - 1 - v))
  | _ => s

/-- Store a word into a register's fields. -/
def State.storeReg (s : State) (pgn : Page) (r : RegSpec) (i bank addr v : Nat) (commit : Bool) : State :=
  r.fields.foldl (fun s f => s.storeField pgn.ps.kind r.off f (fldOf pgn r i bank addr f) (bits v f.lo f.width) commit) s

/-- The value of a register's stored fields. -/
def State.regWord (s : State) (pgn : Page) (r : RegSpec) (i bank addr : Nat) : Nat :=
  r.fields.foldl (fun w f => if f.acc = .wo then w else w + 2 ^ f.lo * s.get (fldOf pgn r i bank addr f)) 0

/-- Does a word change a field of access RW, RWL, W1C or W1S (R25)? -/
def State.changes (s t : State) (pgn : Page) (r : RegSpec) (i bank addr v : Nat) : Bool :=
  r.fields.any (fun f => (f.acc == .w1s && bits v f.lo f.width != 0) ||
    (s.get (fldOf pgn r i bank addr f) != t.get (fldOf pgn r i bank addr f)))

/-- Count a change to a page (R25). -/
def State.bump (s : State) (pg : Nat) : State := s.wrap (hSeq pg)

def State.bumpIf (s : State) (c : Bool) (pg : Nat) : State := if c then s.bump pg else s

/-- Store a word at an offset as a direct write does: its fields, and PAGE_SEQ. -/
def State.storeAt (s : State) (p addr v : Nat) : State :=
  match pageOf addr with
  | none => s
  | some pgn =>
    match findReg pgn.ps.kind (addr % 4096) with
    | none => s
    | some (r, i) =>
      let bank := s.bankOf p pgn.n r.bank
      let t := s.storeReg pgn r i bank addr v false
      if s.changes t pgn r i bank addr v then t.bump pgn.pg else t

end Sys2Proof.Machine
end

