-- ==== Sys2Proof/Machine/Axis.lean ====
section
/-! DEFINITION. Positions of a belt axis and predicted times (R66-R69, R76, R119-R121), and the transaction slots' mark
that a condition has been met (R33-R35). -/

namespace Sys2Proof.Machine

def State.axis (s : State) (a : Nat) : AxisSt := tget {} s.time.axes a

def State.setAxis (s : State) (a : Nat) (x : AxisSt) : State :=
  { s with time := { s.time with axes := tset s.time.axes a x } }

/-- SCALE: unsigned 32.32 fixed-point micrometres per count (R66). -/
def State.scale (s : State) (a : Nat) : Nat := s.get64 (F.SCALE_LO_FRAC a) (F.SCALE_HI_INT a)

def State.count (s : State) (a : Nat) : Int := s.getI64 (F.COUNT_LO_COUNT a) (F.COUNT_HI_COUNT a)

/-- The position of a count (R66), in units of 2^-16 micrometre. -/
def State.posOfCount (s : State) (a : Nat) (c : Int) : Int :=
  s.getI64 (F.OFFSET_LO_POS a) (F.OFFSET_HI_POS a) + Int.fdiv (c * s.scale a) 65536

def State.vel (s : State) (a : Nat) : Int := s.getI (F.VEL_VEL a)

/-- A value clamped to a symmetric range. -/
def clampAbs (m v : Int) : Int := if v < -m then -m else if m < v then m else v

/-- The interpolated position at hub time `t` (R68). -/
def State.posAt (s : State) (a t : Nat) : Int :=
  let x := s.axis a
  let v := s.vel a
  let down := s.on (F.AX_STAT_DIR a)
  if s.on (F.AX_STAT_STOPPED a) || (decide (v < 0) && !down) || (decide (0 < v) && down) then x.pc
  else x.pc + clampAbs (((s.scale a - 1) / 65536 : Nat) : Int) (Int.fdiv (v * ((t : Int) - x.tc)) 1000)

/-- The velocity over the counted transitions, newest first, within VEL_WINDOW of hub time `t`, or over the last two (R67). -/
def State.velThen (s : State) (a t : Nat) (hist : List (Int × Nat)) : Int :=
  let win := hist.filter (fun e => decide (t ≤ e.2 + 1000 * s.get (F.VEL_WINDOW_US a)))
  let l := if win.length < 2 then hist.take 2 else win
  match l, l.getLast? with
  | (p1, t1) :: _ :: _, some (p0, t0) => if t1 = t0 then Config.velZeroSpan (p1 - p0) else Int.fdiv ((p1 - p0) * 1000) ((t1 : Int) - t0)
  | _, _ => 0

/-- POS as it stood at hub time `t`, before the transitions counted since (R68, R78): from the count, the direction and the velocity of
then. -/
def State.posThen (s : State) (a t : Nat) : Int :=
  let x := s.axis a
  if x.hist.isEmpty ∨ x.tc ≤ t then s.posAt a t
  else
    let l := x.hist.filter (fun e => decide (e.2 ≤ t))
    match l with
    | [] => x.p0
    | (p, tc) :: l' =>
      let v := s.velThen a t l
      let down := match l' with
        | (q, _) :: _ => decide (p < q)
        | [] => false
      if tc + 1000 * s.get (F.STOP_TIMEOUT_US a) ≤ t ∨ (v < 0 ∧ !down) ∨ (0 < v ∧ down) then p
      else p + clampAbs (((s.scale a - 1) / 65536 : Nat) : Int) (Int.fdiv (v * ((t : Int) - tc)) 1000)

/-- POS now. -/
def State.pos (s : State) (a : Nat) : Int := s.posAt a s.now

/-- Does a move from `p0` to `p1` cross `p` in a direction (false increasing, true decreasing) (R69)? -/
def crosses (p0 p1 p : Int) (dir : Bool) : Bool :=
  if dir then decide (p < p0) && decide (p1 ≤ p) else decide (p0 < p) && decide (p ≤ p1)

/-- Has a position already been passed in a direction (R34, R76, R122)? -/
def passed (pos p : Int) (dir : Bool) : Bool := if dir then decide (pos ≤ p) else decide (p ≤ pos)

/-- Are UNCERTAIN or LOST set (R70)? -/
def State.unsure (s : State) (a : Nat) : Bool := s.on (F.AX_STAT_UNCERTAIN a) || s.on (F.AX_STAT_LOST a)

/-- Does the axis move in a direction, so that a crossing can be predicted (R124)? -/
def State.moving (s : State) (a : Nat) (dir : Bool) : Bool :=
  !s.on (F.AX_STAT_STOPPED a) && (if dir then decide (s.vel a < 0) else decide (0 < s.vel a))

/-- The predicted hub time at which a position is reached (R121), where it can be predicted. -/
def State.predict (s : State) (a : Nat) (p : Int) (dir : Bool) : Option Int :=
  if s.moving a dir then some ((s.axis a).tc + Int.fdiv ((p - (s.axis a).pc) * 1000) (s.vel a)) else none

/-- DLAT_p (R119). -/
def State.dlat (s : State) (p : Nat) : Nat :=
  if p < 64 then
    let adj := s.getI (F.DLAT_ADJ_NS p)
    let fixed := hasBit (if p < 32 then s.get F.DLAT_FIXED_LO_MASK else s.get F.DLAT_FIXED_HI_MASK) (p % 32)
    let d := if fixed then adj else (s.get (F.DLAT_MEAS_NS p) : Int) + adj
    if d < 0 then 0 else min d.toNat 1000000
  else 0

/-- The release position of a target (R121): `p - s * floor(|vel| * dlat / 1000)`. -/
def State.releasePos (s : State) (a : Nat) (p : Int) (dir : Bool) (dlat : Nat) : Int :=
  let d : Int := ((s.vel a).natAbs * dlat / 1000 : Nat)
  if dir then p + d else p - d

/-- Does a position's absolute slot lie on the axis wheel (R122)? -/
def nearSlot (w pos p : Int) : Bool :=
  decide (Int.fdiv pos w - 512 ≤ Int.fdiv p w) && decide (Int.fdiv p w ≤ Int.fdiv pos w + 511)

/-! ### Transaction slots: conditions met -/

def State.slot (s : State) (i : Nat) : Slot := tget {} s.slots i

def State.setSlot (s : State) (i : Nat) (x : Slot) : State := { s with slots := tset s.slots i x }

/-- Mark an armed transaction's condition met, late or on time (R33-R35); the commit follows in the same command. -/
def State.markMet (s : State) (i : Nat) (late : Bool) : State :=
  let x := s.slot i
  if x.state = .armed ∧ x.met = none then s.setSlot i { x with met := some late } else s

/-- The armed slots whose condition is of kind `c` and not met yet, in ascending order. -/
def State.armedSlots (s : State) (c : Nat) : List Nat :=
  (List.range 8).filter (fun i => decide ((s.slot i).state = .armed) && (s.slot i).cond == c && (s.slot i).met.isNone)

/-- The parameter of an AT_AXIS slot as a signed position. -/
def slotPos (x : Slot) : Int := toSigned 64 x.param

/-- Free a slot with a result (R38, R40): its shadow entries are discarded, its pages' tags cleared, and its tag goes into
quarantine. -/
def State.clearTags (s : State) (i : Nat) : State :=
  let x := s.slot i
  (x.entries.map (fun e => e.addr / 4096 * 4096)).foldl (fun s pg => s.set (hTxnTag pg) 0) s

/-- The slot's last opener stays in TXN_STATn.OPENER until the next opening: the spec says nothing of OPENER while the slot is free (DESIGN
CHOICE, log entry 52). -/
def State.freeSlot (s : State) (i result seq : Nat) : State :=
  let x := s.slot i
  (s.clearTags i).setSlot i
    { state := .free, gen := x.gen, quar := true, opener := x.opener, result := result, resGen := x.gen, resSeq := seq }

end Sys2Proof.Machine
end

