-- ==== Sys2Proof/Machine/Codec.lean ====
section
/-! DEFINITION. The bits on a dock cable: CRC-16 and CRC-64, the Reed-Solomon check bytes, training frames and flits (R214, R232,
R235, R236), and CRC-32C (R276), with initial value and final XOR all ones. -/

namespace Sys2Proof.Machine

/-- One byte of a reflected CRC with its reflected polynomial. -/
def crcByte (poly : Nat) : Nat → Nat → Nat
  | 0, c => c
  | n + 1, c => crcByte poly n (if c % 2 = 1 then Nat.xor (c / 2) poly else c / 2)

/-- A reflected CRC of `w` bits with initial value and final XOR all ones. -/
def crcRefl (w poly : Nat) (l : List (BitVec 8)) : Nat :=
  Nat.xor (l.foldl (fun c b => crcByte poly 8 (Nat.xor c b.toNat)) (2 ^ w - 1)) (2 ^ w - 1)

/-- CRC-64/XZ (R235). -/
def crc64 (l : List (BitVec 8)) : Nat := crcRefl 64 0xC96C5795D7870F42 l

/-- CRC-32C (R276), with initial value and final XOR all ones. -/
def crcIscsi (l : List (BitVec 8)) : Nat := crcRefl 32 0x82F63B78 l

/-- `n` bits of the CRC-16 of R214. -/
def crc16Bits : Nat → Nat → Nat
  | 0, c => c
  | n + 1, c => crc16Bits n (if 32768 ≤ c then Nat.xor (c * 2 % 65536) 0x1021 else c * 2)

/-- CRC-16 with polynomial 0x1021, initial value 0xFFFF, not inverted (R214). -/
def crc16 (l : List (BitVec 8)) : Nat := l.foldl (fun c b => crc16Bits 8 (Nat.xor c (b.toNat * 256))) 0xFFFF

/-- Multiplication by x in the field of R236. -/
def gfX (a : Nat) : Nat := if 128 ≤ a then Nat.xor (a * 2 % 256) 0x1D else a * 2

/-- The two check bytes of a codeword: the remainder of m(x) x^2 by x^2 + 3x + 2, the coefficient of x^1 first (R236). -/
def rsCheck (l : List (BitVec 8)) : Nat × Nat :=
  l.foldl (fun r b =>
    let f := Nat.xor b.toNat r.1
    (Nat.xor r.2 (Nat.xor (gfX f) f), gfX f)) (0, 0)

/-- Multiplication by x `n` times. -/
def gfPow : Nat → Nat → Nat
  | 0, a => a
  | n + 1, a => gfPow n (gfX a)

/-- The degree of a flit's byte in its codeword (R236). -/
def rsDeg (j : Nat) : Nat := (if j % 3 = 0 then 85 else 84) - j / 3

/-- The error that a flit's byte bears on the wire. -/
def errAt (e : List (Nat × Nat)) (j : Nat) : Nat := e.foldl (fun v x => if x.1 = j then Nat.xor v x.2 else v) 0

/-- The syndromes of a codeword at the generator's roots 1 and 2 (R236): they depend on the errors alone. -/
def rsSyn (e : List (Nat × Nat)) (k : Nat) : Nat × Nat :=
  e.foldl (fun r x => if x.1 % 3 = k then (Nat.xor r.1 x.2, Nat.xor r.2 (gfPow (rsDeg x.1) x.2)) else r) (0, 0)

/-- The one byte that a receiver corrects in a codeword (R236), with its correction. -/
def rsFix (e : List (Nat × Nat)) (k : Nat) : Option (Nat × Nat) :=
  let r := rsSyn e k
  if r.1 = 0 then none
  else (((List.range 86).map (fun i => 3 * i + k)).find? (fun j => decide (j < 256) && gfPow (rsDeg j) r.1 == r.2)).map (fun j => (j, r.1))

/-- The corrections that FEC makes in a received flit. -/
def rsFixes (e : List (Nat × Nat)) : List (Nat × Nat) := if e.isEmpty then [] else [0, 1, 2].filterMap (rsFix e)

/-- Are the header, the body and the CRC as they were sent after the correction? An error that is left there fails the CRC (log entry 98). -/
def fecGood (e : List (Nat × Nat)) : Bool :=
  let l := e ++ rsFixes e
  l.all (fun x => decide (250 ≤ x.1) || errAt l x.1 == 0)

/-- Every third byte of a list from `k` on. -/
def third (k : Nat) (l : List (BitVec 8)) : List (BitVec 8) :=
  (l.zipIdx.filter (fun p => p.2 % 3 == k)).map (fun p => p.1)

/-- The `n` bytes of a number, least significant first. -/
def leBytes : Nat → Nat → List (BitVec 8)
  | 0, _ => []
  | n + 1, v => BitVec.ofNat 8 v :: leBytes n (v / 256)

/-- The number that bytes spell, least significant first. -/
def leNat : List (BitVec 8) → Nat
  | [] => 0
  | b :: l => b.toNat + 256 * leNat l

/-- A list cut or filled with zeros to a length. -/
def padTo (n : Nat) (l : List (BitVec 8)) : List (BitVec 8) := (l ++ List.replicate n 0).take n

/-- The header of a flit as a number (R232). -/
def flitHead (f : Flit) : Nat :=
  f.typ % 16 + 16 * (f.seq % 4096) + 2 ^ 16 * (f.ack % 4096) + 2 ^ 28 * (f.cr % 512) + 2 ^ 37 * (f.crc % 8) +
    2 ^ 40 * (f.chan % 32) + 2 ^ 45 * (f.cls % 8)

/-- The 256 bytes of a flit (R232, R235, R236). -/
def flitBytes (f : Flit) : List (BitVec 8) :=
  let a := leBytes 6 (flitHead f) ++ padTo 236 f.body
  let b := a ++ leBytes 8 (crc64 a)
  let c0 := rsCheck (third 0 b)
  let c1 := rsCheck (third 1 b)
  let c2 := rsCheck (third 2 b)
  b ++ [BitVec.ofNat 8 c1.1, BitVec.ofNat 8 c2.1, BitVec.ofNat 8 c0.1, BitVec.ofNat 8 c1.2, BitVec.ofNat 8 c2.2, BitVec.ofNat 8 c0.2]

/-- The marker of a training frame (R214). -/
def marker : List (BitVec 8) := [0x4B, 0xE1, 0x2D, 0x78, 0xB4, 0x1E, 0xD2, 0x87]

/-- One step of the PRBS-13 of R214 on a 13-bit register: the bit out, and the register after it. -/
def prbs13 (r : Nat) : Nat × Nat :=
  let b := (r / 4096 + r / 2048 + r / 2 + r) % 2
  (r / 4096 % 2, (r * 2 + b) % 8192)

/-- The order of a pattern's register and its feedback mask (R226): the polynomials of ITU-T O.150, and x^13 + x^12 + x^2 + x + 1 for PRBS13; patterns
7 and 8 are those of 3 and 6 sent as PAM4 symbols (PRESUMED, log entry 97). -/
def prbsTaps (pattern : Nat) : Nat × Nat :=
  [(7, 0x60), (9, 0x110), (11, 0x500), (13, 0x1803), (15, 0x6000), (23, 0x420000), (31, 0x48000000), (13, 0x1803), (31, 0x48000000)].getD pattern (64, 0)

/-- One step of a pattern's register (R226): the bit out, and the register after it. -/
def prbsStep (t : Nat × Nat) (r : Nat) : Nat × Nat :=
  let b := ((List.range t.1).filter (fun i => (Nat.land r t.2).testBit i)).length % 2
  (r / 2 ^ (t.1 - 1) % 2, (r * 2 + b) % 2 ^ t.1)

/-- Bits of the filler as bytes, and the register after them. -/
def fillBits : Nat → Nat → Nat × Nat
  | 0, r => (0, r)
  | n + 1, r =>
    let p := prbs13 r
    let q := fillBits n p.2
    (p.1 + 2 * q.1, q.2)

/-- A training frame (R214) from its fields, with the filler register as it stands. -/
def frameBytes (count b9 flags req preset inUse cd fill : Nat) : List (BitVec 8) :=
  let body := [count, b9, flags, req, preset, inUse, cd, 0].map (BitVec.ofNat 8) ++ leBytes 14 (fillBits 112 fill).1
  marker ++ body ++ leBytes 2 (crc16 body)

/-- The bytes of a sideband packet (R290). -/
def sbuPacket (typ seq : Nat) (b : List (BitVec 8)) : List (BitVec 8) :=
  let body := [seq, typ, b.length].map (BitVec.ofNat 8) ++ b
  0xA5 :: body ++ leBytes 2 (crc16 body)

/-- The preset of a dock transmitter as magnitudes of c-1 and c+1 in 1/64 (R208). -/
def dockPreset (p : Nat) : Nat × Nat := [(0, 0), (0, 4), (0, 8), (0, 12), (4, 8), (6, 12), (8, 0), (8, 16)].getD p (0, 0)

/-- The bits of bytes as a dock lane sends them: each byte least significant bit first (R204). -/
def serialBits (l : List (BitVec 8)) : List Bool := (l.map (fun b => (List.range 8).map (fun i => (b.getLsbD i)))).flatten

/-- The Gray map of a PAM4 symbol, the first bit sent the more significant (R204). -/
def gray (first second : Bool) : Int := if first then (if second then 1 else 3) else (if second then -1 else -3)

/-- Consecutive bits in pairs as PAM4 symbols (R204). -/
def pam4Symbols : List Bool → List Int
  | a :: b :: l => gray a b :: pam4Symbols l
  | _ => []

/-- The symbols of a dock lane's bytes at a rate code: a level a bit at NRZ, a PAM4 symbol for two bits (R202, R204). -/
def dockSymbols (rate : Nat) (l : List (BitVec 8)) : List Int :=
  if 2 ≤ rate then pam4Symbols (serialBits l) else (serialBits l).map (fun b => if b then 1 else -1)

/-- The bytes of a flit that go on a lane of those in use (R237): byte j on lane j mod 2 at x2, every byte on the one lane in use at x1. -/
def laneBytes (mask l : Nat) (b : List (BitVec 8)) : List (BitVec 8) :=
  if mask = 3 then (b.zipIdx.filter (fun p => p.2 % 2 == l)).map (fun p => p.1) else if mask.testBit l then b else []

/-- What a dock port's lane carries of a flit (R204, R232, R237). -/
def flitOnLane (rate mask l : Nat) (f : Flit) : List Int := dockSymbols rate (laneBytes mask l (flitBytes f))

/-- The time of one flit in ps (R237), by rate code and number of lanes. -/
def flitPs (rate lanes : Nat) : Nat :=
  if lanes = 0 then 0 else 40960000000 / ([206250, 515625, 1062500, 2125000].getD rate 206250 * lanes)

end Sys2Proof.Machine
end

