-- ==== Sys2Proof/Machine/Repair.lean ====
section
/-! DEFINITION. The soft repair map (R445, R446): an element that a runtime rule records. -/

namespace Sys2Proof.Machine

/-- Word 0 of an entry: class, instance, detail. -/
def repElem (cls inst detail : Nat) : Nat := 2 ^ 28 * cls + 65536 * inst + detail

def State.setRepair (s : State) (l : List RepEntry) : State := { s with repair := l }

/-- A runtime rule records an element (R446): a RUNTIME entry, unless the element has one or the map is full. -/
def State.softRecord (s : State) (cls inst detail : Nat) (spare : Nat := 0xFF) : State :=
  let e := repElem cls inst detail
  if s.repair.any (fun r => r.elem == e) || decide (1024 ≤ s.repair.length) then s
  else ((s.setRepair (s.repair ++ [{ elem := e, spare := spare }])).set F.REP_LOG_ELEM e).raise 3968

end Sys2Proof.Machine
end

