-- ==== Sys2Proof/Machine/Lanes.lean ====
section
/-! DEFINITION. Serial lanes (R201-R230): macros and their PLLs, the training sequencer, the loupe, patterns and loops. A lane of
macro m is numbered 4m + lane, a step of its sequencer 256m + step. -/

namespace Sys2Proof.Machine

def State.macro (s : State) (m : Nat) : Macro := tget {} s.link.macros m

def State.mapLinks (s : State) (f : LinkSt → LinkSt) : State := { s with link := f s.link }

def State.setMacro (s : State) (m : Nat) (x : Macro) : State := s.mapLinks (fun k => { k with macros := tset k.macros m x })

/-- A dock port's link record. -/
def State.lk (s : State) (n : Nat) : Link := tget {} s.link.links n

def State.setLk (s : State) (n : Nat) (x : Link) : State := s.mapLinks (fun k => { k with links := tset k.links n x })

def State.mapLk (s : State) (n : Nat) (f : Link → Link) : State := s.setLk n (f (s.lk n))

/-- The lanes of a macro (R201). -/
def macroLanes (m : Nat) : Nat := if m < 64 then 4 else 2

/-- The crossbar port whose lanes a macro holds (R201). -/
def macroPort (m : Nat) : Nat := if m < 32 then m else if m < 64 then 32 + (m - 32) / 2 else 48 + (m - 64)

/-- The receptacle's pair that carries a dock port's lane, 0 TX1/RX1 and 1 TX2/RX2: ORIENT = 1 swaps them (R201, R295). -/
def State.pairOf (s : State) (n l : Nat) : Nat := if s.on (F.PD_STAT_ORIENT n) then 1 - l else l

/-- A mask of a dock port's lanes as its mask of pairs. -/
def State.pairs (s : State) (n mask : Nat) : Nat := if s.on (F.PD_STAT_ORIENT n) then mask / 2 % 2 + 2 * (mask % 2) else mask % 4

/-- The place of a macro's lane at the balls. -/
def State.ballOf (s : State) (w : Nat) : Nat := if w / 4 < 64 then w % 4 else s.pairOf (w / 4 - 64) (w % 4)

/-- A dock port's transmitter changes what it sends: its mode, rate and lanes. -/
def State.dockSends (s : State) (n mode rate mask : Nat) : State := s.emit (.dockTx n mode rate (s.pairs n mask))

/-- The macros of a crossbar port. -/
def portMacros (p : Nat) : List Nat := if p < 32 then [p] else if p < 48 then [32 + 2 * (p - 32), 33 + 2 * (p - 32)] else [64 + (p - 48)]

/-- Does a macro's rate code use PAM4 (R202)? -/
def pam4 (m rate : Nat) : Bool := if m < 64 then decide (6 ≤ rate) else decide (2 ≤ rate)

/-- A lane event (LW_LOG): its EVT_STAT bit, macro and lane. -/
def State.laneEv (s : State) (bit m l : Nat) : State :=
  (s.sets [(F.LW_LOG_KIND, bit), (F.LW_LOG_LANE, l), (F.LW_LOG_MACRO, m)]).raise (3904 + bit)

/-! ### Adaptation (R209, R210) -/

/-- Is a port's link up? -/
def State.portLive (s : State) (p : Nat) : Bool :=
  if p < 32 then s.get (F.HP_STAT_LINK p) == 2 else if p < 48 then s.get (F.MP_STAT_LINK (p - 32)) == 2 else s.get (F.DL_STAT_STAGE (p - 48)) == 8

/-- Does a lane's receiver take in live traffic, training frames, a test pattern, or its own transmitter in the near-end serial loop (R228)? The
near-end parallel loop bypasses it. -/
def State.receives (s : State) (w : Nat) : Bool :=
  let p := macroPort (w / 4)
  s.get (F.LB_CTRL_MODE w) != 2 && ((s.get (F.LB_CTRL_MODE w) == 1 && s.on (F.PRBS_CTRL_GEN_EN w)) || (if p < 32 then s.get (F.HP_STAT_LINK p) != 0 else if p < 48 then s.get (F.MP_STAT_LINK (p - 32)) != 0 else s.get (F.DL_STAT_STAGE (p - 48)) != 0) ||
    s.on (F.PRBS_CTRL_CHK_EN w))

/-- Is the port of a macro in link state 0? -/
def State.laneLive (s : State) (m : Nat) : Bool := s.get (F.LSTATE_STATE (macroPort m)) == 0

/-- Does a lane's CTLE (0) or DFE (1) adapt now (R210)? -/
def State.adapts (s : State) (w k : Nat) : Bool :=
  let x := s.macro (w / 4)
  s.on (if k = 0 then F.LN_CTRL_ADAPT_CTLE w else F.LN_CTRL_ADAPT_DFE w) && !s.on (F.LN_CTRL_FREEZE w) && !hasBit (tget 0 x.frozen (w % 4)) k &&
    s.laneLive (w / 4) && s.receives w && !s.on (F.LN_STAT_RETIRED w) &&
    (match x.swAt with
      | some t => decide (t + 10000 ≤ s.now)
      | none => true)

/-- The symbol rate of a macro's lanes in 50 kBd (R202). -/
def baud (m rate : Nat) : Nat :=
  if m < 64 then [0, 50000, 100000, 160000, 320000, 640000, 640000, 1280000].getD rate 0
  else [206250, 515625, 531250, 1062500].getD rate 0

/-- The unit intervals of a lane in a time of some ns. -/
def uiIn (m rate ns : Nat) : Nat := ns * baud m rate / 20000

/-- A value between two limits, at most `k` codes from where it stood, as a free value chooses (R210). -/
def drift (lo hi v : Int) (k r : Nat) : Int := max lo (min hi (v + ((r % (2 * k + 1) : Nat) : Int) - k))

/-- The four taps of a DFE register, each at most `k` codes from where it stood (R210). -/
def driftTaps (v k r : Nat) : Nat :=
  let f := fun (b r : Nat) => (BitVec.ofInt 8 (drift (-128) 127 (toSigned 8 b) k r)).toNat
  f (v % 256) r + 2 ^ 8 * f (v / 2 ^ 8 % 256) (r / 2 ^ 9) + 2 ^ 16 * f (v / 2 ^ 16 % 256) (r / 2 ^ 18) + 2 ^ 24 * f (v / 2 ^ 24 % 256) (r / 2 ^ 27)

/-- The four bytes of a DFE register. -/
def fourBytes (v : Nat) : List Nat := [v % 256, v / 2 ^ 8 % 256, v / 2 ^ 16 % 256, v / 2 ^ 24 % 256]

/-- The taps of a lane that its receiver uses (R209), as bytes: h6 to h12 at PAM4 rates only. -/
def State.tapBytes (s : State) (w : Nat) : List Nat :=
  let l := fourBytes (s.get (F.DFE0_TAPS w)) ++ fourBytes (s.get (F.DFE1_TAPS w)) ++ fourBytes (s.get (F.DFE2_TAPS w))
  if pam4 (w / 4) (s.get (F.MAC_STAT_RATE (w / 4))) then l else l.take 5

/-- Does a tap of a lane stand at a limit of its range (R210)? -/
def State.atRail (s : State) (w : Nat) : Bool := (s.tapBytes w).any (fun x => x == 127 || x == 128)

/-- The CTLE code and the DFE taps of a lane that adapts stand where sign-sign LMS has left them by now (R210): free values, at most one code per
2^16 UI from where they stood (log entry 62). A tap at a range limit may have left it; ADAPTED shows whether taps have moved for 2^20 UI (R213). -/
def State.tapsTo (s : State) (w : Nat) (ctle dfe : Bool) : State :=
  let x := s.macro (w / 4)
  let ui := uiIn (w / 4) (s.get (F.MAC_STAT_RATE (w / 4))) (s.now - tget 0 x.tapAt (w % 4))
  let k := if ui = 0 then 0 else min 255 (ui / 65536 + 1)
  let a := s.fresh
  let s1 := if ctle then a.2.set (F.CTLE_PEAK w) (drift 0 31 (s.get (F.CTLE_PEAK w)) k a.1).toNat else s
  let b := s1.fresh
  let c := b.2.fresh
  let d := c.2.fresh
  let e := d.2.fresh
  let s2 := if dfe then e.2.sets [(F.DFE0_TAPS w, driftTaps (s.get (F.DFE0_TAPS w)) k b.1), (F.DFE1_TAPS w, driftTaps (s.get (F.DFE1_TAPS w)) k c.1),
    (F.DFE2_TAPS w, driftTaps (s.get (F.DFE2_TAPS w)) k d.1)] else s1
  let moved := s2.tapBytes w != s.tapBytes w
  let s3 := if !dfe then s2 else s2.set (F.LN_STAT_ADAPTED w)
    (if moved then (if ui < 2 ^ 20 then 0 else e.1 % 2) else if 2 ^ 20 ≤ ui then 1 else s.get (F.LN_STAT_ADAPTED w))
  if ctle || dfe then s3.setMacro (w / 4) { x with tapAt := tset x.tapAt (w % 4) s.now, railed := x.railed.filter (fun l => l != w % 4 || s3.atRail w) } else s3

/-- What adaptation has made of a lane by now. -/
def State.tapsMove (s : State) (w : Nat) : State := s.tapsTo w (s.adapts w 0) (s.adapts w 1)

/-- The adaptation of a macro's lanes comes to rest: their codes and taps stay where they are by now. -/
def State.tapsStop (s : State) (m : Nat) : State := (List.range (macroLanes m)).foldl (fun s l => s.tapsMove (4 * m + l)) s

/-- A port's lanes have trained at a rate (R207, R208, R230): each lane has signal and clock recovery; from 8 GT/s on the partner's requests
of equalisation leave its transmitters at free settings (log entry 63). -/
def State.lanesUp (s : State) (p rate : Nat) : State :=
  (portMacros p).foldl (fun s m => (List.range (macroLanes m)).foldl (fun s l =>
    let w := 4 * m + l
    let a := s.fresh
    let s1 := if 3 ≤ rate then
      a.2.sets [(F.TX_FFE_PRESET w, a.1), (F.TX_FFE_C_PRE w, a.1 / 16), (F.TX_FFE_C_POST w, a.1 / 1024)] else s
    if s1.on (F.LN_STAT_RETIRED w) then s1 else s1.sets [(F.LN_STAT_SIGNAL w, 1), (F.LN_STAT_CDR_LOCK w, 1), (F.LN_STAT_ADAPTED w, 1)])
    (s.set (F.MAC_STAT_RATE m) rate)) s

/-- A port's link is down: its lanes have no signal, and what adapted rests (R210, R230). -/
def State.lanesDown (s : State) (p : Nat) : State :=
  (portMacros p).foldl (fun s m => (List.range (macroLanes m)).foldl (fun s l =>
    s.sets [(F.LN_STAT_SIGNAL (4 * m + l), 0), (F.LN_STAT_CDR_LOCK (4 * m + l), 0), (F.LN_STAT_ADAPTED (4 * m + l), 0)]) (s.tapsStop m)) s

/-! ### PLLs (R205-R207) -/

/-- The field that shows a PLL: 0 LOCKED, 1 RECAL, 2 FAILED, 3 OFF. -/
def pllF (m pll : Nat) : Fld := if pll = 0 then F.MAC_STAT_PLL_A m else F.MAC_STAT_PLL_B m

/-- The field that shows a PLL of the clock unit (R413). -/
def clkPllF (pll : Nat) : Fld := if pll = 0 then F.POWER3_CLK_STAT_PLL_A else F.POWER3_CLK_STAT_PLL_B

/-- A PLL has lost lock (R207): it recalibrates, or has failed at its third loss within 24 hours. -/
def State.pllLost (s : State) (m pll : Nat) : State :=
  let x := s.macro m
  let day := 24 * 3600 * 1000000000
  let l := (pll, s.now) :: x.losses.filter (fun e => decide (s.now < e.2 + day))
  let s1 := s.setMacro m { x with losses := l }
  if 3 ≤ (l.filter (fun e => e.1 == pll)).length then
    (((s1.set (pllF m pll) 2).softRecord 8 m pll).laneEv 1 m 0)
  else s1.set (pllF m pll) 1

/-- A dock port's countdown to a rate step starts again at 31 (chapter 9's coincidences). -/
def recount (t : Train) : Train :=
  match t.cd with
  | some (false, _) => { t with cd := some (false, 31) }
  | _ => t

/-- Every lane moves to the other PLL (R206): adaptation rests for 10 us (R210), and a countdown to a rate step starts again. -/
def State.pllSwitch (s : State) (m : Nat) : State :=
  let s1 := s.tapsStop m
  let s2 := ((s1.set (F.MAC_STAT_ACTIVE m) (1 - s1.get (F.MAC_STAT_ACTIVE m))).sat (F.PLL_SW_COUNT_COUNT m)).laneEv 0 m 0
  let s3 := s2.setMacro m { s2.macro m with swAt := some s2.now }
  if m < 64 then s3 else s3.mapLk (m - 64) (fun k => { k with train := recount k.train })

/-- Is no PLL of a macro locked? -/
def State.noPll (s : State) (m : Nat) : Bool := s.get (pllF m 0) != 0 && s.get (pllF m 1) != 0

/-- A program stops at a fault of its macro (R211). -/
def State.seqStop (s : State) (m : Nat) : State :=
  (s.sets [(F.SEQ_STAT_RUNNING m, 0), (F.SEQ_STAT_WAIT_ENGINE m, 0)]).setMacro m { s.macro m with wait := .none, taken := false }

/-! ### The sequencer (R211-R213) -/

/-- The word of a macro's present step. -/
def State.seqWord (s : State) (m : Nat) : Nat := s.get (F.SEQ_STEP_WORD (m * 256 + s.get (F.SEQ_STAT_STEP m)))

/-- Can the sequencer run its present step: it is running, waits for nothing, and is not held by an exit from DEEP? -/
def State.seqReady (s : State) (m : Nat) : Bool :=
  s.on (F.SEQ_STAT_RUNNING m) && !s.on (F.SEQ_STAT_WAIT_ENGINE m) && decide ((s.macro m).wait = .none) && !(s.macro m).held

/-- Go on at a step. -/
def State.seqAt (s : State) (m step : Nat) : State := s.set (F.SEQ_STAT_STEP m) (step % 64)

def State.seqNext (s : State) (m : Nat) : State := s.seqAt m (s.get (F.SEQ_STAT_STEP m) + 1)

/-- Run the present step if its OP is the one named, on its operand. -/
def State.seqOp (s : State) (m op : Nat) (f : State → Nat → State) : State :=
  let w := s.seqWord m
  if s.seqReady m && w / 2 ^ 27 == op then f s (w % 2 ^ 23) else s

/-- The lanes that a step acts on (R212). -/
def State.seqLanes (s : State) (m : Nat) : List Nat := (List.range (macroLanes m)).filter (fun l => hasBit (s.seqWord m) (23 + l))

/-- The engine that owns a macro's sequencer (R211). -/
def State.seqOwner (s : State) (m : Nat) : Nat :=
  if m < 64 then s.tgtEngine 32
  else
    let n := m - 64
    3 + (if n < 8 then bits (s.get F.SERVE_LO_ENG) (4 * n) 4 else bits (s.get F.SERVE_HI_ENG) (4 * (n - 8)) 4)

/-- A transmitter takes a preset (R208): a dock transmitter keeps the one in use for presets 8 to 15. -/
def State.ffe (s : State) (m l preset : Nat) : State :=
  let w := 4 * m + l
  if m < 64 then
    s.sets [(F.TX_FFE_PRESET w, preset), (F.TX_FFE_C_PRE w, (Config.pcieFfe preset).1), (F.TX_FFE_C_POST w, (Config.pcieFfe preset).2)]
  else if 8 ≤ preset then s
  else s.sets [(F.TX_FFE_PRESET w, preset), (F.TX_FFE_C_PRE w, (dockPreset preset).1), (F.TX_FFE_C_POST w, (dockPreset preset).2)]

/-- START (R211). -/
def State.seqStart (s : State) (m step : Nat) : State :=
  (s.sets [(F.SEQ_STAT_RUNNING m, 1), (F.SEQ_STAT_DONE m, 0), (F.SEQ_STAT_WAIT_ENGINE m, 0), (F.SEQ_STAT_STEP m, step)]).setMacro m
    { s.macro m with wait := .none, taken := false }

/-- SEQ_CMD (R212): CONTINUE resumes a waiting ENGINE step. -/
def State.seqContinue (s : State) (m v : Nat) : State :=
  if hasBit v 0 && s.on (F.SEQ_STAT_WAIT_ENGINE m) then
    ((s.set (F.SEQ_STAT_WAIT_ENGINE m) 0).setMacro m { s.macro m with taken := false }).seqAt m (bits v 8 6)
  else s

/-! ### The loupe (R222-R225) -/

/-- The next slice of a lane's audit under way; 0 while none is (R224). -/
def State.auditAt (s : State) (w : Nat) : Nat := tget 0 s.link.audits w

def State.setAudit (s : State) (w k : Nat) : State := s.mapLinks (fun x => { x with audits := tput 0 x.audits w k })

/-- A scan in progress ends early with a code (R223); a GO that an audit holds back ends with it. -/
def State.eyeAbort (s : State) (w code : Nat) : State :=
  if s.on (F.EYE_STAT_BUSY w) then
    s.sets [(F.EYE_STAT_BUSY w, 0), (F.EYE_STAT_ABORT w, code), (F.EYE_CTRL_GO w, 0), (F.LN_STAT_LOUPE w, 0)]
  else if s.get (F.LN_STAT_LOUPE w) = 1 then s.sets [(F.EYE_STAT_ABORT w, if s.on (F.EYE_CTRL_GO w) then code else s.get (F.EYE_STAT_ABORT w)), (F.EYE_CTRL_GO w, 0)]
  else s

/-- The lanes of a port leave link state 0: scans end, and audits rest until it returns (R223, R229). -/
def State.eyesEnd (s : State) (p : Nat) : State :=
  (portMacros p).foldl (fun s m => (List.range (macroLanes m)).foldl (fun s l =>
    let s1 := s.eyeAbort (4 * m + l) 2
    if s1.get (F.LN_STAT_LOUPE (4 * m + l)) = 1 then s1.set (F.LN_STAT_LOUPE (4 * m + l)) 0 else s1) (s.tapsStop m)) s

/-- The measurement starts (R223): the lane must be in link state 0 and carry live traffic or a test pattern; at NRZ the eye is the middle one. -/
def State.eyeStart (s : State) (w : Nat) : State :=
  if s.laneLive (w / 4) && (s.portLive (macroPort (w / 4)) || s.on (F.PRBS_CTRL_CHK_EN w)) then
    s.sets [(F.EYE_CTRL_GO w, 1), (F.EYE_STAT_BUSY w, 1), (F.EYE_STAT_ABORT w, 0), (F.LN_STAT_LOUPE w, 2),
      (F.EYE_CTRL_EYE w, if pam4 (w / 4) (s.get (F.MAC_STAT_RATE (w / 4))) then s.get (F.EYE_CTRL_EYE w) else 1)]
  else s.sets [(F.EYE_CTRL_GO w, 0), (F.EYE_STAT_ABORT w, 2)]

/-- GO (R223): held while an audit is under way, until its present slice is done. -/
def State.eyeGo (s : State) (w : Nat) : State :=
  if s.get (F.LN_STAT_LOUPE w) = 1 then s.set (F.EYE_CTRL_GO w) 1 else s.eyeStart w

/-- The state of a sampler slice: 0 OK, 1 SPARED, 2 FAILED. -/
def State.setSampler (s : State) (w k v : Nat) : State :=
  let x := s.get (F.SLICE_STAT_STATE w)
  s.set (F.SLICE_STAT_STATE w) (x - 4 ^ k * bits x (2 * k) 2 + 4 ^ k * v)

/-- The loupe takes over slice `k` (R225). -/
def State.spare (s : State) (w k : Nat) : State :=
  (((((s.eyeAbort w 1).setAudit w 0).setSampler w k 1).sets [(F.LN_STAT_LOUPE w, 3), (F.LN_STAT_SPARED_SLICE w, k)]).softRecord 7 w k).laneEv 2 (w / 4) (w % 4)

/-- A lane is retired (R225); its port narrows afterwards. -/
def State.retireLane (s : State) (w k : Nat) : State :=
  (((s.setSampler w k 2).set (F.LN_STAT_RETIRED w) 1).softRecord 11 w 0).laneEv 3 (w / 4) (w % 4)

/-- The settings of a port's lanes that wait for link training govern (R4). -/
def State.lanesTake (s : State) (p : Nat) : State :=
  (portMacros p).foldl (fun s m => (List.range (macroLanes m)).foldl (fun s l => s.takeUp (F.LN_CTRL_POL_INV (4 * m + l))) (s.takeUp (F.MAC_CTRL_REF_SEL m))) s

/-- Can a port's link train: the clocks are on the clock unit (R415), and the domains of its link layer and macros are ON? -/
def State.linkable (s : State) (p : Nat) : Bool :=
  s.on F.POWER3_CLK_STAT_ON_PLL && s.pwr.dark.isEmpty && s.domState (88 + p) == 0 && (portMacros p).all (fun m => s.domState (152 + m) == 0)

/-! ### Loops (R228) -/

/-- Is a port of the macro out of service for loops? -/
def State.loopOk (s : State) (m : Nat) : Bool :=
  if m < 32 then !s.on (F.HP_CTRL_EN m)
  else if m < 64 then s.get (F.MP_CTRL_MODE ((m - 32) / 2)) == 0
  else s.get (F.DL_STAT_STAGE (m - 64)) == 0

/-- Is a loop set on a lane of a port? -/
def State.looped (s : State) (p : Nat) : Bool :=
  (portMacros p).any (fun m => (List.range (macroLanes m)).any (fun l => s.get (F.LB_CTRL_MODE (4 * m + l)) != 0))

/-- Does the near end of a lane feed its own receiver (R228)? -/
def State.nearLoop (s : State) (w : Nat) : Bool := s.get (F.LB_CTRL_MODE w) == 1 || s.get (F.LB_CTRL_MODE w) == 2

/-- Is a lane's transmitter held in electrical idle (R212, R220, R225, R230): held so, told so, or retired? -/
def State.txHeld (s : State) (w : Nat) : Bool :=
  !s.on (F.LN_CTRL_TX_EN w) || tget 0 (s.macro (w / 4)).txsrc (w % 4) == 3 || s.on (F.LN_STAT_RETIRED w)

/-- The number of a lane among those of its port. -/
def portLane (w : Nat) : Nat := if 32 ≤ w / 4 ∧ w / 4 < 64 ∧ w / 4 % 2 = 1 then w % 4 + 4 else w % 4

/-- Is a lane's transmitter in electrical idle (R212, R220, R229, R230): held so, asleep with its link, or beyond the width of L0p or NARROW? -/
def State.txIdle (s : State) (w : Nat) : Bool :=
  let st := s.get (F.LSTATE_STATE (macroPort (w / 4)))
  s.txHeld w || decide (2 ≤ st) || (st == 1 && portLane w != 0)

/-- Does a lane's transmitter send what its port gives it, training frames or flits (R212)? -/
def State.txLink (s : State) (w : Nat) : Bool := !s.txHeld w && tget 0 (s.macro (w / 4)).txsrc (w % 4) != 2

/-- Does a lane's generator drive its transmitter or its loop (R226, R228)? -/
def State.genDrives (s : State) (w : Nat) : Bool :=
  s.on (F.PRBS_CTRL_GEN_EN w) &&
    (s.nearLoop w || (s.get (F.LB_CTRL_MODE w) == 0 && tget 0 (s.macro (w / 4)).txsrc (w % 4) == 2 && !s.txIdle w))

/-- The pattern a lane's generator sends (R226): a register's order and feedback mask, or the 64 bits of USER. -/
def State.genPattern (s : State) (w : Nat) : Nat × Nat :=
  let p := s.get (F.PRBS_CTRL_PATTERN w)
  if p = 9 then (64, s.get64 (F.PRBS_USER_LO_BITS w) (F.PRBS_USER_HI_BITS w)) else prbsTaps p

/-- What a lane's generator drives from now on (R226-R228); in a near-end loop the balls are driven only while the transmitter is not idle. -/
def State.genTell (s : State) (w : Nat) : State :=
  s.emit (.pattern (w / 4) (s.ballOf w) (s.genDrives w && !s.txIdle w) (if s.genDrives w then
    some (s.genPattern w, s.on (F.PRBS_CTRL_GEN_INV w), s.get (F.INJ_CTRL_RATE_LOG2 w)) else none))

/-- The checker's counts go on: bits compared, errors, lock, and whether it has been lost. -/
def State.prbsPut (s : State) (w bits errs : Nat) (lock lost : Bool) : State :=
  let n := s.get64 (F.PRBS_BITS_LO_COUNT w) (F.PRBS_BITS_HI_COUNT w) + bits
  ((s.set64 (F.PRBS_BITS_LO_COUNT w) (F.PRBS_BITS_HI_COUNT w) (n % 2 ^ 64)).sat (F.PRBS_ERR_COUNT w) errs).sets
    [(F.PRBS_STAT_LOCK w, b2n lock), (F.PRBS_STAT_LOCK_LOST w, if lost then 1 else s.get (F.PRBS_STAT_LOCK_LOST w))]

/-- What a lane's checker has found by now (R226): how many bits it has compared is a free value, and so are the errors of what comes from outside
(log entry 64). On the lane's own pattern, as sent, in a near-end loop it has lock, and finds one error in 2^RATE_LOG2 bits while errors are injected
(R227); on the inverted pattern it never has 64 error-free bits, and loses the lock it had. Elsewhere it compares bits only once it has
lock, and loses lock when half or more of 2^16 bits are in error, which it must where the errors leave no other way. -/
def State.prbsSeen (s : State) (w : Nat) : State :=
  if !s.on (F.PRBS_CTRL_CHK_EN w) then s
  else
    let bits := s.fresh
    let errs := bits.2.fresh
    let way := errs.2.fresh
    let n := s.get64 (F.PRBS_BITS_LO_COUNT w) (F.PRBS_BITS_HI_COUNT w)
    let was := s.on (F.PRBS_STAT_LOCK w)
    let r := s.get (F.INJ_CTRL_RATE_LOG2 w)
    if s.nearLoop w && s.genDrives w then
      (if s.on (F.PRBS_CTRL_GEN_INV w) = s.on (F.PRBS_CTRL_CHK_INV w) then
        bits.2.prbsPut w bits.1 (if r = 0 then 0 else (n + bits.1) / 2 ^ r - n / 2 ^ r) true false
      else bits.2.prbsPut w (if was then 65536 else 0) (if was then 65536 else 0) false was)
    else
      let got := was || way.1 % 2 == 1
      let b := if got then bits.1 else 0
      let e := errs.1 % (b + 1)
      let must := decide (65536 ≤ b) && decide (b / 65536 * 32768 + b % 65536 ≤ e)
      let lost := got && (must || (decide (32768 ≤ e) && way.1 / 2 % 2 == 1))
      way.2.prbsPut w b e (got && (!lost || way.1 / 4 % 2 == 1)) lost

/-- What a read of the lane window finds as it is by then: adapting taps, and the checker's counts (R210, R226). -/
def State.laneSensed (s : State) (w ro : Nat) : State :=
  if ro = 0x104 ∨ ro = 0x10c ∨ ro = 0x110 ∨ ro = 0x114 ∨ ro = 0x118 then s.tapsMove w
  else if ro = 0x140 ∨ ro = 0x144 ∨ ro = 0x148 then s.prbsSeen w
  else s

/-- h6 to h12 read 0 at NRZ rates (R209). -/
def State.laneRead (s : State) (x : Wr) : Option Nat :=
  if pam4 (x.w / 4) (s.get (F.MAC_STAT_RATE (x.w / 4))) then none
  else if x.ro = 0x114 then some (s.get (F.DFE1_TAPS x.w) % 256)
  else if x.ro = 0x118 then some 0
  else none

/-! ### The lane window (R230) -/

/-- Why a write to the lane window is refused. -/
def State.laneChk (s : State) (x : Wr) : Option Reason :=
  let bad := fun (b : Bool) => if b then some Reason.badValue else none
  if x.ro = 0x40 then bad (decide (64 ≤ x.v % 128) && decide (2 ≤ bits x.v 8 2))
  else if x.ro = 0x80 then bad (hasBit x.v 0 && s.get (pllF x.w (1 - s.get (F.MAC_STAT_ACTIVE x.w))) != 0)
  else if x.ro = 0x8c then bad (hasBit x.v 0 && s.on (F.SEQ_STAT_RUNNING x.w))
  else if x.ro = 0x94 then bad (s.on (F.SEQ_STAT_RUNNING (x.w / 256)))
  else if x.ro = 0x10c ∨ x.ro = 0x110 ∨ x.ro = 0x114 ∨ x.ro = 0x118 then bad (!s.on (F.LN_CTRL_FREEZE x.w))
  else if x.ro = 0x11c then bad (hasBit x.v 31 && s.get (F.LN_STAT_LOUPE x.w) == 3)
  else if x.ro = 0x130 then bad ((bits x.v 8 4 == 7 || bits x.v 8 4 == 8) && !pam4 (x.w / 4) (s.get (F.MAC_STAT_RATE (x.w / 4))))
  else if x.ro = 0x150 then bad (!s.loopOk (x.w / 4))
  else none

/-- What a write to the lane window does beyond storing; `s0` is the state before it. -/
def State.laneFx (s s0 : State) (x : Wr) : State :=
  if x.ro = 0x80 then
    (let s1 := if x.w < 32 then s else (s.set (F.MAC_CTRL_REF_SEL x.w) 0).takeUp (F.MAC_CTRL_REF_SEL x.w)
     if hasBit x.v 0 then (if s.riding then s1.mapPwr (fun p => { p with rtMacs := p.rtMacs ++ [x.w] }) else s1.pllSwitch x.w) else s1)
  else if x.ro = 0x8c then
    (if hasBit x.v 1 then s.seqStop x.w else if hasBit x.v 0 then s.seqStart x.w (bits x.v 16 6) else s)
  else if x.ro = 0x98 then s.seqContinue x.w x.v
  else if x.ro = 0x100 then
    s.tapsTo x.w (s0.adapts x.w 0) (s0.adapts x.w 1)
  else if x.ro = 0x10c ∨ x.ro = 0x110 ∨ x.ro = 0x114 ∨ x.ro = 0x118 then
    s.setMacro (x.w / 4) { s.macro (x.w / 4) with railed := (s.macro (x.w / 4)).railed.filter (fun l => l != x.w % 4 || s.atRail x.w) }
  else if x.ro = 0x11c then
    (if hasBit x.v 30 then s.eyeAbort x.w 3 else if hasBit x.v 31 then s.eyeGo x.w else s)
  else if x.ro = 0x130 then
    (if hasBit x.v 1 then
      s.sets [(F.PRBS_ERR_COUNT x.w, 0), (F.PRBS_BITS_LO_COUNT x.w, 0), (F.PRBS_BITS_HI_COUNT x.w, 0), (F.PRBS_STAT_LOCK x.w, 0)]
     else s).genTell x.w
  else if x.ro = 0x13c then
    (let s0' := if hasBit x.v 8 && s.genDrives x.w then s.emit (.inject (x.w / 4) (s.ballOf x.w)) else s
     let s1 := if hasBit x.v 8 && s.genDrives x.w && s.nearLoop x.w && s.on (F.PRBS_CTRL_CHK_EN x.w) then s0'.sat (F.PRBS_ERR_COUNT x.w) else s0'
     if s.get (F.INJ_CTRL_RATE_LOG2 x.w) = s0.get (F.INJ_CTRL_RATE_LOG2 x.w) then s1 else s1.genTell x.w)
  else if x.ro = 0x150 then
    (if (s.get (F.LB_CTRL_MODE x.w) == 3) = (s0.get (F.LB_CTRL_MODE x.w) == 3) then s.genTell x.w
     else (s.genTell x.w).emit (.farLoop (x.w / 4) (s.ballOf x.w) (s.get (F.LB_CTRL_MODE x.w) == 3)))
  else s

end Sys2Proof.Machine
end

