-- ==== Sys2Proof/Machine/Idle.lean ====
section
/-! DEFINITION. The links' idle states (R129-R131, R195, R196): tolerances, the choice of a state, entries and exits. -/

namespace Sys2Proof.Machine

/-! ### The tolerance of a port (R130) -/

/-- Where the wheel has fixed a held cell's instant, that instant; else T - DLAT_p (R117, R120). -/
def State.timeDue (s : State) (c : Cell) (t : Nat) : Int :=
  match c.wheel with
  | .fine x => x
  | _ => (t : Int) - s.dlat c.dst

/-- The highest speed of an axis, VEL_LIMIT * SCALE (R130), in units of 2^-16 micrometre per 65,536 ms. -/
def State.vmax (s : State) (a : Nat) : Nat := s.get (F.VEL_LIMIT_KCPS a) * s.scale a

/-- The time in ns to the earliest possible release of a cell of an axis for a port (R130): the distance to its release position at the highest
speed. None is left where POS has reached that position; POS that jumped over it has the way back before it. -/
def State.tolAxis (s : State) (p : Nat) (c : Cell) (a : Nat) (pos : Int) (dir : Bool) : Nat :=
  let v := s.vmax a
  let lead : Int := (v * s.dlat p / 65536000000 : Nat)
  let d := if dir then s.pos a - (pos + lead) else pos - lead - s.pos a
  if v = 0 then 0xFFFFFFFF else (if c.jumped then d.natAbs else d.toNat) * 65536000000 / v

/-- The time to the earliest possible release for a port (R130). -/
def State.tolRel (s : State) (p : Nat) : Nat :=
  (s.sw.cells.filter (fun c => decide (c.phase = .held) && c.dst == p)).foldl (fun m c =>
    match c.tag with
    | .none => m
    | .time t => min m (s.timeDue c t - s.now).toNat
    | .axis a pos dir => min m (s.tolAxis p c a pos dir)) 0xFFFFFFFF

/-- TOL_p (R130). -/
def State.tol (s : State) (p : Nat) : Nat :=
  min (min (s.get (F.TOL_CAP_NS p)) (s.get (F.TOL_LTR_NS p)))
    (if s.tolRel p = 0xFFFFFFFF then 0xFFFFFFFF else s.tolRel p - 50000)

/-! ### The choice of a state (R129, R195) -/

/-- EXIT(s) of the link states in ns (R129). -/
def exitNs (p st : Nat) : Nat :=
  if p < 48 then [0, 1000, 4000, 40000, 2000000].getD st 0 else [0, 500, 3000, 1500000].getD st 0

/-- What the partner of an H- or M-port supports (R195): L0p, and L1 with ASPM enabled. -/
def State.partner (s : State) (p : Nat) : LinkCaps := tget ⟨false, false, false⟩ s.port.partner p

/-- Do a port's own enables and its partner allow a link state (R195)? -/
def State.lstateEn (s : State) (p st : Nat) : Bool :=
  if p < 32 then (if st = 1 then s.on (F.HP_CTRL_L0P_EN p) && (s.partner p).l0p else s.on (F.HP_CTRL_L1_EN p) && (s.partner p).aspm)
  else if p < 48 then
    (if st = 1 then s.on (F.MP_CTRL_L0P_EN (p - 32)) && (s.partner p).l0p else s.on (F.MP_CTRL_L1_EN (p - 32)) && (s.partner p).aspm)
  else true

/-- The deepest link state allowed for a port (R129, R195). -/
def State.deepest (s : State) (p : Nat) : Nat :=
  let g := if 1 ≤ s.get F.LADDER_LEVEL then 0 else s.get F.GOV_CTRL_GUARD_PCT
  let deep := if p < 48 then s.on F.GOV_CTRL_ALLOW_DEEP_HM else s.on F.GOV_CTRL_ALLOW_DEEP_D
  let last := if p < 48 then 4 else 3
  (List.range (last + 1)).foldl (fun d st =>
    if (st == 0 || s.lstateEn p st) && (st != last || deep) && decide (exitNs p st * (100 + g) / 100 ≤ s.tol p) then st else d) 0

/-! ### Entry and exit (R129, R131, R196, R229) -/

/-- The PLLs of a port's macros take a state as DEEP is entered or left (R229): 0 locked, 1 powered and not yet locked, 3 off; a failed one stays
failed. -/
def State.pllPower (s : State) (p v : Nat) : State :=
  (portMacros p).foldl (fun s m => [0, 1].foldl (fun s k => if s.get (pllF m k) = 2 then s else s.set (pllF m k) v) s) s

/-- Signal and clock recovery of a port's lanes are lost with their bias, or back with it (R229). -/
def State.lanesBias (s : State) (p : Nat) (on : Bool) : State :=
  (portMacros p).foldl (fun s m => (List.range (macroLanes m)).foldl (fun s l =>
    if s.on (F.LN_STAT_RETIRED (4 * m + l)) then s else s.sets [(F.LN_STAT_SIGNAL (4 * m + l), b2n on), (F.LN_STAT_CDR_LOCK (4 * m + l), b2n on)]) s) s

/-- The deepest link state of a port: DEEP. -/
def deepOf (p : Nat) : Nat := if p < 48 then 4 else 3

/-- What a link state other than 0 does to a port's lanes (R223, R229): scans end; in L1.2 and DEEP the bias is off, in DEEP the PLLs as well. -/
def State.lanesSleep (s : State) (p st : Nat) : State :=
  let s1 := if 3 ≤ st then (s.eyesEnd p).lanesBias p false else s.eyesEnd p
  if st = deepOf p then s1.pllPower p 3 else s1

/-- A link state is in force at a port; an H- or M-port's lanes that leave L1.2 or DEEP have their bias again (R229). -/
def State.showLState (s : State) (p st : Nat) : State :=
  let s1 := (if p < 48 ∧ st < 3 ∧ 3 ≤ s.get (F.LSTATE_STATE p) then s.lanesBias p true else s).set (F.LSTATE_STATE p) st
  if p < 32 then s1.set (F.HP_STAT_LSTATE p) st else if p < 48 then s1.set (F.MP_STAT_LSTATE (p - 32)) st else s1

/-- A sequencer program that an exit from DEEP held goes on (R229). -/
def State.seqFree (s : State) (m : Nat) : State := s.setMacro m { s.macro m with held := false }

/-- An exit from DEEP is over: both PLLs of the port's macros are locked, and programs go on (R205, R229). -/
def State.deepOver (s : State) (p : Nat) : State := (portMacros p).foldl State.seqFree (s.pllPower p 0)

/-- A low-power state ends with the link (R205): outside DEEP both PLLs stay locked. -/
def State.lowEnd (s : State) (p : Nat) : State :=
  let s1 := if s.get (F.LSTATE_STATE p) = deepOf p then s.deepOver p else s
  (s1.mapLinks (fun k => { k with deepX := k.deepX.filter (fun x => x != p) })).showLState p 0

/-- A port stands in link state 0 again. -/
def State.linkAwake (s : State) (p : Nat) : State := (s.sets [(F.LSTATE_IDLE p, 0), (F.LSTATE_TARGET p, 0)]).showLState p 0

/-- The first step of an exit from DEEP (R229): the PLLs are powered, and running sequencer programs are held until they are locked. -/
def State.deepLeave (s : State) (p : Nat) : State :=
  (portMacros p).foldl (fun s m => s.setMacro m { s.macro m with held := s.on (F.SEQ_STAT_RUNNING m) }) (s.pllPower p 1)

/-- An H- or M-port's exit from DEEP begins (R229): it is staged. -/
def State.stageExit (s : State) (p : Nat) : State :=
  if s.link.deepX.contains p then s else (s.mapLinks (fun k => { k with deepX := k.deepX ++ [p] })).deepLeave p

/-- An H- or M-port leaves its low-power state (R129, R131, R196): exits that cross merge; from DEEP the exit is staged. -/
def State.exitLink (s : State) (p : Nat) : State :=
  if s.get (F.LSTATE_STATE p) = 0 then s
  else if s.get (F.LSTATE_STATE p) = 4 then ((s.set (F.LSTATE_IDLE p) 0).set (F.LSTATE_TARGET p) 0).stageExit p
  else s.linkAwake p

/-- The staged exit of an H- or M-port from DEEP ends with the link in L0 (R229). -/
def State.deepDone (s : State) (p : Nat) : State :=
  if s.link.deepX.contains p then
    (((s.mapLinks (fun k => { k with deepX := k.deepX.filter (fun x => x != p) })).deepOver p).set (F.LSTATE_TARGET p) 0).showLState p 0
  else s

/-- An H- or M-port takes the state chosen for it (R129): at once, but from DEEP by the staged exit. -/
def State.enterLState (s : State) (p d : Nat) : State :=
  if s.get (F.LSTATE_STATE p) = 4 ∧ d ≠ 4 then s.stageExit p
  else if d = 0 then s.showLState p 0
  else (s.lanesSleep p d).showLState p d

/-- Re-select a port's link state (R129): only an idle link leaves state 0; in ride-through no entry starts (R409); an H- or
M-port takes the state, once an exit that runs has ended, a dock port asks its partner (R254). -/
def State.selectState (s : State) (p : Nat) : State :=
  let d := if s.on F.GOV_CTRL_EN && s.on (F.LSTATE_IDLE p) then s.deepest p else 0
  if d ≠ 0 ∧ s.on F.RT_STAT_ACTIVE ∨ s.link.deepX.contains p then s
  else
    let s1 := s.set (F.LSTATE_TARGET p) d
    let s2 := if p < 48 then s1.enterLState p d else s1
    if d = s.get (F.LSTATE_TARGET p) then s2 else s2.emit (.linkState p d)

/-- The link of a port is in use: one that is not in state 0 starts its exit at once (R129). -/
def State.wakeLink (s : State) (p : Nat) : State :=
  if p < 64 then (s.set (F.LSTATE_IDLE p) 0).selectState p else s

/-- The tolerances of the ports that held cells wait for have changed (R130). -/
def State.reselectHeld (s : State) : State :=
  ((s.sw.cells.filter (fun c => decide (c.phase = .held) && decide (c.dst < 64))).map (fun c => c.dst)).eraseDups.foldl State.selectState s

/-! ### The core as a whole (R9, R405, R106) -/

/-- The output was crossed to now (R129). -/
def State.outUsed (s : State) (p : Nat) : State := { s with sw := { s.sw with outAt := tset s.sw.outAt p s.now } }

/-- A cell arrives while the VAT domain is not ON (R405): its exit starts at once, and the link holds the sender back. -/
def State.vatWakes (s : State) : State :=
  if s.domState 9 = 1 ∨ s.domState 9 = 2 then
    (s.mapPwr (fun p => { p with trans := tset p.trans 9 (4 * s.domState 9) })).sets [(F.DOM_STAT_STATE 9, 3), (F.DOM_STAT_DEFERRED 9, 1)]
  else s

/-- Does no input port take traffic now: the VAT domain is not ON (R405), or no plane is left (R106's table)? -/
def State.shut (s : State) : Bool := s.domState 9 != 0 || s.sw.stopped

/-- Traffic of an input port is held back while none is taken: its sender keeps it; a VAT domain that sleeps wakes (R405). -/
def State.shutOut (s : State) (p : Nat) : State := s.vatWakes.emit (.heldBack p)

/-- The cells of a message of some bytes (R81). -/
def cellsOf (bytes : Nat) : Nat := max 1 ((bytes + 255) / 256)

/-- A message enters at a port whose command carries it across the core at once (R9, R108; it stands in no queue, DESIGN CHOICE, log
entry 57). -/
def State.cellsIn (s : State) (p bytes : Nat) : State := s.wrap (F.CELLS_IN_COUNT p) (cellsOf bytes)

/-- A message leaves at a port in the command that carries it across the core: its link is in use and wakes (R108, R129). -/
def State.cellsOut (s : State) (p bytes : Nat) : State := ((s.wrap (F.CELLS_OUT_COUNT p) (cellsOf bytes)).outUsed p).wakeLink p

end Sys2Proof.Machine
end

