-- ==== Sys2Proof/Machine/Events.lean ====
section
/-! DEFINITION. The event unit's operations behind chapter 16's commands (R369-R380). -/

namespace Sys2Proof.Machine

/-- The held events, in ascending order (R373). -/
def State.heldEvents (s : State) : List Nat := (s.sig.ev.recs.filter (fun e => e.2.held)).map (fun e => e.1)

/-- Can a held event go out: are deliveries on, and is any target of its set enabled (R373, R381)? -/
def State.canGo (s : State) (ev : Nat) : Bool := s.on F.EV_CTRL_EN && (s.pick (s.get (F.EV_ROUTE_SET ev))).isSome

/-- The held events among those of `p` that can go out are delivered, the fast class first, each class in ascending event
number (R370, R373). -/
def State.retryHeld (s : State) (p : Nat → Bool) : State :=
  let l := s.heldEvents.filter p
  ((l.filter s.fastNow) ++ (l.filter (fun ev => !s.fastNow ev))).foldl (fun s ev => if s.canGo ev then s.redeliver ev else s) s

/-- A target has become enabled: the held events whose set names it go out (R373). -/
def State.deliverHeld (s : State) (t : Nat) : State :=
  s.retryHeld (fun ev => hasBit (s.setMask (s.get (F.EV_ROUTE_SET ev))) t)

/-- The events of a list in ascending event number (R370). -/
def State.ordered (s : State) (l : List Nat) : List Nat := (s.sig.ev.recs.map (fun e => e.1)).filter (fun e => l.contains e)

/-- A target is no longer enabled: its pending events are re-delivered or held, and so are the events in service at a host
that is lost (R380's table); the events in service at another target stay there. Each keeps
the class it was delivered in, since EVT_FAST has no effect on an event already delivered (R370; DEDUCED, log 27). -/
def State.dropTarget (s : State) (t : Nat) : State :=
  let g := s.tgt t
  let lost := decide (t < 32) && !s.present t
  let s1 := s.setTgt t { g with pendN := [], pendF := [], backN := if lost then [] else g.backN, backF := if lost then [] else g.backF,
                                servN := if lost then [] else g.servN, servF := if lost then [] else g.servF }
  (s.ordered (g.pendN ++ if lost then g.backN ++ g.servN else [])).foldl (State.redeliverAs · false)
    ((s.ordered (g.pendF ++ if lost then g.backF ++ g.servF else [])).foldl (State.redeliverAs · true) s1)

/-- A target's enable or presence has changed (R371, R373). -/
def State.retarget (s : State) (t : Nat) : State := if s.tgtEnabled t then s.deliverHeld t else s.dropTarget t

/-- The highest event of a set. -/
def highest (l : List Nat) : Nat := l.foldl max 0

/-- A claim read by the page's owner (R377): the value returned, and the state after it. -/
def State.claim (s : State) (t : Nat) (fast : Bool) : Nat × State :=
  let g := s.tgt t
  let l := if fast then g.pendF else g.pendN
  if l.isEmpty then (0, s)
  else
    let ev := highest l
    let g' := if fast then { g with pendF := l.erase ev, servF := ev :: g.servF }
              else { g with pendN := l.erase ev, servN := ev :: g.servN }
    (2 ^ 31 + ev, (s.setTgt t g').setEv ev { s.evRec ev with phase := .inService })

/-- A completion (R377): the event's service ends; one delivered meanwhile becomes pending; the request is raised while
events stay pending. -/
def State.completeEv (s : State) (t : Nat) (fast : Bool) (ev : Nat) : State :=
  let g := s.tgt t
  if (if fast then g.servF else g.servN).contains ev then
    let back := (if fast then g.backF else g.backN).contains ev
    let g' := if fast then { g with servF := g.servF.erase ev, backF := g.backF.erase ev,
                                    pendF := if back then ev :: g.pendF.erase ev else g.pendF }
              else { g with servN := g.servN.erase ev, backN := g.backN.erase ev,
                            pendN := if back then ev :: g.pendN.erase ev else g.pendN }
    let s1 := (s.setTgt t g').setEv ev { s.evRec ev with phase := if back then .pending else if (s.evRec ev).held then .held else .idle }
    if (if fast then g'.pendF else g'.pendN).isEmpty then s1 else s1.request t fast
  else s

/-- The requester a target page belongs to (R378). -/
def claimOwner (s : State) (t : Nat) (p : Path) : Bool := s.get (hOwner (0xC0000 + 0x1000 * t)) == pathCode p

/-- The events that EVT_EN newly enables while their EVT_STAT bits stand (R369), or that EN lets through again (R23). -/
def State.enabledNow (s : State) (pg mask : Nat) : List Nat :=
  (List.range 32).filterMap (fun b =>
    if hasBit mask b then (evOf pg b).filter (fun ev => s.evStat ev) else none)

/-- EVT_EN is written (R369). -/
def State.writeEvtEn (s : State) (pg v : Nat) : State :=
  let old := s.get (hEvtEn pg)
  let s1 := s.set (hEvtEn pg) v
  if s.on (hEn pg) then
    (s1.enabledNow pg ((List.range 32).foldl (fun m b => if hasBit v b && !hasBit old b then m + 2 ^ b else m) 0)).foldl State.redeliver s1
  else s1

/-- PAGE_CTRL.EN is written (R23): on return to 1 every pending, enabled event of the page is delivered. -/
def State.writeEn (s : State) (pg : Nat) (en : Bool) : State :=
  let s1 := s.put (hEn pg) en
  if en && !s.on (hEn pg) then (s1.enabledNow pg (s1.get (hEvtEn pg))).foldl State.redeliver s1 else s1

/-- EVT_STAT bits are cleared by a write of 1 (R1, R369). -/
def State.clearEvtStat (s : State) (pg v : Nat) : State :=
  (List.range 32).foldl (fun s b =>
    if hasBit v b then
      match evOf pg b with
      | some ev => if s.evStat ev then s.setEv ev { s.evRec ev with stat := false } else s
      | none => s
    else s) s

/-- EV_ROUTE.SET is written (R373): a held event moves to its new set. -/
def State.routed (s : State) (ev : Nat) : State :=
  if (s.evRec ev).held ∧ s.canGo ev then s.redeliver ev else s

/-- A consumer has read records of its ring (R376): the request is raised again while records remain. -/
def State.consumed (s : State) (h : Nat) : State := if s.unread h = 0 then s else s.request h false

/-- MSI-X Enable rises (R379): one message on each vector whose condition stands. -/
def State.msixOn (s : State) (h : Nat) : State :=
  let s1 := s.setTgt h { s.tgt h with msix := true }
  let s2 := if !(s1.tgt h).pendN.isEmpty || s1.unread h != 0 then s1.request h false else s1
  if !(s2.tgt h).pendF.isEmpty then s2.request h true else s2

/-- Does the condition of a vector of a host stand (R379)? -/
def State.vecStands (s : State) (h v : Nat) : Bool :=
  (s.get (F.TGT_CTRL_VEC_N h) == v && (!(s.tgt h).pendN.isEmpty || s.unread h != 0)) ||
  (s.get (F.TGT_CTRL_VEC_F h) == v && !(s.tgt h).pendF.isEmpty)

/-- A vector may have been unmasked (R379, PCIe 7.0): its pending bit is cleared, and its message sent where its condition still stands. -/
def State.unmaskVec (s : State) (h v : Nat) : State :=
  let x := tget {} (s.tgt h).vecs v
  if (s.tgt h).msix && !(s.tgt h).fmask && !x.masked && x.pend then
    let s1 := s.setTgt h { s.tgt h with vecs := tset (s.tgt h).vecs v { x with pend := false } }
    if s1.vecStands h v then s1.sendVec h v else s1
  else s

/-- A host acts on its MSI-X capability (R184, R379). -/
def State.msixAct (s : State) (h : Nat) : MsixAct → State
  | .enable on => if on then (if (s.tgt h).msix then s else s.msixOn h) else s.setTgt h { s.tgt h with msix := false }
  | .mask on => (List.range 64).foldl (fun s v => s.unmaskVec h v) (s.setTgt h { s.tgt h with fmask := on })
  | .entry v a d m => (s.setTgt h { s.tgt h with
      vecs := tset (s.tgt h).vecs v { tget {} (s.tgt h).vecs v with addr := a.toNat, data := d.toNat, masked := m } }).unmaskVec h v

/-- The event of a pin filter (R380). -/
def pinEvent (i : Nat) : Nat := if i = 0 then 8 else 39 + i

end Sys2Proof.Machine
end

