-- ==== Sys2Proof/Machine/Mailbox.lean ====
section
/-! DEFINITION. The mailboxes' command and event rings (R42-R47, R376): what the MAILBOX commands do. -/

namespace Sys2Proof.Machine

/-- A ring base with the bits below the ring's size read as 0 (R42, MAILBOX field table). -/
def ringBase (addr size : Nat) : Nat := addr / size * size

/-- The RING_HALTED record of a sequence break (R45). -/
def haltRecord (found expected addr : Nat) : Rec :=
  { seq := 0, typ := 3, source := 70, ref := found, status := expected, addr := addr, data := 0 }

/-- The SEQ the next entry must carry (R45). -/
def Mail.nextSeq (m : Mail) : Nat := (m.lastSeq + 1) % 2 ^ 32

/-- The hub reads one posted entry (R45): it starts, or a sequence break halts the ring. During an orderly shutdown a command is refused
with error 11, SHUTDOWN (R447). -/
def State.readEntry (s : State) (h : Nat) (c : CmdHead) : State :=
  let m := s.mail h
  if m.halted then s
  else if c.seq.toNat = m.nextSeq then
    let s1 := s.setMail h { m with read := (m.read + 1) % 2 ^ 32, lastSeq := m.nextSeq, running := m.running ++ [c], posted := m.posted.erase c }
    if s.rep.run then s1.complete h c.seq.toNat 11 0 else s1
  else
    ((s.setMail h { m with halted := true }).raise (64 + 2 * h)).postRec h
      (haltRecord c.seq.toNat m.nextSeq (m.cmdBase + 64 * (m.read % 2 ^ m.cmdLog2)))

/-- May the hub read command entries of a host: CMD_EN is 1 and its H-port is up? -/
def State.cmdReads (s : State) (h : Nat) : Bool := s.on (F.RING_CTRL_CMD_EN h) && s.get (F.HP_STAT_LINK h) == 2

/-- Read the posted entries in ring order, up to the count posted (R45). -/
def State.readPosted (s : State) (h : Nat) : State :=
  if s.cmdReads h then
    let n := (s.get (F.CMD_POST_COUNT h) + 2 ^ 32 - (s.mail h).read) % 2 ^ 32
    ((s.mail h).posted.take n).foldl (fun s c => s.readEntry h c) s
  else s

/-- Entries are posted: CMD_POST has been written, and their heads lie in the host's ring (R45). -/
def State.post (s : State) (h : Nat) (l : List CmdHead) : State :=
  (s.setMail h { s.mail h with posted := (s.mail h).posted ++ l }).readPosted h

/-- The command ring takes its base and size registers (R47). -/
def State.takeCmdRing (s : State) (h : Nat) : State :=
  let k := s.get (F.CMD_SIZE_LOG2 h)
  (((s.takeUp (F.CMD_BASE_LO_ADDR h)).takeUp (F.CMD_BASE_HI_ADDR h)).takeUp (F.CMD_SIZE_LOG2 h)).setMail h
    { s.mail h with cmdBase := ringBase (s.get64 (F.CMD_BASE_LO_ADDR h) (F.CMD_BASE_HI_ADDR h)) (64 * 2 ^ k), cmdLog2 := k }

/-- The event ring takes its base and size registers (R47). -/
def State.takeEvtRing (s : State) (h : Nat) : State :=
  let k := s.get (F.EVT_SIZE_LOG2 h)
  (((s.takeUp (F.EVT_BASE_LO_ADDR h)).takeUp (F.EVT_BASE_HI_ADDR h)).takeUp (F.EVT_SIZE_LOG2 h)).setMail h
    { s.mail h with evtBase := ringBase (s.get64 (F.EVT_BASE_LO_ADDR h) (F.EVT_BASE_HI_ADDR h)) (32 * 2 ^ k), evtLog2 := k }

/-- RING_CTRL.RESTART (R47): unread entries are abandoned, and both rings take their registers. -/
def State.restart (s : State) (h : Nat) : State :=
  let s1 := s.setMail h { s.mail h with posted := [], read := s.get (F.CMD_POST_COUNT h), halted := false }
  (s1.takeCmdRing h).takeEvtRing h

/-- RING_CTRL is written (R47): the enable bits stand in the state already, `s0` is the state before. -/
def State.ringCtrl (s s0 : State) (h : Nat) (restart : Bool) : State :=
  let s1 := if s.on (F.RING_CTRL_CMD_EN h) && !s0.on (F.RING_CTRL_CMD_EN h) then s.takeCmdRing h else s
  let s2 := if s.on (F.RING_CTRL_EVT_EN h) && !s0.on (F.RING_CTRL_EVT_EN h) then s1.takeEvtRing h else s1
  (if restart then s2.restart h else s2).readPosted h

/-- RESYNC is written (R47): a write clears VALID, and one of GO latches the counts and sets it. -/
def State.resync (s : State) (h : Nat) (go : Bool) : State :=
  let m := s.mail h
  if go then
    s.setMail h { m with rsDone := m.done, rsEvt := m.evtSeq, rsCfg := s.get F.CFG_SEQ_COUNT, rsValid := true }
  else s.setMail h { m with rsValid := false }

/-- The effect of a stored write to a MAILBOX register. -/
def State.mailFx (s s0 : State) (x : Wr) : State :=
  if x.ro = 0x40 then s.ringCtrl s0 x.n (hasBit x.v 2)
  else if x.ro = 0x5c then s.post x.n []
  else if x.ro = 0x68 then s.consumed x.n
  else if x.ro = 0x78 then s.resync x.n (hasBit x.v 0)
  else s

/-- The MAILBOX registers that are formed at the read. -/
def State.mailRead (s : State) (x : Wr) : Option Nat :=
  let m := s.mail x.n
  if x.ro = 0x44 then some (ringBase (s.get (F.CMD_BASE_LO_ADDR x.n)) (64 * 2 ^ s.get (F.CMD_SIZE_LOG2 x.n)))
  else if x.ro = 0x50 then some (ringBase (s.get (F.EVT_BASE_LO_ADDR x.n)) (32 * 2 ^ s.get (F.EVT_SIZE_LOG2 x.n)))
  else if x.ro = 0x60 then some m.done
  else if x.ro = 0x64 then some (b2n m.halted + 2 * b2n (!m.running.isEmpty))
  else if x.ro = 0x6c then some m.evtSeq
  else if x.ro = 0x70 then some m.written
  else if x.ro = 0x74 then some m.dropped
  else if x.ro = 0x7c then some m.rsDone
  else if x.ro = 0x80 then some m.rsEvt
  else if x.ro = 0x84 then some m.rsCfg
  else if x.ro = 0x88 then some (b2n m.rsValid)
  else none

/-- The running command of a host under a sequence number, if its opcode is the given one. -/
def State.runs (s : State) (h seq op : Nat) : Bool :=
  match s.running? h seq with
  | some c => c.opcode.toNat == op
  | none => false

end Sys2Proof.Machine
end

