-- ==== Sys2Proof/Machine/Guard.lean ====
section
/-! DEFINITION. The memory guard's operations (R169-R183), and the numbering, failure and fencing of writes (R197, R198). -/

namespace Sys2Proof.Machine

def State.mapPort (s : State) (f : PortSt → PortSt) : State := { s with port := f s.port }

def State.mapPool (s : State) (f : PoolSt → PoolSt) : State := { s with pool := f s.pool }

def State.mapGd (s : State) (f : GuardSt → GuardSt) : State := { s with gd := f s.gd }

/-! ### Initiators and their write numbers (R170, R197) -/

def State.fnSlot (s : State) (x : Nat) : FnSlot := tget {} s.port.slots x

def State.setFn (s : State) (x : Nat) (r : FnSlot) : State := s.mapPort (fun p => { p with slots := tset p.slots x r })

/-- The host whose event ring takes an initiator's late write errors (R197). -/
def State.errHost (s : State) (init : Nat) : Option Nat :=
  if init < 32 then some init else if 64 ≤ init then (s.fnSlot (init - 64)).bound.map (fun b => b.1) else none

/-- The next ingress sequence number of an initiator. -/
def State.nextSeq (s : State) (init : Nat) : Nat :=
  if init < 32 then s.get (F.HP_SEQ_SEQ init) else tget 0 s.port.seqs init

/-- An initiator takes an ingress sequence number. -/
def State.takeSeq (s : State) (init : Nat) : State :=
  if init < 32 then s.wrap (F.HP_SEQ_SEQ init)
  else
    let n := (s.nextSeq init + 1) % 2 ^ 32
    let s1 := s.mapPort (fun p => { p with seqs := tset p.seqs init n })
    match (s.fnSlot (init - 64)).bound with
    | some (h, d) => s1.set (F.VDSP_SEQ_SEQ h d) n
    | none => s1

/-- A LATE_WRITE_ERROR record (R44, R174, R197), its count and its event. -/
def State.lateWrite (s : State) (init seq target reason len addr : Nat) : State :=
  match s.errHost init with
  | none => s
  | some h =>
    ((s.postRec h { seq := 0, typ := 2, source := init, ref := seq, status := reason + 256 * target + 65536 * len,
                    addr := addr, data := 0 }).sat (F.HP_LWE_COUNT_COUNT h)).raise (258 + 32 * h)

/-- One more part of a numbered write is under way to a target. -/
def State.trackAdd (s : State) (init seq target : Nat) : State :=
  s.mapPort (fun p =>
    if p.wtrack.any (fun t => t.init == init && t.seq == seq && t.target == target) then
      { p with wtrack := p.wtrack.map (fun t =>
          if t.init = init ∧ t.seq = seq ∧ t.target = target then { t with left := t.left + 1 } else t) }
    else { p with wtrack := p.wtrack ++ [⟨init, seq, target, 1, 0, 0, 0⟩] })

/-- A part of a numbered write has been delivered or has failed. -/
def State.trackDone (s : State) (init seq target : Nat) : State :=
  s.mapPort (fun p => { p with wtrack := (p.wtrack.map (fun t =>
    if t.init = init ∧ t.seq = seq ∧ t.target = target then { t with left := t.left - 1 } else t)).filter (fun t => t.left != 0) })

/-- Writes that a check point holds are under way, by initiator, number and target; or no longer. -/
def State.trackAll (s : State) (l : List (Nat × Nat × Nat)) : State := l.foldl (fun s t => s.trackAdd t.1 t.2.1 t.2.2) s

def State.trackNone (s : State) (l : List (Nat × Nat × Nat)) : State := l.foldl (fun s t => s.trackDone t.1 t.2.1 t.2.2) s

/-- A write fails (R197, R198): reported, and counted for later fences. -/
def State.failWrite (s : State) (init seq target reason len addr : Nat) : State :=
  (s.lateWrite init seq target reason len addr).mapPort (fun p =>
    if p.fails.any (fun t => t.init == init && t.seq == seq && t.target == target) then p
    else { p with fails := p.fails ++ [⟨init, seq, target⟩] })

/-! ### Colours and masks (R169-R172) -/

/-- The colour in a table of changes at a granule. -/
def colourAt (t : Tbl Nat) (g : Nat) : Nat := t.foldl (fun c e => if e.1 ≤ g then e.2 else c) 0

/-- The colour of a granule (R169). -/
def State.colour (s : State) (g : Nat) : Nat := colourAt s.gd.colours g

/-- `n` granules from `g` upward take a colour (R178); a bad entry rewritten is good again (R176). -/
def State.fill (s : State) (g n c : Nat) : State :=
  s.mapGd (fun d =>
    let after := colourAt d.colours (g + n)
    { d with colours := tset (tset (d.colours.filter (fun e => decide (e.1 < g) || decide (g + n ≤ e.1))) (g + n) after) g c,
             bad := d.bad.filter (fun x => decide (x < g) || decide (g + n ≤ x)),
             upset := d.upset.filter (fun e => decide (e.1 < g) || decide (g + n ≤ e.1)) })

/-- The bit of an initiator's read or write mask for a colour (R171). -/
def State.mayUse (s : State) (init : Nat) (wr : Bool) (c : Nat) : Bool :=
  hasBit (s.get (if wr then F.WMASK_COLOURS init (c / 32) else F.RMASK_COLOURS init (c / 32))) (c % 32)

/-- LOG_INFO.REASON of a refusal, or none where the access is allowed (R171, R172, R176). -/
def State.denied (s : State) (init : Nat) (rd wr atomic : Bool) (addr : Nat) : Option Nat :=
  let g := addr / 2097152
  let c := s.colour g
  if s.gd.bad.contains g then some 5
  else if atomic then (if s.mayUse init false c && s.mayUse init true c then none else some 3)
  else if rd && !s.mayUse init false c then some 1
  else if wr && !s.mayUse init true c then some 2
  else none

/-- A refusal is counted and logged (R182); `op` is LOG_INFO.OP, `kind` 0 a read, 1 a write, 2 an atomic operation. -/
def State.logRefusal (s : State) (init op reason addr len seq kind : Nat) : State :=
  let s1 := (s.sat (if kind = 0 then F.VIOL_COUNT_R_COUNT else if kind = 1 then F.VIOL_COUNT_W_COUNT else F.VIOL_COUNT_A_COUNT)).sat
    (F.INIT_VIOL_COUNT init)
  let fill := s1.get F.LOG_STAT_FILL
  if fill = 16 ∧ s1.on F.GUARD_CTRL_LOG_FREEZE then s1.sat F.LOG_LOST_COUNT
  else
    let i := s1.get F.LOG_STAT_NEXT
    let s2 := s1.sets [(F.LOG_INFO_COLOUR i, if reason = 5 then 0 else s.colour (addr / 2097152)), (F.LOG_INFO_REASON i, reason),
      (F.LOG_INFO_OP i, op), (F.LOG_INFO_INIT i, init), (F.LOG_ADDR_LO_ADDR i, addr), (F.LOG_ADDR_HI_ADDR i, addr / 2 ^ 32),
      (F.LOG_LEN_BYTES i, len), (F.LOG_TIME_LO_NS i, s.now), (F.LOG_TIME_HI_NS i, s.now / 2 ^ 32), (F.LOG_SEQ_SEQ i, seq),
      (F.LOG_STAT_NEXT, i + 1), (F.LOG_STAT_FILL, min 16 (fill + 1))]
    (s2.raise 2948).raiseIf (fill == 16) 2949

/-- A colour entry is found uncorrectable (R176). -/
def State.badColour (s : State) (g : Nat) : State :=
  (((s.mapGd (fun d => { d with bad := g :: d.bad.erase g })).sat F.COL_ECC_COUNT_COUNT).set F.COL_ECC_GRAN_GRAN g).raise 2946

/-- What SECDED finds in a granule's colour entry (R176): one newly bad is reported; a corrected one is rewritten in place, and counted, in no
register of the spec. -/
def State.colourFound (s : State) (g : Nat) : EccFind → State
  | .good => s
  | .corrected => s.mapGd (fun d => { d with corr := d.corr + 1 })
  | .bad => if s.gd.bad.contains g then s else s.badColour g

/-- A check reads a granule's colour entry, and finds what an upset has left there. -/
def State.colourSeen (s : State) (g : Nat) : State :=
  (s.colourFound g (tget .good s.gd.upset g)).mapGd (fun d => { d with upset := tdel d.upset g })

/-- Upsets hit colour entries. -/
def State.colourUpset (s : State) (l : List (BitVec 24 × EccFind)) : State :=
  s.mapGd (fun d => { d with upset := l.foldl (fun t e => tput .good t e.1.toNat e.2) d.upset })

end Sys2Proof.Machine
end

