-- ==== Sys2Proof/Machine/PoolDest.lean ====
section
/-! DEFINITION. What the pool's answers do at scan-out (initiator 32) and the bridge (initiator 33) (R344, R362), and how a frame is
abandoned (R345). -/

namespace Sys2Proof.Machine

def State.eng (s : State) (n : Nat) : ScanEng := tget {} s.scan.engs n

def State.setEng (s : State) (n : Nat) (x : ScanEng) : State := { s with scan := { s.scan with engs := tset s.scan.engs n x } }

def State.mapEng (s : State) (n : Nat) (f : ScanEng → ScanEng) : State := s.setEng n (f (s.eng n))

/-- Event k of a scan-out page (R347). -/
def soEv (n k : Nat) : Nat := 3328 + 32 * n + k

/-- A fetch has failed (R344): cause 1 POISON, 2 GUARD. The layer is left out for the rest of the frame, after a guard refusal until L_CTRL
is written. -/
def State.scanError (s : State) (n l cause : Nat) : State :=
  let s1 := ((s.sets [(F.L_STAT_OFF n l, 1), (F.L_STAT_CAUSE n l, cause)]).sat (F.L_STAT_ERR_COUNT n l)).raise (soEv n (12 + l))
  let s2 := if cause = 2 then s1.set (F.L_STAT_HELD n l) 1 else s1
  s2.mapEng n (fun x => { x with buf := x.buf.filter (fun f => f.layer != l) })

/-- A fetch is answered. -/
def State.scanAnswer (s : State) (tag : Nat) (d : Option (BitVec 512 × Bool)) : State :=
  let n := tag % 8
  match (s.eng n).buf.find? (fun f => f.tag == tag) with
  | none => s
  | some f => match d with
    | none => s.scanError n f.layer 2
    | some (_, true) => s.scanError n f.layer 1
    | some (v, false) => s.mapEng n (fun x => { x with buf := x.buf.map (fun g => if g.tag = tag then { g with data := some v } else g) })

/-- A mirror write of a poll is refused by the guard (R362, R365): the poll fails with GUARD. -/
def State.pollGuard (s : State) : State :=
  (((s.sat F.BR_FAIL_COUNT_COUNT).sets [(F.BR_LOG_REASON, 10), (F.BR_LOG_PORT, 65)]).raise 3584).raise 3601

/-- An answer of the pool to scan-out or the bridge. -/
def State.poolAnswer (s : State) (init tag : Nat) (d : Option (BitVec 512 × Bool)) : State :=
  let s1 := s.emit (.poolReply init tag d)
  if init = 32 then s1.scanAnswer tag d
  else if init = 33 ∧ d.isNone then s1.pollGuard
  else s1

/-- Does an engine send a frame to a dock port's sink? -/
def State.scanOn (s : State) (e n i : Nat) : Bool :=
  s.on (F.SO_STAT_SENDING e) && s.eff (F.SO_CTRL_PORT e) == n && s.eff (F.SO_CTRL_SINK e) == i

/-- The frames in progress to a dock port's sink are abandoned, and their fetches cancelled (R345). -/
def State.scanAbandon (s : State) (n i : Nat) : State :=
  (List.range 8).foldl (fun s e =>
    if s.eff (F.SO_CTRL_PORT e) = n ∧ s.eff (F.SO_CTRL_SINK e) = i then
      (s.sets [(F.SO_STAT_SENDING e, 0), (F.SO_STAT_RUNNING e, s.get (F.SO_CTRL_EN e))]).mapEng e
        (fun x => { x with outQ := [], buf := [], full := true, quiet := 0, lastQ := false })
    else s) s

end Sys2Proof.Machine
end

