-- ==== Sys2Proof/Machine/Pool.lean ====
section
/-! DEFINITION. Pooled memory: the pool map and the lenses, directory entries, cream caches, back-invalidates, and the hub's
own accesses to expanders (R133-R152, R158, R189). -/

namespace Sys2Proof.Machine

/-! ### The pool map and the lenses (R133-R139) -/

/-- A region of the pool map as its registers describe it (R134). -/
def State.region (s : State) (r : Nat) : Region :=
  { base := s.get (F.REG_BASE_GIB r), size := s.get (F.REG_SIZE_GIB r), gran := s.get (F.REG_CFG_GRAN r),
    ways := s.get (F.REG_CFG_WAYS r) + 1, tgts := s.get (F.REG_TGT_LO_PORTS r) + 2 ^ 32 * s.get (F.REG_TGT_HI_PORTS r),
    dbase := s.get (F.REG_CFG_DBASE_GIB r) }

/-- Does a pool address lie in a region? -/
def Region.holds (g : Region) (a : Nat) : Bool := decide (g.base * 2 ^ 30 ≤ a) && decide (a < (g.base + g.size) * 2 ^ 30)

/-- The M-port and expander address of a pool address in a region (R134). -/
def Region.place (g : Region) (a : Nat) : Nat × Nat :=
  let unit := 4096 * 2 ^ g.gran
  let off := a - g.base * 2 ^ 30
  let chunk := off / unit
  (bits g.tgts (4 * (chunk % g.ways)) 4, g.dbase * 2 ^ 30 + chunk / g.ways * unit + off % unit)

/-- Only the first 2 TiB of an expander are used (R188): what a region places beyond them is a hole (DESIGN CHOICE, log entry 59). -/
def usedDpa (x : Option (Nat × Nat)) : Option (Nat × Nat) := x.filter (fun y => decide (y.2 < 2 ^ 41))

/-- The M-port and expander address of a pool address, or none for a hole (R134, R135). -/
def State.poolMap (s : State) (a : Nat) : Option (Nat × Nat) :=
  usedDpa (((List.range 16).find? (fun r => s.on (F.REG_CFG_EN r) && (s.region r).holds a)).map (fun r => (s.region r).place a))

/-- As `poolMap`, with the regions under recall as they were (R135). -/
def State.poolMapOld (s : State) (a : Nat) : Option (Nat × Nat) :=
  match s.poolMap a with
  | some x => some x
  | none => usedDpa ((s.pool.recalls.find? (fun e => e.2.holds a)).map (fun e => e.2.place a))

/-- Has the expander on an M-port been lost (R161)? -/
def State.lost (s : State) (m : Nat) : Bool := hasBit (s.get F.POOL_STAT_LOST) m

/-- The window's range in DPA holds an address; sizes and bases in 2 MiB units. -/
def inUnits (base size a : Nat) : Bool := decide (base * 2097152 ≤ a) && decide (a < (base + size) * 2097152)

/-- The window of a host that maps a DPA, and the pool address (R136, R139). -/
def State.lens (s : State) (h dpa : Nat) : Option (Nat × Nat) :=
  if s.eff (F.LENS_SIZE_UNITS h) * 2097152 ≤ dpa then none
  else
    ((List.range 64).find? (fun w => s.on (F.WIN_ATTR_EN (h * 64 + w)) &&
      inUnits (s.get (F.WIN_DPA_UNITS (h * 64 + w))) (s.get (F.WIN_SIZE_UNITS (h * 64 + w))) dpa)).map
      (fun w => (h * 64 + w, s.get (F.WIN_POOL_UNITS (h * 64 + w)) * 2097152 + (dpa - s.get (F.WIN_DPA_UNITS (h * 64 + w)) * 2097152)))

/-- As `lens`, with the host's windows under recall as they were (R138). -/
def State.lensOld (s : State) (h dpa : Nat) : Option Nat :=
  match s.lens h dpa with
  | some x => some x.2
  | none => (s.pool.wins.find? (fun w => w.host == h && inUnits w.dpa w.size dpa)).map
      (fun w => w.pool * 2097152 + (dpa - w.dpa * 2097152))

/-- The DPA under which a host knows a pool address (R137: its windows do not overlap in pool address). -/
def State.dpaOf (s : State) (h a : Nat) : Nat :=
  match (List.range 64).find? (fun w => s.on (F.WIN_ATTR_EN (h * 64 + w)) &&
      inUnits (s.get (F.WIN_POOL_UNITS (h * 64 + w))) (s.get (F.WIN_SIZE_UNITS (h * 64 + w))) a) with
  | some w => s.get (F.WIN_DPA_UNITS (h * 64 + w)) * 2097152 + (a - s.get (F.WIN_POOL_UNITS (h * 64 + w)) * 2097152)
  | none => match s.pool.wins.find? (fun w => w.host == h && inUnits w.pool w.size a) with
    | some w => w.dpa * 2097152 + (a - w.pool * 2097152)
    | none => 0

/-! ### Directory entries (R142-R146) -/

/-- The slice, set and tag of a line (R142). -/
def sliceOf (l : Nat) : Nat :=
  Nat.xor (bits l 0 5) (Nat.xor (bits l 19 5) (Nat.xor (bits l 24 5) (Nat.xor (bits l 29 5) (bits l 34 5))))

def setOf (l : Nat) : Nat := bits l 5 14

def lineTag (l : Nat) : Nat := bits l 19 20

/-- The position of a way of a line's set in the directory. -/
def wayPos (l w : Nat) : Nat := (sliceOf l * 16384 + setOf l) * 18 + w

/-- The way that holds a line's entry. -/
def State.wayOf (s : State) (l : Nat) : Option Nat :=
  (List.range 18).find? (fun w => s.pool.dir.any (fun e => e.1 == wayPos l w && e.2.line == l))

/-- A line's entry; a line without one is in I (R144). -/
def State.entry (s : State) (l : Nat) : DirEntry :=
  match s.wayOf l with
  | some w => tget { line := l } s.pool.dir (wayPos l w)
  | none => { line := l, age := 0 }

/-- The number of hosts whose presence bit is set. -/
def popcount32 (m : Nat) : Nat := ((List.range 32).filter (hasBit m)).length

/-- The host holders and cream holders of an entry. -/
def DirEntry.hostList (e : DirEntry) : List Nat := (List.range 32).filter (hasBit e.hosts)

def DirEntry.creamList (e : DirEntry) : List Nat := (List.range 8).filter (hasBit e.cream)

/-- The stable state that an entry's holders leave (R145, R151): an owner gone leaves I, no cream holder leaves S, no holder
leaves I. -/
def DirEntry.settle (e : DirEntry) : DirEntry :=
  match e.st with
  | .e | .m => if hasBit e.hosts e.fwd then e
      else if e.hosts = 0 then { e with st := .i, fwd := 0x3F } else { e with st := .s, fwd := 0x3F }
  | .f => if e.cream ≠ 0 then e else if e.hosts ≠ 0 then { e with st := .s, fwd := 0x3F } else { e with st := .i, fwd := 0x3F }
  | .s => if e.hosts = 0 then { e with st := .i, fwd := 0x3F } else e
  | .i => e

def stableCode : Stable → Nat
  | .i => 0
  | .s => 1
  | .f => 2
  | .e => 3
  | .m => 4

def transCode : Trans → Nat
  | .none => 0
  | .snp => 1
  | .mem => 2
  | .vic => 3

/-- The 81 bits of an entry (R143). -/
def entryBits (e : DirEntry) : Nat :=
  let b := lineTag e.line + 2 ^ 20 * stableCode e.st + 2 ^ 23 * transCode e.tr + 2 ^ 25 * e.hosts + 2 ^ 57 * e.cream +
    2 ^ 65 * e.fwd + 2 ^ 71 * e.age
  b + 2 ^ 73 * (Config.dirEcc b % 256)

/-- An unused way: in I. -/
def unusedWay : DirEntry := { line := 0, age := 0 }

/-- The reflector of a group of slices: 0 ACTIVE, 2 FAILED. -/
def reflector (g : Nat) : Fld := if g = 0 then F.SPARE_STAT_DP0 else F.SPARE_STAT_DP1

/-- The reflector row of a way, and the place of the way's entry in it (R142, R163). -/
def reflRow (l w : Nat) : Nat := 49152 * (sliceOf l / 16) + 3 * setOf l + w / 6

/-- A data slice writes a way of a line's set: the XOR of the old and the new row goes to the group's reflector (R163). Of a row, the model
holds the six entries; what its 26 bits of set state mean is not told. -/
def State.putWay (s : State) (l w : Nat) (e : Option DirEntry) : State :=
  let pos := wayPos l w
  let delta := Nat.xor (entryBits (tget unusedWay s.pool.dir pos)) (entryBits (e.getD unusedWay)) * 2 ^ (81 * (w % 6))
  let row := reflRow l w
  s.mapPool (fun p => { p with
    dir := match e with
      | some x => tset p.dir pos x
      | none => tdel p.dir pos
    refl := if s.get (reflector (sliceOf l / 16)) = 2 then p.refl else tput 0 p.refl row (Nat.xor (tget 0 p.refl row) delta) })

/-- Replace a line's entry; one in I without a transient state is freed. -/
def State.setEntry (s : State) (l : Nat) (e : DirEntry) : State :=
  match s.wayOf l with
  | none => s
  | some w =>
    let e' := e.settle
    s.putWay l w (if e'.st = .i ∧ e'.tr = .none then none else some e')

/-- Is a way of a line's set free? -/
def State.wayFree (s : State) (l w : Nat) : Bool := !s.pool.dir.any (fun e => e.1 == wayPos l w)

/-- The lowest free way of a line's set. -/
def State.freeWay (s : State) (l : Nat) : Option Nat := (List.range 18).find? (s.wayFree l)

/-- The entries of a line's set, by way. -/
def State.ways (s : State) (l : Nat) : List (Nat × DirEntry) :=
  (List.range 18).filterMap (fun w => (s.pool.dir.find? (fun e => e.1 == wayPos l w)).map (fun e => (w, e.2)))

/-! ### Back-invalidates (R140, R154) -/

/-- A message leaves for a host on CXL.mem; DevLoad always reports Light Load (R140). -/
def State.sendS2M (s : State) (h tag : Nat) (m : S2M) : State :=
  (s.cellsOut h (match m with
    | .memData _ _ _ => 64
    | _ => 0)).emit (.s2m h tag m .light)

/-- MemData leaves for a host (R140); which MetaValue it carries is not told: a free value (log entry 60). -/
def State.sendDrs (s : State) (h tag : Nat) (d : BitVec 512) (poison : Bool) : State :=
  s.fresh.2.sendS2M h tag (.memData d poison (s.fresh.1 % 4))

/-- Send a back-invalidate to a host: kind 0 BISnpCur, 1 BISnpData, 2 BISnpInv. It carries the lowest BITag that the host has not outstanding (the
spec only matches the answer by it: DESIGN CHOICE, log entry 95). -/
def State.snoop (s : State) (h line kind : Nat) (discard : Bool) : State :=
  let used := (s.pool.snoops.filter (fun x => x.host == h)).map (fun x => x.bitag)
  let tag := ((List.range (used.length + 1)).find? (fun t => !used.contains t)).getD 0
  ((s.mapPool (fun p => { p with snoops := p.snoops ++ [⟨h, tag, line, kind, discard, false⟩] })).sat F.BISNP_COUNT_COUNT).sendS2M h 0
    (.biSnp kind tag (s.dpaOf h (line * 64)))

/-- Are back-invalidates outstanding for a line? -/
def State.snooping (s : State) (l : Nat) : Bool := s.pool.snoops.any (fun x => x.line == l)

/-! ### Cream caches (R148-R152) -/

/-- The key of a line's set in a cream cache (R148). -/
def creamKey (n l : Nat) : Nat := (n * 8 + bits l 0 3) * 1024 + bits l 3 10

def State.creamSet (s : State) (n l : Nat) : List CrLine := tget [] s.pool.cream (creamKey n l)

def State.setCreamSet (s : State) (n l : Nat) (x : List CrLine) : State :=
  s.mapPool (fun p => { p with cream := tput [] p.cream (creamKey n l) x })

/-- A line's copy in a cream cache. -/
def State.copy? (s : State) (n l : Nat) : Option CrLine := (s.creamSet n l).find? (fun x => x.line == l)

/-- Is the hub in native mode (R14)? -/
def State.native (s : State) : Bool := s.eff F.CTRL_COMPAT == 0

/-- The state of a cream bank: 0 ACTIVE, 1 DROPPING, 2 RETIRED. -/
def State.creamBank (s : State) (n b : Nat) : Nat := bits (s.get (F.CR_BANK_STAT_STATE n)) (2 * b) 2

/-- May a cache take a line for a request (R149)? -/
def State.creamable (s : State) (n : Nat) (r : Req) : Bool :=
  s.native && r.creamOk && decide (r.init < 32) && s.on (F.CR_CTRL_EN n) && s.creamBank n (bits (r.addr / 64) 0 3) == 0

/-- The cream holders of an entry after cache `n` in ring order. -/
def ringAfter (n : Nat) (e : DirEntry) : List Nat :=
  ((List.range 8).map (fun k => (n + k) % 8)).filter (hasBit e.cream)

/-- F passes to the first holder after cache `n` (R151). -/
def State.passF (s : State) (n l : Nat) : State :=
  let e := s.entry l
  match ringAfter n e with
  | [] => s.setEntry l { e with fwd := 0x3F }
  | k :: _ =>
    (s.setCreamSet k l ((s.creamSet k l).map (fun x => if x.line = l then { x with f := true } else x))).setEntry l { e with fwd := 32 + k }

/-- A cache no longer holds a line: its bit is cleared, and F passes on if it was the F holder. -/
def State.clearCream (s : State) (n l : Nat) : State :=
  let e := s.entry l
  let e' := { e with cream := putBit e.cream n false }
  if e.st = .f ∧ e.fwd = 32 + n ∧ e'.cream ≠ 0 then
    (match s.wayOf l with
      | some w => s.putWay l w (some e')
      | none => s).passF n l
  else s.setEntry l e'

/-- The victim of a full cream set (R151): the least recently used S line, else the least recently used F line. -/
def creamVictim (x : List CrLine) : Option CrLine :=
  match (x.filter (fun c => !c.f)).getLast? with
  | some c => some c
  | none => x.getLast?

/-- Evict a line of a cream cache. -/
def State.creamEvict (s : State) (n : Nat) (c : CrLine) : State :=
  ((s.setCreamSet n c.line ((s.creamSet n c.line).filter (fun x => x.line != c.line))).clearCream n c.line).sat (F.CR_EVICT_COUNT n)

/-- A cream cache installs a line (R148, R151); the entry is the caller's. -/
def State.creamInstall (s : State) (n l : Nat) (f : Bool) (d : BitVec 512) : State :=
  let x := (s.creamSet n l).filter (fun c => c.line != l)
  let s1 := s.setCreamSet n l x
  let s2 := if x.length < 16 then s1 else match creamVictim x with
    | some c => s1.creamEvict n c
    | none => s1
  (s2.setCreamSet n l (⟨l, f, d⟩ :: s2.creamSet n l)).sat (F.CR_FILL_COUNT n)

/-- Drop every cream copy of a line. -/
def State.dropCopies (s : State) (l : Nat) : State :=
  let e := s.entry l
  let s1 := e.creamList.foldl (fun s n =>
    if (s.copy? n l).isSome then
      (s.setCreamSet n l ((s.creamSet n l).filter (fun c => c.line != l))).sat (F.CR_EVICT_COUNT n)
    else s) s
  s1.setEntry l { e with cream := 0, fwd := if e.st = .f then 0x3F else e.fwd }

/-- A cache's content is dropped, whole or one bank (R147): its presence bits become stale. -/
def State.creamDrop (s : State) (n : Nat) (bank : Option Nat) : State :=
  let hit (k : Nat) : Bool := match bank with
    | some b => k / 1024 == n * 8 + b
    | none => k / 8192 == n
  ((s.mapPool (fun p => { p with cream := p.cream.filter (fun e => !hit e.1) })).sat (F.CR_DROP_COUNT_COUNT n)).raise (2880 + 4 * n)

/-- The lines that a cream cache holds. -/
def State.creamLines (s : State) (n : Nat) : List CrLine :=
  (s.pool.cream.filter (fun e => e.1 / 8192 == n)).foldl (fun l e => l ++ e.2) []

/-! ### Accesses to expanders (R189) -/

/-- The requests, writes and tags by number. -/
def State.req? (s : State) (id : Nat) : Option Req := s.pool.reqs.find? (fun r => r.id == id)

def State.mapReq (s : State) (id : Nat) (f : Req → Req) : State :=
  s.mapPool (fun p => { p with reqs := p.reqs.map (fun r => if r.id = id then f r else r) })

def State.dropReq (s : State) (id : Nat) : State := s.mapPool (fun p => { p with reqs := p.reqs.filter (fun r => r.id != id) })

def State.write? (s : State) (id : Nat) : Option PWrite := s.pool.writes.find? (fun w => w.id == id)

def State.xtag (s : State) (m idx : Nat) : XTag := tget {} s.pool.tags (m * 4096 + idx)

def State.setXtag (s : State) (m idx : Nat) (t : XTag) : State := s.mapPool (fun p => { p with tags := tset p.tags (m * 4096 + idx) t })

/-- The lowest tag index of an M-port that is free. -/
def State.freeTag (s : State) (m : Nat) : Option Nat :=
  (List.range 4096).find? (fun i => decide ((s.xtag m i).st = .free))

/-- Send an access to an expander under a tag index (R189). -/
def State.xSend (s : State) (m idx : Nat) (j : XJob) : State :=
  let g := ((s.xtag m idx).gen + 1) % 16
  let s1 := s.setXtag m idx ⟨g, .use j⟩
  match j with
  | .rd id => match s.req? id with
    | some r => (s1.cellsOut (32 + m) 0).emit (.m2s m (g * 4096 + idx) false .noOp r.dpa ⟨0, 0, false⟩)
    | none => s1
  | .wr id => match s.write? id with
    | some w => (s1.cellsOut (32 + m) 64).emit (.m2s m (g * 4096 + idx) true .noOp w.dpa w.d)
    | none => s1

/-- An access towards an expander: sent, or waiting while every index is in use. -/
def State.xIssue (s : State) (m : Nat) (j : XJob) : State :=
  match s.freeTag m with
  | some i => s.xSend m i j
  | none => s.mapPool (fun p => { p with xq := p.xq ++ [(m, j)] })

/-- A tag index is free: the first access that waits for the port takes it. -/
def State.xPump (s : State) (m : Nat) : State :=
  match s.pool.xq.find? (fun e => e.1 == m), s.freeTag m with
  | some e, some i => (s.mapPool (fun p => { p with xq := p.xq.erase e })).xSend m i e.2
  | _, _ => s

/-! ### Line data -/

/-- The bytes of `new` that `be` enables, over `old`. -/
def overlay (old : BitVec 512) (be : BitVec 64) (new : BitVec 512) : BitVec 512 :=
  (List.range 64).foldl (fun d i =>
    if be.getLsbD i then (d &&& ~~~((255 : BitVec 512) <<< (8 * i))) ||| (new &&& ((255 : BitVec 512) <<< (8 * i))) else d) old

/-- Bytes placed in a line from an offset. -/
def lineFrom (off : Nat) (l : List (BitVec 8)) : BitVec 512 :=
  BitVec.ofNat 512 ((l.foldr (fun b acc => b.toNat + 256 * acc) 0) * 2 ^ (8 * off))

/-- The byte enables of `n` bytes from an offset. -/
def beFrom (off n : Nat) : BitVec 64 := BitVec.ofNat 64 ((2 ^ n - 1) * 2 ^ off)

/-- The whole line. -/
def allBytes : BitVec 64 := BitVec.ofNat 64 (2 ^ 64 - 1)

/-- An address range cut at the multiples of `m`. -/
def pieces (m : Nat) : Nat → Nat → Nat → List (Nat × Nat)
  | 0, _, _ => []
  | n + 1, a, len => if len = 0 then [] else (a, min len (m - a % m)) :: pieces m n (a + min len (m - a % m)) (len - min len (m - a % m))

end Sys2Proof.Machine
end

