-- ==== Sys2Proof/Machine/PoolFlow.lean ====
section
/-! DEFINITION. How a request is resolved in its slice (R141, R146-R161, R166, R484): the transition tables of both modes,
back-invalidate responses, capacity victims, recalls, and what the expanders' answers do. -/

namespace Sys2Proof.Machine

/-! ### Answers to initiators -/

def Req.line (r : Req) : Nat := r.addr / 64

def LaneEntry.line : LaneEntry → Nat
  | .wb r | .rel r => r.line
  | .bir _ _ _ l _ => l

/-- Emit the parts of a function's read that are ready, in address order (R175). -/
def flushParts (s : State) (init tag : Nat) : List (Nat × Nat × Option (BitVec 512 × Bool)) → State × List (Nat × Nat × Option (BitVec 512 × Bool))
  | (a, n, some d) :: t =>
    flushParts (if init < 64 then s.poolAnswer init tag (some d) else s.emit (.fnCpl init tag a n (some d))) init tag t
  | l => (s, l)

/-- Send on what a read has ready; a read all of whose parts are out ends, with its abort if it has one. -/
def State.flushRead (s : State) (x : FRead) : State :=
  let p := flushParts s x.init x.tag x.parts
  let rest := s.pool.freads.filter (fun y => !(y.init == x.init && y.tag == x.tag))
  let s1 := { p.1 with pool := { p.1.pool with freads := if p.2.isEmpty then rest else rest ++ [{ x with parts := p.2 }] } }
  if p.2.isEmpty && x.abort then
    (if x.init < 64 then s1.poolAnswer x.init x.tag none else s1.emit (.fnCpl x.init x.tag 0 0 none))
  else s1

/-- One part of a read has its data. -/
def State.partDone (s : State) (init tag addr : Nat) (d : BitVec 512) (poison : Bool) : State :=
  match s.pool.freads.find? (fun y => y.init == init && y.tag == tag) with
  | none => s
  | some x =>
    s.flushRead { x with parts := x.parts.map (fun p => if p.1 = addr then (p.1, p.2.1, some (d, poison)) else p) }

/-- The answer to a request: the grant to a host, with data where there is any. -/
def State.answer (s : State) (r : Req) (nd : S2M) (d : Option (BitVec 512 × Bool)) : State :=
  if r.gone then s
  else if r.init < 32 then
    (match d with
      | some x => s.sendDrs r.init r.tag x.1 x.2
      | none => s).sendS2M r.init r.tag nd
  else match d with
    | some x => s.partDone r.init r.tag r.addr x.1 x.2
    | none => s

/-- Is the number of a write of this initiator kept (R197)? -/
def numbered (init : Nat) : Bool := decide (init < 32) || decide (64 ≤ init)

/-- A write that the hub took fails (R197). -/
def State.dropWrite (s : State) (init seq target reason len addr : Nat) : State :=
  if numbered init then (s.trackDone init seq target).failWrite init seq target reason len addr else s

/-- A request ends: its tracker is free and its entry leaves its transient state. -/
def State.finish (s : State) (r : Req) : State :=
  (s.dropReq r.id).setEntry r.line { s.entry r.line with tr := .none }

/-! ### Writes to an expander -/

/-- A write is sent to its expander, or dropped where that is lost (R161). -/
def State.pushWrite (s : State) (w : PWrite) : State :=
  if s.lost w.mport then
    let s1 := match w.src with
      | some (i, q) => s.dropWrite i q (32 + w.mport) 0x22 w.len w.addr
      | none => s
    match w.req.bind s1.req? with
    | some r => s1.finish r
    | none => s1
  else
    let s1 := s.mapPool (fun p => { p with nextId := p.nextId + 1, writes := p.writes ++ [{ w with id := p.nextId }] })
    s1.xIssue w.mport (.wr s.pool.nextId)

/-- A write has been delivered, or has failed with a reason. -/
def State.writeEnd (s : State) (w : PWrite) (reason : Option Nat) : State :=
  let s1 := s.mapPool (fun p => { p with writes := p.writes.filter (fun x => x.id != w.id) })
  let s2 := match w.src, reason with
    | some (i, q), some e => s1.dropWrite i q (32 + w.mport) e w.len w.addr
    | some (i, q), none => if numbered i then s1.trackDone i q (32 + w.mport) else s1
    | none, _ => s1
  match w.req.bind s2.req? with
  | some r => if s2.pool.fenced.contains (sliceOf r.line) then s2.mapReq r.id (fun x => { x with phase := .answered, wb := none }) else s2.finish r
  | none => s2

/-- The write that a request carries. -/
def Req.pwrite (r : Req) (d : LineData) (tracker : Bool) : PWrite :=
  { id := 0, mport := r.mport, dpa := r.dpa, addr := r.addr / 64 * 64, len := r.len, d := d,
    src := if numbered r.init then some (r.init, r.seq) else none, req := if tracker then some r.id else none, wb := !tracker }

/-! ### Atomic operations (R172) -/

/-- The new value of an atomic operation's operand (PCIe AtomicOps: PRESUMED, log entry 30). -/
def atomicNew (o : AtomicOp) (old : Nat) : Nat :=
  match o with
  | .fetchAdd n v => (old + v) % 256 ^ n
  | .swap n v => v % 256 ^ n
  | .cas n c v => if old = c % 256 ^ n then v % 256 ^ n else old

def atomicBytes : AtomicOp → Nat
  | .fetchAdd n _ | .swap n _ | .cas n _ _ => n

/-! ### Grants -/

/-- Is coherence of a line's slice lost with its group (R165)? -/
def State.deadLine (s : State) (l : Nat) : Bool := s.pool.dead.contains (sliceOf l)

/-- The line's slice is lost with its group (R165), or its expander is lost (R161): a read returns poison, a write is dropped
with the reason. -/
def State.startDead (s : State) (r : Req) (reason : Nat) : State :=
  match r.kind with
  | .wrU => (s.dropWrite r.init r.seq (32 + r.mport) reason r.len r.addr).finish r
  | _ => (s.answer r .cmpS (if r.noData then none else some (0, true))).finish r

/-- The data of a read is there (R154, R155): the grant, the next state, and the cream install. A host's read-current ends with Cmp (R154's rows
name no NDR there: DESIGN CHOICE, log entry 92). -/
def State.readDone (s : State) (r : Req) (d : BitVec 512) (poison : Bool) : State :=
  let l := r.line
  let e := s.entry l
  if r.gone then s.finish r
  else if s.deadLine l then s.startDead r 0x23
  else match r.kind with
    | .rdS =>
      let q := r.init / 4
      if s.creamable q r && !poison then
        let s1 := s.setEntry l { e with st := .f, tr := .none, hosts := putBit e.hosts r.init true, cream := putBit e.cream q true, fwd := 32 + q }
        ((s1.creamInstall q l true d).answer r .cmpS (some (d, poison))).dropReq r.id
      else if decide (e.st = .i) && !r.snooped && s.on F.CTRL_E_GRANT && r.eOk then
        ((s.setEntry l { e with st := .e, tr := .none, hosts := 2 ^ r.init, fwd := r.init }).answer r .cmpE (some (d, poison))).dropReq r.id
      else
        ((s.setEntry l { e with st := .s, tr := .none, hosts := putBit e.hosts r.init true, fwd := 0x3F }).answer r .cmpS
          (some (d, poison))).dropReq r.id
    | .rdO =>
      ((s.setEntry l { e with st := .m, tr := .none, hosts := 2 ^ r.init, cream := 0, fwd := r.init }).answer r .cmpM
        (if r.noData then none else some (d, poison))).dropReq r.id
    | .atomic =>
      match r.aop with
      | none => s.finish r
      | some o =>
        let off := r.addr % 64
        let old := d.toNat / 256 ^ off % 256 ^ atomicBytes o
        let s1 := (s.answer r .cmp (some (d, poison))).mapReq r.id (fun x => { x with phase := .write })
        s1.pushWrite (r.pwrite ⟨BitVec.ofNat 512 (atomicNew o old * 256 ^ off), beFrom off (atomicBytes o), poison⟩ true)
    | _ => (s.answer r .cmp (some (d, poison))).finish r

/-- A read takes its data from memory (R154): from a write of the line still under way, after one that covers part of it,
from the expander, or poison where that is lost. -/
def State.readMem (s : State) (r : Req) : State :=
  if r.kind = .rdO ∧ r.noData then s.readDone r 0 false
  else match (s.pool.writes.filter (fun w => w.addr / 64 == r.line)).getLast? with
    | some w =>
      if w.d.be = allBytes then s.readDone r w.d.data w.d.poison
      else (s.mapReq r.id (fun x => { x with phase := .after })).setEntry r.line { s.entry r.line with tr := .mem }
    | none =>
      if s.lost r.mport then s.readDone r 0 true
      else
        let s1 := (s.mapReq r.id (fun x => { x with phase := .read })).setEntry r.line { s.entry r.line with tr := .mem }
        s1.xIssue r.mport (.rd r.id)

/-- Data for a request that waited for snoops: the owner's write-back if it covers the line, else memory. -/
def State.fromOwner (s : State) (r : Req) : State :=
  match r.wb with
  | some w => if w.be = allBytes then s.readDone r w.data w.poison else s.readMem r
  | none => s.readMem r

/-- The new bytes of a write go to the expander; its tracker waits for the Cmp. -/
def State.putBytes (s : State) (r : Req) : State :=
  (s.mapReq r.id (fun x => { x with phase := .write })).pushWrite (r.pwrite r.wr true)

/-- The last back-invalidate response of a request's line has come. -/
def State.afterSnoops (s : State) (r : Req) : State :=
  let e := s.entry r.line
  match r.kind with
  | .wrU => if s.deadLine r.line then s.startDead r 0x23 else (s.setEntry r.line { e with tr := .none }).putBytes r
  | _ => s.fromOwner r

/-! ### Serving from cream (R147, R150) -/

/-- The cream holder that serves: the first in order that has the line; holders found without it lose their bit. -/
def State.serveFrom (s : State) (l : Nat) : List Nat → State × Option (Nat × CrLine)
  | [] => (s, none)
  | n :: ns =>
    match s.copy? n l with
    | some c => (s, some (n, c))
    | none => ((s.clearCream n l).sat (F.CR_STALE_COUNT n)).serveFrom l ns

/-- The order in which a request asks the holders of a line in F (R150). -/
def Req.order (r : Req) (e : DirEntry) : List Nat :=
  ringAfter (if r.init < 32 then r.init / 4 else bits e.fwd 0 3) e

/-- A serve is counted at its cache, which makes the line its most recently used. -/
def State.served (s : State) (r : Req) (n : Nat) (c : CrLine) : State :=
  (s.setCreamSet n r.line (c :: (s.creamSet n r.line).filter (fun x => x.line != c.line))).sat
    (if 32 ≤ r.init then F.CR_SERVE_INT_COUNT n else if r.init / 4 = n then F.CR_HIT_OWN_COUNT n else F.CR_HIT_REMOTE_COUNT n)

/-- Back-invalidates to hosts for a request; with none to send it goes on at once. -/
def State.snoopFor (s : State) (r : Req) (hosts : List Nat) (kind : Nat) : State :=
  if hosts.isEmpty then s.afterSnoops r
  else
    let s1 := (s.mapReq r.id (fun x => { x with phase := .snoop, snooped := r.snooped, wb := r.wb })).setEntry r.line { s.entry r.line with tr := .snp }
    hosts.foldl (fun s h => s.snoop h r.line kind false) s1

/-! ### Capacity victims (R158) -/

/-- The class, host count, age and way by which a victim is chosen. -/
def victimKey (x : Nat × DirEntry) : Nat :=
  let c := if x.2.hosts = 0 then 0 else if x.2.st = .e ∨ x.2.st = .m then 2 else 1
  ((c * 64 + (if c = 1 then popcount32 x.2.hosts else 0)) * 4 + x.2.age) * 32 + x.1

/-- The victim of a line's set, from the ways without a transient state. -/
def State.victim (s : State) (l : Nat) : Option (Nat × DirEntry) :=
  ((s.ways l).filter (fun x => decide (x.2.tr = .none))).foldl (fun b x =>
    match b with
    | none => some x
    | some y => if victimKey x < victimKey y then some x else b) none

/-- An entry is recalled (R135, R158, R161): its cream copies are dropped, its host holders back-invalidated. -/
def State.recall (s : State) (l : Nat) (hosts : List Nat) (cream discard : Bool) : State :=
  let s1 := if cream then s.dropCopies l else s
  if hosts.isEmpty then s1
  else
    let s2 := s1.setEntry l { s1.entry l with tr := .vic }
    hosts.foldl (fun s h => s.snoop h l 2 discard) s2

/-- Make room in a line's set: the entry in a way is the victim. -/
def State.evictWay (s : State) (l : Nat) (v : Nat × DirEntry) : State :=
  let age0 := (s.ways l).any (fun x => x.2.age == 0)
  let s1 := if age0 then s else (s.ways l).foldl (fun s x =>
    s.putWay l x.1 (some { x.2 with age := x.2.age - 1 })) s
  (s1.recall v.2.line v.2.hostList true false).sat F.VICTIM_COUNT_COUNT

/-- The line of a request takes a way, in I and waiting for memory. -/
def State.useWay (s : State) (r : Req) (w : Nat) : State × Bool :=
  (s.putWay r.line w (some { line := r.line, tr := .mem }), true)

/-- The line of a request takes a way: the victim's way that it waits for, else a free way; none free recalls a victim, whose
way the request then waits for. -/
def State.takeWay (s : State) (r : Req) : State × Bool :=
  match r.way with
  | some w => s.useWay r w
  | none =>
    match s.freeWay r.line with
    | some w => s.useWay r w
    | none =>
      match s.victim r.line with
      | none => (s.mapReq r.id (fun x => { x with phase := .way }), false)
      | some v =>
        let s1 := s.evictWay r.line v
        if s1.wayFree r.line v.1 then s1.useWay r v.1
        else (s1.mapReq r.id (fun x => { x with phase := .way, way := some v.1 }), false)

/-! ### The start of a request (R154, R155) -/

/-- A request on a line in I. -/
def State.startI (s : State) (r : Req) : State :=
  match r.kind with
  | .rdS | .rdO =>
    if (s.wayOf r.line).isSome then s.readMem r
    else
      let p := s.takeWay r
      if p.2 then p.1.readMem r else p.1
  | .wrU => s.putBytes r
  | _ => s.readMem r

/-- A request on a line in S. -/
def State.startS (s : State) (r : Req) : State :=
  let e := s.entry r.line
  match r.kind with
  | .rdO => s.snoopFor r (e.hostList.erase r.init) 2
  | .wrU | .atomic => s.snoopFor r e.hostList 2
  | _ => s.readMem r

/-- A request on a line in F, which the named cache serves; a MemInv needs no data and is not served. -/
def State.startF (s : State) (r : Req) (n : Nat) (c : CrLine) : State :=
  let e := s.entry r.line
  let q := r.init / 4
  match r.kind with
  | .rdS =>
    let s1 := (s.served r n c).setEntry r.line { e with hosts := putBit e.hosts r.init true }
    let s2 := if n ≠ q ∧ s1.creamable q r ∧ s1.on F.CTRL_FILL_REMOTE then
        (s1.setEntry r.line { s1.entry r.line with cream := putBit (s1.entry r.line).cream q true }).creamInstall q r.line false c.data
      else s1
    (s2.answer r .cmpS (some (c.data, false))).dropReq r.id
  | .rdO =>
    if r.noData then ((s.setEntry r.line { e with tr := .mem }).dropCopies r.line).snoopFor r (e.hostList.erase r.init) 2
    else (((s.served r n c).setEntry r.line { e with tr := .mem }).dropCopies r.line).snoopFor { r with wb := some ⟨c.data, allBytes, false⟩ } (e.hostList.erase r.init) 2
  | .atomic => ((s.served r n c).dropCopies r.line).snoopFor { r with wb := some ⟨c.data, allBytes, false⟩ } e.hostList 2
  | .wrU => (s.dropCopies r.line).snoopFor r e.hostList 2
  | _ => ((s.served r n c).answer r .cmp (some (c.data, false))).dropReq r.id

/-- A request on a line in E or M. -/
def State.startOwned (s : State) (r : Req) : State :=
  let e := s.entry r.line
  let o := e.fwd
  match r.kind with
  | .rdS =>
    if o = r.init then (match s.wayOf r.line with
      | some w => s.putWay r.line w (some { e with st := .i, hosts := 0, fwd := 0x3F, tr := .mem })
      | none => s).readMem r
    else s.snoopFor { r with snooped := true } [o] 1
  | .rdO => if o = r.init then s.readMem r else s.snoopFor r [o] 2
  | .wrU | .atomic => s.snoopFor r [o] 2
  | _ => s.snoopFor r [o] 0

/-- A request starts in its slice: its entry's AGE is set, and its row of R154 or R155 taken. -/
def State.start (s : State) (r : Req) : State :=
  if s.deadLine r.line then s.startDead r 0x23
  else if s.lost r.mport then s.startDead r 0x22
  else if r.gone ∧ r.kind ≠ .wrU then s.dropReq r.id
  else
    let s1 := (s.mapReq r.id (fun x => { x with phase := .queued })).setEntry r.line { s.entry r.line with age := 3 }
    match (s1.entry r.line).st with
    | .i => s1.startI r
    | .s => s1.startS r
    | .e | .m => s1.startOwned r
    | .f =>
      if r.kind = .wrU ∨ r.noData then s1.startF r 0 ⟨0, false, 0⟩
      else
        let p := s1.serveFrom r.line (r.order (s1.entry r.line))
        match p.2 with
        | some x => p.1.startF r x.1 x.2
        | none => if (p.1.entry r.line).st = .s then p.1.startS r else p.1.startI r

/-! ### The order of requests (R153) -/

/-- Requests of a slice that hold a tracker. -/
def State.trackers (s : State) (d : Nat) : Nat :=
  (s.pool.reqs.filter (fun r => decide (r.phase ≠ .travel) && sliceOf r.line == d)).length

/-- Is a tag index of an M-port free (R189)? -/
def State.tagRoom (s : State) (m : Nat) : Bool :=
  decide ((s.pool.tags.filter (fun e => e.1 / 4096 == m && decide (e.2.st ≠ .free))).length < 4096)

/-- May a slice accept a request: not fenced, a tracker free (R153), and an index free towards its expander (R189)? -/
def State.accepts (s : State) (r : Req) : Bool :=
  !s.pool.fenced.contains (sliceOf r.line) && decide (s.trackers (sliceOf r.line) < 128) && s.tagRoom r.mport

/-- The next request to be accepted (R153): the first to come to its slice; of those of the same core cycle, the first port at or after
the slice's pointer. -/
def State.nextAccept (s : State) : Option Req :=
  match s.pool.reqs.find? (fun r => decide (r.phase = .travel) && s.accepts r) with
  | none => none
  | some r0 =>
    let d := sliceOf r0.line
    let ptr := tget 0 s.pool.ptrs d
    let dist := fun (r : Req) => (r.port + 72 - ptr) % 72
    (s.pool.reqs.filter (fun r => decide (r.phase = .travel) && s.accepts r && sliceOf r.line == d && r.came == r0.came)).foldl (fun b r =>
      match b with
      | none => some r
      | some y => if dist r < dist y then some r else b) none

/-- A slice accepts a request, which is its point of commitment (R179): a host's write is completed. -/
def State.accept (s : State) (r : Req) : State :=
  let s1 := s.mapPool (fun p => { p with reqs := p.reqs.filter (fun x => x.id != r.id) ++ [{ r with phase := .queued }],
                                         ptrs := tset p.ptrs (sliceOf r.line) ((r.port + 1) % 72) })
  if r.kind = .wrU ∧ r.init < 32 then s1.sendS2M r.init r.tag .cmp else s1

/-- May a request start, or go on: no earlier request of its line is under way, nothing of its line waits in the write-back lane (R153), and its
entry has no transient state? -/
def State.canStart (s : State) (r : Req) : Bool :=
  let earlier := (s.pool.reqs.takeWhile (fun x => x.id != r.id)).any (fun x => decide (x.phase ≠ .travel) && x.line == r.line)
  let e := s.entry r.line
  !s.pool.fenced.contains (sliceOf r.line) && !earlier && !s.pool.lane.any (fun x => x.line == r.line) &&
  (match r.phase with
    | .queued => decide (e.tr = .none)
    | .way => match r.way with
      | some w => s.wayFree r.line w
      | none => (s.freeWay r.line).isSome || (s.victim r.line).isSome
    | .after => (s.pool.writes.filter (fun w => w.addr / 64 == r.line)).all (fun w => w.d.be == allBytes)
    | .answered => true
    | _ => false)

/-! ### Recalls and losses (R135, R138, R161) -/

/-- Does an entry stand under a recall now: the hosts to be back-invalidated, whether its cream copies go, and whether what an
owner writes back is discarded? -/
def State.underRecall (s : State) (e : DirEntry) : Option (List Nat × Bool × Bool) :=
  let a := e.line * 64
  let onLost := match s.poolMapOld a with
    | some x => s.lost x.1
    | none => false
  if onLost then (if e.hosts = 0 ∧ e.cream = 0 then none else some (e.hostList, true, true))
  else if s.pool.recalls.any (fun x => x.2.holds a) then
    (if e.hosts = 0 ∧ e.cream = 0 then none else some (e.hostList, true, false))
  else
    let hs := e.hostList.filter (fun h => s.pool.wins.any (fun w => w.host == h && inUnits w.pool w.size a))
    if hs.isEmpty then none else some (hs, false, false)

/-- The next entry that a recall takes, in a slice that is not fenced (R164). -/
def State.nextRecall (s : State) : Option (DirEntry × List Nat × Bool × Bool) :=
  if s.pool.recalls.isEmpty && s.pool.wins.isEmpty && s.get F.POOL_STAT_LOST == 0 then none
  else s.pool.dir.findSome? (fun e => if e.2.tr = .none ∧ !s.pool.fenced.contains (sliceOf e.2.line) then (s.underRecall e.2).map (fun x => (e.2, x)) else none)

/-! ### Protocol errors, write-backs and responses (R156) -/

/-- A protocol error of a host. -/
def State.protoErr (s : State) (h reason : Nat) : State :=
  (((s.sat F.PROTO_ERR_COUNT_COUNT).set F.PROTO_ERR_LOG_REASON reason).set F.PROTO_ERR_LOG_PORT h).raise 2832

/-- The host in GLOBAL.FM_PATH takes a record (R162). -/
def State.fmRec (s : State) (r : Rec) : State := if s.get F.FM_PATH_REQ < 32 then s.postRec (s.get F.FM_PATH_REQ) r else s

/-- A line is listed (R162): reason 1 HOST_LOST or 2 EXPANDER_LOST, by the port lost. -/
def State.list (s : State) (port reason holder l : Nat) (st : Stable) : State :=
  let seq := match s.pool.walks.find? (fun w => w.port == port) with
    | some w => w.seq
    | none => s.get F.LOSS_STAT_SEQ
  ((s.sat F.LOSS_COUNT_COUNT).mapPool (fun p => { p with walks := p.walks.map (fun w =>
      if w.port = port then { w with listed := w.listed + 1 } else w) })).fmRec
    { seq := 0, typ := 0x20, source := port, ref := seq, status := reason + 256 * holder, addr := l * 64,
      data := if st = .m then 4 else 3 }

/-- A write-back (WBI, WBS) takes the write-back lane (R153, R154, R156). -/
def State.writeBack (s : State) (r : Req) : State :=
  let e := s.entry r.line
  let owner := decide (e.st = .e ∨ e.st = .m) && e.fwd == r.init
  let s1 := s.sendS2M r.init r.tag .cmp
  if s.pool.dead.contains (sliceOf r.line) then s1.dropWrite r.init r.seq (32 + r.mport) 0x23 64 r.addr
  else if !owner then ((s1.setEntry r.line { e with age := 3 }).dropWrite r.init r.seq (32 + r.mport) 0x23 64 r.addr).protoErr r.init 1
  else match s1.pool.snoops.find? (fun x => x.host == r.init && x.line == r.line) with
    | some x =>
      let s2 := (s1.setEntry r.line { e with age := 3 }).mapPool (fun p => { p with
        snoops := p.snoops.map (fun y => if y.host = r.init ∧ y.line = r.line then { y with got := true } else y) })
      if x.discard || s1.lost r.mport then
        (s2.dropWrite r.init r.seq (32 + r.mport) 0x22 64 r.addr).list (32 + r.mport) 2 r.init r.line e.st
      else
        (s2.mapPool (fun p => { p with reqs := p.reqs.map (fun y =>
          if y.line = r.line ∧ y.phase = .snoop then { y with wb := some r.wr } else y) })).pushWrite (r.pwrite r.wr false)
    | none =>
      let s2 := s1.setEntry r.line (if r.kind = .wbI then { e with hosts := 0 } else { e with st := .s, fwd := 0x3F, age := 3 })
      s2.pushWrite (r.pwrite r.wr false)

/-- A release (REL) clears its presence bit (R154, R156). -/
def State.releaseLine (s : State) (h tag l : Nat) : State :=
  let e := s.entry l
  let s1 := s.sendS2M h tag .cmp
  if s.pool.dead.contains (sliceOf l) then s1
  else if hasBit e.hosts h then s1.setEntry l { e with hosts := putBit e.hosts h false, age := 3 }
  else (s1.setEntry l { e with age := 3 }).protoErr h 2

/-- The last snoop of a line may have ended: its request goes on, or its recall ends. -/
def State.snoopsOver (s : State) (l : Nat) : State :=
  if s.snooping l then s
  else match s.pool.reqs.find? (fun r => decide (r.phase = .snoop) && r.line == l) with
    | some r => s.afterSnoops r
    | none => s.setEntry l { s.entry l with tr := .none }

/-- A snoop ends with a response: 0 BIRspI, 1 BIRspS, 2 BIRspE. -/
def State.snoopEnd (s : State) (x : Snoop) (rsp : Nat) : State :=
  let s1 := s.mapPool (fun p => { p with snoops := p.snoops.filter (fun y => !(y.host == x.host && y.bitag == x.bitag)) })
  let e := { s1.entry x.line with age := 3 }
  let s2 := s1.setEntry x.line (
    if rsp = 0 then { e with hosts := putBit e.hosts x.host false }
    else if rsp = 1 then { e with st := .s, fwd := 0x3F }
    else e)
  s2.snoopsOver x.line

/-- A back-invalidate response (R156): kind 0 BIRspI, 1 BIRspS, 2 BIRspE. A block variant that no snoop waits for is both BIRSP_UNEXPECTED and
BIRSP_BLOCK, and is logged as the first (DESIGN CHOICE, log entry 94). -/
def State.birsp (s : State) (h bitag kind : Nat) (block : Bool) : State :=
  match s.pool.snoops.find? (fun x => x.host == h && x.bitag == bitag) with
  | none => s.protoErr h 3
  | some x =>
    if block then (s.protoErr h 5).snoopEnd x 0
    else if kind = 0 ∨ (kind = 1 ∧ x.kind = 1) ∨ (kind = 2 ∧ x.kind = 0) then s.snoopEnd x kind
    else (s.protoErr h 4).snoopEnd x 0

/-! ### The write-back lane (R153) -/

/-- What enters the lane acts. -/
def State.wbGo (s : State) : LaneEntry → State
  | .wb r => s.writeBack r
  | .rel r => s.releaseLine r.init r.tag r.line
  | .bir h bitag kind _ block => s.birsp h bitag kind block

/-- Is a slice's lane open: the slice takes requests (R164), and one of its 32 buffers is free? -/
def State.wbOpen (s : State) (d : Nat) : Bool :=
  !s.pool.fenced.contains d && decide ((s.pool.writes.filter (fun w => w.wb && sliceOf (w.addr / 64) == d)).length < 32)

/-- A write-back, a release or a back-invalidate response comes to its slice's lane: taken at once, or behind what waits there. -/
def State.viaLane (s : State) (x : LaneEntry) : State :=
  if s.wbOpen (sliceOf x.line) && !s.pool.lane.any (fun y => sliceOf y.line == sliceOf x.line) then s.wbGo x
  else s.mapPool (fun p => { p with lane := p.lane ++ [x] })

/-- A back-invalidate response of a host comes (R153, R156): one that no snoop waits for names no line and is judged at once. -/
def State.birspIn (s : State) (h bitag kind : Nat) (block : Bool) : State :=
  match s.pool.snoops.find? (fun x => x.host == h && x.bitag == bitag) with
  | none => s.birsp h bitag kind block
  | some x => s.viaLane (.bir h bitag kind x.line block)

/-! ### The directory acts -/

/-- A tracker whose access was answered while its slice was fenced goes on (R164). -/
def State.resume (s : State) (r : Req) : State :=
  match r.wb with
  | some w => s.readDone r w.data w.poison
  | none => s.finish r

/-- One act of the directory: an entry of a write-back lane, a recalled entry, a request that can start, a request that can be accepted. -/
def State.act (s : State) : Option State :=
  match s.pool.lane.find? (fun x => s.wbOpen (sliceOf x.line)), s.nextRecall with
  | some x, _ => some ((s.mapPool (fun p => { p with lane := p.lane.erase x })).wbGo x)
  | none, some (e, hs, cream, discard) => some (s.recall e.line hs cream discard)
  | none, none =>
    match s.pool.reqs.find? s.canStart with
    | some r => some (if r.phase = .after then s.readMem r else if r.phase = .answered then s.resume r else s.start r)
    | none => (s.nextAccept).map s.accept

/-- The directory acts until nothing is left to do. -/
def State.actAll : Nat → State → State
  | 0, s => s
  | n + 1, s => match s.act with
    | none => s
    | some s' => s'.actAll n

/-- The reflector controllers' copies follow the trackers of their groups' slices (R163). -/
def State.copyTrackers (s : State) : State :=
  s.mapPool (fun p => { p with trk := p.reqs.filter (fun r => decide (r.phase ≠ .travel) && s.get (reflector (sliceOf r.line / 16)) != 2) })

/-- Enough acts for every request, waiting lane entry and directory entry. -/
def State.advance (s : State) : State :=
  (s.actAll (8 * s.pool.reqs.length + 4 * s.pool.lane.length + 2 * s.pool.dir.length + 16)).copyTrackers

/-! ### Expander answers (R189, R159, R161) -/

/-- A read of the expander is answered: with data, or poison that the expander sent (R159) or the hub forms; while the line's slice is fenced,
its tracker keeps the answer (R164). -/
def State.readAnswered (s : State) (id : Nat) (d : BitVec 512) (poison fromExp : Bool) : State :=
  match s.req? id with
  | none => s
  | some r =>
    let s1 := if poison && fromExp then (s.sat F.POISON_FWD_COUNT_COUNT).raise 2834 else s
    if s1.pool.fenced.contains (sliceOf r.line) then
      s1.mapReq id (fun x => { x with phase := .answered, wb := some ⟨d, allBytes, poison⟩ })
    else s1.readDone r d poison

/-- The completion of a tag: a read's data, or a write's Cmp. -/
def State.tagDone (s : State) (m tag : Nat) (data : Option (BitVec 512 × Bool)) : State :=
  let idx := tag % 4096
  let t := s.xtag m idx
  let late (s : State) : State := ((s.stale 3).sat (F.MP_LATE_CPL_COUNT m)).raise (1287 + 32 * m)
  if t.gen ≠ tag / 4096 % 16 then late s
  else match t.st, data with
    | .use (.rd id), some d => (((s.setXtag m idx { t with st := .free }).readAnswered id d.1 d.2 true).xPump m).advance
    | .use (.wr id), none =>
      let s1 := s.setXtag m idx { t with st := .free }
      ((match s1.write? id with
        | some w => s1.writeEnd w none
        | none => s1).xPump m).advance
    | _, _ => late s

/-- An access ends without the expander: its read is poisoned, its write fails with a reason. -/
def State.xAbort (s : State) (j : XJob) (reason : Nat) : State :=
  match j with
  | .rd id => s.readAnswered id 0 true false
  | .wr id => match s.write? id with
    | some w => s.writeEnd w (some reason)
    | none => s

/-- Does an access under way end when its expander is lost: a read always, a write where `wr` gives it a reason to fail? -/
def ends (wr : Option Nat) : XJob → Bool
  | .rd _ => true
  | .wr _ => wr.isSome

/-- The accesses of a lost expander's M-port end (R161): outstanding reads with poison, outstanding writes with the reason
`wr` if there is one, and what waits for an index as from then on; the indices of what ends wait. -/
def State.abortPort (s : State) (m : Nat) (wr : Option Nat) : State :=
  let js := s.pool.tags.filterMap (fun e => if e.1 / 4096 = m then (match e.2.st with
    | .use j => if ends wr j then some j else none
    | _ => none) else none)
  let qs := (s.pool.xq.filter (fun e => e.1 == m)).map (fun e => e.2)
  let s1 := s.mapPool (fun p => { p with
    xq := p.xq.filter (fun e => e.1 != m),
    tags := p.tags.map (fun e => if e.1 / 4096 = m then (e.1, match e.2.st with
      | .use j => if ends wr j then { e.2 with st := .wait } else e.2
      | _ => e.2) else e) })
  qs.foldl (fun s j => s.xAbort j 0x22) (js.foldl (fun s j => s.xAbort j (wr.getD 0x22)) s1)

/-- A loss begins (R160, R161): LOSS_STAT, and the walk. -/
def State.lossBegin (s : State) (port : Nat) : State :=
  let s1 := ((s.wrap F.LOSS_STAT_SEQ).set F.LOSS_STAT_BUSY 1).set F.LOSS_STAT_PORT port
  (s1.mapPool (fun p => { p with walks := p.walks.filter (fun w => w.port != port) ++ [⟨port, s1.get F.LOSS_STAT_SEQ, 0⟩] })).raise 2835

/-- The expander on an M-port is lost (R161); `wr` is what its outstanding writes fail with, where they fail at once. -/
def State.expanderLost (s : State) (m : Nat) (wr : Option Nat) : State :=
  if s.lost m then s
  else
    let s1 := ((s.set F.POOL_STAT_LOST (putBit (s.get F.POOL_STAT_LOST) m true)).lossBegin (32 + m)).raise 2837
    let onM := fun l => match s.poolMapOld (l * 64) with
      | some x => x.1 == m
      | none => false
    let s2 := s1.mapPool (fun p => { p with snoops := p.snoops.map (fun x => if onM x.line then { x with discard := true } else x) })
    ((s2.raise (1283 + 32 * m)).abortPort m wr).advance

/-- A line that a lost host held (R160): its bit is cleared; one it owned is poisoned at its expander and listed, unless
its write-back has been taken as the data of a snoop (`saved`). -/
def State.lostLine (s : State) (h : Nat) (saved : List Nat) (e : DirEntry) : State :=
  if (e.st = .e ∨ e.st = .m) ∧ e.fwd = h ∧ saved.contains e.line = false then
    let s1 := (s.setEntry e.line { e with hosts := 0 }).list h 1 h e.line e.st
    match s1.poolMapOld (e.line * 64) with
    | some x => s1.pushWrite { id := 0, mport := x.1, dpa := x.2, addr := e.line * 64, len := 64, d := ⟨0, allBytes, true⟩ }
    | none => s1
  else s.setEntry e.line { e with hosts := putBit e.hosts h false }

/-- The writes of a host that no slice has taken yet, by number and target: in the lane, on their way, and held at the check point. -/
def State.unheard (s : State) (h : Nat) : List (Nat × Nat) :=
  s.pool.lane.filterMap (fun x => match x with
    | .wb r => if r.init = h then some (r.seq, 32 + r.mport) else none
    | _ => none) ++
  (s.pool.reqs.filter (fun r => r.init == h && decide (r.phase = .travel) && decide (r.kind = .wrU))).map (fun r => (r.seq, 32 + r.mport)) ++
  s.gd.held.filterMap (fun a => match a with
    | .line r => if r.init = h ∧ (r.kind = .wrU ∨ r.kind = .wbI ∨ r.kind = .wbS) then some (r.seq, r.mport) else none
    | _ => none)

/-- A host is lost (R160): its own requests end, and with them the numbers of writes that no slice has taken (R198), its snoops complete as
BIRspI, and its lines are walked. A line whose write-back answered a BISnpCur is still the owner's (R154), and lost. -/
def State.hostLost (s : State) (h : Nat) : State :=
  let s0 := (s.unheard h).foldl (fun s t => s.trackDone h t.1 t.2) s
  let s1 := (s0.lossBegin h).mapPool (fun p => { p with
    lane := p.lane.filter (fun x => match x with
      | .wb r | .rel r => r.init != h
      | .bir g _ _ _ _ => g != h),
    reqs := ((p.reqs.filter (fun r => !(r.init == h && decide (r.phase = .travel)))).map (fun r =>
      if r.init = h then { r with gone := true } else r)) })
  let s2 := s1.mapGd (fun g => { g with held := g.held.filter (fun a => match a with
    | .line r => r.init != h
    | _ => true) })
  let mine := s2.pool.snoops.filter (fun x => x.host == h)
  let owned := fun l => decide ((s2.entry l).st = .e ∨ (s2.entry l).st = .m) && (s2.entry l).fwd == h
  let saved := (mine.filter (fun x => x.got && x.kind != 0)).map (fun x => x.line)
  let s3 := s2.mapPool (fun p => { p with reqs := p.reqs.map (fun r =>
    if decide (r.phase = .snoop) && owned r.line && r.wb.isNone then { r with wb := some ⟨0, allBytes, true⟩ } else r) })
  let held := (s3.pool.dir.filter (fun e => hasBit e.2.hosts h)).map (fun e => e.2)
  let s4 := held.foldl (fun s e => s.lostLine h saved e) s3
  (mine.foldl (fun s x => s.snoopEnd x 0) s4).advance

/-- A loss walk ends (R160-R162) once nothing of it is outstanding. -/
def State.walkEnd (s : State) (port : Nat) : State :=
  match s.pool.walks.find? (fun w => w.port == port) with
  | none => s
  | some w =>
    if s.pool.snoops.any (fun x => x.discard && (match s.poolMapOld (x.line * 64) with
        | some y => 32 + y.1 == port
        | none => false)) then s
    else
      let s1 := s.mapPool (fun p => { p with walks := p.walks.filter (fun x => x.port != port) })
      let s2 := if s1.pool.walks.isEmpty then s1.set F.LOSS_STAT_BUSY 0 else s1
      (s2.fmRec { seq := 0, typ := 0x21, source := port, ref := w.seq, status := w.listed, addr := 0, data := 0 }).raise 2836

end Sys2Proof.Machine
end

