-- ==== Sys2Proof/Machine/PoolAccess.lean ====
section
/-! DEFINITION. An access on its way to the pool (R135-R139, R170-R175, R179-R181, R191, R484): translation, the guard check
or the drain that holds it, and the answers that need no slice. -/

namespace Sys2Proof.Machine

/-! ### Answers without a slice pass (R174, R484) -/

/-- What ends an access without a slice: refused by the guard (R174), at a hole or unmapped (R484), or on a lost expander. -/
inductive Ending where
  | guard | unmapped | lost
deriving DecidableEq, Repr

def endCode : Ending → Nat
  | .guard => 0x24
  | .unmapped => 0x21
  | .lost => 0x22

/-- The target code of a write that maps to an M-port, or has no port (R197). -/
def targetOf (m : Option (Nat × Nat)) : Nat := match m with
  | some x => 32 + x.1
  | none => 0x7E

/-- A host's request ends without a slice pass. -/
def State.endLine (s : State) (r : Req) (target : Nat) (why : Ending) : State :=
  let nd (s : State) (m : S2M) : State := s.sendS2M r.init r.tag m
  match r.kind with
  | .rdS | .rdO | .rdC | .atomic => nd (if r.noData then s else s.sendDrs r.init r.tag 0 true) .cmpS
  | .rel => nd s .cmp
  | .wrU | .wbI | .wbS => (nd s .cmp).dropWrite r.init r.seq target (endCode why) r.len r.addr

/-! ### Host accesses -/

/-- LOG_INFO.OP of a host's request (GUARD page 3). -/
def opOf : ReqKind → Nat
  | .rdS => 0
  | .rdO => 1
  | .rdC => 2
  | _ => 3

/-- The rights a host's request needs (R172): to read, to write. -/
def Req.needs (r : Req) : Bool × Bool :=
  match r.kind with
  | .rdS | .rdC => (true, false)
  | .rdO => (!r.noData, true)
  | .wrU => (false, true)
  | _ => (false, false)

/-- Does a request take the write-back lane (R153)? It needs no right (R172). -/
def ReqKind.lane (k : ReqKind) : Bool := decide (k = .wbI ∨ k = .wbS ∨ k = .rel)

/-- A write-back or release passes its check point and comes to its slice's lane; `r.mport` holds the target of R197. -/
def State.laneLine (s : State) (r : Req) : State :=
  let r' := { r with mport := r.mport - 32 }
  if r.mport = 0x7E then s.endLine r 0x7E .unmapped
  else if s.lost r'.mport && (decide (r.kind = .rel) || !s.snooping r.line) then s.endLine r r.mport .lost
  else s.viaLane (if r.kind = .rel then .rel r' else .wb r')

/-- A host's request at its check point: checked against the guard, then sent on to its slice (R173). `r.mport` holds the
target of R197. -/
def State.checkLine (s : State) (r : Req) : State :=
  if r.kind.lane then s.laneLine r else
  let n := r.needs
  match s.denied r.init n.1 n.2 false r.addr with
  | some why =>
    (s.logRefusal r.init (opOf r.kind) why r.addr 64 r.seq (if r.kind = .wrU then 1 else 0)).endLine r r.mport .guard
  | none =>
    if r.mport = 0x7E then s.endLine r 0x7E .unmapped
    else if s.lost (r.mport - 32) then s.endLine r r.mport .lost
    else
      let r' := { r with id := s.pool.nextId, mport := r.mport - 32, phase := .travel, came := s.cycle,
                         eOk := s.mayUse r.init true (s.colour (r.addr / 2097152)) }
      s.mapPool (fun p => { p with nextId := p.nextId + 1, reqs := p.reqs ++ [r'] })

/-- A DPA in no window of the host (R136). -/
def State.unmapped (s : State) (h dpa : Nat) : State :=
  (((s.sat (F.UNMAPPED_COUNT_COUNT h)).set (F.UNMAPPED_ADDR_LO_DPA h) dpa).set (F.UNMAPPED_ADDR_HI_DPA h) (dpa / 2 ^ 32)).raise 2849

/-! ### Accesses of the other initiators (R170, R175) -/

/-- The refused parts of an access that straddles granules are logged, and those of a write reported. -/
def State.logParts (s : State) (init op kind seq : Nat) (rd wr : Bool) (ps : List (Nat × Nat)) : State :=
  ps.foldl (fun s p => match s.denied init rd wr false p.1 with
    | some why => s.logRefusal init op why p.1 p.2 seq kind
    | none => s) s

/-- A read part goes to its slice line by line, or ends at once with poison (R484). -/
def State.readLine (s : State) (port init tag : Nat) (p : Nat × Nat) : State :=
  match s.poolMap (p.1 / 64 * 64) with
  | none => s.partDone init tag p.1 0 true
  | some x =>
    if s.lost x.1 then s.partDone init tag p.1 0 true
    else s.mapPool (fun q => { q with nextId := q.nextId + 1, reqs := q.reqs ++
      [{ id := q.nextId, port := port, init := init, tag := tag, kind := .rdC, addr := p.1, len := p.2, mport := x.1, dpa := x.2, came := s.cycle }] })

/-- A read is checked (R175): the bytes up to the first forbidden one go on, and a Completer Abort or error ends it. -/
def State.checkRead (s : State) (port init tag addr len : Nat) : State :=
  let gs := pieces 2097152 (len + 1) addr len
  let s1 := if 1 < gs.length then s.sat F.SPLIT_COUNT_COUNT else s
  let s2 := s1.logParts init 4 0 (s.nextSeq init) true false gs
  let good := gs.takeWhile (fun p => (s.denied init true false false p.1).isNone)
  let ls := good.foldl (fun l p => l ++ pieces 64 (p.2 + 1) p.1 p.2) []
  let x : FRead := { init := init, tag := tag, parts := ls.map (fun p => (p.1, p.2, none)), abort := decide (good.length < gs.length) }
  let s3 := (s2.mapPool (fun q => { q with freads := q.freads.filter (fun y => !(y.init == init && y.tag == tag)) ++ [x] }))
  let s4 := if ls.isEmpty then s3.flushRead x else s3
  ls.foldl (fun s p => s.readLine port init tag p) s4

/-- The bytes of an access from an address, line by line. -/
def State.writeLine (s : State) (port init seq base : Nat) (data : List (BitVec 8)) (p : Nat × Nat) (m dpa : Nat) : State :=
  let bytes := (data.drop (p.1 - base)).take p.2
  let off := p.1 % 64
  s.mapPool (fun q => { q with nextId := q.nextId + 1, reqs := q.reqs ++
    [{ id := q.nextId, port := port, init := init, tag := 0, kind := .wrU, addr := p.1, len := p.2, mport := m, dpa := dpa, seq := seq, came := s.cycle,
       wr := ⟨lineFrom off bytes, beFrom off p.2, false⟩ }] })

/-- A write part that the guard allows, within one 4 KiB chunk: sent on, or dropped at a hole or a lost expander. -/
def State.writePart (s : State) (port init seq base : Nat) (data : List (BitVec 8)) (p : Nat × Nat) : State :=
  match s.poolMap p.1 with
  | none => if numbered init then s.failWrite init seq 0x7E 0x21 p.2 p.1 else s
  | some x =>
    if s.lost x.1 then (if numbered init then s.failWrite init seq (32 + x.1) 0x22 p.2 p.1 else s)
    else
      (pieces 64 (p.2 + 1) p.1 p.2).foldl (fun s q =>
        let s1 := if numbered init then s.trackAdd init seq (32 + x.1) else s
        s1.writeLine port init seq base data q x.1 (x.2 + (q.1 / 64 * 64 - p.1))) s

/-- A write is checked part by part (R175): allowed parts are written, forbidden ones dropped and reported. -/
def State.checkWrite (s : State) (port init seq addr : Nat) (data : List (BitVec 8)) : State :=
  let gs := pieces 2097152 (data.length + 1) addr data.length
  let s1 := if 1 < gs.length then s.sat F.SPLIT_COUNT_COUNT else s
  gs.foldl (fun s p => match s.denied init false true false p.1 with
    | some why =>
      let s' := s.logRefusal init 5 why p.1 p.2 seq 1
      if numbered init then s'.failWrite init seq (targetOf (s.poolMap p.1)) 0x24 p.2 p.1
      else s'.poolAnswer init 0 none
    | none => (pieces 4096 (p.2 + 1) p.1 p.2).foldl (fun s q => s.writePart port init seq addr data q) s) s1

/-- An atomic operation is checked (R175): one that straddles a granule is refused whole. -/
def State.checkAtomic (s : State) (port init tag addr : Nat) (op : AtomicOp) : State :=
  let n := atomicBytes op
  let abort (s : State) : State := s.emit (.fnCpl init tag addr 0 none)
  let seq := s.nextSeq init
  if addr / 2097152 ≠ (addr + n - 1) / 2097152 then
    abort ((s.sat F.SPLIT_COUNT_COUNT).logRefusal init 6 4 addr n seq 2)
  else match s.denied init true true true addr with
    | some why => abort (s.logRefusal init 6 why addr n seq 2)
    | none =>
      if addr / 64 ≠ (addr + n - 1) / 64 then abort s
      else match s.poolMap (addr / 64 * 64) with
        | none => s.emit (.fnCpl init tag addr n (some (0, true)))
        | some x =>
          if s.lost x.1 then s.emit (.fnCpl init tag addr n (some (0, true)))
          else s.mapPool (fun q => { q with
            nextId := q.nextId + 1,
            freads := q.freads ++ [{ init := init, tag := tag, parts := [(addr, n, none)], abort := false }],
            reqs := q.reqs ++ [{ id := q.nextId, port := port, init := init, tag := tag, kind := .atomic, addr := addr, len := n,
                                 mport := x.1, dpa := x.2, aop := some op, came := s.cycle }] })

/-! ### Check points and drains (R179-R181) -/

/-- The granules whose colour entries a check reads. -/
def Access.granules : Access → List Nat
  | .line r => if r.kind.lane then [] else [r.addr / 2097152]
  | .read _ _ _ a n => (pieces 2097152 (n + 1) a n).map (fun p => p.1 / 2097152)
  | .write _ _ _ a b => (pieces 2097152 (b.length + 1) a b.length).map (fun p => p.1 / 2097152)
  | .atomic _ _ _ a op => if a / 2097152 = (a + atomicBytes op - 1) / 2097152 then [a / 2097152] else []

/-- An access is checked, against the colour entries as the check finds them (R176). -/
def State.check (s : State) (a : Access) : State :=
  let t := a.granules.foldl State.colourSeen s
  match a with
  | .line r => t.checkLine r
  | .read port init tag addr len => t.checkRead port init tag addr len
  | .write port init seq addr data => t.checkWrite port init seq addr data
  | .atomic port init tag addr op => t.checkAtomic port init tag addr op

/-- A held write's number and targets, so that fences see it (R198), and removals fail it (R193). A host's line is tracked from its
port on. -/
def State.heldTargets (s : State) : Access → List (Nat × Nat × Nat)
  | .write _ init seq addr data => if numbered init then
      ((pieces 4096 (data.length + 1) addr data.length).map (fun p => (init, seq, targetOf (s.poolMap p.1)))).eraseDups
    else []
  | _ => []

/-- An access reaches its check point: checked, or held while a drain runs. -/
def State.present? (s : State) (a : Access) : State :=
  if s.gd.drain.isEmpty then (s.check a).advance
  else (s.mapGd (fun g => { g with held := g.held ++ [a], marks := g.marks ++ s.heldTargets a })).trackAll (s.heldTargets a)

/-- What tells the accesses on their way apart: the lines of one access of a function, of scan-out or of the bridge are one access. -/
def Req.access (r : Req) : Nat × Nat × Bool × Nat :=
  (r.init, if r.init < 32 then r.id else if r.kind = .wrU then r.seq else r.tag, decide (r.kind = .wrU), r.came)

/-- The accesses checked under the old rules that neither a tracker nor the write-back lane of a slice has accepted yet (R179, R180). -/
def State.straggling (s : State) : Nat :=
  ((s.pool.reqs.filter (fun r => decide (r.phase = .travel))).map Req.access).eraseDups.length +
  (s.pool.lane.filter (fun x => match x with
    | .bir _ _ _ _ _ => false
    | _ => true)).length

/-- A drain ends (R179): the accesses it held are checked under the new rules, in arrival order. -/
def State.releaseHeld (s : State) : State :=
  let l := s.gd.held
  (l.foldl State.check ((s.trackNone s.gd.marks).mapGd (fun g => { g with held := [], marks := [] }))).advance

/-! ### A host's CXL.mem request (R136, R141, R197) -/

/-- A host's request reaches its H-port (R136, R141): translated, numbered if it writes, then checked. -/
def State.hostReq (s : State) (h tag dpa : Nat) (kind : ReqKind) (noData : Bool) (w : LineData) : State :=
  let a := dpa / 64 * 64
  let wr := decide (kind = .wrU ∨ kind = .wbI ∨ kind = .wbS)
  let seq := s.nextSeq h
  let sIn := s.cellsIn h (if wr then 64 else 0)
  let s0 := if wr then sIn.takeSeq h else sIn
  let r : Req := { port := h, init := h, tag := tag, kind := kind, noData := noData, addr := a, wr := w, seq := seq }
  let lane := kind.lane
  if s.shut then s.shutOut h
  else match (if lane then (s.lensOld h a).map (fun x => (0, x)) else s.lens h a) with
  | none =>
    let s1 := s0.unmapped h a
    let s2 := if wr then s1.trackAdd h seq 0x7E else s1
    s2.endLine r 0x7E .unmapped
  | some (win, pa) =>
    let m := if lane then s.poolMapOld pa else s.poolMap pa
    let t := targetOf m
    let s1 := if wr then s0.trackAdd h seq t else s0
    let r' : Req := { r with addr := pa, mport := t, dpa := (match m with
                        | some x => x.2
                        | none => 0), creamOk := s.on (F.WIN_ATTR_CREAM win) }
    s1.present? (.line r')

end Sys2Proof.Machine
end

