-- ==== Sys2Proof/Machine/PoolFx.lean ====
section
/-! DEFINITION. The DIR, CREAM and GUARD pages (R134-R139, R147, R152, R161, R164-R168, R176-R183): why a write is refused, what a
stored write does, the registers formed at the read, the slices and reflectors, and the guard's drains. -/

namespace Sys2Proof.Machine

/-! ### Regions and windows (R134, R135, R137, R138) -/

/-- Do two ranges of a base and a size overlap? -/
def overlap (b1 n1 b2 n2 : Nat) : Bool := decide (b1 < b2 + n2) && decide (b2 < b1 + n1)

/-- May a region be enabled with a REG_CFG word (R134)? -/
def State.regionOk (s : State) (r v : Nat) : Bool :=
  let g := s.region r
  let ways := bits v 4 4 + 1
  let ports := (List.range ways).map (fun w => bits g.tgts (4 * w) 4)
  decide (1 ≤ g.size) && decide (g.base + g.size ≤ 32768) && g.size * 2 ^ 30 % (ways * (4096 * 2 ^ bits v 8 5)) == 0 &&
  decide (ports.eraseDups.length = ways) &&
  (List.range 16).all (fun q => q == r || !s.on (F.REG_CFG_EN q) || !overlap g.base g.size (s.region q).base (s.region q).size)

/-- May a window of a host be enabled (R137)? `k` is host * 64 + window. -/
def State.windowOk (s : State) (k : Nat) : Bool :=
  let n := s.get (F.WIN_SIZE_UNITS k)
  let d := s.get (F.WIN_DPA_UNITS k)
  let p := s.get (F.WIN_POOL_UNITS k)
  decide (1 ≤ n) && decide (d + n ≤ s.eff (F.LENS_SIZE_UNITS (k / 64))) &&
  (List.range 64).all (fun w =>
    let j := k / 64 * 64 + w
    j == k || !s.on (F.WIN_ATTR_EN j) ||
      (!overlap d n (s.get (F.WIN_DPA_UNITS j)) (s.get (F.WIN_SIZE_UNITS j)) &&
       !overlap p n (s.get (F.WIN_POOL_UNITS j)) (s.get (F.WIN_SIZE_UNITS j))))

/-- POOL_STAT.RECALL follows the regions' RECALL bits. -/
def State.poolRecall (s : State) : State :=
  s.put F.POOL_STAT_RECALL ((List.range 16).any (fun r => s.on (F.REG_CFG_RECALL r)))

/-- A region recall begins (R135), with the region as it was. -/
def State.regionRecall (s : State) (r : Nat) (g : Region) : State :=
  (((s.put (F.REG_CFG_RECALL r) true).mapPool (fun p => { p with recalls := tset p.recalls r g })).poolRecall).advance

/-- A region recall ends (R135) once no entry and no request of it is left. -/
def State.regionRecallEnd (s : State) (r : Nat) : State :=
  match s.pool.recalls.find? (fun e => e.1 == r) with
  | none => s
  | some e =>
    if s.pool.dir.any (fun x => e.2.holds (x.2.line * 64)) || s.pool.reqs.any (fun r => e.2.holds r.addr) then s
    else (((s.mapPool (fun p => { p with recalls := tdel p.recalls r })).put (F.REG_CFG_RECALL r) false).poolRecall).raise 2838

/-- A window recall begins (R138), with the window as it was. -/
def State.windowRecall (s : State) (k : Nat) : State :=
  let w : WinRecall := { host := k / 64, win := k % 64, dpa := s.get (F.WIN_DPA_UNITS k), size := s.get (F.WIN_SIZE_UNITS k),
                         pool := s.get (F.WIN_POOL_UNITS k) }
  ((s.put (F.WIN_ATTR_RECALL k) true).mapPool (fun p => { p with wins := p.wins.filter (fun x => !(x.host == w.host && x.win == w.win)) ++ [w] })).advance

/-- A window recall ends (R138) once its host holds no line of it and has no request for one. -/
def State.windowRecallEnd (s : State) (h w : Nat) : State :=
  match s.pool.wins.find? (fun x => x.host == h && x.win == w) with
  | none => s
  | some x =>
    if s.pool.dir.any (fun e => hasBit e.2.hosts h && inUnits x.pool x.size (e.2.line * 64)) ||
       s.pool.reqs.any (fun r => r.init == h && inUnits x.pool x.size r.addr) then s
    else ((s.mapPool (fun p => { p with wins := p.wins.filter (fun y => !(y.host == h && y.win == w)) })).put
      (F.WIN_ATTR_RECALL (h * 64 + w)) false).raise 2848

/-! ### Slices and reflectors (R164, R165) -/

/-- SLICE_STAT of a slice: 0 ACTIVE, 1 RECON, 2 REBUILDING, 3 REPLACED. -/
def sliceFld (d : Nat) : Fld := if d < 16 then F.SLICE_STAT0_STATE else F.SLICE_STAT1_STATE

def State.sliceState (s : State) (d : Nat) : Nat := bits (s.get (sliceFld d)) (2 * (d % 16)) 2

def State.setSlice (s : State) (d v : Nat) : State :=
  let w := s.get (sliceFld d)
  s.set (sliceFld d) (w - 4 ^ (d % 16) * bits w (2 * (d % 16)) 2 + 4 ^ (d % 16) * v)

/-- The slices of a group that are served by reconstruction. -/
def State.onRecon (s : State) (g : Nat) : List Nat :=
  ((List.range 16).map (fun k => 16 * g + k)).filter (fun d => s.sliceState d == 1 || s.sliceState d == 2)

/-- Coherence of slices' lines is lost (R165). -/
def State.groupLost (s : State) (l : List Nat) : State :=
  ((s.mapPool (fun p => { p with dead := (p.dead ++ l).eraseDups, fenced := p.fenced.filter (fun d => !l.contains d) })).raise 2845).advance

/-- A running rebuild of one of these slices stops. -/
def State.stopRebuild (s : State) (l : List Nat) : State :=
  if s.on F.REBUILD_STAT_ACTIVE && l.contains (s.get F.REBUILD_STAT_SLICE) then
    (s.set F.REBUILD_STAT_ACTIVE 0).setSlice (s.get F.REBUILD_STAT_SLICE) 1
  else s

/-- A data slice fails (R164, R165). -/
def State.sliceFail (s : State) (d cause : Nat) : State :=
  if s.sliceState d ≠ 0 ∨ s.pool.dead.contains d then s
  else
    let others := s.onRecon (d / 16)
    let s1 := ((((s.softRecord 5 d 0).set F.SLICE_FAIL_LOG_CAUSE cause).set F.SLICE_FAIL_LOG_SLICE d).setSlice d 1).raise 2840
    if !others.isEmpty || s1.get (reflector (d / 16)) == 2 then (s1.stopRebuild (d :: others)).groupLost (d :: others)
    else
      let s2 := s1.mapPool (fun p => { p with fenced := d :: p.fenced, failAt := tset p.failAt d s.now })
      if s2.get F.SPARE_STAT_DX = 0 then s2 else (s2.mapPool (fun p => { p with forGood := d :: p.forGood })).raise 2843

/-- The trackers of a slice are restored from the reflector controller's copies (R163, R164). -/
def State.restoreTrackers (s : State) (d : Nat) : State :=
  s.mapPool (fun p => { p with reqs := p.reqs.map (fun r =>
    if decide (r.phase ≠ .travel) && sliceOf r.line == d then (p.trk.find? (fun y => y.id == r.id)).getD r else r) })

/-- Reconstruction serves a failed slice (R164): its trackers are restored, held requests resume, and the rebuild into DX starts if DX is the
spare. -/
def State.reconServes (s : State) (d : Nat) : State :=
  if s.pool.fenced.contains d then
    let s1 := (((s.restoreTrackers d).mapPool (fun p => { p with fenced := p.fenced.erase d })).set F.RECON_LAST_NS (s.now - tget 0 s.pool.failAt d)).raise 2841
    let s2 := if s1.get F.SPARE_STAT_DX = 0 then
        ((s1.setSlice d 2).sets [(F.SPARE_STAT_DX, 1), (F.REBUILD_STAT_ACTIVE, 1), (F.REBUILD_STAT_SLICE, d), (F.REBUILD_STAT_ROW, 0)]).mapPool
          (fun p => { p with rebAt := s.now })
      else s1
    s2.advance
  else s

/-- REBUILD_STAT.ROW (R164): the rebuild copies one row every 80 ns in ascending order. -/
def State.rebuildRow (s : State) : Nat :=
  if s.on F.REBUILD_STAT_ACTIVE then min 49152 ((s.now - s.pool.rebAt) / 80) else s.get F.REBUILD_STAT_ROW

/-- Is a row of a slice read by reconstruction (R164): the slice is on reconstruction, or its rebuild has not reached the row? -/
def State.reconRow (s : State) (d row : Nat) : Bool :=
  s.sliceState d == 1 || (s.sliceState d == 2 && decide (s.rebuildRow ≤ row))

/-- The rebuild into DX ends (R164), all rows copied. -/
def State.rebuildDone (s : State) (d : Nat) : State :=
  if s.on F.REBUILD_STAT_ACTIVE ∧ s.get F.REBUILD_STAT_SLICE = d ∧ s.rebuildRow = 49152 then
    ((s.setSlice d 3).sets [(F.REBUILD_STAT_ACTIVE, 0), (F.REBUILD_STAT_ROW, 49152), (F.SPARE_STAT_ROLE_VALID, 1),
      (F.SPARE_STAT_ROLE, d), (F.REBUILD_LAST_US, (s.now - s.pool.rebAt) / 1000)]).raise 2842
  else s

/-- An uncorrectable entry of a slice's row (R164): the row is formed from the group's other rows and the reflector's, and rewritten; a second
fix of the same row within 1 s fails the slice. -/
def State.rowFix (s : State) (d row : Nat) : State :=
  let again := match s.pool.fixes.find? (fun e => e.1 == 49152 * d + row) with
    | some e => decide (s.now < e.2 + 1000000000)
    | none => false
  let s1 := ((s.mapPool (fun p => { p with fixes := tset p.fixes (49152 * d + row) s.now })).sat F.ROW_FIX_COUNT_COUNT).raise 2846
  if again then s1.sliceFail d 3 else s1

/-- What befalls a data slice (R164), by the causes of SLICE_FAIL_LOG. -/
def State.sliceTrouble (s : State) (d : Nat) : SliceTrouble → State
  | .control => s.sliceFail d 1
  | .tracker => s.sliceFail d 2
  | .entry row => s.rowFix d row
  | .corrected n => if s.get F.SLICE_CE_LIMIT_COUNT ≤ n then s.sliceFail d 4 else s

/-- A reflector fails (R165). Where a slice of its group is on reconstruction, that slice's lines lose their coherence as with a second failure of
the group (R165 tells only of a whole group: DESIGN CHOICE, log entry 93). -/
def State.reflectorFail (s : State) (g : Nat) : State :=
  if s.get (reflector g) = 2 then s
  else
    let s1 := ((s.softRecord 5 (32 + g) 0).set (reflector g) 2).raise 2844
    if (s1.onRecon g).isEmpty then s1 else (s1.stopRebuild (s1.onRecon g)).groupLost (s1.onRecon g)

/-- The spare slice DX fails (R165); a slice whose role it carries goes back to reconstruction (DEDUCED, log entry 32). -/
def State.dxFail (s : State) : State :=
  if s.get F.SPARE_STAT_DX = 2 then s
  else
    let s1 := ((s.softRecord 5 34 0).stopRebuild (List.range 32)).set F.SPARE_STAT_DX 2
    let s2 := if s1.on F.SPARE_STAT_ROLE_VALID then (s1.setSlice (s1.get F.SPARE_STAT_ROLE) 1).set F.SPARE_STAT_ROLE_VALID 0 else s1
    s2.raise 2843

/-- SLICE_CMD is written (R164): FORCE fails the slice in FACTORY and RETURNED; the hub returns it to 0. -/
def State.sliceCmd (s : State) (v : Nat) : State :=
  let s1 := s.set F.SLICE_CMD_FORCE 0
  if hasBit v 5 && s.testMode then s1.sliceFail (bits v 0 5) 5 else s1

/-! ### Entry access (R143, R168) -/

/-- The entry at a position; an unused way is in I. -/
def State.entryAt (s : State) (pos : Nat) : DirEntry := tget unusedWay s.pool.dir pos

/-- The entry at ENT_POS is copied to ENT_DATA. -/
def State.copyEntry (s : State) : State :=
  let d := s.get F.ENT_POS_SLICE
  let b := entryBits (s.entryAt ((d * 16384 + s.get F.ENT_POS_SET) * 18 + s.get F.ENT_POS_WAY))
  s.sets [(F.ENT_DATA0_BITS, b), (F.ENT_DATA1_BITS, b / 2 ^ 32), (F.ENT_DATA2_BITS, b / 2 ^ 64), (F.ENT_STAT_BUSY, 0),
    (F.ENT_STAT_RECON, b2n (s.reconRow d (3 * s.get F.ENT_POS_SET + s.get F.ENT_POS_WAY / 6)))]

/-- ENT_CMD.BY_ADDR (R168): the address is looked up, and ENT_POS filled on a hit; a miss has no entry to copy, and ENT_DATA
stays (DEDUCED, log 28). -/
def State.byAddr (s : State) : State :=
  let l := s.get64 F.ENT_ADDR_LO_ADDR F.ENT_ADDR_HI_ADDR / 64
  match s.wayOf l with
  | some w => (s.sets [(F.ENT_POS_SLICE, sliceOf l), (F.ENT_POS_SET, setOf l), (F.ENT_POS_WAY, w), (F.ENT_STAT_HIT, 1)]).copyEntry
  | none => s.sets [(F.ENT_STAT_HIT, 0), (F.ENT_STAT_RECON, b2n (s.reconRow (sliceOf l) (3 * setOf l)))]

/-- ENT_CMD is written. -/
def State.entCmd (s : State) (v : Nat) : State :=
  let s1 := if hasBit v 0 then s.byAddr else s
  if hasBit v 1 then s1.copyEntry else s1

/-! ### Cream caches (R147, R149, R152) -/

/-- A bank of a cream cache faults (R149): its content is dropped and it retires. -/
def State.creamFault (s : State) (n b : Nat) (ceLimit : Bool) : State :=
  if s.creamBank n b = 2 then s
  else
    let w := s.get (F.CR_BANK_STAT_STATE n)
    let s1 := ((s.softRecord 6 (8 * n + b) 0).set (F.CR_BANK_STAT_STATE n) (w - 4 ^ b * bits w (2 * b) 2 + 4 ^ b * 2)).creamDrop n (some b)
    (s1.raise (2881 + 4 * n)).raiseIf ceLimit (2883 + 4 * n)

/-- The word of the cream line that would serve a line is uncorrectable (R159): a fault of its bank. -/
def State.creamWord (s : State) (r : Req) : State :=
  let e := s.entry r.line
  match (if e.st = .f then (r.order e).find? (fun n => (s.copy? n r.line).isSome) else none) with
  | some n => s.creamFault n (bits r.line 0 3) false
  | none => s

/-- CR_CTRL is written: DROP, or EN cleared, drops the content. -/
def State.crCtrl (s s0 : State) (n v : Nat) : State :=
  let off := s0.on (F.CR_CTRL_EN n) && !s.on (F.CR_CTRL_EN n)
  let s1 := if hasBit v 2 || off then s.creamDrop n none else s
  s1.raiseIf off (2882 + 4 * n)

/-! ### What the arrays show on the way of a host's request (R159, R164, R176) -/

/-- A host's request meets an uncorrectable or corrected word: of its colour entry at its check, of its line's row at its lookup, of the cream
line that would serve it. -/
def State.looked (s : State) (h tag dpa : Nat) (k : Look) (kind : ReqKind) (noData : Bool) : State :=
  let lane := kind.lane
  let checks := !lane && s.gd.drain.isEmpty
  let s := s.colourUpset k.colours
  match (if s.shut then none else if lane then s.lensOld h dpa else (s.lens h dpa).map (fun x => x.2)) with
  | none => s
  | some pa =>
    let s1 := if checks then s.colourSeen (pa / 2097152) else s
    let r : Req := { port := h, init := h, tag := tag, kind := kind, noData := noData, addr := pa }
    let there := match s1.poolMapOld pa with
      | some x => !s1.lost x.1
      | none => false
    if there && (lane || (checks && (s1.denied h r.needs.1 r.needs.2 false pa).isNone)) then
      let s2 := match k.row with
        | some i => s1.rowFix (sliceOf r.line) (3 * setOf r.line + i)
        | none => s1
      if k.cream && decide (kind = .rdS ∨ kind = .rdC ∨ (kind = .rdO ∧ noData = false)) then s2.creamWord r else s2
    else s1

/-- A host's CXL.mem request comes, with what its way shows. -/
def State.hostMem (s : State) (h tag : Nat) (x : MemAddr) (kind : ReqKind) (noData : Bool) (w : LineData) : State :=
  (s.looked h tag (x.dpa.toNat / 64 * 64) x.look kind noData).hostReq h tag x.dpa.toNat kind noData w

/-! ### Drains of the guard (R179-R181) -/

/-- DRAIN_MAX.RESET (R183). -/
def State.drainMaxReset (s : State) : State := s.set F.DRAIN_MAX_NS 0

/-- LOG_CLR (R182). -/
def State.logClr (s : State) : State := s.set F.LOG_STAT_FILL 0

/-- A drain begins for the transactions whose conditions are met in one cycle (R179, R181). -/
def State.drainBegin (s : State) (l : List Nat) : State :=
  let s1 := l.foldl (fun s i => s.setSlot i { s.slot i with drain := true }) s
  (s1.mapGd (fun g => { g with drain := l, start := s.now })).sets [(F.DRAIN_STAT_ACTIVE, 1), (F.DRAIN_STAT_SLOT, l.headD 0)]

/-- A drain's end is recorded (R179, R180). -/
def State.drainRecord (s : State) : State :=
  let n := min 2000 (s.now - s.gd.start)
  let k := s.straggling
  let s1 := s.sets [(F.DRAIN_STAT_ACTIVE, 0), (F.DRAIN_STAT_STRAGGLED, b2n (k != 0)), (F.DRAIN_LAST_NS, n),
    (F.DRAIN_MAX_NS, max n (s.get F.DRAIN_MAX_NS))]
  ((s1.sat F.STRAGGLE_COUNT_COUNT k).raiseIf (k != 0) 2945).mapGd (fun g => { g with drain := [] })

/-! ### Writes to the pages -/

/-- Why a write to these pages is refused beyond its form. -/
def State.poolChk (s : State) (x : Wr) : Option Reason :=
  let bad := fun b => if b then some Reason.badValue else none
  match x.k with
  | .dir1 =>
    let r := x.i
    if x.ro = 0x240 ∨ x.ro = 0x244 then none
    else if x.ro = 0x48 then
      (if s.on (F.REG_CFG_EN r) then
        bad (bits x.v 16 11 != s.get (F.REG_CFG_DBASE_GIB r) || bits x.v 8 5 != s.get (F.REG_CFG_GRAN r) ||
          bits x.v 4 4 != s.get (F.REG_CFG_WAYS r))
       else bad (hasBit x.v 0 && !s.regionOk r x.v))
    else bad (s.on (F.REG_CFG_EN r))
  | .dir2 =>
    if x.ro = 0x48 ∨ x.ro = 0x4c ∨ x.ro = 0x50 then bad (s.on (F.WIN_ATTR_EN x.w))
    else if x.ro = 0x54 then
      (if s.on (F.WIN_ATTR_EN x.w) then bad (hasBit x.v 1 != s.on (F.WIN_ATTR_CREAM x.w))
       else bad (hasBit x.v 0 && !s.windowOk x.w))
    else none
  | .cream => bad (x.ro == 0x40 && hasBit x.v 0 && !s.native)
  | .guard1 => bad (x.ro == 0x44 && decide (16777216 < x.w + bits x.v 0 17 + 1))
  | .guard2 => bad (x.ro == 0x40 && (decide (34 ≤ bits x.v 0 9 ∧ bits x.v 0 9 < 64) || decide (320 ≤ bits x.v 0 9)))
  | _ => none

/-- The effect of a stored write to these pages. -/
def State.poolFx (s s0 : State) (x : Wr) : State :=
  match x.k with
  | .dir1 =>
    if x.ro = 0x48 then (if s0.on (F.REG_CFG_EN x.i) && !hasBit x.v 0 then s.regionRecall x.i (s0.region x.i) else s)
    else if x.ro = 0x244 then s.set F.POOL_STAT_LOST (Nat.land (s.get F.POOL_STAT_LOST) (65535 - bits x.v 0 16))
    else s
  | .dir2 => if x.ro = 0x54 ∧ s0.on (F.WIN_ATTR_EN x.w) ∧ !hasBit x.v 0 then s.windowRecall x.w else s
  | .dir3 => if x.ro = 0x58 then s.sliceCmd x.v else s
  | .dir4 => if x.ro = 0x4c then s.entCmd x.v else s
  | .cream => if x.ro = 0x40 then s.crCtrl s0 x.n x.v else s
  | .guard0 => if x.ro = 0x4c ∧ hasBit x.v 31 then s.drainMaxReset else s
  | .guard1 => if x.ro = 0x44 then s.fill x.w (bits x.v 0 17 + 1) (bits x.v 24 8) else s
  | .guard3 => if x.ro = 0x44 ∧ hasBit x.v 0 then s.logClr else s
  | _ => s

/-- The registers of these pages that are formed at the read. -/
def State.poolRead (s : State) (x : Wr) : Option Nat :=
  match x.k with
  | .cream =>
    if x.ro = 0x40 ∧ s.native = false then some (2 * s.get (F.CR_CTRL_RET_KEEP x.n))
    else if x.ro = 0x4c then some (s.creamLines x.n).length
    else if x.ro = 0x50 then some ((s.creamLines x.n).filter (fun c => c.f)).length
    else none
  | .dir3 => if x.ro = 0x4c then
      some (2 ^ 31 * s.get F.REBUILD_STAT_ACTIVE + 65536 * s.get F.REBUILD_STAT_SLICE + s.rebuildRow)
    else none
  | .guard1 => if x.ro = 0x48 then some (256 * b2n (s.gd.bad.contains x.w) + s.colour x.w) else none
  | .mport =>
    if x.ro = 0x54 then
      let ts := s.pool.tags.filter (fun e => e.1 / 4096 == x.n)
      some (65536 * (ts.filter (fun e => decide (e.2.st = .wait))).length +
        (ts.filter (fun e => decide (e.2.st ≠ .wait) && decide (e.2.st ≠ .free))).length)
    else none
  | _ => none

end Sys2Proof.Machine
end

