-- ==== Sys2Proof/Machine/Sig.lean ====
section
/-! DEFINITION. The signal bridge below the core (R348-R366): its messages and their failures, register operations, semaphores and
tokens, read-ahead buffers, and what a lost link or host ends. What it sends stands in `br.outQ` until the core takes it. -/

namespace Sys2Proof.Machine

def State.mapBr (s : State) (f : BrSt → BrSt) : State := { s with br := f s.br }

def State.sigTgt (s : State) (t : Nat) : SigTarget := tget {} s.br.tgts t

def State.setSigTgt (s : State) (t : Nat) (x : SigTarget) : State := s.mapBr (fun b => { b with tgts := tset b.tgts t x })

def State.mapSigTgt (s : State) (t : Nat) (f : SigTarget → SigTarget) : State := s.setSigTgt t (f (s.sigTgt t))

/-- A message waits for the core. -/
def State.sigPush (s : State) (m : SigMsg) : State := s.mapBr (fun b => { b with outQ := b.outQ ++ [m] })

/-- A message under way, by its cell. -/
def State.sigMsg? (s : State) (id : Nat) : Option SigMsg := (s.br.msgs.find? (fun e => e.1 == id)).map (fun e => e.2)

/-- A message is no longer the bridge's. -/
def State.sigForget (s : State) (id : Nat) : State := s.mapBr (fun b => { b with msgs := tdel b.msgs id })

/-- Is a dock port's link UP and its T-SIG channel OPEN (R355)? -/
def State.sigOpen (s : State) (n tch : Nat) : Bool := decide (2 ≤ s.get (F.LK_STAT_STATE n)) && s.get (F.CH_INFO_STATE n (128 + tch)) == 1

/-! ### Failures (R365, R366) -/

/-- The reasons of R366. -/
inductive SigReason where
  | noRoute | disabled | holdFull | holdExpired | linkDown | destClosed | timeout | semBusy | device | guard | badMessage | stale
deriving DecidableEq, Repr

def sigCode : SigReason → Nat
  | .noRoute => 1
  | .disabled => 2
  | .holdFull => 3
  | .holdExpired => 4
  | .linkDown => 5
  | .destClosed => 6
  | .timeout => 7
  | .semBusy => 8
  | .device => 9
  | .guard => 10
  | .badMessage => 11
  | .stale => 12

/-- A failure is counted, latched in BR_LOG and raises EV3584; NO_ROUTE also EV3588. -/
def State.brCount (s : State) (port : Nat) (r : SigReason) : State :=
  let s1 := ((s.sat F.BR_FAIL_COUNT_COUNT).sets [(F.BR_LOG_PORT, port), (F.BR_LOG_REASON, sigCode r)]).raise 3584
  if r = .noRoute then (s1.sat F.BR_NO_ROUTE_COUNT).raise 3588 else s1

/-- A mailbox command fails (R357). -/
def State.cmdFail (s : State) (h seq : Nat) (r : SigReason) : State := (s.brCount h r).complete h seq (sigCode r) 0

/-- The result of a bridge engine's command (R398), which raises its normal request (R388). -/
def State.brStat (s : State) (e reason : Nat) : State :=
  let s1 := (s.sets [(F.ENG_BRSTAT_DONE e, 1), (F.ENG_BRSTAT_REASON e, reason)]).emit (.engReq e 0x81 reason)
  { s1 with engs := { s1.engs with brDone := e :: s1.engs.brDone.erase e } }

/-- An ERROR message to a dock device (R350, R365), if the channel it sent on is still open. -/
def State.sigError (s : State) (n tch op ch : Nat) (r : SigReason) : State :=
  if s.sigOpen n tch then
    s.sigPush { dst := 48 + n, tch := tch, op := 0x7F, payload := [BitVec.ofNat 8 (sigCode r), BitVec.ofNat 8 op] ++ leBytes 2 ch }
  else s

/-! ### The discarded-prefetch log (R364) -/

/-- An entry of the DPF log. -/
def State.dpfLog (s : State) (b : RaBuf) (cause : Nat) : State :=
  let lost := b.served.zipIdx.filter (fun x => !x.1)
  match lost with
  | [] => s
  | x :: _ =>
    let i := s.get F.DPF_STAT_NEXT
    let full := s.get F.DPF_STAT_FILL == 16
    (((s.sets [(F.DPF_INFO_HOST i, b.host), (F.DPF_INFO_CAUSE i, cause), (F.DPF_INFO_PORT i, b.tgt / 32), (F.DPF_INFO_TCH i, b.tgt % 32),
      (F.DPF_INFO_BYTES i, lost.length), (F.DPF_ADDR_ADDR i, b.addr + x.2), (F.DPF_TIME_LO_NS i, s.now), (F.DPF_TIME_HI_NS i, s.now / 2 ^ 32),
      (F.DPF_STAT_NEXT, i + 1), (F.DPF_STAT_FILL, min 16 (s.get F.DPF_STAT_FILL + 1))]).raise 3616).raiseIf full 3617)

/-- A read-ahead buffer is discarded: cause 1 LIFE, 2 WRITE, 3 LOCK, 4 EVICT, 5 LINK. -/
def State.raDrop (s : State) (i cause : Nat) : State :=
  match s.br.bufs.find? (fun e => e.1 == i) with
  | none => s
  | some e => (s.mapBr (fun b => { b with bufs := tdel b.bufs i })).dpfLog e.2 cause

/-- The buffers that meet a condition are discarded. -/
def State.raDropIf (s : State) (f : RaBuf → Bool) (cause : Nat) : State :=
  ((s.br.bufs.filter (fun e => f e.2)).map (fun e => e.1)).foldl (fun s i => s.raDrop i cause) s

/-- Do two ranges overlap? -/
def overlaps (a n b m : Nat) : Bool := decide (a < b + m) && decide (b < a + n)

/-- A write of a target's range (R364): buffers it overlaps go first, and surplus of reads still under way is not kept. -/
def State.raWrite (s : State) (t addr len : Nat) : State :=
  let s1 := s.raDropIf (fun b => b.tgt == t && overlaps b.addr b.data.length addr len) 2
  s1.mapSigTgt t (fun x => { x with out := x.out.map (fun o => if overlaps o.addr o.len addr len then { o with keep := false } else o) })

/-- A SEM_TAKE or EDGE_RMW takes a target (R364). -/
def State.raLock (s : State) (t : Nat) : State :=
  (s.raDropIf (fun b => b.tgt == t) 3).mapSigTgt t (fun x => { x with out := x.out.map (fun o => { o with keep := false }) })

/-! ### Tokens and semaphores (R48, R359) -/

def State.semTok (s : State) (i : Nat) : SemTok := tget {} s.br.toks i

def State.setSemTok (s : State) (i : Nat) (x : SemTok) : State := s.mapBr (fun b => { b with toks := tset b.toks i x })

/-- The target whose semaphore a token holds, if the token is the present one. -/
def State.tokTarget (s : State) (tok : Nat) : Option Nat :=
  let x := s.semTok (tok % 2 ^ 28)
  if x.gen = tok / 2 ^ 28 then x.tgt else none

/-- The lowest token index that is neither held nor in quarantine. -/
def State.freeTok (s : State) : Nat :=
  ((List.range (s.br.toks.length + 1)).map (· + 1)).find? (fun i => (s.semTok i).tgt.isNone && !(s.semTok i).quar) |>.getD 0

/-- The semaphore of a target is released and its token, if any, spent. -/
def State.semFree (s : State) (t : Nat) : State :=
  let x := s.sigTgt t
  let s1 := s.setSigTgt t { x with sem := .free, brk := false }
  match x.sem with
  | .token tok _ => s1.setSemTok (tok % 2 ^ 28) { s1.semTok (tok % 2 ^ 28) with tgt := none, quar := true }
  | _ => s1

/-- SEM_TAKE gets a semaphore (R359): a new token. -/
def State.semGrant (s : State) (t h seq : Nat) : State :=
  let i := s.freeTok
  let gen := ((s.semTok i).gen + 1) % 16
  let tok := gen * 2 ^ 28 + i
  (((s.setSemTok i { gen := gen, tgt := some t, quar := false }).mapSigTgt t (fun x => { x with sem := .token tok h })).raLock t).complete h seq 0 tok

/-! ### Register operations (R358-R360) -/

/-- A register operation fails, at its initiator (R365); a poll that fails keeps its period (R361). -/
def State.opReport (s : State) (o : RegOp) (r : SigReason) : State :=
  let s0 := if r = .timeout then (s.sat F.BR_TIMEOUT_COUNT_COUNT).raise 3585 else s
  match o.why with
  | .read h seq _ _ | .write h seq | .rmw h seq _ _ | .rmwW h seq _ => s0.cmdFail h seq r
  | .poll e => ((s0.brCount 65 r).set (F.PL_STAT_BUSY e) 0).raise 3601
  | .gone => s0

/-- The payload of REG_WRITE or REG_READ (R350). -/
def opBytes (o : RegOp) : List (BitVec 8) :=
  leBytes 2 o.seq ++ [0, BitVec.ofNat 8 o.len] ++ leBytes 4 o.addr ++ (if o.write then o.data else [])

/-- A register operation goes out to its target with the next SEQ (R358). -/
def State.opSend (s : State) (t : Nat) (o : RegOp) : State :=
  let s1 := if o.write then s.raWrite t o.addr o.len else s
  let x := s1.sigTgt t
  let o' := { o with seq := x.next }
  (s1.setSigTgt t { x with next := (x.next + 1) % 65536, out := x.out ++ [o'] }).sigPush
    { dst := 48 + t / 32, tch := t % 32, orig := .op t o.num, op := if o.write then 1 else 2, payload := opBytes o' }

/-- What at a target may go on now (R358, R359): in arrival order while the semaphore is free, only what bears its token while one is held,
nothing while an EDGE_RMW holds it. -/
def SigTarget.nextWait (x : SigTarget) : Option SigWait :=
  match x.sem with
  | .free => x.wait.head?
  | .token tok _ => x.wait.find? (fun w => match w with
    | .op o => o.token == tok
    | .take _ _ => false)
  | .rmw _ _ => none

/-- Is an EDGE_RMW's read without a token, which takes the semaphore (R359)? -/
def RegOp.locks (o : RegOp) : Option Nat :=
  match o.why with
  | .rmw h _ _ _ => if o.token = 0 then some h else none
  | _ => none

/-- Everything at a target that may go on does; at most 16 operations are outstanding. -/
def State.sigPump : Nat → State → Nat → State
  | 0, s, _ => s
  | k + 1, s, t =>
    let x := s.sigTgt t
    match x.nextWait with
    | none => s
    | some (.take h seq) => ((s.setSigTgt t { x with wait := x.wait.erase (.take h seq) }).semGrant t h seq).sigPump k t
    | some (.op o) =>
      let s1 := s.setSigTgt t { x with wait := x.wait.erase (.op o) }
      if o.token ≠ 0 ∧ (s.tokTarget o.token).isNone then ((s1.stale 4).opReport o .stale).sigPump k t
      else if !s.sigOpen (t / 32) (t % 32) then (s1.opReport o .destClosed).sigPump k t
      else if 16 ≤ x.out.length then s
      else
        let s2 := match o.locks with
          | some h => (s1.mapSigTgt t (fun x => { x with sem := .rmw o.num h })).raLock t
          | none => s1
        (s2.opSend t o).sigPump k t

/-- Everything at a target goes on as far as it can. -/
def State.sigGo (s : State) (t : Nat) : State := s.sigPump ((s.sigTgt t).wait.length + 1) t

/-- Does an operation bear a semaphore's token? -/
def SigTarget.under (x : SigTarget) : Bool :=
  match x.sem with
  | .token tok _ => x.out.any (fun o => o.token == tok)
  | _ => false

/-- A token's hold limit has passed (R359): with an operation under it outstanding, once that has ended. -/
def State.semBreak (s : State) (t : Nat) : State :=
  if (s.sigTgt t).under then s.mapSigTgt t (fun x => { x with brk := true })
  else (((s.semFree t).sat F.BR_SEM_BREAK_COUNT).raise 3586).sigGo t

/-- An operation has ended: an EDGE_RMW's hold ends unless its chain goes on, a token past its limit is broken, and what waits goes on. -/
def State.opEnd (s : State) (t num : Nat) (chain : Bool) : State :=
  let s1 := s.mapSigTgt t (fun x => { x with out := x.out.filter (fun o => o.num != num) })
  let x := s1.sigTgt t
  let s2 := match x.sem with
    | .rmw k _ => if k = num ∧ !chain then s1.semFree t else s1
    | _ => s1
  if x.brk ∧ !chain ∧ !x.under then s2.semBreak t else if chain then s2 else s2.sigGo t

/-- An outstanding operation fails. -/
def State.opFail (s : State) (t num : Nat) (r : SigReason) : State :=
  match (s.sigTgt t).out.find? (fun o => o.num == num) with
  | none => s
  | some o => (s.opReport o r).opEnd t num false

/-- A message fails (R365). -/
def State.sigFail (s : State) (orig : SigFrom) (src ch op dst : Nat) (r : SigReason) : State :=
  match orig with
  | .op t num => s.opFail t num r
  | .host h seq =>
    if (s.running? h seq).isSome then s.cmdFail h seq r
    else (s.brCount src r).postRec h
      { seq := 0, typ := 0x41, source := 65, ref := seq, status := sigCode r + 256 * dst + 65536 * ch, addr := s.now, data := op }
  | .dock n tch => (s.brCount src r).sigError n tch op ch r
  | .engine e => (s.brCount src r).brStat e (sigCode r)
  | .hub => s.brCount src r

/-- A message that the core took is returned to the bridge (R95, R289, R355). -/
def State.sigReturn (s : State) (id : Nat) (r : SigReason) : State :=
  match s.sigMsg? id with
  | none => s
  | some m => (s.sigForget id).sigFail m.orig m.src m.ch m.op m.dst r

/-- Messages returned for a lost link or a closed channel (R289, R355). -/
def State.sigReturns (s : State) (l : List (Option Nat)) (r : SigReason) : State :=
  l.foldl (fun s x => match x with
    | some id => s.sigReturn id r
    | none => s) s

/-- Everything that waits or is outstanding at a target ends, and its semaphore is released (R360). -/
def State.targetDown (s : State) (t : Nat) : State :=
  let x := s.sigTgt t
  if x.out.isEmpty && x.wait.isEmpty && decide (x.sem = .free) then s
  else
    let s1 := (s.semFree t).mapSigTgt t (fun x => { x with out := [], wait := [] })
    let s2 := x.out.foldl (fun s o => s.opReport o .linkDown) s1
    x.wait.foldl (fun s w => match w with
      | .op o => s.opReport o .linkDown
      | .take h seq => s.cmdFail h seq .linkDown) s2

/-- A dock port's link goes down (R360, R364). -/
def State.sigLinkDown (s : State) (n : Nat) : State :=
  let s1 := (List.range 32).foldl (fun s i => s.targetDown (32 * n + i)) s
  s1.raDropIf (fun b => b.tgt / 32 == n) 5

/-- The host of an operation. -/
def RegOp.host (o : RegOp) : Option Nat :=
  match o.why with
  | .read h _ _ _ | .write h _ | .rmw h _ _ _ | .rmwW h _ _ => some h
  | _ => none

/-- A host is lost (R360): its semaphores are released, what it has waiting is discarded, and what it has outstanding ends in nothing. -/
def State.sigHostLost (s : State) (h : Nat) : State :=
  (s.br.tgts.map (fun e => e.1)).foldl (fun s t =>
    let x := s.sigTgt t
    let mine := match x.sem with
      | .token _ k | .rmw _ k => k == h
      | .free => false
    let s1 := if mine then s.semFree t else s
    (s1.mapSigTgt t (fun x => { x with
      wait := x.wait.filter (fun w => match w with
        | .op o => o.host != some h
        | .take k _ => k != h)
      out := x.out.map (fun o => if o.host = some h then { o with why := .gone } else o) })).sigGo t) s

/-- A held message at its release (R351, R355): refused when its destination has closed, else its DUE bytes are filled; false when it
goes no further. -/
def State.sigRelease (s : State) (c : Cell) : Bool × State :=
  match s.sigMsg? c.id with
  | none => (true, s)
  | some m =>
    if 48 ≤ m.dst ∧ m.dst < 64 ∧ !s.sigOpen (m.dst - 48) m.tch then (false, s.sigReturn c.id .destClosed)
    else match c.tag with
      | .axis a p dir =>
        let at_ := match s.predict a p dir with
          | some t => if 0 ≤ t then (t.toNat, s) else s.fresh
          | none => s.fresh
        let b := c.payload.take 4 ++ leBytes 8 at_.1 ++ c.payload.drop 12
        (true, { at_.2 with sw := { at_.2.sw with cells := at_.2.sw.cells.map (fun x => if x.id = c.id then { x with payload := b } else x) } })
      | _ => (true, s)

end Sys2Proof.Machine
end

