-- ==== Sys2Proof/Machine/Tx.lean ====
section
/-! DEFINITION. What waits at an output link: a dock port's channel words and the flits that wait (R233, R267-R269), and the
end of a cell that the core cannot finish (R101, R106). -/

namespace Sys2Proof.Machine

/-- The window index of a channel. -/
def chW (cls i : Nat) : Nat := cls * 32 + i

/-- CH_INFO.STATE: 0 CLOSED, 1 OPEN, 2 QUARANTINE. -/
def State.chState (s : State) (n w : Nat) : Nat := s.get (F.CH_INFO_STATE n w)

def State.chGen (s : State) (n w : Nat) : Nat := s.get (F.CH_INFO_WORD n w) / 4096

/-- A DATA flit body waits at a port. -/
def State.enqueue (s : State) (n : Nat) (x : TxItem) : State :=
  s.mapLk n (fun k => { k with q := k.q ++ [{ x with born := s.get (F.PR_STC_COUNT n), bornAt := s.now }] })

/-- One segment (R269). -/
def segment (gen : Nat) (som eom : Bool) (l : List (BitVec 8)) : List (BitVec 8) :=
  BitVec.ofNat 8 l.length :: BitVec.ofNat 8 (gen + 16 * b2n som + 32 * b2n eom) :: l

/-- The output's link ends a cell that the core cannot finish (R101, R106): a DATA_BAD flit in place of its DATA flit on a tunnel (R233), the
link's own nullify or abort elsewhere. -/
def State.endCell (s : State) (c : Cell) : State :=
  if 48 ≤ c.dst ∧ c.dst < 64 ∧ c.keyType = 2 then
    let n := c.dst - 48
    let cls := c.flowKey / 256 % 8
    let i := c.flowKey % 32
    if s.chState n (chW cls i) = 1 then
      s.enqueue n { cls := cls, chan := i, bad := true, som := c.som, eom := c.eom,
                    body := if cls = 3 then c.payload else segment (s.chGen n (chW cls i)) c.som c.eom (c.payload.take 234) }
    else s
  else s.emit (.cellEnded c.id c.dst)

end Sys2Proof.Machine
end

