-- ==== Sys2Proof/Machine/Vat.lean ====
section
/-! DEFINITION. The vat, the hold pool and the wheels (R81-R106, R117-R124): charging and freeing of cells, planes,
release of held cells, replay and plane failure. -/

namespace Sys2Proof.Machine

/-! ### The plane hash (R84) -/

/-- One bit step of the reflected CRC-32C. -/
def crcBit (c : Nat) : Nat := if c % 2 = 1 then (c / 2) ^^^ 0x82F63B78 else c / 2

/-- CRC-32C over bytes, from a start value, with no final inversion. -/
def crc32c : Nat → List Nat → Nat
  | c, [] => c
  | c, b :: bs => crc32c (crcBit (crcBit (crcBit (crcBit (crcBit (crcBit (crcBit (crcBit (c ^^^ b))))))))) bs

/-- The 16 bytes hashed (R84). -/
def hashBytes (src dst kt key : Nat) : List Nat :=
  [src, dst, kt, 0, 0, 0, 0, 0] ++ (List.range 8).map (fun i => key / 256 ^ i % 256)

def State.hash (s : State) (src dst kt key : Nat) : Nat := crc32c (s.eff F.HASH_SEED_SEED) (hashBytes src dst kt key)

/-- The key type of a kind of traffic (R83). -/
def keyTypeOf : Traffic → Nat
  | .pool _ => 1
  | .tunnel _ => 2
  | .pcie _ _ => 3
  | .virtio _ => 4
  | .mgmt _ => 5

/-- The flow key (R83): the bits its kind lists, and 0 above them. A channel word is taken with GEN 0 (R267). -/
def flowKeyOf : Traffic → Nat
  | .pool line => line.toNat
  | .tunnel chan => chan.toNat % 4096
  | .pcie rid tc => rid.toNat + 65536 * tc.toNat
  | .virtio pair => pair.toNat
  | .mgmt code => code.toNat

/-- The physical plane a logical plane is bound to (R85). -/
def State.phys (s : State) (lp : Nat) : Nat := if lp = 0 then s.get F.PLANE_MAP_L0 else s.get F.PLANE_MAP_L1

/-- PLANE_STAT's field of a physical plane. -/
def planeStat (p : Nat) : Fld := if p = 0 then F.PLANE_STAT_P0 else if p = 1 then F.PLANE_STAT_P1 else F.PLANE_STAT_P2

/-! ### Cells and streams -/

def State.cell? (s : State) (id : Nat) : Option Cell := s.sw.cells.find? (fun c => c.id == id)

def State.setCells (s : State) (l : List Cell) : State := { s with sw := { s.sw with cells := l } }

/-- A pair of a physical plane was used now (R87). -/
def State.pairUsed (s : State) (p inp out : Nat) : State :=
  { s with sw := { s.sw with lastUse := tset s.sw.lastUse ((p * 72 + inp) * 72 + out) s.now } }

/-- Has a pair been idle on a plane for 256 cell times (R87)? -/
def State.pairIdle (s : State) (p inp out : Nat) : Bool := decide (tget 0 s.sw.lastUse ((p * 72 + inp) * 72 + out) + 512 ≤ s.now)

/-- Has a cell units in a bank that is being copied (R105, R106)? -/
def State.copies (s : State) (id : Nat) : Bool := s.sw.bankCells.any (fun e => e.2.contains id)

/-- Does a logical plane's failover run (R102)? -/
def State.failing (s : State) (lp : Nat) : Bool := s.sw.fails.any (fun e => e.2.contains lp)

/-- The cells with one of them changed. -/
def State.mapCell (s : State) (id : Nat) (f : Cell → Cell) : State :=
  s.setCells (s.sw.cells.map (fun c => if c.id = id then f c else c))

def streamKey (inp out lp : Nat) : Nat := (inp * 72 + out) * 2 + lp

def cellStream (c : Cell) : Nat := streamKey c.inp c.dst c.plane

def State.stream (s : State) (k : Nat) : Stream := tget {} s.sw.streams k

def State.setStream (s : State) (k : Nat) (x : Stream) : State :=
  { s with sw := { s.sw with streams := tset s.sw.streams k x } }

/-- The cells of a stream that no acknowledgement covers yet and that have a sequence number, oldest first. -/
def State.unacked (s : State) (k : Nat) : List Cell :=
  s.sw.cells.filter (fun c => decide (cellStream c = k) && decide (c.phase = .crossing ∨ c.phase = .accepted))

/-- The cells of a stream waiting to cross, in stream order: replays first, as they stand before newer cells. -/
def State.waiting (s : State) (k : Nat) : List Cell :=
  s.sw.cells.filter (fun c => decide (cellStream c = k) && decide (c.phase = .waiting))

/-- The numbers that a discarded cell of a stream took are expected no more: the output goes on from the oldest number that is still under way
(DESIGN CHOICE, log entry 47: the spec does not say how the output learns of a discard). -/
def State.streamOn (s : State) (k : Nat) : State :=
  let st := s.stream k
  let ahead := fun (c : Cell) => decide ((c.seq + 65536 - st.expect) % 65536 < 32768)
  s.setStream k { st with expect :=
    match s.sw.cells.find? (fun c => decide (cellStream c = k) && (decide (c.phase = .crossing) || (decide (c.phase = .waiting) && c.replay)) && ahead c) with
    | some c => c.seq
    | none => st.next }

/-- Units waiting in a queue (QSTAT_q.DEPTH). -/
def State.depth (s : State) (o q : Nat) : Nat :=
  (s.sw.cells.filter (fun c => decide (c.phase = .waiting) && c.dst == o && c.queue == q)).foldl (fun n c => n + c.units) 0

/-- A queue that empties has its deficit set to 0 (R112). -/
def State.emptied (s : State) (o q : Nat) : State := if s.depth o q = 0 then s.set (F.QDRR_DEFICIT o q) 0 else s

/-! ### Charging and freeing (R92-R94) -/

/-- Entries in use in the wheels' pool (R118): the count and its peak. -/
def State.wheelAdd (s : State) (d : Nat) : State :=
  let s1 := s.set F.WHEEL_FILL_ENTRIES (s.get F.WHEEL_FILL_ENTRIES + d)
  if s1.get F.WHEEL_PEAK_ENTRIES < s1.get F.WHEEL_FILL_ENTRIES then
    s1.set F.WHEEL_PEAK_ENTRIES (s1.get F.WHEEL_FILL_ENTRIES) else s1

def State.wheelSub (s : State) (d : Nat) : State := s.sub F.WHEEL_FILL_ENTRIES d

/-- EV2827 as the use of the hold pool crosses its warning level (R95). -/
def State.holdWarn (s : State) : State :=
  let pct := s.get F.HOLD_WARN_PCT
  let used := s.get F.HOLD_USED_UNITS
  if !s.sw.warned && decide (131072 * pct < 100 * used) then
    ({ s with sw := { s.sw with warned := true } }).raise 2827
  else if s.sw.warned && decide (100 * used < 131072 * (pct - 5)) then
    ({ s with sw := { s.sw with warned := false } }).raise 2827
  else s

/-- Charge a cell to its partition. -/
def State.charge (s : State) (p : Part) (src units : Nat) : State :=
  let s1 := s.sub F.VAT_FREE_UNITS units
  match p with
  | .reserve => s1.wrap (F.RES_USED_UNITS src) units
  | .shared => (s1.wrap (F.SHR_USED_UNITS src) units).wrap F.SHARED_USED_UNITS units
  | .hold =>
    let s2 := (s1.wrap (F.HELD_UNITS src) units).wrap F.HOLD_USED_UNITS units
    (if s2.get F.HOLD_PEAK_UNITS < s2.get F.HOLD_USED_UNITS then
      s2.set F.HOLD_PEAK_UNITS (s2.get F.HOLD_USED_UNITS) else s2).holdWarn

/-- Units become free: copies into the other banks that still lack room take them first (R106). -/
def State.freeUnits (s : State) (units : Nat) : State :=
  ({ s with sw := { s.sw with vatDebt := s.sw.vatDebt - units } }).wrap F.VAT_FREE_UNITS (units - s.sw.vatDebt)

def State.setMsgs (s : State) (l : List CoreMsg) : State := { s with sw := { s.sw with msgs := l } }

/-- A message waits to enter the core behind every other (R81, R93). -/
def State.corePush (s : State) (src dst : Nat) (kind : Traffic) (goal : CoreGoal) (b : List (BitVec 8)) : State :=
  s.setMsgs (s.sw.msgs ++ [{ src := src, dst := dst, kind := kind, bytes := b, goal := goal, left := some b }])

/-- Has every cell of a message entered, and crossed or been lost? -/
def coreDone (m : CoreMsg) : Bool := m.left.isNone && m.ids.isEmpty

/-- One cell of its message is no longer under way. -/
def coreCross (id : Nat) (lost : Bool) (m : CoreMsg) : CoreMsg :=
  if m.ids.contains id then { m with ids := m.ids.erase id, lost := m.lost || lost } else m

/-- A cell leaves the vat undelivered: its message is not delivered either. -/
def State.cellGone (s : State) (c : Cell) : State :=
  if c.phase = .accepted then s
  else (s.setMsgs ((s.sw.msgs.map (coreCross c.id true)).filter (fun m => !coreDone m))).mapBr (fun b => { b with msgs := tdel b.msgs c.id })

/-- Free a cell's units (R94) and take it out of the vat. -/
def State.free (s : State) (c : Cell) : State :=
  let s0 := (s.setCells (s.sw.cells.filter (fun x => x.id != c.id))).cellGone c
  let s1 := s0.freeUnits c.units
  match c.part with
  | .reserve => s1.sub (F.RES_USED_UNITS c.src) c.units
  | .shared => (s1.sub (F.SHR_USED_UNITS c.src) c.units).sub F.SHARED_USED_UNITS c.units
  | .hold => ((s1.sub (F.HELD_UNITS c.src) c.units).sub F.HOLD_USED_UNITS c.units).holdWarn

/-- Free a cell of the hold pool with its wheel entry (R94, R118); its output's tolerance changes (R130). -/
def State.freeHeld (s : State) (c : Cell) : State :=
  let s1 := (s.wheelSub 1).free c
  if c.dst < 64 then s1.selectState c.dst else s1

/-- A cell leaves the vat undelivered: what it held is free, its stream goes on without it, and its queue may be empty. -/
def State.dropCell (s : State) (c : Cell) : State :=
  if c.phase = .held then s.freeHeld c else (((s.free c).streamOn (cellStream c)).emptied c.dst c.queue).outUsed c.dst

/-- Discard a cell at link loss or a broken skim, or at a release to a closed destination (R94, R101): counted at its output. -/
def State.discard (s : State) (c : Cell) : State := (s.dropCell c).wrap (F.DISCARDED_COUNT c.dst)

/-- An input link goes down in the middle of skimmed cells (R101): their outputs end them, and they are discarded. -/
def State.skimsEnd (s : State) (port : Nat) : State :=
  (s.sw.cells.filter (fun c => c.skim && c.src == port && decide (c.phase = .crossing))).foldl (fun s c => (s.endCell c).discard c) s

/-- A port's link went down: the cells it was skimming end (R101), and every cell for it is discarded (R106's table). -/
def State.discardFor (s : State) (port : Nat) : State :=
  let s1 := s.skimsEnd port
  (s1.sw.cells.filter (fun c => c.dst == port)).foldl State.discard s1

/-! ### Release of held cells (R95, R120, R121, R131) -/

/-- Is a link state other than 0 in force at a port (R131)? -/
def State.asleep (s : State) (port : Nat) : Bool := decide (port < 64) && s.get (F.LSTATE_STATE port) != 0

/-- A cell takes its place behind every other (R82): it enters port 71 now. CELLS_IN counted it at its source port and does not count it again at
port 71 (DESIGN CHOICE, log entry 87). -/
def State.reenter (s : State) (id : Nat) (late : Bool) : State :=
  match s.cell? id with
  | none => s
  | some c => s.setCells (s.sw.cells.filter (fun x => x.id != id) ++ [{ c with phase := .waiting, inp := 71, wheel := .none, late := late }])

/-- Re-inject a held cell at port 71 towards its output (R95). A late release is counted and reported (R120), those that a clock step (R55) or an
axis's policy (R70) makes late too (DESIGN CHOICE, log entry 89); so is one whose output link must
first wake, whose exit starts (R129, R131), and one that finds its plane in failover or its units being copied is counted (R106's table). A
message of the bridge whose destination has closed goes back to it (R355). -/
def State.release (s : State) (id : Nat) (late : Bool) : State :=
  match s.cell? id with
  | none => s
  | some c =>
    let g := s.sigRelease c
    if c.phase = .held ∧ !g.1 then g.2.discard c
    else if c.phase = .held then
      let s1 := (g.2.reenter id late).wheelSub 1
      let s2 := if late then (s1.sat F.SCHED0_LATE_COUNT_COUNT).raise 128 else s1
      let s3 := if s.asleep c.dst then (s2.sat F.WAKE_LATE_COUNT_COUNT).raise 129 else s2
      let s4 := if s.failing c.plane || s.copies c.id then s3.sat F.FAULT_LATE_COUNT_COUNT else s3
      s4.wakeLink c.dst
    else s

/-- Place an item due at `t` on the time wheels (R117). -/
def placeAt (now : Nat) (t : Int) : Wheel :=
  if t - now < 4096 then .fine t else if t - now < 4194304 then .coarse t else .overflow t

/-- The wheel or list of an axis that an item with a target goes to (R122). -/
def State.axisWheelFor (s : State) (a : Nat) (p : Int) : Wheel :=
  if nearSlot (s.get (F.AXW_WIDTH_WIDTH a)) (s.pos a) p then .axisWheel else .axisOverflow

/-- An axis's policy acts on one item (R70). -/
def State.policyCount (s : State) (a : Nat) : State := (s.sat (F.POLICY_COUNT_COUNT a)).raise (3136 + 8 * a + 7)

/-- Place a held cell (R117, R120-R122): released at once, late, when its instant or position is already past. An axis cell
of an axis in doubt follows the policy of R70. -/
def State.placeHeld (s : State) (id : Nat) : State :=
  match s.cell? id with
  | none => s
  | some c =>
    match c.tag with
    | .none => s
    | .time t =>
      let at_ : Int := (t : Int) - s.dlat c.dst
      if at_ ≤ s.now then s.release id true
      else s.mapCell id (fun c => { c with wheel := placeAt s.now at_ })
    | .axis a p dir =>
      let wait := s.mapCell id (fun c => { c with wheel := s.axisWheelFor a p })
      if s.unsure a then
        let pol := s.get (F.AX_CTRL_POLICY a)
        if pol = 1 then (s.release id true).policyCount a
        else if pol = 2 then (s.freeHeld c).policyCount a
        else wait
      else if passed (s.pos a) (s.releasePos a p dir (s.dlat c.dst)) dir then s.release id true
      else wait

/-- The fine-slot boundary at which an item due at `t` acts (R117): the first 4 ns boundary at or after it. -/
def fineSlot (t : Int) : Int := -(Int.fdiv (-t) 4) * 4

/-- Is a held cell due on time now (R117, R121)? -/
def State.heldDue (s : State) (c : Cell) : Bool :=
  match c.tag with
  | .none => false
  | .time _ => match c.wheel with
    | .fine t => decide (fineSlot t ≤ s.now)
    | .coarse t => decide (fineSlot t ≤ s.now)
    | .overflow t => decide (fineSlot t ≤ s.now)
    | _ => false
  | .axis a p dir =>
    let x := s.releasePos a p dir (s.dlat c.dst)
    !s.unsure a &&
    (c.crossed || crosses (s.axis a).lastPos (s.pos a) x dir ||
      (!c.jumped && decide (c.wheel ≠ .axisOverflow) &&
        match s.predict a x dir with
        | some t => decide (fineSlot t ≤ s.now)
        | none => false))

/-- The instant at which a due cell acts (R117, R121): its fine slot, or now where it is its crossing that has come. -/
def State.dueAt (s : State) (c : Cell) : Int :=
  match c.tag with
  | .time _ => match c.wheel with
    | .fine t | .coarse t | .overflow t => fineSlot t
    | _ => s.now
  | .axis a p dir =>
    let x := s.releasePos a p dir (s.dlat c.dst)
    if c.crossed || crosses (s.axis a).lastPos (s.pos a) x dir then s.now
    else match s.predict a x dir with
      | some t => fineSlot t
      | none => s.now
  | .none => s.now

/-- Insertion behind every cell that is due no later, so that cells due together stand in order of arrival. -/
def State.insDue (s : State) (c : Cell) : List Cell → List Cell
  | [] => [c]
  | d :: l => if s.dueAt c < s.dueAt d then c :: d :: l else d :: s.insDue c l

/-- The held cells that are due, in the order in which they act (R95, R117): by their fine slots, and by arrival within one. -/
def State.dueCells (s : State) : List Cell :=
  (s.sw.cells.filter (fun c => decide (c.phase = .held) && s.heldDue c)).foldl (fun l c => s.insDue c l) []

/-- The due cells that act before a cell, and the cell (R95, R117). -/
def upTo (id : Nat) : List Cell → List Cell
  | [] => []
  | c :: l => if c.id = id then [c] else c :: upTo id l

/-- A cell is released on time, behind every due cell that goes before it (R95, R117). -/
def State.releaseDue (s : State) (id : Nat) : State := (upTo id s.dueCells).foldl (fun s c => s.release c.id false) s

/-! ### Replay (R97) and plane failure (R98, R102-R104) -/

/-- The cells of a stream that no acknowledgement covers yet, those that already wait to be replayed included, oldest first. -/
def State.owed (s : State) (k : Nat) : List Cell :=
  s.sw.cells.filter (fun c => decide (cellStream c = k) && (decide (c.phase = .crossing ∨ c.phase = .accepted) || (decide (c.phase = .waiting) && c.replay)))

/-- Every unacknowledged cell of a stream waits again, to be sent from the oldest on (R97); each is counted. -/
def State.replay (s : State) (k : Nat) : State :=
  let l := s.unacked k
  let s1 := s.setCells (s.sw.cells.map (fun c =>
    if cellStream c = k ∧ (c.phase = .crossing ∨ c.phase = .accepted) then
      { c with phase := .waiting, replay := true, replays := c.replays + 1, skim := false } else c))
  let s2 := s1.sat F.REPLAY_COUNT_COUNT l.length
  l.foldl (fun s c => s.wrap (F.REPLAYED_COUNT c.src)) s2

/-- Mark a physical plane failed and give its logical planes to `q`. -/
def State.rebind (s : State) (p q : Nat) : State :=
  let s1 := if s.get F.PLANE_MAP_L0 = p then s.set F.PLANE_MAP_L0 q else s
  let s2 := if s.get F.PLANE_MAP_L1 = p then s1.set F.PLANE_MAP_L1 q else s1
  s2.set (planeStat q) 0

/-- The stream keys of a logical plane that hold unacknowledged cells, in order of their oldest. -/
def State.streamsOf (s : State) (lps : List Nat) : List Nat :=
  (s.sw.cells.filter (fun c => lps.contains c.plane && !(s.owed (cellStream c)).isEmpty)).foldl
    (fun l c => if l.contains (cellStream c) then l else l ++ [cellStream c]) []

/-- The churn pointers of a physical plane are reset (R102). -/
def State.resetPtrs (s : State) (p : Nat) : State :=
  { s with sw := { s.sw with grants := s.sw.grants.filter (fun e => e.1 / 72 != p), accepts := s.sw.accepts.filter (fun e => e.1 / 72 != p) } }

/-- A stream sends its resync check cell, naming its oldest unacknowledged number, and replays (R102), with the cells that already waited to.
This replay is the first that counts without acknowledgement on the plane that takes over (R98 counts what fails a plane: DESIGN CHOICE, log
entry 46). -/
def State.failReplay (s : State) (k : Nat) : State :=
  match s.owed k with
  | [] => s
  | c :: _ =>
    let s1 := (s.emit (.resync c.inp c.dst c.plane c.seq)).replay k
    s1.setCells (s1.sw.cells.map (fun x => if cellStream x = k ∧ x.replay then { x with replays := 1 } else x))

/-- The failover of a physical plane's logical planes to `q` begins (R102). -/
def State.failStart (s : State) (p q : Nat) (lps : List Nat) : State :=
  let s1 := ((s.set F.PLANE_STAT_FAILOVER 1).resetPtrs p).resetPtrs q
  let s2 := { s1 with sw := { s1.sw with fails := s1.sw.fails ++ [(s1.now, lps)] } }
  (s2.streamsOf lps).foldl State.failReplay s2

/-- A plane fails (R98, R102-R104), and is recorded for the soft repair map (R446). -/
def State.planeFail (s : State) (p : Nat) : State :=
  if s.get (planeStat p) = 2 ∨ s.sw.stopped then s
  else if s.get F.PLANE_MAP_SPARE = p then
    (((s.softRecord 3 p 0).set (planeStat p) 2).set F.PLANE_MAP_SPARE 3).raise 2818
  else
    let lps := (List.range 2).filter (fun l => s.phys l == p)
    let others := (List.range 3).filter (fun q => q != p && s.get (planeStat q) == 0)
    let s1 := (s.softRecord 3 p 0 (if s.get F.PLANE_MAP_SPARE = 3 then 0xFF else s.get F.PLANE_MAP_SPARE)).set (planeStat p) 2
    if s.get F.PLANE_MAP_SPARE ≠ 3 then
      let q := s.get F.PLANE_MAP_SPARE
      (((s1.rebind p q).set F.PLANE_MAP_SPARE 3).failStart p q lps).raise 2816
    else
      match others with
      | q :: _ => ((((s1.rebind p q).set F.PLANE_STAT_DEGRADED 1).failStart p q lps).raise 2816).raise 2818
      | [] => ({ s1 with sw := { s1.sw with stopped := true } }).raise 2818

/-- Replay a stream, failing its plane when a cell has been replayed 4 times without acknowledgement (R98). -/
def State.replayJudged (s : State) (k : Nat) : State :=
  let s1 := s.replay k
  if s1.sw.cells.any (fun c => decide (cellStream c = k) && decide (4 ≤ c.replays)) then s1.planeFail (s.phys (k % 2)) else s1

/-- PLANE_CRC_ERRp. -/
def crcErr (p : Nat) : Fld := F.PLANE_CRC_ERR_COUNT p

/-- A CRC-16 failure on a physical plane (R87, R98): counted, and the plane fails when the window's limit is exceeded. The window of
2^WIN_LOG2 cell times starts at the first failure after the last window's end, and does not slide (R98 does not say: DESIGN CHOICE, log
entry 45). -/
def State.crcFailure (s : State) (p : Nat) : State :=
  let w := tget (0, 0) s.sw.errWin p
  let len := 2 * 2 ^ s.get F.PLANE_ERR_CFG_WIN_LOG2
  let w' := if w.2 = 0 ∨ w.1 + len ≤ s.now then (s.now, 1) else (w.1, w.2 + 1)
  let s1 := ({ (s.sat (crcErr p)) with sw := { s.sw with errWin := tset s.sw.errWin p w' } }).raise 2819
  if s.get F.PLANE_ERR_CFG_LIMIT < w'.2 then s1.planeFail p else s1

/-! ### Vat banks (R105) -/

/-- A bank's state in BANK_STAT: 0 ACTIVE, 1 SPARE, 2 RETIRED, 3 COPYING. -/
def State.bankState (s : State) (b : Nat) : Nat := bits (s.get (F.BANK_STAT_STATE (b / 16))) (2 * (b % 16)) 2

def State.setBank (s : State) (b v : Nat) : State :=
  let w := s.get (F.BANK_STAT_STATE (b / 16))
  s.set (F.BANK_STAT_STATE (b / 16)) (w - 4 ^ (b % 16) * bits w (2 * (b % 16)) 2 + 4 ^ (b % 16) * v)

end Sys2Proof.Machine
end

