-- ==== Sys2Proof/Machine/Time.lean ====
section
/-! DEFINITION. Hub time, axes, triggers, captures and sync inputs (R50-R79): the operations behind chapter 3's commands. -/

namespace Sys2Proof.Machine

/-! ### Triggers (R75-R77) -/

def State.trig (s : State) (n : Nat) : Trig := tget {} s.time.trigs n

def State.setTrig (s : State) (n : Nat) (x : Trig) : State :=
  { s with time := { s.time with trigs := tset s.time.trigs n x } }

def State.trigMode (s : State) (n : Nat) : Nat := s.get (F.TCTRL_MODE n)

/-- Does the trigger's mode bind it to an axis? -/
def State.axisMode (s : State) (n : Nat) : Bool := s.trigMode n == 3 || s.trigMode n == 5

/-- The point the trigger waits for: PARAM + k * PERIOD, or PARAM - k * PERIOD for a decreasing axis mode. -/
def trigPoint (t : Trig) (k : Nat) : Int := if t.dir then t.param - k * t.period else t.param + k * t.period

/-- The index of the first grid point that `x` has not passed yet. -/
def firstPoint (t : Trig) (x : Int) : Nat :=
  let d := if t.dir then t.param - x else x - t.param
  if d < 0 ∨ t.period = 0 then 0 else (d / t.period + 1).toNat

/-- Is the trigger armed with a point still to fire? A ONCE mode that has fired stays armed to the end of its pulse (R75). -/
def State.trigWaits (s : State) (n : Nat) : Bool := s.on (F.TSTAT_ARMED n) && !(s.trig n).fired

def State.disarm (s : State) (n : Nat) : State :=
  (s.set (F.TSTAT_ARMED n) 0).setTrig n { s.trig n with fireAt := none, fired := false }

/-- The level of a trigger's ball (R75): POL picks active high or active low. -/
def State.pinLevel (s : State) (n : Nat) : Bool := s.on (F.TSTAT_OUTPUT n) != s.on (F.TCTRL_POL n)

/-- A trigger's output becomes active or inactive, at an instant in ps; the ball is driven where its level changes. -/
def State.drive (s : State) (n : Nat) (active : Bool) (ps : Int) : State :=
  let t := s.put (F.TSTAT_OUTPUT n) active
  if t.pinLevel n = s.pinLevel n then t else t.emit (.trigger n (t.pinLevel n) ps)

/-- A pulse starts, at hub time `t` ns before the correction of R60, or extends the one that runs (R75, R76). -/
def State.pulse (s : State) (n : Nat) (t : Int) (late : Bool) : State :=
  let s1 := ((s.sat (F.TSTAT_FIRE_COUNT n)).put (F.TSTAT_LATE n) late).drive n true (t * 1000 - s.getI (F.PIN_OFS_PS n))
  let s2 := s1.setTrig n { s.trig n with left := s.get (F.TWIDTH_CYCLES n) }
  (s2.raise (3088 + n)).raiseIf late (3104 + n)

/-- Predict an axis trigger's fire instant (R76): the predicted crossing less LEAD. A point that was jumped over has none (R69). -/
def State.predictTrig (s : State) (n : Nat) : State :=
  let t := s.trig n
  s.setTrig n { t with fireAt := if passed (s.axis t.axis).pc (trigPoint t t.k) t.dir then none
    else (s.predict t.axis (trigPoint t t.k) t.dir).map (fun x => x - s.get (F.TLEAD_NS n)) }

/-- A pulse, after which a ONCE mode has no point left and a periodic mode waits for its next point: `next`, which an axis mode predicts
at once. -/
def State.fire (s : State) (n : Nat) (t : Int) (late : Bool) (next : Nat) : State :=
  let s1 := s.pulse n t late
  if s.trigMode n = 2 ∨ s.trigMode n = 3 then s1.setTrig n { s1.trig n with fireAt := none, fired := true }
  else
    let s2 := s1.setTrig n { s1.trig n with k := next, fireAt := none }
    if s.trigMode n = 5 then s2.predictTrig n else s2

/-- A predicted fire instant that already lies in the past fires at once, late, and so do the points after it whose instants do (R76): at most
`fuel` of them. While the axis is in doubt nothing is judged (R70). -/
def State.catchUp : Nat → State → Nat → State
  | 0, s, _ => s
  | fuel + 1, s, n =>
    match (s.trig n).fireAt with
    | none => s
    | some f =>
      if s.trigWaits n && s.axisMode n && !s.unsure (s.trig n).axis && decide (f < s.now) then
        (s.fire n s.now true ((s.trig n).k + 1)).catchUp fuel n
      else s

/-- How many points of an axis trigger may have their fire instants in the past: those that LEAD reaches. -/
def State.leadPoints (s : State) (n : Nat) : Nat :=
  let t := s.trig n
  if t.period = 0 then 1 else (s.vel t.axis).natAbs * s.get (F.TLEAD_NS n) / 1000 / t.period + 2

/-- What has been predicted is caught up with. -/
def State.caught (s : State) (n : Nat) : State := s.catchUp (s.leadPoints n) n

/-- An axis trigger's point is predicted anew (R76). -/
def State.repredict (s : State) (n : Nat) : State := (s.predictTrig n).caught n

/-- Fire the points of an axis trigger that the move from `p0` to `p1` crosses (R69, R76): at most `fuel` of them. -/
def State.crossTrig : Nat → State → Nat → Int → Int → State
  | 0, s, _, _, _ => s
  | fuel + 1, s, n, p0, p1 =>
    let t := s.trig n
    if s.trigWaits n && s.axisMode n && crosses p0 p1 (trigPoint t t.k) t.dir then
      let late := match t.fireAt with
        | some f => decide ((s.now : Int) < f)
        | none => decide (0 < s.get (F.TLEAD_NS n))
      (s.fire n s.now late (t.k + 1)).crossTrig fuel n p0 p1
    else s

/-- Evaluate an axis trigger after the axis moved from `p0` to `p1`: crossings, then a new prediction, which fires at once,
late, when it already lies in the past (R76). -/
def State.evalTrig (s : State) (n : Nat) (p0 p1 : Int) : State :=
  let t := s.trig n
  let s1 := s.crossTrig (if t.period = 0 then 1 else ((p1 - p0).natAbs / t.period) + 1) n p0 p1
  if s1.trigWaits n && s1.axisMode n then s1.repredict n else s1

/-- The armed triggers of an axis, in ascending order. -/
def State.axisTrigs (s : State) (a : Nat) : List Nat :=
  (List.range 16).filter (fun n => s.trigWaits n && s.axisMode n && (s.trig n).axis == a)

/-! ### Axis items (R69-R71, R122-R124) -/

/-- The held cells of an axis. -/
def State.axisCells (s : State) (a : Nat) : List Cell :=
  s.sw.cells.filter (fun c => decide (c.phase = .held) &&
    match c.tag with
    | .axis b _ _ => b.val == a
    | _ => false)

def cellTarget (c : Cell) : Int :=
  match c.tag with
  | .axis _ p _ => p
  | _ => 0

def cellDown (c : Cell) : Bool :=
  match c.tag with
  | .axis _ _ d => d
  | _ => false

/-- An item of an axis that its wheels hold: an armed commit or a held cell. -/
inductive AxisItem where
  | slot (i : Nat)
  | cell (c : Cell)

def State.itemTarget (s : State) : AxisItem → Int
  | .slot i => slotPos (s.slot i)
  | .cell c => cellTarget c

/-- Insertion by target, for the order of evaluation (R123). -/
def State.insTarget (s : State) (c : AxisItem) : List AxisItem → List AxisItem
  | [] => [c]
  | d :: l => if s.itemTarget c < s.itemTarget d then c :: d :: l else d :: s.insTarget c l

def State.byTarget (s : State) (l : List AxisItem) : List AxisItem := l.foldl (fun acc c => s.insTarget c acc) []

/-- The highest delivery latency of ports 0-63 (R123). -/
def State.dlatMax (s : State) : Nat := (List.range 64).foldl (fun m p => max m (s.dlat p)) 0

/-- Does a target's slot lie in the evaluation horizon of R123? -/
def State.inHorizon (s : State) (a : Nat) (p : Int) (dir : Bool) : Bool :=
  let w : Int := s.get (F.AXW_WIDTH_WIDTH a)
  let x := s.axis a
  let reach : Int := ((s.vel a).natAbs * (4096 + s.dlatMax) / 1000 : Nat)
  let slot := Int.fdiv p w
  if dir then decide (Int.fdiv (x.pc - reach) w ≤ slot) && decide (slot ≤ Int.fdiv (s.pos a) w)
  else decide (Int.fdiv (s.pos a) w ≤ slot) && decide (slot ≤ Int.fdiv (x.pc + reach) w)

/-- Does POS, moving from `p0` to `p1`, enter an absolute slot that is a multiple of 256, at which the overflow items in range
move onto the axis wheel (R122)? -/
def enters256 (w p0 p1 : Int) : Bool :=
  let a := Int.fdiv p0 w
  let b := Int.fdiv p1 w
  if a < b then decide (Int.fdiv a 256 < Int.fdiv b 256) else if b < a then decide (b ≤ Int.fdiv (a - 1) 256 * 256) else false

/-- Where an item of an axis wheel goes at an evaluation (R123, R124): the fine wheel when its instant lies within 4,096 ns, else its
axis wheel, where one that was jumped over stays (R69). -/
def State.axisPlace (s : State) (a : Nat) (x : Int) (dir jumped : Bool) : Wheel :=
  match s.predict a x dir with
  | some t => if t - s.now < 4096 ∧ !jumped then .fine t else .axisWheel
  | none => .axisWheel

/-- Evaluate one held cell of an axis (R121-R124) that is not due: moved to or from the fine wheel. -/
def State.evalCell (s : State) (a : Nat) (c : Cell) : State :=
  if s.heldDue c then s
  else
    let x := s.releasePos a (cellTarget c) (cellDown c) (s.dlat c.dst)
    s.mapCell c.id (fun d => { d with wheel := s.axisPlace a x (cellDown c) c.jumped })

def isFine : Wheel → Bool
  | .fine _ => true
  | _ => false

/-- Does an evaluation of an axis reach an armed commit (R69, R123)? -/
def State.slotReached (s : State) (a : Nat) (p0 p1 : Int) (i : Nat) : Bool :=
  let x := s.slot i
  let down := x.dir == 1
  x.crossed || crosses p0 p1 (slotPos x) down || isFine x.wheel || (decide (x.wheel ≠ .axisOverflow) && s.inHorizon a (slotPos x) down)

/-- Does an evaluation of an axis reach a held cell (R69, R123)? -/
def State.cellReached (s : State) (a : Nat) (c : Cell) : Bool :=
  s.heldDue c || isFine c.wheel || (decide (c.wheel ≠ .axisOverflow) && s.inHorizon a (cellTarget c) (cellDown c))

/-- Evaluate one armed commit of an axis (R33, R121): met at its crossing, moved to or from the fine wheel otherwise. -/
def State.evalSlot (s : State) (a : Nat) (p0 p1 : Int) (i : Nat) : State :=
  let x := s.slot i
  let down := x.dir == 1
  if x.crossed || crosses p0 p1 (slotPos x) down then s.markMet i false
  else s.setSlot i { x with wheel := s.axisPlace a (slotPos x) down (passed (s.axis a).pc (slotPos x) down) }

/-- Evaluate one item of an axis (R121-R124). -/
def State.evalItem (s : State) (a : Nat) (p0 p1 : Int) : AxisItem → State
  | .slot i => s.evalSlot a p0 p1 i
  | .cell c => s.evalCell a c

/-- An item beyond the limit of an evaluation waits for the next one (R123), which still knows that POS has crossed its position. -/
def State.deferItem (s : State) (a : Nat) (p0 p1 : Int) (x : AxisItem) : State :=
  let t := (s.sat F.RESLIP_COUNT_COUNT).raise 130
  match x with
  | .slot i =>
    let y := s.slot i
    if crosses p0 p1 (slotPos y) (y.dir == 1) then t.setSlot i { y with crossed := true } else t
  | .cell c =>
    if crosses p0 p1 (s.releasePos a (cellTarget c) (cellDown c) (s.dlat c.dst)) (cellDown c)
    then t.mapCell c.id (fun d => { d with crossed := true }) else t

/-- Is a cell among the items? -/
def inItems (l : List AxisItem) (c : Cell) : Bool :=
  l.any (fun x => match x with
    | .cell d => d.id == c.id
    | .slot _ => false)

/-- The items on an axis's overflow list that have come into range move onto its wheel (R122). -/
def State.fileOverflow (s : State) (a : Nat) : State :=
  let near := fun p => nearSlot (s.get (F.AXW_WIDTH_WIDTH a)) (s.pos a) p
  let l := (s.axisCells a).filter (fun c => decide (c.wheel = .axisOverflow) && near (cellTarget c))
  let s1 := l.foldl (fun s c => s.mapCell c.id (fun d => { d with wheel := .axisWheel })) s
  ((s1.armedSlots 2).filter (fun i => (s1.slot i).axis == a && decide ((s1.slot i).wheel = .axisOverflow) && near (slotPos (s1.slot i)))).foldl
    (fun s i => s.setSlot i { s.slot i with wheel := .axisWheel }) s1

/-- Which held cells of an axis have been jumped over (R69): `f` says it of a cell and of whether POS has passed its release position. -/
def State.markJumped (s : State) (a : Nat) (f : Cell → Bool → Bool) : State :=
  (s.axisCells a).foldl (fun s c =>
    s.mapCell c.id (fun d => { d with
      jumped := f c (passed (s.pos a) (s.releasePos a (cellTarget c) (cellDown c) (s.dlat c.dst)) (cellDown c)) })) s

/-- The items that an evaluation of an axis reaches, in order of target (R123). -/
def State.axisItems (s : State) (a : Nat) (p0 p1 : Int) : List AxisItem :=
  s.byTarget ((((s.armedSlots 2).filter (fun i => (s.slot i).axis == a && s.slotReached a p0 p1 i)).map .slot) ++
    (((s.axisCells a).filter (s.cellReached a)).map .cell))

/-- Evaluate the items of an axis (R69, R123): commits and held cells in order of target, then triggers, against the move of POS since the last
evaluation. The cells found due are released by their fine slots, and in order of arrival within one (R117). Overflow items come onto the wheel
whatever the axis's state (R122); while the axis is in doubt nothing else is evaluated (R70). Items beyond 1,024 are deferred, each with its
event. -/
def State.axisEval (s : State) (a : Nat) : State :=
  let p0 := (s.axis a).lastPos
  let p1 := s.pos a
  let done (s : State) : State := s.setAxis a { s.axis a with lastPos := p1 }
  let s0 := if enters256 (s.get (F.AXW_WIDTH_WIDTH a)) p0 p1 then s.fileOverflow a else s
  if s.unsure a then done s0
  else
    let l := s0.axisItems a p0 p1
    let now := s0.dueCells.filter (inItems (l.take 1024))
    let s1 := now.foldl (fun s c => s.release c.id false) ((l.take 1024).foldl (fun s x => s.evalItem a p0 p1 x) s0)
    let s2 := (l.drop 1024).foldl (fun s x => s.deferItem a p0 p1 x) s1
    let s3 := (s2.axisTrigs a).foldl (fun s n => s.evalTrig n p0 p1) s2
    (done (s3.markJumped a (fun c p => c.jumped && p))).reselectHeld

/-- A pending item of an axis acts late: commits, triggers, releases (R70 RELEASE, and HOLD when judged). `which` selects
the items by their position and direction. -/
def State.actLate (s : State) (a : Nat) (which : Int → Bool → Bool) : State :=
  let sl := (s.armedSlots 2).filter (fun i => (s.slot i).axis == a && which (slotPos (s.slot i)) ((s.slot i).dir == 1))
  let tr := (s.axisTrigs a).filter (fun n => which (trigPoint (s.trig n) (s.trig n).k) (s.trig n).dir)
  let ce := (s.axisCells a).filter (fun c =>
    which (s.releasePos a (cellTarget c) (cellDown c) (s.dlat c.dst)) (cellDown c))
  let s1 := sl.foldl (fun s i => s.markMet i true) s
  let s2 := tr.foldl (fun s n => s.fire n s.now true (max ((s.trig n).k + 1) (firstPoint (s.trig n) (s.pos a)))) s1
  let s3 := ce.foldl (fun s c => s.release c.id true) s2
  let n := sl.length + tr.length + ce.length
  if n = 0 then s3 else (s3.sat (F.POLICY_COUNT_COUNT a) n).raise (3136 + 8 * a + 7)

/-- The axis's pending items are discarded (R70 DROP). -/
def State.dropItems (s : State) (a : Nat) : State :=
  let sl := (s.armedSlots 2).filter (fun i => (s.slot i).axis == a)
  let tr := s.axisTrigs a
  let ce := s.axisCells a
  let s1 := sl.foldl (fun s i => (s.freeSlot i 8 0).wheelSub 1) s
  let s2 := tr.foldl State.disarm s1
  let s3 := ce.foldl State.freeHeld s2
  let n := sl.length + tr.length + ce.length
  if n = 0 then s3 else (s3.sat (F.POLICY_COUNT_COUNT a) n).raise (3136 + 8 * a + 7)

/-- The policy at the instant UNCERTAIN or LOST is set (R70). -/
def State.policyAct (s : State) (a : Nat) : State :=
  let pol := s.get (F.AX_CTRL_POLICY a)
  if pol = 1 then s.actLate a (fun _ _ => true) else if pol = 2 then s.dropItems a else s

/-- An axis becomes uncertain (R64). -/
def State.setUncertain (s : State) (a : Nat) : State :=
  ((s.set (F.AX_STAT_UNCERTAIN a) 1).raise (3136 + 8 * a)).policyAct a

/-- An axis becomes lost (R74). -/
def State.setLost (s : State) (a : Nat) : State :=
  ((s.set (F.AX_STAT_LOST a) 1).raise (3136 + 8 * a + 6)).policyAct a

/-! ### Counting (R63-R68) -/

/-- The velocity over the counted transitions within VEL_WINDOW, or over the last two (R67). -/
def State.velOf (s : State) (a : Nat) (hist : List (Int × Nat)) : Int := s.velThen a s.now hist

/-- Does a velocity exceed VEL_LIMIT (R67)? VEL_LIMIT is in thousands of counts per second. -/
def State.overspeed (s : State) (a : Nat) : Bool :=
  decide (s.get (F.VEL_LIMIT_KCPS a) * s.scale a < (s.vel a).natAbs * 65536 * 1000)

def State.judgeSpeed (s : State) (a : Nat) : State :=
  let o := s.overspeed a
  let was := s.on (F.AX_STAT_OVERSPEED a)
  (s.put (F.AX_STAT_OVERSPEED a) o).raiseIf (o && !was) (3136 + 8 * a + 5)

/-- The domain of the TIME and AXES pages is ON, and no warm start passes it through as in RET (R73, R417). -/
def State.timeOn (s : State) : Bool := s.domState 2 == 0 && !s.pwr.warming

/-- A counted transition of `d` counts (R63, R65-R68): the count, EDGE_TIME, the position, the direction, the velocity; the
axis's items are evaluated. In RET only the always-on decoder counts (R73). An SW_DELTA of 0 is one counted event too, and counts as
increasing (R65 says nothing of its direction: DESIGN CHOICE, log entry 41). -/
def State.counted (s : State) (a : Nat) (d : Int) : State :=
  let c := s.count a + d
  let x := s.axis a
  let down := decide (d < 0)
  let s1 := ((s.setI64 (F.COUNT_LO_COUNT a) (F.COUNT_HI_COUNT a) c).set64 (F.EDGE_TIME_LO_NS a) (F.EDGE_TIME_HI_NS a) s.now).put
    (F.AX_STAT_DIR a) down
  let p := s1.posOfCount a c
  let hist := (p, s.now) :: (x.hist.filter (fun e => decide (s.now ≤ e.2 + 1000000))) ++
    (if x.hist.any (fun e => decide (s.now ≤ e.2 + 1000000)) then [] else x.hist.take 1)
  let s2 := s1.setAxis a { x with pc := p, tc := s.now, hist := hist, p0 := if x.hist.isEmpty then x.pc else x.p0, counted := true }
  if s.timeOn then
    let s3 := (s2.put (F.AX_STAT_STOPPED a) false).raiseIf (s.on (F.AX_STAT_STOPPED a)) (3136 + 8 * a + 3)
    let s4 := s3.raiseIf (!x.hist.isEmpty && s.on (F.AX_STAT_DIR a) != down) (3136 + 8 * a + 4)
    ((s4.setI (F.VEL_VEL a) (s4.velOf a hist)).judgeSpeed a).axisEval a
  else (s2.set (F.AX_STAT_RET_TRACK a) 1).set (F.VEL_VEL a) 0

/-- The counted direction of a legal transition (R63): up when A rises while B is low or falls while B is high, or when B
follows A; the reverse counts down. -/
def upward (a a' b b' : Bool) : Bool := if a != a' then a' != b else b' == a

/-- Does the decoding count this transition (R63)? -/
def decodes (decode : Nat) (a a' : Bool) : Bool :=
  if decode = 0 then true else if decode = 1 then a != a' else !a && a'

/-- The position of an axis changes by a load, by homing or by a write of OFFSET or SCALE: no crossing (R69); the times of its
items are predicted anew. -/
def State.rebase (s : State) (a : Nat) : State :=
  let x := s.axis a
  let p := s.posOfCount a (s.count a)
  let s1 := s.setAxis a { x with pc := p, p0 := x.p0 + (p - x.pc), hist := x.hist.map (fun e => (e.1 + (p - x.pc), e.2)) }
  let q := if enters256 (s1.get (F.AXW_WIDTH_WIDTH a)) x.lastPos (s1.pos a) then s1.fileOverflow a else s1
  let s2 := (q.setAxis a { q.axis a with lastPos := q.pos a }).markJumped a (fun _ p => p)
  (s2.axisTrigs a).foldl (fun s n =>
    let s' := s.predictTrig n
    match (s'.trig n).fireAt with
    | some f => if f < s'.now then s'.setTrig n { s'.trig n with fireAt := none } else s'
    | none => s') s2.reselectHeld

/-- The count is set to COUNT_LOAD (R72). -/
def State.loadCount (s : State) (a : Nat) : State :=
  (s.setI64 (F.COUNT_LO_COUNT a) (F.COUNT_HI_COUNT a) (s.getI64 (F.COUNT_LOAD_LO_COUNT a) (F.COUNT_LOAD_HI_COUNT a))).rebase a

/-- UNCERTAIN and LOST are cleared, and every waiting item is evaluated against POS (R70, R71): those it has passed act at once, late, and
the triggers that still wait are predicted anew. -/
def State.clearFlags (s : State) (a : Nat) : State :=
  let was := s.unsure a
  let s1 := (s.set (F.AX_STAT_UNCERTAIN a) 0).set (F.AX_STAT_LOST a) 0
  if was then
    let s2 := s1.actLate a (fun p d => passed (s1.pos a) p d)
    (s2.axisTrigs a).foldl State.repredict s2
  else s1

/-! ### Steps and slews (R53-R56) -/

/-- The offset a STEP_GO would apply, in units of 2^-32 ns: STEP plus the slew not yet absorbed. -/
def State.stepOffset (s : State) : Int := s.getI64 F.STEP_LO_NS F.STEP_HI_NS * (2 ^ 32 : Nat) + s.time.clk.slew

/-- Would the step bring the clock below 0 or above 2^64 - 1 ns (R53)? -/
def State.stepOver (s : State) : Bool :=
  let t := (s.time.clk.ticks : Int) + s.stepOffset
  decide (t < 0) || decide (((2 ^ 96 : Nat) : Int) ≤ t)

def State.setClk (s : State) (c : Clock) : State := { s with time := { s.time with clk := c } }

/-- SLEW_REMAIN and SLEWING as the slew stands: what is left, in whole ns rounded toward minus infinity (DESIGN CHOICE, log entry 85). -/
def State.showSlew (s : State) : State :=
  (s.setI F.SLEW_REMAIN_NS (Int.fdiv s.time.clk.slew (2 ^ 32 : Nat))).put F.TIME0_CLK_STAT_SLEWING (s.time.clk.slew != 0)

/-- Re-evaluation of the items that wait on hub time after a step (R55, R56): an item now due acts at once, late; the result
pairs the state with how many did. A periodic trigger stepped back fires its points again. -/
def State.stepItems (s : State) (back : Bool) : State × Nat :=
  let now : Int := s.now
  let sl := (s.armedSlots 1).filter (fun i => decide ((s.slot i).param ≤ s.now))
  let s1 := sl.foldl (fun s i => s.markMet i true) s
  let tr := (List.range 16).filter (fun n => s.trigWaits n && (s.trigMode n == 2 || s.trigMode n == 4) &&
    decide (trigPoint (s.trig n) (s.trig n).k ≤ now))
  let s2 := tr.foldl (fun s n => s.fire n now true (firstPoint (s.trig n) now)) s1
  let s3 := if back then (List.range 16).foldl (fun s n =>
      if s.trigWaits n && s.trigMode n == 4 then s.setTrig n { s.trig n with k := firstPoint (s.trig n) now } else s) s2
    else s2
  let ce := s3.sw.cells.filter (fun c => decide (c.phase = .held) &&
    match c.tag with
    | .time t => decide (s.timeDue c t ≤ now)
    | _ => false)
  let s4 := ce.foldl (fun s c => s.release c.id true) s3
  let rest := s4.sw.cells.filter (fun c => decide (c.phase = .held) && !isFine c.wheel &&
    match c.tag with
    | .time _ => true
    | _ => false)
  (rest.foldl (fun s c => s.placeHeld c.id) s4, sl.length + tr.length + ce.length)

/-- STEP_GO's effect (R53-R56): a slew below 1 microsecond, a step otherwise. One that a commit applies too late to keep the clock in range
leaves everything as it is (log entry 42). A sum of 0, and a step, end a running slew without EV3075: R54 raises it when a slew has been
absorbed (DESIGN CHOICE, log entry 43). -/
def State.stepGo (s : State) : State :=
  let off := s.stepOffset
  if s.stepOver then s
  else if off.natAbs < 1000 * 2 ^ 32 then
    if off = 0 then (s.setClk { s.time.clk with slew := 0 }).showSlew
    else (s.setClk { s.time.clk with slew := off }).showSlew
  else
    let s1 := (s.setClk { ticks := ((s.time.clk.ticks : Int) + off).toNat, slew := 0 }).showSlew
    let s2 := (s1.sat F.STEP_COUNT_COUNT).raise 3072
    let r := s2.stepItems (decide (off < 0))
    let s3 := r.1.reselectHeld
    if r.2 = 0 then s3 else (s3.sat F.TIME0_LATE_COUNT_COUNT r.2).raise 3073

/-- What one tick of the time clock adds to the hub clock, in units of 2^-32 ns (R50). -/
def State.increment (s : State) : Int := 2 * (2 ^ 32 : Nat) + s.getI F.INCR_ADJ_ADJ

/-- The clock moves on by `inc`, and by at most `rate` of a slew (R54). It never wraps (R53): at its highest value it stands. -/
def State.advanceClk (s : State) (inc rate : Int) : State :=
  let sl := s.time.clk.slew
  let d := if sl < 0 then max sl (-rate) else min sl rate
  (s.setClk { ticks := min (2 ^ 96 - 1) ((s.time.clk.ticks : Int) + inc + d).toNat, slew := sl - d }).setI F.SLEW_REMAIN_NS
    (Int.fdiv (sl - d) (2 ^ 32 : Nat))

/-- One tick of the 500 MHz time clock (R50, R54, R75): the clock, its last values, a slew at SLEW_PPM of the nominal rate, and the cycles left of
the running pulses. After a cold start the clock holds at 0 until the PLL switch (R415). -/
def State.tick (s : State) : State :=
  if s.on F.POWER3_CLK_STAT_ON_PLL then
    let s1 := s.advanceClk s.increment (2 ^ 33 * s.get F.SLEW_PPM_PPM / 1000000 : Nat)
    { s1 with time := { s1.time with past := (s.time.clk.ticks :: s1.time.past).take 255,
                                     trigs := s1.time.trigs.map (fun e => (e.1, { e.2 with left := e.2.left - 1 })) } }
  else s

/-! ### Arming (R75-R77) -/

/-- Is the ARM refused (R77, and TPERIOD's Meaning)? -/
def State.armRefused (s : State) (n mode : Nat) : Bool :=
  let per := s.get64 (F.TPERIOD_LO_VALUE n) (F.TPERIOD_HI_VALUE n)
  (mode == 4 && decide (per ≤ 2 * s.get (F.TWIDTH_CYCLES n))) || (mode == 5 && per == 0)

/-- Arm a trigger (R75-R77). -/
def State.arm (s : State) (n : Nat) : State :=
  let mode := s.trigMode n
  if mode < 2 then s
  else
    let dir := s.on (F.TCTRL_DIR n)
    let axisM := mode = 3 ∨ mode = 5
    let raw := s.get64 (F.TPARAM_LO_VALUE n) (F.TPARAM_HI_VALUE n)
    let t : Trig := { param := if axisM then toSigned 64 raw else raw,
                      period := s.get64 (F.TPERIOD_LO_VALUE n) (F.TPERIOD_HI_VALUE n),
                      axis := s.get (F.TCTRL_AXIS n), dir := decide axisM && dir, left := (s.trig n).left }
    let s1 := (((s.set (F.TSTAT_ARMED n) 1).set (F.TSTAT_LATE n) 0).set (F.TSTAT_FIRE_COUNT n) 0).setTrig n t
    if axisM then
      let a := t.axis
      if s1.unsure a then
        let pol := s1.get (F.AX_CTRL_POLICY a)
        if pol = 1 then ((s1.fire n s1.now true (max 1 (firstPoint t (s1.pos a)))).sat (F.POLICY_COUNT_COUNT a)).raise (3136 + 8 * a + 7)
        else if pol = 2 then ((s1.disarm n).sat (F.POLICY_COUNT_COUNT a)).raise (3136 + 8 * a + 7)
        else s1
      else if passed (s1.pos a) t.param dir then (s1.fire n s1.now true (firstPoint t (s1.pos a))).caught n
      else s1.repredict n
    else if t.param < s1.now then s1.fire n s1.now true (firstPoint t s1.now) else s1

/-- Is an armed trigger due at its instant now (R75, R76)? -/
def State.trigDue (s : State) (n : Nat) : Bool :=
  s.trigWaits n &&
    (if s.axisMode n then
      !s.unsure (s.trig n).axis &&
      match (s.trig n).fireAt with
      | some f => decide (f ≤ s.now)
      | none => false
    else decide (trigPoint (s.trig n) (s.trig n).k ≤ s.now))

/-! ### Captures and sync inputs (R60, R78, R79) -/

def State.cap (s : State) (n : Nat) : Capture := tget {} s.time.caps n

/-- The front entry of a capture queue, as the registers show it. -/
def State.showCap (s : State) (n : Nat) : State :=
  let q := (s.cap n).queue
  let s1 := s.set (F.CAP_STAT_FILL n) q.length
  match q with
  | [] => ((s1.set64 (F.CAP_TIME_LO_NS n) (F.CAP_TIME_HI_NS n) 0).set64 (F.CAP_POS_LO_POS n) (F.CAP_POS_HI_POS n) 0).set (F.CAP_STAT_EDGE n) 0
  | e :: _ => ((s1.set64 (F.CAP_TIME_LO_NS n) (F.CAP_TIME_HI_NS n) e.stamp).setI64 (F.CAP_POS_LO_POS n) (F.CAP_POS_HI_POS n) e.pos).put
      (F.CAP_STAT_EDGE n) e.rising

def State.setCap (s : State) (n : Nat) (c : Capture) : State :=
  ({ s with time := { s.time with caps := tset s.time.caps n c } }).showCap n

/-- The hub time at which an input made the transition that `cycles` time-clock cycles of a stable level have now qualified (R78): the clock as
it stood that many cycles ago, after a step in the same tick (R56; log entry 44). -/
def State.before (s : State) (cycles : Nat) : Nat :=
  (if cycles = 0 then s.time.clk.ticks else s.time.past.getD (cycles - 1) (s.time.past.getLastD s.time.clk.ticks)) / 2 ^ 32

/-- A raw stamp corrected by a pin's offset (R60): less PIN_OFS, in whole ns. -/
def State.pinStamp (s : State) (i t : Nat) : Nat := (Int.fdiv ((t : Int) * 1000 - s.getI (F.PIN_OFS_PS i)) 1000).toNat

/-- Does EDGE (bit 0 rising, bit 1 falling) select an edge to `level`? -/
def edgeSelected (edge : Nat) (level : Bool) : Bool := hasBit edge (if level then 0 else 1)

def State.sync (s : State) (m : Nat) : SyncIn := tget {} s.time.syncs m

def State.setSync (s : State) (m : Nat) (x : SyncIn) : State :=
  { s with time := { s.time with syncs := tset s.time.syncs m x } }

/-- The sync input forgets what it learnt: after every start, return to ON and rise of EN (R79). -/
def State.resetSync (s : State) (m : Nat) : State :=
  (((s.setSync m {}).set (F.SYNC_CTRL_LOST m) 0).set64 (F.SYNC_LAST_LO_NS m) (F.SYNC_LAST_HI_NS m) 0).set (F.SYNC_PERIOD_NS m) 0

end Sys2Proof.Machine
end

