-- ==== Sys2Proof/Machine/Sched.lean ====
section
/-! DEFINITION. Scheduling (R110-R116), the churn's matches (R89-R91), cell arrival (R93, R99), and the energy governor
(R125-R128). -/

namespace Sys2Proof.Machine

/-! ### Shapers (R114, R115) -/

def State.tokens (s : State) (sh : Nat) : Int := s.getI (F.SH_TOKENS_BYTES sh)

/-- The enabled parent of a shaper, if it has one in force. -/
def State.parent? (s : State) (sh : Nat) : Option Nat :=
  let p := s.eff (F.SH_CTRL_PARENT sh)
  if s.eff (F.SH_CTRL_PARENT_EN sh) = 1 ∧ s.on (F.SH_CTRL_EN p) then some p else none

/-- Does a shaper allow its queues (R114)? -/
def State.shaperAllows (s : State) (sh : Nat) : Bool :=
  !s.on (F.SH_CTRL_EN sh) || (decide (1 ≤ s.tokens sh) &&
    match s.parent? sh with
    | some p => decide (1 ≤ s.tokens p)
    | none => true)

/-- A shaper's next refill is placed on the time wheels (R114, R117). -/
def State.placeShaper (s : State) (sh next : Nat) : State :=
  { s with sw := { s.sw with
      shNext := tset s.sw.shNext sh next,
      shOvf := if s.now + 4194304 ≤ next then sh :: s.sw.shOvf.erase sh else s.sw.shOvf.erase sh } }

/-- A shaper's refill (R114, R115): the values written since the last refill govern, and tokens are added up to BURST. -/
def State.refill (s : State) (sh : Nat) : State :=
  let s1 := ((((s.takeUp (F.SH_CTRL_PARENT_EN sh)).takeUp (F.SH_CTRL_PARENT sh)).takeUp (F.SH_INTERVAL_TICKS sh)).takeUp
    (F.SH_QUANTUM_BYTES sh)).takeUp (F.SH_BURST_BYTES sh)
  let s2 := s1.setI (F.SH_TOKENS_BYTES sh)
    (min (s1.get (F.SH_BURST_BYTES sh) : Int) (s1.tokens sh + s1.get (F.SH_QUANTUM_BYTES sh)))
  s2.placeShaper sh (tget s2.now s2.sw.shNext sh + 4 * s2.get (F.SH_INTERVAL_TICKS sh))

/-- SH_CTRL.EN changes (R114, R115). -/
def State.shaperEn (s : State) (sh : Nat) (was en : Bool) : State :=
  if en && !was then
    let s1 := s.set (F.SH_TOKENS_BYTES sh) (s.eff (F.SH_BURST_BYTES sh))
    (s1.placeShaper sh (s1.now + 4 * s1.eff (F.SH_INTERVAL_TICKS sh))).wheelAdd 1
  else if was && !en then
    ({ s with sw := { s.sw with shNext := tdel s.sw.shNext sh, shOvf := s.sw.shOvf.erase sh } }).wheelSub 1
  else s

/-- The shadow writes of the transaction that a path has open (R29): those that a further write of the path joins. -/
def State.openShadow (s : State) (c : Nat) : List Shadow :=
  let cur := s.get (F.TXN_CUR_TAG c)
  let x := s.slot (bits cur 0 3)
  if hasBit cur 8 ∧ x.state = .opened ∧ x.gen = bits cur 12 4 ∧ x.opener = c then x.entries else []

/-- The parent a shaper has, or will have once a path's open transaction commits (R114). -/
def State.parentWith (s : State) (sw : List Shadow) (q : Nat) : Option Nat :=
  match sw.find? (fun e => e.bank == q + 1 && e.addr == 0x42044) with
  | some e => if hasBit e.value 28 then some (bits e.value 16 12) else none
  | none => if s.on (F.SH_CTRL_PARENT_EN q) then some (s.get (F.SH_CTRL_PARENT q)) else none

/-- Would a SH_CTRL write of a path make a chain of three shapers (R114)? -/
def State.chainOf3 (s : State) (c sh parent : Nat) (parentEn : Bool) : Bool :=
  let sw := s.openShadow c
  parentEn && (parent == sh || (s.parentWith sw parent).isSome || (List.range 4096).any (fun q => q != sh && s.parentWith sw q == some sh))

/-! ### Weighted group (R112) -/

/-- The pressure of a ladder level (R126). -/
def piOf (level : Nat) : Nat := [0, 0, 64, 128, 256, 256, 256].getD level 256

/-- The effective quantum (R112). -/
def State.quantum (s : State) (o q : Nat) : Nat :=
  let cost := s.get (F.COST_COST (s.get (F.QCFG_EC o q)))
  let f := if s.on F.SCHED_CTRL_WSCALE_EN then max 16 (256 - piOf (s.get F.LADDER_LEVEL) * cost / 256) else 256
  max 1 (s.get (F.QCFG_WEIGHT o q) * f / 256)

/-- A queue's refill in the deficit round robin (R112): its settings govern from here. -/
def State.drrRefill (s : State) (o q : Nat) : State :=
  let s1 := ((((s.takeUp (F.QCFG_EC o q)).takeUp (F.QCFG_WEIGHT o q)).takeUp F.SCHED_CTRL_WSCALE_EN).takeUp
    (F.COST_COST (s.get (F.QCFG_EC o q))))
  let qe := s1.quantum o q
  (s1.set (F.QDRR_QE o q) qe).wrap (F.QDRR_DEFICIT o q) qe

/-- A bound queue's shaper, and whether it allows the queue (R111, R114). -/
def State.queueAllows (s : State) (o q : Nat) : Bool :=
  !s.on (F.QCFG_SH_EN o q) || s.shaperAllows (s.get (F.QCFG_SHAPER o q))

/-- The line rate of a crossbar port in units of 10 kb/s (R6, R88): negotiated width times rate. -/
def State.lineRate (s : State) (p : Nat) : Nat :=
  let gts := fun c => [0, 250000, 500000, 800000, 1600000, 3200000, 6400000, 12800000].getD c 0
  if p < 32 then gts (s.get (F.HP_STAT_RATE p)) * s.get (F.HP_STAT_WIDTH p)
  else if p < 48 then gts (s.get (F.MP_STAT_RATE (p - 32))) * s.get (F.MP_STAT_WIDTH (p - 32))
  else if p < 64 then
    let w := s.get (F.DL_STAT_WIDTH (p - 48))
    [1031250, 2578125, 5312500, 10625000].getD (s.get (F.DL_STAT_RATE (p - 48))) 0 * (if w = 3 then 2 else if w = 0 then 0 else 1)
  else 102400000

/-- Would units more exceed the share of an output's weighted group at ladder level 6 (R126)? -/
def State.capped (s : State) (o units : Nat) : Bool :=
  s.get F.LADDER_LEVEL == 6 &&
    let w := tget (0, 0) s.sw.capWin o
    decide (s.lineRate o * s.get F.GOV_CTRL_CAP_PCT / 10000000 < (if s.now < w.1 + 512 then w.2 else 0) + units)

/-- Count units of a weighted group in its window of 256 cell times, which begins at the first cell that crosses after the last window's end (R126
does not say where the windows begin: DESIGN CHOICE, log entry 91). -/
def State.countCap (s : State) (o units : Nat) : State :=
  let w := tget (0, 0) s.sw.capWin o
  let w' := if s.now < w.1 + 512 then (w.1, w.2 + units) else (s.now, units)
  { s with sw := { s.sw with capWin := tset s.sw.capWin o w' } }

/-! ### The churn (R89-R91) -/

/-- May the oldest waiting cell of its stream cross now? Its bank's copy is over (R105, R106), no skimmed cell holds its output (R99), its
output's link is awake for it (R129, R131), and the stream has room for its number (R96). -/
def State.mayCross (s : State) (c : Cell) : Bool :=
  !s.copies c.id && !s.sw.cells.any (fun x => x.skim && decide (x.phase = .crossing) && x.dst == c.dst) &&
  !(decide (c.dst < 64) && (decide (2 ≤ s.get (F.LSTATE_STATE c.dst)) || (c.inp == 71 && s.asleep c.dst))) &&
  (c.replay || decide ((s.unacked (cellStream c)).length < 4096))

/-- The oldest waiting cell of each stream of a physical plane, where it may cross: a stream waits behind its oldest cell (R82). -/
def State.heads (s : State) (p : Nat) : List Cell :=
  (s.sw.cells.foldl (fun (acc : List Nat × List Cell) c =>
    let k := cellStream c
    if decide (c.phase = .waiting) && s.phys c.plane == p && !acc.1.contains k then
      (k :: acc.1, if s.mayCross c then acc.2 ++ [c] else acc.2)
    else acc) ([], [])).2

/-- The first request at or after a pointer, by input. -/
def firstFrom (ptr : Nat) (l : List Cell) : Option Cell :=
  ((List.range 72).map (fun i => (ptr + i) % 72)).findSome? (fun i => l.find? (fun c => c.inp == i))

/-- The queue an output's scheduler chooses among requests (R111, R112), with the deficits after any rounds that begin. A queue's head is the cell
that a grant would take, at or after the output's pointer. -/
def State.chooseQueue (s : State) (o ptr : Nat) (reqs : List Cell) : State × Option Nat :=
  let ask := fun q => reqs.any (fun c => c.queue == q) && s.queueAllows o q
  match (List.range 4).find? ask with
  | some q => (s, some q)
  | none =>
    let head := fun q => match firstFrom ptr (reqs.filter (fun c => c.queue == q)) with
      | some c => c.units
      | none => 0
    let grp := ((List.range 12).map (· + 4)).filter (fun q => ask q && !s.capped o (head q))
    let covered := fun (s : State) q => decide (head q ≤ s.get (F.QDRR_DEFICIT o q))
    if grp.isEmpty then (s, none)
    else
      let round := fun (s : State) => if grp.any (covered s) then s else grp.foldl (fun s q => s.drrRefill o q) s
      let s1 := round (round (round (round s)))
      (s1, grp.find? (covered s1))

/-- An output's grant (R89): first a request of port 71 or of a replay, else the scheduler's queue, from the pointer on. -/
def State.grant (s : State) (p o : Nat) (reqs : List Cell) : State × Option Cell :=
  let ptr := tget 0 s.sw.grants (72 * p + o)
  let first := reqs.filter (fun c => c.inp == 71 || c.replay)
  if !first.isEmpty then (s, firstFrom ptr first)
  else
    let r := s.chooseQueue o ptr reqs
    (r.1, match r.2 with
      | some q => firstFrom ptr (reqs.filter (fun c => c.queue == q))
      | none => none)

/-- One round of requests, grants and accepts on a plane (R89, R90): `m` holds the matched cells so far; only the first round
moves the pointers. -/
def State.churnRound (s : State) (p : Nat) (hs : List Cell) (first : Bool) (m : List Cell) : State × List Cell :=
  let free := hs.filter (fun c => !m.any (fun x => x.inp == c.inp) && !m.any (fun x => x.dst == c.dst))
  let outs := (List.range 72).filter (fun o => free.any (fun c => c.dst == o))
  let g := outs.foldl (fun (acc : State × List Cell) o =>
    let r := acc.1.grant p o (free.filter (fun c => c.dst == o))
    match r.2 with
    | some c => (r.1, acc.2 ++ [c])
    | none => (r.1, acc.2)) (s, [])
  let inps := (List.range 72).filter (fun i => g.2.any (fun c => c.inp == i))
  inps.foldl (fun (acc : State × List Cell) i =>
    let ptr := tget 0 acc.1.sw.accepts (72 * p + i)
    match ((List.range 72).map (fun j => (ptr + j) % 72)).findSome? (fun o => g.2.find? (fun c => c.inp == i && c.dst == o)) with
    | some c =>
      let s1 := if first then { acc.1 with sw := { acc.1.sw with
                    grants := tset acc.1.sw.grants (72 * p + c.dst) ((c.inp + 1) % 72),
                    accepts := tset acc.1.sw.accepts (72 * p + i) ((c.dst + 1) % 72) } } else acc.1
      (s1, acc.2 ++ [c])
    | none => acc) (g.1, m)

/-- May a cell be granted as things stand when it crosses (R111-R114, R126)? Shapers and parents are shared by several outputs and queues, so they
are tested anew; a released cell and a replay need neither tokens nor deficit. -/
def State.granted (s : State) (c : Cell) : Bool :=
  c.inp == 71 || c.replay || (s.queueAllows c.dst c.queue &&
    (decide (c.queue < 4) || (decide (c.units ≤ s.get (F.QDRR_DEFICIT c.dst c.queue)) && !s.capped c.dst c.units)))

/-- A shaper and its parent are charged with a cell's bytes (R114). -/
def State.payTokens (s : State) (sh bytes : Nat) : State :=
  if s.on (F.SH_CTRL_EN sh) then
    let t := s.setI (F.SH_TOKENS_BYTES sh) (s.tokens sh - bytes)
    match s.parent? sh with
    | some pa => t.setI (F.SH_TOKENS_BYTES pa) (t.tokens pa - bytes)
    | none => t
  else s

/-- A cell takes its stream's next number (R96) and begins to cross. -/
def State.launch (s : State) (c : Cell) (skim : Bool) : State :=
  let k := cellStream c
  let st := s.stream k
  ((s.mapCell c.id (fun x => { x with phase := .crossing, seq := st.next, skim := skim, sentAt := s.now })).setStream k
    { st with next := (st.next + 1) % 65536 }).pairUsed (s.phys c.plane) c.inp c.dst

/-- A crossing cell is charged to its queue's shaper and its parent (R114), and one of the weighted group is counted in its window (R126). -/
def State.payCell (s : State) (c : Cell) : State :=
  let s1 := if s.on (F.QCFG_SH_EN c.dst c.queue) then s.payTokens (s.get (F.QCFG_SHAPER c.dst c.queue)) c.payload.length else s
  if 4 ≤ c.queue then s1.countCap c.dst c.units else s1

/-- One cell crosses: it takes its stream's next number unless it is a replay (R96), and its shaper, parent and deficit are charged unless it was
released at port 71 (R112-R114). A replay was charged when it crossed first, and is neither tested nor charged again (DESIGN CHOICE, log
entry 88). -/
def State.cross (s : State) (c : Cell) : State :=
  let s1 := if c.replay then
      (s.mapCell c.id (fun x => { x with phase := .crossing, sentAt := s.now })).pairUsed (s.phys c.plane) c.inp c.dst
    else s.launch c false
  let q := c.queue
  if c.inp = 71 ∨ c.replay then s1.emptied c.dst q
  else
    let s2 := s1.payCell c
    (if 4 ≤ q then s2.sub (F.QDRR_DEFICIT c.dst q) c.units else s2).emptied c.dst q

/-- The cell train a match moves (R91): cells of one stream in order, at most 4 units, and all of the queue granted: a cell of another queue ends
it (R91 names the stream only: DESIGN CHOICE, log entry 86). -/
def State.crossTrain : Nat → Nat → State → List Cell → State
  | _, _, s, [] => s
  | q, room, s, c :: l =>
    if c.units ≤ room ∧ c.queue = q ∧ s.mayCross c ∧ s.granted c then State.crossTrain q (room - c.units) (s.cross c) l else s

/-- The matches of one physical plane in one cell time, and the trains they move. -/
def State.churnPlane (s : State) (p : Nat) : State :=
  let hs := s.heads p
  let r1 := s.churnRound p hs true []
  let r2 := r1.1.churnRound p hs false r1.2
  let r3 := r2.1.churnRound p hs false r2.2
  r3.2.foldl (fun s c => State.crossTrain c.queue 4 s (s.waiting (cellStream c))) r3.1

/-! ### Cell arrival (R81, R93, R95, R99) -/

/-- Does a cell meet every condition of the skim path (R99)? Its output's link must be awake, its stream must have room for its number (R96), and its
queue's shaper and the cap of ladder level 6 must allow it (R114, R126). -/
def State.skims (s : State) (c : CellIn) (x : Cell) : Bool :=
  let k := cellStream x
  let lp := x.plane
  s.on F.SW_CTRL_SKIM_EN && decide (c.tag = .none) && c.credits && !s.asleep c.dst &&
  s.queueAllows x.dst x.queue && (decide (x.queue < 4) || !s.capped x.dst x.units) &&
  !s.sw.cells.any (fun x => x.dst == c.dst.val && decide (x.phase = .waiting ∨ x.phase = .crossing)) &&
  decide (s.lineRate c.dst ≤ s.lineRate c.src) && decide ((s.unacked k).length < 4096) &&
  !s.failing lp

/-- The partition an untagged cell is charged to, or none when its input is held back (R93), as it is while no unit is free (R106). -/
def State.partition (s : State) (src units : Nat) : Option Part :=
  if s.get F.VAT_FREE_UNITS < units then none
  else if s.get (F.RES_USED_UNITS src) + units ≤ 4096 then some .reserve
  else
    let free := s.sw.shared - s.get F.SHARED_USED_UNITS
    if 8 * s.get (F.SHR_USED_UNITS src) < s.get F.VAT_CTRL_ALPHA * free ∧ units ≤ free then some .shared else none

/-- An input port stops taking cells (R93); STALL_CT counts the cell times from here on. -/
def State.holdBack (s : State) (p units : Nat) : State :=
  ({ s with sw := { s.sw with stalled := tset s.sw.stalled p units } }).emit (.heldBack p)

/-- STALL_CT counts a cell time of every input port that is still held back under R93 (R108). -/
def State.countStalls (s : State) : State :=
  s.sw.stalled.foldl (fun s e =>
    if (s.partition e.1 e.2).isNone then s.wrap (F.STALL_CT_COUNT e.1)
    else { s with sw := { s.sw with stalled := tdel s.sw.stalled e.1 } }) s

/-- One cell time of the churn (R89); in ride-through every other one makes no match (R409). -/
def State.churn (s : State) : State :=
  if s.sw.stopped then s
  else
    let s0 := s.countStalls
    if s0.on F.RT_STAT_ACTIVE && s0.sw.parity then { s0 with sw := { s0.sw with parity := false } }
    else
    let s1 := { s0 with sw := { s0.sw with parity := true } }
    ((List.range 3).filter (fun p => s1.get (planeStat p) == 0 && s1.domState (6 + p) == 0)).foldl State.churnPlane s1

/-- The queue of tunnel traffic (R280): PR_QMAP of the dock port it comes from, or of the tunnel's dock port. -/
def State.tunnelQueue (s : State) (src dst key dflt : Nat) : Nat :=
  let n := if 48 ≤ src ∧ src < 64 then src - 48 else if 48 ≤ dst ∧ dst < 64 then dst - 48 else 16
  if n = 16 then dflt
  else match key / 256 % 8 with
    | 1 => s.get (F.PR_QMAP_PCIE n)
    | 2 => s.get (F.PR_QMAP_ETH n)
    | 3 => s.get (F.PR_QMAP_DISP n)
    | 4 => s.get (F.PR_QMAP_SIG n)
    | 5 => s.get (F.PR_QMAP_MGMT n)
    | _ => dflt

/-- The queue of a cell (R110): Q1 for pool traffic, SCHED_CTRL.Q_MGMT for management, PR_QMAP for a tunnel's (R280), Q8 between a door and the
forwarder (R276), else what its ingress block's class map gives it. -/
def State.queueFor (s : State) (c : CellIn) : Nat :=
  match c.kind with
  | .pool _ => 1
  | .mgmt _ => s.get F.SCHED_CTRL_Q_MGMT
  | .tunnel _ => s.tunnelQueue c.src c.dst (flowKeyOf c.kind) c.queue
  | .virtio _ => 8
  | .pcie _ _ => c.queue

/-- A cell that an input port takes, as it enters the vat (R81-R84, R110). -/
def State.newCell (s : State) (c : CellIn) (b : List (BitVec 8)) (som eom : Bool) (part : Part) (phase : CellPhase) : Cell :=
  { id := s.sw.nextId, src := c.src, dst := c.dst, inp := c.src, keyType := keyTypeOf c.kind, flowKey := flowKeyOf c.kind, queue := s.queueFor c,
    som := som, eom := eom, payload := b, units := max 1 ((b.length + 63) / 64), tag := c.tag,
    plane := s.hash c.src c.dst (keyTypeOf c.kind) (flowKeyOf c.kind) % 2, arrival := s.now, part := part, phase := phase }

/-- A cell is charged and counted at its input (R92-R95, R108). -/
def State.chargeCell (s : State) (x : Cell) : State :=
  (({ s with sw := { s.sw with cells := s.sw.cells ++ [x], nextId := s.sw.nextId + 1,
                                stalled := if x.tag = Tag.none then tdel s.sw.stalled x.src else s.sw.stalled } }).charge x.part x.src
    x.units).wrap (F.CELLS_IN_COUNT x.src)

/-- One cell of at most 256 bytes enters an input port (R93, R95, R99). -/
def State.arriveCell (s : State) (c : CellIn) (b : List (BitVec 8)) (som eom : Bool) : State :=
  let x := s.newCell c b som eom .reserve .waiting
  if c.tag = .none then
    match s.partition c.src x.units with
    | none => s.holdBack c.src x.units
    | some part =>
      let skim := s.skims c x
      let y := { x with part := part }
      let s1 := (s.chargeCell y).wakeLink c.dst
      if skim then (((s1.launch y true).payCell y).outUsed c.dst).wrap (F.SKIMMED_COUNT c.src) else s1
  else if s.get F.VAT_FREE_UNITS < x.units then s.holdBack c.src x.units
  else if 131072 < s.get F.HOLD_USED_UNITS + x.units then
    ((s.sat F.HOLD_FULL_COUNT_COUNT).raise 2828).emit (.cellReturned s.sw.nextId c.src 1)
  else
    let s1 := (((s.chargeCell { x with part := .hold, phase := .held }).wheelAdd 1).placeHeld x.id)
    if c.dst.val < 64 then s1.selectState c.dst else s1

/-- The cells of a message (R81): 256 bytes each, and the remainder in a last, shorter one. -/
def cellPieces : Nat → List (BitVec 8) → List (List (BitVec 8))
  | 0, _ => []
  | n + 1, l => if l.length ≤ 256 then [l] else l.take 256 :: cellPieces n (l.drop 256)

/-- The cells of a message enter in order (R81); from the first that is held back on, the rest stays with the sender (R93). -/
def State.arriveAll : State → CellIn → Bool → List (List (BitVec 8)) → State
  | s, _, _, [] => s
  | s, c, som, b :: l =>
    let s1 := s.arriveCell c b som (c.eom && l.isEmpty)
    if (s.partition c.src (max 1 ((b.length + 63) / 64))).isNone ∧ c.tag = .none then s1 else State.arriveAll s1 c false l

/-- A message, or what is at hand of it, enters an input port (R81, R93, R95, R99). -/
def State.arrive (s : State) (c : CellIn) : State :=
  if s.isDark then s
  else if s.shut then s.shutOut c.src
  else s.arriveAll c c.som (cellPieces (c.payload.length / 256 + 1) c.payload)

/-! ### The governor (R125-R127) -/

/-- A budget's ratio (R125), with the measured power in mW and the limit in W. -/
def ratio (mw limit : Nat) : Nat := if limit = 0 then 0 else min 255 (mw / (10 * limit))

/-- Does the ladder enter level `l` from the level below (R126)? -/
def entersLevel (l r : Nat) (dt : Int) (g : GovSt) : Bool :=
  match l with
  | 1 => decide (90 ≤ r) || decide (dt ≤ 10)
  | 2 => decide (95 ≤ r) || decide (dt ≤ 5)
  | 3 => decide (100 ≤ r) || decide (dt ≤ 2)
  | 4 => decide (4 ≤ g.up4) || decide (dt ≤ 0)
  | 5 => decide (20 ≤ g.up5)
  | 6 => decide (20 ≤ g.up6)
  | _ => false

/-- Does the exit condition of level `l` hold in a window (R126)? -/
def leavesLevel (l r feed : Nat) (dt : Int) : Bool :=
  match l with
  | 1 => decide (r < 85) && decide (12 < dt)
  | 2 => decide (r < 90) && decide (7 < dt)
  | 3 => decide (r < 95) && decide (4 < dt)
  | 4 => decide (r < 100) && decide (2 < dt)
  | 5 => decide (feed < 95)
  | 6 => decide (r < 95) && decide (2 < dt)
  | _ => false

/-- The ladder's next level (R126): at most one level per window. Level 5 is passed through unless a feed or the dock bus is the cause; when
the cause stops naming one, level 5 no longer applies, and the ladder goes on to 6 where that level's entry condition holds, else to 4
(DEDUCED, log entry 48). The passage is one step, with one event and one count (DESIGN CHOICE, log entry 90). A MAX_LEVEL below the present
level brings the ladder down by one level per window at once (DESIGN CHOICE, log entry 49). -/
def nextLevel (level maxL r cause : Nat) (dt : Int) (g : GovSt) : Nat :=
  let shed := decide (2 ≤ cause) && decide (cause ≤ 4)
  let up := fun l => decide (l ≤ maxL) && entersLevel l r dt g
  let down := decide (20 ≤ tget 0 g.down level)
  if maxL < level then (if level = 6 ∧ !shed then 4 else level - 1)
  else if level = 4 then
    if shed && up 5 then 5 else if !shed && up 6 then 6 else if down then 3 else 4
  else if level = 5 ∧ !shed then (if up 6 then 6 else 4)
  else if level < 6 ∧ up (level + 1) then level + 1
  else if 0 < level ∧ down then (if level = 6 ∧ !shed then 4 else level - 1)
  else level

/-- The budget that LADDER.CAUSE names (R126): temperature where only it calls for level 1, else the budget of the highest ratio, the first of
die, feed A, feed B and dock bus among equals (DESIGN CHOICE, log entry 50). -/
def causeOf (rs : List Nat) (dt : Int) : Nat :=
  let r := rs.foldl max 0
  if r < 90 ∧ dt ≤ 10 then 5 else if r = 0 then 0 else rs.findIdx (fun x => x == r) + 1

/-- The consecutive windows of the governor (R126): the entry conditions that need several, and each level's exit condition. -/
def GovSt.count (g : GovSt) (r feed : Nat) (dt : Int) : GovSt :=
  { g with
    up4 := if 100 ≤ r then g.up4 + 1 else 0,
    up5 := if 100 ≤ feed then g.up5 + 1 else 0,
    up6 := if 100 ≤ r ∨ dt ≤ 0 then g.up6 + 1 else 0,
    down := [1, 2, 3, 4, 5, 6].map (fun l => (l, if leavesLevel l r feed dt then tget 0 g.down l + 1 else 0)) }

/-- A window of the governor (R125, R126). LADDER.PI has 8 bits and shows 255 for a pressure of 256 (DESIGN CHOICE, log entry 51). -/
def State.govWindow (s : State) (m : GovSample) : State :=
  let rDie := ratio (m.railMw + 2000) (s.get F.P_DIE_LIMIT_W)
  let rA := ratio (s.get F.FDA_P_WIN_MW) (s.get F.P_FEEDA_LIMIT_W)
  let rB := ratio (s.get F.FDB_P_WIN_MW) (s.get F.P_FEEDB_LIMIT_W)
  let rD := ratio (s.get F.BUS_P_WIN_MW) (s.get F.P_DOCK_LIMIT_W)
  let rs := [rDie, rA, rB, rD]
  let r := rs.foldl max 0
  let feed := max rA (max rB rD)
  let dt : Int := (s.get F.TJ_LIMIT_DEGC : Int) - m.tj
  let cause := causeOf rs dt
  let level := s.get F.LADDER_LEVEL
  let g0 := s.gov
  let above := rs.zipIdx.filterMap (fun x => if 100 ≤ x.1 then some x.2 else none)
  let g1 : GovSt := { g0.count r feed dt with
    sumMw := g0.sumMw + m.railMw + 2000, nSum := g0.nSum + 1, tjOver := decide (dt ≤ 0), rOver := above }
  let new := if s.on F.GOV_CTRL_EN then nextLevel level (s.get F.LADDER_MAX_LEVEL) r cause dt g1 else 0
  let into5 := decide (new = 5 ∧ level ≠ 5)
  let s1 := ({ s with gov := { g1 with stopped := if into5 then [] else g1.stopped } }).sets
    [(F.RATIO_DIE, rDie), (F.RATIO_FEEDA, rA), (F.RATIO_FEEDB, rB), (F.RATIO_DOCK, rD),
    (F.TJ_MAX_SENSOR, m.sensor), (F.TJ_MAX_DEGC, ofSigned 8 m.tj), (F.P_DIE_MW, m.railMw + 2000),
    (F.LADDER_LEVEL, new), (F.LADDER_CAUSE, cause), (F.LADDER_PI, min 255 (piOf new))]
  let s2 := if level < new then (s1.sat F.LADDER_UP_COUNT_COUNT).raise 144 else s1.raiseIf (decide (new < level)) 145
  let s3 := (s2.raiseIf into5 146).raiseIf (g1.tjOver && !g0.tjOver) 147
  let s4 := (above.filter (fun b => !g0.rOver.contains b)).foldl (fun s _ => s.raise 148) s3
  (List.range 64).foldl State.selectState s4

end Sys2Proof.Machine
end

