-- ==== Sys2Proof/Machine/SchedFx.lean ====
section
/-! DEFINITION. What a write to a register of the SWITCH, SCHED, ENERGY and EVENTS pages does beyond storing it, and what it
is refused for (R81-R132, R368-R381). -/

namespace Sys2Proof.Machine

/-! ### Switch core -/

/-- PLANE_CMD is written (R98): in FACTORY and RETURNED a FORCE fails the plane; the hub returns the bit to 0. PLANE 3 names no plane, and a
FORCE of it fails none (DESIGN CHOICE, log entry 53). -/
def State.planeCmd (s : State) (v : Nat) : State :=
  if hasBit v 4 && s.testMode && decide (bits v 0 2 < 3) then (s.planeFail (bits v 0 2)).set F.PLANE_CMD_FORCE 0 else s.set F.PLANE_CMD_FORCE 0

/-- HOLD_PEAK.RESET (R107). -/
def State.holdPeakReset (s : State) : State := s.set F.HOLD_PEAK_UNITS (s.get F.HOLD_USED_UNITS)

/-- WHEEL_PEAK.RESET (R132). -/
def State.wheelPeakReset (s : State) : State := s.set F.WHEEL_PEAK_ENTRIES (s.get F.WHEEL_FILL_ENTRIES)

/-! ### Scheduling and energy -/

/-- The waiting items of an axis are filed anew after a write of AXW_WIDTH (R122). -/
def State.refileAxis (s : State) (a : Nat) : State :=
  let w : Int := s.get (F.AXW_WIDTH_WIDTH a)
  let cur := Int.fdiv (s.pos a) w
  let file := fun (x : Wheel) (p : Int) => match x with
    | .axisWheel | .axisOverflow => if cur - 512 ≤ Int.fdiv p w ∧ Int.fdiv p w ≤ cur + 511 then Wheel.axisWheel else .axisOverflow
    | x => x
  let s1 := s.setCells (s.sw.cells.map (fun c =>
    if decide (c.phase = .held) && (match c.tag with | .axis b _ _ => b.val == a | _ => false) then
      { c with wheel := file c.wheel (match c.tag with | .axis _ p _ => p | _ => 0) }
    else c))
  ((s1.armedSlots 2).filter (fun i => (s1.slot i).axis == a)).foldl
    (fun s i => s.setSlot i { s.slot i with wheel := file (s.slot i).wheel (slotPos (s.slot i)) }) s1

/-- The L1 Exit Latency that a port's Link Capabilities report (R195): over 64 us while DEEP is allowed, else 32 us to 64 us. -/
def State.l1Exit (s : State) : Nat := if s.on F.GOV_CTRL_ALLOW_DEEP_HM then 7 else 6

/-- Is the link of an H- or M-port up? -/
def State.portUp (s : State) (p : Nat) : Bool := s.get (if p < 32 then F.HP_STAT_LINK p else F.MP_STAT_LINK (p - 32)) == 2

/-- The Link Capabilities of the H- and M-ports that are up report the L1 Exit Latency (R195). -/
def State.tellExits (s : State) : State :=
  ((List.range 48).filter s.portUp).foldl (fun s p => s.emit (.linkCap p s.l1Exit)) s

/-- GOV_CTRL is written: EN at 0 holds every link in state 0 and the ladder at level 0; a new ALLOW_DEEP_HM is reported (R195). -/
def State.govCtrl (s s0 : State) : State :=
  let s1 := if s.on F.GOV_CTRL_EN then s else (s.set F.LADDER_LEVEL 0).set F.LADDER_PI 0
  let s2 := if s.l1Exit = s0.l1Exit then s1 else s1.tellExits
  (List.range 64).foldl State.selectState s2

/-- Why a write to a SCHED or ENERGY register is refused beyond its form. -/
def State.schedChk (s : State) (x : Wr) : Option Reason :=
  let bad := fun b => if b then some Reason.badValue else none
  match x.k with
  | .sched1 => bad (x.ro == 0x80 && decide (4 ≤ x.i) && bits x.v 0 12 == 0)
  | .sched2 => bad (x.ro == 0x44 && s.chainOf3 x.p x.w (bits x.v 16 12) (hasBit x.v 28))
  | .target => bad (x.ro == 0x40 && x.n == 56 && !hasBit x.v 1)
  | _ => none

/-- The effect of a stored write to a SWITCH, SCHED or ENERGY register. -/
def State.schedFx (s s0 : State) (x : Wr) : State :=
  match x.k with
  | .switch0 => if x.ro = 0x58 then s.planeCmd x.v else s
  | .switch1 => if x.ro = 0x70 ∧ hasBit x.v 31 then s.holdPeakReset else s
  | .sched0 =>
    if x.ro = 0x54 then (if hasBit x.v 31 then s.wheelPeakReset else s)
    else if x.ro = 0x60 then s.refileAxis x.i
    else s
  | .sched1 => if x.ro = 0x80 ∧ x.i < 4 then s.set (F.QCFG_WEIGHT x.w x.i) (s0.get (F.QCFG_WEIGHT x.w x.i)) else s
  | .sched2 => if x.ro = 0x44 then s.shaperEn x.w (s0.on (F.SH_CTRL_EN x.w)) (s.on (F.SH_CTRL_EN x.w)) else s
  | .sched3 => if x.ro = 0x40 then s.selectState x.i else (List.range 64).foldl State.selectState s
  | .sched4 => if x.ro = 0x40 then s.govCtrl s0 else s
  | .sched5 => if x.ro = 0x44 then s.selectState x.w else s
  | _ => s

/-! ### Event unit -/

/-- A set's mask is written: its held events go out once one of its targets is enabled (R373). -/
def State.deliverSet (s : State) (set : Nat) : State := s.retryHeld (fun ev => s.get (F.EV_ROUTE_SET ev) == set)

/-- EV_CTRL.EN rises: every held event that has an enabled target goes out (R373). -/
def State.deliverAll (s : State) : State := s.retryHeld (fun _ => true)

/-- A consumer writes TGT_QCONS (R376): the request is raised again while records remain. -/
def State.qcons (s : State) (t : Nat) : State :=
  if s.get (F.TGT_QCONS_INDEX t) = (s.tgt t).qprod then s else s.request t false

/-- The effect of a stored write to a register of the EVENTS pages. -/
def State.eventFx (s s0 : State) (x : Wr) : State :=
  match x.k with
  | .event0 => if x.ro = 0x40 ∧ s.on F.EV_CTRL_EN ∧ !s0.on F.EV_CTRL_EN then s.deliverAll else s
  | .event1 => if x.ro = 0x44 then s.routed x.w else s
  | .event2 => if x.ro = 0x44 ∨ x.ro = 0x48 then s.deliverSet x.w else s
  | .target =>
    if x.ro = 0x40 then (if s.tgtEnabled x.n = s0.tgtEnabled x.n then s else s.retarget x.n)
    else if x.ro = 0x4c then s.qcons x.n
    else if x.ro = 0x54 then s.completeEv x.n false (bits x.v 0 12)
    else if x.ro = 0x5c then s.completeEv x.n true (bits x.v 0 12)
    else s
  | _ => s

end Sys2Proof.Machine
end

