-- ==== Sys2Proof/Machine/TimeFx.lean ====
section
/-! DEFINITION. What a write to a register of the TIME and AXES pages does beyond storing it, what it is refused for
(R50-R80), and the PTP boundary clock (R57-R60). -/

namespace Sys2Proof.Machine

/-! ### Refusals -/

/-- Why a write to a TIME or AXES register is refused beyond its form. -/
def State.timeChk (s : State) (x : Wr) : Option Reason :=
  let bad := fun b => if b then some Reason.badValue else none
  match x.k with
  | .time0 =>
    if x.ro = 0x44 then bad (decide (0x83126E < (toSigned 32 x.v).natAbs))
    else if x.ro = 0x5c then bad (hasBit x.v 0 && s.stepOver)
    else if x.ro = 0x74 then bad (bits x.v 0 2 == 3 && bits x.v 8 8 != 0)
    else none
  | .time2 =>
    if x.ro = 0x40 then
      bad (decide (6 ≤ bits x.v 0 3) || (s.on (F.TSTAT_ARMED x.i) && bits x.v 0 3 != s.trigMode x.i) ||
        (hasBit x.v 10 && s.armRefused x.i (bits x.v 0 3)))
    else if x.ro = 0x50 ∨ x.ro = 0x54 then
      bad (x.v == 0 && s.get (if x.ro = 0x50 then F.TPERIOD_HI_VALUE x.i else F.TPERIOD_LO_VALUE x.i) == 0 && s.on (F.TSTAT_ARMED x.i) &&
        decide (4 ≤ s.trigMode x.i))
    else none
  | .axis =>
    if x.ro = 0x44 then bad (x.v == 0 && s.get (F.SCALE_HI_INT x.n) == 0)
    else if x.ro = 0x48 then bad (x.v == 0 && s.get (F.SCALE_LO_FRAC x.n) == 0)
    else none
  | _ => none

/-! ### Effects -/

/-- The output that a trigger's mode calls for, outside ARM (R75): the level in ACTIVE in mode LEVEL; in modes 2 to 5 a pulse that runs
goes on, where `pulses` tells that the mode was one of these before. -/
def State.trigLevel (s : State) (n : Nat) (pulses : Bool) : Bool :=
  if s.trigMode n = 1 then s.on (F.TCTRL_ACTIVE n) else decide (2 ≤ s.trigMode n) && pulses && s.on (F.TSTAT_OUTPUT n)

/-- TCTRL is written (R75), `s0` the state before: the output that the mode calls for, at the level POL gives it, then ARM, then DISARM. -/
def State.trigCtl (s s0 : State) (n v : Nat) : State :=
  let t := s.put (F.TSTAT_OUTPUT n) (s.trigLevel n (decide (2 ≤ s0.trigMode n)))
  let s1 := if t.pinLevel n = s0.pinLevel n then t else t.emit (.trigger n (t.pinLevel n) ((s.now : Int) * 1000))
  let s2 := if hasBit v 10 then s1.arm n else s1
  if hasBit v 11 then s2.disarm n else s2

/-- TPERIOD is written: an armed trigger's grid takes it at once, and its next point is the first that has not passed. -/
def State.trigPeriod (s : State) (n : Nat) : State :=
  if s.on (F.TSTAT_ARMED n) && decide (4 ≤ s.trigMode n) then
    let t := { s.trig n with period := s.get64 (F.TPERIOD_LO_VALUE n) (F.TPERIOD_HI_VALUE n) }
    let k := if s.trigMode n = 5 then firstPoint t (s.pos t.axis) else firstPoint t s.now
    let s1 := s.setTrig n { t with k := k }
    if s.trigMode n = 5 then s1.repredict n else s1
  else s

/-- The triggers in mode LEVEL drive their outputs again after their domain's return to ON (R75). -/
def State.trigReturn (s : State) : State :=
  (List.range 16).foldl (fun s n => s.drive n (s.trigLevel n false) ((s.now : Int) * 1000)) s

/-- AX_CTRL is written: Z_MODE is written anew (R72), and the levels that the axis qualifies after a change to SOURCE 0 are start levels
(R63): those of before are forgotten while SOURCE is another. -/
def State.axCtrl (s : State) (a : Nat) : State :=
  let x := s.axis a
  let pins := s.get (F.AX_CTRL_SOURCE a) == 0
  s.setAxis a { x with zDone := false, started := x.started && pins, zStart := x.zStart && pins }

/-- The TIME and AXES pages are ON again, from state `src` (R63, R66, R75, R79): triggers in mode LEVEL drive their outputs, positions are formed
from the SCALE and OFFSET of now, the sync inputs forget what they learnt and, from OFF, the levels of an axis are start levels anew. -/
def State.timeReturn (s : State) (src : Nat) : State :=
  let s1 := (List.range 8).foldl (fun s a => if (s.axis a).pc = s.posOfCount a (s.count a) then s else s.rebase a) s.trigReturn
  let s2 := (List.range 4).foldl State.resetSync s1
  if src = 2 then { s2 with time := { s2.time with axes := s2.time.axes.map (fun e => (e.1, { e.2 with started := false, zStart := false })) } }
  else s2

/-- AX_CMD is written (R71, R72): the load comes before the flags are cleared. -/
def State.axCmd (s : State) (a v : Nat) : State :=
  let s1 := if hasBit v 1 then s.loadCount a else s
  if hasBit v 0 then s1.clearFlags a else s1

/-- SW_DELTA is written (R65). -/
def State.swDelta (s : State) (a v : Nat) : State :=
  if s.get (F.AX_CTRL_SOURCE a) = 1 then s.counted a (toSigned 32 v) else s

/-- The front entry of a capture queue is removed (R78). -/
def State.capPop (s : State) (n : Nat) : State := s.setCap n { s.cap n with queue := (s.cap n).queue.tail }

/-! ### The PTP boundary clock (R57-R60) -/

def State.ptp (s : State) (port : Nat) : PtpPort := tget {} s.time.ptp port

def State.setPtp (s : State) (port : Nat) (x : PtpPort) : State :=
  { s with time := { s.time with ptp := tset s.time.ptp port x } }

/-- Is a PTP port enabled (PTP_CTRL.PROFILE, PTP_DOCK_EN, PTP_DOOR_EN), with TIMEAX on (R73)? -/
def State.ptpOn (s : State) (port : Nat) : Bool :=
  s.get F.PTP_CTRL_PROFILE != 0 && s.timeOn &&
    (if port < 16 then hasBit (s.get F.PTP_DOCK_EN_EN) port else hasBit (s.get F.PTP_DOOR_EN_EN) (port - 16))

/-- The crossbar port whose asymmetry a PTP port's stamps are corrected with (R59). -/
def ptpXbar (port : Nat) : Nat := if port < 16 then 48 + port else port - 16

/-- The lanes that a dock port's flits run on. -/
def State.dockLanes (s : State) (n : Nat) : Nat :=
  if s.get (F.LSTATE_STATE (48 + n)) = 1 then 1 else if s.get (F.DL_STAT_WIDTH n) = 3 then 2 else if s.get (F.DL_STAT_WIDTH n) = 0 then 0 else 1

/-- The flit time of a port in ps (R237). -/
def State.flitTime (s : State) (n : Nat) : Nat := flitPs (s.get (F.DL_STAT_RATE n)) (s.dockLanes n)

/-- The time in ps from a stamp's flit to the message time-stamp point `off` bytes into it, at a dock link's present rate and width; none at
a door (R58). -/
def State.flitOffset (s : State) (xport off : Nat) : Nat := if 48 ≤ xport then off * s.flitTime (xport - 48) / 256 else 0

/-- A corrected ingress stamp in ns (R58, R59). -/
def State.stampIn (s : State) (xport off : Nat) : Int :=
  Int.fdiv ((s.now : Int) * 1000 + s.flitOffset xport off - s.getI (F.ASYM_IN_PS xport)) 1000

/-- A corrected egress stamp in ns (R58, R59). -/
def State.stampOut (s : State) (xport off : Nat) : Int :=
  Int.fdiv ((s.now : Int) * 1000 + s.flitOffset xport off + s.getI (F.ASYM_EG_PS xport)) 1000

/-- The servo's state, with EV3074 when it changes. -/
def State.setServo (s : State) (v : Nat) : State :=
  (s.set F.TIME0_CLK_STAT_SERVO v).raiseIf (s.get F.TIME0_CLK_STAT_SERVO != v) 3074

/-- The servo takes an offset from its reference: it writes INCR_ADJ within its limit (R50, R53). -/
def State.servo (s : State) (off : Int) : State :=
  let s1 := { s with time := { s.time with offset := off } }
  (s1.setI F.INCR_ADJ_ADJ (clampAbs 0x83126E (Config.servoAdj off))).setServo (if Config.servoLocked off then 2 else 1)

/-- The enabled PTP ports. -/
def State.ptpPorts (s : State) : List Nat := (List.range 48).filter s.ptpOn

/-- The best rank of the masters heard on a port. -/
def PtpPort.best (x : PtpPort) : Option Nat := (x.foreign.map (fun e => e.2)).min?

/-- The best rank heard on any enabled port, with its port. -/
def State.bestForeign (s : State) : Option (Nat × Nat) :=
  s.ptpPorts.foldl (fun b p =>
    match (s.ptp p).best, b with
    | some r, some (r0, p0) => if r < r0 then some (r, p) else some (r0, p0)
    | some r, none => some (r, p)
    | none, b => b) none

/-- The clockIdentity (R57): words 2 and 3 of the IDENTITY record (R438). -/
def State.clockIdentity (s : State) : Nat := ((s.record 1).getD []).getD 2 0 + 2 ^ 32 * ((s.record 1).getD []).getD 3 0

/-- The best master decision (R57): at most one port is in SLAVE state; without one the hub is grandmaster. GM is 1 whenever the PTP ports run
and none is in SLAVE state, the servo's holdover included (DESIGN CHOICE, log entry 84). -/
def State.bmca (s : State) : State :=
  let own := Config.ptpOwnRank (s.get F.PTP_CTRL_PRIORITY1) (s.get F.PTP_CTRL_PRIORITY2) s.clockIdentity
  let slave := match s.bestForeign with
    | some (r, p) => if r < own then some p else none
    | none => none
  let st : Nat → PtpState := fun p =>
    if s.ptpOn p then
      (if slave == some p then .slave else if !(s.ptp p).foreign.isEmpty then .passive else .master)
    else .disabled
  let s1 := (List.range 48).foldl (fun s p => s.setPtp p { s.ptp p with state := st p }) s
  let s2 := (s1.set F.TIME0_CLK_STAT_SLAVE_PORT (slave.getD 0x3F)).put F.TIME0_CLK_STAT_GM
    (slave.isNone && s.get F.PTP_CTRL_PROFILE != 0 && s.timeOn)
  if s.get F.TIME0_CLK_CTRL_SERVO_SRC = 1 then
    match slave with
    | some _ => if s.get F.TIME0_CLK_STAT_SERVO = 0 ∨ s.get F.TIME0_CLK_STAT_SERVO = 3 then s2.setServo 1 else s2
    | none => if s.get F.TIME0_CLK_STAT_SERVO = 1 ∨ s.get F.TIME0_CLK_STAT_SERVO = 2 then s2.setServo 3 else s2
  else s2

/-- CLK_CTRL.SERVO_SRC is written: the servo starts on its new reference, or leaves the clock free. -/
def State.servoSrc (s : State) : State :=
  s.setServo (if s.get F.TIME0_CLK_CTRL_SERVO_SRC = 1 ∧ s.get F.TIME0_CLK_STAT_SLAVE_PORT ≠ 0x3F then 1 else 0)

/-- A change of PTP_CTRL.PROFILE, of the domain or of a port's enable restarts PTP ports. -/
def State.ptpRestart (s : State) (ports : List Nat) : State :=
  (ports.foldl (fun s p => s.setPtp p { state := if s.ptpOn p then .listening else .disabled }) s).bmca

/-- The offset the servo measures at a slave port: the transit time of its last Sync less the mean path delay. -/
def ptpOffset (x : PtpPort) : Int := x.t2 - x.t1 - x.path

/-- A slave port's exchange is complete: the servo follows it when CLK_CTRL.SERVO_SRC selects PTP. -/
def State.ptpFollow (s : State) (port : Nat) : State :=
  if s.get F.TIME0_CLK_CTRL_SERVO_SRC = 1 ∧ (s.ptp port).state = .slave then s.servo (ptpOffset (s.ptp port)) else s

/-- Does the hub stamp in one step (PTP_CTRL.ONE_STEP, ignored for gPTP)? -/
def State.oneStep (s : State) : Bool := s.on F.PTP_CTRL_ONE_STEP && s.get F.PTP_CTRL_PROFILE != 3

/-- What every message of the instance carries. -/
def State.ptpHdr (s : State) : PtpHdr :=
  ⟨s.get F.PTP_CTRL_DOMAIN, s.clockIdentity, s.get F.PTP_CTRL_PRIORITY1, s.get F.PTP_CTRL_PRIORITY2⟩

/-- A message on an enabled PTP port (R57-R59), its time-stamp point `off` bytes into its flit. A delay exchange belongs to profile 1, a
peer-delay exchange to the others. -/
def State.ptpMsg (s : State) (port off : Nat) (m : PtpMsg) : State :=
  let x := s.ptp port
  let rx := s.stampIn (ptpXbar port) off
  let peer := s.get F.PTP_CTRL_PROFILE != 1
  match m with
  | .announce id rank => (s.setPtp port { x with foreign := tset x.foreign id rank }).bmca
  | .sync origin two =>
    let s1 := s.setPtp port { x with t2 := rx, t1 := if two then x.t1 else origin, twoStep := two }
    if two then s1 else s1.ptpFollow port
  | .followUp origin => (s.setPtp port { x with t1 := origin }).ptpFollow port
  | .delayReq seq => if x.state = .master ∧ !peer then s.emit (.ptp port 9 seq rx s.ptpHdr) else s
  | .delayResp rxm =>
    if peer then s else s.setPtp port { x with t4 := rxm, path := Int.fdiv ((x.t2 - x.t1) + ((rxm : Int) - x.t3)) 2 }
  | .pdelayReq seq =>
    let tx := s.stampOut (ptpXbar port) off
    if !peer then s
    else if s.oneStep then s.emit (.ptp port 3 seq (tx - rx) s.ptpHdr)
    else (s.emit (.ptp port 3 seq rx s.ptpHdr)).emit (.ptp port 10 seq tx s.ptpHdr)
  | .pdelayResp rxm txm =>
    if peer then s.setPtp port { x with t4 := rx, path := Int.fdiv ((rx - x.t3) - ((txm : Int) - rxm)) 2 } else s
  | .management write => s.emit (.ptpMgmt port (!write))

/-- A port's periodic message, or the end of its wait for an Announce, by which it forgets the masters it heard (R57). -/
def State.ptpSend (s : State) (port : Nat) (kind : PtpKind) (off : Nat) : State :=
  let x := s.ptp port
  let tx := s.stampOut (ptpXbar port) off
  match kind with
  | .sync =>
    if x.state = .master then
      let s1 := (s.setPtp port { x with seqSync := (x.seqSync + 1) % 65536 }).emit (.ptp port 0 x.seqSync tx s.ptpHdr)
      if s.oneStep then s1 else s1.emit (.ptp port 8 x.seqSync tx s.ptpHdr)
    else s
  | .announce =>
    if x.state = .master then
      (s.setPtp port { x with seqAnn := (x.seqAnn + 1) % 65536 }).emit (.ptp port 11 x.seqAnn tx s.ptpHdr)
    else s
  | .delayReq =>
    if s.get F.PTP_CTRL_PROFILE = 1 then
      if x.state = .slave then
        (s.setPtp port { x with t3 := tx, seqDly := (x.seqDly + 1) % 65536 }).emit (.ptp port 1 x.seqDly tx s.ptpHdr)
      else s
    else (s.setPtp port { x with t3 := tx, seqDly := (x.seqDly + 1) % 65536 }).emit (.ptp port 2 x.seqDly tx s.ptpHdr)
  | .announceTimeout => (s.setPtp port { x with foreign := [] }).bmca

/-- The effect of a stored write to a TIME or AXES register: `s0` is the state before the write. -/
def State.timeFx (s s0 : State) (x : Wr) : State :=
  match x.k with
  | .time0 =>
    if x.ro = 0x40 then (if s0.get F.TIME0_CLK_CTRL_SERVO_SRC ≠ s.get F.TIME0_CLK_CTRL_SERVO_SRC then s.servoSrc else s)
    else if x.ro = 0x5c then (if hasBit x.v 0 then s.stepGo else s)
    else if x.ro = 0x74 then
      (if s0.get F.PTP_CTRL_PROFILE ≠ s.get F.PTP_CTRL_PROFILE ∨ s0.get F.PTP_CTRL_DOMAIN ≠ s.get F.PTP_CTRL_DOMAIN
       then s.ptpRestart (List.range 48) else s.bmca)
    else if x.ro = 0x78 ∨ x.ro = 0x7c then s.ptpRestart ((List.range 48).filter (fun p => s.ptpOn p != s0.ptpOn p))
    else s
  | .time2 =>
    if x.ro = 0x40 then s.trigCtl s0 x.i x.v
    else if x.ro = 0x50 ∨ x.ro = 0x54 then s.trigPeriod x.i
    else if x.ro = 0x58 then (if s.trigWaits x.i && s.axisMode x.i then s.repredict x.i else s)
    else s
  | .time3 =>
    if x.ro = 0x40 then
      (if s.on (F.CAP_CTRL_EN x.i) && !s0.on (F.CAP_CTRL_EN x.i) then s.setCap x.i { s.cap x.i with seen := false } else s)
    else if x.ro = 0x58 then (if hasBit x.v 0 then s.capPop x.i else s)
    else if x.ro = 0x240 then
      (if s.on (F.SYNC_CTRL_EN x.i) && !s0.on (F.SYNC_CTRL_EN x.i) then s.resetSync x.i else s)
    else s
  | .axis =>
    let a := x.n
    if x.ro = 0x40 then s.axCtrl a
    else if 0x44 ≤ x.ro ∧ x.ro ≤ 0x50 then s.rebase a
    else if x.ro = 0x70 then s.reselectHeld
    else if x.ro = 0x78 then s.axCmd a x.v
    else if x.ro = 0x8c then s.swDelta a x.v
    else s
  | _ => s

end Sys2Proof.Machine
end

