-- ==== Sys2Proof/Machine/Ports.lean ====
section
/-! DEFINITION. Host ports, memory ports and bindings (R184-R198): links, low-power exits, BIND and UNBIND, the removal of
functions, and WRITE_FENCE; with the loss of a path's transactions (R38, R40). -/

namespace Sys2Proof.Machine

/-! ### Transactions of a lost path (R38, R40) -/

/-- An open, armed or broken transaction is freed without effect, with a result (R38, R40). -/
def State.dropSlot (s : State) (i result : Nat) : State :=
  let s1 := s.freeSlot i result 0
  if (s.slot i).wheel = .none then s1 else s1.wheelSub 1

/-- The path of a requester goes down: its OPEN transactions are aborted (R40). -/
def State.pathLost (s : State) (p : Nat) : State :=
  ((List.range 8).filter (fun i => decide ((s.slot i).state = .opened) && (s.slot i).opener == p)).foldl
    (fun s i => (s.dropSlot i 5).raise 33) s

/-! ### Fences (R198) -/

/-- Is sequence number `a` at or before `b`, modulo 2^32? -/
def seqLe (a b : Nat) : Bool := decide ((b + 2 ^ 32 - a) % 2 ^ 32 < 2 ^ 31)

/-- Does a fence's target name a write's target? -/
def fenceHits (t target : Nat) : Bool := t == 0x7F || t == target

/-- Is a write that a fence covers still under way? -/
def State.fenceWaits (s : State) (f : Fence) : Bool :=
  s.port.wtrack.any (fun t => t.init == f.init && fenceHits f.target t.target && seqLe t.seq f.point)

/-- The failed writes that a fence counts. -/
def State.fenceFails (s : State) (f : Fence) : Nat :=
  (((s.port.fails.filter (fun t => t.init == f.init && fenceHits f.target t.target && seqLe t.seq f.point &&
    (match f.prev with
      | some p => !seqLe t.seq p
      | none => true))).map (fun t => t.seq)).eraseDups).length

/-- The point of the previous fence (R198). -/
def State.prevFence (s : State) (init target : Nat) : Option Nat :=
  let at? := fun t => (s.port.lastF.find? (fun e => e.1 == init * 256 + t)).map (fun e => e.2)
  if target = 0x7F then at? 0x7F
  else match at? target, at? 0x7F with
    | some a, some b => some (if seqLe a b then b else a)
    | some a, none => some a
    | none, b => b

/-- HP_STAT.FENCES counts the fences of a host that wait. -/
def State.countFences (s : State) (h : Nat) : State :=
  s.set (F.HP_STAT_FENCES h) (min 31 (s.port.fences.filter (fun f => f.host == h)).length)

/-- A fence completes (R198). -/
def State.fenceDone (s : State) (f : Fence) : State :=
  ((s.mapPort (fun p => { p with fences := p.fences.filter (fun g => !(g.host == f.host && g.seq == f.seq)) })).countFences f.host).complete
    f.host f.seq 0 (2 ^ 32 * s.fenceFails f) f.point

/-- WRITE_FENCE starts (R198). -/
def State.writeFence (s : State) (h seq init target : Nat) : State :=
  let mine := init == h || (decide (64 ≤ init) && (match (s.fnSlot (init - 64)).bound with
    | some b => b.1 == h
    | none => false))
  if !mine || !(decide (target ≤ 71) || target == 0x7E || target == 0x7F) then s.complete h seq 6 0
  else
    let f : Fence := { host := h, seq := seq, init := init, target := target, point := (s.nextSeq init + 2 ^ 32 - 1) % 2 ^ 32,
                       prev := s.prevFence init target }
    let s1 := s.mapPort (fun p => { p with lastF := tset p.lastF (init * 256 + target) f.point })
    if s1.fenceWaits f then (s1.mapPort (fun p => { p with fences := p.fences ++ [f] })).countFences h
    else s1.fenceDone f

/-! ### Functions and their removal (R190-R193) -/

/-- What a vDSP's Slot Status and Link Status show once it has taken a state (R192, R193): a presence or a link gained or lost sets its changed
bit; DPC stays until the next binding. -/
def VdspCfg.enter (x : VdspCfg) : Nat → VdspCfg
  | 0 => { x with present := false, active := false, presChg := x.presChg || x.present, dllChg := x.dllChg || x.active }
  | 1 => { x with present := true, active := true, presChg := true, dllChg := true, dpc := false }
  | 2 => { x with button := true }
  | _ => { x with dpc := true }

/-- A vDSP (index 0 is vDSP1) takes a state: 0 EMPTY, 1 PRESENT, 2 REMOVING, 3 DPC; its event is raised (HPORT page 1). -/
def State.setVdsp (s : State) (h d st : Nat) : State :=
  ((s.set (F.VDSP_STAT_STATE h d) st).mapPort (fun p => { p with
    vcfg := tset p.vcfg (16 * h + d) ((tget {} p.vcfg (16 * h + d)).enter st) })).raise (272 + 32 * h + d)

/-- The undelivered writes of its host to a removed function fail with LINK_DOWN, then the function's own with UNBOUND (R193). -/
def State.failWritesOf (s : State) (x h : Nat) : State :=
  let mine := s.port.wtrack.filter (fun t => t.init == 64 + x)
  let lost := s.port.wtrack.filter (fun t => t.init == h && t.fn == x + 1)
  let parts := fun (t : WTrack) =>
    (s.pool.reqs.filter (fun r => r.init == t.init && r.seq == t.seq && decide (r.kind = .wrU) && decide (r.phase ≠ .write) && 32 + r.mport == t.target)).map
      (fun r => (r.addr, r.len)) ++
    (s.pool.writes.filter (fun w => decide (w.src = some (t.init, t.seq)) && 32 + w.mport == t.target)).map (fun w => (w.addr, w.len)) ++
    s.gd.held.flatMap (fun a => match a with
      | .write _ i q addr data => if i = t.init ∧ q = t.seq then
          (pieces 4096 (data.length + 1) addr data.length).filter (fun p => targetOf (s.poolMap p.1) == t.target)
        else []
      | _ => [])
  let s1 := lost.foldl (fun s t => s.failWrite t.init t.seq t.target 0x26 t.len t.addr) s
  let s2 := mine.foldl (fun s t =>
    let ps := parts t
    let a := ps.foldl (fun m p => min m p.1) ((ps.headD (0, 0)).1)
    (s.failWrite t.init t.seq t.target 0x27 (ps.foldl (fun n p => n + p.2) 0) a)) s1
  (s2.mapPort (fun p => { p with wtrack := p.wtrack.filter (fun t => !(t.init == 64 + x) && !(t.init == h && t.fn == x + 1)) })).mapPool
    (fun p => { p with writes := p.writes.map (fun w => if w.src.map (fun y => y.1) = some (64 + x) then { w with src := none } else w) })

/-- A bound function is removed (R193): DPC, its requests and writes end, its slot goes into quarantine, the vDSP is EMPTY, and
the UNBIND commands that wait for it complete. -/
def State.removeFn (s : State) (h d : Nat) : State :=
  let x := s.get (F.VDSP_STAT_SLOT h d)
  if s.get (F.VDSP_STAT_STATE h d) = 0 then s
  else
    let s1 := (s.setVdsp h d 3).emit (.vdsp h d 3)
    let s2 := (s1.port.np.filter (fun e => e.1 == h && e.2.1 == d)).foldl (fun s e => s.emit (.hostAbort h d e.2.2)) s1
    let s3 := (s2.mapPort (fun p => { p with np := p.np.filter (fun e => !(e.1 == h && e.2.1 == d)) })).failWritesOf x h
    let s4 := s3.mapPool (fun p => { p with
      reqs := (p.reqs.filter (fun r => !(r.init == 64 + x && (decide (r.phase = .travel) || (decide (r.phase = .queued) && decide (r.kind = .wrU)))))).map
        (fun r => if r.init = 64 + x then { r with gone := true } else r),
      freads := p.freads.filter (fun r => r.init != 64 + x) }) |>.copyTrackers
    let s5 := s4.mapGd (fun g => { g with marks := g.marks.filter (fun t => t.1 != 64 + x), held := g.held.filter (fun a => match a with
      | .read _ i _ _ _ | .write _ i _ _ _ | .atomic _ i _ _ _ => i != 64 + x
      | .line _ => true) })
    let src := s5.get (F.VDSP_SRC_PORT h d)
    let s5 := if 48 ≤ src then s5.set (F.CH_INFO_BOUND (src - 48) (32 + s5.get (F.VDSP_SRC_ID h d) % 32)) 0 else s5
    let s6 := ((s5.setFn x { s5.fnSlot x with bound := none, quar := true }).setVdsp h d 0).emit (.vdsp h d 1)
    let waits := s6.port.removals.filter (fun r => r.1 == h && r.2.1 == d)
    waits.foldl (fun s r => s.complete r.2.2.1 r.2.2.2 0 0)
      (s6.mapPort (fun p => { p with removals := p.removals.filter (fun r => !(r.1 == h && r.2.1 == d)) }))

/-- The link of functions' source port goes down (R193): every function bound from it is removed, and those found are gone. -/
def State.sourceDown (s : State) (port : Nat) : State :=
  let s1 := (List.range 512).foldl (fun s k =>
    if s.get (F.VDSP_STAT_STATE (k / 16) (k % 16)) != 0 && s.get (F.VDSP_SRC_PORT (k / 16) (k % 16)) == port then
      s.removeFn (k / 16) (k % 16)
    else s) s
  s1.mapPort (fun p => { p with found := p.found.filter (fun f => f.port != port) })

/-- A function is found (R189): a DEVICE_FOUND record goes to the host of FM_PATH. -/
def State.foundFn (s : State) (port id vendor device cls : Nat) : State :=
  (s.mapPort (fun p => { p with found := p.found.filter (fun f => !(f.port == port && f.id == id)) ++ [⟨port, id⟩] })).fmRec
    { seq := 0, typ := 0x30, source := port, ref := id, status := vendor + 65536 * device, addr := cls, data := 0 }

/-- Is a function bound already (R190)? -/
def State.srcBound (s : State) (port id : Nat) : Bool :=
  (List.range 512).any (fun k => s.get (F.VDSP_STAT_STATE (k / 16) (k % 16)) != 0 &&
    s.get (F.VDSP_SRC_PORT (k / 16) (k % 16)) == port && s.get (F.VDSP_SRC_ID (k / 16) (k % 16)) == id)

/-- A slot's guard masks are cleared (R190). -/
def State.clearMasks (s : State) (init : Nat) : State :=
  (List.range 8).foldl (fun s i => (s.set (F.RMASK_COLOURS init i) 0).set (F.WMASK_COLOURS init i) 0) s

/-- BIND (R190, R192): the error it completes with, or the slot it takes. -/
def State.bindErr (s : State) (h host vdsp src id base size dev : Nat) : Option Nat :=
  if s.get F.FM_PATH_REQ ≠ h then some 1
  else if 32 ≤ host ∨ vdsp = 0 ∨ 17 ≤ vdsp ∨ src < 32 ∨ 64 ≤ src ∨ 2 ^ 24 ≤ base ∨ 2 ^ 24 ≤ size ∨ 2 ^ 24 ≤ dev ∨
      2 ^ 24 < base + size ∨ 2 ^ 24 < dev + size then some 6
  else if s.get (F.VDSP_STAT_STATE host (vdsp - 1)) ≠ 0 then some 2
  else if ((List.range 256).all (fun x => (s.fnSlot x).bound.isSome || (s.fnSlot x).quar)) then some 3
  else if s.get (F.HP_STAT_LINK host) ≠ 2 ∨ s.on (F.HP_CTRL_EN host) = false ∨ !s.port.found.any (fun f => f.port == src && f.id == id) then some 4
  else if s.srcBound src id then some 5
  else none

/-- A binding is made (R190-R192). -/
def State.bind (s : State) (h seq host d src id base size dev : Nat) : State :=
  match (List.range 256).find? (fun x => (s.fnSlot x).bound.isNone && !(s.fnSlot x).quar) with
  | none => s
  | some x =>
    let g := ((s.fnSlot x).gen + 1) % 16
    let s1 := ((s.exitLink host).setFn x { gen := g, quar := false, bound := some (host, d) }).clearMasks (64 + x)
    let s2 := s1.sets [(F.VDSP_STAT_GEN host d, g), (F.VDSP_STAT_SLOT host d, x), (F.VDSP_SRC_PORT host d, src), (F.VDSP_SRC_ID host d, id),
      (F.VDSP_POOL_BASE_UNITS host d, base), (F.VDSP_POOL_SIZE_UNITS host d, size), (F.VDSP_POOL_DEV_UNITS host d, dev),
      (F.VDSP_SEQ_SEQ host d, s.nextSeq (64 + x))]
    let s2 := if 48 ≤ src then s2.set (F.CH_INFO_BOUND (src - 48) (32 + id % 32)) 1 else s2
    ((s2.setVdsp host d 1).emit (.vdsp host d 1)).complete h seq 0 (2 ^ 32 * (x + 256 * g))

/-- BIND is judged and carried out (R190-R192). -/
def State.bindNow (s : State) (b : BindReq) : State :=
  match s.bindErr b.h b.host b.vdsp b.src b.id b.base b.size b.dev with
  | some e => s.complete b.h b.seq e 0
  | none => s.bind b.h b.seq b.host (b.vdsp - 1) b.src b.id b.base b.size b.dev

/-- BIND starts (R190, R194): where the host's link is in DEEP, the exit comes first. -/
def State.bindStart (s : State) (b : BindReq) : State :=
  if (s.bindErr b.h b.host b.vdsp b.src b.id b.base b.size b.dev).isNone && s.get (F.LSTATE_STATE b.host) == 4 then
    (s.exitLink b.host).mapPort (fun p => { p with binds := p.binds ++ [b] })
  else s.bindNow b

/-- The BIND commands that waited for a host's link go on, or find it down (R194). -/
def State.bindsGo (s : State) (host : Nat) : State :=
  (s.port.binds.filter (fun b => b.host == host)).foldl State.bindNow
    (s.mapPort (fun p => { p with binds := p.binds.filter (fun b => b.host != host) }))

/-- UNBIND (R190, R192). -/
def State.unbind (s : State) (h seq host vdsp slot gen : Nat) (force : Bool) : State :=
  if s.get F.FM_PATH_REQ ≠ h then s.complete h seq 1 0
  else if 32 ≤ host ∨ vdsp = 0 ∨ 17 ≤ vdsp then s.complete h seq 6 0
  else if (s.fnSlot slot).gen ≠ gen ∨ (s.fnSlot slot).bound.isNone then (s.stale 0).complete h seq 7 0
  else if (s.fnSlot slot).bound ≠ some (host, vdsp - 1) then s.complete h seq 6 0
  else
    let s1 := s.mapPort (fun p => { p with removals := p.removals ++ [(host, vdsp - 1, h, seq)] })
    if force then s1.removeFn host (vdsp - 1)
    else if s1.get (F.VDSP_STAT_STATE host (vdsp - 1)) = 1 then (s1.setVdsp host (vdsp - 1) 2).emit (.vdsp host (vdsp - 1) 2)
    else s1

/-! ### Links (R188, R194, R195, R199, R200) -/

/-- A latency tolerance of an LTR half: value and scale of PCIe in ns (PRESUMED, log entry 31), or none without a requirement. -/
def ltrHalf (v : Nat) : Option Nat := if hasBit v 15 then some (bits v 0 10 * 32 ^ bits v 10 3) else none

/-- TOL_LTR that an LTR value gives (R130, R195). -/
def ltrNs (v : Nat) : Nat :=
  match ltrHalf (v % 65536), ltrHalf (v / 65536) with
  | some a, some b => min 0xFFFFFF (min a b)
  | some a, none => min 0xFFFFFF a
  | none, some b => min 0xFFFFFF b
  | none, none => 0xFFFFFF

/-- An LTR value of a host or device is in force (R195): TOL_LTR, the link state anew, and the event of a change. -/
def State.ltr (s : State) (p v : Nat) (changed : Bool) : State :=
  ((s.set (F.TOL_LTR_NS p) (ltrNs v)).selectState p).raiseIf changed (if p < 32 then 259 + 32 * p else 1285 + 32 * (p - 32))

/-- The forwarder forgets what it learned on a port (R275). -/
def State.fwdForget (s : State) (f : FwdEntry → Bool) : State := s.mapLinks (fun k => { k with fwd := k.fwd.filter (fun e => !f e) })

/-- A host stops being bound (R194): it is lost, its transactions abort, its functions are removed, its targets and cells go, and what the forwarder
learned on its door (R275). -/
def State.hostDown (s : State) (h : Nat) : State :=
  let s1 := ((s.hostLost h).pathLost h).sigHostLost h
  let s2 := (List.range 16).foldl (fun s d => s.removeFn h d) s1
  ((s2.discardFor h).retarget h).fwdForget (fun e => e.port == 512 + h)

/-- A port's link has gone down: its SPDM session and its IDE keys' use end (R430, R431). -/
def State.ideForget (s : State) (p : Nat) : State :=
  { s with vault := { s.vault with spdm := tdel s.vault.spdm p, ide := tdel s.vault.ide p } }

/-- A port that retrained does so no longer. -/
def State.trained (s : State) (p : Nat) : State := s.mapPort (fun x => { x with training := x.training.filter (fun q => q != p) })

/-- An H-port's link goes down (R194). -/
def State.hpDown (s : State) (h : Nat) : State :=
  if s.get (F.HP_STAT_LINK h) = 0 then s
  else
    let s1 := ((((((s.trained h).lowEnd h).lanesDown h).sets [(F.HP_STAT_LINK h, 0), (F.HP_STAT_WIDTH h, 0), (F.HP_STAT_RATE h, 0), (F.HP_STAT_IDE h, 0)]).ideForget h).sat
      (F.HP_DOWN_COUNT_COUNT h)).raise (257 + 32 * h)
    (if s.on (F.HP_CTRL_EN h) then s1.hostDown h else (s1.pathLost h).fwdForget (fun e => e.port == 512 + h)).bindsGo h

/-- What a port's partner supports, as training has found it (R195). -/
def State.setPartner (s : State) (p : Nat) (caps : LinkCaps) : State := s.mapPort (fun x => { x with partner := tset x.partner p caps })

/-- A training of an H- or M-port starts: fields of LINK are taken (R4, R36, R139). -/
def State.linkTake (s : State) (p : Nat) : State :=
  let s1 := s.lanesTake p
  if p < 32 then ((s1.takeUp (F.HP_CTRL_MAX_WIDTH p)).takeUp (F.HP_CTRL_MAX_RATE p)).takeUp (F.LENS_SIZE_UNITS p)
  else ((s1.takeUp (F.MP_CTRL_MAX_WIDTH (p - 32))).takeUp (F.MP_CTRL_MAX_RATE (p - 32))).takeUp (F.MP_CTRL_MODE (p - 32))

/-- A training has come to its end: one that a retrain did not start has started now. -/
def State.trainedAs (s : State) (p : Nat) : State := if s.port.training.contains p then s.trained p else s.linkTake p

/-- Rates and widths of the H- and M-ports (R185), within what the port's fields allow. -/
def linkFits (m : Bool) (rate width maxRate maxWidth : Nat) : Bool :=
  decide (1 ≤ rate) && decide (rate ≤ maxRate) && [1, 2, 4, if m then 8 else 4].contains width && decide (width ≤ maxWidth)

/-- An H-port's link has trained (R139, R194), and the host is bound while EN is 1. -/
def State.hpUp (s : State) (h rate width : Nat) (caps : LinkCaps) : State :=
  let s1 := s.trainedAs h
  if linkFits false rate width (s1.eff (F.HP_CTRL_MAX_RATE h)) (s1.eff (F.HP_CTRL_MAX_WIDTH h)) then
    let s2 := (s1.sets [(F.HP_STAT_LINK h, 2), (F.HP_STAT_RATE h, rate), (F.HP_STAT_WIDTH h, width), (F.HP_STAT_IDE h, b2n caps.ide)]).raise (256 + 32 * h)
    (((s2.lanesUp h rate).setPartner h caps).emit (.linkCap h s2.l1Exit)).retarget h |>.readPosted h
  else s

/-- A retrain of an H- or M-port starts now: fields of LINK are taken (R4, R36). -/
def State.beginTrain (s : State) (p : Nat) : State :=
  ((s.linkTake p).mapPort (fun x => { x with training := p :: x.training.filter (fun q => q != p) })).emit (.retrain p)

/-- An H- or M-port retrains (R199, R200): fields of LINK are taken; in ride-through it waits (R409). The port's LINK field is left as it is:
the retrained link reports itself by its own link-up or link-down (DESIGN CHOICE, log 19). -/
def State.retrainPort (s : State) (p : Nat) : State :=
  if s.riding then s.mapPwr (fun w => { w with rtPorts := w.rtPorts ++ [p] })
  else s.beginTrain p

/-- HP_CTRL is written (R194, R195, R199). -/
def State.hpCtrl (s s0 : State) (h v : Nat) : State :=
  let s1 := if hasBit v 1 then s.retrainPort h else s
  if s.on (F.HP_CTRL_EN h) = s0.on (F.HP_CTRL_EN h) then s1.selectState h
  else if s.on (F.HP_CTRL_EN h) then (s1.retarget h).selectState h
  else if s0.get (F.HP_STAT_LINK h) = 2 then s1.hostDown h
  else s1

/-- The device of an M-port is gone (R161, R193): its expander is lost with a reason for outstanding writes, its functions are removed. -/
def State.mpLose (s : State) (m reason : Nat) : State :=
  ((if s.get (F.MP_CAP_GIB m) != 0 then (s.set (F.MP_CAP_GIB m) 0).expanderLost m (some reason) else s).sourceDown (32 + m)).discardFor (32 + m)

/-- An M-port's link goes down (R161, R193). -/
def State.mpDown (s : State) (m : Nat) : State :=
  if s.get (F.MP_STAT_LINK m) = 0 then s
  else
    (((((((s.trained (32 + m)).lowEnd (32 + m)).lanesDown (32 + m)).sets [(F.MP_STAT_LINK m, 0), (F.MP_STAT_WIDTH m, 0), (F.MP_STAT_RATE m, 0), (F.MP_STAT_IDE m, 0)]).ideForget (32 + m)).sat
      (F.MP_DOWN_COUNT_COUNT m)).raise (1281 + 32 * m)).mpLose m 0x26

/-- An M-port's link has trained as a port of its mode (R188, R189): what was bound to it in another mode is lost (R161). -/
def State.mpJoin (s : State) (m rate width : Nat) (caps : LinkCaps) (mode : Nat) : State :=
  let s1 := if (mode = 1) ≠ (s.get (F.MP_CAP_GIB m) ≠ 0) ∧ s.get (F.MP_STAT_LINK m) = 2 then s.mpLose m 0x22 else s
  (((s1.sets [(F.MP_STAT_MISMATCH m, 0), (F.MP_STAT_LINK m, 2), (F.MP_STAT_RATE m, rate), (F.MP_STAT_WIDTH m, width),
    (F.MP_STAT_IDE m, b2n caps.ide)]).raise (1280 + 32 * m)).lanesUp (32 + m) rate).setPartner (32 + m) caps |>.emit (.linkCap (32 + m) s.l1Exit)

/-- An M-port's link comes up (R188, R189): the expander or the hierarchy is enumerated; with a device that does not suit the mode, or in
mode OFF, the link stays untrained. -/
def State.mpUp (s : State) (m rate width : Nat) (caps : LinkCaps) (dev : MpDevice) : State :=
  let s1 := s.trainedAs (32 + m)
  let mode := s1.eff (F.MP_CTRL_MODE m)
  if linkFits true rate width (s1.eff (F.MP_CTRL_MAX_RATE m)) (s1.eff (F.MP_CTRL_MAX_WIDTH m)) then
    match mode, dev with
    | 1, .expander gib => ((s1.mpJoin m rate width caps 1).set (F.MP_CAP_GIB m) (min 2048 gib)).emit (.hdm m 0 gib)
    | 2, .pcie fns => fns.foldl (fun s f =>
        (s.foundFn (32 + m) f.id.toNat f.vendor.toNat f.device.toNat f.cls.toNat).raise (1284 + 32 * m)) (s1.mpJoin m rate width caps 2)
    | 0, _ => s1.mpDown m
    | _, _ => (s1.mpDown m).set (F.MP_STAT_MISMATCH m) 1
  else s

/-- MP_CTRL is written (R195, R200). -/
def State.mpCtrl (s : State) (m v : Nat) : State :=
  let s1 := if hasBit v 2 then s.retrainPort (32 + m) else s
  s1.selectState (32 + m)

/-- The time of a 256-byte flit in ns at a rate code and width (R186; PCIe rates in GT/s, one bit a transfer and lane). -/
def flitNs (rate width : Nat) : Nat :=
  let tenthGt := [0, 25, 50, 80, 160, 320, 640, 1280].getD rate 0
  if tenthGt = 0 ∨ width = 0 then 0 else 20480 / (tenthGt * width)

/-! ### A function's upstream requests (R191) -/

/-- The slot of a bound function that presents a generation, with its host and vDSP. -/
def State.boundFn (s : State) (x gen : Nat) : Option (Nat × Nat) := if (s.fnSlot x).gen = gen then (s.fnSlot x).bound else none

/-- The pool address of a device address of a bound function, or none where the request goes to its host (R191). -/
def State.fnPool (s : State) (h d a : Nat) : Option Nat :=
  let dev := s.get (F.VDSP_POOL_DEV_UNITS h d)
  if inUnits dev (s.get (F.VDSP_POOL_SIZE_UNITS h d)) a then
    some (s.get (F.VDSP_POOL_BASE_UNITS h d) * 2097152 + (a - dev * 2097152))
  else none

/-- An access of a bound function goes to the pool where it names pool memory, or on to its host (R175, R191). -/
def State.toPool (s : State) (at_ : Option Nat) (acc : Nat → Access) (on : Out) : State :=
  match at_ with
  | some a => s.present? (acc a)
  | none => s.emit on

/-- The port of a bound function's source. -/
def State.srcPort (s : State) (h d : Nat) : Nat := s.get (F.VDSP_SRC_PORT h d)

/-- A memory read of a bound function: to the pool, or on to its host (R175, R191). -/
def State.fnRead (s : State) (x h d tag addr len : Nat) : State :=
  if s.shut then s.shutOut (s.srcPort h d)
  else (s.cellsIn (s.srcPort h d) 0).toPool (s.fnPool h d addr) (fun a => .read (s.srcPort h d) (64 + x) tag a len) (.toHost h d false addr len)

/-- A memory write of a bound function (R191, R197): it takes its ingress sequence number first. -/
def State.fnWrite (s : State) (x h d addr : Nat) (data : List (BitVec 8)) : State :=
  if s.shut then s.shutOut (s.srcPort h d)
  else ((s.cellsIn (s.srcPort h d) data.length).takeSeq (64 + x)).toPool (s.fnPool h d addr)
    (fun a => .write (s.srcPort h d) (64 + x) (s.nextSeq (64 + x)) a data) (.toHost h d true addr data.length)

/-- An atomic operation of a bound function (R175, R191). -/
def State.fnAtomic (s : State) (x h d tag addr : Nat) (op : AtomicOp) : State :=
  if s.shut then s.shutOut (s.srcPort h d)
  else (s.cellsIn (s.srcPort h d) (atomicBytes op)).toPool (s.fnPool h d addr) (fun a => .atomic (s.srcPort h d) (64 + x) tag a op) (.toHost h d false addr (atomicBytes op))

/-- The requester and completer IDs on a T-PCIE channel: the hub's root, and the function (R272). -/
def chanIds : Nat × Nat := (0x0000, 0x0100)

/-- A host's request crosses the core to a function bound to its vDSP (R108, R272). -/
def State.toFn (s : State) (h d : Nat) (posted : Bool) (w : TlpSpan) : State :=
  let bytes := if posted then w.len.toNat else 0
  ((s.cellsIn h bytes).cellsOut (s.srcPort h d) bytes).emit (.toFn h d (s.srcPort h d) (s.get (F.VDSP_SRC_ID h d))
    (if 48 ≤ s.srcPort h d then some chanIds else none) posted)

/-- A host's request to a function bound to its vDSP (R193, R197), unless no traffic crosses the core (R106). -/
def State.fnReq (s : State) (h d tag : Nat) (posted : Bool) (st : FnReq) : State :=
  match posted, st with
  | true, .acked q => s.trackDone h q.toNat (s.srcPort h d)
  | false, .acked _ => s.mapPort (fun p => { p with np := p.np.filter (fun e => !(e.1 == h && e.2.1 == d && e.2.2 == tag)) })
  | _, .done w => if s.shut then s.shutOut h else if posted then (s.toFn h d true w).takeSeq h else s.toFn h d false w
  | true, .sent w =>
    if s.shut then s.shutOut h
    else ((s.toFn h d true w).takeSeq h).mapPort (fun p => { p with
      wtrack := p.wtrack ++ [⟨h, s.nextSeq h, s.srcPort h d, 1, s.get (F.VDSP_STAT_SLOT h d) + 1, w.addr.toNat, w.len.toNat⟩] })
  | false, .sent w =>
    if s.shut then s.shutOut h else (s.toFn h d false w).mapPort (fun p => { p with np := p.np ++ [(h, d, tag)] })

/-- A PTM Responder answers a function with the hub clock as its PTM master time, the stamp of the request at its port corrected (R59, R62). -/
def State.ptmAnswer (s : State) (port id off : Nat) : State := s.emit (.ptmResp port id (s.stampIn port off).toNat)

/-! ### The HPORT and MPORT pages -/

/-- The effect of a stored write to these pages. -/
def State.portFx (s s0 : State) (x : Wr) : State :=
  match x.k with
  | .hport0 =>
    if x.ro = 0x40 then s.hpCtrl s0 x.n x.v
    else if x.ro = 0x4c then s.ltr x.n x.v (s0.get (F.HP_LTR_VALUE x.n) != x.v)
    else s
  | .mport => if x.ro = 0x40 then s.mpCtrl x.n x.v else s
  | _ => s

end Sys2Proof.Machine
end

