-- ==== Sys2Proof/Machine/Link.lean ====
section
/-! DEFINITION. The tunnel link of a dock port (R232-R265): sending, acknowledgement, credits, replay, sealed groups, link-state and
retrain handshakes, echoes and link down; with the channels (R267, R268) and the prism's allotments (R281-R288) it carries. -/

namespace Sys2Proof.Machine

def State.lkState (s : State) (n : Nat) : Nat := s.get (F.LK_STAT_STATE n)

/-- Is the port orphaned (R395), so that retrains, allotment changes and PD policy are not handled? -/
def State.orphan (s : State) (n : Nat) : Bool := hasBit (s.get F.ORPHAN_PORTS) n

/-- The events of the six DPORT pages: page 0 lanes, 1 link, 2 prism, 3 classes, 4 power delivery, 5 VBUS. -/
def dpEv (n page bit : Nat) : Nat := 1792 + 64 * n + [0, 8, 16, 24, 32, 48].getD page 0 + bit

/-- Replace an element of a list. -/
def setAt (l : List Nat) (i v : Nat) : List Nat := l.set i v

/-- The credits held for a class (LK_AVAIL). -/
def availF (n c : Nat) : Fld :=
  if c = 1 then F.LK_AVAIL0_PCIE n else if c = 2 then F.LK_AVAIL0_ETH n else if c = 3 then F.LK_AVAIL1_DISP n
  else if c = 4 then F.LK_AVAIL1_SIG n else F.LK_AVAIL2_MGMT n

/-- The credits the hub offers for a class (LK_GRANT). -/
def grantF (n c : Nat) : Fld :=
  if c = 1 then F.LK_GRANT0_PCIE n else if c = 2 then F.LK_GRANT0_ETH n else if c = 3 then F.LK_GRANT1_DISP n
  else if c = 4 then F.LK_GRANT1_SIG n else F.LK_GRANT2_MGMT n

/-! ### The ports of the Ethernet forwarder (R274-R276) -/

def State.fwdPort (s : State) (p : Nat) : FwdPort := tget {} s.link.fwdP p

def State.doorOf (s : State) (h : Nat) : Door := tget {} s.link.doors h

/-- Is the channel or door of a forwarder port up? -/
def State.fwdUp (s : State) (p : Nat) : Bool :=
  if p < 512 then s.chState (p / 32) (chW 2 (p % 32)) == 1 && decide (2 ≤ s.lkState (p / 32))
  else (s.doorOf (p - 512)).ok && s.get (F.HP_STAT_LINK (p - 512)) == 2

/-- The crossbar port of a forwarder port (R6, R274). -/
def fwdXbar (p : Nat) : Nat := if p < 512 then 48 + p / 32 else p - 512

/-! ### Channels (R267, R268) -/

/-- The channel word of a channel and generation (R267). -/
def chWord (w gen : Nat) : Nat := 4096 * gen + 256 * (w / 32) + w % 32

/-- A class's CH_MASK follows a channel. -/
def State.chMask (s : State) (n w : Nat) (on : Bool) : State :=
  let c := w / 32
  if 1 ≤ c ∧ c ≤ 4 then s.set (F.CH_MASK_OPEN n (c - 1)) (putBit (s.get (F.CH_MASK_OPEN n (c - 1))) (w % 32) on) else s

/-! ### Waiting flits -/

/-- A message's bytes in pieces of at most 234 bytes. -/
def chunks : Nat → List (BitVec 8) → List (List (BitVec 8))
  | 0, _ => []
  | n + 1, l => if l.length ≤ 234 then [l] else l.take 234 :: chunks n (l.drop 234)

/-- A message, or the part of one that a cell holds, waits as segments of a channel, one to a flit (R269). -/
def State.sendSegs (s : State) (n cls chan : Nat) (b : List (BitVec 8)) (som eom express : Bool) (msg : Option Nat := none) : State :=
  let gen := s.chGen n (chW cls chan)
  let l := chunks (b.length / 234 + 1) b
  l.zipIdx.foldl (fun s p =>
    s.enqueue n { cls := cls, chan := chan, express := express, eom := eom && p.2 + 1 == l.length,
                  msg := if p.2 + 1 = l.length then msg else none, som := som && p.2 == 0,
                  body := segment gen (som && p.2 == 0) (eom && p.2 + 1 == l.length) p.1 }) s

/-- Byte 3 of a T-SIG header with LATE set (R279). -/
def markLate : List (BitVec 8) → List (BitVec 8)
  | a :: b :: c :: d :: l => a :: b :: c :: BitVec.ofNat 8 (putBit d.toNat 0 true) :: l
  | l => l

/-- A cell that a dock port's output has accepted becomes waiting flits (R101, R269, R277, R279). -/
def State.toDock (s : State) (c : Cell) : State :=
  if 48 ≤ c.dst ∧ c.dst < 64 ∧ c.keyType = 2 then
    let n := c.dst - 48
    let cls := c.flowKey / 256 % 8
    let i := c.flowKey % 32
    if s.chState n (chW cls i) ≠ 1 then s.sigReturn c.id .destClosed
    else if cls = 3 then s.enqueue n { cls := 3, chan := i, body := c.payload, eom := c.eom }
    else s.sendSegs n cls i (if cls = 4 && c.late && c.som then markLate c.payload else c.payload) c.som c.eom (cls == 4 && c.inp == 71)
      ((s.sigMsg? c.id).map (fun _ => c.id))
  else s

/-- A T-MGMT message of the hub (R270). -/
def State.sendMgmt (s : State) (n code : Nat) (payload : List (BitVec 8)) : State :=
  s.sendSegs n 5 0 ([BitVec.ofNat 8 code, 0] ++ leBytes 2 payload.length ++ payload) true true false

/-- CH_OPEN, CH_CLOSE payloads (R270). -/
def chMsg (w gen : Nat) : List (BitVec 8) := [BitVec.ofNat 8 (w / 32), BitVec.ofNat 8 (w % 32), BitVec.ofNat 8 gen]

/-- A channel opens with its next generation (R268); a T-PCIE channel is scanned (R273). -/
def State.chOpen (s : State) (n w : Nat) : State :=
  let gen := (s.chGen n w + 1) % 16
  let s1 := (((s.sets [(F.CH_INFO_STATE n w, 1), (F.CH_INFO_WORD n w, chWord w gen)]).chMask n w true).raise (dpEv n 3 1)).sendMgmt n 2 (chMsg w gen)
  if w / 32 = 1 ∧ s.on (F.CLS_CTRL_PCIE_SCAN n) then
    (s1.mapLk n (fun k => { k with scans := w :: k.scans })).emit (.scan n (chWord w gen) chanIds.1 chanIds.2) else s1

/-- A function is no longer found at a source. -/
def State.forget (s : State) (port id : Nat) : State :=
  s.mapPort (fun p => { p with found := p.found.filter (fun f => !(f.port == port && f.id == id)) })

/-- A bound function of a source is removed (R193). -/
def State.removeSrc (s : State) (port id : Nat) : State :=
  (List.range 512).foldl (fun s k =>
    if s.get (F.VDSP_STAT_STATE (k / 16) (k % 16)) != 0 && s.get (F.VDSP_SRC_PORT (k / 16) (k % 16)) == port &&
        s.get (F.VDSP_SRC_ID (k / 16) (k % 16)) == id then s.removeFn (k / 16) (k % 16) else s) (s.forget port id)

/-- Messages that end in a list of waiting flits of a class. -/
def msgs (cls : Nat) (l : List TxItem) : Nat := (l.filter (fun x => x.cls == cls && x.eom)).length

/-- The losses of a class are counted (R289). -/
def State.lossCount (s : State) (n eth sgl : Nat) : State := (s.sat (F.LOSS_ETH_COUNT n) eth).sat (F.LOSS_SIG_COUNT n) sgl

/-- The T-DISP part of a new allotment switches (R287). -/
def State.dispSwitch (s : State) (n : Nat) : State :=
  if (s.lk n).dispOld.isSome then ((s.mapLk n (fun k => { k with dispOld := none })).sets
    [(F.PR_STAT_DISP_WAIT n, 0), (F.PR_STAT_TX_PENDING n, 0)]).raise (dpEv n 2 3)
  else s

/-- A channel closes into quarantine (R268): its bound function is removed, the entries learned on it go, and what waits for it is
discarded (R289). -/
def State.chClose (s : State) (n w : Nat) : State :=
  if s.chState n w ≠ 1 then s
  else
    let cls := w / 32
    let i := w % 32
    let k := s.lk n
    let mine := k.q.filter (fun x => x.cls == cls && x.chan == i)
    let s1 := ((s.set (F.CH_INFO_STATE n w) 2).chMask n w false).raise (dpEv n 3 2)
    let s2 := (s1.setLk n { k with q := k.q.filter (fun x => !(x.cls == cls && x.chan == i)), parts := tdel k.parts w, midway := k.midway.erase w, scans := k.scans.erase w })
    let cells := s2.sw.cells.filter (fun c => c.dst == 48 + n && c.keyType == 2 && c.flowKey % 2048 == 256 * cls + i && decide (c.phase ≠ .held))
    let ends := (cells.filter (fun c => c.eom && decide (c.phase ≠ .accepted))).length
    let why := if s.lkState n = 0 then SigReason.linkDown else .destClosed
    let back := mine.map (fun x => x.msg) ++ (cells.filter (fun c => decide (c.phase ≠ .accepted))).map (fun c => some c.id)
    let part := fun (m : CoreMsg) => m.left.isSome && decide (m.goal = .port (32 * n + i)) && cls == 2
    let s3 := cells.foldl State.discard (((s2.setMsgs (s2.sw.msgs.filter (fun m => !part m))).lossCount n
      (if cls = 2 then msgs 2 mine + ends + (s2.sw.msgs.filter part).length else 0) (if cls = 4 then msgs 4 mine + ends else 0)).sigReturns back why)
    if cls = 1 then (s3.removeSrc (48 + n) (s.get (F.CH_INFO_WORD n w))).set (F.CH_INFO_BOUND n w) 0
    else if cls = 2 then s3.fwdForget (fun e => e.port == 32 * n + i)
    else if cls = 3 then
      (let busy := !mine.isEmpty || (List.range 8).any (fun e => s.scanOn e n i)
       let s4 := if busy && s.lkState n != 0 then s3.sat (F.LOSS_DISP_COUNT n) else s3
       let s5 := s4.scanAbandon n i
       let s6 := s5.mapLk n (fun k => { k with inFrame := k.inFrame.erase i })
       if busy && (s6.lk n).inFrame.isEmpty then s6.dispSwitch n else s6)
    else s3

/-- A DESCRIBE's endpoint, or CH_CMD.OPEN, asks for a channel (R268): one in quarantine opens when that ends. -/
def State.chWant (s : State) (n w : Nat) : State := if s.chState n w = 0 then s.chOpen n w else s

/-- A channel's quarantine ends (R48, R268). -/
def State.chFree (s : State) (n w : Nat) : State :=
  if s.chState n w = 2 then
    let s1 := (s.set (F.CH_INFO_STATE n w) 0).mapLk n (fun k => { k with want := k.want.erase w })
    if s.lkState n ≠ 0 ∧ s.on (F.CLS_CTRL_AUTO_OPEN n) ∧ (s.lk n).want.contains w then s1.chOpen n w else s1
  else s

/-! ### The prism's allotments (R281-R288) -/

/-- The slot map that the registers hold. -/
def State.mapRegs (s : State) (n : Nat) (rx : Bool) : List Nat :=
  (List.range 64).map (fun k => s.get ((if rx then F.PR_RXMAP_SLOT0 n (k / 8) else F.PR_TXMAP_SLOT0 n (k / 8)) |> fun f =>
    { f with lo := 4 * (k % 8), reset := if k = 0 then 5 else 0 }))

/-- The best-effort mask that the register holds: bit c - 1 for class c. -/
def State.beRegs (s : State) (n : Nat) (rx : Bool) : Nat := s.get (if rx then F.PR_BE_RX n else F.PR_BE_TX n)

/-- The default map (R285). -/
def defaultMap : List Nat := 5 :: List.replicate 63 0

def PrismDir.mapIn (d : PrismDir) : List Nat := if d.map.isEmpty then defaultMap else d.map

def dirOf (k : Link) (rx : Bool) : PrismDir := if rx then k.rx else k.tx

def State.setDir (s : State) (n : Nat) (rx : Bool) (d : PrismDir) : State :=
  s.mapLk n (fun k => if rx then { k with rx := d } else { k with tx := d })

/-- The slots of each class that a map grants. -/
def slotsOf (m : List Nat) (c : Nat) : Nat := (m.filter (fun x => x == c)).length

/-- PR_SLOTS shows a direction's map in force. -/
def State.showSlots (s : State) (n : Nat) (rx : Bool) (m : List Nat) : State :=
  if rx then
    s.sets [(F.PR_SLOTS_RX_MGMT_M1 n, slotsOf m 5 - 1), (F.PR_SLOTS_RX_SIG n, slotsOf m 4), (F.PR_SLOTS_RX_ETH n, slotsOf m 2), (F.PR_SLOTS_RX_PCIE n, slotsOf m 1)]
  else
    s.sets [(F.PR_SLOTS_TX_MGMT_M1 n, slotsOf m 5 - 1), (F.PR_SLOTS_TX_SIG n, slotsOf m 4), (F.PR_SLOTS_TX_DISP n, slotsOf m 3),
      (F.PR_SLOTS_TX_ETH n, slotsOf m 2), (F.PR_SLOTS_TX_PCIE n, slotsOf m 1)]

/-- The longest run of slots, wrapping, from one T-SIG slot to the next; 64 without one (R288). -/
def sigGap (m : List Nat) : Nat :=
  let at4 := (List.range 64).filter (fun i => m.getD i 0 == 4)
  at4.foldl (fun g i => max g (((List.range 64).map (fun d => d + 1)).findSome? (fun d => if m.getD ((i + d) % 64) 0 = 4 then some d else none) |>.getD 64))
    (if at4.isEmpty then 64 else 1)

/-- The prism wait term in ps (R288). -/
def State.prismWait (s : State) (n : Nat) : Nat :=
  if s.on (F.PR_CTRL_EXPRESS n) then s.flitTime n / 2 else sigGap (s.lk n).tx.mapIn * s.flitTime n / 2

def State.showWait (s : State) (n : Nat) : State := s.set (F.PR_WAIT_NS n) (s.prismWait n / 1000)

/-- The epoch number of a slot count (R281). -/
def epochOf (stc : Nat) : Nat := stc / 1024 % 4194304

/-- Has an epoch begun (R281): is `e` not in the future of the present epoch? -/
def begun (now e : Nat) : Bool := !(decide (1 ≤ (e + 4194304 - now) % 4194304) && decide ((e + 4194304 - now) % 4194304 ≤ 2097152))

/-- The present epoch of a direction: STC for hub to device, RTC for device to hub. -/
def State.epoch (s : State) (n : Nat) (rx : Bool) : Nat := epochOf (s.get (if rx then F.PR_RTC_COUNT n else F.PR_STC_COUNT n))

/-- Two slots to a byte (R284). -/
def packMap : List Nat → List (BitVec 8)
  | a :: b :: l => BitVec.ofNat 8 (a + 16 * b) :: packMap l
  | _ => []

/-- The T-MGMT message of an ALLOT (R270, R284). -/
def allotMsg (rx : Bool) (a : Allot) : List (BitVec 8) :=
  [4, 0] ++ leBytes 2 41 ++ [BitVec.ofNat 8 a.num, if rx then 1 else 0, 0, 0] ++ leBytes 4 (a.epoch.getD 0) ++ packMap a.map ++ [BitVec.ofNat 8 (2 * a.be)]

/-- An ALLOT with the next number waits to be sent (R285). -/
def State.queueAllot (s : State) (n : Nat) (rx : Bool) (a : Allot) : State :=
  let d := dirOf (s.lk n) rx
  let num := (d.num + 1) % 256
  (s.setDir n rx { d with num := num, pend := some { a with num := num } }).enqueue n { cls := 5, chan := 0, body := [], eom := true, allot := some (rx, num) }

/-- An ALLOT is due for a changed map or mask (R285). -/
def State.sendAllot (s : State) (n : Nat) (rx : Bool) : State := s.queueAllot n rx { num := 0, map := s.mapRegs n rx, be := s.beRegs n rx }

/-- A waiting ALLOT is first sent (R285): E is fixed, and unless it repeats a late one its content is what the registers hold. -/
def State.allotGoes (s : State) (n : Nat) (rx : Bool) (num : Nat) : State × List (BitVec 8) :=
  let d := dirOf (s.lk n) rx
  match d.pend with
  | none => (s, [])
  | some a =>
    if a.num ≠ num then (s, [])
    else
      let now := s.epoch n rx
      let a1 := { a with
        epoch := some ((now + s.get (F.PR_CTRL_LEAD n)) % 4194304)
        map := if a.again then a.map else s.mapRegs n rx
        be := if a.again then a.be else s.beRegs n rx }
      ((s.setDir n rx { d with pend := some a1, sent := some now, dirty := d.dirty && a.again }).set
        (if rx then F.PR_STAT_RX_PENDING n else F.PR_STAT_TX_PENDING n) 1, segment 0 true true (allotMsg rx a1))

/-- A direction's map or mask has been written (R285, R286): an ALLOT goes out with the next flit time, or in the next epoch where
one went out in this one, so that what one commit writes goes into one ALLOT. -/
def State.allotChanged (s : State) (n : Nat) (rx : Bool) : State :=
  if s.lkState n < 2 then s else s.setDir n rx { dirOf (s.lk n) rx with dirty := true }

/-- The fields of a direction's map and mask govern (R4). -/
def State.takeMap (s : State) (n : Nat) (rx : Bool) : State :=
  (List.range 64).foldl (fun s k => s.takeUp { (if rx then F.PR_RXMAP_SLOT0 n (k / 8) else F.PR_TXMAP_SLOT0 n (k / 8)) with
    lo := 4 * (k % 8), reset := if k = 0 then 5 else 0 }) (s.takeUp (if rx then F.PR_BE_RX n else F.PR_BE_TX n))

/-- A direction's pending allotment switches (R285, R287): every CARRY returns to 0, PR_WAIT is formed anew, and T-DISP waits for the
end of the frames in progress, on the slots it had before the first switch that it waits with. -/
def State.switchAllot (s : State) (n : Nat) (rx : Bool) (a : Allot) : State :=
  let k := s.lk n
  let d := dirOf k rx
  let old := k.dispOld.getD d.mapIn
  let changed := !rx && (List.range 64).any (fun i => (old.getD i 0 == 3) != (a.map.getD i 0 == 3))
  let wait := changed && !k.inFrame.isEmpty
  let k1 := if rx then { k with rx := { d with map := a.map, be := a.be, pend := none } }
    else { k with tx := { d with map := a.map, be := a.be, pend := none }, carry := [0, 0, 0, 0, 0],
                  dispOld := if wait then some old else none }
  let s1 := ((s.setLk n k1).takeMap n rx).showSlots n rx a.map
  let s2 := s1.sets (if rx then [(F.PR_STAT_RX_ALLOT n, a.num), (F.PR_STAT_RX_PENDING n, 0), (F.PR_STAT_RX_NAK n, 0)]
    else [(F.PR_STAT_TX_ALLOT n, a.num), (F.PR_STAT_TX_PENDING n, b2n wait), (F.PR_STAT_TX_NAK n, 0), (F.PR_STAT_DISP_WAIT n, b2n wait)])
  let s3 := (if k1.tx.map.isEmpty || k1.rx.map.isEmpty then s2 else s2.set (F.PR_STAT_DEFAULT n) 0).raise (dpEv n 2 (b2n rx))
  if rx then s3 else (s3.showWait n).raiseIf (changed && !wait) (dpEv n 2 3)

/-- An allotment whose epoch came unacknowledged, or that was refused as late, is sent again with the same content (R285). -/
def State.allotLate (s : State) (n : Nat) (rx : Bool) (a : Allot) : State :=
  ((s.queueAllot n rx { a with epoch := none, acked := false, again := true }).sat (F.PR_ALLOT_LATE_COUNT n)).raise (dpEv n 2 2)

/-- Does an ALLOT of a direction wait to be sent? -/
def PrismDir.waits (d : PrismDir) : Bool := d.pend.any (fun a => a.epoch.isNone)

/-- The start of an epoch is reached in a direction (R285): an acknowledged allotment switches, a late one is sent again, and a change
that waited is sent. -/
def State.epochCheck (s : State) (n : Nat) (rx : Bool) : State :=
  let now := s.epoch n rx
  let s1 := match (dirOf (s.lk n) rx).pend with
    | some a =>
      if a.epoch.any (fun e => begun now e) then (if a.acked then s.switchAllot n rx a else if rx then s else s.allotLate n rx a) else s
    | none => s
  let d := dirOf (s1.lk n) rx
  if d.dirty && d.sent != some now && !d.waits && !s1.orphan n then s1.sendAllot n rx else s1

/-! ### Sending (R246, R281, R283) -/

/-- LK_STAT.MIRROR follows the mirror. -/
def State.showMirror (s : State) (n : Nat) : State := s.set (F.LK_STAT_MIRROR n) (s.lk n).mirror.length

/-- The lanes that a dock port's flits go out on (R237, R254): those of the width, lane 0 in NARROW. -/
def State.flitLanes (s : State) (n : Nat) : Nat := if s.get (F.LSTATE_STATE (48 + n)) = 1 then 1 else s.get (F.DL_STAT_WIDTH n)

/-- The bits of a flit go out on the lanes whose transmitters carry them (R212, R230, R232). -/
def State.flitOut (s : State) (n : Nat) (f : Flit) : State :=
  s.emit (.flit n (s.pairs n (([0, 1].filter (fun l => hasBit (s.flitLanes n) l && s.txLink (4 * (64 + n) + l))).foldl (fun m l => m + 2 ^ l) 0)) f)

/-- A flit goes out with the present ACK and CR (R232, R246, R248), and a slot passes (R281). -/
def State.sendFlit (s : State) (n typ seq cls chan : Nat) (body : List (BitVec 8)) : State :=
  let k := s.lk n
  let f : Flit := { typ := typ, seq := seq, ack := s.get (F.LK_ACK_ACK_TX n), crc := k.rot + 1, cr := k.ret.getD k.rot 0, cls := cls,
                    chan := chan, body := body }
  ((s.mapLk n (fun k => { k with rot := (k.rot + 1) % 5 })).flitOut n f).wrap (F.PR_STC_COUNT n)

/-- An unsequenced flit. -/
def State.sendPlain (s : State) (n typ : Nat) (body : List (BitVec 8)) : State := s.sendFlit n typ (s.get (F.LK_SEQ_TX_NEXT n)) 0 0 body

/-- A new sequenced flit: into the mirror, and out (R240). -/
def State.sendNew (s : State) (n typ cls chan : Nat) (body : List (BitVec 8)) (eom : Bool) (msg : Option Nat := none) : State :=
  let q := s.get (F.LK_SEQ_TX_NEXT n)
  let s1 := s.mapLk n (fun k => { k with mirror := k.mirror ++ [⟨q, typ, cls, chan, body, eom, msg⟩], begun := true })
  ((s1.set (F.LK_SEQ_TX_NEXT n) (q + 1)).showMirror n).sendFlit n typ q cls chan body

/-- Replay begins at a sequence number (R244); REPLAY_LIMIT is judged by the caller. -/
def State.startReplay (s : State) (n q : Nat) : State :=
  let k := s.lk n
  let l := (k.mirror.map (fun m => m.seq)).dropWhile (fun x => x != q)
  (s.setLk n { k with replay := l, oldReps := k.oldReps + 1, repAt := some (s.get (F.PR_STC_COUNT n)) }).sat (F.LK_REPLAY_COUNT_COUNT n)

/-- Does the transmitter hold back new sequenced flits (R258, R260)? -/
def State.noNew (s : State) (n : Nat) : Bool := (s.lk n).pauseTx || (s.lk n).resume || s.lkState n != 2

/-- Is sealing in force? -/
def State.sealed (s : State) (n : Nat) : Bool := s.on (F.LK_STAT_ENC n)

/-- Is the open group's SEAL due (R250)? -/
def State.sealNow (s : State) (n : Nat) : Bool :=
  let k := s.lk n
  s.sealed n && !k.group.isEmpty && (k.sealDue || decide (s.get (F.LK_CTRL_GROUP_MAX n) ≤ k.group.length) || k.pauseTx ||
    k.pmReq.any (fun st => st != 0) || k.pmAns.any (fun st => st != 0))

/-- The IV of a group (R252). -/
def sealIv (salt counter : Nat) : List (BitVec 8) := leBytes 4 salt ++ leBytes 8 counter

/-- Header bytes 0, 1 and 5 of a flit (R232, R252). -/
def aadHead (typ seq cls chan : Nat) : List (BitVec 8) := [typ + 16 * (seq % 16), seq / 16, chan + 32 * cls].map (BitVec.ofNat 8)

/-- The AAD of a group (R252): the headers of its flits and of its SEAL, and the SEAL's body bytes 16 to 31. -/
def sealAad (g : List RxFlit) (seq counter count : Nat) : List (BitVec 8) :=
  (g.map (fun f => aadHead (if f.bad then 2 else 1) f.seq f.cls f.chan)).flatten ++ aadHead 3 seq 0 0 ++ leBytes 8 counter ++
    padTo 8 [BitVec.ofNat 8 count]

/-- The body of flit `i` of a group, enciphered or deciphered (R252): the bodies lie one after the other under one keystream. -/
def sealBody (key : Option Nat) (iv : List (BitVec 8)) (i : Nat) (b : List (BitVec 8)) : List (BitVec 8) :=
  (padTo 236 b).zipIdx.map (fun p => p.1 ^^^ Config.gcmByte key iv (236 * i + p.2))

/-- The tag of a group whose bodies are enciphered (R252). -/
def sealTag (key : Option Nat) (iv : List (BitVec 8)) (g : List RxFlit) (seq counter count : Nat) : BitVec 128 :=
  Config.gcmTag key iv (sealAad g seq counter count) (g.map (fun f => padTo 236 f.body)).flatten

/-- The SEAL of the open group (R251, R252). -/
def State.sendSeal (s : State) (n : Nat) : State :=
  let k := s.lk n
  let c := k.crypt
  let tag := sealTag (s.slotKey c.txSlot) (sealIv c.saltTx k.sealTx) k.group (s.get (F.LK_SEQ_TX_NEXT n)) k.sealTx k.group.length
  let body := leBytes 16 tag.toNat ++ leBytes 8 k.sealTx ++ [BitVec.ofNat 8 k.group.length]
  ((s.setLk n { k with group := [], sealDue := false, sealTx := (k.sealTx + 1) % 2 ^ 64 }).sat (F.KS_USES_COUNT c.txSlot)).sendNew n 3 0 0 body false

/-- The open group is sealed ahead of a link-down that the hub starts itself (R250). -/
def State.sealOut (s : State) (n : Nat) : State :=
  if s.sealed n && !(s.lk n).group.isEmpty && s.lkState n == 2 && !(s.lk n).resume then s.sendSeal n else s

/-- May a new DATA flit start: there is room in the mirror, for its group's SEAL as well (R246, R250)? -/
def State.mirrorRoom (s : State) (n : Nat) : Bool := decide ((s.lk n).mirror.length + b2n (s.sealed n) < 256)

/-- May a waiting flit go now as to its channel (R269): between the segments of a message no other begins, and they keep their order? -/
def Link.mayGo (k : Link) (x : TxItem) : Bool :=
  x.cls == 3 || (k.midway.contains (chW x.cls x.chan) != x.som &&
    (x.som || !(k.q.takeWhile (fun y => y != x)).any (fun y => y.cls == x.cls && y.chan == x.chan)))

/-- The next flit of a class, or its next express flit. -/
def Link.ready (k : Link) (c : Nat) (express : Bool) : Option TxItem := k.q.find? (fun x => x.cls == c && (!express || x.express) && k.mayGo x)

/-- A message's first flits have gone: the rest of it that waits goes before anything else of its channel (R269). -/
def Link.sentItem (k : Link) (x : TxItem) : Link :=
  let q := k.q.erase x
  let mine := fun (y : TxItem) => y.cls == x.cls && y.chan == x.chan
  if x.cls = 3 then { k with q := q }
  else if x.eom then { k with q := q, midway := k.midway.erase (chW x.cls x.chan) }
  else
    let rest := (((k.q.dropWhile (fun y => y != x)).drop 1).filter mine).takeWhile (fun y => !y.som)
    { k with q := rest ++ rest.foldl (fun q y => q.erase y) q, midway := chW x.cls x.chan :: k.midway.erase (chW x.cls x.chan) }

/-- Has a class a flit ready and a credit (R283)? -/
def State.canSend (s : State) (n c : Nat) : Bool := ((s.lk n).ready c false).isSome && decide (0 < s.get (availF n c))

/-- The classes that the present slot is offered to, in order (R282, R287): while T-DISP's part of an allotment waits, each slot that either map
grants it goes to T-DISP first. -/
def State.slotClasses (s : State) (n : Nat) : List Nat :=
  let k := s.lk n
  let i := s.get (F.PR_STC_COUNT n) % 64
  let c := k.tx.mapIn.getD i 0
  match k.dispOld with
  | some old => if old.getD i 0 = 3 ∧ c ≠ 3 then [3, c] else [c]
  | none => [c]

/-- The class that the best-effort mask serves next (R283). -/
def State.bestEffort (s : State) (n : Nat) : Option Nat :=
  let k := s.lk n
  ((List.range 5).map (fun d => (k.beLast + d) % 5 + 1)).find? (fun c => hasBit k.tx.be (c - 1) && s.canSend n c)

/-- The class the prism picks for a new DATA flit, whether it is an express flit, a CARRY, or best effort (R283). -/
def State.prismPick (s : State) (n : Nat) : Option (Nat × Nat) :=
  let k := s.lk n
  if s.on (F.PR_CTRL_EXPRESS n) && (k.ready 4 true).isSome && decide (0 < s.get (availF n 4)) then some (4, 1)
  else match (s.slotClasses n).find? (fun c => s.canSend n c) with
    | some c => some (c, 0)
    | none =>
      match ((List.range 5).map (· + 1)).find? (fun c => decide (0 < k.carry.getD (c - 1) 0) && s.canSend n c) with
      | some c => some (c, 2)
      | none => (s.bestEffort n).map (fun c => (c, 3))

/-- The class granted the slot gains one CARRY when its flit time goes elsewhere (R283). -/
def State.carryUp (s : State) (n : Nat) : State :=
  match (s.slotClasses n).find? (fun c => ((s.lk n).ready c false).isSome) with
  | some c => s.mapLk n (fun k => { k with carry := setAt k.carry (c - 1) (min 8 (k.carry.getD (c - 1) 0 + 1)) })
  | none => s

/-- Does a flit end a display frame (R277)? -/
def endsFrame (c : Nat) (b : List (BitVec 8)) : Bool := c == 3 && hasBit (b.headD 0).toNat 6

/-- An express flit is counted, and whether it waited more than one flit time (R283), by flits sent or by the clock. -/
def State.countExpress (s : State) (n : Nat) (x : TxItem) : State :=
  let late := decide (1 < (s.get (F.PR_STC_COUNT n) + 2 ^ 32 - x.born) % 2 ^ 32) || decide (s.flitTime n < 1000 * (s.now - x.bornAt))
  ((s.sat (F.PR_EXP_COUNT_COUNT n)).sat (F.PR_EXP_DELAYED_COUNT n) (b2n late)).raiseIf late (dpEv n 2 4)

/-- A waiting flit goes out (R233, R247, R250, R277): enciphered while sealing is in force, into the open group; a message or frame that it ends is
counted (R293), and the end of the last frame in progress lets T-DISP switch (R287). -/
def State.sendItem (s : State) (n : Nat) (x : TxItem) : State :=
  let a := match x.allot with
    | some (rx, num) => s.allotGoes n rx num
    | none => (s, x.body)
  let s1 := a.1
  let k := s1.lk n
  let body := if s1.sealed n then sealBody (s1.slotKey k.crypt.txSlot) (sealIv k.crypt.saltTx k.sealTx) k.group.length a.2 else a.2
  let s2 := (s1.mapLk n (fun k => { k with
      group := if s.sealed n then k.group ++ [⟨s.get (F.LK_SEQ_TX_NEXT n), x.cls, x.chan, x.bad, body⟩] else k.group
      inFrame := if x.cls = 3 then (if endsFrame x.cls x.body then k.inFrame.erase x.chan else x.chan :: k.inFrame.erase x.chan) else k.inFrame })).sub (availF n x.cls) 1
  let s3 := s2.sendNew n (if x.bad then 2 else 1) x.cls x.chan body x.eom x.msg
  let s4 := if !x.bad && (if x.cls = 3 then endsFrame 3 x.body else x.eom) then s3.sat (F.CH_TX_MSG_COUNT n (chW x.cls x.chan)) else s3
  if endsFrame x.cls x.body && (s4.lk n).inFrame.isEmpty then s4.dispSwitch n else s4

/-- A new DATA or DATA_BAD flit of a class goes out (R283): `how` tells an express flit (1), a CARRY (2) and best effort (3) from the slot's own. -/
def State.sendData (s : State) (n c how : Nat) : State :=
  match (s.lk n).ready c (how == 1) with
  | none => s
  | some x =>
    let s1 := if how = 1 then (s.carryUp n).countExpress n x else s
    (s1.mapLk n (fun k => { k.sentItem x with
      carry := if how = 2 then setAt k.carry (c - 1) (k.carry.getD (c - 1) 0 - 1) else k.carry
      beLast := if how = 3 then c else k.beLast })).sendItem n x

/-- The hub returns credits of flits whose content it has handed on (R249). -/
def State.giveCredit (s : State) (n c : Nat) (d : Nat := 1) : State :=
  s.mapLk n (fun k => { k with ret := setAt k.ret (c - 1) ((k.ret.getD (c - 1) 0 + d) % 512), left := setAt k.left (c - 1) (k.left.getD (c - 1) 0 + d) })

/-- Does a message of a class from a dock port wait for the core? -/
def State.classHeld (s : State) (n c : Nat) : Bool :=
  (s.shut && decide (c ≤ 2)) ||
  (c == 4 && s.br.outQ.any (fun m => match m.orig with
    | .dock k _ => k == n
    | _ => false)) ||
  s.sw.msgs.any (fun m => m.src == 48 + n && m.left.isSome && (match m.goal with
    | .forward _ => c == 2
    | .host _ _ => c == 1
    | _ => false))

/-- The credits of a class that waited for the core are returned once it has taken the messages (R249). -/
def State.payClass (s : State) (n c : Nat) : State :=
  let d := (s.lk n).owe.getD (c - 1) 0
  if d = 0 ∨ s.classHeld n c then s else (s.giveCredit n c d).mapLk n (fun k => { k with owe := setAt k.owe (c - 1) 0 })

/-- Every credit that waited for the core is returned where it has taken the messages. -/
def State.payCredits (s : State) : State := (List.range 16).foldl (fun s n => ((s.payClass n 1).payClass n 2).payClass n 4) s

/-! ### Link down (R264, R265, R289) -/

/-- The default allotments apply again after the next INIT (R285, R289). -/
def State.prismReset (s : State) (n : Nat) : State :=
  let k := s.lk n
  let d := fun (x : PrismDir) (rx : Bool) => { x with map := [], be := s.beRegs n rx, sent := none, pend := none, dirty := false }
  ((s.setLk n { k with tx := d k.tx false, rx := d k.rx true, dispOld := none, inFrame := [], carry := [0, 0, 0, 0, 0], beLast := 0 }).sets
    [(F.PR_STAT_DEFAULT n, 1), (F.PR_STAT_TX_PENDING n, 0), (F.PR_STAT_RX_PENDING n, 0), (F.PR_STAT_DISP_WAIT n, 0)])

/-- Each class loses what R289 says. -/
def State.classesDown (s : State) (n : Nat) : State :=
  let k := s.lk n
  let mir := fun c => (k.mirror.filter (fun m => m.cls == c && m.eom)).length
  let held := fun c => (s.sw.cells.filter (fun x => x.dst == 48 + n && x.keyType == 2 && x.flowKey / 256 % 8 == c && x.eom && decide (x.phase = .held))).length
  let s1 := s.lossCount n (msgs 2 k.q + mir 2 + held 2) (msgs 4 k.q + mir 4 + held 4)
  let run := ((List.range 32).filter (fun i => k.inFrame.contains i || (List.range 8).any (fun e => s.scanOn e n i))).length
  let s2 := s1.sat (F.LOSS_DISP_COUNT n) run
  let back := k.q.map (fun x => x.msg) ++ k.mirror.map (fun m => m.msg)
  let s3 := (s2.mapLk n (fun k => { k with q := [], parts := [], want := [], mirror := [], staged := [] })).sigReturns back .linkDown
  let s4 := (List.range 160).foldl (fun s i => s.chClose n (32 + i)) s3
  let s5 := s4.set (F.CH_INFO_STATE n (chW 5 0)) 0
  ((s5.sourceDown (48 + n)).fwdForget (fun e => e.port / 32 == n && decide (e.port < 512))).raise (dpEv n 3 3)

/-- The link goes down with a cause (R264, R265): flits stop, the mirror, the staging store and the cells are discarded, the classes
report, and bring-up starts again 10 µs later unless the mode was left. -/
def State.lkDown (s : State) (n cause : Nat) : State :=
  if s.lkState n = 0 then s
  else
    let s1 := ((s.sets [(F.LK_STAT_DOWN_CAUSE n, cause), (F.LK_STAT_STATE n, 0)]).sat (F.LK_DOWN_COUNT_COUNT n)).raise (dpEv n 1 1)
    let s0 := (s1.classesDown n).prismReset n
    let back := (s0.sw.cells.filter (fun c => c.dst == 48 + n && decide (c.phase ≠ .accepted))).map (fun c => some c.id)
    let s2 := ((s0.sigReturns back .linkDown).sigLinkDown n).discardFor (48 + n)
    let fresh := fun (k : Link) => ({ sealTx := k.sealTx, sealRx := k.sealRx, tx := k.tx, rx := k.rx, sinks := k.sinks, sbuQ := k.sbuQ, sbuOut := k.sbuOut, sbuReps := k.sbuReps, sbuSeen := k.sbuSeen, rtNum := k.rtNum, echoNum := k.echoNum, train := { failed := k.train.failed, fails := k.train.fails } } : Link)
    let s3 := s2.mapLk n fresh
    (((s3.lowEnd (48 + n)).lanesDown (48 + n)).sets [(F.LK_STAT_MIRROR n, 0), (F.DL_STAT_STAGE n, 0), (F.DL_STAT_WIDTH n, 0), (F.LSTATE_STATE (48 + n), 0),
      (F.LSTATE_TARGET (48 + n), 0)]).emit (.dockTx n 0 0 0)

/-- A protocol error (R264). -/
def State.protocol (s : State) (n : Nat) : State := ((s.sat (F.LK_PROTO_COUNT_COUNT n)).raise (dpEv n 1 6)).lkDown n 5

/-- A macro's port loses its link (R207): the cause of a dock link is none of R264's, so that its code is open. -/
def State.portDown (s : State) (p : Nat) : State :=
  if p < 32 then s.hpDown p
  else if p < 48 then s.mpDown (p - 32)
  else
    let c := s.fresh
    c.2.lkDown (p - 48) (c.1 % 16)

/-! ### Bring-up's start (R215) -/

/-- The rate the hub asks for (R214): the lowest of MAX_RATE, the Mode VDO's rate, and CAP. -/
def State.reqRate (s : State) (n : Nat) : Nat :=
  min (s.eff (F.DL_CTRL_MAX_RATE n)) (min (bits (s.get (F.PD_ENTER_VDO_VDO n)) 26 2) (s.get (F.DL_STAT_CAP n)))

/-- A training or retrain of a dock port starts: fields of LINK are taken (R4, R36). -/
def State.dockTake (s : State) (n : Nat) : State := ((s.lanesTake (48 + n)).takeUp (F.DL_CTRL_MAX_RATE n)).takeUp (F.DL_CTRL_LANES n)

/-- The lanes of a macro that are not retired. -/
def State.goodMask (s : State) (n : Nat) : Nat :=
  (if s.on (F.LN_STAT_RETIRED (4 * (64 + n))) then 0 else 1) + (if s.on (F.LN_STAT_RETIRED (4 * (64 + n) + 1)) then 0 else 2)

/-- A lane's receiver starts to look for the marker anew. -/
def State.laneFresh (s : State) (n l : Nat) : State :=
  let w := 4 * (64 + n) + l
  s.sets [(if l = 0 then F.DL_HITS_LANE0 n else F.DL_HITS_LANE1 n, 0), (F.LN_STAT_ADAPTED w, 0), (F.LN_STAT_CDR_LOCK w, 0)]

/-- Lanes receive frames at a rate from a stage on. -/
def State.hearAt (s : State) (n rate stage : Nat) : State :=
  let l : LaneTr := { stage := stage }
  (((s.mapLk n (fun k => { k with train := { k.train with l0 := l, l1 := l } })).laneFresh n 0).laneFresh n 1).sets
    [(F.DL_STAT_STAGE n, stage), (F.DL_STAT_RATE n, rate), (F.MAC_STAT_RATE (64 + n), rate)]

/-- Both directions train at a rate from a stage on; a transmitter that starts seeds its filler (R214). -/
def State.trainAt (s : State) (n rate mask stage : Nat) (retrain : Option (Nat × Nat)) : State :=
  let k := s.lk n
  let t : Train := { k.train with on := true, mask := mask, txRate := rate, silent := false, retrain := retrain, flitTx := false, flitRx := false, cd := none,
                                  count := if k.train.on then k.train.count else 0, fill := if k.train.on then k.train.fill else 8191 }
  ((s.setLk n { k with train := t }).hearAt n rate stage).dockSends n 1 rate mask

/-- Bring-up from R215: rate code 0, preset 0, every lane of DL_CTRL.LANES that is not retired. -/
def State.bringAnew (s : State) (n : Nat) : State :=
  let s1 := s.dockTake n
  let mask := Nat.land (s1.get (F.DL_CTRL_LANES n)) (Nat.land (s1.goodMask n) (bits (s1.get (F.PD_ENTER_VDO_VDO n)) 24 2))
  let s2 := s1.mapLk n (fun k => { k with train := { k.train with pmask := 3, failed := false } })
  let s3 := ((s2.sets [(F.DL_STAT_POL n, 0), (F.LN_CTRL_POL_INV (4 * (64 + n)), 0), (F.LN_CTRL_POL_INV (4 * (64 + n) + 1), 0), (F.DL_STAT_LANE_SWAP n, 0), (F.DL_STAT_WIDTH n, 0), (F.DL_SLIP_LANE0 n, 0),
    (F.DL_SLIP_LANE1 n, 0)]).sat (F.DL_BRINGUP_COUNT_COUNT n)).raise (dpEv n 0 0)
  (((s3.ffe (64 + n) 0 0).ffe (64 + n) 1 0)).trainAt n 0 mask 1 none

/-- Bring-up starts; it waits while no link may train (R415). -/
def State.bringUp (s : State) (n : Nat) : State := if s.linkable (48 + n) then s.bringAnew n else s

/-! ### Retrains (R256-R260) -/

/-- What an exchange that begins now declares (R251, R257, R266). -/
def State.declare (s : State) (n : Nat) : State :=
  s.mapLk n (fun k => { k with decl :=
    ⟨s.on (F.LK_CTRL_ENC_EN n), s.get (F.LK_CRYPT_TX_SLOT n), s.get (F.LK_CRYPT_RX_SLOT n), s.get (F.LK_SALT_TX_SALT n), s.get (F.LK_SALT_RX_SALT n)⟩ })

/-- The payload of a RETRAIN_REQ or RETRAIN_ACK (R257). -/
def State.rtMsg (s : State) (n num rate mask b2 : Nat) : List (BitVec 8) :=
  [BitVec.ofNat 8 num, BitVec.ofNat 8 (rate + 16 * mask), BitVec.ofNat 8 b2, BitVec.ofNat 8 (b2n (s.lk n).decl.enc)] ++
    leBytes 8 (s.get64 (F.LK_ID_LO_ID n) (F.LK_ID_HI_ID n))

/-- Does a retrain run (R260)? -/
def State.retrains (s : State) (n : Nat) : Bool :=
  let k := s.lk n
  k.rtReq.isSome || k.rtTgt.isSome || s.lkState n == 3 || s.lkState n == 4 || k.resume

/-- The hub starts a retrain (R256, R257): now, or once a low-power state is left or ride-through has ended (R409). -/
def State.rtStart (s : State) (n rate mask reason : Nat) : State :=
  let k := s.lk n
  if s.retrains n || s.orphan n then s
  else if s.riding then s.setLk n { k with rtWait := some (rate, mask, reason) }
  else if s.lkState n = 5 ∨ k.pmReq.isSome ∨ k.pmAns.isSome then s.setLk n { k with rtWait := some (rate, mask, reason) }
  else if s.lkState n = 2 then
    let num := (k.rtNum + 1) % 256
    let s1 := (s.setLk n { k with rtNum := num, rtReq := some ⟨num, rate, mask, reason, 0⟩, rtWait := none }).declare n
    (s1.raise (dpEv n 1 2)).sendMgmt n 0x10 (s1.rtMsg n num rate mask reason)
  else s

/-- The retrain that waited for a low-power state to be left starts (chapter 10's coincidences). -/
def State.rtResume (s : State) (n : Nat) : State :=
  match (s.lk n).rtWait with
  | some (r, m, why) => s.rtStart n r m why
  | none => s

/-- Does a key slot that an exchange names have its attribute (R251, R264)? -/
def State.keysOk (s : State) (n : Nat) : Bool :=
  let t := (s.lk n).decl.txSlot
  let r := (s.lk n).decl.rxSlot
  s.on (F.KS_INFO_VALID t) && s.get (F.KS_INFO_ATTR t) == 0 && s.on (F.KS_INFO_VALID r) && s.get (F.KS_INFO_ATTR r) == 1

/-- The ENC bits of an exchange (R239, R257, R264): sealing in force under what the hub declared, or the cause of a link-down. -/
def State.encAgreed (s : State) (n : Nat) (theirs : Bool) : State :=
  let ours := (s.lk n).decl.enc
  if ours != theirs then s.protocol n
  else if ours && !s.keysOk n then s.lkDown n 11
  else (s.mapLk n (fun k => { k with crypt := k.decl })).put (F.LK_STAT_ENC n) ours

/-! ### Narrowing (R225) -/

/-- The widest width of R185 that lanes can form from either end. -/
def widest (good : List Bool) : List Nat → Nat
  | [] => 0
  | w :: l => if (good.take w).all id || (good.reverse.take w).all id then w else widest good l

/-- A port narrows after a lane has been retired (R225); in ride-through it waits (R409). -/
def State.narrow (s : State) (p : Nat) : State :=
  let good := ((portMacros p).map (fun m => (List.range (macroLanes m)).map (fun l => !s.on (F.LN_STAT_RETIRED (4 * m + l))))).flatten
  if 48 ≤ p then s.rtStart (p - 48) (s.get (F.DL_STAT_RATE (p - 48))) (Nat.land (s.goodMask (p - 48)) (s.get (F.DL_CTRL_LANES (p - 48)))) 1
  else
    let w := widest good (if p < 32 then [4, 2, 1] else [8, 4, 2, 1])
    let up := if p < 32 then s.get (F.HP_STAT_LINK p) == 2 else s.get (F.MP_STAT_LINK (p - 32)) == 2
    if !up then s
    else if s.riding then s.mapPwr (fun x => { x with rtPorts := x.rtPorts ++ [64 + p] })
    else if w = 0 then s.portDown p
    else (if p < 32 then s.set (F.HP_STAT_WIDTH p) (min w (s.get (F.HP_STAT_WIDTH p))) else s.set (F.MP_STAT_WIDTH (p - 32)) (min w (s.get (F.MP_STAT_WIDTH (p - 32))))).beginTrain p

end Sys2Proof.Machine
end

