-- ==== Sys2Proof/Machine/Dock.lean ====
section
/-! DEFINITION. Dock bring-up frame by frame (R214-R221), the start of flits, link states (R254, R255), and what a dock port sends in one
flit time (R246). -/

namespace Sys2Proof.Machine

/-! ### Lanes in bring-up -/

def laneOf (t : Train) (l : Nat) : LaneTr := if l = 0 then t.l0 else t.l1

def State.mapTrain (s : State) (n : Nat) (f : Train → Train) : State := s.mapLk n (fun k => { k with train := f k.train })

def State.setLane (s : State) (n l : Nat) (x : LaneTr) : State :=
  s.mapTrain n (fun t => if l = 0 then { t with l0 := x } else { t with l1 := x })

/-- The lanes of a mask. -/
def maskLanes (m : Nat) : List Nat := [0, 1].filter (fun l => hasBit m l)

def hitsF (n l : Nat) : Fld := if l = 0 then F.DL_HITS_LANE0 n else F.DL_HITS_LANE1 n

def slipF (n l : Nat) : Fld := if l = 0 then F.DL_SLIP_LANE0 n else F.DL_SLIP_LANE1 n

def partnerF (n l : Nat) : Fld := if l = 0 then F.DL_PARTNER0_BYTES n else F.DL_PARTNER1_BYTES n

/-- DL_STAT.STAGE: LINK once flits are sent, COUNTDOWN while one is, else the lowest stage of the mask's lanes (DEDUCED, log entry 16). -/
def State.showStage (s : State) (n : Nat) : State :=
  let t := (s.lk n).train
  s.set (F.DL_STAT_STAGE n) (if t.flitTx then 8 else if t.cd.isSome then 6 else (maskLanes t.mask).foldl (fun m l => min m (laneOf t l).stage) 5)

/-- A training frame goes out on a lane whose transmitter carries it (R212, R214). At PAM4 rates it asks for a preset until the lane has adapted (R218): which one the spec leaves
to the receiver, a free value (log entry 66). -/
def State.frameOut (s : State) (n l : Nat) : State :=
  let t := (s.lk n).train
  let x := laneOf t l
  let rdy := (maskLanes t.mask).all (fun l => decide (5 ≤ (laneOf t l).stage))
  let flags := b2n (s.on (F.LN_STAT_CDR_LOCK (4 * (64 + n) + l))) + 2 * b2n x.lock + 4 * b2n (s.on (F.LN_STAT_ADAPTED (4 * (64 + n) + l))) +
    8 * b2n (decide (4 ≤ x.stage)) + 16 * b2n (decide (5 ≤ x.stage)) +
    32 * b2n (rdy && decide (t.txRate = s.get (F.DL_STAT_RATE n)) && (t.retrain.isSome || decide (min (s.reqRate n) (s.get (F.DL_STAT_PARTNER_RATE n)) ≤ t.txRate))) +
    64 * b2n t.failTx
  let ask := decide (2 ≤ s.get (F.DL_STAT_RATE n)) && !s.on (F.LN_STAT_ADAPTED (4 * (64 + n) + l))
  let a := s.fresh
  let cd := match t.cd with
    | some (flits, k) => k + (if flits then 64 else 32)
    | none => 0
  if !s.txLink (4 * (64 + n) + l) then s
  else (if ask then a.2 else s).emit (.frame n (s.pairOf n l) (frameBytes t.count (l + 16 * s.get (F.DL_STAT_STAGE n)) flags (s.reqRate n + 16 * t.mask)
    (if ask then a.1 % 32 else 0) (s.get (F.TX_FFE_PRESET (4 * (64 + n) + l))) cd t.fill))

/-- The frames of one frame time on some lanes: their count and filler go on. -/
def State.framesOut (s : State) (n : Nat) (lanes : List Nat) : State :=
  (lanes.foldl (fun s l => s.frameOut n l) s).mapTrain n (fun t => { t with count := (t.count + 1) % 256, fill := (fillBits 112 t.fill).2 })

/-! ### Failures (R219, R220) -/

/-- The lanes stay in electrical idle: the port has failed (R219); a link that was up goes down with cause TRAINING (R260), and bring-up starts again
as after any other cause (R265). -/
def State.trainFailed (s : State) (n : Nat) : State :=
  let s1 := s.lkDown n 8
  (((s1.mapTrain n (fun t => { t with on := false, failed := s.lkState n == 0, fails := 0, retrain := none })).set (F.DL_STAT_STAGE n) 0).emit
    (.dockTx n 0 0 0)).raise (dpEv n 0 4)

/-- Rate code 0 has not reached READY (R219): silence for 100 ms, or FAILED after four such failures. -/
def State.bringFail (s : State) (n : Nat) : State :=
  if 3 ≤ (s.lk n).train.fails then s.trainFailed n
  else ((s.mapTrain n (fun t => { t with on := false, silent := true, fails := t.fails + 1 })).set (F.DL_STAT_STAGE n) 0).emit (.dockTx n 0 0 0)

/-- No lane is READY at a rate above 0 (R219): under a lower cap bring-up runs again from R215, with FAIL in its frames; in a retrain flits resume at
the rate reached (R260). -/
def State.fallBack (s : State) (n : Nat) : State :=
  let rate := max (s.lk n).train.txRate (s.get (F.DL_STAT_RATE n))
  let s1 := ((s.set (F.DL_STAT_CAP n) (rate - 1)).sat (F.DL_FALLBACK_COUNT_COUNT n)).raise (dpEv n 0 2)
  ((s1.bringAnew n).mapTrain n (fun t => { t with failTx := true })).set (F.DL_STAT_STAGE n) 9

/-- A failure at the present rate. -/
def State.rateFail (s : State) (n : Nat) : State := if s.get (F.DL_STAT_RATE n) = 0 then s.bringFail n else s.fallBack n

/-- A lane leaves the mask for electrical idle (R220). -/
def State.exclude (s : State) (n l : Nat) : State :=
  let m := putBit (s.lk n).train.mask l false
  let s1 := ((s.mapTrain n (fun t => { t with mask := m })).dockSends n 1 (s.lk n).train.txRate m).raise (dpEv n 0 3)
  if (s1.lk n).train.mask = 0 then s1.rateFail n else s1.showStage n

/-! ### Flits start (R221) -/

/-- The link starts afresh with INIT flits (R238, R265), which declare and grant what the registers hold now (R247, R251). -/
def State.initStart (s : State) (n : Nat) : State :=
  ((s.declare n).mapLk n (fun k => { k with offer := [1, 2, 3, 4, 5].map (fun c => s.get (grantF n c)) })).sets [(F.PR_STC_COUNT n, 0), (F.PR_RTC_COUNT n, 0), (F.LK_STAT_STATE n, 1), (F.LK_STAT_ENC n, 0), (F.LK_SEQ_RX_EXPECT n, 0), (F.LK_SEQ_TX_NEXT n, 0), (F.LK_ACK_ACK_RX n, 0xFFF),
    (F.LK_ACK_ACK_TX n, 0xFFF), (F.LK_AVAIL0_PCIE n, 0), (F.LK_AVAIL0_ETH n, 0), (F.LK_AVAIL1_DISP n, 0), (F.LK_AVAIL1_SIG n, 0), (F.LK_AVAIL2_MGMT n, 0)]

/-- The link layer takes over from training (R221): INIT on a new link, IDLE until a good flit after a retrain or a low-power exit. -/
def State.linkBegin (s : State) (n : Nat) : State :=
  let t := (s.lk n).train
  let s1 := s.set (F.DL_STAT_WIDTH n) (Nat.land t.mask t.pmask)
  if t.flitTx || t.flitRx then s
  else if s.lkState n = 0 then s1.initStart n
  else
    let s2 := ((if s.get (F.LSTATE_STATE (48 + n)) = 3 then s1.deepOver (48 + n) else s1).mapLk n (fun k => { k with resume := true })).showWait n
    if s.get (F.LSTATE_STATE (48 + n)) = 0 then s2 else (s2.linkAwake (48 + n)).raise (dpEv n 1 7)

/-- Training is over once flits are sent and expected. -/
def State.trainDone (s : State) (n : Nat) : State :=
  s.mapTrain n (fun t => if t.flitTx && t.flitRx then
    { t with on := false, fails := 0, failTx := false, retrain := none, flitTx := false, flitRx := false } else t)

/-- The first flit follows the hub's own countdown (R221). -/
def State.flitsTx (s : State) (n : Nat) : State :=
  let t := (s.lk n).train
  let s1 := (s.linkBegin n).mapTrain n (fun t => { t with flitTx := true, cd := none })
  (((s1.set (F.DL_STAT_STAGE n) 8).raise (dpEv n 0 1)).dockSends n 2 (s.get (F.DL_STAT_RATE n)) (Nat.land t.mask t.pmask)).trainDone n

/-- Flits are expected once the partner's countdown has come (R221). -/
def State.flitsRx (s : State) (n : Nat) : State := ((s.linkBegin n).mapTrain n (fun t => { t with flitRx := true })).trainDone n

/-- Flits start in both directions. -/
def State.flitsStart (s : State) (n : Nat) : State := (s.flitsRx n).flitsTx n

/-! ### Frames (R216-R221) -/

/-- The marker detector (R216, R217): hits, marker lock, and inversion. -/
def State.markerStep (s : State) (n l : Nat) (m : Option Bool) : State :=
  let x := laneOf (s.lk n).train l
  let w := 4 * (64 + n) + l
  let hits := if m.isSome then satAdd 8 (s.get (hitsF n l)) 1 else 0
  let now := !x.lock && decide (16 ≤ hits)
  let s1 := (s.sets [(F.LN_STAT_SIGNAL w, 1), (F.LN_STAT_CDR_LOCK w, 1), (hitsF n l, hits)]).setLane n l
    { x with lock := x.lock || now, stage := if now then max 3 x.stage else max 2 x.stage }
  if now && m == some true then
    (((s1.set (F.DL_STAT_POL n) (putBit (s1.get (F.DL_STAT_POL n)) l true)).set (F.LN_CTRL_POL_INV w) 1).takeUp (F.LN_CTRL_POL_INV w)).raise (dpEv n 0 5)
  else s1

/-- Lane numbers of the partner's frames (R217): both swapped swaps the receive lanes, one alone is a lane fault. -/
def State.swapStep (s : State) (n : Nat) : State :=
  let t := (s.lk n).train
  if t.mask ≠ 3 ∨ !t.l0.lock ∨ !t.l1.lock then s
  else match t.l0.far, t.l1.far with
    | some 1, some 0 =>
      if s.on (F.DL_STAT_LANE_SWAP n) then s
      else (((s.set (F.DL_STAT_LANE_SWAP n) 1).raise (dpEv n 0 5)).setLane n 0 { t.l0 with far := none }).setLane n 1 { t.l1 with far := none }
    | some 1, some 1 => s.exclude n 0
    | some 0, some 0 => s.exclude n 1
    | _, _ => s

/-- Four frames of 256 bits in UI (R217). -/
def skewLimit (rate : Nat) : Nat := if 2 ≤ rate then 512 else 1024

/-- Deskew (R217): at most 4 frames of skew between the lanes. -/
def State.deskew (s : State) (n : Nat) (skew : Nat) : State :=
  let t := (s.lk n).train
  let lim := skewLimit (s.get (F.DL_STAT_RATE n))
  let up := fun (s : State) l => s.setLane n l { laneOf (s.lk n).train l with stage := max 4 (laneOf (s.lk n).train l).stage }
  if (maskLanes t.mask).all (fun l => (laneOf t l).lock) then
    (if t.mask = 3 then
      (if (toSigned 16 skew).natAbs ≤ lim then (up (up s 0) 1).set (F.DL_SKEW_UI n) skew else s)
     else (maskLanes t.mask).foldl up s)
  else s

/-- Does the loupe's eye check pass (R218): each of the three eyes, in 1/64 UI, is at least EYE_MIN wide? -/
def eyesPass (eyes : List Nat) : Bool := decide (3 ≤ eyes.length) && eyes.all (fun x => decide (Config.eyeMin ≤ x))

/-- The fields of a good frame (R214, R215, R218). -/
def State.frameFields (s : State) (n l : Nat) (f : TrainFrame) : State :=
  let x := laneOf (s.lk n).train l
  let rate := s.get (F.DL_STAT_RATE n)
  let fl := f.flags.toNat
  let s1 := s.sets [(partnerF n l, f.b9.toNat + 256 * fl + 65536 * f.req.toNat + 2 ^ 24 * f.preset.toNat), (F.DL_STAT_PARTNER_RATE n, f.req.toNat % 4)]
  let s2 := (s1.setLane n l { x with eyeOk := x.eyeOk || eyesPass f.eyes, far := some (f.b9.toNat % 2), pLock := hasBit fl 0 && hasBit fl 1, pReady := hasBit fl 4, pFlit := hasBit fl 5 }).mapTrain n
    (fun t => { t with pmask := bits f.req.toNat 4 2 })
  let s3 := if 2 ≤ rate ∧ hasBit f.preset.toNat 4 then s2.ffe (64 + n) l (f.preset.toNat % 16) else s2
  if 2 ≤ rate ∧ f.adapted then s3.set (F.LN_STAT_ADAPTED (4 * (64 + n) + l)) 1 else s3

/-- READY of a lane (R215, R218). -/
def State.readyStep (s : State) (n l : Nat) : State :=
  let x := laneOf (s.lk n).train l
  let rate := s.get (F.DL_STAT_RATE n)
  if 4 ≤ x.stage ∧ x.pLock ∧ (rate < 2 ∨ (s.on (F.LN_STAT_ADAPTED (4 * (64 + n) + l)) ∧ x.eyeOk)) then s.setLane n l { x with stage := 5 } else s

/-- The rate this bring-up goes to (R214, R221). -/
def State.targetRate (s : State) (n : Nat) : Nat :=
  match (s.lk n).train.retrain with
  | some r => r.1
  | none => min (s.reqRate n) (s.get (F.DL_STAT_PARTNER_RATE n))

/-- Once every lane of the mask is READY: the countdown of a rate step (R218) or to flits (R221) starts. -/
def State.readyAll (s : State) (n : Nat) : State :=
  let t := (s.lk n).train
  let rate := s.get (F.DL_STAT_RATE n)
  let go := fun (s : State) c => (s.mapTrain n (fun t => { t with cd := some c })).set (F.DL_STAT_STAGE n) 6
  if t.cd.isSome || t.flitTx || !(maskLanes t.mask).all (fun l => decide (5 ≤ (laneOf t l).stage)) then s
  else if Nat.land t.mask t.pmask = 0 then s.rateFail n
  else
    let both := maskLanes (Nat.land t.mask t.pmask)
    let s1 := s.mapTrain n (fun t => { t with failTx := false })
    if t.txRate ≠ rate then s1.set (F.DL_STAT_STAGE n) 6
    else if rate < s.targetRate n then
      (if both.all (fun l => (laneOf t l).pReady) && !s.riding then go s1 (false, 31) else s1)
    else if both.all (fun l => (laneOf t l).pFlit) then go s1 (true, 15)
    else s1

/-- A frame with countdown 0 (R218, R221): the receiver takes the new rate, or expects flits. -/
def State.countZero (s : State) (n : Nat) (cd : Nat) : State :=
  if cd % 32 ≠ 0 then s
  else if hasBit cd 5 ∧ s.get (F.DL_STAT_RATE n) < s.targetRate n then
    ((s.hearAt n (s.targetRate n) 1).mapTrain n (fun t => if t.cd.isNone && decide (t.txRate < s.targetRate n) then { t with cd := some (false, 31) } else t)).set
      (F.DL_STAT_STAGE n) 7
  else if hasBit cd 6 then s.flitsRx n
  else s

/-- One frame time of a transmitter that trains (R214, R218, R219, R221): its frames, then the next number of the countdown; after number 0
the transmitter takes the new rate, or sends its first flit. -/
def State.frameTime (s : State) (n : Nat) : State :=
  let t := (s.lk n).train
  let s1 := s.framesOut n (maskLanes t.mask)
  match t.cd with
  | none => s1
  | some (f, k + 1) => s1.mapTrain n (fun t => { t with cd := some (f, k) })
  | some (true, 0) => s1.flitsTx n
  | some (false, 0) =>
    let r := s1.targetRate n
    ((s1.mapTrain n (fun t => { t with cd := none, txRate := r })).set (F.DL_STAT_STAGE n) 7).dockSends n 1 r t.mask

/-- A received training frame (R214-R221). -/
def State.trainFrame (s : State) (n l : Nat) (f : TrainFrame) : State :=
  let t := (s.lk n).train
  if !t.on || !hasBit t.mask l then s
  else
    let s1 := s.markerStep n l f.marker
    if !f.crcOk then (s1.sat (F.DL_CRC_COUNT_COUNT n)).showStage n
    else
      let s2 := ((s1.frameFields n l f).swapStep n).deskew n f.skew.toNat
      let s3 := ((maskLanes (s2.lk n).train.mask).foldl (fun s l => s.readyStep n l) s2).showStage n
      if s3.get (F.DL_STAT_RATE n) ≠ s.get (F.DL_STAT_RATE n) ∨ !(s3.lk n).train.on then s3
      else
        let s4 := s3.readyAll n
        if (s4.lk n).train.on then s4.countZero n f.count.toNat else s4

/-- A slip of a lane (R216): a lane with marker lock drops it and returns to MARKER. -/
def State.slip (s : State) (n l : Nat) : State :=
  let x := laneOf (s.lk n).train l
  let s1 := (s.set (hitsF n l) 0).set (slipF n l) (s.get (slipF n l) + 1)
  if x.lock then (s1.setLane n l { x with lock := false, stage := 3 }).showStage n else s1

/-! ### Link states (R254, R255) -/

/-- Both ends have agreed on a link state (R254). -/
def State.dockEnter (s : State) (n st : Nat) : State :=
  let s1 := ((s.mapLk n (fun k => { k with pmReq := none, pmAns := none, pmSent := false })).set (F.LSTATE_STATE (48 + n)) st).raise (dpEv n 1 7)
  let s2 := s1.lanesSleep (48 + n) st
  if st = 1 then (s2.showWait n).dockSends n 2 (s.get (F.DL_STAT_RATE n)) 1
  else (s2.set (F.LK_STAT_STATE n) 5).emit (.dockTx n 0 0 0)

/-- An end pauses (R258): its group is sealed before the first PAUSE (R250), and a running replay is left to what follows the retrain. -/
def State.pauseGo (s : State) (n : Nat) : State :=
  (s.mapLk n (fun k => { k with pauseTx := true, pauseDue := false, ctl := (k.ctl.filter (fun c => decide (c = .pause))) ++ List.replicate 4 .pause,
                                pmReq := none, pmAns := none, pmSent := false, pmGone := k.pmGone || k.pmReq.isSome, replay := [] })).set (F.LK_STAT_STATE n) 3

/-- The exit from NARROW ends with both lanes in use (R255); a pause that waited for it begins. -/
def State.dockWide (s : State) (n : Nat) : State :=
  let s1 := ((((s.mapLk n (fun k => { k with widen := false, pmReq := none, pmAns := none, pmSent := false, pmGone := true })).linkAwake (48 + n)).showWait n).dockSends
    n 2 (s.get (F.DL_STAT_RATE n)) (s.get (F.DL_STAT_WIDTH n))).raise (dpEv n 1 7)
  if (s.lk n).pauseDue then s1.pauseGo n else s1

/-- A sideband packet goes out (R290): on the pin that ORIENT maps to SBU1 of the plug. -/
def State.sbuOut (s : State) (n typ seq : Nat) (b : List (BitVec 8)) : State :=
  s.emit (.sbu n (if s.on (F.PD_STAT_ORIENT n) then 2 else 1) (sbuPacket typ seq b))

/-- An SBU packet waits for its turn, or goes out (R290). -/
def State.sbuSend (s : State) (n typ : Nat) (b : List (BitVec 8)) : State :=
  if !s.on (F.SBU_CTRL_EN n) || !s.on (F.PD_STAT_MODE n) then s
  else
    let k := s.lk n
    if k.sbuOut then s.setLk n { k with sbuQ := k.sbuQ ++ [⟨typ, b⟩] }
    else
      let q := (s.get (F.SBU_STAT_TX_SEQ n) + 1) % 256
      ((s.setLk n { k with sbuQ := ⟨typ, b⟩ :: k.sbuQ, sbuOut := true, sbuReps := 0 }).set (F.SBU_STAT_TX_SEQ n) q).sbuOut n typ q b

/-- A dock port starts to leave its link state (R129, R255, R291): exits that cross merge. -/
def State.dockExit (s : State) (n : Nat) : State :=
  let k := s.lk n
  let st := s.get (F.LSTATE_STATE (48 + n))
  let rate := s.get (F.DL_STAT_RATE n)
  let w := s.get (F.DL_STAT_WIDTH n)
  let s1 := (s.set (F.LSTATE_IDLE (48 + n)) 0).set (F.LSTATE_TARGET (48 + n)) 0
  if st = 0 then s
  else if st = 1 then
    (if k.widen then s
     else (s1.setLk n { k with widen := true, pmReq := some 0, pmSent := true, ctl := k.ctl ++ List.replicate 4 (.pm 1 0 0), train := { k.train with l1 := { stage := 2 } } }).laneFresh n 1)
  else if k.train.on then s
  else
    (if st = 3 then (s1.sbuSend n 3 []).deepLeave (48 + n) else s1).trainAt n rate w 2 (some (rate, w))

/-- A dock link that is not in state 0 starts its exit for the cells that wait for it (R129, R255). -/
def State.wakeDocks (s : State) : State :=
  ((List.range 16).filter (fun n => s.asleep (48 + n) && s.sw.cells.any (fun c => decide (c.phase = .waiting) && c.dst == 48 + n))).foldl
    State.dockExit s

/-- The staged exit of a dock port from DEEP ends with flits (R229). -/
def State.dockDeepDone (s : State) (n : Nat) : State :=
  if s.get (F.LSTATE_STATE (48 + n)) = 3 ∧ (s.lk n).train.on then
    s.flitsStart n
  else s

/-- Lane 1 in an exit from NARROW (R255) runs the stages of R215 from CDR on; once both ends are READY on it, the requester acknowledges
ACTIVE. -/
def State.widenFrame (s : State) (n : Nat) (f : TrainFrame) : State :=
  let k := s.lk n
  if !k.widen then s
  else
    let s1 := s.markerStep n 1 f.marker
    if !f.crcOk then s1.sat (F.DL_CRC_COUNT_COUNT n)
    else
      let s2 := s1.frameFields n 1 f
      let x := (s2.lk n).train.l1
      let s3 := (if x.lock && decide ((toSigned 16 f.skew.toNat).natAbs ≤ skewLimit (s.get (F.DL_STAT_RATE n))) then
        s2.setLane n 1 { x with stage := max 4 x.stage } else s2).readyStep n 1
      if 5 ≤ (s3.lk n).train.l1.stage ∧ (s3.lk n).train.l1.pReady ∧ k.pmReq = some 0 ∧ k.pmAns = none then
        s3.mapLk n (fun k => { k with pmAns := some 0, ctl := k.ctl ++ [.pm 2 0 3, .pm 2 0 2, .pm 2 0 1, .pm 2 0 0] })
      else s3

/-- The hub asks for the state that the governor has chosen (R254): for STANDBY and DEEP with an empty mirror and a closed group. -/
def State.pmPoll (s : State) (n : Nat) : State :=
  let k := s.lk n
  let t := s.get (F.LSTATE_TARGET (48 + n))
  let st := s.get (F.LSTATE_STATE (48 + n))
  let can := s.lkState n == 2 && !s.riding && !s.retrains n && k.pmAns.isNone && hasBit (s.get (F.PD_ENTER_VDO_VDO n)) (18 + t)
  match k.pmReq with
  | none => if can && decide (st < t) && decide (st < 2) && !k.widen && decide (k.pmAfter ≤ s.now) then s.setLk n { k with pmReq := some t, pmSent := false } else s
  | some r =>
    if k.pmSent || r == 0 then s
    else if t ≠ r then s.setLk n { k with pmReq := none }
    else if r = 1 ∨ (k.mirror.isEmpty ∧ k.group.isEmpty) then
      s.setLk n { k with pmSent := true, pmGone := false, ctl := k.ctl ++ List.replicate 4 (.pm 1 r 0) }
    else s

/-! ### The pause of a retrain (R258) -/

/-- A running link that is NARROW leaves that state (chapter 10's coincidences). -/
def State.leaveNarrow (s : State) (n : Nat) : State := if s.get (F.LSTATE_STATE (48 + n)) = 1 then s.dockExit n else s

/-- An end begins its pause; a granted NARROW is left first, unless the partner pauses already (chapter 10's coincidences). -/
def State.pauseBegin (s : State) (n : Nat) : State :=
  if (s.lk n).pauseTx then s
  else if s.get (F.LSTATE_STATE (48 + n)) = 1 ∧ (s.lk n).pauseRx = false then (s.dockExit n).mapLk n (fun k => { k with pauseDue := true })
  else s.pauseGo n

/-- Staged flits are discarded without their credits (R253, R258). -/
def State.unstage (s : State) (n : Nat) : State :=
  let k := s.lk n
  let back := k.staged.foldl (fun l f => if f.cls = 0 then l else setAt l (f.cls - 1) (l.getD (f.cls - 1) 0 + 1)) k.left
  (s.setLk n { k with staged := [], left := back }).set (F.LK_SEQ_RX_EXPECT n) (s.get (F.LK_ACK_ACK_TX n) + 1)

/-- Both ends have paused: training frames at the target (R258). -/
def State.toRetrain (s : State) (n : Nat) : State :=
  let k := s.lk n
  match k.rtTgt with
  | some (rate, mask) =>
    if k.pauseTx && k.pauseRx && !k.ctl.contains .pause then
      let s1 := (s.unstage n).mapLk n (fun k => { k with pauseTx := false, pauseRx := false, rtTgt := none, nakArmed := true, nakDue := false })
      let s2 := (s1.set (F.LK_STAT_STATE n) 4).encAgreed n k.rtEnc
      if s2.lkState n = 0 then s2 else (s2.dockTake n).trainAt n rate mask 2 (some (rate, mask))
    else s
  | none => s

/-! ### One flit time (R246) -/

/-- The body of an INIT (R238). -/
def State.initBody (s : State) (n : Nat) : List (BitVec 8) :=
  leBytes 2 1 ++ [BitVec.ofNat 8 (b2n (s.lk n).decl.enc), 0] ++ ((s.lk n).offer.map (leBytes 2)).flatten ++ leBytes 2 256 ++
    leBytes 8 (s.get64 (F.LK_ID_LO_ID n) (F.LK_ID_HI_ID n))

/-- The INIT exchange ends once 4 have been sent and a good one received (R238): the prism starts at slot 0 under the default allotments, and an ALLOT for each direction and an ECHO are due. -/
def State.initDone (s : State) (n : Nat) : State :=
  let k := s.lk n
  if s.lkState n ≠ 1 ∨ !k.initRx ∨ k.inits < 4 then s
  else
    let s1 := (s.prismReset n).mapLk n (fun k => { k with
      tx := { k.tx with dirty := true }
      rx := { k.rx with dirty := true }
      echoDue := s.on (F.LK_CTRL_ECHO_EN n)
      rot := 0 })
    let p : PdPort := tget {} s1.pow.pd n
    let s1 := { s1 with pow := { s1.pow with pd := tset s1.pow.pd n { p with fails := 0 } } }
    let s2 := s1.sets [(F.LK_STAT_STATE n, 2), (F.PR_STC_COUNT n, 0)]
    ((((s2.showSlots n false defaultMap).showSlots n true defaultMap).showWait n)).raise (dpEv n 1 0)

/-- An INIT flit goes out (R238). -/
def State.sendInit (s : State) (n : Nat) : State :=
  let f : Flit := { typ := 5, seq := 0, ack := 0xFFF, crc := 0, cr := 0, cls := 0, chan := 0, body := s.initBody n }
  ((s.flitOut n f).mapLk n (fun k => { k with inits := k.inits + 1 })).initDone n

/-- A link-state or pause flit goes out, and what follows its countdown (R254, R255, R258). -/
def State.sendCtl (s : State) (n : Nat) (c : Ctl) : State :=
  let s1 := (s.mapLk n (fun k => { k with ctl := k.ctl.drop 1 }))
  match c with
  | .pause => (s1.sendPlain n 7 []).toRetrain n
  | .pm op st cnt =>
    let s2 := s1.sendPlain n 6 [BitVec.ofNat 8 op, BitVec.ofNat 8 st, BitVec.ofNat 8 cnt]
    if op = 2 ∧ cnt = 0 ∧ (s2.lk n).pmAns = some st then (if st = 0 then s2.dockWide n else s2.dockEnter n st) else s2

/-- The next flit of a replay, entries already acknowledged skipped (R244). -/
def State.sendReplay (s : State) (n : Nat) : State :=
  let k := s.lk n
  match k.replay with
  | [] => s
  | q :: l =>
    match k.mirror.find? (fun m => m.seq == q) with
    | none => s.setLk n { k with replay := l }
    | some m => (s.setLk n { k with replay := l }).sendFlit n m.typ m.seq m.cls m.chan m.body

/-- An echo goes out (R261, R262). -/
def State.sendEcho (s : State) (n : Nat) : State :=
  let k := s.lk n
  match k.reply with
  | some (num, at') => (s.setLk n { k with reply := none }).sendPlain n 9 (leBytes 8 num ++ leBytes 4 (s.now - at') ++ leBytes 4 0)
  | none =>
    let num := k.echoNum + 1
    (s.setLk n { k with echoDue := false, echoNum := num, echoOut := some (num, s.now) }).sendPlain n 8 (leBytes 8 num)

/-- Does a control flit wait for the SEAL of the open group (R250): a PAUSE, or a PM flit that leads to a state other than ACTIVE? -/
def State.ctlHeld (s : State) (n : Nat) (c : Ctl) : Bool :=
  s.sealed n && !(s.lk n).group.isEmpty && (match c with
    | .pause => true
    | .pm op st _ => op != 3 && st != 0)

/-- Does a PM request keep new DATA flits back: one for STANDBY or DEEP, which need an empty mirror (R254), or a sent one whose group is sealed
(R250)? -/
def State.pmHolds (s : State) (n : Nat) : Bool :=
  (s.lk n).pmReq.any (fun r => decide (2 ≤ r) || (r == 1 && (s.lk n).pmSent && s.sealed n))

/-- One flit time of a transmitter (R246): the first item that applies; lane 1 sends training frames beside it in an exit from NARROW
(R255). -/
def State.flitSlot (sa : State) (n : Nat) : State :=
  let s0 := if (sa.lk n).widen then sa.framesOut n [1] else sa
  let s := (((s0.epochCheck n false).epochCheck n true).pmPoll n).rtResume n
  let k := s.lk n
  if (sa.lk n).train.on && !(sa.lk n).train.flitTx then sa.frameTime n
  else if s.get (F.DL_STAT_STAGE n) ≠ 8 then s0
  else if s.lkState n = 1 then s0.sendInit n
  else if s.lkState n ≠ 2 ∧ s.lkState n ≠ 3 ∧ !k.resume then s0
  else if k.resume then s.sendPlain n 0 []
  else match k.ctl.head?.filter (fun c => !s.ctlHeld n c) with
    | some c => (s.carryUp n).sendCtl n c
    | none =>
      if k.nakDue then (((s.carryUp n).mapLk n (fun k => { k with nakDue := false })).sat (F.LK_NAK_TX_COUNT n)).sendPlain n 4 []
      else if !k.replay.isEmpty then (s.carryUp n).sendReplay n
      else if s.sealNow n then (s.carryUp n).sendSeal n
      else if k.reply.isSome || k.echoDue then (s.carryUp n).sendEcho n
      else if s.noNew n || !s.mirrorRoom n || s.pmHolds n then s.sendPlain n 0 []
      else match s.prismPick n with
        | some (c, how) => s.sendData n c how
        | none => s.sendPlain n 0 []

end Sys2Proof.Machine
end

