-- ==== Sys2Proof/Machine/Classes.lean ====
section
/-! DEFINITION. What a dock port receives (R236, R241-R245, R253) and what its classes do with it (R267-R276, R284-R291): messages joined
from segments, T-MGMT, the Ethernet forwarder, and the sideband. -/

namespace Sys2Proof.Machine

/-! ### Flits received (R236, R241-R244, R248) -/

/-- A NAK is due if one is armed (R242); none is sent once the pause of R258 has begun. -/
def State.nak (s : State) (n : Nat) : State :=
  let k := s.lk n
  if k.nakArmed && !k.pauseTx && !k.pauseRx then s.setLk n { k with nakArmed := false, nakDue := true } else s

/-- ACK of a received flit (R241): the mirror's entries it covers leave it, and a replay skips them (R244). -/
def State.takeAck (s : State) (n a : Nat) : State :=
  let k := s.lk n
  let d := (a + 4096 - s.get (F.LK_ACK_ACK_RX n)) % 4096
  if 1 ≤ d ∧ d ≤ k.mirror.length then
    let gone := (k.mirror.take d).map (fun m => m.seq)
    let s0 := (k.mirror.take d).foldl (fun s m => match m.msg with
      | some id => s.sigForget id
      | none => s) s
    let k1 := { k with mirror := k.mirror.drop d, replay := k.replay.filter (fun q => !gone.contains q), oldReps := 0 }
    ((s0.setLk n k1).set (F.LK_ACK_ACK_RX n) a).showMirror n
  else s

/-- CR of a received flit (R248). -/
def State.takeCr (s : State) (n c v : Nat) : State :=
  if c = 0 ∨ 6 ≤ c then s
  else
    let k := s.lk n
    let d := (v + 512 - k.seen.getD (c - 1) 0) % 512
    (s.setLk n { k with seen := setAt k.seen (c - 1) v }).set (availF n c) (s.get (availF n c) + d)

/-- A replay starts, or the link goes down once its oldest flit has been replayed REPLAY_LIMIT times (R244, R245); a NAK and a timeout in one flit
time start one. -/
def State.replayFrom (s : State) (n q : Nat) : State :=
  let k := s.lk n
  if k.mirror.isEmpty || k.repAt == some (s.get (F.PR_STC_COUNT n)) then s
  else if s.get (F.LK_LIMITS_REPLAY_LIMIT n) ≤ k.oldReps then s.lkDown n 2
  else s.startReplay n q

/-- Does the port take flits? -/
def State.takesFlits (s : State) (n : Nat) : Bool :=
  (if (s.lk n).train.on then (s.lk n).train.flitRx else s.get (F.DL_STAT_STAGE n) == 8) && (s.lkState n == 1 || s.lkState n == 2 || s.lkState n == 3 || (s.lk n).resume)

/-- Does it take flits other than INIT: the partner's INIT has come (R238, R281)? -/
def State.takesSeq (s : State) (n : Nat) : Bool := s.lkState n != 1 || (s.lk n).initRx

/-- A received flit is counted in the window of CRC_RATE (R264): a full window starts anew with the next flit. -/
def State.winIn (s : State) (n : Nat) (bad : Bool) : State :=
  let k := s.lk n
  let full := decide (2 ^ s.get (F.LK_LIMITS_CRC_WIN_LOG2 n) ≤ k.win)
  s.setLk n { k with win := if full then 1 else k.win + 1, winFail := (if full then 0 else k.winFail) + b2n bad }

/-- A received flit time passes (R264, R281): RTC rises from the partner's first flit after its INITs on. -/
def State.rxTime (s : State) (n : Nat) (bad : Bool) : State :=
  if bad && !(s.lk n).rxOn then s.winIn n bad
  else ((s.winIn n bad).mapLk n (fun k => { k with rxOn := true })).wrap (F.PR_RTC_COUNT n)

/-- The first good flit after a retrain or a low-power exit (R255, R258): what ACK does not cover is replayed, and new flits go on. -/
def State.resumed (s : State) (n : Nat) : State :=
  let k := s.lk n
  if !k.resume then s
  else
    let re := s.lkState n == 4
    let s1 := (s.setLk n { k with resume := false, rtSoft := k.rtSoft && !re, echoDue := k.echoDue || (re && s.on (F.LK_CTRL_ECHO_EN n)) }).set (F.LK_STAT_STATE n) 2
    let s2 := if re then (s1.sat (F.LK_RETRAIN_COUNT_COUNT n)).raise (dpEv n 1 3) else s1
    match (s2.lk n).mirror with
    | m :: _ => s2.replayFrom n m.seq
    | [] => s2

/-- What every good flit brings (R241, R242, R248); an unsequenced flit that shows a gap makes a NAK due. -/
def State.rxHead (s : State) (n : Nat) (h : FlitHdr) (sequenced : Bool) : State :=
  let s1 := (((s.rxTime n false).takeAck n h.ack.toNat).takeCr n h.crCls.toNat h.cr.toNat).resumed n
  let d := (h.seq.toNat + 4096 - s1.get (F.LK_SEQ_RX_EXPECT n)) % 4096
  if !sequenced && decide (1 ≤ d) && decide (d < 2048) then s1.nak n else s1

/-- A sequenced flit against `expect` (R242): none for the next in order, else what discarding it does. -/
def State.outOfOrder (s : State) (n seq : Nat) : Option State :=
  let d := (seq + 4096 - s.get (F.LK_SEQ_RX_EXPECT n)) % 4096
  if d = 0 then none
  else if d < 2048 then some (if (s.lk n).staged.isEmpty then s.nak n else (s.unstage n).nak n)
  else some (s.sat (F.LK_DUP_COUNT_COUNT n))

/-- The sequenced flit is accepted (R242). -/
def State.acceptSeq (s : State) (n seq : Nat) (ack : Bool) : State :=
  let s1 := (s.mapLk n (fun k => { k with nakArmed := true })).set (F.LK_SEQ_RX_EXPECT n) (seq + 1)
  if ack then s1.set (F.LK_ACK_ACK_TX n) seq else s1

/-! ### T-MGMT (R270, R271) -/

/-- A T-MGMT message that is ignored (R270). -/
def State.mgmtErr (s : State) (n : Nat) : State := (s.sat (F.CLS_MGMT_ERR_COUNT n)).raise (dpEv n 3 4)

/-- The endpoints of a DESCRIBE as channel windows (R271). -/
def describeWs (d : DescribeMsg) : List Nat :=
  let f := fun c k => (List.range (min 32 k)).map (fun i => chW c i)
  f 1 d.pcie.toNat ++ f 2 d.eth.toNat ++ f 3 (min 4 d.disp.toNat) ++ f 4 d.sgl.toNat

/-- A DESCRIBE (R268, R271): channels open for the endpoints it lists, those in quarantine when that ends, and close for those it no longer
lists. -/
def State.describe (s : State) (n : Nat) (d : DescribeMsg) : State :=
  if 32 < d.pcie.toNat ∨ 32 < d.eth.toNat ∨ 32 < d.disp.toNat ∨ 32 < d.sgl.toNat then s.mgmtErr n
  else
    let ws := describeWs d
    let s1 := ((s.sets [(F.DEV_ID_VID n, d.vid.toNat), (F.DEV_ID_PID n, d.pid.toNat)]).mapLk n (fun k => { k with
      want := ws.filter (fun w => s.chState n w == 2)
      sinks := d.sinks.take (min 4 d.disp.toNat) })).raise (dpEv n 3 0)
    let gone := ((List.range 128).map (· + 32)).filter (fun w => s1.chState n w == 1 && !ws.contains w)
    let s2 := gone.foldl (fun s w => (s.sendMgmt n 3 (chMsg w (s.chGen n w) ++ [1])).chClose n w) s1
    if s2.on (F.CLS_CTRL_AUTO_OPEN n) then ws.foldl (fun s w => s.chWant n w) s2 else s2

/-- CH_CLOSE from the far end (R268): one that names the open channel's generation closes it. -/
def State.chCloseIn (s : State) (n cls idx gen : Nat) : State :=
  if cls = 0 ∨ 5 ≤ cls ∨ 32 ≤ idx then s.mgmtErr n
  else
    let w := chW cls idx
    if s.chState n w = 1 ∧ s.chGen n w = gen then s.chClose n w
    else if s.chState n w = 2 ∧ s.chGen n w = gen then s
    else s.stale 1

/-- The ALLOT of a direction that has been sent and whose switch has not come, if it has a number. -/
def State.allotSent (s : State) (n num : Nat) (rx : Bool) : Option Allot :=
  (dirOf (s.lk n) rx).pend.filter (fun a => a.num == num && a.epoch.isSome)

/-- ALLOT_ACK (R285): of the pending ALLOT. -/
def State.allotAck (s : State) (n num : Nat) (rx : Bool) : State :=
  match s.allotSent n num rx with
  | some a => s.setDir n rx { dirOf (s.lk n) rx with pend := some { a with acked := true } }
  | none => s

/-- ALLOT_NAK (R285, R286): LATE sends the allotment again, BAD_MAP and UNSUPPORTED refuse it for good; each raises the ALLOT event. A reserved reason
is malformed (R270). -/
def State.allotNak (s : State) (n num : Nat) (rx : Bool) (reason : Nat) : State :=
  if reason = 0 ∨ 4 ≤ reason then s.mgmtErr n
  else match s.allotSent n num rx with
  | none => s.raise (dpEv n 2 2)
  | some a =>
    let s1 := s.set (if rx then F.PR_STAT_RX_NAK n else F.PR_STAT_TX_NAK n) reason
    if reason = 1 then (if s.orphan n then s1.raise (dpEv n 2 2) else s1.allotLate n rx a)
    else ((s1.setDir n rx { dirOf (s.lk n) rx with pend := none }).set (if rx then F.PR_STAT_RX_PENDING n else F.PR_STAT_TX_PENDING n) 0).raise (dpEv n 2 2)

/-- LTOL (R270): TOL_LTR of the port, clamped. -/
def State.ltol (s : State) (n ns : Nat) : State := (s.set (F.TOL_LTR_NS (48 + n)) (min ns 0xFFFFFF)).selectState (48 + n)

/-- A vendor message goes to the port's engine (R270). -/
def State.vendor (s : State) (n code : Nat) (b : List (BitVec 8)) : State :=
  (s.emit (.message n 5 code b)).emit (.engReq (s.seqOwner (64 + n)) 0x80 n)

/-! ### Retrains received (R257-R260) -/

/-- The hub's own proposal as a responder (R257): its highest rate, which the retrain then takes (R4), on the lanes that are not retired. -/
def State.rtOwn (s : State) (n : Nat) : Nat × Nat := ((s.takeUp (F.DL_CTRL_MAX_RATE n)).reqRate n, Nat.land (s.get (F.DL_CTRL_LANES n)) (s.goodMask n))

/-- The target of two proposals, or the link-down of an empty mask (R257). -/
def State.rtTarget (s : State) (n r1 m1 r2 m2 : Nat) (enc : Bool) : State :=
  if Nat.land m1 m2 = 0 then s.lkDown n 7
  else s.mapLk n (fun k => { k with rtTgt := some (min r1 r2, Nat.land m1 m2), rtReq := none, rtEnc := enc, pmReq := none, pmAns := none, pmSent := false,
                                    pmGone := k.pmGone || k.pmReq.isSome, ctl := k.ctl.filter (fun c => decide (c = .pause)) })

/-- RETRAIN_REQ (R257, R259): answered, or resolved by the link identities when it crosses the hub's own; a granted NARROW is left at once. -/
def State.rtReqIn (s : State) (n : Nat) (r : RetrainMsg) : State :=
  let k := s.lk n
  if s.orphan n then s
  else if s.lkState n ≠ 1 ∧ s.lkState n ≠ 2 then s.protocol n
  else match k.rtReq with
    | some q =>
      let lead := decide (s.get64 (F.LK_ID_LO_ID n) (F.LK_ID_HI_ID n) < r.id.toNat)
      let s1 := (s.put (F.LK_STAT_LEADER n) lead).raise (dpEv n 1 4)
      if lead then s1
      else ((s1.sendMgmt n 0x11 (s.rtMsg n r.num.toNat q.rate q.mask 1)).rtTarget n q.rate q.mask r.rate.toNat r.mask.toNat r.enc).leaveNarrow n
    | none =>
      let own := s.rtOwn n
      let s1 := (s.declare n).raise (dpEv n 1 2)
      ((s1.sendMgmt n 0x11 (s1.rtMsg n r.num.toNat own.1 own.2 0)).rtTarget n own.1 own.2 r.rate.toNat r.mask.toNat r.enc).leaveNarrow n

/-- RETRAIN_ACK (R258): the initiator pauses; one that answers an earlier repeat is ignored, one that answers nothing is out of
place. -/
def State.rtAckIn (s : State) (n : Nat) (r : RetrainMsg) : State :=
  let k := s.lk n
  if s.orphan n then s
  else match k.rtReq with
    | none => s.protocol n
    | some q =>
      if q.num ≠ r.num.toNat then s
      else
        let s1 := s.rtTarget n q.rate q.mask r.rate.toNat r.mask.toNat r.enc
        if s1.lkState n = 2 then s1.pauseBegin n else s1

/-- A T-MGMT message from the device as bytes (R257, R270, R271). -/
def State.mgmtIn (s : State) (n : Nat) (b : List (BitVec 8)) : State :=
  let g := fun i => (b.getD i 0).toNat
  let len := g 2 + 256 * g 3
  let p := b.drop 4
  let w := fun i => g (4 + i)
  let rt : RetrainMsg := { num := p.getD 0 0, rate := BitVec.ofNat 2 (w 1), mask := BitVec.ofNat 2 (w 1 / 16), b2 := p.getD 2 0,
                           enc := hasBit (w 3) 0, id := BitVec.ofNat 64 (leNat ((p.drop 4).take 8)) }
  let sinkAt := fun k => ({ width := BitVec.ofNat 16 (w (10 + 8 * k) + 256 * w (11 + 8 * k)), height := BitVec.ofNat 16 (w (12 + 8 * k) + 256 * w (13 + 8 * k)),
                            refresh := p.getD (14 + 8 * k) 0, formats := p.getD (15 + 8 * k) 0 } : SinkInfo)
  let bad := decide (b.length < 4) || g 1 != 0 || decide (228 < len) || p.length != len
  if g 0 = 0x10 ∨ g 0 = 0x11 then
    (if bad ∨ len ≠ 12 then s.protocol n else if g 0 = 0x10 then s.rtReqIn n rt else s.rtAckIn n rt)
  else if bad then s.mgmtErr n
  else if g 0 = 1 ∧ len = 10 + 8 * min 4 (w 6) then
    s.describe n { vid := BitVec.ofNat 16 (w 0 + 256 * w 1), pid := BitVec.ofNat 16 (w 2 + 256 * w 3), pcie := p.getD 4 0, eth := p.getD 5 0,
                   disp := p.getD 6 0, sgl := p.getD 7 0, sinks := (List.range (min 4 (w 6))).map sinkAt }
  else if g 0 = 3 ∧ len = 4 ∧ w 3 ≤ 2 then s.chCloseIn n (w 0) (w 1) (w 2 % 16)
  else if g 0 = 5 ∧ len = 2 then s.allotAck n (w 0) (hasBit (w 1) 0)
  else if g 0 = 6 ∧ len = 3 then s.allotNak n (w 0) (hasBit (w 1) 0) (w 2)
  else if g 0 = 8 ∧ len = 4 then s.ltol n (leNat (p.take 4))
  else if 0x80 ≤ g 0 then s.vendor n (g 0) p
  else s.mgmtErr n

/-! ### The Ethernet forwarder (R274-R276) -/

/-- The MAC address at a byte of a frame. -/
def macAt (b : List (BitVec 8)) (i : Nat) : Nat := ((b.drop i).take 6).foldl (fun v x => v * 256 + x.toNat) 0

/-- The EtherType at a byte of a frame. -/
def typeAt (b : List (BitVec 8)) (i : Nat) : Nat := (b.getD i 0).toNat * 256 + (b.getD (i + 1) 0).toNat

/-- Is an EtherType a VLAN tag's? -/
def isTag (t : Nat) : Bool := t == 0x8100 || t == 0x88A8

/-- The outer VID of a frame, 0 without a tag. -/
def outerVid (b : List (BitVec 8)) : Nat := if isTag (typeAt b 12) then typeAt b 14 % 4096 else 0

/-- The EtherType after up to two tags. -/
def innerType (b : List (BitVec 8)) : Nat :=
  if isTag (typeAt b 12) then (if isTag (typeAt b 16) then typeAt b 20 else typeAt b 16) else typeAt b 12

/-- Is the frame a PTP message for an enabled PTP port (R57, R274)? -/
def State.ptpTaken (s : State) (p : Nat) (b : List (BitVec 8)) : Bool :=
  innerType b == 0x88F7 && (if p < 512 then p % 32 == 0 && hasBit (s.get F.PTP_DOCK_EN_EN) (p / 32) else hasBit (s.get F.PTP_DOOR_EN_EN) (p - 512))

/-- The feature bits that a door offers (R276), by virtio's numbers (PRESUMED, log entry 99): MTU 3, MAC 5, MRG_RXBUF 15, STATUS 16, CTRL_VQ 17, MQ 22,
VERSION_1 32, RING_PACKED 34. -/
def doorOffers : Nat := [3, 5, 15, 16, 17, 22, 32, 34].foldl (fun m b => m + 2 ^ b) 0

/-- The MAC address of a host's door (R276): the base MAC of the IDENTITY record (R438), plus 16, plus h. -/
def State.doorMac (s : State) (h : Nat) : Nat :=
  ((((s.record 1).getD []).getD 4 0 + 2 ^ 32 * ((s.record 1).getD []).getD 5 0) % 2 ^ 48 + 16 + h) % 2 ^ 48

/-- The queue pair a door sends a frame to (R276). -/
def State.doorPair (s : State) (h : Nat) (b : List (BitVec 8)) : Nat :=
  crcIscsi ((b.drop 0).take 6 ++ (b.drop 6).take 6 ++ leBytes 2 (outerVid b)) % max 1 (s.doorOf h).pairs

/-- The forwarder learns a frame's source (R274); a full table learns nothing new. -/
def State.fwdLearn (s : State) (p : Nat) (b : List (BitVec 8)) : State :=
  let c := s.fwdPort p
  let src := macAt b 6
  let vid := outerVid b
  if !c.learn then s
  else
    let old := s.link.fwd.filter (fun e => !(e.mac == src && e.vid == vid && e.dom == c.dom))
    if old.length = s.link.fwd.length ∧ 16384 ≤ old.length then (if p < 512 then s.sat (F.FWD_FULL_COUNT (p / 32)) else s)
    else s.mapLinks (fun k => { k with fwd := old ++ [⟨src, vid, c.dom, p⟩] })

/-- The kind of traffic between a forwarder port and the forwarder (R83): its T-ETH channel, or its door's queue pair. -/
def fwdKind (p pair : Nat) : Traffic := if p < 512 then .tunnel (BitVec.ofNat 16 (512 + p % 32)) else .virtio (BitVec.ofNat 3 pair)

/-- A frame goes from the forwarder (port 68) to one of its ports. -/
def State.fwdSend (s : State) (p : Nat) (b : List (BitVec 8)) : State :=
  s.corePush 68 (fwdXbar p) (fwdKind p (s.doorPair (p - 512) b)) (.port p) b

/-- A frame of one of its ports has reached the forwarder (R274, R275). -/
def State.fwdGo (s : State) (p : Nat) (b : List (BitVec 8)) : State :=
  let c := s.fwdPort p
  if c.block then s
  else
    let s1 := s.fwdLearn p b
    let dst := macAt b 0
    let known := s1.link.fwd.find? (fun e => e.mac == dst && e.vid == outerVid b && e.dom == c.dom)
    match (if (b.getD 0 0).toNat % 2 = 1 then none else known) with
    | some e => if e.port = p ∨ (s1.fwdPort e.port).block ∨ !s1.fwdUp e.port then s1 else s1.fwdSend e.port b
    | none => (List.range 544).foldl (fun s q =>
        if q ≠ p ∧ (s.fwdPort q).dom = c.dom ∧ !(s.fwdPort q).block ∧ s.fwdUp q then s.fwdSend q b else s) s1

/-- A frame at a forwarder port (R274): of a wrong length it is dropped, the boundary clock takes its PTP messages (R57), and every other goes
to the forwarder in cells (R81). -/
def State.ethIn (s : State) (p pair : Nat) (b : List (BitVec 8)) : State :=
  if b.length < 14 ∨ 9216 < b.length then
    (if p < 512 then s.sat (F.CH_DROP_COUNT (p / 32) (chW 2 (p % 32))) else s)
  else if s.ptpTaken p b then s
  else s.corePush (fwdXbar p) 68 (fwdKind p pair) (.forward p) b

/-! ### T-PCIE (R272) -/

/-- The function slot, host and vDSP that a T-PCIE channel is bound to. -/
def State.chFn (s : State) (n word : Nat) : Option (Nat × Nat × Nat) :=
  (List.range 256).findSome? (fun x => match (s.fnSlot x).bound with
    | some (h, d) => if s.get (F.VDSP_SRC_PORT h d) = 48 + n ∧ s.get (F.VDSP_SRC_ID h d) = word then some (x, h, d) else none
    | none => none)

/-- The kind of traffic of a T-PCIE channel (R83). -/
def pcieKind (i : Nat) : Traffic := .tunnel (BitVec.ofNat 16 (256 + i))

/-- A TLP of a T-PCIE channel: to the bound host in cells (R81); before it is bound only the hub's own scan hears the function (R273). -/
def State.tlpUp (s : State) (n i : Nat) (b : List (BitVec 8)) : State :=
  match s.chFn n (s.get (F.CH_INFO_WORD n (chW 1 i))) with
  | some (_, h, _) => s.corePush (48 + n) h (pcieKind i) (.host n i) b
  | none => s.emit (.message n 1 i b)

/-! ### Messages from segments (R269) -/

/-- The longest message of a class: T-PCIE's header is PCIe's (PRESUMED, log entry 17). -/
def classLimit (c : Nat) : Nat := if c = 1 then 576 else if c = 2 then 9216 else if c = 4 then 256 else 232

/-- A complete message is handed to its class. -/
def State.classMsg (s : State) (n c i : Nat) (b : List (BitVec 8)) : State :=
  let s1 := s.sat (F.CH_RX_MSG_COUNT n (chW c i))
  match c with
  | 1 => s1.tlpUp n i b
  | 2 => s1.ethIn (32 * n + i) 0 b
  | 4 => s1.sigPush { port := 48 + n, src := 48 + n, dst := 65, tch := i, orig := .dock n i, op := 0, payload := b }
  | 5 => s1.mgmtIn n b
  | _ => s1.emit (.message n c i b)

/-- A message of a channel is dropped (R269), with what is left of it unless it has ended. -/
def State.msgDrop (s : State) (n w : Nat) (ended : Bool) : State :=
  (s.mapLk n (fun k => { k with parts := tdel k.parts w, skip := if ended then k.skip.erase w else w :: k.skip.erase w })).sat (F.CH_DROP_COUNT n w)

/-- A message in progress on a channel. -/
def State.partOf (s : State) (n w : Nat) : Option (List (BitVec 8)) := ((s.lk n).parts.find? (fun e => e.1 == w)).map (fun e => e.2)

/-- A segment is dropped for its channel or generation (R49, R268): its message is counted with its last segment (R293). -/
def State.segStale (s : State) (n w : Nat) (eom : Bool) : State := if eom then (s.stale 1).sat (F.CH_DROP_COUNT n w) else s.stale 1

/-- One segment of a DATA_BAD flit (R233, R269): the message that it belongs to is dropped. -/
def State.segBad (s : State) (n c i gen : Nat) (som eom : Bool) : State :=
  let w := chW c i
  if s.chState n w ≠ 1 ∨ s.chGen n w ≠ gen then s.segStale n w eom
  else if !som && (s.lk n).skip.contains w then (if eom then s.mapLk n (fun k => { k with skip := k.skip.erase w }) else s)
  else (if som && (s.partOf n w).isSome then s.msgDrop n w true else s).msgDrop n w eom

/-- One segment of a channel (R268, R269). -/
def State.segIn (s : State) (n c i gen : Nat) (som eom : Bool) (b : List (BitVec 8)) : State :=
  let w := chW c i
  if s.chState n w ≠ 1 ∨ s.chGen n w ≠ gen then s.segStale n w eom
  else if !som && (s.lk n).skip.contains w then (if eom then s.mapLk n (fun k => { k with skip := k.skip.erase w }) else s)
  else
    let s1 := if som && (s.partOf n w).isSome then s.msgDrop n w true else s
    let s2 := s1.mapLk n (fun k => { k with skip := k.skip.erase w })
    match (if som then some [] else s2.partOf n w) with
    | none => s2.msgDrop n w eom
    | some old =>
      let msg := old ++ b
      if classLimit c < msg.length then s2.msgDrop n w eom
      else if eom then (s2.mapLk n (fun k => { k with parts := tdel k.parts w })).classMsg n c i msg
      else s2.mapLk n (fun k => { k with parts := tset k.parts w msg })

/-- The segments of a body, back to back (R269). -/
def segments : Nat → List (BitVec 8) → List (Nat × Bool × Bool × List (BitVec 8))
  | 0, _ => []
  | n + 1, l =>
    match l with
    | len :: fl :: r =>
      if len = 0 ∨ 234 < len.toNat ∨ r.length < len.toNat then []
      else (fl.toNat % 16, hasBit fl.toNat 4, hasBit fl.toNat 5, r.take len.toNat) :: segments n (r.drop len.toNat)
    | _ => []

/-- The content of a DATA or DATA_BAD flit is handed on, and its credit returned (R233, R249, R269, R277): once the core has taken
its message, where that waits. -/
def State.handOn (s : State) (n : Nat) (f : RxFlit) : State :=
  let s1 := if f.cls = 3 then s.mgmtErr n
    else (segments 118 (f.body.take 236)).foldl (fun s g =>
      if f.bad then s.segBad n f.cls f.chan g.1 g.2.1 g.2.2.1 else s.segIn n f.cls f.chan g.1 g.2.1 g.2.2.1 g.2.2.2) s
  if s1.classHeld n f.cls then s1.mapLk n (fun k => { k with owe := setAt k.owe (f.cls - 1) (k.owe.getD (f.cls - 1) 0 + 1) })
  else s1.giveCredit n f.cls

/-- A flit whose CRC fails after FEC has corrected `fixed` bytes (R236, R242, R256, R264). -/
def State.crcBad (s : State) (n fixed : Nat) : State :=
  let s1 := (((s.rxTime n true).sat (F.LK_FEC_CORR_COUNT n) fixed).sat (F.LK_CRC_FAIL_COUNT n)).nak n
  let lim := s1.get (F.LK_LIMITS_CRC_LIMIT n)
  let bad := (s1.lk n).winFail
  if lim < bad then s1.lkDown n 1
  else if lim < 2 * bad ∧ s1.get (F.DL_STAT_RATE n) ≠ 0 then
    s1.rtStart n (s1.get (F.DL_STAT_RATE n) - 1) (s1.rtOwn n).2 2
  else s1

/-- The wire's errors of a received flit. -/
def wireErrs (h : FlitHdr) : List (Nat × Nat) := h.errs.map (fun x => (x.1.val, x.2.toNat))

/-- A received flit passes FEC, and its CRC after it (R236), or is discarded whole. -/
def State.rxFlit (s : State) (n : Nat) (h : FlitHdr) (f : State → State) : State :=
  if !s.takesFlits n then s
  else if fecGood (wireErrs h) then f (s.sat (F.LK_FEC_CORR_COUNT n) (rsFixes (wireErrs h)).length)
  else s.crcBad n (rsFixes (wireErrs h)).length

/-- A good flit of the running link, after its ACK and CR (R241, R242); before the partner's INIT has come it is only counted. -/
def State.rxGood (s : State) (n : Nat) (h : FlitHdr) (sequenced : Bool) (f : State → State) : State :=
  s.rxFlit n h (fun s =>
    if !s.takesSeq n then s.rxTime n false
    else
      let s1 := s.rxHead n h sequenced
      if s1.lkState n = 0 then s1 else f s1)

/-- A sequenced DATA or DATA_BAD flit (R242, R243, R249, R253). -/
def State.dataIn (s : State) (n : Nat) (h : FlitHdr) (f : RxFlit) : State :=
  s.rxGood n h true (fun s1 =>
    if f.cls = 0 ∨ 6 ≤ f.cls then s1.protocol n
    else match s1.outOfOrder n f.seq with
    | some t => t
    | none =>
      let k := s1.lk n
      if k.left.getD (f.cls - 1) 0 = 0 then s1.protocol n
      else
        let s2 := s1.mapLk n (fun k => { k with left := setAt k.left (f.cls - 1) (k.left.getD (f.cls - 1) 0 - 1) })
        if s2.sealed n then (s2.acceptSeq n f.seq false).mapLk n (fun k => { k with staged := k.staged ++ [f] })
        else (s2.acceptSeq n f.seq true).handOn n f)

/-- A staged group is deciphered and handed on (R252, R253). -/
def State.handGroup (s : State) (n : Nat) (key : Option Nat) (iv : List (BitVec 8)) (g : List RxFlit) : State :=
  g.zipIdx.foldl (fun s p => s.handOn n { p.1 with body := sealBody key iv p.2 p.1.body }) s

/-- A SEAL (R252, R253): the tag of the staged group under the expected counter hands the group on; another fails it. -/
def State.sealIn (s : State) (n : Nat) (h : FlitHdr) (tag : BitVec 128) (counter count : Nat) : State :=
  s.rxGood n h true (fun s1 =>
    match s1.outOfOrder n h.seq.toNat with
    | some t => t
    | none =>
      if !s1.sealed n then s1.acceptSeq n h.seq.toNat true
      else
        let k := s1.lk n
        let key := s1.slotKey k.crypt.rxSlot
        let iv := sealIv k.crypt.saltRx k.sealRx
        if counter = k.sealRx ∧ tag = sealTag key iv k.staged h.seq.toNat counter count then
          (((s1.acceptSeq n h.seq.toNat true).sat (F.KS_USES_COUNT k.crypt.rxSlot)).mapLk n
            (fun k => { k with staged := [], sealRx := (k.sealRx + 1) % 2 ^ 64 })).handGroup n key iv k.staged
        else
          let fails := s1.now :: k.tagFails.filter (fun t => decide (s1.now < t + 1000000000))
          let s2 := (((s1.unstage n).nak n).mapLk n (fun k => { k with tagFails := fails })).sat (F.LK_TAG_FAIL_COUNT n) |>.raise (dpEv n 1 5)
          if s2.get (F.LK_LIMITS_TAG_LIMIT n) < fails.length then s2.lkDown n 4 else s2)

/-- An unsequenced flit of the running link. -/
def State.plainIn (s : State) (n : Nat) (h : FlitHdr) (f : State → State) : State := s.rxGood n h false f

/-- A NAK (R242, R244). -/
def State.nakIn (s : State) (n : Nat) (h : FlitHdr) : State :=
  s.plainIn n h (fun s =>
    match (s.lk n).mirror with
    | m :: _ => (s.sat (F.LK_NAK_RX_COUNT n)).replayFrom n m.seq
    | [] => s.sat (F.LK_NAK_RX_COUNT n))

/-- An INIT flit (R238, R239): the first good one starts the exchange's receiving side, with T-MGMT channel 0 open (R268); each is judged until the hub
has sent a sequenced flit, and ignored from then on. -/
def State.initIn (s : State) (n version : Nat) (enc : Bool) (credits : List Nat) (depth id : Nat) : State :=
  let k := s.lk n
  if s.lkState n ≠ 1 ∧ (s.lkState n ≠ 2 ∨ k.begun = true) then s
  else if version ≠ 1 ∨ credits.any (fun c => decide (511 < c)) ∨ depth < 32 ∨ 256 < depth ∨
      id ≠ s.get64 (F.LK_PID_LO_ID n) (F.LK_PID_HI_ID n) ∨ (k.initRx = true ∧ enc ≠ k.decl.enc) then s.protocol n
  else if k.initRx then s
  else
    let s1 := s.encAgreed n enc
    if s1.lkState n = 0 then s1
    else
      let c := fun i => credits.getD i 0
      let s2 := s1.mapLk n (fun k => { k with initRx := true, pDepth := depth, left := k.offer, seen := [0, 0, 0, 0, 0], ret := [0, 0, 0, 0, 0], owe := [0, 0, 0, 0, 0] })
      (s2.sets [(F.LK_AVAIL0_PCIE n, c 0), (F.LK_AVAIL0_ETH n, c 1), (F.LK_AVAIL1_DISP n, c 2), (F.LK_AVAIL1_SIG n, c 3),
        (F.LK_AVAIL2_MGMT n, c 4), (F.CH_INFO_STATE n (chW 5 0), 1), (F.CH_INFO_WORD n (chW 5 0), chWord (chW 5 0) 0)]).initDone n

/-- Has this burst of PM REQ flits been refused already (R254): a REFUSE went out within the last three flit times? -/
def State.pmRefused (s : State) (n : Nat) : Bool :=
  match (s.lk n).pmRefAt with
  | some t => decide ((s.get (F.PR_RTC_COUNT n) + 2 ^ 32 - t) % 2 ^ 32 ≤ 3)
  | none => false

/-- A PM REQ (R254-R256): of requests that cross, the follower's is abandoned with what of it still waits. -/
def State.pmReqIn (s : State) (n st : Nat) : State :=
  let k := s.lk n
  let lead := decide (s.get64 (F.LK_ID_LO_ID n) (F.LK_ID_HI_ID n) < s.get64 (F.LK_PID_LO_ID n) (F.LK_PID_HI_ID n))
  let drop := fun (k : Link) => { k with pmReq := none, pmSent := false, pmGone := k.pmGone || k.pmReq.isSome,
                                         ctl := k.ctl.filter (fun c => match c with
                                           | .pm op _ _ => op != 1
                                           | .pause => true) }
  if st = 0 then
    (if s.get (F.LSTATE_STATE (48 + n)) = 1 ∧ !k.widen then
      (s.setLk n { k with widen := true, train := { k.train with l1 := { stage := 2 } } }).laneFresh n 1
     else if k.widen && k.pmReq == some 0 && k.pmAns.isNone && !lead then s.mapLk n drop
     else s)
  else if s.retrains n ∨ k.pmAns.isSome ∨ (k.pmReq.isSome && k.pmSent && lead) ∨ s.pmRefused n then s
  else
    let s1 := s.mapLk n drop
    if st ≤ s.get (F.LSTATE_TARGET (48 + n)) ∧ (st < 2 ∨ k.mirror.isEmpty) then
      s1.mapLk n (fun k => { k with pmAns := some st, ctl := k.ctl ++ [.pm 2 st 3, .pm 2 st 2, .pm 2 st 1, .pm 2 st 0] })
    else s1.mapLk n (fun k => { k with ctl := k.ctl ++ [.pm 3 st 0], pmRefAt := some (s.get (F.PR_RTC_COUNT n)) })

/-- A PM flit (R254-R256): an answer to no request is out of place, but for one to a request that was abandoned, refused or granted before. -/
def State.pmIn (s : State) (n : Nat) (h : FlitHdr) (op st cnt : Nat) : State :=
  s.plainIn n h (fun s =>
    let k := s.lk n
    let stray := fun (_ : Unit) => if s.retrains n || k.pmGone then s else s.protocol n
    if op = 1 ∧ st ≤ 3 then s.pmReqIn n st
    else if op = 2 ∧ st ≤ 3 then
      (if st = 0 ∧ k.widen then (if cnt = 0 then s.dockWide n else s)
       else if k.pmReq = some st ∧ k.pmSent then (if cnt = 0 then s.dockEnter n st else s)
       else stray ())
    else if op = 3 ∧ st ≤ 3 then
      (if k.pmReq = some st ∧ k.pmSent then
        s.setLk n { k with pmReq := none, pmSent := false, pmGone := true, pmAfter := s.now + s.get (F.IDLE_HOLD_NS (48 + n)) }
       else stray ())
    else s.protocol n)

/-- A PAUSE (R258): a responder that has answered begins its own pause. -/
def State.pauseIn (s : State) (n : Nat) (h : FlitHdr) : State :=
  s.plainIn n h (fun s =>
    if (s.lk n).rtTgt.isNone then s.protocol n
    else ((s.mapLk n (fun k => { k with pauseRx := true })).pauseBegin n).toRetrain n)

/-- An ECHO_REPLY within 10 µs of t1 (R262): round trip, device delay, and DLAT_MEAS. -/
def State.echoIn (s : State) (n num turn dev : Nat) : State :=
  match (s.lk n).echoOut with
  | none => s
  | some (q, t1) =>
    if q ≠ num ∨ t1 + 10000 < s.now then s
    else
      let rtt := s.now - t1 - turn
      let lat := (18000 + s.flitTime n + rtt * 500 + dev * 1000 + s.prismWait n) / 1000
      (((s.mapLk n (fun k => { k with echoOut := none })).sets [(F.LK_RTT_NS n, rtt), (F.LK_DEV_DELAY_NS n, dev), (F.DLAT_MEAS_NS (48 + n), lat)])).selectState (48 + n)

/-! ### The sideband (R290, R291) -/

/-- A good packet brings the sideband up. -/
def State.sbuGood (s : State) (n : Nat) : State :=
  if s.on (F.SBU_STAT_UP n) then s else (s.set (F.SBU_STAT_UP n) 1).raise (dpEv n 3 6)

/-- A packet of types 1 to 3 (R290): acknowledged, and delivered unless its SEQ is a duplicate. -/
def State.sbuIn (s : State) (n seq : Nat) (crcOk : Bool) (f : State → State) : State :=
  if !s.on (F.SBU_CTRL_EN n) || !s.on (F.PD_STAT_MODE n) then s
  else if !crcOk then s.sat (F.SBU_ERR_COUNT n)
  else
    let s1 := (s.sbuGood n).sbuOut n 4 0 [BitVec.ofNat 8 seq]
    if (s.lk n).sbuSeen = some seq then s1 else f ((s1.mapLk n (fun k => { k with sbuSeen := some seq })).set (F.SBU_STAT_RX_SEQ n) seq)

/-- A T-MGMT message on the sideband (R291): LTOL, CH_CLOSE and vendor codes. -/
def State.sbuMgmt (s : State) (n : Nat) (b : List (BitVec 8)) : State :=
  let c := (b.getD 0 0).toNat
  if 64 < b.length then s.mgmtErr n else if c = 3 ∨ c = 8 ∨ 0x80 ≤ c then s.mgmtIn n b else s.mgmtErr n

/-- The next waiting packet goes out. -/
def State.sbuNext (s : State) (n : Nat) : State :=
  match (s.lk n).sbuQ with
  | [] => s
  | p :: _ =>
    let q := (s.get (F.SBU_STAT_TX_SEQ n) + 1) % 256
    ((s.mapLk n (fun k => { k with sbuOut := true, sbuReps := 0 })).set (F.SBU_STAT_TX_SEQ n) q).sbuOut n p.typ q p.body

/-- An ACK (R290), while the sideband runs: of the outstanding packet. -/
def State.sbuAck (s : State) (n acked : Nat) (crcOk : Bool) : State :=
  if !s.on (F.SBU_CTRL_EN n) || !s.on (F.PD_STAT_MODE n) then s
  else if !crcOk then s.sat (F.SBU_ERR_COUNT n)
  else
  let s1 := s.sbuGood n
  let k := s1.lk n
  if k.sbuOut && s1.get (F.SBU_STAT_TX_SEQ n) == acked then
    (s1.setLk n { k with sbuOut := false, sbuReps := 0, sbuQ := k.sbuQ.drop 1 }).sbuNext n
  else s1

/-- The repeat timer expires (R290): a repeat, or the sideband is down. -/
def State.sbuTimeout (s : State) (n : Nat) : State :=
  let k := s.lk n
  match k.sbuOut, k.sbuQ with
  | true, p :: _ =>
    if s.get (F.SBU_CTRL_RETRY n) ≤ k.sbuReps then
      (let s1 := s.setLk n { k with sbuOut := false, sbuReps := 0, sbuQ := k.sbuQ.drop 1 }
       if s.on (F.SBU_STAT_UP n) then (s1.set (F.SBU_STAT_UP n) 0).raise (dpEv n 3 5) else s1)
    else (s.setLk n { k with sbuReps := k.sbuReps + 1 }).sbuOut n p.typ (s.get (F.SBU_STAT_TX_SEQ n)) p.body
  | _, _ => s

/-! ### Registers of DPORT pages 0 to 3 -/

/-- A plain register as the path's open transaction leaves it (R31): the word it has shadowed, or the one that stands. -/
def State.shadowed (s : State) (p addr w : Nat) : Nat :=
  let cur := s.get (F.TXN_CUR_TAG p)
  let x := s.slot (bits cur 0 3)
  if hasBit cur 8 && decide (x.state = .opened) && x.gen == bits cur 12 4 && x.opener == p then
    ((x.entries.find? (fun e => e.bank == 0 && e.addr == addr)).map (fun e => e.value)).getD w
  else w

/-- The sum of the five grants (R247) once a write of `v` to offset `ro` of page 1 has been taken. -/
def State.grantSum (s : State) (p n ro v : Nat) : Nat :=
  let word := fun (off a b : Nat) => if ro = off then v else s.shadowed p (0x401000 + 0x10000 * n + off) (a + 65536 * b)
  let sum := fun (w : Nat) => w % 512 + bits w 16 9
  sum (word 0x58 (s.get (F.LK_GRANT0_PCIE n)) (s.get (F.LK_GRANT0_ETH n))) + sum (word 0x5c (s.get (F.LK_GRANT1_DISP n)) (s.get (F.LK_GRANT1_SIG n))) +
    word 0x60 (s.get (F.LK_GRANT2_MGMT n)) 0 % 512

/-- Why a write to DPORT pages 0 to 3 is refused (R228, R247, R260, R266, R268, R282). -/
def State.dockChk (s : State) (x : Wr) : Option Reason :=
  let bad := fun (b : Bool) => if b then some Reason.badValue else none
  let n := x.n
  match x.k with
  | .dport0 => bad (x.ro == 0x60 && hasBit x.v 8 && s.looped (48 + n))
  | .dport1 =>
    if x.ro = 0x58 ∨ x.ro = 0x5c ∨ x.ro = 0x60 then bad (decide (1024 < s.grantSum x.p n x.ro x.v))
    else if x.ro = 0x64 then bad (hasBit x.v 0 && (bits x.v 4 2 == 0 || s.retrains n))
    else none
  | .dport2 => bad (x.ro == 0x48 && hasBit x.v 11)
  | .dport3 =>
    if x.ro = 0x4c then
      bad ((hasBit x.v 1 && (x.w / 32 == 5 || s.chState n x.w != 1)) ||
        (hasBit x.v 0 && (x.w / 32 == 5 || s.chState n x.w != 0 || s.lkState n != 2)))
    else none
  | _ => none

/-- DL_CMD.RESTART (R215): in Mbaloth mode bring-up runs again; a running link goes down for it (DESIGN CHOICE, log entry 18). -/
def State.dlRestart (s : State) (n : Nat) : State :=
  if s.on (F.PD_STAT_MODE n) then ((s.sealOut n).lkDown n 10).bringUp n else s

/-- LK_CMD.RETRAIN (R257): the retrain is software's until it ends (R1). -/
def State.retrainCmd (s : State) (n v : Nat) : State :=
  (s.rtStart n (bits v 8 2) (bits v 4 2) 0).mapLk n (fun k => { k with rtSoft := k.rtReq.isSome || k.rtWait.isSome })

/-- What a stored write to DPORT pages 0 to 3 does. -/
def State.dockFx (s s0 : State) (x : Wr) : State :=
  let n := x.n
  match x.k with
  | .dport0 =>
    if x.ro = 0x60 then
      (let s1 := if hasBit x.v 0 then s.slip n 0 else s
       let s2 := if hasBit x.v 1 then s1.slip n 1 else s1
       if hasBit x.v 8 then s2.dlRestart n else s2)
    else s
  | .dport1 =>
    if x.ro = 0x64 then
      (let s1 := if hasBit x.v 0 then s.retrainCmd n x.v else s
       if hasBit x.v 1 then (s1.sealOut n).lkDown n 10 else s1)
    else s
  | .dport2 =>
    if x.ro = 0x48 then
      (let s1 := if s.beRegs n false = s0.beRegs n false then s else s.allotChanged n false
       if s.beRegs n true = s0.beRegs n true then s1 else s1.allotChanged n true)
    else if x.ro = 0x60 ∨ x.ro = 0x64 then s.allotChanged n false
    else if x.ro = 0x80 ∨ x.ro = 0x84 then s.allotChanged n true
    else if x.ro = 0x40 then s.showWait n
    else s
  | .dport3 =>
    if x.ro = 0x4c then
      (let s1 := if hasBit x.v 1 then (s.sendMgmt n 3 (chMsg x.w (s.chGen n x.w) ++ [0])).chClose n x.w else s
       if hasBit x.v 0 then s1.chOpen n x.w else s1)
    else if x.ro = 0x88 then (if hasBit x.v 0 then s else (s.mapLk n (fun k => { k with sbuQ := [], sbuOut := false })).set (F.SBU_STAT_UP n) 0)
    else s
  | _ => s

end Sys2Proof.Machine
end

