-- ==== Sys2Proof/Machine/Derived.lean ====
section
/-! DEFINITION. Registers of chapters 3, 4, 5 and 16 whose value is formed at the read. -/

namespace Sys2Proof.Machine

/-- HT_RESULT (R109). -/
def State.htResult (s : State) : Nat :=
  let c := s.hash (s.get F.HT_SRC_DST_SRC) (s.get F.HT_SRC_DST_DST) (s.get F.HT_SRC_DST_KEY_TYPE)
    (s.get64 F.HT_KEY_LO_KEY F.HT_KEY_HI_KEY)
  c / 65536 * 65536 + 4 * s.phys (c % 2) + c % 2

/-- OVF_FILL: the entries on the time overflow list and the axes' overflow lists (R117, R122). -/
def State.ovfFill (s : State) : Nat :=
  let ovf := fun w => match w with
    | Wheel.overflow _ | Wheel.axisOverflow => true
    | _ => false
  (s.sw.cells.filter (fun c => ovf c.wheel)).length + s.sw.shOvf.length +
    ((List.range 8).filter (fun i => ovf (s.slot i).wheel)).length

/-- AXW_STAT of an axis: the wheel slot that holds POS, and the items on its wheel and overflow list. -/
def State.axwStat (s : State) (a : Nat) : Nat :=
  let slot := Int.toNat (Int.fdiv (s.pos a) (s.get (F.AXW_WIDTH_WIDTH a)) % 1024)
  let cells := (s.axisCells a).filter (fun c => decide (c.wheel = .axisWheel ∨ c.wheel = .axisOverflow))
  let slots := (s.armedSlots 2).filter (fun i => (s.slot i).axis == a && decide ((s.slot i).wheel = .axisWheel ∨ (s.slot i).wheel = .axisOverflow))
  slot * 65536 + min 65535 (cells.length + slots.length)

/-- SH_STAT of a shaper. -/
def State.shStat (s : State) (sh : Nat) : Nat :=
  let lags := fun (f : Fld) => s.lag.any (fun e => e.1 == f.key)
  let pend := lags (F.SH_CTRL_PARENT_EN sh) || lags (F.SH_CTRL_PARENT sh) || lags (F.SH_INTERVAL_TICKS sh) ||
    lags (F.SH_QUANTUM_BYTES sh) || lags (F.SH_BURST_BYTES sh)
  let elig := decide (1 ≤ s.tokens sh) && (match s.parent? sh with | some p => decide (1 ≤ s.tokens p) | none => true)
  2 * b2n pend + b2n elig

/-- The two halves of a signed 64-bit value. -/
def half64 (v : Int) (hi : Bool) : Nat := if hi then ofSigned 64 v / 2 ^ 32 else ofSigned 64 v % 2 ^ 32

/-- The registers of these chapters that are formed at the read. -/
def State.coreRead (s : State) (x : Wr) : Option Nat :=
  match x.k with
  | .time0 =>
    if x.ro = 0x48 then some (s.now % 2 ^ 32) else if x.ro = 0x4c then some (s.now / 2 ^ 32 % 2 ^ 32)
    else if x.ro = 0x50 then some (s.time.clk.ticks % 2 ^ 32) else none
  | .axis =>
    if x.ro = 0x5c then some (half64 (s.pos x.n) false) else if x.ro = 0x60 then some (half64 (s.pos x.n) true) else none
  | .event0 =>
    if x.ro = 0x44 then some s.sig.ev.heldCt else if x.ro = 0x48 then some s.sig.ev.delivCt else none
  | .event1 =>
    let r := s.evRec x.w
    if x.ro = 0x48 then some r.count
    else if x.ro = 0x4c then
      some (65536 * b2n r.fast + 256 * r.target + (match r.phase with | .idle => 0 | .held => 1 | .pending => 2 | .inService => 3))
    else none
  | .event2 => if x.ro = 0x4c then some (tget 0 s.sig.ev.ptrs x.w) else none
  | .target =>
    let g := s.tgt x.n
    if x.ro = 0x48 then some g.qprod
    else if x.ro = 0x50 ∨ x.ro = 0x58 then some 0
    else if x.ro = 0x60 then some (65536 * g.pendF.length + 16384 * b2n (s.present x.n) + g.pendN.length)
    else if x.ro = 0x64 then some g.deliv
    else if x.ro = 0x68 then some g.qdrop
    else none
  | .sched0 =>
    if x.ro = 0x58 then some s.ovfFill else if x.ro = 0x80 then some (s.axwStat x.i) else none
  | .sched1 =>
    if x.ro = 0x80 ∧ x.i < 4 then
      some (2 ^ 31 * s.get (F.QCFG_SH_EN x.w x.i) + 65536 * s.get (F.QCFG_SHAPER x.w x.i) + 4096 * s.get (F.QCFG_EC x.w x.i))
    else if x.ro = 0xc0 then some (s.depth x.w x.i)
    else none
  | .sched2 => if x.ro = 0x58 then some (s.shStat x.w) else none
  | .sched5 => if x.ro = 0x4c then some (s.tolRel x.w) else none
  | .lane32 => s.laneRead x
  | .switch3 => if x.ro = 0x4c then some s.htResult else none
  | _ => none

end Sys2Proof.Machine
end

