-- ==== Sys2Proof/Machine/Bridge.lean ====
section
/-! DEFINITION. The signal bridge above the core (R348-R367, R397, R398): messages into the core, delivery to hosts, routing and
release tags, hooks, responses of devices, polls and read-ahead. -/

namespace Sys2Proof.Machine

/-! ### Into the core (R351, R355, R357) -/

/-- The bytes of a message (R279); a device's own message crosses to port 65 as it came. -/
def sigBytes (m : SigMsg) : List (BitVec 8) :=
  if m.dst = 65 then m.payload
  else leBytes 2 m.word ++ [BitVec.ofNat 8 m.op, BitVec.ofNat 8 (b2n m.late + 2 * b2n m.due.isSome)] ++
    (match m.due with
     | some t => leBytes 8 t
     | none => []) ++ m.payload

/-- A message as a cell (R81, R83). -/
def State.sigCell (s : State) (m : SigMsg) : CellIn :=
  { src := Fin.ofNat 72 m.port, dst := Fin.ofNat 72 m.dst, kind := if m.dst = 70 then .mgmt (BitVec.ofNat 8 m.host) else .tunnel (BitVec.ofNat 16 (1024 + m.tch)),
    queue := 4, payload := sigBytes m, tag := m.tag,
    credits := !(decide (48 ≤ m.dst) && decide (m.dst < 64)) || decide (2 ≤ s.get (availF (m.dst - 48) 4)), som := true, eom := true }

/-- A command completes once its message is in the core or the hold pool (R357, R398). -/
def State.sigDone (s : State) (m : SigMsg) : State :=
  match m.orig with
  | .host h seq => s.complete h seq 0 0
  | .engine e => s.brStat e 0
  | _ => s

/-- Is a tagged message refused for want of room in the hold pool, and not held back (R95)? -/
def State.holdFull (s : State) (m : SigMsg) : Bool :=
  let units := max 1 (((sigBytes m).length + 63) / 64)
  decide (m.tag ≠ .none) && !s.shut && decide (units ≤ s.get F.VAT_FREE_UNITS) && decide (131072 < s.get F.HOLD_USED_UNITS + units)

/-- One message is offered to the core: false when its port is held back (R93). -/
def State.sigOffer (s : State) (m : SigMsg) : Bool × State :=
  let id := s.sw.nextId
  if 48 ≤ m.dst ∧ m.dst < 64 ∧ !s.sigOpen (m.dst - 48) m.tch then (true, s.sigFail m.orig m.src m.ch m.op m.dst .destClosed)
  else
    let s1 := (s.mapBr (fun b => { b with msgs := tset b.msgs id m })).arrive (s.sigCell m)
    if s1.sw.nextId = id then
      (if s.holdFull m then (true, (s1.sigForget id).sigFail m.orig m.src m.ch m.op m.dst .holdFull) else (false, s1.sigForget id))
    else (true, if (s1.sigMsg? id).isSome then s1.sigDone m else s1)

/-- The messages that wait are offered in order; a port held back keeps its own in order. -/
def State.sigRound (s : State) : State :=
  let r := s.br.outQ.foldl (fun (a : State × List Nat × List SigMsg) m =>
    if a.2.1.contains m.port then (a.1, a.2.1, a.2.2 ++ [m])
    else
      let o := a.1.sigOffer m
      if o.1 then (o.2, a.2.1, a.2.2) else (o.2, m.port :: a.2.1, a.2.2 ++ [m])) (s.mapBr (fun b => { b with outQ := [] }), [], [])
  r.1.mapBr (fun b => { b with outQ := r.2.2 ++ b.outQ })

/-- A message, or what is left of it, as it is offered to the core. -/
def coreCell (m : CoreMsg) (credits : Bool) : CellIn :=
  { src := Fin.ofNat 72 m.src, dst := Fin.ofNat 72 m.dst, kind := m.kind, queue := 8, payload := m.left.getD [], tag := .none, credits := credits,
    som := decide (m.left = some m.bytes), eom := true }

/-- Has the output's link credits for a whole cell of 256 bytes (R99)? A tunnel needs two; those of a host's link only the link knows, so they are
free (DESIGN CHOICE, log entry 103). -/
def State.coreCredits (s : State) (m : CoreMsg) : Bool × State :=
  if m.dst < 48 then (s.fresh.1 % 2 == 1, s.fresh.2)
  else (!decide (m.dst < 64) || decide (2 ≤ s.get (availF (m.dst - 48) (flowKeyOf m.kind / 256 % 8))), s)

/-- One message is offered to the core: its cells enter until its port is held back (R81, R93). -/
def State.coreOffer (s : State) (m : CoreMsg) : CoreMsg × State :=
  let c := s.coreCredits m
  let s1 := c.2.arrive (coreCell m c.1)
  let k := s1.sw.nextId - s.sw.nextId
  let l := m.left.getD []
  ({ m with ids := m.ids ++ (List.range k).map (fun i => s.sw.nextId + i),
            left := if k = (cellPieces (l.length / 256 + 1) l).length then none else some (l.drop (256 * k)) }, s1)

/-- Is the way that a message takes still open: its channel, its door or its host's link? -/
def State.coreOpen (s : State) (m : CoreMsg) : Bool :=
  match m.goal with
  | .forward _ => true
  | .port p => s.fwdUp p
  | .tunnel => s.chState (m.dst - 48) (chW (flowKeyOf m.kind / 256 % 8) (flowKeyOf m.kind % 32)) == 1
  | .host _ _ => s.get (F.HP_STAT_LINK m.dst) == 2

/-- The messages that wait are offered in order; a port held back keeps its own in order, and what has nowhere to go is dropped. -/
def State.coreRound (s : State) : State :=
  let r := s.sw.msgs.foldl (fun (a : State × List Nat × List CoreMsg) m =>
    if m.left.isNone then (a.1, a.2.1, a.2.2 ++ [m])
    else if !a.1.coreOpen m then a
    else if a.2.1.contains m.src then (a.1, a.2.1, a.2.2 ++ [m])
    else
      let o := a.1.coreOffer m
      (o.2, if o.1.left.isNone then a.2.1 else m.src :: a.2.1, a.2.2 ++ [o.1])) (s, [], [])
  r.1.setMsgs r.2.2

/-- What waits goes into the core as far as it takes it, with what failures send in turn; the credits of what it took are returned (R249). -/
def State.sigDrain (s : State) : State :=
  let s1 := if s.br.outQ.isEmpty then s
    else
      let s1 := s.sigRound
      if s1.br.outQ.isEmpty then s1 else if s1.br.outQ.length < s.br.outQ.length then s1.sigRound else s1
  if s.br.outQ.isEmpty && s1.sw.msgs.all (fun m => m.left.isNone) then s1 else s1.coreRound.payCredits

/-! ### Delivery to hosts (R356) -/

/-- The host address of the buffer slot of the next record. -/
def State.hbuf (s : State) (h : Nat) : Nat :=
  256 * s.get (F.HBUF_LO_ADDR h) + 2 ^ 32 * s.get (F.HBUF_HI_ADDR h) + 256 * ((s.mail h).written % 2 ^ (s.mail h).evtLog2)

/-- A message reaches a host's mailbox: SIG_RECEIVED, and its payload in the record's slot unless the record is dropped. -/
def State.sigDeliver (s : State) (m : SigMsg) (late : Bool) : State :=
  let en := s.on (F.HBUF_LO_EN m.host)
  let a := if en then s.hbuf m.host else 0
  let r : Rec := { seq := 0, typ := 0x40, source := m.src, status := m.payload.length, addr := a, data := leNat (m.payload.take 8),
                   ref := m.word + 65536 * m.op + 2 ^ 24 * b2n (late || m.late) + 2 ^ 25 * b2n m.due.isSome +
                     2 ^ 26 * b2n (!en && decide (8 < m.payload.length)) }
  let s1 := if en && s.ringRoom m.host then s.emit (.hostMem m.host a m.payload) else s
  s1.postRec m.host r

/-! ### Read-ahead (R363, R364) -/

/-- The lowest enabled region of a target whose bounds hold an address. -/
def State.raRegion (s : State) (t addr : Nat) : Option Nat :=
  (List.range 32).find? (fun r => s.on (F.RG_CTRL_EN r) && s.get (F.RG_CTRL_PORT r) == t / 32 && s.get (F.RG_CTRL_TCH r) == t % 32 &&
    decide (s.get (F.RG_LO_ADDR r) ≤ addr) && decide (addr < s.get (F.RG_HI_ADDR r)))

/-- The buffer slot that a new read-ahead takes: the lowest free one, or that of the buffer used longest ago. -/
def State.raSlot (s : State) : Nat × State :=
  match (List.range 32).find? (fun i => !s.br.bufs.any (fun e => e.1 == i)) with
  | some i => (i, s)
  | none =>
    let m := s.br.bufs.foldl (fun (a : Nat × Nat) e => if e.2.used < a.2 then (e.1, e.2.used) else a) (0, s.br.uses + 1)
    (m.1, s.raDrop m.1 4)

/-- The surplus of a read is kept. -/
def State.raKeep (s : State) (t addr host : Nat) (b : List (BitVec 8)) : State :=
  let x := s.raSlot
  x.2.mapBr (fun r => { r with
    uses := r.uses + 1
    bufs := tset r.bufs x.1 { tgt := t, addr := addr, data := b, served := b.map (fun _ => false), host := host, born := x.2.now, used := r.uses } })

/-- The buffer that holds a range wholly. -/
def State.raFind (s : State) (t addr len : Nat) : Option (Nat × RaBuf) :=
  s.br.bufs.find? (fun e => e.2.tgt == t && decide (e.2.addr ≤ addr) && decide (addr + len ≤ e.2.addr + e.2.data.length))

/-- Bytes are served from a buffer. -/
def State.raServe (s : State) (i : Nat) (b : RaBuf) (addr len : Nat) : State :=
  let k := addr - b.addr
  let sv := b.served.zipIdx.map (fun x => x.1 || (decide (k ≤ x.2) && decide (x.2 < k + len)))
  s.mapBr (fun r => { r with uses := r.uses + 1, bufs := tset r.bufs i { b with served := sv, used := r.uses } })

/-! ### Polls (R361, R362) -/

def State.pollSt (s : State) (e : Nat) : PollSt := tget {} s.br.polls e

/-- A poll's response: PL_VALUE, and on a change the mirror, the host and EV3600. -/
def State.pollValue (s : State) (e v : Nat) : State :=
  let p := s.pollSt e
  let mask := s.get (F.PL_MASK_MASK e)
  let n := (p.changes + 1) % 2 ^ 32
  let s1 := s.sets [(F.PL_VALUE_VALUE e, v), (F.PL_STAT_BUSY e, 0)]
  let put (s : State) (c : Nat) : State := s.mapBr (fun b => { b with polls := tset b.polls e { seen := true, last := v, changes := c } })
  if p.seen ∧ Nat.land v mask = Nat.land p.last mask then put s1 p.changes
  else
    let s2 := put s1 n
    let s3 := if s2.on (F.PL_CTRL_MIRROR_EN e) then
        s2.present? (.write 65 33 0 (s2.get64 (F.PL_MIRROR_LO_ADDR e) (F.PL_MIRROR_HI_ADDR e)) (leBytes 4 v ++ leBytes 4 n ++ leBytes 8 s2.now))
      else s2
    let s4 := if s3.on (F.PL_CTRL_HOST_EN e) then
        s3.sigPush { dst := 70, host := s3.get (F.PL_CTRL_HOST e), word := e, op := 0x12, payload := leBytes (s3.get (F.PL_CTRL_LEN e)) v }
      else s3
    s4.raise 3600

/-- A new operation's number. -/
def State.opNum (s : State) : Nat × State := (s.br.ops, s.mapBr (fun b => { b with ops := b.ops + 1 }))

/-- Does a poll's target sleep, so that the sideband carries it (R361)? -/
def State.pollSbu (s : State) (e n : Nat) : Bool :=
  (s.get (F.LSTATE_STATE (48 + n)) == 2 || s.get (F.LSTATE_STATE (48 + n)) == 3) && s.on (F.PL_CTRL_SBU_OK e) && s.on (F.SBU_STAT_UP n)

/-- A poll's period has come (R361). -/
def State.pollDue (s : State) (e : Nat) : State :=
  let n := s.get (F.PL_CTRL_PORT e)
  let t := 32 * n + s.get (F.PL_CTRL_TCH e)
  let x := s.sigTgt t
  if !s.on (F.PL_CTRL_EN e) then s
  else if s.on (F.PL_STAT_BUSY e) || decide (x.sem ≠ .free) then s.sat (F.PL_STAT_SKIP e)
  else
    let k := s.opNum
    let o : RegOp := { num := k.1, write := false, addr := s.get (F.PL_ADDR_ADDR e), len := s.get (F.PL_CTRL_LEN e), why := .poll e }
    if !s.on F.BR_CTRL_EN then k.2.opReport o .disabled
    else
      let s1 := k.2.set (F.PL_STAT_BUSY e) 1
      if s.pollSbu e n && decide (x.out.length < 16) then
        let o' := { o with seq := x.next, sbu := true }
        ((s1.set (F.PL_STAT_VIA_SBU e) 1).setSigTgt t { x with next := (x.next + 1) % 65536, out := x.out ++ [o'] }).sbuSend n 2
          ([0, 0, 2, 0] ++ opBytes o')
      else ((s1.set (F.PL_STAT_VIA_SBU e) 0).mapSigTgt t (fun x => { x with wait := x.wait ++ [.op o] })).sigGo t

/-! ### Responses (R358, R359, R363) -/

/-- An EDGE_RMW goes on with its write (R359). -/
def State.rmwWrite (s : State) (t : Nat) (o : RegOp) (h seq and_ xor_ : Nat) (d : List (BitVec 8)) : State :=
  let v := leNat d
  let new := Nat.xor (Nat.land v and_) xor_
  (s.opEnd t o.num true).opSend t { o with write := true, data := leBytes o.len new, why := .rmwW h seq v }

/-- A good response ends its operation. -/
def State.opGood (s : State) (t : Nat) (o : RegOp) (d : List (BitVec 8)) : State :=
  match o.why with
  | .read h seq len haddr =>
    let s1 := (s.emit (.hostMem h haddr (d.take len))).complete h seq 0 0
    let s2 := if o.keep && decide (len < d.length) then s1.raKeep t (o.addr + len) h (d.drop len) else s1
    s2.opEnd t o.num false
  | .write h seq => (s.complete h seq 0 0).opEnd t o.num false
  | .rmw h seq and_ xor_ => s.rmwWrite t o h seq and_ xor_ d
  | .rmwW h seq old => (s.complete h seq 0 old).opEnd t o.num false
  | .poll e => (s.pollValue e (leNat d)).opEnd t o.num false
  | .gone => s.opEnd t o.num false

/-- A REG_ACK or REG_DATA of a dock port (R358): of a T-SIG channel, or over the sideband for a poll sent there. -/
def State.sigReply (s : State) (n : Nat) (tch : Option Nat) (ack : Bool) (seq status : Nat) (d : List (BitVec 8)) : State :=
  let ts := match tch with
    | some i => [32 * n + i]
    | none => (List.range 32).map (fun i => 32 * n + i)
  let hit := ts.findSome? (fun t =>
    ((s.sigTgt t).out.find? (fun o => o.seq == seq && o.write == ack && o.sbu == tch.isNone)).map (fun o => (t, o)))
  match hit with
  | none => (s.sat F.BR_LATE_RSP_COUNT).raise 3587
  | some (t, o) =>
    if status ≠ 0 then s.opFail t o.num .device
    else if !ack && decide (d.length ≠ o.len) then s.opFail t o.num .badMessage
    else s.opGood t o d

/-- The payload of a REG_ACK or REG_DATA (R350). -/
def State.sigReplyBytes (s : State) (n : Nat) (tch : Option Nat) (ack : Bool) (b : List (BitVec 8)) : State :=
  let g := fun i => (b.getD i 0).toNat
  s.sigReply n tch ack (g 0 + 256 * g 1) (g 2) (if ack then [] else (b.drop 8).take (g 3))

/-! ### Routing (R349-R355) -/

/-- The release tag of a routed message (R354). -/
def State.sigTag (s : State) (m : SigIn) (e : Nat) : Tag :=
  let param := s.get (F.RT_W1_PARAM e)
  let a := s.get (F.RT_W0_AXIS e)
  let down := s.on (F.RT_W0_DIR e)
  if m.tag ≠ .none then m.tag
  else match s.get (F.RT_W0_TAG_MODE e), m.due with
    | 1, _ => .time (m.tin + param).toNat
    | 2, _ =>
      let p := s.posAt a m.tin.toNat
      .axis (Fin.ofNat 8 a) (if down then p - param * 65536 else p + param * 65536) down
    | 3, some t => .time t
    | _, _ => .none

/-- The DUE bytes that go out (R351): of a time tag its time, of an axis tag what its release fills in. -/
def dueOf (tag : Tag) (due : Option Nat) : Option Nat :=
  match tag with
  | .time t => some t
  | .axis _ _ _ => some 0
  | .none => due

/-- A message is routed by its entry (R351-R355). -/
def State.sigRoute (s : State) (m : SigIn) (e : Nat) : State :=
  let tag := s.sigTag m e
  let due := dueOf tag m.due
  let dst := s.get (F.RT_W0_DST e)
  let dock := s.on (F.RT_W0_DST_KIND e)
  if 256 < 4 + 8 * b2n due.isSome + m.payload.length then s.sigFail m.orig m.src m.ch m.op (if dock then 48 + dst else 70) .badMessage
  else (s.sat F.BR_MSG_COUNT_COUNT).sigPush
    { src := m.src, dst := if dock then 48 + dst else 70, tch := s.get (F.RT_W2_DST_TCH e), host := dst, orig := m.orig, ch := m.ch,
      word := 4096 * s.get (F.RT_W0_GEN e) + s.get (F.RT_W0_NEW_CH e), op := m.op, late := m.late, due := due, payload := m.payload, tag := tag }

/-- The entries of a lane's hook ring, and whether it is full (R397): the entry before CONS stays free. -/
def State.hookFull (s : State) (e : Nat) : Bool :=
  let size := 2 ^ s.get (F.ENG_HOOK_LOG2 e)
  (s.get (F.ENG_HOOK_PROD_INDEX e) + 1) % size == s.get (F.ENG_HOOK_CONS_INDEX e) % size

/-- Bytes as 32-bit words. -/
def wordsOf : List (BitVec 8) → List Nat
  | a :: b :: c :: d :: l => leNat [a, b, c, d] :: wordsOf l
  | [] => []
  | l => [leNat l]

/-- A message is written into a hook ring (R397). -/
def State.hookPush (s : State) (e : Nat) (m : SigIn) (entry : Nat) : State :=
  let msg := sigBytes { dst := 0, word := m.ch, op := m.op, late := m.late, due := m.due, payload := m.payload }
  let b := leBytes 2 m.src ++ leBytes 2 msg.length ++ leBytes 4 entry ++ leBytes 8 m.tin.toNat ++ padTo 304 msg
  let i := s.get (F.ENG_HOOK_PROD_INDEX e)
  let s1 := (s.storeWords e (s.get (F.ENG_HOOK_BASE e) + 320 * i) (wordsOf b)).set (F.ENG_HOOK_PROD_INDEX e) ((i + 1) % 2 ^ s.get (F.ENG_HOOK_LOG2 e))
  let s2 := s1.emit (.engReq e 0x82 i)
  match m.orig with
  | .host h seq => s2.complete h seq 0 0
  | _ => s2

/-- A hooked message goes to its engine (R397): none while the ring is full. -/
def State.sigHook (s : State) (m : SigIn) (entry : Nat) : Option State :=
  let e := 19 + m.src % 4
  if !s.engRuns e then some (s.sigFail m.orig m.src m.ch m.op 65 .disabled)
  else if s.hookFull e then none
  else some (s.hookPush e m entry)

/-- The source number of a message that is routed (R352). -/
def sigSource (o : SigFrom) : Nat :=
  match o with
  | .host h _ => h
  | .dock n _ => 32 + n
  | _ => 48

def isDock (o : SigFrom) : Bool :=
  match o with
  | .dock _ _ => true
  | _ => false

/-- A message at the head of its lane (R349-R355): none while it waits for a hook ring, then with its entry noted. -/
def State.sigRun (s : State) (m : SigIn) : Option State :=
  let fail (r : SigReason) : Option State := some (s.sigFail m.orig m.src m.ch m.op 65 r)
  let i := m.ch % 4096
  match m.hook with
  | some e => s.sigHook m e
  | none =>
    if !s.on F.BR_CTRL_EN then fail .disabled
    else if i = 0 ∧ isDock m.orig then
      match m.orig with
      | .dock n tch =>
        if m.ch = 0 ∧ (m.op = 0x81 ∨ m.op = 0x82) ∧ m.due = none then some (s.sigReplyBytes n (some tch) (m.op == 0x81) m.payload) else fail .badMessage
      | _ => fail .badMessage
    else if m.op ≠ 0x10 ∧ ¬ (m.op = 0x11 ∧ isDock m.orig) then fail .badMessage
    else
      let src := sigSource m.orig
      let e := s.get (F.SEG_BASE src) + i
      if s.get (F.SEG_COUNT src) ≤ i ∨ s.get (F.RT_W0_VALID e) = 0 then fail .noRoute
      else
        let s1 := s.sat (F.RT_HITS_COUNT e)
        if s.get (F.RT_W0_GEN e) ≠ m.ch / 4096 then
          (let s2 := s1.stale 2
           some (if isDock m.orig then s2 else s2.sigFail m.orig m.src m.ch m.op 65 .stale))
        else if s.on (F.RT_W0_HOOK e) then s1.sigHook m e
        else some (s1.sigRoute m e)

/-! ### Lanes (R348, R397) -/

def State.brLane (s : State) (k : Nat) : List SigIn := tget [] s.br.lanes k

def State.setBrLane (s : State) (k : Nat) (l : List SigIn) : State := s.mapBr (fun b => { b with lanes := tput [] b.lanes k l })

/-- The messages of a lane go on until one waits for its hook ring. -/
def State.lanePump : Nat → State → Nat → State
  | 0, s, _ => s
  | n + 1, s, k =>
    match s.brLane k with
    | [] => s
    | m :: l =>
      match s.sigRun m with
      | some s1 => (s1.setBrLane k l).lanePump n k
      | none => if m.hook.isSome then s
        else (s.sat (F.RT_HITS_COUNT (s.get (F.SEG_BASE (sigSource m.orig)) + m.ch % 4096))).setBrLane k
          ({ m with hook := some (s.get (F.SEG_BASE (sigSource m.orig)) + m.ch % 4096) } :: l)

/-- A lane goes on. -/
def State.laneGo (s : State) (k : Nat) : State := (s.lanePump ((s.brLane k).length + 1) k).sigDrain

/-- A message enters the bridge (R348). -/
def State.sigEnter (s : State) (m : SigIn) : State :=
  let k := m.src % 4
  (s.setBrLane k (s.brLane k ++ [m])).laneGo k

/-- A T-SIG message of a dock device, as bytes, at the bridge (R279); `at_` is the time it came in. -/
def State.sigIn (s : State) (n tch : Nat) (b : List (BitVec 8)) (at_ : Nat) : State :=
  let g := fun i => (b.getD i 0).toNat
  let due := hasBit (g 3) 1
  let tin := Int.fdiv ((at_ : Int) * 1000 - s.getI (F.ASYM_IN_PS (48 + n))) 1000
  if b.length < 4 ∨ (due ∧ b.length < 12) then (s.sigFail (.dock n tch) (48 + n) (g 0 + 256 * g 1) (g 2) 65 .badMessage).sigDrain
  else s.sigEnter { src := 48 + n, orig := .dock n tch, ch := g 0 + 256 * g 1, op := g 2, late := hasBit (g 3) 0,
                    due := if due then some (leNat ((b.drop 4).take 8)) else none, payload := b.drop (if due then 12 else 4), tin := tin }

/-- A T-SIG message over the sideband (R291, R361): the response of a poll sent there. -/
def State.sigSbu (s : State) (n : Nat) (b : List (BitVec 8)) : State :=
  let g := fun i => (b.getD i 0).toNat
  if g 0 + 256 * g 1 = 0 ∧ g 2 = 0x82 ∧ 8 ≤ b.length then (s.sigReplyBytes n none false (b.drop 4)).sigDrain
  else s.brCount (48 + n) .badMessage

/-- A cell of the bridge has reached its output (R348, R356). -/
def State.sigArrived (s : State) (c : Cell) : State :=
  match s.sigMsg? c.id with
  | none => s
  | some m =>
    if m.dst = 70 then (s.sigForget c.id).sigDeliver m c.late
    else if m.dst = 65 then
      (match m.orig with
       | .dock n tch => (s.sigForget c.id).sigIn n tch c.payload c.arrival
       | _ => s.sigForget c.id)
    else s

/-- The messages of a lane that wait for an engine fail (R397, R398's table). -/
def State.hookFail (s : State) (k : Nat) (r : SigReason) : State :=
  match s.brLane k with
  | m :: l =>
    if m.hook.isSome then ((s.setBrLane k l).sigFail m.orig m.src m.ch m.op 65 r).laneGo k else s
  | [] => s

/-! ### A bridge engine's command (R398) -/

/-- A byte of an engine's data memory. -/
def State.engByte (s : State) (e off : Nat) : Nat := s.engWord e 1 (off % 2 ^ 18 / 4 * 4) / 256 ^ (off % 4) % 256

/-- Bytes of an engine's data memory. -/
def State.engBytes (s : State) (e off n : Nat) : List (BitVec 8) := (List.range n).map (fun i => BitVec.ofNat 8 (s.engByte e (off + i)))

/-- May an engine's message carry an OP (R350)? From the hub: to a host SIGNAL or POLL, to a device SIGNAL, or one of the register channel
on its index 0. -/
def engOp (dock : Bool) (word op : Nat) : Bool :=
  if dock then (if word % 4096 = 0 then op == 1 || op == 2 || op == 0x7F else op == 0x10) else op == 0x10 || op == 0x12

/-- ENG_BRCMD is written (R398): the block is read, and its message sent without a lookup. -/
def State.engSend (s : State) (e off : Nat) : State :=
  let b := s.engBytes e off 32
  let g := fun i => (b.getD i 0).toNat
  let dock := g 0 == 1
  let word := g 4 + 256 * g 5
  let v := leNat ((b.drop 8).take 8)
  let len := g 16 + 256 * g 17
  let kind := g 6 % 4
  let tag : Tag := if kind = 1 then .time v else if kind = 2 then .axis (Fin.ofNat 8 (g 6 / 4)) (toSigned 64 v) (hasBit (g 6) 5) else .none
  let dst := if dock then 48 + g 1 else 70
  let s1 := s.sets [(F.ENG_BRSTAT_DONE e, 0), (F.ENG_BRSTAT_REASON e, 0)]
  if !s.on F.BR_CTRL_EN then (s1.sigFail (.engine e) 66 word (g 3) dst .disabled).sigDrain
  else if 2 ≤ g 0 ∨ (if dock then 16 else 32) ≤ g 1 ∨ 32 ≤ g 2 ∨ 244 < len ∨ kind = 3 ∨ !engOp dock word (g 3) then
    (s1.sigFail (.engine e) 66 word (g 3) dst .badMessage).sigDrain
  else
    (s1.sigPush { port := 66, src := 66, dst := dst, tch := g 2, host := g 1, orig := .engine e, ch := word, word := word, op := g 3, due := dueOf tag none,
                  payload := s.engBytes e (leNat ((b.drop 20).take 4)) len, tag := tag }).sigDrain

/-- Is an engine's bridge command still under way? -/
def State.engBusy (s : State) (e : Nat) : Bool := s.br.outQ.any (fun m => m.orig == .engine e)

/-! ### The BRIDGE registers (R352, R353, R364) -/

/-- Why a write of a BRIDGE register is refused. -/
def State.brChk (s : State) (x : Wr) : Option Reason :=
  if x.k = .bridge1 ∧ x.ro = 0x40 ∧ 65536 < bits x.v 0 16 + bits x.v 16 13 then some .badValue
  else if x.k = .bridge2 ∧ x.ro = 0x44 ∧ ((hasBit x.v 19 ∧ 16 ≤ bits x.v 14 5) ∨
      (hasBit x.v 31 ∧ s.get (F.RT_W0_VALID x.w) = 0 ∧ s.br.quar.contains x.w)) then some .badValue
  else none

/-- What a stored write of a BRIDGE register does; `s0` is the state before. -/
def State.brFx (s s0 : State) (x : Wr) : State :=
  if x.k = .bridge2 ∧ x.ro = 0x44 then
    let was := s0.on (F.RT_W0_VALID x.w)
    let is := s.on (F.RT_W0_VALID x.w)
    if is && !was then s.set (F.RT_W0_GEN x.w) (s.get (F.RT_W0_GEN x.w) + 1)
    else if was && !is then s.mapBr (fun b => { b with quar := x.w :: b.quar.erase x.w })
    else s
  else if x.k = .bridge3 ∧ x.ro = 0x44 ∧ s.on (F.PL_CTRL_EN x.w) ∧ !s0.on (F.PL_CTRL_EN x.w) then
    s.mapBr (fun b => { b with polls := tset b.polls x.w {} })
  else if x.k = .bridge5 ∧ x.ro = 0x44 ∧ hasBit x.v 0 then s.set F.DPF_STAT_FILL 0
  else s

end Sys2Proof.Machine
end

