-- ==== Sys2Proof/Machine/Engine.lean ====
section
/-! DEFINITION. The engines (R382-R399): start, stop and fault, adoption of dock ports, the lockstep pair and its take-over, requests,
entries and traps, and the memory window. -/

namespace Sys2Proof.Machine

def State.setEngs (s : State) (x : EngSt) : State := { s with engs := x }

/-- The engine that a lockstep pair's other engine mirrors (R391, R451). -/
def State.mirrors (s : State) (e : Nat) : Bool :=
  (s.engs.pair == 0 && e == 1) || ((s.engs.pair == 1 || s.engs.pair == 2) && e == 2 && s.get F.LOCK_STAT_MGMT == 0)

/-- The engine whose core and memories an engine uses: the lead's for its mirror. -/
def State.engIx (s : State) (e : Nat) : Nat := if s.mirrors e then s.pairLead else e

def State.engCore (s : State) (e : Nat) : EngCore := tget {} s.engs.cores (s.engIx e)

def State.setCore (s : State) (e : Nat) (c : EngCore) : State :=
  s.setEngs { s.engs with cores := tset s.engs.cores (s.engIx e) c }

def State.mapCore (s : State) (e : Nat) (f : EngCore → EngCore) : State := s.setCore e (f (s.engCore e))

/-- The event target of an engine (R371, R382): 32 for the one that carries management, none for one that mirrors it. -/
def State.engTarget (s : State) (e : Nat) : Option Nat :=
  if s.mirrors e then none
  else if e = s.tgtEngine 32 then some 32
  else if e = 2 then some 34
  else if e < 2 then none
  else some (32 + e)

/-- An engine's presence as a target has changed (R390). -/
def State.engRetarget (s : State) (e : Nat) : State :=
  match s.engTarget e with
  | some t => s.retarget t
  | none => s

/-- The path by which an engine reaches the management space (R382). -/
def State.engPath (s : State) (e : Nat) : Path :=
  if e = s.tgtEngine 32 ∨ s.mirrors e then .mgmt else .engine (Fin.ofNat 24 e)

/-! ### Ports served (R394, R395) -/

/-- The engine that serves a dock port. -/
def State.portEngine (s : State) (n : Nat) : Nat := s.seqOwner (64 + n)

/-- The dock ports an engine serves, its own first. -/
def State.portsOf (s : State) (e : Nat) : List Nat :=
  let l := (List.range 16).filter (fun n => s.portEngine n == e)
  if l.contains (e - 3) then (e - 3) :: l.erase (e - 3) else l

/-- SERVE of a port is written by the hub. -/
def State.setServe (s : State) (n e : Nat) : State :=
  let f := if n < 8 then F.SERVE_LO_ENG else F.SERVE_HI_ENG
  let k := n % 8
  s.set f (s.get f - bits (s.get f) (4 * k) 4 * 16 ^ k + (e - 3) * 16 ^ k)

/-- In every target set, one engine's bit becomes another's (R394). -/
def State.swapTarget (s : State) (a b : Nat) : State :=
  (List.range 64).foldl (fun s w =>
    let m := s.get (F.SET_HI_TARGETS w)
    if hasBit m a then s.set (F.SET_HI_TARGETS w) (putBit (putBit m a false) b true) else s) s

/-- A port of a faulted engine is adopted by the first running engine in order that serves one port only, or orphaned. -/
def State.adopt (s : State) (e n : Nat) : State :=
  match ((List.range 15).map (fun k => 3 + (n + k + 1) % 16)).find? (fun x => s.engRuns x && (s.portsOf x).length == 1) with
  | some x => ((s.setServe n x).swapTarget e x).raise 3843
  | none => (s.set F.ORPHAN_PORTS (putBit (s.get F.ORPHAN_PORTS) n true)).raise 3844

/-! ### Stops and faults (R389, R390, R393) -/

/-- The messages that wait for a bridge engine fail (R398's table). -/
def State.hookDrop (s : State) (e : Nat) : State := if 19 ≤ e ∧ e < 23 then s.hookFail (e - 19) .disabled else s

/-- An engine that has stopped has reset its path (R40): the management path is the pair's, and EN02's once it has taken over. -/
def State.engGone (s : State) (e : Nat) : State :=
  if s.engPath e = .mgmt then s.pathLost 0x20 else if e < 2 then s else s.pathLost (0x20 + e)

/-- An engine stops with a state. -/
def State.engStop (s : State) (e st : Nat) : State := (((s.set (F.ENG_STAT_STATE e) st).engRetarget e).hookDrop e).engGone e

/-- An engine starts at an instruction address, its registers and CSRs at 0; one that ran is reset by it (R40). -/
def State.engStart (s : State) (e pc : Nat) : State :=
  (((if s.engRuns e then s.engGone e else s).setCore e { pc := pc }).sets [(F.ENG_STAT_STATE e, 2), (F.ENG_STAT_CAUSE e, 0), (F.ENG_PC_PC e, pc / 4)]).engRetarget e

/-- Management service ends until the next start (R393). -/
def State.mgmtLost (s : State) : State := ((s.set F.LOCK_STAT_MGMT 2).retarget 32).raise 3842

/-- A fault as the hub records it: halted, counted, reported, in the soft repair map. -/
def State.engHalt (s : State) (e cause : Nat) : State :=
  (((s.sets [(F.ENG_STAT_STATE e, 5), (F.ENG_STAT_CAUSE e, cause)]).sat (F.ENG_FAULT_COUNT_COUNT e)).raise (3872 + e)).softRecord 10 e 0

/-- The engines that run one core: the pair, or one. -/
def State.engBoth (s : State) (e : Nat) : List Nat := (List.range 3).filter (fun x => s.mirrors x && e == s.pairLead) ++ [e]

/-- An engine faults (R389, R390, R393, R394). A fault of the core that the pair runs is one of both engines. -/
def State.engFault (s : State) (e cause : Nat) : State :=
  let s1 := (s.engBoth e).foldl (fun s x => s.engHalt x cause) s
  let s2 := ((s1.engRetarget e).hookDrop e).engGone e
  let s3 := if 3 ≤ e ∧ e < 19 then (s.portsOf e).foldl (fun s n => s.adopt e n) s2 else s2
  if e = 2 then (if s.get F.LOCK_STAT_MGMT = 1 then s3.mgmtLost else s3.set F.LOCK_STAT_EN02_READY 0) else s3

/-! ### The lockstep pair (R391, R392) -/

/-- Does the pair run with EN02 standing by? -/
def State.paired (s : State) : Bool := s.get F.LOCK_STAT_MGMT == 0 && s.engs.pair == 0

/-- A checkpoint (R391): the journal goes to EN02's data memory, and the pair's core is kept for it. -/
def State.ckptNow (s : State) : State :=
  if s.paired && s.engRuns 2 then
    let s1 := s.engs.journal.foldl (fun s w => s.setEngWord 2 1 w.1 w.2) s
    ((s1.setEngs { s1.engs with journal := [], ckpt := some (s.engCore 0) }).set F.LOCK_STAT_EN02_READY 1).sat F.CKPT_COUNT_COUNT
  else s

/-- The engines of the pair. -/
def State.pairEngines (s : State) : List Nat := if s.engs.pair = 1 then [1, 2] else if s.engs.pair = 2 then [0, 2] else [0, 1]

/-- A mismatch of the pair (R392, R393). The time of the take-over is open below 20 µs. -/
def State.mismatch (s : State) (halted : List Nat) : State :=
  let s1 := ((s.pairEngines.filter (fun e => !halted.contains e)).foldl (fun s e => s.engHalt e 4) s).raise 3840
  let s2 := s1.setEngs { s1.engs with journal := [] }
  match s2.engs.ckpt with
  | some c =>
    if s.paired && s.engRuns 2 then
      let t := s2.fresh
      let s3 := ((t.2.sets [(F.LOCK_STAT_MGMT, 1), (F.LOCK_STAT_EN02_READY, 0), (F.TAKEOVER_NS_NS, t.1 % 20001), (F.ENG_STAT_STATE 2, 2)]).setCore 2 c)
      (((s3.setEngs { s3.engs with ckpt := none }).retarget 34).retarget 32).raise 3841
    else s2.mgmtLost
  | none => s2.mgmtLost

/-! ### Requests and entries (R388) -/

/-- The lowest macro whose ENGINE step waits on an engine and has not been taken (R212, R387). -/
def State.seqPending (s : State) (e : Nat) : Option Nat :=
  (List.range 80).find? (fun m => s.on (F.SEQ_STAT_WAIT_ENGINE m) && !(s.macro m).taken && s.seqOwner m == e)

/-- Is an engine's fast request line raised? -/
def State.fastLine (s : State) (e : Nat) : Bool :=
  match s.engTarget e with
  | some t => !(s.tgt t).pendF.isEmpty
  | none => false

/-- Is an engine's normal request line raised? -/
def State.normalLine (s : State) (e : Nat) : Bool :=
  (match s.engTarget e with
   | some t => !(s.tgt t).pendN.isEmpty || decide ((s.tgt t).qprod ≠ s.get (F.TGT_QCONS_INDEX t) % 2 ^ s.get (F.TGT_QCFG_LOG2 t))
   | none => false) ||
  (s.seqPending e).isSome ||
  (decide (19 ≤ e) && decide (e < 23) && (decide (s.get (F.ENG_HOOK_PROD_INDEX e) ≠ s.get (F.ENG_HOOK_CONS_INDEX e)) || s.engs.brDone.contains e))

/-- STATUS bits: NIE, IN_NORMAL, IN_FAST, TRAP. -/
def EngCore.nie (c : EngCore) : Bool := hasBit c.status 0
def EngCore.inNormal (c : EngCore) : Bool := hasBit c.status 1
def EngCore.inFast (c : EngCore) : Bool := hasBit c.status 2
def EngCore.trap (c : EngCore) : Bool := hasBit c.status 3

/-- May a fast request enter? -/
def State.fastOk (s : State) (e : Nat) : Bool := s.fastLine e && !(s.engCore e).inFast

/-- May a normal request enter? -/
def State.normalOk (s : State) (e : Nat) : Bool :=
  let c := s.engCore e
  s.normalLine e && c.nie && !c.inNormal && !c.inFast

/-- A fast entry. -/
def State.fastEntry (s : State) (e : Nat) : State :=
  (s.mapCore e (fun c => { c with fpc := c.pc, status := putBit c.status 2 true, was := c.alt, alt := true, pc := c.fvec })).set (F.ENG_STAT_STATE e) 2

/-- A normal entry: the completion of a bridge command has been told. -/
def State.normalEntry (s : State) (e : Nat) : State :=
  let s1 := (s.mapCore e (fun c => { c with npc := c.pc, status := putBit c.status 1 true, cause := 0, alt := false, pc := c.nvec })).set
    (F.ENG_STAT_STATE e) 2
  s1.setEngs { s1.engs with brDone := s1.engs.brDone.erase e }

/-- A trap (R389): a double fault within a trap or a fast handler. -/
def State.engTrap (s : State) (e cause imm : Nat) : State :=
  let c := s.engCore e
  if c.trap || c.inFast then s.engFault e 1
  else s.setCore e { c with npc := c.pc, status := putBit (putBit c.status 1 true) 3 true, cause := cause + 256 * imm, alt := false, pc := c.nvec,
                            cycles := c.cycles + 1 }

/-! ### Registers and addresses (R383, R386) -/

/-- A general register of the bank in use; G0 reads 0. -/
def EngCore.reg (c : EngCore) (r : Nat) : Nat := if r = 0 then 0 else tget 0 c.regs (16 * b2n c.alt + r) % 2 ^ 32

/-- A general register is written; a write of G0 is ignored. -/
def EngCore.setReg (c : EngCore) (r v : Nat) : EngCore :=
  if r = 0 then c else { c with regs := tput 0 c.regs (16 * b2n c.alt + r) (v % 2 ^ 32) }

/-- Where an engine's byte address lies. -/
inductive EngLoc where
  | imem (off : Nat)
  | dmem (off : Nat)
  | ctx (port off : Nat)
  | mgmt (off : Nat)
  | none
deriving DecidableEq, Repr

/-- The port whose context store lies in a slot of an engine (R385, R394). -/
def State.ctxPort (s : State) (e slot : Nat) : Option Nat :=
  if e < 3 ∨ 19 ≤ e then none
  else if slot = 0 then (if s.portEngine (e - 3) = e then some (e - 3) else none)
  else ((s.portsOf e).filter (fun n => n != e - 3)).head?

/-- The address map (R383). -/
def State.engMap (s : State) (e addr : Nat) : EngLoc :=
  if addr < 0x10000 then .imem addr
  else if addr < 0x40000 then .dmem (addr - 0x10000)
  else if addr < 0x48000 then
    (match s.ctxPort e ((addr - 0x40000) / 0x4000) with
     | some n => .ctx n (addr % 0x4000)
     | none => .none)
  else if 0x10000000 ≤ addr ∧ addr < 0x14000000 then .mgmt (addr - 0x10000000)
  else .none

/-- A word of a port context store (R385). -/
def State.ctxWord (s : State) (n off : Nat) : Nat := s.engWord (24 + n) 0 off

/-- PORTS (R387). -/
def State.portsCsr (s : State) (e : Nat) : Nat :=
  (match s.ctxPort e 0 with
   | some n => 32 + n
   | none => 0) +
  (match s.ctxPort e 1 with
   | some n => 256 * (32 + n)
   | none => 0)

/-- A store of the pair also enters the journal (R391). -/
def State.journalAdd (s : State) (e off v : Nat) : State :=
  if e = 0 ∧ s.paired then s.setEngs { s.engs with journal := s.engs.journal ++ [(off, v)] } else s

/-- A word is stored into data memory. -/
def State.storeData (s : State) (e off v : Nat) : State := (s.setEngWord (s.engIx e) 1 off v).journalAdd e off v

/-- At the next instruction boundary after the journal has filled, a checkpoint is run (R391). -/
def State.journalFull (s : State) : State := if 2048 ≤ s.engs.journal.length then s.ckptNow else s

/-! ### Programs (R396) -/

/-- A program's words are written into an engine's memory from an offset. -/
def State.loadWords (s : State) (e space : Nat) (l : List Nat) : State :=
  (l.zipIdx.foldl (fun s w => s.setEngWord e space (4 * w.2) w.1) s)

/-- An engine's memories are cleared. -/
def State.clearMem (s : State) (e : Nat) : State :=
  { s with mem := s.mem.filter (fun w => w.1 / 2 ^ 19 != e) }

/-! ### Registers of the ENGINES pages (R399) -/

/-- The engine that a path's memory window shows, and the space. -/
def State.mwEngine (s : State) (p : Nat) : Nat := s.engIx (s.get (F.MW_SEL_ENGINE p))

/-- The size of a memory in bytes. -/
def memSize (space : Nat) : Nat := if space = 0 then 0x10000 else 0x30000

/-- MW_ADDR rises by 4 after an access. -/
def State.mwNext (s : State) : State := s.set F.MW_ADDR_OFFSET (s.get F.MW_ADDR_OFFSET + 4)

/-- A read of MW_DATA; past the memory's end its value is open. -/
def State.mwRead (s : State) (p : Nat) : Nat × State :=
  let sp := s.get (F.MW_SEL_SPACE p)
  let off := s.get F.MW_ADDR_OFFSET
  if off < memSize sp then (s.engWord (s.mwEngine p) sp off, s.mwNext)
  else (s.fresh.1 % 2 ^ 32, s.fresh.2.mwNext)

/-- Why a write of an ENGINES register is refused. -/
def State.engChk (s : State) (x : Wr) : Option Reason :=
  if x.k = .engine1 ∧ x.ro = 0x48 ∧ s.get (F.MW_SEL_SPACE x.p) = 0 then
    (if s.engRuns (s.get (F.MW_SEL_ENGINE x.p)) then some .badValue
     else if s.life = 2 ∨ s.life = 3 then some .lifeCycle
     else none)
  else if x.k = .engpage ∧ x.ro = 0x5c ∧ s.engBusy x.n then some .badValue
  else none

/-- What a stored write of an ENGINES register does. -/
def State.engFx (s : State) (x : Wr) : State :=
  if x.k = .engine1 ∧ x.ro = 0x48 then
    let sp := s.get (F.MW_SEL_SPACE x.p)
    let off := s.get F.MW_ADDR_OFFSET
    (((if off < memSize sp then s.setEngWord (s.mwEngine x.p) sp off x.v else s).set F.MW_DATA_WORD 0)).mwNext
  else if x.k = .engpage ∧ x.ro = 0x40 ∧ s.testMode then
    (if hasBit x.v 1 then s.engStop x.n 4 else if hasBit x.v 0 then s.engStart x.n 0 else s)
  else if x.k = .engpage ∧ x.ro = 0x58 ∧ 19 ≤ x.n ∧ x.n < 23 then s.laneGo (x.n - 19)
  else if x.k = .engpage ∧ x.ro = 0x5c ∧ 19 ≤ x.n ∧ x.n < 23 then s.engSend x.n (x.v % 2 ^ 18)
  else s

end Sys2Proof.Machine
end

