-- ==== Sys2Proof/Machine/Usb.lean ====
section
/-! DEFINITION. The service port and the internal USB hub (R455-R464): attach, suspend and remote wake, downstream ports, control requests and
the registers of the SVCUSB page. -/

namespace Sys2Proof.Machine

def State.mapUsb (s : State) (f : UsbSt → UsbSt) : State := { s with usb := f s.usb }

/-! ### The bus and its devices (R455-R457) -/

/-- The service port is attached: the host's VBUS is there, and the pull-up is on. -/
def State.usbUp (s : State) : Bool := s.usb.vbus && s.on F.SVC_CTRL_EN && !s.isDark

def State.usbSuspended (s : State) : Bool := s.usb.sus.isSome

/-- Traffic runs on the service bus. -/
def State.usbOn (s : State) : Bool := s.usbUp && !s.usbSuspended && s.domState 58 == 0

/-- The number of a device: 0 hub, 1 management, 2 recovery, 3 log. -/
def devNo : UsbDevice → Nat
  | .hub => 0
  | .mgmt => 1
  | .recovery => 2
  | .log => 3

def State.usbDev (s : State) (d : Nat) : UsbDev := tget {} s.usb.devs d

def State.setDev (s : State) (d : Nat) (x : UsbDev) : State := s.mapUsb (fun u => { u with devs := tset u.devs d x })

/-- Does downstream port `i + 1` have a device connected (R455)? -/
def State.portConn (s : State) (i : Nat) : Bool :=
  let fn := hasBit (s.get F.SVC_CTRL_FUNC_EN) (i - 16)
  if i < 16 then hasBit (s.get F.SVC_PORTS_CONN) i
  else if i = 16 then fn
  else if i = 17 then fn && s.get F.START_STAT_PHASE == 6
  else fn && s.pwr.image.isSome && s.get F.LOCK_STAT_MGMT != 2

/-- Can a device be reached: the hub itself, or a function on a connected port? -/
def State.devThere (s : State) (d : Nat) : Bool := s.usbOn && (d == 0 || s.portConn (15 + d))

/-- A device's configuration; 0 while it cannot be reached. -/
def State.devCfg (s : State) (d : Nat) : Nat := if s.devThere d then (s.usbDev d).cfg else 0

/-- Does downstream port `n + 1` report over-current (R455)? -/
def State.overCurrent (s : State) (n : Nat) : Bool :=
  s.get (F.VB_STAT_STATE n) == 6 && (s.get (F.VB_FAULT_LOG_CAUSE n) == 1 || s.get (F.VB_FAULT_LOG_CAUSE n) == 2)

/-! ### Remote wake (R463) -/

/-- Has the host enabled DEVICE_REMOTE_WAKEUP, on the hub or on a function? -/
def State.rwakeOn (s : State) : Bool := s.usb.devs.any (fun e => e.2.rwake)

/-- A pending remote wake is signalled once the bus has been suspended for 5 ms. -/
def State.usbDue (s : State) : State :=
  match s.usb.sus with
  | none => s
  | some t =>
    if s.usb.wake && s.usb.drove.isNone && decide (t + 5000000 ≤ s.now) then
      ((s.mapUsb (fun u => { u with drove := some s.now })).emit .usbWake).raise 53
    else s

/-- A reason for remote wake arises: recorded where SVC_WAKE_EN enables it, and signalled on a suspended bus whose host allows it. -/
def State.usbReason (s : State) (r : Nat) : State :=
  if s.usbUp && hasBit (s.get F.SVC_WAKE_EN_SRC) r then
    let s1 := s.set F.SVC_WAKE_LOG_REASON (putBit (s.get F.SVC_WAKE_LOG_REASON) r true)
    if s.usbSuspended && s.rwakeOn && !s.usb.wake then
      ((s1.mapUsb (fun u => { u with wake := true, drove := none })).sets [(F.SVC_WAKE_LOG_SERVED, 0), (F.SVC_WAKE_LOG_COLLIDED, 0)]).usbDue
    else s1
  else s

/-- The bus leaves suspend: a remote wake that was pending or driven counts as served; it has met the host's resume unless its 2 ms were over. -/
def State.usbServed (s : State) (resume : Bool) : State :=
  let late := match s.usb.drove with
    | some t => decide (t + 2000000 ≤ s.now)
    | none => false
  let s1 := s.mapUsb (fun u => { u with sus := none, wake := false, drove := none })
  if s.usb.wake then s1.sets [(F.SVC_WAKE_LOG_SERVED, 1), (F.SVC_WAKE_LOG_COLLIDED, b2n (resume && !late))] else s1

/-! ### Downstream ports (R455) -/

def State.mapDown (s : State) (i : Nat) (f : UsbPort → UsbPort) : State :=
  s.mapUsb (fun u => { u with ports := tset u.ports i (f (tget {} u.ports i)) })

/-- A change on a port: its bit, and for ports 1-16 a reason for remote wake. -/
def State.portChange (s : State) (i bit : Nat) : State :=
  let s1 := s.mapDown i (fun p => { p with change := putBit p.change bit true })
  if i < 16 then s1.usbReason 0 else s1

/-- A device on a dock receptacle's D+/D- pair attaches or detaches. -/
def State.portAttach (s : State) (n : Nat) (on : Bool) : State :=
  let c := s.get F.SVC_PORTS_CONN
  if hasBit c n = on then s
  else ((s.set F.SVC_PORTS_CONN (putBit c n on)).mapDown n (fun p => { p with enabled := false, susp := false })).portChange n 0

/-- A feature of a port is set or cleared; PORT_POWER and what USB 2.0 gives no effect are accepted with none. -/
def State.portFeature (s : State) (i : Nat) (f : PortFeature) (set : Bool) : State :=
  let p := tget {} s.usb.ports i
  let clr := fun bit => s.mapDown i (fun p => { p with change := putBit p.change bit false })
  if set then
    match f with
    | .reset =>
      if s.portConn i then
        (let s1 := s.mapDown i (fun p => { p with enabled := true, susp := false, change := putBit p.change 4 true })
         if 16 ≤ i then s1.setDev (i - 15) {} else s1)
      else s
    | .suspend => if p.enabled then s.mapDown i (fun p => { p with susp := true }) else s
    | _ => s
  else
    match f with
    | .enable => s.mapDown i (fun p => { p with enabled := false, susp := false })
    | .suspend => if p.susp then s.mapDown i (fun p => { p with susp := false, change := putBit p.change 2 true }) else s
    | .cConnection => clr 0
    | .cEnable => clr 1
    | .cSuspend => clr 2
    | .cOverCurrent => clr 3
    | .cReset => clr 4
    | _ => s

/-! ### Bus reset and detach (R462) -/

/-- The hub and its functions return to Default; what was under way is gone. -/
def State.usbDefault (s : State) : State :=
  s.mapUsb (fun u => { vbus := u.vbus, ep1 := u.ep1, high := u.high, full := u.full, sus := u.sus, wake := u.wake, drove := u.drove })

/-- The transfers and EP2 commands under way. -/
def State.usbPartial (s : State) : Nat := b2n s.usb.ctl.isSome + b2n (!s.usb.cmd.isEmpty || !s.usb.bufs.isEmpty)

/-- The service port is detached. -/
def State.usbDetach (s : State) : State :=
  let s1 := s.usbDefault
  s1.mapUsb (fun u => { u with sus := none, wake := false, drove := none, high := false })

/-! ### Control requests (R458, R461) -/

/-- A SETUP ends the transfer in progress without effect, and the new request is held until its status stage. -/
def State.usbSetup (s : State) (q : UsbReq) : State := s.mapUsb (fun u => { u with ctl := some q })

/-- A SETUP whose request is answered with STALL. -/
def State.usbStall (s : State) (ep : Nat) : State := (s.mapUsb (fun u => { u with ctl := none })).emit (.usbAns ep 3)

/-- Has a REG_READ or REG_WRITE a valid address and length (R458)? -/
def regForm (addr len : Nat) : Bool := addr % 4 == 0 && len % 4 == 0 && decide (1 ≤ len / 4) && decide (len / 4 ≤ 64)

/-- Does a device offer a configuration? -/
def State.cfgOffered (s : State) (d cfg : Nat) : Bool := cfg == 0 || cfg == 1 || (d == 1 && cfg == 2 && s.usb.full)

/-- A device's configuration is set: its endpoints start afresh. -/
def State.setCfg (s : State) (d cfg : Nat) : State :=
  let s1 := (s.setDev d { s.usbDev d with cfg := cfg }).mapUsb (fun u => { u with halts := u.halts.filter (fun h => h / 16 != d) })
  if d = 1 then s1.mapUsb (fun u => { u with bufs := [], cmd := [], short := false }) else s1

/-- A feature is set or cleared. -/
def State.usbFeature (s : State) (d : Nat) (f : UsbFeature) (set : Bool) : State :=
  match f with
  | .remoteWake => s.setDev d { s.usbDev d with rwake := set }
  | .halt ep =>
    let h := 16 * d + ep.val
    s.mapUsb (fun u => { u with halts := if set then h :: u.halts.erase h else u.halts.erase h })
  | .port n p => if d = 0 then s.portFeature n p set else s

/-- Is an endpoint halted? -/
def State.halted (s : State) (d ep : Nat) : Bool := s.usb.halts.contains (16 * d + ep)

/-! ### EP2 (R459, R460) -/

/-- The largest packet of EP2 and EP3. -/
def State.ep2Max (s : State) : Nat := if s.usb.high then 512 else 64

/-- An OUT with good data on EP2. -/
def State.ep2Out (s : State) (data : List (BitVec 8)) : State :=
  let n := s.usb.bufs.length
  if s.halted 1 2 then s.emit (.usbAns 2 3)
  else if 2 ≤ n then (s.sat F.SVC_FLOW_NAK).emit (.usbAns 2 2)
  else
    let s1 := s.mapUsb (fun u => { u with bufs := u.bufs ++ [data] })
    if s.usb.high && n == 1 then (s1.sat F.SVC_FLOW_NYET).emit (.usbAns 2 1) else s1.emit (.usbAns 2 0)

/-- The oldest packet's bytes are handed to the command engine, and its buffer frees. -/
def State.ep2Hand (s : State) : State :=
  match s.usb.bufs with
  | [] => s
  | d :: l => s.mapUsb (fun u => { u with bufs := l, cmd := u.cmd ++ d, short := decide (d.length < s.ep2Max) })

/-- The packets after the end of a transfer: all that follow its short packet. -/
def afterShort (max : Nat) : List (List (BitVec 8)) → List (List (BitVec 8))
  | [] => []
  | d :: l => if d.length < max then l else afterShort max l

/-- A bad OP or COUNT: the rest of the transfer is discarded, and EP2 is halted. -/
def State.ep2Bad (s : State) : State :=
  s.mapUsb (fun u => { u with cmd := [], short := false, halts := 18 :: u.halts.erase 18,
                              bufs := if u.short then u.bufs else afterShort s.ep2Max u.bufs })

/-- The header of a command: OP, COUNT, address; or none where OP or COUNT is bad. -/
def ep2Head (b : List (BitVec 8)) : Option (Nat × Nat × Nat) :=
  let op := (b.getD 0 0).toNat
  let n := leNat ((b.drop 2).take 2)
  if (op = 1 ∨ op = 2) ∧ 1 ≤ n ∧ n ≤ 128 then some (op, n, leNat ((b.drop 4).take 4)) else none

/-- The bytes of a command. -/
def ep2Len (op n : Nat) : Nat := if op = 1 then 8 else 8 + 4 * n

/-- Packets are handed over until the command at the front is whole or proves bad: the state, with the command where it is whole. -/
def State.ep2Take : Nat → State → State × Option (Nat × Nat × Nat × List (BitVec 8))
  | 0, s => (s, none)
  | k + 1, s =>
    if s.usb.cmd.length < 8 then (if s.usb.bufs.isEmpty then (s, none) else s.ep2Hand.ep2Take k)
    else match ep2Head s.usb.cmd with
      | none => (s.ep2Bad, none)
      | some (op, n, a) =>
        if ep2Len op n ≤ s.usb.cmd.length then (s, some (op, n, a, (s.usb.cmd.take (ep2Len op n)).drop 8))
        else if s.usb.bufs.isEmpty then (s, none) else s.ep2Hand.ep2Take k

/-- A whole command leaves the engine's input. -/
def State.ep2Drop (s : State) (op n : Nat) : State := s.mapUsb (fun u => { u with cmd := u.cmd.drop (ep2Len op n) })

/-! ### The SVCUSB page (R464) -/

/-- What a stored write of the page does. -/
def State.usbFx (s s0 : State) (ro v : Nat) : State :=
  if ro = 0x40 then (if s0.on F.SVC_CTRL_EN && !s.on F.SVC_CTRL_EN then s.usbDetach else s)
  else if ro = 0x4c then (if v % 8 = 0 then s.sets [(F.SVC_WAKE_LOG_SERVED, 0), (F.SVC_WAKE_LOG_COLLIDED, 0)] else s)
  else s

/-- The registers of the page that are formed at the read. -/
def State.usbRead (s : State) (ro : Nat) : Option Nat :=
  if ro = 0x44 then
    (let h := s.usbDev 0
     let st := if !s.usbUp then 0 else if h.addr = 0 then 1 else if h.cfg = 0 then 2 else 3
     some (2 ^ 20 * b2n s.usbSuspended + 65536 * ((s.usbDev 1).cfg % 4) + 256 * h.addr + 16 * b2n s.usb.high + st))
  else if ro = 0x50 then
    some (s.get F.SVC_PORTS_CONN % 65536 + 65536 * (b2n (s.portConn 16) + 2 * b2n (s.portConn 17) + 4 * b2n (s.portConn 18)))
  else none

end Sys2Proof.Machine
end

