-- ==== Sys2Proof/Machine/Vbus.lean ====
section
/-! DEFINITION. VBUS switches, feeds and power measurement (R316-R331): setpoint, eFuse, latch-off, samples and windows. -/

namespace Sys2Proof.Machine

def State.vb (s : State) (n : Nat) : VbPort := tget {} s.pow.vb n

def State.setVb (s : State) (n : Nat) (x : VbPort) : State := { s with pow := { s.pow with vb := tset s.pow.vb n x } }

def State.mapVb (s : State) (n : Nat) (f : VbPort → VbPort) : State := s.setVb n (f (s.vb n))

/-- Event k of a port's VBUS page (R330). -/
def vbEv (n k : Nat) : Nat := 1840 + 64 * n + k

def State.vbState (s : State) (n : Nat) : Nat := s.get (F.VB_STAT_STATE n)

/-! ### Setpoint and limit (R320, R321, R323) -/

/-- The target in mV. -/
def State.targetMv (s : State) (n : Nat) : Nat := 10 * s.get (F.VB_VSET_TARGET_10MV n)

/-- The DAC code of a target under the port's calibration and trim (R320). -/
def State.dacCode (s : State) (n : Nat) : Nat :=
  if s.targetMv n = 0 then 0
  else
    let x : Int := (s.targetMv n + s.getI (F.VB_CAL_OFFSET_MV n)) * (65536 + s.getI (F.VB_CAL_GAIN n))
    (min 4095 (max 0 ((2 * x + 960000).fdiv 1920000 + s.getI (F.VB_TRIM_STEPS n)))).toNat

def State.setCode (s : State) (n : Nat) : State := s.set (F.VB_VSET_CODE n) (s.dacCode n)

/-- A new target in units of 10 mV: the trim returns to 0. -/
def State.setTarget (s : State) (n t : Nat) : State :=
  (s.sets [(F.VB_TRIM_STEPS n, 0), (F.VB_VSET_TARGET_10MV n, t)]).setCode n

/-- Does a voltage in mV lie in the window of the target (R321)? -/
def State.inWindow (s : State) (n mv : Nat) : Bool :=
  let t := s.targetMv n
  let p := s.get (F.VB_WIN_PCT n)
  decide (t * (100 - p) ≤ 100 * mv) && decide (100 * mv ≤ t * (100 + p)) && t != 0

/-- The limit that a PDO's current calls for, in 10 mA (R323); none before a contract. -/
def State.limitFor (s : State) (n : Nat) (pdo : Option Nat) : Nat :=
  if s.on (F.VB_CTRL_ILIM_AUTO n) then
    match pdo with
    | some x => min 625 (x % 1024 * 5 / 4)
    | none => 375
  else s.get (F.VB_ILIM_MAN_10MA n)

/-- The PDO of a port's explicit contract as source. -/
def State.pdoInForce (s : State) (n : Nat) : Option Nat :=
  if s.on (F.PD_STAT_CONTRACT n) && !s.on (F.PD_STAT_POWER_ROLE n) then some (s.get (F.PD_PDO_PDO n)) else none

def State.setLimit (s : State) (n : Nat) : State := s.set (F.VB_ILIM_IN_FORCE n) (s.limitFor n (s.pdoInForce n))

/-! ### The eFuse (R322-R325) -/

/-- The gate is pulled down: power-good, the timer and the regulator fall with it. -/
def State.gateDown (s : State) (n : Nat) : State :=
  s.sets [(F.VB_STAT_GATE_ON n, 0), (F.VB_STAT_PGOOD n, 0), (F.VB_STAT_TIMER n, 0), (F.VB_STAT_LIMITING n, 0)]

/-- The enable has fallen (R322): VSET goes to 0 and the port discharges; a latched port waits (R325). -/
def State.vbFall (s : State) (n st : Nat) : State :=
  (((s.gateDown n).setTarget n 0).set (F.VB_STAT_STATE n) st).mapVb n (fun x => { x with disch := true, moveDue := false })

/-- The enable has risen (R322): the buck moves to 5 V, and its output is awaited. -/
def State.vbRise (s : State) (n : Nat) : State :=
  (((s.setTarget n 500).setLimit n).set (F.VB_STAT_STATE n) 1).mapVb n (fun x => { x with disch := false, moveDue := false })

/-- The enable of a port is looked at (R322, R325). -/
def State.vbEval (s : State) (n : Nat) : State :=
  let st := s.vbState n
  let on := (s.vb n).req && s.on (F.VB_CTRL_EN n)
  if st = 7 then s
  else if st = 6 then (if on then s else (if s.overCurrent n then s.portChange n 3 else s).vbFall n 7)
  else if st = 0 then (if on && !s.on (F.VB_STAT_LOCKOUT n) && !s.pow.busHeld then s.vbRise n else s)
  else if st = 8 then s
  else if on && !s.on (F.VB_STAT_LOCKOUT n) then s
  else s.vbFall n 8

/-- The policy's request for a port's VBUS. -/
def State.vbReq (s : State) (n : Nat) (on : Bool) : State := (s.mapVb n (fun x => { x with req := on })).vbEval n

/-- A latch-off's own part (R325): the detach that may follow belongs to the policy. -/
def State.vbLatch (s : State) (n cause : Nat) : State :=
  let day := 60 * 1000000000
  let l := s.now :: ((s.vb n).times.filter (fun t => decide (s.now < t + day)))
  let s0 := if cause ≤ 2 then s.portChange n 3 else s
  let s1 := (((((s0.gateDown n).mapVb n (fun x => { x with times := l, moveDue := false })).sets
    [(F.VB_STAT_STATE n, 6), (F.VB_FAULT_LOG_CAUSE n, cause), (F.VB_FAULT_LOG_VOUT_10MV n, s.get (F.VB_VOUT_MV n) / 10)]).sat
    (F.VB_FAULT_COUNT_COUNT n)).raise (vbEv n 1))
  if s.get (F.VB_CTRL_FAULT_LIMIT n) ≤ l.length ∧ !s1.on (F.VB_STAT_LOCKOUT n) then (s1.set (F.VB_STAT_LOCKOUT n) 1).raise (vbEv n 2)
  else s1

/-- A move to a new target starts (R321, R323): a lower limit is applied first; with the fault timer running a move upwards waits. -/
def State.startMove (s : State) (n t pdo : Nat) : State :=
  let lim := s.limitFor n (some pdo)
  let s1 := if lim < s.get (F.VB_ILIM_IN_FORCE n) then s.set (F.VB_ILIM_IN_FORCE n) lim else s
  if s1.on (F.VB_STAT_TIMER n) && decide (s1.get (F.VB_VSET_TARGET_10MV n) < t) then s1.mapVb n (fun x => { x with moveDue := true })
  else ((s1.setTarget n t).set (F.VB_STAT_STATE n) 5).mapVb n (fun x => { x with moveDue := false })

/-! ### Feeds (R316-R319) -/

def feedStat (f : Nat) : Fld := if f = 0 then F.FD_STAT_A else F.FD_STAT_B

def feedEn (f : Nat) : Fld := if f = 0 then F.FD_CTRL_EN_A else F.FD_CTRL_EN_B

/-- Is a feed present and enabled: STANDBY or CONDUCTING? -/
def State.feedUp (s : State) (f : Nat) : Bool := s.get (feedStat f) == 1 || s.get (feedStat f) == 2

/-- The feed with the higher voltage carries the bus; within 25 mV both do (R316). -/
def State.feedsPick (s : State) : State :=
  let a := s.get F.FDA_V_MV
  let b := s.get F.FDB_V_MV
  if s.feedUp 0 && s.feedUp 1 then
    s.sets [(F.FD_STAT_A, if b ≤ a + 25 then 2 else 1), (F.FD_STAT_B, if a ≤ b + 25 then 2 else 1)]
  else if s.feedUp 0 then s.set F.FD_STAT_A 2
  else if s.feedUp 1 then s.set F.FD_STAT_B 2
  else s

/-- The other feed takes over. -/
def State.feedOver (s : State) (f : Nat) : State := if s.feedUp (1 - f) then s.set (feedStat (1 - f)) 2 else s

/-- FD_CTRL is written (R316): a feed held off shows OFF. -/
def State.feedCtrl (s : State) : State :=
  let off := fun (s : State) f => if !s.on (feedEn f) && s.get (feedStat f) != 3 then (s.set (feedStat f) 3).feedOver f else s
  off (off s 0) 1

/-! ### Measurement (R328, R329) -/

/-- Add power to an energy accumulator, and show it in µJ. -/
def State.addEnergy (s : State) (ch : Nat) (lo hi : Fld) (uw : Int) : State :=
  let e := tget 0 s.pow.energy ch + uw
  ({ s with pow := { s.pow with energy := tset s.pow.energy ch e } }).setI64 lo hi (e.fdiv 1000000)

/-- The voltage and current of a port are taken: the window bit, the peak, the energy, and the buck's arrival (R322). -/
def State.portSample (s : State) (n : Nat) (x : PortSample) : State :=
  let ma := toSigned 16 x.ma.toNat
  let uw : Int := x.vout.toNat * ma
  let s1 := s.sets [(F.VB_VOUT_MV n, x.vout.toNat), (F.VB_VBK_MV n, x.vbk.toNat), (F.VB_IOUT_MA n, x.ma.toNat)]
  let s2 := if s1.getI (F.VB_I_PEAK_MA n) < ma then s1.set (F.VB_I_PEAK_MA n) x.ma.toNat else s1
  let s3 := (s2.mapVb n (fun v => { v with sumUw := v.sumUw + uw, samples := v.samples + 1 })).addEnergy n (F.VB_E_LO_UJ n) (F.VB_E_HI_UJ n) uw
  let s4 := s3.put (F.VB_STAT_IN_WINDOW n) (s3.inWindow n x.vout.toNat)
  let s5 := if s4.vbState n = 1 ∧ s4.inWindow n x.vbk.toNat then s4.set (F.VB_STAT_STATE n) 2 else s4
  if x.vout.toNat < 800 then { s5 with pow := { s5.pow with pd := tset s5.pow.pd n { tget {} s5.pow.pd n with needSafe := false } } } else s5

/-- A feed's sample, in mV and 10 mA. -/
def feedUw (x : FeedSample) : Int := x.mv.toNat * (10 * toSigned 16 x.c.toNat)

/-- The samples of one microsecond (R328, R329). -/
def State.measure (s : State) (ports : List PortSample) (a b : FeedSample) (bus : Nat) : State :=
  let l := (List.range 16).zip ports
  let s1 := l.foldl (fun s e => s.portSample e.1 e.2) s
  let pw : Int := l.foldl (fun w e => w + e.2.vout.toNat * toSigned 16 e.2.ma.toNat) 0
  let s2 := s1.sets [(F.FDA_V_MV, a.mv.toNat), (F.FDA_I_C10MA, a.c.toNat), (F.FDB_V_MV, b.mv.toNat), (F.FDB_I_C10MA, b.c.toNat),
    (F.BUS_V_MV, bus), (F.FD_STAT_BUS_LOW, b2n (decide (bus < 100 * s.get F.FD_BUS_UV)))]
  let s3 := { s2 with pow := { s2.pow with sumA := s2.pow.sumA + feedUw a, sumB := s2.pow.sumB + feedUw b, samples := s2.pow.samples + 1 } }
  (((s3.addEnergy 16 F.FDA_E_LO_UJ F.FDA_E_HI_UJ (feedUw a)).addEnergy 17 F.FDB_E_LO_UJ F.FDB_E_HI_UJ (feedUw b)).addEnergy 18
    F.BUS_E_LO_UJ F.BUS_E_HI_UJ pw).feedsPick

/-- A window's mean in mW; a negative mean has no form in the unsigned field, so its value is free (log entry 20). -/
def State.setMean (s : State) (f : Fld) (sum : Int) (n : Nat) : State :=
  if n = 0 then s
  else if sum < 0 then (let c := s.fresh; c.2.set f c.1)
  else s.set f (sum.toNat / n / 1000)

/-- The governor's window closes: the window means are latched (R328). -/
def State.latchWindow (s : State) : State :=
  let s1 := (List.range 16).foldl (fun (s : State) n =>
    (s.setMean (F.VB_P_WIN_MW n) (s.vb n).sumUw (s.vb n).samples).mapVb n (fun v => { v with sumUw := 0, samples := 0 })) s
  let s2 := (s1.setMean F.FDA_P_WIN_MW s1.pow.sumA s1.pow.samples).setMean F.FDB_P_WIN_MW s1.pow.sumB s1.pow.samples
  let s3 := { s2 with pow := { s2.pow with sumA := 0, sumB := 0, samples := 0 } }
  s3.set F.BUS_P_WIN_MW ((List.range 16).foldl (fun w n => w + s3.get (F.VB_P_WIN_MW n)) 0)

/-! ### Tracking (R320) -/

/-- One step of the trim towards the target. -/
def State.trimStep (s : State) (n : Nat) : State :=
  let t := s.targetMv n
  let v := s.get (F.VB_VOUT_MV n)
  let x := s.getI (F.VB_TRIM_STEPS n) + (if v < t then 1 else if t < v then -1 else 0)
  if x.natAbs * 60000 * 50 ≤ t * 4096 then (s.setI (F.VB_TRIM_STEPS n) x).setCode n else s

/-! ### Register writes -/

/-- A write to VB_CAL is refused beyond its form (R330), and a feed shunt (R331). -/
def State.vbChk (_s : State) (x : Wr) : Option Reason :=
  if x.k = .dport5 ∧ x.ro = 0x54 ∧ 1000 < (toSigned 16 (x.v % 65536)).natAbs then some .badValue else none

end Sys2Proof.Machine
end

