-- ==== Sys2Proof/Machine/Pd.lean ====
section
/-! DEFINITION. Dock port attach, power contracts and mode entry (R294-R315). -/

namespace Sys2Proof.Machine

def State.pd (s : State) (n : Nat) : PdPort := tget {} s.pow.pd n

def State.setPd (s : State) (n : Nat) (x : PdPort) : State := { s with pow := { s.pow with pd := tset s.pow.pd n x } }

def State.mapPd (s : State) (n : Nat) (f : PdPort → PdPort) : State := s.setPd n (f (s.pd n))

def State.setSeq (s : State) (n : Nat) (q : PdSeq) : State := s.mapPd n (fun x => { x with seq := q })

/-- Event k of a port's PD page (R315). -/
def pdEv (n k : Nat) : Nat := 1824 + 64 * n + k

/-- A message goes out, and its GoodCRC is awaited (R299). -/
def State.pdSend (s : State) (n : Nat) (k : PdKind) (objs : List Nat := []) (prime : Bool := false) : State :=
  (s.mapPd n (fun x => { x with unacked := x.unacked ++ [(⟨prime, k, objs⟩, 0)] })).emit (.pd n ⟨prime, k, objs⟩)

/-- Is the port attached as source, or as sink? -/
def State.pdSource (s : State) (n : Nat) : Bool := s.on (F.PD_STAT_ATTACHED n) && !s.on (F.PD_STAT_POWER_ROLE n)

def State.pdSink (s : State) (n : Nat) : Bool := s.on (F.PD_STAT_ATTACHED n) && s.on (F.PD_STAT_POWER_ROLE n)

/-- Rp as a source presents it (R294): 1.5 A while a sequence of the hub holds the bus, 3.0 A otherwise. -/
def State.pdShow (s : State) (n : Nat) : State :=
  if !s.pdSource n then s
  else
    let x := s.pd n
    s.set (F.PD_STAT_RP n) (if decide (x.seq = .idle ∨ x.seq = .start) && x.vdm == 0 then 2 else 1)

/-! ### The cable (R298) -/

/-- Is a passive cable's identity held and in use? -/
def State.cableOk (s : State) (n : Nat) : Bool := s.on (F.PD_STAT_CABLE n) && !(s.pd n).vcFault

def State.cable5 (s : State) (n : Nat) : Bool := s.cableOk n && bits (s.get (F.PD_CABLE_VDO_VDO n)) 5 2 == 2

/-- Does the cable allow EPR? -/
def State.cableEpr (s : State) (n : Nat) : Bool :=
  s.cable5 n && hasBit (s.get (F.PD_CABLE_VDO_VDO n)) 17 && bits (s.get (F.PD_CABLE_VDO_VDO n)) 9 2 == 3

/-- The highest rate code that the cable allows, if it allows Mbaloth mode. -/
def State.cableRate (s : State) (n : Nat) : Option Nat :=
  let v := s.get (F.PD_CABLE_VDO_VDO n) % 8
  if s.cableOk n && decide (1 ≤ v) && decide (v ≤ 4) then some (v - 1) else none

/-! ### Capabilities (R302) -/

/-- The voltage of an object position, in V. -/
def posVolt : Nat → Nat
  | 1 => 5 | 2 => 9 | 3 => 15 | 4 => 20 | 8 => 28 | 9 => 36 | 10 => 48 | _ => 0

/-- May EPR be offered (R298, R303)? -/
def State.eprOk (s : State) (n : Nat) : Bool := s.cableEpr n && s.on (F.PD_CTRL_EPR_EN n) && !s.on (F.PD_SRC_SPR_ONLY n)

/-- The PDO at a position, if it is offered; `epr` tells that positions 8 to 10 are asked about, which the port offers only where EPR may be. -/
def State.pdoAt (s : State) (n : Nat) (epr : Bool) (pos : Nat) : Option Nat :=
  let v := posVolt pos
  if v = 0 ∨ (8 ≤ pos ∧ !(epr && s.eprOk n)) then none
  else
    let cur := min (if s.cable5 n then 500 else 300) (min (if v ≤ 15 then 300 else 500) (s.get (F.PD_SRC_MAX_W n) * 100 / v))
    let flags := if pos = 1 then 2 ^ 29 + 2 ^ 27 * s.get (F.PD_CTRL_UP n) + 2 ^ 26 + 2 ^ 25 +
        2 ^ 23 * b2n (s.on (F.PD_CTRL_EPR_EN n) && s.cableEpr n) else 0
    if cur < 50 then none else some (flags + v * 20 * 1024 + cur)

def State.sprCaps (s : State) (n : Nat) : List Nat := [1, 2, 3, 4].filterMap (s.pdoAt n false)

def State.eprCaps (s : State) (n : Nat) : List Nat := s.sprCaps n ++ List.replicate (7 - (s.sprCaps n).length) 0 ++ [8, 9, 10].filterMap (s.pdoAt n true)

/-- The PDO that a request names, if the request lies within it (R303). -/
def State.pdJudge (s : State) (n : Nat) (epr : Bool) (rdo : Nat) : Option Nat :=
  match s.pdoAt n epr (bits rdo 28 4) with
  | some pdo => if bits rdo 10 10 ≤ pdo % 1024 then some pdo else none
  | none => none

/-- Capabilities go out, and the sink's request is awaited. -/
def State.sendCaps (s : State) (n : Nat) : State :=
  let s1 := if s.on (F.PD_STAT_EPR n) then s.pdSend n .eprSourceCaps (s.eprCaps n) else s.pdSend n .sourceCaps (s.sprCaps n)
  s1.mapPd n (fun x => { x with seq := .caps, caps := 1, capsDue := false })

/-! ### Structured VDMs (R310-R312) -/

/-- A VDM header (R310). -/
def vdmHdr (svid pos typ cmd : Nat) : Nat := svid * 65536 + 0xA800 + 256 * pos + 64 * typ + cmd

/-- The hub's link identity on a port (R312), for the entry under way. -/
def State.hubId (s : State) (n : Nat) : Nat :=
  0x2D4A * 2 ^ 48 + s.get F.SERIAL_LO_SERIAL * 65536 + ((s.pd n).entries + 1) % 256 * 256 + n

/-- The hub's offer against a device's Mode VDO (R311). -/
def State.modeOffer (s : State) (n dev : Nat) : Nat :=
  let rate := min (min (s.get (F.DL_CTRL_MAX_RATE n)) (bits dev 26 2)) ((s.cableRate n).getD 0)
  2 ^ 28 + rate * 2 ^ 26 + Nat.land (s.get (F.DL_CTRL_LANES n)) (bits dev 24 2) * 2 ^ 24 +
    (if s.on (F.LK_CTRL_ENC_EN n) then 2 ^ 23 * bits dev 23 1 else 0) + bits dev 19 4 * 2 ^ 19 + bits dev 8 5 * 256

/-- Send the VDM of a stage. -/
def State.vdmSend (s : State) (n stage : Nat) : State :=
  let s1 := s.mapPd n (fun x => { x with vdm := stage, hold := false })
  if stage = 1 then s1.pdSend n .vdm [vdmHdr 0xFF00 0 0 1]
  else if stage = 2 then s1.pdSend n .vdm [vdmHdr 0xFF00 0 0 2]
  else if stage = 3 then s1.pdSend n .vdm [vdmHdr 0x2D4A 0 0 3]
  else
    let id := s1.hubId n
    s1.pdSend n .vdm [vdmHdr 0x2D4A 1 0 4, s1.modeOffer n (s1.get (F.PD_MODE_VDO_VDO n)), id % 2 ^ 32, id / 2 ^ 32]

/-- Exit Mode goes out. -/
def State.sendExit (s : State) (n : Nat) : State := s.pdSend n .vdm [vdmHdr 0x2D4A 1 0 5]

/-- May the hub go into Mbaloth mode (R298, R310)? -/
def State.modeOk (s : State) (n : Nat) : Bool :=
  s.on (F.PD_STAT_ATTACHED n) && s.on (F.PD_STAT_CONTRACT n) && s.on (F.PD_CTRL_MODE_EN n) && (s.cableRate n).isSome && !s.on (F.PD_STAT_MODE n)

/-- A running VDM sequence is abandoned, to start again later (R301). -/
def State.vdmAbort (s : State) (n : Nat) : State :=
  if (s.pd n).vdm = 0 then s else s.mapPd n (fun x => { x with vdm := 0, busy := 0, hold := false, vdmDue := true })

/-- Discovery or mode entry has failed (R310). -/
def State.vdmFail (s : State) (n : Nat) : State := (s.mapPd n (fun x => { x with vdm := 0, busy := 0, hold := false, vdmDue := false })).raise (pdEv n 10)

/-! ### Swaps and the order of sequences (R301, R305-R308) -/

/-- The hub's swap request goes out. -/
def State.sendSwap (s : State) (n : Nat) : State :=
  let x := s.pd n
  ((s.setPd n { x with seq := .swapReq, sent := x.sent + 1, due := false }).sets
    [(F.PD_STAT_SWAP n, 1), (F.PD_SWAP_LOG_KIND n, x.own - 1), (F.PD_SWAP_LOG_ATTEMPTS n, min 15 (x.sent + 1)), (F.PD_SWAP_LOG_RESULT n, 0)]).pdSend n
    (if x.own = 2 then .drSwap else .prSwap)

/-- Discovery starts (R310): as UFP the hub sends DR_Swap first (R305). -/
def State.vdmStart (s : State) (n : Nat) : State :=
  if !s.modeOk n || (s.pd n).vdm != 0 then s.mapPd n (fun x => { x with vdmDue := false })
  else if s.on (F.PD_STAT_DATA_ROLE n) then (s.mapPd n (fun x => { x with own := 2, sent := 0 })).sendSwap n
  else (s.mapPd n (fun x => { x with vdmDue := false, busy := 0 })).vdmSend n 1

/-- EPR mode has been left (R304): the SPR capabilities go out, and above 20 V the way to 20 V begins. -/
def State.eprLeft (s : State) (n : Nat) : State :=
  let s1 := ((s.set (F.PD_STAT_EPR n) 0).raise (pdEv n 3)).sendCaps n
  if 20 < posVolt (bits (s1.get (F.PD_CONTRACT_RDO n)) 28 4) then s1.setSeq n .exitRamp else s1

/-- The hub leaves EPR mode, with EPR_Mode Exit (R304). -/
def State.leaveEpr (s : State) (n : Nat) : State := (s.pdSend n .eprMode [5 * 2 ^ 24]).eprLeft n

/-- New capabilities for a sink with a contract (R304). -/
def State.newCaps (s : State) (n : Nat) : State :=
  if s.on (F.PD_STAT_EPR n) && (s.on (F.PD_SRC_SPR_ONLY n) || (s.pdJudge n true (s.get (F.PD_CONTRACT_RDO n))).isNone) then s.leaveEpr n
  else s.sendCaps n

/-- Does a power sequence run that a Soft_Reset leaves (R301): VBUS on its way to 5 V, a swap, a hard reset? -/
def PdSeq.atomic : PdSeq → Bool
  | .start | .toSink _ | .toSrc _ | .hardRst _ => true
  | _ => false

/-- Is a sequence a power negotiation of the hub as source, which begins again after a Soft_Reset? -/
def PdSeq.offers : PdSeq → Bool
  | .cable | .caps | .accepted _ _ | .moving _ _ | .exitRamp | .exitMove => true
  | _ => false

/-- The message layer is reset (R301): the VDM sequence and the hub's own request are abandoned; a running hard reset or swap goes on. -/
def State.softClear (s : State) (n : Nat) : State :=
  let s1 := (s.vdmAbort n).mapPd n (fun x => { x with unacked := [] })
  if (s1.pd n).seq.atomic then s1
  else (s1.mapPd n (fun x => { x with seq := .idle, own := 0, due := false, again := false, ownSwap := false, softDue := false,
                                      capsDue := x.capsDue || x.seq.offers })).set (F.PD_STAT_SWAP n) 0

/-- The hub sends Soft_Reset; while an atomic sequence runs it waits. -/
def State.softSend (s : State) (n : Nat) : State :=
  if (s.pd n).seq.atomic then s.mapPd n (fun x => { x with softDue := true })
  else ((s.softClear n).setSeq n .softRst).pdSend n .softReset

/-- A sequence has ended: the next that waits starts, in order of R301. -/
def State.pdNext (s : State) (n : Nat) : State :=
  let s1 := s.setSeq n .idle
  let x := s1.pd n
  if x.softDue then s1.softSend n
  else if x.capsDue && s1.pdSource n then s1.newCaps n
  else if x.due then s1.sendSwap n
  else if x.again && s1.pdSink n then
    (s1.setPd n { x with again := false, own := 1, sent := 0 }).set (F.PD_STAT_SWAP n) 2
  else if x.vdmDue && x.own = 0 then s1.vdmStart n
  else s1

/-- The hub's swap ends with a result (R308): 1 DONE ends it well, the others stop it. -/
def State.swapEnd (s : State) (n res : Nat) : State :=
  let x := s.pd n
  let s1 := (s.setPd n { x with own := 0, due := false, again := false, vdmDue := x.vdmDue && (res == 1 || !(s.on (F.PD_STAT_DATA_ROLE n))) }).sets
    [(F.PD_SWAP_LOG_RESULT n, res), (F.PD_SWAP_LOG_KIND n, x.own - 1), (F.PD_SWAP_LOG_ATTEMPTS n, min 15 x.sent), (F.PD_STAT_SWAP n, if res = 1 then 0 else 3)]
  let s2 := if res = 1 ∨ x.own ≠ 1 then s1 else { s1 with gov := { s1.gov with stopped := n :: s1.gov.stopped } }
  if res = 5 then s2 else s2.raise (pdEv n (if res = 1 then 4 else 5))

/-- The hub wants a swap: 1 PR_Swap, 2 DR_Swap (R308); EPR is left before a power role swap (R306). -/
def State.wantSwap (s : State) (n k : Nat) : State :=
  if !s.on (F.PD_STAT_ATTACHED n) || (s.pd n).own != 0 then s
  else
    let s1 := ((s.vdmAbort n).mapPd n (fun x => { x with own := k, sent := 0, due := true })).set (F.PD_STAT_SWAP n) 1
    if decide ((s1.pd n).seq = .idle) then
      (if k = 1 ∧ s1.on (F.PD_STAT_EPR n) ∧ s1.pdSource n then s1.leaveEpr n else s1.sendSwap n)
    else s1

/-! ### Mbaloth mode (R313, R314) -/

/-- The hub leaves Mbaloth mode, with Exit Mode or without a message. -/
def State.modeExit (s : State) (n : Nat) (msg : Bool) : State :=
  if !s.on (F.PD_STAT_MODE n) then s
  else
    let s1 := (((if msg then (s.sealOut n).sendExit n else s).set (F.PD_STAT_MODE n) 0).raise (pdEv n 9)).lkDown n 9
    let s2 := s1.mapLk n (fun k => { k with train := {}, sbuQ := [], sbuOut := false, sbuReps := 0 })
    (s2.sets [(F.DL_STAT_STAGE n, 0), (F.DL_STAT_WIDTH n, 0), (F.SBU_STAT_UP n, 0)]).emit (.dockTx n 0 0 0)

/-- Mode entry ends (R313): the mode holds, the sideband and lane bring-up start. -/
def State.modeEntered (s : State) (n : Nat) : State :=
  let s1 := s.mapPd n (fun x => { x with vdm := 0, busy := 0, entries := x.entries + 1 })
  let s2 := ((s1.sets [(F.PD_STAT_MODE n, 1), (F.DL_STAT_CAP n, 3), (F.SBU_STAT_TX_SEQ n, 0), (F.SBU_STAT_RX_SEQ n, 0)]).sat (F.PD_MODE_COUNT_COUNT n)).raise (pdEv n 8)
  (s2.mapLk n (fun k => { k with train := {}, sealTx := 0, sealRx := 0, sbuSeen := none })).bringUp n

/-- The Enter Mode ACK (R312): the identities are taken, or the hub sends Exit Mode and counts a failed entry. -/
def State.enterAck (s : State) (n vdo id : Nat) : State :=
  let offer := s.modeOffer n (s.get (F.PD_MODE_VDO_VDO n))
  let within := decide (bits vdo 28 4 = 1) && decide (bits vdo 26 2 ≤ bits offer 26 2) &&
    decide (Nat.land (bits vdo 8 18) (bits offer 8 18) = bits vdo 8 18) && decide (vdo % 256 = 0)
  if id = s.hubId n ∨ !within ∨ !hasBit vdo 22 ∨ !hasBit vdo 12 ∨ bits vdo 24 2 = 0 then
    (let s1 := (s.sendExit n).mapPd n (fun x => { x with vdm := 0, busy := 0, fails := x.fails + 1 })
     if s.get (F.PD_MODE_CTRL_RETRIES n) ≤ (s1.pd n).fails then s1.raise (pdEv n 10) else s1)
  else
    let my := s.hubId n
    (s.mapPd n (fun x => { x with vdm := 5 })).sets [(F.PD_ENTER_VDO_VDO n, vdo), (F.LK_ID_LO_ID n, my % 2 ^ 32), (F.LK_ID_HI_ID n, my / 2 ^ 32),
      (F.LK_PID_LO_ID n, id % 2 ^ 32), (F.LK_PID_HI_ID n, id / 2 ^ 32)]

/-! ### Attach and detach (R294-R297) -/

/-- The contract is discarded. -/
def State.dropContract (s : State) (n : Nat) : State :=
  let s1 := s.sets [(F.PD_STAT_CONTRACT n, 0), (F.PD_CONTRACT_RDO n, 0), (F.PD_PDO_PDO n, 0)]
  if s1.on (F.PD_STAT_EPR n) then (s1.set (F.PD_STAT_EPR n) 0).raise (pdEv n 3) else s1

/-- The port detaches (R296): power and VCONN off, the mode left, contract, swap and cable identity discarded. It then shows its
default terminations again, unless it recovers from an error or is disabled. -/
def State.detach (s : State) (n : Nat) (recover : Bool) : State :=
  let s1 := if s.on (F.PD_STAT_ATTACHED n) then
      ((((s.vbReq n false).modeExit n false).dropContract n).sets
        [(F.PD_STAT_ATTACHED n, 0), (F.PD_STAT_ORIENT n, 0), (F.PD_STAT_POWER_ROLE n, 0), (F.PD_STAT_DATA_ROLE n, 0), (F.PD_STAT_VCONN_ON n, 0),
         (F.PD_STAT_NO_DRAW n, 0), (F.PD_STAT_CABLE n, 0), (F.PD_CABLE_VDO_VDO n, 0), (F.PD_STAT_SWAP n, 0)]).raise (pdEv n 1)
    else s
  let x := s1.pd n
  let role := s1.get (F.PD_CTRL_ROLE_DEFAULT n)
  (s1.setPd n { role := role, needSafe := decide (800 ≤ s1.get (F.VB_VOUT_MV n)), errRec := recover, fails := x.fails, entries := x.entries }).set
    (F.PD_STAT_RP n) (if recover ∨ !s1.on (F.PD_CTRL_EN n) then 0 else 2)

/-- Attach as source (R294, R295, R297). -/
def State.attachSrc (s : State) (n : Nat) (cc2 ra : Bool) : State :=
  let s1 := (s.sets [(F.PD_STAT_ATTACHED n, 1), (F.PD_STAT_ORIENT n, b2n cc2), (F.PD_STAT_POWER_ROLE n, 0), (F.PD_STAT_DATA_ROLE n, 0),
    (F.PD_STAT_VCONN_ON n, b2n ra), (F.PD_STAT_NO_DRAW n, 0), (F.PD_STAT_RP n, 2)]).raise (pdEv n 0)
  (s1.mapPd n (fun x => ({ asSrc := true, role := x.role, seq := .start, entries := x.entries } : PdPort))).vbReq n true

/-- Attach as no-draw sink and UFP (R294, R307). -/
def State.attachSnk (s : State) (n : Nat) (cc2 : Bool) : State :=
  let s1 := (s.sets [(F.PD_STAT_ATTACHED n, 1), (F.PD_STAT_ORIENT n, b2n cc2), (F.PD_STAT_POWER_ROLE n, 1), (F.PD_STAT_DATA_ROLE n, 1),
    (F.PD_STAT_VCONN_ON n, 0), (F.PD_STAT_NO_DRAW n, 1), (F.PD_STAT_RP n, 0)]).raise (pdEv n 0)
  s1.mapPd n (fun x => ({ asSrc := false, role := x.role, entries := x.entries } : PdPort))

/-- What the CC pins show leads to an attach or a refusal (R294). -/
def State.attach (s : State) (n : Nat) (cc : CcSeen) : State :=
  let x := s.pd n
  if s.on (F.PD_STAT_ATTACHED n) || !s.on (F.PD_CTRL_EN n) || x.errRec || x.needSafe || s.on (F.VB_STAT_LOCKOUT n) || s.pow.busHeld then s
  else match cc with
    | .rd cc2 ra => if x.role = 1 ∧ !x.trySrc ∧ s.get (F.PD_STAT_RP n) = 0 then s else s.attachSrc n cc2 ra
    | .rdBoth | .raBoth => s.sat (F.PD_ATTACH_REFUSED_COUNT n)
    | .rp _ => if x.role = 1 ∧ !x.trySrc then (s.setPd n { x with trySrc := true }).set (F.PD_STAT_RP n) 2 else s

/-- A port latches off (R325): attached as source, it detaches and removes its terminations, unless the dock bus was the cause. -/
def State.latchOff (s : State) (n cause : Nat) : State :=
  let s1 := s.vbLatch n cause
  if s1.pdSource n ∧ cause ≠ 8 then s1.detach n true else s1

/-! ### Hard and soft resets (R301, R309) -/

/-- A Soft_Reset sent, or received and accepted (R301): a sequence that R301 lets nothing break goes on, and else the port's own sequences start
anew (DEDUCED, log entry 102). -/
def State.softReset (s : State) (n : Nat) (send : Bool) : State :=
  if send then s.softSend n
  else
    let s1 := (s.softClear n).pdSend n .accept
    if (s1.pd n).seq.atomic then s1 else s1.pdNext n

/-- A hard reset sent or received (R309). -/
def State.hardReset (s : State) (n : Nat) (send : Bool) : State :=
  if !s.on (F.PD_STAT_ATTACHED n) then s
  else
    let x := s.pd n
    let swap := decide (x.own ≠ 0) || (match x.seq with | .toSink _ | .toSrc _ => true | _ => false)
    let s1 := ((if send then s.emit (.pd n ⟨false, .hardReset, []⟩) else s).sat (F.PD_HR_COUNT_COUNT n)).raise (pdEv n 6)
    let s2 := if swap then ((s1.mapPd n (fun x => { x with own := max 1 x.own })).swapEnd n 5).raise (pdEv n 7) else s1
    if 2 ≤ x.hr ∧ !s.on (F.PD_STAT_CONTRACT n) then s2.detach n true
    else
      let hr := if s.on (F.PD_STAT_CONTRACT n) then 1 else x.hr + 1
      let s3 := ((s2.modeExit n false).dropContract n).mapPd n (fun x => ({ asSrc := x.asSrc, role := x.role, vcFault := x.vcFault, hr := hr, fails := x.fails, entries := x.entries } : PdPort))
      let s4 := (s3.sets [(F.PD_STAT_POWER_ROLE n, b2n (!x.asSrc)), (F.PD_STAT_DATA_ROLE n, b2n (!x.asSrc)), (F.PD_STAT_NO_DRAW n, b2n (!x.asSrc)),
        (F.PD_STAT_RP n, if x.asSrc then 2 else 0)]).vbReq n false
      if x.asSrc then s4.setSeq n (.hardRst (if (s4.vb n).disch then 0 else 1)) else s4

/-! ### Contracts (R303, R304, R307) -/

/-- An explicit contract is made (R303, R307): the limit follows, and the partner's sink capabilities are asked for. -/
def State.contract (s : State) (n rdo pdo : Nat) : State :=
  let s1 := ((s.sets [(F.PD_STAT_CONTRACT n, 1), (F.PD_CONTRACT_RDO n, rdo), (F.PD_PDO_PDO n, pdo)]).setLimit n).raise (pdEv n 2)
  (s1.mapPd n (fun x => { x with hr := 0, seq := .getSink, vdmDue := x.vdmDue || s1.modeOk n })).pdSend n .getSinkCap

/-- A sink's request is judged (R303). -/
def State.pdRequest (s : State) (n rdo : Nat) (epr : Bool) (copy : Option Nat) : State :=
  if !s.pdSource n then s
  else match (s.pd n).seq with
    | .idle | .caps =>
      let s1 := s.vdmAbort n
      (match s1.pdJudge n epr rdo with
       | some pdo => if copy = none ∨ copy = some pdo then (s1.setSeq n (.accepted rdo pdo)).pdSend n .accept else (s1.pdSend n .reject).pdNext n
       | none => (s1.pdSend n .reject).pdNext n)
    | _ => s

/-- VBUS lies below vSafe0V (R306, R309): a swap to sink goes on, a hard reset waits tSrcRecover. -/
def State.pdSafe (s : State) (n : Nat) : State :=
  let s0 := s.mapPd n (fun x => { x with needSafe := false })
  match (s0.pd n).seq with
  | .toSink 1 =>
    (((s0.dropContract n).sets [(F.PD_STAT_POWER_ROLE n, 1), (F.PD_STAT_RP n, 0)]).setSeq n (.toSink 2)).pdSend n .psRdy
  | .hardRst 0 => s0.setSeq n (.hardRst 1)
  | _ => s0

/-- The move to a contract's voltage, or to 20 V after EPR, starts (R303, R304). -/
def State.srcTransition (s : State) (n : Nat) : State :=
  match (s.pd n).seq with
  | .accepted rdo pdo => (s.startMove n (bits pdo 10 10 * 5) pdo).setSeq n (.moving rdo pdo)
  | .exitRamp => (s.startMove n 2000 ((s.pdoAt n false 4).getD 0)).setSeq n .exitMove
  | .toSink 0 =>
    let s1 := (s.setSeq n (.toSink 1)).vbReq n false
    if (s1.vb n).disch then s1 else s1.pdSafe n
  | _ => s

/-- VOUT has entered the window of a move (R321): PS_RDY goes out. -/
def State.pdMoved (s : State) (n : Nat) : State :=
  match (s.pd n).seq with
  | .moving rdo pdo => (s.pdSend n .psRdy).contract n rdo pdo
  | .exitMove => (s.pdSend n .psRdy).setSeq n .caps
  | _ => s

/-- Before the first capabilities the cable is asked (R298). -/
def State.pdFirst (s : State) (n : Nat) : State :=
  if s.on (F.PD_STAT_VCONN_ON n) && !s.on (F.PD_STAT_CABLE n) && !(s.pd n).vcFault && decide ((s.pd n).tries < 3) then
    (s.mapPd n (fun x => { x with seq := .cable, tries := x.tries + 1 })).pdSend n .vdm [vdmHdr 0xFF00 0 0 1] true
  else s.sendCaps n

/-- A move that waited for the fault timer starts (R323's table). -/
def State.resumeMove (s : State) (n : Nat) : State :=
  if !(s.vb n).moveDue then s
  else match (s.pd n).seq with
    | .moving _ pdo => s.startMove n (bits pdo 10 10 * 5) pdo
    | .exitMove => s.startMove n 2000 ((s.pdoAt n false 4).getD 0)
    | _ => s.mapVb n (fun x => { x with moveDue := false })

/-- Power-good has been asserted (R327): attach goes on, or a swap to source ends (R306). -/
def State.pdGood (s : State) (n : Nat) : State :=
  match (s.pd n).seq with
  | .start => s.pdFirst n
  | .toSrc 1 =>
    let s1 := s.pdSend n .psRdy
    ((if (s1.pd n).ownSwap then s1.swapEnd n 1 else s1.set (F.PD_STAT_SWAP n) 0).mapPd n (fun x => { x with ownSwap := false })).sendCaps n
  | _ => s

/-- The partner's PS_RDY (R306, R307). -/
def State.psRdy (s : State) (n : Nat) : State :=
  match (s.pd n).seq with
  | .snkTrans => s.contract n 0x1300280A (s.pd n).srcPdo
  | .toSink 2 =>
    let s1 := s.set (F.PD_STAT_NO_DRAW n) 1
    ((if (s1.pd n).ownSwap then s1.swapEnd n 1 else s1.set (F.PD_STAT_SWAP n) 0).mapPd n (fun x => { x with ownSwap := false })).pdNext n
  | .toSrc 0 =>
    ((s.dropContract n).sets [(F.PD_STAT_POWER_ROLE n, 0), (F.PD_STAT_NO_DRAW n, 0), (F.PD_STAT_RP n, 2)]).setSeq n (.toSrc 1) |>.vbReq n true
  | _ => s

/-- A power role swap starts, after an Accept (R306). -/
def State.prStart (s : State) (n : Nat) (own : Bool) : State :=
  ((s.vdmAbort n).set (F.PD_STAT_SWAP n) 1).mapPd n (fun x => { x with ownSwap := own, seq := if s.on (F.PD_STAT_POWER_ROLE n) then .toSrc 0 else .toSink 0 })

/-- A data role swap is done (R305): every mode ends. -/
def State.drDone (s : State) (n : Nat) : State :=
  let s1 := (s.modeExit n false).vdmAbort n
  s1.set (F.PD_STAT_DATA_ROLE n) (1 - s1.get (F.PD_STAT_DATA_ROLE n))

/-- EPR is left by hand before a partner's swap (R306). -/
def State.eprOff (s : State) (n : Nat) : State :=
  if s.on (F.PD_STAT_EPR n) then ((s.pdSend n .eprMode [5 * 2 ^ 24]).set (F.PD_STAT_EPR n) 0).raise (pdEv n 3) else s

/-- A partner's PR_Swap (R306, R309). -/
def State.prSwapIn (s : State) (n : Nat) : State :=
  let x := s.pd n
  if s.pdSource n then
    (if x.own = 1 then s.pdSend n .wait
     else if !s.on (F.PD_CTRL_PRS_ACCEPT n) then s.pdSend n .reject
     else if decide (x.seq = .idle) then ((s.eprOff n).pdSend n .accept).prStart n false
     else s.pdSend n .wait)
  else
    let s1 := if x.own = 1 then (s.swapEnd n 4).mapPd n (fun x => { x with again := true }) else s
    (s1.pdSend n .accept).prStart n false

/-- A partner's DR_Swap (R305); a VDM sequence that it ended waits for its turn (R301). -/
def State.drSwapIn (s : State) (n : Nat) : State :=
  if !s.on (F.PD_STAT_DATA_ROLE n) && (s.on (F.PD_STAT_MODE n) || !s.on (F.PD_CTRL_DR_ACCEPT n)) then s.pdSend n .reject
  else
    let s1 := (s.pdSend n .accept).drDone n
    if decide ((s1.pd n).seq = .idle) then s1.pdNext n else s1

/-- The partner's Accept (R306-R308). -/
def State.pdAccept (s : State) (n : Nat) : State :=
  match (s.pd n).seq with
  | .swapReq => if (s.pd n).own = 2 then ((s.drDone n).swapEnd n 1).pdNext n else s.prStart n true
  | .softRst => s.pdNext n
  | .snkReq => s.setSeq n .snkTrans
  | _ => s

/-- A request of the hub is turned down (R308-R310): result 2 REJECTED, 6 TIMEOUT, 7 NOT_SUPPORTED. -/
def State.pdRefused (s : State) (n res : Nat) : State :=
  match (s.pd n).seq with
  | .swapReq => (s.swapEnd n res).pdNext n
  | .softRst => s.hardReset n true
  | .snkReq | .getSink | .caps => if res = 2 then s else s.pdNext n
  | _ => if res ≠ 2 ∧ 1 ≤ (s.pd n).vdm ∧ (s.pd n).vdm ≤ 4 then s.vdmFail n else s

/-- The partner's Wait (R308). -/
def State.pdWait (s : State) (n : Nat) : State :=
  let x := s.pd n
  match x.seq with
  | .swapReq =>
    if s.get (F.PD_SWAP_ATTEMPTS n) ≤ x.sent then (s.swapEnd n 3).pdNext n
    else (s.pdNext n).set (F.PD_STAT_SWAP n) 2
  | _ => s

/-! ### The shedding ladder (R128) -/

/-- The port that level 5 acts on next: one that may be swapped, else one that may be limited to SPR. -/
def State.shedPick (s : State) : Option (Nat × Nat) :=
  let free := (List.range 16).filter (fun n => s.pdSource n && !s.gov.shed.contains n && !s.gov.shed.contains (n + 16))
  let swap := free.find? (fun n => hasBit (s.get F.SHED_PRS_EN_PORTS) n && hasBit (s.get (F.PD_PARTNER_SNK_PDO n)) 29 &&
    hasBit (s.get (F.PD_PARTNER_SNK_PDO n)) 27 && !s.gov.stopped.contains n && (s.pd n).own == 0)
  let spr := free.find? (fun n => hasBit (s.get F.SHED_EPR_EN_PORTS) n && !s.on (F.PD_SRC_SPR_ONLY n))
  match swap, spr with
  | some n, _ => some (n, 1)
  | none, some n => some (n, 2)
  | none, none => none

/-- PD_SRC has changed (R304). -/
def State.pdSrcChanged (s : State) (n : Nat) : State :=
  if !s.pdSource n || !s.on (F.PD_STAT_CONTRACT n) then s
  else if decide ((s.pd n).seq = .idle) then ((s.vdmAbort n).newCaps n).pdShow n
  else s.mapPd n (fun x => { x with capsDue := true })

/-- The level-5 acts of one millisecond, and their undoing (R128). -/
def State.shedStep (s : State) : State :=
  let level := s.get F.LADDER_LEVEL
  let calm := if level ≤ 3 then s.gov.calm + 1 else 0
  let s1 := { s with gov := { s.gov with calm := calm } }
  if level = 5 ∧ (95 ≤ s.get F.RATIO_FEEDA ∨ 95 ≤ s.get F.RATIO_FEEDB ∨ 95 ≤ s.get F.RATIO_DOCK) then
    match s1.shedPick with
    | some (n, 1) => ((({ s1 with gov := { s1.gov with shed := n :: s1.gov.shed } }).wantSwap n 1).pdShow n).emit (.shed n 1)
    | some (n, _) =>
      ((({ s1 with gov := { s1.gov with shed := (n + 16) :: s1.gov.shed } }).set (F.PD_SRC_SPR_ONLY n) 1).pdSrcChanged n).emit (.shed n 2)
    | none => s1
  else if 1000 ≤ calm then
    let high := s1.gov.shed.foldl (fun m e => max m (e % 16 + 1)) 0
    match s1.gov.shed.find? (fun e => e % 16 + 1 == high) with
    | none => s1
    | some e =>
      let n := e % 16
      let s2 := { s1 with gov := { s1.gov with shed := s1.gov.shed.erase e } }
      (if 16 ≤ e then (s2.set (F.PD_SRC_SPR_ONLY n) 0).pdSrcChanged n
       else if s2.pdSink n then (s2.wantSwap n 1).pdShow n else s2).emit (.shed n 3)
  else s1

/-- What the firmware does every millisecond (R125, R128). -/
def State.govFirmware (s : State) : State :=
  let s1 := if s.gov.nSum = 0 then s else s.set F.P_DIE_AVG_MW (s.gov.sumMw / s.gov.nSum)
  ({ s1 with gov := { s1.gov with sumMw := 0, nSum := 0 } }).shedStep

/-! ### Register writes (R315, R330, R331) -/

/-- PD_CMD is written: its requests in bit order. -/
def State.pdCmd (s : State) (n v : Nat) : State :=
  if !s.on (F.PD_STAT_ATTACHED n) then s
  else
    let f := fun (b : Nat) (g : State → State) (s : State) => if hasBit v b then g s else s
    let s1 := f 0 (fun s => s.hardReset n true) s
    let s2 := f 1 (fun s => if s.on (F.PD_STAT_ATTACHED n) then s.softReset n true else s) s1
    let s3 := f 3 (fun s => s.wantSwap n 2) (f 2 (fun s => s.wantSwap n 1) s2)
    let s4 := f 4 (fun s => if s.pdSource n then (if decide ((s.pd n).seq = .idle) then (s.vdmAbort n).sendCaps n else s.mapPd n (fun x => { x with capsDue := true })) else s) s3
    let s5 := f 5 (fun s =>
      let s' := s.mapPd n (fun x => { x with fails := 0, vdmDue := true })
      if decide ((s'.pd n).seq = .idle) && (s'.pd n).own == 0 then s'.vdmStart n else s') s4
    (f 6 (fun s => s.modeExit n true) s5).pdShow n

/-- PD_CTRL.EN has been written (R315): 0 removes the terminations and detaches, 1 shows them again. -/
def State.pdEnable (s s0 : State) (n : Nat) : State :=
  if s.on (F.PD_CTRL_EN n) = s0.on (F.PD_CTRL_EN n) then s
  else if s.on (F.PD_CTRL_EN n) then
    (s.mapPd n (fun x => { x with role := s.get (F.PD_CTRL_ROLE_DEFAULT n) })).set (F.PD_STAT_RP n) (if (s.pd n).errRec then 0 else 2)
  else s.detach n false

/-- What a write to the PD, VBUS and feed pages does beyond storing. -/
def State.powFx (s s0 : State) (x : Wr) : State :=
  match x.k with
  | .dport4 =>
    if x.ro = 0x40 then s.pdEnable s0 x.n
    else if x.ro = 0x48 then
      (if s.get (F.PD_SRC_SPR_ONLY x.n) = s0.get (F.PD_SRC_SPR_ONLY x.n) ∧ s.get (F.PD_SRC_MAX_W x.n) = s0.get (F.PD_SRC_MAX_W x.n) then s
       else s.pdSrcChanged x.n)
    else if x.ro = 0x54 then s.pdCmd x.n x.v
    else s
  | .dport5 =>
    if x.ro = 0x40 then (if 1 ≤ s.vbState x.n ∧ s.vbState x.n ≤ 5 then s.setLimit x.n else s).vbEval x.n
    else if x.ro = 0x44 then (if 1 ≤ s.vbState x.n ∧ s.vbState x.n ≤ 5 then s.setLimit x.n else s)
    else if x.ro = 0x54 then s.setCode x.n
    else if x.ro = 0x58 then
      (let s1 := if hasBit x.v 0 ∧ s.on (F.VB_STAT_LOCKOUT x.n) then (s.set (F.VB_STAT_LOCKOUT x.n) 0).vbEval x.n else s
       if hasBit x.v 1 then s1.set (F.VB_I_PEAK_MA x.n) (s1.get (F.VB_IOUT_MA x.n)) else s1)
    else s
  | .power8 => if x.ro = 0x40 then s.feedCtrl else s
  | _ => s

end Sys2Proof.Machine
end

