-- ==== Sys2Proof/Machine/Scan.lean ====
section
/-! DEFINITION. Scan-out (R332-R347): triggers, frame starts, layers locked to axes, composition, lines, low refresh. -/

namespace Sys2Proof.Machine

/-! ### Settings (R36, R333, R336) -/

/-- The period in force or last written, in 2^-16 ns. -/
def State.soPeriod (s : State) (n : Nat) : Nat := s.eff (F.SO_PERIOD_LO_P n) + 2 ^ 32 * s.eff (F.SO_PERIOD_HI_P n)

def State.soPhase (s : State) (n : Nat) : Nat := s.eff (F.SO_PHASE_LO_NS n) + 2 ^ 32 * s.eff (F.SO_PHASE_HI_NS n)

/-- Does a field lie on an engine's page? -/
def onSoPage (n : Nat) (key : Nat) : Bool := key / 32 / 4096 == 0x800 + n

/-- Has a FRAME field of the engine been written that does not govern yet? -/
def State.soWritten (s : State) (n : Nat) : Bool := s.lag.any (fun e => onSoPage n e.1)

/-- Every FRAME field of the engine governs as last written (R36, R346). -/
def State.soTake (s : State) (n : Nat) : State := { s with lag := s.lag.filter (fun e => !onSoPage n e.1) }

/-- Has a field been written that does not govern yet? -/
def State.waits (s : State) (f : Fld) : Bool := s.lag.any (fun e => e.1 == f.key)

/-- Bytes per pixel of a layer (R336). -/
def bpp (fmt : Nat) : Nat := if fmt = 2 then 1 else 4

def State.lay (s : State) (n l : Nat) : ScanLayer := tget {} (s.eng n).layers l

def State.setLay (s : State) (n l : Nat) (x : ScanLayer) : State := s.mapEng n (fun e => { e with layers := tset e.layers l x })

/-! ### Triggers (R333, R334) -/

/-- The first grid point at or after an instant (R333). -/
def State.gridPoint (s : State) (n : Nat) (t : Int) : Int :=
  let p : Int := s.soPeriod n
  let k := -((-((t - s.soPhase n) * 65536)).fdiv p)
  s.soPhase n + (k * p).fdiv 65536

/-- A trigger falls: a frame start is due, or the trigger is skipped (R334). -/
def State.soTrigger (s : State) (n : Nat) : State :=
  if (s.eng n).due.isSome then s.sat (F.SO_SKIP_COUNT_COUNT n) else s.mapEng n (fun x => { x with due := some s.now })

/-- Has the next trigger's instant come (R333)? -/
def State.soDue (s : State) (n : Nat) : Bool :=
  s.on (F.SO_CTRL_EN n) &&
    (match s.eff (F.SO_CTRL_SRC n) with
     | 0 => true
     | 1 => s.on (F.SO_STAT_FREERUN n) || (match (s.eng n).next with | some t => decide (t ≤ s.now) | none => false)
     | _ => match (s.eng n).next with | some t => decide (t ≤ s.now) | none => false)

/-- The instant after this trigger. -/
def State.soNext (s : State) (n : Nat) : State :=
  s.mapEng n (fun x => { x with next := if s.eff (F.SO_CTRL_SRC n) = 2 then some (s.gridPoint n (s.now + 1)) else none })

/-- An edge of a sync input gives the engines that follow it their next trigger (R333). -/
def State.soSync (s : State) (m : Nat) : State :=
  let t : Int := s.get64 (F.SYNC_LAST_LO_NS m) (F.SYNC_LAST_HI_NS m)
  (List.range 8).foldl (fun s n =>
    if s.on (F.SO_CTRL_EN n) && s.eff (F.SO_CTRL_SRC n) == 1 && s.eff (F.SO_CTRL_SYNC_SEL n) == m then
      let s1 := if s.on (F.SO_STAT_FREERUN n) then (s.set (F.SO_STAT_FREERUN n) 0).raise (soEv n 5) else s
      let at' := t + s1.eff (F.SO_SYNC_DLY_NS n)
      if at' ≤ s1.now then s1.soTrigger n else s1.mapEng n (fun x => { x with next := some at' })
    else s) s

/-- A sync input is lost (R333). -/
def State.soLost (s : State) (m : Nat) : State :=
  (List.range 8).foldl (fun s n =>
    if s.on (F.SO_CTRL_EN n) && s.eff (F.SO_CTRL_SRC n) == 1 && s.eff (F.SO_CTRL_SYNC_SEL n) == m && !s.on (F.SO_STAT_FREERUN n) then
      (s.set (F.SO_STAT_FREERUN n) 1).raise (soEv n 4)
    else s) s

/-- After a step of the hub clock of 1 microsecond or more (R333): `back` tells that it went backwards. -/
def State.soStep (s : State) (back : Bool) : State :=
  (List.range 8).foldl (fun s n =>
    if s.on (F.SO_CTRL_EN n) && s.eff (F.SO_CTRL_SRC n) == 2 then
      let passed := !back && (match (s.eng n).next with | some t => decide (t < s.now) | none => false)
      let s1 := if passed then (s.soTrigger n).sat (F.SO_SLIP_COUNT_COUNT n) else s
      s1.mapEng n (fun x => { x with next := some (s1.gridPoint n s1.now) })
    else s) s

/-- The raster engines on the PTP grid follow a step of 1 microsecond or more (R333). -/
def State.stepScan (s : State) (off : Int) : State := if off.natAbs < 1000 * 2 ^ 32 then s else s.soStep (decide (off < 0))

/-- SO_CTRL.EN is written (R346). -/
def State.soEnable (s s0 : State) (n : Nat) : State :=
  let was := s0.on (F.SO_CTRL_EN n)
  if s.on (F.SO_CTRL_EN n) && !was then
    let s1 := (s.soTake n).set (F.SO_STAT_RUNNING n) 1
    match s1.eff (F.SO_CTRL_SRC n) with
    | 0 => s1.soTrigger n
    | 1 => if s1.on (F.SYNC_CTRL_LOST (s1.eff (F.SO_CTRL_SYNC_SEL n))) then (s1.set (F.SO_STAT_FREERUN n) 1).raise (soEv n 4) else s1
    | _ => s1.mapEng n (fun x => { x with next := some (s1.gridPoint n s1.now) })
  else if !s.on (F.SO_CTRL_EN n) && was then
    ((s.set (F.SO_STAT_RUNNING n) (s.get (F.SO_STAT_SENDING n))).set (F.SO_STAT_FREERUN n) 0).mapEng n (fun x => { x with due := none, next := none })
  else s

/-! ### Axis-locked layers (R339, R340) -/

/-- The predicted position of an axis at an instant (R339). -/
def State.posShown (s : State) (a : Nat) (t : Int) : Int :=
  if s.on (F.AX_STAT_STOPPED a) then (s.axis a).pc else (s.axis a).pc + Int.fdiv (s.vel a * (t - (s.axis a).tc)) 1000

/-- The origin of a layer at a frame start; `ref` tells that P_REF is to be latched. -/
def State.layerStart (s : State) (n l : Nat) (ref : Bool) : State :=
  let x := s.lay n l
  let org := fun (f : Fld) => toSigned 32 (s.eff f)
  let lock := s.eff (F.L_CTRL_LOCK_EN n l) == 1
  let a := s.eff (F.L_CTRL_AXIS n l)
  let due := lock && (ref || !x.lock || x.refDue)
  let show_ := fun (s : State) (x : ScanLayer) =>
    (s.sets [(F.L_ORG_CUR_X n l, ofSigned 16 x.ox), (F.L_ORG_CUR_Y n l, ofSigned 16 x.oy)]).setLay n l x
  if !lock then
    show_ (s.set (F.L_STAT_FROZEN n l) 0)
      { x with lock := false, refDue := false, ox := (org (F.L_ORG_X_ORG n l)).fdiv 65536, oy := (org (F.L_ORG_Y_ORG n l)).fdiv 65536 }
  else if s.unsure a then
    let s1 := if s.on (F.L_STAT_FROZEN n l) then s else (s.set (F.L_STAT_FROZEN n l) 1).raise (soEv n (16 + l))
    show_ s1 { x with lock := true, refDue := due }
  else
    let t : Int := s.now + (s.dlat (48 + s.eff (F.SO_CTRL_PORT n)) : Int) + toSigned 32 (s.eff (F.SO_LOCK_ADJ_NS n))
    let p := s.posShown a t
    let pr := if due then p else x.pRef
    let at' := fun (o sc : Fld) => (org o + Int.fdiv ((p - pr) * org sc) (2 ^ 32 : Nat)).fdiv 65536
    show_ (s.set (F.L_STAT_FROZEN n l) 0)
      { x with lock := true, refDue := false, pRef := pr, ox := at' (F.L_ORG_X_ORG n l) (F.L_SCALE_X_SCALE n l), oy := at' (F.L_ORG_Y_ORG n l) (F.L_SCALE_Y_SCALE n l) }

/-- Is P_REF of a layer latched at this start: has one of R339's fields been written? -/
def State.refWritten (s : State) (n l : Nat) : Bool :=
  s.waits (F.L_CTRL_AXIS n l) && s.eff (F.L_CTRL_AXIS n l) != s.get (F.L_CTRL_AXIS n l) || s.waits (F.L_ORG_X_ORG n l) || s.waits (F.L_ORG_Y_ORG n l) ||
    s.waits (F.L_SCALE_X_SCALE n l) || s.waits (F.L_SCALE_Y_SCALE n l)

/-! ### Fetches (R335, R336, R338) -/

/-- The pixels that a layer draws on a line: the first output pixel and their number. -/
def State.drawn (s : State) (n l y : Nat) : Nat × Nat :=
  let x0 := s.eff (F.L_DST_X n l)
  let y0 := s.eff (F.L_DST_Y n l)
  let x1 := min (x0 + s.eff (F.L_RECT_W n l)) (s.eff (F.SO_SIZE_WIDTH n))
  if s.eff (F.L_CTRL_EN n l) = 1 ∧ y0 ≤ y ∧ y < y0 + s.eff (F.L_RECT_H n l) ∧ x0 < x1 then (x0, x1 - x0) else (x0, 0)

/-- The pool address of a layer's source pixel for an output pixel (R336). -/
def State.srcAddr (s : State) (n l x y : Nat) : Nat :=
  let r := s.lay n l
  let sx := ((x : Int) - s.eff (F.L_DST_X n l) - r.ox) % (s.eff (F.L_SRC_W n l) : Int)
  let sy := ((y : Int) - s.eff (F.L_DST_Y n l) - r.oy) % (s.eff (F.L_SRC_H n l) : Int)
  s.eff (F.L_BASE_LO_ADDR n l) + 2 ^ 32 * s.eff (F.L_BASE_HI_ADDR n l) + sy.toNat * s.eff (F.L_PITCH_BYTES n l) + sx.toNat * bpp (s.eff (F.L_CTRL_FMT n l))

/-- The addresses of a layer's drawn pixels on a line, in output order. -/
def State.lineAddrs (s : State) (n l y : Nat) : List Nat :=
  let d := s.drawn n l y
  (List.range d.2).map (fun i => s.srcAddr n l (d.1 + i) y)

/-- Fetch a line of every layer that is on (R338). -/
def State.fetchLine (s : State) (n y : Nat) : State :=
  if s.eff (F.SO_SIZE_HEIGHT n) ≤ y then s
  else (List.range 4).foldl (fun s l =>
    if s.on (F.L_STAT_OFF n l) then s
    else (((s.lineAddrs n l y).map (fun a => a / 64 * 64)).eraseDups).foldl (fun s a =>
      let tag := 8 * s.scan.nextTag + n
      let s1 := { s with scan := { s.scan with nextTag := s.scan.nextTag + 1 } }
      (s1.mapEng n (fun x => { x with buf := x.buf ++ [{ layer := l, line := y, addr := a, tag := tag }] })).present? (.read 64 32 tag a 64)) s) s

/-- LEAD in force (R335). -/
def State.leadOf (s : State) (n : Nat) : Nat :=
  let b := (List.range 4).foldl (fun w l =>
    w + (if s.eff (F.L_CTRL_EN n l) = 1 then
      (min (s.eff (F.L_DST_X n l) + s.eff (F.L_RECT_W n l)) (s.eff (F.SO_SIZE_WIDTH n)) - s.eff (F.L_DST_X n l)) * bpp (s.eff (F.L_CTRL_FMT n l))
    else 0)) 0
  let lead := s.eff (F.SO_VTIME_FETCH_LEAD n)
  if b = 0 then lead else min lead (1048576 / b - 1)

/-! ### Composition (R337) -/

/-- A quotient: exact where it is an integer; otherwise the integer below or above it, which one being open (log entry 21). -/
def divOpen (a b : Nat) : Nat := if a % b = 0 then a / b else a / b + b2n (Config.roundUp a b)

/-- A pixel of a layer: R, G, B in 10 bits and its alpha times GALPHA, of 65,025. -/
def pixel (fmt colour galpha raw : Nat) : (Nat × Nat × Nat) × Nat :=
  let wide := fun c => divOpen (c * 1023) 255
  match fmt with
  | 0 => ((wide (bits raw 16 8), wide (bits raw 8 8), wide (bits raw 0 8)), bits raw 24 8 * galpha)
  | 1 => ((bits raw 20 10, bits raw 10 10, bits raw 0 10), bits raw 30 2 * 85 * galpha)
  | _ => ((wide (bits colour 16 8), wide (bits colour 8 8), wide (bits colour 0 8)), raw % 256 * galpha)

def blend (a c o : Nat) : Nat := divOpen (a * c + (65025 - a) * o) 65025

/-- One layer's pixel over what lies below. -/
def blendOver (p : (Nat × Nat × Nat) × Nat) (o : Nat × Nat × Nat) : Nat × Nat × Nat :=
  (blend p.2 p.1.1 o.1, blend p.2 p.1.2.1 o.2.1, blend p.2 p.1.2.2 o.2.2)

/-- The fetched bytes at an address, little-endian, if they are there. -/
def State.fetched (s : State) (n l y a len : Nat) : Option Nat :=
  match (s.eng n).buf.find? (fun f => f.layer == l && f.line == y && f.addr == a / 64 * 64) with
  | some f => f.data.map (fun d => d.toNat / 2 ^ (8 * (a % 64)) % 2 ^ (8 * len))
  | none => none

/-- A layer's raw pixels on a line, if all are there: with the first output pixel. -/
def State.layerRow (s : State) (n l y : Nat) : Option (List Nat) :=
  (s.lineAddrs n l y).mapM (fun a => s.fetched n l y a (bpp (s.eff (F.L_CTRL_FMT n l))))

/-- The composed pixels of a line, in 10 bits. -/
def State.composed (s : State) (n y : Nat) : List (Nat × Nat × Nat) :=
  let rows := (List.range 4).filterMap (fun l =>
    if s.on (F.L_STAT_OFF n l) then none else (s.layerRow n l y).map (fun r => (l, (s.drawn n l y).1, r)))
  (List.range (s.eff (F.SO_SIZE_WIDTH n))).map (fun x =>
    rows.foldl (fun o r =>
      if r.2.1 ≤ x ∧ x < r.2.1 + r.2.2.length then
        blendOver (pixel (s.eff (F.L_CTRL_FMT n r.1)) (s.eff (F.L_COLOUR_RGB n r.1)) (s.eff (F.L_CTRL_GALPHA n r.1)) (r.2.2.getD (x - r.2.1) 0)) o
      else o) (0, 0, 0))

/-- BT.709 luma of a pixel, times 10,000. -/
def luma (p : Nat × Nat × Nat) : Nat := 2126 * p.1 + 7152 * p.2.1 + 722 * p.2.2

/-- Y of a pixel in limited range (R337). -/
def yOf (p : Nat × Nat × Nat) : Nat := divOpen (16 * 10230000 + 219 * luma p) 10230000

/-- The mean of a chroma component over a pair: 128 + 224 (c - L) / (k 1023), with k in 1/10,000. -/
def chroma (c1 c2 l1 l2 k : Nat) : Nat :=
  let den := 2 * 1023 * k
  divOpen (128 * den + 224 * 10000 * (c1 + c2) - 224 * (l1 + l2)) den

/-- YCbCr 4:2:2 of a pair of pixels. -/
def pairBytes (p q : Nat × Nat × Nat) : List (BitVec 8) :=
  [BitVec.ofNat 8 (chroma p.2.2 q.2.2 (luma p) (luma q) 18556), BitVec.ofNat 8 (yOf p),
   BitVec.ofNat 8 (chroma p.1 q.1 (luma p) (luma q) 15748), BitVec.ofNat 8 (yOf q)]

def pairsOut : List (Nat × Nat × Nat) → List (BitVec 8)
  | p :: q :: l => pairBytes p q ++ pairsOut l
  | [p] => pairBytes p p
  | [] => []

/-- The bytes of a line in an output format (R278, R337). -/
def lineBytes (fmt : Nat) (l : List (Nat × Nat × Nat)) : List (BitVec 8) :=
  match fmt with
  | 0 => l.foldr (fun p b =>
      let r := fun c => BitVec.ofNat 8 ((2 * c * 255 + 1023) / 2046)
      r p.1 :: r p.2.1 :: r p.2.2 :: b) []
  | 1 => l.foldr (fun p b => leBytes 4 (p.1 * 2 ^ 20 + p.2.1 * 1024 + p.2.2) ++ b) []
  | _ => pairsOut l

/-! ### Flits (R277, R278) -/

/-- A T-DISP body. -/
def dispBody (flags line off : Nat) (d : List (BitVec 8)) : List (BitVec 8) :=
  [BitVec.ofNat 8 flags, BitVec.ofNat 8 d.length] ++ leBytes 2 line ++ leBytes 4 off ++ padTo 228 d

/-- A line's data in pieces of at most 228 bytes, with their offsets. -/
def lineParts : Nat → Nat → List (BitVec 8) → List (Nat × List (BitVec 8))
  | 0, _, _ => []
  | k + 1, off, l => if l.length ≤ 228 then [(off, l)] else (off, l.take 228) :: lineParts k (off + 228) (l.drop 228)

def State.soChan (s : State) (n : Nat) : Nat := chW 3 (s.eff (F.SO_CTRL_SINK n))

def State.soGen (s : State) (n : Nat) : Nat := s.chGen (s.eff (F.SO_CTRL_PORT n)) (s.soChan n)

/-- Flits wait for the core. -/
def State.soQueue (s : State) (n : Nat) (l : List (List (BitVec 8) × Bool)) : State := s.mapEng n (fun x => { x with outQ := x.outQ ++ l })

/-- Flits enter the core while it takes them (R335). -/
def State.soDrain : Nat → State → Nat → State
  | 0, s, _ => s
  | k + 1, s, n =>
    match (s.eng n).outQ with
    | [] => s
    | (b, e) :: l =>
      let port := s.eff (F.SO_CTRL_PORT n)
      let c : CellIn := { src := 64, dst := Fin.ofNat 72 (48 + port), kind := .tunnel (BitVec.ofNat 16 (768 + s.eff (F.SO_CTRL_SINK n))), queue := 0, payload := b, tag := .none, credits := decide (0 < s.get (availF port 3)), som := true, eom := e }
      let s1 := s.arrive c
      if s1.sw.nextId = s.sw.nextId then s1 else soDrain k (s1.mapEng n (fun x => { x with outQ := l })) n

/-- The header flit of a frame (R278). -/
def State.soHeader (s : State) (n div : Nat) : State :=
  let d := leBytes 4 (s.get (F.SO_FRAME_NUMBER n)) ++ leBytes 2 (s.eff (F.SO_SIZE_WIDTH n)) ++ leBytes 2 (s.eff (F.SO_SIZE_HEIGHT n)) ++
    [BitVec.ofNat 8 (s.eff (F.SO_CTRL_FORMAT n)), BitVec.ofNat 8 div, 0, 0] ++ leBytes 8 (s.get64 (F.SO_START_LO_NS n) (F.SO_START_HI_NS n))
  s.soQueue n [(dispBody (s.soGen n + 16) 0xFFFF 0 (padTo 228 d), false)]

/-! ### Frame starts (R332, R334, R341, R342, R345) -/

/-- Can the engine's sink take the frame (R332)? -/
def State.sinkOk (s : State) (n : Nat) : Bool :=
  match (s.lk (s.eff (F.SO_CTRL_PORT n))).sinks[s.eff (F.SO_CTRL_SINK n)]? with
  | none => false
  | some k =>
    let per := if s.eff (F.SO_CTRL_SRC n) = 1 then 65536 * s.get (F.SYNC_PERIOD_NS (s.eff (F.SO_CTRL_SYNC_SEL n))) else s.soPeriod n
    decide (s.eff (F.SO_SIZE_WIDTH n) ≤ k.width.toNat) && decide (s.eff (F.SO_SIZE_HEIGHT n) ≤ k.height.toNat) &&
      hasBit k.formats.toNat (s.eff (F.SO_CTRL_FORMAT n)) && decide (1000000000 / k.refresh.toNat * 65536 ≤ per) &&
      decide (s.eff (F.SO_SIZE_HEIGHT n) < s.eff (F.SO_VTIME_VTOTAL n))

/-- The axes of the locked layers that are drawn. -/
def State.lockedAxes (s : State) (n : Nat) : List Nat :=
  ((List.range 4).filter (fun l => s.eff (F.L_CTRL_EN n l) == 1 && s.eff (F.L_CTRL_LOCK_EN n l) == 1)).map (fun l => s.eff (F.L_CTRL_AXIS n l))

/-- A frame is sent: its header, and the first fetches. -/
def State.soSend (s : State) (n : Nat) (took : Bool) : State :=
  let x := s.eng n
  let still := (s.lockedAxes n).all (fun a => s.on (F.AX_STAT_STOPPED a)) &&
    (List.range 4).all (fun l => s.eff (F.L_CTRL_EN n l) == 0 || s.eff (F.L_CTRL_LOCK_EN n l) == 0 ||
      (decide ((s.lay n l).ox = (s.lay n l).sentOx) && decide ((s.lay n l).oy = (s.lay n l).sentOy)))
  let div := if s.on (F.SO_STAT_LOW n) then s.eff (F.SO_LOWREF_DIV n) else 1
  let s1 := (s.sets [(F.SO_STAT_SENDING n, 1), (F.SO_STAT_RUNNING n, 1), (F.SO_STAT_DIV n, div), (F.SO_STAT_LEAD n, s.leadOf n)]).setEng n
    { x with line := 0, buf := [], dirty := false, cand := !took && !x.dirty && still && x.sent, since := 0, full := false }
  let s2 := (List.range 4).foldl (fun s l =>
    (s.set (F.L_STAT_OFF n l) (s.get (F.L_STAT_HELD n l))).setLay n l { s.lay n l with crc := 0, sentOx := (s.lay n l).ox, sentOy := (s.lay n l).oy }) s1
  ((List.range (s2.leadOf n)).foldl (fun s y => s.fetchLine n y) (s2.soHeader n div)).soDrain 2 n

def State.soSkip (s : State) (n : Nat) : State := s.sat (F.SO_SKIP_COUNT_COUNT n)

/-- The decision to send or skip, once the frame's fields govern (R332, R341, R342, R345). -/
def State.soDecide (s : State) (n : Nat) (took : Bool) : State :=
  let port := s.eff (F.SO_CTRL_PORT n)
  if s.lkState port ≠ 2 ∨ s.chState port (s.soChan n) ≠ 1 then
    ((s.set (F.SO_STAT_NO_SINK n) 1).soSkip n).mapEng n (fun x => { x with full := true })
  else if !s.sinkOk n then
    let s1 := (s.set (F.SO_STAT_NO_SINK n) 0).soSkip n
    if s1.on (F.SO_STAT_SINK_LIMIT n) then s1 else (s1.set (F.SO_STAT_SINK_LIMIT n) 1).raise (soEv n 6)
  else
    let s1 := s.sets [(F.SO_STAT_NO_SINK n, 0), (F.SO_STAT_SINK_LIMIT n, 0)]
    let x := s1.eng n
    if !s1.on (F.SO_STAT_LOW n) then s1.soSend n took
    else if took || x.dirty || x.full || !x.lastQ || (s1.lockedAxes n).any (fun a => !s1.on (F.AX_STAT_STOPPED a)) then
      (((s1.set (F.SO_STAT_LOW n) 0).raise (soEv n 3)).mapEng n (fun x => { x with quiet := 0 })).soSend n took
    else if s1.eff (F.SO_LOWREF_DIV n) ≤ x.since + 1 then s1.soSend n took
    else (s1.soSkip n).mapEng n (fun x => { x with since := x.since + 1 })

/-- A frame start's first part (R334): the number, the instant, and whether it slipped. -/
def State.soBegin (s : State) (n : Nat) : State :=
  let s1 := (s.wrap (F.SO_FRAME_NUMBER n)).set64 (F.SO_START_LO_NS n) (F.SO_START_HI_NS n) s.now
  match (s.eng n).due with
  | some t => if s.soPeriod n < (s.now - t) * 65536 * s.eff (F.SO_VTIME_VTOTAL n) then (s1.sat (F.SO_SLIP_COUNT_COUNT n)).raise (soEv n 1) else s1
  | none => s1

/-- A frame start's second part, after the commits that name it: FRAME fields govern, the origins are formed, the frame is sent or
skipped. -/
def State.soStart (s : State) (n : Nat) : State :=
  let took := s.soWritten n
  let refs := (List.range 4).map (fun l => s.refWritten n l)
  let s1 := (s.soTake n).mapEng n (fun x => { x with due := none })
  let s2 := (List.range 4).foldl (fun s l => s.layerStart n l (refs.getD l false)) s1
  s2.soDecide n took

/-! ### Lines (R335, R341, R343) -/

/-- A layer's part of a line that is not there is left out, for the rest of the frame (R343). -/
def State.underrun (s : State) (n y : Nat) : State :=
  (List.range 4).foldl (fun s l =>
    if s.on (F.L_STAT_OFF n l) || (s.drawn n l y).2 == 0 || (s.layerRow n l y).isSome then s
    else ((s.set (F.L_STAT_OFF n l) 1).sat (F.L_UNDERRUN_COUNT_COUNT n l)).raise (soEv n (8 + l))) s

/-- The fetched bytes of a line join each layer's CRC (R341). -/
def State.lineCrc (s : State) (n y : Nat) : State :=
  (List.range 4).foldl (fun s l =>
    if s.on (F.L_STAT_OFF n l) then s
    else match s.layerRow n l y with
      | some r => s.setLay n l { s.lay n l with crc := crc32c (s.lay n l).crc (r.foldr (fun v b => (leBytes (bpp (s.eff (F.L_CTRL_FMT n l))) v).map (·.toNat) ++ b) []) }
      | none => s) s

/-- The last line has been handed over: the frame's CRCs, and low refresh (R341). -/
def State.soEnd (s : State) (n : Nat) : State :=
  let x := s.eng n
  let on := (List.range 4).filter (fun l => s.eff (F.L_CTRL_EN n l) == 1)
  let q := x.cand && on.all (fun l => (s.lay n l).crc == s.get (F.L_CRC_CRC n l))
  let s1 := on.foldl (fun s l => s.set (F.L_CRC_CRC n l) (s.lay n l).crc) s
  let k := if q then x.quiet + 1 else 0
  let s2 := ((((s1.setEng n { x with quiet := k, lastQ := q, sent := true, buf := [] }).sets
    [(F.SO_STAT_SENDING n, 0), (F.SO_STAT_RUNNING n, s.get (F.SO_CTRL_EN n))]).sat (F.SO_SENT_COUNT_COUNT n)).raise (soEv n 0))
  if s2.eff (F.SO_CTRL_LOWREF_EN n) = 1 ∧ s2.eff (F.SO_LOWREF_HOLD n) ≤ k ∧ !s2.on (F.SO_STAT_LOW n) then
    (s2.set (F.SO_STAT_LOW n) 1).raise (soEv n 2)
  else s2

/-- A line's hand-over (R335). -/
def State.soLine (s : State) (n : Nat) : State :=
  let y := (s.eng n).line
  let h := s.eff (F.SO_SIZE_HEIGHT n)
  let s1 := (s.underrun n y).lineCrc n y
  let drop := (List.range 4).any (fun l => s1.eff (F.L_CTRL_EN n l) == 1 && s1.on (F.L_STAT_OFF n l))
  let d := lineBytes (s1.eff (F.SO_CTRL_FORMAT n)) (s1.composed n y)
  let ps := lineParts (d.length + 1) 0 d
  let body := ps.zipIdx.map (fun p =>
    let eol := p.2 + 1 == ps.length
    let eof := eol && y + 1 == h
    (dispBody (s1.soGen n + 32 * b2n eol + 64 * b2n eof + 128 * b2n drop) y p.1.1 p.1.2, eof))
  let s2 := (s1.soQueue n body).mapEng n (fun x => { x with line := y + 1, buf := x.buf.filter (fun f => f.line != y) })
  let s3 := (s2.fetchLine n (y + s2.get (F.SO_STAT_LEAD n))).soDrain ((s2.eng n).outQ.length + 1) n
  if h ≤ y + 1 then s3.soEnd n else s3

/-! ### Register writes (R332, R333, R336, R347) -/

/-- Why a write to a scan-out page is refused. -/
def State.soChk (s : State) (x : Wr) : Option Reason :=
  let bad := fun (b : Bool) => if b then some Reason.badValue else none
  let n := x.n
  let period := fun (p : Nat) => bad (decide (p < 4166666 * 65536) || decide (1000000000 * 65536 < p))
  let row := fun (fmt w pitch : Nat) => bad (decide (pitch < w * bpp fmt))
  if x.ro = 0x40 then
    bad (bits x.v 20 2 == 3 || (hasBit x.v 0 && (List.range 8).any (fun e => e != n && s.on (F.SO_CTRL_EN e) &&
      s.get (F.SO_CTRL_PORT e) == bits x.v 8 4 && s.get (F.SO_CTRL_SINK e) == bits x.v 12 2)))
  else if x.ro = 0x4c then period (x.v + 2 ^ 32 * s.get (F.SO_PERIOD_HI_P n))
  else if x.ro = 0x50 then period (s.get (F.SO_PERIOD_LO_P n) + 2 ^ 32 * (x.v % 65536))
  else if x.ro = 0x100 then
    (if bits x.v 1 2 = 3 then some .badValue else row (bits x.v 1 2) (s.get (F.L_SRC_W n x.i)) (s.get (F.L_PITCH_BYTES n x.i)))
  else if x.ro = 0x10c then row (s.get (F.L_CTRL_FMT n x.i)) (s.get (F.L_SRC_W n x.i)) (x.v % 2 ^ 24)
  else if x.ro = 0x110 then row (s.get (F.L_CTRL_FMT n x.i)) (x.v % 65536) (s.get (F.L_PITCH_BYTES n x.i))
  else none

/-- What a write to a scan-out page does beyond storing. -/
def State.soFx (s s0 : State) (x : Wr) : State :=
  if x.ro = 0x40 then s.soEnable s0 x.n
  else if x.ro = 0x68 then (if hasBit x.v 0 then s.mapEng x.n (fun e => { e with dirty := true }) else s)
  else if x.ro = 0x100 then s.set (F.L_STAT_HELD x.n x.i) 0
  else s

end Sys2Proof.Machine
end

