-- ==== Sys2Proof/Machine/Vault.lean ====
section
/-! DEFINITION. The key vault, the root cell and its tamper sources, attestation and IDE keys, the life cycle and the OTP records
(R422-R442). -/

namespace Sys2Proof.Machine

def State.mapVault (s : State) (f : VaultSt → VaultSt) : State := { s with vault := f s.vault }

/-! ### Slots (R422, R423, R428) -/

/-- A slot that KV_CMD may not name as its target (R423). -/
def reservedSlot (k : Nat) : Bool := decide (k < 2) || decide (64 ≤ k)

/-- A slot's key is set under a fresh mask. -/
def State.putKey (s : State) (k key : Nat) : State :=
  let m := s.fresh.1 % 2 ^ 256
  s.fresh.2.mapVault (fun v => { v with keys := tset v.keys k ⟨(key % 2 ^ 256) ^^^ m, m⟩ })

/-- A slot is filled with a key, its attribute, EXPORT flag and owner. -/
def State.fillSlot (s : State) (k key attr : Nat) (exp : Bool) (owner : Nat) : State :=
  (s.putKey k key).sets [(F.KS_INFO_VALID k, 1), (F.KS_INFO_EXPORT k, b2n exp), (F.KS_INFO_ATTR k, attr),
    (F.KS_INFO_FIXED k, b2n (reservedSlot k)), (F.KS_INFO_OWNER k, owner), (F.KS_USES_COUNT k, 0)]

/-- A slot becomes EMPTY. -/
def State.emptySlot (s : State) (k : Nat) : State :=
  (s.mapVault (fun v => { v with keys := tdel v.keys k })).sets [(F.KS_INFO_VALID k, 0), (F.KS_INFO_EXPORT k, 0), (F.KS_INFO_ATTR k, 0),
    (F.KS_INFO_FIXED k, 0), (F.KS_INFO_OWNER k, 0xFF), (F.KS_USES_COUNT k, 0)]

/-- Every slot becomes EMPTY; KS000 and KS001 are then not formed. -/
def State.emptyAll (s : State) : State :=
  ((s.vault.keys.map (fun e => e.1)).foldl State.emptySlot s).set F.ROOT_STAT_KEYS 0

/-! ### The KDF (R426) -/

/-- A 4-byte counter or length, most significant byte first. -/
def be32 (n : Nat) : List (BitVec 8) := (leBytes 4 n).reverse

/-- `blocks` 16-byte blocks of the KDF's output as one number, the first block the most significant. -/
def kdfBlocks (key len : Nat) (input : List (BitVec 8)) : Nat → Nat
  | 0 => 0
  | i + 1 => kdfBlocks key len input i * 2 ^ 128 + Config.cmac key (be32 (i + 1) ++ input ++ be32 len) % 2 ^ 128

/-- The KDF with L = 256. -/
def kdf (key : Nat) (input : List (BitVec 8)) : Nat := kdfBlocks key 256 input 2

/-- The fixed input of a root derivation (R425): an ASCII label, 0x00, and the serial number, least significant byte first. -/
def rootInput (label : List Nat) (serial : Nat) : List (BitVec 8) := label.map (BitVec.ofNat 8) ++ [0] ++ leBytes 8 serial

/-- "JF ROOT DERIVE". -/
def labelDerive : List Nat := [0x4A, 0x46, 0x20, 0x52, 0x4F, 0x4F, 0x54, 0x20, 0x44, 0x45, 0x52, 0x49, 0x56, 0x45]

/-- "JF ROOT WRAP". -/
def labelWrap : List Nat := [0x4A, 0x46, 0x20, 0x52, 0x4F, 0x4F, 0x54, 0x20, 0x57, 0x52, 0x41, 0x50]

/-- "JF ROOT IDENTITY". -/
def labelIdentity : List Nat := [0x4A, 0x46, 0x20, 0x52, 0x4F, 0x4F, 0x54, 0x20, 0x49, 0x44, 0x45, 0x4E, 0x54, 0x49, 0x54, 0x59]

def State.serial (s : State) : Nat := s.get64 F.SERIAL_LO_SERIAL F.SERIAL_HI_SERIAL

/-- KS000 and KS001 are formed from a valid root (R425); without one they stay EMPTY (R432). -/
def State.formRoot (s : State) : State :=
  match s.vault.root with
  | none => (s.put F.ROOT_STAT_VALID false).put F.ROOT_STAT_KEYS false
  | some r =>
    (((s.fillSlot 0 (kdf r (rootInput labelDerive s.serial)) 3 false 0x20).fillSlot 1 (kdf r (rootInput labelWrap s.serial)) 2 false 0x20).put
      F.ROOT_STAT_VALID true).put F.ROOT_STAT_KEYS true

/-- The order of the group secp384r1 (PRESUMED, log entry 33: the standard's, which R430 names without its number). -/
def orderP384 : Nat :=
  0xFFFFFFFFFFFFFFFFFFFFFFFFFFFFFFFFFFFFFFFFFFFFFFFFC7634D81F4372DDF581A0DB248B0A77AECEC196ACCC52973

/-- The identity's private scalar (R430): 448 bits of the KDF, mod (n - 1), plus 1. -/
def State.identity (s : State) : Option Nat :=
  s.vault.root.map (fun r => kdfBlocks r 448 (rootInput labelIdentity s.serial) 4 / 2 ^ 64 % (orderP384 - 1) + 1)

/-! ### The DRBG (R427) -/

def State.entropyOk (s : State) : Bool := !s.on F.DRBG_STAT_FAIL

/-- A request to the DRBG: it reseeds after KV_CTRL.RESEED of them. -/
def State.drbgUse (s : State) : State :=
  s.mapVault (fun v => { v with reqs := if s.get F.KV_CTRL_RESEED ≤ v.reqs + 1 then 0 else v.reqs + 1 })

/-- A failed health test stops the DRBG. -/
def State.drbgFail (s : State) (reason : Nat) : State :=
  (s.sets [(F.DRBG_STAT_FAIL, 1), (F.DRBG_STAT_OK, 0), (F.DRBG_STAT_REASON, reason)]).raise 4066

/-- The DRBG is seeded and runs. -/
def State.drbgStart (s : State) : State := (s.mapVault (fun v => { v with reqs := 0 })).set F.DRBG_STAT_OK 1

/-- Every slot's mask is replaced (R428): from the DRBG, or by the KDF from the previous mask while it is stopped. -/
def State.remask (s : State) : State :=
  (s.vault.keys.foldl (fun s e =>
    let key := e.2.masked ^^^ e.2.mask
    if s.entropyOk then s.putKey e.1 key
    else
      let m := kdf e.2.mask []
      s.mapVault (fun v => { v with keys := tset v.keys e.1 ⟨key ^^^ m, m⟩ })) s).sat F.REMASK_COUNT_COUNT

/-! ### Vault commands (R424) -/

/-- The first `n` bytes of a path's KV_DATA. -/
def State.kvData (s : State) (c n : Nat) : List (BitVec 8) :=
  (((List.range 12).map (fun i => leBytes 4 (s.get (F.KV_DATA_BYTES c i)))).flatten).take n

/-- KV_DATA receives bytes, least significant first. -/
def State.kvOut (s : State) (c : Nat) (b : List (BitVec 8)) : State :=
  (List.range 12).foldl (fun s i => if 4 * i < b.length then s.set (F.KV_DATA_BYTES c i) (leNat ((b.drop (4 * i)).take 4)) else s) s

/-- KV_DATA and KV_LEN of a path are cleared. -/
def State.kvClear (s : State) (c : Nat) : State :=
  (List.range 12).foldl (fun s i => s.set (F.KV_DATA_BYTES c i) 0) (s.set (F.KV_LEN_BYTES c) 0)

/-- The RESULT that keeps a command from running, in the order of its checks (log entry 23); 0 if it runs. -/
def State.kvBlocked (s : State) (c op t k : Nat) : Nat :=
  let own := fun x => c == 0x20 || !s.on (F.KS_INFO_VALID x) || s.get (F.KS_INFO_OWNER x) == c
  let src := op == 2 || op == 3 || op == 4
  let tgt := op != 6
  if tgt && reservedSlot t then 9
  else if (tgt && !own t) || (src && !own k) then 1
  else if (op == 1 || op == 2 || op == 3) && s.on (F.KS_INFO_VALID t) then 4
  else if (src && !s.on (F.KS_INFO_VALID k)) || (op == 4 && !s.on (F.KS_INFO_VALID t)) then 3
  else if src && s.get (F.KS_INFO_ATTR k) != (if op = 2 then 3 else 2) then 2
  else if op == 4 && !s.on (F.KS_INFO_EXPORT t) then 8
  else if (op == 1 || op == 6) && !s.entropyOk then 6
  else 0

/-- A slot is used. -/
def State.slotUse (s : State) (k : Nat) : State := s.sat (F.KS_USES_COUNT k)

/-- A vault command of a path runs (R424): the RESULT, and the state. -/
def State.kvOp (s : State) (c : Nat) : Nat × State :=
  let op := s.get (F.KV_CMD_OP c)
  let t := s.get (F.KV_CMD_TARGET c)
  let k := s.get (F.KV_CMD_SOURCE c)
  let data := s.kvData c (s.get (F.KV_LEN_BYTES c))
  let owner := if c = 0x20 ∧ s.get (F.KV_OWNER_REQ c) ≠ 0xFF then s.get (F.KV_OWNER_REQ c) else c
  let fill := fun (s : State) key => s.fillSlot t key (s.get (F.KV_CMD_ATTR c)) (s.on (F.KV_CMD_EXPORT c)) owner
  let b := s.kvBlocked c op t k
  if b ≠ 0 then (b, s)
  else match op with
    | 1 => (0, fill s.drbgUse.fresh.2 (s.drbgUse.fresh.1 % 2 ^ 256))
    | 2 => (0, fill (s.slotUse k) (kdf ((s.slotKey k).getD 0) data))
    | 3 =>
      match Config.keyUnwrap ((s.slotKey k).getD 0) data with
      | none => (5, s.slotUse k)
      | some (len, key) => if len = 32 then (0, fill (s.slotUse k) key) else (7, s.slotUse k)
    | 4 => (0, (s.slotUse k).kvOut c ((Config.keyWrap ((s.slotKey k).getD 0) ((s.slotKey t).getD 0)).take 40))
    | 5 => (0, s.emptySlot t)
    | _ => (0, s.drbgUse.fresh.2.kvOut c (leBytes 48 s.drbgUse.fresh.1))

/-- KV_CMD.GO: the command, its RESULT, and the clearing of its input. -/
def State.kvRun (s : State) (c : Nat) : State :=
  let r := s.kvOp c
  let s1 := r.2.set (F.KV_STAT_RESULT c) r.1
  let op := s.get (F.KV_CMD_OP c)
  if op = 1 ∨ op = 2 ∨ op = 3 then s1.kvClear c else s1

/-! ### Root cell and tamper (R432-R434) -/

/-- Has IDE in force on an H- or M-port. -/
def State.ideOn (s : State) (p : Nat) : Bool := s.on (if p < 32 then F.HP_STAT_IDE p else F.MP_STAT_IDE (p - 32))

/-- The root cell's secret is erased; a flash copy of the repair map that the old identity signed is then no longer valid (R452). -/
def State.eraseRoot (s : State) : State :=
  (({ s with rep := { s.rep with flash := none } }).mapVault (fun v => { v with root := none })).set F.ROOT_STAT_VALID 0

/-- What the powered fabric die does at a tamper (R434): slots empty, sealed dock links and ports under IDE down. -/
def State.tamperFabric (s : State) : State :=
  let s1 := (List.range 16).foldl (fun s n => if s.on (F.LK_STAT_ENC n) && s.lkState n != 0 then s.lkDown n 11 else s) s.emptyAll
  ((List.range 48).foldl (fun s p => if s.ideOn p then s.portDown p else s) s1).raise 4064

/-- A tamper source trips (R434). -/
def State.tamper (s : State) (src : Nat) : State :=
  if hasBit (s.get F.TAMPER_EN_SRC) src then
    let s1 := ((s.eraseRoot.sets [(F.TAMPER_STAT_LAST, 2 ^ src), (F.TAMPER_STAT_LATCH, putBit (s.get F.TAMPER_STAT_LATCH) src true),
      (F.TAMPER_TIME_S, s.vault.secs / 1000000000)]).sat F.TAMPER_COUNT_COUNT)
    if s.isDark then (s1.mapVault (fun v => { v with late := true, keys := [] })) else s1.tamperFabric
  else s

/-- Why ROOT_CMD.GEN is refused (R432). -/
def State.rootGenChk (s : State) (p : Nat) : Option Reason :=
  if p ≠ 0x20 then some .notOwner
  else if s.vault.root.isSome || s.get F.TAMPER_STAT_LATCH != 0 || s.life == 0 || s.life == 5 then some .badValue
  else none

/-- ROOT_CMD.GEN fills the empty cell from the DRBG (R432). -/
def State.rootGen (s : State) : State :=
  if s.entropyOk then
    ((s.drbgUse.fresh.2.mapVault (fun v => { v with root := some (s.drbgUse.fresh.1 % 2 ^ 256) })).set F.ROOT_STAT_VALID 1).raise 4067
  else s

/-! ### OTP records (R438, R439) -/

def State.otpWord (s : State) (w : Nat) : Nat := tget 0 s.otp.words w

def State.mapOtp (s : State) (f : OtpSt → OtpSt) : State := { s with otp := f s.otp }

/-- The first word and the length of a record. -/
def recAt (id : Nat) : Nat × Nat := [(0, 0), (16, 6), (48, 12), (104, 1), (116, 12), (172, 12), (228, 8), (268, 32)].getD id (0, 0)

/-- The header word of a generation slot. -/
def recHeader (id g : Nat) : Nat := id * 2 ^ 24 + (recAt id).2 * 2 ^ 16 + g * 256 + 0xA5

/-- The CRC-32C over words, each least significant byte first. -/
def crcWords (l : List Nat) : Nat := crc32c 0 ((l.map (fun w => (List.range 4).map (fun i => w / 256 ^ i % 256))).flatten)

/-- The first word of a generation slot. -/
def slotAt (id g : Nat) : Nat := (recAt id).1 + g * ((recAt id).2 + 2)

/-- The words of a slot after its header: the data. -/
def State.slotData (s : State) (id g : Nat) : List Nat := (List.range (recAt id).2).map (fun i => s.otpWord (slotAt id g + 1 + i))

/-- Is a generation slot valid? -/
def State.genValid (s : State) (id g : Nat) : Bool :=
  !s.otp.bad.contains (4 * id + g) && s.otpWord (slotAt id g) == recHeader id g &&
    s.otpWord (slotAt id g + 1 + (recAt id).2) == crcWords (recHeader id g :: s.slotData id g)

/-- Has a generation slot been written? -/
def State.genUsed (s : State) (id g : Nat) : Bool :=
  s.otp.bad.contains (4 * id + g) || (List.range ((recAt id).2 + 2)).any (fun i => s.otpWord (slotAt id g + i) != 0)

/-- The data of a record's highest valid generation. -/
def State.recNow (s : State) (id : Nat) : Option (List Nat) := ([3, 2, 1, 0].find? (s.genValid id)).map (s.slotData id)

/-- The life-cycle states in which a record may be written. -/
def recStates (id : Nat) : List Nat := [[], [1], [1, 2], [1, 2, 3], [2, 3], [1], [1, 4], [1, 4]].getD id []

/-- OTP_CMD.GO (R439): the write starts, or completes at once with its RESULT. -/
def State.otpGo (s : State) : State :=
  let id := s.get F.OTP_CMD_ID
  let res := fun n => s.set F.OTP_STAT_RESULT n
  if s.on F.OTP_STAT_BUSY then s
  else if id = 0 ∨ 7 < id then res 4
  else if !(recStates id).contains s.life then res 2
  else match [0, 1, 2, 3].find? (fun g => !s.genUsed id g) with
    | none => res 1
    | some g => (s.set F.OTP_STAT_BUSY 1).mapOtp (fun o =>
        { o with busy := some (id, g, (List.range (recAt id).2).map (fun i => s.get (F.OTP_BUF_DATA i))) })

/-- Words are blown from a word on. -/
def State.otpPut (s : State) (w : Nat) : List Nat → State
  | [] => s
  | x :: l => (s.mapOtp (fun o => { o with words := tput 0 o.words w (Nat.lor (tget 0 o.words w) x) })).otpPut (w + 1) l

/-- The write of a record ends (R439); a slot whose read-back failed holds no known bits and is invalid. -/
def State.otpDone (s : State) (ok : Bool) : State :=
  match s.otp.busy with
  | none => s
  | some (id, g, data) =>
    let h := recHeader id g
    let s1 := (s.set F.OTP_STAT_BUSY 0).mapOtp (fun o => { o with busy := none })
    if ok then (((s1.otpPut (slotAt id g) (h :: data ++ [crcWords (h :: data)])).sets [(F.OTP_STAT_RESULT, 0), (F.OTP_STAT_GEN, g)])).raise 4080
    else
      let s2 := (List.range (data.length + 2)).foldl (fun s i =>
        s.fresh.2.otpPut (slotAt id g + i) [s.fresh.1 % 2 ^ 32]) s1
      ((s2.mapOtp (fun o => { o with bad := (4 * id + g) :: o.bad })).set F.OTP_STAT_RESULT 3).raise 4081

/-- OTP_VALID. -/
def State.otpValid (s : State) : Nat :=
  (List.range 28).foldl (fun v b => if s.genValid (b / 4 + 1) (b % 4) then v + 2 ^ b else v) 0

/-! ### Life cycle (R435-R437) -/

/-- Is life-cycle word `j` blown: are at least 16 bits of the pattern set in it (DEDUCED, log entry 24)? -/
def State.lcBlown (s : State) (j : Nat) : Bool :=
  decide (16 ≤ ((List.range 32).filter (fun b => hasBit 0xA5C35A3C b && hasBit (s.otpWord j) b)).length)

/-- The state that OTP holds: the number of leading blown words. -/
def State.lcWords (s : State) : Nat := ((List.range 5).takeWhile s.lcBlown).length

/-- LC_WORDS.BLOWN. -/
def State.lcMask (s : State) : Nat := (List.range 5).foldl (fun v j => if s.lcBlown j then v + 2 ^ j else v) 0

/-- JTAG_STAT.LEVEL (R436). -/
def State.jtagLevel (s : State) : Nat := [1, 2, 1, 0, 2, 0].getD s.life 0

/-- Do the conditions of R437's table hold for a step? The requester is a code, or none for JTAG. -/
def State.lcAllowed (s : State) (src : Option Nat) (target : Nat) : Bool :=
  let l := s.life
  !s.on F.LC_STAT_PENDING &&
  (if target = 5 then l != 5 && (src == some 0x20 || (src == none && decide (l ≤ 1)))
   else if target ≠ l + 1 then false
   else match l with
    | 0 => src == none
    | 1 => (src == some 0x20 || src == some 0x41) && (s.recNow 1).isSome && (s.recNow 2).isSome
    | 2 => src == some 0x20 && s.vault.root.isSome
    | 3 => src == some 0x20
    | _ => false)

/-- A step is accepted (R437): for RETURNED and ENDED the root and every slot are erased, and the word is blown. -/
def State.lcAccept (s : State) (target : Nat) : State :=
  let s1 := if target = 4 ∨ target = 5 then s.eraseRoot.emptyAll else s
  (s1.sets [(F.LC_STAT_PENDING, 1), (F.LC_STAT_NEXT, target)]).mapOtp (fun o => { o with blow := some target })

/-- The words of a step have been blown: every word below the new state. -/
def State.lcBlow (s : State) (target : Nat) : State :=
  ((List.range target).foldl (fun s j => s.otpPut j [0xA5C35A3C]) (s.mapOtp (fun o => { o with blow := none }))).raise 48

/-! ### SPDM and IDE_KM (R430, R431) -/

def State.spdm (s : State) (h : Nat) : Spdm := tget {} s.vault.spdm h

def State.setSpdm (s : State) (h : Nat) (x : Spdm) : State := s.mapVault (fun v => { v with spdm := tset v.spdm h x })

def State.ide (s : State) (p : Nat) : IdePort := tget {} s.vault.ide p

/-- An H-port's responder answers while its link is up and management runs. -/
def State.spdmOn (s : State) (h : Nat) : Bool := s.get (F.HP_STAT_LINK h) == 2 && s.get F.LOCK_STAT_MGMT != 2

/-- A response, or an error. -/
def State.spdmAns (s : State) (p code : Nat) (b : Option (List (BitVec 8))) : State := s.emit (.spdm p code b)

/-- Measurement 1-4 (R430): the image in use, the records in force, the life-cycle state, the bridge programs. -/
def State.measure384 (s : State) (i : Nat) : List (BitVec 8) :=
  let words := fun (l : List Nat) => (l.map (leBytes 4)).flatten
  match i with
  | 1 => leBytes 48 (match s.pwr.image with | some m => m.hash.toNat | none => 0)
  | 2 => leBytes 48 (Config.sha384 (words ((s.otp.recs.map (fun e => e.2)).flatten)))
  | 3 => [BitVec.ofNat 8 s.life]
  | _ => ([19, 20, 21, 22].map (fun e => leBytes 48 (Config.sha384 (words
      ((s.mem.filter (fun w => w.1 / 2 ^ 19 == e)).map (fun w => w.2)))))).flatten

/-- The slot of a port's IDE key (R423). -/
def ideSlot (p : Nat) (rx set : Bool) : Nat := 64 + 4 * p + 2 * b2n set + b2n rx

/-- A key as IDE_KM programs it, in `prog` and `live`: sub-stream, direction, key set. -/
def ideIx (sub : Nat) (rx set : Bool) : Nat := sub + 4 * b2n rx + 8 * b2n set

/-- KEY_PROG (R431): stored, unless another sub-stream of the direction and set has a different key. -/
def State.keyProg (s : State) (p sub : Nat) (rx set : Bool) (key : Nat) : State × Bool :=
  let k := ideSlot p rx set
  let x := s.ide p
  let others := x.prog.any (fun e => e / 4 == ideIx 0 rx set / 4 && e % 4 != sub)
  if others && s.slotKey k != some (key % 2 ^ 256) then (s, false)
  else
    let ix := ideIx sub rx set
    let s1 := if others then s else s.fillSlot k key (b2n rx) false 0x20
    (s1.mapVault (fun v => { v with ide := tset v.ide p { x with prog := ix :: x.prog.erase ix } }), true)

/-- IDE is in force on a port while a key is in use. -/
def State.showIde (s : State) (p : Nat) : State :=
  s.put (if p < 32 then F.HP_STAT_IDE p else F.MP_STAT_IDE (p - 32)) (!(s.ide p).live.isEmpty)

/-- K_SET_GO and K_SET_STOP: a programmed key comes into use, or leaves it; `true` if it was programmed. -/
def State.keySet (s : State) (p ix : Nat) (go : Bool) : State × Bool :=
  let x := s.ide p
  if x.prog.contains ix then
    ((s.mapVault (fun v => { v with ide := tset v.ide p { x with live := if go then ix :: x.live.erase ix else x.live.erase ix } })).showIde p, true)
  else (s, false)

/-! ### The pages of chapter 19 (R440-R442) -/

/-- Why a write of these pages is refused. -/
def State.vaultChk (s : State) (x : Wr) : Option Reason :=
  match x.k with
  | .global1 =>
    if x.ro = 0x44 then
      (if bits x.v 8 8 ≠ 0x5A then some .badValue
       else if s.lcAllowed (some x.p) (bits x.v 0 3) then none else some .lifeCycle)
    else none
  | .key0 =>
    if x.ro = 0x48 ∧ hasBit x.v 0 then s.rootGenChk x.p
    else if x.ro = 0x54 ∧ x.p ≠ 0x20 then some .notOwner
    else none
  | .otp48 =>
    if x.ro = 0x48 ∧ hasBit x.v 31 ∧ x.p ≠ 0x20 ∧ ¬ (x.p = 0x41 ∧ s.testMode) then some .notOwner else none
  | _ => none

/-- What a stored write of these pages does. -/
def State.vaultFx (s s0 : State) (x : Wr) : State :=
  match x.k with
  | .global1 => if x.ro = 0x44 then s.lcAccept (bits x.v 0 3) else s
  | .key0 =>
    if x.ro = 0x48 ∧ hasBit x.v 0 then s.rootGen
    else if x.ro = 0x60 ∧ s0.on F.DRBG_STAT_FAIL ∧ s.on F.DRBG_STAT_FAIL = false then s.drbgStart
    else s
  | .key2 => if x.ro = 0x40 ∧ hasBit x.v 31 then s.kvRun x.p else s
  | .otp48 => if x.ro = 0x48 ∧ hasBit x.v 31 then s.otpGo else s
  | _ => s

/-- The registers of these pages that are formed at the read. -/
def State.vaultRead (s : State) (x : Wr) : Option Nat :=
  match x.k with
  | .global1 =>
    if x.ro = 0x48 then some s.lcMask else if x.ro = 0x4c then some s.jtagLevel else none
  | .otp48 =>
    if x.ro = 0x44 then some (s.otpWord x.w) else if x.ro = 0x50 then some s.otpValid else none
  | _ => none

end Sys2Proof.Machine
end

