-- ==== Sys2Proof/Machine/RepairMap.lean ====
section
/-! DEFINITION. The soft repair map beyond its runtime entries (R445, R450-R452): fuse entries, what a start applies, the shutdown test's
results, and voltage scaling (R453, R471). -/

namespace Sys2Proof.Machine

def State.mapRep (s : State) (f : RepSt → RepSt) : State := { s with rep := f s.rep }

/-! ### Fuse entries (R451) -/

/-- The entries of the fuse area in ascending order: a pair of words counts when they are complements. -/
def State.fuses (s : State) : List Nat :=
  (List.range 512).filterMap (fun k =>
    let w := s.otpWord (1024 + 2 * k)
    if s.otpWord (1025 + 2 * k) = 2 ^ 32 - 1 - w then some w else none)

/-- The lowest free pair of the fuse area. -/
def State.freeFuse (s : State) : Option Nat :=
  (List.range 512).find? (fun k => s.otpWord (1024 + 2 * k) == 0 && s.otpWord (1025 + 2 * k) == 0)

def elemClass (e : Nat) : Nat := bits e 28 4

def elemInst (e : Nat) : Nat := bits e 16 12

/-! ### What a start applies (R86, R445, R451) -/

/-- The planes marked failed are left out; the others take L0, L1 and the spare role in ascending order (R86). -/
def State.leaveOutPlanes (s : State) (failed : List Nat) : State :=
  let s1 := failed.foldl (fun s p => s.set (planeStat p) 2) s
  match [0, 1, 2].filter (fun p => !failed.contains p) with
  | [a, b, c] => ((s1.sets [(F.PLANE_MAP_L0, a), (F.PLANE_MAP_L1, b), (F.PLANE_MAP_SPARE, c)]).set (planeStat a) 0).set (planeStat b) 0
  | [a, b] => ((s1.sets [(F.PLANE_MAP_L0, a), (F.PLANE_MAP_L1, b), (F.PLANE_MAP_SPARE, 3)]).set (planeStat a) 0).set (planeStat b) 0
  | [a] => (s1.sets [(F.PLANE_MAP_L0, a), (F.PLANE_MAP_L1, a), (F.PLANE_MAP_SPARE, 3), (F.PLANE_STAT_DEGRADED, 1)]).set (planeStat a) 0
  | _ => { s1 with sw := { s1.sw with stopped := true } }

/-- The entry of an element changes. -/
def State.mapEntry (s : State) (e : Nat) (f : RepEntry → RepEntry) : State :=
  s.setRepair (s.repair.map (fun r => if r.elem = e then f r else r))

def State.setSpare (s : State) (e spare : Nat) : State := s.mapEntry e (fun r => { r with spare := spare })

/-- Spare rows or columns of an array that earlier entries have claimed. -/
def claimed (before : List Nat) (e : Nat) : Nat := (before.filter (fun x => x / 65536 == e / 65536)).length

/-- The shared partition loses units. -/
def State.dropShared (s : State) (n : Nat) : State := { s with sw := { s.sw with shared := s.sw.shared - n } }

/-- One element of a class takes effect (R445); `before` are the elements applied before it. Planes and engines are applied together. -/
def State.applyClass (s : State) (before : List Nat) (e : Nat) (cls : Nat) : State :=
  let i := elemInst e
  let d := e % 65536
  match cls with
  | 1 => s.setSpare e (if claimed before e < 8 then claimed before e else 0xFF)
  | 2 => s.setSpare e (if claimed before e < 4 then claimed before e else 0xFF)
  | 4 =>
    let s1 := s.setBank i 2
    if s.bankState i = 1 then s1
    else match (List.range 50).find? (fun x => s1.bankState x == 1) with
      | some x => (s1.setBank x 0).setSpare e x
      | none => (s1.sub F.VAT_FREE_UNITS 16384).dropShared 16384
  | 5 =>
    if i = 34 then s.set F.SPARE_STAT_DX 2
    else if 32 ≤ i then s.set (reflector (i - 32)) 2
    else if s.get F.SPARE_STAT_DX = 0 then
      ((s.setSlice i 3).sets [(F.SPARE_STAT_DX, 1), (F.SPARE_STAT_ROLE_VALID, 1), (F.SPARE_STAT_ROLE, i)]).setSpare e 34
    else if s.get (reflector (i / 16)) = 2 ∨ !(s.onRecon (i / 16)).isEmpty then
      (s.setSlice i 1).mapPool (fun p => { p with dead := (i :: s.onRecon (i / 16) ++ p.dead).eraseDups })
    else (s.setSlice i 1).mapPool (fun p => { p with forGood := i :: p.forGood })
  | 6 =>
    let n := i / 8
    let w := s.get (F.CR_BANK_STAT_STATE n)
    s.set (F.CR_BANK_STAT_STATE n) (w - 4 ^ (i % 8) * bits w (2 * (i % 8)) 2 + 4 ^ (i % 8) * 2)
  | 7 =>
    if s.get (F.LN_STAT_LOUPE i) = 3 then (s.setSampler i d 2).set (F.LN_STAT_RETIRED i) 1
    else (s.setSampler i d 1).sets [(F.LN_STAT_LOUPE i, 3), (F.LN_STAT_SPARED_SLICE i, d)]
  | 8 => s.set (pllF i d) 2
  | 9 => s.set (clkPllF d) 2
  | 11 => s.set (F.LN_STAT_RETIRED i) 1
  | 12 => s.mapPwr (fun p => { p with heldOn := i :: p.heldOn })
  | _ => s

/-- One element takes effect by its class. -/
def State.applyElem (s : State) (before : List Nat) (e : Nat) : State := s.applyClass before e (elemClass e)

/-- The elements that a start applies, in order: the fuse entries, then the map. -/
def State.applied (s : State) : List Nat :=
  s.fuses ++ (s.repair.map (fun r => r.elem)).filter (fun e => !s.fuses.contains e)

/-- How the management pair is formed (R451): by the SOFT and FUSED entries of EN00 and EN01. -/
def State.pairFrom (s : State) : Nat :=
  let out := fun e => s.fuses.contains (repElem 10 e 0) || s.repair.any (fun r => r.elem == repElem 10 e 0 && decide (2 ≤ r.st))
  if out 0 && out 1 then 3 else if out 0 then 1 else if out 1 then 2 else 0

/-- Elements take effect, each after those before it. -/
def State.applyAll (s : State) (l : List Nat) : State := (l.zipIdx).foldl (fun s x => s.applyElem (l.take x.2) x.1) s

/-- The map is applied at a start. -/
def State.applyMap (s : State) : State :=
  let l := s.applied
  let s1 := (s.mapPwr (fun p => { p with heldOn := [] })).applyAll l
  let s2 := s1.leaveOutPlanes ((l.filter (fun e => elemClass e == 3)).map elemInst)
  let p := s.pairFrom
  let s3 := s2.setEngs { s2.engs with pair := p }
  if p = 3 then s3.sets [(F.LOCK_STAT_MGMT, 1), (F.LOCK_STAT_EN02_READY, 0)] else s3

/-- The domain whose registers show that an element is out. -/
def elemDom (e : Nat) : Nat :=
  match elemClass e with
  | 6 => 46 + elemInst e / 8
  | 7 | 11 => 152 + elemInst e / 4
  | 8 => 152 + elemInst e
  | _ => 232

/-- A domain is ON again: what its registers show of elements that are out (R445). -/
def State.reapply (s : State) (d : Nat) : State :=
  s.applyAll (s.applied.filter (fun e => elemDom e == d))

/-- A start's map: the AON map, a valid flash copy where AON was lost, or none (R451, R452). -/
def State.startMap (s : State) (aonLost : Bool) : State :=
  let s1 := if s.vault.root.isSome then s else s.raise 3972
  let t := if !aonLost then (s1, 0)
    else match (if s.vault.root.isSome then s.rep.flash else none) with
      | some l => ({ s1 with repair := l }, 1)
      | none => ({ s1 with repair := [] }, 2)
  ((t.1.applyMap).set F.REP_STAT_MAP_SRC t.2).raiseIf (t.2 != 2 && !(t.1.applied.isEmpty)) 3971

/-- The map is written to the other flash copy where it differs from the newest (R452). -/
def State.flashCopy (s : State) : State :=
  if s.on F.REP_CTRL_FLASH_EN && s.vault.root.isSome && s.rep.flash != some s.repair then
    (s.mapRep (fun r => { r with flash := some s.repair, copies := r.copies + 1 })).emit (.flashMap (s.rep.copies % 2))
  else s

/-! ### The shutdown test (R448-R451) -/

/-- Does a program test memories? -/
def marchProg (k : Nat) : Bool := decide (k < 8)

/-- The program that tests an element of the map, where one does: every array is tested by the memory programs. -/
def progOf (e : Nat) : Nat :=
  let i := elemInst e
  match elemClass e with
  | 1 | 2 => 0
  | 3 => 8
  | 4 => 0
  | 5 => if i < 32 then 1 else 2
  | 6 => 3
  | 7 | 11 => if i / 4 < 64 then 13 else 14
  | 8 => if i < 64 then 13 else 14
  | 10 => 11
  | _ => 15

def packElem (e : RepElem) : Nat := repElem e.cls.toNat e.inst.toNat e.detail.toNat

/-- The golden value of a program, where a valid GOLDEN record is in force (R449). -/
def State.golden (s : State) (k : Nat) : Option Nat := (s.record 7).map (fun l => l.getD (2 * k) 0 + 2 ^ 32 * l.getD (2 * k + 1) 0)

/-- Does an element fail (R449)? -/
def elemFails (k : Nat) (golden : Option Nat) (x : ElemResult) : Bool :=
  match golden with
  | some g => x.sig.toNat != g || (marchProg k && x.march)
  | none => marchProg k && x.march

/-- The entries that a failing element asks for (R450): the rows and columns that spares of their arrays cover, or the element. -/
def State.failEntries (s : State) (f : RepFail) : List Nat :=
  let rows := f.rows.map packElem
  let mem := rows.filter (fun e => elemClass e == 1 || elemClass e == 2)
  let known := s.repair.map (fun r => r.elem)
  let fresh := mem.filter (fun e => !known.contains e)
  let covers := fresh.all (fun e =>
    decide (((known ++ fresh).filter (fun x => x / 65536 == e / 65536)).length ≤ (if elemClass e = 1 then 8 else 4)))
  if mem.isEmpty then (if rows.isEmpty then [packElem f.elem] else rows) else if covers then mem else [packElem f.elem]

/-- Is no spare free for a new entry (R450)? -/
def State.noSpare (s : State) (e : Nat) : Bool :=
  let n := (s.repair.filter (fun r => elemClass r.elem == elemClass e)).length
  (elemClass e == 3 && decide (1 ≤ n)) || (elemClass e == 4 && decide (2 ≤ n)) || (elemClass e == 5 && decide (1 ≤ n))

/-- A failing element's entry (R450). -/
def State.recordFail (s : State) (e : Nat) : State :=
  match s.repair.find? (fun r => r.elem == e) with
  | some r =>
    if r.st = 3 then s
    else (s.mapEntry e (fun x => { x with st := 2, hist := (2 * x.hist + 1) % 16 })).set F.REP_LOG_ELEM e
  | none =>
    if s.fuses.contains e ∨ 1024 ≤ s.repair.length then s
    else (((s.setRepair (s.repair ++ [{ elem := e, hist := 1, st := 2 }])).set F.REP_LOG_ELEM e).raise 3968).raiseIf (s.noSpare e) 3970

/-- The entries whose element passed: 0 shifts into HISTORY, and an entry that passed twice is removed (R450). -/
def passEntries (tested failed : List Nat) (l : List RepEntry) : List RepEntry :=
  (l.map (fun r => if r.st ≠ 3 ∧ tested.contains (progOf r.elem) ∧ !failed.contains r.elem then { r with hist := 2 * r.hist % 16 } else r)).filter
    (fun r => r.st == 3 || !tested.contains (progOf r.elem) || failed.contains r.elem || r.hist % 4 != 0)

/-- An entry that has failed at two shutdowns in a row is blown into the fuse area (R451). -/
def State.blowEntry (s : State) (r : RepEntry) : State :=
  if r.hist % 4 = 3 ∧ r.st ≠ 3 ∧ s.on F.REP_CTRL_FUSE_EN then
    match s.freeFuse with
    | none => s
    | some k =>
      let s1 := s.otpPut (1024 + 2 * k) [r.elem, 2 ^ 32 - 1 - r.elem]
      ((s1.mapEntry r.elem (fun x => { x with st := 3 })).set F.REP_LOG_ELEM r.elem).raise 3969
  else s

/-- The map after a test (R450, R451). -/
def State.recordTest (s : State) : State :=
  let failed := ((s.rep.fails.map s.failEntries).flatten).eraseDups
  let s1 := { s with repair := passEntries s.rep.tested failed s.repair }
  let s2 := failed.foldl State.recordFail s1
  s2.repair.foldl State.blowEntry s2

/-! ### Voltage scaling (R453, R471) -/

/-- The setpoint in force in tenths of a mV; 0.75 V when AON holds none. -/
def State.setpoint (s : State) : Nat := s.rep.setp.getD 7500

/-- The setpoint that a worst slowdown asks for, in tenths of a mV, before the clamp. -/
def State.avsWant (s : State) (worst : Nat) : Nat :=
  10 * s.get F.AVS_STAT_TRIM_MV + (s.get F.AVS_CTRL_GAIN * worst + 2499) / 2500 * 25

/-- The monitors report (R453). -/
def State.avsMeasure (s : State) (ppm : List Nat) : State :=
  let worst := ppm.foldl max 0
  let s1 := ((ppm.zipIdx).foldl (fun s x => s.set (F.AGE_PPM_PPM x.2) x.1) s).sets
    [(F.AGE_WORST_PPM, worst), (F.AGE_WORST_MON, (ppm.idxOf worst))]
  if s.on F.AVS_CTRL_EN then
    let w := s.avsWant worst
    let s2 := if 8200 < w ∧ s1.on F.AVS_STAT_CEIL = false then (s1.set F.AVS_STAT_CEIL 1).raise 3974 else s1
    s2.mapRep (fun r => { r with want := max r.want (min 8200 (max 6800 w)) })
  else s1

/-- One step of 2.5 mV is asked for, or an unacknowledged write is sent again. -/
def State.avsStep (s : State) : State :=
  if (s.on F.AVS_CTRL_EN = true ∧ s.setpoint < s.rep.want) ∨ s.rep.sent then
    (s.mapRep (fun r => { r with sent := true })).emit (.vout (min s.rep.want (s.setpoint + 25)))
  else s

/-- The regulator acknowledges a write: the setpoint rises. -/
def State.avsAck (s : State) : State :=
  if s.rep.sent then
    let v := min s.rep.want (s.setpoint + 25)
    ((s.mapRep (fun r => { r with sent := false, setp := some v })).set F.AVS_STAT_SET_MV (v / 10)).raise 3973
  else s

/-! ### The pages of chapter 20 (R454) -/

/-- The registers of these pages that are formed at the read. -/
def State.repRead (s : State) (x : Wr) : Option Nat :=
  match x.k with
  | .repair0 =>
    if x.ro = 0x44 then
      some (2 ^ 24 * b2n (s.rep.flash.isSome && s.vault.root.isSome) + 65536 * s.get F.REP_STAT_MAP_SRC + s.repair.length)
    else if x.ro = 0x4c then some s.fuses.length
    else if x.ro = 0x50 then
      some (32 * b2n (s.get F.LOCK_STAT_MGMT == 0 && s.engs.pair == 0) + 16 * b2n (s.get F.SPARE_STAT_DX == 0) +
        4 * ((List.range 50).filter (fun b => s.bankState b == 1)).length + b2n (s.get F.PLANE_MAP_SPARE != 3))
    else none
  | .repair1 =>
    match s.repair[x.w]? with
    | some r =>
      if x.ro = 0x44 then some r.elem
      else if x.ro = 0x48 then some (256 * r.spare + 16 * r.hist + r.st)
      else none
    | none => none
  | _ => none

end Sys2Proof.Machine
end

