-- ==== Sys2Proof/Machine/Power.lean ====
section
/-! DEFINITION. Power domains and their transitions, the always-on regulator and wake, supplies and ride-through, thermal protection, and the
clock unit (R400-R415, R421). -/

namespace Sys2Proof.Machine

/-! ### Domains and requests (R400, R401) -/

/-- The deepest state of a domain: 0 ON, 1 RET, 2 OFF. -/
def lowestState (d : Nat) : Nat := if d ≤ 1 then 0 else if (6 ≤ d ∧ d ≤ 8) ∨ 59 ≤ d then 2 else 1

/-- The pages in use. -/
def allPages : List Page :=
  (pageTable.map (fun ps => if ps.stride = 0 then [⟨ps, 0, ps.base⟩]
    else (List.range ps.count).map (fun n => (⟨ps, n, ps.base + n * ps.stride⟩ : Page)))).flatten

/-- The pages that a domain holds. -/
def pagesOf (d : Nat) : List Page := allPages.filter (fun g => pageDom g.ps.kind g.n == d)

/-- The shallowest state requested for a domain: by DOM_CTRL.REQ and by PAGE_CTRL.DOM_REQ of each of its pages. -/
def State.domReq (s : State) (d : Nat) : Nat :=
  ((pagesOf d).map (fun g => s.get (hDomReq g.pg))).foldl min (s.get (F.DOM_CTRL_REQ d))

/-- Is a port's link up? -/
def State.linkUp (s : State) (p : Nat) : Bool :=
  if p < 32 then s.get (F.HP_STAT_LINK p) == 2 else if p < 48 then s.get (F.MP_STAT_LINK (p - 32)) == 2 else decide (2 ≤ s.lkState (p - 48))

/-- Is a port out of service, so that its domains may leave ON? -/
def State.portOut (s : State) (p : Nat) : Bool :=
  if p < 32 then !s.on (F.HP_CTRL_EN p) else if p < 48 then s.get (F.MP_CTRL_MODE (p - 32)) == 0 else !s.on (F.PD_STAT_MODE (p - 48))

/-- Does R401, or the repair map (R445), defer a request for RET or OFF of a domain? -/
def State.domBlocked (s : State) (d : Nat) : Bool :=
  s.pwr.heldOn.contains d ||
  (if d = 2 then (List.range 16).any (fun i => s.on (F.TSTAT_ARMED i) || s.on (F.CAP_CTRL_EN i))
   else if d = 4 ∨ d = 5 then s.get F.WHEEL_FILL_ENTRIES != 0 || !s.sw.cells.isEmpty
   else if d = 9 then s.sw.cells.any (fun c => decide (c.part ≠ .hold)) ||
     (List.range 64).any (fun p => s.linkUp p && s.get (F.LSTATE_STATE p) == 0)
   else if 10 ≤ d ∧ d ≤ 53 then
     !s.pool.reqs.isEmpty || !s.pool.recalls.isEmpty || !s.pool.wins.isEmpty || !s.pool.walks.isEmpty || s.on F.REBUILD_STAT_ACTIVE
   else if 67 ≤ d ∧ d ≤ 87 then !([0, 3, 4].contains (s.get (F.ENG_STAT_STATE (d - 64))))
   else if 88 ≤ d ∧ d ≤ 151 then !s.portOut (d - 88)
   else if 152 ≤ d then !s.portOut (macroPort (d - 152))
   else false)

/-! ### The always-on regulator (R406) -/

/-- The regulator returns to NORMAL. -/
def State.toNormal (s : State) : State := if s.on F.AON_STAT_MODE then (s.set F.AON_STAT_MODE 0).raise 19 else s

/-- A wake source fires (R406): one that WAKE_EN enables ends LOWPOWER. -/
def State.wakeBy (s : State) (src : Nat) : State :=
  if hasBit (s.get F.WAKE_EN_SRC) src && s.on F.AON_STAT_MODE then ((s.set F.WAKE_LOG_SRC (2 ^ src)).raise 20).toNormal else s

/-- May the regulator be in LOWPOWER? -/
def State.lpOk (s : State) : Bool :=
  s.on F.AON_CTRL_LP_EN && ((List.range 232).drop 2).all (fun d => s.domState d == 1 || s.domState d == 2) &&
    (List.range 3).all (fun e => s.get (F.ENG_STAT_STATE e) != 2)

/-- The regulator's mode is looked at anew. -/
def State.lpEval (s : State) : State :=
  if s.lpOk then (if s.on F.AON_STAT_MODE then s else (s.set F.AON_STAT_MODE 1).raise 18) else s.toNormal

/-! ### What a domain keeps (R3, R26, R400, R402) -/

/-- The register copy that a key of `pwr.wake` names, as its bank * 2^26 + offset. -/
def regAt (a : Nat) : Option (Page × RegSpec) :=
  match pageOf (a % 2 ^ 26) with
  | none => none
  | some g => (findReg g.ps.kind (a % 4096)).map (fun r => (g, r.1))

/-- The domain of a register copy. -/
def copyDom (a : Nat) : Nat :=
  match regAt a with
  | some (g, r) => regDom g.ps.kind g.n r.bank (a / 2 ^ 26)
  | none => 232

/-- The windows whose tables keep their contents in RET (R132, R167, R171, R230, R367, R381, R429), and the slices' state. -/
def retTable (k : PageKind) (r : RegSpec) (f : FieldSpec) : Bool :=
  match k with
  | .event1 | .event2 | .sched1 | .sched2 | .sched5 | .dir2 | .bridge2 | .bridge3 | .key1 =>
    (match r.bank with
     | .win _ => true
     | _ => decide (k = .bridge3))
  | .guard2 => decide (0x80 ≤ r.off)
  | .lane32 => r.held && (f.acc == .rw || f.acc == .rwl)
  | .dir3 => r.off == 0x40 || r.off == 0x44 || r.off == 0x48
  | .engpage => true
  | _ => false

/-- The fields of the TIME and AXES pages that R73 keeps. -/
def timeKept (k : PageKind) (ro lo : Nat) : Bool :=
  match k with
  | .time0 => (ro == 0x64 && lo == 0) || ro == 0x68
  | .axis =>
    ro == 0x54 || ro == 0x58 || ro == 0x84 || ro == 0x88 || ro == 0x90 || ro == 0x94 || ro == 0x98 || ro == 0x9c ||
      (ro == 0x74 && [0, 1, 3, 5, 6, 7].contains lo)
  | _ => false

/-- SYNC_CTRL.LOST, which is not saved with the rest of its register (R79). -/
def syncLost (k : PageKind) (ro lo : Nat) : Bool := decide (k = .time3) && ro == 0x240 && lo == 16

/-- Does a field keep its value in RET (1) or OFF (2)? BOOT fields and TXN_TAG live in always-on storage, SO_FRAME in AON (R334), the root
cell and the port's PD and power state in the power and sense die; remote wake runs in AON with its log (R463). The planes' binding
changes only when a plane fails, and a retired bank stays out until the next start, so what shows them stays (R85, R103, R105, R149; DEDUCED, log
entry 56). -/
def keptIn (k : PageKind) (r : RegSpec) (f : FieldSpec) (goal : Nat) : Bool :=
  decide (f.takes = .boot) || r.off == 0x1c || (decide (k = .scanout) && r.off == 0x70) ||
  (decide (k = .switch0) && (r.off == 0x4c || r.off == 0x50)) || (decide (k = .switch1) && (r.off == 0x50 || r.off == 0x64)) ||
  ((decide (k = .dport4) || decide (k = .dport5)) && decide (f.acc = .ro)) ||
  (decide (k = .cream) && r.off == 0x44) || (decide (k = .svcusb) && (r.off == 0x4c || r.off == 0x50)) || (decide (k = .key0) && decide (0x4c ≤ r.off) && decide (r.off ≤ 0x5c)) ||
  (if goal = 1 then (r.saved && !syncLost k r.off f.lo) || retTable k r f || timeKept k r.off f.lo else r.off == 8 && f.lo == 1)

/-- Does an entry of the register tables survive a domain's entry to a state? -/
def keepKey (wake : List Nat) (d goal key : Nat) : Bool :=
  match regAt (key / 32) with
  | none => true
  | some (g, r) =>
    if regDom g.ps.kind g.n r.bank (key / 32 / 2 ^ 26) ≠ d then true
    else match r.fields.find? (fun f => f.lo == key % 32) with
      | none => true
      | some f => keptIn g.ps.kind r f goal || (goal == 2 && wake.contains (key / 32))

/-- The EVT_STAT bits of a domain's pages are cleared. -/
def State.clearStats (s : State) (pages : List Nat) : State :=
  let here := fun ev => match evSrc ev with
    | some (pg, _) => pages.contains pg
    | none => false
  let t := s.sig.ev.recs.map (fun e => if here e.1 then (e.1, { e.2 with stat := false }) else e)
  { s with sig := { s.sig with ev := { s.sig.ev with recs := t } } }

/-- The registers of a domain on entry to RET or OFF: those not kept take their Reset values. -/
def State.clearRegs (s : State) (d goal : Nat) : State :=
  ({ s with regs := s.regs.filter (fun e => keepKey s.pwr.wake d goal e.1),
            lag := s.lag.filter (fun e => keepKey s.pwr.wake d goal e.1) }).clearStats ((pagesOf d).map Page.pg)

/-- What lies behind a domain's registers and is lost in RET or OFF. -/
def State.loseDom (s : State) (d goal : Nat) : State :=
  if d = 2 then
    { s with time := { s.time with axes := s.time.axes.map (fun e => (e.1, { e.2 with hist := [] })), trigs := [], caps := [], syncs := [], ptp := [] } }
  else if d = 3 then
    (let t := s.sig.ev.tgts.map (fun e => (e.1, { e.2 with qprod := 0, deliv := 0, qdrop := 0 }))
     { s with sig := { s.sig with ev := { s.sig.ev with heldCt := 0, delivCt := 0, holdSeen := false, tgts := t } } })
  else if d = 4 then { s with gov := { shed := s.gov.shed, stopped := s.gov.stopped } }
  else if 6 ≤ d ∧ d ≤ 8 then
    { s with sw := { s.sw with grants := s.sw.grants.filter (fun e => e.1 / 72 != d - 6), accepts := s.sw.accepts.filter (fun e => e.1 / 72 != d - 6) } }
  else if 46 ≤ d ∧ d ≤ 53 then (if goal = 1 ∧ s.on (F.CR_CTRL_RET_KEEP (d - 46)) then s else s.creamDrop (d - 46) none)
  else if d = 55 then s.mapBr (fun b => { b with bufs := [], polls := [] })
  else if d = 56 then s.mapLinks (fun k => { k with fwd := [] })
  else if d = 57 ∧ goal = 2 then s.emptyAll
  else if 59 ≤ d ∧ d ≤ 66 then s.mapEng (d - 59) (fun _ => {})
  else if 67 ≤ d ∧ d ≤ 87 then
    (let e := d - 64
     if goal = 2 then ((s.engGone e).clearMem e).setCore e {}
     else if hasBit (s.get F.ENGINE_RET_KEEP) e then s else s.clearMem e)
  else if 88 ≤ d ∧ d ≤ 119 then s.mapLinks (fun k => { k with doors := tdel k.doors (d - 88) })
  else if 136 ≤ d ∧ d ≤ 151 then s.mapLinks (fun k => { k with links := tdel k.links (d - 136) })
  else if 152 ≤ d then s.mapLinks (fun k => { k with macros := tset k.macros (d - 152) { losses := (tget {} k.macros (d - 152)).losses } })
  else s

/-- A domain has entered RET or OFF (R402): counted, and what it does not keep is lost. -/
def State.enterDom (s : State) (d goal : Nat) : State :=
  ((s.loseDom d goal).clearRegs d goal).sat (F.DOM_RET_COUNT_COUNT d)

/-- An engine's program of the firmware image in use is loaded and started (R404, R419); without one the engine stays OFF. -/
def State.engReload (s : State) (e : Nat) : State :=
  match s.pwr.image with
  | none => s
  | some m =>
    match m.progs.find? (fun p => p.eng.val == e) with
    | none => s
    | some p =>
      (((s.clearMem e).loadWords e 0 (p.imem.map (fun w => w.toNat))).loadWords e 1 (p.dmem.map (fun w => w.toNat))).engStart e (4 * p.entry.toNat)

/-- A macro's PLLs lock, but for one that has failed. -/
def State.macroUp (s : State) (m : Nat) : State := [0, 1].foldl (fun s k => if s.get (pllF m k) = 2 then s else s.set (pllF m k) 0) s

/-- The DOM_REQ fields of a domain take their Reset value on return from OFF, unless they were written meanwhile (R3). -/
def State.clearReq (s : State) (d : Nat) : State :=
  { s with regs := s.regs.filter (fun e =>
      !(e.1 % 32 == 1 && decide (e.1 / 32 % 4096 = 8) && copyDom (e.1 / 32) == d && !s.pwr.wake.contains (e.1 / 32))) }

/-- A domain is ON again (R402, R404, R429); what it does not keep takes its Reset value then too, whatever the hub did to it meanwhile
(R3). -/
def State.exitDom (s : State) (d src : Nat) : State :=
  let t := s.clearRegs d src
  let s0 := if src = 2 then t.clearReq d else t
  let s1 := (s0.mapPwr (fun p => { p with wake := p.wake.filter (fun a => copyDom a != d) })).reapply d
  if d = 2 then s1.timeReturn src
  else if d = 3 then s1.loseDom 3 src
  else if d = 57 then
    (let s2 := if src = 2 then s1.formRoot
       else (s1.put F.ROOT_STAT_VALID s1.vault.root.isSome).put F.ROOT_STAT_KEYS (s1.on (F.KS_INFO_VALID 0))
     (s2.put F.DRBG_STAT_OK true).remask)
  else if 67 ≤ d ∧ d ≤ 87 then
    (let e := d - 64
     if src = 2 ∨ !hasBit (s1.get F.ENGINE_RET_KEEP) e then s1.engReload e else s1.engRetarget e)
  else if 152 ≤ d then (if s1.on F.POWER3_CLK_STAT_ON_PLL && s1.pwr.dark.isEmpty then s1.macroUp (d - 152) else s1)
  else s1

/-! ### Transitions (R401-R403) -/

/-- A transition begins; an exit waits for the regulator's NORMAL. -/
def State.domBegin (s : State) (d goal : Nat) : State :=
  let cur := s.domState d
  let s1 := if cur = 0 then s else s.toNormal
  (s1.mapPwr (fun p => { p with trans := tset p.trans d (4 * cur + goal),
                                wake := if goal = 2 then p.wake.filter (fun a => copyDom a != d) else p.wake })).sets
    [(F.DOM_STAT_STATE d, 3), (F.DOM_STAT_DEFERRED d, 0)]

/-- A domain's requests are looked at anew (R401); in ride-through no domain changes state (R409). -/
def State.domEval (s : State) (d : Nat) : State :=
  let r := s.domReq d
  let s1 := s.set (F.DOM_STAT_TARGET d) r
  if s.domState d = 3 then s1
  else if r = s.domState d then s1.set (F.DOM_STAT_DEFERRED d) 0
  else if s.riding then s1.mapPwr (fun p => { p with rtDoms := d :: p.rtDoms.erase d })
  else if s.domState d = 0 ∧ s.domBlocked d then s1.set (F.DOM_STAT_DEFERRED d) 1
  else s1.domBegin d r

/-- The deferral of a request clears, and the domain starts to leave ON. -/
def State.domUndefer (s : State) (d : Nat) : State :=
  if s.on (F.DOM_STAT_DEFERRED d) && s.domState d == 0 && !s.domBlocked d && !s.riding && s.domReq d != 0 then s.domBegin d (s.domReq d) else s

/-- Ride-through begins (R409). -/
def State.rtBegin (s : State) : State :=
  (((s.mapPwr (fun p => { p with rtAt := s.now, rtDue := false })).set F.RT_STAT_ACTIVE 1).sat F.DIP_COUNT_COUNT).raise 10

/-- A transition has ended: what waited for it follows (R419's table). -/
def State.domSettled (s : State) (d : Nat) : State :=
  let s1 := if s.on (F.DOM_STAT_DEFERRED d) then s else s.domEval d
  (if s1.pwr.rtDue && s1.pwr.trans.isEmpty then s1.rtBegin else s1).lpEval

/-- A transition completes. -/
def State.domDone (s : State) (d : Nat) : State :=
  match s.pwr.trans.find? (fun e => e.1 == d) with
  | none => s
  | some e =>
    let src := e.2 / 4
    let goal := e.2 % 4
    let s1 := s.mapPwr (fun p => { p with trans := tdel p.trans d })
    let s2 := if goal = 0 then (s1.set (F.DOM_STAT_STATE d) 0).exitDom d src else (s1.enterDom d goal).set (F.DOM_STAT_STATE d) goal
    s2.domSettled d

/-- A transition has not completed within 1 ms (R403). -/
def State.domTimeout (s : State) (d : Nat) : State :=
  match s.pwr.trans.find? (fun e => e.1 == d) with
  | none => s
  | some e =>
    let s1 := (s.mapPwr (fun p => { p with trans := tdel p.trans d })).sets [(F.DOM_STAT_STATE d, e.2 / 4), (F.DOM_STAT_ERR d, 1)]
    let s2 := (s1.raise 16).softRecord 12 d 0
    (if s2.pwr.rtDue && s2.pwr.trans.isEmpty then s2.rtBegin else s2).lpEval

/-! ### Writes while a domain is in RET or OFF (R26) -/

/-- A register copy has been written in its domain's image: in OFF it enters the wake image; a page's DOM_REQ acts at once, and the
always-on decoder of an axis takes its AX_CTRL (R72, R73). -/
def State.imaged (s : State) (g : Page) (r : RegSpec) (bank addr : Nat) : State :=
  let d := regDom g.ps.kind g.n r.bank bank
  let t := tget 0 s.pwr.trans d
  let a := bank * 2 ^ 26 + addr
  let s1 := if s.domState d = 2 ∨ (s.domState d = 3 ∧ (t / 4 = 2 ∨ t % 4 = 2))
    then s.mapPwr (fun p => { p with wake := if p.wake.contains a then p.wake else a :: p.wake }) else s
  if addr % 4096 = 8 then s1.domEval d
  else if g.ps.kind = .axis ∧ r.off = 0x40 then s1.axCtrl g.n
  else s1

/-- A direct write that enters a domain's save or wake image. -/
def State.imageAt (s : State) (p addr v : Nat) : State :=
  match pageOf addr with
  | none => s
  | some g =>
    match findReg g.ps.kind (addr % 4096) with
    | none => s
    | some (r, _) => (s.storeAt p addr v).imaged g r (s.bankOf p g.n r.bank) addr

/-! ### Supplies (R408-R410) -/

/-- A rail's sample: SM_V, and SM_MIN where it is lower. -/
def State.railSample (s : State) (k mv : Nat) : State := s.sets [(F.SM_V_MV k, mv), (F.SM_MIN_MV k, min mv (s.get (F.SM_MIN_MV k)))]

/-- WARN trips (R409). -/
def State.warn (s : State) (k : Nat) : State :=
  if 4 ≤ k then (s.sat F.DIP_COUNT_COUNT).raise 13
  else
    let s1 := s.mapPwr (fun p => { p with warned := k :: p.warned.erase k })
    if s.riding || s.pwr.rtDue then s1
    else if s.pwr.trans.isEmpty then s1.rtBegin
    else s1.mapPwr (fun p => { p with rtDue := true })

/-- The clock unit's standby takes over (R413). -/
def State.clkSwitch (s : State) : State :=
  ((s.set F.POWER3_CLK_STAT_ACTIVE (1 - s.get F.POWER3_CLK_STAT_ACTIVE)).sat F.CLK_SW_COUNT_COUNT).raise 24

/-- Ride-through ends (R409): it is reported, and what waited starts. -/
def State.rtEnd (s : State) : State :=
  if s.riding then
    let w := s.pwr
    let s1 := (s.mapPwr (fun p => { p with warned := [], rtPorts := [], rtMacs := [], rtClk := false, rtDoms := [] })).sets
      [(F.RT_STAT_ACTIVE, 0), (F.RT_LAST_NS, s.now - w.rtAt)]
    let s2 := s1.raise 11
    let s3 := w.rtPorts.foldl (fun s p => if 64 ≤ p then s.narrow (p - 64) else s.retrainPort p) s2
    let s4 := w.rtMacs.foldl (fun s m => if s.get (pllF m (1 - s.get (F.MAC_STAT_ACTIVE m))) = 0 then s.pllSwitch m else s) s3
    let s5 := if w.rtClk && s4.get (clkPllF (1 - s4.get F.POWER3_CLK_STAT_ACTIVE)) == 0 then s4.clkSwitch else s4
    let s6 := (List.range 16).foldl State.rtResume s5
    let s7 := w.rtDoms.foldl State.domEval s6
    (List.range 64).foldl State.selectState s7
  else s.mapPwr (fun p => { p with rtDue := false, warned := [] })

/-- The SerDes domains are reset (R410): every link goes down, and each macro starts over. -/
def State.serdesReset (s : State) : State :=
  let s1 := (List.range 64).foldl State.portDown s
  ((List.range 80).map (fun m => 152 + m)).foldl (fun s d => (s.loseDom d 2).clearRegs d 2) s1

/-- VDD_IO is lost (R410): triggers are disarmed, and pin-fed axes are UNCERTAIN. -/
def State.ioLost (s : State) : State :=
  let s1 := (List.range 16).foldl (fun s n => if s.on (F.TSTAT_ARMED n) then s.disarm n else s) s
  (List.range 8).foldl (fun s a => if s.get (F.AX_CTRL_SOURCE a) = 0 then s.setUncertain a else s) s1

/-! ### The clock unit (R413-R415) -/

/-- A clock unit PLL has lost lock: whether a PLL is left, and the state. -/
def State.clkLost (s : State) (k : Nat) : Bool × State :=
  let day := 24 * 3600 * 1000000000
  let l := (k, s.now) :: s.pwr.losses.filter (fun e => decide (s.now < e.2 + day))
  let s1 := s.mapPwr (fun p => { p with losses := l })
  let s2 := if 3 ≤ (l.filter (fun e => e.1 == k)).length then ((s1.set (clkPllF k) 2).softRecord 9 0 k).raise 25 else s1.set (clkPllF k) 1
  if s.get F.POWER3_CLK_STAT_ACTIVE ≠ k then (true, s2)
  else if s.get (clkPllF (1 - k)) = 0 then (true, s2.clkSwitch)
  else (false, s2)

/-- TO_PLL is written (R415). -/
def State.toPll (s : State) : State := if s.on F.POWER3_CLK_STAT_ON_PLL then s else s.mapPwr (fun p => { p with toPll := true })

/-- Can the switch complete (R414, R415): a PLL is left, and the crystal is there, or was lost only once the switch was under way? -/
def State.canSwitch (s : State) : Bool :=
  s.pwr.toPll && !s.on F.POWER3_CLK_STAT_ON_PLL && (!s.pwr.xtalLost || s.pwr.onHeld) && (s.get (clkPllF 0) != 2 || s.get (clkPllF 1) != 2)

/-- The 25 MHz crystal is lost (R414). -/
def State.xtalGone (s : State) : State :=
  ((s.mapPwr (fun p => { p with xtalLost := true, onHeld := p.toPll })).set F.POWER3_CLK_STAT_XTAL_OK 0).raise 26

/-- The clocks are on the clock unit (R415), and the start goes on to TRAIN (R419); after a warm start the
TIMEAX domain leaves what it was in as in RET (R417). -/
def State.onPll (s : State) : State :=
  let lock := fun (s : State) k => if s.get (clkPllF k) = 2 then s else s.set (clkPllF k) 0
  let s1 := lock (lock s 0) 1
  let s2 := (s1.mapPwr (fun p => { p with toPll := false, onHeld := false, coldHold := false, warming := false })).sets
    [(F.POWER3_CLK_STAT_ON_PLL, 1), (F.POWER3_CLK_STAT_XTAL_OK, b2n (!s.pwr.xtalLost)), (F.POWER3_CLK_STAT_X32K_OK, b2n (!s.pwr.x32kLost)),
     (F.POWER3_CLK_STAT_ACTIVE, if s1.get (clkPllF 0) = 0 then 0 else 1)]
  let s3 := (List.range 80).foldl (fun s m => if s.domState (152 + m) = 0 ∧ s.pwr.dark.isEmpty then s.macroUp m else s)
    (if s.pwr.warming then s2.timeReturn 1 else s2)
  let s4 := if s3.get F.START_STAT_PHASE = 3 then s3.set F.START_STAT_PHASE 4 else s3
  ((List.range 24).drop 3).foldl (fun s e => if s.domState (64 + e) = 0 then s.engReload e else s) s4

/-! ### The POWER pages (R421) -/

/-- DOM_REQ, or DOM_CTRL.REQ, deeper than the domain's lowest state (R400). -/
def tooDeep (d req : Nat) : Option Reason := if lowestState d < req then some .badValue else none

/-- Why a write of these pages is refused. -/
def State.powerChk (s : State) (x : Wr) : Option Reason :=
  match x.k with
  | .power0 => if x.ro = 0x44 then tooDeep x.w (x.v % 4) else none
  | .power1 => if x.ro = 0x80 ∧ bits x.v 8 8 < bits x.v 0 8 + 10 then some .badValue else none
  | .power3 =>
    if x.ro = 0x44 ∧ hasBit x.v 1 ∧ s.get (clkPllF (1 - s.get F.POWER3_CLK_STAT_ACTIVE)) ≠ 0 then some .badValue else none
  | _ => none

/-- What a stored write of these pages does. -/
def State.powerFx (s : State) (x : Wr) : State :=
  match x.k with
  | .power0 => if x.ro = 0x44 then s.domEval x.w else s
  | .power1 => if x.ro = 0x8c ∧ hasBit x.v 0 then s.set (F.SM_MIN_MV x.i) (s.get (F.SM_V_MV x.i)) else s
  | .power2 => if x.ro = 0x40 then s.lpEval else s
  | .power3 =>
    if x.ro = 0x44 then
      (let s1 := if hasBit x.v 0 then s.toPll else s
       if hasBit x.v 1 then (if s.riding then s1.mapPwr (fun p => { p with rtClk := true }) else s1.clkSwitch) else s1)
    else s
  | _ => s

/-- SAVE_USED: 4 bytes for each saved register of a domain in RET, and for each register in a wake image. -/
def State.saveUsed (s : State) : Nat :=
  let regs := fun (g : Page) => ((pageRegs g.ps.kind).filter (fun r => r.saved)).foldl (fun n r => n + max 1 r.count) 5
  4 * (s.pwr.wake.length + (allPages.filter (fun g => s.domState (pageDom g.ps.kind g.n) == 1)).foldl (fun n g => n + regs g) 0)

/-- The registers of these pages that are formed at the read; the regulator's load is measured, so that its value is open. -/
def State.powerRead (s : State) (x : Wr) : Option Nat :=
  match x.k with
  | .power0 =>
    if x.ro = 0x54 then some s.saveUsed
    else if x.ro = 0x80 then some ((List.range 16).foldl (fun v i => if 16 * x.i + i < 232 then v + 4 ^ i * s.domState (16 * x.i + i) else v) 0)
    else none
  | .power2 => if x.ro = 0x44 then some (65536 * s.get F.AON_STAT_MODE + s.fresh.1 % 4096) else none
  | _ => none

end Sys2Proof.Machine
end

