-- ==== Sys2Proof/Machine/Start.lean ====
section
/-! DEFINITION. Starts (R407, R411, R416-R420): what a warm and a cold start keep, what every start does, the firmware image and the boot
watchdog; and the orderly shutdown that leads to one (R447). -/

namespace Sys2Proof.Machine

/-! ### What a start keeps (R416, R417) -/

/-- The field that a key of the register tables names. -/
def fieldAt (key : Nat) : Option (Page × RegSpec × FieldSpec) :=
  match regAt (key / 32) with
  | none => none
  | some (g, r) => (r.fields.find? (fun f => f.lo == key % 32)).map (fun f => (g, r, f))

/-- The registers of the power and sense die that lose their values with VIN_AON only: trips and energies (R329, R411). -/
def pdsKept (k : PageKind) (ro : Nat) : Bool :=
  match k with
  | .power4 => ro == 0x44 || ro == 0x48
  | .dport5 => ro == 0x78 || ro == 0x7c
  | .power8 => ro == 0x50 || (decide (0x74 ≤ ro) && decide (ro ≤ 0x88))
  | _ => false

/-- The root cell's registers (R441). -/
def rootCell (k : PageKind) (ro : Nat) : Bool := decide (k = .key0) && decide (0x4c ≤ ro) && decide (ro ≤ 0x5c)

/-- Does a warm start keep a field: BOOT values, the AON domain's with SO_FRAME, page 16 of BIST and the TIMEAX domain's (R416, R417)? -/
def warmKept (key : Nat) : Bool :=
  match fieldAt key with
  | none => false
  | some (g, r, f) =>
    let k := g.ps.kind
    decide (f.takes = .boot) || (decide (k = .scanout) && r.off == 0x70) || (decide (k = .bist16) && decide (0x40 ≤ r.off)) ||
      pdsKept k r.off || rootCell k r.off || (pageDom k g.n == 2 && ((r.saved && !syncLost k r.off f.lo) || timeKept k r.off f.lo))

/-- Does a cold start keep a field? A power-up of VIN_AON keeps the root cell only. -/
def coldKept (power : Bool) (key : Nat) : Bool :=
  match fieldAt key with
  | none => false
  | some (g, r, f) =>
    let k := g.ps.kind
    rootCell k r.off ||
      (!power && (decide (f.takes = .boot) || (decide (k = .bist16) && decide (0x40 ≤ r.off)) || pdsKept k r.off))

/-- Is a key a BOOT field's? -/
def bootKey (key : Nat) : Bool :=
  match fieldAt key with
  | some (_, _, f) => decide (f.takes = .boot)
  | none => false

/-- A start finds an OTP write under way: the record's slot stays invalid (R439); whether the life-cycle words had been blown is open. -/
def State.otpCut (s : State) : State :=
  let s1 := match s.otp.busy with
    | none => s
    | some (id, g, _) => s.mapOtp (fun o => { o with busy := none, bad := (4 * id + g) :: o.bad })
  match s1.otp.blow with
  | none => s1
  | some t => if s1.fresh.1 % 2 = 0 then s1.fresh.2.mapOtp (fun o => { o with blow := none }) else s1.fresh.2.lcBlow t

/-- The repair state that AON and flash hold. -/
def State.repKept (s : State) : RepSt := { flash := s.rep.flash, copies := s.rep.copies, setp := s.rep.setp, want := s.rep.want }

/-- The power state that outlasts a start: why the die is held off, the crystals, and losses of lock. -/
def State.pwrKept (s : State) : PwrSt :=
  { dark := s.pwr.dark, losses := s.pwr.losses, xtalLost := s.pwr.xtalLost, x32kLost := s.pwr.x32kLost, coldHold := s.pwr.coldHold }

/-- An axis through a reset of the fabric die: its velocity history goes, and from OFF its start levels (R63, R417). -/
def AxisSt.restart (x : AxisSt) (dark : Bool) : AxisSt :=
  { x with hist := [], started := x.started && !dark, zStart := x.zStart && !dark }

/-- The fabric die reset as by a warm start (R416, R417): every transaction, link, cell, line and program is gone. -/
def State.fabricReset (s0 : State) : State :=
  let s := s0.otpCut
  { pending := s.pending, regs := s.regs.filter (fun e => warmKept e.1), lag := s.lag.filter (fun e => bootKey e.1),
    sig := { out := s.sig.out },
    time := { clk := s.time.clk, axes := s.time.axes.map (fun e => (e.1, e.2.restart s.isDark)) },
    repair := s.repair, pow := { energy := s.pow.energy, busHeld := s.pow.busHeld, sumA := s.pow.sumA, sumB := s.pow.sumB, samples := s.pow.samples },
    pwr := s.pwrKept, vault := { root := s.vault.root, secs := s.vault.secs, late := s.vault.late },
    otp := s.otp, rep := s.repKept, usb := { vbus := s.usb.vbus }, freeCtr := s.freeCtr }

/-- The hub reset as by a cold start (R407, R416); at a power-up of VIN_AON the accumulators, the BOOT values, the repair map and the
setpoint are lost too. -/
def State.coldReset (s0 : State) (power : Bool) : State :=
  let s := s0.otpCut
  { pending := s.pending, regs := s.regs.filter (fun e => coldKept power e.1), sig := { out := s.sig.out },
    repair := if power then [] else s.repair, pow := { energy := if power then [] else s.pow.energy, busHeld := s.pow.busHeld },
    pwr := { s.pwrKept with coldHold := true }, vault := { root := s.vault.root, secs := s.vault.secs, late := s.vault.late },
    otp := s.otp, rep := if power then { flash := s.rep.flash, copies := s.rep.copies } else s.repKept,
    usb := { vbus := s.usb.vbus }, freeCtr := s.freeCtr }

/-! ### What every start does -/

/-- The life-cycle state and the records are read from OTP (R435, R438). -/
def State.readOtp (s : State) : State :=
  let recs := (List.range 8).filterMap (fun id => if id = 0 then none else (s.recNow id).map (fun l => (id, l)))
  let s1 := s.mapOtp (fun o => { o with recs := recs })
  let idn := (s1.record 1).getD []
  let bad := (List.range 28).any (fun b => s.genUsed (b / 4 + 1) (b % 4) && !s.genValid (b / 4 + 1) (b % 4))
  (s1.sets [(F.LC_STAT_STATE, s.lcWords), (F.SERIAL_LO_SERIAL, idn.getD 0 0), (F.SERIAL_HI_SERIAL, idn.getD 1 0),
    (F.AVS_STAT_TRIM_MV, match s1.record 6 with
      | some l => Config.trimMv l
      | none => 0)]).raiseIf bad 4081

/-- Every dock port enters its default role (R294): Rp on both CC pins. -/
def State.pdRoles (s : State) : State :=
  s.sets ((List.range 16).map (fun n => (F.PD_STAT_RP n, if s.on (F.PD_CTRL_EN n) then 2 else 0)))

/-- The hub's own part of a start: dock ports, life cycle, setpoint (R471), DRBG, root keys (R425), tampers to report (R434), repair map (R451), and a
completed shutdown test's event. -/
def State.startInit (s : State) (aonLost tested : Bool) : State :=
  let s1 := s.pdRoles.readOtp
  let s2 := (s1.set F.AVS_STAT_SET_MV (s1.setpoint / 10)).emit (.vout s1.setpoint)
  let s3 := (s2.drbgStart.formRoot).raiseIf s2.vault.root.isNone 4065
  let s4 := (s3.mapVault (fun v => { v with late := false })).raiseIf s3.vault.late 4064
  (s4.startMap aonLost).raiseIf tested 3976

/-- Does a start follow a shutdown whose test has completed? -/
def State.tested (s : State) : Bool := s.get F.BIST_STAT_PHASE == 4 && (s.rep.run || s.pwr.dark.contains 7)

/-- The counted bits of R74 are cleared, once LOST has been judged. -/
def State.clearCounted (s : State) : State :=
  { s with time := { s.time with axes := s.time.axes.map (fun e => (e.1, { e.2 with counted := false })) } }

/-- A warm start (R416, R417) with its cause. -/
def State.warmStart (s : State) (cause : Nat) (rail : Nat := 0) (prefer : Option Nat := none) : State :=
  let n := satAdd 32 (s.get F.WARM_COUNT_COUNT) 1
  let s1 := (s.fabricReset.mapPwr (fun p => { p with warming := true, prefer := prefer })).sets
    [(F.WARM_COUNT_COUNT, n), (F.RST_CAUSE_CAUSE, cause), (F.RST_CAUSE_RAIL, rail)]
  s1.clearCounted.startInit false s.tested

/-- A cold start (R407, R416) with its cause; after an always-on brown-out every axis that had counted is LOST (R74). -/
def State.coldStart (s : State) (cause : Nat) (power : Bool) : State :=
  let s1 := (s.coldReset power).set F.RST_CAUSE_CAUSE cause
  let s2 := if cause = 2 then
      ((List.range 8).filter (fun a => (s.axis a).counted)).foldl State.setLost (s1.set F.TIME0_CLK_STAT_COLD 1)
    else s1
  s2.startInit power (s.tested && !power)

/-! ### Trips that hold the die off (R410, R411, R447) -/

/-- The fabric die's domains other than AON are OFF, until a start. -/
def State.darken (s : State) (why : Nat) : State :=
  (s.fabricReset.mapPwr (fun p => { p with dark := why :: p.dark.erase why })).sets (((List.range 232).drop 1).map (fun d => (F.DOM_STAT_STATE d, 2)))

/-- The die is no longer held off for a reason. -/
def State.undark (s : State) (why : Nat) : State := s.mapPwr (fun p => { p with dark := p.dark.erase why })

/-- A thermal trip (R411). -/
def State.thermalTrip (s : State) (sensor : Nat) : State :=
  if s.pwr.dark.contains 6 then s
  else
    let auto := s.on F.THERM_CTRL_AUTO_RESTART
    let s1 := (List.range 16).foldl (fun s n => (s.vbReq n false).detach n false) s
    let s2 := (s1.sets [(F.THERM_STAT_SENSOR, sensor), (F.THERM_STAT_TRIPPED, 1)]).sat F.TRIP_COUNT_COUNT
    (((s2.darken 6).mapPwr (fun p => { p with cool := false, autoRe := auto }))).emit (.irq true)

/-- The start that ends a thermal trip records cause THERMAL and raises EV0031. -/
def State.thermalWarm (s : State) : State := ((s.undark 6).warmStart 6).raise 31

/-- The die has cooled: with AUTO_RESTART the hub makes the warm start of its own. -/
def State.cooled (s : State) : State :=
  if s.pwr.dark.contains 6 then
    (if s.pwr.autoRe then s.thermalWarm else s.mapPwr (fun p => { p with cool := true }))
  else s

/-- WARM_N (R411, R416). -/
def State.warmPin (s : State) : State :=
  if s.pwr.dark.contains 6 then (if s.pwr.cool then s.thermalWarm else s) else
    let t := s.warmStart 3
    t.undark 7

/-- PORST_N (R411, R416, R419): a running shutdown ends unrecorded. -/
def State.porst (s : State) : State :=
  let s1 := if s.rep.run then s.set F.BIST_STAT_PHASE 5 else s
  if s.pwr.dark.contains 6 then (if s.pwr.cool then ((s1.undark 6).coldStart 6 false).raise 31 else s)
  else (s1.coldStart 1 false).undark 7

/-- A RESET trip (R410). -/
def State.railReset (s : State) (k : Nat) : State :=
  let s1 := (s.set F.RST_CAUSE_RAIL k).raise 12
  let held := fun (s : State) => s.mapPwr (fun p => { p with dark := k :: p.dark.erase k })
  if k ≤ 1 then held (s1.warmStart 5 k)
  else if k ≤ 3 then held s1.serdesReset
  else if k = 4 then held s1.ioLost
  else held s1

/-- A rail has stood above WARN for 100 µs (R410): its domains leave reset. -/
def State.railRelease (s : State) (k : Nat) : State :=
  if s.pwr.dark.contains k then
    let s1 := s.undark k
    if k = 5 then s1.coldStart 0 true
    else if 2 ≤ k ∧ k ≤ 3 then
      (if s1.on F.POWER3_CLK_STAT_ON_PLL && s1.pwr.dark.isEmpty then
        (List.range 80).foldl (fun s m => if s.domState (152 + m) = 0 then (s.reapply (152 + m)).macroUp m else s) s1
       else s1)
    else s1
  else s

/-! ### The firmware image (R418, R419) -/

/-- IMG_STAT.RESULT of an image: 1 accepted, 2 signature, 3 rollback, 4 format. -/
def State.imageResult (s : State) (m : FwImage) : Nat :=
  let key := (s.record 2).map (fun l => ((l.take 12).zipIdx).foldl (fun v w => v + 2 ^ (32 * w.2) * w.1) 0)
  if !m.formatOk then 4
  else if !m.sigOk || key != some m.keyHash.toNat then 2
  else if m.version.toNat < ((s.record 3).getD [0]).getD 0 0 then 3
  else 1

/-- An image is in use: the management pair runs it, and the start goes on to the clocks. -/
def State.imageTaken (s : State) (m : FwImage) : State :=
  let s1 := (s.mapPwr (fun p => { p with image := some m })).sets [(F.IMG_STAT_VERSION, m.version.toNat), (F.START_STAT_PHASE, 3)]
  ((if s1.engs.pair = 3 then [2] else [0, 1, 2]).foldl State.engReload s1).flashCopy

/-- May an image be loaded: the start has not gone past VERIFY, and the life cycle allows one (R418, R436)? -/
def State.imageOpen (s : State) : Bool :=
  !s.isDark && decide (s.get F.START_STAT_PHASE ≤ 2) && s.life != 0 && s.life != 5

/-- The slot that a start loads next. -/
def State.slotNext (s : State) : Nat :=
  let first := s.pwr.prefer.getD (s.eff F.BOOT_CTRL_SLOT_PREF)
  if s.pwr.tried = 0 then first else 1 - first

/-- An image of a flash slot has been loaded and checked (R418). -/
def State.imageVerified (s : State) (m : FwImage) : State :=
  let r := s.imageResult m
  let s1 := s.sets [(F.IMG_STAT_RESULT, r), (F.START_STAT_SLOT, s.slotNext)]
  if r = 1 then s1.imageTaken m
  else if s.pwr.tried = 0 then ((s1.mapPwr (fun p => { p with tried := 1 })).set F.START_STAT_PHASE 1).raise 1
  else if s.eff F.BOOT_CTRL_RECOVERY_EN = 1 then ((s1.set F.START_STAT_PHASE 6).raise 2).usbReason 1
  else s1

/-! ### Orderly shutdown (R447, R448) -/

/-- RST_CMD.SHUTDOWN: QUIESCE. -/
def State.shutdown (s : State) : State :=
  if s.rep.run then s
  else
    let s1 := (s.mapRep (fun r => { r with run := true, alone := false, begun := s.now, fails := [], tested := [] })).set F.BIST_STAT_PHASE 1
    let s2 := (List.range 8).foldl (fun s i => if (s.slot i).state = .free then s else s.dropSlot i 9) s1
    let s3 := (List.range 48).foldl State.portDown s2
    let s4 := (List.range 16).foldl (fun s n => (s.modeExit n true).vbReq n false) s3
    (List.range 24).foldl (fun s e => s.engStop e 4) s4

/-- TEST begins with program 0. -/
def State.quiesced (s : State) : State :=
  (List.range 16).foldl (fun s k => s.sets [(F.BIST_RES_RESULT k, 0), (F.BIST_RES_FAILED k, 0)])
    (s.sets [(F.BIST_STAT_PHASE, 2), (F.BIST_STAT_PROG, 0)])

/-- A program of the test ends (R449): its result, and the failing elements for RECORD. -/
def State.programDone (s : State) (elems : List ElemResult) : State :=
  let k := s.get F.BIST_STAT_PROG
  let g := s.golden k
  let bad := elems.filter (elemFails k g)
  let unknown := g.isNone && !marchProg k
  let res := if unknown then 3 else if bad.isEmpty then 1 else 2
  let sig := match (if bad.isEmpty then elems else bad).getLast? with
    | some x => x.sig.toNat
    | none => 0
  let s1 := (((s.sets [(F.BIST_RES_RESULT k, res), (F.BIST_RES_FAILED k, min 255 bad.length)]).set64 (F.BIST_SIG_LO_SIG k) (F.BIST_SIG_HI_SIG k) sig)).raiseIf
    (res == 2) 3977
  if s.rep.alone then (s1.mapRep (fun r => { r with alone := false })).set F.BIST_STAT_PHASE 0
  else
    let fails := bad.filterMap (fun x => match x.elem with
      | some e => some { elem := e, rows := x.rows }
      | none => if x.rows.isEmpty then none else some { elem := x.rows.headD ⟨0, 0, 0⟩, rows := x.rows })
    let s2 := s1.mapRep (fun r => { r with fails := r.fails ++ fails, tested := if unknown then r.tested else r.tested ++ [k] })
    if k = 15 then s2.set F.BIST_STAT_PHASE 3 else s2.set F.BIST_STAT_PROG (k + 1)

/-- RECORD (R450, R451). -/
def State.recorded (s : State) : State := s.recordTest.set F.BIST_STAT_FAILS (s.rep.fails.length)

/-- DONE (R447). -/
def State.shutdownDone (s : State) (ms : Nat) : State :=
  let s1 := s.sets [(F.BIST_STAT_PHASE, 4), (F.SHUT_LAST_MS_MS, ms)]
  if s1.on F.SHUT_CTRL_RESTART then s1.warmStart 4 else s1.darken 7

/-- BIST_CMD.GO runs one program alone, with no map change (R454). -/
def State.bistGo (s : State) (k : Nat) : State :=
  if s.rep.run ∨ s.rep.alone then s
  else (s.mapRep (fun r => { r with alone := true })).sets [(F.BIST_STAT_PHASE, 2), (F.BIST_STAT_PROG, k)]

/-- RST_CMD is written (R420). -/
def State.rstCmd (s : State) (v : Nat) : State :=
  if hasBit v 0 then s.warmStart 4 else if hasBit v 1 then s.shutdown else s

/-! ### Time passes (R50, R73, R417) -/

/-- One AON cycle of the hub clock, 40 ns, in RET and in a warm start. -/
def State.aonCycle (s : State) : State :=
  s.advanceClk (20 * s.increment) (20 * (s.increment * s.get F.SLEW_PPM_PPM / 1000000))

/-- Does the hub clock run on the time clock? -/
def State.onTimeClock (s : State) : Bool := s.timeOn && s.on F.POWER3_CLK_STAT_ON_PLL

/-- Time passes (log entry 26): one tick of the time clock, or one AON cycle where the time clock does not run; after a cold start the hub
clock holds at 0 until the PLL switch. The seconds counter of the root cell runs on the 32.768 kHz crystal (R432). -/
def State.timePasses (s : State) : State :=
  let ns := if s.onTimeClock then 2 else 40
  let s1 := if s.onTimeClock then s.tick else if s.pwr.coldHold then s else s.aonCycle
  (if s1.pwr.x32kLost then s1 else s1.mapVault (fun v => { v with secs := v.secs + ns })).usbDue

end Sys2Proof.Machine
end

