-- ==== Sys2Proof/Machine/Effects.lean ====
section
/-! DEFINITION. The blocks behind the management space, joined: why a write is refused beyond its form, what a stored write
does, and which registers are formed at the read. -/

namespace Sys2Proof.Machine

/-- Why a write is refused by a rule of its block (R482 and the field tables' Meaning columns). -/
def State.blockChk (s : State) (x : Wr) : Option Reason :=
  if x.ro = 0x8 then tooDeep (pageDom x.k x.n) (bits x.v 1 2)
  else match x.k with
  | .global0 => if x.ro = 0x50 ∧ bits x.v 8 8 ≠ 0xA5 then some .badValue else none
  | .global1 | .key0 | .otp48 => s.vaultChk x
  | .power0 | .power1 | .power3 => s.powerChk x
  | .time0 | .time2 | .axis => s.timeChk x
  | .sched1 | .sched2 | .target => s.schedChk x
  | .dir1 | .dir2 | .cream | .guard1 | .guard2 => s.poolChk x
  | .hport0 => if x.ro = 0x40 ∧ hasBit x.v 0 ∧ s.looped x.n then some .badValue else none
  | .mport => if x.ro = 0x40 ∧ x.v % 4 ≠ 0 ∧ s.looped (32 + x.n) then some .badValue else none
  | .lane32 => s.laneChk x
  | .dport0 | .dport1 | .dport2 | .dport3 => s.dockChk x
  | .dport4 => if x.ro = 0x54 ∧ hasBit x.v 5 ∧ s.looped (48 + x.n) then some .badValue else none
  | .dport5 => s.vbChk x
  | .scanout => s.soChk x
  | .bridge1 | .bridge2 => s.brChk x
  | .engine1 | .engpage => s.engChk x
  | _ => none

/-- What a stored write does beyond storing; `s0` is the state before the write. -/
def State.effect (s s0 : State) (x : Wr) : State :=
  match x.k with
  | .global0 => if x.ro = 0x50 then s.rstCmd x.v else s
  | .global1 | .key0 | .key2 | .otp48 => s.vaultFx s0 x
  | .power0 | .power1 | .power2 | .power3 => s.powerFx x
  | .bist16 => if x.ro = 0x4c ∧ hasBit x.v 8 ∧ s.testMode then s.bistGo (x.v % 16) else s
  | .time0 => if x.ro = 0x5c ∧ hasBit x.v 0 ∧ s.stepOver = false then (s.timeFx s0 x).stepScan s.stepOffset else s.timeFx s0 x
  | .time2 | .time3 | .axis => s.timeFx s0 x
  | .sched0 | .sched1 | .sched2 | .sched3 | .sched4 | .sched5 | .switch0 | .switch1 => s.schedFx s0 x
  | .event0 | .event1 | .event2 | .target => s.eventFx s0 x
  | .mailbox => s.mailFx s0 x
  | .dir1 | .dir2 | .dir3 | .dir4 | .cream | .guard0 | .guard1 | .guard3 => s.poolFx s0 x
  | .hport0 | .mport => s.portFx s0 x
  | .lane32 => s.laneFx s0 x
  | .dport0 | .dport1 | .dport2 | .dport3 => s.dockFx s0 x
  | .dport4 | .dport5 | .power8 => s.powFx s0 x
  | .svcusb => s.usbFx s0 x.ro x.v
  | .scanout => s.soFx s0 x
  | .bridge2 | .bridge3 | .bridge5 => s.brFx s0 x
  | .engine1 | .engpage => s.engFx x
  | _ => s

/-- The registers formed at the read. -/
def State.derived (s : State) (x : Wr) : Option Nat :=
  match x.k with
  | .mailbox => s.mailRead x
  | .cream | .guard1 | .mport => s.poolRead x
  | .global1 | .otp48 => s.vaultRead x
  | .repair0 | .repair1 => s.repRead x
  | .power0 | .power2 => s.powerRead x
  | .svcusb => s.usbRead x.ro
  | _ => s.coreRead x

/-- The W1S bits of a register that read 1 because the action they name is still running (R1; DEDUCED, log entry 61). The other W1S actions
end within the command that starts them. -/
def State.goRuns (s : State) (x : Wr) : Nat :=
  let two := fun (b : Nat) (on : Bool) => 2 ^ b * b2n on
  match x.k with
  | .hport0 => if x.ro = 0x40 then two 1 (s.port.training.contains x.n || s.pwr.rtPorts.contains x.n) else 0
  | .mport => if x.ro = 0x40 then two 2 (s.port.training.contains (32 + x.n) || s.pwr.rtPorts.contains (32 + x.n)) else 0
  | .lane32 =>
    if x.ro = 0x80 then two 0 (s.pwr.rtMacs.contains x.w)
    else if x.ro = 0x8c then two 0 (s.on (F.SEQ_STAT_RUNNING x.w))
    else 0
  | .time0 => if x.ro = 0x5c then two 0 (decide (s.time.clk.slew ≠ 0)) else 0
  | .dport1 => if x.ro = 0x64 then two 0 (s.lk x.n).rtSoft else 0
  | .dport4 =>
    let p := s.pd x.n
    if x.ro = 0x54 then
      two 0 (match p.seq with
        | .hardRst _ => true
        | _ => false) + two 1 (decide (p.seq = .softRst) || p.softDue) + two 2 (p.own == 1) + two 3 (p.own == 2) + two 4 p.capsDue + two 5 (p.vdmDue || p.vdm != 0)
    else 0
  | .otp48 => if x.ro = 0x48 then two 31 (s.on F.OTP_STAT_BUSY) else 0
  | .power3 => if x.ro = 0x44 then two 0 s.pwr.toPll + two 1 s.pwr.rtClk else 0
  | _ => 0

/-! ### The page header (R21, R23, R369) -/

/-- PAGE_CTRL.EN has been written: on return to 1 every pending, enabled event of the page is delivered (R23). -/
def State.afterEn (s s0 : State) (pg : Nat) : State :=
  if s.on (hEn pg) && !s0.on (hEn pg) then (s.enabledNow pg (s.get (hEvtEn pg))).foldl State.redeliver s else s

/-- EVT_EN has been written: the events newly enabled while their EVT_STAT bits stand are delivered (R369). -/
def State.afterEvtEn (s s0 : State) (pg : Nat) : State :=
  if s.on (hEn pg) then
    (s.enabledNow pg ((List.range 32).foldl (fun m b =>
      if hasBit (s.get (hEvtEn pg)) b && !hasBit (s0.get (hEvtEn pg)) b then m + 2 ^ b else m) 0)).foldl State.redeliver s
  else s

/-- PAGE_CTRL.DOM_REQ has been written: the requests of the page's domain are looked at anew (R401). -/
def State.afterDomReq (s s0 : State) (pg : Nat) : State :=
  if s.get (hDomReq pg) = s0.get (hDomReq pg) then s
  else match pageOf pg with
    | some g => s.domEval (pageDom g.ps.kind g.n)
    | none => s

/-- The effect of a stored write to a page header register. -/
def State.headerFx (s s0 : State) (pg ro v : Nat) : State :=
  if ro = 0x8 then (s.afterEn s0 pg).afterDomReq s0 pg
  else if ro = 0x10 then s.clearEvtStat pg v
  else if ro = 0x14 then s.afterEvtEn s0 pg
  else s

end Sys2Proof.Machine
end

