-- ==== Sys2Proof/Machine/Mgmt.lean ====
section
/-! DEFINITION. The management space as its paths see it (R16-R49): the judgment of a write, direct and shadow writes,
configuration transactions and their commit cycle, and reads. -/

namespace Sys2Proof.Machine

/-! ### The judgment of a write -/

/-- What becomes of a write. -/
inductive Verdict where
  /-- It has no effect: a reserved offset, a read-only register, a register whose new value is discarded (R1, R2, R26), or a fabric die that
  is held off (R410, R411). -/
  | ignored
  | refused (r : Reason)
  /-- It enters a transaction slot (R29). -/
  | shadow (slot : Nat)
  /-- It enters the save or wake image of a domain in RET or OFF (R26). -/
  | image
  /-- Requester 0x20 writes a held page: the holding transaction is aborted first (R31). -/
  | overHold (slot : Nat)
  | direct
deriving DecidableEq, Repr

/-- The tag of a slot in use (R27). -/
def tagOf (i gen : Nat) : Nat := gen * 4096 + 256 + i

/-- How a write acts by its register's domain (R26): directly while the domain is ON, else in its image or not at all. -/
def State.domRoute (s : State) (pgn : Page) (r : RegSpec) (bank : Nat) : Verdict :=
  if s.domState (regDom pgn.ps.kind pgn.n r.bank bank) = 0 then .direct else if r.held then .image else .ignored

/-- The judgment of a write to an OWNER (R24): in its stated order; it is a saved register, so that outside ON it enters its domain's image
(R26). -/
def State.judgeOwner (s : State) (p : Nat) (pgn : Page) : Verdict :=
  if ownerFixed pgn.ps.kind pgn.n then .refused .badValue
  else if p ≠ 0x20 ∧ ¬ (p < 32 ∧ s.get F.FM_PATH_REQ = p) then .refused .notOwner
  else if s.get (hTxnTag pgn.pg) ≠ 0 then .refused .pageHeld
  else if s.domState (pageDom pgn.ps.kind pgn.n) = 0 then .direct else .image

/-- How an accepted write acts, once its page's domain, the transaction of its path and the holder of the page are looked
at (R26, R29-R31); LC_REQ is never shadowed (R437). The holder bars every direct write but those of per-path selects, which a
transaction needs to reach several entries of one window (R116; log entry 39). -/
def State.judgeRoute (s : State) (p : Nat) (pgn : Page) (r : RegSpec) (off : Nat) : Verdict :=
  let bank := s.bankOf p pgn.n r.bank
  let cur := s.get (F.TXN_CUR_TAG p)
  let held := s.get (hTxnTag pgn.pg)
  let never := neverShadowed pgn.ps.kind off r.bank
  if !never && hasBit cur 8 then
    let x := s.slot (bits cur 0 3)
    if x.state = .opened ∧ x.gen = bits cur 12 4 ∧ x.opener = p then
      (if held ≠ 0 ∧ held ≠ tagOf (bits cur 0 3) x.gen then .refused .pageHeld
       else if pgn.ps.kind = .global1 ∧ off = 0x44 then .refused .badValue else .shadow (bits cur 0 3))
    else .refused .staleTag
  else if decide (r.bank ≠ .perPath) && held != 0 then
    (if p = 0x20 then .overHold (bits held 0 3) else .refused .pageHeld)
  else s.domRoute pgn r bank

/-- The judgment of a write of `v` to an offset with byte enables `be` (R16-R31, R482). A write into a view that is read only for its
path is refused as NOT_OWNER: the spec names no reason there (DESIGN CHOICE, log entry 40). -/
def State.judge (s : State) (p : Path) (addr v be : Nat) : Verdict :=
  let c := pathCode p
  if s.isDark then .ignored
  else if !s.inView p addr then .refused .outsideView
  else if be ≠ 15 then .refused .partialWrite
  else match pageOf addr with
    | none => .ignored
    | some pgn =>
      let off := addr % 4096
      match findReg pgn.ps.kind off with
      | none => if (s.viewReadOnly p addr || !s.owns c pgn.pg) && !sharedPage pgn.ps.kind then .refused .notOwner else .ignored
      | some (r, i) =>
        if off = 0x20 then s.judgeOwner c pgn
        else if (s.viewReadOnly p addr || !s.owns c pgn.pg) && !openToAll pgn.ps.kind off r.bank then .refused .notOwner
        else if 0x40 ≤ off ∧ s.on (hEn pgn.pg) = false ∧ c ≠ 0x20 ∧ r.bank ≠ .perPath then .refused .badValue
        else if r.fields.all (fun f => !s.stores pgn.ps.kind r.off f (bits v f.lo f.width)) then .ignored
        else
          let route := s.judgeRoute c pgn r off
          match route with
          | .refused e => .refused e
          | _ =>
            if !s.formOk pgn.ps.kind r v then .refused .badValue
            else match s.blockChk ⟨pgn.ps.kind, pgn.n, if off < 0x40 then off else r.off, i, s.bankOf c pgn.n r.bank - 1, c, v⟩ with
              | some e => .refused e
              | none => route

/-- Does an entry write a GUARD rule field (R177)? -/
def guardRule (e : Shadow) : Bool := e.addr == 0x701044 || (decide (0x702080 ≤ e.addr) && decide (e.addr < 0x703000))

/-! ### Shadow writes (R29-R32) -/

/-- A shadow entry's value after a further write: W1C and W1S bits are ORed, the others replaced (R32). -/
def mergeWord (r : RegSpec) (old v : Nat) : Nat :=
  r.fields.foldl (fun w f =>
    if f.acc = .w1c ∨ f.acc = .w1s then w + 2 ^ f.lo * Nat.lor (bits old f.lo f.width) (bits v f.lo f.width)
    else w + 2 ^ f.lo * bits v f.lo f.width) 0

/-- The granules that a transaction's fills name (R178). -/
def fillSum (l : List Shadow) : Nat := l.foldl (fun n e => if e.addr = 0x701044 then n + bits e.value 0 17 + 1 else n) 0

/-- A shadow write (R31, R32, R178): one entry for each distinct register copy; entry 4,097 breaks the transaction. -/
def State.addShadow (s : State) (i : Nat) (p : Path) (addr v : Nat) : State :=
  match pageOf addr with
  | none => s
  | some pgn =>
    match findReg pgn.ps.kind (addr % 4096) with
    | none => s
    | some (r, _) =>
      let x := s.slot i
      let bank := s.bankOf (pathCode p) pgn.n r.bank
      if x.entries.any (fun e => e.bank == bank && e.addr == addr) &&
          !(addr == 0x701044 && decide (131072 < fillSum (x.entries.filter (fun e => !(e.bank == bank && e.addr == addr))) + bits v 0 17 + 1)) then
        s.setSlot i { x with entries := x.entries.map (fun e =>
          if e.bank = bank ∧ e.addr = addr then { e with value := mergeWord r e.value v } else e) }
      else if 4096 ≤ x.entries.length ∨ (addr = 0x701044 ∧ 131072 < fillSum x.entries + bits v 0 17 + 1) then
        (s.setSlot i { x with state := .broken }).refuse p addr .txnFull
      else
        (s.setSlot i { x with entries := x.entries ++ [⟨bank, addr, mergeWord r 0 v⟩] }).set (hTxnTag pgn.pg) (tagOf i x.gen)

/-! ### Direct writes -/

/-- A direct write acts: the value is stored, and the register's effect follows. -/
def State.applyDirect (s : State) (p addr v : Nat) : State :=
  match pageOf addr with
  | none => s
  | some pgn =>
    match findReg pgn.ps.kind (addr % 4096) with
    | none => s
    | some (r, i) =>
      let t := s.storeAt p addr v
      if addr % 4096 < 0x40 then
        (t.headerFx s pgn.pg (addr % 4096) v).bumpIf (addr % 4096 == 0x10 && Nat.land (s.evtStatWord pgn.pg) v != 0) pgn.pg
      else if guardRule ⟨0, addr, v⟩ then t
      else t.effect s ⟨pgn.ps.kind, pgn.n, r.off, i, s.bankOf p pgn.n r.bank - 1, p, v⟩

/-- A shadow entry is applied in a commit cycle (R35, R36), or under R26 where its page's domain is in RET or OFF. -/
def State.applyEntry (s : State) (p : Nat) (e : Shadow) : State :=
  match pageOf e.addr with
  | none => s
  | some pgn =>
    match findReg pgn.ps.kind (e.addr % 4096) with
    | none => s
    | some (r, i) =>
      if s.domState (regDom pgn.ps.kind pgn.n r.bank e.bank) = 0 then
        let t := s.storeReg pgn r i e.bank e.addr e.value true
        if e.addr % 4096 < 0x40 then t.headerFx s pgn.pg (e.addr % 4096) e.value
        else t.effect s ⟨pgn.ps.kind, pgn.n, r.off, i, e.bank - 1, p, e.value⟩
      else if r.held then (s.storeReg pgn r i e.bank e.addr e.value true).imaged pgn r e.bank e.addr
      else s

/-! ### Transactions (R27-R40) -/

/-- Commit a transaction (R35): every entry in one cycle, PAGE_SEQ of each page, CFG_SEQ, CTIME, the result, EV0032. A write of
RST_CMD among them acts once the others have committed. -/
def State.commit (s : State) (i : Nat) (late : Bool) : State :=
  let x := s.slot i
  let starts := fun (e : Shadow) => e.addr == 0x50
  let s1 := (x.entries.filter (fun e => !starts e)).foldl (fun s e => s.applyEntry x.opener e) s
  let s2 := ((x.entries.map (fun e => e.addr / 4096 * 4096)).eraseDups).foldl State.bump s1
  let s3 := (s2.wrap F.CFG_SEQ_COUNT).set64 F.CTIME_LO_NS F.CTIME_HI_NS s.now
  let s4 := s3.freeSlot i (if late then 2 else 1) (s3.get F.CFG_SEQ_COUNT % 2 ^ 24)
  let s5 := ((if x.wheel = .none then s4 else s4.wheelSub 1).raise 32).raiseIf late 36
  (x.entries.filter starts).foldl (fun s e => s.applyEntry x.opener e) s5

/-- Is a slot armed with its condition met, its commit not yet under way? -/
def State.slotMet (s : State) (i : Nat) : Bool := decide ((s.slot i).state = .armed) && (s.slot i).met.isSome && !(s.slot i).drain

/-- Does a slot hold a GUARD rule field (R177)? -/
def State.slotGuard (s : State) (i : Nat) : Bool := (s.slot i).entries.any guardRule

/-- Commit every transaction whose condition is met, in ascending slot order (R37); those that write a GUARD rule field share a
drain, or wait for the one that runs (R179, R181). -/
def State.settle : Nat → State → State
  | 0, s => s
  | n + 1, s =>
    match (List.range 8).find? (fun i => s.slotMet i && !(s.slotGuard i && !s.gd.drain.isEmpty)) with
    | none => s
    | some i =>
      if s.slotGuard i then (s.drainBegin ((List.range 8).filter (fun i => s.slotMet i && s.slotGuard i))).settle n
      else (s.commit i ((s.slot i).met == some true)).settle n

/-- Every transaction whose condition is met commits; each slot at most once. -/
def State.settled (s : State) : State := s.settle 16

/-- The instant at which an armed slot acts, where it has come (R33, R117, R121): the fine slot of an AT_TIME slot's parameter, or of an AT_AXIS
slot's predicted time. -/
def State.dueInstant (s : State) (i : Nat) : Option Int :=
  let x := s.slot i
  if x.state ≠ .armed then none
  else if x.cond = 1 then (if fineSlot x.param ≤ s.now then some (fineSlot x.param) else none)
  else if x.cond = 2 ∧ s.unsure x.axis = false ∧ !passed (s.axis x.axis).pc (slotPos x) (x.dir == 1) ∧ x.wheel ≠ .axisOverflow then
    match s.predict x.axis (slotPos x) (x.dir == 1) with
    | some t => if fineSlot t ≤ s.now then some (fineSlot t) else none
    | none => none
  else none

/-- A slot's instant has come: it is met with every other slot of the same instant, and they commit in ascending order, those that write a
GUARD rule field after one drain that they share (R37, R181). -/
def State.instantMet (s : State) (i : Nat) : State :=
  match s.dueInstant i with
  | none => s
  | some t => (((List.range 8).filter (fun j => s.dueInstant j == some t)).foldl (fun s j => s.markMet j false) s).settled

/-- A drain ends (R179-R181): its transactions commit in ascending slot order, the accesses it held are checked under the new
rules, and a transaction that waited starts its own drain. -/
def State.drainEnd (s : State) : State :=
  let l := s.gd.drain.filter (fun i => decide ((s.slot i).state = .armed) && (s.slot i).drain)
  let s1 := l.foldl (fun s i => s.commit i ((s.slot i).met == some true)) s.drainRecord
  ((s1.raise 2944).releaseHeld).settled

/-- Opening a transaction (R28): the tag returned, and the state. -/
def State.txnOpen (s : State) (p : Nat) : Nat × State :=
  match (List.range 8).find? (fun i => decide ((s.slot i).state = .free) && !(s.slot i).quar) with
  | none => (0, s)
  | some i =>
    let x := s.slot i
    let gen := (x.gen + 1) % 16
    (tagOf i gen, s.setSlot i { x with state := .opened, gen := gen, opener := p, entries := [] })

/-- A transaction is armed with its condition (R33, R34). -/
def State.armSlot (s : State) (i p v : Nat) : State :=
  let cond := bits v 16 4
  let a := bits v 20 3
  let dir := bits v 23 1
  let so := bits v 24 3
  let param := s.get64 (F.TXN_PARAM_LO_VALUE p) (F.TXN_PARAM_HI_VALUE p)
  let x : Slot := { s.slot i with state := .armed, cond := cond, axis := a, dir := dir, so := so, param := param, met := none, drain := false, crossed := false }
  let put (s : State) (w : Wheel) : State := (s.setSlot i { x with wheel := w }).wheelAdd 1
  match cond with
  | 0 => (s.setSlot i x).markMet i false
  | 1 => if param ≤ s.now then (s.setSlot i x).markMet i true else put s (placeAt s.now param)
  | 2 =>
    let pos := toSigned 64 param
    if s.unsure a then
      let pol := s.get (F.AX_CTRL_POLICY a)
      if pol = 1 then ((s.setSlot i x).markMet i true).policyCount a
      else if pol = 2 then ((s.setSlot i x).dropSlot i 8).policyCount a
      else put s (s.axisWheelFor a pos)
    else if passed (s.pos a) pos (dir == 1) then (s.setSlot i x).markMet i true
    else put s (s.axisWheelFor a pos)
  | _ =>
    if param % 2 ^ 32 ≠ 0xFFFFFFFF ∧ param % 2 ^ 32 ≤ s.get (F.SO_FRAME_NUMBER so) then (s.setSlot i x).markMet i true
    else put s (.fine 0)

/-- A write of TXN_COMMIT is judged (R39) and acts (R33). -/
def State.txnCommit (s : State) (p : Path) (v : Nat) : State :=
  let i := bits v 0 3
  let x := s.slot i
  if x.state = .free ∨ x.gen ≠ bits v 12 4 then s.stale 5
  else if x.opener ≠ pathCode p ∧ pathCode p ≠ 0x20 then s.refuse p 0x2050 .notOwner
  else match x.state with
    | .broken => s.dropSlot i 7
    | .opened => if 4 ≤ bits v 16 4 then s.refuse p 0x2050 .badCond else (s.armSlot i (pathCode p) v).settled
    | _ => s.refuse p 0x2050 .badCond

/-- A write of TXN_ABORT is judged (R39) and acts (R38). -/
def State.txnAbort (s : State) (p : Path) (v : Nat) : State :=
  let i := bits v 0 3
  let x := s.slot i
  if x.state = .free ∨ x.gen ≠ bits v 12 4 then s.stale 5
  else if x.opener ≠ pathCode p ∧ pathCode p ≠ 0x20 then s.refuse p 0x2054 .notOwner
  else if x.drain then s.stale 5
  else s.dropSlot i 3

/-! ### Writes and reads -/

/-- How a write acts by the domain of the register at an offset. -/
def State.routeAt (s : State) (p addr : Nat) : Verdict :=
  match pageOf addr with
  | none => .ignored
  | some pgn =>
    match findReg pgn.ps.kind (addr % 4096) with
    | none => .ignored
    | some (r, _) => s.domRoute pgn r (s.bankOf p pgn.n r.bank)

/-- A write whose domain alone decides it. -/
def State.writeBy (s : State) (p addr v : Nat) (eff : State → State) : State :=
  match s.routeAt p addr with
  | .direct => eff s
  | .image => s.imageAt p addr v
  | _ => s

/-- A write to an offset whose direct effect is given: judged, then refused, shadowed, imaged or carried out. -/
def State.writeVia (s : State) (p : Path) (addr v be : Nat) (eff : State → State) : State :=
  match s.judge p addr v be with
  | .ignored => s
  | .refused r => (s.refuse p addr r).raiseIf (r == .lifeCycle && addr == 0x1044) 49
  | .shadow i => s.addShadow i p addr v
  | .image => s.imageAt (pathCode p) addr v
  | .overHold i => ((s.dropSlot i 6).raise 33).writeBy (pathCode p) addr v eff
  | .direct => eff s

/-- A write to a register of the space. -/
def State.writeWord (s : State) (p : Path) (addr v be : Nat) : State :=
  if addr = 0x2050 then s.writeVia p addr v be (fun s => s.txnCommit p v)
  else if addr = 0x2054 then s.writeVia p addr v be (fun s => s.txnAbort p v)
  else s.writeVia p addr v be (fun s => (s.applyDirect (pathCode p) addr v).settled)

/-- A write to any offset of the space. One that is not aligned reaches two registers, each with the byte enables that fall within it
(R18), so that neither has all four. -/
def State.write (s : State) (p : Path) (addr v be : Nat) : State :=
  let en := be % 16 * 2 ^ (addr % 4)
  let a := addr / 4 * 4
  if addr % 4 = 0 then s.writeWord p addr v be
  else
    let s1 := if en % 16 = 0 then s else s.writeVia p a v (en % 16) (fun s => s)
    if en / 16 = 0 then s1 else s1.writeVia p ((a + 4) % 2 ^ 26) v (en / 16) (fun s => s)

/-- A write of any width (R18): each register that it touches is written, in ascending order, with the bytes and byte enables that fall within
it. Word `k` of the data and its enables are those of the four bytes at `addr + 4 * k`. -/
def State.writeWide (s : State) (p : Path) (addr : Nat) (words : List Word) (ens : List (BitVec 4)) : State :=
  match words, ens with
  | [v], [be] => s.write p addr v.toNat be.toNat
  | _, _ =>
    let v : Nat := words.foldr (fun w n => w.toNat + 2 ^ 32 * n) 0 * 256 ^ (addr % 4)
    let e : Nat := ens.foldr (fun b n => b.toNat + 16 * n) 0 * 2 ^ (addr % 4)
    (List.range (words.length + 1)).foldl (fun s j =>
      if e / 16 ^ j % 16 = 0 ∧ (addr % 4 ≠ 0 ∨ j = words.length) then s
      else s.writeWord p ((addr / 4 * 4 + 4 * j) % 2 ^ 26) (v / 2 ^ (32 * j) % 2 ^ 32) (e / 16 ^ j % 16)) s

/-- The LO registers whose read latches other words for the path (R51 and the field tables). -/
def latchedBy (k : PageKind) (ro : Nat) : List Nat :=
  match k with
  | .global2 => if ro = 0x70 then [0x74] else []
  | .time0 => if ro = 0x48 then [0x4c, 0x50] else []
  | .axis => if ro = 0x54 then [0x58] else if ro = 0x5c then [0x60] else []
  | .hport0 => if ro = 0x60 then [0x64, 0x68, 0x6c] else []
  | .lane32 => if ro = 0x124 then [0x128] else if ro = 0x148 then [0x14c] else []
  | .dport5 => if ro = 0x78 then [0x7c] else []
  | .scanout => if ro = 0x74 then [0x78] else []
  | .power8 => if ro = 0x74 then [0x78] else if ro = 0x7c then [0x80] else if ro = 0x84 then [0x88] else []
  | _ => []

/-- The registers that read as latched. -/
def isLatched (k : PageKind) (ro : Nat) : Bool :=
  match k with
  | .global2 => ro == 0x74
  | .time0 => ro == 0x4c || ro == 0x50
  | .axis => ro == 0x58 || ro == 0x60
  | .hport0 => ro == 0x64 || ro == 0x68 || ro == 0x6c
  | .lane32 => ro == 0x128 || ro == 0x14c
  | .dport5 => ro == 0x7c
  | .scanout => ro == 0x78
  | .power8 => ro == 0x78 || ro == 0x80 || ro == 0x88
  | _ => false

/-- The header registers formed at the read (R21). -/
def State.headerRead (s : State) (pgn : Page) (ro : Nat) : Option Nat :=
  if ro = 0 then some (pgn.ps.block * 65536 + pgn.n * 256 + (pgn.ps.page + (if pgn.ps.pageN then pgn.n else 0)))
  else if ro = 4 then some 0x100
  else if ro = 0xc then
    let tag := s.get (hTxnTag pgn.pg)
    some (8 * b2n (tag != 0 && decide ((s.slot (bits tag 0 3)).state = .armed)) + 4 * b2n (tag != 0) +
      s.domState (pageDom pgn.ps.kind pgn.n))
  else if ro = 0x10 then some (s.evtStatWord pgn.pg)
  else none

/-- TXN_STAT and TXN_RESULT of a slot (R41). -/
def State.slotRead (s : State) (ro i : Nat) : Option Nat :=
  let x := s.slot i
  if ro = 0x80 then
    some (65536 * x.entries.length + 256 * x.opener + 16 * x.gen + 8 * b2n x.quar +
      (match x.state with | .free => 0 | .opened => 1 | .armed => 2 | .broken => 3))
  else if ro = 0xa0 then some (256 * x.resSeq + 16 * x.resGen + x.result)
  else none

/-- The value at an offset as it stands now, before any latch. -/
def State.peek (s : State) (p addr : Nat) : Nat :=
  match pageOf addr with
  | none => 0
  | some pgn =>
    let off := addr % 4096
    match (if off < 0x40 then s.headerRead pgn off else none) with
    | some v => v
    | none =>
      match findReg pgn.ps.kind off with
      | none => 0
      | some (r, i) =>
        let bank := s.bankOf p pgn.n r.bank
        let x : Wr := ⟨pgn.ps.kind, pgn.n, r.off, i, bank - 1, p, 0⟩
        match (if off < 0x40 then none else if pgn.ps.kind = .global2 then s.slotRead r.off i else s.derived x) with
        | some v => v
        | none => s.regWord pgn r i bank addr + s.goRuns x

/-- May a path read an offset (R22)? -/
def State.mayRead (s : State) (p : Path) (addr : Nat) : Bool :=
  !s.isDark && s.inView p addr && (addr / 4096 != 0x1000 || s.owns (pathCode p) 0x1000000)

/-- What a read finds that has moved since: the lane window's adapting taps and checkers (R210, R226). -/
def State.sensed (s : State) (c addr : Nat) : State :=
  if addr / 4096 = 0x1220 ∧ 0x100 ≤ addr % 4096 then s.laneSensed (s.winIndex c 0 .lwLane) (addr % 4096) else s

/-- A read of an offset (R17, R22, R28, R51, R373, R377): the value, and what the read itself does. Each read of AON_STAT finds another
measured load (log entry 3). -/
def State.read (s0 : State) (p : Path) (addr : Nat) : Nat × State :=
  let c := pathCode p
  let s := if s0.mayRead p addr then s0.sensed c addr else s0
  if !s.mayRead p addr then (0, s)
  else if addr = 0x2040 then s.txnOpen c
  else match pageOf addr with
    | none => (0, s)
    | some pgn =>
      let off := addr % 4096
      let v := s.peek c addr
      if pgn.ps.kind = .target ∧ (off = 0x50 ∨ off = 0x58) then
        (if s.get (hOwner pgn.pg) = c then s.claim pgn.n (off == 0x58) else (0, s))
      else if addr = 0xA01048 then s.mwRead c
      else if addr = 0x1102044 then (v, s.fresh.2)
      else if addr = 0x20044 then
        (v, if v = 0 then { s with sig := { s.sig with ev := { s.sig.ev with holdSeen := false } } } else s)
      else if isLatched pgn.ps.kind off then (tget 0 s.latch (c * 2 ^ 26 + addr), s)
      else (v, (latchedBy pgn.ps.kind off).foldl
        (fun s o => { s with latch := tput 0 s.latch (c * 2 ^ 26 + pgn.pg + o) (s.peek c (pgn.pg + o)) }) s)

/-- A read of a register whose value goes out to its path. -/
def State.readWord (s : State) (p : Path) (addr : Nat) : State :=
  (s.read p addr).2.emit (.readData (pathCode p) addr (s.read p addr).1)

/-- A read of `words` words whose values go out to its path: the whole of each register that it touches, in ascending order; one that is not
aligned touches one more (R18). -/
def State.readWide (s : State) (p : Path) (addr words : Nat) : State :=
  (List.range (if addr % 4 = 0 then words else words + 1)).foldl (fun s j => s.readWord p ((addr / 4 * 4 + 4 * j) % 2 ^ 26)) s

/-- A read of one word whose value goes out to its path. -/
def State.readOut (s : State) (p : Path) (addr : Nat) : State := s.readWide p addr 1

end Sys2Proof.Machine
end

