-- ==== Sys2Proof/Machine/BridgeCmd.lean ====
section
/-! DEFINITION. The commands of chapter 15, with HOOK_TIMEOUT and ENG_BRCMD of chapter 17: messages and responses of dock devices, the
mailbox commands of the bridge, its timers, and the writes that carry a rule of their own. -/

namespace Sys2Proof.Machine

/-! ### Messages of dock devices (R350, R354, R358) -/

/-- A routed message of a dock device crosses the core to the bridge (R9, R108): its bridge channel, DUE bytes and payload. -/
def State.fromDock (s : State) (n : Fin 16) (tch : Fin 32) (op : Nat) (ch : BitVec 16) (due : Option (BitVec 64)) (payload : List (BitVec 8)) : State :=
  if s.shut then s.shutOut (48 + n)
  else ((s.cellsIn (48 + n) payload.length).cellsOut 65 payload.length).sigEnter
    { src := 48 + n, orig := .dock n tch, ch := ch.toNat, op := op, due := due.map (fun t => t.toNat), payload := payload,
      tin := s.stampIn (48 + n) 0 }

/-- SIGNAL (R354). -/
def execSignal (n : Fin 16) (tch : Fin 32) (ch : BitVec 16) (due : Option (BitVec 64)) (payload : List (BitVec 8)) (s : State) : Res :=
  .next (s.fromDock n tch 0x10 ch due payload)

/-- INTR (R354). -/
def execIntr (n : Fin 16) (tch : Fin 32) (ch : BitVec 16) (due : Option (BitVec 64)) (payload : List (BitVec 8)) (s : State) : Res :=
  .next (s.fromDock n tch 0x11 ch due payload)

/-- A response on the register channel (R350). -/
def State.respond (s : State) (n : Fin 16) (tch : Fin 32) (op : Nat) (q : BitVec 16) (status : BitVec 8) (d : List (BitVec 8)) : State :=
  if s.shut then s.shutOut (48 + n)
  else ((s.cellsIn (48 + n) d.length).cellsOut 65 d.length).sigEnter
    { src := 48 + n, orig := .dock n tch, ch := 0, op := op, tin := s.stampIn (48 + n) 0,
      payload := leBytes 2 q.toNat ++ [status] ++ (if op = 0x82 then BitVec.ofNat 8 d.length :: [0, 0, 0, 0] ++ d else []) }

/-- REG_ACK (R358, R359). -/
def execRegAck (n : Fin 16) (tch : Fin 32) (q : BitVec 16) (status : BitVec 8) (s : State) : Res := .next (s.respond n tch 0x81 q status [])

/-- REG_DATA (R358, R359, R362, R363). -/
def execRegData (n : Fin 16) (tch : Fin 32) (q : BitVec 16) (status : BitVec 8) (d : List (BitVec 8)) (s : State) : Res :=
  .next (s.respond n tch 0x82 q status d)

/-! ### Mailbox commands (R357-R359, R363) -/

/-- SIG_SEND (R357): the operands of its entry, and the payload as it stands in the host's memory. -/
def execSigSend (h : Fin 32) (seq : Word) (ch : BitVec 16) (op : BitVec 8) (tag : BitVec 2) (axis : Fin 8) (dir : Bool) (value : BitVec 64)
    (payload : List (BitVec 8)) (s : State) : Res :=
  let t : Tag := if tag = 1 then .time value.toNat else if tag = 2 then .axis axis value.toInt dir else .none
  .next (if s.runs h seq.toNat 0x0120 then
    (if tag = 3 ∨ 244 < payload.length then s.sigFail (.host h seq.toNat) h ch.toNat op.toNat 65 .badMessage
     else s.sigEnter { src := h, orig := .host h seq.toNat, ch := ch.toNat, op := op.toNat, payload := payload, tag := t, tin := s.now })
  else s)

/-- The token of a running command (R43). -/
def State.cmdToken (s : State) (h seq : Nat) : Nat :=
  match s.running? h seq with
  | some c => c.token.toNat
  | none => 0

/-- A register operation of a host is judged, and starts or waits (R349, R357-R359). -/
def State.edgeOp (s : State) (h seq : Nat) (port tch : BitVec 8) (lenOk : Bool) (o : RegOp) (f : State → Nat → RegOp → State) : State :=
  let t := 32 * port.toNat + tch.toNat
  let tok := s.cmdToken h seq
  if !s.on F.BR_CTRL_EN then s.cmdFail h seq .disabled
  else if 16 ≤ port.toNat ∨ 32 ≤ tch.toNat ∨ !lenOk then s.cmdFail h seq .badMessage
  else if tok ≠ 0 ∧ (s.tokTarget tok).isNone then (s.stale 4).cmdFail h seq .stale
  else
    let k := s.opNum
    (f k.2 t { o with num := k.1, token := tok }).sigDrain

/-- An operation waits its turn at its target. -/
def State.opWait (s : State) (t : Nat) (o : RegOp) : State := (s.mapSigTgt t (fun x => { x with wait := x.wait ++ [.op o] })).sigGo t

/-- An EDGE_READ without a token is served from a buffer that holds it and still lives; else it reads ahead in a PREFETCH region
(R363). -/
def State.edgeRead (s : State) (t : Nat) (o : RegOp) : State :=
  match o.why with
  | .read h seq len haddr =>
    if o.token ≠ 0 then s.opWait t o
    else
      let s1 := match s.raFind t o.addr len with
        | some (i, b) => if b.born + 1000 * s.get F.BR_RA_RA_LIFE_US < s.now then s.raDrop i 1 else s
        | none => s
      match s1.raFind t o.addr len with
      | some (i, b) =>
        ((s1.raServe i b o.addr len).emit (.hostMem h haddr ((b.data.drop (o.addr - b.addr)).take len))).complete h seq 0 0
      | none =>
        match s1.raRegion t o.addr with
        | some r =>
          if s1.on (F.RG_CTRL_PREFETCH r) then s1.opWait t { o with len := max len (s1.get (F.RG_CTRL_RA_BYTES r)), keep := true }
          else s1.opWait t o
        | none => s1.opWait t o
  | _ => s.opWait t o

def lenGood (len : BitVec 8) : Bool := decide (1 ≤ len.toNat) && decide (len.toNat ≤ 232)

/-- EDGE_READ (R358, R363). -/
def execEdgeRead (h : Fin 32) (seq : Word) (port tch len : BitVec 8) (addr : Word) (haddr : BitVec 64) (s : State) : Res :=
  let o : RegOp := { num := 0, write := false, addr := addr.toNat, len := len.toNat, why := .read h seq.toNat len.toNat haddr.toNat }
  .next (if s.runs h seq.toNat 0x0121 then s.edgeOp h seq.toNat port tch (lenGood len) o State.edgeRead else s)

/-- EDGE_WRITE (R358, R364), with the data as they stand in the host's memory. -/
def execEdgeWrite (h : Fin 32) (seq : Word) (port tch len : BitVec 8) (addr : Word) (data : List (BitVec 8)) (s : State) : Res :=
  let o : RegOp := { num := 0, write := true, addr := addr.toNat, len := len.toNat, data := padTo len.toNat data, why := .write h seq.toNat }
  .next (if s.runs h seq.toNat 0x0122 then s.edgeOp h seq.toNat port tch (lenGood len) o State.opWait else s)

/-- EDGE_RMW (R359). -/
def execEdgeRmw (h : Fin 32) (seq : Word) (port tch len : BitVec 8) (addr : Word) (andMask xorMask : BitVec 64) (s : State) : Res :=
  let o : RegOp := { num := 0, write := false, addr := addr.toNat, len := len.toNat, why := .rmw h seq.toNat andMask.toNat xorMask.toNat }
  let ok := decide (len = 1 ∨ len = 2 ∨ len = 4 ∨ len = 8)
  .next (if s.runs h seq.toNat 0x0123 then s.edgeOp h seq.toNat port tch ok o State.opWait else s)

/-- SEM_TAKE (R359). -/
def execSemTake (h : Fin 32) (seq : Word) (port tch : BitVec 8) (s : State) : Res :=
  let t := 32 * port.toNat + tch.toNat
  .next (if s.runs h seq.toNat 0x0124 then
    (if !s.on F.BR_CTRL_EN then s.cmdFail h seq.toNat .disabled
     else if 16 ≤ port.toNat ∨ 32 ≤ tch.toNat then s.cmdFail h seq.toNat .badMessage
     else ((s.mapSigTgt t (fun x => { x with wait := x.wait ++ [.take h seq.toNat] })).sigGo t).sigDrain)
  else s)

/-- SEM_GIVE (R359). -/
def execSemGive (h : Fin 32) (seq : Word) (s : State) : Res :=
  .next (if s.runs h seq.toNat 0x0125 then
    (if !s.on F.BR_CTRL_EN then s.cmdFail h seq.toNat .disabled
     else match s.tokTarget (s.cmdToken h seq.toNat) with
       | none => (s.stale 4).cmdFail h seq.toNat .stale
       | some t => (((s.semFree t).complete h seq.toNat 0 0).sigGo t).sigDrain)
  else s)

/-! ### Timers (R358, R359, R361, R364, R397) -/

/-- REG_TIMEOUT (R358): the outstanding operation of a target with a SEQ. -/
def execRegTimeout (n : Fin 16) (tch : Fin 32) (q : BitVec 16) (s : State) : Res :=
  let t := 32 * n.val + tch.val
  .next (match (s.sigTgt t).out.find? (fun o => o.seq == q.toNat) with
    | some o => (s.opFail t o.num .timeout).sigDrain
    | none => s)

/-- SEM_WAIT_TIMEOUT (R359). -/
def execSemWaitTimeout (h : Fin 32) (seq : Word) (s : State) : Res :=
  .next (match s.br.tgts.find? (fun e => e.2.wait.contains (.take h seq.toNat)) with
    | some e => ((s.mapSigTgt e.1 (fun x => { x with wait := x.wait.erase (.take h seq.toNat) })).cmdFail h seq.toNat .semBusy).sigGo e.1 |>.sigDrain
    | none => s)

/-- Is a target's semaphore held under a token? -/
def SigTarget.tokened (x : SigTarget) : Bool :=
  match x.sem with
  | .token _ _ => true
  | _ => false

/-- SEM_HOLD_LIMIT (R359): with an operation under the token outstanding, the break waits for its response. -/
def execSemHoldLimit (n : Fin 16) (tch : Fin 32) (s : State) : Res :=
  let t := 32 * n.val + tch.val
  .next (if (s.sigTgt t).tokened then (s.semBreak t).sigDrain else s)

/-- POLL (R361). -/
def execPoll (e : Fin 256) (s : State) : Res := .next (s.pollDue e).sigDrain

/-- RA_LIFE (R364). -/
def execRaLife (b : Fin 32) (s : State) : Res := .next (s.raDrop b 1)

/-- HOOK_TIMEOUT (R397): the message at the head of a lane that waits for room in the hook ring. -/
def execHookTimeout (k : Fin 4) (s : State) : Res := .next (s.hookFail k .timeout)

/-! ### Register writes -/

/-- ROUTE_VALID (R353): RT_W0 of the entry the path has selected. -/
def execRouteValid (p : Path) (value : Word) (s : State) : Res := .next (s.write p 0x902044 value.toNat 15)

/-- DPF_CLR (R364). -/
def execDpfClr (p : Path) (s : State) : Res := .next (s.write p 0x905044 1 15)

/-- ENG_BRCMD (R398). -/
def execEngBrcmd (p : Path) (e : Fin 24) (offset : BitVec 18) (s : State) : Res := .next (s.write p (0xA1005C + 0x1000 * e.val) offset.toNat 15)

end Sys2Proof.Machine
end

