-- ==== Sys2Proof/Machine/CoreCmd.lean ====
section
/-! DEFINITION. Commands that several chapters share: the end of an identifier's quarantine, undefined opcodes, and a cell's arrival. -/

namespace Sys2Proof.Machine

/-- The identifier kinds of R48; kind 1 as 256 * dock port + channel, kind 3 as 4096 * M-port + tag index. -/
def State.quarEnd (s : State) (kind id : Nat) : State :=
  match kind with
  | 0 => if id < 256 ∧ (s.fnSlot id).quar then s.setFn id { s.fnSlot id with quar := false } else s
  | 1 => if id < 4096 then s.chFree (id / 256) (id % 256) else s
  | 2 => s.mapBr (fun b => { b with quar := b.quar.erase id })
  | 3 =>
    let m := id / 4096
    if (s.xtag m (id % 4096)).st = .wait then ((s.setXtag m (id % 4096) { s.xtag m (id % 4096) with st := .free }).xPump m).advance else s
  | 4 => if (s.semTok id).quar then s.setSemTok id { s.semTok id with quar := false } else s
  | _ => if id < 8 ∧ (s.slot id).quar then s.setSlot id { s.slot id with quar := false } else s

/-- QUARANTINE_END (R48). -/
def execQuarantineEnd (kind : Fin 6) (id : Nat) (s : State) : Res := .next (s.quarEnd kind id)

/-- The opcodes that a chapter defines (R43, R190, R198, R275, R357, R396). -/
def definedOpcodes : List Nat :=
  [0x0000, 0x0100, 0x0101, 0x0102, 0x0110, 0x0111, 0x0120, 0x0121, 0x0122, 0x0123, 0x0124, 0x0125, 0x0130, 0x0131]

/-- UNKNOWN_OPCODE (R483). -/
def execUnknownOpcode (h : Fin 32) (seq : Word) (s : State) : Res :=
  .next (match s.running? h seq.toNat with
    | some c => if definedOpcodes.contains c.opcode.toNat then s else s.complete h seq.toNat 255 0
    | none => s)

/-- CELL_ARRIVAL (R93). -/
def execCellArrival (c : CellIn) (s : State) : Res := .next (s.arrive c).wakeDocks

end Sys2Proof.Machine
end

