-- ==== Sys2Proof/Machine/DockCmd.lean ====
section
/-! DEFINITION. The commands of chapters 9 to 11: PLLs, sequencers, dock bring-up, the loupe, flits, retrains, channels, allotments, the
forwarder and the sideband. -/

namespace Sys2Proof.Machine

/-! ### PLLs (R205-R207) -/

/-- A macro whose PLLs are both recalibrating or failed takes its port's link down (R207). -/
def State.macroDead (s : State) (m : Nat) : State := ((s.seqStop m).laneEv 6 m 0).portDown (macroPort m)

/-- PLL_LOCK_LOSS (R206, R207); `both` tells that the other PLL loses lock in the same cycle. -/
def execPllLockLoss (m : Fin 80) (pll : Fin 2) (both : Bool) (s : State) : Res :=
  .next (if s.get (pllF m pll) ≠ 0 then s
    else
      let s1 := s.pllLost m pll
      let s2 := if both && s.get (pllF m (1 - pll)) == 0 then s1.pllLost m (1 - pll) else s1
      if s2.noPll m then s2.macroDead m
      else if s.get (F.MAC_STAT_ACTIVE m) = pll then s2.pllSwitch m
      else s2)

/-- PLL_SWAP (R206): MAC_CTRL of the macro the path has selected, with PLL_SWAP. -/
def execPllSwap (p : Path) (s : State) : Res :=
  .next (s.write p 0x1220080 (256 * s.get (F.MAC_CTRL_REF_SEL (s.get (F.LW_SEL_MACRO (pathCode p)))) + 1) 15)

/-- Does a macro's port leave DEEP (R229)? -/
def State.deepLeaves (s : State) (m : Nat) : Bool :=
  s.link.deepX.contains (macroPort m) || (decide (64 ≤ m) && s.get (F.LSTATE_STATE (macroPort m)) == 3 && (s.lk (m - 64)).train.on)

/-- PLL_RETURN (R207, R229, R413): a recalibrated PLL of a macro, or of the clock unit (80), returns as standby; in an exit from DEEP a PLL locks, and
once both are locked a program that was held goes on. -/
def execPllReturn (m : Fin 81) (pll : Fin 2) (s : State) : Res :=
  .next (if m.val = 80 then
    (if s.get (clkPllF pll) = 1 ∧ s.get (clkPllF (1 - pll)) = 0 then s.set (clkPllF pll) 0 else s)
  else if s.get (pllF m pll) = 1 ∧ s.deepLeaves m then
    (let s1 := s.set (pllF m pll) 0
     if s1.get (pllF m (1 - pll)) = 0 then s1.seqFree m else s1)
  else if s.get (pllF m pll) = 1 ∧ s.get (pllF m (1 - pll)) = 0 then s.set (pllF m pll) 0 else s)

/-- PLL_RETRY (R207): a macro without a PLL retries lock; `got` is the PLL that holds lock. -/
def execPllRetry (m : Fin 80) (got : Option (Fin 2)) (s : State) : Res :=
  .next (match got with
    | none => s
    | some k =>
      if s.noPll m ∧ s.get (pllF m k) = 1 ∧ s.deepLeaves m = false then
        let s1 := (s.set (pllF m k) 0).set (F.MAC_STAT_ACTIVE m) k
        let p := macroPort m
        if p < 32 then (s1.set (F.HP_STAT_LINK p) 1).beginTrain p
        else if p < 48 then (s1.set (F.MP_STAT_LINK (p - 32)) 1).beginTrain p
        else if s1.on (F.PD_STAT_MODE (p - 48)) && s1.lkState (p - 48) == 0 then s1.bringUp (p - 48) else s1
      else s)

/-- TAP_RAIL (R210): a tap has stood at a range limit for 1 ms; once for each episode, which lasts until no tap of the lane stands at one. -/
def execTapRail (m : Fin 80) (lane : Fin 4) (s : State) : Res :=
  let t := s.tapsMove (4 * m + lane)
  .next (if macroLanes m ≤ lane.val ∨ t.atRail (4 * m + lane) = false then s
    else if (t.macro m).railed.contains lane.val then t
    else ((t.set (F.LN_STAT_RAIL (4 * m + lane)) 1).setMacro m { t.macro m with railed := lane.val :: (t.macro m).railed }).laneEv 5 m lane)

/-! ### The sequencer (R211-R213) -/

/-- SEQ_START (R211): SEQ_CTRL of the selected macro, with START. -/
def execSeqStart (p : Path) (step : Fin 64) (s : State) : Res := .next (s.write p 0x122008C (65536 * step + 1) 15)

/-- SEQ_STOP (R211): START_STEP is written as it stands. -/
def execSeqStop (p : Path) (s : State) : Res :=
  .next (s.write p 0x122008C (65536 * s.get (F.SEQ_CTRL_START_STEP (s.get (F.LW_SEL_MACRO (pathCode p)))) + 2) 15)

/-- The program ends with a result (R212). -/
def State.seqEnd (s : State) (m result : Nat) : State :=
  (s.seqStop m).sets [(F.SEQ_STAT_DONE m, 1), (F.SEQ_STAT_RESULT m, result)]

/-- SEQ_END (OP 0). -/
def execSeqEnd (m : Fin 80) (s : State) : Res := .next (s.seqOp m 0 (fun s x => s.seqEnd m (x % 2)))

/-- SEQ_TXSRC (OP 1). -/
def execSeqTxsrc (m : Fin 80) (s : State) : Res :=
  .next (s.seqOp m 1 (fun s x =>
    let k := s.macro m
    let s1 := (s.setMacro m { k with txsrc := (s.seqLanes m).foldl (fun t l => tset t l (x % 4)) k.txsrc }).seqNext m
    ((s.seqLanes m).filter (fun l => s.on (F.PRBS_CTRL_GEN_EN (4 * m.val + l)))).foldl (fun s l => s.genTell (4 * m.val + l)) s1))

/-- A macro moves to a rate (R201, R212): a dock macro's is the port's rate in force, by its dock code, for its transmitters and receivers. -/
def State.macroRate (s : State) (m rate : Nat) : State :=
  let s1 := s.tapsStop m
  if m < 64 then s1.set (F.MAC_STAT_RATE m) rate
  else
    let n := m - 64
    let r := rate % 4
    let t := (s.lk n).train
    let s2 := (s1.sets [(F.MAC_STAT_RATE m, r), (F.DL_STAT_RATE n, r)]).mapTrain n (fun t => { t with txRate := r })
    if t.on && !t.flitTx then s2.dockSends n 1 r t.mask
    else if s.get (F.DL_STAT_STAGE n) = 8 then s2.dockSends n 2 r (s.get (F.DL_STAT_WIDTH n)) else s2

/-- SEQ_RATE (OP 2). -/
def execSeqRate (m : Fin 80) (s : State) : Res := .next (s.seqOp m 2 (fun s x => (s.macroRate m (x % 16)).seqNext m))

/-- SEQ_WAIT (OP 3). -/
def execSeqWait (m : Fin 80) (s : State) : Res := .next (s.seqOp m 3 (fun s _ => s.setMacro m { s.macro m with wait := .time }))

/-- SEQ_WAIT_EXPIRY. -/
def execSeqWaitExpiry (m : Fin 80) (s : State) : Res :=
  .next (if (s.macro m).wait = .time ∧ (s.macro m).held = false then (s.setMacro m { s.macro m with wait := .none }).seqNext m else s)

/-- SEQ_WAITFOR (OP 4). -/
def execSeqWaitfor (m : Fin 80) (s : State) : Res := .next (s.seqOp m 4 (fun s _ => s.setMacro m { s.macro m with wait := .cond }))

/-- Does a WAITFOR's condition hold on a lane (R213)? Signal, clock recovery and adaptation are the lane's own, which the command brings; what the
hub's state shows is read there; deskew, markers and the partner's flags are a dock lane's. Codes 8 to 15 never hold. -/
def State.condHolds (s : State) (m l c : Nat) : Bool :=
  let x := laneOf (s.lk (m - 64)).train l
  match c with
  | 0 | 1 | 3 => true
  | 2 => decide (64 ≤ m) && x.lock
  | 4 => s.get (pllF m 0) == 0 && s.get (pllF m 1) == 0
  | 5 => decide (64 ≤ m) && decide (4 ≤ x.stage)
  | 6 => decide (64 ≤ m) && x.pReady
  | 7 => decide (64 ≤ m) && x.pFlit
  | _ => false

/-- Does it hold on every lane of the step's LANES? -/
def State.condMet (s : State) (m : Nat) : Bool :=
  decide (bits (s.seqWord m) 19 4 < 8) && (s.seqLanes m).all (fun l => s.condHolds m l (bits (s.seqWord m) 19 4))

/-- LN_STAT shows a condition of a lane's own that holds (R213, R230). -/
def State.condShown (s : State) (m : Nat) : State :=
  let c := bits (s.seqWord m) 19 4
  (s.seqLanes m).foldl (fun s l =>
    let w := 4 * m + l
    if c = 0 then s.set (F.LN_STAT_SIGNAL w) 1 else if c = 1 then s.set (F.LN_STAT_CDR_LOCK w) 1 else if c = 3 then s.set (F.LN_STAT_ADAPTED w) 1 else s) s

/-- WAITFOR_MET (R213): the condition holds on every named lane. -/
def execWaitforMet (m : Fin 80) (s : State) : Res :=
  .next (if (s.macro m).wait = .cond ∧ (s.macro m).held = false ∧ s.condMet m then
    ((s.condShown m).setMacro m { s.macro m with wait := .none }).seqNext m else s)

/-- WAITFOR_TIMEOUT (R212): to the fail step. -/
def execWaitforTimeout (m : Fin 80) (s : State) : Res :=
  .next (if (s.macro m).wait = .cond ∧ (s.macro m).held = false then
    (s.setMacro m { s.macro m with wait := .none }).seqAt m (bits (s.seqWord m) 13 6) else s)

/-- The items of lanes that a sequencer freezes or starts (R212): bit 0 CTLE, bit 1 DFE, bit 2 clock recovery. -/
def State.seqFrozen (s : State) (m : Nat) (f : Nat → Nat) : State :=
  let k := s.macro m
  s.setMacro m { k with frozen := (s.seqLanes m).foldl (fun t l => tput 0 t l (f (tget 0 t l))) k.frozen }

/-- SEQ_ADAPT (OP 5). -/
def execSeqAdapt (m : Fin 80) (s : State) : Res :=
  .next (s.seqOp m 5 (fun s x => (s.seqFrozen m (fun v => v - Nat.land v (x % 16))).seqNext m))

/-- SEQ_FREEZE (OP 6). -/
def execSeqFreeze (m : Fin 80) (s : State) : Res := .next (s.seqOp m 6 (fun s x => ((s.tapsStop m).seqFrozen m (fun v => Nat.lor v (x % 16))).seqNext m))

/-- SEQ_FFE (OP 7). -/
def execSeqFfe (m : Fin 80) (s : State) : Res :=
  .next (s.seqOp m 7 (fun s x => ((s.seqLanes m).foldl (fun s l => s.ffe m l (x % 16)) s).seqNext m))

/-- SEQ_ENGINE (OP 8). -/
def execSeqEngine (m : Fin 80) (s : State) : Res :=
  .next (s.seqOp m 8 (fun s x => ((s.set (F.SEQ_STAT_WAIT_ENGINE m) 1).setMacro m { s.macro m with taken := false }).emit
    (.engReq (s.seqOwner m) (x % 256) m)))

/-- SEQ_JUMP (OP 9). -/
def execSeqJump (m : Fin 80) (s : State) : Res := .next (s.seqOp m 9 (fun s x => s.seqAt m (x % 64)))

/-- SEQ_SETLC (OP 10). -/
def execSeqSetlc (m : Fin 80) (s : State) : Res := .next (s.seqOp m 10 (fun s x => (s.set (F.SEQ_STAT_LC m) x).seqNext m))

/-- SEQ_DJNZ (OP 11). -/
def execSeqDjnz (m : Fin 80) (s : State) : Res :=
  .next (s.seqOp m 11 (fun s x =>
    let s1 := s.set (F.SEQ_STAT_LC m) (s.get (F.SEQ_STAT_LC m) + 65535)
    if s1.get (F.SEQ_STAT_LC m) = 0 then s1.seqNext m else s1.seqAt m (x % 64)))

/-- SEQ_RESERVED_OP (OP 12 to 31). -/
def execSeqReservedOp (m : Fin 80) (s : State) : Res :=
  .next (if s.seqReady m && decide (12 ≤ s.seqWord m / 2 ^ 27) then (s.seqStop m).set (F.SEQ_STAT_RESULT m) 0 else s)

/-- SEQ_CONTINUE (R212): SEQ_CMD of the selected macro. -/
def execSeqContinue (p : Path) (next : Fin 64) (s : State) : Res := .next (s.write p 0x1220098 (256 * next + 1) 15)

/-! ### Dock bring-up (R214-R221) -/

/-- TRAINING_FRAME (R214-R221, R255). -/
def execTrainingFrame (n : Fin 16) (lane : Fin 2) (f : TrainFrame) (s : State) : Res :=
  .next (if (s.lk n).widen && lane.val == 1 then s.widenFrame n f else s.trainFrame n lane f)

/-- SLIP (R216). -/
def execSlip (p : Path) (n : Fin 16) (lane : Fin 2) (s : State) : Res := .next (s.write p (0x400060 + 0x10000 * n) (2 ^ lane.val) 15)

/-- DL_RESTART (R215). -/
def execDlRestart (p : Path) (n : Fin 16) (s : State) : Res := .next (s.write p (0x400060 + 0x10000 * n) 256 15)

/-- Has a lane of the mask reached READY? -/
def State.anyReady (s : State) (n : Nat) : Bool :=
  let t := (s.lk n).train
  (maskLanes t.mask).any (fun l => decide (5 ≤ (laneOf t l).stage))

/-- RATE_TIMEOUT (R219): no lane is READY at the new rate; a receiver whose partner's countdown never came is not, whatever its lanes are at
the old one. -/
def execRateTimeout (n : Fin 16) (s : State) : Res :=
  let t := (s.lk n).train
  let rate := s.get (F.DL_STAT_RATE n)
  .next (if t.on && (rate != 0 || t.txRate != 0) && (!s.anyReady n || t.txRate != rate) then s.fallBack n else s)

/-- BRINGUP_TIMEOUT (R219). -/
def execBringupTimeout (n : Fin 16) (s : State) : Res :=
  .next (if (s.lk n).train.on && s.get (F.DL_STAT_RATE n) == 0 && !s.anyReady n then s.bringFail n else s)

/-- BRINGUP_RESTART (R219). -/
def execBringupRestart (n : Fin 16) (s : State) : Res := .next (if (s.lk n).train.silent then s.bringUp n else s)

/-- LANE_EXCLUDED (R220): a lane not READY once LANE_MS have passed since the first lane was. -/
def execLaneExcluded (n : Fin 16) (lane : Fin 2) (s : State) : Res :=
  let t := (s.lk n).train
  .next (if t.on && hasBit t.mask lane && decide ((laneOf t lane).stage < 5) && s.anyReady n then s.exclude n lane else s)

/-! ### The loupe, patterns, DEEP (R222-R229) -/

/-- EYE_GO (R223): EYE_CTRL of the selected lane, with GO. -/
def execEyeGo (p : Path) (value : Word) (s : State) : Res := .next (s.write p 0x122011C (putBit (putBit value.toNat 31 true) 30 false) 15)

/-- The stored part of EYE_CTRL of a lane. -/
def State.eyeWord (s : State) (w : Nat) : Nat :=
  2 ^ 28 * s.get (F.EYE_CTRL_EYE w) + 65536 * s.get (F.EYE_CTRL_PHASE w) + 256 * s.get (F.EYE_CTRL_VOFS w) + s.get (F.EYE_CTRL_DWELL_LOG2 w)

/-- EYE_STOP (R223). -/
def execEyeStop (p : Path) (s : State) : Res :=
  .next (s.write p 0x122011C (2 ^ 30 + s.eyeWord (s.winIndex (pathCode p) 0 .lwLane)) 15)

/-- EYE_POINT_DONE (R223). -/
def execEyePointDone (m : Fin 80) (lane : Fin 4) (errs : BitVec 64) (s : State) : Res :=
  let w := 4 * m.val + lane
  .next (if s.on (F.EYE_STAT_BUSY w) then
    ((s.set64 (F.EYE_ERR_LO_COUNT w) (F.EYE_ERR_HI_COUNT w) errs.toNat).sets
      [(F.EYE_STAT_BUSY w, 0), (F.EYE_STAT_ABORT w, 0), (F.EYE_CTRL_GO w, 0), (F.LN_STAT_LOUPE w, 0)]).laneEv 4 m lane
  else s)

/-- A sampler slice has failed (R225): the loupe takes over, or the lane is retired; the failure of a spared slice is the loupe's own. -/
def State.samplerFail (s : State) (w k : Nat) : State :=
  if s.on (F.LN_STAT_RETIRED w) || bits (s.get (F.SLICE_STAT_STATE w)) (2 * k) 2 == 2 then s
  else if s.get (F.LN_STAT_LOUPE w) = 3 then (s.retireLane w k).narrow (macroPort (w / 4))
  else s.spare w k

/-- Audit results of the slices from `k0` on (R224): mismatches above SLICE_LIMIT, or a calibration out of range, fail a slice. -/
def State.auditFrom (s : State) (w k0 : Nat) (mism : List Nat) (badCal : Nat) : State :=
  (List.range 8).foldl (fun s k =>
    if k0 ≤ k ∧ k < k0 + mism.length ∧ (s.get (F.AUDIT_CFG_SLICE_LIMIT (w / 4)) < mism.getD (k - k0) 0 ∨ hasBit badCal k) then s.samplerFail w k else s) s

/-- An audit stands before slice `k`, or is over (R222-R224): LN_STAT.LOUPE shows it unless the loupe spares, and a GO that it held starts. -/
def State.auditTo (s : State) (w k : Nat) : State :=
  let on := decide (k < 8) && s.get (F.LN_STAT_LOUPE w) != 3
  let s1 := s.setAudit w (if on then k else 0)
  if s.get (F.LN_STAT_LOUPE w) = 3 then s1
  else if s.on (F.EYE_CTRL_GO w) then (s1.set (F.LN_STAT_LOUPE w) 0).eyeStart w
  else s1.set (F.LN_STAT_LOUPE w) (b2n on)

/-- AUDIT (R224, R225), while no scan runs: the mismatches of the slices that the loupe has shadowed, from the first on or from where the
audit under way stands, and the slices whose calibration is out of range; fewer than eight leave the audit under way. While the loupe spares
a slice the command brings the failure of another, or of the loupe. -/
def execAudit (m : Fin 80) (lane : Fin 4) (mism : List Nat) (badCal : BitVec 8) (s : State) : Res :=
  let w := 4 * m.val + lane
  let k := s.auditAt w
  .next (if lane.val < macroLanes m && s.get (F.AUDIT_CFG_PERIOD_MS m) != 0 && s.laneLive m && !s.on (F.EYE_STAT_BUSY w) then
    (s.auditFrom w k mism badCal.toNat).auditTo w (k + mism.length)
  else s)

/-- INJECT_ONE (R227): INJ_CTRL of the selected lane, with ONE. -/
def execInjectOne (p : Path) (s : State) : Res :=
  .next (s.write p 0x122013C (256 + s.get (F.INJ_CTRL_RATE_LOG2 (s.winIndex (pathCode p) 0 .lwLane))) 15)

/-- DEEP_EXIT_COMPLETE (R229). -/
def execDeepExitComplete (port : Fin 64) (s : State) : Res :=
  .next (if port.val < 48 then (s.deepDone port).bindsGo port else s.dockDeepDone (port - 48))

/-! ### Flits (R232-R262) -/

/-- FLIT_TIME (R246, R281-R283). -/
def execFlitTime (n : Fin 16) (s : State) : Res := .next (s.flitSlot n)

/-- IDLE_FLIT (R242). -/
def execIdleFlit (n : Fin 16) (h : FlitHdr) (s : State) : Res := .next (s.plainIn n h (fun s => s))

/-- DATA_FLIT (R242, R249, R253). -/
def execDataFlit (n : Fin 16) (h : FlitHdr) (cls : BitVec 3) (chan : BitVec 5) (body : List (BitVec 8)) (s : State) : Res :=
  .next (s.dataIn n h ⟨h.seq.toNat, cls.toNat, chan.toNat, false, body⟩).sigDrain

/-- DATA_BAD_FLIT (R233). -/
def execDataBadFlit (n : Fin 16) (h : FlitHdr) (cls : BitVec 3) (part : BadPart) (s : State) : Res :=
  .next (s.dataIn n h ⟨h.seq.toNat, cls.toNat, part.chan.toNat, true, part.body⟩)

/-- SEAL_FLIT (R253): the fields of its body (R252). -/
def execSealFlit (n : Fin 16) (h : FlitHdr) (tag : BitVec 128) (counter : BitVec 64) (count : BitVec 8) (s : State) : Res :=
  .next (s.sealIn n h tag counter.toNat count.toNat).sigDrain

/-- NAK_FLIT (R244). -/
def execNakFlit (n : Fin 16) (h : FlitHdr) (s : State) : Res := .next (s.nakIn n h)

/-- INIT_FLIT (R238, R239). -/
def execInitFlit (n : Fin 16) (h : FlitHdr) (version : BitVec 16) (enc : Bool) (credits : List (BitVec 16)) (depth : BitVec 16) (id : BitVec 64)
    (s : State) : Res :=
  .next (s.rxFlit n h (fun s => (s.winIn n false).initIn n version.toNat enc (credits.map (fun c => c.toNat)) depth.toNat id.toNat))

/-- PM_FLIT (R254, R255). -/
def execPmFlit (n : Fin 16) (h : FlitHdr) (op st cnt : BitVec 8) (s : State) : Res := .next (s.pmIn n h op.toNat st.toNat cnt.toNat)

/-- PAUSE_FLIT (R258). -/
def execPauseFlit (n : Fin 16) (h : FlitHdr) (s : State) : Res := .next (s.pauseIn n h)

/-- ECHO_FLIT (R261). -/
def execEchoFlit (n : Fin 16) (h : FlitHdr) (num : BitVec 64) (s : State) : Res :=
  .next (s.plainIn n h (fun s => s.mapLk n (fun k => { k with reply := some (num.toNat, s.now) })))

/-- ECHO_REPLY_FLIT (R262). -/
def execEchoReplyFlit (n : Fin 16) (h : FlitHdr) (num : BitVec 64) (turn devDelay : Word) (s : State) : Res :=
  .next (s.plainIn n h (fun s => s.echoIn n num.toNat turn.toNat devDelay.toNat))

/-- RESERVED_FLIT (R233, R264). -/
def execReservedFlit (n : Fin 16) (h : FlitHdr) (s : State) : Res :=
  .next (s.rxFlit n h (fun s => (s.rxTime n false).protocol n))

/-- CRC_FAILED_FLIT (R236, R242, R264): how many bytes FEC corrected in it is a free value (log entry 65). -/
def execCrcFailedFlit (n : Fin 16) (s : State) : Res := .next (if s.takesFlits n then s.fresh.2.crcBad n (s.fresh.1 % 4) else s)

/-- NAK_REARM (R242). -/
def execNakRearm (n : Fin 16) (s : State) : Res := .next (s.mapLk n (fun k => { k with nakArmed := true }))

/-- REPLAY_TIMEOUT (R244, R245). -/
def execReplayTimeout (n : Fin 16) (s : State) : Res :=
  .next (match (s.lk n).mirror with
    | m :: _ => if s.lkState n = 2 then s.replayFrom n m.seq else s
    | [] => s)

/-- SEAL_WAIT_EXPIRY (R250). -/
def execSealWaitExpiry (n : Fin 16) (s : State) : Res :=
  .next (if (s.lk n).group ≠ [] then s.mapLk n (fun k => { k with sealDue := true }) else s)

/-- INIT_TIMEOUT (R239). -/
def execInitTimeout (n : Fin 16) (s : State) : Res := .next (if s.lkState n = 1 ∧ (s.lk n).initRx = false then s.protocol n else s)

/-- DEAD (R264): not from the first PAUSE to the first flit after a retrain (R260). -/
def execDead (n : Fin 16) (s : State) : Res := .next (if s.lkState n = 2 then s.lkDown n 3 else s)

/-- LINK_RESTART (R265). -/
def execLinkRestart (n : Fin 16) (s : State) : Res :=
  let t := (s.lk n).train
  let dead := s.get (pllF (64 + n) 0) % 3 != 0 && s.get (pllF (64 + n) 1) % 3 != 0
  .next (if s.lkState n = 0 ∧ s.on (F.PD_STAT_MODE n) ∧ s.get (F.LK_STAT_DOWN_CAUSE n) ≠ 9 ∧ !t.on ∧ !t.silent ∧ !t.failed ∧ !dead then s.bringUp n else s)

/-- LK_RETRAIN (R257): LK_CMD with RETRAIN. -/
def execLkRetrain (p : Path) (n : Fin 16) (rate mask : BitVec 2) (s : State) : Res :=
  .next (s.write p (0x401064 + 0x10000 * n) (256 * rate.toNat + 16 * mask.toNat + 1) 15)

/-- LK_DOWN (R264): LK_CMD with DOWN. -/
def execLkDown (p : Path) (n : Fin 16) (s : State) : Res := .next (s.write p (0x401064 + 0x10000 * n) 2 15)

/-- What a T-MGMT message does once the partner's INIT has come (R268). -/
def State.whenUp (s : State) (n : Nat) (f : State → State) : State := if s.lkState n ≠ 0 ∧ s.takesSeq n then f s else s

/-- RETRAIN_REQ (R257, R259). -/
def execRetrainReq (n : Fin 16) (r : RetrainMsg) (s : State) : Res := .next (s.whenUp n (fun s => s.rtReqIn n r))

/-- RETRAIN_ACK (R258). -/
def execRetrainAck (n : Fin 16) (r : RetrainMsg) (s : State) : Res := .next (s.whenUp n (fun s => s.rtAckIn n r))

/-- RETRAIN_TIMEOUT (R260). -/
def execRetrainTimeout (n : Fin 16) (s : State) : Res :=
  .next (match (s.lk n).rtReq with
    | none => s
    | some q =>
      if 3 ≤ q.reps then s.lkDown n 6
      else
        let num := ((s.lk n).rtNum + 1) % 256
        let s1 := (s.mapLk n (fun k => { k with rtNum := num, rtReq := some { q with num := num, reps := q.reps + 1 } })).declare n
        s1.sendMgmt n 0x10 (s1.rtMsg n num q.rate q.mask q.reason))

/-- ECHO_PERIOD (R262). -/
def execEchoPeriod (n : Fin 16) (s : State) : Res :=
  .next (if s.lkState n = 2 ∧ s.on (F.LK_CTRL_ECHO_EN n) then s.mapLk n (fun k => { k with echoDue := true }) else s)

/-- ECHO_TIMEOUT (R262): 10 µs after t1. -/
def execEchoTimeout (n : Fin 16) (s : State) : Res :=
  .next (match (s.lk n).echoOut with
    | some (_, t1) => if t1 + 10000 ≤ s.now then s.mapLk n (fun k => { k with echoOut := none }) else s
    | none => s)

/-! ### T-MGMT and channels (R268-R273, R285, R286) -/

/-- DESCRIBE (R268, R271). -/
def execDescribe (n : Fin 16) (d : DescribeMsg) (s : State) : Res := .next (s.whenUp n (fun s => s.describe n d))

/-- CH_OPEN (R270): hub to device only. -/
def execChOpen (n : Fin 16) (_cls _idx _gen : BitVec 8) (s : State) : Res := .next (s.whenUp n (fun s => s.mgmtErr n))

/-- CH_CLOSE (R268). -/
def execChClose (n : Fin 16) (cls idx gen : BitVec 8) (s : State) : Res :=
  .next (s.whenUp n (fun s => s.chCloseIn n cls.toNat idx.toNat (gen.toNat % 16)))

/-- ALLOT_ACK (R285). -/
def execAllotAck (n : Fin 16) (num : BitVec 8) (rx : Bool) (s : State) : Res := .next (s.whenUp n (fun s => s.allotAck n num.toNat rx))

/-- ALLOT_NAK (R285, R286). -/
def execAllotNak (n : Fin 16) (num : BitVec 8) (rx : Bool) (reason : BitVec 8) (s : State) : Res :=
  .next (s.whenUp n (fun s => s.allotNak n num.toNat rx reason.toNat))

/-- LTOL (R270). -/
def execLtol (n : Fin 16) (ns : Word) (s : State) : Res := .next (s.ltol n ns.toNat)

/-- VENDOR_MGMT (R270). -/
def execVendorMgmt (n : Fin 16) (code : BitVec 7) (payload : List (BitVec 8)) (s : State) : Res := .next (s.vendor n (128 + code.toNat) payload)

/-- BAD_MGMT_MESSAGE (R264, R270). -/
def execBadMgmtMessage (n : Fin 16) (code : BitVec 8) (s : State) : Res :=
  .next (s.whenUp n (fun s => if code = 0x10 ∨ code = 0x11 then s.protocol n else s.mgmtErr n))

/-- CH_CMD_OPEN (R268): CH_CMD of the channel the path has selected. -/
def execChCmdOpen (p : Path) (n : Fin 16) (s : State) : Res := .next (s.write p (0x40304C + 0x10000 * n) 1 15)

/-- CH_CMD_CLOSE (R268). -/
def execChCmdClose (p : Path) (n : Fin 16) (s : State) : Res := .next (s.write p (0x40304C + 0x10000 * n) 2 15)

/-- The longest payload of a TLP: the Max Payload Size that the hub reports (R272). -/
def maxPayload : Nat := 512

/-- Does a TLP carry more than that? -/
def tlpTooLong : TlpIn → Bool
  | .write _ b => decide (maxPayload < b.length)
  | .down b => decide (classLimit 1 < b.length)
  | _ => false

/-- Does a TLP come from the host? -/
def tlpDown : TlpIn → Bool
  | .down _ => true
  | _ => false

/-- TLP (R272, R273): until the function is bound, only the hub's scan reaches it; one with too long a payload is dropped as a message past its limit
(R269). -/
def execTlp (n : Fin 16) (chan : BitVec 16) (t : TlpIn) (s : State) : Res :=
  let w := chW 1 (chan.toNat % 32)
  .next (if s.shut && !tlpDown t then s.shutOut (48 + n)
    else if s.chState n w ≠ 1 ∨ s.get (F.CH_INFO_WORD n w) ≠ chan.toNat then s.stale 1
    else if tlpTooLong t then s.sat (F.CH_DROP_COUNT n w)
    else match t, s.chFn n chan.toNat with
      | .scanDone v d c, _ =>
        if (s.lk n).scans.contains w then
          (s.mapLk n (fun k => { k with scans := k.scans.erase w })).foundFn (48 + n) chan.toNat v.toNat d.toNat c.toNat
        else s
      | _, none => s
      | .cpl tag, some (_, h, d) => s.mapPort (fun p => { p with np := p.np.filter (fun e => !(e.1 == h && e.2.1 == d && e.2.2 == tag.toNat)) })
      | .read tag a len, some (x, h, d) => s.fnRead x h d tag.toNat a.toNat len.toNat
      | .write a b, some (x, h, d) => s.fnWrite x h d a.toNat b
      | .atomic tag a op, some (x, h, d) => s.fnAtomic x h d tag.toNat a.toNat op
      | .intx on, some (_, h, d) => s.emit (.intx h d on)
      | .ptm off, some _ => s.ptmAnswer (48 + n) chan.toNat off.toNat
      | .other, some (_, h, d) => s.emit (.toHost h d true 0 0)
      | .down b, some (_, h, _) => (s.corePush h (48 + n) (pcieKind (chan.toNat % 32)) .tunnel b).sigDrain)

/-- PCIE_SCAN_TIMEOUT (R273): the scan ends, no record is written and the channel stays open. -/
def execPcieScanTimeout (n : Fin 16) (chan : BitVec 16) (s : State) : Res :=
  let w := chW 1 (chan.toNat % 32)
  .next (if s.get (F.CH_INFO_WORD n w) = chan.toNat then s.mapLk n (fun k => { k with scans := k.scans.erase w }) else s)

/-! ### The forwarder and the doors (R274-R276) -/

/-- ETH_FRAME (R274). -/
def execEthFrame (port : Fin 544) (frame : EthIn) (s : State) : Res :=
  .next (if s.fwdUp port then (s.ethIn port frame.pair frame.bytes).sigDrain else s)

/-- FWD_AGE (R274): a learned entry unused for 300 s. -/
def execFwdAge (mac : BitVec 48) (vid : BitVec 12) (dom : BitVec 4) (s : State) : Res :=
  .next (s.fwdForget (fun e => e.mac == mac.toNat && e.vid == vid.toNat && e.dom == dom.toNat))

/-- FWD_PORT_CFG (R275). -/
def execFwdPortCfg (h : Fin 32) (seq : Word) (port : BitVec 16) (dom : BitVec 8) (learn block : Bool) (s : State) : Res :=
  .next (if s.runs h seq.toNat 0x0110 then
    (if s.get F.FM_PATH_REQ ≠ h then s.complete h seq.toNat 1 0
     else if 544 ≤ port.toNat ∨ 16 ≤ dom.toNat then s.complete h seq.toNat 6 0
     else (s.mapLinks (fun k => { k with fwdP := tset k.fwdP port.toNat ⟨dom.toNat, learn, block⟩ })).complete h seq.toNat 0 0)
  else s)

/-- FWD_FLUSH (R275). -/
def execFwdFlush (h : Fin 32) (seq : Word) (dom : BitVec 8) (s : State) : Res :=
  .next (if s.runs h seq.toNat 0x0111 then
    (if s.get F.FM_PATH_REQ ≠ h then s.complete h seq.toNat 1 0
     else if 16 ≤ dom.toNat ∧ dom.toNat ≠ 255 then s.complete h seq.toNat 6 0
     else (s.fwdForget (fun e => dom.toNat == 255 || e.dom == dom.toNat)).complete h seq.toNat 0 0)
  else s)

/-- FEATURES_OK (R276): accepted only with VERSION_1 and RING_PACKED; `others` are the further feature bits that the driver accepts, of which those
that the door offers hold, and `pairs` the queue pairs it has in use: one without MQ. -/
def execFeaturesOk (h : Fin 32) (version1 ringPacked : Bool) (pairs : DriverSetup) (s : State) : Res :=
  let ok := version1 && ringPacked
  let feats := Nat.land doorOffers (putBit (putBit pairs.others.toNat 32 version1) 34 ringPacked)
  let d : Door := { ok := ok, pairs := if hasBit feats 22 then max 1 pairs.pairs else 1, feats := if ok then feats else 0 }
  .next ((s.mapLinks (fun k => { k with doors := tset k.doors h d })).emit
    (.doorCfg h doorOffers ok (s.doorMac h) 9000 8))

/-- EPOCH_BOUNDARY (R285). -/
def execEpochBoundary (n : Fin 16) (rx : Bool) (s : State) : Res := .next (s.whenUp n (fun s => s.epochCheck n rx))

/-! ### The sideband (R290, R291) -/

/-- SBU_TMGMT. -/
def execSbuTmgmt (n : Fin 16) (crcOk : Bool) (seq : BitVec 8) (msg : List (BitVec 8)) (s : State) : Res :=
  .next (s.sbuIn n seq.toNat crcOk (fun s => s.sbuMgmt n msg))

/-- SBU_TSIG. -/
def execSbuTsig (n : Fin 16) (crcOk : Bool) (seq : BitVec 8) (msg : List (BitVec 8)) (s : State) : Res :=
  .next (s.sbuIn n seq.toNat crcOk (fun s => s.sigSbu n msg))

/-- WAKE (R291): one that meets an exit already started merges into it. -/
def execWake (n : Fin 16) (crcOk : Bool) (seq : BitVec 8) (s : State) : Res :=
  .next (s.sbuIn n seq.toNat crcOk (fun s => if 2 ≤ s.get (F.LSTATE_STATE (48 + n)) then s.dockExit n else s))

/-- SBU_ACK (R290). -/
def execSbuAck (n : Fin 16) (crcOk : Bool) (acked : BitVec 8) (s : State) : Res :=
  .next (s.sbuAck n acked.toNat crcOk)

/-- SBU_TIMEOUT (R290). -/
def execSbuTimeout (n : Fin 16) (s : State) : Res := .next (s.sbuTimeout n)

end Sys2Proof.Machine
end

