-- ==== Sys2Proof/Machine/EngineCmd.lean ====
section
/-! DEFINITION. The commands of chapter 17: the instructions that an engine executes (R386, R387), its entries and faults, checkpoints and
take-over, programs, and the memory window. An instruction command names the engine and the instruction's fields. -/

namespace Sys2Proof.Machine

/-! ### Executing an instruction (R383, R386) -/

/-- A value of `w` bits with its sign extended to 32. -/
def sext (w v : Nat) : Nat := ofSigned 32 (toSigned w v)

/-- An instruction of a running engine: the fetch, which traps outside instruction memory, then the instruction. EN01 executes what EN00
does, two cycles later, with no effect of its own (R391). -/
def State.instr (s : State) (e : Nat) (f : State → EngCore → State) : State :=
  if s.mirrors e || s.get (F.ENG_STAT_STATE e) != 2 || !s.engRuns e then s
  else
    let c := s.engCore e
    let s1 := s.set (F.ENG_PC_PC e) (c.pc / 4)
    if 0x10000 ≤ c.pc then s1.engTrap e 3 0 else if c.pc % 4 ≠ 0 then s1.engTrap e 2 0 else f s1 c

/-- The core after an instruction that goes on behind itself, with the cycles it took. -/
def EngCore.next (c : EngCore) (cycles : Nat) : EngCore := { c with pc := (c.pc + 4) % 2 ^ 32, cycles := c.cycles + cycles }

/-- An instruction that writes one register from two values. -/
def State.alu (s : State) (e : Nat) (gd : Fin 16) (cycles : Nat) (f : EngCore → Nat) : State :=
  s.instr e (fun s c => s.setCore e ((c.setReg gd (f c)).next cycles))

/-- An R-format instruction. -/
def State.aluR (s : State) (e : Nat) (gd ga gb : Fin 16) (f : Nat → Nat → Nat) (cycles : Nat := 1) : State :=
  s.alu e gd cycles (fun c => f (c.reg ga) (c.reg gb))

/-- An I-format instruction. -/
def State.aluI (s : State) (e : Nat) (gd ga : Fin 16) (f : Nat → Nat) : State := s.alu e gd 1 (fun c => f (c.reg ga))

/-- ADD. -/
def execAdd (e : Fin 24) (gd ga gb : Fin 16) (s : State) : Res := .next (s.aluR e gd ga gb (fun a b => a + b))

/-- SUB. -/
def execSub (e : Fin 24) (gd ga gb : Fin 16) (s : State) : Res := .next (s.aluR e gd ga gb (fun a b => a + 2 ^ 32 - b))

/-- AND. -/
def execAnd (e : Fin 24) (gd ga gb : Fin 16) (s : State) : Res := .next (s.aluR e gd ga gb Nat.land)

/-- OR. -/
def execOr (e : Fin 24) (gd ga gb : Fin 16) (s : State) : Res := .next (s.aluR e gd ga gb Nat.lor)

/-- XOR. -/
def execXor (e : Fin 24) (gd ga gb : Fin 16) (s : State) : Res := .next (s.aluR e gd ga gb Nat.xor)

/-- SHL: by gb[4:0]. -/
def execShl (e : Fin 24) (gd ga gb : Fin 16) (s : State) : Res := .next (s.aluR e gd ga gb (fun a b => a * 2 ^ (b % 32)))

/-- SHR. -/
def execShr (e : Fin 24) (gd ga gb : Fin 16) (s : State) : Res := .next (s.aluR e gd ga gb (fun a b => a / 2 ^ (b % 32)))

/-- SAR. -/
def execSar (e : Fin 24) (gd ga gb : Fin 16) (s : State) : Res :=
  .next (s.aluR e gd ga gb (fun a b => ofSigned 32 (Int.fdiv (toSigned 32 a) (2 ^ (b % 32) : Nat))))

/-- MUL. -/
def execMul (e : Fin 24) (gd ga gb : Fin 16) (s : State) : Res := .next (s.aluR e gd ga gb (fun a b => a * b) 2)

/-- SLTU. -/
def execSltu (e : Fin 24) (gd ga gb : Fin 16) (s : State) : Res := .next (s.aluR e gd ga gb (fun a b => if a < b then 1 else 0))

/-- ADDI: the immediate's sign is extended. -/
def execAddi (e : Fin 24) (gd ga : Fin 16) (imm : BitVec 18) (s : State) : Res := .next (s.aluI e gd ga (fun a => a + sext 18 imm.toNat))

/-- ANDI. -/
def execAndi (e : Fin 24) (gd ga : Fin 16) (imm : BitVec 18) (s : State) : Res := .next (s.aluI e gd ga (fun a => Nat.land a imm.toNat))

/-- ORI. -/
def execOri (e : Fin 24) (gd ga : Fin 16) (imm : BitVec 18) (s : State) : Res := .next (s.aluI e gd ga (fun a => Nat.lor a imm.toNat))

/-- XORI. -/
def execXori (e : Fin 24) (gd ga : Fin 16) (imm : BitVec 18) (s : State) : Res := .next (s.aluI e gd ga (fun a => Nat.xor a imm.toNat))

/-- LUI: ga is ignored. -/
def execLui (e : Fin 24) (gd _ga : Fin 16) (imm : BitVec 18) (s : State) : Res := .next (s.alu e gd 1 (fun _ => imm.toNat * 2 ^ 14))

/-! ### Loads and stores (R383, R384) -/

/-- The address of a load or store. -/
def EngCore.ea (c : EngCore) (ga : Fin 16) (imm : BitVec 18) : Nat := (c.reg ga + sext 18 imm.toNat) % 2 ^ 32

/-- What the check of a word read from an engine's memory does (R384): corrected and counted, or a trap. -/
def State.eccThen (s : State) (e : Nat) (ecc : Ecc) (f : State → State) : State :=
  match ecc with
  | .none => f s
  | .corrected => f (s.sat (F.ENG_ECC_COUNT_COUNT e))
  | .bad => s.engTrap e 4 0

/-- A management access stalls for a time that the rules leave open: its cycles are a free value. -/
def State.stalled (s : State) (e : Nat) (c : EngCore) : State :=
  let t := s.fresh
  t.2.setCore e (c.next (1 + t.1))

/-- A loaded value goes to gd. -/
def State.loaded (s : State) (e gd v cycles : Nat) (c : EngCore) : State := s.setCore e ((c.setReg gd v).next cycles)

/-- LD: instruction memory, data memory, a context store, or the management space. -/
def execLd (e : Fin 24) (gd ga : Fin 16) (imm : BitVec 18) (ecc : Ecc) (s : State) : Res :=
  .next (s.instr e (fun s c =>
    let a := c.ea ga imm
    match s.engMap e a with
    | .none => s.engTrap e 3 0
    | l =>
      if a % 4 ≠ 0 then s.engTrap e 2 0
      else match l with
        | .imem o => s.eccThen e ecc (fun s => s.loaded e gd (s.engWord (s.engIx e) 0 o) 1 c)
        | .dmem o => s.eccThen e ecc (fun s => s.loaded e gd (s.engWord (s.engIx e) 1 o) 2 c)
        | .ctx n o => s.loaded e gd (s.ctxWord n o) 1 c
        | .mgmt o =>
          let r := s.read (s.engPath e) o
          r.2.stalled e ((r.2.engCore e).setReg gd r.1)
        | .none => s))

/-- ST: data memory, a context store, or the management space; a store to instruction memory traps. -/
def execSt (e : Fin 24) (gd ga : Fin 16) (imm : BitVec 18) (s : State) : Res :=
  .next (s.instr e (fun s c =>
    let a := c.ea ga imm
    let v := c.reg gd
    match s.engMap e a with
    | .none | .imem _ => s.engTrap e 3 0
    | l =>
      if a % 4 ≠ 0 then s.engTrap e 2 0
      else match l with
        | .dmem o => ((s.storeData e o v).setCore e (c.next 1)).journalFull
        | .ctx n o => (s.setEngWord (24 + n) 0 o v).setCore e (c.next 1)
        | .mgmt o =>
          let t := s.write (s.engPath e) o v 15
          if t.get (F.ENG_STAT_STATE e) = 2 then t.stalled e (t.engCore e) else t
        | _ => s))

/-- LDB: data memory only. -/
def execLdb (e : Fin 24) (gd ga : Fin 16) (imm : BitVec 18) (ecc : Ecc) (s : State) : Res :=
  .next (s.instr e (fun s c =>
    match s.engMap e (c.ea ga imm) with
    | .dmem o => s.eccThen e ecc (fun s => s.loaded e gd (s.engWord (s.engIx e) 1 (o / 4 * 4) / 256 ^ (o % 4) % 256) 2 c)
    | _ => s.engTrap e 3 0))

/-- STB: data memory only. -/
def execStb (e : Fin 24) (gd ga : Fin 16) (imm : BitVec 18) (ecc : Ecc) (s : State) : Res :=
  .next (s.instr e (fun s c =>
    match s.engMap e (c.ea ga imm) with
    | .dmem o =>
      s.eccThen e ecc (fun s =>
        let w := s.engWord (s.engIx e) 1 (o / 4 * 4)
        let k := 256 ^ (o % 4)
        ((s.storeData e (o / 4 * 4) (w - w / k % 256 * k + c.reg gd % 256 * k)).setCore e (c.next 1)).journalFull)
    | _ => s.engTrap e 3 0))

/-! ### Branches and jumps -/

/-- A branch: PC plus the signed offset in words when taken. -/
def State.branch (s : State) (e : Nat) (ga gb : Fin 16) (off : BitVec 18) (t : Nat → Nat → Bool) : State :=
  s.instr e (fun s c =>
    if t (c.reg ga) (c.reg gb) then s.setCore e { c with pc := (c.pc + sext 18 off.toNat * 4) % 2 ^ 32, cycles := c.cycles + 2 }
    else s.setCore e (c.next 1))

/-- BEQ. -/
def execBeq (e : Fin 24) (ga gb : Fin 16) (off : BitVec 18) (s : State) : Res := .next (s.branch e ga gb off (fun a b => a == b))

/-- BNE. -/
def execBne (e : Fin 24) (ga gb : Fin 16) (off : BitVec 18) (s : State) : Res := .next (s.branch e ga gb off (fun a b => a != b))

/-- BLT. -/
def execBlt (e : Fin 24) (ga gb : Fin 16) (off : BitVec 18) (s : State) : Res :=
  .next (s.branch e ga gb off (fun a b => decide (toSigned 32 a < toSigned 32 b)))

/-- BLTU. -/
def execBltu (e : Fin 24) (ga gb : Fin 16) (off : BitVec 18) (s : State) : Res := .next (s.branch e ga gb off (fun a b => decide (a < b)))

/-- A jump: the link to gd, then the new PC. -/
def State.jump (s : State) (e : Nat) (gd : Fin 16) (dest : EngCore → Nat) : State :=
  s.instr e (fun s c => s.setCore e { c.setReg gd (c.pc + 4) with pc := dest c % 2 ^ 32, cycles := c.cycles + 2 })

/-- JAL. -/
def execJal (e : Fin 24) (gd : Fin 16) (off : BitVec 22) (s : State) : Res := .next (s.jump e gd (fun c => c.pc + sext 22 off.toNat * 4))

/-- JR. -/
def execJr (e : Fin 24) (gd ga : Fin 16) (imm : BitVec 18) (s : State) : Res := .next (s.jump e gd (fun c => c.reg ga + sext 18 imm.toNat))

/-! ### CSRs, waits and returns (R387, R388, R391) -/

/-- A CSR's value and what reading it does (R387); a number that R387 does not name, and WDOG, read as a free value. -/
def State.csrRead (s : State) (e : Nat) (c : EngCore) (n : Nat) : Nat × EngCore × State :=
  match n with
  | 0 => (c.status, c, s)
  | 1 => (c.nvec, c, s)
  | 2 => (c.fvec, c, s)
  | 3 => (c.npc, c, s)
  | 4 => (c.fpc, c, s)
  | 5 => (c.cause, c, s)
  | 6 => (c.cycles % 2 ^ 32, { c with cycHi := c.cycles / 2 ^ 32 }, s)
  | 7 => (c.cycHi, c, s)
  | 8 => (s.now % 2 ^ 32, { c with timeHi := s.now / 2 ^ 32 }, s)
  | 9 => (c.timeHi, c, s)
  | 11 =>
    match s.seqPending e with
    | some m => (2 ^ 31 + 65536 * m + s.seqWord m % 256, c, s.setMacro m { s.macro m with taken := true })
    | none => (0, c, s)
  | 12 => (s.portsCsr e, c, s)
  | 13 => (e, c, s)
  | _ => (s.fresh.1, c, s.fresh.2)

/-- CSRR. -/
def execCsrr (e : Fin 24) (gd : Fin 16) (csr : BitVec 18) (s : State) : Res :=
  .next (s.instr e (fun s c =>
    let r := s.csrRead e c csr.toNat
    r.2.2.setCore e ((r.2.1.setReg gd r.1).next 1)))

/-- A CSR is written (R387): the ones that report, and numbers that R387 does not name, keep what they hold. -/
def EngCore.csrWrite (c : EngCore) (n v : Nat) : EngCore :=
  match n with
  | 0 => { c with status := v % 16 }
  | 1 => { c with nvec := v }
  | 2 => { c with fvec := v }
  | 3 => { c with npc := v }
  | 4 => { c with fpc := v }
  | 5 => { c with cause := v }
  | _ => c

/-- CSRW; a write of WDOG restarts the watchdog. -/
def execCsrw (e : Fin 24) (ga : Fin 16) (csr : BitVec 18) (s : State) : Res :=
  .next (s.instr e (fun s c => s.setCore e ((c.csrWrite csr.toNat (c.reg ga)).next 1)))

/-- WAIT: the engine sleeps unless a request may enter already. -/
def execWait (e : Fin 24) (s : State) : Res :=
  .next (s.instr e (fun s c =>
    let s1 := s.setCore e (c.next 1)
    if s1.fastOk e || s1.normalOk e then s1 else s1.set (F.ENG_STAT_STATE e) 3))

/-- RETN: clears IN_NORMAL and TRAP. -/
def execRetn (e : Fin 24) (s : State) : Res :=
  .next (s.instr e (fun s c =>
    s.setCore e { c with pc := c.npc, status := putBit (putBit c.status 1 false) 3 false, cycles := c.cycles + 1 }))

/-- RETF: back to the bank in use before. -/
def execRetf (e : Fin 24) (s : State) : Res :=
  .next (s.instr e (fun s c => s.setCore e { c with pc := c.fpc, status := putBit c.status 2 false, alt := c.was, cycles := c.cycles + 1 }))

/-- CKPT: a checkpoint of the pair behind the instruction; no operation on other engines. -/
def execCkpt (e : Fin 24) (s : State) : Res :=
  .next (s.instr e (fun s c =>
    let s1 := s.setCore e (c.next 1)
    if e.val = 0 then s1.ckptNow else s1))

/-- FENCE: every management write of the engine has completed, as each stalls the ST that made it (R384). -/
def execFence (e : Fin 24) (s : State) : Res := .next (s.instr e (fun s c => s.setCore e (c.next 1)))

/-- TRAP (R389): the instruction, with its immediate, or an uncorrectable error of the fetched word. -/
def execTrap (e : Fin 24) (cause : TrapCause) (s : State) : Res :=
  .next (s.instr e (fun s _ => match cause with
    | .software imm => s.engTrap e 5 imm.toNat
    | .ecc => s.engTrap e 4 0))

/-- ILLEGAL_INSTRUCTION. -/
def execIllegalInstruction (e : Fin 24) (s : State) : Res := .next (s.instr e (fun s _ => s.engTrap e 1 0))

/-! ### Entries, faults, checkpoints (R388-R393) -/

/-- FAST_ENTRY. -/
def execFastEntry (e : Fin 24) (s : State) : Res := .next (if !s.mirrors e && s.engRuns e && s.fastOk e then s.fastEntry e else s)

/-- NORMAL_ENTRY. -/
def execNormalEntry (e : Fin 24) (s : State) : Res := .next (if !s.mirrors e && s.engRuns e && s.normalOk e then s.normalEntry e else s)

/-- WATCHDOG (R389). -/
def execWatchdog (e : Fin 24) (s : State) : Res := .next (if !s.mirrors e && s.engRuns e then s.engFault e 2 else s)

/-- ENGINE_FAULT (R389): a control-path parity error. In one engine of the lockstep pair it is a mismatch as well. -/
def execEngineFault (e : Fin 24) (s : State) : Res :=
  .next (if !s.engRuns e then s
  else if s.pairEngines.contains e && s.get F.LOCK_STAT_MGMT == 0 then (s.engHalt e 3).mismatch [e.val]
  else s.engFault e 3)

/-- AUTO_CKPT (R391). -/
def execAutoCkpt (s : State) : Res := .next (if s.engRuns 0 then s.ckptNow else s)

/-- LOCKSTEP_MISMATCH (R392, R393). -/
def execLockstepMismatch (s : State) : Res :=
  .next (if s.get F.LOCK_STAT_MGMT = 0 ∧ s.engRuns s.pairLead then s.mismatch [] else s)

/-! ### Programs (R396) -/

/-- A field of a program. -/
def prog32 (b : List (BitVec 8)) (i : Nat) : Nat := leNat ((b.drop i).take 4)

/-- What is wrong with a program's form or length: 9 SIZE, 10 FORMAT. -/
def progBad (b : List (BitVec 8)) : Option Nat :=
  if b.length < 160 then some 9
  else if prog32 b 0 ≠ 0x4A465250 ∨ prog32 b 8 % 4 ≠ 0 ∨ 65536 < prog32 b 8 ∨ 196608 < prog32 b 12 ∨ 16384 ≤ prog32 b 16 ∨
      (((b.drop 20).take 44).any (fun x => x != 0)) then some 10
  else if b.length ≠ 64 + prog32 b 8 + prog32 b 12 + 96 then some 9
  else none

/-- Is a program's signature one that the hub accepts (R396)? -/
def State.progSigned (s : State) (g : ProgSig) : Bool :=
  match g with
  | .owner => true
  | .vendor => s.testMode
  | .bad => false

/-- A load ends without a program. -/
def State.loadFails (s : State) (h seq e err : Nat) : State := ((s.set (F.ENG_STAT_STATE e) 0).raise 3846).complete h seq err 0

/-- ENG_LOAD (R396): the bytes read through the host's port, fewer than the length if its link goes down, and whose key verifies them. -/
def execEngLoad (h : Fin 32) (seq : Word) (eng : BitVec 8) (prog : List (BitVec 8)) (len : Word) (sig : ProgSig) (s : State) : Res :=
  .next (if s.runs h seq.toNat 0x0130 then
    (let e := eng.toNat
     if s.get F.FM_PATH_REQ ≠ h then s.complete h seq.toNat 1 0
     else if e < 19 ∨ 22 < e then s.complete h seq.toNat 6 0
     else
       let s1 := (s.engStop e 0).clearMem e
       if prog.length ≠ len.toNat then s1.loadFails h seq.toNat e 9
       else match progBad prog with
         | some err => s1.loadFails h seq.toNat e err
         | none =>
           if !s.progSigned sig then s1.loadFails h seq.toNat e 8
           else
             let code := (prog.drop 64).take (prog32 prog 8)
             let data := (prog.drop (64 + prog32 prog 8)).take (prog32 prog 12)
             ((((s1.loadWords e 0 (wordsOf code)).loadWords e 1 (wordsOf data)).engStart e (4 * prog32 prog 16)).raise 3845).complete h seq.toNat 0 0)
  else s)

/-- ENG_STOP (R396). -/
def execEngStop (h : Fin 32) (seq : Word) (eng : BitVec 8) (s : State) : Res :=
  .next (if s.runs h seq.toNat 0x0131 then
    (let e := eng.toNat
     if s.get F.FM_PATH_REQ ≠ h then s.complete h seq.toNat 1 0
     else if e < 19 ∨ 22 < e then s.complete h seq.toNat 6 0
     else (if s.engRuns e then s.engStop e 4 else s).complete h seq.toNat 0 0)
  else s)

/-! ### Registers (R399) -/

/-- ENG_CTRL_START. -/
def execEngCtrlStart (p : Path) (e : Fin 24) (s : State) : Res := .next (s.write p (0xA10040 + 0x1000 * e.val) 1 15)

/-- ENG_CTRL_STOP. -/
def execEngCtrlStop (p : Path) (e : Fin 24) (s : State) : Res := .next (s.write p (0xA10040 + 0x1000 * e.val) 2 15)

/-- MW_DATA_ACCESS: a read, or a write of a word. -/
def execMwDataAccess (p : Path) (value : Option Word) (s : State) : Res :=
  .next (match value with
    | some v => s.write p 0xA01048 v.toNat 15
    | none => s.readOut p 0xA01048)

end Sys2Proof.Machine
end

