-- ==== Sys2Proof/Machine/MgmtCmd.lean ====
section
/-! DEFINITION. The commands of chapters 2 and 16: writes and reads of the management space, configuration transactions,
mailboxes and event delivery. -/

namespace Sys2Proof.Machine

/-! ### Writes (R4, R23, R24) -/

/-- REGISTER_WRITE (R4, R19-R31). -/
def execRegisterWrite (p : Path) (addr : BitVec 26) (value : List Word) (be : List (BitVec 4)) (s : State) : Res :=
  .next (s.writeWide p addr.toNat value be)

/-- OWNER_WRITE (R24). -/
def execOwnerWrite (p : Path) (page : BitVec 14) (value : Word) (s : State) : Res :=
  let a := page.toNat * 4096 + 0x20
  .next (s.writeVia p a value.toNat 15 (fun s => s.storeAt (pathCode p) a value.toNat))

/-- PAGE_ENABLE (R23): PAGE_CTRL is written with the given EN and DOM_REQ as it stands. -/
def execPageEnable (p : Path) (page : BitVec 14) (en : Bool) (s : State) : Res :=
  let pg := page.toNat * 4096
  let v := b2n en + 2 * s.get (hDomReq pg)
  .next (s.writeVia p (pg + 8) v 15 (fun s => ((s.storeAt (pathCode p) (pg + 8) v).afterEn s pg).afterDomReq s pg))

/-! ### Transactions (R27-R40) -/

/-- TXN_OPEN (R28). -/
def execTxnOpen (p : Path) (s : State) : Res := .next (s.readOut p 0x2040)

/-- TXN_COMMIT (R33, R39). -/
def execTxnCommit (p : Path) (value : Word) (s : State) : Res :=
  .next (s.writeVia p 0x2050 value.toNat 15 (fun s => s.txnCommit p value.toNat))

/-- TXN_ABORT (R38, R39). -/
def execTxnAbort (p : Path) (value : Word) (s : State) : Res :=
  .next (s.writeVia p 0x2054 value.toNat 15 (fun s => s.txnAbort p value.toNat))

/-- AT_TIME_COMMIT (R33): the hub clock has reached the parameter of an armed AT_TIME transaction. -/
def execAtTimeCommit (slot : Fin 8) (s : State) : Res :=
  .next (if (s.slot slot).cond = 1 then s.instantMet slot else s)

/-- ABORTED_IDLE (R40). -/
def execAbortedIdle (slot : Fin 8) (s : State) : Res :=
  .next (if (s.slot slot).state = .opened ∧ s.get F.TXN_IDLE_LIMIT_MS ≠ 0 then (s.dropSlot slot 4).raise 33 else s)

/-! ### Mailboxes (R42-R47) -/

/-- CMD_POST (R45). -/
def execCmdPost (p : Path) (h : Fin 32) (count : Word) (entries : List CmdHead) (s : State) : Res :=
  let a := 0x8005C + 0x1000 * h.val
  .next (s.writeVia p a count.toNat 15 (fun s => (s.storeAt (pathCode p) a count.toNat).post h entries))

/-- NOP (R43). -/
def execNop (h : Fin 32) (seq : Word) (s : State) : Res :=
  .next (if s.runs h seq.toNat 0 then s.complete h seq.toNat 0 0 else s)

/-- EVT_CONSUMED_WRITE (R376). -/
def execEvtConsumedWrite (p : Path) (h : Fin 32) (count : Word) (s : State) : Res :=
  let a := 0x80068 + 0x1000 * h.val
  .next (s.writeVia p a count.toNat 15 (fun s => (s.storeAt (pathCode p) a count.toNat).consumed h))

/-- RESYNC (R47). -/
def execResync (p : Path) (h : Fin 32) (s : State) : Res :=
  .next (s.writeVia p (0x80078 + 0x1000 * h.val) 1 15 (fun s => s.resync h true))

/-- RING_RESTART (R47): RESTART is written with the enables as they stand. -/
def execRingRestart (p : Path) (h : Fin 32) (s : State) : Res :=
  let v := 4 + 2 * s.get (F.RING_CTRL_EVT_EN h) + s.get (F.RING_CTRL_CMD_EN h)
  .next (s.writeVia p (0x80040 + 0x1000 * h.val) v 15
    (fun s => ((s.bump (0x80000 + 0x1000 * h.val)).restart h).readPosted h))

/-- RING_ENABLE (R47). -/
def execRingEnable (p : Path) (h : Fin 32) (cmdEn evtEn : Bool) (s : State) : Res :=
  let a := 0x80040 + 0x1000 * h.val
  let v := b2n cmdEn + 2 * b2n evtEn
  .next (s.writeVia p a v 15 (fun s => (s.storeAt (pathCode p) a v).ringCtrl s h false))

/-- NOW_LO_READ (R18, R51): a read of any width; one of a LO half latches other words for the path. -/
def execNowLoRead (p : Path) (r : ReadSpan) (s : State) : Res := .next (s.readWide p r.addr.toNat (r.more.toNat + 1))

/-! ### Events (R369-R380) -/

/-- EVT_EN_WRITE (R369). -/
def execEvtEnWrite (p : Path) (page : BitVec 14) (value : Word) (s : State) : Res :=
  let pg := page.toNat * 4096
  .next (s.writeVia p (pg + 0x14) value.toNat 15
    (fun s => (s.storeAt (pathCode p) (pg + 0x14) value.toNat).afterEvtEn s pg))

/-- CLAIM (R377, R378): a read of CLAIM_N or CLAIM_F. -/
def execClaim (p : Path) (t : Fin 57) (fast : Bool) (s : State) : Res :=
  .next (s.readOut p (0xC0050 + 0x1000 * t.val + (if fast then 8 else 0)))

/-- COMPLETE (R377): a write of COMPLETE_N or COMPLETE_F. -/
def execComplete (p : Path) (t : Fin 57) (fast : Bool) (ev : BitVec 12) (s : State) : Res :=
  .next (s.writeVia p (0xC0054 + 0x1000 * t.val + (if fast then 8 else 0)) ev.toNat 15
    (fun s => s.completeEv t fast ev.toNat))

/-- TARGET_ENABLE (R371, R373, R380): a target's enable or presence has changed. -/
def execTargetEnable (t : Fin 57) (s : State) : Res := .next (s.retarget t)

/-- EV_ROUTE_WRITE (R373): EV_ROUTE of the event the path has selected. -/
def execEvRouteWrite (p : Path) (value : Word) (s : State) : Res :=
  .next (s.writeVia p 0x21044 value.toNat 15 (fun s =>
    (s.storeAt (pathCode p) 0x21044 value.toNat).routed (s.get (F.EV_SEL_EVENT (pathCode p)))))

/-- TGT_QCONS_WRITE (R376). -/
def execTgtQconsWrite (p : Path) (t : Fin 57) (value : Word) (s : State) : Res :=
  let a := 0xC004C + 0x1000 * t.val
  .next (s.writeVia p a value.toNat 15 (fun s => (s.storeAt (pathCode p) a value.toNat).qcons t))

/-- MSIX_ENABLE (R379). -/
def execMsixEnable (h : Fin 32) (act : MsixAct) (s : State) : Res := .next (s.msixAct h act)

/-- PIN_FILTER_EDGE (R380): a filtered level of a ball has changed. -/
def execPinFilterEdge (i : Fin 5) (level : Bool) (s : State) : Res :=
  .next (if s.on (F.PF_LEVEL i) = level then s
    else (s.put (F.PF_LEVEL i) level).raiseIf (hasBit (s.get (F.PF_EDGE i)) (if level then 0 else 1)) (pinEvent i))

/-- HELD_COUNT_READ (R373). -/
def execHeldCountRead (p : Path) (s : State) : Res := .next (s.readOut p 0x20044)

end Sys2Proof.Machine
end

