-- ==== Sys2Proof/Machine/PdCmd.lean ====
section
/-! DEFINITION. The commands of chapter 12: attach, contracts, swaps, resets, Mbaloth mode; and the governor's firmware. -/

namespace Sys2Proof.Machine

/-- A message or timer of an attached port acts, and Rp follows. -/
def State.pdDo (s : State) (n : Nat) (f : State → State) : State :=
  if s.on (F.PD_STAT_ATTACHED n) then (f s).pdShow n else s

/-- Address of a register of a port's PD page. -/
def pdAddr (n off : Nat) : Nat := 0x404000 + 0x10000 * n + off

/-! ### Attach and detach (R294-R298) -/

/-- ATTACH (R294, R295, R297, R321). -/
def execAttach (n : Fin 16) (cc : CcSeen) (s : State) : Res := .next (((s.wakeBy 4).attach n cc).pdShow n)

/-- DRP_TOGGLE (R294). -/
def execDrpToggle (n : Fin 16) (s : State) : Res :=
  let x := s.pd n
  .next (if !s.on (F.PD_STAT_ATTACHED n) && x.role == 1 && s.on (F.PD_CTRL_EN n) && !x.errRec && !x.trySrc then
    s.set (F.PD_STAT_RP n) (if s.get (F.PD_STAT_RP n) = 0 then 2 else 0)
  else s)

/-- TRY_SRC_TIMEOUT (R294). -/
def execTrySrcTimeout (n : Fin 16) (vbus cc2 : Bool) (s : State) : Res :=
  let x := s.pd n
  .next (if s.on (F.PD_STAT_ATTACHED n) || !x.trySrc then s
  else if vbus then s.attachSnk n cc2
  else (s.setPd n { x with trySrc := false }).set (F.PD_STAT_RP n) 0)

/-- DETACH (R296). -/
def execDetach (n : Fin 16) (s : State) : Res := .next (if s.on (F.PD_STAT_ATTACHED n) then s.detach n false else s)

/-- VCONN_FAULT (R297). -/
def execVconnFault (n : Fin 16) (s : State) : Res :=
  .next (s.pdDo n (fun s =>
    if s.on (F.PD_STAT_VCONN_ON n) then
      (let s1 := ((s.set (F.PD_STAT_VCONN_ON n) 0).mapPd n (fun x => { x with vcFault := true })).raise (pdEv n 11)
       if (s1.pd n).seq = .cable then s1.sendCaps n else s1)
    else s))

/-- CABLE_IDENTITY (R298, R302). -/
def execCableIdentity (n : Fin 16) (a : CableAns) (s : State) : Res :=
  .next (s.pdDo n (fun s =>
    if (s.pd n).seq = .cable then
      match a with
      | .passive v => (((s.set (F.PD_CABLE_VDO_VDO n) v.toNat).set (F.PD_STAT_CABLE n) 1).raise (pdEv n 12)).sendCaps n
      | .active => s.sendCaps n
      | .none => s.pdFirst n
    else s))

/-! ### Capabilities, contracts, EPR (R299-R304, R307) -/

/-- SOURCE_CAP_REPEAT (R300): while no GoodCRC has come, up to 50 times. -/
def execSourceCapRepeat (n : Fin 16) (s : State) : Res :=
  .next (s.pdDo n (fun s =>
    let x := s.pd n
    match x.unacked.find? (fun m => decide (m.1.kind = .sourceCaps) || decide (m.1.kind = .eprSourceCaps)) with
    | some m => if x.seq = .caps ∧ x.caps < 50 then
        (s.setPd n { x with caps := x.caps + 1, unacked := x.unacked.map (fun e => if e.1 = m.1 then (e.1, 0) else e) }).emit (.pd n m.1)
      else s
    | none => s))

/-- REQUEST (R303). -/
def execRequest (n : Fin 16) (rdo : Word) (s : State) : Res :=
  .next (s.pdDo n (fun s => s.pdRequest n rdo.toNat (s.on (F.PD_STAT_EPR n)) none))

/-- EPR_REQUEST (R303). -/
def execEprRequest (n : Fin 16) (rdo pdo : Word) (s : State) : Res :=
  .next (s.pdDo n (fun s => s.pdRequest n rdo.toNat (s.on (F.PD_STAT_EPR n)) (some pdo.toNat)))

/-- EPR_Mode Enter meets R303's conditions: EPR mode is entered, and its capabilities go out. -/
def State.eprEnter (s : State) (n : Nat) : State :=
  (((((s.vdmAbort n).pdSend n .eprMode [2 * 2 ^ 24]).pdSend n .eprMode [3 * 2 ^ 24]).set (F.PD_STAT_EPR n) 1).raise (pdEv n 3)).sendCaps n

/-- EPR_MODE (R299, R303): EPR_Mode Enter, answered Enter Failed where a condition fails; or the sink's Exit. One that comes while another
sequence runs is not taken (R301; DESIGN CHOICE, log entry 101). -/
def execEprMode (n : EprCall) (s : State) : Res :=
  .next (s.pdDo n.port (fun s =>
    let free := decide ((s.pd n.port).seq = .idle) || decide ((s.pd n.port).seq = .caps)
    if n.exit then (if s.on (F.PD_STAT_EPR n.port) && s.pdSource n.port && free then (s.vdmAbort n.port).eprLeft n.port else s)
    else if s.pdSource n.port && s.on (F.PD_STAT_CONTRACT n.port) && !s.on (F.PD_STAT_EPR n.port) && s.eprOk n.port then
      (if free then s.eprEnter n.port else s)
    else s.pdSend n.port .eprMode [4 * 2 ^ 24 + 4 * 2 ^ 16]))

/-- EPR_KEEPALIVE (R303). -/
def execEprKeepalive (n : Fin 16) (s : State) : Res :=
  .next (s.pdDo n (fun s => if s.on (F.PD_STAT_EPR n) then s.pdSend n .eprKeepAliveAck else s))

/-- EPR_KEEPALIVE_TIMEOUT (R303, R309). -/
def execEprKeepaliveTimeout (n : Fin 16) (s : State) : Res :=
  .next (s.pdDo n (fun s => if s.on (F.PD_STAT_EPR n) then s.hardReset n true else s))

/-- GET_SOURCE_CAP (R299). -/
def execGetSourceCap (n : Fin 16) (s : State) : Res :=
  .next (s.pdDo n (fun s => if s.pdSource n && decide ((s.pd n).seq = .idle) then (s.vdmAbort n).sendCaps n else s.pdSend n .sourceCaps (s.sprCaps n)))

/-- GET_SINK_CAP (R307): 5 V at 100 mA, Dual-Role Power set. -/
def execGetSinkCap (n : Fin 16) (s : State) : Res := .next (s.pdDo n (fun s => s.pdSend n .sinkCaps [0x2001900A]))

/-- SINK_CAPABILITIES (R299, R307): EPR_Sink_Capabilities, which the hub never asks for, is taken and leaves PD_PARTNER_SNK as it is (log entry
100). -/
def execSinkCapabilities (n : Fin 16) (pdo : SinkCaps) (s : State) : Res :=
  .next (s.pdDo n (fun s => match pdo with
    | .spr v =>
      let s1 := s.set (F.PD_PARTNER_SNK_PDO n) v.toNat
      if (s1.pd n).seq = .getSink then s1.pdNext n else s1
    | .epr _ => s))

/-- SOURCE_CAPABILITIES (R307): the no-draw request. -/
def execSourceCapabilities (n : Fin 16) (pdo : Word) (s : State) : Res :=
  .next (s.pdDo n (fun s =>
    if s.pdSink n then ((s.vdmAbort n).mapPd n (fun x => { x with seq := .snkReq, srcPdo := pdo.toNat })).pdSend n .request [0x1300280A] else s))

/-! ### Swaps (R297, R305, R306, R308) -/

/-- DR_SWAP (R305). -/
def execDrSwap (n : Fin 16) (s : State) : Res := .next (s.pdDo n (fun s => s.drSwapIn n))

/-- PR_SWAP (R306, R309). -/
def execPrSwap (n : Fin 16) (s : State) : Res := .next (s.pdDo n (fun s => s.prSwapIn n))

/-- VCONN_SWAP (R297): rejected in every state. -/
def execVconnSwap (n : Fin 16) (s : State) : Res := .next (s.pdDo n (fun s => s.pdSend n .reject))

/-- ACCEPT (R306, R308). -/
def execAccept (n : Fin 16) (s : State) : Res := .next (s.pdDo n (fun s => s.pdAccept n))

/-- REJECT (R308). -/
def execReject (n : Fin 16) (s : State) : Res := .next (s.pdDo n (fun s => s.pdRefused n 2))

/-- PD_WAIT (R308). -/
def execPdWait (n : Fin 16) (s : State) : Res := .next (s.pdDo n (fun s => s.pdWait n))

/-- NOT_SUPPORTED (R308). -/
def execNotSupported (n : Fin 16) (s : State) : Res := .next (s.pdDo n (fun s => s.pdRefused n 7))

/-- SENDER_RESPONSE_TIMEOUT (R308). -/
def execSenderResponseTimeout (n : Fin 16) (s : State) : Res := .next (s.pdDo n (fun s => s.pdRefused n 6))

/-- PS_RDY (R306, R307). -/
def execPsRdy (n : Fin 16) (s : State) : Res := .next (s.pdDo n (fun s => s.psRdy n))

/-- SWAP_RETRY (R308). -/
def execSwapRetry (n : Fin 16) (s : State) : Res :=
  .next (s.pdDo n (fun s =>
    let x := s.pd n
    if x.own = 0 ∨ s.get (F.PD_STAT_SWAP n) ≠ 2 then s
    else if s.get (F.PD_SWAP_ATTEMPTS n) ≤ x.sent then (s.swapEnd n 3).pdNext n
    else if decide (x.seq = .idle) then (s.vdmAbort n).sendSwap n
    else s.setPd n { x with due := true }))

/-! ### Resets and the message layer (R299, R301, R309) -/

/-- SOFT_RESET (R301). -/
def execSoftReset (n : Fin 16) (s : State) : Res := .next (s.pdDo n (fun s => s.softReset n false))

/-- HARD_RESET (R309). -/
def execHardReset (n : Fin 16) (s : State) : Res := .next (s.pdDo n (fun s => s.hardReset n false))

/-- GOODCRC (R299, R313): the partner's ends the wait for a message; the hub's own ends mode entry after the Enter Mode ACK. -/
def execGoodcrc (n : Fin 16) (sent : Bool) (s : State) : Res :=
  .next (s.pdDo n (fun s =>
    if sent then
      (let s1 := s.emit (.pd n ⟨false, .goodCrc, []⟩)
       if (s1.pd n).vdm = 5 then s1.modeEntered n else s1)
    else s.mapPd n (fun x => { x with unacked := x.unacked.drop 1 })))

/-- GOODCRC_TIMEOUT (R299): two retries, then the message has failed. -/
def execGoodcrcTimeout (n : Fin 16) (s : State) : Res :=
  .next (s.pdDo n (fun s =>
    let x := s.pd n
    match x.unacked with
    | [] => s
    | (m, k) :: l =>
      if k < 2 then (s.setPd n { x with unacked := (m, k + 1) :: l }).emit (.pd n m)
      else if m.kind = .sourceCaps ∨ m.kind = .eprSourceCaps then s
      else if m.prime then s.setPd n { x with unacked := l }
      else if m.kind = .softReset then s.hardReset n true
      else s.softReset n true))

/-- GET_STATUS (R299): the content of Status is not in the spec, so it is free. -/
def execGetStatus (n : Fin 16) (s : State) : Res :=
  .next (s.pdDo n (fun s => let c := s.fresh; c.2.pdSend n .status [c.1]))

/-- GET_REVISION (R299). -/
def execGetRevision (n : Fin 16) (s : State) : Res :=
  .next (s.pdDo n (fun s => let c := s.fresh; c.2.pdSend n .revision [c.1]))

/-- GET_SOURCE_CAP_EXTENDED (R299). -/
def execGetSourceCapExtended (n : Fin 16) (s : State) : Res :=
  .next (s.pdDo n (fun s => let c := s.fresh; c.2.pdSend n .sourceCapsExt [c.1]))

/-- EPR_GET_SOURCE_CAP (R299). -/
def execEprGetSourceCap (n : Fin 16) (s : State) : Res :=
  .next (s.pdDo n (fun s => s.pdSend n .eprSourceCaps (s.eprCaps n)))

/-- BIST_MESSAGE (R299). -/
def execBistMessage (n : Fin 16) (carrier : Bool) (s : State) : Res :=
  .next (s.pdDo n (fun s => (s.mapPd n (fun x => { x with bist := if carrier then 1 else 2 })).emit
    (.pd n ⟨false, if carrier then .bistCarrier else .bistData, []⟩)))

/-- UNSUPPORTED_MESSAGE (R299, R301). -/
def execUnsupportedMessage (n : Fin 16) (outOfSeq : Bool) (s : State) : Res :=
  .next (s.pdDo n (fun s =>
    if outOfSeq then (((s.sat (F.PD_MSG_ERR_COUNT n)).raise (pdEv n 13)).softReset n true) else s.pdSend n .notSupported))

/-! ### Timers (R300, R303, R309) -/

/-- SRC_TRANSITION (R303, R304, R306, R321). -/
def execSrcTransition (n : Fin 16) (s : State) : Res := .next (s.pdDo n (fun s => s.srcTransition n))

/-- PS_TRANSITION_TIMEOUT (R309). -/
def execPsTransitionTimeout (n : Fin 16) (s : State) : Res :=
  .next (s.pdDo n (fun s => match (s.pd n).seq with
    | .snkTrans | .toSink 2 | .toSrc 0 => s.hardReset n true
    | _ => s))

/-- SRC_RECOVER (R309). -/
def execSrcRecover (n : Fin 16) (s : State) : Res :=
  .next (s.pdDo n (fun s => if (s.pd n).seq = .hardRst 1 then (s.setSeq n .start).vbReq n true else s))

/-- ERROR_RECOVERY_END (R309, R325). -/
def execErrorRecoveryEnd (n : Fin 16) (s : State) : Res :=
  let x := s.pd n
  .next (if x.errRec then
    (s.setPd n { x with errRec := false, role := s.get (F.PD_CTRL_ROLE_DEFAULT n) }).set (F.PD_STAT_RP n) (if s.on (F.PD_CTRL_EN n) then 2 else 0)
  else s)

/-! ### Mbaloth mode (R310-R314) -/

/-- An answer to the VDM of a stage arrives. -/
def State.vdmAt (s : State) (n stage : Nat) (f : State → State) : State :=
  s.pdDo n (fun s => if (s.pd n).vdm = stage ∧ !(s.pd n).hold ∧ decide ((s.pd n).seq = .idle) then f (s.mapPd n (fun x => { x with busy := 0 })) else s)

/-- DISCOVER_IDENTITY_ACK (R310). -/
def execDiscoverIdentityAck (n : Fin 16) (s : State) : Res := .next (s.vdmAt n 1 (fun s => s.vdmSend n 2))

/-- DISCOVER_SVIDS_ACK (R310). -/
def execDiscoverSvidsAck (n : Fin 16) (svids : List (BitVec 16)) (s : State) : Res :=
  .next (s.vdmAt n 2 (fun s => if svids.contains 0x2D4A then s.vdmSend n 3 else s.vdmFail n))

/-- DISCOVER_MODES_ACK (R310, R311). -/
def execDiscoverModesAck (n : Fin 16) (vdos : List Word) (s : State) : Res :=
  .next (s.vdmAt n 3 (fun s => match vdos with
    | [v] => (s.set (F.PD_MODE_VDO_VDO n) v.toNat).vdmSend n 4
    | _ => s.vdmFail n))

/-- ENTER_MODE_ACK (R311, R312). -/
def execEnterModeAck (n : Fin 16) (vdo idLo idHi : Word) (s : State) : Res :=
  .next (s.vdmAt n 4 (fun s => s.enterAck n vdo.toNat (idLo.toNat + 2 ^ 32 * idHi.toNat)))

/-- VDM_NAK (R310). -/
def execVdmNak (n : Fin 16) (s : State) : Res :=
  .next (s.pdDo n (fun s => if 1 ≤ (s.pd n).vdm ∧ (s.pd n).vdm ≤ 4 then s.vdmFail n else s))

/-- VDM_BUSY (R310). -/
def execVdmBusy (n : Fin 16) (s : State) : Res :=
  .next (s.pdDo n (fun s =>
    let x := s.pd n
    if x.vdm = 0 ∨ 4 < x.vdm ∨ x.hold then s
    else if x.busy < 3 then s.setPd n { x with busy := x.busy + 1, hold := true }
    else s.vdmFail n))

/-- VDM_RETRY (R310). -/
def execVdmRetry (n : Fin 16) (s : State) : Res :=
  .next (s.pdDo n (fun s => if (s.pd n).hold then s.vdmSend n (s.pd n).vdm else s))

/-- ATTENTION (R314): VDO [7:0] = 0x01 is an exit request. -/
def execAttention (n : Fin 16) (vdo : Word) (s : State) : Res :=
  .next (s.pdDo n (fun s => if vdo.toNat % 256 = 1 then s.modeExit n true else s))

/-- MODE_RETRY (R314): the lanes have reached FAILED. -/
def execModeRetry (n : Fin 16) (s : State) : Res :=
  .next (s.pdDo n (fun s =>
    if s.on (F.PD_STAT_MODE n) && (s.lk n).train.failed then
      (let s1 := (s.modeExit n true).mapPd n (fun x => { x with fails := x.fails + 1 })
       if s.get (F.PD_MODE_CTRL_RETRIES n) ≤ (s1.pd n).fails then s1.raise (pdEv n 10)
       else
         let s2 := s1.mapPd n (fun x => { x with vdmDue := true })
         if decide ((s2.pd n).seq = .idle) && (s2.pd n).own == 0 then s2.vdmStart n else s2)
    else s))

/-! ### Writes of the PD page (R315) -/

/-- PD_CMD_EXIT (R314). -/
def execPdCmdExit (p : Path) (n : Fin 16) (s : State) : Res := .next (s.write p (pdAddr n 0x54) 64 15)

/-- PD_CMD_ENTER (R310). -/
def execPdCmdEnter (p : Path) (n : Fin 16) (s : State) : Res := .next (s.write p (pdAddr n 0x54) 32 15)

/-- PD_CMD_SEND_CAPS (R315). -/
def execPdCmdSendCaps (p : Path) (n : Fin 16) (s : State) : Res := .next (s.write p (pdAddr n 0x54) 16 15)

/-- PD_CMD_DR_SWAP (R308). -/
def execPdCmdDrSwap (p : Path) (n : Fin 16) (s : State) : Res := .next (s.write p (pdAddr n 0x54) 8 15)

/-- PD_CMD_PR_SWAP (R308). -/
def execPdCmdPrSwap (p : Path) (n : Fin 16) (s : State) : Res := .next (s.write p (pdAddr n 0x54) 4 15)

/-- PD_CMD_SOFT_RESET (R315). -/
def execPdCmdSoftReset (p : Path) (n : Fin 16) (s : State) : Res := .next (s.write p (pdAddr n 0x54) 2 15)

/-- PD_CMD_HARD_RESET (R309). -/
def execPdCmdHardReset (p : Path) (n : Fin 16) (s : State) : Res := .next (s.write p (pdAddr n 0x54) 1 15)

/-- PD_SRC_WRITE (R304). -/
def execPdSrcWrite (p : Path) (n : Fin 16) (value : Word) (s : State) : Res := .next (s.write p (pdAddr n 0x48) value.toNat 15)

/-- PD_DISABLE (R315): PD_CTRL is written with EN = 0 and its other fields as they stand. -/
def execPdDisable (p : Path) (n : Fin 16) (s : State) : Res :=
  let v := 128 * s.get (F.PD_CTRL_PRS_ACCEPT n) + 64 * s.get (F.PD_CTRL_UP n) + 32 * s.get (F.PD_CTRL_MODE_EN n) +
    16 * s.get (F.PD_CTRL_DR_ACCEPT n) + 8 * s.get (F.PD_CTRL_EPR_EN n) + 2 * s.get (F.PD_CTRL_ROLE_DEFAULT n)
  .next (s.write p (pdAddr n 0x40) v 15)

/-- GOVERNOR_FIRMWARE (R125, R128). -/
def execGovernorFirmware (s : State) : Res := .next s.govFirmware

end Sys2Proof.Machine
end

