-- ==== Sys2Proof/Machine/PoolCmd.lean ====
section
/-! DEFINITION. The commands of chapters 6 and 7: CXL.mem messages of hosts, accesses of bound functions, the expanders' answers,
recalls and losses, cream caches, slices, entry access, and the guard. -/

namespace Sys2Proof.Machine

/-! ### CXL.mem requests of a host (R140, R141, R154) -/

/-- No write data. -/
def noBytes : LineData := ⟨0, 0, false⟩

/-- The kind of a MemRd (R141): the SnpType decides unless it is No-Op. -/
def rdKind (snp : SnpType) (mv : MetaVal) : ReqKind :=
  match snp with
  | .snpData => .rdS
  | .snpInv => .rdO
  | .snpCur => .rdC
  | .noOp => match mv with
    | .a => .rdO
    | .s => .rdS
    | .i | .noOp => .rdC

/-- The kind of a MemWr or MemWrPtl (R141). -/
def wrKind : WrForm → ReqKind
  | .snpInv => .wrU
  | .metaI => .wbI
  | .metaS => .wbS

/-- MEMRD. -/
def execMemrd (h : Fin 32) (tag : BitVec 16) (at_ : MemAddr) (snp : SnpType) (mv : MetaVal) (s : State) : Res :=
  .next (s.hostMem h tag.toNat at_ (rdKind snp mv) false noBytes)

/-- MEMRDDATA: read-shared. -/
def execMemrddata (h : Fin 32) (tag : BitVec 16) (at_ : MemAddr) (s : State) : Res :=
  .next (s.hostMem h tag.toNat at_ .rdS false noBytes)

/-- MEMINV: with MetaValue A read-own without data, with MetaValue I a release. -/
def execMeminv (h : Fin 32) (tag : BitVec 16) (at_ : MemAddr) (own : Bool) (s : State) : Res :=
  .next (s.hostMem h tag.toNat at_ (if own then .rdO else .rel) true noBytes)

/-- MEMCLNEVCT: a release. -/
def execMemclnevct (h : Fin 32) (tag : BitVec 16) (at_ : MemAddr) (s : State) : Res :=
  .next (s.hostMem h tag.toNat at_ .rel true noBytes)

/-- MEMWR: a whole line. -/
def execMemwr (h : Fin 32) (tag : BitVec 16) (at_ : MemAddr) (form : WrForm) (data : BitVec 512) (poison : Bool) (s : State) : Res :=
  .next (s.hostMem h tag.toNat at_ (wrKind form) false ⟨data, allBytes, poison⟩)

/-- MEMWRPTL: the bytes that are enabled. -/
def execMemwrptl (h : Fin 32) (tag : BitVec 16) (at_ : MemAddr) (form : WrForm) (data : BitVec 512) (be : BitVec 64) (poison : Bool)
    (s : State) : Res :=
  .next (s.hostMem h tag.toNat at_ (wrKind form) false ⟨data, be, poison⟩)

/-- MEMSPECRD (R140): a hint, never answered. -/
def execMemspecrd (_h : Fin 32) (_dpa : BitVec 52) (s : State) : Res := .next s

/-- BIRSPI (R156). -/
def execBirspi (h : Fin 32) (bitag : BitVec 12) (block : Bool) (s : State) : Res := .next (if s.shut then s.shutOut h else ((s.cellsIn h 0).birspIn h bitag.toNat 0 block).advance)

/-- BIRSPS (R156). -/
def execBirsps (h : Fin 32) (bitag : BitVec 12) (block : Bool) (s : State) : Res := .next (if s.shut then s.shutOut h else ((s.cellsIn h 0).birspIn h bitag.toNat 1 block).advance)

/-- BIRSPE (R156). -/
def execBirspe (h : Fin 32) (bitag : BitVec 12) (block : Bool) (s : State) : Res := .next (if s.shut then s.shutOut h else ((s.cellsIn h 0).birspIn h bitag.toNat 2 block).advance)

/-- BICONFLICT (R136 and the coincidence table of chapter 6): a request granted before the back-invalidate was issued has had
its completion sent already, so that the acknowledgement goes out at once in either case. -/
def execBiconflict (h : Fin 32) (tag : BitVec 16) (dpa : BitVec 52) (s : State) : Res :=
  .next (if s.shut then s.shutOut h else ((if (s.lensOld h dpa.toNat).isSome then s.cellsIn h 0 else (s.cellsIn h 0).unmapped h dpa.toNat).sendS2M h tag.toNat .biConflictAck))

/-! ### Accesses of bound functions (R175, R191) -/

/-- FUNCTION_MEM_READ. -/
def execFunctionMemRead (fn : Fin 256) (gen : BitVec 4) (tag : BitVec 16) (addr : BitVec 64) (len : BitVec 13) (s : State) : Res :=
  .next (match s.boundFn fn gen.toNat with
    | none => s.stale 0
    | some (h, d) => s.fnRead fn h d tag.toNat addr.toNat len.toNat)

/-- FUNCTION_MEM_WRITE (R191, R197): it takes its ingress sequence number first. -/
def execFunctionMemWrite (fn : Fin 256) (gen : BitVec 4) (addr : BitVec 64) (data : List (BitVec 8)) (s : State) : Res :=
  .next (match s.boundFn fn gen.toNat with
    | none => s.stale 0
    | some (h, d) => s.fnWrite fn h d addr.toNat data)

/-- FUNCTION_ATOMIC (R175). -/
def execFunctionAtomic (fn : Fin 256) (gen : BitVec 4) (tag : BitVec 16) (addr : BitVec 64) (op : AtomicOp) (s : State) : Res :=
  .next (match s.boundFn fn gen.toNat with
    | none => s.stale 0
    | some (h, d) => s.fnAtomic fn h d tag.toNat addr.toNat op)

/-! ### Expanders (R154, R157, R161, R188, R189) -/

/-- EXPANDER_MEMDATA (R154, R159, R189). -/
def execExpanderMemdata (m : Fin 16) (tag : BitVec 16) (data : BitVec 512) (poison : Bool) (s : State) : Res :=
  .next (if s.shut then s.shutOut (32 + m) else (s.cellsIn (32 + m) 64).tagDone m tag.toNat (some (data, poison)))

/-- EXPANDER_CMP (R189, R197). -/
def execExpanderCmp (m : Fin 16) (tag : BitVec 16) (s : State) : Res :=
  .next (if s.shut then s.shutOut (32 + m) else (s.cellsIn (32 + m) 0).tagDone m tag.toNat none)

/-- EXPANDER_BISNP (R188): answered with BIRspI, counted. -/
def execExpanderBisnp (m : Fin 16) (_addr : BitVec 52) (s : State) : Res :=
  .next (((s.emit (.expBirsp m)).sat (F.MP_PROTO_COUNT_COUNT m)).raise (1286 + 32 * m))

/-- The timeouts of an M-port within the last second, with the present one. -/
def State.timeouts (s : State) (m : Nat) : List Nat := s.now :: (tget [] s.pool.ctos m).filter (fun t => decide (s.now < t + 1000000000))

/-- COMPLETION_TIMEOUT (R189): the access of a tag index has had no completion in CTO_CFG.MS. -/
def execCompletionTimeout (m : Fin 16) (idx : BitVec 12) (s : State) : Res :=
  .next (match (s.xtag m idx.toNat).st with
    | .use j =>
      let l := s.timeouts m
      let s1 := ((s.setXtag m idx.toNat { s.xtag m idx.toNat with st := .wait }).mapPool (fun p => { p with ctos := tset p.ctos m l })).sat
        (F.MP_CTO_COUNT_COUNT m)
      let s2 := ((s1.raise (1282 + 32 * m)).xAbort j 0x28).advance
      if s.get (F.CTO_CFG_LIMIT m) ≤ l.length then s2.expanderLost m none else s2
    | _ => s)

/-- TAG_FREE (R189): a timed-out index has waited 2 ms. -/
def execTagFree (m : Fin 16) (idx : BitVec 12) (s : State) : Res :=
  .next (if (s.xtag m idx.toNat).st = .wait then ((s.setXtag m idx.toNat { s.xtag m idx.toNat with st := .free }).xPump m).advance else s)

/-- BISNP_TIMEOUT (R157): the host is declared lost, and its port goes down. -/
def execBisnpTimeout (h : Fin 32) (bitag : BitVec 12) (s : State) : Res :=
  .next (if s.pool.snoops.any (fun x => x.host == h.val && x.bitag == bitag.toNat) then
    (let s1 := s.raise 2833
     if s1.get (F.HP_STAT_LINK h) = 0 then s1.hostLost h else s1.hpDown h)
  else s)

/-! ### Regions, windows and losses (R134-R139, R160, R161) -/

/-- The offset of REG_CFG of a region. -/
def regCfg (r : Nat) : Nat := 0x601048 + 0x20 * r

/-- REGION_ENABLE (R134): REG_CFG is written with EN = 1. -/
def execRegionEnable (p : Path) (r : Fin 16) (value : Word) (s : State) : Res :=
  .next (s.write p (regCfg r) (putBit value.toNat 0 true) 15)

/-- REGION_RECALL (R135): REG_CFG is written with EN = 0 and its other fields as they stand. -/
def execRegionRecall (p : Path) (r : Fin 16) (s : State) : Res :=
  .next (s.write p (regCfg r) (65536 * s.get (F.REG_CFG_DBASE_GIB r) + 256 * s.get (F.REG_CFG_GRAN r) + 16 * s.get (F.REG_CFG_WAYS r)) 15)

/-- REGION_RECALL_END (R135). -/
def execRegionRecallEnd (r : Fin 16) (s : State) : Res := .next (s.regionRecallEnd r)

/-- WINDOW_ENABLE (R137): WIN_ATTR of the path's selected window is written with EN = 1. -/
def execWindowEnable (p : Path) (cream : Bool) (s : State) : Res := .next (s.write p 0x602054 (2 * b2n cream + 1) 15)

/-- WINDOW_RECALL (R138): WIN_ATTR of the path's selected window is written with EN = 0 and CREAM as it stands. -/
def execWindowRecall (p : Path) (s : State) : Res :=
  .next (s.write p 0x602054 (2 * s.get (F.WIN_ATTR_CREAM (s.winIndex (pathCode p) 0 .lensWin))) 15)

/-- WINDOW_RECALL_END (R138). -/
def execWindowRecallEnd (h : Fin 32) (w : Fin 64) (s : State) : Res := .next (s.windowRecallEnd h w)

/-- LOSS_WALK_END (R160-R162). -/
def execLossWalkEnd (port : Fin 72) (s : State) : Res := .next (s.walkEnd port)

/-- POOL_LOST_CLR (R161). -/
def execPoolLostClr (p : Path) (ports : BitVec 16) (s : State) : Res := .next (s.write p 0x601244 ports.toNat 15)

/-! ### Cream caches, slices and entries (R147, R149, R164, R165, R168) -/

/-- CREAM_BANK_FAULT (R149): corrected errors retire a bank from CR_CE_LIMIT of them on. -/
def execCreamBankFault (n bank : Fin 8) (why : CreamTrouble) (s : State) : Res :=
  .next (match why with
    | .corrected k => if s.get (F.CR_CE_LIMIT_COUNT n) ≤ k then s.creamFault n bank true else s
    | _ => s.creamFault n bank false)

/-- The stored part of CR_CTRL, with EN as given. -/
def State.crWord (s : State) (n : Nat) (en : Nat) : Nat := 2 * s.get (F.CR_CTRL_RET_KEEP n) + en

/-- CR_DROP (R147): CR_CTRL is written with DROP. -/
def execCrDrop (p : Path) (n : Fin 8) (s : State) : Res :=
  .next (s.write p (0x610040 + 0x1000 * n) (4 + s.crWord n (if s.native then s.get (F.CR_CTRL_EN n) else 0)) 15)

/-- CR_DISABLE (R147): CR_CTRL is written with EN = 0. -/
def execCrDisable (p : Path) (n : Fin 8) (s : State) : Res := .next (s.write p (0x610040 + 0x1000 * n) (s.crWord n 0) 15)

/-- SLICE_FAIL (R164). -/
def execSliceFail (d : Fin 32) (why : SliceTrouble) (s : State) : Res := .next (s.sliceTrouble d why)

/-- SLICE_FORCE (R164): SLICE_CMD is written with FORCE. -/
def execSliceForce (p : Path) (d : Fin 32) (s : State) : Res := .next (s.write p 0x603058 (32 + d) 15)

/-- RECONSTRUCTION_SERVING (R164). -/
def execReconstructionServing (d : Fin 32) (s : State) : Res := .next (s.reconServes d)

/-- REBUILD_COMPLETE (R164). -/
def execRebuildComplete (d : Fin 32) (s : State) : Res := .next (s.rebuildDone d)

/-- REFLECTOR_FAIL (R165). -/
def execReflectorFail (g : Fin 2) (s : State) : Res := .next (s.reflectorFail g)

/-- DX_FAIL (R165). -/
def execDxFail (s : State) : Res := .next s.dxFail

/-- BY_ADDR (R168): ENT_CMD is written with BY_ADDR. -/
def execByAddr (p : Path) (s : State) : Res := .next (s.write p 0x60404C 1 15)

/-- BY_POS (R168): ENT_CMD is written with BY_POS. -/
def execByPos (p : Path) (s : State) : Res := .next (s.write p 0x60404C 2 15)

/-! ### The guard (R179-R183) -/

/-- DRAIN_END (R179): the last old-checked access has been accepted, together with the last fill. -/
def execDrainEnd (s : State) : Res := .next (if s.gd.drain.isEmpty ∨ s.straggling ≠ 0 then s else s.drainEnd)

/-- DRAIN_LIMIT (R180): the drain has reached 2 us. -/
def execDrainLimit (s : State) : Res := .next (if s.gd.drain.isEmpty then s else s.drainEnd)

/-- LOG_CLR (R182). -/
def execLogClr (p : Path) (s : State) : Res := .next (s.write p 0x703044 1 15)

/-- DRAIN_MAX_RESET (R183). -/
def execDrainMaxReset (p : Path) (s : State) : Res := .next (s.write p 0x70004C (2 ^ 31) 15)

end Sys2Proof.Machine
end

