-- ==== Sys2Proof/Machine/PortCmd.lean ====
section
/-! DEFINITION. The commands of chapter 8: links of host and memory ports, low-power exits, bindings, and write fences. -/

namespace Sys2Proof.Machine

/-! ### Links (R187, R188, R194-R196, R199, R200) -/

/-- HP_LINK_UP (R194): no link trains before the clocks are on the clock unit (R415), or while its link layer is not ON. -/
def execHpLinkUp (h : Fin 32) (rate width : Fin 8) (caps : LinkCaps) (s : State) : Res :=
  .next (if s.linkable h then s.hpUp h rate width caps else s)

/-- HP_LINK_DOWN (R194). -/
def execHpLinkDown (h : Fin 32) (s : State) : Res := .next (s.hpDown h)

/-- The stored part of HP_CTRL, with EN as given. -/
def State.hpWord (s : State) (h en : Nat) : Nat :=
  8192 * s.get (F.HP_CTRL_L1_EN h) + 4096 * s.get (F.HP_CTRL_L0P_EN h) + 256 * s.get (F.HP_CTRL_MAX_WIDTH h) +
    16 * s.get (F.HP_CTRL_MAX_RATE h) + en

/-- HP_DISABLE (R194): HP_CTRL is written with EN = 0. -/
def execHpDisable (p : Path) (h : Fin 32) (s : State) : Res := .next (s.write p (0x100040 + 0x10000 * h) (s.hpWord h 0) 15)

/-- HP_RETRAIN (R199): HP_CTRL is written with RETRAIN. -/
def execHpRetrain (p : Path) (h : Fin 32) (s : State) : Res :=
  .next (s.write p (0x100040 + 0x10000 * h) (s.hpWord h (s.get (F.HP_CTRL_EN h)) + 2) 15)

/-- MP_LINK_UP (R188, R189). -/
def execMpLinkUp (m : Fin 16) (rate : Fin 8) (width : Fin 16) (caps : LinkCaps) (dev : MpDevice) (s : State) : Res :=
  .next (if s.linkable (32 + m) then s.mpUp m rate width caps dev else s)

/-- MP_LINK_DOWN (R161, R193). -/
def execMpLinkDown (m : Fin 16) (s : State) : Res := .next (s.mpDown m)

/-- MP_RETRAIN (R200): MP_CTRL is written with RETRAIN. -/
def execMpRetrain (p : Path) (m : Fin 16) (s : State) : Res :=
  .next (s.write p (0x300040 + 0x10000 * m) (8192 * s.get (F.MP_CTRL_L1_EN m) + 4096 * s.get (F.MP_CTRL_L0P_EN m) +
    256 * s.get (F.MP_CTRL_MAX_WIDTH m) + 16 * s.get (F.MP_CTRL_MAX_RATE m) + 4 + s.get (F.MP_CTRL_MODE m)) 15)

/-- LTR_MESSAGE (R195); the partner's ASPM enable, which R195 asks for beside it, comes the same way on a link that is up (log entry 96). -/
def execLtrMessage (port : Fin 48) (value : PartnerSays) (s : State) : Res :=
  let f := if port.val < 32 then F.HP_LTR_VALUE port else F.MP_LTR_VALUE (port - 32)
  .next (match value with
    | .ltr v => (s.set f v.toNat).ltr port v.toNat (s.get f != v.toNat)
    | .aspm on => if s.portUp port then (s.setPartner port { s.partner port with aspm := on }).selectState port else s)

/-- LINK_STATE_EXIT (R129, R196). -/
def execLinkStateExit (port : Fin 64) (s : State) : Res :=
  .next (if port.val < 48 then s.exitLink port else s.dockExit (port - 48))

/-- DLAT_MEAS_UPDATE (R187): the round trip of a port, and DLAT_MEAS from its egress stage and half of it. -/
def execDlatMeasUpdate (port : Fin 48) (rtt : BitVec 16) (s : State) : Res :=
  let up := s.get (if port.val < 32 then F.HP_STAT_LINK port else F.MP_STAT_LINK (port - 32)) == 2
  let egress := if port.val < 32 then 16 else 14
  let rate := s.get (if port.val < 32 then F.HP_STAT_RATE port else F.MP_STAT_RATE (port - 32))
  let width := s.get (if port.val < 32 then F.HP_STAT_WIDTH port else F.MP_STAT_WIDTH (port - 32))
  let stage := egress + (if rate = 7 then 0 else 6) + (if rate < 6 then flitNs rate width else 0)
  let s1 := s.set (if port.val < 32 then F.HP_STAT2_RTT port else F.MP_RTT_NS (port - 32)) rtt.toNat
  .next (if up then (s1.set (F.DLAT_MEAS_NS port) (stage + rtt.toNat / 2)).selectState port else s)

/-! ### Bindings (R190-R193) -/

/-- BIND (R190-R192). -/
def execBind (h : Fin 32) (seq : Word) (host vdsp src : BitVec 8) (id : BitVec 16) (poolBase poolSize poolDev : Word) (s : State) : Res :=
  .next (if s.runs h seq.toNat 0x0100 then
    s.bindStart ⟨h, seq.toNat, host.toNat, vdsp.toNat, src.toNat, id.toNat, poolBase.toNat, poolSize.toNat, poolDev.toNat⟩
  else s)

/-- UNBIND (R190, R192, R193). -/
def execUnbind (h : Fin 32) (seq : Word) (host vdsp slot : BitVec 8) (gen : BitVec 4) (force : Bool) (s : State) : Res :=
  .next (if s.runs h seq.toNat 0x0101 then s.unbind h seq.toNat host.toNat vdsp.toNat slot.toNat gen.toNat force else s)

/-- POWER_CONTROLLER_OFF (R192): the host writes Power Controller Control of a vDSP to off. -/
def execPowerControllerOff (h : Fin 32) (d : Fin 16) (s : State) : Res :=
  .next (if s.get (F.VDSP_STAT_STATE h d) = 2 then s.removeFn h d else s)

/-- UNBIND_GRACE (R192): UNBIND_GRACE ms have passed. -/
def execUnbindGrace (h : Fin 32) (d : Fin 16) (s : State) : Res :=
  .next (if s.get (F.VDSP_STAT_STATE h d) = 2 then s.removeFn h d else s)

/-! ### Late write errors and fences (R197, R198) -/

/-- WRITE_FENCE (R198). -/
def execWriteFence (h : Fin 32) (seq : Word) (init : BitVec 16) (target : BitVec 8) (s : State) : Res :=
  .next (if s.runs h seq.toNat 0x0102 then s.writeFence h seq.toNat init.toNat target.toNat else s)

/-- FENCE_COMPLETE (R198). -/
def execFenceComplete (h : Fin 32) (seq : Word) (s : State) : Res :=
  .next (match s.port.fences.find? (fun f => f.host == h.val && f.seq == seq.toNat) with
    | none => s
    | some f => if s.fenceWaits f then s else s.fenceDone f)

/-- TARGET_ERROR (R197): a target reports an uncorrectable error whose header log names a write, whether it has been delivered
or not. -/
def execTargetError (init : BitVec 9) (seq : Word) (target : TargetLog) (s : State) : Res :=
  let s1 := (s.mapPool (fun p => { p with writes := p.writes.map (fun x =>
    if x.src = some (init.toNat, seq.toNat) ∧ 32 + x.mport = target.port.val then { x with src := none } else x) })).mapPort
      (fun p => { p with errLog := tset p.errLog target.port target.span })
  .next (s1.dropWrite init.toNat seq.toNat target.port 0x25 target.span.len.toNat target.span.addr.toNat)

/-- HOST_FUNCTION_REQUEST (R184, R193, R197): a host's request to a bound function goes on with its IDs rewritten; a posted write takes
an ingress sequence number, and is delivered once the function's link acknowledges it. -/
def execHostFunctionRequest (h : Fin 32) (d : Fin 16) (tag : BitVec 16) (posted : Bool) (st : FnReq) (s : State) : Res :=
  .next (if s.get (F.VDSP_STAT_STATE h d) = 1 ∨ s.get (F.VDSP_STAT_STATE h d) = 2 then s.fnReq h d tag.toNat posted st else s)

end Sys2Proof.Machine
end

