-- ==== Sys2Proof/Machine/PowerCmd.lean ====
section
/-! DEFINITION. The commands of chapter 18: domains and their transitions, the regulator and wake sources, supplies, thermal protection, the
clock unit, starts and the firmware image. -/

namespace Sys2Proof.Machine

/-! ### Domains (R401-R405) -/

/-- DOMAIN_REQUEST (R401): a write of a page's PAGE_CTRL with EN as it stands, or of DOM_CTRL. -/
def execDomainRequest (p : Path) (page : Option (BitVec 14)) (req : BitVec 2) (s : State) : Res :=
  .next (match page with
    | some g => s.write p (g.toNat * 4096 + 8) (2 * req.toNat + s.get (hEn (g.toNat * 4096))) 15
    | none => s.write p 0x1100044 req.toNat 15)

/-- DOMAIN_TRANSITION (R401, R402): a deferral clears and the transition starts, or a transition completes. -/
def execDomainTransition (d : Fin 232) (done : Bool) (s : State) : Res := .next (if done then s.domDone d else s.domUndefer d)

/-- DOMAIN_TRANSITION_TIMEOUT (R403). -/
def execDomainTransitionTimeout (d : Fin 232) (s : State) : Res := .next (s.domTimeout d)

/-- VAT_WAKE (R405): VAT is in RET, and a cell it holds is due within 20 µs. -/
def execVatWake (s : State) : Res :=
  .next (if s.domState 9 == 1 && s.sw.cells.any (fun c => decide (c.part = .hold) && (match c.tag with
      | .time t => decide (t ≤ s.now + 20000)
      | _ => false)) then s.vatWakes else s)

/-! ### The regulator and wake (R406, R407) -/

/-- WAKE_SOURCE (R406). -/
def execWakeSource (src : Fin 6) (s : State) : Res := .next (s.wakeBy src)

/-- WAKE_TIME (R406): hub time has reached WAKE_TIME. -/
def execWakeTime (s : State) : Res :=
  let t := s.get64 F.WAKE_TIME_LO_NS F.WAKE_TIME_HI_NS
  .next (if t ≠ 2 ^ 64 - 1 ∧ t ≤ s.now then s.wakeBy 1 else s)

/-- AON_BROWNOUT (R407). -/
def execAonBrownout (s : State) : Res := .next (s.coldStart 2 false)

/-! ### Supplies and heat (R408-R411) -/

/-- WARN_TRIP (R409). -/
def execWarnTrip (rail : Fin 6) (mv : BitVec 16) (s : State) : Res := .next ((s.railSample rail mv.toNat).warn rail)

/-- RIDE_THROUGH_END (R409). -/
def execRideThroughEnd (s : State) : Res := .next s.rtEnd

/-- RESET_TRIP (R410). -/
def execResetTrip (rail : Fin 6) (mv : BitVec 16) (s : State) : Res := .next ((s.railSample rail mv.toNat).railReset rail)

/-- RESET_RELEASE (R410). -/
def execResetRelease (rail : Fin 6) (s : State) : Res := .next (s.railRelease rail)

/-- VBAT_LOW (R410): a sample of VBAT; EV0014 as it falls below 2.2 V. -/
def execVbatLow (mv : BitVec 16) (s : State) : Res :=
  let was := s.get F.VBAT_MV_MV
  .next ((s.set F.VBAT_MV_MV mv.toNat).raiseIf (decide (mv.toNat < 2200) && (was == 0 || decide (2200 ≤ was))) 14)

/-- THERMAL_TRIP (R411). -/
def execThermalTrip (sensor : Fin 64) (s : State) : Res := .next (s.thermalTrip sensor)

/-- THERMAL_RESTART (R411): a sensor reads below TRIP_DEGC - 15 °C after a trip. -/
def execThermalRestart (s : State) : Res := .next s.cooled

/-- HOT_WARNING (R411): a sensor crosses TRIP_DEGC - 5 °C. -/
def execHotWarning (_sensor : Fin 64) (s : State) : Res := .next (s.raise 30)

/-! ### The clock unit (R413-R415) -/

/-- CLOCK_PLL_LOCK_LOSS (R413). -/
def execClockPllLockLoss (pll : Fin 2) (s : State) : Res :=
  .next (if s.get (clkPllF pll) = 0 ∧ s.on F.POWER3_CLK_STAT_ON_PLL then
    (let r := s.clkLost pll
     if r.1 then r.2 else (r.2.set F.POWER3_CLK_STAT_ON_PLL 0).warmStart 8)
  else s)

/-- XTAL_LOST (R414). -/
def execXtalLost (s : State) : Res := .next (if s.pwr.xtalLost then s else s.xtalGone)

/-- XTAL_HOLD_EXPIRY (R414): the crystal has not returned within XTAL_HOLD_MS. -/
def execXtalHoldExpiry (s : State) : Res := .next (if s.pwr.xtalLost then s.warmStart 8 else s)

/-- XTAL_RETURN (R414). -/
def execXtalReturn (s : State) : Res :=
  .next (if s.pwr.xtalLost then ((s.mapPwr (fun p => { p with xtalLost := false })).set F.POWER3_CLK_STAT_XTAL_OK 1).raise 27 else s)

/-- X32K_LOST (R414). -/
def execX32kLost (s : State) : Res :=
  .next (((s.mapPwr (fun p => { p with x32kLost := true })).set F.POWER3_CLK_STAT_X32K_OK 0).raise 28)

/-- TO_PLL (R415): a write of CLK_CMD. -/
def execToPll (p : Path) (s : State) : Res := .next (s.write p 0x1103044 1 15)

/-- PLL_SWITCH_DONE (R415). -/
def execPllSwitchDone (s : State) : Res := .next (if s.canSwitch then s.onPll else s)

/-- CLK_SWAP (R421): a write of CLK_CMD. -/
def execClkSwap (p : Path) (s : State) : Res := .next (s.write p 0x1103044 2 15)

/-! ### Starts (R416-R420) -/

/-- PORST_N (R416). -/
def execPorstN (s : State) : Res := .next s.porst

/-- WARM_N (R416). -/
def execWarmN (s : State) : Res := .next s.warmPin

/-- RST_CMD_WARM (R416, R420): a write of RST_CMD. -/
def execRstCmdWarm (p : Path) (key : BitVec 8) (s : State) : Res := .next (s.write p 0x50 (key.toNat * 256 + 1) 15)

/-- IMAGE_VERIFIED (R418): the slot being loaded has been read and checked. -/
def execImageVerified (img : FwImage) (s : State) : Res := .next (if s.imageOpen then s.imageVerified img else s)

/-- BOOT_WATCHDOG (R419): PHASE has not reached DONE in time. -/
def execBootWatchdog (s : State) : Res :=
  let ph := s.get F.START_STAT_PHASE
  let slot := if ph ≤ 2 then s.slotNext else s.get F.START_STAT_SLOT
  .next (if ph = 5 ∨ ph = 6 ∨ s.isDark then s else s.warmStart 7 0 (some (1 - slot)))

/-- START_DONE (R419). -/
def execStartDone (us : Word) (s : State) : Res :=
  .next (if s.get F.START_STAT_PHASE = 4 then (s.sets [(F.START_STAT_PHASE, 5), (F.START_US_US, us.toNat)]).raise 0 else s)

end Sys2Proof.Machine
end

