-- ==== Sys2Proof/Machine/RepairCmd.lean ====
section
/-! DEFINITION. The commands of chapter 20: the orderly shutdown and its test, single test programs, and voltage scaling. -/

namespace Sys2Proof.Machine

/-- RST_CMD_SHUTDOWN (R447): a write of RST_CMD. -/
def execRstCmdShutdown (p : Path) (key : BitVec 8) (s : State) : Res := .next (s.write p 0x50 (key.toNat * 256 + 2) 15)

/-- QUIESCE_DONE (R447). -/
def execQuiesceDone (s : State) : Res := .next (if s.rep.run && s.get F.BIST_STAT_PHASE == 1 then s.quiesced else s)

/-- BIST_PROGRAM_DONE (R449): the running program's elements, as they were found. -/
def execBistProgramDone (elems : List ElemResult) (s : State) : Res :=
  .next (if (s.rep.run || s.rep.alone) && s.get F.BIST_STAT_PHASE == 2 then s.programDone elems else s)

/-- RECORD (R450, R451). -/
def execRecord (s : State) : Res := .next (if s.rep.run && s.get F.BIST_STAT_PHASE == 3 then s.recorded else s)

/-- SHUTDOWN_DONE (R447). -/
def execShutdownDone (ms : BitVec 16) (s : State) : Res :=
  .next (if s.rep.run && s.get F.BIST_STAT_PHASE == 3 then s.shutdownDone ms.toNat else s)

/-- BIST_GO (R454): a write of BIST_CMD. -/
def execBistGo (p : Path) (prog : Fin 16) (s : State) : Res := .next (s.write p 0x121004C (256 + prog.val) 15)

/-- AVS_MEASURE (R453): the slowdown that each monitor reports. -/
def execAvsMeasure (ppm : List (BitVec 20)) (s : State) : Res :=
  .next (if s.isDark then s else s.avsMeasure ((ppm.take 32).map BitVec.toNat))

/-- AVS_STEP (R471). -/
def execAvsStep (s : State) : Res := .next s.avsStep

/-- AVS_ACK (R471). -/
def execAvsAck (s : State) : Res := .next s.avsAck

end Sys2Proof.Machine
end

