-- ==== Sys2Proof/Machine/ScanCmd.lean ====
section
/-! DEFINITION. The commands of chapter 14: triggers, frame starts, lines, fetch errors, and the writes that start and stop an
engine. -/

namespace Sys2Proof.Machine

def soAddr (n off : Nat) : Nat := 0x800000 + 0x1000 * n + off

/-- FRAME_TRIGGER (R333, R334). -/
def execFrameTrigger (n : Fin 8) (s : State) : Res := .next (if s.soDue n then (s.soTrigger n).soNext n else s)

/-- The armed AT_FRAME commits that name a frame of an engine are met (R33). -/
def State.atFrame (s : State) (n : Nat) : State :=
  (List.range 8).foldl (fun s i =>
    let x := s.slot i
    if x.state = .armed ∧ x.cond = 3 ∧ x.so = n ∧ (x.param % 2 ^ 32 = 0xFFFFFFFF ∨ x.param % 2 ^ 32 = s.get (F.SO_FRAME_NUMBER n)) then s.markMet i false
    else s) s

/-- FRAME_START (R332-R334, R339-R342, R345): a trigger is due and the last line of the frame before has entered the core. -/
def execFrameStart (n : Fin 8) (s : State) : Res :=
  let s0 := s.soDrain ((s.eng n).outQ.length + 1) n
  .next (if s0.on (F.SO_CTRL_EN n) && (s0.eng n).due.isSome && !s0.on (F.SO_STAT_SENDING n) && (s0.eng n).outQ.isEmpty then
    (((s0.soBegin n).atFrame n).settled).soStart n
  else s0)

/-- LINE_HANDOVER (R335-R337, R341, R343). -/
def execLineHandover (n : Fin 8) (s : State) : Res :=
  .next (if s.on (F.SO_STAT_SENDING n) && decide ((s.eng n).line < s.eff (F.SO_SIZE_HEIGHT n)) then s.soLine n else s)

/-- FETCH_ERROR (R344): a fetch of a layer that is under way is answered with poison, or refused by the guard. -/
def execFetchError (n : Fin 8) (l : Fin 4) (guard : Bool) (s : State) : Res :=
  .next (if (s.eng n).buf.any (fun f => f.layer == l.val && f.data.isNone) then s.scanError n l (if guard then 2 else 1) else s)

/-- SO_CTRL with EN as given, its other fields as last written. -/
def State.soCtrl (s : State) (n : Nat) (en : Bool) : Nat :=
  2 ^ 24 * s.get (F.SO_CTRL_LOWREF_EN n) + 2 ^ 22 * s.get (F.SO_CTRL_SYNC_SEL n) + 2 ^ 20 * s.get (F.SO_CTRL_SRC n) +
    2 ^ 16 * s.get (F.SO_CTRL_FORMAT n) + 2 ^ 12 * s.get (F.SO_CTRL_SINK n) + 2 ^ 8 * s.get (F.SO_CTRL_PORT n) + b2n en

/-- SO_ENABLE (R333, R346). -/
def execSoEnable (p : Path) (n : Fin 8) (s : State) : Res := .next (s.write p (soAddr n 0x40) (s.soCtrl n true) 15)

/-- SO_DISABLE (R346). -/
def execSoDisable (p : Path) (n : Fin 8) (s : State) : Res := .next (s.write p (soAddr n 0x40) (s.soCtrl n false) 15)

/-- DIRTY (R341, R342). -/
def execDirty (p : Path) (n : Fin 8) (s : State) : Res := .next (s.write p (soAddr n 0x68) 1 15)

end Sys2Proof.Machine
end

