-- ==== Sys2Proof/Machine/SchedCmd.lean ====
section
/-! DEFINITION. The commands of chapters 4 and 5: cells, planes, banks, the hold pool, shapers, the wheels, the governor. -/

namespace Sys2Proof.Machine

/-! ### The churn and the streams (R89-R97) -/

/-- CHURN_MATCH (R89-R91); what the bridge could not send before is offered first, and sleeping dock links that cells wait for leave their
state (R129). -/
def execChurnMatch (s : State) : Res := .next s.sigDrain.wakeDocks.churn

/-- The key of a stream operand. -/
def streamOf (st : StreamId) : Nat := streamKey st.inp st.out st.plane

/-- A message has crossed the core whole (R9): a frame goes through the forwarder or out at a door, and a TLP to its host. A tunnel took it cell by
cell. -/
def State.coreGoes (s : State) (m : CoreMsg) : State :=
  match m.goal with
  | .forward p => (s.fwdGo p m.bytes).sigDrain
  | .port p => if p < 512 then s else s.emit (.door (p - 512) (s.doorPair (p - 512) m.bytes) m.bytes)
  | .tunnel => s
  | .host n i => s.emit (.message n 1 i m.bytes)

/-- A cell of a message has been accepted at its output. -/
def State.coreArrived (s : State) (c : Cell) : State :=
  match (s.sw.msgs.map (coreCross c.id false)).find? coreDone with
  | none => s.setMsgs (s.sw.msgs.map (coreCross c.id false))
  | some m =>
    let s1 := s.setMsgs ((s.sw.msgs.map (coreCross c.id false)).filter (fun m => !coreDone m))
    if m.lost then s1 else s1.coreGoes m

/-- A cell reaches its output (R96, R97). -/
def State.atOutput (s : State) (c : Cell) (crcOk : Bool) : State :=
  let k := cellStream c
  let st := s.stream k
  let nak (s : State) : State := s.emit (.nak c.inp c.dst c.plane st.expect)
  if !crcOk then nak (s.crcFailure (s.phys c.plane))
  else if c.seq = st.expect then
    let s1 := ((s.mapCell c.id (fun x => { x with phase := .accepted })).setStream k { st with expect := (st.expect + 1) % 65536 }).outUsed c.dst
    if c.spoilt then s1.endCell c else (((s1.emit (.cellOut c.id c.dst c.late)).toDock c).sigArrived c).coreArrived c
  else if (st.expect + 65536 - c.seq) % 65536 < 32768 then s.mapCell c.id (fun x => { x with phase := .accepted })
  else nak s

/-- CELL_AT_OUTPUT (R96, R97). -/
def execCellAtOutput (id : Nat) (crcOk : Bool) (s : State) : Res :=
  .next (match s.cell? id with
    | some c => if c.phase = .crossing then s.atOutput c crcOk else s
    | none => s)

/-- Does a cumulative acknowledgement of `seq` cover a cell (R96)? -/
def covers (seq : Nat) (c : Cell) : Bool := decide ((seq + 65536 - c.seq) % 65536 < 32768)

/-- An acknowledged cell is freed and counted at its output (R94, R108). -/
def State.acked (s : State) (c : Cell) : State := (s.free c).wrap (F.CELLS_OUT_COUNT c.dst)

/-- The cells of a stream that an acknowledgement frees (R94, R96): those it covers that the output has accepted. -/
def State.ackedBy (s : State) (st : StreamId) (seq : Nat) : List Cell :=
  (s.unacked (streamOf st)).filter (fun c => covers seq c && decide (c.phase = .accepted))

/-- CUMULATIVE_ACK (R94, R96). -/
def execCumulativeAck (st : StreamId) (seq : BitVec 16) (s : State) : Res := .next ((s.ackedBy st seq.toNat).foldl State.acked s)

/-- STREAM_NAK (R97). -/
def execStreamNak (st : StreamId) (s : State) : Res := .next (s.replayJudged (streamOf st))

/-- Has no acknowledgement covered the oldest cell of a stream within ACK_TIMEOUT core cycles, of 0.5 ns, since it began to cross (R97)? -/
def State.ackOverdue (s : State) (k : Nat) : Bool :=
  match s.unacked k with
  | [] => false
  | c :: _ => decide (2 * c.sentAt + s.get F.ACK_TIMEOUT_CYCLES ≤ 2 * s.now)

/-- ACK_TIMEOUT (R97). -/
def execAckTimeout (st : StreamId) (s : State) : Res :=
  .next (if s.ackOverdue (streamOf st) then s.replayJudged (streamOf st) else s)

/-! ### Planes (R87, R98-R104) -/

/-- CHECK_CELL (R87, R98): an input and an output that have been idle on a plane for 256 cell times exchange a check cell; one that fails its CRC
counts against its plane. A failed plane carries none. -/
def execCheckCell (plane : Fin 3) (inp out : Fin 72) (crcOk : Bool) (s : State) : Res :=
  .next (if s.get (planeStat plane) = 2 ∨ s.pairIdle plane inp out = false then s
  else if crcOk then s.pairUsed plane inp out else (s.pairUsed plane inp out).crcFailure plane)

/-- PLANE_FAIL (R98, R102-R104). -/
def execPlaneFail (plane : Fin 3) (s : State) : Res := .next (s.planeFail plane)

/-- PLANE_FORCE (R98): PLANE_CMD is written with FORCE. -/
def execPlaneForce (p : Path) (plane : Fin 3) (s : State) : Res :=
  let v := 16 + plane.val
  .next (s.writeVia p 0x500058 v 15 (fun s => (s.storeAt (pathCode p) 0x500058 v).planeCmd v))

/-- Has no stream of these logical planes a replay that waits or crosses (R102)? -/
def State.replaysDone (s : State) (lps : List Nat) : Bool :=
  !s.sw.cells.any (fun c => c.replay && lps.contains c.plane && decide (c.phase = .waiting ∨ c.phase = .crossing))

/-- FAILOVER_COMPLETE (R102): the failover that began first completes, once its replays have. FAILOVER_COUNT wraps: its row says neither that
it does nor that it saturates (DESIGN CHOICE, log entry 54). -/
def execFailoverComplete (s : State) : Res :=
  .next (match s.sw.fails with
  | [] => s
  | f :: l =>
    if s.replaysDone f.2 then
      let s1 := ((s.put F.PLANE_STAT_FAILOVER (!l.isEmpty)).set F.FAILOVER_LAST_NS (s.now - f.1)).wrap F.FAILOVER_COUNT_COUNT
      ({ s1 with sw := { s1.sw with fails := l } }).raise 2817
    else s)

/-! ### Vat banks (R105, R106) -/

/-- The cells with units in the bank wait for its copy (R105): into `spare`, or `bank` under its own number where the other banks take them (R106). -/
def State.setCopy (s : State) (spare bank : Nat) (cells : List Nat) : State :=
  { s with sw := { s.sw with copying := tset s.sw.copying spare bank, bankCells := tset s.sw.bankCells spare cells } }

/-- The copy into a bank has ended (R105). -/
def State.endCopy (s : State) (spare : Nat) : State :=
  { s with sw := { s.sw with copying := tdel s.sw.copying spare, bankCells := tdel s.sw.bankCells spare } }

/-- The lowest-numbered spare bank. -/
def State.spareBank (s : State) : Option Nat := (List.range 50).find? (fun x => s.bankState x == 1)

/-- No spare bank is left (R106): the shared partition shrinks by a bank; units that are not free are owed until they are. -/
def State.shrink (s : State) : State :=
  let s1 := s.sub F.VAT_FREE_UNITS 16384
  ({ s1 with sw := { s1.sw with shared := s1.sw.shared - 16384, vatDebt := s1.sw.vatDebt + (16384 - s.get F.VAT_FREE_UNITS) } }).raise 2826

/-- A cell on its way into a tunnel cannot be rebuilt: its units are free (R94), and its place in its stream is kept for the DATA_BAD flit that goes
out in place of its DATA flit (R106, R233). -/
def State.spoil (s : State) (c : Cell) : State :=
  (s.free c).setCells (s.sw.cells.map (fun x => if x.id = c.id then { x with units := 0, spoilt := true } else x))

/-- A cell that cannot be rebuilt is lost (R106): counted, reported, and marked bad by its output's link. -/
def State.loseCell (s : State) (id : Nat) : State :=
  match s.cell? id with
  | none => s
  | some c =>
    ((if 48 ≤ c.dst ∧ c.dst < 64 ∧ c.keyType = 2 ∧ (c.phase = .waiting ∨ c.phase = .crossing) then s.spoil c else (s.endCell c).dropCell c).sat
      F.UNCORR_COUNT_COUNT).raise 2830

/-- BANK_RETIRE_LOG.SUB of a fault. -/
def troubleSub : BankTrouble → Nat
  | .word k => k
  | _ => 15

/-- A bank is retired (R105, R106): the lowest spare, or the other banks, take its live units. `bad` are the cells whose read returned bad data,
`lost` those that cannot be rebuilt. A bank that is itself still being copied into hands its copy on to the next. The retirement of a spare
raises EV2824 alone, there being nothing to copy (DESIGN CHOICE, log entry 55). -/
def State.retireBank (s : State) (b : Nat) (f : BankFault) (bad lost : List Nat) : State :=
  let log (s : State) (spare : Nat) : State :=
    s.sets [(F.BANK_RETIRE_LOG_BANK, b), (F.BANK_RETIRE_LOG_SUB, troubleSub f.why), (F.BANK_RETIRE_LOG_SPARE, spare)]
  let was := s.bankState b
  let cells := f.cells ++ tget [] s.sw.bankCells b
  let s1 := (((s.setBank b 2).raise 2824).softRecord 4 b 0 (if was = 1 then 0xFF else s.spareBank.getD 0xFF)).endCopy b
  let s2 := if was = 1 then log s1 0x3F
    else match s.spareBank with
      | some x => log ((s1.setBank x 3).setCopy x b cells) x
      | none => log (s1.shrink.setCopy b b cells) 0x3F
  let s3 := lost.foldl State.loseCell s2
  ((s3.sw.cells.filter (fun c => bad.contains c.id)).map cellStream).eraseDups.foldl State.replayJudged s3

/-- Does a fault retire its bank (R105)? -/
def State.retires (s : State) (f : BankFault) : Bool :=
  match f.why with
  | .corrected n => decide (s.get F.BANK_CE_LIMIT_COUNT < n)
  | _ => true

/-- BANK_RETIRE (R105, R106). -/
def execBankRetire (bank : Fin 50) (fault : BankFault) (bad lost : List Nat) (s : State) : Res :=
  .next (if s.bankState bank = 2 ∨ s.retires fault = false then s else s.retireBank bank fault bad lost)

/-- BANK_COPY_COMPLETE (R105): the spare takes over the retired bank's units, whose cells go on. -/
def execBankCopyComplete (bank : Fin 50) (s : State) : Res :=
  .next (match s.sw.copying.find? (fun e => e.2 == bank.val) with
    | none => s
    | some e => (if e.1 = bank.val then s.endCopy e.1 else (s.endCopy e.1).setBank e.1 0).raise 2825)

/-! ### The hold pool (R95) -/

/-- HOLD_RELEASE (R95, R117, R120, R121): what is due before the cell goes before it. -/
def execHoldRelease (id : Nat) (s : State) : Res :=
  .next (match s.cell? id with
    | some c => if decide (c.phase = .held) && s.heldDue c then s.releaseDue id else s
    | none => s)

/-- A held cell reaches the age limit (R95). -/
def State.expire (s : State) (c : Cell) : State :=
  (((((s.sigReturn c.id .holdExpired).freeHeld c).sat F.HOLD_EXPIRED_COUNT_COUNT).raise 2829).emit (.cellReturned c.id c.src 2)).sigDrain

/-- Has a held cell reached the age limit (R95), by the hub clock? -/
def State.aged (s : State) (c : Cell) : Bool := decide (c.arrival + 1000000 * s.get F.HOLD_AGE_LIMIT_MS ≤ s.now)

/-- HOLD_AGE_EXPIRY (R95): a cell whose release falls in the same cycle is released. -/
def execHoldAgeExpiry (id : Nat) (s : State) : Res :=
  .next (match s.cell? id with
    | some c => if decide (c.phase = .held) && s.aged c then (if s.heldDue c then s.releaseDue id else s.expire c) else s
    | none => s)

/-- HOLD_PEAK_RESET (R107). -/
def execHoldPeakReset (p : Path) (s : State) : Res :=
  .next (s.writeVia p 0x501070 (2 ^ 31) 15 (fun s => (s.bump 0x501000).holdPeakReset))

/-- HT_RESULT_READ (R109). -/
def execHtResultRead (p : Path) (s : State) : Res := .next (s.readOut p 0x50304C)

/-! ### Shapers and wheels (R114-R124) -/

/-- SHAPER_REFILL (R114, R117): the fine slot of an enabled shaper's refill time has come. -/
def execShaperRefill (sh : Fin 4096) (s : State) : Res :=
  .next (if s.on (F.SH_CTRL_EN sh) && decide (fineSlot ((tget 0 s.sw.shNext sh : Nat) : Int) ≤ s.now) then s.refill sh else s)

/-- SHAPER_ENABLE (R115): SH_CTRL of the shaper the path has selected. -/
def execShaperEnable (p : Path) (value : Word) (s : State) : Res :=
  let sh := s.get (F.SH_SEL_SH (pathCode p))
  let was := s.on (F.SH_CTRL_EN sh)
  .next (s.writeVia p 0x42044 value.toNat 15 (fun s =>
    (s.storeAt (pathCode p) 0x42044 value.toNat).shaperEn sh was (hasBit value.toNat 31)))

/-- A time-tagged held cell when a coarse slot becomes current (R117, R120): the instant is fixed as it enters the fine
wheel; an overflow item moves at a revolution of the coarse wheel. -/
def State.coarseCell (s : State) (rev : Bool) (c : Cell) : State :=
  match c.wheel with
  | .coarse t => if t / 4096 ≤ (s.now : Int) / 4096 then s.placeHeld c.id else s
  | .overflow t => if rev && decide (t - s.now < 4194304) then s.mapCell c.id (fun x => { x with wheel := .coarse t }) else s
  | _ => s

/-- The wheel place of an armed commit when a coarse slot becomes current (R117). -/
def coarseWheel (now : Nat) (rev : Bool) (w : Wheel) : Wheel :=
  match w with
  | .coarse t => if t / 4096 ≤ (now : Int) / 4096 then .fine t else w
  | .overflow t => if rev && decide (t - now < 4194304) then .coarse t else w
  | _ => w

/-- COARSE_SLOT (R117). -/
def execCoarseSlot (s : State) : Res :=
  let rev := s.now / 4096 % 1024 == 0
  let held := s.sw.cells.filter (fun c => decide (c.phase = .held))
  let s1 := held.foldl (fun s c => s.coarseCell rev c) s
  let s2 := (s1.armedSlots 1).foldl (fun s i => s.setSlot i { s.slot i with wheel := coarseWheel s.now rev (s.slot i).wheel }) s1
  let keep := fun sh => decide (s2.now + 4194304 ≤ tget 0 s2.sw.shNext sh)
  .next (if rev then { s2 with sw := { s2.sw with shOvf := s2.sw.shOvf.filter keep } } else s2)

/-- AXW_WIDTH_WRITE (R122). -/
def execAxwWidthWrite (p : Path) (a : Fin 8) (width : Word) (s : State) : Res :=
  let addr := 0x40060 + 4 * a.val
  .next (s.writeVia p addr width.toNat 15 (fun s => (s.storeAt (pathCode p) addr width.toNat).refileAxis a))

/-- WHEEL_PEAK_RESET (R132). -/
def execWheelPeakReset (p : Path) (s : State) : Res :=
  .next (s.writeVia p 0x40054 (2 ^ 31) 15 (fun s => (s.bump 0x40000).wheelPeakReset))

/-- AT_AXIS_FINE_SLOT (R121): the fine slot of an armed AT_AXIS commit's predicted time has come. -/
def execAtAxisFineSlot (slot : Fin 8) (s : State) : Res :=
  .next (if (s.slot slot).cond = 2 then s.instantMet slot else s)

/-! ### Energy (R125-R131) -/

/-- GOVERNOR_WINDOW (R125-R127, R328). -/
def execGovernorWindow (g : GovSample) (s : State) : Res :=
  let s1 := s.latchWindow
  .next (if s1.domState 4 = 0 then s1.govWindow g else s1)

/-- Has an output held no cell, and has none crossed, for IDLE_HOLD ns (R129)? -/
def State.outIdle (s : State) (p : Nat) : Bool :=
  !s.sw.cells.any (fun c => c.dst == p && decide (c.phase = .waiting ∨ c.phase = .crossing)) &&
  decide (tget 0 s.sw.outAt p + s.get (F.IDLE_HOLD_NS p) ≤ s.now)

/-- LINK_IDLE (R129): an output has held no cell for IDLE_HOLD ns. -/
def execLinkIdle (port : Fin 64) (s : State) : Res :=
  .next (if s.on (F.LSTATE_IDLE port) || !s.outIdle port then s else (s.set (F.LSTATE_IDLE port) 1).selectState port)

end Sys2Proof.Machine
end

