-- ==== Sys2Proof/Machine/TimeCmd.lean ====
section
/-! DEFINITION. The commands of chapter 3: hub time, PTP and PTM, belt axes, triggers, captures and sync inputs. -/

namespace Sys2Proof.Machine

/-- STEP_GO (R53-R56, R333). -/
def execStepGo (p : Path) (s : State) : Res :=
  .next (s.writeVia p 0x1005C 1 15 (fun s => ((s.bump 0x10000).stepGo.stepScan s.stepOffset).settled))

/-- SLEW_COMPLETE (R54): the whole of the slew has been absorbed. -/
def execSlewComplete (s : State) : Res :=
  .next (if s.on F.TIME0_CLK_STAT_SLEWING && s.time.clk.slew == 0 then s.showSlew.raise 3075 else s)

/-- PTP_MESSAGE (R57-R59): a message of the hub's domain; one of another domain is not the instance's. -/
def execPtpMessage (port : Fin 48) (m : PtpIn) (s : State) : Res :=
  .next (if s.ptpOn port && m.dom.toNat == s.get F.PTP_CTRL_DOMAIN then s.ptpMsg port m.off.toNat m.msg else s)

/-- PTP_MESSAGE_INTERVAL (R57). -/
def execPtpMessageInterval (port : Fin 48) (m : PtpOut) (s : State) : Res :=
  .next (if s.ptpOn port then s.ptpSend port m.kind m.off.toNat else s)

/-- A PTM dialogue with a host's PTM Root (R59, R61): the hub asks, and a pair of host time and hub time is recorded. -/
def State.ptmHost (s : State) (h hostTime : Nat) : State :=
  if s.on (F.PTM_CTRL_EN h) && s.get (F.HP_STAT_LINK h) == 2 then
    (((s.emit (.ptmReq h)).setI64 (F.PTM_HUB_LO_NS h) (F.PTM_HUB_HI_NS h) (s.stampIn h 0)).set64
      (F.PTM_HOST_LO_NS h) (F.PTM_HOST_HI_NS h) hostTime).raise (260 + 32 * h)
  else s

/-- PTM_DIALOGUE (R59, R61): with a host's root; or a device below a root port asks the hub, which answers with its clock (R185). -/
def execPtmDialogue (e : PtmEnd) (hostTime : BitVec 64) (s : State) : Res :=
  .next (match e with
    | .host h => s.ptmHost h hostTime.toNat
    | .device m id => if s.get (F.MP_STAT_LINK m) = 2 ∧ s.eff (F.MP_CTRL_MODE m) = 2 then s.ptmAnswer (32 + m) id.toNat 0 else s)

/-! ### Axes (R63-R73) -/

/-- AX_STAT.ZBA shows the qualified levels of Z, B and A. -/
def State.showLevels (s : State) (a : Nat) : State :=
  let x := s.axis a
  s.set (F.AX_STAT_ZBA a) (4 * b2n x.z + 2 * b2n x.b + b2n x.a)

/-- The levels of A and B that an axis has qualified. -/
def State.setLevels (s : State) (a : Nat) (la lb : Bool) : State :=
  (s.setAxis a { s.axis a with a := la, b := lb, started := true }).showLevels a

/-- Qualified levels of A and B (R63, R64): start levels, an illegal transition, or a transition that the decoding counts. -/
def State.quadrature (s : State) (a : Nat) (la lb : Bool) : State :=
  let x := s.axis a
  let s1 := s.setLevels a la lb
  if !x.started then s1
  else if x.a != la && x.b != lb then (s1.sat (F.ILLEGAL_COUNT_COUNT a)).setUncertain a
  else if (x.a != la || x.b != lb) && decodes (s.get (F.AX_CTRL_DECODE a)) x.a la then
    s1.counted a (if upward x.a la x.b lb != s.on (F.AX_CTRL_INVERT a) then 1 else -1)
  else s1

/-- AXIS_TRANSITION (R63, R64, R73). -/
def execAxisTransition (a : Fin 8) (la lb : Bool) (s : State) : Res :=
  .next (if s.get (F.AX_CTRL_SOURCE a) = 0 then (s.quadrature a la lb).settled else s)

/-- SW_DELTA (R65). -/
def execSwDelta (p : Path) (a : Fin 8) (delta : Word) (s : State) : Res :=
  .next (s.writeVia p (0x1408C + 0x1000 * a.val) delta.toNat 15 (fun s => (s.swDelta a delta.toNat).settled))

/-- A Z pulse (R71, R72). -/
def State.zPulse (s : State) (a : Nat) : State :=
  let mode := s.get (F.AX_CTRL_Z_MODE a)
  let s1 := ((s.set64 (F.Z_COUNT_LO_COUNT a) (F.Z_COUNT_HI_COUNT a) (s.get64 (F.COUNT_LO_COUNT a) (F.COUNT_HI_COUNT a))).set
    (F.AX_STAT_Z_SEEN a) 1).raise (3136 + 8 * a + 1)
  if mode = 3 ∨ (mode = 2 ∧ !(s.axis a).zDone) then
    let s2 := s1.setAxis a { s1.axis a with zDone := true }
    ((s2.loadCount a).set (F.AX_STAT_HOMED a) 1).clearFlags a
  else s1

/-- Z_PULSE (R63, R72): the axis has qualified a level of Z. Its rise is a Z pulse, which Z_MODE 0 ignores; a start level is none. -/
def execZPulse (z : ZLevel) (s : State) : Res :=
  let a := z.axis
  .next (if s.get (F.AX_CTRL_SOURCE a) = 0 then
    (let s1 := (s.setAxis a { s.axis a with z := z.level, zStart := true }).showLevels a
     if z.level && !(s.axis a).z && (s.axis a).zStart && s.get (F.AX_CTRL_Z_MODE a) != 0 then (s1.zPulse a).settled else s1)
  else s)

/-- VEL_UPDATE (R67, R123): the velocity is formed anew and the axis's items are evaluated. -/
def execVelUpdate (a : Fin 8) (s : State) : Res :=
  .next (if s.timeOn && !s.on (F.AX_STAT_STOPPED a) then
    (((s.setI (F.VEL_VEL a) (s.velOf a (s.axis a).hist)).judgeSpeed a).axisEval a).settled
  else s)

/-- AXIS_STOPPED (R67): STOP_TIMEOUT has passed without a counted transition. -/
def execAxisStopped (a : Fin 8) (s : State) : Res :=
  .next (if s.timeOn && !s.on (F.AX_STAT_STOPPED a) && decide ((s.axis a).tc + 1000 * s.get (F.STOP_TIMEOUT_US a) ≤ s.now) then
    (((((s.set (F.VEL_VEL a) 0).set (F.AX_STAT_STOPPED a) 1).set (F.AX_STAT_OVERSPEED a) 0).raise (3136 + 8 * a.val + 2)).axisEval a).settled
  else s)

/-- POSITION_CROSSING (R69): POS has moved, by interpolation, past the position of an item. -/
def execPositionCrossing (a : Fin 8) (s : State) : Res := .next (if s.timeOn then (s.axisEval a).settled else s)

/-- AX_CMD_CLEAR (R71). -/
def execAxCmdClear (p : Path) (a : Fin 8) (s : State) : Res :=
  .next (s.writeVia p (0x14078 + 0x1000 * a.val) 1 15 (fun s => ((s.bump (0x14000 + 0x1000 * a.val)).clearFlags a).settled))

/-- AX_CMD_LOAD (R72). -/
def execAxCmdLoad (p : Path) (a : Fin 8) (s : State) : Res :=
  .next (s.writeVia p (0x14078 + 0x1000 * a.val) 2 15 (fun s => ((s.bump (0x14000 + 0x1000 * a.val)).loadCount a).settled))

/-! ### Triggers (R75-R77) -/

/-- TCTRL is written with a word. -/
def State.writeTctrl (s : State) (p : Path) (n v : Nat) : State :=
  let a := 0x12040 + 32 * n
  s.writeVia p a v 15 (fun s => (s.storeAt (pathCode p) a v).trigCtl s n v)

/-- TCTRL_ARM (R75-R77): the word written, with ARM set. -/
def execTctrlArm (p : Path) (n : Fin 16) (value : Word) (s : State) : Res :=
  .next (s.writeTctrl p n (putBit (putBit value.toNat 11 false) 10 true))

/-- TCTRL_DISARM (R75): the word written, with DISARM set. -/
def execTctrlDisarm (p : Path) (n : Fin 16) (value : Word) (s : State) : Res :=
  .next (s.writeTctrl p n (putBit (putBit value.toNat 10 false) 11 true))

/-- TRIGGER_FIRE (R75, R76): a trigger's fire instant is reached. -/
def execTriggerFire (n : Fin 16) (s : State) : Res :=
  let t := s.trig n
  .next (if s.trigDue n then
    (s.fire n (if s.axisMode n then t.fireAt.getD 0 else trigPoint t t.k) false (t.k + 1)).caught n
  else s)

/-- PULSE_END (R75): the pulse's WIDTH cycles are over. A ONCE mode disarms itself after its pulse. -/
def execPulseEnd (n : Fin 16) (s : State) : Res :=
  .next (if s.on (F.TSTAT_OUTPUT n) && s.trigMode n != 1 && (s.trig n).left == 0 then
    (if (s.trig n).fired then s.disarm n else s).drive n false ((s.now : Int) * 1000 - s.getI (F.PIN_OFS_PS n))
  else s)

/-! ### Captures and sync inputs (R60, R78, R79) -/

/-- An edge that a capture input selects: stamped at its first transition, FILTER cycles before it was qualified, with POS at that instant,
and queued, or dropped and counted (R78). -/
def State.capEdge (s : State) (n : Nat) (level : Bool) : State :=
  let c := s.cap n
  let t := s.before (s.get (F.CAP_CTRL_FILTER n))
  let e : CapEntry := { stamp := s.pinStamp (16 + n) t,
                        pos := if s.on (F.CAP_CTRL_AXIS_EN n) then s.posThen (s.get (F.CAP_CTRL_AXIS n)) t else 0, rising := level }
  if 16 ≤ c.queue.length then ((s.setCap n { c with level := level }).sat (F.CAP_STAT_OVF_COUNT n)).raise (3216 + n)
  else (s.setCap n { c with level := level, queue := c.queue ++ [e] }).raise (3200 + n)

/-- CAPTURE_EDGE (R78): a capture input has qualified a level. -/
def execCaptureEdge (n : Fin 16) (level : Bool) (s : State) : Res :=
  let c := s.cap n
  .next (if s.on (F.CAP_CTRL_EN n) && s.timeOn then
    (if !c.seen then s.setCap n { c with seen := true, level := level }
     else if c.level != level then
       (if edgeSelected (s.get (F.CAP_CTRL_EDGE n)) level then s.capEdge n level else s.setCap n { c with level := level })
     else s)
  else s)

/-- CAP_POP (R78). -/
def execCapPop (p : Path) (n : Fin 16) (s : State) : Res :=
  .next (s.writeVia p (0x13058 + 32 * n.val) 1 15 (fun s => s.capPop n))

/-- A selected edge of a sync input (R79): stamped; the second learns the period; LOST clears. -/
def State.syncEdge (s : State) (m : Nat) (level : Bool) : State :=
  let x := s.sync m
  let t := s.pinStamp (32 + m) (s.before (s.get (F.SYNC_CTRL_FILTER m)))
  let per := t - x.last
  let s1 := (s.setSync m { x with edges := x.edges + 1, last := t, level := level }).set64 (F.SYNC_LAST_LO_NS m) (F.SYNC_LAST_HI_NS m) t
  let s2 := if 1 ≤ x.edges ∧ 1000 ≤ per ∧ per ≤ 2000000000 then s1.set (F.SYNC_PERIOD_NS m) per else s1
  let s3 := if s.on (F.SYNC_CTRL_LOST m) then (s2.set (F.SYNC_CTRL_LOST m) 0).raise (3076 + m) else s2
  if s.get F.TIME0_CLK_CTRL_SERVO_SRC = 2 ∧ s.get F.TIME0_CLK_CTRL_PPS_SEL = m then
    s3.servo ((t % 1000000000 : Nat) - (if t % 1000000000 < 500000000 then 0 else 1000000000 : Int))
  else s3

/-- SYNC_EDGE (R79): a sync input has qualified a level. -/
def execSyncEdge (m : Fin 4) (level : Bool) (s : State) : Res :=
  let x := s.sync m
  .next (if s.on (F.SYNC_CTRL_EN m) && s.timeOn then
    (if !x.seen then s.setSync m { x with seen := true, level := level }
     else if x.level != level then
       (if level != s.on (F.SYNC_CTRL_EDGE m) then (s.syncEdge m level).soSync m else s.setSync m { x with level := level })
     else s)
  else s)

/-- SYNC_LOST (R79): no edge for 2.5 times the learnt period. -/
def execSyncLost (m : Fin 4) (s : State) : Res :=
  .next (if s.on (F.SYNC_CTRL_EN m) && s.timeOn && s.get (F.SYNC_PERIOD_NS m) != 0 && !s.on (F.SYNC_CTRL_LOST m) &&
      decide (5 * s.get (F.SYNC_PERIOD_NS m) ≤ 2 * (s.now - (s.sync m).last)) then
    ((s.set (F.SYNC_CTRL_LOST m) 1).raise (3076 + m.val)).soLost m
  else s)

end Sys2Proof.Machine
end

