-- ==== Sys2Proof/Machine/UsbCmd.lean ====
section
/-! DEFINITION. The commands of chapters 21 and 22 on the service USB and the SMBus sideband. -/

namespace Sys2Proof.Machine

/-! ### The bus (R455, R462, R463) -/

/-- SERVICE_ATTACH (R406, R455): VBUS on the service connector. -/
def execServiceAttach (on : Bool) (s : State) : Res :=
  .next (if s.usb.vbus = on then s
    else if on then (s.mapUsb (fun u => { u with vbus := true })).wakeBy 3
    else s.usbDetach.mapUsb (fun u => { u with vbus := false }))

/-- BUS_RESET (R462): `hs` tells whether the host supports high speed. -/
def execBusReset (hs : Bool) (s : State) : Res :=
  .next (if s.usbUp then
    (let s1 := (List.range s.usbPartial).foldl (fun s _ => s.sat F.SVC_ABORT_COUNT_COUNT) s.usbDefault
     let s2 := (s1.usbServed false).mapUsb (fun u => { u with high := hs && s.on F.SVC_CTRL_HS_EN, full := s.on F.SVC_CTRL_FULL_EN })
     (((s2.sat F.SVC_RESET_COUNT_COUNT).raise 52).pathLost 0x41))
  else s)

/-- SUSPEND (R463): the bus has been idle for 3 ms. -/
def execSuspend (s : State) : Res :=
  .next (if s.usbUp && !s.usbSuspended then (s.mapUsb (fun u => { u with sus := some s.now })).raise 54 else s)

/-- RESUME (R463): the host drives K on a suspended bus. -/
def execResume (s : State) : Res :=
  .next (if s.usbUp && s.usbSuspended then ((s.usbServed true).raise 55).wakeBy 3 else s)

/-- REMOTE_WAKE (R463): a reason arises. -/
def execRemoteWake (reason : Fin 3) (s : State) : Res := .next (s.usbReason reason)

/-- DOWNSTREAM_ATTACH (R455): on the D+/D- pair of dock port n. -/
def execDownstreamAttach (n : Fin 16) (on : Bool) (s : State) : Res := .next (s.portAttach n on)

/-! ### Control requests (R458, R461) -/

/-- The words of a run of offsets are read in ascending order. -/
def State.readRun (s : State) : Nat → Nat → List Nat × State
  | _, 0 => ([], s)
  | a, n + 1 =>
    let r := s.read .svcUsb a
    let t := r.2.readRun (a + 4) n
    (r.1 :: t.1, t.2)

/-- Words as bytes, least significant byte first. -/
def wordBytes (l : List Nat) : List (BitVec 8) := (l.map (leBytes 4)).flatten

/-- REG_READ (R458). -/
def execRegRead (addr : BitVec 32) (len : BitVec 16) (s : State) : Res :=
  .next (if s.devThere 1 then
    (if regForm addr.toNat len.toNat then
      (let r := (s.mapUsb (fun u => { u with ctl := none })).readRun addr.toNat (len.toNat / 4)
       r.2.emit (.usbData 0 (wordBytes r.1)))
     else s.usbStall 0)
  else s)

/-- A write of a word by the service USB: the state, and whether the word was refused. -/
def State.svcWrite (s : State) (a v : Nat) : State × Bool :=
  let t := s.write .svcUsb a v 15
  let no := match s.judge .svcUsb a v 15 with
    | .refused _ => true
    | _ => decide (s.get F.ACC_ERR_COUNT_COUNT < t.get F.ACC_ERR_COUNT_COUNT)
  (t, no)

/-- Words are written in ascending order; the number refused. -/
def State.writeRun (s : State) (a : Nat) : List Nat → State × Nat
  | [] => (s, 0)
  | v :: l =>
    let r := s.svcWrite a v
    let t := r.1.writeRun (a + 4) l
    (t.1, t.2 + b2n r.2)

/-- A control request reaches its status stage: it acts if the transfer in progress is its own (R461). -/
def State.usbStatus (s : State) (q : UsbReq) (act : State → State) : State :=
  if s.usb.ctl = some q then act (s.mapUsb (fun u => { u with ctl := none })) else s

/-- A control request of a device: SETUP and data, held until the status stage; or its status stage. -/
def State.usbControl (s : State) (d : Nat) (q : UsbReq) (ok done : Bool) (act : State → State) : State :=
  if !s.devThere d then s
  else if done then s.usbStatus q act
  else if ok then s.usbSetup q else s.usbStall 0

/-- REG_WRITE (R458, R461). -/
def execRegWrite (addr : BitVec 32) (len : BitVec 16) (words : List Word) (done : Bool) (s : State) : Res :=
  .next (s.usbControl 1 (.regWrite addr len words) (regForm addr.toNat len.toNat && 4 * words.length == len.toNat) done
    (fun s => (s.writeRun addr.toNat (words.map BitVec.toNat)).1))

/-- GET_VIEW (R458). -/
def execGetView (s : State) : Res :=
  let view := if s.testMode then 2 else if s.life = 2 ∨ s.life = 3 then 1 else 0
  .next (if s.devThere 1 then
    (s.mapUsb (fun u => { u with ctl := none })).emit (.usbData 0 (leBytes 4 (256 * view + s.life))) else s)

/-- SET_ADDRESS (R461). -/
def execSetAddress (d : UsbDevice) (addr : BitVec 7) (done : Bool) (s : State) : Res :=
  .next (s.usbControl (devNo d) (.setAddress d addr) true done
    (fun s => s.setDev (devNo d) { s.usbDev (devNo d) with addr := addr.toNat }))

/-- SET_CONFIGURATION (R457, R461). -/
def execSetConfiguration (d : UsbDevice) (cfg : BitVec 8) (done : Bool) (s : State) : Res :=
  .next (s.usbControl (devNo d) (.setConfiguration d cfg) (s.cfgOffered (devNo d) cfg.toNat) done
    (fun s => s.setCfg (devNo d) cfg.toNat))

/-- SET_FEATURE (R455, R461). -/
def execSetFeature (d : UsbDevice) (f : UsbFeature) (done : Bool) (s : State) : Res :=
  .next (s.usbControl (devNo d) (.setFeature d f) true done (fun s => s.usbFeature (devNo d) f true))

/-- CLEAR_FEATURE (R455, R459, R461). -/
def execClearFeature (d : UsbDevice) (f : UsbFeature) (done : Bool) (s : State) : Res :=
  .next (s.usbControl (devNo d) (.clearFeature d f) true done (fun s => s.usbFeature (devNo d) f false))

/-! ### Endpoints (R456, R457, R459, R460) -/

/-- EP1_IN (R457). -/
def execEp1In (s : State) : Res :=
  let r := s.get F.SVC_WAKE_LOG_REASON
  .next (if s.devCfg 1 = 0 then s
    else if s.halted 1 1 then s.emit (.usbAns 1 3)
    else if r = s.usb.ep1 then s.emit (.usbAns 1 2)
    else (s.mapUsb (fun u => { u with ep1 := r })).emit
      (.usbData 1 (leBytes 4 (512 * s.get F.SVC_WAKE_LOG_COLLIDED + 256 * s.get F.SVC_WAKE_LOG_SERVED + r))))

/-- The command engine takes what has arrived on EP2, and carries out the command at the front where it is whole and of the given OP. -/
def State.ep2Run (s : State) (op : Nat) (f : State → Nat → Nat → List (BitVec 8) → State) : State :=
  if s.devCfg 1 = 2 then
    match s.ep2Take 8 with
    | (t, some (o, n, a, data)) => if o = op then f (t.ep2Drop o n) n a data else t
    | (t, none) => t
  else s

/-- EP2_READ (R459). -/
def execEp2Read (s : State) : Res :=
  .next (s.ep2Run 1 (fun s n a _ =>
    let r := s.readRun a n
    r.2.emit (.usbData 3 (wordBytes r.1))))

/-- EP2_WRITE (R459). -/
def execEp2Write (s : State) : Res :=
  .next (s.ep2Run 2 (fun s n a data =>
    let r := s.writeRun a ((List.range n).map (fun i => leNat ((data.drop (4 * i)).take 4)))
    r.1.emit (.usbData 3 (leBytes 4 r.2))))

/-- OUT_TOKEN (R460): good data on EP2. -/
def execOutToken (data : List (BitVec 8)) (s : State) : Res :=
  .next (if s.devCfg 1 = 2 ∧ data.length ≤ s.ep2Max then s.ep2Out data else s)

/-- PING_TOKEN (R460): at high speed. -/
def execPingToken (s : State) : Res :=
  .next (if s.devCfg 1 = 2 ∧ s.usb.high then
    (if s.halted 1 2 then s.emit (.usbAns 2 3)
     else if s.usb.bufs.length < 2 then s.emit (.usbAns 2 0)
     else (s.sat F.SVC_FLOW_NAK).emit (.usbAns 2 2))
  else s)

/-- RECOVERY_IMAGE (R418, R456): a whole image has come over the recovery loader. -/
def execRecoveryImage (img : FwImage) (s : State) : Res :=
  .next (if s.devCfg 2 ≠ 0 ∧ s.get F.START_STAT_PHASE = 6 then
    (let r := s.imageResult img
     let s1 := s.set F.IMG_STAT_RESULT r
     if r = 1 then s1.imageTaken img else s1)
  else s)

/-- LOG_IN (R456): the firmware's log text that is still unsent. -/
def execLogIn (unsent : List (BitVec 8)) (s : State) : Res :=
  .next (if s.devCfg 3 = 0 then s
    else if unsent.isEmpty then s.emit (.usbAns 16 2) else s.emit (.usbData 16 (unsent.take s.ep2Max)))

/-! ### SMBus (R473, R474) -/

/-- A transaction reaches the management space: an SMBus access is a wake source (R406); a bad PEC discards it. -/
def State.smbus (s : State) (pecOk : Bool) (f : State → State) : State :=
  let s1 := s.wakeBy 2
  if pecOk && !s.isDark then f s1 else s1

/-- SMBUS_SET_POINTER (R474). -/
def execSmbusSetPointer (offset : Word) (pecOk : Bool) (s : State) : Res :=
  .next (s.smbus pecOk (fun s => { s with smbPtr := offset.toNat / 4 * 4 }))

/-- SMBUS_READ (R474). -/
def execSmbusRead (pecOk : Bool) (s : State) : Res :=
  .next (s.smbus pecOk (fun s =>
    let r := s.read .smbus s.smbPtr
    { r.2.emit (.smb (leBytes 4 r.1)) with smbPtr := (s.smbPtr + 4) % 2 ^ 32 }))

/-- SMBUS_WRITE (R474). -/
def execSmbusWrite (value : Word) (pecOk : Bool) (s : State) : Res :=
  .next (s.smbus pecOk (fun s => { s.write .smbus s.smbPtr value.toNat 15 with smbPtr := (s.smbPtr + 4) % 2 ^ 32 }))

/-- ALERT_RESPONSE (R473). -/
def execAlertResponse (s : State) : Res := .next (s.emit (.smb [0x4C]))

end Sys2Proof.Machine
end

