-- ==== Sys2Proof/Machine/VaultCmd.lean ====
section
/-! DEFINITION. The commands of chapter 19: vault commands, the DRBG, the root cell, SPDM and IDE_KM, the life cycle and OTP records. -/

namespace Sys2Proof.Machine

/-! ### Vault commands (R424): a write of KV_CMD with GO -/

/-- The KV_CMD word with GO. -/
def kvWord (op target source attr : Nat) (exp : Bool) : Nat :=
  2 ^ 31 + 65536 * target + 256 * source + 64 * b2n exp + 16 * attr + op

/-- GENERATE (R424). -/
def execGenerate (p : Path) (target : BitVec 8) (attr : BitVec 2) (exp : Bool) (s : State) : Res :=
  .next (s.write p 0x1002040 (kvWord 1 target.toNat 0 attr.toNat exp) 15)

/-- DERIVE (R424, R426). -/
def execDerive (p : Path) (target source : BitVec 8) (attr : BitVec 2) (exp : Bool) (s : State) : Res :=
  .next (s.write p 0x1002040 (kvWord 2 target.toNat source.toNat attr.toNat exp) 15)

/-- UNWRAP (R424). -/
def execUnwrap (p : Path) (target source : BitVec 8) (attr : BitVec 2) (exp : Bool) (s : State) : Res :=
  .next (s.write p 0x1002040 (kvWord 3 target.toNat source.toNat attr.toNat exp) 15)

/-- WRAP (R424). -/
def execWrap (p : Path) (target source : BitVec 8) (s : State) : Res :=
  .next (s.write p 0x1002040 (kvWord 4 target.toNat source.toNat 0 false) 15)

/-- ZERO (R424). -/
def execZero (p : Path) (target : BitVec 8) (s : State) : Res := .next (s.write p 0x1002040 (kvWord 5 target.toNat 0 0 false) 15)

/-- RANDOM (R424). -/
def execRandom (p : Path) (s : State) : Res := .next (s.write p 0x1002040 (kvWord 6 0 0 0 false) 15)

/-! ### The DRBG and masks (R427, R428) -/

/-- Is the CRYPTO domain at work? -/
def State.cryptoOn (s : State) : Bool := s.domState 57 == 0 && !s.isDark

/-- DRBG_FAIL (R427): the test that failed. -/
def execDrbgFail (reason : Fin 2) (s : State) : Res := .next (if s.cryptoOn then s.drbgFail (reason.val + 1) else s)

/-- DRBG_RESTART (R427): a write of 1 to DRBG_STAT.FAIL. -/
def execDrbgRestart (p : Path) (s : State) : Res := .next (s.write p 0x1000060 2 15)

/-- REMASK (R428): REMASK_MS have passed. -/
def execRemask (s : State) : Res := .next (if s.cryptoOn then s.remask else s)

/-! ### The root cell (R432-R434) -/

/-- ROOT_GEN (R432): a write of ROOT_CMD. -/
def execRootGen (p : Path) (s : State) : Res := .next (s.write p 0x1000048 1 15)

/-- TAMPER_TRIP (R434). -/
def execTamperTrip (src : Fin 8) (s : State) : Res := .next (s.tamper src)

/-! ### SPDM (R430) -/

/-- A request that an H-port's responder answers, once what it needs has been negotiated; else an error. -/
def State.spdmReq (s : State) (h code : Nat) (ok : Bool) (f : State → State × Option (List (BitVec 8))) : State :=
  if s.spdmOn h then
    if ok then (f s).1.spdmAns h code (f s).2 else s.spdmAns h code none
  else s

/-- The private scalar, while the responder has it: the root cell was valid at the start, and has not been erased since. -/
def State.scalar (s : State) : Option Nat := if s.on F.ROOT_STAT_KEYS then s.identity else none

/-- GET_VERSION (R430): version 1.3, and the negotiation starts over. -/
def execGetVersion (h : Fin 32) (s : State) : Res :=
  .next (s.spdmReq h 1 true (fun s => (s.setSpdm h { s.spdm h with ver := true, caps := false, algs := false }, some (leBytes 2 0x1300))))

/-- GET_CAPABILITIES (R430). -/
def execGetCapabilities (h : Fin 32) (s : State) : Res :=
  .next (s.spdmReq h 2 (s.spdm h).ver (fun s => (s.setSpdm h { s.spdm h with caps := true }, some [])))

/-- NEGOTIATE_ALGORITHMS (R430): `common` tells whether the requester offers the hub's algorithms. -/
def execNegotiateAlgorithms (h : Fin 32) (common : Bool) (s : State) : Res :=
  .next (s.spdmReq h 3 ((s.spdm h).caps && common) (fun s => (s.setSpdm h { s.spdm h with algs := true }, some [])))

/-- GET_DIGESTS (R430): of the chain in slot 0. -/
def execGetDigests (h : Fin 32) (chain : List (BitVec 8)) (s : State) : Res :=
  .next (s.spdmReq h 4 (s.spdm h).algs (fun s => (s, some (leBytes 48 (Config.sha384 (chain.take 16384))))))

/-- GET_CERTIFICATE (R430): bytes of the chain that flash holds. -/
def execGetCertificate (h : Fin 32) (slot : Fin 8) (off len : BitVec 16) (chain : List (BitVec 8)) (s : State) : Res :=
  .next (s.spdmReq h 5 ((s.spdm h).algs && slot == 0) (fun s => (s, some (((chain.take 16384).drop off.toNat).take len.toNat))))

/-- CHALLENGE (R430, R432): signed by the identity. -/
def execChallenge (h : Fin 32) (slot : Fin 8) (nonce : BitVec 256) (s : State) : Res :=
  .next (s.spdmReq h 6 ((s.spdm h).algs && slot == 0 && s.scalar.isSome)
    (fun s => (s.fresh.2, some (Config.sign (s.scalar.getD 0) (leBytes 32 nonce.toNat) s.fresh.1))))

/-- GET_MEASUREMENTS (R430): their number at index 0, one of them, or all of them at 0xFF. -/
def execGetMeasurements (h : Fin 32) (index : BitVec 8) (s : State) : Res :=
  let i := index.toNat
  .next (s.spdmReq h 7 ((s.spdm h).algs && (decide (i ≤ 4) || i == 0xFF)) (fun s => (s, some (
    if i = 0 then [4] else if i = 0xFF then s.measure384 1 ++ s.measure384 2 ++ s.measure384 3 ++ s.measure384 4 else s.measure384 i))))

/-- KEY_EXCHANGE (R430): a session opens. -/
def execKeyExchange (h : Fin 32) (slot : Fin 8) (nonce : BitVec 256) (s : State) : Res :=
  .next (s.spdmReq h 8 ((s.spdm h).algs && slot == 0 && s.scalar.isSome) (fun s =>
    let a := s.fresh
    let b := a.2.fresh
    (b.2.setSpdm h { s.spdm h with sess := 1 },
      some (Config.ecdhPublic a.1 ++ Config.sign (s.scalar.getD 0) (leBytes 32 nonce.toNat ++ Config.ecdhPublic a.1) b.1))))

/-- FINISH (R430): the session is established where the requester's HMAC verifies. -/
def execFinish (h : Fin 32) (macOk : Bool) (s : State) : Res :=
  .next (if (s.spdm h).sess = 1 ∧ macOk = false then
      (s.setSpdm h { s.spdm h with sess := 0 }).spdmReq h 9 false (fun s => (s, none))
    else s.spdmReq h 9 ((s.spdm h).sess == 1) (fun s => (s.setSpdm h { s.spdm h with sess := 2 }, some [])))

/-- END_SESSION (R430). -/
def execEndSession (h : Fin 32) (s : State) : Res :=
  .next (s.spdmReq h 10 ((s.spdm h).sess == 2) (fun s => (s.setSpdm h { s.spdm h with sess := 0 }, some [])))

/-! ### IDE_KM (R431) -/

/-- May an IDE_KM message act on a port: within an established session of an H-port, or towards an M-port's partner? -/
def State.kmOn (s : State) (p : Nat) : Bool :=
  s.cryptoOn && (if p < 32 then s.spdmOn p && (s.spdm p).sess == 2 else s.get (F.MP_STAT_LINK (p - 32)) == 2)

/-- KEY_PROG (R431): on an H-port the key comes from the requester; on an M-port the hub generates it and programs the partner. -/
def execKeyProg (port : Fin 48) (sub : Fin 3) (rx set : Bool) (key : BitVec 256) (s : State) : Res :=
  let held := (s.slotKey (ideSlot port rx set)).getD 0
  let go := fun (s : State) k =>
    let r := s.keyProg port sub rx set k
    r.1.spdmAns port 11 (some [if r.2 then 0 else 1])
  .next (if s.kmOn port then
    (if port.val < 32 then go s key.toNat
     else if (s.ide port).prog.any (fun e => e / 4 == ideIx 0 rx set / 4 && e % 4 != sub.val) then go s held
     else if s.entropyOk then go s.drbgUse.fresh.2 (s.drbgUse.fresh.1 % 2 ^ 256)
     else s)
  else s)

/-- K_SET_GO (R431). -/
def execKSetGo (port : Fin 48) (sub : Fin 3) (rx set : Bool) (s : State) : Res :=
  .next (if s.kmOn port then
    (let r := s.keySet port (ideIx sub rx set) true
     r.1.spdmAns port 12 (if r.2 then some [] else none))
  else s)

/-- K_SET_STOP (R431). -/
def execKSetStop (port : Fin 48) (sub : Fin 3) (rx set : Bool) (s : State) : Res :=
  .next (if s.kmOn port then
    (let r := s.keySet port (ideIx sub rx set) false
     r.1.spdmAns port 13 (if r.2 then some [] else none))
  else s)

/-! ### Life cycle and OTP (R437-R439) -/

/-- A request of JTAG that is refused (R437): as R19 has it, with 0xFF for the requester. -/
def State.jtagRefuse (s : State) (r : Reason) : State :=
  (((s.sat F.ACC_ERR_COUNT_COUNT).sets [(F.ACC_ERR_LOG_REASON, reasonCode r), (F.ACC_ERR_LOG_REQ, 0xFF),
    (F.ACC_ERR_ADDR_OFFSET, 0x1044)]).raise 34).raiseIf (r == .lifeCycle) 49

/-- LC_REQ (R437): a write of LC_REQ by a path, or JTAG's request. -/
def execLcReq (src : LcFrom) (key : BitVec 8) (target : BitVec 3) (s : State) : Res :=
  .next (match src with
    | .path p => s.write p 0x1044 (256 * key.toNat + target.toNat) 15
    | .jtag =>
      if s.isDark then s
      else if key.toNat ≠ 0x5A then s.jtagRefuse .badValue
      else if s.lcAllowed none target.toNat then s.lcAccept target.toNat
      else s.jtagRefuse .lifeCycle)

/-- LC_BLOW_DONE (R437): the words are blown, and a warm start brings the new state. -/
def execLcBlowDone (s : State) : Res :=
  .next (match s.otp.blow with
    | some t => (s.lcBlow t).warmStart 4
    | none => s)

/-- OTP_CMD_GO (R439): a write of OTP_CMD. -/
def execOtpCmdGo (p : Path) (id : BitVec 8) (s : State) : Res := .next (s.write p 0x1230048 (2 ^ 31 + id.toNat) 15)

/-- OTP_WRITE_DONE (R439): `ok` tells what the read-back found. -/
def execOtpWriteDone (ok : Bool) (s : State) : Res := .next (s.otpDone ok)

end Sys2Proof.Machine
end

