-- ==== Sys2Proof/Machine/VbusCmd.lean ====
section
/-! DEFINITION. The commands of chapter 13: feeds, the dock bus, buck moves, the eFuse, measurement. -/

namespace Sys2Proof.Machine

/-! ### Feeds and the dock bus (R316-R319) -/

/-- FEED_REVERSE (R317). -/
def execFeedReverse (feed : Fin 2) (s : State) : Res :=
  .next (if s.get (feedStat feed) = 2 then
    (((s.set (feedStat feed) 1).feedOver feed).sat F.FD_CHANGE_COUNT_COUNT).raise 164
  else s)

/-- FEED_LOST (R318). -/
def execFeedLost (feed : Fin 2) (s : State) : Res :=
  .next (if s.feedUp feed then ((s.set (feedStat feed) 0).feedOver feed).raise (160 + 2 * feed.val) else s)

/-- FEED_OVERVOLTAGE (R318). -/
def execFeedOvervoltage (feed : Fin 2) (s : State) : Res :=
  .next (if s.feedUp feed then ((s.set (feedStat feed) 3).feedOver feed).raise 165 else s)

/-- FEED_RETURN (R316, R318). -/
def execFeedReturn (feed : Fin 2) (s : State) : Res :=
  .next (if !s.feedUp feed && s.on (feedEn feed) then ((s.set (feedStat feed) 1).feedsPick).raise (161 + 2 * feed.val) else s)

/-- Is a port's eFuse on (R319)? -/
def State.vbDriven (s : State) (n : Nat) : Bool := decide (2 ≤ s.vbState n) && decide (s.vbState n ≤ 5)

/-- BUS_UV (R319). -/
def execBusUv (s : State) : Res :=
  let s1 := { s with pow := { s.pow with busHeld := true } }
  let s2 := (List.range 16).foldl (fun s n => if s.vbDriven n then s.latchOff n 8 else s) s1
  .next ((s2.sat F.BUS_UV_COUNT_COUNT).raise 166)

/-- DOCK_BUS_RETURN (R319, R325): ports latched by the bus drop their enable and wait for their ramp; others ramp if they may. -/
def execDockBusReturn (s : State) : Res :=
  let s1 := { s with pow := { s.pow with busHeld := false } }
  .next (if !s.pow.busHeld then s else (List.range 16).foldl (fun s n =>
    if s.vbState n = 6 ∧ s.get (F.VB_FAULT_LOG_CAUSE n) = 8 ∧ (s.vb n).req then
      ((((s.dropContract n).vdmAbort n).setSeq n .start).vbReq n false).vbReq n true
    else s.vbEval n) s1)

/-! ### Moves (R320, R321) -/

/-- TRIM_STEP (R320). -/
def execTrimStep (n : Fin 16) (s : State) : Res := .next (if s.on (F.VB_CTRL_TRACK n) && s.vbState n == 4 then s.trimStep n else s)

/-- MOVE_COMPLETE (R303, R321). -/
def execMoveComplete (n : Fin 16) (s : State) : Res :=
  .next (if s.vbState n = 5 then (((s.set (F.VB_STAT_STATE n) 4).raise (vbEv n 4)).pdMoved n).pdShow n else s)

/-- MOVE_TIMEOUT (R321): UNDERVOLT below the window, OVERVOLT above it. -/
def execMoveTimeout (n : Fin 16) (s : State) : Res :=
  .next (if s.vbState n = 5 then s.latchOff n (if s.get (F.VB_VOUT_MV n) < s.targetMv n then 4 else 3) else s)

/-! ### The eFuse (R322-R327) -/

/-- EFUSE_ENABLE (R322): the policy's request rises or falls. -/
def execEfuseEnable (n : Fin 16) (en : Bool) (s : State) : Res := .next (s.vbReq n en)

/-- BUCK_TIMEOUT (R322). -/
def execBuckTimeout (n : Fin 16) (s : State) : Res := .next (if s.vbState n = 1 then s.latchOff n 6 else s)

/-- GATE_ON (R322, R327). -/
def execGateOn (n : Fin 16) (s : State) : Res :=
  .next (if s.vbState n = 2 then s.sets [(F.VB_STAT_GATE_ON n, 1), (F.VB_STAT_STATE n, 3)] else s)

/-- GATE_TIMEOUT (R322). -/
def execGateTimeout (n : Fin 16) (s : State) : Res := .next (if s.vbState n = 2 then s.latchOff n 7 else s)

/-- LIMITING (R323). -/
def execLimiting (n : Fin 16) (on : Bool) (s : State) : Res :=
  .next (if !s.vbDriven n || s.on (F.VB_STAT_LIMITING n) == on then s
  else
    let s1 := s.sets [(F.VB_STAT_LIMITING n, b2n on), (F.VB_STAT_TIMER n, b2n on)]
    if on then s1.raise (vbEv n 3) else s1.resumeMove n)

/-- OCP_TIMER (R323). -/
def execOcpTimer (n : Fin 16) (s : State) : Res := .next (if s.on (F.VB_STAT_TIMER n) then s.latchOff n 1 else s)

/-- FAST_TRIP (R324). -/
def execFastTrip (n : Fin 16) (s : State) : Res := .next (if s.vbDriven n then s.latchOff n 2 else s)

/-- OVERVOLT (R326): outside a move. -/
def execOvervolt (n : Fin 16) (s : State) : Res := .next (if s.vbDriven n && s.vbState n != 5 then s.latchOff n 3 else s)

/-- UNDERVOLT (R326). -/
def execUndervolt (n : Fin 16) (s : State) : Res :=
  .next (if s.vbState n = 4 ∧ s.on (F.VB_STAT_PGOOD n) ∧ !s.on (F.VB_STAT_LIMITING n) then s.latchOff n 4 else s)

/-- REVERSE (R326). -/
def execReverse (n : Fin 16) (s : State) : Res := .next (if s.on (F.VB_STAT_GATE_ON n) then s.latchOff n 5 else s)

/-- OFF_WAIT_END (R325). -/
def execOffWaitEnd (n : Fin 16) (s : State) : Res :=
  .next (if s.vbState n = 7 then (s.set (F.VB_STAT_STATE n) (if (s.vb n).disch && !(s.vb n).req then 8 else 0)).vbEval n else s)

/-- POWER_GOOD (R303, R327). -/
def execPowerGood (n : Fin 16) (s : State) : Res :=
  .next (if s.vbState n = 3 ∧ s.on (F.VB_STAT_GATE_ON n) ∧ s.on (F.VB_STAT_IN_WINDOW n) ∧ !s.on (F.VB_STAT_TIMER n) then
    (((s.sets [(F.VB_STAT_PGOOD n, 1), (F.VB_STAT_STATE n, 4)]).raise (vbEv n 0)).pdGood n).pdShow n
  else s)

/-- DISCHARGED (R322). -/
def execDischarged (n : Fin 16) (s : State) : Res :=
  .next (if (s.vb n).disch then
    (let s1 := (s.mapVb n (fun x => { x with disch := false })).raise (vbEv n 5)
     let s2 := if s1.vbState n = 8 then s1.set (F.VB_STAT_STATE n) 0 else s1
     ((s2.pdSafe n).vbEval n).pdShow n)
  else s)

/-- CLR_LOCKOUT (R325). -/
def execClrLockout (p : Path) (n : Fin 16) (s : State) : Res := .next (s.write p (0x405058 + 0x10000 * n.val) 1 15)

/-- CLR_PEAK (R330). -/
def execClrPeak (p : Path) (n : Fin 16) (s : State) : Res := .next (s.write p (0x405058 + 0x10000 * n.val) 2 15)

/-- MEASUREMENT_SAMPLE (R328, R329). -/
def execMeasurementSample (ports : List PortSample) (a b : FeedSample) (bus : BitVec 16) (s : State) : Res :=
  .next (s.measure ports a b bus.toNat)

end Sys2Proof.Machine
end

