-- ==== Sys2Proof/Machine/Dispatch.lean ====
section
/-! DEFINITION. One arm for each command: a direct call of its meaning. -/

namespace Sys2Proof.Machine

def exec (i : Instr) (s : State) : Host.Outcome State Fault Refusal :=
  match i with
  | .registerWrite p addr value be => Sys2Proof.Machine.execRegisterWrite p addr value be s
  | .ownerWrite p page value => Sys2Proof.Machine.execOwnerWrite p page value s
  | .pageEnable p page en => Sys2Proof.Machine.execPageEnable p page en s
  | .txnOpen p => Sys2Proof.Machine.execTxnOpen p s
  | .txnCommit p value => Sys2Proof.Machine.execTxnCommit p value s
  | .txnAbort p value => Sys2Proof.Machine.execTxnAbort p value s
  | .atTimeCommit slot => Sys2Proof.Machine.execAtTimeCommit slot s
  | .abortedIdle slot => Sys2Proof.Machine.execAbortedIdle slot s
  | .quarantineEnd kind id => Sys2Proof.Machine.execQuarantineEnd kind id s
  | .cmdPost p h count entries => Sys2Proof.Machine.execCmdPost p h count entries s
  | .nop h seq => Sys2Proof.Machine.execNop h seq s
  | .unknownOpcode h seq => Sys2Proof.Machine.execUnknownOpcode h seq s
  | .evtConsumedWrite p h count => Sys2Proof.Machine.execEvtConsumedWrite p h count s
  | .resync p h => Sys2Proof.Machine.execResync p h s
  | .ringRestart p h => Sys2Proof.Machine.execRingRestart p h s
  | .ringEnable p h cmdEn evtEn => Sys2Proof.Machine.execRingEnable p h cmdEn evtEn s
  | .nowLoRead p addr => Sys2Proof.Machine.execNowLoRead p addr s
  | .stepGo p => Sys2Proof.Machine.execStepGo p s
  | .slewComplete => Sys2Proof.Machine.execSlewComplete s
  | .ptpMessage port m => Sys2Proof.Machine.execPtpMessage port m s
  | .ptmDialogue e hostTime => Sys2Proof.Machine.execPtmDialogue e hostTime s
  | .axisTransition a la lb => Sys2Proof.Machine.execAxisTransition a la lb s
  | .swDelta p a delta => Sys2Proof.Machine.execSwDelta p a delta s
  | .zPulse z => Sys2Proof.Machine.execZPulse z s
  | .velUpdate a => Sys2Proof.Machine.execVelUpdate a s
  | .axisStopped a => Sys2Proof.Machine.execAxisStopped a s
  | .positionCrossing a => Sys2Proof.Machine.execPositionCrossing a s
  | .axCmdClear p a => Sys2Proof.Machine.execAxCmdClear p a s
  | .axCmdLoad p a => Sys2Proof.Machine.execAxCmdLoad p a s
  | .tctrlArm p n value => Sys2Proof.Machine.execTctrlArm p n value s
  | .tctrlDisarm p n value => Sys2Proof.Machine.execTctrlDisarm p n value s
  | .triggerFire n => Sys2Proof.Machine.execTriggerFire n s
  | .pulseEnd n => Sys2Proof.Machine.execPulseEnd n s
  | .captureEdge n level => Sys2Proof.Machine.execCaptureEdge n level s
  | .capPop p n => Sys2Proof.Machine.execCapPop p n s
  | .syncEdge m level => Sys2Proof.Machine.execSyncEdge m level s
  | .syncLost m => Sys2Proof.Machine.execSyncLost m s
  | .cellArrival c => Sys2Proof.Machine.execCellArrival c s
  | .churnMatch => Sys2Proof.Machine.execChurnMatch s
  | .cellAtOutput id crcOk => Sys2Proof.Machine.execCellAtOutput id crcOk s
  | .cumulativeAck st seq => Sys2Proof.Machine.execCumulativeAck st seq s
  | .streamNak st => Sys2Proof.Machine.execStreamNak st s
  | .ackTimeout st => Sys2Proof.Machine.execAckTimeout st s
  | .checkCell plane inp out crcOk => Sys2Proof.Machine.execCheckCell plane inp out crcOk s
  | .planeFail plane => Sys2Proof.Machine.execPlaneFail plane s
  | .planeForce p plane => Sys2Proof.Machine.execPlaneForce p plane s
  | .failoverComplete => Sys2Proof.Machine.execFailoverComplete s
  | .bankRetire bank fault badReads lost => Sys2Proof.Machine.execBankRetire bank fault badReads lost s
  | .bankCopyComplete bank => Sys2Proof.Machine.execBankCopyComplete bank s
  | .holdRelease id => Sys2Proof.Machine.execHoldRelease id s
  | .holdAgeExpiry id => Sys2Proof.Machine.execHoldAgeExpiry id s
  | .holdPeakReset p => Sys2Proof.Machine.execHoldPeakReset p s
  | .htResultRead p => Sys2Proof.Machine.execHtResultRead p s
  | .shaperRefill sh => Sys2Proof.Machine.execShaperRefill sh s
  | .shaperEnable p value => Sys2Proof.Machine.execShaperEnable p value s
  | .coarseSlot => Sys2Proof.Machine.execCoarseSlot s
  | .axwWidthWrite p a width => Sys2Proof.Machine.execAxwWidthWrite p a width s
  | .wheelPeakReset p => Sys2Proof.Machine.execWheelPeakReset p s
  | .governorWindow g => Sys2Proof.Machine.execGovernorWindow g s
  | .governorFirmware => Sys2Proof.Machine.execGovernorFirmware s
  | .linkIdle port => Sys2Proof.Machine.execLinkIdle port s
  | .memrd h tag at_ snp mv => Sys2Proof.Machine.execMemrd h tag at_ snp mv s
  | .memrddata h tag at_ => Sys2Proof.Machine.execMemrddata h tag at_ s
  | .meminv h tag at_ own => Sys2Proof.Machine.execMeminv h tag at_ own s
  | .memclnevct h tag at_ => Sys2Proof.Machine.execMemclnevct h tag at_ s
  | .memwr h tag at_ form data poison => Sys2Proof.Machine.execMemwr h tag at_ form data poison s
  | .memwrptl h tag at_ form data be poison => Sys2Proof.Machine.execMemwrptl h tag at_ form data be poison s
  | .memspecrd h dpa => Sys2Proof.Machine.execMemspecrd h dpa s
  | .birspi h bitag block => Sys2Proof.Machine.execBirspi h bitag block s
  | .birsps h bitag block => Sys2Proof.Machine.execBirsps h bitag block s
  | .birspe h bitag block => Sys2Proof.Machine.execBirspe h bitag block s
  | .biconflict h tag dpa => Sys2Proof.Machine.execBiconflict h tag dpa s
  | .functionMemRead fn gen tag addr len => Sys2Proof.Machine.execFunctionMemRead fn gen tag addr len s
  | .functionMemWrite fn gen addr data => Sys2Proof.Machine.execFunctionMemWrite fn gen addr data s
  | .functionAtomic fn gen tag addr op => Sys2Proof.Machine.execFunctionAtomic fn gen tag addr op s
  | .expanderMemdata m tag data poison => Sys2Proof.Machine.execExpanderMemdata m tag data poison s
  | .expanderCmp m tag => Sys2Proof.Machine.execExpanderCmp m tag s
  | .expanderBisnp m addr => Sys2Proof.Machine.execExpanderBisnp m addr s
  | .completionTimeout m idx => Sys2Proof.Machine.execCompletionTimeout m idx s
  | .tagFree m idx => Sys2Proof.Machine.execTagFree m idx s
  | .bisnpTimeout h bitag => Sys2Proof.Machine.execBisnpTimeout h bitag s
  | .regionEnable p r value => Sys2Proof.Machine.execRegionEnable p r value s
  | .regionRecall p r => Sys2Proof.Machine.execRegionRecall p r s
  | .regionRecallEnd r => Sys2Proof.Machine.execRegionRecallEnd r s
  | .windowEnable p cream => Sys2Proof.Machine.execWindowEnable p cream s
  | .windowRecall p => Sys2Proof.Machine.execWindowRecall p s
  | .windowRecallEnd h w => Sys2Proof.Machine.execWindowRecallEnd h w s
  | .lossWalkEnd port => Sys2Proof.Machine.execLossWalkEnd port s
  | .poolLostClr p ports => Sys2Proof.Machine.execPoolLostClr p ports s
  | .creamBankFault n bank ceLimit => Sys2Proof.Machine.execCreamBankFault n bank ceLimit s
  | .crDrop p n => Sys2Proof.Machine.execCrDrop p n s
  | .crDisable p n => Sys2Proof.Machine.execCrDisable p n s
  | .sliceFail d why => Sys2Proof.Machine.execSliceFail d why s
  | .sliceForce p d => Sys2Proof.Machine.execSliceForce p d s
  | .reconstructionServing d => Sys2Proof.Machine.execReconstructionServing d s
  | .rebuildComplete d => Sys2Proof.Machine.execRebuildComplete d s
  | .reflectorFail g => Sys2Proof.Machine.execReflectorFail g s
  | .dxFail => Sys2Proof.Machine.execDxFail s
  | .byAddr p => Sys2Proof.Machine.execByAddr p s
  | .byPos p => Sys2Proof.Machine.execByPos p s
  | .drainEnd => Sys2Proof.Machine.execDrainEnd s
  | .drainLimit => Sys2Proof.Machine.execDrainLimit s
  | .logClr p => Sys2Proof.Machine.execLogClr p s
  | .drainMaxReset p => Sys2Proof.Machine.execDrainMaxReset p s
  | .hpLinkUp h rate width caps => Sys2Proof.Machine.execHpLinkUp h rate width caps s
  | .hpLinkDown h => Sys2Proof.Machine.execHpLinkDown h s
  | .hpDisable p h => Sys2Proof.Machine.execHpDisable p h s
  | .hpRetrain p h => Sys2Proof.Machine.execHpRetrain p h s
  | .mpLinkUp m rate width caps dev => Sys2Proof.Machine.execMpLinkUp m rate width caps dev s
  | .mpLinkDown m => Sys2Proof.Machine.execMpLinkDown m s
  | .mpRetrain p m => Sys2Proof.Machine.execMpRetrain p m s
  | .ltrMessage port value => Sys2Proof.Machine.execLtrMessage port value s
  | .linkStateExit port => Sys2Proof.Machine.execLinkStateExit port s
  | .bind h seq host vdsp src id poolBase poolSize poolDev => Sys2Proof.Machine.execBind h seq host vdsp src id poolBase poolSize poolDev s
  | .unbind h seq host vdsp slot gen force => Sys2Proof.Machine.execUnbind h seq host vdsp slot gen force s
  | .powerControllerOff h d => Sys2Proof.Machine.execPowerControllerOff h d s
  | .unbindGrace h d => Sys2Proof.Machine.execUnbindGrace h d s
  | .writeFence h seq init target => Sys2Proof.Machine.execWriteFence h seq init target s
  | .fenceComplete h seq => Sys2Proof.Machine.execFenceComplete h seq s
  | .pllLockLoss m pll both => Sys2Proof.Machine.execPllLockLoss m pll both s
  | .pllSwap p => Sys2Proof.Machine.execPllSwap p s
  | .pllReturn m pll => Sys2Proof.Machine.execPllReturn m pll s
  | .pllRetry m got => Sys2Proof.Machine.execPllRetry m got s
  | .tapRail m lane => Sys2Proof.Machine.execTapRail m lane s
  | .seqStart p step => Sys2Proof.Machine.execSeqStart p step s
  | .seqStop p => Sys2Proof.Machine.execSeqStop p s
  | .seqEnd m => Sys2Proof.Machine.execSeqEnd m s
  | .seqTxsrc m => Sys2Proof.Machine.execSeqTxsrc m s
  | .seqRate m => Sys2Proof.Machine.execSeqRate m s
  | .seqWait m => Sys2Proof.Machine.execSeqWait m s
  | .seqWaitExpiry m => Sys2Proof.Machine.execSeqWaitExpiry m s
  | .seqWaitfor m => Sys2Proof.Machine.execSeqWaitfor m s
  | .waitforMet m => Sys2Proof.Machine.execWaitforMet m s
  | .waitforTimeout m => Sys2Proof.Machine.execWaitforTimeout m s
  | .seqAdapt m => Sys2Proof.Machine.execSeqAdapt m s
  | .seqFreeze m => Sys2Proof.Machine.execSeqFreeze m s
  | .seqFfe m => Sys2Proof.Machine.execSeqFfe m s
  | .seqEngine m => Sys2Proof.Machine.execSeqEngine m s
  | .seqJump m => Sys2Proof.Machine.execSeqJump m s
  | .seqSetlc m => Sys2Proof.Machine.execSeqSetlc m s
  | .seqDjnz m => Sys2Proof.Machine.execSeqDjnz m s
  | .seqReservedOp m => Sys2Proof.Machine.execSeqReservedOp m s
  | .seqContinue p next => Sys2Proof.Machine.execSeqContinue p next s
  | .trainingFrame n lane f => Sys2Proof.Machine.execTrainingFrame n lane f s
  | .slip p n lane => Sys2Proof.Machine.execSlip p n lane s
  | .dlRestart p n => Sys2Proof.Machine.execDlRestart p n s
  | .rateTimeout n => Sys2Proof.Machine.execRateTimeout n s
  | .bringupTimeout n => Sys2Proof.Machine.execBringupTimeout n s
  | .bringupRestart n => Sys2Proof.Machine.execBringupRestart n s
  | .laneExcluded n lane => Sys2Proof.Machine.execLaneExcluded n lane s
  | .eyeGo p value => Sys2Proof.Machine.execEyeGo p value s
  | .eyeStop p => Sys2Proof.Machine.execEyeStop p s
  | .eyePointDone m lane errs => Sys2Proof.Machine.execEyePointDone m lane errs s
  | .audit m lane mism badCal => Sys2Proof.Machine.execAudit m lane mism badCal s
  | .injectOne p => Sys2Proof.Machine.execInjectOne p s
  | .deepExitComplete port => Sys2Proof.Machine.execDeepExitComplete port s
  | .flitTime n => Sys2Proof.Machine.execFlitTime n s
  | .idleFlit n h => Sys2Proof.Machine.execIdleFlit n h s
  | .dataFlit n h cls chan body => Sys2Proof.Machine.execDataFlit n h cls chan body s
  | .dataBadFlit n h cls chan => Sys2Proof.Machine.execDataBadFlit n h cls chan s
  | .sealFlit n h tagOk counter count => Sys2Proof.Machine.execSealFlit n h tagOk counter count s
  | .nakFlit n h => Sys2Proof.Machine.execNakFlit n h s
  | .initFlit n h version enc credits depth id => Sys2Proof.Machine.execInitFlit n h version enc credits depth id s
  | .pmFlit n h op st cnt => Sys2Proof.Machine.execPmFlit n h op st cnt s
  | .pauseFlit n h => Sys2Proof.Machine.execPauseFlit n h s
  | .echoFlit n h num => Sys2Proof.Machine.execEchoFlit n h num s
  | .echoReplyFlit n h num turn devDelay => Sys2Proof.Machine.execEchoReplyFlit n h num turn devDelay s
  | .reservedFlit n h => Sys2Proof.Machine.execReservedFlit n h s
  | .crcFailedFlit n => Sys2Proof.Machine.execCrcFailedFlit n s
  | .nakRearm n => Sys2Proof.Machine.execNakRearm n s
  | .replayTimeout n => Sys2Proof.Machine.execReplayTimeout n s
  | .sealWaitExpiry n => Sys2Proof.Machine.execSealWaitExpiry n s
  | .initTimeout n => Sys2Proof.Machine.execInitTimeout n s
  | .dead n => Sys2Proof.Machine.execDead n s
  | .linkRestart n => Sys2Proof.Machine.execLinkRestart n s
  | .lkRetrain p n rate mask => Sys2Proof.Machine.execLkRetrain p n rate mask s
  | .lkDown p n => Sys2Proof.Machine.execLkDown p n s
  | .retrainReq n r => Sys2Proof.Machine.execRetrainReq n r s
  | .retrainAck n r => Sys2Proof.Machine.execRetrainAck n r s
  | .retrainTimeout n => Sys2Proof.Machine.execRetrainTimeout n s
  | .echoPeriod n => Sys2Proof.Machine.execEchoPeriod n s
  | .echoTimeout n => Sys2Proof.Machine.execEchoTimeout n s
  | .describe n d => Sys2Proof.Machine.execDescribe n d s
  | .chOpen n cls idx gen => Sys2Proof.Machine.execChOpen n cls idx gen s
  | .chClose n cls idx gen => Sys2Proof.Machine.execChClose n cls idx gen s
  | .allotAck n num rx => Sys2Proof.Machine.execAllotAck n num rx s
  | .allotNak n num rx reason => Sys2Proof.Machine.execAllotNak n num rx reason s
  | .ltol n ns => Sys2Proof.Machine.execLtol n ns s
  | .vendorMgmt n code payload => Sys2Proof.Machine.execVendorMgmt n code payload s
  | .badMgmtMessage n code => Sys2Proof.Machine.execBadMgmtMessage n code s
  | .chCmdOpen p n => Sys2Proof.Machine.execChCmdOpen p n s
  | .chCmdClose p n => Sys2Proof.Machine.execChCmdClose p n s
  | .tlp n chan t => Sys2Proof.Machine.execTlp n chan t s
  | .pcieScanTimeout n chan => Sys2Proof.Machine.execPcieScanTimeout n chan s
  | .ethFrame port frame => Sys2Proof.Machine.execEthFrame port frame s
  | .fwdAge mac vid dom => Sys2Proof.Machine.execFwdAge mac vid dom s
  | .fwdPortCfg h seq port dom learn block => Sys2Proof.Machine.execFwdPortCfg h seq port dom learn block s
  | .fwdFlush h seq dom => Sys2Proof.Machine.execFwdFlush h seq dom s
  | .featuresOk h version1 ringPacked pairs => Sys2Proof.Machine.execFeaturesOk h version1 ringPacked pairs s
  | .epochBoundary n rx => Sys2Proof.Machine.execEpochBoundary n rx s
  | .sbuTmgmt n crcOk seq msg => Sys2Proof.Machine.execSbuTmgmt n crcOk seq msg s
  | .sbuTsig n crcOk seq msg => Sys2Proof.Machine.execSbuTsig n crcOk seq msg s
  | .wake n crcOk seq => Sys2Proof.Machine.execWake n crcOk seq s
  | .sbuAck n crcOk acked => Sys2Proof.Machine.execSbuAck n crcOk acked s
  | .sbuTimeout n => Sys2Proof.Machine.execSbuTimeout n s
  | .attach n cc => Sys2Proof.Machine.execAttach n cc s
  | .drpToggle n => Sys2Proof.Machine.execDrpToggle n s
  | .trySrcTimeout n vbus cc2 => Sys2Proof.Machine.execTrySrcTimeout n vbus cc2 s
  | .detach n => Sys2Proof.Machine.execDetach n s
  | .vconnFault n => Sys2Proof.Machine.execVconnFault n s
  | .cableIdentity n a => Sys2Proof.Machine.execCableIdentity n a s
  | .sourceCapRepeat n => Sys2Proof.Machine.execSourceCapRepeat n s
  | .request n rdo => Sys2Proof.Machine.execRequest n rdo s
  | .eprRequest n rdo pdo => Sys2Proof.Machine.execEprRequest n rdo pdo s
  | .eprMode n => Sys2Proof.Machine.execEprMode n s
  | .eprKeepalive n => Sys2Proof.Machine.execEprKeepalive n s
  | .eprKeepaliveTimeout n => Sys2Proof.Machine.execEprKeepaliveTimeout n s
  | .getSourceCap n => Sys2Proof.Machine.execGetSourceCap n s
  | .getSinkCap n => Sys2Proof.Machine.execGetSinkCap n s
  | .sinkCapabilities n pdo => Sys2Proof.Machine.execSinkCapabilities n pdo s
  | .sourceCapabilities n pdo => Sys2Proof.Machine.execSourceCapabilities n pdo s
  | .drSwap n => Sys2Proof.Machine.execDrSwap n s
  | .prSwap n => Sys2Proof.Machine.execPrSwap n s
  | .vconnSwap n => Sys2Proof.Machine.execVconnSwap n s
  | .softReset n => Sys2Proof.Machine.execSoftReset n s
  | .hardReset n => Sys2Proof.Machine.execHardReset n s
  | .accept n => Sys2Proof.Machine.execAccept n s
  | .reject n => Sys2Proof.Machine.execReject n s
  | .pdWait n => Sys2Proof.Machine.execPdWait n s
  | .psRdy n => Sys2Proof.Machine.execPsRdy n s
  | .goodcrc n sent => Sys2Proof.Machine.execGoodcrc n sent s
  | .goodcrcTimeout n => Sys2Proof.Machine.execGoodcrcTimeout n s
  | .notSupported n => Sys2Proof.Machine.execNotSupported n s
  | .getStatus n => Sys2Proof.Machine.execGetStatus n s
  | .getRevision n => Sys2Proof.Machine.execGetRevision n s
  | .getSourceCapExtended n => Sys2Proof.Machine.execGetSourceCapExtended n s
  | .eprGetSourceCap n => Sys2Proof.Machine.execEprGetSourceCap n s
  | .bistMessage n carrier => Sys2Proof.Machine.execBistMessage n carrier s
  | .unsupportedMessage n outOfSeq => Sys2Proof.Machine.execUnsupportedMessage n outOfSeq s
  | .senderResponseTimeout n => Sys2Proof.Machine.execSenderResponseTimeout n s
  | .srcTransition n => Sys2Proof.Machine.execSrcTransition n s
  | .psTransitionTimeout n => Sys2Proof.Machine.execPsTransitionTimeout n s
  | .srcRecover n => Sys2Proof.Machine.execSrcRecover n s
  | .errorRecoveryEnd n => Sys2Proof.Machine.execErrorRecoveryEnd n s
  | .swapRetry n => Sys2Proof.Machine.execSwapRetry n s
  | .discoverIdentityAck n => Sys2Proof.Machine.execDiscoverIdentityAck n s
  | .discoverSvidsAck n svids => Sys2Proof.Machine.execDiscoverSvidsAck n svids s
  | .discoverModesAck n vdos => Sys2Proof.Machine.execDiscoverModesAck n vdos s
  | .enterModeAck n vdo idLo idHi => Sys2Proof.Machine.execEnterModeAck n vdo idLo idHi s
  | .vdmNak n => Sys2Proof.Machine.execVdmNak n s
  | .vdmBusy n => Sys2Proof.Machine.execVdmBusy n s
  | .vdmRetry n => Sys2Proof.Machine.execVdmRetry n s
  | .attention n vdo => Sys2Proof.Machine.execAttention n vdo s
  | .modeRetry n => Sys2Proof.Machine.execModeRetry n s
  | .pdCmdExit p n => Sys2Proof.Machine.execPdCmdExit p n s
  | .pdCmdEnter p n => Sys2Proof.Machine.execPdCmdEnter p n s
  | .pdCmdSendCaps p n => Sys2Proof.Machine.execPdCmdSendCaps p n s
  | .pdCmdDrSwap p n => Sys2Proof.Machine.execPdCmdDrSwap p n s
  | .pdCmdPrSwap p n => Sys2Proof.Machine.execPdCmdPrSwap p n s
  | .pdCmdSoftReset p n => Sys2Proof.Machine.execPdCmdSoftReset p n s
  | .pdCmdHardReset p n => Sys2Proof.Machine.execPdCmdHardReset p n s
  | .pdSrcWrite p n value => Sys2Proof.Machine.execPdSrcWrite p n value s
  | .pdDisable p n => Sys2Proof.Machine.execPdDisable p n s
  | .feedReverse feed => Sys2Proof.Machine.execFeedReverse feed s
  | .feedLost feed => Sys2Proof.Machine.execFeedLost feed s
  | .feedOvervoltage feed => Sys2Proof.Machine.execFeedOvervoltage feed s
  | .feedReturn feed => Sys2Proof.Machine.execFeedReturn feed s
  | .busUv => Sys2Proof.Machine.execBusUv s
  | .dockBusReturn => Sys2Proof.Machine.execDockBusReturn s
  | .trimStep n => Sys2Proof.Machine.execTrimStep n s
  | .moveComplete n => Sys2Proof.Machine.execMoveComplete n s
  | .moveTimeout n => Sys2Proof.Machine.execMoveTimeout n s
  | .efuseEnable n en => Sys2Proof.Machine.execEfuseEnable n en s
  | .buckTimeout n => Sys2Proof.Machine.execBuckTimeout n s
  | .gateOn n => Sys2Proof.Machine.execGateOn n s
  | .gateTimeout n => Sys2Proof.Machine.execGateTimeout n s
  | .limiting n on => Sys2Proof.Machine.execLimiting n on s
  | .ocpTimer n => Sys2Proof.Machine.execOcpTimer n s
  | .fastTrip n => Sys2Proof.Machine.execFastTrip n s
  | .overvolt n => Sys2Proof.Machine.execOvervolt n s
  | .undervolt n => Sys2Proof.Machine.execUndervolt n s
  | .reverse n => Sys2Proof.Machine.execReverse n s
  | .offWaitEnd n => Sys2Proof.Machine.execOffWaitEnd n s
  | .powerGood n => Sys2Proof.Machine.execPowerGood n s
  | .discharged n => Sys2Proof.Machine.execDischarged n s
  | .clrLockout p n => Sys2Proof.Machine.execClrLockout p n s
  | .clrPeak p n => Sys2Proof.Machine.execClrPeak p n s
  | .frameTrigger n => Sys2Proof.Machine.execFrameTrigger n s
  | .frameStart n => Sys2Proof.Machine.execFrameStart n s
  | .lineHandover n => Sys2Proof.Machine.execLineHandover n s
  | .fetchError n l guard => Sys2Proof.Machine.execFetchError n l guard s
  | .soEnable p n => Sys2Proof.Machine.execSoEnable p n s
  | .soDisable p n => Sys2Proof.Machine.execSoDisable p n s
  | .dirty p n => Sys2Proof.Machine.execDirty p n s
  | .signal n tch ch due payload => Sys2Proof.Machine.execSignal n tch ch due payload s
  | .intr n tch ch due payload => Sys2Proof.Machine.execIntr n tch ch due payload s
  | .regAck n tch q status => Sys2Proof.Machine.execRegAck n tch q status s
  | .regData n tch q status d => Sys2Proof.Machine.execRegData n tch q status d s
  | .sigSend h seq ch op tag axis dir value payload => Sys2Proof.Machine.execSigSend h seq ch op tag axis dir value payload s
  | .edgeRead h seq port tch len addr haddr => Sys2Proof.Machine.execEdgeRead h seq port tch len addr haddr s
  | .edgeWrite h seq port tch len addr data => Sys2Proof.Machine.execEdgeWrite h seq port tch len addr data s
  | .edgeRmw h seq port tch len addr andMask xorMask => Sys2Proof.Machine.execEdgeRmw h seq port tch len addr andMask xorMask s
  | .semTake h seq port tch => Sys2Proof.Machine.execSemTake h seq port tch s
  | .semGive h seq => Sys2Proof.Machine.execSemGive h seq s
  | .regTimeout n tch q => Sys2Proof.Machine.execRegTimeout n tch q s
  | .semWaitTimeout h seq => Sys2Proof.Machine.execSemWaitTimeout h seq s
  | .semHoldLimit n tch => Sys2Proof.Machine.execSemHoldLimit n tch s
  | .poll e => Sys2Proof.Machine.execPoll e s
  | .raLife b => Sys2Proof.Machine.execRaLife b s
  | .routeValid p value => Sys2Proof.Machine.execRouteValid p value s
  | .dpfClr p => Sys2Proof.Machine.execDpfClr p s
  | .hookTimeout k => Sys2Proof.Machine.execHookTimeout k s
  | .engBrcmd p e offset => Sys2Proof.Machine.execEngBrcmd p e offset s
  | .evtEnWrite p page value => Sys2Proof.Machine.execEvtEnWrite p page value s
  | .claim p t fast => Sys2Proof.Machine.execClaim p t fast s
  | .complete p t fast ev => Sys2Proof.Machine.execComplete p t fast ev s
  | .targetEnable t => Sys2Proof.Machine.execTargetEnable t s
  | .evRouteWrite p value => Sys2Proof.Machine.execEvRouteWrite p value s
  | .tgtQconsWrite p t value => Sys2Proof.Machine.execTgtQconsWrite p t value s
  | .msixEnable h act => Sys2Proof.Machine.execMsixEnable h act s
  | .pinFilterEdge pin level => Sys2Proof.Machine.execPinFilterEdge pin level s
  | .add e gd ga gb => Sys2Proof.Machine.execAdd e gd ga gb s
  | .sub e gd ga gb => Sys2Proof.Machine.execSub e gd ga gb s
  | .and e gd ga gb => Sys2Proof.Machine.execAnd e gd ga gb s
  | .or e gd ga gb => Sys2Proof.Machine.execOr e gd ga gb s
  | .xor e gd ga gb => Sys2Proof.Machine.execXor e gd ga gb s
  | .shl e gd ga gb => Sys2Proof.Machine.execShl e gd ga gb s
  | .shr e gd ga gb => Sys2Proof.Machine.execShr e gd ga gb s
  | .sar e gd ga gb => Sys2Proof.Machine.execSar e gd ga gb s
  | .mul e gd ga gb => Sys2Proof.Machine.execMul e gd ga gb s
  | .sltu e gd ga gb => Sys2Proof.Machine.execSltu e gd ga gb s
  | .addi e gd ga imm => Sys2Proof.Machine.execAddi e gd ga imm s
  | .andi e gd ga imm => Sys2Proof.Machine.execAndi e gd ga imm s
  | .ori e gd ga imm => Sys2Proof.Machine.execOri e gd ga imm s
  | .xori e gd ga imm => Sys2Proof.Machine.execXori e gd ga imm s
  | .lui e gd ga imm => Sys2Proof.Machine.execLui e gd ga imm s
  | .ld e gd ga imm ecc => Sys2Proof.Machine.execLd e gd ga imm ecc s
  | .st e gd ga imm => Sys2Proof.Machine.execSt e gd ga imm s
  | .ldb e gd ga imm ecc => Sys2Proof.Machine.execLdb e gd ga imm ecc s
  | .stb e gd ga imm ecc => Sys2Proof.Machine.execStb e gd ga imm ecc s
  | .beq e ga gb off => Sys2Proof.Machine.execBeq e ga gb off s
  | .bne e ga gb off => Sys2Proof.Machine.execBne e ga gb off s
  | .blt e ga gb off => Sys2Proof.Machine.execBlt e ga gb off s
  | .bltu e ga gb off => Sys2Proof.Machine.execBltu e ga gb off s
  | .jal e gd off => Sys2Proof.Machine.execJal e gd off s
  | .jr e gd ga imm => Sys2Proof.Machine.execJr e gd ga imm s
  | .csrr e gd csr => Sys2Proof.Machine.execCsrr e gd csr s
  | .csrw e ga csr => Sys2Proof.Machine.execCsrw e ga csr s
  | .wait e => Sys2Proof.Machine.execWait e s
  | .retn e => Sys2Proof.Machine.execRetn e s
  | .retf e => Sys2Proof.Machine.execRetf e s
  | .ckpt e => Sys2Proof.Machine.execCkpt e s
  | .fence e => Sys2Proof.Machine.execFence e s
  | .trap e cause => Sys2Proof.Machine.execTrap e cause s
  | .illegalInstruction e => Sys2Proof.Machine.execIllegalInstruction e s
  | .fastEntry e => Sys2Proof.Machine.execFastEntry e s
  | .normalEntry e => Sys2Proof.Machine.execNormalEntry e s
  | .watchdog e => Sys2Proof.Machine.execWatchdog e s
  | .engineFault e => Sys2Proof.Machine.execEngineFault e s
  | .autoCkpt => Sys2Proof.Machine.execAutoCkpt s
  | .lockstepMismatch => Sys2Proof.Machine.execLockstepMismatch s
  | .engLoad h seq eng prog len sig => Sys2Proof.Machine.execEngLoad h seq eng prog len sig s
  | .engStop h seq eng => Sys2Proof.Machine.execEngStop h seq eng s
  | .engCtrlStart p e => Sys2Proof.Machine.execEngCtrlStart p e s
  | .engCtrlStop p e => Sys2Proof.Machine.execEngCtrlStop p e s
  | .mwDataAccess p value => Sys2Proof.Machine.execMwDataAccess p value s
  | .domainRequest p page req => Sys2Proof.Machine.execDomainRequest p page req s
  | .domainTransition d done => Sys2Proof.Machine.execDomainTransition d done s
  | .domainTransitionTimeout d => Sys2Proof.Machine.execDomainTransitionTimeout d s
  | .wakeSource src => Sys2Proof.Machine.execWakeSource src s
  | .wakeTime => Sys2Proof.Machine.execWakeTime s
  | .aonBrownout => Sys2Proof.Machine.execAonBrownout s
  | .warnTrip rail mv => Sys2Proof.Machine.execWarnTrip rail mv s
  | .rideThroughEnd => Sys2Proof.Machine.execRideThroughEnd s
  | .resetTrip rail mv => Sys2Proof.Machine.execResetTrip rail mv s
  | .resetRelease rail => Sys2Proof.Machine.execResetRelease rail s
  | .thermalTrip sensor => Sys2Proof.Machine.execThermalTrip sensor s
  | .thermalRestart => Sys2Proof.Machine.execThermalRestart s
  | .clockPllLockLoss pll => Sys2Proof.Machine.execClockPllLockLoss pll s
  | .xtalLost => Sys2Proof.Machine.execXtalLost s
  | .xtalHoldExpiry => Sys2Proof.Machine.execXtalHoldExpiry s
  | .xtalReturn => Sys2Proof.Machine.execXtalReturn s
  | .x32kLost => Sys2Proof.Machine.execX32kLost s
  | .toPll p => Sys2Proof.Machine.execToPll p s
  | .pllSwitchDone => Sys2Proof.Machine.execPllSwitchDone s
  | .clkSwap p => Sys2Proof.Machine.execClkSwap p s
  | .porstN => Sys2Proof.Machine.execPorstN s
  | .warmN => Sys2Proof.Machine.execWarmN s
  | .rstCmdWarm p key => Sys2Proof.Machine.execRstCmdWarm p key s
  | .imageVerified img => Sys2Proof.Machine.execImageVerified img s
  | .bootWatchdog => Sys2Proof.Machine.execBootWatchdog s
  | .startDone us => Sys2Proof.Machine.execStartDone us s
  | .generate p target attr exp => Sys2Proof.Machine.execGenerate p target attr exp s
  | .derive p target source attr exp => Sys2Proof.Machine.execDerive p target source attr exp s
  | .unwrap p target source attr exp => Sys2Proof.Machine.execUnwrap p target source attr exp s
  | .wrap p target source => Sys2Proof.Machine.execWrap p target source s
  | .zero p target => Sys2Proof.Machine.execZero p target s
  | .random p => Sys2Proof.Machine.execRandom p s
  | .drbgFail reason => Sys2Proof.Machine.execDrbgFail reason s
  | .drbgRestart p => Sys2Proof.Machine.execDrbgRestart p s
  | .remask => Sys2Proof.Machine.execRemask s
  | .rootGen p => Sys2Proof.Machine.execRootGen p s
  | .tamperTrip src => Sys2Proof.Machine.execTamperTrip src s
  | .getVersion h => Sys2Proof.Machine.execGetVersion h s
  | .getCapabilities h => Sys2Proof.Machine.execGetCapabilities h s
  | .negotiateAlgorithms h common => Sys2Proof.Machine.execNegotiateAlgorithms h common s
  | .getDigests h chain => Sys2Proof.Machine.execGetDigests h chain s
  | .getCertificate h slot off len chain => Sys2Proof.Machine.execGetCertificate h slot off len chain s
  | .challenge h slot nonce => Sys2Proof.Machine.execChallenge h slot nonce s
  | .getMeasurements h index => Sys2Proof.Machine.execGetMeasurements h index s
  | .keyExchange h slot nonce => Sys2Proof.Machine.execKeyExchange h slot nonce s
  | .finish h macOk => Sys2Proof.Machine.execFinish h macOk s
  | .endSession h => Sys2Proof.Machine.execEndSession h s
  | .keyProg port sub rx set key => Sys2Proof.Machine.execKeyProg port sub rx set key s
  | .kSetGo port sub rx set => Sys2Proof.Machine.execKSetGo port sub rx set s
  | .kSetStop port sub rx set => Sys2Proof.Machine.execKSetStop port sub rx set s
  | .lcReq src key target => Sys2Proof.Machine.execLcReq src key target s
  | .lcBlowDone => Sys2Proof.Machine.execLcBlowDone s
  | .otpCmdGo p id => Sys2Proof.Machine.execOtpCmdGo p id s
  | .otpWriteDone ok => Sys2Proof.Machine.execOtpWriteDone ok s
  | .rstCmdShutdown p key => Sys2Proof.Machine.execRstCmdShutdown p key s
  | .quiesceDone => Sys2Proof.Machine.execQuiesceDone s
  | .bistProgramDone elems => Sys2Proof.Machine.execBistProgramDone elems s
  | .record => Sys2Proof.Machine.execRecord s
  | .shutdownDone ms => Sys2Proof.Machine.execShutdownDone ms s
  | .bistGo p prog => Sys2Proof.Machine.execBistGo p prog s
  | .avsMeasure ppm => Sys2Proof.Machine.execAvsMeasure ppm s
  | .avsStep => Sys2Proof.Machine.execAvsStep s
  | .avsAck => Sys2Proof.Machine.execAvsAck s
  | .busReset hs => Sys2Proof.Machine.execBusReset hs s
  | .suspend => Sys2Proof.Machine.execSuspend s
  | .resume => Sys2Proof.Machine.execResume s
  | .remoteWake reason => Sys2Proof.Machine.execRemoteWake reason s
  | .downstreamAttach n on => Sys2Proof.Machine.execDownstreamAttach n on s
  | .regRead addr len => Sys2Proof.Machine.execRegRead addr len s
  | .regWrite addr len words done => Sys2Proof.Machine.execRegWrite addr len words done s
  | .getView => Sys2Proof.Machine.execGetView s
  | .setAddress d addr done => Sys2Proof.Machine.execSetAddress d addr done s
  | .setConfiguration d cfg done => Sys2Proof.Machine.execSetConfiguration d cfg done s
  | .setFeature d f done => Sys2Proof.Machine.execSetFeature d f done s
  | .clearFeature d f done => Sys2Proof.Machine.execClearFeature d f done s
  | .ep1In => Sys2Proof.Machine.execEp1In s
  | .ep2Read => Sys2Proof.Machine.execEp2Read s
  | .ep2Write => Sys2Proof.Machine.execEp2Write s
  | .outToken data => Sys2Proof.Machine.execOutToken data s
  | .pingToken => Sys2Proof.Machine.execPingToken s
  | .recoveryImage img => Sys2Proof.Machine.execRecoveryImage img s
  | .logIn unsent => Sys2Proof.Machine.execLogIn unsent s
  | .smbusSetPointer offset pecOk => Sys2Proof.Machine.execSmbusSetPointer offset pecOk s
  | .smbusRead pecOk => Sys2Proof.Machine.execSmbusRead pecOk s
  | .smbusWrite value pecOk => Sys2Proof.Machine.execSmbusWrite value pecOk s
  | .alertResponse => Sys2Proof.Machine.execAlertResponse s
  | .heldCountRead p => Sys2Proof.Machine.execHeldCountRead p s
  | .dlatMeasUpdate port rtt => Sys2Proof.Machine.execDlatMeasUpdate port rtt s
  | .measurementSample ports a b bus => Sys2Proof.Machine.execMeasurementSample ports a b bus s
  | .vbatLow mv => Sys2Proof.Machine.execVbatLow mv s
  | .hotWarning sensor => Sys2Proof.Machine.execHotWarning sensor s
  | .serviceAttach on => Sys2Proof.Machine.execServiceAttach on s
  | .targetError init seq target => Sys2Proof.Machine.execTargetError init seq target s
  | .hostFunctionRequest h d tag posted st => Sys2Proof.Machine.execHostFunctionRequest h d tag posted st s
  | .ptpMessageInterval port m => Sys2Proof.Machine.execPtpMessageInterval port m s
  | .vatWake => Sys2Proof.Machine.execVatWake s
  | .atAxisFineSlot slot => Sys2Proof.Machine.execAtAxisFineSlot slot s

end Sys2Proof.Machine
end

