-- ==== Sys2Proof/Safety.lean ====
section
/-! DEFINITION. What counts as safe behaviour of the hub, in the terms that statements use. -/

namespace Sys2Proof.Machine

/-- A bit of an OTP word is blown. -/
def State.blown (s : State) (w b : Nat) : Bool := hasBit (s.otpWord w) b

/-- No bit of OTP has been un-blown between two states (R435, R439, R451: OTP is written once). -/
structure OtpKept (s t : State) : Prop where
  kept : ∀ w b, s.blown w b = true → t.blown w b = true

/-- The canonical form of the engine memories: ascending keys, no entry at the value an unlisted word reads as, every entry a word. -/
def memWf (m : Tbl Nat) : Bool := tsorted m && m.all (fun p => decide (0 < p.2 ∧ p.2 < 2 ^ 32))

/-- A command answers a next state, and a property holds of it. -/
def Answers (o : Host.Outcome State Fault Refusal) (P : State → Prop) : Prop := ∃ t, o = .next t ∧ P t

/-- A whole-word write by the path acts at once: it is not ignored, refused, shadowed or kept for a sleeping domain (R16-R31). -/
def State.takes (s : State) (p : Path) (addr v : Nat) : Prop := s.judge p addr v 15 = .direct

/-- Can an engine run an instruction: it runs a core of its own, and its PC is an instruction's address (R383, R389)? -/
def State.engReady (s : State) (e : Nat) : Bool :=
  !s.mirrors e && s.get (F.ENG_STAT_STATE e) == 2 && s.engRuns e && decide ((s.engCore e).pc < 0x10000) && decide ((s.engCore e).pc % 4 = 0)

/-- A general register of an engine, as a word. -/
def State.g (s : State) (e : Nat) (r : Fin 16) : Word := BitVec.ofNat 32 ((s.engCore e).reg r)

/-- An instruction of an engine that wrote one general register and went on behind itself: nothing else of the registers of the hub or of
the engines' memories has changed, but for ENG_PC. -/
structure RegWritten (s t : State) (e : Nat) (gd : Fin 16) (v : Word) (cycles : Nat) : Prop where
  regs : ∀ r : Fin 16, t.g e r = if r = gd ∧ gd ≠ 0 then v else s.g e r
  pc : (t.engCore e).pc = ((s.engCore e).pc + 4) % 2 ^ 32
  cycles : (t.engCore e).cycles = (s.engCore e).cycles + cycles
  fields : ∀ f : Fld, f.key ≠ (F.ENG_PC_PC e).key → t.get f = s.get f
  mem : t.mem = s.mem

/-- The hub is at work: no trip and no ended shutdown holds the fabric die off. -/
def State.atWork (s : State) : Bool := !s.isDark

/-- The parts of State, one for each field. -/
inductive StatePart where
  | pending | regs | lag | sig | slots | latch | time | sw | gov | pool | gd | port | link
  | repair | pow | scan | br | engs | pwr | vault | otp | rep | usb | smbPtr | freeCtr | mem
deriving DecidableEq, Repr

/-- The number of a part: its place among the fields of State. -/
def StatePart.no : StatePart → Nat
  | .pending => 0
  | .regs => 1
  | .lag => 2
  | .sig => 3
  | .slots => 4
  | .latch => 5
  | .time => 6
  | .sw => 7
  | .gov => 8
  | .pool => 9
  | .gd => 10
  | .port => 11
  | .link => 12
  | .repair => 13
  | .pow => 14
  | .scan => 15
  | .br => 16
  | .engs => 17
  | .pwr => 18
  | .vault => 19
  | .otp => 20
  | .rep => 21
  | .usb => 22
  | .smbPtr => 23
  | .freeCtr => 24
  | .mem => 25

/-- A part holds the same in two states. -/
def StatePart.same : StatePart → State → State → Prop
  | .pending, s, t => t.pending = s.pending
  | .regs, s, t => t.regs = s.regs
  | .lag, s, t => t.lag = s.lag
  | .sig, s, t => t.sig = s.sig
  | .slots, s, t => t.slots = s.slots
  | .latch, s, t => t.latch = s.latch
  | .time, s, t => t.time = s.time
  | .sw, s, t => t.sw = s.sw
  | .gov, s, t => t.gov = s.gov
  | .pool, s, t => t.pool = s.pool
  | .gd, s, t => t.gd = s.gd
  | .port, s, t => t.port = s.port
  | .link, s, t => t.link = s.link
  | .repair, s, t => t.repair = s.repair
  | .pow, s, t => t.pow = s.pow
  | .scan, s, t => t.scan = s.scan
  | .br, s, t => t.br = s.br
  | .engs, s, t => t.engs = s.engs
  | .pwr, s, t => t.pwr = s.pwr
  | .vault, s, t => t.vault = s.vault
  | .otp, s, t => t.otp = s.otp
  | .rep, s, t => t.rep = s.rep
  | .usb, s, t => t.usb = s.usb
  | .smbPtr, s, t => t.smbPtr = s.smbPtr
  | .freeCtr, s, t => t.freeCtr = s.freeCtr
  | .mem, s, t => t.mem = s.mem

/-- Every part but the queue. -/
def everyPart : List StatePart :=
  [.regs, .lag, .sig, .slots, .latch, .time, .sw, .gov, .pool, .gd, .port, .link, .repair, .pow, .scan, .br, .engs, .pwr, .vault, .otp, .rep, .usb, .smbPtr, .freeCtr, .mem]

/-- The parts of State that a command may change. -/
def touches : Instr → List StatePart
  | .registerWrite .. | .txnCommit .. | .atTimeCommit .. | .stepGo .. | .axisTransition .. | .swDelta .. | .zPulse .. | .velUpdate ..
    | .axisStopped .. | .positionCrossing .. | .axCmdClear .. | .axCmdLoad .. | .regionEnable .. | .regionRecall .. | .windowEnable ..
    | .windowRecall .. | .poolLostClr .. | .crDrop .. | .crDisable .. | .sliceForce .. | .byAddr .. | .byPos .. | .drainEnd | .drainLimit
    | .logClr .. | .drainMaxReset .. | .hpDisable .. | .hpRetrain .. | .mpRetrain .. | .pllSwap .. | .seqStart .. | .seqStop ..
    | .seqContinue .. | .slip .. | .dlRestart .. | .eyeGo .. | .eyeStop .. | .injectOne .. | .lkRetrain .. | .lkDown .. | .chCmdOpen ..
    | .chCmdClose .. | .pdCmdExit .. | .pdCmdEnter .. | .pdCmdSendCaps .. | .pdCmdDrSwap .. | .pdCmdPrSwap .. | .pdCmdSoftReset ..
    | .pdCmdHardReset .. | .pdSrcWrite .. | .pdDisable .. | .clrLockout .. | .clrPeak .. | .frameStart .. | .soEnable .. | .soDisable ..
    | .dirty .. | .routeValid .. | .dpfClr .. | .engBrcmd .. | .st .. | .engCtrlStart .. | .engCtrlStop .. | .mwDataAccess ..
    | .domainRequest .. | .aonBrownout | .resetTrip .. | .resetRelease .. | .thermalRestart | .clockPllLockLoss .. | .xtalHoldExpiry
    | .toPll .. | .clkSwap .. | .porstN | .warmN | .rstCmdWarm .. | .bootWatchdog | .generate .. | .derive .. | .unwrap .. | .wrap ..
    | .zero .. | .random .. | .drbgRestart .. | .rootGen .. | .lcReq .. | .lcBlowDone | .otpCmdGo .. | .rstCmdShutdown ..
    | .shutdownDone .. | .bistGo .. | .regWrite .. | .ep2Write | .smbusWrite .. | .atAxisFineSlot .. => everyPart
  | .ownerWrite .. | .pageEnable .. | .txnAbort .. | .cmdPost .. | .evtConsumedWrite .. | .resync .. | .ringRestart .. | .ringEnable ..
    | .tctrlArm .. | .tctrlDisarm .. | .capPop .. | .holdPeakReset .. | .wheelPeakReset .. | .evtEnWrite .. | .complete ..
    | .evRouteWrite .. | .tgtQconsWrite .. => [.regs, .lag, .sig, .slots, .time, .pwr]
  | .txnOpen .. | .nowLoRead .. | .htResultRead .. | .claim .. | .heldCountRead .. => [.regs, .sig, .slots, .latch, .link, .freeCtr]
  | .abortedIdle .. => [.regs, .sig, .slots]
  | .quarantineEnd .. => [.regs, .sig, .slots, .sw, .pool, .port, .link, .scan, .br, .freeCtr]
  | .nop .. | .unknownOpcode .. | .vendorMgmt .. | .targetEnable .. | .msixEnable .. | .getDigests .. | .getCertificate ..
    | .getMeasurements .. | .logIn .. | .alertResponse | .hotWarning .. => [.sig]
  | .slewComplete | .ptmDialogue .. | .syncLost .. | .expanderBisnp .. | .rebuildComplete .. | .eyePointDone .. | .chOpen ..
    | .feedReverse .. | .feedLost .. | .feedOvervoltage .. | .feedReturn .. | .pinFilterEdge .. | .wakeSource .. | .wakeTime
    | .startDone .. | .drbgFail .. | .pingToken | .vbatLow .. => [.regs, .sig]
  | .ptpMessage .. | .triggerFire .. | .pulseEnd .. | .captureEdge .. | .ptpMessageInterval .. => [.regs, .sig, .time]
  | .syncEdge .. => [.regs, .sig, .time, .scan]
  | .cellArrival .. | .holdAgeExpiry .. | .ethFrame .. | .edgeRead .. | .edgeWrite .. | .edgeRmw .. | .semTake .. | .semGive ..
    | .regTimeout .. | .semWaitTimeout .. | .semHoldLimit .. | .poll .. => [.regs, .sig, .sw, .link, .br, .engs, .pwr, .freeCtr]
  | .churnMatch => [.regs, .lag, .sig, .sw, .link, .br, .engs, .pwr, .freeCtr]
  | .cellAtOutput .. => [.regs, .sig, .sw, .pool, .gd, .port, .link, .repair, .scan, .br, .engs, .pwr, .freeCtr, .mem]
  | .cumulativeAck .. => [.regs, .sig, .sw, .br]
  | .streamNak .. | .ackTimeout .. | .checkCell .. | .planeFail .. => [.regs, .sig, .sw, .repair]
  | .planeForce .. => [.regs, .lag, .sig, .slots, .time, .sw, .repair, .pwr]
  | .failoverComplete | .bankCopyComplete .. => [.regs, .sig, .sw]
  | .bankRetire .. => [.regs, .sig, .sw, .link, .repair, .br, .freeCtr]
  | .holdRelease .. => [.regs, .sig, .sw, .link, .br, .engs, .freeCtr]
  | .shaperRefill .. => [.regs, .lag, .sw]
  | .shaperEnable .. | .axwWidthWrite .. => [.regs, .lag, .sig, .slots, .time, .sw, .pwr]
  | .coarseSlot => [.regs, .sig, .slots, .sw, .link, .br, .engs, .freeCtr]
  | .governorWindow .. => [.regs, .sig, .gov, .link, .pow, .freeCtr]
  | .governorFirmware | .prSwap .. | .pdWait .. | .swapRetry .. | .powerGood .. => [.regs, .sig, .gov, .pow]
  | .linkIdle .. | .tapRail .. | .seqRate .. | .ltol .. | .dlatMeasUpdate .. => [.regs, .sig, .link, .freeCtr]
  | .memrd .. | .memrddata .. | .meminv .. | .memclnevct .. | .memwr .. | .memwrptl .. =>
      [.regs, .sig, .sw, .pool, .gd, .port, .link, .repair, .scan, .pwr, .freeCtr]
  | .memspecrd .. => []
  | .birspi .. | .birsps .. | .birspe .. | .expanderMemdata .. | .expanderCmp .. => [.regs, .sig, .sw, .pool, .port, .link, .scan, .pwr, .freeCtr]
  | .biconflict .. => [.regs, .sig, .sw, .link, .pwr, .freeCtr]
  | .functionMemRead .. | .functionMemWrite .. | .functionAtomic .. => [.regs, .sig, .sw, .pool, .gd, .port, .link, .scan, .pwr, .freeCtr]
  | .completionTimeout .. | .tagFree .. | .reconstructionServing .. => [.regs, .sig, .sw, .pool, .port, .link, .scan, .freeCtr]
  | .bisnpTimeout .. | .hpLinkDown .. => [.regs, .sig, .slots, .sw, .pool, .gd, .port, .link, .scan, .br, .vault, .freeCtr]
  | .regionRecallEnd .. | .windowRecallEnd .. | .lossWalkEnd .. => [.regs, .sig, .pool]
  | .creamBankFault .. => [.regs, .sig, .pool, .repair]
  | .sliceFail .. | .reflectorFail .. => [.regs, .sig, .sw, .pool, .port, .link, .repair, .scan, .freeCtr]
  | .dxFail => [.regs, .sig, .repair]
  | .hpLinkUp .. => [.regs, .lag, .sig, .port, .freeCtr]
  | .mpLinkUp .. => [.regs, .lag, .sig, .sw, .pool, .gd, .port, .link, .scan, .br, .vault, .freeCtr]
  | .mpLinkDown .. => [.regs, .sig, .sw, .pool, .gd, .port, .link, .scan, .br, .vault, .freeCtr]
  | .ltrMessage .. => [.regs, .sig, .port, .link, .freeCtr]
  | .linkStateExit .. | .seqTxsrc .. | .seqEngine .. | .allotNak .. | .wake .. | .sbuAck .. | .sbuTimeout .. => [.regs, .sig, .link]
  | .bind .. | .deepExitComplete .. => [.regs, .sig, .port, .link]
  | .unbind .. | .powerControllerOff .. | .unbindGrace .. => [.regs, .sig, .pool, .gd, .port]
  | .writeFence .. | .fenceComplete .. => [.regs, .sig, .port]
  | .pllLockLoss .. => [.regs, .sig, .slots, .sw, .pool, .gd, .port, .link, .repair, .scan, .br, .engs, .vault, .freeCtr]
  | .pllReturn .. | .seqEnd .. | .seqWaitExpiry .. | .waitforMet .. | .waitforTimeout .. | .seqAdapt .. | .seqReservedOp .. => [.regs, .link]
  | .pllRetry .. => [.regs, .lag, .sig, .port, .link]
  | .seqWait .. | .seqWaitfor .. | .nakRearm .. | .sealWaitExpiry .. | .echoPeriod .. | .echoTimeout .. | .allotAck ..
    | .pcieScanTimeout .. | .fwdAge .. => [.link]
  | .seqFreeze .. => [.regs, .link, .freeCtr]
  | .seqFfe .. | .seqJump .. | .seqSetlc .. | .seqDjnz .. | .drpToggle .. | .trimStep .. | .gateOn .. | .quiesceDone => [.regs]
  | .trainingFrame .. | .laneExcluded .. | .pauseFlit .. => [.regs, .lag, .sig, .sw, .pool, .gd, .port, .link, .scan, .br, .engs, .freeCtr]
  | .rateTimeout .. | .bringupRestart .. | .linkRestart .. | .epochBoundary .. => [.regs, .lag, .sig, .link]
  | .bringupTimeout .. | .idleFlit .. | .dataBadFlit .. | .nakFlit .. | .pmFlit .. | .echoFlit .. | .echoReplyFlit .. | .reservedFlit ..
    | .crcFailedFlit .. | .replayTimeout .. | .initTimeout .. | .dead .. | .retrainReq .. | .retrainAck .. | .retrainTimeout ..
    | .describe .. | .chClose .. | .badMgmtMessage .. | .sbuTmgmt .. => [.regs, .sig, .sw, .pool, .gd, .port, .link, .scan, .br, .engs, .freeCtr]
  | .audit .. => [.regs, .lag, .sig, .slots, .sw, .pool, .gd, .port, .link, .repair, .scan, .br, .engs, .pwr, .vault, .freeCtr]
  | .flitTime .. => [.regs, .lag, .sig, .sw, .pool, .gd, .port, .link, .pow, .scan, .br, .engs, .freeCtr]
  | .dataFlit .. | .sealFlit .. | .tlp .. | .sbuTsig .. | .lineHandover .. =>
      [.regs, .sig, .sw, .pool, .gd, .port, .link, .scan, .br, .engs, .pwr, .freeCtr]
  | .initFlit .. | .drSwap .. | .attention .. | .modeRetry .. => [.regs, .sig, .sw, .pool, .gd, .port, .link, .pow, .scan, .br, .engs, .freeCtr]
  | .fwdPortCfg .. | .fwdFlush .. | .featuresOk .. => [.sig, .link]
  | .attach .. | .srcTransition .. | .srcRecover .. | .dockBusReturn | .efuseEnable .. | .offWaitEnd .. | .discharged .. => [.regs, .sig, .pow, .usb]
  | .trySrcTimeout .. | .vconnFault .. | .cableIdentity .. | .sourceCapRepeat .. | .request .. | .eprRequest .. | .eprMode ..
    | .eprKeepalive .. | .getSourceCap .. | .getSinkCap .. | .sinkCapabilities .. | .sourceCapabilities .. | .vconnSwap .. | .softReset ..
    | .eprGetSourceCap .. | .bistMessage .. | .unsupportedMessage .. | .discoverIdentityAck .. | .discoverSvidsAck ..
    | .discoverModesAck .. | .enterModeAck .. | .vdmNak .. | .vdmBusy .. | .vdmRetry .. | .moveComplete .. | .limiting .. => [.regs, .sig, .pow]
  | .detach .. | .busUv | .moveTimeout .. | .buckTimeout .. | .gateTimeout .. | .ocpTimer .. | .fastTrip .. | .overvolt .. | .undervolt ..
    | .reverse .. => [.regs, .sig, .sw, .pool, .gd, .port, .link, .pow, .scan, .br, .engs, .usb, .freeCtr]
  | .eprKeepaliveTimeout .. | .hardReset .. | .reject .. | .goodcrcTimeout .. | .notSupported .. | .senderResponseTimeout ..
    | .psTransitionTimeout .. => [.regs, .sig, .sw, .gov, .pool, .gd, .port, .link, .pow, .scan, .br, .engs, .usb, .freeCtr]
  | .accept .. => [.regs, .sig, .sw, .gov, .pool, .gd, .port, .link, .pow, .scan, .br, .engs, .freeCtr]
  | .psRdy .. => [.regs, .sig, .gov, .pow, .usb]
  | .goodcrc .. => [.regs, .lag, .sig, .link, .pow]
  | .getStatus .. | .getRevision .. | .getSourceCapExtended .. => [.regs, .sig, .pow, .freeCtr]
  | .errorRecoveryEnd .. | .measurementSample .. => [.regs, .pow]
  | .frameTrigger .. => [.regs, .scan]
  | .fetchError .. => [.regs, .sig, .scan]
  | .signal .. | .intr .. | .regAck .. | .regData .. | .sigSend .. | .hookTimeout .. =>
      [.regs, .sig, .sw, .pool, .gd, .port, .link, .scan, .br, .engs, .pwr, .freeCtr, .mem]
  | .raLife .. => [.regs, .sig, .br]
  | .add .. | .sub .. | .and .. | .or .. | .xor .. | .shl .. | .shr .. | .sar .. | .mul .. | .sltu .. | .addi .. | .andi .. | .ori ..
    | .xori .. | .lui .. | .ldb .. | .stb .. | .beq .. | .bne .. | .blt .. | .bltu .. | .jal .. | .jr .. | .csrr .. | .csrw .. | .wait ..
    | .retn .. | .retf .. | .ckpt .. | .fence .. | .trap .. | .illegalInstruction .. | .watchdog .. | .engineFault .. =>
      [.regs, .sig, .slots, .sw, .pool, .gd, .port, .link, .repair, .scan, .br, .engs, .pwr, .freeCtr, .mem]
  | .ld .. => [.regs, .sig, .slots, .latch, .sw, .pool, .gd, .port, .link, .repair, .scan, .br, .engs, .pwr, .freeCtr, .mem]
  | .fastEntry .. | .normalEntry .. => [.regs, .engs]
  | .autoCkpt => [.regs, .engs, .mem]
  | .lockstepMismatch => [.regs, .sig, .repair, .engs, .freeCtr]
  | .engLoad .. | .engStop .. => [.regs, .sig, .slots, .sw, .pool, .gd, .port, .link, .scan, .br, .engs, .pwr, .freeCtr, .mem]
  | .domainTransition .. => [.regs, .lag, .sig, .slots, .time, .sw, .gov, .pool, .link, .repair, .scan, .br, .engs, .pwr, .vault, .freeCtr, .mem]
  | .domainTransitionTimeout .. => [.regs, .sig, .repair, .pwr]
  | .warnTrip .. | .xtalLost | .xtalReturn | .x32kLost => [.regs, .sig, .pwr]
  | .rideThroughEnd => [.regs, .lag, .sig, .slots, .sw, .pool, .gd, .port, .link, .scan, .br, .engs, .pwr, .vault, .freeCtr]
  | .thermalTrip .. =>
      [.regs, .lag, .sig, .slots, .latch, .time, .sw, .gov, .pool, .gd, .port, .link, .pow, .scan, .br, .engs, .pwr, .vault, .otp, .rep, .usb, .smbPtr, .freeCtr, .mem]
  | .pllSwitchDone => [.regs, .sig, .slots, .time, .sw, .link, .engs, .pwr, .freeCtr, .mem]
  | .imageVerified .. => [.regs, .sig, .slots, .engs, .pwr, .rep, .usb, .mem]
  | .remask => [.regs, .vault, .freeCtr]
  | .tamperTrip .. => [.regs, .sig, .slots, .sw, .pool, .gd, .port, .link, .scan, .br, .engs, .vault, .rep, .freeCtr]
  | .getVersion .. | .getCapabilities .. | .negotiateAlgorithms .. | .finish .. | .endSession .. => [.sig, .vault]
  | .challenge .. => [.sig, .freeCtr]
  | .keyExchange .. => [.sig, .vault, .freeCtr]
  | .keyProg .. => [.regs, .sig, .vault, .freeCtr]
  | .kSetGo .. | .kSetStop .. => [.regs, .sig, .vault]
  | .otpWriteDone .. => [.regs, .sig, .otp, .freeCtr]
  | .bistProgramDone .. | .avsMeasure .. | .avsAck => [.regs, .sig, .rep]
  | .record => [.regs, .sig, .repair, .otp]
  | .avsStep => [.sig, .rep]
  | .busReset .. => [.regs, .sig, .slots, .usb]
  | .suspend | .getView | .setAddress .. | .setConfiguration .. | .setFeature .. | .clearFeature .. | .ep1In => [.sig, .usb]
  | .resume | .remoteWake .. | .downstreamAttach .. | .outToken .. | .serviceAttach .. => [.regs, .sig, .usb]
  | .regRead .. | .ep2Read => [.regs, .sig, .slots, .latch, .link, .usb, .freeCtr]
  | .recoveryImage .. => [.regs, .sig, .slots, .engs, .pwr, .rep, .mem]
  | .smbusSetPointer .. => [.regs, .sig, .smbPtr]
  | .smbusRead .. => [.regs, .sig, .slots, .latch, .link, .smbPtr, .freeCtr]
  | .targetError .. => [.regs, .sig, .pool, .port]
  | .hostFunctionRequest .. => [.regs, .sig, .sw, .port, .link, .pwr, .freeCtr]
  | .vatWake => [.regs, .pwr]

end Sys2Proof.Machine
end

