-- ==== Sys2Proof/Certificates/Slice0/Obligations.lean ====
section
/-! DEFINITION. What is claimed of the hub: the statements for the provers. -/

open Sys2Proof Sys2Proof.Machine

/-! ## The block as a whole -/

/-- A step takes the command at the front of the queue and answers what that command does with the rest of the queue. -/
def Obligations.StepRunsTheFrontCommand : Prop :=
  ∀ (s : State) (c : Instr) (rest : List Instr), step { s with pending := c :: rest } = exec c { s with pending := rest }

/-- With nothing waiting the time-driven counts advance and nothing else happens: a choice of the model (log entry 26). -/
def Obligations.IdleStepLetsTimePass : Prop :=
  ∀ s : State, s.pending = [] → step s = .next s.timePasses

/-- No command stops the block: each of the 463 answers a next state from every state, with every operand. -/
def Obligations.NoCommandStopsTheBlock : Prop :=
  ∀ (c : Instr) (s : State), ∃ t, exec c s = .next t

/-- A step that takes a command leaves the rest of the queue as it was, whatever the command does. -/
def Obligations.QueueLosesOnlyItsFront : Prop :=
  ∀ (s t : State) (c : Instr) (rest : List Instr), s.pending = c :: rest → step s = .next t → t.pending = rest

/-- The frame of every command, by the parts of State: a command changes only the parts that `touches` names for it. -/
def Obligations.CommandsReachOnlyTheirParts : Prop :=
  ∀ (c : Instr) (s t : State) (p : StatePart), exec c s = .next t → p ∉ touches c → p.same s t

/-- OTP is write-once: whatever a step does, a blown bit of OTP stays blown. -/
def Obligations.BlownOtpBitsStayBlown : Prop :=
  ∀ s t : State, step s = .next t → ∀ w b, s.blown w b = true → t.blown w b = true

/-- Every step keeps the canonical form of the engine memories, so that equal memories are equal data. -/
def Obligations.EngineMemoriesStayCanonical : Prop :=
  ∀ s t : State, memWf s.mem = true → step s = .next t → memWf t.mem = true

/-- Reset meets the invariants: the engine memories are in canonical form (they are empty), no OTP bit is blown (the model's choice of a blank
OTP, log entry 2), and no command waits. -/
def Obligations.ResetMeetsTheInvariants : Prop :=
  memWf State.reset.mem = true ∧ (∀ w b, State.reset.blown w b = false) ∧ State.reset.pending = []

/-- After reset every register field holds its Reset value, but for DRBG_STAT.OK, AVS_STAT.SET_MV and the PD_STAT.RP of the sixteen dock ports,
which the start has already set (R294, R419, R471). -/
def Obligations.ResetRegistersHoldTheirResetValues : Prop :=
  (∀ f : Fld, f.key ≠ F.DRBG_STAT_OK.key → f.key ≠ F.AVS_STAT_SET_MV.key → (∀ n : Fin 16, f.key ≠ (F.PD_STAT_RP n).key) →
    State.reset.get f = f.reset) ∧
  State.reset.get F.DRBG_STAT_OK = 1 ∧ State.reset.get F.AVS_STAT_SET_MV = 750 ∧ ∀ n : Fin 16, State.reset.get (F.PD_STAT_RP n) = 2

/-! ## The management space (chapter 2) -/

/-- A refused write (R19): the error count, the log and the address are written, no other register field changes, EV0034 is raised, and no
other part of the state changes. A write that is not aligned reaches two registers, neither whole (R18): each is judged, the first refused as
partial where it is in view. -/
def Obligations.RefusedWriteIsLoggedAndChangesNothing : Prop :=
  (∀ (s : State) (p : Path) (addr : BitVec 26) (v : Word), addr.toNat % 4 ≠ 0 → s.isDark = false → s.inView p (addr.toNat / 4 * 4) = true →
    exec (.registerWrite p addr [v] [15]) s = .next ((s.refuse p (addr.toNat / 4 * 4) .partialWrite).writeVia p ((addr.toNat / 4 * 4 + 4) % 2 ^ 26) v.toNat
      (15 * 2 ^ (addr.toNat % 4) / 16) (fun s => s))) ∧
  ∀ (s : State) (p : Path) (addr : BitVec 26) (v : Word) (be : BitVec 4) (r : Reason), addr.toNat % 4 = 0 →
    s.judge p addr.toNat v.toNat be.toNat = .refused r →
    Answers (exec (.registerWrite p addr [v] [be]) s) (fun t =>
      t.get F.ACC_ERR_COUNT_COUNT = satAdd 32 (s.get F.ACC_ERR_COUNT_COUNT) 1 ∧
      t.get F.ACC_ERR_LOG_REASON = reasonCode r ∧ t.get F.ACC_ERR_LOG_REQ = pathCode p ∧ t.get F.ACC_ERR_ADDR_OFFSET = addr.toNat ∧
      t.evStat 34 = true ∧
      (∀ f : Fld, f.key ≠ F.ACC_ERR_COUNT_COUNT.key → f.key ≠ F.ACC_ERR_LOG_REASON.key → f.key ≠ F.ACC_ERR_LOG_REQ.key →
        f.key ≠ F.ACC_ERR_ADDR_OFFSET.key → t.get f = s.get f) ∧
      (∀ q : StatePart, q ≠ .regs → q ≠ .sig → q.same s t))

/-- Which writes are refused or ignored before the page is looked at (R16, R19, R482): outside the path's view with OUTSIDE_VIEW, with a byte
enable clear with PARTIAL_WRITE, and at an offset of no page nothing happens. -/
def Obligations.WritesAreJudgedByViewAndByteEnables : Prop :=
  ∀ (s : State) (p : Path) (addr v be : Nat), s.isDark = false →
    (s.inView p addr = false → s.judge p addr v be = .refused .outsideView) ∧
    (s.inView p addr = true → be ≠ 15 → s.judge p addr v be = .refused .partialWrite) ∧
    (s.inView p addr = true → be = 15 → pageOf addr = none → s.judge p addr v be = .ignored)

/-- OWNER_WRITE (R24, R25): an accepted write sets the page's OWNER, and PAGE_SEQ counts it if it changed; no other register field and no other
part of the state changes. -/
def Obligations.OwnerWriteSetsTheOwner : Prop :=
  ∀ (s : State) (p : Path) (page : BitVec 14) (v : Word), s.takes p (page.toNat * 4096 + 0x20) v.toNat →
    Answers (exec (.ownerWrite p page v) s) (fun t =>
      t.get (hOwner (page.toNat * 4096)) = v.toNat % 256 ∧
      t.get (hSeq (page.toNat * 4096)) = (if s.get (hOwner (page.toNat * 4096)) = v.toNat % 256 then s.get (hSeq (page.toNat * 4096))
        else (s.get (hSeq (page.toNat * 4096)) + 1) % 2 ^ 32) ∧
      (∀ f : Fld, f.key ≠ (hOwner (page.toNat * 4096)).key → f.key ≠ (hSeq (page.toNat * 4096)).key → t.get f = s.get f) ∧
      (∀ q : StatePart, q ≠ .regs → q.same s t))

/-- The writes that a page's OWNER takes (R24), in the stated order: an OWNER that cannot be written is refused with BAD_VALUE whatever the
path, then a path that is neither requester 0x20 nor the fabric manager's host with NOT_OWNER, then a held page with PAGE_HELD. What is accepted acts at once while the page's domain
is ON and else enters its wake image, OWNER being a saved register (R26). -/
def Obligations.OwnerWritesAreJudgedInOrder : Prop :=
  ∀ (s : State) (c : Nat) (g : Page),
    (ownerFixed g.ps.kind g.n = true → s.judgeOwner c g = .refused .badValue) ∧
    (ownerFixed g.ps.kind g.n = false → c ≠ 0x20 → ¬ (c < 32 ∧ s.get F.FM_PATH_REQ = c) → s.judgeOwner c g = .refused .notOwner) ∧
    (ownerFixed g.ps.kind g.n = false → (c = 0x20 ∨ (c < 32 ∧ s.get F.FM_PATH_REQ = c)) → s.get (hTxnTag g.pg) ≠ 0 →
      s.judgeOwner c g = .refused .pageHeld) ∧
    (ownerFixed g.ps.kind g.n = false → (c = 0x20 ∨ (c < 32 ∧ s.get F.FM_PATH_REQ = c)) → s.get (hTxnTag g.pg) = 0 →
      s.judgeOwner c g = if s.domState (pageDom g.ps.kind g.n) = 0 then .direct else .image)

/-- A page whose EN is 0 refuses a write to a block register that is not banked per path, unless requester 0x20 writes (R23); here for a
whole write by the page's owner. -/
def Obligations.DisabledPageRefusesItsBlockRegisters : Prop :=
  ∀ (s : State) (p : Path) (addr v : Nat) (g : Page) (r : RegSpec) (i : Nat),
    s.isDark = false → s.inView p addr = true → s.viewReadOnly p addr = false → pageOf addr = some g →
    findReg g.ps.kind (addr % 4096) = some (r, i) → 0x40 ≤ addr % 4096 → s.owns (pathCode p) g.pg = true →
    s.on (hEn g.pg) = false → pathCode p ≠ 0x20 → r.bank ≠ .perPath → s.judge p addr v 15 = .refused .badValue

/-- PAGE_ENABLE (R23) and EVT_EN_WRITE (R369): the header field holds the value written, every other field but PAGE_SEQ is as it was, and what
the write lets through is delivered. -/
def Obligations.HeaderWritesSetTheirFields : Prop :=
  (∀ (s : State) (p : Path) (page : BitVec 14) (en : Bool),
    s.takes p (page.toNat * 4096 + 8) (b2n en + 2 * s.get (hDomReq (page.toNat * 4096))) → s.get (hDomReq (page.toNat * 4096)) < 4 →
    Answers (exec (.pageEnable p page en) s) (fun t =>
      t = ((s.storeAt (pathCode p) (page.toNat * 4096 + 8) (b2n en + 2 * s.get (hDomReq (page.toNat * 4096)))).afterEn s (page.toNat * 4096)).afterDomReq
        s (page.toNat * 4096) ∧
      t.get (hEn (page.toNat * 4096)) = b2n en ∧
      (∀ f : Fld, f.key ≠ (hEn (page.toNat * 4096)).key → f.key ≠ (hSeq (page.toNat * 4096)).key → t.get f = s.get f))) ∧
  (∀ (s : State) (p : Path) (page : BitVec 14) (v : Word), s.takes p (page.toNat * 4096 + 0x14) v.toNat →
    Answers (exec (.evtEnWrite p page v) s) (fun t =>
      t = (s.storeAt (pathCode p) (page.toNat * 4096 + 0x14) v.toNat).afterEvtEn s (page.toNat * 4096) ∧
      t.get (hEvtEn (page.toNat * 4096)) = v.toNat ∧
      (∀ f : Fld, f.key ≠ (hEvtEn (page.toNat * 4096)).key → f.key ≠ (hSeq (page.toNat * 4096)).key → t.get f = s.get f)))

/-- A write that acts at once stores its value and then does what the register does (R4, R35); transactions whose condition it meets commit. A
wider write writes each register that it touches, in ascending order, those with all four bytes whole and the others in part (R18). -/
def Obligations.RegisterWriteStoresAndActs : Prop :=
  (∀ (s : State) (p : Path) (addr : BitVec 26) (v : Word), addr.toNat % 4 = 0 → s.takes p addr.toNat v.toNat → addr ≠ 0x2050 → addr ≠ 0x2054 →
    ∀ (g : Page) (r : RegSpec) (i : Nat), pageOf addr.toNat = some g → findReg g.ps.kind (addr.toNat % 4096) = some (r, i) →
    exec (.registerWrite p addr [v] [15]) s = .next (State.settled (
      if addr.toNat % 4096 < 0x40 then ((s.storeAt (pathCode p) addr.toNat v.toNat).headerFx s g.pg (addr.toNat % 4096) v.toNat).bumpIf
        (addr.toNat % 4096 == 0x10 && Nat.land (s.evtStatWord g.pg) v.toNat != 0) g.pg
      else if guardRule ⟨0, addr.toNat, v.toNat⟩ then s.storeAt (pathCode p) addr.toNat v.toNat
      else (s.storeAt (pathCode p) addr.toNat v.toNat).effect s
        ⟨g.ps.kind, g.n, r.off, i, s.bankOf (pathCode p) g.n r.bank - 1, pathCode p, v.toNat⟩))) ∧
  (∀ (s : State) (p : Path) (addr : BitVec 26) (v w : Word), addr.toNat % 4 = 0 → exec (.registerWrite p addr [v, w] [15, 15]) s =
    .next ((s.writeWord p addr.toNat v.toNat 15).writeWord p ((addr.toNat + 4) % 2 ^ 26) w.toNat 15)) ∧
  (∀ (s : State) (p : Path) (addr : BitVec 26) (v w : Word) (k : Nat), k = addr.toNat % 4 → k ≠ 0 →
    exec (.registerWrite p addr [v, w] [15, 15]) s = .next (((s.writeWord p (addr.toNat - k) (v.toNat * 256 ^ k % 2 ^ 32) (15 * 2 ^ k % 16)).writeWord p
      ((addr.toNat - k + 4) % 2 ^ 26) (v.toNat / 256 ^ (4 - k) + w.toNat * 256 ^ k % 2 ^ 32) 15).writeWord p
      ((addr.toNat - k + 8) % 2 ^ 26) (w.toNat / 256 ^ (4 - k)) (15 * 2 ^ k / 16)))

/-- TXN_OPEN (R28): the lowest slot that is free and out of quarantine is opened for the path, under its next generation, and the read returns
the tag; with no such slot the read returns 0 and opens nothing. -/
def Obligations.TransactionOpensTheLowestFreeSlot : Prop :=
  ∀ (s : State) (p : Path), s.mayRead p 0x2040 = true →
    (∀ i : Nat, i < 8 → (s.slot i).state = .free → (s.slot i).quar = false →
      (∀ j, j < i → ¬ ((s.slot j).state = .free ∧ (s.slot j).quar = false)) →
      Answers (exec (.txnOpen p) s) (fun t =>
        t.slot i = { s.slot i with state := .opened, gen := ((s.slot i).gen + 1) % 16, opener := pathCode p, entries := [] } ∧
        (∀ j, j ≠ i → t.slot j = s.slot j) ∧ t.regs = s.regs ∧
        t.sig.out = .readData (pathCode p) 0x2040 (tagOf i (((s.slot i).gen + 1) % 16)) :: s.sig.out)) ∧
    ((∀ j, j < 8 → ¬ ((s.slot j).state = .free ∧ (s.slot j).quar = false)) →
      exec (.txnOpen p) s = .next (s.emit (.readData (pathCode p) 0x2040 0)))

/-- Writes of TXN_COMMIT and TXN_ABORT are judged by the cases of R39's table, in its order: the first that applies decides. -/
def Obligations.CommitsAndAbortsAreJudgedInOrder : Prop :=
  ∀ (s : State) (p : Path) (v : Word) (i : Nat) (x : Slot), i = bits v.toNat 0 3 → x = s.slot i →
    (s.takes p 0x2050 v.toNat → x.state = .free ∨ x.gen ≠ bits v.toNat 12 4 → exec (.txnCommit p v) s = .next (s.stale 5)) ∧
    (s.takes p 0x2054 v.toNat → x.state = .free ∨ x.gen ≠ bits v.toNat 12 4 → exec (.txnAbort p v) s = .next (s.stale 5)) ∧
    (x.state ≠ .free → x.gen = bits v.toNat 12 4 → x.opener ≠ pathCode p → pathCode p ≠ 0x20 →
      (s.takes p 0x2050 v.toNat → exec (.txnCommit p v) s = .next (s.refuse p 0x2050 .notOwner)) ∧
      (s.takes p 0x2054 v.toNat → exec (.txnAbort p v) s = .next (s.refuse p 0x2054 .notOwner))) ∧
    (x.state ≠ .free → x.gen = bits v.toNat 12 4 → (x.opener = pathCode p ∨ pathCode p = 0x20) →
      (s.takes p 0x2050 v.toNat →
        (x.state = .armed → exec (.txnCommit p v) s = .next (s.refuse p 0x2050 .badCond)) ∧
        (x.state = .broken → exec (.txnCommit p v) s = .next (s.dropSlot i 7)) ∧
        (x.state = .opened → 4 ≤ bits v.toNat 16 4 → exec (.txnCommit p v) s = .next (s.refuse p 0x2050 .badCond)) ∧
        (x.state = .opened → bits v.toNat 16 4 < 4 → exec (.txnCommit p v) s = .next (s.armSlot i (pathCode p) v.toNat).settled)) ∧
      (s.takes p 0x2054 v.toNat → (x.drain = true → exec (.txnAbort p v) s = .next (s.stale 5)) ∧
        (x.drain = false → exec (.txnAbort p v) s = .next (s.dropSlot i 3))))

/-- The end of a transaction without a commit (R38, R41), by the hub or by an abort: its slot is free with the result, and its entries are
gone; another slot is as it was. -/
def Obligations.DroppedTransactionFreesItsSlot : Prop :=
  ∀ (s : State) (i r : Nat), ((s.dropSlot i r).slot i).state = .free ∧ ((s.dropSlot i r).slot i).entries = [] ∧
    ((s.dropSlot i r).slot i).result = r ∧ (∀ j, j ≠ i → (s.dropSlot i r).slot j = s.slot j)

/-- Transactions end in time (R33, R37, R40, R48): an armed one whose hub time has come commits with all of its fine slot, one left open past the idle limit is dropped as
idle with EV0033, and a slot in quarantine comes free. -/
def Obligations.TransactionsEndInTime : Prop :=
  (∀ (s : State) (i : Fin 8), (s.slot i).state = .armed → (s.slot i).cond = 1 → fineSlot (s.slot i).param ≤ s.now →
    exec (.atTimeCommit i) s = .next
      (((List.range 8).filter (fun j => s.dueInstant j == some (fineSlot (s.slot i).param))).foldl (fun s j => s.markMet j false) s).settled) ∧
  (∀ (s : State) (i : Fin 8), (s.slot i).state = .opened → s.get F.TXN_IDLE_LIMIT_MS ≠ 0 →
    exec (.abortedIdle i) s = .next ((s.dropSlot i 4).raise 33)) ∧
  (∀ (s : State) (i : Nat), i < 8 → (s.slot i).quar = true →
    exec (.quarantineEnd 5 i) s = .next (s.setSlot i { s.slot i with quar := false }))

/-! ## Mailboxes and events (chapters 2 and 16) -/

/-- The mailbox commands (R43, R45, R47, R376, R483): posting, the rings' control, and the two opcodes that need no other unit. -/
def Obligations.MailboxCommandsRun : Prop :=
  (∀ (s : State) (p : Path) (h : Fin 32) (count : Word) (l : List CmdHead), s.takes p (0x8005C + 0x1000 * h.val) count.toNat →
    exec (.cmdPost p h count l) s = .next ((s.storeAt (pathCode p) (0x8005C + 0x1000 * h.val) count.toNat).post h l)) ∧
  (∀ (s : State) (h : Fin 32) (seq : Word), s.runs h seq.toNat 0 = true → exec (.nop h seq) s = .next (s.complete h seq.toNat 0 0)) ∧
  (∀ (s : State) (h : Fin 32) (seq : Word) (c : CmdHead), s.running? h seq.toNat = some c → c.opcode.toNat ∉ definedOpcodes →
    exec (.unknownOpcode h seq) s = .next (s.complete h seq.toNat 255 0)) ∧
  (∀ (s : State) (p : Path) (h : Fin 32) (count : Word), s.takes p (0x80068 + 0x1000 * h.val) count.toNat →
    exec (.evtConsumedWrite p h count) s = .next ((s.storeAt (pathCode p) (0x80068 + 0x1000 * h.val) count.toNat).consumed h)) ∧
  (∀ (s : State) (p : Path) (h : Fin 32), s.takes p (0x80078 + 0x1000 * h.val) 1 →
    Answers (exec (.resync p h) s) (fun t =>
      t.mail h = { s.mail h with rsDone := (s.mail h).done, rsEvt := (s.mail h).evtSeq, rsCfg := s.get F.CFG_SEQ_COUNT, rsValid := true } ∧
      (∀ k : Nat, k ≠ h.val → t.mail k = s.mail k) ∧ t.regs = s.regs)) ∧
  (∀ (s : State) (p : Path) (h : Fin 32),
    s.takes p (0x80040 + 0x1000 * h.val) (4 + 2 * s.get (F.RING_CTRL_EVT_EN h) + s.get (F.RING_CTRL_CMD_EN h)) →
    exec (.ringRestart p h) s = .next (((s.bump (0x80000 + 0x1000 * h.val)).restart h).readPosted h)) ∧
  (∀ (s : State) (p : Path) (h : Fin 32) (c e : Bool), s.takes p (0x80040 + 0x1000 * h.val) (b2n c + 2 * b2n e) →
    exec (.ringEnable p h c e) s = .next ((s.storeAt (pathCode p) (0x80040 + 0x1000 * h.val) (b2n c + 2 * b2n e)).ringCtrl s h false))

/-- An entry that the hub reads (R45): one with the next SEQ starts and becomes the last read; another starts nothing and halts the ring. -/
def Obligations.EntriesStartInSequence : Prop :=
  ∀ (s : State) (h : Nat) (c : CmdHead), (s.mail h).halted = false → s.rep.run = false →
    (c.seq.toNat = ((s.mail h).lastSeq + 1) % 2 ^ 32 →
      ((s.readEntry h c).mail h).running = (s.mail h).running ++ [c] ∧ ((s.readEntry h c).mail h).lastSeq = c.seq.toNat ∧
      ((s.readEntry h c).mail h).halted = false) ∧
    (c.seq.toNat ≠ ((s.mail h).lastSeq + 1) % 2 ^ 32 →
      s.readEntry h c = ((s.setMail h { s.mail h with halted := true }).raise (64 + 2 * h)).postRec h
        { seq := 0, typ := 3, source := 70, ref := c.seq.toNat, status := ((s.mail h).lastSeq + 1) % 2 ^ 32,
          addr := (s.mail h).cmdBase + 64 * ((s.mail h).read % 2 ^ (s.mail h).cmdLog2), data := 0 })

/-- What the event unit's commands do: reads of the claim, time and held-count registers, completions, routes, rings, targets, MSI-X and the
filtered pins (R51, R371-R380); a read that is not aligned returns both registers it touches, and a wider one each in ascending order (R18). -/
def Obligations.EventCommandsAct : Prop :=
  (∀ (s : State) (p : Path) (addr : BitVec 26), addr.toNat % 4 = 0 → s.mayRead p addr.toNat = true →
    Answers (exec (.nowLoRead p ⟨addr, 0⟩) s) (fun t =>
      t.sig.out = .readData (pathCode p) addr.toNat (s.read p addr.toNat).1 :: (s.read p addr.toNat).2.sig.out)) ∧
  (∀ (s : State) (p : Path) (addr : BitVec 26), addr.toNat % 4 ≠ 0 → exec (.nowLoRead p ⟨addr, 0⟩) s =
    .next ((s.readWord p (addr.toNat / 4 * 4)).readWord p ((addr.toNat / 4 * 4 + 4) % 2 ^ 26))) ∧
  (∀ (s : State) (p : Path) (r : ReadSpan), r.addr.toNat % 4 = 0 → exec (.nowLoRead p r) s =
    .next ((List.range (r.more.toNat + 1)).foldl (fun s j => s.readWord p ((r.addr.toNat + 4 * j) % 2 ^ 26)) s)) ∧
  (∀ (s : State) (p : Path) (t : Fin 57) (fast : Bool), s.mayRead p (0xC0050 + 0x1000 * t.val + (if fast then 8 else 0)) = true →
    s.get (hOwner (0xC0000 + 0x1000 * t.val)) = pathCode p →
    exec (.claim p t fast) s = .next ((s.claim t fast).2.emit
      (.readData (pathCode p) (0xC0050 + 0x1000 * t.val + (if fast then 8 else 0)) (s.claim t fast).1))) ∧
  (∀ (s : State) (p : Path) (t : Fin 57) (fast : Bool) (ev : BitVec 12),
    s.takes p (0xC0054 + 0x1000 * t.val + (if fast then 8 else 0)) ev.toNat →
    exec (.complete p t fast ev) s = .next (s.completeEv t fast ev.toNat)) ∧
  (∀ (s : State) (t : Fin 57), s.tgtEnabled t = true → exec (.targetEnable t) s = .next (s.deliverHeld t)) ∧
  (∀ (s : State) (t : Fin 57), s.tgtEnabled t = false → exec (.targetEnable t) s = .next (s.dropTarget t)) ∧
  (∀ (s : State) (p : Path) (v : Word), s.takes p 0x21044 v.toNat →
    exec (.evRouteWrite p v) s = .next ((s.storeAt (pathCode p) 0x21044 v.toNat).routed (s.get (F.EV_SEL_EVENT (pathCode p))))) ∧
  (∀ (s : State) (p : Path) (t : Fin 57) (v : Word), s.takes p (0xC004C + 0x1000 * t.val) v.toNat →
    exec (.tgtQconsWrite p t v) s = .next ((s.storeAt (pathCode p) (0xC004C + 0x1000 * t.val) v.toNat).qcons t)) ∧
  (∀ (s : State) (h : Fin 32), (s.tgt h).msix = false → exec (.msixEnable h (.enable true)) s = .next (s.msixOn h)) ∧
  (∀ (s : State) (h : Fin 32), Answers (exec (.msixEnable h (.enable false)) s) (fun t => t.tgt h = { s.tgt h with msix := false } ∧ t.regs = s.regs)) ∧
  (∀ (s : State) (h : Fin 32), Answers (exec (.msixEnable h (.mask true)) s) (fun t => (t.tgt h).fmask = true ∧ t.regs = s.regs ∧ t.sig.out = s.sig.out)) ∧
  (∀ (s : State) (h : Fin 32) (v : Fin 64) (a : BitVec 64) (d : Word), Answers (exec (.msixEnable h (.entry v a d true)) s) (fun t =>
    t.tgt h = { s.tgt h with vecs := tset (s.tgt h).vecs v { tget {} (s.tgt h).vecs v with addr := a.toNat, data := d.toNat, masked := true } } ∧
    t.regs = s.regs ∧ t.sig.out = s.sig.out)) ∧
  (∀ (s : State) (i : Fin 5) (level : Bool), s.on (F.PF_LEVEL i) ≠ level →
    Answers (exec (.pinFilterEdge i level) s) (fun t => t.get (F.PF_LEVEL i) = b2n level ∧
      (hasBit (s.get (F.PF_EDGE i)) (if level then 0 else 1) = true → t.evStat (pinEvent i) = true) ∧
      (∀ f : Fld, f.key ≠ (F.PF_LEVEL i).key → t.get f = s.get f))) ∧
  (∀ (s : State) (p : Path), s.mayRead p 0x20044 = true →
    Answers (exec (.heldCountRead p) s) (fun t =>
      t.sig.out = .readData (pathCode p) 0x20044 (s.peek (pathCode p) 0x20044) :: s.sig.out ∧ t.regs = s.regs))

/-- A claim (R377): the highest pending event of the class goes from pending to in service, and the read returns its number with bit 31. -/
def Obligations.ClaimTakesTheHighestPendingEvent : Prop :=
  ∀ (s : State) (t : Nat), (s.tgt t).pendN ≠ [] →
    ∃ ev, ev ∈ (s.tgt t).pendN ∧ (∀ e, e ∈ (s.tgt t).pendN → e ≤ ev) ∧ (s.claim t false).1 = 2 ^ 31 + ev ∧
      ((s.claim t false).2.tgt t).pendN = (s.tgt t).pendN.erase ev ∧ ((s.claim t false).2.tgt t).servN = ev :: (s.tgt t).servN ∧
      ((s.claim t false).2.evRec ev).phase = .inService

/-- An event that is raised (R369) has its EVT_STAT bit set, no other EVT_STAT bit falls, and raising it changes no register field. -/
def Obligations.RaisedEventsStand : Prop :=
  ∀ (s : State) (ev : Nat), (evSrc ev).isSome = true →
    (s.raise ev).evStat ev = true ∧ (∀ e, s.evStat e = true → (s.raise ev).evStat e = true) ∧ (∀ f : Fld, (s.raise ev).get f = s.get f)

/-! ## Hub time, axes, triggers and captures (chapter 3) -/

/-- Hub time and its protocols: a step, the end of a slew, PTP and PTM, and the sync inputs (R53-R61, R79). -/
def Obligations.TimeCommandsAct : Prop :=
  (∀ (s : State) (p : Path), s.takes p 0x1005C 1 → exec (.stepGo p) s = .next ((s.bump 0x10000).stepGo.stepScan s.stepOffset).settled) ∧
  (∀ s : State, s.on F.TIME0_CLK_STAT_SLEWING = true → s.time.clk.slew = 0 →
    Answers (exec .slewComplete s) (fun t => t.on F.TIME0_CLK_STAT_SLEWING = false ∧ t.time.clk = s.time.clk ∧ t.evStat 3075 = true)) ∧
  (∀ (s : State) (port : Fin 48) (m : PtpIn), s.ptpOn port = true → m.dom.toNat = s.get F.PTP_CTRL_DOMAIN →
    exec (.ptpMessage port m) s = .next (s.ptpMsg port m.off.toNat m.msg)) ∧
  (∀ (s : State) (port : Fin 48) (off : BitVec 8), s.ptpOn port = true → (s.ptp port).state = .master →
    Answers (exec (.ptpMessageInterval port ⟨.announce, off⟩) s) (fun t =>
      t.sig.out = .ptp port 11 (s.ptp port).seqAnn (s.stampOut (ptpXbar port) off.toNat)
        ⟨s.get F.PTP_CTRL_DOMAIN, s.clockIdentity, s.get F.PTP_CTRL_PRIORITY1, s.get F.PTP_CTRL_PRIORITY2⟩ :: s.sig.out ∧
      (t.ptp port).seqAnn = ((s.ptp port).seqAnn + 1) % 65536 ∧ t.regs = s.regs)) ∧
  (∀ (s : State) (port : Fin 48) (m : PtpOut), s.ptpOn port = true →
    exec (.ptpMessageInterval port m) s = .next (s.ptpSend port m.kind m.off.toNat)) ∧
  (∀ (s : State) (h : Fin 32) (b : BitVec 64), s.on (F.PTM_CTRL_EN h) = true → s.get (F.HP_STAT_LINK h) = 2 →
    Answers (exec (.ptmDialogue (.host h) b) s) (fun t =>
      t.get64 (F.PTM_HOST_LO_NS h) (F.PTM_HOST_HI_NS h) = b.toNat ∧ t.getI64 (F.PTM_HUB_LO_NS h) (F.PTM_HUB_HI_NS h) =
        toSigned 64 (ofSigned 64 (s.stampIn h 0)) ∧ .ptmReq h ∈ t.sig.out ∧ t.evStat (260 + 32 * h.val) = true)) ∧
  (∀ (s : State) (m : Fin 16) (id : BitVec 16) (b : BitVec 64), s.get (F.MP_STAT_LINK m) = 2 → s.eff (F.MP_CTRL_MODE m) = 2 →
    exec (.ptmDialogue (.device m id) b) s = .next (s.ptmAnswer (32 + m) id.toNat 0)) ∧
  (∀ (s : State) (m : Fin 4) (level : Bool), s.on (F.SYNC_CTRL_EN m) = true → s.timeOn = true → (s.sync m).seen = true → (s.sync m).level ≠ level →
    level ≠ s.on (F.SYNC_CTRL_EDGE m) → exec (.syncEdge m level) s = .next ((s.syncEdge m level).soSync m)) ∧
  (∀ (s : State) (m : Fin 4), s.on (F.SYNC_CTRL_EN m) = true → s.timeOn = true → s.get (F.SYNC_PERIOD_NS m) ≠ 0 → s.on (F.SYNC_CTRL_LOST m) = false →
    5 * s.get (F.SYNC_PERIOD_NS m) ≤ 2 * (s.now - (s.sync m).last) → exec (.syncLost m) s = .next (((s.set (F.SYNC_CTRL_LOST m) 1).raise (3076 + m.val)).soLost m))

/-- The axes: transitions, software steps, Z pulses (a start level of Z is none), velocity, crossings, and their commands (R63-R73). -/
def Obligations.AxisCommandsAct : Prop :=
  (∀ (s : State) (a : Fin 8) (la lb : Bool), s.get (F.AX_CTRL_SOURCE a) = 0 →
    exec (.axisTransition a la lb) s = .next (s.quadrature a la lb).settled) ∧
  (∀ (s : State) (p : Path) (a : Fin 8) (d : Word), s.takes p (0x1408C + 0x1000 * a.val) d.toNat →
    exec (.swDelta p a d) s = .next (s.swDelta a d.toNat).settled) ∧
  (∀ (s : State) (a : Fin 8), s.get (F.AX_CTRL_SOURCE a) = 0 → s.get (F.AX_CTRL_Z_MODE a) ≠ 0 → (s.axis a).z = false → (s.axis a).zStart = true →
    exec (.zPulse ⟨a, true⟩) s = .next (((s.setAxis a { s.axis a with z := true, zStart := true }).showLevels a).zPulse a).settled) ∧
  (∀ (s : State) (a : Fin 8) (z : Bool), s.get (F.AX_CTRL_SOURCE a) = 0 → (s.axis a).zStart = false →
    Answers (exec (.zPulse ⟨a, z⟩) s) (fun t => t.axis a = { s.axis a with z := z, zStart := true } ∧ t.sig.out = s.sig.out ∧
      ∀ f : Fld, f.key ≠ (F.AX_STAT_ZBA a).key → t.get f = s.get f)) ∧
  (∀ (s : State) (a : Fin 8), s.timeOn = true → s.on (F.AX_STAT_STOPPED a) = false →
    exec (.velUpdate a) s = .next (((s.setI (F.VEL_VEL a) (s.velOf a (s.axis a).hist)).judgeSpeed a).axisEval a).settled ∧
    ((s.axis a).tc + 1000 * s.get (F.STOP_TIMEOUT_US a) ≤ s.now → exec (.axisStopped a) s = .next
      (((((s.set (F.VEL_VEL a) 0).set (F.AX_STAT_STOPPED a) 1).set (F.AX_STAT_OVERSPEED a) 0).raise (3136 + 8 * a.val + 2)).axisEval a).settled)) ∧
  (∀ (s : State) (a : Fin 8), s.timeOn = true → exec (.positionCrossing a) s = .next (s.axisEval a).settled) ∧
  (∀ (s : State) (p : Path) (a : Fin 8), s.takes p (0x14078 + 0x1000 * a.val) 1 →
    exec (.axCmdClear p a) s = .next ((s.bump (0x14000 + 0x1000 * a.val)).clearFlags a).settled) ∧
  (∀ (s : State) (p : Path) (a : Fin 8), s.takes p (0x14078 + 0x1000 * a.val) 2 →
    exec (.axCmdLoad p a) s = .next ((s.bump (0x14000 + 0x1000 * a.val)).loadCount a).settled)

/-- Quadrature decoding in full (R63, R64): a change of A alone or of B alone counts one up or down, to the wrap of 64 bits; a change of both at
once is illegal, counts nothing, and leaves the axis uncertain. -/
def Obligations.QuadratureCountsByOne : Prop :=
  ∀ (s : State) (a : Fin 8) (la lb : Bool), (s.axis a).started = true → s.get (F.AX_CTRL_DECODE a) = 0 → s.on (F.AX_CTRL_INVERT a) = false →
    ((s.axis a).a ≠ la → (s.axis a).b = lb →
      s.quadrature a la lb = (s.setLevels a la lb).counted a (if upward (s.axis a).a la (s.axis a).b lb then 1 else -1)) ∧
    ((s.axis a).a = la → (s.axis a).b = lb → s.quadrature a la lb = s.setLevels a la lb) ∧
    ((s.axis a).a ≠ la → (s.axis a).b ≠ lb →
      s.quadrature a la lb = ((s.setLevels a la lb).sat (F.ILLEGAL_COUNT_COUNT a)).setUncertain a)

/-- Triggers and captures (R75-R78): arming, disarming, firing, the end of a pulse, a selected edge, and a pop. -/
def Obligations.TriggersAndCapturesAct : Prop :=
  (∀ (s : State) (p : Path) (n : Fin 16) (v : Word), s.takes p (0x12040 + 32 * n.val) (putBit (putBit v.toNat 11 false) 10 true) →
    exec (.tctrlArm p n v) s = .next ((s.storeAt (pathCode p) (0x12040 + 32 * n.val) (putBit (putBit v.toNat 11 false) 10 true)).trigCtl s n
      (putBit (putBit v.toNat 11 false) 10 true))) ∧
  (∀ (s : State) (p : Path) (n : Fin 16) (v : Word), s.takes p (0x12040 + 32 * n.val) (putBit (putBit v.toNat 10 false) 11 true) →
    exec (.tctrlDisarm p n v) s = .next ((s.storeAt (pathCode p) (0x12040 + 32 * n.val) (putBit (putBit v.toNat 10 false) 11 true)).trigCtl s n
      (putBit (putBit v.toNat 10 false) 11 true))) ∧
  (∀ (s : State) (n : Fin 16), s.trigDue n = true → exec (.triggerFire n) s = .next
    ((s.fire n (if s.axisMode n then (s.trig n).fireAt.getD 0 else trigPoint (s.trig n) (s.trig n).k) false ((s.trig n).k + 1)).caught n)) ∧
  (∀ (s : State) (n : Fin 16), s.on (F.TSTAT_OUTPUT n) = true → s.trigMode n ≠ 1 → (s.trig n).left = 0 →
    Answers (exec (.pulseEnd n) s) (fun t => t.get (F.TSTAT_OUTPUT n) = 0 ∧
      t.sig.out = .trigger n (s.on (F.TCTRL_POL n)) ((s.now : Int) * 1000 - s.getI (F.PIN_OFS_PS n)) :: s.sig.out ∧
      ((s.trig n).fired = true → t.get (F.TSTAT_ARMED n) = 0) ∧
      (∀ f : Fld, f.key ≠ (F.TSTAT_OUTPUT n).key → f.key ≠ (F.TSTAT_ARMED n).key ∨ (s.trig n).fired = false → t.get f = s.get f))) ∧
  (∀ (s : State) (n : Fin 16) (level : Bool), s.on (F.CAP_CTRL_EN n) = true → s.timeOn = true → (s.cap n).seen = true → (s.cap n).level ≠ level →
    edgeSelected (s.get (F.CAP_CTRL_EDGE n)) level = true → (s.cap n).queue.length < 16 →
    Answers (exec (.captureEdge n level) s) (fun t => (t.cap n).queue.length = (s.cap n).queue.length + 1 ∧
      (t.cap n).queue.take (s.cap n).queue.length = (s.cap n).queue ∧ (t.cap n).level = level)) ∧
  (∀ (s : State) (p : Path) (n : Fin 16), s.takes p (0x13058 + 32 * n.val) 1 → exec (.capPop p n) s = .next (s.capPop n))

/-! ## The switch and the scheduler (chapters 4 and 5) -/

/-- Cells and their streams (R89-R97): arrival, matching, the output's verdict, acknowledgement and replay. -/
def Obligations.CellCommandsAct : Prop :=
  (∀ (s : State) (c : CellIn), exec (.cellArrival c) s = .next (s.arrive c).wakeDocks) ∧
  (∀ (s : State) (c : CellIn) (x : Cell) (part : Part), s.isDark = false → s.shut = false → c.payload.length ≤ 256 →
    x = s.newCell c c.payload c.som c.eom part .waiting → c.tag = .none → s.partition c.src x.units = some part →
    exec (.cellArrival c) s = .next (if s.skims c x then
      (((((s.chargeCell x).wakeLink c.dst).launch x true).payCell x).outUsed c.dst).wrap (F.SKIMMED_COUNT c.src) else (s.chargeCell x).wakeLink c.dst).wakeDocks) ∧
  (∀ (s t : State) (c : CellIn) (x : Cell), s.isDark = false → s.shut = false → c.payload.length ≤ 256 →
    x = s.newCell c c.payload c.som c.eom .hold .held → c.tag ≠ .none → x.units ≤ s.get F.VAT_FREE_UNITS →
    s.get F.HOLD_USED_UNITS + x.units ≤ 131072 → t = ((s.chargeCell x).wheelAdd 1).placeHeld x.id →
    exec (.cellArrival c) s = .next (if c.dst.val < 64 then t.selectState c.dst else t).wakeDocks) ∧
  (∀ s : State, exec .churnMatch s = .next s.sigDrain.wakeDocks.churn) ∧
  (∀ s t : State, t = s.sigDrain.wakeDocks.countStalls → s.sigDrain.wakeDocks.sw.stopped = false → t.on F.RT_STAT_ACTIVE = false →
    exec .churnMatch s = .next (((List.range 3).filter (fun p => t.get (planeStat p) == 0 && t.domState (6 + p) == 0)).foldl State.churnPlane
      { t with sw := { t.sw with parity := true } })) ∧
  (∀ (s : State) (id : Nat) (ok : Bool) (c : Cell), s.cell? id = some c → c.phase = .crossing →
    exec (.cellAtOutput id ok) s = .next (s.atOutput c ok)) ∧
  (∀ (s : State) (id : Nat) (c : Cell), s.cell? id = some c → c.phase = .crossing → c.seq = (s.stream (cellStream c)).expect → c.spoilt = false →
    exec (.cellAtOutput id true) s = .next (((((((s.mapCell c.id (fun x => { x with phase := .accepted })).setStream (cellStream c)
      { s.stream (cellStream c) with expect := ((s.stream (cellStream c)).expect + 1) % 65536 }).outUsed c.dst).emit
      (.cellOut c.id c.dst c.late)).toDock c).sigArrived c).coreArrived c)) ∧
  (∀ (s : State) (st : StreamId) (q : BitVec 16), exec (.cumulativeAck st q) s = .next ((s.ackedBy st q.toNat).foldl State.acked s)) ∧
  (∀ (s : State) (st : StreamId) (q : BitVec 16) (c : Cell), c ∈ s.unacked (streamOf st) → covers q.toNat c = true → c.phase = .accepted →
    Answers (exec (.cumulativeAck st q) s) (fun t => c.id ∉ t.sw.cells.map (fun x => x.id))) ∧
  (∀ (s : State) (st : StreamId), exec (.streamNak st) s = .next (s.replayJudged (streamOf st))) ∧
  (∀ (s : State) (st : StreamId) (c : Cell) (l : List Cell), s.unacked (streamOf st) = c :: l →
    2 * c.sentAt + s.get F.ACK_TIMEOUT_CYCLES ≤ 2 * s.now → exec (.ackTimeout st) s = .next (s.replayJudged (streamOf st))) ∧
  (∀ (s : State) (st : StreamId), s.ackOverdue (streamOf st) = true → (∀ c ∈ s.sw.cells, cellStream c = streamOf st → c.replays < 3) →
    exec (.streamNak st) s = .next (s.replay (streamOf st)) ∧ exec (.ackTimeout st) s = .next (s.replay (streamOf st)) ∧
    (s.replay (streamOf st)).unacked (streamOf st) = []) ∧
  (∀ (s : State) (id : Nat) (c : Cell), s.cell? id = some c → c.phase = .held →
    (s.heldDue c = true → exec (.holdRelease id) s = .next (s.releaseDue id) ∧
      (s.aged c = true → exec (.holdAgeExpiry id) s = .next (s.releaseDue id))) ∧
    (s.heldDue c = false → s.aged c = true → exec (.holdAgeExpiry id) s = .next (s.expire c)))

/-- A stream whose unacknowledged cells are acknowledged counts each at its output (R94, R108); one cell here. -/
def Obligations.AcknowledgedCellIsCounted : Prop :=
  ∀ (s : State) (c : Cell), (s.acked c).get (F.CELLS_OUT_COUNT c.dst) = ((s.free c).get (F.CELLS_OUT_COUNT c.dst) + 1) % 2 ^ 32 ∧
    c.id ∉ (s.acked c).sw.cells.map (fun x => x.id)

/-- Planes and banks (R87, R98-R107): check cells, failure, forcing and failover, a bank's retirement and its copy, and the
hold peak. That FAILOVER_COUNT wraps is the model's choice (log entry 54), and so is one completion for a copy handed on (log entry 71). -/
def Obligations.PlaneAndBankCommandsAct : Prop :=
  (∀ (s : State) (pl : Fin 3) (i o : Fin 72), s.get (planeStat pl) ≠ 2 → s.pairIdle pl i o = true →
    exec (.checkCell pl i o false) s = .next ((s.pairUsed pl i o).crcFailure pl) ∧ exec (.checkCell pl i o true) s = .next (s.pairUsed pl i o)) ∧
  (∀ (s : State) (pl : Fin 3), exec (.planeFail pl) s = .next (s.planeFail pl)) ∧
  (∀ (s : State) (p : Path) (pl : Fin 3), s.takes p 0x500058 (16 + pl.val) →
    exec (.planeForce p pl) s = .next ((s.storeAt (pathCode p) 0x500058 (16 + pl.val)).planeCmd (16 + pl.val))) ∧
  (∀ (s : State) (at_ : Nat) (lps : List Nat) (l : List (Nat × List Nat)), s.sw.fails = (at_, lps) :: l → s.replaysDone lps = true →
    Answers (exec .failoverComplete s) (fun t => t.on F.PLANE_STAT_FAILOVER = !l.isEmpty ∧ t.get F.FAILOVER_LAST_NS = (s.now - at_) % 2 ^ F.FAILOVER_LAST_NS.width ∧
      t.get F.FAILOVER_COUNT_COUNT = (s.get F.FAILOVER_COUNT_COUNT + 1) % 2 ^ F.FAILOVER_COUNT_COUNT.width ∧ t.sw.fails = l ∧ t.evStat 2817 = true)) ∧
  (∀ (s : State) (b : Fin 50) (f : BankFault) (bad lost : List Nat), s.bankState b ≠ 2 → s.retires f = true →
    exec (.bankRetire b f bad lost) s = .next (s.retireBank b f bad lost)) ∧
  (∀ (s : State) (b : Fin 50) (e : Nat × Nat), s.sw.copying.find? (fun e => e.2 == b.val) = some e →
    (e.1 ≠ b.val → exec (.bankCopyComplete b) s = .next (((s.endCopy e.1).setBank e.1 0).raise 2825)) ∧
    (e.1 = b.val → exec (.bankCopyComplete b) s = .next ((s.endCopy e.1).raise 2825))) ∧
  (∀ (s : State) (p : Path), s.takes p 0x501070 (2 ^ 31) →
    Answers (exec (.holdPeakReset p) s) (fun t => t.get F.HOLD_PEAK_UNITS = s.get F.HOLD_USED_UNITS % 2 ^ F.HOLD_PEAK_UNITS.width)) ∧
  (∀ (s : State) (p : Path), s.mayRead p 0x50304C = true →
    exec (.htResultRead p) s = .next (s.emit (.readData (pathCode p) 0x50304C s.htResult)))

/-- A spare plane that fails (R104) is marked FAILED, PLANE_MAP.SPARE goes to 3 and EV2818 is raised; the planes that carry traffic, every cell
and every queue stay as they are. -/
def Obligations.SparePlaneFailureMovesNoTraffic : Prop :=
  ∀ (s : State) (pl : Fin 3), s.get (planeStat pl) ≠ 2 → s.sw.stopped = false → s.get F.PLANE_MAP_SPARE = pl.val →
    Answers (exec (.planeFail pl) s) (fun t => t.get (planeStat pl) = 2 ∧ t.get F.PLANE_MAP_SPARE = 3 ∧ t.evStat 2818 = true ∧ t.sw = s.sw ∧
      t.get F.PLANE_MAP_L0 = s.get F.PLANE_MAP_L0 ∧ t.get F.PLANE_MAP_L1 = s.get F.PLANE_MAP_L1)

/-- Shapers, wheels and the energy governor (R114-R132, R328). -/
def Obligations.SchedulerCommandsAct : Prop :=
  (∀ (s : State) (sh : Fin 4096), s.on (F.SH_CTRL_EN sh) = true → fineSlot ((tget 0 s.sw.shNext sh.val : Nat) : Int) ≤ s.now →
    Answers (exec (.shaperRefill sh) s) (fun t => t.getI (F.SH_TOKENS_BYTES sh) =
      toSigned (F.SH_TOKENS_BYTES sh).width (ofSigned (F.SH_TOKENS_BYTES sh).width
        (min (s.get (F.SH_BURST_BYTES sh) : Int) (s.tokens sh + s.get (F.SH_QUANTUM_BYTES sh)))))) ∧
  (∀ (s : State) (p : Path) (v : Word), s.takes p 0x42044 v.toNat →
    exec (.shaperEnable p v) s = .next ((s.storeAt (pathCode p) 0x42044 v.toNat).shaperEn (s.get (F.SH_SEL_SH (pathCode p)))
      (s.on (F.SH_CTRL_EN (s.get (F.SH_SEL_SH (pathCode p))))) (hasBit v.toNat 31))) ∧
  (∀ s : State, (∀ c ∈ s.sw.cells, c.phase ≠ .held) → Answers (exec .coarseSlot s) (fun t => ∀ i, i ∈ s.armedSlots 1 →
    t.slot i = { s.slot i with wheel := coarseWheel s.now (s.now / 4096 % 1024 == 0) (s.slot i).wheel })) ∧
  (∀ (s : State) (p : Path) (a : Fin 8) (w : Word), s.takes p (0x40060 + 4 * a.val) w.toNat →
    exec (.axwWidthWrite p a w) s = .next ((s.storeAt (pathCode p) (0x40060 + 4 * a.val) w.toNat).refileAxis a)) ∧
  (∀ (s : State) (p : Path), s.takes p 0x40054 (2 ^ 31) →
    Answers (exec (.wheelPeakReset p) s) (fun t => t.get F.WHEEL_PEAK_ENTRIES = s.get F.WHEEL_FILL_ENTRIES % 2 ^ F.WHEEL_PEAK_ENTRIES.width)) ∧
  (∀ (s : State) (i : Fin 8) (n : Nat), (s.slot i).state = .armed → (s.slot i).cond = 2 → s.unsure (s.slot i).axis = false →
    s.predict (s.slot i).axis (slotPos (s.slot i)) ((s.slot i).dir == 1) = some n → fineSlot n ≤ s.now →
    passed (s.axis (s.slot i).axis).pc (slotPos (s.slot i)) ((s.slot i).dir == 1) = false → (s.slot i).wheel ≠ .axisOverflow →
    exec (.atAxisFineSlot i) s = .next
      (((List.range 8).filter (fun j => s.dueInstant j == some (fineSlot n : Int))).foldl (fun s j => s.markMet j false) s).settled) ∧
  (∀ (s : State) (g : GovSample), s.latchWindow.domState 4 = 0 → exec (.governorWindow g) s = .next (s.latchWindow.govWindow g)) ∧
  (∀ (s : State) (port : Fin 64), s.on (F.LSTATE_IDLE port) = false → s.outIdle port = true →
    exec (.linkIdle port) s = .next ((s.set (F.LSTATE_IDLE port) 1).selectState port))

/-! ## The memory pool, its directory and its guard (chapters 6 and 7) -/

/-- Requests to the pool (R136-R156, R175, R191, R197): a host's lines, its answers to back-invalidates, and a bound function's requests. What each
names; and what is done, without an error found on the way: a request that the window, the guard and the expander let through goes to its slice, a
release and a write-back by their holder take effect, an expected answer ends its snoop. -/
def Obligations.PoolRequestsEnter : Prop :=
  (∀ (s : State) (h : Fin 32) (tag : BitVec 16) (x : MemAddr),
    (∀ (n : SnpType) (m : MetaVal), exec (.memrd h tag x n m) s = .next (s.hostMem h tag.toNat x (rdKind n m) false noBytes)) ∧
    exec (.memrddata h tag x) s = .next (s.hostMem h tag.toNat x .rdS false noBytes) ∧
    exec (.meminv h tag x true) s = .next (s.hostMem h tag.toNat x .rdO true noBytes) ∧
    exec (.meminv h tag x false) s = .next (s.hostMem h tag.toNat x .rel true noBytes) ∧
    exec (.memclnevct h tag x) s = .next (s.hostMem h tag.toNat x .rel true noBytes) ∧
    (∀ (f : WrForm) (d : BitVec 512) (p : Bool),
      exec (.memwr h tag x f d p) s = .next (s.hostMem h tag.toNat x (wrKind f) false ⟨d, allBytes, p⟩)) ∧
    (∀ (f : WrForm) (d : BitVec 512) (be : BitVec 64) (p : Bool),
      exec (.memwrptl h tag x f d be p) s = .next (s.hostMem h tag.toNat x (wrKind f) false ⟨d, be, p⟩)) ∧
    (∀ dpa : BitVec 52, exec (.memspecrd h dpa) s = .next s)) ∧
  (∀ (s t : State) (h : Fin 32) (tag : BitVec 16) (dpa : BitVec 52) (k : ReqKind) (nd : Bool) (r : Req) (win pa m d : Nat),
    s.shut = false → s.gd.drain = [] → s.gd.upset = [] → s.lens h (dpa.toNat / 64 * 64) = some (win, pa) → s.poolMap pa = some (m, d) → m < 16 →
    (s.cellsIn h 0).lost m = false →
    r = { id := s.pool.nextId, port := h, init := h, tag := tag.toNat, kind := k, noData := nd, addr := pa, wr := noBytes, seq := s.nextSeq h, mport := m,
          dpa := d, creamOk := s.on (F.WIN_ATTR_CREAM win), came := (s.cellsIn h 0).cycle,
          eOk := (s.cellsIn h 0).mayUse h true ((s.cellsIn h 0).colour (pa / 2097152)) } →
    (s.cellsIn h 0).denied h r.needs.1 r.needs.2 false pa = none →
    t = ((s.cellsIn h 0).mapPool (fun p => { p with nextId := p.nextId + 1, reqs := p.reqs ++ [r] })).advance →
    (∀ (n : SnpType) (v : MetaVal), k = rdKind n v → nd = false → exec (.memrd h tag ⟨dpa, {}⟩ n v) s = .next t) ∧
    (k = .rdS → nd = false → exec (.memrddata h tag ⟨dpa, {}⟩) s = .next t) ∧
    (k = .rdO → nd = true → exec (.meminv h tag ⟨dpa, {}⟩ true) s = .next t)) ∧
  (∀ (s u : State) (h : Fin 32) (tag : BitVec 16) (dpa : BitVec 52) (w : LineData) (r : Req) (win pa m d : Nat),
    s.shut = false → s.gd.drain = [] → s.gd.upset = [] → s.lens h (dpa.toNat / 64 * 64) = some (win, pa) → s.poolMap pa = some (m, d) → m < 16 →
    u = ((s.cellsIn h 64).takeSeq h).trackAdd h (s.nextSeq h) (32 + m) → u.gd.drain = [] → u.lost m = false → u.denied h false true false pa = none →
    r = { id := u.pool.nextId, port := h, init := h, tag := tag.toNat, kind := .wrU, addr := pa, wr := w, seq := s.nextSeq h, mport := m,
          dpa := d, creamOk := s.on (F.WIN_ATTR_CREAM win), came := u.cycle, eOk := u.mayUse h true (u.colour (pa / 2097152)) } →
    (w.be = allBytes → exec (.memwr h tag ⟨dpa, {}⟩ .snpInv w.data w.poison) s =
      .next (u.mapPool (fun p => { p with nextId := p.nextId + 1, reqs := p.reqs ++ [r] })).advance) ∧
    exec (.memwrptl h tag ⟨dpa, {}⟩ .snpInv w.data w.be w.poison) s =
      .next (u.mapPool (fun p => { p with nextId := p.nextId + 1, reqs := p.reqs ++ [r] })).advance) ∧
  (∀ (s u : State) (h : Fin 32) (tag : BitVec 16) (dpa : BitVec 52) (pa m d : Nat), s.shut = false → s.gd.drain = [] →
    s.lensOld h (dpa.toNat / 64 * 64) = some pa → s.poolMapOld pa = some (m, d) → m < 16 → u = s.cellsIn h 0 → u.lost m = false →
    u.wbOpen (sliceOf (pa / 64)) = true → u.pool.lane = [] → u.pool.dead = [] → hasBit (u.entry (pa / 64)).hosts h = true →
    exec (.meminv h tag ⟨dpa, {}⟩ false) s = .next ((u.sendS2M h tag.toNat .cmp).setEntry (pa / 64)
      { u.entry (pa / 64) with hosts := putBit (u.entry (pa / 64)).hosts h false, age := 3 }).advance ∧
    exec (.memclnevct h tag ⟨dpa, {}⟩) s = .next ((u.sendS2M h tag.toNat .cmp).setEntry (pa / 64)
      { u.entry (pa / 64) with hosts := putBit (u.entry (pa / 64)).hosts h false, age := 3 }).advance) ∧
  (∀ (s : State) (h : Fin 32) (t : BitVec 12) (b : Bool), s.shut = false →
    exec (.birspi h t b) s = .next ((s.cellsIn h 0).birspIn h t.toNat 0 b).advance ∧
    exec (.birsps h t b) s = .next ((s.cellsIn h 0).birspIn h t.toNat 1 b).advance ∧
    exec (.birspe h t b) s = .next ((s.cellsIn h 0).birspIn h t.toNat 2 b).advance) ∧
  (∀ (s u : State) (h : Fin 32) (t : BitVec 12) (x : Snoop), s.shut = false → u = s.cellsIn h 0 →
    u.pool.snoops.find? (fun x => x.host == h.val && x.bitag == t.toNat) = some x → u.wbOpen (sliceOf x.line) = true → u.pool.lane = [] →
    exec (.birspi h t false) s = .next (u.snoopEnd x 0).advance ∧
    (x.kind = 1 → exec (.birsps h t false) s = .next (u.snoopEnd x 1).advance) ∧
    (x.kind = 0 → exec (.birspe h t false) s = .next (u.snoopEnd x 2).advance)) ∧
  (∀ (s : State) (h : Fin 32) (tag : BitVec 16) (dpa : BitVec 52), s.shut = false →
    ((s.lensOld h dpa.toNat).isSome = true → exec (.biconflict h tag dpa) s = .next ((s.cellsIn h 0).sendS2M h tag.toNat .biConflictAck)) ∧
    ((s.lensOld h dpa.toNat).isSome = false → exec (.biconflict h tag dpa) s =
      .next (((s.cellsIn h 0).unmapped h dpa.toNat).sendS2M h tag.toNat .biConflictAck))) ∧
  (∀ (s : State) (fn : Fin 256) (g : BitVec 4) (tag : BitVec 16) (a : BitVec 64), s.boundFn fn g.toNat = none →
    ∀ (len : BitVec 13) (b : List (BitVec 8)) (op : AtomicOp),
      exec (.functionMemRead fn g tag a len) s = .next (s.stale 0) ∧ exec (.functionMemWrite fn g a b) s = .next (s.stale 0) ∧
      exec (.functionAtomic fn g tag a op) s = .next (s.stale 0)) ∧
  (∀ (s : State) (fn : Fin 256) (g : BitVec 4) (tag : BitVec 16) (a : BitVec 64) (x d : Nat), s.boundFn fn g.toNat = some (x, d) →
    ∀ (len : BitVec 13) (b : List (BitVec 8)) (op : AtomicOp),
      exec (.functionMemRead fn g tag a len) s = .next (s.fnRead fn x d tag.toNat a.toNat len.toNat) ∧
      exec (.functionMemWrite fn g a b) s = .next (s.fnWrite fn x d a.toNat b) ∧
      exec (.functionAtomic fn g tag a op) s = .next (s.fnAtomic fn x d tag.toNat a.toNat op)) ∧
  (∀ (s u : State) (fn : Fin 256) (g : BitVec 4) (tag : BitVec 16) (a : BitVec 64) (x d p : Nat), s.boundFn fn g.toNat = some (x, d) → s.shut = false →
    p = s.srcPort x d →
    (s.fnPool x d a.toNat = none → ∀ len : BitVec 13, exec (.functionMemRead fn g tag a len) s =
      .next ((s.cellsIn p 0).emit (.toHost x d false a.toNat len.toNat))) ∧
    (∀ q, s.fnPool x d a.toNat = some q → s.gd.upset = [] →
      (∀ len : BitVec 13, u = s.cellsIn p 0 → u.gd.drain = [] → exec (.functionMemRead fn g tag a len) s =
        .next (u.checkRead p (64 + fn) tag.toNat q len.toNat).advance) ∧
      (∀ b : List (BitVec 8), u = (s.cellsIn p b.length).takeSeq (64 + fn) → u.gd.drain = [] → exec (.functionMemWrite fn g a b) s =
        .next (u.checkWrite p (64 + fn) (s.nextSeq (64 + fn)) q b).advance) ∧
      (∀ op : AtomicOp, u = s.cellsIn p (atomicBytes op) → u.gd.drain = [] → exec (.functionAtomic fn g tag a op) s =
        .next (u.checkAtomic p (64 + fn) tag.toNat q op).advance)))

/-- A back-invalidate's answer that names no open back-invalidate of the host, or breaks the protocol, is counted (R156). -/
def Obligations.BackInvalidateAnswersAreChecked : Prop :=
  ∀ (s : State) (h k : Nat) (bitag : Nat) (block : Bool),
    (s.pool.snoops.find? (fun x => x.host == h && x.bitag == bitag) = none → s.birsp h bitag k block = s.protoErr h 3) ∧
    (∀ x : Snoop, s.pool.snoops.find? (fun x => x.host == h && x.bitag == bitag) = some x →
      (block = true → s.birsp h bitag k block = (s.protoErr h 5).snoopEnd x 0) ∧
      (block = false → k = 0 → s.birsp h bitag k block = s.snoopEnd x 0) ∧
      (block = false → k = 1 → x.kind = 1 → s.birsp h bitag k block = s.snoopEnd x 1) ∧
      (block = false → k = 2 → x.kind = 1 → s.birsp h bitag k block = (s.protoErr h 4).snoopEnd x 0))

/-- The expanders' side (R157, R188, R189): completions, time-outs, freed tags, and back-invalidates either way. -/
def Obligations.ExpanderAnswersAct : Prop :=
  (∀ (s : State) (m : Fin 16) (tag : BitVec 16), s.shut = false →
    (s.xtag m (tag.toNat % 4096)).gen ≠ tag.toNat / 4096 % 16 → ∀ (d : BitVec 512) (x : Bool),
    Answers (exec (.expanderMemdata m tag d x) s) (fun t =>
      t.get (F.MP_LATE_CPL_COUNT m) = satAdd (F.MP_LATE_CPL_COUNT m).width (s.get (F.MP_LATE_CPL_COUNT m)) 1 ∧ t.pool = s.pool)) ∧
  (∀ (s u : State) (m : Fin 16) (tag : BitVec 16) (id : Nat), s.shut = false → u = s.cellsIn (32 + m) 64 →
    (s.xtag m (tag.toNat % 4096)).gen = tag.toNat / 4096 % 16 → (s.xtag m (tag.toNat % 4096)).st = .use (.rd id) → ∀ (d : BitVec 512) (x : Bool),
    exec (.expanderMemdata m tag d x) s = .next ((((u.setXtag m (tag.toNat % 4096) { s.xtag m (tag.toNat % 4096) with st := .free }).readAnswered
      id d x true).xPump m).advance)) ∧
  (∀ (s u : State) (m : Fin 16) (tag : BitVec 16) (id : Nat) (w : PWrite), s.shut = false → u = s.cellsIn (32 + m) 0 →
    (s.xtag m (tag.toNat % 4096)).gen = tag.toNat / 4096 % 16 → (s.xtag m (tag.toNat % 4096)).st = .use (.wr id) → s.write? id = some w →
    exec (.expanderCmp m tag) s = .next ((((u.setXtag m (tag.toNat % 4096) { s.xtag m (tag.toNat % 4096) with st := .free }).writeEnd
      w none).xPump m).advance)) ∧
  (∀ (s : State) (m : Fin 16) (a : BitVec 52), Answers (exec (.expanderBisnp m a) s) (fun t =>
    t.get (F.MP_PROTO_COUNT_COUNT m) = satAdd (F.MP_PROTO_COUNT_COUNT m).width (s.get (F.MP_PROTO_COUNT_COUNT m)) 1 ∧
    t.evStat (1286 + 32 * m.val) = true ∧ t.pool = s.pool)) ∧
  (∀ (s : State) (m : Fin 16) (i : BitVec 12) (j : XJob), (s.xtag m i.toNat).st = .use j → (s.timeouts m).length < s.get (F.CTO_CFG_LIMIT m) →
    exec (.completionTimeout m i) s = .next ((((((s.setXtag m i.toNat { s.xtag m i.toNat with st := .wait }).mapPool
      (fun p => { p with ctos := tset p.ctos m (s.timeouts m) })).sat (F.MP_CTO_COUNT_COUNT m)).raise (1282 + 32 * m)).xAbort j 0x28).advance)) ∧
  (∀ (s : State) (m : Fin 16) (i : BitVec 12), (s.xtag m i.toNat).st = .wait →
    exec (.tagFree m i) s = .next (((s.setXtag m i.toNat { s.xtag m i.toNat with st := .free }).xPump m).advance)) ∧
  (∀ (s : State) (h : Fin 32) (b : BitVec 12), s.pool.snoops.any (fun x => x.host == h.val && x.bitag == b.toNat) = true →
    s.get (F.HP_STAT_LINK h) ≠ 0 → exec (.bisnpTimeout h b) s = .next ((s.raise 2833).hpDown h))

/-- Regions, windows and losses (R134-R138, R147-R149, R160-R162): enabling and recalling, the ends of recalls and walks, the lost ports,
and the cache's banks. -/
def Obligations.RegionsAndWindowsAct : Prop :=
  (∀ (s : State) (p : Path) (r : Fin 16) (v : Word), s.takes p (regCfg r) (putBit v.toNat 0 true) →
    exec (.regionEnable p r v) s = .next (s.storeAt (pathCode p) (regCfg r) (putBit v.toNat 0 true)).settled) ∧
  (∀ (s : State) (p : Path) (r : Fin 16) (v : Nat), v = 65536 * s.get (F.REG_CFG_DBASE_GIB r) + 256 * s.get (F.REG_CFG_GRAN r) + 16 * s.get (F.REG_CFG_WAYS r) →
    s.takes p (regCfg r) v → s.on (F.REG_CFG_EN r) = true → v < 2 ^ 32 →
    exec (.regionRecall p r) s = .next ((s.storeAt (pathCode p) (regCfg r) v).regionRecall r (s.region r)).settled) ∧
  (∀ (s : State) (r : Fin 16), exec (.regionRecallEnd r) s = .next (s.regionRecallEnd r)) ∧
  (∀ (s : State) (r : Fin 16) (e : Nat × Region), s.pool.recalls.find? (fun e => e.1 == r.val) = some e →
    s.pool.dir.any (fun x => e.2.holds (x.2.line * 64)) = false → s.pool.reqs.any (fun r => e.2.holds r.addr) = false →
    exec (.regionRecallEnd r) s = .next ((((s.mapPool (fun p => { p with recalls := tdel p.recalls r })).put (F.REG_CFG_RECALL r) false).poolRecall).raise 2838)) ∧
  (∀ (s : State) (p : Path) (c : Bool), s.takes p 0x602054 (2 * b2n c + 1) →
    exec (.windowEnable p c) s = .next (s.storeAt (pathCode p) 0x602054 (2 * b2n c + 1)).settled) ∧
  (∀ (s : State) (p : Path) (w v : Nat), w = s.winIndex (pathCode p) 0 .lensWin → v = 2 * s.get (F.WIN_ATTR_CREAM w) →
    s.takes p 0x602054 v → s.on (F.WIN_ATTR_EN w) = true →
    exec (.windowRecall p) s = .next ((s.storeAt (pathCode p) 0x602054 v).windowRecall w).settled) ∧
  (∀ (s : State) (h : Fin 32) (w : Fin 64), exec (.windowRecallEnd h w) s = .next (s.windowRecallEnd h w)) ∧
  (∀ (s : State) (h : Fin 32) (w : Fin 64), s.pool.wins.any (fun x => x.host == h.val && x.win == w.val) = true → s.pool.dir = [] → s.pool.reqs = [] →
    Answers (exec (.windowRecallEnd h w) s) (fun t => t.pool.wins = s.pool.wins.filter (fun y => !(y.host == h.val && y.win == w.val)) ∧
      t.get (F.WIN_ATTR_RECALL (h * 64 + w)) = 0 ∧ t.evStat 2848 = true)) ∧
  (∀ (s : State) (port : Fin 72), exec (.lossWalkEnd port) s = .next (s.walkEnd port)) ∧
  (∀ (s : State) (port : Fin 72) (w : Walk), s.pool.walks.find? (fun w => w.port == port.val) = some w → s.pool.snoops = [] →
    Answers (exec (.lossWalkEnd port) s) (fun t => t.pool.walks = s.pool.walks.filter (fun x => x.port != port.val) ∧ t.evStat 2836 = true ∧
      (t.pool.walks = [] → t.get F.LOSS_STAT_BUSY = 0))) ∧
  (∀ (s : State) (p : Path) (m : BitVec 16), s.takes p 0x601244 m.toNat →
    exec (.poolLostClr p m) s = .next (((s.storeAt (pathCode p) 0x601244 m.toNat).set F.POOL_STAT_LOST
      (Nat.land ((s.storeAt (pathCode p) 0x601244 m.toNat).get F.POOL_STAT_LOST) (65535 - m.toNat))).settled)) ∧
  (∀ (s : State) (n b : Fin 8) (k : Nat), exec (.creamBankFault n b .word) s = .next (s.creamFault n b false) ∧
    exec (.creamBankFault n b .control) s = .next (s.creamFault n b false) ∧
    (k < s.get (F.CR_CE_LIMIT_COUNT n) → exec (.creamBankFault n b (.corrected k)) s = .next s)) ∧
  (∀ (s : State) (n b : Fin 8) (w k : Nat), w = s.get (F.CR_BANK_STAT_STATE n) → s.creamBank n b ≠ 2 → s.get (F.CR_CE_LIMIT_COUNT n) ≤ k →
    exec (.creamBankFault n b (.corrected k)) s =
    .next ((((((s.softRecord 6 (8 * n.val + b) 0).set (F.CR_BANK_STAT_STATE n) (w - 4 ^ b.val * bits w (2 * b) 2 + 4 ^ b.val * 2)).creamDrop n
      (some b)).raise (2881 + 4 * n.val)).raise (2883 + 4 * n.val)))) ∧
  (∀ (s : State) (p : Path) (n : Fin 8) (v : Nat), v = 4 + s.crWord n (if s.native then s.get (F.CR_CTRL_EN n) else 0) →
    s.takes p (0x610040 + 0x1000 * n.val) v →
    exec (.crDrop p n) s = .next ((s.storeAt (pathCode p) (0x610040 + 0x1000 * n.val) v).crCtrl s n v).settled) ∧
  (∀ (s : State) (p : Path) (n : Fin 8), s.takes p (0x610040 + 0x1000 * n.val) (s.crWord n 0) →
    exec (.crDisable p n) s = .next ((s.storeAt (pathCode p) (0x610040 + 0x1000 * n.val) (s.crWord n 0)).crCtrl s n (s.crWord n 0)).settled)

/-- Directory slices, the reflectors, entry commands and the guard's drains and log (R164-R183). -/
def Obligations.DirectoryAndGuardAct : Prop :=
  (∀ (s : State) (d : Fin 32) (row : Fin 49152) (n : Nat), exec (.sliceFail d .control) s = .next (s.sliceFail d 1) ∧
    exec (.sliceFail d .tracker) s = .next (s.sliceFail d 2) ∧ exec (.sliceFail d (.entry row)) s = .next (s.rowFix d row) ∧
    (s.get F.SLICE_CE_LIMIT_COUNT ≤ n → exec (.sliceFail d (.corrected n)) s = .next (s.sliceFail d 4))) ∧
  (∀ (s : State) (d : Fin 32), s.sliceState d = 0 → s.pool.dead = [] → s.onRecon (d / 16) = [] → s.get (reflector (d / 16)) ≠ 2 →
    s.get F.SPARE_STAT_DX = 0 → Answers (exec (.sliceFail d .control) s) (fun t => t.get F.SLICE_FAIL_LOG_CAUSE = 1 ∧ t.get F.SLICE_FAIL_LOG_SLICE = d.val ∧
      t.pool.fenced = d.val :: s.pool.fenced ∧ tget 0 t.pool.failAt d = s.now ∧ t.evStat 2840 = true)) ∧
  (∀ (s : State) (d : Fin 32), s.on F.REBUILD_STAT_ACTIVE = true → s.get F.REBUILD_STAT_SLICE = d.val → s.rebuildRow = 49152 →
    exec (.rebuildComplete d) s = .next (((s.setSlice d 3).sets [(F.REBUILD_STAT_ACTIVE, 0), (F.REBUILD_STAT_ROW, 49152), (F.SPARE_STAT_ROLE_VALID, 1),
      (F.SPARE_STAT_ROLE, d), (F.REBUILD_LAST_US, (s.now - s.pool.rebAt) / 1000)]).raise 2842)) ∧
  (∀ (s : State) (g : Fin 2), s.get (reflector g) ≠ 2 → (((s.softRecord 5 (32 + g.val) 0).set (reflector g) 2).raise 2844).onRecon g = [] →
    exec (.reflectorFail g) s = .next (((s.softRecord 5 (32 + g.val) 0).set (reflector g) 2).raise 2844)) ∧
  (∀ s : State, s.get F.SPARE_STAT_DX ≠ 2 → s.on F.SPARE_STAT_ROLE_VALID = false → s.on F.REBUILD_STAT_ACTIVE = false →
    Answers (exec .dxFail s) (fun t => t.get F.SPARE_STAT_DX = 2 ∧ t.evStat 2843 = true)) ∧
  (∀ (s s1 : State) (d : Fin 32), s.pool.fenced.contains d.val = true → s.get F.SPARE_STAT_DX ≠ 0 →
    s1 = (((s.restoreTrackers d).mapPool (fun p => { p with fenced := p.fenced.erase d })).set F.RECON_LAST_NS (s.now - tget 0 s.pool.failAt d)).raise 2841 →
    s1.get F.SPARE_STAT_DX ≠ 0 → exec (.reconstructionServing d) s = .next s1.advance) ∧
  (∀ (s : State) (p : Path) (d : Fin 32), s.takes p 0x603058 (32 + d.val) →
    exec (.sliceForce p d) s = .next ((s.storeAt (pathCode p) 0x603058 (32 + d.val)).sliceCmd (32 + d.val)).settled) ∧
  (∀ (s : State) (d : Fin 32), exec (.reconstructionServing d) s = .next (s.reconServes d) ∧
    exec (.rebuildComplete d) s = .next (s.rebuildDone d)) ∧
  (∀ (s : State) (g : Fin 2), exec (.reflectorFail g) s = .next (s.reflectorFail g)) ∧
  (∀ s : State, exec .dxFail s = .next s.dxFail) ∧
  (∀ (s : State) (p : Path), s.takes p 0x60404C 1 → exec (.byAddr p) s = .next ((s.storeAt (pathCode p) 0x60404C 1).entCmd 1).settled) ∧
  (∀ (s : State) (p : Path), s.takes p 0x60404C 2 → exec (.byPos p) s = .next ((s.storeAt (pathCode p) 0x60404C 2).entCmd 2).settled) ∧
  (∀ s : State, s.gd.drain ≠ [] → s.straggling = 0 → exec .drainEnd s = .next s.drainEnd) ∧
  (∀ s : State, s.gd.drain ≠ [] → exec .drainLimit s = .next s.drainEnd) ∧
  (∀ (s : State) (p : Path), s.takes p 0x703044 1 → exec (.logClr p) s = .next ((s.storeAt (pathCode p) 0x703044 1).logClr).settled) ∧
  (∀ (s : State) (p : Path), s.takes p 0x70004C (2 ^ 31) →
    exec (.drainMaxReset p) s = .next ((s.storeAt (pathCode p) 0x70004C (2 ^ 31)).drainMaxReset).settled)

/-! ## Host ports, memory ports and their bindings (chapter 8) -/

/-- The ports' links (R161, R187, R193-R200): up, down, disabled, retrained, their latency messages and measurements. -/
def Obligations.PortCommandsAct : Prop :=
  (∀ (s u : State) (h : Fin 32) (rate width : Fin 8) (caps : LinkCaps), s.linkable h = true → u = s.trainedAs h →
    (linkFits false rate width (u.eff (F.HP_CTRL_MAX_RATE h)) (u.eff (F.HP_CTRL_MAX_WIDTH h)) = true →
      Answers (exec (.hpLinkUp h rate width caps) s) (fun t => t.get (F.HP_STAT_LINK h) = 2 ∧
        t.get (F.HP_STAT_RATE h) = rate.val % 2 ^ (F.HP_STAT_RATE h).width ∧ t.get (F.HP_STAT_WIDTH h) = width.val % 2 ^ (F.HP_STAT_WIDTH h).width ∧
        t.get (F.HP_STAT_IDE h) = b2n caps.ide ∧ t.evStat (256 + 32 * h.val) = true)) ∧
    (linkFits false rate width (u.eff (F.HP_CTRL_MAX_RATE h)) (u.eff (F.HP_CTRL_MAX_WIDTH h)) = false →
      exec (.hpLinkUp h rate width caps) s = .next s)) ∧
  (∀ (s : State) (h : Fin 32) (rate width : Fin 8) (caps : LinkCaps), s.linkable h = false → exec (.hpLinkUp h rate width caps) s = .next s) ∧
  (∀ (s : State) (h : Fin 32), exec (.hpLinkDown h) s = .next (s.hpDown h)) ∧
  (∀ (s u : State) (h : Fin 32), s.get (F.HP_STAT_LINK h) ≠ 0 → u = ((((((s.trained h).lowEnd h).lanesDown h).sets [(F.HP_STAT_LINK h, 0), (F.HP_STAT_WIDTH h, 0),
      (F.HP_STAT_RATE h, 0), (F.HP_STAT_IDE h, 0)]).ideForget h).sat (F.HP_DOWN_COUNT_COUNT h)).raise (257 + 32 * h) →
    exec (.hpLinkDown h) s = .next ((if s.on (F.HP_CTRL_EN h) then u.hostDown h else (u.pathLost h).fwdForget (fun e => e.port == 512 + h.val)).bindsGo h)) ∧
  (∀ (s : State) (p : Path) (h : Fin 32), s.takes p (0x100040 + 0x10000 * h.val) (s.hpWord h 0) →
    exec (.hpDisable p h) s = .next ((s.storeAt (pathCode p) (0x100040 + 0x10000 * h.val) (s.hpWord h 0)).hpCtrl s h (s.hpWord h 0)).settled) ∧
  (∀ (s : State) (p : Path) (h : Fin 32) (v : Nat), v = s.hpWord h (s.get (F.HP_CTRL_EN h)) + 2 → s.takes p (0x100040 + 0x10000 * h.val) v →
    exec (.hpRetrain p h) s = .next ((s.storeAt (pathCode p) (0x100040 + 0x10000 * h.val) v).hpCtrl s h v).settled) ∧
  (∀ (s : State) (m : Fin 16) (rate : Fin 8) (width : Fin 16) (caps : LinkCaps) (d : MpDevice), s.linkable (32 + m) = true →
    exec (.mpLinkUp m rate width caps d) s = .next (s.mpUp m rate width caps d)) ∧
  (∀ (s u : State) (m : Fin 16) (rate : Fin 8) (width : Fin 16) (caps : LinkCaps), s.linkable (32 + m) = true → u = s.trainedAs (32 + m) →
    linkFits true rate width (u.eff (F.MP_CTRL_MAX_RATE m)) (u.eff (F.MP_CTRL_MAX_WIDTH m)) = true →
    (∀ gib : Nat, u.eff (F.MP_CTRL_MODE m) = 1 → exec (.mpLinkUp m rate width caps (.expander gib)) s =
      .next (((u.mpJoin m rate width caps 1).set (F.MP_CAP_GIB m) (min 2048 gib)).emit (.hdm m 0 gib))) ∧
    (u.eff (F.MP_CTRL_MODE m) = 2 → exec (.mpLinkUp m rate width caps (.pcie [])) s = .next (u.mpJoin m rate width caps 2))) ∧
  (∀ (s : State) (m : Fin 16), exec (.mpLinkDown m) s = .next (s.mpDown m)) ∧
  (∀ (s : State) (m : Fin 16), s.get (F.MP_STAT_LINK m) ≠ 0 → exec (.mpLinkDown m) s =
    .next ((((((((s.trained (32 + m)).lowEnd (32 + m)).lanesDown (32 + m)).sets [(F.MP_STAT_LINK m, 0), (F.MP_STAT_WIDTH m, 0), (F.MP_STAT_RATE m, 0), (F.MP_STAT_IDE m, 0)]).ideForget
      (32 + m)).sat (F.MP_DOWN_COUNT_COUNT m)).raise (1281 + 32 * m)).mpLose m 0x26)) ∧
  (∀ (s : State) (p : Path) (m : Fin 16) (v : Nat), v = 8192 * s.get (F.MP_CTRL_L1_EN m) + 4096 * s.get (F.MP_CTRL_L0P_EN m) +
      256 * s.get (F.MP_CTRL_MAX_WIDTH m) + 16 * s.get (F.MP_CTRL_MAX_RATE m) + 4 + s.get (F.MP_CTRL_MODE m) →
    s.takes p (0x300040 + 0x10000 * m.val) v →
    exec (.mpRetrain p m) s = .next ((s.storeAt (pathCode p) (0x300040 + 0x10000 * m.val) v).mpCtrl m v).settled) ∧
  (∀ (s : State) (h : Fin 32) (v : Word), exec (.ltrMessage (h.castLE (by decide)) (.ltr v)) s =
    .next ((s.set (F.HP_LTR_VALUE h) v.toNat).ltr h v.toNat (s.get (F.HP_LTR_VALUE h) != v.toNat))) ∧
  (∀ (s : State) (h : Fin 32) (on : Bool), s.get (F.HP_STAT_LINK h) = 2 → exec (.ltrMessage (h.castLE (by decide)) (.aspm on)) s =
    .next ((s.setPartner h { s.partner h with aspm := on }).selectState h)) ∧
  (∀ (s : State) (port : Fin 64), (port.val < 48 → exec (.linkStateExit port) s = .next (s.exitLink port)) ∧
    (48 ≤ port.val → exec (.linkStateExit port) s = .next (s.dockExit (port.val - 48)))) ∧
  (∀ (s : State) (port : Fin 64), port.val < 48 → s.get (F.LSTATE_STATE port) ≠ 0 →
    (s.get (F.LSTATE_STATE port) = 4 → exec (.linkStateExit port) s = .next (((s.set (F.LSTATE_IDLE port) 0).set (F.LSTATE_TARGET port) 0).stageExit port)) ∧
    (s.get (F.LSTATE_STATE port) ≠ 4 → exec (.linkStateExit port) s =
      .next ((s.sets [(F.LSTATE_IDLE port, 0), (F.LSTATE_TARGET port, 0)]).showLState port 0))) ∧
  (∀ (s : State) (h : Fin 32) (rtt : BitVec 16), s.get (F.HP_STAT_LINK h) = 2 → s.get (F.HP_STAT_RATE h) = 7 →
    exec (.dlatMeasUpdate (h.castLE (by decide)) rtt) s =
      .next (((s.set (F.HP_STAT2_RTT h) rtt.toNat).set (F.DLAT_MEAS_NS h) (16 + rtt.toNat / 2)).selectState h))

/-- Bindings, fences and the traffic between hosts and functions (R184, R190-R193, R197, R198). -/
def Obligations.BindingCommandsAct : Prop :=
  (∀ (s : State) (h : Fin 32) (q : Word) (host vdsp src : BitVec 8) (id : BitVec 16) (b z d : Word), s.runs h q.toNat 0x0100 = true →
    (∀ e, s.bindErr h host.toNat vdsp.toNat src.toNat id.toNat b.toNat z.toNat d.toNat = some e →
      exec (.bind h q host vdsp src id b z d) s = .next (s.complete h q.toNat e 0)) ∧
    (s.bindErr h host.toNat vdsp.toNat src.toNat id.toNat b.toNat z.toNat d.toNat = none →
      (s.get (F.LSTATE_STATE host.toNat) ≠ 4 → exec (.bind h q host vdsp src id b z d) s =
        .next (s.bind h q.toNat host.toNat (vdsp.toNat - 1) src.toNat id.toNat b.toNat z.toNat d.toNat)) ∧
      (s.get (F.LSTATE_STATE host.toNat) = 4 → exec (.bind h q host vdsp src id b z d) s =
        .next ((s.exitLink host.toNat).mapPort (fun p => { p with binds := p.binds ++
          [⟨h, q.toNat, host.toNat, vdsp.toNat, src.toNat, id.toNat, b.toNat, z.toNat, d.toNat⟩] }))))) ∧
  (∀ (s : State) (h : Fin 32) (q : Word) (host vdsp slot : BitVec 8) (g : BitVec 4) (f : Bool), s.runs h q.toNat 0x0101 = true →
    exec (.unbind h q host vdsp slot g f) s = .next (s.unbind h q.toNat host.toNat vdsp.toNat slot.toNat g.toNat f)) ∧
  (∀ (s : State) (h : Fin 32) (d : Fin 16), s.get (F.VDSP_STAT_STATE h d) = 2 →
    exec (.powerControllerOff h d) s = .next (s.removeFn h d) ∧ exec (.unbindGrace h d) s = .next (s.removeFn h d)) ∧
  (∀ (s : State) (h : Fin 32) (q : Word) (i : BitVec 16) (g : BitVec 8), s.runs h q.toNat 0x0102 = true →
    exec (.writeFence h q i g) s = .next (s.writeFence h q.toNat i.toNat g.toNat)) ∧
  (∀ (s : State) (h : Fin 32) (q : Word) (f : Fence), s.port.fences.find? (fun f => f.host == h.val && f.seq == q.toNat) = some f →
    (s.fenceWaits f = true → exec (.fenceComplete h q) s = .next s) ∧ (s.fenceWaits f = false → exec (.fenceComplete h q) s = .next (s.fenceDone f))) ∧
  (∀ (s : State) (i : BitVec 9) (q : Word) (g : TargetLog), s.pool.writes = [] →
    exec (.targetError i q g) s = .next (((s.mapPool (fun p => { p with writes := [] })).mapPort
      (fun p => { p with errLog := tset p.errLog g.port g.span })).dropWrite i.toNat q.toNat g.port 0x25 g.span.len.toNat g.span.addr.toNat)) ∧
  (∀ (s : State) (h : Fin 32) (d : Fin 16) (tag : BitVec 16) (w : TlpSpan), s.get (F.VDSP_STAT_STATE h d) = 1 → s.shut = false →
    Answers (exec (.hostFunctionRequest h d tag false (.done w)) s) (fun t => t = s.toFn h d false w ∧
      t.sig.out.head? = some (.toFn h d (s.get (F.VDSP_SRC_PORT h d)) (s.get (F.VDSP_SRC_ID h d))
        (if 48 ≤ s.get (F.VDSP_SRC_PORT h d) then some (0, 0x100) else none) false)) ∧
    exec (.hostFunctionRequest h d tag false (.sent w)) s =
      .next ((s.toFn h d false w).mapPort (fun p => { p with np := p.np ++ [(h.val, d.val, tag.toNat)] })) ∧
    exec (.hostFunctionRequest h d tag true (.sent w)) s = .next (((s.toFn h d true w).takeSeq h).mapPort (fun p => { p with wtrack := p.wtrack ++
      [⟨h, s.nextSeq h, s.get (F.VDSP_SRC_PORT h d), 1, s.get (F.VDSP_STAT_SLOT h d) + 1, w.addr.toNat, w.len.toNat⟩] })) ∧
    (∀ q : Word, exec (.hostFunctionRequest h d tag true (.acked q)) s = .next (s.trackDone h q.toNat (s.get (F.VDSP_SRC_PORT h d)))))

/-! ## Macros, their sequencers and the training of dock lanes (chapters 9 and 10) -/

/-- PLLs (R206, R207, R413): a loss, a swap, a recalibrated PLL, a retry, a tap at its rail, and the end of an exit from
DEEP. How long an episode of a tap at its rail lasts is the model's choice (log entry 79). -/
def Obligations.PllCommandsAct : Prop :=
  (∀ (s : State) (m : Fin 80) (pll : Fin 2), s.get (pllF m pll) = 0 →
    ((s.pllLost m pll).noPll m = true → exec (.pllLockLoss m pll false) s = .next ((s.pllLost m pll).macroDead m)) ∧
    ((s.pllLost m pll).noPll m = false → exec (.pllLockLoss m pll false) s =
      .next (if s.get (F.MAC_STAT_ACTIVE m) = pll then (s.pllLost m pll).pllSwitch m else s.pllLost m pll))) ∧
  (∀ (s : State) (m : Fin 80) (pll : Fin 2), s.get (pllF m pll) = 0 → s.get (pllF m (1 - pll : Nat)) = 0 →
    exec (.pllLockLoss m pll true) s = .next (if ((s.pllLost m pll).pllLost m (1 - pll)).noPll m then
      ((s.pllLost m pll).pllLost m (1 - pll)).macroDead m else if s.get (F.MAC_STAT_ACTIVE m) = pll then
      ((s.pllLost m pll).pllLost m (1 - pll)).pllSwitch m else (s.pllLost m pll).pllLost m (1 - pll))) ∧
  (∀ (s : State) (p : Path) (m v : Nat), m = s.get (F.LW_SEL_MACRO (pathCode p)) → v = 256 * s.get (F.MAC_CTRL_REF_SEL m) + 1 →
    s.takes p 0x1220080 v → exec (.pllSwap p) s = .next ((s.storeAt (pathCode p) 0x1220080 v).laneFx s ⟨.lane32, 0, 0x80, 0, m, pathCode p, v⟩).settled) ∧
  (∀ (s : State) (m : Fin 81) (pll : Fin 2), m.val < 80 → s.get (pllF m pll) = 1 →
    (s.deepLeaves m = false → s.get (pllF m (1 - pll : Nat)) = 0 → exec (.pllReturn m pll) s = .next (s.set (pllF m pll) 0)) ∧
    (s.deepLeaves m = true → s.get (pllF m (1 - pll : Nat)) = 0 → exec (.pllReturn m pll) s = .next ((s.set (pllF m pll) 0).seqFree m)) ∧
    (s.deepLeaves m = true → s.get (pllF m (1 - pll : Nat)) ≠ 0 → exec (.pllReturn m pll) s = .next (s.set (pllF m pll) 0))) ∧
  (∀ (s : State) (pll : Fin 2), s.get (clkPllF pll) = 1 → s.get (clkPllF (1 - pll : Nat)) = 0 →
    exec (.pllReturn 80 pll) s = .next (s.set (clkPllF pll) 0)) ∧
  (∀ (s : State) (m : Fin 80), exec (.pllRetry m none) s = .next s) ∧
  (∀ (s : State) (m : Fin 32) (k : Fin 2), s.noPll m = true → s.get (pllF m k) = 1 → s.deepLeaves m = false →
    exec (.pllRetry (m.castLE (by decide)) (some k)) s =
      .next ((((s.set (pllF m k) 0).set (F.MAC_STAT_ACTIVE m) k).set (F.HP_STAT_LINK m) 1).beginTrain m)) ∧
  (∀ (s t : State) (m : Fin 80) (lane : Fin 4), t = s.tapsMove (4 * m.val + lane) → lane.val < macroLanes m →
    (t.atRail (4 * m.val + lane) = true → (t.macro m).railed.contains lane.val = false →
      exec (.tapRail m lane) s = .next (((t.set (F.LN_STAT_RAIL (4 * m.val + lane)) 1).setMacro m
        { t.macro m with railed := lane.val :: (t.macro m).railed }).laneEv 5 m lane)) ∧
    (t.atRail (4 * m.val + lane) = true → (t.macro m).railed.contains lane.val = true → exec (.tapRail m lane) s = .next t) ∧
    (t.atRail (4 * m.val + lane) = false → exec (.tapRail m lane) s = .next s)) ∧
  (∀ (s : State) (port : Fin 64), (port.val < 48 → exec (.deepExitComplete port) s = .next ((s.deepDone port).bindsGo port)) ∧
    (48 ≤ port.val → exec (.deepExitComplete port) s = .next (s.dockDeepDone (port.val - 48)))) ∧
  (∀ (s t : State) (port : Fin 64), port.val < 48 → s.link.deepX.contains port.val = true →
    t = ((((s.mapLinks (fun k => { k with deepX := k.deepX.filter (fun x => x != port.val) })).deepOver port).set (F.LSTATE_TARGET port) 0).showLState port 0) →
    exec (.deepExitComplete port) s = .next (t.bindsGo port))

/-- The sequencer (R211, R212): starting, stopping and continuing a program, and what each step's OP does when the sequencer is ready to run it. -/
def Obligations.SequencerStepsAct : Prop :=
  (∀ (s : State) (p : Path) (step : Fin 64), s.takes p 0x122008C (65536 * step.val + 1) →
    exec (.seqStart p step) s =
      .next (((s.storeAt (pathCode p) 0x122008C (65536 * step.val + 1)).seqStart (s.get (F.LW_SEL_MACRO (pathCode p))) step).settled)) ∧
  (∀ (s : State) (p : Path) (m v : Nat), m = s.get (F.LW_SEL_MACRO (pathCode p)) → v = 65536 * s.get (F.SEQ_CTRL_START_STEP m) + 2 →
    s.takes p 0x122008C v → exec (.seqStop p) s = .next (((s.storeAt (pathCode p) 0x122008C v).seqStop m).settled)) ∧
  (∀ (s : State) (p : Path) (next : Fin 64), s.takes p 0x1220098 (256 * next.val + 1) →
    exec (.seqContinue p next) s =
      .next (((s.storeAt (pathCode p) 0x1220098 (256 * next.val + 1)).seqContinue (s.get (F.LW_SEL_MACRO (pathCode p))) (256 * next.val + 1)).settled)) ∧
  (∀ (s u : State) (m : Fin 80) (x r : Nat), s.seqReady m = true → 64 ≤ m.val → s.seqWord m % 2 ^ 23 = x → r = x % 16 % 4 →
    s.seqWord m / 2 ^ 27 = 2 → u = ((s.tapsStop m).sets [(F.MAC_STAT_RATE m, r), (F.DL_STAT_RATE (m.val - 64), r)]).mapTrain (m.val - 64)
      (fun t => { t with txRate := r }) →
    exec (.seqRate m) s = .next ((if (s.lk (m.val - 64)).train.on && !(s.lk (m.val - 64)).train.flitTx then
        u.dockSends (m.val - 64) 1 r (s.lk (m.val - 64)).train.mask
      else if s.get (F.DL_STAT_STAGE (m.val - 64)) = 8 then u.dockSends (m.val - 64) 2 r (s.get (F.DL_STAT_WIDTH (m.val - 64))) else u).seqNext m)) ∧
  (∀ (s : State) (m : Fin 80) (x : Nat), s.seqReady m = true → x < 2 ^ 23 → s.seqWord m % 2 ^ 23 = x →
    (s.seqWord m / 2 ^ 27 = 0 → exec (.seqEnd m) s = .next (s.seqEnd m (x % 2))) ∧
    (s.seqWord m / 2 ^ 27 = 1 → exec (.seqTxsrc m) s = .next
      (((s.seqLanes m).filter (fun l => s.on (F.PRBS_CTRL_GEN_EN (4 * m.val + l)))).foldl (fun s l => s.genTell (4 * m.val + l))
        ((s.setMacro m { s.macro m with txsrc := (s.seqLanes m).foldl (fun t l => tset t l (x % 4)) (s.macro m).txsrc }).seqNext m))) ∧
    (s.seqWord m / 2 ^ 27 = 2 → m.val < 64 → exec (.seqRate m) s = .next (((s.tapsStop m).set (F.MAC_STAT_RATE m) (x % 16)).seqNext m)) ∧
    (s.seqWord m / 2 ^ 27 = 3 → exec (.seqWait m) s = .next (s.setMacro m { s.macro m with wait := .time })) ∧
    (s.seqWord m / 2 ^ 27 = 4 → exec (.seqWaitfor m) s = .next (s.setMacro m { s.macro m with wait := .cond })) ∧
    (s.seqWord m / 2 ^ 27 = 5 → exec (.seqAdapt m) s = .next ((s.seqFrozen m (fun v => v - Nat.land v (x % 16))).seqNext m)) ∧
    (s.seqWord m / 2 ^ 27 = 6 → exec (.seqFreeze m) s = .next (((s.tapsStop m).seqFrozen m (fun v => Nat.lor v (x % 16))).seqNext m)) ∧
    (s.seqWord m / 2 ^ 27 = 7 → exec (.seqFfe m) s = .next (((s.seqLanes m).foldl (fun s l => s.ffe m l (x % 16)) s).seqNext m)) ∧
    (s.seqWord m / 2 ^ 27 = 8 → exec (.seqEngine m) s =
      .next (((s.set (F.SEQ_STAT_WAIT_ENGINE m) 1).setMacro m { s.macro m with taken := false }).emit (.engReq (s.seqOwner m) (x % 256) m))) ∧
    (s.seqWord m / 2 ^ 27 = 9 → exec (.seqJump m) s = .next (s.set (F.SEQ_STAT_STEP m) (x % 64))) ∧
    (s.seqWord m / 2 ^ 27 = 10 → exec (.seqSetlc m) s = .next ((s.set (F.SEQ_STAT_LC m) x).seqNext m)) ∧
    (12 ≤ s.seqWord m / 2 ^ 27 → exec (.seqReservedOp m) s = .next ((s.seqStop m).set (F.SEQ_STAT_RESULT m) 0))) ∧
  (∀ (s : State) (m : Fin 80), (s.macro m).wait = .time → (s.macro m).held = false →
    exec (.seqWaitExpiry m) s = .next ((s.setMacro m { s.macro m with wait := .none }).seqNext m)) ∧
  (∀ (s : State) (m : Fin 80), (s.macro m).wait = .cond → (s.macro m).held = false →
    (s.condMet m = true → exec (.waitforMet m) s = .next (((s.condShown m).setMacro m { s.macro m with wait := .none }).seqNext m)) ∧
    (s.condMet m = false → exec (.waitforMet m) s = .next s) ∧
    exec (.waitforTimeout m) s = .next ((s.setMacro m { s.macro m with wait := .none }).seqAt m (bits (s.seqWord m) 13 6)))

/-- DJNZ (R212) takes one from the loop counter, modulo 65536: at 0 the program goes on with the next step, and else with the step named. -/
def Obligations.DjnzCountsDown : Prop :=
  ∀ (s : State) (m : Fin 80), s.seqReady m = true → s.seqWord m / 2 ^ 27 = 11 →
    Answers (exec (.seqDjnz m) s) (fun t =>
      t.get (F.SEQ_STAT_LC m) = (s.get (F.SEQ_STAT_LC m) + 65535) % 65536 ∧
      (s.get (F.SEQ_STAT_LC m) % 65536 = 1 → t.get (F.SEQ_STAT_STEP m) = (s.get (F.SEQ_STAT_STEP m) + 1) % 64) ∧
      (s.get (F.SEQ_STAT_LC m) % 65536 ≠ 1 → t.get (F.SEQ_STAT_STEP m) = s.seqWord m % 64) ∧
      (∀ f : Fld, f.key ≠ (F.SEQ_STAT_LC m).key → f.key ≠ (F.SEQ_STAT_STEP m).key → t.get f = s.get f))

/-- Lane training, the loupe, the audit and the injector (R214-R227). That an audit may bring its slices in parts is the model's choice (log
entry 81). -/
def Obligations.TrainingCommandsAct : Prop :=
  (∀ (s : State) (n : Fin 16) (lane : Fin 2) (f : TrainFrame), (s.lk n).widen = false →
    exec (.trainingFrame n lane f) s = .next (s.trainFrame n lane f)) ∧
  (∀ (s : State) (n : Fin 16) (f : TrainFrame), (s.lk n).widen = true → exec (.trainingFrame n 1 f) s = .next (s.widenFrame n f)) ∧
  (∀ (s : State) (p : Path) (n : Fin 16) (lane : Fin 2), s.takes p (0x400060 + 0x10000 * n.val) (2 ^ lane.val) →
    exec (.slip p n lane) s = .next (((s.storeAt (pathCode p) (0x400060 + 0x10000 * n.val) (2 ^ lane.val)).slip n lane).settled)) ∧
  (∀ (s : State) (p : Path) (n : Fin 16), s.takes p (0x400060 + 0x10000 * n.val) 256 →
    exec (.dlRestart p n) s = .next (((s.storeAt (pathCode p) (0x400060 + 0x10000 * n.val) 256).dlRestart n).settled)) ∧
  (∀ (s : State) (n : Fin 16), (s.lk n).train.on = true → s.anyReady n = false →
    (s.get (F.DL_STAT_RATE n) ≠ 0 ∨ (s.lk n).train.txRate ≠ 0 → exec (.rateTimeout n) s = .next (s.fallBack n)) ∧
    (s.get (F.DL_STAT_RATE n) = 0 → exec (.bringupTimeout n) s = .next (s.bringFail n))) ∧
  (∀ (s : State) (n : Fin 16), (s.lk n).train.silent = true → exec (.bringupRestart n) s = .next (s.bringUp n)) ∧
  (∀ (s : State) (n : Fin 16) (lane : Fin 2), (s.lk n).train.on = true → hasBit (s.lk n).train.mask lane = true →
    (laneOf (s.lk n).train lane).stage < 5 → s.anyReady n = true → exec (.laneExcluded n lane) s = .next (s.exclude n lane)) ∧
  (∀ (s : State) (p : Path) (value : Word) (w v : Nat), w = s.winIndex (pathCode p) 0 .lwLane → v = putBit (putBit value.toNat 31 true) 30 false →
    s.takes p 0x122011C v → exec (.eyeGo p value) s = .next (((s.storeAt (pathCode p) 0x122011C v).eyeGo w).settled)) ∧
  (∀ (s : State) (p : Path) (w v : Nat), w = s.winIndex (pathCode p) 0 .lwLane → v = 2 ^ 30 + s.eyeWord w → s.takes p 0x122011C v →
    hasBit v 30 = true → exec (.eyeStop p) s = .next (((s.storeAt (pathCode p) 0x122011C v).eyeAbort w 3).settled)) ∧
  (∀ (s : State) (m : Fin 80) (lane : Fin 4) (errs : BitVec 64), s.on (F.EYE_STAT_BUSY (4 * m.val + lane)) = true →
    Answers (exec (.eyePointDone m lane errs) s) (fun t =>
      t.get64 (F.EYE_ERR_LO_COUNT (4 * m.val + lane)) (F.EYE_ERR_HI_COUNT (4 * m.val + lane)) = errs.toNat ∧
      t.get (F.EYE_STAT_BUSY (4 * m.val + lane)) = 0 ∧ t.get (F.EYE_STAT_ABORT (4 * m.val + lane)) = 0 ∧
      t.get (F.LN_STAT_LOUPE (4 * m.val + lane)) = 0 ∧ t.evStat 3908 = true)) ∧
  (∀ (s : State) (m : Fin 80) (lane : Fin 4) (mism : List Nat) (badCal : BitVec 8), lane.val < macroLanes m → s.get (F.AUDIT_CFG_PERIOD_MS m) ≠ 0 →
    s.laneLive m = true → s.on (F.EYE_STAT_BUSY (4 * m.val + lane)) = false →
    (s.auditAt (4 * m.val + lane) = 0 → mism.length = 8 → exec (.audit m lane mism badCal) s = .next (((List.range 8).foldl (fun s k =>
      if s.get (F.AUDIT_CFG_SLICE_LIMIT m) < mism.getD k 0 ∨ hasBit badCal.toNat k then s.samplerFail (4 * m.val + lane) k else s) s).auditTo
        (4 * m.val + lane) 8) ∧
      (badCal = 0 → (∀ k : Nat, mism.getD k 0 ≤ s.get (F.AUDIT_CFG_SLICE_LIMIT m)) → s.get (F.LN_STAT_LOUPE (4 * m.val + lane)) ≠ 3 →
        s.on (F.EYE_CTRL_GO (4 * m.val + lane)) = false → Answers (exec (.audit m lane mism badCal) s) (fun t =>
          t.get (F.LN_STAT_LOUPE (4 * m.val + lane)) = 0 ∧ t.auditAt (4 * m.val + lane) = 0 ∧
          (∀ f : Fld, f.key ≠ (F.LN_STAT_LOUPE (4 * m.val + lane)).key → t.get f = s.get f)))) ∧
    (s.auditAt (4 * m.val + lane) = 0 → mism = [] → s.get (F.LN_STAT_LOUPE (4 * m.val + lane)) = 0 → s.on (F.EYE_CTRL_GO (4 * m.val + lane)) = false →
      Answers (exec (.audit m lane mism badCal) s) (fun t => t.get (F.LN_STAT_LOUPE (4 * m.val + lane)) = 1 ∧
        (∀ f : Fld, f.key ≠ (F.LN_STAT_LOUPE (4 * m.val + lane)).key → t.get f = s.get f)))) ∧
  (∀ (s : State) (m : Fin 80) (lane : Fin 4) (mism : List Nat) (badCal : BitVec 8), s.on (F.EYE_STAT_BUSY (4 * m.val + lane)) = true →
    exec (.audit m lane mism badCal) s = .next s) ∧
  (∀ (s t : State) (p : Path) (w v : Nat), w = s.winIndex (pathCode p) 0 .lwLane → v = 256 + s.get (F.INJ_CTRL_RATE_LOG2 w) → hasBit v 8 = true →
    s.takes p 0x122013C v → t = s.storeAt (pathCode p) 0x122013C v → exec (.injectOne p) s = .next (t.laneFx s ⟨.lane32, 0, 0x13C, 0, w, pathCode p, v⟩).settled ∧
    (t.genDrives w = true → t.get (F.INJ_CTRL_RATE_LOG2 w) = s.get (F.INJ_CTRL_RATE_LOG2 w) → t.laneFx s ⟨.lane32, 0, 0x13C, 0, w, pathCode p, v⟩ =
      (if t.nearLoop w && t.on (F.PRBS_CTRL_CHK_EN w) then (t.emit (.inject (w / 4) (t.ballOf w))).sat (F.PRBS_ERR_COUNT w)
       else t.emit (.inject (w / 4) (t.ballOf w)))))

/-! ## The dock links (chapters 10 and 11) -/

/-- Flits and the link's timers (R233-R264): in flit times the hub sends; a flit of a kind without a number (IDLE, ECHO, ECHO_REPLY) does its work
after what every good flit brings; DATA, SEAL, NAK, INIT, PM and PAUSE flits, flits in error, and the timeouts; which bytes of a flit go on which
lane, and the bits and symbols of a byte on a dock lane (R204, R237). How many bytes FEC corrected in a flit in error is a free value (log
entry 65). -/
def Obligations.FlitsAct : Prop :=
  (∀ (s : State) (n : Fin 16), exec (.flitTime n) s = .next (s.flitSlot n)) ∧
  (∀ (s u : State) (n : Fin 16), u = (((s.epochCheck n false).epochCheck n true).pmPoll n).rtResume n → (s.lk n).widen = false → (s.lk n).train.on = false →
    u.get (F.DL_STAT_STAGE n) = 8 → (u.lkState n = 1 → exec (.flitTime n) s = .next (s.sendInit n)) ∧
    (u.lkState n ≠ 1 → (u.lk n).resume = true → exec (.flitTime n) s = .next (u.sendPlain n 0 []))) ∧
  (∀ (s : State) (n : Fin 16) (h : FlitHdr), s.takesFlits n = false → exec (.idleFlit n h) s = .next s ∧ exec (.reservedFlit n h) s = .next s ∧
    exec (.crcFailedFlit n) s = .next s) ∧
  (∀ (s : State) (n : Fin 16) (h : FlitHdr), s.takesFlits n = true → fecGood (wireErrs h) = false →
    exec (.idleFlit n h) s = .next (s.crcBad n (rsFixes (wireErrs h)).length) ∧ exec (.reservedFlit n h) s = .next (s.crcBad n (rsFixes (wireErrs h)).length)) ∧
  (∀ (s v u : State) (n : Fin 16) (h : FlitHdr), s.takesFlits n = true → fecGood (wireErrs h) = true →
    v = s.sat (F.LK_FEC_CORR_COUNT n) (rsFixes (wireErrs h)).length → (v.takesSeq n = false → exec (.idleFlit n h) s = .next (v.rxTime n false)) ∧
    exec (.reservedFlit n h) s = .next ((v.rxTime n false).protocol n) ∧
    (v.takesSeq n = true → u = v.rxHead n h false → u.lkState n ≠ 0 → exec (.idleFlit n h) s = .next u ∧
      (∀ num : BitVec 64, exec (.echoFlit n h num) s = .next (u.mapLk n (fun k => { k with reply := some (num.toNat, u.now) }))) ∧
      (∀ (num : BitVec 64) (turn dev : Word), exec (.echoReplyFlit n h num turn dev) s = .next (u.echoIn n num.toNat turn.toNat dev.toNat)) ∧
      ((u.lk n).rtTgt = none → exec (.pauseFlit n h) s = .next (u.protocol n)) ∧
      (∀ r, (u.lk n).rtTgt = some r → exec (.pauseFlit n h) s = .next (((u.mapLk n (fun k => { k with pauseRx := true })).pauseBegin n).toRetrain n)) ∧
      ((u.lk n).mirror = [] → exec (.nakFlit n h) s = .next (u.sat (F.LK_NAK_RX_COUNT n))) ∧
      (∀ (m : Mir) (l : List Mir), (u.lk n).mirror = m :: l → exec (.nakFlit n h) s = .next ((u.sat (F.LK_NAK_RX_COUNT n)).replayFrom n m.seq)) ∧
      (∀ st cnt : BitVec 8, st.toNat ≤ 3 → exec (.pmFlit n h 1 st cnt) s = .next (u.pmReqIn n st.toNat)))) ∧
  (∀ (s : State) (n : Fin 16) (h : FlitHdr) (cls : BitVec 3) (chan : BitVec 5) (p : BadPart) (b : List (BitVec 8)),
    exec (.dataFlit n h cls chan b) s = .next (s.dataIn n h ⟨h.seq.toNat, cls.toNat, chan.toNat, false, b⟩).sigDrain ∧
    exec (.dataBadFlit n h cls p) s = .next (s.dataIn n h ⟨h.seq.toNat, cls.toNat, p.chan.toNat, true, p.body⟩)) ∧
  (∀ (s x u v : State) (n : Fin 16) (h : FlitHdr) (cls : BitVec 3) (chan : BitVec 5) (p : BadPart) (b : List (BitVec 8)), s.takesFlits n = true →
    fecGood (wireErrs h) = true → x = s.sat (F.LK_FEC_CORR_COUNT n) (rsFixes (wireErrs h)).length → x.takesSeq n = true →
    u = x.rxHead n h true → u.lkState n ≠ 0 → 1 ≤ cls.toNat → cls.toNat ≤ 5 → u.outOfOrder n h.seq.toNat = none →
    (u.lk n).left.getD (cls.toNat - 1) 0 ≠ 0 →
    v = u.mapLk n (fun k => { k with left := setAt k.left (cls.toNat - 1) (k.left.getD (cls.toNat - 1) 0 - 1) }) →
    (v.sealed n = false → exec (.dataFlit n h cls chan b) s =
        .next ((v.acceptSeq n h.seq.toNat true).handOn n ⟨h.seq.toNat, cls.toNat, chan.toNat, false, b⟩).sigDrain ∧
      exec (.dataBadFlit n h cls p) s = .next ((v.acceptSeq n h.seq.toNat true).handOn n ⟨h.seq.toNat, cls.toNat, p.chan.toNat, true, p.body⟩)) ∧
    (v.sealed n = true → exec (.dataFlit n h cls chan b) s = .next ((v.acceptSeq n h.seq.toNat false).mapLk n (fun k =>
      { k with staged := k.staged ++ [⟨h.seq.toNat, cls.toNat, chan.toNat, false, b⟩] })).sigDrain)) ∧
  (∀ (s : State) (n : Fin 16) (h : FlitHdr) (tag : BitVec 128) (c : BitVec 64) (k : BitVec 8),
    exec (.sealFlit n h tag c k) s = .next (s.sealIn n h tag c.toNat k.toNat).sigDrain) ∧
  (∀ (s x u v : State) (n : Fin 16) (h : FlitHdr) (tag : BitVec 128) (c : BitVec 64) (k : BitVec 8) (key : Option Nat) (iv : List (BitVec 8)),
    s.takesFlits n = true → fecGood (wireErrs h) = true → x = s.sat (F.LK_FEC_CORR_COUNT n) (rsFixes (wireErrs h)).length → x.takesSeq n = true →
    u = x.rxHead n h true → u.lkState n ≠ 0 → u.outOfOrder n h.seq.toNat = none → u.sealed n = true → c.toNat = (u.lk n).sealRx →
    key = u.slotKey (u.lk n).crypt.rxSlot → iv = sealIv (u.lk n).crypt.saltRx (u.lk n).sealRx →
    tag = sealTag key iv (u.lk n).staged h.seq.toNat c.toNat k.toNat →
    v = ((u.acceptSeq n h.seq.toNat true).sat (F.KS_USES_COUNT (u.lk n).crypt.rxSlot)).mapLk n (fun k =>
      { k with staged := [], sealRx := (k.sealRx + 1) % 2 ^ 64 }) →
    exec (.sealFlit n h tag c k) s = .next (v.handGroup n key iv (u.lk n).staged).sigDrain) ∧
  (∀ (s v : State) (n : Fin 16) (h : FlitHdr) (ver d : BitVec 16) (enc : Bool) (cr : List (BitVec 16)) (id : BitVec 64), s.takesFlits n = true →
    fecGood (wireErrs h) = true → v = (s.sat (F.LK_FEC_CORR_COUNT n) (rsFixes (wireErrs h)).length).winIn n false →
    exec (.initFlit n h ver enc cr d id) s = .next (v.initIn n ver.toNat enc (cr.map (fun c => c.toNat)) d.toNat id.toNat)) ∧
  (∀ (s v w : State) (n : Fin 16) (h : FlitHdr) (d : BitVec 16) (enc : Bool) (cr : List (BitVec 16)) (id : BitVec 64), s.takesFlits n = true →
    fecGood (wireErrs h) = true → v = (s.sat (F.LK_FEC_CORR_COUNT n) (rsFixes (wireErrs h)).length).winIn n false →
    v.lkState n = 1 → (v.lk n).initRx = false → cr.any (fun c => decide (511 < c.toNat)) = false → 32 ≤ d.toNat → d.toNat ≤ 256 →
    id.toNat = v.get64 (F.LK_PID_LO_ID n) (F.LK_PID_HI_ID n) → w = v.encAgreed n enc → w.lkState n ≠ 0 →
    exec (.initFlit n h 1 enc cr d id) s = .next (((w.mapLk n (fun k => { k with
        initRx := true, pDepth := d.toNat, left := k.offer, seen := [0, 0, 0, 0, 0], ret := [0, 0, 0, 0, 0], owe := [0, 0, 0, 0, 0] })).sets
      [(F.LK_AVAIL0_PCIE n, (cr.map (fun c => c.toNat)).getD 0 0), (F.LK_AVAIL0_ETH n, (cr.map (fun c => c.toNat)).getD 1 0),
       (F.LK_AVAIL1_DISP n, (cr.map (fun c => c.toNat)).getD 2 0), (F.LK_AVAIL1_SIG n, (cr.map (fun c => c.toNat)).getD 3 0),
       (F.LK_AVAIL2_MGMT n, (cr.map (fun c => c.toNat)).getD 4 0), (F.CH_INFO_STATE n (chW 5 0), 1),
       (F.CH_INFO_WORD n (chW 5 0), chWord (chW 5 0) 0)]).initDone n)) ∧
  (∀ (s : State) (n : Fin 16) (h : FlitHdr) (op st cnt : BitVec 8), exec (.pmFlit n h op st cnt) s = .next (s.pmIn n h op.toNat st.toNat cnt.toNat)) ∧
  (∀ (s : State) (n : Fin 16), s.takesFlits n = true → exec (.crcFailedFlit n) s = .next (s.fresh.2.crcBad n (s.fresh.1 % 4))) ∧
  (∀ (s u : State) (n : Fin 16), s.takesFlits n = true →
    u = (((s.fresh.2.rxTime n true).sat (F.LK_FEC_CORR_COUNT n) (s.fresh.1 % 4)).sat (F.LK_CRC_FAIL_COUNT n)).nak n →
    2 * (u.lk n).winFail ≤ u.get (F.LK_LIMITS_CRC_LIMIT n) → exec (.crcFailedFlit n) s = .next u) ∧
  (∀ (s : State) (n : Fin 16), Answers (exec (.nakRearm n) s) (fun t => (t.lk n).nakArmed = true ∧ t.regs = s.regs)) ∧
  (∀ (s : State) (n : Fin 16) (m : Mir) (l : List Mir), (s.lk n).mirror = m :: l → s.lkState n = 2 →
    exec (.replayTimeout n) s = .next (s.replayFrom n m.seq)) ∧
  (∀ (s : State) (n : Fin 16), (s.lk n).group ≠ [] → Answers (exec (.sealWaitExpiry n) s) (fun t => (t.lk n).sealDue = true ∧ t.regs = s.regs)) ∧
  (∀ (s : State) (n : Fin 16), s.lkState n = 1 → (s.lk n).initRx = false → exec (.initTimeout n) s = .next (s.protocol n)) ∧
  (∀ (s : State) (n : Fin 16), s.lkState n = 2 → exec (.dead n) s = .next (s.lkDown n 3)) ∧
  (∀ (s : State) (n : Fin 16), s.lkState n = 0 → s.on (F.PD_STAT_MODE n) = true → s.get (F.LK_STAT_DOWN_CAUSE n) ≠ 9 →
    (s.lk n).train.on = false → (s.lk n).train.silent = false → (s.lk n).train.failed = false →
    s.get (pllF (64 + n) 0) % 3 = 0 ∨ s.get (pllF (64 + n) 1) % 3 = 0 → exec (.linkRestart n) s = .next (s.bringUp n)) ∧
  (∀ (l : List (BitVec 8)) (a b : BitVec 8), laneBytes 3 0 (a :: b :: l) = a :: laneBytes 3 0 l ∧ laneBytes 3 1 (a :: b :: l) = b :: laneBytes 3 1 l ∧
    (∀ k : Fin 2, laneBytes (2 ^ k.val) k l = l ∧ laneBytes (2 ^ k.val) (1 - k.val) l = [])) ∧
  (∀ (l : List (BitVec 8)) (a : BitVec 8) (rate : Nat),
    dockSymbols (rate + 2) (a :: l) = [(0, 1), (2, 3), (4, 5), (6, 7)].map (fun i => gray (a.getLsbD i.1) (a.getLsbD i.2)) ++ dockSymbols (rate + 2) l ∧
    (∀ k : Fin 2, dockSymbols k (a :: l) = (List.range 8).map (fun i => if a.getLsbD i then 1 else -1) ++ dockSymbols k l))

/-- Retrains, echoes, and the messages of a link that is up (R257-R271, R285). -/
def Obligations.LinkMessagesAct : Prop :=
  (∀ (s : State) (p : Path) (n : Fin 16) (rate mask : BitVec 2) (v : Nat), v = 256 * rate.toNat + 16 * mask.toNat + 1 →
    s.takes p (0x401064 + 0x10000 * n.val) v → exec (.lkRetrain p n rate mask) s =
      .next (((((s.storeAt (pathCode p) (0x401064 + 0x10000 * n.val) v).rtStart n rate.toNat mask.toNat 0).mapLk n (fun k =>
        { k with rtSoft := k.rtReq.isSome || k.rtWait.isSome }))).settled)) ∧
  (∀ (s : State) (p : Path) (n : Fin 16), s.takes p (0x401064 + 0x10000 * n.val) 2 →
    exec (.lkDown p n) s = .next ((((s.storeAt (pathCode p) (0x401064 + 0x10000 * n.val) 2).sealOut n).lkDown n 10).settled)) ∧
  (∀ (s : State) (n : Fin 16), 2 ≤ s.lkState n →
    (∀ r : RetrainMsg, exec (.retrainReq n r) s = .next (s.rtReqIn n r) ∧ exec (.retrainAck n r) s = .next (s.rtAckIn n r)) ∧
    (∀ d : DescribeMsg, exec (.describe n d) s = .next (s.describe n d)) ∧
    (∀ cls idx gen : BitVec 8, exec (.chOpen n cls idx gen) s = .next (s.mgmtErr n) ∧
      exec (.chClose n cls idx gen) s = .next (s.chCloseIn n cls.toNat idx.toNat (gen.toNat % 16))) ∧
    (∀ (num reason : BitVec 8) (rx : Bool), exec (.allotAck n num rx) s = .next (s.allotAck n num.toNat rx) ∧
      exec (.allotNak n num rx reason) s = .next (s.allotNak n num.toNat rx reason.toNat)) ∧
    exec (.badMgmtMessage n 0x10) s = .next (s.protocol n) ∧ exec (.badMgmtMessage n 0x11) s = .next (s.protocol n) ∧
    (∀ code : BitVec 8, code ≠ 0x10 → code ≠ 0x11 → exec (.badMgmtMessage n code) s = .next (s.mgmtErr n)) ∧
    (∀ rx : Bool, exec (.epochBoundary n rx) s = .next (s.epochCheck n rx)) ∧
    (∀ rx : Bool, (dirOf (s.lk n) rx).pend = none → (dirOf (s.lk n) rx).dirty = true → (dirOf (s.lk n) rx).sent ≠ some (s.epoch n rx) →
      s.orphan n = false → exec (.epochBoundary n rx) s = .next (s.sendAllot n rx)) ∧
    (∀ (cls idx gen : BitVec 8) (w : Nat), 1 ≤ cls.toNat → cls.toNat ≤ 4 → idx.toNat < 32 → w = chW cls.toNat idx.toNat → s.chState n w = 1 →
      s.chGen n w = gen.toNat % 16 → exec (.chClose n cls idx gen) s = .next (s.chClose n w)) ∧
    (∀ (num : BitVec 8) (rx : Bool) (a : Allot), (dirOf (s.lk n) rx).pend = some a → a.num = num.toNat → a.epoch.isSome = true →
      exec (.allotAck n num rx) s = .next (s.setDir n rx { dirOf (s.lk n) rx with pend := some { a with acked := true } }) ∧
      exec (.allotNak n num rx 2) s = .next ((((s.set (if rx then F.PR_STAT_RX_NAK n else F.PR_STAT_TX_NAK n) 2).setDir n rx
        { dirOf (s.lk n) rx with pend := none }).set (if rx then F.PR_STAT_RX_PENDING n else F.PR_STAT_TX_PENDING n) 0).raise (dpEv n 2 2))) ∧
    (∀ (num : BitVec 8) (rx : Bool), (dirOf (s.lk n) rx).pend = none → exec (.allotNak n num rx 2) s = .next (s.raise (dpEv n 2 2)))) ∧
  (∀ (s : State) (n : Fin 16) (q : RtReq), (s.lk n).rtReq = some q →
    (3 ≤ q.reps → exec (.retrainTimeout n) s = .next (s.lkDown n 6)) ∧
    (∀ (num : Nat) (t : State), q.reps < 3 → num = ((s.lk n).rtNum + 1) % 256 → t = (s.mapLk n (fun k => { k with
      rtNum := num, rtReq := some { q with num := num, reps := q.reps + 1 } })).declare n →
      exec (.retrainTimeout n) s = .next (t.sendMgmt n 0x10 (t.rtMsg n num q.rate q.mask q.reason)))) ∧
  (∀ (s : State) (n : Fin 16), s.lkState n = 2 → s.on (F.LK_CTRL_ECHO_EN n) = true →
    Answers (exec (.echoPeriod n) s) (fun t => (t.lk n).echoDue = true ∧ t.regs = s.regs)) ∧
  (∀ (s : State) (n : Fin 16) (q t1 : Nat), (s.lk n).echoOut = some (q, t1) →
    (t1 + 10000 ≤ s.now → Answers (exec (.echoTimeout n) s) (fun t => (t.lk n).echoOut = none ∧ t.regs = s.regs)) ∧
    (s.now < t1 + 10000 → exec (.echoTimeout n) s = .next s)) ∧
  (∀ (s : State) (n : Fin 16) (ns : Word), exec (.ltol n ns) s = .next ((s.set (F.TOL_LTR_NS (48 + n)) (min ns.toNat 0xFFFFFF)).selectState (48 + n))) ∧
  (∀ (s : State) (n : Fin 16) (code : BitVec 7) (b : List (BitVec 8)), exec (.vendorMgmt n code b) s =
    .next ((s.emit (.message n 5 (128 + code.toNat) b)).emit (.engReq (s.seqOwner (64 + n)) 0x80 n))) ∧
  (∀ (s : State) (p : Path) (n : Fin 16), s.takes p (0x40304C + 0x10000 * n.val) 1 →
    exec (.chCmdOpen p n) s = .next (((s.storeAt (pathCode p) (0x40304C + 0x10000 * n.val) 1).chOpen n (s.winIndex (pathCode p) n .chSel)).settled)) ∧
  (∀ (s : State) (p : Path) (n : Fin 16) (w : Nat) (t : State), s.takes p (0x40304C + 0x10000 * n.val) 2 → w = s.winIndex (pathCode p) n .chSel →
    t = s.storeAt (pathCode p) (0x40304C + 0x10000 * n.val) 2 →
    exec (.chCmdClose p n) s = .next ((((t.sendMgmt n 3 (chMsg w (t.chGen n w) ++ [0])).chClose n w)).settled))

/-- A TLP on an open channel of the right generation (R272, R273): for a function that is bound it reaches the hub, and its completion ends the
host's request; one that names a channel or generation that is not open is stale (R267). -/
def Obligations.TlpsFollowTheirChannel : Prop :=
  (∀ (s : State) (n : Fin 16) (chan : BitVec 16) (t : TlpIn), s.shut = false → (s.chState n (chW 1 (chan.toNat % 32)) ≠ 1 ∨
    s.get (F.CH_INFO_WORD n (chW 1 (chan.toNat % 32))) ≠ chan.toNat) → exec (.tlp n chan t) s = .next (s.stale 1)) ∧
  (∀ (s : State) (n : Fin 16) (chan : BitVec 16) (x h d : Nat), s.shut = false → s.chState n (chW 1 (chan.toNat % 32)) = 1 →
    s.get (F.CH_INFO_WORD n (chW 1 (chan.toNat % 32))) = chan.toNat → s.chFn n chan.toNat = some (x, h, d) →
    (∀ (tag : BitVec 16) (a : BitVec 64) (len : BitVec 13), exec (.tlp n chan (.read tag a len)) s = .next (s.fnRead x h d tag.toNat a.toNat len.toNat)) ∧
    (∀ (a : BitVec 64) (b : List (BitVec 8)), (b.length ≤ 512 → exec (.tlp n chan (.write a b)) s = .next (s.fnWrite x h d a.toNat b)) ∧
      (512 < b.length → exec (.tlp n chan (.write a b)) s = .next (s.sat (F.CH_DROP_COUNT n (chW 1 (chan.toNat % 32)))))) ∧
    (∀ (tag : BitVec 16) (a : BitVec 64) (op : AtomicOp), exec (.tlp n chan (.atomic tag a op)) s = .next (s.fnAtomic x h d tag.toNat a.toNat op)) ∧
    (∀ on : Bool, exec (.tlp n chan (.intx on)) s = .next (s.emit (.intx h d on))) ∧
    exec (.tlp n chan .other) s = .next (s.emit (.toHost h d true 0 0)) ∧
    (∀ off : BitVec 8, exec (.tlp n chan (.ptm off)) s = .next (s.emit (.ptmResp (48 + n) chan.toNat (s.stampIn (48 + n) off.toNat).toNat))) ∧
    (∀ b : List (BitVec 8), b.length ≤ 576 → exec (.tlp n chan (.down b)) s =
      .next (s.corePush h (48 + n) (pcieKind (chan.toNat % 32)) .tunnel b).sigDrain) ∧
    (∀ tag : BitVec 16, Answers (exec (.tlp n chan (.cpl tag)) s) (fun t => (h, d, tag.toNat) ∉ t.port.np ∧ t.regs = s.regs))) ∧
  (∀ (s : State) (n : Fin 16) (chan v d : BitVec 16) (c : BitVec 24) (w : Nat), w = chW 1 (chan.toNat % 32) →
    (s.get (F.CH_INFO_WORD n w) = chan.toNat → exec (.pcieScanTimeout n chan) s = .next (s.mapLk n (fun k => { k with scans := k.scans.erase w }))) ∧
    (s.get (F.CH_INFO_WORD n w) ≠ chan.toNat → exec (.pcieScanTimeout n chan) s = .next s) ∧
    (s.shut = false → s.chState n w = 1 → s.get (F.CH_INFO_WORD n w) = chan.toNat →
      ((s.lk n).scans.contains w = true → exec (.tlp n chan (.scanDone v d c)) s = .next ((s.mapLk n (fun k =>
        { k with scans := k.scans.erase w })).foundFn (48 + n) chan.toNat v.toNat d.toNat c.toNat)) ∧
      ((s.lk n).scans.contains w = false → exec (.tlp n chan (.scanDone v d c)) s = .next s)))

/-- Ethernet, the doors of the hosts, and the sideband (R274-R276, R288-R291). -/
def Obligations.EthernetAndSidebandAct : Prop :=
  (∀ (s : State) (port : Fin 544) (pair : Fin 8) (b : List (BitVec 8)), s.fwdUp port = true →
    exec (.ethFrame port ⟨pair, b⟩) s = .next (s.ethIn port pair b).sigDrain ∧
    (14 ≤ b.length → b.length ≤ 9216 → s.ptpTaken port b = false → exec (.ethFrame port ⟨pair, b⟩) s =
      .next (s.corePush (fwdXbar port) 68 (fwdKind port pair) (.forward port) b).sigDrain)) ∧
  (∀ (s u : State) (port : Fin 544) (b : List (BitVec 8)) (e : FwdEntry), (s.fwdPort port).block = false → (b.getD 0 0).toNat % 2 = 0 →
    u = s.fwdLearn port b →
    u.link.fwd.find? (fun e => e.mac == macAt b 0 && e.vid == outerVid b && e.dom == (s.fwdPort port).dom) = some e →
    e.port ≠ port.val → (u.fwdPort e.port).block = false → u.fwdUp e.port = true → s.fwdGo port b = u.fwdSend e.port b) ∧
  (∀ (s : State) (mac : BitVec 48) (vid : BitVec 12) (dom : BitVec 4), exec (.fwdAge mac vid dom) s =
    .next (s.fwdForget (fun e => e.mac == mac.toNat && e.vid == vid.toNat && e.dom == dom.toNat))) ∧
  (∀ (s : State) (h : Fin 32) (q : Word) (port : BitVec 16) (dom : BitVec 8) (learn block : Bool), s.runs h q.toNat 0x0110 = true →
    (s.get F.FM_PATH_REQ ≠ h → exec (.fwdPortCfg h q port dom learn block) s = .next (s.complete h q.toNat 1 0)) ∧
    (s.get F.FM_PATH_REQ = h → (544 ≤ port.toNat ∨ 16 ≤ dom.toNat) → exec (.fwdPortCfg h q port dom learn block) s = .next (s.complete h q.toNat 6 0)) ∧
    (s.get F.FM_PATH_REQ = h → port.toNat < 544 → dom.toNat < 16 → exec (.fwdPortCfg h q port dom learn block) s =
      .next ((s.mapLinks (fun k => { k with fwdP := tset k.fwdP port.toNat ⟨dom.toNat, learn, block⟩ })).complete h q.toNat 0 0))) ∧
  (∀ (s : State) (h : Fin 32) (q : Word) (dom : BitVec 8), s.runs h q.toNat 0x0111 = true → s.get F.FM_PATH_REQ = h →
    (dom.toNat < 16 ∨ dom.toNat = 255) →
    exec (.fwdFlush h q dom) s = .next ((s.fwdForget (fun e => dom.toNat == 255 || e.dom == dom.toNat)).complete h q.toNat 0 0)) ∧
  (∀ (s : State) (h : Fin 32) (v r : Bool) (d : DriverSetup) (feats : Nat),
    feats = Nat.land doorOffers (putBit (putBit d.others.toNat 32 v) 34 r) → Answers (exec (.featuresOk h v r d) s) (fun t =>
      t.doorOf h = { ok := v && r, pairs := if hasBit feats 22 then max 1 d.pairs else 1, feats := if v && r then feats else 0 } ∧
      (∀ k : Nat, k ≠ h → t.doorOf k = s.doorOf k) ∧ t.regs = s.regs ∧
      t.sig.out.head? = some (.doorCfg h doorOffers (v && r) (s.doorMac h) 9000 8))) ∧
  (∀ (s : State) (n : Fin 16) (q : BitVec 8) (f : State → State), s.on (F.SBU_CTRL_EN n) = true → s.on (F.PD_STAT_MODE n) = true →
    (∀ m : List (BitVec 8), exec (.sbuTmgmt n false q m) s = .next (s.sat (F.SBU_ERR_COUNT n)) ∧ exec (.sbuTsig n false q m) s = .next (s.sat (F.SBU_ERR_COUNT n)) ∧
      exec (.sbuTmgmt n true q m) s = .next (s.sbuIn n q.toNat true (fun s => s.sbuMgmt n m)) ∧
      exec (.sbuTsig n true q m) s = .next (s.sbuIn n q.toNat true (fun s => s.sigSbu n m))) ∧
    exec (.wake n true q) s = .next (s.sbuIn n q.toNat true (fun s => if 2 ≤ s.get (F.LSTATE_STATE (48 + n)) then s.dockExit n else s)) ∧
    ((s.lk n).sbuSeen = some q.toNat → s.sbuIn n q.toNat true f = (s.sbuGood n).sbuOut n 4 0 [q]) ∧
    ((s.lk n).sbuSeen ≠ some q.toNat → s.sbuIn n q.toNat true f = f ((((s.sbuGood n).sbuOut n 4 0 [q]).mapLk n (fun k =>
      { k with sbuSeen := some q.toNat })).set (F.SBU_STAT_RX_SEQ n) q.toNat))) ∧
  (∀ (s : State) (n : Fin 16) (q : BitVec 8) (ok : Bool), exec (.sbuAck n ok q) s = .next (s.sbuAck n q.toNat ok) ∧
    (s.on (F.SBU_CTRL_EN n) = false ∨ s.on (F.PD_STAT_MODE n) = false → exec (.sbuAck n ok q) s = .next s) ∧
    (s.on (F.SBU_CTRL_EN n) = true → s.on (F.PD_STAT_MODE n) = true → exec (.sbuAck n false q) s = .next (s.sat (F.SBU_ERR_COUNT n)))) ∧
  (∀ (s : State) (n : Fin 16) (q : BitVec 8), s.on (F.SBU_CTRL_EN n) = true → s.on (F.PD_STAT_MODE n) = true → s.on (F.SBU_STAT_UP n) = true → (s.lk n).sbuOut = true → s.get (F.SBU_STAT_TX_SEQ n) = q.toNat →
    exec (.sbuAck n true q) s = .next ((s.setLk n { s.lk n with sbuOut := false, sbuReps := 0, sbuQ := (s.lk n).sbuQ.drop 1 }).sbuNext n)) ∧
  (∀ (s : State) (n : Fin 16) (p : SbuPkt) (l : List SbuPkt), (s.lk n).sbuOut = true → (s.lk n).sbuQ = p :: l →
    ((s.lk n).sbuReps < s.get (F.SBU_CTRL_RETRY n) → exec (.sbuTimeout n) s =
      .next ((s.setLk n { s.lk n with sbuReps := (s.lk n).sbuReps + 1 }).sbuOut n p.typ (s.get (F.SBU_STAT_TX_SEQ n)) p.body)) ∧
    (s.get (F.SBU_CTRL_RETRY n) ≤ (s.lk n).sbuReps → s.on (F.SBU_STAT_UP n) = true →
      Answers (exec (.sbuTimeout n) s) (fun t => t.get (F.SBU_STAT_UP n) = 0 ∧ (t.lk n).sbuQ = l ∧ (t.lk n).sbuOut = false)))

/-! ## USB Power Delivery (chapter 12) -/

/-- Attach, contracts and their messages (R294-R304, R315). While a port is attached, each message has its effect, and the Rp that the port shows
follows (`pdShow`); the registers of its PD page act as their writes are taken. -/
def Obligations.PdContractsAct : Prop :=
  (∀ (s : State) (n : Fin 16) (cc : CcSeen), exec (.attach n cc) s = .next (((s.wakeBy 4).attach n cc).pdShow n)) ∧
  (∀ (s u : State) (n : Fin 16) (cc2 ra : Bool), u = s.wakeBy 4 → u.on (F.PD_STAT_ATTACHED n) = false → u.on (F.PD_CTRL_EN n) = true →
    (u.pd n).errRec = false → (u.pd n).needSafe = false → u.on (F.VB_STAT_LOCKOUT n) = false → u.pow.busHeld = false → (u.pd n).role ≠ 1 →
    exec (.attach n (.rd cc2 ra)) s = .next ((u.attachSrc n cc2 ra).pdShow n)) ∧
  (∀ (s : State) (n : Fin 16), s.on (F.PD_STAT_ATTACHED n) = false → s.on (F.PD_CTRL_EN n) = true → (s.pd n).errRec = false →
    ((s.pd n).role = 1 → (s.pd n).trySrc = false → Answers (exec (.drpToggle n) s) (fun t =>
      t.get (F.PD_STAT_RP n) = (if s.get (F.PD_STAT_RP n) = 0 then 2 else 0) ∧ (∀ f : Fld, f.key ≠ (F.PD_STAT_RP n).key → t.get f = s.get f))) ∧
    ((s.pd n).trySrc = true → ∀ cc2 : Bool, exec (.trySrcTimeout n true cc2) s = .next (s.attachSnk n cc2) ∧
      exec (.trySrcTimeout n false cc2) s = .next ((s.setPd n { s.pd n with trySrc := false }).set (F.PD_STAT_RP n) 0))) ∧
  (∀ (s : State) (n : Fin 16), (s.pd n).errRec = true → exec (.errorRecoveryEnd n) s =
    .next ((s.setPd n { s.pd n with errRec := false, role := s.get (F.PD_CTRL_ROLE_DEFAULT n) }).set (F.PD_STAT_RP n)
      (if s.on (F.PD_CTRL_EN n) then 2 else 0))) ∧
  (∀ (s : State) (n : Fin 16), s.on (F.PD_STAT_ATTACHED n) = true →
    exec (.detach n) s = .next (s.detach n false) ∧
    (∀ rdo pdo : Word, exec (.request n rdo) s = .next ((s.pdRequest n rdo.toNat (s.on (F.PD_STAT_EPR n)) none).pdShow n) ∧
      exec (.eprRequest n rdo pdo) s = .next ((s.pdRequest n rdo.toNat (s.on (F.PD_STAT_EPR n)) (some pdo.toNat)).pdShow n)) ∧
    (s.on (F.PD_STAT_EPR n) = true → exec (.eprKeepalive n) s = .next ((s.pdSend n .eprKeepAliveAck).pdShow n) ∧
      exec (.eprKeepaliveTimeout n) s = .next ((s.hardReset n true).pdShow n)) ∧
    (s.pdSource n = false → exec (.eprMode ⟨n, false⟩) s = .next ((s.pdSend n .eprMode [4 * 2 ^ 24 + 4 * 2 ^ 16]).pdShow n)) ∧
    (s.pdSource n = true → ((s.pd n).seq = .idle ∨ (s.pd n).seq = .caps) →
      (s.on (F.PD_STAT_CONTRACT n) = true → s.on (F.PD_STAT_EPR n) = false → s.eprOk n = true →
        exec (.eprMode ⟨n, false⟩) s = .next ((s.eprEnter n).pdShow n)) ∧
      (s.on (F.PD_STAT_EPR n) = true → exec (.eprMode ⟨n, true⟩) s = .next (((s.vdmAbort n).eprLeft n).pdShow n))) ∧
    exec (.getSinkCap n) s = .next ((s.pdSend n .sinkCaps [0x2001900A]).pdShow n) ∧
    exec (.eprGetSourceCap n) s = .next ((s.pdSend n .eprSourceCaps (s.eprCaps n)).pdShow n) ∧
    (s.pdSource n = true → (s.pd n).seq = .idle → exec (.getSourceCap n) s = .next (((s.vdmAbort n).sendCaps n).pdShow n)) ∧
    (s.pdSource n = false → exec (.getSourceCap n) s = .next ((s.pdSend n .sourceCaps (s.sprCaps n)).pdShow n)) ∧
    (∀ pdo : Word, exec (.sinkCapabilities n (.epr pdo)) s = .next (s.pdShow n)) ∧
    (∀ pdo : Word, (s.pd n).seq ≠ .getSink → exec (.sinkCapabilities n (.spr pdo)) s = .next ((s.set (F.PD_PARTNER_SNK_PDO n) pdo.toNat).pdShow n)) ∧
    (∀ pdo : Word, s.pdSink n = true → exec (.sourceCapabilities n pdo) s =
      .next ((((s.vdmAbort n).mapPd n (fun x => { x with seq := .snkReq, srcPdo := pdo.toNat })).pdSend n .request [0x1300280A]).pdShow n)) ∧
    (∀ m : PdMsg, ∀ k : Nat, ∀ l, (s.pd n).unacked = (m, k) :: l → m.kind = .sourceCaps → (s.pd n).seq = .caps → (s.pd n).caps < 50 →
      exec (.sourceCapRepeat n) s = .next (((s.setPd n { s.pd n with caps := (s.pd n).caps + 1, unacked := ((s.pd n).unacked.map
        (fun e => if e.1 = m then (e.1, 0) else e)) }).emit (.pd n m)).pdShow n)) ∧
    (∀ m : PdMsg, ∀ k : Nat, ∀ l, (s.pd n).unacked = (m, k) :: l → k < 2 →
      exec (.goodcrcTimeout n) s = .next (((s.setPd n { s.pd n with unacked := (m, k + 1) :: l }).emit (.pd n m)).pdShow n)) ∧
    exec (.goodcrc n false) s = .next ((s.mapPd n (fun x => { x with unacked := x.unacked.drop 1 })).pdShow n) ∧
    ((s.pd n).seq = .cable → (∀ v : Word, exec (.cableIdentity n (.passive v)) s =
        .next (((((s.set (F.PD_CABLE_VDO_VDO n) v.toNat).set (F.PD_STAT_CABLE n) 1).raise (pdEv n 12)).sendCaps n).pdShow n)) ∧
      exec (.cableIdentity n .active) s = .next ((s.sendCaps n).pdShow n) ∧ exec (.cableIdentity n .none) s = .next ((s.pdFirst n).pdShow n)) ∧
    (s.on (F.PD_STAT_VCONN_ON n) = true → (s.pd n).seq ≠ .cable → exec (.vconnFault n) s =
      .next ((((s.set (F.PD_STAT_VCONN_ON n) 0).mapPd n (fun x => { x with vcFault := true })).raise (pdEv n 11)).pdShow n)) ∧
    exec (.srcTransition n) s = .next ((s.srcTransition n).pdShow n) ∧
    (∀ rdo pdo, (s.pd n).seq = .accepted rdo pdo → exec (.srcTransition n) s =
      .next (((s.startMove n (bits pdo 10 10 * 5) pdo).setSeq n (.moving rdo pdo)).pdShow n)) ∧
    ((s.pd n).seq = .snkTrans → exec (.psTransitionTimeout n) s = .next ((s.hardReset n true).pdShow n)) ∧
    ((s.pd n).seq = .hardRst 1 → exec (.srcRecover n) s = .next (((s.setSeq n .start).vbReq n true).pdShow n)) ∧
    (∀ c : Bool, exec (.bistMessage n c) s = .next (((s.mapPd n (fun x => { x with bist := if c then 1 else 2 })).emit
      (.pd n ⟨false, if c then .bistCarrier else .bistData, []⟩)).pdShow n)) ∧
    exec (.unsupportedMessage n false) s = .next ((s.pdSend n .notSupported).pdShow n) ∧
    exec (.unsupportedMessage n true) s = .next ((((s.sat (F.PD_MSG_ERR_COUNT n)).raise (pdEv n 13)).softReset n true).pdShow n) ∧
    exec (.getStatus n) s = .next ((s.fresh.2.pdSend n .status [s.fresh.1]).pdShow n) ∧
    exec (.getRevision n) s = .next ((s.fresh.2.pdSend n .revision [s.fresh.1]).pdShow n) ∧
    exec (.getSourceCapExtended n) s = .next ((s.fresh.2.pdSend n .sourceCapsExt [s.fresh.1]).pdShow n)) ∧
  (∀ (s : State) (p : Path) (n : Fin 16) (v : Word), s.takes p (pdAddr n 0x48) v.toNat → exec (.pdSrcWrite p n v) s =
    .next (((s.storeAt (pathCode p) (pdAddr n 0x48) v.toNat).powFx s ⟨.dport4, n, 0x48, 0, 0, pathCode p, v.toNat⟩).settled)) ∧
  (∀ (s : State) (p : Path) (n : Fin 16) (v : Nat), v = 128 * s.get (F.PD_CTRL_PRS_ACCEPT n) + 64 * s.get (F.PD_CTRL_UP n) +
      32 * s.get (F.PD_CTRL_MODE_EN n) + 16 * s.get (F.PD_CTRL_DR_ACCEPT n) + 8 * s.get (F.PD_CTRL_EPR_EN n) + 2 * s.get (F.PD_CTRL_ROLE_DEFAULT n) →
    s.takes p (pdAddr n 0x40) v → exec (.pdDisable p n) s = .next (((s.storeAt (pathCode p) (pdAddr n 0x40) v).pdEnable s n).settled)) ∧
  (∀ s : State, exec .governorFirmware s = .next s.govFirmware) ∧
  (∀ s u : State, s.gov.nSum ≠ 0 → u = s.set F.P_DIE_AVG_MW (s.gov.sumMw / s.gov.nSum) →
    exec .governorFirmware s = .next ({ u with gov := { u.gov with sumMw := 0, nSum := 0 } }).shedStep)

/-- Swaps, resets and the way into and out of Mbaloth mode (R305-R314): each message acts on an attached port in the stage it belongs to, and the
requests of PD_CMD as the write is taken. -/
def Obligations.PdSwapsAndModesAct : Prop :=
  (∀ (s : State) (n : Fin 16), s.on (F.PD_STAT_ATTACHED n) = true →
    exec (.drSwap n) s = .next ((s.drSwapIn n).pdShow n) ∧ exec (.prSwap n) s = .next ((s.prSwapIn n).pdShow n) ∧
    exec (.vconnSwap n) s = .next ((s.pdSend n .reject).pdShow n) ∧ exec (.accept n) s = .next ((s.pdAccept n).pdShow n) ∧
    exec (.reject n) s = .next ((s.pdRefused n 2).pdShow n) ∧ exec (.notSupported n) s = .next ((s.pdRefused n 7).pdShow n) ∧
    exec (.senderResponseTimeout n) s = .next ((s.pdRefused n 6).pdShow n) ∧ exec (.pdWait n) s = .next ((s.pdWait n).pdShow n) ∧
    exec (.psRdy n) s = .next ((s.psRdy n).pdShow n) ∧ exec (.softReset n) s = .next ((s.softReset n false).pdShow n) ∧
    exec (.hardReset n) s = .next ((s.hardReset n false).pdShow n) ∧
    ((s.pd n).seq = .swapReq → (s.pd n).own = 2 → exec (.accept n) s = .next ((((s.drDone n).swapEnd n 1).pdNext n).pdShow n) ∧
      exec (.reject n) s = .next (((s.swapEnd n 2).pdNext n).pdShow n) ∧ exec (.notSupported n) s = .next (((s.swapEnd n 7).pdNext n).pdShow n) ∧
      exec (.senderResponseTimeout n) s = .next (((s.swapEnd n 6).pdNext n).pdShow n) ∧
      ((s.pd n).sent < s.get (F.PD_SWAP_ATTEMPTS n) → exec (.pdWait n) s = .next (((s.pdNext n).set (F.PD_STAT_SWAP n) 2).pdShow n))) ∧
    ((s.pd n).seq = .snkTrans → exec (.psRdy n) s = .next ((s.contract n 0x1300280A (s.pd n).srcPdo).pdShow n)) ∧
    ((s.pd n).own ≠ 0 → s.get (F.PD_STAT_SWAP n) = 2 → s.get (F.PD_SWAP_ATTEMPTS n) ≤ (s.pd n).sent →
      exec (.swapRetry n) s = .next (((s.swapEnd n 3).pdNext n).pdShow n)) ∧
    ((s.pd n).own ≠ 0 → s.get (F.PD_STAT_SWAP n) = 2 → (s.pd n).sent < s.get (F.PD_SWAP_ATTEMPTS n) → (s.pd n).seq = .idle →
      exec (.swapRetry n) s = .next (((s.vdmAbort n).sendSwap n).pdShow n)) ∧
    (1 ≤ (s.pd n).vdm → (s.pd n).vdm ≤ 4 → exec (.vdmNak n) s = .next ((s.vdmFail n).pdShow n) ∧
      ((s.pd n).hold = false → 3 ≤ (s.pd n).busy → exec (.vdmBusy n) s = .next ((s.vdmFail n).pdShow n)) ∧
      ((s.pd n).hold = false → (s.pd n).busy < 3 → exec (.vdmBusy n) s =
        .next ((s.setPd n { s.pd n with busy := (s.pd n).busy + 1, hold := true }).pdShow n))) ∧
    ((s.pd n).hold = true → exec (.vdmRetry n) s = .next ((s.vdmSend n (s.pd n).vdm).pdShow n)) ∧
    (∀ v : Word, v.toNat % 256 = 1 → exec (.attention n v) s = .next ((s.modeExit n true).pdShow n)) ∧
    (s.on (F.PD_STAT_MODE n) = true → (s.lk n).train.failed = true →
      (∀ t, t = (s.modeExit n true).mapPd n (fun x => { x with fails := x.fails + 1 }) → s.get (F.PD_MODE_CTRL_RETRIES n) ≤ (t.pd n).fails →
        exec (.modeRetry n) s = .next ((t.raise (pdEv n 10)).pdShow n)))) ∧
  (∀ (s t : State) (n : Fin 16), s.on (F.PD_STAT_ATTACHED n) = true → (s.pd n).hold = false → (s.pd n).seq = .idle →
    t = s.mapPd n (fun x => { x with busy := 0 }) →
    ((s.pd n).vdm = 1 → exec (.discoverIdentityAck n) s = .next ((t.vdmSend n 2).pdShow n)) ∧
    ((s.pd n).vdm = 2 → ∀ l : List (BitVec 16), (0x2D4A ∈ l → exec (.discoverSvidsAck n l) s = .next ((t.vdmSend n 3).pdShow n)) ∧
      (0x2D4A ∉ l → exec (.discoverSvidsAck n l) s = .next ((t.vdmFail n).pdShow n))) ∧
    ((s.pd n).vdm = 3 → (∀ v : Word, exec (.discoverModesAck n [v]) s = .next (((t.set (F.PD_MODE_VDO_VDO n) v.toNat).vdmSend n 4).pdShow n)) ∧
      exec (.discoverModesAck n []) s = .next ((t.vdmFail n).pdShow n) ∧
      (∀ (v w : Word) (l : List Word), exec (.discoverModesAck n (v :: w :: l)) s = .next ((t.vdmFail n).pdShow n))) ∧
    ((s.pd n).vdm = 4 → ∀ v a b : Word, exec (.enterModeAck n v a b) s = .next ((t.enterAck n v.toNat (a.toNat + 2 ^ 32 * b.toNat)).pdShow n))) ∧
  (∀ (s : State) (p : Path) (n : Fin 16),
    (s.takes p (pdAddr n 0x54) 64 → exec (.pdCmdExit p n) s = .next (((s.storeAt (pathCode p) (pdAddr n 0x54) 64).pdCmd n 64).settled)) ∧
    (s.takes p (pdAddr n 0x54) 32 → exec (.pdCmdEnter p n) s = .next (((s.storeAt (pathCode p) (pdAddr n 0x54) 32).pdCmd n 32).settled)) ∧
    (s.takes p (pdAddr n 0x54) 16 → exec (.pdCmdSendCaps p n) s = .next (((s.storeAt (pathCode p) (pdAddr n 0x54) 16).pdCmd n 16).settled)) ∧
    (s.takes p (pdAddr n 0x54) 8 → exec (.pdCmdDrSwap p n) s = .next (((s.storeAt (pathCode p) (pdAddr n 0x54) 8).pdCmd n 8).settled)) ∧
    (s.takes p (pdAddr n 0x54) 4 → exec (.pdCmdPrSwap p n) s = .next (((s.storeAt (pathCode p) (pdAddr n 0x54) 4).pdCmd n 4).settled)) ∧
    (s.takes p (pdAddr n 0x54) 2 → exec (.pdCmdSoftReset p n) s = .next (((s.storeAt (pathCode p) (pdAddr n 0x54) 2).pdCmd n 2).settled)) ∧
    (s.takes p (pdAddr n 0x54) 1 → exec (.pdCmdHardReset p n) s = .next (((s.storeAt (pathCode p) (pdAddr n 0x54) 1).pdCmd n 1).settled)))

/-! ## VBUS, feeds and scan-out (chapters 13 and 14) -/

/-- Feeds, the dock bus, the eFuse and the measurement (R316-R330). -/
def Obligations.VbusCommandsAct : Prop :=
  (∀ (s : State) (f : Fin 2), s.get (feedStat f) = 2 → Answers (exec (.feedReverse f) s) (fun t =>
    t.get (feedStat f) = 1 ∧ (s.feedUp (1 - f : Nat) = true → t.get (feedStat (1 - f : Nat)) = 2) ∧ t.evStat 164 = true)) ∧
  (∀ (s : State) (f : Fin 2), s.feedUp f = true →
    exec (.feedLost f) s = .next (((s.set (feedStat f) 0).feedOver f).raise (160 + 2 * f.val)) ∧
    exec (.feedOvervoltage f) s = .next (((s.set (feedStat f) 3).feedOver f).raise 165)) ∧
  (∀ (s : State) (f : Fin 2), s.feedUp f = false → s.on (feedEn f) = true →
    exec (.feedReturn f) s = .next (((s.set (feedStat f) 1).feedsPick).raise (161 + 2 * f.val))) ∧
  (∀ s : State, Answers (exec .busUv s) (fun t => t.evStat 166 = true)) ∧
  (∀ s : State, s.pow.busHeld = true → exec .dockBusReturn s = .next ((List.range 16).foldl (fun s n =>
    if s.vbState n = 6 ∧ s.get (F.VB_FAULT_LOG_CAUSE n) = 8 ∧ (s.vb n).req then
      ((((s.dropContract n).vdmAbort n).setSeq n .start).vbReq n false).vbReq n true
    else s.vbEval n) { s with pow := { s.pow with busHeld := false } })) ∧
  (∀ (s : State) (n : Fin 16),
    (s.on (F.VB_CTRL_TRACK n) = true → s.vbState n = 4 → exec (.trimStep n) s = .next (s.trimStep n)) ∧
    (s.vbState n = 5 → exec (.moveComplete n) s = .next ((((s.set (F.VB_STAT_STATE n) 4).raise (vbEv n 4)).pdMoved n).pdShow n) ∧
      (s.get (F.VB_VOUT_MV n) < s.targetMv n → exec (.moveTimeout n) s = .next (s.latchOff n 4)) ∧
      (s.targetMv n ≤ s.get (F.VB_VOUT_MV n) → exec (.moveTimeout n) s = .next (s.latchOff n 3))) ∧
    (∀ en : Bool, exec (.efuseEnable n en) s = .next (s.vbReq n en)) ∧
    (s.vbState n = 1 → exec (.buckTimeout n) s = .next (s.latchOff n 6)) ∧
    (s.vbState n = 2 → exec (.gateTimeout n) s = .next (s.latchOff n 7) ∧
      Answers (exec (.gateOn n) s) (fun t => t.on (F.VB_STAT_GATE_ON n) = true ∧ t.vbState n = 3)) ∧
    (s.vbDriven n = true → s.on (F.VB_STAT_LIMITING n) = false → exec (.limiting n true) s =
      .next ((s.sets [(F.VB_STAT_LIMITING n, 1), (F.VB_STAT_TIMER n, 1)]).raise (vbEv n 3))) ∧
    (s.vbDriven n = true → s.on (F.VB_STAT_LIMITING n) = true → exec (.limiting n false) s =
      .next ((s.sets [(F.VB_STAT_LIMITING n, 0), (F.VB_STAT_TIMER n, 0)]).resumeMove n)) ∧
    (s.on (F.VB_STAT_TIMER n) = true → exec (.ocpTimer n) s = .next (s.latchOff n 1)) ∧
    (s.vbDriven n = true → exec (.fastTrip n) s = .next (s.latchOff n 2) ∧ (s.vbState n ≠ 5 → exec (.overvolt n) s = .next (s.latchOff n 3))) ∧
    (s.vbState n = 4 → s.on (F.VB_STAT_PGOOD n) = true → s.on (F.VB_STAT_LIMITING n) = false → exec (.undervolt n) s = .next (s.latchOff n 4)) ∧
    (s.on (F.VB_STAT_GATE_ON n) = true → exec (.reverse n) s = .next (s.latchOff n 5)) ∧
    (s.vbState n = 7 → exec (.offWaitEnd n) s =
      .next ((s.set (F.VB_STAT_STATE n) (if (s.vb n).disch && !(s.vb n).req then 8 else 0)).vbEval n)) ∧
    (s.vbState n = 3 → s.on (F.VB_STAT_GATE_ON n) = true → s.on (F.VB_STAT_IN_WINDOW n) = true → s.on (F.VB_STAT_TIMER n) = false →
      exec (.powerGood n) s = .next ((((s.sets [(F.VB_STAT_PGOOD n, 1), (F.VB_STAT_STATE n, 4)]).raise (vbEv n 0)).pdGood n).pdShow n)) ∧
    (∀ t : State, (s.vb n).disch = true → t = (s.mapVb n (fun x => { x with disch := false })).raise (vbEv n 5) → exec (.discharged n) s =
      .next ((((if t.vbState n = 8 then t.set (F.VB_STAT_STATE n) 0 else t).pdSafe n).vbEval n).pdShow n))) ∧
  (∀ (s : State) (p : Path) (n : Fin 16),
    (s.takes p (0x405058 + 0x10000 * n.val) 1 → exec (.clrLockout p n) s =
      .next (((s.storeAt (pathCode p) (0x405058 + 0x10000 * n.val) 1).powFx s ⟨.dport5, n, 0x58, 0, 0, pathCode p, 1⟩).settled)) ∧
    (s.takes p (0x405058 + 0x10000 * n.val) 2 → exec (.clrPeak p n) s =
      .next (((s.storeAt (pathCode p) (0x405058 + 0x10000 * n.val) 2).powFx s ⟨.dport5, n, 0x58, 0, 0, pathCode p, 2⟩).settled))) ∧
  (∀ (s : State) (l : List PortSample) (a b : FeedSample) (bus : BitVec 16), exec (.measurementSample l a b bus) s = .next (s.measure l a b bus.toNat))

/-- Scan-out (R332-R346): triggers, frame starts, lines, fetch errors and the engine's register writes. -/
def Obligations.ScanCommandsAct : Prop :=
  (∀ (s : State) (n : Fin 8), s.soDue n = true → exec (.frameTrigger n) s = .next ((s.soTrigger n).soNext n)) ∧
  (∀ (s t : State) (n : Fin 8), t = s.soDrain ((s.eng n).outQ.length + 1) n → t.on (F.SO_CTRL_EN n) = true → (t.eng n).due.isSome = true →
    t.on (F.SO_STAT_SENDING n) = false → (t.eng n).outQ = [] → exec (.frameStart n) s = .next ((((t.soBegin n).atFrame n).settled).soStart n)) ∧
  (∀ (s : State) (n : Fin 8), s.on (F.SO_STAT_SENDING n) = true → (s.eng n).line < s.eff (F.SO_SIZE_HEIGHT n) →
    exec (.lineHandover n) s = .next (s.soLine n)) ∧
  (∀ (s : State) (n : Fin 8) (l : Fin 4), (s.eng n).buf.any (fun f => f.layer == l.val && f.data.isNone) = true →
    exec (.fetchError n l true) s = .next (s.scanError n l 2) ∧ exec (.fetchError n l false) s = .next (s.scanError n l 1)) ∧
  (∀ (s : State) (p : Path) (n : Fin 8),
    (s.takes p (soAddr n 0x40) (s.soCtrl n true) → exec (.soEnable p n) s =
      .next (((s.storeAt (pathCode p) (soAddr n 0x40) (s.soCtrl n true)).soFx s ⟨.scanout, n, 0x40, 0, 0, pathCode p, s.soCtrl n true⟩).settled)) ∧
    (s.takes p (soAddr n 0x40) (s.soCtrl n false) → exec (.soDisable p n) s =
      .next (((s.storeAt (pathCode p) (soAddr n 0x40) (s.soCtrl n false)).soFx s ⟨.scanout, n, 0x40, 0, 0, pathCode p, s.soCtrl n false⟩).settled)) ∧
    (s.takes p (soAddr n 0x68) 1 → exec (.dirty p n) s =
      .next (((s.storeAt (pathCode p) (soAddr n 0x68) 1).soFx s ⟨.scanout, n, 0x68, 0, 0, pathCode p, 1⟩).settled)))

/-! ## The protocol bridge and the engines (chapters 15 to 17) -/

/-- The bridge (R349-R364, R397, R398): messages and responses of dock devices, the mailbox commands, the timers, and the writes with a rule of
their own. -/
def Obligations.BridgeCommandsAct : Prop :=
  (∀ (s u : State) (n : Fin 16) (t : Fin 32) (ch : BitVec 16) (due : Option (BitVec 64)) (b : List (BitVec 8)) (m : SigIn), s.shut = false →
    u = (s.cellsIn (48 + n) b.length).cellsOut 65 b.length →
    m = { src := 48 + n, orig := .dock n t, ch := ch.toNat, op := 0x10, due := due.map (fun t => t.toNat), payload := b, tin := s.stampIn (48 + n) 0 } →
    exec (.signal n t ch due b) s = .next (u.sigEnter m) ∧ exec (.intr n t ch due b) s = .next (u.sigEnter { m with op := 0x11 })) ∧
  (∀ (s : State) (n : Fin 16) (t : Fin 32) (ch q : BitVec 16) (due : Option (BitVec 64)) (b : List (BitVec 8)), s.shut = true →
    exec (.signal n t ch due b) s = .next (s.shutOut (48 + n)) ∧ exec (.intr n t ch due b) s = .next (s.shutOut (48 + n)) ∧
    exec (.regAck n t q 0) s = .next (s.shutOut (48 + n))) ∧
  (∀ (s : State) (n : Fin 16) (t : Fin 32) (q : BitVec 16) (st : BitVec 8) (d : List (BitVec 8)),
    exec (.regAck n t q st) s = .next (s.respond n t 0x81 q st []) ∧ exec (.regData n t q st d) s = .next (s.respond n t 0x82 q st d)) ∧
  (∀ (s u : State) (n : Fin 16) (t : Fin 32) (q : BitVec 16) (m : SigIn) (o : RegOp), s.shut = false → s.on F.BR_CTRL_EN = true →
    s.brLane ((48 + n) % 4) = [] → u = ((s.cellsIn (48 + n) 0).cellsOut 65 0).setBrLane ((48 + n) % 4) [m] →
    m = { src := 48 + n, orig := .dock n t, ch := 0, op := 0x81, tin := s.stampIn (48 + n) 0, payload := leBytes 2 q.toNat ++ [0] } →
    (s.sigTgt (32 * n + t)).out.find? (fun o => o.seq == q.toNat && o.write == true && o.sbu == false) = some o →
    exec (.regAck n t q 0) s = .next (((u.opGood (32 * n + t) o []).setBrLane ((48 + n) % 4) []).sigDrain)) ∧
  (∀ (s u : State) (n : Fin 16) (t : Fin 32) (q : BitVec 16) (d : List (BitVec 8)) (m : SigIn) (o : RegOp), s.shut = false → s.on F.BR_CTRL_EN = true →
    s.brLane ((48 + n) % 4) = [] → d.length ≤ 232 → u = ((s.cellsIn (48 + n) d.length).cellsOut 65 d.length).setBrLane ((48 + n) % 4) [m] →
    m = { src := 48 + n, orig := .dock n t, ch := 0, op := 0x82, tin := s.stampIn (48 + n) 0,
          payload := leBytes 2 q.toNat ++ [0] ++ (BitVec.ofNat 8 d.length :: [0, 0, 0, 0] ++ d) } →
    (s.sigTgt (32 * n + t)).out.find? (fun o => o.seq == q.toNat && o.write == false && o.sbu == false) = some o → o.len = d.length →
    exec (.regData n t q 0 d) s = .next (((u.opGood (32 * n + t) o d).setBrLane ((48 + n) % 4) []).sigDrain)) ∧
  (∀ (s : State) (h : Fin 32) (q : Word) (ch : BitVec 16) (op : BitVec 8) (ax : Fin 8) (dir : Bool) (v : BitVec 64) (b : List (BitVec 8)),
    s.runs h q.toNat 0x0120 = true →
    (b.length ≤ 244 → exec (.sigSend h q ch op 0 ax dir v b) s =
      .next (s.sigEnter { src := h, orig := .host h q.toNat, ch := ch.toNat, op := op.toNat, payload := b, tag := .none, tin := s.now })) ∧
    (b.length ≤ 244 → exec (.sigSend h q ch op 1 ax dir v b) s =
      .next (s.sigEnter { src := h, orig := .host h q.toNat, ch := ch.toNat, op := op.toNat, payload := b, tag := .time v.toNat, tin := s.now })) ∧
    (b.length ≤ 244 → exec (.sigSend h q ch op 2 ax dir v b) s =
      .next (s.sigEnter { src := h, orig := .host h q.toNat, ch := ch.toNat, op := op.toNat, payload := b, tag := .axis ax v.toInt dir, tin := s.now })) ∧
    (244 < b.length → exec (.sigSend h q ch op 0 ax dir v b) s =
      .next (s.sigFail (.host h q.toNat) h ch.toNat op.toNat 65 .badMessage))) ∧
  (∀ (s : State) (h : Fin 32) (q : Word) (port tch len : BitVec 8) (a : Word) (ha : BitVec 64), s.runs h q.toNat 0x0121 = true →
    exec (.edgeRead h q port tch len a ha) s = .next (s.edgeOp h q.toNat port tch (lenGood len)
      { num := 0, write := false, addr := a.toNat, len := len.toNat, why := .read h q.toNat len.toNat ha.toNat } State.edgeRead)) ∧
  (∀ (s : State) (h : Fin 32) (q : Word) (port tch len : BitVec 8) (a : Word) (d : List (BitVec 8)), s.runs h q.toNat 0x0122 = true →
    exec (.edgeWrite h q port tch len a d) s = .next (s.edgeOp h q.toNat port tch (lenGood len)
      { num := 0, write := true, addr := a.toNat, len := len.toNat, data := padTo len.toNat d, why := .write h q.toNat } State.opWait)) ∧
  (∀ (s : State) (h : Fin 32) (q : Word) (port tch len : BitVec 8) (a : Word) (am xm : BitVec 64), s.runs h q.toNat 0x0123 = true →
    exec (.edgeRmw h q port tch len a am xm) s = .next (s.edgeOp h q.toNat port tch (decide (len = 1 ∨ len = 2 ∨ len = 4 ∨ len = 8))
      { num := 0, write := false, addr := a.toNat, len := len.toNat, why := .rmw h q.toNat am.toNat xm.toNat } State.opWait)) ∧
  (∀ (s : State) (h : Fin 32) (q : Word) (port tch : BitVec 8) (k : Nat), s.runs h q.toNat 0x0124 = true → s.on F.BR_CTRL_EN = true →
    port.toNat < 16 → tch.toNat < 32 → k = 32 * port.toNat + tch.toNat → exec (.semTake h q port tch) s =
      .next (((s.mapSigTgt k (fun x => { x with wait := x.wait ++ [.take h q.toNat] })).sigGo k).sigDrain)) ∧
  (∀ (s : State) (h : Fin 32) (q : Word), s.runs h q.toNat 0x0125 = true → s.on F.BR_CTRL_EN = true →
    (∀ k, s.tokTarget (s.cmdToken h q.toNat) = some k → exec (.semGive h q) s = .next ((((s.semFree k).complete h q.toNat 0 0).sigGo k).sigDrain)) ∧
    (s.tokTarget (s.cmdToken h q.toNat) = none → exec (.semGive h q) s = .next ((s.stale 4).cmdFail h q.toNat .stale))) ∧
  (∀ (s : State) (n : Fin 16) (t : Fin 32) (q : BitVec 16) (o : RegOp),
    (s.sigTgt (32 * n.val + t.val)).out.find? (fun o => o.seq == q.toNat) = some o →
    exec (.regTimeout n t q) s = .next ((s.opFail (32 * n.val + t.val) o.num .timeout).sigDrain)) ∧
  (∀ (s : State) (h : Fin 32) (q : Word) (k : Nat) (x : SigTarget), s.br.tgts.find? (fun e => e.2.wait.contains (.take h q.toNat)) = some (k, x) →
    exec (.semWaitTimeout h q) s = .next ((((s.mapSigTgt k (fun x => { x with wait := x.wait.erase (.take h q.toNat) })).cmdFail h q.toNat
      .semBusy).sigGo k).sigDrain)) ∧
  (∀ (s : State) (n : Fin 16) (t : Fin 32), (s.sigTgt (32 * n.val + t.val)).tokened = true →
    exec (.semHoldLimit n t) s = .next ((s.semBreak (32 * n.val + t.val)).sigDrain)) ∧
  (∀ (s : State) (e : Fin 256), exec (.poll e) s = .next (s.pollDue e).sigDrain) ∧
  (∀ (s : State) (b : Fin 32), exec (.raLife b) s = .next (s.raDrop b 1)) ∧
  (∀ (s : State) (b : Fin 32) (e : Nat × RaBuf), s.br.bufs.find? (fun e => e.1 == b.val) = some e →
    exec (.raLife b) s = .next ((s.mapBr (fun r => { r with bufs := tdel r.bufs b })).dpfLog e.2 1)) ∧
  (∀ (s : State) (e : Fin 256) (n t : Nat), s.on (F.PL_CTRL_EN e) = true → s.on F.BR_CTRL_EN = true → s.on (F.PL_STAT_BUSY e) = false →
    n = s.get (F.PL_CTRL_PORT e) → t = 32 * n + s.get (F.PL_CTRL_TCH e) → (s.sigTgt t).sem = .free →
    s.pollSbu e n = false → exec (.poll e) s = .next ((((s.opNum.2.set (F.PL_STAT_BUSY e) 1).set
      (F.PL_STAT_VIA_SBU e) 0).mapSigTgt t (fun x => { x with
        wait := x.wait ++ [.op { num := s.opNum.1, write := false, addr := s.get (F.PL_ADDR_ADDR e), len := s.get (F.PL_CTRL_LEN e), why := .poll e }] })).sigGo
      t).sigDrain) ∧
  (∀ (s : State) (k : Fin 4) (m : SigIn) (l : List SigIn), s.brLane k = m :: l → m.hook.isSome = true →
    exec (.hookTimeout k) s = .next (((s.setBrLane k l).sigFail m.orig m.src m.ch m.op 65 .timeout).laneGo k)) ∧
  (∀ (s : State) (p : Path) (v : Word), s.takes p 0x902044 v.toNat → exec (.routeValid p v) s =
    .next (((s.storeAt (pathCode p) 0x902044 v.toNat).brFx s ⟨.bridge2, 0, 0x44, 0, s.winIndex (pathCode p) 0 .rtSel, pathCode p, v.toNat⟩).settled)) ∧
  (∀ (s : State) (p : Path), s.takes p 0x905044 1 → exec (.dpfClr p) s = .next (((s.storeAt (pathCode p) 0x905044 1).set F.DPF_STAT_FILL 0).settled)) ∧
  (∀ (s : State) (p : Path) (e : Fin 24) (o : BitVec 18), 19 ≤ e.val → e.val < 23 → s.takes p (0xA1005C + 0x1000 * e.val) o.toNat →
    exec (.engBrcmd p e o) s = .next (((s.storeAt (pathCode p) (0xA1005C + 0x1000 * e.val) o.toNat).engSend e o.toNat).settled))

/-- The engines' arithmetic (R386): on 32-bit words, the result goes to gd (G0 stays 0), the PC to the next word, and nothing else of the
registers and memories changes. -/
def Obligations.EngineArithmeticComputes : Prop :=
  ∀ (s : State) (e : Fin 24) (gd ga gb : Fin 16) (i : BitVec 18) (a b : Word), s.engReady e = true → a = s.g e ga → b = s.g e gb →
    Answers (exec (.add e gd ga gb) s) (fun t => RegWritten s t e gd (a + b) 1) ∧
    Answers (exec (.sub e gd ga gb) s) (fun t => RegWritten s t e gd (a - b) 1) ∧
    Answers (exec (.and e gd ga gb) s) (fun t => RegWritten s t e gd (a &&& b) 1) ∧
    Answers (exec (.or e gd ga gb) s) (fun t => RegWritten s t e gd (a ||| b) 1) ∧
    Answers (exec (.xor e gd ga gb) s) (fun t => RegWritten s t e gd (a ^^^ b) 1) ∧
    Answers (exec (.shl e gd ga gb) s) (fun t => RegWritten s t e gd (a <<< (b.toNat % 32)) 1) ∧
    Answers (exec (.shr e gd ga gb) s) (fun t => RegWritten s t e gd (a >>> (b.toNat % 32)) 1) ∧
    Answers (exec (.sar e gd ga gb) s) (fun t => RegWritten s t e gd (a.sshiftRight (b.toNat % 32)) 1) ∧
    Answers (exec (.mul e gd ga gb) s) (fun t => RegWritten s t e gd (a * b) 2) ∧
    Answers (exec (.sltu e gd ga gb) s) (fun t => RegWritten s t e gd (if a.ult b then 1 else 0) 1) ∧
    Answers (exec (.addi e gd ga i) s) (fun t => RegWritten s t e gd (a + i.signExtend 32) 1) ∧
    Answers (exec (.andi e gd ga i) s) (fun t => RegWritten s t e gd (a &&& i.setWidth 32) 1) ∧
    Answers (exec (.ori e gd ga i) s) (fun t => RegWritten s t e gd (a ||| i.setWidth 32) 1) ∧
    Answers (exec (.xori e gd ga i) s) (fun t => RegWritten s t e gd (a ^^^ i.setWidth 32) 1) ∧
    Answers (exec (.lui e gd ga i) s) (fun t => RegWritten s t e gd (i.setWidth 32 <<< 14) 1)

/-- The engines' loads, stores, branches and jumps (R383, R384, R386): a load of data memory gives the word or byte stored there, a store changes
the word of its address and no other word of any engine's memory, a branch goes on at PC plus its offset when it is taken, a jump links. -/
def Obligations.EngineMemoryAndBranchesAct : Prop :=
  (∀ (s : State) (e : Fin 24) (gd ga : Fin 16) (i : BitVec 18) (o : Nat), s.engReady e = true → s.engMap e (s.g e ga + i.signExtend 32).toNat = .dmem o →
    (o % 4 = 0 → Answers (exec (.ld e gd ga i .none) s) (fun t => RegWritten s t e gd (BitVec.ofNat 32 (s.engWord e 1 o)) 2)) ∧
    Answers (exec (.ldb e gd ga i .none) s) (fun t => RegWritten s t e gd (BitVec.ofNat 32 (s.engWord e 1 (o / 4 * 4) / 256 ^ (o % 4) % 256)) 2) ∧
    (o % 4 = 0 → s.engs.journal.length + 1 < 2048 → Answers (exec (.st e gd ga i) s) (fun t => t.engWord e 1 o = (s.g e gd).toNat ∧
      (∀ e' sp o' : Nat, engKey e' sp o' ≠ engKey e 1 o → t.engWord e' sp o' = s.engWord e' sp o') ∧
      (t.engCore e).pc = ((s.engCore e).pc + 4) % 2 ^ 32 ∧ (∀ r : Fin 16, t.g e r = s.g e r))) ∧
    (s.engs.journal.length + 1 < 2048 → s.engWord e 1 (o / 4 * 4) < 2 ^ 32 → Answers (exec (.stb e gd ga i .none) s) (fun t =>
      t.engWord e 1 (o / 4 * 4) / 256 ^ (o % 4) % 256 = (s.g e gd).toNat % 256 ∧
      (∀ k, k < 4 → k ≠ o % 4 → t.engWord e 1 (o / 4 * 4) / 256 ^ k % 256 = s.engWord e 1 (o / 4 * 4) / 256 ^ k % 256) ∧
      (∀ e' sp o' : Nat, engKey e' sp o' ≠ engKey e 1 (o / 4 * 4) → t.engWord e' sp o' = s.engWord e' sp o')))) ∧
  (∀ (s : State) (e : Fin 24) (gd ga gb : Fin 16) (o : BitVec 18) (j : BitVec 22) (a b pc : Word), s.engReady e = true → a = s.g e ga → b = s.g e gb →
    pc.toNat = (s.engCore e).pc →
    Answers (exec (.beq e ga gb o) s) (fun t => (t.engCore e).pc = (if a = b then pc + o.signExtend 32 <<< 2 else pc + 4).toNat ∧ t.mem = s.mem) ∧
    Answers (exec (.bne e ga gb o) s) (fun t => (t.engCore e).pc = (if a ≠ b then pc + o.signExtend 32 <<< 2 else pc + 4).toNat ∧ t.mem = s.mem) ∧
    Answers (exec (.blt e ga gb o) s) (fun t => (t.engCore e).pc = (if a.slt b then pc + o.signExtend 32 <<< 2 else pc + 4).toNat ∧ t.mem = s.mem) ∧
    Answers (exec (.bltu e ga gb o) s) (fun t => (t.engCore e).pc = (if a.ult b then pc + o.signExtend 32 <<< 2 else pc + 4).toNat ∧ t.mem = s.mem) ∧
    Answers (exec (.jal e gd j) s) (fun t => (t.engCore e).pc = (pc + j.signExtend 32 <<< 2).toNat ∧ t.mem = s.mem ∧
      (gd ≠ 0 → t.g e gd = pc + 4)) ∧
    Answers (exec (.jr e gd ga o) s) (fun t => (t.engCore e).pc = (a + o.signExtend 32).toNat ∧ t.mem = s.mem ∧ (gd ≠ 0 → t.g e gd = pc + 4)))

/-- Control registers, waits, returns, traps, entries, faults and programs of the engines (R387-R396, R399). -/
def Obligations.EngineControlActs : Prop :=
  (∀ (s : State) (e : Fin 24) (gd ga : Fin 16), s.engReady e = true →
    Answers (exec (.csrr e gd 13) s) (fun t => RegWritten s t e gd (BitVec.ofNat 32 e) 1) ∧
    Answers (exec (.csrr e gd 3) s) (fun t => RegWritten s t e gd (BitVec.ofNat 32 (s.engCore e).npc) 1) ∧
    Answers (exec (.csrw e ga 1) s) (fun t => t.engCore e = { s.engCore e with
      nvec := (s.g e ga).toNat, pc := ((s.engCore e).pc + 4) % 2 ^ 32, cycles := (s.engCore e).cycles + 1 } ∧ t.mem = s.mem) ∧
    Answers (exec (.fence e) s) (fun t => t.engCore e = { s.engCore e with
      pc := ((s.engCore e).pc + 4) % 2 ^ 32, cycles := (s.engCore e).cycles + 1 } ∧ t.mem = s.mem) ∧
    Answers (exec (.retn e) s) (fun t => (t.engCore e).pc = (s.engCore e).npc ∧ (t.engCore e).inNormal = false ∧ (t.engCore e).trap = false ∧
      (t.engCore e).inFast = (s.engCore e).inFast ∧ t.mem = s.mem) ∧
    Answers (exec (.retf e) s) (fun t => (t.engCore e).pc = (s.engCore e).fpc ∧ (t.engCore e).inFast = false ∧ (t.engCore e).alt = (s.engCore e).was ∧
      (t.engCore e).inNormal = (s.engCore e).inNormal ∧ t.mem = s.mem) ∧
    (e.val ≠ 0 → Answers (exec (.ckpt e) s) (fun t => (t.engCore e).pc = ((s.engCore e).pc + 4) % 2 ^ 32 ∧ t.mem = s.mem)) ∧
    Answers (exec (.wait e) s) (fun t => (t.engCore e).pc = ((s.engCore e).pc + 4) % 2 ^ 32 ∧
      (t.get (F.ENG_STAT_STATE e) = 2 ∨ t.get (F.ENG_STAT_STATE e) = 3)) ∧
    ((s.engCore e).trap = false → (s.engCore e).inFast = false →
      (∀ i : BitVec 18, Answers (exec (.trap e (.software i)) s) (fun t => (t.engCore e).npc = (s.engCore e).pc ∧ (t.engCore e).pc = (s.engCore e).nvec ∧
        (t.engCore e).cause = 5 + 256 * i.toNat ∧ (t.engCore e).trap = true ∧ (t.engCore e).inNormal = true ∧ (t.engCore e).alt = false)) ∧
      Answers (exec (.illegalInstruction e) s) (fun t => (t.engCore e).npc = (s.engCore e).pc ∧ (t.engCore e).pc = (s.engCore e).nvec ∧
        (t.engCore e).cause = 1 ∧ (t.engCore e).trap = true ∧ (t.engCore e).inNormal = true))) ∧
  (∀ s t u : State, s.engReady 0 = true → t = (s.set (F.ENG_PC_PC 0) ((s.engCore 0).pc / 4)).setCore 0 ((s.engCore 0).next 1) →
    u = t.engs.journal.foldl (fun v w => v.setEngWord 2 1 w.1 w.2) t →
    (t.paired = true → t.engRuns 2 = true → exec (.ckpt 0) s =
      .next (((u.setEngs { u.engs with journal := [], ckpt := some (u.engCore 0) }).set F.LOCK_STAT_EN02_READY 1).sat F.CKPT_COUNT_COUNT)) ∧
    (t.paired = false ∨ t.engRuns 2 = false → exec (.ckpt 0) s = .next t)) ∧
  (∀ (s : State) (e : Fin 24), s.mirrors e = false → s.engRuns e = true →
    (s.fastOk e = true → exec (.fastEntry e) s = .next (s.fastEntry e)) ∧ (s.normalOk e = true → exec (.normalEntry e) s = .next (s.normalEntry e)) ∧
    exec (.watchdog e) s = .next (s.engFault e 2)) ∧
  (∀ (s : State) (e : Fin 24), s.engRuns e = true → s.pairEngines.contains e.val = false → exec (.engineFault e) s = .next (s.engFault e 3)) ∧
  (∀ s : State, s.engRuns 0 = true → exec .autoCkpt s = .next s.ckptNow) ∧
  (∀ s : State, s.get F.LOCK_STAT_MGMT = 0 → s.engRuns s.pairLead = true → exec .lockstepMismatch s = .next (s.mismatch [])) ∧
  (∀ (s t : State) (h : Fin 32) (q : Word) (e : BitVec 8) (b : List (BitVec 8)), s.runs h q.toNat 0x0130 = true → s.get F.FM_PATH_REQ = h →
    19 ≤ e.toNat → e.toNat ≤ 22 → b.length < 2 ^ 32 → t = (s.engStop e.toNat 0).clearMem e.toNat →
    (∀ err g, progBad b = some err → exec (.engLoad h q e b (BitVec.ofNat 32 b.length) g) s = .next (t.loadFails h q.toNat e.toNat err)) ∧
    (∀ g, progBad b = none → s.progSigned g = false → exec (.engLoad h q e b (BitVec.ofNat 32 b.length) g) s = .next (t.loadFails h q.toNat e.toNat 8)) ∧
    (∀ g, progBad b = none → s.progSigned g = true → exec (.engLoad h q e b (BitVec.ofNat 32 b.length) g) s =
      .next (((((t.loadWords e.toNat 0 (wordsOf ((b.drop 64).take (prog32 b 8)))).loadWords e.toNat 1
        (wordsOf ((b.drop (64 + prog32 b 8)).take (prog32 b 12)))).engStart e.toNat (4 * prog32 b 16)).raise 3845).complete h q.toNat 0 0))) ∧
  (∀ (s : State) (h : Fin 32) (q : Word) (e : BitVec 8), s.runs h q.toNat 0x0131 = true → s.get F.FM_PATH_REQ = h → 19 ≤ e.toNat → e.toNat ≤ 22 →
    s.engRuns e.toNat = true → exec (.engStop h q e) s = .next ((s.engStop e.toNat 4).complete h q.toNat 0 0)) ∧
  (∀ (s : State) (p : Path) (e : Fin 24),
    (s.takes p (0xA10040 + 0x1000 * e.val) 1 → exec (.engCtrlStart p e) s =
      .next (((s.storeAt (pathCode p) (0xA10040 + 0x1000 * e.val) 1).engFx ⟨.engpage, e, 0x40, 0, 0, pathCode p, 1⟩).settled)) ∧
    (s.takes p (0xA10040 + 0x1000 * e.val) 2 → exec (.engCtrlStop p e) s =
      .next (((s.storeAt (pathCode p) (0xA10040 + 0x1000 * e.val) 2).engFx ⟨.engpage, e, 0x40, 0, 0, pathCode p, 2⟩).settled))) ∧
  (∀ (s : State) (p : Path), exec (.mwDataAccess p none) s = .next (s.readOut p 0xA01048)) ∧
  (∀ (s : State) (p : Path) (v : Word), s.takes p 0xA01048 v.toNat → exec (.mwDataAccess p (some v)) s =
    .next (((s.storeAt (pathCode p) 0xA01048 v.toNat).engFx ⟨.engine1, 0, 0x48, 0, 0, pathCode p, v.toNat⟩).settled))

/-! ## Power, clocks, starts, test and voltage (chapters 18 and 20) -/

/-- Domains, wake, supplies, heat, clocks and starts (R400-R421), the orderly shutdown with its test, and voltage scaling (R447-R454, R471). -/
def Obligations.PowerCommandsAct : Prop :=
  (∀ (s : State) (p : Path) (g : BitVec 14) (r : BitVec 2) (v : Nat), v = 2 * r.toNat + s.get (hEn (g.toNat * 4096)) →
    s.takes p (g.toNat * 4096 + 8) v → exec (.domainRequest p (some g) r) s =
      .next (((s.storeAt (pathCode p) (g.toNat * 4096 + 8) v).headerFx s (g.toNat * 4096) 8 v).settled)) ∧
  (∀ (s : State) (p : Path) (r : BitVec 2), s.takes p 0x1100044 r.toNat → exec (.domainRequest p none r) s =
    .next (((s.storeAt (pathCode p) 0x1100044 r.toNat).domEval (s.winIndex (pathCode p) 0 .domSel)).settled)) ∧
  (∀ (s : State) (d : Fin 232), exec (.domainTransition d true) s = .next (s.domDone d) ∧ exec (.domainTransition d false) s = .next (s.domUndefer d) ∧
    exec (.domainTransitionTimeout d) s = .next (s.domTimeout d)) ∧
  (∀ (s u : State) (d : Fin 232) (e : Nat × Nat), s.pwr.trans.find? (fun e => e.1 == d.val) = some e → u = s.mapPwr (fun p => { p with trans := tdel p.trans d }) →
    (e.2 % 4 = 0 → exec (.domainTransition d true) s = .next (((u.set (F.DOM_STAT_STATE d) 0).exitDom d (e.2 / 4)).domSettled d)) ∧
    (e.2 % 4 ≠ 0 → exec (.domainTransition d true) s = .next (((u.enterDom d (e.2 % 4)).set (F.DOM_STAT_STATE d) (e.2 % 4)).domSettled d)) ∧
    (s.pwr.rtDue = false → exec (.domainTransitionTimeout d) s =
      .next ((((u.sets [(F.DOM_STAT_STATE d, e.2 / 4), (F.DOM_STAT_ERR d, 1)]).raise 16).softRecord 12 d 0).lpEval))) ∧
  (∀ s : State, s.rep.sent = true → exec .avsStep s = .next ((s.mapRep (fun r => { r with sent := true })).emit (.vout (min s.rep.want (s.setpoint + 25)))) ∧
    exec .avsAck s = .next (((s.mapRep (fun r => { r with sent := false, setp := some (min s.rep.want (s.setpoint + 25)) })).set F.AVS_STAT_SET_MV
      (min s.rep.want (s.setpoint + 25) / 10)).raise 3973)) ∧
  (∀ (s : State) (c : Cell) (t : Nat), s.domState 9 = 1 → c ∈ s.sw.cells → c.part = .hold → c.tag = .time t → t ≤ s.now + 20000 →
    exec .vatWake s = .next s.vatWakes) ∧
  (∀ (s : State) (src : Fin 6), exec (.wakeSource src) s = .next (s.wakeBy src) ∧
    (hasBit (s.get F.WAKE_EN_SRC) src = true → s.on F.AON_STAT_MODE = true →
      exec (.wakeSource src) s = .next (((s.set F.WAKE_LOG_SRC (2 ^ src.val)).raise 20).toNormal))) ∧
  (∀ s : State, s.get64 F.WAKE_TIME_LO_NS F.WAKE_TIME_HI_NS ≠ 2 ^ 64 - 1 → s.get64 F.WAKE_TIME_LO_NS F.WAKE_TIME_HI_NS ≤ s.now →
    exec .wakeTime s = .next (s.wakeBy 1)) ∧
  (∀ s : State, exec .aonBrownout s = .next (s.coldStart 2 false) ∧ exec .rideThroughEnd s = .next s.rtEnd ∧ exec .thermalRestart s = .next s.cooled ∧
    exec .porstN s = .next s.porst ∧ exec .warmN s = .next s.warmPin ∧ exec .avsStep s = .next s.avsStep ∧ exec .avsAck s = .next s.avsAck) ∧
  (∀ (s : State) (r : Fin 6) (mv : BitVec 16), exec (.warnTrip r mv) s = .next ((s.railSample r mv.toNat).warn r) ∧
    exec (.resetTrip r mv) s = .next ((s.railSample r mv.toNat).railReset r) ∧ exec (.resetRelease r) s = .next (s.railRelease r)) ∧
  (∀ (s u v : State) (r : Fin 6) (mv : BitVec 16), u = s.railSample r mv.toNat → v = (u.set F.RST_CAUSE_RAIL r).raise 12 →
    (r.val < 4 → u.riding = false → s.pwr.rtDue = false → s.pwr.trans = [] →
      exec (.warnTrip r mv) s = .next (u.mapPwr (fun p => { p with warned := r :: p.warned.erase r })).rtBegin) ∧
    (4 ≤ r.val → exec (.warnTrip r mv) s = .next ((u.sat F.DIP_COUNT_COUNT).raise 13)) ∧
    (r.val ≤ 1 → exec (.resetTrip r mv) s = .next ((v.warmStart 5 r).mapPwr (fun p => { p with dark := r :: p.dark.erase r }))) ∧
    ((r.val = 2 ∨ r.val = 3) → exec (.resetTrip r mv) s = .next (v.serdesReset.mapPwr (fun p => { p with dark := r :: p.dark.erase r }))) ∧
    (r.val = 4 → exec (.resetTrip r mv) s = .next (v.ioLost.mapPwr (fun p => { p with dark := r :: p.dark.erase r }))) ∧
    (r.val = 5 → exec (.resetTrip r mv) s = .next (v.mapPwr (fun p => { p with dark := r :: p.dark.erase r })))) ∧
  (∀ (s : State) (r : Fin 6), s.pwr.dark.contains r.val = true → ((r.val ≤ 1 ∨ r.val = 4) → exec (.resetRelease r) s = .next (s.undark r)) ∧
    (r.val = 5 → exec (.resetRelease r) s = .next ((s.undark 5).coldStart 0 true))) ∧
  (∀ (s u : State), s.riding = true → s.pwr.rtPorts = [] → s.pwr.rtMacs = [] → s.pwr.rtClk = false → s.pwr.rtDoms = [] →
    u = (((s.mapPwr (fun p => { p with warned := [], rtPorts := [], rtMacs := [], rtClk := false, rtDoms := [] })).sets
      [(F.RT_STAT_ACTIVE, 0), (F.RT_LAST_NS, s.now - s.pwr.rtAt)]).raise 11) →
    exec .rideThroughEnd s = .next ((List.range 64).foldl State.selectState ((List.range 16).foldl State.rtResume u))) ∧
  (∀ s : State, s.pwr.dark.contains 6 = true →
    (s.pwr.autoRe = true → exec .thermalRestart s = .next s.thermalWarm) ∧
    (s.pwr.autoRe = false → exec .thermalRestart s = .next (s.mapPwr (fun p => { p with cool := true }))) ∧
    (s.pwr.cool = true → exec .porstN s = .next (((s.undark 6).coldStart 6 false).raise 31) ∧ exec .warmN s = .next s.thermalWarm)) ∧
  (∀ s : State, s.pwr.dark.contains 6 = false → exec .warmN s = .next ((s.warmStart 3).undark 7) ∧
    (s.rep.run = false → exec .porstN s = .next ((s.coldStart 1 false).undark 7)) ∧
    (s.rep.run = true → exec .porstN s = .next (((s.set F.BIST_STAT_PHASE 5).coldStart 1 false).undark 7)) ∧
    (∀ (k : Fin 64) (u : State), u = (List.range 16).foldl (fun s n => (s.vbReq n false).detach n false) s →
      exec (.thermalTrip k) s = .next ((((((u.sets [(F.THERM_STAT_SENSOR, k), (F.THERM_STAT_TRIPPED, 1)]).sat F.TRIP_COUNT_COUNT).darken 6).mapPwr
        (fun p => { p with cool := false, autoRe := s.on F.THERM_CTRL_AUTO_RESTART })).emit (.irq true))))) ∧
  (∀ (s : State) (mv : BitVec 16), Answers (exec (.vbatLow mv) s) (fun t => t.get F.VBAT_MV_MV = mv.toNat ∧
    (mv.toNat < 2200 → (s.get F.VBAT_MV_MV = 0 ∨ 2200 ≤ s.get F.VBAT_MV_MV) → t.evStat 14 = true) ∧ (2200 ≤ mv.toNat → t = s.set F.VBAT_MV_MV mv.toNat))) ∧
  (∀ (s : State) (k : Fin 64), exec (.thermalTrip k) s = .next (s.thermalTrip k) ∧ Answers (exec (.hotWarning k) s) (fun t => t.evStat 30 = true)) ∧
  (∀ (s : State) (pll : Fin 2), s.get (clkPllF pll) = 0 → s.on F.POWER3_CLK_STAT_ON_PLL = true →
    ((s.clkLost pll).1 = true → exec (.clockPllLockLoss pll) s = .next (s.clkLost pll).2) ∧
    ((s.clkLost pll).1 = false → exec (.clockPllLockLoss pll) s = .next (((s.clkLost pll).2.set F.POWER3_CLK_STAT_ON_PLL 0).warmStart 8))) ∧
  (∀ s : State, (s.pwr.xtalLost = false → exec .xtalLost s = .next s.xtalGone) ∧
    (s.pwr.xtalLost = true → exec .xtalHoldExpiry s = .next (s.warmStart 8) ∧ Answers (exec .xtalReturn s) (fun t =>
      t.pwr.xtalLost = false ∧ t.get F.POWER3_CLK_STAT_XTAL_OK = 1 ∧ t.evStat 27 = true)) ∧
    Answers (exec .x32kLost s) (fun t => t.pwr.x32kLost = true ∧ t.get F.POWER3_CLK_STAT_X32K_OK = 0 ∧ t.evStat 28 = true) ∧
    (s.canSwitch = true → exec .pllSwitchDone s = .next s.onPll)) ∧
  (∀ (s : State) (p : Path), (s.takes p 0x1103044 1 → exec (.toPll p) s = .next (((s.storeAt (pathCode p) 0x1103044 1).toPll).settled)) ∧
    (s.takes p 0x1103044 2 → s.riding = false → (s.storeAt (pathCode p) 0x1103044 2).riding = false →
      exec (.clkSwap p) s = .next (((s.storeAt (pathCode p) 0x1103044 2).clkSwitch).settled))) ∧
  (∀ (s : State) (p : Path) (k : BitVec 8), (s.takes p 0x50 (k.toNat * 256 + 1) → exec (.rstCmdWarm p k) s =
      .next (((s.storeAt (pathCode p) 0x50 (k.toNat * 256 + 1)).rstCmd (k.toNat * 256 + 1)).settled)) ∧
    (s.takes p 0x50 (k.toNat * 256 + 2) → exec (.rstCmdShutdown p k) s =
      .next (((s.storeAt (pathCode p) 0x50 (k.toNat * 256 + 2)).rstCmd (k.toNat * 256 + 2)).settled))) ∧
  (∀ (s : State) (img : FwImage), s.imageOpen = true → exec (.imageVerified img) s = .next (s.imageVerified img)) ∧
  (∀ s : State, s.get F.START_STAT_PHASE = 4 → s.isDark = false → exec .bootWatchdog s = .next (s.warmStart 7 0 (some (1 - s.get F.START_STAT_SLOT))) ∧
    ∀ us : Word, Answers (exec (.startDone us) s) (fun t => t.get F.START_STAT_PHASE = 5 ∧ t.get F.START_US_US = us.toNat ∧ t.evStat 0 = true)) ∧
  (∀ s : State, s.rep.run = true → (s.get F.BIST_STAT_PHASE = 1 → exec .quiesceDone s = .next s.quiesced) ∧
    (∀ l, s.get F.BIST_STAT_PHASE = 2 → exec (.bistProgramDone l) s = .next (s.programDone l)) ∧
    (s.get F.BIST_STAT_PHASE = 3 → exec .record s = .next s.recorded ∧ ∀ ms : BitVec 16, exec (.shutdownDone ms) s = .next (s.shutdownDone ms.toNat))) ∧
  (∀ (s : State) (p : Path) (k : Fin 16), s.takes p 0x121004C (256 + k.val) → (s.storeAt (pathCode p) 0x121004C (256 + k.val)).testMode = true →
    exec (.bistGo p k) s = .next (((s.storeAt (pathCode p) 0x121004C (256 + k.val)).bistGo k).settled)) ∧
  (∀ (s : State) (l : List (BitVec 20)), s.isDark = false → exec (.avsMeasure l) s = .next (s.avsMeasure ((l.take 32).map BitVec.toNat)))

/-! ## Keys, sessions, the life cycle and OTP (chapter 19) -/

/-- Vault commands, the DRBG, the root cell, SPDM, IDE_KM, the life cycle and OTP (R422-R439): the writes as they are taken, and each SPDM request
once the responder is on and what it needs has been negotiated. -/
def Obligations.VaultCommandsAct : Prop :=
  (∀ (s : State) (p : Path) (t c : BitVec 8) (a : BitVec 2) (x : Bool),
    (s.takes p 0x1002040 (kvWord 1 t.toNat 0 a.toNat x) → exec (.generate p t a x) s =
      .next (((s.storeAt (pathCode p) 0x1002040 (kvWord 1 t.toNat 0 a.toNat x)).kvRun (pathCode p)).settled)) ∧
    (s.takes p 0x1002040 (kvWord 2 t.toNat c.toNat a.toNat x) → exec (.derive p t c a x) s =
      .next (((s.storeAt (pathCode p) 0x1002040 (kvWord 2 t.toNat c.toNat a.toNat x)).kvRun (pathCode p)).settled)) ∧
    (s.takes p 0x1002040 (kvWord 3 t.toNat c.toNat a.toNat x) → exec (.unwrap p t c a x) s =
      .next (((s.storeAt (pathCode p) 0x1002040 (kvWord 3 t.toNat c.toNat a.toNat x)).kvRun (pathCode p)).settled)) ∧
    (s.takes p 0x1002040 (kvWord 4 t.toNat c.toNat 0 false) → exec (.wrap p t c) s =
      .next (((s.storeAt (pathCode p) 0x1002040 (kvWord 4 t.toNat c.toNat 0 false)).kvRun (pathCode p)).settled)) ∧
    (s.takes p 0x1002040 (kvWord 5 t.toNat 0 0 false) → exec (.zero p t) s =
      .next (((s.storeAt (pathCode p) 0x1002040 (kvWord 5 t.toNat 0 0 false)).kvRun (pathCode p)).settled)) ∧
    (s.takes p 0x1002040 (kvWord 6 0 0 0 false) → exec (.random p) s =
      .next (((s.storeAt (pathCode p) 0x1002040 (kvWord 6 0 0 0 false)).kvRun (pathCode p)).settled))) ∧
  (∀ s : State, s.cryptoOn = true → exec .remask s = .next s.remask ∧ ∀ r : Fin 2, exec (.drbgFail r) s = .next (s.drbgFail (r.val + 1))) ∧
  (∀ (s : State) (p : Path), (s.takes p 0x1000060 2 → exec (.drbgRestart p) s =
      .next (((s.storeAt (pathCode p) 0x1000060 2).vaultFx s ⟨.key0, 0, 0x60, 0, 0, pathCode p, 2⟩).settled)) ∧
    (s.takes p 0x1000048 1 → exec (.rootGen p) s = .next (((s.storeAt (pathCode p) 0x1000048 1).rootGen).settled))) ∧
  (∀ (s : State) (src : Fin 8), exec (.tamperTrip src) s = .next (s.tamper src)) ∧
  (∀ (s : State) (src : Fin 8), hasBit (s.get F.TAMPER_EN_SRC) src = true → s.isDark = false → ∃ u : State, u.vault.root = none ∧
    exec (.tamperTrip src) s = .next u.tamperFabric) ∧
  (∀ (s : State) (h : Fin 32), s.spdmOn h = true →
    exec (.getVersion h) s = .next ((s.setSpdm h { s.spdm h with ver := true, caps := false, algs := false }).spdmAns h 1 (some (leBytes 2 0x1300))) ∧
    ((s.spdm h).ver = true → exec (.getCapabilities h) s = .next ((s.setSpdm h { s.spdm h with caps := true }).spdmAns h 2 (some []))) ∧
    ((s.spdm h).caps = true → exec (.negotiateAlgorithms h true) s = .next ((s.setSpdm h { s.spdm h with algs := true }).spdmAns h 3 (some []))) ∧
    ((s.spdm h).algs = true → (∀ l : List (BitVec 8), exec (.getDigests h l) s =
        .next (s.spdmAns h 4 (some (leBytes 48 (Config.sha384 (l.take 16384)))))) ∧
      (∀ (o n : BitVec 16) (l : List (BitVec 8)), exec (.getCertificate h 0 o n l) s =
        .next (s.spdmAns h 5 (some (((l.take 16384).drop o.toNat).take n.toNat)))) ∧
      exec (.getMeasurements h 0) s = .next (s.spdmAns h 7 (some [4])) ∧
      (∀ i : BitVec 8, 1 ≤ i.toNat → i.toNat ≤ 4 → exec (.getMeasurements h i) s = .next (s.spdmAns h 7 (some (s.measure384 i.toNat)))) ∧
      (∀ (k : Nat) (x : BitVec 256), s.scalar = some k → exec (.challenge h 0 x) s =
          .next (s.fresh.2.spdmAns h 6 (some (Config.sign k (leBytes 32 x.toNat) s.fresh.1))) ∧
        exec (.keyExchange h 0 x) s = .next ((s.fresh.2.fresh.2.setSpdm h { s.spdm h with sess := 1 }).spdmAns h 8
          (some (Config.ecdhPublic s.fresh.1 ++ Config.sign k (leBytes 32 x.toNat ++ Config.ecdhPublic s.fresh.1) s.fresh.2.fresh.1))))) ∧
    ((s.spdm h).sess = 1 → exec (.finish h true) s = .next ((s.setSpdm h { s.spdm h with sess := 2 }).spdmAns h 9 (some []))) ∧
    ((s.spdm h).sess = 2 → exec (.endSession h) s = .next ((s.setSpdm h { s.spdm h with sess := 0 }).spdmAns h 10 (some [])))) ∧
  (∀ (s : State) (port : Fin 48) (sub : Fin 3) (rx set : Bool), s.kmOn port = true →
    (∀ k : BitVec 256, port.val < 32 → exec (.keyProg port sub rx set k) s =
      .next ((s.keyProg port sub rx set k.toNat).1.spdmAns port 11 (some [if (s.keyProg port sub rx set k.toNat).2 then 0 else 1]))) ∧
    exec (.kSetGo port sub rx set) s = .next ((s.keySet port (ideIx sub rx set) true).1.spdmAns port 12
      (if (s.keySet port (ideIx sub rx set) true).2 then some [] else none)) ∧
    exec (.kSetStop port sub rx set) s = .next ((s.keySet port (ideIx sub rx set) false).1.spdmAns port 13
      (if (s.keySet port (ideIx sub rx set) false).2 then some [] else none))) ∧
  (∀ (s : State) (p : Path) (k : BitVec 8) (t : BitVec 3), s.takes p 0x1044 (256 * k.toNat + t.toNat) → exec (.lcReq (.path p) k t) s =
    .next (((s.storeAt (pathCode p) 0x1044 (256 * k.toNat + t.toNat)).lcAccept t.toNat).settled)) ∧
  (∀ (s : State) (k : BitVec 8) (t : BitVec 3), s.isDark = false → (k ≠ 0x5A → exec (.lcReq .jtag k t) s = .next (s.jtagRefuse .badValue)) ∧
    (k = 0x5A → s.lcAllowed none t.toNat = true → exec (.lcReq .jtag k t) s = .next (s.lcAccept t.toNat)) ∧
    (k = 0x5A → s.lcAllowed none t.toNat = false → exec (.lcReq .jtag k t) s = .next (s.jtagRefuse .lifeCycle))) ∧
  (∀ (s : State) (t : Nat), s.otp.blow = some t → exec .lcBlowDone s = .next ((s.lcBlow t).warmStart 4)) ∧
  (∀ (s : State) (p : Path) (i : BitVec 8), s.takes p 0x1230048 (2 ^ 31 + i.toNat) → exec (.otpCmdGo p i) s =
    .next (((s.storeAt (pathCode p) 0x1230048 (2 ^ 31 + i.toNat)).otpGo).settled)) ∧
  (∀ (s : State) (ok : Bool), exec (.otpWriteDone ok) s = .next (s.otpDone ok)) ∧
  (∀ (s u : State) (id g : Nat) (data : List Nat), s.otp.busy = some (id, g, data) → u = (s.set F.OTP_STAT_BUSY 0).mapOtp (fun o => { o with busy := none }) →
    exec (.otpWriteDone true) s = .next (((u.otpPut (slotAt id g) (recHeader id g :: data ++ [crcWords (recHeader id g :: data)])).sets
      [(F.OTP_STAT_RESULT, 0), (F.OTP_STAT_GEN, g)]).raise 4080) ∧
    exec (.otpWriteDone false) s = .next (((((List.range (data.length + 2)).foldl (fun s i =>
      s.fresh.2.otpPut (slotAt id g + i) [s.fresh.1 % 2 ^ 32]) u).mapOtp (fun o => { o with bad := (4 * id + g) :: o.bad })).set F.OTP_STAT_RESULT 3).raise 4081))

/-! ## The service USB and SMBus (chapters 21 and 22) -/

/-- The service USB (R455-R463) and the SMBus (R473, R474): bus states, control requests held until their status stage, the endpoints, and the
sideband's pointer, reads and writes. -/
def Obligations.UsbAndSmbusCommandsAct : Prop :=
  (∀ s : State, (s.usb.vbus = false → exec (.serviceAttach true) s = .next ((s.mapUsb (fun u => { u with vbus := true })).wakeBy 3)) ∧
    (s.usb.vbus = true → exec (.serviceAttach false) s = .next (s.usbDetach.mapUsb (fun u => { u with vbus := false })))) ∧
  (∀ s : State, s.usbUp = true →
    (∀ hs : Bool, exec (.busReset hs) s = .next ((((((List.range s.usbPartial).foldl (fun s _ => s.sat F.SVC_ABORT_COUNT_COUNT) s.usbDefault).usbServed
      false).mapUsb (fun u => { u with high := hs && s.on F.SVC_CTRL_HS_EN, full := s.on F.SVC_CTRL_FULL_EN })).sat
      F.SVC_RESET_COUNT_COUNT).raise 52 |>.pathLost 0x41)) ∧
    (s.usbSuspended = false → Answers (exec .suspend s) (fun t => t.usb.sus = some s.now ∧ t.evStat 54 = true)) ∧
    (s.usbSuspended = true → exec .resume s = .next (((s.usbServed true).raise 55).wakeBy 3))) ∧
  (∀ (s : State) (r : Fin 3), exec (.remoteWake r) s = .next (s.usbReason r)) ∧
  (∀ (s : State) (r : Fin 3), s.usbUp = true → hasBit (s.get F.SVC_WAKE_EN_SRC) r = true → s.usbSuspended = false → exec (.remoteWake r) s =
    .next (s.set F.SVC_WAKE_LOG_REASON (putBit (s.get F.SVC_WAKE_LOG_REASON) r true))) ∧
  (∀ (s : State) (n : Fin 16) (on : Bool), exec (.downstreamAttach n on) s = .next (s.portAttach n on)) ∧
  (∀ (s : State) (n : Fin 16) (on : Bool), hasBit (s.get F.SVC_PORTS_CONN) n ≠ on → exec (.downstreamAttach n on) s =
    .next (((s.set F.SVC_PORTS_CONN (putBit (s.get F.SVC_PORTS_CONN) n on)).mapDown n (fun p => { p with enabled := false, susp := false })).portChange n 0)) ∧
  (∀ s : State, s.devThere 1 = true →
    (∀ (a : Word) (n : BitVec 16), regForm a.toNat n.toNat = false → exec (.regRead a n) s = .next (s.usbStall 0)) ∧
    (∀ (a : Word) (n : BitVec 16) (r : List Nat × State), regForm a.toNat n.toNat = true →
      r = (s.mapUsb (fun u => { u with ctl := none })).readRun a.toNat (n.toNat / 4) →
      exec (.regRead a n) s = .next (r.2.emit (.usbData 0 (wordBytes r.1)))) ∧
    (∀ (a : Word) (n : BitVec 16) (l : List Word), s.usb.ctl = some (.regWrite a n l) → exec (.regWrite a n l true) s =
      .next ((s.mapUsb (fun u => { u with ctl := none })).writeRun a.toNat (l.map BitVec.toNat)).1) ∧
    (∀ (a : Word) (n : BitVec 16) (l : List Word), regForm a.toNat n.toNat = true → 4 * l.length = n.toNat →
      exec (.regWrite a n l false) s = .next (s.usbSetup (.regWrite a n l))) ∧
    (s.testMode = true → exec .getView s = .next ((s.mapUsb (fun u => { u with ctl := none })).emit (.usbData 0 (leBytes 4 (512 + s.life)))))) ∧
  (∀ (s : State) (d : UsbDevice), s.devThere (devNo d) = true →
    (∀ a : BitVec 7, exec (.setAddress d a false) s = .next (s.usbSetup (.setAddress d a)) ∧ (s.usb.ctl = some (.setAddress d a) →
      Answers (exec (.setAddress d a true) s) (fun t => (t.usbDev (devNo d)).addr = a.toNat ∧ t.usb.ctl = none ∧ t.regs = s.regs))) ∧
    (∀ c : BitVec 8, s.usb.ctl = some (.setConfiguration d c) → exec (.setConfiguration d c true) s =
      .next ((s.mapUsb (fun u => { u with ctl := none })).setCfg (devNo d) c.toNat)) ∧
    (∀ f : UsbFeature, (s.usb.ctl = some (.setFeature d f) → exec (.setFeature d f true) s =
        .next ((s.mapUsb (fun u => { u with ctl := none })).usbFeature (devNo d) f true)) ∧
      (s.usb.ctl = some (.clearFeature d f) → exec (.clearFeature d f true) s =
        .next ((s.mapUsb (fun u => { u with ctl := none })).usbFeature (devNo d) f false)))) ∧
  (∀ s : State, s.devCfg 1 ≠ 0 → s.halted 1 1 = false → (s.get F.SVC_WAKE_LOG_REASON = s.usb.ep1 → exec .ep1In s = .next (s.emit (.usbAns 1 2))) ∧
    (s.get F.SVC_WAKE_LOG_REASON ≠ s.usb.ep1 → Answers (exec .ep1In s) (fun t => t.usb.ep1 = s.get F.SVC_WAKE_LOG_REASON ∧ t.regs = s.regs))) ∧
  (∀ (s t : State) (n a : Nat) (b : List (BitVec 8)), s.devCfg 1 = 2 →
    (s.ep2Take 8 = (t, some (1, n, a, b)) → exec .ep2Read s =
      .next (((t.ep2Drop 1 n).readRun a n).2.emit (.usbData 3 (wordBytes ((t.ep2Drop 1 n).readRun a n).1)))) ∧
    (∀ r, s.ep2Take 8 = (t, some (2, n, a, b)) → r = (t.ep2Drop 2 n).writeRun a ((List.range n).map (fun i => leNat ((b.drop (4 * i)).take 4))) →
      exec .ep2Write s = .next (r.1.emit (.usbData 3 (leBytes 4 r.2)))) ∧
    (b.length ≤ s.ep2Max → exec (.outToken b) s = .next (s.ep2Out b)) ∧
    (s.usb.high = true → s.halted 1 2 = false → (s.usb.bufs.length < 2 → exec .pingToken s = .next (s.emit (.usbAns 2 0))) ∧
      (2 ≤ s.usb.bufs.length → exec .pingToken s = .next ((s.sat F.SVC_FLOW_NAK).emit (.usbAns 2 2))))) ∧
  (∀ (s : State) (img : FwImage), s.devCfg 2 ≠ 0 → s.get F.START_STAT_PHASE = 6 →
    (s.imageResult img = 1 → exec (.recoveryImage img) s = .next ((s.set F.IMG_STAT_RESULT 1).imageTaken img)) ∧
    (s.imageResult img ≠ 1 → exec (.recoveryImage img) s = .next (s.set F.IMG_STAT_RESULT (s.imageResult img)))) ∧
  (∀ (s : State) (b : BitVec 8) (l : List (BitVec 8)), s.devCfg 3 ≠ 0 →
    exec (.logIn []) s = .next (s.emit (.usbAns 16 2)) ∧ exec (.logIn (b :: l)) s = .next (s.emit (.usbData 16 ((b :: l).take s.ep2Max)))) ∧
  (∀ s : State, (s.wakeBy 2).isDark = false →
    (∀ o : Word, Answers (exec (.smbusSetPointer o true) s) (fun t => t.smbPtr = o.toNat / 4 * 4 ∧ t.regs = (s.wakeBy 2).regs)) ∧
    (∀ r, r = (s.wakeBy 2).read .smbus (s.wakeBy 2).smbPtr → exec (.smbusRead true) s =
      .next { r.2.emit (.smb (leBytes 4 r.1)) with smbPtr := ((s.wakeBy 2).smbPtr + 4) % 2 ^ 32 }) ∧
    (∀ v : Word, exec (.smbusWrite v true) s =
      .next { (s.wakeBy 2).write .smbus (s.wakeBy 2).smbPtr v.toNat 15 with smbPtr := ((s.wakeBy 2).smbPtr + 4) % 2 ^ 32 })) ∧
  (∀ s : State, exec .alertResponse s = .next (s.emit (.smb [0x4C])))
end

