-- ==== Sys2Proof/Laws/State.lean ====
section
/-! SUPPORT. One lemma per field of State per basic update: every other field stays as it is. -/

namespace Sys2Proof.Machine

/-! `State.ideForget` -/

@[simp] theorem State.ideForget_pending (s : State) (p : Nat) : (State.ideForget s p).pending = s.pending := rfl
@[simp] theorem State.ideForget_regs (s : State) (p : Nat) : (State.ideForget s p).regs = s.regs := rfl
@[simp] theorem State.ideForget_lag (s : State) (p : Nat) : (State.ideForget s p).lag = s.lag := rfl
@[simp] theorem State.ideForget_sig (s : State) (p : Nat) : (State.ideForget s p).sig = s.sig := rfl
@[simp] theorem State.ideForget_slots (s : State) (p : Nat) : (State.ideForget s p).slots = s.slots := rfl
@[simp] theorem State.ideForget_latch (s : State) (p : Nat) : (State.ideForget s p).latch = s.latch := rfl
@[simp] theorem State.ideForget_time (s : State) (p : Nat) : (State.ideForget s p).time = s.time := rfl
@[simp] theorem State.ideForget_sw (s : State) (p : Nat) : (State.ideForget s p).sw = s.sw := rfl
@[simp] theorem State.ideForget_gov (s : State) (p : Nat) : (State.ideForget s p).gov = s.gov := rfl
@[simp] theorem State.ideForget_pool (s : State) (p : Nat) : (State.ideForget s p).pool = s.pool := rfl
@[simp] theorem State.ideForget_gd (s : State) (p : Nat) : (State.ideForget s p).gd = s.gd := rfl
@[simp] theorem State.ideForget_port (s : State) (p : Nat) : (State.ideForget s p).port = s.port := rfl
@[simp] theorem State.ideForget_link (s : State) (p : Nat) : (State.ideForget s p).link = s.link := rfl
@[simp] theorem State.ideForget_repair (s : State) (p : Nat) : (State.ideForget s p).repair = s.repair := rfl
@[simp] theorem State.ideForget_pow (s : State) (p : Nat) : (State.ideForget s p).pow = s.pow := rfl
@[simp] theorem State.ideForget_scan (s : State) (p : Nat) : (State.ideForget s p).scan = s.scan := rfl
@[simp] theorem State.ideForget_br (s : State) (p : Nat) : (State.ideForget s p).br = s.br := rfl
@[simp] theorem State.ideForget_engs (s : State) (p : Nat) : (State.ideForget s p).engs = s.engs := rfl
@[simp] theorem State.ideForget_pwr (s : State) (p : Nat) : (State.ideForget s p).pwr = s.pwr := rfl
@[simp] theorem State.ideForget_otp (s : State) (p : Nat) : (State.ideForget s p).otp = s.otp := rfl
@[simp] theorem State.ideForget_rep (s : State) (p : Nat) : (State.ideForget s p).rep = s.rep := rfl
@[simp] theorem State.ideForget_usb (s : State) (p : Nat) : (State.ideForget s p).usb = s.usb := rfl
@[simp] theorem State.ideForget_smbPtr (s : State) (p : Nat) : (State.ideForget s p).smbPtr = s.smbPtr := rfl
@[simp] theorem State.ideForget_freeCtr (s : State) (p : Nat) : (State.ideForget s p).freeCtr = s.freeCtr := rfl
@[simp] theorem State.ideForget_mem (s : State) (p : Nat) : (State.ideForget s p).mem = s.mem := rfl

/-! `State.setClk` -/

@[simp] theorem State.setClk_pending (s : State) (c : Clock) : (State.setClk s c).pending = s.pending := rfl
@[simp] theorem State.setClk_regs (s : State) (c : Clock) : (State.setClk s c).regs = s.regs := rfl
@[simp] theorem State.setClk_lag (s : State) (c : Clock) : (State.setClk s c).lag = s.lag := rfl
@[simp] theorem State.setClk_sig (s : State) (c : Clock) : (State.setClk s c).sig = s.sig := rfl
@[simp] theorem State.setClk_slots (s : State) (c : Clock) : (State.setClk s c).slots = s.slots := rfl
@[simp] theorem State.setClk_latch (s : State) (c : Clock) : (State.setClk s c).latch = s.latch := rfl
@[simp] theorem State.setClk_sw (s : State) (c : Clock) : (State.setClk s c).sw = s.sw := rfl
@[simp] theorem State.setClk_gov (s : State) (c : Clock) : (State.setClk s c).gov = s.gov := rfl
@[simp] theorem State.setClk_pool (s : State) (c : Clock) : (State.setClk s c).pool = s.pool := rfl
@[simp] theorem State.setClk_gd (s : State) (c : Clock) : (State.setClk s c).gd = s.gd := rfl
@[simp] theorem State.setClk_port (s : State) (c : Clock) : (State.setClk s c).port = s.port := rfl
@[simp] theorem State.setClk_link (s : State) (c : Clock) : (State.setClk s c).link = s.link := rfl
@[simp] theorem State.setClk_repair (s : State) (c : Clock) : (State.setClk s c).repair = s.repair := rfl
@[simp] theorem State.setClk_pow (s : State) (c : Clock) : (State.setClk s c).pow = s.pow := rfl
@[simp] theorem State.setClk_scan (s : State) (c : Clock) : (State.setClk s c).scan = s.scan := rfl
@[simp] theorem State.setClk_br (s : State) (c : Clock) : (State.setClk s c).br = s.br := rfl
@[simp] theorem State.setClk_engs (s : State) (c : Clock) : (State.setClk s c).engs = s.engs := rfl
@[simp] theorem State.setClk_pwr (s : State) (c : Clock) : (State.setClk s c).pwr = s.pwr := rfl
@[simp] theorem State.setClk_vault (s : State) (c : Clock) : (State.setClk s c).vault = s.vault := rfl
@[simp] theorem State.setClk_otp (s : State) (c : Clock) : (State.setClk s c).otp = s.otp := rfl
@[simp] theorem State.setClk_rep (s : State) (c : Clock) : (State.setClk s c).rep = s.rep := rfl
@[simp] theorem State.setClk_usb (s : State) (c : Clock) : (State.setClk s c).usb = s.usb := rfl
@[simp] theorem State.setClk_smbPtr (s : State) (c : Clock) : (State.setClk s c).smbPtr = s.smbPtr := rfl
@[simp] theorem State.setClk_freeCtr (s : State) (c : Clock) : (State.setClk s c).freeCtr = s.freeCtr := rfl
@[simp] theorem State.setClk_mem (s : State) (c : Clock) : (State.setClk s c).mem = s.mem := rfl

/-! `State.mapUsb` -/

@[simp] theorem State.mapUsb_pending (s : State) (f : UsbSt → UsbSt) : (State.mapUsb s f).pending = s.pending := rfl
@[simp] theorem State.mapUsb_regs (s : State) (f : UsbSt → UsbSt) : (State.mapUsb s f).regs = s.regs := rfl
@[simp] theorem State.mapUsb_lag (s : State) (f : UsbSt → UsbSt) : (State.mapUsb s f).lag = s.lag := rfl
@[simp] theorem State.mapUsb_sig (s : State) (f : UsbSt → UsbSt) : (State.mapUsb s f).sig = s.sig := rfl
@[simp] theorem State.mapUsb_slots (s : State) (f : UsbSt → UsbSt) : (State.mapUsb s f).slots = s.slots := rfl
@[simp] theorem State.mapUsb_latch (s : State) (f : UsbSt → UsbSt) : (State.mapUsb s f).latch = s.latch := rfl
@[simp] theorem State.mapUsb_time (s : State) (f : UsbSt → UsbSt) : (State.mapUsb s f).time = s.time := rfl
@[simp] theorem State.mapUsb_sw (s : State) (f : UsbSt → UsbSt) : (State.mapUsb s f).sw = s.sw := rfl
@[simp] theorem State.mapUsb_gov (s : State) (f : UsbSt → UsbSt) : (State.mapUsb s f).gov = s.gov := rfl
@[simp] theorem State.mapUsb_pool (s : State) (f : UsbSt → UsbSt) : (State.mapUsb s f).pool = s.pool := rfl
@[simp] theorem State.mapUsb_gd (s : State) (f : UsbSt → UsbSt) : (State.mapUsb s f).gd = s.gd := rfl
@[simp] theorem State.mapUsb_port (s : State) (f : UsbSt → UsbSt) : (State.mapUsb s f).port = s.port := rfl
@[simp] theorem State.mapUsb_link (s : State) (f : UsbSt → UsbSt) : (State.mapUsb s f).link = s.link := rfl
@[simp] theorem State.mapUsb_repair (s : State) (f : UsbSt → UsbSt) : (State.mapUsb s f).repair = s.repair := rfl
@[simp] theorem State.mapUsb_pow (s : State) (f : UsbSt → UsbSt) : (State.mapUsb s f).pow = s.pow := rfl
@[simp] theorem State.mapUsb_scan (s : State) (f : UsbSt → UsbSt) : (State.mapUsb s f).scan = s.scan := rfl
@[simp] theorem State.mapUsb_br (s : State) (f : UsbSt → UsbSt) : (State.mapUsb s f).br = s.br := rfl
@[simp] theorem State.mapUsb_engs (s : State) (f : UsbSt → UsbSt) : (State.mapUsb s f).engs = s.engs := rfl
@[simp] theorem State.mapUsb_pwr (s : State) (f : UsbSt → UsbSt) : (State.mapUsb s f).pwr = s.pwr := rfl
@[simp] theorem State.mapUsb_vault (s : State) (f : UsbSt → UsbSt) : (State.mapUsb s f).vault = s.vault := rfl
@[simp] theorem State.mapUsb_otp (s : State) (f : UsbSt → UsbSt) : (State.mapUsb s f).otp = s.otp := rfl
@[simp] theorem State.mapUsb_rep (s : State) (f : UsbSt → UsbSt) : (State.mapUsb s f).rep = s.rep := rfl
@[simp] theorem State.mapUsb_smbPtr (s : State) (f : UsbSt → UsbSt) : (State.mapUsb s f).smbPtr = s.smbPtr := rfl
@[simp] theorem State.mapUsb_freeCtr (s : State) (f : UsbSt → UsbSt) : (State.mapUsb s f).freeCtr = s.freeCtr := rfl
@[simp] theorem State.mapUsb_mem (s : State) (f : UsbSt → UsbSt) : (State.mapUsb s f).mem = s.mem := rfl

/-! `State.placeShaper` -/

@[simp] theorem State.placeShaper_pending (s : State) (sh : Nat) (next : Nat) : (State.placeShaper s sh next).pending = s.pending := rfl
@[simp] theorem State.placeShaper_regs (s : State) (sh : Nat) (next : Nat) : (State.placeShaper s sh next).regs = s.regs := rfl
@[simp] theorem State.placeShaper_lag (s : State) (sh : Nat) (next : Nat) : (State.placeShaper s sh next).lag = s.lag := rfl
@[simp] theorem State.placeShaper_sig (s : State) (sh : Nat) (next : Nat) : (State.placeShaper s sh next).sig = s.sig := rfl
@[simp] theorem State.placeShaper_slots (s : State) (sh : Nat) (next : Nat) : (State.placeShaper s sh next).slots = s.slots := rfl
@[simp] theorem State.placeShaper_latch (s : State) (sh : Nat) (next : Nat) : (State.placeShaper s sh next).latch = s.latch := rfl
@[simp] theorem State.placeShaper_time (s : State) (sh : Nat) (next : Nat) : (State.placeShaper s sh next).time = s.time := rfl
@[simp] theorem State.placeShaper_gov (s : State) (sh : Nat) (next : Nat) : (State.placeShaper s sh next).gov = s.gov := rfl
@[simp] theorem State.placeShaper_pool (s : State) (sh : Nat) (next : Nat) : (State.placeShaper s sh next).pool = s.pool := rfl
@[simp] theorem State.placeShaper_gd (s : State) (sh : Nat) (next : Nat) : (State.placeShaper s sh next).gd = s.gd := rfl
@[simp] theorem State.placeShaper_port (s : State) (sh : Nat) (next : Nat) : (State.placeShaper s sh next).port = s.port := rfl
@[simp] theorem State.placeShaper_link (s : State) (sh : Nat) (next : Nat) : (State.placeShaper s sh next).link = s.link := rfl
@[simp] theorem State.placeShaper_repair (s : State) (sh : Nat) (next : Nat) : (State.placeShaper s sh next).repair = s.repair := rfl
@[simp] theorem State.placeShaper_pow (s : State) (sh : Nat) (next : Nat) : (State.placeShaper s sh next).pow = s.pow := rfl
@[simp] theorem State.placeShaper_scan (s : State) (sh : Nat) (next : Nat) : (State.placeShaper s sh next).scan = s.scan := rfl
@[simp] theorem State.placeShaper_br (s : State) (sh : Nat) (next : Nat) : (State.placeShaper s sh next).br = s.br := rfl
@[simp] theorem State.placeShaper_engs (s : State) (sh : Nat) (next : Nat) : (State.placeShaper s sh next).engs = s.engs := rfl
@[simp] theorem State.placeShaper_pwr (s : State) (sh : Nat) (next : Nat) : (State.placeShaper s sh next).pwr = s.pwr := rfl
@[simp] theorem State.placeShaper_vault (s : State) (sh : Nat) (next : Nat) : (State.placeShaper s sh next).vault = s.vault := rfl
@[simp] theorem State.placeShaper_otp (s : State) (sh : Nat) (next : Nat) : (State.placeShaper s sh next).otp = s.otp := rfl
@[simp] theorem State.placeShaper_rep (s : State) (sh : Nat) (next : Nat) : (State.placeShaper s sh next).rep = s.rep := rfl
@[simp] theorem State.placeShaper_usb (s : State) (sh : Nat) (next : Nat) : (State.placeShaper s sh next).usb = s.usb := rfl
@[simp] theorem State.placeShaper_smbPtr (s : State) (sh : Nat) (next : Nat) : (State.placeShaper s sh next).smbPtr = s.smbPtr := rfl
@[simp] theorem State.placeShaper_freeCtr (s : State) (sh : Nat) (next : Nat) : (State.placeShaper s sh next).freeCtr = s.freeCtr := rfl
@[simp] theorem State.placeShaper_mem (s : State) (sh : Nat) (next : Nat) : (State.placeShaper s sh next).mem = s.mem := rfl

/-! `State.mapPwr` -/

@[simp] theorem State.mapPwr_pending (s : State) (f : PwrSt → PwrSt) : (State.mapPwr s f).pending = s.pending := rfl
@[simp] theorem State.mapPwr_regs (s : State) (f : PwrSt → PwrSt) : (State.mapPwr s f).regs = s.regs := rfl
@[simp] theorem State.mapPwr_lag (s : State) (f : PwrSt → PwrSt) : (State.mapPwr s f).lag = s.lag := rfl
@[simp] theorem State.mapPwr_sig (s : State) (f : PwrSt → PwrSt) : (State.mapPwr s f).sig = s.sig := rfl
@[simp] theorem State.mapPwr_slots (s : State) (f : PwrSt → PwrSt) : (State.mapPwr s f).slots = s.slots := rfl
@[simp] theorem State.mapPwr_latch (s : State) (f : PwrSt → PwrSt) : (State.mapPwr s f).latch = s.latch := rfl
@[simp] theorem State.mapPwr_time (s : State) (f : PwrSt → PwrSt) : (State.mapPwr s f).time = s.time := rfl
@[simp] theorem State.mapPwr_sw (s : State) (f : PwrSt → PwrSt) : (State.mapPwr s f).sw = s.sw := rfl
@[simp] theorem State.mapPwr_gov (s : State) (f : PwrSt → PwrSt) : (State.mapPwr s f).gov = s.gov := rfl
@[simp] theorem State.mapPwr_pool (s : State) (f : PwrSt → PwrSt) : (State.mapPwr s f).pool = s.pool := rfl
@[simp] theorem State.mapPwr_gd (s : State) (f : PwrSt → PwrSt) : (State.mapPwr s f).gd = s.gd := rfl
@[simp] theorem State.mapPwr_port (s : State) (f : PwrSt → PwrSt) : (State.mapPwr s f).port = s.port := rfl
@[simp] theorem State.mapPwr_link (s : State) (f : PwrSt → PwrSt) : (State.mapPwr s f).link = s.link := rfl
@[simp] theorem State.mapPwr_repair (s : State) (f : PwrSt → PwrSt) : (State.mapPwr s f).repair = s.repair := rfl
@[simp] theorem State.mapPwr_pow (s : State) (f : PwrSt → PwrSt) : (State.mapPwr s f).pow = s.pow := rfl
@[simp] theorem State.mapPwr_scan (s : State) (f : PwrSt → PwrSt) : (State.mapPwr s f).scan = s.scan := rfl
@[simp] theorem State.mapPwr_br (s : State) (f : PwrSt → PwrSt) : (State.mapPwr s f).br = s.br := rfl
@[simp] theorem State.mapPwr_engs (s : State) (f : PwrSt → PwrSt) : (State.mapPwr s f).engs = s.engs := rfl
@[simp] theorem State.mapPwr_vault (s : State) (f : PwrSt → PwrSt) : (State.mapPwr s f).vault = s.vault := rfl
@[simp] theorem State.mapPwr_otp (s : State) (f : PwrSt → PwrSt) : (State.mapPwr s f).otp = s.otp := rfl
@[simp] theorem State.mapPwr_rep (s : State) (f : PwrSt → PwrSt) : (State.mapPwr s f).rep = s.rep := rfl
@[simp] theorem State.mapPwr_usb (s : State) (f : PwrSt → PwrSt) : (State.mapPwr s f).usb = s.usb := rfl
@[simp] theorem State.mapPwr_smbPtr (s : State) (f : PwrSt → PwrSt) : (State.mapPwr s f).smbPtr = s.smbPtr := rfl
@[simp] theorem State.mapPwr_freeCtr (s : State) (f : PwrSt → PwrSt) : (State.mapPwr s f).freeCtr = s.freeCtr := rfl
@[simp] theorem State.mapPwr_mem (s : State) (f : PwrSt → PwrSt) : (State.mapPwr s f).mem = s.mem := rfl

/-! `State.soTake` -/

@[simp] theorem State.soTake_pending (s : State) (n : Nat) : (State.soTake s n).pending = s.pending := rfl
@[simp] theorem State.soTake_regs (s : State) (n : Nat) : (State.soTake s n).regs = s.regs := rfl
@[simp] theorem State.soTake_sig (s : State) (n : Nat) : (State.soTake s n).sig = s.sig := rfl
@[simp] theorem State.soTake_slots (s : State) (n : Nat) : (State.soTake s n).slots = s.slots := rfl
@[simp] theorem State.soTake_latch (s : State) (n : Nat) : (State.soTake s n).latch = s.latch := rfl
@[simp] theorem State.soTake_time (s : State) (n : Nat) : (State.soTake s n).time = s.time := rfl
@[simp] theorem State.soTake_sw (s : State) (n : Nat) : (State.soTake s n).sw = s.sw := rfl
@[simp] theorem State.soTake_gov (s : State) (n : Nat) : (State.soTake s n).gov = s.gov := rfl
@[simp] theorem State.soTake_pool (s : State) (n : Nat) : (State.soTake s n).pool = s.pool := rfl
@[simp] theorem State.soTake_gd (s : State) (n : Nat) : (State.soTake s n).gd = s.gd := rfl
@[simp] theorem State.soTake_port (s : State) (n : Nat) : (State.soTake s n).port = s.port := rfl
@[simp] theorem State.soTake_link (s : State) (n : Nat) : (State.soTake s n).link = s.link := rfl
@[simp] theorem State.soTake_repair (s : State) (n : Nat) : (State.soTake s n).repair = s.repair := rfl
@[simp] theorem State.soTake_pow (s : State) (n : Nat) : (State.soTake s n).pow = s.pow := rfl
@[simp] theorem State.soTake_scan (s : State) (n : Nat) : (State.soTake s n).scan = s.scan := rfl
@[simp] theorem State.soTake_br (s : State) (n : Nat) : (State.soTake s n).br = s.br := rfl
@[simp] theorem State.soTake_engs (s : State) (n : Nat) : (State.soTake s n).engs = s.engs := rfl
@[simp] theorem State.soTake_pwr (s : State) (n : Nat) : (State.soTake s n).pwr = s.pwr := rfl
@[simp] theorem State.soTake_vault (s : State) (n : Nat) : (State.soTake s n).vault = s.vault := rfl
@[simp] theorem State.soTake_otp (s : State) (n : Nat) : (State.soTake s n).otp = s.otp := rfl
@[simp] theorem State.soTake_rep (s : State) (n : Nat) : (State.soTake s n).rep = s.rep := rfl
@[simp] theorem State.soTake_usb (s : State) (n : Nat) : (State.soTake s n).usb = s.usb := rfl
@[simp] theorem State.soTake_smbPtr (s : State) (n : Nat) : (State.soTake s n).smbPtr = s.smbPtr := rfl
@[simp] theorem State.soTake_freeCtr (s : State) (n : Nat) : (State.soTake s n).freeCtr = s.freeCtr := rfl
@[simp] theorem State.soTake_mem (s : State) (n : Nat) : (State.soTake s n).mem = s.mem := rfl

/-! `State.setEv` -/

@[simp] theorem State.setEv_pending (s : State) (ev : Nat) (r : EvRec) : (State.setEv s ev r).pending = s.pending := rfl
@[simp] theorem State.setEv_regs (s : State) (ev : Nat) (r : EvRec) : (State.setEv s ev r).regs = s.regs := rfl
@[simp] theorem State.setEv_lag (s : State) (ev : Nat) (r : EvRec) : (State.setEv s ev r).lag = s.lag := rfl
@[simp] theorem State.setEv_slots (s : State) (ev : Nat) (r : EvRec) : (State.setEv s ev r).slots = s.slots := rfl
@[simp] theorem State.setEv_latch (s : State) (ev : Nat) (r : EvRec) : (State.setEv s ev r).latch = s.latch := rfl
@[simp] theorem State.setEv_time (s : State) (ev : Nat) (r : EvRec) : (State.setEv s ev r).time = s.time := rfl
@[simp] theorem State.setEv_sw (s : State) (ev : Nat) (r : EvRec) : (State.setEv s ev r).sw = s.sw := rfl
@[simp] theorem State.setEv_gov (s : State) (ev : Nat) (r : EvRec) : (State.setEv s ev r).gov = s.gov := rfl
@[simp] theorem State.setEv_pool (s : State) (ev : Nat) (r : EvRec) : (State.setEv s ev r).pool = s.pool := rfl
@[simp] theorem State.setEv_gd (s : State) (ev : Nat) (r : EvRec) : (State.setEv s ev r).gd = s.gd := rfl
@[simp] theorem State.setEv_port (s : State) (ev : Nat) (r : EvRec) : (State.setEv s ev r).port = s.port := rfl
@[simp] theorem State.setEv_link (s : State) (ev : Nat) (r : EvRec) : (State.setEv s ev r).link = s.link := rfl
@[simp] theorem State.setEv_repair (s : State) (ev : Nat) (r : EvRec) : (State.setEv s ev r).repair = s.repair := rfl
@[simp] theorem State.setEv_pow (s : State) (ev : Nat) (r : EvRec) : (State.setEv s ev r).pow = s.pow := rfl
@[simp] theorem State.setEv_scan (s : State) (ev : Nat) (r : EvRec) : (State.setEv s ev r).scan = s.scan := rfl
@[simp] theorem State.setEv_br (s : State) (ev : Nat) (r : EvRec) : (State.setEv s ev r).br = s.br := rfl
@[simp] theorem State.setEv_engs (s : State) (ev : Nat) (r : EvRec) : (State.setEv s ev r).engs = s.engs := rfl
@[simp] theorem State.setEv_pwr (s : State) (ev : Nat) (r : EvRec) : (State.setEv s ev r).pwr = s.pwr := rfl
@[simp] theorem State.setEv_vault (s : State) (ev : Nat) (r : EvRec) : (State.setEv s ev r).vault = s.vault := rfl
@[simp] theorem State.setEv_otp (s : State) (ev : Nat) (r : EvRec) : (State.setEv s ev r).otp = s.otp := rfl
@[simp] theorem State.setEv_rep (s : State) (ev : Nat) (r : EvRec) : (State.setEv s ev r).rep = s.rep := rfl
@[simp] theorem State.setEv_usb (s : State) (ev : Nat) (r : EvRec) : (State.setEv s ev r).usb = s.usb := rfl
@[simp] theorem State.setEv_smbPtr (s : State) (ev : Nat) (r : EvRec) : (State.setEv s ev r).smbPtr = s.smbPtr := rfl
@[simp] theorem State.setEv_freeCtr (s : State) (ev : Nat) (r : EvRec) : (State.setEv s ev r).freeCtr = s.freeCtr := rfl
@[simp] theorem State.setEv_mem (s : State) (ev : Nat) (r : EvRec) : (State.setEv s ev r).mem = s.mem := rfl

/-! `State.emit` -/

@[simp] theorem State.emit_pending (s : State) (o : Out) : (State.emit s o).pending = s.pending := rfl
@[simp] theorem State.emit_regs (s : State) (o : Out) : (State.emit s o).regs = s.regs := rfl
@[simp] theorem State.emit_lag (s : State) (o : Out) : (State.emit s o).lag = s.lag := rfl
@[simp] theorem State.emit_slots (s : State) (o : Out) : (State.emit s o).slots = s.slots := rfl
@[simp] theorem State.emit_latch (s : State) (o : Out) : (State.emit s o).latch = s.latch := rfl
@[simp] theorem State.emit_time (s : State) (o : Out) : (State.emit s o).time = s.time := rfl
@[simp] theorem State.emit_sw (s : State) (o : Out) : (State.emit s o).sw = s.sw := rfl
@[simp] theorem State.emit_gov (s : State) (o : Out) : (State.emit s o).gov = s.gov := rfl
@[simp] theorem State.emit_pool (s : State) (o : Out) : (State.emit s o).pool = s.pool := rfl
@[simp] theorem State.emit_gd (s : State) (o : Out) : (State.emit s o).gd = s.gd := rfl
@[simp] theorem State.emit_port (s : State) (o : Out) : (State.emit s o).port = s.port := rfl
@[simp] theorem State.emit_link (s : State) (o : Out) : (State.emit s o).link = s.link := rfl
@[simp] theorem State.emit_repair (s : State) (o : Out) : (State.emit s o).repair = s.repair := rfl
@[simp] theorem State.emit_pow (s : State) (o : Out) : (State.emit s o).pow = s.pow := rfl
@[simp] theorem State.emit_scan (s : State) (o : Out) : (State.emit s o).scan = s.scan := rfl
@[simp] theorem State.emit_br (s : State) (o : Out) : (State.emit s o).br = s.br := rfl
@[simp] theorem State.emit_engs (s : State) (o : Out) : (State.emit s o).engs = s.engs := rfl
@[simp] theorem State.emit_pwr (s : State) (o : Out) : (State.emit s o).pwr = s.pwr := rfl
@[simp] theorem State.emit_vault (s : State) (o : Out) : (State.emit s o).vault = s.vault := rfl
@[simp] theorem State.emit_otp (s : State) (o : Out) : (State.emit s o).otp = s.otp := rfl
@[simp] theorem State.emit_rep (s : State) (o : Out) : (State.emit s o).rep = s.rep := rfl
@[simp] theorem State.emit_usb (s : State) (o : Out) : (State.emit s o).usb = s.usb := rfl
@[simp] theorem State.emit_smbPtr (s : State) (o : Out) : (State.emit s o).smbPtr = s.smbPtr := rfl
@[simp] theorem State.emit_freeCtr (s : State) (o : Out) : (State.emit s o).freeCtr = s.freeCtr := rfl
@[simp] theorem State.emit_mem (s : State) (o : Out) : (State.emit s o).mem = s.mem := rfl

/-! `State.setTgt` -/

@[simp] theorem State.setTgt_pending (s : State) (t : Nat) (r : TgtRec) : (State.setTgt s t r).pending = s.pending := rfl
@[simp] theorem State.setTgt_regs (s : State) (t : Nat) (r : TgtRec) : (State.setTgt s t r).regs = s.regs := rfl
@[simp] theorem State.setTgt_lag (s : State) (t : Nat) (r : TgtRec) : (State.setTgt s t r).lag = s.lag := rfl
@[simp] theorem State.setTgt_slots (s : State) (t : Nat) (r : TgtRec) : (State.setTgt s t r).slots = s.slots := rfl
@[simp] theorem State.setTgt_latch (s : State) (t : Nat) (r : TgtRec) : (State.setTgt s t r).latch = s.latch := rfl
@[simp] theorem State.setTgt_time (s : State) (t : Nat) (r : TgtRec) : (State.setTgt s t r).time = s.time := rfl
@[simp] theorem State.setTgt_sw (s : State) (t : Nat) (r : TgtRec) : (State.setTgt s t r).sw = s.sw := rfl
@[simp] theorem State.setTgt_gov (s : State) (t : Nat) (r : TgtRec) : (State.setTgt s t r).gov = s.gov := rfl
@[simp] theorem State.setTgt_pool (s : State) (t : Nat) (r : TgtRec) : (State.setTgt s t r).pool = s.pool := rfl
@[simp] theorem State.setTgt_gd (s : State) (t : Nat) (r : TgtRec) : (State.setTgt s t r).gd = s.gd := rfl
@[simp] theorem State.setTgt_port (s : State) (t : Nat) (r : TgtRec) : (State.setTgt s t r).port = s.port := rfl
@[simp] theorem State.setTgt_link (s : State) (t : Nat) (r : TgtRec) : (State.setTgt s t r).link = s.link := rfl
@[simp] theorem State.setTgt_repair (s : State) (t : Nat) (r : TgtRec) : (State.setTgt s t r).repair = s.repair := rfl
@[simp] theorem State.setTgt_pow (s : State) (t : Nat) (r : TgtRec) : (State.setTgt s t r).pow = s.pow := rfl
@[simp] theorem State.setTgt_scan (s : State) (t : Nat) (r : TgtRec) : (State.setTgt s t r).scan = s.scan := rfl
@[simp] theorem State.setTgt_br (s : State) (t : Nat) (r : TgtRec) : (State.setTgt s t r).br = s.br := rfl
@[simp] theorem State.setTgt_engs (s : State) (t : Nat) (r : TgtRec) : (State.setTgt s t r).engs = s.engs := rfl
@[simp] theorem State.setTgt_pwr (s : State) (t : Nat) (r : TgtRec) : (State.setTgt s t r).pwr = s.pwr := rfl
@[simp] theorem State.setTgt_vault (s : State) (t : Nat) (r : TgtRec) : (State.setTgt s t r).vault = s.vault := rfl
@[simp] theorem State.setTgt_otp (s : State) (t : Nat) (r : TgtRec) : (State.setTgt s t r).otp = s.otp := rfl
@[simp] theorem State.setTgt_rep (s : State) (t : Nat) (r : TgtRec) : (State.setTgt s t r).rep = s.rep := rfl
@[simp] theorem State.setTgt_usb (s : State) (t : Nat) (r : TgtRec) : (State.setTgt s t r).usb = s.usb := rfl
@[simp] theorem State.setTgt_smbPtr (s : State) (t : Nat) (r : TgtRec) : (State.setTgt s t r).smbPtr = s.smbPtr := rfl
@[simp] theorem State.setTgt_freeCtr (s : State) (t : Nat) (r : TgtRec) : (State.setTgt s t r).freeCtr = s.freeCtr := rfl
@[simp] theorem State.setTgt_mem (s : State) (t : Nat) (r : TgtRec) : (State.setTgt s t r).mem = s.mem := rfl

/-! `State.setPd` -/

@[simp] theorem State.setPd_pending (s : State) (n : Nat) (x : PdPort) : (State.setPd s n x).pending = s.pending := rfl
@[simp] theorem State.setPd_regs (s : State) (n : Nat) (x : PdPort) : (State.setPd s n x).regs = s.regs := rfl
@[simp] theorem State.setPd_lag (s : State) (n : Nat) (x : PdPort) : (State.setPd s n x).lag = s.lag := rfl
@[simp] theorem State.setPd_sig (s : State) (n : Nat) (x : PdPort) : (State.setPd s n x).sig = s.sig := rfl
@[simp] theorem State.setPd_slots (s : State) (n : Nat) (x : PdPort) : (State.setPd s n x).slots = s.slots := rfl
@[simp] theorem State.setPd_latch (s : State) (n : Nat) (x : PdPort) : (State.setPd s n x).latch = s.latch := rfl
@[simp] theorem State.setPd_time (s : State) (n : Nat) (x : PdPort) : (State.setPd s n x).time = s.time := rfl
@[simp] theorem State.setPd_sw (s : State) (n : Nat) (x : PdPort) : (State.setPd s n x).sw = s.sw := rfl
@[simp] theorem State.setPd_gov (s : State) (n : Nat) (x : PdPort) : (State.setPd s n x).gov = s.gov := rfl
@[simp] theorem State.setPd_pool (s : State) (n : Nat) (x : PdPort) : (State.setPd s n x).pool = s.pool := rfl
@[simp] theorem State.setPd_gd (s : State) (n : Nat) (x : PdPort) : (State.setPd s n x).gd = s.gd := rfl
@[simp] theorem State.setPd_port (s : State) (n : Nat) (x : PdPort) : (State.setPd s n x).port = s.port := rfl
@[simp] theorem State.setPd_link (s : State) (n : Nat) (x : PdPort) : (State.setPd s n x).link = s.link := rfl
@[simp] theorem State.setPd_repair (s : State) (n : Nat) (x : PdPort) : (State.setPd s n x).repair = s.repair := rfl
@[simp] theorem State.setPd_scan (s : State) (n : Nat) (x : PdPort) : (State.setPd s n x).scan = s.scan := rfl
@[simp] theorem State.setPd_br (s : State) (n : Nat) (x : PdPort) : (State.setPd s n x).br = s.br := rfl
@[simp] theorem State.setPd_engs (s : State) (n : Nat) (x : PdPort) : (State.setPd s n x).engs = s.engs := rfl
@[simp] theorem State.setPd_pwr (s : State) (n : Nat) (x : PdPort) : (State.setPd s n x).pwr = s.pwr := rfl
@[simp] theorem State.setPd_vault (s : State) (n : Nat) (x : PdPort) : (State.setPd s n x).vault = s.vault := rfl
@[simp] theorem State.setPd_otp (s : State) (n : Nat) (x : PdPort) : (State.setPd s n x).otp = s.otp := rfl
@[simp] theorem State.setPd_rep (s : State) (n : Nat) (x : PdPort) : (State.setPd s n x).rep = s.rep := rfl
@[simp] theorem State.setPd_usb (s : State) (n : Nat) (x : PdPort) : (State.setPd s n x).usb = s.usb := rfl
@[simp] theorem State.setPd_smbPtr (s : State) (n : Nat) (x : PdPort) : (State.setPd s n x).smbPtr = s.smbPtr := rfl
@[simp] theorem State.setPd_freeCtr (s : State) (n : Nat) (x : PdPort) : (State.setPd s n x).freeCtr = s.freeCtr := rfl
@[simp] theorem State.setPd_mem (s : State) (n : Nat) (x : PdPort) : (State.setPd s n x).mem = s.mem := rfl

/-! `State.mapPool` -/

@[simp] theorem State.mapPool_pending (s : State) (f : PoolSt → PoolSt) : (State.mapPool s f).pending = s.pending := rfl
@[simp] theorem State.mapPool_regs (s : State) (f : PoolSt → PoolSt) : (State.mapPool s f).regs = s.regs := rfl
@[simp] theorem State.mapPool_lag (s : State) (f : PoolSt → PoolSt) : (State.mapPool s f).lag = s.lag := rfl
@[simp] theorem State.mapPool_sig (s : State) (f : PoolSt → PoolSt) : (State.mapPool s f).sig = s.sig := rfl
@[simp] theorem State.mapPool_slots (s : State) (f : PoolSt → PoolSt) : (State.mapPool s f).slots = s.slots := rfl
@[simp] theorem State.mapPool_latch (s : State) (f : PoolSt → PoolSt) : (State.mapPool s f).latch = s.latch := rfl
@[simp] theorem State.mapPool_time (s : State) (f : PoolSt → PoolSt) : (State.mapPool s f).time = s.time := rfl
@[simp] theorem State.mapPool_sw (s : State) (f : PoolSt → PoolSt) : (State.mapPool s f).sw = s.sw := rfl
@[simp] theorem State.mapPool_gov (s : State) (f : PoolSt → PoolSt) : (State.mapPool s f).gov = s.gov := rfl
@[simp] theorem State.mapPool_gd (s : State) (f : PoolSt → PoolSt) : (State.mapPool s f).gd = s.gd := rfl
@[simp] theorem State.mapPool_port (s : State) (f : PoolSt → PoolSt) : (State.mapPool s f).port = s.port := rfl
@[simp] theorem State.mapPool_link (s : State) (f : PoolSt → PoolSt) : (State.mapPool s f).link = s.link := rfl
@[simp] theorem State.mapPool_repair (s : State) (f : PoolSt → PoolSt) : (State.mapPool s f).repair = s.repair := rfl
@[simp] theorem State.mapPool_pow (s : State) (f : PoolSt → PoolSt) : (State.mapPool s f).pow = s.pow := rfl
@[simp] theorem State.mapPool_scan (s : State) (f : PoolSt → PoolSt) : (State.mapPool s f).scan = s.scan := rfl
@[simp] theorem State.mapPool_br (s : State) (f : PoolSt → PoolSt) : (State.mapPool s f).br = s.br := rfl
@[simp] theorem State.mapPool_engs (s : State) (f : PoolSt → PoolSt) : (State.mapPool s f).engs = s.engs := rfl
@[simp] theorem State.mapPool_pwr (s : State) (f : PoolSt → PoolSt) : (State.mapPool s f).pwr = s.pwr := rfl
@[simp] theorem State.mapPool_vault (s : State) (f : PoolSt → PoolSt) : (State.mapPool s f).vault = s.vault := rfl
@[simp] theorem State.mapPool_otp (s : State) (f : PoolSt → PoolSt) : (State.mapPool s f).otp = s.otp := rfl
@[simp] theorem State.mapPool_rep (s : State) (f : PoolSt → PoolSt) : (State.mapPool s f).rep = s.rep := rfl
@[simp] theorem State.mapPool_usb (s : State) (f : PoolSt → PoolSt) : (State.mapPool s f).usb = s.usb := rfl
@[simp] theorem State.mapPool_smbPtr (s : State) (f : PoolSt → PoolSt) : (State.mapPool s f).smbPtr = s.smbPtr := rfl
@[simp] theorem State.mapPool_freeCtr (s : State) (f : PoolSt → PoolSt) : (State.mapPool s f).freeCtr = s.freeCtr := rfl
@[simp] theorem State.mapPool_mem (s : State) (f : PoolSt → PoolSt) : (State.mapPool s f).mem = s.mem := rfl



/-! `State.mapPort` -/

@[simp] theorem State.mapPort_pending (s : State) (f : PortSt → PortSt) : (State.mapPort s f).pending = s.pending := rfl
@[simp] theorem State.mapPort_regs (s : State) (f : PortSt → PortSt) : (State.mapPort s f).regs = s.regs := rfl
@[simp] theorem State.mapPort_lag (s : State) (f : PortSt → PortSt) : (State.mapPort s f).lag = s.lag := rfl
@[simp] theorem State.mapPort_sig (s : State) (f : PortSt → PortSt) : (State.mapPort s f).sig = s.sig := rfl
@[simp] theorem State.mapPort_slots (s : State) (f : PortSt → PortSt) : (State.mapPort s f).slots = s.slots := rfl
@[simp] theorem State.mapPort_latch (s : State) (f : PortSt → PortSt) : (State.mapPort s f).latch = s.latch := rfl
@[simp] theorem State.mapPort_time (s : State) (f : PortSt → PortSt) : (State.mapPort s f).time = s.time := rfl
@[simp] theorem State.mapPort_sw (s : State) (f : PortSt → PortSt) : (State.mapPort s f).sw = s.sw := rfl
@[simp] theorem State.mapPort_gov (s : State) (f : PortSt → PortSt) : (State.mapPort s f).gov = s.gov := rfl
@[simp] theorem State.mapPort_pool (s : State) (f : PortSt → PortSt) : (State.mapPort s f).pool = s.pool := rfl
@[simp] theorem State.mapPort_gd (s : State) (f : PortSt → PortSt) : (State.mapPort s f).gd = s.gd := rfl
@[simp] theorem State.mapPort_link (s : State) (f : PortSt → PortSt) : (State.mapPort s f).link = s.link := rfl
@[simp] theorem State.mapPort_repair (s : State) (f : PortSt → PortSt) : (State.mapPort s f).repair = s.repair := rfl
@[simp] theorem State.mapPort_pow (s : State) (f : PortSt → PortSt) : (State.mapPort s f).pow = s.pow := rfl
@[simp] theorem State.mapPort_scan (s : State) (f : PortSt → PortSt) : (State.mapPort s f).scan = s.scan := rfl
@[simp] theorem State.mapPort_br (s : State) (f : PortSt → PortSt) : (State.mapPort s f).br = s.br := rfl
@[simp] theorem State.mapPort_engs (s : State) (f : PortSt → PortSt) : (State.mapPort s f).engs = s.engs := rfl
@[simp] theorem State.mapPort_pwr (s : State) (f : PortSt → PortSt) : (State.mapPort s f).pwr = s.pwr := rfl
@[simp] theorem State.mapPort_vault (s : State) (f : PortSt → PortSt) : (State.mapPort s f).vault = s.vault := rfl
@[simp] theorem State.mapPort_otp (s : State) (f : PortSt → PortSt) : (State.mapPort s f).otp = s.otp := rfl
@[simp] theorem State.mapPort_rep (s : State) (f : PortSt → PortSt) : (State.mapPort s f).rep = s.rep := rfl
@[simp] theorem State.mapPort_usb (s : State) (f : PortSt → PortSt) : (State.mapPort s f).usb = s.usb := rfl
@[simp] theorem State.mapPort_smbPtr (s : State) (f : PortSt → PortSt) : (State.mapPort s f).smbPtr = s.smbPtr := rfl
@[simp] theorem State.mapPort_freeCtr (s : State) (f : PortSt → PortSt) : (State.mapPort s f).freeCtr = s.freeCtr := rfl
@[simp] theorem State.mapPort_mem (s : State) (f : PortSt → PortSt) : (State.mapPort s f).mem = s.mem := rfl

/-! `State.setSlot` -/

@[simp] theorem State.setSlot_pending (s : State) (i : Nat) (x : Slot) : (State.setSlot s i x).pending = s.pending := rfl
@[simp] theorem State.setSlot_regs (s : State) (i : Nat) (x : Slot) : (State.setSlot s i x).regs = s.regs := rfl
@[simp] theorem State.setSlot_lag (s : State) (i : Nat) (x : Slot) : (State.setSlot s i x).lag = s.lag := rfl
@[simp] theorem State.setSlot_sig (s : State) (i : Nat) (x : Slot) : (State.setSlot s i x).sig = s.sig := rfl
@[simp] theorem State.setSlot_latch (s : State) (i : Nat) (x : Slot) : (State.setSlot s i x).latch = s.latch := rfl
@[simp] theorem State.setSlot_time (s : State) (i : Nat) (x : Slot) : (State.setSlot s i x).time = s.time := rfl
@[simp] theorem State.setSlot_sw (s : State) (i : Nat) (x : Slot) : (State.setSlot s i x).sw = s.sw := rfl
@[simp] theorem State.setSlot_gov (s : State) (i : Nat) (x : Slot) : (State.setSlot s i x).gov = s.gov := rfl
@[simp] theorem State.setSlot_pool (s : State) (i : Nat) (x : Slot) : (State.setSlot s i x).pool = s.pool := rfl
@[simp] theorem State.setSlot_gd (s : State) (i : Nat) (x : Slot) : (State.setSlot s i x).gd = s.gd := rfl
@[simp] theorem State.setSlot_port (s : State) (i : Nat) (x : Slot) : (State.setSlot s i x).port = s.port := rfl
@[simp] theorem State.setSlot_link (s : State) (i : Nat) (x : Slot) : (State.setSlot s i x).link = s.link := rfl
@[simp] theorem State.setSlot_repair (s : State) (i : Nat) (x : Slot) : (State.setSlot s i x).repair = s.repair := rfl
@[simp] theorem State.setSlot_pow (s : State) (i : Nat) (x : Slot) : (State.setSlot s i x).pow = s.pow := rfl
@[simp] theorem State.setSlot_scan (s : State) (i : Nat) (x : Slot) : (State.setSlot s i x).scan = s.scan := rfl
@[simp] theorem State.setSlot_br (s : State) (i : Nat) (x : Slot) : (State.setSlot s i x).br = s.br := rfl
@[simp] theorem State.setSlot_engs (s : State) (i : Nat) (x : Slot) : (State.setSlot s i x).engs = s.engs := rfl
@[simp] theorem State.setSlot_pwr (s : State) (i : Nat) (x : Slot) : (State.setSlot s i x).pwr = s.pwr := rfl
@[simp] theorem State.setSlot_vault (s : State) (i : Nat) (x : Slot) : (State.setSlot s i x).vault = s.vault := rfl
@[simp] theorem State.setSlot_otp (s : State) (i : Nat) (x : Slot) : (State.setSlot s i x).otp = s.otp := rfl
@[simp] theorem State.setSlot_rep (s : State) (i : Nat) (x : Slot) : (State.setSlot s i x).rep = s.rep := rfl
@[simp] theorem State.setSlot_usb (s : State) (i : Nat) (x : Slot) : (State.setSlot s i x).usb = s.usb := rfl
@[simp] theorem State.setSlot_smbPtr (s : State) (i : Nat) (x : Slot) : (State.setSlot s i x).smbPtr = s.smbPtr := rfl
@[simp] theorem State.setSlot_freeCtr (s : State) (i : Nat) (x : Slot) : (State.setSlot s i x).freeCtr = s.freeCtr := rfl
@[simp] theorem State.setSlot_mem (s : State) (i : Nat) (x : Slot) : (State.setSlot s i x).mem = s.mem := rfl

/-! `State.clearStats` -/

@[simp] theorem State.clearStats_pending (s : State) (pages : List Nat) : (State.clearStats s pages).pending = s.pending := rfl
@[simp] theorem State.clearStats_regs (s : State) (pages : List Nat) : (State.clearStats s pages).regs = s.regs := rfl
@[simp] theorem State.clearStats_lag (s : State) (pages : List Nat) : (State.clearStats s pages).lag = s.lag := rfl
@[simp] theorem State.clearStats_slots (s : State) (pages : List Nat) : (State.clearStats s pages).slots = s.slots := rfl
@[simp] theorem State.clearStats_latch (s : State) (pages : List Nat) : (State.clearStats s pages).latch = s.latch := rfl
@[simp] theorem State.clearStats_time (s : State) (pages : List Nat) : (State.clearStats s pages).time = s.time := rfl
@[simp] theorem State.clearStats_sw (s : State) (pages : List Nat) : (State.clearStats s pages).sw = s.sw := rfl
@[simp] theorem State.clearStats_gov (s : State) (pages : List Nat) : (State.clearStats s pages).gov = s.gov := rfl
@[simp] theorem State.clearStats_pool (s : State) (pages : List Nat) : (State.clearStats s pages).pool = s.pool := rfl
@[simp] theorem State.clearStats_gd (s : State) (pages : List Nat) : (State.clearStats s pages).gd = s.gd := rfl
@[simp] theorem State.clearStats_port (s : State) (pages : List Nat) : (State.clearStats s pages).port = s.port := rfl
@[simp] theorem State.clearStats_link (s : State) (pages : List Nat) : (State.clearStats s pages).link = s.link := rfl
@[simp] theorem State.clearStats_repair (s : State) (pages : List Nat) : (State.clearStats s pages).repair = s.repair := rfl
@[simp] theorem State.clearStats_pow (s : State) (pages : List Nat) : (State.clearStats s pages).pow = s.pow := rfl
@[simp] theorem State.clearStats_scan (s : State) (pages : List Nat) : (State.clearStats s pages).scan = s.scan := rfl
@[simp] theorem State.clearStats_br (s : State) (pages : List Nat) : (State.clearStats s pages).br = s.br := rfl
@[simp] theorem State.clearStats_engs (s : State) (pages : List Nat) : (State.clearStats s pages).engs = s.engs := rfl
@[simp] theorem State.clearStats_pwr (s : State) (pages : List Nat) : (State.clearStats s pages).pwr = s.pwr := rfl
@[simp] theorem State.clearStats_vault (s : State) (pages : List Nat) : (State.clearStats s pages).vault = s.vault := rfl
@[simp] theorem State.clearStats_otp (s : State) (pages : List Nat) : (State.clearStats s pages).otp = s.otp := rfl
@[simp] theorem State.clearStats_rep (s : State) (pages : List Nat) : (State.clearStats s pages).rep = s.rep := rfl
@[simp] theorem State.clearStats_usb (s : State) (pages : List Nat) : (State.clearStats s pages).usb = s.usb := rfl
@[simp] theorem State.clearStats_smbPtr (s : State) (pages : List Nat) : (State.clearStats s pages).smbPtr = s.smbPtr := rfl
@[simp] theorem State.clearStats_freeCtr (s : State) (pages : List Nat) : (State.clearStats s pages).freeCtr = s.freeCtr := rfl
@[simp] theorem State.clearStats_mem (s : State) (pages : List Nat) : (State.clearStats s pages).mem = s.mem := rfl

/-! `State.setVb` -/

@[simp] theorem State.setVb_pending (s : State) (n : Nat) (x : VbPort) : (State.setVb s n x).pending = s.pending := rfl
@[simp] theorem State.setVb_regs (s : State) (n : Nat) (x : VbPort) : (State.setVb s n x).regs = s.regs := rfl
@[simp] theorem State.setVb_lag (s : State) (n : Nat) (x : VbPort) : (State.setVb s n x).lag = s.lag := rfl
@[simp] theorem State.setVb_sig (s : State) (n : Nat) (x : VbPort) : (State.setVb s n x).sig = s.sig := rfl
@[simp] theorem State.setVb_slots (s : State) (n : Nat) (x : VbPort) : (State.setVb s n x).slots = s.slots := rfl
@[simp] theorem State.setVb_latch (s : State) (n : Nat) (x : VbPort) : (State.setVb s n x).latch = s.latch := rfl
@[simp] theorem State.setVb_time (s : State) (n : Nat) (x : VbPort) : (State.setVb s n x).time = s.time := rfl
@[simp] theorem State.setVb_sw (s : State) (n : Nat) (x : VbPort) : (State.setVb s n x).sw = s.sw := rfl
@[simp] theorem State.setVb_gov (s : State) (n : Nat) (x : VbPort) : (State.setVb s n x).gov = s.gov := rfl
@[simp] theorem State.setVb_pool (s : State) (n : Nat) (x : VbPort) : (State.setVb s n x).pool = s.pool := rfl
@[simp] theorem State.setVb_gd (s : State) (n : Nat) (x : VbPort) : (State.setVb s n x).gd = s.gd := rfl
@[simp] theorem State.setVb_port (s : State) (n : Nat) (x : VbPort) : (State.setVb s n x).port = s.port := rfl
@[simp] theorem State.setVb_link (s : State) (n : Nat) (x : VbPort) : (State.setVb s n x).link = s.link := rfl
@[simp] theorem State.setVb_repair (s : State) (n : Nat) (x : VbPort) : (State.setVb s n x).repair = s.repair := rfl
@[simp] theorem State.setVb_scan (s : State) (n : Nat) (x : VbPort) : (State.setVb s n x).scan = s.scan := rfl
@[simp] theorem State.setVb_br (s : State) (n : Nat) (x : VbPort) : (State.setVb s n x).br = s.br := rfl
@[simp] theorem State.setVb_engs (s : State) (n : Nat) (x : VbPort) : (State.setVb s n x).engs = s.engs := rfl
@[simp] theorem State.setVb_pwr (s : State) (n : Nat) (x : VbPort) : (State.setVb s n x).pwr = s.pwr := rfl
@[simp] theorem State.setVb_vault (s : State) (n : Nat) (x : VbPort) : (State.setVb s n x).vault = s.vault := rfl
@[simp] theorem State.setVb_otp (s : State) (n : Nat) (x : VbPort) : (State.setVb s n x).otp = s.otp := rfl
@[simp] theorem State.setVb_rep (s : State) (n : Nat) (x : VbPort) : (State.setVb s n x).rep = s.rep := rfl
@[simp] theorem State.setVb_usb (s : State) (n : Nat) (x : VbPort) : (State.setVb s n x).usb = s.usb := rfl
@[simp] theorem State.setVb_smbPtr (s : State) (n : Nat) (x : VbPort) : (State.setVb s n x).smbPtr = s.smbPtr := rfl
@[simp] theorem State.setVb_freeCtr (s : State) (n : Nat) (x : VbPort) : (State.setVb s n x).freeCtr = s.freeCtr := rfl
@[simp] theorem State.setVb_mem (s : State) (n : Nat) (x : VbPort) : (State.setVb s n x).mem = s.mem := rfl

/-! `State.setMail` -/

@[simp] theorem State.setMail_pending (s : State) (h : Nat) (m : Mail) : (State.setMail s h m).pending = s.pending := rfl
@[simp] theorem State.setMail_regs (s : State) (h : Nat) (m : Mail) : (State.setMail s h m).regs = s.regs := rfl
@[simp] theorem State.setMail_lag (s : State) (h : Nat) (m : Mail) : (State.setMail s h m).lag = s.lag := rfl
@[simp] theorem State.setMail_slots (s : State) (h : Nat) (m : Mail) : (State.setMail s h m).slots = s.slots := rfl
@[simp] theorem State.setMail_latch (s : State) (h : Nat) (m : Mail) : (State.setMail s h m).latch = s.latch := rfl
@[simp] theorem State.setMail_time (s : State) (h : Nat) (m : Mail) : (State.setMail s h m).time = s.time := rfl
@[simp] theorem State.setMail_sw (s : State) (h : Nat) (m : Mail) : (State.setMail s h m).sw = s.sw := rfl
@[simp] theorem State.setMail_gov (s : State) (h : Nat) (m : Mail) : (State.setMail s h m).gov = s.gov := rfl
@[simp] theorem State.setMail_pool (s : State) (h : Nat) (m : Mail) : (State.setMail s h m).pool = s.pool := rfl
@[simp] theorem State.setMail_gd (s : State) (h : Nat) (m : Mail) : (State.setMail s h m).gd = s.gd := rfl
@[simp] theorem State.setMail_port (s : State) (h : Nat) (m : Mail) : (State.setMail s h m).port = s.port := rfl
@[simp] theorem State.setMail_link (s : State) (h : Nat) (m : Mail) : (State.setMail s h m).link = s.link := rfl
@[simp] theorem State.setMail_repair (s : State) (h : Nat) (m : Mail) : (State.setMail s h m).repair = s.repair := rfl
@[simp] theorem State.setMail_pow (s : State) (h : Nat) (m : Mail) : (State.setMail s h m).pow = s.pow := rfl
@[simp] theorem State.setMail_scan (s : State) (h : Nat) (m : Mail) : (State.setMail s h m).scan = s.scan := rfl
@[simp] theorem State.setMail_br (s : State) (h : Nat) (m : Mail) : (State.setMail s h m).br = s.br := rfl
@[simp] theorem State.setMail_engs (s : State) (h : Nat) (m : Mail) : (State.setMail s h m).engs = s.engs := rfl
@[simp] theorem State.setMail_pwr (s : State) (h : Nat) (m : Mail) : (State.setMail s h m).pwr = s.pwr := rfl
@[simp] theorem State.setMail_vault (s : State) (h : Nat) (m : Mail) : (State.setMail s h m).vault = s.vault := rfl
@[simp] theorem State.setMail_otp (s : State) (h : Nat) (m : Mail) : (State.setMail s h m).otp = s.otp := rfl
@[simp] theorem State.setMail_rep (s : State) (h : Nat) (m : Mail) : (State.setMail s h m).rep = s.rep := rfl
@[simp] theorem State.setMail_usb (s : State) (h : Nat) (m : Mail) : (State.setMail s h m).usb = s.usb := rfl
@[simp] theorem State.setMail_smbPtr (s : State) (h : Nat) (m : Mail) : (State.setMail s h m).smbPtr = s.smbPtr := rfl
@[simp] theorem State.setMail_freeCtr (s : State) (h : Nat) (m : Mail) : (State.setMail s h m).freeCtr = s.freeCtr := rfl
@[simp] theorem State.setMail_mem (s : State) (h : Nat) (m : Mail) : (State.setMail s h m).mem = s.mem := rfl

/-! `State.set` -/

@[simp] theorem State.set_pending (s : State) (f : Fld) (v : Nat) : (State.set s f v).pending = s.pending := rfl
@[simp] theorem State.set_lag (s : State) (f : Fld) (v : Nat) : (State.set s f v).lag = s.lag := rfl
@[simp] theorem State.set_sig (s : State) (f : Fld) (v : Nat) : (State.set s f v).sig = s.sig := rfl
@[simp] theorem State.set_slots (s : State) (f : Fld) (v : Nat) : (State.set s f v).slots = s.slots := rfl
@[simp] theorem State.set_latch (s : State) (f : Fld) (v : Nat) : (State.set s f v).latch = s.latch := rfl
@[simp] theorem State.set_time (s : State) (f : Fld) (v : Nat) : (State.set s f v).time = s.time := rfl
@[simp] theorem State.set_sw (s : State) (f : Fld) (v : Nat) : (State.set s f v).sw = s.sw := rfl
@[simp] theorem State.set_gov (s : State) (f : Fld) (v : Nat) : (State.set s f v).gov = s.gov := rfl
@[simp] theorem State.set_pool (s : State) (f : Fld) (v : Nat) : (State.set s f v).pool = s.pool := rfl
@[simp] theorem State.set_gd (s : State) (f : Fld) (v : Nat) : (State.set s f v).gd = s.gd := rfl
@[simp] theorem State.set_port (s : State) (f : Fld) (v : Nat) : (State.set s f v).port = s.port := rfl
@[simp] theorem State.set_link (s : State) (f : Fld) (v : Nat) : (State.set s f v).link = s.link := rfl
@[simp] theorem State.set_repair (s : State) (f : Fld) (v : Nat) : (State.set s f v).repair = s.repair := rfl
@[simp] theorem State.set_pow (s : State) (f : Fld) (v : Nat) : (State.set s f v).pow = s.pow := rfl
@[simp] theorem State.set_scan (s : State) (f : Fld) (v : Nat) : (State.set s f v).scan = s.scan := rfl
@[simp] theorem State.set_br (s : State) (f : Fld) (v : Nat) : (State.set s f v).br = s.br := rfl
@[simp] theorem State.set_engs (s : State) (f : Fld) (v : Nat) : (State.set s f v).engs = s.engs := rfl
@[simp] theorem State.set_pwr (s : State) (f : Fld) (v : Nat) : (State.set s f v).pwr = s.pwr := rfl
@[simp] theorem State.set_vault (s : State) (f : Fld) (v : Nat) : (State.set s f v).vault = s.vault := rfl
@[simp] theorem State.set_otp (s : State) (f : Fld) (v : Nat) : (State.set s f v).otp = s.otp := rfl
@[simp] theorem State.set_rep (s : State) (f : Fld) (v : Nat) : (State.set s f v).rep = s.rep := rfl
@[simp] theorem State.set_usb (s : State) (f : Fld) (v : Nat) : (State.set s f v).usb = s.usb := rfl
@[simp] theorem State.set_smbPtr (s : State) (f : Fld) (v : Nat) : (State.set s f v).smbPtr = s.smbPtr := rfl
@[simp] theorem State.set_freeCtr (s : State) (f : Fld) (v : Nat) : (State.set s f v).freeCtr = s.freeCtr := rfl
@[simp] theorem State.set_mem (s : State) (f : Fld) (v : Nat) : (State.set s f v).mem = s.mem := rfl

/-! `State.setEng` -/

@[simp] theorem State.setEng_pending (s : State) (n : Nat) (x : ScanEng) : (State.setEng s n x).pending = s.pending := rfl
@[simp] theorem State.setEng_regs (s : State) (n : Nat) (x : ScanEng) : (State.setEng s n x).regs = s.regs := rfl
@[simp] theorem State.setEng_lag (s : State) (n : Nat) (x : ScanEng) : (State.setEng s n x).lag = s.lag := rfl
@[simp] theorem State.setEng_sig (s : State) (n : Nat) (x : ScanEng) : (State.setEng s n x).sig = s.sig := rfl
@[simp] theorem State.setEng_slots (s : State) (n : Nat) (x : ScanEng) : (State.setEng s n x).slots = s.slots := rfl
@[simp] theorem State.setEng_latch (s : State) (n : Nat) (x : ScanEng) : (State.setEng s n x).latch = s.latch := rfl
@[simp] theorem State.setEng_time (s : State) (n : Nat) (x : ScanEng) : (State.setEng s n x).time = s.time := rfl
@[simp] theorem State.setEng_sw (s : State) (n : Nat) (x : ScanEng) : (State.setEng s n x).sw = s.sw := rfl
@[simp] theorem State.setEng_gov (s : State) (n : Nat) (x : ScanEng) : (State.setEng s n x).gov = s.gov := rfl
@[simp] theorem State.setEng_pool (s : State) (n : Nat) (x : ScanEng) : (State.setEng s n x).pool = s.pool := rfl
@[simp] theorem State.setEng_gd (s : State) (n : Nat) (x : ScanEng) : (State.setEng s n x).gd = s.gd := rfl
@[simp] theorem State.setEng_port (s : State) (n : Nat) (x : ScanEng) : (State.setEng s n x).port = s.port := rfl
@[simp] theorem State.setEng_link (s : State) (n : Nat) (x : ScanEng) : (State.setEng s n x).link = s.link := rfl
@[simp] theorem State.setEng_repair (s : State) (n : Nat) (x : ScanEng) : (State.setEng s n x).repair = s.repair := rfl
@[simp] theorem State.setEng_pow (s : State) (n : Nat) (x : ScanEng) : (State.setEng s n x).pow = s.pow := rfl
@[simp] theorem State.setEng_br (s : State) (n : Nat) (x : ScanEng) : (State.setEng s n x).br = s.br := rfl
@[simp] theorem State.setEng_engs (s : State) (n : Nat) (x : ScanEng) : (State.setEng s n x).engs = s.engs := rfl
@[simp] theorem State.setEng_pwr (s : State) (n : Nat) (x : ScanEng) : (State.setEng s n x).pwr = s.pwr := rfl
@[simp] theorem State.setEng_vault (s : State) (n : Nat) (x : ScanEng) : (State.setEng s n x).vault = s.vault := rfl
@[simp] theorem State.setEng_otp (s : State) (n : Nat) (x : ScanEng) : (State.setEng s n x).otp = s.otp := rfl
@[simp] theorem State.setEng_rep (s : State) (n : Nat) (x : ScanEng) : (State.setEng s n x).rep = s.rep := rfl
@[simp] theorem State.setEng_usb (s : State) (n : Nat) (x : ScanEng) : (State.setEng s n x).usb = s.usb := rfl
@[simp] theorem State.setEng_smbPtr (s : State) (n : Nat) (x : ScanEng) : (State.setEng s n x).smbPtr = s.smbPtr := rfl
@[simp] theorem State.setEng_freeCtr (s : State) (n : Nat) (x : ScanEng) : (State.setEng s n x).freeCtr = s.freeCtr := rfl
@[simp] theorem State.setEng_mem (s : State) (n : Nat) (x : ScanEng) : (State.setEng s n x).mem = s.mem := rfl

/-! `State.mapVault` -/

@[simp] theorem State.mapVault_pending (s : State) (f : VaultSt → VaultSt) : (State.mapVault s f).pending = s.pending := rfl
@[simp] theorem State.mapVault_regs (s : State) (f : VaultSt → VaultSt) : (State.mapVault s f).regs = s.regs := rfl
@[simp] theorem State.mapVault_lag (s : State) (f : VaultSt → VaultSt) : (State.mapVault s f).lag = s.lag := rfl
@[simp] theorem State.mapVault_sig (s : State) (f : VaultSt → VaultSt) : (State.mapVault s f).sig = s.sig := rfl
@[simp] theorem State.mapVault_slots (s : State) (f : VaultSt → VaultSt) : (State.mapVault s f).slots = s.slots := rfl
@[simp] theorem State.mapVault_latch (s : State) (f : VaultSt → VaultSt) : (State.mapVault s f).latch = s.latch := rfl
@[simp] theorem State.mapVault_time (s : State) (f : VaultSt → VaultSt) : (State.mapVault s f).time = s.time := rfl
@[simp] theorem State.mapVault_sw (s : State) (f : VaultSt → VaultSt) : (State.mapVault s f).sw = s.sw := rfl
@[simp] theorem State.mapVault_gov (s : State) (f : VaultSt → VaultSt) : (State.mapVault s f).gov = s.gov := rfl
@[simp] theorem State.mapVault_pool (s : State) (f : VaultSt → VaultSt) : (State.mapVault s f).pool = s.pool := rfl
@[simp] theorem State.mapVault_gd (s : State) (f : VaultSt → VaultSt) : (State.mapVault s f).gd = s.gd := rfl
@[simp] theorem State.mapVault_port (s : State) (f : VaultSt → VaultSt) : (State.mapVault s f).port = s.port := rfl
@[simp] theorem State.mapVault_link (s : State) (f : VaultSt → VaultSt) : (State.mapVault s f).link = s.link := rfl
@[simp] theorem State.mapVault_repair (s : State) (f : VaultSt → VaultSt) : (State.mapVault s f).repair = s.repair := rfl
@[simp] theorem State.mapVault_pow (s : State) (f : VaultSt → VaultSt) : (State.mapVault s f).pow = s.pow := rfl
@[simp] theorem State.mapVault_scan (s : State) (f : VaultSt → VaultSt) : (State.mapVault s f).scan = s.scan := rfl
@[simp] theorem State.mapVault_br (s : State) (f : VaultSt → VaultSt) : (State.mapVault s f).br = s.br := rfl
@[simp] theorem State.mapVault_engs (s : State) (f : VaultSt → VaultSt) : (State.mapVault s f).engs = s.engs := rfl
@[simp] theorem State.mapVault_pwr (s : State) (f : VaultSt → VaultSt) : (State.mapVault s f).pwr = s.pwr := rfl
@[simp] theorem State.mapVault_otp (s : State) (f : VaultSt → VaultSt) : (State.mapVault s f).otp = s.otp := rfl
@[simp] theorem State.mapVault_rep (s : State) (f : VaultSt → VaultSt) : (State.mapVault s f).rep = s.rep := rfl
@[simp] theorem State.mapVault_usb (s : State) (f : VaultSt → VaultSt) : (State.mapVault s f).usb = s.usb := rfl
@[simp] theorem State.mapVault_smbPtr (s : State) (f : VaultSt → VaultSt) : (State.mapVault s f).smbPtr = s.smbPtr := rfl
@[simp] theorem State.mapVault_freeCtr (s : State) (f : VaultSt → VaultSt) : (State.mapVault s f).freeCtr = s.freeCtr := rfl
@[simp] theorem State.mapVault_mem (s : State) (f : VaultSt → VaultSt) : (State.mapVault s f).mem = s.mem := rfl

/-! `State.setEngWord` -/

@[simp] theorem State.setEngWord_pending (s : State) (e : Nat) (space : Nat) (off : Nat) (v : Nat) : (State.setEngWord s e space off v).pending = s.pending := rfl
@[simp] theorem State.setEngWord_regs (s : State) (e : Nat) (space : Nat) (off : Nat) (v : Nat) : (State.setEngWord s e space off v).regs = s.regs := rfl
@[simp] theorem State.setEngWord_lag (s : State) (e : Nat) (space : Nat) (off : Nat) (v : Nat) : (State.setEngWord s e space off v).lag = s.lag := rfl
@[simp] theorem State.setEngWord_sig (s : State) (e : Nat) (space : Nat) (off : Nat) (v : Nat) : (State.setEngWord s e space off v).sig = s.sig := rfl
@[simp] theorem State.setEngWord_slots (s : State) (e : Nat) (space : Nat) (off : Nat) (v : Nat) : (State.setEngWord s e space off v).slots = s.slots := rfl
@[simp] theorem State.setEngWord_latch (s : State) (e : Nat) (space : Nat) (off : Nat) (v : Nat) : (State.setEngWord s e space off v).latch = s.latch := rfl
@[simp] theorem State.setEngWord_time (s : State) (e : Nat) (space : Nat) (off : Nat) (v : Nat) : (State.setEngWord s e space off v).time = s.time := rfl
@[simp] theorem State.setEngWord_sw (s : State) (e : Nat) (space : Nat) (off : Nat) (v : Nat) : (State.setEngWord s e space off v).sw = s.sw := rfl
@[simp] theorem State.setEngWord_gov (s : State) (e : Nat) (space : Nat) (off : Nat) (v : Nat) : (State.setEngWord s e space off v).gov = s.gov := rfl
@[simp] theorem State.setEngWord_pool (s : State) (e : Nat) (space : Nat) (off : Nat) (v : Nat) : (State.setEngWord s e space off v).pool = s.pool := rfl
@[simp] theorem State.setEngWord_gd (s : State) (e : Nat) (space : Nat) (off : Nat) (v : Nat) : (State.setEngWord s e space off v).gd = s.gd := rfl
@[simp] theorem State.setEngWord_port (s : State) (e : Nat) (space : Nat) (off : Nat) (v : Nat) : (State.setEngWord s e space off v).port = s.port := rfl
@[simp] theorem State.setEngWord_link (s : State) (e : Nat) (space : Nat) (off : Nat) (v : Nat) : (State.setEngWord s e space off v).link = s.link := rfl
@[simp] theorem State.setEngWord_repair (s : State) (e : Nat) (space : Nat) (off : Nat) (v : Nat) : (State.setEngWord s e space off v).repair = s.repair := rfl
@[simp] theorem State.setEngWord_pow (s : State) (e : Nat) (space : Nat) (off : Nat) (v : Nat) : (State.setEngWord s e space off v).pow = s.pow := rfl
@[simp] theorem State.setEngWord_scan (s : State) (e : Nat) (space : Nat) (off : Nat) (v : Nat) : (State.setEngWord s e space off v).scan = s.scan := rfl
@[simp] theorem State.setEngWord_br (s : State) (e : Nat) (space : Nat) (off : Nat) (v : Nat) : (State.setEngWord s e space off v).br = s.br := rfl
@[simp] theorem State.setEngWord_engs (s : State) (e : Nat) (space : Nat) (off : Nat) (v : Nat) : (State.setEngWord s e space off v).engs = s.engs := rfl
@[simp] theorem State.setEngWord_pwr (s : State) (e : Nat) (space : Nat) (off : Nat) (v : Nat) : (State.setEngWord s e space off v).pwr = s.pwr := rfl
@[simp] theorem State.setEngWord_vault (s : State) (e : Nat) (space : Nat) (off : Nat) (v : Nat) : (State.setEngWord s e space off v).vault = s.vault := rfl
@[simp] theorem State.setEngWord_otp (s : State) (e : Nat) (space : Nat) (off : Nat) (v : Nat) : (State.setEngWord s e space off v).otp = s.otp := rfl
@[simp] theorem State.setEngWord_rep (s : State) (e : Nat) (space : Nat) (off : Nat) (v : Nat) : (State.setEngWord s e space off v).rep = s.rep := rfl
@[simp] theorem State.setEngWord_usb (s : State) (e : Nat) (space : Nat) (off : Nat) (v : Nat) : (State.setEngWord s e space off v).usb = s.usb := rfl
@[simp] theorem State.setEngWord_smbPtr (s : State) (e : Nat) (space : Nat) (off : Nat) (v : Nat) : (State.setEngWord s e space off v).smbPtr = s.smbPtr := rfl
@[simp] theorem State.setEngWord_freeCtr (s : State) (e : Nat) (space : Nat) (off : Nat) (v : Nat) : (State.setEngWord s e space off v).freeCtr = s.freeCtr := rfl

/-! `State.mapRep` -/

@[simp] theorem State.mapRep_pending (s : State) (f : RepSt → RepSt) : (State.mapRep s f).pending = s.pending := rfl
@[simp] theorem State.mapRep_regs (s : State) (f : RepSt → RepSt) : (State.mapRep s f).regs = s.regs := rfl
@[simp] theorem State.mapRep_lag (s : State) (f : RepSt → RepSt) : (State.mapRep s f).lag = s.lag := rfl
@[simp] theorem State.mapRep_sig (s : State) (f : RepSt → RepSt) : (State.mapRep s f).sig = s.sig := rfl
@[simp] theorem State.mapRep_slots (s : State) (f : RepSt → RepSt) : (State.mapRep s f).slots = s.slots := rfl
@[simp] theorem State.mapRep_latch (s : State) (f : RepSt → RepSt) : (State.mapRep s f).latch = s.latch := rfl
@[simp] theorem State.mapRep_time (s : State) (f : RepSt → RepSt) : (State.mapRep s f).time = s.time := rfl
@[simp] theorem State.mapRep_sw (s : State) (f : RepSt → RepSt) : (State.mapRep s f).sw = s.sw := rfl
@[simp] theorem State.mapRep_gov (s : State) (f : RepSt → RepSt) : (State.mapRep s f).gov = s.gov := rfl
@[simp] theorem State.mapRep_pool (s : State) (f : RepSt → RepSt) : (State.mapRep s f).pool = s.pool := rfl
@[simp] theorem State.mapRep_gd (s : State) (f : RepSt → RepSt) : (State.mapRep s f).gd = s.gd := rfl
@[simp] theorem State.mapRep_port (s : State) (f : RepSt → RepSt) : (State.mapRep s f).port = s.port := rfl
@[simp] theorem State.mapRep_link (s : State) (f : RepSt → RepSt) : (State.mapRep s f).link = s.link := rfl
@[simp] theorem State.mapRep_repair (s : State) (f : RepSt → RepSt) : (State.mapRep s f).repair = s.repair := rfl
@[simp] theorem State.mapRep_pow (s : State) (f : RepSt → RepSt) : (State.mapRep s f).pow = s.pow := rfl
@[simp] theorem State.mapRep_scan (s : State) (f : RepSt → RepSt) : (State.mapRep s f).scan = s.scan := rfl
@[simp] theorem State.mapRep_br (s : State) (f : RepSt → RepSt) : (State.mapRep s f).br = s.br := rfl
@[simp] theorem State.mapRep_engs (s : State) (f : RepSt → RepSt) : (State.mapRep s f).engs = s.engs := rfl
@[simp] theorem State.mapRep_pwr (s : State) (f : RepSt → RepSt) : (State.mapRep s f).pwr = s.pwr := rfl
@[simp] theorem State.mapRep_vault (s : State) (f : RepSt → RepSt) : (State.mapRep s f).vault = s.vault := rfl
@[simp] theorem State.mapRep_otp (s : State) (f : RepSt → RepSt) : (State.mapRep s f).otp = s.otp := rfl
@[simp] theorem State.mapRep_usb (s : State) (f : RepSt → RepSt) : (State.mapRep s f).usb = s.usb := rfl
@[simp] theorem State.mapRep_smbPtr (s : State) (f : RepSt → RepSt) : (State.mapRep s f).smbPtr = s.smbPtr := rfl
@[simp] theorem State.mapRep_freeCtr (s : State) (f : RepSt → RepSt) : (State.mapRep s f).freeCtr = s.freeCtr := rfl
@[simp] theorem State.mapRep_mem (s : State) (f : RepSt → RepSt) : (State.mapRep s f).mem = s.mem := rfl

/-! `State.clearCounted` -/

@[simp] theorem State.clearCounted_pending (s : State) : (State.clearCounted s).pending = s.pending := rfl
@[simp] theorem State.clearCounted_regs (s : State) : (State.clearCounted s).regs = s.regs := rfl
@[simp] theorem State.clearCounted_lag (s : State) : (State.clearCounted s).lag = s.lag := rfl
@[simp] theorem State.clearCounted_sig (s : State) : (State.clearCounted s).sig = s.sig := rfl
@[simp] theorem State.clearCounted_slots (s : State) : (State.clearCounted s).slots = s.slots := rfl
@[simp] theorem State.clearCounted_latch (s : State) : (State.clearCounted s).latch = s.latch := rfl
@[simp] theorem State.clearCounted_sw (s : State) : (State.clearCounted s).sw = s.sw := rfl
@[simp] theorem State.clearCounted_gov (s : State) : (State.clearCounted s).gov = s.gov := rfl
@[simp] theorem State.clearCounted_pool (s : State) : (State.clearCounted s).pool = s.pool := rfl
@[simp] theorem State.clearCounted_gd (s : State) : (State.clearCounted s).gd = s.gd := rfl
@[simp] theorem State.clearCounted_port (s : State) : (State.clearCounted s).port = s.port := rfl
@[simp] theorem State.clearCounted_link (s : State) : (State.clearCounted s).link = s.link := rfl
@[simp] theorem State.clearCounted_repair (s : State) : (State.clearCounted s).repair = s.repair := rfl
@[simp] theorem State.clearCounted_pow (s : State) : (State.clearCounted s).pow = s.pow := rfl
@[simp] theorem State.clearCounted_scan (s : State) : (State.clearCounted s).scan = s.scan := rfl
@[simp] theorem State.clearCounted_br (s : State) : (State.clearCounted s).br = s.br := rfl
@[simp] theorem State.clearCounted_engs (s : State) : (State.clearCounted s).engs = s.engs := rfl
@[simp] theorem State.clearCounted_pwr (s : State) : (State.clearCounted s).pwr = s.pwr := rfl
@[simp] theorem State.clearCounted_vault (s : State) : (State.clearCounted s).vault = s.vault := rfl
@[simp] theorem State.clearCounted_otp (s : State) : (State.clearCounted s).otp = s.otp := rfl
@[simp] theorem State.clearCounted_rep (s : State) : (State.clearCounted s).rep = s.rep := rfl
@[simp] theorem State.clearCounted_usb (s : State) : (State.clearCounted s).usb = s.usb := rfl
@[simp] theorem State.clearCounted_smbPtr (s : State) : (State.clearCounted s).smbPtr = s.smbPtr := rfl
@[simp] theorem State.clearCounted_freeCtr (s : State) : (State.clearCounted s).freeCtr = s.freeCtr := rfl
@[simp] theorem State.clearCounted_mem (s : State) : (State.clearCounted s).mem = s.mem := rfl

/-! `State.mapLinks` -/

@[simp] theorem State.mapLinks_pending (s : State) (f : LinkSt → LinkSt) : (State.mapLinks s f).pending = s.pending := rfl
@[simp] theorem State.mapLinks_regs (s : State) (f : LinkSt → LinkSt) : (State.mapLinks s f).regs = s.regs := rfl
@[simp] theorem State.mapLinks_lag (s : State) (f : LinkSt → LinkSt) : (State.mapLinks s f).lag = s.lag := rfl
@[simp] theorem State.mapLinks_sig (s : State) (f : LinkSt → LinkSt) : (State.mapLinks s f).sig = s.sig := rfl
@[simp] theorem State.mapLinks_slots (s : State) (f : LinkSt → LinkSt) : (State.mapLinks s f).slots = s.slots := rfl
@[simp] theorem State.mapLinks_latch (s : State) (f : LinkSt → LinkSt) : (State.mapLinks s f).latch = s.latch := rfl
@[simp] theorem State.mapLinks_time (s : State) (f : LinkSt → LinkSt) : (State.mapLinks s f).time = s.time := rfl
@[simp] theorem State.mapLinks_sw (s : State) (f : LinkSt → LinkSt) : (State.mapLinks s f).sw = s.sw := rfl
@[simp] theorem State.mapLinks_gov (s : State) (f : LinkSt → LinkSt) : (State.mapLinks s f).gov = s.gov := rfl
@[simp] theorem State.mapLinks_pool (s : State) (f : LinkSt → LinkSt) : (State.mapLinks s f).pool = s.pool := rfl
@[simp] theorem State.mapLinks_gd (s : State) (f : LinkSt → LinkSt) : (State.mapLinks s f).gd = s.gd := rfl
@[simp] theorem State.mapLinks_port (s : State) (f : LinkSt → LinkSt) : (State.mapLinks s f).port = s.port := rfl
@[simp] theorem State.mapLinks_repair (s : State) (f : LinkSt → LinkSt) : (State.mapLinks s f).repair = s.repair := rfl
@[simp] theorem State.mapLinks_pow (s : State) (f : LinkSt → LinkSt) : (State.mapLinks s f).pow = s.pow := rfl
@[simp] theorem State.mapLinks_scan (s : State) (f : LinkSt → LinkSt) : (State.mapLinks s f).scan = s.scan := rfl
@[simp] theorem State.mapLinks_br (s : State) (f : LinkSt → LinkSt) : (State.mapLinks s f).br = s.br := rfl
@[simp] theorem State.mapLinks_engs (s : State) (f : LinkSt → LinkSt) : (State.mapLinks s f).engs = s.engs := rfl
@[simp] theorem State.mapLinks_pwr (s : State) (f : LinkSt → LinkSt) : (State.mapLinks s f).pwr = s.pwr := rfl
@[simp] theorem State.mapLinks_vault (s : State) (f : LinkSt → LinkSt) : (State.mapLinks s f).vault = s.vault := rfl
@[simp] theorem State.mapLinks_otp (s : State) (f : LinkSt → LinkSt) : (State.mapLinks s f).otp = s.otp := rfl
@[simp] theorem State.mapLinks_rep (s : State) (f : LinkSt → LinkSt) : (State.mapLinks s f).rep = s.rep := rfl
@[simp] theorem State.mapLinks_usb (s : State) (f : LinkSt → LinkSt) : (State.mapLinks s f).usb = s.usb := rfl
@[simp] theorem State.mapLinks_smbPtr (s : State) (f : LinkSt → LinkSt) : (State.mapLinks s f).smbPtr = s.smbPtr := rfl
@[simp] theorem State.mapLinks_freeCtr (s : State) (f : LinkSt → LinkSt) : (State.mapLinks s f).freeCtr = s.freeCtr := rfl
@[simp] theorem State.mapLinks_mem (s : State) (f : LinkSt → LinkSt) : (State.mapLinks s f).mem = s.mem := rfl

/-! `State.setTrig` -/

@[simp] theorem State.setTrig_pending (s : State) (n : Nat) (x : Trig) : (State.setTrig s n x).pending = s.pending := rfl
@[simp] theorem State.setTrig_regs (s : State) (n : Nat) (x : Trig) : (State.setTrig s n x).regs = s.regs := rfl
@[simp] theorem State.setTrig_lag (s : State) (n : Nat) (x : Trig) : (State.setTrig s n x).lag = s.lag := rfl
@[simp] theorem State.setTrig_sig (s : State) (n : Nat) (x : Trig) : (State.setTrig s n x).sig = s.sig := rfl
@[simp] theorem State.setTrig_slots (s : State) (n : Nat) (x : Trig) : (State.setTrig s n x).slots = s.slots := rfl
@[simp] theorem State.setTrig_latch (s : State) (n : Nat) (x : Trig) : (State.setTrig s n x).latch = s.latch := rfl
@[simp] theorem State.setTrig_sw (s : State) (n : Nat) (x : Trig) : (State.setTrig s n x).sw = s.sw := rfl
@[simp] theorem State.setTrig_gov (s : State) (n : Nat) (x : Trig) : (State.setTrig s n x).gov = s.gov := rfl
@[simp] theorem State.setTrig_pool (s : State) (n : Nat) (x : Trig) : (State.setTrig s n x).pool = s.pool := rfl
@[simp] theorem State.setTrig_gd (s : State) (n : Nat) (x : Trig) : (State.setTrig s n x).gd = s.gd := rfl
@[simp] theorem State.setTrig_port (s : State) (n : Nat) (x : Trig) : (State.setTrig s n x).port = s.port := rfl
@[simp] theorem State.setTrig_link (s : State) (n : Nat) (x : Trig) : (State.setTrig s n x).link = s.link := rfl
@[simp] theorem State.setTrig_repair (s : State) (n : Nat) (x : Trig) : (State.setTrig s n x).repair = s.repair := rfl
@[simp] theorem State.setTrig_pow (s : State) (n : Nat) (x : Trig) : (State.setTrig s n x).pow = s.pow := rfl
@[simp] theorem State.setTrig_scan (s : State) (n : Nat) (x : Trig) : (State.setTrig s n x).scan = s.scan := rfl
@[simp] theorem State.setTrig_br (s : State) (n : Nat) (x : Trig) : (State.setTrig s n x).br = s.br := rfl
@[simp] theorem State.setTrig_engs (s : State) (n : Nat) (x : Trig) : (State.setTrig s n x).engs = s.engs := rfl
@[simp] theorem State.setTrig_pwr (s : State) (n : Nat) (x : Trig) : (State.setTrig s n x).pwr = s.pwr := rfl
@[simp] theorem State.setTrig_vault (s : State) (n : Nat) (x : Trig) : (State.setTrig s n x).vault = s.vault := rfl
@[simp] theorem State.setTrig_otp (s : State) (n : Nat) (x : Trig) : (State.setTrig s n x).otp = s.otp := rfl
@[simp] theorem State.setTrig_rep (s : State) (n : Nat) (x : Trig) : (State.setTrig s n x).rep = s.rep := rfl
@[simp] theorem State.setTrig_usb (s : State) (n : Nat) (x : Trig) : (State.setTrig s n x).usb = s.usb := rfl
@[simp] theorem State.setTrig_smbPtr (s : State) (n : Nat) (x : Trig) : (State.setTrig s n x).smbPtr = s.smbPtr := rfl
@[simp] theorem State.setTrig_freeCtr (s : State) (n : Nat) (x : Trig) : (State.setTrig s n x).freeCtr = s.freeCtr := rfl
@[simp] theorem State.setTrig_mem (s : State) (n : Nat) (x : Trig) : (State.setTrig s n x).mem = s.mem := rfl

/-! `State.setRepair` -/

@[simp] theorem State.setRepair_pending (s : State) (l : List RepEntry) : (State.setRepair s l).pending = s.pending := rfl
@[simp] theorem State.setRepair_regs (s : State) (l : List RepEntry) : (State.setRepair s l).regs = s.regs := rfl
@[simp] theorem State.setRepair_lag (s : State) (l : List RepEntry) : (State.setRepair s l).lag = s.lag := rfl
@[simp] theorem State.setRepair_sig (s : State) (l : List RepEntry) : (State.setRepair s l).sig = s.sig := rfl
@[simp] theorem State.setRepair_slots (s : State) (l : List RepEntry) : (State.setRepair s l).slots = s.slots := rfl
@[simp] theorem State.setRepair_latch (s : State) (l : List RepEntry) : (State.setRepair s l).latch = s.latch := rfl
@[simp] theorem State.setRepair_time (s : State) (l : List RepEntry) : (State.setRepair s l).time = s.time := rfl
@[simp] theorem State.setRepair_sw (s : State) (l : List RepEntry) : (State.setRepair s l).sw = s.sw := rfl
@[simp] theorem State.setRepair_gov (s : State) (l : List RepEntry) : (State.setRepair s l).gov = s.gov := rfl
@[simp] theorem State.setRepair_pool (s : State) (l : List RepEntry) : (State.setRepair s l).pool = s.pool := rfl
@[simp] theorem State.setRepair_gd (s : State) (l : List RepEntry) : (State.setRepair s l).gd = s.gd := rfl
@[simp] theorem State.setRepair_port (s : State) (l : List RepEntry) : (State.setRepair s l).port = s.port := rfl
@[simp] theorem State.setRepair_link (s : State) (l : List RepEntry) : (State.setRepair s l).link = s.link := rfl
@[simp] theorem State.setRepair_pow (s : State) (l : List RepEntry) : (State.setRepair s l).pow = s.pow := rfl
@[simp] theorem State.setRepair_scan (s : State) (l : List RepEntry) : (State.setRepair s l).scan = s.scan := rfl
@[simp] theorem State.setRepair_br (s : State) (l : List RepEntry) : (State.setRepair s l).br = s.br := rfl
@[simp] theorem State.setRepair_engs (s : State) (l : List RepEntry) : (State.setRepair s l).engs = s.engs := rfl
@[simp] theorem State.setRepair_pwr (s : State) (l : List RepEntry) : (State.setRepair s l).pwr = s.pwr := rfl
@[simp] theorem State.setRepair_vault (s : State) (l : List RepEntry) : (State.setRepair s l).vault = s.vault := rfl
@[simp] theorem State.setRepair_otp (s : State) (l : List RepEntry) : (State.setRepair s l).otp = s.otp := rfl
@[simp] theorem State.setRepair_rep (s : State) (l : List RepEntry) : (State.setRepair s l).rep = s.rep := rfl
@[simp] theorem State.setRepair_usb (s : State) (l : List RepEntry) : (State.setRepair s l).usb = s.usb := rfl
@[simp] theorem State.setRepair_smbPtr (s : State) (l : List RepEntry) : (State.setRepair s l).smbPtr = s.smbPtr := rfl
@[simp] theorem State.setRepair_freeCtr (s : State) (l : List RepEntry) : (State.setRepair s l).freeCtr = s.freeCtr := rfl
@[simp] theorem State.setRepair_mem (s : State) (l : List RepEntry) : (State.setRepair s l).mem = s.mem := rfl

/-! `State.clearMem` -/

@[simp] theorem State.clearMem_pending (s : State) (e : Nat) : (State.clearMem s e).pending = s.pending := rfl
@[simp] theorem State.clearMem_regs (s : State) (e : Nat) : (State.clearMem s e).regs = s.regs := rfl
@[simp] theorem State.clearMem_lag (s : State) (e : Nat) : (State.clearMem s e).lag = s.lag := rfl
@[simp] theorem State.clearMem_sig (s : State) (e : Nat) : (State.clearMem s e).sig = s.sig := rfl
@[simp] theorem State.clearMem_slots (s : State) (e : Nat) : (State.clearMem s e).slots = s.slots := rfl
@[simp] theorem State.clearMem_latch (s : State) (e : Nat) : (State.clearMem s e).latch = s.latch := rfl
@[simp] theorem State.clearMem_time (s : State) (e : Nat) : (State.clearMem s e).time = s.time := rfl
@[simp] theorem State.clearMem_sw (s : State) (e : Nat) : (State.clearMem s e).sw = s.sw := rfl
@[simp] theorem State.clearMem_gov (s : State) (e : Nat) : (State.clearMem s e).gov = s.gov := rfl
@[simp] theorem State.clearMem_pool (s : State) (e : Nat) : (State.clearMem s e).pool = s.pool := rfl
@[simp] theorem State.clearMem_gd (s : State) (e : Nat) : (State.clearMem s e).gd = s.gd := rfl
@[simp] theorem State.clearMem_port (s : State) (e : Nat) : (State.clearMem s e).port = s.port := rfl
@[simp] theorem State.clearMem_link (s : State) (e : Nat) : (State.clearMem s e).link = s.link := rfl
@[simp] theorem State.clearMem_repair (s : State) (e : Nat) : (State.clearMem s e).repair = s.repair := rfl
@[simp] theorem State.clearMem_pow (s : State) (e : Nat) : (State.clearMem s e).pow = s.pow := rfl
@[simp] theorem State.clearMem_scan (s : State) (e : Nat) : (State.clearMem s e).scan = s.scan := rfl
@[simp] theorem State.clearMem_br (s : State) (e : Nat) : (State.clearMem s e).br = s.br := rfl
@[simp] theorem State.clearMem_engs (s : State) (e : Nat) : (State.clearMem s e).engs = s.engs := rfl
@[simp] theorem State.clearMem_pwr (s : State) (e : Nat) : (State.clearMem s e).pwr = s.pwr := rfl
@[simp] theorem State.clearMem_vault (s : State) (e : Nat) : (State.clearMem s e).vault = s.vault := rfl
@[simp] theorem State.clearMem_otp (s : State) (e : Nat) : (State.clearMem s e).otp = s.otp := rfl
@[simp] theorem State.clearMem_rep (s : State) (e : Nat) : (State.clearMem s e).rep = s.rep := rfl
@[simp] theorem State.clearMem_usb (s : State) (e : Nat) : (State.clearMem s e).usb = s.usb := rfl
@[simp] theorem State.clearMem_smbPtr (s : State) (e : Nat) : (State.clearMem s e).smbPtr = s.smbPtr := rfl
@[simp] theorem State.clearMem_freeCtr (s : State) (e : Nat) : (State.clearMem s e).freeCtr = s.freeCtr := rfl

/-! `State.dropShared` -/

@[simp] theorem State.dropShared_pending (s : State) (n : Nat) : (State.dropShared s n).pending = s.pending := rfl
@[simp] theorem State.dropShared_regs (s : State) (n : Nat) : (State.dropShared s n).regs = s.regs := rfl
@[simp] theorem State.dropShared_lag (s : State) (n : Nat) : (State.dropShared s n).lag = s.lag := rfl
@[simp] theorem State.dropShared_sig (s : State) (n : Nat) : (State.dropShared s n).sig = s.sig := rfl
@[simp] theorem State.dropShared_slots (s : State) (n : Nat) : (State.dropShared s n).slots = s.slots := rfl
@[simp] theorem State.dropShared_latch (s : State) (n : Nat) : (State.dropShared s n).latch = s.latch := rfl
@[simp] theorem State.dropShared_time (s : State) (n : Nat) : (State.dropShared s n).time = s.time := rfl
@[simp] theorem State.dropShared_gov (s : State) (n : Nat) : (State.dropShared s n).gov = s.gov := rfl
@[simp] theorem State.dropShared_pool (s : State) (n : Nat) : (State.dropShared s n).pool = s.pool := rfl
@[simp] theorem State.dropShared_gd (s : State) (n : Nat) : (State.dropShared s n).gd = s.gd := rfl
@[simp] theorem State.dropShared_port (s : State) (n : Nat) : (State.dropShared s n).port = s.port := rfl
@[simp] theorem State.dropShared_link (s : State) (n : Nat) : (State.dropShared s n).link = s.link := rfl
@[simp] theorem State.dropShared_repair (s : State) (n : Nat) : (State.dropShared s n).repair = s.repair := rfl
@[simp] theorem State.dropShared_pow (s : State) (n : Nat) : (State.dropShared s n).pow = s.pow := rfl
@[simp] theorem State.dropShared_scan (s : State) (n : Nat) : (State.dropShared s n).scan = s.scan := rfl
@[simp] theorem State.dropShared_br (s : State) (n : Nat) : (State.dropShared s n).br = s.br := rfl
@[simp] theorem State.dropShared_engs (s : State) (n : Nat) : (State.dropShared s n).engs = s.engs := rfl
@[simp] theorem State.dropShared_pwr (s : State) (n : Nat) : (State.dropShared s n).pwr = s.pwr := rfl
@[simp] theorem State.dropShared_vault (s : State) (n : Nat) : (State.dropShared s n).vault = s.vault := rfl
@[simp] theorem State.dropShared_otp (s : State) (n : Nat) : (State.dropShared s n).otp = s.otp := rfl
@[simp] theorem State.dropShared_rep (s : State) (n : Nat) : (State.dropShared s n).rep = s.rep := rfl
@[simp] theorem State.dropShared_usb (s : State) (n : Nat) : (State.dropShared s n).usb = s.usb := rfl
@[simp] theorem State.dropShared_smbPtr (s : State) (n : Nat) : (State.dropShared s n).smbPtr = s.smbPtr := rfl
@[simp] theorem State.dropShared_freeCtr (s : State) (n : Nat) : (State.dropShared s n).freeCtr = s.freeCtr := rfl
@[simp] theorem State.dropShared_mem (s : State) (n : Nat) : (State.dropShared s n).mem = s.mem := rfl

/-! `State.setSync` -/

@[simp] theorem State.setSync_pending (s : State) (m : Nat) (x : SyncIn) : (State.setSync s m x).pending = s.pending := rfl
@[simp] theorem State.setSync_regs (s : State) (m : Nat) (x : SyncIn) : (State.setSync s m x).regs = s.regs := rfl
@[simp] theorem State.setSync_lag (s : State) (m : Nat) (x : SyncIn) : (State.setSync s m x).lag = s.lag := rfl
@[simp] theorem State.setSync_sig (s : State) (m : Nat) (x : SyncIn) : (State.setSync s m x).sig = s.sig := rfl
@[simp] theorem State.setSync_slots (s : State) (m : Nat) (x : SyncIn) : (State.setSync s m x).slots = s.slots := rfl
@[simp] theorem State.setSync_latch (s : State) (m : Nat) (x : SyncIn) : (State.setSync s m x).latch = s.latch := rfl
@[simp] theorem State.setSync_sw (s : State) (m : Nat) (x : SyncIn) : (State.setSync s m x).sw = s.sw := rfl
@[simp] theorem State.setSync_gov (s : State) (m : Nat) (x : SyncIn) : (State.setSync s m x).gov = s.gov := rfl
@[simp] theorem State.setSync_pool (s : State) (m : Nat) (x : SyncIn) : (State.setSync s m x).pool = s.pool := rfl
@[simp] theorem State.setSync_gd (s : State) (m : Nat) (x : SyncIn) : (State.setSync s m x).gd = s.gd := rfl
@[simp] theorem State.setSync_port (s : State) (m : Nat) (x : SyncIn) : (State.setSync s m x).port = s.port := rfl
@[simp] theorem State.setSync_link (s : State) (m : Nat) (x : SyncIn) : (State.setSync s m x).link = s.link := rfl
@[simp] theorem State.setSync_repair (s : State) (m : Nat) (x : SyncIn) : (State.setSync s m x).repair = s.repair := rfl
@[simp] theorem State.setSync_pow (s : State) (m : Nat) (x : SyncIn) : (State.setSync s m x).pow = s.pow := rfl
@[simp] theorem State.setSync_scan (s : State) (m : Nat) (x : SyncIn) : (State.setSync s m x).scan = s.scan := rfl
@[simp] theorem State.setSync_br (s : State) (m : Nat) (x : SyncIn) : (State.setSync s m x).br = s.br := rfl
@[simp] theorem State.setSync_engs (s : State) (m : Nat) (x : SyncIn) : (State.setSync s m x).engs = s.engs := rfl
@[simp] theorem State.setSync_pwr (s : State) (m : Nat) (x : SyncIn) : (State.setSync s m x).pwr = s.pwr := rfl
@[simp] theorem State.setSync_vault (s : State) (m : Nat) (x : SyncIn) : (State.setSync s m x).vault = s.vault := rfl
@[simp] theorem State.setSync_otp (s : State) (m : Nat) (x : SyncIn) : (State.setSync s m x).otp = s.otp := rfl
@[simp] theorem State.setSync_rep (s : State) (m : Nat) (x : SyncIn) : (State.setSync s m x).rep = s.rep := rfl
@[simp] theorem State.setSync_usb (s : State) (m : Nat) (x : SyncIn) : (State.setSync s m x).usb = s.usb := rfl
@[simp] theorem State.setSync_smbPtr (s : State) (m : Nat) (x : SyncIn) : (State.setSync s m x).smbPtr = s.smbPtr := rfl
@[simp] theorem State.setSync_freeCtr (s : State) (m : Nat) (x : SyncIn) : (State.setSync s m x).freeCtr = s.freeCtr := rfl
@[simp] theorem State.setSync_mem (s : State) (m : Nat) (x : SyncIn) : (State.setSync s m x).mem = s.mem := rfl

/-! `State.setCells` -/

@[simp] theorem State.setCells_pending (s : State) (l : List Cell) : (State.setCells s l).pending = s.pending := rfl
@[simp] theorem State.setCells_regs (s : State) (l : List Cell) : (State.setCells s l).regs = s.regs := rfl
@[simp] theorem State.setCells_lag (s : State) (l : List Cell) : (State.setCells s l).lag = s.lag := rfl
@[simp] theorem State.setCells_sig (s : State) (l : List Cell) : (State.setCells s l).sig = s.sig := rfl
@[simp] theorem State.setCells_slots (s : State) (l : List Cell) : (State.setCells s l).slots = s.slots := rfl
@[simp] theorem State.setCells_latch (s : State) (l : List Cell) : (State.setCells s l).latch = s.latch := rfl
@[simp] theorem State.setCells_time (s : State) (l : List Cell) : (State.setCells s l).time = s.time := rfl
@[simp] theorem State.setCells_gov (s : State) (l : List Cell) : (State.setCells s l).gov = s.gov := rfl
@[simp] theorem State.setCells_pool (s : State) (l : List Cell) : (State.setCells s l).pool = s.pool := rfl
@[simp] theorem State.setCells_gd (s : State) (l : List Cell) : (State.setCells s l).gd = s.gd := rfl
@[simp] theorem State.setCells_port (s : State) (l : List Cell) : (State.setCells s l).port = s.port := rfl
@[simp] theorem State.setCells_link (s : State) (l : List Cell) : (State.setCells s l).link = s.link := rfl
@[simp] theorem State.setCells_repair (s : State) (l : List Cell) : (State.setCells s l).repair = s.repair := rfl
@[simp] theorem State.setCells_pow (s : State) (l : List Cell) : (State.setCells s l).pow = s.pow := rfl
@[simp] theorem State.setCells_scan (s : State) (l : List Cell) : (State.setCells s l).scan = s.scan := rfl
@[simp] theorem State.setCells_br (s : State) (l : List Cell) : (State.setCells s l).br = s.br := rfl
@[simp] theorem State.setCells_engs (s : State) (l : List Cell) : (State.setCells s l).engs = s.engs := rfl
@[simp] theorem State.setCells_pwr (s : State) (l : List Cell) : (State.setCells s l).pwr = s.pwr := rfl
@[simp] theorem State.setCells_vault (s : State) (l : List Cell) : (State.setCells s l).vault = s.vault := rfl
@[simp] theorem State.setCells_otp (s : State) (l : List Cell) : (State.setCells s l).otp = s.otp := rfl
@[simp] theorem State.setCells_rep (s : State) (l : List Cell) : (State.setCells s l).rep = s.rep := rfl
@[simp] theorem State.setCells_usb (s : State) (l : List Cell) : (State.setCells s l).usb = s.usb := rfl
@[simp] theorem State.setCells_smbPtr (s : State) (l : List Cell) : (State.setCells s l).smbPtr = s.smbPtr := rfl
@[simp] theorem State.setCells_freeCtr (s : State) (l : List Cell) : (State.setCells s l).freeCtr = s.freeCtr := rfl
@[simp] theorem State.setCells_mem (s : State) (l : List Cell) : (State.setCells s l).mem = s.mem := rfl

/-! `State.countCap` -/

@[simp] theorem State.countCap_pending (s : State) (o : Nat) (units : Nat) : (State.countCap s o units).pending = s.pending := rfl
@[simp] theorem State.countCap_regs (s : State) (o : Nat) (units : Nat) : (State.countCap s o units).regs = s.regs := rfl
@[simp] theorem State.countCap_lag (s : State) (o : Nat) (units : Nat) : (State.countCap s o units).lag = s.lag := rfl
@[simp] theorem State.countCap_sig (s : State) (o : Nat) (units : Nat) : (State.countCap s o units).sig = s.sig := rfl
@[simp] theorem State.countCap_slots (s : State) (o : Nat) (units : Nat) : (State.countCap s o units).slots = s.slots := rfl
@[simp] theorem State.countCap_latch (s : State) (o : Nat) (units : Nat) : (State.countCap s o units).latch = s.latch := rfl
@[simp] theorem State.countCap_time (s : State) (o : Nat) (units : Nat) : (State.countCap s o units).time = s.time := rfl
@[simp] theorem State.countCap_gov (s : State) (o : Nat) (units : Nat) : (State.countCap s o units).gov = s.gov := rfl
@[simp] theorem State.countCap_pool (s : State) (o : Nat) (units : Nat) : (State.countCap s o units).pool = s.pool := rfl
@[simp] theorem State.countCap_gd (s : State) (o : Nat) (units : Nat) : (State.countCap s o units).gd = s.gd := rfl
@[simp] theorem State.countCap_port (s : State) (o : Nat) (units : Nat) : (State.countCap s o units).port = s.port := rfl
@[simp] theorem State.countCap_link (s : State) (o : Nat) (units : Nat) : (State.countCap s o units).link = s.link := rfl
@[simp] theorem State.countCap_repair (s : State) (o : Nat) (units : Nat) : (State.countCap s o units).repair = s.repair := rfl
@[simp] theorem State.countCap_pow (s : State) (o : Nat) (units : Nat) : (State.countCap s o units).pow = s.pow := rfl
@[simp] theorem State.countCap_scan (s : State) (o : Nat) (units : Nat) : (State.countCap s o units).scan = s.scan := rfl
@[simp] theorem State.countCap_br (s : State) (o : Nat) (units : Nat) : (State.countCap s o units).br = s.br := rfl
@[simp] theorem State.countCap_engs (s : State) (o : Nat) (units : Nat) : (State.countCap s o units).engs = s.engs := rfl
@[simp] theorem State.countCap_pwr (s : State) (o : Nat) (units : Nat) : (State.countCap s o units).pwr = s.pwr := rfl
@[simp] theorem State.countCap_vault (s : State) (o : Nat) (units : Nat) : (State.countCap s o units).vault = s.vault := rfl
@[simp] theorem State.countCap_otp (s : State) (o : Nat) (units : Nat) : (State.countCap s o units).otp = s.otp := rfl
@[simp] theorem State.countCap_rep (s : State) (o : Nat) (units : Nat) : (State.countCap s o units).rep = s.rep := rfl
@[simp] theorem State.countCap_usb (s : State) (o : Nat) (units : Nat) : (State.countCap s o units).usb = s.usb := rfl
@[simp] theorem State.countCap_smbPtr (s : State) (o : Nat) (units : Nat) : (State.countCap s o units).smbPtr = s.smbPtr := rfl
@[simp] theorem State.countCap_freeCtr (s : State) (o : Nat) (units : Nat) : (State.countCap s o units).freeCtr = s.freeCtr := rfl
@[simp] theorem State.countCap_mem (s : State) (o : Nat) (units : Nat) : (State.countCap s o units).mem = s.mem := rfl

/-! `State.mapGd` -/

@[simp] theorem State.mapGd_pending (s : State) (f : GuardSt → GuardSt) : (State.mapGd s f).pending = s.pending := rfl
@[simp] theorem State.mapGd_regs (s : State) (f : GuardSt → GuardSt) : (State.mapGd s f).regs = s.regs := rfl
@[simp] theorem State.mapGd_lag (s : State) (f : GuardSt → GuardSt) : (State.mapGd s f).lag = s.lag := rfl
@[simp] theorem State.mapGd_sig (s : State) (f : GuardSt → GuardSt) : (State.mapGd s f).sig = s.sig := rfl
@[simp] theorem State.mapGd_slots (s : State) (f : GuardSt → GuardSt) : (State.mapGd s f).slots = s.slots := rfl
@[simp] theorem State.mapGd_latch (s : State) (f : GuardSt → GuardSt) : (State.mapGd s f).latch = s.latch := rfl
@[simp] theorem State.mapGd_time (s : State) (f : GuardSt → GuardSt) : (State.mapGd s f).time = s.time := rfl
@[simp] theorem State.mapGd_sw (s : State) (f : GuardSt → GuardSt) : (State.mapGd s f).sw = s.sw := rfl
@[simp] theorem State.mapGd_gov (s : State) (f : GuardSt → GuardSt) : (State.mapGd s f).gov = s.gov := rfl
@[simp] theorem State.mapGd_pool (s : State) (f : GuardSt → GuardSt) : (State.mapGd s f).pool = s.pool := rfl
@[simp] theorem State.mapGd_port (s : State) (f : GuardSt → GuardSt) : (State.mapGd s f).port = s.port := rfl
@[simp] theorem State.mapGd_link (s : State) (f : GuardSt → GuardSt) : (State.mapGd s f).link = s.link := rfl
@[simp] theorem State.mapGd_repair (s : State) (f : GuardSt → GuardSt) : (State.mapGd s f).repair = s.repair := rfl
@[simp] theorem State.mapGd_pow (s : State) (f : GuardSt → GuardSt) : (State.mapGd s f).pow = s.pow := rfl
@[simp] theorem State.mapGd_scan (s : State) (f : GuardSt → GuardSt) : (State.mapGd s f).scan = s.scan := rfl
@[simp] theorem State.mapGd_br (s : State) (f : GuardSt → GuardSt) : (State.mapGd s f).br = s.br := rfl
@[simp] theorem State.mapGd_engs (s : State) (f : GuardSt → GuardSt) : (State.mapGd s f).engs = s.engs := rfl
@[simp] theorem State.mapGd_pwr (s : State) (f : GuardSt → GuardSt) : (State.mapGd s f).pwr = s.pwr := rfl
@[simp] theorem State.mapGd_vault (s : State) (f : GuardSt → GuardSt) : (State.mapGd s f).vault = s.vault := rfl
@[simp] theorem State.mapGd_otp (s : State) (f : GuardSt → GuardSt) : (State.mapGd s f).otp = s.otp := rfl
@[simp] theorem State.mapGd_rep (s : State) (f : GuardSt → GuardSt) : (State.mapGd s f).rep = s.rep := rfl
@[simp] theorem State.mapGd_usb (s : State) (f : GuardSt → GuardSt) : (State.mapGd s f).usb = s.usb := rfl
@[simp] theorem State.mapGd_smbPtr (s : State) (f : GuardSt → GuardSt) : (State.mapGd s f).smbPtr = s.smbPtr := rfl
@[simp] theorem State.mapGd_freeCtr (s : State) (f : GuardSt → GuardSt) : (State.mapGd s f).freeCtr = s.freeCtr := rfl
@[simp] theorem State.mapGd_mem (s : State) (f : GuardSt → GuardSt) : (State.mapGd s f).mem = s.mem := rfl

/-! `State.setStream` -/

@[simp] theorem State.setStream_pending (s : State) (k : Nat) (x : Stream) : (State.setStream s k x).pending = s.pending := rfl
@[simp] theorem State.setStream_regs (s : State) (k : Nat) (x : Stream) : (State.setStream s k x).regs = s.regs := rfl
@[simp] theorem State.setStream_lag (s : State) (k : Nat) (x : Stream) : (State.setStream s k x).lag = s.lag := rfl
@[simp] theorem State.setStream_sig (s : State) (k : Nat) (x : Stream) : (State.setStream s k x).sig = s.sig := rfl
@[simp] theorem State.setStream_slots (s : State) (k : Nat) (x : Stream) : (State.setStream s k x).slots = s.slots := rfl
@[simp] theorem State.setStream_latch (s : State) (k : Nat) (x : Stream) : (State.setStream s k x).latch = s.latch := rfl
@[simp] theorem State.setStream_time (s : State) (k : Nat) (x : Stream) : (State.setStream s k x).time = s.time := rfl
@[simp] theorem State.setStream_gov (s : State) (k : Nat) (x : Stream) : (State.setStream s k x).gov = s.gov := rfl
@[simp] theorem State.setStream_pool (s : State) (k : Nat) (x : Stream) : (State.setStream s k x).pool = s.pool := rfl
@[simp] theorem State.setStream_gd (s : State) (k : Nat) (x : Stream) : (State.setStream s k x).gd = s.gd := rfl
@[simp] theorem State.setStream_port (s : State) (k : Nat) (x : Stream) : (State.setStream s k x).port = s.port := rfl
@[simp] theorem State.setStream_link (s : State) (k : Nat) (x : Stream) : (State.setStream s k x).link = s.link := rfl
@[simp] theorem State.setStream_repair (s : State) (k : Nat) (x : Stream) : (State.setStream s k x).repair = s.repair := rfl
@[simp] theorem State.setStream_pow (s : State) (k : Nat) (x : Stream) : (State.setStream s k x).pow = s.pow := rfl
@[simp] theorem State.setStream_scan (s : State) (k : Nat) (x : Stream) : (State.setStream s k x).scan = s.scan := rfl
@[simp] theorem State.setStream_br (s : State) (k : Nat) (x : Stream) : (State.setStream s k x).br = s.br := rfl
@[simp] theorem State.setStream_engs (s : State) (k : Nat) (x : Stream) : (State.setStream s k x).engs = s.engs := rfl
@[simp] theorem State.setStream_pwr (s : State) (k : Nat) (x : Stream) : (State.setStream s k x).pwr = s.pwr := rfl
@[simp] theorem State.setStream_vault (s : State) (k : Nat) (x : Stream) : (State.setStream s k x).vault = s.vault := rfl
@[simp] theorem State.setStream_otp (s : State) (k : Nat) (x : Stream) : (State.setStream s k x).otp = s.otp := rfl
@[simp] theorem State.setStream_rep (s : State) (k : Nat) (x : Stream) : (State.setStream s k x).rep = s.rep := rfl
@[simp] theorem State.setStream_usb (s : State) (k : Nat) (x : Stream) : (State.setStream s k x).usb = s.usb := rfl
@[simp] theorem State.setStream_smbPtr (s : State) (k : Nat) (x : Stream) : (State.setStream s k x).smbPtr = s.smbPtr := rfl
@[simp] theorem State.setStream_freeCtr (s : State) (k : Nat) (x : Stream) : (State.setStream s k x).freeCtr = s.freeCtr := rfl
@[simp] theorem State.setStream_mem (s : State) (k : Nat) (x : Stream) : (State.setStream s k x).mem = s.mem := rfl

/-! `State.mapBr` -/

@[simp] theorem State.mapBr_pending (s : State) (f : BrSt → BrSt) : (State.mapBr s f).pending = s.pending := rfl
@[simp] theorem State.mapBr_regs (s : State) (f : BrSt → BrSt) : (State.mapBr s f).regs = s.regs := rfl
@[simp] theorem State.mapBr_lag (s : State) (f : BrSt → BrSt) : (State.mapBr s f).lag = s.lag := rfl
@[simp] theorem State.mapBr_sig (s : State) (f : BrSt → BrSt) : (State.mapBr s f).sig = s.sig := rfl
@[simp] theorem State.mapBr_slots (s : State) (f : BrSt → BrSt) : (State.mapBr s f).slots = s.slots := rfl
@[simp] theorem State.mapBr_latch (s : State) (f : BrSt → BrSt) : (State.mapBr s f).latch = s.latch := rfl
@[simp] theorem State.mapBr_time (s : State) (f : BrSt → BrSt) : (State.mapBr s f).time = s.time := rfl
@[simp] theorem State.mapBr_sw (s : State) (f : BrSt → BrSt) : (State.mapBr s f).sw = s.sw := rfl
@[simp] theorem State.mapBr_gov (s : State) (f : BrSt → BrSt) : (State.mapBr s f).gov = s.gov := rfl
@[simp] theorem State.mapBr_pool (s : State) (f : BrSt → BrSt) : (State.mapBr s f).pool = s.pool := rfl
@[simp] theorem State.mapBr_gd (s : State) (f : BrSt → BrSt) : (State.mapBr s f).gd = s.gd := rfl
@[simp] theorem State.mapBr_port (s : State) (f : BrSt → BrSt) : (State.mapBr s f).port = s.port := rfl
@[simp] theorem State.mapBr_link (s : State) (f : BrSt → BrSt) : (State.mapBr s f).link = s.link := rfl
@[simp] theorem State.mapBr_repair (s : State) (f : BrSt → BrSt) : (State.mapBr s f).repair = s.repair := rfl
@[simp] theorem State.mapBr_pow (s : State) (f : BrSt → BrSt) : (State.mapBr s f).pow = s.pow := rfl
@[simp] theorem State.mapBr_scan (s : State) (f : BrSt → BrSt) : (State.mapBr s f).scan = s.scan := rfl
@[simp] theorem State.mapBr_engs (s : State) (f : BrSt → BrSt) : (State.mapBr s f).engs = s.engs := rfl
@[simp] theorem State.mapBr_pwr (s : State) (f : BrSt → BrSt) : (State.mapBr s f).pwr = s.pwr := rfl
@[simp] theorem State.mapBr_vault (s : State) (f : BrSt → BrSt) : (State.mapBr s f).vault = s.vault := rfl
@[simp] theorem State.mapBr_otp (s : State) (f : BrSt → BrSt) : (State.mapBr s f).otp = s.otp := rfl
@[simp] theorem State.mapBr_rep (s : State) (f : BrSt → BrSt) : (State.mapBr s f).rep = s.rep := rfl
@[simp] theorem State.mapBr_usb (s : State) (f : BrSt → BrSt) : (State.mapBr s f).usb = s.usb := rfl
@[simp] theorem State.mapBr_smbPtr (s : State) (f : BrSt → BrSt) : (State.mapBr s f).smbPtr = s.smbPtr := rfl
@[simp] theorem State.mapBr_freeCtr (s : State) (f : BrSt → BrSt) : (State.mapBr s f).freeCtr = s.freeCtr := rfl
@[simp] theorem State.mapBr_mem (s : State) (f : BrSt → BrSt) : (State.mapBr s f).mem = s.mem := rfl

/-! `State.setAxis` -/

@[simp] theorem State.setAxis_pending (s : State) (a : Nat) (x : AxisSt) : (State.setAxis s a x).pending = s.pending := rfl
@[simp] theorem State.setAxis_regs (s : State) (a : Nat) (x : AxisSt) : (State.setAxis s a x).regs = s.regs := rfl
@[simp] theorem State.setAxis_lag (s : State) (a : Nat) (x : AxisSt) : (State.setAxis s a x).lag = s.lag := rfl
@[simp] theorem State.setAxis_sig (s : State) (a : Nat) (x : AxisSt) : (State.setAxis s a x).sig = s.sig := rfl
@[simp] theorem State.setAxis_slots (s : State) (a : Nat) (x : AxisSt) : (State.setAxis s a x).slots = s.slots := rfl
@[simp] theorem State.setAxis_latch (s : State) (a : Nat) (x : AxisSt) : (State.setAxis s a x).latch = s.latch := rfl
@[simp] theorem State.setAxis_sw (s : State) (a : Nat) (x : AxisSt) : (State.setAxis s a x).sw = s.sw := rfl
@[simp] theorem State.setAxis_gov (s : State) (a : Nat) (x : AxisSt) : (State.setAxis s a x).gov = s.gov := rfl
@[simp] theorem State.setAxis_pool (s : State) (a : Nat) (x : AxisSt) : (State.setAxis s a x).pool = s.pool := rfl
@[simp] theorem State.setAxis_gd (s : State) (a : Nat) (x : AxisSt) : (State.setAxis s a x).gd = s.gd := rfl
@[simp] theorem State.setAxis_port (s : State) (a : Nat) (x : AxisSt) : (State.setAxis s a x).port = s.port := rfl
@[simp] theorem State.setAxis_link (s : State) (a : Nat) (x : AxisSt) : (State.setAxis s a x).link = s.link := rfl
@[simp] theorem State.setAxis_repair (s : State) (a : Nat) (x : AxisSt) : (State.setAxis s a x).repair = s.repair := rfl
@[simp] theorem State.setAxis_pow (s : State) (a : Nat) (x : AxisSt) : (State.setAxis s a x).pow = s.pow := rfl
@[simp] theorem State.setAxis_scan (s : State) (a : Nat) (x : AxisSt) : (State.setAxis s a x).scan = s.scan := rfl
@[simp] theorem State.setAxis_br (s : State) (a : Nat) (x : AxisSt) : (State.setAxis s a x).br = s.br := rfl
@[simp] theorem State.setAxis_engs (s : State) (a : Nat) (x : AxisSt) : (State.setAxis s a x).engs = s.engs := rfl
@[simp] theorem State.setAxis_pwr (s : State) (a : Nat) (x : AxisSt) : (State.setAxis s a x).pwr = s.pwr := rfl
@[simp] theorem State.setAxis_vault (s : State) (a : Nat) (x : AxisSt) : (State.setAxis s a x).vault = s.vault := rfl
@[simp] theorem State.setAxis_otp (s : State) (a : Nat) (x : AxisSt) : (State.setAxis s a x).otp = s.otp := rfl
@[simp] theorem State.setAxis_rep (s : State) (a : Nat) (x : AxisSt) : (State.setAxis s a x).rep = s.rep := rfl
@[simp] theorem State.setAxis_usb (s : State) (a : Nat) (x : AxisSt) : (State.setAxis s a x).usb = s.usb := rfl
@[simp] theorem State.setAxis_smbPtr (s : State) (a : Nat) (x : AxisSt) : (State.setAxis s a x).smbPtr = s.smbPtr := rfl
@[simp] theorem State.setAxis_freeCtr (s : State) (a : Nat) (x : AxisSt) : (State.setAxis s a x).freeCtr = s.freeCtr := rfl
@[simp] theorem State.setAxis_mem (s : State) (a : Nat) (x : AxisSt) : (State.setAxis s a x).mem = s.mem := rfl

/-! `State.setEngs` -/

@[simp] theorem State.setEngs_pending (s : State) (x : EngSt) : (State.setEngs s x).pending = s.pending := rfl
@[simp] theorem State.setEngs_regs (s : State) (x : EngSt) : (State.setEngs s x).regs = s.regs := rfl
@[simp] theorem State.setEngs_lag (s : State) (x : EngSt) : (State.setEngs s x).lag = s.lag := rfl
@[simp] theorem State.setEngs_sig (s : State) (x : EngSt) : (State.setEngs s x).sig = s.sig := rfl
@[simp] theorem State.setEngs_slots (s : State) (x : EngSt) : (State.setEngs s x).slots = s.slots := rfl
@[simp] theorem State.setEngs_latch (s : State) (x : EngSt) : (State.setEngs s x).latch = s.latch := rfl
@[simp] theorem State.setEngs_time (s : State) (x : EngSt) : (State.setEngs s x).time = s.time := rfl
@[simp] theorem State.setEngs_sw (s : State) (x : EngSt) : (State.setEngs s x).sw = s.sw := rfl
@[simp] theorem State.setEngs_gov (s : State) (x : EngSt) : (State.setEngs s x).gov = s.gov := rfl
@[simp] theorem State.setEngs_pool (s : State) (x : EngSt) : (State.setEngs s x).pool = s.pool := rfl
@[simp] theorem State.setEngs_gd (s : State) (x : EngSt) : (State.setEngs s x).gd = s.gd := rfl
@[simp] theorem State.setEngs_port (s : State) (x : EngSt) : (State.setEngs s x).port = s.port := rfl
@[simp] theorem State.setEngs_link (s : State) (x : EngSt) : (State.setEngs s x).link = s.link := rfl
@[simp] theorem State.setEngs_repair (s : State) (x : EngSt) : (State.setEngs s x).repair = s.repair := rfl
@[simp] theorem State.setEngs_pow (s : State) (x : EngSt) : (State.setEngs s x).pow = s.pow := rfl
@[simp] theorem State.setEngs_scan (s : State) (x : EngSt) : (State.setEngs s x).scan = s.scan := rfl
@[simp] theorem State.setEngs_br (s : State) (x : EngSt) : (State.setEngs s x).br = s.br := rfl
@[simp] theorem State.setEngs_pwr (s : State) (x : EngSt) : (State.setEngs s x).pwr = s.pwr := rfl
@[simp] theorem State.setEngs_vault (s : State) (x : EngSt) : (State.setEngs s x).vault = s.vault := rfl
@[simp] theorem State.setEngs_otp (s : State) (x : EngSt) : (State.setEngs s x).otp = s.otp := rfl
@[simp] theorem State.setEngs_rep (s : State) (x : EngSt) : (State.setEngs s x).rep = s.rep := rfl
@[simp] theorem State.setEngs_usb (s : State) (x : EngSt) : (State.setEngs s x).usb = s.usb := rfl
@[simp] theorem State.setEngs_smbPtr (s : State) (x : EngSt) : (State.setEngs s x).smbPtr = s.smbPtr := rfl
@[simp] theorem State.setEngs_freeCtr (s : State) (x : EngSt) : (State.setEngs s x).freeCtr = s.freeCtr := rfl
@[simp] theorem State.setEngs_mem (s : State) (x : EngSt) : (State.setEngs s x).mem = s.mem := rfl

/-! `State.setPtp` -/

@[simp] theorem State.setPtp_pending (s : State) (port : Nat) (x : PtpPort) : (State.setPtp s port x).pending = s.pending := rfl
@[simp] theorem State.setPtp_regs (s : State) (port : Nat) (x : PtpPort) : (State.setPtp s port x).regs = s.regs := rfl
@[simp] theorem State.setPtp_lag (s : State) (port : Nat) (x : PtpPort) : (State.setPtp s port x).lag = s.lag := rfl
@[simp] theorem State.setPtp_sig (s : State) (port : Nat) (x : PtpPort) : (State.setPtp s port x).sig = s.sig := rfl
@[simp] theorem State.setPtp_slots (s : State) (port : Nat) (x : PtpPort) : (State.setPtp s port x).slots = s.slots := rfl
@[simp] theorem State.setPtp_latch (s : State) (port : Nat) (x : PtpPort) : (State.setPtp s port x).latch = s.latch := rfl
@[simp] theorem State.setPtp_sw (s : State) (port : Nat) (x : PtpPort) : (State.setPtp s port x).sw = s.sw := rfl
@[simp] theorem State.setPtp_gov (s : State) (port : Nat) (x : PtpPort) : (State.setPtp s port x).gov = s.gov := rfl
@[simp] theorem State.setPtp_pool (s : State) (port : Nat) (x : PtpPort) : (State.setPtp s port x).pool = s.pool := rfl
@[simp] theorem State.setPtp_gd (s : State) (port : Nat) (x : PtpPort) : (State.setPtp s port x).gd = s.gd := rfl
@[simp] theorem State.setPtp_port (s : State) (port : Nat) (x : PtpPort) : (State.setPtp s port x).port = s.port := rfl
@[simp] theorem State.setPtp_link (s : State) (port : Nat) (x : PtpPort) : (State.setPtp s port x).link = s.link := rfl
@[simp] theorem State.setPtp_repair (s : State) (port : Nat) (x : PtpPort) : (State.setPtp s port x).repair = s.repair := rfl
@[simp] theorem State.setPtp_pow (s : State) (port : Nat) (x : PtpPort) : (State.setPtp s port x).pow = s.pow := rfl
@[simp] theorem State.setPtp_scan (s : State) (port : Nat) (x : PtpPort) : (State.setPtp s port x).scan = s.scan := rfl
@[simp] theorem State.setPtp_br (s : State) (port : Nat) (x : PtpPort) : (State.setPtp s port x).br = s.br := rfl
@[simp] theorem State.setPtp_engs (s : State) (port : Nat) (x : PtpPort) : (State.setPtp s port x).engs = s.engs := rfl
@[simp] theorem State.setPtp_pwr (s : State) (port : Nat) (x : PtpPort) : (State.setPtp s port x).pwr = s.pwr := rfl
@[simp] theorem State.setPtp_vault (s : State) (port : Nat) (x : PtpPort) : (State.setPtp s port x).vault = s.vault := rfl
@[simp] theorem State.setPtp_otp (s : State) (port : Nat) (x : PtpPort) : (State.setPtp s port x).otp = s.otp := rfl
@[simp] theorem State.setPtp_rep (s : State) (port : Nat) (x : PtpPort) : (State.setPtp s port x).rep = s.rep := rfl
@[simp] theorem State.setPtp_usb (s : State) (port : Nat) (x : PtpPort) : (State.setPtp s port x).usb = s.usb := rfl
@[simp] theorem State.setPtp_smbPtr (s : State) (port : Nat) (x : PtpPort) : (State.setPtp s port x).smbPtr = s.smbPtr := rfl
@[simp] theorem State.setPtp_freeCtr (s : State) (port : Nat) (x : PtpPort) : (State.setPtp s port x).freeCtr = s.freeCtr := rfl
@[simp] theorem State.setPtp_mem (s : State) (port : Nat) (x : PtpPort) : (State.setPtp s port x).mem = s.mem := rfl

/-! `State.mapOtp` -/

@[simp] theorem State.mapOtp_pending (s : State) (f : OtpSt → OtpSt) : (State.mapOtp s f).pending = s.pending := rfl
@[simp] theorem State.mapOtp_regs (s : State) (f : OtpSt → OtpSt) : (State.mapOtp s f).regs = s.regs := rfl
@[simp] theorem State.mapOtp_lag (s : State) (f : OtpSt → OtpSt) : (State.mapOtp s f).lag = s.lag := rfl
@[simp] theorem State.mapOtp_sig (s : State) (f : OtpSt → OtpSt) : (State.mapOtp s f).sig = s.sig := rfl
@[simp] theorem State.mapOtp_slots (s : State) (f : OtpSt → OtpSt) : (State.mapOtp s f).slots = s.slots := rfl
@[simp] theorem State.mapOtp_latch (s : State) (f : OtpSt → OtpSt) : (State.mapOtp s f).latch = s.latch := rfl
@[simp] theorem State.mapOtp_time (s : State) (f : OtpSt → OtpSt) : (State.mapOtp s f).time = s.time := rfl
@[simp] theorem State.mapOtp_sw (s : State) (f : OtpSt → OtpSt) : (State.mapOtp s f).sw = s.sw := rfl
@[simp] theorem State.mapOtp_gov (s : State) (f : OtpSt → OtpSt) : (State.mapOtp s f).gov = s.gov := rfl
@[simp] theorem State.mapOtp_pool (s : State) (f : OtpSt → OtpSt) : (State.mapOtp s f).pool = s.pool := rfl
@[simp] theorem State.mapOtp_gd (s : State) (f : OtpSt → OtpSt) : (State.mapOtp s f).gd = s.gd := rfl
@[simp] theorem State.mapOtp_port (s : State) (f : OtpSt → OtpSt) : (State.mapOtp s f).port = s.port := rfl
@[simp] theorem State.mapOtp_link (s : State) (f : OtpSt → OtpSt) : (State.mapOtp s f).link = s.link := rfl
@[simp] theorem State.mapOtp_repair (s : State) (f : OtpSt → OtpSt) : (State.mapOtp s f).repair = s.repair := rfl
@[simp] theorem State.mapOtp_pow (s : State) (f : OtpSt → OtpSt) : (State.mapOtp s f).pow = s.pow := rfl
@[simp] theorem State.mapOtp_scan (s : State) (f : OtpSt → OtpSt) : (State.mapOtp s f).scan = s.scan := rfl
@[simp] theorem State.mapOtp_br (s : State) (f : OtpSt → OtpSt) : (State.mapOtp s f).br = s.br := rfl
@[simp] theorem State.mapOtp_engs (s : State) (f : OtpSt → OtpSt) : (State.mapOtp s f).engs = s.engs := rfl
@[simp] theorem State.mapOtp_pwr (s : State) (f : OtpSt → OtpSt) : (State.mapOtp s f).pwr = s.pwr := rfl
@[simp] theorem State.mapOtp_vault (s : State) (f : OtpSt → OtpSt) : (State.mapOtp s f).vault = s.vault := rfl
@[simp] theorem State.mapOtp_rep (s : State) (f : OtpSt → OtpSt) : (State.mapOtp s f).rep = s.rep := rfl
@[simp] theorem State.mapOtp_usb (s : State) (f : OtpSt → OtpSt) : (State.mapOtp s f).usb = s.usb := rfl
@[simp] theorem State.mapOtp_smbPtr (s : State) (f : OtpSt → OtpSt) : (State.mapOtp s f).smbPtr = s.smbPtr := rfl
@[simp] theorem State.mapOtp_freeCtr (s : State) (f : OtpSt → OtpSt) : (State.mapOtp s f).freeCtr = s.freeCtr := rfl
@[simp] theorem State.mapOtp_mem (s : State) (f : OtpSt → OtpSt) : (State.mapOtp s f).mem = s.mem := rfl

/-! `State.outUsed` -/

@[simp] theorem State.outUsed_pending (s : State) (p : Nat) : (State.outUsed s p).pending = s.pending := rfl
@[simp] theorem State.outUsed_regs (s : State) (p : Nat) : (State.outUsed s p).regs = s.regs := rfl
@[simp] theorem State.outUsed_lag (s : State) (p : Nat) : (State.outUsed s p).lag = s.lag := rfl
@[simp] theorem State.outUsed_sig (s : State) (p : Nat) : (State.outUsed s p).sig = s.sig := rfl
@[simp] theorem State.outUsed_slots (s : State) (p : Nat) : (State.outUsed s p).slots = s.slots := rfl
@[simp] theorem State.outUsed_latch (s : State) (p : Nat) : (State.outUsed s p).latch = s.latch := rfl
@[simp] theorem State.outUsed_time (s : State) (p : Nat) : (State.outUsed s p).time = s.time := rfl
@[simp] theorem State.outUsed_gov (s : State) (p : Nat) : (State.outUsed s p).gov = s.gov := rfl
@[simp] theorem State.outUsed_pool (s : State) (p : Nat) : (State.outUsed s p).pool = s.pool := rfl
@[simp] theorem State.outUsed_gd (s : State) (p : Nat) : (State.outUsed s p).gd = s.gd := rfl
@[simp] theorem State.outUsed_port (s : State) (p : Nat) : (State.outUsed s p).port = s.port := rfl
@[simp] theorem State.outUsed_link (s : State) (p : Nat) : (State.outUsed s p).link = s.link := rfl
@[simp] theorem State.outUsed_repair (s : State) (p : Nat) : (State.outUsed s p).repair = s.repair := rfl
@[simp] theorem State.outUsed_pow (s : State) (p : Nat) : (State.outUsed s p).pow = s.pow := rfl
@[simp] theorem State.outUsed_scan (s : State) (p : Nat) : (State.outUsed s p).scan = s.scan := rfl
@[simp] theorem State.outUsed_br (s : State) (p : Nat) : (State.outUsed s p).br = s.br := rfl
@[simp] theorem State.outUsed_engs (s : State) (p : Nat) : (State.outUsed s p).engs = s.engs := rfl
@[simp] theorem State.outUsed_pwr (s : State) (p : Nat) : (State.outUsed s p).pwr = s.pwr := rfl
@[simp] theorem State.outUsed_vault (s : State) (p : Nat) : (State.outUsed s p).vault = s.vault := rfl
@[simp] theorem State.outUsed_otp (s : State) (p : Nat) : (State.outUsed s p).otp = s.otp := rfl
@[simp] theorem State.outUsed_rep (s : State) (p : Nat) : (State.outUsed s p).rep = s.rep := rfl
@[simp] theorem State.outUsed_usb (s : State) (p : Nat) : (State.outUsed s p).usb = s.usb := rfl
@[simp] theorem State.outUsed_smbPtr (s : State) (p : Nat) : (State.outUsed s p).smbPtr = s.smbPtr := rfl
@[simp] theorem State.outUsed_freeCtr (s : State) (p : Nat) : (State.outUsed s p).freeCtr = s.freeCtr := rfl
@[simp] theorem State.outUsed_mem (s : State) (p : Nat) : (State.outUsed s p).mem = s.mem := rfl

/-! `State.pairUsed` -/

@[simp] theorem State.pairUsed_pending (s : State) (p inp out : Nat) : (State.pairUsed s p inp out).pending = s.pending := rfl
@[simp] theorem State.pairUsed_regs (s : State) (p inp out : Nat) : (State.pairUsed s p inp out).regs = s.regs := rfl
@[simp] theorem State.pairUsed_lag (s : State) (p inp out : Nat) : (State.pairUsed s p inp out).lag = s.lag := rfl
@[simp] theorem State.pairUsed_sig (s : State) (p inp out : Nat) : (State.pairUsed s p inp out).sig = s.sig := rfl
@[simp] theorem State.pairUsed_slots (s : State) (p inp out : Nat) : (State.pairUsed s p inp out).slots = s.slots := rfl
@[simp] theorem State.pairUsed_latch (s : State) (p inp out : Nat) : (State.pairUsed s p inp out).latch = s.latch := rfl
@[simp] theorem State.pairUsed_time (s : State) (p inp out : Nat) : (State.pairUsed s p inp out).time = s.time := rfl
@[simp] theorem State.pairUsed_gov (s : State) (p inp out : Nat) : (State.pairUsed s p inp out).gov = s.gov := rfl
@[simp] theorem State.pairUsed_pool (s : State) (p inp out : Nat) : (State.pairUsed s p inp out).pool = s.pool := rfl
@[simp] theorem State.pairUsed_gd (s : State) (p inp out : Nat) : (State.pairUsed s p inp out).gd = s.gd := rfl
@[simp] theorem State.pairUsed_port (s : State) (p inp out : Nat) : (State.pairUsed s p inp out).port = s.port := rfl
@[simp] theorem State.pairUsed_link (s : State) (p inp out : Nat) : (State.pairUsed s p inp out).link = s.link := rfl
@[simp] theorem State.pairUsed_repair (s : State) (p inp out : Nat) : (State.pairUsed s p inp out).repair = s.repair := rfl
@[simp] theorem State.pairUsed_pow (s : State) (p inp out : Nat) : (State.pairUsed s p inp out).pow = s.pow := rfl
@[simp] theorem State.pairUsed_scan (s : State) (p inp out : Nat) : (State.pairUsed s p inp out).scan = s.scan := rfl
@[simp] theorem State.pairUsed_br (s : State) (p inp out : Nat) : (State.pairUsed s p inp out).br = s.br := rfl
@[simp] theorem State.pairUsed_engs (s : State) (p inp out : Nat) : (State.pairUsed s p inp out).engs = s.engs := rfl
@[simp] theorem State.pairUsed_pwr (s : State) (p inp out : Nat) : (State.pairUsed s p inp out).pwr = s.pwr := rfl
@[simp] theorem State.pairUsed_vault (s : State) (p inp out : Nat) : (State.pairUsed s p inp out).vault = s.vault := rfl
@[simp] theorem State.pairUsed_otp (s : State) (p inp out : Nat) : (State.pairUsed s p inp out).otp = s.otp := rfl
@[simp] theorem State.pairUsed_rep (s : State) (p inp out : Nat) : (State.pairUsed s p inp out).rep = s.rep := rfl
@[simp] theorem State.pairUsed_usb (s : State) (p inp out : Nat) : (State.pairUsed s p inp out).usb = s.usb := rfl
@[simp] theorem State.pairUsed_smbPtr (s : State) (p inp out : Nat) : (State.pairUsed s p inp out).smbPtr = s.smbPtr := rfl
@[simp] theorem State.pairUsed_freeCtr (s : State) (p inp out : Nat) : (State.pairUsed s p inp out).freeCtr = s.freeCtr := rfl
@[simp] theorem State.pairUsed_mem (s : State) (p inp out : Nat) : (State.pairUsed s p inp out).mem = s.mem := rfl

/-! `State.takeUp` -/

@[simp] theorem State.takeUp_pending (s : State) (f : Fld) : (State.takeUp s f).pending = s.pending := rfl
@[simp] theorem State.takeUp_regs (s : State) (f : Fld) : (State.takeUp s f).regs = s.regs := rfl
@[simp] theorem State.takeUp_sig (s : State) (f : Fld) : (State.takeUp s f).sig = s.sig := rfl
@[simp] theorem State.takeUp_slots (s : State) (f : Fld) : (State.takeUp s f).slots = s.slots := rfl
@[simp] theorem State.takeUp_latch (s : State) (f : Fld) : (State.takeUp s f).latch = s.latch := rfl
@[simp] theorem State.takeUp_time (s : State) (f : Fld) : (State.takeUp s f).time = s.time := rfl
@[simp] theorem State.takeUp_sw (s : State) (f : Fld) : (State.takeUp s f).sw = s.sw := rfl
@[simp] theorem State.takeUp_gov (s : State) (f : Fld) : (State.takeUp s f).gov = s.gov := rfl
@[simp] theorem State.takeUp_pool (s : State) (f : Fld) : (State.takeUp s f).pool = s.pool := rfl
@[simp] theorem State.takeUp_gd (s : State) (f : Fld) : (State.takeUp s f).gd = s.gd := rfl
@[simp] theorem State.takeUp_port (s : State) (f : Fld) : (State.takeUp s f).port = s.port := rfl
@[simp] theorem State.takeUp_link (s : State) (f : Fld) : (State.takeUp s f).link = s.link := rfl
@[simp] theorem State.takeUp_repair (s : State) (f : Fld) : (State.takeUp s f).repair = s.repair := rfl
@[simp] theorem State.takeUp_pow (s : State) (f : Fld) : (State.takeUp s f).pow = s.pow := rfl
@[simp] theorem State.takeUp_scan (s : State) (f : Fld) : (State.takeUp s f).scan = s.scan := rfl
@[simp] theorem State.takeUp_br (s : State) (f : Fld) : (State.takeUp s f).br = s.br := rfl
@[simp] theorem State.takeUp_engs (s : State) (f : Fld) : (State.takeUp s f).engs = s.engs := rfl
@[simp] theorem State.takeUp_pwr (s : State) (f : Fld) : (State.takeUp s f).pwr = s.pwr := rfl
@[simp] theorem State.takeUp_vault (s : State) (f : Fld) : (State.takeUp s f).vault = s.vault := rfl
@[simp] theorem State.takeUp_otp (s : State) (f : Fld) : (State.takeUp s f).otp = s.otp := rfl
@[simp] theorem State.takeUp_rep (s : State) (f : Fld) : (State.takeUp s f).rep = s.rep := rfl
@[simp] theorem State.takeUp_usb (s : State) (f : Fld) : (State.takeUp s f).usb = s.usb := rfl
@[simp] theorem State.takeUp_smbPtr (s : State) (f : Fld) : (State.takeUp s f).smbPtr = s.smbPtr := rfl
@[simp] theorem State.takeUp_freeCtr (s : State) (f : Fld) : (State.takeUp s f).freeCtr = s.freeCtr := rfl
@[simp] theorem State.takeUp_mem (s : State) (f : Fld) : (State.takeUp s f).mem = s.mem := rfl

/-! `State.setCopy` -/

@[simp] theorem State.setCopy_pending (s : State) (spare bank : Nat) (cells : List Nat) : (State.setCopy s spare bank cells).pending = s.pending := rfl
@[simp] theorem State.setCopy_regs (s : State) (spare bank : Nat) (cells : List Nat) : (State.setCopy s spare bank cells).regs = s.regs := rfl
@[simp] theorem State.setCopy_lag (s : State) (spare bank : Nat) (cells : List Nat) : (State.setCopy s spare bank cells).lag = s.lag := rfl
@[simp] theorem State.setCopy_sig (s : State) (spare bank : Nat) (cells : List Nat) : (State.setCopy s spare bank cells).sig = s.sig := rfl
@[simp] theorem State.setCopy_slots (s : State) (spare bank : Nat) (cells : List Nat) : (State.setCopy s spare bank cells).slots = s.slots := rfl
@[simp] theorem State.setCopy_latch (s : State) (spare bank : Nat) (cells : List Nat) : (State.setCopy s spare bank cells).latch = s.latch := rfl
@[simp] theorem State.setCopy_time (s : State) (spare bank : Nat) (cells : List Nat) : (State.setCopy s spare bank cells).time = s.time := rfl
@[simp] theorem State.setCopy_gov (s : State) (spare bank : Nat) (cells : List Nat) : (State.setCopy s spare bank cells).gov = s.gov := rfl
@[simp] theorem State.setCopy_pool (s : State) (spare bank : Nat) (cells : List Nat) : (State.setCopy s spare bank cells).pool = s.pool := rfl
@[simp] theorem State.setCopy_gd (s : State) (spare bank : Nat) (cells : List Nat) : (State.setCopy s spare bank cells).gd = s.gd := rfl
@[simp] theorem State.setCopy_port (s : State) (spare bank : Nat) (cells : List Nat) : (State.setCopy s spare bank cells).port = s.port := rfl
@[simp] theorem State.setCopy_link (s : State) (spare bank : Nat) (cells : List Nat) : (State.setCopy s spare bank cells).link = s.link := rfl
@[simp] theorem State.setCopy_repair (s : State) (spare bank : Nat) (cells : List Nat) : (State.setCopy s spare bank cells).repair = s.repair := rfl
@[simp] theorem State.setCopy_pow (s : State) (spare bank : Nat) (cells : List Nat) : (State.setCopy s spare bank cells).pow = s.pow := rfl
@[simp] theorem State.setCopy_scan (s : State) (spare bank : Nat) (cells : List Nat) : (State.setCopy s spare bank cells).scan = s.scan := rfl
@[simp] theorem State.setCopy_br (s : State) (spare bank : Nat) (cells : List Nat) : (State.setCopy s spare bank cells).br = s.br := rfl
@[simp] theorem State.setCopy_engs (s : State) (spare bank : Nat) (cells : List Nat) : (State.setCopy s spare bank cells).engs = s.engs := rfl
@[simp] theorem State.setCopy_pwr (s : State) (spare bank : Nat) (cells : List Nat) : (State.setCopy s spare bank cells).pwr = s.pwr := rfl
@[simp] theorem State.setCopy_vault (s : State) (spare bank : Nat) (cells : List Nat) : (State.setCopy s spare bank cells).vault = s.vault := rfl
@[simp] theorem State.setCopy_otp (s : State) (spare bank : Nat) (cells : List Nat) : (State.setCopy s spare bank cells).otp = s.otp := rfl
@[simp] theorem State.setCopy_rep (s : State) (spare bank : Nat) (cells : List Nat) : (State.setCopy s spare bank cells).rep = s.rep := rfl
@[simp] theorem State.setCopy_usb (s : State) (spare bank : Nat) (cells : List Nat) : (State.setCopy s spare bank cells).usb = s.usb := rfl
@[simp] theorem State.setCopy_smbPtr (s : State) (spare bank : Nat) (cells : List Nat) : (State.setCopy s spare bank cells).smbPtr = s.smbPtr := rfl
@[simp] theorem State.setCopy_freeCtr (s : State) (spare bank : Nat) (cells : List Nat) : (State.setCopy s spare bank cells).freeCtr = s.freeCtr := rfl
@[simp] theorem State.setCopy_mem (s : State) (spare bank : Nat) (cells : List Nat) : (State.setCopy s spare bank cells).mem = s.mem := rfl

/-! `State.endCopy` -/

@[simp] theorem State.endCopy_pending (s : State) (spare : Nat) : (State.endCopy s spare).pending = s.pending := rfl
@[simp] theorem State.endCopy_regs (s : State) (spare : Nat) : (State.endCopy s spare).regs = s.regs := rfl
@[simp] theorem State.endCopy_lag (s : State) (spare : Nat) : (State.endCopy s spare).lag = s.lag := rfl
@[simp] theorem State.endCopy_sig (s : State) (spare : Nat) : (State.endCopy s spare).sig = s.sig := rfl
@[simp] theorem State.endCopy_slots (s : State) (spare : Nat) : (State.endCopy s spare).slots = s.slots := rfl
@[simp] theorem State.endCopy_latch (s : State) (spare : Nat) : (State.endCopy s spare).latch = s.latch := rfl
@[simp] theorem State.endCopy_time (s : State) (spare : Nat) : (State.endCopy s spare).time = s.time := rfl
@[simp] theorem State.endCopy_gov (s : State) (spare : Nat) : (State.endCopy s spare).gov = s.gov := rfl
@[simp] theorem State.endCopy_pool (s : State) (spare : Nat) : (State.endCopy s spare).pool = s.pool := rfl
@[simp] theorem State.endCopy_gd (s : State) (spare : Nat) : (State.endCopy s spare).gd = s.gd := rfl
@[simp] theorem State.endCopy_port (s : State) (spare : Nat) : (State.endCopy s spare).port = s.port := rfl
@[simp] theorem State.endCopy_link (s : State) (spare : Nat) : (State.endCopy s spare).link = s.link := rfl
@[simp] theorem State.endCopy_repair (s : State) (spare : Nat) : (State.endCopy s spare).repair = s.repair := rfl
@[simp] theorem State.endCopy_pow (s : State) (spare : Nat) : (State.endCopy s spare).pow = s.pow := rfl
@[simp] theorem State.endCopy_scan (s : State) (spare : Nat) : (State.endCopy s spare).scan = s.scan := rfl
@[simp] theorem State.endCopy_br (s : State) (spare : Nat) : (State.endCopy s spare).br = s.br := rfl
@[simp] theorem State.endCopy_engs (s : State) (spare : Nat) : (State.endCopy s spare).engs = s.engs := rfl
@[simp] theorem State.endCopy_pwr (s : State) (spare : Nat) : (State.endCopy s spare).pwr = s.pwr := rfl
@[simp] theorem State.endCopy_vault (s : State) (spare : Nat) : (State.endCopy s spare).vault = s.vault := rfl
@[simp] theorem State.endCopy_otp (s : State) (spare : Nat) : (State.endCopy s spare).otp = s.otp := rfl
@[simp] theorem State.endCopy_rep (s : State) (spare : Nat) : (State.endCopy s spare).rep = s.rep := rfl
@[simp] theorem State.endCopy_usb (s : State) (spare : Nat) : (State.endCopy s spare).usb = s.usb := rfl
@[simp] theorem State.endCopy_smbPtr (s : State) (spare : Nat) : (State.endCopy s spare).smbPtr = s.smbPtr := rfl
@[simp] theorem State.endCopy_freeCtr (s : State) (spare : Nat) : (State.endCopy s spare).freeCtr = s.freeCtr := rfl
@[simp] theorem State.endCopy_mem (s : State) (spare : Nat) : (State.endCopy s spare).mem = s.mem := rfl

/-! `State.clearReq` -/

@[simp] theorem State.clearReq_pending (s : State) (d : Nat) : (State.clearReq s d).pending = s.pending := rfl
@[simp] theorem State.clearReq_pwr (s : State) (d : Nat) : (State.clearReq s d).pwr = s.pwr := rfl
@[simp] theorem State.clearReq_lag (s : State) (d : Nat) : (State.clearReq s d).lag = s.lag := rfl
@[simp] theorem State.clearReq_sig (s : State) (d : Nat) : (State.clearReq s d).sig = s.sig := rfl
@[simp] theorem State.clearReq_slots (s : State) (d : Nat) : (State.clearReq s d).slots = s.slots := rfl
@[simp] theorem State.clearReq_latch (s : State) (d : Nat) : (State.clearReq s d).latch = s.latch := rfl
@[simp] theorem State.clearReq_time (s : State) (d : Nat) : (State.clearReq s d).time = s.time := rfl
@[simp] theorem State.clearReq_sw (s : State) (d : Nat) : (State.clearReq s d).sw = s.sw := rfl
@[simp] theorem State.clearReq_gov (s : State) (d : Nat) : (State.clearReq s d).gov = s.gov := rfl
@[simp] theorem State.clearReq_pool (s : State) (d : Nat) : (State.clearReq s d).pool = s.pool := rfl
@[simp] theorem State.clearReq_gd (s : State) (d : Nat) : (State.clearReq s d).gd = s.gd := rfl
@[simp] theorem State.clearReq_port (s : State) (d : Nat) : (State.clearReq s d).port = s.port := rfl
@[simp] theorem State.clearReq_link (s : State) (d : Nat) : (State.clearReq s d).link = s.link := rfl
@[simp] theorem State.clearReq_repair (s : State) (d : Nat) : (State.clearReq s d).repair = s.repair := rfl
@[simp] theorem State.clearReq_pow (s : State) (d : Nat) : (State.clearReq s d).pow = s.pow := rfl
@[simp] theorem State.clearReq_scan (s : State) (d : Nat) : (State.clearReq s d).scan = s.scan := rfl
@[simp] theorem State.clearReq_br (s : State) (d : Nat) : (State.clearReq s d).br = s.br := rfl
@[simp] theorem State.clearReq_engs (s : State) (d : Nat) : (State.clearReq s d).engs = s.engs := rfl
@[simp] theorem State.clearReq_vault (s : State) (d : Nat) : (State.clearReq s d).vault = s.vault := rfl
@[simp] theorem State.clearReq_otp (s : State) (d : Nat) : (State.clearReq s d).otp = s.otp := rfl
@[simp] theorem State.clearReq_rep (s : State) (d : Nat) : (State.clearReq s d).rep = s.rep := rfl
@[simp] theorem State.clearReq_usb (s : State) (d : Nat) : (State.clearReq s d).usb = s.usb := rfl
@[simp] theorem State.clearReq_smbPtr (s : State) (d : Nat) : (State.clearReq s d).smbPtr = s.smbPtr := rfl
@[simp] theorem State.clearReq_freeCtr (s : State) (d : Nat) : (State.clearReq s d).freeCtr = s.freeCtr := rfl
@[simp] theorem State.clearReq_mem (s : State) (d : Nat) : (State.clearReq s d).mem = s.mem := rfl

/-! `State.resetPtrs` -/

@[simp] theorem State.resetPtrs_pending (s : State) (p : Nat) : (State.resetPtrs s p).pending = s.pending := rfl
@[simp] theorem State.resetPtrs_regs (s : State) (p : Nat) : (State.resetPtrs s p).regs = s.regs := rfl
@[simp] theorem State.resetPtrs_lag (s : State) (p : Nat) : (State.resetPtrs s p).lag = s.lag := rfl
@[simp] theorem State.resetPtrs_sig (s : State) (p : Nat) : (State.resetPtrs s p).sig = s.sig := rfl
@[simp] theorem State.resetPtrs_slots (s : State) (p : Nat) : (State.resetPtrs s p).slots = s.slots := rfl
@[simp] theorem State.resetPtrs_latch (s : State) (p : Nat) : (State.resetPtrs s p).latch = s.latch := rfl
@[simp] theorem State.resetPtrs_time (s : State) (p : Nat) : (State.resetPtrs s p).time = s.time := rfl
@[simp] theorem State.resetPtrs_gov (s : State) (p : Nat) : (State.resetPtrs s p).gov = s.gov := rfl
@[simp] theorem State.resetPtrs_pool (s : State) (p : Nat) : (State.resetPtrs s p).pool = s.pool := rfl
@[simp] theorem State.resetPtrs_gd (s : State) (p : Nat) : (State.resetPtrs s p).gd = s.gd := rfl
@[simp] theorem State.resetPtrs_port (s : State) (p : Nat) : (State.resetPtrs s p).port = s.port := rfl
@[simp] theorem State.resetPtrs_link (s : State) (p : Nat) : (State.resetPtrs s p).link = s.link := rfl
@[simp] theorem State.resetPtrs_repair (s : State) (p : Nat) : (State.resetPtrs s p).repair = s.repair := rfl
@[simp] theorem State.resetPtrs_pow (s : State) (p : Nat) : (State.resetPtrs s p).pow = s.pow := rfl
@[simp] theorem State.resetPtrs_scan (s : State) (p : Nat) : (State.resetPtrs s p).scan = s.scan := rfl
@[simp] theorem State.resetPtrs_br (s : State) (p : Nat) : (State.resetPtrs s p).br = s.br := rfl
@[simp] theorem State.resetPtrs_engs (s : State) (p : Nat) : (State.resetPtrs s p).engs = s.engs := rfl
@[simp] theorem State.resetPtrs_pwr (s : State) (p : Nat) : (State.resetPtrs s p).pwr = s.pwr := rfl
@[simp] theorem State.resetPtrs_vault (s : State) (p : Nat) : (State.resetPtrs s p).vault = s.vault := rfl
@[simp] theorem State.resetPtrs_otp (s : State) (p : Nat) : (State.resetPtrs s p).otp = s.otp := rfl
@[simp] theorem State.resetPtrs_rep (s : State) (p : Nat) : (State.resetPtrs s p).rep = s.rep := rfl
@[simp] theorem State.resetPtrs_usb (s : State) (p : Nat) : (State.resetPtrs s p).usb = s.usb := rfl
@[simp] theorem State.resetPtrs_smbPtr (s : State) (p : Nat) : (State.resetPtrs s p).smbPtr = s.smbPtr := rfl
@[simp] theorem State.resetPtrs_freeCtr (s : State) (p : Nat) : (State.resetPtrs s p).freeCtr = s.freeCtr := rfl
@[simp] theorem State.resetPtrs_mem (s : State) (p : Nat) : (State.resetPtrs s p).mem = s.mem := rfl

/-! `State.setMsgs` -/

@[simp] theorem State.setMsgs_pending (s : State) (l : List CoreMsg) : (State.setMsgs s l).pending = s.pending := rfl
@[simp] theorem State.setMsgs_regs (s : State) (l : List CoreMsg) : (State.setMsgs s l).regs = s.regs := rfl
@[simp] theorem State.setMsgs_lag (s : State) (l : List CoreMsg) : (State.setMsgs s l).lag = s.lag := rfl
@[simp] theorem State.setMsgs_sig (s : State) (l : List CoreMsg) : (State.setMsgs s l).sig = s.sig := rfl
@[simp] theorem State.setMsgs_slots (s : State) (l : List CoreMsg) : (State.setMsgs s l).slots = s.slots := rfl
@[simp] theorem State.setMsgs_latch (s : State) (l : List CoreMsg) : (State.setMsgs s l).latch = s.latch := rfl
@[simp] theorem State.setMsgs_time (s : State) (l : List CoreMsg) : (State.setMsgs s l).time = s.time := rfl
@[simp] theorem State.setMsgs_gov (s : State) (l : List CoreMsg) : (State.setMsgs s l).gov = s.gov := rfl
@[simp] theorem State.setMsgs_pool (s : State) (l : List CoreMsg) : (State.setMsgs s l).pool = s.pool := rfl
@[simp] theorem State.setMsgs_gd (s : State) (l : List CoreMsg) : (State.setMsgs s l).gd = s.gd := rfl
@[simp] theorem State.setMsgs_port (s : State) (l : List CoreMsg) : (State.setMsgs s l).port = s.port := rfl
@[simp] theorem State.setMsgs_link (s : State) (l : List CoreMsg) : (State.setMsgs s l).link = s.link := rfl
@[simp] theorem State.setMsgs_repair (s : State) (l : List CoreMsg) : (State.setMsgs s l).repair = s.repair := rfl
@[simp] theorem State.setMsgs_pow (s : State) (l : List CoreMsg) : (State.setMsgs s l).pow = s.pow := rfl
@[simp] theorem State.setMsgs_scan (s : State) (l : List CoreMsg) : (State.setMsgs s l).scan = s.scan := rfl
@[simp] theorem State.setMsgs_br (s : State) (l : List CoreMsg) : (State.setMsgs s l).br = s.br := rfl
@[simp] theorem State.setMsgs_engs (s : State) (l : List CoreMsg) : (State.setMsgs s l).engs = s.engs := rfl
@[simp] theorem State.setMsgs_pwr (s : State) (l : List CoreMsg) : (State.setMsgs s l).pwr = s.pwr := rfl
@[simp] theorem State.setMsgs_vault (s : State) (l : List CoreMsg) : (State.setMsgs s l).vault = s.vault := rfl
@[simp] theorem State.setMsgs_otp (s : State) (l : List CoreMsg) : (State.setMsgs s l).otp = s.otp := rfl
@[simp] theorem State.setMsgs_rep (s : State) (l : List CoreMsg) : (State.setMsgs s l).rep = s.rep := rfl
@[simp] theorem State.setMsgs_usb (s : State) (l : List CoreMsg) : (State.setMsgs s l).usb = s.usb := rfl
@[simp] theorem State.setMsgs_smbPtr (s : State) (l : List CoreMsg) : (State.setMsgs s l).smbPtr = s.smbPtr := rfl
@[simp] theorem State.setMsgs_freeCtr (s : State) (l : List CoreMsg) : (State.setMsgs s l).freeCtr = s.freeCtr := rfl
@[simp] theorem State.setMsgs_mem (s : State) (l : List CoreMsg) : (State.setMsgs s l).mem = s.mem := rfl

@[simp] theorem State.setMsgs_msgs (s : State) (l : List CoreMsg) : (State.setMsgs s l).sw.msgs = l := rfl

end Sys2Proof.Machine
end

