-- ==== Sys2Proof/Laws/Tbl.lean ====
section
/-! SUPPORT. The laws of tables: reading after a write, and the canonical form that every write keeps. -/

namespace Sys2Proof.Machine

variable {α : Type}

theorem tget_tset (d : α) (t : Tbl α) (x y : Nat) (a : α) : tget d (tset t x a) y = if y = x then a else tget d t y := by
  induction t with
  | nil => simp only [tset, tget]
  | cons p t ih =>
    obtain ⟨k, v⟩ := p
    unfold tset
    split
    · simp only [tget]
    · split
      · rename_i h1 h2
        subst h2
        simp only [tget]
        split <;> simp_all
      · simp only [tget, ih]
        split
        · rename_i h1 h2 h3
          subst h3
          rw [if_neg (by omega)]
        · rfl

theorem tget_tdel (d : α) (t : Tbl α) (x y : Nat) : tget d (tdel t x) y = if y = x then d else tget d t y := by
  induction t with
  | nil => simp [tdel, tget]
  | cons p t ih =>
    obtain ⟨k, v⟩ := p
    unfold tdel at *
    by_cases hk : k = x
    · subst hk
      simp only [List.filter_cons, bne_self_eq_false, Bool.false_eq_true, if_false, ih, tget]
      split <;> simp_all
    · simp only [List.filter_cons, bne_iff_ne, ne_eq, hk, not_false_eq_true, if_true, tget, ih]
      split
      · rename_i h
        subst h
        rw [if_neg hk]
      · rfl

/-- A write is read back, and every other key reads as before. -/
theorem tget_tput [DecidableEq α] (d : α) (t : Tbl α) (x y : Nat) (a : α) :
    tget d (tput d t x a) y = if y = x then a else tget d t y := by
  unfold tput
  split
  · rename_i h
    subst h
    exact tget_tdel ..
  · exact tget_tset ..

/-- Every key of a sorted table's tail is above its head. -/
theorem tsorted_cons {k : Nat} {v : α} {t : Tbl α} : tsorted ((k, v) :: t) = true ↔ (∀ p ∈ t, k < p.1) ∧ tsorted t = true := by
  induction t generalizing k v with
  | nil => simp [tsorted]
  | cons q t ih =>
    obtain ⟨k', v'⟩ := q
    simp only [tsorted, Bool.and_eq_true, decide_eq_true_eq, List.mem_cons, forall_eq_or_imp]
    constructor
    · rintro ⟨h1, h2⟩
      refine ⟨⟨h1, fun p hp => ?_⟩, h2⟩
      have := (ih.mp h2).1 p hp
      omega
    · rintro ⟨⟨h1, _⟩, h2⟩
      exact ⟨h1, h2⟩

theorem mem_tset {t : Tbl α} {x : Nat} {a : α} {p : Nat × α} (h : p ∈ tset t x a) : p = (x, a) ∨ p ∈ t := by
  induction t with
  | nil => simpa [tset] using h
  | cons q t ih =>
    obtain ⟨k, v⟩ := q
    unfold tset at h
    split at h
    · simpa using h
    · split at h
      · rcases List.mem_cons.mp h with h | h
        · exact .inl h
        · exact .inr (List.mem_cons_of_mem _ h)
      · rcases List.mem_cons.mp h with h | h
        · exact .inr (h ▸ List.mem_cons_self)
        · rcases ih h with h | h
          · exact .inl h
          · exact .inr (List.mem_cons_of_mem _ h)

theorem tset_sorted {t : Tbl α} (x : Nat) (a : α) (h : tsorted t = true) : tsorted (tset t x a) = true := by
  induction t with
  | nil => rfl
  | cons q t ih =>
    obtain ⟨k, v⟩ := q
    have hc := tsorted_cons.mp h
    unfold tset
    split
    · rename_i hx
      refine tsorted_cons.mpr ⟨?_, h⟩
      intro p hp
      rcases List.mem_cons.mp hp with rfl | hp
      · exact hx
      · have := hc.1 p hp
        omega
    · split
      · rename_i hx
        subst hx
        exact tsorted_cons.mpr hc
      · refine tsorted_cons.mpr ⟨?_, ih hc.2⟩
        intro p hp
        rcases mem_tset hp with rfl | hp
        · show k < x
          omega
        · exact hc.1 p hp

theorem tdel_sorted {t : Tbl α} (x : Nat) (h : tsorted t = true) : tsorted (tdel t x) = true := by
  induction t with
  | nil => rfl
  | cons q t ih =>
    obtain ⟨k, v⟩ := q
    have hc := tsorted_cons.mp h
    unfold tdel at *
    rw [List.filter_cons]
    split
    · refine tsorted_cons.mpr ⟨fun p hp => hc.1 p (List.mem_filter.mp hp).1, ih hc.2⟩
    · exact ih hc.2

theorem tput_sorted [DecidableEq α] (d : α) {t : Tbl α} (x : Nat) (a : α) (h : tsorted t = true) : tsorted (tput d t x a) = true := by
  unfold tput
  split
  · exact tdel_sorted x h
  · exact tset_sorted x a h

/-- A write with a default lists no default. -/
theorem tput_listed [DecidableEq α] (d : α) {t : Tbl α} (x : Nat) (a : α) (h : ∀ p ∈ t, p.2 ≠ d) : ∀ p ∈ tput d t x a, p.2 ≠ d := by
  unfold tput
  split
  · exact fun p hp => h p (List.mem_filter.mp hp).1
  · rename_i ha
    intro p hp
    rcases mem_tset hp with rfl | hp
    · exact ha
    · exact h p hp

end Sys2Proof.Machine
end

