-- ==== Sys2Proof/Laws/Fields.lean ====
section
/-! SUPPORT. Reading a register field after a write, and the fields that the other parts of State do not touch. -/

namespace Sys2Proof.Machine

/-- A field reads the value written to it, cut to its width. -/
theorem State.get_set (s : State) (f : Fld) (v : Nat) : (s.set f v).get f = v % 2 ^ f.width := by
  unfold State.get State.set
  rw [tget_tput, if_pos rfl]

/-- A write leaves every other field as it was. -/
theorem State.get_set_ne (s : State) {f g : Fld} (v : Nat) (h : g.key ≠ f.key) : (s.set f v).get g = s.get g := by
  unfold State.get State.set
  by_cases hr : f.reset = g.reset
  · rw [← hr, tget_tput, if_neg h]
  · dsimp only
    unfold tput
    split
    · rw [tget_tdel, if_neg h]
    · rw [tget_tset, if_neg h]

/-- A state whose registers are those of another reads the same in every field. -/
theorem State.get_of_regs {s t : State} (h : t.regs = s.regs) (f : Fld) : t.get f = s.get f := by
  unfold State.get
  rw [h]

/-- A register write keeps the ascending order of the registers. -/
theorem State.set_sorted (s : State) (f : Fld) (v : Nat) (h : tsorted s.regs = true) : tsorted (s.set f v).regs = true :=
  tput_sorted f.reset _ _ h

/-- A word of an engine memory reads as written, and every other word as before. -/
theorem State.engWord_setEngWord (s : State) (e sp off v e' sp' off' : Nat) :
    (s.setEngWord e sp off v).engWord e' sp' off' = if engKey e' sp' off' = engKey e sp off then v % 2 ^ 32 else s.engWord e' sp' off' := by
  unfold State.engWord State.setEngWord
  exact tget_tput ..

end Sys2Proof.Machine
end

