-- ==== Sys2Proof/Laws/Events.lean ====
section
/-! SUPPORT. Raising an event (R369): its EVT_STAT bit stands afterwards, no other EVT_STAT bit falls, and no register field changes. -/

set_option linter.all false

namespace Sys2Proof.Machine

theorem State.raise_get (s : State) (ev : Nat) (f : Fld) : (s.raise ev).get f = s.get f := rfl

theorem State.raiseIf_get (s : State) (c : Bool) (ev : Nat) (f : Fld) : (s.raiseIf c ev).get f = s.get f := by
  cases c <;> rfl

theorem State.redeliver_get (s : State) (ev : Nat) (f : Fld) : (s.redeliver ev).get f = s.get f := by
  unfold State.redeliver State.redeliverAs
  split <;> rfl

theorem State.emit_get (s : State) (o : Out) (f : Fld) : (s.emit o).get f = s.get f := rfl

theorem State.emit_evStat (s : State) (o : Out) (e : Nat) : (s.emit o).evStat e = s.evStat e := rfl

theorem State.set_evStat (s : State) (f : Fld) (v e : Nat) : (s.set f v).evStat e = s.evStat e := rfl

theorem State.setTgt_evStat (s : State) (t : Nat) (r : TgtRec) (e : Nat) : (s.setTgt t r).evStat e = s.evStat e := rfl

theorem State.setMail_evStat (s : State) (h : Nat) (m : Mail) (e : Nat) : (s.setMail h m).evStat e = s.evStat e := rfl

theorem State.setEv_evStat (s : State) (ev : Nat) (r : EvRec) (e : Nat) :
    (s.setEv ev r).evStat e = if e = ev then r.stat else s.evStat e := by
  unfold State.evStat State.evRec State.setEv
  dsimp only
  rw [tget_tset]
  split <;> rfl

/-- An operation that lets no EVT_STAT bit fall. -/
def EvKept (s t : State) : Prop := ∀ e, s.evStat e = true → t.evStat e = true

theorem EvKept.refl (s : State) : EvKept s s := fun _ h => h

theorem EvKept.trans {s t u : State} (a : EvKept s t) (b : EvKept t u) : EvKept s u := fun e h => b e (a e h)

theorem State.setEv_kept (s : State) (ev : Nat) (r : EvRec) (h : s.evStat ev = true → r.stat = true) : EvKept s (s.setEv ev r) := by
  intro e he
  rw [State.setEv_evStat]
  split
  · rename_i h1
    subst h1
    exact h he
  · exact he

theorem State.sendVec_evStat (s : State) (t v e : Nat) : (s.sendVec t v).evStat e = s.evStat e := by
  unfold State.sendVec
  extract_lets
  split <;> rfl

theorem State.request_evStat (s : State) (t : Nat) (fast : Bool) (e : Nat) : (s.request t fast).evStat e = s.evStat e := by
  unfold State.request
  split
  · split
    · exact State.sendVec_evStat ..
    · rfl
  · rfl

theorem State.storeWords_evStat (s : State) (e off : Nat) (l : List Nat) (ev : Nat) : (s.storeWords e off l).evStat ev = s.evStat ev := by
  induction l generalizing s off with
  | nil => rfl
  | cons w l ih => exact (ih _ _).trans rfl

theorem State.putRec_evStat (s : State) (h : Nat) (r : Rec) (e : Nat) : (s.putRec h r).1.evStat e = s.evStat e := by
  unfold State.putRec
  dsimp only
  split
  · dsimp only
    split
    · rw [State.request_evStat]
      rfl
    · rfl
  · rfl

theorem State.putEngRec_evStat (s : State) (t : Nat) (r : Rec) (e : Nat) : (s.putEngRec t r).1.evStat e = s.evStat e := by
  unfold State.putEngRec
  dsimp only
  split
  · rfl
  · dsimp only
    split
    · rw [State.request_evStat, State.setTgt_evStat, State.storeWords_evStat]
    · rw [State.setTgt_evStat, State.storeWords_evStat]

theorem State.claimable_evStat (s : State) (t ev : Nat) (fast : Bool) (e : Nat) : (s.claimable t ev fast).evStat e = s.evStat e := by
  unfold State.claimable
  dsimp only
  repeat' split
  all_goals first | rfl | (rw [State.request_evStat]; rfl)

theorem State.deliver_kept (s : State) (ev pg : Nat) (fast : Bool) : EvKept s (s.deliver ev pg fast).1 := by
  intro e he
  unfold State.deliver
  dsimp only
  have key : ∀ (u : State) (r : EvRec), u.evStat e = s.evStat e → r.stat = (s.evRec ev).stat → (u.setEv ev r).evStat e = true := by
    intro u r hu hr
    rw [State.setEv_evStat]
    split
    · rename_i h
      subst h
      rw [hr]
      exact he
    · rw [hu]
      exact he
  split
  · exact key _ _ rfl rfl
  · split
    · dsimp only
      rw [State.claimable_evStat]
      exact key _ _ rfl rfl
    · split
      · dsimp only
        rw [State.putRec_evStat]
        exact key _ _ rfl rfl
      · dsimp only
        rw [State.putEngRec_evStat]
        exact key _ _ rfl rfl

theorem State.occur_kept (s : State) (ev : Nat) : EvKept s (s.occur ev).1 := by
  unfold State.occur
  split
  · exact EvKept.refl s
  · dsimp only
    split
    · exact EvKept.trans (State.setEv_kept s ev _ (fun _ => rfl)) (State.deliver_kept _ _ _ _)
    · exact State.setEv_kept s ev _ (fun _ => rfl)

theorem State.occur_evStat (s : State) {ev : Nat} {q : Nat × Nat} (h : evSrc ev = some q) : (s.occur ev).1.evStat ev = true := by
  unfold State.occur
  rw [h]
  dsimp only
  have e : ∀ r : EvRec, r.stat = true → (s.setEv ev r).evStat ev = true := fun r hr => by rw [State.setEv_evStat, if_pos rfl, hr]
  split
  · exact State.deliver_kept _ _ _ _ _ (e _ rfl)
  · exact e _ rfl

theorem State.occurAll_kept (n : Nat) (s : State) (l : List Nat) : EvKept s (s.occurAll n l) := by
  induction n generalizing s l with
  | zero => exact EvKept.refl s
  | succ n ih =>
    cases l with
    | nil => exact EvKept.refl s
    | cons e l => exact (State.occur_kept s e).trans (ih _ _)

/-- The EVT_STAT bit of a raised event stands. -/
theorem State.raise_evStat (s : State) {ev : Nat} {q : Nat × Nat} (h : evSrc ev = some q) : (s.raise ev).evStat ev = true :=
  State.occurAll_kept 39 _ _ _ (State.occur_evStat s h)

/-- Raising an event lets no EVT_STAT bit fall. -/
theorem State.raise_kept (s : State) (ev : Nat) : EvKept s (s.raise ev) := fun e h => State.occurAll_kept 40 s [ev] e h

theorem State.raiseIf_kept (s : State) (c : Bool) (ev : Nat) : EvKept s (s.raiseIf c ev) := by
  cases c
  · exact EvKept.refl s
  · exact State.raise_kept s ev

end Sys2Proof.Machine
end

