-- ==== Sys2Proof/Laws/Frame.lean ====
section
/-! SUPPORT. What a step may change, part by part: the relation that the lemmas of Laws/Frame*.lean state of every operation, and how it
composes. -/

namespace Sys2Proof.Machine

/-- Every part whose bit stands in `k` holds the same in both states. -/
structure Same (k : Nat) (s t : State) : Prop where
  part : ∀ p : StatePart, k.testBit p.no = true → p.same s t

theorem StatePart.same_refl (p : StatePart) (s : State) : p.same s s := by cases p <;> rfl

theorem StatePart.same_trans {p : StatePart} {s t u : State} (a : p.same s t) (b : p.same t u) : p.same s u := by
  cases p <;> exact Eq.trans b a

theorem Same.refl {k : Nat} (s : State) : Same k s s := ⟨fun p _ => p.same_refl s⟩

theorem Same.trans {k : Nat} {s t u : State} (a : Same k s t) (b : Same k t u) : Same k s u :=
  ⟨fun p h => StatePart.same_trans (a.part p h) (b.part p h)⟩

theorem bit_sub {k m p : Nat} (h : Nat.land k m = k) (hp : m.testBit p = false) : k.testBit p = false := by
  have e : k.testBit p = (k &&& m).testBit p := by rw [show k &&& m = k from h]
  rw [e, Nat.testBit_and, hp, Bool.and_false]

theorem bit_of_sub {k m p : Nat} (h : Nat.land k m = k) (hp : k.testBit p = true) : m.testBit p = true := by
  cases hm : m.testBit p with
  | true => rfl
  | false => rw [bit_sub h hm] at hp; exact hp

theorem sub_trans {k m n : Nat} (h : Nat.land k m = k) (g : Nat.land m n = m) : Nat.land k n = k := by
  have e : (k &&& m) &&& n = k &&& m := by rw [Nat.and_assoc]; rw [show m &&& n = m from g]
  rw [show k &&& m = k from h] at e
  exact e

theorem Same.weaken {k m : Nat} {s t : State} (h : Nat.land k m = k) (a : Same m s t) : Same k s t :=
  ⟨fun p hp => a.part p (bit_of_sub h hp)⟩

/-- One operation, after others. -/
theorem Same.step {k m : Nat} {s t u : State} (h : Nat.land k m = k) (b : Same m t u) (a : Same k s t) : Same k s u :=
  a.trans (b.weaken h)

theorem Same.ite {k : Nat} {s t u : State} {c : Prop} [Decidable c] (a : Same k s t) (b : Same k s u) :
    Same k s (if c then t else u) := by
  split
  · exact a
  · exact b

theorem Same.ite1 {k : Nat} {s : State} {α : Type} {c : Prop} [Decidable c] {t u : State × α} (a : Same k s t.1) (b : Same k s u.1) :
    Same k s (if c then t else u).1 := by
  split
  · exact a
  · exact b

theorem Same.ite2 {k : Nat} {s : State} {α : Type} {c : Prop} [Decidable c] {t u : α × State} (a : Same k s t.2) (b : Same k s u.2) :
    Same k s (if c then t else u).2 := by
  split
  · exact a
  · exact b

/-- An answer, where there is one, leaves the parts as they are. -/
inductive SameOpt (k : Nat) (s : State) : Option State → Prop where
  | none : SameOpt k s none
  | some {t : State} (a : Same k s t) : SameOpt k s (some t)

theorem SameOpt.of {k : Nat} {s t : State} {o : Option State} (a : SameOpt k s o) (e : o = Option.some t) : Same k s t := by
  cases a with
  | none => cases e
  | some a => cases e; exact a

theorem SameOpt.ite {k : Nat} {s : State} {c : Prop} [Decidable c] {t u : Option State} (a : SameOpt k s t) (b : SameOpt k s u) :
    SameOpt k s (if c then t else u) := by
  split
  · exact a
  · exact b

theorem SameOpt.map {k : Nat} {α : Type} {s : State} {f : α → State} {o : Option α} (h : ∀ a, Same k s (f a)) : SameOpt k s (o.map f) := by
  cases o with
  | none => exact .none
  | some a => exact .some (h a)

theorem SameOpt.trans {k : Nat} {s t : State} {o : Option State} (a : Same k s t) (b : SameOpt k t o) : SameOpt k s o := by
  cases b with
  | none => exact .none
  | some b => exact .some (a.trans b)

theorem SameOpt.weaken {k m : Nat} {s : State} {o : Option State} (h : Nat.land k m = k) (a : SameOpt m s o) : SameOpt k s o := by
  cases a with
  | none => exact .none
  | some a => exact .some (a.weaken h)

/-- A command goes on and keeps the parts of `k`. -/
def Runs (k : Nat) (s : State) (o : Host.Outcome State Fault Refusal) : Prop := ∃ t, o = .next t ∧ Same k s t

theorem Runs.next {k : Nat} {s t : State} (h : Same k s t) : Runs k s (.next t) := ⟨t, rfl, h⟩

theorem foldl_same {k : Nat} {α : Type} (g : State → α → State) (l : List α) (s : State) (h : ∀ s a, Same k s (g s a)) :
    Same k s (l.foldl g s) := by
  induction l generalizing s with
  | nil => exact .refl s
  | cons a l ih => exact (h s a).trans (ih _)

theorem foldl_same1 {k : Nat} {α β : Type} (g : State × β → α → State × β) (l : List α) (p : State × β)
    (h : ∀ p a, Same k p.1 (g p a).1) : Same k p.1 (l.foldl g p).1 := by
  induction l generalizing p with
  | nil => exact .refl _
  | cons a l ih => exact (h p a).trans (ih _)

/-- A part whose bit does not stand. -/
theorem bit_clear {k n : Nat} (h : Nat.land k (2 ^ n) = 0) : k.testBit n = false := by
  have e : (k &&& 2 ^ n).testBit n = false := by rw [show k &&& 2 ^ n = 0 from h]; exact Nat.zero_testBit n
  rwa [Nat.testBit_and, Nat.testBit_two_pow_self, Bool.and_true] at e

theorem land_sub {k m n : Nat} (h : Nat.land k m = k) (g : Nat.land m n = 0) : Nat.land k n = 0 := by
  have e : (k &&& m) &&& n = 0 := by rw [Nat.and_assoc, show m &&& n = 0 from g, Nat.and_zero]
  rwa [show k &&& m = k from h] at e

theorem Same.with_pending {k : Nat} {s t : State} {v} (h : Nat.land k 1 = 0) (a : Same k s t) : Same k s { t with pending := v } := by
  constructor
  intro p hp
  have := a.part p hp
  cases p <;> first | exact this | (rw [show StatePart.pending.no = 0 from rfl, bit_clear h] at hp; cases hp)

theorem Same.with_regs {k : Nat} {s t : State} {v} (h : Nat.land k 2 = 0) (a : Same k s t) : Same k s { t with regs := v } := by
  constructor
  intro p hp
  have := a.part p hp
  cases p <;> first | exact this | (rw [show StatePart.regs.no = 1 from rfl, bit_clear h] at hp; cases hp)

theorem Same.with_lag {k : Nat} {s t : State} {v} (h : Nat.land k 4 = 0) (a : Same k s t) : Same k s { t with lag := v } := by
  constructor
  intro p hp
  have := a.part p hp
  cases p <;> first | exact this | (rw [show StatePart.lag.no = 2 from rfl, bit_clear h] at hp; cases hp)

theorem Same.with_sig {k : Nat} {s t : State} {v} (h : Nat.land k 8 = 0) (a : Same k s t) : Same k s { t with sig := v } := by
  constructor
  intro p hp
  have := a.part p hp
  cases p <;> first | exact this | (rw [show StatePart.sig.no = 3 from rfl, bit_clear h] at hp; cases hp)

theorem Same.with_slots {k : Nat} {s t : State} {v} (h : Nat.land k 16 = 0) (a : Same k s t) : Same k s { t with slots := v } := by
  constructor
  intro p hp
  have := a.part p hp
  cases p <;> first | exact this | (rw [show StatePart.slots.no = 4 from rfl, bit_clear h] at hp; cases hp)

theorem Same.with_latch {k : Nat} {s t : State} {v} (h : Nat.land k 32 = 0) (a : Same k s t) : Same k s { t with latch := v } := by
  constructor
  intro p hp
  have := a.part p hp
  cases p <;> first | exact this | (rw [show StatePart.latch.no = 5 from rfl, bit_clear h] at hp; cases hp)

theorem Same.with_time {k : Nat} {s t : State} {v} (h : Nat.land k 64 = 0) (a : Same k s t) : Same k s { t with time := v } := by
  constructor
  intro p hp
  have := a.part p hp
  cases p <;> first | exact this | (rw [show StatePart.time.no = 6 from rfl, bit_clear h] at hp; cases hp)

theorem Same.with_sw {k : Nat} {s t : State} {v} (h : Nat.land k 128 = 0) (a : Same k s t) : Same k s { t with sw := v } := by
  constructor
  intro p hp
  have := a.part p hp
  cases p <;> first | exact this | (rw [show StatePart.sw.no = 7 from rfl, bit_clear h] at hp; cases hp)

theorem Same.with_gov {k : Nat} {s t : State} {v} (h : Nat.land k 256 = 0) (a : Same k s t) : Same k s { t with gov := v } := by
  constructor
  intro p hp
  have := a.part p hp
  cases p <;> first | exact this | (rw [show StatePart.gov.no = 8 from rfl, bit_clear h] at hp; cases hp)

theorem Same.with_pool {k : Nat} {s t : State} {v} (h : Nat.land k 512 = 0) (a : Same k s t) : Same k s { t with pool := v } := by
  constructor
  intro p hp
  have := a.part p hp
  cases p <;> first | exact this | (rw [show StatePart.pool.no = 9 from rfl, bit_clear h] at hp; cases hp)

theorem Same.with_gd {k : Nat} {s t : State} {v} (h : Nat.land k 1024 = 0) (a : Same k s t) : Same k s { t with gd := v } := by
  constructor
  intro p hp
  have := a.part p hp
  cases p <;> first | exact this | (rw [show StatePart.gd.no = 10 from rfl, bit_clear h] at hp; cases hp)

theorem Same.with_port {k : Nat} {s t : State} {v} (h : Nat.land k 2048 = 0) (a : Same k s t) : Same k s { t with port := v } := by
  constructor
  intro p hp
  have := a.part p hp
  cases p <;> first | exact this | (rw [show StatePart.port.no = 11 from rfl, bit_clear h] at hp; cases hp)

theorem Same.with_link {k : Nat} {s t : State} {v} (h : Nat.land k 4096 = 0) (a : Same k s t) : Same k s { t with link := v } := by
  constructor
  intro p hp
  have := a.part p hp
  cases p <;> first | exact this | (rw [show StatePart.link.no = 12 from rfl, bit_clear h] at hp; cases hp)

theorem Same.with_repair {k : Nat} {s t : State} {v} (h : Nat.land k 8192 = 0) (a : Same k s t) : Same k s { t with repair := v } := by
  constructor
  intro p hp
  have := a.part p hp
  cases p <;> first | exact this | (rw [show StatePart.repair.no = 13 from rfl, bit_clear h] at hp; cases hp)

theorem Same.with_pow {k : Nat} {s t : State} {v} (h : Nat.land k 16384 = 0) (a : Same k s t) : Same k s { t with pow := v } := by
  constructor
  intro p hp
  have := a.part p hp
  cases p <;> first | exact this | (rw [show StatePart.pow.no = 14 from rfl, bit_clear h] at hp; cases hp)

theorem Same.with_scan {k : Nat} {s t : State} {v} (h : Nat.land k 32768 = 0) (a : Same k s t) : Same k s { t with scan := v } := by
  constructor
  intro p hp
  have := a.part p hp
  cases p <;> first | exact this | (rw [show StatePart.scan.no = 15 from rfl, bit_clear h] at hp; cases hp)

theorem Same.with_br {k : Nat} {s t : State} {v} (h : Nat.land k 65536 = 0) (a : Same k s t) : Same k s { t with br := v } := by
  constructor
  intro p hp
  have := a.part p hp
  cases p <;> first | exact this | (rw [show StatePart.br.no = 16 from rfl, bit_clear h] at hp; cases hp)

theorem Same.with_engs {k : Nat} {s t : State} {v} (h : Nat.land k 131072 = 0) (a : Same k s t) : Same k s { t with engs := v } := by
  constructor
  intro p hp
  have := a.part p hp
  cases p <;> first | exact this | (rw [show StatePart.engs.no = 17 from rfl, bit_clear h] at hp; cases hp)

theorem Same.with_pwr {k : Nat} {s t : State} {v} (h : Nat.land k 262144 = 0) (a : Same k s t) : Same k s { t with pwr := v } := by
  constructor
  intro p hp
  have := a.part p hp
  cases p <;> first | exact this | (rw [show StatePart.pwr.no = 18 from rfl, bit_clear h] at hp; cases hp)

theorem Same.with_vault {k : Nat} {s t : State} {v} (h : Nat.land k 524288 = 0) (a : Same k s t) : Same k s { t with vault := v } := by
  constructor
  intro p hp
  have := a.part p hp
  cases p <;> first | exact this | (rw [show StatePart.vault.no = 19 from rfl, bit_clear h] at hp; cases hp)

theorem Same.with_otp {k : Nat} {s t : State} {v} (h : Nat.land k 1048576 = 0) (a : Same k s t) : Same k s { t with otp := v } := by
  constructor
  intro p hp
  have := a.part p hp
  cases p <;> first | exact this | (rw [show StatePart.otp.no = 20 from rfl, bit_clear h] at hp; cases hp)

theorem Same.with_rep {k : Nat} {s t : State} {v} (h : Nat.land k 2097152 = 0) (a : Same k s t) : Same k s { t with rep := v } := by
  constructor
  intro p hp
  have := a.part p hp
  cases p <;> first | exact this | (rw [show StatePart.rep.no = 21 from rfl, bit_clear h] at hp; cases hp)

theorem Same.with_usb {k : Nat} {s t : State} {v} (h : Nat.land k 4194304 = 0) (a : Same k s t) : Same k s { t with usb := v } := by
  constructor
  intro p hp
  have := a.part p hp
  cases p <;> first | exact this | (rw [show StatePart.usb.no = 22 from rfl, bit_clear h] at hp; cases hp)

theorem Same.with_smbPtr {k : Nat} {s t : State} {v} (h : Nat.land k 8388608 = 0) (a : Same k s t) : Same k s { t with smbPtr := v } := by
  constructor
  intro p hp
  have := a.part p hp
  cases p <;> first | exact this | (rw [show StatePart.smbPtr.no = 23 from rfl, bit_clear h] at hp; cases hp)

theorem Same.with_freeCtr {k : Nat} {s t : State} {v} (h : Nat.land k 16777216 = 0) (a : Same k s t) : Same k s { t with freeCtr := v } := by
  constructor
  intro p hp
  have := a.part p hp
  cases p <;> first | exact this | (rw [show StatePart.freeCtr.no = 24 from rfl, bit_clear h] at hp; cases hp)

theorem Same.with_mem {k : Nat} {s t : State} {v} (h : Nat.land k 33554432 = 0) (a : Same k s t) : Same k s { t with mem := v } := by
  constructor
  intro p hp
  have := a.part p hp
  cases p <;> first | exact this | (rw [show StatePart.mem.no = 25 from rfl, bit_clear h] at hp; cases hp)

end Sys2Proof.Machine
end

