-- ==== Sys2Proof/Laws/FrameOps.lean ====
section
/-! SUPPORT. What each operation of Machine/Ops.lean may change: every other part of State stays as it is. -/

set_option linter.all false

namespace Sys2Proof.Machine

theorem State.setEv_same (s : State) (ev : Nat) (r : EvRec) :
    Same 67108855 s (State.setEv s ev r) := by
  unfold State.setEv
  repeat' with_reducible first
    | exact Same.refl _
    | apply Same.ite
    | apply Same.ite1
    | apply Same.ite2
    | extract_lets
    | split
    | dsimp -zeta only
    | dsimp +zetaDelta only
    | apply Same.with_sig (by decide)

theorem State.setTgt_same (s : State) (t : Nat) (r : TgtRec) :
    Same 67108855 s (State.setTgt s t r) := by
  unfold State.setTgt
  repeat' with_reducible first
    | exact Same.refl _
    | apply Same.ite
    | apply Same.ite1
    | apply Same.ite2
    | extract_lets
    | split
    | dsimp -zeta only
    | dsimp +zetaDelta only
    | apply Same.with_sig (by decide)

theorem State.emit_same (s : State) (o : Out) :
    Same 67108855 s (State.emit s o) := by
  unfold State.emit
  repeat' with_reducible first
    | exact Same.refl _
    | apply Same.ite
    | apply Same.ite1
    | apply Same.ite2
    | extract_lets
    | split
    | dsimp -zeta only
    | dsimp +zetaDelta only
    | apply Same.with_sig (by decide)

theorem State.sendVec_same (s : State) (t : Nat) (v : Nat) :
    Same 67108855 s (State.sendVec s t v) := by
  unfold State.sendVec
  repeat' with_reducible first
    | exact Same.refl _
    | apply Same.step (m := 67108855) (by decide) (State.emit_same ..)
    | apply Same.step (m := 67108855) (by decide) (State.setTgt_same ..)
    | apply Same.ite
    | apply Same.ite1
    | apply Same.ite2
    | extract_lets
    | split
    | dsimp -zeta only
    | dsimp +zetaDelta only

theorem State.request_same (s : State) (t : Nat) (fast : Bool) :
    Same 67108855 s (State.request s t fast) := by
  unfold State.request
  repeat' with_reducible first
    | exact Same.refl _
    | apply Same.step (m := 67108855) (by decide) (State.sendVec_same ..)
    | apply Same.ite
    | apply Same.ite1
    | apply Same.ite2
    | extract_lets
    | split
    | dsimp -zeta only
    | dsimp +zetaDelta only

theorem State.claimable_same (s : State) (t : Nat) (ev : Nat) (fast : Bool) :
    Same 67108855 s (State.claimable s t ev fast) := by
  unfold State.claimable
  repeat' with_reducible first
    | exact Same.refl _
    | apply Same.step (m := 67108855) (by decide) (setTgt_same ..)
    | apply Same.step (m := 67108855) (by decide) (request_same ..)
    | apply Same.ite
    | apply Same.ite1
    | apply Same.ite2
    | extract_lets
    | split
    | dsimp -zeta only
    | dsimp +zetaDelta only

theorem State.setMail_same (s : State) (h : Nat) (m : Mail) :
    Same 67108855 s (State.setMail s h m) := by
  unfold State.setMail
  repeat' with_reducible first
    | exact Same.refl _
    | apply Same.ite
    | apply Same.ite1
    | apply Same.ite2
    | extract_lets
    | split
    | dsimp -zeta only
    | dsimp +zetaDelta only
    | apply Same.with_sig (by decide)

theorem State.putRec_same (s : State) (h : Nat) (r : Rec) :
    Same 67108855 s (State.putRec s h r).1 := by
  unfold State.putRec
  repeat' with_reducible first
    | exact Same.refl _
    | apply Same.step (m := 67108855) (by decide) (emit_same ..)
    | apply Same.step (m := 67108855) (by decide) (setMail_same ..)
    | apply Same.step (m := 67108855) (by decide) (request_same ..)
    | apply Same.ite
    | apply Same.ite1
    | apply Same.ite2
    | extract_lets
    | split
    | dsimp -zeta only
    | dsimp +zetaDelta only

theorem State.setEngWord_same (s : State) (e : Nat) (space : Nat) (off : Nat) (v : Nat) :
    Same 33554431 s (State.setEngWord s e space off v) := by
  unfold State.setEngWord
  repeat' with_reducible first
    | exact Same.refl _
    | apply Same.ite
    | apply Same.ite1
    | apply Same.ite2
    | extract_lets
    | split
    | dsimp -zeta only
    | dsimp +zetaDelta only
    | apply Same.with_mem (by decide)

theorem State.storeWords_same (s : State) (e off : Nat) (l : List Nat) : Same 33554431 s (State.storeWords s e off l) := by
  induction l generalizing s off with
  | nil => exact Same.refl _
  | cons w l ih => exact (State.setEngWord_same ..).trans (ih _ _)

theorem State.putEngRec_same (s : State) (t : Nat) (r : Rec) :
    Same 33554423 s (State.putEngRec s t r).1 := by
  unfold State.putEngRec
  repeat' with_reducible first
    | exact Same.refl _
    | apply Same.step (m := 67108855) (by decide) (setTgt_same ..)
    | apply Same.step (m := 33554431) (by decide) (storeWords_same ..)
    | apply Same.step (m := 67108855) (by decide) (request_same ..)
    | apply Same.ite
    | apply Same.ite1
    | apply Same.ite2
    | extract_lets
    | split
    | dsimp -zeta only
    | dsimp +zetaDelta only

theorem State.deliver_same (s : State) (ev : Nat) (pg : Nat) (fast : Bool) :
    Same 33554423 s (State.deliver s ev pg fast).1 := by
  unfold State.deliver
  repeat' with_reducible first
    | exact Same.refl _
    | apply Same.step (m := 67108855) (by decide) (setEv_same ..)
    | apply Same.step (m := 67108855) (by decide) (setTgt_same ..)
    | apply Same.step (m := 67108855) (by decide) (claimable_same ..)
    | apply Same.step (m := 67108855) (by decide) (putRec_same ..)
    | apply Same.step (m := 33554423) (by decide) (putEngRec_same ..)
    | apply Same.ite
    | apply Same.ite1
    | apply Same.ite2
    | extract_lets
    | split
    | dsimp -zeta only
    | dsimp +zetaDelta only
    | apply Same.with_sig (by decide)
    | apply Same.with_mem (by decide)

theorem State.occur_same (s : State) (ev : Nat) :
    Same 33554423 s (State.occur s ev).1 := by
  unfold State.occur
  repeat' with_reducible first
    | exact Same.refl _
    | apply Same.step (m := 67108855) (by decide) (setEv_same ..)
    | apply Same.step (m := 33554423) (by decide) (deliver_same ..)
    | apply Same.ite
    | apply Same.ite1
    | apply Same.ite2
    | extract_lets
    | split
    | dsimp -zeta only
    | dsimp +zetaDelta only

theorem State.occurAll_same (n : Nat) (s : State) (l : List Nat) : Same 33554423 s (State.occurAll n s l) := by
  induction n generalizing s l with
  | zero => exact Same.refl _
  | succ n ih =>
    cases l with
    | nil => exact Same.refl _
    | cons e l => exact (State.occur_same s e).trans (ih _ _)

theorem State.raise_same (s : State) (ev : Nat) :
    Same 67108855 s (State.raise s ev) := by
  unfold State.raise
  repeat' with_reducible first
    | exact Same.refl _
    | apply Same.step (m := 33554423) (by decide) (occurAll_same ..)
    | apply Same.ite
    | apply Same.ite1
    | apply Same.ite2
    | extract_lets
    | split
    | dsimp -zeta only
    | dsimp +zetaDelta only
    | apply Same.with_sig (by decide)

theorem State.set_same (s : State) (f : Fld) (v : Nat) :
    Same 67108861 s (State.set s f v) := by
  unfold State.set
  repeat' with_reducible first
    | exact Same.refl _
    | apply Same.ite
    | apply Same.ite1
    | apply Same.ite2
    | extract_lets
    | split
    | dsimp -zeta only
    | dsimp +zetaDelta only
    | apply Same.with_regs (by decide)

theorem State.sat_same (s : State) (f : Fld) (d : Nat) :
    Same 67108861 s (State.sat s f d) := by
  unfold State.sat
  repeat' with_reducible first
    | exact Same.refl _
    | apply Same.step (m := 67108861) (by decide) (set_same ..)
    | apply Same.ite
    | apply Same.ite1
    | apply Same.ite2
    | extract_lets
    | split
    | dsimp -zeta only
    | dsimp +zetaDelta only

theorem State.sets_same (s : State) (l : List (Fld × Nat)) :
    Same 67108861 s (State.sets s l) := by
  unfold State.sets
  repeat' with_reducible first
    | exact Same.refl _
    | apply Same.step (m := 67108861) (by decide) (set_same ..)
    | apply Same.trans _ (foldl_same _ _ _ (fun _ _ => ?_))
    | apply Same.trans _ (foldl_same1 _ _ _ (fun _ _ => ?_))
    | apply Same.ite
    | apply Same.ite1
    | apply Same.ite2
    | extract_lets
    | split
    | dsimp -zeta only
    | dsimp +zetaDelta only

theorem State.postRec_same (s : State) (h : Nat) (r : Rec) :
    Same 67108855 s (State.postRec s h r) := by
  unfold State.postRec
  repeat' with_reducible first
    | exact Same.refl _
    | apply Same.step (m := 67108855) (by decide) (putRec_same ..)
    | apply Same.step (m := 67108855) (by decide) (raise_same ..)
    | apply Same.ite
    | apply Same.ite1
    | apply Same.ite2
    | extract_lets
    | split
    | dsimp -zeta only
    | dsimp +zetaDelta only
    | apply Same.with_sig (by decide)

theorem State.wrap_same (s : State) (f : Fld) (d : Nat) :
    Same 67108861 s (State.wrap s f d) := by
  unfold State.wrap
  repeat' with_reducible first
    | exact Same.refl _
    | apply Same.step (m := 67108861) (by decide) (set_same ..)
    | apply Same.ite
    | apply Same.ite1
    | apply Same.ite2
    | extract_lets
    | split
    | dsimp -zeta only
    | dsimp +zetaDelta only

theorem State.sub_same (s : State) (f : Fld) (d : Nat) :
    Same 67108861 s (State.sub s f d) := by
  unfold State.sub
  repeat' with_reducible first
    | exact Same.refl _
    | apply Same.step (m := 67108861) (by decide) (set_same ..)
    | apply Same.ite
    | apply Same.ite1
    | apply Same.ite2
    | extract_lets
    | split
    | dsimp -zeta only
    | dsimp +zetaDelta only

theorem State.put_same (s : State) (f : Fld) (b : Bool) :
    Same 67108861 s (State.put s f b) := by
  unfold State.put
  repeat' with_reducible first
    | exact Same.refl _
    | apply Same.step (m := 67108861) (by decide) (set_same ..)
    | apply Same.ite
    | apply Same.ite1
    | apply Same.ite2
    | extract_lets
    | split
    | dsimp -zeta only
    | dsimp +zetaDelta only

theorem State.raiseIf_same (s : State) (c : Bool) (ev : Nat) :
    Same 67108855 s (State.raiseIf s c ev) := by
  unfold State.raiseIf
  repeat' with_reducible first
    | exact Same.refl _
    | apply Same.step (m := 67108855) (by decide) (raise_same ..)
    | apply Same.ite
    | apply Same.ite1
    | apply Same.ite2
    | extract_lets
    | split
    | dsimp -zeta only
    | dsimp +zetaDelta only

theorem State.complete_same (s : State) (h : Nat) (seq : Nat) (status : Nat) (data : Nat) (addr : Nat) :
    Same 67108855 s (State.complete s h seq status data addr) := by
  unfold State.complete
  repeat' with_reducible first
    | exact Same.refl _
    | apply Same.step (m := 67108855) (by decide) (setMail_same ..)
    | apply Same.step (m := 67108855) (by decide) (postRec_same ..)
    | apply Same.ite
    | apply Same.ite1
    | apply Same.ite2
    | extract_lets
    | split
    | dsimp -zeta only
    | dsimp +zetaDelta only

theorem State.stale_same (s : State) (kind : Nat) :
    Same 67108853 s (State.stale s kind) := by
  unfold State.stale
  repeat' with_reducible first
    | exact Same.refl _
    | apply Same.step (m := 67108855) (by decide) (raise_same ..)
    | apply Same.step (m := 67108861) (by decide) (sat_same ..)
    | apply Same.ite
    | apply Same.ite1
    | apply Same.ite2
    | extract_lets
    | split
    | dsimp -zeta only
    | dsimp +zetaDelta only

theorem State.fresh_same (s : State) :
    Same 50331647 s (State.fresh s).2 := by
  unfold State.fresh
  repeat' with_reducible first
    | exact Same.refl _
    | apply Same.ite
    | apply Same.ite1
    | apply Same.ite2
    | extract_lets
    | split
    | dsimp -zeta only
    | dsimp +zetaDelta only
    | apply Same.with_freeCtr (by decide)

theorem State.set64_same (s : State) (lo : Fld) (hi : Fld) (v : Nat) :
    Same 67108861 s (State.set64 s lo hi v) := by
  unfold State.set64
  repeat' with_reducible first
    | exact Same.refl _
    | apply Same.step (m := 67108861) (by decide) (set_same ..)
    | apply Same.ite
    | apply Same.ite1
    | apply Same.ite2
    | extract_lets
    | split
    | dsimp -zeta only
    | dsimp +zetaDelta only

theorem State.setI64_same (s : State) (lo : Fld) (hi : Fld) (v : Int) :
    Same 67108861 s (State.setI64 s lo hi v) := by
  unfold State.setI64
  repeat' with_reducible first
    | exact Same.refl _
    | apply Same.step (m := 67108861) (by decide) (set64_same ..)
    | apply Same.ite
    | apply Same.ite1
    | apply Same.ite2
    | extract_lets
    | split
    | dsimp -zeta only
    | dsimp +zetaDelta only

theorem State.refuse_same (s : State) (p : Path) (addr : Nat) (r : Reason) :
    Same 67108853 s (State.refuse s p addr r) := by
  unfold State.refuse
  repeat' with_reducible first
    | exact Same.refl _
    | apply Same.step (m := 67108855) (by decide) (raise_same ..)
    | apply Same.step (m := 67108861) (by decide) (set_same ..)
    | apply Same.step (m := 67108861) (by decide) (sat_same ..)
    | apply Same.ite
    | apply Same.ite1
    | apply Same.ite2
    | extract_lets
    | split
    | dsimp -zeta only
    | dsimp +zetaDelta only

theorem State.mapPwr_same (s : State) (f : PwrSt → PwrSt) :
    Same 66846719 s (State.mapPwr s f) := by
  unfold State.mapPwr
  repeat' with_reducible first
    | exact Same.refl _
    | apply Same.ite
    | apply Same.ite1
    | apply Same.ite2
    | extract_lets
    | split
    | dsimp -zeta only
    | dsimp +zetaDelta only
    | apply Same.with_pwr (by decide)

theorem State.redeliverAs_same (s : State) (fast : Bool) (ev : Nat) :
    Same 67108855 s (State.redeliverAs s fast ev) := by
  unfold State.redeliverAs
  repeat' with_reducible first
    | exact Same.refl _
    | apply Same.step (m := 33554423) (by decide) (occurAll_same ..)
    | apply Same.step (m := 33554423) (by decide) (deliver_same ..)
    | apply Same.ite
    | apply Same.ite1
    | apply Same.ite2
    | extract_lets
    | split
    | dsimp -zeta only
    | dsimp +zetaDelta only
    | apply Same.with_sig (by decide)

theorem State.redeliver_same (s : State) (ev : Nat) :
    Same 67108855 s (State.redeliver s ev) := redeliverAs_same s _ ev

theorem State.setI_same (s : State) (f : Fld) (v : Int) :
    Same 67108861 s (State.setI s f v) := by
  unfold State.setI
  repeat' with_reducible first
    | exact Same.refl _
    | apply Same.step (m := 67108861) (by decide) (set_same ..)
    | apply Same.ite
    | apply Same.ite1
    | apply Same.ite2
    | extract_lets
    | split
    | dsimp -zeta only
    | dsimp +zetaDelta only

theorem State.takeUp_same (s : State) (f : Fld) :
    Same 67108859 s (State.takeUp s f) := by
  unfold State.takeUp
  repeat' with_reducible first
    | exact Same.refl _
    | apply Same.ite
    | apply Same.ite1
    | apply Same.ite2
    | extract_lets
    | split
    | dsimp -zeta only
    | dsimp +zetaDelta only
    | apply Same.with_lag (by decide)

theorem State.clear_same (s : State) (f : Fld) :
    Same 67108857 s (State.clear s f) := by
  unfold State.clear
  repeat' with_reducible first
    | exact Same.refl _
    | apply Same.step (m := 67108859) (by decide) (takeUp_same ..)
    | apply Same.step (m := 67108861) (by decide) (set_same ..)
    | apply Same.ite
    | apply Same.ite1
    | apply Same.ite2
    | extract_lets
    | split
    | dsimp -zeta only
    | dsimp +zetaDelta only

end Sys2Proof.Machine
end

