-- ==== Sys2Proof/Laws/FrameAccess.lean ====
section
/-! SUPPORT. What each operation of Machine/Access.lean may change: every other part of State stays as it is. -/

set_option linter.all false

namespace Sys2Proof.Machine

theorem State.keepInForce_same (s : State) (f : Fld) :
    Same 67108859 s (State.keepInForce s f) := by
  unfold State.keepInForce
  repeat' with_reducible first
    | exact Same.refl _
    | apply Same.ite
    | apply Same.ite1
    | apply Same.ite2
    | extract_lets
    | split
    | dsimp -zeta only
    | dsimp +zetaDelta only
    | apply Same.with_lag (by decide)

theorem State.storeField_same (s : State) (k : PageKind) (ro : Nat) (spec : FieldSpec) (f : Fld) (v : Nat) (commit : Bool) :
    Same 67108857 s (State.storeField s k ro spec f v commit) := by
  unfold State.storeField
  repeat' with_reducible first
    | exact Same.refl _
    | apply Same.step (m := 67108861) (by decide) (set_same ..)
    | apply Same.step (m := 67108859) (by decide) (keepInForce_same ..)
    | apply Same.ite
    | apply Same.ite1
    | apply Same.ite2
    | extract_lets
    | split
    | dsimp -zeta only
    | dsimp +zetaDelta only

theorem State.storeReg_same (s : State) (pgn : Page) (r : RegSpec) (i : Nat) (bank : Nat) (addr : Nat) (v : Nat) (commit : Bool) :
    Same 67108857 s (State.storeReg s pgn r i bank addr v commit) := by
  unfold State.storeReg
  repeat' with_reducible first
    | exact Same.refl _
    | apply Same.step (m := 67108857) (by decide) (storeField_same ..)
    | apply Same.trans _ (foldl_same _ _ _ (fun _ _ => ?_))
    | apply Same.trans _ (foldl_same1 _ _ _ (fun _ _ => ?_))
    | apply Same.ite
    | apply Same.ite1
    | apply Same.ite2
    | extract_lets
    | split
    | dsimp -zeta only
    | dsimp +zetaDelta only

theorem State.bump_same (s : State) (pg : Nat) :
    Same 67108861 s (State.bump s pg) := by
  unfold State.bump
  repeat' with_reducible first
    | exact Same.refl _
    | apply Same.step (m := 67108861) (by decide) (State.wrap_same ..)
    | apply Same.ite
    | apply Same.ite1
    | apply Same.ite2
    | extract_lets
    | split
    | dsimp -zeta only
    | dsimp +zetaDelta only

theorem State.bumpIf_same (s : State) (c : Bool) (pg : Nat) :
    Same 67108861 s (State.bumpIf s c pg) := by
  unfold State.bumpIf
  repeat' with_reducible first
    | exact Same.refl _
    | apply Same.step (m := 67108861) (by decide) (State.bump_same ..)
    | apply Same.ite
    | apply Same.ite1
    | apply Same.ite2
    | extract_lets
    | split
    | dsimp -zeta only
    | dsimp +zetaDelta only

theorem State.storeAt_same (s : State) (p : Nat) (addr : Nat) (v : Nat) :
    Same 67108857 s (State.storeAt s p addr v) := by
  unfold State.storeAt
  repeat' with_reducible first
    | exact Same.refl _
    | apply Same.step (m := 67108857) (by decide) (storeReg_same ..)
    | apply Same.step (m := 67108861) (by decide) (bump_same ..)
    | apply Same.ite
    | apply Same.ite1
    | apply Same.ite2
    | extract_lets
    | split
    | dsimp -zeta only
    | dsimp +zetaDelta only

end Sys2Proof.Machine
end

