-- ==== Sys2Proof/Laws/FrameAxis.lean ====
section
/-! SUPPORT. What each operation of Machine/Axis.lean may change: every other part of State stays as it is. -/

set_option linter.all false

namespace Sys2Proof.Machine

theorem State.setSlot_same (s : State) (i : Nat) (x : Slot) :
    Same 67108847 s (State.setSlot s i x) := by
  unfold State.setSlot
  repeat' with_reducible first
    | exact Same.refl _
    | apply Same.ite
    | apply Same.ite1
    | apply Same.ite2
    | extract_lets
    | split
    | dsimp -zeta only
    | dsimp +zetaDelta only
    | apply Same.with_slots (by decide)

theorem State.markMet_same (s : State) (i : Nat) (late : Bool) :
    Same 67108847 s (State.markMet s i late) := by
  unfold State.markMet
  repeat' with_reducible first
    | exact Same.refl _
    | apply Same.step (m := 67108847) (by decide) (setSlot_same ..)
    | apply Same.ite
    | apply Same.ite1
    | apply Same.ite2
    | extract_lets
    | split
    | dsimp -zeta only
    | dsimp +zetaDelta only

theorem State.clearTags_same (s : State) (i : Nat) :
    Same 67108861 s (State.clearTags s i) := by
  unfold State.clearTags
  repeat' with_reducible first
    | exact Same.refl _
    | apply Same.step (m := 67108861) (by decide) (State.set_same ..)
    | apply Same.trans _ (foldl_same _ _ _ (fun _ _ => ?_))
    | apply Same.trans _ (foldl_same1 _ _ _ (fun _ _ => ?_))
    | apply Same.ite
    | apply Same.ite1
    | apply Same.ite2
    | extract_lets
    | split
    | dsimp -zeta only
    | dsimp +zetaDelta only

theorem State.freeSlot_same (s : State) (i : Nat) (result : Nat) (seq : Nat) :
    Same 67108845 s (State.freeSlot s i result seq) := by
  unfold State.freeSlot
  repeat' with_reducible first
    | exact Same.refl _
    | apply Same.step (m := 67108847) (by decide) (setSlot_same ..)
    | apply Same.step (m := 67108861) (by decide) (clearTags_same ..)
    | apply Same.ite
    | apply Same.ite1
    | apply Same.ite2
    | extract_lets
    | split
    | dsimp -zeta only
    | dsimp +zetaDelta only

theorem State.setAxis_same (s : State) (a : Nat) (x : AxisSt) :
    Same 67108799 s (State.setAxis s a x) := by
  unfold State.setAxis
  repeat' with_reducible first
    | exact Same.refl _
    | apply Same.ite
    | apply Same.ite1
    | apply Same.ite2
    | extract_lets
    | split
    | dsimp -zeta only
    | dsimp +zetaDelta only
    | apply Same.with_time (by decide)

end Sys2Proof.Machine
end

