-- ==== Sys2Proof/Laws/FrameRepair.lean ====
section
/-! SUPPORT. What each operation of Machine/Repair.lean may change: every other part of State stays as it is. -/

set_option linter.all false

namespace Sys2Proof.Machine

theorem State.setRepair_same (s : State) (l : List RepEntry) :
    Same 67100671 s (State.setRepair s l) := by
  unfold State.setRepair
  repeat' with_reducible first
    | exact Same.refl _
    | apply Same.ite
    | apply Same.ite1
    | apply Same.ite2
    | extract_lets
    | split
    | dsimp -zeta only
    | dsimp +zetaDelta only
    | apply Same.with_repair (by decide)

theorem State.softRecord_same (s : State) (cls : Nat) (inst : Nat) (detail : Nat) (spare : Nat) :
    Same 67100661 s (State.softRecord s cls inst detail spare) := by
  unfold State.softRecord
  repeat' with_reducible first
    | exact Same.refl _
    | apply Same.step (m := 67108855) (by decide) (raise_same ..)
    | apply Same.step (m := 67108861) (by decide) (set_same ..)
    | apply Same.step (m := 67100671) (by decide) (setRepair_same ..)
    | apply Same.ite
    | apply Same.ite1
    | apply Same.ite2
    | extract_lets
    | split
    | dsimp -zeta only
    | dsimp +zetaDelta only

end Sys2Proof.Machine
end

