-- ==== Sys2Proof/Laws/FrameLanes.lean ====
section
/-! SUPPORT. What each operation of Machine/Lanes.lean may change: every other part of State stays as it is. -/

set_option linter.all false

namespace Sys2Proof.Machine

theorem State.mapLinks_same (s : State) (f : LinkSt → LinkSt) :
    Same 67104767 s (State.mapLinks s f) := by
  unfold State.mapLinks
  repeat' with_reducible first
    | exact Same.refl _
    | apply Same.ite
    | apply Same.ite1
    | apply Same.ite2
    | extract_lets
    | split
    | dsimp -zeta only
    | dsimp +zetaDelta only
    | apply Same.with_link (by decide)

theorem State.setSampler_same (s : State) (w : Nat) (k : Nat) (v : Nat) :
    Same 67108861 s (State.setSampler s w k v) := by
  unfold State.setSampler
  repeat' with_reducible first
    | exact Same.refl _
    | apply Same.step (m := 67108861) (by decide) (set_same ..)
    | apply Same.ite
    | apply Same.ite1
    | apply Same.ite2
    | extract_lets
    | split
    | dsimp -zeta only
    | dsimp +zetaDelta only

theorem State.eyeAbort_same (s : State) (w : Nat) (code : Nat) :
    Same 67108861 s (State.eyeAbort s w code) := by
  unfold State.eyeAbort
  repeat' with_reducible first
    | exact Same.refl _
    | apply Same.step (m := 67108861) (by decide) (State.sets_same ..)
    | apply Same.ite
    | apply Same.ite1
    | apply Same.ite2
    | extract_lets
    | split
    | dsimp -zeta only
    | dsimp +zetaDelta only

theorem State.setMacro_same (s : State) (m : Nat) (x : Macro) :
    Same 67104767 s (State.setMacro s m x) := by
  unfold State.setMacro
  repeat' with_reducible first
    | exact Same.refl _
    | apply Same.step (m := 67104767) (by decide) (mapLinks_same ..)
    | apply Same.ite
    | apply Same.ite1
    | apply Same.ite2
    | extract_lets
    | split
    | dsimp -zeta only
    | dsimp +zetaDelta only

theorem State.tapsTo_same (s : State) (w : Nat) (ctle : Bool) (dfe : Bool) :
    Same 50327549 s (State.tapsTo s w ctle dfe) := by
  unfold State.tapsTo
  repeat' with_reducible first
    | exact Same.refl _
    | apply Same.step (m := 50331647) (by decide) (State.fresh_same ..)
    | apply Same.step (m := 67108861) (by decide) (State.set_same ..)
    | apply Same.step (m := 67104767) (by decide) (State.setMacro_same ..)
    | apply Same.step (m := 67108861) (by decide) (State.sets_same ..)
    | apply Same.ite
    | apply Same.ite1
    | apply Same.ite2
    | extract_lets
    | split
    | dsimp -zeta only
    | dsimp +zetaDelta only

theorem State.tapsMove_same (s : State) (w : Nat) :
    Same 50327549 s (State.tapsMove s w) := by
  unfold State.tapsMove
  repeat' with_reducible first
    | exact Same.refl _
    | apply Same.step (m := 50327549) (by decide) (State.tapsTo_same ..)
    | apply Same.ite
    | apply Same.ite1
    | apply Same.ite2
    | extract_lets
    | split
    | dsimp -zeta only
    | dsimp +zetaDelta only

theorem State.tapsStop_same (s : State) (m : Nat) :
    Same 50327549 s (State.tapsStop s m) := by
  unfold State.tapsStop
  repeat' with_reducible first
    | exact Same.refl _
    | apply Same.step (m := 50327549) (by decide) (State.tapsMove_same ..)
    | apply Same.trans _ (foldl_same _ _ _ (fun _ _ => ?_))
    | apply Same.trans _ (foldl_same1 _ _ _ (fun _ _ => ?_))
    | apply Same.ite
    | apply Same.ite1
    | apply Same.ite2
    | extract_lets
    | split
    | dsimp -zeta only
    | dsimp +zetaDelta only

theorem State.eyesEnd_same (s : State) (p : Nat) :
    Same 50327549 s (State.eyesEnd s p) := by
  unfold State.eyesEnd
  repeat' with_reducible first
    | exact Same.refl _
    | apply Same.step (m := 67108861) (by decide) (State.eyeAbort_same ..)
    | apply Same.step (m := 67108861) (by decide) (State.set_same ..)
    | apply Same.step (m := 50327549) (by decide) (State.tapsStop_same ..)
    | apply Same.trans _ (foldl_same _ _ _ (fun _ _ => ?_))
    | apply Same.trans _ (foldl_same1 _ _ _ (fun _ _ => ?_))
    | apply Same.ite
    | apply Same.ite1
    | apply Same.ite2
    | extract_lets
    | split
    | dsimp -zeta only
    | dsimp +zetaDelta only

theorem State.eyeStart_same (s : State) (w : Nat) :
    Same 67108861 s (State.eyeStart s w) := by
  unfold State.eyeStart
  repeat' with_reducible first
    | exact Same.refl _
    | apply Same.step (m := 67108861) (by decide) (State.sets_same ..)
    | apply Same.ite
    | apply Same.ite1
    | apply Same.ite2
    | extract_lets
    | split
    | dsimp -zeta only
    | dsimp +zetaDelta only

theorem State.laneEv_same (s : State) (bit : Nat) (m : Nat) (l : Nat) :
    Same 67108853 s (State.laneEv s bit m l) := by
  unfold State.laneEv
  repeat' with_reducible first
    | exact Same.refl _
    | apply Same.step (m := 67108855) (by decide) (raise_same ..)
    | apply Same.step (m := 67108861) (by decide) (sets_same ..)
    | apply Same.ite
    | apply Same.ite1
    | apply Same.ite2
    | extract_lets
    | split
    | dsimp -zeta only
    | dsimp +zetaDelta only

theorem State.setLk_same (s : State) (n : Nat) (x : Link) :
    Same 67104767 s (State.setLk s n x) := by
  unfold State.setLk
  repeat' with_reducible first
    | exact Same.refl _
    | apply Same.step (m := 67104767) (by decide) (State.mapLinks_same ..)
    | apply Same.ite
    | apply Same.ite1
    | apply Same.ite2
    | extract_lets
    | split
    | dsimp -zeta only
    | dsimp +zetaDelta only

theorem State.lanesUp_same (s : State) (p : Nat) (rate : Nat) :
    Same 50331645 s (State.lanesUp s p rate) := by
  unfold State.lanesUp
  repeat' with_reducible first
    | exact Same.refl _
    | apply Same.step (m := 50331647) (by decide) (State.fresh_same ..)
    | apply Same.step (m := 67108861) (by decide) (State.set_same ..)
    | apply Same.step (m := 67108861) (by decide) (State.sets_same ..)
    | apply Same.trans _ (foldl_same _ _ _ (fun _ _ => ?_))
    | apply Same.trans _ (foldl_same1 _ _ _ (fun _ _ => ?_))
    | apply Same.ite
    | apply Same.ite1
    | apply Same.ite2
    | extract_lets
    | split
    | dsimp -zeta only
    | dsimp +zetaDelta only

theorem State.lanesDown_same (s : State) (p : Nat) :
    Same 50327549 s (State.lanesDown s p) := by
  unfold State.lanesDown
  repeat' with_reducible first
    | exact Same.refl _
    | apply Same.step (m := 67108861) (by decide) (State.sets_same ..)
    | apply Same.step (m := 50327549) (by decide) (State.tapsStop_same ..)
    | apply Same.trans _ (foldl_same _ _ _ (fun _ _ => ?_))
    | apply Same.trans _ (foldl_same1 _ _ _ (fun _ _ => ?_))
    | apply Same.ite
    | apply Same.ite1
    | apply Same.ite2
    | extract_lets
    | split
    | dsimp -zeta only
    | dsimp +zetaDelta only

theorem State.mapLk_same (s : State) (n : Nat) (f : Link → Link) :
    Same 67104767 s (State.mapLk s n f) := by
  unfold State.mapLk
  repeat' with_reducible first
    | exact Same.refl _
    | apply Same.step (m := 67104767) (by decide) (State.setLk_same ..)
    | apply Same.ite
    | apply Same.ite1
    | apply Same.ite2
    | extract_lets
    | split
    | dsimp -zeta only
    | dsimp +zetaDelta only

theorem State.dockSends_same (s : State) (n : Nat) (mode : Nat) (rate : Nat) (mask : Nat) :
    Same 67108855 s (State.dockSends s n mode rate mask) := by
  unfold State.dockSends
  repeat' with_reducible first
    | exact Same.refl _
    | apply Same.step (m := 67108855) (by decide) (State.emit_same ..)
    | apply Same.ite
    | apply Same.ite1
    | apply Same.ite2
    | extract_lets
    | split
    | dsimp -zeta only
    | dsimp +zetaDelta only

theorem State.pllSwitch_same (s : State) (m : Nat) :
    Same 50327541 s (State.pllSwitch s m) := by
  unfold State.pllSwitch
  repeat' with_reducible first
    | exact Same.refl _
    | apply Same.step (m := 67108853) (by decide) (State.laneEv_same ..)
    | apply Same.step (m := 67104767) (by decide) (State.mapLk_same ..)
    | apply Same.step (m := 67108861) (by decide) (State.sat_same ..)
    | apply Same.step (m := 67108861) (by decide) (State.set_same ..)
    | apply Same.step (m := 67104767) (by decide) (State.setMacro_same ..)
    | apply Same.step (m := 50327549) (by decide) (State.tapsStop_same ..)
    | apply Same.ite
    | apply Same.ite1
    | apply Same.ite2
    | extract_lets
    | split
    | dsimp -zeta only
    | dsimp +zetaDelta only

theorem State.seqStop_same (s : State) (m : Nat) :
    Same 67104765 s (State.seqStop s m) := by
  unfold State.seqStop
  repeat' with_reducible first
    | exact Same.refl _
    | apply Same.step (m := 67104767) (by decide) (setMacro_same ..)
    | apply Same.step (m := 67108861) (by decide) (sets_same ..)
    | apply Same.ite
    | apply Same.ite1
    | apply Same.ite2
    | extract_lets
    | split
    | dsimp -zeta only
    | dsimp +zetaDelta only

theorem State.seqStart_same (s : State) (m : Nat) (step : Nat) :
    Same 67104765 s (State.seqStart s m step) := by
  unfold State.seqStart
  repeat' with_reducible first
    | exact Same.refl _
    | apply Same.step (m := 67104767) (by decide) (setMacro_same ..)
    | apply Same.step (m := 67108861) (by decide) (sets_same ..)
    | apply Same.ite
    | apply Same.ite1
    | apply Same.ite2
    | extract_lets
    | split
    | dsimp -zeta only
    | dsimp +zetaDelta only

theorem State.seqAt_same (s : State) (m : Nat) (step : Nat) :
    Same 67108861 s (State.seqAt s m step) := by
  unfold State.seqAt
  repeat' with_reducible first
    | exact Same.refl _
    | apply Same.step (m := 67108861) (by decide) (set_same ..)
    | apply Same.ite
    | apply Same.ite1
    | apply Same.ite2
    | extract_lets
    | split
    | dsimp -zeta only
    | dsimp +zetaDelta only

theorem State.seqContinue_same (s : State) (m : Nat) (v : Nat) :
    Same 67104765 s (State.seqContinue s m v) := by
  unfold State.seqContinue
  repeat' with_reducible first
    | exact Same.refl _
    | apply Same.step (m := 67108861) (by decide) (seqAt_same ..)
    | apply Same.step (m := 67104767) (by decide) (setMacro_same ..)
    | apply Same.step (m := 67108861) (by decide) (set_same ..)
    | apply Same.ite
    | apply Same.ite1
    | apply Same.ite2
    | extract_lets
    | split
    | dsimp -zeta only
    | dsimp +zetaDelta only

theorem State.setAudit_same (s : State) (w : Nat) (k : Nat) :
    Same 67104767 s (State.setAudit s w k) := by
  unfold State.setAudit
  repeat' with_reducible first
    | exact Same.refl _
    | apply Same.step (m := 67104767) (by decide) (State.mapLinks_same ..)
    | apply Same.ite
    | apply Same.ite1
    | apply Same.ite2
    | extract_lets
    | split
    | dsimp -zeta only
    | dsimp +zetaDelta only

theorem State.eyeGo_same (s : State) (w : Nat) :
    Same 67108861 s (State.eyeGo s w) := by
  unfold State.eyeGo
  repeat' with_reducible first
    | exact Same.refl _
    | apply Same.step (m := 67108861) (by decide) (State.eyeStart_same ..)
    | apply Same.step (m := 67108861) (by decide) (State.set_same ..)
    | apply Same.ite
    | apply Same.ite1
    | apply Same.ite2
    | extract_lets
    | split
    | dsimp -zeta only
    | dsimp +zetaDelta only

theorem State.genTell_same (s : State) (w : Nat) :
    Same 67108855 s (State.genTell s w) := by
  unfold State.genTell
  repeat' with_reducible first
    | exact Same.refl _
    | apply Same.step (m := 67108855) (by decide) (State.emit_same ..)
    | apply Same.ite
    | apply Same.ite1
    | apply Same.ite2
    | extract_lets
    | split
    | dsimp -zeta only
    | dsimp +zetaDelta only

theorem State.prbsPut_same (s : State) (w : Nat) (bits : Nat) (errs : Nat) (lock : Bool) (lost : Bool) :
    Same 67108861 s (State.prbsPut s w bits errs lock lost) := by
  unfold State.prbsPut
  repeat' with_reducible first
    | exact Same.refl _
    | apply Same.step (m := 67108861) (by decide) (State.sat_same ..)
    | apply Same.step (m := 67108861) (by decide) (State.set64_same ..)
    | apply Same.step (m := 67108861) (by decide) (State.sets_same ..)
    | apply Same.ite
    | apply Same.ite1
    | apply Same.ite2
    | extract_lets
    | split
    | dsimp -zeta only
    | dsimp +zetaDelta only

theorem State.laneFx_same (s : State) (s0 : State) (x : Wr) :
    Same 50065393 s (State.laneFx s s0 x) := by
  unfold State.laneFx
  repeat' with_reducible first
    | exact Same.refl _
    | apply Same.step (m := 67108855) (by decide) (State.emit_same ..)
    | apply Same.step (m := 67108861) (by decide) (State.eyeAbort_same ..)
    | apply Same.step (m := 67108861) (by decide) (State.eyeGo_same ..)
    | apply Same.step (m := 67108855) (by decide) (State.genTell_same ..)
    | apply Same.step (m := 66846719) (by decide) (State.mapPwr_same ..)
    | apply Same.step (m := 50327541) (by decide) (State.pllSwitch_same ..)
    | apply Same.step (m := 67108861) (by decide) (State.sat_same ..)
    | apply Same.step (m := 67104765) (by decide) (State.seqContinue_same ..)
    | apply Same.step (m := 67104765) (by decide) (State.seqStart_same ..)
    | apply Same.step (m := 67104765) (by decide) (State.seqStop_same ..)
    | apply Same.step (m := 67108861) (by decide) (State.set_same ..)
    | apply Same.step (m := 67104767) (by decide) (State.setMacro_same ..)
    | apply Same.step (m := 67108861) (by decide) (State.sets_same ..)
    | apply Same.step (m := 67108859) (by decide) (State.takeUp_same ..)
    | apply Same.step (m := 50327549) (by decide) (State.tapsTo_same ..)
    | apply Same.ite
    | apply Same.ite1
    | apply Same.ite2
    | extract_lets
    | split
    | dsimp -zeta only
    | dsimp +zetaDelta only

theorem State.lanesTake_same (s : State) (p : Nat) :
    Same 67108859 s (State.lanesTake s p) := by
  unfold State.lanesTake
  repeat' with_reducible first
    | exact Same.refl _
    | apply Same.step (m := 67108859) (by decide) (takeUp_same ..)
    | apply Same.trans _ (foldl_same _ _ _ (fun _ _ => ?_))
    | apply Same.trans _ (foldl_same1 _ _ _ (fun _ _ => ?_))
    | apply Same.ite
    | apply Same.ite1
    | apply Same.ite2
    | extract_lets
    | split
    | dsimp -zeta only
    | dsimp +zetaDelta only

theorem State.prbsSeen_same (s : State) (w : Nat) :
    Same 50331645 s (State.prbsSeen s w) := by
  unfold State.prbsSeen
  repeat' with_reducible first
    | exact Same.refl _
    | apply Same.step (m := 50331647) (by decide) (State.fresh_same ..)
    | apply Same.step (m := 67108861) (by decide) (State.prbsPut_same ..)
    | apply Same.ite
    | apply Same.ite1
    | apply Same.ite2
    | extract_lets
    | split
    | dsimp -zeta only
    | dsimp +zetaDelta only

theorem State.laneSensed_same (s : State) (w : Nat) (ro : Nat) :
    Same 50327549 s (State.laneSensed s w ro) := by
  unfold State.laneSensed
  repeat' with_reducible first
    | exact Same.refl _
    | apply Same.step (m := 50331645) (by decide) (State.prbsSeen_same ..)
    | apply Same.step (m := 50327549) (by decide) (State.tapsMove_same ..)
    | apply Same.ite
    | apply Same.ite1
    | apply Same.ite2
    | extract_lets
    | split
    | dsimp -zeta only
    | dsimp +zetaDelta only

theorem State.ffe_same (s : State) (m : Nat) (l : Nat) (preset : Nat) :
    Same 67108861 s (State.ffe s m l preset) := by
  unfold State.ffe
  repeat' with_reducible first
    | exact Same.refl _
    | apply Same.step (m := 67108861) (by decide) (sets_same ..)
    | apply Same.ite
    | apply Same.ite1
    | apply Same.ite2
    | extract_lets
    | split
    | dsimp -zeta only
    | dsimp +zetaDelta only

theorem State.pllLost_same (s : State) (m : Nat) (pll : Nat) :
    Same 67096565 s (State.pllLost s m pll) := by
  unfold State.pllLost
  repeat' with_reducible first
    | exact Same.refl _
    | apply Same.step (m := 67104767) (by decide) (setMacro_same ..)
    | apply Same.step (m := 67108853) (by decide) (laneEv_same ..)
    | apply Same.step (m := 67100661) (by decide) (softRecord_same ..)
    | apply Same.step (m := 67108861) (by decide) (set_same ..)
    | apply Same.ite
    | apply Same.ite1
    | apply Same.ite2
    | extract_lets
    | split
    | dsimp -zeta only
    | dsimp +zetaDelta only

theorem State.retireLane_same (s : State) (w : Nat) (k : Nat) :
    Same 67100661 s (State.retireLane s w k) := by
  unfold State.retireLane
  repeat' with_reducible first
    | exact Same.refl _
    | apply Same.step (m := 67108853) (by decide) (laneEv_same ..)
    | apply Same.step (m := 67100661) (by decide) (softRecord_same ..)
    | apply Same.step (m := 67108861) (by decide) (set_same ..)
    | apply Same.step (m := 67108861) (by decide) (setSampler_same ..)
    | apply Same.ite
    | apply Same.ite1
    | apply Same.ite2
    | extract_lets
    | split
    | dsimp -zeta only
    | dsimp +zetaDelta only

theorem State.spare_same (s : State) (w : Nat) (k : Nat) :
    Same 67096565 s (State.spare s w k) := by
  unfold State.spare
  repeat' with_reducible first
    | exact Same.refl _
    | apply Same.step (m := 67108861) (by decide) (State.eyeAbort_same ..)
    | apply Same.step (m := 67108853) (by decide) (State.laneEv_same ..)
    | apply Same.step (m := 67104767) (by decide) (State.setAudit_same ..)
    | apply Same.step (m := 67108861) (by decide) (State.setSampler_same ..)
    | apply Same.step (m := 67108861) (by decide) (State.sets_same ..)
    | apply Same.step (m := 67100661) (by decide) (State.softRecord_same ..)
    | apply Same.ite
    | apply Same.ite1
    | apply Same.ite2
    | extract_lets
    | split
    | dsimp -zeta only
    | dsimp +zetaDelta only

theorem State.seqNext_same (s : State) (m : Nat) :
    Same 67108861 s (State.seqNext s m) := by
  unfold State.seqNext
  repeat' with_reducible first
    | exact Same.refl _
    | apply Same.step (m := 67108861) (by decide) (seqAt_same ..)
    | apply Same.ite
    | apply Same.ite1
    | apply Same.ite2
    | extract_lets
    | split
    | dsimp -zeta only
    | dsimp +zetaDelta only

theorem State.seqOp_same {K : Nat} (hK : Nat.land K 67108863 = K) (s : State) (m : Nat) (op : Nat) (f : State → Nat → State) (hf : ∀ s c0, Same K s (f s c0)) :
    Same K s (State.seqOp s m op f) := by
  unfold State.seqOp
  repeat' with_reducible first
    | exact Same.refl _
    | apply hf
    | apply Same.trans _ (hf _ _)
    | apply Same.ite
    | apply Same.ite1
    | apply Same.ite2
    | extract_lets
    | split
    | dsimp -zeta only
    | dsimp +zetaDelta only

end Sys2Proof.Machine
end

