-- ==== Sys2Proof/Laws/FrameIdle.lean ====
section
/-! SUPPORT. What each operation of Machine/Idle.lean may change: every other part of State stays as it is. -/

set_option linter.all false

namespace Sys2Proof.Machine

theorem State.pllPower_same (s : State) (p : Nat) (v : Nat) :
    Same 67108861 s (State.pllPower s p v) := by
  unfold State.pllPower
  repeat' with_reducible first
    | exact Same.refl _
    | apply Same.step (m := 67108861) (by decide) (State.set_same ..)
    | apply Same.trans _ (foldl_same _ _ _ (fun _ _ => ?_))
    | apply Same.trans _ (foldl_same1 _ _ _ (fun _ _ => ?_))
    | apply Same.ite
    | apply Same.ite1
    | apply Same.ite2
    | extract_lets
    | split
    | dsimp -zeta only
    | dsimp +zetaDelta only

theorem State.lanesBias_same (s : State) (p : Nat) (on : Bool) :
    Same 67108861 s (State.lanesBias s p on) := by
  unfold State.lanesBias
  repeat' with_reducible first
    | exact Same.refl _
    | apply Same.step (m := 67108861) (by decide) (State.sets_same ..)
    | apply Same.trans _ (foldl_same _ _ _ (fun _ _ => ?_))
    | apply Same.trans _ (foldl_same1 _ _ _ (fun _ _ => ?_))
    | apply Same.ite
    | apply Same.ite1
    | apply Same.ite2
    | extract_lets
    | split
    | dsimp -zeta only
    | dsimp +zetaDelta only

theorem State.lanesSleep_same (s : State) (p : Nat) (st : Nat) :
    Same 50327549 s (State.lanesSleep s p st) := by
  unfold State.lanesSleep
  repeat' with_reducible first
    | exact Same.refl _
    | apply Same.step (m := 50327549) (by decide) (State.eyesEnd_same ..)
    | apply Same.step (m := 67108861) (by decide) (State.lanesBias_same ..)
    | apply Same.step (m := 67108861) (by decide) (State.pllPower_same ..)
    | apply Same.ite
    | apply Same.ite1
    | apply Same.ite2
    | extract_lets
    | split
    | dsimp -zeta only
    | dsimp +zetaDelta only

theorem State.showLState_same (s : State) (p : Nat) (st : Nat) :
    Same 67108861 s (State.showLState s p st) := by
  unfold State.showLState
  repeat' with_reducible first
    | exact Same.refl _
    | apply Same.step (m := 67108861) (by decide) (State.lanesBias_same ..)
    | apply Same.step (m := 67108861) (by decide) (State.set_same ..)
    | apply Same.ite
    | apply Same.ite1
    | apply Same.ite2
    | extract_lets
    | split
    | dsimp -zeta only
    | dsimp +zetaDelta only

theorem State.seqFree_same (s : State) (m : Nat) :
    Same 67104767 s (State.seqFree s m) := by
  unfold State.seqFree
  repeat' with_reducible first
    | exact Same.refl _
    | apply Same.step (m := 67104767) (by decide) (State.setMacro_same ..)
    | apply Same.ite
    | apply Same.ite1
    | apply Same.ite2
    | extract_lets
    | split
    | dsimp -zeta only
    | dsimp +zetaDelta only

theorem State.deepOver_same (s : State) (p : Nat) :
    Same 67104765 s (State.deepOver s p) := by
  unfold State.deepOver
  repeat' with_reducible first
    | exact Same.refl _
    | apply Same.step (m := 67108861) (by decide) (State.pllPower_same ..)
    | apply Same.step (m := 67104767) (by decide) (State.seqFree_same ..)
    | apply Same.trans _ (foldl_same _ _ _ (fun _ _ => ?_))
    | apply Same.trans _ (foldl_same1 _ _ _ (fun _ _ => ?_))
    | apply Same.ite
    | apply Same.ite1
    | apply Same.ite2
    | extract_lets
    | split
    | dsimp -zeta only
    | dsimp +zetaDelta only

theorem State.lowEnd_same (s : State) (p : Nat) :
    Same 67104765 s (State.lowEnd s p) := by
  unfold State.lowEnd
  repeat' with_reducible first
    | exact Same.refl _
    | apply Same.step (m := 67104765) (by decide) (State.deepOver_same ..)
    | apply Same.step (m := 67104767) (by decide) (State.mapLinks_same ..)
    | apply Same.step (m := 67108861) (by decide) (State.showLState_same ..)
    | apply Same.ite
    | apply Same.ite1
    | apply Same.ite2
    | extract_lets
    | split
    | dsimp -zeta only
    | dsimp +zetaDelta only

theorem State.linkAwake_same (s : State) (p : Nat) :
    Same 67108861 s (State.linkAwake s p) := by
  unfold State.linkAwake
  repeat' with_reducible first
    | exact Same.refl _
    | apply Same.step (m := 67108861) (by decide) (State.sets_same ..)
    | apply Same.step (m := 67108861) (by decide) (State.showLState_same ..)
    | apply Same.ite
    | apply Same.ite1
    | apply Same.ite2
    | extract_lets
    | split
    | dsimp -zeta only
    | dsimp +zetaDelta only

theorem State.deepLeave_same (s : State) (p : Nat) :
    Same 67104765 s (State.deepLeave s p) := by
  unfold State.deepLeave
  repeat' with_reducible first
    | exact Same.refl _
    | apply Same.step (m := 67108861) (by decide) (State.pllPower_same ..)
    | apply Same.step (m := 67104767) (by decide) (State.setMacro_same ..)
    | apply Same.trans _ (foldl_same _ _ _ (fun _ _ => ?_))
    | apply Same.trans _ (foldl_same1 _ _ _ (fun _ _ => ?_))
    | apply Same.ite
    | apply Same.ite1
    | apply Same.ite2
    | extract_lets
    | split
    | dsimp -zeta only
    | dsimp +zetaDelta only

theorem State.stageExit_same (s : State) (p : Nat) :
    Same 67104765 s (State.stageExit s p) := by
  unfold State.stageExit
  repeat' with_reducible first
    | exact Same.refl _
    | apply Same.step (m := 67104765) (by decide) (State.deepLeave_same ..)
    | apply Same.step (m := 67104767) (by decide) (State.mapLinks_same ..)
    | apply Same.ite
    | apply Same.ite1
    | apply Same.ite2
    | extract_lets
    | split
    | dsimp -zeta only
    | dsimp +zetaDelta only

theorem State.exitLink_same (s : State) (p : Nat) :
    Same 67104765 s (State.exitLink s p) := by
  unfold State.exitLink
  repeat' with_reducible first
    | exact Same.refl _
    | apply Same.step (m := 67108861) (by decide) (State.linkAwake_same ..)
    | apply Same.step (m := 67108861) (by decide) (State.set_same ..)
    | apply Same.step (m := 67104765) (by decide) (State.stageExit_same ..)
    | apply Same.ite
    | apply Same.ite1
    | apply Same.ite2
    | extract_lets
    | split
    | dsimp -zeta only
    | dsimp +zetaDelta only

theorem State.deepDone_same (s : State) (p : Nat) :
    Same 67104765 s (State.deepDone s p) := by
  unfold State.deepDone
  repeat' with_reducible first
    | exact Same.refl _
    | apply Same.step (m := 67104765) (by decide) (State.deepOver_same ..)
    | apply Same.step (m := 67104767) (by decide) (State.mapLinks_same ..)
    | apply Same.step (m := 67108861) (by decide) (State.set_same ..)
    | apply Same.step (m := 67108861) (by decide) (State.showLState_same ..)
    | apply Same.ite
    | apply Same.ite1
    | apply Same.ite2
    | extract_lets
    | split
    | dsimp -zeta only
    | dsimp +zetaDelta only

theorem State.enterLState_same (s : State) (p : Nat) (d : Nat) :
    Same 50327549 s (State.enterLState s p d) := by
  unfold State.enterLState
  repeat' with_reducible first
    | exact Same.refl _
    | apply Same.step (m := 50327549) (by decide) (State.lanesSleep_same ..)
    | apply Same.step (m := 67108861) (by decide) (State.showLState_same ..)
    | apply Same.step (m := 67104765) (by decide) (State.stageExit_same ..)
    | apply Same.ite
    | apply Same.ite1
    | apply Same.ite2
    | extract_lets
    | split
    | dsimp -zeta only
    | dsimp +zetaDelta only

theorem State.selectState_same (s : State) (p : Nat) :
    Same 50327541 s (State.selectState s p) := by
  unfold State.selectState
  repeat' with_reducible first
    | exact Same.refl _
    | apply Same.step (m := 67108855) (by decide) (State.emit_same ..)
    | apply Same.step (m := 50327549) (by decide) (State.enterLState_same ..)
    | apply Same.step (m := 67108861) (by decide) (State.set_same ..)
    | apply Same.ite
    | apply Same.ite1
    | apply Same.ite2
    | extract_lets
    | split
    | dsimp -zeta only
    | dsimp +zetaDelta only

theorem State.wakeLink_same (s : State) (p : Nat) :
    Same 50327541 s (State.wakeLink s p) := by
  unfold State.wakeLink
  repeat' with_reducible first
    | exact Same.refl _
    | apply Same.step (m := 50327541) (by decide) (State.selectState_same ..)
    | apply Same.step (m := 67108861) (by decide) (State.set_same ..)
    | apply Same.ite
    | apply Same.ite1
    | apply Same.ite2
    | extract_lets
    | split
    | dsimp -zeta only
    | dsimp +zetaDelta only

theorem State.reselectHeld_same (s : State) :
    Same 50327541 s (State.reselectHeld s) := by
  unfold State.reselectHeld
  repeat' with_reducible first
    | exact Same.refl _
    | apply Same.step (m := 50327541) (by decide) (State.selectState_same ..)
    | apply Same.trans _ (foldl_same _ _ _ (fun _ _ => ?_))
    | apply Same.trans _ (foldl_same1 _ _ _ (fun _ _ => ?_))
    | apply Same.ite
    | apply Same.ite1
    | apply Same.ite2
    | extract_lets
    | split
    | dsimp -zeta only
    | dsimp +zetaDelta only

theorem State.outUsed_same (s : State) (p : Nat) :
    Same 67108735 s (State.outUsed s p) := by
  unfold State.outUsed
  repeat' with_reducible first
    | exact Same.refl _
    | apply Same.ite
    | apply Same.ite1
    | apply Same.ite2
    | extract_lets
    | split
    | dsimp -zeta only
    | dsimp +zetaDelta only
    | apply Same.with_sw (by decide)

theorem State.vatWakes_same (s : State) :
    Same 66846717 s (State.vatWakes s) := by
  unfold State.vatWakes
  repeat' with_reducible first
    | exact Same.refl _
    | apply Same.step (m := 66846719) (by decide) (State.mapPwr_same ..)
    | apply Same.step (m := 67108861) (by decide) (State.sets_same ..)
    | apply Same.ite
    | apply Same.ite1
    | apply Same.ite2
    | extract_lets
    | split
    | dsimp -zeta only
    | dsimp +zetaDelta only

theorem State.shutOut_same (s : State) (p : Nat) :
    Same 66846709 s (State.shutOut s p) := by
  unfold State.shutOut
  repeat' with_reducible first
    | exact Same.refl _
    | apply Same.step (m := 67108855) (by decide) (State.emit_same ..)
    | apply Same.step (m := 66846717) (by decide) (State.vatWakes_same ..)
    | apply Same.ite
    | apply Same.ite1
    | apply Same.ite2
    | extract_lets
    | split
    | dsimp -zeta only
    | dsimp +zetaDelta only

theorem State.cellsIn_same (s : State) (p : Nat) (bytes : Nat) :
    Same 67108861 s (State.cellsIn s p bytes) := by
  unfold State.cellsIn
  repeat' with_reducible first
    | exact Same.refl _
    | apply Same.step (m := 67108861) (by decide) (State.wrap_same ..)
    | apply Same.ite
    | apply Same.ite1
    | apply Same.ite2
    | extract_lets
    | split
    | dsimp -zeta only
    | dsimp +zetaDelta only

theorem State.cellsOut_same (s : State) (p : Nat) (bytes : Nat) :
    Same 50327413 s (State.cellsOut s p bytes) := by
  unfold State.cellsOut
  repeat' with_reducible first
    | exact Same.refl _
    | apply Same.step (m := 67108735) (by decide) (State.outUsed_same ..)
    | apply Same.step (m := 50327541) (by decide) (State.wakeLink_same ..)
    | apply Same.step (m := 67108861) (by decide) (State.wrap_same ..)
    | apply Same.ite
    | apply Same.ite1
    | apply Same.ite2
    | extract_lets
    | split
    | dsimp -zeta only
    | dsimp +zetaDelta only

end Sys2Proof.Machine
end

