-- ==== Sys2Proof/Laws/FrameGuard.lean ====
section
/-! SUPPORT. What each operation of Machine/Guard.lean may change: every other part of State stays as it is. -/

set_option linter.all false

namespace Sys2Proof.Machine

theorem State.mapPool_same (s : State) (f : PoolSt → PoolSt) :
    Same 67108351 s (State.mapPool s f) := by
  unfold State.mapPool
  repeat' with_reducible first
    | exact Same.refl _
    | apply Same.ite
    | apply Same.ite1
    | apply Same.ite2
    | extract_lets
    | split
    | dsimp -zeta only
    | dsimp +zetaDelta only
    | apply Same.with_pool (by decide)

theorem State.mapPort_same (s : State) (f : PortSt → PortSt) :
    Same 67106815 s (State.mapPort s f) := by
  unfold State.mapPort
  repeat' with_reducible first
    | exact Same.refl _
    | apply Same.ite
    | apply Same.ite1
    | apply Same.ite2
    | extract_lets
    | split
    | dsimp -zeta only
    | dsimp +zetaDelta only
    | apply Same.with_port (by decide)

theorem State.lateWrite_same (s : State) (init : Nat) (seq : Nat) (target : Nat) (reason : Nat) (len : Nat) (addr : Nat) :
    Same 67108853 s (State.lateWrite s init seq target reason len addr) := by
  unfold State.lateWrite
  repeat' with_reducible first
    | exact Same.refl _
    | apply Same.step (m := 67108855) (by decide) (raise_same ..)
    | apply Same.step (m := 67108861) (by decide) (sat_same ..)
    | apply Same.step (m := 67108855) (by decide) (postRec_same ..)
    | apply Same.ite
    | apply Same.ite1
    | apply Same.ite2
    | extract_lets
    | split
    | dsimp -zeta only
    | dsimp +zetaDelta only

theorem State.failWrite_same (s : State) (init : Nat) (seq : Nat) (target : Nat) (reason : Nat) (len : Nat) (addr : Nat) :
    Same 67106805 s (State.failWrite s init seq target reason len addr) := by
  unfold State.failWrite
  repeat' with_reducible first
    | exact Same.refl _
    | apply Same.step (m := 67106815) (by decide) (mapPort_same ..)
    | apply Same.step (m := 67108853) (by decide) (lateWrite_same ..)
    | apply Same.ite
    | apply Same.ite1
    | apply Same.ite2
    | extract_lets
    | split
    | dsimp -zeta only
    | dsimp +zetaDelta only

theorem State.trackDone_same (s : State) (init : Nat) (seq : Nat) (target : Nat) :
    Same 67106815 s (State.trackDone s init seq target) := by
  unfold State.trackDone
  repeat' with_reducible first
    | exact Same.refl _
    | apply Same.step (m := 67106815) (by decide) (mapPort_same ..)
    | apply Same.ite
    | apply Same.ite1
    | apply Same.ite2
    | extract_lets
    | split
    | dsimp -zeta only
    | dsimp +zetaDelta only

theorem State.trackAdd_same (s : State) (init : Nat) (seq : Nat) (target : Nat) :
    Same 67106815 s (State.trackAdd s init seq target) := by
  unfold State.trackAdd
  repeat' with_reducible first
    | exact Same.refl _
    | apply Same.step (m := 67106815) (by decide) (State.mapPort_same ..)
    | apply Same.ite
    | apply Same.ite1
    | apply Same.ite2
    | extract_lets
    | split
    | dsimp -zeta only
    | dsimp +zetaDelta only

theorem State.trackAll_same (s : State) (l : List (Nat × Nat × Nat)) :
    Same 67106815 s (State.trackAll s l) := by
  unfold State.trackAll
  repeat' with_reducible first
    | exact Same.refl _
    | apply Same.step (m := 67106815) (by decide) (State.trackAdd_same ..)
    | apply Same.trans _ (foldl_same _ _ _ (fun _ _ => ?_))
    | apply Same.trans _ (foldl_same1 _ _ _ (fun _ _ => ?_))
    | apply Same.ite
    | apply Same.ite1
    | apply Same.ite2
    | extract_lets
    | split
    | dsimp -zeta only
    | dsimp +zetaDelta only

theorem State.trackNone_same (s : State) (l : List (Nat × Nat × Nat)) :
    Same 67106815 s (State.trackNone s l) := by
  unfold State.trackNone
  repeat' with_reducible first
    | exact Same.refl _
    | apply Same.step (m := 67106815) (by decide) (State.trackDone_same ..)
    | apply Same.trans _ (foldl_same _ _ _ (fun _ _ => ?_))
    | apply Same.trans _ (foldl_same1 _ _ _ (fun _ _ => ?_))
    | apply Same.ite
    | apply Same.ite1
    | apply Same.ite2
    | extract_lets
    | split
    | dsimp -zeta only
    | dsimp +zetaDelta only

theorem State.logRefusal_same (s : State) (init : Nat) (op : Nat) (reason : Nat) (addr : Nat) (len : Nat) (seq : Nat) (kind : Nat) :
    Same 67108853 s (State.logRefusal s init op reason addr len seq kind) := by
  unfold State.logRefusal
  repeat' with_reducible first
    | exact Same.refl _
    | apply Same.step (m := 67108861) (by decide) (sat_same ..)
    | apply Same.step (m := 67108861) (by decide) (sets_same ..)
    | apply Same.step (m := 67108855) (by decide) (raiseIf_same ..)
    | apply Same.step (m := 67108855) (by decide) (raise_same ..)
    | apply Same.ite
    | apply Same.ite1
    | apply Same.ite2
    | extract_lets
    | split
    | dsimp -zeta only
    | dsimp +zetaDelta only

theorem State.mapGd_same (s : State) (f : GuardSt → GuardSt) :
    Same 67107839 s (State.mapGd s f) := by
  unfold State.mapGd
  repeat' with_reducible first
    | exact Same.refl _
    | apply Same.ite
    | apply Same.ite1
    | apply Same.ite2
    | extract_lets
    | split
    | dsimp -zeta only
    | dsimp +zetaDelta only
    | apply Same.with_gd (by decide)

theorem State.setFn_same (s : State) (x : Nat) (r : FnSlot) :
    Same 67106815 s (State.setFn s x r) := by
  unfold State.setFn
  repeat' with_reducible first
    | exact Same.refl _
    | apply Same.step (m := 67106815) (by decide) (mapPort_same ..)
    | apply Same.ite
    | apply Same.ite1
    | apply Same.ite2
    | extract_lets
    | split
    | dsimp -zeta only
    | dsimp +zetaDelta only

theorem State.fill_same (s : State) (g : Nat) (n : Nat) (c : Nat) :
    Same 67107839 s (State.fill s g n c) := by
  unfold State.fill
  repeat' with_reducible first
    | exact Same.refl _
    | apply Same.step (m := 67107839) (by decide) (State.mapGd_same ..)
    | apply Same.ite
    | apply Same.ite1
    | apply Same.ite2
    | extract_lets
    | split
    | dsimp -zeta only
    | dsimp +zetaDelta only

theorem State.badColour_same (s : State) (g : Nat) :
    Same 67107829 s (State.badColour s g) := by
  unfold State.badColour
  repeat' with_reducible first
    | exact Same.refl _
    | apply Same.step (m := 67107839) (by decide) (State.mapGd_same ..)
    | apply Same.step (m := 67108855) (by decide) (State.raise_same ..)
    | apply Same.step (m := 67108861) (by decide) (State.sat_same ..)
    | apply Same.step (m := 67108861) (by decide) (State.set_same ..)
    | apply Same.ite
    | apply Same.ite1
    | apply Same.ite2
    | extract_lets
    | split
    | dsimp -zeta only
    | dsimp +zetaDelta only

theorem State.colourFound_same (s : State) (g : Nat) (x0 : EccFind) :
    Same 67107829 s (State.colourFound s g x0) := by
  unfold State.colourFound
  repeat' with_reducible first
    | exact Same.refl _
    | apply Same.step (m := 67107829) (by decide) (State.badColour_same ..)
    | apply Same.step (m := 67107839) (by decide) (State.mapGd_same ..)
    | apply Same.ite
    | apply Same.ite1
    | apply Same.ite2
    | extract_lets
    | split
    | dsimp -zeta only
    | dsimp +zetaDelta only

theorem State.colourSeen_same (s : State) (g : Nat) :
    Same 67107829 s (State.colourSeen s g) := by
  unfold State.colourSeen
  repeat' with_reducible first
    | exact Same.refl _
    | apply Same.step (m := 67107829) (by decide) (State.colourFound_same ..)
    | apply Same.step (m := 67107839) (by decide) (State.mapGd_same ..)
    | apply Same.ite
    | apply Same.ite1
    | apply Same.ite2
    | extract_lets
    | split
    | dsimp -zeta only
    | dsimp +zetaDelta only

theorem State.colourUpset_same (s : State) (l : List (BitVec 24 × EccFind)) :
    Same 67107839 s (State.colourUpset s l) := by
  unfold State.colourUpset
  repeat' with_reducible first
    | exact Same.refl _
    | apply Same.step (m := 67107839) (by decide) (State.mapGd_same ..)
    | apply Same.trans _ (foldl_same _ _ _ (fun _ _ => ?_))
    | apply Same.trans _ (foldl_same1 _ _ _ (fun _ _ => ?_))
    | apply Same.ite
    | apply Same.ite1
    | apply Same.ite2
    | extract_lets
    | split
    | dsimp -zeta only
    | dsimp +zetaDelta only

theorem State.takeSeq_same (s : State) (init : Nat) :
    Same 67106813 s (State.takeSeq s init) := by
  unfold State.takeSeq
  repeat' with_reducible first
    | exact Same.refl _
    | apply Same.step (m := 67108861) (by decide) (wrap_same ..)
    | apply Same.step (m := 67106815) (by decide) (mapPort_same ..)
    | apply Same.step (m := 67108861) (by decide) (set_same ..)
    | apply Same.ite
    | apply Same.ite1
    | apply Same.ite2
    | extract_lets
    | split
    | dsimp -zeta only
    | dsimp +zetaDelta only

end Sys2Proof.Machine
end

