-- ==== Sys2Proof/Laws/FramePoolDest.lean ====
section
/-! SUPPORT. What each operation of Machine/PoolDest.lean may change: every other part of State stays as it is. -/

set_option linter.all false

namespace Sys2Proof.Machine

theorem State.setEng_same (s : State) (n : Nat) (x : ScanEng) :
    Same 67076095 s (State.setEng s n x) := by
  unfold State.setEng
  repeat' with_reducible first
    | exact Same.refl _
    | apply Same.ite
    | apply Same.ite1
    | apply Same.ite2
    | extract_lets
    | split
    | dsimp -zeta only
    | dsimp +zetaDelta only
    | apply Same.with_scan (by decide)

theorem State.mapEng_same (s : State) (n : Nat) (f : ScanEng → ScanEng) :
    Same 67076095 s (State.mapEng s n f) := by
  unfold State.mapEng
  repeat' with_reducible first
    | exact Same.refl _
    | apply Same.step (m := 67076095) (by decide) (setEng_same ..)
    | apply Same.ite
    | apply Same.ite1
    | apply Same.ite2
    | extract_lets
    | split
    | dsimp -zeta only
    | dsimp +zetaDelta only

theorem State.scanError_same (s : State) (n : Nat) (l : Nat) (cause : Nat) :
    Same 67076085 s (State.scanError s n l cause) := by
  unfold State.scanError
  repeat' with_reducible first
    | exact Same.refl _
    | apply Same.step (m := 67108855) (by decide) (raise_same ..)
    | apply Same.step (m := 67108861) (by decide) (sat_same ..)
    | apply Same.step (m := 67108861) (by decide) (sets_same ..)
    | apply Same.step (m := 67108861) (by decide) (set_same ..)
    | apply Same.step (m := 67076095) (by decide) (mapEng_same ..)
    | apply Same.ite
    | apply Same.ite1
    | apply Same.ite2
    | extract_lets
    | split
    | dsimp -zeta only
    | dsimp +zetaDelta only

theorem State.scanAnswer_same (s : State) (tag : Nat) (d : Option (BitVec 512 × Bool)) :
    Same 67076085 s (State.scanAnswer s tag d) := by
  unfold State.scanAnswer
  repeat' with_reducible first
    | exact Same.refl _
    | apply Same.step (m := 67076085) (by decide) (scanError_same ..)
    | apply Same.step (m := 67076095) (by decide) (mapEng_same ..)
    | apply Same.ite
    | apply Same.ite1
    | apply Same.ite2
    | extract_lets
    | split
    | dsimp -zeta only
    | dsimp +zetaDelta only

theorem State.pollGuard_same (s : State) :
    Same 67108853 s (State.pollGuard s) := by
  unfold State.pollGuard
  repeat' with_reducible first
    | exact Same.refl _
    | apply Same.step (m := 67108855) (by decide) (raise_same ..)
    | apply Same.step (m := 67108861) (by decide) (sets_same ..)
    | apply Same.step (m := 67108861) (by decide) (sat_same ..)
    | apply Same.ite
    | apply Same.ite1
    | apply Same.ite2
    | extract_lets
    | split
    | dsimp -zeta only
    | dsimp +zetaDelta only

theorem State.poolAnswer_same (s : State) (init : Nat) (tag : Nat) (d : Option (BitVec 512 × Bool)) :
    Same 67076085 s (State.poolAnswer s init tag d) := by
  unfold State.poolAnswer
  repeat' with_reducible first
    | exact Same.refl _
    | apply Same.step (m := 67108855) (by decide) (emit_same ..)
    | apply Same.step (m := 67076085) (by decide) (scanAnswer_same ..)
    | apply Same.step (m := 67108853) (by decide) (pollGuard_same ..)
    | apply Same.ite
    | apply Same.ite1
    | apply Same.ite2
    | extract_lets
    | split
    | dsimp -zeta only
    | dsimp +zetaDelta only

theorem State.scanAbandon_same (s : State) (n : Nat) (i : Nat) :
    Same 67076093 s (State.scanAbandon s n i) := by
  unfold State.scanAbandon
  repeat' with_reducible first
    | exact Same.refl _
    | apply Same.step (m := 67076095) (by decide) (mapEng_same ..)
    | apply Same.step (m := 67108861) (by decide) (sets_same ..)
    | apply Same.trans _ (foldl_same _ _ _ (fun _ _ => ?_))
    | apply Same.trans _ (foldl_same1 _ _ _ (fun _ _ => ?_))
    | apply Same.ite
    | apply Same.ite1
    | apply Same.ite2
    | extract_lets
    | split
    | dsimp -zeta only
    | dsimp +zetaDelta only

end Sys2Proof.Machine
end

