-- ==== Sys2Proof/Laws/FrameEvents.lean ====
section
/-! SUPPORT. What each operation of Machine/Events.lean may change: every other part of State stays as it is. -/

set_option linter.all false

namespace Sys2Proof.Machine

theorem State.retryHeld_same (s : State) (p : Nat → Bool) :
    Same 67108855 s (State.retryHeld s p) := by
  unfold State.retryHeld
  repeat' with_reducible first
    | exact Same.refl _
    | apply Same.step (m := 67108855) (by decide) (redeliver_same ..)
    | apply Same.trans _ (foldl_same _ _ _ (fun _ _ => ?_))
    | apply Same.trans _ (foldl_same1 _ _ _ (fun _ _ => ?_))
    | apply Same.ite
    | apply Same.ite1
    | apply Same.ite2
    | extract_lets
    | split
    | dsimp -zeta only
    | dsimp +zetaDelta only

theorem State.deliverHeld_same (s : State) (t : Nat) :
    Same 67108855 s (State.deliverHeld s t) := retryHeld_same s _

theorem State.dropTarget_same (s : State) (t : Nat) :
    Same 67108855 s (State.dropTarget s t) := by
  unfold State.dropTarget
  repeat' with_reducible first
    | exact Same.refl _
    | apply Same.step (m := 67108855) (by decide) (setTgt_same ..)
    | apply Same.step (m := 67108855) (by decide) (redeliverAs_same ..)
    | apply Same.trans _ (foldl_same _ _ _ (fun _ _ => ?_))
    | apply Same.trans _ (foldl_same1 _ _ _ (fun _ _ => ?_))
    | apply Same.ite
    | apply Same.ite1
    | apply Same.ite2
    | extract_lets
    | split
    | dsimp -zeta only
    | dsimp +zetaDelta only

theorem State.retarget_same (s : State) (t : Nat) :
    Same 67108855 s (State.retarget s t) := by
  unfold State.retarget
  repeat' with_reducible first
    | exact Same.refl _
    | apply Same.step (m := 67108855) (by decide) (deliverHeld_same ..)
    | apply Same.step (m := 67108855) (by decide) (dropTarget_same ..)
    | apply Same.ite
    | apply Same.ite1
    | apply Same.ite2
    | extract_lets
    | split
    | dsimp -zeta only
    | dsimp +zetaDelta only

theorem State.clearEvtStat_same (s : State) (pg : Nat) (v : Nat) :
    Same 67108855 s (State.clearEvtStat s pg v) := by
  unfold State.clearEvtStat
  repeat' with_reducible first
    | exact Same.refl _
    | apply Same.step (m := 67108855) (by decide) (setEv_same ..)
    | apply Same.trans _ (foldl_same _ _ _ (fun _ _ => ?_))
    | apply Same.trans _ (foldl_same1 _ _ _ (fun _ _ => ?_))
    | apply Same.ite
    | apply Same.ite1
    | apply Same.ite2
    | extract_lets
    | split
    | dsimp -zeta only
    | dsimp +zetaDelta only

theorem State.routed_same (s : State) (ev : Nat) :
    Same 67108855 s (State.routed s ev) := by
  unfold State.routed
  repeat' with_reducible first
    | exact Same.refl _
    | apply Same.step (m := 67108855) (by decide) (redeliver_same ..)
    | apply Same.ite
    | apply Same.ite1
    | apply Same.ite2
    | extract_lets
    | split
    | dsimp -zeta only
    | dsimp +zetaDelta only

theorem State.completeEv_same (s : State) (t : Nat) (fast : Bool) (ev : Nat) :
    Same 67108855 s (State.completeEv s t fast ev) := by
  unfold State.completeEv
  repeat' with_reducible first
    | exact Same.refl _
    | apply Same.step (m := 67108855) (by decide) (setEv_same ..)
    | apply Same.step (m := 67108855) (by decide) (setTgt_same ..)
    | apply Same.step (m := 67108855) (by decide) (request_same ..)
    | apply Same.ite
    | apply Same.ite1
    | apply Same.ite2
    | extract_lets
    | split
    | dsimp -zeta only
    | dsimp +zetaDelta only

theorem State.consumed_same (s : State) (h : Nat) :
    Same 67108855 s (State.consumed s h) := by
  unfold State.consumed
  repeat' with_reducible first
    | exact Same.refl _
    | apply Same.step (m := 67108855) (by decide) (request_same ..)
    | apply Same.ite
    | apply Same.ite1
    | apply Same.ite2
    | extract_lets
    | split
    | dsimp -zeta only
    | dsimp +zetaDelta only

theorem State.claim_same (s : State) (t : Nat) (fast : Bool) :
    Same 67108855 s (State.claim s t fast).2 := by
  unfold State.claim
  repeat' with_reducible first
    | exact Same.refl _
    | apply Same.step (m := 67108855) (by decide) (setEv_same ..)
    | apply Same.step (m := 67108855) (by decide) (setTgt_same ..)
    | apply Same.ite
    | apply Same.ite1
    | apply Same.ite2
    | extract_lets
    | split
    | dsimp -zeta only
    | dsimp +zetaDelta only

theorem State.msixOn_same (s : State) (h : Nat) :
    Same 67108855 s (State.msixOn s h) := by
  unfold State.msixOn
  repeat' with_reducible first
    | exact Same.refl _
    | apply Same.step (m := 67108855) (by decide) (setTgt_same ..)
    | apply Same.step (m := 67108855) (by decide) (request_same ..)
    | apply Same.ite
    | apply Same.ite1
    | apply Same.ite2
    | extract_lets
    | split
    | dsimp -zeta only
    | dsimp +zetaDelta only

theorem State.unmaskVec_same (s : State) (h : Nat) (v : Nat) :
    Same 67108855 s (State.unmaskVec s h v) := by
  unfold State.unmaskVec
  repeat' with_reducible first
    | exact Same.refl _
    | apply Same.step (m := 67108855) (by decide) (State.sendVec_same ..)
    | apply Same.step (m := 67108855) (by decide) (State.setTgt_same ..)
    | apply Same.ite
    | apply Same.ite1
    | apply Same.ite2
    | extract_lets
    | split
    | dsimp -zeta only
    | dsimp +zetaDelta only

theorem State.msixAct_same (s : State) (h : Nat) (x0 : MsixAct) :
    Same 67108855 s (State.msixAct s h x0) := by
  unfold State.msixAct
  repeat' with_reducible first
    | exact Same.refl _
    | apply Same.step (m := 67108855) (by decide) (State.msixOn_same ..)
    | apply Same.step (m := 67108855) (by decide) (State.setTgt_same ..)
    | apply Same.step (m := 67108855) (by decide) (State.unmaskVec_same ..)
    | apply Same.trans _ (foldl_same _ _ _ (fun _ _ => ?_))
    | apply Same.trans _ (foldl_same1 _ _ _ (fun _ _ => ?_))
    | apply Same.ite
    | apply Same.ite1
    | apply Same.ite2
    | extract_lets
    | split
    | dsimp -zeta only
    | dsimp +zetaDelta only

theorem State.writeEn_same (s : State) (pg : Nat) (en : Bool) :
    Same 67108853 s (State.writeEn s pg en) := by
  unfold State.writeEn
  repeat' with_reducible first
    | exact Same.refl _
    | apply Same.step (m := 67108861) (by decide) (put_same ..)
    | apply Same.step (m := 67108855) (by decide) (redeliver_same ..)
    | apply Same.trans _ (foldl_same _ _ _ (fun _ _ => ?_))
    | apply Same.trans _ (foldl_same1 _ _ _ (fun _ _ => ?_))
    | apply Same.ite
    | apply Same.ite1
    | apply Same.ite2
    | extract_lets
    | split
    | dsimp -zeta only
    | dsimp +zetaDelta only

theorem State.writeEvtEn_same (s : State) (pg : Nat) (v : Nat) :
    Same 67108853 s (State.writeEvtEn s pg v) := by
  unfold State.writeEvtEn
  repeat' with_reducible first
    | exact Same.refl _
    | apply Same.step (m := 67108861) (by decide) (set_same ..)
    | apply Same.step (m := 67108855) (by decide) (redeliver_same ..)
    | apply Same.trans _ (foldl_same _ _ _ (fun _ _ => ?_))
    | apply Same.trans _ (foldl_same1 _ _ _ (fun _ _ => ?_))
    | apply Same.ite
    | apply Same.ite1
    | apply Same.ite2
    | extract_lets
    | split
    | dsimp -zeta only
    | dsimp +zetaDelta only

end Sys2Proof.Machine
end

