-- ==== Sys2Proof/Laws/FrameMailbox.lean ====
section
/-! SUPPORT. What each operation of Machine/Mailbox.lean may change: every other part of State stays as it is. -/

set_option linter.all false

namespace Sys2Proof.Machine

theorem State.takeCmdRing_same (s : State) (h : Nat) :
    Same 67108851 s (State.takeCmdRing s h) := by
  unfold State.takeCmdRing
  repeat' with_reducible first
    | exact Same.refl _
    | apply Same.step (m := 67108855) (by decide) (setMail_same ..)
    | apply Same.step (m := 67108859) (by decide) (takeUp_same ..)
    | apply Same.ite
    | apply Same.ite1
    | apply Same.ite2
    | extract_lets
    | split
    | dsimp -zeta only
    | dsimp +zetaDelta only

theorem State.takeEvtRing_same (s : State) (h : Nat) :
    Same 67108851 s (State.takeEvtRing s h) := by
  unfold State.takeEvtRing
  repeat' with_reducible first
    | exact Same.refl _
    | apply Same.step (m := 67108855) (by decide) (setMail_same ..)
    | apply Same.step (m := 67108859) (by decide) (takeUp_same ..)
    | apply Same.ite
    | apply Same.ite1
    | apply Same.ite2
    | extract_lets
    | split
    | dsimp -zeta only
    | dsimp +zetaDelta only

theorem State.readEntry_same (s : State) (h : Nat) (c : CmdHead) :
    Same 67108855 s (State.readEntry s h c) := by
  unfold State.readEntry
  repeat' with_reducible first
    | exact Same.refl _
    | apply Same.step (m := 67108855) (by decide) (setMail_same ..)
    | apply Same.step (m := 67108855) (by decide) (complete_same ..)
    | apply Same.step (m := 67108855) (by decide) (postRec_same ..)
    | apply Same.step (m := 67108855) (by decide) (raise_same ..)
    | apply Same.ite
    | apply Same.ite1
    | apply Same.ite2
    | extract_lets
    | split
    | dsimp -zeta only
    | dsimp +zetaDelta only

theorem State.readPosted_same (s : State) (h : Nat) :
    Same 67108855 s (State.readPosted s h) := by
  unfold State.readPosted
  repeat' with_reducible first
    | exact Same.refl _
    | apply Same.step (m := 67108855) (by decide) (readEntry_same ..)
    | apply Same.trans _ (foldl_same _ _ _ (fun _ _ => ?_))
    | apply Same.trans _ (foldl_same1 _ _ _ (fun _ _ => ?_))
    | apply Same.ite
    | apply Same.ite1
    | apply Same.ite2
    | extract_lets
    | split
    | dsimp -zeta only
    | dsimp +zetaDelta only

theorem State.restart_same (s : State) (h : Nat) :
    Same 67108851 s (State.restart s h) := by
  unfold State.restart
  repeat' with_reducible first
    | exact Same.refl _
    | apply Same.step (m := 67108855) (by decide) (setMail_same ..)
    | apply Same.step (m := 67108851) (by decide) (takeEvtRing_same ..)
    | apply Same.step (m := 67108851) (by decide) (takeCmdRing_same ..)
    | apply Same.ite
    | apply Same.ite1
    | apply Same.ite2
    | extract_lets
    | split
    | dsimp -zeta only
    | dsimp +zetaDelta only

theorem State.ringCtrl_same (s : State) (s0 : State) (h : Nat) (restart : Bool) :
    Same 67108851 s (State.ringCtrl s s0 h restart) := by
  unfold State.ringCtrl
  repeat' with_reducible first
    | exact Same.refl _
    | apply Same.step (m := 67108851) (by decide) (takeCmdRing_same ..)
    | apply Same.step (m := 67108851) (by decide) (takeEvtRing_same ..)
    | apply Same.step (m := 67108855) (by decide) (readPosted_same ..)
    | apply Same.step (m := 67108851) (by decide) (restart_same ..)
    | apply Same.ite
    | apply Same.ite1
    | apply Same.ite2
    | extract_lets
    | split
    | dsimp -zeta only
    | dsimp +zetaDelta only

theorem State.post_same (s : State) (h : Nat) (l : List CmdHead) :
    Same 67108855 s (State.post s h l) := by
  unfold State.post
  repeat' with_reducible first
    | exact Same.refl _
    | apply Same.step (m := 67108855) (by decide) (readPosted_same ..)
    | apply Same.step (m := 67108855) (by decide) (setMail_same ..)
    | apply Same.ite
    | apply Same.ite1
    | apply Same.ite2
    | extract_lets
    | split
    | dsimp -zeta only
    | dsimp +zetaDelta only

theorem State.resync_same (s : State) (h : Nat) (go : Bool) :
    Same 67108855 s (State.resync s h go) := by
  unfold State.resync
  repeat' with_reducible first
    | exact Same.refl _
    | apply Same.step (m := 67108855) (by decide) (setMail_same ..)
    | apply Same.ite
    | apply Same.ite1
    | apply Same.ite2
    | extract_lets
    | split
    | dsimp -zeta only
    | dsimp +zetaDelta only

theorem State.mailFx_same (s : State) (s0 : State) (x : Wr) :
    Same 67108851 s (State.mailFx s s0 x) := by
  unfold State.mailFx
  repeat' with_reducible first
    | exact Same.refl _
    | apply Same.step (m := 67108851) (by decide) (ringCtrl_same ..)
    | apply Same.step (m := 67108855) (by decide) (post_same ..)
    | apply Same.step (m := 67108855) (by decide) (consumed_same ..)
    | apply Same.step (m := 67108855) (by decide) (resync_same ..)
    | apply Same.ite
    | apply Same.ite1
    | apply Same.ite2
    | extract_lets
    | split
    | dsimp -zeta only
    | dsimp +zetaDelta only

end Sys2Proof.Machine
end

