-- ==== Sys2Proof/Laws/FramePool.lean ====
section
/-! SUPPORT. What each operation of Machine/Pool.lean may change: every other part of State stays as it is. -/

set_option linter.all false

namespace Sys2Proof.Machine

theorem State.putWay_same (s : State) (l : Nat) (w : Nat) (e : Option DirEntry) :
    Same 67108351 s (State.putWay s l w e) := by
  unfold State.putWay
  repeat' with_reducible first
    | exact Same.refl _
    | apply Same.step (m := 67108351) (by decide) (State.mapPool_same ..)
    | apply Same.ite
    | apply Same.ite1
    | apply Same.ite2
    | extract_lets
    | split
    | dsimp -zeta only
    | dsimp +zetaDelta only

theorem State.setEntry_same (s : State) (l : Nat) (e : DirEntry) :
    Same 67108351 s (State.setEntry s l e) := by
  unfold State.setEntry
  repeat' with_reducible first
    | exact Same.refl _
    | apply Same.step (m := 67108351) (by decide) (State.putWay_same ..)
    | apply Same.ite
    | apply Same.ite1
    | apply Same.ite2
    | extract_lets
    | split
    | dsimp -zeta only
    | dsimp +zetaDelta only

theorem State.sendS2M_same (s : State) (h : Nat) (tag : Nat) (m : S2M) :
    Same 50327413 s (State.sendS2M s h tag m) := by
  unfold State.sendS2M
  repeat' with_reducible first
    | exact Same.refl _
    | apply Same.step (m := 50327413) (by decide) (State.cellsOut_same ..)
    | apply Same.step (m := 67108855) (by decide) (State.emit_same ..)
    | apply Same.ite
    | apply Same.ite1
    | apply Same.ite2
    | extract_lets
    | split
    | dsimp -zeta only
    | dsimp +zetaDelta only

theorem State.sendDrs_same (s : State) (h : Nat) (tag : Nat) (d : BitVec 512) (poison : Bool) :
    Same 50327413 s (State.sendDrs s h tag d poison) := by
  unfold State.sendDrs
  repeat' with_reducible first
    | exact Same.refl _
    | apply Same.step (m := 50331647) (by decide) (State.fresh_same ..)
    | apply Same.step (m := 50327413) (by decide) (State.sendS2M_same ..)
    | apply Same.ite
    | apply Same.ite1
    | apply Same.ite2
    | extract_lets
    | split
    | dsimp -zeta only
    | dsimp +zetaDelta only

theorem State.dropReq_same (s : State) (id : Nat) :
    Same 67108351 s (State.dropReq s id) := by
  unfold State.dropReq
  repeat' with_reducible first
    | exact Same.refl _
    | apply Same.step (m := 67108351) (by decide) (mapPool_same ..)
    | apply Same.ite
    | apply Same.ite1
    | apply Same.ite2
    | extract_lets
    | split
    | dsimp -zeta only
    | dsimp +zetaDelta only

theorem State.setCreamSet_same (s : State) (n : Nat) (l : Nat) (x : List CrLine) :
    Same 67108351 s (State.setCreamSet s n l x) := by
  unfold State.setCreamSet
  repeat' with_reducible first
    | exact Same.refl _
    | apply Same.step (m := 67108351) (by decide) (mapPool_same ..)
    | apply Same.ite
    | apply Same.ite1
    | apply Same.ite2
    | extract_lets
    | split
    | dsimp -zeta only
    | dsimp +zetaDelta only

theorem State.passF_same (s : State) (n : Nat) (l : Nat) :
    Same 67108351 s (State.passF s n l) := by
  unfold State.passF
  repeat' with_reducible first
    | exact Same.refl _
    | apply Same.step (m := 67108351) (by decide) (setEntry_same ..)
    | apply Same.step (m := 67108351) (by decide) (setCreamSet_same ..)
    | apply Same.ite
    | apply Same.ite1
    | apply Same.ite2
    | extract_lets
    | split
    | dsimp -zeta only
    | dsimp +zetaDelta only

theorem State.clearCream_same (s : State) (n : Nat) (l : Nat) :
    Same 67108351 s (State.clearCream s n l) := by
  unfold State.clearCream
  repeat' with_reducible first
    | exact Same.refl _
    | apply Same.step (m := 67108351) (by decide) (State.passF_same ..)
    | apply Same.step (m := 67108351) (by decide) (State.putWay_same ..)
    | apply Same.step (m := 67108351) (by decide) (State.setEntry_same ..)
    | apply Same.ite
    | apply Same.ite1
    | apply Same.ite2
    | extract_lets
    | split
    | dsimp -zeta only
    | dsimp +zetaDelta only

theorem State.creamEvict_same (s : State) (n : Nat) (c : CrLine) :
    Same 67108349 s (State.creamEvict s n c) := by
  unfold State.creamEvict
  repeat' with_reducible first
    | exact Same.refl _
    | apply Same.step (m := 67108861) (by decide) (sat_same ..)
    | apply Same.step (m := 67108351) (by decide) (clearCream_same ..)
    | apply Same.step (m := 67108351) (by decide) (setCreamSet_same ..)
    | apply Same.ite
    | apply Same.ite1
    | apply Same.ite2
    | extract_lets
    | split
    | dsimp -zeta only
    | dsimp +zetaDelta only

theorem State.creamInstall_same (s : State) (n : Nat) (l : Nat) (f : Bool) (d : BitVec 512) :
    Same 67108349 s (State.creamInstall s n l f d) := by
  unfold State.creamInstall
  repeat' with_reducible first
    | exact Same.refl _
    | apply Same.step (m := 67108351) (by decide) (setCreamSet_same ..)
    | apply Same.step (m := 67108349) (by decide) (creamEvict_same ..)
    | apply Same.step (m := 67108861) (by decide) (sat_same ..)
    | apply Same.ite
    | apply Same.ite1
    | apply Same.ite2
    | extract_lets
    | split
    | dsimp -zeta only
    | dsimp +zetaDelta only

theorem State.mapReq_same (s : State) (id : Nat) (f : Req → Req) :
    Same 67108351 s (State.mapReq s id f) := by
  unfold State.mapReq
  repeat' with_reducible first
    | exact Same.refl _
    | apply Same.step (m := 67108351) (by decide) (mapPool_same ..)
    | apply Same.ite
    | apply Same.ite1
    | apply Same.ite2
    | extract_lets
    | split
    | dsimp -zeta only
    | dsimp +zetaDelta only

theorem State.setXtag_same (s : State) (m : Nat) (idx : Nat) (t : XTag) :
    Same 67108351 s (State.setXtag s m idx t) := by
  unfold State.setXtag
  repeat' with_reducible first
    | exact Same.refl _
    | apply Same.step (m := 67108351) (by decide) (mapPool_same ..)
    | apply Same.ite
    | apply Same.ite1
    | apply Same.ite2
    | extract_lets
    | split
    | dsimp -zeta only
    | dsimp +zetaDelta only

theorem State.xSend_same (s : State) (m : Nat) (idx : Nat) (j : XJob) :
    Same 50326901 s (State.xSend s m idx j) := by
  unfold State.xSend
  repeat' with_reducible first
    | exact Same.refl _
    | apply Same.step (m := 50327413) (by decide) (State.cellsOut_same ..)
    | apply Same.step (m := 67108855) (by decide) (State.emit_same ..)
    | apply Same.step (m := 67108351) (by decide) (State.setXtag_same ..)
    | apply Same.ite
    | apply Same.ite1
    | apply Same.ite2
    | extract_lets
    | split
    | dsimp -zeta only
    | dsimp +zetaDelta only

theorem State.xIssue_same (s : State) (m : Nat) (j : XJob) :
    Same 50326901 s (State.xIssue s m j) := by
  unfold State.xIssue
  repeat' with_reducible first
    | exact Same.refl _
    | apply Same.step (m := 50326901) (by decide) (xSend_same ..)
    | apply Same.step (m := 67108351) (by decide) (mapPool_same ..)
    | apply Same.ite
    | apply Same.ite1
    | apply Same.ite2
    | extract_lets
    | split
    | dsimp -zeta only
    | dsimp +zetaDelta only

theorem State.dropCopies_same (s : State) (l : Nat) :
    Same 67108349 s (State.dropCopies s l) := by
  unfold State.dropCopies
  repeat' with_reducible first
    | exact Same.refl _
    | apply Same.step (m := 67108861) (by decide) (sat_same ..)
    | apply Same.step (m := 67108351) (by decide) (setCreamSet_same ..)
    | apply Same.step (m := 67108351) (by decide) (setEntry_same ..)
    | apply Same.trans _ (foldl_same _ _ _ (fun _ _ => ?_))
    | apply Same.trans _ (foldl_same1 _ _ _ (fun _ _ => ?_))
    | apply Same.ite
    | apply Same.ite1
    | apply Same.ite2
    | extract_lets
    | split
    | dsimp -zeta only
    | dsimp +zetaDelta only

theorem State.snoop_same (s : State) (h : Nat) (line : Nat) (kind : Nat) (discard : Bool) :
    Same 50326901 s (State.snoop s h line kind discard) := by
  unfold State.snoop
  repeat' with_reducible first
    | exact Same.refl _
    | apply Same.step (m := 67108351) (by decide) (State.mapPool_same ..)
    | apply Same.step (m := 67108861) (by decide) (State.sat_same ..)
    | apply Same.step (m := 50327413) (by decide) (State.sendS2M_same ..)
    | apply Same.ite
    | apply Same.ite1
    | apply Same.ite2
    | extract_lets
    | split
    | dsimp -zeta only
    | dsimp +zetaDelta only

theorem State.creamDrop_same (s : State) (n : Nat) (bank : Option Nat) :
    Same 67108341 s (State.creamDrop s n bank) := by
  unfold State.creamDrop
  repeat' with_reducible first
    | exact Same.refl _
    | apply Same.step (m := 67108855) (by decide) (raise_same ..)
    | apply Same.step (m := 67108861) (by decide) (sat_same ..)
    | apply Same.step (m := 67108351) (by decide) (mapPool_same ..)
    | apply Same.ite
    | apply Same.ite1
    | apply Same.ite2
    | extract_lets
    | split
    | dsimp -zeta only
    | dsimp +zetaDelta only

theorem State.xPump_same (s : State) (m : Nat) :
    Same 50326901 s (State.xPump s m) := by
  unfold State.xPump
  repeat' with_reducible first
    | exact Same.refl _
    | apply Same.step (m := 50326901) (by decide) (xSend_same ..)
    | apply Same.step (m := 67108351) (by decide) (mapPool_same ..)
    | apply Same.ite
    | apply Same.ite1
    | apply Same.ite2
    | extract_lets
    | split
    | dsimp -zeta only
    | dsimp +zetaDelta only

end Sys2Proof.Machine
end

