-- ==== Sys2Proof/Laws/FramePoolFlow.lean ====
section
/-! SUPPORT. What each operation of Machine/PoolFlow.lean may change: every other part of State stays as it is. -/

set_option linter.all false

namespace Sys2Proof.Machine

theorem State.finish_same (s : State) (r : Req) :
    Same 67108351 s (State.finish s r) := by
  unfold State.finish
  repeat' with_reducible first
    | exact Same.refl _
    | apply Same.step (m := 67108351) (by decide) (setEntry_same ..)
    | apply Same.step (m := 67108351) (by decide) (dropReq_same ..)
    | apply Same.ite
    | apply Same.ite1
    | apply Same.ite2
    | extract_lets
    | split
    | dsimp -zeta only
    | dsimp +zetaDelta only

theorem flushParts_same (s : State) (init : Nat) (tag : Nat) (x3 : List (Nat × Nat × Option (BitVec 512 × Bool))) :
    Same 67076085 s (flushParts s init tag x3).1 := by
  induction x3 generalizing s with
  | nil => exact Same.refl _
  | cons a l ih =>
    obtain ⟨o, n, d⟩ := a; cases d <;> unfold flushParts
    repeat' with_reducible first
      | exact Same.refl _
      | apply Same.step (m := 67076085) (by decide) (State.poolAnswer_same _ _ _ _)
      | apply Same.step (m := 67108855) (by decide) (State.emit_same _ _)
      | apply Same.trans _ (ih _)
      | apply Same.ite
      | apply Same.ite1
      | apply Same.ite2
      | extract_lets
      | split
      | dsimp -zeta only
      | dsimp +zetaDelta only

theorem State.flushRead_same (s : State) (x : FRead) :
    Same 67075573 s (State.flushRead s x) := by
  unfold State.flushRead
  repeat' with_reducible first
    | exact Same.refl _
    | apply Same.step (m := 67076085) (by decide) (flushParts_same _ _ _ _)
    | apply Same.step (m := 67076085) (by decide) (poolAnswer_same ..)
    | apply Same.step (m := 67108855) (by decide) (emit_same ..)
    | apply Same.ite
    | apply Same.ite1
    | apply Same.ite2
    | extract_lets
    | split
    | dsimp -zeta only
    | dsimp +zetaDelta only
    | apply Same.with_regs (by decide)
    | apply Same.with_sig (by decide)
    | apply Same.with_pool (by decide)
    | apply Same.with_scan (by decide)

theorem State.partDone_same (s : State) (init : Nat) (tag : Nat) (addr : Nat) (d : BitVec 512) (poison : Bool) :
    Same 67075573 s (State.partDone s init tag addr d poison) := by
  unfold State.partDone
  repeat' with_reducible first
    | exact Same.refl _
    | apply Same.step (m := 67075573) (by decide) (flushRead_same ..)
    | apply Same.ite
    | apply Same.ite1
    | apply Same.ite2
    | extract_lets
    | split
    | dsimp -zeta only
    | dsimp +zetaDelta only

theorem State.answer_same (s : State) (r : Req) (nd : S2M) (d : Option (BitVec 512 × Bool)) :
    Same 50294133 s (State.answer s r nd d) := by
  unfold State.answer
  repeat' with_reducible first
    | exact Same.refl _
    | apply Same.step (m := 67075573) (by decide) (State.partDone_same ..)
    | apply Same.step (m := 50327413) (by decide) (State.sendDrs_same ..)
    | apply Same.step (m := 50327413) (by decide) (State.sendS2M_same ..)
    | apply Same.ite
    | apply Same.ite1
    | apply Same.ite2
    | extract_lets
    | split
    | dsimp -zeta only
    | dsimp +zetaDelta only

theorem State.dropWrite_same (s : State) (init : Nat) (seq : Nat) (target : Nat) (reason : Nat) (len : Nat) (addr : Nat) :
    Same 67106805 s (State.dropWrite s init seq target reason len addr) := by
  unfold State.dropWrite
  repeat' with_reducible first
    | exact Same.refl _
    | apply Same.step (m := 67106805) (by decide) (failWrite_same ..)
    | apply Same.step (m := 67106815) (by decide) (trackDone_same ..)
    | apply Same.ite
    | apply Same.ite1
    | apply Same.ite2
    | extract_lets
    | split
    | dsimp -zeta only
    | dsimp +zetaDelta only

theorem State.pushWrite_same (s : State) (w : PWrite) :
    Same 50324853 s (State.pushWrite s w) := by
  unfold State.pushWrite
  repeat' with_reducible first
    | exact Same.refl _
    | apply Same.step (m := 67106805) (by decide) (dropWrite_same ..)
    | apply Same.step (m := 67108351) (by decide) (finish_same ..)
    | apply Same.step (m := 67108351) (by decide) (mapPool_same ..)
    | apply Same.step (m := 50326901) (by decide) (xIssue_same ..)
    | apply Same.ite
    | apply Same.ite1
    | apply Same.ite2
    | extract_lets
    | split
    | dsimp -zeta only
    | dsimp +zetaDelta only

theorem State.startDead_same (s : State) (r : Req) (reason : Nat) :
    Same 50292085 s (State.startDead s r reason) := by
  unfold State.startDead
  repeat' with_reducible first
    | exact Same.refl _
    | apply Same.step (m := 50294133) (by decide) (State.answer_same ..)
    | apply Same.step (m := 67106805) (by decide) (State.dropWrite_same ..)
    | apply Same.step (m := 67108351) (by decide) (State.finish_same ..)
    | apply Same.ite
    | apply Same.ite1
    | apply Same.ite2
    | extract_lets
    | split
    | dsimp -zeta only
    | dsimp +zetaDelta only

theorem State.readDone_same (s : State) (r : Req) (d : BitVec 512) (poison : Bool) :
    Same 50292085 s (State.readDone s r d poison) := by
  unfold State.readDone
  repeat' with_reducible first
    | exact Same.refl _
    | apply Same.step (m := 50294133) (by decide) (State.answer_same ..)
    | apply Same.step (m := 67108349) (by decide) (State.creamInstall_same ..)
    | apply Same.step (m := 67108351) (by decide) (State.dropReq_same ..)
    | apply Same.step (m := 67108351) (by decide) (State.finish_same ..)
    | apply Same.step (m := 67108351) (by decide) (State.mapReq_same ..)
    | apply Same.step (m := 50324853) (by decide) (State.pushWrite_same ..)
    | apply Same.step (m := 67108351) (by decide) (State.setEntry_same ..)
    | apply Same.step (m := 50292085) (by decide) (State.startDead_same ..)
    | apply Same.ite
    | apply Same.ite1
    | apply Same.ite2
    | extract_lets
    | split
    | dsimp -zeta only
    | dsimp +zetaDelta only

theorem State.readAnswered_same (s : State) (id : Nat) (d : BitVec 512) (poison : Bool) (fromExp : Bool) :
    Same 50292085 s (State.readAnswered s id d poison fromExp) := by
  unfold State.readAnswered
  repeat' with_reducible first
    | exact Same.refl _
    | apply Same.step (m := 67108351) (by decide) (State.mapReq_same ..)
    | apply Same.step (m := 67108855) (by decide) (State.raise_same ..)
    | apply Same.step (m := 50292085) (by decide) (State.readDone_same ..)
    | apply Same.step (m := 67108861) (by decide) (State.sat_same ..)
    | apply Same.ite
    | apply Same.ite1
    | apply Same.ite2
    | extract_lets
    | split
    | dsimp -zeta only
    | dsimp +zetaDelta only

theorem State.writeEnd_same (s : State) (w : PWrite) (reason : Option Nat) :
    Same 67106293 s (State.writeEnd s w reason) := by
  unfold State.writeEnd
  repeat' with_reducible first
    | exact Same.refl _
    | apply Same.step (m := 67106805) (by decide) (State.dropWrite_same ..)
    | apply Same.step (m := 67108351) (by decide) (State.finish_same ..)
    | apply Same.step (m := 67108351) (by decide) (State.mapPool_same ..)
    | apply Same.step (m := 67108351) (by decide) (State.mapReq_same ..)
    | apply Same.step (m := 67106815) (by decide) (State.trackDone_same ..)
    | apply Same.ite
    | apply Same.ite1
    | apply Same.ite2
    | extract_lets
    | split
    | dsimp -zeta only
    | dsimp +zetaDelta only

theorem State.xAbort_same (s : State) (j : XJob) (reason : Nat) :
    Same 50292085 s (State.xAbort s j reason) := by
  unfold State.xAbort
  repeat' with_reducible first
    | exact Same.refl _
    | apply Same.step (m := 50292085) (by decide) (readAnswered_same ..)
    | apply Same.step (m := 67106293) (by decide) (writeEnd_same ..)
    | apply Same.ite
    | apply Same.ite1
    | apply Same.ite2
    | extract_lets
    | split
    | dsimp -zeta only
    | dsimp +zetaDelta only

theorem State.abortPort_same (s : State) (m : Nat) (wr : Option Nat) :
    Same 50292085 s (State.abortPort s m wr) := by
  unfold State.abortPort
  repeat' with_reducible first
    | exact Same.refl _
    | apply Same.step (m := 67108351) (by decide) (mapPool_same ..)
    | apply Same.step (m := 50292085) (by decide) (xAbort_same ..)
    | apply Same.trans _ (foldl_same _ _ _ (fun _ _ => ?_))
    | apply Same.trans _ (foldl_same1 _ _ _ (fun _ _ => ?_))
    | apply Same.ite
    | apply Same.ite1
    | apply Same.ite2
    | extract_lets
    | split
    | dsimp -zeta only
    | dsimp +zetaDelta only

theorem State.accept_same (s : State) (r : Req) :
    Same 50326901 s (State.accept s r) := by
  unfold State.accept
  repeat' with_reducible first
    | exact Same.refl _
    | apply Same.step (m := 67108351) (by decide) (State.mapPool_same ..)
    | apply Same.step (m := 50327413) (by decide) (State.sendS2M_same ..)
    | apply Same.ite
    | apply Same.ite1
    | apply Same.ite2
    | extract_lets
    | split
    | dsimp -zeta only
    | dsimp +zetaDelta only

theorem State.recall_same (s : State) (l : Nat) (hosts : List Nat) (cream : Bool) (discard : Bool) :
    Same 50326901 s (State.recall s l hosts cream discard) := by
  unfold State.recall
  repeat' with_reducible first
    | exact Same.refl _
    | apply Same.step (m := 67108349) (by decide) (dropCopies_same ..)
    | apply Same.step (m := 67108351) (by decide) (setEntry_same ..)
    | apply Same.step (m := 50326901) (by decide) (snoop_same ..)
    | apply Same.trans _ (foldl_same _ _ _ (fun _ _ => ?_))
    | apply Same.trans _ (foldl_same1 _ _ _ (fun _ _ => ?_))
    | apply Same.ite
    | apply Same.ite1
    | apply Same.ite2
    | extract_lets
    | split
    | dsimp -zeta only
    | dsimp +zetaDelta only

theorem State.readMem_same (s : State) (r : Req) :
    Same 50292085 s (State.readMem s r) := by
  unfold State.readMem
  repeat' with_reducible first
    | exact Same.refl _
    | apply Same.step (m := 67108351) (by decide) (State.mapReq_same ..)
    | apply Same.step (m := 50292085) (by decide) (State.readDone_same ..)
    | apply Same.step (m := 67108351) (by decide) (State.setEntry_same ..)
    | apply Same.step (m := 50326901) (by decide) (State.xIssue_same ..)
    | apply Same.ite
    | apply Same.ite1
    | apply Same.ite2
    | extract_lets
    | split
    | dsimp -zeta only
    | dsimp +zetaDelta only

theorem State.evictWay_same (s : State) (l : Nat) (v : Nat × DirEntry) :
    Same 50326901 s (State.evictWay s l v) := by
  unfold State.evictWay
  repeat' with_reducible first
    | exact Same.refl _
    | apply Same.step (m := 67108351) (by decide) (State.putWay_same ..)
    | apply Same.step (m := 50326901) (by decide) (State.recall_same ..)
    | apply Same.step (m := 67108861) (by decide) (State.sat_same ..)
    | apply Same.trans _ (foldl_same _ _ _ (fun _ _ => ?_))
    | apply Same.trans _ (foldl_same1 _ _ _ (fun _ _ => ?_))
    | apply Same.ite
    | apply Same.ite1
    | apply Same.ite2
    | extract_lets
    | split
    | dsimp -zeta only
    | dsimp +zetaDelta only

theorem State.useWay_same (s : State) (r : Req) (w : Nat) :
    Same 67108341 s (State.useWay s r w).1 := by
  unfold State.useWay
  dsimp only
  exact Same.step (m := 67108351) (by decide) (State.putWay_same ..) (Same.refl _)

theorem State.takeWay_same (s : State) (r : Req) :
    Same 50326901 s (State.takeWay s r).1 := by
  unfold State.takeWay
  repeat' with_reducible first
    | exact Same.refl _
    | apply Same.step (m := 67108341) (by decide) (useWay_same ..)
    | apply Same.step (m := 50326901) (by decide) (evictWay_same ..)
    | apply Same.step (m := 67108351) (by decide) (mapPool_same ..)
    | apply Same.step (m := 67108351) (by decide) (mapReq_same ..)
    | apply Same.ite
    | apply Same.ite1
    | apply Same.ite2
    | extract_lets
    | split
    | dsimp -zeta only
    | dsimp +zetaDelta only

theorem State.putBytes_same (s : State) (r : Req) :
    Same 50324853 s (State.putBytes s r) := by
  unfold State.putBytes
  repeat' with_reducible first
    | exact Same.refl _
    | apply Same.step (m := 50324853) (by decide) (pushWrite_same ..)
    | apply Same.step (m := 67108351) (by decide) (mapReq_same ..)
    | apply Same.ite
    | apply Same.ite1
    | apply Same.ite2
    | extract_lets
    | split
    | dsimp -zeta only
    | dsimp +zetaDelta only

theorem State.startI_same (s : State) (r : Req) :
    Same 50292085 s (State.startI s r) := by
  unfold State.startI
  repeat' with_reducible first
    | exact Same.refl _
    | apply Same.step (m := 50292085) (by decide) (readMem_same ..)
    | apply Same.step (m := 50326901) (by decide) (takeWay_same ..)
    | apply Same.step (m := 50324853) (by decide) (putBytes_same ..)
    | apply Same.ite
    | apply Same.ite1
    | apply Same.ite2
    | extract_lets
    | split
    | dsimp -zeta only
    | dsimp +zetaDelta only

theorem State.fromOwner_same (s : State) (r : Req) :
    Same 50292085 s (State.fromOwner s r) := by
  unfold State.fromOwner
  repeat' with_reducible first
    | exact Same.refl _
    | apply Same.step (m := 50292085) (by decide) (readDone_same ..)
    | apply Same.step (m := 50292085) (by decide) (readMem_same ..)
    | apply Same.ite
    | apply Same.ite1
    | apply Same.ite2
    | extract_lets
    | split
    | dsimp -zeta only
    | dsimp +zetaDelta only

theorem State.afterSnoops_same (s : State) (r : Req) :
    Same 50292085 s (State.afterSnoops s r) := by
  unfold State.afterSnoops
  repeat' with_reducible first
    | exact Same.refl _
    | apply Same.step (m := 50292085) (by decide) (State.fromOwner_same ..)
    | apply Same.step (m := 50324853) (by decide) (State.putBytes_same ..)
    | apply Same.step (m := 67108351) (by decide) (State.setEntry_same ..)
    | apply Same.step (m := 50292085) (by decide) (State.startDead_same ..)
    | apply Same.ite
    | apply Same.ite1
    | apply Same.ite2
    | extract_lets
    | split
    | dsimp -zeta only
    | dsimp +zetaDelta only

theorem State.snoopFor_same (s : State) (r : Req) (hosts : List Nat) (kind : Nat) :
    Same 50292085 s (State.snoopFor s r hosts kind) := by
  unfold State.snoopFor
  repeat' with_reducible first
    | exact Same.refl _
    | apply Same.step (m := 50292085) (by decide) (afterSnoops_same ..)
    | apply Same.step (m := 67108351) (by decide) (setEntry_same ..)
    | apply Same.step (m := 67108351) (by decide) (mapReq_same ..)
    | apply Same.step (m := 50326901) (by decide) (snoop_same ..)
    | apply Same.trans _ (foldl_same _ _ _ (fun _ _ => ?_))
    | apply Same.trans _ (foldl_same1 _ _ _ (fun _ _ => ?_))
    | apply Same.ite
    | apply Same.ite1
    | apply Same.ite2
    | extract_lets
    | split
    | dsimp -zeta only
    | dsimp +zetaDelta only

theorem State.startS_same (s : State) (r : Req) :
    Same 50292085 s (State.startS s r) := by
  unfold State.startS
  repeat' with_reducible first
    | exact Same.refl _
    | apply Same.step (m := 50292085) (by decide) (snoopFor_same ..)
    | apply Same.step (m := 50292085) (by decide) (readMem_same ..)
    | apply Same.ite
    | apply Same.ite1
    | apply Same.ite2
    | extract_lets
    | split
    | dsimp -zeta only
    | dsimp +zetaDelta only

theorem State.startOwned_same (s : State) (r : Req) :
    Same 50292085 s (State.startOwned s r) := by
  unfold State.startOwned
  repeat' with_reducible first
    | exact Same.refl _
    | apply Same.step (m := 67108351) (by decide) (State.putWay_same ..)
    | apply Same.step (m := 50292085) (by decide) (State.readMem_same ..)
    | apply Same.step (m := 50292085) (by decide) (State.snoopFor_same ..)
    | apply Same.ite
    | apply Same.ite1
    | apply Same.ite2
    | extract_lets
    | split
    | dsimp -zeta only
    | dsimp +zetaDelta only

theorem State.served_same (s : State) (r : Req) (n : Nat) (c : CrLine) :
    Same 67108349 s (State.served s r n c) := by
  unfold State.served
  repeat' with_reducible first
    | exact Same.refl _
    | apply Same.step (m := 67108861) (by decide) (sat_same ..)
    | apply Same.step (m := 67108351) (by decide) (setCreamSet_same ..)
    | apply Same.ite
    | apply Same.ite1
    | apply Same.ite2
    | extract_lets
    | split
    | dsimp -zeta only
    | dsimp +zetaDelta only

theorem State.startF_same (s : State) (r : Req) (n : Nat) (c : CrLine) :
    Same 50292085 s (State.startF s r n c) := by
  unfold State.startF
  repeat' with_reducible first
    | exact Same.refl _
    | apply Same.step (m := 67108351) (by decide) (setEntry_same ..)
    | apply Same.step (m := 67108349) (by decide) (served_same ..)
    | apply Same.step (m := 67108349) (by decide) (creamInstall_same ..)
    | apply Same.step (m := 67108351) (by decide) (dropReq_same ..)
    | apply Same.step (m := 50294133) (by decide) (answer_same ..)
    | apply Same.step (m := 50292085) (by decide) (snoopFor_same ..)
    | apply Same.step (m := 67108349) (by decide) (dropCopies_same ..)
    | apply Same.ite
    | apply Same.ite1
    | apply Same.ite2
    | extract_lets
    | split
    | dsimp -zeta only
    | dsimp +zetaDelta only

theorem State.serveFrom_same (s : State) (l : Nat) (x2 : List Nat) :
    Same 67108349 s (State.serveFrom s l x2).1 := by
  induction x2 generalizing s with
  | nil => exact Same.refl _
  | cons a l ih =>
    unfold State.serveFrom
    repeat' with_reducible first
      | exact Same.refl _
      | apply Same.step (m := 67108861) (by decide) (sat_same ..)
      | apply Same.step (m := 67108351) (by decide) (clearCream_same ..)
      | apply Same.trans _ (ih _)
      | apply Same.ite
      | apply Same.ite1
      | apply Same.ite2
      | extract_lets
      | split
      | dsimp -zeta only
      | dsimp +zetaDelta only

theorem State.start_same (s : State) (r : Req) :
    Same 50292085 s (State.start s r) := by
  unfold State.start
  repeat' with_reducible first
    | exact Same.refl _
    | apply Same.step (m := 67108351) (by decide) (State.dropReq_same ..)
    | apply Same.step (m := 67108351) (by decide) (State.mapReq_same ..)
    | apply Same.step (m := 67108349) (by decide) (State.serveFrom_same ..)
    | apply Same.step (m := 67108351) (by decide) (State.setEntry_same ..)
    | apply Same.step (m := 50292085) (by decide) (State.startDead_same ..)
    | apply Same.step (m := 50292085) (by decide) (State.startF_same ..)
    | apply Same.step (m := 50292085) (by decide) (State.startI_same ..)
    | apply Same.step (m := 50292085) (by decide) (State.startOwned_same ..)
    | apply Same.step (m := 50292085) (by decide) (State.startS_same ..)
    | apply Same.ite
    | apply Same.ite1
    | apply Same.ite2
    | extract_lets
    | split
    | dsimp -zeta only
    | dsimp +zetaDelta only

theorem State.snoopsOver_same (s : State) (l : Nat) :
    Same 50292085 s (State.snoopsOver s l) := by
  unfold State.snoopsOver
  repeat' with_reducible first
    | exact Same.refl _
    | apply Same.step (m := 50292085) (by decide) (afterSnoops_same ..)
    | apply Same.step (m := 67108351) (by decide) (setEntry_same ..)
    | apply Same.ite
    | apply Same.ite1
    | apply Same.ite2
    | extract_lets
    | split
    | dsimp -zeta only
    | dsimp +zetaDelta only

theorem State.snoopEnd_same (s : State) (x : Snoop) (rsp : Nat) :
    Same 50292085 s (State.snoopEnd s x rsp) := by
  unfold State.snoopEnd
  repeat' with_reducible first
    | exact Same.refl _
    | apply Same.step (m := 67108351) (by decide) (State.mapPool_same ..)
    | apply Same.step (m := 67108351) (by decide) (State.setEntry_same ..)
    | apply Same.step (m := 50292085) (by decide) (State.snoopsOver_same ..)
    | apply Same.ite
    | apply Same.ite1
    | apply Same.ite2
    | extract_lets
    | split
    | dsimp -zeta only
    | dsimp +zetaDelta only

theorem State.protoErr_same (s : State) (h : Nat) (reason : Nat) :
    Same 67108853 s (State.protoErr s h reason) := by
  unfold State.protoErr
  repeat' with_reducible first
    | exact Same.refl _
    | apply Same.step (m := 67108855) (by decide) (raise_same ..)
    | apply Same.step (m := 67108861) (by decide) (set_same ..)
    | apply Same.step (m := 67108861) (by decide) (sat_same ..)
    | apply Same.ite
    | apply Same.ite1
    | apply Same.ite2
    | extract_lets
    | split
    | dsimp -zeta only
    | dsimp +zetaDelta only

theorem State.birsp_same (s : State) (h : Nat) (bitag : Nat) (kind : Nat) (block : Bool) :
    Same 50292085 s (State.birsp s h bitag kind block) := by
  unfold State.birsp
  repeat' with_reducible first
    | exact Same.refl _
    | apply Same.step (m := 67108853) (by decide) (State.protoErr_same ..)
    | apply Same.step (m := 50292085) (by decide) (State.snoopEnd_same ..)
    | apply Same.ite
    | apply Same.ite1
    | apply Same.ite2
    | extract_lets
    | split
    | dsimp -zeta only
    | dsimp +zetaDelta only

theorem State.releaseLine_same (s : State) (h : Nat) (tag : Nat) (l : Nat) :
    Same 50326901 s (State.releaseLine s h tag l) := by
  unfold State.releaseLine
  repeat' with_reducible first
    | exact Same.refl _
    | apply Same.step (m := 67108853) (by decide) (State.protoErr_same ..)
    | apply Same.step (m := 50327413) (by decide) (State.sendS2M_same ..)
    | apply Same.step (m := 67108351) (by decide) (State.setEntry_same ..)
    | apply Same.ite
    | apply Same.ite1
    | apply Same.ite2
    | extract_lets
    | split
    | dsimp -zeta only
    | dsimp +zetaDelta only

theorem State.fmRec_same (s : State) (r : Rec) :
    Same 67108855 s (State.fmRec s r) := by
  unfold State.fmRec
  repeat' with_reducible first
    | exact Same.refl _
    | apply Same.step (m := 67108855) (by decide) (postRec_same ..)
    | apply Same.ite
    | apply Same.ite1
    | apply Same.ite2
    | extract_lets
    | split
    | dsimp -zeta only
    | dsimp +zetaDelta only

theorem State.list_same (s : State) (port : Nat) (reason : Nat) (holder : Nat) (l : Nat) (st : Stable) :
    Same 67108341 s (State.list s port reason holder l st) := by
  unfold State.list
  repeat' with_reducible first
    | exact Same.refl _
    | apply Same.step (m := 67108855) (by decide) (fmRec_same ..)
    | apply Same.step (m := 67108351) (by decide) (mapPool_same ..)
    | apply Same.step (m := 67108861) (by decide) (sat_same ..)
    | apply Same.ite
    | apply Same.ite1
    | apply Same.ite2
    | extract_lets
    | split
    | dsimp -zeta only
    | dsimp +zetaDelta only

theorem State.writeBack_same (s : State) (r : Req) :
    Same 50324853 s (State.writeBack s r) := by
  unfold State.writeBack
  repeat' with_reducible first
    | exact Same.refl _
    | apply Same.step (m := 67106805) (by decide) (State.dropWrite_same ..)
    | apply Same.step (m := 67108341) (by decide) (State.list_same ..)
    | apply Same.step (m := 67108351) (by decide) (State.mapPool_same ..)
    | apply Same.step (m := 67108853) (by decide) (State.protoErr_same ..)
    | apply Same.step (m := 50324853) (by decide) (State.pushWrite_same ..)
    | apply Same.step (m := 50327413) (by decide) (State.sendS2M_same ..)
    | apply Same.step (m := 67108351) (by decide) (State.setEntry_same ..)
    | apply Same.ite
    | apply Same.ite1
    | apply Same.ite2
    | extract_lets
    | split
    | dsimp -zeta only
    | dsimp +zetaDelta only

theorem State.wbGo_same (s : State) (x0 : LaneEntry) :
    Same 50292085 s (State.wbGo s x0) := by
  unfold State.wbGo
  repeat' with_reducible first
    | exact Same.refl _
    | apply Same.step (m := 50292085) (by decide) (State.birsp_same ..)
    | apply Same.step (m := 50326901) (by decide) (State.releaseLine_same ..)
    | apply Same.step (m := 50324853) (by decide) (State.writeBack_same ..)
    | apply Same.ite
    | apply Same.ite1
    | apply Same.ite2
    | extract_lets
    | split
    | dsimp -zeta only
    | dsimp +zetaDelta only

theorem State.resume_same (s : State) (r : Req) :
    Same 50292085 s (State.resume s r) := by
  unfold State.resume
  repeat' with_reducible first
    | exact Same.refl _
    | apply Same.step (m := 67108351) (by decide) (State.finish_same ..)
    | apply Same.step (m := 50292085) (by decide) (State.readDone_same ..)
    | apply Same.ite
    | apply Same.ite1
    | apply Same.ite2
    | extract_lets
    | split
    | dsimp -zeta only
    | dsimp +zetaDelta only

theorem State.act_opt (s : State) :
    SameOpt 50292085 s (State.act s) := by
  unfold State.act
  repeat' with_reducible first
    | exact Same.refl _
    | exact SameOpt.none
    | apply SameOpt.some
    | apply SameOpt.ite
    | apply SameOpt.map (fun _ => ?_)
    | apply Same.step (m := 50326901) (by decide) (recall_same ..)
    | apply Same.step (m := 50292085) (by decide) (State.wbGo_same ..)
    | apply Same.step (m := 67108351) (by decide) (State.mapPool_same ..)
    | apply Same.step (m := 50292085) (by decide) (readMem_same ..)
    | apply Same.step (m := 50292085) (by decide) (resume_same ..)
    | apply Same.step (m := 50292085) (by decide) (start_same ..)
    | apply Same.step (m := 50326901) (by decide) (accept_same ..)
    | apply Same.ite
    | apply Same.ite1
    | apply Same.ite2
    | extract_lets
    | split
    | dsimp -zeta only
    | dsimp +zetaDelta only

theorem State.act_same {s : State} {t : State} (e : (State.act s) = some t) : Same 50292085 s t := (State.act_opt _).of e

theorem State.actAll_same (x0 : Nat) (x1 : State) :
    Same 50292085 x1 (State.actAll x0 x1) := by
  induction x0 generalizing x1 with
  | zero => exact Same.refl _
  | succ n ih =>
    unfold State.actAll
    repeat' with_reducible first
      | exact Same.refl _
      | apply Same.step (k := 50292085) (m := 50292085) (by decide) (State.act_same (by assumption))
      | apply Same.trans _ (ih _)
      | apply Same.ite
      | apply Same.ite1
      | apply Same.ite2
      | extract_lets
      | split
      | dsimp -zeta only
      | dsimp +zetaDelta only

theorem State.copyTrackers_same (s : State) :
    Same 67108351 s (State.copyTrackers s) := by
  unfold State.copyTrackers
  repeat' with_reducible first
    | exact Same.refl _
    | apply Same.step (m := 67108351) (by decide) (State.mapPool_same ..)
    | apply Same.ite
    | apply Same.ite1
    | apply Same.ite2
    | extract_lets
    | split
    | dsimp -zeta only
    | dsimp +zetaDelta only

theorem State.advance_same (s : State) :
    Same 50292085 s (State.advance s) := by
  unfold State.advance
  repeat' with_reducible first
    | exact Same.refl _
    | apply Same.step (m := 50292085) (by decide) (State.actAll_same ..)
    | apply Same.step (m := 67108351) (by decide) (State.copyTrackers_same ..)
    | apply Same.ite
    | apply Same.ite1
    | apply Same.ite2
    | extract_lets
    | split
    | dsimp -zeta only
    | dsimp +zetaDelta only

theorem State.lossBegin_same (s : State) (port : Nat) :
    Same 67108341 s (State.lossBegin s port) := by
  unfold State.lossBegin
  repeat' with_reducible first
    | exact Same.refl _
    | apply Same.step (m := 67108861) (by decide) (set_same ..)
    | apply Same.step (m := 67108861) (by decide) (wrap_same ..)
    | apply Same.step (m := 67108855) (by decide) (raise_same ..)
    | apply Same.step (m := 67108351) (by decide) (mapPool_same ..)
    | apply Same.ite
    | apply Same.ite1
    | apply Same.ite2
    | extract_lets
    | split
    | dsimp -zeta only
    | dsimp +zetaDelta only

theorem State.lostLine_same (s : State) (h : Nat) (saved : List Nat) (e : DirEntry) :
    Same 50324853 s (State.lostLine s h saved e) := by
  unfold State.lostLine
  repeat' with_reducible first
    | exact Same.refl _
    | apply Same.step (m := 67108341) (by decide) (list_same ..)
    | apply Same.step (m := 67108351) (by decide) (setEntry_same ..)
    | apply Same.step (m := 50324853) (by decide) (pushWrite_same ..)
    | apply Same.ite
    | apply Same.ite1
    | apply Same.ite2
    | extract_lets
    | split
    | dsimp -zeta only
    | dsimp +zetaDelta only

theorem State.hostLost_same (s : State) (h : Nat) :
    Same 50291061 s (State.hostLost s h) := by
  unfold State.hostLost
  repeat' with_reducible first
    | exact Same.refl _
    | apply Same.step (m := 50292085) (by decide) (State.advance_same ..)
    | apply Same.step (m := 67108341) (by decide) (State.lossBegin_same ..)
    | apply Same.step (m := 50324853) (by decide) (State.lostLine_same ..)
    | apply Same.step (m := 67107839) (by decide) (State.mapGd_same ..)
    | apply Same.step (m := 67108351) (by decide) (State.mapPool_same ..)
    | apply Same.step (m := 50292085) (by decide) (State.snoopEnd_same ..)
    | apply Same.step (m := 67106815) (by decide) (State.trackDone_same ..)
    | apply Same.trans _ (foldl_same _ _ _ (fun _ _ => ?_))
    | apply Same.trans _ (foldl_same1 _ _ _ (fun _ _ => ?_))
    | apply Same.ite
    | apply Same.ite1
    | apply Same.ite2
    | extract_lets
    | split
    | dsimp -zeta only
    | dsimp +zetaDelta only

theorem State.expanderLost_same (s : State) (m : Nat) (wr : Option Nat) :
    Same 50292085 s (State.expanderLost s m wr) := by
  unfold State.expanderLost
  repeat' with_reducible first
    | exact Same.refl _
    | apply Same.step (m := 67108855) (by decide) (raise_same ..)
    | apply Same.step (m := 67108341) (by decide) (lossBegin_same ..)
    | apply Same.step (m := 67108861) (by decide) (set_same ..)
    | apply Same.step (m := 67108351) (by decide) (mapPool_same ..)
    | apply Same.step (m := 50292085) (by decide) (advance_same ..)
    | apply Same.step (m := 50292085) (by decide) (abortPort_same ..)
    | apply Same.ite
    | apply Same.ite1
    | apply Same.ite2
    | extract_lets
    | split
    | dsimp -zeta only
    | dsimp +zetaDelta only

theorem State.viaLane_same (s : State) (x : LaneEntry) :
    Same 50292085 s (State.viaLane s x) := by
  unfold State.viaLane
  repeat' with_reducible first
    | exact Same.refl _
    | apply Same.step (m := 67108351) (by decide) (State.mapPool_same ..)
    | apply Same.step (m := 50292085) (by decide) (State.wbGo_same ..)
    | apply Same.ite
    | apply Same.ite1
    | apply Same.ite2
    | extract_lets
    | split
    | dsimp -zeta only
    | dsimp +zetaDelta only

theorem State.birspIn_same (s : State) (h : Nat) (bitag : Nat) (kind : Nat) (block : Bool) :
    Same 50292085 s (State.birspIn s h bitag kind block) := by
  unfold State.birspIn
  repeat' with_reducible first
    | exact Same.refl _
    | apply Same.step (m := 50292085) (by decide) (State.birsp_same ..)
    | apply Same.step (m := 50292085) (by decide) (State.viaLane_same ..)
    | apply Same.ite
    | apply Same.ite1
    | apply Same.ite2
    | extract_lets
    | split
    | dsimp -zeta only
    | dsimp +zetaDelta only

theorem State.tagDone_same (s : State) (m : Nat) (tag : Nat) (data : Option (BitVec 512 × Bool)) :
    Same 50292085 s (State.tagDone s m tag data) := by
  unfold State.tagDone
  repeat' with_reducible first
    | exact Same.refl _
    | apply Same.step (m := 67108855) (by decide) (raise_same ..)
    | apply Same.step (m := 67108861) (by decide) (sat_same ..)
    | apply Same.step (m := 67108853) (by decide) (stale_same ..)
    | apply Same.step (m := 50292085) (by decide) (advance_same ..)
    | apply Same.step (m := 50326901) (by decide) (xPump_same ..)
    | apply Same.step (m := 50292085) (by decide) (readAnswered_same ..)
    | apply Same.step (m := 67108351) (by decide) (setXtag_same ..)
    | apply Same.step (m := 67106293) (by decide) (writeEnd_same ..)
    | apply Same.ite
    | apply Same.ite1
    | apply Same.ite2
    | extract_lets
    | split
    | dsimp -zeta only
    | dsimp +zetaDelta only

theorem State.walkEnd_same (s : State) (port : Nat) :
    Same 67108341 s (State.walkEnd s port) := by
  unfold State.walkEnd
  repeat' with_reducible first
    | exact Same.refl _
    | apply Same.step (m := 67108351) (by decide) (mapPool_same ..)
    | apply Same.step (m := 67108861) (by decide) (set_same ..)
    | apply Same.step (m := 67108855) (by decide) (raise_same ..)
    | apply Same.step (m := 67108855) (by decide) (fmRec_same ..)
    | apply Same.ite
    | apply Same.ite1
    | apply Same.ite2
    | extract_lets
    | split
    | dsimp -zeta only
    | dsimp +zetaDelta only

end Sys2Proof.Machine
end

