-- ==== Sys2Proof/Laws/FramePoolAccess.lean ====
section
/-! SUPPORT. What each operation of Machine/PoolAccess.lean may change: every other part of State stays as it is. -/

set_option linter.all false

namespace Sys2Proof.Machine

theorem State.endLine_same (s : State) (r : Req) (target : Nat) (why : Ending) :
    Same 50325365 s (State.endLine s r target why) := by
  unfold State.endLine
  repeat' with_reducible first
    | exact Same.refl _
    | apply Same.step (m := 67106805) (by decide) (State.dropWrite_same ..)
    | apply Same.step (m := 50327413) (by decide) (State.sendDrs_same ..)
    | apply Same.step (m := 50327413) (by decide) (State.sendS2M_same ..)
    | apply Same.ite
    | apply Same.ite1
    | apply Same.ite2
    | extract_lets
    | split
    | dsimp -zeta only
    | dsimp +zetaDelta only

theorem State.laneLine_same (s : State) (r : Req) :
    Same 50292085 s (State.laneLine s r) := by
  unfold State.laneLine
  repeat' with_reducible first
    | exact Same.refl _
    | apply Same.step (m := 50325365) (by decide) (State.endLine_same ..)
    | apply Same.step (m := 50292085) (by decide) (State.viaLane_same ..)
    | apply Same.ite
    | apply Same.ite1
    | apply Same.ite2
    | extract_lets
    | split
    | dsimp -zeta only
    | dsimp +zetaDelta only

theorem State.checkLine_same (s : State) (r : Req) :
    Same 50292085 s (State.checkLine s r) := by
  unfold State.checkLine
  repeat' with_reducible first
    | exact Same.refl _
    | apply Same.step (m := 50325365) (by decide) (State.endLine_same ..)
    | apply Same.step (m := 50292085) (by decide) (State.laneLine_same ..)
    | apply Same.step (m := 67108853) (by decide) (State.logRefusal_same ..)
    | apply Same.step (m := 67108351) (by decide) (State.mapPool_same ..)
    | apply Same.ite
    | apply Same.ite1
    | apply Same.ite2
    | extract_lets
    | split
    | dsimp -zeta only
    | dsimp +zetaDelta only

theorem State.logParts_same (s : State) (init : Nat) (op : Nat) (kind : Nat) (seq : Nat) (rd : Bool) (wr : Bool) (ps : List (Nat × Nat)) :
    Same 67108853 s (State.logParts s init op kind seq rd wr ps) := by
  unfold State.logParts
  repeat' with_reducible first
    | exact Same.refl _
    | apply Same.step (m := 67108853) (by decide) (logRefusal_same ..)
    | apply Same.trans _ (foldl_same _ _ _ (fun _ _ => ?_))
    | apply Same.trans _ (foldl_same1 _ _ _ (fun _ _ => ?_))
    | apply Same.ite
    | apply Same.ite1
    | apply Same.ite2
    | extract_lets
    | split
    | dsimp -zeta only
    | dsimp +zetaDelta only

theorem State.readLine_same (s : State) (port : Nat) (init : Nat) (tag : Nat) (p : Nat × Nat) :
    Same 67075573 s (State.readLine s port init tag p) := by
  unfold State.readLine
  repeat' with_reducible first
    | exact Same.refl _
    | apply Same.step (m := 67108351) (by decide) (State.mapPool_same ..)
    | apply Same.step (m := 67075573) (by decide) (State.partDone_same ..)
    | apply Same.ite
    | apply Same.ite1
    | apply Same.ite2
    | extract_lets
    | split
    | dsimp -zeta only
    | dsimp +zetaDelta only

theorem State.checkRead_same (s : State) (port : Nat) (init : Nat) (tag : Nat) (addr : Nat) (len : Nat) :
    Same 67075573 s (State.checkRead s port init tag addr len) := by
  unfold State.checkRead
  repeat' with_reducible first
    | exact Same.refl _
    | apply Same.step (m := 67108861) (by decide) (sat_same ..)
    | apply Same.step (m := 67108853) (by decide) (logParts_same ..)
    | apply Same.step (m := 67108351) (by decide) (mapPool_same ..)
    | apply Same.step (m := 67075573) (by decide) (flushRead_same ..)
    | apply Same.step (m := 67075573) (by decide) (readLine_same ..)
    | apply Same.trans _ (foldl_same _ _ _ (fun _ _ => ?_))
    | apply Same.trans _ (foldl_same1 _ _ _ (fun _ _ => ?_))
    | apply Same.ite
    | apply Same.ite1
    | apply Same.ite2
    | extract_lets
    | split
    | dsimp -zeta only
    | dsimp +zetaDelta only

theorem State.writeLine_same (s : State) (port : Nat) (init : Nat) (seq : Nat) (base : Nat) (data : List (BitVec 8)) (p : Nat × Nat) (m : Nat) (dpa : Nat) :
    Same 67108351 s (State.writeLine s port init seq base data p m dpa) := by
  unfold State.writeLine
  repeat' with_reducible first
    | exact Same.refl _
    | apply Same.step (m := 67108351) (by decide) (State.mapPool_same ..)
    | apply Same.ite
    | apply Same.ite1
    | apply Same.ite2
    | extract_lets
    | split
    | dsimp -zeta only
    | dsimp +zetaDelta only

theorem State.writePart_same (s : State) (port : Nat) (init : Nat) (seq : Nat) (base : Nat) (data : List (BitVec 8)) (p : Nat × Nat) :
    Same 67106293 s (State.writePart s port init seq base data p) := by
  unfold State.writePart
  repeat' with_reducible first
    | exact Same.refl _
    | apply Same.step (m := 67106805) (by decide) (failWrite_same ..)
    | apply Same.step (m := 67106815) (by decide) (trackAdd_same ..)
    | apply Same.step (m := 67108351) (by decide) (writeLine_same ..)
    | apply Same.trans _ (foldl_same _ _ _ (fun _ _ => ?_))
    | apply Same.trans _ (foldl_same1 _ _ _ (fun _ _ => ?_))
    | apply Same.ite
    | apply Same.ite1
    | apply Same.ite2
    | extract_lets
    | split
    | dsimp -zeta only
    | dsimp +zetaDelta only

theorem State.checkWrite_same (s : State) (port : Nat) (init : Nat) (seq : Nat) (addr : Nat) (data : List (BitVec 8)) :
    Same 67073525 s (State.checkWrite s port init seq addr data) := by
  unfold State.checkWrite
  repeat' with_reducible first
    | exact Same.refl _
    | apply Same.step (m := 67108861) (by decide) (sat_same ..)
    | apply Same.step (m := 67108853) (by decide) (logRefusal_same ..)
    | apply Same.step (m := 67106805) (by decide) (failWrite_same ..)
    | apply Same.step (m := 67076085) (by decide) (poolAnswer_same ..)
    | apply Same.step (m := 67106293) (by decide) (writePart_same ..)
    | apply Same.trans _ (foldl_same _ _ _ (fun _ _ => ?_))
    | apply Same.trans _ (foldl_same1 _ _ _ (fun _ _ => ?_))
    | apply Same.ite
    | apply Same.ite1
    | apply Same.ite2
    | extract_lets
    | split
    | dsimp -zeta only
    | dsimp +zetaDelta only

theorem State.checkAtomic_same (s : State) (port : Nat) (init : Nat) (tag : Nat) (addr : Nat) (op : AtomicOp) :
    Same 67108341 s (State.checkAtomic s port init tag addr op) := by
  unfold State.checkAtomic
  repeat' with_reducible first
    | exact Same.refl _
    | apply Same.step (m := 67108855) (by decide) (State.emit_same ..)
    | apply Same.step (m := 67108853) (by decide) (State.logRefusal_same ..)
    | apply Same.step (m := 67108351) (by decide) (State.mapPool_same ..)
    | apply Same.step (m := 67108861) (by decide) (State.sat_same ..)
    | apply Same.ite
    | apply Same.ite1
    | apply Same.ite2
    | extract_lets
    | split
    | dsimp -zeta only
    | dsimp +zetaDelta only

theorem State.check_same (s : State) (a : Access) :
    Same 50291061 s (State.check s a) := by
  unfold State.check
  repeat' with_reducible first
    | exact Same.refl _
    | apply Same.step (m := 67108341) (by decide) (State.checkAtomic_same ..)
    | apply Same.step (m := 50292085) (by decide) (State.checkLine_same ..)
    | apply Same.step (m := 67075573) (by decide) (State.checkRead_same ..)
    | apply Same.step (m := 67073525) (by decide) (State.checkWrite_same ..)
    | apply Same.step (m := 67107829) (by decide) (State.colourSeen_same ..)
    | apply Same.trans _ (foldl_same _ _ _ (fun _ _ => ?_))
    | apply Same.trans _ (foldl_same1 _ _ _ (fun _ _ => ?_))
    | apply Same.ite
    | apply Same.ite1
    | apply Same.ite2
    | extract_lets
    | split
    | dsimp -zeta only
    | dsimp +zetaDelta only

theorem State.present?_same (s : State) (a : Access) :
    Same 50291061 s (State.present? s a) := by
  unfold State.present?
  repeat' with_reducible first
    | exact Same.refl _
    | apply Same.step (m := 50292085) (by decide) (State.advance_same ..)
    | apply Same.step (m := 50291061) (by decide) (State.check_same ..)
    | apply Same.step (m := 67107839) (by decide) (State.mapGd_same ..)
    | apply Same.step (m := 67106815) (by decide) (State.trackAll_same ..)
    | apply Same.ite
    | apply Same.ite1
    | apply Same.ite2
    | extract_lets
    | split
    | dsimp -zeta only
    | dsimp +zetaDelta only

theorem State.releaseHeld_same (s : State) :
    Same 50291061 s (State.releaseHeld s) := by
  unfold State.releaseHeld
  repeat' with_reducible first
    | exact Same.refl _
    | apply Same.step (m := 50292085) (by decide) (State.advance_same ..)
    | apply Same.step (m := 50291061) (by decide) (State.check_same ..)
    | apply Same.step (m := 67107839) (by decide) (State.mapGd_same ..)
    | apply Same.step (m := 67106815) (by decide) (State.trackNone_same ..)
    | apply Same.trans _ (foldl_same _ _ _ (fun _ _ => ?_))
    | apply Same.trans _ (foldl_same1 _ _ _ (fun _ _ => ?_))
    | apply Same.ite
    | apply Same.ite1
    | apply Same.ite2
    | extract_lets
    | split
    | dsimp -zeta only
    | dsimp +zetaDelta only

theorem State.unmapped_same (s : State) (h : Nat) (dpa : Nat) :
    Same 67108853 s (State.unmapped s h dpa) := by
  unfold State.unmapped
  repeat' with_reducible first
    | exact Same.refl _
    | apply Same.step (m := 67108855) (by decide) (raise_same ..)
    | apply Same.step (m := 67108861) (by decide) (set_same ..)
    | apply Same.step (m := 67108861) (by decide) (sat_same ..)
    | apply Same.ite
    | apply Same.ite1
    | apply Same.ite2
    | extract_lets
    | split
    | dsimp -zeta only
    | dsimp +zetaDelta only

theorem State.hostReq_same (s : State) (h : Nat) (tag : Nat) (dpa : Nat) (kind : ReqKind) (noData : Bool) (w : LineData) :
    Same 50028917 s (State.hostReq s h tag dpa kind noData w) := by
  unfold State.hostReq
  repeat' with_reducible first
    | exact Same.refl _
    | apply Same.step (m := 67108861) (by decide) (State.cellsIn_same ..)
    | apply Same.step (m := 50325365) (by decide) (State.endLine_same ..)
    | apply Same.step (m := 50291061) (by decide) (State.present?_same ..)
    | apply Same.step (m := 66846709) (by decide) (State.shutOut_same ..)
    | apply Same.step (m := 67106813) (by decide) (State.takeSeq_same ..)
    | apply Same.step (m := 67106815) (by decide) (State.trackAdd_same ..)
    | apply Same.step (m := 67108853) (by decide) (State.unmapped_same ..)
    | apply Same.ite
    | apply Same.ite1
    | apply Same.ite2
    | extract_lets
    | split
    | dsimp -zeta only
    | dsimp +zetaDelta only

end Sys2Proof.Machine
end

