-- ==== Sys2Proof/Laws/FrameSig.lean ====
section
/-! SUPPORT. What each operation of Machine/Sig.lean may change: every other part of State stays as it is. -/

set_option linter.all false

namespace Sys2Proof.Machine

theorem State.mapBr_same (s : State) (f : BrSt → BrSt) :
    Same 67043327 s (State.mapBr s f) := by
  unfold State.mapBr
  repeat' with_reducible first
    | exact Same.refl _
    | apply Same.ite
    | apply Same.ite1
    | apply Same.ite2
    | extract_lets
    | split
    | dsimp -zeta only
    | dsimp +zetaDelta only
    | apply Same.with_br (by decide)

theorem State.setSigTgt_same (s : State) (t : Nat) (x : SigTarget) :
    Same 67043327 s (State.setSigTgt s t x) := by
  unfold State.setSigTgt
  repeat' with_reducible first
    | exact Same.refl _
    | apply Same.step (m := 67043327) (by decide) (mapBr_same ..)
    | apply Same.ite
    | apply Same.ite1
    | apply Same.ite2
    | extract_lets
    | split
    | dsimp -zeta only
    | dsimp +zetaDelta only

theorem State.mapSigTgt_same (s : State) (t : Nat) (f : SigTarget → SigTarget) :
    Same 67043327 s (State.mapSigTgt s t f) := by
  unfold State.mapSigTgt
  repeat' with_reducible first
    | exact Same.refl _
    | apply Same.step (m := 67043327) (by decide) (setSigTgt_same ..)
    | apply Same.ite
    | apply Same.ite1
    | apply Same.ite2
    | extract_lets
    | split
    | dsimp -zeta only
    | dsimp +zetaDelta only

theorem State.setSemTok_same (s : State) (i : Nat) (x : SemTok) :
    Same 67043327 s (State.setSemTok s i x) := by
  unfold State.setSemTok
  repeat' with_reducible first
    | exact Same.refl _
    | apply Same.step (m := 67043327) (by decide) (mapBr_same ..)
    | apply Same.ite
    | apply Same.ite1
    | apply Same.ite2
    | extract_lets
    | split
    | dsimp -zeta only
    | dsimp +zetaDelta only

theorem State.semFree_same (s : State) (t : Nat) :
    Same 67043327 s (State.semFree s t) := by
  unfold State.semFree
  repeat' with_reducible first
    | exact Same.refl _
    | apply Same.step (m := 67043327) (by decide) (setSigTgt_same ..)
    | apply Same.step (m := 67043327) (by decide) (setSemTok_same ..)
    | apply Same.ite
    | apply Same.ite1
    | apply Same.ite2
    | extract_lets
    | split
    | dsimp -zeta only
    | dsimp +zetaDelta only

theorem State.dpfLog_same (s : State) (b : RaBuf) (cause : Nat) :
    Same 67108853 s (State.dpfLog s b cause) := by
  unfold State.dpfLog
  repeat' with_reducible first
    | exact Same.refl _
    | apply Same.step (m := 67108855) (by decide) (raiseIf_same ..)
    | apply Same.step (m := 67108855) (by decide) (raise_same ..)
    | apply Same.step (m := 67108861) (by decide) (sets_same ..)
    | apply Same.ite
    | apply Same.ite1
    | apply Same.ite2
    | extract_lets
    | split
    | dsimp -zeta only
    | dsimp +zetaDelta only

theorem State.raDrop_same (s : State) (i : Nat) (cause : Nat) :
    Same 67043317 s (State.raDrop s i cause) := by
  unfold State.raDrop
  repeat' with_reducible first
    | exact Same.refl _
    | apply Same.step (m := 67108853) (by decide) (dpfLog_same ..)
    | apply Same.step (m := 67043327) (by decide) (mapBr_same ..)
    | apply Same.ite
    | apply Same.ite1
    | apply Same.ite2
    | extract_lets
    | split
    | dsimp -zeta only
    | dsimp +zetaDelta only

theorem State.raDropIf_same (s : State) (f : RaBuf → Bool) (cause : Nat) :
    Same 67043317 s (State.raDropIf s f cause) := by
  unfold State.raDropIf
  repeat' with_reducible first
    | exact Same.refl _
    | apply Same.step (m := 67043317) (by decide) (raDrop_same ..)
    | apply Same.trans _ (foldl_same _ _ _ (fun _ _ => ?_))
    | apply Same.trans _ (foldl_same1 _ _ _ (fun _ _ => ?_))
    | apply Same.ite
    | apply Same.ite1
    | apply Same.ite2
    | extract_lets
    | split
    | dsimp -zeta only
    | dsimp +zetaDelta only

theorem State.raLock_same (s : State) (t : Nat) :
    Same 67043317 s (State.raLock s t) := by
  unfold State.raLock
  repeat' with_reducible first
    | exact Same.refl _
    | apply Same.step (m := 67043327) (by decide) (mapSigTgt_same ..)
    | apply Same.step (m := 67043317) (by decide) (raDropIf_same ..)
    | apply Same.ite
    | apply Same.ite1
    | apply Same.ite2
    | extract_lets
    | split
    | dsimp -zeta only
    | dsimp +zetaDelta only

theorem State.semGrant_same (s : State) (t : Nat) (h : Nat) (seq : Nat) :
    Same 67043317 s (State.semGrant s t h seq) := by
  unfold State.semGrant
  repeat' with_reducible first
    | exact Same.refl _
    | apply Same.step (m := 67108855) (by decide) (complete_same ..)
    | apply Same.step (m := 67043317) (by decide) (raLock_same ..)
    | apply Same.step (m := 67043327) (by decide) (mapSigTgt_same ..)
    | apply Same.step (m := 67043327) (by decide) (setSemTok_same ..)
    | apply Same.ite
    | apply Same.ite1
    | apply Same.ite2
    | extract_lets
    | split
    | dsimp -zeta only
    | dsimp +zetaDelta only

theorem State.brCount_same (s : State) (port : Nat) (r : SigReason) :
    Same 67108853 s (State.brCount s port r) := by
  unfold State.brCount
  repeat' with_reducible first
    | exact Same.refl _
    | apply Same.step (m := 67108855) (by decide) (raise_same ..)
    | apply Same.step (m := 67108861) (by decide) (sets_same ..)
    | apply Same.step (m := 67108861) (by decide) (sat_same ..)
    | apply Same.ite
    | apply Same.ite1
    | apply Same.ite2
    | extract_lets
    | split
    | dsimp -zeta only
    | dsimp +zetaDelta only

theorem State.cmdFail_same (s : State) (h : Nat) (seq : Nat) (r : SigReason) :
    Same 67108853 s (State.cmdFail s h seq r) := by
  unfold State.cmdFail
  repeat' with_reducible first
    | exact Same.refl _
    | apply Same.step (m := 67108855) (by decide) (complete_same ..)
    | apply Same.step (m := 67108853) (by decide) (brCount_same ..)
    | apply Same.ite
    | apply Same.ite1
    | apply Same.ite2
    | extract_lets
    | split
    | dsimp -zeta only
    | dsimp +zetaDelta only

theorem State.opReport_same (s : State) (o : RegOp) (r : SigReason) :
    Same 67108853 s (State.opReport s o r) := by
  unfold State.opReport
  repeat' with_reducible first
    | exact Same.refl _
    | apply Same.step (m := 67108855) (by decide) (raise_same ..)
    | apply Same.step (m := 67108861) (by decide) (sat_same ..)
    | apply Same.step (m := 67108853) (by decide) (cmdFail_same ..)
    | apply Same.step (m := 67108861) (by decide) (set_same ..)
    | apply Same.step (m := 67108853) (by decide) (brCount_same ..)
    | apply Same.ite
    | apply Same.ite1
    | apply Same.ite2
    | extract_lets
    | split
    | dsimp -zeta only
    | dsimp +zetaDelta only

theorem State.raWrite_same (s : State) (t : Nat) (addr : Nat) (len : Nat) :
    Same 67043317 s (State.raWrite s t addr len) := by
  unfold State.raWrite
  repeat' with_reducible first
    | exact Same.refl _
    | apply Same.step (m := 67043317) (by decide) (raDropIf_same ..)
    | apply Same.step (m := 67043327) (by decide) (mapSigTgt_same ..)
    | apply Same.ite
    | apply Same.ite1
    | apply Same.ite2
    | extract_lets
    | split
    | dsimp -zeta only
    | dsimp +zetaDelta only

theorem State.sigPush_same (s : State) (m : SigMsg) :
    Same 67043327 s (State.sigPush s m) := by
  unfold State.sigPush
  repeat' with_reducible first
    | exact Same.refl _
    | apply Same.step (m := 67043327) (by decide) (mapBr_same ..)
    | apply Same.ite
    | apply Same.ite1
    | apply Same.ite2
    | extract_lets
    | split
    | dsimp -zeta only
    | dsimp +zetaDelta only

theorem State.opSend_same (s : State) (t : Nat) (o : RegOp) :
    Same 67043317 s (State.opSend s t o) := by
  unfold State.opSend
  repeat' with_reducible first
    | exact Same.refl _
    | apply Same.step (m := 67043317) (by decide) (raWrite_same ..)
    | apply Same.step (m := 67043327) (by decide) (sigPush_same ..)
    | apply Same.step (m := 67043327) (by decide) (setSigTgt_same ..)
    | apply Same.ite
    | apply Same.ite1
    | apply Same.ite2
    | extract_lets
    | split
    | dsimp -zeta only
    | dsimp +zetaDelta only

theorem State.sigPump_same (x0 : Nat) (x1 : State) (x2 : Nat) :
    Same 67043317 x1 (State.sigPump x0 x1 x2) := by
  induction x0 generalizing x1 with
  | zero => exact Same.refl _
  | succ n ih =>
    unfold State.sigPump
    repeat' with_reducible first
      | exact Same.refl _
      | apply Same.step (m := 67043317) (by decide) (semGrant_same ..)
      | apply Same.step (m := 67043327) (by decide) (setSigTgt_same ..)
      | apply Same.step (m := 67108853) (by decide) (opReport_same ..)
      | apply Same.step (m := 67108853) (by decide) (stale_same ..)
      | apply Same.step (m := 67043317) (by decide) (raLock_same ..)
      | apply Same.step (m := 67043327) (by decide) (mapSigTgt_same ..)
      | apply Same.step (m := 67043317) (by decide) (opSend_same ..)
      | apply Same.trans _ (ih _)
      | apply Same.ite
      | apply Same.ite1
      | apply Same.ite2
      | extract_lets
      | split
      | dsimp -zeta only
      | dsimp +zetaDelta only

theorem State.sigGo_same (s : State) (t : Nat) :
    Same 67043317 s (State.sigGo s t) := by
  unfold State.sigGo
  repeat' with_reducible first
    | exact Same.refl _
    | apply Same.step (m := 67043317) (by decide) (sigPump_same ..)
    | apply Same.ite
    | apply Same.ite1
    | apply Same.ite2
    | extract_lets
    | split
    | dsimp -zeta only
    | dsimp +zetaDelta only

theorem State.semBreak_same (s : State) (t : Nat) :
    Same 67043317 s (State.semBreak s t) := by
  unfold State.semBreak
  repeat' with_reducible first
    | exact Same.refl _
    | apply Same.step (m := 67043327) (by decide) (mapSigTgt_same ..)
    | apply Same.step (m := 67043317) (by decide) (sigGo_same ..)
    | apply Same.step (m := 67108855) (by decide) (raise_same ..)
    | apply Same.step (m := 67108861) (by decide) (sat_same ..)
    | apply Same.step (m := 67043327) (by decide) (semFree_same ..)
    | apply Same.ite
    | apply Same.ite1
    | apply Same.ite2
    | extract_lets
    | split
    | dsimp -zeta only
    | dsimp +zetaDelta only

theorem State.opEnd_same (s : State) (t : Nat) (num : Nat) (chain : Bool) :
    Same 67043317 s (State.opEnd s t num chain) := by
  unfold State.opEnd
  repeat' with_reducible first
    | exact Same.refl _
    | apply Same.step (m := 67043327) (by decide) (mapSigTgt_same ..)
    | apply Same.step (m := 67043327) (by decide) (semFree_same ..)
    | apply Same.step (m := 67043317) (by decide) (semBreak_same ..)
    | apply Same.step (m := 67043317) (by decide) (sigGo_same ..)
    | apply Same.ite
    | apply Same.ite1
    | apply Same.ite2
    | extract_lets
    | split
    | dsimp -zeta only
    | dsimp +zetaDelta only

theorem State.opFail_same (s : State) (t : Nat) (num : Nat) (r : SigReason) :
    Same 67043317 s (State.opFail s t num r) := by
  unfold State.opFail
  repeat' with_reducible first
    | exact Same.refl _
    | apply Same.step (m := 67043317) (by decide) (opEnd_same ..)
    | apply Same.step (m := 67108853) (by decide) (opReport_same ..)
    | apply Same.ite
    | apply Same.ite1
    | apply Same.ite2
    | extract_lets
    | split
    | dsimp -zeta only
    | dsimp +zetaDelta only

theorem State.sigError_same (s : State) (n : Nat) (tch : Nat) (op : Nat) (ch : Nat) (r : SigReason) :
    Same 67043327 s (State.sigError s n tch op ch r) := by
  unfold State.sigError
  repeat' with_reducible first
    | exact Same.refl _
    | apply Same.step (m := 67043327) (by decide) (sigPush_same ..)
    | apply Same.ite
    | apply Same.ite1
    | apply Same.ite2
    | extract_lets
    | split
    | dsimp -zeta only
    | dsimp +zetaDelta only

theorem State.brStat_same (s : State) (e : Nat) (reason : Nat) :
    Same 66977781 s (State.brStat s e reason) := by
  unfold State.brStat
  repeat' with_reducible first
    | exact Same.refl _
    | apply Same.step (m := 67108855) (by decide) (emit_same ..)
    | apply Same.step (m := 67108861) (by decide) (sets_same ..)
    | apply Same.ite
    | apply Same.ite1
    | apply Same.ite2
    | extract_lets
    | split
    | dsimp -zeta only
    | dsimp +zetaDelta only
    | apply Same.with_regs (by decide)
    | apply Same.with_sig (by decide)
    | apply Same.with_engs (by decide)

theorem State.sigFail_same (s : State) (orig : SigFrom) (src : Nat) (ch : Nat) (op : Nat) (dst : Nat) (r : SigReason) :
    Same 66912245 s (State.sigFail s orig src ch op dst r) := by
  unfold State.sigFail
  repeat' with_reducible first
    | exact Same.refl _
    | apply Same.step (m := 67043317) (by decide) (opFail_same ..)
    | apply Same.step (m := 67108853) (by decide) (cmdFail_same ..)
    | apply Same.step (m := 67108855) (by decide) (postRec_same ..)
    | apply Same.step (m := 67108853) (by decide) (brCount_same ..)
    | apply Same.step (m := 67043327) (by decide) (sigError_same ..)
    | apply Same.step (m := 66977781) (by decide) (brStat_same ..)
    | apply Same.ite
    | apply Same.ite1
    | apply Same.ite2
    | extract_lets
    | split
    | dsimp -zeta only
    | dsimp +zetaDelta only

theorem State.sigForget_same (s : State) (id : Nat) :
    Same 67043327 s (State.sigForget s id) := by
  unfold State.sigForget
  repeat' with_reducible first
    | exact Same.refl _
    | apply Same.step (m := 67043327) (by decide) (mapBr_same ..)
    | apply Same.ite
    | apply Same.ite1
    | apply Same.ite2
    | extract_lets
    | split
    | dsimp -zeta only
    | dsimp +zetaDelta only

theorem State.sigReturn_same (s : State) (id : Nat) (r : SigReason) :
    Same 66912245 s (State.sigReturn s id r) := by
  unfold State.sigReturn
  repeat' with_reducible first
    | exact Same.refl _
    | apply Same.step (m := 66912245) (by decide) (sigFail_same ..)
    | apply Same.step (m := 67043327) (by decide) (sigForget_same ..)
    | apply Same.ite
    | apply Same.ite1
    | apply Same.ite2
    | extract_lets
    | split
    | dsimp -zeta only
    | dsimp +zetaDelta only

theorem State.sigRelease_same (s : State) (c : Cell) :
    Same 50134901 s (State.sigRelease s c).2 := by
  unfold State.sigRelease
  repeat' with_reducible first
    | exact Same.refl _
    | apply Same.step (m := 66912245) (by decide) (sigReturn_same ..)
    | apply Same.step (m := 50331647) (by decide) (fresh_same ..)
    | apply Same.ite
    | apply Same.ite1
    | apply Same.ite2
    | extract_lets
    | split
    | dsimp -zeta only
    | dsimp +zetaDelta only
    | apply Same.with_regs (by decide)
    | apply Same.with_sig (by decide)
    | apply Same.with_sw (by decide)
    | apply Same.with_br (by decide)
    | apply Same.with_engs (by decide)
    | apply Same.with_freeCtr (by decide)

theorem State.sigHostLost_same (s : State) (h : Nat) :
    Same 67043317 s (State.sigHostLost s h) := by
  unfold State.sigHostLost
  repeat' with_reducible first
    | exact Same.refl _
    | apply Same.step (m := 67043327) (by decide) (semFree_same ..)
    | apply Same.step (m := 67043317) (by decide) (sigGo_same ..)
    | apply Same.step (m := 67043327) (by decide) (mapSigTgt_same ..)
    | apply Same.trans _ (foldl_same _ _ _ (fun _ _ => ?_))
    | apply Same.trans _ (foldl_same1 _ _ _ (fun _ _ => ?_))
    | apply Same.ite
    | apply Same.ite1
    | apply Same.ite2
    | extract_lets
    | split
    | dsimp -zeta only
    | dsimp +zetaDelta only

theorem State.sigReturns_same (s : State) (l : List (Option Nat)) (r : SigReason) :
    Same 66912245 s (State.sigReturns s l r) := by
  unfold State.sigReturns
  repeat' with_reducible first
    | exact Same.refl _
    | apply Same.step (m := 66912245) (by decide) (sigReturn_same ..)
    | apply Same.trans _ (foldl_same _ _ _ (fun _ _ => ?_))
    | apply Same.trans _ (foldl_same1 _ _ _ (fun _ _ => ?_))
    | apply Same.ite
    | apply Same.ite1
    | apply Same.ite2
    | extract_lets
    | split
    | dsimp -zeta only
    | dsimp +zetaDelta only

theorem State.targetDown_same (s : State) (t : Nat) :
    Same 67043317 s (State.targetDown s t) := by
  unfold State.targetDown
  repeat' with_reducible first
    | exact Same.refl _
    | apply Same.step (m := 67043327) (by decide) (mapSigTgt_same ..)
    | apply Same.step (m := 67043327) (by decide) (semFree_same ..)
    | apply Same.step (m := 67108853) (by decide) (opReport_same ..)
    | apply Same.step (m := 67108853) (by decide) (cmdFail_same ..)
    | apply Same.trans _ (foldl_same _ _ _ (fun _ _ => ?_))
    | apply Same.trans _ (foldl_same1 _ _ _ (fun _ _ => ?_))
    | apply Same.ite
    | apply Same.ite1
    | apply Same.ite2
    | extract_lets
    | split
    | dsimp -zeta only
    | dsimp +zetaDelta only

theorem State.sigLinkDown_same (s : State) (n : Nat) :
    Same 67043317 s (State.sigLinkDown s n) := by
  unfold State.sigLinkDown
  repeat' with_reducible first
    | exact Same.refl _
    | apply Same.step (m := 67043317) (by decide) (targetDown_same ..)
    | apply Same.step (m := 67043317) (by decide) (raDropIf_same ..)
    | apply Same.trans _ (foldl_same _ _ _ (fun _ _ => ?_))
    | apply Same.trans _ (foldl_same1 _ _ _ (fun _ _ => ?_))
    | apply Same.ite
    | apply Same.ite1
    | apply Same.ite2
    | extract_lets
    | split
    | dsimp -zeta only
    | dsimp +zetaDelta only

end Sys2Proof.Machine
end

