-- ==== Sys2Proof/Laws/FrameTx.lean ====
section
/-! SUPPORT. What each operation of Machine/Tx.lean may change: every other part of State stays as it is. -/

set_option linter.all false

namespace Sys2Proof.Machine

theorem State.enqueue_same (s : State) (n : Nat) (x : TxItem) :
    Same 67104767 s (State.enqueue s n x) := by
  unfold State.enqueue
  repeat' with_reducible first
    | exact Same.refl _
    | apply Same.step (m := 67104767) (by decide) (State.mapLk_same ..)
    | apply Same.ite
    | apply Same.ite1
    | apply Same.ite2
    | extract_lets
    | split
    | dsimp -zeta only
    | dsimp +zetaDelta only

theorem State.endCell_same (s : State) (c : Cell) :
    Same 67104759 s (State.endCell s c) := by
  unfold State.endCell
  repeat' with_reducible first
    | exact Same.refl _
    | apply Same.step (m := 67108855) (by decide) (State.emit_same ..)
    | apply Same.step (m := 67104767) (by decide) (State.enqueue_same ..)
    | apply Same.ite
    | apply Same.ite1
    | apply Same.ite2
    | extract_lets
    | split
    | dsimp -zeta only
    | dsimp +zetaDelta only

end Sys2Proof.Machine
end

