-- ==== Sys2Proof/Laws/FrameVat.lean ====
section
/-! SUPPORT. What each operation of Machine/Vat.lean may change: every other part of State stays as it is. -/

set_option linter.all false

namespace Sys2Proof.Machine

theorem State.setCells_same (s : State) (l : List Cell) :
    Same 67108735 s (State.setCells s l) := by
  unfold State.setCells
  repeat' with_reducible first
    | exact Same.refl _
    | apply Same.ite
    | apply Same.ite1
    | apply Same.ite2
    | extract_lets
    | split
    | dsimp -zeta only
    | dsimp +zetaDelta only
    | apply Same.with_sw (by decide)

theorem State.pairUsed_same (s : State) (p : Nat) (inp : Nat) (out : Nat) :
    Same 67108735 s (State.pairUsed s p inp out) := by
  unfold State.pairUsed
  repeat' with_reducible first
    | exact Same.refl _
    | apply Same.ite
    | apply Same.ite1
    | apply Same.ite2
    | extract_lets
    | split
    | dsimp -zeta only
    | dsimp +zetaDelta only
    | apply Same.with_sw (by decide)

theorem State.holdWarn_same (s : State) :
    Same 67108727 s (State.holdWarn s) := by
  unfold State.holdWarn
  repeat' with_reducible first
    | exact Same.refl _
    | apply Same.step (m := 67108855) (by decide) (raise_same ..)
    | apply Same.ite
    | apply Same.ite1
    | apply Same.ite2
    | extract_lets
    | split
    | dsimp -zeta only
    | dsimp +zetaDelta only
    | apply Same.with_sig (by decide)
    | apply Same.with_sw (by decide)

theorem State.freeUnits_same (s : State) (units : Nat) :
    Same 67108733 s (State.freeUnits s units) := by
  unfold State.freeUnits
  repeat' with_reducible first
    | exact Same.refl _
    | apply Same.step (m := 67108861) (by decide) (State.wrap_same ..)
    | apply Same.ite
    | apply Same.ite1
    | apply Same.ite2
    | extract_lets
    | split
    | dsimp -zeta only
    | dsimp +zetaDelta only
    | apply Same.with_sw (by decide)

theorem State.setMsgs_same (s : State) (l : List CoreMsg) :
    Same 67108735 s (State.setMsgs s l) := by
  unfold State.setMsgs
  repeat' with_reducible first
    | exact Same.refl _
    | apply Same.ite
    | apply Same.ite1
    | apply Same.ite2
    | extract_lets
    | split
    | dsimp -zeta only
    | dsimp +zetaDelta only
    | apply Same.with_sw (by decide)

theorem State.corePush_same (s : State) (src : Nat) (dst : Nat) (kind : Traffic) (goal : CoreGoal) (b : List (BitVec 8)) :
    Same 67108735 s (State.corePush s src dst kind goal b) := by
  unfold State.corePush
  repeat' with_reducible first
    | exact Same.refl _
    | apply Same.step (m := 67108735) (by decide) (State.setMsgs_same ..)
    | apply Same.ite
    | apply Same.ite1
    | apply Same.ite2
    | extract_lets
    | split
    | dsimp -zeta only
    | dsimp +zetaDelta only

theorem State.cellGone_same (s : State) (c : Cell) :
    Same 67043199 s (State.cellGone s c) := by
  unfold State.cellGone
  repeat' with_reducible first
    | exact Same.refl _
    | apply Same.step (m := 67043327) (by decide) (State.mapBr_same ..)
    | apply Same.step (m := 67108735) (by decide) (State.setMsgs_same ..)
    | apply Same.ite
    | apply Same.ite1
    | apply Same.ite2
    | extract_lets
    | split
    | dsimp -zeta only
    | dsimp +zetaDelta only

theorem State.free_same (s : State) (c : Cell) :
    Same 67043189 s (State.free s c) := by
  unfold State.free
  repeat' with_reducible first
    | exact Same.refl _
    | apply Same.step (m := 67043199) (by decide) (State.cellGone_same ..)
    | apply Same.step (m := 67108733) (by decide) (State.freeUnits_same ..)
    | apply Same.step (m := 67108727) (by decide) (State.holdWarn_same ..)
    | apply Same.step (m := 67108735) (by decide) (State.setCells_same ..)
    | apply Same.step (m := 67108861) (by decide) (State.sub_same ..)
    | apply Same.ite
    | apply Same.ite1
    | apply Same.ite2
    | extract_lets
    | split
    | dsimp -zeta only
    | dsimp +zetaDelta only

theorem State.wheelSub_same (s : State) (d : Nat) :
    Same 67108861 s (State.wheelSub s d) := by
  unfold State.wheelSub
  repeat' with_reducible first
    | exact Same.refl _
    | apply Same.step (m := 67108861) (by decide) (sub_same ..)
    | apply Same.ite
    | apply Same.ite1
    | apply Same.ite2
    | extract_lets
    | split
    | dsimp -zeta only
    | dsimp +zetaDelta only

theorem State.freeHeld_same (s : State) (c : Cell) :
    Same 50261877 s (State.freeHeld s c) := by
  unfold State.freeHeld
  repeat' with_reducible first
    | exact Same.refl _
    | apply Same.step (m := 67043189) (by decide) (State.free_same ..)
    | apply Same.step (m := 50327541) (by decide) (State.selectState_same ..)
    | apply Same.step (m := 67108861) (by decide) (State.wheelSub_same ..)
    | apply Same.ite
    | apply Same.ite1
    | apply Same.ite2
    | extract_lets
    | split
    | dsimp -zeta only
    | dsimp +zetaDelta only

theorem State.emptied_same (s : State) (o : Nat) (q : Nat) :
    Same 67108861 s (State.emptied s o q) := by
  unfold State.emptied
  repeat' with_reducible first
    | exact Same.refl _
    | apply Same.step (m := 67108861) (by decide) (State.set_same ..)
    | apply Same.ite
    | apply Same.ite1
    | apply Same.ite2
    | extract_lets
    | split
    | dsimp -zeta only
    | dsimp +zetaDelta only

theorem State.setStream_same (s : State) (k : Nat) (x : Stream) :
    Same 67108735 s (State.setStream s k x) := by
  unfold State.setStream
  repeat' with_reducible first
    | exact Same.refl _
    | apply Same.ite
    | apply Same.ite1
    | apply Same.ite2
    | extract_lets
    | split
    | dsimp -zeta only
    | dsimp +zetaDelta only
    | apply Same.with_sw (by decide)

theorem State.streamOn_same (s : State) (k : Nat) :
    Same 67108735 s (State.streamOn s k) := by
  unfold State.streamOn
  repeat' with_reducible first
    | exact Same.refl _
    | apply Same.step (m := 67108735) (by decide) (State.setStream_same ..)
    | apply Same.ite
    | apply Same.ite1
    | apply Same.ite2
    | extract_lets
    | split
    | dsimp -zeta only
    | dsimp +zetaDelta only

theorem State.dropCell_same (s : State) (c : Cell) :
    Same 50261877 s (State.dropCell s c) := by
  unfold State.dropCell
  repeat' with_reducible first
    | exact Same.refl _
    | apply Same.step (m := 67108861) (by decide) (State.emptied_same ..)
    | apply Same.step (m := 67043189) (by decide) (State.free_same ..)
    | apply Same.step (m := 50261877) (by decide) (State.freeHeld_same ..)
    | apply Same.step (m := 67108735) (by decide) (State.outUsed_same ..)
    | apply Same.step (m := 67108735) (by decide) (State.streamOn_same ..)
    | apply Same.ite
    | apply Same.ite1
    | apply Same.ite2
    | extract_lets
    | split
    | dsimp -zeta only
    | dsimp +zetaDelta only

theorem State.mapCell_same (s : State) (id : Nat) (f : Cell → Cell) :
    Same 67108735 s (State.mapCell s id f) := by
  unfold State.mapCell
  repeat' with_reducible first
    | exact Same.refl _
    | apply Same.step (m := 67108735) (by decide) (setCells_same ..)
    | apply Same.ite
    | apply Same.ite1
    | apply Same.ite2
    | extract_lets
    | split
    | dsimp -zeta only
    | dsimp +zetaDelta only

theorem State.reenter_same (s : State) (id : Nat) (late : Bool) :
    Same 67108735 s (State.reenter s id late) := by
  unfold State.reenter
  repeat' with_reducible first
    | exact Same.refl _
    | apply Same.step (m := 67108735) (by decide) (State.setCells_same ..)
    | apply Same.ite
    | apply Same.ite1
    | apply Same.ite2
    | extract_lets
    | split
    | dsimp -zeta only
    | dsimp +zetaDelta only

theorem State.discard_same (s : State) (c : Cell) :
    Same 50261877 s (State.discard s c) := by
  unfold State.discard
  repeat' with_reducible first
    | exact Same.refl _
    | apply Same.step (m := 50261877) (by decide) (State.dropCell_same ..)
    | apply Same.step (m := 67108861) (by decide) (State.wrap_same ..)
    | apply Same.ite
    | apply Same.ite1
    | apply Same.ite2
    | extract_lets
    | split
    | dsimp -zeta only
    | dsimp +zetaDelta only

theorem State.release_same (s : State) (id : Nat) (late : Bool) :
    Same 50130805 s (State.release s id late) := by
  unfold State.release
  repeat' with_reducible first
    | exact Same.refl _
    | apply Same.step (m := 50261877) (by decide) (State.discard_same ..)
    | apply Same.step (m := 67108855) (by decide) (State.raise_same ..)
    | apply Same.step (m := 67108735) (by decide) (State.reenter_same ..)
    | apply Same.step (m := 67108861) (by decide) (State.sat_same ..)
    | apply Same.step (m := 50134901) (by decide) (State.sigRelease_same ..)
    | apply Same.step (m := 50327541) (by decide) (State.wakeLink_same ..)
    | apply Same.step (m := 67108861) (by decide) (State.wheelSub_same ..)
    | apply Same.ite
    | apply Same.ite1
    | apply Same.ite2
    | extract_lets
    | split
    | dsimp -zeta only
    | dsimp +zetaDelta only

theorem State.policyCount_same (s : State) (a : Nat) :
    Same 67108853 s (State.policyCount s a) := by
  unfold State.policyCount
  repeat' with_reducible first
    | exact Same.refl _
    | apply Same.step (m := 67108855) (by decide) (State.raise_same ..)
    | apply Same.step (m := 67108861) (by decide) (State.sat_same ..)
    | apply Same.ite
    | apply Same.ite1
    | apply Same.ite2
    | extract_lets
    | split
    | dsimp -zeta only
    | dsimp +zetaDelta only

theorem State.charge_same (s : State) (p : Part) (src : Nat) (units : Nat) :
    Same 67108725 s (State.charge s p src units) := by
  unfold State.charge
  repeat' with_reducible first
    | exact Same.refl _
    | apply Same.step (m := 67108861) (by decide) (sub_same ..)
    | apply Same.step (m := 67108861) (by decide) (wrap_same ..)
    | apply Same.step (m := 67108727) (by decide) (holdWarn_same ..)
    | apply Same.step (m := 67108861) (by decide) (set_same ..)
    | apply Same.ite
    | apply Same.ite1
    | apply Same.ite2
    | extract_lets
    | split
    | dsimp -zeta only
    | dsimp +zetaDelta only

theorem State.placeHeld_same (s : State) (id : Nat) :
    Same 50130805 s (State.placeHeld s id) := by
  unfold State.placeHeld
  repeat' with_reducible first
    | exact Same.refl _
    | apply Same.step (m := 50261877) (by decide) (State.freeHeld_same ..)
    | apply Same.step (m := 67108735) (by decide) (State.mapCell_same ..)
    | apply Same.step (m := 67108853) (by decide) (State.policyCount_same ..)
    | apply Same.step (m := 50130805) (by decide) (State.release_same ..)
    | apply Same.ite
    | apply Same.ite1
    | apply Same.ite2
    | extract_lets
    | split
    | dsimp -zeta only
    | dsimp +zetaDelta only

theorem State.releaseDue_same (s : State) (id : Nat) :
    Same 50130805 s (State.releaseDue s id) := by
  unfold State.releaseDue
  repeat' with_reducible first
    | exact Same.refl _
    | apply Same.step (m := 50130805) (by decide) (State.release_same ..)
    | apply Same.trans _ (foldl_same _ _ _ (fun _ _ => ?_))
    | apply Same.trans _ (foldl_same1 _ _ _ (fun _ _ => ?_))
    | apply Same.ite
    | apply Same.ite1
    | apply Same.ite2
    | extract_lets
    | split
    | dsimp -zeta only
    | dsimp +zetaDelta only

theorem State.wheelAdd_same (s : State) (d : Nat) :
    Same 67108861 s (State.wheelAdd s d) := by
  unfold State.wheelAdd
  repeat' with_reducible first
    | exact Same.refl _
    | apply Same.step (m := 67108861) (by decide) (set_same ..)
    | apply Same.ite
    | apply Same.ite1
    | apply Same.ite2
    | extract_lets
    | split
    | dsimp -zeta only
    | dsimp +zetaDelta only

theorem State.setBank_same (s : State) (b : Nat) (v : Nat) :
    Same 67108861 s (State.setBank s b v) := by
  unfold State.setBank
  repeat' with_reducible first
    | exact Same.refl _
    | apply Same.step (m := 67108861) (by decide) (set_same ..)
    | apply Same.ite
    | apply Same.ite1
    | apply Same.ite2
    | extract_lets
    | split
    | dsimp -zeta only
    | dsimp +zetaDelta only

theorem State.skimsEnd_same (s : State) (port : Nat) :
    Same 50261877 s (State.skimsEnd s port) := by
  unfold State.skimsEnd
  repeat' with_reducible first
    | exact Same.refl _
    | apply Same.step (m := 50261877) (by decide) (State.discard_same ..)
    | apply Same.step (m := 67104759) (by decide) (State.endCell_same ..)
    | apply Same.trans _ (foldl_same _ _ _ (fun _ _ => ?_))
    | apply Same.trans _ (foldl_same1 _ _ _ (fun _ _ => ?_))
    | apply Same.ite
    | apply Same.ite1
    | apply Same.ite2
    | extract_lets
    | split
    | dsimp -zeta only
    | dsimp +zetaDelta only

theorem State.discardFor_same (s : State) (port : Nat) :
    Same 50261877 s (State.discardFor s port) := by
  unfold State.discardFor
  repeat' with_reducible first
    | exact Same.refl _
    | apply Same.step (m := 50261877) (by decide) (State.discard_same ..)
    | apply Same.step (m := 50261877) (by decide) (State.skimsEnd_same ..)
    | apply Same.trans _ (foldl_same _ _ _ (fun _ _ => ?_))
    | apply Same.trans _ (foldl_same1 _ _ _ (fun _ _ => ?_))
    | apply Same.ite
    | apply Same.ite1
    | apply Same.ite2
    | extract_lets
    | split
    | dsimp -zeta only
    | dsimp +zetaDelta only

theorem State.rebind_same (s : State) (p : Nat) (q : Nat) :
    Same 67108861 s (State.rebind s p q) := by
  unfold State.rebind
  repeat' with_reducible first
    | exact Same.refl _
    | apply Same.step (m := 67108861) (by decide) (set_same ..)
    | apply Same.ite
    | apply Same.ite1
    | apply Same.ite2
    | extract_lets
    | split
    | dsimp -zeta only
    | dsimp +zetaDelta only

theorem State.resetPtrs_same (s : State) (p : Nat) :
    Same 67108735 s (State.resetPtrs s p) := by
  unfold State.resetPtrs
  repeat' with_reducible first
    | exact Same.refl _
    | apply Same.ite
    | apply Same.ite1
    | apply Same.ite2
    | extract_lets
    | split
    | dsimp -zeta only
    | dsimp +zetaDelta only
    | apply Same.with_sw (by decide)

theorem State.replay_same (s : State) (k : Nat) :
    Same 67108733 s (State.replay s k) := by
  unfold State.replay
  repeat' with_reducible first
    | exact Same.refl _
    | apply Same.step (m := 67108861) (by decide) (State.sat_same ..)
    | apply Same.step (m := 67108735) (by decide) (State.setCells_same ..)
    | apply Same.step (m := 67108861) (by decide) (State.wrap_same ..)
    | apply Same.trans _ (foldl_same _ _ _ (fun _ _ => ?_))
    | apply Same.trans _ (foldl_same1 _ _ _ (fun _ _ => ?_))
    | apply Same.ite
    | apply Same.ite1
    | apply Same.ite2
    | extract_lets
    | split
    | dsimp -zeta only
    | dsimp +zetaDelta only

theorem State.failReplay_same (s : State) (k : Nat) :
    Same 67108725 s (State.failReplay s k) := by
  unfold State.failReplay
  repeat' with_reducible first
    | exact Same.refl _
    | apply Same.step (m := 67108855) (by decide) (State.emit_same ..)
    | apply Same.step (m := 67108733) (by decide) (State.replay_same ..)
    | apply Same.step (m := 67108735) (by decide) (State.setCells_same ..)
    | apply Same.ite
    | apply Same.ite1
    | apply Same.ite2
    | extract_lets
    | split
    | dsimp -zeta only
    | dsimp +zetaDelta only

theorem State.failStart_same (s : State) (p : Nat) (q : Nat) (lps : List Nat) :
    Same 67108725 s (State.failStart s p q lps) := by
  unfold State.failStart
  repeat' with_reducible first
    | exact Same.refl _
    | apply Same.step (m := 67108725) (by decide) (State.failReplay_same ..)
    | apply Same.step (m := 67108735) (by decide) (State.resetPtrs_same ..)
    | apply Same.step (m := 67108861) (by decide) (State.set_same ..)
    | apply Same.trans _ (foldl_same _ _ _ (fun _ _ => ?_))
    | apply Same.trans _ (foldl_same1 _ _ _ (fun _ _ => ?_))
    | apply Same.ite
    | apply Same.ite1
    | apply Same.ite2
    | extract_lets
    | split
    | dsimp -zeta only
    | dsimp +zetaDelta only
    | apply Same.with_sw (by decide)

theorem State.planeFail_same (s : State) (p : Nat) :
    Same 67100533 s (State.planeFail s p) := by
  unfold State.planeFail
  repeat' with_reducible first
    | exact Same.refl _
    | apply Same.step (m := 67108725) (by decide) (State.failStart_same ..)
    | apply Same.step (m := 67108855) (by decide) (State.raise_same ..)
    | apply Same.step (m := 67108861) (by decide) (State.rebind_same ..)
    | apply Same.step (m := 67108861) (by decide) (State.set_same ..)
    | apply Same.step (m := 67100661) (by decide) (State.softRecord_same ..)
    | apply Same.ite
    | apply Same.ite1
    | apply Same.ite2
    | extract_lets
    | split
    | dsimp -zeta only
    | dsimp +zetaDelta only
    | apply Same.with_sw (by decide)

theorem State.crcFailure_same (s : State) (p : Nat) :
    Same 67100533 s (State.crcFailure s p) := by
  unfold State.crcFailure
  repeat' with_reducible first
    | exact Same.refl _
    | apply Same.step (m := 67108855) (by decide) (raise_same ..)
    | apply Same.step (m := 67108861) (by decide) (sat_same ..)
    | apply Same.step (m := 67100533) (by decide) (planeFail_same ..)
    | apply Same.ite
    | apply Same.ite1
    | apply Same.ite2
    | extract_lets
    | split
    | dsimp -zeta only
    | dsimp +zetaDelta only
    | apply Same.with_regs (by decide)
    | apply Same.with_sig (by decide)
    | apply Same.with_sw (by decide)
    | apply Same.with_repair (by decide)

theorem State.replayJudged_same (s : State) (k : Nat) :
    Same 67100533 s (State.replayJudged s k) := by
  unfold State.replayJudged
  repeat' with_reducible first
    | exact Same.refl _
    | apply Same.step (m := 67108733) (by decide) (replay_same ..)
    | apply Same.step (m := 67100533) (by decide) (planeFail_same ..)
    | apply Same.ite
    | apply Same.ite1
    | apply Same.ite2
    | extract_lets
    | split
    | dsimp -zeta only
    | dsimp +zetaDelta only

end Sys2Proof.Machine
end

