-- ==== Sys2Proof/Laws/FrameSched.lean ====
section
/-! SUPPORT. What each operation of Machine/Sched.lean may change: every other part of State stays as it is. -/

set_option linter.all false

namespace Sys2Proof.Machine

theorem State.chargeCell_same (s : State) (x : Cell) :
    Same 67108725 s (State.chargeCell s x) := by
  unfold State.chargeCell
  repeat' with_reducible first
    | exact Same.refl _
    | apply Same.step (m := 67108725) (by decide) (State.charge_same ..)
    | apply Same.step (m := 67108861) (by decide) (State.wrap_same ..)
    | apply Same.ite
    | apply Same.ite1
    | apply Same.ite2
    | extract_lets
    | split
    | dsimp -zeta only
    | dsimp +zetaDelta only
    | apply Same.with_sw (by decide)

theorem State.launch_same (s : State) (c : Cell) (skim : Bool) :
    Same 67108735 s (State.launch s c skim) := by
  unfold State.launch
  repeat' with_reducible first
    | exact Same.refl _
    | apply Same.step (m := 67108735) (by decide) (State.mapCell_same ..)
    | apply Same.step (m := 67108735) (by decide) (State.pairUsed_same ..)
    | apply Same.step (m := 67108735) (by decide) (State.setStream_same ..)
    | apply Same.ite
    | apply Same.ite1
    | apply Same.ite2
    | extract_lets
    | split
    | dsimp -zeta only
    | dsimp +zetaDelta only

theorem State.countCap_same (s : State) (o : Nat) (units : Nat) :
    Same 67108735 s (State.countCap s o units) := by
  unfold State.countCap
  repeat' with_reducible first
    | exact Same.refl _
    | apply Same.ite
    | apply Same.ite1
    | apply Same.ite2
    | extract_lets
    | split
    | dsimp -zeta only
    | dsimp +zetaDelta only
    | apply Same.with_sw (by decide)

theorem State.payTokens_same (s : State) (sh : Nat) (bytes : Nat) :
    Same 67108861 s (State.payTokens s sh bytes) := by
  unfold State.payTokens
  repeat' with_reducible first
    | exact Same.refl _
    | apply Same.step (m := 67108861) (by decide) (State.setI_same ..)
    | apply Same.ite
    | apply Same.ite1
    | apply Same.ite2
    | extract_lets
    | split
    | dsimp -zeta only
    | dsimp +zetaDelta only

theorem State.payCell_same (s : State) (c : Cell) :
    Same 67108733 s (State.payCell s c) := by
  unfold State.payCell
  repeat' with_reducible first
    | exact Same.refl _
    | apply Same.step (m := 67108735) (by decide) (State.countCap_same ..)
    | apply Same.step (m := 67108861) (by decide) (State.payTokens_same ..)
    | apply Same.ite
    | apply Same.ite1
    | apply Same.ite2
    | extract_lets
    | split
    | dsimp -zeta only
    | dsimp +zetaDelta only

theorem State.holdBack_same (s : State) (p : Nat) (units : Nat) :
    Same 67108727 s (State.holdBack s p units) := by
  unfold State.holdBack
  repeat' with_reducible first
    | exact Same.refl _
    | apply Same.step (m := 67108855) (by decide) (State.emit_same ..)
    | apply Same.ite
    | apply Same.ite1
    | apply Same.ite2
    | extract_lets
    | split
    | dsimp -zeta only
    | dsimp +zetaDelta only
    | apply Same.with_sw (by decide)

theorem State.arriveCell_same (s : State) (c : CellIn) (b : List (BitVec 8)) (som : Bool) (eom : Bool) :
    Same 50130805 s (State.arriveCell s c b som eom) := by
  unfold State.arriveCell
  repeat' with_reducible first
    | exact Same.refl _
    | apply Same.step (m := 67108725) (by decide) (State.chargeCell_same ..)
    | apply Same.step (m := 67108855) (by decide) (State.emit_same ..)
    | apply Same.step (m := 67108727) (by decide) (State.holdBack_same ..)
    | apply Same.step (m := 67108735) (by decide) (State.launch_same ..)
    | apply Same.step (m := 67108735) (by decide) (State.outUsed_same ..)
    | apply Same.step (m := 67108733) (by decide) (State.payCell_same ..)
    | apply Same.step (m := 50130805) (by decide) (State.placeHeld_same ..)
    | apply Same.step (m := 67108855) (by decide) (State.raise_same ..)
    | apply Same.step (m := 67108861) (by decide) (State.sat_same ..)
    | apply Same.step (m := 50327541) (by decide) (State.selectState_same ..)
    | apply Same.step (m := 50327541) (by decide) (State.wakeLink_same ..)
    | apply Same.step (m := 67108861) (by decide) (State.wheelAdd_same ..)
    | apply Same.step (m := 67108861) (by decide) (State.wrap_same ..)
    | apply Same.ite
    | apply Same.ite1
    | apply Same.ite2
    | extract_lets
    | split
    | dsimp -zeta only
    | dsimp +zetaDelta only

theorem State.arriveAll_same (s : State) (c : CellIn) (som : Bool) (l : List (List (BitVec 8))) :
    Same 50130805 s (State.arriveAll s c som l) := by
  induction l generalizing s som with
  | nil => exact Same.refl _
  | cons b l ih =>
    have h := State.arriveCell_same s c b som (c.eom && l.isEmpty)
    unfold State.arriveAll
    extract_lets s1
    exact Same.ite (h.weaken (by decide)) ((h.weaken (by decide)).trans (ih s1 false))

theorem State.arrive_same (s : State) (c : CellIn) :
    Same 49868661 s (State.arrive s c) := by
  unfold State.arrive
  repeat' with_reducible first
    | exact Same.refl _
    | apply Same.step (m := 50130805) (by decide) (State.arriveAll_same ..)
    | apply Same.step (m := 66846709) (by decide) (State.shutOut_same ..)
    | apply Same.ite
    | apply Same.ite1
    | apply Same.ite2
    | extract_lets
    | split
    | dsimp -zeta only
    | dsimp +zetaDelta only

theorem State.placeShaper_same (s : State) (sh : Nat) (next : Nat) :
    Same 67108735 s (State.placeShaper s sh next) := by
  unfold State.placeShaper
  repeat' with_reducible first
    | exact Same.refl _
    | apply Same.ite
    | apply Same.ite1
    | apply Same.ite2
    | extract_lets
    | split
    | dsimp -zeta only
    | dsimp +zetaDelta only
    | apply Same.with_sw (by decide)

theorem State.shaperEn_same (s : State) (sh : Nat) (was : Bool) (en : Bool) :
    Same 67108733 s (State.shaperEn s sh was en) := by
  unfold State.shaperEn
  repeat' with_reducible first
    | exact Same.refl _
    | apply Same.step (m := 67108861) (by decide) (set_same ..)
    | apply Same.step (m := 67108861) (by decide) (wheelAdd_same ..)
    | apply Same.step (m := 67108735) (by decide) (placeShaper_same ..)
    | apply Same.step (m := 67108861) (by decide) (wheelSub_same ..)
    | apply Same.ite
    | apply Same.ite1
    | apply Same.ite2
    | extract_lets
    | split
    | dsimp -zeta only
    | dsimp +zetaDelta only
    | apply Same.with_regs (by decide)
    | apply Same.with_sw (by decide)

theorem State.drrRefill_same (s : State) (o : Nat) (q : Nat) :
    Same 67108857 s (State.drrRefill s o q) := by
  unfold State.drrRefill
  repeat' with_reducible first
    | exact Same.refl _
    | apply Same.step (m := 67108859) (by decide) (takeUp_same ..)
    | apply Same.step (m := 67108861) (by decide) (wrap_same ..)
    | apply Same.step (m := 67108861) (by decide) (set_same ..)
    | apply Same.ite
    | apply Same.ite1
    | apply Same.ite2
    | extract_lets
    | split
    | dsimp -zeta only
    | dsimp +zetaDelta only

theorem State.chooseQueue_same (s : State) (o : Nat) (ptr : Nat) (reqs : List Cell) :
    Same 67108857 s (State.chooseQueue s o ptr reqs).1 := by
  unfold State.chooseQueue
  repeat' with_reducible first
    | exact Same.refl _
    | apply Same.step (m := 67108857) (by decide) (State.drrRefill_same ..)
    | apply Same.trans _ (foldl_same _ _ _ (fun _ _ => ?_))
    | apply Same.trans _ (foldl_same1 _ _ _ (fun _ _ => ?_))
    | apply Same.ite
    | apply Same.ite1
    | apply Same.ite2
    | extract_lets
    | split
    | dsimp -zeta only
    | dsimp +zetaDelta only

theorem State.grant_same (s : State) (p : Nat) (o : Nat) (reqs : List Cell) :
    Same 67108857 s (State.grant s p o reqs).1 := by
  unfold State.grant
  repeat' with_reducible first
    | exact Same.refl _
    | apply Same.step (m := 67108857) (by decide) (State.chooseQueue_same ..)
    | apply Same.ite
    | apply Same.ite1
    | apply Same.ite2
    | extract_lets
    | split
    | dsimp -zeta only
    | dsimp +zetaDelta only

theorem State.churnRound_same (s : State) (p : Nat) (hs : List Cell) (first : Bool) (m : List Cell) :
    Same 67108729 s (State.churnRound s p hs first m).1 := by
  unfold State.churnRound
  repeat' with_reducible first
    | exact Same.refl _
    | apply Same.step (m := 67108857) (by decide) (grant_same ..)
    | apply Same.trans _ (foldl_same _ _ _ (fun _ _ => ?_))
    | apply Same.trans _ (foldl_same1 _ _ _ (fun _ _ => ?_))
    | apply Same.ite
    | apply Same.ite1
    | apply Same.ite2
    | extract_lets
    | split
    | dsimp -zeta only
    | dsimp +zetaDelta only
    | apply Same.with_regs (by decide)
    | apply Same.with_lag (by decide)
    | apply Same.with_sw (by decide)

theorem State.cross_same (s : State) (c : Cell) :
    Same 67108733 s (State.cross s c) := by
  unfold State.cross
  repeat' with_reducible first
    | exact Same.refl _
    | apply Same.step (m := 67108861) (by decide) (State.emptied_same ..)
    | apply Same.step (m := 67108735) (by decide) (State.launch_same ..)
    | apply Same.step (m := 67108735) (by decide) (State.mapCell_same ..)
    | apply Same.step (m := 67108735) (by decide) (State.pairUsed_same ..)
    | apply Same.step (m := 67108733) (by decide) (State.payCell_same ..)
    | apply Same.step (m := 67108861) (by decide) (State.sub_same ..)
    | apply Same.ite
    | apply Same.ite1
    | apply Same.ite2
    | extract_lets
    | split
    | dsimp -zeta only
    | dsimp +zetaDelta only

theorem State.crossTrain_same (o n : Nat) (s : State) (l : List Cell) :
    Same 67108733 s (State.crossTrain o n s l) := by
  induction l generalizing s n with
  | nil => exact Same.refl _
  | cons c l ih =>
    unfold State.crossTrain
    repeat' with_reducible first
      | exact Same.refl _
      | exact ((State.cross_same ..).weaken (by decide)).trans (ih ..)
      | apply Same.ite
      | apply Same.ite1
      | apply Same.ite2
      | extract_lets
      | split
      | dsimp -zeta only

theorem State.churnPlane_same (s : State) (p : Nat) :
    Same 67108729 s (State.churnPlane s p) := by
  unfold State.churnPlane
  repeat' with_reducible first
    | exact Same.refl _
    | apply Same.step (m := 67108729) (by decide) (State.churnRound_same ..)
    | apply Same.step (m := 67108733) (by decide) (State.crossTrain_same ..)
    | apply Same.trans _ (foldl_same _ _ _ (fun _ _ => ?_))
    | apply Same.trans _ (foldl_same1 _ _ _ (fun _ _ => ?_))
    | apply Same.ite
    | apply Same.ite1
    | apply Same.ite2
    | extract_lets
    | split
    | dsimp -zeta only
    | dsimp +zetaDelta only

theorem State.countStalls_same (s : State) :
    Same 67108733 s (State.countStalls s) := by
  unfold State.countStalls
  repeat' with_reducible first
    | exact Same.refl _
    | apply Same.step (m := 67108861) (by decide) (State.wrap_same ..)
    | apply Same.trans _ (foldl_same _ _ _ (fun _ _ => ?_))
    | apply Same.trans _ (foldl_same1 _ _ _ (fun _ _ => ?_))
    | apply Same.ite
    | apply Same.ite1
    | apply Same.ite2
    | extract_lets
    | split
    | dsimp -zeta only
    | dsimp +zetaDelta only
    | apply Same.with_sw (by decide)

theorem State.churn_same (s : State) :
    Same 67108729 s (State.churn s) := by
  unfold State.churn
  repeat' with_reducible first
    | exact Same.refl _
    | apply Same.step (m := 67108729) (by decide) (State.churnPlane_same ..)
    | apply Same.step (m := 67108733) (by decide) (State.countStalls_same ..)
    | apply Same.trans _ (foldl_same _ _ _ (fun _ _ => ?_))
    | apply Same.trans _ (foldl_same1 _ _ _ (fun _ _ => ?_))
    | apply Same.ite
    | apply Same.ite1
    | apply Same.ite2
    | extract_lets
    | split
    | dsimp -zeta only
    | dsimp +zetaDelta only
    | apply Same.with_sw (by decide)

theorem State.govWindow_same (s : State) (m : GovSample) : Same 50327285 s (State.govWindow s m) := by
  unfold State.govWindow
  extract_lets rDie rA rB rD rs r feed dt cause level g0 above src g1 new into5 s1 s2 s3 s4
  have h1 : Same 50327285 s s1 := Same.step (by decide) (State.sets_same ..) (Same.with_gov (by decide) (Same.refl _))
  have h2 : Same 50327285 s s2 := Same.ite (Same.step (by decide) (State.raise_same ..) (Same.step (by decide) (State.sat_same ..) h1))
    (Same.step (by decide) (State.raiseIf_same ..) h1)
  have h3 : Same 50327285 s s3 := Same.step (by decide) (State.raiseIf_same ..) (Same.step (by decide) (State.raiseIf_same ..) h2)
  have h4 : Same 50327285 s s4 := h3.trans (foldl_same _ _ _ (fun _ _ => (State.raise_same ..).weaken (by decide)))
  exact h4.trans (foldl_same _ _ _ (fun _ _ => (State.selectState_same ..).weaken (by decide)))

theorem State.refill_same (s : State) (sh : Nat) :
    Same 67108729 s (State.refill s sh) := by
  unfold State.refill
  repeat' with_reducible first
    | exact Same.refl _
    | apply Same.step (m := 67108859) (by decide) (takeUp_same ..)
    | apply Same.step (m := 67108861) (by decide) (setI_same ..)
    | apply Same.step (m := 67108735) (by decide) (placeShaper_same ..)
    | apply Same.ite
    | apply Same.ite1
    | apply Same.ite2
    | extract_lets
    | split
    | dsimp -zeta only
    | dsimp +zetaDelta only

end Sys2Proof.Machine
end

