-- ==== Sys2Proof/Laws/FramePorts.lean ====
section
/-! SUPPORT. What each operation of Machine/Ports.lean may change: every other part of State stays as it is. -/

set_option linter.all false

namespace Sys2Proof.Machine

theorem State.dropSlot_same (s : State) (i : Nat) (result : Nat) :
    Same 67108845 s (State.dropSlot s i result) := by
  unfold State.dropSlot
  repeat' with_reducible first
    | exact Same.refl _
    | apply Same.step (m := 67108845) (by decide) (freeSlot_same ..)
    | apply Same.step (m := 67108861) (by decide) (wheelSub_same ..)
    | apply Same.ite
    | apply Same.ite1
    | apply Same.ite2
    | extract_lets
    | split
    | dsimp -zeta only
    | dsimp +zetaDelta only

theorem State.ideForget_same (s : State) (p : Nat) :
    Same 66584575 s (State.ideForget s p) := by
  unfold State.ideForget
  repeat' with_reducible first
    | exact Same.refl _
    | apply Same.ite
    | apply Same.ite1
    | apply Same.ite2
    | extract_lets
    | split
    | dsimp -zeta only
    | dsimp +zetaDelta only
    | apply Same.with_vault (by decide)

theorem State.trained_same (s : State) (p : Nat) :
    Same 67106815 s (State.trained s p) := by
  unfold State.trained
  repeat' with_reducible first
    | exact Same.refl _
    | apply Same.step (m := 67106815) (by decide) (State.mapPort_same ..)
    | apply Same.ite
    | apply Same.ite1
    | apply Same.ite2
    | extract_lets
    | split
    | dsimp -zeta only
    | dsimp +zetaDelta only

theorem State.pathLost_same (s : State) (p : Nat) :
    Same 67108837 s (State.pathLost s p) := by
  unfold State.pathLost
  repeat' with_reducible first
    | exact Same.refl _
    | apply Same.step (m := 67108855) (by decide) (raise_same ..)
    | apply Same.step (m := 67108845) (by decide) (dropSlot_same ..)
    | apply Same.trans _ (foldl_same _ _ _ (fun _ _ => ?_))
    | apply Same.trans _ (foldl_same1 _ _ _ (fun _ _ => ?_))
    | apply Same.ite
    | apply Same.ite1
    | apply Same.ite2
    | extract_lets
    | split
    | dsimp -zeta only
    | dsimp +zetaDelta only

theorem State.setVdsp_same (s : State) (h : Nat) (d : Nat) (st : Nat) :
    Same 67106805 s (State.setVdsp s h d st) := by
  unfold State.setVdsp
  repeat' with_reducible first
    | exact Same.refl _
    | apply Same.step (m := 67106815) (by decide) (State.mapPort_same ..)
    | apply Same.step (m := 67108855) (by decide) (State.raise_same ..)
    | apply Same.step (m := 67108861) (by decide) (State.set_same ..)
    | apply Same.ite
    | apply Same.ite1
    | apply Same.ite2
    | extract_lets
    | split
    | dsimp -zeta only
    | dsimp +zetaDelta only

theorem State.failWritesOf_same (s : State) (x : Nat) (h : Nat) :
    Same 67106293 s (State.failWritesOf s x h) := by
  unfold State.failWritesOf
  repeat' with_reducible first
    | exact Same.refl _
    | apply Same.step (m := 67106805) (by decide) (State.failWrite_same ..)
    | apply Same.step (m := 67108351) (by decide) (State.mapPool_same ..)
    | apply Same.step (m := 67106815) (by decide) (State.mapPort_same ..)
    | apply Same.trans _ (foldl_same _ _ _ (fun _ _ => ?_))
    | apply Same.trans _ (foldl_same1 _ _ _ (fun _ _ => ?_))
    | apply Same.ite
    | apply Same.ite1
    | apply Same.ite2
    | extract_lets
    | split
    | dsimp -zeta only
    | dsimp +zetaDelta only

theorem State.removeFn_same (s : State) (h : Nat) (d : Nat) :
    Same 67105269 s (State.removeFn s h d) := by
  unfold State.removeFn
  repeat' with_reducible first
    | exact Same.refl _
    | apply Same.step (m := 67108855) (by decide) (State.complete_same ..)
    | apply Same.step (m := 67108351) (by decide) (State.copyTrackers_same ..)
    | apply Same.step (m := 67108855) (by decide) (State.emit_same ..)
    | apply Same.step (m := 67106293) (by decide) (State.failWritesOf_same ..)
    | apply Same.step (m := 67107839) (by decide) (State.mapGd_same ..)
    | apply Same.step (m := 67108351) (by decide) (State.mapPool_same ..)
    | apply Same.step (m := 67106815) (by decide) (State.mapPort_same ..)
    | apply Same.step (m := 67108861) (by decide) (State.set_same ..)
    | apply Same.step (m := 67106815) (by decide) (State.setFn_same ..)
    | apply Same.step (m := 67106805) (by decide) (State.setVdsp_same ..)
    | apply Same.trans _ (foldl_same _ _ _ (fun _ _ => ?_))
    | apply Same.trans _ (foldl_same1 _ _ _ (fun _ _ => ?_))
    | apply Same.ite
    | apply Same.ite1
    | apply Same.ite2
    | extract_lets
    | split
    | dsimp -zeta only
    | dsimp +zetaDelta only

theorem State.fwdForget_same (s : State) (f : FwdEntry → Bool) :
    Same 67104767 s (State.fwdForget s f) := by
  unfold State.fwdForget
  repeat' with_reducible first
    | exact Same.refl _
    | apply Same.step (m := 67104767) (by decide) (mapLinks_same ..)
    | apply Same.ite
    | apply Same.ite1
    | apply Same.ite2
    | extract_lets
    | split
    | dsimp -zeta only
    | dsimp +zetaDelta only

theorem State.hostDown_same (s : State) (h : Nat) :
    Same 50225509 s (State.hostDown s h) := by
  unfold State.hostDown
  repeat' with_reducible first
    | exact Same.refl _
    | apply Same.step (m := 50261877) (by decide) (State.discardFor_same ..)
    | apply Same.step (m := 67104767) (by decide) (State.fwdForget_same ..)
    | apply Same.step (m := 50291061) (by decide) (State.hostLost_same ..)
    | apply Same.step (m := 67108837) (by decide) (State.pathLost_same ..)
    | apply Same.step (m := 67105269) (by decide) (State.removeFn_same ..)
    | apply Same.step (m := 67108855) (by decide) (State.retarget_same ..)
    | apply Same.step (m := 67043317) (by decide) (State.sigHostLost_same ..)
    | apply Same.trans _ (foldl_same _ _ _ (fun _ _ => ?_))
    | apply Same.trans _ (foldl_same1 _ _ _ (fun _ _ => ?_))
    | apply Same.ite
    | apply Same.ite1
    | apply Same.ite2
    | extract_lets
    | split
    | dsimp -zeta only
    | dsimp +zetaDelta only

theorem State.clearMasks_same (s : State) (init : Nat) :
    Same 67108861 s (State.clearMasks s init) := by
  unfold State.clearMasks
  repeat' with_reducible first
    | exact Same.refl _
    | apply Same.step (m := 67108861) (by decide) (set_same ..)
    | apply Same.trans _ (foldl_same _ _ _ (fun _ _ => ?_))
    | apply Same.trans _ (foldl_same1 _ _ _ (fun _ _ => ?_))
    | apply Same.ite
    | apply Same.ite1
    | apply Same.ite2
    | extract_lets
    | split
    | dsimp -zeta only
    | dsimp +zetaDelta only

theorem State.bind_same (s : State) (h : Nat) (seq : Nat) (host : Nat) (d : Nat) (src : Nat) (id : Nat) (base : Nat) (size : Nat) (dev : Nat) :
    Same 67102709 s (State.bind s h seq host d src id base size dev) := by
  unfold State.bind
  repeat' with_reducible first
    | exact Same.refl _
    | apply Same.step (m := 67108861) (by decide) (clearMasks_same ..)
    | apply Same.step (m := 67106815) (by decide) (setFn_same ..)
    | apply Same.step (m := 67104765) (by decide) (exitLink_same ..)
    | apply Same.step (m := 67108861) (by decide) (sets_same ..)
    | apply Same.step (m := 67108861) (by decide) (set_same ..)
    | apply Same.step (m := 67108855) (by decide) (complete_same ..)
    | apply Same.step (m := 67108855) (by decide) (emit_same ..)
    | apply Same.step (m := 67106805) (by decide) (setVdsp_same ..)
    | apply Same.ite
    | apply Same.ite1
    | apply Same.ite2
    | extract_lets
    | split
    | dsimp -zeta only
    | dsimp +zetaDelta only

theorem State.bindNow_same (s : State) (b : BindReq) :
    Same 67102709 s (State.bindNow s b) := by
  unfold State.bindNow
  repeat' with_reducible first
    | exact Same.refl _
    | apply Same.step (m := 67102709) (by decide) (State.bind_same ..)
    | apply Same.step (m := 67108855) (by decide) (State.complete_same ..)
    | apply Same.ite
    | apply Same.ite1
    | apply Same.ite2
    | extract_lets
    | split
    | dsimp -zeta only
    | dsimp +zetaDelta only

theorem State.bindsGo_same (s : State) (host : Nat) :
    Same 67102709 s (State.bindsGo s host) := by
  unfold State.bindsGo
  repeat' with_reducible first
    | exact Same.refl _
    | apply Same.step (m := 67102709) (by decide) (State.bindNow_same ..)
    | apply Same.step (m := 67106815) (by decide) (State.mapPort_same ..)
    | apply Same.trans _ (foldl_same _ _ _ (fun _ _ => ?_))
    | apply Same.trans _ (foldl_same1 _ _ _ (fun _ _ => ?_))
    | apply Same.ite
    | apply Same.ite1
    | apply Same.ite2
    | extract_lets
    | split
    | dsimp -zeta only
    | dsimp +zetaDelta only

theorem State.hpDown_same (s : State) (h : Nat) :
    Same 49701221 s (State.hpDown s h) := by
  unfold State.hpDown
  repeat' with_reducible first
    | exact Same.refl _
    | apply Same.step (m := 67102709) (by decide) (State.bindsGo_same ..)
    | apply Same.step (m := 67104767) (by decide) (State.fwdForget_same ..)
    | apply Same.step (m := 50225509) (by decide) (State.hostDown_same ..)
    | apply Same.step (m := 66584575) (by decide) (State.ideForget_same ..)
    | apply Same.step (m := 50327549) (by decide) (State.lanesDown_same ..)
    | apply Same.step (m := 67104765) (by decide) (State.lowEnd_same ..)
    | apply Same.step (m := 67108837) (by decide) (State.pathLost_same ..)
    | apply Same.step (m := 67108855) (by decide) (State.raise_same ..)
    | apply Same.step (m := 67108861) (by decide) (State.sat_same ..)
    | apply Same.step (m := 67108861) (by decide) (State.sets_same ..)
    | apply Same.step (m := 67106815) (by decide) (State.trained_same ..)
    | apply Same.ite
    | apply Same.ite1
    | apply Same.ite2
    | extract_lets
    | split
    | dsimp -zeta only
    | dsimp +zetaDelta only

theorem State.setPartner_same (s : State) (p : Nat) (caps : LinkCaps) :
    Same 67106815 s (State.setPartner s p caps) := by
  unfold State.setPartner
  repeat' with_reducible first
    | exact Same.refl _
    | apply Same.step (m := 67106815) (by decide) (State.mapPort_same ..)
    | apply Same.ite
    | apply Same.ite1
    | apply Same.ite2
    | extract_lets
    | split
    | dsimp -zeta only
    | dsimp +zetaDelta only

theorem State.linkTake_same (s : State) (p : Nat) :
    Same 67108859 s (State.linkTake s p) := by
  unfold State.linkTake
  repeat' with_reducible first
    | exact Same.refl _
    | apply Same.step (m := 67108859) (by decide) (State.lanesTake_same ..)
    | apply Same.step (m := 67108859) (by decide) (State.takeUp_same ..)
    | apply Same.ite
    | apply Same.ite1
    | apply Same.ite2
    | extract_lets
    | split
    | dsimp -zeta only
    | dsimp +zetaDelta only

theorem State.trainedAs_same (s : State) (p : Nat) :
    Same 67106811 s (State.trainedAs s p) := by
  unfold State.trainedAs
  repeat' with_reducible first
    | exact Same.refl _
    | apply Same.step (m := 67108859) (by decide) (State.linkTake_same ..)
    | apply Same.step (m := 67106815) (by decide) (State.trained_same ..)
    | apply Same.ite
    | apply Same.ite1
    | apply Same.ite2
    | extract_lets
    | split
    | dsimp -zeta only
    | dsimp +zetaDelta only

theorem State.sourceDown_same (s : State) (port : Nat) :
    Same 67105269 s (State.sourceDown s port) := by
  unfold State.sourceDown
  repeat' with_reducible first
    | exact Same.refl _
    | apply Same.step (m := 67105269) (by decide) (removeFn_same ..)
    | apply Same.step (m := 67106815) (by decide) (mapPort_same ..)
    | apply Same.trans _ (foldl_same _ _ _ (fun _ _ => ?_))
    | apply Same.trans _ (foldl_same1 _ _ _ (fun _ _ => ?_))
    | apply Same.ite
    | apply Same.ite1
    | apply Same.ite2
    | extract_lets
    | split
    | dsimp -zeta only
    | dsimp +zetaDelta only

theorem State.mpLose_same (s : State) (m : Nat) (reason : Nat) :
    Same 50225525 s (State.mpLose s m reason) := by
  unfold State.mpLose
  repeat' with_reducible first
    | exact Same.refl _
    | apply Same.step (m := 50261877) (by decide) (State.discardFor_same ..)
    | apply Same.step (m := 50292085) (by decide) (State.expanderLost_same ..)
    | apply Same.step (m := 67108861) (by decide) (State.set_same ..)
    | apply Same.step (m := 67105269) (by decide) (State.sourceDown_same ..)
    | apply Same.ite
    | apply Same.ite1
    | apply Same.ite2
    | extract_lets
    | split
    | dsimp -zeta only
    | dsimp +zetaDelta only

theorem State.mpDown_same (s : State) (m : Nat) :
    Same 49701237 s (State.mpDown s m) := by
  unfold State.mpDown
  repeat' with_reducible first
    | exact Same.refl _
    | apply Same.step (m := 66584575) (by decide) (State.ideForget_same ..)
    | apply Same.step (m := 50327549) (by decide) (State.lanesDown_same ..)
    | apply Same.step (m := 67104765) (by decide) (State.lowEnd_same ..)
    | apply Same.step (m := 50225525) (by decide) (State.mpLose_same ..)
    | apply Same.step (m := 67108855) (by decide) (State.raise_same ..)
    | apply Same.step (m := 67108861) (by decide) (State.sat_same ..)
    | apply Same.step (m := 67108861) (by decide) (State.sets_same ..)
    | apply Same.step (m := 67106815) (by decide) (State.trained_same ..)
    | apply Same.ite
    | apply Same.ite1
    | apply Same.ite2
    | extract_lets
    | split
    | dsimp -zeta only
    | dsimp +zetaDelta only

theorem State.mpJoin_same (s : State) (m : Nat) (rate : Nat) (width : Nat) (caps : LinkCaps) (mode : Nat) :
    Same 50225525 s (State.mpJoin s m rate width caps mode) := by
  unfold State.mpJoin
  repeat' with_reducible first
    | exact Same.refl _
    | apply Same.step (m := 67108855) (by decide) (State.emit_same ..)
    | apply Same.step (m := 50331645) (by decide) (State.lanesUp_same ..)
    | apply Same.step (m := 50225525) (by decide) (State.mpLose_same ..)
    | apply Same.step (m := 67108855) (by decide) (State.raise_same ..)
    | apply Same.step (m := 67106815) (by decide) (State.setPartner_same ..)
    | apply Same.step (m := 67108861) (by decide) (State.sets_same ..)
    | apply Same.ite
    | apply Same.ite1
    | apply Same.ite2
    | extract_lets
    | split
    | dsimp -zeta only
    | dsimp +zetaDelta only

theorem State.beginTrain_same (s : State) (p : Nat) :
    Same 67106803 s (State.beginTrain s p) := by
  unfold State.beginTrain
  repeat' with_reducible first
    | exact Same.refl _
    | apply Same.step (m := 67108855) (by decide) (State.emit_same ..)
    | apply Same.step (m := 67108859) (by decide) (State.linkTake_same ..)
    | apply Same.step (m := 67106815) (by decide) (State.mapPort_same ..)
    | apply Same.ite
    | apply Same.ite1
    | apply Same.ite2
    | extract_lets
    | split
    | dsimp -zeta only
    | dsimp +zetaDelta only

theorem State.retrainPort_same (s : State) (p : Nat) :
    Same 66844659 s (State.retrainPort s p) := by
  unfold State.retrainPort
  repeat' with_reducible first
    | exact Same.refl _
    | apply Same.step (m := 67106803) (by decide) (State.beginTrain_same ..)
    | apply Same.step (m := 66846719) (by decide) (State.mapPwr_same ..)
    | apply Same.ite
    | apply Same.ite1
    | apply Same.ite2
    | extract_lets
    | split
    | dsimp -zeta only
    | dsimp +zetaDelta only

theorem State.hpCtrl_same (s : State) (s0 : State) (h : Nat) (v : Nat) :
    Same 49963361 s (State.hpCtrl s s0 h v) := by
  unfold State.hpCtrl
  repeat' with_reducible first
    | exact Same.refl _
    | apply Same.step (m := 66844659) (by decide) (retrainPort_same ..)
    | apply Same.step (m := 50327541) (by decide) (selectState_same ..)
    | apply Same.step (m := 67108855) (by decide) (retarget_same ..)
    | apply Same.step (m := 50225509) (by decide) (hostDown_same ..)
    | apply Same.ite
    | apply Same.ite1
    | apply Same.ite2
    | extract_lets
    | split
    | dsimp -zeta only
    | dsimp +zetaDelta only

theorem State.ltr_same (s : State) (p : Nat) (v : Nat) (changed : Bool) :
    Same 50327541 s (State.ltr s p v changed) := by
  unfold State.ltr
  repeat' with_reducible first
    | exact Same.refl _
    | apply Same.step (m := 67108855) (by decide) (raiseIf_same ..)
    | apply Same.step (m := 50327541) (by decide) (selectState_same ..)
    | apply Same.step (m := 67108861) (by decide) (set_same ..)
    | apply Same.ite
    | apply Same.ite1
    | apply Same.ite2
    | extract_lets
    | split
    | dsimp -zeta only
    | dsimp +zetaDelta only

theorem State.mpCtrl_same (s : State) (m : Nat) (v : Nat) :
    Same 50063345 s (State.mpCtrl s m v) := by
  unfold State.mpCtrl
  repeat' with_reducible first
    | exact Same.refl _
    | apply Same.step (m := 66844659) (by decide) (retrainPort_same ..)
    | apply Same.step (m := 50327541) (by decide) (selectState_same ..)
    | apply Same.ite
    | apply Same.ite1
    | apply Same.ite2
    | extract_lets
    | split
    | dsimp -zeta only
    | dsimp +zetaDelta only

theorem State.portFx_same (s : State) (s0 : State) (x : Wr) :
    Same 49963361 s (State.portFx s s0 x) := by
  unfold State.portFx
  repeat' with_reducible first
    | exact Same.refl _
    | apply Same.step (m := 49963361) (by decide) (hpCtrl_same ..)
    | apply Same.step (m := 50327541) (by decide) (ltr_same ..)
    | apply Same.step (m := 50063345) (by decide) (mpCtrl_same ..)
    | apply Same.ite
    | apply Same.ite1
    | apply Same.ite2
    | extract_lets
    | split
    | dsimp -zeta only
    | dsimp +zetaDelta only

theorem State.bindStart_same (s : State) (b : BindReq) :
    Same 67102709 s (State.bindStart s b) := by
  unfold State.bindStart
  repeat' with_reducible first
    | exact Same.refl _
    | apply Same.step (m := 67102709) (by decide) (State.bindNow_same ..)
    | apply Same.step (m := 67104765) (by decide) (State.exitLink_same ..)
    | apply Same.step (m := 67106815) (by decide) (State.mapPort_same ..)
    | apply Same.ite
    | apply Same.ite1
    | apply Same.ite2
    | extract_lets
    | split
    | dsimp -zeta only
    | dsimp +zetaDelta only

theorem State.countFences_same (s : State) (h : Nat) :
    Same 67108861 s (State.countFences s h) := by
  unfold State.countFences
  repeat' with_reducible first
    | exact Same.refl _
    | apply Same.step (m := 67108861) (by decide) (set_same ..)
    | apply Same.ite
    | apply Same.ite1
    | apply Same.ite2
    | extract_lets
    | split
    | dsimp -zeta only
    | dsimp +zetaDelta only

theorem State.fenceDone_same (s : State) (f : Fence) :
    Same 67106805 s (State.fenceDone s f) := by
  unfold State.fenceDone
  repeat' with_reducible first
    | exact Same.refl _
    | apply Same.step (m := 67108855) (by decide) (complete_same ..)
    | apply Same.step (m := 67108861) (by decide) (countFences_same ..)
    | apply Same.step (m := 67106815) (by decide) (mapPort_same ..)
    | apply Same.ite
    | apply Same.ite1
    | apply Same.ite2
    | extract_lets
    | split
    | dsimp -zeta only
    | dsimp +zetaDelta only

theorem State.toPool_same (s : State) (at_ : Option Nat) (acc : Nat → Access) (on : Out) :
    Same 50291061 s (State.toPool s at_ acc on) := by
  unfold State.toPool
  repeat' with_reducible first
    | exact Same.refl _
    | apply Same.step (m := 50291061) (by decide) (present?_same ..)
    | apply Same.step (m := 67108855) (by decide) (emit_same ..)
    | apply Same.ite
    | apply Same.ite1
    | apply Same.ite2
    | extract_lets
    | split
    | dsimp -zeta only
    | dsimp +zetaDelta only

theorem State.fnAtomic_same (s : State) (x : Nat) (h : Nat) (d : Nat) (tag : Nat) (addr : Nat) (op : AtomicOp) :
    Same 50028917 s (State.fnAtomic s x h d tag addr op) := by
  unfold State.fnAtomic
  repeat' with_reducible first
    | exact Same.refl _
    | apply Same.step (m := 67108861) (by decide) (State.cellsIn_same ..)
    | apply Same.step (m := 66846709) (by decide) (State.shutOut_same ..)
    | apply Same.step (m := 50291061) (by decide) (State.toPool_same ..)
    | apply Same.ite
    | apply Same.ite1
    | apply Same.ite2
    | extract_lets
    | split
    | dsimp -zeta only
    | dsimp +zetaDelta only

theorem State.toFn_same (s : State) (h : Nat) (d : Nat) (posted : Bool) (w : TlpSpan) :
    Same 50327413 s (State.toFn s h d posted w) := by
  unfold State.toFn
  repeat' with_reducible first
    | exact Same.refl _
    | apply Same.step (m := 67108861) (by decide) (State.cellsIn_same ..)
    | apply Same.step (m := 50327413) (by decide) (State.cellsOut_same ..)
    | apply Same.step (m := 67108855) (by decide) (State.emit_same ..)
    | apply Same.ite
    | apply Same.ite1
    | apply Same.ite2
    | extract_lets
    | split
    | dsimp -zeta only
    | dsimp +zetaDelta only

theorem State.fnReq_same (s : State) (h : Nat) (d : Nat) (tag : Nat) (posted : Bool) (st : FnReq) :
    Same 50063221 s (State.fnReq s h d tag posted st) := by
  unfold State.fnReq
  repeat' with_reducible first
    | exact Same.refl _
    | apply Same.step (m := 67106815) (by decide) (State.mapPort_same ..)
    | apply Same.step (m := 66846709) (by decide) (State.shutOut_same ..)
    | apply Same.step (m := 67106813) (by decide) (State.takeSeq_same ..)
    | apply Same.step (m := 50327413) (by decide) (State.toFn_same ..)
    | apply Same.step (m := 67106815) (by decide) (State.trackDone_same ..)
    | apply Same.ite
    | apply Same.ite1
    | apply Same.ite2
    | extract_lets
    | split
    | dsimp -zeta only
    | dsimp +zetaDelta only

theorem State.ptmAnswer_same (s : State) (port : Nat) (id : Nat) (off : Nat) :
    Same 67108855 s (State.ptmAnswer s port id off) := by
  unfold State.ptmAnswer
  repeat' with_reducible first
    | exact Same.refl _
    | apply Same.step (m := 67108855) (by decide) (State.emit_same ..)
    | apply Same.ite
    | apply Same.ite1
    | apply Same.ite2
    | extract_lets
    | split
    | dsimp -zeta only
    | dsimp +zetaDelta only

theorem State.fnRead_same (s : State) (x : Nat) (h : Nat) (d : Nat) (tag : Nat) (addr : Nat) (len : Nat) :
    Same 50028917 s (State.fnRead s x h d tag addr len) := by
  unfold State.fnRead
  repeat' with_reducible first
    | exact Same.refl _
    | apply Same.step (m := 67108861) (by decide) (State.cellsIn_same ..)
    | apply Same.step (m := 66846709) (by decide) (State.shutOut_same ..)
    | apply Same.step (m := 50291061) (by decide) (State.toPool_same ..)
    | apply Same.ite
    | apply Same.ite1
    | apply Same.ite2
    | extract_lets
    | split
    | dsimp -zeta only
    | dsimp +zetaDelta only

theorem State.fnWrite_same (s : State) (x : Nat) (h : Nat) (d : Nat) (addr : Nat) (data : List (BitVec 8)) :
    Same 50028917 s (State.fnWrite s x h d addr data) := by
  unfold State.fnWrite
  repeat' with_reducible first
    | exact Same.refl _
    | apply Same.step (m := 67108861) (by decide) (State.cellsIn_same ..)
    | apply Same.step (m := 66846709) (by decide) (State.shutOut_same ..)
    | apply Same.step (m := 67106813) (by decide) (State.takeSeq_same ..)
    | apply Same.step (m := 50291061) (by decide) (State.toPool_same ..)
    | apply Same.ite
    | apply Same.ite1
    | apply Same.ite2
    | extract_lets
    | split
    | dsimp -zeta only
    | dsimp +zetaDelta only

theorem State.foundFn_same (s : State) (port : Nat) (id : Nat) (vendor : Nat) (device : Nat) (cls : Nat) :
    Same 67106807 s (State.foundFn s port id vendor device cls) := by
  unfold State.foundFn
  repeat' with_reducible first
    | exact Same.refl _
    | apply Same.step (m := 67108855) (by decide) (fmRec_same ..)
    | apply Same.step (m := 67106815) (by decide) (mapPort_same ..)
    | apply Same.ite
    | apply Same.ite1
    | apply Same.ite2
    | extract_lets
    | split
    | dsimp -zeta only
    | dsimp +zetaDelta only

theorem State.hpUp_same (s : State) (h : Nat) (rate : Nat) (width : Nat) (caps : LinkCaps) :
    Same 50329585 s (State.hpUp s h rate width caps) := by
  unfold State.hpUp
  repeat' with_reducible first
    | exact Same.refl _
    | apply Same.step (m := 67108855) (by decide) (State.emit_same ..)
    | apply Same.step (m := 50331645) (by decide) (State.lanesUp_same ..)
    | apply Same.step (m := 67108855) (by decide) (State.raise_same ..)
    | apply Same.step (m := 67108855) (by decide) (State.readPosted_same ..)
    | apply Same.step (m := 67108855) (by decide) (State.retarget_same ..)
    | apply Same.step (m := 67106815) (by decide) (State.setPartner_same ..)
    | apply Same.step (m := 67108861) (by decide) (State.sets_same ..)
    | apply Same.step (m := 67106811) (by decide) (State.trainedAs_same ..)
    | apply Same.ite
    | apply Same.ite1
    | apply Same.ite2
    | extract_lets
    | split
    | dsimp -zeta only
    | dsimp +zetaDelta only

theorem State.mpUp_same (s : State) (m : Nat) (rate : Nat) (width : Nat) (caps : LinkCaps) (dev : MpDevice) :
    Same 49701233 s (State.mpUp s m rate width caps dev) := by
  unfold State.mpUp
  repeat' with_reducible first
    | exact Same.refl _
    | apply Same.step (m := 67108855) (by decide) (State.emit_same ..)
    | apply Same.step (m := 67106807) (by decide) (State.foundFn_same ..)
    | apply Same.step (m := 49701237) (by decide) (State.mpDown_same ..)
    | apply Same.step (m := 50225525) (by decide) (State.mpJoin_same ..)
    | apply Same.step (m := 67108855) (by decide) (State.raise_same ..)
    | apply Same.step (m := 67108861) (by decide) (State.set_same ..)
    | apply Same.step (m := 67106811) (by decide) (State.trainedAs_same ..)
    | apply Same.trans _ (foldl_same _ _ _ (fun _ _ => ?_))
    | apply Same.trans _ (foldl_same1 _ _ _ (fun _ _ => ?_))
    | apply Same.ite
    | apply Same.ite1
    | apply Same.ite2
    | extract_lets
    | split
    | dsimp -zeta only
    | dsimp +zetaDelta only

theorem State.unbind_same (s : State) (h : Nat) (seq : Nat) (host : Nat) (vdsp : Nat) (slot : Nat) (gen : Nat) (force : Bool) :
    Same 67105269 s (State.unbind s h seq host vdsp slot gen force) := by
  unfold State.unbind
  repeat' with_reducible first
    | exact Same.refl _
    | apply Same.step (m := 67108855) (by decide) (complete_same ..)
    | apply Same.step (m := 67108853) (by decide) (stale_same ..)
    | apply Same.step (m := 67106815) (by decide) (mapPort_same ..)
    | apply Same.step (m := 67105269) (by decide) (removeFn_same ..)
    | apply Same.step (m := 67108855) (by decide) (emit_same ..)
    | apply Same.step (m := 67106805) (by decide) (setVdsp_same ..)
    | apply Same.ite
    | apply Same.ite1
    | apply Same.ite2
    | extract_lets
    | split
    | dsimp -zeta only
    | dsimp +zetaDelta only

theorem State.writeFence_same (s : State) (h : Nat) (seq : Nat) (init : Nat) (target : Nat) :
    Same 67106805 s (State.writeFence s h seq init target) := by
  unfold State.writeFence
  repeat' with_reducible first
    | exact Same.refl _
    | apply Same.step (m := 67108855) (by decide) (complete_same ..)
    | apply Same.step (m := 67106815) (by decide) (mapPort_same ..)
    | apply Same.step (m := 67108861) (by decide) (countFences_same ..)
    | apply Same.step (m := 67106805) (by decide) (fenceDone_same ..)
    | apply Same.ite
    | apply Same.ite1
    | apply Same.ite2
    | extract_lets
    | split
    | dsimp -zeta only
    | dsimp +zetaDelta only

end Sys2Proof.Machine
end

