-- ==== Sys2Proof/Laws/FrameLink.lean ====
section
/-! SUPPORT. What each operation of Machine/Link.lean may change: every other part of State stays as it is. -/

set_option linter.all false

namespace Sys2Proof.Machine

theorem State.setDir_same (s : State) (n : Nat) (rx : Bool) (d : PrismDir) :
    Same 67104767 s (State.setDir s n rx d) := by
  unfold State.setDir
  repeat' with_reducible first
    | exact Same.refl _
    | apply Same.step (m := 67104767) (by decide) (State.mapLk_same ..)
    | apply Same.ite
    | apply Same.ite1
    | apply Same.ite2
    | extract_lets
    | split
    | dsimp -zeta only
    | dsimp +zetaDelta only

theorem State.allotChanged_same (s : State) (n : Nat) (rx : Bool) :
    Same 67104767 s (State.allotChanged s n rx) := by
  unfold State.allotChanged
  repeat' with_reducible first
    | exact Same.refl _
    | apply Same.step (m := 67104767) (by decide) (setDir_same ..)
    | apply Same.ite
    | apply Same.ite1
    | apply Same.ite2
    | extract_lets
    | split
    | dsimp -zeta only
    | dsimp +zetaDelta only

theorem State.sendSegs_same (s : State) (n : Nat) (cls : Nat) (chan : Nat) (b : List (BitVec 8)) (som : Bool) (eom : Bool) (express : Bool) (msg : Option Nat) :
    Same 67104767 s (State.sendSegs s n cls chan b som eom express msg) := by
  unfold State.sendSegs
  repeat' with_reducible first
    | exact Same.refl _
    | apply Same.step (m := 67104767) (by decide) (State.enqueue_same ..)
    | apply Same.trans _ (foldl_same _ _ _ (fun _ _ => ?_))
    | apply Same.trans _ (foldl_same1 _ _ _ (fun _ _ => ?_))
    | apply Same.ite
    | apply Same.ite1
    | apply Same.ite2
    | extract_lets
    | split
    | dsimp -zeta only
    | dsimp +zetaDelta only

theorem State.sendMgmt_same (s : State) (n : Nat) (code : Nat) (payload : List (BitVec 8)) :
    Same 67104765 s (State.sendMgmt s n code payload) := by
  unfold State.sendMgmt
  repeat' with_reducible first
    | exact Same.refl _
    | apply Same.step (m := 67104767) (by decide) (sendSegs_same ..)
    | apply Same.ite
    | apply Same.ite1
    | apply Same.ite2
    | extract_lets
    | split
    | dsimp -zeta only
    | dsimp +zetaDelta only

theorem State.queueAllot_same (s : State) (n : Nat) (rx : Bool) (a : Allot) :
    Same 67104767 s (State.queueAllot s n rx a) := by
  unfold State.queueAllot
  repeat' with_reducible first
    | exact Same.refl _
    | apply Same.step (m := 67104767) (by decide) (State.enqueue_same ..)
    | apply Same.step (m := 67104767) (by decide) (State.setDir_same ..)
    | apply Same.ite
    | apply Same.ite1
    | apply Same.ite2
    | extract_lets
    | split
    | dsimp -zeta only
    | dsimp +zetaDelta only

theorem State.sendAllot_same (s : State) (n : Nat) (rx : Bool) :
    Same 67104767 s (State.sendAllot s n rx) := by
  unfold State.sendAllot
  repeat' with_reducible first
    | exact Same.refl _
    | apply Same.step (m := 67104767) (by decide) (State.queueAllot_same ..)
    | apply Same.ite
    | apply Same.ite1
    | apply Same.ite2
    | extract_lets
    | split
    | dsimp -zeta only
    | dsimp +zetaDelta only

theorem State.allotGoes_same (s : State) (n : Nat) (rx : Bool) (num : Nat) :
    Same 67104765 s (State.allotGoes s n rx num).1 := by
  unfold State.allotGoes
  repeat' with_reducible first
    | exact Same.refl _
    | apply Same.step (m := 67108861) (by decide) (State.set_same ..)
    | apply Same.step (m := 67104767) (by decide) (State.setDir_same ..)
    | apply Same.ite
    | apply Same.ite1
    | apply Same.ite2
    | extract_lets
    | split
    | dsimp -zeta only
    | dsimp +zetaDelta only

theorem State.allotLate_same (s : State) (n : Nat) (rx : Bool) (a : Allot) :
    Same 67104757 s (State.allotLate s n rx a) := by
  unfold State.allotLate
  repeat' with_reducible first
    | exact Same.refl _
    | apply Same.step (m := 67104767) (by decide) (State.queueAllot_same ..)
    | apply Same.step (m := 67108855) (by decide) (State.raise_same ..)
    | apply Same.step (m := 67108861) (by decide) (State.sat_same ..)
    | apply Same.ite
    | apply Same.ite1
    | apply Same.ite2
    | extract_lets
    | split
    | dsimp -zeta only
    | dsimp +zetaDelta only

theorem State.prismReset_same (s : State) (n : Nat) :
    Same 67104765 s (State.prismReset s n) := by
  unfold State.prismReset
  repeat' with_reducible first
    | exact Same.refl _
    | apply Same.step (m := 67104767) (by decide) (State.setLk_same ..)
    | apply Same.step (m := 67108861) (by decide) (State.sets_same ..)
    | apply Same.ite
    | apply Same.ite1
    | apply Same.ite2
    | extract_lets
    | split
    | dsimp -zeta only
    | dsimp +zetaDelta only

theorem State.lossCount_same (s : State) (n : Nat) (eth : Nat) (sgl : Nat) :
    Same 67108861 s (State.lossCount s n eth sgl) := by
  unfold State.lossCount
  repeat' with_reducible first
    | exact Same.refl _
    | apply Same.step (m := 67108861) (by decide) (sat_same ..)
    | apply Same.ite
    | apply Same.ite1
    | apply Same.ite2
    | extract_lets
    | split
    | dsimp -zeta only
    | dsimp +zetaDelta only

theorem State.chMask_same (s : State) (n : Nat) (w : Nat) (on : Bool) :
    Same 67108861 s (State.chMask s n w on) := by
  unfold State.chMask
  repeat' with_reducible first
    | exact Same.refl _
    | apply Same.step (m := 67108861) (by decide) (set_same ..)
    | apply Same.ite
    | apply Same.ite1
    | apply Same.ite2
    | extract_lets
    | split
    | dsimp -zeta only
    | dsimp +zetaDelta only

theorem State.forget_same (s : State) (port : Nat) (id : Nat) :
    Same 67106815 s (State.forget s port id) := by
  unfold State.forget
  repeat' with_reducible first
    | exact Same.refl _
    | apply Same.step (m := 67106815) (by decide) (mapPort_same ..)
    | apply Same.ite
    | apply Same.ite1
    | apply Same.ite2
    | extract_lets
    | split
    | dsimp -zeta only
    | dsimp +zetaDelta only

theorem State.removeSrc_same (s : State) (port : Nat) (id : Nat) :
    Same 67105269 s (State.removeSrc s port id) := by
  unfold State.removeSrc
  repeat' with_reducible first
    | exact Same.refl _
    | apply Same.step (m := 67105269) (by decide) (removeFn_same ..)
    | apply Same.step (m := 67106815) (by decide) (forget_same ..)
    | apply Same.trans _ (foldl_same _ _ _ (fun _ _ => ?_))
    | apply Same.trans _ (foldl_same1 _ _ _ (fun _ _ => ?_))
    | apply Same.ite
    | apply Same.ite1
    | apply Same.ite2
    | extract_lets
    | split
    | dsimp -zeta only
    | dsimp +zetaDelta only

theorem State.dispSwitch_same (s : State) (n : Nat) :
    Same 67104757 s (State.dispSwitch s n) := by
  unfold State.dispSwitch
  repeat' with_reducible first
    | exact Same.refl _
    | apply Same.step (m := 67104767) (by decide) (State.mapLk_same ..)
    | apply Same.step (m := 67108855) (by decide) (State.raise_same ..)
    | apply Same.step (m := 67108861) (by decide) (State.sets_same ..)
    | apply Same.ite
    | apply Same.ite1
    | apply Same.ite2
    | extract_lets
    | split
    | dsimp -zeta only
    | dsimp +zetaDelta only

theorem State.chClose_same (s : State) (n : Nat) (w : Nat) :
    Same 50094453 s (State.chClose s n w) := by
  unfold State.chClose
  repeat' with_reducible first
    | exact Same.refl _
    | apply Same.step (m := 67108861) (by decide) (State.chMask_same ..)
    | apply Same.step (m := 50261877) (by decide) (State.discard_same ..)
    | apply Same.step (m := 67104757) (by decide) (State.dispSwitch_same ..)
    | apply Same.step (m := 67104767) (by decide) (State.fwdForget_same ..)
    | apply Same.step (m := 67108861) (by decide) (State.lossCount_same ..)
    | apply Same.step (m := 67104767) (by decide) (State.mapLk_same ..)
    | apply Same.step (m := 67108855) (by decide) (State.raise_same ..)
    | apply Same.step (m := 67105269) (by decide) (State.removeSrc_same ..)
    | apply Same.step (m := 67108861) (by decide) (State.sat_same ..)
    | apply Same.step (m := 67076093) (by decide) (State.scanAbandon_same ..)
    | apply Same.step (m := 67108861) (by decide) (State.set_same ..)
    | apply Same.step (m := 67104767) (by decide) (State.setLk_same ..)
    | apply Same.step (m := 67108735) (by decide) (State.setMsgs_same ..)
    | apply Same.step (m := 66912245) (by decide) (State.sigReturns_same ..)
    | apply Same.trans _ (foldl_same _ _ _ (fun _ _ => ?_))
    | apply Same.trans _ (foldl_same1 _ _ _ (fun _ _ => ?_))
    | apply Same.ite
    | apply Same.ite1
    | apply Same.ite2
    | extract_lets
    | split
    | dsimp -zeta only
    | dsimp +zetaDelta only

theorem State.classesDown_same (s : State) (n : Nat) :
    Same 50094453 s (State.classesDown s n) := by
  unfold State.classesDown
  repeat' with_reducible first
    | exact Same.refl _
    | apply Same.step (m := 50094453) (by decide) (State.chClose_same ..)
    | apply Same.step (m := 67104767) (by decide) (State.fwdForget_same ..)
    | apply Same.step (m := 67108861) (by decide) (State.lossCount_same ..)
    | apply Same.step (m := 67104767) (by decide) (State.mapLk_same ..)
    | apply Same.step (m := 67108855) (by decide) (State.raise_same ..)
    | apply Same.step (m := 67108861) (by decide) (State.sat_same ..)
    | apply Same.step (m := 67108861) (by decide) (State.set_same ..)
    | apply Same.step (m := 66912245) (by decide) (State.sigReturns_same ..)
    | apply Same.step (m := 67105269) (by decide) (State.sourceDown_same ..)
    | apply Same.trans _ (foldl_same _ _ _ (fun _ _ => ?_))
    | apply Same.trans _ (foldl_same1 _ _ _ (fun _ _ => ?_))
    | apply Same.ite
    | apply Same.ite1
    | apply Same.ite2
    | extract_lets
    | split
    | dsimp -zeta only
    | dsimp +zetaDelta only

theorem State.lkDown_same (s : State) (n : Nat) (cause : Nat) :
    Same 50094453 s (State.lkDown s n cause) := by
  unfold State.lkDown
  repeat' with_reducible first
    | exact Same.refl _
    | apply Same.step (m := 50094453) (by decide) (State.classesDown_same ..)
    | apply Same.step (m := 50261877) (by decide) (State.discardFor_same ..)
    | apply Same.step (m := 67108855) (by decide) (State.emit_same ..)
    | apply Same.step (m := 50327549) (by decide) (State.lanesDown_same ..)
    | apply Same.step (m := 67104765) (by decide) (State.lowEnd_same ..)
    | apply Same.step (m := 67104767) (by decide) (State.mapLk_same ..)
    | apply Same.step (m := 67104765) (by decide) (State.prismReset_same ..)
    | apply Same.step (m := 67108855) (by decide) (State.raise_same ..)
    | apply Same.step (m := 67108861) (by decide) (State.sat_same ..)
    | apply Same.step (m := 67108861) (by decide) (State.sets_same ..)
    | apply Same.step (m := 67043317) (by decide) (State.sigLinkDown_same ..)
    | apply Same.step (m := 66912245) (by decide) (State.sigReturns_same ..)
    | apply Same.ite
    | apply Same.ite1
    | apply Same.ite2
    | extract_lets
    | split
    | dsimp -zeta only
    | dsimp +zetaDelta only

theorem State.portDown_same (s : State) (p : Nat) :
    Same 49570149 s (State.portDown s p) := by
  unfold State.portDown
  repeat' with_reducible first
    | exact Same.refl _
    | apply Same.step (m := 49701221) (by decide) (hpDown_same ..)
    | apply Same.step (m := 49701237) (by decide) (mpDown_same ..)
    | apply Same.step (m := 50331647) (by decide) (fresh_same ..)
    | apply Same.step (m := 50094453) (by decide) (lkDown_same ..)
    | apply Same.ite
    | apply Same.ite1
    | apply Same.ite2
    | extract_lets
    | split
    | dsimp -zeta only
    | dsimp +zetaDelta only

theorem State.dockTake_same (s : State) (n : Nat) :
    Same 67108859 s (State.dockTake s n) := by
  unfold State.dockTake
  repeat' with_reducible first
    | exact Same.refl _
    | apply Same.step (m := 67108859) (by decide) (State.lanesTake_same ..)
    | apply Same.step (m := 67108859) (by decide) (State.takeUp_same ..)
    | apply Same.ite
    | apply Same.ite1
    | apply Same.ite2
    | extract_lets
    | split
    | dsimp -zeta only
    | dsimp +zetaDelta only

theorem State.laneFresh_same (s : State) (n : Nat) (l : Nat) :
    Same 67108861 s (State.laneFresh s n l) := by
  unfold State.laneFresh
  repeat' with_reducible first
    | exact Same.refl _
    | apply Same.step (m := 67108861) (by decide) (sets_same ..)
    | apply Same.ite
    | apply Same.ite1
    | apply Same.ite2
    | extract_lets
    | split
    | dsimp -zeta only
    | dsimp +zetaDelta only

theorem State.hearAt_same (s : State) (n : Nat) (rate : Nat) (stage : Nat) :
    Same 67104765 s (State.hearAt s n rate stage) := by
  unfold State.hearAt
  repeat' with_reducible first
    | exact Same.refl _
    | apply Same.step (m := 67108861) (by decide) (State.laneFresh_same ..)
    | apply Same.step (m := 67104767) (by decide) (State.mapLk_same ..)
    | apply Same.step (m := 67108861) (by decide) (State.sets_same ..)
    | apply Same.ite
    | apply Same.ite1
    | apply Same.ite2
    | extract_lets
    | split
    | dsimp -zeta only
    | dsimp +zetaDelta only

theorem State.trainAt_same (s : State) (n : Nat) (rate : Nat) (mask : Nat) (stage : Nat) (retrain : Option (Nat × Nat)) :
    Same 67104757 s (State.trainAt s n rate mask stage retrain) := by
  unfold State.trainAt
  repeat' with_reducible first
    | exact Same.refl _
    | apply Same.step (m := 67108855) (by decide) (State.dockSends_same ..)
    | apply Same.step (m := 67104765) (by decide) (State.hearAt_same ..)
    | apply Same.step (m := 67104767) (by decide) (State.setLk_same ..)
    | apply Same.ite
    | apply Same.ite1
    | apply Same.ite2
    | extract_lets
    | split
    | dsimp -zeta only
    | dsimp +zetaDelta only

theorem State.bringAnew_same (s : State) (n : Nat) :
    Same 67104753 s (State.bringAnew s n) := by
  unfold State.bringAnew
  repeat' with_reducible first
    | exact Same.refl _
    | apply Same.step (m := 67108859) (by decide) (State.dockTake_same ..)
    | apply Same.step (m := 67108861) (by decide) (State.ffe_same ..)
    | apply Same.step (m := 67104767) (by decide) (State.mapLk_same ..)
    | apply Same.step (m := 67108855) (by decide) (State.raise_same ..)
    | apply Same.step (m := 67108861) (by decide) (State.sat_same ..)
    | apply Same.step (m := 67108861) (by decide) (State.sets_same ..)
    | apply Same.step (m := 67104757) (by decide) (State.trainAt_same ..)
    | apply Same.ite
    | apply Same.ite1
    | apply Same.ite2
    | extract_lets
    | split
    | dsimp -zeta only
    | dsimp +zetaDelta only

theorem State.bringUp_same (s : State) (n : Nat) :
    Same 67104753 s (State.bringUp s n) := by
  unfold State.bringUp
  repeat' with_reducible first
    | exact Same.refl _
    | apply Same.step (m := 67104753) (by decide) (State.bringAnew_same ..)
    | apply Same.ite
    | apply Same.ite1
    | apply Same.ite2
    | extract_lets
    | split
    | dsimp -zeta only
    | dsimp +zetaDelta only

theorem State.declare_same (s : State) (n : Nat) :
    Same 67104767 s (State.declare s n) := by
  unfold State.declare
  repeat' with_reducible first
    | exact Same.refl _
    | apply Same.step (m := 67104767) (by decide) (State.mapLk_same ..)
    | apply Same.ite
    | apply Same.ite1
    | apply Same.ite2
    | extract_lets
    | split
    | dsimp -zeta only
    | dsimp +zetaDelta only

theorem State.rtStart_same (s : State) (n : Nat) (rate : Nat) (mask : Nat) (reason : Nat) :
    Same 67104757 s (State.rtStart s n rate mask reason) := by
  unfold State.rtStart
  repeat' with_reducible first
    | exact Same.refl _
    | apply Same.step (m := 67104767) (by decide) (State.declare_same ..)
    | apply Same.step (m := 67108855) (by decide) (State.raise_same ..)
    | apply Same.step (m := 67104765) (by decide) (State.sendMgmt_same ..)
    | apply Same.step (m := 67104767) (by decide) (State.setLk_same ..)
    | apply Same.ite
    | apply Same.ite1
    | apply Same.ite2
    | extract_lets
    | split
    | dsimp -zeta only
    | dsimp +zetaDelta only

theorem State.showWait_same (s : State) (n : Nat) :
    Same 67108861 s (State.showWait s n) := by
  unfold State.showWait
  repeat' with_reducible first
    | exact Same.refl _
    | apply Same.step (m := 67108861) (by decide) (set_same ..)
    | apply Same.ite
    | apply Same.ite1
    | apply Same.ite2
    | extract_lets
    | split
    | dsimp -zeta only
    | dsimp +zetaDelta only

theorem State.chOpen_same (s : State) (n : Nat) (w : Nat) :
    Same 67104757 s (State.chOpen s n w) := by
  unfold State.chOpen
  repeat' with_reducible first
    | exact Same.refl _
    | apply Same.step (m := 67108861) (by decide) (State.chMask_same ..)
    | apply Same.step (m := 67108855) (by decide) (State.emit_same ..)
    | apply Same.step (m := 67104767) (by decide) (State.mapLk_same ..)
    | apply Same.step (m := 67108855) (by decide) (State.raise_same ..)
    | apply Same.step (m := 67104765) (by decide) (State.sendMgmt_same ..)
    | apply Same.step (m := 67108861) (by decide) (State.sets_same ..)
    | apply Same.ite
    | apply Same.ite1
    | apply Same.ite2
    | extract_lets
    | split
    | dsimp -zeta only
    | dsimp +zetaDelta only

theorem State.toDock_same (s : State) (c : Cell) :
    Same 66908149 s (State.toDock s c) := by
  unfold State.toDock
  repeat' with_reducible first
    | exact Same.refl _
    | apply Same.step (m := 67104767) (by decide) (State.enqueue_same ..)
    | apply Same.step (m := 67104767) (by decide) (State.sendSegs_same ..)
    | apply Same.step (m := 66912245) (by decide) (State.sigReturn_same ..)
    | apply Same.ite
    | apply Same.ite1
    | apply Same.ite2
    | extract_lets
    | split
    | dsimp -zeta only
    | dsimp +zetaDelta only

theorem State.carryUp_same (s : State) (n : Nat) :
    Same 67104767 s (State.carryUp s n) := by
  unfold State.carryUp
  repeat' with_reducible first
    | exact Same.refl _
    | apply Same.step (m := 67104767) (by decide) (State.mapLk_same ..)
    | apply Same.ite
    | apply Same.ite1
    | apply Same.ite2
    | extract_lets
    | split
    | dsimp -zeta only
    | dsimp +zetaDelta only

theorem State.countExpress_same (s : State) (n : Nat) (x : TxItem) :
    Same 67108853 s (State.countExpress s n x) := by
  unfold State.countExpress
  repeat' with_reducible first
    | exact Same.refl _
    | apply Same.step (m := 67108855) (by decide) (State.raiseIf_same ..)
    | apply Same.step (m := 67108861) (by decide) (State.sat_same ..)
    | apply Same.ite
    | apply Same.ite1
    | apply Same.ite2
    | extract_lets
    | split
    | dsimp -zeta only
    | dsimp +zetaDelta only

theorem State.showMirror_same (s : State) (n : Nat) :
    Same 67108861 s (State.showMirror s n) := by
  unfold State.showMirror
  repeat' with_reducible first
    | exact Same.refl _
    | apply Same.step (m := 67108861) (by decide) (set_same ..)
    | apply Same.ite
    | apply Same.ite1
    | apply Same.ite2
    | extract_lets
    | split
    | dsimp -zeta only
    | dsimp +zetaDelta only

theorem State.flitOut_same (s : State) (n : Nat) (f : Flit) :
    Same 67108855 s (State.flitOut s n f) := by
  unfold State.flitOut
  repeat' with_reducible first
    | exact Same.refl _
    | apply Same.step (m := 67108855) (by decide) (State.emit_same ..)
    | apply Same.trans _ (foldl_same _ _ _ (fun _ _ => ?_))
    | apply Same.trans _ (foldl_same1 _ _ _ (fun _ _ => ?_))
    | apply Same.ite
    | apply Same.ite1
    | apply Same.ite2
    | extract_lets
    | split
    | dsimp -zeta only
    | dsimp +zetaDelta only

theorem State.sendFlit_same (s : State) (n : Nat) (typ : Nat) (seq : Nat) (cls : Nat) (chan : Nat) (body : List (BitVec 8)) :
    Same 67104757 s (State.sendFlit s n typ seq cls chan body) := by
  unfold State.sendFlit
  repeat' with_reducible first
    | exact Same.refl _
    | apply Same.step (m := 67108855) (by decide) (State.flitOut_same ..)
    | apply Same.step (m := 67104767) (by decide) (State.mapLk_same ..)
    | apply Same.step (m := 67108861) (by decide) (State.wrap_same ..)
    | apply Same.ite
    | apply Same.ite1
    | apply Same.ite2
    | extract_lets
    | split
    | dsimp -zeta only
    | dsimp +zetaDelta only

theorem State.sendNew_same (s : State) (n : Nat) (typ : Nat) (cls : Nat) (chan : Nat) (body : List (BitVec 8)) (eom : Bool) (msg : Option Nat) :
    Same 67104757 s (State.sendNew s n typ cls chan body eom msg) := by
  unfold State.sendNew
  repeat' with_reducible first
    | exact Same.refl _
    | apply Same.step (m := 67104767) (by decide) (State.mapLk_same ..)
    | apply Same.step (m := 67104757) (by decide) (State.sendFlit_same ..)
    | apply Same.step (m := 67108861) (by decide) (State.set_same ..)
    | apply Same.step (m := 67108861) (by decide) (State.showMirror_same ..)
    | apply Same.ite
    | apply Same.ite1
    | apply Same.ite2
    | extract_lets
    | split
    | dsimp -zeta only
    | dsimp +zetaDelta only

theorem State.sendItem_same (s : State) (n : Nat) (x : TxItem) :
    Same 67104757 s (State.sendItem s n x) := by
  unfold State.sendItem
  repeat' with_reducible first
    | exact Same.refl _
    | apply Same.step (m := 67104765) (by decide) (State.allotGoes_same ..)
    | apply Same.step (m := 67104757) (by decide) (State.dispSwitch_same ..)
    | apply Same.step (m := 67104767) (by decide) (State.mapLk_same ..)
    | apply Same.step (m := 67108861) (by decide) (State.sat_same ..)
    | apply Same.step (m := 67104757) (by decide) (State.sendNew_same ..)
    | apply Same.step (m := 67108861) (by decide) (State.sub_same ..)
    | apply Same.ite
    | apply Same.ite1
    | apply Same.ite2
    | extract_lets
    | split
    | dsimp -zeta only
    | dsimp +zetaDelta only

theorem State.chFree_same (s : State) (n : Nat) (w : Nat) :
    Same 67104757 s (State.chFree s n w) := by
  unfold State.chFree
  repeat' with_reducible first
    | exact Same.refl _
    | apply Same.step (m := 67104757) (by decide) (State.chOpen_same ..)
    | apply Same.step (m := 67104767) (by decide) (State.mapLk_same ..)
    | apply Same.step (m := 67108861) (by decide) (State.set_same ..)
    | apply Same.ite
    | apply Same.ite1
    | apply Same.ite2
    | extract_lets
    | split
    | dsimp -zeta only
    | dsimp +zetaDelta only

theorem State.chWant_same (s : State) (n : Nat) (w : Nat) :
    Same 67104757 s (State.chWant s n w) := by
  unfold State.chWant
  repeat' with_reducible first
    | exact Same.refl _
    | apply Same.step (m := 67104757) (by decide) (chOpen_same ..)
    | apply Same.ite
    | apply Same.ite1
    | apply Same.ite2
    | extract_lets
    | split
    | dsimp -zeta only
    | dsimp +zetaDelta only

theorem State.protocol_same (s : State) (n : Nat) :
    Same 50094453 s (State.protocol s n) := by
  unfold State.protocol
  repeat' with_reducible first
    | exact Same.refl _
    | apply Same.step (m := 50094453) (by decide) (lkDown_same ..)
    | apply Same.step (m := 67108855) (by decide) (raise_same ..)
    | apply Same.step (m := 67108861) (by decide) (sat_same ..)
    | apply Same.ite
    | apply Same.ite1
    | apply Same.ite2
    | extract_lets
    | split
    | dsimp -zeta only
    | dsimp +zetaDelta only

theorem State.startReplay_same (s : State) (n : Nat) (q : Nat) :
    Same 67104765 s (State.startReplay s n q) := by
  unfold State.startReplay
  repeat' with_reducible first
    | exact Same.refl _
    | apply Same.step (m := 67108861) (by decide) (State.sat_same ..)
    | apply Same.step (m := 67104767) (by decide) (State.setLk_same ..)
    | apply Same.ite
    | apply Same.ite1
    | apply Same.ite2
    | extract_lets
    | split
    | dsimp -zeta only
    | dsimp +zetaDelta only

theorem State.encAgreed_same (s : State) (n : Nat) (theirs : Bool) :
    Same 50094453 s (State.encAgreed s n theirs) := by
  unfold State.encAgreed
  repeat' with_reducible first
    | exact Same.refl _
    | apply Same.step (m := 50094453) (by decide) (State.lkDown_same ..)
    | apply Same.step (m := 67104767) (by decide) (State.mapLk_same ..)
    | apply Same.step (m := 50094453) (by decide) (State.protocol_same ..)
    | apply Same.step (m := 67108861) (by decide) (State.put_same ..)
    | apply Same.ite
    | apply Same.ite1
    | apply Same.ite2
    | extract_lets
    | split
    | dsimp -zeta only
    | dsimp +zetaDelta only

theorem State.showSlots_same (s : State) (n : Nat) (rx : Bool) (m : List Nat) :
    Same 67108861 s (State.showSlots s n rx m) := by
  unfold State.showSlots
  repeat' with_reducible first
    | exact Same.refl _
    | apply Same.step (m := 67108861) (by decide) (sets_same ..)
    | apply Same.ite
    | apply Same.ite1
    | apply Same.ite2
    | extract_lets
    | split
    | dsimp -zeta only
    | dsimp +zetaDelta only

theorem State.takeMap_same (s : State) (n : Nat) (rx : Bool) :
    Same 67108859 s (State.takeMap s n rx) := by
  unfold State.takeMap
  repeat' with_reducible first
    | exact Same.refl _
    | apply Same.step (m := 67108859) (by decide) (takeUp_same ..)
    | apply Same.trans _ (foldl_same _ _ _ (fun _ _ => ?_))
    | apply Same.trans _ (foldl_same1 _ _ _ (fun _ _ => ?_))
    | apply Same.ite
    | apply Same.ite1
    | apply Same.ite2
    | extract_lets
    | split
    | dsimp -zeta only
    | dsimp +zetaDelta only

theorem State.switchAllot_same (s : State) (n : Nat) (rx : Bool) (a : Allot) :
    Same 67104753 s (State.switchAllot s n rx a) := by
  unfold State.switchAllot
  repeat' with_reducible first
    | exact Same.refl _
    | apply Same.step (m := 67108855) (by decide) (State.raise_same ..)
    | apply Same.step (m := 67108855) (by decide) (State.raiseIf_same ..)
    | apply Same.step (m := 67108861) (by decide) (State.set_same ..)
    | apply Same.step (m := 67104767) (by decide) (State.setLk_same ..)
    | apply Same.step (m := 67108861) (by decide) (State.sets_same ..)
    | apply Same.step (m := 67108861) (by decide) (State.showSlots_same ..)
    | apply Same.step (m := 67108861) (by decide) (State.showWait_same ..)
    | apply Same.step (m := 67108859) (by decide) (State.takeMap_same ..)
    | apply Same.ite
    | apply Same.ite1
    | apply Same.ite2
    | extract_lets
    | split
    | dsimp -zeta only
    | dsimp +zetaDelta only

theorem State.epochCheck_same (s : State) (n : Nat) (rx : Bool) :
    Same 67104753 s (State.epochCheck s n rx) := by
  unfold State.epochCheck
  repeat' with_reducible first
    | exact Same.refl _
    | apply Same.step (m := 67104757) (by decide) (State.allotLate_same ..)
    | apply Same.step (m := 67104767) (by decide) (State.sendAllot_same ..)
    | apply Same.step (m := 67104753) (by decide) (State.switchAllot_same ..)
    | apply Same.ite
    | apply Same.ite1
    | apply Same.ite2
    | extract_lets
    | split
    | dsimp -zeta only
    | dsimp +zetaDelta only

theorem State.rtResume_same (s : State) (n : Nat) :
    Same 67104757 s (State.rtResume s n) := by
  unfold State.rtResume
  repeat' with_reducible first
    | exact Same.refl _
    | apply Same.step (m := 67104757) (by decide) (rtStart_same ..)
    | apply Same.ite
    | apply Same.ite1
    | apply Same.ite2
    | extract_lets
    | split
    | dsimp -zeta only
    | dsimp +zetaDelta only

theorem State.sendPlain_same (s : State) (n : Nat) (typ : Nat) (body : List (BitVec 8)) :
    Same 67104757 s (State.sendPlain s n typ body) := by
  unfold State.sendPlain
  repeat' with_reducible first
    | exact Same.refl _
    | apply Same.step (m := 67104757) (by decide) (sendFlit_same ..)
    | apply Same.ite
    | apply Same.ite1
    | apply Same.ite2
    | extract_lets
    | split
    | dsimp -zeta only
    | dsimp +zetaDelta only

theorem State.sendSeal_same (s : State) (n : Nat) :
    Same 67104757 s (State.sendSeal s n) := by
  unfold State.sendSeal
  repeat' with_reducible first
    | exact Same.refl _
    | apply Same.step (m := 67108861) (by decide) (State.sat_same ..)
    | apply Same.step (m := 67104757) (by decide) (State.sendNew_same ..)
    | apply Same.step (m := 67104767) (by decide) (State.setLk_same ..)
    | apply Same.ite
    | apply Same.ite1
    | apply Same.ite2
    | extract_lets
    | split
    | dsimp -zeta only
    | dsimp +zetaDelta only

theorem State.sealOut_same (s : State) (n : Nat) :
    Same 67104757 s (State.sealOut s n) := by
  unfold State.sealOut
  repeat' with_reducible first
    | exact Same.refl _
    | apply Same.step (m := 67104757) (by decide) (State.sendSeal_same ..)
    | apply Same.ite
    | apply Same.ite1
    | apply Same.ite2
    | extract_lets
    | split
    | dsimp -zeta only
    | dsimp +zetaDelta only

theorem State.sendData_same (s : State) (n : Nat) (c : Nat) (how : Nat) :
    Same 67104757 s (State.sendData s n c how) := by
  unfold State.sendData
  repeat' with_reducible first
    | exact Same.refl _
    | apply Same.step (m := 67104767) (by decide) (State.carryUp_same ..)
    | apply Same.step (m := 67108853) (by decide) (State.countExpress_same ..)
    | apply Same.step (m := 67104767) (by decide) (State.mapLk_same ..)
    | apply Same.step (m := 67104757) (by decide) (State.sendItem_same ..)
    | apply Same.ite
    | apply Same.ite1
    | apply Same.ite2
    | extract_lets
    | split
    | dsimp -zeta only
    | dsimp +zetaDelta only

theorem State.narrow_same (s : State) (p : Nat) :
    Same 49308001 s (State.narrow s p) := by
  unfold State.narrow
  repeat' with_reducible first
    | exact Same.refl _
    | apply Same.step (m := 67106803) (by decide) (State.beginTrain_same ..)
    | apply Same.step (m := 66846719) (by decide) (State.mapPwr_same ..)
    | apply Same.step (m := 49570149) (by decide) (State.portDown_same ..)
    | apply Same.step (m := 67104757) (by decide) (State.rtStart_same ..)
    | apply Same.step (m := 67108861) (by decide) (State.set_same ..)
    | apply Same.ite
    | apply Same.ite1
    | apply Same.ite2
    | extract_lets
    | split
    | dsimp -zeta only
    | dsimp +zetaDelta only

theorem State.giveCredit_same (s : State) (n : Nat) (c : Nat) (d : Nat) :
    Same 67104767 s (State.giveCredit s n c d) := by
  unfold State.giveCredit
  repeat' with_reducible first
    | exact Same.refl _
    | apply Same.step (m := 67104767) (by decide) (State.mapLk_same ..)
    | apply Same.ite
    | apply Same.ite1
    | apply Same.ite2
    | extract_lets
    | split
    | dsimp -zeta only
    | dsimp +zetaDelta only

theorem State.payClass_same (s : State) (n : Nat) (c : Nat) :
    Same 67104767 s (State.payClass s n c) := by
  unfold State.payClass
  repeat' with_reducible first
    | exact Same.refl _
    | apply Same.step (m := 67104767) (by decide) (State.giveCredit_same ..)
    | apply Same.step (m := 67104767) (by decide) (State.mapLk_same ..)
    | apply Same.ite
    | apply Same.ite1
    | apply Same.ite2
    | extract_lets
    | split
    | dsimp -zeta only
    | dsimp +zetaDelta only

theorem State.payCredits_same (s : State) :
    Same 67104767 s (State.payCredits s) := by
  unfold State.payCredits
  repeat' with_reducible first
    | exact Same.refl _
    | apply Same.step (m := 67104767) (by decide) (State.payClass_same ..)
    | apply Same.trans _ (foldl_same _ _ _ (fun _ _ => ?_))
    | apply Same.trans _ (foldl_same1 _ _ _ (fun _ _ => ?_))
    | apply Same.ite
    | apply Same.ite1
    | apply Same.ite2
    | extract_lets
    | split
    | dsimp -zeta only
    | dsimp +zetaDelta only

end Sys2Proof.Machine
end

