-- ==== Sys2Proof/Laws/FrameDock.lean ====
section
/-! SUPPORT. What each operation of Machine/Dock.lean may change: every other part of State stays as it is. -/

set_option linter.all false

namespace Sys2Proof.Machine

theorem State.showStage_same (s : State) (n : Nat) :
    Same 67108861 s (State.showStage s n) := by
  unfold State.showStage
  repeat' with_reducible first
    | exact Same.refl _
    | apply Same.step (m := 67108861) (by decide) (State.set_same ..)
    | apply Same.trans _ (foldl_same _ _ _ (fun _ _ => ?_))
    | apply Same.trans _ (foldl_same1 _ _ _ (fun _ _ => ?_))
    | apply Same.ite
    | apply Same.ite1
    | apply Same.ite2
    | extract_lets
    | split
    | dsimp -zeta only
    | dsimp +zetaDelta only

theorem State.frameOut_same (s : State) (n : Nat) (l : Nat) :
    Same 50331639 s (State.frameOut s n l) := by
  unfold State.frameOut
  repeat' with_reducible first
    | exact Same.refl _
    | apply Same.step (m := 67108855) (by decide) (State.emit_same ..)
    | apply Same.step (m := 50331647) (by decide) (State.fresh_same ..)
    | apply Same.ite
    | apply Same.ite1
    | apply Same.ite2
    | extract_lets
    | split
    | dsimp -zeta only
    | dsimp +zetaDelta only

theorem State.mapTrain_same (s : State) (n : Nat) (f : Train → Train) :
    Same 67104767 s (State.mapTrain s n f) := by
  unfold State.mapTrain
  repeat' with_reducible first
    | exact Same.refl _
    | apply Same.step (m := 67104767) (by decide) (State.mapLk_same ..)
    | apply Same.ite
    | apply Same.ite1
    | apply Same.ite2
    | extract_lets
    | split
    | dsimp -zeta only
    | dsimp +zetaDelta only

theorem State.framesOut_same (s : State) (n : Nat) (lanes : List Nat) :
    Same 50327543 s (State.framesOut s n lanes) := by
  unfold State.framesOut
  repeat' with_reducible first
    | exact Same.refl _
    | apply Same.step (m := 50331639) (by decide) (State.frameOut_same ..)
    | apply Same.step (m := 67104767) (by decide) (State.mapTrain_same ..)
    | apply Same.trans _ (foldl_same _ _ _ (fun _ _ => ?_))
    | apply Same.trans _ (foldl_same1 _ _ _ (fun _ _ => ?_))
    | apply Same.ite
    | apply Same.ite1
    | apply Same.ite2
    | extract_lets
    | split
    | dsimp -zeta only
    | dsimp +zetaDelta only

theorem State.setLane_same (s : State) (n : Nat) (l : Nat) (x : LaneTr) :
    Same 67104767 s (State.setLane s n l x) := by
  unfold State.setLane
  repeat' with_reducible first
    | exact Same.refl _
    | apply Same.step (m := 67104767) (by decide) (mapTrain_same ..)
    | apply Same.ite
    | apply Same.ite1
    | apply Same.ite2
    | extract_lets
    | split
    | dsimp -zeta only
    | dsimp +zetaDelta only

theorem State.slip_same (s : State) (n : Nat) (l : Nat) :
    Same 67104765 s (State.slip s n l) := by
  unfold State.slip
  repeat' with_reducible first
    | exact Same.refl _
    | apply Same.step (m := 67108861) (by decide) (set_same ..)
    | apply Same.step (m := 67108861) (by decide) (showStage_same ..)
    | apply Same.step (m := 67104767) (by decide) (setLane_same ..)
    | apply Same.ite
    | apply Same.ite1
    | apply Same.ite2
    | extract_lets
    | split
    | dsimp -zeta only
    | dsimp +zetaDelta only

theorem State.trainFailed_same (s : State) (n : Nat) :
    Same 50094453 s (State.trainFailed s n) := by
  unfold State.trainFailed
  repeat' with_reducible first
    | exact Same.refl _
    | apply Same.step (m := 67108855) (by decide) (State.emit_same ..)
    | apply Same.step (m := 50094453) (by decide) (State.lkDown_same ..)
    | apply Same.step (m := 67104767) (by decide) (State.mapTrain_same ..)
    | apply Same.step (m := 67108855) (by decide) (State.raise_same ..)
    | apply Same.step (m := 67108861) (by decide) (State.set_same ..)
    | apply Same.ite
    | apply Same.ite1
    | apply Same.ite2
    | extract_lets
    | split
    | dsimp -zeta only
    | dsimp +zetaDelta only

theorem State.bringFail_same (s : State) (n : Nat) :
    Same 50094453 s (State.bringFail s n) := by
  unfold State.bringFail
  repeat' with_reducible first
    | exact Same.refl _
    | apply Same.step (m := 50094453) (by decide) (trainFailed_same ..)
    | apply Same.step (m := 67108855) (by decide) (emit_same ..)
    | apply Same.step (m := 67108861) (by decide) (set_same ..)
    | apply Same.step (m := 67104767) (by decide) (mapTrain_same ..)
    | apply Same.ite
    | apply Same.ite1
    | apply Same.ite2
    | extract_lets
    | split
    | dsimp -zeta only
    | dsimp +zetaDelta only

theorem State.sbuOut_same (s : State) (n : Nat) (typ : Nat) (seq : Nat) (b : List (BitVec 8)) :
    Same 67108855 s (State.sbuOut s n typ seq b) := by
  unfold State.sbuOut
  repeat' with_reducible first
    | exact Same.refl _
    | apply Same.step (m := 67108855) (by decide) (State.emit_same ..)
    | apply Same.ite
    | apply Same.ite1
    | apply Same.ite2
    | extract_lets
    | split
    | dsimp -zeta only
    | dsimp +zetaDelta only

theorem State.sbuSend_same (s : State) (n : Nat) (typ : Nat) (b : List (BitVec 8)) :
    Same 67104757 s (State.sbuSend s n typ b) := by
  unfold State.sbuSend
  repeat' with_reducible first
    | exact Same.refl _
    | apply Same.step (m := 67108855) (by decide) (State.sbuOut_same ..)
    | apply Same.step (m := 67108861) (by decide) (State.set_same ..)
    | apply Same.step (m := 67104767) (by decide) (State.setLk_same ..)
    | apply Same.ite
    | apply Same.ite1
    | apply Same.ite2
    | extract_lets
    | split
    | dsimp -zeta only
    | dsimp +zetaDelta only

theorem State.dockExit_same (s : State) (n : Nat) :
    Same 67104757 s (State.dockExit s n) := by
  unfold State.dockExit
  repeat' with_reducible first
    | exact Same.refl _
    | apply Same.step (m := 67104765) (by decide) (State.deepLeave_same ..)
    | apply Same.step (m := 67108861) (by decide) (State.laneFresh_same ..)
    | apply Same.step (m := 67104757) (by decide) (State.sbuSend_same ..)
    | apply Same.step (m := 67108861) (by decide) (State.set_same ..)
    | apply Same.step (m := 67104767) (by decide) (State.setLk_same ..)
    | apply Same.step (m := 67104757) (by decide) (State.trainAt_same ..)
    | apply Same.ite
    | apply Same.ite1
    | apply Same.ite2
    | extract_lets
    | split
    | dsimp -zeta only
    | dsimp +zetaDelta only

theorem State.pauseGo_same (s : State) (n : Nat) :
    Same 67104765 s (State.pauseGo s n) := by
  unfold State.pauseGo
  repeat' with_reducible first
    | exact Same.refl _
    | apply Same.step (m := 67104767) (by decide) (State.mapLk_same ..)
    | apply Same.step (m := 67108861) (by decide) (State.set_same ..)
    | apply Same.ite
    | apply Same.ite1
    | apply Same.ite2
    | extract_lets
    | split
    | dsimp -zeta only
    | dsimp +zetaDelta only

theorem State.pauseBegin_same (s : State) (n : Nat) :
    Same 67104757 s (State.pauseBegin s n) := by
  unfold State.pauseBegin
  repeat' with_reducible first
    | exact Same.refl _
    | apply Same.step (m := 67104757) (by decide) (State.dockExit_same ..)
    | apply Same.step (m := 67104767) (by decide) (State.mapLk_same ..)
    | apply Same.step (m := 67104765) (by decide) (State.pauseGo_same ..)
    | apply Same.ite
    | apply Same.ite1
    | apply Same.ite2
    | extract_lets
    | split
    | dsimp -zeta only
    | dsimp +zetaDelta only

theorem State.initStart_same (s : State) (n : Nat) :
    Same 67104765 s (State.initStart s n) := by
  unfold State.initStart
  repeat' with_reducible first
    | exact Same.refl _
    | apply Same.step (m := 67104767) (by decide) (State.declare_same ..)
    | apply Same.step (m := 67104767) (by decide) (State.mapLk_same ..)
    | apply Same.step (m := 67108861) (by decide) (State.sets_same ..)
    | apply Same.ite
    | apply Same.ite1
    | apply Same.ite2
    | extract_lets
    | split
    | dsimp -zeta only
    | dsimp +zetaDelta only

theorem State.linkBegin_same (s : State) (n : Nat) :
    Same 67104757 s (State.linkBegin s n) := by
  unfold State.linkBegin
  repeat' with_reducible first
    | exact Same.refl _
    | apply Same.step (m := 67104765) (by decide) (State.deepOver_same ..)
    | apply Same.step (m := 67104765) (by decide) (State.initStart_same ..)
    | apply Same.step (m := 67108861) (by decide) (State.linkAwake_same ..)
    | apply Same.step (m := 67104767) (by decide) (State.mapLk_same ..)
    | apply Same.step (m := 67108855) (by decide) (State.raise_same ..)
    | apply Same.step (m := 67108861) (by decide) (State.set_same ..)
    | apply Same.step (m := 67108861) (by decide) (State.showWait_same ..)
    | apply Same.ite
    | apply Same.ite1
    | apply Same.ite2
    | extract_lets
    | split
    | dsimp -zeta only
    | dsimp +zetaDelta only

theorem State.trainDone_same (s : State) (n : Nat) :
    Same 67104767 s (State.trainDone s n) := by
  unfold State.trainDone
  repeat' with_reducible first
    | exact Same.refl _
    | apply Same.step (m := 67104767) (by decide) (State.mapTrain_same ..)
    | apply Same.ite
    | apply Same.ite1
    | apply Same.ite2
    | extract_lets
    | split
    | dsimp -zeta only
    | dsimp +zetaDelta only

theorem State.flitsTx_same (s : State) (n : Nat) :
    Same 67104757 s (State.flitsTx s n) := by
  unfold State.flitsTx
  repeat' with_reducible first
    | exact Same.refl _
    | apply Same.step (m := 67108855) (by decide) (State.dockSends_same ..)
    | apply Same.step (m := 67104757) (by decide) (State.linkBegin_same ..)
    | apply Same.step (m := 67104767) (by decide) (State.mapTrain_same ..)
    | apply Same.step (m := 67108855) (by decide) (State.raise_same ..)
    | apply Same.step (m := 67108861) (by decide) (State.set_same ..)
    | apply Same.step (m := 67104767) (by decide) (State.trainDone_same ..)
    | apply Same.ite
    | apply Same.ite1
    | apply Same.ite2
    | extract_lets
    | split
    | dsimp -zeta only
    | dsimp +zetaDelta only

theorem State.flitsRx_same (s : State) (n : Nat) :
    Same 67104757 s (State.flitsRx s n) := by
  unfold State.flitsRx
  repeat' with_reducible first
    | exact Same.refl _
    | apply Same.step (m := 67104757) (by decide) (State.linkBegin_same ..)
    | apply Same.step (m := 67104767) (by decide) (State.mapTrain_same ..)
    | apply Same.step (m := 67104767) (by decide) (State.trainDone_same ..)
    | apply Same.ite
    | apply Same.ite1
    | apply Same.ite2
    | extract_lets
    | split
    | dsimp -zeta only
    | dsimp +zetaDelta only

theorem State.flitsStart_same (s : State) (n : Nat) :
    Same 67104757 s (State.flitsStart s n) := by
  unfold State.flitsStart
  repeat' with_reducible first
    | exact Same.refl _
    | apply Same.step (m := 67104757) (by decide) (State.flitsRx_same ..)
    | apply Same.step (m := 67104757) (by decide) (State.flitsTx_same ..)
    | apply Same.ite
    | apply Same.ite1
    | apply Same.ite2
    | extract_lets
    | split
    | dsimp -zeta only
    | dsimp +zetaDelta only

theorem State.countZero_same (s : State) (n : Nat) (cd : Nat) :
    Same 67104757 s (State.countZero s n cd) := by
  unfold State.countZero
  repeat' with_reducible first
    | exact Same.refl _
    | apply Same.step (m := 67104757) (by decide) (State.flitsRx_same ..)
    | apply Same.step (m := 67104765) (by decide) (State.hearAt_same ..)
    | apply Same.step (m := 67104767) (by decide) (State.mapTrain_same ..)
    | apply Same.step (m := 67108861) (by decide) (State.set_same ..)
    | apply Same.ite
    | apply Same.ite1
    | apply Same.ite2
    | extract_lets
    | split
    | dsimp -zeta only
    | dsimp +zetaDelta only

theorem State.frameTime_same (s : State) (n : Nat) :
    Same 50327541 s (State.frameTime s n) := by
  unfold State.frameTime
  repeat' with_reducible first
    | exact Same.refl _
    | apply Same.step (m := 67108855) (by decide) (State.dockSends_same ..)
    | apply Same.step (m := 67104757) (by decide) (State.flitsTx_same ..)
    | apply Same.step (m := 50327543) (by decide) (State.framesOut_same ..)
    | apply Same.step (m := 67104767) (by decide) (State.mapTrain_same ..)
    | apply Same.step (m := 67108861) (by decide) (State.set_same ..)
    | apply Same.ite
    | apply Same.ite1
    | apply Same.ite2
    | extract_lets
    | split
    | dsimp -zeta only
    | dsimp +zetaDelta only

theorem State.unstage_same (s : State) (n : Nat) :
    Same 67104765 s (State.unstage s n) := by
  unfold State.unstage
  repeat' with_reducible first
    | exact Same.refl _
    | apply Same.step (m := 67108861) (by decide) (State.set_same ..)
    | apply Same.step (m := 67104767) (by decide) (State.setLk_same ..)
    | apply Same.trans _ (foldl_same _ _ _ (fun _ _ => ?_))
    | apply Same.trans _ (foldl_same1 _ _ _ (fun _ _ => ?_))
    | apply Same.ite
    | apply Same.ite1
    | apply Same.ite2
    | extract_lets
    | split
    | dsimp -zeta only
    | dsimp +zetaDelta only

theorem State.deskew_same (s : State) (n : Nat) (skew : Nat) :
    Same 67104765 s (State.deskew s n skew) := by
  unfold State.deskew
  repeat' with_reducible first
    | exact Same.refl _
    | apply Same.step (m := 67108861) (by decide) (State.set_same ..)
    | apply Same.step (m := 67104767) (by decide) (State.setLane_same ..)
    | apply Same.trans _ (foldl_same _ _ _ (fun _ _ => ?_))
    | apply Same.trans _ (foldl_same1 _ _ _ (fun _ _ => ?_))
    | apply Same.ite
    | apply Same.ite1
    | apply Same.ite2
    | extract_lets
    | split
    | dsimp -zeta only
    | dsimp +zetaDelta only

theorem State.dockDeepDone_same (s : State) (n : Nat) :
    Same 67104757 s (State.dockDeepDone s n) := by
  unfold State.dockDeepDone
  repeat' with_reducible first
    | exact Same.refl _
    | apply Same.step (m := 67104757) (by decide) (State.flitsStart_same ..)
    | apply Same.ite
    | apply Same.ite1
    | apply Same.ite2
    | extract_lets
    | split
    | dsimp -zeta only
    | dsimp +zetaDelta only

theorem State.dockEnter_same (s : State) (n : Nat) (st : Nat) :
    Same 50327541 s (State.dockEnter s n st) := by
  unfold State.dockEnter
  repeat' with_reducible first
    | exact Same.refl _
    | apply Same.step (m := 67108855) (by decide) (State.dockSends_same ..)
    | apply Same.step (m := 67108855) (by decide) (State.emit_same ..)
    | apply Same.step (m := 50327549) (by decide) (State.lanesSleep_same ..)
    | apply Same.step (m := 67104767) (by decide) (State.mapLk_same ..)
    | apply Same.step (m := 67108855) (by decide) (State.raise_same ..)
    | apply Same.step (m := 67108861) (by decide) (State.set_same ..)
    | apply Same.step (m := 67108861) (by decide) (State.showWait_same ..)
    | apply Same.ite
    | apply Same.ite1
    | apply Same.ite2
    | extract_lets
    | split
    | dsimp -zeta only
    | dsimp +zetaDelta only

theorem State.wakeDocks_same (s : State) :
    Same 67104757 s (State.wakeDocks s) := by
  unfold State.wakeDocks
  repeat' with_reducible first
    | exact Same.refl _
    | apply Same.step (m := 67104757) (by decide) (State.dockExit_same ..)
    | apply Same.trans _ (foldl_same _ _ _ (fun _ _ => ?_))
    | apply Same.trans _ (foldl_same1 _ _ _ (fun _ _ => ?_))
    | apply Same.ite
    | apply Same.ite1
    | apply Same.ite2
    | extract_lets
    | split
    | dsimp -zeta only
    | dsimp +zetaDelta only

theorem State.dockWide_same (s : State) (n : Nat) :
    Same 67104757 s (State.dockWide s n) := by
  unfold State.dockWide
  repeat' with_reducible first
    | exact Same.refl _
    | apply Same.step (m := 67108855) (by decide) (State.dockSends_same ..)
    | apply Same.step (m := 67108861) (by decide) (State.linkAwake_same ..)
    | apply Same.step (m := 67104767) (by decide) (State.mapLk_same ..)
    | apply Same.step (m := 67104765) (by decide) (State.pauseGo_same ..)
    | apply Same.step (m := 67108855) (by decide) (State.raise_same ..)
    | apply Same.step (m := 67108861) (by decide) (State.showWait_same ..)
    | apply Same.ite
    | apply Same.ite1
    | apply Same.ite2
    | extract_lets
    | split
    | dsimp -zeta only
    | dsimp +zetaDelta only

theorem State.fallBack_same (s : State) (n : Nat) :
    Same 67104753 s (State.fallBack s n) := by
  unfold State.fallBack
  repeat' with_reducible first
    | exact Same.refl _
    | apply Same.step (m := 67104753) (by decide) (State.bringAnew_same ..)
    | apply Same.step (m := 67104767) (by decide) (State.mapTrain_same ..)
    | apply Same.step (m := 67108855) (by decide) (State.raise_same ..)
    | apply Same.step (m := 67108861) (by decide) (State.sat_same ..)
    | apply Same.step (m := 67108861) (by decide) (State.set_same ..)
    | apply Same.ite
    | apply Same.ite1
    | apply Same.ite2
    | extract_lets
    | split
    | dsimp -zeta only
    | dsimp +zetaDelta only

theorem State.rateFail_same (s : State) (n : Nat) :
    Same 50094449 s (State.rateFail s n) := by
  unfold State.rateFail
  repeat' with_reducible first
    | exact Same.refl _
    | apply Same.step (m := 50094453) (by decide) (bringFail_same ..)
    | apply Same.step (m := 67104753) (by decide) (fallBack_same ..)
    | apply Same.ite
    | apply Same.ite1
    | apply Same.ite2
    | extract_lets
    | split
    | dsimp -zeta only
    | dsimp +zetaDelta only

theorem State.exclude_same (s : State) (n : Nat) (l : Nat) :
    Same 50094449 s (State.exclude s n l) := by
  unfold State.exclude
  repeat' with_reducible first
    | exact Same.refl _
    | apply Same.step (m := 67108855) (by decide) (State.dockSends_same ..)
    | apply Same.step (m := 67104767) (by decide) (State.mapTrain_same ..)
    | apply Same.step (m := 67108855) (by decide) (State.raise_same ..)
    | apply Same.step (m := 50094449) (by decide) (State.rateFail_same ..)
    | apply Same.step (m := 67108861) (by decide) (State.showStage_same ..)
    | apply Same.ite
    | apply Same.ite1
    | apply Same.ite2
    | extract_lets
    | split
    | dsimp -zeta only
    | dsimp +zetaDelta only

theorem State.pmPoll_same (s : State) (n : Nat) :
    Same 67104767 s (State.pmPoll s n) := by
  unfold State.pmPoll
  repeat' with_reducible first
    | exact Same.refl _
    | apply Same.step (m := 67104767) (by decide) (State.setLk_same ..)
    | apply Same.ite
    | apply Same.ite1
    | apply Same.ite2
    | extract_lets
    | split
    | dsimp -zeta only
    | dsimp +zetaDelta only

theorem State.leaveNarrow_same (s : State) (n : Nat) :
    Same 67104757 s (State.leaveNarrow s n) := by
  unfold State.leaveNarrow
  repeat' with_reducible first
    | exact Same.refl _
    | apply Same.step (m := 67104757) (by decide) (State.dockExit_same ..)
    | apply Same.ite
    | apply Same.ite1
    | apply Same.ite2
    | extract_lets
    | split
    | dsimp -zeta only
    | dsimp +zetaDelta only

theorem State.initDone_same (s : State) (n : Nat) :
    Same 67088373 s (State.initDone s n) := by
  unfold State.initDone
  repeat' with_reducible first
    | exact Same.refl _
    | apply Same.step (m := 67104767) (by decide) (State.mapLk_same ..)
    | apply Same.step (m := 67104765) (by decide) (State.prismReset_same ..)
    | apply Same.step (m := 67108855) (by decide) (State.raise_same ..)
    | apply Same.step (m := 67108861) (by decide) (State.sets_same ..)
    | apply Same.step (m := 67108861) (by decide) (State.showSlots_same ..)
    | apply Same.step (m := 67108861) (by decide) (State.showWait_same ..)
    | apply Same.ite
    | apply Same.ite1
    | apply Same.ite2
    | extract_lets
    | split
    | dsimp -zeta only
    | dsimp +zetaDelta only
    | apply Same.with_pow (by decide)

theorem State.sendInit_same (s : State) (n : Nat) :
    Same 67088373 s (State.sendInit s n) := by
  unfold State.sendInit
  repeat' with_reducible first
    | exact Same.refl _
    | apply Same.step (m := 67108855) (by decide) (State.flitOut_same ..)
    | apply Same.step (m := 67088373) (by decide) (State.initDone_same ..)
    | apply Same.step (m := 67104767) (by decide) (State.mapLk_same ..)
    | apply Same.ite
    | apply Same.ite1
    | apply Same.ite2
    | extract_lets
    | split
    | dsimp -zeta only
    | dsimp +zetaDelta only

theorem State.toRetrain_same (s : State) (n : Nat) :
    Same 50094449 s (State.toRetrain s n) := by
  unfold State.toRetrain
  repeat' with_reducible first
    | exact Same.refl _
    | apply Same.step (m := 67108859) (by decide) (State.dockTake_same ..)
    | apply Same.step (m := 50094453) (by decide) (State.encAgreed_same ..)
    | apply Same.step (m := 67104767) (by decide) (State.mapLk_same ..)
    | apply Same.step (m := 67108861) (by decide) (State.set_same ..)
    | apply Same.step (m := 67104757) (by decide) (State.trainAt_same ..)
    | apply Same.step (m := 67104765) (by decide) (State.unstage_same ..)
    | apply Same.ite
    | apply Same.ite1
    | apply Same.ite2
    | extract_lets
    | split
    | dsimp -zeta only
    | dsimp +zetaDelta only

theorem State.sendCtl_same (s : State) (n : Nat) (c : Ctl) :
    Same 50094449 s (State.sendCtl s n c) := by
  unfold State.sendCtl
  repeat' with_reducible first
    | exact Same.refl _
    | apply Same.step (m := 50327541) (by decide) (State.dockEnter_same ..)
    | apply Same.step (m := 67104757) (by decide) (State.dockWide_same ..)
    | apply Same.step (m := 67104767) (by decide) (State.mapLk_same ..)
    | apply Same.step (m := 67104757) (by decide) (State.sendPlain_same ..)
    | apply Same.step (m := 50094449) (by decide) (State.toRetrain_same ..)
    | apply Same.ite
    | apply Same.ite1
    | apply Same.ite2
    | extract_lets
    | split
    | dsimp -zeta only
    | dsimp +zetaDelta only

theorem State.sendReplay_same (s : State) (n : Nat) :
    Same 67104757 s (State.sendReplay s n) := by
  unfold State.sendReplay
  repeat' with_reducible first
    | exact Same.refl _
    | apply Same.step (m := 67104757) (by decide) (State.sendFlit_same ..)
    | apply Same.step (m := 67104767) (by decide) (State.setLk_same ..)
    | apply Same.ite
    | apply Same.ite1
    | apply Same.ite2
    | extract_lets
    | split
    | dsimp -zeta only
    | dsimp +zetaDelta only

theorem State.sendEcho_same (s : State) (n : Nat) :
    Same 67104757 s (State.sendEcho s n) := by
  unfold State.sendEcho
  repeat' with_reducible first
    | exact Same.refl _
    | apply Same.step (m := 67104757) (by decide) (State.sendPlain_same ..)
    | apply Same.step (m := 67104767) (by decide) (State.setLk_same ..)
    | apply Same.ite
    | apply Same.ite1
    | apply Same.ite2
    | extract_lets
    | split
    | dsimp -zeta only
    | dsimp +zetaDelta only

theorem State.flitSlot_same (sa : State) (n : Nat) :
    Same 50078065 sa (State.flitSlot sa n) := by
  unfold State.flitSlot
  repeat' with_reducible first
    | exact Same.refl _
    | apply Same.step (m := 67104767) (by decide) (State.carryUp_same ..)
    | apply Same.step (m := 67104753) (by decide) (State.epochCheck_same ..)
    | apply Same.step (m := 50327541) (by decide) (State.frameTime_same ..)
    | apply Same.step (m := 50327543) (by decide) (State.framesOut_same ..)
    | apply Same.step (m := 67104767) (by decide) (State.mapLk_same ..)
    | apply Same.step (m := 67104767) (by decide) (State.pmPoll_same ..)
    | apply Same.step (m := 67104757) (by decide) (State.rtResume_same ..)
    | apply Same.step (m := 67108861) (by decide) (State.sat_same ..)
    | apply Same.step (m := 50094449) (by decide) (State.sendCtl_same ..)
    | apply Same.step (m := 67104757) (by decide) (State.sendData_same ..)
    | apply Same.step (m := 67104757) (by decide) (State.sendEcho_same ..)
    | apply Same.step (m := 67088373) (by decide) (State.sendInit_same ..)
    | apply Same.step (m := 67104757) (by decide) (State.sendPlain_same ..)
    | apply Same.step (m := 67104757) (by decide) (State.sendReplay_same ..)
    | apply Same.step (m := 67104757) (by decide) (State.sendSeal_same ..)
    | apply Same.ite
    | apply Same.ite1
    | apply Same.ite2
    | extract_lets
    | split
    | dsimp -zeta only
    | dsimp +zetaDelta only

theorem State.frameFields_same (s : State) (n : Nat) (l : Nat) (f : TrainFrame) :
    Same 67104765 s (State.frameFields s n l f) := by
  unfold State.frameFields
  repeat' with_reducible first
    | exact Same.refl _
    | apply Same.step (m := 67108861) (by decide) (State.ffe_same ..)
    | apply Same.step (m := 67104767) (by decide) (State.mapTrain_same ..)
    | apply Same.step (m := 67108861) (by decide) (State.set_same ..)
    | apply Same.step (m := 67104767) (by decide) (State.setLane_same ..)
    | apply Same.step (m := 67108861) (by decide) (State.sets_same ..)
    | apply Same.ite
    | apply Same.ite1
    | apply Same.ite2
    | extract_lets
    | split
    | dsimp -zeta only
    | dsimp +zetaDelta only

theorem State.markerStep_same (s : State) (n : Nat) (l : Nat) (m : Option Bool) :
    Same 67104753 s (State.markerStep s n l m) := by
  unfold State.markerStep
  repeat' with_reducible first
    | exact Same.refl _
    | apply Same.step (m := 67108855) (by decide) (State.raise_same ..)
    | apply Same.step (m := 67108861) (by decide) (State.set_same ..)
    | apply Same.step (m := 67104767) (by decide) (State.setLane_same ..)
    | apply Same.step (m := 67108861) (by decide) (State.sets_same ..)
    | apply Same.step (m := 67108859) (by decide) (State.takeUp_same ..)
    | apply Same.ite
    | apply Same.ite1
    | apply Same.ite2
    | extract_lets
    | split
    | dsimp -zeta only
    | dsimp +zetaDelta only

theorem State.readyAll_same (s : State) (n : Nat) :
    Same 50094449 s (State.readyAll s n) := by
  unfold State.readyAll
  repeat' with_reducible first
    | exact Same.refl _
    | apply Same.step (m := 67104767) (by decide) (State.mapTrain_same ..)
    | apply Same.step (m := 50094449) (by decide) (State.rateFail_same ..)
    | apply Same.step (m := 67108861) (by decide) (State.set_same ..)
    | apply Same.ite
    | apply Same.ite1
    | apply Same.ite2
    | extract_lets
    | split
    | dsimp -zeta only
    | dsimp +zetaDelta only

theorem State.readyStep_same (s : State) (n : Nat) (l : Nat) :
    Same 67104767 s (State.readyStep s n l) := by
  unfold State.readyStep
  repeat' with_reducible first
    | exact Same.refl _
    | apply Same.step (m := 67104767) (by decide) (State.setLane_same ..)
    | apply Same.ite
    | apply Same.ite1
    | apply Same.ite2
    | extract_lets
    | split
    | dsimp -zeta only
    | dsimp +zetaDelta only

theorem State.swapStep_same (s : State) (n : Nat) :
    Same 50094449 s (State.swapStep s n) := by
  unfold State.swapStep
  repeat' with_reducible first
    | exact Same.refl _
    | apply Same.step (m := 67104767) (by decide) (setLane_same ..)
    | apply Same.step (m := 67108855) (by decide) (raise_same ..)
    | apply Same.step (m := 67108861) (by decide) (set_same ..)
    | apply Same.step (m := 50094449) (by decide) (exclude_same ..)
    | apply Same.ite
    | apply Same.ite1
    | apply Same.ite2
    | extract_lets
    | split
    | dsimp -zeta only
    | dsimp +zetaDelta only

theorem State.trainFrame_same (s : State) (n : Nat) (l : Nat) (f : TrainFrame) :
    Same 50094449 s (State.trainFrame s n l f) := by
  unfold State.trainFrame
  repeat' with_reducible first
    | exact Same.refl _
    | apply Same.step (m := 67104753) (by decide) (markerStep_same ..)
    | apply Same.step (m := 67108861) (by decide) (showStage_same ..)
    | apply Same.step (m := 67108861) (by decide) (sat_same ..)
    | apply Same.step (m := 67104765) (by decide) (deskew_same ..)
    | apply Same.step (m := 50094449) (by decide) (swapStep_same ..)
    | apply Same.step (m := 67104765) (by decide) (frameFields_same ..)
    | apply Same.step (m := 67104767) (by decide) (readyStep_same ..)
    | apply Same.step (m := 50094449) (by decide) (readyAll_same ..)
    | apply Same.step (m := 67104757) (by decide) (countZero_same ..)
    | apply Same.trans _ (foldl_same _ _ _ (fun _ _ => ?_))
    | apply Same.trans _ (foldl_same1 _ _ _ (fun _ _ => ?_))
    | apply Same.ite
    | apply Same.ite1
    | apply Same.ite2
    | extract_lets
    | split
    | dsimp -zeta only
    | dsimp +zetaDelta only

theorem State.widenFrame_same (s : State) (n : Nat) (f : TrainFrame) :
    Same 67104753 s (State.widenFrame s n f) := by
  unfold State.widenFrame
  repeat' with_reducible first
    | exact Same.refl _
    | apply Same.step (m := 67104765) (by decide) (State.frameFields_same ..)
    | apply Same.step (m := 67104767) (by decide) (State.mapLk_same ..)
    | apply Same.step (m := 67104753) (by decide) (State.markerStep_same ..)
    | apply Same.step (m := 67104767) (by decide) (State.readyStep_same ..)
    | apply Same.step (m := 67108861) (by decide) (State.sat_same ..)
    | apply Same.step (m := 67104767) (by decide) (State.setLane_same ..)
    | apply Same.ite
    | apply Same.ite1
    | apply Same.ite2
    | extract_lets
    | split
    | dsimp -zeta only
    | dsimp +zetaDelta only

end Sys2Proof.Machine
end

