-- ==== Sys2Proof/Laws/FrameBridge.lean ====
section
/-! SUPPORT. What each operation of Machine/Bridge.lean may change: every other part of State stays as it is. -/

set_option linter.all false

namespace Sys2Proof.Machine

theorem State.sigDone_same (s : State) (m : SigMsg) :
    Same 66977781 s (State.sigDone s m) := by
  unfold State.sigDone
  repeat' with_reducible first
    | exact Same.refl _
    | apply Same.step (m := 67108855) (by decide) (complete_same ..)
    | apply Same.step (m := 66977781) (by decide) (brStat_same ..)
    | apply Same.ite
    | apply Same.ite1
    | apply Same.ite2
    | extract_lets
    | split
    | dsimp -zeta only
    | dsimp +zetaDelta only

theorem State.sigOffer_same (s : State) (m : SigMsg) :
    Same 49868661 s (State.sigOffer s m).2 := by
  unfold State.sigOffer
  repeat' with_reducible first
    | exact Same.refl _
    | apply Same.step (m := 49868661) (by decide) (State.arrive_same ..)
    | apply Same.step (m := 67043327) (by decide) (State.mapBr_same ..)
    | apply Same.step (m := 66977781) (by decide) (State.sigDone_same ..)
    | apply Same.step (m := 66912245) (by decide) (State.sigFail_same ..)
    | apply Same.step (m := 67043327) (by decide) (State.sigForget_same ..)
    | apply Same.ite
    | apply Same.ite1
    | apply Same.ite2
    | extract_lets
    | split
    | dsimp -zeta only
    | dsimp +zetaDelta only

theorem State.sigRound_same (s : State) :
    Same 49868661 s (State.sigRound s) := by
  unfold State.sigRound
  repeat' with_reducible first
    | exact Same.refl _
    | apply Same.step (m := 49868661) (by decide) (sigOffer_same ..)
    | apply Same.step (m := 67043327) (by decide) (mapBr_same ..)
    | apply Same.trans _ (foldl_same _ _ _ (fun _ _ => ?_))
    | apply Same.trans _ (foldl_same1 _ _ _ (fun _ _ => ?_))
    | apply Same.ite
    | apply Same.ite1
    | apply Same.ite2
    | extract_lets
    | split
    | dsimp -zeta only
    | dsimp +zetaDelta only

theorem State.coreCredits_same (s : State) (m : CoreMsg) :
    Same 50331647 s (State.coreCredits s m).2 := by
  unfold State.coreCredits
  repeat' with_reducible first
    | exact Same.refl _
    | apply Same.step (m := 50331647) (by decide) (State.fresh_same ..)
    | apply Same.ite
    | apply Same.ite1
    | apply Same.ite2
    | extract_lets
    | split
    | dsimp -zeta only
    | dsimp +zetaDelta only

theorem State.coreOffer_same (s : State) (m : CoreMsg) :
    Same 49868661 s (State.coreOffer s m).2 := by
  unfold State.coreOffer
  repeat' with_reducible first
    | exact Same.refl _
    | apply Same.step (m := 49868661) (by decide) (State.arrive_same ..)
    | apply Same.step (m := 50331647) (by decide) (State.coreCredits_same ..)
    | apply Same.ite
    | apply Same.ite1
    | apply Same.ite2
    | extract_lets
    | split
    | dsimp -zeta only
    | dsimp +zetaDelta only

theorem State.coreRound_same (s : State) :
    Same 49868661 s (State.coreRound s) := by
  unfold State.coreRound
  repeat' with_reducible first
    | exact Same.refl _
    | apply Same.step (m := 49868661) (by decide) (State.coreOffer_same ..)
    | apply Same.step (m := 67108735) (by decide) (State.setMsgs_same ..)
    | apply Same.trans _ (foldl_same _ _ _ (fun _ _ => ?_))
    | apply Same.trans _ (foldl_same1 _ _ _ (fun _ _ => ?_))
    | apply Same.ite
    | apply Same.ite1
    | apply Same.ite2
    | extract_lets
    | split
    | dsimp -zeta only
    | dsimp +zetaDelta only

theorem State.sigDrain_same (s : State) :
    Same 49868661 s (State.sigDrain s) := by
  unfold State.sigDrain
  repeat' with_reducible first
    | exact Same.refl _
    | apply Same.step (m := 49868661) (by decide) (State.coreRound_same ..)
    | apply Same.step (m := 67104767) (by decide) (State.payCredits_same ..)
    | apply Same.step (m := 49868661) (by decide) (State.sigRound_same ..)
    | apply Same.ite
    | apply Same.ite1
    | apply Same.ite2
    | extract_lets
    | split
    | dsimp -zeta only
    | dsimp +zetaDelta only

theorem State.hookPush_same (s : State) (e : Nat) (m : SigIn) (entry : Nat) :
    Same 33554421 s (State.hookPush s e m entry) := by
  unfold State.hookPush
  repeat' with_reducible first
    | exact Same.refl _
    | apply Same.step (m := 67108861) (by decide) (set_same ..)
    | apply Same.step (m := 33554431) (by decide) (storeWords_same ..)
    | apply Same.step (m := 67108855) (by decide) (emit_same ..)
    | apply Same.step (m := 67108855) (by decide) (complete_same ..)
    | apply Same.ite
    | apply Same.ite1
    | apply Same.ite2
    | extract_lets
    | split
    | dsimp -zeta only
    | dsimp +zetaDelta only

theorem State.sigHook_opt (s : State) (m : SigIn) (entry : Nat) :
    SameOpt 33357813 s (State.sigHook s m entry) := by
  unfold State.sigHook
  repeat' with_reducible first
    | exact Same.refl _
    | exact SameOpt.none
    | apply SameOpt.some
    | apply SameOpt.ite
    | apply SameOpt.map (fun _ => ?_)
    | apply Same.step (m := 66912245) (by decide) (sigFail_same ..)
    | apply Same.step (m := 33554421) (by decide) (hookPush_same ..)
    | apply Same.ite
    | apply Same.ite1
    | apply Same.ite2
    | extract_lets
    | split
    | dsimp -zeta only
    | dsimp +zetaDelta only

theorem State.sigHook_same {s : State} {m : SigIn} {entry : Nat} {t : State} (e : (State.sigHook s m entry) = some t) : Same 33357813 s t := (State.sigHook_opt _ _ _).of e

theorem State.raSlot_same (s : State) :
    Same 67043317 s (State.raSlot s).2 := by
  unfold State.raSlot
  repeat' with_reducible first
    | exact Same.refl _
    | apply Same.step (m := 67043317) (by decide) (raDrop_same ..)
    | apply Same.trans _ (foldl_same _ _ _ (fun _ _ => ?_))
    | apply Same.trans _ (foldl_same1 _ _ _ (fun _ _ => ?_))
    | apply Same.ite
    | apply Same.ite1
    | apply Same.ite2
    | extract_lets
    | split
    | dsimp -zeta only
    | dsimp +zetaDelta only

theorem State.raKeep_same (s : State) (t : Nat) (addr : Nat) (host : Nat) (b : List (BitVec 8)) :
    Same 67043317 s (State.raKeep s t addr host b) := by
  unfold State.raKeep
  repeat' with_reducible first
    | exact Same.refl _
    | apply Same.step (m := 67043317) (by decide) (raSlot_same ..)
    | apply Same.step (m := 67043327) (by decide) (mapBr_same ..)
    | apply Same.ite
    | apply Same.ite1
    | apply Same.ite2
    | extract_lets
    | split
    | dsimp -zeta only
    | dsimp +zetaDelta only

theorem State.rmwWrite_same (s : State) (t : Nat) (o : RegOp) (h : Nat) (seq : Nat) (and_ : Nat) (xor_ : Nat) (d : List (BitVec 8)) :
    Same 67043317 s (State.rmwWrite s t o h seq and_ xor_ d) := by
  unfold State.rmwWrite
  repeat' with_reducible first
    | exact Same.refl _
    | apply Same.step (m := 67043317) (by decide) (opSend_same ..)
    | apply Same.step (m := 67043317) (by decide) (opEnd_same ..)
    | apply Same.ite
    | apply Same.ite1
    | apply Same.ite2
    | extract_lets
    | split
    | dsimp -zeta only
    | dsimp +zetaDelta only

theorem State.pollValue_same (s : State) (e : Nat) (v : Nat) :
    Same 50225525 s (State.pollValue s e v) := by
  unfold State.pollValue
  repeat' with_reducible first
    | exact Same.refl _
    | apply Same.step (m := 67108861) (by decide) (sets_same ..)
    | apply Same.step (m := 67043327) (by decide) (mapBr_same ..)
    | apply Same.step (m := 50291061) (by decide) (present?_same ..)
    | apply Same.step (m := 67043327) (by decide) (sigPush_same ..)
    | apply Same.step (m := 67108855) (by decide) (raise_same ..)
    | apply Same.ite
    | apply Same.ite1
    | apply Same.ite2
    | extract_lets
    | split
    | dsimp -zeta only
    | dsimp +zetaDelta only

theorem State.opGood_same (s : State) (t : Nat) (o : RegOp) (d : List (BitVec 8)) :
    Same 50225525 s (State.opGood s t o d) := by
  unfold State.opGood
  repeat' with_reducible first
    | exact Same.refl _
    | apply Same.step (m := 67108855) (by decide) (complete_same ..)
    | apply Same.step (m := 67108855) (by decide) (emit_same ..)
    | apply Same.step (m := 67043317) (by decide) (raKeep_same ..)
    | apply Same.step (m := 67043317) (by decide) (opEnd_same ..)
    | apply Same.step (m := 67043317) (by decide) (rmwWrite_same ..)
    | apply Same.step (m := 50225525) (by decide) (pollValue_same ..)
    | apply Same.ite
    | apply Same.ite1
    | apply Same.ite2
    | extract_lets
    | split
    | dsimp -zeta only
    | dsimp +zetaDelta only

theorem State.sigReply_same (s : State) (n : Nat) (tch : Option Nat) (ack : Bool) (seq : Nat) (status : Nat) (d : List (BitVec 8)) :
    Same 50225525 s (State.sigReply s n tch ack seq status d) := by
  unfold State.sigReply
  repeat' with_reducible first
    | exact Same.refl _
    | apply Same.step (m := 67108855) (by decide) (raise_same ..)
    | apply Same.step (m := 67108861) (by decide) (sat_same ..)
    | apply Same.step (m := 67043317) (by decide) (opFail_same ..)
    | apply Same.step (m := 50225525) (by decide) (opGood_same ..)
    | apply Same.ite
    | apply Same.ite1
    | apply Same.ite2
    | extract_lets
    | split
    | dsimp -zeta only
    | dsimp +zetaDelta only

theorem State.sigReplyBytes_same (s : State) (n : Nat) (tch : Option Nat) (ack : Bool) (b : List (BitVec 8)) :
    Same 50225525 s (State.sigReplyBytes s n tch ack b) := by
  unfold State.sigReplyBytes
  repeat' with_reducible first
    | exact Same.refl _
    | apply Same.step (m := 50225525) (by decide) (sigReply_same ..)
    | apply Same.ite
    | apply Same.ite1
    | apply Same.ite2
    | extract_lets
    | split
    | dsimp -zeta only
    | dsimp +zetaDelta only

theorem State.sigRoute_same (s : State) (m : SigIn) (e : Nat) :
    Same 66912245 s (State.sigRoute s m e) := by
  unfold State.sigRoute
  repeat' with_reducible first
    | exact Same.refl _
    | apply Same.step (m := 66912245) (by decide) (sigFail_same ..)
    | apply Same.step (m := 67043327) (by decide) (sigPush_same ..)
    | apply Same.step (m := 67108861) (by decide) (sat_same ..)
    | apply Same.ite
    | apply Same.ite1
    | apply Same.ite2
    | extract_lets
    | split
    | dsimp -zeta only
    | dsimp +zetaDelta only

theorem State.sigRun_opt (s : State) (m : SigIn) :
    SameOpt 16540021 s (State.sigRun s m) := by
  unfold State.sigRun
  repeat' with_reducible first
    | exact Same.refl _
    | exact SameOpt.none
    | apply SameOpt.some
    | apply SameOpt.ite
    | apply SameOpt.map (fun _ => ?_)
    | apply Same.step (m := 66912245) (by decide) (sigFail_same ..)
    | apply Same.step (m := 50225525) (by decide) (sigReplyBytes_same ..)
    | apply Same.step (m := 67108861) (by decide) (sat_same ..)
    | apply Same.step (m := 67108853) (by decide) (stale_same ..)
    | apply Same.step (m := 66912245) (by decide) (sigRoute_same ..)
    | apply SameOpt.trans _ (SameOpt.weaken (k := 16540021) (m := 33357813) (by decide) (State.sigHook_opt _ _ _))
    | apply Same.ite
    | apply Same.ite1
    | apply Same.ite2
    | extract_lets
    | split
    | dsimp -zeta only
    | dsimp +zetaDelta only

theorem State.sigRun_same {s : State} {m : SigIn} {t : State} (e : (State.sigRun s m) = some t) : Same 16540021 s t := (State.sigRun_opt _ _).of e

theorem State.setBrLane_same (s : State) (k : Nat) (l : List SigIn) :
    Same 67043327 s (State.setBrLane s k l) := by
  unfold State.setBrLane
  repeat' with_reducible first
    | exact Same.refl _
    | apply Same.step (m := 67043327) (by decide) (mapBr_same ..)
    | apply Same.ite
    | apply Same.ite1
    | apply Same.ite2
    | extract_lets
    | split
    | dsimp -zeta only
    | dsimp +zetaDelta only

theorem State.lanePump_same (x0 : Nat) (x1 : State) (x2 : Nat) :
    Same 16540021 x1 (State.lanePump x0 x1 x2) := by
  induction x0 generalizing x1 with
  | zero => exact Same.refl _
  | succ n ih =>
    unfold State.lanePump
    repeat' with_reducible first
      | exact Same.refl _
      | apply Same.step (m := 67043327) (by decide) (setBrLane_same ..)
      | apply Same.step (m := 67108861) (by decide) (sat_same ..)
      | apply Same.step (k := 16540021) (m := 16540021) (by decide) (State.sigRun_same (by assumption))
      | apply Same.trans _ (ih _)
      | apply Same.ite
      | apply Same.ite1
      | apply Same.ite2
      | extract_lets
      | split
      | dsimp -zeta only
      | dsimp +zetaDelta only

theorem State.laneGo_same (s : State) (k : Nat) :
    Same 16277877 s (State.laneGo s k) := by
  unfold State.laneGo
  repeat' with_reducible first
    | exact Same.refl _
    | apply Same.step (m := 49868661) (by decide) (sigDrain_same ..)
    | apply Same.step (m := 16540021) (by decide) (lanePump_same ..)
    | apply Same.ite
    | apply Same.ite1
    | apply Same.ite2
    | extract_lets
    | split
    | dsimp -zeta only
    | dsimp +zetaDelta only

theorem State.hookFail_same (s : State) (k : Nat) (r : SigReason) :
    Same 16277877 s (State.hookFail s k r) := by
  unfold State.hookFail
  repeat' with_reducible first
    | exact Same.refl _
    | apply Same.step (m := 16277877) (by decide) (laneGo_same ..)
    | apply Same.step (m := 66912245) (by decide) (sigFail_same ..)
    | apply Same.step (m := 67043327) (by decide) (setBrLane_same ..)
    | apply Same.ite
    | apply Same.ite1
    | apply Same.ite2
    | extract_lets
    | split
    | dsimp -zeta only
    | dsimp +zetaDelta only

theorem State.brFx_same (s : State) (s0 : State) (x : Wr) :
    Same 67043325 s (State.brFx s s0 x) := by
  unfold State.brFx
  repeat' with_reducible first
    | exact Same.refl _
    | apply Same.step (m := 67108861) (by decide) (set_same ..)
    | apply Same.step (m := 67043327) (by decide) (mapBr_same ..)
    | apply Same.ite
    | apply Same.ite1
    | apply Same.ite2
    | extract_lets
    | split
    | dsimp -zeta only
    | dsimp +zetaDelta only

theorem State.engSend_same (s : State) (e : Nat) (off : Nat) :
    Same 49868661 s (State.engSend s e off) := by
  unfold State.engSend
  repeat' with_reducible first
    | exact Same.refl _
    | apply Same.step (m := 67108861) (by decide) (sets_same ..)
    | apply Same.step (m := 49868661) (by decide) (sigDrain_same ..)
    | apply Same.step (m := 66912245) (by decide) (sigFail_same ..)
    | apply Same.step (m := 67043327) (by decide) (sigPush_same ..)
    | apply Same.ite
    | apply Same.ite1
    | apply Same.ite2
    | extract_lets
    | split
    | dsimp -zeta only
    | dsimp +zetaDelta only

theorem State.sigDeliver_same (s : State) (m : SigMsg) (late : Bool) :
    Same 67108855 s (State.sigDeliver s m late) := by
  unfold State.sigDeliver
  repeat' with_reducible first
    | exact Same.refl _
    | apply Same.step (m := 67108855) (by decide) (emit_same ..)
    | apply Same.step (m := 67108855) (by decide) (postRec_same ..)
    | apply Same.ite
    | apply Same.ite1
    | apply Same.ite2
    | extract_lets
    | split
    | dsimp -zeta only
    | dsimp +zetaDelta only

theorem State.sigEnter_same (s : State) (m : SigIn) :
    Same 16277877 s (State.sigEnter s m) := by
  unfold State.sigEnter
  repeat' with_reducible first
    | exact Same.refl _
    | apply Same.step (m := 16277877) (by decide) (laneGo_same ..)
    | apply Same.step (m := 67043327) (by decide) (setBrLane_same ..)
    | apply Same.ite
    | apply Same.ite1
    | apply Same.ite2
    | extract_lets
    | split
    | dsimp -zeta only
    | dsimp +zetaDelta only

theorem State.sigIn_same (s : State) (n : Nat) (tch : Nat) (b : List (BitVec 8)) (at_ : Nat) :
    Same 16277877 s (State.sigIn s n tch b at_) := by
  unfold State.sigIn
  repeat' with_reducible first
    | exact Same.refl _
    | apply Same.step (m := 49868661) (by decide) (sigDrain_same ..)
    | apply Same.step (m := 66912245) (by decide) (sigFail_same ..)
    | apply Same.step (m := 16277877) (by decide) (sigEnter_same ..)
    | apply Same.ite
    | apply Same.ite1
    | apply Same.ite2
    | extract_lets
    | split
    | dsimp -zeta only
    | dsimp +zetaDelta only

theorem State.sigArrived_same (s : State) (c : Cell) :
    Same 16277877 s (State.sigArrived s c) := by
  unfold State.sigArrived
  repeat' with_reducible first
    | exact Same.refl _
    | apply Same.step (m := 67108855) (by decide) (sigDeliver_same ..)
    | apply Same.step (m := 67043327) (by decide) (sigForget_same ..)
    | apply Same.step (m := 16277877) (by decide) (sigIn_same ..)
    | apply Same.ite
    | apply Same.ite1
    | apply Same.ite2
    | extract_lets
    | split
    | dsimp -zeta only
    | dsimp +zetaDelta only

theorem State.opNum_same (s : State) :
    Same 67043327 s (State.opNum s).2 := by
  unfold State.opNum
  repeat' with_reducible first
    | exact Same.refl _
    | apply Same.step (m := 67043327) (by decide) (mapBr_same ..)
    | apply Same.ite
    | apply Same.ite1
    | apply Same.ite2
    | extract_lets
    | split
    | dsimp -zeta only
    | dsimp +zetaDelta only

theorem State.raServe_same (s : State) (i : Nat) (b : RaBuf) (addr : Nat) (len : Nat) :
    Same 67043327 s (State.raServe s i b addr len) := by
  unfold State.raServe
  repeat' with_reducible first
    | exact Same.refl _
    | apply Same.step (m := 67043327) (by decide) (mapBr_same ..)
    | apply Same.ite
    | apply Same.ite1
    | apply Same.ite2
    | extract_lets
    | split
    | dsimp -zeta only
    | dsimp +zetaDelta only

theorem State.pollDue_same (s : State) (e : Nat) :
    Same 67039221 s (State.pollDue s e) := by
  unfold State.pollDue
  repeat' with_reducible first
    | exact Same.refl _
    | apply Same.step (m := 67108861) (by decide) (sat_same ..)
    | apply Same.step (m := 67043327) (by decide) (opNum_same ..)
    | apply Same.step (m := 67108853) (by decide) (opReport_same ..)
    | apply Same.step (m := 67108861) (by decide) (set_same ..)
    | apply Same.step (m := 67104757) (by decide) (sbuSend_same ..)
    | apply Same.step (m := 67043327) (by decide) (setSigTgt_same ..)
    | apply Same.step (m := 67043317) (by decide) (sigGo_same ..)
    | apply Same.step (m := 67043327) (by decide) (mapSigTgt_same ..)
    | apply Same.ite
    | apply Same.ite1
    | apply Same.ite2
    | extract_lets
    | split
    | dsimp -zeta only
    | dsimp +zetaDelta only

theorem State.sigSbu_same (s : State) (n : Nat) (b : List (BitVec 8)) :
    Same 49832309 s (State.sigSbu s n b) := by
  unfold State.sigSbu
  repeat' with_reducible first
    | exact Same.refl _
    | apply Same.step (m := 49868661) (by decide) (sigDrain_same ..)
    | apply Same.step (m := 50225525) (by decide) (sigReplyBytes_same ..)
    | apply Same.step (m := 67108853) (by decide) (brCount_same ..)
    | apply Same.ite
    | apply Same.ite1
    | apply Same.ite2
    | extract_lets
    | split
    | dsimp -zeta only
    | dsimp +zetaDelta only

end Sys2Proof.Machine
end

