-- ==== Sys2Proof/Laws/FrameBridgeCmd.lean ====
section
/-! SUPPORT. What each operation of Machine/BridgeCmd.lean may change: every other part of State stays as it is. -/

set_option linter.all false

namespace Sys2Proof.Machine

theorem State.edgeOp_same {K : Nat} (hK : Nat.land K 49868661 = K) (s : State) (h : Nat) (seq : Nat) (port : BitVec 8) (tch : BitVec 8) (lenOk : Bool) (o : RegOp) (f : State → Nat → RegOp → State) (hf : ∀ s c0 c1, Same K s (f s c0 c1)) :
    Same K s (State.edgeOp s h seq port tch lenOk o f) := by
  unfold State.edgeOp
  repeat' with_reducible first
    | exact Same.refl _
    | apply hf
    | apply Same.trans _ (hf _ _ _)
    | apply Same.step (m := 67108853) (sub_trans hK (by decide)) (cmdFail_same ..)
    | apply Same.step (m := 67108853) (sub_trans hK (by decide)) (stale_same ..)
    | apply Same.step (m := 67043327) (sub_trans hK (by decide)) (opNum_same ..)
    | apply Same.step (m := 49868661) (sub_trans hK (by decide)) (sigDrain_same ..)
    | apply Same.ite
    | apply Same.ite1
    | apply Same.ite2
    | extract_lets
    | split
    | dsimp -zeta only
    | dsimp +zetaDelta only

theorem State.opWait_same (s : State) (t : Nat) (o : RegOp) :
    Same 67043317 s (State.opWait s t o) := by
  unfold State.opWait
  repeat' with_reducible first
    | exact Same.refl _
    | apply Same.step (m := 67043317) (by decide) (sigGo_same ..)
    | apply Same.step (m := 67043327) (by decide) (mapSigTgt_same ..)
    | apply Same.ite
    | apply Same.ite1
    | apply Same.ite2
    | extract_lets
    | split
    | dsimp -zeta only
    | dsimp +zetaDelta only

theorem State.edgeRead_same (s : State) (t : Nat) (o : RegOp) :
    Same 67043317 s (State.edgeRead s t o) := by
  unfold State.edgeRead
  repeat' with_reducible first
    | exact Same.refl _
    | apply Same.step (m := 67043317) (by decide) (opWait_same ..)
    | apply Same.step (m := 67043317) (by decide) (raDrop_same ..)
    | apply Same.step (m := 67108855) (by decide) (complete_same ..)
    | apply Same.step (m := 67108855) (by decide) (emit_same ..)
    | apply Same.step (m := 67043327) (by decide) (raServe_same ..)
    | apply Same.ite
    | apply Same.ite1
    | apply Same.ite2
    | extract_lets
    | split
    | dsimp -zeta only
    | dsimp +zetaDelta only

theorem State.fromDock_same (s : State) (n : Fin 16) (tch : Fin 32) (op : Nat) (ch : BitVec 16) (due : Option (BitVec 64)) (payload : List (BitVec 8)) :
    Same 16277877 s (State.fromDock s n tch op ch due payload) := by
  unfold State.fromDock
  repeat' with_reducible first
    | exact Same.refl _
    | apply Same.step (m := 67108861) (by decide) (State.cellsIn_same ..)
    | apply Same.step (m := 50327413) (by decide) (State.cellsOut_same ..)
    | apply Same.step (m := 66846709) (by decide) (State.shutOut_same ..)
    | apply Same.step (m := 16277877) (by decide) (State.sigEnter_same ..)
    | apply Same.ite
    | apply Same.ite1
    | apply Same.ite2
    | extract_lets
    | split
    | dsimp -zeta only
    | dsimp +zetaDelta only

theorem State.respond_same (s : State) (n : Fin 16) (tch : Fin 32) (op : Nat) (q : BitVec 16) (status : BitVec 8) (d : List (BitVec 8)) :
    Same 16277877 s (State.respond s n tch op q status d) := by
  unfold State.respond
  repeat' with_reducible first
    | exact Same.refl _
    | apply Same.step (m := 67108861) (by decide) (State.cellsIn_same ..)
    | apply Same.step (m := 50327413) (by decide) (State.cellsOut_same ..)
    | apply Same.step (m := 66846709) (by decide) (State.shutOut_same ..)
    | apply Same.step (m := 16277877) (by decide) (State.sigEnter_same ..)
    | apply Same.ite
    | apply Same.ite1
    | apply Same.ite2
    | extract_lets
    | split
    | dsimp -zeta only
    | dsimp +zetaDelta only

end Sys2Proof.Machine
end

