-- ==== Sys2Proof/Laws/FrameClasses.lean ====
section
/-! SUPPORT. What each operation of Machine/Classes.lean may change: every other part of State stays as it is. -/

set_option linter.all false

namespace Sys2Proof.Machine

theorem State.acceptSeq_same (s : State) (n : Nat) (seq : Nat) (ack : Bool) :
    Same 67104765 s (State.acceptSeq s n seq ack) := by
  unfold State.acceptSeq
  repeat' with_reducible first
    | exact Same.refl _
    | apply Same.step (m := 67104767) (by decide) (State.mapLk_same ..)
    | apply Same.step (m := 67108861) (by decide) (State.set_same ..)
    | apply Same.ite
    | apply Same.ite1
    | apply Same.ite2
    | extract_lets
    | split
    | dsimp -zeta only
    | dsimp +zetaDelta only

theorem State.allotAck_same (s : State) (n : Nat) (num : Nat) (rx : Bool) :
    Same 67104767 s (State.allotAck s n num rx) := by
  unfold State.allotAck
  repeat' with_reducible first
    | exact Same.refl _
    | apply Same.step (m := 67104767) (by decide) (State.setDir_same ..)
    | apply Same.ite
    | apply Same.ite1
    | apply Same.ite2
    | extract_lets
    | split
    | dsimp -zeta only
    | dsimp +zetaDelta only

theorem State.mgmtErr_same (s : State) (n : Nat) :
    Same 67108853 s (State.mgmtErr s n) := by
  unfold State.mgmtErr
  repeat' with_reducible first
    | exact Same.refl _
    | apply Same.step (m := 67108855) (by decide) (raise_same ..)
    | apply Same.step (m := 67108861) (by decide) (sat_same ..)
    | apply Same.ite
    | apply Same.ite1
    | apply Same.ite2
    | extract_lets
    | split
    | dsimp -zeta only
    | dsimp +zetaDelta only

theorem State.allotNak_same (s : State) (n : Nat) (num : Nat) (rx : Bool) (reason : Nat) :
    Same 67104757 s (State.allotNak s n num rx reason) := by
  unfold State.allotNak
  repeat' with_reducible first
    | exact Same.refl _
    | apply Same.step (m := 67104757) (by decide) (State.allotLate_same ..)
    | apply Same.step (m := 67108853) (by decide) (State.mgmtErr_same ..)
    | apply Same.step (m := 67108855) (by decide) (State.raise_same ..)
    | apply Same.step (m := 67108861) (by decide) (State.set_same ..)
    | apply Same.step (m := 67104767) (by decide) (State.setDir_same ..)
    | apply Same.ite
    | apply Same.ite1
    | apply Same.ite2
    | extract_lets
    | split
    | dsimp -zeta only
    | dsimp +zetaDelta only

theorem State.dlRestart_same (s : State) (n : Nat) :
    Same 50094449 s (State.dlRestart s n) := by
  unfold State.dlRestart
  repeat' with_reducible first
    | exact Same.refl _
    | apply Same.step (m := 67104753) (by decide) (State.bringUp_same ..)
    | apply Same.step (m := 50094453) (by decide) (State.lkDown_same ..)
    | apply Same.step (m := 67104757) (by decide) (State.sealOut_same ..)
    | apply Same.ite
    | apply Same.ite1
    | apply Same.ite2
    | extract_lets
    | split
    | dsimp -zeta only
    | dsimp +zetaDelta only

theorem State.retrainCmd_same (s : State) (n : Nat) (v : Nat) :
    Same 67104757 s (State.retrainCmd s n v) := by
  unfold State.retrainCmd
  repeat' with_reducible first
    | exact Same.refl _
    | apply Same.step (m := 67104767) (by decide) (State.mapLk_same ..)
    | apply Same.step (m := 67104757) (by decide) (State.rtStart_same ..)
    | apply Same.ite
    | apply Same.ite1
    | apply Same.ite2
    | extract_lets
    | split
    | dsimp -zeta only
    | dsimp +zetaDelta only

theorem State.dockFx_same (s : State) (s0 : State) (x : Wr) :
    Same 50094449 s (State.dockFx s s0 x) := by
  unfold State.dockFx
  repeat' with_reducible first
    | exact Same.refl _
    | apply Same.step (m := 67104767) (by decide) (State.allotChanged_same ..)
    | apply Same.step (m := 50094453) (by decide) (State.chClose_same ..)
    | apply Same.step (m := 67104757) (by decide) (State.chOpen_same ..)
    | apply Same.step (m := 50094449) (by decide) (State.dlRestart_same ..)
    | apply Same.step (m := 50094453) (by decide) (State.lkDown_same ..)
    | apply Same.step (m := 67104767) (by decide) (State.mapLk_same ..)
    | apply Same.step (m := 67104757) (by decide) (State.retrainCmd_same ..)
    | apply Same.step (m := 67104757) (by decide) (State.sealOut_same ..)
    | apply Same.step (m := 67104765) (by decide) (State.sendMgmt_same ..)
    | apply Same.step (m := 67108861) (by decide) (State.set_same ..)
    | apply Same.step (m := 67108861) (by decide) (State.showWait_same ..)
    | apply Same.step (m := 67104765) (by decide) (State.slip_same ..)
    | apply Same.ite
    | apply Same.ite1
    | apply Same.ite2
    | extract_lets
    | split
    | dsimp -zeta only
    | dsimp +zetaDelta only

theorem State.chCloseIn_same (s : State) (n : Nat) (cls : Nat) (idx : Nat) (gen : Nat) :
    Same 50094453 s (State.chCloseIn s n cls idx gen) := by
  unfold State.chCloseIn
  repeat' with_reducible first
    | exact Same.refl _
    | apply Same.step (m := 67108853) (by decide) (mgmtErr_same ..)
    | apply Same.step (m := 50094453) (by decide) (chClose_same ..)
    | apply Same.step (m := 67108853) (by decide) (stale_same ..)
    | apply Same.ite
    | apply Same.ite1
    | apply Same.ite2
    | extract_lets
    | split
    | dsimp -zeta only
    | dsimp +zetaDelta only

theorem State.fwdLearn_same (s : State) (p : Nat) (b : List (BitVec 8)) :
    Same 67104765 s (State.fwdLearn s p b) := by
  unfold State.fwdLearn
  repeat' with_reducible first
    | exact Same.refl _
    | apply Same.step (m := 67108861) (by decide) (sat_same ..)
    | apply Same.step (m := 67104767) (by decide) (mapLinks_same ..)
    | apply Same.ite
    | apply Same.ite1
    | apply Same.ite2
    | extract_lets
    | split
    | dsimp -zeta only
    | dsimp +zetaDelta only

theorem State.fwdSend_same (s : State) (p : Nat) (b : List (BitVec 8)) :
    Same 67108735 s (State.fwdSend s p b) := by
  unfold State.fwdSend
  repeat' with_reducible first
    | exact Same.refl _
    | apply Same.step (m := 67108735) (by decide) (State.corePush_same ..)
    | apply Same.ite
    | apply Same.ite1
    | apply Same.ite2
    | extract_lets
    | split
    | dsimp -zeta only
    | dsimp +zetaDelta only

theorem State.fwdGo_same (s : State) (p : Nat) (b : List (BitVec 8)) :
    Same 67104637 s (State.fwdGo s p b) := by
  unfold State.fwdGo
  repeat' with_reducible first
    | exact Same.refl _
    | apply Same.step (m := 67104765) (by decide) (State.fwdLearn_same ..)
    | apply Same.step (m := 67108735) (by decide) (State.fwdSend_same ..)
    | apply Same.trans _ (foldl_same _ _ _ (fun _ _ => ?_))
    | apply Same.trans _ (foldl_same1 _ _ _ (fun _ _ => ?_))
    | apply Same.ite
    | apply Same.ite1
    | apply Same.ite2
    | extract_lets
    | split
    | dsimp -zeta only
    | dsimp +zetaDelta only

theorem State.ethIn_same (s : State) (p : Nat) (pair : Nat) (b : List (BitVec 8)) :
    Same 67108733 s (State.ethIn s p pair b) := by
  unfold State.ethIn
  repeat' with_reducible first
    | exact Same.refl _
    | apply Same.step (m := 67108735) (by decide) (State.corePush_same ..)
    | apply Same.step (m := 67108861) (by decide) (State.sat_same ..)
    | apply Same.ite
    | apply Same.ite1
    | apply Same.ite2
    | extract_lets
    | split
    | dsimp -zeta only
    | dsimp +zetaDelta only

theorem State.tlpUp_same (s : State) (n : Nat) (i : Nat) (b : List (BitVec 8)) :
    Same 67108727 s (State.tlpUp s n i b) := by
  unfold State.tlpUp
  repeat' with_reducible first
    | exact Same.refl _
    | apply Same.step (m := 67108735) (by decide) (State.corePush_same ..)
    | apply Same.step (m := 67108855) (by decide) (State.emit_same ..)
    | apply Same.ite
    | apply Same.ite1
    | apply Same.ite2
    | extract_lets
    | split
    | dsimp -zeta only
    | dsimp +zetaDelta only

theorem State.describe_same (s : State) (n : Nat) (d : DescribeMsg) :
    Same 50094453 s (State.describe s n d) := by
  unfold State.describe
  repeat' with_reducible first
    | exact Same.refl _
    | apply Same.step (m := 50094453) (by decide) (State.chClose_same ..)
    | apply Same.step (m := 67104757) (by decide) (State.chWant_same ..)
    | apply Same.step (m := 67104767) (by decide) (State.mapLk_same ..)
    | apply Same.step (m := 67108853) (by decide) (State.mgmtErr_same ..)
    | apply Same.step (m := 67108855) (by decide) (State.raise_same ..)
    | apply Same.step (m := 67104765) (by decide) (State.sendMgmt_same ..)
    | apply Same.step (m := 67108861) (by decide) (State.sets_same ..)
    | apply Same.trans _ (foldl_same _ _ _ (fun _ _ => ?_))
    | apply Same.trans _ (foldl_same1 _ _ _ (fun _ _ => ?_))
    | apply Same.ite
    | apply Same.ite1
    | apply Same.ite2
    | extract_lets
    | split
    | dsimp -zeta only
    | dsimp +zetaDelta only

theorem State.ltol_same (s : State) (n : Nat) (ns : Nat) :
    Same 50327541 s (State.ltol s n ns) := by
  unfold State.ltol
  repeat' with_reducible first
    | exact Same.refl _
    | apply Same.step (m := 50327541) (by decide) (selectState_same ..)
    | apply Same.step (m := 67108861) (by decide) (set_same ..)
    | apply Same.ite
    | apply Same.ite1
    | apply Same.ite2
    | extract_lets
    | split
    | dsimp -zeta only
    | dsimp +zetaDelta only

theorem State.rtTarget_same (s : State) (n : Nat) (r1 : Nat) (m1 : Nat) (r2 : Nat) (m2 : Nat) (enc : Bool) :
    Same 50094453 s (State.rtTarget s n r1 m1 r2 m2 enc) := by
  unfold State.rtTarget
  repeat' with_reducible first
    | exact Same.refl _
    | apply Same.step (m := 50094453) (by decide) (State.lkDown_same ..)
    | apply Same.step (m := 67104767) (by decide) (State.mapLk_same ..)
    | apply Same.ite
    | apply Same.ite1
    | apply Same.ite2
    | extract_lets
    | split
    | dsimp -zeta only
    | dsimp +zetaDelta only

theorem State.rtReqIn_same (s : State) (n : Nat) (r : RetrainMsg) :
    Same 50094453 s (State.rtReqIn s n r) := by
  unfold State.rtReqIn
  repeat' with_reducible first
    | exact Same.refl _
    | apply Same.step (m := 67104767) (by decide) (State.declare_same ..)
    | apply Same.step (m := 67104757) (by decide) (State.leaveNarrow_same ..)
    | apply Same.step (m := 50094453) (by decide) (State.protocol_same ..)
    | apply Same.step (m := 67108861) (by decide) (State.put_same ..)
    | apply Same.step (m := 67108855) (by decide) (State.raise_same ..)
    | apply Same.step (m := 50094453) (by decide) (State.rtTarget_same ..)
    | apply Same.step (m := 67104765) (by decide) (State.sendMgmt_same ..)
    | apply Same.ite
    | apply Same.ite1
    | apply Same.ite2
    | extract_lets
    | split
    | dsimp -zeta only
    | dsimp +zetaDelta only

theorem State.rtAckIn_same (s : State) (n : Nat) (r : RetrainMsg) :
    Same 50094453 s (State.rtAckIn s n r) := by
  unfold State.rtAckIn
  repeat' with_reducible first
    | exact Same.refl _
    | apply Same.step (m := 50094453) (by decide) (protocol_same ..)
    | apply Same.step (m := 50094453) (by decide) (rtTarget_same ..)
    | apply Same.step (m := 67104757) (by decide) (pauseBegin_same ..)
    | apply Same.ite
    | apply Same.ite1
    | apply Same.ite2
    | extract_lets
    | split
    | dsimp -zeta only
    | dsimp +zetaDelta only

theorem State.vendor_same (s : State) (n : Nat) (code : Nat) (b : List (BitVec 8)) :
    Same 67108855 s (State.vendor s n code b) := by
  unfold State.vendor
  repeat' with_reducible first
    | exact Same.refl _
    | apply Same.step (m := 67108855) (by decide) (emit_same ..)
    | apply Same.ite
    | apply Same.ite1
    | apply Same.ite2
    | extract_lets
    | split
    | dsimp -zeta only
    | dsimp +zetaDelta only

theorem State.mgmtIn_same (s : State) (n : Nat) (b : List (BitVec 8)) :
    Same 50094453 s (State.mgmtIn s n b) := by
  unfold State.mgmtIn
  repeat' with_reducible first
    | exact Same.refl _
    | apply Same.step (m := 67104767) (by decide) (State.allotAck_same ..)
    | apply Same.step (m := 67104757) (by decide) (State.allotNak_same ..)
    | apply Same.step (m := 50094453) (by decide) (State.chCloseIn_same ..)
    | apply Same.step (m := 50094453) (by decide) (State.describe_same ..)
    | apply Same.step (m := 50327541) (by decide) (State.ltol_same ..)
    | apply Same.step (m := 67108853) (by decide) (State.mgmtErr_same ..)
    | apply Same.step (m := 50094453) (by decide) (State.protocol_same ..)
    | apply Same.step (m := 50094453) (by decide) (State.rtAckIn_same ..)
    | apply Same.step (m := 50094453) (by decide) (State.rtReqIn_same ..)
    | apply Same.step (m := 67108855) (by decide) (State.vendor_same ..)
    | apply Same.ite
    | apply Same.ite1
    | apply Same.ite2
    | extract_lets
    | split
    | dsimp -zeta only
    | dsimp +zetaDelta only

theorem State.classMsg_same (s : State) (n : Nat) (c : Nat) (i : Nat) (b : List (BitVec 8)) :
    Same 50094453 s (State.classMsg s n c i b) := by
  unfold State.classMsg
  repeat' with_reducible first
    | exact Same.refl _
    | apply Same.step (m := 67108855) (by decide) (State.emit_same ..)
    | apply Same.step (m := 67108733) (by decide) (State.ethIn_same ..)
    | apply Same.step (m := 50094453) (by decide) (State.mgmtIn_same ..)
    | apply Same.step (m := 67108861) (by decide) (State.sat_same ..)
    | apply Same.step (m := 67043327) (by decide) (State.sigPush_same ..)
    | apply Same.step (m := 67108727) (by decide) (State.tlpUp_same ..)
    | apply Same.ite
    | apply Same.ite1
    | apply Same.ite2
    | extract_lets
    | split
    | dsimp -zeta only
    | dsimp +zetaDelta only

theorem State.nak_same (s : State) (n : Nat) :
    Same 67104767 s (State.nak s n) := by
  unfold State.nak
  repeat' with_reducible first
    | exact Same.refl _
    | apply Same.step (m := 67104767) (by decide) (State.setLk_same ..)
    | apply Same.ite
    | apply Same.ite1
    | apply Same.ite2
    | extract_lets
    | split
    | dsimp -zeta only
    | dsimp +zetaDelta only

theorem State.winIn_same (s : State) (n : Nat) (bad : Bool) :
    Same 67104767 s (State.winIn s n bad) := by
  unfold State.winIn
  repeat' with_reducible first
    | exact Same.refl _
    | apply Same.step (m := 67104767) (by decide) (State.setLk_same ..)
    | apply Same.ite
    | apply Same.ite1
    | apply Same.ite2
    | extract_lets
    | split
    | dsimp -zeta only
    | dsimp +zetaDelta only

theorem State.rxTime_same (s : State) (n : Nat) (bad : Bool) :
    Same 67104765 s (State.rxTime s n bad) := by
  unfold State.rxTime
  repeat' with_reducible first
    | exact Same.refl _
    | apply Same.step (m := 67104767) (by decide) (State.mapLk_same ..)
    | apply Same.step (m := 67104767) (by decide) (State.winIn_same ..)
    | apply Same.step (m := 67108861) (by decide) (State.wrap_same ..)
    | apply Same.ite
    | apply Same.ite1
    | apply Same.ite2
    | extract_lets
    | split
    | dsimp -zeta only
    | dsimp +zetaDelta only

theorem State.crcBad_same (s : State) (n : Nat) (fixed : Nat) :
    Same 50094453 s (State.crcBad s n fixed) := by
  unfold State.crcBad
  repeat' with_reducible first
    | exact Same.refl _
    | apply Same.step (m := 50094453) (by decide) (State.lkDown_same ..)
    | apply Same.step (m := 67104767) (by decide) (State.nak_same ..)
    | apply Same.step (m := 67104757) (by decide) (State.rtStart_same ..)
    | apply Same.step (m := 67104765) (by decide) (State.rxTime_same ..)
    | apply Same.step (m := 67108861) (by decide) (State.sat_same ..)
    | apply Same.ite
    | apply Same.ite1
    | apply Same.ite2
    | extract_lets
    | split
    | dsimp -zeta only
    | dsimp +zetaDelta only

theorem State.rxFlit_same {K : Nat} (hK : Nat.land K 50094453 = K) (s : State) (n : Nat) (h : FlitHdr) (f : State → State) (hf : ∀ s, Same K s (f s)) :
    Same K s (State.rxFlit s n h f) := by
  unfold State.rxFlit
  repeat' with_reducible first
    | exact Same.refl _
    | apply Same.trans _ (hf _)
    | apply Same.step (m := 50094453) (sub_trans hK (by decide)) (State.crcBad_same ..)
    | apply Same.step (m := 67108861) (sub_trans hK (by decide)) (State.sat_same ..)
    | apply Same.ite
    | apply Same.ite1
    | apply Same.ite2
    | extract_lets
    | split
    | dsimp -zeta only
    | dsimp +zetaDelta only

theorem State.replayFrom_same (s : State) (n : Nat) (q : Nat) :
    Same 50094453 s (State.replayFrom s n q) := by
  unfold State.replayFrom
  repeat' with_reducible first
    | exact Same.refl _
    | apply Same.step (m := 50094453) (by decide) (State.lkDown_same ..)
    | apply Same.step (m := 67104765) (by decide) (State.startReplay_same ..)
    | apply Same.ite
    | apply Same.ite1
    | apply Same.ite2
    | extract_lets
    | split
    | dsimp -zeta only
    | dsimp +zetaDelta only

theorem State.resumed_same (s : State) (n : Nat) :
    Same 50094453 s (State.resumed s n) := by
  unfold State.resumed
  repeat' with_reducible first
    | exact Same.refl _
    | apply Same.step (m := 67108855) (by decide) (State.raise_same ..)
    | apply Same.step (m := 50094453) (by decide) (State.replayFrom_same ..)
    | apply Same.step (m := 67108861) (by decide) (State.sat_same ..)
    | apply Same.step (m := 67108861) (by decide) (State.set_same ..)
    | apply Same.step (m := 67104767) (by decide) (State.setLk_same ..)
    | apply Same.ite
    | apply Same.ite1
    | apply Same.ite2
    | extract_lets
    | split
    | dsimp -zeta only
    | dsimp +zetaDelta only

theorem State.takeAck_same (s : State) (n : Nat) (a : Nat) :
    Same 67039229 s (State.takeAck s n a) := by
  unfold State.takeAck
  repeat' with_reducible first
    | exact Same.refl _
    | apply Same.step (m := 67108861) (by decide) (State.set_same ..)
    | apply Same.step (m := 67104767) (by decide) (State.setLk_same ..)
    | apply Same.step (m := 67108861) (by decide) (State.showMirror_same ..)
    | apply Same.step (m := 67043327) (by decide) (State.sigForget_same ..)
    | apply Same.trans _ (foldl_same _ _ _ (fun _ _ => ?_))
    | apply Same.trans _ (foldl_same1 _ _ _ (fun _ _ => ?_))
    | apply Same.ite
    | apply Same.ite1
    | apply Same.ite2
    | extract_lets
    | split
    | dsimp -zeta only
    | dsimp +zetaDelta only

theorem State.takeCr_same (s : State) (n : Nat) (c : Nat) (v : Nat) :
    Same 67104765 s (State.takeCr s n c v) := by
  unfold State.takeCr
  repeat' with_reducible first
    | exact Same.refl _
    | apply Same.step (m := 67108861) (by decide) (State.set_same ..)
    | apply Same.step (m := 67104767) (by decide) (State.setLk_same ..)
    | apply Same.ite
    | apply Same.ite1
    | apply Same.ite2
    | extract_lets
    | split
    | dsimp -zeta only
    | dsimp +zetaDelta only

theorem State.rxHead_same (s : State) (n : Nat) (h : FlitHdr) (sequenced : Bool) :
    Same 50094453 s (State.rxHead s n h sequenced) := by
  unfold State.rxHead
  repeat' with_reducible first
    | exact Same.refl _
    | apply Same.step (m := 67104767) (by decide) (State.nak_same ..)
    | apply Same.step (m := 50094453) (by decide) (State.resumed_same ..)
    | apply Same.step (m := 67104765) (by decide) (State.rxTime_same ..)
    | apply Same.step (m := 67039229) (by decide) (State.takeAck_same ..)
    | apply Same.step (m := 67104765) (by decide) (State.takeCr_same ..)
    | apply Same.ite
    | apply Same.ite1
    | apply Same.ite2
    | extract_lets
    | split
    | dsimp -zeta only
    | dsimp +zetaDelta only

theorem State.rxGood_same {K : Nat} (hK : Nat.land K 50094453 = K) (s : State) (n : Nat) (h : FlitHdr) (sequenced : Bool) (f : State → State)
    (hf : ∀ s, Same K s (f s)) : Same K s (State.rxGood s n h sequenced f) := by
  unfold State.rxGood
  apply State.rxFlit_same hK
  intro s
  repeat' with_reducible first
    | exact Same.refl _
    | apply Same.trans _ (hf _)
    | apply Same.step (m := 50094453) (sub_trans hK (by decide)) (State.rxHead_same ..)
    | apply Same.step (m := 67104765) (sub_trans hK (by decide)) (State.rxTime_same ..)
    | apply Same.ite
    | apply Same.ite1
    | apply Same.ite2
    | extract_lets
    | split
    | dsimp -zeta only
    | dsimp +zetaDelta only

theorem State.outOfOrder_opt (s : State) (n : Nat) (seq : Nat) :
    SameOpt 67104765 s (State.outOfOrder s n seq) := by
  unfold State.outOfOrder
  repeat' with_reducible first
    | exact Same.refl _
    | exact SameOpt.none
    | apply SameOpt.some
    | apply SameOpt.ite
    | apply SameOpt.map (fun _ => ?_)
    | apply Same.step (m := 67104767) (by decide) (nak_same ..)
    | apply Same.step (m := 67104765) (by decide) (unstage_same ..)
    | apply Same.step (m := 67108861) (by decide) (sat_same ..)
    | apply Same.ite
    | apply Same.ite1
    | apply Same.ite2
    | extract_lets
    | split
    | dsimp -zeta only
    | dsimp +zetaDelta only

theorem State.outOfOrder_same {s : State} {n : Nat} {seq : Nat} {t : State} (e : (State.outOfOrder s n seq) = some t) : Same 67104765 s t := (State.outOfOrder_opt _ _ _).of e

theorem State.msgDrop_same (s : State) (n : Nat) (w : Nat) (ended : Bool) :
    Same 67104765 s (State.msgDrop s n w ended) := by
  unfold State.msgDrop
  repeat' with_reducible first
    | exact Same.refl _
    | apply Same.step (m := 67104767) (by decide) (State.mapLk_same ..)
    | apply Same.step (m := 67108861) (by decide) (State.sat_same ..)
    | apply Same.ite
    | apply Same.ite1
    | apply Same.ite2
    | extract_lets
    | split
    | dsimp -zeta only
    | dsimp +zetaDelta only

theorem State.segStale_same (s : State) (n : Nat) (w : Nat) (eom : Bool) :
    Same 67108853 s (State.segStale s n w eom) := by
  unfold State.segStale
  repeat' with_reducible first
    | exact Same.refl _
    | apply Same.step (m := 67108861) (by decide) (State.sat_same ..)
    | apply Same.step (m := 67108853) (by decide) (State.stale_same ..)
    | apply Same.ite
    | apply Same.ite1
    | apply Same.ite2
    | extract_lets
    | split
    | dsimp -zeta only
    | dsimp +zetaDelta only

theorem State.segBad_same (s : State) (n : Nat) (c : Nat) (i : Nat) (gen : Nat) (som : Bool) (eom : Bool) :
    Same 67104757 s (State.segBad s n c i gen som eom) := by
  unfold State.segBad
  repeat' with_reducible first
    | exact Same.refl _
    | apply Same.step (m := 67104767) (by decide) (State.mapLk_same ..)
    | apply Same.step (m := 67104765) (by decide) (State.msgDrop_same ..)
    | apply Same.step (m := 67108853) (by decide) (State.segStale_same ..)
    | apply Same.ite
    | apply Same.ite1
    | apply Same.ite2
    | extract_lets
    | split
    | dsimp -zeta only
    | dsimp +zetaDelta only

theorem State.segIn_same (s : State) (n : Nat) (c : Nat) (i : Nat) (gen : Nat) (som : Bool) (eom : Bool) (b : List (BitVec 8)) :
    Same 50094453 s (State.segIn s n c i gen som eom b) := by
  unfold State.segIn
  repeat' with_reducible first
    | exact Same.refl _
    | apply Same.step (m := 50094453) (by decide) (State.classMsg_same ..)
    | apply Same.step (m := 67104767) (by decide) (State.mapLk_same ..)
    | apply Same.step (m := 67104765) (by decide) (State.msgDrop_same ..)
    | apply Same.step (m := 67108853) (by decide) (State.segStale_same ..)
    | apply Same.ite
    | apply Same.ite1
    | apply Same.ite2
    | extract_lets
    | split
    | dsimp -zeta only
    | dsimp +zetaDelta only

theorem State.handOn_same (s : State) (n : Nat) (f : RxFlit) :
    Same 50094453 s (State.handOn s n f) := by
  unfold State.handOn
  repeat' with_reducible first
    | exact Same.refl _
    | apply Same.step (m := 67104767) (by decide) (State.giveCredit_same ..)
    | apply Same.step (m := 67104767) (by decide) (State.mapLk_same ..)
    | apply Same.step (m := 67108853) (by decide) (State.mgmtErr_same ..)
    | apply Same.step (m := 67104757) (by decide) (State.segBad_same ..)
    | apply Same.step (m := 50094453) (by decide) (State.segIn_same ..)
    | apply Same.trans _ (foldl_same _ _ _ (fun _ _ => ?_))
    | apply Same.trans _ (foldl_same1 _ _ _ (fun _ _ => ?_))
    | apply Same.ite
    | apply Same.ite1
    | apply Same.ite2
    | extract_lets
    | split
    | dsimp -zeta only
    | dsimp +zetaDelta only

theorem State.dataIn_same (s : State) (n : Nat) (h : FlitHdr) (f : RxFlit) :
    Same 50094453 s (State.dataIn s n h f) := by
  unfold State.dataIn
  repeat' with_reducible first
    | exact Same.refl _
    | apply Same.step (m := 67104765) (by decide) (State.acceptSeq_same ..)
    | apply Same.step (m := 50094453) (by decide) (State.handOn_same ..)
    | apply Same.step (m := 67104767) (by decide) (State.mapLk_same ..)
    | apply Same.step (k := 50094453) (m := 67104765) (by decide) (State.outOfOrder_same (by assumption))
    | apply Same.step (m := 50094453) (by decide) (State.protocol_same ..)
    | apply Same.trans _ (State.rxGood_same (K := 50094453) (by decide) _ _ _ _ _ (fun _ => ?_))
    | apply Same.ite
    | apply Same.ite1
    | apply Same.ite2
    | extract_lets
    | split
    | dsimp -zeta only
    | dsimp +zetaDelta only

theorem State.handGroup_same (s : State) (n : Nat) (key : Option Nat) (iv : List (BitVec 8)) (g : List RxFlit) :
    Same 50094453 s (State.handGroup s n key iv g) := by
  unfold State.handGroup
  repeat' with_reducible first
    | exact Same.refl _
    | apply Same.step (m := 50094453) (by decide) (State.handOn_same ..)
    | apply Same.trans _ (foldl_same _ _ _ (fun _ _ => ?_))
    | apply Same.trans _ (foldl_same1 _ _ _ (fun _ _ => ?_))
    | apply Same.ite
    | apply Same.ite1
    | apply Same.ite2
    | extract_lets
    | split
    | dsimp -zeta only
    | dsimp +zetaDelta only

theorem State.echoIn_same (s : State) (n : Nat) (num : Nat) (turn : Nat) (dev : Nat) :
    Same 50327541 s (State.echoIn s n num turn dev) := by
  unfold State.echoIn
  repeat' with_reducible first
    | exact Same.refl _
    | apply Same.step (m := 67104767) (by decide) (State.mapLk_same ..)
    | apply Same.step (m := 50327541) (by decide) (State.selectState_same ..)
    | apply Same.step (m := 67108861) (by decide) (State.sets_same ..)
    | apply Same.ite
    | apply Same.ite1
    | apply Same.ite2
    | extract_lets
    | split
    | dsimp -zeta only
    | dsimp +zetaDelta only

theorem State.initIn_same (s : State) (n : Nat) (version : Nat) (enc : Bool) (credits : List Nat) (depth : Nat) (id : Nat) :
    Same 50078069 s (State.initIn s n version enc credits depth id) := by
  unfold State.initIn
  repeat' with_reducible first
    | exact Same.refl _
    | apply Same.step (m := 50094453) (by decide) (State.encAgreed_same ..)
    | apply Same.step (m := 67088373) (by decide) (State.initDone_same ..)
    | apply Same.step (m := 67104767) (by decide) (State.mapLk_same ..)
    | apply Same.step (m := 50094453) (by decide) (State.protocol_same ..)
    | apply Same.step (m := 67108861) (by decide) (State.sets_same ..)
    | apply Same.ite
    | apply Same.ite1
    | apply Same.ite2
    | extract_lets
    | split
    | dsimp -zeta only
    | dsimp +zetaDelta only

theorem State.plainIn_same {K : Nat} (hK : Nat.land K 50094453 = K) (s : State) (n : Nat) (h : FlitHdr) (f : State → State) (hf : ∀ s, Same K s (f s)) :
    Same K s (State.plainIn s n h f) := by
  unfold State.plainIn
  repeat' with_reducible first
    | exact Same.refl _
    | exact State.rxGood_same hK _ _ _ _ _ hf
    | apply hf
    | apply Same.trans _ (hf _)
    | apply Same.step (m := 50094453) (sub_trans hK (by decide)) (rxHead_same ..)
    | apply Same.ite
    | apply Same.ite1
    | apply Same.ite2
    | extract_lets
    | split
    | dsimp -zeta only
    | dsimp +zetaDelta only

theorem State.nakIn_same (s : State) (n : Nat) (h : FlitHdr) :
    Same 50094453 s (State.nakIn s n h) := by
  unfold State.nakIn
  repeat' with_reducible first
    | exact Same.refl _
    | apply Same.trans _ (State.plainIn_same (K := 50094453) (by decide) _ _ _ _ (fun _ => ?_))
    | apply Same.step (m := 50094453) (by decide) (replayFrom_same ..)
    | apply Same.step (m := 67108861) (by decide) (sat_same ..)
    | apply Same.ite
    | apply Same.ite1
    | apply Same.ite2
    | extract_lets
    | split
    | dsimp -zeta only
    | dsimp +zetaDelta only

theorem State.pauseIn_same (s : State) (n : Nat) (h : FlitHdr) :
    Same 50094449 s (State.pauseIn s n h) := by
  unfold State.pauseIn
  repeat' with_reducible first
    | exact Same.refl _
    | apply Same.trans _ (State.plainIn_same (K := 50094449) (by decide) _ _ _ _ (fun _ => ?_))
    | apply Same.step (m := 67104767) (by decide) (State.mapLk_same ..)
    | apply Same.step (m := 67104757) (by decide) (State.pauseBegin_same ..)
    | apply Same.step (m := 50094453) (by decide) (State.plainIn_same ..)
    | apply Same.step (m := 50094453) (by decide) (State.protocol_same ..)
    | apply Same.step (m := 50094449) (by decide) (State.toRetrain_same ..)
    | apply Same.ite
    | apply Same.ite1
    | apply Same.ite2
    | extract_lets
    | split
    | dsimp -zeta only
    | dsimp +zetaDelta only

theorem State.pmReqIn_same (s : State) (n : Nat) (st : Nat) :
    Same 67104765 s (State.pmReqIn s n st) := by
  unfold State.pmReqIn
  repeat' with_reducible first
    | exact Same.refl _
    | apply Same.step (m := 67108861) (by decide) (State.laneFresh_same ..)
    | apply Same.step (m := 67104767) (by decide) (State.mapLk_same ..)
    | apply Same.step (m := 67104767) (by decide) (State.setLk_same ..)
    | apply Same.ite
    | apply Same.ite1
    | apply Same.ite2
    | extract_lets
    | split
    | dsimp -zeta only
    | dsimp +zetaDelta only

theorem State.pmIn_same (s : State) (n : Nat) (h : FlitHdr) (op : Nat) (st : Nat) (cnt : Nat) :
    Same 50094453 s (State.pmIn s n h op st cnt) := by
  unfold State.pmIn
  repeat' with_reducible first
    | exact Same.refl _
    | apply Same.trans _ (State.plainIn_same (K := 50094453) (by decide) _ _ _ _ (fun _ => ?_))
    | apply Same.step (m := 50327541) (by decide) (State.dockEnter_same ..)
    | apply Same.step (m := 67104757) (by decide) (State.dockWide_same ..)
    | apply Same.step (m := 50094453) (by decide) (State.plainIn_same ..)
    | apply Same.step (m := 67104765) (by decide) (State.pmReqIn_same ..)
    | apply Same.step (m := 50094453) (by decide) (State.protocol_same ..)
    | apply Same.step (m := 67104767) (by decide) (State.setLk_same ..)
    | apply Same.ite
    | apply Same.ite1
    | apply Same.ite2
    | extract_lets
    | split
    | dsimp -zeta only
    | dsimp +zetaDelta only

theorem State.sbuGood_same (s : State) (n : Nat) :
    Same 67108853 s (State.sbuGood s n) := by
  unfold State.sbuGood
  repeat' with_reducible first
    | exact Same.refl _
    | apply Same.step (m := 67108855) (by decide) (raise_same ..)
    | apply Same.step (m := 67108861) (by decide) (set_same ..)
    | apply Same.ite
    | apply Same.ite1
    | apply Same.ite2
    | extract_lets
    | split
    | dsimp -zeta only
    | dsimp +zetaDelta only

theorem State.sbuNext_same (s : State) (n : Nat) :
    Same 67104757 s (State.sbuNext s n) := by
  unfold State.sbuNext
  repeat' with_reducible first
    | exact Same.refl _
    | apply Same.step (m := 67104767) (by decide) (State.mapLk_same ..)
    | apply Same.step (m := 67108855) (by decide) (State.sbuOut_same ..)
    | apply Same.step (m := 67108861) (by decide) (State.set_same ..)
    | apply Same.ite
    | apply Same.ite1
    | apply Same.ite2
    | extract_lets
    | split
    | dsimp -zeta only
    | dsimp +zetaDelta only

theorem State.sbuAck_same (s : State) (n : Nat) (acked : Nat) (crcOk : Bool) :
    Same 67104757 s (State.sbuAck s n acked crcOk) := by
  unfold State.sbuAck
  repeat' with_reducible first
    | exact Same.refl _
    | apply Same.step (m := 67108861) (by decide) (State.sat_same ..)
    | apply Same.step (m := 67108853) (by decide) (State.sbuGood_same ..)
    | apply Same.step (m := 67104757) (by decide) (State.sbuNext_same ..)
    | apply Same.step (m := 67104767) (by decide) (State.setLk_same ..)
    | apply Same.ite
    | apply Same.ite1
    | apply Same.ite2
    | extract_lets
    | split
    | dsimp -zeta only
    | dsimp +zetaDelta only

theorem State.sbuIn_same {K : Nat} (hK : Nat.land K 67104757 = K) (s : State) (n : Nat) (seq : Nat) (crcOk : Bool) (f : State → State) (hf : ∀ s, Same K s (f s)) :
    Same K s (State.sbuIn s n seq crcOk f) := by
  unfold State.sbuIn
  repeat' with_reducible first
    | exact Same.refl _
    | apply Same.step (m := 67104767) (sub_trans hK (by decide)) (State.mapLk_same ..)
    | apply Same.step (m := 67108855) (sub_trans hK (by decide)) (State.sbuOut_same ..)
    | apply hf
    | apply Same.trans _ (hf _)
    | apply Same.step (m := 67108861) (sub_trans hK (by decide)) (sat_same ..)
    | apply Same.step (m := 67108855) (sub_trans hK (by decide)) (emit_same ..)
    | apply Same.step (m := 67108853) (sub_trans hK (by decide)) (sbuGood_same ..)
    | apply Same.step (m := 67108861) (sub_trans hK (by decide)) (set_same ..)
    | apply Same.ite
    | apply Same.ite1
    | apply Same.ite2
    | extract_lets
    | split
    | dsimp -zeta only
    | dsimp +zetaDelta only

theorem State.sbuMgmt_same (s : State) (n : Nat) (b : List (BitVec 8)) :
    Same 50094453 s (State.sbuMgmt s n b) := by
  unfold State.sbuMgmt
  repeat' with_reducible first
    | exact Same.refl _
    | apply Same.step (m := 67108853) (by decide) (mgmtErr_same ..)
    | apply Same.step (m := 50094453) (by decide) (mgmtIn_same ..)
    | apply Same.ite
    | apply Same.ite1
    | apply Same.ite2
    | extract_lets
    | split
    | dsimp -zeta only
    | dsimp +zetaDelta only

theorem State.sbuTimeout_same (s : State) (n : Nat) :
    Same 67104757 s (State.sbuTimeout s n) := by
  unfold State.sbuTimeout
  repeat' with_reducible first
    | exact Same.refl _
    | apply Same.step (m := 67108855) (by decide) (State.raise_same ..)
    | apply Same.step (m := 67108855) (by decide) (State.sbuOut_same ..)
    | apply Same.step (m := 67108861) (by decide) (State.set_same ..)
    | apply Same.step (m := 67104767) (by decide) (State.setLk_same ..)
    | apply Same.ite
    | apply Same.ite1
    | apply Same.ite2
    | extract_lets
    | split
    | dsimp -zeta only
    | dsimp +zetaDelta only

theorem State.sealIn_same (s : State) (n : Nat) (h : FlitHdr) (tag : BitVec 128) (counter : Nat) (count : Nat) :
    Same 50094453 s (State.sealIn s n h tag counter count) := by
  unfold State.sealIn
  repeat' with_reducible first
    | exact Same.refl _
    | apply Same.step (m := 67104765) (by decide) (State.acceptSeq_same ..)
    | apply Same.step (m := 50094453) (by decide) (State.handGroup_same ..)
    | apply Same.step (m := 50094453) (by decide) (State.lkDown_same ..)
    | apply Same.step (m := 67104767) (by decide) (State.mapLk_same ..)
    | apply Same.step (m := 67104767) (by decide) (State.nak_same ..)
    | apply Same.step (k := 50094453) (m := 67104765) (by decide) (State.outOfOrder_same (by assumption))
    | apply Same.step (m := 67108855) (by decide) (State.raise_same ..)
    | apply Same.trans _ (State.rxGood_same (K := 50094453) (by decide) _ _ _ _ _ (fun _ => ?_))
    | apply Same.step (m := 67108861) (by decide) (State.sat_same ..)
    | apply Same.step (m := 67104765) (by decide) (State.unstage_same ..)
    | apply Same.ite
    | apply Same.ite1
    | apply Same.ite2
    | extract_lets
    | split
    | dsimp -zeta only
    | dsimp +zetaDelta only

end Sys2Proof.Machine
end

