-- ==== Sys2Proof/Laws/FrameCoreCmd.lean ====
section
/-! SUPPORT. What each operation of Machine/CoreCmd.lean may change: every other part of State stays as it is. -/

set_option linter.all false

namespace Sys2Proof.Machine

theorem State.quarEnd_same (s : State) (kind : Nat) (id : Nat) :
    Same 50226533 s (State.quarEnd s kind id) := by
  unfold State.quarEnd
  repeat' with_reducible first
    | exact Same.refl _
    | apply Same.step (m := 67106815) (by decide) (setFn_same ..)
    | apply Same.step (m := 67104757) (by decide) (chFree_same ..)
    | apply Same.step (m := 67043327) (by decide) (mapBr_same ..)
    | apply Same.step (m := 50292085) (by decide) (advance_same ..)
    | apply Same.step (m := 50326901) (by decide) (xPump_same ..)
    | apply Same.step (m := 67108351) (by decide) (setXtag_same ..)
    | apply Same.step (m := 67043327) (by decide) (setSemTok_same ..)
    | apply Same.step (m := 67108847) (by decide) (setSlot_same ..)
    | apply Same.ite
    | apply Same.ite1
    | apply Same.ite2
    | extract_lets
    | split
    | dsimp -zeta only
    | dsimp +zetaDelta only

end Sys2Proof.Machine
end

