-- ==== Sys2Proof/Laws/FrameDockCmd.lean ====
section
/-! SUPPORT. What each operation of Machine/DockCmd.lean may change: every other part of State stays as it is. -/

set_option linter.all false

namespace Sys2Proof.Machine

theorem State.macroDead_same (s : State) (m : Nat) :
    Same 49570149 s (State.macroDead s m) := by
  unfold State.macroDead
  repeat' with_reducible first
    | exact Same.refl _
    | apply Same.step (m := 49570149) (by decide) (portDown_same ..)
    | apply Same.step (m := 67108853) (by decide) (laneEv_same ..)
    | apply Same.step (m := 67104765) (by decide) (seqStop_same ..)
    | apply Same.ite
    | apply Same.ite1
    | apply Same.ite2
    | extract_lets
    | split
    | dsimp -zeta only
    | dsimp +zetaDelta only

theorem State.samplerFail_same (s : State) (w : Nat) (k : Nat) :
    Same 49299809 s (State.samplerFail s w k) := by
  unfold State.samplerFail
  repeat' with_reducible first
    | exact Same.refl _
    | apply Same.step (m := 49308001) (by decide) (State.narrow_same ..)
    | apply Same.step (m := 67100661) (by decide) (State.retireLane_same ..)
    | apply Same.step (m := 67096565) (by decide) (State.spare_same ..)
    | apply Same.ite
    | apply Same.ite1
    | apply Same.ite2
    | extract_lets
    | split
    | dsimp -zeta only
    | dsimp +zetaDelta only

theorem State.auditFrom_same (s : State) (w : Nat) (k0 : Nat) (mism : List Nat) (badCal : Nat) :
    Same 49299809 s (State.auditFrom s w k0 mism badCal) := by
  unfold State.auditFrom
  repeat' with_reducible first
    | exact Same.refl _
    | apply Same.step (m := 49299809) (by decide) (State.samplerFail_same ..)
    | apply Same.trans _ (foldl_same _ _ _ (fun _ _ => ?_))
    | apply Same.trans _ (foldl_same1 _ _ _ (fun _ _ => ?_))
    | apply Same.ite
    | apply Same.ite1
    | apply Same.ite2
    | extract_lets
    | split
    | dsimp -zeta only
    | dsimp +zetaDelta only

theorem State.auditTo_same (s : State) (w : Nat) (k : Nat) :
    Same 67104765 s (State.auditTo s w k) := by
  unfold State.auditTo
  repeat' with_reducible first
    | exact Same.refl _
    | apply Same.step (m := 67108861) (by decide) (State.eyeStart_same ..)
    | apply Same.step (m := 67108861) (by decide) (State.set_same ..)
    | apply Same.step (m := 67104767) (by decide) (State.setAudit_same ..)
    | apply Same.ite
    | apply Same.ite1
    | apply Same.ite2
    | extract_lets
    | split
    | dsimp -zeta only
    | dsimp +zetaDelta only

theorem State.seqEnd_same (s : State) (m : Nat) (result : Nat) :
    Same 67104765 s (State.seqEnd s m result) := by
  unfold State.seqEnd
  repeat' with_reducible first
    | exact Same.refl _
    | apply Same.step (m := 67108861) (by decide) (sets_same ..)
    | apply Same.step (m := 67104765) (by decide) (seqStop_same ..)
    | apply Same.ite
    | apply Same.ite1
    | apply Same.ite2
    | extract_lets
    | split
    | dsimp -zeta only
    | dsimp +zetaDelta only

theorem State.macroRate_same (s : State) (m : Nat) (rate : Nat) :
    Same 50327541 s (State.macroRate s m rate) := by
  unfold State.macroRate
  repeat' with_reducible first
    | exact Same.refl _
    | apply Same.step (m := 67108855) (by decide) (State.dockSends_same ..)
    | apply Same.step (m := 67104767) (by decide) (State.mapTrain_same ..)
    | apply Same.step (m := 67108861) (by decide) (State.set_same ..)
    | apply Same.step (m := 67108861) (by decide) (State.sets_same ..)
    | apply Same.step (m := 50327549) (by decide) (State.tapsStop_same ..)
    | apply Same.ite
    | apply Same.ite1
    | apply Same.ite2
    | extract_lets
    | split
    | dsimp -zeta only
    | dsimp +zetaDelta only

theorem State.condShown_same (s : State) (m : Nat) :
    Same 67108861 s (State.condShown s m) := by
  unfold State.condShown
  repeat' with_reducible first
    | exact Same.refl _
    | apply Same.step (m := 67108861) (by decide) (State.set_same ..)
    | apply Same.trans _ (foldl_same _ _ _ (fun _ _ => ?_))
    | apply Same.trans _ (foldl_same1 _ _ _ (fun _ _ => ?_))
    | apply Same.ite
    | apply Same.ite1
    | apply Same.ite2
    | extract_lets
    | split
    | dsimp -zeta only
    | dsimp +zetaDelta only

theorem State.seqFrozen_same (s : State) (m : Nat) (f : Nat → Nat) :
    Same 67104767 s (State.seqFrozen s m f) := by
  unfold State.seqFrozen
  repeat' with_reducible first
    | exact Same.refl _
    | apply Same.step (m := 67104767) (by decide) (setMacro_same ..)
    | apply Same.trans _ (foldl_same _ _ _ (fun _ _ => ?_))
    | apply Same.trans _ (foldl_same1 _ _ _ (fun _ _ => ?_))
    | apply Same.ite
    | apply Same.ite1
    | apply Same.ite2
    | extract_lets
    | split
    | dsimp -zeta only
    | dsimp +zetaDelta only

theorem State.whenUp_same {K : Nat} (hK : Nat.land K 67108863 = K) (s : State) (n : Nat) (f : State → State) (hf : ∀ s, Same K s (f s)) :
    Same K s (State.whenUp s n f) := by
  unfold State.whenUp
  repeat' with_reducible first
    | exact Same.refl _
    | apply hf
    | apply Same.trans _ (hf _)
    | apply Same.ite
    | apply Same.ite1
    | apply Same.ite2
    | extract_lets
    | split
    | dsimp -zeta only
    | dsimp +zetaDelta only

end Sys2Proof.Machine
end

