-- ==== Sys2Proof/Laws/FrameEngine.lean ====
section
/-! SUPPORT. What each operation of Machine/Engine.lean may change: every other part of State stays as it is. -/

set_option linter.all false

namespace Sys2Proof.Machine

theorem State.swapTarget_same (s : State) (a : Nat) (b : Nat) :
    Same 67108861 s (State.swapTarget s a b) := by
  unfold State.swapTarget
  repeat' with_reducible first
    | exact Same.refl _
    | apply Same.step (m := 67108861) (by decide) (set_same ..)
    | apply Same.trans _ (foldl_same _ _ _ (fun _ _ => ?_))
    | apply Same.trans _ (foldl_same1 _ _ _ (fun _ _ => ?_))
    | apply Same.ite
    | apply Same.ite1
    | apply Same.ite2
    | extract_lets
    | split
    | dsimp -zeta only
    | dsimp +zetaDelta only

theorem State.setServe_same (s : State) (n : Nat) (e : Nat) :
    Same 67108861 s (State.setServe s n e) := by
  unfold State.setServe
  repeat' with_reducible first
    | exact Same.refl _
    | apply Same.step (m := 67108861) (by decide) (set_same ..)
    | apply Same.ite
    | apply Same.ite1
    | apply Same.ite2
    | extract_lets
    | split
    | dsimp -zeta only
    | dsimp +zetaDelta only

theorem State.adopt_same (s : State) (e : Nat) (n : Nat) :
    Same 67108853 s (State.adopt s e n) := by
  unfold State.adopt
  repeat' with_reducible first
    | exact Same.refl _
    | apply Same.step (m := 67108855) (by decide) (raise_same ..)
    | apply Same.step (m := 67108861) (by decide) (swapTarget_same ..)
    | apply Same.step (m := 67108861) (by decide) (setServe_same ..)
    | apply Same.step (m := 67108861) (by decide) (set_same ..)
    | apply Same.ite
    | apply Same.ite1
    | apply Same.ite2
    | extract_lets
    | split
    | dsimp -zeta only
    | dsimp +zetaDelta only

theorem State.engHalt_same (s : State) (e : Nat) (cause : Nat) :
    Same 67100661 s (State.engHalt s e cause) := by
  unfold State.engHalt
  repeat' with_reducible first
    | exact Same.refl _
    | apply Same.step (m := 67100661) (by decide) (softRecord_same ..)
    | apply Same.step (m := 67108855) (by decide) (raise_same ..)
    | apply Same.step (m := 67108861) (by decide) (sat_same ..)
    | apply Same.step (m := 67108861) (by decide) (sets_same ..)
    | apply Same.ite
    | apply Same.ite1
    | apply Same.ite2
    | extract_lets
    | split
    | dsimp -zeta only
    | dsimp +zetaDelta only

theorem State.hookDrop_same (s : State) (e : Nat) :
    Same 16277877 s (State.hookDrop s e) := by
  unfold State.hookDrop
  repeat' with_reducible first
    | exact Same.refl _
    | apply Same.step (m := 16277877) (by decide) (hookFail_same ..)
    | apply Same.ite
    | apply Same.ite1
    | apply Same.ite2
    | extract_lets
    | split
    | dsimp -zeta only
    | dsimp +zetaDelta only

theorem State.engGone_same (s : State) (e : Nat) :
    Same 67108837 s (State.engGone s e) := by
  unfold State.engGone
  repeat' with_reducible first
    | exact Same.refl _
    | apply Same.step (m := 67108837) (by decide) (State.pathLost_same ..)
    | apply Same.ite
    | apply Same.ite1
    | apply Same.ite2
    | extract_lets
    | split
    | dsimp -zeta only
    | dsimp +zetaDelta only

theorem State.engRetarget_same (s : State) (e : Nat) :
    Same 67108855 s (State.engRetarget s e) := by
  unfold State.engRetarget
  repeat' with_reducible first
    | exact Same.refl _
    | apply Same.step (m := 67108855) (by decide) (retarget_same ..)
    | apply Same.ite
    | apply Same.ite1
    | apply Same.ite2
    | extract_lets
    | split
    | dsimp -zeta only
    | dsimp +zetaDelta only

theorem State.mgmtLost_same (s : State) :
    Same 67108853 s (State.mgmtLost s) := by
  unfold State.mgmtLost
  repeat' with_reducible first
    | exact Same.refl _
    | apply Same.step (m := 67108855) (by decide) (raise_same ..)
    | apply Same.step (m := 67108855) (by decide) (retarget_same ..)
    | apply Same.step (m := 67108861) (by decide) (set_same ..)
    | apply Same.ite
    | apply Same.ite1
    | apply Same.ite2
    | extract_lets
    | split
    | dsimp -zeta only
    | dsimp +zetaDelta only

theorem State.engFault_same (s : State) (e : Nat) (cause : Nat) :
    Same 16269669 s (State.engFault s e cause) := by
  unfold State.engFault
  repeat' with_reducible first
    | exact Same.refl _
    | apply Same.step (m := 67108853) (by decide) (State.adopt_same ..)
    | apply Same.step (m := 67108837) (by decide) (State.engGone_same ..)
    | apply Same.step (m := 67100661) (by decide) (State.engHalt_same ..)
    | apply Same.step (m := 67108855) (by decide) (State.engRetarget_same ..)
    | apply Same.step (m := 16277877) (by decide) (State.hookDrop_same ..)
    | apply Same.step (m := 67108853) (by decide) (State.mgmtLost_same ..)
    | apply Same.step (m := 67108861) (by decide) (State.set_same ..)
    | apply Same.trans _ (foldl_same _ _ _ (fun _ _ => ?_))
    | apply Same.trans _ (foldl_same1 _ _ _ (fun _ _ => ?_))
    | apply Same.ite
    | apply Same.ite1
    | apply Same.ite2
    | extract_lets
    | split
    | dsimp -zeta only
    | dsimp +zetaDelta only

theorem State.setEngs_same (s : State) (x : EngSt) :
    Same 66977791 s (State.setEngs s x) := by
  unfold State.setEngs
  repeat' with_reducible first
    | exact Same.refl _
    | apply Same.ite
    | apply Same.ite1
    | apply Same.ite2
    | extract_lets
    | split
    | dsimp -zeta only
    | dsimp +zetaDelta only
    | apply Same.with_engs (by decide)

theorem State.setCore_same (s : State) (e : Nat) (c : EngCore) :
    Same 66977791 s (State.setCore s e c) := by
  unfold State.setCore
  repeat' with_reducible first
    | exact Same.refl _
    | apply Same.step (m := 66977791) (by decide) (setEngs_same ..)
    | apply Same.ite
    | apply Same.ite1
    | apply Same.ite2
    | extract_lets
    | split
    | dsimp -zeta only
    | dsimp +zetaDelta only

theorem State.engTrap_same (s : State) (e : Nat) (cause : Nat) (imm : Nat) :
    Same 16269669 s (State.engTrap s e cause imm) := by
  unfold State.engTrap
  repeat' with_reducible first
    | exact Same.refl _
    | apply Same.step (m := 16269669) (by decide) (engFault_same ..)
    | apply Same.step (m := 66977791) (by decide) (setCore_same ..)
    | apply Same.ite
    | apply Same.ite1
    | apply Same.ite2
    | extract_lets
    | split
    | dsimp -zeta only
    | dsimp +zetaDelta only

theorem State.engStop_same (s : State) (e : Nat) (st : Nat) :
    Same 16277861 s (State.engStop s e st) := by
  unfold State.engStop
  repeat' with_reducible first
    | exact Same.refl _
    | apply Same.step (m := 67108837) (by decide) (State.engGone_same ..)
    | apply Same.step (m := 67108855) (by decide) (State.engRetarget_same ..)
    | apply Same.step (m := 16277877) (by decide) (State.hookDrop_same ..)
    | apply Same.step (m := 67108861) (by decide) (State.set_same ..)
    | apply Same.ite
    | apply Same.ite1
    | apply Same.ite2
    | extract_lets
    | split
    | dsimp -zeta only
    | dsimp +zetaDelta only

theorem State.mwNext_same (s : State) :
    Same 67108861 s (State.mwNext s) := by
  unfold State.mwNext
  repeat' with_reducible first
    | exact Same.refl _
    | apply Same.step (m := 67108861) (by decide) (set_same ..)
    | apply Same.ite
    | apply Same.ite1
    | apply Same.ite2
    | extract_lets
    | split
    | dsimp -zeta only
    | dsimp +zetaDelta only

theorem State.engStart_same (s : State) (e : Nat) (pc : Nat) :
    Same 66977765 s (State.engStart s e pc) := by
  unfold State.engStart
  repeat' with_reducible first
    | exact Same.refl _
    | apply Same.step (m := 67108837) (by decide) (State.engGone_same ..)
    | apply Same.step (m := 67108855) (by decide) (State.engRetarget_same ..)
    | apply Same.step (m := 66977791) (by decide) (State.setCore_same ..)
    | apply Same.step (m := 67108861) (by decide) (State.sets_same ..)
    | apply Same.ite
    | apply Same.ite1
    | apply Same.ite2
    | extract_lets
    | split
    | dsimp -zeta only
    | dsimp +zetaDelta only

theorem State.engFx_same (s : State) (x : Wr) :
    Same 16277861 s (State.engFx s x) := by
  unfold State.engFx
  repeat' with_reducible first
    | exact Same.refl _
    | apply Same.step (m := 67108861) (by decide) (mwNext_same ..)
    | apply Same.step (m := 67108861) (by decide) (set_same ..)
    | apply Same.step (m := 33554431) (by decide) (setEngWord_same ..)
    | apply Same.step (m := 16277861) (by decide) (engStop_same ..)
    | apply Same.step (m := 66977765) (by decide) (engStart_same ..)
    | apply Same.step (m := 16277877) (by decide) (laneGo_same ..)
    | apply Same.step (m := 49868661) (by decide) (engSend_same ..)
    | apply Same.ite
    | apply Same.ite1
    | apply Same.ite2
    | extract_lets
    | split
    | dsimp -zeta only
    | dsimp +zetaDelta only

theorem State.ckptNow_same (s : State) :
    Same 33423357 s (State.ckptNow s) := by
  unfold State.ckptNow
  repeat' with_reducible first
    | exact Same.refl _
    | apply Same.step (m := 33554431) (by decide) (setEngWord_same ..)
    | apply Same.step (m := 67108861) (by decide) (sat_same ..)
    | apply Same.step (m := 67108861) (by decide) (set_same ..)
    | apply Same.step (m := 66977791) (by decide) (setEngs_same ..)
    | apply Same.trans _ (foldl_same _ _ _ (fun _ _ => ?_))
    | apply Same.trans _ (foldl_same1 _ _ _ (fun _ _ => ?_))
    | apply Same.ite
    | apply Same.ite1
    | apply Same.ite2
    | extract_lets
    | split
    | dsimp -zeta only
    | dsimp +zetaDelta only

theorem State.clearMem_same (s : State) (e : Nat) :
    Same 33554431 s (State.clearMem s e) := by
  unfold State.clearMem
  repeat' with_reducible first
    | exact Same.refl _
    | apply Same.ite
    | apply Same.ite1
    | apply Same.ite2
    | extract_lets
    | split
    | dsimp -zeta only
    | dsimp +zetaDelta only
    | apply Same.with_mem (by decide)

theorem State.loadWords_same (s : State) (e : Nat) (space : Nat) (l : List Nat) :
    Same 33554431 s (State.loadWords s e space l) := by
  unfold State.loadWords
  repeat' with_reducible first
    | exact Same.refl _
    | apply Same.step (m := 33554431) (by decide) (setEngWord_same ..)
    | apply Same.trans _ (foldl_same _ _ _ (fun _ _ => ?_))
    | apply Same.trans _ (foldl_same1 _ _ _ (fun _ _ => ?_))
    | apply Same.ite
    | apply Same.ite1
    | apply Same.ite2
    | extract_lets
    | split
    | dsimp -zeta only
    | dsimp +zetaDelta only

theorem State.mapCore_same (s : State) (e : Nat) (f : EngCore → EngCore) :
    Same 66977791 s (State.mapCore s e f) := by
  unfold State.mapCore
  repeat' with_reducible first
    | exact Same.refl _
    | apply Same.step (m := 66977791) (by decide) (setCore_same ..)
    | apply Same.ite
    | apply Same.ite1
    | apply Same.ite2
    | extract_lets
    | split
    | dsimp -zeta only
    | dsimp +zetaDelta only

theorem State.fastEntry_same (s : State) (e : Nat) :
    Same 66977789 s (State.fastEntry s e) := by
  unfold State.fastEntry
  repeat' with_reducible first
    | exact Same.refl _
    | apply Same.step (m := 67108861) (by decide) (set_same ..)
    | apply Same.step (m := 66977791) (by decide) (mapCore_same ..)
    | apply Same.ite
    | apply Same.ite1
    | apply Same.ite2
    | extract_lets
    | split
    | dsimp -zeta only
    | dsimp +zetaDelta only

theorem State.journalAdd_same (s : State) (e : Nat) (off : Nat) (v : Nat) :
    Same 66977791 s (State.journalAdd s e off v) := by
  unfold State.journalAdd
  repeat' with_reducible first
    | exact Same.refl _
    | apply Same.step (m := 66977791) (by decide) (setEngs_same ..)
    | apply Same.ite
    | apply Same.ite1
    | apply Same.ite2
    | extract_lets
    | split
    | dsimp -zeta only
    | dsimp +zetaDelta only

theorem State.journalFull_same (s : State) :
    Same 33423357 s (State.journalFull s) := by
  unfold State.journalFull
  repeat' with_reducible first
    | exact Same.refl _
    | apply Same.step (m := 33423357) (by decide) (ckptNow_same ..)
    | apply Same.ite
    | apply Same.ite1
    | apply Same.ite2
    | extract_lets
    | split
    | dsimp -zeta only
    | dsimp +zetaDelta only

theorem State.mismatch_same (s : State) (halted : List Nat) :
    Same 50192373 s (State.mismatch s halted) := by
  unfold State.mismatch
  repeat' with_reducible first
    | exact Same.refl _
    | apply Same.step (m := 67108855) (by decide) (raise_same ..)
    | apply Same.step (m := 67100661) (by decide) (engHalt_same ..)
    | apply Same.step (m := 66977791) (by decide) (setEngs_same ..)
    | apply Same.step (m := 50331647) (by decide) (fresh_same ..)
    | apply Same.step (m := 66977791) (by decide) (setCore_same ..)
    | apply Same.step (m := 67108861) (by decide) (sets_same ..)
    | apply Same.step (m := 67108855) (by decide) (retarget_same ..)
    | apply Same.step (m := 67108853) (by decide) (mgmtLost_same ..)
    | apply Same.trans _ (foldl_same _ _ _ (fun _ _ => ?_))
    | apply Same.trans _ (foldl_same1 _ _ _ (fun _ _ => ?_))
    | apply Same.ite
    | apply Same.ite1
    | apply Same.ite2
    | extract_lets
    | split
    | dsimp -zeta only
    | dsimp +zetaDelta only

theorem State.mwRead_same (s : State) (p : Nat) :
    Same 50331645 s (State.mwRead s p).2 := by
  unfold State.mwRead
  repeat' with_reducible first
    | exact Same.refl _
    | apply Same.step (m := 67108861) (by decide) (mwNext_same ..)
    | apply Same.step (m := 50331647) (by decide) (fresh_same ..)
    | apply Same.ite
    | apply Same.ite1
    | apply Same.ite2
    | extract_lets
    | split
    | dsimp -zeta only
    | dsimp +zetaDelta only

theorem State.normalEntry_same (s : State) (e : Nat) :
    Same 66977789 s (State.normalEntry s e) := by
  unfold State.normalEntry
  repeat' with_reducible first
    | exact Same.refl _
    | apply Same.step (m := 67108861) (by decide) (set_same ..)
    | apply Same.step (m := 66977791) (by decide) (mapCore_same ..)
    | apply Same.step (m := 66977791) (by decide) (setEngs_same ..)
    | apply Same.ite
    | apply Same.ite1
    | apply Same.ite2
    | extract_lets
    | split
    | dsimp -zeta only
    | dsimp +zetaDelta only

theorem State.storeData_same (s : State) (e : Nat) (off : Nat) (v : Nat) :
    Same 33423359 s (State.storeData s e off v) := by
  unfold State.storeData
  repeat' with_reducible first
    | exact Same.refl _
    | apply Same.step (m := 66977791) (by decide) (journalAdd_same ..)
    | apply Same.step (m := 33554431) (by decide) (setEngWord_same ..)
    | apply Same.ite
    | apply Same.ite1
    | apply Same.ite2
    | extract_lets
    | split
    | dsimp -zeta only
    | dsimp +zetaDelta only

end Sys2Proof.Machine
end

