-- ==== Sys2Proof/Laws/FrameUsb.lean ====
section
/-! SUPPORT. What each operation of Machine/Usb.lean may change: every other part of State stays as it is. -/

set_option linter.all false

namespace Sys2Proof.Machine

theorem State.mapUsb_same (s : State) (f : UsbSt → UsbSt) :
    Same 62914559 s (State.mapUsb s f) := by
  unfold State.mapUsb
  repeat' with_reducible first
    | exact Same.refl _
    | apply Same.ite
    | apply Same.ite1
    | apply Same.ite2
    | extract_lets
    | split
    | dsimp -zeta only
    | dsimp +zetaDelta only
    | apply Same.with_usb (by decide)

theorem State.mapDown_same (s : State) (i : Nat) (f : UsbPort → UsbPort) :
    Same 62914559 s (State.mapDown s i f) := by
  unfold State.mapDown
  repeat' with_reducible first
    | exact Same.refl _
    | apply Same.step (m := 62914559) (by decide) (mapUsb_same ..)
    | apply Same.ite
    | apply Same.ite1
    | apply Same.ite2
    | extract_lets
    | split
    | dsimp -zeta only
    | dsimp +zetaDelta only

theorem State.usbDue_same (s : State) :
    Same 62914551 s (State.usbDue s) := by
  unfold State.usbDue
  repeat' with_reducible first
    | exact Same.refl _
    | apply Same.step (m := 67108855) (by decide) (raise_same ..)
    | apply Same.step (m := 67108855) (by decide) (emit_same ..)
    | apply Same.step (m := 62914559) (by decide) (mapUsb_same ..)
    | apply Same.ite
    | apply Same.ite1
    | apply Same.ite2
    | extract_lets
    | split
    | dsimp -zeta only
    | dsimp +zetaDelta only

theorem State.usbReason_same (s : State) (r : Nat) :
    Same 62914549 s (State.usbReason s r) := by
  unfold State.usbReason
  repeat' with_reducible first
    | exact Same.refl _
    | apply Same.step (m := 67108861) (by decide) (set_same ..)
    | apply Same.step (m := 62914551) (by decide) (usbDue_same ..)
    | apply Same.step (m := 67108861) (by decide) (sets_same ..)
    | apply Same.step (m := 62914559) (by decide) (mapUsb_same ..)
    | apply Same.ite
    | apply Same.ite1
    | apply Same.ite2
    | extract_lets
    | split
    | dsimp -zeta only
    | dsimp +zetaDelta only

theorem State.portChange_same (s : State) (i : Nat) (bit : Nat) :
    Same 62914549 s (State.portChange s i bit) := by
  unfold State.portChange
  repeat' with_reducible first
    | exact Same.refl _
    | apply Same.step (m := 62914559) (by decide) (mapDown_same ..)
    | apply Same.step (m := 62914549) (by decide) (usbReason_same ..)
    | apply Same.ite
    | apply Same.ite1
    | apply Same.ite2
    | extract_lets
    | split
    | dsimp -zeta only
    | dsimp +zetaDelta only

theorem State.usbDefault_same (s : State) :
    Same 62914559 s (State.usbDefault s) := by
  unfold State.usbDefault
  repeat' with_reducible first
    | exact Same.refl _
    | apply Same.step (m := 62914559) (by decide) (mapUsb_same ..)
    | apply Same.ite
    | apply Same.ite1
    | apply Same.ite2
    | extract_lets
    | split
    | dsimp -zeta only
    | dsimp +zetaDelta only

theorem State.usbDetach_same (s : State) :
    Same 62914559 s (State.usbDetach s) := by
  unfold State.usbDetach
  repeat' with_reducible first
    | exact Same.refl _
    | apply Same.step (m := 62914559) (by decide) (usbDefault_same ..)
    | apply Same.step (m := 62914559) (by decide) (mapUsb_same ..)
    | apply Same.ite
    | apply Same.ite1
    | apply Same.ite2
    | extract_lets
    | split
    | dsimp -zeta only
    | dsimp +zetaDelta only

theorem State.usbFx_same (s : State) (s0 : State) (ro : Nat) (v : Nat) :
    Same 62914557 s (State.usbFx s s0 ro v) := by
  unfold State.usbFx
  repeat' with_reducible first
    | exact Same.refl _
    | apply Same.step (m := 62914559) (by decide) (usbDetach_same ..)
    | apply Same.step (m := 67108861) (by decide) (sets_same ..)
    | apply Same.ite
    | apply Same.ite1
    | apply Same.ite2
    | extract_lets
    | split
    | dsimp -zeta only
    | dsimp +zetaDelta only

theorem State.ep2Bad_same (s : State) :
    Same 62914559 s (State.ep2Bad s) := by
  unfold State.ep2Bad
  repeat' with_reducible first
    | exact Same.refl _
    | apply Same.step (m := 62914559) (by decide) (mapUsb_same ..)
    | apply Same.ite
    | apply Same.ite1
    | apply Same.ite2
    | extract_lets
    | split
    | dsimp -zeta only
    | dsimp +zetaDelta only

theorem State.ep2Drop_same (s : State) (op : Nat) (n : Nat) :
    Same 62914559 s (State.ep2Drop s op n) := by
  unfold State.ep2Drop
  repeat' with_reducible first
    | exact Same.refl _
    | apply Same.step (m := 62914559) (by decide) (mapUsb_same ..)
    | apply Same.ite
    | apply Same.ite1
    | apply Same.ite2
    | extract_lets
    | split
    | dsimp -zeta only
    | dsimp +zetaDelta only

theorem State.ep2Hand_same (s : State) :
    Same 62914559 s (State.ep2Hand s) := by
  unfold State.ep2Hand
  repeat' with_reducible first
    | exact Same.refl _
    | apply Same.step (m := 62914559) (by decide) (mapUsb_same ..)
    | apply Same.ite
    | apply Same.ite1
    | apply Same.ite2
    | extract_lets
    | split
    | dsimp -zeta only
    | dsimp +zetaDelta only

theorem State.ep2Out_same (s : State) (data : List (BitVec 8)) :
    Same 62914549 s (State.ep2Out s data) := by
  unfold State.ep2Out
  repeat' with_reducible first
    | exact Same.refl _
    | apply Same.step (m := 67108855) (by decide) (emit_same ..)
    | apply Same.step (m := 67108861) (by decide) (sat_same ..)
    | apply Same.step (m := 62914559) (by decide) (mapUsb_same ..)
    | apply Same.ite
    | apply Same.ite1
    | apply Same.ite2
    | extract_lets
    | split
    | dsimp -zeta only
    | dsimp +zetaDelta only

theorem State.ep2Take_same (x0 : Nat) (x1 : State) :
    Same 62914559 x1 (State.ep2Take x0 x1).1 := by
  induction x0 generalizing x1 with
  | zero => exact Same.refl _
  | succ n ih =>
    unfold State.ep2Take
    repeat' with_reducible first
      | exact Same.refl _
      | apply Same.step (m := 62914559) (by decide) (ep2Hand_same ..)
      | apply Same.step (m := 62914559) (by decide) (ep2Bad_same ..)
      | apply Same.trans _ (ih _)
      | apply Same.ite
      | apply Same.ite1
      | apply Same.ite2
      | extract_lets
      | split
      | dsimp -zeta only
      | dsimp +zetaDelta only

theorem State.portAttach_same (s : State) (n : Nat) (on : Bool) :
    Same 62914549 s (State.portAttach s n on) := by
  unfold State.portAttach
  repeat' with_reducible first
    | exact Same.refl _
    | apply Same.step (m := 62914549) (by decide) (portChange_same ..)
    | apply Same.step (m := 62914559) (by decide) (mapDown_same ..)
    | apply Same.step (m := 67108861) (by decide) (set_same ..)
    | apply Same.ite
    | apply Same.ite1
    | apply Same.ite2
    | extract_lets
    | split
    | dsimp -zeta only
    | dsimp +zetaDelta only

theorem State.setDev_same (s : State) (d : Nat) (x : UsbDev) :
    Same 62914559 s (State.setDev s d x) := by
  unfold State.setDev
  repeat' with_reducible first
    | exact Same.refl _
    | apply Same.step (m := 62914559) (by decide) (mapUsb_same ..)
    | apply Same.ite
    | apply Same.ite1
    | apply Same.ite2
    | extract_lets
    | split
    | dsimp -zeta only
    | dsimp +zetaDelta only

theorem State.portFeature_same (s : State) (i : Nat) (f : PortFeature) (set : Bool) :
    Same 62914559 s (State.portFeature s i f set) := by
  unfold State.portFeature
  repeat' with_reducible first
    | exact Same.refl _
    | apply Same.step (m := 62914559) (by decide) (mapDown_same ..)
    | apply Same.step (m := 62914559) (by decide) (setDev_same ..)
    | apply Same.ite
    | apply Same.ite1
    | apply Same.ite2
    | extract_lets
    | split
    | dsimp -zeta only
    | dsimp +zetaDelta only

theorem State.setCfg_same (s : State) (d : Nat) (cfg : Nat) :
    Same 62914559 s (State.setCfg s d cfg) := by
  unfold State.setCfg
  repeat' with_reducible first
    | exact Same.refl _
    | apply Same.step (m := 62914559) (by decide) (mapUsb_same ..)
    | apply Same.step (m := 62914559) (by decide) (setDev_same ..)
    | apply Same.ite
    | apply Same.ite1
    | apply Same.ite2
    | extract_lets
    | split
    | dsimp -zeta only
    | dsimp +zetaDelta only

theorem State.usbSetup_same (s : State) (q : UsbReq) :
    Same 62914559 s (State.usbSetup s q) := by
  unfold State.usbSetup
  repeat' with_reducible first
    | exact Same.refl _
    | apply Same.step (m := 62914559) (by decide) (mapUsb_same ..)
    | apply Same.ite
    | apply Same.ite1
    | apply Same.ite2
    | extract_lets
    | split
    | dsimp -zeta only
    | dsimp +zetaDelta only

theorem State.usbStall_same (s : State) (ep : Nat) :
    Same 62914551 s (State.usbStall s ep) := by
  unfold State.usbStall
  repeat' with_reducible first
    | exact Same.refl _
    | apply Same.step (m := 67108855) (by decide) (emit_same ..)
    | apply Same.step (m := 62914559) (by decide) (mapUsb_same ..)
    | apply Same.ite
    | apply Same.ite1
    | apply Same.ite2
    | extract_lets
    | split
    | dsimp -zeta only
    | dsimp +zetaDelta only

theorem State.usbFeature_same (s : State) (d : Nat) (f : UsbFeature) (set : Bool) :
    Same 62914559 s (State.usbFeature s d f set) := by
  unfold State.usbFeature
  repeat' with_reducible first
    | exact Same.refl _
    | apply Same.step (m := 62914559) (by decide) (setDev_same ..)
    | apply Same.step (m := 62914559) (by decide) (mapUsb_same ..)
    | apply Same.step (m := 62914559) (by decide) (portFeature_same ..)
    | apply Same.ite
    | apply Same.ite1
    | apply Same.ite2
    | extract_lets
    | split
    | dsimp -zeta only
    | dsimp +zetaDelta only

theorem State.usbServed_same (s : State) (resume : Bool) :
    Same 62914557 s (State.usbServed s resume) := by
  unfold State.usbServed
  repeat' with_reducible first
    | exact Same.refl _
    | apply Same.step (m := 62914559) (by decide) (mapUsb_same ..)
    | apply Same.step (m := 67108861) (by decide) (sets_same ..)
    | apply Same.ite
    | apply Same.ite1
    | apply Same.ite2
    | extract_lets
    | split
    | dsimp -zeta only
    | dsimp +zetaDelta only

end Sys2Proof.Machine
end

