-- ==== Sys2Proof/Laws/FrameVbus.lean ====
section
/-! SUPPORT. What each operation of Machine/Vbus.lean may change: every other part of State stays as it is. -/

set_option linter.all false

namespace Sys2Proof.Machine

theorem State.addEnergy_same (s : State) (ch : Nat) (lo : Fld) (hi : Fld) (uw : Int) :
    Same 67092477 s (State.addEnergy s ch lo hi uw) := by
  unfold State.addEnergy
  repeat' with_reducible first
    | exact Same.refl _
    | apply Same.step (m := 67108861) (by decide) (setI64_same ..)
    | apply Same.ite
    | apply Same.ite1
    | apply Same.ite2
    | extract_lets
    | split
    | dsimp -zeta only
    | dsimp +zetaDelta only
    | apply Same.with_regs (by decide)
    | apply Same.with_pow (by decide)

theorem State.setVb_same (s : State) (n : Nat) (x : VbPort) :
    Same 67092479 s (State.setVb s n x) := by
  unfold State.setVb
  repeat' with_reducible first
    | exact Same.refl _
    | apply Same.ite
    | apply Same.ite1
    | apply Same.ite2
    | extract_lets
    | split
    | dsimp -zeta only
    | dsimp +zetaDelta only
    | apply Same.with_pow (by decide)

theorem State.mapVb_same (s : State) (n : Nat) (f : VbPort → VbPort) :
    Same 67092479 s (State.mapVb s n f) := by
  unfold State.mapVb
  repeat' with_reducible first
    | exact Same.refl _
    | apply Same.step (m := 67092479) (by decide) (setVb_same ..)
    | apply Same.ite
    | apply Same.ite1
    | apply Same.ite2
    | extract_lets
    | split
    | dsimp -zeta only
    | dsimp +zetaDelta only

theorem State.setCode_same (s : State) (n : Nat) :
    Same 67108861 s (State.setCode s n) := by
  unfold State.setCode
  repeat' with_reducible first
    | exact Same.refl _
    | apply Same.step (m := 67108861) (by decide) (set_same ..)
    | apply Same.ite
    | apply Same.ite1
    | apply Same.ite2
    | extract_lets
    | split
    | dsimp -zeta only
    | dsimp +zetaDelta only

theorem State.setTarget_same (s : State) (n : Nat) (t : Nat) :
    Same 67108861 s (State.setTarget s n t) := by
  unfold State.setTarget
  repeat' with_reducible first
    | exact Same.refl _
    | apply Same.step (m := 67108861) (by decide) (setCode_same ..)
    | apply Same.step (m := 67108861) (by decide) (sets_same ..)
    | apply Same.ite
    | apply Same.ite1
    | apply Same.ite2
    | extract_lets
    | split
    | dsimp -zeta only
    | dsimp +zetaDelta only

theorem State.gateDown_same (s : State) (n : Nat) :
    Same 67108861 s (State.gateDown s n) := by
  unfold State.gateDown
  repeat' with_reducible first
    | exact Same.refl _
    | apply Same.step (m := 67108861) (by decide) (sets_same ..)
    | apply Same.ite
    | apply Same.ite1
    | apply Same.ite2
    | extract_lets
    | split
    | dsimp -zeta only
    | dsimp +zetaDelta only

theorem State.vbFall_same (s : State) (n : Nat) (st : Nat) :
    Same 67092477 s (State.vbFall s n st) := by
  unfold State.vbFall
  repeat' with_reducible first
    | exact Same.refl _
    | apply Same.step (m := 67092479) (by decide) (mapVb_same ..)
    | apply Same.step (m := 67108861) (by decide) (set_same ..)
    | apply Same.step (m := 67108861) (by decide) (setTarget_same ..)
    | apply Same.step (m := 67108861) (by decide) (gateDown_same ..)
    | apply Same.ite
    | apply Same.ite1
    | apply Same.ite2
    | extract_lets
    | split
    | dsimp -zeta only
    | dsimp +zetaDelta only

theorem State.setLimit_same (s : State) (n : Nat) :
    Same 67108861 s (State.setLimit s n) := by
  unfold State.setLimit
  repeat' with_reducible first
    | exact Same.refl _
    | apply Same.step (m := 67108861) (by decide) (set_same ..)
    | apply Same.ite
    | apply Same.ite1
    | apply Same.ite2
    | extract_lets
    | split
    | dsimp -zeta only
    | dsimp +zetaDelta only

theorem State.vbRise_same (s : State) (n : Nat) :
    Same 67092477 s (State.vbRise s n) := by
  unfold State.vbRise
  repeat' with_reducible first
    | exact Same.refl _
    | apply Same.step (m := 67092479) (by decide) (mapVb_same ..)
    | apply Same.step (m := 67108861) (by decide) (set_same ..)
    | apply Same.step (m := 67108861) (by decide) (setLimit_same ..)
    | apply Same.step (m := 67108861) (by decide) (setTarget_same ..)
    | apply Same.ite
    | apply Same.ite1
    | apply Same.ite2
    | extract_lets
    | split
    | dsimp -zeta only
    | dsimp +zetaDelta only

theorem State.vbEval_same (s : State) (n : Nat) :
    Same 62898165 s (State.vbEval s n) := by
  unfold State.vbEval
  repeat' with_reducible first
    | exact Same.refl _
    | apply Same.step (m := 67092477) (by decide) (vbFall_same ..)
    | apply Same.step (m := 62914549) (by decide) (portChange_same ..)
    | apply Same.step (m := 67092477) (by decide) (vbRise_same ..)
    | apply Same.ite
    | apply Same.ite1
    | apply Same.ite2
    | extract_lets
    | split
    | dsimp -zeta only
    | dsimp +zetaDelta only

theorem State.vbReq_same (s : State) (n : Nat) (on : Bool) :
    Same 62898165 s (State.vbReq s n on) := by
  unfold State.vbReq
  repeat' with_reducible first
    | exact Same.refl _
    | apply Same.step (m := 62898165) (by decide) (vbEval_same ..)
    | apply Same.step (m := 67092479) (by decide) (mapVb_same ..)
    | apply Same.ite
    | apply Same.ite1
    | apply Same.ite2
    | extract_lets
    | split
    | dsimp -zeta only
    | dsimp +zetaDelta only

theorem State.feedOver_same (s : State) (f : Nat) :
    Same 67108861 s (State.feedOver s f) := by
  unfold State.feedOver
  repeat' with_reducible first
    | exact Same.refl _
    | apply Same.step (m := 67108861) (by decide) (set_same ..)
    | apply Same.ite
    | apply Same.ite1
    | apply Same.ite2
    | extract_lets
    | split
    | dsimp -zeta only
    | dsimp +zetaDelta only

theorem State.feedCtrl_same (s : State) :
    Same 67108861 s (State.feedCtrl s) := by
  unfold State.feedCtrl
  repeat' with_reducible first
    | exact Same.refl _
    | apply Same.step (m := 67108861) (by decide) (feedOver_same ..)
    | apply Same.step (m := 67108861) (by decide) (set_same ..)
    | apply Same.ite
    | apply Same.ite1
    | apply Same.ite2
    | extract_lets
    | split
    | dsimp -zeta only
    | dsimp +zetaDelta only

theorem State.feedsPick_same (s : State) :
    Same 67108861 s (State.feedsPick s) := by
  unfold State.feedsPick
  repeat' with_reducible first
    | exact Same.refl _
    | apply Same.step (m := 67108861) (by decide) (sets_same ..)
    | apply Same.step (m := 67108861) (by decide) (set_same ..)
    | apply Same.ite
    | apply Same.ite1
    | apply Same.ite2
    | extract_lets
    | split
    | dsimp -zeta only
    | dsimp +zetaDelta only

theorem State.vbLatch_same (s : State) (n : Nat) (cause : Nat) :
    Same 62898165 s (State.vbLatch s n cause) := by
  unfold State.vbLatch
  repeat' with_reducible first
    | exact Same.refl _
    | apply Same.step (m := 62914549) (by decide) (portChange_same ..)
    | apply Same.step (m := 67108855) (by decide) (raise_same ..)
    | apply Same.step (m := 67108861) (by decide) (sat_same ..)
    | apply Same.step (m := 67108861) (by decide) (sets_same ..)
    | apply Same.step (m := 67092479) (by decide) (mapVb_same ..)
    | apply Same.step (m := 67108861) (by decide) (gateDown_same ..)
    | apply Same.step (m := 67108861) (by decide) (set_same ..)
    | apply Same.ite
    | apply Same.ite1
    | apply Same.ite2
    | extract_lets
    | split
    | dsimp -zeta only
    | dsimp +zetaDelta only

theorem State.setMean_same (s : State) (f : Fld) (sum : Int) (n : Nat) :
    Same 50331645 s (State.setMean s f sum n) := by
  unfold State.setMean
  repeat' with_reducible first
    | exact Same.refl _
    | apply Same.step (m := 50331647) (by decide) (fresh_same ..)
    | apply Same.step (m := 67108861) (by decide) (set_same ..)
    | apply Same.ite
    | apply Same.ite1
    | apply Same.ite2
    | extract_lets
    | split
    | dsimp -zeta only
    | dsimp +zetaDelta only

theorem State.latchWindow_same (s : State) :
    Same 50315261 s (State.latchWindow s) := by
  unfold State.latchWindow
  repeat' with_reducible first
    | exact Same.refl _
    | apply Same.step (m := 67092479) (by decide) (mapVb_same ..)
    | apply Same.step (m := 50331645) (by decide) (setMean_same ..)
    | apply Same.step (m := 67108861) (by decide) (set_same ..)
    | apply Same.trans _ (foldl_same _ _ _ (fun _ _ => ?_))
    | apply Same.trans _ (foldl_same1 _ _ _ (fun _ _ => ?_))
    | apply Same.ite
    | apply Same.ite1
    | apply Same.ite2
    | extract_lets
    | split
    | dsimp -zeta only
    | dsimp +zetaDelta only
    | apply Same.with_regs (by decide)
    | apply Same.with_pow (by decide)
    | apply Same.with_freeCtr (by decide)

theorem State.portSample_same (s : State) (n : Nat) (x : PortSample) :
    Same 67092477 s (State.portSample s n x) := by
  unfold State.portSample
  repeat' with_reducible first
    | exact Same.refl _
    | apply Same.step (m := 67108861) (by decide) (sets_same ..)
    | apply Same.step (m := 67108861) (by decide) (set_same ..)
    | apply Same.step (m := 67092477) (by decide) (addEnergy_same ..)
    | apply Same.step (m := 67092479) (by decide) (mapVb_same ..)
    | apply Same.step (m := 67108861) (by decide) (put_same ..)
    | apply Same.ite
    | apply Same.ite1
    | apply Same.ite2
    | extract_lets
    | split
    | dsimp -zeta only
    | dsimp +zetaDelta only
    | apply Same.with_regs (by decide)
    | apply Same.with_pow (by decide)

theorem State.measure_same (s : State) (ports : List PortSample) (a : FeedSample) (b : FeedSample) (bus : Nat) :
    Same 67092477 s (State.measure s ports a b bus) := by
  unfold State.measure
  repeat' with_reducible first
    | exact Same.refl _
    | apply Same.step (m := 67092477) (by decide) (portSample_same ..)
    | apply Same.step (m := 67108861) (by decide) (sets_same ..)
    | apply Same.step (m := 67108861) (by decide) (feedsPick_same ..)
    | apply Same.step (m := 67092477) (by decide) (addEnergy_same ..)
    | apply Same.trans _ (foldl_same _ _ _ (fun _ _ => ?_))
    | apply Same.trans _ (foldl_same1 _ _ _ (fun _ _ => ?_))
    | apply Same.ite
    | apply Same.ite1
    | apply Same.ite2
    | extract_lets
    | split
    | dsimp -zeta only
    | dsimp +zetaDelta only
    | apply Same.with_regs (by decide)
    | apply Same.with_pow (by decide)

theorem State.startMove_same (s : State) (n : Nat) (t : Nat) (pdo : Nat) :
    Same 67092477 s (State.startMove s n t pdo) := by
  unfold State.startMove
  repeat' with_reducible first
    | exact Same.refl _
    | apply Same.step (m := 67108861) (by decide) (set_same ..)
    | apply Same.step (m := 67092479) (by decide) (mapVb_same ..)
    | apply Same.step (m := 67108861) (by decide) (setTarget_same ..)
    | apply Same.ite
    | apply Same.ite1
    | apply Same.ite2
    | extract_lets
    | split
    | dsimp -zeta only
    | dsimp +zetaDelta only

theorem State.trimStep_same (s : State) (n : Nat) :
    Same 67108861 s (State.trimStep s n) := by
  unfold State.trimStep
  repeat' with_reducible first
    | exact Same.refl _
    | apply Same.step (m := 67108861) (by decide) (setCode_same ..)
    | apply Same.step (m := 67108861) (by decide) (setI_same ..)
    | apply Same.ite
    | apply Same.ite1
    | apply Same.ite2
    | extract_lets
    | split
    | dsimp -zeta only
    | dsimp +zetaDelta only

end Sys2Proof.Machine
end

