-- ==== Sys2Proof/Laws/FramePd.lean ====
section
/-! SUPPORT. What each operation of Machine/Pd.lean may change: every other part of State stays as it is. -/

set_option linter.all false

namespace Sys2Proof.Machine

theorem State.setPd_same (s : State) (n : Nat) (x : PdPort) :
    Same 67092479 s (State.setPd s n x) := by
  unfold State.setPd
  repeat' with_reducible first
    | exact Same.refl _
    | apply Same.ite
    | apply Same.ite1
    | apply Same.ite2
    | extract_lets
    | split
    | dsimp -zeta only
    | dsimp +zetaDelta only
    | apply Same.with_pow (by decide)

theorem State.mapPd_same (s : State) (n : Nat) (f : PdPort → PdPort) :
    Same 67092479 s (State.mapPd s n f) := by
  unfold State.mapPd
  repeat' with_reducible first
    | exact Same.refl _
    | apply Same.step (m := 67092479) (by decide) (setPd_same ..)
    | apply Same.ite
    | apply Same.ite1
    | apply Same.ite2
    | extract_lets
    | split
    | dsimp -zeta only
    | dsimp +zetaDelta only

theorem State.pdSend_same (s : State) (n : Nat) (k : PdKind) (objs : (List Nat)) (prime : Bool) :
    Same 67092471 s (State.pdSend s n k objs prime) := by
  unfold State.pdSend
  repeat' with_reducible first
    | exact Same.refl _
    | apply Same.step (m := 67108855) (by decide) (emit_same ..)
    | apply Same.step (m := 67092479) (by decide) (mapPd_same ..)
    | apply Same.ite
    | apply Same.ite1
    | apply Same.ite2
    | extract_lets
    | split
    | dsimp -zeta only
    | dsimp +zetaDelta only

theorem State.sendExit_same (s : State) (n : Nat) :
    Same 67092471 s (State.sendExit s n) := by
  unfold State.sendExit
  repeat' with_reducible first
    | exact Same.refl _
    | apply Same.step (m := 67092471) (by decide) (pdSend_same ..)
    | apply Same.ite
    | apply Same.ite1
    | apply Same.ite2
    | extract_lets
    | split
    | dsimp -zeta only
    | dsimp +zetaDelta only

theorem State.modeExit_same (s : State) (n : Nat) (msg : Bool) :
    Same 50078069 s (State.modeExit s n msg) := by
  unfold State.modeExit
  repeat' with_reducible first
    | exact Same.refl _
    | apply Same.step (m := 67108855) (by decide) (State.emit_same ..)
    | apply Same.step (m := 50094453) (by decide) (State.lkDown_same ..)
    | apply Same.step (m := 67104767) (by decide) (State.mapLk_same ..)
    | apply Same.step (m := 67108855) (by decide) (State.raise_same ..)
    | apply Same.step (m := 67104757) (by decide) (State.sealOut_same ..)
    | apply Same.step (m := 67092471) (by decide) (State.sendExit_same ..)
    | apply Same.step (m := 67108861) (by decide) (State.set_same ..)
    | apply Same.step (m := 67108861) (by decide) (State.sets_same ..)
    | apply Same.ite
    | apply Same.ite1
    | apply Same.ite2
    | extract_lets
    | split
    | dsimp -zeta only
    | dsimp +zetaDelta only

theorem State.dropContract_same (s : State) (n : Nat) :
    Same 67108853 s (State.dropContract s n) := by
  unfold State.dropContract
  repeat' with_reducible first
    | exact Same.refl _
    | apply Same.step (m := 67108861) (by decide) (sets_same ..)
    | apply Same.step (m := 67108855) (by decide) (raise_same ..)
    | apply Same.step (m := 67108861) (by decide) (set_same ..)
    | apply Same.ite
    | apply Same.ite1
    | apply Same.ite2
    | extract_lets
    | split
    | dsimp -zeta only
    | dsimp +zetaDelta only

theorem State.detach_same (s : State) (n : Nat) (recover : Bool) :
    Same 45883765 s (State.detach s n recover) := by
  unfold State.detach
  repeat' with_reducible first
    | exact Same.refl _
    | apply Same.step (m := 67108855) (by decide) (raise_same ..)
    | apply Same.step (m := 67108861) (by decide) (sets_same ..)
    | apply Same.step (m := 67108853) (by decide) (dropContract_same ..)
    | apply Same.step (m := 50078069) (by decide) (modeExit_same ..)
    | apply Same.step (m := 62898165) (by decide) (vbReq_same ..)
    | apply Same.step (m := 67108861) (by decide) (set_same ..)
    | apply Same.step (m := 67092479) (by decide) (setPd_same ..)
    | apply Same.ite
    | apply Same.ite1
    | apply Same.ite2
    | extract_lets
    | split
    | dsimp -zeta only
    | dsimp +zetaDelta only

theorem State.pdEnable_same (s : State) (s0 : State) (n : Nat) :
    Same 45883765 s (State.pdEnable s s0 n) := by
  unfold State.pdEnable
  repeat' with_reducible first
    | exact Same.refl _
    | apply Same.step (m := 67108861) (by decide) (set_same ..)
    | apply Same.step (m := 67092479) (by decide) (mapPd_same ..)
    | apply Same.step (m := 45883765) (by decide) (detach_same ..)
    | apply Same.ite
    | apply Same.ite1
    | apply Same.ite2
    | extract_lets
    | split
    | dsimp -zeta only
    | dsimp +zetaDelta only

theorem State.pdShow_same (s : State) (n : Nat) :
    Same 67108861 s (State.pdShow s n) := by
  unfold State.pdShow
  repeat' with_reducible first
    | exact Same.refl _
    | apply Same.step (m := 67108861) (by decide) (set_same ..)
    | apply Same.ite
    | apply Same.ite1
    | apply Same.ite2
    | extract_lets
    | split
    | dsimp -zeta only
    | dsimp +zetaDelta only

theorem State.sendCaps_same (s : State) (n : Nat) :
    Same 67092471 s (State.sendCaps s n) := by
  unfold State.sendCaps
  repeat' with_reducible first
    | exact Same.refl _
    | apply Same.step (m := 67092471) (by decide) (pdSend_same ..)
    | apply Same.step (m := 67092479) (by decide) (mapPd_same ..)
    | apply Same.ite
    | apply Same.ite1
    | apply Same.ite2
    | extract_lets
    | split
    | dsimp -zeta only
    | dsimp +zetaDelta only

theorem State.setSeq_same (s : State) (n : Nat) (q : PdSeq) :
    Same 67092479 s (State.setSeq s n q) := by
  unfold State.setSeq
  repeat' with_reducible first
    | exact Same.refl _
    | apply Same.step (m := 67092479) (by decide) (mapPd_same ..)
    | apply Same.ite
    | apply Same.ite1
    | apply Same.ite2
    | extract_lets
    | split
    | dsimp -zeta only
    | dsimp +zetaDelta only

theorem State.eprLeft_same (s : State) (n : Nat) :
    Same 67092469 s (State.eprLeft s n) := by
  unfold State.eprLeft
  repeat' with_reducible first
    | exact Same.refl _
    | apply Same.step (m := 67108855) (by decide) (State.raise_same ..)
    | apply Same.step (m := 67092471) (by decide) (State.sendCaps_same ..)
    | apply Same.step (m := 67108861) (by decide) (State.set_same ..)
    | apply Same.step (m := 67092479) (by decide) (State.setSeq_same ..)
    | apply Same.ite
    | apply Same.ite1
    | apply Same.ite2
    | extract_lets
    | split
    | dsimp -zeta only
    | dsimp +zetaDelta only

theorem State.leaveEpr_same (s : State) (n : Nat) :
    Same 67092469 s (State.leaveEpr s n) := by
  unfold State.leaveEpr
  repeat' with_reducible first
    | exact Same.refl _
    | apply Same.step (m := 67092469) (by decide) (State.eprLeft_same ..)
    | apply Same.step (m := 67092471) (by decide) (State.pdSend_same ..)
    | apply Same.ite
    | apply Same.ite1
    | apply Same.ite2
    | extract_lets
    | split
    | dsimp -zeta only
    | dsimp +zetaDelta only

theorem State.newCaps_same (s : State) (n : Nat) :
    Same 67092469 s (State.newCaps s n) := by
  unfold State.newCaps
  repeat' with_reducible first
    | exact Same.refl _
    | apply Same.step (m := 67092469) (by decide) (leaveEpr_same ..)
    | apply Same.step (m := 67092471) (by decide) (sendCaps_same ..)
    | apply Same.ite
    | apply Same.ite1
    | apply Same.ite2
    | extract_lets
    | split
    | dsimp -zeta only
    | dsimp +zetaDelta only

theorem State.vdmAbort_same (s : State) (n : Nat) :
    Same 67092479 s (State.vdmAbort s n) := by
  unfold State.vdmAbort
  repeat' with_reducible first
    | exact Same.refl _
    | apply Same.step (m := 67092479) (by decide) (mapPd_same ..)
    | apply Same.ite
    | apply Same.ite1
    | apply Same.ite2
    | extract_lets
    | split
    | dsimp -zeta only
    | dsimp +zetaDelta only

theorem State.softClear_same (s : State) (n : Nat) :
    Same 67092477 s (State.softClear s n) := by
  unfold State.softClear
  repeat' with_reducible first
    | exact Same.refl _
    | apply Same.step (m := 67092479) (by decide) (State.mapPd_same ..)
    | apply Same.step (m := 67108861) (by decide) (State.set_same ..)
    | apply Same.step (m := 67092479) (by decide) (State.vdmAbort_same ..)
    | apply Same.ite
    | apply Same.ite1
    | apply Same.ite2
    | extract_lets
    | split
    | dsimp -zeta only
    | dsimp +zetaDelta only

theorem State.softSend_same (s : State) (n : Nat) :
    Same 67092469 s (State.softSend s n) := by
  unfold State.softSend
  repeat' with_reducible first
    | exact Same.refl _
    | apply Same.step (m := 67092479) (by decide) (State.mapPd_same ..)
    | apply Same.step (m := 67092471) (by decide) (State.pdSend_same ..)
    | apply Same.step (m := 67092479) (by decide) (State.setSeq_same ..)
    | apply Same.step (m := 67092477) (by decide) (State.softClear_same ..)
    | apply Same.ite
    | apply Same.ite1
    | apply Same.ite2
    | extract_lets
    | split
    | dsimp -zeta only
    | dsimp +zetaDelta only

theorem State.pdSrcChanged_same (s : State) (n : Nat) :
    Same 67092469 s (State.pdSrcChanged s n) := by
  unfold State.pdSrcChanged
  repeat' with_reducible first
    | exact Same.refl _
    | apply Same.step (m := 67108861) (by decide) (pdShow_same ..)
    | apply Same.step (m := 67092469) (by decide) (newCaps_same ..)
    | apply Same.step (m := 67092479) (by decide) (vdmAbort_same ..)
    | apply Same.step (m := 67092479) (by decide) (mapPd_same ..)
    | apply Same.ite
    | apply Same.ite1
    | apply Same.ite2
    | extract_lets
    | split
    | dsimp -zeta only
    | dsimp +zetaDelta only

theorem State.swapEnd_same (s : State) (n : Nat) (res : Nat) :
    Same 67092213 s (State.swapEnd s n res) := by
  unfold State.swapEnd
  repeat' with_reducible first
    | exact Same.refl _
    | apply Same.step (m := 67108861) (by decide) (sets_same ..)
    | apply Same.step (m := 67092479) (by decide) (setPd_same ..)
    | apply Same.step (m := 67108855) (by decide) (raise_same ..)
    | apply Same.ite
    | apply Same.ite1
    | apply Same.ite2
    | extract_lets
    | split
    | dsimp -zeta only
    | dsimp +zetaDelta only
    | apply Same.with_regs (by decide)
    | apply Same.with_sig (by decide)
    | apply Same.with_gov (by decide)
    | apply Same.with_pow (by decide)

theorem State.hardReset_same (s : State) (n : Nat) (send : Bool) :
    Same 45883509 s (State.hardReset s n send) := by
  unfold State.hardReset
  repeat' with_reducible first
    | exact Same.refl _
    | apply Same.step (m := 67108855) (by decide) (raise_same ..)
    | apply Same.step (m := 67108861) (by decide) (sat_same ..)
    | apply Same.step (m := 67108855) (by decide) (emit_same ..)
    | apply Same.step (m := 67092213) (by decide) (swapEnd_same ..)
    | apply Same.step (m := 67092479) (by decide) (mapPd_same ..)
    | apply Same.step (m := 45883765) (by decide) (detach_same ..)
    | apply Same.step (m := 67108853) (by decide) (dropContract_same ..)
    | apply Same.step (m := 50078069) (by decide) (modeExit_same ..)
    | apply Same.step (m := 62898165) (by decide) (vbReq_same ..)
    | apply Same.step (m := 67108861) (by decide) (sets_same ..)
    | apply Same.step (m := 67092479) (by decide) (setSeq_same ..)
    | apply Same.ite
    | apply Same.ite1
    | apply Same.ite2
    | extract_lets
    | split
    | dsimp -zeta only
    | dsimp +zetaDelta only

theorem State.sendSwap_same (s : State) (n : Nat) :
    Same 67092469 s (State.sendSwap s n) := by
  unfold State.sendSwap
  repeat' with_reducible first
    | exact Same.refl _
    | apply Same.step (m := 67092471) (by decide) (pdSend_same ..)
    | apply Same.step (m := 67108861) (by decide) (sets_same ..)
    | apply Same.step (m := 67092479) (by decide) (setPd_same ..)
    | apply Same.ite
    | apply Same.ite1
    | apply Same.ite2
    | extract_lets
    | split
    | dsimp -zeta only
    | dsimp +zetaDelta only

theorem State.vdmSend_same (s : State) (n : Nat) (stage : Nat) :
    Same 67092471 s (State.vdmSend s n stage) := by
  unfold State.vdmSend
  repeat' with_reducible first
    | exact Same.refl _
    | apply Same.step (m := 67092479) (by decide) (mapPd_same ..)
    | apply Same.step (m := 67092471) (by decide) (pdSend_same ..)
    | apply Same.ite
    | apply Same.ite1
    | apply Same.ite2
    | extract_lets
    | split
    | dsimp -zeta only
    | dsimp +zetaDelta only

theorem State.vdmStart_same (s : State) (n : Nat) :
    Same 67092469 s (State.vdmStart s n) := by
  unfold State.vdmStart
  repeat' with_reducible first
    | exact Same.refl _
    | apply Same.step (m := 67092479) (by decide) (mapPd_same ..)
    | apply Same.step (m := 67092469) (by decide) (sendSwap_same ..)
    | apply Same.step (m := 67092471) (by decide) (vdmSend_same ..)
    | apply Same.ite
    | apply Same.ite1
    | apply Same.ite2
    | extract_lets
    | split
    | dsimp -zeta only
    | dsimp +zetaDelta only

theorem State.pdNext_same (s : State) (n : Nat) :
    Same 67092469 s (State.pdNext s n) := by
  unfold State.pdNext
  repeat' with_reducible first
    | exact Same.refl _
    | apply Same.step (m := 67092469) (by decide) (State.newCaps_same ..)
    | apply Same.step (m := 67092469) (by decide) (State.sendSwap_same ..)
    | apply Same.step (m := 67108861) (by decide) (State.set_same ..)
    | apply Same.step (m := 67092479) (by decide) (State.setPd_same ..)
    | apply Same.step (m := 67092479) (by decide) (State.setSeq_same ..)
    | apply Same.step (m := 67092469) (by decide) (State.softSend_same ..)
    | apply Same.step (m := 67092469) (by decide) (State.vdmStart_same ..)
    | apply Same.ite
    | apply Same.ite1
    | apply Same.ite2
    | extract_lets
    | split
    | dsimp -zeta only
    | dsimp +zetaDelta only

theorem State.softReset_same (s : State) (n : Nat) (send : Bool) :
    Same 67092469 s (State.softReset s n send) := by
  unfold State.softReset
  repeat' with_reducible first
    | exact Same.refl _
    | apply Same.step (m := 67092469) (by decide) (State.pdNext_same ..)
    | apply Same.step (m := 67092471) (by decide) (State.pdSend_same ..)
    | apply Same.step (m := 67092477) (by decide) (State.softClear_same ..)
    | apply Same.step (m := 67092469) (by decide) (State.softSend_same ..)
    | apply Same.ite
    | apply Same.ite1
    | apply Same.ite2
    | extract_lets
    | split
    | dsimp -zeta only
    | dsimp +zetaDelta only

theorem State.wantSwap_same (s : State) (n : Nat) (k : Nat) :
    Same 67092469 s (State.wantSwap s n k) := by
  unfold State.wantSwap
  repeat' with_reducible first
    | exact Same.refl _
    | apply Same.step (m := 67108861) (by decide) (set_same ..)
    | apply Same.step (m := 67092479) (by decide) (mapPd_same ..)
    | apply Same.step (m := 67092479) (by decide) (vdmAbort_same ..)
    | apply Same.step (m := 67092469) (by decide) (leaveEpr_same ..)
    | apply Same.step (m := 67092469) (by decide) (sendSwap_same ..)
    | apply Same.ite
    | apply Same.ite1
    | apply Same.ite2
    | extract_lets
    | split
    | dsimp -zeta only
    | dsimp +zetaDelta only

theorem State.pdCmd_same (s : State) (n : Nat) (v : Nat) :
    Same 45883509 s (State.pdCmd s n v) := by
  unfold State.pdCmd
  repeat' with_reducible first
    | exact Same.refl _
    | apply Same.step (m := 45883509) (by decide) (hardReset_same ..)
    | apply Same.step (m := 67092469) (by decide) (softReset_same ..)
    | apply Same.step (m := 67092469) (by decide) (wantSwap_same ..)
    | apply Same.step (m := 67092471) (by decide) (sendCaps_same ..)
    | apply Same.step (m := 67092479) (by decide) (vdmAbort_same ..)
    | apply Same.step (m := 67092479) (by decide) (mapPd_same ..)
    | apply Same.step (m := 67092469) (by decide) (vdmStart_same ..)
    | apply Same.step (m := 67108861) (by decide) (pdShow_same ..)
    | apply Same.step (m := 50078069) (by decide) (modeExit_same ..)
    | apply Same.ite
    | apply Same.ite1
    | apply Same.ite2
    | extract_lets
    | split
    | dsimp -zeta only
    | dsimp +zetaDelta only

theorem State.powFx_same (s : State) (s0 : State) (x : Wr) :
    Same 45883509 s (State.powFx s s0 x) := by
  unfold State.powFx
  repeat' with_reducible first
    | exact Same.refl _
    | apply Same.step (m := 45883765) (by decide) (pdEnable_same ..)
    | apply Same.step (m := 67092469) (by decide) (pdSrcChanged_same ..)
    | apply Same.step (m := 45883509) (by decide) (pdCmd_same ..)
    | apply Same.step (m := 62898165) (by decide) (vbEval_same ..)
    | apply Same.step (m := 67108861) (by decide) (setLimit_same ..)
    | apply Same.step (m := 67108861) (by decide) (setCode_same ..)
    | apply Same.step (m := 67108861) (by decide) (set_same ..)
    | apply Same.step (m := 67108861) (by decide) (feedCtrl_same ..)
    | apply Same.ite
    | apply Same.ite1
    | apply Same.ite2
    | extract_lets
    | split
    | dsimp -zeta only
    | dsimp +zetaDelta only

theorem State.attachSrc_same (s : State) (n : Nat) (cc2 : Bool) (ra : Bool) :
    Same 62898165 s (State.attachSrc s n cc2 ra) := by
  unfold State.attachSrc
  repeat' with_reducible first
    | exact Same.refl _
    | apply Same.step (m := 67108855) (by decide) (raise_same ..)
    | apply Same.step (m := 67108861) (by decide) (sets_same ..)
    | apply Same.step (m := 62898165) (by decide) (vbReq_same ..)
    | apply Same.step (m := 67092479) (by decide) (mapPd_same ..)
    | apply Same.ite
    | apply Same.ite1
    | apply Same.ite2
    | extract_lets
    | split
    | dsimp -zeta only
    | dsimp +zetaDelta only

theorem State.attach_same (s : State) (n : Nat) (cc : CcSeen) :
    Same 62898165 s (State.attach s n cc) := by
  unfold State.attach
  repeat' with_reducible first
    | exact Same.refl _
    | apply Same.step (m := 62898165) (by decide) (attachSrc_same ..)
    | apply Same.step (m := 67108861) (by decide) (sat_same ..)
    | apply Same.step (m := 67108861) (by decide) (set_same ..)
    | apply Same.step (m := 67092479) (by decide) (setPd_same ..)
    | apply Same.ite
    | apply Same.ite1
    | apply Same.ite2
    | extract_lets
    | split
    | dsimp -zeta only
    | dsimp +zetaDelta only

theorem State.attachSnk_same (s : State) (n : Nat) (cc2 : Bool) :
    Same 67092469 s (State.attachSnk s n cc2) := by
  unfold State.attachSnk
  repeat' with_reducible first
    | exact Same.refl _
    | apply Same.step (m := 67108855) (by decide) (raise_same ..)
    | apply Same.step (m := 67108861) (by decide) (sets_same ..)
    | apply Same.step (m := 67092479) (by decide) (mapPd_same ..)
    | apply Same.ite
    | apply Same.ite1
    | apply Same.ite2
    | extract_lets
    | split
    | dsimp -zeta only
    | dsimp +zetaDelta only

theorem State.contract_same (s : State) (n : Nat) (rdo : Nat) (pdo : Nat) :
    Same 67092469 s (State.contract s n rdo pdo) := by
  unfold State.contract
  repeat' with_reducible first
    | exact Same.refl _
    | apply Same.step (m := 67108855) (by decide) (raise_same ..)
    | apply Same.step (m := 67108861) (by decide) (setLimit_same ..)
    | apply Same.step (m := 67108861) (by decide) (sets_same ..)
    | apply Same.step (m := 67092471) (by decide) (pdSend_same ..)
    | apply Same.step (m := 67092479) (by decide) (mapPd_same ..)
    | apply Same.ite
    | apply Same.ite1
    | apply Same.ite2
    | extract_lets
    | split
    | dsimp -zeta only
    | dsimp +zetaDelta only

theorem State.drDone_same (s : State) (n : Nat) :
    Same 50078069 s (State.drDone s n) := by
  unfold State.drDone
  repeat' with_reducible first
    | exact Same.refl _
    | apply Same.step (m := 67092479) (by decide) (vdmAbort_same ..)
    | apply Same.step (m := 50078069) (by decide) (modeExit_same ..)
    | apply Same.step (m := 67108861) (by decide) (set_same ..)
    | apply Same.ite
    | apply Same.ite1
    | apply Same.ite2
    | extract_lets
    | split
    | dsimp -zeta only
    | dsimp +zetaDelta only

theorem State.drSwapIn_same (s : State) (n : Nat) :
    Same 50078069 s (State.drSwapIn s n) := by
  unfold State.drSwapIn
  repeat' with_reducible first
    | exact Same.refl _
    | apply Same.step (m := 50078069) (by decide) (State.drDone_same ..)
    | apply Same.step (m := 67092469) (by decide) (State.pdNext_same ..)
    | apply Same.step (m := 67092471) (by decide) (State.pdSend_same ..)
    | apply Same.ite
    | apply Same.ite1
    | apply Same.ite2
    | extract_lets
    | split
    | dsimp -zeta only
    | dsimp +zetaDelta only

theorem State.enterAck_same (s : State) (n : Nat) (vdo : Nat) (id : Nat) :
    Same 67092469 s (State.enterAck s n vdo id) := by
  unfold State.enterAck
  repeat' with_reducible first
    | exact Same.refl _
    | apply Same.step (m := 67092479) (by decide) (mapPd_same ..)
    | apply Same.step (m := 67092471) (by decide) (sendExit_same ..)
    | apply Same.step (m := 67108855) (by decide) (raise_same ..)
    | apply Same.step (m := 67108861) (by decide) (sets_same ..)
    | apply Same.ite
    | apply Same.ite1
    | apply Same.ite2
    | extract_lets
    | split
    | dsimp -zeta only
    | dsimp +zetaDelta only

theorem State.eprOff_same (s : State) (n : Nat) :
    Same 67092469 s (State.eprOff s n) := by
  unfold State.eprOff
  repeat' with_reducible first
    | exact Same.refl _
    | apply Same.step (m := 67108855) (by decide) (raise_same ..)
    | apply Same.step (m := 67108861) (by decide) (set_same ..)
    | apply Same.step (m := 67092471) (by decide) (pdSend_same ..)
    | apply Same.ite
    | apply Same.ite1
    | apply Same.ite2
    | extract_lets
    | split
    | dsimp -zeta only
    | dsimp +zetaDelta only

theorem State.shedStep_same (s : State) :
    Same 67092213 s (State.shedStep s) := by
  unfold State.shedStep
  repeat' with_reducible first
    | exact Same.refl _
    | apply Same.step (m := 67108855) (by decide) (emit_same ..)
    | apply Same.step (m := 67108861) (by decide) (pdShow_same ..)
    | apply Same.step (m := 67092469) (by decide) (wantSwap_same ..)
    | apply Same.step (m := 67092469) (by decide) (pdSrcChanged_same ..)
    | apply Same.step (m := 67108861) (by decide) (set_same ..)
    | apply Same.trans _ (foldl_same _ _ _ (fun _ _ => ?_))
    | apply Same.trans _ (foldl_same1 _ _ _ (fun _ _ => ?_))
    | apply Same.ite
    | apply Same.ite1
    | apply Same.ite2
    | extract_lets
    | split
    | dsimp -zeta only
    | dsimp +zetaDelta only
    | apply Same.with_regs (by decide)
    | apply Same.with_sig (by decide)
    | apply Same.with_gov (by decide)
    | apply Same.with_pow (by decide)

theorem State.govFirmware_same (s : State) :
    Same 67092213 s (State.govFirmware s) := by
  unfold State.govFirmware
  repeat' with_reducible first
    | exact Same.refl _
    | apply Same.step (m := 67108861) (by decide) (set_same ..)
    | apply Same.step (m := 67092213) (by decide) (shedStep_same ..)
    | apply Same.ite
    | apply Same.ite1
    | apply Same.ite2
    | extract_lets
    | split
    | dsimp -zeta only
    | dsimp +zetaDelta only
    | apply Same.with_regs (by decide)
    | apply Same.with_sig (by decide)
    | apply Same.with_gov (by decide)
    | apply Same.with_pow (by decide)

theorem State.latchOff_same (s : State) (n : Nat) (cause : Nat) :
    Same 45883765 s (State.latchOff s n cause) := by
  unfold State.latchOff
  repeat' with_reducible first
    | exact Same.refl _
    | apply Same.step (m := 62898165) (by decide) (vbLatch_same ..)
    | apply Same.step (m := 45883765) (by decide) (detach_same ..)
    | apply Same.ite
    | apply Same.ite1
    | apply Same.ite2
    | extract_lets
    | split
    | dsimp -zeta only
    | dsimp +zetaDelta only

theorem State.modeEntered_same (s : State) (n : Nat) :
    Same 67088369 s (State.modeEntered s n) := by
  unfold State.modeEntered
  repeat' with_reducible first
    | exact Same.refl _
    | apply Same.step (m := 67104753) (by decide) (State.bringUp_same ..)
    | apply Same.step (m := 67104767) (by decide) (State.mapLk_same ..)
    | apply Same.step (m := 67092479) (by decide) (State.mapPd_same ..)
    | apply Same.step (m := 67108855) (by decide) (State.raise_same ..)
    | apply Same.step (m := 67108861) (by decide) (State.sat_same ..)
    | apply Same.step (m := 67108861) (by decide) (State.sets_same ..)
    | apply Same.ite
    | apply Same.ite1
    | apply Same.ite2
    | extract_lets
    | split
    | dsimp -zeta only
    | dsimp +zetaDelta only

theorem State.prStart_same (s : State) (n : Nat) (own : Bool) :
    Same 67092477 s (State.prStart s n own) := by
  unfold State.prStart
  repeat' with_reducible first
    | exact Same.refl _
    | apply Same.step (m := 67092479) (by decide) (mapPd_same ..)
    | apply Same.step (m := 67108861) (by decide) (set_same ..)
    | apply Same.step (m := 67092479) (by decide) (vdmAbort_same ..)
    | apply Same.ite
    | apply Same.ite1
    | apply Same.ite2
    | extract_lets
    | split
    | dsimp -zeta only
    | dsimp +zetaDelta only

theorem State.pdAccept_same (s : State) (n : Nat) :
    Same 50077813 s (State.pdAccept s n) := by
  unfold State.pdAccept
  repeat' with_reducible first
    | exact Same.refl _
    | apply Same.step (m := 67092469) (by decide) (pdNext_same ..)
    | apply Same.step (m := 67092213) (by decide) (swapEnd_same ..)
    | apply Same.step (m := 50078069) (by decide) (drDone_same ..)
    | apply Same.step (m := 67092477) (by decide) (prStart_same ..)
    | apply Same.step (m := 67092479) (by decide) (setSeq_same ..)
    | apply Same.ite
    | apply Same.ite1
    | apply Same.ite2
    | extract_lets
    | split
    | dsimp -zeta only
    | dsimp +zetaDelta only

theorem State.pdFirst_same (s : State) (n : Nat) :
    Same 67092471 s (State.pdFirst s n) := by
  unfold State.pdFirst
  repeat' with_reducible first
    | exact Same.refl _
    | apply Same.step (m := 67092471) (by decide) (pdSend_same ..)
    | apply Same.step (m := 67092479) (by decide) (mapPd_same ..)
    | apply Same.step (m := 67092471) (by decide) (sendCaps_same ..)
    | apply Same.ite
    | apply Same.ite1
    | apply Same.ite2
    | extract_lets
    | split
    | dsimp -zeta only
    | dsimp +zetaDelta only

theorem State.pdGood_same (s : State) (n : Nat) :
    Same 67092213 s (State.pdGood s n) := by
  unfold State.pdGood
  repeat' with_reducible first
    | exact Same.refl _
    | apply Same.step (m := 67092471) (by decide) (pdFirst_same ..)
    | apply Same.step (m := 67092471) (by decide) (pdSend_same ..)
    | apply Same.step (m := 67092471) (by decide) (sendCaps_same ..)
    | apply Same.step (m := 67092479) (by decide) (mapPd_same ..)
    | apply Same.step (m := 67092213) (by decide) (swapEnd_same ..)
    | apply Same.step (m := 67108861) (by decide) (set_same ..)
    | apply Same.ite
    | apply Same.ite1
    | apply Same.ite2
    | extract_lets
    | split
    | dsimp -zeta only
    | dsimp +zetaDelta only

theorem State.pdMoved_same (s : State) (n : Nat) :
    Same 67092469 s (State.pdMoved s n) := by
  unfold State.pdMoved
  repeat' with_reducible first
    | exact Same.refl _
    | apply Same.step (m := 67092469) (by decide) (contract_same ..)
    | apply Same.step (m := 67092471) (by decide) (pdSend_same ..)
    | apply Same.step (m := 67092479) (by decide) (setSeq_same ..)
    | apply Same.ite
    | apply Same.ite1
    | apply Same.ite2
    | extract_lets
    | split
    | dsimp -zeta only
    | dsimp +zetaDelta only

theorem State.vdmFail_same (s : State) (n : Nat) :
    Same 67092471 s (State.vdmFail s n) := by
  unfold State.vdmFail
  repeat' with_reducible first
    | exact Same.refl _
    | apply Same.step (m := 67108855) (by decide) (raise_same ..)
    | apply Same.step (m := 67092479) (by decide) (mapPd_same ..)
    | apply Same.ite
    | apply Same.ite1
    | apply Same.ite2
    | extract_lets
    | split
    | dsimp -zeta only
    | dsimp +zetaDelta only

theorem State.pdRefused_same (s : State) (n : Nat) (res : Nat) :
    Same 45883509 s (State.pdRefused s n res) := by
  unfold State.pdRefused
  repeat' with_reducible first
    | exact Same.refl _
    | apply Same.step (m := 67092469) (by decide) (pdNext_same ..)
    | apply Same.step (m := 67092213) (by decide) (swapEnd_same ..)
    | apply Same.step (m := 45883509) (by decide) (hardReset_same ..)
    | apply Same.step (m := 67092471) (by decide) (vdmFail_same ..)
    | apply Same.ite
    | apply Same.ite1
    | apply Same.ite2
    | extract_lets
    | split
    | dsimp -zeta only
    | dsimp +zetaDelta only

theorem State.pdRequest_same (s : State) (n : Nat) (rdo : Nat) (epr : Bool) (copy : Option Nat) :
    Same 67092469 s (State.pdRequest s n rdo epr copy) := by
  unfold State.pdRequest
  repeat' with_reducible first
    | exact Same.refl _
    | apply Same.step (m := 67092479) (by decide) (vdmAbort_same ..)
    | apply Same.step (m := 67092471) (by decide) (pdSend_same ..)
    | apply Same.step (m := 67092479) (by decide) (setSeq_same ..)
    | apply Same.step (m := 67092469) (by decide) (pdNext_same ..)
    | apply Same.ite
    | apply Same.ite1
    | apply Same.ite2
    | extract_lets
    | split
    | dsimp -zeta only
    | dsimp +zetaDelta only

theorem State.pdSafe_same (s : State) (n : Nat) :
    Same 67092469 s (State.pdSafe s n) := by
  unfold State.pdSafe
  repeat' with_reducible first
    | exact Same.refl _
    | apply Same.step (m := 67092479) (by decide) (mapPd_same ..)
    | apply Same.step (m := 67092471) (by decide) (pdSend_same ..)
    | apply Same.step (m := 67092479) (by decide) (setSeq_same ..)
    | apply Same.step (m := 67108861) (by decide) (sets_same ..)
    | apply Same.step (m := 67108853) (by decide) (dropContract_same ..)
    | apply Same.ite
    | apply Same.ite1
    | apply Same.ite2
    | extract_lets
    | split
    | dsimp -zeta only
    | dsimp +zetaDelta only

theorem State.pdWait_same (s : State) (n : Nat) :
    Same 67092213 s (State.pdWait s n) := by
  unfold State.pdWait
  repeat' with_reducible first
    | exact Same.refl _
    | apply Same.step (m := 67092469) (by decide) (pdNext_same ..)
    | apply Same.step (m := 67092213) (by decide) (swapEnd_same ..)
    | apply Same.step (m := 67108861) (by decide) (set_same ..)
    | apply Same.ite
    | apply Same.ite1
    | apply Same.ite2
    | extract_lets
    | split
    | dsimp -zeta only
    | dsimp +zetaDelta only

theorem State.prSwapIn_same (s : State) (n : Nat) :
    Same 67092213 s (State.prSwapIn s n) := by
  unfold State.prSwapIn
  repeat' with_reducible first
    | exact Same.refl _
    | apply Same.step (m := 67092471) (by decide) (pdSend_same ..)
    | apply Same.step (m := 67092477) (by decide) (prStart_same ..)
    | apply Same.step (m := 67092469) (by decide) (eprOff_same ..)
    | apply Same.step (m := 67092479) (by decide) (mapPd_same ..)
    | apply Same.step (m := 67092213) (by decide) (swapEnd_same ..)
    | apply Same.ite
    | apply Same.ite1
    | apply Same.ite2
    | extract_lets
    | split
    | dsimp -zeta only
    | dsimp +zetaDelta only

theorem State.psRdy_same (s : State) (n : Nat) :
    Same 62897909 s (State.psRdy s n) := by
  unfold State.psRdy
  repeat' with_reducible first
    | exact Same.refl _
    | apply Same.step (m := 67092469) (by decide) (contract_same ..)
    | apply Same.step (m := 67108861) (by decide) (set_same ..)
    | apply Same.step (m := 67092469) (by decide) (pdNext_same ..)
    | apply Same.step (m := 67092479) (by decide) (mapPd_same ..)
    | apply Same.step (m := 67092213) (by decide) (swapEnd_same ..)
    | apply Same.step (m := 62898165) (by decide) (vbReq_same ..)
    | apply Same.step (m := 67092479) (by decide) (setSeq_same ..)
    | apply Same.step (m := 67108861) (by decide) (sets_same ..)
    | apply Same.step (m := 67108853) (by decide) (dropContract_same ..)
    | apply Same.ite
    | apply Same.ite1
    | apply Same.ite2
    | extract_lets
    | split
    | dsimp -zeta only
    | dsimp +zetaDelta only

theorem State.resumeMove_same (s : State) (n : Nat) :
    Same 67092477 s (State.resumeMove s n) := by
  unfold State.resumeMove
  repeat' with_reducible first
    | exact Same.refl _
    | apply Same.step (m := 67092477) (by decide) (startMove_same ..)
    | apply Same.step (m := 67092479) (by decide) (mapVb_same ..)
    | apply Same.ite
    | apply Same.ite1
    | apply Same.ite2
    | extract_lets
    | split
    | dsimp -zeta only
    | dsimp +zetaDelta only

theorem State.srcTransition_same (s : State) (n : Nat) :
    Same 62898165 s (State.srcTransition s n) := by
  unfold State.srcTransition
  repeat' with_reducible first
    | exact Same.refl _
    | apply Same.step (m := 67092479) (by decide) (setSeq_same ..)
    | apply Same.step (m := 67092477) (by decide) (startMove_same ..)
    | apply Same.step (m := 62898165) (by decide) (vbReq_same ..)
    | apply Same.step (m := 67092469) (by decide) (pdSafe_same ..)
    | apply Same.ite
    | apply Same.ite1
    | apply Same.ite2
    | extract_lets
    | split
    | dsimp -zeta only
    | dsimp +zetaDelta only

end Sys2Proof.Machine
end

