-- ==== Sys2Proof/Laws/FramePoolFx.lean ====
section
/-! SUPPORT. What each operation of Machine/PoolFx.lean may change: every other part of State stays as it is. -/

set_option linter.all false

namespace Sys2Proof.Machine

theorem State.setSlice_same (s : State) (d : Nat) (v : Nat) :
    Same 67108861 s (State.setSlice s d v) := by
  unfold State.setSlice
  repeat' with_reducible first
    | exact Same.refl _
    | apply Same.step (m := 67108861) (by decide) (set_same ..)
    | apply Same.ite
    | apply Same.ite1
    | apply Same.ite2
    | extract_lets
    | split
    | dsimp -zeta only
    | dsimp +zetaDelta only

theorem State.poolRecall_same (s : State) :
    Same 67108861 s (State.poolRecall s) := by
  unfold State.poolRecall
  repeat' with_reducible first
    | exact Same.refl _
    | apply Same.step (m := 67108861) (by decide) (put_same ..)
    | apply Same.ite
    | apply Same.ite1
    | apply Same.ite2
    | extract_lets
    | split
    | dsimp -zeta only
    | dsimp +zetaDelta only

theorem State.regionRecall_same (s : State) (r : Nat) (g : Region) :
    Same 50292085 s (State.regionRecall s r g) := by
  unfold State.regionRecall
  repeat' with_reducible first
    | exact Same.refl _
    | apply Same.step (m := 50292085) (by decide) (advance_same ..)
    | apply Same.step (m := 67108861) (by decide) (poolRecall_same ..)
    | apply Same.step (m := 67108351) (by decide) (mapPool_same ..)
    | apply Same.step (m := 67108861) (by decide) (put_same ..)
    | apply Same.ite
    | apply Same.ite1
    | apply Same.ite2
    | extract_lets
    | split
    | dsimp -zeta only
    | dsimp +zetaDelta only

theorem State.windowRecall_same (s : State) (k : Nat) :
    Same 50292085 s (State.windowRecall s k) := by
  unfold State.windowRecall
  repeat' with_reducible first
    | exact Same.refl _
    | apply Same.step (m := 50292085) (by decide) (advance_same ..)
    | apply Same.step (m := 67108351) (by decide) (mapPool_same ..)
    | apply Same.step (m := 67108861) (by decide) (put_same ..)
    | apply Same.ite
    | apply Same.ite1
    | apply Same.ite2
    | extract_lets
    | split
    | dsimp -zeta only
    | dsimp +zetaDelta only

theorem State.groupLost_same (s : State) (l : List Nat) :
    Same 50292085 s (State.groupLost s l) := by
  unfold State.groupLost
  repeat' with_reducible first
    | exact Same.refl _
    | apply Same.step (m := 50292085) (by decide) (advance_same ..)
    | apply Same.step (m := 67108855) (by decide) (raise_same ..)
    | apply Same.step (m := 67108351) (by decide) (mapPool_same ..)
    | apply Same.ite
    | apply Same.ite1
    | apply Same.ite2
    | extract_lets
    | split
    | dsimp -zeta only
    | dsimp +zetaDelta only

theorem State.stopRebuild_same (s : State) (l : List Nat) :
    Same 67108861 s (State.stopRebuild s l) := by
  unfold State.stopRebuild
  repeat' with_reducible first
    | exact Same.refl _
    | apply Same.step (m := 67108861) (by decide) (State.set_same ..)
    | apply Same.step (m := 67108861) (by decide) (State.setSlice_same ..)
    | apply Same.ite
    | apply Same.ite1
    | apply Same.ite2
    | extract_lets
    | split
    | dsimp -zeta only
    | dsimp +zetaDelta only

theorem State.sliceFail_same (s : State) (d : Nat) (cause : Nat) :
    Same 50283893 s (State.sliceFail s d cause) := by
  unfold State.sliceFail
  repeat' with_reducible first
    | exact Same.refl _
    | apply Same.step (m := 50292085) (by decide) (State.groupLost_same ..)
    | apply Same.step (m := 67108351) (by decide) (State.mapPool_same ..)
    | apply Same.step (m := 67108855) (by decide) (State.raise_same ..)
    | apply Same.step (m := 67108861) (by decide) (State.set_same ..)
    | apply Same.step (m := 67108861) (by decide) (State.setSlice_same ..)
    | apply Same.step (m := 67100661) (by decide) (State.softRecord_same ..)
    | apply Same.step (m := 67108861) (by decide) (State.stopRebuild_same ..)
    | apply Same.ite
    | apply Same.ite1
    | apply Same.ite2
    | extract_lets
    | split
    | dsimp -zeta only
    | dsimp +zetaDelta only

theorem State.restoreTrackers_same (s : State) (d : Nat) :
    Same 67108351 s (State.restoreTrackers s d) := by
  unfold State.restoreTrackers
  repeat' with_reducible first
    | exact Same.refl _
    | apply Same.step (m := 67108351) (by decide) (State.mapPool_same ..)
    | apply Same.ite
    | apply Same.ite1
    | apply Same.ite2
    | extract_lets
    | split
    | dsimp -zeta only
    | dsimp +zetaDelta only

theorem State.sliceCmd_same (s : State) (v : Nat) :
    Same 50283893 s (State.sliceCmd s v) := by
  unfold State.sliceCmd
  repeat' with_reducible first
    | exact Same.refl _
    | apply Same.step (m := 67108861) (by decide) (State.set_same ..)
    | apply Same.step (m := 50283893) (by decide) (State.sliceFail_same ..)
    | apply Same.ite
    | apply Same.ite1
    | apply Same.ite2
    | extract_lets
    | split
    | dsimp -zeta only
    | dsimp +zetaDelta only

theorem State.copyEntry_same (s : State) :
    Same 67108861 s (State.copyEntry s) := by
  unfold State.copyEntry
  repeat' with_reducible first
    | exact Same.refl _
    | apply Same.step (m := 67108861) (by decide) (State.sets_same ..)
    | apply Same.ite
    | apply Same.ite1
    | apply Same.ite2
    | extract_lets
    | split
    | dsimp -zeta only
    | dsimp +zetaDelta only

theorem State.byAddr_same (s : State) :
    Same 67108861 s (State.byAddr s) := by
  unfold State.byAddr
  repeat' with_reducible first
    | exact Same.refl _
    | apply Same.step (m := 67108861) (by decide) (State.copyEntry_same ..)
    | apply Same.step (m := 67108861) (by decide) (State.sets_same ..)
    | apply Same.ite
    | apply Same.ite1
    | apply Same.ite2
    | extract_lets
    | split
    | dsimp -zeta only
    | dsimp +zetaDelta only

theorem State.entCmd_same (s : State) (v : Nat) :
    Same 67108861 s (State.entCmd s v) := by
  unfold State.entCmd
  repeat' with_reducible first
    | exact Same.refl _
    | apply Same.step (m := 67108861) (by decide) (byAddr_same ..)
    | apply Same.step (m := 67108861) (by decide) (copyEntry_same ..)
    | apply Same.ite
    | apply Same.ite1
    | apply Same.ite2
    | extract_lets
    | split
    | dsimp -zeta only
    | dsimp +zetaDelta only

theorem State.crCtrl_same (s : State) (s0 : State) (n : Nat) (v : Nat) :
    Same 67108341 s (State.crCtrl s s0 n v) := by
  unfold State.crCtrl
  repeat' with_reducible first
    | exact Same.refl _
    | apply Same.step (m := 67108341) (by decide) (creamDrop_same ..)
    | apply Same.step (m := 67108855) (by decide) (raiseIf_same ..)
    | apply Same.ite
    | apply Same.ite1
    | apply Same.ite2
    | extract_lets
    | split
    | dsimp -zeta only
    | dsimp +zetaDelta only

theorem State.creamFault_same (s : State) (n : Nat) (b : Nat) (ceLimit : Bool) :
    Same 67100149 s (State.creamFault s n b ceLimit) := by
  unfold State.creamFault
  repeat' with_reducible first
    | exact Same.refl _
    | apply Same.step (m := 67108341) (by decide) (creamDrop_same ..)
    | apply Same.step (m := 67108861) (by decide) (set_same ..)
    | apply Same.step (m := 67100661) (by decide) (softRecord_same ..)
    | apply Same.step (m := 67108855) (by decide) (raiseIf_same ..)
    | apply Same.step (m := 67108855) (by decide) (raise_same ..)
    | apply Same.ite
    | apply Same.ite1
    | apply Same.ite2
    | extract_lets
    | split
    | dsimp -zeta only
    | dsimp +zetaDelta only

theorem State.creamWord_same (s : State) (r : Req) :
    Same 67100149 s (State.creamWord s r) := by
  unfold State.creamWord
  repeat' with_reducible first
    | exact Same.refl _
    | apply Same.step (m := 67100149) (by decide) (State.creamFault_same ..)
    | apply Same.ite
    | apply Same.ite1
    | apply Same.ite2
    | extract_lets
    | split
    | dsimp -zeta only
    | dsimp +zetaDelta only

theorem State.rowFix_same (s : State) (d : Nat) (row : Nat) :
    Same 50283893 s (State.rowFix s d row) := by
  unfold State.rowFix
  repeat' with_reducible first
    | exact Same.refl _
    | apply Same.step (m := 67108351) (by decide) (State.mapPool_same ..)
    | apply Same.step (m := 67108855) (by decide) (State.raise_same ..)
    | apply Same.step (m := 67108861) (by decide) (State.sat_same ..)
    | apply Same.step (m := 50283893) (by decide) (State.sliceFail_same ..)
    | apply Same.ite
    | apply Same.ite1
    | apply Same.ite2
    | extract_lets
    | split
    | dsimp -zeta only
    | dsimp +zetaDelta only

theorem State.looked_same (s : State) (h : Nat) (tag : Nat) (dpa : Nat) (k : Look) (kind : ReqKind) (noData : Bool) :
    Same 50282869 s (State.looked s h tag dpa k kind noData) := by
  unfold State.looked
  repeat' with_reducible first
    | exact Same.refl _
    | apply Same.step (m := 67107829) (by decide) (State.colourSeen_same ..)
    | apply Same.step (m := 67107839) (by decide) (State.colourUpset_same ..)
    | apply Same.step (m := 67100149) (by decide) (State.creamWord_same ..)
    | apply Same.step (m := 50283893) (by decide) (State.rowFix_same ..)
    | apply Same.ite
    | apply Same.ite1
    | apply Same.ite2
    | extract_lets
    | split
    | dsimp -zeta only
    | dsimp +zetaDelta only

theorem State.hostMem_same (s : State) (h : Nat) (tag : Nat) (x : MemAddr) (kind : ReqKind) (noData : Bool) (w : LineData) :
    Same 50020725 s (State.hostMem s h tag x kind noData w) := by
  unfold State.hostMem
  repeat' with_reducible first
    | exact Same.refl _
    | apply Same.step (m := 50028917) (by decide) (State.hostReq_same ..)
    | apply Same.step (m := 50282869) (by decide) (State.looked_same ..)
    | apply Same.ite
    | apply Same.ite1
    | apply Same.ite2
    | extract_lets
    | split
    | dsimp -zeta only
    | dsimp +zetaDelta only

theorem State.drainMaxReset_same (s : State) :
    Same 67108861 s (State.drainMaxReset s) := by
  unfold State.drainMaxReset
  repeat' with_reducible first
    | exact Same.refl _
    | apply Same.step (m := 67108861) (by decide) (set_same ..)
    | apply Same.ite
    | apply Same.ite1
    | apply Same.ite2
    | extract_lets
    | split
    | dsimp -zeta only
    | dsimp +zetaDelta only

theorem State.logClr_same (s : State) :
    Same 67108861 s (State.logClr s) := by
  unfold State.logClr
  repeat' with_reducible first
    | exact Same.refl _
    | apply Same.step (m := 67108861) (by decide) (set_same ..)
    | apply Same.ite
    | apply Same.ite1
    | apply Same.ite2
    | extract_lets
    | split
    | dsimp -zeta only
    | dsimp +zetaDelta only

theorem State.poolFx_same (s : State) (s0 : State) (x : Wr) :
    Same 50282869 s (State.poolFx s s0 x) := by
  unfold State.poolFx
  repeat' with_reducible first
    | exact Same.refl _
    | apply Same.step (m := 50292085) (by decide) (regionRecall_same ..)
    | apply Same.step (m := 67108861) (by decide) (set_same ..)
    | apply Same.step (m := 50292085) (by decide) (windowRecall_same ..)
    | apply Same.step (m := 50283893) (by decide) (sliceCmd_same ..)
    | apply Same.step (m := 67108861) (by decide) (entCmd_same ..)
    | apply Same.step (m := 67108341) (by decide) (crCtrl_same ..)
    | apply Same.step (m := 67108861) (by decide) (drainMaxReset_same ..)
    | apply Same.step (m := 67107839) (by decide) (fill_same ..)
    | apply Same.step (m := 67108861) (by decide) (logClr_same ..)
    | apply Same.ite
    | apply Same.ite1
    | apply Same.ite2
    | extract_lets
    | split
    | dsimp -zeta only
    | dsimp +zetaDelta only

theorem State.drainBegin_same (s : State) (l : List Nat) :
    Same 67107821 s (State.drainBegin s l) := by
  unfold State.drainBegin
  repeat' with_reducible first
    | exact Same.refl _
    | apply Same.step (m := 67108847) (by decide) (setSlot_same ..)
    | apply Same.step (m := 67108861) (by decide) (sets_same ..)
    | apply Same.step (m := 67107839) (by decide) (mapGd_same ..)
    | apply Same.trans _ (foldl_same _ _ _ (fun _ _ => ?_))
    | apply Same.trans _ (foldl_same1 _ _ _ (fun _ _ => ?_))
    | apply Same.ite
    | apply Same.ite1
    | apply Same.ite2
    | extract_lets
    | split
    | dsimp -zeta only
    | dsimp +zetaDelta only

theorem State.drainRecord_same (s : State) :
    Same 67107829 s (State.drainRecord s) := by
  unfold State.drainRecord
  repeat' with_reducible first
    | exact Same.refl _
    | apply Same.step (m := 67108861) (by decide) (sets_same ..)
    | apply Same.step (m := 67107839) (by decide) (mapGd_same ..)
    | apply Same.step (m := 67108855) (by decide) (raiseIf_same ..)
    | apply Same.step (m := 67108861) (by decide) (sat_same ..)
    | apply Same.ite
    | apply Same.ite1
    | apply Same.ite2
    | extract_lets
    | split
    | dsimp -zeta only
    | dsimp +zetaDelta only

theorem State.dxFail_same (s : State) :
    Same 67100661 s (State.dxFail s) := by
  unfold State.dxFail
  repeat' with_reducible first
    | exact Same.refl _
    | apply Same.step (m := 67108855) (by decide) (State.raise_same ..)
    | apply Same.step (m := 67108861) (by decide) (State.set_same ..)
    | apply Same.step (m := 67108861) (by decide) (State.setSlice_same ..)
    | apply Same.step (m := 67100661) (by decide) (State.softRecord_same ..)
    | apply Same.step (m := 67108861) (by decide) (State.stopRebuild_same ..)
    | apply Same.ite
    | apply Same.ite1
    | apply Same.ite2
    | extract_lets
    | split
    | dsimp -zeta only
    | dsimp +zetaDelta only

theorem State.rebuildDone_same (s : State) (d : Nat) :
    Same 67108853 s (State.rebuildDone s d) := by
  unfold State.rebuildDone
  repeat' with_reducible first
    | exact Same.refl _
    | apply Same.step (m := 67108855) (by decide) (State.raise_same ..)
    | apply Same.step (m := 67108861) (by decide) (State.setSlice_same ..)
    | apply Same.step (m := 67108861) (by decide) (State.sets_same ..)
    | apply Same.ite
    | apply Same.ite1
    | apply Same.ite2
    | extract_lets
    | split
    | dsimp -zeta only
    | dsimp +zetaDelta only

theorem State.sliceTrouble_same (s : State) (d : Nat) (x0 : SliceTrouble) :
    Same 50283893 s (State.sliceTrouble s d x0) := by
  unfold State.sliceTrouble
  repeat' with_reducible first
    | exact Same.refl _
    | apply Same.step (m := 50283893) (by decide) (State.rowFix_same ..)
    | apply Same.step (m := 50283893) (by decide) (State.sliceFail_same ..)
    | apply Same.ite
    | apply Same.ite1
    | apply Same.ite2
    | extract_lets
    | split
    | dsimp -zeta only
    | dsimp +zetaDelta only

theorem State.reconServes_same (s : State) (d : Nat) :
    Same 50292085 s (State.reconServes s d) := by
  unfold State.reconServes
  repeat' with_reducible first
    | exact Same.refl _
    | apply Same.step (m := 50292085) (by decide) (State.advance_same ..)
    | apply Same.step (m := 67108351) (by decide) (State.mapPool_same ..)
    | apply Same.step (m := 67108855) (by decide) (State.raise_same ..)
    | apply Same.step (m := 67108351) (by decide) (State.restoreTrackers_same ..)
    | apply Same.step (m := 67108861) (by decide) (State.set_same ..)
    | apply Same.step (m := 67108861) (by decide) (State.setSlice_same ..)
    | apply Same.step (m := 67108861) (by decide) (State.sets_same ..)
    | apply Same.ite
    | apply Same.ite1
    | apply Same.ite2
    | extract_lets
    | split
    | dsimp -zeta only
    | dsimp +zetaDelta only

theorem State.reflectorFail_same (s : State) (g : Nat) :
    Same 50283893 s (State.reflectorFail s g) := by
  unfold State.reflectorFail
  repeat' with_reducible first
    | exact Same.refl _
    | apply Same.step (m := 50292085) (by decide) (State.groupLost_same ..)
    | apply Same.step (m := 67108855) (by decide) (State.raise_same ..)
    | apply Same.step (m := 67108861) (by decide) (State.set_same ..)
    | apply Same.step (m := 67100661) (by decide) (State.softRecord_same ..)
    | apply Same.step (m := 67108861) (by decide) (State.stopRebuild_same ..)
    | apply Same.ite
    | apply Same.ite1
    | apply Same.ite2
    | extract_lets
    | split
    | dsimp -zeta only
    | dsimp +zetaDelta only

theorem State.regionRecallEnd_same (s : State) (r : Nat) :
    Same 67108341 s (State.regionRecallEnd s r) := by
  unfold State.regionRecallEnd
  repeat' with_reducible first
    | exact Same.refl _
    | apply Same.step (m := 67108855) (by decide) (raise_same ..)
    | apply Same.step (m := 67108861) (by decide) (poolRecall_same ..)
    | apply Same.step (m := 67108861) (by decide) (put_same ..)
    | apply Same.step (m := 67108351) (by decide) (mapPool_same ..)
    | apply Same.ite
    | apply Same.ite1
    | apply Same.ite2
    | extract_lets
    | split
    | dsimp -zeta only
    | dsimp +zetaDelta only

theorem State.windowRecallEnd_same (s : State) (h : Nat) (w : Nat) :
    Same 67108341 s (State.windowRecallEnd s h w) := by
  unfold State.windowRecallEnd
  repeat' with_reducible first
    | exact Same.refl _
    | apply Same.step (m := 67108855) (by decide) (raise_same ..)
    | apply Same.step (m := 67108861) (by decide) (put_same ..)
    | apply Same.step (m := 67108351) (by decide) (mapPool_same ..)
    | apply Same.ite
    | apply Same.ite1
    | apply Same.ite2
    | extract_lets
    | split
    | dsimp -zeta only
    | dsimp +zetaDelta only

end Sys2Proof.Machine
end

