-- ==== Sys2Proof/Laws/FrameVault.lean ====
section
/-! SUPPORT. What each operation of Machine/Vault.lean may change: every other part of State stays as it is. -/

set_option linter.all false

namespace Sys2Proof.Machine

theorem State.mapOtp_same (s : State) (f : OtpSt → OtpSt) :
    Same 66060287 s (State.mapOtp s f) := by
  unfold State.mapOtp
  repeat' with_reducible first
    | exact Same.refl _
    | apply Same.ite
    | apply Same.ite1
    | apply Same.ite2
    | extract_lets
    | split
    | dsimp -zeta only
    | dsimp +zetaDelta only
    | apply Same.with_otp (by decide)

theorem State.otpPut_same (s : State) (w : Nat) (x2 : List Nat) :
    Same 66060287 s (State.otpPut s w x2) := by
  induction x2 generalizing s w with
  | nil => exact Same.refl _
  | cons a l ih =>
    unfold State.otpPut
    repeat' with_reducible first
      | exact Same.refl _
      | apply Same.step (m := 66060287) (by decide) (mapOtp_same ..)
      | apply Same.trans _ (ih _ _)
      | apply Same.ite
      | apply Same.ite1
      | apply Same.ite2
      | extract_lets
      | split
      | dsimp -zeta only
      | dsimp +zetaDelta only

theorem State.lcBlow_same (s : State) (target : Nat) :
    Same 66060279 s (State.lcBlow s target) := by
  unfold State.lcBlow
  repeat' with_reducible first
    | exact Same.refl _
    | apply Same.step (m := 67108855) (by decide) (raise_same ..)
    | apply Same.step (m := 66060287) (by decide) (otpPut_same ..)
    | apply Same.step (m := 66060287) (by decide) (mapOtp_same ..)
    | apply Same.trans _ (foldl_same _ _ _ (fun _ _ => ?_))
    | apply Same.trans _ (foldl_same1 _ _ _ (fun _ _ => ?_))
    | apply Same.ite
    | apply Same.ite1
    | apply Same.ite2
    | extract_lets
    | split
    | dsimp -zeta only
    | dsimp +zetaDelta only

theorem State.mapVault_same (s : State) (f : VaultSt → VaultSt) :
    Same 66584575 s (State.mapVault s f) := by
  unfold State.mapVault
  repeat' with_reducible first
    | exact Same.refl _
    | apply Same.ite
    | apply Same.ite1
    | apply Same.ite2
    | extract_lets
    | split
    | dsimp -zeta only
    | dsimp +zetaDelta only
    | apply Same.with_vault (by decide)

theorem State.putKey_same (s : State) (k : Nat) (key : Nat) :
    Same 49807359 s (State.putKey s k key) := by
  unfold State.putKey
  repeat' with_reducible first
    | exact Same.refl _
    | apply Same.step (m := 50331647) (by decide) (fresh_same ..)
    | apply Same.step (m := 66584575) (by decide) (mapVault_same ..)
    | apply Same.ite
    | apply Same.ite1
    | apply Same.ite2
    | extract_lets
    | split
    | dsimp -zeta only
    | dsimp +zetaDelta only

theorem State.fillSlot_same (s : State) (k : Nat) (key : Nat) (attr : Nat) (exp : Bool) (owner : Nat) :
    Same 49807357 s (State.fillSlot s k key attr exp owner) := by
  unfold State.fillSlot
  repeat' with_reducible first
    | exact Same.refl _
    | apply Same.step (m := 67108861) (by decide) (sets_same ..)
    | apply Same.step (m := 49807359) (by decide) (putKey_same ..)
    | apply Same.ite
    | apply Same.ite1
    | apply Same.ite2
    | extract_lets
    | split
    | dsimp -zeta only
    | dsimp +zetaDelta only

theorem State.formRoot_same (s : State) :
    Same 49807357 s (State.formRoot s) := by
  unfold State.formRoot
  repeat' with_reducible first
    | exact Same.refl _
    | apply Same.step (m := 67108861) (by decide) (put_same ..)
    | apply Same.step (m := 49807357) (by decide) (fillSlot_same ..)
    | apply Same.ite
    | apply Same.ite1
    | apply Same.ite2
    | extract_lets
    | split
    | dsimp -zeta only
    | dsimp +zetaDelta only

theorem State.drbgStart_same (s : State) :
    Same 66584573 s (State.drbgStart s) := by
  unfold State.drbgStart
  repeat' with_reducible first
    | exact Same.refl _
    | apply Same.step (m := 67108861) (by decide) (set_same ..)
    | apply Same.step (m := 66584575) (by decide) (mapVault_same ..)
    | apply Same.ite
    | apply Same.ite1
    | apply Same.ite2
    | extract_lets
    | split
    | dsimp -zeta only
    | dsimp +zetaDelta only

theorem State.emptySlot_same (s : State) (k : Nat) :
    Same 66584573 s (State.emptySlot s k) := by
  unfold State.emptySlot
  repeat' with_reducible first
    | exact Same.refl _
    | apply Same.step (m := 67108861) (by decide) (sets_same ..)
    | apply Same.step (m := 66584575) (by decide) (mapVault_same ..)
    | apply Same.ite
    | apply Same.ite1
    | apply Same.ite2
    | extract_lets
    | split
    | dsimp -zeta only
    | dsimp +zetaDelta only

theorem State.emptyAll_same (s : State) :
    Same 66584573 s (State.emptyAll s) := by
  unfold State.emptyAll
  repeat' with_reducible first
    | exact Same.refl _
    | apply Same.step (m := 67108861) (by decide) (set_same ..)
    | apply Same.step (m := 66584573) (by decide) (emptySlot_same ..)
    | apply Same.trans _ (foldl_same _ _ _ (fun _ _ => ?_))
    | apply Same.trans _ (foldl_same1 _ _ _ (fun _ _ => ?_))
    | apply Same.ite
    | apply Same.ite1
    | apply Same.ite2
    | extract_lets
    | split
    | dsimp -zeta only
    | dsimp +zetaDelta only

theorem State.eraseRoot_same (s : State) :
    Same 64487421 s (State.eraseRoot s) := by
  unfold State.eraseRoot
  repeat' with_reducible first
    | exact Same.refl _
    | apply Same.step (m := 67108861) (by decide) (set_same ..)
    | apply Same.step (m := 66584575) (by decide) (mapVault_same ..)
    | apply Same.ite
    | apply Same.ite1
    | apply Same.ite2
    | extract_lets
    | split
    | dsimp -zeta only
    | dsimp +zetaDelta only
    | apply Same.with_regs (by decide)
    | apply Same.with_vault (by decide)
    | apply Same.with_rep (by decide)

theorem State.lcAccept_same (s : State) (target : Nat) :
    Same 63438845 s (State.lcAccept s target) := by
  unfold State.lcAccept
  repeat' with_reducible first
    | exact Same.refl _
    | apply Same.step (m := 66584573) (by decide) (emptyAll_same ..)
    | apply Same.step (m := 64487421) (by decide) (eraseRoot_same ..)
    | apply Same.step (m := 66060287) (by decide) (mapOtp_same ..)
    | apply Same.step (m := 67108861) (by decide) (sets_same ..)
    | apply Same.ite
    | apply Same.ite1
    | apply Same.ite2
    | extract_lets
    | split
    | dsimp -zeta only
    | dsimp +zetaDelta only

theorem State.drbgUse_same (s : State) :
    Same 66584575 s (State.drbgUse s) := by
  unfold State.drbgUse
  repeat' with_reducible first
    | exact Same.refl _
    | apply Same.step (m := 66584575) (by decide) (mapVault_same ..)
    | apply Same.ite
    | apply Same.ite1
    | apply Same.ite2
    | extract_lets
    | split
    | dsimp -zeta only
    | dsimp +zetaDelta only

theorem State.rootGen_same (s : State) :
    Same 49807349 s (State.rootGen s) := by
  unfold State.rootGen
  repeat' with_reducible first
    | exact Same.refl _
    | apply Same.step (m := 67108855) (by decide) (raise_same ..)
    | apply Same.step (m := 67108861) (by decide) (set_same ..)
    | apply Same.step (m := 66584575) (by decide) (mapVault_same ..)
    | apply Same.step (m := 50331647) (by decide) (fresh_same ..)
    | apply Same.step (m := 66584575) (by decide) (drbgUse_same ..)
    | apply Same.ite
    | apply Same.ite1
    | apply Same.ite2
    | extract_lets
    | split
    | dsimp -zeta only
    | dsimp +zetaDelta only

theorem State.slotUse_same (s : State) (k : Nat) :
    Same 67108861 s (State.slotUse s k) := by
  unfold State.slotUse
  repeat' with_reducible first
    | exact Same.refl _
    | apply Same.step (m := 67108861) (by decide) (sat_same ..)
    | apply Same.ite
    | apply Same.ite1
    | apply Same.ite2
    | extract_lets
    | split
    | dsimp -zeta only
    | dsimp +zetaDelta only

theorem State.kvOut_same (s : State) (c : Nat) (b : List (BitVec 8)) :
    Same 67108861 s (State.kvOut s c b) := by
  unfold State.kvOut
  repeat' with_reducible first
    | exact Same.refl _
    | apply Same.step (m := 67108861) (by decide) (set_same ..)
    | apply Same.trans _ (foldl_same _ _ _ (fun _ _ => ?_))
    | apply Same.trans _ (foldl_same1 _ _ _ (fun _ _ => ?_))
    | apply Same.ite
    | apply Same.ite1
    | apply Same.ite2
    | extract_lets
    | split
    | dsimp -zeta only
    | dsimp +zetaDelta only

theorem State.kvOp_same (s : State) (c : Nat) :
    Same 49807357 s (State.kvOp s c).2 := by
  unfold State.kvOp
  repeat' with_reducible first
    | exact Same.refl _
    | apply Same.step (m := 49807357) (by decide) (fillSlot_same ..)
    | apply Same.step (m := 50331647) (by decide) (fresh_same ..)
    | apply Same.step (m := 66584575) (by decide) (drbgUse_same ..)
    | apply Same.step (m := 67108861) (by decide) (slotUse_same ..)
    | apply Same.step (m := 67108861) (by decide) (kvOut_same ..)
    | apply Same.step (m := 66584573) (by decide) (emptySlot_same ..)
    | apply Same.ite
    | apply Same.ite1
    | apply Same.ite2
    | extract_lets
    | split
    | dsimp -zeta only
    | dsimp +zetaDelta only

theorem State.kvClear_same (s : State) (c : Nat) :
    Same 67108861 s (State.kvClear s c) := by
  unfold State.kvClear
  repeat' with_reducible first
    | exact Same.refl _
    | apply Same.step (m := 67108861) (by decide) (set_same ..)
    | apply Same.trans _ (foldl_same _ _ _ (fun _ _ => ?_))
    | apply Same.trans _ (foldl_same1 _ _ _ (fun _ _ => ?_))
    | apply Same.ite
    | apply Same.ite1
    | apply Same.ite2
    | extract_lets
    | split
    | dsimp -zeta only
    | dsimp +zetaDelta only

theorem State.kvRun_same (s : State) (c : Nat) :
    Same 49807357 s (State.kvRun s c) := by
  unfold State.kvRun
  repeat' with_reducible first
    | exact Same.refl _
    | apply Same.step (m := 49807357) (by decide) (kvOp_same ..)
    | apply Same.step (m := 67108861) (by decide) (set_same ..)
    | apply Same.step (m := 67108861) (by decide) (kvClear_same ..)
    | apply Same.ite
    | apply Same.ite1
    | apply Same.ite2
    | extract_lets
    | split
    | dsimp -zeta only
    | dsimp +zetaDelta only

theorem State.otpGo_same (s : State) :
    Same 66060285 s (State.otpGo s) := by
  unfold State.otpGo
  repeat' with_reducible first
    | exact Same.refl _
    | apply Same.step (m := 67108861) (by decide) (set_same ..)
    | apply Same.step (m := 66060287) (by decide) (mapOtp_same ..)
    | apply Same.ite
    | apply Same.ite1
    | apply Same.ite2
    | extract_lets
    | split
    | dsimp -zeta only
    | dsimp +zetaDelta only

theorem State.vaultFx_same (s : State) (s0 : State) (x : Wr) :
    Same 46661621 s (State.vaultFx s s0 x) := by
  unfold State.vaultFx
  repeat' with_reducible first
    | exact Same.refl _
    | apply Same.step (m := 63438845) (by decide) (lcAccept_same ..)
    | apply Same.step (m := 49807349) (by decide) (rootGen_same ..)
    | apply Same.step (m := 66584573) (by decide) (drbgStart_same ..)
    | apply Same.step (m := 49807357) (by decide) (kvRun_same ..)
    | apply Same.step (m := 66060285) (by decide) (otpGo_same ..)
    | apply Same.ite
    | apply Same.ite1
    | apply Same.ite2
    | extract_lets
    | split
    | dsimp -zeta only
    | dsimp +zetaDelta only

theorem State.remask_same (s : State) :
    Same 49807357 s (State.remask s) := by
  unfold State.remask
  repeat' with_reducible first
    | exact Same.refl _
    | apply Same.step (m := 67108861) (by decide) (sat_same ..)
    | apply Same.step (m := 49807359) (by decide) (putKey_same ..)
    | apply Same.step (m := 66584575) (by decide) (mapVault_same ..)
    | apply Same.trans _ (foldl_same _ _ _ (fun _ _ => ?_))
    | apply Same.trans _ (foldl_same1 _ _ _ (fun _ _ => ?_))
    | apply Same.ite
    | apply Same.ite1
    | apply Same.ite2
    | extract_lets
    | split
    | dsimp -zeta only
    | dsimp +zetaDelta only

theorem State.drbgFail_same (s : State) (reason : Nat) :
    Same 67108853 s (State.drbgFail s reason) := by
  unfold State.drbgFail
  repeat' with_reducible first
    | exact Same.refl _
    | apply Same.step (m := 67108855) (by decide) (raise_same ..)
    | apply Same.step (m := 67108861) (by decide) (sets_same ..)
    | apply Same.ite
    | apply Same.ite1
    | apply Same.ite2
    | extract_lets
    | split
    | dsimp -zeta only
    | dsimp +zetaDelta only

theorem State.keyProg_same (s : State) (p : Nat) (sub : Nat) (rx : Bool) (set : Bool) (key : Nat) :
    Same 49807357 s (State.keyProg s p sub rx set key).1 := by
  unfold State.keyProg
  repeat' with_reducible first
    | exact Same.refl _
    | apply Same.step (m := 49807357) (by decide) (fillSlot_same ..)
    | apply Same.step (m := 66584575) (by decide) (mapVault_same ..)
    | apply Same.ite
    | apply Same.ite1
    | apply Same.ite2
    | extract_lets
    | split
    | dsimp -zeta only
    | dsimp +zetaDelta only

theorem State.showIde_same (s : State) (p : Nat) :
    Same 67108861 s (State.showIde s p) := by
  unfold State.showIde
  repeat' with_reducible first
    | exact Same.refl _
    | apply Same.step (m := 67108861) (by decide) (put_same ..)
    | apply Same.ite
    | apply Same.ite1
    | apply Same.ite2
    | extract_lets
    | split
    | dsimp -zeta only
    | dsimp +zetaDelta only

theorem State.keySet_same (s : State) (p : Nat) (ix : Nat) (go : Bool) :
    Same 66584573 s (State.keySet s p ix go).1 := by
  unfold State.keySet
  repeat' with_reducible first
    | exact Same.refl _
    | apply Same.step (m := 67108861) (by decide) (showIde_same ..)
    | apply Same.step (m := 66584575) (by decide) (mapVault_same ..)
    | apply Same.ite
    | apply Same.ite1
    | apply Same.ite2
    | extract_lets
    | split
    | dsimp -zeta only
    | dsimp +zetaDelta only

theorem State.otpDone_same (s : State) (ok : Bool) :
    Same 49283061 s (State.otpDone s ok) := by
  unfold State.otpDone
  repeat' with_reducible first
    | exact Same.refl _
    | apply Same.step (m := 66060287) (by decide) (mapOtp_same ..)
    | apply Same.step (m := 67108861) (by decide) (set_same ..)
    | apply Same.step (m := 67108855) (by decide) (raise_same ..)
    | apply Same.step (m := 67108861) (by decide) (sets_same ..)
    | apply Same.step (m := 66060287) (by decide) (otpPut_same ..)
    | apply Same.step (m := 50331647) (by decide) (fresh_same ..)
    | apply Same.trans _ (foldl_same _ _ _ (fun _ _ => ?_))
    | apply Same.trans _ (foldl_same1 _ _ _ (fun _ _ => ?_))
    | apply Same.ite
    | apply Same.ite1
    | apply Same.ite2
    | extract_lets
    | split
    | dsimp -zeta only
    | dsimp +zetaDelta only

theorem State.setSpdm_same (s : State) (h : Nat) (x : Spdm) :
    Same 66584575 s (State.setSpdm s h x) := by
  unfold State.setSpdm
  repeat' with_reducible first
    | exact Same.refl _
    | apply Same.step (m := 66584575) (by decide) (mapVault_same ..)
    | apply Same.ite
    | apply Same.ite1
    | apply Same.ite2
    | extract_lets
    | split
    | dsimp -zeta only
    | dsimp +zetaDelta only

theorem State.spdmAns_same (s : State) (p : Nat) (code : Nat) (b : Option (List (BitVec 8))) :
    Same 67108855 s (State.spdmAns s p code b) := by
  unfold State.spdmAns
  repeat' with_reducible first
    | exact Same.refl _
    | apply Same.step (m := 67108855) (by decide) (emit_same ..)
    | apply Same.ite
    | apply Same.ite1
    | apply Same.ite2
    | extract_lets
    | split
    | dsimp -zeta only
    | dsimp +zetaDelta only

theorem State.tamperFabric_same (s : State) :
    Same 49570149 s (State.tamperFabric s) := by
  unfold State.tamperFabric
  repeat' with_reducible first
    | exact Same.refl _
    | apply Same.step (m := 50094453) (by decide) (lkDown_same ..)
    | apply Same.step (m := 66584573) (by decide) (emptyAll_same ..)
    | apply Same.step (m := 67108855) (by decide) (raise_same ..)
    | apply Same.step (m := 49570149) (by decide) (portDown_same ..)
    | apply Same.trans _ (foldl_same _ _ _ (fun _ _ => ?_))
    | apply Same.trans _ (foldl_same1 _ _ _ (fun _ _ => ?_))
    | apply Same.ite
    | apply Same.ite1
    | apply Same.ite2
    | extract_lets
    | split
    | dsimp -zeta only
    | dsimp +zetaDelta only

theorem State.tamper_same (s : State) (src : Nat) :
    Same 47472997 s (State.tamper s src) := by
  unfold State.tamper
  repeat' with_reducible first
    | exact Same.refl _
    | apply Same.step (m := 67108861) (by decide) (sat_same ..)
    | apply Same.step (m := 67108861) (by decide) (sets_same ..)
    | apply Same.step (m := 64487421) (by decide) (eraseRoot_same ..)
    | apply Same.step (m := 66584575) (by decide) (mapVault_same ..)
    | apply Same.step (m := 49570149) (by decide) (tamperFabric_same ..)
    | apply Same.ite
    | apply Same.ite1
    | apply Same.ite2
    | extract_lets
    | split
    | dsimp -zeta only
    | dsimp +zetaDelta only

end Sys2Proof.Machine
end

