-- ==== Sys2Proof/Laws/FrameRepairMap.lean ====
section
/-! SUPPORT. What each operation of Machine/RepairMap.lean may change: every other part of State stays as it is. -/

set_option linter.all false

namespace Sys2Proof.Machine

theorem State.mapEntry_same (s : State) (e : Nat) (f : RepEntry → RepEntry) :
    Same 67100671 s (State.mapEntry s e f) := by
  unfold State.mapEntry
  repeat' with_reducible first
    | exact Same.refl _
    | apply Same.step (m := 67100671) (by decide) (setRepair_same ..)
    | apply Same.ite
    | apply Same.ite1
    | apply Same.ite2
    | extract_lets
    | split
    | dsimp -zeta only
    | dsimp +zetaDelta only

theorem State.setSpare_same (s : State) (e : Nat) (spare : Nat) :
    Same 67100671 s (State.setSpare s e spare) := by
  unfold State.setSpare
  repeat' with_reducible first
    | exact Same.refl _
    | apply Same.step (m := 67100671) (by decide) (mapEntry_same ..)
    | apply Same.ite
    | apply Same.ite1
    | apply Same.ite2
    | extract_lets
    | split
    | dsimp -zeta only
    | dsimp +zetaDelta only

theorem State.dropShared_same (s : State) (n : Nat) :
    Same 67108735 s (State.dropShared s n) := by
  unfold State.dropShared
  repeat' with_reducible first
    | exact Same.refl _
    | apply Same.ite
    | apply Same.ite1
    | apply Same.ite2
    | extract_lets
    | split
    | dsimp -zeta only
    | dsimp +zetaDelta only
    | apply Same.with_sw (by decide)

theorem State.applyClass_same (s : State) (before : List Nat) (e : Nat) (cls : Nat) :
    Same 66837885 s (State.applyClass s before e cls) := by
  unfold State.applyClass
  repeat' with_reducible first
    | exact Same.refl _
    | apply Same.step (m := 67100671) (by decide) (setSpare_same ..)
    | apply Same.step (m := 67108861) (by decide) (setBank_same ..)
    | apply Same.step (m := 67108735) (by decide) (dropShared_same ..)
    | apply Same.step (m := 67108861) (by decide) (sub_same ..)
    | apply Same.step (m := 67108861) (by decide) (set_same ..)
    | apply Same.step (m := 67108861) (by decide) (sets_same ..)
    | apply Same.step (m := 67108861) (by decide) (setSlice_same ..)
    | apply Same.step (m := 67108351) (by decide) (mapPool_same ..)
    | apply Same.step (m := 67108861) (by decide) (setSampler_same ..)
    | apply Same.step (m := 66846719) (by decide) (mapPwr_same ..)
    | apply Same.ite
    | apply Same.ite1
    | apply Same.ite2
    | extract_lets
    | split
    | dsimp -zeta only
    | dsimp +zetaDelta only

theorem State.applyElem_same (s : State) (before : List Nat) (e : Nat) :
    Same 66837885 s (State.applyElem s before e) := by
  unfold State.applyElem
  repeat' with_reducible first
    | exact Same.refl _
    | apply Same.step (m := 66837885) (by decide) (applyClass_same ..)
    | apply Same.ite
    | apply Same.ite1
    | apply Same.ite2
    | extract_lets
    | split
    | dsimp -zeta only
    | dsimp +zetaDelta only

theorem State.applyAll_same (s : State) (l : List Nat) :
    Same 66837885 s (State.applyAll s l) := by
  unfold State.applyAll
  repeat' with_reducible first
    | exact Same.refl _
    | apply Same.step (m := 66837885) (by decide) (applyElem_same ..)
    | apply Same.trans _ (foldl_same _ _ _ (fun _ _ => ?_))
    | apply Same.trans _ (foldl_same1 _ _ _ (fun _ _ => ?_))
    | apply Same.ite
    | apply Same.ite1
    | apply Same.ite2
    | extract_lets
    | split
    | dsimp -zeta only
    | dsimp +zetaDelta only

theorem State.leaveOutPlanes_same (s : State) (failed : List Nat) :
    Same 67108733 s (State.leaveOutPlanes s failed) := by
  unfold State.leaveOutPlanes
  repeat' with_reducible first
    | exact Same.refl _
    | apply Same.step (m := 67108861) (by decide) (set_same ..)
    | apply Same.step (m := 67108861) (by decide) (sets_same ..)
    | apply Same.trans _ (foldl_same _ _ _ (fun _ _ => ?_))
    | apply Same.trans _ (foldl_same1 _ _ _ (fun _ _ => ?_))
    | apply Same.ite
    | apply Same.ite1
    | apply Same.ite2
    | extract_lets
    | split
    | dsimp -zeta only
    | dsimp +zetaDelta only
    | apply Same.with_regs (by decide)
    | apply Same.with_sw (by decide)

theorem State.applyMap_same (s : State) :
    Same 66706813 s (State.applyMap s) := by
  unfold State.applyMap
  repeat' with_reducible first
    | exact Same.refl _
    | apply Same.step (m := 66837885) (by decide) (applyAll_same ..)
    | apply Same.step (m := 66846719) (by decide) (mapPwr_same ..)
    | apply Same.step (m := 67108733) (by decide) (leaveOutPlanes_same ..)
    | apply Same.step (m := 66977791) (by decide) (setEngs_same ..)
    | apply Same.step (m := 67108861) (by decide) (sets_same ..)
    | apply Same.ite
    | apply Same.ite1
    | apply Same.ite2
    | extract_lets
    | split
    | dsimp -zeta only
    | dsimp +zetaDelta only

theorem State.startMap_same (s : State) (aonLost : Bool) :
    Same 66706805 s (State.startMap s aonLost) := by
  unfold State.startMap
  repeat' with_reducible first
    | exact Same.refl _
    | apply Same.step (m := 67108855) (by decide) (raise_same ..)
    | apply Same.step (m := 67108855) (by decide) (raiseIf_same ..)
    | apply Same.step (m := 67108861) (by decide) (set_same ..)
    | apply Same.step (m := 66706813) (by decide) (applyMap_same ..)
    | apply Same.ite
    | apply Same.ite1
    | apply Same.ite2
    | extract_lets
    | split
    | dsimp -zeta only
    | dsimp +zetaDelta only
    | apply Same.with_regs (by decide)
    | apply Same.with_sig (by decide)
    | apply Same.with_sw (by decide)
    | apply Same.with_pool (by decide)
    | apply Same.with_repair (by decide)
    | apply Same.with_engs (by decide)
    | apply Same.with_pwr (by decide)

theorem State.mapRep_same (s : State) (f : RepSt → RepSt) :
    Same 65011711 s (State.mapRep s f) := by
  unfold State.mapRep
  repeat' with_reducible first
    | exact Same.refl _
    | apply Same.ite
    | apply Same.ite1
    | apply Same.ite2
    | extract_lets
    | split
    | dsimp -zeta only
    | dsimp +zetaDelta only
    | apply Same.with_rep (by decide)

theorem State.avsAck_same (s : State) :
    Same 65011701 s (State.avsAck s) := by
  unfold State.avsAck
  repeat' with_reducible first
    | exact Same.refl _
    | apply Same.step (m := 67108855) (by decide) (raise_same ..)
    | apply Same.step (m := 67108861) (by decide) (set_same ..)
    | apply Same.step (m := 65011711) (by decide) (mapRep_same ..)
    | apply Same.ite
    | apply Same.ite1
    | apply Same.ite2
    | extract_lets
    | split
    | dsimp -zeta only
    | dsimp +zetaDelta only

theorem State.avsMeasure_same (s : State) (ppm : List Nat) :
    Same 65011701 s (State.avsMeasure s ppm) := by
  unfold State.avsMeasure
  repeat' with_reducible first
    | exact Same.refl _
    | apply Same.step (m := 67108861) (by decide) (sets_same ..)
    | apply Same.step (m := 67108861) (by decide) (set_same ..)
    | apply Same.step (m := 67108855) (by decide) (raise_same ..)
    | apply Same.step (m := 65011711) (by decide) (mapRep_same ..)
    | apply Same.trans _ (foldl_same _ _ _ (fun _ _ => ?_))
    | apply Same.trans _ (foldl_same1 _ _ _ (fun _ _ => ?_))
    | apply Same.ite
    | apply Same.ite1
    | apply Same.ite2
    | extract_lets
    | split
    | dsimp -zeta only
    | dsimp +zetaDelta only

theorem State.avsStep_same (s : State) :
    Same 65011703 s (State.avsStep s) := by
  unfold State.avsStep
  repeat' with_reducible first
    | exact Same.refl _
    | apply Same.step (m := 67108855) (by decide) (emit_same ..)
    | apply Same.step (m := 65011711) (by decide) (mapRep_same ..)
    | apply Same.ite
    | apply Same.ite1
    | apply Same.ite2
    | extract_lets
    | split
    | dsimp -zeta only
    | dsimp +zetaDelta only

theorem State.blowEntry_same (s : State) (r : RepEntry) :
    Same 66052085 s (State.blowEntry s r) := by
  unfold State.blowEntry
  repeat' with_reducible first
    | exact Same.refl _
    | apply Same.step (m := 66060287) (by decide) (otpPut_same ..)
    | apply Same.step (m := 67108855) (by decide) (raise_same ..)
    | apply Same.step (m := 67108861) (by decide) (set_same ..)
    | apply Same.step (m := 67100671) (by decide) (mapEntry_same ..)
    | apply Same.ite
    | apply Same.ite1
    | apply Same.ite2
    | extract_lets
    | split
    | dsimp -zeta only
    | dsimp +zetaDelta only

theorem State.reapply_same (s : State) (d : Nat) :
    Same 66837885 s (State.reapply s d) := by
  unfold State.reapply
  repeat' with_reducible first
    | exact Same.refl _
    | apply Same.step (m := 66837885) (by decide) (State.applyAll_same ..)
    | apply Same.ite
    | apply Same.ite1
    | apply Same.ite2
    | extract_lets
    | split
    | dsimp -zeta only
    | dsimp +zetaDelta only

theorem State.flashCopy_same (s : State) :
    Same 65011703 s (State.flashCopy s) := by
  unfold State.flashCopy
  repeat' with_reducible first
    | exact Same.refl _
    | apply Same.step (m := 67108855) (by decide) (emit_same ..)
    | apply Same.step (m := 65011711) (by decide) (mapRep_same ..)
    | apply Same.ite
    | apply Same.ite1
    | apply Same.ite2
    | extract_lets
    | split
    | dsimp -zeta only
    | dsimp +zetaDelta only

theorem State.recordFail_same (s : State) (e : Nat) :
    Same 67100661 s (State.recordFail s e) := by
  unfold State.recordFail
  repeat' with_reducible first
    | exact Same.refl _
    | apply Same.step (m := 67108861) (by decide) (set_same ..)
    | apply Same.step (m := 67100671) (by decide) (mapEntry_same ..)
    | apply Same.step (m := 67108855) (by decide) (raiseIf_same ..)
    | apply Same.step (m := 67108855) (by decide) (raise_same ..)
    | apply Same.step (m := 67100671) (by decide) (setRepair_same ..)
    | apply Same.ite
    | apply Same.ite1
    | apply Same.ite2
    | extract_lets
    | split
    | dsimp -zeta only
    | dsimp +zetaDelta only

theorem State.recordTest_same (s : State) :
    Same 66052085 s (State.recordTest s) := by
  unfold State.recordTest
  repeat' with_reducible first
    | exact Same.refl _
    | apply Same.step (m := 67100661) (by decide) (recordFail_same ..)
    | apply Same.step (m := 66052085) (by decide) (blowEntry_same ..)
    | apply Same.trans _ (foldl_same _ _ _ (fun _ _ => ?_))
    | apply Same.trans _ (foldl_same1 _ _ _ (fun _ _ => ?_))
    | apply Same.ite
    | apply Same.ite1
    | apply Same.ite2
    | extract_lets
    | split
    | dsimp -zeta only
    | dsimp +zetaDelta only
    | apply Same.with_regs (by decide)
    | apply Same.with_sig (by decide)
    | apply Same.with_repair (by decide)
    | apply Same.with_otp (by decide)

end Sys2Proof.Machine
end

