-- ==== Sys2Proof/Laws/FrameTime.lean ====
section
/-! SUPPORT. What each operation of Machine/Time.lean may change: every other part of State stays as it is. -/

set_option linter.all false

namespace Sys2Proof.Machine

theorem State.setTrig_same (s : State) (n : Nat) (x : Trig) :
    Same 67108799 s (State.setTrig s n x) := by
  unfold State.setTrig
  repeat' with_reducible first
    | exact Same.refl _
    | apply Same.ite
    | apply Same.ite1
    | apply Same.ite2
    | extract_lets
    | split
    | dsimp -zeta only
    | dsimp +zetaDelta only
    | apply Same.with_time (by decide)

theorem State.drive_same (s : State) (n : Nat) (active : Bool) (ps : Int) :
    Same 67108853 s (State.drive s n active ps) := by
  unfold State.drive
  repeat' with_reducible first
    | exact Same.refl _
    | apply Same.step (m := 67108855) (by decide) (State.emit_same ..)
    | apply Same.step (m := 67108861) (by decide) (State.put_same ..)
    | apply Same.ite
    | apply Same.ite1
    | apply Same.ite2
    | extract_lets
    | split
    | dsimp -zeta only
    | dsimp +zetaDelta only

theorem State.pulse_same (s : State) (n : Nat) (t : Int) (late : Bool) :
    Same 67108789 s (State.pulse s n t late) := by
  unfold State.pulse
  repeat' with_reducible first
    | exact Same.refl _
    | apply Same.step (m := 67108853) (by decide) (State.drive_same ..)
    | apply Same.step (m := 67108861) (by decide) (State.put_same ..)
    | apply Same.step (m := 67108855) (by decide) (State.raise_same ..)
    | apply Same.step (m := 67108855) (by decide) (State.raiseIf_same ..)
    | apply Same.step (m := 67108861) (by decide) (State.sat_same ..)
    | apply Same.step (m := 67108799) (by decide) (State.setTrig_same ..)
    | apply Same.ite
    | apply Same.ite1
    | apply Same.ite2
    | extract_lets
    | split
    | dsimp -zeta only
    | dsimp +zetaDelta only

theorem State.disarm_same (s : State) (n : Nat) :
    Same 67108797 s (State.disarm s n) := by
  unfold State.disarm
  repeat' with_reducible first
    | exact Same.refl _
    | apply Same.step (m := 67108799) (by decide) (setTrig_same ..)
    | apply Same.step (m := 67108861) (by decide) (set_same ..)
    | apply Same.ite
    | apply Same.ite1
    | apply Same.ite2
    | extract_lets
    | split
    | dsimp -zeta only
    | dsimp +zetaDelta only

theorem State.predictTrig_same (s : State) (n : Nat) :
    Same 67108799 s (State.predictTrig s n) := by
  unfold State.predictTrig
  repeat' with_reducible first
    | exact Same.refl _
    | apply Same.step (m := 67108799) (by decide) (State.setTrig_same ..)
    | apply Same.ite
    | apply Same.ite1
    | apply Same.ite2
    | extract_lets
    | split
    | dsimp -zeta only
    | dsimp +zetaDelta only

theorem State.fire_same (s : State) (n : Nat) (t : Int) (late : Bool) (next : Nat) :
    Same 67108789 s (State.fire s n t late next) := by
  unfold State.fire
  repeat' with_reducible first
    | exact Same.refl _
    | apply Same.step (m := 67108799) (by decide) (State.predictTrig_same ..)
    | apply Same.step (m := 67108789) (by decide) (State.pulse_same ..)
    | apply Same.step (m := 67108799) (by decide) (State.setTrig_same ..)
    | apply Same.ite
    | apply Same.ite1
    | apply Same.ite2
    | extract_lets
    | split
    | dsimp -zeta only
    | dsimp +zetaDelta only

theorem State.catchUp_same  (x0 : Nat) (x1 : State) (x2 : Nat) :
    Same 67108789 x1 (State.catchUp x0 x1 x2) := by
  induction x0 generalizing x1 with
  | zero => exact Same.refl _
  | succ n ih =>
    unfold State.catchUp
    repeat' with_reducible first
      | exact Same.refl _
      | apply Same.trans _ (ih ..)
      | apply Same.step (m := 67108789) (by decide) (State.fire_same ..)
      | apply Same.ite
      | apply Same.ite1
      | apply Same.ite2
      | extract_lets
      | split
      | dsimp -zeta only
      | dsimp +zetaDelta only

theorem State.caught_same (s : State) (n : Nat) :
    Same 67108789 s (State.caught s n) := by
  unfold State.caught
  repeat' with_reducible first
    | exact Same.refl _
    | apply Same.step (m := 67108789) (by decide) (State.catchUp_same ..)
    | apply Same.ite
    | apply Same.ite1
    | apply Same.ite2
    | extract_lets
    | split
    | dsimp -zeta only
    | dsimp +zetaDelta only

theorem State.repredict_same (s : State) (n : Nat) :
    Same 67108789 s (State.repredict s n) := by
  unfold State.repredict
  repeat' with_reducible first
    | exact Same.refl _
    | apply Same.step (m := 67108789) (by decide) (State.caught_same ..)
    | apply Same.step (m := 67108799) (by decide) (State.predictTrig_same ..)
    | apply Same.ite
    | apply Same.ite1
    | apply Same.ite2
    | extract_lets
    | split
    | dsimp -zeta only
    | dsimp +zetaDelta only

theorem State.actLate_same (s : State) (a : Nat) (which : Int → Bool → Bool) :
    Same 50130725 s (State.actLate s a which) := by
  unfold State.actLate
  repeat' with_reducible first
    | exact Same.refl _
    | apply Same.step (m := 67108847) (by decide) (markMet_same ..)
    | apply Same.step (m := 67108789) (by decide) (fire_same ..)
    | apply Same.step (m := 50130805) (by decide) (release_same ..)
    | apply Same.step (m := 67108855) (by decide) (raise_same ..)
    | apply Same.step (m := 67108861) (by decide) (sat_same ..)
    | apply Same.trans _ (foldl_same _ _ _ (fun _ _ => ?_))
    | apply Same.trans _ (foldl_same1 _ _ _ (fun _ _ => ?_))
    | apply Same.ite
    | apply Same.ite1
    | apply Same.ite2
    | extract_lets
    | split
    | dsimp -zeta only
    | dsimp +zetaDelta only

theorem State.setClk_same (s : State) (c : Clock) :
    Same 67108799 s (State.setClk s c) := by
  unfold State.setClk
  repeat' with_reducible first
    | exact Same.refl _
    | apply Same.ite
    | apply Same.ite1
    | apply Same.ite2
    | extract_lets
    | split
    | dsimp -zeta only
    | dsimp +zetaDelta only
    | apply Same.with_time (by decide)

theorem State.showSlew_same (s : State) :
    Same 67108861 s (State.showSlew s) := by
  unfold State.showSlew
  repeat' with_reducible first
    | exact Same.refl _
    | apply Same.step (m := 67108861) (by decide) (put_same ..)
    | apply Same.step (m := 67108861) (by decide) (setI_same ..)
    | apply Same.ite
    | apply Same.ite1
    | apply Same.ite2
    | extract_lets
    | split
    | dsimp -zeta only
    | dsimp +zetaDelta only

theorem State.stepItems_same (s : State) (back : Bool) :
    Same 50130725 s (State.stepItems s back).1 := by
  unfold State.stepItems
  repeat' with_reducible first
    | exact Same.refl _
    | apply Same.step (m := 67108789) (by decide) (State.fire_same ..)
    | apply Same.step (m := 67108847) (by decide) (State.markMet_same ..)
    | apply Same.step (m := 50130805) (by decide) (State.placeHeld_same ..)
    | apply Same.step (m := 50130805) (by decide) (State.release_same ..)
    | apply Same.step (m := 67108799) (by decide) (State.setTrig_same ..)
    | apply Same.trans _ (foldl_same _ _ _ (fun _ _ => ?_))
    | apply Same.trans _ (foldl_same1 _ _ _ (fun _ _ => ?_))
    | apply Same.ite
    | apply Same.ite1
    | apply Same.ite2
    | extract_lets
    | split
    | dsimp -zeta only
    | dsimp +zetaDelta only

theorem State.stepGo_same (s : State) :
    Same 50130725 s (State.stepGo s) := by
  unfold State.stepGo
  repeat' with_reducible first
    | exact Same.refl _
    | apply Same.step (m := 67108855) (by decide) (State.raise_same ..)
    | apply Same.step (m := 50327541) (by decide) (State.reselectHeld_same ..)
    | apply Same.step (m := 67108861) (by decide) (State.sat_same ..)
    | apply Same.step (m := 67108799) (by decide) (State.setClk_same ..)
    | apply Same.step (m := 67108861) (by decide) (State.showSlew_same ..)
    | apply Same.step (m := 50130725) (by decide) (State.stepItems_same ..)
    | apply Same.ite
    | apply Same.ite1
    | apply Same.ite2
    | extract_lets
    | split
    | dsimp -zeta only
    | dsimp +zetaDelta only

theorem State.advanceClk_same (s : State) (inc : Int) (rate : Int) :
    Same 67108797 s (State.advanceClk s inc rate) := by
  unfold State.advanceClk
  repeat' with_reducible first
    | exact Same.refl _
    | apply Same.step (m := 67108799) (by decide) (State.setClk_same ..)
    | apply Same.step (m := 67108861) (by decide) (State.setI_same ..)
    | apply Same.ite
    | apply Same.ite1
    | apply Same.ite2
    | extract_lets
    | split
    | dsimp -zeta only
    | dsimp +zetaDelta only

theorem State.arm_same (s : State) (n : Nat) :
    Same 67108789 s (State.arm s n) := by
  unfold State.arm
  repeat' with_reducible first
    | exact Same.refl _
    | apply Same.step (m := 67108789) (by decide) (State.caught_same ..)
    | apply Same.step (m := 67108797) (by decide) (State.disarm_same ..)
    | apply Same.step (m := 67108789) (by decide) (State.fire_same ..)
    | apply Same.step (m := 67108855) (by decide) (State.raise_same ..)
    | apply Same.step (m := 67108789) (by decide) (State.repredict_same ..)
    | apply Same.step (m := 67108861) (by decide) (State.sat_same ..)
    | apply Same.step (m := 67108861) (by decide) (State.set_same ..)
    | apply Same.step (m := 67108799) (by decide) (State.setTrig_same ..)
    | apply Same.ite
    | apply Same.ite1
    | apply Same.ite2
    | extract_lets
    | split
    | dsimp -zeta only
    | dsimp +zetaDelta only

theorem State.showCap_same (s : State) (n : Nat) :
    Same 67108861 s (State.showCap s n) := by
  unfold State.showCap
  repeat' with_reducible first
    | exact Same.refl _
    | apply Same.step (m := 67108861) (by decide) (set_same ..)
    | apply Same.step (m := 67108861) (by decide) (set64_same ..)
    | apply Same.step (m := 67108861) (by decide) (put_same ..)
    | apply Same.step (m := 67108861) (by decide) (setI64_same ..)
    | apply Same.ite
    | apply Same.ite1
    | apply Same.ite2
    | extract_lets
    | split
    | dsimp -zeta only
    | dsimp +zetaDelta only

theorem State.setCap_same (s : State) (n : Nat) (c : Capture) :
    Same 67108797 s (State.setCap s n c) := by
  unfold State.setCap
  repeat' with_reducible first
    | exact Same.refl _
    | apply Same.step (m := 67108861) (by decide) (showCap_same ..)
    | apply Same.ite
    | apply Same.ite1
    | apply Same.ite2
    | extract_lets
    | split
    | dsimp -zeta only
    | dsimp +zetaDelta only
    | apply Same.with_regs (by decide)
    | apply Same.with_time (by decide)

theorem State.setSync_same (s : State) (m : Nat) (x : SyncIn) :
    Same 67108799 s (State.setSync s m x) := by
  unfold State.setSync
  repeat' with_reducible first
    | exact Same.refl _
    | apply Same.ite
    | apply Same.ite1
    | apply Same.ite2
    | extract_lets
    | split
    | dsimp -zeta only
    | dsimp +zetaDelta only
    | apply Same.with_time (by decide)

theorem State.resetSync_same (s : State) (m : Nat) :
    Same 67108797 s (State.resetSync s m) := by
  unfold State.resetSync
  repeat' with_reducible first
    | exact Same.refl _
    | apply Same.step (m := 67108861) (by decide) (set_same ..)
    | apply Same.step (m := 67108861) (by decide) (set64_same ..)
    | apply Same.step (m := 67108799) (by decide) (setSync_same ..)
    | apply Same.ite
    | apply Same.ite1
    | apply Same.ite2
    | extract_lets
    | split
    | dsimp -zeta only
    | dsimp +zetaDelta only

theorem State.fileOverflow_same (s : State) (a : Nat) :
    Same 67108719 s (State.fileOverflow s a) := by
  unfold State.fileOverflow
  repeat' with_reducible first
    | exact Same.refl _
    | apply Same.step (m := 67108847) (by decide) (setSlot_same ..)
    | apply Same.step (m := 67108735) (by decide) (mapCell_same ..)
    | apply Same.trans _ (foldl_same _ _ _ (fun _ _ => ?_))
    | apply Same.ite
    | apply Same.ite1
    | apply Same.ite2
    | extract_lets
    | split
    | dsimp -zeta only
    | dsimp +zetaDelta only

theorem State.markJumped_same (s : State) (a : Nat) (f : Cell → Bool → Bool) :
    Same 67108735 s (State.markJumped s a f) := by
  unfold State.markJumped
  repeat' with_reducible first
    | exact Same.refl _
    | apply Same.step (m := 67108735) (by decide) (mapCell_same ..)
    | apply Same.trans _ (foldl_same _ _ _ (fun _ _ => ?_))
    | apply Same.ite
    | apply Same.ite1
    | apply Same.ite2
    | extract_lets
    | split
    | dsimp -zeta only
    | dsimp +zetaDelta only

theorem State.rebase_same (s : State) (a : Nat) :
    Same 50327333 s (State.rebase s a) := by
  unfold State.rebase
  repeat' with_reducible first
    | exact Same.refl _
    | apply Same.step (m := 67108719) (by decide) (State.fileOverflow_same ..)
    | apply Same.step (m := 67108735) (by decide) (State.markJumped_same ..)
    | apply Same.step (m := 67108799) (by decide) (State.predictTrig_same ..)
    | apply Same.step (m := 50327541) (by decide) (State.reselectHeld_same ..)
    | apply Same.step (m := 67108799) (by decide) (State.setAxis_same ..)
    | apply Same.step (m := 67108799) (by decide) (State.setTrig_same ..)
    | apply Same.trans _ (foldl_same _ _ _ (fun _ _ => ?_))
    | apply Same.trans _ (foldl_same1 _ _ _ (fun _ _ => ?_))
    | apply Same.ite
    | apply Same.ite1
    | apply Same.ite2
    | extract_lets
    | split
    | dsimp -zeta only
    | dsimp +zetaDelta only

theorem State.loadCount_same (s : State) (a : Nat) :
    Same 50327333 s (State.loadCount s a) := by
  unfold State.loadCount
  repeat' with_reducible first
    | exact Same.refl _
    | apply Same.step (m := 50327333) (by decide) (rebase_same ..)
    | apply Same.step (m := 67108861) (by decide) (setI64_same ..)
    | apply Same.ite
    | apply Same.ite1
    | apply Same.ite2
    | extract_lets
    | split
    | dsimp -zeta only
    | dsimp +zetaDelta only

theorem State.clearFlags_same (s : State) (a : Nat) :
    Same 50130725 s (State.clearFlags s a) := by
  unfold State.clearFlags
  repeat' with_reducible first
    | exact Same.refl _
    | apply Same.step (m := 50130725) (by decide) (State.actLate_same ..)
    | apply Same.step (m := 67108789) (by decide) (State.repredict_same ..)
    | apply Same.step (m := 67108861) (by decide) (State.set_same ..)
    | apply Same.trans _ (foldl_same _ _ _ (fun _ _ => ?_))
    | apply Same.trans _ (foldl_same1 _ _ _ (fun _ _ => ?_))
    | apply Same.ite
    | apply Same.ite1
    | apply Same.ite2
    | extract_lets
    | split
    | dsimp -zeta only
    | dsimp +zetaDelta only

theorem State.crossTrig_same (x0 : Nat) (x1 : State) (x2 : Nat) (x3 : Int) (x4 : Int) :
    Same 67108789 x1 (State.crossTrig x0 x1 x2 x3 x4) := by
  induction x0 generalizing x1 with
  | zero => exact Same.refl _
  | succ n ih =>
    unfold State.crossTrig
    repeat' with_reducible first
      | exact Same.refl _
      | apply Same.step (m := 67108789) (by decide) (fire_same ..)
      | apply Same.trans _ (ih _)
      | apply Same.ite
      | apply Same.ite1
      | apply Same.ite2
      | extract_lets
      | split
      | dsimp -zeta only
      | dsimp +zetaDelta only

theorem State.evalTrig_same (s : State) (n : Nat) (p0 : Int) (p1 : Int) :
    Same 67108789 s (State.evalTrig s n p0 p1) := by
  unfold State.evalTrig
  repeat' with_reducible first
    | exact Same.refl _
    | apply Same.step (m := 67108789) (by decide) (State.crossTrig_same ..)
    | apply Same.step (m := 67108789) (by decide) (State.repredict_same ..)
    | apply Same.ite
    | apply Same.ite1
    | apply Same.ite2
    | extract_lets
    | split
    | dsimp -zeta only
    | dsimp +zetaDelta only

theorem State.evalCell_same (s : State) (a : Nat) (c : Cell) :
    Same 67108735 s (State.evalCell s a c) := by
  unfold State.evalCell
  repeat' with_reducible first
    | exact Same.refl _
    | apply Same.step (m := 67108735) (by decide) (State.mapCell_same ..)
    | apply Same.ite
    | apply Same.ite1
    | apply Same.ite2
    | extract_lets
    | split
    | dsimp -zeta only
    | dsimp +zetaDelta only

theorem State.evalSlot_same (s : State) (a : Nat) (p0 : Int) (p1 : Int) (i : Nat) :
    Same 67108847 s (State.evalSlot s a p0 p1 i) := by
  unfold State.evalSlot
  repeat' with_reducible first
    | exact Same.refl _
    | apply Same.step (m := 67108847) (by decide) (State.markMet_same ..)
    | apply Same.step (m := 67108847) (by decide) (State.setSlot_same ..)
    | apply Same.ite
    | apply Same.ite1
    | apply Same.ite2
    | extract_lets
    | split
    | dsimp -zeta only
    | dsimp +zetaDelta only

theorem State.evalItem_same (s : State) (a : Nat) (p0 : Int) (p1 : Int) (x0 : AxisItem) :
    Same 50130789 s (State.evalItem s a p0 p1 x0) := by
  unfold State.evalItem
  repeat' with_reducible first
    | exact Same.refl _
    | apply Same.step (m := 67108735) (by decide) (State.evalCell_same ..)
    | apply Same.step (m := 67108847) (by decide) (State.evalSlot_same ..)
    | apply Same.ite
    | apply Same.ite1
    | apply Same.ite2
    | extract_lets
    | split
    | dsimp -zeta only
    | dsimp +zetaDelta only

theorem State.deferItem_same (s : State) (a : Nat) (p0 : Int) (p1 : Int) (x : AxisItem) :
    Same 67108709 s (State.deferItem s a p0 p1 x) := by
  unfold State.deferItem
  repeat' with_reducible first
    | exact Same.refl _
    | apply Same.step (m := 67108735) (by decide) (State.mapCell_same ..)
    | apply Same.step (m := 67108855) (by decide) (State.raise_same ..)
    | apply Same.step (m := 67108861) (by decide) (State.sat_same ..)
    | apply Same.step (m := 67108847) (by decide) (State.setSlot_same ..)
    | apply Same.ite
    | apply Same.ite1
    | apply Same.ite2
    | extract_lets
    | split
    | dsimp -zeta only
    | dsimp +zetaDelta only

theorem State.axisEval_same (s : State) (a : Nat) :
    Same 50130725 s (State.axisEval s a) := by
  unfold State.axisEval
  repeat' with_reducible first
    | exact Same.refl _
    | apply Same.step (m := 67108709) (by decide) (State.deferItem_same ..)
    | apply Same.step (m := 50130789) (by decide) (State.evalItem_same ..)
    | apply Same.step (m := 67108789) (by decide) (State.evalTrig_same ..)
    | apply Same.step (m := 67108719) (by decide) (State.fileOverflow_same ..)
    | apply Same.step (m := 67108735) (by decide) (State.markJumped_same ..)
    | apply Same.step (m := 50130805) (by decide) (State.release_same ..)
    | apply Same.step (m := 50327541) (by decide) (State.reselectHeld_same ..)
    | apply Same.step (m := 67108799) (by decide) (State.setAxis_same ..)
    | apply Same.trans _ (foldl_same _ _ _ (fun _ _ => ?_))
    | apply Same.trans _ (foldl_same1 _ _ _ (fun _ _ => ?_))
    | apply Same.ite
    | apply Same.ite1
    | apply Same.ite2
    | extract_lets
    | split
    | dsimp -zeta only
    | dsimp +zetaDelta only

theorem State.judgeSpeed_same (s : State) (a : Nat) :
    Same 67108853 s (State.judgeSpeed s a) := by
  unfold State.judgeSpeed
  repeat' with_reducible first
    | exact Same.refl _
    | apply Same.step (m := 67108855) (by decide) (raiseIf_same ..)
    | apply Same.step (m := 67108861) (by decide) (put_same ..)
    | apply Same.ite
    | apply Same.ite1
    | apply Same.ite2
    | extract_lets
    | split
    | dsimp -zeta only
    | dsimp +zetaDelta only

theorem State.counted_same (s : State) (a : Nat) (d : Int) :
    Same 50130725 s (State.counted s a d) := by
  unfold State.counted
  repeat' with_reducible first
    | exact Same.refl _
    | apply Same.step (m := 50130725) (by decide) (State.axisEval_same ..)
    | apply Same.step (m := 67108853) (by decide) (State.judgeSpeed_same ..)
    | apply Same.step (m := 67108861) (by decide) (State.put_same ..)
    | apply Same.step (m := 67108855) (by decide) (State.raiseIf_same ..)
    | apply Same.step (m := 67108861) (by decide) (State.set_same ..)
    | apply Same.step (m := 67108861) (by decide) (State.set64_same ..)
    | apply Same.step (m := 67108799) (by decide) (State.setAxis_same ..)
    | apply Same.step (m := 67108861) (by decide) (State.setI_same ..)
    | apply Same.step (m := 67108861) (by decide) (State.setI64_same ..)
    | apply Same.ite
    | apply Same.ite1
    | apply Same.ite2
    | extract_lets
    | split
    | dsimp -zeta only
    | dsimp +zetaDelta only

theorem State.dropItems_same (s : State) (a : Nat) :
    Same 50261797 s (State.dropItems s a) := by
  unfold State.dropItems
  repeat' with_reducible first
    | exact Same.refl _
    | apply Same.step (m := 67108797) (by decide) (State.disarm_same ..)
    | apply Same.step (m := 50261877) (by decide) (State.freeHeld_same ..)
    | apply Same.step (m := 67108845) (by decide) (State.freeSlot_same ..)
    | apply Same.step (m := 67108855) (by decide) (State.raise_same ..)
    | apply Same.step (m := 67108861) (by decide) (State.sat_same ..)
    | apply Same.step (m := 67108861) (by decide) (State.wheelSub_same ..)
    | apply Same.trans _ (foldl_same _ _ _ (fun _ _ => ?_))
    | apply Same.trans _ (foldl_same1 _ _ _ (fun _ _ => ?_))
    | apply Same.ite
    | apply Same.ite1
    | apply Same.ite2
    | extract_lets
    | split
    | dsimp -zeta only
    | dsimp +zetaDelta only

theorem State.policyAct_same (s : State) (a : Nat) :
    Same 50130725 s (State.policyAct s a) := by
  unfold State.policyAct
  repeat' with_reducible first
    | exact Same.refl _
    | apply Same.step (m := 50130725) (by decide) (actLate_same ..)
    | apply Same.step (m := 50261797) (by decide) (dropItems_same ..)
    | apply Same.ite
    | apply Same.ite1
    | apply Same.ite2
    | extract_lets
    | split
    | dsimp -zeta only
    | dsimp +zetaDelta only

theorem State.setLost_same (s : State) (a : Nat) :
    Same 50130725 s (State.setLost s a) := by
  unfold State.setLost
  repeat' with_reducible first
    | exact Same.refl _
    | apply Same.step (m := 50130725) (by decide) (policyAct_same ..)
    | apply Same.step (m := 67108855) (by decide) (raise_same ..)
    | apply Same.step (m := 67108861) (by decide) (set_same ..)
    | apply Same.ite
    | apply Same.ite1
    | apply Same.ite2
    | extract_lets
    | split
    | dsimp -zeta only
    | dsimp +zetaDelta only

theorem State.setUncertain_same (s : State) (a : Nat) :
    Same 50130725 s (State.setUncertain s a) := by
  unfold State.setUncertain
  repeat' with_reducible first
    | exact Same.refl _
    | apply Same.step (m := 50130725) (by decide) (policyAct_same ..)
    | apply Same.step (m := 67108855) (by decide) (raise_same ..)
    | apply Same.step (m := 67108861) (by decide) (set_same ..)
    | apply Same.ite
    | apply Same.ite1
    | apply Same.ite2
    | extract_lets
    | split
    | dsimp -zeta only
    | dsimp +zetaDelta only

theorem State.tick_same (s : State) :
    Same 67108797 s (State.tick s) := by
  unfold State.tick
  repeat' with_reducible first
    | exact Same.refl _
    | apply Same.step (m := 67108797) (by decide) (State.advanceClk_same ..)
    | apply Same.ite
    | apply Same.ite1
    | apply Same.ite2
    | extract_lets
    | split
    | dsimp -zeta only
    | dsimp +zetaDelta only
    | apply Same.with_time (by decide)

end Sys2Proof.Machine
end

