-- ==== Sys2Proof/Laws/FrameTimeFx.lean ====
section
/-! SUPPORT. What each operation of Machine/TimeFx.lean may change: every other part of State stays as it is. -/

set_option linter.all false

namespace Sys2Proof.Machine

theorem State.setPtp_same (s : State) (port : Nat) (x : PtpPort) :
    Same 67108799 s (State.setPtp s port x) := by
  unfold State.setPtp
  repeat' with_reducible first
    | exact Same.refl _
    | apply Same.ite
    | apply Same.ite1
    | apply Same.ite2
    | extract_lets
    | split
    | dsimp -zeta only
    | dsimp +zetaDelta only
    | apply Same.with_time (by decide)

theorem State.setServo_same (s : State) (v : Nat) :
    Same 67108853 s (State.setServo s v) := by
  unfold State.setServo
  repeat' with_reducible first
    | exact Same.refl _
    | apply Same.step (m := 67108855) (by decide) (raiseIf_same ..)
    | apply Same.step (m := 67108861) (by decide) (set_same ..)
    | apply Same.ite
    | apply Same.ite1
    | apply Same.ite2
    | extract_lets
    | split
    | dsimp -zeta only
    | dsimp +zetaDelta only

theorem State.bmca_same (s : State) :
    Same 67108789 s (State.bmca s) := by
  unfold State.bmca
  repeat' with_reducible first
    | exact Same.refl _
    | apply Same.step (m := 67108861) (by decide) (State.put_same ..)
    | apply Same.step (m := 67108861) (by decide) (State.set_same ..)
    | apply Same.step (m := 67108799) (by decide) (State.setPtp_same ..)
    | apply Same.step (m := 67108853) (by decide) (State.setServo_same ..)
    | apply Same.trans _ (foldl_same _ _ _ (fun _ _ => ?_))
    | apply Same.trans _ (foldl_same1 _ _ _ (fun _ _ => ?_))
    | apply Same.ite
    | apply Same.ite1
    | apply Same.ite2
    | extract_lets
    | split
    | dsimp -zeta only
    | dsimp +zetaDelta only

theorem State.servoSrc_same (s : State) :
    Same 67108853 s (State.servoSrc s) := by
  unfold State.servoSrc
  repeat' with_reducible first
    | exact Same.refl _
    | apply Same.step (m := 67108853) (by decide) (State.setServo_same ..)
    | apply Same.ite
    | apply Same.ite1
    | apply Same.ite2
    | extract_lets
    | split
    | dsimp -zeta only
    | dsimp +zetaDelta only

theorem State.ptpRestart_same (s : State) (ports : List Nat) :
    Same 67108789 s (State.ptpRestart s ports) := by
  unfold State.ptpRestart
  repeat' with_reducible first
    | exact Same.refl _
    | apply Same.step (m := 67108789) (by decide) (bmca_same ..)
    | apply Same.step (m := 67108799) (by decide) (setPtp_same ..)
    | apply Same.trans _ (foldl_same _ _ _ (fun _ _ => ?_))
    | apply Same.trans _ (foldl_same1 _ _ _ (fun _ _ => ?_))
    | apply Same.ite
    | apply Same.ite1
    | apply Same.ite2
    | extract_lets
    | split
    | dsimp -zeta only
    | dsimp +zetaDelta only

theorem State.trigCtl_same (s : State) (s0 : State) (n : Nat) (v : Nat) :
    Same 67108789 s (State.trigCtl s s0 n v) := by
  unfold State.trigCtl
  repeat' with_reducible first
    | exact Same.refl _
    | apply Same.step (m := 67108789) (by decide) (State.arm_same ..)
    | apply Same.step (m := 67108797) (by decide) (State.disarm_same ..)
    | apply Same.step (m := 67108855) (by decide) (State.emit_same ..)
    | apply Same.step (m := 67108861) (by decide) (State.put_same ..)
    | apply Same.ite
    | apply Same.ite1
    | apply Same.ite2
    | extract_lets
    | split
    | dsimp -zeta only
    | dsimp +zetaDelta only

theorem State.trigPeriod_same (s : State) (n : Nat) :
    Same 67108789 s (State.trigPeriod s n) := by
  unfold State.trigPeriod
  repeat' with_reducible first
    | exact Same.refl _
    | apply Same.step (m := 67108789) (by decide) (State.repredict_same ..)
    | apply Same.step (m := 67108799) (by decide) (State.setTrig_same ..)
    | apply Same.ite
    | apply Same.ite1
    | apply Same.ite2
    | extract_lets
    | split
    | dsimp -zeta only
    | dsimp +zetaDelta only

theorem State.trigReturn_same (s : State) :
    Same 67108853 s (State.trigReturn s) := by
  unfold State.trigReturn
  repeat' with_reducible first
    | exact Same.refl _
    | apply Same.step (m := 67108853) (by decide) (State.drive_same ..)
    | apply Same.trans _ (foldl_same _ _ _ (fun _ _ => ?_))
    | apply Same.trans _ (foldl_same1 _ _ _ (fun _ _ => ?_))
    | apply Same.ite
    | apply Same.ite1
    | apply Same.ite2
    | extract_lets
    | split
    | dsimp -zeta only
    | dsimp +zetaDelta only

theorem State.axCtrl_same (s : State) (a : Nat) :
    Same 67108799 s (State.axCtrl s a) := by
  unfold State.axCtrl
  repeat' with_reducible first
    | exact Same.refl _
    | apply Same.step (m := 67108799) (by decide) (State.setAxis_same ..)
    | apply Same.ite
    | apply Same.ite1
    | apply Same.ite2
    | extract_lets
    | split
    | dsimp -zeta only
    | dsimp +zetaDelta only

theorem State.timeReturn_same (s : State) (src : Nat) :
    Same 50327333 s (State.timeReturn s src) := by
  unfold State.timeReturn
  repeat' with_reducible first
    | exact Same.refl _
    | apply Same.step (m := 50327333) (by decide) (State.rebase_same ..)
    | apply Same.step (m := 67108797) (by decide) (State.resetSync_same ..)
    | apply Same.step (m := 67108853) (by decide) (State.trigReturn_same ..)
    | apply Same.trans _ (foldl_same _ _ _ (fun _ _ => ?_))
    | apply Same.trans _ (foldl_same1 _ _ _ (fun _ _ => ?_))
    | apply Same.ite
    | apply Same.ite1
    | apply Same.ite2
    | extract_lets
    | split
    | dsimp -zeta only
    | dsimp +zetaDelta only
    | apply Same.with_time (by decide)

theorem State.capPop_same (s : State) (n : Nat) :
    Same 67108797 s (State.capPop s n) := by
  unfold State.capPop
  repeat' with_reducible first
    | exact Same.refl _
    | apply Same.step (m := 67108797) (by decide) (setCap_same ..)
    | apply Same.ite
    | apply Same.ite1
    | apply Same.ite2
    | extract_lets
    | split
    | dsimp -zeta only
    | dsimp +zetaDelta only

theorem State.axCmd_same (s : State) (a : Nat) (v : Nat) :
    Same 50130725 s (State.axCmd s a v) := by
  unfold State.axCmd
  repeat' with_reducible first
    | exact Same.refl _
    | apply Same.step (m := 50327333) (by decide) (loadCount_same ..)
    | apply Same.step (m := 50130725) (by decide) (clearFlags_same ..)
    | apply Same.ite
    | apply Same.ite1
    | apply Same.ite2
    | extract_lets
    | split
    | dsimp -zeta only
    | dsimp +zetaDelta only

theorem State.swDelta_same (s : State) (a : Nat) (v : Nat) :
    Same 50130725 s (State.swDelta s a v) := by
  unfold State.swDelta
  repeat' with_reducible first
    | exact Same.refl _
    | apply Same.step (m := 50130725) (by decide) (counted_same ..)
    | apply Same.ite
    | apply Same.ite1
    | apply Same.ite2
    | extract_lets
    | split
    | dsimp -zeta only
    | dsimp +zetaDelta only

theorem State.timeFx_same (s : State) (s0 : State) (x : Wr) :
    Same 50130725 s (State.timeFx s s0 x) := by
  unfold State.timeFx
  repeat' with_reducible first
    | exact Same.refl _
    | apply Same.step (m := 50130725) (by decide) (State.axCmd_same ..)
    | apply Same.step (m := 67108799) (by decide) (State.axCtrl_same ..)
    | apply Same.step (m := 67108789) (by decide) (State.bmca_same ..)
    | apply Same.step (m := 67108797) (by decide) (State.capPop_same ..)
    | apply Same.step (m := 67108789) (by decide) (State.ptpRestart_same ..)
    | apply Same.step (m := 50327333) (by decide) (State.rebase_same ..)
    | apply Same.step (m := 67108789) (by decide) (State.repredict_same ..)
    | apply Same.step (m := 50327541) (by decide) (State.reselectHeld_same ..)
    | apply Same.step (m := 67108797) (by decide) (State.resetSync_same ..)
    | apply Same.step (m := 67108853) (by decide) (State.servoSrc_same ..)
    | apply Same.step (m := 67108797) (by decide) (State.setCap_same ..)
    | apply Same.step (m := 50130725) (by decide) (State.stepGo_same ..)
    | apply Same.step (m := 50130725) (by decide) (State.swDelta_same ..)
    | apply Same.step (m := 67108789) (by decide) (State.trigCtl_same ..)
    | apply Same.step (m := 67108789) (by decide) (State.trigPeriod_same ..)
    | apply Same.ite
    | apply Same.ite1
    | apply Same.ite2
    | extract_lets
    | split
    | dsimp -zeta only
    | dsimp +zetaDelta only

theorem State.servo_same (s : State) (off : Int) :
    Same 67108789 s (State.servo s off) := by
  unfold State.servo
  repeat' with_reducible first
    | exact Same.refl _
    | apply Same.step (m := 67108853) (by decide) (setServo_same ..)
    | apply Same.step (m := 67108861) (by decide) (setI_same ..)
    | apply Same.ite
    | apply Same.ite1
    | apply Same.ite2
    | extract_lets
    | split
    | dsimp -zeta only
    | dsimp +zetaDelta only
    | apply Same.with_regs (by decide)
    | apply Same.with_sig (by decide)
    | apply Same.with_time (by decide)

theorem State.ptpFollow_same (s : State) (port : Nat) :
    Same 67108789 s (State.ptpFollow s port) := by
  unfold State.ptpFollow
  repeat' with_reducible first
    | exact Same.refl _
    | apply Same.step (m := 67108789) (by decide) (servo_same ..)
    | apply Same.ite
    | apply Same.ite1
    | apply Same.ite2
    | extract_lets
    | split
    | dsimp -zeta only
    | dsimp +zetaDelta only

theorem State.ptpMsg_same (s : State) (port : Nat) (off : Nat) (m : PtpMsg) :
    Same 67108789 s (State.ptpMsg s port off m) := by
  unfold State.ptpMsg
  repeat' with_reducible first
    | exact Same.refl _
    | apply Same.step (m := 67108789) (by decide) (State.bmca_same ..)
    | apply Same.step (m := 67108855) (by decide) (State.emit_same ..)
    | apply Same.step (m := 67108789) (by decide) (State.ptpFollow_same ..)
    | apply Same.step (m := 67108799) (by decide) (State.setPtp_same ..)
    | apply Same.ite
    | apply Same.ite1
    | apply Same.ite2
    | extract_lets
    | split
    | dsimp -zeta only
    | dsimp +zetaDelta only

theorem State.ptpSend_same (s : State) (port : Nat) (kind : PtpKind) (off : Nat) :
    Same 67108789 s (State.ptpSend s port kind off) := by
  unfold State.ptpSend
  repeat' with_reducible first
    | exact Same.refl _
    | apply Same.step (m := 67108789) (by decide) (State.bmca_same ..)
    | apply Same.step (m := 67108855) (by decide) (State.emit_same ..)
    | apply Same.step (m := 67108799) (by decide) (State.setPtp_same ..)
    | apply Same.ite
    | apply Same.ite1
    | apply Same.ite2
    | extract_lets
    | split
    | dsimp -zeta only
    | dsimp +zetaDelta only

end Sys2Proof.Machine
end

