-- ==== Sys2Proof/Laws/FramePower.lean ====
section
/-! SUPPORT. What each operation of Machine/Power.lean may change: every other part of State stays as it is. -/

set_option linter.all false

namespace Sys2Proof.Machine

theorem State.toNormal_same (s : State) :
    Same 67108853 s (State.toNormal s) := by
  unfold State.toNormal
  repeat' with_reducible first
    | exact Same.refl _
    | apply Same.step (m := 67108855) (by decide) (raise_same ..)
    | apply Same.step (m := 67108861) (by decide) (set_same ..)
    | apply Same.ite
    | apply Same.ite1
    | apply Same.ite2
    | extract_lets
    | split
    | dsimp -zeta only
    | dsimp +zetaDelta only

theorem State.domBegin_same (s : State) (d : Nat) (goal : Nat) :
    Same 66846709 s (State.domBegin s d goal) := by
  unfold State.domBegin
  repeat' with_reducible first
    | exact Same.refl _
    | apply Same.step (m := 67108853) (by decide) (toNormal_same ..)
    | apply Same.step (m := 67108861) (by decide) (sets_same ..)
    | apply Same.step (m := 66846719) (by decide) (mapPwr_same ..)
    | apply Same.ite
    | apply Same.ite1
    | apply Same.ite2
    | extract_lets
    | split
    | dsimp -zeta only
    | dsimp +zetaDelta only

theorem State.domEval_same (s : State) (d : Nat) :
    Same 66846709 s (State.domEval s d) := by
  unfold State.domEval
  repeat' with_reducible first
    | exact Same.refl _
    | apply Same.step (m := 67108861) (by decide) (set_same ..)
    | apply Same.step (m := 66846719) (by decide) (mapPwr_same ..)
    | apply Same.step (m := 66846709) (by decide) (domBegin_same ..)
    | apply Same.ite
    | apply Same.ite1
    | apply Same.ite2
    | extract_lets
    | split
    | dsimp -zeta only
    | dsimp +zetaDelta only

theorem State.lpEval_same (s : State) :
    Same 67108853 s (State.lpEval s) := by
  unfold State.lpEval
  repeat' with_reducible first
    | exact Same.refl _
    | apply Same.step (m := 67108855) (by decide) (raise_same ..)
    | apply Same.step (m := 67108861) (by decide) (set_same ..)
    | apply Same.step (m := 67108853) (by decide) (toNormal_same ..)
    | apply Same.ite
    | apply Same.ite1
    | apply Same.ite2
    | extract_lets
    | split
    | dsimp -zeta only
    | dsimp +zetaDelta only

theorem State.toPll_same (s : State) :
    Same 66846719 s (State.toPll s) := by
  unfold State.toPll
  repeat' with_reducible first
    | exact Same.refl _
    | apply Same.step (m := 66846719) (by decide) (mapPwr_same ..)
    | apply Same.ite
    | apply Same.ite1
    | apply Same.ite2
    | extract_lets
    | split
    | dsimp -zeta only
    | dsimp +zetaDelta only

theorem State.clkSwitch_same (s : State) :
    Same 67108853 s (State.clkSwitch s) := by
  unfold State.clkSwitch
  repeat' with_reducible first
    | exact Same.refl _
    | apply Same.step (m := 67108855) (by decide) (raise_same ..)
    | apply Same.step (m := 67108861) (by decide) (sat_same ..)
    | apply Same.step (m := 67108861) (by decide) (set_same ..)
    | apply Same.ite
    | apply Same.ite1
    | apply Same.ite2
    | extract_lets
    | split
    | dsimp -zeta only
    | dsimp +zetaDelta only

theorem State.powerFx_same (s : State) (x : Wr) :
    Same 66846709 s (State.powerFx s x) := by
  unfold State.powerFx
  repeat' with_reducible first
    | exact Same.refl _
    | apply Same.step (m := 66846709) (by decide) (domEval_same ..)
    | apply Same.step (m := 67108861) (by decide) (set_same ..)
    | apply Same.step (m := 67108853) (by decide) (lpEval_same ..)
    | apply Same.step (m := 66846719) (by decide) (toPll_same ..)
    | apply Same.step (m := 66846719) (by decide) (mapPwr_same ..)
    | apply Same.step (m := 67108853) (by decide) (clkSwitch_same ..)
    | apply Same.ite
    | apply Same.ite1
    | apply Same.ite2
    | extract_lets
    | split
    | dsimp -zeta only
    | dsimp +zetaDelta only

theorem State.imaged_same (s : State) (g : Page) (r : RegSpec) (bank : Nat) (addr : Nat) :
    Same 66846645 s (State.imaged s g r bank addr) := by
  unfold State.imaged
  repeat' with_reducible first
    | exact Same.refl _
    | apply Same.step (m := 67108799) (by decide) (State.axCtrl_same ..)
    | apply Same.step (m := 66846709) (by decide) (State.domEval_same ..)
    | apply Same.step (m := 66846719) (by decide) (State.mapPwr_same ..)
    | apply Same.ite
    | apply Same.ite1
    | apply Same.ite2
    | extract_lets
    | split
    | dsimp -zeta only
    | dsimp +zetaDelta only

theorem State.clearStats_same (s : State) (pages : List Nat) :
    Same 67108855 s (State.clearStats s pages) := by
  unfold State.clearStats
  repeat' with_reducible first
    | exact Same.refl _
    | apply Same.ite
    | apply Same.ite1
    | apply Same.ite2
    | extract_lets
    | split
    | dsimp -zeta only
    | dsimp +zetaDelta only
    | apply Same.with_sig (by decide)

theorem State.clearRegs_same (s : State) (d : Nat) (goal : Nat) : Same 67108849 s (State.clearRegs s d goal) :=
  Same.step (m := 67108855) (by decide) (State.clearStats_same _ _)
    (Same.with_lag (k := 67108849) (t := { s with regs := s.regs.filter (fun e => keepKey s.pwr.wake d goal e.1) }) (by decide)
      (Same.with_regs (k := 67108849) (by decide) (Same.refl s)))

theorem State.clkLost_same (s : State) (k : Nat) :
    Same 66838517 s (State.clkLost s k).2 := by
  unfold State.clkLost
  repeat' with_reducible first
    | exact Same.refl _
    | apply Same.step (m := 66846719) (by decide) (mapPwr_same ..)
    | apply Same.step (m := 67108855) (by decide) (raise_same ..)
    | apply Same.step (m := 67100661) (by decide) (softRecord_same ..)
    | apply Same.step (m := 67108861) (by decide) (set_same ..)
    | apply Same.step (m := 67108853) (by decide) (clkSwitch_same ..)
    | apply Same.ite
    | apply Same.ite1
    | apply Same.ite2
    | extract_lets
    | split
    | dsimp -zeta only
    | dsimp +zetaDelta only

theorem State.engReload_same (s : State) (e : Nat) :
    Same 33423333 s (State.engReload s e) := by
  unfold State.engReload
  repeat' with_reducible first
    | exact Same.refl _
    | apply Same.step (m := 66977765) (by decide) (engStart_same ..)
    | apply Same.step (m := 33554431) (by decide) (loadWords_same ..)
    | apply Same.step (m := 33554431) (by decide) (clearMem_same ..)
    | apply Same.ite
    | apply Same.ite1
    | apply Same.ite2
    | extract_lets
    | split
    | dsimp -zeta only
    | dsimp +zetaDelta only

theorem State.macroUp_same (s : State) (m : Nat) :
    Same 67108861 s (State.macroUp s m) := by
  unfold State.macroUp
  repeat' with_reducible first
    | exact Same.refl _
    | apply Same.step (m := 67108861) (by decide) (set_same ..)
    | apply Same.trans _ (foldl_same _ _ _ (fun _ _ => ?_))
    | apply Same.trans _ (foldl_same1 _ _ _ (fun _ _ => ?_))
    | apply Same.ite
    | apply Same.ite1
    | apply Same.ite2
    | extract_lets
    | split
    | dsimp -zeta only
    | dsimp +zetaDelta only

theorem State.clearReq_same (s : State) (d : Nat) :
    Same 67108861 s (State.clearReq s d) := by
  unfold State.clearReq
  repeat' with_reducible first
    | exact Same.refl _
    | apply Same.ite
    | apply Same.ite1
    | apply Same.ite2
    | extract_lets
    | split
    | dsimp -zeta only
    | dsimp +zetaDelta only
    | apply Same.with_regs (by decide)

theorem State.loseDom_same (s : State) (d : Nat) (goal : Nat) :
    Same 32795685 s (State.loseDom s d goal) := by
  unfold State.loseDom
  repeat' with_reducible first
    | exact Same.refl _
    | apply Same.step (m := 33554431) (by decide) (State.clearMem_same ..)
    | apply Same.step (m := 67108341) (by decide) (State.creamDrop_same ..)
    | apply Same.step (m := 66584573) (by decide) (State.emptyAll_same ..)
    | apply Same.step (m := 67108837) (by decide) (State.engGone_same ..)
    | apply Same.step (m := 67043327) (by decide) (State.mapBr_same ..)
    | apply Same.step (m := 67076095) (by decide) (State.mapEng_same ..)
    | apply Same.step (m := 67104767) (by decide) (State.mapLinks_same ..)
    | apply Same.step (m := 66977791) (by decide) (State.setCore_same ..)
    | apply Same.ite
    | apply Same.ite1
    | apply Same.ite2
    | extract_lets
    | split
    | dsimp -zeta only
    | dsimp +zetaDelta only
    | apply Same.with_sig (by decide)
    | apply Same.with_time (by decide)
    | apply Same.with_sw (by decide)
    | apply Same.with_gov (by decide)

theorem State.exitDom_same (s : State) (d : Nat) (src : Nat) :
    Same 15748129 s (State.exitDom s d src) := by
  unfold State.exitDom
  repeat' with_reducible first
    | exact Same.refl _
    | apply Same.step (m := 67108849) (by decide) (State.clearRegs_same ..)
    | apply Same.step (m := 67108861) (by decide) (State.clearReq_same ..)
    | apply Same.step (m := 33423333) (by decide) (State.engReload_same ..)
    | apply Same.step (m := 67108855) (by decide) (State.engRetarget_same ..)
    | apply Same.step (m := 49807357) (by decide) (State.formRoot_same ..)
    | apply Same.step (m := 32795685) (by decide) (State.loseDom_same ..)
    | apply Same.step (m := 67108861) (by decide) (State.macroUp_same ..)
    | apply Same.step (m := 66846719) (by decide) (State.mapPwr_same ..)
    | apply Same.step (m := 67108861) (by decide) (State.put_same ..)
    | apply Same.step (m := 66837885) (by decide) (State.reapply_same ..)
    | apply Same.step (m := 49807357) (by decide) (State.remask_same ..)
    | apply Same.step (m := 50327333) (by decide) (State.timeReturn_same ..)
    | apply Same.ite
    | apply Same.ite1
    | apply Same.ite2
    | extract_lets
    | split
    | dsimp -zeta only
    | dsimp +zetaDelta only

theorem State.enterDom_same (s : State) (d : Nat) (goal : Nat) :
    Same 32795681 s (State.enterDom s d goal) := by
  unfold State.enterDom
  repeat' with_reducible first
    | exact Same.refl _
    | apply Same.step (m := 67108861) (by decide) (sat_same ..)
    | apply Same.step (m := 67108849) (by decide) (clearRegs_same ..)
    | apply Same.step (m := 32795685) (by decide) (loseDom_same ..)
    | apply Same.ite
    | apply Same.ite1
    | apply Same.ite2
    | extract_lets
    | split
    | dsimp -zeta only
    | dsimp +zetaDelta only

theorem State.rtBegin_same (s : State) :
    Same 66846709 s (State.rtBegin s) := by
  unfold State.rtBegin
  repeat' with_reducible first
    | exact Same.refl _
    | apply Same.step (m := 67108855) (by decide) (raise_same ..)
    | apply Same.step (m := 67108861) (by decide) (sat_same ..)
    | apply Same.step (m := 67108861) (by decide) (set_same ..)
    | apply Same.step (m := 66846719) (by decide) (mapPwr_same ..)
    | apply Same.ite
    | apply Same.ite1
    | apply Same.ite2
    | extract_lets
    | split
    | dsimp -zeta only
    | dsimp +zetaDelta only

theorem State.domSettled_same (s : State) (d : Nat) :
    Same 66846709 s (State.domSettled s d) := by
  unfold State.domSettled
  repeat' with_reducible first
    | exact Same.refl _
    | apply Same.step (m := 66846709) (by decide) (domEval_same ..)
    | apply Same.step (m := 67108853) (by decide) (lpEval_same ..)
    | apply Same.step (m := 66846709) (by decide) (rtBegin_same ..)
    | apply Same.ite
    | apply Same.ite1
    | apply Same.ite2
    | extract_lets
    | split
    | dsimp -zeta only
    | dsimp +zetaDelta only

theorem State.domDone_same (s : State) (d : Nat) :
    Same 15748129 s (State.domDone s d) := by
  unfold State.domDone
  repeat' with_reducible first
    | exact Same.refl _
    | apply Same.step (m := 66846719) (by decide) (mapPwr_same ..)
    | apply Same.step (m := 15748129) (by decide) (exitDom_same ..)
    | apply Same.step (m := 67108861) (by decide) (set_same ..)
    | apply Same.step (m := 32795681) (by decide) (enterDom_same ..)
    | apply Same.step (m := 66846709) (by decide) (domSettled_same ..)
    | apply Same.ite
    | apply Same.ite1
    | apply Same.ite2
    | extract_lets
    | split
    | dsimp -zeta only
    | dsimp +zetaDelta only

theorem State.domTimeout_same (s : State) (d : Nat) :
    Same 66838517 s (State.domTimeout s d) := by
  unfold State.domTimeout
  repeat' with_reducible first
    | exact Same.refl _
    | apply Same.step (m := 67108861) (by decide) (sets_same ..)
    | apply Same.step (m := 66846719) (by decide) (mapPwr_same ..)
    | apply Same.step (m := 67100661) (by decide) (softRecord_same ..)
    | apply Same.step (m := 67108855) (by decide) (raise_same ..)
    | apply Same.step (m := 67108853) (by decide) (lpEval_same ..)
    | apply Same.step (m := 66846709) (by decide) (rtBegin_same ..)
    | apply Same.ite
    | apply Same.ite1
    | apply Same.ite2
    | extract_lets
    | split
    | dsimp -zeta only
    | dsimp +zetaDelta only

theorem State.domUndefer_same (s : State) (d : Nat) :
    Same 66846709 s (State.domUndefer s d) := by
  unfold State.domUndefer
  repeat' with_reducible first
    | exact Same.refl _
    | apply Same.step (m := 66846709) (by decide) (domBegin_same ..)
    | apply Same.ite
    | apply Same.ite1
    | apply Same.ite2
    | extract_lets
    | split
    | dsimp -zeta only
    | dsimp +zetaDelta only

theorem State.imageAt_same (s : State) (p : Nat) (addr : Nat) (v : Nat) :
    Same 66846641 s (State.imageAt s p addr v) := by
  unfold State.imageAt
  repeat' with_reducible first
    | exact Same.refl _
    | apply Same.step (m := 66846645) (by decide) (imaged_same ..)
    | apply Same.step (m := 67108857) (by decide) (storeAt_same ..)
    | apply Same.ite
    | apply Same.ite1
    | apply Same.ite2
    | extract_lets
    | split
    | dsimp -zeta only
    | dsimp +zetaDelta only

theorem State.ioLost_same (s : State) :
    Same 50130725 s (State.ioLost s) := by
  unfold State.ioLost
  repeat' with_reducible first
    | exact Same.refl _
    | apply Same.step (m := 67108797) (by decide) (disarm_same ..)
    | apply Same.step (m := 50130725) (by decide) (setUncertain_same ..)
    | apply Same.trans _ (foldl_same _ _ _ (fun _ _ => ?_))
    | apply Same.trans _ (foldl_same1 _ _ _ (fun _ _ => ?_))
    | apply Same.ite
    | apply Same.ite1
    | apply Same.ite2
    | extract_lets
    | split
    | dsimp -zeta only
    | dsimp +zetaDelta only

theorem State.onPll_same (s : State) :
    Same 16379685 s (State.onPll s) := by
  unfold State.onPll
  repeat' with_reducible first
    | exact Same.refl _
    | apply Same.step (m := 33423333) (by decide) (State.engReload_same ..)
    | apply Same.step (m := 67108861) (by decide) (State.macroUp_same ..)
    | apply Same.step (m := 66846719) (by decide) (State.mapPwr_same ..)
    | apply Same.step (m := 67108861) (by decide) (State.set_same ..)
    | apply Same.step (m := 67108861) (by decide) (State.sets_same ..)
    | apply Same.step (m := 50327333) (by decide) (State.timeReturn_same ..)
    | apply Same.trans _ (foldl_same _ _ _ (fun _ _ => ?_))
    | apply Same.trans _ (foldl_same1 _ _ _ (fun _ _ => ?_))
    | apply Same.ite
    | apply Same.ite1
    | apply Same.ite2
    | extract_lets
    | split
    | dsimp -zeta only
    | dsimp +zetaDelta only

theorem State.serdesReset_same (s : State) :
    Same 16015393 s (State.serdesReset s) := by
  unfold State.serdesReset
  repeat' with_reducible first
    | exact Same.refl _
    | apply Same.step (m := 49570149) (by decide) (portDown_same ..)
    | apply Same.step (m := 67108849) (by decide) (clearRegs_same ..)
    | apply Same.step (m := 32795685) (by decide) (loseDom_same ..)
    | apply Same.trans _ (foldl_same _ _ _ (fun _ _ => ?_))
    | apply Same.trans _ (foldl_same1 _ _ _ (fun _ _ => ?_))
    | apply Same.ite
    | apply Same.ite1
    | apply Same.ite2
    | extract_lets
    | split
    | dsimp -zeta only
    | dsimp +zetaDelta only

theorem State.railSample_same (s : State) (k : Nat) (mv : Nat) :
    Same 67108861 s (State.railSample s k mv) := by
  unfold State.railSample
  repeat' with_reducible first
    | exact Same.refl _
    | apply Same.step (m := 67108861) (by decide) (sets_same ..)
    | apply Same.ite
    | apply Same.ite1
    | apply Same.ite2
    | extract_lets
    | split
    | dsimp -zeta only
    | dsimp +zetaDelta only

theorem State.rtEnd_same (s : State) :
    Same 49308001 s (State.rtEnd s) := by
  unfold State.rtEnd
  repeat' with_reducible first
    | exact Same.refl _
    | apply Same.step (m := 67108861) (by decide) (sets_same ..)
    | apply Same.step (m := 66846719) (by decide) (mapPwr_same ..)
    | apply Same.step (m := 67108855) (by decide) (raise_same ..)
    | apply Same.step (m := 49308001) (by decide) (narrow_same ..)
    | apply Same.step (m := 66844659) (by decide) (retrainPort_same ..)
    | apply Same.step (m := 50327541) (by decide) (pllSwitch_same ..)
    | apply Same.step (m := 67108853) (by decide) (clkSwitch_same ..)
    | apply Same.step (m := 67104757) (by decide) (rtResume_same ..)
    | apply Same.step (m := 66846709) (by decide) (domEval_same ..)
    | apply Same.step (m := 50327541) (by decide) (selectState_same ..)
    | apply Same.trans _ (foldl_same _ _ _ (fun _ _ => ?_))
    | apply Same.trans _ (foldl_same1 _ _ _ (fun _ _ => ?_))
    | apply Same.ite
    | apply Same.ite1
    | apply Same.ite2
    | extract_lets
    | split
    | dsimp -zeta only
    | dsimp +zetaDelta only

theorem State.wakeBy_same (s : State) (src : Nat) :
    Same 67108853 s (State.wakeBy s src) := by
  unfold State.wakeBy
  repeat' with_reducible first
    | exact Same.refl _
    | apply Same.step (m := 67108853) (by decide) (toNormal_same ..)
    | apply Same.step (m := 67108855) (by decide) (raise_same ..)
    | apply Same.step (m := 67108861) (by decide) (set_same ..)
    | apply Same.ite
    | apply Same.ite1
    | apply Same.ite2
    | extract_lets
    | split
    | dsimp -zeta only
    | dsimp +zetaDelta only

theorem State.warn_same (s : State) (k : Nat) :
    Same 66846709 s (State.warn s k) := by
  unfold State.warn
  repeat' with_reducible first
    | exact Same.refl _
    | apply Same.step (m := 67108855) (by decide) (raise_same ..)
    | apply Same.step (m := 67108861) (by decide) (sat_same ..)
    | apply Same.step (m := 66846719) (by decide) (mapPwr_same ..)
    | apply Same.step (m := 66846709) (by decide) (rtBegin_same ..)
    | apply Same.ite
    | apply Same.ite1
    | apply Same.ite2
    | extract_lets
    | split
    | dsimp -zeta only
    | dsimp +zetaDelta only

theorem State.xtalGone_same (s : State) :
    Same 66846709 s (State.xtalGone s) := by
  unfold State.xtalGone
  repeat' with_reducible first
    | exact Same.refl _
    | apply Same.step (m := 67108855) (by decide) (raise_same ..)
    | apply Same.step (m := 67108861) (by decide) (set_same ..)
    | apply Same.step (m := 66846719) (by decide) (mapPwr_same ..)
    | apply Same.ite
    | apply Same.ite1
    | apply Same.ite2
    | extract_lets
    | split
    | dsimp -zeta only
    | dsimp +zetaDelta only

end Sys2Proof.Machine
end

