-- ==== Sys2Proof/Laws/FrameScan.lean ====
section
/-! SUPPORT. What each operation of Machine/Scan.lean may change: every other part of State stays as it is. -/

set_option linter.all false

namespace Sys2Proof.Machine

theorem State.soTrigger_same (s : State) (n : Nat) :
    Same 67076093 s (State.soTrigger s n) := by
  unfold State.soTrigger
  repeat' with_reducible first
    | exact Same.refl _
    | apply Same.step (m := 67108861) (by decide) (sat_same ..)
    | apply Same.step (m := 67076095) (by decide) (mapEng_same ..)
    | apply Same.ite
    | apply Same.ite1
    | apply Same.ite2
    | extract_lets
    | split
    | dsimp -zeta only
    | dsimp +zetaDelta only

theorem State.soStep_same (s : State) (back : Bool) :
    Same 67076093 s (State.soStep s back) := by
  unfold State.soStep
  repeat' with_reducible first
    | exact Same.refl _
    | apply Same.step (m := 67108861) (by decide) (sat_same ..)
    | apply Same.step (m := 67076093) (by decide) (soTrigger_same ..)
    | apply Same.step (m := 67076095) (by decide) (mapEng_same ..)
    | apply Same.trans _ (foldl_same _ _ _ (fun _ _ => ?_))
    | apply Same.trans _ (foldl_same1 _ _ _ (fun _ _ => ?_))
    | apply Same.ite
    | apply Same.ite1
    | apply Same.ite2
    | extract_lets
    | split
    | dsimp -zeta only
    | dsimp +zetaDelta only

theorem State.stepScan_same (s : State) (off : Int) :
    Same 67076093 s (State.stepScan s off) := by
  unfold State.stepScan
  repeat' with_reducible first
    | exact Same.refl _
    | apply Same.step (m := 67076093) (by decide) (soStep_same ..)
    | apply Same.ite
    | apply Same.ite1
    | apply Same.ite2
    | extract_lets
    | split
    | dsimp -zeta only
    | dsimp +zetaDelta only

theorem State.soTake_same (s : State) (n : Nat) :
    Same 67108859 s (State.soTake s n) := by
  unfold State.soTake
  repeat' with_reducible first
    | exact Same.refl _
    | apply Same.ite
    | apply Same.ite1
    | apply Same.ite2
    | extract_lets
    | split
    | dsimp -zeta only
    | dsimp +zetaDelta only
    | apply Same.with_lag (by decide)

theorem State.soEnable_same (s : State) (s0 : State) (n : Nat) :
    Same 67076081 s (State.soEnable s s0 n) := by
  unfold State.soEnable
  repeat' with_reducible first
    | exact Same.refl _
    | apply Same.step (m := 67108861) (by decide) (set_same ..)
    | apply Same.step (m := 67108859) (by decide) (soTake_same ..)
    | apply Same.step (m := 67076093) (by decide) (soTrigger_same ..)
    | apply Same.step (m := 67108855) (by decide) (raise_same ..)
    | apply Same.step (m := 67076095) (by decide) (mapEng_same ..)
    | apply Same.ite
    | apply Same.ite1
    | apply Same.ite2
    | extract_lets
    | split
    | dsimp -zeta only
    | dsimp +zetaDelta only

theorem State.soFx_same (s : State) (s0 : State) (x : Wr) :
    Same 67076081 s (State.soFx s s0 x) := by
  unfold State.soFx
  repeat' with_reducible first
    | exact Same.refl _
    | apply Same.step (m := 67076081) (by decide) (soEnable_same ..)
    | apply Same.step (m := 67076095) (by decide) (mapEng_same ..)
    | apply Same.step (m := 67108861) (by decide) (set_same ..)
    | apply Same.ite
    | apply Same.ite1
    | apply Same.ite2
    | extract_lets
    | split
    | dsimp -zeta only
    | dsimp +zetaDelta only

theorem State.fetchLine_same (s : State) (n : Nat) (y : Nat) :
    Same 50291061 s (State.fetchLine s n y) := by
  unfold State.fetchLine
  repeat' with_reducible first
    | exact Same.refl _
    | apply Same.step (m := 50291061) (by decide) (present?_same ..)
    | apply Same.step (m := 67076095) (by decide) (mapEng_same ..)
    | apply Same.trans _ (foldl_same _ _ _ (fun _ _ => ?_))
    | apply Same.trans _ (foldl_same1 _ _ _ (fun _ _ => ?_))
    | apply Same.ite
    | apply Same.ite1
    | apply Same.ite2
    | extract_lets
    | split
    | dsimp -zeta only
    | dsimp +zetaDelta only
    | apply Same.with_regs (by decide)
    | apply Same.with_sig (by decide)
    | apply Same.with_pool (by decide)
    | apply Same.with_gd (by decide)
    | apply Same.with_port (by decide)
    | apply Same.with_scan (by decide)

theorem State.setLay_same (s : State) (n : Nat) (l : Nat) (x : ScanLayer) :
    Same 67076095 s (State.setLay s n l x) := by
  unfold State.setLay
  repeat' with_reducible first
    | exact Same.refl _
    | apply Same.step (m := 67076095) (by decide) (mapEng_same ..)
    | apply Same.ite
    | apply Same.ite1
    | apply Same.ite2
    | extract_lets
    | split
    | dsimp -zeta only
    | dsimp +zetaDelta only

theorem State.layerStart_same (s : State) (n : Nat) (l : Nat) (ref : Bool) :
    Same 67076085 s (State.layerStart s n l ref) := by
  unfold State.layerStart
  repeat' with_reducible first
    | exact Same.refl _
    | apply Same.step (m := 67076095) (by decide) (setLay_same ..)
    | apply Same.step (m := 67108861) (by decide) (sets_same ..)
    | apply Same.step (m := 67108861) (by decide) (set_same ..)
    | apply Same.step (m := 67108855) (by decide) (raise_same ..)
    | apply Same.ite
    | apply Same.ite1
    | apply Same.ite2
    | extract_lets
    | split
    | dsimp -zeta only
    | dsimp +zetaDelta only

theorem State.lineCrc_same (s : State) (n : Nat) (y : Nat) :
    Same 67076095 s (State.lineCrc s n y) := by
  unfold State.lineCrc
  repeat' with_reducible first
    | exact Same.refl _
    | apply Same.step (m := 67076095) (by decide) (setLay_same ..)
    | apply Same.trans _ (foldl_same _ _ _ (fun _ _ => ?_))
    | apply Same.trans _ (foldl_same1 _ _ _ (fun _ _ => ?_))
    | apply Same.ite
    | apply Same.ite1
    | apply Same.ite2
    | extract_lets
    | split
    | dsimp -zeta only
    | dsimp +zetaDelta only

theorem State.soBegin_same (s : State) (n : Nat) :
    Same 67108853 s (State.soBegin s n) := by
  unfold State.soBegin
  repeat' with_reducible first
    | exact Same.refl _
    | apply Same.step (m := 67108861) (by decide) (set64_same ..)
    | apply Same.step (m := 67108861) (by decide) (wrap_same ..)
    | apply Same.step (m := 67108855) (by decide) (raise_same ..)
    | apply Same.step (m := 67108861) (by decide) (sat_same ..)
    | apply Same.ite
    | apply Same.ite1
    | apply Same.ite2
    | extract_lets
    | split
    | dsimp -zeta only
    | dsimp +zetaDelta only

theorem State.soSkip_same (s : State) (n : Nat) :
    Same 67108861 s (State.soSkip s n) := by
  unfold State.soSkip
  repeat' with_reducible first
    | exact Same.refl _
    | apply Same.step (m := 67108861) (by decide) (sat_same ..)
    | apply Same.ite
    | apply Same.ite1
    | apply Same.ite2
    | extract_lets
    | split
    | dsimp -zeta only
    | dsimp +zetaDelta only

theorem State.soDrain_same (x0 : Nat) (x1 : State) (x2 : Nat) :
    Same 49835893 x1 (State.soDrain x0 x1 x2) := by
  induction x0 generalizing x1 with
  | zero => exact Same.refl _
  | succ n ih =>
    unfold State.soDrain
    repeat' with_reducible first
      | exact Same.refl _
      | apply Same.step (m := 49868661) (by decide) (arrive_same ..)
      | apply Same.step (m := 67076095) (by decide) (mapEng_same ..)
      | apply Same.trans _ (ih _)
      | apply Same.ite
      | apply Same.ite1
      | apply Same.ite2
      | extract_lets
      | split
      | dsimp -zeta only
      | dsimp +zetaDelta only

theorem State.soQueue_same (s : State) (n : Nat) (l : List (List (BitVec 8) × Bool)) :
    Same 67076095 s (State.soQueue s n l) := by
  unfold State.soQueue
  repeat' with_reducible first
    | exact Same.refl _
    | apply Same.step (m := 67076095) (by decide) (mapEng_same ..)
    | apply Same.ite
    | apply Same.ite1
    | apply Same.ite2
    | extract_lets
    | split
    | dsimp -zeta only
    | dsimp +zetaDelta only

theorem State.soHeader_same (s : State) (n : Nat) (div : Nat) :
    Same 67076095 s (State.soHeader s n div) := by
  unfold State.soHeader
  repeat' with_reducible first
    | exact Same.refl _
    | apply Same.step (m := 67076095) (by decide) (soQueue_same ..)
    | apply Same.ite
    | apply Same.ite1
    | apply Same.ite2
    | extract_lets
    | split
    | dsimp -zeta only
    | dsimp +zetaDelta only

theorem State.soSend_same (s : State) (n : Nat) (took : Bool) :
    Same 49832309 s (State.soSend s n took) := by
  unfold State.soSend
  repeat' with_reducible first
    | exact Same.refl _
    | apply Same.step (m := 67076095) (by decide) (setEng_same ..)
    | apply Same.step (m := 67108861) (by decide) (sets_same ..)
    | apply Same.step (m := 67076095) (by decide) (setLay_same ..)
    | apply Same.step (m := 67108861) (by decide) (set_same ..)
    | apply Same.step (m := 49835893) (by decide) (soDrain_same ..)
    | apply Same.step (m := 50291061) (by decide) (fetchLine_same ..)
    | apply Same.step (m := 67076095) (by decide) (soHeader_same ..)
    | apply Same.trans _ (foldl_same _ _ _ (fun _ _ => ?_))
    | apply Same.trans _ (foldl_same1 _ _ _ (fun _ _ => ?_))
    | apply Same.ite
    | apply Same.ite1
    | apply Same.ite2
    | extract_lets
    | split
    | dsimp -zeta only
    | dsimp +zetaDelta only

theorem State.soDecide_same (s : State) (n : Nat) (took : Bool) :
    Same 49832309 s (State.soDecide s n took) := by
  unfold State.soDecide
  repeat' with_reducible first
    | exact Same.refl _
    | apply Same.step (m := 67076095) (by decide) (mapEng_same ..)
    | apply Same.step (m := 67108861) (by decide) (soSkip_same ..)
    | apply Same.step (m := 67108861) (by decide) (set_same ..)
    | apply Same.step (m := 67108855) (by decide) (raise_same ..)
    | apply Same.step (m := 67108861) (by decide) (sets_same ..)
    | apply Same.step (m := 49832309) (by decide) (soSend_same ..)
    | apply Same.ite
    | apply Same.ite1
    | apply Same.ite2
    | extract_lets
    | split
    | dsimp -zeta only
    | dsimp +zetaDelta only

theorem State.soEnd_same (s : State) (n : Nat) :
    Same 67076085 s (State.soEnd s n) := by
  unfold State.soEnd
  repeat' with_reducible first
    | exact Same.refl _
    | apply Same.step (m := 67108861) (by decide) (set_same ..)
    | apply Same.step (m := 67108855) (by decide) (raise_same ..)
    | apply Same.step (m := 67108861) (by decide) (sat_same ..)
    | apply Same.step (m := 67108861) (by decide) (sets_same ..)
    | apply Same.step (m := 67076095) (by decide) (setEng_same ..)
    | apply Same.trans _ (foldl_same _ _ _ (fun _ _ => ?_))
    | apply Same.trans _ (foldl_same1 _ _ _ (fun _ _ => ?_))
    | apply Same.ite
    | apply Same.ite1
    | apply Same.ite2
    | extract_lets
    | split
    | dsimp -zeta only
    | dsimp +zetaDelta only

theorem State.underrun_same (s : State) (n : Nat) (y : Nat) :
    Same 67108853 s (State.underrun s n y) := by
  unfold State.underrun
  repeat' with_reducible first
    | exact Same.refl _
    | apply Same.step (m := 67108855) (by decide) (raise_same ..)
    | apply Same.step (m := 67108861) (by decide) (sat_same ..)
    | apply Same.step (m := 67108861) (by decide) (set_same ..)
    | apply Same.trans _ (foldl_same _ _ _ (fun _ _ => ?_))
    | apply Same.trans _ (foldl_same1 _ _ _ (fun _ _ => ?_))
    | apply Same.ite
    | apply Same.ite1
    | apply Same.ite2
    | extract_lets
    | split
    | dsimp -zeta only
    | dsimp +zetaDelta only

theorem State.soLine_same (s : State) (n : Nat) :
    Same 49832309 s (State.soLine s n) := by
  unfold State.soLine
  repeat' with_reducible first
    | exact Same.refl _
    | apply Same.step (m := 67076095) (by decide) (lineCrc_same ..)
    | apply Same.step (m := 67108853) (by decide) (underrun_same ..)
    | apply Same.step (m := 67076095) (by decide) (mapEng_same ..)
    | apply Same.step (m := 67076095) (by decide) (soQueue_same ..)
    | apply Same.step (m := 49835893) (by decide) (soDrain_same ..)
    | apply Same.step (m := 50291061) (by decide) (fetchLine_same ..)
    | apply Same.step (m := 67076085) (by decide) (soEnd_same ..)
    | apply Same.ite
    | apply Same.ite1
    | apply Same.ite2
    | extract_lets
    | split
    | dsimp -zeta only
    | dsimp +zetaDelta only

theorem State.soLost_same (s : State) (m : Nat) :
    Same 67108853 s (State.soLost s m) := by
  unfold State.soLost
  repeat' with_reducible first
    | exact Same.refl _
    | apply Same.step (m := 67108855) (by decide) (raise_same ..)
    | apply Same.step (m := 67108861) (by decide) (set_same ..)
    | apply Same.trans _ (foldl_same _ _ _ (fun _ _ => ?_))
    | apply Same.trans _ (foldl_same1 _ _ _ (fun _ _ => ?_))
    | apply Same.ite
    | apply Same.ite1
    | apply Same.ite2
    | extract_lets
    | split
    | dsimp -zeta only
    | dsimp +zetaDelta only

theorem State.soNext_same (s : State) (n : Nat) :
    Same 67076095 s (State.soNext s n) := by
  unfold State.soNext
  repeat' with_reducible first
    | exact Same.refl _
    | apply Same.step (m := 67076095) (by decide) (mapEng_same ..)
    | apply Same.ite
    | apply Same.ite1
    | apply Same.ite2
    | extract_lets
    | split
    | dsimp -zeta only
    | dsimp +zetaDelta only

theorem State.soStart_same (s : State) (n : Nat) :
    Same 49832305 s (State.soStart s n) := by
  unfold State.soStart
  repeat' with_reducible first
    | exact Same.refl _
    | apply Same.step (m := 67076095) (by decide) (mapEng_same ..)
    | apply Same.step (m := 67108859) (by decide) (soTake_same ..)
    | apply Same.step (m := 67076085) (by decide) (layerStart_same ..)
    | apply Same.step (m := 49832309) (by decide) (soDecide_same ..)
    | apply Same.trans _ (foldl_same _ _ _ (fun _ _ => ?_))
    | apply Same.trans _ (foldl_same1 _ _ _ (fun _ _ => ?_))
    | apply Same.ite
    | apply Same.ite1
    | apply Same.ite2
    | extract_lets
    | split
    | dsimp -zeta only
    | dsimp +zetaDelta only

theorem State.soSync_same (s : State) (m : Nat) :
    Same 67076085 s (State.soSync s m) := by
  unfold State.soSync
  repeat' with_reducible first
    | exact Same.refl _
    | apply Same.step (m := 67108855) (by decide) (raise_same ..)
    | apply Same.step (m := 67108861) (by decide) (set_same ..)
    | apply Same.step (m := 67076093) (by decide) (soTrigger_same ..)
    | apply Same.step (m := 67076095) (by decide) (mapEng_same ..)
    | apply Same.trans _ (foldl_same _ _ _ (fun _ _ => ?_))
    | apply Same.trans _ (foldl_same1 _ _ _ (fun _ _ => ?_))
    | apply Same.ite
    | apply Same.ite1
    | apply Same.ite2
    | extract_lets
    | split
    | dsimp -zeta only
    | dsimp +zetaDelta only

end Sys2Proof.Machine
end

