-- ==== Sys2Proof/Laws/FrameSchedFx.lean ====
section
/-! SUPPORT. What each operation of Machine/SchedFx.lean may change: every other part of State stays as it is. -/

set_option linter.all false

namespace Sys2Proof.Machine

theorem State.planeCmd_same (s : State) (v : Nat) :
    Same 67100533 s (State.planeCmd s v) := by
  unfold State.planeCmd
  repeat' with_reducible first
    | exact Same.refl _
    | apply Same.step (m := 67100533) (by decide) (State.planeFail_same ..)
    | apply Same.step (m := 67108861) (by decide) (State.set_same ..)
    | apply Same.ite
    | apply Same.ite1
    | apply Same.ite2
    | extract_lets
    | split
    | dsimp -zeta only
    | dsimp +zetaDelta only

theorem State.holdPeakReset_same (s : State) :
    Same 67108861 s (State.holdPeakReset s) := by
  unfold State.holdPeakReset
  repeat' with_reducible first
    | exact Same.refl _
    | apply Same.step (m := 67108861) (by decide) (set_same ..)
    | apply Same.ite
    | apply Same.ite1
    | apply Same.ite2
    | extract_lets
    | split
    | dsimp -zeta only
    | dsimp +zetaDelta only

theorem State.wheelPeakReset_same (s : State) :
    Same 67108861 s (State.wheelPeakReset s) := by
  unfold State.wheelPeakReset
  repeat' with_reducible first
    | exact Same.refl _
    | apply Same.step (m := 67108861) (by decide) (set_same ..)
    | apply Same.ite
    | apply Same.ite1
    | apply Same.ite2
    | extract_lets
    | split
    | dsimp -zeta only
    | dsimp +zetaDelta only

theorem State.refileAxis_same (s : State) (a : Nat) :
    Same 67108719 s (State.refileAxis s a) := by
  unfold State.refileAxis
  repeat' with_reducible first
    | exact Same.refl _
    | apply Same.step (m := 67108735) (by decide) (setCells_same ..)
    | apply Same.step (m := 67108847) (by decide) (setSlot_same ..)
    | apply Same.trans _ (foldl_same _ _ _ (fun _ _ => ?_))
    | apply Same.ite
    | apply Same.ite1
    | apply Same.ite2
    | extract_lets
    | split
    | dsimp -zeta only
    | dsimp +zetaDelta only

theorem State.tellExits_same (s : State) :
    Same 67108855 s (State.tellExits s) := by
  unfold State.tellExits
  repeat' with_reducible first
    | exact Same.refl _
    | apply Same.step (m := 67108855) (by decide) (State.emit_same ..)
    | apply Same.trans _ (foldl_same _ _ _ (fun _ _ => ?_))
    | apply Same.trans _ (foldl_same1 _ _ _ (fun _ _ => ?_))
    | apply Same.ite
    | apply Same.ite1
    | apply Same.ite2
    | extract_lets
    | split
    | dsimp -zeta only
    | dsimp +zetaDelta only

theorem State.govCtrl_same (s : State) (s0 : State) :
    Same 50327541 s (State.govCtrl s s0) := by
  unfold State.govCtrl
  repeat' with_reducible first
    | exact Same.refl _
    | apply Same.step (m := 50327541) (by decide) (State.selectState_same ..)
    | apply Same.step (m := 67108861) (by decide) (State.set_same ..)
    | apply Same.step (m := 67108855) (by decide) (State.tellExits_same ..)
    | apply Same.trans _ (foldl_same _ _ _ (fun _ _ => ?_))
    | apply Same.trans _ (foldl_same1 _ _ _ (fun _ _ => ?_))
    | apply Same.ite
    | apply Same.ite1
    | apply Same.ite2
    | extract_lets
    | split
    | dsimp -zeta only
    | dsimp +zetaDelta only

theorem State.schedFx_same (s : State) (s0 : State) (x : Wr) :
    Same 50319205 s (State.schedFx s s0 x) := by
  unfold State.schedFx
  repeat' with_reducible first
    | exact Same.refl _
    | apply Same.step (m := 50327541) (by decide) (State.govCtrl_same ..)
    | apply Same.step (m := 67108861) (by decide) (State.holdPeakReset_same ..)
    | apply Same.step (m := 67100533) (by decide) (State.planeCmd_same ..)
    | apply Same.step (m := 67108719) (by decide) (State.refileAxis_same ..)
    | apply Same.step (m := 50327541) (by decide) (State.selectState_same ..)
    | apply Same.step (m := 67108861) (by decide) (State.set_same ..)
    | apply Same.step (m := 67108733) (by decide) (State.shaperEn_same ..)
    | apply Same.step (m := 67108861) (by decide) (State.wheelPeakReset_same ..)
    | apply Same.trans _ (foldl_same _ _ _ (fun _ _ => ?_))
    | apply Same.trans _ (foldl_same1 _ _ _ (fun _ _ => ?_))
    | apply Same.ite
    | apply Same.ite1
    | apply Same.ite2
    | extract_lets
    | split
    | dsimp -zeta only
    | dsimp +zetaDelta only

theorem State.deliverAll_same (s : State) :
    Same 67108855 s (State.deliverAll s) := retryHeld_same s _

theorem State.deliverSet_same (s : State) (set : Nat) :
    Same 67108855 s (State.deliverSet s set) := retryHeld_same s _

theorem State.qcons_same (s : State) (t : Nat) :
    Same 67108855 s (State.qcons s t) := by
  unfold State.qcons
  repeat' with_reducible first
    | exact Same.refl _
    | apply Same.step (m := 67108855) (by decide) (request_same ..)
    | apply Same.ite
    | apply Same.ite1
    | apply Same.ite2
    | extract_lets
    | split
    | dsimp -zeta only
    | dsimp +zetaDelta only

theorem State.eventFx_same (s : State) (s0 : State) (x : Wr) :
    Same 67108855 s (State.eventFx s s0 x) := by
  unfold State.eventFx
  repeat' with_reducible first
    | exact Same.refl _
    | apply Same.step (m := 67108855) (by decide) (deliverAll_same ..)
    | apply Same.step (m := 67108855) (by decide) (routed_same ..)
    | apply Same.step (m := 67108855) (by decide) (deliverSet_same ..)
    | apply Same.step (m := 67108855) (by decide) (retarget_same ..)
    | apply Same.step (m := 67108855) (by decide) (qcons_same ..)
    | apply Same.step (m := 67108855) (by decide) (completeEv_same ..)
    | apply Same.ite
    | apply Same.ite1
    | apply Same.ite2
    | extract_lets
    | split
    | dsimp -zeta only
    | dsimp +zetaDelta only

end Sys2Proof.Machine
end

