-- ==== Sys2Proof/Laws/FrameStart.lean ====
section
/-! SUPPORT. What each operation of Machine/Start.lean may change: every other part of State stays as it is. -/

set_option linter.all false

namespace Sys2Proof.Machine

theorem State.aonCycle_same (s : State) :
    Same 67108797 s (State.aonCycle s) := by
  unfold State.aonCycle
  repeat' with_reducible first
    | exact Same.refl _
    | apply Same.step (m := 67108797) (by decide) (State.advanceClk_same ..)
    | apply Same.ite
    | apply Same.ite1
    | apply Same.ite2
    | extract_lets
    | split
    | dsimp -zeta only
    | dsimp +zetaDelta only

theorem State.otpCut_same (s : State) :
    Same 49283063 s (State.otpCut s) := by
  unfold State.otpCut
  repeat' with_reducible first
    | exact Same.refl _
    | apply Same.step (m := 66060287) (by decide) (mapOtp_same ..)
    | apply Same.step (m := 50331647) (by decide) (fresh_same ..)
    | apply Same.step (m := 66060279) (by decide) (lcBlow_same ..)
    | apply Same.ite
    | apply Same.ite1
    | apply Same.ite2
    | extract_lets
    | split
    | dsimp -zeta only
    | dsimp +zetaDelta only

theorem State.fabricReset_same (s0 : State) : Same 8193 s0 (State.fabricReset s0) := by
  refine Same.trans ((State.otpCut_same s0).weaken (by decide)) ⟨fun p hp => ?_⟩
  cases p <;> first | rfl | exact absurd hp (by decide)

theorem State.readOtp_same (s : State) :
    Same 66060277 s (State.readOtp s) := by
  unfold State.readOtp
  repeat' with_reducible first
    | exact Same.refl _
    | apply Same.step (m := 66060287) (by decide) (mapOtp_same ..)
    | apply Same.step (m := 67108855) (by decide) (raiseIf_same ..)
    | apply Same.step (m := 67108861) (by decide) (sets_same ..)
    | apply Same.ite
    | apply Same.ite1
    | apply Same.ite2
    | extract_lets
    | split
    | dsimp -zeta only
    | dsimp +zetaDelta only

theorem State.pdRoles_same (s : State) :
    Same 67108861 s (State.pdRoles s) := by
  unfold State.pdRoles
  repeat' with_reducible first
    | exact Same.refl _
    | apply Same.step (m := 67108861) (by decide) (State.sets_same ..)
    | apply Same.ite
    | apply Same.ite1
    | apply Same.ite2
    | extract_lets
    | split
    | dsimp -zeta only
    | dsimp +zetaDelta only

theorem State.startInit_same (s : State) (aonLost : Bool) (tested : Bool) :
    Same 48356725 s (State.startInit s aonLost tested) := by
  unfold State.startInit
  repeat' with_reducible first
    | exact Same.refl _
    | apply Same.step (m := 66584573) (by decide) (State.drbgStart_same ..)
    | apply Same.step (m := 67108855) (by decide) (State.emit_same ..)
    | apply Same.step (m := 49807357) (by decide) (State.formRoot_same ..)
    | apply Same.step (m := 66584575) (by decide) (State.mapVault_same ..)
    | apply Same.step (m := 67108861) (by decide) (State.pdRoles_same ..)
    | apply Same.step (m := 67108855) (by decide) (State.raiseIf_same ..)
    | apply Same.step (m := 66060277) (by decide) (State.readOtp_same ..)
    | apply Same.step (m := 67108861) (by decide) (State.set_same ..)
    | apply Same.step (m := 66706805) (by decide) (State.startMap_same ..)
    | apply Same.ite
    | apply Same.ite1
    | apply Same.ite2
    | extract_lets
    | split
    | dsimp -zeta only
    | dsimp +zetaDelta only

theorem State.clearCounted_same (s : State) :
    Same 67108799 s (State.clearCounted s) := by
  unfold State.clearCounted
  repeat' with_reducible first
    | exact Same.refl _
    | apply Same.ite
    | apply Same.ite1
    | apply Same.ite2
    | extract_lets
    | split
    | dsimp -zeta only
    | dsimp +zetaDelta only
    | apply Same.with_time (by decide)

theorem State.warmStart_same (s : State) (cause : Nat) (rail : Nat) (prefer : (Option Nat)) :
    Same 1 s (State.warmStart s cause rail prefer) := by
  unfold State.warmStart
  repeat' with_reducible first
    | exact Same.refl _
    | apply Same.step (m := 67108861) (by decide) (sets_same ..)
    | apply Same.step (m := 66846719) (by decide) (mapPwr_same ..)
    | apply Same.step (m := 8193) (by decide) (fabricReset_same ..)
    | apply Same.step (m := 48356725) (by decide) (startInit_same ..)
    | apply Same.step (m := 67108799) (by decide) (clearCounted_same ..)
    | apply Same.ite
    | apply Same.ite1
    | apply Same.ite2
    | extract_lets
    | split
    | dsimp -zeta only
    | dsimp +zetaDelta only

theorem State.shutdown_same (s : State) :
    Same 9445733 s (State.shutdown s) := by
  unfold State.shutdown
  repeat' with_reducible first
    | exact Same.refl _
    | apply Same.step (m := 67108861) (by decide) (set_same ..)
    | apply Same.step (m := 65011711) (by decide) (mapRep_same ..)
    | apply Same.step (m := 67108845) (by decide) (dropSlot_same ..)
    | apply Same.step (m := 49570149) (by decide) (portDown_same ..)
    | apply Same.step (m := 62898165) (by decide) (vbReq_same ..)
    | apply Same.step (m := 50078069) (by decide) (modeExit_same ..)
    | apply Same.step (m := 16277861) (by decide) (engStop_same ..)
    | apply Same.trans _ (foldl_same _ _ _ (fun _ _ => ?_))
    | apply Same.trans _ (foldl_same1 _ _ _ (fun _ _ => ?_))
    | apply Same.ite
    | apply Same.ite1
    | apply Same.ite2
    | extract_lets
    | split
    | dsimp -zeta only
    | dsimp +zetaDelta only

theorem State.rstCmd_same (s : State) (v : Nat) :
    Same 1 s (State.rstCmd s v) := by
  unfold State.rstCmd
  repeat' with_reducible first
    | exact Same.refl _
    | apply Same.step (m := 1) (by decide) (warmStart_same ..)
    | apply Same.step (m := 9445733) (by decide) (shutdown_same ..)
    | apply Same.ite
    | apply Same.ite1
    | apply Same.ite2
    | extract_lets
    | split
    | dsimp -zeta only
    | dsimp +zetaDelta only

theorem State.bistGo_same (s : State) (k : Nat) :
    Same 65011709 s (State.bistGo s k) := by
  unfold State.bistGo
  repeat' with_reducible first
    | exact Same.refl _
    | apply Same.step (m := 67108861) (by decide) (sets_same ..)
    | apply Same.step (m := 65011711) (by decide) (mapRep_same ..)
    | apply Same.ite
    | apply Same.ite1
    | apply Same.ite2
    | extract_lets
    | split
    | dsimp -zeta only
    | dsimp +zetaDelta only

theorem State.coldReset_same (s0 : State) (power : Bool) : Same 1 s0 (State.coldReset s0 power) := by
  refine Same.trans ((State.otpCut_same s0).weaken (by decide)) ⟨fun p hp => ?_⟩
  cases p <;> first | rfl | exact absurd hp (by decide)

theorem State.coldStart_same (s : State) (cause : Nat) (power : Bool) :
    Same 1 s (State.coldStart s cause power) := by
  unfold State.coldStart
  repeat' with_reducible first
    | exact Same.refl _
    | apply Same.step (m := 67108861) (by decide) (set_same ..)
    | apply Same.step (m := 1) (by decide) (coldReset_same ..)
    | apply Same.step (m := 50130725) (by decide) (setLost_same ..)
    | apply Same.step (m := 48356725) (by decide) (startInit_same ..)
    | apply Same.trans _ (foldl_same _ _ _ (fun _ _ => ?_))
    | apply Same.trans _ (foldl_same1 _ _ _ (fun _ _ => ?_))
    | apply Same.ite
    | apply Same.ite1
    | apply Same.ite2
    | extract_lets
    | split
    | dsimp -zeta only
    | dsimp +zetaDelta only

theorem State.undark_same (s : State) (why : Nat) :
    Same 66846719 s (State.undark s why) := by
  unfold State.undark
  repeat' with_reducible first
    | exact Same.refl _
    | apply Same.step (m := 66846719) (by decide) (mapPwr_same ..)
    | apply Same.ite
    | apply Same.ite1
    | apply Same.ite2
    | extract_lets
    | split
    | dsimp -zeta only
    | dsimp +zetaDelta only

theorem State.thermalWarm_same (s : State) :
    Same 1 s (State.thermalWarm s) := by
  unfold State.thermalWarm
  repeat' with_reducible first
    | exact Same.refl _
    | apply Same.step (m := 67108855) (by decide) (raise_same ..)
    | apply Same.step (m := 1) (by decide) (warmStart_same ..)
    | apply Same.step (m := 66846719) (by decide) (undark_same ..)
    | apply Same.ite
    | apply Same.ite1
    | apply Same.ite2
    | extract_lets
    | split
    | dsimp -zeta only
    | dsimp +zetaDelta only

theorem State.cooled_same (s : State) :
    Same 1 s (State.cooled s) := by
  unfold State.cooled
  repeat' with_reducible first
    | exact Same.refl _
    | apply Same.step (m := 1) (by decide) (thermalWarm_same ..)
    | apply Same.step (m := 66846719) (by decide) (mapPwr_same ..)
    | apply Same.ite
    | apply Same.ite1
    | apply Same.ite2
    | extract_lets
    | split
    | dsimp -zeta only
    | dsimp +zetaDelta only

theorem State.darken_same (s : State) (why : Nat) :
    Same 8193 s (State.darken s why) := by
  unfold State.darken
  repeat' with_reducible first
    | exact Same.refl _
    | apply Same.step (m := 67108861) (by decide) (sets_same ..)
    | apply Same.step (m := 66846719) (by decide) (mapPwr_same ..)
    | apply Same.step (m := 8193) (by decide) (fabricReset_same ..)
    | apply Same.ite
    | apply Same.ite1
    | apply Same.ite2
    | extract_lets
    | split
    | dsimp -zeta only
    | dsimp +zetaDelta only

theorem State.imageTaken_same (s : State) (m : FwImage) :
    Same 31064037 s (State.imageTaken s m) := by
  unfold State.imageTaken
  repeat' with_reducible first
    | exact Same.refl _
    | apply Same.step (m := 67108861) (by decide) (sets_same ..)
    | apply Same.step (m := 66846719) (by decide) (mapPwr_same ..)
    | apply Same.step (m := 65011703) (by decide) (flashCopy_same ..)
    | apply Same.step (m := 33423333) (by decide) (engReload_same ..)
    | apply Same.trans _ (foldl_same _ _ _ (fun _ _ => ?_))
    | apply Same.trans _ (foldl_same1 _ _ _ (fun _ _ => ?_))
    | apply Same.ite
    | apply Same.ite1
    | apply Same.ite2
    | extract_lets
    | split
    | dsimp -zeta only
    | dsimp +zetaDelta only

theorem State.imageVerified_same (s : State) (m : FwImage) :
    Same 26869733 s (State.imageVerified s m) := by
  unfold State.imageVerified
  repeat' with_reducible first
    | exact Same.refl _
    | apply Same.step (m := 67108861) (by decide) (sets_same ..)
    | apply Same.step (m := 31064037) (by decide) (imageTaken_same ..)
    | apply Same.step (m := 67108855) (by decide) (raise_same ..)
    | apply Same.step (m := 67108861) (by decide) (set_same ..)
    | apply Same.step (m := 66846719) (by decide) (mapPwr_same ..)
    | apply Same.step (m := 62914549) (by decide) (usbReason_same ..)
    | apply Same.ite
    | apply Same.ite1
    | apply Same.ite2
    | extract_lets
    | split
    | dsimp -zeta only
    | dsimp +zetaDelta only

theorem State.porst_same (s : State) :
    Same 1 s (State.porst s) := by
  unfold State.porst
  repeat' with_reducible first
    | exact Same.refl _
    | apply Same.step (m := 67108861) (by decide) (set_same ..)
    | apply Same.step (m := 67108855) (by decide) (raise_same ..)
    | apply Same.step (m := 1) (by decide) (coldStart_same ..)
    | apply Same.step (m := 66846719) (by decide) (undark_same ..)
    | apply Same.ite
    | apply Same.ite1
    | apply Same.ite2
    | extract_lets
    | split
    | dsimp -zeta only
    | dsimp +zetaDelta only

theorem State.programDone_same (s : State) (elems : List ElemResult) :
    Same 65011701 s (State.programDone s elems) := by
  unfold State.programDone
  repeat' with_reducible first
    | exact Same.refl _
    | apply Same.step (m := 67108855) (by decide) (raiseIf_same ..)
    | apply Same.step (m := 67108861) (by decide) (set64_same ..)
    | apply Same.step (m := 67108861) (by decide) (sets_same ..)
    | apply Same.step (m := 67108861) (by decide) (set_same ..)
    | apply Same.step (m := 65011711) (by decide) (mapRep_same ..)
    | apply Same.ite
    | apply Same.ite1
    | apply Same.ite2
    | extract_lets
    | split
    | dsimp -zeta only
    | dsimp +zetaDelta only

theorem State.quiesced_same (s : State) :
    Same 67108861 s (State.quiesced s) := by
  unfold State.quiesced
  repeat' with_reducible first
    | exact Same.refl _
    | apply Same.step (m := 67108861) (by decide) (sets_same ..)
    | apply Same.trans _ (foldl_same _ _ _ (fun _ _ => ?_))
    | apply Same.trans _ (foldl_same1 _ _ _ (fun _ _ => ?_))
    | apply Same.ite
    | apply Same.ite1
    | apply Same.ite2
    | extract_lets
    | split
    | dsimp -zeta only
    | dsimp +zetaDelta only

theorem State.railRelease_same (s : State) (k : Nat) :
    Same 1 s (State.railRelease s k) := by
  unfold State.railRelease
  repeat' with_reducible first
    | exact Same.refl _
    | apply Same.step (m := 66846719) (by decide) (undark_same ..)
    | apply Same.step (m := 1) (by decide) (coldStart_same ..)
    | apply Same.step (m := 67108861) (by decide) (macroUp_same ..)
    | apply Same.step (m := 66837885) (by decide) (reapply_same ..)
    | apply Same.trans _ (foldl_same _ _ _ (fun _ _ => ?_))
    | apply Same.trans _ (foldl_same1 _ _ _ (fun _ _ => ?_))
    | apply Same.ite
    | apply Same.ite1
    | apply Same.ite2
    | extract_lets
    | split
    | dsimp -zeta only
    | dsimp +zetaDelta only

theorem State.railReset_same (s : State) (k : Nat) :
    Same 1 s (State.railReset s k) := by
  unfold State.railReset
  repeat' with_reducible first
    | exact Same.refl _
    | apply Same.step (m := 67108855) (by decide) (raise_same ..)
    | apply Same.step (m := 67108861) (by decide) (set_same ..)
    | apply Same.step (m := 66846719) (by decide) (mapPwr_same ..)
    | apply Same.step (m := 1) (by decide) (warmStart_same ..)
    | apply Same.step (m := 16015393) (by decide) (serdesReset_same ..)
    | apply Same.step (m := 50130725) (by decide) (ioLost_same ..)
    | apply Same.ite
    | apply Same.ite1
    | apply Same.ite2
    | extract_lets
    | split
    | dsimp -zeta only
    | dsimp +zetaDelta only

theorem State.recorded_same (s : State) :
    Same 66052085 s (State.recorded s) := by
  unfold State.recorded
  repeat' with_reducible first
    | exact Same.refl _
    | apply Same.step (m := 67108861) (by decide) (set_same ..)
    | apply Same.step (m := 66052085) (by decide) (recordTest_same ..)
    | apply Same.ite
    | apply Same.ite1
    | apply Same.ite2
    | extract_lets
    | split
    | dsimp -zeta only
    | dsimp +zetaDelta only

theorem State.shutdownDone_same (s : State) (ms : Nat) :
    Same 1 s (State.shutdownDone s ms) := by
  unfold State.shutdownDone
  repeat' with_reducible first
    | exact Same.refl _
    | apply Same.step (m := 67108861) (by decide) (sets_same ..)
    | apply Same.step (m := 1) (by decide) (warmStart_same ..)
    | apply Same.step (m := 8193) (by decide) (darken_same ..)
    | apply Same.ite
    | apply Same.ite1
    | apply Same.ite2
    | extract_lets
    | split
    | dsimp -zeta only
    | dsimp +zetaDelta only

theorem State.thermalTrip_same (s : State) (sensor : Nat) :
    Same 8193 s (State.thermalTrip s sensor) := by
  unfold State.thermalTrip
  repeat' with_reducible first
    | exact Same.refl _
    | apply Same.step (m := 45883765) (by decide) (detach_same ..)
    | apply Same.step (m := 62898165) (by decide) (vbReq_same ..)
    | apply Same.step (m := 67108861) (by decide) (sat_same ..)
    | apply Same.step (m := 67108861) (by decide) (sets_same ..)
    | apply Same.step (m := 67108855) (by decide) (emit_same ..)
    | apply Same.step (m := 66846719) (by decide) (mapPwr_same ..)
    | apply Same.step (m := 8193) (by decide) (darken_same ..)
    | apply Same.trans _ (foldl_same _ _ _ (fun _ _ => ?_))
    | apply Same.trans _ (foldl_same1 _ _ _ (fun _ _ => ?_))
    | apply Same.ite
    | apply Same.ite1
    | apply Same.ite2
    | extract_lets
    | split
    | dsimp -zeta only
    | dsimp +zetaDelta only

theorem State.timePasses_same (s : State) :
    Same 62390197 s (State.timePasses s) := by
  unfold State.timePasses
  repeat' with_reducible first
    | exact Same.refl _
    | apply Same.step (m := 67108797) (by decide) (tick_same ..)
    | apply Same.step (m := 67108797) (by decide) (aonCycle_same ..)
    | apply Same.step (m := 62914551) (by decide) (usbDue_same ..)
    | apply Same.step (m := 66584575) (by decide) (mapVault_same ..)
    | apply Same.ite
    | apply Same.ite1
    | apply Same.ite2
    | extract_lets
    | split
    | dsimp -zeta only
    | dsimp +zetaDelta only

theorem State.warmPin_same (s : State) :
    Same 1 s (State.warmPin s) := by
  unfold State.warmPin
  repeat' with_reducible first
    | exact Same.refl _
    | apply Same.step (m := 1) (by decide) (thermalWarm_same ..)
    | apply Same.step (m := 1) (by decide) (warmStart_same ..)
    | apply Same.step (m := 66846719) (by decide) (undark_same ..)
    | apply Same.ite
    | apply Same.ite1
    | apply Same.ite2
    | extract_lets
    | split
    | dsimp -zeta only
    | dsimp +zetaDelta only

end Sys2Proof.Machine
end

