-- ==== Sys2Proof/Laws/FrameEffects.lean ====
section
/-! SUPPORT. What each operation of Machine/Effects.lean may change: every other part of State stays as it is. -/

set_option linter.all false

namespace Sys2Proof.Machine

theorem State.afterDomReq_same (s : State) (s0 : State) (pg : Nat) :
    Same 66846709 s (State.afterDomReq s s0 pg) := by
  unfold State.afterDomReq
  repeat' with_reducible first
    | exact Same.refl _
    | apply Same.step (m := 66846709) (by decide) (domEval_same ..)
    | apply Same.ite
    | apply Same.ite1
    | apply Same.ite2
    | extract_lets
    | split
    | dsimp -zeta only
    | dsimp +zetaDelta only

theorem State.afterEn_same (s : State) (s0 : State) (pg : Nat) :
    Same 67108855 s (State.afterEn s s0 pg) := by
  unfold State.afterEn
  repeat' with_reducible first
    | exact Same.refl _
    | apply Same.step (m := 67108855) (by decide) (redeliver_same ..)
    | apply Same.trans _ (foldl_same _ _ _ (fun _ _ => ?_))
    | apply Same.trans _ (foldl_same1 _ _ _ (fun _ _ => ?_))
    | apply Same.ite
    | apply Same.ite1
    | apply Same.ite2
    | extract_lets
    | split
    | dsimp -zeta only
    | dsimp +zetaDelta only

theorem State.afterEvtEn_same (s : State) (s0 : State) (pg : Nat) :
    Same 67108855 s (State.afterEvtEn s s0 pg) := by
  unfold State.afterEvtEn
  repeat' with_reducible first
    | exact Same.refl _
    | apply Same.step (m := 67108855) (by decide) (redeliver_same ..)
    | apply Same.trans _ (foldl_same _ _ _ (fun _ _ => ?_))
    | apply Same.trans _ (foldl_same1 _ _ _ (fun _ _ => ?_))
    | apply Same.ite
    | apply Same.ite1
    | apply Same.ite2
    | extract_lets
    | split
    | dsimp -zeta only
    | dsimp +zetaDelta only

theorem State.headerFx_same (s : State) (s0 : State) (pg : Nat) (ro : Nat) (v : Nat) :
    Same 66846709 s (State.headerFx s s0 pg ro v) := by
  unfold State.headerFx
  repeat' with_reducible first
    | exact Same.refl _
    | apply Same.step (m := 66846709) (by decide) (State.afterDomReq_same ..)
    | apply Same.step (m := 67108855) (by decide) (State.afterEn_same ..)
    | apply Same.step (m := 67108855) (by decide) (State.afterEvtEn_same ..)
    | apply Same.step (m := 67108855) (by decide) (State.clearEvtStat_same ..)
    | apply Same.ite
    | apply Same.ite1
    | apply Same.ite2
    | extract_lets
    | split
    | dsimp -zeta only
    | dsimp +zetaDelta only

theorem State.effect_same (s : State) (s0 : State) (x : Wr) :
    Same 1 s (State.effect s s0 x) := by
  unfold State.effect
  repeat' with_reducible first
    | exact Same.refl _
    | apply Same.step (m := 65011709) (by decide) (State.bistGo_same ..)
    | apply Same.step (m := 67043325) (by decide) (State.brFx_same ..)
    | apply Same.step (m := 50094449) (by decide) (State.dockFx_same ..)
    | apply Same.step (m := 16277861) (by decide) (State.engFx_same ..)
    | apply Same.step (m := 67108855) (by decide) (State.eventFx_same ..)
    | apply Same.step (m := 50065393) (by decide) (State.laneFx_same ..)
    | apply Same.step (m := 67108851) (by decide) (State.mailFx_same ..)
    | apply Same.step (m := 50282869) (by decide) (State.poolFx_same ..)
    | apply Same.step (m := 49963361) (by decide) (State.portFx_same ..)
    | apply Same.step (m := 45883509) (by decide) (State.powFx_same ..)
    | apply Same.step (m := 66846709) (by decide) (State.powerFx_same ..)
    | apply Same.step (m := 1) (by decide) (State.rstCmd_same ..)
    | apply Same.step (m := 50319205) (by decide) (State.schedFx_same ..)
    | apply Same.step (m := 67076081) (by decide) (State.soFx_same ..)
    | apply Same.step (m := 67076093) (by decide) (State.stepScan_same ..)
    | apply Same.step (m := 50130725) (by decide) (State.timeFx_same ..)
    | apply Same.step (m := 62914557) (by decide) (State.usbFx_same ..)
    | apply Same.step (m := 46661621) (by decide) (State.vaultFx_same ..)
    | apply Same.ite
    | apply Same.ite1
    | apply Same.ite2
    | extract_lets
    | split
    | dsimp -zeta only
    | dsimp +zetaDelta only

end Sys2Proof.Machine
end

