-- ==== Sys2Proof/Laws/FrameEngineCmd.lean ====
section
/-! SUPPORT. What each operation of Machine/EngineCmd.lean may change: every other part of State stays as it is. -/

set_option linter.all false

namespace Sys2Proof.Machine

theorem State.instr_same {K : Nat} (hK : Nat.land K 16269669 = K) (s : State) (e : Nat) (f : State → EngCore → State) (hf : ∀ s c0, Same K s (f s c0)) :
    Same K s (State.instr s e f) := by
  unfold State.instr
  repeat' with_reducible first
    | exact Same.refl _
    | apply hf
    | apply Same.trans _ (hf _ _)
    | apply Same.step (m := 67108861) (sub_trans hK (by decide)) (set_same ..)
    | apply Same.step (m := 16269669) (sub_trans hK (by decide)) (engTrap_same ..)
    | apply Same.ite
    | apply Same.ite1
    | apply Same.ite2
    | extract_lets
    | split
    | dsimp -zeta only
    | dsimp +zetaDelta only

theorem State.alu_same (s : State) (e : Nat) (gd : Fin 16) (cycles : Nat) (f : EngCore → Nat) :
    Same 16269669 s (State.alu s e gd cycles f) := by
  unfold State.alu
  repeat' with_reducible first
    | exact Same.refl _
    | apply Same.trans _ (State.instr_same (K := 16269669) (by decide) _ _ _ (fun _ _ => ?_))
    | apply Same.step (m := 66977791) (by decide) (setCore_same ..)
    | apply Same.ite
    | apply Same.ite1
    | apply Same.ite2
    | extract_lets
    | split
    | dsimp -zeta only
    | dsimp +zetaDelta only

theorem State.aluI_same (s : State) (e : Nat) (gd : Fin 16) (ga : Fin 16) (f : Nat → Nat) :
    Same 16269669 s (State.aluI s e gd ga f) := by
  unfold State.aluI
  repeat' with_reducible first
    | exact Same.refl _
    | apply Same.step (m := 16269669) (by decide) (alu_same ..)
    | apply Same.ite
    | apply Same.ite1
    | apply Same.ite2
    | extract_lets
    | split
    | dsimp -zeta only
    | dsimp +zetaDelta only

theorem State.aluR_same (s : State) (e : Nat) (gd : Fin 16) (ga : Fin 16) (gb : Fin 16) (f : Nat → Nat → Nat) (cycles : Nat) :
    Same 16269669 s (State.aluR s e gd ga gb f cycles) := by
  unfold State.aluR
  repeat' with_reducible first
    | exact Same.refl _
    | apply Same.step (m := 16269669) (by decide) (alu_same ..)
    | apply Same.ite
    | apply Same.ite1
    | apply Same.ite2
    | extract_lets
    | split
    | dsimp -zeta only
    | dsimp +zetaDelta only

theorem State.branch_same (s : State) (e : Nat) (ga : Fin 16) (gb : Fin 16) (off : BitVec 18) (t : Nat → Nat → Bool) :
    Same 16269669 s (State.branch s e ga gb off t) := by
  unfold State.branch
  repeat' with_reducible first
    | exact Same.refl _
    | apply Same.trans _ (State.instr_same (K := 16269669) (by decide) _ _ _ (fun _ _ => ?_))
    | apply Same.step (m := 66977791) (by decide) (setCore_same ..)
    | apply Same.ite
    | apply Same.ite1
    | apply Same.ite2
    | extract_lets
    | split
    | dsimp -zeta only
    | dsimp +zetaDelta only

theorem State.csrRead_same (s : State) (e : Nat) (c : EngCore) (n : Nat) :
    Same 50327551 s (State.csrRead s e c n).2.2 := by
  unfold State.csrRead
  repeat' with_reducible first
    | exact Same.refl _
    | apply Same.step (m := 67104767) (by decide) (setMacro_same ..)
    | apply Same.step (m := 50331647) (by decide) (fresh_same ..)
    | apply Same.ite
    | apply Same.ite1
    | apply Same.ite2
    | extract_lets
    | split
    | dsimp -zeta only
    | dsimp +zetaDelta only

theorem State.eccThen_same {K : Nat} (hK : Nat.land K 16269669 = K) (s : State) (e : Nat) (ecc : Ecc) (f : State → State) (hf : ∀ s, Same K s (f s)) :
    Same K s (State.eccThen s e ecc f) := by
  unfold State.eccThen
  repeat' with_reducible first
    | exact Same.refl _
    | apply hf
    | apply Same.trans _ (hf _)
    | apply Same.step (m := 67108861) (sub_trans hK (by decide)) (sat_same ..)
    | apply Same.step (m := 16269669) (sub_trans hK (by decide)) (engTrap_same ..)
    | apply Same.ite
    | apply Same.ite1
    | apply Same.ite2
    | extract_lets
    | split
    | dsimp -zeta only
    | dsimp +zetaDelta only

theorem State.jump_same (s : State) (e : Nat) (gd : Fin 16) (dest : EngCore → Nat) :
    Same 16269669 s (State.jump s e gd dest) := by
  unfold State.jump
  repeat' with_reducible first
    | exact Same.refl _
    | apply Same.trans _ (State.instr_same (K := 16269669) (by decide) _ _ _ (fun _ _ => ?_))
    | apply Same.step (m := 66977791) (by decide) (setCore_same ..)
    | apply Same.ite
    | apply Same.ite1
    | apply Same.ite2
    | extract_lets
    | split
    | dsimp -zeta only
    | dsimp +zetaDelta only

theorem State.loadFails_same (s : State) (h : Nat) (seq : Nat) (e : Nat) (err : Nat) :
    Same 67108853 s (State.loadFails s h seq e err) := by
  unfold State.loadFails
  repeat' with_reducible first
    | exact Same.refl _
    | apply Same.step (m := 67108855) (by decide) (complete_same ..)
    | apply Same.step (m := 67108855) (by decide) (raise_same ..)
    | apply Same.step (m := 67108861) (by decide) (set_same ..)
    | apply Same.ite
    | apply Same.ite1
    | apply Same.ite2
    | extract_lets
    | split
    | dsimp -zeta only
    | dsimp +zetaDelta only

theorem State.loaded_same (s : State) (e : Nat) (gd : Nat) (v : Nat) (cycles : Nat) (c : EngCore) :
    Same 66977791 s (State.loaded s e gd v cycles c) := by
  unfold State.loaded
  repeat' with_reducible first
    | exact Same.refl _
    | apply Same.step (m := 66977791) (by decide) (setCore_same ..)
    | apply Same.ite
    | apply Same.ite1
    | apply Same.ite2
    | extract_lets
    | split
    | dsimp -zeta only
    | dsimp +zetaDelta only

theorem State.stalled_same (s : State) (e : Nat) (c : EngCore) :
    Same 50200575 s (State.stalled s e c) := by
  unfold State.stalled
  repeat' with_reducible first
    | exact Same.refl _
    | apply Same.step (m := 50331647) (by decide) (fresh_same ..)
    | apply Same.step (m := 66977791) (by decide) (setCore_same ..)
    | apply Same.ite
    | apply Same.ite1
    | apply Same.ite2
    | extract_lets
    | split
    | dsimp -zeta only
    | dsimp +zetaDelta only

end Sys2Proof.Machine
end

