-- ==== Sys2Proof/Laws/FrameMgmt.lean ====
section
/-! SUPPORT. What each operation of Machine/Mgmt.lean may change: every other part of State stays as it is. -/

set_option linter.all false

namespace Sys2Proof.Machine

theorem State.addShadow_same (s : State) (i : Nat) (p : Path) (addr : Nat) (v : Nat) :
    Same 67108837 s (State.addShadow s i p addr v) := by
  unfold State.addShadow
  repeat' with_reducible first
    | exact Same.refl _
    | apply Same.step (m := 67108847) (by decide) (setSlot_same ..)
    | apply Same.step (m := 67108853) (by decide) (refuse_same ..)
    | apply Same.step (m := 67108861) (by decide) (set_same ..)
    | apply Same.ite
    | apply Same.ite1
    | apply Same.ite2
    | extract_lets
    | split
    | dsimp -zeta only
    | dsimp +zetaDelta only

theorem State.applyDirect_same (s : State) (p : Nat) (addr : Nat) (v : Nat) :
    Same 1 s (State.applyDirect s p addr v) := by
  unfold State.applyDirect
  repeat' with_reducible first
    | exact Same.refl _
    | apply Same.step (m := 67108861) (by decide) (State.bumpIf_same ..)
    | apply Same.step (m := 1) (by decide) (State.effect_same ..)
    | apply Same.step (m := 66846709) (by decide) (State.headerFx_same ..)
    | apply Same.step (m := 67108857) (by decide) (State.storeAt_same ..)
    | apply Same.ite
    | apply Same.ite1
    | apply Same.ite2
    | extract_lets
    | split
    | dsimp -zeta only
    | dsimp +zetaDelta only

theorem State.applyEntry_same (s : State) (p : Nat) (e : Shadow) :
    Same 1 s (State.applyEntry s p e) := by
  unfold State.applyEntry
  repeat' with_reducible first
    | exact Same.refl _
    | apply Same.step (m := 67108857) (by decide) (storeReg_same ..)
    | apply Same.step (m := 66846709) (by decide) (headerFx_same ..)
    | apply Same.step (m := 1) (by decide) (effect_same ..)
    | apply Same.step (m := 66846645) (by decide) (imaged_same ..)
    | apply Same.ite
    | apply Same.ite1
    | apply Same.ite2
    | extract_lets
    | split
    | dsimp -zeta only
    | dsimp +zetaDelta only

theorem State.armSlot_same (s : State) (i : Nat) (p : Nat) (v : Nat) :
    Same 67108837 s (State.armSlot s i p v) := by
  unfold State.armSlot
  repeat' with_reducible first
    | exact Same.refl _
    | apply Same.step (m := 67108845) (by decide) (State.dropSlot_same ..)
    | apply Same.step (m := 67108847) (by decide) (State.markMet_same ..)
    | apply Same.step (m := 67108853) (by decide) (State.policyCount_same ..)
    | apply Same.step (m := 67108847) (by decide) (State.setSlot_same ..)
    | apply Same.step (m := 67108861) (by decide) (State.wheelAdd_same ..)
    | apply Same.ite
    | apply Same.ite1
    | apply Same.ite2
    | extract_lets
    | split
    | dsimp -zeta only
    | dsimp +zetaDelta only

theorem State.commit_same (s : State) (i : Nat) (late : Bool) :
    Same 1 s (State.commit s i late) := by
  unfold State.commit
  repeat' with_reducible first
    | exact Same.refl _
    | apply Same.step (m := 1) (by decide) (applyEntry_same ..)
    | apply Same.step (m := 67108861) (by decide) (bump_same ..)
    | apply Same.step (m := 67108861) (by decide) (set64_same ..)
    | apply Same.step (m := 67108861) (by decide) (wrap_same ..)
    | apply Same.step (m := 67108845) (by decide) (freeSlot_same ..)
    | apply Same.step (m := 67108855) (by decide) (raiseIf_same ..)
    | apply Same.step (m := 67108855) (by decide) (raise_same ..)
    | apply Same.step (m := 67108861) (by decide) (wheelSub_same ..)
    | apply Same.trans _ (foldl_same _ _ _ (fun _ _ => ?_))
    | apply Same.trans _ (foldl_same1 _ _ _ (fun _ _ => ?_))
    | apply Same.ite
    | apply Same.ite1
    | apply Same.ite2
    | extract_lets
    | split
    | dsimp -zeta only
    | dsimp +zetaDelta only

theorem State.settle_same (x0 : Nat) (x1 : State) :
    Same 1 x1 (State.settle x0 x1) := by
  induction x0 generalizing x1 with
  | zero => exact Same.refl _
  | succ n ih =>
    unfold State.settle
    repeat' with_reducible first
      | exact Same.refl _
      | apply Same.step (m := 67107821) (by decide) (drainBegin_same ..)
      | apply Same.step (m := 1) (by decide) (commit_same ..)
      | apply Same.trans _ (ih _)
      | apply Same.ite
      | apply Same.ite1
      | apply Same.ite2
      | extract_lets
      | split
      | dsimp -zeta only
      | dsimp +zetaDelta only

theorem State.settled_same (s : State) :
    Same 1 s (State.settled s) := by
  unfold State.settled
  repeat' with_reducible first
    | exact Same.refl _
    | apply Same.step (m := 1) (by decide) (settle_same ..)
    | apply Same.ite
    | apply Same.ite1
    | apply Same.ite2
    | extract_lets
    | split
    | dsimp -zeta only
    | dsimp +zetaDelta only

theorem State.instantMet_same (s : State) (i : Nat) :
    Same 1 s (State.instantMet s i) := by
  unfold State.instantMet
  repeat' with_reducible first
    | exact Same.refl _
    | apply Same.step (m := 67108847) (by decide) (State.markMet_same ..)
    | apply Same.step (m := 1) (by decide) (State.settled_same ..)
    | apply Same.trans _ (foldl_same _ _ _ (fun _ _ => ?_))
    | apply Same.trans _ (foldl_same1 _ _ _ (fun _ _ => ?_))
    | apply Same.ite
    | apply Same.ite1
    | apply Same.ite2
    | extract_lets
    | split
    | dsimp -zeta only
    | dsimp +zetaDelta only

theorem State.drainEnd_same (s : State) :
    Same 1 s (State.drainEnd s) := by
  unfold State.drainEnd
  repeat' with_reducible first
    | exact Same.refl _
    | apply Same.step (m := 1) (by decide) (commit_same ..)
    | apply Same.step (m := 67107829) (by decide) (drainRecord_same ..)
    | apply Same.step (m := 1) (by decide) (settled_same ..)
    | apply Same.step (m := 50291061) (by decide) (releaseHeld_same ..)
    | apply Same.step (m := 67108855) (by decide) (raise_same ..)
    | apply Same.trans _ (foldl_same _ _ _ (fun _ _ => ?_))
    | apply Same.trans _ (foldl_same1 _ _ _ (fun _ _ => ?_))
    | apply Same.ite
    | apply Same.ite1
    | apply Same.ite2
    | extract_lets
    | split
    | dsimp -zeta only
    | dsimp +zetaDelta only

theorem State.txnOpen_same (s : State) (p : Nat) :
    Same 67108847 s (State.txnOpen s p).2 := by
  unfold State.txnOpen
  repeat' with_reducible first
    | exact Same.refl _
    | apply Same.step (m := 67108847) (by decide) (setSlot_same ..)
    | apply Same.ite
    | apply Same.ite1
    | apply Same.ite2
    | extract_lets
    | split
    | dsimp -zeta only
    | dsimp +zetaDelta only

theorem State.sensed_same (s : State) (c : Nat) (addr : Nat) :
    Same 50327549 s (State.sensed s c addr) := by
  unfold State.sensed
  repeat' with_reducible first
    | exact Same.refl _
    | apply Same.step (m := 50327549) (by decide) (State.laneSensed_same ..)
    | apply Same.ite
    | apply Same.ite1
    | apply Same.ite2
    | extract_lets
    | split
    | dsimp -zeta only
    | dsimp +zetaDelta only

theorem State.read_same (s0 : State) (p : Path) (addr : Nat) :
    Same 50327493 s0 (State.read s0 p addr).2 := by
  unfold State.read
  repeat' with_reducible first
    | exact Same.refl _
    | apply Same.step (m := 67108855) (by decide) (State.claim_same ..)
    | apply Same.step (m := 50331647) (by decide) (State.fresh_same ..)
    | apply Same.step (m := 50331645) (by decide) (State.mwRead_same ..)
    | apply Same.step (m := 50327549) (by decide) (State.sensed_same ..)
    | apply Same.step (m := 67108847) (by decide) (State.txnOpen_same ..)
    | apply Same.trans _ (foldl_same _ _ _ (fun _ _ => ?_))
    | apply Same.trans _ (foldl_same1 _ _ _ (fun _ _ => ?_))
    | apply Same.ite
    | apply Same.ite1
    | apply Same.ite2
    | extract_lets
    | split
    | dsimp -zeta only
    | dsimp +zetaDelta only
    | apply Same.with_sig (by decide)
    | apply Same.with_latch (by decide)

theorem State.readWord_same (s : State) (p : Path) (addr : Nat) :
    Same 50327493 s (State.readWord s p addr) := by
  unfold State.readWord
  repeat' with_reducible first
    | exact Same.refl _
    | apply Same.step (m := 67108855) (by decide) (State.emit_same ..)
    | apply Same.step (m := 50327493) (by decide) (State.read_same ..)
    | apply Same.ite
    | apply Same.ite1
    | apply Same.ite2
    | extract_lets
    | split
    | dsimp -zeta only
    | dsimp +zetaDelta only

theorem State.readWide_same (s : State) (p : Path) (addr : Nat) (words : Nat) :
    Same 50327493 s (State.readWide s p addr words) := by
  unfold State.readWide
  repeat' with_reducible first
    | exact Same.refl _
    | apply Same.step (m := 50327493) (by decide) (State.readWord_same ..)
    | apply Same.trans _ (foldl_same _ _ _ (fun _ _ => ?_))
    | apply Same.trans _ (foldl_same1 _ _ _ (fun _ _ => ?_))
    | apply Same.ite
    | apply Same.ite1
    | apply Same.ite2
    | extract_lets
    | split
    | dsimp -zeta only
    | dsimp +zetaDelta only

theorem State.readOut_same (s : State) (p : Path) (addr : Nat) :
    Same 50327493 s (State.readOut s p addr) := by
  unfold State.readOut
  repeat' with_reducible first
    | exact Same.refl _
    | apply Same.step (m := 50327493) (by decide) (State.readWide_same ..)
    | apply Same.ite
    | apply Same.ite1
    | apply Same.ite2
    | extract_lets
    | split
    | dsimp -zeta only
    | dsimp +zetaDelta only

theorem State.writeBy_same {K : Nat} (hK : Nat.land K 66846641 = K) (s : State) (p : Nat) (addr : Nat) (v : Nat) (eff : State → State) (hf : ∀ s, Same K s (eff s)) :
    Same K s (State.writeBy s p addr v eff) := by
  unfold State.writeBy
  split
  · exact hf _
  · exact Same.weaken hK (State.imageAt_same ..)
  · exact Same.refl _

theorem State.writeVia_same {K : Nat} (hK : Nat.land K 66846625 = K) (s : State) (p : Path) (addr : Nat) (v : Nat) (be : Nat) (eff : State → State) (hf : ∀ s, Same K s (eff s)) :
    Same K s (State.writeVia s p addr v be eff) := by
  unfold State.writeVia
  repeat' with_reducible first
    | exact Same.refl _
    | apply Same.trans _ (State.writeBy_same (sub_trans hK (by decide)) _ _ _ _ _ hf)
    | apply hf
    | apply Same.trans _ (hf _)
    | apply Same.step (m := 67108855) (sub_trans hK (by decide)) (raiseIf_same ..)
    | apply Same.step (m := 67108853) (sub_trans hK (by decide)) (refuse_same ..)
    | apply Same.step (m := 67108837) (sub_trans hK (by decide)) (addShadow_same ..)
    | apply Same.step (m := 66846641) (sub_trans hK (by decide)) (imageAt_same ..)
    | apply Same.step (m := 67108855) (sub_trans hK (by decide)) (raise_same ..)
    | apply Same.step (m := 67108845) (sub_trans hK (by decide)) (dropSlot_same ..)
    | apply Same.ite
    | apply Same.ite1
    | apply Same.ite2
    | extract_lets
    | split
    | dsimp -zeta only
    | dsimp +zetaDelta only

theorem State.txnCommit_same (s : State) (p : Path) (v : Nat) :
    Same 1 s (State.txnCommit s p v) := by
  unfold State.txnCommit
  repeat' with_reducible first
    | exact Same.refl _
    | apply Same.step (m := 67108853) (by decide) (stale_same ..)
    | apply Same.step (m := 67108853) (by decide) (refuse_same ..)
    | apply Same.step (m := 67108845) (by decide) (dropSlot_same ..)
    | apply Same.step (m := 1) (by decide) (settled_same ..)
    | apply Same.step (m := 67108837) (by decide) (armSlot_same ..)
    | apply Same.ite
    | apply Same.ite1
    | apply Same.ite2
    | extract_lets
    | split
    | dsimp -zeta only
    | dsimp +zetaDelta only

theorem State.txnAbort_same (s : State) (p : Path) (v : Nat) :
    Same 67108837 s (State.txnAbort s p v) := by
  unfold State.txnAbort
  repeat' with_reducible first
    | exact Same.refl _
    | apply Same.step (m := 67108853) (by decide) (stale_same ..)
    | apply Same.step (m := 67108853) (by decide) (refuse_same ..)
    | apply Same.step (m := 67108845) (by decide) (dropSlot_same ..)
    | apply Same.ite
    | apply Same.ite1
    | apply Same.ite2
    | extract_lets
    | split
    | dsimp -zeta only
    | dsimp +zetaDelta only

theorem State.writeWord_same (s : State) (p : Path) (addr : Nat) (v : Nat) (be : Nat) :
    Same 1 s (State.writeWord s p addr v be) := by
  unfold State.writeWord
  repeat' with_reducible first
    | exact Same.refl _
    | apply Same.step (m := 1) (by decide) (State.applyDirect_same ..)
    | apply Same.step (m := 1) (by decide) (State.settled_same ..)
    | apply Same.step (m := 67108837) (by decide) (State.txnAbort_same ..)
    | apply Same.step (m := 1) (by decide) (State.txnCommit_same ..)
    | apply Same.trans _ (State.writeVia_same (K := 1) (by decide) _ _ _ _ _ _ (fun _ => ?_))
    | apply Same.ite
    | apply Same.ite1
    | apply Same.ite2
    | extract_lets
    | split
    | dsimp -zeta only
    | dsimp +zetaDelta only

theorem State.write_same (s : State) (p : Path) (addr : Nat) (v : Nat) (be : Nat) :
    Same 1 s (State.write s p addr v be) := by
  unfold State.write
  repeat' with_reducible first
    | exact Same.refl _
    | apply Same.trans _ (State.writeVia_same (K := 1) (by decide) _ _ _ _ _ _ (fun s => Same.refl s))
    | apply Same.step (m := 66846625) (by decide) (State.writeVia_same ..)
    | apply Same.step (m := 1) (by decide) (State.writeWord_same ..)
    | apply Same.ite
    | apply Same.ite1
    | apply Same.ite2
    | extract_lets
    | split
    | dsimp -zeta only
    | dsimp +zetaDelta only

theorem State.writeWide_same (s : State) (p : Path) (addr : Nat) (words : List Word) (ens : List (BitVec 4)) :
    Same 1 s (State.writeWide s p addr words ens) := by
  unfold State.writeWide
  repeat' with_reducible first
    | exact Same.refl _
    | apply Same.step (m := 1) (by decide) (State.write_same ..)
    | apply Same.step (m := 1) (by decide) (State.writeWord_same ..)
    | apply Same.trans _ (foldl_same _ _ _ (fun _ _ => ?_))
    | apply Same.trans _ (foldl_same1 _ _ _ (fun _ _ => ?_))
    | apply Same.ite
    | apply Same.ite1
    | apply Same.ite2
    | extract_lets
    | split
    | dsimp -zeta only
    | dsimp +zetaDelta only

end Sys2Proof.Machine
end

