-- ==== Sys2Proof/Laws/FramePdCmd.lean ====
section
/-! SUPPORT. What each operation of Machine/PdCmd.lean may change: every other part of State stays as it is. -/

set_option linter.all false

namespace Sys2Proof.Machine

theorem State.pdDo_same {K : Nat} (hK : Nat.land K 67108861 = K) (s : State) (n : Nat) (f : State → State) (hf : ∀ s, Same K s (f s)) :
    Same K s (State.pdDo s n f) := by
  unfold State.pdDo
  repeat' with_reducible first
    | exact Same.refl _
    | apply hf
    | apply Same.trans _ (hf _)
    | apply Same.step (m := 67108861) (sub_trans hK (by decide)) (pdShow_same ..)
    | apply Same.ite
    | apply Same.ite1
    | apply Same.ite2
    | extract_lets
    | split
    | dsimp -zeta only
    | dsimp +zetaDelta only

theorem State.eprEnter_same (s : State) (n : Nat) :
    Same 67092469 s (State.eprEnter s n) := by
  unfold State.eprEnter
  repeat' with_reducible first
    | exact Same.refl _
    | apply Same.step (m := 67092471) (by decide) (State.pdSend_same ..)
    | apply Same.step (m := 67108855) (by decide) (State.raise_same ..)
    | apply Same.step (m := 67092471) (by decide) (State.sendCaps_same ..)
    | apply Same.step (m := 67108861) (by decide) (State.set_same ..)
    | apply Same.step (m := 67092479) (by decide) (State.vdmAbort_same ..)
    | apply Same.ite
    | apply Same.ite1
    | apply Same.ite2
    | extract_lets
    | split
    | dsimp -zeta only
    | dsimp +zetaDelta only

theorem State.vdmAt_same {K : Nat} (hK : Nat.land K 67092477 = K) (s : State) (n : Nat) (stage : Nat) (f : State → State) (hf : ∀ s, Same K s (f s)) :
    Same K s (State.vdmAt s n stage f) := by
  unfold State.vdmAt
  repeat' with_reducible first
    | exact Same.refl _
    | apply hf
    | apply Same.trans _ (hf _)
    | apply Same.trans _ (State.pdDo_same (K := K) (sub_trans hK (by decide)) _ _ _ (fun _ => ?_))
    | apply Same.step (m := 67092479) (sub_trans hK (by decide)) (mapPd_same ..)
    | apply Same.ite
    | apply Same.ite1
    | apply Same.ite2
    | extract_lets
    | split
    | dsimp -zeta only
    | dsimp +zetaDelta only

end Sys2Proof.Machine
end

