-- ==== Sys2Proof/Laws/FrameScanCmd.lean ====
section
/-! SUPPORT. What each operation of Machine/ScanCmd.lean may change: every other part of State stays as it is. -/

set_option linter.all false

namespace Sys2Proof.Machine

theorem State.atFrame_same (s : State) (n : Nat) :
    Same 67108847 s (State.atFrame s n) := by
  unfold State.atFrame
  repeat' with_reducible first
    | exact Same.refl _
    | apply Same.step (m := 67108847) (by decide) (markMet_same ..)
    | apply Same.trans _ (foldl_same _ _ _ (fun _ _ => ?_))
    | apply Same.trans _ (foldl_same1 _ _ _ (fun _ _ => ?_))
    | apply Same.ite
    | apply Same.ite1
    | apply Same.ite2
    | extract_lets
    | split
    | dsimp -zeta only
    | dsimp +zetaDelta only

end Sys2Proof.Machine
end

