-- ==== Sys2Proof/Laws/FrameSchedCmd.lean ====
section
/-! SUPPORT. What each operation of Machine/SchedCmd.lean may change: every other part of State stays as it is. -/

set_option linter.all false

namespace Sys2Proof.Machine

theorem State.coreGoes_same (s : State) (m : CoreMsg) :
    Same 49868661 s (State.coreGoes s m) := by
  unfold State.coreGoes
  repeat' with_reducible first
    | exact Same.refl _
    | apply Same.step (m := 67108855) (by decide) (State.emit_same ..)
    | apply Same.step (m := 67104637) (by decide) (State.fwdGo_same ..)
    | apply Same.step (m := 49868661) (by decide) (State.sigDrain_same ..)
    | apply Same.ite
    | apply Same.ite1
    | apply Same.ite2
    | extract_lets
    | split
    | dsimp -zeta only
    | dsimp +zetaDelta only

theorem State.coreArrived_same (s : State) (c : Cell) :
    Same 49868661 s (State.coreArrived s c) := by
  unfold State.coreArrived
  repeat' with_reducible first
    | exact Same.refl _
    | apply Same.step (m := 49868661) (by decide) (State.coreGoes_same ..)
    | apply Same.step (m := 67108735) (by decide) (State.setMsgs_same ..)
    | apply Same.ite
    | apply Same.ite1
    | apply Same.ite2
    | extract_lets
    | split
    | dsimp -zeta only
    | dsimp +zetaDelta only

theorem State.acked_same (s : State) (c : Cell) :
    Same 67043189 s (State.acked s c) := by
  unfold State.acked
  repeat' with_reducible first
    | exact Same.refl _
    | apply Same.step (m := 67108861) (by decide) (wrap_same ..)
    | apply Same.step (m := 67043189) (by decide) (free_same ..)
    | apply Same.ite
    | apply Same.ite1
    | apply Same.ite2
    | extract_lets
    | split
    | dsimp -zeta only
    | dsimp +zetaDelta only

theorem State.setCopy_same (s : State) (spare : Nat) (bank : Nat) (cells : List Nat) :
    Same 67108735 s (State.setCopy s spare bank cells) := by
  unfold State.setCopy
  repeat' with_reducible first
    | exact Same.refl _
    | apply Same.ite
    | apply Same.ite1
    | apply Same.ite2
    | extract_lets
    | split
    | dsimp -zeta only
    | dsimp +zetaDelta only
    | apply Same.with_sw (by decide)

theorem State.endCopy_same (s : State) (spare : Nat) :
    Same 67108735 s (State.endCopy s spare) := by
  unfold State.endCopy
  repeat' with_reducible first
    | exact Same.refl _
    | apply Same.ite
    | apply Same.ite1
    | apply Same.ite2
    | extract_lets
    | split
    | dsimp -zeta only
    | dsimp +zetaDelta only
    | apply Same.with_sw (by decide)

theorem State.shrink_same (s : State) :
    Same 67108725 s (State.shrink s) := by
  unfold State.shrink
  repeat' with_reducible first
    | exact Same.refl _
    | apply Same.step (m := 67108855) (by decide) (State.raise_same ..)
    | apply Same.step (m := 67108861) (by decide) (State.sub_same ..)
    | apply Same.ite
    | apply Same.ite1
    | apply Same.ite2
    | extract_lets
    | split
    | dsimp -zeta only
    | dsimp +zetaDelta only
    | apply Same.with_sw (by decide)

theorem State.spoil_same (s : State) (c : Cell) :
    Same 67043189 s (State.spoil s c) := by
  unfold State.spoil
  repeat' with_reducible first
    | exact Same.refl _
    | apply Same.step (m := 67043189) (by decide) (State.free_same ..)
    | apply Same.step (m := 67108735) (by decide) (State.setCells_same ..)
    | apply Same.ite
    | apply Same.ite1
    | apply Same.ite2
    | extract_lets
    | split
    | dsimp -zeta only
    | dsimp +zetaDelta only

theorem State.loseCell_same (s : State) (id : Nat) :
    Same 50261877 s (State.loseCell s id) := by
  unfold State.loseCell
  repeat' with_reducible first
    | exact Same.refl _
    | apply Same.step (m := 50261877) (by decide) (State.dropCell_same ..)
    | apply Same.step (m := 67104759) (by decide) (State.endCell_same ..)
    | apply Same.step (m := 67108855) (by decide) (State.raise_same ..)
    | apply Same.step (m := 67108861) (by decide) (State.sat_same ..)
    | apply Same.step (m := 67043189) (by decide) (State.spoil_same ..)
    | apply Same.ite
    | apply Same.ite1
    | apply Same.ite2
    | extract_lets
    | split
    | dsimp -zeta only
    | dsimp +zetaDelta only

theorem State.atOutput_same (s : State) (c : Cell) (crcOk : Bool) :
    Same 16269685 s (State.atOutput s c crcOk) := by
  unfold State.atOutput
  repeat' with_reducible first
    | exact Same.refl _
    | apply Same.step (m := 49868661) (by decide) (State.coreArrived_same ..)
    | apply Same.step (m := 67100533) (by decide) (State.crcFailure_same ..)
    | apply Same.step (m := 67108855) (by decide) (State.emit_same ..)
    | apply Same.step (m := 67104759) (by decide) (State.endCell_same ..)
    | apply Same.step (m := 67108735) (by decide) (State.mapCell_same ..)
    | apply Same.step (m := 67108735) (by decide) (State.outUsed_same ..)
    | apply Same.step (m := 67108735) (by decide) (State.setStream_same ..)
    | apply Same.step (m := 16277877) (by decide) (State.sigArrived_same ..)
    | apply Same.step (m := 66908149) (by decide) (State.toDock_same ..)
    | apply Same.ite
    | apply Same.ite1
    | apply Same.ite2
    | extract_lets
    | split
    | dsimp -zeta only
    | dsimp +zetaDelta only

theorem State.coarseCell_same (s : State) (rev : Bool) (c : Cell) :
    Same 50130805 s (State.coarseCell s rev c) := by
  unfold State.coarseCell
  repeat' with_reducible first
    | exact Same.refl _
    | apply Same.step (m := 50130805) (by decide) (placeHeld_same ..)
    | apply Same.step (m := 67108735) (by decide) (mapCell_same ..)
    | apply Same.ite
    | apply Same.ite1
    | apply Same.ite2
    | extract_lets
    | split
    | dsimp -zeta only
    | dsimp +zetaDelta only

theorem State.expire_same (s : State) (c : Cell) :
    Same 49868661 s (State.expire s c) := by
  unfold State.expire
  repeat' with_reducible first
    | exact Same.refl _
    | apply Same.step (m := 67108855) (by decide) (State.emit_same ..)
    | apply Same.step (m := 50261877) (by decide) (State.freeHeld_same ..)
    | apply Same.step (m := 67108855) (by decide) (State.raise_same ..)
    | apply Same.step (m := 67108861) (by decide) (State.sat_same ..)
    | apply Same.step (m := 49868661) (by decide) (State.sigDrain_same ..)
    | apply Same.step (m := 66912245) (by decide) (State.sigReturn_same ..)
    | apply Same.ite
    | apply Same.ite1
    | apply Same.ite2
    | extract_lets
    | split
    | dsimp -zeta only
    | dsimp +zetaDelta only

theorem State.retireBank_same (s : State) (b : Nat) (f : BankFault) (bad : List Nat) (lost : List Nat) :
    Same 50253685 s (State.retireBank s b f bad lost) := by
  unfold State.retireBank
  repeat' with_reducible first
    | exact Same.refl _
    | apply Same.step (m := 67108735) (by decide) (State.endCopy_same ..)
    | apply Same.step (m := 50261877) (by decide) (State.loseCell_same ..)
    | apply Same.step (m := 67108855) (by decide) (State.raise_same ..)
    | apply Same.step (m := 67100533) (by decide) (State.replayJudged_same ..)
    | apply Same.step (m := 67108861) (by decide) (State.setBank_same ..)
    | apply Same.step (m := 67108735) (by decide) (State.setCopy_same ..)
    | apply Same.step (m := 67108861) (by decide) (State.sets_same ..)
    | apply Same.step (m := 67108725) (by decide) (State.shrink_same ..)
    | apply Same.step (m := 67100661) (by decide) (State.softRecord_same ..)
    | apply Same.trans _ (foldl_same _ _ _ (fun _ _ => ?_))
    | apply Same.trans _ (foldl_same1 _ _ _ (fun _ _ => ?_))
    | apply Same.ite
    | apply Same.ite1
    | apply Same.ite2
    | extract_lets
    | split
    | dsimp -zeta only
    | dsimp +zetaDelta only

end Sys2Proof.Machine
end

