-- ==== Sys2Proof/Laws/FrameStep.lean ====
section
/-! SUPPORT. What each operation of Machine/Step.lean may change: every other part of State stays as it is. -/

set_option linter.all false

namespace Sys2Proof.Machine

theorem State.withFetchWord_same (s : State) (nbits : Nat) (w : Nat) :
    Same 67108862 s (State.withFetchWord s nbits w) := by
  unfold State.withFetchWord
  repeat' with_reducible first
    | exact Same.refl _
    | apply Same.ite
    | apply Same.ite1
    | apply Same.ite2
    | extract_lets
    | split
    | dsimp -zeta only
    | dsimp +zetaDelta only
    | apply Same.with_pending (by decide)

end Sys2Proof.Machine
end

