-- ==== Sys2Proof/Laws/FrameTimeCmd.lean ====
section
/-! SUPPORT. What each operation of Machine/TimeCmd.lean may change: every other part of State stays as it is. -/

set_option linter.all false

namespace Sys2Proof.Machine

theorem State.ptmHost_same (s : State) (h : Nat) (hostTime : Nat) :
    Same 67108853 s (State.ptmHost s h hostTime) := by
  unfold State.ptmHost
  repeat' with_reducible first
    | exact Same.refl _
    | apply Same.step (m := 67108855) (by decide) (State.emit_same ..)
    | apply Same.step (m := 67108855) (by decide) (State.raise_same ..)
    | apply Same.step (m := 67108861) (by decide) (State.set64_same ..)
    | apply Same.step (m := 67108861) (by decide) (State.setI64_same ..)
    | apply Same.ite
    | apply Same.ite1
    | apply Same.ite2
    | extract_lets
    | split
    | dsimp -zeta only
    | dsimp +zetaDelta only

theorem State.showLevels_same (s : State) (a : Nat) :
    Same 67108861 s (State.showLevels s a) := by
  unfold State.showLevels
  repeat' with_reducible first
    | exact Same.refl _
    | apply Same.step (m := 67108861) (by decide) (State.set_same ..)
    | apply Same.ite
    | apply Same.ite1
    | apply Same.ite2
    | extract_lets
    | split
    | dsimp -zeta only
    | dsimp +zetaDelta only

theorem State.capEdge_same (s : State) (n : Nat) (level : Bool) :
    Same 67108789 s (State.capEdge s n level) := by
  unfold State.capEdge
  repeat' with_reducible first
    | exact Same.refl _
    | apply Same.step (m := 67108855) (by decide) (State.raise_same ..)
    | apply Same.step (m := 67108861) (by decide) (State.sat_same ..)
    | apply Same.step (m := 67108797) (by decide) (State.setCap_same ..)
    | apply Same.ite
    | apply Same.ite1
    | apply Same.ite2
    | extract_lets
    | split
    | dsimp -zeta only
    | dsimp +zetaDelta only

theorem State.setLevels_same (s : State) (a : Nat) (la : Bool) (lb : Bool) :
    Same 67108797 s (State.setLevels s a la lb) := by
  unfold State.setLevels
  repeat' with_reducible first
    | exact Same.refl _
    | apply Same.step (m := 67108799) (by decide) (State.setAxis_same ..)
    | apply Same.step (m := 67108861) (by decide) (State.showLevels_same ..)
    | apply Same.ite
    | apply Same.ite1
    | apply Same.ite2
    | extract_lets
    | split
    | dsimp -zeta only
    | dsimp +zetaDelta only

theorem State.quadrature_same (s : State) (a : Nat) (la : Bool) (lb : Bool) :
    Same 50130725 s (State.quadrature s a la lb) := by
  unfold State.quadrature
  repeat' with_reducible first
    | exact Same.refl _
    | apply Same.step (m := 67108797) (by decide) (setLevels_same ..)
    | apply Same.step (m := 50130725) (by decide) (setUncertain_same ..)
    | apply Same.step (m := 67108861) (by decide) (sat_same ..)
    | apply Same.step (m := 50130725) (by decide) (counted_same ..)
    | apply Same.ite
    | apply Same.ite1
    | apply Same.ite2
    | extract_lets
    | split
    | dsimp -zeta only
    | dsimp +zetaDelta only

theorem State.syncEdge_same (s : State) (m : Nat) (level : Bool) :
    Same 67108789 s (State.syncEdge s m level) := by
  unfold State.syncEdge
  repeat' with_reducible first
    | exact Same.refl _
    | apply Same.step (m := 67108855) (by decide) (State.raise_same ..)
    | apply Same.step (m := 67108789) (by decide) (State.servo_same ..)
    | apply Same.step (m := 67108861) (by decide) (State.set_same ..)
    | apply Same.step (m := 67108861) (by decide) (State.set64_same ..)
    | apply Same.step (m := 67108799) (by decide) (State.setSync_same ..)
    | apply Same.ite
    | apply Same.ite1
    | apply Same.ite2
    | extract_lets
    | split
    | dsimp -zeta only
    | dsimp +zetaDelta only

theorem State.writeTctrl_same (s : State) (p : Path) (n : Nat) (v : Nat) :
    Same 66846625 s (State.writeTctrl s p n v) := by
  unfold State.writeTctrl
  repeat' with_reducible first
    | exact Same.refl _
    | apply Same.trans _ (State.writeVia_same (K := 66846625) (by decide) _ _ _ _ _ _ (fun _ => ?_))
    | apply Same.step (m := 67108857) (by decide) (State.storeAt_same ..)
    | apply Same.step (m := 67108789) (by decide) (State.trigCtl_same ..)
    | apply Same.step (m := 66846625) (by decide) (State.writeVia_same ..)
    | apply Same.ite
    | apply Same.ite1
    | apply Same.ite2
    | extract_lets
    | split
    | dsimp -zeta only
    | dsimp +zetaDelta only

theorem State.zPulse_same (s : State) (a : Nat) :
    Same 50130725 s (State.zPulse s a) := by
  unfold State.zPulse
  repeat' with_reducible first
    | exact Same.refl _
    | apply Same.step (m := 67108855) (by decide) (raise_same ..)
    | apply Same.step (m := 67108861) (by decide) (set_same ..)
    | apply Same.step (m := 67108861) (by decide) (set64_same ..)
    | apply Same.step (m := 67108799) (by decide) (setAxis_same ..)
    | apply Same.step (m := 50130725) (by decide) (clearFlags_same ..)
    | apply Same.step (m := 50327333) (by decide) (loadCount_same ..)
    | apply Same.ite
    | apply Same.ite1
    | apply Same.ite2
    | extract_lets
    | split
    | dsimp -zeta only
    | dsimp +zetaDelta only

end Sys2Proof.Machine
end

