-- ==== Sys2Proof/Laws/FrameUsbCmd.lean ====
section
/-! SUPPORT. What each operation of Machine/UsbCmd.lean may change: every other part of State stays as it is. -/

set_option linter.all false

namespace Sys2Proof.Machine

theorem State.ep2Run_same {K : Nat} (hK : Nat.land K 62914559 = K) (s : State) (op : Nat) (f : State → Nat → Nat → List (BitVec 8) → State)
    (hf : ∀ s a b l, Same K s (f s a b l)) : Same K s (State.ep2Run s op f) := by
  unfold State.ep2Run
  have t : Same K s (s.ep2Take 8).1 := (State.ep2Take_same 8 s).weaken (sub_trans hK (by decide))
  split
  · split <;> rename_i h <;> rw [h] at t
    · split
      · exact (t.trans ((State.ep2Drop_same ..).weaken (sub_trans hK (by decide)))).trans (hf ..)
      · exact t
    · exact t
  · exact Same.refl _

theorem State.readRun_same (s : State) (x1 : Nat) (x2 : Nat) :
    Same 50327493 s (State.readRun s x1 x2).2 := by
  induction x2 generalizing s x1 with
  | zero => exact Same.refl _
  | succ n ih =>
    unfold State.readRun
    repeat' with_reducible first
      | exact Same.refl _
      | apply Same.step (m := 50327493) (by decide) (read_same ..)
      | apply Same.trans _ (ih _ _)
      | apply Same.ite
      | apply Same.ite1
      | apply Same.ite2
      | extract_lets
      | split
      | dsimp -zeta only
      | dsimp +zetaDelta only

theorem State.smbus_same {K : Nat} (hK : Nat.land K 67108853 = K) (s : State) (pecOk : Bool) (f : State → State) (hf : ∀ s, Same K s (f s)) :
    Same K s (State.smbus s pecOk f) := by
  unfold State.smbus
  repeat' with_reducible first
    | exact Same.refl _
    | apply hf
    | apply Same.trans _ (hf _)
    | apply Same.step (m := 67108853) (sub_trans hK (by decide)) (wakeBy_same ..)
    | apply Same.ite
    | apply Same.ite1
    | apply Same.ite2
    | extract_lets
    | split
    | dsimp -zeta only
    | dsimp +zetaDelta only

theorem State.svcWrite_same (s : State) (a : Nat) (v : Nat) :
    Same 1 s (State.svcWrite s a v).1 := by
  unfold State.svcWrite
  repeat' with_reducible first
    | exact Same.refl _
    | apply Same.step (m := 1) (by decide) (write_same ..)
    | apply Same.ite
    | apply Same.ite1
    | apply Same.ite2
    | extract_lets
    | split
    | dsimp -zeta only
    | dsimp +zetaDelta only

theorem State.usbStatus_same {K : Nat} (hK : Nat.land K 62914559 = K) (s : State) (q : UsbReq) (act : State → State) (hf : ∀ s, Same K s (act s)) :
    Same K s (State.usbStatus s q act) := by
  unfold State.usbStatus
  repeat' with_reducible first
    | exact Same.refl _
    | apply hf
    | apply Same.trans _ (hf _)
    | apply Same.step (m := 62914559) (sub_trans hK (by decide)) (mapUsb_same ..)
    | apply Same.ite
    | apply Same.ite1
    | apply Same.ite2
    | extract_lets
    | split
    | dsimp -zeta only
    | dsimp +zetaDelta only

theorem State.usbControl_same {K : Nat} (hK : Nat.land K 62914551 = K) (s : State) (d : Nat) (q : UsbReq) (ok : Bool) (done : Bool) (act : State → State) (hf : ∀ s, Same K s (act s)) :
    Same K s (State.usbControl s d q ok done act) := by
  unfold State.usbControl
  repeat' with_reducible first
    | exact Same.refl _
    | apply hf
    | apply Same.trans _ (hf _)
    | apply Same.trans _ (State.usbStatus_same (K := K) (sub_trans hK (by decide)) _ _ _ (fun _ => ?_))
    | apply Same.step (m := 62914559) (sub_trans hK (by decide)) (usbSetup_same ..)
    | apply Same.step (m := 62914551) (sub_trans hK (by decide)) (usbStall_same ..)
    | apply Same.ite
    | apply Same.ite1
    | apply Same.ite2
    | extract_lets
    | split
    | dsimp -zeta only
    | dsimp +zetaDelta only

theorem State.writeRun_same (s : State) (a : Nat) (x2 : List Nat) :
    Same 1 s (State.writeRun s a x2).1 := by
  induction x2 generalizing s a with
  | nil => exact Same.refl _
  | cons a l ih =>
    unfold State.writeRun
    repeat' with_reducible first
      | exact Same.refl _
      | apply Same.step (m := 1) (by decide) (svcWrite_same ..)
      | apply Same.trans _ (ih _ _)
      | apply Same.ite
      | apply Same.ite1
      | apply Same.ite2
      | extract_lets
      | split
      | dsimp -zeta only
      | dsimp +zetaDelta only

end Sys2Proof.Machine
end

