-- ==== Sys2Proof/Laws/FrameVaultCmd.lean ====
section
/-! SUPPORT. What each operation of Machine/VaultCmd.lean may change: every other part of State stays as it is. -/

set_option linter.all false

namespace Sys2Proof.Machine

theorem State.jtagRefuse_same (s : State) (r : Reason) :
    Same 67108853 s (State.jtagRefuse s r) := by
  unfold State.jtagRefuse
  repeat' with_reducible first
    | exact Same.refl _
    | apply Same.step (m := 67108855) (by decide) (raiseIf_same ..)
    | apply Same.step (m := 67108855) (by decide) (raise_same ..)
    | apply Same.step (m := 67108861) (by decide) (sets_same ..)
    | apply Same.step (m := 67108861) (by decide) (sat_same ..)
    | apply Same.ite
    | apply Same.ite1
    | apply Same.ite2
    | extract_lets
    | split
    | dsimp -zeta only
    | dsimp +zetaDelta only

theorem State.spdmReq_same {K : Nat} (hK : Nat.land K 67108855 = K) (s : State) (h : Nat) (code : Nat) (ok : Bool) (f : State → State × Option (List (BitVec 8))) (hf : ∀ s, Same K s (f s).1) :
    Same K s (State.spdmReq s h code ok f) := by
  unfold State.spdmReq
  repeat' with_reducible first
    | exact Same.refl _
    | apply hf
    | apply Same.trans _ (hf _)
    | apply Same.step (m := 67108855) (sub_trans hK (by decide)) (spdmAns_same ..)
    | apply Same.ite
    | apply Same.ite1
    | apply Same.ite2
    | extract_lets
    | split
    | dsimp -zeta only
    | dsimp +zetaDelta only

end Sys2Proof.Machine
end

