-- ==== Sys2Proof/Laws/Mem.lean ====
section
/-! SUPPORT. Every operation keeps the canonical form of the engine memories: the operations that reach them, one lemma each. -/

set_option linter.all false

namespace Sys2Proof.Machine

/-- The engine memories keep their canonical form between two states. -/
structure MemKept (s t : State) : Prop where
  kept : memWf s.mem = true → memWf t.mem = true

theorem MemKept.refl (s : State) : MemKept s s := ⟨fun h => h⟩

theorem MemKept.trans {s t u : State} (a : MemKept s t) (b : MemKept t u) : MemKept s u := ⟨fun h => b.kept (a.kept h)⟩

/-- An operation that leaves the engine memories alone. -/
theorem MemKept.after {m : Nat} {s t u : State} (h : Nat.land m 33554432 = 33554432) (b : Same m t u) (a : MemKept s t) : MemKept s u := by
  have hb : m.testBit 25 = true := bit_of_sub (k := 2 ^ 25) (by
    show 33554432 &&& m = _
    rw [Nat.and_comm]
    exact h) (Nat.testBit_two_pow_self)
  have e : u.mem = t.mem := b.part .mem hb
  refine ⟨fun w => ?_⟩
  rw [e]
  exact a.kept w

theorem MemKept.ite {s t u : State} {c : Prop} [Decidable c] (a : MemKept s t) (b : MemKept s u) : MemKept s (if c then t else u) := by
  split
  · exact a
  · exact b

theorem MemKept.ite1 {s : State} {α : Type} {c : Prop} [Decidable c] {t u : State × α} (a : MemKept s t.1) (b : MemKept s u.1) :
    MemKept s (if c then t else u).1 := by
  split
  · exact a
  · exact b

theorem MemKept.ite2 {s : State} {α : Type} {c : Prop} [Decidable c] {t u : α × State} (a : MemKept s t.2) (b : MemKept s u.2) :
    MemKept s (if c then t else u).2 := by
  split
  · exact a
  · exact b

theorem foldl_memKept {α : Type} (g : State → α → State) (l : List α) (s : State) (h : ∀ s a, MemKept s (g s a)) : MemKept s (l.foldl g s) := by
  induction l generalizing s with
  | nil => exact MemKept.refl s
  | cons a l ih => exact (h s a).trans (ih _)

theorem foldl_memKept1 {α β : Type} (g : State × β → α → State × β) (l : List α) (p : State × β) (h : ∀ p a, MemKept p.1 (g p a).1) :
    MemKept p.1 (l.foldl g p).1 := by
  induction l generalizing p with
  | nil => exact MemKept.refl _
  | cons a l ih => exact (h p a).trans (ih _)

/-- An operation that may answer nothing keeps the canonical form where it answers. -/
structure MemKeptOpt (s : State) (o : Option State) : Prop where
  of : ∀ {t}, o = Option.some t → MemKept s t

theorem MemKeptOpt.none {s : State} : MemKeptOpt s Option.none := ⟨fun h => nomatch h⟩

theorem MemKeptOpt.some {s t : State} (a : MemKept s t) : MemKeptOpt s (Option.some t) := ⟨fun h => Option.some.inj h ▸ a⟩

theorem MemKeptOpt.trans {s t : State} {o : Option State} (a : MemKept s t) (b : MemKeptOpt t o) : MemKeptOpt s o :=
  ⟨fun h => a.trans (b.of h)⟩

theorem memWf_iff (m : Tbl Nat) : memWf m = true ↔ tsorted m = true ∧ ∀ p ∈ m, 0 < p.2 ∧ p.2 < 2 ^ 32 := by
  unfold memWf
  rw [Bool.and_eq_true, List.all_eq_true]
  constructor
  · rintro ⟨a, b⟩
    exact ⟨a, fun p hp => of_decide_eq_true (b p hp)⟩
  · rintro ⟨a, b⟩
    exact ⟨a, fun p hp => decide_eq_true (b p hp)⟩

theorem filter_sorted {α : Type} {t : Tbl α} (f : Nat × α → Bool) (h : tsorted t = true) : tsorted (t.filter f) = true := by
  induction t with
  | nil => rfl
  | cons q t ih =>
    obtain ⟨k, v⟩ := q
    have hc := tsorted_cons.mp h
    rw [List.filter_cons]
    split
    · exact tsorted_cons.mpr ⟨fun p hp => hc.1 p (List.mem_filter.mp hp).1, ih hc.2⟩
    · exact ih hc.2

theorem MemKept.with_pending {s t : State} {v} (a : MemKept s t) : MemKept s { t with pending := v } := ⟨fun h => a.kept h⟩

theorem MemKept.with_regs {s t : State} {v} (a : MemKept s t) : MemKept s { t with regs := v } := ⟨fun h => a.kept h⟩

theorem MemKept.with_lag {s t : State} {v} (a : MemKept s t) : MemKept s { t with lag := v } := ⟨fun h => a.kept h⟩

theorem MemKept.with_sig {s t : State} {v} (a : MemKept s t) : MemKept s { t with sig := v } := ⟨fun h => a.kept h⟩

theorem MemKept.with_slots {s t : State} {v} (a : MemKept s t) : MemKept s { t with slots := v } := ⟨fun h => a.kept h⟩

theorem MemKept.with_latch {s t : State} {v} (a : MemKept s t) : MemKept s { t with latch := v } := ⟨fun h => a.kept h⟩

theorem MemKept.with_time {s t : State} {v} (a : MemKept s t) : MemKept s { t with time := v } := ⟨fun h => a.kept h⟩

theorem MemKept.with_sw {s t : State} {v} (a : MemKept s t) : MemKept s { t with sw := v } := ⟨fun h => a.kept h⟩

theorem MemKept.with_gov {s t : State} {v} (a : MemKept s t) : MemKept s { t with gov := v } := ⟨fun h => a.kept h⟩

theorem MemKept.with_pool {s t : State} {v} (a : MemKept s t) : MemKept s { t with pool := v } := ⟨fun h => a.kept h⟩

theorem MemKept.with_gd {s t : State} {v} (a : MemKept s t) : MemKept s { t with gd := v } := ⟨fun h => a.kept h⟩

theorem MemKept.with_port {s t : State} {v} (a : MemKept s t) : MemKept s { t with port := v } := ⟨fun h => a.kept h⟩

theorem MemKept.with_link {s t : State} {v} (a : MemKept s t) : MemKept s { t with link := v } := ⟨fun h => a.kept h⟩

theorem MemKept.with_repair {s t : State} {v} (a : MemKept s t) : MemKept s { t with repair := v } := ⟨fun h => a.kept h⟩

theorem MemKept.with_pow {s t : State} {v} (a : MemKept s t) : MemKept s { t with pow := v } := ⟨fun h => a.kept h⟩

theorem MemKept.with_scan {s t : State} {v} (a : MemKept s t) : MemKept s { t with scan := v } := ⟨fun h => a.kept h⟩

theorem MemKept.with_br {s t : State} {v} (a : MemKept s t) : MemKept s { t with br := v } := ⟨fun h => a.kept h⟩

theorem MemKept.with_engs {s t : State} {v} (a : MemKept s t) : MemKept s { t with engs := v } := ⟨fun h => a.kept h⟩

theorem MemKept.with_pwr {s t : State} {v} (a : MemKept s t) : MemKept s { t with pwr := v } := ⟨fun h => a.kept h⟩

theorem MemKept.with_vault {s t : State} {v} (a : MemKept s t) : MemKept s { t with vault := v } := ⟨fun h => a.kept h⟩

theorem MemKept.with_otp {s t : State} {v} (a : MemKept s t) : MemKept s { t with otp := v } := ⟨fun h => a.kept h⟩

theorem MemKept.with_rep {s t : State} {v} (a : MemKept s t) : MemKept s { t with rep := v } := ⟨fun h => a.kept h⟩

theorem MemKept.with_usb {s t : State} {v} (a : MemKept s t) : MemKept s { t with usb := v } := ⟨fun h => a.kept h⟩

theorem MemKept.with_smbPtr {s t : State} {v} (a : MemKept s t) : MemKept s { t with smbPtr := v } := ⟨fun h => a.kept h⟩

theorem MemKept.with_freeCtr {s t : State} {v} (a : MemKept s t) : MemKept s { t with freeCtr := v } := ⟨fun h => a.kept h⟩

theorem State.setEngWord_memKept (s : State) (e space off v : Nat) : MemKept s (s.setEngWord e space off v) := by
  refine ⟨fun h => ?_⟩
  obtain ⟨a, b⟩ := (memWf_iff _).mp h
  refine (memWf_iff _).mpr ⟨tput_sorted 0 _ _ a, fun p hp => ?_⟩
  unfold State.setEngWord tput at hp
  dsimp only at hp
  split at hp
  · exact b p (List.mem_filter.mp hp).1
  · rename_i hv
    rcases mem_tset hp with rfl | hp
    · exact ⟨Nat.pos_of_ne_zero hv, Nat.mod_lt _ (by decide)⟩
    · exact b p hp

theorem State.storeWords_memKept (s : State) (e off : Nat) (l : List Nat) : MemKept s (s.storeWords e off l) := by
  induction l generalizing s off with
  | nil => exact MemKept.refl _
  | cons w l ih => exact (State.setEngWord_memKept ..).trans (ih _ _)

theorem State.putEngRec_memKept (s : State) (t : Nat) (r : Rec) : MemKept s (State.putEngRec s t r).1 := by
  unfold State.putEngRec
  repeat' with_reducible first
    | exact MemKept.refl _
    | apply MemKept.after (m := 67108855) (by decide) (State.setTgt_same ..)
    | apply MemKept.trans _ (State.storeWords_memKept ..)
    | apply MemKept.after (m := 67108855) (by decide) (State.request_same ..)
    | apply MemKept.trans _ (foldl_memKept _ _ _ (fun _ _ => ?_))
    | apply MemKept.trans _ (foldl_memKept1 _ _ _ (fun _ _ => ?_))
    | apply MemKept.ite
    | apply MemKept.ite1
    | apply MemKept.ite2
    | extract_lets
    | split
    | dsimp -zeta only
    | dsimp +zetaDelta only

theorem State.deliver_memKept (s : State) (ev : Nat) (pg : Nat) (fast : Bool) : MemKept s (State.deliver s ev pg fast).1 := by
  unfold State.deliver
  repeat' with_reducible first
    | exact MemKept.refl _
    | apply MemKept.after (m := 67108855) (by decide) (State.setEv_same ..)
    | apply MemKept.after (m := 67108855) (by decide) (State.setTgt_same ..)
    | apply MemKept.after (m := 67108855) (by decide) (State.claimable_same ..)
    | apply MemKept.after (m := 67108855) (by decide) (State.putRec_same ..)
    | apply MemKept.trans _ (State.putEngRec_memKept ..)
    | apply MemKept.trans _ (foldl_memKept _ _ _ (fun _ _ => ?_))
    | apply MemKept.trans _ (foldl_memKept1 _ _ _ (fun _ _ => ?_))
    | apply MemKept.ite
    | apply MemKept.ite1
    | apply MemKept.ite2
    | extract_lets
    | split
    | dsimp -zeta only
    | dsimp +zetaDelta only
    | apply MemKept.with_pending
    | apply MemKept.with_regs
    | apply MemKept.with_lag
    | apply MemKept.with_sig
    | apply MemKept.with_slots
    | apply MemKept.with_latch
    | apply MemKept.with_time
    | apply MemKept.with_sw
    | apply MemKept.with_gov
    | apply MemKept.with_pool
    | apply MemKept.with_gd
    | apply MemKept.with_port
    | apply MemKept.with_link
    | apply MemKept.with_repair
    | apply MemKept.with_pow
    | apply MemKept.with_scan
    | apply MemKept.with_br
    | apply MemKept.with_engs
    | apply MemKept.with_pwr
    | apply MemKept.with_vault
    | apply MemKept.with_otp
    | apply MemKept.with_rep
    | apply MemKept.with_usb
    | apply MemKept.with_smbPtr
    | apply MemKept.with_freeCtr

theorem State.occur_memKept (s : State) (ev : Nat) : MemKept s (State.occur s ev).1 := by
  unfold State.occur
  repeat' with_reducible first
    | exact MemKept.refl _
    | apply MemKept.after (m := 67108855) (by decide) (State.setEv_same ..)
    | apply MemKept.trans _ (State.deliver_memKept ..)
    | apply MemKept.trans _ (foldl_memKept _ _ _ (fun _ _ => ?_))
    | apply MemKept.trans _ (foldl_memKept1 _ _ _ (fun _ _ => ?_))
    | apply MemKept.ite
    | apply MemKept.ite1
    | apply MemKept.ite2
    | extract_lets
    | split
    | dsimp -zeta only
    | dsimp +zetaDelta only

theorem State.occurAll_memKept (n : Nat) (s : State) (l : List Nat) : MemKept s (State.occurAll n s l) := by
  induction n generalizing s l with
  | zero => exact MemKept.refl _
  | succ n ih =>
    cases l with
    | nil => exact MemKept.refl _
    | cons e l => exact (State.occur_memKept s e).trans (ih _ _)

theorem State.hookPush_memKept (s : State) (e : Nat) (m : SigIn) (entry : Nat) : MemKept s (State.hookPush s e m entry) := by
  unfold State.hookPush
  repeat' with_reducible first
    | exact MemKept.refl _
    | apply MemKept.after (m := 67108861) (by decide) (State.set_same ..)
    | apply MemKept.trans _ (State.storeWords_memKept ..)
    | apply MemKept.after (m := 67108855) (by decide) (State.emit_same ..)
    | apply MemKept.after (m := 67108855) (by decide) (State.complete_same ..)
    | apply MemKept.trans _ (foldl_memKept _ _ _ (fun _ _ => ?_))
    | apply MemKept.trans _ (foldl_memKept1 _ _ _ (fun _ _ => ?_))
    | apply MemKept.ite
    | apply MemKept.ite1
    | apply MemKept.ite2
    | extract_lets
    | split
    | dsimp -zeta only
    | dsimp +zetaDelta only

theorem State.sigHook_memOpt (s : State) (m : SigIn) (entry : Nat) : MemKeptOpt s (s.sigHook m entry) := by
  unfold State.sigHook
  extract_lets e
  split
  · exact .some (.after (m := 66912245) (by decide) (State.sigFail_same ..) (.refl _))
  · split
    · exact .none
    · exact .some (State.hookPush_memKept ..)

theorem State.sigRun_memOpt (s : State) (m : SigIn) : MemKeptOpt s (s.sigRun m) := by
  unfold State.sigRun
  repeat' with_reducible first
    | exact MemKept.refl _
    | exact MemKeptOpt.none
    | apply State.sigHook_memOpt
    | apply MemKeptOpt.trans _ (State.sigHook_memOpt ..)
    | apply MemKeptOpt.some
    | apply MemKept.after (m := 66912245) (by decide) (State.sigFail_same ..)
    | apply MemKept.after (m := 50225525) (by decide) (State.sigReplyBytes_same ..)
    | apply MemKept.after (m := 67108861) (by decide) (State.sat_same ..)
    | apply MemKept.after (m := 67108853) (by decide) (State.stale_same ..)
    | apply MemKept.after (m := 66912245) (by decide) (State.sigRoute_same ..)
    | apply MemKept.ite
    | extract_lets
    | split
    | dsimp -zeta only
    | dsimp +zetaDelta only

theorem State.lanePump_memKept (n : Nat) (s : State) (k : Nat) : MemKept s (State.lanePump n s k) := by
  induction n generalizing s with
  | zero => exact MemKept.refl _
  | succ n ih =>
    unfold State.lanePump
    split
    · exact MemKept.refl _
    · split
      · rename_i e
        exact ((State.sigRun_memOpt ..).of e).trans (.trans (.after (m := 67043327) (by decide) (State.setBrLane_same ..) (.refl _)) (ih _))
      · split
        · exact MemKept.refl _
        · exact .after (m := 67043327) (by decide) (State.setBrLane_same ..) (.after (m := 67108861) (by decide) (State.sat_same ..) (.refl _))

theorem State.laneGo_memKept (s : State) (k : Nat) : MemKept s (State.laneGo s k) := by
  unfold State.laneGo
  repeat' with_reducible first
    | exact MemKept.refl _
    | apply MemKept.after (m := 49868661) (by decide) (State.sigDrain_same ..)
    | apply MemKept.trans _ (State.lanePump_memKept ..)
    | apply MemKept.trans _ (foldl_memKept _ _ _ (fun _ _ => ?_))
    | apply MemKept.trans _ (foldl_memKept1 _ _ _ (fun _ _ => ?_))
    | apply MemKept.ite
    | apply MemKept.ite1
    | apply MemKept.ite2
    | extract_lets
    | split
    | dsimp -zeta only
    | dsimp +zetaDelta only

theorem State.hookFail_memKept (s : State) (k : Nat) (r : SigReason) : MemKept s (State.hookFail s k r) := by
  unfold State.hookFail
  repeat' with_reducible first
    | exact MemKept.refl _
    | apply MemKept.trans _ (State.laneGo_memKept ..)
    | apply MemKept.after (m := 66912245) (by decide) (State.sigFail_same ..)
    | apply MemKept.after (m := 67043327) (by decide) (State.setBrLane_same ..)
    | apply MemKept.trans _ (foldl_memKept _ _ _ (fun _ _ => ?_))
    | apply MemKept.trans _ (foldl_memKept1 _ _ _ (fun _ _ => ?_))
    | apply MemKept.ite
    | apply MemKept.ite1
    | apply MemKept.ite2
    | extract_lets
    | split
    | dsimp -zeta only
    | dsimp +zetaDelta only

theorem State.hookDrop_memKept (s : State) (e : Nat) : MemKept s (State.hookDrop s e) := by
  unfold State.hookDrop
  repeat' with_reducible first
    | exact MemKept.refl _
    | apply MemKept.trans _ (State.hookFail_memKept ..)
    | apply MemKept.trans _ (foldl_memKept _ _ _ (fun _ _ => ?_))
    | apply MemKept.trans _ (foldl_memKept1 _ _ _ (fun _ _ => ?_))
    | apply MemKept.ite
    | apply MemKept.ite1
    | apply MemKept.ite2
    | extract_lets
    | split
    | dsimp -zeta only
    | dsimp +zetaDelta only

theorem State.engFault_memKept (s : State) (e : Nat) (cause : Nat) : MemKept s (State.engFault s e cause) := by
  unfold State.engFault
  repeat' with_reducible first
    | exact MemKept.refl _
    | apply MemKept.after (m := 67108853) (by decide) (State.adopt_same ..)
    | apply MemKept.after (m := 67108837) (by decide) (State.engGone_same ..)
    | apply MemKept.after (m := 67100661) (by decide) (State.engHalt_same ..)
    | apply MemKept.after (m := 67108855) (by decide) (State.engRetarget_same ..)
    | apply MemKept.trans _ (State.hookDrop_memKept ..)
    | apply MemKept.after (m := 67108853) (by decide) (State.mgmtLost_same ..)
    | apply MemKept.after (m := 67108861) (by decide) (State.set_same ..)
    | apply MemKept.trans _ (foldl_memKept _ _ _ (fun _ _ => ?_))
    | apply MemKept.trans _ (foldl_memKept1 _ _ _ (fun _ _ => ?_))
    | apply MemKept.ite
    | apply MemKept.ite1
    | apply MemKept.ite2
    | extract_lets
    | split
    | dsimp -zeta only
    | dsimp +zetaDelta only

theorem State.engTrap_memKept (s : State) (e : Nat) (cause : Nat) (imm : Nat) : MemKept s (State.engTrap s e cause imm) := by
  unfold State.engTrap
  repeat' with_reducible first
    | exact MemKept.refl _
    | apply MemKept.trans _ (State.engFault_memKept ..)
    | apply MemKept.after (m := 66977791) (by decide) (State.setCore_same ..)
    | apply MemKept.trans _ (foldl_memKept _ _ _ (fun _ _ => ?_))
    | apply MemKept.trans _ (foldl_memKept1 _ _ _ (fun _ _ => ?_))
    | apply MemKept.ite
    | apply MemKept.ite1
    | apply MemKept.ite2
    | extract_lets
    | split
    | dsimp -zeta only
    | dsimp +zetaDelta only

theorem State.instr_memKept (s : State) (e : Nat) (f : State → EngCore → State) (hf : ∀ s c0, MemKept s (f s c0)) : MemKept s (State.instr s e f) := by
  unfold State.instr
  repeat' with_reducible first
    | exact MemKept.refl _
    | apply hf
    | apply MemKept.trans _ (hf _ _)
    | apply MemKept.after (m := 67108861) (by decide) (State.set_same ..)
    | apply MemKept.trans _ (State.engTrap_memKept ..)
    | apply MemKept.trans _ (foldl_memKept _ _ _ (fun _ _ => ?_))
    | apply MemKept.trans _ (foldl_memKept1 _ _ _ (fun _ _ => ?_))
    | apply MemKept.ite
    | apply MemKept.ite1
    | apply MemKept.ite2
    | extract_lets
    | split
    | dsimp -zeta only
    | dsimp +zetaDelta only

theorem State.alu_memKept (s : State) (e : Nat) (gd : Fin 16) (cycles : Nat) (f : EngCore → Nat) : MemKept s (State.alu s e gd cycles f) := by
  unfold State.alu
  repeat' with_reducible first
    | exact MemKept.refl _
    | apply MemKept.trans _ (State.instr_memKept _ _ _ (fun _ _ => ?_))
    | apply MemKept.after (m := 66977791) (by decide) (State.setCore_same ..)
    | apply MemKept.trans _ (foldl_memKept _ _ _ (fun _ _ => ?_))
    | apply MemKept.trans _ (foldl_memKept1 _ _ _ (fun _ _ => ?_))
    | apply MemKept.ite
    | apply MemKept.ite1
    | apply MemKept.ite2
    | extract_lets
    | split
    | dsimp -zeta only
    | dsimp +zetaDelta only

theorem State.aluI_memKept (s : State) (e : Nat) (gd : Fin 16) (ga : Fin 16) (f : Nat → Nat) : MemKept s (State.aluI s e gd ga f) := by
  unfold State.aluI
  repeat' with_reducible first
    | exact MemKept.refl _
    | apply MemKept.trans _ (State.alu_memKept ..)
    | apply MemKept.trans _ (foldl_memKept _ _ _ (fun _ _ => ?_))
    | apply MemKept.trans _ (foldl_memKept1 _ _ _ (fun _ _ => ?_))
    | apply MemKept.ite
    | apply MemKept.ite1
    | apply MemKept.ite2
    | extract_lets
    | split
    | dsimp -zeta only
    | dsimp +zetaDelta only

theorem State.aluR_memKept (s : State) (e : Nat) (gd : Fin 16) (ga : Fin 16) (gb : Fin 16) (f : Nat → Nat → Nat) (cycles : Nat) : MemKept s (State.aluR s e gd ga gb f cycles) := by
  unfold State.aluR
  repeat' with_reducible first
    | exact MemKept.refl _
    | apply MemKept.trans _ (State.alu_memKept ..)
    | apply MemKept.trans _ (foldl_memKept _ _ _ (fun _ _ => ?_))
    | apply MemKept.trans _ (foldl_memKept1 _ _ _ (fun _ _ => ?_))
    | apply MemKept.ite
    | apply MemKept.ite1
    | apply MemKept.ite2
    | extract_lets
    | split
    | dsimp -zeta only
    | dsimp +zetaDelta only

theorem State.fabricReset_memKept (s0 : State) : MemKept s0 (State.fabricReset s0) := ⟨fun _ => rfl⟩

theorem State.warmStart_memKept (s : State) (cause : Nat) (rail : Nat) (prefer : (Option Nat)) : MemKept s (State.warmStart s cause rail prefer) := by
  unfold State.warmStart
  repeat' with_reducible first
    | exact MemKept.refl _
    | apply MemKept.after (m := 67108861) (by decide) (State.sets_same ..)
    | apply MemKept.after (m := 66846719) (by decide) (State.mapPwr_same ..)
    | apply MemKept.trans _ (State.fabricReset_memKept ..)
    | apply MemKept.after (m := 48356725) (by decide) (State.startInit_same ..)
    | apply MemKept.after (m := 67108799) (by decide) (State.clearCounted_same ..)
    | apply MemKept.trans _ (foldl_memKept _ _ _ (fun _ _ => ?_))
    | apply MemKept.trans _ (foldl_memKept1 _ _ _ (fun _ _ => ?_))
    | apply MemKept.ite
    | apply MemKept.ite1
    | apply MemKept.ite2
    | extract_lets
    | split
    | dsimp -zeta only
    | dsimp +zetaDelta only

theorem State.engStop_memKept (s : State) (e : Nat) (st : Nat) : MemKept s (State.engStop s e st) := by
  unfold State.engStop
  repeat' with_reducible first
    | exact MemKept.refl _
    | apply MemKept.after (m := 67108837) (by decide) (State.engGone_same ..)
    | apply MemKept.after (m := 67108855) (by decide) (State.engRetarget_same ..)
    | apply MemKept.trans _ (State.hookDrop_memKept ..)
    | apply MemKept.after (m := 67108861) (by decide) (State.set_same ..)
    | apply MemKept.trans _ (foldl_memKept _ _ _ (fun _ _ => ?_))
    | apply MemKept.trans _ (foldl_memKept1 _ _ _ (fun _ _ => ?_))
    | apply MemKept.ite
    | apply MemKept.ite1
    | apply MemKept.ite2
    | extract_lets
    | split
    | dsimp -zeta only
    | dsimp +zetaDelta only

theorem State.shutdown_memKept (s : State) : MemKept s (State.shutdown s) := by
  unfold State.shutdown
  repeat' with_reducible first
    | exact MemKept.refl _
    | apply MemKept.after (m := 67108861) (by decide) (State.set_same ..)
    | apply MemKept.after (m := 65011711) (by decide) (State.mapRep_same ..)
    | apply MemKept.after (m := 67108845) (by decide) (State.dropSlot_same ..)
    | apply MemKept.after (m := 49570149) (by decide) (State.portDown_same ..)
    | apply MemKept.after (m := 62898165) (by decide) (State.vbReq_same ..)
    | apply MemKept.after (m := 50078069) (by decide) (State.modeExit_same ..)
    | apply MemKept.trans _ (State.engStop_memKept ..)
    | apply MemKept.trans _ (foldl_memKept _ _ _ (fun _ _ => ?_))
    | apply MemKept.trans _ (foldl_memKept1 _ _ _ (fun _ _ => ?_))
    | apply MemKept.ite
    | apply MemKept.ite1
    | apply MemKept.ite2
    | extract_lets
    | split
    | dsimp -zeta only
    | dsimp +zetaDelta only

theorem State.rstCmd_memKept (s : State) (v : Nat) : MemKept s (State.rstCmd s v) := by
  unfold State.rstCmd
  repeat' with_reducible first
    | exact MemKept.refl _
    | apply MemKept.trans _ (State.warmStart_memKept ..)
    | apply MemKept.trans _ (State.shutdown_memKept ..)
    | apply MemKept.trans _ (foldl_memKept _ _ _ (fun _ _ => ?_))
    | apply MemKept.trans _ (foldl_memKept1 _ _ _ (fun _ _ => ?_))
    | apply MemKept.ite
    | apply MemKept.ite1
    | apply MemKept.ite2
    | extract_lets
    | split
    | dsimp -zeta only
    | dsimp +zetaDelta only

theorem State.engFx_memKept (s : State) (x : Wr) : MemKept s (State.engFx s x) := by
  unfold State.engFx
  repeat' with_reducible first
    | exact MemKept.refl _
    | apply MemKept.after (m := 67108861) (by decide) (State.mwNext_same ..)
    | apply MemKept.after (m := 67108861) (by decide) (State.set_same ..)
    | apply MemKept.trans _ (State.setEngWord_memKept ..)
    | apply MemKept.trans _ (State.engStop_memKept ..)
    | apply MemKept.after (m := 66977765) (by decide) (State.engStart_same ..)
    | apply MemKept.trans _ (State.laneGo_memKept ..)
    | apply MemKept.after (m := 49868661) (by decide) (State.engSend_same ..)
    | apply MemKept.trans _ (foldl_memKept _ _ _ (fun _ _ => ?_))
    | apply MemKept.trans _ (foldl_memKept1 _ _ _ (fun _ _ => ?_))
    | apply MemKept.ite
    | apply MemKept.ite1
    | apply MemKept.ite2
    | extract_lets
    | split
    | dsimp -zeta only
    | dsimp +zetaDelta only

theorem State.effect_memKept (s : State) (s0 : State) (x : Wr) : MemKept s (State.effect s s0 x) := by
  unfold State.effect
  repeat' with_reducible first
    | exact MemKept.refl _
    | apply MemKept.after (m := 65011709) (by decide) (State.bistGo_same ..)
    | apply MemKept.after (m := 67043325) (by decide) (State.brFx_same ..)
    | apply MemKept.after (m := 50094449) (by decide) (State.dockFx_same ..)
    | apply MemKept.trans _ (State.engFx_memKept ..)
    | apply MemKept.after (m := 67108855) (by decide) (State.eventFx_same ..)
    | apply MemKept.after (m := 50065393) (by decide) (State.laneFx_same ..)
    | apply MemKept.after (m := 67108851) (by decide) (State.mailFx_same ..)
    | apply MemKept.after (m := 50282869) (by decide) (State.poolFx_same ..)
    | apply MemKept.after (m := 49963361) (by decide) (State.portFx_same ..)
    | apply MemKept.after (m := 45883509) (by decide) (State.powFx_same ..)
    | apply MemKept.after (m := 66846709) (by decide) (State.powerFx_same ..)
    | apply MemKept.trans _ (State.rstCmd_memKept ..)
    | apply MemKept.after (m := 50319205) (by decide) (State.schedFx_same ..)
    | apply MemKept.after (m := 67076081) (by decide) (State.soFx_same ..)
    | apply MemKept.after (m := 67076093) (by decide) (State.stepScan_same ..)
    | apply MemKept.after (m := 50130725) (by decide) (State.timeFx_same ..)
    | apply MemKept.after (m := 62914557) (by decide) (State.usbFx_same ..)
    | apply MemKept.after (m := 46661621) (by decide) (State.vaultFx_same ..)
    | apply MemKept.trans _ (foldl_memKept _ _ _ (fun _ _ => ?_))
    | apply MemKept.trans _ (foldl_memKept1 _ _ _ (fun _ _ => ?_))
    | apply MemKept.ite
    | apply MemKept.ite1
    | apply MemKept.ite2
    | extract_lets
    | split
    | dsimp -zeta only
    | dsimp +zetaDelta only

theorem State.applyDirect_memKept (s : State) (p : Nat) (addr : Nat) (v : Nat) : MemKept s (State.applyDirect s p addr v) := by
  unfold State.applyDirect
  repeat' with_reducible first
    | exact MemKept.refl _
    | apply MemKept.after (m := 67108861) (by decide) (State.bumpIf_same ..)
    | apply MemKept.after (m := 67108857) (by decide) (State.storeAt_same ..)
    | apply MemKept.after (m := 66846709) (by decide) (State.headerFx_same ..)
    | apply MemKept.trans _ (State.effect_memKept ..)
    | apply MemKept.trans _ (foldl_memKept _ _ _ (fun _ _ => ?_))
    | apply MemKept.trans _ (foldl_memKept1 _ _ _ (fun _ _ => ?_))
    | apply MemKept.ite
    | apply MemKept.ite1
    | apply MemKept.ite2
    | extract_lets
    | split
    | dsimp -zeta only
    | dsimp +zetaDelta only

theorem State.applyEntry_memKept (s : State) (p : Nat) (e : Shadow) : MemKept s (State.applyEntry s p e) := by
  unfold State.applyEntry
  repeat' with_reducible first
    | exact MemKept.refl _
    | apply MemKept.after (m := 67108857) (by decide) (State.storeReg_same ..)
    | apply MemKept.after (m := 66846709) (by decide) (State.headerFx_same ..)
    | apply MemKept.trans _ (State.effect_memKept ..)
    | apply MemKept.after (m := 66846645) (by decide) (State.imaged_same ..)
    | apply MemKept.trans _ (foldl_memKept _ _ _ (fun _ _ => ?_))
    | apply MemKept.trans _ (foldl_memKept1 _ _ _ (fun _ _ => ?_))
    | apply MemKept.ite
    | apply MemKept.ite1
    | apply MemKept.ite2
    | extract_lets
    | split
    | dsimp -zeta only
    | dsimp +zetaDelta only

theorem State.sigEnter_memKept (s : State) (m : SigIn) : MemKept s (State.sigEnter s m) := by
  unfold State.sigEnter
  repeat' with_reducible first
    | exact MemKept.refl _
    | apply MemKept.trans _ (State.laneGo_memKept ..)
    | apply MemKept.after (m := 67043327) (by decide) (State.setBrLane_same ..)
    | apply MemKept.trans _ (foldl_memKept _ _ _ (fun _ _ => ?_))
    | apply MemKept.trans _ (foldl_memKept1 _ _ _ (fun _ _ => ?_))
    | apply MemKept.ite
    | apply MemKept.ite1
    | apply MemKept.ite2
    | extract_lets
    | split
    | dsimp -zeta only
    | dsimp +zetaDelta only

theorem State.sigIn_memKept (s : State) (n : Nat) (tch : Nat) (b : List (BitVec 8)) (at_ : Nat) : MemKept s (State.sigIn s n tch b at_) := by
  unfold State.sigIn
  repeat' with_reducible first
    | exact MemKept.refl _
    | apply MemKept.after (m := 49868661) (by decide) (State.sigDrain_same ..)
    | apply MemKept.after (m := 66912245) (by decide) (State.sigFail_same ..)
    | apply MemKept.trans _ (State.sigEnter_memKept ..)
    | apply MemKept.trans _ (foldl_memKept _ _ _ (fun _ _ => ?_))
    | apply MemKept.trans _ (foldl_memKept1 _ _ _ (fun _ _ => ?_))
    | apply MemKept.ite
    | apply MemKept.ite1
    | apply MemKept.ite2
    | extract_lets
    | split
    | dsimp -zeta only
    | dsimp +zetaDelta only

theorem State.sigArrived_memKept (s : State) (c : Cell) : MemKept s (State.sigArrived s c) := by
  unfold State.sigArrived
  repeat' with_reducible first
    | exact MemKept.refl _
    | apply MemKept.after (m := 67108855) (by decide) (State.sigDeliver_same ..)
    | apply MemKept.after (m := 67043327) (by decide) (State.sigForget_same ..)
    | apply MemKept.trans _ (State.sigIn_memKept ..)
    | apply MemKept.trans _ (foldl_memKept _ _ _ (fun _ _ => ?_))
    | apply MemKept.trans _ (foldl_memKept1 _ _ _ (fun _ _ => ?_))
    | apply MemKept.ite
    | apply MemKept.ite1
    | apply MemKept.ite2
    | extract_lets
    | split
    | dsimp -zeta only
    | dsimp +zetaDelta only

theorem State.branch_memKept (s : State) (e : Nat) (ga : Fin 16) (gb : Fin 16) (off : BitVec 18) (t : Nat → Nat → Bool) : MemKept s (State.branch s e ga gb off t) := by
  unfold State.branch
  repeat' with_reducible first
    | exact MemKept.refl _
    | apply MemKept.trans _ (State.instr_memKept _ _ _ (fun _ _ => ?_))
    | apply MemKept.after (m := 66977791) (by decide) (State.setCore_same ..)
    | apply MemKept.trans _ (foldl_memKept _ _ _ (fun _ _ => ?_))
    | apply MemKept.trans _ (foldl_memKept1 _ _ _ (fun _ _ => ?_))
    | apply MemKept.ite
    | apply MemKept.ite1
    | apply MemKept.ite2
    | extract_lets
    | split
    | dsimp -zeta only
    | dsimp +zetaDelta only

theorem State.ckptNow_memKept (s : State) : MemKept s (State.ckptNow s) := by
  unfold State.ckptNow
  repeat' with_reducible first
    | exact MemKept.refl _
    | apply MemKept.trans _ (State.setEngWord_memKept ..)
    | apply MemKept.after (m := 67108861) (by decide) (State.sat_same ..)
    | apply MemKept.after (m := 67108861) (by decide) (State.set_same ..)
    | apply MemKept.after (m := 66977791) (by decide) (State.setEngs_same ..)
    | apply MemKept.trans _ (foldl_memKept _ _ _ (fun _ _ => ?_))
    | apply MemKept.trans _ (foldl_memKept1 _ _ _ (fun _ _ => ?_))
    | apply MemKept.ite
    | apply MemKept.ite1
    | apply MemKept.ite2
    | extract_lets
    | split
    | dsimp -zeta only
    | dsimp +zetaDelta only

theorem State.clearMem_memKept (s : State) (e : Nat) : MemKept s (s.clearMem e) := by
  refine ⟨fun h => ?_⟩
  obtain ⟨a, b⟩ := (memWf_iff _).mp h
  exact (memWf_iff _).mpr ⟨filter_sorted _ a, fun p hp => b p (List.mem_filter.mp hp).1⟩

theorem State.coldReset_memKept (s0 : State) (power : Bool) : MemKept s0 (State.coldReset s0 power) := ⟨fun _ => rfl⟩

theorem State.coldStart_memKept (s : State) (cause : Nat) (power : Bool) : MemKept s (State.coldStart s cause power) := by
  unfold State.coldStart
  repeat' with_reducible first
    | exact MemKept.refl _
    | apply MemKept.after (m := 67108861) (by decide) (State.set_same ..)
    | apply MemKept.trans _ (State.coldReset_memKept ..)
    | apply MemKept.after (m := 50130725) (by decide) (State.setLost_same ..)
    | apply MemKept.after (m := 48356725) (by decide) (State.startInit_same ..)
    | apply MemKept.trans _ (foldl_memKept _ _ _ (fun _ _ => ?_))
    | apply MemKept.trans _ (foldl_memKept1 _ _ _ (fun _ _ => ?_))
    | apply MemKept.ite
    | apply MemKept.ite1
    | apply MemKept.ite2
    | extract_lets
    | split
    | dsimp -zeta only
    | dsimp +zetaDelta only

theorem State.commit_memKept (s : State) (i : Nat) (late : Bool) : MemKept s (State.commit s i late) := by
  unfold State.commit
  repeat' with_reducible first
    | exact MemKept.refl _
    | apply MemKept.trans _ (State.applyEntry_memKept ..)
    | apply MemKept.after (m := 67108861) (by decide) (State.bump_same ..)
    | apply MemKept.after (m := 67108861) (by decide) (State.set64_same ..)
    | apply MemKept.after (m := 67108861) (by decide) (State.wrap_same ..)
    | apply MemKept.after (m := 67108845) (by decide) (State.freeSlot_same ..)
    | apply MemKept.after (m := 67108855) (by decide) (State.raiseIf_same ..)
    | apply MemKept.after (m := 67108855) (by decide) (State.raise_same ..)
    | apply MemKept.after (m := 67108861) (by decide) (State.wheelSub_same ..)
    | apply MemKept.trans _ (foldl_memKept _ _ _ (fun _ _ => ?_))
    | apply MemKept.trans _ (foldl_memKept1 _ _ _ (fun _ _ => ?_))
    | apply MemKept.ite
    | apply MemKept.ite1
    | apply MemKept.ite2
    | extract_lets
    | split
    | dsimp -zeta only
    | dsimp +zetaDelta only

theorem State.thermalWarm_memKept (s : State) : MemKept s (State.thermalWarm s) := by
  unfold State.thermalWarm
  repeat' with_reducible first
    | exact MemKept.refl _
    | apply MemKept.after (m := 67108855) (by decide) (State.raise_same ..)
    | apply MemKept.trans _ (State.warmStart_memKept ..)
    | apply MemKept.after (m := 66846719) (by decide) (State.undark_same ..)
    | apply MemKept.trans _ (foldl_memKept _ _ _ (fun _ _ => ?_))
    | apply MemKept.trans _ (foldl_memKept1 _ _ _ (fun _ _ => ?_))
    | apply MemKept.ite
    | apply MemKept.ite1
    | apply MemKept.ite2
    | extract_lets
    | split
    | dsimp -zeta only
    | dsimp +zetaDelta only

theorem State.cooled_memKept (s : State) : MemKept s (State.cooled s) := by
  unfold State.cooled
  repeat' with_reducible first
    | exact MemKept.refl _
    | apply MemKept.trans _ (State.thermalWarm_memKept ..)
    | apply MemKept.after (m := 66846719) (by decide) (State.mapPwr_same ..)
    | apply MemKept.trans _ (foldl_memKept _ _ _ (fun _ _ => ?_))
    | apply MemKept.trans _ (foldl_memKept1 _ _ _ (fun _ _ => ?_))
    | apply MemKept.ite
    | apply MemKept.ite1
    | apply MemKept.ite2
    | extract_lets
    | split
    | dsimp -zeta only
    | dsimp +zetaDelta only

theorem State.darken_memKept (s : State) (why : Nat) : MemKept s (State.darken s why) := by
  unfold State.darken
  repeat' with_reducible first
    | exact MemKept.refl _
    | apply MemKept.after (m := 67108861) (by decide) (State.sets_same ..)
    | apply MemKept.after (m := 66846719) (by decide) (State.mapPwr_same ..)
    | apply MemKept.trans _ (State.fabricReset_memKept ..)
    | apply MemKept.trans _ (foldl_memKept _ _ _ (fun _ _ => ?_))
    | apply MemKept.trans _ (foldl_memKept1 _ _ _ (fun _ _ => ?_))
    | apply MemKept.ite
    | apply MemKept.ite1
    | apply MemKept.ite2
    | extract_lets
    | split
    | dsimp -zeta only
    | dsimp +zetaDelta only

theorem State.loadWords_memKept (s : State) (e : Nat) (space : Nat) (l : List Nat) : MemKept s (State.loadWords s e space l) := by
  unfold State.loadWords
  repeat' with_reducible first
    | exact MemKept.refl _
    | apply MemKept.trans _ (State.setEngWord_memKept ..)
    | apply MemKept.trans _ (foldl_memKept _ _ _ (fun _ _ => ?_))
    | apply MemKept.trans _ (foldl_memKept1 _ _ _ (fun _ _ => ?_))
    | apply MemKept.ite
    | apply MemKept.ite1
    | apply MemKept.ite2
    | extract_lets
    | split
    | dsimp -zeta only
    | dsimp +zetaDelta only

theorem State.engReload_memKept (s : State) (e : Nat) : MemKept s (State.engReload s e) := by
  unfold State.engReload
  repeat' with_reducible first
    | exact MemKept.refl _
    | apply MemKept.after (m := 66977765) (by decide) (State.engStart_same ..)
    | apply MemKept.trans _ (State.loadWords_memKept ..)
    | apply MemKept.trans _ (State.clearMem_memKept ..)
    | apply MemKept.trans _ (foldl_memKept _ _ _ (fun _ _ => ?_))
    | apply MemKept.trans _ (foldl_memKept1 _ _ _ (fun _ _ => ?_))
    | apply MemKept.ite
    | apply MemKept.ite1
    | apply MemKept.ite2
    | extract_lets
    | split
    | dsimp -zeta only
    | dsimp +zetaDelta only

theorem State.loseDom_memKept (s : State) (d : Nat) (goal : Nat) : MemKept s (State.loseDom s d goal) := by
  unfold State.loseDom
  repeat' with_reducible first
    | exact MemKept.refl _
    | apply MemKept.trans _ (State.clearMem_memKept ..)
    | apply MemKept.after (m := 67108341) (by decide) (State.creamDrop_same ..)
    | apply MemKept.after (m := 66584573) (by decide) (State.emptyAll_same ..)
    | apply MemKept.after (m := 67108837) (by decide) (State.engGone_same ..)
    | apply MemKept.after (m := 67043327) (by decide) (State.mapBr_same ..)
    | apply MemKept.after (m := 67076095) (by decide) (State.mapEng_same ..)
    | apply MemKept.after (m := 67104767) (by decide) (State.mapLinks_same ..)
    | apply MemKept.after (m := 66977791) (by decide) (State.setCore_same ..)
    | apply MemKept.trans _ (foldl_memKept _ _ _ (fun _ _ => ?_))
    | apply MemKept.trans _ (foldl_memKept1 _ _ _ (fun _ _ => ?_))
    | apply MemKept.ite
    | apply MemKept.ite1
    | apply MemKept.ite2
    | extract_lets
    | split
    | dsimp -zeta only
    | dsimp +zetaDelta only
    | apply MemKept.with_sig
    | apply MemKept.with_time
    | apply MemKept.with_sw
    | apply MemKept.with_gov

theorem State.enterDom_memKept (s : State) (d : Nat) (goal : Nat) : MemKept s (State.enterDom s d goal) := by
  unfold State.enterDom
  repeat' with_reducible first
    | exact MemKept.refl _
    | apply MemKept.after (m := 67108861) (by decide) (State.sat_same ..)
    | apply MemKept.after (m := 67108849) (by decide) (State.clearRegs_same ..)
    | apply MemKept.trans _ (State.loseDom_memKept ..)
    | apply MemKept.trans _ (foldl_memKept _ _ _ (fun _ _ => ?_))
    | apply MemKept.trans _ (foldl_memKept1 _ _ _ (fun _ _ => ?_))
    | apply MemKept.ite
    | apply MemKept.ite1
    | apply MemKept.ite2
    | extract_lets
    | split
    | dsimp -zeta only
    | dsimp +zetaDelta only

theorem State.exitDom_memKept (s : State) (d : Nat) (src : Nat) : MemKept s (State.exitDom s d src) := by
  unfold State.exitDom
  repeat' with_reducible first
    | exact MemKept.refl _
    | apply MemKept.after (m := 67108849) (by decide) (State.clearRegs_same ..)
    | apply MemKept.after (m := 67108861) (by decide) (State.clearReq_same ..)
    | apply MemKept.trans _ (State.engReload_memKept ..)
    | apply MemKept.after (m := 67108855) (by decide) (State.engRetarget_same ..)
    | apply MemKept.after (m := 49807357) (by decide) (State.formRoot_same ..)
    | apply MemKept.trans _ (State.loseDom_memKept ..)
    | apply MemKept.after (m := 67108861) (by decide) (State.macroUp_same ..)
    | apply MemKept.after (m := 66846719) (by decide) (State.mapPwr_same ..)
    | apply MemKept.after (m := 67108861) (by decide) (State.put_same ..)
    | apply MemKept.after (m := 66837885) (by decide) (State.reapply_same ..)
    | apply MemKept.after (m := 49807357) (by decide) (State.remask_same ..)
    | apply MemKept.after (m := 50327333) (by decide) (State.timeReturn_same ..)
    | apply MemKept.trans _ (foldl_memKept _ _ _ (fun _ _ => ?_))
    | apply MemKept.trans _ (foldl_memKept1 _ _ _ (fun _ _ => ?_))
    | apply MemKept.ite
    | apply MemKept.ite1
    | apply MemKept.ite2
    | extract_lets
    | split
    | dsimp -zeta only
    | dsimp +zetaDelta only

theorem State.domDone_memKept (s : State) (d : Nat) : MemKept s (State.domDone s d) := by
  unfold State.domDone
  repeat' with_reducible first
    | exact MemKept.refl _
    | apply MemKept.after (m := 66846719) (by decide) (State.mapPwr_same ..)
    | apply MemKept.trans _ (State.exitDom_memKept ..)
    | apply MemKept.after (m := 67108861) (by decide) (State.set_same ..)
    | apply MemKept.trans _ (State.enterDom_memKept ..)
    | apply MemKept.after (m := 66846709) (by decide) (State.domSettled_same ..)
    | apply MemKept.trans _ (foldl_memKept _ _ _ (fun _ _ => ?_))
    | apply MemKept.trans _ (foldl_memKept1 _ _ _ (fun _ _ => ?_))
    | apply MemKept.ite
    | apply MemKept.ite1
    | apply MemKept.ite2
    | extract_lets
    | split
    | dsimp -zeta only
    | dsimp +zetaDelta only

theorem State.settle_memKept (x0 : Nat) (x1 : State) : MemKept x1 (State.settle x0 x1) := by
  induction x0 generalizing x1 with
  | zero => exact MemKept.refl _
  | succ n ih =>
    unfold State.settle
    repeat' with_reducible first
      | exact MemKept.refl _
      | apply MemKept.after (m := 67107821) (by decide) (State.drainBegin_same ..)
      | apply MemKept.trans _ (State.commit_memKept ..)
      | apply MemKept.trans _ (foldl_memKept _ _ _ (fun _ _ => ?_))
      | apply MemKept.trans _ (foldl_memKept1 _ _ _ (fun _ _ => ?_))
      | apply MemKept.trans _ (ih ..)
      | apply MemKept.ite
      | apply MemKept.ite1
      | apply MemKept.ite2
      | extract_lets
      | split
      | dsimp -zeta only
      | dsimp +zetaDelta only

theorem State.settled_memKept (s : State) : MemKept s (State.settled s) := by
  unfold State.settled
  repeat' with_reducible first
    | exact MemKept.refl _
    | apply MemKept.trans _ (State.settle_memKept ..)
    | apply MemKept.trans _ (foldl_memKept _ _ _ (fun _ _ => ?_))
    | apply MemKept.trans _ (foldl_memKept1 _ _ _ (fun _ _ => ?_))
    | apply MemKept.ite
    | apply MemKept.ite1
    | apply MemKept.ite2
    | extract_lets
    | split
    | dsimp -zeta only
    | dsimp +zetaDelta only

theorem State.drainEnd_memKept (s : State) : MemKept s (State.drainEnd s) := by
  unfold State.drainEnd
  repeat' with_reducible first
    | exact MemKept.refl _
    | apply MemKept.trans _ (State.commit_memKept ..)
    | apply MemKept.after (m := 67107829) (by decide) (State.drainRecord_same ..)
    | apply MemKept.trans _ (State.settled_memKept ..)
    | apply MemKept.after (m := 50291061) (by decide) (State.releaseHeld_same ..)
    | apply MemKept.after (m := 67108855) (by decide) (State.raise_same ..)
    | apply MemKept.trans _ (foldl_memKept _ _ _ (fun _ _ => ?_))
    | apply MemKept.trans _ (foldl_memKept1 _ _ _ (fun _ _ => ?_))
    | apply MemKept.ite
    | apply MemKept.ite1
    | apply MemKept.ite2
    | extract_lets
    | split
    | dsimp -zeta only
    | dsimp +zetaDelta only

theorem State.eccThen_memKept (s : State) (e : Nat) (ecc : Ecc) (f : State → State) (hf : ∀ s, MemKept s (f s)) : MemKept s (State.eccThen s e ecc f) := by
  unfold State.eccThen
  repeat' with_reducible first
    | exact MemKept.refl _
    | apply hf
    | apply MemKept.trans _ (hf _)
    | apply MemKept.after (m := 67108861) (by decide) (State.sat_same ..)
    | apply MemKept.trans _ (State.engTrap_memKept ..)
    | apply MemKept.trans _ (foldl_memKept _ _ _ (fun _ _ => ?_))
    | apply MemKept.trans _ (foldl_memKept1 _ _ _ (fun _ _ => ?_))
    | apply MemKept.ite
    | apply MemKept.ite1
    | apply MemKept.ite2
    | extract_lets
    | split
    | dsimp -zeta only
    | dsimp +zetaDelta only

theorem State.imageTaken_memKept (s : State) (m : FwImage) : MemKept s (State.imageTaken s m) := by
  unfold State.imageTaken
  repeat' with_reducible first
    | exact MemKept.refl _
    | apply MemKept.after (m := 67108861) (by decide) (State.sets_same ..)
    | apply MemKept.after (m := 66846719) (by decide) (State.mapPwr_same ..)
    | apply MemKept.after (m := 65011703) (by decide) (State.flashCopy_same ..)
    | apply MemKept.trans _ (State.engReload_memKept ..)
    | apply MemKept.trans _ (foldl_memKept _ _ _ (fun _ _ => ?_))
    | apply MemKept.trans _ (foldl_memKept1 _ _ _ (fun _ _ => ?_))
    | apply MemKept.ite
    | apply MemKept.ite1
    | apply MemKept.ite2
    | extract_lets
    | split
    | dsimp -zeta only
    | dsimp +zetaDelta only

theorem State.imageVerified_memKept (s : State) (m : FwImage) : MemKept s (State.imageVerified s m) := by
  unfold State.imageVerified
  repeat' with_reducible first
    | exact MemKept.refl _
    | apply MemKept.after (m := 67108861) (by decide) (State.sets_same ..)
    | apply MemKept.trans _ (State.imageTaken_memKept ..)
    | apply MemKept.after (m := 67108855) (by decide) (State.raise_same ..)
    | apply MemKept.after (m := 67108861) (by decide) (State.set_same ..)
    | apply MemKept.after (m := 66846719) (by decide) (State.mapPwr_same ..)
    | apply MemKept.after (m := 62914549) (by decide) (State.usbReason_same ..)
    | apply MemKept.trans _ (foldl_memKept _ _ _ (fun _ _ => ?_))
    | apply MemKept.trans _ (foldl_memKept1 _ _ _ (fun _ _ => ?_))
    | apply MemKept.ite
    | apply MemKept.ite1
    | apply MemKept.ite2
    | extract_lets
    | split
    | dsimp -zeta only
    | dsimp +zetaDelta only

theorem State.journalFull_memKept (s : State) : MemKept s (State.journalFull s) := by
  unfold State.journalFull
  repeat' with_reducible first
    | exact MemKept.refl _
    | apply MemKept.trans _ (State.ckptNow_memKept ..)
    | apply MemKept.trans _ (foldl_memKept _ _ _ (fun _ _ => ?_))
    | apply MemKept.trans _ (foldl_memKept1 _ _ _ (fun _ _ => ?_))
    | apply MemKept.ite
    | apply MemKept.ite1
    | apply MemKept.ite2
    | extract_lets
    | split
    | dsimp -zeta only
    | dsimp +zetaDelta only

theorem State.jump_memKept (s : State) (e : Nat) (gd : Fin 16) (dest : EngCore → Nat) : MemKept s (State.jump s e gd dest) := by
  unfold State.jump
  repeat' with_reducible first
    | exact MemKept.refl _
    | apply MemKept.trans _ (State.instr_memKept _ _ _ (fun _ _ => ?_))
    | apply MemKept.after (m := 66977791) (by decide) (State.setCore_same ..)
    | apply MemKept.trans _ (foldl_memKept _ _ _ (fun _ _ => ?_))
    | apply MemKept.trans _ (foldl_memKept1 _ _ _ (fun _ _ => ?_))
    | apply MemKept.ite
    | apply MemKept.ite1
    | apply MemKept.ite2
    | extract_lets
    | split
    | dsimp -zeta only
    | dsimp +zetaDelta only

theorem State.porst_memKept (s : State) : MemKept s (State.porst s) := by
  unfold State.porst
  repeat' with_reducible first
    | exact MemKept.refl _
    | apply MemKept.after (m := 67108861) (by decide) (State.set_same ..)
    | apply MemKept.after (m := 67108855) (by decide) (State.raise_same ..)
    | apply MemKept.trans _ (State.coldStart_memKept ..)
    | apply MemKept.after (m := 66846719) (by decide) (State.undark_same ..)
    | apply MemKept.trans _ (foldl_memKept _ _ _ (fun _ _ => ?_))
    | apply MemKept.trans _ (foldl_memKept1 _ _ _ (fun _ _ => ?_))
    | apply MemKept.ite
    | apply MemKept.ite1
    | apply MemKept.ite2
    | extract_lets
    | split
    | dsimp -zeta only
    | dsimp +zetaDelta only

theorem State.railRelease_memKept (s : State) (k : Nat) : MemKept s (State.railRelease s k) := by
  unfold State.railRelease
  repeat' with_reducible first
    | exact MemKept.refl _
    | apply MemKept.after (m := 66846719) (by decide) (State.undark_same ..)
    | apply MemKept.trans _ (State.coldStart_memKept ..)
    | apply MemKept.after (m := 67108861) (by decide) (State.macroUp_same ..)
    | apply MemKept.after (m := 66837885) (by decide) (State.reapply_same ..)
    | apply MemKept.trans _ (foldl_memKept _ _ _ (fun _ _ => ?_))
    | apply MemKept.trans _ (foldl_memKept1 _ _ _ (fun _ _ => ?_))
    | apply MemKept.ite
    | apply MemKept.ite1
    | apply MemKept.ite2
    | extract_lets
    | split
    | dsimp -zeta only
    | dsimp +zetaDelta only

theorem State.serdesReset_memKept (s : State) : MemKept s (State.serdesReset s) := by
  unfold State.serdesReset
  repeat' with_reducible first
    | exact MemKept.refl _
    | apply MemKept.after (m := 49570149) (by decide) (State.portDown_same ..)
    | apply MemKept.after (m := 67108849) (by decide) (State.clearRegs_same ..)
    | apply MemKept.trans _ (State.loseDom_memKept ..)
    | apply MemKept.trans _ (foldl_memKept _ _ _ (fun _ _ => ?_))
    | apply MemKept.trans _ (foldl_memKept1 _ _ _ (fun _ _ => ?_))
    | apply MemKept.ite
    | apply MemKept.ite1
    | apply MemKept.ite2
    | extract_lets
    | split
    | dsimp -zeta only
    | dsimp +zetaDelta only

theorem State.railReset_memKept (s : State) (k : Nat) : MemKept s (State.railReset s k) := by
  unfold State.railReset
  repeat' with_reducible first
    | exact MemKept.refl _
    | apply MemKept.after (m := 67108855) (by decide) (State.raise_same ..)
    | apply MemKept.after (m := 67108861) (by decide) (State.set_same ..)
    | apply MemKept.after (m := 66846719) (by decide) (State.mapPwr_same ..)
    | apply MemKept.trans _ (State.warmStart_memKept ..)
    | apply MemKept.trans _ (State.serdesReset_memKept ..)
    | apply MemKept.after (m := 50130725) (by decide) (State.ioLost_same ..)
    | apply MemKept.trans _ (foldl_memKept _ _ _ (fun _ _ => ?_))
    | apply MemKept.trans _ (foldl_memKept1 _ _ _ (fun _ _ => ?_))
    | apply MemKept.ite
    | apply MemKept.ite1
    | apply MemKept.ite2
    | extract_lets
    | split
    | dsimp -zeta only
    | dsimp +zetaDelta only

theorem State.shutdownDone_memKept (s : State) (ms : Nat) : MemKept s (State.shutdownDone s ms) := by
  unfold State.shutdownDone
  repeat' with_reducible first
    | exact MemKept.refl _
    | apply MemKept.after (m := 67108861) (by decide) (State.sets_same ..)
    | apply MemKept.trans _ (State.warmStart_memKept ..)
    | apply MemKept.trans _ (State.darken_memKept ..)
    | apply MemKept.trans _ (foldl_memKept _ _ _ (fun _ _ => ?_))
    | apply MemKept.trans _ (foldl_memKept1 _ _ _ (fun _ _ => ?_))
    | apply MemKept.ite
    | apply MemKept.ite1
    | apply MemKept.ite2
    | extract_lets
    | split
    | dsimp -zeta only
    | dsimp +zetaDelta only

theorem State.storeData_memKept (s : State) (e : Nat) (off : Nat) (v : Nat) : MemKept s (State.storeData s e off v) := by
  unfold State.storeData
  repeat' with_reducible first
    | exact MemKept.refl _
    | apply MemKept.after (m := 66977791) (by decide) (State.journalAdd_same ..)
    | apply MemKept.trans _ (State.setEngWord_memKept ..)
    | apply MemKept.trans _ (foldl_memKept _ _ _ (fun _ _ => ?_))
    | apply MemKept.trans _ (foldl_memKept1 _ _ _ (fun _ _ => ?_))
    | apply MemKept.ite
    | apply MemKept.ite1
    | apply MemKept.ite2
    | extract_lets
    | split
    | dsimp -zeta only
    | dsimp +zetaDelta only

theorem State.txnCommit_memKept (s : State) (p : Path) (v : Nat) : MemKept s (State.txnCommit s p v) := by
  unfold State.txnCommit
  repeat' with_reducible first
    | exact MemKept.refl _
    | apply MemKept.after (m := 67108853) (by decide) (State.stale_same ..)
    | apply MemKept.after (m := 67108853) (by decide) (State.refuse_same ..)
    | apply MemKept.after (m := 67108845) (by decide) (State.dropSlot_same ..)
    | apply MemKept.trans _ (State.settled_memKept ..)
    | apply MemKept.after (m := 67108837) (by decide) (State.armSlot_same ..)
    | apply MemKept.trans _ (foldl_memKept _ _ _ (fun _ _ => ?_))
    | apply MemKept.trans _ (foldl_memKept1 _ _ _ (fun _ _ => ?_))
    | apply MemKept.ite
    | apply MemKept.ite1
    | apply MemKept.ite2
    | extract_lets
    | split
    | dsimp -zeta only
    | dsimp +zetaDelta only

theorem State.writeBy_memKept (s : State) (p : Nat) (addr : Nat) (v : Nat) (eff : State → State) (hf : ∀ s, MemKept s (eff s)) :
    MemKept s (State.writeBy s p addr v eff) := by
  unfold State.writeBy
  split
  · exact hf _
  · exact MemKept.after (m := 66846641) (by decide) (State.imageAt_same ..) (MemKept.refl _)
  · exact MemKept.refl _

theorem State.writeVia_memKept (s : State) (p : Path) (addr : Nat) (v : Nat) (be : Nat) (eff : State → State) (hf : ∀ s, MemKept s (eff s)) : MemKept s (State.writeVia s p addr v be eff) := by
  unfold State.writeVia
  repeat' with_reducible first
    | exact MemKept.refl _
    | apply MemKept.trans _ (State.writeBy_memKept _ _ _ _ _ hf)
    | apply hf
    | apply MemKept.trans _ (hf _)
    | apply MemKept.after (m := 67108855) (by decide) (State.raiseIf_same ..)
    | apply MemKept.after (m := 67108853) (by decide) (State.refuse_same ..)
    | apply MemKept.after (m := 67108837) (by decide) (State.addShadow_same ..)
    | apply MemKept.after (m := 66846641) (by decide) (State.imageAt_same ..)
    | apply MemKept.after (m := 67108855) (by decide) (State.raise_same ..)
    | apply MemKept.after (m := 67108845) (by decide) (State.dropSlot_same ..)
    | apply MemKept.trans _ (foldl_memKept _ _ _ (fun _ _ => ?_))
    | apply MemKept.trans _ (foldl_memKept1 _ _ _ (fun _ _ => ?_))
    | apply MemKept.ite
    | apply MemKept.ite1
    | apply MemKept.ite2
    | extract_lets
    | split
    | dsimp -zeta only
    | dsimp +zetaDelta only

theorem State.writeWord_memKept (s : State) (p : Path) (addr : Nat) (v : Nat) (be : Nat) : MemKept s (State.writeWord s p addr v be) := by
  unfold State.writeWord
  repeat' with_reducible first
    | exact MemKept.refl _
    | apply MemKept.trans _ (State.writeVia_memKept _ _ _ _ _ _ (fun _ => ?_))
    | apply MemKept.trans _ (State.txnCommit_memKept ..)
    | apply MemKept.after (m := 67108837) (by decide) (State.txnAbort_same ..)
    | apply MemKept.trans _ (State.settled_memKept ..)
    | apply MemKept.trans _ (State.applyDirect_memKept ..)
    | apply MemKept.trans _ (foldl_memKept _ _ _ (fun _ _ => ?_))
    | apply MemKept.trans _ (foldl_memKept1 _ _ _ (fun _ _ => ?_))
    | apply MemKept.ite
    | apply MemKept.ite1
    | apply MemKept.ite2
    | extract_lets
    | split
    | dsimp -zeta only
    | dsimp +zetaDelta only

theorem State.write_memKept (s : State) (p : Path) (addr : Nat) (v : Nat) (be : Nat) : MemKept s (State.write s p addr v be) := by
  unfold State.write
  repeat' with_reducible first
    | exact MemKept.refl _
    | exact State.writeWord_memKept ..
    | apply MemKept.trans _ (State.writeVia_memKept _ _ _ _ _ _ (fun s => MemKept.refl s))
    | extract_lets
    | split
    | dsimp +zetaDelta only

theorem State.svcWrite_memKept (s : State) (a : Nat) (v : Nat) : MemKept s (State.svcWrite s a v).1 := by
  unfold State.svcWrite
  repeat' with_reducible first
    | exact MemKept.refl _
    | apply MemKept.trans _ (State.write_memKept ..)
    | apply MemKept.trans _ (foldl_memKept _ _ _ (fun _ _ => ?_))
    | apply MemKept.trans _ (foldl_memKept1 _ _ _ (fun _ _ => ?_))
    | apply MemKept.ite
    | apply MemKept.ite1
    | apply MemKept.ite2
    | extract_lets
    | split
    | dsimp -zeta only
    | dsimp +zetaDelta only

theorem State.thermalTrip_memKept (s : State) (sensor : Nat) : MemKept s (State.thermalTrip s sensor) := by
  unfold State.thermalTrip
  repeat' with_reducible first
    | exact MemKept.refl _
    | apply MemKept.after (m := 45883765) (by decide) (State.detach_same ..)
    | apply MemKept.after (m := 62898165) (by decide) (State.vbReq_same ..)
    | apply MemKept.after (m := 67108861) (by decide) (State.sat_same ..)
    | apply MemKept.after (m := 67108861) (by decide) (State.sets_same ..)
    | apply MemKept.after (m := 67108855) (by decide) (State.emit_same ..)
    | apply MemKept.after (m := 66846719) (by decide) (State.mapPwr_same ..)
    | apply MemKept.trans _ (State.darken_memKept ..)
    | apply MemKept.trans _ (foldl_memKept _ _ _ (fun _ _ => ?_))
    | apply MemKept.trans _ (foldl_memKept1 _ _ _ (fun _ _ => ?_))
    | apply MemKept.ite
    | apply MemKept.ite1
    | apply MemKept.ite2
    | extract_lets
    | split
    | dsimp -zeta only
    | dsimp +zetaDelta only

theorem State.warmPin_memKept (s : State) : MemKept s (State.warmPin s) := by
  unfold State.warmPin
  repeat' with_reducible first
    | exact MemKept.refl _
    | apply MemKept.trans _ (State.thermalWarm_memKept ..)
    | apply MemKept.trans _ (State.warmStart_memKept ..)
    | apply MemKept.after (m := 66846719) (by decide) (State.undark_same ..)
    | apply MemKept.trans _ (foldl_memKept _ _ _ (fun _ _ => ?_))
    | apply MemKept.trans _ (foldl_memKept1 _ _ _ (fun _ _ => ?_))
    | apply MemKept.ite
    | apply MemKept.ite1
    | apply MemKept.ite2
    | extract_lets
    | split
    | dsimp -zeta only
    | dsimp +zetaDelta only

theorem State.writeRun_memKept (s : State) (a : Nat) (x2 : List Nat) : MemKept s (State.writeRun s a x2).1 := by
  induction x2 generalizing s a with
  | nil => exact MemKept.refl _
  | cons a l ih =>
    unfold State.writeRun
    repeat' with_reducible first
      | exact MemKept.refl _
      | apply MemKept.trans _ (State.svcWrite_memKept ..)
      | apply MemKept.trans _ (foldl_memKept _ _ _ (fun _ _ => ?_))
      | apply MemKept.trans _ (foldl_memKept1 _ _ _ (fun _ _ => ?_))
      | apply MemKept.trans _ (ih ..)
      | apply MemKept.ite
      | apply MemKept.ite1
      | apply MemKept.ite2
      | extract_lets
      | split
      | dsimp -zeta only
      | dsimp +zetaDelta only

theorem State.instantMet_memKept (s : State) (i : Nat) : MemKept s (State.instantMet s i) := by
  unfold State.instantMet
  repeat' with_reducible first
    | exact MemKept.refl _
    | apply MemKept.after (m := 67108847) (by decide) (State.markMet_same ..)
    | apply MemKept.trans _ (State.settled_memKept ..)
    | apply MemKept.trans _ (foldl_memKept _ _ _ (fun _ _ => ?_))
    | apply MemKept.trans _ (foldl_memKept1 _ _ _ (fun _ _ => ?_))
    | apply MemKept.ite
    | apply MemKept.ite1
    | apply MemKept.ite2
    | extract_lets
    | split
    | dsimp -zeta only
    | dsimp +zetaDelta only

theorem State.fromDock_memKept (s : State) (n : Fin 16) (tch : Fin 32) (op : Nat) (ch : BitVec 16) (due : Option (BitVec 64)) (payload : List (BitVec 8)) : MemKept s (State.fromDock s n tch op ch due payload) := by
  unfold State.fromDock
  repeat' with_reducible first
    | exact MemKept.refl _
    | apply MemKept.after (m := 67108861) (by decide) (State.cellsIn_same ..)
    | apply MemKept.after (m := 50327413) (by decide) (State.cellsOut_same ..)
    | apply MemKept.after (m := 66846709) (by decide) (State.shutOut_same ..)
    | apply MemKept.trans _ (State.sigEnter_memKept ..)
    | apply MemKept.trans _ (foldl_memKept _ _ _ (fun _ _ => ?_))
    | apply MemKept.trans _ (foldl_memKept1 _ _ _ (fun _ _ => ?_))
    | apply MemKept.ite
    | apply MemKept.ite1
    | apply MemKept.ite2
    | extract_lets
    | split
    | dsimp -zeta only
    | dsimp +zetaDelta only

theorem State.respond_memKept (s : State) (n : Fin 16) (tch : Fin 32) (op : Nat) (q : BitVec 16) (status : BitVec 8) (d : List (BitVec 8)) : MemKept s (State.respond s n tch op q status d) := by
  unfold State.respond
  repeat' with_reducible first
    | exact MemKept.refl _
    | apply MemKept.after (m := 67108861) (by decide) (State.cellsIn_same ..)
    | apply MemKept.after (m := 50327413) (by decide) (State.cellsOut_same ..)
    | apply MemKept.after (m := 66846709) (by decide) (State.shutOut_same ..)
    | apply MemKept.trans _ (State.sigEnter_memKept ..)
    | apply MemKept.trans _ (foldl_memKept _ _ _ (fun _ _ => ?_))
    | apply MemKept.trans _ (foldl_memKept1 _ _ _ (fun _ _ => ?_))
    | apply MemKept.ite
    | apply MemKept.ite1
    | apply MemKept.ite2
    | extract_lets
    | split
    | dsimp -zeta only
    | dsimp +zetaDelta only

theorem State.writeWide_memKept (s : State) (p : Path) (addr : Nat) (words : List Word) (ens : List (BitVec 4)) : MemKept s (State.writeWide s p addr words ens) := by
  unfold State.writeWide
  repeat' with_reducible first
    | exact MemKept.refl _
    | apply MemKept.trans _ (State.write_memKept ..)
    | apply MemKept.trans _ (State.writeWord_memKept ..)
    | apply MemKept.trans _ (foldl_memKept _ _ _ (fun _ _ => ?_))
    | apply MemKept.trans _ (foldl_memKept1 _ _ _ (fun _ _ => ?_))
    | apply MemKept.ite
    | apply MemKept.ite1
    | apply MemKept.ite2
    | extract_lets
    | split
    | dsimp -zeta only
    | dsimp +zetaDelta only

theorem State.onPll_memKept (s : State) : MemKept s (State.onPll s) := by
  unfold State.onPll
  repeat' with_reducible first
    | exact MemKept.refl _
    | apply MemKept.trans _ (State.engReload_memKept ..)
    | apply MemKept.after (m := 67108861) (by decide) (State.macroUp_same ..)
    | apply MemKept.after (m := 66846719) (by decide) (State.mapPwr_same ..)
    | apply MemKept.after (m := 67108861) (by decide) (State.set_same ..)
    | apply MemKept.after (m := 67108861) (by decide) (State.sets_same ..)
    | apply MemKept.after (m := 50327333) (by decide) (State.timeReturn_same ..)
    | apply MemKept.trans _ (foldl_memKept _ _ _ (fun _ _ => ?_))
    | apply MemKept.trans _ (foldl_memKept1 _ _ _ (fun _ _ => ?_))
    | apply MemKept.ite
    | apply MemKept.ite1
    | apply MemKept.ite2
    | extract_lets
    | split
    | dsimp -zeta only
    | dsimp +zetaDelta only

theorem State.atOutput_memKept (s : State) (c : Cell) (crcOk : Bool) : MemKept s (State.atOutput s c crcOk) := by
  unfold State.atOutput
  repeat' with_reducible first
    | exact MemKept.refl _
    | apply MemKept.after (m := 49868661) (by decide) (State.coreArrived_same ..)
    | apply MemKept.after (m := 67100533) (by decide) (State.crcFailure_same ..)
    | apply MemKept.after (m := 67108855) (by decide) (State.emit_same ..)
    | apply MemKept.after (m := 67104759) (by decide) (State.endCell_same ..)
    | apply MemKept.after (m := 67108735) (by decide) (State.mapCell_same ..)
    | apply MemKept.after (m := 67108735) (by decide) (State.outUsed_same ..)
    | apply MemKept.after (m := 67108735) (by decide) (State.setStream_same ..)
    | apply MemKept.trans _ (State.sigArrived_memKept ..)
    | apply MemKept.after (m := 66908149) (by decide) (State.toDock_same ..)
    | apply MemKept.trans _ (foldl_memKept _ _ _ (fun _ _ => ?_))
    | apply MemKept.trans _ (foldl_memKept1 _ _ _ (fun _ _ => ?_))
    | apply MemKept.ite
    | apply MemKept.ite1
    | apply MemKept.ite2
    | extract_lets
    | split
    | dsimp -zeta only
    | dsimp +zetaDelta only

end Sys2Proof.Machine
end

