-- ==== Sys2Proof/Laws/Otp.lean ====
section
/-! SUPPORT. No operation un-blows a bit of OTP (R435, R439, R451): the operations that reach the OTP part, one lemma each. -/

set_option linter.all false

namespace Sys2Proof.Machine

theorem OtpKept.refl (s : State) : OtpKept s s := ⟨fun _ _ h => h⟩

theorem OtpKept.trans {s t u : State} (a : OtpKept s t) (b : OtpKept t u) : OtpKept s u :=
  ⟨fun w k h => b.kept w k (a.kept w k h)⟩

/-- An operation that leaves the OTP part alone. -/
theorem OtpKept.after {m : Nat} {s t u : State} (h : Nat.land m 1048576 = 1048576) (b : Same m t u) (a : OtpKept s t) : OtpKept s u := by
  have hb : m.testBit 20 = true := bit_of_sub (k := 2 ^ 20) (by
    show 1048576 &&& m = _
    rw [Nat.and_comm]
    exact h) (Nat.testBit_two_pow_self)
  have e : u.otp = t.otp := b.part .otp hb
  refine ⟨fun w k hk => ?_⟩
  have := a.kept w k hk
  unfold State.blown State.otpWord at *
  rw [e]
  exact this

theorem OtpKept.ite {s t u : State} {c : Prop} [Decidable c] (a : OtpKept s t) (b : OtpKept s u) : OtpKept s (if c then t else u) := by
  split
  · exact a
  · exact b

theorem foldl_kept {α : Type} (g : State → α → State) (l : List α) (s : State) (h : ∀ s a, OtpKept s (g s a)) : OtpKept s (l.foldl g s) := by
  induction l generalizing s with
  | nil => exact OtpKept.refl s
  | cons a l ih => exact (h s a).trans (ih _)

theorem hasBit_testBit (n k : Nat) : hasBit n k = n.testBit k := by
  rw [Nat.testBit_eq_decide_div_mod_eq]
  unfold hasBit
  cases Nat.mod_two_eq_zero_or_one (n / 2 ^ k) with
  | inl h => simp [h]
  | inr h => simp [h]

theorem hasBit_lor (a b k : Nat) (h : hasBit a k = true) : hasBit (Nat.lor a b) k = true := by
  rw [hasBit_testBit] at *
  show (a ||| b).testBit k = true
  rw [Nat.testBit_or, h, Bool.true_or]

/-- Blowing more bits of a word keeps those already blown. -/
theorem blow_kept (s : State) (w x : Nat) :
    OtpKept s (s.mapOtp (fun o => { o with words := tput 0 o.words w (Nat.lor (tget 0 o.words w) x) })) := by
  refine ⟨fun v b hb => ?_⟩
  unfold State.blown State.otpWord State.mapOtp at *
  dsimp only
  rw [tget_tput]
  split
  · rename_i h
    subst h
    exact hasBit_lor _ _ _ hb
  · exact hb

theorem State.mapOtp_kept (s : State) (f : OtpSt → OtpSt) (h : (f s.otp).words = s.otp.words) : OtpKept s (s.mapOtp f) := by
  refine ⟨fun w b hb => ?_⟩
  unfold State.blown State.otpWord State.mapOtp at *
  rw [h]
  exact hb

theorem State.otpPut_kept (s : State) (w : Nat) (l : List Nat) : OtpKept s (s.otpPut w l) := by
  induction l generalizing s w with
  | nil => exact OtpKept.refl _
  | cons x l ih => exact OtpKept.trans (blow_kept s w x) (ih ..)

theorem State.lcBlow_kept (s : State) (target : Nat) : OtpKept s (State.lcBlow s target) := by
  unfold State.lcBlow
  repeat' with_reducible first
    | exact OtpKept.refl _
    | apply OtpKept.after (m := 67108855) (by decide) (State.raise_same ..)
    | apply OtpKept.trans _ (State.otpPut_kept ..)
    | apply OtpKept.trans _ (State.mapOtp_kept _ _ rfl)
    | apply OtpKept.trans _ (foldl_kept _ _ _ (fun _ _ => ?_))
    | apply OtpKept.ite
    | extract_lets
    | split
    | dsimp -zeta only
    | dsimp +zetaDelta only

theorem State.otpCut_kept (s : State) : OtpKept s (State.otpCut s) := by
  unfold State.otpCut
  repeat' with_reducible first
    | exact OtpKept.refl _
    | apply OtpKept.trans _ (State.mapOtp_kept _ _ rfl)
    | apply OtpKept.after (m := 50331647) (by decide) (State.fresh_same ..)
    | apply OtpKept.trans _ (State.lcBlow_kept ..)
    | apply OtpKept.ite
    | extract_lets
    | split
    | dsimp -zeta only
    | dsimp +zetaDelta only

theorem State.fabricReset_kept (s0 : State) : OtpKept s0 (State.fabricReset s0) := by
  unfold State.fabricReset
  exact OtpKept.trans (State.otpCut_kept s0) ⟨fun _ _ h => h⟩

theorem State.readOtp_kept (s : State) : OtpKept s (State.readOtp s) := by
  unfold State.readOtp
  repeat' with_reducible first
    | exact OtpKept.refl _
    | apply OtpKept.trans _ (State.mapOtp_kept _ _ rfl)
    | apply OtpKept.after (m := 67108855) (by decide) (State.raiseIf_same ..)
    | apply OtpKept.after (m := 67108861) (by decide) (State.sets_same ..)
    | apply OtpKept.ite
    | extract_lets
    | split
    | dsimp -zeta only
    | dsimp +zetaDelta only

theorem State.startInit_kept (s : State) (aonLost : Bool) (tested : Bool) : OtpKept s (State.startInit s aonLost tested) := by
  unfold State.startInit
  repeat' with_reducible first
    | exact OtpKept.refl _
    | apply OtpKept.after (m := 66584573) (by decide) (State.drbgStart_same ..)
    | apply OtpKept.after (m := 67108855) (by decide) (State.emit_same ..)
    | apply OtpKept.after (m := 49807357) (by decide) (State.formRoot_same ..)
    | apply OtpKept.after (m := 66584575) (by decide) (State.mapVault_same ..)
    | apply OtpKept.after (m := 67108861) (by decide) (State.pdRoles_same ..)
    | apply OtpKept.after (m := 67108855) (by decide) (State.raiseIf_same ..)
    | apply OtpKept.trans _ (State.readOtp_kept ..)
    | apply OtpKept.after (m := 67108861) (by decide) (State.set_same ..)
    | apply OtpKept.after (m := 66706805) (by decide) (State.startMap_same ..)
    | apply OtpKept.trans _ (foldl_kept _ _ _ (fun _ _ => ?_))
    | apply OtpKept.ite
    | extract_lets
    | split
    | dsimp -zeta only
    | dsimp +zetaDelta only

theorem State.warmStart_kept (s : State) (cause : Nat) (rail : Nat) (prefer : (Option Nat)) : OtpKept s (State.warmStart s cause rail prefer) := by
  unfold State.warmStart
  repeat' with_reducible first
    | exact OtpKept.refl _
    | apply OtpKept.after (m := 67108861) (by decide) (State.sets_same ..)
    | apply OtpKept.after (m := 66846719) (by decide) (State.mapPwr_same ..)
    | apply OtpKept.trans _ (State.fabricReset_kept ..)
    | apply OtpKept.trans _ (State.startInit_kept ..)
    | apply OtpKept.after (m := 67108799) (by decide) (State.clearCounted_same ..)
    | apply OtpKept.ite
    | extract_lets
    | split
    | dsimp -zeta only
    | dsimp +zetaDelta only

theorem State.rstCmd_kept (s : State) (v : Nat) : OtpKept s (State.rstCmd s v) := by
  unfold State.rstCmd
  repeat' with_reducible first
    | exact OtpKept.refl _
    | apply OtpKept.trans _ (State.warmStart_kept ..)
    | apply OtpKept.after (m := 9445733) (by decide) (State.shutdown_same ..)
    | apply OtpKept.ite
    | extract_lets
    | split
    | dsimp -zeta only
    | dsimp +zetaDelta only

theorem State.lcAccept_kept (s : State) (target : Nat) : OtpKept s (State.lcAccept s target) := by
  unfold State.lcAccept
  repeat' with_reducible first
    | exact OtpKept.refl _
    | apply OtpKept.after (m := 66584573) (by decide) (State.emptyAll_same ..)
    | apply OtpKept.after (m := 64487421) (by decide) (State.eraseRoot_same ..)
    | apply OtpKept.trans _ (State.mapOtp_kept _ _ rfl)
    | apply OtpKept.after (m := 67108861) (by decide) (State.sets_same ..)
    | apply OtpKept.ite
    | extract_lets
    | split
    | dsimp -zeta only
    | dsimp +zetaDelta only

theorem State.otpGo_kept (s : State) : OtpKept s (State.otpGo s) := by
  unfold State.otpGo
  repeat' with_reducible first
    | exact OtpKept.refl _
    | apply OtpKept.after (m := 67108861) (by decide) (State.set_same ..)
    | apply OtpKept.trans _ (State.mapOtp_kept _ _ rfl)
    | apply OtpKept.ite
    | extract_lets
    | split
    | dsimp -zeta only
    | dsimp +zetaDelta only

theorem State.vaultFx_kept (s : State) (s0 : State) (x : Wr) : OtpKept s (State.vaultFx s s0 x) := by
  unfold State.vaultFx
  repeat' with_reducible first
    | exact OtpKept.refl _
    | apply OtpKept.trans _ (State.lcAccept_kept ..)
    | apply OtpKept.after (m := 49807349) (by decide) (State.rootGen_same ..)
    | apply OtpKept.after (m := 66584573) (by decide) (State.drbgStart_same ..)
    | apply OtpKept.after (m := 49807357) (by decide) (State.kvRun_same ..)
    | apply OtpKept.trans _ (State.otpGo_kept ..)
    | apply OtpKept.ite
    | extract_lets
    | split
    | dsimp -zeta only
    | dsimp +zetaDelta only

theorem State.effect_kept (s : State) (s0 : State) (x : Wr) : OtpKept s (State.effect s s0 x) := by
  unfold State.effect
  repeat' with_reducible first
    | exact OtpKept.refl _
    | apply OtpKept.after (m := 65011709) (by decide) (State.bistGo_same ..)
    | apply OtpKept.after (m := 67043325) (by decide) (State.brFx_same ..)
    | apply OtpKept.after (m := 50094449) (by decide) (State.dockFx_same ..)
    | apply OtpKept.after (m := 16277861) (by decide) (State.engFx_same ..)
    | apply OtpKept.after (m := 67108855) (by decide) (State.eventFx_same ..)
    | apply OtpKept.after (m := 50065393) (by decide) (State.laneFx_same ..)
    | apply OtpKept.after (m := 67108851) (by decide) (State.mailFx_same ..)
    | apply OtpKept.after (m := 50282869) (by decide) (State.poolFx_same ..)
    | apply OtpKept.after (m := 49963361) (by decide) (State.portFx_same ..)
    | apply OtpKept.after (m := 45883509) (by decide) (State.powFx_same ..)
    | apply OtpKept.after (m := 66846709) (by decide) (State.powerFx_same ..)
    | apply OtpKept.trans _ (State.rstCmd_kept ..)
    | apply OtpKept.after (m := 50319205) (by decide) (State.schedFx_same ..)
    | apply OtpKept.after (m := 67076081) (by decide) (State.soFx_same ..)
    | apply OtpKept.after (m := 67076093) (by decide) (State.stepScan_same ..)
    | apply OtpKept.after (m := 50130725) (by decide) (State.timeFx_same ..)
    | apply OtpKept.after (m := 62914557) (by decide) (State.usbFx_same ..)
    | apply OtpKept.trans _ (State.vaultFx_kept ..)
    | apply OtpKept.trans _ (foldl_kept _ _ _ (fun _ _ => ?_))
    | apply OtpKept.ite
    | extract_lets
    | split
    | dsimp -zeta only
    | dsimp +zetaDelta only

theorem State.applyDirect_kept (s : State) (p : Nat) (addr : Nat) (v : Nat) : OtpKept s (State.applyDirect s p addr v) := by
  unfold State.applyDirect
  repeat' with_reducible first
    | exact OtpKept.refl _
    | apply OtpKept.after (m := 67108861) (by decide) (State.bumpIf_same ..)
    | apply OtpKept.after (m := 67108857) (by decide) (State.storeAt_same ..)
    | apply OtpKept.after (m := 66846709) (by decide) (State.headerFx_same ..)
    | apply OtpKept.trans _ (State.effect_kept ..)
    | apply OtpKept.ite
    | extract_lets
    | split
    | dsimp -zeta only
    | dsimp +zetaDelta only

theorem State.applyEntry_kept (s : State) (p : Nat) (e : Shadow) : OtpKept s (State.applyEntry s p e) := by
  unfold State.applyEntry
  repeat' with_reducible first
    | exact OtpKept.refl _
    | apply OtpKept.after (m := 67108857) (by decide) (State.storeReg_same ..)
    | apply OtpKept.after (m := 66846709) (by decide) (State.headerFx_same ..)
    | apply OtpKept.trans _ (State.effect_kept ..)
    | apply OtpKept.after (m := 66846645) (by decide) (State.imaged_same ..)
    | apply OtpKept.ite
    | extract_lets
    | split
    | dsimp -zeta only
    | dsimp +zetaDelta only

theorem State.blowEntry_kept (s : State) (r : RepEntry) : OtpKept s (State.blowEntry s r) := by
  unfold State.blowEntry
  repeat' with_reducible first
    | exact OtpKept.refl _
    | apply OtpKept.trans _ (State.otpPut_kept ..)
    | apply OtpKept.after (m := 67108855) (by decide) (State.raise_same ..)
    | apply OtpKept.after (m := 67108861) (by decide) (State.set_same ..)
    | apply OtpKept.after (m := 67100671) (by decide) (State.mapEntry_same ..)
    | apply OtpKept.ite
    | extract_lets
    | split
    | dsimp -zeta only
    | dsimp +zetaDelta only

theorem State.coldReset_kept (s0 : State) (power : Bool) : OtpKept s0 (State.coldReset s0 power) := by
  unfold State.coldReset
  exact OtpKept.trans (State.otpCut_kept s0) ⟨fun _ _ h => h⟩

theorem State.coldStart_kept (s : State) (cause : Nat) (power : Bool) : OtpKept s (State.coldStart s cause power) := by
  unfold State.coldStart
  repeat' with_reducible first
    | exact OtpKept.refl _
    | apply OtpKept.after (m := 67108861) (by decide) (State.set_same ..)
    | apply OtpKept.trans _ (State.coldReset_kept ..)
    | apply OtpKept.after (m := 50130725) (by decide) (State.setLost_same ..)
    | apply OtpKept.trans _ (State.startInit_kept ..)
    | apply OtpKept.trans _ (foldl_kept _ _ _ (fun _ _ => ?_))
    | apply OtpKept.ite
    | extract_lets
    | split
    | dsimp -zeta only
    | dsimp +zetaDelta only

theorem State.commit_kept (s : State) (i : Nat) (late : Bool) : OtpKept s (State.commit s i late) := by
  unfold State.commit
  repeat' with_reducible first
    | exact OtpKept.refl _
    | apply OtpKept.trans _ (State.applyEntry_kept ..)
    | apply OtpKept.after (m := 67108861) (by decide) (State.bump_same ..)
    | apply OtpKept.after (m := 67108861) (by decide) (State.set64_same ..)
    | apply OtpKept.after (m := 67108861) (by decide) (State.wrap_same ..)
    | apply OtpKept.after (m := 67108845) (by decide) (State.freeSlot_same ..)
    | apply OtpKept.after (m := 67108855) (by decide) (State.raiseIf_same ..)
    | apply OtpKept.after (m := 67108855) (by decide) (State.raise_same ..)
    | apply OtpKept.after (m := 67108861) (by decide) (State.wheelSub_same ..)
    | apply OtpKept.trans _ (foldl_kept _ _ _ (fun _ _ => ?_))
    | apply OtpKept.ite
    | extract_lets
    | split
    | dsimp -zeta only
    | dsimp +zetaDelta only

theorem State.thermalWarm_kept (s : State) : OtpKept s (State.thermalWarm s) := by
  unfold State.thermalWarm
  repeat' with_reducible first
    | exact OtpKept.refl _
    | apply OtpKept.after (m := 67108855) (by decide) (State.raise_same ..)
    | apply OtpKept.trans _ (State.warmStart_kept ..)
    | apply OtpKept.after (m := 66846719) (by decide) (State.undark_same ..)
    | apply OtpKept.ite
    | extract_lets
    | split
    | dsimp -zeta only
    | dsimp +zetaDelta only

theorem State.cooled_kept (s : State) : OtpKept s (State.cooled s) := by
  unfold State.cooled
  repeat' with_reducible first
    | exact OtpKept.refl _
    | apply OtpKept.trans _ (State.thermalWarm_kept ..)
    | apply OtpKept.after (m := 66846719) (by decide) (State.mapPwr_same ..)
    | apply OtpKept.ite
    | extract_lets
    | split
    | dsimp -zeta only
    | dsimp +zetaDelta only

theorem State.darken_kept (s : State) (why : Nat) : OtpKept s (State.darken s why) := by
  unfold State.darken
  repeat' with_reducible first
    | exact OtpKept.refl _
    | apply OtpKept.after (m := 67108861) (by decide) (State.sets_same ..)
    | apply OtpKept.after (m := 66846719) (by decide) (State.mapPwr_same ..)
    | apply OtpKept.trans _ (State.fabricReset_kept ..)
    | apply OtpKept.ite
    | extract_lets
    | split
    | dsimp -zeta only
    | dsimp +zetaDelta only

theorem State.settle_kept (x0 : Nat) (x1 : State) : OtpKept x1 (State.settle x0 x1) := by
  induction x0 generalizing x1 with
  | zero => exact OtpKept.refl _
  | succ n ih =>
    unfold State.settle
    repeat' with_reducible first
      | exact OtpKept.refl _
      | apply OtpKept.after (m := 67107821) (by decide) (State.drainBegin_same ..)
      | apply OtpKept.trans _ (State.commit_kept ..)
      | apply OtpKept.trans _ (ih ..)
      | apply OtpKept.ite
      | extract_lets
      | split
      | dsimp -zeta only
      | dsimp +zetaDelta only

theorem State.settled_kept (s : State) : OtpKept s (State.settled s) := by
  unfold State.settled
  repeat' with_reducible first
    | exact OtpKept.refl _
    | apply OtpKept.trans _ (State.settle_kept ..)
    | apply OtpKept.ite
    | extract_lets
    | split
    | dsimp -zeta only
    | dsimp +zetaDelta only

theorem State.drainEnd_kept (s : State) : OtpKept s (State.drainEnd s) := by
  unfold State.drainEnd
  repeat' with_reducible first
    | exact OtpKept.refl _
    | apply OtpKept.trans _ (State.commit_kept ..)
    | apply OtpKept.after (m := 67107829) (by decide) (State.drainRecord_same ..)
    | apply OtpKept.trans _ (State.settled_kept ..)
    | apply OtpKept.after (m := 50291061) (by decide) (State.releaseHeld_same ..)
    | apply OtpKept.after (m := 67108855) (by decide) (State.raise_same ..)
    | apply OtpKept.trans _ (foldl_kept _ _ _ (fun _ _ => ?_))
    | apply OtpKept.ite
    | extract_lets
    | split
    | dsimp -zeta only
    | dsimp +zetaDelta only

theorem State.otpDone_kept (s : State) (ok : Bool) : OtpKept s (State.otpDone s ok) := by
  unfold State.otpDone
  repeat' with_reducible first
    | exact OtpKept.refl _
    | apply OtpKept.trans _ (State.mapOtp_kept _ _ rfl)
    | apply OtpKept.after (m := 67108861) (by decide) (State.set_same ..)
    | apply OtpKept.after (m := 67108855) (by decide) (State.raise_same ..)
    | apply OtpKept.after (m := 67108861) (by decide) (State.sets_same ..)
    | apply OtpKept.trans _ (State.otpPut_kept ..)
    | apply OtpKept.after (m := 50331647) (by decide) (State.fresh_same ..)
    | apply OtpKept.trans _ (foldl_kept _ _ _ (fun _ _ => ?_))
    | apply OtpKept.ite
    | extract_lets
    | split
    | dsimp -zeta only
    | dsimp +zetaDelta only

theorem State.porst_kept (s : State) : OtpKept s (State.porst s) := by
  unfold State.porst
  repeat' with_reducible first
    | exact OtpKept.refl _
    | apply OtpKept.after (m := 67108861) (by decide) (State.set_same ..)
    | apply OtpKept.after (m := 67108855) (by decide) (State.raise_same ..)
    | apply OtpKept.trans _ (State.coldStart_kept ..)
    | apply OtpKept.after (m := 66846719) (by decide) (State.undark_same ..)
    | apply OtpKept.ite
    | extract_lets
    | split
    | dsimp -zeta only
    | dsimp +zetaDelta only

theorem State.railRelease_kept (s : State) (k : Nat) : OtpKept s (State.railRelease s k) := by
  unfold State.railRelease
  repeat' with_reducible first
    | exact OtpKept.refl _
    | apply OtpKept.after (m := 66846719) (by decide) (State.undark_same ..)
    | apply OtpKept.trans _ (State.coldStart_kept ..)
    | apply OtpKept.after (m := 67108861) (by decide) (State.macroUp_same ..)
    | apply OtpKept.after (m := 66837885) (by decide) (State.reapply_same ..)
    | apply OtpKept.trans _ (foldl_kept _ _ _ (fun _ _ => ?_))
    | apply OtpKept.ite
    | extract_lets
    | split
    | dsimp -zeta only
    | dsimp +zetaDelta only

theorem State.railReset_kept (s : State) (k : Nat) : OtpKept s (State.railReset s k) := by
  unfold State.railReset
  repeat' with_reducible first
    | exact OtpKept.refl _
    | apply OtpKept.after (m := 67108855) (by decide) (State.raise_same ..)
    | apply OtpKept.after (m := 67108861) (by decide) (State.set_same ..)
    | apply OtpKept.after (m := 66846719) (by decide) (State.mapPwr_same ..)
    | apply OtpKept.trans _ (State.warmStart_kept ..)
    | apply OtpKept.after (m := 16015393) (by decide) (State.serdesReset_same ..)
    | apply OtpKept.after (m := 50130725) (by decide) (State.ioLost_same ..)
    | apply OtpKept.ite
    | extract_lets
    | split
    | dsimp -zeta only
    | dsimp +zetaDelta only

theorem State.recordTest_kept (s : State) : OtpKept s (State.recordTest s) := by
  unfold State.recordTest
  have h1 : OtpKept s { s with repair := passEntries s.rep.tested ((s.rep.fails.map s.failEntries).flatten).eraseDups s.repair } :=
    ⟨fun _ _ h => h⟩
  exact (h1.trans (foldl_kept _ _ _ (fun s a => OtpKept.after (m := 67100661) (by decide) (State.recordFail_same ..) (OtpKept.refl _)))).trans
    (foldl_kept _ _ _ (fun s a => State.blowEntry_kept ..))

theorem State.recorded_kept (s : State) : OtpKept s (State.recorded s) := by
  unfold State.recorded
  repeat' with_reducible first
    | exact OtpKept.refl _
    | apply OtpKept.after (m := 67108861) (by decide) (State.set_same ..)
    | apply OtpKept.trans _ (State.recordTest_kept ..)
    | apply OtpKept.ite
    | extract_lets
    | split
    | dsimp -zeta only
    | dsimp +zetaDelta only

theorem State.shutdownDone_kept (s : State) (ms : Nat) : OtpKept s (State.shutdownDone s ms) := by
  unfold State.shutdownDone
  repeat' with_reducible first
    | exact OtpKept.refl _
    | apply OtpKept.after (m := 67108861) (by decide) (State.sets_same ..)
    | apply OtpKept.trans _ (State.warmStart_kept ..)
    | apply OtpKept.trans _ (State.darken_kept ..)
    | apply OtpKept.ite
    | extract_lets
    | split
    | dsimp -zeta only
    | dsimp +zetaDelta only

theorem State.txnCommit_kept (s : State) (p : Path) (v : Nat) : OtpKept s (State.txnCommit s p v) := by
  unfold State.txnCommit
  repeat' with_reducible first
    | exact OtpKept.refl _
    | apply OtpKept.after (m := 67108853) (by decide) (State.stale_same ..)
    | apply OtpKept.after (m := 67108853) (by decide) (State.refuse_same ..)
    | apply OtpKept.after (m := 67108845) (by decide) (State.dropSlot_same ..)
    | apply OtpKept.trans _ (State.settled_kept ..)
    | apply OtpKept.after (m := 67108837) (by decide) (State.armSlot_same ..)
    | apply OtpKept.ite
    | extract_lets
    | split
    | dsimp -zeta only
    | dsimp +zetaDelta only

theorem State.writeBy_kept (s : State) (p : Nat) (addr : Nat) (v : Nat) (eff : State → State) (hf : ∀ s, OtpKept s (eff s)) :
    OtpKept s (State.writeBy s p addr v eff) := by
  unfold State.writeBy
  split
  · exact hf _
  · exact OtpKept.after (m := 66846641) (by decide) (State.imageAt_same ..) (OtpKept.refl _)
  · exact OtpKept.refl _

theorem State.writeVia_kept (s : State) (p : Path) (addr : Nat) (v : Nat) (be : Nat) (eff : State → State) (hf : ∀ s, OtpKept s (eff s)) :
    OtpKept s (State.writeVia s p addr v be eff) := by
  unfold State.writeVia
  split
  · exact OtpKept.refl _
  · exact OtpKept.after (m := 67108855) (by decide) (State.raiseIf_same ..)
      (OtpKept.after (m := 67108853) (by decide) (State.refuse_same ..) (OtpKept.refl _))
  · exact OtpKept.after (m := 67108837) (by decide) (State.addShadow_same ..) (OtpKept.refl _)
  · exact OtpKept.after (m := 66846641) (by decide) (State.imageAt_same ..) (OtpKept.refl _)
  · exact OtpKept.trans (OtpKept.after (m := 67108855) (by decide) (State.raise_same ..)
      (OtpKept.after (m := 67108845) (by decide) (State.dropSlot_same ..) (OtpKept.refl _))) (State.writeBy_kept _ _ _ _ _ hf)
  · exact hf _

theorem State.writeWord_kept (s : State) (p : Path) (addr : Nat) (v : Nat) (be : Nat) : OtpKept s (State.writeWord s p addr v be) := by
  unfold State.writeWord
  split
  · exact State.writeVia_kept _ _ _ _ _ _ (fun s => State.txnCommit_kept ..)
  · split
    · exact State.writeVia_kept _ _ _ _ _ _ (fun s => OtpKept.after (m := 67108837) (by decide) (State.txnAbort_same ..) (OtpKept.refl _))
    · exact State.writeVia_kept _ _ _ _ _ _ (fun s => OtpKept.trans (State.applyDirect_kept ..) (State.settled_kept ..))

theorem State.write_kept (s : State) (p : Path) (addr : Nat) (v : Nat) (be : Nat) : OtpKept s (State.write s p addr v be) := by
  unfold State.write
  repeat' with_reducible first
    | exact OtpKept.refl _
    | exact State.writeWord_kept ..
    | apply OtpKept.trans _ (State.writeVia_kept _ _ _ _ _ _ (fun s => OtpKept.refl s))
    | extract_lets
    | split
    | dsimp +zetaDelta only

theorem State.svcWrite_kept (s : State) (a : Nat) (v : Nat) : OtpKept s (State.svcWrite s a v).1 := by
  unfold State.svcWrite
  repeat' with_reducible first
    | exact OtpKept.refl _
    | apply OtpKept.trans _ (State.write_kept ..)
    | apply OtpKept.ite
    | extract_lets
    | split
    | dsimp -zeta only
    | dsimp +zetaDelta only

theorem State.thermalTrip_kept (s : State) (sensor : Nat) : OtpKept s (State.thermalTrip s sensor) := by
  unfold State.thermalTrip
  repeat' with_reducible first
    | exact OtpKept.refl _
    | apply OtpKept.after (m := 45883765) (by decide) (State.detach_same ..)
    | apply OtpKept.after (m := 62898165) (by decide) (State.vbReq_same ..)
    | apply OtpKept.after (m := 67108861) (by decide) (State.sat_same ..)
    | apply OtpKept.after (m := 67108861) (by decide) (State.sets_same ..)
    | apply OtpKept.after (m := 67108855) (by decide) (State.emit_same ..)
    | apply OtpKept.after (m := 66846719) (by decide) (State.mapPwr_same ..)
    | apply OtpKept.trans _ (State.darken_kept ..)
    | apply OtpKept.trans _ (foldl_kept _ _ _ (fun _ _ => ?_))
    | apply OtpKept.ite
    | extract_lets
    | split
    | dsimp -zeta only
    | dsimp +zetaDelta only

theorem State.warmPin_kept (s : State) : OtpKept s (State.warmPin s) := by
  unfold State.warmPin
  repeat' with_reducible first
    | exact OtpKept.refl _
    | apply OtpKept.trans _ (State.thermalWarm_kept ..)
    | apply OtpKept.trans _ (State.warmStart_kept ..)
    | apply OtpKept.after (m := 66846719) (by decide) (State.undark_same ..)
    | apply OtpKept.ite
    | extract_lets
    | split
    | dsimp -zeta only
    | dsimp +zetaDelta only

theorem State.writeRun_kept (s : State) (a : Nat) (x2 : List Nat) : OtpKept s (State.writeRun s a x2).1 := by
  induction x2 generalizing s a with
  | nil => exact OtpKept.refl _
  | cons a l ih =>
    unfold State.writeRun
    repeat' with_reducible first
      | exact OtpKept.refl _
      | apply OtpKept.trans _ (State.svcWrite_kept ..)
      | apply OtpKept.trans _ (ih ..)
      | apply OtpKept.ite
      | extract_lets
      | split
      | dsimp -zeta only
      | dsimp +zetaDelta only

theorem State.instantMet_kept (s : State) (i : Nat) : OtpKept s (State.instantMet s i) := by
  unfold State.instantMet
  repeat' with_reducible first
    | exact OtpKept.refl _
    | apply OtpKept.after (m := 67108847) (by decide) (State.markMet_same ..)
    | apply OtpKept.trans _ (State.settled_kept ..)
    | apply OtpKept.trans _ (foldl_kept _ _ _ (fun _ _ => ?_))
    | apply OtpKept.ite
    | extract_lets
    | split
    | dsimp -zeta only
    | dsimp +zetaDelta only

theorem State.writeWide_kept (s : State) (p : Path) (addr : Nat) (words : List Word) (ens : List (BitVec 4)) : OtpKept s (State.writeWide s p addr words ens) := by
  unfold State.writeWide
  repeat' with_reducible first
    | exact OtpKept.refl _
    | apply OtpKept.trans _ (State.write_kept ..)
    | apply OtpKept.trans _ (State.writeWord_kept ..)
    | apply OtpKept.trans _ (foldl_kept _ _ _ (fun _ _ => ?_))
    | apply OtpKept.ite
    | extract_lets
    | split
    | dsimp -zeta only
    | dsimp +zetaDelta only

end Sys2Proof.Machine
end

