-- ==== Sys2Proof/Laws/RunsBridgeCmd.lean ====
section
/-! SUPPORT. What each command of Machine/BridgeCmd.lean may change when it runs, as it always does. -/

set_option linter.all false

namespace Sys2Proof.Machine

theorem execSignal_runs (n : Fin 16) (tch : Fin 32) (ch : BitVec 16) (due : Option (BitVec 64)) (payload : List (BitVec 8)) (s : State) : Runs 16277877 s (execSignal n tch ch due payload s) := by
  unfold execSignal
  repeat' with_reducible first
    | apply Runs.next
    | exact Same.refl _
    | apply Same.step (m := 16277877) (by decide) (State.fromDock_same ..)
    | apply Same.trans _ (foldl_same _ _ _ (fun _ _ => ?_))
    | apply Same.trans _ (foldl_same1 _ _ _ (fun _ _ => ?_))
    | apply Same.ite
    | apply Same.ite1
    | apply Same.ite2
    | extract_lets
    | split
    | dsimp -zeta only
    | dsimp +zetaDelta only

theorem execIntr_runs (n : Fin 16) (tch : Fin 32) (ch : BitVec 16) (due : Option (BitVec 64)) (payload : List (BitVec 8)) (s : State) : Runs 16277877 s (execIntr n tch ch due payload s) := by
  unfold execIntr
  repeat' with_reducible first
    | apply Runs.next
    | exact Same.refl _
    | apply Same.step (m := 16277877) (by decide) (State.fromDock_same ..)
    | apply Same.trans _ (foldl_same _ _ _ (fun _ _ => ?_))
    | apply Same.trans _ (foldl_same1 _ _ _ (fun _ _ => ?_))
    | apply Same.ite
    | apply Same.ite1
    | apply Same.ite2
    | extract_lets
    | split
    | dsimp -zeta only
    | dsimp +zetaDelta only

theorem execRegAck_runs (n : Fin 16) (tch : Fin 32) (q : BitVec 16) (status : BitVec 8) (s : State) : Runs 16277877 s (execRegAck n tch q status s) := by
  unfold execRegAck
  repeat' with_reducible first
    | apply Runs.next
    | exact Same.refl _
    | apply Same.step (m := 16277877) (by decide) (State.respond_same ..)
    | apply Same.trans _ (foldl_same _ _ _ (fun _ _ => ?_))
    | apply Same.trans _ (foldl_same1 _ _ _ (fun _ _ => ?_))
    | apply Same.ite
    | apply Same.ite1
    | apply Same.ite2
    | extract_lets
    | split
    | dsimp -zeta only
    | dsimp +zetaDelta only

theorem execRegData_runs (n : Fin 16) (tch : Fin 32) (q : BitVec 16) (status : BitVec 8) (d : List (BitVec 8)) (s : State) : Runs 16277877 s (execRegData n tch q status d s) := by
  unfold execRegData
  repeat' with_reducible first
    | apply Runs.next
    | exact Same.refl _
    | apply Same.step (m := 16277877) (by decide) (State.respond_same ..)
    | apply Same.trans _ (foldl_same _ _ _ (fun _ _ => ?_))
    | apply Same.trans _ (foldl_same1 _ _ _ (fun _ _ => ?_))
    | apply Same.ite
    | apply Same.ite1
    | apply Same.ite2
    | extract_lets
    | split
    | dsimp -zeta only
    | dsimp +zetaDelta only

theorem execSigSend_runs (h : Fin 32) (seq : Word) (ch : BitVec 16) (op : BitVec 8) (tag : BitVec 2) (axis : Fin 8) (dir : Bool) (value : BitVec 64) (payload : List (BitVec 8)) (s : State) : Runs 16277877 s (execSigSend h seq ch op tag axis dir value payload s) := by
  unfold execSigSend
  repeat' with_reducible first
    | apply Runs.next
    | exact Same.refl _
    | apply Same.step (m := 66912245) (by decide) (State.sigFail_same ..)
    | apply Same.step (m := 16277877) (by decide) (State.sigEnter_same ..)
    | apply Same.trans _ (foldl_same _ _ _ (fun _ _ => ?_))
    | apply Same.trans _ (foldl_same1 _ _ _ (fun _ _ => ?_))
    | apply Same.ite
    | apply Same.ite1
    | apply Same.ite2
    | extract_lets
    | split
    | dsimp -zeta only
    | dsimp +zetaDelta only

theorem execEdgeRead_runs (h : Fin 32) (seq : Word) (port tch len : BitVec 8) (addr : Word) (haddr : BitVec 64) (s : State) : Runs 49868661 s (execEdgeRead h seq port tch len addr haddr s) := by
  unfold execEdgeRead
  repeat' with_reducible first
    | apply Runs.next
    | exact Same.refl _
    | apply Same.trans _ (State.edgeOp_same (K := 49868661) (by decide) _ _ _ _ _ _ _ _ (fun _ _ _ => ?_))
    | apply Same.step (m := 67043317) (by decide) (State.edgeRead_same ..)
    | apply Same.trans _ (foldl_same _ _ _ (fun _ _ => ?_))
    | apply Same.trans _ (foldl_same1 _ _ _ (fun _ _ => ?_))
    | apply Same.ite
    | apply Same.ite1
    | apply Same.ite2
    | extract_lets
    | split
    | dsimp -zeta only
    | dsimp +zetaDelta only

theorem execEdgeWrite_runs (h : Fin 32) (seq : Word) (port tch len : BitVec 8) (addr : Word) (data : List (BitVec 8)) (s : State) : Runs 49868661 s (execEdgeWrite h seq port tch len addr data s) := by
  unfold execEdgeWrite
  repeat' with_reducible first
    | apply Runs.next
    | exact Same.refl _
    | apply Same.trans _ (State.edgeOp_same (K := 49868661) (by decide) _ _ _ _ _ _ _ _ (fun _ _ _ => ?_))
    | apply Same.step (m := 67043317) (by decide) (State.opWait_same ..)
    | apply Same.trans _ (foldl_same _ _ _ (fun _ _ => ?_))
    | apply Same.trans _ (foldl_same1 _ _ _ (fun _ _ => ?_))
    | apply Same.ite
    | apply Same.ite1
    | apply Same.ite2
    | extract_lets
    | split
    | dsimp -zeta only
    | dsimp +zetaDelta only

theorem execEdgeRmw_runs (h : Fin 32) (seq : Word) (port tch len : BitVec 8) (addr : Word) (andMask xorMask : BitVec 64) (s : State) : Runs 49868661 s (execEdgeRmw h seq port tch len addr andMask xorMask s) := by
  unfold execEdgeRmw
  repeat' with_reducible first
    | apply Runs.next
    | exact Same.refl _
    | apply Same.trans _ (State.edgeOp_same (K := 49868661) (by decide) _ _ _ _ _ _ _ _ (fun _ _ _ => ?_))
    | apply Same.step (m := 67043317) (by decide) (State.opWait_same ..)
    | apply Same.trans _ (foldl_same _ _ _ (fun _ _ => ?_))
    | apply Same.trans _ (foldl_same1 _ _ _ (fun _ _ => ?_))
    | apply Same.ite
    | apply Same.ite1
    | apply Same.ite2
    | extract_lets
    | split
    | dsimp -zeta only
    | dsimp +zetaDelta only

theorem execSemTake_runs (h : Fin 32) (seq : Word) (port tch : BitVec 8) (s : State) : Runs 49868661 s (execSemTake h seq port tch s) := by
  unfold execSemTake
  repeat' with_reducible first
    | apply Runs.next
    | exact Same.refl _
    | apply Same.step (m := 67108853) (by decide) (State.cmdFail_same ..)
    | apply Same.step (m := 49868661) (by decide) (State.sigDrain_same ..)
    | apply Same.step (m := 67043317) (by decide) (State.sigGo_same ..)
    | apply Same.step (m := 67043327) (by decide) (State.mapSigTgt_same ..)
    | apply Same.trans _ (foldl_same _ _ _ (fun _ _ => ?_))
    | apply Same.trans _ (foldl_same1 _ _ _ (fun _ _ => ?_))
    | apply Same.ite
    | apply Same.ite1
    | apply Same.ite2
    | extract_lets
    | split
    | dsimp -zeta only
    | dsimp +zetaDelta only

theorem execSemGive_runs (h : Fin 32) (seq : Word) (s : State) : Runs 49868661 s (execSemGive h seq s) := by
  unfold execSemGive
  repeat' with_reducible first
    | apply Runs.next
    | exact Same.refl _
    | apply Same.step (m := 67108853) (by decide) (State.cmdFail_same ..)
    | apply Same.step (m := 67108853) (by decide) (State.stale_same ..)
    | apply Same.step (m := 49868661) (by decide) (State.sigDrain_same ..)
    | apply Same.step (m := 67043317) (by decide) (State.sigGo_same ..)
    | apply Same.step (m := 67108855) (by decide) (State.complete_same ..)
    | apply Same.step (m := 67043327) (by decide) (State.semFree_same ..)
    | apply Same.trans _ (foldl_same _ _ _ (fun _ _ => ?_))
    | apply Same.trans _ (foldl_same1 _ _ _ (fun _ _ => ?_))
    | apply Same.ite
    | apply Same.ite1
    | apply Same.ite2
    | extract_lets
    | split
    | dsimp -zeta only
    | dsimp +zetaDelta only

theorem execRegTimeout_runs (n : Fin 16) (tch : Fin 32) (q : BitVec 16) (s : State) : Runs 49868661 s (execRegTimeout n tch q s) := by
  unfold execRegTimeout
  repeat' with_reducible first
    | apply Runs.next
    | exact Same.refl _
    | apply Same.step (m := 49868661) (by decide) (State.sigDrain_same ..)
    | apply Same.step (m := 67043317) (by decide) (State.opFail_same ..)
    | apply Same.trans _ (foldl_same _ _ _ (fun _ _ => ?_))
    | apply Same.trans _ (foldl_same1 _ _ _ (fun _ _ => ?_))
    | apply Same.ite
    | apply Same.ite1
    | apply Same.ite2
    | extract_lets
    | split
    | dsimp -zeta only
    | dsimp +zetaDelta only

theorem execSemWaitTimeout_runs (h : Fin 32) (seq : Word) (s : State) : Runs 49868661 s (execSemWaitTimeout h seq s) := by
  unfold execSemWaitTimeout
  repeat' with_reducible first
    | apply Runs.next
    | exact Same.refl _
    | apply Same.step (m := 49868661) (by decide) (State.sigDrain_same ..)
    | apply Same.step (m := 67043317) (by decide) (State.sigGo_same ..)
    | apply Same.step (m := 67108853) (by decide) (State.cmdFail_same ..)
    | apply Same.step (m := 67043327) (by decide) (State.mapSigTgt_same ..)
    | apply Same.trans _ (foldl_same _ _ _ (fun _ _ => ?_))
    | apply Same.trans _ (foldl_same1 _ _ _ (fun _ _ => ?_))
    | apply Same.ite
    | apply Same.ite1
    | apply Same.ite2
    | extract_lets
    | split
    | dsimp -zeta only
    | dsimp +zetaDelta only

theorem execSemHoldLimit_runs (n : Fin 16) (tch : Fin 32) (s : State) : Runs 49868661 s (execSemHoldLimit n tch s) := by
  unfold execSemHoldLimit
  repeat' with_reducible first
    | apply Runs.next
    | exact Same.refl _
    | apply Same.step (m := 49868661) (by decide) (State.sigDrain_same ..)
    | apply Same.step (m := 67043317) (by decide) (State.semBreak_same ..)
    | apply Same.trans _ (foldl_same _ _ _ (fun _ _ => ?_))
    | apply Same.trans _ (foldl_same1 _ _ _ (fun _ _ => ?_))
    | apply Same.ite
    | apply Same.ite1
    | apply Same.ite2
    | extract_lets
    | split
    | dsimp -zeta only
    | dsimp +zetaDelta only

theorem execPoll_runs (e : Fin 256) (s : State) : Runs 49868661 s (execPoll e s) := by
  unfold execPoll
  repeat' with_reducible first
    | apply Runs.next
    | exact Same.refl _
    | apply Same.step (m := 49868661) (by decide) (State.sigDrain_same ..)
    | apply Same.step (m := 67039221) (by decide) (State.pollDue_same ..)
    | apply Same.trans _ (foldl_same _ _ _ (fun _ _ => ?_))
    | apply Same.trans _ (foldl_same1 _ _ _ (fun _ _ => ?_))
    | apply Same.ite
    | apply Same.ite1
    | apply Same.ite2
    | extract_lets
    | split
    | dsimp -zeta only
    | dsimp +zetaDelta only

theorem execRaLife_runs (b : Fin 32) (s : State) : Runs 67043317 s (execRaLife b s) := by
  unfold execRaLife
  repeat' with_reducible first
    | apply Runs.next
    | exact Same.refl _
    | apply Same.step (m := 67043317) (by decide) (State.raDrop_same ..)
    | apply Same.trans _ (foldl_same _ _ _ (fun _ _ => ?_))
    | apply Same.trans _ (foldl_same1 _ _ _ (fun _ _ => ?_))
    | apply Same.ite
    | apply Same.ite1
    | apply Same.ite2
    | extract_lets
    | split
    | dsimp -zeta only
    | dsimp +zetaDelta only

theorem execHookTimeout_runs (k : Fin 4) (s : State) : Runs 16277877 s (execHookTimeout k s) := by
  unfold execHookTimeout
  repeat' with_reducible first
    | apply Runs.next
    | exact Same.refl _
    | apply Same.step (m := 16277877) (by decide) (State.hookFail_same ..)
    | apply Same.trans _ (foldl_same _ _ _ (fun _ _ => ?_))
    | apply Same.trans _ (foldl_same1 _ _ _ (fun _ _ => ?_))
    | apply Same.ite
    | apply Same.ite1
    | apply Same.ite2
    | extract_lets
    | split
    | dsimp -zeta only
    | dsimp +zetaDelta only

theorem execRouteValid_runs (p : Path) (value : Word) (s : State) : Runs 1 s (execRouteValid p value s) := by
  unfold execRouteValid
  repeat' with_reducible first
    | apply Runs.next
    | exact Same.refl _
    | apply Same.step (m := 1) (by decide) (State.write_same ..)
    | apply Same.trans _ (foldl_same _ _ _ (fun _ _ => ?_))
    | apply Same.trans _ (foldl_same1 _ _ _ (fun _ _ => ?_))
    | apply Same.ite
    | apply Same.ite1
    | apply Same.ite2
    | extract_lets
    | split
    | dsimp -zeta only
    | dsimp +zetaDelta only

theorem execDpfClr_runs (p : Path) (s : State) : Runs 1 s (execDpfClr p s) := by
  unfold execDpfClr
  repeat' with_reducible first
    | apply Runs.next
    | exact Same.refl _
    | apply Same.step (m := 1) (by decide) (State.write_same ..)
    | apply Same.trans _ (foldl_same _ _ _ (fun _ _ => ?_))
    | apply Same.trans _ (foldl_same1 _ _ _ (fun _ _ => ?_))
    | apply Same.ite
    | apply Same.ite1
    | apply Same.ite2
    | extract_lets
    | split
    | dsimp -zeta only
    | dsimp +zetaDelta only

theorem execEngBrcmd_runs (p : Path) (e : Fin 24) (offset : BitVec 18) (s : State) : Runs 1 s (execEngBrcmd p e offset s) := by
  unfold execEngBrcmd
  repeat' with_reducible first
    | apply Runs.next
    | exact Same.refl _
    | apply Same.step (m := 1) (by decide) (State.write_same ..)
    | apply Same.trans _ (foldl_same _ _ _ (fun _ _ => ?_))
    | apply Same.trans _ (foldl_same1 _ _ _ (fun _ _ => ?_))
    | apply Same.ite
    | apply Same.ite1
    | apply Same.ite2
    | extract_lets
    | split
    | dsimp -zeta only
    | dsimp +zetaDelta only

end Sys2Proof.Machine
end

