-- ==== Sys2Proof/Laws/RunsCoreCmd.lean ====
section
/-! SUPPORT. What each command of Machine/CoreCmd.lean may change when it runs, as it always does. -/

set_option linter.all false

namespace Sys2Proof.Machine

theorem execQuarantineEnd_runs (kind : Fin 6) (id : Nat) (s : State) : Runs 50226533 s (execQuarantineEnd kind id s) := by
  unfold execQuarantineEnd
  repeat' with_reducible first
    | apply Runs.next
    | exact Same.refl _
    | apply Same.step (m := 50226533) (by decide) (State.quarEnd_same ..)
    | apply Same.trans _ (foldl_same _ _ _ (fun _ _ => ?_))
    | apply Same.trans _ (foldl_same1 _ _ _ (fun _ _ => ?_))
    | apply Same.ite
    | apply Same.ite1
    | apply Same.ite2
    | extract_lets
    | split
    | dsimp -zeta only
    | dsimp +zetaDelta only

theorem execUnknownOpcode_runs (h : Fin 32) (seq : Word) (s : State) : Runs 67108855 s (execUnknownOpcode h seq s) := by
  unfold execUnknownOpcode
  repeat' with_reducible first
    | apply Runs.next
    | exact Same.refl _
    | apply Same.step (m := 67108855) (by decide) (State.complete_same ..)
    | apply Same.trans _ (foldl_same _ _ _ (fun _ _ => ?_))
    | apply Same.trans _ (foldl_same1 _ _ _ (fun _ _ => ?_))
    | apply Same.ite
    | apply Same.ite1
    | apply Same.ite2
    | extract_lets
    | split
    | dsimp -zeta only
    | dsimp +zetaDelta only

theorem execCellArrival_runs (c : CellIn) (s : State) : Runs 49868661 s (execCellArrival c s) := by
  unfold execCellArrival
  repeat' with_reducible first
    | apply Runs.next
    | exact Same.refl _
    | apply Same.step (m := 67104757) (by decide) (State.wakeDocks_same ..)
    | apply Same.step (m := 49868661) (by decide) (State.arrive_same ..)
    | apply Same.trans _ (foldl_same _ _ _ (fun _ _ => ?_))
    | apply Same.trans _ (foldl_same1 _ _ _ (fun _ _ => ?_))
    | apply Same.ite
    | apply Same.ite1
    | apply Same.ite2
    | extract_lets
    | split
    | dsimp -zeta only
    | dsimp +zetaDelta only

end Sys2Proof.Machine
end

