-- ==== Sys2Proof/Laws/RunsDockCmd.lean ====
section
/-! SUPPORT. What each command of Machine/DockCmd.lean may change when it runs, as it always does. -/

set_option linter.all false

namespace Sys2Proof.Machine

theorem execPllLockLoss_runs (m : Fin 80) (pll : Fin 2) (both : Bool) (s : State) : Runs 49561957 s (execPllLockLoss m pll both s) := by
  unfold execPllLockLoss
  repeat' with_reducible first
    | apply Runs.next
    | exact Same.refl _
    | apply Same.step (m := 67096565) (by decide) (State.pllLost_same ..)
    | apply Same.step (m := 49570149) (by decide) (State.macroDead_same ..)
    | apply Same.step (m := 50327541) (by decide) (State.pllSwitch_same ..)
    | apply Same.trans _ (foldl_same _ _ _ (fun _ _ => ?_))
    | apply Same.trans _ (foldl_same1 _ _ _ (fun _ _ => ?_))
    | apply Same.ite
    | apply Same.ite1
    | apply Same.ite2
    | extract_lets
    | split
    | dsimp -zeta only
    | dsimp +zetaDelta only

theorem execPllSwap_runs (p : Path) (s : State) : Runs 1 s (execPllSwap p s) := by
  unfold execPllSwap
  repeat' with_reducible first
    | apply Runs.next
    | exact Same.refl _
    | apply Same.step (m := 1) (by decide) (State.write_same ..)
    | apply Same.trans _ (foldl_same _ _ _ (fun _ _ => ?_))
    | apply Same.trans _ (foldl_same1 _ _ _ (fun _ _ => ?_))
    | apply Same.ite
    | apply Same.ite1
    | apply Same.ite2
    | extract_lets
    | split
    | dsimp -zeta only
    | dsimp +zetaDelta only

theorem execPllReturn_runs (m : Fin 81) (pll : Fin 2) (s : State) : Runs 67104765 s (execPllReturn m pll s) := by
  unfold execPllReturn
  repeat' with_reducible first
    | apply Runs.next
    | exact Same.refl _
    | apply Same.step (m := 67104767) (by decide) (State.seqFree_same ..)
    | apply Same.step (m := 67108861) (by decide) (State.set_same ..)
    | apply Same.trans _ (foldl_same _ _ _ (fun _ _ => ?_))
    | apply Same.trans _ (foldl_same1 _ _ _ (fun _ _ => ?_))
    | apply Same.ite
    | apply Same.ite1
    | apply Same.ite2
    | extract_lets
    | split
    | dsimp -zeta only
    | dsimp +zetaDelta only

theorem execPllRetry_runs (m : Fin 80) (got : Option (Fin 2)) (s : State) : Runs 67102705 s (execPllRetry m got s) := by
  unfold execPllRetry
  repeat' with_reducible first
    | apply Runs.next
    | exact Same.refl _
    | apply Same.step (m := 67106803) (by decide) (State.beginTrain_same ..)
    | apply Same.step (m := 67108861) (by decide) (State.set_same ..)
    | apply Same.step (m := 67104753) (by decide) (State.bringUp_same ..)
    | apply Same.trans _ (foldl_same _ _ _ (fun _ _ => ?_))
    | apply Same.trans _ (foldl_same1 _ _ _ (fun _ _ => ?_))
    | apply Same.ite
    | apply Same.ite1
    | apply Same.ite2
    | extract_lets
    | split
    | dsimp -zeta only
    | dsimp +zetaDelta only

theorem execTapRail_runs (m : Fin 80) (lane : Fin 4) (s : State) : Runs 50327541 s (execTapRail m lane s) := by
  unfold execTapRail
  repeat' with_reducible first
    | apply Runs.next
    | exact Same.refl _
    | apply Same.step (m := 50327549) (by decide) (State.tapsMove_same ..)
    | apply Same.step (m := 67104767) (by decide) (State.setMacro_same ..)
    | apply Same.step (m := 67108853) (by decide) (State.laneEv_same ..)
    | apply Same.step (m := 67108861) (by decide) (State.set_same ..)
    | apply Same.trans _ (foldl_same _ _ _ (fun _ _ => ?_))
    | apply Same.trans _ (foldl_same1 _ _ _ (fun _ _ => ?_))
    | apply Same.ite
    | apply Same.ite1
    | apply Same.ite2
    | extract_lets
    | split
    | dsimp -zeta only
    | dsimp +zetaDelta only

theorem execSeqStart_runs (p : Path) (step : Fin 64) (s : State) : Runs 1 s (execSeqStart p step s) := by
  unfold execSeqStart
  repeat' with_reducible first
    | apply Runs.next
    | exact Same.refl _
    | apply Same.step (m := 1) (by decide) (State.write_same ..)
    | apply Same.trans _ (foldl_same _ _ _ (fun _ _ => ?_))
    | apply Same.trans _ (foldl_same1 _ _ _ (fun _ _ => ?_))
    | apply Same.ite
    | apply Same.ite1
    | apply Same.ite2
    | extract_lets
    | split
    | dsimp -zeta only
    | dsimp +zetaDelta only

theorem execSeqStop_runs (p : Path) (s : State) : Runs 1 s (execSeqStop p s) := by
  unfold execSeqStop
  repeat' with_reducible first
    | apply Runs.next
    | exact Same.refl _
    | apply Same.step (m := 1) (by decide) (State.write_same ..)
    | apply Same.trans _ (foldl_same _ _ _ (fun _ _ => ?_))
    | apply Same.trans _ (foldl_same1 _ _ _ (fun _ _ => ?_))
    | apply Same.ite
    | apply Same.ite1
    | apply Same.ite2
    | extract_lets
    | split
    | dsimp -zeta only
    | dsimp +zetaDelta only

theorem execSeqEnd_runs (m : Fin 80) (s : State) : Runs 67104765 s (execSeqEnd m s) := by
  unfold execSeqEnd
  repeat' with_reducible first
    | apply Runs.next
    | exact Same.refl _
    | apply Same.trans _ (State.seqOp_same (K := 67104765) (by decide) _ _ _ _ (fun _ _ => ?_))
    | apply Same.step (m := 67104765) (by decide) (State.seqEnd_same ..)
    | apply Same.trans _ (foldl_same _ _ _ (fun _ _ => ?_))
    | apply Same.trans _ (foldl_same1 _ _ _ (fun _ _ => ?_))
    | apply Same.ite
    | apply Same.ite1
    | apply Same.ite2
    | extract_lets
    | split
    | dsimp -zeta only
    | dsimp +zetaDelta only

theorem execSeqTxsrc_runs (m : Fin 80) (s : State) : Runs 67104757 s (execSeqTxsrc m s) := by
  unfold execSeqTxsrc
  repeat' with_reducible first
    | apply Runs.next
    | exact Same.refl _
    | apply Same.step (m := 67108855) (by decide) (State.genTell_same ..)
    | apply Same.trans _ (State.seqOp_same (K := 67104757) (by decide) _ _ _ _ (fun _ _ => ?_))
    | apply Same.step (m := 67108861) (by decide) (State.seqNext_same ..)
    | apply Same.step (m := 67104767) (by decide) (State.setMacro_same ..)
    | apply Same.trans _ (foldl_same _ _ _ (fun _ _ => ?_))
    | apply Same.trans _ (foldl_same1 _ _ _ (fun _ _ => ?_))
    | apply Same.ite
    | apply Same.ite1
    | apply Same.ite2
    | extract_lets
    | split
    | dsimp -zeta only
    | dsimp +zetaDelta only

theorem execSeqRate_runs (m : Fin 80) (s : State) : Runs 50327541 s (execSeqRate m s) := by
  unfold execSeqRate
  repeat' with_reducible first
    | apply Runs.next
    | exact Same.refl _
    | apply Same.step (m := 50327541) (by decide) (State.macroRate_same ..)
    | apply Same.trans _ (State.seqOp_same (K := 50327541) (by decide) _ _ _ _ (fun _ _ => ?_))
    | apply Same.step (m := 67108861) (by decide) (State.seqNext_same ..)
    | apply Same.trans _ (foldl_same _ _ _ (fun _ _ => ?_))
    | apply Same.trans _ (foldl_same1 _ _ _ (fun _ _ => ?_))
    | apply Same.ite
    | apply Same.ite1
    | apply Same.ite2
    | extract_lets
    | split
    | dsimp -zeta only
    | dsimp +zetaDelta only

theorem execSeqWait_runs (m : Fin 80) (s : State) : Runs 67104767 s (execSeqWait m s) := by
  unfold execSeqWait
  repeat' with_reducible first
    | apply Runs.next
    | exact Same.refl _
    | apply Same.trans _ (State.seqOp_same (K := 67104767) (by decide) _ _ _ _ (fun _ _ => ?_))
    | apply Same.step (m := 67104767) (by decide) (State.setMacro_same ..)
    | apply Same.trans _ (foldl_same _ _ _ (fun _ _ => ?_))
    | apply Same.trans _ (foldl_same1 _ _ _ (fun _ _ => ?_))
    | apply Same.ite
    | apply Same.ite1
    | apply Same.ite2
    | extract_lets
    | split
    | dsimp -zeta only
    | dsimp +zetaDelta only

theorem execSeqWaitExpiry_runs (m : Fin 80) (s : State) : Runs 67104765 s (execSeqWaitExpiry m s) := by
  unfold execSeqWaitExpiry
  repeat' with_reducible first
    | apply Runs.next
    | exact Same.refl _
    | apply Same.step (m := 67108861) (by decide) (State.seqNext_same ..)
    | apply Same.step (m := 67104767) (by decide) (State.setMacro_same ..)
    | apply Same.trans _ (foldl_same _ _ _ (fun _ _ => ?_))
    | apply Same.trans _ (foldl_same1 _ _ _ (fun _ _ => ?_))
    | apply Same.ite
    | apply Same.ite1
    | apply Same.ite2
    | extract_lets
    | split
    | dsimp -zeta only
    | dsimp +zetaDelta only

theorem execSeqWaitfor_runs (m : Fin 80) (s : State) : Runs 67104767 s (execSeqWaitfor m s) := by
  unfold execSeqWaitfor
  repeat' with_reducible first
    | apply Runs.next
    | exact Same.refl _
    | apply Same.trans _ (State.seqOp_same (K := 67104767) (by decide) _ _ _ _ (fun _ _ => ?_))
    | apply Same.step (m := 67104767) (by decide) (State.setMacro_same ..)
    | apply Same.trans _ (foldl_same _ _ _ (fun _ _ => ?_))
    | apply Same.trans _ (foldl_same1 _ _ _ (fun _ _ => ?_))
    | apply Same.ite
    | apply Same.ite1
    | apply Same.ite2
    | extract_lets
    | split
    | dsimp -zeta only
    | dsimp +zetaDelta only

theorem execWaitforMet_runs (m : Fin 80) (s : State) : Runs 67104765 s (execWaitforMet m s) := by
  unfold execWaitforMet
  repeat' with_reducible first
    | apply Runs.next
    | exact Same.refl _
    | apply Same.step (m := 67108861) (by decide) (State.condShown_same ..)
    | apply Same.step (m := 67108861) (by decide) (State.seqNext_same ..)
    | apply Same.step (m := 67104767) (by decide) (State.setMacro_same ..)
    | apply Same.trans _ (foldl_same _ _ _ (fun _ _ => ?_))
    | apply Same.trans _ (foldl_same1 _ _ _ (fun _ _ => ?_))
    | apply Same.ite
    | apply Same.ite1
    | apply Same.ite2
    | extract_lets
    | split
    | dsimp -zeta only
    | dsimp +zetaDelta only

theorem execWaitforTimeout_runs (m : Fin 80) (s : State) : Runs 67104765 s (execWaitforTimeout m s) := by
  unfold execWaitforTimeout
  repeat' with_reducible first
    | apply Runs.next
    | exact Same.refl _
    | apply Same.step (m := 67108861) (by decide) (State.seqAt_same ..)
    | apply Same.step (m := 67104767) (by decide) (State.setMacro_same ..)
    | apply Same.trans _ (foldl_same _ _ _ (fun _ _ => ?_))
    | apply Same.trans _ (foldl_same1 _ _ _ (fun _ _ => ?_))
    | apply Same.ite
    | apply Same.ite1
    | apply Same.ite2
    | extract_lets
    | split
    | dsimp -zeta only
    | dsimp +zetaDelta only

theorem execSeqAdapt_runs (m : Fin 80) (s : State) : Runs 67104765 s (execSeqAdapt m s) := by
  unfold execSeqAdapt
  repeat' with_reducible first
    | apply Runs.next
    | exact Same.refl _
    | apply Same.trans _ (State.seqOp_same (K := 67104765) (by decide) _ _ _ _ (fun _ _ => ?_))
    | apply Same.step (m := 67108861) (by decide) (State.seqNext_same ..)
    | apply Same.step (m := 67104767) (by decide) (State.seqFrozen_same ..)
    | apply Same.trans _ (foldl_same _ _ _ (fun _ _ => ?_))
    | apply Same.trans _ (foldl_same1 _ _ _ (fun _ _ => ?_))
    | apply Same.ite
    | apply Same.ite1
    | apply Same.ite2
    | extract_lets
    | split
    | dsimp -zeta only
    | dsimp +zetaDelta only

theorem execSeqFreeze_runs (m : Fin 80) (s : State) : Runs 50327549 s (execSeqFreeze m s) := by
  unfold execSeqFreeze
  repeat' with_reducible first
    | apply Runs.next
    | exact Same.refl _
    | apply Same.step (m := 50327549) (by decide) (State.tapsStop_same ..)
    | apply Same.trans _ (State.seqOp_same (K := 50327549) (by decide) _ _ _ _ (fun _ _ => ?_))
    | apply Same.step (m := 67108861) (by decide) (State.seqNext_same ..)
    | apply Same.step (m := 67104767) (by decide) (State.seqFrozen_same ..)
    | apply Same.trans _ (foldl_same _ _ _ (fun _ _ => ?_))
    | apply Same.trans _ (foldl_same1 _ _ _ (fun _ _ => ?_))
    | apply Same.ite
    | apply Same.ite1
    | apply Same.ite2
    | extract_lets
    | split
    | dsimp -zeta only
    | dsimp +zetaDelta only

theorem execSeqFfe_runs (m : Fin 80) (s : State) : Runs 67108861 s (execSeqFfe m s) := by
  unfold execSeqFfe
  repeat' with_reducible first
    | apply Runs.next
    | exact Same.refl _
    | apply Same.trans _ (State.seqOp_same (K := 67108861) (by decide) _ _ _ _ (fun _ _ => ?_))
    | apply Same.step (m := 67108861) (by decide) (State.seqNext_same ..)
    | apply Same.step (m := 67108861) (by decide) (State.ffe_same ..)
    | apply Same.trans _ (foldl_same _ _ _ (fun _ _ => ?_))
    | apply Same.trans _ (foldl_same1 _ _ _ (fun _ _ => ?_))
    | apply Same.ite
    | apply Same.ite1
    | apply Same.ite2
    | extract_lets
    | split
    | dsimp -zeta only
    | dsimp +zetaDelta only

theorem execSeqEngine_runs (m : Fin 80) (s : State) : Runs 67104757 s (execSeqEngine m s) := by
  unfold execSeqEngine
  repeat' with_reducible first
    | apply Runs.next
    | exact Same.refl _
    | apply Same.trans _ (State.seqOp_same (K := 67104757) (by decide) _ _ _ _ (fun _ _ => ?_))
    | apply Same.step (m := 67108855) (by decide) (State.emit_same ..)
    | apply Same.step (m := 67104767) (by decide) (State.setMacro_same ..)
    | apply Same.step (m := 67108861) (by decide) (State.set_same ..)
    | apply Same.trans _ (foldl_same _ _ _ (fun _ _ => ?_))
    | apply Same.trans _ (foldl_same1 _ _ _ (fun _ _ => ?_))
    | apply Same.ite
    | apply Same.ite1
    | apply Same.ite2
    | extract_lets
    | split
    | dsimp -zeta only
    | dsimp +zetaDelta only

theorem execSeqJump_runs (m : Fin 80) (s : State) : Runs 67108861 s (execSeqJump m s) := by
  unfold execSeqJump
  repeat' with_reducible first
    | apply Runs.next
    | exact Same.refl _
    | apply Same.trans _ (State.seqOp_same (K := 67108861) (by decide) _ _ _ _ (fun _ _ => ?_))
    | apply Same.step (m := 67108861) (by decide) (State.seqAt_same ..)
    | apply Same.trans _ (foldl_same _ _ _ (fun _ _ => ?_))
    | apply Same.trans _ (foldl_same1 _ _ _ (fun _ _ => ?_))
    | apply Same.ite
    | apply Same.ite1
    | apply Same.ite2
    | extract_lets
    | split
    | dsimp -zeta only
    | dsimp +zetaDelta only

theorem execSeqSetlc_runs (m : Fin 80) (s : State) : Runs 67108861 s (execSeqSetlc m s) := by
  unfold execSeqSetlc
  repeat' with_reducible first
    | apply Runs.next
    | exact Same.refl _
    | apply Same.trans _ (State.seqOp_same (K := 67108861) (by decide) _ _ _ _ (fun _ _ => ?_))
    | apply Same.step (m := 67108861) (by decide) (State.seqNext_same ..)
    | apply Same.step (m := 67108861) (by decide) (State.set_same ..)
    | apply Same.trans _ (foldl_same _ _ _ (fun _ _ => ?_))
    | apply Same.trans _ (foldl_same1 _ _ _ (fun _ _ => ?_))
    | apply Same.ite
    | apply Same.ite1
    | apply Same.ite2
    | extract_lets
    | split
    | dsimp -zeta only
    | dsimp +zetaDelta only

theorem execSeqDjnz_runs (m : Fin 80) (s : State) : Runs 67108861 s (execSeqDjnz m s) := by
  unfold execSeqDjnz
  repeat' with_reducible first
    | apply Runs.next
    | exact Same.refl _
    | apply Same.trans _ (State.seqOp_same (K := 67108861) (by decide) _ _ _ _ (fun _ _ => ?_))
    | apply Same.step (m := 67108861) (by decide) (State.set_same ..)
    | apply Same.step (m := 67108861) (by decide) (State.seqNext_same ..)
    | apply Same.step (m := 67108861) (by decide) (State.seqAt_same ..)
    | apply Same.trans _ (foldl_same _ _ _ (fun _ _ => ?_))
    | apply Same.trans _ (foldl_same1 _ _ _ (fun _ _ => ?_))
    | apply Same.ite
    | apply Same.ite1
    | apply Same.ite2
    | extract_lets
    | split
    | dsimp -zeta only
    | dsimp +zetaDelta only

theorem execSeqReservedOp_runs (m : Fin 80) (s : State) : Runs 67104765 s (execSeqReservedOp m s) := by
  unfold execSeqReservedOp
  repeat' with_reducible first
    | apply Runs.next
    | exact Same.refl _
    | apply Same.step (m := 67108861) (by decide) (State.set_same ..)
    | apply Same.step (m := 67104765) (by decide) (State.seqStop_same ..)
    | apply Same.trans _ (foldl_same _ _ _ (fun _ _ => ?_))
    | apply Same.trans _ (foldl_same1 _ _ _ (fun _ _ => ?_))
    | apply Same.ite
    | apply Same.ite1
    | apply Same.ite2
    | extract_lets
    | split
    | dsimp -zeta only
    | dsimp +zetaDelta only

theorem execSeqContinue_runs (p : Path) (next : Fin 64) (s : State) : Runs 1 s (execSeqContinue p next s) := by
  unfold execSeqContinue
  repeat' with_reducible first
    | apply Runs.next
    | exact Same.refl _
    | apply Same.step (m := 1) (by decide) (State.write_same ..)
    | apply Same.trans _ (foldl_same _ _ _ (fun _ _ => ?_))
    | apply Same.trans _ (foldl_same1 _ _ _ (fun _ _ => ?_))
    | apply Same.ite
    | apply Same.ite1
    | apply Same.ite2
    | extract_lets
    | split
    | dsimp -zeta only
    | dsimp +zetaDelta only

theorem execTrainingFrame_runs (n : Fin 16) (lane : Fin 2) (f : TrainFrame) (s : State) : Runs 50094449 s (execTrainingFrame n lane f s) := by
  unfold execTrainingFrame
  repeat' with_reducible first
    | apply Runs.next
    | exact Same.refl _
    | apply Same.step (m := 67104753) (by decide) (State.widenFrame_same ..)
    | apply Same.step (m := 50094449) (by decide) (State.trainFrame_same ..)
    | apply Same.trans _ (foldl_same _ _ _ (fun _ _ => ?_))
    | apply Same.trans _ (foldl_same1 _ _ _ (fun _ _ => ?_))
    | apply Same.ite
    | apply Same.ite1
    | apply Same.ite2
    | extract_lets
    | split
    | dsimp -zeta only
    | dsimp +zetaDelta only

theorem execSlip_runs (p : Path) (n : Fin 16) (lane : Fin 2) (s : State) : Runs 1 s (execSlip p n lane s) := by
  unfold execSlip
  repeat' with_reducible first
    | apply Runs.next
    | exact Same.refl _
    | apply Same.step (m := 1) (by decide) (State.write_same ..)
    | apply Same.trans _ (foldl_same _ _ _ (fun _ _ => ?_))
    | apply Same.trans _ (foldl_same1 _ _ _ (fun _ _ => ?_))
    | apply Same.ite
    | apply Same.ite1
    | apply Same.ite2
    | extract_lets
    | split
    | dsimp -zeta only
    | dsimp +zetaDelta only

theorem execDlRestart_runs (p : Path) (n : Fin 16) (s : State) : Runs 1 s (execDlRestart p n s) := by
  unfold execDlRestart
  repeat' with_reducible first
    | apply Runs.next
    | exact Same.refl _
    | apply Same.step (m := 1) (by decide) (State.write_same ..)
    | apply Same.trans _ (foldl_same _ _ _ (fun _ _ => ?_))
    | apply Same.trans _ (foldl_same1 _ _ _ (fun _ _ => ?_))
    | apply Same.ite
    | apply Same.ite1
    | apply Same.ite2
    | extract_lets
    | split
    | dsimp -zeta only
    | dsimp +zetaDelta only

theorem execRateTimeout_runs (n : Fin 16) (s : State) : Runs 67104753 s (execRateTimeout n s) := by
  unfold execRateTimeout
  repeat' with_reducible first
    | apply Runs.next
    | exact Same.refl _
    | apply Same.step (m := 67104753) (by decide) (State.fallBack_same ..)
    | apply Same.trans _ (foldl_same _ _ _ (fun _ _ => ?_))
    | apply Same.trans _ (foldl_same1 _ _ _ (fun _ _ => ?_))
    | apply Same.ite
    | apply Same.ite1
    | apply Same.ite2
    | extract_lets
    | split
    | dsimp -zeta only
    | dsimp +zetaDelta only

theorem execBringupTimeout_runs (n : Fin 16) (s : State) : Runs 50094453 s (execBringupTimeout n s) := by
  unfold execBringupTimeout
  repeat' with_reducible first
    | apply Runs.next
    | exact Same.refl _
    | apply Same.step (m := 50094453) (by decide) (State.bringFail_same ..)
    | apply Same.trans _ (foldl_same _ _ _ (fun _ _ => ?_))
    | apply Same.trans _ (foldl_same1 _ _ _ (fun _ _ => ?_))
    | apply Same.ite
    | apply Same.ite1
    | apply Same.ite2
    | extract_lets
    | split
    | dsimp -zeta only
    | dsimp +zetaDelta only

theorem execBringupRestart_runs (n : Fin 16) (s : State) : Runs 67104753 s (execBringupRestart n s) := by
  unfold execBringupRestart
  repeat' with_reducible first
    | apply Runs.next
    | exact Same.refl _
    | apply Same.step (m := 67104753) (by decide) (State.bringUp_same ..)
    | apply Same.trans _ (foldl_same _ _ _ (fun _ _ => ?_))
    | apply Same.trans _ (foldl_same1 _ _ _ (fun _ _ => ?_))
    | apply Same.ite
    | apply Same.ite1
    | apply Same.ite2
    | extract_lets
    | split
    | dsimp -zeta only
    | dsimp +zetaDelta only

theorem execLaneExcluded_runs (n : Fin 16) (lane : Fin 2) (s : State) : Runs 50094449 s (execLaneExcluded n lane s) := by
  unfold execLaneExcluded
  repeat' with_reducible first
    | apply Runs.next
    | exact Same.refl _
    | apply Same.step (m := 50094449) (by decide) (State.exclude_same ..)
    | apply Same.trans _ (foldl_same _ _ _ (fun _ _ => ?_))
    | apply Same.trans _ (foldl_same1 _ _ _ (fun _ _ => ?_))
    | apply Same.ite
    | apply Same.ite1
    | apply Same.ite2
    | extract_lets
    | split
    | dsimp -zeta only
    | dsimp +zetaDelta only

theorem execEyeGo_runs (p : Path) (value : Word) (s : State) : Runs 1 s (execEyeGo p value s) := by
  unfold execEyeGo
  repeat' with_reducible first
    | apply Runs.next
    | exact Same.refl _
    | apply Same.step (m := 1) (by decide) (State.write_same ..)
    | apply Same.trans _ (foldl_same _ _ _ (fun _ _ => ?_))
    | apply Same.trans _ (foldl_same1 _ _ _ (fun _ _ => ?_))
    | apply Same.ite
    | apply Same.ite1
    | apply Same.ite2
    | extract_lets
    | split
    | dsimp -zeta only
    | dsimp +zetaDelta only

theorem execEyeStop_runs (p : Path) (s : State) : Runs 1 s (execEyeStop p s) := by
  unfold execEyeStop
  repeat' with_reducible first
    | apply Runs.next
    | exact Same.refl _
    | apply Same.step (m := 1) (by decide) (State.write_same ..)
    | apply Same.trans _ (foldl_same _ _ _ (fun _ _ => ?_))
    | apply Same.trans _ (foldl_same1 _ _ _ (fun _ _ => ?_))
    | apply Same.ite
    | apply Same.ite1
    | apply Same.ite2
    | extract_lets
    | split
    | dsimp -zeta only
    | dsimp +zetaDelta only

theorem execEyePointDone_runs (m : Fin 80) (lane : Fin 4) (errs : BitVec 64) (s : State) : Runs 67108853 s (execEyePointDone m lane errs s) := by
  unfold execEyePointDone
  repeat' with_reducible first
    | apply Runs.next
    | exact Same.refl _
    | apply Same.step (m := 67108853) (by decide) (State.laneEv_same ..)
    | apply Same.step (m := 67108861) (by decide) (State.sets_same ..)
    | apply Same.step (m := 67108861) (by decide) (State.set64_same ..)
    | apply Same.trans _ (foldl_same _ _ _ (fun _ _ => ?_))
    | apply Same.trans _ (foldl_same1 _ _ _ (fun _ _ => ?_))
    | apply Same.ite
    | apply Same.ite1
    | apply Same.ite2
    | extract_lets
    | split
    | dsimp -zeta only
    | dsimp +zetaDelta only

theorem execAudit_runs (m : Fin 80) (lane : Fin 4) (mism : List Nat) (badCal : BitVec 8) (s : State) : Runs 49299809 s (execAudit m lane mism badCal s) := by
  unfold execAudit
  repeat' with_reducible first
    | apply Runs.next
    | exact Same.refl _
    | apply Same.step (m := 49299809) (by decide) (State.auditFrom_same ..)
    | apply Same.step (m := 67104765) (by decide) (State.auditTo_same ..)
    | apply Same.trans _ (foldl_same _ _ _ (fun _ _ => ?_))
    | apply Same.trans _ (foldl_same1 _ _ _ (fun _ _ => ?_))
    | apply Same.ite
    | apply Same.ite1
    | apply Same.ite2
    | extract_lets
    | split
    | dsimp -zeta only
    | dsimp +zetaDelta only

theorem execInjectOne_runs (p : Path) (s : State) : Runs 1 s (execInjectOne p s) := by
  unfold execInjectOne
  repeat' with_reducible first
    | apply Runs.next
    | exact Same.refl _
    | apply Same.step (m := 1) (by decide) (State.write_same ..)
    | apply Same.trans _ (foldl_same _ _ _ (fun _ _ => ?_))
    | apply Same.trans _ (foldl_same1 _ _ _ (fun _ _ => ?_))
    | apply Same.ite
    | apply Same.ite1
    | apply Same.ite2
    | extract_lets
    | split
    | dsimp -zeta only
    | dsimp +zetaDelta only

theorem execDeepExitComplete_runs (port : Fin 64) (s : State) : Runs 67102709 s (execDeepExitComplete port s) := by
  unfold execDeepExitComplete
  repeat' with_reducible first
    | apply Runs.next
    | exact Same.refl _
    | apply Same.step (m := 67102709) (by decide) (State.bindsGo_same ..)
    | apply Same.step (m := 67104765) (by decide) (State.deepDone_same ..)
    | apply Same.step (m := 67104757) (by decide) (State.dockDeepDone_same ..)
    | apply Same.trans _ (foldl_same _ _ _ (fun _ _ => ?_))
    | apply Same.trans _ (foldl_same1 _ _ _ (fun _ _ => ?_))
    | apply Same.ite
    | apply Same.ite1
    | apply Same.ite2
    | extract_lets
    | split
    | dsimp -zeta only
    | dsimp +zetaDelta only

theorem execFlitTime_runs (n : Fin 16) (s : State) : Runs 50078065 s (execFlitTime n s) := by
  unfold execFlitTime
  repeat' with_reducible first
    | apply Runs.next
    | exact Same.refl _
    | apply Same.step (m := 50078065) (by decide) (State.flitSlot_same ..)
    | apply Same.trans _ (foldl_same _ _ _ (fun _ _ => ?_))
    | apply Same.trans _ (foldl_same1 _ _ _ (fun _ _ => ?_))
    | apply Same.ite
    | apply Same.ite1
    | apply Same.ite2
    | extract_lets
    | split
    | dsimp -zeta only
    | dsimp +zetaDelta only

theorem execIdleFlit_runs (n : Fin 16) (h : FlitHdr) (s : State) : Runs 50094453 s (execIdleFlit n h s) := by
  unfold execIdleFlit
  repeat' with_reducible first
    | apply Runs.next
    | exact Same.refl _
    | apply Same.trans _ (State.plainIn_same (K := 50094453) (by decide) _ _ _ _ (fun _ => ?_))
    | apply Same.trans _ (foldl_same _ _ _ (fun _ _ => ?_))
    | apply Same.trans _ (foldl_same1 _ _ _ (fun _ _ => ?_))
    | apply Same.ite
    | apply Same.ite1
    | apply Same.ite2
    | extract_lets
    | split
    | dsimp -zeta only
    | dsimp +zetaDelta only

theorem execDataFlit_runs (n : Fin 16) (h : FlitHdr) (cls : BitVec 3) (chan : BitVec 5) (body : List (BitVec 8)) (s : State) : Runs 49832309 s (execDataFlit n h cls chan body s) := by
  unfold execDataFlit
  repeat' with_reducible first
    | apply Runs.next
    | exact Same.refl _
    | apply Same.step (m := 49868661) (by decide) (State.sigDrain_same ..)
    | apply Same.step (m := 50094453) (by decide) (State.dataIn_same ..)
    | apply Same.trans _ (foldl_same _ _ _ (fun _ _ => ?_))
    | apply Same.trans _ (foldl_same1 _ _ _ (fun _ _ => ?_))
    | apply Same.ite
    | apply Same.ite1
    | apply Same.ite2
    | extract_lets
    | split
    | dsimp -zeta only
    | dsimp +zetaDelta only

theorem execDataBadFlit_runs (n : Fin 16) (h : FlitHdr) (cls : BitVec 3) (part : BadPart) (s : State) : Runs 50094453 s (execDataBadFlit n h cls part s) := by
  unfold execDataBadFlit
  repeat' with_reducible first
    | apply Runs.next
    | exact Same.refl _
    | apply Same.step (m := 50094453) (by decide) (State.dataIn_same ..)
    | apply Same.trans _ (foldl_same _ _ _ (fun _ _ => ?_))
    | apply Same.trans _ (foldl_same1 _ _ _ (fun _ _ => ?_))
    | apply Same.ite
    | apply Same.ite1
    | apply Same.ite2
    | extract_lets
    | split
    | dsimp -zeta only
    | dsimp +zetaDelta only

theorem execSealFlit_runs (n : Fin 16) (h : FlitHdr) (tag : BitVec 128) (counter : BitVec 64) (count : BitVec 8) (s : State) : Runs 49832309 s (execSealFlit n h tag counter count s) := by
  unfold execSealFlit
  repeat' with_reducible first
    | apply Runs.next
    | exact Same.refl _
    | apply Same.step (m := 49868661) (by decide) (State.sigDrain_same ..)
    | apply Same.step (m := 50094453) (by decide) (State.sealIn_same ..)
    | apply Same.trans _ (foldl_same _ _ _ (fun _ _ => ?_))
    | apply Same.trans _ (foldl_same1 _ _ _ (fun _ _ => ?_))
    | apply Same.ite
    | apply Same.ite1
    | apply Same.ite2
    | extract_lets
    | split
    | dsimp -zeta only
    | dsimp +zetaDelta only

theorem execNakFlit_runs (n : Fin 16) (h : FlitHdr) (s : State) : Runs 50094453 s (execNakFlit n h s) := by
  unfold execNakFlit
  repeat' with_reducible first
    | apply Runs.next
    | exact Same.refl _
    | apply Same.step (m := 50094453) (by decide) (State.nakIn_same ..)
    | apply Same.trans _ (foldl_same _ _ _ (fun _ _ => ?_))
    | apply Same.trans _ (foldl_same1 _ _ _ (fun _ _ => ?_))
    | apply Same.ite
    | apply Same.ite1
    | apply Same.ite2
    | extract_lets
    | split
    | dsimp -zeta only
    | dsimp +zetaDelta only

theorem execInitFlit_runs (n : Fin 16) (h : FlitHdr) (version : BitVec 16) (enc : Bool) (credits : List (BitVec 16)) (depth : BitVec 16) (id : BitVec 64) (s : State) : Runs 50078069 s (execInitFlit n h version enc credits depth id s) := by
  unfold execInitFlit
  repeat' with_reducible first
    | apply Runs.next
    | exact Same.refl _
    | apply Same.trans _ (State.rxFlit_same (K := 50078069) (by decide) _ _ _ _ (fun _ => ?_))
    | apply Same.step (m := 67104767) (by decide) (State.winIn_same ..)
    | apply Same.step (m := 50078069) (by decide) (State.initIn_same ..)
    | apply Same.trans _ (foldl_same _ _ _ (fun _ _ => ?_))
    | apply Same.trans _ (foldl_same1 _ _ _ (fun _ _ => ?_))
    | apply Same.ite
    | apply Same.ite1
    | apply Same.ite2
    | extract_lets
    | split
    | dsimp -zeta only
    | dsimp +zetaDelta only

theorem execPmFlit_runs (n : Fin 16) (h : FlitHdr) (op st cnt : BitVec 8) (s : State) : Runs 50094453 s (execPmFlit n h op st cnt s) := by
  unfold execPmFlit
  repeat' with_reducible first
    | apply Runs.next
    | exact Same.refl _
    | apply Same.step (m := 50094453) (by decide) (State.pmIn_same ..)
    | apply Same.trans _ (foldl_same _ _ _ (fun _ _ => ?_))
    | apply Same.trans _ (foldl_same1 _ _ _ (fun _ _ => ?_))
    | apply Same.ite
    | apply Same.ite1
    | apply Same.ite2
    | extract_lets
    | split
    | dsimp -zeta only
    | dsimp +zetaDelta only

theorem execPauseFlit_runs (n : Fin 16) (h : FlitHdr) (s : State) : Runs 50094449 s (execPauseFlit n h s) := by
  unfold execPauseFlit
  repeat' with_reducible first
    | apply Runs.next
    | exact Same.refl _
    | apply Same.step (m := 50094449) (by decide) (State.pauseIn_same ..)
    | apply Same.trans _ (foldl_same _ _ _ (fun _ _ => ?_))
    | apply Same.trans _ (foldl_same1 _ _ _ (fun _ _ => ?_))
    | apply Same.ite
    | apply Same.ite1
    | apply Same.ite2
    | extract_lets
    | split
    | dsimp -zeta only
    | dsimp +zetaDelta only

theorem execEchoFlit_runs (n : Fin 16) (h : FlitHdr) (num : BitVec 64) (s : State) : Runs 50094453 s (execEchoFlit n h num s) := by
  unfold execEchoFlit
  repeat' with_reducible first
    | apply Runs.next
    | exact Same.refl _
    | apply Same.trans _ (State.plainIn_same (K := 50094453) (by decide) _ _ _ _ (fun _ => ?_))
    | apply Same.step (m := 67104767) (by decide) (State.mapLk_same ..)
    | apply Same.trans _ (foldl_same _ _ _ (fun _ _ => ?_))
    | apply Same.trans _ (foldl_same1 _ _ _ (fun _ _ => ?_))
    | apply Same.ite
    | apply Same.ite1
    | apply Same.ite2
    | extract_lets
    | split
    | dsimp -zeta only
    | dsimp +zetaDelta only

theorem execEchoReplyFlit_runs (n : Fin 16) (h : FlitHdr) (num : BitVec 64) (turn devDelay : Word) (s : State) : Runs 50094453 s (execEchoReplyFlit n h num turn devDelay s) := by
  unfold execEchoReplyFlit
  repeat' with_reducible first
    | apply Runs.next
    | exact Same.refl _
    | apply Same.trans _ (State.plainIn_same (K := 50094453) (by decide) _ _ _ _ (fun _ => ?_))
    | apply Same.step (m := 50327541) (by decide) (State.echoIn_same ..)
    | apply Same.trans _ (foldl_same _ _ _ (fun _ _ => ?_))
    | apply Same.trans _ (foldl_same1 _ _ _ (fun _ _ => ?_))
    | apply Same.ite
    | apply Same.ite1
    | apply Same.ite2
    | extract_lets
    | split
    | dsimp -zeta only
    | dsimp +zetaDelta only

theorem execReservedFlit_runs (n : Fin 16) (h : FlitHdr) (s : State) : Runs 50094453 s (execReservedFlit n h s) := by
  unfold execReservedFlit
  repeat' with_reducible first
    | apply Runs.next
    | exact Same.refl _
    | apply Same.trans _ (State.rxFlit_same (K := 50094453) (by decide) _ _ _ _ (fun _ => ?_))
    | apply Same.step (m := 50094453) (by decide) (State.protocol_same ..)
    | apply Same.step (m := 67104765) (by decide) (State.rxTime_same ..)
    | apply Same.trans _ (foldl_same _ _ _ (fun _ _ => ?_))
    | apply Same.trans _ (foldl_same1 _ _ _ (fun _ _ => ?_))
    | apply Same.ite
    | apply Same.ite1
    | apply Same.ite2
    | extract_lets
    | split
    | dsimp -zeta only
    | dsimp +zetaDelta only

theorem execCrcFailedFlit_runs (n : Fin 16) (s : State) : Runs 50094453 s (execCrcFailedFlit n s) := by
  unfold execCrcFailedFlit
  repeat' with_reducible first
    | apply Runs.next
    | exact Same.refl _
    | apply Same.step (m := 50331647) (by decide) (State.fresh_same ..)
    | apply Same.step (m := 50094453) (by decide) (State.crcBad_same ..)
    | apply Same.trans _ (foldl_same _ _ _ (fun _ _ => ?_))
    | apply Same.trans _ (foldl_same1 _ _ _ (fun _ _ => ?_))
    | apply Same.ite
    | apply Same.ite1
    | apply Same.ite2
    | extract_lets
    | split
    | dsimp -zeta only
    | dsimp +zetaDelta only

theorem execNakRearm_runs (n : Fin 16) (s : State) : Runs 67104767 s (execNakRearm n s) := by
  unfold execNakRearm
  repeat' with_reducible first
    | apply Runs.next
    | exact Same.refl _
    | apply Same.step (m := 67104767) (by decide) (State.mapLk_same ..)
    | apply Same.trans _ (foldl_same _ _ _ (fun _ _ => ?_))
    | apply Same.trans _ (foldl_same1 _ _ _ (fun _ _ => ?_))
    | apply Same.ite
    | apply Same.ite1
    | apply Same.ite2
    | extract_lets
    | split
    | dsimp -zeta only
    | dsimp +zetaDelta only

theorem execReplayTimeout_runs (n : Fin 16) (s : State) : Runs 50094453 s (execReplayTimeout n s) := by
  unfold execReplayTimeout
  repeat' with_reducible first
    | apply Runs.next
    | exact Same.refl _
    | apply Same.step (m := 50094453) (by decide) (State.replayFrom_same ..)
    | apply Same.trans _ (foldl_same _ _ _ (fun _ _ => ?_))
    | apply Same.trans _ (foldl_same1 _ _ _ (fun _ _ => ?_))
    | apply Same.ite
    | apply Same.ite1
    | apply Same.ite2
    | extract_lets
    | split
    | dsimp -zeta only
    | dsimp +zetaDelta only

theorem execSealWaitExpiry_runs (n : Fin 16) (s : State) : Runs 67104767 s (execSealWaitExpiry n s) := by
  unfold execSealWaitExpiry
  repeat' with_reducible first
    | apply Runs.next
    | exact Same.refl _
    | apply Same.step (m := 67104767) (by decide) (State.mapLk_same ..)
    | apply Same.trans _ (foldl_same _ _ _ (fun _ _ => ?_))
    | apply Same.trans _ (foldl_same1 _ _ _ (fun _ _ => ?_))
    | apply Same.ite
    | apply Same.ite1
    | apply Same.ite2
    | extract_lets
    | split
    | dsimp -zeta only
    | dsimp +zetaDelta only

theorem execInitTimeout_runs (n : Fin 16) (s : State) : Runs 50094453 s (execInitTimeout n s) := by
  unfold execInitTimeout
  repeat' with_reducible first
    | apply Runs.next
    | exact Same.refl _
    | apply Same.step (m := 50094453) (by decide) (State.protocol_same ..)
    | apply Same.trans _ (foldl_same _ _ _ (fun _ _ => ?_))
    | apply Same.trans _ (foldl_same1 _ _ _ (fun _ _ => ?_))
    | apply Same.ite
    | apply Same.ite1
    | apply Same.ite2
    | extract_lets
    | split
    | dsimp -zeta only
    | dsimp +zetaDelta only

theorem execDead_runs (n : Fin 16) (s : State) : Runs 50094453 s (execDead n s) := by
  unfold execDead
  repeat' with_reducible first
    | apply Runs.next
    | exact Same.refl _
    | apply Same.step (m := 50094453) (by decide) (State.lkDown_same ..)
    | apply Same.trans _ (foldl_same _ _ _ (fun _ _ => ?_))
    | apply Same.trans _ (foldl_same1 _ _ _ (fun _ _ => ?_))
    | apply Same.ite
    | apply Same.ite1
    | apply Same.ite2
    | extract_lets
    | split
    | dsimp -zeta only
    | dsimp +zetaDelta only

theorem execLinkRestart_runs (n : Fin 16) (s : State) : Runs 67104753 s (execLinkRestart n s) := by
  unfold execLinkRestart
  repeat' with_reducible first
    | apply Runs.next
    | exact Same.refl _
    | apply Same.step (m := 67104753) (by decide) (State.bringUp_same ..)
    | apply Same.trans _ (foldl_same _ _ _ (fun _ _ => ?_))
    | apply Same.trans _ (foldl_same1 _ _ _ (fun _ _ => ?_))
    | apply Same.ite
    | apply Same.ite1
    | apply Same.ite2
    | extract_lets
    | split
    | dsimp -zeta only
    | dsimp +zetaDelta only

theorem execLkRetrain_runs (p : Path) (n : Fin 16) (rate mask : BitVec 2) (s : State) : Runs 1 s (execLkRetrain p n rate mask s) := by
  unfold execLkRetrain
  repeat' with_reducible first
    | apply Runs.next
    | exact Same.refl _
    | apply Same.step (m := 1) (by decide) (State.write_same ..)
    | apply Same.trans _ (foldl_same _ _ _ (fun _ _ => ?_))
    | apply Same.trans _ (foldl_same1 _ _ _ (fun _ _ => ?_))
    | apply Same.ite
    | apply Same.ite1
    | apply Same.ite2
    | extract_lets
    | split
    | dsimp -zeta only
    | dsimp +zetaDelta only

theorem execLkDown_runs (p : Path) (n : Fin 16) (s : State) : Runs 1 s (execLkDown p n s) := by
  unfold execLkDown
  repeat' with_reducible first
    | apply Runs.next
    | exact Same.refl _
    | apply Same.step (m := 1) (by decide) (State.write_same ..)
    | apply Same.trans _ (foldl_same _ _ _ (fun _ _ => ?_))
    | apply Same.trans _ (foldl_same1 _ _ _ (fun _ _ => ?_))
    | apply Same.ite
    | apply Same.ite1
    | apply Same.ite2
    | extract_lets
    | split
    | dsimp -zeta only
    | dsimp +zetaDelta only

theorem execRetrainReq_runs (n : Fin 16) (r : RetrainMsg) (s : State) : Runs 50094453 s (execRetrainReq n r s) := by
  unfold execRetrainReq
  repeat' with_reducible first
    | apply Runs.next
    | exact Same.refl _
    | apply Same.trans _ (State.whenUp_same (K := 50094453) (by decide) _ _ _ (fun _ => ?_))
    | apply Same.step (m := 50094453) (by decide) (State.rtReqIn_same ..)
    | apply Same.trans _ (foldl_same _ _ _ (fun _ _ => ?_))
    | apply Same.trans _ (foldl_same1 _ _ _ (fun _ _ => ?_))
    | apply Same.ite
    | apply Same.ite1
    | apply Same.ite2
    | extract_lets
    | split
    | dsimp -zeta only
    | dsimp +zetaDelta only

theorem execRetrainAck_runs (n : Fin 16) (r : RetrainMsg) (s : State) : Runs 50094453 s (execRetrainAck n r s) := by
  unfold execRetrainAck
  repeat' with_reducible first
    | apply Runs.next
    | exact Same.refl _
    | apply Same.trans _ (State.whenUp_same (K := 50094453) (by decide) _ _ _ (fun _ => ?_))
    | apply Same.step (m := 50094453) (by decide) (State.rtAckIn_same ..)
    | apply Same.trans _ (foldl_same _ _ _ (fun _ _ => ?_))
    | apply Same.trans _ (foldl_same1 _ _ _ (fun _ _ => ?_))
    | apply Same.ite
    | apply Same.ite1
    | apply Same.ite2
    | extract_lets
    | split
    | dsimp -zeta only
    | dsimp +zetaDelta only

theorem execRetrainTimeout_runs (n : Fin 16) (s : State) : Runs 50094453 s (execRetrainTimeout n s) := by
  unfold execRetrainTimeout
  repeat' with_reducible first
    | apply Runs.next
    | exact Same.refl _
    | apply Same.step (m := 67104767) (by decide) (State.declare_same ..)
    | apply Same.step (m := 50094453) (by decide) (State.lkDown_same ..)
    | apply Same.step (m := 67104765) (by decide) (State.sendMgmt_same ..)
    | apply Same.step (m := 67104767) (by decide) (State.mapLk_same ..)
    | apply Same.trans _ (foldl_same _ _ _ (fun _ _ => ?_))
    | apply Same.trans _ (foldl_same1 _ _ _ (fun _ _ => ?_))
    | apply Same.ite
    | apply Same.ite1
    | apply Same.ite2
    | extract_lets
    | split
    | dsimp -zeta only
    | dsimp +zetaDelta only

theorem execEchoPeriod_runs (n : Fin 16) (s : State) : Runs 67104767 s (execEchoPeriod n s) := by
  unfold execEchoPeriod
  repeat' with_reducible first
    | apply Runs.next
    | exact Same.refl _
    | apply Same.step (m := 67104767) (by decide) (State.mapLk_same ..)
    | apply Same.trans _ (foldl_same _ _ _ (fun _ _ => ?_))
    | apply Same.trans _ (foldl_same1 _ _ _ (fun _ _ => ?_))
    | apply Same.ite
    | apply Same.ite1
    | apply Same.ite2
    | extract_lets
    | split
    | dsimp -zeta only
    | dsimp +zetaDelta only

theorem execEchoTimeout_runs (n : Fin 16) (s : State) : Runs 67104767 s (execEchoTimeout n s) := by
  unfold execEchoTimeout
  repeat' with_reducible first
    | apply Runs.next
    | exact Same.refl _
    | apply Same.step (m := 67104767) (by decide) (State.mapLk_same ..)
    | apply Same.trans _ (foldl_same _ _ _ (fun _ _ => ?_))
    | apply Same.trans _ (foldl_same1 _ _ _ (fun _ _ => ?_))
    | apply Same.ite
    | apply Same.ite1
    | apply Same.ite2
    | extract_lets
    | split
    | dsimp -zeta only
    | dsimp +zetaDelta only

theorem execDescribe_runs (n : Fin 16) (d : DescribeMsg) (s : State) : Runs 50094453 s (execDescribe n d s) := by
  unfold execDescribe
  repeat' with_reducible first
    | apply Runs.next
    | exact Same.refl _
    | apply Same.trans _ (State.whenUp_same (K := 50094453) (by decide) _ _ _ (fun _ => ?_))
    | apply Same.step (m := 50094453) (by decide) (State.describe_same ..)
    | apply Same.trans _ (foldl_same _ _ _ (fun _ _ => ?_))
    | apply Same.trans _ (foldl_same1 _ _ _ (fun _ _ => ?_))
    | apply Same.ite
    | apply Same.ite1
    | apply Same.ite2
    | extract_lets
    | split
    | dsimp -zeta only
    | dsimp +zetaDelta only

theorem execChOpen_runs (n : Fin 16) (_cls _idx _gen : BitVec 8) (s : State) : Runs 67108853 s (execChOpen n _cls _idx _gen s) := by
  unfold execChOpen
  repeat' with_reducible first
    | apply Runs.next
    | exact Same.refl _
    | apply Same.trans _ (State.whenUp_same (K := 67108853) (by decide) _ _ _ (fun _ => ?_))
    | apply Same.step (m := 67108853) (by decide) (State.mgmtErr_same ..)
    | apply Same.trans _ (foldl_same _ _ _ (fun _ _ => ?_))
    | apply Same.trans _ (foldl_same1 _ _ _ (fun _ _ => ?_))
    | apply Same.ite
    | apply Same.ite1
    | apply Same.ite2
    | extract_lets
    | split
    | dsimp -zeta only
    | dsimp +zetaDelta only

theorem execChClose_runs (n : Fin 16) (cls idx gen : BitVec 8) (s : State) : Runs 50094453 s (execChClose n cls idx gen s) := by
  unfold execChClose
  repeat' with_reducible first
    | apply Runs.next
    | exact Same.refl _
    | apply Same.trans _ (State.whenUp_same (K := 50094453) (by decide) _ _ _ (fun _ => ?_))
    | apply Same.step (m := 50094453) (by decide) (State.chCloseIn_same ..)
    | apply Same.trans _ (foldl_same _ _ _ (fun _ _ => ?_))
    | apply Same.trans _ (foldl_same1 _ _ _ (fun _ _ => ?_))
    | apply Same.ite
    | apply Same.ite1
    | apply Same.ite2
    | extract_lets
    | split
    | dsimp -zeta only
    | dsimp +zetaDelta only

theorem execAllotAck_runs (n : Fin 16) (num : BitVec 8) (rx : Bool) (s : State) : Runs 67104767 s (execAllotAck n num rx s) := by
  unfold execAllotAck
  repeat' with_reducible first
    | apply Runs.next
    | exact Same.refl _
    | apply Same.trans _ (State.whenUp_same (K := 67104767) (by decide) _ _ _ (fun _ => ?_))
    | apply Same.step (m := 67104767) (by decide) (State.allotAck_same ..)
    | apply Same.trans _ (foldl_same _ _ _ (fun _ _ => ?_))
    | apply Same.trans _ (foldl_same1 _ _ _ (fun _ _ => ?_))
    | apply Same.ite
    | apply Same.ite1
    | apply Same.ite2
    | extract_lets
    | split
    | dsimp -zeta only
    | dsimp +zetaDelta only

theorem execAllotNak_runs (n : Fin 16) (num : BitVec 8) (rx : Bool) (reason : BitVec 8) (s : State) : Runs 67104757 s (execAllotNak n num rx reason s) := by
  unfold execAllotNak
  repeat' with_reducible first
    | apply Runs.next
    | exact Same.refl _
    | apply Same.trans _ (State.whenUp_same (K := 67104757) (by decide) _ _ _ (fun _ => ?_))
    | apply Same.step (m := 67104757) (by decide) (State.allotNak_same ..)
    | apply Same.trans _ (foldl_same _ _ _ (fun _ _ => ?_))
    | apply Same.trans _ (foldl_same1 _ _ _ (fun _ _ => ?_))
    | apply Same.ite
    | apply Same.ite1
    | apply Same.ite2
    | extract_lets
    | split
    | dsimp -zeta only
    | dsimp +zetaDelta only

theorem execLtol_runs (n : Fin 16) (ns : Word) (s : State) : Runs 50327541 s (execLtol n ns s) := by
  unfold execLtol
  repeat' with_reducible first
    | apply Runs.next
    | exact Same.refl _
    | apply Same.step (m := 50327541) (by decide) (State.ltol_same ..)
    | apply Same.trans _ (foldl_same _ _ _ (fun _ _ => ?_))
    | apply Same.trans _ (foldl_same1 _ _ _ (fun _ _ => ?_))
    | apply Same.ite
    | apply Same.ite1
    | apply Same.ite2
    | extract_lets
    | split
    | dsimp -zeta only
    | dsimp +zetaDelta only

theorem execVendorMgmt_runs (n : Fin 16) (code : BitVec 7) (payload : List (BitVec 8)) (s : State) : Runs 67108855 s (execVendorMgmt n code payload s) := by
  unfold execVendorMgmt
  repeat' with_reducible first
    | apply Runs.next
    | exact Same.refl _
    | apply Same.step (m := 67108855) (by decide) (State.vendor_same ..)
    | apply Same.trans _ (foldl_same _ _ _ (fun _ _ => ?_))
    | apply Same.trans _ (foldl_same1 _ _ _ (fun _ _ => ?_))
    | apply Same.ite
    | apply Same.ite1
    | apply Same.ite2
    | extract_lets
    | split
    | dsimp -zeta only
    | dsimp +zetaDelta only

theorem execBadMgmtMessage_runs (n : Fin 16) (code : BitVec 8) (s : State) : Runs 50094453 s (execBadMgmtMessage n code s) := by
  unfold execBadMgmtMessage
  repeat' with_reducible first
    | apply Runs.next
    | exact Same.refl _
    | apply Same.trans _ (State.whenUp_same (K := 50094453) (by decide) _ _ _ (fun _ => ?_))
    | apply Same.step (m := 50094453) (by decide) (State.protocol_same ..)
    | apply Same.step (m := 67108853) (by decide) (State.mgmtErr_same ..)
    | apply Same.trans _ (foldl_same _ _ _ (fun _ _ => ?_))
    | apply Same.trans _ (foldl_same1 _ _ _ (fun _ _ => ?_))
    | apply Same.ite
    | apply Same.ite1
    | apply Same.ite2
    | extract_lets
    | split
    | dsimp -zeta only
    | dsimp +zetaDelta only

theorem execChCmdOpen_runs (p : Path) (n : Fin 16) (s : State) : Runs 1 s (execChCmdOpen p n s) := by
  unfold execChCmdOpen
  repeat' with_reducible first
    | apply Runs.next
    | exact Same.refl _
    | apply Same.step (m := 1) (by decide) (State.write_same ..)
    | apply Same.trans _ (foldl_same _ _ _ (fun _ _ => ?_))
    | apply Same.trans _ (foldl_same1 _ _ _ (fun _ _ => ?_))
    | apply Same.ite
    | apply Same.ite1
    | apply Same.ite2
    | extract_lets
    | split
    | dsimp -zeta only
    | dsimp +zetaDelta only

theorem execChCmdClose_runs (p : Path) (n : Fin 16) (s : State) : Runs 1 s (execChCmdClose p n s) := by
  unfold execChCmdClose
  repeat' with_reducible first
    | apply Runs.next
    | exact Same.refl _
    | apply Same.step (m := 1) (by decide) (State.write_same ..)
    | apply Same.trans _ (foldl_same _ _ _ (fun _ _ => ?_))
    | apply Same.trans _ (foldl_same1 _ _ _ (fun _ _ => ?_))
    | apply Same.ite
    | apply Same.ite1
    | apply Same.ite2
    | extract_lets
    | split
    | dsimp -zeta only
    | dsimp +zetaDelta only

theorem execTlp_runs (n : Fin 16) (chan : BitVec 16) (t : TlpIn) (s : State) : Runs 49832309 s (execTlp n chan t s) := by
  unfold execTlp
  repeat' with_reducible first
    | apply Runs.next
    | exact Same.refl _
    | apply Same.step (m := 49868661) (by decide) (State.sigDrain_same ..)
    | apply Same.step (m := 67108861) (by decide) (State.sat_same ..)
    | apply Same.step (m := 67104767) (by decide) (State.mapLk_same ..)
    | apply Same.step (m := 67108735) (by decide) (State.corePush_same ..)
    | apply Same.step (m := 66846709) (by decide) (State.shutOut_same ..)
    | apply Same.step (m := 67108855) (by decide) (State.ptmAnswer_same ..)
    | apply Same.step (m := 67108853) (by decide) (State.stale_same ..)
    | apply Same.step (m := 67106807) (by decide) (State.foundFn_same ..)
    | apply Same.step (m := 67106815) (by decide) (State.mapPort_same ..)
    | apply Same.step (m := 50028917) (by decide) (State.fnRead_same ..)
    | apply Same.step (m := 50028917) (by decide) (State.fnWrite_same ..)
    | apply Same.step (m := 50028917) (by decide) (State.fnAtomic_same ..)
    | apply Same.step (m := 67108855) (by decide) (State.emit_same ..)
    | apply Same.trans _ (foldl_same _ _ _ (fun _ _ => ?_))
    | apply Same.trans _ (foldl_same1 _ _ _ (fun _ _ => ?_))
    | apply Same.ite
    | apply Same.ite1
    | apply Same.ite2
    | extract_lets
    | split
    | dsimp -zeta only
    | dsimp +zetaDelta only

theorem execPcieScanTimeout_runs (n : Fin 16) (chan : BitVec 16) (s : State) : Runs 67104767 s (execPcieScanTimeout n chan s) := by
  unfold execPcieScanTimeout
  repeat' with_reducible first
    | apply Runs.next
    | exact Same.refl _
    | apply Same.step (m := 67104767) (by decide) (State.mapLk_same ..)
    | apply Same.trans _ (foldl_same _ _ _ (fun _ _ => ?_))
    | apply Same.trans _ (foldl_same1 _ _ _ (fun _ _ => ?_))
    | apply Same.ite
    | apply Same.ite1
    | apply Same.ite2
    | extract_lets
    | split
    | dsimp -zeta only
    | dsimp +zetaDelta only

theorem execEthFrame_runs (port : Fin 544) (frame : EthIn) (s : State) : Runs 49868661 s (execEthFrame port frame s) := by
  unfold execEthFrame
  repeat' with_reducible first
    | apply Runs.next
    | exact Same.refl _
    | apply Same.step (m := 49868661) (by decide) (State.sigDrain_same ..)
    | apply Same.step (m := 67108733) (by decide) (State.ethIn_same ..)
    | apply Same.trans _ (foldl_same _ _ _ (fun _ _ => ?_))
    | apply Same.trans _ (foldl_same1 _ _ _ (fun _ _ => ?_))
    | apply Same.ite
    | apply Same.ite1
    | apply Same.ite2
    | extract_lets
    | split
    | dsimp -zeta only
    | dsimp +zetaDelta only

theorem execFwdAge_runs (mac : BitVec 48) (vid : BitVec 12) (dom : BitVec 4) (s : State) : Runs 67104767 s (execFwdAge mac vid dom s) := by
  unfold execFwdAge
  repeat' with_reducible first
    | apply Runs.next
    | exact Same.refl _
    | apply Same.step (m := 67104767) (by decide) (State.fwdForget_same ..)
    | apply Same.trans _ (foldl_same _ _ _ (fun _ _ => ?_))
    | apply Same.trans _ (foldl_same1 _ _ _ (fun _ _ => ?_))
    | apply Same.ite
    | apply Same.ite1
    | apply Same.ite2
    | extract_lets
    | split
    | dsimp -zeta only
    | dsimp +zetaDelta only

theorem execFwdPortCfg_runs (h : Fin 32) (seq : Word) (port : BitVec 16) (dom : BitVec 8) (learn block : Bool) (s : State) : Runs 67104759 s (execFwdPortCfg h seq port dom learn block s) := by
  unfold execFwdPortCfg
  repeat' with_reducible first
    | apply Runs.next
    | exact Same.refl _
    | apply Same.step (m := 67108855) (by decide) (State.complete_same ..)
    | apply Same.step (m := 67104767) (by decide) (State.mapLinks_same ..)
    | apply Same.trans _ (foldl_same _ _ _ (fun _ _ => ?_))
    | apply Same.trans _ (foldl_same1 _ _ _ (fun _ _ => ?_))
    | apply Same.ite
    | apply Same.ite1
    | apply Same.ite2
    | extract_lets
    | split
    | dsimp -zeta only
    | dsimp +zetaDelta only

theorem execFwdFlush_runs (h : Fin 32) (seq : Word) (dom : BitVec 8) (s : State) : Runs 67104759 s (execFwdFlush h seq dom s) := by
  unfold execFwdFlush
  repeat' with_reducible first
    | apply Runs.next
    | exact Same.refl _
    | apply Same.step (m := 67108855) (by decide) (State.complete_same ..)
    | apply Same.step (m := 67104767) (by decide) (State.fwdForget_same ..)
    | apply Same.trans _ (foldl_same _ _ _ (fun _ _ => ?_))
    | apply Same.trans _ (foldl_same1 _ _ _ (fun _ _ => ?_))
    | apply Same.ite
    | apply Same.ite1
    | apply Same.ite2
    | extract_lets
    | split
    | dsimp -zeta only
    | dsimp +zetaDelta only

theorem execFeaturesOk_runs (h : Fin 32) (version1 : Bool) (ringPacked : Bool) (pairs : DriverSetup) (s : State) : Runs 67104759 s (execFeaturesOk h version1 ringPacked pairs s) := by
  unfold execFeaturesOk
  repeat' with_reducible first
    | apply Runs.next
    | exact Same.refl _
    | apply Same.step (m := 67108855) (by decide) (State.emit_same ..)
    | apply Same.step (m := 67104767) (by decide) (State.mapLinks_same ..)
    | apply Same.trans _ (foldl_same _ _ _ (fun _ _ => ?_))
    | apply Same.trans _ (foldl_same1 _ _ _ (fun _ _ => ?_))
    | apply Same.ite
    | apply Same.ite1
    | apply Same.ite2
    | extract_lets
    | split
    | dsimp -zeta only
    | dsimp +zetaDelta only

theorem execEpochBoundary_runs (n : Fin 16) (rx : Bool) (s : State) : Runs 67104753 s (execEpochBoundary n rx s) := by
  unfold execEpochBoundary
  repeat' with_reducible first
    | apply Runs.next
    | exact Same.refl _
    | apply Same.trans _ (State.whenUp_same (K := 67104753) (by decide) _ _ _ (fun _ => ?_))
    | apply Same.step (m := 67104753) (by decide) (State.epochCheck_same ..)
    | apply Same.trans _ (foldl_same _ _ _ (fun _ _ => ?_))
    | apply Same.trans _ (foldl_same1 _ _ _ (fun _ _ => ?_))
    | apply Same.ite
    | apply Same.ite1
    | apply Same.ite2
    | extract_lets
    | split
    | dsimp -zeta only
    | dsimp +zetaDelta only

theorem execSbuTmgmt_runs (n : Fin 16) (crcOk : Bool) (seq : BitVec 8) (msg : List (BitVec 8)) (s : State) : Runs 50094453 s (execSbuTmgmt n crcOk seq msg s) := by
  unfold execSbuTmgmt
  repeat' with_reducible first
    | apply Runs.next
    | exact Same.refl _
    | apply Same.trans _ (State.sbuIn_same (K := 50094453) (by decide) _ _ _ _ _ (fun _ => ?_))
    | apply Same.step (m := 50094453) (by decide) (State.sbuMgmt_same ..)
    | apply Same.trans _ (foldl_same _ _ _ (fun _ _ => ?_))
    | apply Same.trans _ (foldl_same1 _ _ _ (fun _ _ => ?_))
    | apply Same.ite
    | apply Same.ite1
    | apply Same.ite2
    | extract_lets
    | split
    | dsimp -zeta only
    | dsimp +zetaDelta only

theorem execSbuTsig_runs (n : Fin 16) (crcOk : Bool) (seq : BitVec 8) (msg : List (BitVec 8)) (s : State) : Runs 49832309 s (execSbuTsig n crcOk seq msg s) := by
  unfold execSbuTsig
  repeat' with_reducible first
    | apply Runs.next
    | exact Same.refl _
    | apply Same.trans _ (State.sbuIn_same (K := 49832309) (by decide) _ _ _ _ _ (fun _ => ?_))
    | apply Same.step (m := 49832309) (by decide) (State.sigSbu_same ..)
    | apply Same.trans _ (foldl_same _ _ _ (fun _ _ => ?_))
    | apply Same.trans _ (foldl_same1 _ _ _ (fun _ _ => ?_))
    | apply Same.ite
    | apply Same.ite1
    | apply Same.ite2
    | extract_lets
    | split
    | dsimp -zeta only
    | dsimp +zetaDelta only

theorem execWake_runs (n : Fin 16) (crcOk : Bool) (seq : BitVec 8) (s : State) : Runs 67104757 s (execWake n crcOk seq s) := by
  unfold execWake
  repeat' with_reducible first
    | apply Runs.next
    | exact Same.refl _
    | apply Same.trans _ (State.sbuIn_same (K := 67104757) (by decide) _ _ _ _ _ (fun _ => ?_))
    | apply Same.step (m := 67104757) (by decide) (State.dockExit_same ..)
    | apply Same.trans _ (foldl_same _ _ _ (fun _ _ => ?_))
    | apply Same.trans _ (foldl_same1 _ _ _ (fun _ _ => ?_))
    | apply Same.ite
    | apply Same.ite1
    | apply Same.ite2
    | extract_lets
    | split
    | dsimp -zeta only
    | dsimp +zetaDelta only

theorem execSbuAck_runs (n : Fin 16) (crcOk : Bool) (acked : BitVec 8) (s : State) : Runs 67104757 s (execSbuAck n crcOk acked s) := by
  unfold execSbuAck
  repeat' with_reducible first
    | apply Runs.next
    | exact Same.refl _
    | apply Same.step (m := 67104757) (by decide) (State.sbuAck_same ..)
    | apply Same.trans _ (foldl_same _ _ _ (fun _ _ => ?_))
    | apply Same.trans _ (foldl_same1 _ _ _ (fun _ _ => ?_))
    | apply Same.ite
    | apply Same.ite1
    | apply Same.ite2
    | extract_lets
    | split
    | dsimp -zeta only
    | dsimp +zetaDelta only

theorem execSbuTimeout_runs (n : Fin 16) (s : State) : Runs 67104757 s (execSbuTimeout n s) := by
  unfold execSbuTimeout
  repeat' with_reducible first
    | apply Runs.next
    | exact Same.refl _
    | apply Same.step (m := 67104757) (by decide) (State.sbuTimeout_same ..)
    | apply Same.trans _ (foldl_same _ _ _ (fun _ _ => ?_))
    | apply Same.trans _ (foldl_same1 _ _ _ (fun _ _ => ?_))
    | apply Same.ite
    | apply Same.ite1
    | apply Same.ite2
    | extract_lets
    | split
    | dsimp -zeta only
    | dsimp +zetaDelta only

end Sys2Proof.Machine
end

