-- ==== Sys2Proof/Laws/RunsEngineCmd.lean ====
section
/-! SUPPORT. What each command of Machine/EngineCmd.lean may change when it runs, as it always does. -/

set_option linter.all false

namespace Sys2Proof.Machine

theorem execAdd_runs (e : Fin 24) (gd ga gb : Fin 16) (s : State) : Runs 16269669 s (execAdd e gd ga gb s) := by
  unfold execAdd
  repeat' with_reducible first
    | apply Runs.next
    | exact Same.refl _
    | apply Same.step (m := 16269669) (by decide) (State.aluR_same ..)
    | apply Same.trans _ (foldl_same _ _ _ (fun _ _ => ?_))
    | apply Same.trans _ (foldl_same1 _ _ _ (fun _ _ => ?_))
    | apply Same.ite
    | apply Same.ite1
    | apply Same.ite2
    | extract_lets
    | split
    | dsimp -zeta only
    | dsimp +zetaDelta only

theorem execSub_runs (e : Fin 24) (gd ga gb : Fin 16) (s : State) : Runs 16269669 s (execSub e gd ga gb s) := by
  unfold execSub
  repeat' with_reducible first
    | apply Runs.next
    | exact Same.refl _
    | apply Same.step (m := 16269669) (by decide) (State.aluR_same ..)
    | apply Same.trans _ (foldl_same _ _ _ (fun _ _ => ?_))
    | apply Same.trans _ (foldl_same1 _ _ _ (fun _ _ => ?_))
    | apply Same.ite
    | apply Same.ite1
    | apply Same.ite2
    | extract_lets
    | split
    | dsimp -zeta only
    | dsimp +zetaDelta only

theorem execAnd_runs (e : Fin 24) (gd ga gb : Fin 16) (s : State) : Runs 16269669 s (execAnd e gd ga gb s) := by
  unfold execAnd
  repeat' with_reducible first
    | apply Runs.next
    | exact Same.refl _
    | apply Same.step (m := 16269669) (by decide) (State.aluR_same ..)
    | apply Same.trans _ (foldl_same _ _ _ (fun _ _ => ?_))
    | apply Same.trans _ (foldl_same1 _ _ _ (fun _ _ => ?_))
    | apply Same.ite
    | apply Same.ite1
    | apply Same.ite2
    | extract_lets
    | split
    | dsimp -zeta only
    | dsimp +zetaDelta only

theorem execOr_runs (e : Fin 24) (gd ga gb : Fin 16) (s : State) : Runs 16269669 s (execOr e gd ga gb s) := by
  unfold execOr
  repeat' with_reducible first
    | apply Runs.next
    | exact Same.refl _
    | apply Same.step (m := 16269669) (by decide) (State.aluR_same ..)
    | apply Same.trans _ (foldl_same _ _ _ (fun _ _ => ?_))
    | apply Same.trans _ (foldl_same1 _ _ _ (fun _ _ => ?_))
    | apply Same.ite
    | apply Same.ite1
    | apply Same.ite2
    | extract_lets
    | split
    | dsimp -zeta only
    | dsimp +zetaDelta only

theorem execXor_runs (e : Fin 24) (gd ga gb : Fin 16) (s : State) : Runs 16269669 s (execXor e gd ga gb s) := by
  unfold execXor
  repeat' with_reducible first
    | apply Runs.next
    | exact Same.refl _
    | apply Same.step (m := 16269669) (by decide) (State.aluR_same ..)
    | apply Same.trans _ (foldl_same _ _ _ (fun _ _ => ?_))
    | apply Same.trans _ (foldl_same1 _ _ _ (fun _ _ => ?_))
    | apply Same.ite
    | apply Same.ite1
    | apply Same.ite2
    | extract_lets
    | split
    | dsimp -zeta only
    | dsimp +zetaDelta only

theorem execShl_runs (e : Fin 24) (gd ga gb : Fin 16) (s : State) : Runs 16269669 s (execShl e gd ga gb s) := by
  unfold execShl
  repeat' with_reducible first
    | apply Runs.next
    | exact Same.refl _
    | apply Same.step (m := 16269669) (by decide) (State.aluR_same ..)
    | apply Same.trans _ (foldl_same _ _ _ (fun _ _ => ?_))
    | apply Same.trans _ (foldl_same1 _ _ _ (fun _ _ => ?_))
    | apply Same.ite
    | apply Same.ite1
    | apply Same.ite2
    | extract_lets
    | split
    | dsimp -zeta only
    | dsimp +zetaDelta only

theorem execShr_runs (e : Fin 24) (gd ga gb : Fin 16) (s : State) : Runs 16269669 s (execShr e gd ga gb s) := by
  unfold execShr
  repeat' with_reducible first
    | apply Runs.next
    | exact Same.refl _
    | apply Same.step (m := 16269669) (by decide) (State.aluR_same ..)
    | apply Same.trans _ (foldl_same _ _ _ (fun _ _ => ?_))
    | apply Same.trans _ (foldl_same1 _ _ _ (fun _ _ => ?_))
    | apply Same.ite
    | apply Same.ite1
    | apply Same.ite2
    | extract_lets
    | split
    | dsimp -zeta only
    | dsimp +zetaDelta only

theorem execSar_runs (e : Fin 24) (gd ga gb : Fin 16) (s : State) : Runs 16269669 s (execSar e gd ga gb s) := by
  unfold execSar
  repeat' with_reducible first
    | apply Runs.next
    | exact Same.refl _
    | apply Same.step (m := 16269669) (by decide) (State.aluR_same ..)
    | apply Same.trans _ (foldl_same _ _ _ (fun _ _ => ?_))
    | apply Same.trans _ (foldl_same1 _ _ _ (fun _ _ => ?_))
    | apply Same.ite
    | apply Same.ite1
    | apply Same.ite2
    | extract_lets
    | split
    | dsimp -zeta only
    | dsimp +zetaDelta only

theorem execMul_runs (e : Fin 24) (gd ga gb : Fin 16) (s : State) : Runs 16269669 s (execMul e gd ga gb s) := by
  unfold execMul
  repeat' with_reducible first
    | apply Runs.next
    | exact Same.refl _
    | apply Same.step (m := 16269669) (by decide) (State.aluR_same ..)
    | apply Same.trans _ (foldl_same _ _ _ (fun _ _ => ?_))
    | apply Same.trans _ (foldl_same1 _ _ _ (fun _ _ => ?_))
    | apply Same.ite
    | apply Same.ite1
    | apply Same.ite2
    | extract_lets
    | split
    | dsimp -zeta only
    | dsimp +zetaDelta only

theorem execSltu_runs (e : Fin 24) (gd ga gb : Fin 16) (s : State) : Runs 16269669 s (execSltu e gd ga gb s) := by
  unfold execSltu
  repeat' with_reducible first
    | apply Runs.next
    | exact Same.refl _
    | apply Same.step (m := 16269669) (by decide) (State.aluR_same ..)
    | apply Same.trans _ (foldl_same _ _ _ (fun _ _ => ?_))
    | apply Same.trans _ (foldl_same1 _ _ _ (fun _ _ => ?_))
    | apply Same.ite
    | apply Same.ite1
    | apply Same.ite2
    | extract_lets
    | split
    | dsimp -zeta only
    | dsimp +zetaDelta only

theorem execAddi_runs (e : Fin 24) (gd ga : Fin 16) (imm : BitVec 18) (s : State) : Runs 16269669 s (execAddi e gd ga imm s) := by
  unfold execAddi
  repeat' with_reducible first
    | apply Runs.next
    | exact Same.refl _
    | apply Same.step (m := 16269669) (by decide) (State.aluI_same ..)
    | apply Same.trans _ (foldl_same _ _ _ (fun _ _ => ?_))
    | apply Same.trans _ (foldl_same1 _ _ _ (fun _ _ => ?_))
    | apply Same.ite
    | apply Same.ite1
    | apply Same.ite2
    | extract_lets
    | split
    | dsimp -zeta only
    | dsimp +zetaDelta only

theorem execAndi_runs (e : Fin 24) (gd ga : Fin 16) (imm : BitVec 18) (s : State) : Runs 16269669 s (execAndi e gd ga imm s) := by
  unfold execAndi
  repeat' with_reducible first
    | apply Runs.next
    | exact Same.refl _
    | apply Same.step (m := 16269669) (by decide) (State.aluI_same ..)
    | apply Same.trans _ (foldl_same _ _ _ (fun _ _ => ?_))
    | apply Same.trans _ (foldl_same1 _ _ _ (fun _ _ => ?_))
    | apply Same.ite
    | apply Same.ite1
    | apply Same.ite2
    | extract_lets
    | split
    | dsimp -zeta only
    | dsimp +zetaDelta only

theorem execOri_runs (e : Fin 24) (gd ga : Fin 16) (imm : BitVec 18) (s : State) : Runs 16269669 s (execOri e gd ga imm s) := by
  unfold execOri
  repeat' with_reducible first
    | apply Runs.next
    | exact Same.refl _
    | apply Same.step (m := 16269669) (by decide) (State.aluI_same ..)
    | apply Same.trans _ (foldl_same _ _ _ (fun _ _ => ?_))
    | apply Same.trans _ (foldl_same1 _ _ _ (fun _ _ => ?_))
    | apply Same.ite
    | apply Same.ite1
    | apply Same.ite2
    | extract_lets
    | split
    | dsimp -zeta only
    | dsimp +zetaDelta only

theorem execXori_runs (e : Fin 24) (gd ga : Fin 16) (imm : BitVec 18) (s : State) : Runs 16269669 s (execXori e gd ga imm s) := by
  unfold execXori
  repeat' with_reducible first
    | apply Runs.next
    | exact Same.refl _
    | apply Same.step (m := 16269669) (by decide) (State.aluI_same ..)
    | apply Same.trans _ (foldl_same _ _ _ (fun _ _ => ?_))
    | apply Same.trans _ (foldl_same1 _ _ _ (fun _ _ => ?_))
    | apply Same.ite
    | apply Same.ite1
    | apply Same.ite2
    | extract_lets
    | split
    | dsimp -zeta only
    | dsimp +zetaDelta only

theorem execLui_runs (e : Fin 24) (gd _ga : Fin 16) (imm : BitVec 18) (s : State) : Runs 16269669 s (execLui e gd _ga imm s) := by
  unfold execLui
  repeat' with_reducible first
    | apply Runs.next
    | exact Same.refl _
    | apply Same.step (m := 16269669) (by decide) (State.alu_same ..)
    | apply Same.trans _ (foldl_same _ _ _ (fun _ _ => ?_))
    | apply Same.trans _ (foldl_same1 _ _ _ (fun _ _ => ?_))
    | apply Same.ite
    | apply Same.ite1
    | apply Same.ite2
    | extract_lets
    | split
    | dsimp -zeta only
    | dsimp +zetaDelta only

theorem execLd_runs (e : Fin 24) (gd ga : Fin 16) (imm : BitVec 18) (ecc : Ecc) (s : State) : Runs 16269637 s (execLd e gd ga imm ecc s) := by
  unfold execLd
  repeat' with_reducible first
    | apply Runs.next
    | exact Same.refl _
    | apply Same.trans _ (State.instr_same (K := 16269637) (by decide) _ _ _ (fun _ _ => ?_))
    | apply Same.step (m := 16269669) (by decide) (State.engTrap_same ..)
    | apply Same.trans _ (State.eccThen_same (K := 16269637) (by decide) _ _ _ _ (fun _ => ?_))
    | apply Same.step (m := 66977791) (by decide) (State.loaded_same ..)
    | apply Same.step (m := 50327493) (by decide) (State.read_same ..)
    | apply Same.step (m := 50200575) (by decide) (State.stalled_same ..)
    | apply Same.trans _ (foldl_same _ _ _ (fun _ _ => ?_))
    | apply Same.trans _ (foldl_same1 _ _ _ (fun _ _ => ?_))
    | apply Same.ite
    | apply Same.ite1
    | apply Same.ite2
    | extract_lets
    | split
    | dsimp -zeta only
    | dsimp +zetaDelta only

theorem execSt_runs (e : Fin 24) (gd ga : Fin 16) (imm : BitVec 18) (s : State) : Runs 1 s (execSt e gd ga imm s) := by
  unfold execSt
  repeat' with_reducible first
    | apply Runs.next
    | exact Same.refl _
    | apply Same.trans _ (State.instr_same (K := 1) (by decide) _ _ _ (fun _ _ => ?_))
    | apply Same.step (m := 16269669) (by decide) (State.engTrap_same ..)
    | apply Same.step (m := 33423357) (by decide) (State.journalFull_same ..)
    | apply Same.step (m := 66977791) (by decide) (State.setCore_same ..)
    | apply Same.step (m := 33423359) (by decide) (State.storeData_same ..)
    | apply Same.step (m := 33554431) (by decide) (State.setEngWord_same ..)
    | apply Same.step (m := 1) (by decide) (State.write_same ..)
    | apply Same.step (m := 50200575) (by decide) (State.stalled_same ..)
    | apply Same.trans _ (foldl_same _ _ _ (fun _ _ => ?_))
    | apply Same.trans _ (foldl_same1 _ _ _ (fun _ _ => ?_))
    | apply Same.ite
    | apply Same.ite1
    | apply Same.ite2
    | extract_lets
    | split
    | dsimp -zeta only
    | dsimp +zetaDelta only

theorem execLdb_runs (e : Fin 24) (gd ga : Fin 16) (imm : BitVec 18) (ecc : Ecc) (s : State) : Runs 16269669 s (execLdb e gd ga imm ecc s) := by
  unfold execLdb
  repeat' with_reducible first
    | apply Runs.next
    | exact Same.refl _
    | apply Same.trans _ (State.instr_same (K := 16269669) (by decide) _ _ _ (fun _ _ => ?_))
    | apply Same.trans _ (State.eccThen_same (K := 16269669) (by decide) _ _ _ _ (fun _ => ?_))
    | apply Same.step (m := 66977791) (by decide) (State.loaded_same ..)
    | apply Same.step (m := 16269669) (by decide) (State.engTrap_same ..)
    | apply Same.trans _ (foldl_same _ _ _ (fun _ _ => ?_))
    | apply Same.trans _ (foldl_same1 _ _ _ (fun _ _ => ?_))
    | apply Same.ite
    | apply Same.ite1
    | apply Same.ite2
    | extract_lets
    | split
    | dsimp -zeta only
    | dsimp +zetaDelta only

theorem execStb_runs (e : Fin 24) (gd ga : Fin 16) (imm : BitVec 18) (ecc : Ecc) (s : State) : Runs 16269669 s (execStb e gd ga imm ecc s) := by
  unfold execStb
  repeat' with_reducible first
    | apply Runs.next
    | exact Same.refl _
    | apply Same.trans _ (State.instr_same (K := 16269669) (by decide) _ _ _ (fun _ _ => ?_))
    | apply Same.trans _ (State.eccThen_same (K := 16269669) (by decide) _ _ _ _ (fun _ => ?_))
    | apply Same.step (m := 33423357) (by decide) (State.journalFull_same ..)
    | apply Same.step (m := 66977791) (by decide) (State.setCore_same ..)
    | apply Same.step (m := 33423359) (by decide) (State.storeData_same ..)
    | apply Same.step (m := 16269669) (by decide) (State.engTrap_same ..)
    | apply Same.trans _ (foldl_same _ _ _ (fun _ _ => ?_))
    | apply Same.trans _ (foldl_same1 _ _ _ (fun _ _ => ?_))
    | apply Same.ite
    | apply Same.ite1
    | apply Same.ite2
    | extract_lets
    | split
    | dsimp -zeta only
    | dsimp +zetaDelta only

theorem execBeq_runs (e : Fin 24) (ga gb : Fin 16) (off : BitVec 18) (s : State) : Runs 16269669 s (execBeq e ga gb off s) := by
  unfold execBeq
  repeat' with_reducible first
    | apply Runs.next
    | exact Same.refl _
    | apply Same.step (m := 16269669) (by decide) (State.branch_same ..)
    | apply Same.trans _ (foldl_same _ _ _ (fun _ _ => ?_))
    | apply Same.trans _ (foldl_same1 _ _ _ (fun _ _ => ?_))
    | apply Same.ite
    | apply Same.ite1
    | apply Same.ite2
    | extract_lets
    | split
    | dsimp -zeta only
    | dsimp +zetaDelta only

theorem execBne_runs (e : Fin 24) (ga gb : Fin 16) (off : BitVec 18) (s : State) : Runs 16269669 s (execBne e ga gb off s) := by
  unfold execBne
  repeat' with_reducible first
    | apply Runs.next
    | exact Same.refl _
    | apply Same.step (m := 16269669) (by decide) (State.branch_same ..)
    | apply Same.trans _ (foldl_same _ _ _ (fun _ _ => ?_))
    | apply Same.trans _ (foldl_same1 _ _ _ (fun _ _ => ?_))
    | apply Same.ite
    | apply Same.ite1
    | apply Same.ite2
    | extract_lets
    | split
    | dsimp -zeta only
    | dsimp +zetaDelta only

theorem execBlt_runs (e : Fin 24) (ga gb : Fin 16) (off : BitVec 18) (s : State) : Runs 16269669 s (execBlt e ga gb off s) := by
  unfold execBlt
  repeat' with_reducible first
    | apply Runs.next
    | exact Same.refl _
    | apply Same.step (m := 16269669) (by decide) (State.branch_same ..)
    | apply Same.trans _ (foldl_same _ _ _ (fun _ _ => ?_))
    | apply Same.trans _ (foldl_same1 _ _ _ (fun _ _ => ?_))
    | apply Same.ite
    | apply Same.ite1
    | apply Same.ite2
    | extract_lets
    | split
    | dsimp -zeta only
    | dsimp +zetaDelta only

theorem execBltu_runs (e : Fin 24) (ga gb : Fin 16) (off : BitVec 18) (s : State) : Runs 16269669 s (execBltu e ga gb off s) := by
  unfold execBltu
  repeat' with_reducible first
    | apply Runs.next
    | exact Same.refl _
    | apply Same.step (m := 16269669) (by decide) (State.branch_same ..)
    | apply Same.trans _ (foldl_same _ _ _ (fun _ _ => ?_))
    | apply Same.trans _ (foldl_same1 _ _ _ (fun _ _ => ?_))
    | apply Same.ite
    | apply Same.ite1
    | apply Same.ite2
    | extract_lets
    | split
    | dsimp -zeta only
    | dsimp +zetaDelta only

theorem execJal_runs (e : Fin 24) (gd : Fin 16) (off : BitVec 22) (s : State) : Runs 16269669 s (execJal e gd off s) := by
  unfold execJal
  repeat' with_reducible first
    | apply Runs.next
    | exact Same.refl _
    | apply Same.step (m := 16269669) (by decide) (State.jump_same ..)
    | apply Same.trans _ (foldl_same _ _ _ (fun _ _ => ?_))
    | apply Same.trans _ (foldl_same1 _ _ _ (fun _ _ => ?_))
    | apply Same.ite
    | apply Same.ite1
    | apply Same.ite2
    | extract_lets
    | split
    | dsimp -zeta only
    | dsimp +zetaDelta only

theorem execJr_runs (e : Fin 24) (gd ga : Fin 16) (imm : BitVec 18) (s : State) : Runs 16269669 s (execJr e gd ga imm s) := by
  unfold execJr
  repeat' with_reducible first
    | apply Runs.next
    | exact Same.refl _
    | apply Same.step (m := 16269669) (by decide) (State.jump_same ..)
    | apply Same.trans _ (foldl_same _ _ _ (fun _ _ => ?_))
    | apply Same.trans _ (foldl_same1 _ _ _ (fun _ _ => ?_))
    | apply Same.ite
    | apply Same.ite1
    | apply Same.ite2
    | extract_lets
    | split
    | dsimp -zeta only
    | dsimp +zetaDelta only

theorem execCsrr_runs (e : Fin 24) (gd : Fin 16) (csr : BitVec 18) (s : State) : Runs 16269669 s (execCsrr e gd csr s) := by
  unfold execCsrr
  repeat' with_reducible first
    | apply Runs.next
    | exact Same.refl _
    | apply Same.trans _ (State.instr_same (K := 16269669) (by decide) _ _ _ (fun _ _ => ?_))
    | apply Same.step (m := 50327551) (by decide) (State.csrRead_same ..)
    | apply Same.step (m := 66977791) (by decide) (State.setCore_same ..)
    | apply Same.trans _ (foldl_same _ _ _ (fun _ _ => ?_))
    | apply Same.trans _ (foldl_same1 _ _ _ (fun _ _ => ?_))
    | apply Same.ite
    | apply Same.ite1
    | apply Same.ite2
    | extract_lets
    | split
    | dsimp -zeta only
    | dsimp +zetaDelta only

theorem execCsrw_runs (e : Fin 24) (ga : Fin 16) (csr : BitVec 18) (s : State) : Runs 16269669 s (execCsrw e ga csr s) := by
  unfold execCsrw
  repeat' with_reducible first
    | apply Runs.next
    | exact Same.refl _
    | apply Same.trans _ (State.instr_same (K := 16269669) (by decide) _ _ _ (fun _ _ => ?_))
    | apply Same.step (m := 66977791) (by decide) (State.setCore_same ..)
    | apply Same.trans _ (foldl_same _ _ _ (fun _ _ => ?_))
    | apply Same.trans _ (foldl_same1 _ _ _ (fun _ _ => ?_))
    | apply Same.ite
    | apply Same.ite1
    | apply Same.ite2
    | extract_lets
    | split
    | dsimp -zeta only
    | dsimp +zetaDelta only

theorem execWait_runs (e : Fin 24) (s : State) : Runs 16269669 s (execWait e s) := by
  unfold execWait
  repeat' with_reducible first
    | apply Runs.next
    | exact Same.refl _
    | apply Same.trans _ (State.instr_same (K := 16269669) (by decide) _ _ _ (fun _ _ => ?_))
    | apply Same.step (m := 66977791) (by decide) (State.setCore_same ..)
    | apply Same.step (m := 67108861) (by decide) (State.set_same ..)
    | apply Same.trans _ (foldl_same _ _ _ (fun _ _ => ?_))
    | apply Same.trans _ (foldl_same1 _ _ _ (fun _ _ => ?_))
    | apply Same.ite
    | apply Same.ite1
    | apply Same.ite2
    | extract_lets
    | split
    | dsimp -zeta only
    | dsimp +zetaDelta only

theorem execRetn_runs (e : Fin 24) (s : State) : Runs 16269669 s (execRetn e s) := by
  unfold execRetn
  repeat' with_reducible first
    | apply Runs.next
    | exact Same.refl _
    | apply Same.trans _ (State.instr_same (K := 16269669) (by decide) _ _ _ (fun _ _ => ?_))
    | apply Same.step (m := 66977791) (by decide) (State.setCore_same ..)
    | apply Same.trans _ (foldl_same _ _ _ (fun _ _ => ?_))
    | apply Same.trans _ (foldl_same1 _ _ _ (fun _ _ => ?_))
    | apply Same.ite
    | apply Same.ite1
    | apply Same.ite2
    | extract_lets
    | split
    | dsimp -zeta only
    | dsimp +zetaDelta only

theorem execRetf_runs (e : Fin 24) (s : State) : Runs 16269669 s (execRetf e s) := by
  unfold execRetf
  repeat' with_reducible first
    | apply Runs.next
    | exact Same.refl _
    | apply Same.trans _ (State.instr_same (K := 16269669) (by decide) _ _ _ (fun _ _ => ?_))
    | apply Same.step (m := 66977791) (by decide) (State.setCore_same ..)
    | apply Same.trans _ (foldl_same _ _ _ (fun _ _ => ?_))
    | apply Same.trans _ (foldl_same1 _ _ _ (fun _ _ => ?_))
    | apply Same.ite
    | apply Same.ite1
    | apply Same.ite2
    | extract_lets
    | split
    | dsimp -zeta only
    | dsimp +zetaDelta only

theorem execCkpt_runs (e : Fin 24) (s : State) : Runs 16269669 s (execCkpt e s) := by
  unfold execCkpt
  repeat' with_reducible first
    | apply Runs.next
    | exact Same.refl _
    | apply Same.trans _ (State.instr_same (K := 16269669) (by decide) _ _ _ (fun _ _ => ?_))
    | apply Same.step (m := 66977791) (by decide) (State.setCore_same ..)
    | apply Same.step (m := 33423357) (by decide) (State.ckptNow_same ..)
    | apply Same.trans _ (foldl_same _ _ _ (fun _ _ => ?_))
    | apply Same.trans _ (foldl_same1 _ _ _ (fun _ _ => ?_))
    | apply Same.ite
    | apply Same.ite1
    | apply Same.ite2
    | extract_lets
    | split
    | dsimp -zeta only
    | dsimp +zetaDelta only

theorem execFence_runs (e : Fin 24) (s : State) : Runs 16269669 s (execFence e s) := by
  unfold execFence
  repeat' with_reducible first
    | apply Runs.next
    | exact Same.refl _
    | apply Same.trans _ (State.instr_same (K := 16269669) (by decide) _ _ _ (fun _ _ => ?_))
    | apply Same.step (m := 66977791) (by decide) (State.setCore_same ..)
    | apply Same.trans _ (foldl_same _ _ _ (fun _ _ => ?_))
    | apply Same.trans _ (foldl_same1 _ _ _ (fun _ _ => ?_))
    | apply Same.ite
    | apply Same.ite1
    | apply Same.ite2
    | extract_lets
    | split
    | dsimp -zeta only
    | dsimp +zetaDelta only

theorem execTrap_runs (e : Fin 24) (cause : TrapCause) (s : State) : Runs 16269669 s (execTrap e cause s) := by
  unfold execTrap
  repeat' with_reducible first
    | apply Runs.next
    | exact Same.refl _
    | apply Same.trans _ (State.instr_same (K := 16269669) (by decide) _ _ _ (fun _ _ => ?_))
    | apply Same.step (m := 16269669) (by decide) (State.engTrap_same ..)
    | apply Same.trans _ (foldl_same _ _ _ (fun _ _ => ?_))
    | apply Same.trans _ (foldl_same1 _ _ _ (fun _ _ => ?_))
    | apply Same.ite
    | apply Same.ite1
    | apply Same.ite2
    | extract_lets
    | split
    | dsimp -zeta only
    | dsimp +zetaDelta only

theorem execIllegalInstruction_runs (e : Fin 24) (s : State) : Runs 16269669 s (execIllegalInstruction e s) := by
  unfold execIllegalInstruction
  repeat' with_reducible first
    | apply Runs.next
    | exact Same.refl _
    | apply Same.trans _ (State.instr_same (K := 16269669) (by decide) _ _ _ (fun _ _ => ?_))
    | apply Same.step (m := 16269669) (by decide) (State.engTrap_same ..)
    | apply Same.trans _ (foldl_same _ _ _ (fun _ _ => ?_))
    | apply Same.trans _ (foldl_same1 _ _ _ (fun _ _ => ?_))
    | apply Same.ite
    | apply Same.ite1
    | apply Same.ite2
    | extract_lets
    | split
    | dsimp -zeta only
    | dsimp +zetaDelta only

theorem execFastEntry_runs (e : Fin 24) (s : State) : Runs 66977789 s (execFastEntry e s) := by
  unfold execFastEntry
  repeat' with_reducible first
    | apply Runs.next
    | exact Same.refl _
    | apply Same.step (m := 66977789) (by decide) (State.fastEntry_same ..)
    | apply Same.trans _ (foldl_same _ _ _ (fun _ _ => ?_))
    | apply Same.trans _ (foldl_same1 _ _ _ (fun _ _ => ?_))
    | apply Same.ite
    | apply Same.ite1
    | apply Same.ite2
    | extract_lets
    | split
    | dsimp -zeta only
    | dsimp +zetaDelta only

theorem execNormalEntry_runs (e : Fin 24) (s : State) : Runs 66977789 s (execNormalEntry e s) := by
  unfold execNormalEntry
  repeat' with_reducible first
    | apply Runs.next
    | exact Same.refl _
    | apply Same.step (m := 66977789) (by decide) (State.normalEntry_same ..)
    | apply Same.trans _ (foldl_same _ _ _ (fun _ _ => ?_))
    | apply Same.trans _ (foldl_same1 _ _ _ (fun _ _ => ?_))
    | apply Same.ite
    | apply Same.ite1
    | apply Same.ite2
    | extract_lets
    | split
    | dsimp -zeta only
    | dsimp +zetaDelta only

theorem execWatchdog_runs (e : Fin 24) (s : State) : Runs 16269669 s (execWatchdog e s) := by
  unfold execWatchdog
  repeat' with_reducible first
    | apply Runs.next
    | exact Same.refl _
    | apply Same.step (m := 16269669) (by decide) (State.engFault_same ..)
    | apply Same.trans _ (foldl_same _ _ _ (fun _ _ => ?_))
    | apply Same.trans _ (foldl_same1 _ _ _ (fun _ _ => ?_))
    | apply Same.ite
    | apply Same.ite1
    | apply Same.ite2
    | extract_lets
    | split
    | dsimp -zeta only
    | dsimp +zetaDelta only

theorem execEngineFault_runs (e : Fin 24) (s : State) : Runs 16269669 s (execEngineFault e s) := by
  unfold execEngineFault
  repeat' with_reducible first
    | apply Runs.next
    | exact Same.refl _
    | apply Same.step (m := 50192373) (by decide) (State.mismatch_same ..)
    | apply Same.step (m := 67100661) (by decide) (State.engHalt_same ..)
    | apply Same.step (m := 16269669) (by decide) (State.engFault_same ..)
    | apply Same.trans _ (foldl_same _ _ _ (fun _ _ => ?_))
    | apply Same.trans _ (foldl_same1 _ _ _ (fun _ _ => ?_))
    | apply Same.ite
    | apply Same.ite1
    | apply Same.ite2
    | extract_lets
    | split
    | dsimp -zeta only
    | dsimp +zetaDelta only

theorem execAutoCkpt_runs (s : State) : Runs 33423357 s (execAutoCkpt s) := by
  unfold execAutoCkpt
  repeat' with_reducible first
    | apply Runs.next
    | exact Same.refl _
    | apply Same.step (m := 33423357) (by decide) (State.ckptNow_same ..)
    | apply Same.trans _ (foldl_same _ _ _ (fun _ _ => ?_))
    | apply Same.trans _ (foldl_same1 _ _ _ (fun _ _ => ?_))
    | apply Same.ite
    | apply Same.ite1
    | apply Same.ite2
    | extract_lets
    | split
    | dsimp -zeta only
    | dsimp +zetaDelta only

theorem execLockstepMismatch_runs (s : State) : Runs 50192373 s (execLockstepMismatch s) := by
  unfold execLockstepMismatch
  repeat' with_reducible first
    | apply Runs.next
    | exact Same.refl _
    | apply Same.step (m := 50192373) (by decide) (State.mismatch_same ..)
    | apply Same.trans _ (foldl_same _ _ _ (fun _ _ => ?_))
    | apply Same.trans _ (foldl_same1 _ _ _ (fun _ _ => ?_))
    | apply Same.ite
    | apply Same.ite1
    | apply Same.ite2
    | extract_lets
    | split
    | dsimp -zeta only
    | dsimp +zetaDelta only

theorem execEngLoad_runs (h : Fin 32) (seq : Word) (eng : BitVec 8) (prog : List (BitVec 8)) (len : Word) (sig : ProgSig) (s : State) : Runs 16277861 s (execEngLoad h seq eng prog len sig s) := by
  unfold execEngLoad
  repeat' with_reducible first
    | apply Runs.next
    | exact Same.refl _
    | apply Same.step (m := 67108855) (by decide) (State.complete_same ..)
    | apply Same.step (m := 33554431) (by decide) (State.clearMem_same ..)
    | apply Same.step (m := 16277861) (by decide) (State.engStop_same ..)
    | apply Same.step (m := 67108853) (by decide) (State.loadFails_same ..)
    | apply Same.step (m := 67108855) (by decide) (State.raise_same ..)
    | apply Same.step (m := 66977765) (by decide) (State.engStart_same ..)
    | apply Same.step (m := 33554431) (by decide) (State.loadWords_same ..)
    | apply Same.trans _ (foldl_same _ _ _ (fun _ _ => ?_))
    | apply Same.trans _ (foldl_same1 _ _ _ (fun _ _ => ?_))
    | apply Same.ite
    | apply Same.ite1
    | apply Same.ite2
    | extract_lets
    | split
    | dsimp -zeta only
    | dsimp +zetaDelta only

theorem execEngStop_runs (h : Fin 32) (seq : Word) (eng : BitVec 8) (s : State) : Runs 16277861 s (execEngStop h seq eng s) := by
  unfold execEngStop
  repeat' with_reducible first
    | apply Runs.next
    | exact Same.refl _
    | apply Same.step (m := 67108855) (by decide) (State.complete_same ..)
    | apply Same.step (m := 16277861) (by decide) (State.engStop_same ..)
    | apply Same.trans _ (foldl_same _ _ _ (fun _ _ => ?_))
    | apply Same.trans _ (foldl_same1 _ _ _ (fun _ _ => ?_))
    | apply Same.ite
    | apply Same.ite1
    | apply Same.ite2
    | extract_lets
    | split
    | dsimp -zeta only
    | dsimp +zetaDelta only

theorem execEngCtrlStart_runs (p : Path) (e : Fin 24) (s : State) : Runs 1 s (execEngCtrlStart p e s) := by
  unfold execEngCtrlStart
  repeat' with_reducible first
    | apply Runs.next
    | exact Same.refl _
    | apply Same.step (m := 1) (by decide) (State.write_same ..)
    | apply Same.trans _ (foldl_same _ _ _ (fun _ _ => ?_))
    | apply Same.trans _ (foldl_same1 _ _ _ (fun _ _ => ?_))
    | apply Same.ite
    | apply Same.ite1
    | apply Same.ite2
    | extract_lets
    | split
    | dsimp -zeta only
    | dsimp +zetaDelta only

theorem execEngCtrlStop_runs (p : Path) (e : Fin 24) (s : State) : Runs 1 s (execEngCtrlStop p e s) := by
  unfold execEngCtrlStop
  repeat' with_reducible first
    | apply Runs.next
    | exact Same.refl _
    | apply Same.step (m := 1) (by decide) (State.write_same ..)
    | apply Same.trans _ (foldl_same _ _ _ (fun _ _ => ?_))
    | apply Same.trans _ (foldl_same1 _ _ _ (fun _ _ => ?_))
    | apply Same.ite
    | apply Same.ite1
    | apply Same.ite2
    | extract_lets
    | split
    | dsimp -zeta only
    | dsimp +zetaDelta only

theorem execMwDataAccess_runs (p : Path) (value : Option Word) (s : State) : Runs 1 s (execMwDataAccess p value s) := by
  unfold execMwDataAccess
  repeat' with_reducible first
    | apply Runs.next
    | exact Same.refl _
    | apply Same.step (m := 1) (by decide) (State.write_same ..)
    | apply Same.step (m := 50327493) (by decide) (State.readOut_same ..)
    | apply Same.trans _ (foldl_same _ _ _ (fun _ _ => ?_))
    | apply Same.trans _ (foldl_same1 _ _ _ (fun _ _ => ?_))
    | apply Same.ite
    | apply Same.ite1
    | apply Same.ite2
    | extract_lets
    | split
    | dsimp -zeta only
    | dsimp +zetaDelta only

end Sys2Proof.Machine
end

