-- ==== Sys2Proof/Laws/RunsMgmtCmd.lean ====
section
/-! SUPPORT. What each command of Machine/MgmtCmd.lean may change when it runs, as it always does. -/

set_option linter.all false

namespace Sys2Proof.Machine

theorem execRegisterWrite_runs (p : Path) (addr : BitVec 26) (value : List Word) (be : List (BitVec 4)) (s : State) : Runs 1 s (execRegisterWrite p addr value be s) := by
  unfold execRegisterWrite
  repeat' with_reducible first
    | apply Runs.next
    | exact Same.refl _
    | apply Same.step (m := 1) (by decide) (State.writeWide_same ..)
    | apply Same.trans _ (foldl_same _ _ _ (fun _ _ => ?_))
    | apply Same.trans _ (foldl_same1 _ _ _ (fun _ _ => ?_))
    | apply Same.ite
    | apply Same.ite1
    | apply Same.ite2
    | extract_lets
    | split
    | dsimp -zeta only
    | dsimp +zetaDelta only

theorem execOwnerWrite_runs (p : Path) (page : BitVec 14) (value : Word) (s : State) : Runs 66846625 s (execOwnerWrite p page value s) := by
  unfold execOwnerWrite
  repeat' with_reducible first
    | apply Runs.next
    | exact Same.refl _
    | apply Same.trans _ (State.writeVia_same (K := 66846625) (by decide) _ _ _ _ _ _ (fun _ => ?_))
    | apply Same.step (m := 67108857) (by decide) (State.storeAt_same ..)
    | apply Same.trans _ (foldl_same _ _ _ (fun _ _ => ?_))
    | apply Same.trans _ (foldl_same1 _ _ _ (fun _ _ => ?_))
    | apply Same.ite
    | apply Same.ite1
    | apply Same.ite2
    | extract_lets
    | split
    | dsimp -zeta only
    | dsimp +zetaDelta only

theorem execPageEnable_runs (p : Path) (page : BitVec 14) (en : Bool) (s : State) : Runs 66846625 s (execPageEnable p page en s) := by
  unfold execPageEnable
  repeat' with_reducible first
    | apply Runs.next
    | exact Same.refl _
    | apply Same.trans _ (State.writeVia_same (K := 66846625) (by decide) _ _ _ _ _ _ (fun _ => ?_))
    | apply Same.step (m := 66846709) (by decide) (State.afterDomReq_same ..)
    | apply Same.step (m := 67108855) (by decide) (State.afterEn_same ..)
    | apply Same.step (m := 67108857) (by decide) (State.storeAt_same ..)
    | apply Same.trans _ (foldl_same _ _ _ (fun _ _ => ?_))
    | apply Same.trans _ (foldl_same1 _ _ _ (fun _ _ => ?_))
    | apply Same.ite
    | apply Same.ite1
    | apply Same.ite2
    | extract_lets
    | split
    | dsimp -zeta only
    | dsimp +zetaDelta only

theorem execTxnOpen_runs (p : Path) (s : State) : Runs 50327493 s (execTxnOpen p s) := by
  unfold execTxnOpen
  repeat' with_reducible first
    | apply Runs.next
    | exact Same.refl _
    | apply Same.step (m := 50327493) (by decide) (State.readOut_same ..)
    | apply Same.trans _ (foldl_same _ _ _ (fun _ _ => ?_))
    | apply Same.trans _ (foldl_same1 _ _ _ (fun _ _ => ?_))
    | apply Same.ite
    | apply Same.ite1
    | apply Same.ite2
    | extract_lets
    | split
    | dsimp -zeta only
    | dsimp +zetaDelta only

theorem execTxnCommit_runs (p : Path) (value : Word) (s : State) : Runs 1 s (execTxnCommit p value s) := by
  unfold execTxnCommit
  repeat' with_reducible first
    | apply Runs.next
    | exact Same.refl _
    | apply Same.trans _ (State.writeVia_same (K := 1) (by decide) _ _ _ _ _ _ (fun _ => ?_))
    | apply Same.step (m := 1) (by decide) (State.txnCommit_same ..)
    | apply Same.trans _ (foldl_same _ _ _ (fun _ _ => ?_))
    | apply Same.trans _ (foldl_same1 _ _ _ (fun _ _ => ?_))
    | apply Same.ite
    | apply Same.ite1
    | apply Same.ite2
    | extract_lets
    | split
    | dsimp -zeta only
    | dsimp +zetaDelta only

theorem execTxnAbort_runs (p : Path) (value : Word) (s : State) : Runs 66846625 s (execTxnAbort p value s) := by
  unfold execTxnAbort
  repeat' with_reducible first
    | apply Runs.next
    | exact Same.refl _
    | apply Same.trans _ (State.writeVia_same (K := 66846625) (by decide) _ _ _ _ _ _ (fun _ => ?_))
    | apply Same.step (m := 67108837) (by decide) (State.txnAbort_same ..)
    | apply Same.trans _ (foldl_same _ _ _ (fun _ _ => ?_))
    | apply Same.trans _ (foldl_same1 _ _ _ (fun _ _ => ?_))
    | apply Same.ite
    | apply Same.ite1
    | apply Same.ite2
    | extract_lets
    | split
    | dsimp -zeta only
    | dsimp +zetaDelta only

theorem execAtTimeCommit_runs (slot : Fin 8) (s : State) : Runs 1 s (execAtTimeCommit slot s) := by
  unfold execAtTimeCommit
  repeat' with_reducible first
    | apply Runs.next
    | exact Same.refl _
    | apply Same.step (m := 1) (by decide) (State.instantMet_same ..)
    | apply Same.trans _ (foldl_same _ _ _ (fun _ _ => ?_))
    | apply Same.trans _ (foldl_same1 _ _ _ (fun _ _ => ?_))
    | apply Same.ite
    | apply Same.ite1
    | apply Same.ite2
    | extract_lets
    | split
    | dsimp -zeta only
    | dsimp +zetaDelta only

theorem execAbortedIdle_runs (slot : Fin 8) (s : State) : Runs 67108837 s (execAbortedIdle slot s) := by
  unfold execAbortedIdle
  repeat' with_reducible first
    | apply Runs.next
    | exact Same.refl _
    | apply Same.step (m := 67108855) (by decide) (State.raise_same ..)
    | apply Same.step (m := 67108845) (by decide) (State.dropSlot_same ..)
    | apply Same.trans _ (foldl_same _ _ _ (fun _ _ => ?_))
    | apply Same.trans _ (foldl_same1 _ _ _ (fun _ _ => ?_))
    | apply Same.ite
    | apply Same.ite1
    | apply Same.ite2
    | extract_lets
    | split
    | dsimp -zeta only
    | dsimp +zetaDelta only

theorem execCmdPost_runs (p : Path) (h : Fin 32) (count : Word) (entries : List CmdHead) (s : State) : Runs 66846625 s (execCmdPost p h count entries s) := by
  unfold execCmdPost
  repeat' with_reducible first
    | apply Runs.next
    | exact Same.refl _
    | apply Same.trans _ (State.writeVia_same (K := 66846625) (by decide) _ _ _ _ _ _ (fun _ => ?_))
    | apply Same.step (m := 67108855) (by decide) (State.post_same ..)
    | apply Same.step (m := 67108857) (by decide) (State.storeAt_same ..)
    | apply Same.trans _ (foldl_same _ _ _ (fun _ _ => ?_))
    | apply Same.trans _ (foldl_same1 _ _ _ (fun _ _ => ?_))
    | apply Same.ite
    | apply Same.ite1
    | apply Same.ite2
    | extract_lets
    | split
    | dsimp -zeta only
    | dsimp +zetaDelta only

theorem execNop_runs (h : Fin 32) (seq : Word) (s : State) : Runs 67108855 s (execNop h seq s) := by
  unfold execNop
  repeat' with_reducible first
    | apply Runs.next
    | exact Same.refl _
    | apply Same.step (m := 67108855) (by decide) (State.complete_same ..)
    | apply Same.trans _ (foldl_same _ _ _ (fun _ _ => ?_))
    | apply Same.trans _ (foldl_same1 _ _ _ (fun _ _ => ?_))
    | apply Same.ite
    | apply Same.ite1
    | apply Same.ite2
    | extract_lets
    | split
    | dsimp -zeta only
    | dsimp +zetaDelta only

theorem execEvtConsumedWrite_runs (p : Path) (h : Fin 32) (count : Word) (s : State) : Runs 66846625 s (execEvtConsumedWrite p h count s) := by
  unfold execEvtConsumedWrite
  repeat' with_reducible first
    | apply Runs.next
    | exact Same.refl _
    | apply Same.trans _ (State.writeVia_same (K := 66846625) (by decide) _ _ _ _ _ _ (fun _ => ?_))
    | apply Same.step (m := 67108855) (by decide) (State.consumed_same ..)
    | apply Same.step (m := 67108857) (by decide) (State.storeAt_same ..)
    | apply Same.trans _ (foldl_same _ _ _ (fun _ _ => ?_))
    | apply Same.trans _ (foldl_same1 _ _ _ (fun _ _ => ?_))
    | apply Same.ite
    | apply Same.ite1
    | apply Same.ite2
    | extract_lets
    | split
    | dsimp -zeta only
    | dsimp +zetaDelta only

theorem execResync_runs (p : Path) (h : Fin 32) (s : State) : Runs 66846625 s (execResync p h s) := by
  unfold execResync
  repeat' with_reducible first
    | apply Runs.next
    | exact Same.refl _
    | apply Same.trans _ (State.writeVia_same (K := 66846625) (by decide) _ _ _ _ _ _ (fun _ => ?_))
    | apply Same.step (m := 67108855) (by decide) (State.resync_same ..)
    | apply Same.trans _ (foldl_same _ _ _ (fun _ _ => ?_))
    | apply Same.trans _ (foldl_same1 _ _ _ (fun _ _ => ?_))
    | apply Same.ite
    | apply Same.ite1
    | apply Same.ite2
    | extract_lets
    | split
    | dsimp -zeta only
    | dsimp +zetaDelta only

theorem execRingRestart_runs (p : Path) (h : Fin 32) (s : State) : Runs 66846625 s (execRingRestart p h s) := by
  unfold execRingRestart
  repeat' with_reducible first
    | apply Runs.next
    | exact Same.refl _
    | apply Same.trans _ (State.writeVia_same (K := 66846625) (by decide) _ _ _ _ _ _ (fun _ => ?_))
    | apply Same.step (m := 67108855) (by decide) (State.readPosted_same ..)
    | apply Same.step (m := 67108851) (by decide) (State.restart_same ..)
    | apply Same.step (m := 67108861) (by decide) (State.bump_same ..)
    | apply Same.trans _ (foldl_same _ _ _ (fun _ _ => ?_))
    | apply Same.trans _ (foldl_same1 _ _ _ (fun _ _ => ?_))
    | apply Same.ite
    | apply Same.ite1
    | apply Same.ite2
    | extract_lets
    | split
    | dsimp -zeta only
    | dsimp +zetaDelta only

theorem execRingEnable_runs (p : Path) (h : Fin 32) (cmdEn evtEn : Bool) (s : State) : Runs 66846625 s (execRingEnable p h cmdEn evtEn s) := by
  unfold execRingEnable
  repeat' with_reducible first
    | apply Runs.next
    | exact Same.refl _
    | apply Same.trans _ (State.writeVia_same (K := 66846625) (by decide) _ _ _ _ _ _ (fun _ => ?_))
    | apply Same.step (m := 67108851) (by decide) (State.ringCtrl_same ..)
    | apply Same.step (m := 67108857) (by decide) (State.storeAt_same ..)
    | apply Same.trans _ (foldl_same _ _ _ (fun _ _ => ?_))
    | apply Same.trans _ (foldl_same1 _ _ _ (fun _ _ => ?_))
    | apply Same.ite
    | apply Same.ite1
    | apply Same.ite2
    | extract_lets
    | split
    | dsimp -zeta only
    | dsimp +zetaDelta only

theorem execNowLoRead_runs (p : Path) (r : ReadSpan) (s : State) : Runs 50327493 s (execNowLoRead p r s) := by
  unfold execNowLoRead
  repeat' with_reducible first
    | apply Runs.next
    | exact Same.refl _
    | apply Same.step (m := 50327493) (by decide) (State.readWide_same ..)
    | apply Same.trans _ (foldl_same _ _ _ (fun _ _ => ?_))
    | apply Same.trans _ (foldl_same1 _ _ _ (fun _ _ => ?_))
    | apply Same.ite
    | apply Same.ite1
    | apply Same.ite2
    | extract_lets
    | split
    | dsimp -zeta only
    | dsimp +zetaDelta only

theorem execEvtEnWrite_runs (p : Path) (page : BitVec 14) (value : Word) (s : State) : Runs 66846625 s (execEvtEnWrite p page value s) := by
  unfold execEvtEnWrite
  repeat' with_reducible first
    | apply Runs.next
    | exact Same.refl _
    | apply Same.trans _ (State.writeVia_same (K := 66846625) (by decide) _ _ _ _ _ _ (fun _ => ?_))
    | apply Same.step (m := 67108855) (by decide) (State.afterEvtEn_same ..)
    | apply Same.step (m := 67108857) (by decide) (State.storeAt_same ..)
    | apply Same.trans _ (foldl_same _ _ _ (fun _ _ => ?_))
    | apply Same.trans _ (foldl_same1 _ _ _ (fun _ _ => ?_))
    | apply Same.ite
    | apply Same.ite1
    | apply Same.ite2
    | extract_lets
    | split
    | dsimp -zeta only
    | dsimp +zetaDelta only

theorem execClaim_runs (p : Path) (t : Fin 57) (fast : Bool) (s : State) : Runs 50327493 s (execClaim p t fast s) := by
  unfold execClaim
  repeat' with_reducible first
    | apply Runs.next
    | exact Same.refl _
    | apply Same.step (m := 50327493) (by decide) (State.readOut_same ..)
    | apply Same.trans _ (foldl_same _ _ _ (fun _ _ => ?_))
    | apply Same.trans _ (foldl_same1 _ _ _ (fun _ _ => ?_))
    | apply Same.ite
    | apply Same.ite1
    | apply Same.ite2
    | extract_lets
    | split
    | dsimp -zeta only
    | dsimp +zetaDelta only

theorem execComplete_runs (p : Path) (t : Fin 57) (fast : Bool) (ev : BitVec 12) (s : State) : Runs 66846625 s (execComplete p t fast ev s) := by
  unfold execComplete
  repeat' with_reducible first
    | apply Runs.next
    | exact Same.refl _
    | apply Same.trans _ (State.writeVia_same (K := 66846625) (by decide) _ _ _ _ _ _ (fun _ => ?_))
    | apply Same.step (m := 67108855) (by decide) (State.completeEv_same ..)
    | apply Same.trans _ (foldl_same _ _ _ (fun _ _ => ?_))
    | apply Same.trans _ (foldl_same1 _ _ _ (fun _ _ => ?_))
    | apply Same.ite
    | apply Same.ite1
    | apply Same.ite2
    | extract_lets
    | split
    | dsimp -zeta only
    | dsimp +zetaDelta only

theorem execTargetEnable_runs (t : Fin 57) (s : State) : Runs 67108855 s (execTargetEnable t s) := by
  unfold execTargetEnable
  repeat' with_reducible first
    | apply Runs.next
    | exact Same.refl _
    | apply Same.step (m := 67108855) (by decide) (State.retarget_same ..)
    | apply Same.trans _ (foldl_same _ _ _ (fun _ _ => ?_))
    | apply Same.trans _ (foldl_same1 _ _ _ (fun _ _ => ?_))
    | apply Same.ite
    | apply Same.ite1
    | apply Same.ite2
    | extract_lets
    | split
    | dsimp -zeta only
    | dsimp +zetaDelta only

theorem execEvRouteWrite_runs (p : Path) (value : Word) (s : State) : Runs 66846625 s (execEvRouteWrite p value s) := by
  unfold execEvRouteWrite
  repeat' with_reducible first
    | apply Runs.next
    | exact Same.refl _
    | apply Same.trans _ (State.writeVia_same (K := 66846625) (by decide) _ _ _ _ _ _ (fun _ => ?_))
    | apply Same.step (m := 67108855) (by decide) (State.routed_same ..)
    | apply Same.step (m := 67108857) (by decide) (State.storeAt_same ..)
    | apply Same.trans _ (foldl_same _ _ _ (fun _ _ => ?_))
    | apply Same.trans _ (foldl_same1 _ _ _ (fun _ _ => ?_))
    | apply Same.ite
    | apply Same.ite1
    | apply Same.ite2
    | extract_lets
    | split
    | dsimp -zeta only
    | dsimp +zetaDelta only

theorem execTgtQconsWrite_runs (p : Path) (t : Fin 57) (value : Word) (s : State) : Runs 66846625 s (execTgtQconsWrite p t value s) := by
  unfold execTgtQconsWrite
  repeat' with_reducible first
    | apply Runs.next
    | exact Same.refl _
    | apply Same.trans _ (State.writeVia_same (K := 66846625) (by decide) _ _ _ _ _ _ (fun _ => ?_))
    | apply Same.step (m := 67108855) (by decide) (State.qcons_same ..)
    | apply Same.step (m := 67108857) (by decide) (State.storeAt_same ..)
    | apply Same.trans _ (foldl_same _ _ _ (fun _ _ => ?_))
    | apply Same.trans _ (foldl_same1 _ _ _ (fun _ _ => ?_))
    | apply Same.ite
    | apply Same.ite1
    | apply Same.ite2
    | extract_lets
    | split
    | dsimp -zeta only
    | dsimp +zetaDelta only

theorem execMsixEnable_runs (h : Fin 32) (act : MsixAct) (s : State) : Runs 67108855 s (execMsixEnable h act s) := by
  unfold execMsixEnable
  repeat' with_reducible first
    | apply Runs.next
    | exact Same.refl _
    | apply Same.step (m := 67108855) (by decide) (State.msixAct_same ..)
    | apply Same.trans _ (foldl_same _ _ _ (fun _ _ => ?_))
    | apply Same.trans _ (foldl_same1 _ _ _ (fun _ _ => ?_))
    | apply Same.ite
    | apply Same.ite1
    | apply Same.ite2
    | extract_lets
    | split
    | dsimp -zeta only
    | dsimp +zetaDelta only

theorem execPinFilterEdge_runs (i : Fin 5) (level : Bool) (s : State) : Runs 67108853 s (execPinFilterEdge i level s) := by
  unfold execPinFilterEdge
  repeat' with_reducible first
    | apply Runs.next
    | exact Same.refl _
    | apply Same.step (m := 67108855) (by decide) (State.raiseIf_same ..)
    | apply Same.step (m := 67108861) (by decide) (State.put_same ..)
    | apply Same.trans _ (foldl_same _ _ _ (fun _ _ => ?_))
    | apply Same.trans _ (foldl_same1 _ _ _ (fun _ _ => ?_))
    | apply Same.ite
    | apply Same.ite1
    | apply Same.ite2
    | extract_lets
    | split
    | dsimp -zeta only
    | dsimp +zetaDelta only

theorem execHeldCountRead_runs (p : Path) (s : State) : Runs 50327493 s (execHeldCountRead p s) := by
  unfold execHeldCountRead
  repeat' with_reducible first
    | apply Runs.next
    | exact Same.refl _
    | apply Same.step (m := 50327493) (by decide) (State.readOut_same ..)
    | apply Same.trans _ (foldl_same _ _ _ (fun _ _ => ?_))
    | apply Same.trans _ (foldl_same1 _ _ _ (fun _ _ => ?_))
    | apply Same.ite
    | apply Same.ite1
    | apply Same.ite2
    | extract_lets
    | split
    | dsimp -zeta only
    | dsimp +zetaDelta only

end Sys2Proof.Machine
end

