-- ==== Sys2Proof/Laws/RunsPdCmd.lean ====
section
/-! SUPPORT. What each command of Machine/PdCmd.lean may change when it runs, as it always does. -/

set_option linter.all false

namespace Sys2Proof.Machine

theorem execAttach_runs (n : Fin 16) (cc : CcSeen) (s : State) : Runs 62898165 s (execAttach n cc s) := by
  unfold execAttach
  repeat' with_reducible first
    | apply Runs.next
    | exact Same.refl _
    | apply Same.step (m := 67108861) (by decide) (State.pdShow_same ..)
    | apply Same.step (m := 62898165) (by decide) (State.attach_same ..)
    | apply Same.step (m := 67108853) (by decide) (State.wakeBy_same ..)
    | apply Same.trans _ (foldl_same _ _ _ (fun _ _ => ?_))
    | apply Same.trans _ (foldl_same1 _ _ _ (fun _ _ => ?_))
    | apply Same.ite
    | apply Same.ite1
    | apply Same.ite2
    | extract_lets
    | split
    | dsimp -zeta only
    | dsimp +zetaDelta only

theorem execDrpToggle_runs (n : Fin 16) (s : State) : Runs 67108861 s (execDrpToggle n s) := by
  unfold execDrpToggle
  repeat' with_reducible first
    | apply Runs.next
    | exact Same.refl _
    | apply Same.step (m := 67108861) (by decide) (State.set_same ..)
    | apply Same.trans _ (foldl_same _ _ _ (fun _ _ => ?_))
    | apply Same.trans _ (foldl_same1 _ _ _ (fun _ _ => ?_))
    | apply Same.ite
    | apply Same.ite1
    | apply Same.ite2
    | extract_lets
    | split
    | dsimp -zeta only
    | dsimp +zetaDelta only

theorem execTrySrcTimeout_runs (n : Fin 16) (vbus cc2 : Bool) (s : State) : Runs 67092469 s (execTrySrcTimeout n vbus cc2 s) := by
  unfold execTrySrcTimeout
  repeat' with_reducible first
    | apply Runs.next
    | exact Same.refl _
    | apply Same.step (m := 67092469) (by decide) (State.attachSnk_same ..)
    | apply Same.step (m := 67108861) (by decide) (State.set_same ..)
    | apply Same.step (m := 67092479) (by decide) (State.setPd_same ..)
    | apply Same.trans _ (foldl_same _ _ _ (fun _ _ => ?_))
    | apply Same.trans _ (foldl_same1 _ _ _ (fun _ _ => ?_))
    | apply Same.ite
    | apply Same.ite1
    | apply Same.ite2
    | extract_lets
    | split
    | dsimp -zeta only
    | dsimp +zetaDelta only

theorem execDetach_runs (n : Fin 16) (s : State) : Runs 45883765 s (execDetach n s) := by
  unfold execDetach
  repeat' with_reducible first
    | apply Runs.next
    | exact Same.refl _
    | apply Same.step (m := 45883765) (by decide) (State.detach_same ..)
    | apply Same.trans _ (foldl_same _ _ _ (fun _ _ => ?_))
    | apply Same.trans _ (foldl_same1 _ _ _ (fun _ _ => ?_))
    | apply Same.ite
    | apply Same.ite1
    | apply Same.ite2
    | extract_lets
    | split
    | dsimp -zeta only
    | dsimp +zetaDelta only

theorem execVconnFault_runs (n : Fin 16) (s : State) : Runs 67092469 s (execVconnFault n s) := by
  unfold execVconnFault
  repeat' with_reducible first
    | apply Runs.next
    | exact Same.refl _
    | apply Same.trans _ (State.pdDo_same (K := 67092469) (by decide) _ _ _ (fun _ => ?_))
    | apply Same.step (m := 67108855) (by decide) (State.raise_same ..)
    | apply Same.step (m := 67092479) (by decide) (State.mapPd_same ..)
    | apply Same.step (m := 67108861) (by decide) (State.set_same ..)
    | apply Same.step (m := 67092471) (by decide) (State.sendCaps_same ..)
    | apply Same.trans _ (foldl_same _ _ _ (fun _ _ => ?_))
    | apply Same.trans _ (foldl_same1 _ _ _ (fun _ _ => ?_))
    | apply Same.ite
    | apply Same.ite1
    | apply Same.ite2
    | extract_lets
    | split
    | dsimp -zeta only
    | dsimp +zetaDelta only

theorem execCableIdentity_runs (n : Fin 16) (a : CableAns) (s : State) : Runs 67092469 s (execCableIdentity n a s) := by
  unfold execCableIdentity
  repeat' with_reducible first
    | apply Runs.next
    | exact Same.refl _
    | apply Same.trans _ (State.pdDo_same (K := 67092469) (by decide) _ _ _ (fun _ => ?_))
    | apply Same.step (m := 67092471) (by decide) (State.sendCaps_same ..)
    | apply Same.step (m := 67108855) (by decide) (State.raise_same ..)
    | apply Same.step (m := 67108861) (by decide) (State.set_same ..)
    | apply Same.step (m := 67092471) (by decide) (State.pdFirst_same ..)
    | apply Same.trans _ (foldl_same _ _ _ (fun _ _ => ?_))
    | apply Same.trans _ (foldl_same1 _ _ _ (fun _ _ => ?_))
    | apply Same.ite
    | apply Same.ite1
    | apply Same.ite2
    | extract_lets
    | split
    | dsimp -zeta only
    | dsimp +zetaDelta only

theorem execSourceCapRepeat_runs (n : Fin 16) (s : State) : Runs 67092469 s (execSourceCapRepeat n s) := by
  unfold execSourceCapRepeat
  repeat' with_reducible first
    | apply Runs.next
    | exact Same.refl _
    | apply Same.trans _ (State.pdDo_same (K := 67092469) (by decide) _ _ _ (fun _ => ?_))
    | apply Same.step (m := 67108855) (by decide) (State.emit_same ..)
    | apply Same.step (m := 67092479) (by decide) (State.setPd_same ..)
    | apply Same.trans _ (foldl_same _ _ _ (fun _ _ => ?_))
    | apply Same.trans _ (foldl_same1 _ _ _ (fun _ _ => ?_))
    | apply Same.ite
    | apply Same.ite1
    | apply Same.ite2
    | extract_lets
    | split
    | dsimp -zeta only
    | dsimp +zetaDelta only

theorem execRequest_runs (n : Fin 16) (rdo : Word) (s : State) : Runs 67092469 s (execRequest n rdo s) := by
  unfold execRequest
  repeat' with_reducible first
    | apply Runs.next
    | exact Same.refl _
    | apply Same.trans _ (State.pdDo_same (K := 67092469) (by decide) _ _ _ (fun _ => ?_))
    | apply Same.step (m := 67092469) (by decide) (State.pdRequest_same ..)
    | apply Same.trans _ (foldl_same _ _ _ (fun _ _ => ?_))
    | apply Same.trans _ (foldl_same1 _ _ _ (fun _ _ => ?_))
    | apply Same.ite
    | apply Same.ite1
    | apply Same.ite2
    | extract_lets
    | split
    | dsimp -zeta only
    | dsimp +zetaDelta only

theorem execEprRequest_runs (n : Fin 16) (rdo pdo : Word) (s : State) : Runs 67092469 s (execEprRequest n rdo pdo s) := by
  unfold execEprRequest
  repeat' with_reducible first
    | apply Runs.next
    | exact Same.refl _
    | apply Same.trans _ (State.pdDo_same (K := 67092469) (by decide) _ _ _ (fun _ => ?_))
    | apply Same.step (m := 67092469) (by decide) (State.pdRequest_same ..)
    | apply Same.trans _ (foldl_same _ _ _ (fun _ _ => ?_))
    | apply Same.trans _ (foldl_same1 _ _ _ (fun _ _ => ?_))
    | apply Same.ite
    | apply Same.ite1
    | apply Same.ite2
    | extract_lets
    | split
    | dsimp -zeta only
    | dsimp +zetaDelta only

theorem execEprMode_runs (n : EprCall) (s : State) : Runs 67092469 s (execEprMode n s) := by
  unfold execEprMode
  repeat' with_reducible first
    | apply Runs.next
    | exact Same.refl _
    | apply Same.step (m := 67092469) (by decide) (State.eprEnter_same ..)
    | apply Same.step (m := 67092469) (by decide) (State.eprLeft_same ..)
    | apply Same.trans _ (State.pdDo_same (K := 67092469) (by decide) _ _ _ (fun _ => ?_))
    | apply Same.step (m := 67092471) (by decide) (State.pdSend_same ..)
    | apply Same.step (m := 67092479) (by decide) (State.vdmAbort_same ..)
    | apply Same.trans _ (foldl_same _ _ _ (fun _ _ => ?_))
    | apply Same.trans _ (foldl_same1 _ _ _ (fun _ _ => ?_))
    | apply Same.ite
    | apply Same.ite1
    | apply Same.ite2
    | extract_lets
    | split
    | dsimp -zeta only
    | dsimp +zetaDelta only

theorem execEprKeepalive_runs (n : Fin 16) (s : State) : Runs 67092469 s (execEprKeepalive n s) := by
  unfold execEprKeepalive
  repeat' with_reducible first
    | apply Runs.next
    | exact Same.refl _
    | apply Same.trans _ (State.pdDo_same (K := 67092469) (by decide) _ _ _ (fun _ => ?_))
    | apply Same.step (m := 67092471) (by decide) (State.pdSend_same ..)
    | apply Same.trans _ (foldl_same _ _ _ (fun _ _ => ?_))
    | apply Same.trans _ (foldl_same1 _ _ _ (fun _ _ => ?_))
    | apply Same.ite
    | apply Same.ite1
    | apply Same.ite2
    | extract_lets
    | split
    | dsimp -zeta only
    | dsimp +zetaDelta only

theorem execEprKeepaliveTimeout_runs (n : Fin 16) (s : State) : Runs 45883509 s (execEprKeepaliveTimeout n s) := by
  unfold execEprKeepaliveTimeout
  repeat' with_reducible first
    | apply Runs.next
    | exact Same.refl _
    | apply Same.trans _ (State.pdDo_same (K := 45883509) (by decide) _ _ _ (fun _ => ?_))
    | apply Same.step (m := 45883509) (by decide) (State.hardReset_same ..)
    | apply Same.trans _ (foldl_same _ _ _ (fun _ _ => ?_))
    | apply Same.trans _ (foldl_same1 _ _ _ (fun _ _ => ?_))
    | apply Same.ite
    | apply Same.ite1
    | apply Same.ite2
    | extract_lets
    | split
    | dsimp -zeta only
    | dsimp +zetaDelta only

theorem execGetSourceCap_runs (n : Fin 16) (s : State) : Runs 67092469 s (execGetSourceCap n s) := by
  unfold execGetSourceCap
  repeat' with_reducible first
    | apply Runs.next
    | exact Same.refl _
    | apply Same.trans _ (State.pdDo_same (K := 67092469) (by decide) _ _ _ (fun _ => ?_))
    | apply Same.step (m := 67092471) (by decide) (State.sendCaps_same ..)
    | apply Same.step (m := 67092479) (by decide) (State.vdmAbort_same ..)
    | apply Same.step (m := 67092471) (by decide) (State.pdSend_same ..)
    | apply Same.trans _ (foldl_same _ _ _ (fun _ _ => ?_))
    | apply Same.trans _ (foldl_same1 _ _ _ (fun _ _ => ?_))
    | apply Same.ite
    | apply Same.ite1
    | apply Same.ite2
    | extract_lets
    | split
    | dsimp -zeta only
    | dsimp +zetaDelta only

theorem execGetSinkCap_runs (n : Fin 16) (s : State) : Runs 67092469 s (execGetSinkCap n s) := by
  unfold execGetSinkCap
  repeat' with_reducible first
    | apply Runs.next
    | exact Same.refl _
    | apply Same.trans _ (State.pdDo_same (K := 67092469) (by decide) _ _ _ (fun _ => ?_))
    | apply Same.step (m := 67092471) (by decide) (State.pdSend_same ..)
    | apply Same.trans _ (foldl_same _ _ _ (fun _ _ => ?_))
    | apply Same.trans _ (foldl_same1 _ _ _ (fun _ _ => ?_))
    | apply Same.ite
    | apply Same.ite1
    | apply Same.ite2
    | extract_lets
    | split
    | dsimp -zeta only
    | dsimp +zetaDelta only

theorem execSinkCapabilities_runs (n : Fin 16) (pdo : SinkCaps) (s : State) : Runs 67092469 s (execSinkCapabilities n pdo s) := by
  unfold execSinkCapabilities
  repeat' with_reducible first
    | apply Runs.next
    | exact Same.refl _
    | apply Same.trans _ (State.pdDo_same (K := 67092469) (by decide) _ _ _ (fun _ => ?_))
    | apply Same.step (m := 67108861) (by decide) (State.set_same ..)
    | apply Same.step (m := 67092469) (by decide) (State.pdNext_same ..)
    | apply Same.trans _ (foldl_same _ _ _ (fun _ _ => ?_))
    | apply Same.trans _ (foldl_same1 _ _ _ (fun _ _ => ?_))
    | apply Same.ite
    | apply Same.ite1
    | apply Same.ite2
    | extract_lets
    | split
    | dsimp -zeta only
    | dsimp +zetaDelta only

theorem execSourceCapabilities_runs (n : Fin 16) (pdo : Word) (s : State) : Runs 67092469 s (execSourceCapabilities n pdo s) := by
  unfold execSourceCapabilities
  repeat' with_reducible first
    | apply Runs.next
    | exact Same.refl _
    | apply Same.trans _ (State.pdDo_same (K := 67092469) (by decide) _ _ _ (fun _ => ?_))
    | apply Same.step (m := 67092471) (by decide) (State.pdSend_same ..)
    | apply Same.step (m := 67092479) (by decide) (State.mapPd_same ..)
    | apply Same.step (m := 67092479) (by decide) (State.vdmAbort_same ..)
    | apply Same.trans _ (foldl_same _ _ _ (fun _ _ => ?_))
    | apply Same.trans _ (foldl_same1 _ _ _ (fun _ _ => ?_))
    | apply Same.ite
    | apply Same.ite1
    | apply Same.ite2
    | extract_lets
    | split
    | dsimp -zeta only
    | dsimp +zetaDelta only

theorem execDrSwap_runs (n : Fin 16) (s : State) : Runs 50078069 s (execDrSwap n s) := by
  unfold execDrSwap
  repeat' with_reducible first
    | apply Runs.next
    | exact Same.refl _
    | apply Same.trans _ (State.pdDo_same (K := 50078069) (by decide) _ _ _ (fun _ => ?_))
    | apply Same.step (m := 50078069) (by decide) (State.drSwapIn_same ..)
    | apply Same.trans _ (foldl_same _ _ _ (fun _ _ => ?_))
    | apply Same.trans _ (foldl_same1 _ _ _ (fun _ _ => ?_))
    | apply Same.ite
    | apply Same.ite1
    | apply Same.ite2
    | extract_lets
    | split
    | dsimp -zeta only
    | dsimp +zetaDelta only

theorem execPrSwap_runs (n : Fin 16) (s : State) : Runs 67092213 s (execPrSwap n s) := by
  unfold execPrSwap
  repeat' with_reducible first
    | apply Runs.next
    | exact Same.refl _
    | apply Same.trans _ (State.pdDo_same (K := 67092213) (by decide) _ _ _ (fun _ => ?_))
    | apply Same.step (m := 67092213) (by decide) (State.prSwapIn_same ..)
    | apply Same.trans _ (foldl_same _ _ _ (fun _ _ => ?_))
    | apply Same.trans _ (foldl_same1 _ _ _ (fun _ _ => ?_))
    | apply Same.ite
    | apply Same.ite1
    | apply Same.ite2
    | extract_lets
    | split
    | dsimp -zeta only
    | dsimp +zetaDelta only

theorem execVconnSwap_runs (n : Fin 16) (s : State) : Runs 67092469 s (execVconnSwap n s) := by
  unfold execVconnSwap
  repeat' with_reducible first
    | apply Runs.next
    | exact Same.refl _
    | apply Same.trans _ (State.pdDo_same (K := 67092469) (by decide) _ _ _ (fun _ => ?_))
    | apply Same.step (m := 67092471) (by decide) (State.pdSend_same ..)
    | apply Same.trans _ (foldl_same _ _ _ (fun _ _ => ?_))
    | apply Same.trans _ (foldl_same1 _ _ _ (fun _ _ => ?_))
    | apply Same.ite
    | apply Same.ite1
    | apply Same.ite2
    | extract_lets
    | split
    | dsimp -zeta only
    | dsimp +zetaDelta only

theorem execAccept_runs (n : Fin 16) (s : State) : Runs 50077813 s (execAccept n s) := by
  unfold execAccept
  repeat' with_reducible first
    | apply Runs.next
    | exact Same.refl _
    | apply Same.trans _ (State.pdDo_same (K := 50077813) (by decide) _ _ _ (fun _ => ?_))
    | apply Same.step (m := 50077813) (by decide) (State.pdAccept_same ..)
    | apply Same.trans _ (foldl_same _ _ _ (fun _ _ => ?_))
    | apply Same.trans _ (foldl_same1 _ _ _ (fun _ _ => ?_))
    | apply Same.ite
    | apply Same.ite1
    | apply Same.ite2
    | extract_lets
    | split
    | dsimp -zeta only
    | dsimp +zetaDelta only

theorem execReject_runs (n : Fin 16) (s : State) : Runs 45883509 s (execReject n s) := by
  unfold execReject
  repeat' with_reducible first
    | apply Runs.next
    | exact Same.refl _
    | apply Same.trans _ (State.pdDo_same (K := 45883509) (by decide) _ _ _ (fun _ => ?_))
    | apply Same.step (m := 45883509) (by decide) (State.pdRefused_same ..)
    | apply Same.trans _ (foldl_same _ _ _ (fun _ _ => ?_))
    | apply Same.trans _ (foldl_same1 _ _ _ (fun _ _ => ?_))
    | apply Same.ite
    | apply Same.ite1
    | apply Same.ite2
    | extract_lets
    | split
    | dsimp -zeta only
    | dsimp +zetaDelta only

theorem execPdWait_runs (n : Fin 16) (s : State) : Runs 67092213 s (execPdWait n s) := by
  unfold execPdWait
  repeat' with_reducible first
    | apply Runs.next
    | exact Same.refl _
    | apply Same.trans _ (State.pdDo_same (K := 67092213) (by decide) _ _ _ (fun _ => ?_))
    | apply Same.step (m := 67092213) (by decide) (State.pdWait_same ..)
    | apply Same.trans _ (foldl_same _ _ _ (fun _ _ => ?_))
    | apply Same.trans _ (foldl_same1 _ _ _ (fun _ _ => ?_))
    | apply Same.ite
    | apply Same.ite1
    | apply Same.ite2
    | extract_lets
    | split
    | dsimp -zeta only
    | dsimp +zetaDelta only

theorem execNotSupported_runs (n : Fin 16) (s : State) : Runs 45883509 s (execNotSupported n s) := by
  unfold execNotSupported
  repeat' with_reducible first
    | apply Runs.next
    | exact Same.refl _
    | apply Same.trans _ (State.pdDo_same (K := 45883509) (by decide) _ _ _ (fun _ => ?_))
    | apply Same.step (m := 45883509) (by decide) (State.pdRefused_same ..)
    | apply Same.trans _ (foldl_same _ _ _ (fun _ _ => ?_))
    | apply Same.trans _ (foldl_same1 _ _ _ (fun _ _ => ?_))
    | apply Same.ite
    | apply Same.ite1
    | apply Same.ite2
    | extract_lets
    | split
    | dsimp -zeta only
    | dsimp +zetaDelta only

theorem execSenderResponseTimeout_runs (n : Fin 16) (s : State) : Runs 45883509 s (execSenderResponseTimeout n s) := by
  unfold execSenderResponseTimeout
  repeat' with_reducible first
    | apply Runs.next
    | exact Same.refl _
    | apply Same.trans _ (State.pdDo_same (K := 45883509) (by decide) _ _ _ (fun _ => ?_))
    | apply Same.step (m := 45883509) (by decide) (State.pdRefused_same ..)
    | apply Same.trans _ (foldl_same _ _ _ (fun _ _ => ?_))
    | apply Same.trans _ (foldl_same1 _ _ _ (fun _ _ => ?_))
    | apply Same.ite
    | apply Same.ite1
    | apply Same.ite2
    | extract_lets
    | split
    | dsimp -zeta only
    | dsimp +zetaDelta only

theorem execPsRdy_runs (n : Fin 16) (s : State) : Runs 62897909 s (execPsRdy n s) := by
  unfold execPsRdy
  repeat' with_reducible first
    | apply Runs.next
    | exact Same.refl _
    | apply Same.trans _ (State.pdDo_same (K := 62897909) (by decide) _ _ _ (fun _ => ?_))
    | apply Same.step (m := 62897909) (by decide) (State.psRdy_same ..)
    | apply Same.trans _ (foldl_same _ _ _ (fun _ _ => ?_))
    | apply Same.trans _ (foldl_same1 _ _ _ (fun _ _ => ?_))
    | apply Same.ite
    | apply Same.ite1
    | apply Same.ite2
    | extract_lets
    | split
    | dsimp -zeta only
    | dsimp +zetaDelta only

theorem execSwapRetry_runs (n : Fin 16) (s : State) : Runs 67092213 s (execSwapRetry n s) := by
  unfold execSwapRetry
  repeat' with_reducible first
    | apply Runs.next
    | exact Same.refl _
    | apply Same.trans _ (State.pdDo_same (K := 67092213) (by decide) _ _ _ (fun _ => ?_))
    | apply Same.step (m := 67092469) (by decide) (State.pdNext_same ..)
    | apply Same.step (m := 67092213) (by decide) (State.swapEnd_same ..)
    | apply Same.step (m := 67092469) (by decide) (State.sendSwap_same ..)
    | apply Same.step (m := 67092479) (by decide) (State.vdmAbort_same ..)
    | apply Same.step (m := 67092479) (by decide) (State.setPd_same ..)
    | apply Same.trans _ (foldl_same _ _ _ (fun _ _ => ?_))
    | apply Same.trans _ (foldl_same1 _ _ _ (fun _ _ => ?_))
    | apply Same.ite
    | apply Same.ite1
    | apply Same.ite2
    | extract_lets
    | split
    | dsimp -zeta only
    | dsimp +zetaDelta only

theorem execSoftReset_runs (n : Fin 16) (s : State) : Runs 67092469 s (execSoftReset n s) := by
  unfold execSoftReset
  repeat' with_reducible first
    | apply Runs.next
    | exact Same.refl _
    | apply Same.trans _ (State.pdDo_same (K := 67092469) (by decide) _ _ _ (fun _ => ?_))
    | apply Same.step (m := 67092469) (by decide) (State.softReset_same ..)
    | apply Same.trans _ (foldl_same _ _ _ (fun _ _ => ?_))
    | apply Same.trans _ (foldl_same1 _ _ _ (fun _ _ => ?_))
    | apply Same.ite
    | apply Same.ite1
    | apply Same.ite2
    | extract_lets
    | split
    | dsimp -zeta only
    | dsimp +zetaDelta only

theorem execHardReset_runs (n : Fin 16) (s : State) : Runs 45883509 s (execHardReset n s) := by
  unfold execHardReset
  repeat' with_reducible first
    | apply Runs.next
    | exact Same.refl _
    | apply Same.trans _ (State.pdDo_same (K := 45883509) (by decide) _ _ _ (fun _ => ?_))
    | apply Same.step (m := 45883509) (by decide) (State.hardReset_same ..)
    | apply Same.trans _ (foldl_same _ _ _ (fun _ _ => ?_))
    | apply Same.trans _ (foldl_same1 _ _ _ (fun _ _ => ?_))
    | apply Same.ite
    | apply Same.ite1
    | apply Same.ite2
    | extract_lets
    | split
    | dsimp -zeta only
    | dsimp +zetaDelta only

theorem execGoodcrc_runs (n : Fin 16) (sent : Bool) (s : State) : Runs 67088369 s (execGoodcrc n sent s) := by
  unfold execGoodcrc
  repeat' with_reducible first
    | apply Runs.next
    | exact Same.refl _
    | apply Same.trans _ (State.pdDo_same (K := 67088369) (by decide) _ _ _ (fun _ => ?_))
    | apply Same.step (m := 67108855) (by decide) (State.emit_same ..)
    | apply Same.step (m := 67088369) (by decide) (State.modeEntered_same ..)
    | apply Same.step (m := 67092479) (by decide) (State.mapPd_same ..)
    | apply Same.trans _ (foldl_same _ _ _ (fun _ _ => ?_))
    | apply Same.trans _ (foldl_same1 _ _ _ (fun _ _ => ?_))
    | apply Same.ite
    | apply Same.ite1
    | apply Same.ite2
    | extract_lets
    | split
    | dsimp -zeta only
    | dsimp +zetaDelta only

theorem execGoodcrcTimeout_runs (n : Fin 16) (s : State) : Runs 45883509 s (execGoodcrcTimeout n s) := by
  unfold execGoodcrcTimeout
  repeat' with_reducible first
    | apply Runs.next
    | exact Same.refl _
    | apply Same.trans _ (State.pdDo_same (K := 45883509) (by decide) _ _ _ (fun _ => ?_))
    | apply Same.step (m := 67108855) (by decide) (State.emit_same ..)
    | apply Same.step (m := 67092479) (by decide) (State.setPd_same ..)
    | apply Same.step (m := 45883509) (by decide) (State.hardReset_same ..)
    | apply Same.step (m := 67092469) (by decide) (State.softReset_same ..)
    | apply Same.trans _ (foldl_same _ _ _ (fun _ _ => ?_))
    | apply Same.trans _ (foldl_same1 _ _ _ (fun _ _ => ?_))
    | apply Same.ite
    | apply Same.ite1
    | apply Same.ite2
    | extract_lets
    | split
    | dsimp -zeta only
    | dsimp +zetaDelta only

theorem execGetStatus_runs (n : Fin 16) (s : State) : Runs 50315253 s (execGetStatus n s) := by
  unfold execGetStatus
  repeat' with_reducible first
    | apply Runs.next
    | exact Same.refl _
    | apply Same.trans _ (State.pdDo_same (K := 50315253) (by decide) _ _ _ (fun _ => ?_))
    | apply Same.step (m := 50331647) (by decide) (State.fresh_same ..)
    | apply Same.step (m := 67092471) (by decide) (State.pdSend_same ..)
    | apply Same.trans _ (foldl_same _ _ _ (fun _ _ => ?_))
    | apply Same.trans _ (foldl_same1 _ _ _ (fun _ _ => ?_))
    | apply Same.ite
    | apply Same.ite1
    | apply Same.ite2
    | extract_lets
    | split
    | dsimp -zeta only
    | dsimp +zetaDelta only

theorem execGetRevision_runs (n : Fin 16) (s : State) : Runs 50315253 s (execGetRevision n s) := by
  unfold execGetRevision
  repeat' with_reducible first
    | apply Runs.next
    | exact Same.refl _
    | apply Same.trans _ (State.pdDo_same (K := 50315253) (by decide) _ _ _ (fun _ => ?_))
    | apply Same.step (m := 50331647) (by decide) (State.fresh_same ..)
    | apply Same.step (m := 67092471) (by decide) (State.pdSend_same ..)
    | apply Same.trans _ (foldl_same _ _ _ (fun _ _ => ?_))
    | apply Same.trans _ (foldl_same1 _ _ _ (fun _ _ => ?_))
    | apply Same.ite
    | apply Same.ite1
    | apply Same.ite2
    | extract_lets
    | split
    | dsimp -zeta only
    | dsimp +zetaDelta only

theorem execGetSourceCapExtended_runs (n : Fin 16) (s : State) : Runs 50315253 s (execGetSourceCapExtended n s) := by
  unfold execGetSourceCapExtended
  repeat' with_reducible first
    | apply Runs.next
    | exact Same.refl _
    | apply Same.trans _ (State.pdDo_same (K := 50315253) (by decide) _ _ _ (fun _ => ?_))
    | apply Same.step (m := 50331647) (by decide) (State.fresh_same ..)
    | apply Same.step (m := 67092471) (by decide) (State.pdSend_same ..)
    | apply Same.trans _ (foldl_same _ _ _ (fun _ _ => ?_))
    | apply Same.trans _ (foldl_same1 _ _ _ (fun _ _ => ?_))
    | apply Same.ite
    | apply Same.ite1
    | apply Same.ite2
    | extract_lets
    | split
    | dsimp -zeta only
    | dsimp +zetaDelta only

theorem execEprGetSourceCap_runs (n : Fin 16) (s : State) : Runs 67092469 s (execEprGetSourceCap n s) := by
  unfold execEprGetSourceCap
  repeat' with_reducible first
    | apply Runs.next
    | exact Same.refl _
    | apply Same.trans _ (State.pdDo_same (K := 67092469) (by decide) _ _ _ (fun _ => ?_))
    | apply Same.step (m := 67092471) (by decide) (State.pdSend_same ..)
    | apply Same.trans _ (foldl_same _ _ _ (fun _ _ => ?_))
    | apply Same.trans _ (foldl_same1 _ _ _ (fun _ _ => ?_))
    | apply Same.ite
    | apply Same.ite1
    | apply Same.ite2
    | extract_lets
    | split
    | dsimp -zeta only
    | dsimp +zetaDelta only

theorem execBistMessage_runs (n : Fin 16) (carrier : Bool) (s : State) : Runs 67092469 s (execBistMessage n carrier s) := by
  unfold execBistMessage
  repeat' with_reducible first
    | apply Runs.next
    | exact Same.refl _
    | apply Same.trans _ (State.pdDo_same (K := 67092469) (by decide) _ _ _ (fun _ => ?_))
    | apply Same.step (m := 67108855) (by decide) (State.emit_same ..)
    | apply Same.step (m := 67092479) (by decide) (State.mapPd_same ..)
    | apply Same.trans _ (foldl_same _ _ _ (fun _ _ => ?_))
    | apply Same.trans _ (foldl_same1 _ _ _ (fun _ _ => ?_))
    | apply Same.ite
    | apply Same.ite1
    | apply Same.ite2
    | extract_lets
    | split
    | dsimp -zeta only
    | dsimp +zetaDelta only

theorem execUnsupportedMessage_runs (n : Fin 16) (outOfSeq : Bool) (s : State) : Runs 67092469 s (execUnsupportedMessage n outOfSeq s) := by
  unfold execUnsupportedMessage
  repeat' with_reducible first
    | apply Runs.next
    | exact Same.refl _
    | apply Same.trans _ (State.pdDo_same (K := 67092469) (by decide) _ _ _ (fun _ => ?_))
    | apply Same.step (m := 67092469) (by decide) (State.softReset_same ..)
    | apply Same.step (m := 67108855) (by decide) (State.raise_same ..)
    | apply Same.step (m := 67108861) (by decide) (State.sat_same ..)
    | apply Same.step (m := 67092471) (by decide) (State.pdSend_same ..)
    | apply Same.trans _ (foldl_same _ _ _ (fun _ _ => ?_))
    | apply Same.trans _ (foldl_same1 _ _ _ (fun _ _ => ?_))
    | apply Same.ite
    | apply Same.ite1
    | apply Same.ite2
    | extract_lets
    | split
    | dsimp -zeta only
    | dsimp +zetaDelta only

theorem execSrcTransition_runs (n : Fin 16) (s : State) : Runs 62898165 s (execSrcTransition n s) := by
  unfold execSrcTransition
  repeat' with_reducible first
    | apply Runs.next
    | exact Same.refl _
    | apply Same.trans _ (State.pdDo_same (K := 62898165) (by decide) _ _ _ (fun _ => ?_))
    | apply Same.step (m := 62898165) (by decide) (State.srcTransition_same ..)
    | apply Same.trans _ (foldl_same _ _ _ (fun _ _ => ?_))
    | apply Same.trans _ (foldl_same1 _ _ _ (fun _ _ => ?_))
    | apply Same.ite
    | apply Same.ite1
    | apply Same.ite2
    | extract_lets
    | split
    | dsimp -zeta only
    | dsimp +zetaDelta only

theorem execPsTransitionTimeout_runs (n : Fin 16) (s : State) : Runs 45883509 s (execPsTransitionTimeout n s) := by
  unfold execPsTransitionTimeout
  repeat' with_reducible first
    | apply Runs.next
    | exact Same.refl _
    | apply Same.trans _ (State.pdDo_same (K := 45883509) (by decide) _ _ _ (fun _ => ?_))
    | apply Same.step (m := 45883509) (by decide) (State.hardReset_same ..)
    | apply Same.trans _ (foldl_same _ _ _ (fun _ _ => ?_))
    | apply Same.trans _ (foldl_same1 _ _ _ (fun _ _ => ?_))
    | apply Same.ite
    | apply Same.ite1
    | apply Same.ite2
    | extract_lets
    | split
    | dsimp -zeta only
    | dsimp +zetaDelta only

theorem execSrcRecover_runs (n : Fin 16) (s : State) : Runs 62898165 s (execSrcRecover n s) := by
  unfold execSrcRecover
  repeat' with_reducible first
    | apply Runs.next
    | exact Same.refl _
    | apply Same.trans _ (State.pdDo_same (K := 62898165) (by decide) _ _ _ (fun _ => ?_))
    | apply Same.step (m := 62898165) (by decide) (State.vbReq_same ..)
    | apply Same.step (m := 67092479) (by decide) (State.setSeq_same ..)
    | apply Same.trans _ (foldl_same _ _ _ (fun _ _ => ?_))
    | apply Same.trans _ (foldl_same1 _ _ _ (fun _ _ => ?_))
    | apply Same.ite
    | apply Same.ite1
    | apply Same.ite2
    | extract_lets
    | split
    | dsimp -zeta only
    | dsimp +zetaDelta only

theorem execErrorRecoveryEnd_runs (n : Fin 16) (s : State) : Runs 67092477 s (execErrorRecoveryEnd n s) := by
  unfold execErrorRecoveryEnd
  repeat' with_reducible first
    | apply Runs.next
    | exact Same.refl _
    | apply Same.step (m := 67108861) (by decide) (State.set_same ..)
    | apply Same.step (m := 67092479) (by decide) (State.setPd_same ..)
    | apply Same.trans _ (foldl_same _ _ _ (fun _ _ => ?_))
    | apply Same.trans _ (foldl_same1 _ _ _ (fun _ _ => ?_))
    | apply Same.ite
    | apply Same.ite1
    | apply Same.ite2
    | extract_lets
    | split
    | dsimp -zeta only
    | dsimp +zetaDelta only

theorem execDiscoverIdentityAck_runs (n : Fin 16) (s : State) : Runs 67092469 s (execDiscoverIdentityAck n s) := by
  unfold execDiscoverIdentityAck
  repeat' with_reducible first
    | apply Runs.next
    | exact Same.refl _
    | apply Same.trans _ (State.vdmAt_same (K := 67092469) (by decide) _ _ _ _ (fun _ => ?_))
    | apply Same.step (m := 67092471) (by decide) (State.vdmSend_same ..)
    | apply Same.trans _ (foldl_same _ _ _ (fun _ _ => ?_))
    | apply Same.trans _ (foldl_same1 _ _ _ (fun _ _ => ?_))
    | apply Same.ite
    | apply Same.ite1
    | apply Same.ite2
    | extract_lets
    | split
    | dsimp -zeta only
    | dsimp +zetaDelta only

theorem execDiscoverSvidsAck_runs (n : Fin 16) (svids : List (BitVec 16)) (s : State) : Runs 67092469 s (execDiscoverSvidsAck n svids s) := by
  unfold execDiscoverSvidsAck
  repeat' with_reducible first
    | apply Runs.next
    | exact Same.refl _
    | apply Same.trans _ (State.vdmAt_same (K := 67092469) (by decide) _ _ _ _ (fun _ => ?_))
    | apply Same.step (m := 67092471) (by decide) (State.vdmSend_same ..)
    | apply Same.step (m := 67092471) (by decide) (State.vdmFail_same ..)
    | apply Same.trans _ (foldl_same _ _ _ (fun _ _ => ?_))
    | apply Same.trans _ (foldl_same1 _ _ _ (fun _ _ => ?_))
    | apply Same.ite
    | apply Same.ite1
    | apply Same.ite2
    | extract_lets
    | split
    | dsimp -zeta only
    | dsimp +zetaDelta only

theorem execDiscoverModesAck_runs (n : Fin 16) (vdos : List Word) (s : State) : Runs 67092469 s (execDiscoverModesAck n vdos s) := by
  unfold execDiscoverModesAck
  repeat' with_reducible first
    | apply Runs.next
    | exact Same.refl _
    | apply Same.trans _ (State.vdmAt_same (K := 67092469) (by decide) _ _ _ _ (fun _ => ?_))
    | apply Same.step (m := 67092471) (by decide) (State.vdmSend_same ..)
    | apply Same.step (m := 67108861) (by decide) (State.set_same ..)
    | apply Same.step (m := 67092471) (by decide) (State.vdmFail_same ..)
    | apply Same.trans _ (foldl_same _ _ _ (fun _ _ => ?_))
    | apply Same.trans _ (foldl_same1 _ _ _ (fun _ _ => ?_))
    | apply Same.ite
    | apply Same.ite1
    | apply Same.ite2
    | extract_lets
    | split
    | dsimp -zeta only
    | dsimp +zetaDelta only

theorem execEnterModeAck_runs (n : Fin 16) (vdo idLo idHi : Word) (s : State) : Runs 67092469 s (execEnterModeAck n vdo idLo idHi s) := by
  unfold execEnterModeAck
  repeat' with_reducible first
    | apply Runs.next
    | exact Same.refl _
    | apply Same.trans _ (State.vdmAt_same (K := 67092469) (by decide) _ _ _ _ (fun _ => ?_))
    | apply Same.step (m := 67092469) (by decide) (State.enterAck_same ..)
    | apply Same.trans _ (foldl_same _ _ _ (fun _ _ => ?_))
    | apply Same.trans _ (foldl_same1 _ _ _ (fun _ _ => ?_))
    | apply Same.ite
    | apply Same.ite1
    | apply Same.ite2
    | extract_lets
    | split
    | dsimp -zeta only
    | dsimp +zetaDelta only

theorem execVdmNak_runs (n : Fin 16) (s : State) : Runs 67092469 s (execVdmNak n s) := by
  unfold execVdmNak
  repeat' with_reducible first
    | apply Runs.next
    | exact Same.refl _
    | apply Same.trans _ (State.pdDo_same (K := 67092469) (by decide) _ _ _ (fun _ => ?_))
    | apply Same.step (m := 67092471) (by decide) (State.vdmFail_same ..)
    | apply Same.trans _ (foldl_same _ _ _ (fun _ _ => ?_))
    | apply Same.trans _ (foldl_same1 _ _ _ (fun _ _ => ?_))
    | apply Same.ite
    | apply Same.ite1
    | apply Same.ite2
    | extract_lets
    | split
    | dsimp -zeta only
    | dsimp +zetaDelta only

theorem execVdmBusy_runs (n : Fin 16) (s : State) : Runs 67092469 s (execVdmBusy n s) := by
  unfold execVdmBusy
  repeat' with_reducible first
    | apply Runs.next
    | exact Same.refl _
    | apply Same.trans _ (State.pdDo_same (K := 67092469) (by decide) _ _ _ (fun _ => ?_))
    | apply Same.step (m := 67092479) (by decide) (State.setPd_same ..)
    | apply Same.step (m := 67092471) (by decide) (State.vdmFail_same ..)
    | apply Same.trans _ (foldl_same _ _ _ (fun _ _ => ?_))
    | apply Same.trans _ (foldl_same1 _ _ _ (fun _ _ => ?_))
    | apply Same.ite
    | apply Same.ite1
    | apply Same.ite2
    | extract_lets
    | split
    | dsimp -zeta only
    | dsimp +zetaDelta only

theorem execVdmRetry_runs (n : Fin 16) (s : State) : Runs 67092469 s (execVdmRetry n s) := by
  unfold execVdmRetry
  repeat' with_reducible first
    | apply Runs.next
    | exact Same.refl _
    | apply Same.trans _ (State.pdDo_same (K := 67092469) (by decide) _ _ _ (fun _ => ?_))
    | apply Same.step (m := 67092471) (by decide) (State.vdmSend_same ..)
    | apply Same.trans _ (foldl_same _ _ _ (fun _ _ => ?_))
    | apply Same.trans _ (foldl_same1 _ _ _ (fun _ _ => ?_))
    | apply Same.ite
    | apply Same.ite1
    | apply Same.ite2
    | extract_lets
    | split
    | dsimp -zeta only
    | dsimp +zetaDelta only

theorem execAttention_runs (n : Fin 16) (vdo : Word) (s : State) : Runs 50078069 s (execAttention n vdo s) := by
  unfold execAttention
  repeat' with_reducible first
    | apply Runs.next
    | exact Same.refl _
    | apply Same.trans _ (State.pdDo_same (K := 50078069) (by decide) _ _ _ (fun _ => ?_))
    | apply Same.step (m := 50078069) (by decide) (State.modeExit_same ..)
    | apply Same.trans _ (foldl_same _ _ _ (fun _ _ => ?_))
    | apply Same.trans _ (foldl_same1 _ _ _ (fun _ _ => ?_))
    | apply Same.ite
    | apply Same.ite1
    | apply Same.ite2
    | extract_lets
    | split
    | dsimp -zeta only
    | dsimp +zetaDelta only

theorem execModeRetry_runs (n : Fin 16) (s : State) : Runs 50078069 s (execModeRetry n s) := by
  unfold execModeRetry
  repeat' with_reducible first
    | apply Runs.next
    | exact Same.refl _
    | apply Same.trans _ (State.pdDo_same (K := 50078069) (by decide) _ _ _ (fun _ => ?_))
    | apply Same.step (m := 67092479) (by decide) (State.mapPd_same ..)
    | apply Same.step (m := 50078069) (by decide) (State.modeExit_same ..)
    | apply Same.step (m := 67108855) (by decide) (State.raise_same ..)
    | apply Same.step (m := 67092469) (by decide) (State.vdmStart_same ..)
    | apply Same.trans _ (foldl_same _ _ _ (fun _ _ => ?_))
    | apply Same.trans _ (foldl_same1 _ _ _ (fun _ _ => ?_))
    | apply Same.ite
    | apply Same.ite1
    | apply Same.ite2
    | extract_lets
    | split
    | dsimp -zeta only
    | dsimp +zetaDelta only

theorem execPdCmdExit_runs (p : Path) (n : Fin 16) (s : State) : Runs 1 s (execPdCmdExit p n s) := by
  unfold execPdCmdExit
  repeat' with_reducible first
    | apply Runs.next
    | exact Same.refl _
    | apply Same.step (m := 1) (by decide) (State.write_same ..)
    | apply Same.trans _ (foldl_same _ _ _ (fun _ _ => ?_))
    | apply Same.trans _ (foldl_same1 _ _ _ (fun _ _ => ?_))
    | apply Same.ite
    | apply Same.ite1
    | apply Same.ite2
    | extract_lets
    | split
    | dsimp -zeta only
    | dsimp +zetaDelta only

theorem execPdCmdEnter_runs (p : Path) (n : Fin 16) (s : State) : Runs 1 s (execPdCmdEnter p n s) := by
  unfold execPdCmdEnter
  repeat' with_reducible first
    | apply Runs.next
    | exact Same.refl _
    | apply Same.step (m := 1) (by decide) (State.write_same ..)
    | apply Same.trans _ (foldl_same _ _ _ (fun _ _ => ?_))
    | apply Same.trans _ (foldl_same1 _ _ _ (fun _ _ => ?_))
    | apply Same.ite
    | apply Same.ite1
    | apply Same.ite2
    | extract_lets
    | split
    | dsimp -zeta only
    | dsimp +zetaDelta only

theorem execPdCmdSendCaps_runs (p : Path) (n : Fin 16) (s : State) : Runs 1 s (execPdCmdSendCaps p n s) := by
  unfold execPdCmdSendCaps
  repeat' with_reducible first
    | apply Runs.next
    | exact Same.refl _
    | apply Same.step (m := 1) (by decide) (State.write_same ..)
    | apply Same.trans _ (foldl_same _ _ _ (fun _ _ => ?_))
    | apply Same.trans _ (foldl_same1 _ _ _ (fun _ _ => ?_))
    | apply Same.ite
    | apply Same.ite1
    | apply Same.ite2
    | extract_lets
    | split
    | dsimp -zeta only
    | dsimp +zetaDelta only

theorem execPdCmdDrSwap_runs (p : Path) (n : Fin 16) (s : State) : Runs 1 s (execPdCmdDrSwap p n s) := by
  unfold execPdCmdDrSwap
  repeat' with_reducible first
    | apply Runs.next
    | exact Same.refl _
    | apply Same.step (m := 1) (by decide) (State.write_same ..)
    | apply Same.trans _ (foldl_same _ _ _ (fun _ _ => ?_))
    | apply Same.trans _ (foldl_same1 _ _ _ (fun _ _ => ?_))
    | apply Same.ite
    | apply Same.ite1
    | apply Same.ite2
    | extract_lets
    | split
    | dsimp -zeta only
    | dsimp +zetaDelta only

theorem execPdCmdPrSwap_runs (p : Path) (n : Fin 16) (s : State) : Runs 1 s (execPdCmdPrSwap p n s) := by
  unfold execPdCmdPrSwap
  repeat' with_reducible first
    | apply Runs.next
    | exact Same.refl _
    | apply Same.step (m := 1) (by decide) (State.write_same ..)
    | apply Same.trans _ (foldl_same _ _ _ (fun _ _ => ?_))
    | apply Same.trans _ (foldl_same1 _ _ _ (fun _ _ => ?_))
    | apply Same.ite
    | apply Same.ite1
    | apply Same.ite2
    | extract_lets
    | split
    | dsimp -zeta only
    | dsimp +zetaDelta only

theorem execPdCmdSoftReset_runs (p : Path) (n : Fin 16) (s : State) : Runs 1 s (execPdCmdSoftReset p n s) := by
  unfold execPdCmdSoftReset
  repeat' with_reducible first
    | apply Runs.next
    | exact Same.refl _
    | apply Same.step (m := 1) (by decide) (State.write_same ..)
    | apply Same.trans _ (foldl_same _ _ _ (fun _ _ => ?_))
    | apply Same.trans _ (foldl_same1 _ _ _ (fun _ _ => ?_))
    | apply Same.ite
    | apply Same.ite1
    | apply Same.ite2
    | extract_lets
    | split
    | dsimp -zeta only
    | dsimp +zetaDelta only

theorem execPdCmdHardReset_runs (p : Path) (n : Fin 16) (s : State) : Runs 1 s (execPdCmdHardReset p n s) := by
  unfold execPdCmdHardReset
  repeat' with_reducible first
    | apply Runs.next
    | exact Same.refl _
    | apply Same.step (m := 1) (by decide) (State.write_same ..)
    | apply Same.trans _ (foldl_same _ _ _ (fun _ _ => ?_))
    | apply Same.trans _ (foldl_same1 _ _ _ (fun _ _ => ?_))
    | apply Same.ite
    | apply Same.ite1
    | apply Same.ite2
    | extract_lets
    | split
    | dsimp -zeta only
    | dsimp +zetaDelta only

theorem execPdSrcWrite_runs (p : Path) (n : Fin 16) (value : Word) (s : State) : Runs 1 s (execPdSrcWrite p n value s) := by
  unfold execPdSrcWrite
  repeat' with_reducible first
    | apply Runs.next
    | exact Same.refl _
    | apply Same.step (m := 1) (by decide) (State.write_same ..)
    | apply Same.trans _ (foldl_same _ _ _ (fun _ _ => ?_))
    | apply Same.trans _ (foldl_same1 _ _ _ (fun _ _ => ?_))
    | apply Same.ite
    | apply Same.ite1
    | apply Same.ite2
    | extract_lets
    | split
    | dsimp -zeta only
    | dsimp +zetaDelta only

theorem execPdDisable_runs (p : Path) (n : Fin 16) (s : State) : Runs 1 s (execPdDisable p n s) := by
  unfold execPdDisable
  repeat' with_reducible first
    | apply Runs.next
    | exact Same.refl _
    | apply Same.step (m := 1) (by decide) (State.write_same ..)
    | apply Same.trans _ (foldl_same _ _ _ (fun _ _ => ?_))
    | apply Same.trans _ (foldl_same1 _ _ _ (fun _ _ => ?_))
    | apply Same.ite
    | apply Same.ite1
    | apply Same.ite2
    | extract_lets
    | split
    | dsimp -zeta only
    | dsimp +zetaDelta only

theorem execGovernorFirmware_runs (s : State) : Runs 67092213 s (execGovernorFirmware s) := by
  unfold execGovernorFirmware
  repeat' with_reducible first
    | apply Runs.next
    | exact Same.refl _
    | apply Same.step (m := 67092213) (by decide) (State.govFirmware_same ..)
    | apply Same.trans _ (foldl_same _ _ _ (fun _ _ => ?_))
    | apply Same.trans _ (foldl_same1 _ _ _ (fun _ _ => ?_))
    | apply Same.ite
    | apply Same.ite1
    | apply Same.ite2
    | extract_lets
    | split
    | dsimp -zeta only
    | dsimp +zetaDelta only

end Sys2Proof.Machine
end

