-- ==== Sys2Proof/Laws/RunsPoolCmd.lean ====
section
/-! SUPPORT. What each command of Machine/PoolCmd.lean may change when it runs, as it always does. -/

set_option linter.all false

namespace Sys2Proof.Machine

theorem execMemrd_runs (h : Fin 32) (tag : BitVec 16) (at_ : MemAddr) (snp : SnpType) (mv : MetaVal) (s : State) : Runs 50020725 s (execMemrd h tag at_ snp mv s) := by
  unfold execMemrd
  repeat' with_reducible first
    | apply Runs.next
    | exact Same.refl _
    | apply Same.step (m := 50020725) (by decide) (State.hostMem_same ..)
    | apply Same.trans _ (foldl_same _ _ _ (fun _ _ => ?_))
    | apply Same.trans _ (foldl_same1 _ _ _ (fun _ _ => ?_))
    | apply Same.ite
    | apply Same.ite1
    | apply Same.ite2
    | extract_lets
    | split
    | dsimp -zeta only
    | dsimp +zetaDelta only

theorem execMemrddata_runs (h : Fin 32) (tag : BitVec 16) (at_ : MemAddr) (s : State) : Runs 50020725 s (execMemrddata h tag at_ s) := by
  unfold execMemrddata
  repeat' with_reducible first
    | apply Runs.next
    | exact Same.refl _
    | apply Same.step (m := 50020725) (by decide) (State.hostMem_same ..)
    | apply Same.trans _ (foldl_same _ _ _ (fun _ _ => ?_))
    | apply Same.trans _ (foldl_same1 _ _ _ (fun _ _ => ?_))
    | apply Same.ite
    | apply Same.ite1
    | apply Same.ite2
    | extract_lets
    | split
    | dsimp -zeta only
    | dsimp +zetaDelta only

theorem execMeminv_runs (h : Fin 32) (tag : BitVec 16) (at_ : MemAddr) (own : Bool) (s : State) : Runs 50020725 s (execMeminv h tag at_ own s) := by
  unfold execMeminv
  repeat' with_reducible first
    | apply Runs.next
    | exact Same.refl _
    | apply Same.step (m := 50020725) (by decide) (State.hostMem_same ..)
    | apply Same.trans _ (foldl_same _ _ _ (fun _ _ => ?_))
    | apply Same.trans _ (foldl_same1 _ _ _ (fun _ _ => ?_))
    | apply Same.ite
    | apply Same.ite1
    | apply Same.ite2
    | extract_lets
    | split
    | dsimp -zeta only
    | dsimp +zetaDelta only

theorem execMemclnevct_runs (h : Fin 32) (tag : BitVec 16) (at_ : MemAddr) (s : State) : Runs 50020725 s (execMemclnevct h tag at_ s) := by
  unfold execMemclnevct
  repeat' with_reducible first
    | apply Runs.next
    | exact Same.refl _
    | apply Same.step (m := 50020725) (by decide) (State.hostMem_same ..)
    | apply Same.trans _ (foldl_same _ _ _ (fun _ _ => ?_))
    | apply Same.trans _ (foldl_same1 _ _ _ (fun _ _ => ?_))
    | apply Same.ite
    | apply Same.ite1
    | apply Same.ite2
    | extract_lets
    | split
    | dsimp -zeta only
    | dsimp +zetaDelta only

theorem execMemwr_runs (h : Fin 32) (tag : BitVec 16) (at_ : MemAddr) (form : WrForm) (data : BitVec 512) (poison : Bool) (s : State) : Runs 50020725 s (execMemwr h tag at_ form data poison s) := by
  unfold execMemwr
  repeat' with_reducible first
    | apply Runs.next
    | exact Same.refl _
    | apply Same.step (m := 50020725) (by decide) (State.hostMem_same ..)
    | apply Same.trans _ (foldl_same _ _ _ (fun _ _ => ?_))
    | apply Same.trans _ (foldl_same1 _ _ _ (fun _ _ => ?_))
    | apply Same.ite
    | apply Same.ite1
    | apply Same.ite2
    | extract_lets
    | split
    | dsimp -zeta only
    | dsimp +zetaDelta only

theorem execMemwrptl_runs (h : Fin 32) (tag : BitVec 16) (at_ : MemAddr) (form : WrForm) (data : BitVec 512) (be : BitVec 64) (poison : Bool) (s : State) : Runs 50020725 s (execMemwrptl h tag at_ form data be poison s) := by
  unfold execMemwrptl
  repeat' with_reducible first
    | apply Runs.next
    | exact Same.refl _
    | apply Same.step (m := 50020725) (by decide) (State.hostMem_same ..)
    | apply Same.trans _ (foldl_same _ _ _ (fun _ _ => ?_))
    | apply Same.trans _ (foldl_same1 _ _ _ (fun _ _ => ?_))
    | apply Same.ite
    | apply Same.ite1
    | apply Same.ite2
    | extract_lets
    | split
    | dsimp -zeta only
    | dsimp +zetaDelta only

theorem execMemspecrd_runs (_h : Fin 32) (_dpa : BitVec 52) (s : State) : Runs 67108863 s (execMemspecrd _h _dpa s) := by
  unfold execMemspecrd
  repeat' with_reducible first
    | apply Runs.next
    | exact Same.refl _
    | apply Same.trans _ (foldl_same _ _ _ (fun _ _ => ?_))
    | apply Same.trans _ (foldl_same1 _ _ _ (fun _ _ => ?_))
    | apply Same.ite
    | apply Same.ite1
    | apply Same.ite2
    | extract_lets
    | split
    | dsimp -zeta only
    | dsimp +zetaDelta only

theorem execBirspi_runs (h : Fin 32) (bitag : BitVec 12) (block : Bool) (s : State) : Runs 50029941 s (execBirspi h bitag block s) := by
  unfold execBirspi
  repeat' with_reducible first
    | apply Runs.next
    | exact Same.refl _
    | apply Same.step (m := 50292085) (by decide) (State.birspIn_same ..)
    | apply Same.step (m := 67108861) (by decide) (State.cellsIn_same ..)
    | apply Same.step (m := 66846709) (by decide) (State.shutOut_same ..)
    | apply Same.step (m := 50292085) (by decide) (State.advance_same ..)
    | apply Same.trans _ (foldl_same _ _ _ (fun _ _ => ?_))
    | apply Same.trans _ (foldl_same1 _ _ _ (fun _ _ => ?_))
    | apply Same.ite
    | apply Same.ite1
    | apply Same.ite2
    | extract_lets
    | split
    | dsimp -zeta only
    | dsimp +zetaDelta only

theorem execBirsps_runs (h : Fin 32) (bitag : BitVec 12) (block : Bool) (s : State) : Runs 50029941 s (execBirsps h bitag block s) := by
  unfold execBirsps
  repeat' with_reducible first
    | apply Runs.next
    | exact Same.refl _
    | apply Same.step (m := 50292085) (by decide) (State.birspIn_same ..)
    | apply Same.step (m := 67108861) (by decide) (State.cellsIn_same ..)
    | apply Same.step (m := 66846709) (by decide) (State.shutOut_same ..)
    | apply Same.step (m := 50292085) (by decide) (State.advance_same ..)
    | apply Same.trans _ (foldl_same _ _ _ (fun _ _ => ?_))
    | apply Same.trans _ (foldl_same1 _ _ _ (fun _ _ => ?_))
    | apply Same.ite
    | apply Same.ite1
    | apply Same.ite2
    | extract_lets
    | split
    | dsimp -zeta only
    | dsimp +zetaDelta only

theorem execBirspe_runs (h : Fin 32) (bitag : BitVec 12) (block : Bool) (s : State) : Runs 50029941 s (execBirspe h bitag block s) := by
  unfold execBirspe
  repeat' with_reducible first
    | apply Runs.next
    | exact Same.refl _
    | apply Same.step (m := 50292085) (by decide) (State.birspIn_same ..)
    | apply Same.step (m := 67108861) (by decide) (State.cellsIn_same ..)
    | apply Same.step (m := 66846709) (by decide) (State.shutOut_same ..)
    | apply Same.step (m := 50292085) (by decide) (State.advance_same ..)
    | apply Same.trans _ (foldl_same _ _ _ (fun _ _ => ?_))
    | apply Same.trans _ (foldl_same1 _ _ _ (fun _ _ => ?_))
    | apply Same.ite
    | apply Same.ite1
    | apply Same.ite2
    | extract_lets
    | split
    | dsimp -zeta only
    | dsimp +zetaDelta only

theorem execBiconflict_runs (h : Fin 32) (tag : BitVec 16) (dpa : BitVec 52) (s : State) : Runs 50065269 s (execBiconflict h tag dpa s) := by
  unfold execBiconflict
  repeat' with_reducible first
    | apply Runs.next
    | exact Same.refl _
    | apply Same.step (m := 67108861) (by decide) (State.cellsIn_same ..)
    | apply Same.step (m := 50327413) (by decide) (State.sendS2M_same ..)
    | apply Same.step (m := 66846709) (by decide) (State.shutOut_same ..)
    | apply Same.step (m := 67108853) (by decide) (State.unmapped_same ..)
    | apply Same.trans _ (foldl_same _ _ _ (fun _ _ => ?_))
    | apply Same.trans _ (foldl_same1 _ _ _ (fun _ _ => ?_))
    | apply Same.ite
    | apply Same.ite1
    | apply Same.ite2
    | extract_lets
    | split
    | dsimp -zeta only
    | dsimp +zetaDelta only

theorem execFunctionMemRead_runs (fn : Fin 256) (gen : BitVec 4) (tag : BitVec 16) (addr : BitVec 64) (len : BitVec 13) (s : State) : Runs 50028917 s (execFunctionMemRead fn gen tag addr len s) := by
  unfold execFunctionMemRead
  repeat' with_reducible first
    | apply Runs.next
    | exact Same.refl _
    | apply Same.step (m := 67108853) (by decide) (State.stale_same ..)
    | apply Same.step (m := 50028917) (by decide) (State.fnRead_same ..)
    | apply Same.trans _ (foldl_same _ _ _ (fun _ _ => ?_))
    | apply Same.trans _ (foldl_same1 _ _ _ (fun _ _ => ?_))
    | apply Same.ite
    | apply Same.ite1
    | apply Same.ite2
    | extract_lets
    | split
    | dsimp -zeta only
    | dsimp +zetaDelta only

theorem execFunctionMemWrite_runs (fn : Fin 256) (gen : BitVec 4) (addr : BitVec 64) (data : List (BitVec 8)) (s : State) : Runs 50028917 s (execFunctionMemWrite fn gen addr data s) := by
  unfold execFunctionMemWrite
  repeat' with_reducible first
    | apply Runs.next
    | exact Same.refl _
    | apply Same.step (m := 67108853) (by decide) (State.stale_same ..)
    | apply Same.step (m := 50028917) (by decide) (State.fnWrite_same ..)
    | apply Same.trans _ (foldl_same _ _ _ (fun _ _ => ?_))
    | apply Same.trans _ (foldl_same1 _ _ _ (fun _ _ => ?_))
    | apply Same.ite
    | apply Same.ite1
    | apply Same.ite2
    | extract_lets
    | split
    | dsimp -zeta only
    | dsimp +zetaDelta only

theorem execFunctionAtomic_runs (fn : Fin 256) (gen : BitVec 4) (tag : BitVec 16) (addr : BitVec 64) (op : AtomicOp) (s : State) : Runs 50028917 s (execFunctionAtomic fn gen tag addr op s) := by
  unfold execFunctionAtomic
  repeat' with_reducible first
    | apply Runs.next
    | exact Same.refl _
    | apply Same.step (m := 67108853) (by decide) (State.stale_same ..)
    | apply Same.step (m := 50028917) (by decide) (State.fnAtomic_same ..)
    | apply Same.trans _ (foldl_same _ _ _ (fun _ _ => ?_))
    | apply Same.trans _ (foldl_same1 _ _ _ (fun _ _ => ?_))
    | apply Same.ite
    | apply Same.ite1
    | apply Same.ite2
    | extract_lets
    | split
    | dsimp -zeta only
    | dsimp +zetaDelta only

theorem execExpanderMemdata_runs (m : Fin 16) (tag : BitVec 16) (data : BitVec 512) (poison : Bool) (s : State) : Runs 50029941 s (execExpanderMemdata m tag data poison s) := by
  unfold execExpanderMemdata
  repeat' with_reducible first
    | apply Runs.next
    | exact Same.refl _
    | apply Same.step (m := 67108861) (by decide) (State.cellsIn_same ..)
    | apply Same.step (m := 66846709) (by decide) (State.shutOut_same ..)
    | apply Same.step (m := 50292085) (by decide) (State.tagDone_same ..)
    | apply Same.trans _ (foldl_same _ _ _ (fun _ _ => ?_))
    | apply Same.trans _ (foldl_same1 _ _ _ (fun _ _ => ?_))
    | apply Same.ite
    | apply Same.ite1
    | apply Same.ite2
    | extract_lets
    | split
    | dsimp -zeta only
    | dsimp +zetaDelta only

theorem execExpanderCmp_runs (m : Fin 16) (tag : BitVec 16) (s : State) : Runs 50029941 s (execExpanderCmp m tag s) := by
  unfold execExpanderCmp
  repeat' with_reducible first
    | apply Runs.next
    | exact Same.refl _
    | apply Same.step (m := 67108861) (by decide) (State.cellsIn_same ..)
    | apply Same.step (m := 66846709) (by decide) (State.shutOut_same ..)
    | apply Same.step (m := 50292085) (by decide) (State.tagDone_same ..)
    | apply Same.trans _ (foldl_same _ _ _ (fun _ _ => ?_))
    | apply Same.trans _ (foldl_same1 _ _ _ (fun _ _ => ?_))
    | apply Same.ite
    | apply Same.ite1
    | apply Same.ite2
    | extract_lets
    | split
    | dsimp -zeta only
    | dsimp +zetaDelta only

theorem execExpanderBisnp_runs (m : Fin 16) (_addr : BitVec 52) (s : State) : Runs 67108853 s (execExpanderBisnp m _addr s) := by
  unfold execExpanderBisnp
  repeat' with_reducible first
    | apply Runs.next
    | exact Same.refl _
    | apply Same.step (m := 67108855) (by decide) (State.raise_same ..)
    | apply Same.step (m := 67108861) (by decide) (State.sat_same ..)
    | apply Same.step (m := 67108855) (by decide) (State.emit_same ..)
    | apply Same.trans _ (foldl_same _ _ _ (fun _ _ => ?_))
    | apply Same.trans _ (foldl_same1 _ _ _ (fun _ _ => ?_))
    | apply Same.ite
    | apply Same.ite1
    | apply Same.ite2
    | extract_lets
    | split
    | dsimp -zeta only
    | dsimp +zetaDelta only

theorem execCompletionTimeout_runs (m : Fin 16) (idx : BitVec 12) (s : State) : Runs 50292085 s (execCompletionTimeout m idx s) := by
  unfold execCompletionTimeout
  repeat' with_reducible first
    | apply Runs.next
    | exact Same.refl _
    | apply Same.step (m := 67108861) (by decide) (State.sat_same ..)
    | apply Same.step (m := 67108351) (by decide) (State.mapPool_same ..)
    | apply Same.step (m := 67108351) (by decide) (State.setXtag_same ..)
    | apply Same.step (m := 50292085) (by decide) (State.advance_same ..)
    | apply Same.step (m := 50292085) (by decide) (State.xAbort_same ..)
    | apply Same.step (m := 67108855) (by decide) (State.raise_same ..)
    | apply Same.step (m := 50292085) (by decide) (State.expanderLost_same ..)
    | apply Same.trans _ (foldl_same _ _ _ (fun _ _ => ?_))
    | apply Same.trans _ (foldl_same1 _ _ _ (fun _ _ => ?_))
    | apply Same.ite
    | apply Same.ite1
    | apply Same.ite2
    | extract_lets
    | split
    | dsimp -zeta only
    | dsimp +zetaDelta only

theorem execTagFree_runs (m : Fin 16) (idx : BitVec 12) (s : State) : Runs 50292085 s (execTagFree m idx s) := by
  unfold execTagFree
  repeat' with_reducible first
    | apply Runs.next
    | exact Same.refl _
    | apply Same.step (m := 50292085) (by decide) (State.advance_same ..)
    | apply Same.step (m := 50326901) (by decide) (State.xPump_same ..)
    | apply Same.step (m := 67108351) (by decide) (State.setXtag_same ..)
    | apply Same.trans _ (foldl_same _ _ _ (fun _ _ => ?_))
    | apply Same.trans _ (foldl_same1 _ _ _ (fun _ _ => ?_))
    | apply Same.ite
    | apply Same.ite1
    | apply Same.ite2
    | extract_lets
    | split
    | dsimp -zeta only
    | dsimp +zetaDelta only

theorem execBisnpTimeout_runs (h : Fin 32) (bitag : BitVec 12) (s : State) : Runs 49701221 s (execBisnpTimeout h bitag s) := by
  unfold execBisnpTimeout
  repeat' with_reducible first
    | apply Runs.next
    | exact Same.refl _
    | apply Same.step (m := 67108855) (by decide) (State.raise_same ..)
    | apply Same.step (m := 50291061) (by decide) (State.hostLost_same ..)
    | apply Same.step (m := 49701221) (by decide) (State.hpDown_same ..)
    | apply Same.trans _ (foldl_same _ _ _ (fun _ _ => ?_))
    | apply Same.trans _ (foldl_same1 _ _ _ (fun _ _ => ?_))
    | apply Same.ite
    | apply Same.ite1
    | apply Same.ite2
    | extract_lets
    | split
    | dsimp -zeta only
    | dsimp +zetaDelta only

theorem execRegionEnable_runs (p : Path) (r : Fin 16) (value : Word) (s : State) : Runs 1 s (execRegionEnable p r value s) := by
  unfold execRegionEnable
  repeat' with_reducible first
    | apply Runs.next
    | exact Same.refl _
    | apply Same.step (m := 1) (by decide) (State.write_same ..)
    | apply Same.trans _ (foldl_same _ _ _ (fun _ _ => ?_))
    | apply Same.trans _ (foldl_same1 _ _ _ (fun _ _ => ?_))
    | apply Same.ite
    | apply Same.ite1
    | apply Same.ite2
    | extract_lets
    | split
    | dsimp -zeta only
    | dsimp +zetaDelta only

theorem execRegionRecall_runs (p : Path) (r : Fin 16) (s : State) : Runs 1 s (execRegionRecall p r s) := by
  unfold execRegionRecall
  repeat' with_reducible first
    | apply Runs.next
    | exact Same.refl _
    | apply Same.step (m := 1) (by decide) (State.write_same ..)
    | apply Same.trans _ (foldl_same _ _ _ (fun _ _ => ?_))
    | apply Same.trans _ (foldl_same1 _ _ _ (fun _ _ => ?_))
    | apply Same.ite
    | apply Same.ite1
    | apply Same.ite2
    | extract_lets
    | split
    | dsimp -zeta only
    | dsimp +zetaDelta only

theorem execRegionRecallEnd_runs (r : Fin 16) (s : State) : Runs 67108341 s (execRegionRecallEnd r s) := by
  unfold execRegionRecallEnd
  repeat' with_reducible first
    | apply Runs.next
    | exact Same.refl _
    | apply Same.step (m := 67108341) (by decide) (State.regionRecallEnd_same ..)
    | apply Same.trans _ (foldl_same _ _ _ (fun _ _ => ?_))
    | apply Same.trans _ (foldl_same1 _ _ _ (fun _ _ => ?_))
    | apply Same.ite
    | apply Same.ite1
    | apply Same.ite2
    | extract_lets
    | split
    | dsimp -zeta only
    | dsimp +zetaDelta only

theorem execWindowEnable_runs (p : Path) (cream : Bool) (s : State) : Runs 1 s (execWindowEnable p cream s) := by
  unfold execWindowEnable
  repeat' with_reducible first
    | apply Runs.next
    | exact Same.refl _
    | apply Same.step (m := 1) (by decide) (State.write_same ..)
    | apply Same.trans _ (foldl_same _ _ _ (fun _ _ => ?_))
    | apply Same.trans _ (foldl_same1 _ _ _ (fun _ _ => ?_))
    | apply Same.ite
    | apply Same.ite1
    | apply Same.ite2
    | extract_lets
    | split
    | dsimp -zeta only
    | dsimp +zetaDelta only

theorem execWindowRecall_runs (p : Path) (s : State) : Runs 1 s (execWindowRecall p s) := by
  unfold execWindowRecall
  repeat' with_reducible first
    | apply Runs.next
    | exact Same.refl _
    | apply Same.step (m := 1) (by decide) (State.write_same ..)
    | apply Same.trans _ (foldl_same _ _ _ (fun _ _ => ?_))
    | apply Same.trans _ (foldl_same1 _ _ _ (fun _ _ => ?_))
    | apply Same.ite
    | apply Same.ite1
    | apply Same.ite2
    | extract_lets
    | split
    | dsimp -zeta only
    | dsimp +zetaDelta only

theorem execWindowRecallEnd_runs (h : Fin 32) (w : Fin 64) (s : State) : Runs 67108341 s (execWindowRecallEnd h w s) := by
  unfold execWindowRecallEnd
  repeat' with_reducible first
    | apply Runs.next
    | exact Same.refl _
    | apply Same.step (m := 67108341) (by decide) (State.windowRecallEnd_same ..)
    | apply Same.trans _ (foldl_same _ _ _ (fun _ _ => ?_))
    | apply Same.trans _ (foldl_same1 _ _ _ (fun _ _ => ?_))
    | apply Same.ite
    | apply Same.ite1
    | apply Same.ite2
    | extract_lets
    | split
    | dsimp -zeta only
    | dsimp +zetaDelta only

theorem execLossWalkEnd_runs (port : Fin 72) (s : State) : Runs 67108341 s (execLossWalkEnd port s) := by
  unfold execLossWalkEnd
  repeat' with_reducible first
    | apply Runs.next
    | exact Same.refl _
    | apply Same.step (m := 67108341) (by decide) (State.walkEnd_same ..)
    | apply Same.trans _ (foldl_same _ _ _ (fun _ _ => ?_))
    | apply Same.trans _ (foldl_same1 _ _ _ (fun _ _ => ?_))
    | apply Same.ite
    | apply Same.ite1
    | apply Same.ite2
    | extract_lets
    | split
    | dsimp -zeta only
    | dsimp +zetaDelta only

theorem execPoolLostClr_runs (p : Path) (ports : BitVec 16) (s : State) : Runs 1 s (execPoolLostClr p ports s) := by
  unfold execPoolLostClr
  repeat' with_reducible first
    | apply Runs.next
    | exact Same.refl _
    | apply Same.step (m := 1) (by decide) (State.write_same ..)
    | apply Same.trans _ (foldl_same _ _ _ (fun _ _ => ?_))
    | apply Same.trans _ (foldl_same1 _ _ _ (fun _ _ => ?_))
    | apply Same.ite
    | apply Same.ite1
    | apply Same.ite2
    | extract_lets
    | split
    | dsimp -zeta only
    | dsimp +zetaDelta only

theorem execCreamBankFault_runs (n : Fin 8) (bank : Fin 8) (why : CreamTrouble) (s : State) : Runs 67100149 s (execCreamBankFault n bank why s) := by
  unfold execCreamBankFault
  repeat' with_reducible first
    | apply Runs.next
    | exact Same.refl _
    | apply Same.step (m := 67100149) (by decide) (State.creamFault_same ..)
    | apply Same.trans _ (foldl_same _ _ _ (fun _ _ => ?_))
    | apply Same.trans _ (foldl_same1 _ _ _ (fun _ _ => ?_))
    | apply Same.ite
    | apply Same.ite1
    | apply Same.ite2
    | extract_lets
    | split
    | dsimp -zeta only
    | dsimp +zetaDelta only

theorem execCrDrop_runs (p : Path) (n : Fin 8) (s : State) : Runs 1 s (execCrDrop p n s) := by
  unfold execCrDrop
  repeat' with_reducible first
    | apply Runs.next
    | exact Same.refl _
    | apply Same.step (m := 1) (by decide) (State.write_same ..)
    | apply Same.trans _ (foldl_same _ _ _ (fun _ _ => ?_))
    | apply Same.trans _ (foldl_same1 _ _ _ (fun _ _ => ?_))
    | apply Same.ite
    | apply Same.ite1
    | apply Same.ite2
    | extract_lets
    | split
    | dsimp -zeta only
    | dsimp +zetaDelta only

theorem execCrDisable_runs (p : Path) (n : Fin 8) (s : State) : Runs 1 s (execCrDisable p n s) := by
  unfold execCrDisable
  repeat' with_reducible first
    | apply Runs.next
    | exact Same.refl _
    | apply Same.step (m := 1) (by decide) (State.write_same ..)
    | apply Same.trans _ (foldl_same _ _ _ (fun _ _ => ?_))
    | apply Same.trans _ (foldl_same1 _ _ _ (fun _ _ => ?_))
    | apply Same.ite
    | apply Same.ite1
    | apply Same.ite2
    | extract_lets
    | split
    | dsimp -zeta only
    | dsimp +zetaDelta only

theorem execSliceFail_runs (d : Fin 32) (why : SliceTrouble) (s : State) : Runs 50283893 s (execSliceFail d why s) := by
  unfold execSliceFail
  repeat' with_reducible first
    | apply Runs.next
    | exact Same.refl _
    | apply Same.step (m := 50283893) (by decide) (State.sliceTrouble_same ..)
    | apply Same.trans _ (foldl_same _ _ _ (fun _ _ => ?_))
    | apply Same.trans _ (foldl_same1 _ _ _ (fun _ _ => ?_))
    | apply Same.ite
    | apply Same.ite1
    | apply Same.ite2
    | extract_lets
    | split
    | dsimp -zeta only
    | dsimp +zetaDelta only

theorem execSliceForce_runs (p : Path) (d : Fin 32) (s : State) : Runs 1 s (execSliceForce p d s) := by
  unfold execSliceForce
  repeat' with_reducible first
    | apply Runs.next
    | exact Same.refl _
    | apply Same.step (m := 1) (by decide) (State.write_same ..)
    | apply Same.trans _ (foldl_same _ _ _ (fun _ _ => ?_))
    | apply Same.trans _ (foldl_same1 _ _ _ (fun _ _ => ?_))
    | apply Same.ite
    | apply Same.ite1
    | apply Same.ite2
    | extract_lets
    | split
    | dsimp -zeta only
    | dsimp +zetaDelta only

theorem execReconstructionServing_runs (d : Fin 32) (s : State) : Runs 50292085 s (execReconstructionServing d s) := by
  unfold execReconstructionServing
  repeat' with_reducible first
    | apply Runs.next
    | exact Same.refl _
    | apply Same.step (m := 50292085) (by decide) (State.reconServes_same ..)
    | apply Same.trans _ (foldl_same _ _ _ (fun _ _ => ?_))
    | apply Same.trans _ (foldl_same1 _ _ _ (fun _ _ => ?_))
    | apply Same.ite
    | apply Same.ite1
    | apply Same.ite2
    | extract_lets
    | split
    | dsimp -zeta only
    | dsimp +zetaDelta only

theorem execRebuildComplete_runs (d : Fin 32) (s : State) : Runs 67108853 s (execRebuildComplete d s) := by
  unfold execRebuildComplete
  repeat' with_reducible first
    | apply Runs.next
    | exact Same.refl _
    | apply Same.step (m := 67108853) (by decide) (State.rebuildDone_same ..)
    | apply Same.trans _ (foldl_same _ _ _ (fun _ _ => ?_))
    | apply Same.trans _ (foldl_same1 _ _ _ (fun _ _ => ?_))
    | apply Same.ite
    | apply Same.ite1
    | apply Same.ite2
    | extract_lets
    | split
    | dsimp -zeta only
    | dsimp +zetaDelta only

theorem execReflectorFail_runs (g : Fin 2) (s : State) : Runs 50283893 s (execReflectorFail g s) := by
  unfold execReflectorFail
  repeat' with_reducible first
    | apply Runs.next
    | exact Same.refl _
    | apply Same.step (m := 50283893) (by decide) (State.reflectorFail_same ..)
    | apply Same.trans _ (foldl_same _ _ _ (fun _ _ => ?_))
    | apply Same.trans _ (foldl_same1 _ _ _ (fun _ _ => ?_))
    | apply Same.ite
    | apply Same.ite1
    | apply Same.ite2
    | extract_lets
    | split
    | dsimp -zeta only
    | dsimp +zetaDelta only

theorem execDxFail_runs (s : State) : Runs 67100661 s (execDxFail s) := by
  unfold execDxFail
  repeat' with_reducible first
    | apply Runs.next
    | exact Same.refl _
    | apply Same.step (m := 67100661) (by decide) (State.dxFail_same ..)
    | apply Same.trans _ (foldl_same _ _ _ (fun _ _ => ?_))
    | apply Same.trans _ (foldl_same1 _ _ _ (fun _ _ => ?_))
    | apply Same.ite
    | apply Same.ite1
    | apply Same.ite2
    | extract_lets
    | split
    | dsimp -zeta only
    | dsimp +zetaDelta only

theorem execByAddr_runs (p : Path) (s : State) : Runs 1 s (execByAddr p s) := by
  unfold execByAddr
  repeat' with_reducible first
    | apply Runs.next
    | exact Same.refl _
    | apply Same.step (m := 1) (by decide) (State.write_same ..)
    | apply Same.trans _ (foldl_same _ _ _ (fun _ _ => ?_))
    | apply Same.trans _ (foldl_same1 _ _ _ (fun _ _ => ?_))
    | apply Same.ite
    | apply Same.ite1
    | apply Same.ite2
    | extract_lets
    | split
    | dsimp -zeta only
    | dsimp +zetaDelta only

theorem execByPos_runs (p : Path) (s : State) : Runs 1 s (execByPos p s) := by
  unfold execByPos
  repeat' with_reducible first
    | apply Runs.next
    | exact Same.refl _
    | apply Same.step (m := 1) (by decide) (State.write_same ..)
    | apply Same.trans _ (foldl_same _ _ _ (fun _ _ => ?_))
    | apply Same.trans _ (foldl_same1 _ _ _ (fun _ _ => ?_))
    | apply Same.ite
    | apply Same.ite1
    | apply Same.ite2
    | extract_lets
    | split
    | dsimp -zeta only
    | dsimp +zetaDelta only

theorem execDrainEnd_runs (s : State) : Runs 1 s (execDrainEnd s) := by
  unfold execDrainEnd
  repeat' with_reducible first
    | apply Runs.next
    | exact Same.refl _
    | apply Same.step (m := 1) (by decide) (State.drainEnd_same ..)
    | apply Same.trans _ (foldl_same _ _ _ (fun _ _ => ?_))
    | apply Same.trans _ (foldl_same1 _ _ _ (fun _ _ => ?_))
    | apply Same.ite
    | apply Same.ite1
    | apply Same.ite2
    | extract_lets
    | split
    | dsimp -zeta only
    | dsimp +zetaDelta only

theorem execDrainLimit_runs (s : State) : Runs 1 s (execDrainLimit s) := by
  unfold execDrainLimit
  repeat' with_reducible first
    | apply Runs.next
    | exact Same.refl _
    | apply Same.step (m := 1) (by decide) (State.drainEnd_same ..)
    | apply Same.trans _ (foldl_same _ _ _ (fun _ _ => ?_))
    | apply Same.trans _ (foldl_same1 _ _ _ (fun _ _ => ?_))
    | apply Same.ite
    | apply Same.ite1
    | apply Same.ite2
    | extract_lets
    | split
    | dsimp -zeta only
    | dsimp +zetaDelta only

theorem execLogClr_runs (p : Path) (s : State) : Runs 1 s (execLogClr p s) := by
  unfold execLogClr
  repeat' with_reducible first
    | apply Runs.next
    | exact Same.refl _
    | apply Same.step (m := 1) (by decide) (State.write_same ..)
    | apply Same.trans _ (foldl_same _ _ _ (fun _ _ => ?_))
    | apply Same.trans _ (foldl_same1 _ _ _ (fun _ _ => ?_))
    | apply Same.ite
    | apply Same.ite1
    | apply Same.ite2
    | extract_lets
    | split
    | dsimp -zeta only
    | dsimp +zetaDelta only

theorem execDrainMaxReset_runs (p : Path) (s : State) : Runs 1 s (execDrainMaxReset p s) := by
  unfold execDrainMaxReset
  repeat' with_reducible first
    | apply Runs.next
    | exact Same.refl _
    | apply Same.step (m := 1) (by decide) (State.write_same ..)
    | apply Same.trans _ (foldl_same _ _ _ (fun _ _ => ?_))
    | apply Same.trans _ (foldl_same1 _ _ _ (fun _ _ => ?_))
    | apply Same.ite
    | apply Same.ite1
    | apply Same.ite2
    | extract_lets
    | split
    | dsimp -zeta only
    | dsimp +zetaDelta only

end Sys2Proof.Machine
end

