-- ==== Sys2Proof/Laws/RunsPortCmd.lean ====
section
/-! SUPPORT. What each command of Machine/PortCmd.lean may change when it runs, as it always does. -/

set_option linter.all false

namespace Sys2Proof.Machine

theorem execHpLinkUp_runs (h : Fin 32) (rate : Fin 8) (width : Fin 8) (caps : LinkCaps) (s : State) : Runs 50329585 s (execHpLinkUp h rate width caps s) := by
  unfold execHpLinkUp
  repeat' with_reducible first
    | apply Runs.next
    | exact Same.refl _
    | apply Same.step (m := 50329585) (by decide) (State.hpUp_same ..)
    | apply Same.trans _ (foldl_same _ _ _ (fun _ _ => ?_))
    | apply Same.trans _ (foldl_same1 _ _ _ (fun _ _ => ?_))
    | apply Same.ite
    | apply Same.ite1
    | apply Same.ite2
    | extract_lets
    | split
    | dsimp -zeta only
    | dsimp +zetaDelta only

theorem execHpLinkDown_runs (h : Fin 32) (s : State) : Runs 49701221 s (execHpLinkDown h s) := by
  unfold execHpLinkDown
  repeat' with_reducible first
    | apply Runs.next
    | exact Same.refl _
    | apply Same.step (m := 49701221) (by decide) (State.hpDown_same ..)
    | apply Same.trans _ (foldl_same _ _ _ (fun _ _ => ?_))
    | apply Same.trans _ (foldl_same1 _ _ _ (fun _ _ => ?_))
    | apply Same.ite
    | apply Same.ite1
    | apply Same.ite2
    | extract_lets
    | split
    | dsimp -zeta only
    | dsimp +zetaDelta only

theorem execHpDisable_runs (p : Path) (h : Fin 32) (s : State) : Runs 1 s (execHpDisable p h s) := by
  unfold execHpDisable
  repeat' with_reducible first
    | apply Runs.next
    | exact Same.refl _
    | apply Same.step (m := 1) (by decide) (State.write_same ..)
    | apply Same.trans _ (foldl_same _ _ _ (fun _ _ => ?_))
    | apply Same.trans _ (foldl_same1 _ _ _ (fun _ _ => ?_))
    | apply Same.ite
    | apply Same.ite1
    | apply Same.ite2
    | extract_lets
    | split
    | dsimp -zeta only
    | dsimp +zetaDelta only

theorem execHpRetrain_runs (p : Path) (h : Fin 32) (s : State) : Runs 1 s (execHpRetrain p h s) := by
  unfold execHpRetrain
  repeat' with_reducible first
    | apply Runs.next
    | exact Same.refl _
    | apply Same.step (m := 1) (by decide) (State.write_same ..)
    | apply Same.trans _ (foldl_same _ _ _ (fun _ _ => ?_))
    | apply Same.trans _ (foldl_same1 _ _ _ (fun _ _ => ?_))
    | apply Same.ite
    | apply Same.ite1
    | apply Same.ite2
    | extract_lets
    | split
    | dsimp -zeta only
    | dsimp +zetaDelta only

theorem execMpLinkUp_runs (m : Fin 16) (rate : Fin 8) (width : Fin 16) (caps : LinkCaps) (dev : MpDevice) (s : State) : Runs 49701233 s (execMpLinkUp m rate width caps dev s) := by
  unfold execMpLinkUp
  repeat' with_reducible first
    | apply Runs.next
    | exact Same.refl _
    | apply Same.step (m := 49701233) (by decide) (State.mpUp_same ..)
    | apply Same.trans _ (foldl_same _ _ _ (fun _ _ => ?_))
    | apply Same.trans _ (foldl_same1 _ _ _ (fun _ _ => ?_))
    | apply Same.ite
    | apply Same.ite1
    | apply Same.ite2
    | extract_lets
    | split
    | dsimp -zeta only
    | dsimp +zetaDelta only

theorem execMpLinkDown_runs (m : Fin 16) (s : State) : Runs 49701237 s (execMpLinkDown m s) := by
  unfold execMpLinkDown
  repeat' with_reducible first
    | apply Runs.next
    | exact Same.refl _
    | apply Same.step (m := 49701237) (by decide) (State.mpDown_same ..)
    | apply Same.trans _ (foldl_same _ _ _ (fun _ _ => ?_))
    | apply Same.trans _ (foldl_same1 _ _ _ (fun _ _ => ?_))
    | apply Same.ite
    | apply Same.ite1
    | apply Same.ite2
    | extract_lets
    | split
    | dsimp -zeta only
    | dsimp +zetaDelta only

theorem execMpRetrain_runs (p : Path) (m : Fin 16) (s : State) : Runs 1 s (execMpRetrain p m s) := by
  unfold execMpRetrain
  repeat' with_reducible first
    | apply Runs.next
    | exact Same.refl _
    | apply Same.step (m := 1) (by decide) (State.write_same ..)
    | apply Same.trans _ (foldl_same _ _ _ (fun _ _ => ?_))
    | apply Same.trans _ (foldl_same1 _ _ _ (fun _ _ => ?_))
    | apply Same.ite
    | apply Same.ite1
    | apply Same.ite2
    | extract_lets
    | split
    | dsimp -zeta only
    | dsimp +zetaDelta only

theorem execLtrMessage_runs (port : Fin 48) (value : PartnerSays) (s : State) : Runs 50325493 s (execLtrMessage port value s) := by
  unfold execLtrMessage
  repeat' with_reducible first
    | apply Runs.next
    | exact Same.refl _
    | apply Same.step (m := 67106815) (by decide) (State.setPartner_same ..)
    | apply Same.step (m := 50327541) (by decide) (State.selectState_same ..)
    | apply Same.step (m := 50327541) (by decide) (State.ltr_same ..)
    | apply Same.step (m := 67108861) (by decide) (State.set_same ..)
    | apply Same.trans _ (foldl_same _ _ _ (fun _ _ => ?_))
    | apply Same.trans _ (foldl_same1 _ _ _ (fun _ _ => ?_))
    | apply Same.ite
    | apply Same.ite1
    | apply Same.ite2
    | extract_lets
    | split
    | dsimp -zeta only
    | dsimp +zetaDelta only

theorem execLinkStateExit_runs (port : Fin 64) (s : State) : Runs 67104757 s (execLinkStateExit port s) := by
  unfold execLinkStateExit
  repeat' with_reducible first
    | apply Runs.next
    | exact Same.refl _
    | apply Same.step (m := 67104765) (by decide) (State.exitLink_same ..)
    | apply Same.step (m := 67104757) (by decide) (State.dockExit_same ..)
    | apply Same.trans _ (foldl_same _ _ _ (fun _ _ => ?_))
    | apply Same.trans _ (foldl_same1 _ _ _ (fun _ _ => ?_))
    | apply Same.ite
    | apply Same.ite1
    | apply Same.ite2
    | extract_lets
    | split
    | dsimp -zeta only
    | dsimp +zetaDelta only

theorem execDlatMeasUpdate_runs (port : Fin 48) (rtt : BitVec 16) (s : State) : Runs 50327541 s (execDlatMeasUpdate port rtt s) := by
  unfold execDlatMeasUpdate
  repeat' with_reducible first
    | apply Runs.next
    | exact Same.refl _
    | apply Same.step (m := 67108861) (by decide) (State.set_same ..)
    | apply Same.step (m := 50327541) (by decide) (State.selectState_same ..)
    | apply Same.trans _ (foldl_same _ _ _ (fun _ _ => ?_))
    | apply Same.trans _ (foldl_same1 _ _ _ (fun _ _ => ?_))
    | apply Same.ite
    | apply Same.ite1
    | apply Same.ite2
    | extract_lets
    | split
    | dsimp -zeta only
    | dsimp +zetaDelta only

theorem execBind_runs (h : Fin 32) (seq : Word) (host : BitVec 8) (vdsp : BitVec 8) (src : BitVec 8) (id : BitVec 16) (poolBase : Word) (poolSize : Word) (poolDev : Word) (s : State) : Runs 67102709 s (execBind h seq host vdsp src id poolBase poolSize poolDev s) := by
  unfold execBind
  repeat' with_reducible first
    | apply Runs.next
    | exact Same.refl _
    | apply Same.step (m := 67102709) (by decide) (State.bindStart_same ..)
    | apply Same.trans _ (foldl_same _ _ _ (fun _ _ => ?_))
    | apply Same.trans _ (foldl_same1 _ _ _ (fun _ _ => ?_))
    | apply Same.ite
    | apply Same.ite1
    | apply Same.ite2
    | extract_lets
    | split
    | dsimp -zeta only
    | dsimp +zetaDelta only

theorem execUnbind_runs (h : Fin 32) (seq : Word) (host vdsp slot : BitVec 8) (gen : BitVec 4) (force : Bool) (s : State) : Runs 67105269 s (execUnbind h seq host vdsp slot gen force s) := by
  unfold execUnbind
  repeat' with_reducible first
    | apply Runs.next
    | exact Same.refl _
    | apply Same.step (m := 67105269) (by decide) (State.unbind_same ..)
    | apply Same.trans _ (foldl_same _ _ _ (fun _ _ => ?_))
    | apply Same.trans _ (foldl_same1 _ _ _ (fun _ _ => ?_))
    | apply Same.ite
    | apply Same.ite1
    | apply Same.ite2
    | extract_lets
    | split
    | dsimp -zeta only
    | dsimp +zetaDelta only

theorem execPowerControllerOff_runs (h : Fin 32) (d : Fin 16) (s : State) : Runs 67105269 s (execPowerControllerOff h d s) := by
  unfold execPowerControllerOff
  repeat' with_reducible first
    | apply Runs.next
    | exact Same.refl _
    | apply Same.step (m := 67105269) (by decide) (State.removeFn_same ..)
    | apply Same.trans _ (foldl_same _ _ _ (fun _ _ => ?_))
    | apply Same.trans _ (foldl_same1 _ _ _ (fun _ _ => ?_))
    | apply Same.ite
    | apply Same.ite1
    | apply Same.ite2
    | extract_lets
    | split
    | dsimp -zeta only
    | dsimp +zetaDelta only

theorem execUnbindGrace_runs (h : Fin 32) (d : Fin 16) (s : State) : Runs 67105269 s (execUnbindGrace h d s) := by
  unfold execUnbindGrace
  repeat' with_reducible first
    | apply Runs.next
    | exact Same.refl _
    | apply Same.step (m := 67105269) (by decide) (State.removeFn_same ..)
    | apply Same.trans _ (foldl_same _ _ _ (fun _ _ => ?_))
    | apply Same.trans _ (foldl_same1 _ _ _ (fun _ _ => ?_))
    | apply Same.ite
    | apply Same.ite1
    | apply Same.ite2
    | extract_lets
    | split
    | dsimp -zeta only
    | dsimp +zetaDelta only

theorem execWriteFence_runs (h : Fin 32) (seq : Word) (init : BitVec 16) (target : BitVec 8) (s : State) : Runs 67106805 s (execWriteFence h seq init target s) := by
  unfold execWriteFence
  repeat' with_reducible first
    | apply Runs.next
    | exact Same.refl _
    | apply Same.step (m := 67106805) (by decide) (State.writeFence_same ..)
    | apply Same.trans _ (foldl_same _ _ _ (fun _ _ => ?_))
    | apply Same.trans _ (foldl_same1 _ _ _ (fun _ _ => ?_))
    | apply Same.ite
    | apply Same.ite1
    | apply Same.ite2
    | extract_lets
    | split
    | dsimp -zeta only
    | dsimp +zetaDelta only

theorem execFenceComplete_runs (h : Fin 32) (seq : Word) (s : State) : Runs 67106805 s (execFenceComplete h seq s) := by
  unfold execFenceComplete
  repeat' with_reducible first
    | apply Runs.next
    | exact Same.refl _
    | apply Same.step (m := 67106805) (by decide) (State.fenceDone_same ..)
    | apply Same.trans _ (foldl_same _ _ _ (fun _ _ => ?_))
    | apply Same.trans _ (foldl_same1 _ _ _ (fun _ _ => ?_))
    | apply Same.ite
    | apply Same.ite1
    | apply Same.ite2
    | extract_lets
    | split
    | dsimp -zeta only
    | dsimp +zetaDelta only

theorem execTargetError_runs (init : BitVec 9) (seq : Word) (target : TargetLog) (s : State) : Runs 67106293 s (execTargetError init seq target s) := by
  unfold execTargetError
  repeat' with_reducible first
    | apply Runs.next
    | exact Same.refl _
    | apply Same.step (m := 67106815) (by decide) (State.mapPort_same ..)
    | apply Same.step (m := 67108351) (by decide) (State.mapPool_same ..)
    | apply Same.step (m := 67106805) (by decide) (State.dropWrite_same ..)
    | apply Same.trans _ (foldl_same _ _ _ (fun _ _ => ?_))
    | apply Same.trans _ (foldl_same1 _ _ _ (fun _ _ => ?_))
    | apply Same.ite
    | apply Same.ite1
    | apply Same.ite2
    | extract_lets
    | split
    | dsimp -zeta only
    | dsimp +zetaDelta only

theorem execHostFunctionRequest_runs (h : Fin 32) (d : Fin 16) (tag : BitVec 16) (posted : Bool) (st : FnReq) (s : State) : Runs 50063221 s (execHostFunctionRequest h d tag posted st s) := by
  unfold execHostFunctionRequest
  repeat' with_reducible first
    | apply Runs.next
    | exact Same.refl _
    | apply Same.step (m := 50063221) (by decide) (State.fnReq_same ..)
    | apply Same.trans _ (foldl_same _ _ _ (fun _ _ => ?_))
    | apply Same.trans _ (foldl_same1 _ _ _ (fun _ _ => ?_))
    | apply Same.ite
    | apply Same.ite1
    | apply Same.ite2
    | extract_lets
    | split
    | dsimp -zeta only
    | dsimp +zetaDelta only

end Sys2Proof.Machine
end

