-- ==== Sys2Proof/Laws/RunsScanCmd.lean ====
section
/-! SUPPORT. What each command of Machine/ScanCmd.lean may change when it runs, as it always does. -/

set_option linter.all false

namespace Sys2Proof.Machine

theorem execFrameTrigger_runs (n : Fin 8) (s : State) : Runs 67076093 s (execFrameTrigger n s) := by
  unfold execFrameTrigger
  repeat' with_reducible first
    | apply Runs.next
    | exact Same.refl _
    | apply Same.step (m := 67076095) (by decide) (State.soNext_same ..)
    | apply Same.step (m := 67076093) (by decide) (State.soTrigger_same ..)
    | apply Same.trans _ (foldl_same _ _ _ (fun _ _ => ?_))
    | apply Same.trans _ (foldl_same1 _ _ _ (fun _ _ => ?_))
    | apply Same.ite
    | apply Same.ite1
    | apply Same.ite2
    | extract_lets
    | split
    | dsimp -zeta only
    | dsimp +zetaDelta only

theorem execFrameStart_runs (n : Fin 8) (s : State) : Runs 1 s (execFrameStart n s) := by
  unfold execFrameStart
  repeat' with_reducible first
    | apply Runs.next
    | exact Same.refl _
    | apply Same.step (m := 49835893) (by decide) (State.soDrain_same ..)
    | apply Same.step (m := 49832305) (by decide) (State.soStart_same ..)
    | apply Same.step (m := 1) (by decide) (State.settled_same ..)
    | apply Same.step (m := 67108847) (by decide) (State.atFrame_same ..)
    | apply Same.step (m := 67108853) (by decide) (State.soBegin_same ..)
    | apply Same.trans _ (foldl_same _ _ _ (fun _ _ => ?_))
    | apply Same.trans _ (foldl_same1 _ _ _ (fun _ _ => ?_))
    | apply Same.ite
    | apply Same.ite1
    | apply Same.ite2
    | extract_lets
    | split
    | dsimp -zeta only
    | dsimp +zetaDelta only

theorem execLineHandover_runs (n : Fin 8) (s : State) : Runs 49832309 s (execLineHandover n s) := by
  unfold execLineHandover
  repeat' with_reducible first
    | apply Runs.next
    | exact Same.refl _
    | apply Same.step (m := 49832309) (by decide) (State.soLine_same ..)
    | apply Same.trans _ (foldl_same _ _ _ (fun _ _ => ?_))
    | apply Same.trans _ (foldl_same1 _ _ _ (fun _ _ => ?_))
    | apply Same.ite
    | apply Same.ite1
    | apply Same.ite2
    | extract_lets
    | split
    | dsimp -zeta only
    | dsimp +zetaDelta only

theorem execFetchError_runs (n : Fin 8) (l : Fin 4) (guard : Bool) (s : State) : Runs 67076085 s (execFetchError n l guard s) := by
  unfold execFetchError
  repeat' with_reducible first
    | apply Runs.next
    | exact Same.refl _
    | apply Same.step (m := 67076085) (by decide) (State.scanError_same ..)
    | apply Same.trans _ (foldl_same _ _ _ (fun _ _ => ?_))
    | apply Same.trans _ (foldl_same1 _ _ _ (fun _ _ => ?_))
    | apply Same.ite
    | apply Same.ite1
    | apply Same.ite2
    | extract_lets
    | split
    | dsimp -zeta only
    | dsimp +zetaDelta only

theorem execSoEnable_runs (p : Path) (n : Fin 8) (s : State) : Runs 1 s (execSoEnable p n s) := by
  unfold execSoEnable
  repeat' with_reducible first
    | apply Runs.next
    | exact Same.refl _
    | apply Same.step (m := 1) (by decide) (State.write_same ..)
    | apply Same.trans _ (foldl_same _ _ _ (fun _ _ => ?_))
    | apply Same.trans _ (foldl_same1 _ _ _ (fun _ _ => ?_))
    | apply Same.ite
    | apply Same.ite1
    | apply Same.ite2
    | extract_lets
    | split
    | dsimp -zeta only
    | dsimp +zetaDelta only

theorem execSoDisable_runs (p : Path) (n : Fin 8) (s : State) : Runs 1 s (execSoDisable p n s) := by
  unfold execSoDisable
  repeat' with_reducible first
    | apply Runs.next
    | exact Same.refl _
    | apply Same.step (m := 1) (by decide) (State.write_same ..)
    | apply Same.trans _ (foldl_same _ _ _ (fun _ _ => ?_))
    | apply Same.trans _ (foldl_same1 _ _ _ (fun _ _ => ?_))
    | apply Same.ite
    | apply Same.ite1
    | apply Same.ite2
    | extract_lets
    | split
    | dsimp -zeta only
    | dsimp +zetaDelta only

theorem execDirty_runs (p : Path) (n : Fin 8) (s : State) : Runs 1 s (execDirty p n s) := by
  unfold execDirty
  repeat' with_reducible first
    | apply Runs.next
    | exact Same.refl _
    | apply Same.step (m := 1) (by decide) (State.write_same ..)
    | apply Same.trans _ (foldl_same _ _ _ (fun _ _ => ?_))
    | apply Same.trans _ (foldl_same1 _ _ _ (fun _ _ => ?_))
    | apply Same.ite
    | apply Same.ite1
    | apply Same.ite2
    | extract_lets
    | split
    | dsimp -zeta only
    | dsimp +zetaDelta only

end Sys2Proof.Machine
end

