-- ==== Sys2Proof/Laws/RunsSchedCmd.lean ====
section
/-! SUPPORT. What each command of Machine/SchedCmd.lean may change when it runs, as it always does. -/

set_option linter.all false

namespace Sys2Proof.Machine

theorem execChurnMatch_runs (s : State) : Runs 49868657 s (execChurnMatch s) := by
  unfold execChurnMatch
  repeat' with_reducible first
    | apply Runs.next
    | exact Same.refl _
    | apply Same.step (m := 67104757) (by decide) (State.wakeDocks_same ..)
    | apply Same.step (m := 67108729) (by decide) (State.churn_same ..)
    | apply Same.step (m := 49868661) (by decide) (State.sigDrain_same ..)
    | apply Same.trans _ (foldl_same _ _ _ (fun _ _ => ?_))
    | apply Same.trans _ (foldl_same1 _ _ _ (fun _ _ => ?_))
    | apply Same.ite
    | apply Same.ite1
    | apply Same.ite2
    | extract_lets
    | split
    | dsimp -zeta only
    | dsimp +zetaDelta only

theorem execCellAtOutput_runs (id : Nat) (crcOk : Bool) (s : State) : Runs 16269685 s (execCellAtOutput id crcOk s) := by
  unfold execCellAtOutput
  repeat' with_reducible first
    | apply Runs.next
    | exact Same.refl _
    | apply Same.step (m := 16269685) (by decide) (State.atOutput_same ..)
    | apply Same.trans _ (foldl_same _ _ _ (fun _ _ => ?_))
    | apply Same.trans _ (foldl_same1 _ _ _ (fun _ _ => ?_))
    | apply Same.ite
    | apply Same.ite1
    | apply Same.ite2
    | extract_lets
    | split
    | dsimp -zeta only
    | dsimp +zetaDelta only

theorem execCumulativeAck_runs (st : StreamId) (seq : BitVec 16) (s : State) : Runs 67043189 s (execCumulativeAck st seq s) := by
  unfold execCumulativeAck
  repeat' with_reducible first
    | apply Runs.next
    | exact Same.refl _
    | apply Same.step (m := 67043189) (by decide) (State.acked_same ..)
    | apply Same.trans _ (foldl_same _ _ _ (fun _ _ => ?_))
    | apply Same.trans _ (foldl_same1 _ _ _ (fun _ _ => ?_))
    | apply Same.ite
    | apply Same.ite1
    | apply Same.ite2
    | extract_lets
    | split
    | dsimp -zeta only
    | dsimp +zetaDelta only

theorem execStreamNak_runs (st : StreamId) (s : State) : Runs 67100533 s (execStreamNak st s) := by
  unfold execStreamNak
  repeat' with_reducible first
    | apply Runs.next
    | exact Same.refl _
    | apply Same.step (m := 67100533) (by decide) (State.replayJudged_same ..)
    | apply Same.trans _ (foldl_same _ _ _ (fun _ _ => ?_))
    | apply Same.trans _ (foldl_same1 _ _ _ (fun _ _ => ?_))
    | apply Same.ite
    | apply Same.ite1
    | apply Same.ite2
    | extract_lets
    | split
    | dsimp -zeta only
    | dsimp +zetaDelta only

theorem execAckTimeout_runs (st : StreamId) (s : State) : Runs 67100533 s (execAckTimeout st s) := by
  unfold execAckTimeout
  repeat' with_reducible first
    | apply Runs.next
    | exact Same.refl _
    | apply Same.step (m := 67100533) (by decide) (State.replayJudged_same ..)
    | apply Same.trans _ (foldl_same _ _ _ (fun _ _ => ?_))
    | apply Same.trans _ (foldl_same1 _ _ _ (fun _ _ => ?_))
    | apply Same.ite
    | apply Same.ite1
    | apply Same.ite2
    | extract_lets
    | split
    | dsimp -zeta only
    | dsimp +zetaDelta only

theorem execCheckCell_runs (plane : Fin 3) (inp : Fin 72) (out : Fin 72) (crcOk : Bool) (s : State) : Runs 67100533 s (execCheckCell plane inp out crcOk s) := by
  unfold execCheckCell
  repeat' with_reducible first
    | apply Runs.next
    | exact Same.refl _
    | apply Same.step (m := 67108735) (by decide) (State.pairUsed_same ..)
    | apply Same.step (m := 67100533) (by decide) (State.crcFailure_same ..)
    | apply Same.trans _ (foldl_same _ _ _ (fun _ _ => ?_))
    | apply Same.trans _ (foldl_same1 _ _ _ (fun _ _ => ?_))
    | apply Same.ite
    | apply Same.ite1
    | apply Same.ite2
    | extract_lets
    | split
    | dsimp -zeta only
    | dsimp +zetaDelta only

theorem execPlaneFail_runs (plane : Fin 3) (s : State) : Runs 67100533 s (execPlaneFail plane s) := by
  unfold execPlaneFail
  repeat' with_reducible first
    | apply Runs.next
    | exact Same.refl _
    | apply Same.step (m := 67100533) (by decide) (State.planeFail_same ..)
    | apply Same.trans _ (foldl_same _ _ _ (fun _ _ => ?_))
    | apply Same.trans _ (foldl_same1 _ _ _ (fun _ _ => ?_))
    | apply Same.ite
    | apply Same.ite1
    | apply Same.ite2
    | extract_lets
    | split
    | dsimp -zeta only
    | dsimp +zetaDelta only

theorem execPlaneForce_runs (p : Path) (plane : Fin 3) (s : State) : Runs 66838305 s (execPlaneForce p plane s) := by
  unfold execPlaneForce
  repeat' with_reducible first
    | apply Runs.next
    | exact Same.refl _
    | apply Same.trans _ (State.writeVia_same (K := 66838305) (by decide) _ _ _ _ _ _ (fun _ => ?_))
    | apply Same.step (m := 67100533) (by decide) (State.planeCmd_same ..)
    | apply Same.step (m := 67108857) (by decide) (State.storeAt_same ..)
    | apply Same.trans _ (foldl_same _ _ _ (fun _ _ => ?_))
    | apply Same.trans _ (foldl_same1 _ _ _ (fun _ _ => ?_))
    | apply Same.ite
    | apply Same.ite1
    | apply Same.ite2
    | extract_lets
    | split
    | dsimp -zeta only
    | dsimp +zetaDelta only

theorem execFailoverComplete_runs (s : State) : Runs 67108725 s (execFailoverComplete s) := by
  unfold execFailoverComplete
  repeat' with_reducible first
    | apply Runs.next
    | exact Same.refl _
    | apply Same.step (m := 67108861) (by decide) (State.put_same ..)
    | apply Same.step (m := 67108861) (by decide) (State.wrap_same ..)
    | apply Same.step (m := 67108861) (by decide) (State.set_same ..)
    | apply Same.step (m := 67108855) (by decide) (State.raise_same ..)
    | apply Same.trans _ (foldl_same _ _ _ (fun _ _ => ?_))
    | apply Same.trans _ (foldl_same1 _ _ _ (fun _ _ => ?_))
    | apply Same.ite
    | apply Same.ite1
    | apply Same.ite2
    | extract_lets
    | split
    | dsimp -zeta only
    | dsimp +zetaDelta only
    | apply Same.with_regs (by decide)
    | apply Same.with_sig (by decide)
    | apply Same.with_sw (by decide)

theorem execBankRetire_runs (bank : Fin 50) (fault : BankFault) (bad : List Nat) (lost : List Nat) (s : State) : Runs 50253685 s (execBankRetire bank fault bad lost s) := by
  unfold execBankRetire
  repeat' with_reducible first
    | apply Runs.next
    | exact Same.refl _
    | apply Same.step (m := 50253685) (by decide) (State.retireBank_same ..)
    | apply Same.trans _ (foldl_same _ _ _ (fun _ _ => ?_))
    | apply Same.trans _ (foldl_same1 _ _ _ (fun _ _ => ?_))
    | apply Same.ite
    | apply Same.ite1
    | apply Same.ite2
    | extract_lets
    | split
    | dsimp -zeta only
    | dsimp +zetaDelta only

theorem execBankCopyComplete_runs (bank : Fin 50) (s : State) : Runs 67108725 s (execBankCopyComplete bank s) := by
  unfold execBankCopyComplete
  repeat' with_reducible first
    | apply Runs.next
    | exact Same.refl _
    | apply Same.step (m := 67108735) (by decide) (State.endCopy_same ..)
    | apply Same.step (m := 67108855) (by decide) (State.raise_same ..)
    | apply Same.step (m := 67108861) (by decide) (State.setBank_same ..)
    | apply Same.trans _ (foldl_same _ _ _ (fun _ _ => ?_))
    | apply Same.trans _ (foldl_same1 _ _ _ (fun _ _ => ?_))
    | apply Same.ite
    | apply Same.ite1
    | apply Same.ite2
    | extract_lets
    | split
    | dsimp -zeta only
    | dsimp +zetaDelta only

theorem execHoldRelease_runs (id : Nat) (s : State) : Runs 50130805 s (execHoldRelease id s) := by
  unfold execHoldRelease
  repeat' with_reducible first
    | apply Runs.next
    | exact Same.refl _
    | apply Same.step (m := 50130805) (by decide) (State.releaseDue_same ..)
    | apply Same.trans _ (foldl_same _ _ _ (fun _ _ => ?_))
    | apply Same.trans _ (foldl_same1 _ _ _ (fun _ _ => ?_))
    | apply Same.ite
    | apply Same.ite1
    | apply Same.ite2
    | extract_lets
    | split
    | dsimp -zeta only
    | dsimp +zetaDelta only

theorem execHoldAgeExpiry_runs (id : Nat) (s : State) : Runs 49868661 s (execHoldAgeExpiry id s) := by
  unfold execHoldAgeExpiry
  repeat' with_reducible first
    | apply Runs.next
    | exact Same.refl _
    | apply Same.step (m := 50130805) (by decide) (State.releaseDue_same ..)
    | apply Same.step (m := 49868661) (by decide) (State.expire_same ..)
    | apply Same.trans _ (foldl_same _ _ _ (fun _ _ => ?_))
    | apply Same.trans _ (foldl_same1 _ _ _ (fun _ _ => ?_))
    | apply Same.ite
    | apply Same.ite1
    | apply Same.ite2
    | extract_lets
    | split
    | dsimp -zeta only
    | dsimp +zetaDelta only

theorem execHoldPeakReset_runs (p : Path) (s : State) : Runs 66846625 s (execHoldPeakReset p s) := by
  unfold execHoldPeakReset
  repeat' with_reducible first
    | apply Runs.next
    | exact Same.refl _
    | apply Same.trans _ (State.writeVia_same (K := 66846625) (by decide) _ _ _ _ _ _ (fun _ => ?_))
    | apply Same.step (m := 67108861) (by decide) (State.holdPeakReset_same ..)
    | apply Same.step (m := 67108861) (by decide) (State.bump_same ..)
    | apply Same.trans _ (foldl_same _ _ _ (fun _ _ => ?_))
    | apply Same.trans _ (foldl_same1 _ _ _ (fun _ _ => ?_))
    | apply Same.ite
    | apply Same.ite1
    | apply Same.ite2
    | extract_lets
    | split
    | dsimp -zeta only
    | dsimp +zetaDelta only

theorem execHtResultRead_runs (p : Path) (s : State) : Runs 50327493 s (execHtResultRead p s) := by
  unfold execHtResultRead
  repeat' with_reducible first
    | apply Runs.next
    | exact Same.refl _
    | apply Same.step (m := 50327493) (by decide) (State.readOut_same ..)
    | apply Same.trans _ (foldl_same _ _ _ (fun _ _ => ?_))
    | apply Same.trans _ (foldl_same1 _ _ _ (fun _ _ => ?_))
    | apply Same.ite
    | apply Same.ite1
    | apply Same.ite2
    | extract_lets
    | split
    | dsimp -zeta only
    | dsimp +zetaDelta only

theorem execShaperRefill_runs (sh : Fin 4096) (s : State) : Runs 67108729 s (execShaperRefill sh s) := by
  unfold execShaperRefill
  repeat' with_reducible first
    | apply Runs.next
    | exact Same.refl _
    | apply Same.step (m := 67108729) (by decide) (State.refill_same ..)
    | apply Same.trans _ (foldl_same _ _ _ (fun _ _ => ?_))
    | apply Same.trans _ (foldl_same1 _ _ _ (fun _ _ => ?_))
    | apply Same.ite
    | apply Same.ite1
    | apply Same.ite2
    | extract_lets
    | split
    | dsimp -zeta only
    | dsimp +zetaDelta only

theorem execShaperEnable_runs (p : Path) (value : Word) (s : State) : Runs 66846497 s (execShaperEnable p value s) := by
  unfold execShaperEnable
  repeat' with_reducible first
    | apply Runs.next
    | exact Same.refl _
    | apply Same.trans _ (State.writeVia_same (K := 66846497) (by decide) _ _ _ _ _ _ (fun _ => ?_))
    | apply Same.step (m := 67108733) (by decide) (State.shaperEn_same ..)
    | apply Same.step (m := 67108857) (by decide) (State.storeAt_same ..)
    | apply Same.trans _ (foldl_same _ _ _ (fun _ _ => ?_))
    | apply Same.trans _ (foldl_same1 _ _ _ (fun _ _ => ?_))
    | apply Same.ite
    | apply Same.ite1
    | apply Same.ite2
    | extract_lets
    | split
    | dsimp -zeta only
    | dsimp +zetaDelta only

theorem execCoarseSlot_runs (s : State) : Runs 50130789 s (execCoarseSlot s) := by
  unfold execCoarseSlot
  repeat' with_reducible first
    | apply Runs.next
    | exact Same.refl _
    | apply Same.step (m := 50130805) (by decide) (State.coarseCell_same ..)
    | apply Same.step (m := 67108847) (by decide) (State.setSlot_same ..)
    | apply Same.trans _ (foldl_same _ _ _ (fun _ _ => ?_))
    | apply Same.trans _ (foldl_same1 _ _ _ (fun _ _ => ?_))
    | apply Same.ite
    | apply Same.ite1
    | apply Same.ite2
    | extract_lets
    | split
    | dsimp -zeta only
    | dsimp +zetaDelta only
    | apply Same.with_regs (by decide)
    | apply Same.with_sig (by decide)
    | apply Same.with_slots (by decide)
    | apply Same.with_sw (by decide)
    | apply Same.with_br (by decide)
    | apply Same.with_engs (by decide)
    | apply Same.with_freeCtr (by decide)

theorem execAxwWidthWrite_runs (p : Path) (a : Fin 8) (width : Word) (s : State) : Runs 66846497 s (execAxwWidthWrite p a width s) := by
  unfold execAxwWidthWrite
  repeat' with_reducible first
    | apply Runs.next
    | exact Same.refl _
    | apply Same.trans _ (State.writeVia_same (K := 66846497) (by decide) _ _ _ _ _ _ (fun _ => ?_))
    | apply Same.step (m := 67108719) (by decide) (State.refileAxis_same ..)
    | apply Same.step (m := 67108857) (by decide) (State.storeAt_same ..)
    | apply Same.trans _ (foldl_same _ _ _ (fun _ _ => ?_))
    | apply Same.trans _ (foldl_same1 _ _ _ (fun _ _ => ?_))
    | apply Same.ite
    | apply Same.ite1
    | apply Same.ite2
    | extract_lets
    | split
    | dsimp -zeta only
    | dsimp +zetaDelta only

theorem execWheelPeakReset_runs (p : Path) (s : State) : Runs 66846625 s (execWheelPeakReset p s) := by
  unfold execWheelPeakReset
  repeat' with_reducible first
    | apply Runs.next
    | exact Same.refl _
    | apply Same.trans _ (State.writeVia_same (K := 66846625) (by decide) _ _ _ _ _ _ (fun _ => ?_))
    | apply Same.step (m := 67108861) (by decide) (State.wheelPeakReset_same ..)
    | apply Same.step (m := 67108861) (by decide) (State.bump_same ..)
    | apply Same.trans _ (foldl_same _ _ _ (fun _ _ => ?_))
    | apply Same.trans _ (foldl_same1 _ _ _ (fun _ _ => ?_))
    | apply Same.ite
    | apply Same.ite1
    | apply Same.ite2
    | extract_lets
    | split
    | dsimp -zeta only
    | dsimp +zetaDelta only

theorem execAtAxisFineSlot_runs (slot : Fin 8) (s : State) : Runs 1 s (execAtAxisFineSlot slot s) := by
  unfold execAtAxisFineSlot
  repeat' with_reducible first
    | apply Runs.next
    | exact Same.refl _
    | apply Same.step (m := 1) (by decide) (State.instantMet_same ..)
    | apply Same.trans _ (foldl_same _ _ _ (fun _ _ => ?_))
    | apply Same.trans _ (foldl_same1 _ _ _ (fun _ _ => ?_))
    | apply Same.ite
    | apply Same.ite1
    | apply Same.ite2
    | extract_lets
    | split
    | dsimp -zeta only
    | dsimp +zetaDelta only

theorem execGovernorWindow_runs (g : GovSample) (s : State) : Runs 50310901 s (execGovernorWindow g s) := by
  unfold execGovernorWindow
  repeat' with_reducible first
    | apply Runs.next
    | exact Same.refl _
    | apply Same.step (m := 50315261) (by decide) (State.latchWindow_same ..)
    | apply Same.step (m := 50327285) (by decide) (State.govWindow_same ..)
    | apply Same.trans _ (foldl_same _ _ _ (fun _ _ => ?_))
    | apply Same.trans _ (foldl_same1 _ _ _ (fun _ _ => ?_))
    | apply Same.ite
    | apply Same.ite1
    | apply Same.ite2
    | extract_lets
    | split
    | dsimp -zeta only
    | dsimp +zetaDelta only

theorem execLinkIdle_runs (port : Fin 64) (s : State) : Runs 50327541 s (execLinkIdle port s) := by
  unfold execLinkIdle
  repeat' with_reducible first
    | apply Runs.next
    | exact Same.refl _
    | apply Same.step (m := 50327541) (by decide) (State.selectState_same ..)
    | apply Same.step (m := 67108861) (by decide) (State.set_same ..)
    | apply Same.trans _ (foldl_same _ _ _ (fun _ _ => ?_))
    | apply Same.trans _ (foldl_same1 _ _ _ (fun _ _ => ?_))
    | apply Same.ite
    | apply Same.ite1
    | apply Same.ite2
    | extract_lets
    | split
    | dsimp -zeta only
    | dsimp +zetaDelta only

end Sys2Proof.Machine
end

