-- ==== Sys2Proof/Laws/RunsTimeCmd.lean ====
section
/-! SUPPORT. What each command of Machine/TimeCmd.lean may change when it runs, as it always does. -/

set_option linter.all false

namespace Sys2Proof.Machine

theorem execStepGo_runs (p : Path) (s : State) : Runs 1 s (execStepGo p s) := by
  unfold execStepGo
  repeat' with_reducible first
    | apply Runs.next
    | exact Same.refl _
    | apply Same.trans _ (State.writeVia_same (K := 1) (by decide) _ _ _ _ _ _ (fun _ => ?_))
    | apply Same.step (m := 1) (by decide) (State.settled_same ..)
    | apply Same.step (m := 67076093) (by decide) (State.stepScan_same ..)
    | apply Same.step (m := 50130725) (by decide) (State.stepGo_same ..)
    | apply Same.step (m := 67108861) (by decide) (State.bump_same ..)
    | apply Same.trans _ (foldl_same _ _ _ (fun _ _ => ?_))
    | apply Same.trans _ (foldl_same1 _ _ _ (fun _ _ => ?_))
    | apply Same.ite
    | apply Same.ite1
    | apply Same.ite2
    | extract_lets
    | split
    | dsimp -zeta only
    | dsimp +zetaDelta only

theorem execSlewComplete_runs (s : State) : Runs 67108853 s (execSlewComplete s) := by
  unfold execSlewComplete
  repeat' with_reducible first
    | apply Runs.next
    | exact Same.refl _
    | apply Same.step (m := 67108855) (by decide) (State.raise_same ..)
    | apply Same.step (m := 67108861) (by decide) (State.showSlew_same ..)
    | apply Same.trans _ (foldl_same _ _ _ (fun _ _ => ?_))
    | apply Same.trans _ (foldl_same1 _ _ _ (fun _ _ => ?_))
    | apply Same.ite
    | apply Same.ite1
    | apply Same.ite2
    | extract_lets
    | split
    | dsimp -zeta only
    | dsimp +zetaDelta only

theorem execPtpMessage_runs (port : Fin 48) (m : PtpIn) (s : State) : Runs 67108789 s (execPtpMessage port m s) := by
  unfold execPtpMessage
  repeat' with_reducible first
    | apply Runs.next
    | exact Same.refl _
    | apply Same.step (m := 67108789) (by decide) (State.ptpMsg_same ..)
    | apply Same.trans _ (foldl_same _ _ _ (fun _ _ => ?_))
    | apply Same.trans _ (foldl_same1 _ _ _ (fun _ _ => ?_))
    | apply Same.ite
    | apply Same.ite1
    | apply Same.ite2
    | extract_lets
    | split
    | dsimp -zeta only
    | dsimp +zetaDelta only

theorem execPtpMessageInterval_runs (port : Fin 48) (m : PtpOut) (s : State) : Runs 67108789 s (execPtpMessageInterval port m s) := by
  unfold execPtpMessageInterval
  repeat' with_reducible first
    | apply Runs.next
    | exact Same.refl _
    | apply Same.step (m := 67108789) (by decide) (State.ptpSend_same ..)
    | apply Same.trans _ (foldl_same _ _ _ (fun _ _ => ?_))
    | apply Same.trans _ (foldl_same1 _ _ _ (fun _ _ => ?_))
    | apply Same.ite
    | apply Same.ite1
    | apply Same.ite2
    | extract_lets
    | split
    | dsimp -zeta only
    | dsimp +zetaDelta only

theorem execPtmDialogue_runs (e : PtmEnd) (hostTime : BitVec 64) (s : State) : Runs 67108853 s (execPtmDialogue e hostTime s) := by
  unfold execPtmDialogue
  repeat' with_reducible first
    | apply Runs.next
    | exact Same.refl _
    | apply Same.step (m := 67108853) (by decide) (State.ptmHost_same ..)
    | apply Same.step (m := 67108855) (by decide) (State.ptmAnswer_same ..)
    | apply Same.trans _ (foldl_same _ _ _ (fun _ _ => ?_))
    | apply Same.trans _ (foldl_same1 _ _ _ (fun _ _ => ?_))
    | apply Same.ite
    | apply Same.ite1
    | apply Same.ite2
    | extract_lets
    | split
    | dsimp -zeta only
    | dsimp +zetaDelta only

theorem execAxisTransition_runs (a : Fin 8) (la lb : Bool) (s : State) : Runs 1 s (execAxisTransition a la lb s) := by
  unfold execAxisTransition
  repeat' with_reducible first
    | apply Runs.next
    | exact Same.refl _
    | apply Same.step (m := 1) (by decide) (State.settled_same ..)
    | apply Same.step (m := 50130725) (by decide) (State.quadrature_same ..)
    | apply Same.trans _ (foldl_same _ _ _ (fun _ _ => ?_))
    | apply Same.trans _ (foldl_same1 _ _ _ (fun _ _ => ?_))
    | apply Same.ite
    | apply Same.ite1
    | apply Same.ite2
    | extract_lets
    | split
    | dsimp -zeta only
    | dsimp +zetaDelta only

theorem execSwDelta_runs (p : Path) (a : Fin 8) (delta : Word) (s : State) : Runs 1 s (execSwDelta p a delta s) := by
  unfold execSwDelta
  repeat' with_reducible first
    | apply Runs.next
    | exact Same.refl _
    | apply Same.trans _ (State.writeVia_same (K := 1) (by decide) _ _ _ _ _ _ (fun _ => ?_))
    | apply Same.step (m := 1) (by decide) (State.settled_same ..)
    | apply Same.step (m := 50130725) (by decide) (State.swDelta_same ..)
    | apply Same.trans _ (foldl_same _ _ _ (fun _ _ => ?_))
    | apply Same.trans _ (foldl_same1 _ _ _ (fun _ _ => ?_))
    | apply Same.ite
    | apply Same.ite1
    | apply Same.ite2
    | extract_lets
    | split
    | dsimp -zeta only
    | dsimp +zetaDelta only

theorem execZPulse_runs (z : ZLevel) (s : State) : Runs 1 s (execZPulse z s) := by
  unfold execZPulse
  repeat' with_reducible first
    | apply Runs.next
    | exact Same.refl _
    | apply Same.step (m := 67108861) (by decide) (State.showLevels_same ..)
    | apply Same.step (m := 67108799) (by decide) (State.setAxis_same ..)
    | apply Same.step (m := 1) (by decide) (State.settled_same ..)
    | apply Same.step (m := 50130725) (by decide) (State.zPulse_same ..)
    | apply Same.trans _ (foldl_same _ _ _ (fun _ _ => ?_))
    | apply Same.trans _ (foldl_same1 _ _ _ (fun _ _ => ?_))
    | apply Same.ite
    | apply Same.ite1
    | apply Same.ite2
    | extract_lets
    | split
    | dsimp -zeta only
    | dsimp +zetaDelta only

theorem execVelUpdate_runs (a : Fin 8) (s : State) : Runs 1 s (execVelUpdate a s) := by
  unfold execVelUpdate
  repeat' with_reducible first
    | apply Runs.next
    | exact Same.refl _
    | apply Same.step (m := 1) (by decide) (State.settled_same ..)
    | apply Same.step (m := 50130725) (by decide) (State.axisEval_same ..)
    | apply Same.step (m := 67108853) (by decide) (State.judgeSpeed_same ..)
    | apply Same.step (m := 67108861) (by decide) (State.setI_same ..)
    | apply Same.trans _ (foldl_same _ _ _ (fun _ _ => ?_))
    | apply Same.trans _ (foldl_same1 _ _ _ (fun _ _ => ?_))
    | apply Same.ite
    | apply Same.ite1
    | apply Same.ite2
    | extract_lets
    | split
    | dsimp -zeta only
    | dsimp +zetaDelta only

theorem execAxisStopped_runs (a : Fin 8) (s : State) : Runs 1 s (execAxisStopped a s) := by
  unfold execAxisStopped
  repeat' with_reducible first
    | apply Runs.next
    | exact Same.refl _
    | apply Same.step (m := 1) (by decide) (State.settled_same ..)
    | apply Same.step (m := 50130725) (by decide) (State.axisEval_same ..)
    | apply Same.step (m := 67108855) (by decide) (State.raise_same ..)
    | apply Same.step (m := 67108861) (by decide) (State.set_same ..)
    | apply Same.trans _ (foldl_same _ _ _ (fun _ _ => ?_))
    | apply Same.trans _ (foldl_same1 _ _ _ (fun _ _ => ?_))
    | apply Same.ite
    | apply Same.ite1
    | apply Same.ite2
    | extract_lets
    | split
    | dsimp -zeta only
    | dsimp +zetaDelta only

theorem execPositionCrossing_runs (a : Fin 8) (s : State) : Runs 1 s (execPositionCrossing a s) := by
  unfold execPositionCrossing
  repeat' with_reducible first
    | apply Runs.next
    | exact Same.refl _
    | apply Same.step (m := 1) (by decide) (State.settled_same ..)
    | apply Same.step (m := 50130725) (by decide) (State.axisEval_same ..)
    | apply Same.trans _ (foldl_same _ _ _ (fun _ _ => ?_))
    | apply Same.trans _ (foldl_same1 _ _ _ (fun _ _ => ?_))
    | apply Same.ite
    | apply Same.ite1
    | apply Same.ite2
    | extract_lets
    | split
    | dsimp -zeta only
    | dsimp +zetaDelta only

theorem execAxCmdClear_runs (p : Path) (a : Fin 8) (s : State) : Runs 1 s (execAxCmdClear p a s) := by
  unfold execAxCmdClear
  repeat' with_reducible first
    | apply Runs.next
    | exact Same.refl _
    | apply Same.trans _ (State.writeVia_same (K := 1) (by decide) _ _ _ _ _ _ (fun _ => ?_))
    | apply Same.step (m := 1) (by decide) (State.settled_same ..)
    | apply Same.step (m := 50130725) (by decide) (State.clearFlags_same ..)
    | apply Same.step (m := 67108861) (by decide) (State.bump_same ..)
    | apply Same.trans _ (foldl_same _ _ _ (fun _ _ => ?_))
    | apply Same.trans _ (foldl_same1 _ _ _ (fun _ _ => ?_))
    | apply Same.ite
    | apply Same.ite1
    | apply Same.ite2
    | extract_lets
    | split
    | dsimp -zeta only
    | dsimp +zetaDelta only

theorem execAxCmdLoad_runs (p : Path) (a : Fin 8) (s : State) : Runs 1 s (execAxCmdLoad p a s) := by
  unfold execAxCmdLoad
  repeat' with_reducible first
    | apply Runs.next
    | exact Same.refl _
    | apply Same.trans _ (State.writeVia_same (K := 1) (by decide) _ _ _ _ _ _ (fun _ => ?_))
    | apply Same.step (m := 1) (by decide) (State.settled_same ..)
    | apply Same.step (m := 50327333) (by decide) (State.loadCount_same ..)
    | apply Same.step (m := 67108861) (by decide) (State.bump_same ..)
    | apply Same.trans _ (foldl_same _ _ _ (fun _ _ => ?_))
    | apply Same.trans _ (foldl_same1 _ _ _ (fun _ _ => ?_))
    | apply Same.ite
    | apply Same.ite1
    | apply Same.ite2
    | extract_lets
    | split
    | dsimp -zeta only
    | dsimp +zetaDelta only

theorem execTctrlArm_runs (p : Path) (n : Fin 16) (value : Word) (s : State) : Runs 66846625 s (execTctrlArm p n value s) := by
  unfold execTctrlArm
  repeat' with_reducible first
    | apply Runs.next
    | exact Same.refl _
    | apply Same.step (m := 66846625) (by decide) (State.writeTctrl_same ..)
    | apply Same.trans _ (foldl_same _ _ _ (fun _ _ => ?_))
    | apply Same.trans _ (foldl_same1 _ _ _ (fun _ _ => ?_))
    | apply Same.ite
    | apply Same.ite1
    | apply Same.ite2
    | extract_lets
    | split
    | dsimp -zeta only
    | dsimp +zetaDelta only

theorem execTctrlDisarm_runs (p : Path) (n : Fin 16) (value : Word) (s : State) : Runs 66846625 s (execTctrlDisarm p n value s) := by
  unfold execTctrlDisarm
  repeat' with_reducible first
    | apply Runs.next
    | exact Same.refl _
    | apply Same.step (m := 66846625) (by decide) (State.writeTctrl_same ..)
    | apply Same.trans _ (foldl_same _ _ _ (fun _ _ => ?_))
    | apply Same.trans _ (foldl_same1 _ _ _ (fun _ _ => ?_))
    | apply Same.ite
    | apply Same.ite1
    | apply Same.ite2
    | extract_lets
    | split
    | dsimp -zeta only
    | dsimp +zetaDelta only

theorem execTriggerFire_runs (n : Fin 16) (s : State) : Runs 67108789 s (execTriggerFire n s) := by
  unfold execTriggerFire
  repeat' with_reducible first
    | apply Runs.next
    | exact Same.refl _
    | apply Same.step (m := 67108789) (by decide) (State.caught_same ..)
    | apply Same.step (m := 67108789) (by decide) (State.fire_same ..)
    | apply Same.trans _ (foldl_same _ _ _ (fun _ _ => ?_))
    | apply Same.trans _ (foldl_same1 _ _ _ (fun _ _ => ?_))
    | apply Same.ite
    | apply Same.ite1
    | apply Same.ite2
    | extract_lets
    | split
    | dsimp -zeta only
    | dsimp +zetaDelta only

theorem execPulseEnd_runs (n : Fin 16) (s : State) : Runs 67108789 s (execPulseEnd n s) := by
  unfold execPulseEnd
  repeat' with_reducible first
    | apply Runs.next
    | exact Same.refl _
    | apply Same.step (m := 67108853) (by decide) (State.drive_same ..)
    | apply Same.step (m := 67108797) (by decide) (State.disarm_same ..)
    | apply Same.trans _ (foldl_same _ _ _ (fun _ _ => ?_))
    | apply Same.trans _ (foldl_same1 _ _ _ (fun _ _ => ?_))
    | apply Same.ite
    | apply Same.ite1
    | apply Same.ite2
    | extract_lets
    | split
    | dsimp -zeta only
    | dsimp +zetaDelta only

theorem execCaptureEdge_runs (n : Fin 16) (level : Bool) (s : State) : Runs 67108789 s (execCaptureEdge n level s) := by
  unfold execCaptureEdge
  repeat' with_reducible first
    | apply Runs.next
    | exact Same.refl _
    | apply Same.step (m := 67108797) (by decide) (State.setCap_same ..)
    | apply Same.step (m := 67108789) (by decide) (State.capEdge_same ..)
    | apply Same.trans _ (foldl_same _ _ _ (fun _ _ => ?_))
    | apply Same.trans _ (foldl_same1 _ _ _ (fun _ _ => ?_))
    | apply Same.ite
    | apply Same.ite1
    | apply Same.ite2
    | extract_lets
    | split
    | dsimp -zeta only
    | dsimp +zetaDelta only

theorem execCapPop_runs (p : Path) (n : Fin 16) (s : State) : Runs 66846625 s (execCapPop p n s) := by
  unfold execCapPop
  repeat' with_reducible first
    | apply Runs.next
    | exact Same.refl _
    | apply Same.trans _ (State.writeVia_same (K := 66846625) (by decide) _ _ _ _ _ _ (fun _ => ?_))
    | apply Same.step (m := 67108797) (by decide) (State.capPop_same ..)
    | apply Same.trans _ (foldl_same _ _ _ (fun _ _ => ?_))
    | apply Same.trans _ (foldl_same1 _ _ _ (fun _ _ => ?_))
    | apply Same.ite
    | apply Same.ite1
    | apply Same.ite2
    | extract_lets
    | split
    | dsimp -zeta only
    | dsimp +zetaDelta only

theorem execSyncEdge_runs (m : Fin 4) (level : Bool) (s : State) : Runs 67076021 s (execSyncEdge m level s) := by
  unfold execSyncEdge
  repeat' with_reducible first
    | apply Runs.next
    | exact Same.refl _
    | apply Same.step (m := 67108799) (by decide) (State.setSync_same ..)
    | apply Same.step (m := 67076085) (by decide) (State.soSync_same ..)
    | apply Same.step (m := 67108789) (by decide) (State.syncEdge_same ..)
    | apply Same.trans _ (foldl_same _ _ _ (fun _ _ => ?_))
    | apply Same.trans _ (foldl_same1 _ _ _ (fun _ _ => ?_))
    | apply Same.ite
    | apply Same.ite1
    | apply Same.ite2
    | extract_lets
    | split
    | dsimp -zeta only
    | dsimp +zetaDelta only

theorem execSyncLost_runs (m : Fin 4) (s : State) : Runs 67108853 s (execSyncLost m s) := by
  unfold execSyncLost
  repeat' with_reducible first
    | apply Runs.next
    | exact Same.refl _
    | apply Same.step (m := 67108853) (by decide) (State.soLost_same ..)
    | apply Same.step (m := 67108855) (by decide) (State.raise_same ..)
    | apply Same.step (m := 67108861) (by decide) (State.set_same ..)
    | apply Same.trans _ (foldl_same _ _ _ (fun _ _ => ?_))
    | apply Same.trans _ (foldl_same1 _ _ _ (fun _ _ => ?_))
    | apply Same.ite
    | apply Same.ite1
    | apply Same.ite2
    | extract_lets
    | split
    | dsimp -zeta only
    | dsimp +zetaDelta only

end Sys2Proof.Machine
end

