-- ==== Sys2Proof/Laws/RunsUsbCmd.lean ====
section
/-! SUPPORT. What each command of Machine/UsbCmd.lean may change when it runs, as it always does. -/

set_option linter.all false

namespace Sys2Proof.Machine

theorem execServiceAttach_runs (on : Bool) (s : State) : Runs 62914549 s (execServiceAttach on s) := by
  unfold execServiceAttach
  repeat' with_reducible first
    | apply Runs.next
    | exact Same.refl _
    | apply Same.step (m := 67108853) (by decide) (State.wakeBy_same ..)
    | apply Same.step (m := 62914559) (by decide) (State.mapUsb_same ..)
    | apply Same.step (m := 62914559) (by decide) (State.usbDetach_same ..)
    | apply Same.trans _ (foldl_same _ _ _ (fun _ _ => ?_))
    | apply Same.trans _ (foldl_same1 _ _ _ (fun _ _ => ?_))
    | apply Same.ite
    | apply Same.ite1
    | apply Same.ite2
    | extract_lets
    | split
    | dsimp -zeta only
    | dsimp +zetaDelta only

theorem execBusReset_runs (hs : Bool) (s : State) : Runs 62914533 s (execBusReset hs s) := by
  unfold execBusReset
  repeat' with_reducible first
    | apply Runs.next
    | exact Same.refl _
    | apply Same.step (m := 67108861) (by decide) (State.sat_same ..)
    | apply Same.step (m := 62914559) (by decide) (State.usbDefault_same ..)
    | apply Same.step (m := 62914559) (by decide) (State.mapUsb_same ..)
    | apply Same.step (m := 62914557) (by decide) (State.usbServed_same ..)
    | apply Same.step (m := 67108837) (by decide) (State.pathLost_same ..)
    | apply Same.step (m := 67108855) (by decide) (State.raise_same ..)
    | apply Same.trans _ (foldl_same _ _ _ (fun _ _ => ?_))
    | apply Same.trans _ (foldl_same1 _ _ _ (fun _ _ => ?_))
    | apply Same.ite
    | apply Same.ite1
    | apply Same.ite2
    | extract_lets
    | split
    | dsimp -zeta only
    | dsimp +zetaDelta only

theorem execSuspend_runs (s : State) : Runs 62914551 s (execSuspend s) := by
  unfold execSuspend
  repeat' with_reducible first
    | apply Runs.next
    | exact Same.refl _
    | apply Same.step (m := 67108855) (by decide) (State.raise_same ..)
    | apply Same.step (m := 62914559) (by decide) (State.mapUsb_same ..)
    | apply Same.trans _ (foldl_same _ _ _ (fun _ _ => ?_))
    | apply Same.trans _ (foldl_same1 _ _ _ (fun _ _ => ?_))
    | apply Same.ite
    | apply Same.ite1
    | apply Same.ite2
    | extract_lets
    | split
    | dsimp -zeta only
    | dsimp +zetaDelta only

theorem execResume_runs (s : State) : Runs 62914549 s (execResume s) := by
  unfold execResume
  repeat' with_reducible first
    | apply Runs.next
    | exact Same.refl _
    | apply Same.step (m := 67108853) (by decide) (State.wakeBy_same ..)
    | apply Same.step (m := 67108855) (by decide) (State.raise_same ..)
    | apply Same.step (m := 62914557) (by decide) (State.usbServed_same ..)
    | apply Same.trans _ (foldl_same _ _ _ (fun _ _ => ?_))
    | apply Same.trans _ (foldl_same1 _ _ _ (fun _ _ => ?_))
    | apply Same.ite
    | apply Same.ite1
    | apply Same.ite2
    | extract_lets
    | split
    | dsimp -zeta only
    | dsimp +zetaDelta only

theorem execRemoteWake_runs (reason : Fin 3) (s : State) : Runs 62914549 s (execRemoteWake reason s) := by
  unfold execRemoteWake
  repeat' with_reducible first
    | apply Runs.next
    | exact Same.refl _
    | apply Same.step (m := 62914549) (by decide) (State.usbReason_same ..)
    | apply Same.trans _ (foldl_same _ _ _ (fun _ _ => ?_))
    | apply Same.trans _ (foldl_same1 _ _ _ (fun _ _ => ?_))
    | apply Same.ite
    | apply Same.ite1
    | apply Same.ite2
    | extract_lets
    | split
    | dsimp -zeta only
    | dsimp +zetaDelta only

theorem execDownstreamAttach_runs (n : Fin 16) (on : Bool) (s : State) : Runs 62914549 s (execDownstreamAttach n on s) := by
  unfold execDownstreamAttach
  repeat' with_reducible first
    | apply Runs.next
    | exact Same.refl _
    | apply Same.step (m := 62914549) (by decide) (State.portAttach_same ..)
    | apply Same.trans _ (foldl_same _ _ _ (fun _ _ => ?_))
    | apply Same.trans _ (foldl_same1 _ _ _ (fun _ _ => ?_))
    | apply Same.ite
    | apply Same.ite1
    | apply Same.ite2
    | extract_lets
    | split
    | dsimp -zeta only
    | dsimp +zetaDelta only

theorem execRegRead_runs (addr : BitVec 32) (len : BitVec 16) (s : State) : Runs 46133189 s (execRegRead addr len s) := by
  unfold execRegRead
  repeat' with_reducible first
    | apply Runs.next
    | exact Same.refl _
    | apply Same.step (m := 50327493) (by decide) (State.readRun_same ..)
    | apply Same.step (m := 62914559) (by decide) (State.mapUsb_same ..)
    | apply Same.step (m := 67108855) (by decide) (State.emit_same ..)
    | apply Same.step (m := 62914551) (by decide) (State.usbStall_same ..)
    | apply Same.trans _ (foldl_same _ _ _ (fun _ _ => ?_))
    | apply Same.trans _ (foldl_same1 _ _ _ (fun _ _ => ?_))
    | apply Same.ite
    | apply Same.ite1
    | apply Same.ite2
    | extract_lets
    | split
    | dsimp -zeta only
    | dsimp +zetaDelta only

theorem execRegWrite_runs (addr : BitVec 32) (len : BitVec 16) (words : List Word) (done : Bool) (s : State) : Runs 1 s (execRegWrite addr len words done s) := by
  unfold execRegWrite
  repeat' with_reducible first
    | apply Runs.next
    | exact Same.refl _
    | apply Same.trans _ (State.usbControl_same (K := 1) (by decide) _ _ _ _ _ _ (fun _ => ?_))
    | apply Same.step (m := 1) (by decide) (State.writeRun_same ..)
    | apply Same.trans _ (foldl_same _ _ _ (fun _ _ => ?_))
    | apply Same.trans _ (foldl_same1 _ _ _ (fun _ _ => ?_))
    | apply Same.ite
    | apply Same.ite1
    | apply Same.ite2
    | extract_lets
    | split
    | dsimp -zeta only
    | dsimp +zetaDelta only

theorem execGetView_runs (s : State) : Runs 62914551 s (execGetView s) := by
  unfold execGetView
  repeat' with_reducible first
    | apply Runs.next
    | exact Same.refl _
    | apply Same.step (m := 67108855) (by decide) (State.emit_same ..)
    | apply Same.step (m := 62914559) (by decide) (State.mapUsb_same ..)
    | apply Same.trans _ (foldl_same _ _ _ (fun _ _ => ?_))
    | apply Same.trans _ (foldl_same1 _ _ _ (fun _ _ => ?_))
    | apply Same.ite
    | apply Same.ite1
    | apply Same.ite2
    | extract_lets
    | split
    | dsimp -zeta only
    | dsimp +zetaDelta only

theorem execSetAddress_runs (d : UsbDevice) (addr : BitVec 7) (done : Bool) (s : State) : Runs 62914551 s (execSetAddress d addr done s) := by
  unfold execSetAddress
  repeat' with_reducible first
    | apply Runs.next
    | exact Same.refl _
    | apply Same.trans _ (State.usbControl_same (K := 62914551) (by decide) _ _ _ _ _ _ (fun _ => ?_))
    | apply Same.step (m := 62914559) (by decide) (State.setDev_same ..)
    | apply Same.trans _ (foldl_same _ _ _ (fun _ _ => ?_))
    | apply Same.trans _ (foldl_same1 _ _ _ (fun _ _ => ?_))
    | apply Same.ite
    | apply Same.ite1
    | apply Same.ite2
    | extract_lets
    | split
    | dsimp -zeta only
    | dsimp +zetaDelta only

theorem execSetConfiguration_runs (d : UsbDevice) (cfg : BitVec 8) (done : Bool) (s : State) : Runs 62914551 s (execSetConfiguration d cfg done s) := by
  unfold execSetConfiguration
  repeat' with_reducible first
    | apply Runs.next
    | exact Same.refl _
    | apply Same.trans _ (State.usbControl_same (K := 62914551) (by decide) _ _ _ _ _ _ (fun _ => ?_))
    | apply Same.step (m := 62914559) (by decide) (State.setCfg_same ..)
    | apply Same.trans _ (foldl_same _ _ _ (fun _ _ => ?_))
    | apply Same.trans _ (foldl_same1 _ _ _ (fun _ _ => ?_))
    | apply Same.ite
    | apply Same.ite1
    | apply Same.ite2
    | extract_lets
    | split
    | dsimp -zeta only
    | dsimp +zetaDelta only

theorem execSetFeature_runs (d : UsbDevice) (f : UsbFeature) (done : Bool) (s : State) : Runs 62914551 s (execSetFeature d f done s) := by
  unfold execSetFeature
  repeat' with_reducible first
    | apply Runs.next
    | exact Same.refl _
    | apply Same.trans _ (State.usbControl_same (K := 62914551) (by decide) _ _ _ _ _ _ (fun _ => ?_))
    | apply Same.step (m := 62914559) (by decide) (State.usbFeature_same ..)
    | apply Same.trans _ (foldl_same _ _ _ (fun _ _ => ?_))
    | apply Same.trans _ (foldl_same1 _ _ _ (fun _ _ => ?_))
    | apply Same.ite
    | apply Same.ite1
    | apply Same.ite2
    | extract_lets
    | split
    | dsimp -zeta only
    | dsimp +zetaDelta only

theorem execClearFeature_runs (d : UsbDevice) (f : UsbFeature) (done : Bool) (s : State) : Runs 62914551 s (execClearFeature d f done s) := by
  unfold execClearFeature
  repeat' with_reducible first
    | apply Runs.next
    | exact Same.refl _
    | apply Same.trans _ (State.usbControl_same (K := 62914551) (by decide) _ _ _ _ _ _ (fun _ => ?_))
    | apply Same.step (m := 62914559) (by decide) (State.usbFeature_same ..)
    | apply Same.trans _ (foldl_same _ _ _ (fun _ _ => ?_))
    | apply Same.trans _ (foldl_same1 _ _ _ (fun _ _ => ?_))
    | apply Same.ite
    | apply Same.ite1
    | apply Same.ite2
    | extract_lets
    | split
    | dsimp -zeta only
    | dsimp +zetaDelta only

theorem execEp1In_runs (s : State) : Runs 62914551 s (execEp1In s) := by
  unfold execEp1In
  repeat' with_reducible first
    | apply Runs.next
    | exact Same.refl _
    | apply Same.step (m := 67108855) (by decide) (State.emit_same ..)
    | apply Same.step (m := 62914559) (by decide) (State.mapUsb_same ..)
    | apply Same.trans _ (foldl_same _ _ _ (fun _ _ => ?_))
    | apply Same.trans _ (foldl_same1 _ _ _ (fun _ _ => ?_))
    | apply Same.ite
    | apply Same.ite1
    | apply Same.ite2
    | extract_lets
    | split
    | dsimp -zeta only
    | dsimp +zetaDelta only

theorem execEp2Read_runs (s : State) : Runs 46133189 s (execEp2Read s) := by
  unfold execEp2Read
  repeat' with_reducible first
    | apply Runs.next
    | exact Same.refl _
    | apply Same.trans _ (State.ep2Run_same (K := 46133189) (by decide) _ _ _ (fun _ _ _ _ => ?_))
    | apply Same.step (m := 50327493) (by decide) (State.readRun_same ..)
    | apply Same.step (m := 67108855) (by decide) (State.emit_same ..)
    | apply Same.trans _ (foldl_same _ _ _ (fun _ _ => ?_))
    | apply Same.trans _ (foldl_same1 _ _ _ (fun _ _ => ?_))
    | apply Same.ite
    | apply Same.ite1
    | apply Same.ite2
    | extract_lets
    | split
    | dsimp -zeta only
    | dsimp +zetaDelta only

theorem execEp2Write_runs (s : State) : Runs 1 s (execEp2Write s) := by
  unfold execEp2Write
  repeat' with_reducible first
    | apply Runs.next
    | exact Same.refl _
    | apply Same.trans _ (State.ep2Run_same (K := 1) (by decide) _ _ _ (fun _ _ _ _ => ?_))
    | apply Same.step (m := 1) (by decide) (State.writeRun_same ..)
    | apply Same.step (m := 67108855) (by decide) (State.emit_same ..)
    | apply Same.trans _ (foldl_same _ _ _ (fun _ _ => ?_))
    | apply Same.trans _ (foldl_same1 _ _ _ (fun _ _ => ?_))
    | apply Same.ite
    | apply Same.ite1
    | apply Same.ite2
    | extract_lets
    | split
    | dsimp -zeta only
    | dsimp +zetaDelta only

theorem execOutToken_runs (data : List (BitVec 8)) (s : State) : Runs 62914549 s (execOutToken data s) := by
  unfold execOutToken
  repeat' with_reducible first
    | apply Runs.next
    | exact Same.refl _
    | apply Same.step (m := 62914549) (by decide) (State.ep2Out_same ..)
    | apply Same.trans _ (foldl_same _ _ _ (fun _ _ => ?_))
    | apply Same.trans _ (foldl_same1 _ _ _ (fun _ _ => ?_))
    | apply Same.ite
    | apply Same.ite1
    | apply Same.ite2
    | extract_lets
    | split
    | dsimp -zeta only
    | dsimp +zetaDelta only

theorem execPingToken_runs (s : State) : Runs 67108853 s (execPingToken s) := by
  unfold execPingToken
  repeat' with_reducible first
    | apply Runs.next
    | exact Same.refl _
    | apply Same.step (m := 67108855) (by decide) (State.emit_same ..)
    | apply Same.step (m := 67108861) (by decide) (State.sat_same ..)
    | apply Same.trans _ (foldl_same _ _ _ (fun _ _ => ?_))
    | apply Same.trans _ (foldl_same1 _ _ _ (fun _ _ => ?_))
    | apply Same.ite
    | apply Same.ite1
    | apply Same.ite2
    | extract_lets
    | split
    | dsimp -zeta only
    | dsimp +zetaDelta only

theorem execRecoveryImage_runs (img : FwImage) (s : State) : Runs 31064037 s (execRecoveryImage img s) := by
  unfold execRecoveryImage
  repeat' with_reducible first
    | apply Runs.next
    | exact Same.refl _
    | apply Same.step (m := 67108861) (by decide) (State.set_same ..)
    | apply Same.step (m := 31064037) (by decide) (State.imageTaken_same ..)
    | apply Same.trans _ (foldl_same _ _ _ (fun _ _ => ?_))
    | apply Same.trans _ (foldl_same1 _ _ _ (fun _ _ => ?_))
    | apply Same.ite
    | apply Same.ite1
    | apply Same.ite2
    | extract_lets
    | split
    | dsimp -zeta only
    | dsimp +zetaDelta only

theorem execLogIn_runs (unsent : List (BitVec 8)) (s : State) : Runs 67108855 s (execLogIn unsent s) := by
  unfold execLogIn
  repeat' with_reducible first
    | apply Runs.next
    | exact Same.refl _
    | apply Same.step (m := 67108855) (by decide) (State.emit_same ..)
    | apply Same.trans _ (foldl_same _ _ _ (fun _ _ => ?_))
    | apply Same.trans _ (foldl_same1 _ _ _ (fun _ _ => ?_))
    | apply Same.ite
    | apply Same.ite1
    | apply Same.ite2
    | extract_lets
    | split
    | dsimp -zeta only
    | dsimp +zetaDelta only

theorem execSmbusSetPointer_runs (offset : Word) (pecOk : Bool) (s : State) : Runs 58720245 s (execSmbusSetPointer offset pecOk s) := by
  unfold execSmbusSetPointer
  repeat' with_reducible first
    | apply Runs.next
    | exact Same.refl _
    | apply Same.trans _ (State.smbus_same (K := 58720245) (by decide) _ _ _ (fun _ => ?_))
    | apply Same.trans _ (foldl_same _ _ _ (fun _ _ => ?_))
    | apply Same.trans _ (foldl_same1 _ _ _ (fun _ _ => ?_))
    | apply Same.ite
    | apply Same.ite1
    | apply Same.ite2
    | extract_lets
    | split
    | dsimp -zeta only
    | dsimp +zetaDelta only
    | apply Same.with_regs (by decide)
    | apply Same.with_sig (by decide)
    | apply Same.with_smbPtr (by decide)

theorem execSmbusRead_runs (pecOk : Bool) (s : State) : Runs 41938885 s (execSmbusRead pecOk s) := by
  unfold execSmbusRead
  repeat' with_reducible first
    | apply Runs.next
    | exact Same.refl _
    | apply Same.trans _ (State.smbus_same (K := 41938885) (by decide) _ _ _ (fun _ => ?_))
    | apply Same.step (m := 50327493) (by decide) (State.read_same ..)
    | apply Same.step (m := 67108855) (by decide) (State.emit_same ..)
    | apply Same.trans _ (foldl_same _ _ _ (fun _ _ => ?_))
    | apply Same.trans _ (foldl_same1 _ _ _ (fun _ _ => ?_))
    | apply Same.ite
    | apply Same.ite1
    | apply Same.ite2
    | extract_lets
    | split
    | dsimp -zeta only
    | dsimp +zetaDelta only
    | apply Same.with_regs (by decide)
    | apply Same.with_sig (by decide)
    | apply Same.with_slots (by decide)
    | apply Same.with_latch (by decide)
    | apply Same.with_smbPtr (by decide)
    | apply Same.with_freeCtr (by decide)

theorem execSmbusWrite_runs (value : Word) (pecOk : Bool) (s : State) : Runs 1 s (execSmbusWrite value pecOk s) := by
  unfold execSmbusWrite
  repeat' with_reducible first
    | apply Runs.next
    | exact Same.refl _
    | apply Same.trans _ (State.smbus_same (K := 1) (by decide) _ _ _ (fun _ => ?_))
    | apply Same.step (m := 1) (by decide) (State.write_same ..)
    | apply Same.trans _ (foldl_same _ _ _ (fun _ _ => ?_))
    | apply Same.trans _ (foldl_same1 _ _ _ (fun _ _ => ?_))
    | apply Same.ite
    | apply Same.ite1
    | apply Same.ite2
    | extract_lets
    | split
    | dsimp -zeta only
    | dsimp +zetaDelta only
    | apply Same.with_regs (by decide)
    | apply Same.with_lag (by decide)
    | apply Same.with_sig (by decide)
    | apply Same.with_slots (by decide)
    | apply Same.with_latch (by decide)
    | apply Same.with_time (by decide)
    | apply Same.with_sw (by decide)
    | apply Same.with_gov (by decide)
    | apply Same.with_pool (by decide)
    | apply Same.with_gd (by decide)
    | apply Same.with_port (by decide)
    | apply Same.with_link (by decide)
    | apply Same.with_repair (by decide)
    | apply Same.with_pow (by decide)
    | apply Same.with_scan (by decide)
    | apply Same.with_br (by decide)
    | apply Same.with_engs (by decide)
    | apply Same.with_pwr (by decide)
    | apply Same.with_vault (by decide)
    | apply Same.with_otp (by decide)
    | apply Same.with_rep (by decide)
    | apply Same.with_usb (by decide)
    | apply Same.with_smbPtr (by decide)
    | apply Same.with_freeCtr (by decide)
    | apply Same.with_mem (by decide)

theorem execAlertResponse_runs (s : State) : Runs 67108855 s (execAlertResponse s) := by
  unfold execAlertResponse
  repeat' with_reducible first
    | apply Runs.next
    | exact Same.refl _
    | apply Same.step (m := 67108855) (by decide) (State.emit_same ..)
    | apply Same.trans _ (foldl_same _ _ _ (fun _ _ => ?_))
    | apply Same.trans _ (foldl_same1 _ _ _ (fun _ _ => ?_))
    | apply Same.ite
    | apply Same.ite1
    | apply Same.ite2
    | extract_lets
    | split
    | dsimp -zeta only
    | dsimp +zetaDelta only

end Sys2Proof.Machine
end

