-- ==== Sys2Proof/Laws/RunsVaultCmd.lean ====
section
/-! SUPPORT. What each command of Machine/VaultCmd.lean may change when it runs, as it always does. -/

set_option linter.all false

namespace Sys2Proof.Machine

theorem execGenerate_runs (p : Path) (target : BitVec 8) (attr : BitVec 2) (exp : Bool) (s : State) : Runs 1 s (execGenerate p target attr exp s) := by
  unfold execGenerate
  repeat' with_reducible first
    | apply Runs.next
    | exact Same.refl _
    | apply Same.step (m := 1) (by decide) (State.write_same ..)
    | apply Same.trans _ (foldl_same _ _ _ (fun _ _ => ?_))
    | apply Same.trans _ (foldl_same1 _ _ _ (fun _ _ => ?_))
    | apply Same.ite
    | apply Same.ite1
    | apply Same.ite2
    | extract_lets
    | split
    | dsimp -zeta only
    | dsimp +zetaDelta only

theorem execDerive_runs (p : Path) (target source : BitVec 8) (attr : BitVec 2) (exp : Bool) (s : State) : Runs 1 s (execDerive p target source attr exp s) := by
  unfold execDerive
  repeat' with_reducible first
    | apply Runs.next
    | exact Same.refl _
    | apply Same.step (m := 1) (by decide) (State.write_same ..)
    | apply Same.trans _ (foldl_same _ _ _ (fun _ _ => ?_))
    | apply Same.trans _ (foldl_same1 _ _ _ (fun _ _ => ?_))
    | apply Same.ite
    | apply Same.ite1
    | apply Same.ite2
    | extract_lets
    | split
    | dsimp -zeta only
    | dsimp +zetaDelta only

theorem execUnwrap_runs (p : Path) (target source : BitVec 8) (attr : BitVec 2) (exp : Bool) (s : State) : Runs 1 s (execUnwrap p target source attr exp s) := by
  unfold execUnwrap
  repeat' with_reducible first
    | apply Runs.next
    | exact Same.refl _
    | apply Same.step (m := 1) (by decide) (State.write_same ..)
    | apply Same.trans _ (foldl_same _ _ _ (fun _ _ => ?_))
    | apply Same.trans _ (foldl_same1 _ _ _ (fun _ _ => ?_))
    | apply Same.ite
    | apply Same.ite1
    | apply Same.ite2
    | extract_lets
    | split
    | dsimp -zeta only
    | dsimp +zetaDelta only

theorem execWrap_runs (p : Path) (target source : BitVec 8) (s : State) : Runs 1 s (execWrap p target source s) := by
  unfold execWrap
  repeat' with_reducible first
    | apply Runs.next
    | exact Same.refl _
    | apply Same.step (m := 1) (by decide) (State.write_same ..)
    | apply Same.trans _ (foldl_same _ _ _ (fun _ _ => ?_))
    | apply Same.trans _ (foldl_same1 _ _ _ (fun _ _ => ?_))
    | apply Same.ite
    | apply Same.ite1
    | apply Same.ite2
    | extract_lets
    | split
    | dsimp -zeta only
    | dsimp +zetaDelta only

theorem execZero_runs (p : Path) (target : BitVec 8) (s : State) : Runs 1 s (execZero p target s) := by
  unfold execZero
  repeat' with_reducible first
    | apply Runs.next
    | exact Same.refl _
    | apply Same.step (m := 1) (by decide) (State.write_same ..)
    | apply Same.trans _ (foldl_same _ _ _ (fun _ _ => ?_))
    | apply Same.trans _ (foldl_same1 _ _ _ (fun _ _ => ?_))
    | apply Same.ite
    | apply Same.ite1
    | apply Same.ite2
    | extract_lets
    | split
    | dsimp -zeta only
    | dsimp +zetaDelta only

theorem execRandom_runs (p : Path) (s : State) : Runs 1 s (execRandom p s) := by
  unfold execRandom
  repeat' with_reducible first
    | apply Runs.next
    | exact Same.refl _
    | apply Same.step (m := 1) (by decide) (State.write_same ..)
    | apply Same.trans _ (foldl_same _ _ _ (fun _ _ => ?_))
    | apply Same.trans _ (foldl_same1 _ _ _ (fun _ _ => ?_))
    | apply Same.ite
    | apply Same.ite1
    | apply Same.ite2
    | extract_lets
    | split
    | dsimp -zeta only
    | dsimp +zetaDelta only

theorem execDrbgFail_runs (reason : Fin 2) (s : State) : Runs 67108853 s (execDrbgFail reason s) := by
  unfold execDrbgFail
  repeat' with_reducible first
    | apply Runs.next
    | exact Same.refl _
    | apply Same.step (m := 67108853) (by decide) (State.drbgFail_same ..)
    | apply Same.trans _ (foldl_same _ _ _ (fun _ _ => ?_))
    | apply Same.trans _ (foldl_same1 _ _ _ (fun _ _ => ?_))
    | apply Same.ite
    | apply Same.ite1
    | apply Same.ite2
    | extract_lets
    | split
    | dsimp -zeta only
    | dsimp +zetaDelta only

theorem execDrbgRestart_runs (p : Path) (s : State) : Runs 1 s (execDrbgRestart p s) := by
  unfold execDrbgRestart
  repeat' with_reducible first
    | apply Runs.next
    | exact Same.refl _
    | apply Same.step (m := 1) (by decide) (State.write_same ..)
    | apply Same.trans _ (foldl_same _ _ _ (fun _ _ => ?_))
    | apply Same.trans _ (foldl_same1 _ _ _ (fun _ _ => ?_))
    | apply Same.ite
    | apply Same.ite1
    | apply Same.ite2
    | extract_lets
    | split
    | dsimp -zeta only
    | dsimp +zetaDelta only

theorem execRemask_runs (s : State) : Runs 49807357 s (execRemask s) := by
  unfold execRemask
  repeat' with_reducible first
    | apply Runs.next
    | exact Same.refl _
    | apply Same.step (m := 49807357) (by decide) (State.remask_same ..)
    | apply Same.trans _ (foldl_same _ _ _ (fun _ _ => ?_))
    | apply Same.trans _ (foldl_same1 _ _ _ (fun _ _ => ?_))
    | apply Same.ite
    | apply Same.ite1
    | apply Same.ite2
    | extract_lets
    | split
    | dsimp -zeta only
    | dsimp +zetaDelta only

theorem execRootGen_runs (p : Path) (s : State) : Runs 1 s (execRootGen p s) := by
  unfold execRootGen
  repeat' with_reducible first
    | apply Runs.next
    | exact Same.refl _
    | apply Same.step (m := 1) (by decide) (State.write_same ..)
    | apply Same.trans _ (foldl_same _ _ _ (fun _ _ => ?_))
    | apply Same.trans _ (foldl_same1 _ _ _ (fun _ _ => ?_))
    | apply Same.ite
    | apply Same.ite1
    | apply Same.ite2
    | extract_lets
    | split
    | dsimp -zeta only
    | dsimp +zetaDelta only

theorem execTamperTrip_runs (src : Fin 8) (s : State) : Runs 47472997 s (execTamperTrip src s) := by
  unfold execTamperTrip
  repeat' with_reducible first
    | apply Runs.next
    | exact Same.refl _
    | apply Same.step (m := 47472997) (by decide) (State.tamper_same ..)
    | apply Same.trans _ (foldl_same _ _ _ (fun _ _ => ?_))
    | apply Same.trans _ (foldl_same1 _ _ _ (fun _ _ => ?_))
    | apply Same.ite
    | apply Same.ite1
    | apply Same.ite2
    | extract_lets
    | split
    | dsimp -zeta only
    | dsimp +zetaDelta only

theorem execGetVersion_runs (h : Fin 32) (s : State) : Runs 66584567 s (execGetVersion h s) := by
  unfold execGetVersion
  repeat' with_reducible first
    | apply Runs.next
    | exact Same.refl _
    | apply Same.trans _ (State.spdmReq_same (K := 66584567) (by decide) _ _ _ _ _ (fun _ => ?_))
    | apply Same.step (m := 66584575) (by decide) (State.setSpdm_same ..)
    | apply Same.trans _ (foldl_same _ _ _ (fun _ _ => ?_))
    | apply Same.trans _ (foldl_same1 _ _ _ (fun _ _ => ?_))
    | apply Same.ite
    | apply Same.ite1
    | apply Same.ite2
    | extract_lets
    | split
    | dsimp -zeta only
    | dsimp +zetaDelta only

theorem execGetCapabilities_runs (h : Fin 32) (s : State) : Runs 66584567 s (execGetCapabilities h s) := by
  unfold execGetCapabilities
  repeat' with_reducible first
    | apply Runs.next
    | exact Same.refl _
    | apply Same.trans _ (State.spdmReq_same (K := 66584567) (by decide) _ _ _ _ _ (fun _ => ?_))
    | apply Same.step (m := 66584575) (by decide) (State.setSpdm_same ..)
    | apply Same.trans _ (foldl_same _ _ _ (fun _ _ => ?_))
    | apply Same.trans _ (foldl_same1 _ _ _ (fun _ _ => ?_))
    | apply Same.ite
    | apply Same.ite1
    | apply Same.ite2
    | extract_lets
    | split
    | dsimp -zeta only
    | dsimp +zetaDelta only

theorem execNegotiateAlgorithms_runs (h : Fin 32) (common : Bool) (s : State) : Runs 66584567 s (execNegotiateAlgorithms h common s) := by
  unfold execNegotiateAlgorithms
  repeat' with_reducible first
    | apply Runs.next
    | exact Same.refl _
    | apply Same.trans _ (State.spdmReq_same (K := 66584567) (by decide) _ _ _ _ _ (fun _ => ?_))
    | apply Same.step (m := 66584575) (by decide) (State.setSpdm_same ..)
    | apply Same.trans _ (foldl_same _ _ _ (fun _ _ => ?_))
    | apply Same.trans _ (foldl_same1 _ _ _ (fun _ _ => ?_))
    | apply Same.ite
    | apply Same.ite1
    | apply Same.ite2
    | extract_lets
    | split
    | dsimp -zeta only
    | dsimp +zetaDelta only

theorem execGetDigests_runs (h : Fin 32) (chain : List (BitVec 8)) (s : State) : Runs 67108855 s (execGetDigests h chain s) := by
  unfold execGetDigests
  repeat' with_reducible first
    | apply Runs.next
    | exact Same.refl _
    | apply Same.trans _ (State.spdmReq_same (K := 67108855) (by decide) _ _ _ _ _ (fun _ => ?_))
    | apply Same.trans _ (foldl_same _ _ _ (fun _ _ => ?_))
    | apply Same.trans _ (foldl_same1 _ _ _ (fun _ _ => ?_))
    | apply Same.ite
    | apply Same.ite1
    | apply Same.ite2
    | extract_lets
    | split
    | dsimp -zeta only
    | dsimp +zetaDelta only

theorem execGetCertificate_runs (h : Fin 32) (slot : Fin 8) (off len : BitVec 16) (chain : List (BitVec 8)) (s : State) : Runs 67108855 s (execGetCertificate h slot off len chain s) := by
  unfold execGetCertificate
  repeat' with_reducible first
    | apply Runs.next
    | exact Same.refl _
    | apply Same.trans _ (State.spdmReq_same (K := 67108855) (by decide) _ _ _ _ _ (fun _ => ?_))
    | apply Same.trans _ (foldl_same _ _ _ (fun _ _ => ?_))
    | apply Same.trans _ (foldl_same1 _ _ _ (fun _ _ => ?_))
    | apply Same.ite
    | apply Same.ite1
    | apply Same.ite2
    | extract_lets
    | split
    | dsimp -zeta only
    | dsimp +zetaDelta only

theorem execChallenge_runs (h : Fin 32) (slot : Fin 8) (nonce : BitVec 256) (s : State) : Runs 50331639 s (execChallenge h slot nonce s) := by
  unfold execChallenge
  repeat' with_reducible first
    | apply Runs.next
    | exact Same.refl _
    | apply Same.trans _ (State.spdmReq_same (K := 50331639) (by decide) _ _ _ _ _ (fun _ => ?_))
    | apply Same.step (m := 50331647) (by decide) (State.fresh_same ..)
    | apply Same.trans _ (foldl_same _ _ _ (fun _ _ => ?_))
    | apply Same.trans _ (foldl_same1 _ _ _ (fun _ _ => ?_))
    | apply Same.ite
    | apply Same.ite1
    | apply Same.ite2
    | extract_lets
    | split
    | dsimp -zeta only
    | dsimp +zetaDelta only

theorem execGetMeasurements_runs (h : Fin 32) (index : BitVec 8) (s : State) : Runs 67108855 s (execGetMeasurements h index s) := by
  unfold execGetMeasurements
  repeat' with_reducible first
    | apply Runs.next
    | exact Same.refl _
    | apply Same.trans _ (State.spdmReq_same (K := 67108855) (by decide) _ _ _ _ _ (fun _ => ?_))
    | apply Same.trans _ (foldl_same _ _ _ (fun _ _ => ?_))
    | apply Same.trans _ (foldl_same1 _ _ _ (fun _ _ => ?_))
    | apply Same.ite
    | apply Same.ite1
    | apply Same.ite2
    | extract_lets
    | split
    | dsimp -zeta only
    | dsimp +zetaDelta only

theorem execKeyExchange_runs (h : Fin 32) (slot : Fin 8) (nonce : BitVec 256) (s : State) : Runs 49807351 s (execKeyExchange h slot nonce s) := by
  unfold execKeyExchange
  repeat' with_reducible first
    | apply Runs.next
    | exact Same.refl _
    | apply Same.trans _ (State.spdmReq_same (K := 49807351) (by decide) _ _ _ _ _ (fun _ => ?_))
    | apply Same.step (m := 50331647) (by decide) (State.fresh_same ..)
    | apply Same.step (m := 66584575) (by decide) (State.setSpdm_same ..)
    | apply Same.trans _ (foldl_same _ _ _ (fun _ _ => ?_))
    | apply Same.trans _ (foldl_same1 _ _ _ (fun _ _ => ?_))
    | apply Same.ite
    | apply Same.ite1
    | apply Same.ite2
    | extract_lets
    | split
    | dsimp -zeta only
    | dsimp +zetaDelta only

theorem execFinish_runs (h : Fin 32) (macOk : Bool) (s : State) : Runs 66584567 s (execFinish h macOk s) := by
  unfold execFinish
  repeat' with_reducible first
    | apply Runs.next
    | exact Same.refl _
    | apply Same.trans _ (State.spdmReq_same (K := 66584567) (by decide) _ _ _ _ _ (fun _ => ?_))
    | apply Same.step (m := 66584575) (by decide) (State.setSpdm_same ..)
    | apply Same.trans _ (foldl_same _ _ _ (fun _ _ => ?_))
    | apply Same.trans _ (foldl_same1 _ _ _ (fun _ _ => ?_))
    | apply Same.ite
    | apply Same.ite1
    | apply Same.ite2
    | extract_lets
    | split
    | dsimp -zeta only
    | dsimp +zetaDelta only

theorem execEndSession_runs (h : Fin 32) (s : State) : Runs 66584567 s (execEndSession h s) := by
  unfold execEndSession
  repeat' with_reducible first
    | apply Runs.next
    | exact Same.refl _
    | apply Same.trans _ (State.spdmReq_same (K := 66584567) (by decide) _ _ _ _ _ (fun _ => ?_))
    | apply Same.step (m := 66584575) (by decide) (State.setSpdm_same ..)
    | apply Same.trans _ (foldl_same _ _ _ (fun _ _ => ?_))
    | apply Same.trans _ (foldl_same1 _ _ _ (fun _ _ => ?_))
    | apply Same.ite
    | apply Same.ite1
    | apply Same.ite2
    | extract_lets
    | split
    | dsimp -zeta only
    | dsimp +zetaDelta only

theorem execKeyProg_runs (port : Fin 48) (sub : Fin 3) (rx set : Bool) (key : BitVec 256) (s : State) : Runs 49807349 s (execKeyProg port sub rx set key s) := by
  unfold execKeyProg
  repeat' with_reducible first
    | apply Runs.next
    | exact Same.refl _
    | apply Same.step (m := 49807357) (by decide) (State.keyProg_same ..)
    | apply Same.step (m := 67108855) (by decide) (State.spdmAns_same ..)
    | apply Same.step (m := 50331647) (by decide) (State.fresh_same ..)
    | apply Same.step (m := 66584575) (by decide) (State.drbgUse_same ..)
    | apply Same.trans _ (foldl_same _ _ _ (fun _ _ => ?_))
    | apply Same.trans _ (foldl_same1 _ _ _ (fun _ _ => ?_))
    | apply Same.ite
    | apply Same.ite1
    | apply Same.ite2
    | extract_lets
    | split
    | dsimp -zeta only
    | dsimp +zetaDelta only

theorem execKSetGo_runs (port : Fin 48) (sub : Fin 3) (rx set : Bool) (s : State) : Runs 66584565 s (execKSetGo port sub rx set s) := by
  unfold execKSetGo
  repeat' with_reducible first
    | apply Runs.next
    | exact Same.refl _
    | apply Same.step (m := 66584573) (by decide) (State.keySet_same ..)
    | apply Same.step (m := 67108855) (by decide) (State.spdmAns_same ..)
    | apply Same.trans _ (foldl_same _ _ _ (fun _ _ => ?_))
    | apply Same.trans _ (foldl_same1 _ _ _ (fun _ _ => ?_))
    | apply Same.ite
    | apply Same.ite1
    | apply Same.ite2
    | extract_lets
    | split
    | dsimp -zeta only
    | dsimp +zetaDelta only

theorem execKSetStop_runs (port : Fin 48) (sub : Fin 3) (rx set : Bool) (s : State) : Runs 66584565 s (execKSetStop port sub rx set s) := by
  unfold execKSetStop
  repeat' with_reducible first
    | apply Runs.next
    | exact Same.refl _
    | apply Same.step (m := 66584573) (by decide) (State.keySet_same ..)
    | apply Same.step (m := 67108855) (by decide) (State.spdmAns_same ..)
    | apply Same.trans _ (foldl_same _ _ _ (fun _ _ => ?_))
    | apply Same.trans _ (foldl_same1 _ _ _ (fun _ _ => ?_))
    | apply Same.ite
    | apply Same.ite1
    | apply Same.ite2
    | extract_lets
    | split
    | dsimp -zeta only
    | dsimp +zetaDelta only

theorem execLcReq_runs (src : LcFrom) (key : BitVec 8) (target : BitVec 3) (s : State) : Runs 1 s (execLcReq src key target s) := by
  unfold execLcReq
  repeat' with_reducible first
    | apply Runs.next
    | exact Same.refl _
    | apply Same.step (m := 1) (by decide) (State.write_same ..)
    | apply Same.step (m := 67108853) (by decide) (State.jtagRefuse_same ..)
    | apply Same.step (m := 63438845) (by decide) (State.lcAccept_same ..)
    | apply Same.trans _ (foldl_same _ _ _ (fun _ _ => ?_))
    | apply Same.trans _ (foldl_same1 _ _ _ (fun _ _ => ?_))
    | apply Same.ite
    | apply Same.ite1
    | apply Same.ite2
    | extract_lets
    | split
    | dsimp -zeta only
    | dsimp +zetaDelta only

theorem execLcBlowDone_runs (s : State) : Runs 1 s (execLcBlowDone s) := by
  unfold execLcBlowDone
  repeat' with_reducible first
    | apply Runs.next
    | exact Same.refl _
    | apply Same.step (m := 1) (by decide) (State.warmStart_same ..)
    | apply Same.step (m := 66060279) (by decide) (State.lcBlow_same ..)
    | apply Same.trans _ (foldl_same _ _ _ (fun _ _ => ?_))
    | apply Same.trans _ (foldl_same1 _ _ _ (fun _ _ => ?_))
    | apply Same.ite
    | apply Same.ite1
    | apply Same.ite2
    | extract_lets
    | split
    | dsimp -zeta only
    | dsimp +zetaDelta only

theorem execOtpCmdGo_runs (p : Path) (id : BitVec 8) (s : State) : Runs 1 s (execOtpCmdGo p id s) := by
  unfold execOtpCmdGo
  repeat' with_reducible first
    | apply Runs.next
    | exact Same.refl _
    | apply Same.step (m := 1) (by decide) (State.write_same ..)
    | apply Same.trans _ (foldl_same _ _ _ (fun _ _ => ?_))
    | apply Same.trans _ (foldl_same1 _ _ _ (fun _ _ => ?_))
    | apply Same.ite
    | apply Same.ite1
    | apply Same.ite2
    | extract_lets
    | split
    | dsimp -zeta only
    | dsimp +zetaDelta only

theorem execOtpWriteDone_runs (ok : Bool) (s : State) : Runs 49283061 s (execOtpWriteDone ok s) := by
  unfold execOtpWriteDone
  repeat' with_reducible first
    | apply Runs.next
    | exact Same.refl _
    | apply Same.step (m := 49283061) (by decide) (State.otpDone_same ..)
    | apply Same.trans _ (foldl_same _ _ _ (fun _ _ => ?_))
    | apply Same.trans _ (foldl_same1 _ _ _ (fun _ _ => ?_))
    | apply Same.ite
    | apply Same.ite1
    | apply Same.ite2
    | extract_lets
    | split
    | dsimp -zeta only
    | dsimp +zetaDelta only

end Sys2Proof.Machine
end

