-- ==== Sys2Proof/Laws/RunsMem.lean ====
section
/-! SUPPORT. Every command that reaches the engine memories keeps their canonical form. -/

set_option linter.all false

namespace Sys2Proof.Machine

/-- A command goes on and keeps the canonical form of the engine memories. -/
def KeepsMem (s : State) (o : Host.Outcome State Fault Refusal) : Prop := ∃ t, o = .next t ∧ MemKept s t

theorem KeepsMem.next {s t : State} (h : MemKept s t) : KeepsMem s (.next t) := ⟨t, rfl, h⟩

theorem Runs.keepsMem {m : Nat} {s : State} {o : Host.Outcome State Fault Refusal} (h : Nat.land m 33554432 = 33554432) (a : Runs m s o) :
    KeepsMem s o := by
  obtain ⟨t, e, b⟩ := a
  exact ⟨t, e, MemKept.after h b (MemKept.refl s)⟩

theorem State.usbControl_memKept (s : State) (d : Nat) (q : UsbReq) (ok done : Bool) (act : State → State) (ha : ∀ s, MemKept s (act s)) :
    MemKept s (s.usbControl d q ok done act) := by
  unfold State.usbControl State.usbStatus
  split
  · exact MemKept.refl _
  · split
    · split
      · exact MemKept.trans (MemKept.after (m := 62914559) (by decide) (State.mapUsb_same ..) (MemKept.refl _)) (ha _)
      · exact MemKept.refl _
    · split
      · exact MemKept.after (m := 62914559) (by decide) (State.usbSetup_same ..) (MemKept.refl _)
      · exact MemKept.after (m := 62914551) (by decide) (State.usbStall_same ..) (MemKept.refl _)

theorem State.ep2Run_memKept (s : State) (op : Nat) (f : State → Nat → Nat → List (BitVec 8) → State) (hf : ∀ s a b l, MemKept s (f s a b l)) :
    MemKept s (s.ep2Run op f) := by
  unfold State.ep2Run
  have t : MemKept s (s.ep2Take 8).1 := MemKept.after (m := 62914559) (by decide) (State.ep2Take_same ..) (MemKept.refl _)
  split
  · split <;> rename_i h <;> rw [h] at t
    · split
      · exact (MemKept.after (m := 62914559) (by decide) (State.ep2Drop_same ..) t).trans (hf ..)
      · exact t
    · exact t
  · exact MemKept.refl _

theorem State.smbus_memKept (s : State) (pecOk : Bool) (f : State → State) (hf : ∀ s, MemKept s (f s)) : MemKept s (s.smbus pecOk f) := by
  unfold State.smbus
  have h : MemKept s (s.wakeBy 2) := MemKept.after (m := 67108853) (by decide) (State.wakeBy_same ..) (MemKept.refl _)
  extract_lets s1
  split
  · exact MemKept.trans h (hf _)
  · exact h

theorem execSignal_memKept (n : Fin 16) (tch : Fin 32) (ch : BitVec 16) (due : Option (BitVec 64)) (payload : List (BitVec 8)) (s : State) : KeepsMem s (execSignal n tch ch due payload s) := by
  unfold execSignal
  repeat' with_reducible first
    | apply KeepsMem.next
    | exact MemKept.refl _
    | apply MemKept.trans _ (State.fromDock_memKept ..)
    | apply MemKept.trans _ (foldl_memKept _ _ _ (fun _ _ => ?_))
    | apply MemKept.trans _ (foldl_memKept1 _ _ _ (fun _ _ => ?_))
    | apply MemKept.ite
    | apply MemKept.ite1
    | apply MemKept.ite2
    | extract_lets
    | split
    | dsimp -zeta only
    | dsimp +zetaDelta only

theorem execIntr_memKept (n : Fin 16) (tch : Fin 32) (ch : BitVec 16) (due : Option (BitVec 64)) (payload : List (BitVec 8)) (s : State) : KeepsMem s (execIntr n tch ch due payload s) := by
  unfold execIntr
  repeat' with_reducible first
    | apply KeepsMem.next
    | exact MemKept.refl _
    | apply MemKept.trans _ (State.fromDock_memKept ..)
    | apply MemKept.trans _ (foldl_memKept _ _ _ (fun _ _ => ?_))
    | apply MemKept.trans _ (foldl_memKept1 _ _ _ (fun _ _ => ?_))
    | apply MemKept.ite
    | apply MemKept.ite1
    | apply MemKept.ite2
    | extract_lets
    | split
    | dsimp -zeta only
    | dsimp +zetaDelta only

theorem execRegAck_memKept (n : Fin 16) (tch : Fin 32) (q : BitVec 16) (status : BitVec 8) (s : State) : KeepsMem s (execRegAck n tch q status s) := by
  unfold execRegAck
  repeat' with_reducible first
    | apply KeepsMem.next
    | exact MemKept.refl _
    | apply MemKept.trans _ (State.respond_memKept ..)
    | apply MemKept.trans _ (foldl_memKept _ _ _ (fun _ _ => ?_))
    | apply MemKept.trans _ (foldl_memKept1 _ _ _ (fun _ _ => ?_))
    | apply MemKept.ite
    | apply MemKept.ite1
    | apply MemKept.ite2
    | extract_lets
    | split
    | dsimp -zeta only
    | dsimp +zetaDelta only

theorem execRegData_memKept (n : Fin 16) (tch : Fin 32) (q : BitVec 16) (status : BitVec 8) (d : List (BitVec 8)) (s : State) : KeepsMem s (execRegData n tch q status d s) := by
  unfold execRegData
  repeat' with_reducible first
    | apply KeepsMem.next
    | exact MemKept.refl _
    | apply MemKept.trans _ (State.respond_memKept ..)
    | apply MemKept.trans _ (foldl_memKept _ _ _ (fun _ _ => ?_))
    | apply MemKept.trans _ (foldl_memKept1 _ _ _ (fun _ _ => ?_))
    | apply MemKept.ite
    | apply MemKept.ite1
    | apply MemKept.ite2
    | extract_lets
    | split
    | dsimp -zeta only
    | dsimp +zetaDelta only

theorem execSigSend_memKept (h : Fin 32) (seq : Word) (ch : BitVec 16) (op : BitVec 8) (tag : BitVec 2) (axis : Fin 8) (dir : Bool) (value : BitVec 64) (payload : List (BitVec 8)) (s : State) : KeepsMem s (execSigSend h seq ch op tag axis dir value payload s) := by
  unfold execSigSend
  repeat' with_reducible first
    | apply KeepsMem.next
    | exact MemKept.refl _
    | apply MemKept.after (m := 66912245) (by decide) (State.sigFail_same ..)
    | apply MemKept.trans _ (State.sigEnter_memKept ..)
    | apply MemKept.trans _ (foldl_memKept _ _ _ (fun _ _ => ?_))
    | apply MemKept.trans _ (foldl_memKept1 _ _ _ (fun _ _ => ?_))
    | apply MemKept.ite
    | apply MemKept.ite1
    | apply MemKept.ite2
    | extract_lets
    | split
    | dsimp -zeta only
    | dsimp +zetaDelta only

theorem execHookTimeout_memKept (k : Fin 4) (s : State) : KeepsMem s (execHookTimeout k s) := by
  unfold execHookTimeout
  repeat' with_reducible first
    | apply KeepsMem.next
    | exact MemKept.refl _
    | apply MemKept.trans _ (State.hookFail_memKept ..)
    | apply MemKept.trans _ (foldl_memKept _ _ _ (fun _ _ => ?_))
    | apply MemKept.trans _ (foldl_memKept1 _ _ _ (fun _ _ => ?_))
    | apply MemKept.ite
    | apply MemKept.ite1
    | apply MemKept.ite2
    | extract_lets
    | split
    | dsimp -zeta only
    | dsimp +zetaDelta only

theorem execRouteValid_memKept (p : Path) (value : Word) (s : State) : KeepsMem s (execRouteValid p value s) := by
  unfold execRouteValid
  repeat' with_reducible first
    | apply KeepsMem.next
    | exact MemKept.refl _
    | apply MemKept.trans _ (State.write_memKept ..)
    | apply MemKept.trans _ (foldl_memKept _ _ _ (fun _ _ => ?_))
    | apply MemKept.trans _ (foldl_memKept1 _ _ _ (fun _ _ => ?_))
    | apply MemKept.ite
    | apply MemKept.ite1
    | apply MemKept.ite2
    | extract_lets
    | split
    | dsimp -zeta only
    | dsimp +zetaDelta only

theorem execDpfClr_memKept (p : Path) (s : State) : KeepsMem s (execDpfClr p s) := by
  unfold execDpfClr
  repeat' with_reducible first
    | apply KeepsMem.next
    | exact MemKept.refl _
    | apply MemKept.trans _ (State.write_memKept ..)
    | apply MemKept.trans _ (foldl_memKept _ _ _ (fun _ _ => ?_))
    | apply MemKept.trans _ (foldl_memKept1 _ _ _ (fun _ _ => ?_))
    | apply MemKept.ite
    | apply MemKept.ite1
    | apply MemKept.ite2
    | extract_lets
    | split
    | dsimp -zeta only
    | dsimp +zetaDelta only

theorem execEngBrcmd_memKept (p : Path) (e : Fin 24) (offset : BitVec 18) (s : State) : KeepsMem s (execEngBrcmd p e offset s) := by
  unfold execEngBrcmd
  repeat' with_reducible first
    | apply KeepsMem.next
    | exact MemKept.refl _
    | apply MemKept.trans _ (State.write_memKept ..)
    | apply MemKept.trans _ (foldl_memKept _ _ _ (fun _ _ => ?_))
    | apply MemKept.trans _ (foldl_memKept1 _ _ _ (fun _ _ => ?_))
    | apply MemKept.ite
    | apply MemKept.ite1
    | apply MemKept.ite2
    | extract_lets
    | split
    | dsimp -zeta only
    | dsimp +zetaDelta only

theorem execPllSwap_memKept (p : Path) (s : State) : KeepsMem s (execPllSwap p s) := by
  unfold execPllSwap
  repeat' with_reducible first
    | apply KeepsMem.next
    | exact MemKept.refl _
    | apply MemKept.trans _ (State.write_memKept ..)
    | apply MemKept.trans _ (foldl_memKept _ _ _ (fun _ _ => ?_))
    | apply MemKept.trans _ (foldl_memKept1 _ _ _ (fun _ _ => ?_))
    | apply MemKept.ite
    | apply MemKept.ite1
    | apply MemKept.ite2
    | extract_lets
    | split
    | dsimp -zeta only
    | dsimp +zetaDelta only

theorem execSeqStart_memKept (p : Path) (step : Fin 64) (s : State) : KeepsMem s (execSeqStart p step s) := by
  unfold execSeqStart
  repeat' with_reducible first
    | apply KeepsMem.next
    | exact MemKept.refl _
    | apply MemKept.trans _ (State.write_memKept ..)
    | apply MemKept.trans _ (foldl_memKept _ _ _ (fun _ _ => ?_))
    | apply MemKept.trans _ (foldl_memKept1 _ _ _ (fun _ _ => ?_))
    | apply MemKept.ite
    | apply MemKept.ite1
    | apply MemKept.ite2
    | extract_lets
    | split
    | dsimp -zeta only
    | dsimp +zetaDelta only

theorem execSeqStop_memKept (p : Path) (s : State) : KeepsMem s (execSeqStop p s) := by
  unfold execSeqStop
  repeat' with_reducible first
    | apply KeepsMem.next
    | exact MemKept.refl _
    | apply MemKept.trans _ (State.write_memKept ..)
    | apply MemKept.trans _ (foldl_memKept _ _ _ (fun _ _ => ?_))
    | apply MemKept.trans _ (foldl_memKept1 _ _ _ (fun _ _ => ?_))
    | apply MemKept.ite
    | apply MemKept.ite1
    | apply MemKept.ite2
    | extract_lets
    | split
    | dsimp -zeta only
    | dsimp +zetaDelta only

theorem execSeqContinue_memKept (p : Path) (next : Fin 64) (s : State) : KeepsMem s (execSeqContinue p next s) := by
  unfold execSeqContinue
  repeat' with_reducible first
    | apply KeepsMem.next
    | exact MemKept.refl _
    | apply MemKept.trans _ (State.write_memKept ..)
    | apply MemKept.trans _ (foldl_memKept _ _ _ (fun _ _ => ?_))
    | apply MemKept.trans _ (foldl_memKept1 _ _ _ (fun _ _ => ?_))
    | apply MemKept.ite
    | apply MemKept.ite1
    | apply MemKept.ite2
    | extract_lets
    | split
    | dsimp -zeta only
    | dsimp +zetaDelta only

theorem execSlip_memKept (p : Path) (n : Fin 16) (lane : Fin 2) (s : State) : KeepsMem s (execSlip p n lane s) := by
  unfold execSlip
  repeat' with_reducible first
    | apply KeepsMem.next
    | exact MemKept.refl _
    | apply MemKept.trans _ (State.write_memKept ..)
    | apply MemKept.trans _ (foldl_memKept _ _ _ (fun _ _ => ?_))
    | apply MemKept.trans _ (foldl_memKept1 _ _ _ (fun _ _ => ?_))
    | apply MemKept.ite
    | apply MemKept.ite1
    | apply MemKept.ite2
    | extract_lets
    | split
    | dsimp -zeta only
    | dsimp +zetaDelta only

theorem execDlRestart_memKept (p : Path) (n : Fin 16) (s : State) : KeepsMem s (execDlRestart p n s) := by
  unfold execDlRestart
  repeat' with_reducible first
    | apply KeepsMem.next
    | exact MemKept.refl _
    | apply MemKept.trans _ (State.write_memKept ..)
    | apply MemKept.trans _ (foldl_memKept _ _ _ (fun _ _ => ?_))
    | apply MemKept.trans _ (foldl_memKept1 _ _ _ (fun _ _ => ?_))
    | apply MemKept.ite
    | apply MemKept.ite1
    | apply MemKept.ite2
    | extract_lets
    | split
    | dsimp -zeta only
    | dsimp +zetaDelta only

theorem execEyeGo_memKept (p : Path) (value : Word) (s : State) : KeepsMem s (execEyeGo p value s) := by
  unfold execEyeGo
  repeat' with_reducible first
    | apply KeepsMem.next
    | exact MemKept.refl _
    | apply MemKept.trans _ (State.write_memKept ..)
    | apply MemKept.trans _ (foldl_memKept _ _ _ (fun _ _ => ?_))
    | apply MemKept.trans _ (foldl_memKept1 _ _ _ (fun _ _ => ?_))
    | apply MemKept.ite
    | apply MemKept.ite1
    | apply MemKept.ite2
    | extract_lets
    | split
    | dsimp -zeta only
    | dsimp +zetaDelta only

theorem execEyeStop_memKept (p : Path) (s : State) : KeepsMem s (execEyeStop p s) := by
  unfold execEyeStop
  repeat' with_reducible first
    | apply KeepsMem.next
    | exact MemKept.refl _
    | apply MemKept.trans _ (State.write_memKept ..)
    | apply MemKept.trans _ (foldl_memKept _ _ _ (fun _ _ => ?_))
    | apply MemKept.trans _ (foldl_memKept1 _ _ _ (fun _ _ => ?_))
    | apply MemKept.ite
    | apply MemKept.ite1
    | apply MemKept.ite2
    | extract_lets
    | split
    | dsimp -zeta only
    | dsimp +zetaDelta only

theorem execInjectOne_memKept (p : Path) (s : State) : KeepsMem s (execInjectOne p s) := by
  unfold execInjectOne
  repeat' with_reducible first
    | apply KeepsMem.next
    | exact MemKept.refl _
    | apply MemKept.trans _ (State.write_memKept ..)
    | apply MemKept.trans _ (foldl_memKept _ _ _ (fun _ _ => ?_))
    | apply MemKept.trans _ (foldl_memKept1 _ _ _ (fun _ _ => ?_))
    | apply MemKept.ite
    | apply MemKept.ite1
    | apply MemKept.ite2
    | extract_lets
    | split
    | dsimp -zeta only
    | dsimp +zetaDelta only

theorem execLkRetrain_memKept (p : Path) (n : Fin 16) (rate mask : BitVec 2) (s : State) : KeepsMem s (execLkRetrain p n rate mask s) := by
  unfold execLkRetrain
  repeat' with_reducible first
    | apply KeepsMem.next
    | exact MemKept.refl _
    | apply MemKept.trans _ (State.write_memKept ..)
    | apply MemKept.trans _ (foldl_memKept _ _ _ (fun _ _ => ?_))
    | apply MemKept.trans _ (foldl_memKept1 _ _ _ (fun _ _ => ?_))
    | apply MemKept.ite
    | apply MemKept.ite1
    | apply MemKept.ite2
    | extract_lets
    | split
    | dsimp -zeta only
    | dsimp +zetaDelta only

theorem execLkDown_memKept (p : Path) (n : Fin 16) (s : State) : KeepsMem s (execLkDown p n s) := by
  unfold execLkDown
  repeat' with_reducible first
    | apply KeepsMem.next
    | exact MemKept.refl _
    | apply MemKept.trans _ (State.write_memKept ..)
    | apply MemKept.trans _ (foldl_memKept _ _ _ (fun _ _ => ?_))
    | apply MemKept.trans _ (foldl_memKept1 _ _ _ (fun _ _ => ?_))
    | apply MemKept.ite
    | apply MemKept.ite1
    | apply MemKept.ite2
    | extract_lets
    | split
    | dsimp -zeta only
    | dsimp +zetaDelta only

theorem execChCmdOpen_memKept (p : Path) (n : Fin 16) (s : State) : KeepsMem s (execChCmdOpen p n s) := by
  unfold execChCmdOpen
  repeat' with_reducible first
    | apply KeepsMem.next
    | exact MemKept.refl _
    | apply MemKept.trans _ (State.write_memKept ..)
    | apply MemKept.trans _ (foldl_memKept _ _ _ (fun _ _ => ?_))
    | apply MemKept.trans _ (foldl_memKept1 _ _ _ (fun _ _ => ?_))
    | apply MemKept.ite
    | apply MemKept.ite1
    | apply MemKept.ite2
    | extract_lets
    | split
    | dsimp -zeta only
    | dsimp +zetaDelta only

theorem execChCmdClose_memKept (p : Path) (n : Fin 16) (s : State) : KeepsMem s (execChCmdClose p n s) := by
  unfold execChCmdClose
  repeat' with_reducible first
    | apply KeepsMem.next
    | exact MemKept.refl _
    | apply MemKept.trans _ (State.write_memKept ..)
    | apply MemKept.trans _ (foldl_memKept _ _ _ (fun _ _ => ?_))
    | apply MemKept.trans _ (foldl_memKept1 _ _ _ (fun _ _ => ?_))
    | apply MemKept.ite
    | apply MemKept.ite1
    | apply MemKept.ite2
    | extract_lets
    | split
    | dsimp -zeta only
    | dsimp +zetaDelta only

theorem execAdd_memKept (e : Fin 24) (gd ga gb : Fin 16) (s : State) : KeepsMem s (execAdd e gd ga gb s) := by
  unfold execAdd
  repeat' with_reducible first
    | apply KeepsMem.next
    | exact MemKept.refl _
    | apply MemKept.trans _ (State.aluR_memKept ..)
    | apply MemKept.trans _ (foldl_memKept _ _ _ (fun _ _ => ?_))
    | apply MemKept.trans _ (foldl_memKept1 _ _ _ (fun _ _ => ?_))
    | apply MemKept.ite
    | apply MemKept.ite1
    | apply MemKept.ite2
    | extract_lets
    | split
    | dsimp -zeta only
    | dsimp +zetaDelta only

theorem execSub_memKept (e : Fin 24) (gd ga gb : Fin 16) (s : State) : KeepsMem s (execSub e gd ga gb s) := by
  unfold execSub
  repeat' with_reducible first
    | apply KeepsMem.next
    | exact MemKept.refl _
    | apply MemKept.trans _ (State.aluR_memKept ..)
    | apply MemKept.trans _ (foldl_memKept _ _ _ (fun _ _ => ?_))
    | apply MemKept.trans _ (foldl_memKept1 _ _ _ (fun _ _ => ?_))
    | apply MemKept.ite
    | apply MemKept.ite1
    | apply MemKept.ite2
    | extract_lets
    | split
    | dsimp -zeta only
    | dsimp +zetaDelta only

theorem execAnd_memKept (e : Fin 24) (gd ga gb : Fin 16) (s : State) : KeepsMem s (execAnd e gd ga gb s) := by
  unfold execAnd
  repeat' with_reducible first
    | apply KeepsMem.next
    | exact MemKept.refl _
    | apply MemKept.trans _ (State.aluR_memKept ..)
    | apply MemKept.trans _ (foldl_memKept _ _ _ (fun _ _ => ?_))
    | apply MemKept.trans _ (foldl_memKept1 _ _ _ (fun _ _ => ?_))
    | apply MemKept.ite
    | apply MemKept.ite1
    | apply MemKept.ite2
    | extract_lets
    | split
    | dsimp -zeta only
    | dsimp +zetaDelta only

theorem execOr_memKept (e : Fin 24) (gd ga gb : Fin 16) (s : State) : KeepsMem s (execOr e gd ga gb s) := by
  unfold execOr
  repeat' with_reducible first
    | apply KeepsMem.next
    | exact MemKept.refl _
    | apply MemKept.trans _ (State.aluR_memKept ..)
    | apply MemKept.trans _ (foldl_memKept _ _ _ (fun _ _ => ?_))
    | apply MemKept.trans _ (foldl_memKept1 _ _ _ (fun _ _ => ?_))
    | apply MemKept.ite
    | apply MemKept.ite1
    | apply MemKept.ite2
    | extract_lets
    | split
    | dsimp -zeta only
    | dsimp +zetaDelta only

theorem execXor_memKept (e : Fin 24) (gd ga gb : Fin 16) (s : State) : KeepsMem s (execXor e gd ga gb s) := by
  unfold execXor
  repeat' with_reducible first
    | apply KeepsMem.next
    | exact MemKept.refl _
    | apply MemKept.trans _ (State.aluR_memKept ..)
    | apply MemKept.trans _ (foldl_memKept _ _ _ (fun _ _ => ?_))
    | apply MemKept.trans _ (foldl_memKept1 _ _ _ (fun _ _ => ?_))
    | apply MemKept.ite
    | apply MemKept.ite1
    | apply MemKept.ite2
    | extract_lets
    | split
    | dsimp -zeta only
    | dsimp +zetaDelta only

theorem execShl_memKept (e : Fin 24) (gd ga gb : Fin 16) (s : State) : KeepsMem s (execShl e gd ga gb s) := by
  unfold execShl
  repeat' with_reducible first
    | apply KeepsMem.next
    | exact MemKept.refl _
    | apply MemKept.trans _ (State.aluR_memKept ..)
    | apply MemKept.trans _ (foldl_memKept _ _ _ (fun _ _ => ?_))
    | apply MemKept.trans _ (foldl_memKept1 _ _ _ (fun _ _ => ?_))
    | apply MemKept.ite
    | apply MemKept.ite1
    | apply MemKept.ite2
    | extract_lets
    | split
    | dsimp -zeta only
    | dsimp +zetaDelta only

theorem execShr_memKept (e : Fin 24) (gd ga gb : Fin 16) (s : State) : KeepsMem s (execShr e gd ga gb s) := by
  unfold execShr
  repeat' with_reducible first
    | apply KeepsMem.next
    | exact MemKept.refl _
    | apply MemKept.trans _ (State.aluR_memKept ..)
    | apply MemKept.trans _ (foldl_memKept _ _ _ (fun _ _ => ?_))
    | apply MemKept.trans _ (foldl_memKept1 _ _ _ (fun _ _ => ?_))
    | apply MemKept.ite
    | apply MemKept.ite1
    | apply MemKept.ite2
    | extract_lets
    | split
    | dsimp -zeta only
    | dsimp +zetaDelta only

theorem execSar_memKept (e : Fin 24) (gd ga gb : Fin 16) (s : State) : KeepsMem s (execSar e gd ga gb s) := by
  unfold execSar
  repeat' with_reducible first
    | apply KeepsMem.next
    | exact MemKept.refl _
    | apply MemKept.trans _ (State.aluR_memKept ..)
    | apply MemKept.trans _ (foldl_memKept _ _ _ (fun _ _ => ?_))
    | apply MemKept.trans _ (foldl_memKept1 _ _ _ (fun _ _ => ?_))
    | apply MemKept.ite
    | apply MemKept.ite1
    | apply MemKept.ite2
    | extract_lets
    | split
    | dsimp -zeta only
    | dsimp +zetaDelta only

theorem execMul_memKept (e : Fin 24) (gd ga gb : Fin 16) (s : State) : KeepsMem s (execMul e gd ga gb s) := by
  unfold execMul
  repeat' with_reducible first
    | apply KeepsMem.next
    | exact MemKept.refl _
    | apply MemKept.trans _ (State.aluR_memKept ..)
    | apply MemKept.trans _ (foldl_memKept _ _ _ (fun _ _ => ?_))
    | apply MemKept.trans _ (foldl_memKept1 _ _ _ (fun _ _ => ?_))
    | apply MemKept.ite
    | apply MemKept.ite1
    | apply MemKept.ite2
    | extract_lets
    | split
    | dsimp -zeta only
    | dsimp +zetaDelta only

theorem execSltu_memKept (e : Fin 24) (gd ga gb : Fin 16) (s : State) : KeepsMem s (execSltu e gd ga gb s) := by
  unfold execSltu
  repeat' with_reducible first
    | apply KeepsMem.next
    | exact MemKept.refl _
    | apply MemKept.trans _ (State.aluR_memKept ..)
    | apply MemKept.trans _ (foldl_memKept _ _ _ (fun _ _ => ?_))
    | apply MemKept.trans _ (foldl_memKept1 _ _ _ (fun _ _ => ?_))
    | apply MemKept.ite
    | apply MemKept.ite1
    | apply MemKept.ite2
    | extract_lets
    | split
    | dsimp -zeta only
    | dsimp +zetaDelta only

theorem execAddi_memKept (e : Fin 24) (gd ga : Fin 16) (imm : BitVec 18) (s : State) : KeepsMem s (execAddi e gd ga imm s) := by
  unfold execAddi
  repeat' with_reducible first
    | apply KeepsMem.next
    | exact MemKept.refl _
    | apply MemKept.trans _ (State.aluI_memKept ..)
    | apply MemKept.trans _ (foldl_memKept _ _ _ (fun _ _ => ?_))
    | apply MemKept.trans _ (foldl_memKept1 _ _ _ (fun _ _ => ?_))
    | apply MemKept.ite
    | apply MemKept.ite1
    | apply MemKept.ite2
    | extract_lets
    | split
    | dsimp -zeta only
    | dsimp +zetaDelta only

theorem execAndi_memKept (e : Fin 24) (gd ga : Fin 16) (imm : BitVec 18) (s : State) : KeepsMem s (execAndi e gd ga imm s) := by
  unfold execAndi
  repeat' with_reducible first
    | apply KeepsMem.next
    | exact MemKept.refl _
    | apply MemKept.trans _ (State.aluI_memKept ..)
    | apply MemKept.trans _ (foldl_memKept _ _ _ (fun _ _ => ?_))
    | apply MemKept.trans _ (foldl_memKept1 _ _ _ (fun _ _ => ?_))
    | apply MemKept.ite
    | apply MemKept.ite1
    | apply MemKept.ite2
    | extract_lets
    | split
    | dsimp -zeta only
    | dsimp +zetaDelta only

theorem execOri_memKept (e : Fin 24) (gd ga : Fin 16) (imm : BitVec 18) (s : State) : KeepsMem s (execOri e gd ga imm s) := by
  unfold execOri
  repeat' with_reducible first
    | apply KeepsMem.next
    | exact MemKept.refl _
    | apply MemKept.trans _ (State.aluI_memKept ..)
    | apply MemKept.trans _ (foldl_memKept _ _ _ (fun _ _ => ?_))
    | apply MemKept.trans _ (foldl_memKept1 _ _ _ (fun _ _ => ?_))
    | apply MemKept.ite
    | apply MemKept.ite1
    | apply MemKept.ite2
    | extract_lets
    | split
    | dsimp -zeta only
    | dsimp +zetaDelta only

theorem execXori_memKept (e : Fin 24) (gd ga : Fin 16) (imm : BitVec 18) (s : State) : KeepsMem s (execXori e gd ga imm s) := by
  unfold execXori
  repeat' with_reducible first
    | apply KeepsMem.next
    | exact MemKept.refl _
    | apply MemKept.trans _ (State.aluI_memKept ..)
    | apply MemKept.trans _ (foldl_memKept _ _ _ (fun _ _ => ?_))
    | apply MemKept.trans _ (foldl_memKept1 _ _ _ (fun _ _ => ?_))
    | apply MemKept.ite
    | apply MemKept.ite1
    | apply MemKept.ite2
    | extract_lets
    | split
    | dsimp -zeta only
    | dsimp +zetaDelta only

theorem execLui_memKept (e : Fin 24) (gd _ga : Fin 16) (imm : BitVec 18) (s : State) : KeepsMem s (execLui e gd _ga imm s) := by
  unfold execLui
  repeat' with_reducible first
    | apply KeepsMem.next
    | exact MemKept.refl _
    | apply MemKept.trans _ (State.alu_memKept ..)
    | apply MemKept.trans _ (foldl_memKept _ _ _ (fun _ _ => ?_))
    | apply MemKept.trans _ (foldl_memKept1 _ _ _ (fun _ _ => ?_))
    | apply MemKept.ite
    | apply MemKept.ite1
    | apply MemKept.ite2
    | extract_lets
    | split
    | dsimp -zeta only
    | dsimp +zetaDelta only

theorem execLd_memKept (e : Fin 24) (gd ga : Fin 16) (imm : BitVec 18) (ecc : Ecc) (s : State) : KeepsMem s (execLd e gd ga imm ecc s) := by
  unfold execLd
  repeat' with_reducible first
    | apply KeepsMem.next
    | exact MemKept.refl _
    | apply MemKept.trans _ (State.instr_memKept _ _ _ (fun _ _ => ?_))
    | apply MemKept.trans _ (State.engTrap_memKept ..)
    | apply MemKept.trans _ (State.eccThen_memKept _ _ _ _ (fun _ => ?_))
    | apply MemKept.after (m := 66977791) (by decide) (State.loaded_same ..)
    | apply MemKept.after (m := 50327493) (by decide) (State.read_same ..)
    | apply MemKept.after (m := 50200575) (by decide) (State.stalled_same ..)
    | apply MemKept.trans _ (foldl_memKept _ _ _ (fun _ _ => ?_))
    | apply MemKept.trans _ (foldl_memKept1 _ _ _ (fun _ _ => ?_))
    | apply MemKept.ite
    | apply MemKept.ite1
    | apply MemKept.ite2
    | extract_lets
    | split
    | dsimp -zeta only
    | dsimp +zetaDelta only

theorem execSt_memKept (e : Fin 24) (gd ga : Fin 16) (imm : BitVec 18) (s : State) : KeepsMem s (execSt e gd ga imm s) := by
  unfold execSt
  repeat' with_reducible first
    | apply KeepsMem.next
    | exact MemKept.refl _
    | apply MemKept.trans _ (State.instr_memKept _ _ _ (fun _ _ => ?_))
    | apply MemKept.trans _ (State.engTrap_memKept ..)
    | apply MemKept.trans _ (State.journalFull_memKept ..)
    | apply MemKept.after (m := 66977791) (by decide) (State.setCore_same ..)
    | apply MemKept.trans _ (State.storeData_memKept ..)
    | apply MemKept.trans _ (State.setEngWord_memKept ..)
    | apply MemKept.trans _ (State.write_memKept ..)
    | apply MemKept.after (m := 50200575) (by decide) (State.stalled_same ..)
    | apply MemKept.trans _ (foldl_memKept _ _ _ (fun _ _ => ?_))
    | apply MemKept.trans _ (foldl_memKept1 _ _ _ (fun _ _ => ?_))
    | apply MemKept.ite
    | apply MemKept.ite1
    | apply MemKept.ite2
    | extract_lets
    | split
    | dsimp -zeta only
    | dsimp +zetaDelta only

theorem execLdb_memKept (e : Fin 24) (gd ga : Fin 16) (imm : BitVec 18) (ecc : Ecc) (s : State) : KeepsMem s (execLdb e gd ga imm ecc s) := by
  unfold execLdb
  repeat' with_reducible first
    | apply KeepsMem.next
    | exact MemKept.refl _
    | apply MemKept.trans _ (State.instr_memKept _ _ _ (fun _ _ => ?_))
    | apply MemKept.trans _ (State.eccThen_memKept _ _ _ _ (fun _ => ?_))
    | apply MemKept.after (m := 66977791) (by decide) (State.loaded_same ..)
    | apply MemKept.trans _ (State.engTrap_memKept ..)
    | apply MemKept.trans _ (foldl_memKept _ _ _ (fun _ _ => ?_))
    | apply MemKept.trans _ (foldl_memKept1 _ _ _ (fun _ _ => ?_))
    | apply MemKept.ite
    | apply MemKept.ite1
    | apply MemKept.ite2
    | extract_lets
    | split
    | dsimp -zeta only
    | dsimp +zetaDelta only

theorem execStb_memKept (e : Fin 24) (gd ga : Fin 16) (imm : BitVec 18) (ecc : Ecc) (s : State) : KeepsMem s (execStb e gd ga imm ecc s) := by
  unfold execStb
  repeat' with_reducible first
    | apply KeepsMem.next
    | exact MemKept.refl _
    | apply MemKept.trans _ (State.instr_memKept _ _ _ (fun _ _ => ?_))
    | apply MemKept.trans _ (State.eccThen_memKept _ _ _ _ (fun _ => ?_))
    | apply MemKept.trans _ (State.journalFull_memKept ..)
    | apply MemKept.after (m := 66977791) (by decide) (State.setCore_same ..)
    | apply MemKept.trans _ (State.storeData_memKept ..)
    | apply MemKept.trans _ (State.engTrap_memKept ..)
    | apply MemKept.trans _ (foldl_memKept _ _ _ (fun _ _ => ?_))
    | apply MemKept.trans _ (foldl_memKept1 _ _ _ (fun _ _ => ?_))
    | apply MemKept.ite
    | apply MemKept.ite1
    | apply MemKept.ite2
    | extract_lets
    | split
    | dsimp -zeta only
    | dsimp +zetaDelta only

theorem execBeq_memKept (e : Fin 24) (ga gb : Fin 16) (off : BitVec 18) (s : State) : KeepsMem s (execBeq e ga gb off s) := by
  unfold execBeq
  repeat' with_reducible first
    | apply KeepsMem.next
    | exact MemKept.refl _
    | apply MemKept.trans _ (State.branch_memKept ..)
    | apply MemKept.trans _ (foldl_memKept _ _ _ (fun _ _ => ?_))
    | apply MemKept.trans _ (foldl_memKept1 _ _ _ (fun _ _ => ?_))
    | apply MemKept.ite
    | apply MemKept.ite1
    | apply MemKept.ite2
    | extract_lets
    | split
    | dsimp -zeta only
    | dsimp +zetaDelta only

theorem execBne_memKept (e : Fin 24) (ga gb : Fin 16) (off : BitVec 18) (s : State) : KeepsMem s (execBne e ga gb off s) := by
  unfold execBne
  repeat' with_reducible first
    | apply KeepsMem.next
    | exact MemKept.refl _
    | apply MemKept.trans _ (State.branch_memKept ..)
    | apply MemKept.trans _ (foldl_memKept _ _ _ (fun _ _ => ?_))
    | apply MemKept.trans _ (foldl_memKept1 _ _ _ (fun _ _ => ?_))
    | apply MemKept.ite
    | apply MemKept.ite1
    | apply MemKept.ite2
    | extract_lets
    | split
    | dsimp -zeta only
    | dsimp +zetaDelta only

theorem execBlt_memKept (e : Fin 24) (ga gb : Fin 16) (off : BitVec 18) (s : State) : KeepsMem s (execBlt e ga gb off s) := by
  unfold execBlt
  repeat' with_reducible first
    | apply KeepsMem.next
    | exact MemKept.refl _
    | apply MemKept.trans _ (State.branch_memKept ..)
    | apply MemKept.trans _ (foldl_memKept _ _ _ (fun _ _ => ?_))
    | apply MemKept.trans _ (foldl_memKept1 _ _ _ (fun _ _ => ?_))
    | apply MemKept.ite
    | apply MemKept.ite1
    | apply MemKept.ite2
    | extract_lets
    | split
    | dsimp -zeta only
    | dsimp +zetaDelta only

theorem execBltu_memKept (e : Fin 24) (ga gb : Fin 16) (off : BitVec 18) (s : State) : KeepsMem s (execBltu e ga gb off s) := by
  unfold execBltu
  repeat' with_reducible first
    | apply KeepsMem.next
    | exact MemKept.refl _
    | apply MemKept.trans _ (State.branch_memKept ..)
    | apply MemKept.trans _ (foldl_memKept _ _ _ (fun _ _ => ?_))
    | apply MemKept.trans _ (foldl_memKept1 _ _ _ (fun _ _ => ?_))
    | apply MemKept.ite
    | apply MemKept.ite1
    | apply MemKept.ite2
    | extract_lets
    | split
    | dsimp -zeta only
    | dsimp +zetaDelta only

theorem execJal_memKept (e : Fin 24) (gd : Fin 16) (off : BitVec 22) (s : State) : KeepsMem s (execJal e gd off s) := by
  unfold execJal
  repeat' with_reducible first
    | apply KeepsMem.next
    | exact MemKept.refl _
    | apply MemKept.trans _ (State.jump_memKept ..)
    | apply MemKept.trans _ (foldl_memKept _ _ _ (fun _ _ => ?_))
    | apply MemKept.trans _ (foldl_memKept1 _ _ _ (fun _ _ => ?_))
    | apply MemKept.ite
    | apply MemKept.ite1
    | apply MemKept.ite2
    | extract_lets
    | split
    | dsimp -zeta only
    | dsimp +zetaDelta only

theorem execJr_memKept (e : Fin 24) (gd ga : Fin 16) (imm : BitVec 18) (s : State) : KeepsMem s (execJr e gd ga imm s) := by
  unfold execJr
  repeat' with_reducible first
    | apply KeepsMem.next
    | exact MemKept.refl _
    | apply MemKept.trans _ (State.jump_memKept ..)
    | apply MemKept.trans _ (foldl_memKept _ _ _ (fun _ _ => ?_))
    | apply MemKept.trans _ (foldl_memKept1 _ _ _ (fun _ _ => ?_))
    | apply MemKept.ite
    | apply MemKept.ite1
    | apply MemKept.ite2
    | extract_lets
    | split
    | dsimp -zeta only
    | dsimp +zetaDelta only

theorem execCsrr_memKept (e : Fin 24) (gd : Fin 16) (csr : BitVec 18) (s : State) : KeepsMem s (execCsrr e gd csr s) := by
  unfold execCsrr
  repeat' with_reducible first
    | apply KeepsMem.next
    | exact MemKept.refl _
    | apply MemKept.trans _ (State.instr_memKept _ _ _ (fun _ _ => ?_))
    | apply MemKept.after (m := 50327551) (by decide) (State.csrRead_same ..)
    | apply MemKept.after (m := 66977791) (by decide) (State.setCore_same ..)
    | apply MemKept.trans _ (foldl_memKept _ _ _ (fun _ _ => ?_))
    | apply MemKept.trans _ (foldl_memKept1 _ _ _ (fun _ _ => ?_))
    | apply MemKept.ite
    | apply MemKept.ite1
    | apply MemKept.ite2
    | extract_lets
    | split
    | dsimp -zeta only
    | dsimp +zetaDelta only

theorem execCsrw_memKept (e : Fin 24) (ga : Fin 16) (csr : BitVec 18) (s : State) : KeepsMem s (execCsrw e ga csr s) := by
  unfold execCsrw
  repeat' with_reducible first
    | apply KeepsMem.next
    | exact MemKept.refl _
    | apply MemKept.trans _ (State.instr_memKept _ _ _ (fun _ _ => ?_))
    | apply MemKept.after (m := 66977791) (by decide) (State.setCore_same ..)
    | apply MemKept.trans _ (foldl_memKept _ _ _ (fun _ _ => ?_))
    | apply MemKept.trans _ (foldl_memKept1 _ _ _ (fun _ _ => ?_))
    | apply MemKept.ite
    | apply MemKept.ite1
    | apply MemKept.ite2
    | extract_lets
    | split
    | dsimp -zeta only
    | dsimp +zetaDelta only

theorem execWait_memKept (e : Fin 24) (s : State) : KeepsMem s (execWait e s) := by
  unfold execWait
  repeat' with_reducible first
    | apply KeepsMem.next
    | exact MemKept.refl _
    | apply MemKept.trans _ (State.instr_memKept _ _ _ (fun _ _ => ?_))
    | apply MemKept.after (m := 66977791) (by decide) (State.setCore_same ..)
    | apply MemKept.after (m := 67108861) (by decide) (State.set_same ..)
    | apply MemKept.trans _ (foldl_memKept _ _ _ (fun _ _ => ?_))
    | apply MemKept.trans _ (foldl_memKept1 _ _ _ (fun _ _ => ?_))
    | apply MemKept.ite
    | apply MemKept.ite1
    | apply MemKept.ite2
    | extract_lets
    | split
    | dsimp -zeta only
    | dsimp +zetaDelta only

theorem execRetn_memKept (e : Fin 24) (s : State) : KeepsMem s (execRetn e s) := by
  unfold execRetn
  repeat' with_reducible first
    | apply KeepsMem.next
    | exact MemKept.refl _
    | apply MemKept.trans _ (State.instr_memKept _ _ _ (fun _ _ => ?_))
    | apply MemKept.after (m := 66977791) (by decide) (State.setCore_same ..)
    | apply MemKept.trans _ (foldl_memKept _ _ _ (fun _ _ => ?_))
    | apply MemKept.trans _ (foldl_memKept1 _ _ _ (fun _ _ => ?_))
    | apply MemKept.ite
    | apply MemKept.ite1
    | apply MemKept.ite2
    | extract_lets
    | split
    | dsimp -zeta only
    | dsimp +zetaDelta only

theorem execRetf_memKept (e : Fin 24) (s : State) : KeepsMem s (execRetf e s) := by
  unfold execRetf
  repeat' with_reducible first
    | apply KeepsMem.next
    | exact MemKept.refl _
    | apply MemKept.trans _ (State.instr_memKept _ _ _ (fun _ _ => ?_))
    | apply MemKept.after (m := 66977791) (by decide) (State.setCore_same ..)
    | apply MemKept.trans _ (foldl_memKept _ _ _ (fun _ _ => ?_))
    | apply MemKept.trans _ (foldl_memKept1 _ _ _ (fun _ _ => ?_))
    | apply MemKept.ite
    | apply MemKept.ite1
    | apply MemKept.ite2
    | extract_lets
    | split
    | dsimp -zeta only
    | dsimp +zetaDelta only

theorem execCkpt_memKept (e : Fin 24) (s : State) : KeepsMem s (execCkpt e s) := by
  unfold execCkpt
  repeat' with_reducible first
    | apply KeepsMem.next
    | exact MemKept.refl _
    | apply MemKept.trans _ (State.instr_memKept _ _ _ (fun _ _ => ?_))
    | apply MemKept.after (m := 66977791) (by decide) (State.setCore_same ..)
    | apply MemKept.trans _ (State.ckptNow_memKept ..)
    | apply MemKept.trans _ (foldl_memKept _ _ _ (fun _ _ => ?_))
    | apply MemKept.trans _ (foldl_memKept1 _ _ _ (fun _ _ => ?_))
    | apply MemKept.ite
    | apply MemKept.ite1
    | apply MemKept.ite2
    | extract_lets
    | split
    | dsimp -zeta only
    | dsimp +zetaDelta only

theorem execFence_memKept (e : Fin 24) (s : State) : KeepsMem s (execFence e s) := by
  unfold execFence
  repeat' with_reducible first
    | apply KeepsMem.next
    | exact MemKept.refl _
    | apply MemKept.trans _ (State.instr_memKept _ _ _ (fun _ _ => ?_))
    | apply MemKept.after (m := 66977791) (by decide) (State.setCore_same ..)
    | apply MemKept.trans _ (foldl_memKept _ _ _ (fun _ _ => ?_))
    | apply MemKept.trans _ (foldl_memKept1 _ _ _ (fun _ _ => ?_))
    | apply MemKept.ite
    | apply MemKept.ite1
    | apply MemKept.ite2
    | extract_lets
    | split
    | dsimp -zeta only
    | dsimp +zetaDelta only

theorem execTrap_memKept (e : Fin 24) (cause : TrapCause) (s : State) : KeepsMem s (execTrap e cause s) := by
  unfold execTrap
  repeat' with_reducible first
    | apply KeepsMem.next
    | exact MemKept.refl _
    | apply MemKept.trans _ (State.instr_memKept _ _ _ (fun _ _ => ?_))
    | apply MemKept.trans _ (State.engTrap_memKept ..)
    | apply MemKept.trans _ (foldl_memKept _ _ _ (fun _ _ => ?_))
    | apply MemKept.trans _ (foldl_memKept1 _ _ _ (fun _ _ => ?_))
    | apply MemKept.ite
    | apply MemKept.ite1
    | apply MemKept.ite2
    | extract_lets
    | split
    | dsimp -zeta only
    | dsimp +zetaDelta only

theorem execIllegalInstruction_memKept (e : Fin 24) (s : State) : KeepsMem s (execIllegalInstruction e s) := by
  unfold execIllegalInstruction
  repeat' with_reducible first
    | apply KeepsMem.next
    | exact MemKept.refl _
    | apply MemKept.trans _ (State.instr_memKept _ _ _ (fun _ _ => ?_))
    | apply MemKept.trans _ (State.engTrap_memKept ..)
    | apply MemKept.trans _ (foldl_memKept _ _ _ (fun _ _ => ?_))
    | apply MemKept.trans _ (foldl_memKept1 _ _ _ (fun _ _ => ?_))
    | apply MemKept.ite
    | apply MemKept.ite1
    | apply MemKept.ite2
    | extract_lets
    | split
    | dsimp -zeta only
    | dsimp +zetaDelta only

theorem execWatchdog_memKept (e : Fin 24) (s : State) : KeepsMem s (execWatchdog e s) := by
  unfold execWatchdog
  repeat' with_reducible first
    | apply KeepsMem.next
    | exact MemKept.refl _
    | apply MemKept.trans _ (State.engFault_memKept ..)
    | apply MemKept.trans _ (foldl_memKept _ _ _ (fun _ _ => ?_))
    | apply MemKept.trans _ (foldl_memKept1 _ _ _ (fun _ _ => ?_))
    | apply MemKept.ite
    | apply MemKept.ite1
    | apply MemKept.ite2
    | extract_lets
    | split
    | dsimp -zeta only
    | dsimp +zetaDelta only

theorem execEngineFault_memKept (e : Fin 24) (s : State) : KeepsMem s (execEngineFault e s) := by
  unfold execEngineFault
  repeat' with_reducible first
    | apply KeepsMem.next
    | exact MemKept.refl _
    | apply MemKept.after (m := 50192373) (by decide) (State.mismatch_same ..)
    | apply MemKept.after (m := 67100661) (by decide) (State.engHalt_same ..)
    | apply MemKept.trans _ (State.engFault_memKept ..)
    | apply MemKept.trans _ (foldl_memKept _ _ _ (fun _ _ => ?_))
    | apply MemKept.trans _ (foldl_memKept1 _ _ _ (fun _ _ => ?_))
    | apply MemKept.ite
    | apply MemKept.ite1
    | apply MemKept.ite2
    | extract_lets
    | split
    | dsimp -zeta only
    | dsimp +zetaDelta only

theorem execAutoCkpt_memKept (s : State) : KeepsMem s (execAutoCkpt s) := by
  unfold execAutoCkpt
  repeat' with_reducible first
    | apply KeepsMem.next
    | exact MemKept.refl _
    | apply MemKept.trans _ (State.ckptNow_memKept ..)
    | apply MemKept.trans _ (foldl_memKept _ _ _ (fun _ _ => ?_))
    | apply MemKept.trans _ (foldl_memKept1 _ _ _ (fun _ _ => ?_))
    | apply MemKept.ite
    | apply MemKept.ite1
    | apply MemKept.ite2
    | extract_lets
    | split
    | dsimp -zeta only
    | dsimp +zetaDelta only

theorem execEngLoad_memKept (h : Fin 32) (seq : Word) (eng : BitVec 8) (prog : List (BitVec 8)) (len : Word) (sig : ProgSig) (s : State) : KeepsMem s (execEngLoad h seq eng prog len sig s) := by
  unfold execEngLoad
  repeat' with_reducible first
    | apply KeepsMem.next
    | exact MemKept.refl _
    | apply MemKept.after (m := 67108855) (by decide) (State.complete_same ..)
    | apply MemKept.trans _ (State.clearMem_memKept ..)
    | apply MemKept.trans _ (State.engStop_memKept ..)
    | apply MemKept.after (m := 67108853) (by decide) (State.loadFails_same ..)
    | apply MemKept.after (m := 67108855) (by decide) (State.raise_same ..)
    | apply MemKept.after (m := 66977765) (by decide) (State.engStart_same ..)
    | apply MemKept.trans _ (State.loadWords_memKept ..)
    | apply MemKept.trans _ (foldl_memKept _ _ _ (fun _ _ => ?_))
    | apply MemKept.trans _ (foldl_memKept1 _ _ _ (fun _ _ => ?_))
    | apply MemKept.ite
    | apply MemKept.ite1
    | apply MemKept.ite2
    | extract_lets
    | split
    | dsimp -zeta only
    | dsimp +zetaDelta only

theorem execEngStop_memKept (h : Fin 32) (seq : Word) (eng : BitVec 8) (s : State) : KeepsMem s (execEngStop h seq eng s) := by
  unfold execEngStop
  repeat' with_reducible first
    | apply KeepsMem.next
    | exact MemKept.refl _
    | apply MemKept.after (m := 67108855) (by decide) (State.complete_same ..)
    | apply MemKept.trans _ (State.engStop_memKept ..)
    | apply MemKept.trans _ (foldl_memKept _ _ _ (fun _ _ => ?_))
    | apply MemKept.trans _ (foldl_memKept1 _ _ _ (fun _ _ => ?_))
    | apply MemKept.ite
    | apply MemKept.ite1
    | apply MemKept.ite2
    | extract_lets
    | split
    | dsimp -zeta only
    | dsimp +zetaDelta only

theorem execEngCtrlStart_memKept (p : Path) (e : Fin 24) (s : State) : KeepsMem s (execEngCtrlStart p e s) := by
  unfold execEngCtrlStart
  repeat' with_reducible first
    | apply KeepsMem.next
    | exact MemKept.refl _
    | apply MemKept.trans _ (State.write_memKept ..)
    | apply MemKept.trans _ (foldl_memKept _ _ _ (fun _ _ => ?_))
    | apply MemKept.trans _ (foldl_memKept1 _ _ _ (fun _ _ => ?_))
    | apply MemKept.ite
    | apply MemKept.ite1
    | apply MemKept.ite2
    | extract_lets
    | split
    | dsimp -zeta only
    | dsimp +zetaDelta only

theorem execEngCtrlStop_memKept (p : Path) (e : Fin 24) (s : State) : KeepsMem s (execEngCtrlStop p e s) := by
  unfold execEngCtrlStop
  repeat' with_reducible first
    | apply KeepsMem.next
    | exact MemKept.refl _
    | apply MemKept.trans _ (State.write_memKept ..)
    | apply MemKept.trans _ (foldl_memKept _ _ _ (fun _ _ => ?_))
    | apply MemKept.trans _ (foldl_memKept1 _ _ _ (fun _ _ => ?_))
    | apply MemKept.ite
    | apply MemKept.ite1
    | apply MemKept.ite2
    | extract_lets
    | split
    | dsimp -zeta only
    | dsimp +zetaDelta only

theorem execMwDataAccess_memKept (p : Path) (value : Option Word) (s : State) : KeepsMem s (execMwDataAccess p value s) := by
  unfold execMwDataAccess
  repeat' with_reducible first
    | apply KeepsMem.next
    | exact MemKept.refl _
    | apply MemKept.trans _ (State.write_memKept ..)
    | apply MemKept.after (m := 50327493) (by decide) (State.readOut_same ..)
    | apply MemKept.trans _ (foldl_memKept _ _ _ (fun _ _ => ?_))
    | apply MemKept.trans _ (foldl_memKept1 _ _ _ (fun _ _ => ?_))
    | apply MemKept.ite
    | apply MemKept.ite1
    | apply MemKept.ite2
    | extract_lets
    | split
    | dsimp -zeta only
    | dsimp +zetaDelta only

theorem execTxnCommit_memKept (p : Path) (value : Word) (s : State) : KeepsMem s (execTxnCommit p value s) := by
  unfold execTxnCommit
  repeat' with_reducible first
    | apply KeepsMem.next
    | exact MemKept.refl _
    | apply MemKept.trans _ (State.writeVia_memKept _ _ _ _ _ _ (fun _ => ?_))
    | apply MemKept.trans _ (State.txnCommit_memKept ..)
    | apply MemKept.trans _ (foldl_memKept _ _ _ (fun _ _ => ?_))
    | apply MemKept.trans _ (foldl_memKept1 _ _ _ (fun _ _ => ?_))
    | apply MemKept.ite
    | apply MemKept.ite1
    | apply MemKept.ite2
    | extract_lets
    | split
    | dsimp -zeta only
    | dsimp +zetaDelta only

theorem execAtTimeCommit_memKept (slot : Fin 8) (s : State) : KeepsMem s (execAtTimeCommit slot s) := by
  unfold execAtTimeCommit
  repeat' with_reducible first
    | apply KeepsMem.next
    | exact MemKept.refl _
    | apply MemKept.trans _ (State.instantMet_memKept ..)
    | apply MemKept.trans _ (State.settled_memKept ..)
    | apply MemKept.after (m := 67108847) (by decide) (State.markMet_same ..)
    | apply MemKept.trans _ (foldl_memKept _ _ _ (fun _ _ => ?_))
    | apply MemKept.trans _ (foldl_memKept1 _ _ _ (fun _ _ => ?_))
    | apply MemKept.ite
    | apply MemKept.ite1
    | apply MemKept.ite2
    | extract_lets
    | split
    | dsimp -zeta only
    | dsimp +zetaDelta only

theorem execPdCmdExit_memKept (p : Path) (n : Fin 16) (s : State) : KeepsMem s (execPdCmdExit p n s) := by
  unfold execPdCmdExit
  repeat' with_reducible first
    | apply KeepsMem.next
    | exact MemKept.refl _
    | apply MemKept.trans _ (State.write_memKept ..)
    | apply MemKept.trans _ (foldl_memKept _ _ _ (fun _ _ => ?_))
    | apply MemKept.trans _ (foldl_memKept1 _ _ _ (fun _ _ => ?_))
    | apply MemKept.ite
    | apply MemKept.ite1
    | apply MemKept.ite2
    | extract_lets
    | split
    | dsimp -zeta only
    | dsimp +zetaDelta only

theorem execPdCmdEnter_memKept (p : Path) (n : Fin 16) (s : State) : KeepsMem s (execPdCmdEnter p n s) := by
  unfold execPdCmdEnter
  repeat' with_reducible first
    | apply KeepsMem.next
    | exact MemKept.refl _
    | apply MemKept.trans _ (State.write_memKept ..)
    | apply MemKept.trans _ (foldl_memKept _ _ _ (fun _ _ => ?_))
    | apply MemKept.trans _ (foldl_memKept1 _ _ _ (fun _ _ => ?_))
    | apply MemKept.ite
    | apply MemKept.ite1
    | apply MemKept.ite2
    | extract_lets
    | split
    | dsimp -zeta only
    | dsimp +zetaDelta only

theorem execPdCmdSendCaps_memKept (p : Path) (n : Fin 16) (s : State) : KeepsMem s (execPdCmdSendCaps p n s) := by
  unfold execPdCmdSendCaps
  repeat' with_reducible first
    | apply KeepsMem.next
    | exact MemKept.refl _
    | apply MemKept.trans _ (State.write_memKept ..)
    | apply MemKept.trans _ (foldl_memKept _ _ _ (fun _ _ => ?_))
    | apply MemKept.trans _ (foldl_memKept1 _ _ _ (fun _ _ => ?_))
    | apply MemKept.ite
    | apply MemKept.ite1
    | apply MemKept.ite2
    | extract_lets
    | split
    | dsimp -zeta only
    | dsimp +zetaDelta only

theorem execPdCmdDrSwap_memKept (p : Path) (n : Fin 16) (s : State) : KeepsMem s (execPdCmdDrSwap p n s) := by
  unfold execPdCmdDrSwap
  repeat' with_reducible first
    | apply KeepsMem.next
    | exact MemKept.refl _
    | apply MemKept.trans _ (State.write_memKept ..)
    | apply MemKept.trans _ (foldl_memKept _ _ _ (fun _ _ => ?_))
    | apply MemKept.trans _ (foldl_memKept1 _ _ _ (fun _ _ => ?_))
    | apply MemKept.ite
    | apply MemKept.ite1
    | apply MemKept.ite2
    | extract_lets
    | split
    | dsimp -zeta only
    | dsimp +zetaDelta only

theorem execPdCmdPrSwap_memKept (p : Path) (n : Fin 16) (s : State) : KeepsMem s (execPdCmdPrSwap p n s) := by
  unfold execPdCmdPrSwap
  repeat' with_reducible first
    | apply KeepsMem.next
    | exact MemKept.refl _
    | apply MemKept.trans _ (State.write_memKept ..)
    | apply MemKept.trans _ (foldl_memKept _ _ _ (fun _ _ => ?_))
    | apply MemKept.trans _ (foldl_memKept1 _ _ _ (fun _ _ => ?_))
    | apply MemKept.ite
    | apply MemKept.ite1
    | apply MemKept.ite2
    | extract_lets
    | split
    | dsimp -zeta only
    | dsimp +zetaDelta only

theorem execPdCmdSoftReset_memKept (p : Path) (n : Fin 16) (s : State) : KeepsMem s (execPdCmdSoftReset p n s) := by
  unfold execPdCmdSoftReset
  repeat' with_reducible first
    | apply KeepsMem.next
    | exact MemKept.refl _
    | apply MemKept.trans _ (State.write_memKept ..)
    | apply MemKept.trans _ (foldl_memKept _ _ _ (fun _ _ => ?_))
    | apply MemKept.trans _ (foldl_memKept1 _ _ _ (fun _ _ => ?_))
    | apply MemKept.ite
    | apply MemKept.ite1
    | apply MemKept.ite2
    | extract_lets
    | split
    | dsimp -zeta only
    | dsimp +zetaDelta only

theorem execPdCmdHardReset_memKept (p : Path) (n : Fin 16) (s : State) : KeepsMem s (execPdCmdHardReset p n s) := by
  unfold execPdCmdHardReset
  repeat' with_reducible first
    | apply KeepsMem.next
    | exact MemKept.refl _
    | apply MemKept.trans _ (State.write_memKept ..)
    | apply MemKept.trans _ (foldl_memKept _ _ _ (fun _ _ => ?_))
    | apply MemKept.trans _ (foldl_memKept1 _ _ _ (fun _ _ => ?_))
    | apply MemKept.ite
    | apply MemKept.ite1
    | apply MemKept.ite2
    | extract_lets
    | split
    | dsimp -zeta only
    | dsimp +zetaDelta only

theorem execPdSrcWrite_memKept (p : Path) (n : Fin 16) (value : Word) (s : State) : KeepsMem s (execPdSrcWrite p n value s) := by
  unfold execPdSrcWrite
  repeat' with_reducible first
    | apply KeepsMem.next
    | exact MemKept.refl _
    | apply MemKept.trans _ (State.write_memKept ..)
    | apply MemKept.trans _ (foldl_memKept _ _ _ (fun _ _ => ?_))
    | apply MemKept.trans _ (foldl_memKept1 _ _ _ (fun _ _ => ?_))
    | apply MemKept.ite
    | apply MemKept.ite1
    | apply MemKept.ite2
    | extract_lets
    | split
    | dsimp -zeta only
    | dsimp +zetaDelta only

theorem execPdDisable_memKept (p : Path) (n : Fin 16) (s : State) : KeepsMem s (execPdDisable p n s) := by
  unfold execPdDisable
  repeat' with_reducible first
    | apply KeepsMem.next
    | exact MemKept.refl _
    | apply MemKept.trans _ (State.write_memKept ..)
    | apply MemKept.trans _ (foldl_memKept _ _ _ (fun _ _ => ?_))
    | apply MemKept.trans _ (foldl_memKept1 _ _ _ (fun _ _ => ?_))
    | apply MemKept.ite
    | apply MemKept.ite1
    | apply MemKept.ite2
    | extract_lets
    | split
    | dsimp -zeta only
    | dsimp +zetaDelta only

theorem execRegionEnable_memKept (p : Path) (r : Fin 16) (value : Word) (s : State) : KeepsMem s (execRegionEnable p r value s) := by
  unfold execRegionEnable
  repeat' with_reducible first
    | apply KeepsMem.next
    | exact MemKept.refl _
    | apply MemKept.trans _ (State.write_memKept ..)
    | apply MemKept.trans _ (foldl_memKept _ _ _ (fun _ _ => ?_))
    | apply MemKept.trans _ (foldl_memKept1 _ _ _ (fun _ _ => ?_))
    | apply MemKept.ite
    | apply MemKept.ite1
    | apply MemKept.ite2
    | extract_lets
    | split
    | dsimp -zeta only
    | dsimp +zetaDelta only

theorem execRegionRecall_memKept (p : Path) (r : Fin 16) (s : State) : KeepsMem s (execRegionRecall p r s) := by
  unfold execRegionRecall
  repeat' with_reducible first
    | apply KeepsMem.next
    | exact MemKept.refl _
    | apply MemKept.trans _ (State.write_memKept ..)
    | apply MemKept.trans _ (foldl_memKept _ _ _ (fun _ _ => ?_))
    | apply MemKept.trans _ (foldl_memKept1 _ _ _ (fun _ _ => ?_))
    | apply MemKept.ite
    | apply MemKept.ite1
    | apply MemKept.ite2
    | extract_lets
    | split
    | dsimp -zeta only
    | dsimp +zetaDelta only

theorem execWindowEnable_memKept (p : Path) (cream : Bool) (s : State) : KeepsMem s (execWindowEnable p cream s) := by
  unfold execWindowEnable
  repeat' with_reducible first
    | apply KeepsMem.next
    | exact MemKept.refl _
    | apply MemKept.trans _ (State.write_memKept ..)
    | apply MemKept.trans _ (foldl_memKept _ _ _ (fun _ _ => ?_))
    | apply MemKept.trans _ (foldl_memKept1 _ _ _ (fun _ _ => ?_))
    | apply MemKept.ite
    | apply MemKept.ite1
    | apply MemKept.ite2
    | extract_lets
    | split
    | dsimp -zeta only
    | dsimp +zetaDelta only

theorem execWindowRecall_memKept (p : Path) (s : State) : KeepsMem s (execWindowRecall p s) := by
  unfold execWindowRecall
  repeat' with_reducible first
    | apply KeepsMem.next
    | exact MemKept.refl _
    | apply MemKept.trans _ (State.write_memKept ..)
    | apply MemKept.trans _ (foldl_memKept _ _ _ (fun _ _ => ?_))
    | apply MemKept.trans _ (foldl_memKept1 _ _ _ (fun _ _ => ?_))
    | apply MemKept.ite
    | apply MemKept.ite1
    | apply MemKept.ite2
    | extract_lets
    | split
    | dsimp -zeta only
    | dsimp +zetaDelta only

theorem execPoolLostClr_memKept (p : Path) (ports : BitVec 16) (s : State) : KeepsMem s (execPoolLostClr p ports s) := by
  unfold execPoolLostClr
  repeat' with_reducible first
    | apply KeepsMem.next
    | exact MemKept.refl _
    | apply MemKept.trans _ (State.write_memKept ..)
    | apply MemKept.trans _ (foldl_memKept _ _ _ (fun _ _ => ?_))
    | apply MemKept.trans _ (foldl_memKept1 _ _ _ (fun _ _ => ?_))
    | apply MemKept.ite
    | apply MemKept.ite1
    | apply MemKept.ite2
    | extract_lets
    | split
    | dsimp -zeta only
    | dsimp +zetaDelta only

theorem execCrDrop_memKept (p : Path) (n : Fin 8) (s : State) : KeepsMem s (execCrDrop p n s) := by
  unfold execCrDrop
  repeat' with_reducible first
    | apply KeepsMem.next
    | exact MemKept.refl _
    | apply MemKept.trans _ (State.write_memKept ..)
    | apply MemKept.trans _ (foldl_memKept _ _ _ (fun _ _ => ?_))
    | apply MemKept.trans _ (foldl_memKept1 _ _ _ (fun _ _ => ?_))
    | apply MemKept.ite
    | apply MemKept.ite1
    | apply MemKept.ite2
    | extract_lets
    | split
    | dsimp -zeta only
    | dsimp +zetaDelta only

theorem execCrDisable_memKept (p : Path) (n : Fin 8) (s : State) : KeepsMem s (execCrDisable p n s) := by
  unfold execCrDisable
  repeat' with_reducible first
    | apply KeepsMem.next
    | exact MemKept.refl _
    | apply MemKept.trans _ (State.write_memKept ..)
    | apply MemKept.trans _ (foldl_memKept _ _ _ (fun _ _ => ?_))
    | apply MemKept.trans _ (foldl_memKept1 _ _ _ (fun _ _ => ?_))
    | apply MemKept.ite
    | apply MemKept.ite1
    | apply MemKept.ite2
    | extract_lets
    | split
    | dsimp -zeta only
    | dsimp +zetaDelta only

theorem execSliceForce_memKept (p : Path) (d : Fin 32) (s : State) : KeepsMem s (execSliceForce p d s) := by
  unfold execSliceForce
  repeat' with_reducible first
    | apply KeepsMem.next
    | exact MemKept.refl _
    | apply MemKept.trans _ (State.write_memKept ..)
    | apply MemKept.trans _ (foldl_memKept _ _ _ (fun _ _ => ?_))
    | apply MemKept.trans _ (foldl_memKept1 _ _ _ (fun _ _ => ?_))
    | apply MemKept.ite
    | apply MemKept.ite1
    | apply MemKept.ite2
    | extract_lets
    | split
    | dsimp -zeta only
    | dsimp +zetaDelta only

theorem execByAddr_memKept (p : Path) (s : State) : KeepsMem s (execByAddr p s) := by
  unfold execByAddr
  repeat' with_reducible first
    | apply KeepsMem.next
    | exact MemKept.refl _
    | apply MemKept.trans _ (State.write_memKept ..)
    | apply MemKept.trans _ (foldl_memKept _ _ _ (fun _ _ => ?_))
    | apply MemKept.trans _ (foldl_memKept1 _ _ _ (fun _ _ => ?_))
    | apply MemKept.ite
    | apply MemKept.ite1
    | apply MemKept.ite2
    | extract_lets
    | split
    | dsimp -zeta only
    | dsimp +zetaDelta only

theorem execByPos_memKept (p : Path) (s : State) : KeepsMem s (execByPos p s) := by
  unfold execByPos
  repeat' with_reducible first
    | apply KeepsMem.next
    | exact MemKept.refl _
    | apply MemKept.trans _ (State.write_memKept ..)
    | apply MemKept.trans _ (foldl_memKept _ _ _ (fun _ _ => ?_))
    | apply MemKept.trans _ (foldl_memKept1 _ _ _ (fun _ _ => ?_))
    | apply MemKept.ite
    | apply MemKept.ite1
    | apply MemKept.ite2
    | extract_lets
    | split
    | dsimp -zeta only
    | dsimp +zetaDelta only

theorem execDrainEnd_memKept (s : State) : KeepsMem s (execDrainEnd s) := by
  unfold execDrainEnd
  repeat' with_reducible first
    | apply KeepsMem.next
    | exact MemKept.refl _
    | apply MemKept.trans _ (State.drainEnd_memKept ..)
    | apply MemKept.trans _ (foldl_memKept _ _ _ (fun _ _ => ?_))
    | apply MemKept.trans _ (foldl_memKept1 _ _ _ (fun _ _ => ?_))
    | apply MemKept.ite
    | apply MemKept.ite1
    | apply MemKept.ite2
    | extract_lets
    | split
    | dsimp -zeta only
    | dsimp +zetaDelta only

theorem execDrainLimit_memKept (s : State) : KeepsMem s (execDrainLimit s) := by
  unfold execDrainLimit
  repeat' with_reducible first
    | apply KeepsMem.next
    | exact MemKept.refl _
    | apply MemKept.trans _ (State.drainEnd_memKept ..)
    | apply MemKept.trans _ (foldl_memKept _ _ _ (fun _ _ => ?_))
    | apply MemKept.trans _ (foldl_memKept1 _ _ _ (fun _ _ => ?_))
    | apply MemKept.ite
    | apply MemKept.ite1
    | apply MemKept.ite2
    | extract_lets
    | split
    | dsimp -zeta only
    | dsimp +zetaDelta only

theorem execLogClr_memKept (p : Path) (s : State) : KeepsMem s (execLogClr p s) := by
  unfold execLogClr
  repeat' with_reducible first
    | apply KeepsMem.next
    | exact MemKept.refl _
    | apply MemKept.trans _ (State.write_memKept ..)
    | apply MemKept.trans _ (foldl_memKept _ _ _ (fun _ _ => ?_))
    | apply MemKept.trans _ (foldl_memKept1 _ _ _ (fun _ _ => ?_))
    | apply MemKept.ite
    | apply MemKept.ite1
    | apply MemKept.ite2
    | extract_lets
    | split
    | dsimp -zeta only
    | dsimp +zetaDelta only

theorem execDrainMaxReset_memKept (p : Path) (s : State) : KeepsMem s (execDrainMaxReset p s) := by
  unfold execDrainMaxReset
  repeat' with_reducible first
    | apply KeepsMem.next
    | exact MemKept.refl _
    | apply MemKept.trans _ (State.write_memKept ..)
    | apply MemKept.trans _ (foldl_memKept _ _ _ (fun _ _ => ?_))
    | apply MemKept.trans _ (foldl_memKept1 _ _ _ (fun _ _ => ?_))
    | apply MemKept.ite
    | apply MemKept.ite1
    | apply MemKept.ite2
    | extract_lets
    | split
    | dsimp -zeta only
    | dsimp +zetaDelta only

theorem execHpDisable_memKept (p : Path) (h : Fin 32) (s : State) : KeepsMem s (execHpDisable p h s) := by
  unfold execHpDisable
  repeat' with_reducible first
    | apply KeepsMem.next
    | exact MemKept.refl _
    | apply MemKept.trans _ (State.write_memKept ..)
    | apply MemKept.trans _ (foldl_memKept _ _ _ (fun _ _ => ?_))
    | apply MemKept.trans _ (foldl_memKept1 _ _ _ (fun _ _ => ?_))
    | apply MemKept.ite
    | apply MemKept.ite1
    | apply MemKept.ite2
    | extract_lets
    | split
    | dsimp -zeta only
    | dsimp +zetaDelta only

theorem execHpRetrain_memKept (p : Path) (h : Fin 32) (s : State) : KeepsMem s (execHpRetrain p h s) := by
  unfold execHpRetrain
  repeat' with_reducible first
    | apply KeepsMem.next
    | exact MemKept.refl _
    | apply MemKept.trans _ (State.write_memKept ..)
    | apply MemKept.trans _ (foldl_memKept _ _ _ (fun _ _ => ?_))
    | apply MemKept.trans _ (foldl_memKept1 _ _ _ (fun _ _ => ?_))
    | apply MemKept.ite
    | apply MemKept.ite1
    | apply MemKept.ite2
    | extract_lets
    | split
    | dsimp -zeta only
    | dsimp +zetaDelta only

theorem execMpRetrain_memKept (p : Path) (m : Fin 16) (s : State) : KeepsMem s (execMpRetrain p m s) := by
  unfold execMpRetrain
  repeat' with_reducible first
    | apply KeepsMem.next
    | exact MemKept.refl _
    | apply MemKept.trans _ (State.write_memKept ..)
    | apply MemKept.trans _ (foldl_memKept _ _ _ (fun _ _ => ?_))
    | apply MemKept.trans _ (foldl_memKept1 _ _ _ (fun _ _ => ?_))
    | apply MemKept.ite
    | apply MemKept.ite1
    | apply MemKept.ite2
    | extract_lets
    | split
    | dsimp -zeta only
    | dsimp +zetaDelta only

theorem execDomainRequest_memKept (p : Path) (page : Option (BitVec 14)) (req : BitVec 2) (s : State) : KeepsMem s (execDomainRequest p page req s) := by
  unfold execDomainRequest
  repeat' with_reducible first
    | apply KeepsMem.next
    | exact MemKept.refl _
    | apply MemKept.trans _ (State.write_memKept ..)
    | apply MemKept.trans _ (foldl_memKept _ _ _ (fun _ _ => ?_))
    | apply MemKept.trans _ (foldl_memKept1 _ _ _ (fun _ _ => ?_))
    | apply MemKept.ite
    | apply MemKept.ite1
    | apply MemKept.ite2
    | extract_lets
    | split
    | dsimp -zeta only
    | dsimp +zetaDelta only

theorem execDomainTransition_memKept (d : Fin 232) (done : Bool) (s : State) : KeepsMem s (execDomainTransition d done s) := by
  unfold execDomainTransition
  repeat' with_reducible first
    | apply KeepsMem.next
    | exact MemKept.refl _
    | apply MemKept.trans _ (State.domDone_memKept ..)
    | apply MemKept.after (m := 66846709) (by decide) (State.domUndefer_same ..)
    | apply MemKept.trans _ (foldl_memKept _ _ _ (fun _ _ => ?_))
    | apply MemKept.trans _ (foldl_memKept1 _ _ _ (fun _ _ => ?_))
    | apply MemKept.ite
    | apply MemKept.ite1
    | apply MemKept.ite2
    | extract_lets
    | split
    | dsimp -zeta only
    | dsimp +zetaDelta only

theorem execAonBrownout_memKept (s : State) : KeepsMem s (execAonBrownout s) := by
  unfold execAonBrownout
  repeat' with_reducible first
    | apply KeepsMem.next
    | exact MemKept.refl _
    | apply MemKept.trans _ (State.coldStart_memKept ..)
    | apply MemKept.trans _ (foldl_memKept _ _ _ (fun _ _ => ?_))
    | apply MemKept.trans _ (foldl_memKept1 _ _ _ (fun _ _ => ?_))
    | apply MemKept.ite
    | apply MemKept.ite1
    | apply MemKept.ite2
    | extract_lets
    | split
    | dsimp -zeta only
    | dsimp +zetaDelta only

theorem execResetTrip_memKept (rail : Fin 6) (mv : BitVec 16) (s : State) : KeepsMem s (execResetTrip rail mv s) := by
  unfold execResetTrip
  repeat' with_reducible first
    | apply KeepsMem.next
    | exact MemKept.refl _
    | apply MemKept.trans _ (State.railReset_memKept ..)
    | apply MemKept.after (m := 67108861) (by decide) (State.railSample_same ..)
    | apply MemKept.trans _ (foldl_memKept _ _ _ (fun _ _ => ?_))
    | apply MemKept.trans _ (foldl_memKept1 _ _ _ (fun _ _ => ?_))
    | apply MemKept.ite
    | apply MemKept.ite1
    | apply MemKept.ite2
    | extract_lets
    | split
    | dsimp -zeta only
    | dsimp +zetaDelta only

theorem execResetRelease_memKept (rail : Fin 6) (s : State) : KeepsMem s (execResetRelease rail s) := by
  unfold execResetRelease
  repeat' with_reducible first
    | apply KeepsMem.next
    | exact MemKept.refl _
    | apply MemKept.trans _ (State.railRelease_memKept ..)
    | apply MemKept.trans _ (foldl_memKept _ _ _ (fun _ _ => ?_))
    | apply MemKept.trans _ (foldl_memKept1 _ _ _ (fun _ _ => ?_))
    | apply MemKept.ite
    | apply MemKept.ite1
    | apply MemKept.ite2
    | extract_lets
    | split
    | dsimp -zeta only
    | dsimp +zetaDelta only

theorem execThermalTrip_memKept (sensor : Fin 64) (s : State) : KeepsMem s (execThermalTrip sensor s) := by
  unfold execThermalTrip
  repeat' with_reducible first
    | apply KeepsMem.next
    | exact MemKept.refl _
    | apply MemKept.trans _ (State.thermalTrip_memKept ..)
    | apply MemKept.trans _ (foldl_memKept _ _ _ (fun _ _ => ?_))
    | apply MemKept.trans _ (foldl_memKept1 _ _ _ (fun _ _ => ?_))
    | apply MemKept.ite
    | apply MemKept.ite1
    | apply MemKept.ite2
    | extract_lets
    | split
    | dsimp -zeta only
    | dsimp +zetaDelta only

theorem execThermalRestart_memKept (s : State) : KeepsMem s (execThermalRestart s) := by
  unfold execThermalRestart
  repeat' with_reducible first
    | apply KeepsMem.next
    | exact MemKept.refl _
    | apply MemKept.trans _ (State.cooled_memKept ..)
    | apply MemKept.trans _ (foldl_memKept _ _ _ (fun _ _ => ?_))
    | apply MemKept.trans _ (foldl_memKept1 _ _ _ (fun _ _ => ?_))
    | apply MemKept.ite
    | apply MemKept.ite1
    | apply MemKept.ite2
    | extract_lets
    | split
    | dsimp -zeta only
    | dsimp +zetaDelta only

theorem execClockPllLockLoss_memKept (pll : Fin 2) (s : State) : KeepsMem s (execClockPllLockLoss pll s) := by
  unfold execClockPllLockLoss
  repeat' with_reducible first
    | apply KeepsMem.next
    | exact MemKept.refl _
    | apply MemKept.after (m := 66838517) (by decide) (State.clkLost_same ..)
    | apply MemKept.trans _ (State.warmStart_memKept ..)
    | apply MemKept.after (m := 67108861) (by decide) (State.set_same ..)
    | apply MemKept.trans _ (foldl_memKept _ _ _ (fun _ _ => ?_))
    | apply MemKept.trans _ (foldl_memKept1 _ _ _ (fun _ _ => ?_))
    | apply MemKept.ite
    | apply MemKept.ite1
    | apply MemKept.ite2
    | extract_lets
    | split
    | dsimp -zeta only
    | dsimp +zetaDelta only

theorem execXtalHoldExpiry_memKept (s : State) : KeepsMem s (execXtalHoldExpiry s) := by
  unfold execXtalHoldExpiry
  repeat' with_reducible first
    | apply KeepsMem.next
    | exact MemKept.refl _
    | apply MemKept.trans _ (State.warmStart_memKept ..)
    | apply MemKept.trans _ (foldl_memKept _ _ _ (fun _ _ => ?_))
    | apply MemKept.trans _ (foldl_memKept1 _ _ _ (fun _ _ => ?_))
    | apply MemKept.ite
    | apply MemKept.ite1
    | apply MemKept.ite2
    | extract_lets
    | split
    | dsimp -zeta only
    | dsimp +zetaDelta only

theorem execToPll_memKept (p : Path) (s : State) : KeepsMem s (execToPll p s) := by
  unfold execToPll
  repeat' with_reducible first
    | apply KeepsMem.next
    | exact MemKept.refl _
    | apply MemKept.trans _ (State.write_memKept ..)
    | apply MemKept.trans _ (foldl_memKept _ _ _ (fun _ _ => ?_))
    | apply MemKept.trans _ (foldl_memKept1 _ _ _ (fun _ _ => ?_))
    | apply MemKept.ite
    | apply MemKept.ite1
    | apply MemKept.ite2
    | extract_lets
    | split
    | dsimp -zeta only
    | dsimp +zetaDelta only

theorem execPllSwitchDone_memKept (s : State) : KeepsMem s (execPllSwitchDone s) := by
  unfold execPllSwitchDone
  repeat' with_reducible first
    | apply KeepsMem.next
    | exact MemKept.refl _
    | apply MemKept.trans _ (State.onPll_memKept ..)
    | apply MemKept.trans _ (foldl_memKept _ _ _ (fun _ _ => ?_))
    | apply MemKept.trans _ (foldl_memKept1 _ _ _ (fun _ _ => ?_))
    | apply MemKept.ite
    | apply MemKept.ite1
    | apply MemKept.ite2
    | extract_lets
    | split
    | dsimp -zeta only
    | dsimp +zetaDelta only

theorem execClkSwap_memKept (p : Path) (s : State) : KeepsMem s (execClkSwap p s) := by
  unfold execClkSwap
  repeat' with_reducible first
    | apply KeepsMem.next
    | exact MemKept.refl _
    | apply MemKept.trans _ (State.write_memKept ..)
    | apply MemKept.trans _ (foldl_memKept _ _ _ (fun _ _ => ?_))
    | apply MemKept.trans _ (foldl_memKept1 _ _ _ (fun _ _ => ?_))
    | apply MemKept.ite
    | apply MemKept.ite1
    | apply MemKept.ite2
    | extract_lets
    | split
    | dsimp -zeta only
    | dsimp +zetaDelta only

theorem execPorstN_memKept (s : State) : KeepsMem s (execPorstN s) := by
  unfold execPorstN
  repeat' with_reducible first
    | apply KeepsMem.next
    | exact MemKept.refl _
    | apply MemKept.trans _ (State.porst_memKept ..)
    | apply MemKept.trans _ (foldl_memKept _ _ _ (fun _ _ => ?_))
    | apply MemKept.trans _ (foldl_memKept1 _ _ _ (fun _ _ => ?_))
    | apply MemKept.ite
    | apply MemKept.ite1
    | apply MemKept.ite2
    | extract_lets
    | split
    | dsimp -zeta only
    | dsimp +zetaDelta only

theorem execWarmN_memKept (s : State) : KeepsMem s (execWarmN s) := by
  unfold execWarmN
  repeat' with_reducible first
    | apply KeepsMem.next
    | exact MemKept.refl _
    | apply MemKept.trans _ (State.warmPin_memKept ..)
    | apply MemKept.trans _ (foldl_memKept _ _ _ (fun _ _ => ?_))
    | apply MemKept.trans _ (foldl_memKept1 _ _ _ (fun _ _ => ?_))
    | apply MemKept.ite
    | apply MemKept.ite1
    | apply MemKept.ite2
    | extract_lets
    | split
    | dsimp -zeta only
    | dsimp +zetaDelta only

theorem execRstCmdWarm_memKept (p : Path) (key : BitVec 8) (s : State) : KeepsMem s (execRstCmdWarm p key s) := by
  unfold execRstCmdWarm
  repeat' with_reducible first
    | apply KeepsMem.next
    | exact MemKept.refl _
    | apply MemKept.trans _ (State.write_memKept ..)
    | apply MemKept.trans _ (foldl_memKept _ _ _ (fun _ _ => ?_))
    | apply MemKept.trans _ (foldl_memKept1 _ _ _ (fun _ _ => ?_))
    | apply MemKept.ite
    | apply MemKept.ite1
    | apply MemKept.ite2
    | extract_lets
    | split
    | dsimp -zeta only
    | dsimp +zetaDelta only

theorem execImageVerified_memKept (img : FwImage) (s : State) : KeepsMem s (execImageVerified img s) := by
  unfold execImageVerified
  repeat' with_reducible first
    | apply KeepsMem.next
    | exact MemKept.refl _
    | apply MemKept.trans _ (State.imageVerified_memKept ..)
    | apply MemKept.trans _ (foldl_memKept _ _ _ (fun _ _ => ?_))
    | apply MemKept.trans _ (foldl_memKept1 _ _ _ (fun _ _ => ?_))
    | apply MemKept.ite
    | apply MemKept.ite1
    | apply MemKept.ite2
    | extract_lets
    | split
    | dsimp -zeta only
    | dsimp +zetaDelta only

theorem execBootWatchdog_memKept (s : State) : KeepsMem s (execBootWatchdog s) := by
  unfold execBootWatchdog
  repeat' with_reducible first
    | apply KeepsMem.next
    | exact MemKept.refl _
    | apply MemKept.trans _ (State.warmStart_memKept ..)
    | apply MemKept.trans _ (foldl_memKept _ _ _ (fun _ _ => ?_))
    | apply MemKept.trans _ (foldl_memKept1 _ _ _ (fun _ _ => ?_))
    | apply MemKept.ite
    | apply MemKept.ite1
    | apply MemKept.ite2
    | extract_lets
    | split
    | dsimp -zeta only
    | dsimp +zetaDelta only

theorem execRstCmdShutdown_memKept (p : Path) (key : BitVec 8) (s : State) : KeepsMem s (execRstCmdShutdown p key s) := by
  unfold execRstCmdShutdown
  repeat' with_reducible first
    | apply KeepsMem.next
    | exact MemKept.refl _
    | apply MemKept.trans _ (State.write_memKept ..)
    | apply MemKept.trans _ (foldl_memKept _ _ _ (fun _ _ => ?_))
    | apply MemKept.trans _ (foldl_memKept1 _ _ _ (fun _ _ => ?_))
    | apply MemKept.ite
    | apply MemKept.ite1
    | apply MemKept.ite2
    | extract_lets
    | split
    | dsimp -zeta only
    | dsimp +zetaDelta only

theorem execShutdownDone_memKept (ms : BitVec 16) (s : State) : KeepsMem s (execShutdownDone ms s) := by
  unfold execShutdownDone
  repeat' with_reducible first
    | apply KeepsMem.next
    | exact MemKept.refl _
    | apply MemKept.trans _ (State.shutdownDone_memKept ..)
    | apply MemKept.trans _ (foldl_memKept _ _ _ (fun _ _ => ?_))
    | apply MemKept.trans _ (foldl_memKept1 _ _ _ (fun _ _ => ?_))
    | apply MemKept.ite
    | apply MemKept.ite1
    | apply MemKept.ite2
    | extract_lets
    | split
    | dsimp -zeta only
    | dsimp +zetaDelta only

theorem execBistGo_memKept (p : Path) (prog : Fin 16) (s : State) : KeepsMem s (execBistGo p prog s) := by
  unfold execBistGo
  repeat' with_reducible first
    | apply KeepsMem.next
    | exact MemKept.refl _
    | apply MemKept.trans _ (State.write_memKept ..)
    | apply MemKept.trans _ (foldl_memKept _ _ _ (fun _ _ => ?_))
    | apply MemKept.trans _ (foldl_memKept1 _ _ _ (fun _ _ => ?_))
    | apply MemKept.ite
    | apply MemKept.ite1
    | apply MemKept.ite2
    | extract_lets
    | split
    | dsimp -zeta only
    | dsimp +zetaDelta only

theorem execFrameStart_memKept (n : Fin 8) (s : State) : KeepsMem s (execFrameStart n s) := by
  unfold execFrameStart
  repeat' with_reducible first
    | apply KeepsMem.next
    | exact MemKept.refl _
    | apply MemKept.after (m := 49835893) (by decide) (State.soDrain_same ..)
    | apply MemKept.after (m := 49832305) (by decide) (State.soStart_same ..)
    | apply MemKept.trans _ (State.settled_memKept ..)
    | apply MemKept.after (m := 67108847) (by decide) (State.atFrame_same ..)
    | apply MemKept.after (m := 67108853) (by decide) (State.soBegin_same ..)
    | apply MemKept.trans _ (foldl_memKept _ _ _ (fun _ _ => ?_))
    | apply MemKept.trans _ (foldl_memKept1 _ _ _ (fun _ _ => ?_))
    | apply MemKept.ite
    | apply MemKept.ite1
    | apply MemKept.ite2
    | extract_lets
    | split
    | dsimp -zeta only
    | dsimp +zetaDelta only

theorem execSoEnable_memKept (p : Path) (n : Fin 8) (s : State) : KeepsMem s (execSoEnable p n s) := by
  unfold execSoEnable
  repeat' with_reducible first
    | apply KeepsMem.next
    | exact MemKept.refl _
    | apply MemKept.trans _ (State.write_memKept ..)
    | apply MemKept.trans _ (foldl_memKept _ _ _ (fun _ _ => ?_))
    | apply MemKept.trans _ (foldl_memKept1 _ _ _ (fun _ _ => ?_))
    | apply MemKept.ite
    | apply MemKept.ite1
    | apply MemKept.ite2
    | extract_lets
    | split
    | dsimp -zeta only
    | dsimp +zetaDelta only

theorem execSoDisable_memKept (p : Path) (n : Fin 8) (s : State) : KeepsMem s (execSoDisable p n s) := by
  unfold execSoDisable
  repeat' with_reducible first
    | apply KeepsMem.next
    | exact MemKept.refl _
    | apply MemKept.trans _ (State.write_memKept ..)
    | apply MemKept.trans _ (foldl_memKept _ _ _ (fun _ _ => ?_))
    | apply MemKept.trans _ (foldl_memKept1 _ _ _ (fun _ _ => ?_))
    | apply MemKept.ite
    | apply MemKept.ite1
    | apply MemKept.ite2
    | extract_lets
    | split
    | dsimp -zeta only
    | dsimp +zetaDelta only

theorem execDirty_memKept (p : Path) (n : Fin 8) (s : State) : KeepsMem s (execDirty p n s) := by
  unfold execDirty
  repeat' with_reducible first
    | apply KeepsMem.next
    | exact MemKept.refl _
    | apply MemKept.trans _ (State.write_memKept ..)
    | apply MemKept.trans _ (foldl_memKept _ _ _ (fun _ _ => ?_))
    | apply MemKept.trans _ (foldl_memKept1 _ _ _ (fun _ _ => ?_))
    | apply MemKept.ite
    | apply MemKept.ite1
    | apply MemKept.ite2
    | extract_lets
    | split
    | dsimp -zeta only
    | dsimp +zetaDelta only

theorem execCellAtOutput_memKept (id : Nat) (crcOk : Bool) (s : State) : KeepsMem s (execCellAtOutput id crcOk s) := by
  unfold execCellAtOutput
  repeat' with_reducible first
    | apply KeepsMem.next
    | exact MemKept.refl _
    | apply MemKept.trans _ (State.atOutput_memKept ..)
    | apply MemKept.trans _ (foldl_memKept _ _ _ (fun _ _ => ?_))
    | apply MemKept.trans _ (foldl_memKept1 _ _ _ (fun _ _ => ?_))
    | apply MemKept.ite
    | apply MemKept.ite1
    | apply MemKept.ite2
    | extract_lets
    | split
    | dsimp -zeta only
    | dsimp +zetaDelta only

theorem execAtAxisFineSlot_memKept (slot : Fin 8) (s : State) : KeepsMem s (execAtAxisFineSlot slot s) := by
  unfold execAtAxisFineSlot
  repeat' with_reducible first
    | apply KeepsMem.next
    | exact MemKept.refl _
    | apply MemKept.trans _ (State.instantMet_memKept ..)
    | apply MemKept.trans _ (State.settled_memKept ..)
    | apply MemKept.after (m := 67108847) (by decide) (State.markMet_same ..)
    | apply MemKept.trans _ (foldl_memKept _ _ _ (fun _ _ => ?_))
    | apply MemKept.trans _ (foldl_memKept1 _ _ _ (fun _ _ => ?_))
    | apply MemKept.ite
    | apply MemKept.ite1
    | apply MemKept.ite2
    | extract_lets
    | split
    | dsimp -zeta only
    | dsimp +zetaDelta only

theorem execStepGo_memKept (p : Path) (s : State) : KeepsMem s (execStepGo p s) := by
  unfold execStepGo
  repeat' with_reducible first
    | apply KeepsMem.next
    | exact MemKept.refl _
    | apply MemKept.trans _ (State.writeVia_memKept _ _ _ _ _ _ (fun _ => ?_))
    | apply MemKept.trans _ (State.settled_memKept ..)
    | apply MemKept.after (m := 67076093) (by decide) (State.stepScan_same ..)
    | apply MemKept.after (m := 50130725) (by decide) (State.stepGo_same ..)
    | apply MemKept.after (m := 67108861) (by decide) (State.bump_same ..)
    | apply MemKept.trans _ (foldl_memKept _ _ _ (fun _ _ => ?_))
    | apply MemKept.trans _ (foldl_memKept1 _ _ _ (fun _ _ => ?_))
    | apply MemKept.ite
    | apply MemKept.ite1
    | apply MemKept.ite2
    | extract_lets
    | split
    | dsimp -zeta only
    | dsimp +zetaDelta only

theorem execAxisTransition_memKept (a : Fin 8) (la lb : Bool) (s : State) : KeepsMem s (execAxisTransition a la lb s) := by
  unfold execAxisTransition
  repeat' with_reducible first
    | apply KeepsMem.next
    | exact MemKept.refl _
    | apply MemKept.trans _ (State.settled_memKept ..)
    | apply MemKept.after (m := 50130725) (by decide) (State.quadrature_same ..)
    | apply MemKept.trans _ (foldl_memKept _ _ _ (fun _ _ => ?_))
    | apply MemKept.trans _ (foldl_memKept1 _ _ _ (fun _ _ => ?_))
    | apply MemKept.ite
    | apply MemKept.ite1
    | apply MemKept.ite2
    | extract_lets
    | split
    | dsimp -zeta only
    | dsimp +zetaDelta only

theorem execSwDelta_memKept (p : Path) (a : Fin 8) (delta : Word) (s : State) : KeepsMem s (execSwDelta p a delta s) := by
  unfold execSwDelta
  repeat' with_reducible first
    | apply KeepsMem.next
    | exact MemKept.refl _
    | apply MemKept.trans _ (State.writeVia_memKept _ _ _ _ _ _ (fun _ => ?_))
    | apply MemKept.trans _ (State.settled_memKept ..)
    | apply MemKept.after (m := 50130725) (by decide) (State.swDelta_same ..)
    | apply MemKept.trans _ (foldl_memKept _ _ _ (fun _ _ => ?_))
    | apply MemKept.trans _ (foldl_memKept1 _ _ _ (fun _ _ => ?_))
    | apply MemKept.ite
    | apply MemKept.ite1
    | apply MemKept.ite2
    | extract_lets
    | split
    | dsimp -zeta only
    | dsimp +zetaDelta only

theorem execVelUpdate_memKept (a : Fin 8) (s : State) : KeepsMem s (execVelUpdate a s) := by
  unfold execVelUpdate
  repeat' with_reducible first
    | apply KeepsMem.next
    | exact MemKept.refl _
    | apply MemKept.trans _ (State.settled_memKept ..)
    | apply MemKept.after (m := 50130725) (by decide) (State.axisEval_same ..)
    | apply MemKept.after (m := 67108853) (by decide) (State.judgeSpeed_same ..)
    | apply MemKept.after (m := 67108861) (by decide) (State.setI_same ..)
    | apply MemKept.trans _ (foldl_memKept _ _ _ (fun _ _ => ?_))
    | apply MemKept.trans _ (foldl_memKept1 _ _ _ (fun _ _ => ?_))
    | apply MemKept.ite
    | apply MemKept.ite1
    | apply MemKept.ite2
    | extract_lets
    | split
    | dsimp -zeta only
    | dsimp +zetaDelta only

theorem execAxisStopped_memKept (a : Fin 8) (s : State) : KeepsMem s (execAxisStopped a s) := by
  unfold execAxisStopped
  repeat' with_reducible first
    | apply KeepsMem.next
    | exact MemKept.refl _
    | apply MemKept.trans _ (State.settled_memKept ..)
    | apply MemKept.after (m := 50130725) (by decide) (State.axisEval_same ..)
    | apply MemKept.after (m := 67108855) (by decide) (State.raise_same ..)
    | apply MemKept.after (m := 67108861) (by decide) (State.set_same ..)
    | apply MemKept.trans _ (foldl_memKept _ _ _ (fun _ _ => ?_))
    | apply MemKept.trans _ (foldl_memKept1 _ _ _ (fun _ _ => ?_))
    | apply MemKept.ite
    | apply MemKept.ite1
    | apply MemKept.ite2
    | extract_lets
    | split
    | dsimp -zeta only
    | dsimp +zetaDelta only

theorem execPositionCrossing_memKept (a : Fin 8) (s : State) : KeepsMem s (execPositionCrossing a s) := by
  unfold execPositionCrossing
  repeat' with_reducible first
    | apply KeepsMem.next
    | exact MemKept.refl _
    | apply MemKept.trans _ (State.settled_memKept ..)
    | apply MemKept.after (m := 50130725) (by decide) (State.axisEval_same ..)
    | apply MemKept.trans _ (foldl_memKept _ _ _ (fun _ _ => ?_))
    | apply MemKept.trans _ (foldl_memKept1 _ _ _ (fun _ _ => ?_))
    | apply MemKept.ite
    | apply MemKept.ite1
    | apply MemKept.ite2
    | extract_lets
    | split
    | dsimp -zeta only
    | dsimp +zetaDelta only

theorem execAxCmdClear_memKept (p : Path) (a : Fin 8) (s : State) : KeepsMem s (execAxCmdClear p a s) := by
  unfold execAxCmdClear
  repeat' with_reducible first
    | apply KeepsMem.next
    | exact MemKept.refl _
    | apply MemKept.trans _ (State.writeVia_memKept _ _ _ _ _ _ (fun _ => ?_))
    | apply MemKept.trans _ (State.settled_memKept ..)
    | apply MemKept.after (m := 50130725) (by decide) (State.clearFlags_same ..)
    | apply MemKept.after (m := 67108861) (by decide) (State.bump_same ..)
    | apply MemKept.trans _ (foldl_memKept _ _ _ (fun _ _ => ?_))
    | apply MemKept.trans _ (foldl_memKept1 _ _ _ (fun _ _ => ?_))
    | apply MemKept.ite
    | apply MemKept.ite1
    | apply MemKept.ite2
    | extract_lets
    | split
    | dsimp -zeta only
    | dsimp +zetaDelta only

theorem execAxCmdLoad_memKept (p : Path) (a : Fin 8) (s : State) : KeepsMem s (execAxCmdLoad p a s) := by
  unfold execAxCmdLoad
  repeat' with_reducible first
    | apply KeepsMem.next
    | exact MemKept.refl _
    | apply MemKept.trans _ (State.writeVia_memKept _ _ _ _ _ _ (fun _ => ?_))
    | apply MemKept.trans _ (State.settled_memKept ..)
    | apply MemKept.after (m := 50327333) (by decide) (State.loadCount_same ..)
    | apply MemKept.after (m := 67108861) (by decide) (State.bump_same ..)
    | apply MemKept.trans _ (foldl_memKept _ _ _ (fun _ _ => ?_))
    | apply MemKept.trans _ (foldl_memKept1 _ _ _ (fun _ _ => ?_))
    | apply MemKept.ite
    | apply MemKept.ite1
    | apply MemKept.ite2
    | extract_lets
    | split
    | dsimp -zeta only
    | dsimp +zetaDelta only

theorem execRegWrite_memKept (addr : BitVec 32) (len : BitVec 16) (words : List Word) (done : Bool) (s : State) : KeepsMem s (execRegWrite addr len words done s) := by
  unfold execRegWrite
  repeat' with_reducible first
    | apply KeepsMem.next
    | exact MemKept.refl _
    | apply State.usbControl_memKept _ _ _ _ _ _ (fun _ => ?_)
    | apply MemKept.trans _ (State.usbControl_memKept _ _ _ _ _ _ (fun _ => ?_))
    | apply MemKept.trans _ (State.writeRun_memKept ..)
    | apply MemKept.trans _ (foldl_memKept _ _ _ (fun _ _ => ?_))
    | apply MemKept.trans _ (foldl_memKept1 _ _ _ (fun _ _ => ?_))
    | apply MemKept.ite
    | apply MemKept.ite1
    | apply MemKept.ite2
    | extract_lets
    | split
    | dsimp -zeta only
    | dsimp +zetaDelta only

theorem execEp2Write_memKept (s : State) : KeepsMem s (execEp2Write s) := by
  unfold execEp2Write
  repeat' with_reducible first
    | apply KeepsMem.next
    | exact MemKept.refl _
    | apply State.ep2Run_memKept _ _ _ (fun _ _ _ _ => ?_)
    | apply MemKept.trans _ (State.ep2Run_memKept _ _ _ (fun _ _ _ _ => ?_))
    | apply MemKept.trans _ (State.writeRun_memKept ..)
    | apply MemKept.after (m := 67108855) (by decide) (State.emit_same ..)
    | apply MemKept.trans _ (foldl_memKept _ _ _ (fun _ _ => ?_))
    | apply MemKept.trans _ (foldl_memKept1 _ _ _ (fun _ _ => ?_))
    | apply MemKept.ite
    | apply MemKept.ite1
    | apply MemKept.ite2
    | extract_lets
    | split
    | dsimp -zeta only
    | dsimp +zetaDelta only

theorem execRecoveryImage_memKept (img : FwImage) (s : State) : KeepsMem s (execRecoveryImage img s) := by
  unfold execRecoveryImage
  repeat' with_reducible first
    | apply KeepsMem.next
    | exact MemKept.refl _
    | apply MemKept.after (m := 67108861) (by decide) (State.set_same ..)
    | apply MemKept.trans _ (State.imageTaken_memKept ..)
    | apply MemKept.trans _ (foldl_memKept _ _ _ (fun _ _ => ?_))
    | apply MemKept.trans _ (foldl_memKept1 _ _ _ (fun _ _ => ?_))
    | apply MemKept.ite
    | apply MemKept.ite1
    | apply MemKept.ite2
    | extract_lets
    | split
    | dsimp -zeta only
    | dsimp +zetaDelta only

theorem execSmbusWrite_memKept (value : Word) (pecOk : Bool) (s : State) : KeepsMem s (execSmbusWrite value pecOk s) := by
  unfold execSmbusWrite
  repeat' with_reducible first
    | apply KeepsMem.next
    | exact MemKept.refl _
    | apply State.smbus_memKept _ _ _ (fun _ => ?_)
    | apply MemKept.trans _ (State.smbus_memKept _ _ _ (fun _ => ?_))
    | apply MemKept.trans _ (State.write_memKept ..)
    | apply MemKept.trans _ (foldl_memKept _ _ _ (fun _ _ => ?_))
    | apply MemKept.trans _ (foldl_memKept1 _ _ _ (fun _ _ => ?_))
    | apply MemKept.ite
    | apply MemKept.ite1
    | apply MemKept.ite2
    | extract_lets
    | split
    | dsimp -zeta only
    | dsimp +zetaDelta only
    | apply MemKept.with_smbPtr

theorem execGenerate_memKept (p : Path) (target : BitVec 8) (attr : BitVec 2) (exp : Bool) (s : State) : KeepsMem s (execGenerate p target attr exp s) := by
  unfold execGenerate
  repeat' with_reducible first
    | apply KeepsMem.next
    | exact MemKept.refl _
    | apply MemKept.trans _ (State.write_memKept ..)
    | apply MemKept.trans _ (foldl_memKept _ _ _ (fun _ _ => ?_))
    | apply MemKept.trans _ (foldl_memKept1 _ _ _ (fun _ _ => ?_))
    | apply MemKept.ite
    | apply MemKept.ite1
    | apply MemKept.ite2
    | extract_lets
    | split
    | dsimp -zeta only
    | dsimp +zetaDelta only

theorem execDerive_memKept (p : Path) (target source : BitVec 8) (attr : BitVec 2) (exp : Bool) (s : State) : KeepsMem s (execDerive p target source attr exp s) := by
  unfold execDerive
  repeat' with_reducible first
    | apply KeepsMem.next
    | exact MemKept.refl _
    | apply MemKept.trans _ (State.write_memKept ..)
    | apply MemKept.trans _ (foldl_memKept _ _ _ (fun _ _ => ?_))
    | apply MemKept.trans _ (foldl_memKept1 _ _ _ (fun _ _ => ?_))
    | apply MemKept.ite
    | apply MemKept.ite1
    | apply MemKept.ite2
    | extract_lets
    | split
    | dsimp -zeta only
    | dsimp +zetaDelta only

theorem execUnwrap_memKept (p : Path) (target source : BitVec 8) (attr : BitVec 2) (exp : Bool) (s : State) : KeepsMem s (execUnwrap p target source attr exp s) := by
  unfold execUnwrap
  repeat' with_reducible first
    | apply KeepsMem.next
    | exact MemKept.refl _
    | apply MemKept.trans _ (State.write_memKept ..)
    | apply MemKept.trans _ (foldl_memKept _ _ _ (fun _ _ => ?_))
    | apply MemKept.trans _ (foldl_memKept1 _ _ _ (fun _ _ => ?_))
    | apply MemKept.ite
    | apply MemKept.ite1
    | apply MemKept.ite2
    | extract_lets
    | split
    | dsimp -zeta only
    | dsimp +zetaDelta only

theorem execWrap_memKept (p : Path) (target source : BitVec 8) (s : State) : KeepsMem s (execWrap p target source s) := by
  unfold execWrap
  repeat' with_reducible first
    | apply KeepsMem.next
    | exact MemKept.refl _
    | apply MemKept.trans _ (State.write_memKept ..)
    | apply MemKept.trans _ (foldl_memKept _ _ _ (fun _ _ => ?_))
    | apply MemKept.trans _ (foldl_memKept1 _ _ _ (fun _ _ => ?_))
    | apply MemKept.ite
    | apply MemKept.ite1
    | apply MemKept.ite2
    | extract_lets
    | split
    | dsimp -zeta only
    | dsimp +zetaDelta only

theorem execZero_memKept (p : Path) (target : BitVec 8) (s : State) : KeepsMem s (execZero p target s) := by
  unfold execZero
  repeat' with_reducible first
    | apply KeepsMem.next
    | exact MemKept.refl _
    | apply MemKept.trans _ (State.write_memKept ..)
    | apply MemKept.trans _ (foldl_memKept _ _ _ (fun _ _ => ?_))
    | apply MemKept.trans _ (foldl_memKept1 _ _ _ (fun _ _ => ?_))
    | apply MemKept.ite
    | apply MemKept.ite1
    | apply MemKept.ite2
    | extract_lets
    | split
    | dsimp -zeta only
    | dsimp +zetaDelta only

theorem execRandom_memKept (p : Path) (s : State) : KeepsMem s (execRandom p s) := by
  unfold execRandom
  repeat' with_reducible first
    | apply KeepsMem.next
    | exact MemKept.refl _
    | apply MemKept.trans _ (State.write_memKept ..)
    | apply MemKept.trans _ (foldl_memKept _ _ _ (fun _ _ => ?_))
    | apply MemKept.trans _ (foldl_memKept1 _ _ _ (fun _ _ => ?_))
    | apply MemKept.ite
    | apply MemKept.ite1
    | apply MemKept.ite2
    | extract_lets
    | split
    | dsimp -zeta only
    | dsimp +zetaDelta only

theorem execDrbgRestart_memKept (p : Path) (s : State) : KeepsMem s (execDrbgRestart p s) := by
  unfold execDrbgRestart
  repeat' with_reducible first
    | apply KeepsMem.next
    | exact MemKept.refl _
    | apply MemKept.trans _ (State.write_memKept ..)
    | apply MemKept.trans _ (foldl_memKept _ _ _ (fun _ _ => ?_))
    | apply MemKept.trans _ (foldl_memKept1 _ _ _ (fun _ _ => ?_))
    | apply MemKept.ite
    | apply MemKept.ite1
    | apply MemKept.ite2
    | extract_lets
    | split
    | dsimp -zeta only
    | dsimp +zetaDelta only

theorem execRootGen_memKept (p : Path) (s : State) : KeepsMem s (execRootGen p s) := by
  unfold execRootGen
  repeat' with_reducible first
    | apply KeepsMem.next
    | exact MemKept.refl _
    | apply MemKept.trans _ (State.write_memKept ..)
    | apply MemKept.trans _ (foldl_memKept _ _ _ (fun _ _ => ?_))
    | apply MemKept.trans _ (foldl_memKept1 _ _ _ (fun _ _ => ?_))
    | apply MemKept.ite
    | apply MemKept.ite1
    | apply MemKept.ite2
    | extract_lets
    | split
    | dsimp -zeta only
    | dsimp +zetaDelta only

theorem execLcReq_memKept (src : LcFrom) (key : BitVec 8) (target : BitVec 3) (s : State) : KeepsMem s (execLcReq src key target s) := by
  unfold execLcReq
  repeat' with_reducible first
    | apply KeepsMem.next
    | exact MemKept.refl _
    | apply MemKept.trans _ (State.write_memKept ..)
    | apply MemKept.after (m := 67108853) (by decide) (State.jtagRefuse_same ..)
    | apply MemKept.after (m := 63438845) (by decide) (State.lcAccept_same ..)
    | apply MemKept.trans _ (foldl_memKept _ _ _ (fun _ _ => ?_))
    | apply MemKept.trans _ (foldl_memKept1 _ _ _ (fun _ _ => ?_))
    | apply MemKept.ite
    | apply MemKept.ite1
    | apply MemKept.ite2
    | extract_lets
    | split
    | dsimp -zeta only
    | dsimp +zetaDelta only

theorem execLcBlowDone_memKept (s : State) : KeepsMem s (execLcBlowDone s) := by
  unfold execLcBlowDone
  repeat' with_reducible first
    | apply KeepsMem.next
    | exact MemKept.refl _
    | apply MemKept.trans _ (State.warmStart_memKept ..)
    | apply MemKept.after (m := 66060279) (by decide) (State.lcBlow_same ..)
    | apply MemKept.trans _ (foldl_memKept _ _ _ (fun _ _ => ?_))
    | apply MemKept.trans _ (foldl_memKept1 _ _ _ (fun _ _ => ?_))
    | apply MemKept.ite
    | apply MemKept.ite1
    | apply MemKept.ite2
    | extract_lets
    | split
    | dsimp -zeta only
    | dsimp +zetaDelta only

theorem execOtpCmdGo_memKept (p : Path) (id : BitVec 8) (s : State) : KeepsMem s (execOtpCmdGo p id s) := by
  unfold execOtpCmdGo
  repeat' with_reducible first
    | apply KeepsMem.next
    | exact MemKept.refl _
    | apply MemKept.trans _ (State.write_memKept ..)
    | apply MemKept.trans _ (foldl_memKept _ _ _ (fun _ _ => ?_))
    | apply MemKept.trans _ (foldl_memKept1 _ _ _ (fun _ _ => ?_))
    | apply MemKept.ite
    | apply MemKept.ite1
    | apply MemKept.ite2
    | extract_lets
    | split
    | dsimp -zeta only
    | dsimp +zetaDelta only

theorem execClrLockout_memKept (p : Path) (n : Fin 16) (s : State) : KeepsMem s (execClrLockout p n s) := by
  unfold execClrLockout
  repeat' with_reducible first
    | apply KeepsMem.next
    | exact MemKept.refl _
    | apply MemKept.trans _ (State.write_memKept ..)
    | apply MemKept.trans _ (foldl_memKept _ _ _ (fun _ _ => ?_))
    | apply MemKept.trans _ (foldl_memKept1 _ _ _ (fun _ _ => ?_))
    | apply MemKept.ite
    | apply MemKept.ite1
    | apply MemKept.ite2
    | extract_lets
    | split
    | dsimp -zeta only
    | dsimp +zetaDelta only

theorem execClrPeak_memKept (p : Path) (n : Fin 16) (s : State) : KeepsMem s (execClrPeak p n s) := by
  unfold execClrPeak
  repeat' with_reducible first
    | apply KeepsMem.next
    | exact MemKept.refl _
    | apply MemKept.trans _ (State.write_memKept ..)
    | apply MemKept.trans _ (foldl_memKept _ _ _ (fun _ _ => ?_))
    | apply MemKept.trans _ (foldl_memKept1 _ _ _ (fun _ _ => ?_))
    | apply MemKept.ite
    | apply MemKept.ite1
    | apply MemKept.ite2
    | extract_lets
    | split
    | dsimp -zeta only
    | dsimp +zetaDelta only

theorem execRegisterWrite_memKept (p : Path) (addr : BitVec 26) (value : List Word) (be : List (BitVec 4)) (s : State) : KeepsMem s (execRegisterWrite p addr value be s) := by
  unfold execRegisterWrite
  repeat' with_reducible first
    | apply KeepsMem.next
    | exact MemKept.refl _
    | apply MemKept.trans _ (State.writeWide_memKept ..)
    | apply MemKept.trans _ (foldl_memKept _ _ _ (fun _ _ => ?_))
    | apply MemKept.trans _ (foldl_memKept1 _ _ _ (fun _ _ => ?_))
    | apply MemKept.ite
    | apply MemKept.ite1
    | apply MemKept.ite2
    | extract_lets
    | split
    | dsimp -zeta only
    | dsimp +zetaDelta only

theorem execZPulse_memKept (z : ZLevel) (s : State) : KeepsMem s (execZPulse z s) := by
  unfold execZPulse
  repeat' with_reducible first
    | apply KeepsMem.next
    | exact MemKept.refl _
    | apply MemKept.after (m := 67108799) (by decide) (State.setAxis_same ..)
    | apply MemKept.trans _ (State.settled_memKept ..)
    | apply MemKept.after (m := 67108861) (by decide) (State.showLevels_same ..)
    | apply MemKept.after (m := 50130725) (by decide) (State.zPulse_same ..)
    | apply MemKept.trans _ (foldl_memKept _ _ _ (fun _ _ => ?_))
    | apply MemKept.trans _ (foldl_memKept1 _ _ _ (fun _ _ => ?_))
    | apply MemKept.ite
    | apply MemKept.ite1
    | apply MemKept.ite2
    | extract_lets
    | split
    | dsimp -zeta only
    | dsimp +zetaDelta only

end Sys2Proof.Machine
end

