-- ==== Sys2Proof/Laws/RunsOtp.lean ====
section
/-! SUPPORT. Every command that reaches the OTP part keeps the blown bits (R435, R439, R451). -/

set_option linter.all false

namespace Sys2Proof.Machine

/-- A command goes on and un-blows nothing. -/
def KeepsOtp (s : State) (o : Host.Outcome State Fault Refusal) : Prop := ∃ t, o = .next t ∧ OtpKept s t

theorem KeepsOtp.next {s t : State} (h : OtpKept s t) : KeepsOtp s (.next t) := ⟨t, rfl, h⟩

theorem Runs.keepsOtp {m : Nat} {s : State} {o : Host.Outcome State Fault Refusal} (h : Nat.land m 1048576 = 1048576) (a : Runs m s o) :
    KeepsOtp s o := by
  obtain ⟨t, e, b⟩ := a
  exact ⟨t, e, OtpKept.after h b (OtpKept.refl s)⟩

theorem OtpKept.with_smbPtr {s t : State} {v : Nat} (a : OtpKept s t) : OtpKept s { t with smbPtr := v } := a.trans ⟨fun _ _ h => h⟩

theorem State.instr_kept (s : State) (e : Nat) (f : State → EngCore → State) (hf : ∀ s c, OtpKept s (f s c)) : OtpKept s (s.instr e f) := by
  unfold State.instr
  split
  · exact OtpKept.refl _
  · extract_lets _ s1
    have h : OtpKept s s1 := OtpKept.after (m := 67108861) (by decide) (State.set_same ..) (OtpKept.refl _)
    split
    · exact OtpKept.after (m := 16269669) (by decide) (State.engTrap_same ..) h
    · split
      · exact OtpKept.after (m := 16269669) (by decide) (State.engTrap_same ..) h
      · exact h.trans (hf _ _)

theorem State.usbControl_kept (s : State) (d : Nat) (q : UsbReq) (ok done : Bool) (act : State → State) (ha : ∀ s, OtpKept s (act s)) :
    OtpKept s (s.usbControl d q ok done act) := by
  unfold State.usbControl State.usbStatus
  split
  · exact OtpKept.refl _
  · split
    · split
      · exact OtpKept.trans (OtpKept.after (m := 62914559) (by decide) (State.mapUsb_same ..) (OtpKept.refl _)) (ha _)
      · exact OtpKept.refl _
    · split
      · exact OtpKept.after (m := 62914559) (by decide) (State.usbSetup_same ..) (OtpKept.refl _)
      · exact OtpKept.after (m := 62914551) (by decide) (State.usbStall_same ..) (OtpKept.refl _)

theorem State.ep2Run_kept (s : State) (op : Nat) (f : State → Nat → Nat → List (BitVec 8) → State) (hf : ∀ s a b l, OtpKept s (f s a b l)) :
    OtpKept s (s.ep2Run op f) := by
  unfold State.ep2Run
  have t : OtpKept s (s.ep2Take 8).1 := OtpKept.after (m := 62914559) (by decide) (State.ep2Take_same ..) (OtpKept.refl _)
  split
  · split <;> rename_i h <;> rw [h] at t
    · split
      · exact (OtpKept.after (m := 62914559) (by decide) (State.ep2Drop_same ..) t).trans (hf ..)
      · exact t
    · exact t
  · exact OtpKept.refl _

theorem State.smbus_kept (s : State) (pecOk : Bool) (f : State → State) (hf : ∀ s, OtpKept s (f s)) : OtpKept s (s.smbus pecOk f) := by
  unfold State.smbus
  have h : OtpKept s (s.wakeBy 2) := OtpKept.after (m := 67108853) (by decide) (State.wakeBy_same ..) (OtpKept.refl _)
  extract_lets s1
  split
  · exact OtpKept.trans h (hf _)
  · exact h

theorem execRouteValid_kept (p : Path) (value : Word) (s : State) : KeepsOtp s (execRouteValid p value s) := by
  unfold execRouteValid
  repeat' with_reducible first
    | apply KeepsOtp.next
    | exact OtpKept.refl _
    | apply OtpKept.trans _ (State.write_kept ..)
    | apply OtpKept.trans _ (foldl_kept _ _ _ (fun _ _ => ?_))
    | apply OtpKept.ite
    | extract_lets
    | split
    | dsimp -zeta only
    | dsimp +zetaDelta only

theorem execDpfClr_kept (p : Path) (s : State) : KeepsOtp s (execDpfClr p s) := by
  unfold execDpfClr
  repeat' with_reducible first
    | apply KeepsOtp.next
    | exact OtpKept.refl _
    | apply OtpKept.trans _ (State.write_kept ..)
    | apply OtpKept.trans _ (foldl_kept _ _ _ (fun _ _ => ?_))
    | apply OtpKept.ite
    | extract_lets
    | split
    | dsimp -zeta only
    | dsimp +zetaDelta only

theorem execEngBrcmd_kept (p : Path) (e : Fin 24) (offset : BitVec 18) (s : State) : KeepsOtp s (execEngBrcmd p e offset s) := by
  unfold execEngBrcmd
  repeat' with_reducible first
    | apply KeepsOtp.next
    | exact OtpKept.refl _
    | apply OtpKept.trans _ (State.write_kept ..)
    | apply OtpKept.trans _ (foldl_kept _ _ _ (fun _ _ => ?_))
    | apply OtpKept.ite
    | extract_lets
    | split
    | dsimp -zeta only
    | dsimp +zetaDelta only

theorem execPllSwap_kept (p : Path) (s : State) : KeepsOtp s (execPllSwap p s) := by
  unfold execPllSwap
  repeat' with_reducible first
    | apply KeepsOtp.next
    | exact OtpKept.refl _
    | apply OtpKept.trans _ (State.write_kept ..)
    | apply OtpKept.trans _ (foldl_kept _ _ _ (fun _ _ => ?_))
    | apply OtpKept.ite
    | extract_lets
    | split
    | dsimp -zeta only
    | dsimp +zetaDelta only

theorem execSeqStart_kept (p : Path) (step : Fin 64) (s : State) : KeepsOtp s (execSeqStart p step s) := by
  unfold execSeqStart
  repeat' with_reducible first
    | apply KeepsOtp.next
    | exact OtpKept.refl _
    | apply OtpKept.trans _ (State.write_kept ..)
    | apply OtpKept.trans _ (foldl_kept _ _ _ (fun _ _ => ?_))
    | apply OtpKept.ite
    | extract_lets
    | split
    | dsimp -zeta only
    | dsimp +zetaDelta only

theorem execSeqStop_kept (p : Path) (s : State) : KeepsOtp s (execSeqStop p s) := by
  unfold execSeqStop
  repeat' with_reducible first
    | apply KeepsOtp.next
    | exact OtpKept.refl _
    | apply OtpKept.trans _ (State.write_kept ..)
    | apply OtpKept.trans _ (foldl_kept _ _ _ (fun _ _ => ?_))
    | apply OtpKept.ite
    | extract_lets
    | split
    | dsimp -zeta only
    | dsimp +zetaDelta only

theorem execSeqContinue_kept (p : Path) (next : Fin 64) (s : State) : KeepsOtp s (execSeqContinue p next s) := by
  unfold execSeqContinue
  repeat' with_reducible first
    | apply KeepsOtp.next
    | exact OtpKept.refl _
    | apply OtpKept.trans _ (State.write_kept ..)
    | apply OtpKept.trans _ (foldl_kept _ _ _ (fun _ _ => ?_))
    | apply OtpKept.ite
    | extract_lets
    | split
    | dsimp -zeta only
    | dsimp +zetaDelta only

theorem execSlip_kept (p : Path) (n : Fin 16) (lane : Fin 2) (s : State) : KeepsOtp s (execSlip p n lane s) := by
  unfold execSlip
  repeat' with_reducible first
    | apply KeepsOtp.next
    | exact OtpKept.refl _
    | apply OtpKept.trans _ (State.write_kept ..)
    | apply OtpKept.trans _ (foldl_kept _ _ _ (fun _ _ => ?_))
    | apply OtpKept.ite
    | extract_lets
    | split
    | dsimp -zeta only
    | dsimp +zetaDelta only

theorem execDlRestart_kept (p : Path) (n : Fin 16) (s : State) : KeepsOtp s (execDlRestart p n s) := by
  unfold execDlRestart
  repeat' with_reducible first
    | apply KeepsOtp.next
    | exact OtpKept.refl _
    | apply OtpKept.trans _ (State.write_kept ..)
    | apply OtpKept.trans _ (foldl_kept _ _ _ (fun _ _ => ?_))
    | apply OtpKept.ite
    | extract_lets
    | split
    | dsimp -zeta only
    | dsimp +zetaDelta only

theorem execEyeGo_kept (p : Path) (value : Word) (s : State) : KeepsOtp s (execEyeGo p value s) := by
  unfold execEyeGo
  repeat' with_reducible first
    | apply KeepsOtp.next
    | exact OtpKept.refl _
    | apply OtpKept.trans _ (State.write_kept ..)
    | apply OtpKept.trans _ (foldl_kept _ _ _ (fun _ _ => ?_))
    | apply OtpKept.ite
    | extract_lets
    | split
    | dsimp -zeta only
    | dsimp +zetaDelta only

theorem execEyeStop_kept (p : Path) (s : State) : KeepsOtp s (execEyeStop p s) := by
  unfold execEyeStop
  repeat' with_reducible first
    | apply KeepsOtp.next
    | exact OtpKept.refl _
    | apply OtpKept.trans _ (State.write_kept ..)
    | apply OtpKept.trans _ (foldl_kept _ _ _ (fun _ _ => ?_))
    | apply OtpKept.ite
    | extract_lets
    | split
    | dsimp -zeta only
    | dsimp +zetaDelta only

theorem execInjectOne_kept (p : Path) (s : State) : KeepsOtp s (execInjectOne p s) := by
  unfold execInjectOne
  repeat' with_reducible first
    | apply KeepsOtp.next
    | exact OtpKept.refl _
    | apply OtpKept.trans _ (State.write_kept ..)
    | apply OtpKept.trans _ (foldl_kept _ _ _ (fun _ _ => ?_))
    | apply OtpKept.ite
    | extract_lets
    | split
    | dsimp -zeta only
    | dsimp +zetaDelta only

theorem execLkRetrain_kept (p : Path) (n : Fin 16) (rate mask : BitVec 2) (s : State) : KeepsOtp s (execLkRetrain p n rate mask s) := by
  unfold execLkRetrain
  repeat' with_reducible first
    | apply KeepsOtp.next
    | exact OtpKept.refl _
    | apply OtpKept.trans _ (State.write_kept ..)
    | apply OtpKept.trans _ (foldl_kept _ _ _ (fun _ _ => ?_))
    | apply OtpKept.ite
    | extract_lets
    | split
    | dsimp -zeta only
    | dsimp +zetaDelta only

theorem execLkDown_kept (p : Path) (n : Fin 16) (s : State) : KeepsOtp s (execLkDown p n s) := by
  unfold execLkDown
  repeat' with_reducible first
    | apply KeepsOtp.next
    | exact OtpKept.refl _
    | apply OtpKept.trans _ (State.write_kept ..)
    | apply OtpKept.trans _ (foldl_kept _ _ _ (fun _ _ => ?_))
    | apply OtpKept.ite
    | extract_lets
    | split
    | dsimp -zeta only
    | dsimp +zetaDelta only

theorem execChCmdOpen_kept (p : Path) (n : Fin 16) (s : State) : KeepsOtp s (execChCmdOpen p n s) := by
  unfold execChCmdOpen
  repeat' with_reducible first
    | apply KeepsOtp.next
    | exact OtpKept.refl _
    | apply OtpKept.trans _ (State.write_kept ..)
    | apply OtpKept.trans _ (foldl_kept _ _ _ (fun _ _ => ?_))
    | apply OtpKept.ite
    | extract_lets
    | split
    | dsimp -zeta only
    | dsimp +zetaDelta only

theorem execChCmdClose_kept (p : Path) (n : Fin 16) (s : State) : KeepsOtp s (execChCmdClose p n s) := by
  unfold execChCmdClose
  repeat' with_reducible first
    | apply KeepsOtp.next
    | exact OtpKept.refl _
    | apply OtpKept.trans _ (State.write_kept ..)
    | apply OtpKept.trans _ (foldl_kept _ _ _ (fun _ _ => ?_))
    | apply OtpKept.ite
    | extract_lets
    | split
    | dsimp -zeta only
    | dsimp +zetaDelta only

theorem execSt_kept (e : Fin 24) (gd ga : Fin 16) (imm : BitVec 18) (s : State) : KeepsOtp s (execSt e gd ga imm s) := by
  unfold execSt
  repeat' with_reducible first
    | apply KeepsOtp.next
    | exact OtpKept.refl _
    | apply State.instr_kept _ _ _ (fun _ _ => ?_)
    | apply OtpKept.after (m := 16269669) (by decide) (State.engTrap_same ..)
    | apply OtpKept.after (m := 33423357) (by decide) (State.journalFull_same ..)
    | apply OtpKept.after (m := 66977791) (by decide) (State.setCore_same ..)
    | apply OtpKept.after (m := 33423359) (by decide) (State.storeData_same ..)
    | apply OtpKept.after (m := 33554431) (by decide) (State.setEngWord_same ..)
    | apply OtpKept.trans _ (State.write_kept ..)
    | apply OtpKept.after (m := 50200575) (by decide) (State.stalled_same ..)
    | apply OtpKept.trans _ (foldl_kept _ _ _ (fun _ _ => ?_))
    | apply OtpKept.ite
    | extract_lets
    | split
    | dsimp -zeta only
    | dsimp +zetaDelta only

theorem execEngCtrlStart_kept (p : Path) (e : Fin 24) (s : State) : KeepsOtp s (execEngCtrlStart p e s) := by
  unfold execEngCtrlStart
  repeat' with_reducible first
    | apply KeepsOtp.next
    | exact OtpKept.refl _
    | apply OtpKept.trans _ (State.write_kept ..)
    | apply OtpKept.trans _ (foldl_kept _ _ _ (fun _ _ => ?_))
    | apply OtpKept.ite
    | extract_lets
    | split
    | dsimp -zeta only
    | dsimp +zetaDelta only

theorem execEngCtrlStop_kept (p : Path) (e : Fin 24) (s : State) : KeepsOtp s (execEngCtrlStop p e s) := by
  unfold execEngCtrlStop
  repeat' with_reducible first
    | apply KeepsOtp.next
    | exact OtpKept.refl _
    | apply OtpKept.trans _ (State.write_kept ..)
    | apply OtpKept.trans _ (foldl_kept _ _ _ (fun _ _ => ?_))
    | apply OtpKept.ite
    | extract_lets
    | split
    | dsimp -zeta only
    | dsimp +zetaDelta only

theorem execMwDataAccess_kept (p : Path) (value : Option Word) (s : State) : KeepsOtp s (execMwDataAccess p value s) := by
  unfold execMwDataAccess
  repeat' with_reducible first
    | apply KeepsOtp.next
    | exact OtpKept.refl _
    | apply OtpKept.trans _ (State.write_kept ..)
    | apply OtpKept.after (m := 50327493) (by decide) (State.readOut_same ..)
    | apply OtpKept.trans _ (foldl_kept _ _ _ (fun _ _ => ?_))
    | apply OtpKept.ite
    | extract_lets
    | split
    | dsimp -zeta only
    | dsimp +zetaDelta only

theorem execTxnCommit_kept (p : Path) (value : Word) (s : State) : KeepsOtp s (execTxnCommit p value s) := by
  unfold execTxnCommit
  repeat' with_reducible first
    | apply KeepsOtp.next
    | exact OtpKept.refl _
    | apply State.writeVia_kept _ _ _ _ _ _ (fun _ => ?_)
    | apply OtpKept.trans _ (State.txnCommit_kept ..)
    | apply OtpKept.trans _ (foldl_kept _ _ _ (fun _ _ => ?_))
    | apply OtpKept.ite
    | extract_lets
    | split
    | dsimp -zeta only
    | dsimp +zetaDelta only

theorem execAtTimeCommit_kept (slot : Fin 8) (s : State) : KeepsOtp s (execAtTimeCommit slot s) := by
  unfold execAtTimeCommit
  repeat' with_reducible first
    | apply KeepsOtp.next
    | exact OtpKept.refl _
    | apply OtpKept.trans _ (State.instantMet_kept ..)
    | apply OtpKept.trans _ (State.settled_kept ..)
    | apply OtpKept.after (m := 67108847) (by decide) (State.markMet_same ..)
    | apply OtpKept.trans _ (foldl_kept _ _ _ (fun _ _ => ?_))
    | apply OtpKept.ite
    | extract_lets
    | split
    | dsimp -zeta only
    | dsimp +zetaDelta only

theorem execPdCmdExit_kept (p : Path) (n : Fin 16) (s : State) : KeepsOtp s (execPdCmdExit p n s) := by
  unfold execPdCmdExit
  repeat' with_reducible first
    | apply KeepsOtp.next
    | exact OtpKept.refl _
    | apply OtpKept.trans _ (State.write_kept ..)
    | apply OtpKept.trans _ (foldl_kept _ _ _ (fun _ _ => ?_))
    | apply OtpKept.ite
    | extract_lets
    | split
    | dsimp -zeta only
    | dsimp +zetaDelta only

theorem execPdCmdEnter_kept (p : Path) (n : Fin 16) (s : State) : KeepsOtp s (execPdCmdEnter p n s) := by
  unfold execPdCmdEnter
  repeat' with_reducible first
    | apply KeepsOtp.next
    | exact OtpKept.refl _
    | apply OtpKept.trans _ (State.write_kept ..)
    | apply OtpKept.trans _ (foldl_kept _ _ _ (fun _ _ => ?_))
    | apply OtpKept.ite
    | extract_lets
    | split
    | dsimp -zeta only
    | dsimp +zetaDelta only

theorem execPdCmdSendCaps_kept (p : Path) (n : Fin 16) (s : State) : KeepsOtp s (execPdCmdSendCaps p n s) := by
  unfold execPdCmdSendCaps
  repeat' with_reducible first
    | apply KeepsOtp.next
    | exact OtpKept.refl _
    | apply OtpKept.trans _ (State.write_kept ..)
    | apply OtpKept.trans _ (foldl_kept _ _ _ (fun _ _ => ?_))
    | apply OtpKept.ite
    | extract_lets
    | split
    | dsimp -zeta only
    | dsimp +zetaDelta only

theorem execPdCmdDrSwap_kept (p : Path) (n : Fin 16) (s : State) : KeepsOtp s (execPdCmdDrSwap p n s) := by
  unfold execPdCmdDrSwap
  repeat' with_reducible first
    | apply KeepsOtp.next
    | exact OtpKept.refl _
    | apply OtpKept.trans _ (State.write_kept ..)
    | apply OtpKept.trans _ (foldl_kept _ _ _ (fun _ _ => ?_))
    | apply OtpKept.ite
    | extract_lets
    | split
    | dsimp -zeta only
    | dsimp +zetaDelta only

theorem execPdCmdPrSwap_kept (p : Path) (n : Fin 16) (s : State) : KeepsOtp s (execPdCmdPrSwap p n s) := by
  unfold execPdCmdPrSwap
  repeat' with_reducible first
    | apply KeepsOtp.next
    | exact OtpKept.refl _
    | apply OtpKept.trans _ (State.write_kept ..)
    | apply OtpKept.trans _ (foldl_kept _ _ _ (fun _ _ => ?_))
    | apply OtpKept.ite
    | extract_lets
    | split
    | dsimp -zeta only
    | dsimp +zetaDelta only

theorem execPdCmdSoftReset_kept (p : Path) (n : Fin 16) (s : State) : KeepsOtp s (execPdCmdSoftReset p n s) := by
  unfold execPdCmdSoftReset
  repeat' with_reducible first
    | apply KeepsOtp.next
    | exact OtpKept.refl _
    | apply OtpKept.trans _ (State.write_kept ..)
    | apply OtpKept.trans _ (foldl_kept _ _ _ (fun _ _ => ?_))
    | apply OtpKept.ite
    | extract_lets
    | split
    | dsimp -zeta only
    | dsimp +zetaDelta only

theorem execPdCmdHardReset_kept (p : Path) (n : Fin 16) (s : State) : KeepsOtp s (execPdCmdHardReset p n s) := by
  unfold execPdCmdHardReset
  repeat' with_reducible first
    | apply KeepsOtp.next
    | exact OtpKept.refl _
    | apply OtpKept.trans _ (State.write_kept ..)
    | apply OtpKept.trans _ (foldl_kept _ _ _ (fun _ _ => ?_))
    | apply OtpKept.ite
    | extract_lets
    | split
    | dsimp -zeta only
    | dsimp +zetaDelta only

theorem execPdSrcWrite_kept (p : Path) (n : Fin 16) (value : Word) (s : State) : KeepsOtp s (execPdSrcWrite p n value s) := by
  unfold execPdSrcWrite
  repeat' with_reducible first
    | apply KeepsOtp.next
    | exact OtpKept.refl _
    | apply OtpKept.trans _ (State.write_kept ..)
    | apply OtpKept.trans _ (foldl_kept _ _ _ (fun _ _ => ?_))
    | apply OtpKept.ite
    | extract_lets
    | split
    | dsimp -zeta only
    | dsimp +zetaDelta only

theorem execPdDisable_kept (p : Path) (n : Fin 16) (s : State) : KeepsOtp s (execPdDisable p n s) := by
  unfold execPdDisable
  repeat' with_reducible first
    | apply KeepsOtp.next
    | exact OtpKept.refl _
    | apply OtpKept.trans _ (State.write_kept ..)
    | apply OtpKept.trans _ (foldl_kept _ _ _ (fun _ _ => ?_))
    | apply OtpKept.ite
    | extract_lets
    | split
    | dsimp -zeta only
    | dsimp +zetaDelta only

theorem execRegionEnable_kept (p : Path) (r : Fin 16) (value : Word) (s : State) : KeepsOtp s (execRegionEnable p r value s) := by
  unfold execRegionEnable
  repeat' with_reducible first
    | apply KeepsOtp.next
    | exact OtpKept.refl _
    | apply OtpKept.trans _ (State.write_kept ..)
    | apply OtpKept.trans _ (foldl_kept _ _ _ (fun _ _ => ?_))
    | apply OtpKept.ite
    | extract_lets
    | split
    | dsimp -zeta only
    | dsimp +zetaDelta only

theorem execRegionRecall_kept (p : Path) (r : Fin 16) (s : State) : KeepsOtp s (execRegionRecall p r s) := by
  unfold execRegionRecall
  repeat' with_reducible first
    | apply KeepsOtp.next
    | exact OtpKept.refl _
    | apply OtpKept.trans _ (State.write_kept ..)
    | apply OtpKept.trans _ (foldl_kept _ _ _ (fun _ _ => ?_))
    | apply OtpKept.ite
    | extract_lets
    | split
    | dsimp -zeta only
    | dsimp +zetaDelta only

theorem execWindowEnable_kept (p : Path) (cream : Bool) (s : State) : KeepsOtp s (execWindowEnable p cream s) := by
  unfold execWindowEnable
  repeat' with_reducible first
    | apply KeepsOtp.next
    | exact OtpKept.refl _
    | apply OtpKept.trans _ (State.write_kept ..)
    | apply OtpKept.trans _ (foldl_kept _ _ _ (fun _ _ => ?_))
    | apply OtpKept.ite
    | extract_lets
    | split
    | dsimp -zeta only
    | dsimp +zetaDelta only

theorem execWindowRecall_kept (p : Path) (s : State) : KeepsOtp s (execWindowRecall p s) := by
  unfold execWindowRecall
  repeat' with_reducible first
    | apply KeepsOtp.next
    | exact OtpKept.refl _
    | apply OtpKept.trans _ (State.write_kept ..)
    | apply OtpKept.trans _ (foldl_kept _ _ _ (fun _ _ => ?_))
    | apply OtpKept.ite
    | extract_lets
    | split
    | dsimp -zeta only
    | dsimp +zetaDelta only

theorem execPoolLostClr_kept (p : Path) (ports : BitVec 16) (s : State) : KeepsOtp s (execPoolLostClr p ports s) := by
  unfold execPoolLostClr
  repeat' with_reducible first
    | apply KeepsOtp.next
    | exact OtpKept.refl _
    | apply OtpKept.trans _ (State.write_kept ..)
    | apply OtpKept.trans _ (foldl_kept _ _ _ (fun _ _ => ?_))
    | apply OtpKept.ite
    | extract_lets
    | split
    | dsimp -zeta only
    | dsimp +zetaDelta only

theorem execCrDrop_kept (p : Path) (n : Fin 8) (s : State) : KeepsOtp s (execCrDrop p n s) := by
  unfold execCrDrop
  repeat' with_reducible first
    | apply KeepsOtp.next
    | exact OtpKept.refl _
    | apply OtpKept.trans _ (State.write_kept ..)
    | apply OtpKept.trans _ (foldl_kept _ _ _ (fun _ _ => ?_))
    | apply OtpKept.ite
    | extract_lets
    | split
    | dsimp -zeta only
    | dsimp +zetaDelta only

theorem execCrDisable_kept (p : Path) (n : Fin 8) (s : State) : KeepsOtp s (execCrDisable p n s) := by
  unfold execCrDisable
  repeat' with_reducible first
    | apply KeepsOtp.next
    | exact OtpKept.refl _
    | apply OtpKept.trans _ (State.write_kept ..)
    | apply OtpKept.trans _ (foldl_kept _ _ _ (fun _ _ => ?_))
    | apply OtpKept.ite
    | extract_lets
    | split
    | dsimp -zeta only
    | dsimp +zetaDelta only

theorem execSliceForce_kept (p : Path) (d : Fin 32) (s : State) : KeepsOtp s (execSliceForce p d s) := by
  unfold execSliceForce
  repeat' with_reducible first
    | apply KeepsOtp.next
    | exact OtpKept.refl _
    | apply OtpKept.trans _ (State.write_kept ..)
    | apply OtpKept.trans _ (foldl_kept _ _ _ (fun _ _ => ?_))
    | apply OtpKept.ite
    | extract_lets
    | split
    | dsimp -zeta only
    | dsimp +zetaDelta only

theorem execByAddr_kept (p : Path) (s : State) : KeepsOtp s (execByAddr p s) := by
  unfold execByAddr
  repeat' with_reducible first
    | apply KeepsOtp.next
    | exact OtpKept.refl _
    | apply OtpKept.trans _ (State.write_kept ..)
    | apply OtpKept.trans _ (foldl_kept _ _ _ (fun _ _ => ?_))
    | apply OtpKept.ite
    | extract_lets
    | split
    | dsimp -zeta only
    | dsimp +zetaDelta only

theorem execByPos_kept (p : Path) (s : State) : KeepsOtp s (execByPos p s) := by
  unfold execByPos
  repeat' with_reducible first
    | apply KeepsOtp.next
    | exact OtpKept.refl _
    | apply OtpKept.trans _ (State.write_kept ..)
    | apply OtpKept.trans _ (foldl_kept _ _ _ (fun _ _ => ?_))
    | apply OtpKept.ite
    | extract_lets
    | split
    | dsimp -zeta only
    | dsimp +zetaDelta only

theorem execDrainEnd_kept (s : State) : KeepsOtp s (execDrainEnd s) := by
  unfold execDrainEnd
  repeat' with_reducible first
    | apply KeepsOtp.next
    | exact OtpKept.refl _
    | apply OtpKept.trans _ (State.drainEnd_kept ..)
    | apply OtpKept.trans _ (foldl_kept _ _ _ (fun _ _ => ?_))
    | apply OtpKept.ite
    | extract_lets
    | split
    | dsimp -zeta only
    | dsimp +zetaDelta only

theorem execDrainLimit_kept (s : State) : KeepsOtp s (execDrainLimit s) := by
  unfold execDrainLimit
  repeat' with_reducible first
    | apply KeepsOtp.next
    | exact OtpKept.refl _
    | apply OtpKept.trans _ (State.drainEnd_kept ..)
    | apply OtpKept.trans _ (foldl_kept _ _ _ (fun _ _ => ?_))
    | apply OtpKept.ite
    | extract_lets
    | split
    | dsimp -zeta only
    | dsimp +zetaDelta only

theorem execLogClr_kept (p : Path) (s : State) : KeepsOtp s (execLogClr p s) := by
  unfold execLogClr
  repeat' with_reducible first
    | apply KeepsOtp.next
    | exact OtpKept.refl _
    | apply OtpKept.trans _ (State.write_kept ..)
    | apply OtpKept.trans _ (foldl_kept _ _ _ (fun _ _ => ?_))
    | apply OtpKept.ite
    | extract_lets
    | split
    | dsimp -zeta only
    | dsimp +zetaDelta only

theorem execDrainMaxReset_kept (p : Path) (s : State) : KeepsOtp s (execDrainMaxReset p s) := by
  unfold execDrainMaxReset
  repeat' with_reducible first
    | apply KeepsOtp.next
    | exact OtpKept.refl _
    | apply OtpKept.trans _ (State.write_kept ..)
    | apply OtpKept.trans _ (foldl_kept _ _ _ (fun _ _ => ?_))
    | apply OtpKept.ite
    | extract_lets
    | split
    | dsimp -zeta only
    | dsimp +zetaDelta only

theorem execHpDisable_kept (p : Path) (h : Fin 32) (s : State) : KeepsOtp s (execHpDisable p h s) := by
  unfold execHpDisable
  repeat' with_reducible first
    | apply KeepsOtp.next
    | exact OtpKept.refl _
    | apply OtpKept.trans _ (State.write_kept ..)
    | apply OtpKept.trans _ (foldl_kept _ _ _ (fun _ _ => ?_))
    | apply OtpKept.ite
    | extract_lets
    | split
    | dsimp -zeta only
    | dsimp +zetaDelta only

theorem execHpRetrain_kept (p : Path) (h : Fin 32) (s : State) : KeepsOtp s (execHpRetrain p h s) := by
  unfold execHpRetrain
  repeat' with_reducible first
    | apply KeepsOtp.next
    | exact OtpKept.refl _
    | apply OtpKept.trans _ (State.write_kept ..)
    | apply OtpKept.trans _ (foldl_kept _ _ _ (fun _ _ => ?_))
    | apply OtpKept.ite
    | extract_lets
    | split
    | dsimp -zeta only
    | dsimp +zetaDelta only

theorem execMpRetrain_kept (p : Path) (m : Fin 16) (s : State) : KeepsOtp s (execMpRetrain p m s) := by
  unfold execMpRetrain
  repeat' with_reducible first
    | apply KeepsOtp.next
    | exact OtpKept.refl _
    | apply OtpKept.trans _ (State.write_kept ..)
    | apply OtpKept.trans _ (foldl_kept _ _ _ (fun _ _ => ?_))
    | apply OtpKept.ite
    | extract_lets
    | split
    | dsimp -zeta only
    | dsimp +zetaDelta only

theorem execDomainRequest_kept (p : Path) (page : Option (BitVec 14)) (req : BitVec 2) (s : State) : KeepsOtp s (execDomainRequest p page req s) := by
  unfold execDomainRequest
  repeat' with_reducible first
    | apply KeepsOtp.next
    | exact OtpKept.refl _
    | apply OtpKept.trans _ (State.write_kept ..)
    | apply OtpKept.trans _ (foldl_kept _ _ _ (fun _ _ => ?_))
    | apply OtpKept.ite
    | extract_lets
    | split
    | dsimp -zeta only
    | dsimp +zetaDelta only

theorem execAonBrownout_kept (s : State) : KeepsOtp s (execAonBrownout s) := by
  unfold execAonBrownout
  repeat' with_reducible first
    | apply KeepsOtp.next
    | exact OtpKept.refl _
    | apply OtpKept.trans _ (State.coldStart_kept ..)
    | apply OtpKept.trans _ (foldl_kept _ _ _ (fun _ _ => ?_))
    | apply OtpKept.ite
    | extract_lets
    | split
    | dsimp -zeta only
    | dsimp +zetaDelta only

theorem execResetTrip_kept (rail : Fin 6) (mv : BitVec 16) (s : State) : KeepsOtp s (execResetTrip rail mv s) := by
  unfold execResetTrip
  repeat' with_reducible first
    | apply KeepsOtp.next
    | exact OtpKept.refl _
    | apply OtpKept.trans _ (State.railReset_kept ..)
    | apply OtpKept.after (m := 67108861) (by decide) (State.railSample_same ..)
    | apply OtpKept.trans _ (foldl_kept _ _ _ (fun _ _ => ?_))
    | apply OtpKept.ite
    | extract_lets
    | split
    | dsimp -zeta only
    | dsimp +zetaDelta only

theorem execResetRelease_kept (rail : Fin 6) (s : State) : KeepsOtp s (execResetRelease rail s) := by
  unfold execResetRelease
  repeat' with_reducible first
    | apply KeepsOtp.next
    | exact OtpKept.refl _
    | apply OtpKept.trans _ (State.railRelease_kept ..)
    | apply OtpKept.trans _ (foldl_kept _ _ _ (fun _ _ => ?_))
    | apply OtpKept.ite
    | extract_lets
    | split
    | dsimp -zeta only
    | dsimp +zetaDelta only

theorem execThermalTrip_kept (sensor : Fin 64) (s : State) : KeepsOtp s (execThermalTrip sensor s) := by
  unfold execThermalTrip
  repeat' with_reducible first
    | apply KeepsOtp.next
    | exact OtpKept.refl _
    | apply OtpKept.trans _ (State.thermalTrip_kept ..)
    | apply OtpKept.trans _ (foldl_kept _ _ _ (fun _ _ => ?_))
    | apply OtpKept.ite
    | extract_lets
    | split
    | dsimp -zeta only
    | dsimp +zetaDelta only

theorem execThermalRestart_kept (s : State) : KeepsOtp s (execThermalRestart s) := by
  unfold execThermalRestart
  repeat' with_reducible first
    | apply KeepsOtp.next
    | exact OtpKept.refl _
    | apply OtpKept.trans _ (State.cooled_kept ..)
    | apply OtpKept.trans _ (foldl_kept _ _ _ (fun _ _ => ?_))
    | apply OtpKept.ite
    | extract_lets
    | split
    | dsimp -zeta only
    | dsimp +zetaDelta only

theorem execClockPllLockLoss_kept (pll : Fin 2) (s : State) : KeepsOtp s (execClockPllLockLoss pll s) := by
  unfold execClockPllLockLoss
  repeat' with_reducible first
    | apply KeepsOtp.next
    | exact OtpKept.refl _
    | apply OtpKept.after (m := 66838517) (by decide) (State.clkLost_same ..)
    | apply OtpKept.trans _ (State.warmStart_kept ..)
    | apply OtpKept.after (m := 67108861) (by decide) (State.set_same ..)
    | apply OtpKept.trans _ (foldl_kept _ _ _ (fun _ _ => ?_))
    | apply OtpKept.ite
    | extract_lets
    | split
    | dsimp -zeta only
    | dsimp +zetaDelta only

theorem execXtalHoldExpiry_kept (s : State) : KeepsOtp s (execXtalHoldExpiry s) := by
  unfold execXtalHoldExpiry
  repeat' with_reducible first
    | apply KeepsOtp.next
    | exact OtpKept.refl _
    | apply OtpKept.trans _ (State.warmStart_kept ..)
    | apply OtpKept.trans _ (foldl_kept _ _ _ (fun _ _ => ?_))
    | apply OtpKept.ite
    | extract_lets
    | split
    | dsimp -zeta only
    | dsimp +zetaDelta only

theorem execToPll_kept (p : Path) (s : State) : KeepsOtp s (execToPll p s) := by
  unfold execToPll
  repeat' with_reducible first
    | apply KeepsOtp.next
    | exact OtpKept.refl _
    | apply OtpKept.trans _ (State.write_kept ..)
    | apply OtpKept.trans _ (foldl_kept _ _ _ (fun _ _ => ?_))
    | apply OtpKept.ite
    | extract_lets
    | split
    | dsimp -zeta only
    | dsimp +zetaDelta only

theorem execClkSwap_kept (p : Path) (s : State) : KeepsOtp s (execClkSwap p s) := by
  unfold execClkSwap
  repeat' with_reducible first
    | apply KeepsOtp.next
    | exact OtpKept.refl _
    | apply OtpKept.trans _ (State.write_kept ..)
    | apply OtpKept.trans _ (foldl_kept _ _ _ (fun _ _ => ?_))
    | apply OtpKept.ite
    | extract_lets
    | split
    | dsimp -zeta only
    | dsimp +zetaDelta only

theorem execPorstN_kept (s : State) : KeepsOtp s (execPorstN s) := by
  unfold execPorstN
  repeat' with_reducible first
    | apply KeepsOtp.next
    | exact OtpKept.refl _
    | apply OtpKept.trans _ (State.porst_kept ..)
    | apply OtpKept.trans _ (foldl_kept _ _ _ (fun _ _ => ?_))
    | apply OtpKept.ite
    | extract_lets
    | split
    | dsimp -zeta only
    | dsimp +zetaDelta only

theorem execWarmN_kept (s : State) : KeepsOtp s (execWarmN s) := by
  unfold execWarmN
  repeat' with_reducible first
    | apply KeepsOtp.next
    | exact OtpKept.refl _
    | apply OtpKept.trans _ (State.warmPin_kept ..)
    | apply OtpKept.trans _ (foldl_kept _ _ _ (fun _ _ => ?_))
    | apply OtpKept.ite
    | extract_lets
    | split
    | dsimp -zeta only
    | dsimp +zetaDelta only

theorem execRstCmdWarm_kept (p : Path) (key : BitVec 8) (s : State) : KeepsOtp s (execRstCmdWarm p key s) := by
  unfold execRstCmdWarm
  repeat' with_reducible first
    | apply KeepsOtp.next
    | exact OtpKept.refl _
    | apply OtpKept.trans _ (State.write_kept ..)
    | apply OtpKept.trans _ (foldl_kept _ _ _ (fun _ _ => ?_))
    | apply OtpKept.ite
    | extract_lets
    | split
    | dsimp -zeta only
    | dsimp +zetaDelta only

theorem execBootWatchdog_kept (s : State) : KeepsOtp s (execBootWatchdog s) := by
  unfold execBootWatchdog
  repeat' with_reducible first
    | apply KeepsOtp.next
    | exact OtpKept.refl _
    | apply OtpKept.trans _ (State.warmStart_kept ..)
    | apply OtpKept.trans _ (foldl_kept _ _ _ (fun _ _ => ?_))
    | apply OtpKept.ite
    | extract_lets
    | split
    | dsimp -zeta only
    | dsimp +zetaDelta only

theorem execRstCmdShutdown_kept (p : Path) (key : BitVec 8) (s : State) : KeepsOtp s (execRstCmdShutdown p key s) := by
  unfold execRstCmdShutdown
  repeat' with_reducible first
    | apply KeepsOtp.next
    | exact OtpKept.refl _
    | apply OtpKept.trans _ (State.write_kept ..)
    | apply OtpKept.trans _ (foldl_kept _ _ _ (fun _ _ => ?_))
    | apply OtpKept.ite
    | extract_lets
    | split
    | dsimp -zeta only
    | dsimp +zetaDelta only

theorem execRecord_kept (s : State) : KeepsOtp s (execRecord s) := by
  unfold execRecord
  repeat' with_reducible first
    | apply KeepsOtp.next
    | exact OtpKept.refl _
    | apply OtpKept.trans _ (State.recorded_kept ..)
    | apply OtpKept.trans _ (foldl_kept _ _ _ (fun _ _ => ?_))
    | apply OtpKept.ite
    | extract_lets
    | split
    | dsimp -zeta only
    | dsimp +zetaDelta only

theorem execShutdownDone_kept (ms : BitVec 16) (s : State) : KeepsOtp s (execShutdownDone ms s) := by
  unfold execShutdownDone
  repeat' with_reducible first
    | apply KeepsOtp.next
    | exact OtpKept.refl _
    | apply OtpKept.trans _ (State.shutdownDone_kept ..)
    | apply OtpKept.trans _ (foldl_kept _ _ _ (fun _ _ => ?_))
    | apply OtpKept.ite
    | extract_lets
    | split
    | dsimp -zeta only
    | dsimp +zetaDelta only

theorem execBistGo_kept (p : Path) (prog : Fin 16) (s : State) : KeepsOtp s (execBistGo p prog s) := by
  unfold execBistGo
  repeat' with_reducible first
    | apply KeepsOtp.next
    | exact OtpKept.refl _
    | apply OtpKept.trans _ (State.write_kept ..)
    | apply OtpKept.trans _ (foldl_kept _ _ _ (fun _ _ => ?_))
    | apply OtpKept.ite
    | extract_lets
    | split
    | dsimp -zeta only
    | dsimp +zetaDelta only

theorem execFrameStart_kept (n : Fin 8) (s : State) : KeepsOtp s (execFrameStart n s) := by
  unfold execFrameStart
  repeat' with_reducible first
    | apply KeepsOtp.next
    | exact OtpKept.refl _
    | apply OtpKept.after (m := 49835893) (by decide) (State.soDrain_same ..)
    | apply OtpKept.after (m := 49832305) (by decide) (State.soStart_same ..)
    | apply OtpKept.trans _ (State.settled_kept ..)
    | apply OtpKept.after (m := 67108847) (by decide) (State.atFrame_same ..)
    | apply OtpKept.after (m := 67108853) (by decide) (State.soBegin_same ..)
    | apply OtpKept.trans _ (foldl_kept _ _ _ (fun _ _ => ?_))
    | apply OtpKept.ite
    | extract_lets
    | split
    | dsimp -zeta only
    | dsimp +zetaDelta only

theorem execSoEnable_kept (p : Path) (n : Fin 8) (s : State) : KeepsOtp s (execSoEnable p n s) := by
  unfold execSoEnable
  repeat' with_reducible first
    | apply KeepsOtp.next
    | exact OtpKept.refl _
    | apply OtpKept.trans _ (State.write_kept ..)
    | apply OtpKept.trans _ (foldl_kept _ _ _ (fun _ _ => ?_))
    | apply OtpKept.ite
    | extract_lets
    | split
    | dsimp -zeta only
    | dsimp +zetaDelta only

theorem execSoDisable_kept (p : Path) (n : Fin 8) (s : State) : KeepsOtp s (execSoDisable p n s) := by
  unfold execSoDisable
  repeat' with_reducible first
    | apply KeepsOtp.next
    | exact OtpKept.refl _
    | apply OtpKept.trans _ (State.write_kept ..)
    | apply OtpKept.trans _ (foldl_kept _ _ _ (fun _ _ => ?_))
    | apply OtpKept.ite
    | extract_lets
    | split
    | dsimp -zeta only
    | dsimp +zetaDelta only

theorem execDirty_kept (p : Path) (n : Fin 8) (s : State) : KeepsOtp s (execDirty p n s) := by
  unfold execDirty
  repeat' with_reducible first
    | apply KeepsOtp.next
    | exact OtpKept.refl _
    | apply OtpKept.trans _ (State.write_kept ..)
    | apply OtpKept.trans _ (foldl_kept _ _ _ (fun _ _ => ?_))
    | apply OtpKept.ite
    | extract_lets
    | split
    | dsimp -zeta only
    | dsimp +zetaDelta only

theorem execAtAxisFineSlot_kept (slot : Fin 8) (s : State) : KeepsOtp s (execAtAxisFineSlot slot s) := by
  unfold execAtAxisFineSlot
  repeat' with_reducible first
    | apply KeepsOtp.next
    | exact OtpKept.refl _
    | apply OtpKept.trans _ (State.instantMet_kept ..)
    | apply OtpKept.trans _ (State.settled_kept ..)
    | apply OtpKept.after (m := 67108847) (by decide) (State.markMet_same ..)
    | apply OtpKept.trans _ (foldl_kept _ _ _ (fun _ _ => ?_))
    | apply OtpKept.ite
    | extract_lets
    | split
    | dsimp -zeta only
    | dsimp +zetaDelta only

theorem execStepGo_kept (p : Path) (s : State) : KeepsOtp s (execStepGo p s) := by
  unfold execStepGo
  repeat' with_reducible first
    | apply KeepsOtp.next
    | exact OtpKept.refl _
    | apply State.writeVia_kept _ _ _ _ _ _ (fun _ => ?_)
    | apply OtpKept.trans _ (State.settled_kept ..)
    | apply OtpKept.after (m := 67076093) (by decide) (State.stepScan_same ..)
    | apply OtpKept.after (m := 50130725) (by decide) (State.stepGo_same ..)
    | apply OtpKept.after (m := 67108861) (by decide) (State.bump_same ..)
    | apply OtpKept.trans _ (foldl_kept _ _ _ (fun _ _ => ?_))
    | apply OtpKept.ite
    | extract_lets
    | split
    | dsimp -zeta only
    | dsimp +zetaDelta only

theorem execAxisTransition_kept (a : Fin 8) (la lb : Bool) (s : State) : KeepsOtp s (execAxisTransition a la lb s) := by
  unfold execAxisTransition
  repeat' with_reducible first
    | apply KeepsOtp.next
    | exact OtpKept.refl _
    | apply OtpKept.trans _ (State.settled_kept ..)
    | apply OtpKept.after (m := 50130725) (by decide) (State.quadrature_same ..)
    | apply OtpKept.trans _ (foldl_kept _ _ _ (fun _ _ => ?_))
    | apply OtpKept.ite
    | extract_lets
    | split
    | dsimp -zeta only
    | dsimp +zetaDelta only

theorem execSwDelta_kept (p : Path) (a : Fin 8) (delta : Word) (s : State) : KeepsOtp s (execSwDelta p a delta s) := by
  unfold execSwDelta
  repeat' with_reducible first
    | apply KeepsOtp.next
    | exact OtpKept.refl _
    | apply State.writeVia_kept _ _ _ _ _ _ (fun _ => ?_)
    | apply OtpKept.trans _ (State.settled_kept ..)
    | apply OtpKept.after (m := 50130725) (by decide) (State.swDelta_same ..)
    | apply OtpKept.trans _ (foldl_kept _ _ _ (fun _ _ => ?_))
    | apply OtpKept.ite
    | extract_lets
    | split
    | dsimp -zeta only
    | dsimp +zetaDelta only

theorem execVelUpdate_kept (a : Fin 8) (s : State) : KeepsOtp s (execVelUpdate a s) := by
  unfold execVelUpdate
  repeat' with_reducible first
    | apply KeepsOtp.next
    | exact OtpKept.refl _
    | apply OtpKept.trans _ (State.settled_kept ..)
    | apply OtpKept.after (m := 50130725) (by decide) (State.axisEval_same ..)
    | apply OtpKept.after (m := 67108853) (by decide) (State.judgeSpeed_same ..)
    | apply OtpKept.after (m := 67108861) (by decide) (State.setI_same ..)
    | apply OtpKept.trans _ (foldl_kept _ _ _ (fun _ _ => ?_))
    | apply OtpKept.ite
    | extract_lets
    | split
    | dsimp -zeta only
    | dsimp +zetaDelta only

theorem execAxisStopped_kept (a : Fin 8) (s : State) : KeepsOtp s (execAxisStopped a s) := by
  unfold execAxisStopped
  repeat' with_reducible first
    | apply KeepsOtp.next
    | exact OtpKept.refl _
    | apply OtpKept.trans _ (State.settled_kept ..)
    | apply OtpKept.after (m := 50130725) (by decide) (State.axisEval_same ..)
    | apply OtpKept.after (m := 67108855) (by decide) (State.raise_same ..)
    | apply OtpKept.after (m := 67108861) (by decide) (State.set_same ..)
    | apply OtpKept.trans _ (foldl_kept _ _ _ (fun _ _ => ?_))
    | apply OtpKept.ite
    | extract_lets
    | split
    | dsimp -zeta only
    | dsimp +zetaDelta only

theorem execPositionCrossing_kept (a : Fin 8) (s : State) : KeepsOtp s (execPositionCrossing a s) := by
  unfold execPositionCrossing
  repeat' with_reducible first
    | apply KeepsOtp.next
    | exact OtpKept.refl _
    | apply OtpKept.trans _ (State.settled_kept ..)
    | apply OtpKept.after (m := 50130725) (by decide) (State.axisEval_same ..)
    | apply OtpKept.trans _ (foldl_kept _ _ _ (fun _ _ => ?_))
    | apply OtpKept.ite
    | extract_lets
    | split
    | dsimp -zeta only
    | dsimp +zetaDelta only

theorem execAxCmdClear_kept (p : Path) (a : Fin 8) (s : State) : KeepsOtp s (execAxCmdClear p a s) := by
  unfold execAxCmdClear
  repeat' with_reducible first
    | apply KeepsOtp.next
    | exact OtpKept.refl _
    | apply State.writeVia_kept _ _ _ _ _ _ (fun _ => ?_)
    | apply OtpKept.trans _ (State.settled_kept ..)
    | apply OtpKept.after (m := 50130725) (by decide) (State.clearFlags_same ..)
    | apply OtpKept.after (m := 67108861) (by decide) (State.bump_same ..)
    | apply OtpKept.trans _ (foldl_kept _ _ _ (fun _ _ => ?_))
    | apply OtpKept.ite
    | extract_lets
    | split
    | dsimp -zeta only
    | dsimp +zetaDelta only

theorem execAxCmdLoad_kept (p : Path) (a : Fin 8) (s : State) : KeepsOtp s (execAxCmdLoad p a s) := by
  unfold execAxCmdLoad
  repeat' with_reducible first
    | apply KeepsOtp.next
    | exact OtpKept.refl _
    | apply State.writeVia_kept _ _ _ _ _ _ (fun _ => ?_)
    | apply OtpKept.trans _ (State.settled_kept ..)
    | apply OtpKept.after (m := 50327333) (by decide) (State.loadCount_same ..)
    | apply OtpKept.after (m := 67108861) (by decide) (State.bump_same ..)
    | apply OtpKept.trans _ (foldl_kept _ _ _ (fun _ _ => ?_))
    | apply OtpKept.ite
    | extract_lets
    | split
    | dsimp -zeta only
    | dsimp +zetaDelta only

theorem execRegWrite_kept (addr : BitVec 32) (len : BitVec 16) (words : List Word) (done : Bool) (s : State) : KeepsOtp s (execRegWrite addr len words done s) := by
  unfold execRegWrite
  repeat' with_reducible first
    | apply KeepsOtp.next
    | exact OtpKept.refl _
    | apply State.usbControl_kept _ _ _ _ _ _ (fun _ => ?_)
    | apply OtpKept.trans _ (State.writeRun_kept ..)
    | apply OtpKept.trans _ (foldl_kept _ _ _ (fun _ _ => ?_))
    | apply OtpKept.ite
    | extract_lets
    | split
    | dsimp -zeta only
    | dsimp +zetaDelta only

theorem execEp2Write_kept (s : State) : KeepsOtp s (execEp2Write s) := by
  unfold execEp2Write
  repeat' with_reducible first
    | apply KeepsOtp.next
    | exact OtpKept.refl _
    | apply State.ep2Run_kept _ _ _ (fun _ _ _ _ => ?_)
    | apply OtpKept.trans _ (State.writeRun_kept ..)
    | apply OtpKept.after (m := 67108855) (by decide) (State.emit_same ..)
    | apply OtpKept.trans _ (foldl_kept _ _ _ (fun _ _ => ?_))
    | apply OtpKept.ite
    | extract_lets
    | split
    | dsimp -zeta only
    | dsimp +zetaDelta only

theorem execSmbusWrite_kept (value : Word) (pecOk : Bool) (s : State) : KeepsOtp s (execSmbusWrite value pecOk s) := by
  unfold execSmbusWrite
  repeat' with_reducible first
    | apply KeepsOtp.next
    | exact OtpKept.refl _
    | apply State.smbus_kept _ _ _ (fun _ => ?_)
    | apply OtpKept.trans _ (State.write_kept ..)
    | apply OtpKept.with_smbPtr
    | apply OtpKept.trans _ (foldl_kept _ _ _ (fun _ _ => ?_))
    | apply OtpKept.ite
    | extract_lets
    | split
    | dsimp -zeta only
    | dsimp +zetaDelta only

theorem execGenerate_kept (p : Path) (target : BitVec 8) (attr : BitVec 2) (exp : Bool) (s : State) : KeepsOtp s (execGenerate p target attr exp s) := by
  unfold execGenerate
  repeat' with_reducible first
    | apply KeepsOtp.next
    | exact OtpKept.refl _
    | apply OtpKept.trans _ (State.write_kept ..)
    | apply OtpKept.trans _ (foldl_kept _ _ _ (fun _ _ => ?_))
    | apply OtpKept.ite
    | extract_lets
    | split
    | dsimp -zeta only
    | dsimp +zetaDelta only

theorem execDerive_kept (p : Path) (target source : BitVec 8) (attr : BitVec 2) (exp : Bool) (s : State) : KeepsOtp s (execDerive p target source attr exp s) := by
  unfold execDerive
  repeat' with_reducible first
    | apply KeepsOtp.next
    | exact OtpKept.refl _
    | apply OtpKept.trans _ (State.write_kept ..)
    | apply OtpKept.trans _ (foldl_kept _ _ _ (fun _ _ => ?_))
    | apply OtpKept.ite
    | extract_lets
    | split
    | dsimp -zeta only
    | dsimp +zetaDelta only

theorem execUnwrap_kept (p : Path) (target source : BitVec 8) (attr : BitVec 2) (exp : Bool) (s : State) : KeepsOtp s (execUnwrap p target source attr exp s) := by
  unfold execUnwrap
  repeat' with_reducible first
    | apply KeepsOtp.next
    | exact OtpKept.refl _
    | apply OtpKept.trans _ (State.write_kept ..)
    | apply OtpKept.trans _ (foldl_kept _ _ _ (fun _ _ => ?_))
    | apply OtpKept.ite
    | extract_lets
    | split
    | dsimp -zeta only
    | dsimp +zetaDelta only

theorem execWrap_kept (p : Path) (target source : BitVec 8) (s : State) : KeepsOtp s (execWrap p target source s) := by
  unfold execWrap
  repeat' with_reducible first
    | apply KeepsOtp.next
    | exact OtpKept.refl _
    | apply OtpKept.trans _ (State.write_kept ..)
    | apply OtpKept.trans _ (foldl_kept _ _ _ (fun _ _ => ?_))
    | apply OtpKept.ite
    | extract_lets
    | split
    | dsimp -zeta only
    | dsimp +zetaDelta only

theorem execZero_kept (p : Path) (target : BitVec 8) (s : State) : KeepsOtp s (execZero p target s) := by
  unfold execZero
  repeat' with_reducible first
    | apply KeepsOtp.next
    | exact OtpKept.refl _
    | apply OtpKept.trans _ (State.write_kept ..)
    | apply OtpKept.trans _ (foldl_kept _ _ _ (fun _ _ => ?_))
    | apply OtpKept.ite
    | extract_lets
    | split
    | dsimp -zeta only
    | dsimp +zetaDelta only

theorem execRandom_kept (p : Path) (s : State) : KeepsOtp s (execRandom p s) := by
  unfold execRandom
  repeat' with_reducible first
    | apply KeepsOtp.next
    | exact OtpKept.refl _
    | apply OtpKept.trans _ (State.write_kept ..)
    | apply OtpKept.trans _ (foldl_kept _ _ _ (fun _ _ => ?_))
    | apply OtpKept.ite
    | extract_lets
    | split
    | dsimp -zeta only
    | dsimp +zetaDelta only

theorem execDrbgRestart_kept (p : Path) (s : State) : KeepsOtp s (execDrbgRestart p s) := by
  unfold execDrbgRestart
  repeat' with_reducible first
    | apply KeepsOtp.next
    | exact OtpKept.refl _
    | apply OtpKept.trans _ (State.write_kept ..)
    | apply OtpKept.trans _ (foldl_kept _ _ _ (fun _ _ => ?_))
    | apply OtpKept.ite
    | extract_lets
    | split
    | dsimp -zeta only
    | dsimp +zetaDelta only

theorem execRootGen_kept (p : Path) (s : State) : KeepsOtp s (execRootGen p s) := by
  unfold execRootGen
  repeat' with_reducible first
    | apply KeepsOtp.next
    | exact OtpKept.refl _
    | apply OtpKept.trans _ (State.write_kept ..)
    | apply OtpKept.trans _ (foldl_kept _ _ _ (fun _ _ => ?_))
    | apply OtpKept.ite
    | extract_lets
    | split
    | dsimp -zeta only
    | dsimp +zetaDelta only

theorem execLcReq_kept (src : LcFrom) (key : BitVec 8) (target : BitVec 3) (s : State) : KeepsOtp s (execLcReq src key target s) := by
  unfold execLcReq
  repeat' with_reducible first
    | apply KeepsOtp.next
    | exact OtpKept.refl _
    | apply OtpKept.trans _ (State.write_kept ..)
    | apply OtpKept.after (m := 67108853) (by decide) (State.jtagRefuse_same ..)
    | apply OtpKept.trans _ (State.lcAccept_kept ..)
    | apply OtpKept.trans _ (foldl_kept _ _ _ (fun _ _ => ?_))
    | apply OtpKept.ite
    | extract_lets
    | split
    | dsimp -zeta only
    | dsimp +zetaDelta only

theorem execLcBlowDone_kept (s : State) : KeepsOtp s (execLcBlowDone s) := by
  unfold execLcBlowDone
  repeat' with_reducible first
    | apply KeepsOtp.next
    | exact OtpKept.refl _
    | apply OtpKept.trans _ (State.warmStart_kept ..)
    | apply OtpKept.trans _ (State.lcBlow_kept ..)
    | apply OtpKept.trans _ (foldl_kept _ _ _ (fun _ _ => ?_))
    | apply OtpKept.ite
    | extract_lets
    | split
    | dsimp -zeta only
    | dsimp +zetaDelta only

theorem execOtpCmdGo_kept (p : Path) (id : BitVec 8) (s : State) : KeepsOtp s (execOtpCmdGo p id s) := by
  unfold execOtpCmdGo
  repeat' with_reducible first
    | apply KeepsOtp.next
    | exact OtpKept.refl _
    | apply OtpKept.trans _ (State.write_kept ..)
    | apply OtpKept.trans _ (foldl_kept _ _ _ (fun _ _ => ?_))
    | apply OtpKept.ite
    | extract_lets
    | split
    | dsimp -zeta only
    | dsimp +zetaDelta only

theorem execOtpWriteDone_kept (ok : Bool) (s : State) : KeepsOtp s (execOtpWriteDone ok s) := by
  unfold execOtpWriteDone
  repeat' with_reducible first
    | apply KeepsOtp.next
    | exact OtpKept.refl _
    | apply OtpKept.trans _ (State.otpDone_kept ..)
    | apply OtpKept.trans _ (foldl_kept _ _ _ (fun _ _ => ?_))
    | apply OtpKept.ite
    | extract_lets
    | split
    | dsimp -zeta only
    | dsimp +zetaDelta only

theorem execClrLockout_kept (p : Path) (n : Fin 16) (s : State) : KeepsOtp s (execClrLockout p n s) := by
  unfold execClrLockout
  repeat' with_reducible first
    | apply KeepsOtp.next
    | exact OtpKept.refl _
    | apply OtpKept.trans _ (State.write_kept ..)
    | apply OtpKept.trans _ (foldl_kept _ _ _ (fun _ _ => ?_))
    | apply OtpKept.ite
    | extract_lets
    | split
    | dsimp -zeta only
    | dsimp +zetaDelta only

theorem execClrPeak_kept (p : Path) (n : Fin 16) (s : State) : KeepsOtp s (execClrPeak p n s) := by
  unfold execClrPeak
  repeat' with_reducible first
    | apply KeepsOtp.next
    | exact OtpKept.refl _
    | apply OtpKept.trans _ (State.write_kept ..)
    | apply OtpKept.trans _ (foldl_kept _ _ _ (fun _ _ => ?_))
    | apply OtpKept.ite
    | extract_lets
    | split
    | dsimp -zeta only
    | dsimp +zetaDelta only

theorem execRegisterWrite_kept (p : Path) (addr : BitVec 26) (value : List Word) (be : List (BitVec 4)) (s : State) : KeepsOtp s (execRegisterWrite p addr value be s) := by
  unfold execRegisterWrite
  repeat' with_reducible first
    | apply KeepsOtp.next
    | exact OtpKept.refl _
    | apply OtpKept.trans _ (State.writeWide_kept ..)
    | apply OtpKept.trans _ (foldl_kept _ _ _ (fun _ _ => ?_))
    | apply OtpKept.ite
    | extract_lets
    | split
    | dsimp -zeta only
    | dsimp +zetaDelta only

theorem execZPulse_kept (z : ZLevel) (s : State) : KeepsOtp s (execZPulse z s) := by
  unfold execZPulse
  repeat' with_reducible first
    | apply KeepsOtp.next
    | exact OtpKept.refl _
    | apply OtpKept.after (m := 67108799) (by decide) (State.setAxis_same ..)
    | apply OtpKept.trans _ (State.settled_kept ..)
    | apply OtpKept.after (m := 67108861) (by decide) (State.showLevels_same ..)
    | apply OtpKept.after (m := 50130725) (by decide) (State.zPulse_same ..)
    | apply OtpKept.trans _ (foldl_kept _ _ _ (fun _ _ => ?_))
    | apply OtpKept.ite
    | extract_lets
    | split
    | dsimp -zeta only
    | dsimp +zetaDelta only

end Sys2Proof.Machine
end

