-- ==== Sys2Proof/Laws/Stored.lean ====
section
/-! SUPPORT. Storing a word at an offset of the management space: what a write to a register of one field does. -/

set_option linter.all false

namespace Sys2Proof.Machine

/-- A write that acts at once reaches a page. -/
theorem State.takes_page {s : State} {p : Path} {a v : Nat} (h : s.judge p a v 15 = .direct) : ∃ g, pageOf a = some g ∧ g.pg = a / 4096 * 4096 := by
  unfold State.judge at h
  dsimp only at h
  cases hp : pageOf a with
  | none =>
    rw [hp] at h
    repeat' split at h
    all_goals first | contradiction | cases h
  | some g =>
    refine ⟨g, rfl, ?_⟩
    unfold pageOf at hp
    obtain ⟨x, _, h2⟩ := List.exists_of_findSome?_eq_some hp
    repeat' split at h2
    all_goals first | cases h2; rfl | cases h2

/-- A write that acts at once has its effect on the state as it is. -/
theorem State.writeVia_direct {s : State} {p : Path} {a v be : Nat} (h : s.judge p a v be = .direct) (eff : State → State) :
    s.writeVia p a v be eff = eff s := by
  unfold State.writeVia
  rw [h]

/-- A direct write to a block register stores its word and does what the register does. -/
theorem State.applyDirect_block (s : State) (p a v : Nat) {g : Page} {r : RegSpec} {i : Nat} (hg : pageOf a = some g)
    (hr : findReg g.ps.kind (a % 4096) = some (r, i)) (h : ¬ a % 4096 < 0x40) (hn : guardRule ⟨0, a, v⟩ = false) :
    s.applyDirect p a v = (s.storeAt p a v).effect s ⟨g.ps.kind, g.n, r.off, i, s.bankOf p g.n r.bank - 1, p, v⟩ := by
  unfold State.applyDirect
  rw [hg]
  dsimp only
  rw [hr]
  dsimp only
  rw [if_neg h, hn]
  rfl

/-- A direct write, from the page's kind and unit and the register's place: what it does beyond storing. -/
theorem State.applyDirect_fx {s t : State} {p a v : Nat} {k : PageKind} {n i off : Nat}
    (hg : (pageOf a).map (fun g => (g.ps.kind, g.n)) = some (k, n)) (hr : (findReg k (a % 4096)).map (fun q => (q.1.off, q.2)) = some (off, i))
    (h : ¬ a % 4096 < 0x40) (hn : guardRule ⟨0, a, v⟩ = false) (he : ∀ w, (s.storeAt p a v).effect s ⟨k, n, off, i, w, p, v⟩ = t) :
    s.applyDirect p a v = t := by
  cases hp : pageOf a with
  | none => rw [hp] at hg; cases hg
  | some g =>
    rw [hp] at hg
    cases hf : findReg k (a % 4096) with
    | none => rw [hf] at hr; cases hr
    | some q =>
      rw [hf] at hr
      cases hg
      cases hr
      rw [State.applyDirect_block s p a v hp hf h hn]
      exact he _

/-- The same for a register that a window banks: the copy is the one the window picks. -/
theorem State.applyDirect_win {s t : State} {p a v : Nat} {k : PageKind} {n i off : Nat} {b : Bank}
    (hg : (pageOf a).map (fun g => (g.ps.kind, g.n)) = some (k, n))
    (hr : (findReg k (a % 4096)).map (fun q => (q.1.off, q.2, q.1.bank)) = some (off, i, b))
    (h : ¬ a % 4096 < 0x40) (hn : guardRule ⟨0, a, v⟩ = false) (he : (s.storeAt p a v).effect s ⟨k, n, off, i, s.bankOf p n b - 1, p, v⟩ = t) :
    s.applyDirect p a v = t := by
  cases hp : pageOf a with
  | none => rw [hp] at hg; cases hg
  | some g =>
    rw [hp] at hg
    cases hf : findReg k (a % 4096) with
    | none => rw [hf] at hr; cases hr
    | some q =>
      rw [hf] at hr
      cases hg
      cases hr
      rw [State.applyDirect_block s p a v hp hf h hn]
      exact he

/-- A whole write that acts at once, of a register that neither commits nor aborts a transaction. -/
theorem State.write_direct {s : State} {p : Path} {a v : Nat} (ha : a % 4 = 0) (h : s.judge p a v 15 = .direct) (n1 : a ≠ 0x2050)
    (n2 : a ≠ 0x2054) : s.write p a v 15 = (s.applyDirect (pathCode p) a v).settled := by
  unfold State.write State.writeWord
  simp only [if_pos ha, if_neg n1, if_neg n2]
  exact State.writeVia_direct h _

/-- A word stored into a register of one RW field that governs at once: the field holds its bits, and PAGE_SEQ counts a change (R25). -/
theorem State.storeAt_one (s : State) (p a v : Nat) {g : Page} {r : RegSpec} {i : Nat} {f : FieldSpec} (hg : pageOf a = some g)
    (hr : findReg g.ps.kind (a % 4096) = some (r, i)) (hf : r.fields = [f]) (ha : f.acc = .rw) (ht : f.takes = .now) {F : Fld}
    (hF : fldOf g r i (s.bankOf p g.n r.bank) a f = F) :
    s.storeAt p a v = (if s.get F = bits v f.lo f.width % 2 ^ F.width then s.set F (bits v f.lo f.width)
      else (s.set F (bits v f.lo f.width)).bump g.pg) := by
  unfold State.storeAt
  rw [hg]
  dsimp only
  rw [hr]
  dsimp only
  have e : s.storeReg g r i (s.bankOf p g.n r.bank) a v false = s.set F (bits v f.lo f.width) := by
    unfold State.storeReg
    rw [hf]
    simp [State.storeField, ha, ht, hF, State.stores]
  rw [e]
  unfold State.changes
  rw [hf]
  simp [ha, hF, State.get_set]

end Sys2Proof.Machine
end

