-- ==== Sys2Proof/WellFormed.lean ====
section
/-! DEFINITION. The commands that a sender can form: requesters that have a path (R16), and operands within the lengths and ranges that the rule
of their row gives. The hub's meanings are total and do not ask for it; statements that need it name it. -/

namespace Sys2Proof

/-- Requesters: the hosts, the management pair, EN02-EN23, SMBus and the service USB (R16). -/
def Path.wf : Path → Bool
  | .engine e => decide (2 ≤ e.val)
  | _ => true

def LcFrom.wf : LcFrom → Bool
  | .path p => p.wf
  | .jtag => true

/-- An atomic operation's operand is 4, 8 or 16 bytes, and fits (R175). -/
def AtomicOp.wf : AtomicOp → Bool
  | .fetchAdd b v | .swap b v => (b == 4 || b == 8) && decide (v < 256 ^ b)
  | .cas b c v => (b == 4 || b == 8 || b == 16) && decide (c < 256 ^ b) && decide (v < 256 ^ b)

/-- An expander's capacity is at least 1 GiB; the functions below a root port lie on the bus numbers 1-31 that the hub assigns (R189). -/
def MpDevice.wf : MpDevice → Bool
  | .expander g => decide (1 ≤ g)
  | .pcie fns => fns.all (fun f => decide (256 ≤ f.id.toNat) && decide (f.id.toNat < 8192))

def TlpIn.wf : TlpIn → Bool
  | .read _ _ len => decide (1 ≤ len.toNat) && decide (len.toNat ≤ 4096)
  | .write _ data => decide (1 ≤ data.length) && decide (data.length ≤ 4096)
  | .atomic _ _ op => op.wf
  | _ => true

/-- A message has at least one byte (R81). -/
def CellIn.wf (c : CellIn) : Bool := decide (1 ≤ c.payload.length)

/-- A clock's identity has 64 bits (R57). -/
def PtpMsg.wf : PtpMsg → Bool
  | .announce id _ => decide (id < 2 ^ 64)
  | _ => true

/-- A firmware image's programs fit the memories of their engines (R382). -/
def FwImage.wf (m : FwImage) : Bool := m.progs.all (fun p => decide (p.imem.length ≤ 16384) && decide (p.dmem.length ≤ 65536))

/-- Is a command well formed? -/
def Instr.wf : Instr → Bool
  | .registerWrite p _ value be => p.wf && !value.isEmpty && value.length == be.length
  | .ownerWrite p _ _ => p.wf
  | .pageEnable p _ _ => p.wf
  | .txnOpen p => p.wf
  | .txnCommit p _ => p.wf
  | .txnAbort p _ => p.wf
  | .atTimeCommit _ => true
  | .abortedIdle _ => true
  | .quarantineEnd _ id => decide (id < 2 ^ 28)
  | .cmdPost p _ _ entries => p.wf && decide (entries.length ≤ 65536)
  | .nop _ _ => true
  | .unknownOpcode _ _ => true
  | .evtConsumedWrite p _ _ => p.wf
  | .resync p _ => p.wf
  | .ringRestart p _ => p.wf
  | .ringEnable p _ _ _ => p.wf
  | .nowLoRead p _ => p.wf
  | .stepGo p => p.wf
  | .slewComplete => true
  | .ptpMessage _ m => m.msg.wf
  | .ptmDialogue _ _ => true
  | .axisTransition _ _ _ => true
  | .swDelta p _ _ => p.wf
  | .zPulse _ => true
  | .velUpdate _ => true
  | .axisStopped _ => true
  | .positionCrossing _ => true
  | .axCmdClear p _ => p.wf
  | .axCmdLoad p _ => p.wf
  | .tctrlArm p _ _ => p.wf
  | .tctrlDisarm p _ _ => p.wf
  | .triggerFire _ => true
  | .pulseEnd _ => true
  | .captureEdge _ _ => true
  | .capPop p _ => p.wf
  | .syncEdge _ _ => true
  | .syncLost _ => true
  | .cellArrival c => c.wf
  | .churnMatch => true
  | .cellAtOutput _ _ => true
  | .cumulativeAck _ _ => true
  | .streamNak _ => true
  | .ackTimeout _ => true
  | .checkCell _ _ _ _ => true
  | .planeFail _ => true
  | .planeForce p _ => p.wf
  | .failoverComplete => true
  | .bankRetire _ _ badReads lost => badReads.all (fun x => !lost.contains x)
  | .bankCopyComplete _ => true
  | .holdRelease _ => true
  | .holdAgeExpiry _ => true
  | .holdPeakReset p => p.wf
  | .htResultRead p => p.wf
  | .shaperRefill _ => true
  | .shaperEnable p _ => p.wf
  | .coarseSlot => true
  | .axwWidthWrite p _ _ => p.wf
  | .wheelPeakReset p => p.wf
  | .governorWindow _ => true
  | .governorFirmware => true
  | .linkIdle _ => true
  | .memrd _ _ _ _ _ => true
  | .memrddata _ _ _ => true
  | .meminv _ _ _ _ => true
  | .memclnevct _ _ _ => true
  | .memwr _ _ _ _ _ _ => true
  | .memwrptl _ _ _ _ _ _ _ => true
  | .memspecrd _ _ => true
  | .birspi _ _ _ => true
  | .birsps _ _ _ => true
  | .birspe _ _ _ => true
  | .biconflict _ _ _ => true
  | .functionMemRead _ _ _ _ len => decide (1 ≤ len.toNat) && decide (len.toNat ≤ 4096)
  | .functionMemWrite _ _ _ data => decide (1 ≤ data.length) && decide (data.length ≤ 4096)
  | .functionAtomic _ _ _ _ op => op.wf
  | .expanderMemdata _ _ _ _ => true
  | .expanderCmp _ _ => true
  | .expanderBisnp _ _ => true
  | .completionTimeout _ _ => true
  | .tagFree _ _ => true
  | .bisnpTimeout _ _ => true
  | .regionEnable p _ _ => p.wf
  | .regionRecall p _ => p.wf
  | .regionRecallEnd _ => true
  | .windowEnable p _ => p.wf
  | .windowRecall p => p.wf
  | .windowRecallEnd _ _ => true
  | .lossWalkEnd _ => true
  | .poolLostClr p _ => p.wf
  | .creamBankFault _ _ _ => true
  | .crDrop p _ => p.wf
  | .crDisable p _ => p.wf
  | .sliceFail _ _ => true
  | .sliceForce p _ => p.wf
  | .reconstructionServing _ => true
  | .rebuildComplete _ => true
  | .reflectorFail _ => true
  | .dxFail => true
  | .byAddr p => p.wf
  | .byPos p => p.wf
  | .drainEnd => true
  | .drainLimit => true
  | .logClr p => p.wf
  | .drainMaxReset p => p.wf
  | .hpLinkUp _ _ _ _ => true
  | .hpLinkDown _ => true
  | .hpDisable p _ => p.wf
  | .hpRetrain p _ => p.wf
  | .mpLinkUp _ _ _ _ dev => dev.wf
  | .mpLinkDown _ => true
  | .mpRetrain p _ => p.wf
  | .ltrMessage _ _ => true
  | .linkStateExit _ => true
  | .bind _ _ _ _ _ _ _ _ _ => true
  | .unbind _ _ _ _ _ _ _ => true
  | .powerControllerOff _ _ => true
  | .unbindGrace _ _ => true
  | .writeFence _ _ _ _ => true
  | .fenceComplete _ _ => true
  | .pllLockLoss _ _ _ => true
  | .pllSwap p => p.wf
  | .pllReturn _ _ => true
  | .pllRetry _ _ => true
  | .tapRail _ _ => true
  | .seqStart p _ => p.wf
  | .seqStop p => p.wf
  | .seqEnd _ => true
  | .seqTxsrc _ => true
  | .seqRate _ => true
  | .seqWait _ => true
  | .seqWaitExpiry _ => true
  | .seqWaitfor _ => true
  | .waitforMet _ => true
  | .waitforTimeout _ => true
  | .seqAdapt _ => true
  | .seqFreeze _ => true
  | .seqFfe _ => true
  | .seqEngine _ => true
  | .seqJump _ => true
  | .seqSetlc _ => true
  | .seqDjnz _ => true
  | .seqReservedOp _ => true
  | .seqContinue p _ => p.wf
  | .trainingFrame _ _ _ => true
  | .slip p _ _ => p.wf
  | .dlRestart p _ => p.wf
  | .rateTimeout _ => true
  | .bringupTimeout _ => true
  | .bringupRestart _ => true
  | .laneExcluded _ _ => true
  | .eyeGo p _ => p.wf
  | .eyeStop p => p.wf
  | .eyePointDone _ _ _ => true
  | .audit _ _ mism _ => decide (mism.length ≤ 8) && mism.all (fun x => decide (x ≤ 2 ^ 20))
  | .injectOne p => p.wf
  | .deepExitComplete _ => true
  | .flitTime _ => true
  | .idleFlit _ _ => true
  | .dataFlit _ _ _ _ body => decide (body.length ≤ 236)
  | .dataBadFlit _ _ _ part => decide (part.body.length ≤ 236)
  | .sealFlit _ _ _ _ _ => true
  | .nakFlit _ _ => true
  | .initFlit _ _ _ _ credits _ _ => credits.length == 5
  | .pmFlit _ _ _ _ _ => true
  | .pauseFlit _ _ => true
  | .echoFlit _ _ _ => true
  | .echoReplyFlit _ _ _ _ _ => true
  | .reservedFlit _ _ => true
  | .crcFailedFlit _ => true
  | .nakRearm _ => true
  | .replayTimeout _ => true
  | .sealWaitExpiry _ => true
  | .initTimeout _ => true
  | .dead _ => true
  | .linkRestart _ => true
  | .lkRetrain p _ _ _ => p.wf
  | .lkDown p _ => p.wf
  | .retrainReq _ _ => true
  | .retrainAck _ _ => true
  | .retrainTimeout _ => true
  | .echoPeriod _ => true
  | .echoTimeout _ => true
  | .describe _ d => decide (d.sinks.length ≤ 8)
  | .chOpen _ _ _ _ => true
  | .chClose _ _ _ _ => true
  | .allotAck _ _ _ => true
  | .allotNak _ _ _ _ => true
  | .ltol _ _ => true
  | .vendorMgmt _ code payload => decide (64 ≤ code.toNat) && decide (payload.length ≤ 255)
  | .badMgmtMessage _ _ => true
  | .chCmdOpen p _ => p.wf
  | .chCmdClose p _ => p.wf
  | .tlp _ _ t => t.wf
  | .pcieScanTimeout _ _ => true
  | .ethFrame _ frame => decide (14 ≤ frame.bytes.length) && decide (frame.bytes.length ≤ 9216)
  | .fwdAge _ _ _ => true
  | .fwdPortCfg _ _ _ _ _ _ => true
  | .fwdFlush _ _ _ => true
  | .featuresOk _ _ _ _ => true
  | .epochBoundary _ _ => true
  | .sbuTmgmt _ _ _ msg => decide (msg.length ≤ 255)
  | .sbuTsig _ _ _ msg => decide (msg.length ≤ 255)
  | .wake _ _ _ => true
  | .sbuAck _ _ _ => true
  | .sbuTimeout _ => true
  | .attach _ _ => true
  | .drpToggle _ => true
  | .trySrcTimeout _ _ _ => true
  | .detach _ => true
  | .vconnFault _ => true
  | .cableIdentity _ _ => true
  | .sourceCapRepeat _ => true
  | .request _ _ => true
  | .eprRequest _ _ _ => true
  | .eprMode _ => true
  | .eprKeepalive _ => true
  | .eprKeepaliveTimeout _ => true
  | .getSourceCap _ => true
  | .getSinkCap _ => true
  | .sinkCapabilities _ _ => true
  | .sourceCapabilities _ _ => true
  | .drSwap _ => true
  | .prSwap _ => true
  | .vconnSwap _ => true
  | .softReset _ => true
  | .hardReset _ => true
  | .accept _ => true
  | .reject _ => true
  | .pdWait _ => true
  | .psRdy _ => true
  | .goodcrc _ _ => true
  | .goodcrcTimeout _ => true
  | .notSupported _ => true
  | .getStatus _ => true
  | .getRevision _ => true
  | .getSourceCapExtended _ => true
  | .eprGetSourceCap _ => true
  | .bistMessage _ _ => true
  | .unsupportedMessage _ _ => true
  | .senderResponseTimeout _ => true
  | .srcTransition _ => true
  | .psTransitionTimeout _ => true
  | .srcRecover _ => true
  | .errorRecoveryEnd _ => true
  | .swapRetry _ => true
  | .discoverIdentityAck _ => true
  | .discoverSvidsAck _ svids => decide (svids.length ≤ 12)
  | .discoverModesAck _ vdos => decide (vdos.length ≤ 6)
  | .enterModeAck _ _ _ _ => true
  | .vdmNak _ => true
  | .vdmBusy _ => true
  | .vdmRetry _ => true
  | .attention _ _ => true
  | .modeRetry _ => true
  | .pdCmdExit p _ => p.wf
  | .pdCmdEnter p _ => p.wf
  | .pdCmdSendCaps p _ => p.wf
  | .pdCmdDrSwap p _ => p.wf
  | .pdCmdPrSwap p _ => p.wf
  | .pdCmdSoftReset p _ => p.wf
  | .pdCmdHardReset p _ => p.wf
  | .pdSrcWrite p _ _ => p.wf
  | .pdDisable p _ => p.wf
  | .feedReverse _ => true
  | .feedLost _ => true
  | .feedOvervoltage _ => true
  | .feedReturn _ => true
  | .busUv => true
  | .dockBusReturn => true
  | .trimStep _ => true
  | .moveComplete _ => true
  | .moveTimeout _ => true
  | .efuseEnable _ _ => true
  | .buckTimeout _ => true
  | .gateOn _ => true
  | .gateTimeout _ => true
  | .limiting _ _ => true
  | .ocpTimer _ => true
  | .fastTrip _ => true
  | .overvolt _ => true
  | .undervolt _ => true
  | .reverse _ => true
  | .offWaitEnd _ => true
  | .powerGood _ => true
  | .discharged _ => true
  | .clrLockout p _ => p.wf
  | .clrPeak p _ => p.wf
  | .frameTrigger _ => true
  | .frameStart _ => true
  | .lineHandover _ => true
  | .fetchError _ _ _ => true
  | .soEnable p _ => p.wf
  | .soDisable p _ => p.wf
  | .dirty p _ => p.wf
  | .signal _ _ _ _ payload => decide (payload.length ≤ 244)
  | .intr _ _ _ _ payload => decide (payload.length ≤ 244)
  | .regAck _ _ _ _ => true
  | .regData _ _ _ _ d => decide (d.length ≤ 232)
  | .sigSend _ _ _ _ _ _ _ _ _ => true
  | .edgeRead _ _ _ _ _ _ _ => true
  | .edgeWrite _ _ _ _ len _ data => data.length == len.toNat
  | .edgeRmw _ _ _ _ _ _ _ _ => true
  | .semTake _ _ _ _ => true
  | .semGive _ _ => true
  | .regTimeout _ _ _ => true
  | .semWaitTimeout _ _ => true
  | .semHoldLimit _ _ => true
  | .poll _ => true
  | .raLife _ => true
  | .routeValid p _ => p.wf
  | .dpfClr p => p.wf
  | .hookTimeout _ => true
  | .engBrcmd p _ _ => p.wf
  | .evtEnWrite p _ _ => p.wf
  | .claim p _ _ => p.wf
  | .complete p _ _ _ => p.wf
  | .targetEnable _ => true
  | .evRouteWrite p _ => p.wf
  | .tgtQconsWrite p _ _ => p.wf
  | .msixEnable _ _ => true
  | .pinFilterEdge _ _ => true
  | .add _ _ _ _ => true
  | .sub _ _ _ _ => true
  | .and _ _ _ _ => true
  | .or _ _ _ _ => true
  | .xor _ _ _ _ => true
  | .shl _ _ _ _ => true
  | .shr _ _ _ _ => true
  | .sar _ _ _ _ => true
  | .mul _ _ _ _ => true
  | .sltu _ _ _ _ => true
  | .addi _ _ _ _ => true
  | .andi _ _ _ _ => true
  | .ori _ _ _ _ => true
  | .xori _ _ _ _ => true
  | .lui _ _ _ _ => true
  | .ld _ _ _ _ _ => true
  | .st _ _ _ _ => true
  | .ldb _ _ _ _ _ => true
  | .stb _ _ _ _ _ => true
  | .beq _ _ _ _ => true
  | .bne _ _ _ _ => true
  | .blt _ _ _ _ => true
  | .bltu _ _ _ _ => true
  | .jal _ _ _ => true
  | .jr _ _ _ _ => true
  | .csrr _ _ _ => true
  | .csrw _ _ _ => true
  | .wait _ => true
  | .retn _ => true
  | .retf _ => true
  | .ckpt _ => true
  | .fence _ => true
  | .trap _ _ => true
  | .illegalInstruction _ => true
  | .fastEntry _ => true
  | .normalEntry _ => true
  | .watchdog _ => true
  | .engineFault _ => true
  | .autoCkpt => true
  | .lockstepMismatch => true
  | .engLoad _ _ _ _ _ _ => true
  | .engStop _ _ _ => true
  | .engCtrlStart p _ => p.wf
  | .engCtrlStop p _ => p.wf
  | .mwDataAccess p _ => p.wf
  | .domainRequest p _ _ => p.wf
  | .domainTransition _ _ => true
  | .domainTransitionTimeout _ => true
  | .wakeSource _ => true
  | .wakeTime => true
  | .aonBrownout => true
  | .warnTrip _ _ => true
  | .rideThroughEnd => true
  | .resetTrip _ _ => true
  | .resetRelease _ => true
  | .thermalTrip _ => true
  | .thermalRestart => true
  | .clockPllLockLoss _ => true
  | .xtalLost => true
  | .xtalHoldExpiry => true
  | .xtalReturn => true
  | .x32kLost => true
  | .toPll p => p.wf
  | .pllSwitchDone => true
  | .clkSwap p => p.wf
  | .porstN => true
  | .warmN => true
  | .rstCmdWarm p _ => p.wf
  | .imageVerified img => img.wf
  | .bootWatchdog => true
  | .startDone _ => true
  | .generate p _ _ _ => p.wf
  | .derive p _ _ _ _ => p.wf
  | .unwrap p _ _ _ _ => p.wf
  | .wrap p _ _ => p.wf
  | .zero p _ => p.wf
  | .random p => p.wf
  | .drbgFail _ => true
  | .drbgRestart p => p.wf
  | .remask => true
  | .rootGen p => p.wf
  | .tamperTrip _ => true
  | .getVersion _ => true
  | .getCapabilities _ => true
  | .negotiateAlgorithms _ _ => true
  | .getDigests _ chain => decide (chain.length ≤ 16384)
  | .getCertificate _ _ _ _ chain => decide (chain.length ≤ 16384)
  | .challenge _ _ _ => true
  | .getMeasurements _ _ => true
  | .keyExchange _ _ _ => true
  | .finish _ _ => true
  | .endSession _ => true
  | .keyProg _ _ _ _ _ => true
  | .kSetGo _ _ _ _ => true
  | .kSetStop _ _ _ _ => true
  | .lcReq src _ _ => src.wf
  | .lcBlowDone => true
  | .otpCmdGo p _ => p.wf
  | .otpWriteDone _ => true
  | .rstCmdShutdown p _ => p.wf
  | .quiesceDone => true
  | .bistProgramDone elems => decide (elems.length ≤ 4096)
  | .record => true
  | .shutdownDone _ => true
  | .bistGo p _ => p.wf
  | .avsMeasure ppm => ppm.length == 32
  | .avsStep => true
  | .avsAck => true
  | .busReset _ => true
  | .suspend => true
  | .resume => true
  | .remoteWake _ => true
  | .downstreamAttach _ _ => true
  | .regRead _ _ => true
  | .regWrite _ len words _ => 4 * words.length == len.toNat
  | .getView => true
  | .setAddress _ _ _ => true
  | .setConfiguration _ _ _ => true
  | .setFeature _ _ _ => true
  | .clearFeature _ _ _ => true
  | .ep1In => true
  | .ep2Read => true
  | .ep2Write => true
  | .outToken data => decide (data.length ≤ 512)
  | .pingToken => true
  | .recoveryImage img => img.wf
  | .logIn _ => true
  | .smbusSetPointer _ _ => true
  | .smbusRead _ => true
  | .smbusWrite _ _ => true
  | .alertResponse => true
  | .heldCountRead p => p.wf
  | .dlatMeasUpdate _ _ => true
  | .measurementSample ports _ _ _ => ports.length == 16
  | .vbatLow _ => true
  | .hotWarning _ => true
  | .serviceAttach _ => true
  | .targetError _ _ _ => true
  | .hostFunctionRequest _ _ _ _ _ => true
  | .ptpMessageInterval _ _ => true
  | .vatWake => true
  | .atAxisFineSlot _ => true

end Sys2Proof
end

