-- ==== Sys2Proof/Tests/Slice0.lean ====
section
/-! SUPPORT. Tests: ill-formed commands refused by each check of WellFormed.lean, small steps whose results are worked out by hand from the spec,
and for every statement with hypotheses a state and operands that meet them, clause by clause. -/

namespace Sys2Proof.Tests

open Sys2Proof Sys2Proof.Machine

set_option maxRecDepth 100000
set_option Elab.async false

/-! ### Small states -/

/-- Reset with some fields set. -/
def hub (l : List (Fld × Nat)) : State := State.reset.sets l

/-- What a step leads to. -/
def run1 (s : State) : State :=
  match step s with
  | .next t => t
  | _ => s

theorem run1_eq {s : State} (h : ∃ t, step s = .next t) : step s = .next (run1 s) := by
  obtain ⟨t, h⟩ := h
  simp only [run1, h]

/-- What a command leads to. -/
def exec1 (c : Instr) (s : State) : State :=
  match exec c s with
  | .next t => t
  | _ => s

theorem exec1_eq {c : Instr} {s : State} (h : ∃ t, exec c s = .next t) : exec c s = .next (exec1 c s) := by
  obtain ⟨t, h⟩ := h
  simp only [exec1, h]

theorem takes_of {s : State} {p : Path} {a v : Nat} (h : s.judge p a v 15 = .direct) : s.takes p a v := h

/-- One mailbox command runs, for host 0. -/
def runCmd (s : State) (op : BitVec 16) : State := s.setMail 0 { running := [⟨0, op, false, 0⟩] }

def withCell (s : State) (c : Cell) : State := { s with sw := { s.sw with cells := [c] } }

def blow (s : State) (a v : Nat) : State := { s with otp := { s.otp with words := [(a, v)] } }

def withTok (s : State) : State := { s with br := { s.br with toks := [(0, { tgt := some 5 })] } }

def cell0 : Cell :=
  { id := 0, src := 0, dst := 0, inp := 0, keyType := 1, flowKey := 0, queue := 0, payload := [], units := 1, tag := .none, plane := 0,
    arrival := 0, part := .shared, phase := .crossing }

def wr0 : PWrite := { id := 0, mport := 0, dpa := 0, addr := 0, len := 64, d := ⟨0, 0, false⟩ }

/-- Reset with some fields set, 2^32 ns after the clock's start. -/
def at40 (l : List (Fld × Nat)) : State := { hub l with time := { clk := { ticks := 2 ^ 64 } } }

/-- Slot 0 is bound to a function of dock 0, for host 0's vDSP1 (R190). -/
def fnHub (l : List (Fld × Nat)) : State := { hub ((F.VDSP_SRC_PORT 0 0, 48) :: l) with port := { slots := [(0, { bound := some (0, 0) })] } }

/-- One region, one window of host 0 at 0, and colour 0 for host 0 and slot 0 (R134, R136, R171). -/
def poolHub : State :=
  hub [(F.REG_CFG_EN 0, 1), (F.REG_SIZE_GIB 0, 1), (F.LENS_SIZE_UNITS 0, 1), (F.WIN_ATTR_EN 0, 1), (F.WIN_SIZE_UNITS 0, 1), (F.RMASK_COLOURS 0 0, 1),
    (F.WMASK_COLOURS 0 0, 1)]

/-- The generator of lane 0 drives it (R226). -/
def genHub : State := (hub [(F.PRBS_CTRL_GEN_EN 0, 1)]).setMacro 0 { txsrc := [(0, 2)] }

/-- Channels 0 and 1 of dock 0's Ethernet are open (R274). -/
def ethHub : State :=
  { hub [(F.LK_STAT_STATE 0, 2), (F.CH_INFO_STATE 0 (chW 2 0), 1), (F.CH_INFO_STATE 0 (chW 2 1), 1)] with link := { fwd := [⟨0, 0, 0, 1⟩] } }

/-- The shortest program of a bridge engine (R396): no instructions and no data. -/
def prog0 : List (BitVec 8) := [0x50, 0x52, 0x46, 0x4A] ++ List.replicate 156 0

theorem scalar_some {s : State} (h : s.on F.ROOT_STAT_KEYS = true) {r : Nat} (h2 : s.vault.root = some r) : ∃ k, s.scalar = some k := by
  unfold State.scalar State.identity
  rw [h, h2]
  exact ⟨_, rfl⟩

/-- A CRC failure that leaves the window within its limit does so whatever its FEC corrected. -/
theorem nakWin (s : State) (a b : Nat) (h : 2 * (s.lk 15).winFail ≤ s.get (F.LK_LIMITS_CRC_LIMIT 15)) :
    2 * ((((s.sat (F.LK_FEC_CORR_COUNT 15) a).sat (F.LK_CRC_FAIL_COUNT 15) b).nak 15).lk 15).winFail ≤
      (((s.sat (F.LK_FEC_CORR_COUNT 15) a).sat (F.LK_CRC_FAIL_COUNT 15) b).nak 15).get (F.LK_LIMITS_CRC_LIMIT 15) := by
  have e (t : State) : ((t.nak 15).lk 15).winFail = (t.lk 15).winFail ∧ (t.nak 15).get (F.LK_LIMITS_CRC_LIMIT 15) =
      t.get (F.LK_LIMITS_CRC_LIMIT 15) := by
    unfold State.nak
    dsimp only
    split
    · exact ⟨by simp [State.lk, State.setLk, State.mapLinks, tget_tset], rfl⟩
    · exact ⟨rfl, rfl⟩
  have g (t : State) (f : Fld) (k : Nat) (n : (F.LK_LIMITS_CRC_LIMIT 15).key ≠ f.key) : (t.sat f k).get (F.LK_LIMITS_CRC_LIMIT 15) =
      t.get (F.LK_LIMITS_CRC_LIMIT 15) := State.get_set_ne t _ n
  rw [(e _).1, (e _).2, g _ _ _ (by decide), g _ _ _ (by decide)]
  exact h

/-! ### Ill-formed commands are refused -/

/-- Requesters that have no path (R16): EN00 and EN01 are the management pair's, which has a path of its own. -/
theorem test_illFormed_paths :
    [Instr.registerWrite (.engine 0) 0 [0] [15], .registerWrite .mgmt 0 [] [], .registerWrite .mgmt 0 [0] [15, 15], .ownerWrite (.engine 1) 0 0, .txnOpen (.engine 1), .pdCmdExit (.engine 0) 3, .otpCmdGo (.engine 1) 0,
      .lcReq (.path (.engine 0)) 0x5A 1].all (fun c => !c.wf) = true := by decide +kernel

/-- Operands beyond the length or range that their row's rule gives: one for each check. -/
theorem test_illFormed_core :
    [Instr.quarantineEnd 5 (2 ^ 28), .cmdPost .mgmt 0 0 (List.replicate 65537 ⟨0, 0, false, 0⟩),
      .cellArrival ⟨0, 0, .pool 0, 0, [], .none, true, true, true⟩,
      .ptpMessage 0 ⟨.announce (2 ^ 64) 0, 0, 0⟩, .bankRetire 0 ⟨.control, [7]⟩ [7] [7]].all (fun c => !c.wf) = true := by
  decide +kernel

theorem test_illFormed_pool :
    [Instr.functionMemRead 0 0 0 0 0, .functionMemRead 0 0 0 0 4097, .functionMemWrite 0 0 0 [], .functionMemWrite 0 0 0 (List.replicate 4097 0),
      .functionAtomic 0 0 0 0 (.swap 16 0), .functionAtomic 0 0 0 0 (.fetchAdd 4 (256 ^ 4)), .functionAtomic 0 0 0 0 (.cas 2 0 0),
      .mpLinkUp 0 0 0 ⟨false, false, false⟩ (.expander 0)].all (fun c => !c.wf) = true := by decide +kernel

theorem test_illFormed_links :
    [Instr.audit 0 0 (List.replicate 9 0) 0, .audit 0 0 [2 ^ 20 + 1] 0, .dataFlit 0 ⟨0, 0, 0, 0, []⟩ 1 0 (List.replicate 237 0),
      .dataBadFlit 0 ⟨0, 0, 0, 0, []⟩ 1 ⟨0, List.replicate 237 0⟩,
      .initFlit 0 ⟨0, 0, 0, 0, []⟩ 0 false [0, 0, 0, 0] 0 0,
      .describe 0 ⟨0, 0, 0, 0, 0, 0, List.replicate 9 ⟨0, 0, 0, 0⟩⟩, .vendorMgmt 0 63 [], .vendorMgmt 0 64 (List.replicate 256 0),
      .tlp 0 0 (.read 0 0 0), .tlp 0 0 (.write 0 []), .tlp 0 0 (.atomic 0 0 (.cas 16 (256 ^ 16) 0)), .ethFrame 0 ⟨0, List.replicate 13 0⟩,
      .ethFrame 0 ⟨0, List.replicate 9217 0⟩, .sbuTmgmt 0 true 0 (List.replicate 256 0), .sbuTsig 0 true 0 (List.replicate 256 0)].all
      (fun c => !c.wf) = true := by decide +kernel

theorem test_illFormed_docks :
    [Instr.discoverSvidsAck 0 (List.replicate 13 0), .discoverModesAck 0 (List.replicate 7 0), .signal 0 0 0 none (List.replicate 245 0),
      .intr 0 0 0 none (List.replicate 245 0), .regData 0 0 0 0 (List.replicate 233 0), .edgeWrite 0 0 0 0 2 0 [1],
      .measurementSample [] ⟨0, 0⟩ ⟨0, 0⟩ 0].all (fun c => !c.wf) = true := by decide +kernel

theorem test_illFormed_system :
    [Instr.imageVerified ⟨true, 0, true, 0, 0, [⟨0, 0, List.replicate 16385 0, []⟩]⟩,
      .recoveryImage ⟨true, 0, true, 0, 0, [⟨0, 0, [], List.replicate 65537 0⟩]⟩, .getDigests 0 (List.replicate 16385 0),
      .getCertificate 0 0 0 0 (List.replicate 16385 0), .bistProgramDone (List.replicate 4097 ⟨none, 0, false, []⟩), .avsMeasure [],
      .regWrite 0 8 [1] false, .outToken (List.replicate 513 0)].all (fun c => !c.wf) = true := by decide +kernel

/-! ### Small steps -/

/-- CRC-64 over the ASCII string "123456789" is the value that R235 gives. -/
theorem test_crc64_check_value : crc64 [0x31, 0x32, 0x33, 0x34, 0x35, 0x36, 0x37, 0x38, 0x39] = 0x995DC9BBDF1939FA := by decide +kernel

/-- State.reset is what the start at power-up leaves (R419), on a hub whose OTP is blank. -/
theorem test_reset_is_the_cold_start : ({} : State).coldStart 0 true = State.reset := by decide +kernel

/-- The first read of TXN_OPEN by host 5 opens slot 0 (R28). -/
theorem test_txnOpen_slot0 : ((exec1 (.txnOpen (.host 5)) State.reset).slot 0).opener = 5 := by decide +kernel

/-- A host writes a page that it does not own: NOT_OWNER is recorded with its requester (R19). -/
theorem test_refused_write_is_recorded :
    (exec1 (.registerWrite (.host 3) 0x21044 [1] [15]) State.reset).get F.ACC_ERR_LOG_REQ = 3 ∧
      (exec1 (.registerWrite (.host 3) 0x21044 [1] [15]) State.reset).get F.ACC_ERR_COUNT_COUNT = 1 := by decide +kernel

/-- A rises while B is low (R63): the count rises by one. B rises while A is low: it falls by one, to all ones in 64 bits. -/
theorem test_quadrature_counts :
    (exec1 (.axisTransition 2 true false) ((hub []).setAxis 2 { started := true })).get (F.COUNT_LO_COUNT 2) = 1 ∧
      (exec1 (.axisTransition 2 false true) ((hub []).setAxis 2 { started := true })).get (F.COUNT_HI_COUNT 2) = 0xFFFFFFFF := by decide +kernel

/-- Both inputs change at once (R64): nothing is counted, and the axis is uncertain. -/
theorem test_quadrature_illegal :
    (exec1 (.axisTransition 2 true true) ((hub []).setAxis 2 { started := true })).get (F.ILLEGAL_COUNT_COUNT 2) = 1 ∧
      (exec1 (.axisTransition 2 true true) ((hub []).setAxis 2 { started := true })).get (F.AX_STAT_UNCERTAIN 2) = 1 := by decide +kernel

/-- EN05 at work, with G1 = 0xFFFFFFFF and G2 = 1. -/
def eng5 : State := (hub [(F.ENG_STAT_STATE 5, 2)]).setCore 5 { regs := [(1, 0xFFFFFFFF), (2, 1)] }

/-- ADD wraps at 2^32, also where a source is the destination; a write of G0 leaves it 0 (R386). -/
theorem test_add_wraps : (exec1 (.add 5 1 1 2) eng5).g 5 1 = 0 ∧ (exec1 (.sub 5 0 1 2) eng5).g 5 0 = 0 := by decide +kernel

/-- SAR keeps the sign, SHR does not (R386). -/
theorem test_shifts_right : (exec1 (.sar 5 3 1 2) eng5).g 5 3 = 0xFFFFFFFF ∧ (exec1 (.shr 5 3 1 2) eng5).g 5 3 = 0x7FFFFFFF := by decide +kernel

/-- BLT compares signed, BLTU unsigned (R386): -1 < 1 is taken, 2^32 - 1 < 1 is not. -/
theorem test_branches_compare :
    ((exec1 (.blt 5 1 2 4) eng5).engCore 5).pc = 16 ∧ ((exec1 (.bltu 5 1 2 4) eng5).engCore 5).pc = 4 := by decide +kernel

/-- With nothing waiting a step changes no register field at reset, where no time-driven count runs. -/
theorem test_idle_step : (run1 State.reset).regs = State.reset.regs := by decide +kernel

/-! ### The hypotheses of the statements can be met -/

theorem wit_IdleStepLetsTimePass :
    ∃ (s : State), s.pending = [] :=
  ⟨(hub []), by decide +kernel⟩

theorem wit_QueueLosesOnlyItsFront :
    ∃ (s : State) (t : State) (c : Instr) (rest : List Instr), s.pending = c :: rest ∧ step s = .next t :=
  ⟨{ (hub []) with pending := [.churnMatch, .slewComplete] }, (run1 { (hub []) with pending := [.churnMatch, .slewComplete] }), .churnMatch,
    [.slewComplete], by decide +kernel, run1_eq ⟨_, rfl⟩⟩

theorem wit_CommandsReachOnlyTheirParts :
    ∃ (c : Instr) (s : State) (t : State) (p : StatePart), exec c s = .next t ∧ p ∉ touches c :=
  ⟨.slewComplete, (hub []), (exec1 .slewComplete (hub [])), .mem, exec1_eq ⟨_, rfl⟩, by decide +kernel⟩

theorem wit_BlownOtpBitsStayBlown :
    ∃ (s : State) (t : State) (w : Nat) (b : Nat), step s = .next t ∧ s.blown w b = true :=
  ⟨(blow (hub []) 3 1), (run1 (blow (hub []) 3 1)), 3, 0, run1_eq ⟨_, rfl⟩, by decide +kernel⟩

theorem wit_EngineMemoriesStayCanonical :
    ∃ (s : State) (t : State), memWf s.mem = true ∧ step s = .next t :=
  ⟨{ (hub []) with mem := [(4, 5)] }, (run1 { (hub []) with mem := [(4, 5)] }), by decide +kernel, run1_eq ⟨_, rfl⟩⟩

theorem wit_ResetRegistersHoldTheirResetValues :
    (∃ (f : Fld), f.key ≠ F.DRBG_STAT_OK.key ∧ f.key ≠ F.AVS_STAT_SET_MV.key) ∧
    (∃ (f : Fld), f.key ≠ F.DRBG_STAT_OK.key ∧ f.key ≠ F.AVS_STAT_SET_MV.key ∧ (∀ n : Fin 16, f.key ≠ (F.PD_STAT_RP n).key)) :=
  ⟨⟨F.BOOT_CTRL_SLOT_PREF, by decide +kernel⟩,
    ⟨F.ACC_ERR_COUNT_COUNT, by decide +kernel⟩⟩

theorem wit_RefusedWriteIsLoggedAndChangesNothing :
    (∃ (s : State) (p : Path) (addr : BitVec 26), addr.toNat % 4 ≠ 0 ∧ s.isDark = false ∧ s.inView p (addr.toNat / 4 * 4) = true) ∧
    (∃ (s : State) (p : Path) (addr : BitVec 26) (v : Word) (be : BitVec 4) (r : Reason), addr.toNat % 4 = 0 ∧ s.judge p addr.toNat v.toNat be.toNat
      = .refused r) :=
  ⟨⟨(hub []), .mgmt, 0x2041, by decide +kernel⟩,
    ⟨(hub []), (.host 3), 0x2040, 1, 15, .notOwner, by decide +kernel⟩⟩

theorem wit_WritesAreJudgedByViewAndByteEnables :
    (∃ (s : State) (p : Path) (addr : Nat), s.isDark = false ∧ s.inView p addr = false) ∧
    (∃ (s : State) (p : Path) (addr : Nat) (be : Nat), s.isDark = false ∧ s.inView p addr = true ∧ be ≠ 15) ∧
    (∃ (s : State) (p : Path) (addr : Nat) (be : Nat), s.isDark = false ∧ s.inView p addr = true ∧ be = 15 ∧ pageOf addr = none) :=
  ⟨⟨(hub []), .smbus, 0x2040, by decide +kernel⟩,
    ⟨(hub []), .mgmt, 0, 0, by decide +kernel⟩,
    ⟨(hub []), .mgmt, 0xF00000, 15, by decide +kernel⟩⟩

theorem wit_OwnerWriteSetsTheOwner :
    ∃ (s : State) (p : Path) (page : BitVec 14) (v : Word), s.takes p (page.toNat * 4096 + 0x20) v.toNat :=
  ⟨(hub []), .mgmt, 0, 0, takes_of (by decide +kernel)⟩

theorem wit_OwnerWritesAreJudgedInOrder :
    (∃ (g : Page), ownerFixed g.ps.kind g.n = true) ∧
    (∃ (s : State) (c : Nat) (g : Page), ownerFixed g.ps.kind g.n = false ∧ c ≠ 0x20 ∧ ¬ (c < 32 ∧ s.get F.FM_PATH_REQ = c)) ∧
    (∃ (s : State) (c : Nat) (g : Page), ownerFixed g.ps.kind g.n = false ∧ ((c = 0x20 ∨ (c < 32 ∧ s.get F.FM_PATH_REQ = c))) ∧ s.get (hTxnTag g.pg)
      ≠ 0) ∧
    (∃ (s : State) (c : Nat) (g : Page), ownerFixed g.ps.kind g.n = false ∧ ((c = 0x20 ∨ (c < 32 ∧ s.get F.FM_PATH_REQ = c))) ∧ s.get (hTxnTag g.pg)
      = 0) :=
  ⟨⟨((pageOf 0x80000).get (by decide +kernel)), by decide +kernel⟩,
    ⟨(hub [(F.FM_PATH_REQ, 4)]), 3, ((pageOf 0x21000).get (by decide +kernel)), by decide +kernel⟩,
    ⟨(hub [(F.FM_PATH_REQ, 3), (hTxnTag 0x21000, 0x100)]), 3, ((pageOf 0x21000).get (by decide +kernel)), by decide +kernel⟩,
    ⟨(hub []), 0x20, ((pageOf 0x21000).get (by decide +kernel)), by decide +kernel⟩⟩

theorem wit_DisabledPageRefusesItsBlockRegisters :
    ∃ (s : State) (p : Path) (addr : Nat) (g : Page) (r : RegSpec) (i : Nat), s.isDark = false ∧ s.inView p addr = true ∧ s.viewReadOnly p addr =
      false ∧ pageOf addr = some g ∧ findReg g.ps.kind (addr % 4096) = some (r, i) ∧ 0x40 ≤ addr % 4096 ∧ s.owns (pathCode p) g.pg = true ∧ s.on (hEn
      g.pg) = false ∧ pathCode p ≠ 0x20 ∧ r.bank ≠ .perPath :=
  ⟨(hub [(hOwner 0x41000, 3), (hEn 0x41000, 0)]), (.host 3), 0x41080, ((pageOf 0x41000).get (by decide +kernel)), ((findReg .sched1 0x80).get
      (by decide +kernel)).1, 0, by decide +kernel⟩

theorem wit_HeaderWritesSetTheirFields :
    (∃ (s : State) (p : Path) (page : BitVec 14) (en : Bool), s.takes p (page.toNat * 4096 + 8) (b2n en + 2 * s.get (hDomReq (page.toNat * 4096))) ∧
      s.get (hDomReq (page.toNat * 4096)) < 4) ∧
    (∃ (s : State) (p : Path) (page : BitVec 14) (v : Word), s.takes p (page.toNat * 4096 + 0x14) v.toNat) :=
  ⟨⟨(hub []), .mgmt, 0, false, takes_of (by decide +kernel), by decide +kernel⟩,
    ⟨(hub []), .mgmt, 0, 0, takes_of (by decide +kernel)⟩⟩

theorem wit_RegisterWriteStoresAndActs :
    (∃ (s : State) (p : Path) (addr : BitVec 26) (v : Word) (g : Page) (r : RegSpec) (i : Nat), addr.toNat % 4 = 0 ∧ s.takes p addr.toNat v.toNat ∧
      addr ≠ 0x2050 ∧ addr ≠ 0x2054 ∧ pageOf addr.toNat = some g ∧ findReg g.ps.kind (addr.toNat % 4096) = some (r, i)) ∧
    (∃ (addr : BitVec 26) (k : Nat), k = addr.toNat % 4 ∧ k ≠ 0) :=
  ⟨⟨(hub []), .mgmt, 0x21044, 0, ((pageOf 0x21000).get (by decide +kernel)), ((findReg .event1 0x44).get (by decide +kernel)).1, 0, by decide +kernel,
      takes_of (by decide +kernel), by decide +kernel⟩,
    ⟨1, 1, by decide +kernel⟩⟩

theorem wit_TransactionOpensTheLowestFreeSlot :
    (∃ (s : State) (p : Path) (i : Nat), s.mayRead p 0x2040 = true ∧ i < 8 ∧ (s.slot i).state = .free ∧ (s.slot i).quar = false ∧ ((∀ j, j < i → ¬
      ((s.slot j).state = .free ∧ (s.slot j).quar = false)))) ∧
    (∃ (s : State) (p : Path), s.mayRead p 0x2040 = true ∧ ((∀ j, j < 8 → ¬ ((s.slot j).state = .free ∧ (s.slot j).quar = false)))) :=
  ⟨⟨((hub []).setSlot 0 { state := .opened }), .mgmt, 1, by decide +kernel⟩,
    ⟨{ (hub []) with slots := (List.range 8).map (fun i => (i, { state := .opened })) }, .mgmt, by decide +kernel⟩⟩

theorem wit_CommitsAndAbortsAreJudgedInOrder :
    (∃ (s : State) (p : Path) (v : Word) (i : Nat) (x : Slot), i = bits v.toNat 0 3 ∧ x = s.slot i ∧ s.takes p 0x2050 v.toNat ∧ (x.state = .free ∨
      x.gen ≠ bits v.toNat 12 4)) ∧
    (∃ (s : State) (p : Path) (v : Word) (i : Nat) (x : Slot), i = bits v.toNat 0 3 ∧ x = s.slot i ∧ s.takes p 0x2054 v.toNat ∧ (x.state = .free ∨
      x.gen ≠ bits v.toNat 12 4)) ∧
    (∃ (s : State) (p : Path) (v : Word) (i : Nat) (x : Slot), i = bits v.toNat 0 3 ∧ x = s.slot i ∧ x.state ≠ .free ∧ x.gen = bits v.toNat 12 4 ∧
      x.opener ≠ pathCode p ∧ pathCode p ≠ 0x20 ∧ s.takes p 0x2050 v.toNat) ∧
    (∃ (s : State) (p : Path) (v : Word) (i : Nat) (x : Slot), i = bits v.toNat 0 3 ∧ x = s.slot i ∧ x.state ≠ .free ∧ x.gen = bits v.toNat 12 4 ∧
      x.opener ≠ pathCode p ∧ pathCode p ≠ 0x20 ∧ s.takes p 0x2054 v.toNat) ∧
    (∃ (s : State) (p : Path) (v : Word) (i : Nat) (x : Slot), i = bits v.toNat 0 3 ∧ x = s.slot i ∧ x.state ≠ .free ∧ x.gen = bits v.toNat 12 4 ∧
      ((x.opener = pathCode p ∨ pathCode p = 0x20)) ∧ s.takes p 0x2050 v.toNat ∧ x.state = .armed) ∧
    (∃ (s : State) (p : Path) (v : Word) (i : Nat) (x : Slot), i = bits v.toNat 0 3 ∧ x = s.slot i ∧ x.state ≠ .free ∧ x.gen = bits v.toNat 12 4 ∧
      ((x.opener = pathCode p ∨ pathCode p = 0x20)) ∧ s.takes p 0x2050 v.toNat ∧ x.state = .broken) ∧
    (∃ (s : State) (p : Path) (v : Word) (i : Nat) (x : Slot), i = bits v.toNat 0 3 ∧ x = s.slot i ∧ x.state ≠ .free ∧ x.gen = bits v.toNat 12 4 ∧
      ((x.opener = pathCode p ∨ pathCode p = 0x20)) ∧ s.takes p 0x2050 v.toNat ∧ x.state = .opened ∧ 4 ≤ bits v.toNat 16 4) ∧
    (∃ (s : State) (p : Path) (v : Word) (i : Nat) (x : Slot), i = bits v.toNat 0 3 ∧ x = s.slot i ∧ x.state ≠ .free ∧ x.gen = bits v.toNat 12 4 ∧
      ((x.opener = pathCode p ∨ pathCode p = 0x20)) ∧ s.takes p 0x2050 v.toNat ∧ x.state = .opened ∧ bits v.toNat 16 4 < 4) ∧
    (∃ (s : State) (p : Path) (v : Word) (i : Nat) (x : Slot), i = bits v.toNat 0 3 ∧ x = s.slot i ∧ x.state ≠ .free ∧ x.gen = bits v.toNat 12 4 ∧
      ((x.opener = pathCode p ∨ pathCode p = 0x20)) ∧ s.takes p 0x2054 v.toNat ∧ x.drain = true) ∧
    (∃ (s : State) (p : Path) (v : Word) (i : Nat) (x : Slot), i = bits v.toNat 0 3 ∧ x = s.slot i ∧ x.state ≠ .free ∧ x.gen = bits v.toNat 12 4 ∧
      ((x.opener = pathCode p ∨ pathCode p = 0x20)) ∧ s.takes p 0x2054 v.toNat ∧ x.drain = false) :=
  ⟨⟨((hub []).setSlot 0 { state := .opened, gen := 3, opener := 5 }), (.host 5), 0x4000, (bits ((0x4000) : Word).toNat 0 3), (((((hub []).setSlot 0
      { state := .opened, gen := 3, opener := 5 })) : State).slot (((bits ((0x4000) : Word).toNat 0 3)) : Nat)), rfl, rfl, takes_of
      (by decide +kernel), by decide +kernel⟩,
    ⟨((hub []).setSlot 0 { state := .opened, gen := 3, opener := 5 }), (.host 5), 0x4000, (bits ((0x4000) : Word).toNat 0 3), (((((hub []).setSlot 0
      { state := .opened, gen := 3, opener := 5 })) : State).slot (((bits ((0x4000) : Word).toNat 0 3)) : Nat)), rfl, rfl, takes_of
      (by decide +kernel), by decide +kernel⟩,
    ⟨((hub []).setSlot 0 { state := .armed, gen := 3, opener := 5 }), (.host 6), 0x3000, (bits ((0x3000) : Word).toNat 0 3), (((((hub []).setSlot 0
      { state := .armed, gen := 3, opener := 5 })) : State).slot (((bits ((0x3000) : Word).toNat 0 3)) : Nat)), rfl, rfl, by decide +kernel,
      by decide +kernel, by decide +kernel, by decide +kernel, takes_of (by decide +kernel)⟩,
    ⟨((hub []).setSlot 0 { state := .armed, gen := 3, opener := 5 }), (.host 6), 0x3000, (bits ((0x3000) : Word).toNat 0 3), (((((hub []).setSlot 0
      { state := .armed, gen := 3, opener := 5 })) : State).slot (((bits ((0x3000) : Word).toNat 0 3)) : Nat)), rfl, rfl, by decide +kernel,
      by decide +kernel, by decide +kernel, by decide +kernel, takes_of (by decide +kernel)⟩,
    ⟨((hub []).setSlot 0 { state := .armed, gen := 3, opener := 5 }), (.host 5), 0x3000, (bits ((0x3000) : Word).toNat 0 3), (((((hub []).setSlot 0
      { state := .armed, gen := 3, opener := 5 })) : State).slot (((bits ((0x3000) : Word).toNat 0 3)) : Nat)), rfl, rfl, by decide +kernel,
      by decide +kernel, by decide +kernel, takes_of (by decide +kernel), by decide +kernel⟩,
    ⟨((hub []).setSlot 0 { state := .broken, gen := 3, opener := 5 }), (.host 5), 0x3000, (bits ((0x3000) : Word).toNat 0 3), (((((hub []).setSlot 0
      { state := .broken, gen := 3, opener := 5 })) : State).slot (((bits ((0x3000) : Word).toNat 0 3)) : Nat)), rfl, rfl, by decide +kernel,
      by decide +kernel, by decide +kernel, takes_of (by decide +kernel), by decide +kernel⟩,
    ⟨((hub []).setSlot 0 { state := .opened, gen := 3, opener := 5 }), (.host 5), 0x43000, (bits ((0x43000) : Word).toNat 0 3), (((((hub []).setSlot
      0 { state := .opened, gen := 3, opener := 5 })) : State).slot (((bits ((0x43000) : Word).toNat 0 3)) : Nat)), rfl, rfl, by decide +kernel,
      by decide +kernel, by decide +kernel, takes_of (by decide +kernel), by decide +kernel⟩,
    ⟨((hub []).setSlot 0 { state := .opened, gen := 3, opener := 5 }), (.host 5), 0x33000, (bits ((0x33000) : Word).toNat 0 3), (((((hub []).setSlot
      0 { state := .opened, gen := 3, opener := 5 })) : State).slot (((bits ((0x33000) : Word).toNat 0 3)) : Nat)), rfl, rfl, by decide +kernel,
      by decide +kernel, by decide +kernel, takes_of (by decide +kernel), by decide +kernel⟩,
    ⟨((hub []).setSlot 0 { state := .armed, gen := 3, opener := 5, drain := true }), .mgmt, 0x3000, (bits ((0x3000) : Word).toNat 0 3), (((((hub
      []).setSlot 0 { state := .armed, gen := 3, opener := 5, drain := true })) : State).slot (((bits ((0x3000) : Word).toNat 0 3)) : Nat)), rfl,
      rfl, by decide +kernel, by decide +kernel, by decide +kernel, takes_of (by decide +kernel), by decide +kernel⟩,
    ⟨((hub []).setSlot 0 { state := .broken, gen := 3, opener := 5 }), (.host 5), 0x3000, (bits ((0x3000) : Word).toNat 0 3), (((((hub []).setSlot 0
      { state := .broken, gen := 3, opener := 5 })) : State).slot (((bits ((0x3000) : Word).toNat 0 3)) : Nat)), rfl, rfl, by decide +kernel,
      by decide +kernel, by decide +kernel, takes_of (by decide +kernel), by decide +kernel⟩⟩

theorem wit_DroppedTransactionFreesItsSlot :
    ∃ (i : Nat) (j : Nat), j ≠ i :=
  ⟨0, 1, by decide +kernel⟩

theorem wit_TransactionsEndInTime :
    (∃ (s : State) (i : Fin 8), (s.slot i).state = .opened ∧ s.get F.TXN_IDLE_LIMIT_MS ≠ 0) ∧
    (∃ (s : State) (i : Nat), i < 8 ∧ (s.slot i).quar = true) ∧
    (∃ (s : State) (i : Fin 8), (s.slot i).state = .armed ∧ (s.slot i).cond = 1 ∧ fineSlot (s.slot i).param ≤ s.now) :=
  ⟨⟨((hub [(F.TXN_IDLE_LIMIT_MS, 1)]).setSlot 0 { state := .opened }), 0, by decide +kernel⟩,
    ⟨((hub []).setSlot 7 { quar := true }), 7, by decide +kernel⟩,
    ⟨((hub []).setSlot 0 { state := .armed, cond := 1 }), 0, by decide +kernel⟩⟩

theorem wit_MailboxCommandsRun :
    (∃ (s : State) (p : Path) (h : Fin 32) (count : Word), s.takes p (0x8005C + 0x1000 * h.val) count.toNat) ∧
    (∃ (s : State) (h : Fin 32) (seq : Word), s.runs h seq.toNat 0 = true) ∧
    (∃ (s : State) (h : Fin 32) (seq : Word) (c : CmdHead), s.running? h seq.toNat = some c ∧ c.opcode.toNat ∉ definedOpcodes) ∧
    (∃ (s : State) (p : Path) (h : Fin 32) (count : Word), s.takes p (0x80068 + 0x1000 * h.val) count.toNat) ∧
    (∃ (s : State) (p : Path) (h : Fin 32), s.takes p (0x80078 + 0x1000 * h.val) 1) ∧
    (∃ (s : State) (p : Path) (h : Fin 32), s.takes p (0x80040 + 0x1000 * h.val) (4 + 2 * s.get (F.RING_CTRL_EVT_EN h) + s.get (F.RING_CTRL_CMD_EN
      h))) ∧
    (∃ (s : State) (p : Path) (h : Fin 32) (c : Bool) (e : Bool), s.takes p (0x80040 + 0x1000 * h.val) (b2n c + 2 * b2n e)) :=
  ⟨⟨(hub []), (.host 31), 31, 0, takes_of (by decide +kernel)⟩,
    ⟨(runCmd (hub []) 0), 0, 0, by decide +kernel⟩,
    ⟨(runCmd (hub []) 0x0FFF), 0, 0, ⟨0, 0x0FFF, false, 0⟩, by decide +kernel⟩,
    ⟨(hub []), (.host 31), 31, 0, takes_of (by decide +kernel)⟩,
    ⟨(hub []), .mgmt, 0, takes_of (by decide +kernel)⟩,
    ⟨(hub []), .mgmt, 0, takes_of (by decide +kernel)⟩,
    ⟨(hub []), .mgmt, 0, false, false, takes_of (by decide +kernel)⟩⟩

theorem wit_EntriesStartInSequence :
    (∃ (s : State) (h : Nat) (c : CmdHead), (s.mail h).halted = false ∧ s.rep.run = false ∧ c.seq.toNat = ((s.mail h).lastSeq + 1) % 2 ^ 32) ∧
    (∃ (s : State) (h : Nat) (c : CmdHead), (s.mail h).halted = false ∧ s.rep.run = false ∧ c.seq.toNat ≠ ((s.mail h).lastSeq + 1) % 2 ^ 32) :=
  ⟨⟨((hub []).setMail 0 { lastSeq := 0xFFFFFFFF }), 0, ⟨0, 0, false, 0⟩, by decide +kernel⟩,
    ⟨((hub []).setMail 0 { lastSeq := 0xFFFFFFFF }), 0, ⟨1, 0, false, 0⟩, by decide +kernel⟩⟩

theorem wit_EventCommandsAct :
    (∃ (s : State) (p : Path) (t : Fin 57) (fast : Bool), s.mayRead p (0xC0050 + 0x1000 * t.val + (if fast then 8 else 0)) = true ∧ s.get (hOwner
      (0xC0000 + 0x1000 * t.val)) = pathCode p) ∧
    (∃ (s : State) (p : Path) (t : Fin 57) (fast : Bool) (ev : BitVec 12), s.takes p (0xC0054 + 0x1000 * t.val + (if fast then 8 else 0)) ev.toNat) ∧
    (∃ (s : State) (t : Fin 57), s.tgtEnabled t = true) ∧
    (∃ (s : State) (t : Fin 57), s.tgtEnabled t = false) ∧
    (∃ (s : State) (p : Path) (v : Word), s.takes p 0x21044 v.toNat) ∧
    (∃ (s : State) (p : Path) (t : Fin 57) (v : Word), s.takes p (0xC004C + 0x1000 * t.val) v.toNat) ∧
    (∃ (s : State) (h : Fin 32), (s.tgt h).msix = false) ∧
    (∃ (s : State) (i : Fin 5) (level : Bool), s.on (F.PF_LEVEL i) ≠ level) ∧
    (∃ (s : State) (p : Path), s.mayRead p 0x20044 = true) ∧
    (∃ (s : State) (p : Path) (addr : BitVec 26), addr.toNat % 4 = 0 ∧ s.mayRead p addr.toNat = true) ∧
    (∃ (addr : BitVec 26), addr.toNat % 4 ≠ 0) ∧
    (∃ (r : ReadSpan), r.addr.toNat % 4 = 0) :=
  ⟨⟨(hub [(hOwner 0xF8000, 0x20)]), .mgmt, 56, false, by decide +kernel⟩,
    ⟨(hub []), .mgmt, 0, false, 0, takes_of (by decide +kernel)⟩,
    ⟨(hub [(F.TGT_CTRL_EN 0, 1), (F.HP_STAT_LINK 0, 2), (F.HP_CTRL_EN 0, 1)]), 0, by decide +kernel⟩,
    ⟨(hub []), 0, by decide +kernel⟩,
    ⟨(hub []), .mgmt, 0, takes_of (by decide +kernel)⟩,
    ⟨(hub []), .mgmt, 0, 0, takes_of (by decide +kernel)⟩,
    ⟨(hub []), 0, by decide +kernel⟩,
    ⟨(hub [(F.PF_LEVEL 0, 1)]), 0, false, by decide +kernel⟩,
    ⟨(hub []), .mgmt, by decide +kernel⟩,
    ⟨(hub []), .mgmt, 0, by decide +kernel⟩,
    ⟨1, by decide⟩,
    ⟨⟨0, 0⟩, by decide +kernel⟩⟩

theorem wit_ClaimTakesTheHighestPendingEvent :
    (∃ (s : State) (t : Nat), (s.tgt t).pendN ≠ []) ∧
    (∃ (s : State) (t : Nat) (e : Nat), (s.tgt t).pendN ≠ [] ∧ e ∈ (s.tgt t).pendN) :=
  ⟨⟨((hub []).setTgt 0 { pendN := [3, 5] }), 0, by decide +kernel⟩,
    ⟨((hub []).setTgt 0 { pendN := [3, 5] }), 0, 5, by decide +kernel⟩⟩

theorem wit_RaisedEventsStand :
    (∃ (ev : Nat), (evSrc ev).isSome = true) ∧
    (∃ (s : State) (ev : Nat) (e : Nat), (evSrc ev).isSome = true ∧ s.evStat e = true) ∧
    (∃ (ev : Nat), (evSrc ev).isSome = true) :=
  ⟨⟨0, by decide +kernel⟩,
    ⟨(hub []), 0, 4065, by decide +kernel⟩,
    ⟨0, by decide +kernel⟩⟩

theorem wit_TimeCommandsAct :
    (∃ (s : State) (p : Path), s.takes p 0x1005C 1) ∧
    (∃ (s : State), s.on F.TIME0_CLK_STAT_SLEWING = true) ∧
    (∃ (s : State) (port : Fin 48), s.ptpOn port = true) ∧
    (∃ (s : State) (h : Fin 32), s.on (F.PTM_CTRL_EN h) = true ∧ s.get (F.HP_STAT_LINK h) = 2) ∧
    (∃ (s : State) (m : Fin 4) (level : Bool), s.on (F.SYNC_CTRL_EN m) = true ∧ s.timeOn = true ∧ (s.sync m).seen = true ∧ (s.sync m).level ≠ level ∧
      level ≠ s.on (F.SYNC_CTRL_EDGE m)) ∧
    (∃ (s : State) (m : Fin 4), s.on (F.SYNC_CTRL_EN m) = true ∧ s.timeOn = true ∧ s.get (F.SYNC_PERIOD_NS m) ≠ 0 ∧ s.on (F.SYNC_CTRL_LOST m) =
      false) ∧
    (∃ (s : State), s.on F.TIME0_CLK_STAT_SLEWING = true ∧ s.time.clk.slew = 0) ∧
    (∃ (s : State) (port : Fin 48) (m : PtpIn), s.ptpOn port = true ∧ m.dom.toNat = s.get F.PTP_CTRL_DOMAIN) ∧
    (∃ (s : State) (port : Fin 48), s.ptpOn port = true ∧ (s.ptp port).state = .master) ∧
    (∃ (s : State) (m : Fin 4), s.on (F.SYNC_CTRL_EN m) = true ∧ s.timeOn = true ∧ s.get (F.SYNC_PERIOD_NS m) ≠ 0 ∧ s.on (F.SYNC_CTRL_LOST m) = false
      ∧ 5 * s.get (F.SYNC_PERIOD_NS m) ≤ 2 * (s.now - (s.sync m).last)) ∧
    (∃ (s : State) (m : Fin 16), s.get (F.MP_STAT_LINK m) = 2 ∧ s.eff (F.MP_CTRL_MODE m) = 2) :=
  ⟨⟨(hub []), .mgmt, takes_of (by decide +kernel)⟩,
    ⟨(hub [(F.TIME0_CLK_STAT_SLEWING, 1)]), by decide +kernel⟩,
    ⟨(hub [(F.PTP_CTRL_PROFILE, 1), (F.PTP_DOCK_EN_EN, 1), (F.PTP_DOOR_EN_EN, 0x80000000)]), 0, by decide +kernel⟩,
    ⟨(hub [(F.PTM_CTRL_EN 0, 1), (F.HP_STAT_LINK 0, 2)]), 0, by decide +kernel⟩,
    ⟨((hub [(F.SYNC_CTRL_EN 0, 1)]).setSync 0 { seen := true }), 0, true, by decide +kernel⟩,
    ⟨(hub [(F.SYNC_CTRL_EN 0, 1), (F.SYNC_PERIOD_NS 0, 1), (F.SYNC_CTRL_LOST 0, 0)]), 0, by decide +kernel⟩,
    ⟨(hub [(F.TIME0_CLK_STAT_SLEWING, 1)]), by decide +kernel⟩,
    ⟨(hub [(F.PTP_CTRL_PROFILE, 1), (F.PTP_DOCK_EN_EN, 1), (F.PTP_DOOR_EN_EN, 0x80000000)]), 47, ⟨.announce 0 0, 0, 0⟩, by decide +kernel⟩,
    ⟨(hub [(F.PTP_CTRL_PROFILE, 1), (F.PTP_DOCK_EN_EN, 1), (F.PTP_DOOR_EN_EN, 0x80000000)]).setPtp 0 { state := .master }, 0, by decide +kernel⟩,
    ⟨{ (hub [(F.SYNC_CTRL_EN 0, 1), (F.SYNC_PERIOD_NS 0, 1), (F.SYNC_CTRL_LOST 0, 0)]) with time := { clk := { ticks := 2 ^ 40 } } }, 0,
      by decide +kernel⟩,
    ⟨(hub [(F.MP_STAT_LINK 15, 2), (F.MP_CTRL_MODE 15, 2)]), 15, by decide +kernel⟩⟩

theorem wit_AxisCommandsAct :
    (∃ (s : State) (a : Fin 8), s.get (F.AX_CTRL_SOURCE a) = 0) ∧
    (∃ (s : State) (p : Path) (a : Fin 8) (d : Word), s.takes p (0x1408C + 0x1000 * a.val) d.toNat) ∧
    (∃ (s : State) (a : Fin 8), s.get (F.AX_CTRL_SOURCE a) = 0 ∧ s.get (F.AX_CTRL_Z_MODE a) ≠ 0) ∧
    (∃ (s : State) (a : Fin 8), s.timeOn = true ∧ s.on (F.AX_STAT_STOPPED a) = false) ∧
    (∃ (s : State), s.timeOn = true) ∧
    (∃ (s : State) (p : Path) (a : Fin 8), s.takes p (0x14078 + 0x1000 * a.val) 1) ∧
    (∃ (s : State) (p : Path) (a : Fin 8), s.takes p (0x14078 + 0x1000 * a.val) 2) ∧
    (∃ (s : State) (a : Fin 8), s.get (F.AX_CTRL_SOURCE a) = 0 ∧ s.get (F.AX_CTRL_Z_MODE a) ≠ 0 ∧ (s.axis a).z = false) ∧
    (∃ (s : State) (a : Fin 8), s.timeOn = true ∧ s.on (F.AX_STAT_STOPPED a) = false ∧ (s.axis a).tc + 1000 * s.get (F.STOP_TIMEOUT_US a) ≤ s.now) ∧
    (∃ (s : State) (a : Fin 8), s.get (F.AX_CTRL_SOURCE a) = 0 ∧ s.get (F.AX_CTRL_Z_MODE a) ≠ 0 ∧ (s.axis a).z = false ∧ (s.axis a).zStart = true) ∧
    (∃ (s : State) (a : Fin 8), s.get (F.AX_CTRL_SOURCE a) = 0 ∧ (s.axis a).zStart = false) :=
  ⟨⟨(hub [(F.AX_CTRL_SOURCE 0, 0)]), 0, by decide +kernel⟩,
    ⟨(hub []), .mgmt, 0, 0, takes_of (by decide +kernel)⟩,
    ⟨(hub [(F.AX_CTRL_SOURCE 0, 0), (F.AX_CTRL_Z_MODE 0, 1)]), 0, by decide +kernel⟩,
    ⟨(hub [(F.AX_STAT_STOPPED 0, 0)]), 0, by decide +kernel⟩,
    ⟨(hub []), by decide +kernel⟩,
    ⟨(hub []), .mgmt, 0, takes_of (by decide +kernel)⟩,
    ⟨(hub []), .mgmt, 0, takes_of (by decide +kernel)⟩,
    ⟨(hub [(F.AX_CTRL_SOURCE 0, 0), (F.AX_CTRL_Z_MODE 0, 1)]), 0, by decide +kernel⟩,
    ⟨(hub [(F.AX_STAT_STOPPED 0, 0), (F.STOP_TIMEOUT_US 0, 0)]), 0, by decide +kernel⟩,
    ⟨((hub [(F.AX_CTRL_Z_MODE 0, 1)]).setAxis 0 { zStart := true }), 0, by decide +kernel⟩,
    ⟨(hub []), 0, by decide +kernel⟩⟩

theorem wit_QuadratureCountsByOne :
    (∃ (s : State) (a : Fin 8) (la : Bool) (lb : Bool), (s.axis a).started = true ∧ s.get (F.AX_CTRL_DECODE a) = 0 ∧ s.on (F.AX_CTRL_INVERT a) =
      false ∧ (s.axis a).a ≠ la ∧ (s.axis a).b = lb) ∧
    (∃ (s : State) (a : Fin 8) (la : Bool) (lb : Bool), (s.axis a).started = true ∧ s.get (F.AX_CTRL_DECODE a) = 0 ∧ s.on (F.AX_CTRL_INVERT a) =
      false ∧ (s.axis a).a = la ∧ (s.axis a).b = lb) ∧
    (∃ (s : State) (a : Fin 8) (la : Bool) (lb : Bool), (s.axis a).started = true ∧ s.get (F.AX_CTRL_DECODE a) = 0 ∧ s.on (F.AX_CTRL_INVERT a) =
      false ∧ (s.axis a).a ≠ la ∧ (s.axis a).b ≠ lb) :=
  ⟨⟨((hub [(F.AX_CTRL_DECODE 7, 0), (F.AX_CTRL_INVERT 7, 0)]).setAxis 7 { started := true }), 7, true, false, by decide +kernel⟩,
    ⟨((hub [(F.AX_CTRL_DECODE 7, 0), (F.AX_CTRL_INVERT 7, 0)]).setAxis 7 { started := true }), 7, false, false, by decide +kernel⟩,
    ⟨((hub [(F.AX_CTRL_DECODE 7, 0), (F.AX_CTRL_INVERT 7, 0)]).setAxis 7 { started := true }), 7, true, true, by decide +kernel⟩⟩

theorem wit_TriggersAndCapturesAct :
    (∃ (s : State) (p : Path) (n : Fin 16) (v : Word), s.takes p (0x12040 + 32 * n.val) (putBit (putBit v.toNat 11 false) 10 true)) ∧
    (∃ (s : State) (p : Path) (n : Fin 16) (v : Word), s.takes p (0x12040 + 32 * n.val) (putBit (putBit v.toNat 10 false) 11 true)) ∧
    (∃ (s : State) (n : Fin 16), s.trigDue n = true) ∧
    (∃ (s : State) (n : Fin 16) (level : Bool), s.on (F.CAP_CTRL_EN n) = true ∧ s.timeOn = true ∧ (s.cap n).seen = true ∧ (s.cap n).level ≠ level ∧
      edgeSelected (s.get (F.CAP_CTRL_EDGE n)) level = true ∧ (s.cap n).queue.length < 16) ∧
    (∃ (s : State) (p : Path) (n : Fin 16), s.takes p (0x13058 + 32 * n.val) 1) ∧
    (∃ (s : State) (n : Fin 16), s.on (F.TSTAT_OUTPUT n) = true ∧ s.trigMode n ≠ 1 ∧ (s.trig n).left = 0) :=
  ⟨⟨(hub []), .mgmt, 0, 0, takes_of (by decide +kernel)⟩,
    ⟨(hub []), .mgmt, 0, 0, takes_of (by decide +kernel)⟩,
    ⟨{ (hub [(F.TSTAT_ARMED 0, 1)]) with time := { (hub []).time with trigs := [(0, { fireAt := some 0 })] } }, 0, by decide +kernel⟩,
    ⟨((hub [(F.CAP_CTRL_EN 0, 1), (F.CAP_CTRL_EDGE 0, 1)]).setCap 0 { seen := true }), 0, true, by decide +kernel⟩,
    ⟨(hub []), .mgmt, 0, takes_of (by decide +kernel)⟩,
    ⟨(hub [(F.TSTAT_OUTPUT 0, 1)]), 0, by decide +kernel⟩⟩

theorem wit_CellCommandsAct :
    (∃ (s : State) (id : Nat) (c : Cell), s.cell? id = some c ∧ c.phase = .crossing) ∧
    (∃ (s : State) (id : Nat) (c : Cell), s.cell? id = some c ∧ c.phase = .held ∧ s.heldDue c = true) ∧
    (∃ (s : State) (id : Nat) (c : Cell), s.cell? id = some c ∧ c.phase = .held ∧ s.heldDue c = false) ∧
    (∃ (s : State) (c : CellIn) (x : Cell) (part : Part), s.isDark = false ∧ s.shut = false ∧ c.payload.length ≤ 256 ∧ x = s.newCell c c.payload
      c.som c.eom part .waiting ∧ c.tag = .none ∧ s.partition c.src x.units = some part) ∧
    (∃ (s : State) (t : State) (c : CellIn) (x : Cell), s.isDark = false ∧ s.shut = false ∧ c.payload.length ≤ 256 ∧ x = s.newCell c c.payload c.som
      c.eom .hold .held ∧ c.tag ≠ .none ∧ x.units ≤ s.get F.VAT_FREE_UNITS ∧ s.get F.HOLD_USED_UNITS + x.units ≤ 131072 ∧ t = ((s.chargeCell
      x).wheelAdd 1).placeHeld x.id) ∧
    (∃ (s : State) (t : State), t = s.sigDrain.wakeDocks.countStalls ∧ s.sigDrain.wakeDocks.sw.stopped = false ∧ t.on F.RT_STAT_ACTIVE = false) ∧
    (∃ (s : State) (id : Nat) (c : Cell), s.cell? id = some c ∧ c.phase = .crossing ∧ c.seq = (s.stream (cellStream c)).expect) ∧
    (∃ (s : State) (st : StreamId) (q : BitVec 16) (c : Cell), c ∈ s.unacked (streamOf st) ∧ covers q.toNat c = true ∧ c.phase = .accepted) ∧
    (∃ (s : State) (id : Nat) (c : Cell), s.cell? id = some c ∧ c.phase = .held ∧ s.heldDue c = true ∧ s.aged c = true) ∧
    (∃ (s : State) (id : Nat) (c : Cell), s.cell? id = some c ∧ c.phase = .held ∧ s.heldDue c = false ∧ s.aged c = true) ∧
    (∃ (s : State) (id : Nat) (c : Cell), s.cell? id = some c ∧ c.phase = .crossing ∧ c.seq = (s.stream (cellStream c)).expect ∧ c.spoilt = false) ∧
    (∃ (s : State) (st : StreamId) (c : Cell) (l : List Cell), s.unacked (streamOf st) = c :: l ∧ 2 * c.sentAt + s.get F.ACK_TIMEOUT_CYCLES ≤ 2 *
      s.now) ∧
    (∃ (s : State) (st : StreamId), s.ackOverdue (streamOf st) = true ∧ (∀ c ∈ s.sw.cells, cellStream c = streamOf st → c.replays < 3)) :=
  ⟨⟨(withCell (hub []) cell0), 0, cell0, by decide +kernel⟩,
    ⟨(withCell (hub []) ({ cell0 with phase := .held, tag := .time 0, wheel := .fine 0 })), 0,
      ({ cell0 with phase := .held, tag := .time 0, wheel := .fine 0 }), by decide +kernel⟩,
    ⟨(withCell (hub []) ({ cell0 with phase := .held })), 0, ({ cell0 with phase := .held }), by decide +kernel⟩,
    ⟨(hub []), ⟨0, 0, .pool 0, 1, [1], .none, true, true, true⟩, _, .reserve, by decide +kernel, by decide +kernel, by decide +kernel, rfl, rfl,
      by decide +kernel⟩,
    ⟨(hub []), _, ⟨0, 0, .pool 0, 1, [1], .time 5, true, true, true⟩, _, by decide +kernel, by decide +kernel, by decide +kernel, rfl, by decide,
      by decide +kernel, by decide +kernel, rfl⟩,
    ⟨(hub []), _, rfl, by decide +kernel⟩,
    ⟨withCell (hub []) ({ cell0 with phase := .crossing }), 0, { cell0 with phase := .crossing }, by decide +kernel⟩,
    ⟨withCell (hub []) ({ cell0 with phase := .accepted }), ⟨0, 0, 0⟩, 0, { cell0 with phase := .accepted }, by decide +kernel⟩,
    ⟨withCell (hub [(F.HOLD_AGE_LIMIT_MS, 0)]) ({ cell0 with phase := .held, tag := .time 0, wheel := .fine 0 }), 0,
      { cell0 with phase := .held, tag := .time 0, wheel := .fine 0 }, by decide +kernel⟩,
    ⟨withCell (hub [(F.HOLD_AGE_LIMIT_MS, 0)]) ({ cell0 with phase := .held, tag := .time 9000, wheel := .fine 9000 }), 0,
      { cell0 with phase := .held, tag := .time 9000, wheel := .fine 9000 }, by decide +kernel⟩,
    ⟨(withCell (hub []) cell0), 0, cell0, by decide +kernel⟩,
    ⟨(withCell (at40 []) { cell0 with phase := .accepted }), ⟨0, 0, 0⟩, { cell0 with phase := .accepted }, [], by decide +kernel⟩,
    ⟨(withCell (at40 []) { cell0 with phase := .accepted }), ⟨0, 0, 0⟩, by decide +kernel⟩⟩

theorem wit_PlaneAndBankCommandsAct :
    (∃ (s : State) (pl : Fin 3), s.get (planeStat pl) ≠ 2) ∧
    (∃ (s : State) (p : Path) (pl : Fin 3), s.takes p 0x500058 (16 + pl.val)) ∧
    (∃ (s : State) (b : Fin 50) (e : Nat × Nat), s.sw.copying.find? (fun e => e.2 == b.val) = some e ∧ e.1 ≠ b.val) ∧
    (∃ (s : State) (p : Path), s.takes p 0x501070 (2 ^ 31)) ∧
    (∃ (s : State) (p : Path), s.mayRead p 0x50304C = true) ∧
    (∃ (s : State) (pl : Fin 3) (i : Fin 72) (o : Fin 72), s.get (planeStat pl) ≠ 2 ∧ s.pairIdle pl i o = true) ∧
    (∃ (s : State) (at_ : Nat) (lps : List Nat) (l : List (Nat × List Nat)), s.sw.fails = (at_, lps) :: l ∧ s.replaysDone lps = true) ∧
    (∃ (s : State) (b : Fin 50) (f : BankFault), s.bankState b ≠ 2 ∧ s.retires f = true) ∧
    (∃ (s : State) (b : Fin 50) (e : Nat × Nat), s.sw.copying.find? (fun e => e.2 == b.val) = some e ∧ e.1 = b.val) :=
  ⟨⟨(hub []), 0, by decide +kernel⟩,
    ⟨(hub [(F.LC_STAT_STATE, 1)]), .mgmt, 0, takes_of (by decide +kernel)⟩,
    ⟨{ (hub []) with sw := { (hub []).sw with copying := [(48, 3)] } }, 3, (48, 3), by decide +kernel⟩,
    ⟨(hub []), .mgmt, takes_of (by decide +kernel)⟩,
    ⟨(hub []), .mgmt, by decide +kernel⟩,
    ⟨at40 [], 2, 71, 71, by decide +kernel⟩,
    ⟨{ hub [] with sw := { fails := [(0, [1])] } }, 0, [1], [], by decide +kernel⟩,
    ⟨(hub []), 49, ⟨.control, []⟩, by decide +kernel⟩,
    ⟨{ hub [] with sw := { copying := [(48, 48)] } }, 48, (48, 48), by decide +kernel⟩⟩

theorem wit_SparePlaneFailureMovesNoTraffic :
    ∃ (s : State) (pl : Fin 3), s.get (planeStat pl) ≠ 2 ∧ s.sw.stopped = false ∧ s.get F.PLANE_MAP_SPARE = pl.val :=
  ⟨(hub []), 2, by decide +kernel⟩

theorem wit_SchedulerCommandsAct :
    (∃ (s : State) (p : Path) (v : Word), s.takes p 0x42044 v.toNat) ∧
    (∃ (s : State), ((∀ c ∈ s.sw.cells, c.phase ≠ .held))) ∧
    (∃ (s : State) (p : Path) (a : Fin 8) (w : Word), s.takes p (0x40060 + 4 * a.val) w.toNat) ∧
    (∃ (s : State) (p : Path), s.takes p 0x40054 (2 ^ 31)) ∧
    (∃ (s : State) (i : Fin 8) (n : Nat), (s.slot i).state = .armed ∧ (s.slot i).cond = 2 ∧ s.unsure (s.slot i).axis = false ∧ s.predict (s.slot
      i).axis (slotPos (s.slot i)) ((s.slot i).dir == 1) = some n ∧ fineSlot n ≤ s.now ∧ passed (s.axis (s.slot i).axis).pc (slotPos (s.slot i))
      ((s.slot i).dir == 1) = false ∧ (s.slot i).wheel ≠ .axisOverflow) ∧
    (∃ (s : State), s.latchWindow.domState 4 = 0) ∧
    (∃ (s : State) (sh : Fin 4096), s.on (F.SH_CTRL_EN sh) = true ∧ fineSlot ((tget 0 s.sw.shNext sh.val : Nat) : Int) ≤ s.now) ∧
    (∃ (s : State) (port : Fin 64), s.on (F.LSTATE_IDLE port) = false ∧ s.outIdle port = true) :=
  ⟨⟨(hub []), .mgmt, 0, takes_of (by decide +kernel)⟩,
    ⟨(hub []), by decide +kernel⟩,
    ⟨(hub []), .mgmt, 0, 1, takes_of (by decide +kernel)⟩,
    ⟨(hub []), .mgmt, takes_of (by decide +kernel)⟩,
    ⟨((hub [(F.AX_STAT_STOPPED 0, 0), (F.AX_STAT_UNCERTAIN 0, 0), (F.VEL_VEL 0, 2000)]).setSlot 0 { state := .armed, cond := 2, param := 1 }), 0, 0,
      by decide +kernel⟩,
    ⟨(hub []), by decide +kernel⟩,
    ⟨(hub [(F.SH_CTRL_EN 4095, 1)]), 4095, by decide +kernel⟩,
    ⟨at40 [(F.LSTATE_IDLE 0, 0)], 0, by decide +kernel⟩⟩

theorem wit_PoolRequestsEnter :
    (∃ (s : State) (fn : Fin 256) (g : BitVec 4), s.boundFn fn g.toNat = none) ∧
    (∃ (s : State) (fn : Fin 256) (g : BitVec 4) (x : Nat) (d : Nat), s.boundFn fn g.toNat = some (x, d)) ∧
    (∃ (s : State) (u : State) (h : Fin 32) (t : BitVec 12) (x : Snoop), s.shut = false ∧ u = s.cellsIn h 0 ∧ u.pool.snoops.find? (fun x => x.host ==
      h.val && x.bitag == t.toNat) = some x ∧ u.wbOpen (sliceOf x.line) = true ∧ u.pool.lane = [] ∧ x.kind = 1) ∧
    (∃ (s : State) (u : State) (h : Fin 32) (t : BitVec 12) (x : Snoop), s.shut = false ∧ u = s.cellsIn h 0 ∧ u.pool.snoops.find? (fun x => x.host ==
      h.val && x.bitag == t.toNat) = some x ∧ u.wbOpen (sliceOf x.line) = true ∧ u.pool.lane = [] ∧ x.kind = 0) ∧
    (∃ (s : State) (h : Fin 32) (dpa : BitVec 52), s.shut = false ∧ (s.lensOld h dpa.toNat).isSome = true) ∧
    (∃ (s : State) (h : Fin 32) (dpa : BitVec 52), s.shut = false ∧ (s.lensOld h dpa.toNat).isSome = false) ∧
    (∃ (s : State) (fn : Fin 256) (g : BitVec 4) (a : BitVec 64) (x : Nat) (d : Nat) (p : Nat), s.boundFn fn g.toNat = some (x, d) ∧ s.shut = false ∧
      p = s.srcPort x d ∧ s.fnPool x d a.toNat = none) ∧
    (∃ (s : State) (t : State) (h : Fin 32) (tag : BitVec 16) (dpa : BitVec 52) (k : ReqKind) (nd : Bool) (r : Req) (win : Nat) (pa : Nat) (m : Nat)
      (d : Nat) (n : SnpType) (v : MetaVal), s.shut = false ∧ s.gd.drain = [] ∧ s.gd.upset = [] ∧ s.lens h (dpa.toNat / 64 * 64) = some (win, pa) ∧
      s.poolMap pa = some (m, d) ∧ m < 16 ∧ (s.cellsIn h 0).lost m = false ∧ r =
      { id := s.pool.nextId, port := h, init := h, tag := tag.toNat, kind := k, noData := nd, addr := pa, wr := noBytes, seq := s.nextSeq h,
        mport := m, dpa := d, creamOk := s.on (F.WIN_ATTR_CREAM win), came := (s.cellsIn h 0).cycle, eOk := (s.cellsIn h 0).mayUse h true ((s.cellsIn
      h 0).colour (pa / 2097152)) } ∧ (s.cellsIn h 0).denied h r.needs.1 r.needs.2 false pa = none ∧ t = ((s.cellsIn h 0).mapPool (fun p =>
      { p with nextId := p.nextId + 1, reqs := p.reqs ++ [r] })).advance ∧ k = rdKind n v ∧ nd = false) ∧
    (∃ (s : State) (t : State) (h : Fin 32) (tag : BitVec 16) (dpa : BitVec 52) (k : ReqKind) (nd : Bool) (r : Req) (win : Nat) (pa : Nat) (m : Nat)
      (d : Nat), s.shut = false ∧ s.gd.drain = [] ∧ s.gd.upset = [] ∧ s.lens h (dpa.toNat / 64 * 64) = some (win, pa) ∧ s.poolMap pa = some (m, d) ∧
      m < 16 ∧ (s.cellsIn h 0).lost m = false ∧
      r = { id := s.pool.nextId, port := h, init := h, tag := tag.toNat, kind := k, noData := nd, addr := pa, wr := noBytes, seq := s.nextSeq h,
            mport := m, dpa := d, creamOk := s.on (F.WIN_ATTR_CREAM win), came := (s.cellsIn h 0).cycle,
            eOk := (s.cellsIn h 0).mayUse h true ((s.cellsIn h 0).colour (pa / 2097152)) } ∧
      (s.cellsIn h 0).denied h r.needs.1 r.needs.2 false pa = none ∧ t = ((s.cellsIn h 0).mapPool (fun p =>
      { p with nextId := p.nextId + 1, reqs := p.reqs ++ [r] })).advance ∧ k = .rdS ∧ nd = false) ∧
    (∃ (s : State) (t : State) (h : Fin 32) (tag : BitVec 16) (dpa : BitVec 52) (k : ReqKind) (nd : Bool) (r : Req) (win : Nat) (pa : Nat) (m : Nat)
      (d : Nat), s.shut = false ∧ s.gd.drain = [] ∧ s.gd.upset = [] ∧ s.lens h (dpa.toNat / 64 * 64) = some (win, pa) ∧ s.poolMap pa = some (m, d) ∧
      m < 16 ∧ (s.cellsIn h 0).lost m = false ∧
      r = { id := s.pool.nextId, port := h, init := h, tag := tag.toNat, kind := k, noData := nd, addr := pa, wr := noBytes, seq := s.nextSeq h,
            mport := m, dpa := d, creamOk := s.on (F.WIN_ATTR_CREAM win), came := (s.cellsIn h 0).cycle,
            eOk := (s.cellsIn h 0).mayUse h true ((s.cellsIn h 0).colour (pa / 2097152)) } ∧
      (s.cellsIn h 0).denied h r.needs.1 r.needs.2 false pa = none ∧ t = ((s.cellsIn h 0).mapPool (fun p =>
      { p with nextId := p.nextId + 1, reqs := p.reqs ++ [r] })).advance ∧ k = .rdO ∧ nd = true) ∧
    (∃ (s : State) (u : State) (h : Fin 32) (tag : BitVec 16) (dpa : BitVec 52) (w : LineData) (r : Req) (win : Nat) (pa : Nat) (m : Nat) (d : Nat),
      s.shut = false ∧ s.gd.drain = [] ∧ s.gd.upset = [] ∧ s.lens h (dpa.toNat / 64 * 64) = some (win, pa) ∧ s.poolMap pa = some (m, d) ∧ m < 16 ∧ u
      = ((s.cellsIn h 64).takeSeq h).trackAdd h (s.nextSeq h) (32 + m) ∧ u.gd.drain = [] ∧ u.lost m = false ∧ u.denied h false true false pa = none ∧
      r = { id := u.pool.nextId, port := h, init := h, tag := tag.toNat, kind := .wrU, addr := pa, wr := w, seq := s.nextSeq h, mport := m,
            dpa := d, creamOk := s.on (F.WIN_ATTR_CREAM win), came := u.cycle, eOk := u.mayUse h true (u.colour (pa / 2097152)) } ∧ w.be = allBytes) ∧
    (∃ (s : State) (u : State) (h : Fin 32) (dpa : BitVec 52) (pa : Nat) (m : Nat) (d : Nat), s.shut = false ∧ s.gd.drain = [] ∧ s.lensOld h
      (dpa.toNat / 64 * 64) = some pa ∧ s.poolMapOld pa = some (m, d) ∧ m < 16 ∧ u = s.cellsIn h 0 ∧ u.lost m = false ∧ u.wbOpen (sliceOf (pa / 64))
      = true ∧ u.pool.lane = [] ∧ u.pool.dead = [] ∧ hasBit (u.entry (pa / 64)).hosts h = true) ∧
    (∃ (s : State) (u : State) (fn : Fin 256) (g : BitVec 4) (a : BitVec 64) (x : Nat) (d : Nat) (p : Nat) (q : _), s.boundFn fn g.toNat = some (x,
      d) ∧ s.shut = false ∧ p = s.srcPort x d ∧ s.fnPool x d a.toNat = some q ∧ s.gd.upset = [] ∧ u = s.cellsIn p 0 ∧ u.gd.drain = []) ∧
    (∃ (s : State) (u : State) (fn : Fin 256) (g : BitVec 4) (a : BitVec 64) (x : Nat) (d : Nat) (p : Nat) (q : _) (b : List (BitVec 8)), s.boundFn
      fn g.toNat = some (x, d) ∧ s.shut = false ∧ p = s.srcPort x d ∧ s.fnPool x d a.toNat = some q ∧ s.gd.upset = [] ∧ u = (s.cellsIn p
      b.length).takeSeq (64 + fn) ∧ u.gd.drain = []) ∧
    (∃ (s : State) (u : State) (fn : Fin 256) (g : BitVec 4) (a : BitVec 64) (x : Nat) (d : Nat) (p : Nat) (q : _) (op : AtomicOp), s.boundFn fn
      g.toNat = some (x, d) ∧ s.shut = false ∧ p = s.srcPort x d ∧ s.fnPool x d a.toNat = some q ∧ s.gd.upset = [] ∧ u = s.cellsIn p (atomicBytes op)
      ∧ u.gd.drain = []) :=
  ⟨⟨(hub []), 0, 0, by decide +kernel⟩,
    ⟨{ (hub []) with port := { (hub []).port with slots := [(0, { bound := some (0, 0) })] } }, 0, 0, 0, 0, by decide +kernel⟩,
    ⟨{ hub [] with pool := { snoops := [⟨0, 0, 0, 1, false, false⟩] } }, _, 0, 0, ⟨0, 0, 0, 1, false, false⟩, by decide +kernel, rfl,
      by decide +kernel⟩,
    ⟨{ hub [] with pool := { snoops := [⟨0, 0, 0, 0, false, false⟩] } }, _, 0, 0, ⟨0, 0, 0, 0, false, false⟩, by decide +kernel, rfl,
      by decide +kernel⟩,
    ⟨poolHub, 0, 0, by decide +kernel⟩,
    ⟨(hub []), 0, 0, by decide +kernel⟩,
    ⟨fnHub [], 0, 0, 0, 0, 0, 48, by decide +kernel⟩,
    ⟨poolHub, _, 0, 0, 0, .rdS, false, _, 0, 0, 0, 0, .snpData, .noOp, by decide +kernel, by decide +kernel, by decide +kernel, by decide +kernel,
      by decide +kernel, by decide +kernel, by decide +kernel, rfl, by decide +kernel, rfl, rfl, rfl⟩,
    ⟨poolHub, _, 0, 0, 0, .rdS, false, _, 0, 0, 0, 0, by decide +kernel, by decide +kernel, by decide +kernel, by decide +kernel, by decide +kernel,
      by decide +kernel, by decide +kernel, rfl, by decide +kernel, rfl, rfl, rfl⟩,
    ⟨poolHub, _, 0, 0, 0, .rdO, true, _, 0, 0, 0, 0, by decide +kernel, by decide +kernel, by decide +kernel, by decide +kernel, by decide +kernel,
      by decide +kernel, by decide +kernel, rfl, by decide +kernel, rfl, rfl, rfl⟩,
    ⟨poolHub, _, 0, 0, 0, ⟨5, allBytes, false⟩, _, 0, 0, 0, 0, by decide +kernel, by decide +kernel, by decide +kernel, by decide +kernel,
      by decide +kernel, by decide +kernel, rfl, by decide +kernel, by decide +kernel, by decide +kernel, rfl, rfl⟩,
    ⟨(poolHub.putWay 0 0 (some { line := 0, st := .s, hosts := 1 })), _, 0, 0, 0, 0, 0, by decide +kernel, by decide +kernel, by decide +kernel,
      by decide +kernel, by decide +kernel, rfl, by decide +kernel⟩,
    ⟨fnHub [(F.VDSP_POOL_SIZE_UNITS 0 0, 1)], _, 0, 0, 0, 0, 0, 48, 0, by decide +kernel, by decide +kernel, by decide +kernel, by decide +kernel,
      by decide +kernel, rfl, by decide +kernel⟩,
    ⟨fnHub [(F.VDSP_POOL_SIZE_UNITS 0 0, 1)], _, 0, 0, 0, 0, 0, 48, 0, [1], by decide +kernel, by decide +kernel, by decide +kernel,
      by decide +kernel, by decide +kernel, rfl, by decide +kernel⟩,
    ⟨fnHub [(F.VDSP_POOL_SIZE_UNITS 0 0, 1)], _, 0, 0, 0, 0, 0, 48, 0, .swap 4 1, by decide +kernel, by decide +kernel, by decide +kernel,
      by decide +kernel, by decide +kernel, rfl, by decide +kernel⟩⟩

theorem wit_BackInvalidateAnswersAreChecked :
    (∃ (s : State) (h : Nat) (bitag : Nat), s.pool.snoops.find? (fun x => x.host == h && x.bitag == bitag) = none) ∧
    (∃ (s : State) (h : Nat) (bitag : Nat) (block : Bool) (x : Snoop), s.pool.snoops.find? (fun x => x.host == h && x.bitag == bitag) = some x ∧
      block = true) ∧
    (∃ (s : State) (h : Nat) (k : Nat) (bitag : Nat) (block : Bool) (x : Snoop), s.pool.snoops.find? (fun x => x.host == h && x.bitag == bitag) =
      some x ∧ block = false ∧ k = 0) ∧
    (∃ (s : State) (h : Nat) (k : Nat) (bitag : Nat) (block : Bool) (x : Snoop), s.pool.snoops.find? (fun x => x.host == h && x.bitag == bitag) =
      some x ∧ block = false ∧ k = 1 ∧ x.kind = 1) ∧
    (∃ (s : State) (h : Nat) (k : Nat) (bitag : Nat) (block : Bool) (x : Snoop), s.pool.snoops.find? (fun x => x.host == h && x.bitag == bitag) =
      some x ∧ block = false ∧ k = 2 ∧ x.kind = 1) :=
  ⟨⟨(hub []), 0, 0, by decide +kernel⟩,
    ⟨{ (hub []) with pool := { (hub []).pool with snoops := [⟨0, 0, 0, 0, false, false⟩] } }, 0, 0, true, ⟨0, 0, 0, 0, false, false⟩,
      by decide +kernel⟩,
    ⟨{ (hub []) with pool := { (hub []).pool with snoops := [⟨0, 0, 0, 2, false, false⟩] } }, 0, (0), 0, (false), ⟨0, 0, 0, 2, false, false⟩,
      by decide +kernel, rfl, rfl⟩,
    ⟨{ (hub []) with pool := { (hub []).pool with snoops := [⟨0, 0, 0, 1, false, false⟩] } }, 0, 1, 0, (false), ⟨0, 0, 0, 1, false, false⟩,
      by decide +kernel, rfl, by decide +kernel⟩,
    ⟨{ (hub []) with pool := { (hub []).pool with snoops := [⟨0, 0, 0, 1, false, false⟩] } }, 0, 2, 0, (false), ⟨0, 0, 0, 1, false, false⟩,
      by decide +kernel, rfl, by decide +kernel⟩⟩

theorem wit_ExpanderAnswersAct :
    (∃ (s : State) (m : Fin 16) (i : BitVec 12) (j : XJob), (s.xtag m i.toNat).st = .use j ∧ (s.timeouts m).length < s.get (F.CTO_CFG_LIMIT m)) ∧
    (∃ (s : State) (m : Fin 16) (i : BitVec 12), (s.xtag m i.toNat).st = .wait) ∧
    (∃ (s : State) (h : Fin 32) (b : BitVec 12), s.pool.snoops.any (fun x => x.host == h.val && x.bitag == b.toNat) = true ∧ s.get (F.HP_STAT_LINK h)
      ≠ 0) ∧
    (∃ (s : State) (m : Fin 16) (tag : BitVec 16), s.shut = false ∧ (s.xtag m (tag.toNat % 4096)).gen ≠ tag.toNat / 4096 % 16) ∧
    (∃ (s : State) (u : State) (m : Fin 16) (tag : BitVec 16) (id : Nat), s.shut = false ∧ u = s.cellsIn (32 + m) 64 ∧ (s.xtag m (tag.toNat %
      4096)).gen = tag.toNat / 4096 % 16 ∧ (s.xtag m (tag.toNat % 4096)).st = .use (.rd id)) ∧
    (∃ (s : State) (u : State) (m : Fin 16) (tag : BitVec 16) (id : Nat) (w : PWrite), s.shut = false ∧ u = s.cellsIn (32 + m) 0 ∧ (s.xtag m
      (tag.toNat % 4096)).gen = tag.toNat / 4096 % 16 ∧ (s.xtag m (tag.toNat % 4096)).st = .use (.wr id) ∧ s.write? id = some w) :=
  ⟨⟨((hub [(F.CTO_CFG_LIMIT 0, 3)]).setXtag 0 4095 { st := .use (.rd 0) }), 0, 4095, (.rd 0), by decide +kernel⟩,
    ⟨((hub []).setXtag 0 4095 { st := .wait }), 0, 4095, by decide +kernel⟩,
    ⟨{ (hub [(F.HP_STAT_LINK 0, 1)]) with pool := { (hub []).pool with snoops := [⟨0, 0, 0, 0, false, false⟩] } }, 0, 0, by decide +kernel⟩,
    ⟨((hub []).setXtag 15 5 { gen := 2 }), 15, 5, by decide +kernel⟩,
    ⟨((hub []).setXtag 0 0 { st := .use (.rd 0) }), _, 0, 0, 0, by decide +kernel, rfl, by decide +kernel⟩,
    ⟨({ (hub []) with pool := { (hub []).pool with writes := [wr0] } }.setXtag 0 0 { st := .use (.wr 0) }), _, 0, 0, 0, wr0, by decide +kernel, rfl,
      by decide +kernel⟩⟩

theorem wit_RegionsAndWindowsAct :
    (∃ (s : State) (p : Path) (r : Fin 16) (v : Word), s.takes p (regCfg r) (putBit v.toNat 0 true)) ∧
    (∃ (s : State) (p : Path) (r : Fin 16) (v : Nat), v = 65536 * s.get (F.REG_CFG_DBASE_GIB r) + 256 * s.get (F.REG_CFG_GRAN r) + 16 * s.get
      (F.REG_CFG_WAYS r) ∧ s.takes p (regCfg r) v ∧ s.on (F.REG_CFG_EN r) = true ∧ v < 2 ^ 32) ∧
    (∃ (s : State) (p : Path) (c : Bool), s.takes p 0x602054 (2 * b2n c + 1)) ∧
    (∃ (s : State) (p : Path) (w : Nat) (v : Nat), w = s.winIndex (pathCode p) 0 .lensWin ∧ v = 2 * s.get (F.WIN_ATTR_CREAM w) ∧ s.takes p 0x602054 v
      ∧ s.on (F.WIN_ATTR_EN w) = true) ∧
    (∃ (s : State) (p : Path) (m : BitVec 16), s.takes p 0x601244 m.toNat) ∧
    (∃ (s : State) (p : Path) (n : Fin 8) (v : Nat), v = 4 + s.crWord n (if s.native then s.get (F.CR_CTRL_EN n) else 0) ∧ s.takes p (0x610040 +
      0x1000 * n.val) v) ∧
    (∃ (s : State) (p : Path) (n : Fin 8), s.takes p (0x610040 + 0x1000 * n.val) (s.crWord n 0)) ∧
    (∃ (s : State) (r : Fin 16) (e : Nat × Region), s.pool.recalls.find? (fun e => e.1 == r.val) = some e ∧ s.pool.dir.any (fun x => e.2.holds
      (x.2.line * 64)) = false ∧ s.pool.reqs.any (fun r => e.2.holds r.addr) = false) ∧
    (∃ (s : State) (h : Fin 32) (w : Fin 64), s.pool.wins.any (fun x => x.host == h.val && x.win == w.val) = true ∧ s.pool.dir = [] ∧ s.pool.reqs =
      []) ∧
    (∃ (s : State) (port : Fin 72) (w : Walk), s.pool.walks.find? (fun w => w.port == port.val) = some w ∧ s.pool.snoops = []) ∧
    (∃ (s : State) (n : Fin 8) (b : Fin 8) (w : Nat), w = s.get (F.CR_BANK_STAT_STATE n) ∧ s.creamBank n b ≠ 2) ∧
    (∃ (s : State) (n : Fin 8) (k : Nat), k < s.get (F.CR_CE_LIMIT_COUNT n)) ∧
    (∃ (s : State) (n : Fin 8) (b : Fin 8) (w : Nat) (k : Nat), w = s.get (F.CR_BANK_STAT_STATE n) ∧ s.creamBank n b ≠ 2 ∧ s.get (F.CR_CE_LIMIT_COUNT
      n) ≤ k) :=
  ⟨⟨(hub [(F.REG_BASE_GIB 0, 0), (F.REG_SIZE_GIB 0, 1)]), .mgmt, 0, 0, takes_of (by decide +kernel)⟩,
    ⟨(hub [(F.REG_CFG_EN 0, 1)]), .mgmt, 0, (65536 * (((hub [(F.REG_CFG_EN 0, 1)])) : State).get (F.REG_CFG_DBASE_GIB ((0) : Fin 16)) + 256 * (((hub
      [(F.REG_CFG_EN 0, 1)])) : State).get (F.REG_CFG_GRAN ((0) : Fin 16)) + 16 * (((hub [(F.REG_CFG_EN 0, 1)])) : State).get (F.REG_CFG_WAYS ((0) :
      Fin 16))), rfl, takes_of (by decide +kernel), by decide +kernel⟩,
    ⟨(hub [(F.WIN_SIZE_UNITS 0, 1), (F.LENS_SIZE_UNITS 0, 1)]), .mgmt, false, takes_of (by decide +kernel)⟩,
    ⟨(hub [(F.WIN_ATTR_EN 0, 1)]), .mgmt, ((((hub [(F.WIN_ATTR_EN 0, 1)])) : State).winIndex (pathCode ((.mgmt) : Path)) 0 .lensWin), (2 * (((hub
      [(F.WIN_ATTR_EN 0, 1)])) : State).get (F.WIN_ATTR_CREAM ((((((hub [(F.WIN_ATTR_EN 0, 1)])) : State).winIndex (pathCode ((.mgmt) : Path)) 0
      .lensWin)) : Nat))), rfl, rfl, takes_of (by decide +kernel), by decide +kernel⟩,
    ⟨(hub []), .mgmt, 0, takes_of (by decide +kernel)⟩,
    ⟨(hub []), .mgmt, 0, (4 + (((hub [])) : State).crWord ((0) : Fin 8) (if (((hub [])) : State).native then (((hub [])) : State).get (F.CR_CTRL_EN
      ((0) : Fin 8)) else 0)), rfl, takes_of (by decide +kernel)⟩,
    ⟨(hub []), .mgmt, 0, takes_of (by decide +kernel)⟩,
    ⟨{ hub [] with pool := { recalls := [(0, ⟨0, 1, 0, 1, 0, 0⟩)] } }, 0, (0, ⟨0, 1, 0, 1, 0, 0⟩), by decide +kernel⟩,
    ⟨{ hub [] with pool := { wins := [⟨0, 0, 0, 1, 0⟩] } }, 0, 0, by decide +kernel⟩,
    ⟨{ hub [] with pool := { walks := [⟨0, 0, 0⟩] } }, 0, ⟨0, 0, 0⟩, by decide +kernel⟩,
    ⟨(hub []), 7, 7, _, rfl, by decide +kernel⟩,
    ⟨(hub [(F.CR_CE_LIMIT_COUNT 0, 2)]), 0, 1, by decide +kernel⟩,
    ⟨(hub [(F.CR_CE_LIMIT_COUNT 7, 2)]), 7, 7, _, 2, rfl, by decide +kernel⟩⟩

theorem wit_DirectoryAndGuardAct :
    (∃ (s : State) (p : Path) (d : Fin 32), s.takes p 0x603058 (32 + d.val)) ∧
    (∃ (s : State) (p : Path), s.takes p 0x60404C 1) ∧
    (∃ (s : State) (p : Path), s.takes p 0x60404C 2) ∧
    (∃ (s : State), s.gd.drain ≠ [] ∧ s.straggling = 0) ∧
    (∃ (s : State), s.gd.drain ≠ []) ∧
    (∃ (s : State) (p : Path), s.takes p 0x703044 1) ∧
    (∃ (s : State) (p : Path), s.takes p 0x70004C (2 ^ 31)) ∧
    (∃ (s : State) (n : Nat), s.get F.SLICE_CE_LIMIT_COUNT ≤ n) ∧
    (∃ (s : State) (d : Fin 32), s.sliceState d = 0 ∧ s.pool.dead = [] ∧ s.onRecon (d / 16) = [] ∧ s.get (reflector (d / 16)) ≠ 2 ∧ s.get
      F.SPARE_STAT_DX = 0) ∧
    (∃ (s : State) (d : Fin 32), s.on F.REBUILD_STAT_ACTIVE = true ∧ s.get F.REBUILD_STAT_SLICE = d.val ∧ s.rebuildRow = 49152) ∧
    (∃ (s : State) (g : Fin 2), s.get (reflector g) ≠ 2 ∧ (((s.softRecord 5 (32 + g.val) 0).set (reflector g) 2).raise 2844).onRecon g = []) ∧
    (∃ (s : State), s.get F.SPARE_STAT_DX ≠ 2 ∧ s.on F.SPARE_STAT_ROLE_VALID = false ∧ s.on F.REBUILD_STAT_ACTIVE = false) ∧
    (∃ (s : State) (s1 : State) (d : Fin 32), s.pool.fenced.contains d.val = true ∧ s.get F.SPARE_STAT_DX ≠ 0 ∧ s1 = (((s.restoreTrackers d).mapPool
      (fun p => { p with fenced := p.fenced.erase d })).set F.RECON_LAST_NS (s.now - tget 0 s.pool.failAt d)).raise 2841 ∧ s1.get F.SPARE_STAT_DX ≠
      0) :=
  ⟨⟨(hub [(F.LC_STAT_STATE, 1)]), .mgmt, 31, takes_of (by decide +kernel)⟩,
    ⟨(hub []), .mgmt, takes_of (by decide +kernel)⟩,
    ⟨(hub []), .mgmt, takes_of (by decide +kernel)⟩,
    ⟨{ (hub []) with gd := { (hub []).gd with drain := [0] } }, by decide +kernel⟩,
    ⟨{ (hub []) with gd := { (hub []).gd with drain := [0] } }, by decide +kernel⟩,
    ⟨(hub []), .mgmt, takes_of (by decide +kernel)⟩,
    ⟨(hub []), .mgmt, takes_of (by decide +kernel)⟩,
    ⟨(hub [(F.SLICE_CE_LIMIT_COUNT, 3)]), 3, by decide +kernel⟩,
    ⟨(hub []), 31, by decide +kernel⟩,
    ⟨{ at40 [(F.REBUILD_STAT_ACTIVE, 1), (F.REBUILD_STAT_SLICE, 31)] with pool := { rebAt := 0 } }, 31, by decide +kernel⟩,
    ⟨(hub []), 1, by decide +kernel⟩,
    ⟨(hub []), by decide +kernel⟩,
    ⟨{ hub [(F.SPARE_STAT_DX, 1)] with pool := { fenced := [31] } }, _, 31, by decide +kernel, by decide +kernel, rfl, by decide +kernel⟩⟩

theorem wit_PortCommandsAct :
    (∃ (s : State) (h : Fin 32), s.linkable h = true) ∧
    (∃ (s : State) (h : Fin 32), s.linkable h = false) ∧
    (∃ (s : State) (p : Path) (h : Fin 32), s.takes p (0x100040 + 0x10000 * h.val) (s.hpWord h 0)) ∧
    (∃ (s : State) (p : Path) (h : Fin 32) (v : Nat), v = s.hpWord h (s.get (F.HP_CTRL_EN h)) + 2 ∧ s.takes p (0x100040 + 0x10000 * h.val) v) ∧
    (∃ (s : State) (m : Fin 16), s.linkable (32 + m) = true) ∧
    (∃ (s : State) (p : Path) (m : Fin 16) (v : Nat), v = 8192 * s.get (F.MP_CTRL_L1_EN m) + 4096 * s.get (F.MP_CTRL_L0P_EN m) + 256 * s.get
      (F.MP_CTRL_MAX_WIDTH m) + 16 * s.get (F.MP_CTRL_MAX_RATE m) + 4 + s.get (F.MP_CTRL_MODE m) ∧ s.takes p (0x300040 + 0x10000 * m.val) v) ∧
    (∃ (port : Fin 64), port.val < 48) ∧
    (∃ (port : Fin 64), 48 ≤ port.val) ∧
    (∃ (s : State) (h : Fin 32), s.get (F.HP_STAT_LINK h) = 2 ∧ s.get (F.HP_STAT_RATE h) = 7) ∧
    (∃ (s : State) (u : State) (h : Fin 32) (rate : Fin 8) (width : Fin 8), s.linkable h = true ∧ u = s.trainedAs h ∧ linkFits false rate width
      (u.eff (F.HP_CTRL_MAX_RATE h)) (u.eff (F.HP_CTRL_MAX_WIDTH h)) = true) ∧
    (∃ (s : State) (u : State) (h : Fin 32) (rate : Fin 8) (width : Fin 8), s.linkable h = true ∧ u = s.trainedAs h ∧ linkFits false rate width
      (u.eff (F.HP_CTRL_MAX_RATE h)) (u.eff (F.HP_CTRL_MAX_WIDTH h)) = false) ∧
    (∃ (s : State) (u : State) (m : Fin 16) (rate : Fin 8) (width : Fin 16), s.linkable (32 + m) = true ∧ u = s.trainedAs (32 + m) ∧ linkFits true
      rate width (u.eff (F.MP_CTRL_MAX_RATE m)) (u.eff (F.MP_CTRL_MAX_WIDTH m)) = true ∧ u.eff (F.MP_CTRL_MODE m) = 1) ∧
    (∃ (s : State) (u : State) (m : Fin 16) (rate : Fin 8) (width : Fin 16), s.linkable (32 + m) = true ∧ u = s.trainedAs (32 + m) ∧ linkFits true
      rate width (u.eff (F.MP_CTRL_MAX_RATE m)) (u.eff (F.MP_CTRL_MAX_WIDTH m)) = true ∧ u.eff (F.MP_CTRL_MODE m) = 2) ∧
    (∃ (s : State) (m : Fin 16), s.get (F.MP_STAT_LINK m) ≠ 0) ∧
    (∃ (s : State) (port : Fin 64), port.val < 48 ∧ s.get (F.LSTATE_STATE port) ≠ 0 ∧ s.get (F.LSTATE_STATE port) = 4) ∧
    (∃ (s : State) (port : Fin 64), port.val < 48 ∧ s.get (F.LSTATE_STATE port) ≠ 0 ∧ s.get (F.LSTATE_STATE port) ≠ 4) ∧
    (∃ (s : State) (u : State) (h : Fin 32), s.get (F.HP_STAT_LINK h) ≠ 0 ∧ u = ((((((s.trained h).lowEnd h).lanesDown h).sets [(F.HP_STAT_LINK h,
      0), (F.HP_STAT_WIDTH h, 0), (F.HP_STAT_RATE h, 0), (F.HP_STAT_IDE h, 0)]).ideForget h).sat (F.HP_DOWN_COUNT_COUNT h)).raise (257 + 32 * h)) :=
  ⟨⟨(hub [(F.POWER3_CLK_STAT_ON_PLL, 1)]), 31, by decide +kernel⟩,
    ⟨(hub []), 0, by decide +kernel⟩,
    ⟨(hub []), .mgmt, 0, takes_of (by decide +kernel)⟩,
    ⟨(hub []), .mgmt, 0, ((((hub [])) : State).hpWord ((0) : Fin 32) ((((hub [])) : State).get (F.HP_CTRL_EN ((0) : Fin 32))) + 2), rfl, takes_of
      (by decide +kernel)⟩,
    ⟨(hub [(F.POWER3_CLK_STAT_ON_PLL, 1)]), 15, by decide +kernel⟩,
    ⟨(hub []), .mgmt, 0, (8192 * (((hub [])) : State).get (F.MP_CTRL_L1_EN ((0) : Fin 16)) + 4096 * (((hub [])) : State).get (F.MP_CTRL_L0P_EN ((0) :
      Fin 16)) + 256 * (((hub [])) : State).get (F.MP_CTRL_MAX_WIDTH ((0) : Fin 16)) + 16 * (((hub [])) : State).get (F.MP_CTRL_MAX_RATE ((0) : Fin
      16)) + 4 + (((hub [])) : State).get (F.MP_CTRL_MODE ((0) : Fin 16))), rfl, takes_of (by decide +kernel)⟩,
    ⟨47, by decide +kernel⟩,
    ⟨48, by decide +kernel⟩,
    ⟨(hub [(F.HP_STAT_LINK 0, 2), (F.HP_STAT_RATE 0, 7)]), 0, by decide +kernel⟩,
    ⟨(hub [(F.POWER3_CLK_STAT_ON_PLL, 1)]), _, 31, 1, 1, by decide +kernel, rfl, by decide +kernel⟩,
    ⟨(hub [(F.POWER3_CLK_STAT_ON_PLL, 1)]), _, 31, 0, 1, by decide +kernel, rfl, by decide +kernel⟩,
    ⟨(hub [(F.POWER3_CLK_STAT_ON_PLL, 1), (F.MP_CTRL_MODE 15, 1)]), _, 15, 1, 1, by decide +kernel, rfl, by decide +kernel⟩,
    ⟨(hub [(F.POWER3_CLK_STAT_ON_PLL, 1), (F.MP_CTRL_MODE 15, 2)]), _, 15, 1, 1, by decide +kernel, rfl, by decide +kernel⟩,
    ⟨(hub [(F.MP_STAT_LINK 15, 2)]), 15, by decide +kernel⟩,
    ⟨(hub [(F.LSTATE_STATE 47, 4)]), 47, by decide +kernel⟩,
    ⟨(hub [(F.LSTATE_STATE 47, 1)]), 47, by decide +kernel⟩,
    ⟨(hub [(F.HP_STAT_LINK 31, 2)]), _, 31, by decide +kernel, rfl⟩⟩

theorem wit_BindingCommandsAct :
    (∃ (s : State) (h : Fin 32) (q : Word) (host : BitVec 8) (vdsp : BitVec 8) (src : BitVec 8) (id : BitVec 16) (b : Word) (z : Word) (d : Word) (e
      : Nat), s.runs h q.toNat 0x0100 = true ∧ s.bindErr h host.toNat vdsp.toNat src.toNat id.toNat b.toNat z.toNat d.toNat = some e) ∧
    (∃ (s : State) (h : Fin 32) (q : Word) (host : BitVec 8) (vdsp : BitVec 8) (src : BitVec 8) (id : BitVec 16) (b : Word) (z : Word) (d : Word),
      s.runs h q.toNat 0x0100 = true ∧ s.bindErr h host.toNat vdsp.toNat src.toNat id.toNat b.toNat z.toNat d.toNat = none) ∧
    (∃ (s : State) (h : Fin 32) (q : Word), s.runs h q.toNat 0x0101 = true) ∧
    (∃ (s : State) (h : Fin 32) (d : Fin 16), s.get (F.VDSP_STAT_STATE h d) = 2) ∧
    (∃ (s : State) (h : Fin 32) (q : Word), s.runs h q.toNat 0x0102 = true) ∧
    (∃ (s : State) (h : Fin 32) (q : Word) (f : Fence), s.port.fences.find? (fun f => f.host == h.val && f.seq == q.toNat) = some f ∧ s.fenceWaits f
      = true) ∧
    (∃ (s : State) (h : Fin 32) (q : Word) (f : Fence), s.port.fences.find? (fun f => f.host == h.val && f.seq == q.toNat) = some f ∧ s.fenceWaits f
      = false) ∧
    (∃ (s : State), s.pool.writes = []) ∧
    (∃ (s : State) (h : Fin 32) (d : Fin 16), s.get (F.VDSP_STAT_STATE h d) = 1) ∧
    (∃ (s : State) (h : Fin 32) (q : Word) (host : BitVec 8) (vdsp : BitVec 8) (src : BitVec 8) (id : BitVec 16) (b : Word) (z : Word) (d : Word),
      s.runs h q.toNat 0x0100 = true ∧ s.bindErr h host.toNat vdsp.toNat src.toNat id.toNat b.toNat z.toNat d.toNat = none ∧ s.get (F.LSTATE_STATE
      host.toNat) ≠ 4) ∧
    (∃ (s : State) (h : Fin 32) (q : Word) (host : BitVec 8) (vdsp : BitVec 8) (src : BitVec 8) (id : BitVec 16) (b : Word) (z : Word) (d : Word),
      s.runs h q.toNat 0x0100 = true ∧ s.bindErr h host.toNat vdsp.toNat src.toNat id.toNat b.toNat z.toNat d.toNat = none ∧ s.get (F.LSTATE_STATE
      host.toNat) = 4) ∧
    (∃ (s : State) (h : Fin 32) (d : Fin 16), s.get (F.VDSP_STAT_STATE h d) = 1 ∧ s.shut = false) :=
  ⟨⟨(runCmd (hub []) 0x0100), 0, 0, 0, 0, 0, 0, 0, 0, 0, 1, by decide +kernel⟩,
    ⟨(runCmd { (hub [(F.FM_PATH_REQ, 0), (F.HP_STAT_LINK 0, 2)]) with port := { (hub []).port with found := [⟨32, 0⟩] } } 0x0100), 0, 0, 0, 1, 32, 0,
      0, 0, 0, by decide +kernel⟩,
    ⟨(runCmd (hub []) 0x0101), 0, 0, by decide +kernel⟩,
    ⟨(hub [(F.VDSP_STAT_STATE 0 0, 2)]), 0, 0, by decide +kernel⟩,
    ⟨(runCmd (hub []) 0x0102), 0, 0, by decide +kernel⟩,
    ⟨{ (hub []) with port := { (hub []).port with fences := [⟨0, 0, 0, 0x7F, 0, none⟩], wtrack := [⟨0, 0, 3, 1, 0, 0, 0⟩] } }, 0, 0, ⟨0, 0, 0, 0x7F, 0,
      none⟩, by decide +kernel⟩,
    ⟨{ (hub []) with port := { (hub []).port with fences := [⟨0, 0, 0, 0xFF, 0, none⟩] } }, 0, 0, ⟨0, 0, 0, 0xFF, 0, none⟩, by decide +kernel⟩,
    ⟨(hub []), by decide +kernel⟩,
    ⟨(hub [(F.VDSP_STAT_STATE 0 0, 1)]), 0, 0, by decide +kernel⟩,
    ⟨{ runCmd (hub [(F.FM_PATH_REQ, 0), (F.HP_STAT_LINK 0, 2), (F.HP_CTRL_EN 0, 1)]) 0x0100 with port := { found := [⟨48, 256⟩] } }, 0, 0, 0, 1, 48,
      256, 0, 0, 0, by decide +kernel⟩,
    ⟨{ runCmd (hub [(F.FM_PATH_REQ, 0), (F.HP_STAT_LINK 0, 2), (F.HP_CTRL_EN 0, 1), (F.LSTATE_STATE 0, 4)]) 0x0100 with port := { found := [⟨48,
                                                                                                                                  256⟩] } }, 0, 0, 0,
      1, 48, 256, 0, 0, 0, by decide +kernel⟩,
    ⟨(hub [(F.VDSP_STAT_STATE 31 15, 1)]), 31, 15, by decide +kernel⟩⟩

theorem wit_PllCommandsAct :
    (∃ (s : State) (m : Fin 80) (pll : Fin 2), s.get (pllF m pll) = 0 ∧ (s.pllLost m pll).noPll m = true) ∧
    (∃ (s : State) (m : Fin 80) (pll : Fin 2), s.get (pllF m pll) = 0 ∧ (s.pllLost m pll).noPll m = false) ∧
    (∃ (s : State) (m : Fin 80) (pll : Fin 2), s.get (pllF m pll) = 0 ∧ s.get (pllF m (1 - pll : Nat)) = 0) ∧
    (∃ (s : State) (p : Path) (m : Nat) (v : Nat), m = s.get (F.LW_SEL_MACRO (pathCode p)) ∧ v = 256 * s.get (F.MAC_CTRL_REF_SEL m) + 1 ∧ s.takes p
      0x1220080 v) ∧
    (∃ (s : State) (pll : Fin 2), s.get (clkPllF pll) = 1 ∧ s.get (clkPllF (1 - pll : Nat)) = 0) ∧
    (∃ (s : State) (m : Fin 32) (k : Fin 2), s.noPll m = true ∧ s.get (pllF m k) = 1) ∧
    (∃ (port : Fin 64), port.val < 48) ∧
    (∃ (port : Fin 64), 48 ≤ port.val) ∧
    (∃ (s : State) (m : Fin 81) (pll : Fin 2), m.val < 80 ∧ s.get (pllF m pll) = 1 ∧ s.deepLeaves m = false ∧ s.get (pllF m (1 - pll : Nat)) = 0) ∧
    (∃ (s : State) (m : Fin 81) (pll : Fin 2), m.val < 80 ∧ s.get (pllF m pll) = 1 ∧ s.deepLeaves m = true ∧ s.get (pllF m (1 - pll : Nat)) = 0) ∧
    (∃ (s : State) (m : Fin 81) (pll : Fin 2), m.val < 80 ∧ s.get (pllF m pll) = 1 ∧ s.deepLeaves m = true ∧ s.get (pllF m (1 - pll : Nat)) ≠ 0) ∧
    (∃ (s : State) (m : Fin 32) (k : Fin 2), s.noPll m = true ∧ s.get (pllF m k) = 1 ∧ s.deepLeaves m = false) ∧
    (∃ (s : State) (t : State) (m : Fin 80) (lane : Fin 4), t = s.tapsMove (4 * m.val + lane) ∧ lane.val < macroLanes m ∧ t.atRail (4 * m.val + lane)
      = true ∧ (t.macro m).railed.contains lane.val = false) ∧
    (∃ (s : State) (t : State) (m : Fin 80) (lane : Fin 4), t = s.tapsMove (4 * m.val + lane) ∧ lane.val < macroLanes m ∧ t.atRail (4 * m.val + lane)
      = true ∧ (t.macro m).railed.contains lane.val = true) ∧
    (∃ (s : State) (t : State) (m : Fin 80) (lane : Fin 4), t = s.tapsMove (4 * m.val + lane) ∧ lane.val < macroLanes m ∧ t.atRail (4 * m.val + lane)
      = false) ∧
    (∃ (s : State) (t : State) (port : Fin 64), port.val < 48 ∧ s.link.deepX.contains port.val = true ∧ t = ((((s.mapLinks (fun k =>
      { k with deepX := k.deepX.filter (fun x => x != port.val) })).deepOver port).set (F.LSTATE_TARGET port) 0).showLState port 0)) :=
  ⟨⟨(hub [(F.MAC_STAT_PLL_A 0, 0), (F.MAC_STAT_PLL_B 0, 1)]), 0, 0, by decide +kernel⟩,
    ⟨(hub [(F.MAC_STAT_PLL_A 0, 0), (F.MAC_STAT_PLL_B 0, 0)]), 0, 0, by decide +kernel⟩,
    ⟨(hub [(pllF 0 0, 0), (pllF 0 (1 - 0 : Nat), 0), (F.MAC_STAT_PLL_B 0, 0)]), 0, 0, by decide +kernel⟩,
    ⟨(hub [(F.MAC_STAT_PLL_B 0, 0), (F.MAC_STAT_PLL_A 0, 0)]), .mgmt, ((((hub [(F.MAC_STAT_PLL_B 0, 0), (F.MAC_STAT_PLL_A 0, 0)])) : State).get
      (F.LW_SEL_MACRO (pathCode ((.mgmt) : Path)))), (256 * (((hub [(F.MAC_STAT_PLL_B 0, 0), (F.MAC_STAT_PLL_A 0, 0)])) : State).get
      (F.MAC_CTRL_REF_SEL ((((((hub [(F.MAC_STAT_PLL_B 0, 0), (F.MAC_STAT_PLL_A 0, 0)])) : State).get (F.LW_SEL_MACRO (pathCode ((.mgmt) : Path)))))
      : Nat)) + 1), rfl, rfl, takes_of (by decide +kernel)⟩,
    ⟨(hub [(clkPllF 0, 1), (clkPllF (1 - 0 : Nat), 0)]), 0, by decide +kernel⟩,
    ⟨(hub [(pllF 0 0, 1), (pllF 0 1, 1)]), 0, 0, by decide +kernel⟩,
    ⟨0, by decide +kernel⟩,
    ⟨48, by decide +kernel⟩,
    ⟨(hub [(pllF 0 0, 1), (pllF 0 1, 0)]), 0, 0, by decide +kernel⟩,
    ⟨{ hub [(pllF 0 0, 1), (pllF 0 1, 0)] with link := { deepX := [0] } }, 0, 0, by decide +kernel⟩,
    ⟨{ hub [(pllF 0 0, 1), (pllF 0 1, 1)] with link := { deepX := [0] } }, 0, 0, by decide +kernel⟩,
    ⟨(hub [(pllF 31 0, 1), (pllF 31 1, 1)]), 31, 1, by decide +kernel⟩,
    ⟨(hub [(F.DFE0_TAPS 317, 127), (F.LN_CTRL_FREEZE 317, 1)]), _, 79, 1, rfl, by decide +kernel⟩,
    ⟨((hub [(F.DFE0_TAPS 317, 127), (F.LN_CTRL_FREEZE 317, 1)]).setMacro 79 { railed := [1] }), _, 79, 1, rfl, by decide +kernel⟩,
    ⟨(hub [(F.LN_CTRL_FREEZE 317, 1)]), _, 79, 1, rfl, by decide +kernel⟩,
    ⟨{ hub [] with link := { deepX := [47] } }, _, 47, by decide +kernel, by decide +kernel, rfl⟩⟩

theorem wit_SequencerStepsAct :
    (∃ (s : State) (p : Path) (step : Fin 64), s.takes p 0x122008C (65536 * step.val + 1)) ∧
    (∃ (s : State) (p : Path) (m : Nat) (v : Nat), m = s.get (F.LW_SEL_MACRO (pathCode p)) ∧ v = 65536 * s.get (F.SEQ_CTRL_START_STEP m) + 2 ∧
      s.takes p 0x122008C v) ∧
    (∃ (s : State) (p : Path) (next : Fin 64), s.takes p 0x1220098 (256 * next.val + 1)) ∧
    (∃ (s : State) (m : Fin 80) (x : Nat), s.seqReady m = true ∧ x < 2 ^ 23 ∧ s.seqWord m % 2 ^ 23 = x ∧ s.seqWord m / 2 ^ 27 = 0) ∧
    (∃ (s : State) (m : Fin 80) (x : Nat), s.seqReady m = true ∧ x < 2 ^ 23 ∧ s.seqWord m % 2 ^ 23 = x ∧ s.seqWord m / 2 ^ 27 = 1) ∧
    (∃ (s : State) (m : Fin 80) (x : Nat), s.seqReady m = true ∧ x < 2 ^ 23 ∧ s.seqWord m % 2 ^ 23 = x ∧ s.seqWord m / 2 ^ 27 = 2) ∧
    (∃ (s : State) (m : Fin 80) (x : Nat), s.seqReady m = true ∧ x < 2 ^ 23 ∧ s.seqWord m % 2 ^ 23 = x ∧ s.seqWord m / 2 ^ 27 = 3) ∧
    (∃ (s : State) (m : Fin 80) (x : Nat), s.seqReady m = true ∧ x < 2 ^ 23 ∧ s.seqWord m % 2 ^ 23 = x ∧ s.seqWord m / 2 ^ 27 = 4) ∧
    (∃ (s : State) (m : Fin 80) (x : Nat), s.seqReady m = true ∧ x < 2 ^ 23 ∧ s.seqWord m % 2 ^ 23 = x ∧ s.seqWord m / 2 ^ 27 = 5) ∧
    (∃ (s : State) (m : Fin 80) (x : Nat), s.seqReady m = true ∧ x < 2 ^ 23 ∧ s.seqWord m % 2 ^ 23 = x ∧ s.seqWord m / 2 ^ 27 = 6) ∧
    (∃ (s : State) (m : Fin 80) (x : Nat), s.seqReady m = true ∧ x < 2 ^ 23 ∧ s.seqWord m % 2 ^ 23 = x ∧ s.seqWord m / 2 ^ 27 = 7) ∧
    (∃ (s : State) (m : Fin 80) (x : Nat), s.seqReady m = true ∧ x < 2 ^ 23 ∧ s.seqWord m % 2 ^ 23 = x ∧ s.seqWord m / 2 ^ 27 = 8) ∧
    (∃ (s : State) (m : Fin 80) (x : Nat), s.seqReady m = true ∧ x < 2 ^ 23 ∧ s.seqWord m % 2 ^ 23 = x ∧ s.seqWord m / 2 ^ 27 = 9) ∧
    (∃ (s : State) (m : Fin 80) (x : Nat), s.seqReady m = true ∧ x < 2 ^ 23 ∧ s.seqWord m % 2 ^ 23 = x ∧ s.seqWord m / 2 ^ 27 = 10) ∧
    (∃ (s : State) (m : Fin 80) (x : Nat), s.seqReady m = true ∧ x < 2 ^ 23 ∧ s.seqWord m % 2 ^ 23 = x ∧ 12 ≤ s.seqWord m / 2 ^ 27) ∧
    (∃ (s : State) (m : Fin 80), (s.macro m).wait = .time ∧ (s.macro m).held = false) ∧
    (∃ (s : State) (m : Fin 80), (s.macro m).wait = .cond ∧ (s.macro m).held = false) ∧
    (∃ (s : State) (m : Fin 80) (x : Nat), s.seqReady m = true ∧ x < 2 ^ 23 ∧ s.seqWord m % 2 ^ 23 = x ∧ s.seqWord m / 2 ^ 27 = 2 ∧ m.val < 64) ∧
    (∃ (s : State) (m : Fin 80), (s.macro m).wait = .cond ∧ (s.macro m).held = false ∧ s.condMet m = true) ∧
    (∃ (s : State) (m : Fin 80), (s.macro m).wait = .cond ∧ (s.macro m).held = false ∧ s.condMet m = false) ∧
    (∃ (s : State) (u : State) (m : Fin 80) (x : Nat) (r : Nat), s.seqReady m = true ∧ 64 ≤ m.val ∧ s.seqWord m % 2 ^ 23 = x ∧ r = x % 16 % 4 ∧
      s.seqWord m / 2 ^ 27 = 2 ∧ u = ((s.tapsStop m).sets [(F.MAC_STAT_RATE m, r), (F.DL_STAT_RATE (m.val - 64), r)]).mapTrain (m.val - 64) (fun t =>
      { t with txRate := r })) :=
  ⟨⟨(hub []), .mgmt, 0, takes_of (by decide +kernel)⟩,
    ⟨(hub []), .mgmt, ((((hub [])) : State).get (F.LW_SEL_MACRO (pathCode ((.mgmt) : Path)))), (65536 * (((hub [])) : State).get
      (F.SEQ_CTRL_START_STEP ((((((hub [])) : State).get (F.LW_SEL_MACRO (pathCode ((.mgmt) : Path))))) : Nat)) + 2), rfl, rfl, takes_of
      (by decide +kernel)⟩,
    ⟨(hub []), .mgmt, 0, takes_of (by decide +kernel)⟩,
    ⟨(hub [(F.SEQ_STAT_RUNNING 0, 1), (F.SEQ_STEP_WORD 0, 23757)]), 0, 23757, by decide +kernel⟩,
    ⟨(hub [(F.SEQ_STAT_RUNNING 0, 1), (F.SEQ_STEP_WORD 0, 134249404)]), 0, 31676, by decide +kernel⟩,
    ⟨(hub [(F.SEQ_STAT_RUNNING 0, 1), (F.SEQ_STEP_WORD 0, 268475051)]), 0, 39595, by decide +kernel⟩,
    ⟨(hub [(F.SEQ_STAT_RUNNING 0, 1), (F.SEQ_STEP_WORD 0, 402700698)]), 0, 47514, by decide +kernel⟩,
    ⟨(hub [(F.SEQ_STAT_RUNNING 0, 1), (F.SEQ_STEP_WORD 0, 536926345)]), 0, 55433, by decide +kernel⟩,
    ⟨(hub [(F.SEQ_STAT_RUNNING 0, 1), (F.SEQ_STEP_WORD 0, 671151992)]), 0, 63352, by decide +kernel⟩,
    ⟨(hub [(F.SEQ_STAT_RUNNING 0, 1), (F.SEQ_STEP_WORD 0, 805377639)]), 0, 71271, by decide +kernel⟩,
    ⟨(hub [(F.SEQ_STAT_RUNNING 0, 1), (F.SEQ_STEP_WORD 0, 939603286)]), 0, 79190, by decide +kernel⟩,
    ⟨(hub [(F.SEQ_STAT_RUNNING 0, 1), (F.SEQ_STEP_WORD 0, 1073828933)]), 0, 87109, by decide +kernel⟩,
    ⟨(hub [(F.SEQ_STAT_RUNNING 0, 1), (F.SEQ_STEP_WORD 0, 1208054580)]), 0, 95028, by decide +kernel⟩,
    ⟨(hub [(F.SEQ_STAT_RUNNING 0, 1), (F.SEQ_STEP_WORD 0, 1342280227)]), 0, 102947, by decide +kernel⟩,
    ⟨(hub [(F.SEQ_STAT_RUNNING 0, 1), (F.SEQ_STEP_WORD 0, 1610723602)]), 0, 110866, by decide +kernel⟩,
    ⟨((hub []).setMacro 79 { wait := .time }), 79, by decide +kernel⟩,
    ⟨((hub []).setMacro 0 { wait := .cond }), 0, by decide +kernel⟩,
    ⟨(hub [(F.SEQ_STAT_RUNNING 63, 1), (F.SEQ_STEP_WORD (63 * 256), 2 ^ 28)]), 63, 0, by decide +kernel⟩,
    ⟨((hub []).setMacro 0 { wait := .cond }), 0, by decide +kernel⟩,
    ⟨((hub [(F.SEQ_STEP_WORD 0, 2 ^ 22)]).setMacro 0 { wait := .cond }), 0, by decide +kernel⟩,
    ⟨(hub [(F.SEQ_STAT_RUNNING 79, 1), (F.SEQ_STEP_WORD (79 * 256), 2 ^ 28)]), _, 79, 0, 0, by decide +kernel, by decide +kernel, by decide +kernel,
      by decide +kernel, by decide +kernel, rfl⟩⟩

theorem wit_DjnzCountsDown :
    ∃ (s : State) (m : Fin 80), s.seqReady m = true ∧ s.seqWord m / 2 ^ 27 = 11 :=
  ⟨(hub [(F.SEQ_STAT_RUNNING 0, 1), (F.SEQ_STEP_WORD 0, 1476395013)]), 0, by decide +kernel⟩

theorem wit_TrainingCommandsAct :
    (∃ (s : State) (n : Fin 16), (s.lk n).widen = false) ∧
    (∃ (s : State) (n : Fin 16), (s.lk n).widen = true) ∧
    (∃ (s : State) (p : Path) (n : Fin 16) (lane : Fin 2), s.takes p (0x400060 + 0x10000 * n.val) (2 ^ lane.val)) ∧
    (∃ (s : State) (p : Path) (n : Fin 16), s.takes p (0x400060 + 0x10000 * n.val) 256) ∧
    (∃ (s : State) (n : Fin 16), (s.lk n).train.on = true ∧ s.anyReady n = false ∧ s.get (F.DL_STAT_RATE n) = 0) ∧
    (∃ (s : State) (n : Fin 16), (s.lk n).train.silent = true) ∧
    (∃ (s : State) (n : Fin 16) (lane : Fin 2), (s.lk n).train.on = true ∧ hasBit (s.lk n).train.mask lane = true ∧ (laneOf (s.lk n).train
      lane).stage < 5 ∧ s.anyReady n = true) ∧
    (∃ (s : State) (p : Path) (value : Word) (w : Nat) (v : Nat), w = s.winIndex (pathCode p) 0 .lwLane ∧ v = putBit (putBit value.toNat 31 true) 30
      false ∧ s.takes p 0x122011C v) ∧
    (∃ (s : State) (p : Path) (w : Nat) (v : Nat), w = s.winIndex (pathCode p) 0 .lwLane ∧ v = 2 ^ 30 + s.eyeWord w ∧ s.takes p 0x122011C v ∧ hasBit
      v 30 = true) ∧
    (∃ (s : State) (m : Fin 80) (lane : Fin 4), s.on (F.EYE_STAT_BUSY (4 * m.val + lane)) = true) ∧
    (∃ (s : State) (m : Fin 80) (lane : Fin 4), lane.val < macroLanes m ∧ s.get (F.AUDIT_CFG_PERIOD_MS m) ≠ 0 ∧ s.laneLive m = true) ∧
    (∃ (s : State) (p : Path) (w : Nat) (v : Nat), w = s.winIndex (pathCode p) 0 .lwLane ∧ v = 256 + s.get (F.INJ_CTRL_RATE_LOG2 w) ∧ hasBit v 8 =
      true ∧ s.takes p 0x122013C v) ∧
    (∃ (s : State) (n : Fin 16), (s.lk n).train.on = true ∧ s.anyReady n = false ∧ (s.get (F.DL_STAT_RATE n) ≠ 0 ∨ (s.lk n).train.txRate ≠ 0)) ∧
    (∃ (s : State) (m : Fin 80) (lane : Fin 4) (mism : List Nat), lane.val < macroLanes m ∧ s.get (F.AUDIT_CFG_PERIOD_MS m) ≠ 0 ∧ s.laneLive m = true
      ∧ s.on (F.EYE_STAT_BUSY (4 * m.val + lane)) = false ∧ s.auditAt (4 * m.val + lane) = 0 ∧ mism.length = 8) ∧
    (∃ (s : State) (m : Fin 80) (lane : Fin 4) (mism : List Nat), lane.val < macroLanes m ∧ s.get (F.AUDIT_CFG_PERIOD_MS m) ≠ 0 ∧ s.laneLive m = true
      ∧ s.on (F.EYE_STAT_BUSY (4 * m.val + lane)) = false ∧ s.auditAt (4 * m.val + lane) = 0 ∧ mism = [] ∧ s.get (F.LN_STAT_LOUPE (4 * m.val + lane))
      = 0 ∧ s.on (F.EYE_CTRL_GO (4 * m.val + lane)) = false) ∧
    (∃ (s : State) (t : State) (p : Path) (w : Nat) (v : Nat), w = s.winIndex (pathCode p) 0 .lwLane ∧ v = 256 + s.get (F.INJ_CTRL_RATE_LOG2 w) ∧
      hasBit v 8 = true ∧ s.takes p 0x122013C v ∧ t = s.storeAt (pathCode p) 0x122013C v ∧ t.genDrives w = true ∧ t.get (F.INJ_CTRL_RATE_LOG2 w) =
      s.get (F.INJ_CTRL_RATE_LOG2 w)) ∧
    (∃ (s : State) (m : Fin 80) (lane : Fin 4) (mism : List Nat) (badCal : BitVec 8), lane.val < macroLanes m ∧ s.get (F.AUDIT_CFG_PERIOD_MS m) ≠ 0 ∧
      s.laneLive m = true ∧ s.on (F.EYE_STAT_BUSY (4 * m.val + lane)) = false ∧ s.auditAt (4 * m.val + lane) = 0 ∧ mism.length = 8 ∧ badCal = 0 ∧ (∀
      k : Nat, mism.getD k 0 ≤ s.get (F.AUDIT_CFG_SLICE_LIMIT m)) ∧ s.get (F.LN_STAT_LOUPE (4 * m.val + lane)) ≠ 3 ∧ s.on (F.EYE_CTRL_GO (4 * m.val +
      lane)) = false) :=
  ⟨⟨(hub []), 0, by decide +kernel⟩,
    ⟨((hub []).setLk 0 { widen := true }), 0, by decide +kernel⟩,
    ⟨(hub []), .mgmt, 0, 0, takes_of (by decide +kernel)⟩,
    ⟨(hub []), .mgmt, 0, takes_of (by decide +kernel)⟩,
    ⟨((hub [(F.DL_STAT_RATE 0, 0)]).setLk 0 { train := { on := true } }), 0, by decide +kernel⟩,
    ⟨((hub []).setLk 0 { train := { silent := true } }), 0, by decide +kernel⟩,
    ⟨((hub []).setLk 0 { train := { on := true, mask := 3, l1 := { stage := 5 } } }), 0, 0, by decide +kernel⟩,
    ⟨(hub []), .mgmt, 20, ((((hub [])) : State).winIndex (pathCode ((.mgmt) : Path)) 0 .lwLane), (putBit (putBit ((20) : Word).toNat 31 true) 30
      false), rfl, rfl, takes_of (by decide +kernel)⟩,
    ⟨(hub []), .mgmt, ((((hub [])) : State).winIndex (pathCode ((.mgmt) : Path)) 0 .lwLane), (2 ^ 30 + (((hub [])) : State).eyeWord ((((((hub [])) :
      State).winIndex (pathCode ((.mgmt) : Path)) 0 .lwLane)) : Nat)), rfl, rfl, takes_of (by decide +kernel), by decide +kernel⟩,
    ⟨(hub [(F.EYE_STAT_BUSY 0, 1)]), 0, 0, by decide +kernel⟩,
    ⟨(hub [(F.AUDIT_CFG_PERIOD_MS 0, 1)]), 0, 0, by decide +kernel⟩,
    ⟨(hub []), .mgmt, ((((hub [])) : State).winIndex (pathCode ((.mgmt) : Path)) 0 .lwLane), (256 + (((hub [])) : State).get (F.INJ_CTRL_RATE_LOG2
      ((((((hub [])) : State).winIndex (pathCode ((.mgmt) : Path)) 0 .lwLane)) : Nat))), rfl, rfl, by decide +kernel, takes_of (by decide +kernel)⟩,
    ⟨((hub [(F.DL_STAT_RATE 0, 1)]).setLk 0 { train := { on := true } }), 0, by decide +kernel⟩,
    ⟨(hub [(F.AUDIT_CFG_PERIOD_MS 0, 1)]), 0, 0, [0, 0, 0, 0, 0, 0, 0, 0], by decide +kernel⟩,
    ⟨(hub [(F.AUDIT_CFG_PERIOD_MS 0, 1)]), 0, 0, [], by decide +kernel⟩,
    ⟨genHub, _, .mgmt, _, _, rfl, rfl, by decide +kernel, takes_of (by decide +kernel), rfl, by decide +kernel⟩,
    ⟨(hub [(F.AUDIT_CFG_PERIOD_MS 0, 1)]), 0, 0, List.replicate 8 0, 0, by decide +kernel, by decide +kernel, by decide +kernel, by decide +kernel,
      by decide +kernel, by decide +kernel, by decide +kernel, fun k => (by
      simp only [List.getD_eq_getElem?_getD, List.getElem?_replicate]; split <;> simp), by decide +kernel⟩⟩

theorem wit_FlitsAct :
    (∃ (s : State) (n : Fin 16), s.takesFlits n = true) ∧
    (∃ (s : State) (n : Fin 16) (m : Mir) (l : List Mir), (s.lk n).mirror = m :: l ∧ s.lkState n = 2) ∧
    (∃ (s : State) (n : Fin 16), s.lkState n = 1 ∧ (s.lk n).initRx = false) ∧
    (∃ (s : State) (n : Fin 16), s.lkState n = 2) ∧
    (∃ (s : State) (u : State) (n : Fin 16), u = (((s.epochCheck n false).epochCheck n true).pmPoll n).rtResume n ∧ (s.lk n).widen = false ∧ (s.lk
      n).train.on = false ∧ u.get (F.DL_STAT_STAGE n) = 8 ∧ u.lkState n = 1) ∧
    (∃ (s : State) (u : State) (n : Fin 16), u = (((s.epochCheck n false).epochCheck n true).pmPoll n).rtResume n ∧ (s.lk n).widen = false ∧ (s.lk
      n).train.on = false ∧ u.get (F.DL_STAT_STAGE n) = 8 ∧ u.lkState n ≠ 1 ∧ (u.lk n).resume = true) ∧
    (∃ (s : State) (u : State) (n : Fin 16), s.takesFlits n = true ∧ u = (((s.fresh.2.rxTime n true).sat (F.LK_FEC_CORR_COUNT n) (s.fresh.1 % 4)).sat
      (F.LK_CRC_FAIL_COUNT n)).nak n ∧ 2 * (u.lk n).winFail ≤ u.get (F.LK_LIMITS_CRC_LIMIT n)) ∧
    (∃ (s : State) (n : Fin 16), s.takesFlits n = false) ∧
    (∃ (s : State) (n : Fin 16) (h : FlitHdr), s.takesFlits n = true ∧ fecGood (wireErrs h) = false) ∧
    (∃ (s : State) (v : State) (n : Fin 16) (h : FlitHdr), s.takesFlits n = true ∧ fecGood (wireErrs h) = true ∧ v = s.sat (F.LK_FEC_CORR_COUNT n)
      (rsFixes (wireErrs h)).length ∧ v.takesSeq n = false) ∧
    (∃ (s : State) (v : State) (u : State) (n : Fin 16) (h : FlitHdr), s.takesFlits n = true ∧ fecGood (wireErrs h) = true ∧ v = s.sat
      (F.LK_FEC_CORR_COUNT n) (rsFixes (wireErrs h)).length ∧ v.takesSeq n = true ∧ u = v.rxHead n h false ∧ u.lkState n ≠ 0 ∧ (u.lk n).rtTgt = none)
      ∧
    (∃ (s : State) (v : State) (u : State) (n : Fin 16) (h : FlitHdr) (r : _), s.takesFlits n = true ∧ fecGood (wireErrs h) = true ∧ v = s.sat
      (F.LK_FEC_CORR_COUNT n) (rsFixes (wireErrs h)).length ∧ v.takesSeq n = true ∧ u = v.rxHead n h false ∧ u.lkState n ≠ 0 ∧ (u.lk n).rtTgt = some
      r) ∧
    (∃ (s : State) (v : State) (u : State) (n : Fin 16) (h : FlitHdr), s.takesFlits n = true ∧ fecGood (wireErrs h) = true ∧ v = s.sat
      (F.LK_FEC_CORR_COUNT n) (rsFixes (wireErrs h)).length ∧ v.takesSeq n = true ∧ u = v.rxHead n h false ∧ u.lkState n ≠ 0 ∧ (u.lk n).mirror = []) ∧
    (∃ (s : State) (v : State) (u : State) (n : Fin 16) (h : FlitHdr) (m : Mir) (l : List Mir), s.takesFlits n = true ∧ fecGood (wireErrs h) = true ∧
      v = s.sat (F.LK_FEC_CORR_COUNT n) (rsFixes (wireErrs h)).length ∧ v.takesSeq n = true ∧ u = v.rxHead n h false ∧ u.lkState n ≠ 0 ∧ (u.lk
      n).mirror = m :: l) ∧
    (∃ (s : State) (v : State) (u : State) (n : Fin 16) (h : FlitHdr) (st : BitVec 8), s.takesFlits n = true ∧ fecGood (wireErrs h) = true ∧ v =
      s.sat (F.LK_FEC_CORR_COUNT n) (rsFixes (wireErrs h)).length ∧ v.takesSeq n = true ∧ u = v.rxHead n h false ∧ u.lkState n ≠ 0 ∧ st.toNat ≤ 3) ∧
    (∃ (s : State) (x : State) (u : State) (v : State) (n : Fin 16) (h : FlitHdr) (cls : BitVec 3), s.takesFlits n = true ∧ fecGood (wireErrs h) =
      true ∧ x = s.sat (F.LK_FEC_CORR_COUNT n) (rsFixes (wireErrs h)).length ∧ x.takesSeq n = true ∧ u = x.rxHead n h true ∧ u.lkState n ≠ 0 ∧ 1 ≤
      cls.toNat ∧ cls.toNat ≤ 5 ∧ u.outOfOrder n h.seq.toNat = none ∧ (u.lk n).left.getD (cls.toNat - 1) 0 ≠ 0 ∧ v = u.mapLk n (fun k =>
      { k with left := setAt k.left (cls.toNat - 1) (k.left.getD (cls.toNat - 1) 0 - 1) }) ∧ v.sealed n = false) ∧
    (∃ (s : State) (x : State) (u : State) (v : State) (n : Fin 16) (h : FlitHdr) (cls : BitVec 3), s.takesFlits n = true ∧ fecGood (wireErrs h) =
      true ∧ x = s.sat (F.LK_FEC_CORR_COUNT n) (rsFixes (wireErrs h)).length ∧ x.takesSeq n = true ∧ u = x.rxHead n h true ∧ u.lkState n ≠ 0 ∧ 1 ≤
      cls.toNat ∧ cls.toNat ≤ 5 ∧ u.outOfOrder n h.seq.toNat = none ∧ (u.lk n).left.getD (cls.toNat - 1) 0 ≠ 0 ∧ v = u.mapLk n (fun k =>
      { k with left := setAt k.left (cls.toNat - 1) (k.left.getD (cls.toNat - 1) 0 - 1) }) ∧ v.sealed n = true) ∧
    (∃ (s : State) (x : State) (u : State) (v : State) (n : Fin 16) (h : FlitHdr) (tag : BitVec 128) (c : BitVec 64) (k : BitVec 8) (key : Option
      Nat) (iv : List (BitVec 8)), s.takesFlits n = true ∧ fecGood (wireErrs h) = true ∧ x = s.sat (F.LK_FEC_CORR_COUNT n) (rsFixes (wireErrs
      h)).length ∧ x.takesSeq n = true ∧ u = x.rxHead n h true ∧ u.lkState n ≠ 0 ∧ u.outOfOrder n h.seq.toNat = none ∧ u.sealed n = true ∧ c.toNat =
      (u.lk n).sealRx ∧ key = u.slotKey (u.lk n).crypt.rxSlot ∧ iv = sealIv (u.lk n).crypt.saltRx (u.lk n).sealRx ∧ tag = sealTag key iv (u.lk
      n).staged h.seq.toNat c.toNat k.toNat ∧ v = ((u.acceptSeq n h.seq.toNat true).sat (F.KS_USES_COUNT (u.lk n).crypt.rxSlot)).mapLk n (fun k =>
      { k with staged := [], sealRx := (k.sealRx + 1) % 2 ^ 64 })) ∧
    (∃ (s : State) (v : State) (w : State) (n : Fin 16) (h : FlitHdr) (d : BitVec 16) (enc : Bool) (cr : List (BitVec 16)) (id : BitVec 64),
      s.takesFlits n = true ∧ fecGood (wireErrs h) = true ∧ v = (s.sat (F.LK_FEC_CORR_COUNT n) (rsFixes (wireErrs h)).length).winIn n false ∧
      v.lkState n = 1 ∧ (v.lk n).initRx = false ∧ cr.any (fun c => decide (511 < c.toNat)) = false ∧ 32 ≤ d.toNat ∧ d.toNat ≤ 256 ∧ id.toNat =
      v.get64 (F.LK_PID_LO_ID n) (F.LK_PID_HI_ID n) ∧ w = v.encAgreed n enc ∧ w.lkState n ≠ 0) ∧
    (∃ (s : State) (n : Fin 16), (s.lk n).group ≠ []) ∧
    (∃ (s : State) (n : Fin 16), s.lkState n = 0 ∧ s.on (F.PD_STAT_MODE n) = true ∧ s.get (F.LK_STAT_DOWN_CAUSE n) ≠ 9 ∧ (s.lk n).train.on = false ∧
      (s.lk n).train.silent = false ∧ (s.lk n).train.failed = false ∧ (s.get (pllF (64 + n) 0) % 3 = 0 ∨ s.get (pllF (64 + n) 1) % 3 = 0)) :=
  ⟨⟨(hub [(F.DL_STAT_STAGE 0, 8), (F.LK_STAT_STATE 0, 2)]), 0, by decide +kernel⟩,
    ⟨((hub [(F.DL_STAT_STAGE 0, 8), (F.LK_STAT_STATE 0, 2)]).setLk 0 { mirror := [{ seq := 0, typ := 0, cls := 0, chan := 0, body := [] }] }), 0,
      { seq := 0, typ := 0, cls := 0, chan := 0, body := [] }, [], by decide +kernel⟩,
    ⟨(hub [(F.LK_STAT_STATE 0, 1)]), 0, by decide +kernel⟩,
    ⟨(hub [(F.LK_STAT_STATE 15, 2)]), 15, by decide +kernel⟩,
    ⟨(hub [(F.DL_STAT_STAGE 15, 8), (F.LK_STAT_STATE 15, 1)]), _, 15, rfl, by decide +kernel⟩,
    ⟨((hub [(F.DL_STAT_STAGE 15, 8)]).setLk 15 { resume := true }), _, 15, rfl, by decide +kernel⟩,
    ⟨(hub [(F.DL_STAT_STAGE 15, 8), (F.LK_STAT_STATE 15, 2)]), _, 15, by decide +kernel, rfl, nakWin _ _ _ (by decide +kernel)⟩,
    ⟨(hub []), 15, by decide +kernel⟩,
    ⟨(hub [(F.DL_STAT_STAGE 15, 8), (F.LK_STAT_STATE 15, 2)]), 15, ⟨0, 0, 0, 0, [(0, 1), (3, 1), (6, 1)]⟩, by decide +kernel⟩,
    ⟨(hub [(F.DL_STAT_STAGE 15, 8), (F.LK_STAT_STATE 15, 1)]), _, 15, ⟨0, 0, 0, 0, []⟩, by decide +kernel, by decide +kernel, rfl, by decide +kernel⟩,
    ⟨(hub [(F.DL_STAT_STAGE 15, 8), (F.LK_STAT_STATE 15, 2)]), _, _, 15, ⟨0, 0, 0, 0, []⟩, by decide +kernel, by decide +kernel, rfl,
      by decide +kernel, rfl, by decide +kernel⟩,
    ⟨((hub [(F.DL_STAT_STAGE 15, 8), (F.LK_STAT_STATE 15, 2)]).setLk 15 { rtTgt := some (0, 3) }), _, _, 15, ⟨0, 0, 0, 0, []⟩, (0, 3),
      by decide +kernel, by decide +kernel, rfl, by decide +kernel, rfl, by decide +kernel⟩,
    ⟨(hub [(F.DL_STAT_STAGE 15, 8), (F.LK_STAT_STATE 15, 2)]), _, _, 15, ⟨0, 0, 0, 0, []⟩, by decide +kernel, by decide +kernel, rfl,
      by decide +kernel, rfl, by decide +kernel⟩,
    ⟨((hub [(F.DL_STAT_STAGE 15, 8), (F.LK_STAT_STATE 15, 2)]).setLk 15 { mirror := [{ seq := 1, typ := 0, cls := 0, chan := 0, body := [] }] }), _,
      _, 15, ⟨0, 4095, 0, 0, []⟩, { seq := 1, typ := 0, cls := 0, chan := 0, body := [] }, [], by decide +kernel, by decide +kernel, rfl,
      by decide +kernel, rfl, by decide +kernel⟩,
    ⟨(hub [(F.DL_STAT_STAGE 15, 8), (F.LK_STAT_STATE 15, 2)]), _, _, 15, ⟨0, 0, 0, 0, []⟩, 3, by decide +kernel, by decide +kernel, rfl,
      by decide +kernel, rfl, by decide +kernel⟩,
    ⟨((hub [(F.DL_STAT_STAGE 15, 8), (F.LK_STAT_STATE 15, 2)]).setLk 15 { left := [1, 1, 1, 1, 1] }), _, _, _, 15, ⟨0, 0, 0, 0, []⟩, 5,
      by decide +kernel, by decide +kernel, rfl, by decide +kernel, rfl, by decide +kernel, by decide +kernel, by decide +kernel, by decide +kernel,
      by decide +kernel, rfl, by decide +kernel⟩,
    ⟨((hub [(F.DL_STAT_STAGE 15, 8), (F.LK_STAT_STATE 15, 2), (F.LK_STAT_ENC 15, 1)]).setLk 15 { left := [1, 1, 1, 1, 1] }), _, _, _, 15, ⟨0, 0, 0,
      0, []⟩, 5, by decide +kernel, by decide +kernel, rfl, by decide +kernel, rfl, by decide +kernel, by decide +kernel, by decide +kernel,
      by decide +kernel, by decide +kernel, rfl, by decide +kernel⟩,
    ⟨(hub [(F.DL_STAT_STAGE 15, 8), (F.LK_STAT_STATE 15, 2), (F.LK_STAT_ENC 15, 1)]), _, _, _, 15, ⟨0, 0, 0, 0, []⟩, _, 0, 0, _, _,
      by decide +kernel, by decide +kernel, rfl, by decide +kernel, rfl, by decide +kernel, by decide +kernel, by decide +kernel, by decide +kernel,
      rfl, rfl, rfl, rfl⟩,
    ⟨(hub [(F.DL_STAT_STAGE 15, 8), (F.LK_STAT_STATE 15, 1)]), _, _, 15, ⟨0, 0, 0, 0, []⟩, 256, false, [0, 0, 0, 0, 0], 0, by decide +kernel,
      by decide +kernel, rfl, by decide +kernel, by decide +kernel, by decide +kernel, by decide +kernel, by decide +kernel, by decide +kernel, rfl,
      by decide +kernel⟩,
    ⟨((hub []).setLk 0 { group := [⟨0, 1, 0, false, []⟩] }), 0, by decide +kernel⟩,
    ⟨(hub [(F.PD_STAT_MODE 0, 1), (pllF 64 0, 0), (pllF 64 1, 1)]), 0, by decide +kernel⟩⟩

theorem wit_LinkMessagesAct :
    (∃ (s : State) (p : Path) (n : Fin 16) (rate : BitVec 2) (mask : BitVec 2) (v : Nat), v = 256 * rate.toNat + 16 * mask.toNat + 1 ∧ s.takes p
      (0x401064 + 0x10000 * n.val) v) ∧
    (∃ (s : State) (p : Path) (n : Fin 16), s.takes p (0x401064 + 0x10000 * n.val) 2) ∧
    (∃ (s : State) (n : Fin 16), 2 ≤ s.lkState n) ∧
    (∃ (s : State) (n : Fin 16) (code : BitVec 8), 2 ≤ s.lkState n ∧ code ≠ 0x10 ∧ code ≠ 0x11) ∧
    (∃ (s : State) (n : Fin 16) (q : RtReq), (s.lk n).rtReq = some q ∧ 3 ≤ q.reps) ∧
    (∃ (s : State) (n : Fin 16) (q : RtReq) (num : Nat), (s.lk n).rtReq = some q ∧ q.reps < 3 ∧ num = ((s.lk n).rtNum + 1) % 256) ∧
    (∃ (s : State) (n : Fin 16), s.lkState n = 2 ∧ s.on (F.LK_CTRL_ECHO_EN n) = true) ∧
    (∃ (s : State) (p : Path) (n : Fin 16), s.takes p (0x40304C + 0x10000 * n.val) 1) ∧
    (∃ (s : State) (p : Path) (n : Fin 16) (w : Nat) (t : State), s.takes p (0x40304C + 0x10000 * n.val) 2 ∧ w = s.winIndex (pathCode p) n .chSel ∧ t
      = s.storeAt (pathCode p) (0x40304C + 0x10000 * n.val) 2) ∧
    (∃ (s : State) (n : Fin 16) (rx : Bool), 2 ≤ s.lkState n ∧ (dirOf (s.lk n) rx).pend = none ∧ (dirOf (s.lk n) rx).dirty = true ∧ (dirOf (s.lk n)
      rx).sent ≠ some (s.epoch n rx) ∧ s.orphan n = false) ∧
    (∃ (s : State) (n : Fin 16) (cls : BitVec 8) (idx : BitVec 8) (gen : BitVec 8) (w : Nat), 2 ≤ s.lkState n ∧ 1 ≤ cls.toNat ∧ cls.toNat ≤ 4 ∧
      idx.toNat < 32 ∧ w = chW cls.toNat idx.toNat ∧ s.chState n w = 1 ∧ s.chGen n w = gen.toNat % 16) ∧
    (∃ (s : State) (n : Fin 16) (num : BitVec 8) (rx : Bool) (a : Allot), 2 ≤ s.lkState n ∧ (dirOf (s.lk n) rx).pend = some a ∧ a.num = num.toNat) ∧
    (∃ (s : State) (n : Fin 16) (num : BitVec 8) (rx : Bool) (a : Allot), 2 ≤ s.lkState n ∧ (dirOf (s.lk n) rx).pend = some a ∧ a.num = num.toNat ∧
      a.epoch.isSome = true) ∧
    (∃ (s : State) (n : Fin 16) (q : RtReq) (num : Nat) (t : State), (s.lk n).rtReq = some q ∧ q.reps < 3 ∧ num = ((s.lk n).rtNum + 1) % 256 ∧ t =
      (s.mapLk n (fun k => { k with rtNum := num, rtReq := some { q with num := num, reps := q.reps + 1 } })).declare n) ∧
    (∃ (s : State) (n : Fin 16) (q : Nat) (t1 : Nat), (s.lk n).echoOut = some (q, t1) ∧ t1 + 10000 ≤ s.now) ∧
    (∃ (s : State) (n : Fin 16) (q : Nat) (t1 : Nat), (s.lk n).echoOut = some (q, t1) ∧ s.now < t1 + 10000) :=
  ⟨⟨(hub []), .mgmt, 0, 0, 1, (256 * ((0) : BitVec 2).toNat + 16 * ((1) : BitVec 2).toNat + 1), rfl, takes_of (by decide +kernel)⟩,
    ⟨(hub []), .mgmt, 0, takes_of (by decide +kernel)⟩,
    ⟨(hub [(F.LK_STAT_STATE 0, 2), (F.LK_CTRL_ECHO_EN 0, 1)]), 0, by decide +kernel⟩,
    ⟨(hub [(F.LK_STAT_STATE 0, 2), (F.LK_CTRL_ECHO_EN 0, 1)]), 0, 0, by decide +kernel⟩,
    ⟨((hub []).setLk 0 { rtReq := some ⟨0, 0, 0, 0, 3⟩ }), 0, ⟨0, 0, 0, 0, 3⟩, by decide +kernel⟩,
    ⟨((hub []).setLk 0 { rtReq := some ⟨0, 0, 0, 0, 2⟩ }), 0, ⟨0, 0, 0, 0, 2⟩, 1, by decide +kernel⟩,
    ⟨(hub [(F.LK_STAT_STATE 0, 2), (F.LK_CTRL_ECHO_EN 0, 1)]), 0, by decide +kernel⟩,
    ⟨(hub [(F.LK_STAT_STATE 0, 2)]), .mgmt, 0, takes_of (by decide +kernel)⟩,
    ⟨(hub [(F.CH_INFO_STATE 0 32, 1)]), .mgmt, 0, ((((hub [(F.CH_INFO_STATE 0 32, 1)])) : State).winIndex (pathCode ((.mgmt) : Path)) ((0) : Fin 16)
      .chSel), ((((hub [(F.CH_INFO_STATE 0 32, 1)])) : State).storeAt (pathCode ((.mgmt) : Path)) (0x40304C + 0x10000 * ((0) : Fin 16).val) 2),
      takes_of (by decide +kernel), rfl, rfl⟩,
    ⟨((hub [(F.LK_STAT_STATE 15, 2)]).setLk 15 { tx := { dirty := true } }), 15, false, by decide +kernel⟩,
    ⟨(hub [(F.LK_STAT_STATE 15, 2), (F.CH_INFO_STATE 15 (chW 4 31), 1)]), 15, 4, 31, 0, _, by decide +kernel, by decide +kernel, by decide +kernel,
      by decide +kernel, rfl, by decide +kernel⟩,
    ⟨((hub [(F.LK_STAT_STATE 15, 2)]).setLk 15 { tx := { pend := some { num := 1, epoch := some 0, map := [], be := 0 } } }), 15, 1, false,
      { num := 1, epoch := some 0, map := [], be := 0 }, by decide +kernel⟩,
    ⟨((hub [(F.LK_STAT_STATE 15, 2)]).setLk 15 { tx := { pend := some { num := 1, epoch := some 0, map := [], be := 0 } } }), 15, 1, false,
      { num := 1, epoch := some 0, map := [], be := 0 }, by decide +kernel⟩,
    ⟨((hub []).setLk 15 { rtReq := some ⟨0, 0, 3, 0, 2⟩ }), 15, ⟨0, 0, 3, 0, 2⟩, 1, _, by decide +kernel, by decide +kernel, by decide +kernel, rfl⟩,
    ⟨((at40 []).setLk 15 { echoOut := some (1, 0) }), 15, 1, 0, by decide +kernel⟩,
    ⟨((hub []).setLk 15 { echoOut := some (1, 0) }), 15, 1, 0, by decide +kernel⟩⟩

theorem wit_TlpsFollowTheirChannel :
    (∃ (s : State) (n : Fin 16) (chan : BitVec 16), s.shut = false ∧ (s.chState n (chW 1 (chan.toNat % 32)) ≠ 1 ∨ s.get (F.CH_INFO_WORD n (chW 1
      (chan.toNat % 32))) ≠ chan.toNat)) ∧
    (∃ (s : State) (n : Fin 16) (chan : BitVec 16) (x : Nat) (h : Nat) (d : Nat), s.shut = false ∧ s.chState n (chW 1 (chan.toNat % 32)) = 1 ∧ s.get
      (F.CH_INFO_WORD n (chW 1 (chan.toNat % 32))) = chan.toNat ∧ s.chFn n chan.toNat = some (x, h, d)) ∧
    (∃ (s : State) (n : Fin 16) (chan : BitVec 16) (x : Nat) (h : Nat) (d : Nat) (b : List (BitVec 8)), s.shut = false ∧ s.chState n (chW 1
      (chan.toNat % 32)) = 1 ∧ s.get (F.CH_INFO_WORD n (chW 1 (chan.toNat % 32))) = chan.toNat ∧ s.chFn n chan.toNat = some (x, h, d) ∧ b.length ≤
      512) ∧
    (∃ (s : State) (n : Fin 16) (chan : BitVec 16) (x : Nat) (h : Nat) (d : Nat) (b : List (BitVec 8)), s.shut = false ∧ s.chState n (chW 1
      (chan.toNat % 32)) = 1 ∧ s.get (F.CH_INFO_WORD n (chW 1 (chan.toNat % 32))) = chan.toNat ∧ s.chFn n chan.toNat = some (x, h, d) ∧ 512 <
      b.length) ∧
    (∃ (s : State) (n : Fin 16) (chan : BitVec 16) (x : Nat) (h : Nat) (d : Nat) (b : List (BitVec 8)), s.shut = false ∧ s.chState n (chW 1
      (chan.toNat % 32)) = 1 ∧ s.get (F.CH_INFO_WORD n (chW 1 (chan.toNat % 32))) = chan.toNat ∧ s.chFn n chan.toNat = some (x, h, d) ∧ b.length ≤
      576) ∧
    (∃ (s : State) (n : Fin 16) (chan : BitVec 16) (w : Nat), w = chW 1 (chan.toNat % 32) ∧ s.get (F.CH_INFO_WORD n w) = chan.toNat) ∧
    (∃ (s : State) (n : Fin 16) (chan : BitVec 16) (w : Nat), w = chW 1 (chan.toNat % 32) ∧ s.get (F.CH_INFO_WORD n w) ≠ chan.toNat) ∧
    (∃ (s : State) (n : Fin 16) (chan : BitVec 16) (w : Nat), w = chW 1 (chan.toNat % 32) ∧ s.shut = false ∧ s.chState n w = 1 ∧ s.get
      (F.CH_INFO_WORD n w) = chan.toNat ∧ (s.lk n).scans.contains w = true) ∧
    (∃ (s : State) (n : Fin 16) (chan : BitVec 16) (w : Nat), w = chW 1 (chan.toNat % 32) ∧ s.shut = false ∧ s.chState n w = 1 ∧ s.get
      (F.CH_INFO_WORD n w) = chan.toNat ∧ (s.lk n).scans.contains w = false) :=
  ⟨⟨(hub []), 0, 0, by decide +kernel⟩,
    ⟨{ (hub [(F.CH_INFO_STATE 0 (chW 1 0), 1), (F.CH_INFO_WORD 0 (chW 1 0), 256), (F.VDSP_SRC_PORT 0 0, 48), (F.VDSP_SRC_ID 0 0,
       256)]) with port := { (hub []).port with slots := [(0, { bound := some (0, 0) })] } }, 0, 256, 0, 0, 0, by decide +kernel⟩,
    ⟨{ (hub [(F.CH_INFO_STATE 0 (chW 1 0), 1), (F.CH_INFO_WORD 0 (chW 1 0), 256), (F.VDSP_SRC_PORT 0 0, 48), (F.VDSP_SRC_ID 0 0,
       256)]) with port := { (hub []).port with slots := [(0, { bound := some (0, 0) })] } }, 0, 256, 0, 0, 0, List.replicate 512 0,
      by decide +kernel⟩,
    ⟨{ (hub [(F.CH_INFO_STATE 0 (chW 1 0), 1), (F.CH_INFO_WORD 0 (chW 1 0), 256), (F.VDSP_SRC_PORT 0 0, 48), (F.VDSP_SRC_ID 0 0,
       256)]) with port := { (hub []).port with slots := [(0, { bound := some (0, 0) })] } }, 0, 256, 0, 0, 0, List.replicate 513 0,
      by decide +kernel⟩,
    ⟨{ (hub [(F.CH_INFO_STATE 0 (chW 1 0), 1), (F.CH_INFO_WORD 0 (chW 1 0), 256), (F.VDSP_SRC_PORT 0 0, 48), (F.VDSP_SRC_ID 0 0,
       256)]) with port := { (hub []).port with slots := [(0, { bound := some (0, 0) })] } }, 0, 256, 0, 0, 0, List.replicate 576 0,
      by decide +kernel⟩,
    ⟨(hub [(F.CH_INFO_STATE 0 (chW 1 0), 1), (F.CH_INFO_WORD 0 (chW 1 0), 256)]), 0, 256, _, rfl, by decide +kernel⟩,
    ⟨(hub [(F.CH_INFO_STATE 0 (chW 1 0), 1), (F.CH_INFO_WORD 0 (chW 1 0), 256)]), 0, 512, _, rfl, by decide +kernel⟩,
    ⟨((hub [(F.CH_INFO_STATE 0 (chW 1 0), 1), (F.CH_INFO_WORD 0 (chW 1 0), 256)]).setLk 0 { scans := [chW 1 0] }), 0, 256, _, rfl, by decide +kernel⟩,
    ⟨(hub [(F.CH_INFO_STATE 0 (chW 1 0), 1), (F.CH_INFO_WORD 0 (chW 1 0), 256)]), 0, 256, _, rfl, by decide +kernel⟩⟩

theorem wit_EthernetAndSidebandAct :
    (∃ (s : State) (port : Fin 544), s.fwdUp port = true) ∧
    (∃ (s : State) (h : Fin 32) (q : Word), s.runs h q.toNat 0x0110 = true ∧ s.get F.FM_PATH_REQ ≠ h) ∧
    (∃ (s : State) (h : Fin 32) (q : Word) (port : BitVec 16) (dom : BitVec 8), s.runs h q.toNat 0x0110 = true ∧ s.get F.FM_PATH_REQ = h ∧ ((544 ≤
      port.toNat ∨ 16 ≤ dom.toNat))) ∧
    (∃ (s : State) (h : Fin 32) (q : Word) (port : BitVec 16) (dom : BitVec 8), s.runs h q.toNat 0x0110 = true ∧ s.get F.FM_PATH_REQ = h ∧ port.toNat
      < 544 ∧ dom.toNat < 16) ∧
    (∃ (s : State) (h : Fin 32) (q : Word) (dom : BitVec 8), s.runs h q.toNat 0x0111 = true ∧ s.get F.FM_PATH_REQ = h ∧ ((dom.toNat < 16 ∨ dom.toNat
      = 255))) ∧
    (∃ (s : State) (n : Fin 16), s.on (F.SBU_CTRL_EN n) = true ∧ s.on (F.PD_STAT_MODE n) = true) ∧
    (∃ (s : State) (n : Fin 16) (p : SbuPkt) (l : List SbuPkt), (s.lk n).sbuOut = true ∧ (s.lk n).sbuQ = p :: l ∧ (s.lk n).sbuReps < s.get
      (F.SBU_CTRL_RETRY n)) ∧
    (∃ (s : State) (n : Fin 16) (p : SbuPkt) (l : List SbuPkt), (s.lk n).sbuOut = true ∧ (s.lk n).sbuQ = p :: l ∧ s.get (F.SBU_CTRL_RETRY n) ≤ (s.lk
      n).sbuReps ∧ s.on (F.SBU_STAT_UP n) = true) ∧
    (∃ (s : State) (port : Fin 544) (b : List (BitVec 8)), s.fwdUp port = true ∧ 14 ≤ b.length ∧ b.length ≤ 9216 ∧ s.ptpTaken port b = false) ∧
    (∃ (s : State) (u : State) (port : Fin 544) (b : List (BitVec 8)) (e : FwdEntry), (s.fwdPort port).block = false ∧ (b.getD 0 0).toNat % 2 = 0 ∧ u
      = s.fwdLearn port b ∧ u.link.fwd.find? (fun e => e.mac == macAt b 0 && e.vid == outerVid b && e.dom == (s.fwdPort port).dom) = some e ∧ e.port
      ≠ port.val ∧ (u.fwdPort e.port).block = false ∧ u.fwdUp e.port = true) ∧
    (∃ (v : Bool) (r : Bool) (d : DriverSetup) (feats : Nat), feats = Nat.land doorOffers (putBit (putBit d.others.toNat 32 v) 34 r)) ∧
    (∃ (s : State) (n : Fin 16) (q : BitVec 8), s.on (F.SBU_CTRL_EN n) = true ∧ s.on (F.PD_STAT_MODE n) = true ∧ (s.lk n).sbuSeen = some q.toNat) ∧
    (∃ (s : State) (n : Fin 16) (q : BitVec 8), s.on (F.SBU_CTRL_EN n) = true ∧ s.on (F.PD_STAT_MODE n) = true ∧ (s.lk n).sbuSeen ≠ some q.toNat) ∧
    (∃ (s : State) (n : Fin 16), (s.on (F.SBU_CTRL_EN n) = false ∨ s.on (F.PD_STAT_MODE n) = false)) ∧
    (∃ (s : State) (n : Fin 16) (q : BitVec 8), s.on (F.SBU_CTRL_EN n) = true ∧ s.on (F.PD_STAT_MODE n) = true ∧ s.on (F.SBU_STAT_UP n) = true ∧
      (s.lk n).sbuOut = true ∧ s.get (F.SBU_STAT_TX_SEQ n) = q.toNat) :=
  ⟨⟨(hub [(F.CH_INFO_STATE 15 (chW 2 31), 1), (F.LK_STAT_STATE 15, 2)]), 511, by decide +kernel⟩,
    ⟨(runCmd (hub []) 0x0110), 0, 0, by decide +kernel⟩,
    ⟨(runCmd (hub [(F.FM_PATH_REQ, 0)]) 0x0110), 0, 0, 0, 16, by decide +kernel⟩,
    ⟨(runCmd (hub [(F.FM_PATH_REQ, 0)]) 0x0110), 0, 0, 543, 15, by decide +kernel⟩,
    ⟨(runCmd (hub [(F.FM_PATH_REQ, 0)]) 0x0111), 0, 0, 255, by decide +kernel⟩,
    ⟨(hub [(F.SBU_CTRL_EN 0, 1), (F.PD_STAT_MODE 0, 1)]), 0, by decide +kernel⟩,
    ⟨((hub [(F.SBU_CTRL_RETRY 0, 3)]).setLk 0 { sbuOut := true, sbuQ := [⟨1, []⟩], sbuReps := 2 }), 0, ⟨1, []⟩, [], by decide +kernel⟩,
    ⟨((hub [(F.SBU_CTRL_RETRY 0, 3), (F.SBU_STAT_UP 0, 1)]).setLk 0 { sbuOut := true, sbuQ := [⟨1, []⟩], sbuReps := 3 }), 0, ⟨1, []⟩, [],
      by decide +kernel⟩,
    ⟨ethHub, 0, List.replicate 14 0, by decide +kernel⟩,
    ⟨ethHub, _, 0, List.replicate 6 0 ++ List.replicate 8 1, ⟨0, 0, 0, 1⟩, by decide +kernel, by decide +kernel, rfl, by decide +kernel⟩,
    ⟨true, true, ⟨2 ^ 22, 8⟩, _, rfl⟩,
    ⟨((hub [(F.SBU_CTRL_EN 0, 1), (F.PD_STAT_MODE 0, 1)]).setLk 0 { sbuSeen := some 3 }), 0, 3, by decide +kernel⟩,
    ⟨(hub [(F.SBU_CTRL_EN 0, 1), (F.PD_STAT_MODE 0, 1)]), 0, 0, by decide +kernel⟩,
    ⟨(hub []), 0, by decide +kernel⟩,
    ⟨((hub [(F.SBU_CTRL_EN 15, 1), (F.PD_STAT_MODE 15, 1), (F.SBU_STAT_UP 15, 1)]).setLk 15 { sbuOut := true }), 15, 0, by decide +kernel⟩⟩

theorem wit_PdContractsAct :
    (∃ (s : State) (n : Fin 16), s.on (F.PD_STAT_ATTACHED n) = false ∧ s.on (F.PD_CTRL_EN n) = true ∧ (s.pd n).errRec = false ∧ (s.pd n).role = 1 ∧
      (s.pd n).trySrc = false) ∧
    (∃ (s : State) (n : Fin 16), s.on (F.PD_STAT_ATTACHED n) = false ∧ s.on (F.PD_CTRL_EN n) = true ∧ (s.pd n).errRec = false ∧ (s.pd n).trySrc =
      true) ∧
    (∃ (s : State) (n : Fin 16), (s.pd n).errRec = true) ∧
    (∃ (s : State) (n : Fin 16), s.on (F.PD_STAT_ATTACHED n) = true) ∧
    (∃ (s : State) (n : Fin 16), s.on (F.PD_STAT_ATTACHED n) = true ∧ s.on (F.PD_STAT_EPR n) = true) ∧
    (∃ (s : State) (n : Fin 16), s.on (F.PD_STAT_ATTACHED n) = true ∧ s.pdSource n = false) ∧
    (∃ (s : State) (n : Fin 16), s.on (F.PD_STAT_ATTACHED n) = true ∧ s.pdSource n = true ∧ (s.pd n).seq = .idle) ∧
    (∃ (s : State) (n : Fin 16), s.on (F.PD_STAT_ATTACHED n) = true ∧ (s.pd n).seq ≠ .getSink) ∧
    (∃ (s : State) (n : Fin 16), s.on (F.PD_STAT_ATTACHED n) = true ∧ s.pdSink n = true) ∧
    (∃ (s : State) (n : Fin 16) (m : PdMsg) (k : Nat) (l : List (PdMsg × Nat)), s.on (F.PD_STAT_ATTACHED n) = true ∧ (s.pd n).unacked = (m, k) :: l ∧
      m.kind = .sourceCaps ∧ (s.pd n).seq = .caps ∧ (s.pd n).caps < 50) ∧
    (∃ (s : State) (n : Fin 16) (m : PdMsg) (k : Nat) (l : List (PdMsg × Nat)), s.on (F.PD_STAT_ATTACHED n) = true ∧ (s.pd n).unacked = (m, k) :: l ∧
      k < 2) ∧
    (∃ (s : State) (n : Fin 16), s.on (F.PD_STAT_ATTACHED n) = true ∧ (s.pd n).seq = .cable) ∧
    (∃ (s : State) (n : Fin 16), s.on (F.PD_STAT_ATTACHED n) = true ∧ s.on (F.PD_STAT_VCONN_ON n) = true ∧ (s.pd n).seq ≠ .cable) ∧
    (∃ (s : State) (n : Fin 16), s.on (F.PD_STAT_ATTACHED n) = true ∧ (s.pd n).seq = .snkTrans) ∧
    (∃ (s : State) (n : Fin 16), s.on (F.PD_STAT_ATTACHED n) = true ∧ (s.pd n).seq = .hardRst 1) ∧
    (∃ (s : State) (p : Path) (n : Fin 16) (v : Word), s.takes p (pdAddr n 0x48) v.toNat) ∧
    (∃ (s : State) (p : Path) (n : Fin 16) (v : Nat), v = 128 * s.get (F.PD_CTRL_PRS_ACCEPT n) + 64 * s.get (F.PD_CTRL_UP n) + 32 * s.get
      (F.PD_CTRL_MODE_EN n) + 16 * s.get (F.PD_CTRL_DR_ACCEPT n) + 8 * s.get (F.PD_CTRL_EPR_EN n) + 2 * s.get (F.PD_CTRL_ROLE_DEFAULT n) ∧ s.takes p
      (pdAddr n 0x40) v) ∧
    (∃ (s : State) (u : State) (n : Fin 16), u = s.wakeBy 4 ∧ u.on (F.PD_STAT_ATTACHED n) = false ∧ u.on (F.PD_CTRL_EN n) = true ∧ (u.pd n).errRec =
      false ∧ (u.pd n).needSafe = false ∧ u.on (F.VB_STAT_LOCKOUT n) = false ∧ u.pow.busHeld = false ∧ (u.pd n).role ≠ 1) ∧
    (∃ (s : State) (n : Fin 16) (rdo : _) (pdo : _), s.on (F.PD_STAT_ATTACHED n) = true ∧ (s.pd n).seq = .accepted rdo pdo) ∧
    (∃ (s : State) (u : State), s.gov.nSum ≠ 0 ∧ u = s.set F.P_DIE_AVG_MW (s.gov.sumMw / s.gov.nSum)) ∧
    (∃ (s : State) (n : Fin 16), s.on (F.PD_STAT_ATTACHED n) = true ∧ s.pdSource n = true ∧ ((s.pd n).seq = .idle ∨ (s.pd n).seq = .caps) ∧ s.on
      (F.PD_STAT_CONTRACT n) = true ∧ s.on (F.PD_STAT_EPR n) = false ∧ s.eprOk n = true) ∧
    (∃ (s : State) (n : Fin 16), s.on (F.PD_STAT_ATTACHED n) = true ∧ s.pdSource n = true ∧ ((s.pd n).seq = .idle ∨ (s.pd n).seq = .caps) ∧ s.on
      (F.PD_STAT_EPR n) = true) :=
  ⟨⟨((hub [(F.PD_STAT_ATTACHED 0, 0), (F.PD_CTRL_EN 0, 1)]).setPd 0 { role := 1 }), 0, by decide +kernel⟩,
    ⟨((hub [(F.PD_STAT_ATTACHED 0, 0), (F.PD_CTRL_EN 0, 1)]).setPd 0 { trySrc := true }), 0, by decide +kernel⟩,
    ⟨((hub []).setPd 0 { errRec := true }), 0, by decide +kernel⟩,
    ⟨(hub [(F.PD_STAT_ATTACHED 0, 1)]), 0, by decide +kernel⟩,
    ⟨(hub [(F.PD_STAT_ATTACHED 0, 1), (F.PD_STAT_EPR 0, 1)]), 0, by decide +kernel⟩,
    ⟨(hub [(F.PD_STAT_ATTACHED 0, 1), (F.PD_STAT_POWER_ROLE 0, 1)]), 0, by decide +kernel⟩,
    ⟨(hub [(F.PD_STAT_ATTACHED 0, 1)]), 0, by decide +kernel⟩,
    ⟨(hub [(F.PD_STAT_ATTACHED 0, 1)]), 0, by decide +kernel⟩,
    ⟨(hub [(F.PD_STAT_ATTACHED 0, 1), (F.PD_STAT_POWER_ROLE 0, 1)]), 0, by decide +kernel⟩,
    ⟨((hub [(F.PD_STAT_ATTACHED 0, 1)]).setPd 0 { unacked := [(⟨false, .sourceCaps, []⟩, 2)], seq := .caps, caps := 49 }), 0, ⟨false, .sourceCaps,
      []⟩, 2, [], by decide +kernel⟩,
    ⟨((hub [(F.PD_STAT_ATTACHED 0, 1)]).setPd 0 { unacked := [(⟨false, .sourceCaps, []⟩, 1)] }), 0, ⟨false, .sourceCaps, []⟩, 1, [],
      by decide +kernel⟩,
    ⟨((hub [(F.PD_STAT_ATTACHED 0, 1)]).setPd 0 { seq := .cable }), 0, by decide +kernel⟩,
    ⟨(hub [(F.PD_STAT_ATTACHED 0, 1), (F.PD_STAT_VCONN_ON 0, 1)]), 0, by decide +kernel⟩,
    ⟨((hub [(F.PD_STAT_ATTACHED 0, 1)]).setPd 0 { seq := .snkTrans }), 0, by decide +kernel⟩,
    ⟨((hub [(F.PD_STAT_ATTACHED 0, 1)]).setPd 0 { seq := .hardRst 1 }), 0, by decide +kernel⟩,
    ⟨(hub []), .mgmt, 0, 240, takes_of (by decide +kernel)⟩,
    ⟨(hub []), .mgmt, 0, (128 * (((hub [])) : State).get (F.PD_CTRL_PRS_ACCEPT ((0) : Fin 16)) + 64 * (((hub [])) : State).get (F.PD_CTRL_UP ((0) :
      Fin 16)) + 32 * (((hub [])) : State).get (F.PD_CTRL_MODE_EN ((0) : Fin 16)) + 16 * (((hub [])) : State).get (F.PD_CTRL_DR_ACCEPT ((0) : Fin
      16)) + 8 * (((hub [])) : State).get (F.PD_CTRL_EPR_EN ((0) : Fin 16)) + 2 * (((hub [])) : State).get (F.PD_CTRL_ROLE_DEFAULT ((0) : Fin 16))),
      rfl, takes_of (by decide +kernel)⟩,
    ⟨(hub [(F.PD_CTRL_EN 15, 1)]), _, 15, rfl, by decide +kernel⟩,
    ⟨((hub [(F.PD_STAT_ATTACHED 15, 1)]).setPd 15 { seq := .accepted 0 0 }), 15, 0, 0, by decide +kernel⟩,
    ⟨{ hub [] with gov := { nSum := 1 } }, _, by decide +kernel, rfl⟩,
    ⟨(hub [(F.PD_STAT_ATTACHED 15, 1), (F.PD_STAT_CONTRACT 15, 1), (F.PD_CTRL_EPR_EN 15, 1), (F.PD_STAT_CABLE 15, 1), (F.PD_CABLE_VDO_VDO 15, 2 ^ 17
      + 3 * 2 ^ 9 + 2 * 2 ^ 5)]), 15, by decide +kernel⟩,
    ⟨(hub [(F.PD_STAT_ATTACHED 15, 1), (F.PD_STAT_EPR 15, 1)]), 15, by decide +kernel⟩⟩

theorem wit_PdSwapsAndModesAct :
    (∃ (s : State) (n : Fin 16), s.on (F.PD_STAT_ATTACHED n) = true) ∧
    (∃ (s : State) (n : Fin 16), s.on (F.PD_STAT_ATTACHED n) = true ∧ (s.pd n).own ≠ 0 ∧ s.get (F.PD_STAT_SWAP n) = 2 ∧ s.get (F.PD_SWAP_ATTEMPTS n)
      ≤ (s.pd n).sent) ∧
    (∃ (s : State) (n : Fin 16), s.on (F.PD_STAT_ATTACHED n) = true ∧ (s.pd n).own ≠ 0 ∧ s.get (F.PD_STAT_SWAP n) = 2 ∧ (s.pd n).sent < s.get
      (F.PD_SWAP_ATTEMPTS n) ∧ (s.pd n).seq = .idle) ∧
    (∃ (s : State) (n : Fin 16), s.on (F.PD_STAT_ATTACHED n) = true ∧ 1 ≤ (s.pd n).vdm ∧ (s.pd n).vdm ≤ 4) ∧
    (∃ (s : State) (n : Fin 16), s.on (F.PD_STAT_ATTACHED n) = true ∧ 1 ≤ (s.pd n).vdm ∧ (s.pd n).vdm ≤ 4 ∧ (s.pd n).hold = false ∧ 3 ≤ (s.pd
      n).busy) ∧
    (∃ (s : State) (n : Fin 16), s.on (F.PD_STAT_ATTACHED n) = true ∧ 1 ≤ (s.pd n).vdm ∧ (s.pd n).vdm ≤ 4 ∧ (s.pd n).hold = false ∧ (s.pd n).busy <
      3) ∧
    (∃ (s : State) (n : Fin 16), s.on (F.PD_STAT_ATTACHED n) = true ∧ (s.pd n).hold = true) ∧
    (∃ (s : State) (n : Fin 16) (v : Word), s.on (F.PD_STAT_ATTACHED n) = true ∧ v.toNat % 256 = 1) ∧
    (∃ (s : State) (n : Fin 16) (t : State), s.on (F.PD_STAT_ATTACHED n) = true ∧ s.on (F.PD_STAT_MODE n) = true ∧ (s.lk n).train.failed = true ∧ t =
      (s.modeExit n true).mapPd n (fun x => { x with fails := x.fails + 1 }) ∧ s.get (F.PD_MODE_CTRL_RETRIES n) ≤ (t.pd n).fails) ∧
    (∃ (s : State) (t : State) (n : Fin 16), s.on (F.PD_STAT_ATTACHED n) = true ∧ (s.pd n).hold = false ∧ (s.pd n).seq = .idle ∧ t = s.mapPd n (fun x
      => { x with busy := 0 }) ∧ (s.pd n).vdm = 1) ∧
    (∃ (s : State) (t : State) (n : Fin 16) (l : List (BitVec 16)), s.on (F.PD_STAT_ATTACHED n) = true ∧ (s.pd n).hold = false ∧ (s.pd n).seq = .idle
      ∧ t = s.mapPd n (fun x => { x with busy := 0 }) ∧ (s.pd n).vdm = 2 ∧ 0x2D4A ∈ l) ∧
    (∃ (s : State) (t : State) (n : Fin 16) (l : List (BitVec 16)), s.on (F.PD_STAT_ATTACHED n) = true ∧ (s.pd n).hold = false ∧ (s.pd n).seq = .idle
      ∧ t = s.mapPd n (fun x => { x with busy := 0 }) ∧ (s.pd n).vdm = 2 ∧ 0x2D4A ∉ l) ∧
    (∃ (s : State) (t : State) (n : Fin 16), s.on (F.PD_STAT_ATTACHED n) = true ∧ (s.pd n).hold = false ∧ (s.pd n).seq = .idle ∧ t = s.mapPd n (fun x
      => { x with busy := 0 }) ∧ (s.pd n).vdm = 3) ∧
    (∃ (s : State) (t : State) (n : Fin 16), s.on (F.PD_STAT_ATTACHED n) = true ∧ (s.pd n).hold = false ∧ (s.pd n).seq = .idle ∧ t = s.mapPd n (fun x
      => { x with busy := 0 }) ∧ (s.pd n).vdm = 4) ∧
    (∃ (s : State) (p : Path) (n : Fin 16), s.takes p (pdAddr n 0x54) 64) ∧
    (∃ (s : State) (p : Path) (n : Fin 16), s.takes p (pdAddr n 0x54) 32) ∧
    (∃ (s : State) (p : Path) (n : Fin 16), s.takes p (pdAddr n 0x54) 16) ∧
    (∃ (s : State) (p : Path) (n : Fin 16), s.takes p (pdAddr n 0x54) 8) ∧
    (∃ (s : State) (p : Path) (n : Fin 16), s.takes p (pdAddr n 0x54) 4) ∧
    (∃ (s : State) (p : Path) (n : Fin 16), s.takes p (pdAddr n 0x54) 2) ∧
    (∃ (s : State) (p : Path) (n : Fin 16), s.takes p (pdAddr n 0x54) 1) ∧
    (∃ (s : State) (n : Fin 16), s.on (F.PD_STAT_ATTACHED n) = true ∧ (s.pd n).seq = .swapReq ∧ (s.pd n).own = 2 ∧ (s.pd n).sent < s.get
      (F.PD_SWAP_ATTEMPTS n)) ∧
    (∃ (s : State) (n : Fin 16), s.on (F.PD_STAT_ATTACHED n) = true ∧ (s.pd n).seq = .snkTrans) :=
  ⟨⟨(hub [(F.PD_STAT_ATTACHED 0, 1)]), 0, by decide +kernel⟩,
    ⟨((hub [(F.PD_STAT_ATTACHED 0, 1), (F.PD_STAT_SWAP 0, 2), (F.PD_SWAP_ATTEMPTS 0, 3)]).setPd 0 { own := 1, sent := 3 }), 0, by decide +kernel⟩,
    ⟨((hub [(F.PD_STAT_ATTACHED 0, 1), (F.PD_STAT_SWAP 0, 2), (F.PD_SWAP_ATTEMPTS 0, 3)]).setPd 0 { own := 2, sent := 2 }), 0, by decide +kernel⟩,
    ⟨((hub [(F.PD_STAT_ATTACHED 0, 1)]).setPd 0 { vdm := 1 }), 0, by decide +kernel⟩,
    ⟨((hub [(F.PD_STAT_ATTACHED 0, 1)]).setPd 0 { vdm := 4, busy := 3 }), 0, by decide +kernel⟩,
    ⟨((hub [(F.PD_STAT_ATTACHED 0, 1)]).setPd 0 { vdm := 4, busy := 2 }), 0, by decide +kernel⟩,
    ⟨((hub [(F.PD_STAT_ATTACHED 0, 1)]).setPd 0 { hold := true }), 0, by decide +kernel⟩,
    ⟨(hub [(F.PD_STAT_ATTACHED 0, 1)]), 0, 1, by decide +kernel⟩,
    ⟨((hub [(F.PD_STAT_ATTACHED 0, 1), (F.PD_STAT_MODE 0, 1), (F.PD_MODE_CTRL_RETRIES 0, 1)]).setLk 0 { train := { failed := true } }), 0, ((((((hub
      [(F.PD_STAT_ATTACHED 0, 1), (F.PD_STAT_MODE 0, 1), (F.PD_MODE_CTRL_RETRIES 0, 1)]).setLk 0 { train := { failed := true } })) : State).modeExit
      ((0) : Fin 16) true).mapPd ((0) : Fin 16) (fun x => { x with fails := x.fails + 1 })), by decide +kernel, by decide +kernel, by decide +kernel,
      rfl, by decide +kernel⟩,
    ⟨((hub [(F.PD_STAT_ATTACHED 0, 1)]).setPd 0 { vdm := 1 }), (((((hub [(F.PD_STAT_ATTACHED 0, 1)]).setPd 0 { vdm := 1 })) : State).mapPd ((0) : Fin
      16) (fun x => { x with busy := 0 })), 0, by decide +kernel, by decide +kernel, by decide +kernel, rfl, by decide +kernel⟩,
    ⟨((hub [(F.PD_STAT_ATTACHED 0, 1)]).setPd 0 { vdm := 2 }), (((((hub [(F.PD_STAT_ATTACHED 0, 1)]).setPd 0 { vdm := 2 })) : State).mapPd ((0) : Fin
      16) (fun x => { x with busy := 0 })), 0, [0x2D4A], by decide +kernel, by decide +kernel, by decide +kernel, rfl, by decide +kernel⟩,
    ⟨((hub [(F.PD_STAT_ATTACHED 0, 1)]).setPd 0 { vdm := 2 }), (((((hub [(F.PD_STAT_ATTACHED 0, 1)]).setPd 0 { vdm := 2 })) : State).mapPd ((0) : Fin
      16) (fun x => { x with busy := 0 })), 0, [], by decide +kernel, by decide +kernel, by decide +kernel, rfl, by decide +kernel⟩,
    ⟨((hub [(F.PD_STAT_ATTACHED 0, 1)]).setPd 0 { vdm := 3 }), (((((hub [(F.PD_STAT_ATTACHED 0, 1)]).setPd 0 { vdm := 3 })) : State).mapPd ((0) : Fin
      16) (fun x => { x with busy := 0 })), 0, by decide +kernel, by decide +kernel, by decide +kernel, rfl, by decide +kernel⟩,
    ⟨((hub [(F.PD_STAT_ATTACHED 0, 1)]).setPd 0 { vdm := 4 }), (((((hub [(F.PD_STAT_ATTACHED 0, 1)]).setPd 0 { vdm := 4 })) : State).mapPd ((0) : Fin
      16) (fun x => { x with busy := 0 })), 0, by decide +kernel, by decide +kernel, by decide +kernel, rfl, by decide +kernel⟩,
    ⟨(hub []), .mgmt, 0, takes_of (by decide +kernel)⟩,
    ⟨(hub []), .mgmt, 0, takes_of (by decide +kernel)⟩,
    ⟨(hub []), .mgmt, 0, takes_of (by decide +kernel)⟩,
    ⟨(hub []), .mgmt, 0, takes_of (by decide +kernel)⟩,
    ⟨(hub []), .mgmt, 0, takes_of (by decide +kernel)⟩,
    ⟨(hub []), .mgmt, 0, takes_of (by decide +kernel)⟩,
    ⟨(hub []), .mgmt, 0, takes_of (by decide +kernel)⟩,
    ⟨((hub [(F.PD_STAT_ATTACHED 15, 1), (F.PD_SWAP_ATTEMPTS 15, 2)]).setPd 15 { seq := .swapReq, own := 2, sent := 1 }), 15, by decide +kernel⟩,
    ⟨((hub [(F.PD_STAT_ATTACHED 15, 1)]).setPd 15 { seq := .snkTrans }), 15, by decide +kernel⟩⟩

theorem wit_VbusCommandsAct :
    (∃ (s : State) (f : Fin 2), s.get (feedStat f) = 2) ∧
    (∃ (s : State) (f : Fin 2), s.feedUp f = true) ∧
    (∃ (s : State) (f : Fin 2), s.feedUp f = false ∧ s.on (feedEn f) = true) ∧
    (∃ (s : State), s.pow.busHeld = true) ∧
    (∃ (s : State) (n : Fin 16), s.on (F.VB_CTRL_TRACK n) = true ∧ s.vbState n = 4) ∧
    (∃ (s : State) (n : Fin 16), s.vbState n = 5) ∧
    (∃ (s : State) (n : Fin 16), s.vbState n = 5 ∧ s.get (F.VB_VOUT_MV n) < s.targetMv n) ∧
    (∃ (s : State) (n : Fin 16), s.vbState n = 5 ∧ s.targetMv n ≤ s.get (F.VB_VOUT_MV n)) ∧
    (∃ (s : State) (n : Fin 16), s.vbState n = 1) ∧
    (∃ (s : State) (n : Fin 16), s.vbState n = 2) ∧
    (∃ (s : State) (n : Fin 16), s.vbDriven n = true ∧ s.on (F.VB_STAT_LIMITING n) = false) ∧
    (∃ (s : State) (n : Fin 16), s.vbDriven n = true ∧ s.on (F.VB_STAT_LIMITING n) = true) ∧
    (∃ (s : State) (n : Fin 16), s.on (F.VB_STAT_TIMER n) = true) ∧
    (∃ (s : State) (n : Fin 16), s.vbDriven n = true) ∧
    (∃ (s : State) (n : Fin 16), s.vbDriven n = true ∧ s.vbState n ≠ 5) ∧
    (∃ (s : State) (n : Fin 16), s.vbState n = 4 ∧ s.on (F.VB_STAT_PGOOD n) = true ∧ s.on (F.VB_STAT_LIMITING n) = false) ∧
    (∃ (s : State) (n : Fin 16), s.on (F.VB_STAT_GATE_ON n) = true) ∧
    (∃ (s : State) (n : Fin 16), s.vbState n = 7) ∧
    (∃ (s : State) (n : Fin 16), s.vbState n = 3 ∧ s.on (F.VB_STAT_GATE_ON n) = true ∧ s.on (F.VB_STAT_IN_WINDOW n) = true ∧ s.on (F.VB_STAT_TIMER n)
      = false) ∧
    (∃ (s : State) (n : Fin 16) (t : State), (s.vb n).disch = true ∧ t = (s.mapVb n (fun x => { x with disch := false })).raise (vbEv n 5)) ∧
    (∃ (s : State) (p : Path) (n : Fin 16), s.takes p (0x405058 + 0x10000 * n.val) 1) ∧
    (∃ (s : State) (p : Path) (n : Fin 16), s.takes p (0x405058 + 0x10000 * n.val) 2) :=
  ⟨⟨(hub [(feedStat 0, 2)]), 0, by decide +kernel⟩,
    ⟨(hub [(feedStat 0, 1)]), 0, by decide +kernel⟩,
    ⟨(hub [(feedEn 0, 1)]), 0, by decide +kernel⟩,
    ⟨{ (hub []) with pow := { (hub []).pow with busHeld := true } }, by decide +kernel⟩,
    ⟨(hub [(F.VB_CTRL_TRACK 0, 1), (F.VB_STAT_STATE 0, 4)]), 0, by decide +kernel⟩,
    ⟨(hub [(F.VB_STAT_STATE 0, 5)]), 0, by decide +kernel⟩,
    ⟨(hub [(F.VB_STAT_STATE 0, 5), (F.VB_VSET_TARGET_10MV 0, 500)]), 0, by decide +kernel⟩,
    ⟨(hub [(F.VB_STAT_STATE 0, 5), (F.VB_VOUT_MV 0, 5000), (F.VB_VSET_TARGET_10MV 0, 500)]), 0, by decide +kernel⟩,
    ⟨(hub [(F.VB_STAT_STATE 0, 1)]), 0, by decide +kernel⟩,
    ⟨(hub [(F.VB_STAT_STATE 0, 2)]), 0, by decide +kernel⟩,
    ⟨(hub [(F.VB_STAT_LIMITING 0, 0), (F.VB_STAT_STATE 0, 2)]), 0, by decide +kernel⟩,
    ⟨(hub [(F.VB_STAT_LIMITING 0, 1), (F.VB_STAT_STATE 0, 5)]), 0, by decide +kernel⟩,
    ⟨(hub [(F.VB_STAT_TIMER 0, 1)]), 0, by decide +kernel⟩,
    ⟨(hub [(F.VB_STAT_STATE 0, 5)]), 0, by decide +kernel⟩,
    ⟨(hub [(F.VB_STAT_STATE 0, 4)]), 0, by decide +kernel⟩,
    ⟨(hub [(F.VB_STAT_PGOOD 0, 1), (F.VB_STAT_LIMITING 0, 0), (F.VB_STAT_STATE 0, 4)]), 0, by decide +kernel⟩,
    ⟨(hub [(F.VB_STAT_GATE_ON 0, 1)]), 0, by decide +kernel⟩,
    ⟨(hub [(F.VB_STAT_STATE 0, 7)]), 0, by decide +kernel⟩,
    ⟨(hub [(F.VB_STAT_GATE_ON 0, 1), (F.VB_STAT_IN_WINDOW 0, 1), (F.VB_STAT_TIMER 0, 0), (F.VB_STAT_STATE 0, 3)]), 0, by decide +kernel⟩,
    ⟨((hub []).setVb 0 { disch := true }), 0, ((((((hub []).setVb 0 { disch := true })) : State).mapVb ((0) : Fin 16) (fun x =>
      { x with disch := false })).raise (vbEv ((0) : Fin 16) 5)), by decide +kernel, rfl⟩,
    ⟨(hub []), .mgmt, 0, takes_of (by decide +kernel)⟩,
    ⟨(hub []), .mgmt, 0, takes_of (by decide +kernel)⟩⟩

theorem wit_ScanCommandsAct :
    (∃ (s : State) (n : Fin 8), s.soDue n = true) ∧
    (∃ (s : State) (t : State) (n : Fin 8), t = s.soDrain ((s.eng n).outQ.length + 1) n ∧ t.on (F.SO_CTRL_EN n) = true ∧ (t.eng n).due.isSome = true
      ∧ t.on (F.SO_STAT_SENDING n) = false ∧ (t.eng n).outQ = []) ∧
    (∃ (s : State) (n : Fin 8), s.on (F.SO_STAT_SENDING n) = true ∧ (s.eng n).line < s.eff (F.SO_SIZE_HEIGHT n)) ∧
    (∃ (s : State) (n : Fin 8) (l : Fin 4), (s.eng n).buf.any (fun f => f.layer == l.val && f.data.isNone) = true) ∧
    (∃ (s : State) (p : Path) (n : Fin 8), s.takes p (soAddr n 0x40) (s.soCtrl n true)) ∧
    (∃ (s : State) (p : Path) (n : Fin 8), s.takes p (soAddr n 0x40) (s.soCtrl n false)) ∧
    (∃ (s : State) (p : Path) (n : Fin 8), s.takes p (soAddr n 0x68) 1) :=
  ⟨⟨(hub [(F.SO_CTRL_EN 0, 1)]), 0, by decide +kernel⟩,
    ⟨((hub [(F.SO_CTRL_EN 0, 1)]).setEng 0 { due := some 0 }), (((((hub [(F.SO_CTRL_EN 0, 1)]).setEng 0 { due := some 0 })) : State).soDrain
      ((((((hub [(F.SO_CTRL_EN 0, 1)]).setEng 0 { due := some 0 })) : State).eng ((0) : Fin 8)).outQ.length + 1) ((0) : Fin 8)), 0, rfl,
      by decide +kernel⟩,
    ⟨((hub [(F.SO_STAT_SENDING 0, 1), (F.SO_SIZE_HEIGHT 0, 8)]).setEng 0 { line := 7 }), 0, by decide +kernel⟩,
    ⟨((hub []).setEng 0 { buf := [⟨0, 0, 0, 0, none⟩] }), 0, 0, by decide +kernel⟩,
    ⟨(hub []), .mgmt, 0, takes_of (by decide +kernel)⟩,
    ⟨(hub []), .mgmt, 0, takes_of (by decide +kernel)⟩,
    ⟨(hub []), .mgmt, 0, takes_of (by decide +kernel)⟩⟩

theorem wit_BridgeCommandsAct :
    (∃ (s : State) (h : Fin 32) (q : Word) (b : List (BitVec 8)), s.runs h q.toNat 0x0120 = true ∧ b.length ≤ 244) ∧
    (∃ (s : State) (h : Fin 32) (q : Word) (b : List (BitVec 8)), s.runs h q.toNat 0x0120 = true ∧ 244 < b.length) ∧
    (∃ (s : State) (h : Fin 32) (q : Word), s.runs h q.toNat 0x0121 = true) ∧
    (∃ (s : State) (h : Fin 32) (q : Word), s.runs h q.toNat 0x0122 = true) ∧
    (∃ (s : State) (h : Fin 32) (q : Word), s.runs h q.toNat 0x0123 = true) ∧
    (∃ (s : State) (h : Fin 32) (q : Word) (port : BitVec 8) (tch : BitVec 8) (k : Nat), s.runs h q.toNat 0x0124 = true ∧ s.on F.BR_CTRL_EN = true ∧
      port.toNat < 16 ∧ tch.toNat < 32 ∧ k = 32 * port.toNat + tch.toNat) ∧
    (∃ (s : State) (h : Fin 32) (q : Word) (k : Nat), s.runs h q.toNat 0x0125 = true ∧ s.on F.BR_CTRL_EN = true ∧ s.tokTarget (s.cmdToken h q.toNat)
      = some k) ∧
    (∃ (s : State) (h : Fin 32) (q : Word), s.runs h q.toNat 0x0125 = true ∧ s.on F.BR_CTRL_EN = true ∧ s.tokTarget (s.cmdToken h q.toNat) = none) ∧
    (∃ (s : State) (n : Fin 16) (t : Fin 32) (q : BitVec 16) (o : RegOp), (s.sigTgt (32 * n.val + t.val)).out.find? (fun o => o.seq == q.toNat) =
      some o) ∧
    (∃ (s : State) (h : Fin 32) (q : Word) (k : Nat) (x : SigTarget), s.br.tgts.find? (fun e => e.2.wait.contains (.take h q.toNat)) = some (k, x)) ∧
    (∃ (s : State) (n : Fin 16) (t : Fin 32), (s.sigTgt (32 * n.val + t.val)).tokened = true) ∧
    (∃ (s : State) (k : Fin 4) (m : SigIn) (l : List SigIn), s.brLane k = m :: l ∧ m.hook.isSome = true) ∧
    (∃ (s : State) (p : Path) (v : Word), s.takes p 0x902044 v.toNat) ∧
    (∃ (s : State) (p : Path), s.takes p 0x905044 1) ∧
    (∃ (s : State) (p : Path) (e : Fin 24) (o : BitVec 18), 19 ≤ e.val ∧ e.val < 23 ∧ s.takes p (0xA1005C + 0x1000 * e.val) o.toNat) ∧
    (∃ (s : State) (b : Fin 32) (e : Nat × RaBuf), s.br.bufs.find? (fun e => e.1 == b.val) = some e) ∧
    (∃ (s : State) (e : Fin 256) (n : Nat) (t : Nat), s.on (F.PL_CTRL_EN e) = true ∧ s.on F.BR_CTRL_EN = true ∧ s.on (F.PL_STAT_BUSY e) = false ∧ n =
      s.get (F.PL_CTRL_PORT e) ∧ t = 32 * n + s.get (F.PL_CTRL_TCH e) ∧ (s.sigTgt t).sem = .free ∧ s.pollSbu e n = false) ∧
    (∃ (s : State) (u : State) (n : Fin 16) (t : Fin 32) (ch : BitVec 16) (due : Option (BitVec 64)) (b : List (BitVec 8)) (m : SigIn), s.shut =
      false ∧ u = (s.cellsIn (48 + n) b.length).cellsOut 65 b.length ∧ m =
      { src := 48 + n, orig := .dock n t, ch := ch.toNat, op := 0x10, due := due.map (fun t => t.toNat), payload := b, tin := s.stampIn (48 + n) 0 })
      ∧
    (∃ (s : State), s.shut = true) ∧
    (∃ (s : State) (u : State) (n : Fin 16) (t : Fin 32) (q : BitVec 16) (m : SigIn) (o : RegOp), s.shut = false ∧ s.on F.BR_CTRL_EN = true ∧
      s.brLane ((48 + n) % 4) = [] ∧ u = ((s.cellsIn (48 + n) 0).cellsOut 65 0).setBrLane ((48 + n) % 4) [m] ∧ m =
      { src := 48 + n, orig := .dock n t, ch := 0, op := 0x81, tin := s.stampIn (48 + n) 0, payload := leBytes 2 q.toNat ++ [0] } ∧ (s.sigTgt (32 * n
      + t)).out.find? (fun o => o.seq == q.toNat && o.write == true && o.sbu == false) = some o) ∧
    (∃ (s : State) (u : State) (n : Fin 16) (t : Fin 32) (q : BitVec 16) (d : List (BitVec 8)) (m : SigIn) (o : RegOp), s.shut = false ∧ s.on
      F.BR_CTRL_EN = true ∧ s.brLane ((48 + n) % 4) = [] ∧ d.length ≤ 232 ∧ u = ((s.cellsIn (48 + n) d.length).cellsOut 65 d.length).setBrLane ((48 +
      n) % 4) [m] ∧ m = { src := 48 + n, orig := .dock n t, ch := 0, op := 0x82, tin := s.stampIn (48 + n) 0,
                          payload := leBytes 2 q.toNat ++ [0] ++ (BitVec.ofNat 8 d.length :: [0, 0, 0, 0] ++ d) } ∧ (s.sigTgt (32 * n + t)).out.find?
      (fun o => o.seq == q.toNat && o.write == false && o.sbu == false) = some o ∧ o.len = d.length) :=
  ⟨⟨(runCmd (hub []) 0x0120), 0, 0, (List.replicate 244 0), by decide +kernel⟩,
    ⟨(runCmd (hub []) 0x0120), 0, 0, (List.replicate 245 0), by decide +kernel⟩,
    ⟨(runCmd (hub []) 0x0121), 0, 0, by decide +kernel⟩,
    ⟨(runCmd (hub []) 0x0122), 0, 0, by decide +kernel⟩,
    ⟨(runCmd (hub []) 0x0123), 0, 0, by decide +kernel⟩,
    ⟨(runCmd (hub [(F.BR_CTRL_EN, 1)]) 0x0124), 0, 0, 15, 31, (32 * ((15) : BitVec 8).toNat + ((31) : BitVec 8).toNat), by decide +kernel,
      by decide +kernel, by decide +kernel, by decide +kernel, rfl⟩,
    ⟨(withTok (runCmd (hub [(F.BR_CTRL_EN, 1)]) 0x0125)), 0, 0, 5, by decide +kernel⟩,
    ⟨(runCmd (hub [(F.BR_CTRL_EN, 1)]) 0x0125), 0, 0, by decide +kernel⟩,
    ⟨((hub []).setSigTgt 511 { out := [{ num := 0, write := false, addr := 0, len := 4, why := .gone }] }), 15, 31, 0,
      { num := 0, write := false, addr := 0, len := 4, why := .gone }, by decide +kernel⟩,
    ⟨((hub []).setSigTgt 3 { wait := [.take 0 0] }), 0, 0, 3, { wait := [.take 0 0] }, by decide +kernel⟩,
    ⟨((hub []).setSigTgt 0 { sem := .token 0 0 }), 0, 0, by decide +kernel⟩,
    ⟨((hub []).setBrLane 0 [{ src := 48, orig := .dock 0 0, ch := 0, op := 0x10, payload := [], tin := 0, hook := some 0 }]), 0,
      { src := 48, orig := .dock 0 0, ch := 0, op := 0x10, payload := [], tin := 0, hook := some 0 }, [], by decide +kernel⟩,
    ⟨(hub []), .mgmt, 0, takes_of (by decide +kernel)⟩,
    ⟨(hub []), .mgmt, takes_of (by decide +kernel)⟩,
    ⟨(hub []), .mgmt, 22, 0, by decide +kernel, by decide +kernel, takes_of (by decide +kernel)⟩,
    ⟨{ hub [] with br := { bufs := [(31, ⟨0, 0, [], [], 0, 0, 0⟩)] } }, 31, (31, ⟨0, 0, [], [], 0, 0, 0⟩), by decide +kernel⟩,
    ⟨(hub [(F.PL_CTRL_EN 255, 1), (F.BR_CTRL_EN, 1)]), 255, _, _, by decide +kernel, by decide +kernel, by decide +kernel, rfl, rfl,
      by decide +kernel⟩,
    ⟨(hub []), _, 0, 0, 0, none, [], _, by decide +kernel, rfl, rfl⟩,
    ⟨{ hub [] with sw := { (hub []).sw with stopped := true } }, by decide +kernel⟩,
    ⟨{ hub [(F.BR_CTRL_EN, 1)] with br := { tgts := [(511, { out := [{ num := 0, write := true, addr := 0, len := 0, why := .gone }] })] } }, _, 15,
      31, 0, _, { num := 0, write := true, addr := 0, len := 0, why := .gone }, by decide +kernel, by decide +kernel, by decide +kernel, rfl, rfl,
      by decide +kernel⟩,
    ⟨{ hub [(F.BR_CTRL_EN, 1)] with br := { tgts := [(511, { out := [{ num := 0, write := false, addr := 0, len := 0, why := .gone }] })] } }, _, 15,
      31, 0, [], _, { num := 0, write := false, addr := 0, len := 0, why := .gone }, by decide +kernel, by decide +kernel, by decide +kernel,
      by decide +kernel, rfl, rfl, by decide +kernel⟩⟩

theorem wit_EngineArithmeticComputes :
    ∃ (s : State) (e : Fin 24) (ga : Fin 16) (gb : Fin 16) (a : Word) (b : Word), s.engReady e = true ∧ a = s.g e ga ∧ b = s.g e gb :=
  ⟨(hub [(F.ENG_STAT_STATE 5, 2)]), 5, 0, 0, ((((hub [(F.ENG_STAT_STATE 5, 2)])) : State).g ((5) : Fin 24) ((0) : Fin 16)),
    ((((hub [(F.ENG_STAT_STATE 5, 2)])) : State).g ((5) : Fin 24) ((0) : Fin 16)), by decide +kernel, rfl, rfl⟩

theorem wit_EngineMemoryAndBranchesAct :
    (∃ (s : State) (e : Fin 24) (ga : Fin 16) (i : BitVec 18) (o : Nat), s.engReady e = true ∧ s.engMap e (s.g e ga + i.signExtend 32).toNat = .dmem
      o ∧ o % 4 = 0) ∧
    (∃ (s : State) (e : Fin 24) (ga : Fin 16) (i : BitVec 18) (o : Nat), s.engReady e = true ∧ s.engMap e (s.g e ga + i.signExtend 32).toNat = .dmem
      o) ∧
    (∃ (s : State) (e : Fin 24) (ga : Fin 16) (i : BitVec 18) (o : Nat), s.engReady e = true ∧ s.engMap e (s.g e ga + i.signExtend 32).toNat = .dmem
      o ∧ o % 4 = 0 ∧ s.engs.journal.length + 1 < 2048) ∧
    (∃ (s : State) (e : Fin 24) (ga : Fin 16) (i : BitVec 18) (o : Nat), s.engReady e = true ∧ s.engMap e (s.g e ga + i.signExtend 32).toNat = .dmem
      o ∧ s.engs.journal.length + 1 < 2048 ∧ s.engWord e 1 (o / 4 * 4) < 2 ^ 32) ∧
    (∃ (s : State) (e : Fin 24) (ga : Fin 16) (gb : Fin 16) (a : Word) (b : Word) (pc : Word), s.engReady e = true ∧ a = s.g e ga ∧ b = s.g e gb ∧
      pc.toNat = (s.engCore e).pc) :=
  ⟨⟨((hub [(F.ENG_STAT_STATE 5, 2)]).setCore 5 { regs := [(1, 0x10000)] }), 5, 1, 0x1FFFC, 0x1FFFC, by decide +kernel⟩,
    ⟨((hub [(F.ENG_STAT_STATE 5, 2)]).setCore 5 { regs := [(1, 0x10000)] }), 5, 1, 0x7, 7, by decide +kernel⟩,
    ⟨((hub [(F.ENG_STAT_STATE 5, 2)]).setCore 5 { regs := [(1, 0x10000)] }), 5, 1, 0x1FFFC, 0x1FFFC, by decide +kernel⟩,
    ⟨((hub [(F.ENG_STAT_STATE 5, 2)]).setCore 5 { regs := [(1, 0x10000)] }), 5, 1, 0x7, 7, by decide +kernel⟩,
    ⟨(hub [(F.ENG_STAT_STATE 5, 2)]), 5, 0, 0, ((((hub [(F.ENG_STAT_STATE 5, 2)])) : State).g ((5) : Fin 24) ((0) : Fin 16)), ((((hub
      [(F.ENG_STAT_STATE 5, 2)])) : State).g ((5) : Fin 24) ((0) : Fin 16)), 0, by decide +kernel, rfl, rfl, by decide +kernel⟩⟩

theorem wit_EngineControlActs :
    (∃ (s : State) (e : Fin 24), s.engReady e = true) ∧
    (∃ (s : State) (e : Fin 24), s.engReady e = true ∧ e.val ≠ 0) ∧
    (∃ (s : State) (e : Fin 24), s.engReady e = true ∧ (s.engCore e).trap = false ∧ (s.engCore e).inFast = false) ∧
    (∃ (s : State) (e : Fin 24), s.mirrors e = false ∧ s.engRuns e = true ∧ s.fastOk e = true) ∧
    (∃ (s : State) (e : Fin 24), s.mirrors e = false ∧ s.engRuns e = true ∧ s.normalOk e = true) ∧
    (∃ (s : State) (e : Fin 24), s.mirrors e = false ∧ s.engRuns e = true) ∧
    (∃ (s : State) (e : Fin 24), s.engRuns e = true ∧ s.pairEngines.contains e.val = false) ∧
    (∃ (s : State), s.engRuns 0 = true) ∧
    (∃ (s : State), s.get F.LOCK_STAT_MGMT = 0 ∧ s.engRuns s.pairLead = true) ∧
    (∃ (s : State) (t : State) (h : Fin 32) (q : Word) (e : BitVec 8) (b : List (BitVec 8)) (err : Nat), s.runs h q.toNat 0x0130 = true ∧ s.get
      F.FM_PATH_REQ = h ∧ 19 ≤ e.toNat ∧ e.toNat ≤ 22 ∧ b.length < 2 ^ 32 ∧ t = (s.engStop e.toNat 0).clearMem e.toNat ∧ progBad b = some err) ∧
    (∃ (s : State) (t : State) (h : Fin 32) (q : Word) (e : BitVec 8) (b : List (BitVec 8)) (g : ProgSig), s.runs h q.toNat 0x0130 = true ∧ s.get
      F.FM_PATH_REQ = h ∧ 19 ≤ e.toNat ∧ e.toNat ≤ 22 ∧ b.length < 2 ^ 32 ∧ t = (s.engStop e.toNat 0).clearMem e.toNat ∧ progBad b = none ∧
      s.progSigned g = false) ∧
    (∃ (s : State) (t : State) (h : Fin 32) (q : Word) (e : BitVec 8) (b : List (BitVec 8)) (g : ProgSig), s.runs h q.toNat 0x0130 = true ∧ s.get
      F.FM_PATH_REQ = h ∧ 19 ≤ e.toNat ∧ e.toNat ≤ 22 ∧ b.length < 2 ^ 32 ∧ t = (s.engStop e.toNat 0).clearMem e.toNat ∧ progBad b = none ∧
      s.progSigned g = true) ∧
    (∃ (s : State) (h : Fin 32) (q : Word) (e : BitVec 8), s.runs h q.toNat 0x0131 = true ∧ s.get F.FM_PATH_REQ = h ∧ 19 ≤ e.toNat ∧ e.toNat ≤ 22 ∧
      s.engRuns e.toNat = true) ∧
    (∃ (s : State) (p : Path) (e : Fin 24), s.takes p (0xA10040 + 0x1000 * e.val) 1) ∧
    (∃ (s : State) (p : Path) (e : Fin 24), s.takes p (0xA10040 + 0x1000 * e.val) 2) ∧
    (∃ (s : State) (p : Path) (v : Word), s.takes p 0xA01048 v.toNat) ∧
    (∃ (s : State) (t : State) (u : State), s.engReady 0 = true ∧ t = (s.set (F.ENG_PC_PC 0) ((s.engCore 0).pc / 4)).setCore 0 ((s.engCore 0).next 1)
      ∧ u = t.engs.journal.foldl (fun v w => v.setEngWord 2 1 w.1 w.2) t ∧ t.paired = true ∧ t.engRuns 2 = true) ∧
    (∃ (s : State) (t : State) (u : State), s.engReady 0 = true ∧ t = (s.set (F.ENG_PC_PC 0) ((s.engCore 0).pc / 4)).setCore 0 ((s.engCore 0).next 1)
      ∧ u = t.engs.journal.foldl (fun v w => v.setEngWord 2 1 w.1 w.2) t ∧ (t.paired = false ∨ t.engRuns 2 = false)) :=
  ⟨⟨(hub [(F.ENG_STAT_STATE 5, 2)]), 5, by decide +kernel⟩,
    ⟨(hub [(F.ENG_STAT_STATE 5, 2)]), 5, by decide +kernel⟩,
    ⟨(hub [(F.ENG_STAT_STATE 5, 2)]), 5, by decide +kernel⟩,
    ⟨((hub [(F.ENG_STAT_STATE 5, 2)]).setTgt 37 { pendF := [0] }), 5, by decide +kernel⟩,
    ⟨(((hub [(F.ENG_STAT_STATE 5, 2)]).setCore 5 { status := 1 }).setTgt 37 { pendN := [0] }), 5, by decide +kernel⟩,
    ⟨(hub [(F.ENG_STAT_STATE 5, 2)]), 5, by decide +kernel⟩,
    ⟨(hub [(F.ENG_STAT_STATE 5, 2)]), 5, by decide +kernel⟩,
    ⟨(hub [(F.ENG_STAT_STATE 0, 2)]), by decide +kernel⟩,
    ⟨(hub [(F.LOCK_STAT_MGMT, 0), (F.ENG_STAT_STATE 0, 2)]), by decide +kernel⟩,
    ⟨((hub [(F.FM_PATH_REQ, 31)]).setMail 31 { running := [⟨0, 0x0130, false, 0⟩] }), ((((((hub [(F.FM_PATH_REQ, 31)]).setMail 31
      { running := [⟨0, 0x0130, false, 0⟩] })) : State).engStop ((22) : BitVec 8).toNat 0).clearMem ((22) : BitVec 8).toNat), 31, 0, 22, [], 9,
      by decide +kernel, by decide +kernel, by decide +kernel, by decide +kernel, by decide +kernel, rfl, by decide +kernel⟩,
    ⟨((hub [(F.FM_PATH_REQ, 31)]).setMail 31 { running := [⟨0, 0x0130, false, 0⟩] }), ((((((hub [(F.FM_PATH_REQ, 31)]).setMail 31
      { running := [⟨0, 0x0130, false, 0⟩] })) : State).engStop ((22) : BitVec 8).toNat 0).clearMem ((22) : BitVec 8).toNat), 31, 0, 22, prog0, .bad,
      by decide +kernel, by decide +kernel, by decide +kernel, by decide +kernel, by decide +kernel, rfl, by decide +kernel⟩,
    ⟨((hub [(F.FM_PATH_REQ, 31)]).setMail 31 { running := [⟨0, 0x0130, false, 0⟩] }), ((((((hub [(F.FM_PATH_REQ, 31)]).setMail 31
      { running := [⟨0, 0x0130, false, 0⟩] })) : State).engStop ((22) : BitVec 8).toNat 0).clearMem ((22) : BitVec 8).toNat), 31, 0, 22, prog0,
      .owner, by decide +kernel, by decide +kernel, by decide +kernel, by decide +kernel, by decide +kernel, rfl, by decide +kernel⟩,
    ⟨((hub [(F.FM_PATH_REQ, 31), (F.ENG_STAT_STATE 22, 2)]).setMail 31 { running := [⟨0, 0x0131, false, 0⟩] }), 31, 0, 22, by decide +kernel⟩,
    ⟨(hub [(F.LC_STAT_STATE, 4)]), .mgmt, 0, takes_of (by decide +kernel)⟩,
    ⟨(hub [(F.LC_STAT_STATE, 4)]), .mgmt, 0, takes_of (by decide +kernel)⟩,
    ⟨(hub []), .mgmt, 0, takes_of (by decide +kernel)⟩,
    ⟨(hub [(F.ENG_STAT_STATE 0, 2), (F.ENG_STAT_STATE 2, 2)]), _, _, by decide +kernel, rfl, rfl, by decide +kernel⟩,
    ⟨(hub [(F.ENG_STAT_STATE 0, 2), (F.LOCK_STAT_MGMT, 1)]), _, _, by decide +kernel, rfl, rfl, by decide +kernel⟩⟩

theorem wit_PowerCommandsAct :
    (∃ (s : State) (p : Path) (g : BitVec 14) (r : BitVec 2) (v : Nat), v = 2 * r.toNat + s.get (hEn (g.toNat * 4096)) ∧ s.takes p (g.toNat * 4096 +
      8) v) ∧
    (∃ (s : State) (p : Path) (r : BitVec 2), s.takes p 0x1100044 r.toNat) ∧
    (∃ (s : State) (c : Cell) (t : Nat), s.domState 9 = 1 ∧ c ∈ s.sw.cells ∧ c.part = .hold ∧ c.tag = .time t ∧ t ≤ s.now + 20000) ∧
    (∃ (s : State), s.get64 F.WAKE_TIME_LO_NS F.WAKE_TIME_HI_NS ≠ 2 ^ 64 - 1 ∧ s.get64 F.WAKE_TIME_LO_NS F.WAKE_TIME_HI_NS ≤ s.now) ∧
    (∃ (s : State) (pll : Fin 2), s.get (clkPllF pll) = 0 ∧ s.on F.POWER3_CLK_STAT_ON_PLL = true ∧ (s.clkLost pll).1 = true) ∧
    (∃ (s : State) (pll : Fin 2), s.get (clkPllF pll) = 0 ∧ s.on F.POWER3_CLK_STAT_ON_PLL = true ∧ (s.clkLost pll).1 = false) ∧
    (∃ (s : State), s.pwr.xtalLost = false) ∧
    (∃ (s : State), s.pwr.xtalLost = true) ∧
    (∃ (s : State), s.canSwitch = true) ∧
    (∃ (s : State) (p : Path), s.takes p 0x1103044 1) ∧
    (∃ (s : State) (p : Path), s.takes p 0x1103044 2 ∧ s.riding = false ∧ (s.storeAt (pathCode p) 0x1103044 2).riding = false) ∧
    (∃ (s : State) (p : Path) (k : BitVec 8), s.takes p 0x50 (k.toNat * 256 + 1)) ∧
    (∃ (s : State) (p : Path) (k : BitVec 8), s.takes p 0x50 (k.toNat * 256 + 2)) ∧
    (∃ (s : State), s.imageOpen = true) ∧
    (∃ (s : State), s.get F.START_STAT_PHASE = 4 ∧ s.isDark = false) ∧
    (∃ (s : State), s.rep.run = true ∧ s.get F.BIST_STAT_PHASE = 1) ∧
    (∃ (s : State), s.rep.run = true ∧ s.get F.BIST_STAT_PHASE = 2) ∧
    (∃ (s : State), s.rep.run = true ∧ s.get F.BIST_STAT_PHASE = 3) ∧
    (∃ (s : State) (p : Path) (k : Fin 16), s.takes p 0x121004C (256 + k.val) ∧ (s.storeAt (pathCode p) 0x121004C (256 + k.val)).testMode = true) ∧
    (∃ (s : State), s.isDark = false) ∧
    (∃ (s : State) (u : State) (d : Fin 232) (e : Nat × Nat), s.pwr.trans.find? (fun e => e.1 == d.val) = some e ∧ u = s.mapPwr (fun p =>
      { p with trans := tdel p.trans d }) ∧ e.2 % 4 = 0) ∧
    (∃ (s : State) (u : State) (d : Fin 232) (e : Nat × Nat), s.pwr.trans.find? (fun e => e.1 == d.val) = some e ∧ u = s.mapPwr (fun p =>
      { p with trans := tdel p.trans d }) ∧ e.2 % 4 ≠ 0) ∧
    (∃ (s : State) (u : State) (d : Fin 232) (e : Nat × Nat), s.pwr.trans.find? (fun e => e.1 == d.val) = some e ∧ u = s.mapPwr (fun p =>
      { p with trans := tdel p.trans d }) ∧ s.pwr.rtDue = false) ∧
    (∃ (s : State), s.rep.sent = true) ∧
    (∃ (s : State) (src : Fin 6), hasBit (s.get F.WAKE_EN_SRC) src = true ∧ s.on F.AON_STAT_MODE = true) ∧
    (∃ (s : State) (u : State) (v : State) (r : Fin 6) (mv : BitVec 16), u = s.railSample r mv.toNat ∧ v = (u.set F.RST_CAUSE_RAIL r).raise 12 ∧
      r.val < 4 ∧ u.riding = false ∧ s.pwr.rtDue = false ∧ s.pwr.trans = []) ∧
    (∃ (s : State) (u : State) (v : State) (r : Fin 6) (mv : BitVec 16), u = s.railSample r mv.toNat ∧ v = (u.set F.RST_CAUSE_RAIL r).raise 12 ∧ 4 ≤
      r.val) ∧
    (∃ (s : State) (u : State) (v : State) (r : Fin 6) (mv : BitVec 16), u = s.railSample r mv.toNat ∧ v = (u.set F.RST_CAUSE_RAIL r).raise 12 ∧
      r.val ≤ 1) ∧
    (∃ (s : State) (u : State) (v : State) (r : Fin 6) (mv : BitVec 16), u = s.railSample r mv.toNat ∧ v = (u.set F.RST_CAUSE_RAIL r).raise 12 ∧
      (r.val = 2 ∨ r.val = 3)) ∧
    (∃ (s : State) (u : State) (v : State) (r : Fin 6) (mv : BitVec 16), u = s.railSample r mv.toNat ∧ v = (u.set F.RST_CAUSE_RAIL r).raise 12 ∧
      r.val = 4) ∧
    (∃ (s : State) (u : State) (v : State) (r : Fin 6) (mv : BitVec 16), u = s.railSample r mv.toNat ∧ v = (u.set F.RST_CAUSE_RAIL r).raise 12 ∧
      r.val = 5) ∧
    (∃ (s : State) (r : Fin 6), s.pwr.dark.contains r.val = true ∧ (r.val ≤ 1 ∨ r.val = 4)) ∧
    (∃ (s : State) (r : Fin 6), s.pwr.dark.contains r.val = true ∧ r.val = 5) ∧
    (∃ (s : State) (u : State), s.riding = true ∧ s.pwr.rtPorts = [] ∧ s.pwr.rtMacs = [] ∧ s.pwr.rtClk = false ∧ s.pwr.rtDoms = [] ∧ u = (((s.mapPwr
      (fun p => { p with warned := [], rtPorts := [], rtMacs := [], rtClk := false, rtDoms := [] })).sets [(F.RT_STAT_ACTIVE, 0), (F.RT_LAST_NS,
      s.now - s.pwr.rtAt)]).raise 11)) ∧
    (∃ (s : State), s.pwr.dark.contains 6 = true ∧ s.pwr.autoRe = true) ∧
    (∃ (s : State), s.pwr.dark.contains 6 = true ∧ s.pwr.autoRe = false) ∧
    (∃ (s : State), s.pwr.dark.contains 6 = true ∧ s.pwr.cool = true) ∧
    (∃ (s : State), s.pwr.dark.contains 6 = false ∧ s.rep.run = false) ∧
    (∃ (s : State), s.pwr.dark.contains 6 = false ∧ s.rep.run = true) ∧
    (∃ (s : State) (u : State), s.pwr.dark.contains 6 = false ∧ u = (List.range 16).foldl (fun s n => (s.vbReq n false).detach n false) s) :=
  ⟨⟨(hub []), .mgmt, 0, 0, (2 * ((0) : BitVec 2).toNat + (((hub [])) : State).get (hEn (((0) : BitVec 14).toNat * 4096))), rfl, takes_of
      (by decide +kernel)⟩,
    ⟨(hub []), .mgmt, 0, takes_of (by decide +kernel)⟩,
    ⟨(withCell (hub [(F.DOM_STAT_STATE 9, 1)]) ({ cell0 with phase := .held, part := .hold, tag := .time 20000 })),
      ({ cell0 with phase := .held, part := .hold, tag := .time 20000 }), 20000, by decide +kernel⟩,
    ⟨(hub [(F.WAKE_TIME_LO_NS, 0), (F.WAKE_TIME_HI_NS, 0)]), by decide +kernel⟩,
    ⟨(hub [(F.POWER3_CLK_STAT_ON_PLL, 1), (clkPllF 0, 0), (clkPllF 1, 0)]), 0, by decide +kernel⟩,
    ⟨(hub [(clkPllF 0, 0), (F.POWER3_CLK_STAT_ON_PLL, 1)]), 0, by decide +kernel⟩,
    ⟨(hub []), by decide +kernel⟩,
    ⟨{ (hub []) with pwr := { (hub []).pwr with xtalLost := true } }, by decide +kernel⟩,
    ⟨{ (hub [(clkPllF 0, 0)]) with pwr := { (hub []).pwr with toPll := true } }, by decide +kernel⟩,
    ⟨(hub []), .mgmt, takes_of (by decide +kernel)⟩,
    ⟨(hub [(clkPllF 1, 0)]), .mgmt, takes_of (by decide +kernel), by decide +kernel⟩,
    ⟨(hub []), .mgmt, 0xA5, takes_of (by decide +kernel)⟩,
    ⟨(hub []), .mgmt, 0xA5, takes_of (by decide +kernel)⟩,
    ⟨(hub [(F.LC_STAT_STATE, 1)]), by decide +kernel⟩,
    ⟨(hub [(F.START_STAT_PHASE, 4)]), by decide +kernel⟩,
    ⟨{ (hub [(F.BIST_STAT_PHASE, 1)]) with rep := { (hub []).rep with run := true } }, by decide +kernel⟩,
    ⟨{ (hub [(F.BIST_STAT_PHASE, 2)]) with rep := { (hub []).rep with run := true } }, by decide +kernel⟩,
    ⟨{ (hub [(F.BIST_STAT_PHASE, 3)]) with rep := { (hub []).rep with run := true } }, by decide +kernel⟩,
    ⟨(hub [(F.LC_STAT_STATE, 1)]), .mgmt, 15, takes_of (by decide +kernel), by decide +kernel⟩,
    ⟨(hub []), by decide +kernel⟩,
    ⟨{ hub [] with pwr := { trans := [(231, 0)] } }, _, 231, (231, 0), by decide +kernel, rfl, by decide +kernel⟩,
    ⟨{ hub [] with pwr := { trans := [(231, 1)] } }, _, 231, (231, 1), by decide +kernel, rfl, by decide +kernel⟩,
    ⟨{ hub [] with pwr := { trans := [(231, 1)] } }, _, 231, (231, 1), by decide +kernel, rfl, by decide +kernel⟩,
    ⟨{ hub [] with rep := { sent := true } }, by decide +kernel⟩,
    ⟨(hub [(F.WAKE_EN_SRC, 32), (F.AON_STAT_MODE, 1)]), 5, by decide +kernel⟩,
    ⟨(hub []), _, _, 3, 0, rfl, rfl, by decide +kernel⟩,
    ⟨(hub []), _, _, 4, 0, rfl, rfl, by decide +kernel⟩,
    ⟨(hub []), _, _, 1, 0, rfl, rfl, by decide +kernel⟩,
    ⟨(hub []), _, _, 2, 0, rfl, rfl, by decide +kernel⟩,
    ⟨(hub []), _, _, 4, 0, rfl, rfl, by decide +kernel⟩,
    ⟨(hub []), _, _, 5, 0, rfl, rfl, by decide +kernel⟩,
    ⟨{ hub [] with pwr := { dark := [4] } }, 4, by decide +kernel⟩,
    ⟨{ hub [] with pwr := { dark := [5] } }, 5, by decide +kernel⟩,
    ⟨(hub [(F.RT_STAT_ACTIVE, 1)]), _, by decide +kernel, by decide +kernel, by decide +kernel, by decide +kernel, by decide +kernel, rfl⟩,
    ⟨{ hub [] with pwr := { dark := [6], autoRe := true } }, by decide +kernel⟩,
    ⟨{ hub [] with pwr := { dark := [6], autoRe := false } }, by decide +kernel⟩,
    ⟨{ hub [] with pwr := { dark := [6], cool := true } }, by decide +kernel⟩,
    ⟨(hub []), by decide +kernel⟩,
    ⟨{ hub [] with rep := { run := true } }, by decide +kernel⟩,
    ⟨(hub []), _, by decide +kernel, rfl⟩⟩

theorem wit_VaultCommandsAct :
    (∃ (s : State) (p : Path) (t : BitVec 8) (a : BitVec 2) (x : Bool), s.takes p 0x1002040 (kvWord 1 t.toNat 0 a.toNat x)) ∧
    (∃ (s : State) (p : Path) (t : BitVec 8) (c : BitVec 8) (a : BitVec 2) (x : Bool), s.takes p 0x1002040 (kvWord 2 t.toNat c.toNat a.toNat x)) ∧
    (∃ (s : State) (p : Path) (t : BitVec 8) (c : BitVec 8) (a : BitVec 2) (x : Bool), s.takes p 0x1002040 (kvWord 3 t.toNat c.toNat a.toNat x)) ∧
    (∃ (s : State) (p : Path) (t : BitVec 8) (c : BitVec 8), s.takes p 0x1002040 (kvWord 4 t.toNat c.toNat 0 false)) ∧
    (∃ (s : State) (p : Path) (t : BitVec 8), s.takes p 0x1002040 (kvWord 5 t.toNat 0 0 false)) ∧
    (∃ (s : State) (p : Path), s.takes p 0x1002040 (kvWord 6 0 0 0 false)) ∧
    (∃ (s : State), s.cryptoOn = true) ∧
    (∃ (s : State) (p : Path), s.takes p 0x1000060 2) ∧
    (∃ (s : State) (p : Path), s.takes p 0x1000048 1) ∧
    (∃ (s : State) (h : Fin 32), s.spdmOn h = true) ∧
    (∃ (s : State) (h : Fin 32), s.spdmOn h = true ∧ (s.spdm h).ver = true) ∧
    (∃ (s : State) (h : Fin 32), s.spdmOn h = true ∧ (s.spdm h).caps = true) ∧
    (∃ (s : State) (h : Fin 32), s.spdmOn h = true ∧ (s.spdm h).algs = true) ∧
    (∃ (s : State) (h : Fin 32) (i : BitVec 8), s.spdmOn h = true ∧ (s.spdm h).algs = true ∧ 1 ≤ i.toNat ∧ i.toNat ≤ 4) ∧
    (∃ (s : State) (h : Fin 32) (k : Nat), s.spdmOn h = true ∧ (s.spdm h).algs = true ∧ s.scalar = some k) ∧
    (∃ (s : State) (h : Fin 32), s.spdmOn h = true ∧ (s.spdm h).sess = 1) ∧
    (∃ (s : State) (h : Fin 32), s.spdmOn h = true ∧ (s.spdm h).sess = 2) ∧
    (∃ (s : State) (port : Fin 48), s.kmOn port = true ∧ port.val < 32) ∧
    (∃ (s : State) (port : Fin 48), s.kmOn port = true) ∧
    (∃ (s : State) (p : Path) (k : BitVec 8) (t : BitVec 3), s.takes p 0x1044 (256 * k.toNat + t.toNat)) ∧
    (∃ (s : State) (k : BitVec 8), s.isDark = false ∧ k ≠ 0x5A) ∧
    (∃ (s : State) (k : BitVec 8) (t : BitVec 3), s.isDark = false ∧ k = 0x5A ∧ s.lcAllowed none t.toNat = true) ∧
    (∃ (s : State) (k : BitVec 8) (t : BitVec 3), s.isDark = false ∧ k = 0x5A ∧ s.lcAllowed none t.toNat = false) ∧
    (∃ (s : State) (t : Nat), s.otp.blow = some t) ∧
    (∃ (s : State) (p : Path) (i : BitVec 8), s.takes p 0x1230048 (2 ^ 31 + i.toNat)) ∧
    (∃ (s : State) (src : Fin 8), hasBit (s.get F.TAMPER_EN_SRC) src = true ∧ s.isDark = false) ∧
    (∃ (s : State) (u : State) (id : Nat) (g : Nat) (data : List Nat), s.otp.busy = some (id, g, data) ∧ u = (s.set F.OTP_STAT_BUSY 0).mapOtp (fun o
      => { o with busy := none })) :=
  ⟨⟨(hub []), .mgmt, 0, 0, false, takes_of (by decide +kernel)⟩,
    ⟨(hub []), .mgmt, 0, 0, 0, false, takes_of (by decide +kernel)⟩,
    ⟨(hub []), .mgmt, 0, 0, 0, false, takes_of (by decide +kernel)⟩,
    ⟨(hub []), .mgmt, 0, 0, takes_of (by decide +kernel)⟩,
    ⟨(hub []), .mgmt, 0, takes_of (by decide +kernel)⟩,
    ⟨(hub []), .mgmt, takes_of (by decide +kernel)⟩,
    ⟨(hub []), by decide +kernel⟩,
    ⟨(hub []), .mgmt, takes_of (by decide +kernel)⟩,
    ⟨(hub [(F.LC_STAT_STATE, 1)]), .mgmt, takes_of (by decide +kernel)⟩,
    ⟨(hub [(F.HP_STAT_LINK 0, 2)]), 0, by decide +kernel⟩,
    ⟨((hub [(F.HP_STAT_LINK 0, 2)]).setSpdm 0 { ver := true }), 0, by decide +kernel⟩,
    ⟨((hub [(F.HP_STAT_LINK 0, 2)]).setSpdm 0 { caps := true }), 0, by decide +kernel⟩,
    ⟨((hub [(F.HP_STAT_LINK 0, 2)]).setSpdm 0 { algs := true }), 0, by decide +kernel⟩,
    ⟨((hub [(F.HP_STAT_LINK 0, 2)]).setSpdm 0 { algs := true }), 0, 4, by decide +kernel⟩,
    (let s : State := { ((hub [(F.HP_STAT_LINK 0, 2), (F.ROOT_STAT_KEYS,
                        1)]).setSpdm 0 { algs := true }) with vault := { ((hub []).setSpdm 0 { algs := true }).vault with root := some 1 } };
      (scalar_some (s := s) (by decide +kernel) (r := 1) (by decide +kernel)).elim (fun k hk => ⟨s, 0, k, by decide +kernel, by decide +kernel, hk⟩)),
    ⟨((hub [(F.HP_STAT_LINK 0, 2)]).setSpdm 0 { sess := 1 }), 0, by decide +kernel⟩,
    ⟨((hub [(F.HP_STAT_LINK 0, 2)]).setSpdm 0 { sess := 2 }), 0, by decide +kernel⟩,
    ⟨((hub [(F.HP_STAT_LINK 0, 2)]).setSpdm 0 { sess := 2 }), 0, by decide +kernel⟩,
    ⟨((hub [(F.HP_STAT_LINK 0, 2)]).setSpdm 0 { sess := 2 }), 0, by decide +kernel⟩,
    ⟨(hub [(F.LC_STAT_STATE, 3)]), .mgmt, 0x5A, 4, takes_of (by decide +kernel)⟩,
    ⟨(hub []), 0, by decide +kernel⟩,
    ⟨(hub [(F.LC_STAT_STATE, 0)]), (0x5A), 1, by decide +kernel, rfl, by decide +kernel⟩,
    ⟨(hub []), (0x5A), 2, by decide +kernel, rfl, by decide +kernel⟩,
    ⟨{ (hub []) with otp := { (hub []).otp with blow := some 1 } }, 1, by decide +kernel⟩,
    ⟨(hub []), .mgmt, 0, takes_of (by decide +kernel)⟩,
    ⟨(hub [(F.TAMPER_EN_SRC, 128)]), 7, by decide +kernel⟩,
    ⟨{ hub [] with otp := { busy := some (1, 0, [5]) } }, _, 1, 0, [5], by decide +kernel, rfl⟩⟩

theorem wit_UsbAndSmbusCommandsAct :
    (∃ (s : State), s.usb.vbus = false) ∧
    (∃ (s : State), s.usb.vbus = true) ∧
    (∃ (s : State), s.usbUp = true) ∧
    (∃ (s : State), s.usbUp = true ∧ s.usbSuspended = false) ∧
    (∃ (s : State), s.usbUp = true ∧ s.usbSuspended = true) ∧
    (∃ (s : State) (a : Word) (n : BitVec 16), s.devThere 1 = true ∧ regForm a.toNat n.toNat = false) ∧
    (∃ (s : State) (a : Word) (n : BitVec 16) (r : List Nat × State), s.devThere 1 = true ∧ regForm a.toNat n.toNat = true ∧ r = (s.mapUsb (fun u =>
      { u with ctl := none })).readRun a.toNat (n.toNat / 4)) ∧
    (∃ (s : State) (a : Word) (n : BitVec 16) (l : List Word), s.devThere 1 = true ∧ s.usb.ctl = some (.regWrite a n l)) ∧
    (∃ (s : State) (a : Word) (n : BitVec 16) (l : List Word), s.devThere 1 = true ∧ regForm a.toNat n.toNat = true ∧ 4 * l.length = n.toNat) ∧
    (∃ (s : State), s.devThere 1 = true ∧ s.testMode = true) ∧
    (∃ (s : State) (d : UsbDevice), s.devThere (devNo d) = true) ∧
    (∃ (s : State) (d : UsbDevice) (a : BitVec 7), s.devThere (devNo d) = true ∧ s.usb.ctl = some (.setAddress d a)) ∧
    (∃ (s : State) (d : UsbDevice) (c : BitVec 8), s.devThere (devNo d) = true ∧ s.usb.ctl = some (.setConfiguration d c)) ∧
    (∃ (s : State) (d : UsbDevice) (f : UsbFeature), s.devThere (devNo d) = true ∧ s.usb.ctl = some (.setFeature d f)) ∧
    (∃ (s : State) (d : UsbDevice) (f : UsbFeature), s.devThere (devNo d) = true ∧ s.usb.ctl = some (.clearFeature d f)) ∧
    (∃ (s : State), s.devCfg 1 ≠ 0 ∧ s.halted 1 1 = false ∧ s.get F.SVC_WAKE_LOG_REASON = s.usb.ep1) ∧
    (∃ (s : State), s.devCfg 1 ≠ 0 ∧ s.halted 1 1 = false ∧ s.get F.SVC_WAKE_LOG_REASON ≠ s.usb.ep1) ∧
    (∃ (s : State) (t : State) (n : Nat) (a : Nat) (b : List (BitVec 8)), s.devCfg 1 = 2 ∧ s.ep2Take 8 = (t, some (1, n, a, b))) ∧
    (∃ (s : State) (t : State) (n : Nat) (a : Nat) (b : List (BitVec 8)) (r : State × Nat), s.devCfg 1 = 2 ∧ s.ep2Take 8 = (t, some (2, n, a, b)) ∧ r
      = (t.ep2Drop 2 n).writeRun a ((List.range n).map (fun i => leNat ((b.drop (4 * i)).take 4)))) ∧
    (∃ (s : State) (b : List (BitVec 8)), s.devCfg 1 = 2 ∧ b.length ≤ s.ep2Max) ∧
    (∃ (s : State), s.devCfg 1 = 2 ∧ s.usb.high = true ∧ s.halted 1 2 = false ∧ s.usb.bufs.length < 2) ∧
    (∃ (s : State), s.devCfg 1 = 2 ∧ s.usb.high = true ∧ s.halted 1 2 = false ∧ 2 ≤ s.usb.bufs.length) ∧
    (∃ (s : State) (img : FwImage), s.devCfg 2 ≠ 0 ∧ s.get F.START_STAT_PHASE = 6 ∧ s.imageResult img = 1) ∧
    (∃ (s : State) (img : FwImage), s.devCfg 2 ≠ 0 ∧ s.get F.START_STAT_PHASE = 6 ∧ s.imageResult img ≠ 1) ∧
    (∃ (s : State), s.devCfg 3 ≠ 0) ∧
    (∃ (s : State), (s.wakeBy 2).isDark = false) ∧
    (∃ (s : State) (r : Nat × State), (s.wakeBy 2).isDark = false ∧ r = (s.wakeBy 2).read .smbus (s.wakeBy 2).smbPtr) ∧
    (∃ (s : State) (r : Fin 3), s.usbUp = true ∧ hasBit (s.get F.SVC_WAKE_EN_SRC) r = true ∧ s.usbSuspended = false) ∧
    (∃ (s : State) (n : Fin 16) (on : Bool), hasBit (s.get F.SVC_PORTS_CONN) n ≠ on) :=
  ⟨⟨(hub []), by decide +kernel⟩,
    ⟨{ (hub [(F.SVC_CTRL_EN, 1), (F.SVC_CTRL_FUNC_EN, 7)]) with usb := { vbus := true, devs := [(1, { cfg := 2 }), (2, { cfg := 1 }), (3,
                                                                         { cfg := 1 })] } }, by decide +kernel⟩,
    ⟨{ (hub [(F.SVC_CTRL_EN, 1), (F.SVC_CTRL_FUNC_EN, 7)]) with usb := { vbus := true, devs := [(1, { cfg := 2 }), (2, { cfg := 1 }), (3,
                                                                         { cfg := 1 })] } }, by decide +kernel⟩,
    ⟨{ (hub [(F.SVC_CTRL_EN, 1), (F.SVC_CTRL_FUNC_EN, 7)]) with usb := { vbus := true, devs := [(1, { cfg := 2 }), (2, { cfg := 1 }), (3,
                                                                         { cfg := 1 })] } }, by decide +kernel⟩,
    ⟨{ (hub [(F.SVC_CTRL_EN, 1), (F.SVC_CTRL_FUNC_EN, 7)]) with usb := { vbus := true, devs := [(1, { cfg := 2 }), (2, { cfg := 1 }), (3,
                                                                         { cfg := 1 })], sus := some 0 } }, by decide +kernel⟩,
    ⟨{ (hub [(F.SVC_CTRL_EN, 1), (F.SVC_CTRL_FUNC_EN, 7)]) with usb := { vbus := true, devs := [(1, { cfg := 2 }), (2, { cfg := 1 }), (3,
                                                                         { cfg := 1 })] } }, 0, 0, by decide +kernel⟩,
    ⟨{ (hub [(F.SVC_CTRL_EN, 1), (F.SVC_CTRL_FUNC_EN, 7)]) with usb := { vbus := true, devs := [(1, { cfg := 2 }), (2, { cfg := 1 }), (3,
                                                                         { cfg := 1 })] } }, 0, 256,
      (((({ (hub [(F.SVC_CTRL_EN, 1), (F.SVC_CTRL_FUNC_EN, 7)]) with usb := { vbus := true, devs := [(1, { cfg := 2 }), (2, { cfg := 1 }), (3,
                                                                              { cfg := 1 })] } }) : State).mapUsb (fun u =>
      { u with ctl := none })).readRun ((0) : Word).toNat (((256) : BitVec 16).toNat / 4)), by decide +kernel, by decide +kernel, rfl⟩,
    ⟨{ (hub [(F.SVC_CTRL_EN, 1), (F.SVC_CTRL_FUNC_EN, 7)]) with usb := { vbus := true, devs := [(1, { cfg := 2 }), (2, { cfg := 1 }), (3,
                                                                         { cfg := 1 })], ctl := some (.regWrite 0 0 []) } }, 0, 0, [],
      by decide +kernel⟩,
    ⟨{ (hub [(F.SVC_CTRL_EN, 1), (F.SVC_CTRL_FUNC_EN, 7)]) with usb := { vbus := true, devs := [(1, { cfg := 2 }), (2, { cfg := 1 }), (3,
                                                                         { cfg := 1 })] } }, 0, 4, [0], by decide +kernel⟩,
    ⟨{ (hub [(F.SVC_CTRL_EN, 1), (F.SVC_CTRL_FUNC_EN, 7), (F.LC_STAT_STATE, 1)]) with usb := { vbus := true, devs := [(1, { cfg := 2 }), (2,
                                                                                               { cfg := 1 }), (3, { cfg := 1 })] } },
      by decide +kernel⟩,
    ⟨{ (hub [(F.SVC_CTRL_EN, 1), (F.SVC_CTRL_FUNC_EN, 7)]) with usb := { vbus := true, devs := [(1, { cfg := 2 }), (2, { cfg := 1 }), (3,
                                                                         { cfg := 1 })] } }, .hub, by decide +kernel⟩,
    ⟨{ (hub [(F.SVC_CTRL_EN, 1), (F.SVC_CTRL_FUNC_EN, 7)]) with usb := { vbus := true, devs := [(1, { cfg := 2 }), (2, { cfg := 1 }), (3,
                                                                         { cfg := 1 })], ctl := some (.setAddress .hub 0) } }, .hub, 0,
      by decide +kernel⟩,
    ⟨{ (hub [(F.SVC_CTRL_EN, 1), (F.SVC_CTRL_FUNC_EN, 7)]) with usb := { vbus := true, devs := [(1, { cfg := 2 }), (2, { cfg := 1 }), (3,
                                                                         { cfg := 1 })], ctl := some (.setConfiguration .hub 0) } }, .hub, 0,
      by decide +kernel⟩,
    ⟨{ (hub [(F.SVC_CTRL_EN, 1), (F.SVC_CTRL_FUNC_EN, 7)]) with usb := { vbus := true, devs := [(1, { cfg := 2 }), (2, { cfg := 1 }), (3,
                                                                         { cfg := 1 })], ctl := some (.setFeature .hub .remoteWake) } }, .hub,
      .remoteWake, by decide +kernel⟩,
    ⟨{ (hub [(F.SVC_CTRL_EN, 1), (F.SVC_CTRL_FUNC_EN, 7)]) with usb := { vbus := true, devs := [(1, { cfg := 2 }), (2, { cfg := 1 }), (3,
                                                                         { cfg := 1 })], ctl := some (.clearFeature .hub .remoteWake) } }, .hub,
      .remoteWake, by decide +kernel⟩,
    ⟨{ (hub [(F.SVC_CTRL_EN, 1), (F.SVC_CTRL_FUNC_EN, 7)]) with usb := { vbus := true, devs := [(1, { cfg := 2 }), (2, { cfg := 1 }), (3,
                                                                         { cfg := 1 })] } }, by decide +kernel⟩,
    ⟨{ (hub [(F.SVC_CTRL_EN, 1), (F.SVC_CTRL_FUNC_EN, 7)]) with usb := { vbus := true, devs := [(1, { cfg := 2 }), (2, { cfg := 1 }), (3,
                                                                         { cfg := 1 })], ep1 := 1 } }, by decide +kernel⟩,
    ⟨{ (hub [(F.SVC_CTRL_EN, 1), (F.SVC_CTRL_FUNC_EN, 7)]) with usb := { vbus := true, devs := [(1, { cfg := 2 }), (2, { cfg := 1 }), (3,
                                                                         { cfg := 1 })], cmd := [1, 0, 1, 0, 0x40, 0, 0, 0] } },
      { (hub [(F.SVC_CTRL_EN, 1), (F.SVC_CTRL_FUNC_EN, 7)]) with usb := { vbus := true, devs := [(1, { cfg := 2 }), (2, { cfg := 1 }), (3,
                                                                          { cfg := 1 })], cmd := [1, 0, 1, 0, 0x40, 0, 0, 0] } }, 1, 0x40, [],
      by decide +kernel⟩,
    ⟨{ (hub [(F.SVC_CTRL_EN, 1), (F.SVC_CTRL_FUNC_EN, 7)]) with usb := { vbus := true, devs := [(1, { cfg := 2 }), (2, { cfg := 1 }), (3,
                                                                         { cfg := 1 })], cmd := [2, 0, 1, 0, 0x40, 0, 0, 0, 9, 0, 0, 0] } },
      { (hub [(F.SVC_CTRL_EN, 1), (F.SVC_CTRL_FUNC_EN, 7)]) with usb := { vbus := true, devs := [(1, { cfg := 2 }), (2, { cfg := 1 }), (3,
                                                                          { cfg := 1 })], cmd := [2, 0, 1, 0, 0x40, 0, 0, 0, 9, 0, 0, 0] } }, 1,
      0x40, [9, 0, 0, 0], (((({ (hub [(F.SVC_CTRL_EN, 1), (F.SVC_CTRL_FUNC_EN, 7)]) with usb := { vbus := true, devs := [(1, { cfg := 2 }), (2,
                                                                                                  { cfg := 1 }), (3, { cfg := 1 })], cmd := [2, 0, 1,
      0, 0x40, 0, 0, 0, 9, 0, 0, 0] } }) : State).ep2Drop 2 ((1) : Nat)).writeRun ((0x40) : Nat) ((List.range ((1) : Nat)).map (fun i => leNat
      (((([9, 0, 0, 0]) : List (BitVec 8)).drop (4 * i)).take 4)))), by decide +kernel, by decide +kernel, rfl⟩,
    ⟨{ (hub [(F.SVC_CTRL_EN, 1), (F.SVC_CTRL_FUNC_EN, 7)]) with usb := { vbus := true, devs := [(1, { cfg := 2 }), (2, { cfg := 1 }), (3,
                                                                         { cfg := 1 })] } }, (List.replicate 64 0), by decide +kernel⟩,
    ⟨{ (hub [(F.SVC_CTRL_EN, 1), (F.SVC_CTRL_FUNC_EN, 7)]) with usb := { vbus := true, devs := [(1, { cfg := 2 }), (2, { cfg := 1 }), (3,
                                                                         { cfg := 1 })], high := true, bufs := [[]] } }, by decide +kernel⟩,
    ⟨{ (hub [(F.SVC_CTRL_EN, 1), (F.SVC_CTRL_FUNC_EN, 7)]) with usb := { vbus := true, devs := [(1, { cfg := 2 }), (2, { cfg := 1 }), (3,
                                                                         { cfg := 1 })], high := true, bufs := [[], []] } }, by decide +kernel⟩,
    ⟨{ { (hub [(F.SVC_CTRL_EN, 1), (F.SVC_CTRL_FUNC_EN, 7), (F.START_STAT_PHASE, 6)]) with usb := { vbus := true, devs := [(1, { cfg := 2 }), (2,
                                                                                                    { cfg := 1 }), (3, { cfg := 1 })] } } with otp :=
      { recs := [(2, List.replicate 12 0)] } }, ⟨true, 0, true, 0, 0, []⟩, by decide +kernel⟩,
    ⟨{ (hub [(F.SVC_CTRL_EN, 1), (F.SVC_CTRL_FUNC_EN, 7), (F.START_STAT_PHASE, 6)]) with usb := { vbus := true, devs := [(1, { cfg := 2 }), (2,
                                                                                                  { cfg := 1 }), (3, { cfg := 1 })] } }, ⟨true, 0,
      true, 0, 0, []⟩, by decide +kernel⟩,
    ⟨{ { (hub [(F.SVC_CTRL_EN, 1), (F.SVC_CTRL_FUNC_EN, 7)]) with usb := { vbus := true, devs := [(1, { cfg := 2 }), (2, { cfg := 1 }), (3,
                                                                           { cfg := 1 })] } } with pwr :=
      { (hub []).pwr with image := some ⟨true, 0, true, 0, 0, []⟩ } }, by decide +kernel⟩,
    ⟨(hub []), by decide +kernel⟩,
    ⟨(hub []), (((((hub [])) : State).wakeBy 2).read .smbus ((((hub [])) : State).wakeBy 2).smbPtr), by decide +kernel, rfl⟩,
    ⟨{ hub [(F.SVC_CTRL_EN, 1), (F.SVC_WAKE_EN_SRC, 4)] with usb := { vbus := true } }, 2, by decide +kernel⟩,
    ⟨(hub []), 15, true, by decide +kernel⟩⟩

end Sys2Proof.Tests
end

section
/-! A refused write (R18, R19): when the hub judges a write as refused, what the refusal records, and what it leaves as it was. -/

namespace Sys2Proof.Machine

/-! ### What a refusal records -/

/-- Every reason's code fits the four bits of ACC_ERR_LOG.REASON. -/
theorem reasonCode_lt (r : Reason) : reasonCode r < 2 ^ 4 := by cases r <;> decide

/-- Every requester's code fits the eight bits of ACC_ERR_LOG.REQ. -/
theorem pathCode_lt (p : Path) : pathCode p < 2 ^ 8 := by
  cases p with
  | host h => exact Nat.lt_trans h.isLt (by decide)
  | engine e =>
    have he := e.isLt
    simp only [pathCode]
    split <;> omega
  | mgmt | smbus | svcUsb => decide

/-- A saturating count never leaves its width. -/
theorem satAdd_lt (w v d : Nat) : satAdd w v d < 2 ^ w := by
  have hpos : 0 < 2 ^ w := Nat.two_pow_pos w
  unfold satAdd
  omega

/-- A counter that saturates reads the saturated sum. -/
theorem State.get_sat (s : State) (f : Fld) (d : Nat) : (s.sat f d).get f = satAdd f.width (s.get f) d := by
  unfold State.sat
  rw [State.get_set, Nat.mod_eq_of_lt (satAdd_lt ..)]

/-- A field other than the counter is as it was. -/
theorem State.get_sat_ne (s : State) {f g : Fld} (d : Nat) (h : g.key ≠ f.key) : (s.sat f d).get g = s.get g :=
  State.get_set_ne s _ h

theorem State.refuse_get_count (s : State) (p : Path) (addr : Nat) (r : Reason) :
    (s.refuse p addr r).get F.ACC_ERR_COUNT_COUNT = satAdd 32 (s.get F.ACC_ERR_COUNT_COUNT) 1 := by
  unfold State.refuse
  rw [State.raise_get, State.get_set_ne _ _ (by decide), State.get_set_ne _ _ (by decide), State.get_set_ne _ _ (by decide)]
  exact State.get_sat ..

theorem State.refuse_get_reason (s : State) (p : Path) (addr : Nat) (r : Reason) :
    (s.refuse p addr r).get F.ACC_ERR_LOG_REASON = reasonCode r := by
  unfold State.refuse
  rw [State.raise_get, State.get_set_ne _ _ (by decide), State.get_set_ne _ _ (by decide), State.get_set]
  exact Nat.mod_eq_of_lt (reasonCode_lt r)

theorem State.refuse_get_req (s : State) (p : Path) (addr : Nat) (r : Reason) :
    (s.refuse p addr r).get F.ACC_ERR_LOG_REQ = pathCode p := by
  unfold State.refuse
  rw [State.raise_get, State.get_set_ne _ _ (by decide), State.get_set]
  exact Nat.mod_eq_of_lt (pathCode_lt p)

theorem State.refuse_get_offset (s : State) (p : Path) {addr : Nat} (r : Reason) (h : addr < 2 ^ 26) :
    (s.refuse p addr r).get F.ACC_ERR_ADDR_OFFSET = addr := by
  unfold State.refuse
  rw [State.raise_get, State.get_set]
  exact Nat.mod_eq_of_lt h

/-- A refusal writes no field but the four of its record (R19). -/
theorem State.refuse_get_ne (s : State) (p : Path) (addr : Nat) (r : Reason) {f : Fld} (hcount : f.key ≠ F.ACC_ERR_COUNT_COUNT.key)
    (hreason : f.key ≠ F.ACC_ERR_LOG_REASON.key) (hreq : f.key ≠ F.ACC_ERR_LOG_REQ.key) (hoffset : f.key ≠ F.ACC_ERR_ADDR_OFFSET.key) :
    (s.refuse p addr r).get f = s.get f := by
  unfold State.refuse
  rw [State.raise_get, State.get_set_ne _ _ hoffset, State.get_set_ne _ _ hreq, State.get_set_ne _ _ hreason, State.get_sat_ne _ _ hcount]

theorem State.refuse_evStat (s : State) (p : Path) (addr : Nat) (r : Reason) : (s.refuse p addr r).evStat 34 = true :=
  State.raise_evStat _ (ev := 34) (q := (0x2000, 2)) (by decide)

/-! ### The writes that are refused -/

/-- A write in view with a byte enable clear is refused as partial, whatever its register (R18). -/
theorem State.judge_partial {s : State} {p : Path} {addr be : Nat} (v : Nat) (hd : s.isDark = false) (hv : s.inView p addr = true)
    (hbe : be ≠ 15) : s.judge p addr v be = .refused .partialWrite := by
  unfold State.judge
  simp [hd, hv, hbe]

/-- What a refused write does, whatever effect the write would have had. -/
def State.refusal (s : State) (p : Path) (addr : Nat) (r : Reason) : State :=
  (s.refuse p addr r).raiseIf (r == .lifeCycle && addr == 0x1044) 49

theorem State.writeVia_refused {s : State} {p : Path} {addr v be : Nat} {r : Reason} (h : s.judge p addr v be = .refused r)
    (eff : State → State) : s.writeVia p addr v be eff = s.refusal p addr r := by
  unfold State.writeVia
  rw [h]
  rfl

/-- A write of a word that is refused ends so at every register, those of commits and aborts too. -/
theorem State.writeWord_refused {s : State} {p : Path} {addr v be : Nat} {r : Reason} (h : s.judge p addr v be = .refused r) :
    s.writeWord p addr v be = s.refusal p addr r := by
  unfold State.writeWord
  split
  · exact State.writeVia_refused h _
  · split <;> exact State.writeVia_refused h _

theorem State.refusal_get (s : State) (p : Path) (addr : Nat) (r : Reason) (f : Fld) :
    (s.refusal p addr r).get f = (s.refuse p addr r).get f := State.raiseIf_get ..

theorem State.refusal_evStat (s : State) (p : Path) (addr : Nat) (r : Reason) : (s.refusal p addr r).evStat 34 = true :=
  State.raiseIf_kept _ _ _ 34 (State.refuse_evStat ..)

/-- A refused write reaches the registers and the signals only. -/
theorem State.refusal_same (s : State) (p : Path) (addr : Nat) (r : Reason) : Same 67108853 s (s.refusal p addr r) :=
  Same.step (m := 67108855) (by decide) (State.raiseIf_same ..) (State.refuse_same ..)

/-- Every part but the registers and the signals has its bit in the mask of `State.refusal_same`. -/
theorem StatePart.bit_of_ne_regs_sig {q : StatePart} (hr : q ≠ .regs) (hs : q ≠ .sig) : Nat.testBit 67108853 q.no = true := by
  cases q with
  | regs => exact absurd rfl hr
  | sig => exact absurd rfl hs
  | _ => decide

/-- A partial write leaves no further event behind: EV0049 is for the life cycle. -/
theorem State.refusal_partial (s : State) (p : Path) (addr : Nat) : s.refusal p addr .partialWrite = s.refuse p addr .partialWrite := rfl

/-! ### The two registers of a write that is not aligned -/

/-- A whole word at an offset that is not aligned has its low enables in the first register and the others in the second (R18). -/
theorem State.write_unaligned (s : State) (p : Path) {addr : Nat} (v : Nat) (h : addr % 4 ≠ 0) :
    s.write p addr v 15 = (s.writeVia p (addr / 4 * 4) v (15 * 2 ^ (addr % 4) % 16) (fun s => s)).writeVia p
      ((addr / 4 * 4 + 4) % 2 ^ 26) v (15 * 2 ^ (addr % 4) / 16) (fun s => s) := by
  have hk : addr % 4 = 1 ∨ addr % 4 = 2 ∨ addr % 4 = 3 := by omega
  unfold State.write
  rcases hk with hk | hk | hk <;> simp [hk]

/-- The first register of a write that is not aligned never has all four byte enables. -/
theorem unaligned_enables_ne {k : Nat} (h : k % 4 ≠ 0) : 15 * 2 ^ (k % 4) % 16 ≠ 15 := by
  have hk : k % 4 = 1 ∨ k % 4 = 2 ∨ k % 4 = 3 := by omega
  rcases hk with hk | hk | hk <;> simp [hk]

theorem exec_registerWrite_word (s : State) (p : Path) (addr : BitVec 26) (v : Word) (be : BitVec 4) :
    exec (.registerWrite p addr [v] [be]) s = .next (s.write p addr.toNat v.toNat be.toNat) := rfl

theorem State.write_aligned (s : State) (p : Path) {addr : Nat} (v be : Nat) (h : addr % 4 = 0) :
    s.write p addr v be = s.writeWord p addr v be := by
  unfold State.write
  simp only [if_pos h]

/-- Settles O10: an unaligned write's first register is judged partial; a refused write is `State.refusal`, whose fields and frame are
known. -/
theorem refusedWriteIsLoggedAndChangesNothing : Obligations.RefusedWriteIsLoggedAndChangesNothing := by
  refine ⟨fun s p addr v hodd hdark hview => ?_, fun s p addr v be r halign hrefused => ?_⟩
  · have hfirst := State.judge_partial v.toNat hdark hview (unaligned_enables_ne hodd)
    rw [exec_registerWrite_word, show (15 : BitVec 4).toNat = 15 from rfl, State.write_unaligned _ _ _ hodd,
      State.writeVia_refused hfirst, State.refusal_partial]
  · refine ⟨s.refusal p addr.toNat r, ?_, ?_⟩
    · rw [exec_registerWrite_word, State.write_aligned _ _ _ _ halign, State.writeWord_refused hrefused]
    · simp only [State.refusal_get]
      exact ⟨State.refuse_get_count .., State.refuse_get_reason .., State.refuse_get_req .., State.refuse_get_offset _ _ _ addr.isLt,
        State.refusal_evStat .., fun f hcount hreason hreq hoffset => State.refuse_get_ne _ _ _ _ hcount hreason hreq hoffset,
        fun q hregs hsig => (State.refusal_same ..).part q (StatePart.bit_of_ne_regs_sig hregs hsig)⟩

end Sys2Proof.Machine
end

section
/-! The judgment of TXN_COMMIT and TXN_ABORT (R39): one equation per row of its table, for the slot that the written word names. -/

namespace Sys2Proof.Machine

/-- A row for a stale tag: the slot that the word names is free, or has moved on to another generation. -/
def State.tagStale (s : State) (v : Nat) : Prop := (s.slot (bits v 0 3)).state = .free ∨ (s.slot (bits v 0 3)).gen ≠ bits v 12 4

/-- A row for a foreign path: it has not opened the transaction and is not requester 0x20. -/
def State.foreign (s : State) (p : Path) (v : Nat) : Prop := (s.slot (bits v 0 3)).opener ≠ pathCode p ∧ pathCode p ≠ 0x20

/-! ### TXN_COMMIT -/

theorem State.txnCommit_stale {s : State} (p : Path) {v : Nat} (h : s.tagStale v) : s.txnCommit p v = s.stale 5 := if_pos h

theorem State.txnCommit_foreign {s : State} {p : Path} {v : Nat} (ht : ¬ s.tagStale v) (hp : s.foreign p v) :
    s.txnCommit p v = s.refuse p 0x2050 .notOwner := (if_neg ht).trans (if_pos hp)

/-! A commit that the transaction's own path or requester 0x20 writes with the slot's tag: the slot's state decides. -/

theorem State.txnCommit_armed {s : State} {p : Path} {v : Nat} (ht : ¬ s.tagStale v) (hp : ¬ s.foreign p v)
    (h : (s.slot (bits v 0 3)).state = .armed) : s.txnCommit p v = s.refuse p 0x2050 .badCond :=
  (if_neg ht).trans ((if_neg hp).trans (by rw [h]))

theorem State.txnCommit_broken {s : State} {p : Path} {v : Nat} (ht : ¬ s.tagStale v) (hp : ¬ s.foreign p v)
    (h : (s.slot (bits v 0 3)).state = .broken) : s.txnCommit p v = s.dropSlot (bits v 0 3) 7 :=
  (if_neg ht).trans ((if_neg hp).trans (by rw [h]))

theorem State.txnCommit_opened {s : State} {p : Path} {v : Nat} (ht : ¬ s.tagStale v) (hp : ¬ s.foreign p v)
    (h : (s.slot (bits v 0 3)).state = .opened) : s.txnCommit p v =
      if 4 ≤ bits v 16 4 then s.refuse p 0x2050 .badCond else (s.armSlot (bits v 0 3) (pathCode p) v).settled :=
  (if_neg ht).trans ((if_neg hp).trans (by rw [h]))

/-! ### TXN_ABORT -/

theorem State.txnAbort_stale {s : State} (p : Path) {v : Nat} (h : s.tagStale v) : s.txnAbort p v = s.stale 5 := if_pos h

theorem State.txnAbort_foreign {s : State} {p : Path} {v : Nat} (ht : ¬ s.tagStale v) (hp : s.foreign p v) :
    s.txnAbort p v = s.refuse p 0x2054 .notOwner := (if_neg ht).trans (if_pos hp)

/-- An abort that its own path or requester 0x20 writes with the slot's tag: a slot whose commit drains is past aborting. -/
theorem State.txnAbort_own {s : State} {p : Path} {v : Nat} (ht : ¬ s.tagStale v) (hp : ¬ s.foreign p v) :
    s.txnAbort p v = if (s.slot (bits v 0 3)).drain then s.stale 5 else s.dropSlot (bits v 0 3) 3 := (if_neg ht).trans (if_neg hp)

/-! ### The commands -/

theorem exec_txnCommit_of_takes {s : State} {p : Path} {v : Word} (h : s.takes p 0x2050 v.toNat) :
    exec (.txnCommit p v) s = .next (s.txnCommit p v.toNat) := congrArg Host.Outcome.next (State.writeVia_direct h _)

theorem exec_txnAbort_of_takes {s : State} {p : Path} {v : Word} (h : s.takes p 0x2054 v.toNat) :
    exec (.txnAbort p v) s = .next (s.txnAbort p v.toNat) := congrArg Host.Outcome.next (State.writeVia_direct h _)

/-- Settles O18, row by row of R39's table. -/
theorem commitsAndAbortsAreJudgedInOrder : Obligations.CommitsAndAbortsAreJudgedInOrder := by
  rintro s p v i x rfl rfl
  refine ⟨fun hw hstale => ?_, fun hw hstale => ?_, fun hstate hgen hopener hmgmt => ?_, fun hstate hgen hpath => ?_⟩
  · rw [exec_txnCommit_of_takes hw, State.txnCommit_stale p hstale]
  · rw [exec_txnAbort_of_takes hw, State.txnAbort_stale p hstale]
  · have hfresh : ¬ s.tagStale v.toNat := fun hstale => hstale.elim hstate (fun hne => hne hgen)
    have hforeign : s.foreign p v.toNat := ⟨hopener, hmgmt⟩
    refine ⟨fun hw => ?_, fun hw => ?_⟩
    · rw [exec_txnCommit_of_takes hw, State.txnCommit_foreign hfresh hforeign]
    · rw [exec_txnAbort_of_takes hw, State.txnAbort_foreign hfresh hforeign]
  · have hfresh : ¬ s.tagStale v.toNat := fun hstale => hstale.elim hstate (fun hne => hne hgen)
    have hown : ¬ s.foreign p v.toNat := fun ⟨hopener, hmgmt⟩ => hpath.elim hopener hmgmt
    refine ⟨fun hw => ?_, fun hw => ?_⟩
    · rw [exec_txnCommit_of_takes hw]
      refine ⟨fun harmed => ?_, fun hbroken => ?_, fun hopened hcond => ?_, fun hopened hcond => ?_⟩
      · rw [State.txnCommit_armed hfresh hown harmed]
      · rw [State.txnCommit_broken hfresh hown hbroken]
      · rw [State.txnCommit_opened hfresh hown hopened, if_pos hcond]
      · rw [State.txnCommit_opened hfresh hown hopened, if_neg (Nat.not_le.mpr hcond)]
    · rw [exec_txnAbort_of_takes hw, State.txnAbort_own hfresh hown]
      exact ⟨fun hdrain => by rw [if_pos hdrain], fun hdrain => by rw [if_neg (by simp [hdrain])]⟩

end Sys2Proof.Machine
end

section
/-! The failure of a spare plane (R104): the branch of `State.planeFail` that it takes, and what that branch writes and leaves. -/

namespace Sys2Proof.Machine

/-! ### The fields it writes -/

/-- PLANE_STAT's field of a plane is P0, P1 or P2. -/
theorem planeStat_cases (p : Nat) : planeStat p = F.PLANE_STAT_P0 ∨ planeStat p = F.PLANE_STAT_P1 ∨ planeStat p = F.PLANE_STAT_P2 := by
  unfold planeStat
  split
  · exact .inl rfl
  · split
    · exact .inr (.inl rfl)
    · exact .inr (.inr rfl)

/-- The two bits of a plane's state hold FAILED. -/
theorem failed_lt_planeStat (p : Nat) : 2 < 2 ^ (planeStat p).width := by
  rcases planeStat_cases p with h | h | h <;> rw [h] <;> decide

/-- A field whose width holds the value written reads it whole. -/
theorem State.get_set_of_lt (s : State) {f : Fld} {v : Nat} (h : v < 2 ^ f.width) : (s.set f v).get f = v :=
  (State.get_set s f v).trans (Nat.mod_eq_of_lt h)

/-- PLANE_MAP lies outside PLANE_STAT: a plane's state and the map are written apart. -/
theorem planeMap_key_ne_planeStat (p : Nat) : F.PLANE_MAP_L0.key ≠ (planeStat p).key ∧ F.PLANE_MAP_L1.key ≠ (planeStat p).key ∧
    F.PLANE_MAP_SPARE.key ≠ (planeStat p).key := by
  rcases planeStat_cases p with h | h | h <;> rw [h] <;> decide

/-- An entry of the soft repair map (R446) writes no field but REP_LOG.ELEM. -/
theorem State.softRecord_get_ne (s : State) (cls inst detail spare : Nat) {f : Fld} (h : f.key ≠ F.REP_LOG_ELEM.key) :
    (s.softRecord cls inst detail spare).get f = s.get f := by
  unfold State.softRecord
  extract_lets
  split
  · rfl
  · exact (State.raise_get ..).trans (State.get_set_ne _ _ h)

/-! ### What it does -/

/-- What the failure of the spare plane does (R104, and its entry of R446). -/
def State.spareFail (s : State) (p : Nat) : State :=
  (((s.softRecord 3 p 0).set (planeStat p) 2).set F.PLANE_MAP_SPARE 3).raise 2818

/-- A working plane that PLANE_MAP names as the spare fails so. -/
theorem State.planeFail_of_spare {s : State} {p : Nat} (hfailed : s.get (planeStat p) ≠ 2) (hstopped : s.sw.stopped = false)
    (hspare : s.get F.PLANE_MAP_SPARE = p) : s.planeFail p = s.spareFail p := by
  have hworks : ¬ (s.get (planeStat p) = 2 ∨ s.sw.stopped = true) := fun h =>
    h.elim hfailed (fun hs => Bool.noConfusion (hstopped.symm.trans hs))
  exact (if_neg hworks).trans (if_pos hspare)

theorem State.spareFail_get_planeStat (s : State) (p : Nat) : (s.spareFail p).get (planeStat p) = 2 := by
  obtain ⟨-, -, hmap⟩ := planeMap_key_ne_planeStat p
  unfold State.spareFail
  rw [State.raise_get, State.get_set_ne _ _ hmap.symm, State.get_set_of_lt _ (failed_lt_planeStat p)]

theorem State.spareFail_get_spare (s : State) (p : Nat) : (s.spareFail p).get F.PLANE_MAP_SPARE = 3 :=
  (State.raise_get ..).trans (State.get_set_of_lt _ (by decide))

/-- It writes no field but the plane's state, the spare's number and the repair map's log. -/
theorem State.spareFail_get_ne (s : State) (p : Nat) {f : Fld} (hstat : f.key ≠ (planeStat p).key) (hspare : f.key ≠ F.PLANE_MAP_SPARE.key)
    (hlog : f.key ≠ F.REP_LOG_ELEM.key) : (s.spareFail p).get f = s.get f := by
  unfold State.spareFail
  rw [State.raise_get, State.get_set_ne _ _ hspare, State.get_set_ne _ _ hstat, State.softRecord_get_ne _ _ _ _ _ hlog]

theorem State.spareFail_evStat (s : State) (p : Nat) : (s.spareFail p).evStat 2818 = true :=
  State.raise_evStat _ (ev := 2818) (q := (0x500000, 2)) (by decide)

/-- It reaches the registers, the signals and the soft repair map only: no cell, queue or pointer of the switch. -/
theorem State.spareFail_same (s : State) (p : Nat) : Same 67100661 s (s.spareFail p) :=
  Same.step (by decide) (State.raise_same ..) <| Same.step (by decide) (State.set_same ..) <|
    Same.step (by decide) (State.set_same ..) (State.softRecord_same ..)

/-- Settles O33: the failure takes the spare's branch of `State.planeFail`, whose writes and frame are known. -/
theorem sparePlaneFailureMovesNoTraffic : Obligations.SparePlaneFailureMovesNoTraffic := by
  intro s pl hfailed hstopped hspare
  obtain ⟨hl0, hl1, -⟩ := planeMap_key_ne_planeStat pl.val
  refine ⟨s.spareFail pl.val, ?_, State.spareFail_get_planeStat .., State.spareFail_get_spare .., State.spareFail_evStat ..,
    (State.spareFail_same ..).part .sw (by decide), ?_, ?_⟩
  · exact congrArg Host.Outcome.next (State.planeFail_of_spare hfailed hstopped hspare)
  · exact State.spareFail_get_ne _ _ hl0 (by decide) (by decide)
  · exact State.spareFail_get_ne _ _ hl1 (by decide) (by decide)

end Sys2Proof.Machine
end

section
/-! The block as a whole: every command answers, what a command leaves as it was (one line for each command of
Machine/Dispatch.lean, by its lemma of Laws/Runs*.lean), and the invariants that every step keeps. -/

namespace Sys2Proof.Machine

/-! ### The frame of a command as a list of parts -/

/-- A command goes on and leaves every part outside the list as it was. -/
def Reaches (l : List StatePart) (s : State) (o : Host.Outcome State Fault Refusal) : Prop := ∃ t, o = .next t ∧ ∀ p, p ∉ l → p.same s t

/-- With the bits of the listed parts a mask has all 26. -/
def fillsMask : List StatePart → Nat → Bool
  | [], k => k == 67108863
  | p :: l, k => fillsMask l (Nat.lor (2 ^ p.no) k)

/-- A part's number is its place in the list of all. -/
theorem StatePart.getElem?_no (p : StatePart) : (StatePart.pending :: everyPart)[p.no]? = some p := by cases p <;> rfl

theorem StatePart.no_inj {p q : StatePart} (h : p.no = q.no) : p = q :=
  Option.some.inj (p.getElem?_no.symm.trans (h ▸ q.getElem?_no))

/-- The bit of a part outside the list stands in the mask itself. -/
theorem testBit_of_fillsMask {p : StatePart} {l : List StatePart} (hp : p ∉ l) {k : Nat} (hk : fillsMask l k = true) : k.testBit p.no = true := by
  induction l generalizing k with
  | nil =>
    rw [eq_of_beq hk]
    cases p <;> decide
  | cons q l ih =>
    have hno : q.no ≠ p.no := fun e => hp (StatePart.no_inj e ▸ List.mem_cons_self)
    have hbit : (2 ^ q.no ||| k).testBit p.no = true := ih (fun h => hp (List.mem_cons_of_mem q h)) hk
    rwa [Nat.testBit_or, Nat.testBit_two_pow_of_ne hno, Bool.false_or] at hbit

/-- A mask of what stays gives the frame of a list that fills it. -/
theorem Runs.reaches {k : Nat} {l : List StatePart} {s : State} {o : Host.Outcome State Fault Refusal} (h : Runs k s o)
    (hk : fillsMask l k = true) : Reaches l s o := by
  obtain ⟨t, ho, hsame⟩ := h
  exact ⟨t, ho, fun p hp => hsame.part p (testBit_of_fillsMask hp hk)⟩

/-- The frame of every command. -/
theorem exec_reaches (s : State) (c : Instr) : Reaches (touches c) s (exec c s) := by
  cases c with
  | registerWrite => exact (execRegisterWrite_runs ..).reaches rfl
  | ownerWrite => exact (execOwnerWrite_runs ..).reaches rfl
  | pageEnable => exact (execPageEnable_runs ..).reaches rfl
  | txnOpen => exact (execTxnOpen_runs ..).reaches rfl
  | txnCommit => exact (execTxnCommit_runs ..).reaches rfl
  | txnAbort => exact (execTxnAbort_runs ..).reaches rfl
  | atTimeCommit => exact (execAtTimeCommit_runs ..).reaches rfl
  | abortedIdle => exact (execAbortedIdle_runs ..).reaches rfl
  | quarantineEnd => exact (execQuarantineEnd_runs ..).reaches rfl
  | cmdPost => exact (execCmdPost_runs ..).reaches rfl
  | nop => exact (execNop_runs ..).reaches rfl
  | unknownOpcode => exact (execUnknownOpcode_runs ..).reaches rfl
  | evtConsumedWrite => exact (execEvtConsumedWrite_runs ..).reaches rfl
  | resync => exact (execResync_runs ..).reaches rfl
  | ringRestart => exact (execRingRestart_runs ..).reaches rfl
  | ringEnable => exact (execRingEnable_runs ..).reaches rfl
  | nowLoRead => exact (execNowLoRead_runs ..).reaches rfl
  | stepGo => exact (execStepGo_runs ..).reaches rfl
  | slewComplete => exact (execSlewComplete_runs ..).reaches rfl
  | ptpMessage => exact (execPtpMessage_runs ..).reaches rfl
  | ptmDialogue => exact (execPtmDialogue_runs ..).reaches rfl
  | axisTransition => exact (execAxisTransition_runs ..).reaches rfl
  | swDelta => exact (execSwDelta_runs ..).reaches rfl
  | zPulse => exact (execZPulse_runs ..).reaches rfl
  | velUpdate => exact (execVelUpdate_runs ..).reaches rfl
  | axisStopped => exact (execAxisStopped_runs ..).reaches rfl
  | positionCrossing => exact (execPositionCrossing_runs ..).reaches rfl
  | axCmdClear => exact (execAxCmdClear_runs ..).reaches rfl
  | axCmdLoad => exact (execAxCmdLoad_runs ..).reaches rfl
  | tctrlArm => exact (execTctrlArm_runs ..).reaches rfl
  | tctrlDisarm => exact (execTctrlDisarm_runs ..).reaches rfl
  | triggerFire => exact (execTriggerFire_runs ..).reaches rfl
  | pulseEnd => exact (execPulseEnd_runs ..).reaches rfl
  | captureEdge => exact (execCaptureEdge_runs ..).reaches rfl
  | capPop => exact (execCapPop_runs ..).reaches rfl
  | syncEdge => exact (execSyncEdge_runs ..).reaches rfl
  | syncLost => exact (execSyncLost_runs ..).reaches rfl
  | cellArrival => exact (execCellArrival_runs ..).reaches rfl
  | churnMatch => exact (execChurnMatch_runs ..).reaches rfl
  | cellAtOutput => exact (execCellAtOutput_runs ..).reaches rfl
  | cumulativeAck => exact (execCumulativeAck_runs ..).reaches rfl
  | streamNak => exact (execStreamNak_runs ..).reaches rfl
  | ackTimeout => exact (execAckTimeout_runs ..).reaches rfl
  | checkCell => exact (execCheckCell_runs ..).reaches rfl
  | planeFail => exact (execPlaneFail_runs ..).reaches rfl
  | planeForce => exact (execPlaneForce_runs ..).reaches rfl
  | failoverComplete => exact (execFailoverComplete_runs ..).reaches rfl
  | bankRetire => exact (execBankRetire_runs ..).reaches rfl
  | bankCopyComplete => exact (execBankCopyComplete_runs ..).reaches rfl
  | holdRelease => exact (execHoldRelease_runs ..).reaches rfl
  | holdAgeExpiry => exact (execHoldAgeExpiry_runs ..).reaches rfl
  | holdPeakReset => exact (execHoldPeakReset_runs ..).reaches rfl
  | htResultRead => exact (execHtResultRead_runs ..).reaches rfl
  | shaperRefill => exact (execShaperRefill_runs ..).reaches rfl
  | shaperEnable => exact (execShaperEnable_runs ..).reaches rfl
  | coarseSlot => exact (execCoarseSlot_runs ..).reaches rfl
  | axwWidthWrite => exact (execAxwWidthWrite_runs ..).reaches rfl
  | wheelPeakReset => exact (execWheelPeakReset_runs ..).reaches rfl
  | governorWindow => exact (execGovernorWindow_runs ..).reaches rfl
  | governorFirmware => exact (execGovernorFirmware_runs ..).reaches rfl
  | linkIdle => exact (execLinkIdle_runs ..).reaches rfl
  | memrd => exact (execMemrd_runs ..).reaches rfl
  | memrddata => exact (execMemrddata_runs ..).reaches rfl
  | meminv => exact (execMeminv_runs ..).reaches rfl
  | memclnevct => exact (execMemclnevct_runs ..).reaches rfl
  | memwr => exact (execMemwr_runs ..).reaches rfl
  | memwrptl => exact (execMemwrptl_runs ..).reaches rfl
  | memspecrd h dpa => exact (execMemspecrd_runs h dpa s).reaches rfl
  | birspi => exact (execBirspi_runs ..).reaches rfl
  | birsps => exact (execBirsps_runs ..).reaches rfl
  | birspe => exact (execBirspe_runs ..).reaches rfl
  | biconflict => exact (execBiconflict_runs ..).reaches rfl
  | functionMemRead => exact (execFunctionMemRead_runs ..).reaches rfl
  | functionMemWrite => exact (execFunctionMemWrite_runs ..).reaches rfl
  | functionAtomic => exact (execFunctionAtomic_runs ..).reaches rfl
  | expanderMemdata => exact (execExpanderMemdata_runs ..).reaches rfl
  | expanderCmp => exact (execExpanderCmp_runs ..).reaches rfl
  | expanderBisnp m addr => exact (execExpanderBisnp_runs m addr s).reaches rfl
  | completionTimeout => exact (execCompletionTimeout_runs ..).reaches rfl
  | tagFree => exact (execTagFree_runs ..).reaches rfl
  | bisnpTimeout => exact (execBisnpTimeout_runs ..).reaches rfl
  | regionEnable => exact (execRegionEnable_runs ..).reaches rfl
  | regionRecall => exact (execRegionRecall_runs ..).reaches rfl
  | regionRecallEnd => exact (execRegionRecallEnd_runs ..).reaches rfl
  | windowEnable => exact (execWindowEnable_runs ..).reaches rfl
  | windowRecall => exact (execWindowRecall_runs ..).reaches rfl
  | windowRecallEnd => exact (execWindowRecallEnd_runs ..).reaches rfl
  | lossWalkEnd => exact (execLossWalkEnd_runs ..).reaches rfl
  | poolLostClr => exact (execPoolLostClr_runs ..).reaches rfl
  | creamBankFault => exact (execCreamBankFault_runs ..).reaches rfl
  | crDrop => exact (execCrDrop_runs ..).reaches rfl
  | crDisable => exact (execCrDisable_runs ..).reaches rfl
  | sliceFail => exact (execSliceFail_runs ..).reaches rfl
  | sliceForce => exact (execSliceForce_runs ..).reaches rfl
  | reconstructionServing => exact (execReconstructionServing_runs ..).reaches rfl
  | rebuildComplete => exact (execRebuildComplete_runs ..).reaches rfl
  | reflectorFail => exact (execReflectorFail_runs ..).reaches rfl
  | dxFail => exact (execDxFail_runs ..).reaches rfl
  | byAddr => exact (execByAddr_runs ..).reaches rfl
  | byPos => exact (execByPos_runs ..).reaches rfl
  | drainEnd => exact (execDrainEnd_runs ..).reaches rfl
  | drainLimit => exact (execDrainLimit_runs ..).reaches rfl
  | logClr => exact (execLogClr_runs ..).reaches rfl
  | drainMaxReset => exact (execDrainMaxReset_runs ..).reaches rfl
  | hpLinkUp => exact (execHpLinkUp_runs ..).reaches rfl
  | hpLinkDown => exact (execHpLinkDown_runs ..).reaches rfl
  | hpDisable => exact (execHpDisable_runs ..).reaches rfl
  | hpRetrain => exact (execHpRetrain_runs ..).reaches rfl
  | mpLinkUp => exact (execMpLinkUp_runs ..).reaches rfl
  | mpLinkDown => exact (execMpLinkDown_runs ..).reaches rfl
  | mpRetrain => exact (execMpRetrain_runs ..).reaches rfl
  | ltrMessage => exact (execLtrMessage_runs ..).reaches rfl
  | linkStateExit => exact (execLinkStateExit_runs ..).reaches rfl
  | bind => exact (execBind_runs ..).reaches rfl
  | unbind => exact (execUnbind_runs ..).reaches rfl
  | powerControllerOff => exact (execPowerControllerOff_runs ..).reaches rfl
  | unbindGrace => exact (execUnbindGrace_runs ..).reaches rfl
  | writeFence => exact (execWriteFence_runs ..).reaches rfl
  | fenceComplete => exact (execFenceComplete_runs ..).reaches rfl
  | pllLockLoss => exact (execPllLockLoss_runs ..).reaches rfl
  | pllSwap => exact (execPllSwap_runs ..).reaches rfl
  | pllReturn => exact (execPllReturn_runs ..).reaches rfl
  | pllRetry => exact (execPllRetry_runs ..).reaches rfl
  | tapRail => exact (execTapRail_runs ..).reaches rfl
  | seqStart => exact (execSeqStart_runs ..).reaches rfl
  | seqStop => exact (execSeqStop_runs ..).reaches rfl
  | seqEnd => exact (execSeqEnd_runs ..).reaches rfl
  | seqTxsrc => exact (execSeqTxsrc_runs ..).reaches rfl
  | seqRate => exact (execSeqRate_runs ..).reaches rfl
  | seqWait => exact (execSeqWait_runs ..).reaches rfl
  | seqWaitExpiry => exact (execSeqWaitExpiry_runs ..).reaches rfl
  | seqWaitfor => exact (execSeqWaitfor_runs ..).reaches rfl
  | waitforMet => exact (execWaitforMet_runs ..).reaches rfl
  | waitforTimeout => exact (execWaitforTimeout_runs ..).reaches rfl
  | seqAdapt => exact (execSeqAdapt_runs ..).reaches rfl
  | seqFreeze => exact (execSeqFreeze_runs ..).reaches rfl
  | seqFfe => exact (execSeqFfe_runs ..).reaches rfl
  | seqEngine => exact (execSeqEngine_runs ..).reaches rfl
  | seqJump => exact (execSeqJump_runs ..).reaches rfl
  | seqSetlc => exact (execSeqSetlc_runs ..).reaches rfl
  | seqDjnz => exact (execSeqDjnz_runs ..).reaches rfl
  | seqReservedOp => exact (execSeqReservedOp_runs ..).reaches rfl
  | seqContinue => exact (execSeqContinue_runs ..).reaches rfl
  | trainingFrame => exact (execTrainingFrame_runs ..).reaches rfl
  | slip => exact (execSlip_runs ..).reaches rfl
  | dlRestart => exact (execDlRestart_runs ..).reaches rfl
  | rateTimeout => exact (execRateTimeout_runs ..).reaches rfl
  | bringupTimeout => exact (execBringupTimeout_runs ..).reaches rfl
  | bringupRestart => exact (execBringupRestart_runs ..).reaches rfl
  | laneExcluded => exact (execLaneExcluded_runs ..).reaches rfl
  | eyeGo => exact (execEyeGo_runs ..).reaches rfl
  | eyeStop => exact (execEyeStop_runs ..).reaches rfl
  | eyePointDone => exact (execEyePointDone_runs ..).reaches rfl
  | audit => exact (execAudit_runs ..).reaches rfl
  | injectOne => exact (execInjectOne_runs ..).reaches rfl
  | deepExitComplete => exact (execDeepExitComplete_runs ..).reaches rfl
  | flitTime => exact (execFlitTime_runs ..).reaches rfl
  | idleFlit => exact (execIdleFlit_runs ..).reaches rfl
  | dataFlit => exact (execDataFlit_runs ..).reaches rfl
  | dataBadFlit => exact (execDataBadFlit_runs ..).reaches rfl
  | sealFlit => exact (execSealFlit_runs ..).reaches rfl
  | nakFlit => exact (execNakFlit_runs ..).reaches rfl
  | initFlit => exact (execInitFlit_runs ..).reaches rfl
  | pmFlit => exact (execPmFlit_runs ..).reaches rfl
  | pauseFlit => exact (execPauseFlit_runs ..).reaches rfl
  | echoFlit => exact (execEchoFlit_runs ..).reaches rfl
  | echoReplyFlit => exact (execEchoReplyFlit_runs ..).reaches rfl
  | reservedFlit => exact (execReservedFlit_runs ..).reaches rfl
  | crcFailedFlit => exact (execCrcFailedFlit_runs ..).reaches rfl
  | nakRearm => exact (execNakRearm_runs ..).reaches rfl
  | replayTimeout => exact (execReplayTimeout_runs ..).reaches rfl
  | sealWaitExpiry => exact (execSealWaitExpiry_runs ..).reaches rfl
  | initTimeout => exact (execInitTimeout_runs ..).reaches rfl
  | dead => exact (execDead_runs ..).reaches rfl
  | linkRestart => exact (execLinkRestart_runs ..).reaches rfl
  | lkRetrain => exact (execLkRetrain_runs ..).reaches rfl
  | lkDown => exact (execLkDown_runs ..).reaches rfl
  | retrainReq => exact (execRetrainReq_runs ..).reaches rfl
  | retrainAck => exact (execRetrainAck_runs ..).reaches rfl
  | retrainTimeout => exact (execRetrainTimeout_runs ..).reaches rfl
  | echoPeriod => exact (execEchoPeriod_runs ..).reaches rfl
  | echoTimeout => exact (execEchoTimeout_runs ..).reaches rfl
  | describe => exact (execDescribe_runs ..).reaches rfl
  | chOpen n cls idx gen => exact (execChOpen_runs n cls idx gen s).reaches rfl
  | chClose => exact (execChClose_runs ..).reaches rfl
  | allotAck => exact (execAllotAck_runs ..).reaches rfl
  | allotNak => exact (execAllotNak_runs ..).reaches rfl
  | ltol => exact (execLtol_runs ..).reaches rfl
  | vendorMgmt => exact (execVendorMgmt_runs ..).reaches rfl
  | badMgmtMessage => exact (execBadMgmtMessage_runs ..).reaches rfl
  | chCmdOpen => exact (execChCmdOpen_runs ..).reaches rfl
  | chCmdClose => exact (execChCmdClose_runs ..).reaches rfl
  | tlp => exact (execTlp_runs ..).reaches rfl
  | pcieScanTimeout => exact (execPcieScanTimeout_runs ..).reaches rfl
  | ethFrame => exact (execEthFrame_runs ..).reaches rfl
  | fwdAge => exact (execFwdAge_runs ..).reaches rfl
  | fwdPortCfg => exact (execFwdPortCfg_runs ..).reaches rfl
  | fwdFlush => exact (execFwdFlush_runs ..).reaches rfl
  | featuresOk => exact (execFeaturesOk_runs ..).reaches rfl
  | epochBoundary => exact (execEpochBoundary_runs ..).reaches rfl
  | sbuTmgmt => exact (execSbuTmgmt_runs ..).reaches rfl
  | sbuTsig => exact (execSbuTsig_runs ..).reaches rfl
  | wake => exact (execWake_runs ..).reaches rfl
  | sbuAck => exact (execSbuAck_runs ..).reaches rfl
  | sbuTimeout => exact (execSbuTimeout_runs ..).reaches rfl
  | attach => exact (execAttach_runs ..).reaches rfl
  | drpToggle => exact (execDrpToggle_runs ..).reaches rfl
  | trySrcTimeout => exact (execTrySrcTimeout_runs ..).reaches rfl
  | detach => exact (execDetach_runs ..).reaches rfl
  | vconnFault => exact (execVconnFault_runs ..).reaches rfl
  | cableIdentity => exact (execCableIdentity_runs ..).reaches rfl
  | sourceCapRepeat => exact (execSourceCapRepeat_runs ..).reaches rfl
  | request => exact (execRequest_runs ..).reaches rfl
  | eprRequest => exact (execEprRequest_runs ..).reaches rfl
  | eprMode => exact (execEprMode_runs ..).reaches rfl
  | eprKeepalive => exact (execEprKeepalive_runs ..).reaches rfl
  | eprKeepaliveTimeout => exact (execEprKeepaliveTimeout_runs ..).reaches rfl
  | getSourceCap => exact (execGetSourceCap_runs ..).reaches rfl
  | getSinkCap => exact (execGetSinkCap_runs ..).reaches rfl
  | sinkCapabilities => exact (execSinkCapabilities_runs ..).reaches rfl
  | sourceCapabilities => exact (execSourceCapabilities_runs ..).reaches rfl
  | drSwap => exact (execDrSwap_runs ..).reaches rfl
  | prSwap => exact (execPrSwap_runs ..).reaches rfl
  | vconnSwap => exact (execVconnSwap_runs ..).reaches rfl
  | softReset => exact (execSoftReset_runs ..).reaches rfl
  | hardReset => exact (execHardReset_runs ..).reaches rfl
  | accept => exact (execAccept_runs ..).reaches rfl
  | reject => exact (execReject_runs ..).reaches rfl
  | pdWait => exact (execPdWait_runs ..).reaches rfl
  | psRdy => exact (execPsRdy_runs ..).reaches rfl
  | goodcrc => exact (execGoodcrc_runs ..).reaches rfl
  | goodcrcTimeout => exact (execGoodcrcTimeout_runs ..).reaches rfl
  | notSupported => exact (execNotSupported_runs ..).reaches rfl
  | getStatus => exact (execGetStatus_runs ..).reaches rfl
  | getRevision => exact (execGetRevision_runs ..).reaches rfl
  | getSourceCapExtended => exact (execGetSourceCapExtended_runs ..).reaches rfl
  | eprGetSourceCap => exact (execEprGetSourceCap_runs ..).reaches rfl
  | bistMessage => exact (execBistMessage_runs ..).reaches rfl
  | unsupportedMessage => exact (execUnsupportedMessage_runs ..).reaches rfl
  | senderResponseTimeout => exact (execSenderResponseTimeout_runs ..).reaches rfl
  | srcTransition => exact (execSrcTransition_runs ..).reaches rfl
  | psTransitionTimeout => exact (execPsTransitionTimeout_runs ..).reaches rfl
  | srcRecover => exact (execSrcRecover_runs ..).reaches rfl
  | errorRecoveryEnd => exact (execErrorRecoveryEnd_runs ..).reaches rfl
  | swapRetry => exact (execSwapRetry_runs ..).reaches rfl
  | discoverIdentityAck => exact (execDiscoverIdentityAck_runs ..).reaches rfl
  | discoverSvidsAck => exact (execDiscoverSvidsAck_runs ..).reaches rfl
  | discoverModesAck => exact (execDiscoverModesAck_runs ..).reaches rfl
  | enterModeAck => exact (execEnterModeAck_runs ..).reaches rfl
  | vdmNak => exact (execVdmNak_runs ..).reaches rfl
  | vdmBusy => exact (execVdmBusy_runs ..).reaches rfl
  | vdmRetry => exact (execVdmRetry_runs ..).reaches rfl
  | attention => exact (execAttention_runs ..).reaches rfl
  | modeRetry => exact (execModeRetry_runs ..).reaches rfl
  | pdCmdExit => exact (execPdCmdExit_runs ..).reaches rfl
  | pdCmdEnter => exact (execPdCmdEnter_runs ..).reaches rfl
  | pdCmdSendCaps => exact (execPdCmdSendCaps_runs ..).reaches rfl
  | pdCmdDrSwap => exact (execPdCmdDrSwap_runs ..).reaches rfl
  | pdCmdPrSwap => exact (execPdCmdPrSwap_runs ..).reaches rfl
  | pdCmdSoftReset => exact (execPdCmdSoftReset_runs ..).reaches rfl
  | pdCmdHardReset => exact (execPdCmdHardReset_runs ..).reaches rfl
  | pdSrcWrite => exact (execPdSrcWrite_runs ..).reaches rfl
  | pdDisable => exact (execPdDisable_runs ..).reaches rfl
  | feedReverse => exact (execFeedReverse_runs ..).reaches rfl
  | feedLost => exact (execFeedLost_runs ..).reaches rfl
  | feedOvervoltage => exact (execFeedOvervoltage_runs ..).reaches rfl
  | feedReturn => exact (execFeedReturn_runs ..).reaches rfl
  | busUv => exact (execBusUv_runs ..).reaches rfl
  | dockBusReturn => exact (execDockBusReturn_runs ..).reaches rfl
  | trimStep => exact (execTrimStep_runs ..).reaches rfl
  | moveComplete => exact (execMoveComplete_runs ..).reaches rfl
  | moveTimeout => exact (execMoveTimeout_runs ..).reaches rfl
  | efuseEnable => exact (execEfuseEnable_runs ..).reaches rfl
  | buckTimeout => exact (execBuckTimeout_runs ..).reaches rfl
  | gateOn => exact (execGateOn_runs ..).reaches rfl
  | gateTimeout => exact (execGateTimeout_runs ..).reaches rfl
  | limiting => exact (execLimiting_runs ..).reaches rfl
  | ocpTimer => exact (execOcpTimer_runs ..).reaches rfl
  | fastTrip => exact (execFastTrip_runs ..).reaches rfl
  | overvolt => exact (execOvervolt_runs ..).reaches rfl
  | undervolt => exact (execUndervolt_runs ..).reaches rfl
  | reverse => exact (execReverse_runs ..).reaches rfl
  | offWaitEnd => exact (execOffWaitEnd_runs ..).reaches rfl
  | powerGood => exact (execPowerGood_runs ..).reaches rfl
  | discharged => exact (execDischarged_runs ..).reaches rfl
  | clrLockout => exact (execClrLockout_runs ..).reaches rfl
  | clrPeak => exact (execClrPeak_runs ..).reaches rfl
  | frameTrigger => exact (execFrameTrigger_runs ..).reaches rfl
  | frameStart => exact (execFrameStart_runs ..).reaches rfl
  | lineHandover => exact (execLineHandover_runs ..).reaches rfl
  | fetchError => exact (execFetchError_runs ..).reaches rfl
  | soEnable => exact (execSoEnable_runs ..).reaches rfl
  | soDisable => exact (execSoDisable_runs ..).reaches rfl
  | dirty => exact (execDirty_runs ..).reaches rfl
  | signal => exact (execSignal_runs ..).reaches rfl
  | intr => exact (execIntr_runs ..).reaches rfl
  | regAck => exact (execRegAck_runs ..).reaches rfl
  | regData => exact (execRegData_runs ..).reaches rfl
  | sigSend => exact (execSigSend_runs ..).reaches rfl
  | edgeRead => exact (execEdgeRead_runs ..).reaches rfl
  | edgeWrite => exact (execEdgeWrite_runs ..).reaches rfl
  | edgeRmw => exact (execEdgeRmw_runs ..).reaches rfl
  | semTake => exact (execSemTake_runs ..).reaches rfl
  | semGive => exact (execSemGive_runs ..).reaches rfl
  | regTimeout => exact (execRegTimeout_runs ..).reaches rfl
  | semWaitTimeout => exact (execSemWaitTimeout_runs ..).reaches rfl
  | semHoldLimit => exact (execSemHoldLimit_runs ..).reaches rfl
  | poll => exact (execPoll_runs ..).reaches rfl
  | raLife => exact (execRaLife_runs ..).reaches rfl
  | routeValid => exact (execRouteValid_runs ..).reaches rfl
  | dpfClr => exact (execDpfClr_runs ..).reaches rfl
  | hookTimeout => exact (execHookTimeout_runs ..).reaches rfl
  | engBrcmd => exact (execEngBrcmd_runs ..).reaches rfl
  | evtEnWrite => exact (execEvtEnWrite_runs ..).reaches rfl
  | claim => exact (execClaim_runs ..).reaches rfl
  | complete => exact (execComplete_runs ..).reaches rfl
  | targetEnable => exact (execTargetEnable_runs ..).reaches rfl
  | evRouteWrite => exact (execEvRouteWrite_runs ..).reaches rfl
  | tgtQconsWrite => exact (execTgtQconsWrite_runs ..).reaches rfl
  | msixEnable => exact (execMsixEnable_runs ..).reaches rfl
  | pinFilterEdge => exact (execPinFilterEdge_runs ..).reaches rfl
  | add => exact (execAdd_runs ..).reaches rfl
  | sub => exact (execSub_runs ..).reaches rfl
  | and => exact (execAnd_runs ..).reaches rfl
  | or => exact (execOr_runs ..).reaches rfl
  | xor => exact (execXor_runs ..).reaches rfl
  | shl => exact (execShl_runs ..).reaches rfl
  | shr => exact (execShr_runs ..).reaches rfl
  | sar => exact (execSar_runs ..).reaches rfl
  | mul => exact (execMul_runs ..).reaches rfl
  | sltu => exact (execSltu_runs ..).reaches rfl
  | addi => exact (execAddi_runs ..).reaches rfl
  | andi => exact (execAndi_runs ..).reaches rfl
  | ori => exact (execOri_runs ..).reaches rfl
  | xori => exact (execXori_runs ..).reaches rfl
  | lui e gd ga imm => exact (execLui_runs e gd ga imm s).reaches rfl
  | ld => exact (execLd_runs ..).reaches rfl
  | st => exact (execSt_runs ..).reaches rfl
  | ldb => exact (execLdb_runs ..).reaches rfl
  | stb => exact (execStb_runs ..).reaches rfl
  | beq => exact (execBeq_runs ..).reaches rfl
  | bne => exact (execBne_runs ..).reaches rfl
  | blt => exact (execBlt_runs ..).reaches rfl
  | bltu => exact (execBltu_runs ..).reaches rfl
  | jal => exact (execJal_runs ..).reaches rfl
  | jr => exact (execJr_runs ..).reaches rfl
  | csrr => exact (execCsrr_runs ..).reaches rfl
  | csrw => exact (execCsrw_runs ..).reaches rfl
  | wait => exact (execWait_runs ..).reaches rfl
  | retn => exact (execRetn_runs ..).reaches rfl
  | retf => exact (execRetf_runs ..).reaches rfl
  | ckpt => exact (execCkpt_runs ..).reaches rfl
  | fence => exact (execFence_runs ..).reaches rfl
  | trap => exact (execTrap_runs ..).reaches rfl
  | illegalInstruction => exact (execIllegalInstruction_runs ..).reaches rfl
  | fastEntry => exact (execFastEntry_runs ..).reaches rfl
  | normalEntry => exact (execNormalEntry_runs ..).reaches rfl
  | watchdog => exact (execWatchdog_runs ..).reaches rfl
  | engineFault => exact (execEngineFault_runs ..).reaches rfl
  | autoCkpt => exact (execAutoCkpt_runs ..).reaches rfl
  | lockstepMismatch => exact (execLockstepMismatch_runs ..).reaches rfl
  | engLoad => exact (execEngLoad_runs ..).reaches rfl
  | engStop => exact (execEngStop_runs ..).reaches rfl
  | engCtrlStart => exact (execEngCtrlStart_runs ..).reaches rfl
  | engCtrlStop => exact (execEngCtrlStop_runs ..).reaches rfl
  | mwDataAccess => exact (execMwDataAccess_runs ..).reaches rfl
  | domainRequest => exact (execDomainRequest_runs ..).reaches rfl
  | domainTransition => exact (execDomainTransition_runs ..).reaches rfl
  | domainTransitionTimeout => exact (execDomainTransitionTimeout_runs ..).reaches rfl
  | wakeSource => exact (execWakeSource_runs ..).reaches rfl
  | wakeTime => exact (execWakeTime_runs ..).reaches rfl
  | aonBrownout => exact (execAonBrownout_runs ..).reaches rfl
  | warnTrip => exact (execWarnTrip_runs ..).reaches rfl
  | rideThroughEnd => exact (execRideThroughEnd_runs ..).reaches rfl
  | resetTrip => exact (execResetTrip_runs ..).reaches rfl
  | resetRelease => exact (execResetRelease_runs ..).reaches rfl
  | thermalTrip => exact (execThermalTrip_runs ..).reaches rfl
  | thermalRestart => exact (execThermalRestart_runs ..).reaches rfl
  | clockPllLockLoss => exact (execClockPllLockLoss_runs ..).reaches rfl
  | xtalLost => exact (execXtalLost_runs ..).reaches rfl
  | xtalHoldExpiry => exact (execXtalHoldExpiry_runs ..).reaches rfl
  | xtalReturn => exact (execXtalReturn_runs ..).reaches rfl
  | x32kLost => exact (execX32kLost_runs ..).reaches rfl
  | toPll => exact (execToPll_runs ..).reaches rfl
  | pllSwitchDone => exact (execPllSwitchDone_runs ..).reaches rfl
  | clkSwap => exact (execClkSwap_runs ..).reaches rfl
  | porstN => exact (execPorstN_runs ..).reaches rfl
  | warmN => exact (execWarmN_runs ..).reaches rfl
  | rstCmdWarm => exact (execRstCmdWarm_runs ..).reaches rfl
  | imageVerified => exact (execImageVerified_runs ..).reaches rfl
  | bootWatchdog => exact (execBootWatchdog_runs ..).reaches rfl
  | startDone => exact (execStartDone_runs ..).reaches rfl
  | generate => exact (execGenerate_runs ..).reaches rfl
  | derive => exact (execDerive_runs ..).reaches rfl
  | unwrap => exact (execUnwrap_runs ..).reaches rfl
  | wrap => exact (execWrap_runs ..).reaches rfl
  | zero => exact (execZero_runs ..).reaches rfl
  | random => exact (execRandom_runs ..).reaches rfl
  | drbgFail => exact (execDrbgFail_runs ..).reaches rfl
  | drbgRestart => exact (execDrbgRestart_runs ..).reaches rfl
  | remask => exact (execRemask_runs ..).reaches rfl
  | rootGen => exact (execRootGen_runs ..).reaches rfl
  | tamperTrip => exact (execTamperTrip_runs ..).reaches rfl
  | getVersion => exact (execGetVersion_runs ..).reaches rfl
  | getCapabilities => exact (execGetCapabilities_runs ..).reaches rfl
  | negotiateAlgorithms => exact (execNegotiateAlgorithms_runs ..).reaches rfl
  | getDigests => exact (execGetDigests_runs ..).reaches rfl
  | getCertificate => exact (execGetCertificate_runs ..).reaches rfl
  | challenge => exact (execChallenge_runs ..).reaches rfl
  | getMeasurements => exact (execGetMeasurements_runs ..).reaches rfl
  | keyExchange => exact (execKeyExchange_runs ..).reaches rfl
  | finish => exact (execFinish_runs ..).reaches rfl
  | endSession => exact (execEndSession_runs ..).reaches rfl
  | keyProg => exact (execKeyProg_runs ..).reaches rfl
  | kSetGo => exact (execKSetGo_runs ..).reaches rfl
  | kSetStop => exact (execKSetStop_runs ..).reaches rfl
  | lcReq => exact (execLcReq_runs ..).reaches rfl
  | lcBlowDone => exact (execLcBlowDone_runs ..).reaches rfl
  | otpCmdGo => exact (execOtpCmdGo_runs ..).reaches rfl
  | otpWriteDone => exact (execOtpWriteDone_runs ..).reaches rfl
  | rstCmdShutdown => exact (execRstCmdShutdown_runs ..).reaches rfl
  | quiesceDone => exact (execQuiesceDone_runs ..).reaches rfl
  | bistProgramDone => exact (execBistProgramDone_runs ..).reaches rfl
  | record => exact (execRecord_runs ..).reaches rfl
  | shutdownDone => exact (execShutdownDone_runs ..).reaches rfl
  | bistGo => exact (execBistGo_runs ..).reaches rfl
  | avsMeasure => exact (execAvsMeasure_runs ..).reaches rfl
  | avsStep => exact (execAvsStep_runs ..).reaches rfl
  | avsAck => exact (execAvsAck_runs ..).reaches rfl
  | busReset => exact (execBusReset_runs ..).reaches rfl
  | suspend => exact (execSuspend_runs ..).reaches rfl
  | resume => exact (execResume_runs ..).reaches rfl
  | remoteWake => exact (execRemoteWake_runs ..).reaches rfl
  | downstreamAttach => exact (execDownstreamAttach_runs ..).reaches rfl
  | regRead => exact (execRegRead_runs ..).reaches rfl
  | regWrite => exact (execRegWrite_runs ..).reaches rfl
  | getView => exact (execGetView_runs ..).reaches rfl
  | setAddress => exact (execSetAddress_runs ..).reaches rfl
  | setConfiguration => exact (execSetConfiguration_runs ..).reaches rfl
  | setFeature => exact (execSetFeature_runs ..).reaches rfl
  | clearFeature => exact (execClearFeature_runs ..).reaches rfl
  | ep1In => exact (execEp1In_runs ..).reaches rfl
  | ep2Read => exact (execEp2Read_runs ..).reaches rfl
  | ep2Write => exact (execEp2Write_runs ..).reaches rfl
  | outToken => exact (execOutToken_runs ..).reaches rfl
  | pingToken => exact (execPingToken_runs ..).reaches rfl
  | recoveryImage => exact (execRecoveryImage_runs ..).reaches rfl
  | logIn => exact (execLogIn_runs ..).reaches rfl
  | smbusSetPointer => exact (execSmbusSetPointer_runs ..).reaches rfl
  | smbusRead => exact (execSmbusRead_runs ..).reaches rfl
  | smbusWrite => exact (execSmbusWrite_runs ..).reaches rfl
  | alertResponse => exact (execAlertResponse_runs ..).reaches rfl
  | heldCountRead => exact (execHeldCountRead_runs ..).reaches rfl
  | dlatMeasUpdate => exact (execDlatMeasUpdate_runs ..).reaches rfl
  | measurementSample => exact (execMeasurementSample_runs ..).reaches rfl
  | vbatLow => exact (execVbatLow_runs ..).reaches rfl
  | hotWarning sensor => exact (execHotWarning_runs sensor s).reaches rfl
  | serviceAttach => exact (execServiceAttach_runs ..).reaches rfl
  | targetError => exact (execTargetError_runs ..).reaches rfl
  | hostFunctionRequest => exact (execHostFunctionRequest_runs ..).reaches rfl
  | ptpMessageInterval => exact (execPtpMessageInterval_runs ..).reaches rfl
  | vatWake => exact (execVatWake_runs ..).reaches rfl
  | atAxisFineSlot => exact (execAtAxisFineSlot_runs ..).reaches rfl

/-! ### The commands that reach the OTP part or the engine memories -/

theorem exec_keepsOtp_of_reach (s : State) (c : Instr) (h : (touches c).contains .otp = true) : KeepsOtp s (exec c s) := by
  cases c with
  | registerWrite => exact execRegisterWrite_kept ..
  | txnCommit => exact execTxnCommit_kept ..
  | atTimeCommit => exact execAtTimeCommit_kept ..
  | stepGo => exact execStepGo_kept ..
  | axisTransition => exact execAxisTransition_kept ..
  | swDelta => exact execSwDelta_kept ..
  | zPulse => exact execZPulse_kept ..
  | velUpdate => exact execVelUpdate_kept ..
  | axisStopped => exact execAxisStopped_kept ..
  | positionCrossing => exact execPositionCrossing_kept ..
  | axCmdClear => exact execAxCmdClear_kept ..
  | axCmdLoad => exact execAxCmdLoad_kept ..
  | regionEnable => exact execRegionEnable_kept ..
  | regionRecall => exact execRegionRecall_kept ..
  | windowEnable => exact execWindowEnable_kept ..
  | windowRecall => exact execWindowRecall_kept ..
  | poolLostClr => exact execPoolLostClr_kept ..
  | crDrop => exact execCrDrop_kept ..
  | crDisable => exact execCrDisable_kept ..
  | sliceForce => exact execSliceForce_kept ..
  | byAddr => exact execByAddr_kept ..
  | byPos => exact execByPos_kept ..
  | drainEnd => exact execDrainEnd_kept ..
  | drainLimit => exact execDrainLimit_kept ..
  | logClr => exact execLogClr_kept ..
  | drainMaxReset => exact execDrainMaxReset_kept ..
  | hpDisable => exact execHpDisable_kept ..
  | hpRetrain => exact execHpRetrain_kept ..
  | mpRetrain => exact execMpRetrain_kept ..
  | pllSwap => exact execPllSwap_kept ..
  | seqStart => exact execSeqStart_kept ..
  | seqStop => exact execSeqStop_kept ..
  | seqContinue => exact execSeqContinue_kept ..
  | slip => exact execSlip_kept ..
  | dlRestart => exact execDlRestart_kept ..
  | eyeGo => exact execEyeGo_kept ..
  | eyeStop => exact execEyeStop_kept ..
  | injectOne => exact execInjectOne_kept ..
  | lkRetrain => exact execLkRetrain_kept ..
  | lkDown => exact execLkDown_kept ..
  | chCmdOpen => exact execChCmdOpen_kept ..
  | chCmdClose => exact execChCmdClose_kept ..
  | pdCmdExit => exact execPdCmdExit_kept ..
  | pdCmdEnter => exact execPdCmdEnter_kept ..
  | pdCmdSendCaps => exact execPdCmdSendCaps_kept ..
  | pdCmdDrSwap => exact execPdCmdDrSwap_kept ..
  | pdCmdPrSwap => exact execPdCmdPrSwap_kept ..
  | pdCmdSoftReset => exact execPdCmdSoftReset_kept ..
  | pdCmdHardReset => exact execPdCmdHardReset_kept ..
  | pdSrcWrite => exact execPdSrcWrite_kept ..
  | pdDisable => exact execPdDisable_kept ..
  | clrLockout => exact execClrLockout_kept ..
  | clrPeak => exact execClrPeak_kept ..
  | frameStart => exact execFrameStart_kept ..
  | soEnable => exact execSoEnable_kept ..
  | soDisable => exact execSoDisable_kept ..
  | dirty => exact execDirty_kept ..
  | routeValid => exact execRouteValid_kept ..
  | dpfClr => exact execDpfClr_kept ..
  | engBrcmd => exact execEngBrcmd_kept ..
  | st => exact execSt_kept ..
  | engCtrlStart => exact execEngCtrlStart_kept ..
  | engCtrlStop => exact execEngCtrlStop_kept ..
  | mwDataAccess => exact execMwDataAccess_kept ..
  | domainRequest => exact execDomainRequest_kept ..
  | aonBrownout => exact execAonBrownout_kept ..
  | resetTrip => exact execResetTrip_kept ..
  | resetRelease => exact execResetRelease_kept ..
  | thermalTrip => exact execThermalTrip_kept ..
  | thermalRestart => exact execThermalRestart_kept ..
  | clockPllLockLoss => exact execClockPllLockLoss_kept ..
  | xtalHoldExpiry => exact execXtalHoldExpiry_kept ..
  | toPll => exact execToPll_kept ..
  | clkSwap => exact execClkSwap_kept ..
  | porstN => exact execPorstN_kept ..
  | warmN => exact execWarmN_kept ..
  | rstCmdWarm => exact execRstCmdWarm_kept ..
  | bootWatchdog => exact execBootWatchdog_kept ..
  | generate => exact execGenerate_kept ..
  | derive => exact execDerive_kept ..
  | unwrap => exact execUnwrap_kept ..
  | wrap => exact execWrap_kept ..
  | zero => exact execZero_kept ..
  | random => exact execRandom_kept ..
  | drbgRestart => exact execDrbgRestart_kept ..
  | rootGen => exact execRootGen_kept ..
  | lcReq => exact execLcReq_kept ..
  | lcBlowDone => exact execLcBlowDone_kept ..
  | otpCmdGo => exact execOtpCmdGo_kept ..
  | otpWriteDone => exact execOtpWriteDone_kept ..
  | rstCmdShutdown => exact execRstCmdShutdown_kept ..
  | record => exact execRecord_kept ..
  | shutdownDone => exact execShutdownDone_kept ..
  | bistGo => exact execBistGo_kept ..
  | regWrite => exact execRegWrite_kept ..
  | ep2Write => exact execEp2Write_kept ..
  | smbusWrite => exact execSmbusWrite_kept ..
  | atAxisFineSlot => exact execAtAxisFineSlot_kept ..
  | _ => exact absurd h Bool.false_ne_true

theorem exec_keepsMem_of_reach (s : State) (c : Instr) (h : (touches c).contains .mem = true) : KeepsMem s (exec c s) := by
  cases c with
  | registerWrite => exact execRegisterWrite_memKept ..
  | txnCommit => exact execTxnCommit_memKept ..
  | atTimeCommit => exact execAtTimeCommit_memKept ..
  | stepGo => exact execStepGo_memKept ..
  | axisTransition => exact execAxisTransition_memKept ..
  | swDelta => exact execSwDelta_memKept ..
  | zPulse => exact execZPulse_memKept ..
  | velUpdate => exact execVelUpdate_memKept ..
  | axisStopped => exact execAxisStopped_memKept ..
  | positionCrossing => exact execPositionCrossing_memKept ..
  | axCmdClear => exact execAxCmdClear_memKept ..
  | axCmdLoad => exact execAxCmdLoad_memKept ..
  | cellAtOutput => exact execCellAtOutput_memKept ..
  | regionEnable => exact execRegionEnable_memKept ..
  | regionRecall => exact execRegionRecall_memKept ..
  | windowEnable => exact execWindowEnable_memKept ..
  | windowRecall => exact execWindowRecall_memKept ..
  | poolLostClr => exact execPoolLostClr_memKept ..
  | crDrop => exact execCrDrop_memKept ..
  | crDisable => exact execCrDisable_memKept ..
  | sliceForce => exact execSliceForce_memKept ..
  | byAddr => exact execByAddr_memKept ..
  | byPos => exact execByPos_memKept ..
  | drainEnd => exact execDrainEnd_memKept ..
  | drainLimit => exact execDrainLimit_memKept ..
  | logClr => exact execLogClr_memKept ..
  | drainMaxReset => exact execDrainMaxReset_memKept ..
  | hpDisable => exact execHpDisable_memKept ..
  | hpRetrain => exact execHpRetrain_memKept ..
  | mpRetrain => exact execMpRetrain_memKept ..
  | pllSwap => exact execPllSwap_memKept ..
  | seqStart => exact execSeqStart_memKept ..
  | seqStop => exact execSeqStop_memKept ..
  | seqContinue => exact execSeqContinue_memKept ..
  | slip => exact execSlip_memKept ..
  | dlRestart => exact execDlRestart_memKept ..
  | eyeGo => exact execEyeGo_memKept ..
  | eyeStop => exact execEyeStop_memKept ..
  | injectOne => exact execInjectOne_memKept ..
  | lkRetrain => exact execLkRetrain_memKept ..
  | lkDown => exact execLkDown_memKept ..
  | chCmdOpen => exact execChCmdOpen_memKept ..
  | chCmdClose => exact execChCmdClose_memKept ..
  | pdCmdExit => exact execPdCmdExit_memKept ..
  | pdCmdEnter => exact execPdCmdEnter_memKept ..
  | pdCmdSendCaps => exact execPdCmdSendCaps_memKept ..
  | pdCmdDrSwap => exact execPdCmdDrSwap_memKept ..
  | pdCmdPrSwap => exact execPdCmdPrSwap_memKept ..
  | pdCmdSoftReset => exact execPdCmdSoftReset_memKept ..
  | pdCmdHardReset => exact execPdCmdHardReset_memKept ..
  | pdSrcWrite => exact execPdSrcWrite_memKept ..
  | pdDisable => exact execPdDisable_memKept ..
  | clrLockout => exact execClrLockout_memKept ..
  | clrPeak => exact execClrPeak_memKept ..
  | frameStart => exact execFrameStart_memKept ..
  | soEnable => exact execSoEnable_memKept ..
  | soDisable => exact execSoDisable_memKept ..
  | dirty => exact execDirty_memKept ..
  | signal => exact execSignal_memKept ..
  | intr => exact execIntr_memKept ..
  | regAck => exact execRegAck_memKept ..
  | regData => exact execRegData_memKept ..
  | sigSend => exact execSigSend_memKept ..
  | routeValid => exact execRouteValid_memKept ..
  | dpfClr => exact execDpfClr_memKept ..
  | hookTimeout => exact execHookTimeout_memKept ..
  | engBrcmd => exact execEngBrcmd_memKept ..
  | add => exact execAdd_memKept ..
  | sub => exact execSub_memKept ..
  | and => exact execAnd_memKept ..
  | or => exact execOr_memKept ..
  | xor => exact execXor_memKept ..
  | shl => exact execShl_memKept ..
  | shr => exact execShr_memKept ..
  | sar => exact execSar_memKept ..
  | mul => exact execMul_memKept ..
  | sltu => exact execSltu_memKept ..
  | addi => exact execAddi_memKept ..
  | andi => exact execAndi_memKept ..
  | ori => exact execOri_memKept ..
  | xori => exact execXori_memKept ..
  | lui _ _ ga => exact execLui_memKept _ _ ga ..
  | ld => exact execLd_memKept ..
  | st => exact execSt_memKept ..
  | ldb => exact execLdb_memKept ..
  | stb => exact execStb_memKept ..
  | beq => exact execBeq_memKept ..
  | bne => exact execBne_memKept ..
  | blt => exact execBlt_memKept ..
  | bltu => exact execBltu_memKept ..
  | jal => exact execJal_memKept ..
  | jr => exact execJr_memKept ..
  | csrr => exact execCsrr_memKept ..
  | csrw => exact execCsrw_memKept ..
  | wait => exact execWait_memKept ..
  | retn => exact execRetn_memKept ..
  | retf => exact execRetf_memKept ..
  | ckpt => exact execCkpt_memKept ..
  | fence => exact execFence_memKept ..
  | trap => exact execTrap_memKept ..
  | illegalInstruction => exact execIllegalInstruction_memKept ..
  | watchdog => exact execWatchdog_memKept ..
  | engineFault => exact execEngineFault_memKept ..
  | autoCkpt => exact execAutoCkpt_memKept ..
  | engLoad => exact execEngLoad_memKept ..
  | engStop => exact execEngStop_memKept ..
  | engCtrlStart => exact execEngCtrlStart_memKept ..
  | engCtrlStop => exact execEngCtrlStop_memKept ..
  | mwDataAccess => exact execMwDataAccess_memKept ..
  | domainRequest => exact execDomainRequest_memKept ..
  | domainTransition => exact execDomainTransition_memKept ..
  | aonBrownout => exact execAonBrownout_memKept ..
  | resetTrip => exact execResetTrip_memKept ..
  | resetRelease => exact execResetRelease_memKept ..
  | thermalTrip => exact execThermalTrip_memKept ..
  | thermalRestart => exact execThermalRestart_memKept ..
  | clockPllLockLoss => exact execClockPllLockLoss_memKept ..
  | xtalHoldExpiry => exact execXtalHoldExpiry_memKept ..
  | toPll => exact execToPll_memKept ..
  | pllSwitchDone => exact execPllSwitchDone_memKept ..
  | clkSwap => exact execClkSwap_memKept ..
  | porstN => exact execPorstN_memKept ..
  | warmN => exact execWarmN_memKept ..
  | rstCmdWarm => exact execRstCmdWarm_memKept ..
  | imageVerified => exact execImageVerified_memKept ..
  | bootWatchdog => exact execBootWatchdog_memKept ..
  | generate => exact execGenerate_memKept ..
  | derive => exact execDerive_memKept ..
  | unwrap => exact execUnwrap_memKept ..
  | wrap => exact execWrap_memKept ..
  | zero => exact execZero_memKept ..
  | random => exact execRandom_memKept ..
  | drbgRestart => exact execDrbgRestart_memKept ..
  | rootGen => exact execRootGen_memKept ..
  | lcReq => exact execLcReq_memKept ..
  | lcBlowDone => exact execLcBlowDone_memKept ..
  | otpCmdGo => exact execOtpCmdGo_memKept ..
  | rstCmdShutdown => exact execRstCmdShutdown_memKept ..
  | shutdownDone => exact execShutdownDone_memKept ..
  | bistGo => exact execBistGo_memKept ..
  | regWrite => exact execRegWrite_memKept ..
  | ep2Write => exact execEp2Write_memKept ..
  | recoveryImage => exact execRecoveryImage_memKept ..
  | smbusWrite => exact execSmbusWrite_memKept ..
  | atAxisFineSlot => exact execAtAxisFineSlot_memKept ..
  | _ => exact absurd h Bool.false_ne_true

/-- No command un-blows a bit: one that does not reach OTP leaves its words as they are. -/
theorem exec_keepsOtp (s : State) (c : Instr) : KeepsOtp s (exec c s) := by
  by_cases h : .otp ∈ touches c
  · exact exec_keepsOtp_of_reach s c (List.contains_iff_mem.mpr h)
  · obtain ⟨t, ht, hsame⟩ := exec_reaches s c
    have hotp : t.otp = s.otp := hsame .otp h
    refine ⟨t, ht, ⟨fun w b hb => ?_⟩⟩
    unfold State.blown State.otpWord at *
    rwa [hotp]

/-- No command leaves the engine memories without their canonical form. -/
theorem exec_keepsMem (s : State) (c : Instr) : KeepsMem s (exec c s) := by
  by_cases h : .mem ∈ touches c
  · exact exec_keepsMem_of_reach s c (List.contains_iff_mem.mpr h)
  · obtain ⟨t, ht, hsame⟩ := exec_reaches s c
    have hmem : t.mem = s.mem := hsame .mem h
    exact ⟨t, ht, ⟨fun hwf => by rwa [hmem]⟩⟩

/-! ### What a step does -/

theorem step_nil {s : State} (h : s.pending = []) : step s = .next s.timePasses := by
  unfold step
  rw [h]

theorem step_cons {s : State} {c : Instr} {rest : List Instr} (h : s.pending = c :: rest) : step s = exec c { s with pending := rest } := by
  unfold step
  rw [h]

theorem not_pending_mem_touches (c : Instr) : .pending ∉ touches c := by
  cases c <;> exact of_decide_eq_false rfl

/-- A step lets time pass, or runs a command: a relation that both keep holds of it. -/
theorem step_cases {s t : State} {R : State → State → Prop} (h : step s = .next t) (htime : R s s.timePasses)
    (hexec : ∀ c rest u, exec c { s with pending := rest } = .next u → R s u) : R s t := by
  cases hp : s.pending with
  | nil =>
    rw [step_nil hp] at h
    cases h
    exact htime
  | cons c rest =>
    rw [step_cons hp] at h
    exact hexec c rest t h

/-! ### Settled -/

/-- Settles O1: with a command in front, `step` is its meaning on the state with the rest of the queue. -/
theorem stepRunsTheFrontCommand : Obligations.StepRunsTheFrontCommand := fun _ _ _ => step_cons rfl

/-- Settles O2. -/
theorem idleStepLetsTimePass : Obligations.IdleStepLetsTimePass := fun _ h => step_nil h

/-- Settles O3, from the frame of every command. -/
theorem noCommandStopsTheBlock : Obligations.NoCommandStopsTheBlock := fun c s =>
  (exec_reaches s c).imp fun _ h => h.1

/-- Settles O5: the frame of every command. -/
theorem commandsReachOnlyTheirParts : Obligations.CommandsReachOnlyTheirParts := by
  intro c s t p ht hp
  obtain ⟨u, hu, hsame⟩ := exec_reaches s c
  cases hu.symm.trans ht
  exact hsame p hp

/-- Settles O4: the queue is a part that no command reaches. -/
theorem queueLosesOnlyItsFront : Obligations.QueueLosesOnlyItsFront := by
  intro s t c rest hp ht
  rw [step_cons hp] at ht
  exact commandsReachOnlyTheirParts c _ t .pending ht (not_pending_mem_touches c)

/-- Settles O6: time leaves OTP alone, and no command un-blows a bit. -/
theorem blownOtpBitsStayBlown : Obligations.BlownOtpBitsStayBlown := by
  intro s t ht
  refine (step_cases (R := OtpKept) ht ?_ fun c rest u hu => ?_).kept
  · exact OtpKept.after (by decide) (State.timePasses_same s) (OtpKept.refl s)
  · obtain ⟨v, hv, hkept⟩ := exec_keepsOtp { s with pending := rest } c
    cases hv.symm.trans hu
    exact ⟨hkept.kept⟩

/-- Settles O7: time leaves the engine memories alone, and every command keeps their canonical form. -/
theorem engineMemoriesStayCanonical : Obligations.EngineMemoriesStayCanonical := by
  intro s t hwf ht
  refine (step_cases (R := MemKept) ht ?_ fun c rest u hu => ?_).kept hwf
  · exact MemKept.after (by decide) (State.timePasses_same s) (MemKept.refl s)
  · obtain ⟨v, hv, hkept⟩ := exec_keepsMem { s with pending := rest } c
    cases hv.symm.trans hu
    exact ⟨hkept.kept⟩

/-- Settles O8: a blank hub. -/
theorem resetMeetsTheInvariants : Obligations.ResetMeetsTheInvariants := by
  refine ⟨rfl, fun w b => ?_, rfl⟩
  show (0 / 2 ^ b % 2 == 1) = false
  simp

end Sys2Proof.Machine
end

section
/-! The register file at reset, the judgment of writes, and the page header (R16-R26). -/

namespace Sys2Proof.Machine

/-! ### Reset -/

/-- A key that a table does not list reads as the default. -/
theorem tget_of_not_mem {α : Type} {d : α} {t : Tbl α} {x : Nat} (h : ∀ p ∈ t, x ≠ p.1) : tget d t x = d := by
  induction t with
  | nil => rfl
  | cons p t ih =>
    show (if x = p.1 then p.2 else tget d t x) = d
    rw [if_neg (h p List.mem_cons_self)]
    exact ih fun q hq => h q (List.mem_cons_of_mem p hq)

/-- The fields that the start has set are those of O9 alone. -/
theorem reset_regs_key {p : Nat × Nat} (hp : p ∈ State.reset.regs) :
    p.1 = F.DRBG_STAT_OK.key ∨ p.1 = F.AVS_STAT_SET_MV.key ∨ ∃ n : Fin 16, p.1 = (F.PD_STAT_RP n).key := by
  rcases List.mem_append.mp hp with hp | hp
  · obtain ⟨n, hn, rfl⟩ := List.mem_map.mp hp
    exact .inr (.inr ⟨⟨n, List.mem_range.mp hn⟩, by simp only [F.PD_STAT_RP, Fld.key]; omega⟩)
  · rcases List.mem_cons.mp hp with rfl | hp
    · exact .inl rfl
    · rw [List.mem_singleton.mp hp]
      exact .inr (.inl rfl)

/-- Settles O9. -/
theorem resetRegistersHoldTheirResetValues : Obligations.ResetRegistersHoldTheirResetValues := by
  refine ⟨fun f hdrbg hmv hrp => tget_of_not_mem fun p hp => ?_, by decide, by decide, by decide⟩
  rcases reset_regs_key hp with h | h | ⟨n, h⟩ <;> rw [h]
  · exact hdrbg
  · exact hmv
  · exact hrp n

/-! ### The judgment of a write -/

theorem State.judge_outside {s : State} {p : Path} {addr : Nat} (v be : Nat) (hdark : s.isDark = false) (hview : s.inView p addr = false) :
    s.judge p addr v be = .refused .outsideView := by
  unfold State.judge
  simp [hdark, hview]

theorem State.judge_noPage {s : State} {p : Path} {addr : Nat} (v : Nat) (hdark : s.isDark = false) (hview : s.inView p addr = true)
    (hpage : pageOf addr = none) : s.judge p addr v 15 = .ignored := by
  unfold State.judge
  simp [hdark, hview, hpage]

/-- Settles O11: the three first rows of the judgment. -/
theorem writesAreJudgedByViewAndByteEnables : Obligations.WritesAreJudgedByViewAndByteEnables := by
  intro s p addr v be hdark
  refine ⟨State.judge_outside v be hdark, State.judge_partial v hdark, ?_⟩
  rintro hview rfl hpage
  exact State.judge_noPage v hdark hview hpage

/-- Settles O13: the rows of the judgment of an OWNER, in their order. -/
theorem ownerWritesAreJudgedInOrder : Obligations.OwnerWritesAreJudgedInOrder := by
  intro s c g
  refine ⟨fun hfixed => if_pos hfixed, fun hfree hmgmt hfm => ?_, fun hfree hwho hheld => ?_, fun hfree hwho hheld => ?_⟩
  all_goals
    unfold State.judgeOwner
    rw [if_neg (by simp [hfree])]
  · rw [if_pos ⟨hmgmt, hfm⟩]
  all_goals rw [if_neg fun h : c ≠ 0x20 ∧ _ => hwho.elim h.1 h.2]
  · rw [if_pos hheld]
  · rw [if_neg (not_not_intro hheld)]

/-- Settles O14: of a page's owner in view only the enable is left to ask. -/
theorem disabledPageRefusesItsBlockRegisters : Obligations.DisabledPageRefusesItsBlockRegisters := by
  intro s p addr v g r i hdark hview hwritable hpage hreg hoff howns hen hmgmt hbank
  have howner : ¬ addr % 4096 = 0x20 := fun h => absurd hoff (by rw [h]; decide)
  unfold State.judge
  simp [hdark, hview, hwritable, hpage, hreg, hoff, howns, hen, hmgmt, hbank, howner]

/-! ### The registers of the page header (R21) -/

theorem page_base (n : Nat) {ro : Nat} (h : ro < 0x40) : (n * 4096 + ro) / 4096 * 4096 = n * 4096 := by omega

theorem page_offset (n : Nat) {ro : Nat} (h : ro < 0x40) : (n * 4096 + ro) % 4096 = ro := by omega

/-- A direct write of a header register: its page, with the base that the offset names. -/
theorem State.takes_header {s : State} {p : Path} {page : BitVec 14} {ro v : Nat} (hro : ro < 0x40) (h : s.takes p (page.toNat * 4096 + ro) v) :
    ∃ g, pageOf (page.toNat * 4096 + ro) = some g ∧ g.pg = page.toNat * 4096 ∧ (page.toNat * 4096 + ro) % 4096 = ro := by
  obtain ⟨g, hg, hpg⟩ := State.takes_page h
  exact ⟨g, hg, hpg.trans (page_base _ hro), page_offset _ hro⟩

theorem hOwner_key_ne_hSeq (pg : Nat) : (hOwner pg).key ≠ (hSeq pg).key := by
  simp only [hOwner, hSeq, Fld.key]
  omega

/-- What a direct write of one field of a page leaves: the field's value, and PAGE_SEQ counted where it changed (R25). -/
def State.stored (s : State) (f : Fld) (pg v : Nat) : State :=
  if s.get f = v % 2 ^ f.width then s.set f v else (s.set f v).bump pg

theorem State.stored_get (s : State) {f : Fld} {pg : Nat} (v : Nat) (h : f.key ≠ (hSeq pg).key) : (s.stored f pg v).get f = v % 2 ^ f.width := by
  unfold State.stored State.bump State.wrap
  split
  · exact State.get_set ..
  · rw [State.get_set_ne _ _ h, State.get_set]

theorem State.stored_get_seq (s : State) {f : Fld} {pg : Nat} (v : Nat) (h : f.key ≠ (hSeq pg).key) : (s.stored f pg v).get (hSeq pg) =
    if s.get f = v % 2 ^ f.width then s.get (hSeq pg) else (s.get (hSeq pg) + 1) % 2 ^ 32 := by
  unfold State.stored State.bump State.wrap
  split
  · exact State.get_set_ne _ _ h.symm
  · rw [State.get_set, State.get_set_ne _ _ h.symm]
    rfl

theorem State.stored_get_ne (s : State) {f g : Fld} {pg : Nat} (v : Nat) (hf : g.key ≠ f.key) (hseq : g.key ≠ (hSeq pg).key) :
    (s.stored f pg v).get g = s.get g := by
  unfold State.stored State.bump State.wrap
  split
  · exact State.get_set_ne _ _ hf
  · rw [State.get_set_ne _ _ hseq, State.get_set_ne _ _ hf]

theorem State.stored_same (s : State) (f : Fld) (pg v : Nat) : Same 67108861 s (s.stored f pg v) := by
  unfold State.stored
  exact Same.ite (State.set_same ..) ((State.set_same ..).trans (State.bump_same ..))

/-- A write of OWNER that acts at once: a register of one field. -/
theorem State.storeAt_owner {s : State} {p : Path} {page : BitVec 14} {v : Nat} (h : s.takes p (page.toNat * 4096 + 0x20) v) :
    s.storeAt (pathCode p) (page.toNat * 4096 + 0x20) v = s.stored (hOwner (page.toNat * 4096)) (page.toNat * 4096) (v % 256) := by
  obtain ⟨g, hg, hpg, hoff⟩ := State.takes_header (by decide) h
  have hF : fldOf g (rg 0x20 1 0 true .plain [fs 0 8 .rw 0xFF]) 0 (s.bankOf (pathCode p) g.n .plain) (page.toNat * 4096 + 0x20) (fs 0 8 .rw 0xFF)
      = hOwner (page.toNat * 4096) := by rw [← hpg]; rfl
  have hreg : findReg g.ps.kind ((page.toNat * 4096 + 0x20) % 4096) = some (rg 0x20 1 0 true .plain [fs 0 8 .rw 0xFF], 0) := by rw [hoff]; rfl
  rw [State.storeAt_one s _ _ v hg hreg rfl rfl rfl hF, hpg]
  simp [State.stored, bits, fs]

/-! ### The commands -/

theorem exec_ownerWrite_of_takes {s : State} {p : Path} {page : BitVec 14} {v : Word} (h : s.takes p (page.toNat * 4096 + 0x20) v.toNat) :
    exec (.ownerWrite p page v) s = .next (s.storeAt (pathCode p) (page.toNat * 4096 + 0x20) v.toNat) :=
  congrArg Host.Outcome.next (State.writeVia_direct h _)

/-- A part other than the registers has its bit in the mask of `State.stored_same`. -/
theorem StatePart.bit_of_ne_regs {q : StatePart} (h : q ≠ .regs) : Nat.testBit 67108861 q.no = true := by
  cases q with
  | regs => exact absurd rfl h
  | _ => decide

/-- Settles O12: OWNER is a field of eight bits, stored and counted. -/
theorem ownerWriteSetsTheOwner : Obligations.OwnerWriteSetsTheOwner := by
  intro s p page v htakes
  have hkey := hOwner_key_ne_hSeq (page.toNat * 4096)
  have hmod : v.toNat % 256 % 2 ^ (hOwner (page.toNat * 4096)).width = v.toNat % 256 := Nat.mod_mod ..
  refine ⟨_, exec_ownerWrite_of_takes htakes, ?_⟩
  rw [State.storeAt_owner htakes]
  refine ⟨(State.stored_get s _ hkey).trans hmod, (State.stored_get_seq s _ hkey).trans (by rw [hmod]),
    fun f hf hseq => State.stored_get_ne s _ hf hseq, fun q hq => (State.stored_same ..).part q (StatePart.bit_of_ne_regs hq)⟩

/-! ### PAGE_ENABLE -/

/-- A state whose register table lists DOM_REQ of page 0 at its Reset value, where `State.set` leaves no entry. -/
def domReqListed : State := { regs := [((hDomReq 0).key, 0)] }

/-- A field at the place of DOM_REQ whose Reset value is not that of DOM_REQ. -/
def domReqOther : Fld := { hDomReq 0 with reset := 1 }

/-- Refutes O15: PAGE_ENABLE stores DOM_REQ again, which takes the entry off the table of `domReqListed`; at DOM_REQ's key the statement's fields
include `domReqOther`, which reads 0 before and its own Reset value 1 after. -/
theorem not_headerWritesSetTheirFields : ¬ Obligations.HeaderWritesSetTheirFields := by
  rintro ⟨henable, -⟩
  obtain ⟨t, -, rfl, -, hframe⟩ := henable domReqListed .mgmt 0 true (by unfold State.takes; decide) (by decide)
  exact absurd (hframe domReqOther (by decide) (by decide)) (by decide)

end Sys2Proof.Machine
end

section
/-! Writes of any width, and configuration transactions (R18, R27-R41): opening, dropping and what ends in time. -/

namespace Sys2Proof.Machine

/-! ### Direct writes (R4, R35) -/

/-- What a direct write to a register does: a header register has its own effect, a GUARD rule field none beyond storing, another its block's. -/
theorem State.applyDirect_eq (s : State) (p addr v : Nat) {g : Page} {r : RegSpec} {i : Nat} (hg : pageOf addr = some g)
    (hr : findReg g.ps.kind (addr % 4096) = some (r, i)) : s.applyDirect p addr v =
      if addr % 4096 < 0x40 then ((s.storeAt p addr v).headerFx s g.pg (addr % 4096) v).bumpIf
        (addr % 4096 == 0x10 && Nat.land (s.evtStatWord g.pg) v != 0) g.pg
      else if guardRule ⟨0, addr, v⟩ then s.storeAt p addr v
      else (s.storeAt p addr v).effect s ⟨g.ps.kind, g.n, r.off, i, s.bankOf p g.n r.bank - 1, p, v⟩ := by
  unfold State.applyDirect
  rw [hg]
  dsimp only
  rw [hr]

/-! ### Wide writes (R18) -/

theorem State.writeWord_congr {s t : State} {p : Path} {a b v w be : Nat} (h : s = t) (ha : a = b) (hv : v = w) :
    s.writeWord p a v be = t.writeWord p b w be := by rw [h, ha, hv]

/-- Two whole words at an aligned offset fill two registers. -/
theorem State.writeWide_aligned (s : State) (p : Path) (addr : BitVec 26) (v w : Word) (h : addr.toNat % 4 = 0) :
    s.writeWide p addr.toNat [v, w] [15, 15] = (s.writeWord p addr.toNat v.toNat 15).writeWord p ((addr.toNat + 4) % 2 ^ 26) w.toNat 15 := by
  have hv := v.isLt
  have hw := w.isLt
  have ha := addr.isLt
  simp [State.writeWide, List.range, List.range.loop, h]
  refine State.writeWord_congr (State.writeWord_congr rfl ?_ ?_) ?_ ?_ <;> omega

/-- Two words at an offset that is not aligned fill one register and parts of its neighbours. -/
theorem State.writeWide_unaligned (s : State) (p : Path) (addr : BitVec 26) (v w : Word) {k : Nat} (hk : k = addr.toNat % 4) (h : k ≠ 0) :
    s.writeWide p addr.toNat [v, w] [15, 15] =
      ((s.writeWord p (addr.toNat - k) (v.toNat * 256 ^ k % 2 ^ 32) (15 * 2 ^ k % 16)).writeWord p
        ((addr.toNat - k + 4) % 2 ^ 26) (v.toNat / 256 ^ (4 - k) + w.toNat * 256 ^ k % 2 ^ 32) 15).writeWord p
        ((addr.toNat - k + 8) % 2 ^ 26) (w.toNat / 256 ^ (4 - k)) (15 * 2 ^ k / 16) := by
  have hv := v.isLt
  have hw := w.isLt
  have ha := addr.isLt
  have hcases : k = 1 ∨ k = 2 ∨ k = 3 := by omega
  rcases hcases with rfl | rfl | rfl <;> simp [State.writeWide, List.range, List.range.loop, ← hk]
  all_goals refine State.writeWord_congr (State.writeWord_congr (State.writeWord_congr rfl ?_ ?_) ?_ ?_) ?_ ?_ <;> omega

/-- Settles O16. -/
theorem registerWriteStoresAndActs : Obligations.RegisterWriteStoresAndActs := by
  refine ⟨fun s p addr v halign htakes hcommit habort g r i hg hr => ?_, fun s p addr v w halign => ?_, fun s p addr v w k hk hodd => ?_⟩
  · have hne (x : BitVec 26) (hx : addr ≠ x) : addr.toNat ≠ x.toNat := fun h => hx (BitVec.eq_of_toNat_eq h)
    rw [exec_registerWrite_word, show (15 : BitVec 4).toNat = 15 from rfl,
      State.write_direct halign htakes (hne 0x2050 hcommit) (hne 0x2054 habort), State.applyDirect_eq _ _ _ _ hg hr]
  · exact congrArg Host.Outcome.next (State.writeWide_aligned s p addr v w halign)
  · exact congrArg Host.Outcome.next (State.writeWide_unaligned s p addr v w hk hodd)

/-! ### Slots -/

theorem State.slot_setSlot (s : State) (i j : Nat) (x : Slot) : (s.setSlot i x).slot j = if j = i then x else s.slot j := tget_tset ..

theorem State.slot_setSlot_self (s : State) (i : Nat) (x : Slot) : (s.setSlot i x).slot i = x := by rw [State.slot_setSlot, if_pos rfl]

theorem State.slot_setSlot_ne (s : State) {i j : Nat} (x : Slot) (h : j ≠ i) : (s.setSlot i x).slot j = s.slot j := by
  rw [State.slot_setSlot, if_neg h]

/-- A state whose slots are those of another. -/
theorem State.slot_of_same {k : Nat} {s t : State} (h : Same k s t) (hk : k.testBit 4 = true) (i : Nat) : t.slot i = s.slot i := by
  unfold State.slot
  rw [show t.slots = s.slots from h.part .slots hk]

/-- A slot that is freed (R38): with its generation, in quarantine. -/
theorem State.slot_freeSlot (s : State) (i result seq j : Nat) : (s.freeSlot i result seq).slot j =
    if j = i then { state := .free, gen := (s.slot i).gen, quar := true, opener := (s.slot i).opener, result := result, resGen := (s.slot i).gen, resSeq := seq }
    else s.slot j := by
  unfold State.freeSlot
  rw [State.slot_setSlot]
  split
  · rfl
  · exact State.slot_of_same (State.clearTags_same s i) (by decide) j

/-- The wheel's fill is a register: taking the slot off it leaves every slot. -/
theorem State.slot_dropSlot (s : State) (i result j : Nat) : (s.dropSlot i result).slot j = (s.freeSlot i result 0).slot j := by
  unfold State.dropSlot
  extract_lets s1
  split
  · rfl
  · exact State.slot_of_same (State.wheelSub_same s1 1) (by decide) j

/-- Settles O19. -/
theorem droppedTransactionFreesItsSlot : Obligations.DroppedTransactionFreesItsSlot := by
  intro s i r
  have hself := (State.slot_dropSlot s i r i).trans ((State.slot_freeSlot ..).trans (if_pos rfl))
  refine ⟨by rw [hself], by rw [hself], by rw [hself], fun j hj => ?_⟩
  rw [State.slot_dropSlot, State.slot_freeSlot, if_neg hj]

/-! ### TXN_OPEN (R28) -/

/-- A slot that TXN_OPEN may take: free and out of quarantine. -/
def State.openable (s : State) (i : Nat) : Bool := decide ((s.slot i).state = .free) && !(s.slot i).quar

theorem State.openable_iff {s : State} {i : Nat} : s.openable i = true ↔ (s.slot i).state = .free ∧ (s.slot i).quar = false := by
  simp [State.openable]

/-- A read of TXN_OPEN that the path may make opens a transaction and returns its tag. -/
theorem exec_txnOpen {s : State} {p : Path} (h : s.mayRead p 0x2040 = true) :
    exec (.txnOpen p) s = .next ((s.txnOpen (pathCode p)).2.emit (.readData (pathCode p) 0x2040 (s.txnOpen (pathCode p)).1)) := by
  have hread : s.read p 0x2040 = s.txnOpen (pathCode p) := by
    unfold State.read
    simp [h, State.sensed]
  show Host.Outcome.next ((s.read p 0x2040).2.emit (.readData (pathCode p) 0x2040 (s.read p 0x2040).1)) = _
  rw [hread]

/-- The lowest slot that may be opened is found. -/
theorem State.find_openable {s : State} {i : Nat} (hi : i < 8) (h : s.openable i = true) (hlow : ∀ j, j < i → ¬ s.openable j = true) :
    (List.range 8).find? s.openable = some i := by
  rw [List.find?_range_eq_some]
  exact ⟨h, List.mem_range.mpr hi, fun j hj => by simpa using hlow j hj⟩

/-- The slot that TXN_OPEN has opened for a requester. -/
def Slot.openedFor (x : Slot) (p : Nat) : Slot := { x with state := .opened, gen := (x.gen + 1) % 16, opener := p, entries := [] }

theorem State.txnOpen_of_find {s : State} {i : Nat} (p : Nat) (h : (List.range 8).find? s.openable = some i) :
    s.txnOpen p = (tagOf i (((s.slot i).gen + 1) % 16), s.setSlot i ((s.slot i).openedFor p)) := by
  unfold State.txnOpen
  rw [show (List.range 8).find? (fun i => decide ((s.slot i).state = .free) && !(s.slot i).quar) = some i from h]
  rfl

theorem State.txnOpen_none {s : State} (p : Nat) (h : (List.range 8).find? s.openable = none) : s.txnOpen p = (0, s) := by
  unfold State.txnOpen
  rw [show (List.range 8).find? (fun i => decide ((s.slot i).state = .free) && !(s.slot i).quar) = none from h]

/-- Settles O17. -/
theorem transactionOpensTheLowestFreeSlot : Obligations.TransactionOpensTheLowestFreeSlot := by
  intro s p hread
  refine ⟨fun i hi hfree hquar hlow => ?_, fun hnone => ?_⟩
  · have hfind := State.find_openable hi (State.openable_iff.mpr ⟨hfree, hquar⟩) fun j hj h => hlow j hj (State.openable_iff.mp h)
    refine ⟨_, exec_txnOpen hread, ?_⟩
    rw [State.txnOpen_of_find _ hfind]
    exact ⟨State.slot_setSlot_self .., fun j hj => State.slot_setSlot_ne _ _ hj, rfl, rfl⟩
  · have hfind : (List.range 8).find? s.openable = none :=
      List.find?_eq_none.mpr fun j hj h => hnone j (List.mem_range.mp hj) (State.openable_iff.mp h)
    rw [exec_txnOpen hread, State.txnOpen_none _ hfind]

/-! ### What ends in time (R33, R37, R40, R48) -/

/-- The instant of an armed AT_TIME slot whose hub time has come (R117). -/
theorem State.dueInstant_time {s : State} {i : Nat} (harmed : (s.slot i).state = .armed) (hcond : (s.slot i).cond = 1)
    (hdue : fineSlot (s.slot i).param ≤ s.now) : s.dueInstant i = some (fineSlot (s.slot i).param) := by
  unfold State.dueInstant
  simp [harmed, hcond, hdue]

theorem State.instantMet_of_due {s : State} {i : Nat} {t : Int} (h : s.dueInstant i = some t) :
    s.instantMet i = (((List.range 8).filter (fun j => s.dueInstant j == some t)).foldl (fun s j => s.markMet j false) s).settled := by
  unfold State.instantMet
  rw [h]

/-- Settles O20. -/
theorem transactionsEndInTime : Obligations.TransactionsEndInTime := by
  refine ⟨fun s i harmed hcond hdue => ?_, fun s i hopen hlimit => ?_, fun s i hi hquar => ?_⟩
  · exact congrArg Host.Outcome.next ((if_pos hcond).trans (State.instantMet_of_due (State.dueInstant_time harmed hcond hdue)))
  · exact congrArg Host.Outcome.next (if_pos ⟨hopen, hlimit⟩)
  · exact congrArg Host.Outcome.next (if_pos ⟨hi, hquar⟩)

end Sys2Proof.Machine
end

section
/-! Mailboxes and the event unit (R42-R51, R369-R380). -/

namespace Sys2Proof.Machine

/-! ### Tables of the signals -/

theorem State.mail_setMail (s : State) (h k : Nat) (m : Mail) : (s.setMail h m).mail k = if k = h then m else s.mail k := tget_tset ..

theorem State.tgt_setTgt (s : State) (t k : Nat) (r : TgtRec) : (s.setTgt t r).tgt k = if k = t then r else s.tgt k := tget_tset ..

theorem State.evRec_setEv (s : State) (e k : Nat) (r : EvRec) : (s.setEv e r).evRec k = if k = e then r else s.evRec k := tget_tset ..

/-! ### Mailboxes -/

/-- A command with an opcode that no chapter defines completes with error 255 (R483). -/
theorem exec_unknownOpcode_of_running {s : State} {h : Fin 32} {seq : Word} {c : CmdHead} (hrun : s.running? h seq.toNat = some c)
    (hop : c.opcode.toNat ∉ definedOpcodes) : exec (.unknownOpcode h seq) s = .next (s.complete h seq.toNat 255 0) := by
  show execUnknownOpcode h seq s = _
  unfold execUnknownOpcode
  rw [hrun]
  exact congrArg Host.Outcome.next (if_neg (by simpa using hop))

/-- Settles O21: each command is a write whose effect is given, or its completion. -/
theorem mailboxCommandsRun : Obligations.MailboxCommandsRun := by
  refine ⟨fun s p h count l ht => ?_, fun s h seq hrun => ?_, fun s h seq c hrun hop => ?_, fun s p h count ht => ?_, fun s p h ht => ?_,
    fun s p h ht => ?_, fun s p h c e ht => ?_⟩
  · exact congrArg Host.Outcome.next (State.writeVia_direct ht _)
  · exact congrArg Host.Outcome.next (if_pos hrun)
  · exact exec_unknownOpcode_of_running hrun hop
  · exact congrArg Host.Outcome.next (State.writeVia_direct ht _)
  · refine ⟨s.resync h true, congrArg Host.Outcome.next (State.writeVia_direct ht _), ?_, fun k hk => ?_, rfl⟩
    · exact (State.mail_setMail ..).trans (if_pos rfl)
    · exact (State.mail_setMail ..).trans (if_neg hk)
  · exact congrArg Host.Outcome.next (State.writeVia_direct ht _)
  · exact congrArg Host.Outcome.next (State.writeVia_direct ht _)

/-- The state that the hub has read an entry with the next sequence number into (R45). -/
def State.entryStarted (s : State) (h : Nat) (c : CmdHead) : State :=
  s.setMail h { s.mail h with read := ((s.mail h).read + 1) % 2 ^ 32, lastSeq := (s.mail h).nextSeq, running := (s.mail h).running ++ [c],
                              posted := (s.mail h).posted.erase c }

theorem State.readEntry_next {s : State} {h : Nat} {c : CmdHead} (hhalt : (s.mail h).halted = false) (hrun : s.rep.run = false)
    (hseq : c.seq.toNat = (s.mail h).nextSeq) : s.readEntry h c = s.entryStarted h c := by
  unfold State.readEntry
  simp [hhalt, hseq, hrun, State.entryStarted]

theorem State.readEntry_break {s : State} {h : Nat} {c : CmdHead} (hhalt : (s.mail h).halted = false) (hseq : c.seq.toNat ≠ (s.mail h).nextSeq) :
    s.readEntry h c = ((s.setMail h { s.mail h with halted := true }).raise (64 + 2 * h)).postRec h
      (haltRecord c.seq.toNat (s.mail h).nextSeq ((s.mail h).cmdBase + 64 * ((s.mail h).read % 2 ^ (s.mail h).cmdLog2))) := by
  unfold State.readEntry
  simp [hhalt, hseq]

/-- Settles O22. -/
theorem entriesStartInSequence : Obligations.EntriesStartInSequence := by
  intro s h c hhalt hrun
  refine ⟨fun hseq => ?_, fun hseq => State.readEntry_break hhalt hseq⟩
  have hmail : (s.entryStarted h c).mail h = _ := (State.mail_setMail ..).trans (if_pos rfl)
  rw [State.readEntry_next hhalt hrun hseq, hmail]
  exact ⟨rfl, hseq.symm, hhalt⟩

/-! ### Events raised and claimed (R369, R377) -/

/-- Settles O25. -/
theorem raisedEventsStand : Obligations.RaisedEventsStand := by
  intro s ev hsrc
  obtain ⟨q, hq⟩ := Option.isSome_iff_exists.mp hsrc
  exact ⟨State.raise_evStat s hq, State.raise_kept s ev, State.raise_get s ev⟩

/-- The highest event of a list that is not empty lies in it and bounds it. -/
theorem foldl_max_spec (l : List Nat) (m : Nat) : (l.foldl max m = m ∨ l.foldl max m ∈ l) ∧ m ≤ l.foldl max m ∧ ∀ e ∈ l, e ≤ l.foldl max m := by
  induction l generalizing m with
  | nil => simp
  | cons x l ih =>
    obtain ⟨hmem, hinit, hbound⟩ := ih (max m x)
    have hm : m ≤ max m x := Nat.le_max_left ..
    have hx : x ≤ max m x := Nat.le_max_right ..
    refine ⟨?_, Nat.le_trans hm hinit, fun e he => ?_⟩
    · rcases hmem with h | h
      · rcases Nat.le_total m x with hle | hle
        · exact .inr (List.mem_cons.mpr (.inl (h.trans (Nat.max_eq_right hle))))
        · exact .inl (h.trans (Nat.max_eq_left hle))
      · exact .inr (List.mem_cons_of_mem x h)
    · rcases List.mem_cons.mp he with rfl | he
      · exact Nat.le_trans hx hinit
      · exact hbound e he

theorem highest_mem {l : List Nat} (h : l ≠ []) : highest l ∈ l := by
  obtain ⟨hmem, -, hbound⟩ := foldl_max_spec l 0
  rcases hmem with hzero | hmem
  · obtain ⟨x, hx⟩ := List.exists_mem_of_ne_nil l h
    have hle : x ≤ highest l := hbound x hx
    rw [show highest l = 0 from hzero] at hle ⊢
    rwa [Nat.le_zero.mp hle] at hx
  · exact hmem

theorem le_highest {l : List Nat} {e : Nat} (h : e ∈ l) : e ≤ highest l := (foldl_max_spec l 0).2.2 e h

/-- A target whose pending event of the normal class goes into service. -/
def TgtRec.claimedN (g : TgtRec) (ev : Nat) : TgtRec := { g with pendN := g.pendN.erase ev, servN := ev :: g.servN }

/-- A claim of the normal class where an event is pending. -/
theorem State.claim_normal {s : State} {t : Nat} (h : (s.tgt t).pendN ≠ []) : s.claim t false =
    (2 ^ 31 + highest (s.tgt t).pendN, (s.setTgt t ((s.tgt t).claimedN (highest (s.tgt t).pendN))).setEv (highest (s.tgt t).pendN)
      { s.evRec (highest (s.tgt t).pendN) with phase := .inService }) := by
  unfold State.claim
  simp [h, TgtRec.claimedN]

/-- Settles O24. -/
theorem claimTakesTheHighestPendingEvent : Obligations.ClaimTakesTheHighestPendingEvent := by
  intro s t hpend
  rw [State.claim_normal hpend]
  refine ⟨highest (s.tgt t).pendN, highest_mem hpend, fun e he => le_highest he, rfl, ?_, ?_, ?_⟩
  · exact congrArg TgtRec.pendN ((State.tgt_setTgt ..).trans (if_pos rfl))
  · exact congrArg TgtRec.servN ((State.tgt_setTgt ..).trans (if_pos rfl))
  · rw [State.evRec_setEv, if_pos rfl]

end Sys2Proof.Machine
end

section
/-! The event unit's commands (R18, R51, R371-R380): reads that act, targets, MSI-X and the filtered pins. -/

namespace Sys2Proof.Machine

/-! ### Reads (R18) -/

theorem State.readWide_aligned (s : State) (p : Path) (r : ReadSpan) (h : r.addr.toNat % 4 = 0) :
    s.readWide p r.addr.toNat (r.more.toNat + 1) =
      (List.range (r.more.toNat + 1)).foldl (fun s j => s.readWord p ((r.addr.toNat + 4 * j) % 2 ^ 26)) s := by
  unfold State.readWide
  rw [if_pos h, Nat.div_mul_cancel (Nat.dvd_of_mod_eq_zero h)]

/-- A read of one aligned word goes to its register. -/
theorem State.readOut_aligned (s : State) (p : Path) {addr : Nat} (h : addr % 4 = 0) (hlt : addr < 2 ^ 26) : s.readOut p addr = s.readWord p addr := by
  unfold State.readOut State.readWide
  rw [if_pos h, Nat.div_mul_cancel (Nat.dvd_of_mod_eq_zero h)]
  show s.readWord p ((addr + 4 * 0) % 2 ^ 26) = _
  rw [Nat.mul_zero, Nat.add_zero, Nat.mod_eq_of_lt hlt]

/-- Two words where a read of one is not aligned. -/
theorem State.readWide_unaligned (s : State) (p : Path) {addr : Nat} (h : addr % 4 ≠ 0) (hlt : addr < 2 ^ 26) :
    s.readWide p addr 1 = (s.readWord p (addr / 4 * 4)).readWord p ((addr / 4 * 4 + 4) % 2 ^ 26) := by
  unfold State.readWide
  rw [if_neg h]
  show (s.readWord p ((addr / 4 * 4 + 4 * 0) % 2 ^ 26)).readWord p ((addr / 4 * 4 + 4 * 1) % 2 ^ 26) = _
  rw [Nat.mul_zero, Nat.add_zero, Nat.mul_one, Nat.mod_eq_of_lt (by omega : addr / 4 * 4 < 2 ^ 26)]

/-- A read outside the lane window finds the state as it stands. -/
theorem State.sensed_of_ne (s : State) (c : Nat) {addr : Nat} (h : addr / 4096 ≠ 0x1220) : s.sensed c addr = s := if_neg fun hw => h hw.1

/-- The offset of a target's CLAIM_N or CLAIM_F. -/
def claimAddr (t : Fin 57) (fast : Bool) : Nat := 0xC0050 + 0x1000 * t.val + (if fast then 8 else 0)

/-- CLAIM_N and CLAIM_F lie on their target's page. -/
theorem pageOf_claimAddr (t : Fin 57) (fast : Bool) :
    (pageOf (claimAddr t fast)).map (fun g => (g.ps.kind, g.n, g.pg)) = some (.target, t.val, 0xC0000 + 0x1000 * t.val) := by
  revert t fast
  decide

theorem claimAddr_spec (t : Fin 57) (fast : Bool) : claimAddr t fast % 4 = 0 ∧ claimAddr t fast < 2 ^ 26 ∧ claimAddr t fast / 4096 ≠ 0x1220 ∧
    claimAddr t fast ≠ 0x2040 ∧ claimAddr t fast % 4096 = (if fast then 0x58 else 0x50) := by
  unfold claimAddr
  cases fast <;> simp <;> omega

/-- The owner of a target's page claims by reading (R377). -/
theorem State.read_claim {s : State} {p : Path} {t : Fin 57} {fast : Bool} (hread : s.mayRead p (claimAddr t fast) = true)
    (howner : s.get (hOwner (0xC0000 + 0x1000 * t.val)) = pathCode p) : s.read p (claimAddr t fast) = s.claim t fast := by
  obtain ⟨-, -, hlane, hopen, hoff⟩ := claimAddr_spec t fast
  obtain ⟨g, hg, hmap⟩ := Option.map_eq_some_iff.mp (pageOf_claimAddr t fast)
  obtain ⟨hkind, hn, hpg⟩ : g.ps.kind = .target ∧ g.n = t.val ∧ g.pg = 0xC0000 + 0x1000 * t.val := by simpa using hmap
  unfold State.read
  simp only [hread, State.sensed_of_ne s _ hlane, if_neg hopen, hg, hkind, hn, hpg, hoff]
  cases fast <;> simp [hread, howner]

/-- A path that may read EV_HELD reads it (R373). -/
theorem State.read_heldCount {s : State} {p : Path} (hread : s.mayRead p 0x20044 = true) :
    (s.read p 0x20044).1 = s.peek (pathCode p) 0x20044 ∧ (s.read p 0x20044).2.regs = s.regs ∧ (s.read p 0x20044).2.sig.out = s.sig.out := by
  have hpage : (pageOf 0x20044).map (fun g => g.ps.kind) = some .event0 := by decide
  obtain ⟨g, hg, hkind⟩ := Option.map_eq_some_iff.mp hpage
  unfold State.read
  by_cases hzero : s.peek (pathCode p) 0x20044 = 0 <;>
    simp [hread, State.sensed_of_ne s _ (show 0x20044 / 4096 ≠ 0x1220 by decide), hg, hkind, hzero]

/-! ### MSI-X (R379) -/

/-- While the function is masked no vector is served. -/
theorem State.unmaskVec_fmask {s : State} {h : Nat} (v : Nat) (hmask : (s.tgt h).fmask = true) : s.unmaskVec h v = s := by
  unfold State.unmaskVec
  simp [hmask]

theorem State.foldl_unmaskVec_fmask {s : State} {h : Nat} (l : List Nat) (hmask : (s.tgt h).fmask = true) :
    l.foldl (fun s v => s.unmaskVec h v) s = s := by
  induction l with
  | nil => rfl
  | cons v l ih => rw [List.foldl_cons, State.unmaskVec_fmask v hmask, ih]

/-- A vector that is masked itself is not served. -/
theorem State.unmaskVec_masked {s : State} {h v : Nat} (hmask : (tget {} (s.tgt h).vecs v).masked = true) : s.unmaskVec h v = s := by
  unfold State.unmaskVec
  simp [hmask]

theorem State.msixAct_mask (s : State) (h : Nat) : s.msixAct h (.mask true) = s.setTgt h { s.tgt h with fmask := true } :=
  State.foldl_unmaskVec_fmask _ (by rw [State.tgt_setTgt, if_pos rfl])

theorem State.msixAct_entry_masked (s : State) (h : Nat) (v : Fin 64) (a : BitVec 64) (d : Word) : s.msixAct h (.entry v a d true) =
    s.setTgt h { s.tgt h with
      vecs := tset (s.tgt h).vecs v { tget {} (s.tgt h).vecs v with addr := a.toNat, data := d.toNat, masked := true } } :=
  State.unmaskVec_masked (by rw [State.tgt_setTgt, if_pos rfl, tget_tset, if_pos rfl])

/-! ### The filtered pins (R380) -/

theorem pinEvent_source (i : Fin 5) : (evSrc (pinEvent i)).isSome = true := by
  revert i
  decide

theorem State.get_put (s : State) {f : Fld} (b : Bool) (h : f.width = 1) : (s.put f b).get f = b2n b := by
  unfold State.put
  rw [State.get_set, h]
  cases b <;> rfl

theorem State.raiseIf_evStat (s : State) {c : Bool} {ev : Nat} (hc : c = true) (hsrc : (evSrc ev).isSome = true) : (s.raiseIf c ev).evStat ev = true := by
  obtain ⟨q, hq⟩ := Option.isSome_iff_exists.mp hsrc
  rw [State.raiseIf, if_pos hc]
  exact State.raise_evStat s hq

/-- Settles O23. -/
theorem eventCommandsAct : Obligations.EventCommandsAct := by
  refine ⟨fun s p addr halign _ => ⟨_, congrArg Host.Outcome.next (State.readOut_aligned s p halign addr.isLt), rfl⟩,
    fun s p addr halign => congrArg Host.Outcome.next (State.readWide_unaligned s p halign addr.isLt),
    fun s p r halign => congrArg Host.Outcome.next (State.readWide_aligned s p r halign),
    fun s p t fast hread howner => ?_,
    fun s p t fast ev ht => congrArg Host.Outcome.next (State.writeVia_direct ht _),
    fun s t hon => congrArg Host.Outcome.next (if_pos hon),
    fun s t hoff => congrArg Host.Outcome.next (if_neg (by simp [hoff])),
    fun s p v ht => congrArg Host.Outcome.next (State.writeVia_direct ht _),
    fun s p t v ht => congrArg Host.Outcome.next (State.writeVia_direct ht _),
    fun s h hoff => congrArg Host.Outcome.next (if_neg (by simp [hoff])),
    fun s h => ⟨_, rfl, (State.tgt_setTgt ..).trans (if_pos rfl), rfl⟩,
    fun s h => ⟨_, congrArg Host.Outcome.next (State.msixAct_mask s h), ?_, rfl, rfl⟩,
    fun s h v a d => ⟨_, congrArg Host.Outcome.next (State.msixAct_entry_masked s h v a d), (State.tgt_setTgt ..).trans (if_pos rfl), rfl, rfl⟩,
    fun s i level hedge => ⟨_, congrArg Host.Outcome.next (if_neg hedge), ?_, fun hsel => ?_, fun f hf => ?_⟩,
    fun s p hread => ?_⟩
  · obtain ⟨halign, hlt, -⟩ := claimAddr_spec t fast
    refine congrArg Host.Outcome.next ((State.readOut_aligned s p halign hlt).trans ?_)
    unfold State.readWord
    rw [State.read_claim hread howner]
    rfl
  · rw [State.tgt_setTgt, if_pos rfl]
  · rw [State.raiseIf_get, State.get_put _ _ rfl]
  · exact State.raiseIf_evStat _ hsel (pinEvent_source i)
  · rw [State.raiseIf_get]
    exact State.get_set_ne _ _ hf
  · obtain ⟨hval, hregs, hout⟩ := State.read_heldCount hread
    refine ⟨_, congrArg Host.Outcome.next (State.readOut_aligned s p (by decide) (by decide)), ?_, hregs⟩
    show Out.readData _ _ (s.read p 0x20044).1 :: (s.read p 0x20044).2.sig.out = _
    rw [hval, hout]

end Sys2Proof.Machine
end

section
/-! The engines' instructions (R386): the fetch of a ready engine, registers of a core, and the arithmetic on 32-bit words. -/

namespace Sys2Proof.Machine

/-! ### The instruction of a ready engine -/

/-- A ready engine mirrors no other and executes in instruction memory at an aligned address. -/
theorem State.engReady_iff {s : State} {e : Nat} (h : s.engReady e = true) :
    s.mirrors e = false ∧ s.get (F.ENG_STAT_STATE e) = 2 ∧ s.engRuns e = true ∧ (s.engCore e).pc < 0x10000 ∧ (s.engCore e).pc % 4 = 0 := by
  simpa [State.engReady, and_assoc] using h

/-- A ready engine executes the instruction with its core, ENG_PC showing its address. -/
theorem State.instr_ready {s : State} {e : Nat} (h : s.engReady e = true) (f : State → EngCore → State) :
    s.instr e f = f (s.set (F.ENG_PC_PC e) ((s.engCore e).pc / 4)) (s.engCore e) := by
  obtain ⟨hown, hstate, hruns, hpc, halign⟩ := State.engReady_iff h
  unfold State.instr
  simp [hown, hstate, hruns, halign, Nat.not_le.mpr hpc]

/-- Which engine mirrors another rests on the pair and on LOCK_STAT alone. -/
theorem State.mirrors_congr {s t : State} (hpair : t.engs.pair = s.engs.pair) (hlock : t.get F.LOCK_STAT_MGMT = s.get F.LOCK_STAT_MGMT) (e : Nat) :
    t.mirrors e = s.mirrors e := by
  unfold State.mirrors
  rw [hpair, hlock]

theorem State.mirrors_set (s : State) (e : Nat) {f : Fld} (v : Nat) (h : F.LOCK_STAT_MGMT.key ≠ f.key) : (s.set f v).mirrors e = s.mirrors e :=
  State.mirrors_congr (s := s) (t := s.set f v) rfl (State.get_set_ne s v h) e

theorem State.mirrors_setCore (s : State) (e d : Nat) (c : EngCore) : (s.setCore d c).mirrors e = s.mirrors e :=
  State.mirrors_congr rfl rfl e

/-- An engine that mirrors none uses its own core. -/
theorem State.engIx_own {s : State} {e : Nat} (h : s.mirrors e = false) : s.engIx e = e := by
  simp [State.engIx, h]

theorem State.engCore_own {s : State} {e : Nat} (h : s.mirrors e = false) : s.engCore e = tget {} s.engs.cores e := by
  rw [State.engCore, State.engIx_own h]

/-- The core of an engine of its own reads as written. -/
theorem State.engCore_setCore {s : State} {e : Nat} (c : EngCore) (h : s.mirrors e = false) : (s.setCore e c).engCore e = c := by
  rw [State.engCore_own ((State.mirrors_setCore s e e c).trans h)]
  unfold State.setCore
  rw [State.engIx_own h]
  exact (tget_tset ..).trans (if_pos rfl)

theorem lockStat_ne_engPc (e : Nat) : F.LOCK_STAT_MGMT.key ≠ (F.ENG_PC_PC e).key := by
  simp only [F.LOCK_STAT_MGMT, F.ENG_PC_PC, Fld.key]
  omega

/-- The fetch leaves the engine its own. -/
theorem State.mirrors_fetch {s : State} {e : Nat} (h : s.engReady e = true) (v : Nat) : (s.set (F.ENG_PC_PC e) v).mirrors e = false :=
  (State.mirrors_set s e v (lockStat_ne_engPc e)).trans (State.engReady_iff h).1

/-! ### The registers of a core -/

theorem EngCore.reg_lt (c : EngCore) (r : Nat) : c.reg r < 2 ^ 32 := by
  unfold EngCore.reg
  split
  · decide
  · exact Nat.mod_lt _ (by decide)

/-- A register of an engine is the word that its core holds. -/
theorem State.g_toNat (s : State) (e : Nat) (r : Fin 16) : (s.g e r).toNat = (s.engCore e).reg r :=
  (BitVec.toNat_ofNat ..).trans (Nat.mod_eq_of_lt (EngCore.reg_lt ..))

/-- A register reads as written, G0 as 0, and every other as before. -/
theorem EngCore.reg_setReg (c : EngCore) (d r v : Nat) : (c.setReg d v).reg r = if r = d ∧ d ≠ 0 then v % 2 ^ 32 else c.reg r := by
  by_cases hd : d = 0
  · simp [EngCore.setReg, hd]
  · by_cases hr : r = 0
    · simp [EngCore.reg, hr, Ne.symm hd]
    · simp [EngCore.setReg, EngCore.reg, hd, hr, tget_tput]
      split <;> simp

/-- A write of a register leaves the rest of the core as it was. -/
theorem EngCore.setReg_kept (c : EngCore) (d v : Nat) :
    (c.setReg d v).pc = c.pc ∧ (c.setReg d v).cycles = c.cycles := by
  unfold EngCore.setReg
  split <;> exact ⟨rfl, rfl⟩

theorem EngCore.reg_next (c : EngCore) (n r : Nat) : (c.next n).reg r = c.reg r := rfl

/-- The state after a core has written one register and gone on behind its instruction. -/
theorem regWritten_setCore {s : State} {e cycles : Nat} {gd : Fin 16} {v : Nat} {w : Word} (h : s.engReady e = true) (hv : BitVec.ofNat 32 v = w) :
    RegWritten s ((s.set (F.ENG_PC_PC e) ((s.engCore e).pc / 4)).setCore e (((s.engCore e).setReg gd v).next cycles)) e gd w cycles := by
  have hcore := State.engCore_setCore (((s.engCore e).setReg gd v).next cycles) (State.mirrors_fetch h ((s.engCore e).pc / 4))
  obtain ⟨hpc, hcycles⟩ := EngCore.setReg_kept (s.engCore e) gd v
  refine ⟨fun r => ?_, ?_, ?_, fun f hf => ?_, rfl⟩
  · unfold State.g
    rw [hcore, EngCore.reg_next, EngCore.reg_setReg]
    by_cases hr : r = gd ∧ gd ≠ 0
    · obtain ⟨rfl, hne⟩ := hr
      rw [if_pos ⟨rfl, Fin.val_ne_iff.mpr hne⟩, if_pos ⟨rfl, hne⟩, ← hv]
      exact BitVec.eq_of_toNat_eq (by simp)
    · rw [if_neg hr, if_neg (fun hr' => hr ⟨Fin.ext hr'.1, fun h0 => hr'.2 (by rw [h0]; rfl)⟩)]
  · rw [hcore]
    show (((s.engCore e).setReg gd v).pc + 4) % 2 ^ 32 = _
    rw [hpc]
  · rw [hcore]
    show ((s.engCore e).setReg gd v).cycles + cycles = _
    rw [hcycles]
  · exact State.get_set_ne s _ hf

/-! ### The results, as words -/

theorem ofNat_ofSigned (i : Int) : BitVec.ofNat 32 (ofSigned 32 i) = BitVec.ofInt 32 i :=
  BitVec.eq_of_toNat_eq (by rw [BitVec.toNat_ofNat, BitVec.toNat_ofInt]; unfold ofSigned; omega)

theorem toSigned_toNat {w : Nat} (h : 0 < w) (a : BitVec w) : toSigned w a.toNat = a.toInt := by
  obtain ⟨k, rfl⟩ := Nat.exists_eq_succ_of_ne_zero (Nat.ne_of_gt h)
  rw [BitVec.toInt_eq_toNat_cond, toSigned, Nat.succ_sub_one]
  have hpow : 2 ^ (k + 1) = 2 * 2 ^ k := Nat.pow_succ' ..
  split <;> split <;> omega

theorem ofNat_sext {w : Nat} (h : 0 < w) (a : BitVec w) : BitVec.ofNat 32 (sext w a.toNat) = a.signExtend 32 := by
  rw [sext, ofNat_ofSigned, toSigned_toNat h]
  rfl

theorem ofNat_sub (a b : Word) : BitVec.ofNat 32 (a.toNat + 2 ^ 32 - b.toNat) = a - b := by
  bv_omega

theorem ofNat_land (a b : Word) : BitVec.ofNat 32 (Nat.land a.toNat b.toNat) = a &&& b :=
  BitVec.eq_of_toNat_eq ((BitVec.toNat_ofNat ..).trans (Nat.mod_eq_of_lt (a &&& b).isLt))

theorem ofNat_lor (a b : Word) : BitVec.ofNat 32 (Nat.lor a.toNat b.toNat) = a ||| b :=
  BitVec.eq_of_toNat_eq ((BitVec.toNat_ofNat ..).trans (Nat.mod_eq_of_lt (a ||| b).isLt))

theorem ofNat_xor (a b : Word) : BitVec.ofNat 32 (Nat.xor a.toNat b.toNat) = a ^^^ b :=
  BitVec.eq_of_toNat_eq ((BitVec.toNat_ofNat ..).trans (Nat.mod_eq_of_lt (a ^^^ b).isLt))

theorem ofNat_shl (a : Word) (k : Nat) : BitVec.ofNat 32 (a.toNat * 2 ^ k) = a <<< k :=
  BitVec.eq_of_toNat_eq (by rw [BitVec.toNat_ofNat, BitVec.toNat_shiftLeft, Nat.shiftLeft_eq])

theorem ofNat_shr (a : Word) (k : Nat) : BitVec.ofNat 32 (a.toNat / 2 ^ k) = a >>> k :=
  BitVec.eq_of_toNat_eq (by
    rw [BitVec.toNat_ofNat, BitVec.toNat_ushiftRight, Nat.shiftRight_eq_div_pow]
    exact Nat.mod_eq_of_lt (Nat.lt_of_le_of_lt (Nat.div_le_self ..) a.isLt))

theorem ofNat_sar (a : Word) (k : Nat) :
    BitVec.ofNat 32 (ofSigned 32 (Int.fdiv (toSigned 32 a.toNat) (2 ^ k : Nat))) = a.sshiftRight k := by
  rw [ofNat_ofSigned, toSigned_toNat (by decide), Int.fdiv_eq_ediv_of_nonneg _ (Int.natCast_nonneg _), ← Int.shiftRight_eq_div_pow]
  rfl

theorem ofNat_sltu (a b : Word) : BitVec.ofNat 32 (if a.toNat < b.toNat then 1 else 0) = if a.ult b then 1 else 0 := by
  by_cases h : a.toNat < b.toNat <;> simp [BitVec.ult, h]

/-! ### Arithmetic (R386) -/

/-- An arithmetic instruction writes its result, as a word. -/
theorem State.alu_regWritten {s : State} {e cycles : Nat} {gd : Fin 16} {f : EngCore → Nat} {w : Word} (h : s.engReady e = true)
    (hw : BitVec.ofNat 32 (f (s.engCore e)) = w) : RegWritten s (s.alu e gd cycles f) e gd w cycles := by
  rw [State.alu, State.instr_ready h]
  exact regWritten_setCore h hw

/-- An R-format instruction computes on the words of its two registers. -/
theorem State.aluR_answers {s : State} {e cycles : Nat} {gd ga gb : Fin 16} {f : Nat → Nat → Nat} {op : Word → Word → Word}
    (h : s.engReady e = true) (hop : ∀ a b : Word, BitVec.ofNat 32 (f a.toNat b.toNat) = op a b) :
    Answers (.next (s.aluR e gd ga gb f cycles)) (fun t => RegWritten s t e gd (op (s.g e ga) (s.g e gb)) cycles) :=
  ⟨_, rfl, State.alu_regWritten h (by rw [← State.g_toNat, ← State.g_toNat]; exact hop ..)⟩

/-- An I-format instruction computes on the word of its register. -/
theorem State.aluI_answers {s : State} {e : Nat} {gd ga : Fin 16} {f : Nat → Nat} {op : Word → Word} (h : s.engReady e = true)
    (hop : ∀ a : Word, BitVec.ofNat 32 (f a.toNat) = op a) :
    Answers (.next (s.aluI e gd ga f)) (fun t => RegWritten s t e gd (op (s.g e ga)) 1) :=
  ⟨_, rfl, State.alu_regWritten h (by rw [← State.g_toNat]; exact hop _)⟩

theorem setWidth_toNat (i : BitVec 18) : i.toNat = (i.setWidth 32).toNat :=
  (BitVec.toNat_setWidth_of_le (by decide)).symm

/-- Settles O55: each result is the 32-bit word of what the model computes on numbers. -/
theorem engineArithmeticComputes : Obligations.EngineArithmeticComputes := by
  rintro s e gd ga gb i _ _ h rfl rfl
  exact ⟨State.aluR_answers h fun a b => by rw [BitVec.ofNat_add, BitVec.ofNat_toNat, BitVec.ofNat_toNat, BitVec.setWidth_eq, BitVec.setWidth_eq],
    State.aluR_answers h ofNat_sub,
    State.aluR_answers h ofNat_land,
    State.aluR_answers h ofNat_lor,
    State.aluR_answers h ofNat_xor,
    State.aluR_answers (op := fun a b => a <<< (b.toNat % 32)) h fun a _ => ofNat_shl a _,
    State.aluR_answers (op := fun a b => a >>> (b.toNat % 32)) h fun a _ => ofNat_shr a _,
    State.aluR_answers (op := fun a b => a.sshiftRight (b.toNat % 32)) h fun a _ => ofNat_sar a _,
    State.aluR_answers h fun a b => by rw [BitVec.ofNat_mul, BitVec.ofNat_toNat, BitVec.ofNat_toNat, BitVec.setWidth_eq, BitVec.setWidth_eq],
    State.aluR_answers (op := fun a b => if a.ult b then 1 else 0) h ofNat_sltu,
    State.aluI_answers (op := (· + i.signExtend 32)) h fun a => by rw [BitVec.ofNat_add, ofNat_sext (by decide), BitVec.ofNat_toNat, BitVec.setWidth_eq],
    State.aluI_answers (op := (· &&& i.setWidth 32)) h fun a => by rw [setWidth_toNat]; exact ofNat_land a _,
    State.aluI_answers (op := (· ||| i.setWidth 32)) h fun a => by rw [setWidth_toNat]; exact ofNat_lor a _,
    State.aluI_answers (op := (· ^^^ i.setWidth 32)) h fun a => by rw [setWidth_toNat]; exact ofNat_xor a _,
    ⟨_, rfl, State.alu_regWritten h (by rw [setWidth_toNat]; exact ofNat_shl _ 14)⟩⟩

end Sys2Proof.Machine
end

section
/-! The engines' loads, stores, branches and jumps (R383, R384, R386). -/

namespace Sys2Proof.Machine

/-! ### Addresses -/

/-- Data memory lies at 0x10000 to 0x3FFFF of an engine's addresses, whatever ports the engine serves. -/
theorem State.engMap_dmem {s : State} {e addr o : Nat} (h : s.engMap e addr = .dmem o) : 0x10000 ≤ addr ∧ addr < 0x40000 ∧ o = addr - 0x10000 := by
  unfold State.engMap at h
  split at h
  · cases h
  · next hlo =>
    split at h
    · next hhi => exact ⟨Nat.not_lt.mp hlo, hhi, (EngLoc.dmem.inj h).symm⟩
    · split at h
      · split at h <;> cases h
      · split at h <;> cases h

theorem State.engMap_of_dmem (s : State) (e : Nat) {addr : Nat} (hlo : 0x10000 ≤ addr) (hhi : addr < 0x40000) :
    s.engMap e addr = .dmem (addr - 0x10000) := by
  rw [State.engMap, if_neg (Nat.not_lt.mpr hlo), if_pos hhi]

theorem State.engMap_dmem_congr {s t : State} {e addr o : Nat} (h : s.engMap e addr = .dmem o) : t.engMap e addr = .dmem o := by
  obtain ⟨hlo, hhi, ho⟩ := State.engMap_dmem h
  rw [ho]
  exact State.engMap_of_dmem t e hlo hhi

/-- An address in data memory is aligned where its offset is. -/
theorem State.engMap_dmem_align {s : State} {e addr o : Nat} (h : s.engMap e addr = .dmem o) : addr % 4 = o % 4 := by
  obtain ⟨hlo, hhi, ho⟩ := State.engMap_dmem h
  omega

theorem sext_add_mod (w : Nat) (h : 0 < w) (a : Word) (i : BitVec w) : (a.toNat + sext w i.toNat) % 2 ^ 32 = (a + i.signExtend 32).toNat := by
  rw [← ofNat_sext h, BitVec.toNat_add, BitVec.toNat_ofNat]
  omega

/-- The address of a load or store is that of its words. -/
theorem State.ea_eq (s : State) (e : Nat) (ga : Fin 16) (i : BitVec 18) : (s.engCore e).ea ga i = (s.g e ga + i.signExtend 32).toNat := by
  rw [EngCore.ea, ← State.g_toNat, sext_add_mod 18 (by decide)]

/-! ### Loads -/

/-- An own engine reads its own memory also while it is fetching. -/
theorem State.engIx_fetch {s : State} {e : Nat} (h : s.engReady e = true) (v : Nat) : (s.set (F.ENG_PC_PC e) v).engIx e = e :=
  State.engIx_own (State.mirrors_fetch h v)

/-- LD of a word of data memory (R383). -/
theorem exec_ld_dmem {s : State} {e : Fin 24} (gd : Fin 16) {ga : Fin 16} {i : BitVec 18} {o : Nat} (h : s.engReady e = true)
    (hmap : s.engMap e (s.g e ga + i.signExtend 32).toNat = .dmem o) (halign : o % 4 = 0) :
    exec (.ld e gd ga i .none) s = .next ((s.set (F.ENG_PC_PC e) ((s.engCore e).pc / 4)).loaded e gd (s.engWord e 1 o) 2 (s.engCore e)) := by
  refine congrArg Host.Outcome.next ((State.instr_ready h _).trans ?_)
  have haddr := State.engMap_dmem_align hmap
  simp only [State.ea_eq, State.engMap_dmem_congr hmap, haddr, halign, ne_eq, not_true_eq_false, if_false, State.eccThen, State.engIx_fetch h]
  rfl

/-- LDB of a byte of data memory (R383). -/
theorem exec_ldb_dmem {s : State} {e : Fin 24} (gd : Fin 16) {ga : Fin 16} {i : BitVec 18} {o : Nat} (h : s.engReady e = true)
    (hmap : s.engMap e (s.g e ga + i.signExtend 32).toNat = .dmem o) :
    exec (.ldb e gd ga i .none) s = .next ((s.set (F.ENG_PC_PC e) ((s.engCore e).pc / 4)).loaded e gd
      (s.engWord e 1 (o / 4 * 4) / 256 ^ (o % 4) % 256) 2 (s.engCore e)) := by
  refine congrArg Host.Outcome.next ((State.instr_ready h _).trans ?_)
  simp only [State.ea_eq, State.engMap_dmem_congr hmap, State.eccThen, State.engIx_fetch h]
  rfl

/-! ### Stores -/

/-- A store of a word to data memory, and the engine behind it, while the journal has room (R391). -/
def State.storedWord (s : State) (e o v : Nat) : State :=
  ((s.set (F.ENG_PC_PC e) ((s.engCore e).pc / 4)).storeData e o v).setCore e ((s.engCore e).next 1)

theorem State.journalAdd_mem (s : State) (e o v : Nat) : (s.journalAdd e o v).mem = s.mem := by
  unfold State.journalAdd
  split <;> rfl

theorem State.journalAdd_length (s : State) (e o v : Nat) : (s.journalAdd e o v).engs.journal.length ≤ s.engs.journal.length + 1 := by
  unfold State.journalAdd
  split
  · simp [State.setEngs]
  · exact Nat.le_succ _

theorem State.mirrors_storeData (s : State) (e o v d : Nat) : (s.storeData e o v).mirrors d = s.mirrors d := by
  refine State.mirrors_congr ?_ ?_ d <;>
  · unfold State.storeData State.journalAdd
    split <;> rfl

theorem State.journalFull_room {s : State} (h : s.engs.journal.length < 2048) : s.journalFull = s :=
  if_neg (Nat.not_le.mpr h)

theorem State.storedWord_room {s : State} {e o v : Nat} (h : s.engs.journal.length + 1 < 2048) :
    (s.storedWord e o v).engs.journal.length < 2048 :=
  Nat.lt_of_le_of_lt (State.journalAdd_length ..) h

/-- The word is stored, and no other. -/
theorem State.storedWord_engWord {s : State} {e o v : Nat} (h : s.engReady e = true) (e' sp o' : Nat) :
    (s.storedWord e o v).engWord e' sp o' = if engKey e' sp o' = engKey e 1 o then v % 2 ^ 32 else s.engWord e' sp o' := by
  have hmem : (s.storedWord e o v).mem = (s.setEngWord e 1 o v).mem := by
    refine (State.journalAdd_mem ..).trans ?_
    rw [State.engIx_fetch h]
    rfl
  rw [State.engWord, hmem]
  exact State.engWord_setEngWord ..

theorem State.storedWord_engCore {s : State} {e o v : Nat} (h : s.engReady e = true) : (s.storedWord e o v).engCore e = (s.engCore e).next 1 :=
  State.engCore_setCore _ ((State.mirrors_storeData ..).trans (State.mirrors_fetch h _))

/-- ST of a word to data memory (R383). -/
theorem exec_st_dmem {s : State} {e : Fin 24} {gd ga : Fin 16} {i : BitVec 18} {o : Nat} (h : s.engReady e = true)
    (hmap : s.engMap e (s.g e ga + i.signExtend 32).toNat = .dmem o) (halign : o % 4 = 0) (hroom : s.engs.journal.length + 1 < 2048) :
    exec (.st e gd ga i) s = .next (s.storedWord e o (s.g e gd).toNat) := by
  refine congrArg Host.Outcome.next ((State.instr_ready h _).trans ?_)
  have haddr := State.engMap_dmem_align hmap
  simp only [State.ea_eq, State.engMap_dmem_congr hmap, ← State.g_toNat, haddr, halign, ne_eq, not_true_eq_false, if_false]
  exact State.journalFull_room (State.storedWord_room hroom)

/-- A word with its byte `j` replaced. -/
def byteWritten (w j b : Nat) : Nat := w - w / 256 ^ j % 256 * 256 ^ j + b % 256 * 256 ^ j

/-- STB of a byte to data memory (R383). -/
theorem exec_stb_dmem {s : State} {e : Fin 24} {gd ga : Fin 16} {i : BitVec 18} {o : Nat} (h : s.engReady e = true)
    (hmap : s.engMap e (s.g e ga + i.signExtend 32).toNat = .dmem o) (hroom : s.engs.journal.length + 1 < 2048) :
    exec (.stb e gd ga i .none) s =
      .next (s.storedWord e (o / 4 * 4) (byteWritten (s.engWord e 1 (o / 4 * 4)) (o % 4) (s.g e gd).toNat)) := by
  refine congrArg Host.Outcome.next ((State.instr_ready h _).trans ?_)
  simp only [State.ea_eq, State.engMap_dmem_congr hmap, ← State.g_toNat, State.eccThen, State.engIx_fetch h]
  exact State.journalFull_room (State.storedWord_room hroom)

/-- The byte is written, the others stay, and the result is a word. -/
theorem byteWritten_spec {w j b : Nat} (hw : w < 2 ^ 32) (hj : j < 4) : byteWritten w j b < 2 ^ 32 ∧ byteWritten w j b / 256 ^ j % 256 = b % 256 ∧
    ∀ k, k < 4 → k ≠ j → byteWritten w j b / 256 ^ k % 256 = w / 256 ^ k % 256 := by
  unfold byteWritten
  rcases (by omega : j = 0 ∨ j = 1 ∨ j = 2 ∨ j = 3) with rfl | rfl | rfl | rfl <;> refine ⟨by omega, by omega, fun k hk hne => ?_⟩ <;>
    rcases (by omega : k = 0 ∨ k = 1 ∨ k = 2 ∨ k = 3) with rfl | rfl | rfl | rfl <;> omega

/-! ### Branches and jumps -/

/-- The state after a ready engine has run an instruction that leaves the core `c`. -/
def State.ranTo (s : State) (e : Nat) (c : EngCore) : State := (s.set (F.ENG_PC_PC e) ((s.engCore e).pc / 4)).setCore e c

theorem State.ranTo_engCore {s : State} {e : Nat} (h : s.engReady e = true) (c : EngCore) : (s.ranTo e c).engCore e = c :=
  State.engCore_setCore _ (State.mirrors_fetch h _)

theorem ofSigned_mul4 (pc : Word) {w : Nat} (h : 0 < w) (o : BitVec w) :
    (pc.toNat + sext w o.toNat * 4) % 2 ^ 32 = (pc + o.signExtend 32 <<< 2).toNat := by
  rw [← ofNat_sext h, BitVec.toNat_add, BitVec.toNat_shiftLeft, BitVec.toNat_ofNat, Nat.shiftLeft_eq]
  omega

/-- A branch goes on at PC plus its offset in words when it is taken, and else at the next word. -/
theorem State.branch_answers {s : State} {e : Nat} {ga gb : Fin 16} {o : BitVec 18} {t : Nat → Nat → Bool} {P : Prop} [Decidable P] {pc : Word}
    (h : s.engReady e = true) (hpc : pc.toNat = (s.engCore e).pc) (ht : t (s.g e ga).toNat (s.g e gb).toNat = true ↔ P) :
    Answers (.next (s.branch e ga gb o t)) (fun u => (u.engCore e).pc = (if P then pc + o.signExtend 32 <<< 2 else pc + 4).toNat ∧ u.mem = s.mem) := by
  refine ⟨_, rfl, ?_⟩
  rw [State.branch, State.instr_ready h, ← State.g_toNat, ← State.g_toNat]
  by_cases hP : P
  · rw [if_pos (ht.mpr hP), if_pos hP]
    refine ⟨(congrArg EngCore.pc (State.ranTo_engCore h _)).trans ?_, rfl⟩
    rw [← ofSigned_mul4 pc (by decide), hpc]
  · rw [if_neg (mt ht.mp hP), if_neg hP]
    refine ⟨(congrArg EngCore.pc (State.ranTo_engCore h _)).trans ?_, rfl⟩
    rw [BitVec.toNat_add, hpc]
    rfl

/-- A jump goes on at its destination, and links. -/
theorem State.jump_answers {s : State} {e : Nat} {gd : Fin 16} {dest : EngCore → Nat} {d pc : Word} (h : s.engReady e = true)
    (hpc : pc.toNat = (s.engCore e).pc) (hd : dest (s.engCore e) % 2 ^ 32 = d.toNat) :
    Answers (.next (s.jump e gd dest)) (fun u => (u.engCore e).pc = d.toNat ∧ u.mem = s.mem ∧ (gd ≠ 0 → u.g e gd = pc + 4)) := by
  refine ⟨_, rfl, ?_⟩
  rw [State.jump, State.instr_ready h]
  refine ⟨(congrArg EngCore.pc (State.ranTo_engCore h _)).trans hd, rfl, fun hgd => ?_⟩
  apply BitVec.eq_of_toNat_eq
  rw [State.g_toNat]
  refine (congrArg (EngCore.reg · gd) (State.ranTo_engCore h _)).trans ?_
  show ((s.engCore e).setReg gd ((s.engCore e).pc + 4)).reg gd = _
  rw [EngCore.reg_setReg, if_pos ⟨rfl, Fin.val_ne_iff.mpr hgd⟩, BitVec.toNat_add, hpc]
  rfl

/-- Settles O56. -/
theorem engineMemoryAndBranchesAct : Obligations.EngineMemoryAndBranchesAct := by
  refine ⟨fun s e gd ga i o h hmap => ⟨fun halign => ⟨_, exec_ld_dmem gd h hmap halign, regWritten_setCore h rfl⟩,
      ⟨_, exec_ldb_dmem gd h hmap, regWritten_setCore h rfl⟩,
      fun halign hroom => ⟨_, exec_st_dmem h hmap halign hroom, ?_, fun e' sp o' hne => ?_, ?_, fun r => ?_⟩,
      fun hroom hw => ⟨_, exec_stb_dmem h hmap hroom, ?_, fun k hk hne => ?_, fun e' sp o' hne => ?_⟩⟩,
    fun s e gd ga gb o j a b pc h ha hb hpc => ?_⟩
  · rw [State.storedWord_engWord h, if_pos rfl]
    exact Nat.mod_eq_of_lt (BitVec.isLt _)
  · rw [State.storedWord_engWord h, if_neg hne]
  · rw [State.storedWord_engCore h]
    rfl
  · rw [State.g, State.storedWord_engCore h]
    rfl
  · obtain ⟨hlt, hbyte, -⟩ := byteWritten_spec (b := (s.g e gd).toNat) hw (Nat.mod_lt o (by decide : 0 < 4))
    rw [State.storedWord_engWord h, if_pos rfl, Nat.mod_eq_of_lt hlt, hbyte]
  · obtain ⟨hlt, -, hother⟩ := byteWritten_spec (b := (s.g e gd).toNat) hw (Nat.mod_lt o (by decide : 0 < 4))
    rw [State.storedWord_engWord h, if_pos rfl, Nat.mod_eq_of_lt hlt, hother k hk hne]
  · rw [State.storedWord_engWord h, if_neg hne]
  · subst ha hb
    refine ⟨State.branch_answers h hpc ?_, State.branch_answers h hpc ?_, State.branch_answers h hpc ?_, State.branch_answers h hpc ?_,
      State.jump_answers h hpc ?_, ?_⟩
    · simp [BitVec.toNat_inj]
    · simp [BitVec.toNat_inj]
    · simp [BitVec.slt, toSigned_toNat]
    · simp [BitVec.ult]
    · rw [← hpc]
      exact ofSigned_mul4 pc (by decide) j
    · refine State.jump_answers h hpc ?_
      rw [← State.g_toNat]
      exact sext_add_mod 18 (by decide) _ o

end Sys2Proof.Machine
end

section
/-! DJNZ of the lane sequencer (R212) and TLPs on a link's channels (R267, R272, R273). -/

namespace Sys2Proof.Machine

/-! ### The sequencer's steps (R212) -/

/-- The present step runs where the sequencer is ready and its OP is the one named. -/
theorem State.seqOp_ready {s : State} {m op : Nat} (f : State → Nat → State) (hready : s.seqReady m = true) (hop : s.seqWord m / 2 ^ 27 = op) :
    s.seqOp m op f = f s (s.seqWord m % 2 ^ 23) := by
  have hcond : (s.seqReady m && s.seqWord m / 2 ^ 27 == op) = true := by rw [hready, hop, beq_self_eq_true, Bool.and_true]
  exact if_pos hcond

theorem State.seqAt_get_step (s : State) (m step : Nat) : (s.seqAt m step).get (F.SEQ_STAT_STEP m) = step % 64 :=
  (State.get_set ..).trans (Nat.mod_mod step 64)

theorem State.seqAt_get_ne (s : State) (m step : Nat) {f : Fld} (h : f.key ≠ (F.SEQ_STAT_STEP m).key) : (s.seqAt m step).get f = s.get f :=
  State.get_set_ne s _ h

theorem seqLc_ne_step (m : Nat) : (F.SEQ_STAT_LC m).key ≠ (F.SEQ_STAT_STEP m).key := by
  simp only [F.SEQ_STAT_LC, F.SEQ_STAT_STEP, Fld.key]
  omega

/-- The loop counter of sequencer `m` counted down. -/
def State.countedDown (s : State) (m : Nat) : State := s.set (F.SEQ_STAT_LC m) (s.get (F.SEQ_STAT_LC m) + 65535)

theorem State.countedDown_get (s : State) (m : Nat) : (s.countedDown m).get (F.SEQ_STAT_LC m) = (s.get (F.SEQ_STAT_LC m) + 65535) % 65536 :=
  State.get_set ..

theorem State.countedDown_get_ne (s : State) (m : Nat) {f : Fld} (h : f.key ≠ (F.SEQ_STAT_LC m).key) : (s.countedDown m).get f = s.get f :=
  State.get_set_ne s _ h

/-- The step that DJNZ goes on at: the next one where the counter has reached 0, and else the one named. -/
theorem exec_seqDjnz {s : State} {m : Fin 80} (hready : s.seqReady m = true) (hop : s.seqWord m / 2 ^ 27 = 11) :
    exec (.seqDjnz m) s = .next ((s.countedDown m).seqAt m
      (if s.get (F.SEQ_STAT_LC m) % 65536 = 1 then s.get (F.SEQ_STAT_STEP m) + 1 else s.seqWord m % 64)) := by
  refine congrArg Host.Outcome.next ((State.seqOp_ready _ hready hop).trans ?_)
  show (if (s.countedDown m).get (F.SEQ_STAT_LC m) = 0 then (s.countedDown m).seqNext m else (s.countedDown m).seqAt m (s.seqWord m % 2 ^ 23 % 64)) = _
  rw [State.countedDown_get, State.seqNext, State.countedDown_get_ne s m (seqLc_ne_step m).symm, Nat.mod_mod_of_dvd _ (by decide)]
  by_cases h : s.get (F.SEQ_STAT_LC m) % 65536 = 1
  · rw [if_pos h, if_pos (by omega)]
  · rw [if_neg h, if_neg (by omega)]

/-- Settles O44. -/
theorem djnzCountsDown : Obligations.DjnzCountsDown := by
  intro s m hready hop
  refine ⟨_, exec_seqDjnz hready hop, ?_, fun h => ?_, fun h => ?_, fun f hlc hstep => ?_⟩
  · rw [State.seqAt_get_ne _ _ _ (seqLc_ne_step m), State.countedDown_get]
  · rw [State.seqAt_get_step, if_pos h]
  · rw [State.seqAt_get_step, if_neg h, Nat.mod_mod]
  · rw [State.seqAt_get_ne _ _ _ hstep, State.countedDown_get_ne _ _ hlc]

/-! ### TLPs (R267, R269, R272, R273) -/

/-- While the hub is up no TLP is shut out. -/
theorem not_shutOut {s : State} (hup : s.shut = false) (t : TlpIn) : ¬(s.shut && !tlpDown t) = true := by
  simp [hup]

/-- A TLP for a channel that is not open, or of another generation, is stale. -/
theorem exec_tlp_stale {s : State} {n : Fin 16} {chan : BitVec 16} (t : TlpIn) (hup : s.shut = false)
    (h : s.chState n (chW 1 (chan.toNat % 32)) ≠ 1 ∨ s.get (F.CH_INFO_WORD n (chW 1 (chan.toNat % 32))) ≠ chan.toNat) :
    exec (.tlp n chan t) s = .next (s.stale 1) :=
  congrArg Host.Outcome.next ((if_neg (not_shutOut hup t)).trans (if_pos h))

/-- A channel that is open in the generation that a TLP names. -/
def State.chanOpen (s : State) (n : Nat) (chan : BitVec 16) : Prop :=
  s.chState n (chW 1 (chan.toNat % 32)) = 1 ∧ s.get (F.CH_INFO_WORD n (chW 1 (chan.toNat % 32))) = chan.toNat

theorem State.not_stale_of_chanOpen {s : State} {n : Nat} {chan : BitVec 16} (h : s.chanOpen n chan) :
    ¬(s.chState n (chW 1 (chan.toNat % 32)) ≠ 1 ∨ s.get (F.CH_INFO_WORD n (chW 1 (chan.toNat % 32))) ≠ chan.toNat) := by
  obtain ⟨hstate, hgen⟩ := h
  simp [hstate, hgen]

/-- A TLP that is past its limit is dropped and counted. -/
theorem exec_tlp_tooLong {s : State} {n : Fin 16} {chan : BitVec 16} {t : TlpIn} (hup : s.shut = false) (hopen : s.chanOpen n chan)
    (ht : tlpTooLong t = true) : exec (.tlp n chan t) s = .next (s.sat (F.CH_DROP_COUNT n (chW 1 (chan.toNat % 32)))) :=
  congrArg Host.Outcome.next ((if_neg (not_shutOut hup t)).trans ((if_neg (State.not_stale_of_chanOpen hopen)).trans (if_pos ht)))

/-- A TLP that is not shut out, not stale and not too long is served. -/
theorem tlp_served {s a b c u v : State} {n : Nat} {chan : BitVec 16} {t : TlpIn} (hup : s.shut = false) (hopen : s.chanOpen n chan)
    (ht : tlpTooLong t = false) (huv : u = v) :
    (if s.shut && !tlpDown t then a
    else if s.chState n (chW 1 (chan.toNat % 32)) ≠ 1 ∨ s.get (F.CH_INFO_WORD n (chW 1 (chan.toNat % 32))) ≠ chan.toNat then b
    else if tlpTooLong t then c else u) = v := by
  rw [if_neg (not_shutOut hup t), if_neg (State.not_stale_of_chanOpen hopen), if_neg (by simp [ht]), huv]

/-- The state with the open request of a host that a completion answers taken out. -/
def State.npEnded (s : State) (h d tag : Nat) : State :=
  s.mapPort (fun p => { p with np := p.np.filter (fun e => !(e.1 == h && e.2.1 == d && e.2.2 == tag)) })

/-- The requests that a completion leaves open are without the one that it answers. -/
theorem npAnswered (l : List (Nat × Nat × Nat)) (h d tag : Nat) : (h, d, tag) ∉ l.filter (fun e => !(e.1 == h && e.2.1 == d && e.2.2 == tag)) := by
  simp

/-- Settles O48. -/
theorem tlpsFollowTheirChannel : Obligations.TlpsFollowTheirChannel := by
  refine ⟨fun s n chan t hup h => exec_tlp_stale t hup h, fun s n chan x h d hup hstate hgen hfn => ?_, fun s n chan v d c w hw => ?_⟩
  · have hopen : s.chanOpen n chan := ⟨hstate, hgen⟩
    refine ⟨fun tag a len => congrArg Host.Outcome.next (tlp_served hup hopen rfl (by rw [hfn])),
      fun a b => ⟨fun hlen => congrArg Host.Outcome.next (tlp_served hup hopen ?_ (by rw [hfn])), fun hlen => exec_tlp_tooLong hup hopen ?_⟩,
      fun tag a op => congrArg Host.Outcome.next (tlp_served hup hopen rfl (by rw [hfn])),
      fun on => congrArg Host.Outcome.next (tlp_served hup hopen rfl (by rw [hfn])),
      congrArg Host.Outcome.next (tlp_served hup hopen rfl (by rw [hfn])),
      fun off => congrArg Host.Outcome.next (tlp_served hup hopen rfl (by rw [hfn]; rfl)),
      fun b hlen => congrArg Host.Outcome.next (tlp_served hup hopen ?_ (by rw [hfn])),
      fun tag => ⟨s.npEnded h d tag.toNat, congrArg Host.Outcome.next (tlp_served hup hopen rfl (by rw [hfn]; rfl)), npAnswered _ h d tag.toNat, rfl⟩⟩
    · exact decide_eq_false (Nat.not_lt.mpr hlen)
    · exact decide_eq_true hlen
    · exact decide_eq_false (Nat.not_lt.mpr hlen)
  · subst hw
    refine ⟨fun hgen => congrArg Host.Outcome.next (if_pos hgen), fun hgen => congrArg Host.Outcome.next (if_neg hgen),
      fun hup hstate hgen => ⟨fun hscan => ?_, fun hscan => ?_⟩⟩
    · exact congrArg Host.Outcome.next (tlp_served hup ⟨hstate, hgen⟩ rfl (if_pos hscan))
    · exact congrArg Host.Outcome.next (tlp_served hup ⟨hstate, hgen⟩ rfl (if_neg (Bool.eq_false_iff.mp hscan)))

end Sys2Proof.Machine
end

section
/-! Hub time, PTP, PTM and the sync inputs (R53-R61, R79); what the hub has emitted stays emitted. -/

namespace Sys2Proof.Machine

/-! ### Raising an event takes back no output (R369-R379) -/

/-- What was emitted before stands; more may have been emitted since. -/
def OutGrows (s t : State) : Prop := s.sig.out <:+ t.sig.out

theorem OutGrows.refl (s : State) : OutGrows s s := List.suffix_rfl

theorem OutGrows.of_eq {s t : State} (h : t.sig.out = s.sig.out) : OutGrows s t := by
  unfold OutGrows
  exact h ▸ List.suffix_rfl

theorem OutGrows.trans {s t u : State} (h : OutGrows s t) (h' : OutGrows t u) : OutGrows s u := List.IsSuffix.trans h h'

/-- An operation that follows one that emits nothing. -/
theorem OutGrows.after {s t u : State} (h : OutGrows t u) (he : t.sig.out = s.sig.out) : OutGrows s u := (OutGrows.of_eq he).trans h

theorem State.emit_grows (s : State) (o : Out) : OutGrows s (s.emit o) := List.suffix_cons ..

theorem State.sendVec_grows (s : State) (t v : Nat) : OutGrows s (s.sendVec t v) := by
  unfold State.sendVec
  extract_lets
  split
  · exact OutGrows.of_eq rfl
  · exact State.emit_grows ..

theorem State.request_grows (s : State) (t : Nat) (fast : Bool) : OutGrows s (s.request t fast) := by
  unfold State.request
  split
  · split
    · exact State.sendVec_grows ..
    · exact OutGrows.refl s
  · exact OutGrows.refl s

theorem State.storeWords_out (s : State) (e off : Nat) (l : List Nat) : (s.storeWords e off l).sig.out = s.sig.out := by
  induction l generalizing s off with
  | nil => rfl
  | cons w l ih => exact ih ..

theorem State.putRec_grows (s : State) (h : Nat) (r : Rec) : OutGrows s (s.putRec h r).1 := by
  unfold State.putRec
  extract_lets m next s1
  have hput : OutGrows s s1 := State.emit_grows (s.setMail h _) _
  split
  · dsimp only
    split
    · exact hput.trans (State.request_grows ..)
    · exact hput
  · exact OutGrows.of_eq rfl

theorem State.putEngRec_grows (s : State) (t : Nat) (r : Rec) : OutGrows s (s.putEngRec t r).1 := by
  unfold State.putEngRec
  extract_lets size g cons prod s1 s2
  have hstore : OutGrows s s2 := OutGrows.of_eq (State.storeWords_out s ..)
  split
  · exact OutGrows.of_eq rfl
  · dsimp only
    split
    · exact hstore.trans (State.request_grows ..)
    · exact hstore

theorem State.claimable_grows (s : State) (t ev : Nat) (fast : Bool) : OutGrows s (s.claimable t ev fast) := by
  have tell : ∀ (g : TgtRec) (c f : Bool), OutGrows s (if c then (s.setTgt t g).request t f else s.setTgt t g) := by
    intro g c f
    cases c
    · exact OutGrows.of_eq rfl
    · exact OutGrows.after (State.request_grows ..) rfl
  unfold State.claimable
  dsimp only
  split
  · split
    · exact OutGrows.of_eq rfl
    · exact tell ..
  · split
    · exact OutGrows.of_eq rfl
    · exact tell ..

theorem State.deliver_grows (s : State) (ev pg : Nat) (fast : Bool) : OutGrows s (s.deliver ev pg fast).1 := by
  unfold State.deliver
  dsimp only
  split
  · exact OutGrows.of_eq rfl
  · split
    · exact OutGrows.after (State.claimable_grows ..) rfl
    · split
      · exact OutGrows.after (State.putRec_grows ..) rfl
      · exact OutGrows.after (State.putEngRec_grows ..) rfl

theorem State.occur_grows (s : State) (ev : Nat) : OutGrows s (s.occur ev).1 := by
  unfold State.occur
  split
  · exact OutGrows.refl s
  · dsimp only
    split
    · exact OutGrows.after (State.deliver_grows ..) rfl
    · exact OutGrows.of_eq rfl

theorem State.occurAll_grows (n : Nat) (s : State) (l : List Nat) : OutGrows s (s.occurAll n l) := by
  induction n generalizing s l with
  | zero => exact OutGrows.refl s
  | succ n ih =>
    cases l with
    | nil => exact OutGrows.refl s
    | cons e l => exact (State.occur_grows s e).trans (ih ..)

/-- Raising an event takes back no output. -/
theorem State.raise_grows (s : State) (ev : Nat) : OutGrows s (s.raise ev) := State.occurAll_grows 40 s [ev]

/-! ### Values of 64 bits in two registers -/

/-- A value of 64 bits reads as written. -/
theorem State.get64_set64 (s : State) {lo hi : Fld} {v : Nat} (hlo : lo.width = 32) (hhi : hi.width = 32) (hne : lo.key ≠ hi.key) (hv : v < 2 ^ 64) :
    (s.set64 lo hi v).get64 lo hi = v := by
  unfold State.set64 State.get64
  rw [State.get_set_ne _ _ hne, State.get_set, State.get_set, hlo, hhi]
  omega

/-- Another pair of registers reads as before. -/
theorem State.get64_set64_ne (s : State) {lo hi lo' hi' : Fld} (v : Nat) (hll : lo.key ≠ lo'.key) (hlh : lo.key ≠ hi'.key) (hhl : hi.key ≠ lo'.key)
    (hhh : hi.key ≠ hi'.key) : (s.set64 lo' hi' v).get64 lo hi = s.get64 lo hi := by
  unfold State.set64 State.get64
  rw [State.get_set_ne _ _ hlh, State.get_set_ne _ _ hll, State.get_set_ne _ _ hhh, State.get_set_ne _ _ hhl]

theorem ofSigned_lt (w : Nat) (i : Int) : ofSigned w i < 2 ^ w := by
  unfold ofSigned
  have hpos : (0 : Int) < (2 ^ w : Nat) := by exact_mod_cast Nat.two_pow_pos w
  exact (Int.toNat_lt (Int.emod_nonneg _ (Int.ne_of_gt hpos))).mpr (Int.emod_lt_of_pos _ hpos)

/-! ### Slews (R54) -/

/-- The events of TIME0 have a source. -/
theorem evSrc_slewed : (evSrc 3075).isSome = true := by decide

/-- EV and EVT_STAT of a raised event, from its source. -/
theorem State.raise_stands (s : State) {ev : Nat} (h : (evSrc ev).isSome = true) : (s.raise ev).evStat ev = true := by
  obtain ⟨q, hq⟩ := Option.isSome_iff_exists.mp h
  exact State.raise_evStat s hq

/-- With the slew absorbed, SLEWING reads 0. -/
theorem State.showSlew_done {s : State} (h : s.time.clk.slew = 0) : s.showSlew.on F.TIME0_CLK_STAT_SLEWING = false := by
  unfold State.showSlew State.on
  rw [State.get_put _ _ rfl, h]
  rfl

/-! ### PTM with a host (R59, R61) -/

theorem ptmEvent_source (h : Fin 32) : (evSrc (260 + 32 * h.val)).isSome = true := by
  revert h
  decide

/-- The pair of host time and hub time that a dialogue records. -/
def State.ptmPair (s : State) (h hostTime : Nat) : State :=
  ((s.emit (.ptmReq h)).setI64 (F.PTM_HUB_LO_NS h) (F.PTM_HUB_HI_NS h) (s.stampIn h 0)).set64 (F.PTM_HOST_LO_NS h) (F.PTM_HOST_HI_NS h) hostTime

theorem exec_ptmDialogue_host {s : State} {h : Fin 32} (b : BitVec 64) (hen : s.on (F.PTM_CTRL_EN h) = true) (hlink : s.get (F.HP_STAT_LINK h) = 2) :
    exec (.ptmDialogue (.host h) b) s = .next ((s.ptmPair h b.toNat).raise (260 + 32 * h)) :=
  congrArg Host.Outcome.next (if_pos (by rw [hen, hlink]; rfl))

theorem ptm_keys_ne (h : Nat) : (F.PTM_HOST_LO_NS h).key ≠ (F.PTM_HOST_HI_NS h).key ∧ (F.PTM_HUB_LO_NS h).key ≠ (F.PTM_HUB_HI_NS h).key ∧
    (F.PTM_HUB_LO_NS h).key ≠ (F.PTM_HOST_LO_NS h).key ∧ (F.PTM_HUB_LO_NS h).key ≠ (F.PTM_HOST_HI_NS h).key ∧
    (F.PTM_HUB_HI_NS h).key ≠ (F.PTM_HOST_LO_NS h).key ∧ (F.PTM_HUB_HI_NS h).key ≠ (F.PTM_HOST_HI_NS h).key := by
  simp only [F.PTM_HOST_LO_NS, F.PTM_HOST_HI_NS, F.PTM_HUB_LO_NS, F.PTM_HUB_HI_NS, Fld.key]
  omega

theorem State.ptmPair_host (s : State) (h : Nat) (b : BitVec 64) : (s.ptmPair h b.toNat).get64 (F.PTM_HOST_LO_NS h) (F.PTM_HOST_HI_NS h) = b.toNat :=
  State.get64_set64 _ rfl rfl (ptm_keys_ne h).1 b.isLt

theorem State.ptmPair_hub (s : State) (h v : Nat) :
    (s.ptmPair h v).getI64 (F.PTM_HUB_LO_NS h) (F.PTM_HUB_HI_NS h) = toSigned 64 (ofSigned 64 (s.stampIn h 0)) := by
  obtain ⟨-, hhub, hll, hlh, hhl, hhh⟩ := ptm_keys_ne h
  refine congrArg (toSigned 64) ((State.get64_set64_ne _ v hll hlh hhl hhh).trans ?_)
  exact State.get64_set64 _ rfl rfl hhub (ofSigned_lt 64 _)

/-- Settles O26. -/
theorem timeCommandsAct : Obligations.TimeCommandsAct := by
  refine ⟨fun s p ht => congrArg Host.Outcome.next (State.writeVia_direct ht _),
    fun s hslewing hdone => ⟨s.showSlew.raise 3075, congrArg Host.Outcome.next (if_pos (by rw [hslewing, hdone]; rfl)), State.showSlew_done hdone, rfl,
      State.raise_stands _ evSrc_slewed⟩,
    fun s port m hon hdom => congrArg Host.Outcome.next (if_pos (by simp [hon, hdom])),
    fun s port off hon hmaster => ⟨_, congrArg Host.Outcome.next ((if_pos hon).trans (if_pos hmaster)), rfl, ?_, rfl⟩,
    fun s port m hon => congrArg Host.Outcome.next (if_pos hon),
    fun s h b hen hlink => ⟨_, exec_ptmDialogue_host b hen hlink, State.ptmPair_host s h b, State.ptmPair_hub s h b.toNat, ?_,
      State.raise_stands _ (ptmEvent_source h)⟩,
    fun s m id b hlink hmode => congrArg Host.Outcome.next (if_pos ⟨hlink, hmode⟩),
    fun s m level hen hon hseen hne hedge => congrArg Host.Outcome.next ?_,
    fun s m hen hon hper hlost hlate => congrArg Host.Outcome.next (if_pos ?_)⟩
  · show (tget {} (tset s.time.ptp port _) port).seqAnn = _
    rw [tget_tset, if_pos rfl]
  · exact (State.raise_grows _ _).subset (List.mem_cons_self ..)
  · simp [hen, hon, hseen, hne, hedge]
  · simp [hen, hon, hper, hlost, hlate]

end Sys2Proof.Machine
end

section
/-! The axes (R63-R73), triggers and captures (R75-R78). -/

namespace Sys2Proof.Machine

theorem State.axis_setAxis (s : State) (a b : Nat) (x : AxisSt) : (s.setAxis a x).axis b = if b = a then x else s.axis b := tget_tset ..

/-- A start level of Z (R63): the axis takes it, and only ZBA shows it. -/
theorem exec_zPulse_start {s : State} {a : Fin 8} (z : Bool) (hsrc : s.get (F.AX_CTRL_SOURCE a) = 0) (hstart : (s.axis a).zStart = false) :
    exec (.zPulse ⟨a, z⟩) s = .next ((s.setAxis a { s.axis a with z := z, zStart := true }).showLevels a) :=
  congrArg Host.Outcome.next ((if_pos hsrc).trans (if_neg (by simp [hstart])))

/-- Settles O27. -/
theorem axisCommandsAct : Obligations.AxisCommandsAct := by
  refine ⟨fun s a la lb hsrc => congrArg Host.Outcome.next (if_pos hsrc),
    fun s p a d ht => congrArg Host.Outcome.next (State.writeVia_direct ht _),
    fun s a hsrc hmode hz hstart => congrArg Host.Outcome.next ((if_pos hsrc).trans (if_pos (by simp [hmode, hz, hstart]))),
    fun s a z hsrc hstart => ⟨_, exec_zPulse_start z hsrc hstart, ?_, rfl, fun f hf => State.get_set_ne _ _ hf⟩,
    fun s a hon hrun => ⟨congrArg Host.Outcome.next (if_pos (by simp [hon, hrun])),
      fun htime => congrArg Host.Outcome.next (if_pos (by simp [hon, hrun, htime]))⟩,
    fun s a hon => congrArg Host.Outcome.next (if_pos hon),
    fun s p a ht => congrArg Host.Outcome.next (State.writeVia_direct ht _),
    fun s p a ht => congrArg Host.Outcome.next (State.writeVia_direct ht _)⟩
  exact (State.axis_setAxis ..).trans (if_pos rfl)

/-! ### The end of a pulse (R75) -/

theorem trigger_keys_ne (n : Nat) : (F.TSTAT_OUTPUT n).key ≠ (F.TSTAT_ARMED n).key ∧ (F.TCTRL_POL n).key ≠ (F.TSTAT_OUTPUT n).key ∧
    (F.TCTRL_POL n).key ≠ (F.TSTAT_ARMED n).key := by
  simp only [F.TSTAT_OUTPUT, F.TSTAT_ARMED, F.TCTRL_POL, Fld.key]
  omega

/-- A trigger whose ONCE mode has fired disarms itself at its pulse's end. -/
def State.onceDone (s : State) (n : Nat) : State := if (s.trig n).fired then s.disarm n else s

theorem State.onceDone_get_ne (s : State) (n : Nat) {f : Fld} (h : f.key ≠ (F.TSTAT_ARMED n).key ∨ (s.trig n).fired = false) :
    (s.onceDone n).get f = s.get f := by
  unfold State.onceDone
  split
  · next hfired => exact State.get_set_ne s 0 (h.resolve_right (by simp [hfired]))
  · rfl

theorem State.onceDone_armed {s : State} {n : Nat} (h : (s.trig n).fired = true) : (s.onceDone n).get (F.TSTAT_ARMED n) = 0 := by
  rw [State.onceDone, if_pos h]
  exact (State.get_set s (F.TSTAT_ARMED n) 0).trans (Nat.zero_mod _)

theorem State.onceDone_out (s : State) (n : Nat) : (s.onceDone n).sig.out = s.sig.out := by
  unfold State.onceDone
  split <;> rfl

theorem State.drive_get (s : State) (n : Nat) (active : Bool) (ps : Int) (f : Fld) : (s.drive n active ps).get f = (s.put (F.TSTAT_OUTPUT n) active).get f := by
  unfold State.drive
  dsimp only
  split <;> rfl

/-- An active output that ends drives its ball to the level that POL gives an inactive one. -/
theorem State.drive_off_out {s : State} {n : Nat} (ps : Int) (h : s.on (F.TSTAT_OUTPUT n) = true) :
    (s.drive n false ps).sig.out = .trigger n (s.on (F.TCTRL_POL n)) ps :: s.sig.out := by
  obtain ⟨-, hpol, -⟩ := trigger_keys_ne n
  have hoff : (s.put (F.TSTAT_OUTPUT n) false).on (F.TSTAT_OUTPUT n) = false := by
    unfold State.on
    rw [State.get_put _ _ rfl]
    rfl
  have hsame : (s.put (F.TSTAT_OUTPUT n) false).on (F.TCTRL_POL n) = s.on (F.TCTRL_POL n) := by
    unfold State.on State.put
    rw [State.get_set_ne _ _ hpol]
  have hlevel : (s.put (F.TSTAT_OUTPUT n) false).pinLevel n = s.on (F.TCTRL_POL n) := by
    rw [State.pinLevel, hoff, hsame, Bool.false_bne]
  unfold State.drive
  dsimp only
  rw [hlevel, State.pinLevel, h, if_neg (by simp)]
  rfl

theorem exec_pulseEnd {s : State} {n : Fin 16} (hout : s.on (F.TSTAT_OUTPUT n) = true) (hmode : s.trigMode n ≠ 1) (hleft : (s.trig n).left = 0) :
    exec (.pulseEnd n) s = .next ((s.onceDone n).drive n false ((s.now : Int) * 1000 - s.getI (F.PIN_OFS_PS n))) :=
  congrArg Host.Outcome.next (if_pos (by simp [hout, hmode, hleft]))

/-! ### Captures (R78) -/

theorem State.setCap_time (s : State) (n : Nat) (c : Capture) : (s.setCap n c).time = { s.time with caps := tset s.time.caps n c } := by
  unfold State.setCap State.showCap
  dsimp only
  split <;> rfl

theorem State.cap_setCap (s : State) (n : Nat) (c : Capture) : (s.setCap n c).cap n = c := by
  rw [State.cap, State.setCap_time]
  exact (tget_tset ..).trans (if_pos rfl)

/-- The entry that a selected edge brings: its stamp, and the position at that instant. -/
def State.capEntry (s : State) (n : Nat) (level : Bool) : CapEntry :=
  { stamp := s.pinStamp (16 + n) (s.before (s.get (F.CAP_CTRL_FILTER n))),
    pos := if s.on (F.CAP_CTRL_AXIS_EN n) then s.posThen (s.get (F.CAP_CTRL_AXIS n)) (s.before (s.get (F.CAP_CTRL_FILTER n))) else 0, rising := level }

/-- A selected edge is queued while the queue has room. -/
theorem exec_captureEdge {s : State} {n : Fin 16} {level : Bool} (hen : s.on (F.CAP_CTRL_EN n) = true) (hon : s.timeOn = true)
    (hseen : (s.cap n).seen = true) (hne : (s.cap n).level ≠ level) (hedge : edgeSelected (s.get (F.CAP_CTRL_EDGE n)) level = true)
    (hroom : (s.cap n).queue.length < 16) : exec (.captureEdge n level) s =
      .next ((s.setCap n { s.cap n with level := level, queue := (s.cap n).queue ++ [s.capEntry n level] }).raise (3200 + n)) := by
  refine congrArg Host.Outcome.next ((if_pos (by rw [hen, hon]; rfl)).trans ?_)
  rw [if_neg (by simp [hseen]), if_pos (by simp [hne]), if_pos hedge]
  exact if_neg (Nat.not_le.mpr hroom)

/-- Settles O29. -/
theorem triggersAndCapturesAct : Obligations.TriggersAndCapturesAct := by
  refine ⟨fun s p n v ht => congrArg Host.Outcome.next (State.writeVia_direct ht _),
    fun s p n v ht => congrArg Host.Outcome.next (State.writeVia_direct ht _),
    fun s n hdue => congrArg Host.Outcome.next (if_pos hdue),
    fun s n hout hmode hleft => ⟨_, exec_pulseEnd hout hmode hleft, ?_, ?_, fun hfired => ?_, fun f hf hfired => ?_⟩,
    fun s n level hen hon hseen hne hedge hroom => ⟨_, exec_captureEdge hen hon hseen hne hedge hroom, ?_, ?_, ?_⟩,
    fun s p n ht => congrArg Host.Outcome.next (State.writeVia_direct ht _)⟩
  · rw [State.drive_get, State.get_put _ _ rfl]
    rfl
  · obtain ⟨houtput, -, hpol⟩ := trigger_keys_ne n
    rw [State.drive_off_out, State.onceDone_out, State.on, State.onceDone_get_ne s n (.inl hpol)]
    · rfl
    · rw [State.on, State.onceDone_get_ne s n (.inl houtput)]
      exact hout
  · rw [State.drive_get]
    exact (State.get_set_ne _ _ (trigger_keys_ne n).1.symm).trans (State.onceDone_armed hfired)
  · rw [State.drive_get]
    exact (State.get_set_ne _ _ hf).trans (State.onceDone_get_ne s n hfired)
  · show ((s.setCap n _).cap n).queue.length = _
    rw [State.cap_setCap, List.length_append]
    rfl
  · show ((s.setCap n _).cap n).queue.take _ = _
    rw [State.cap_setCap, List.take_left]
  · show ((s.setCap n _).cap n).level = _
    rw [State.cap_setCap]

end Sys2Proof.Machine
end

section
/-! Cells and their streams (R89-R97, R108). -/

namespace Sys2Proof.Machine

/-! ### Arrival (R81, R93, R95, R99) -/

/-- A message of at most 256 bytes is one cell. -/
theorem cellPieces_one {b : List (BitVec 8)} (h : b.length ≤ 256) (n : Nat) : cellPieces (n + 1) b = [b] := if_pos h

theorem exec_cellArrival (s : State) (c : CellIn) : exec (.cellArrival c) s = .next (s.arrive c).wakeDocks := rfl

theorem State.arrive_one {s : State} {c : CellIn} (hlit : s.isDark = false) (hup : s.shut = false) (hlen : c.payload.length ≤ 256) :
    s.arrive c = s.arriveCell c c.payload c.som c.eom := by
  unfold State.arrive
  rw [if_neg (by simp [hlit]), if_neg (by simp [hup]), cellPieces_one hlen]
  unfold State.arriveAll
  simp only [List.isEmpty_nil, Bool.and_true]
  split <;> rfl

/-- An untagged cell that its partition has room for is taken, and skimmed where that is allowed. -/
theorem State.arriveCell_untagged {s : State} {c : CellIn} {b : List (BitVec 8)} {som eom : Bool} {part : Part} (htag : c.tag = .none)
    (hpart : s.partition c.src (s.newCell c b som eom part .waiting).units = some part) :
    s.arriveCell c b som eom =
      if s.skims c (s.newCell c b som eom part .waiting) then
        (((((s.chargeCell (s.newCell c b som eom part .waiting)).wakeLink c.dst).launch (s.newCell c b som eom part .waiting) true).payCell
          (s.newCell c b som eom part .waiting)).outUsed c.dst).wrap (F.SKIMMED_COUNT c.src)
      else (s.chargeCell (s.newCell c b som eom part .waiting)).wakeLink c.dst := by
  have hpart' : s.partition c.src (s.newCell c b som eom .reserve .waiting).units = some part := hpart
  unfold State.arriveCell
  dsimp only
  rw [if_pos htag, hpart']
  rfl

/-- A tagged cell that the hold pool has room for is held. -/
theorem State.arriveCell_tagged {s : State} {c : CellIn} {b : List (BitVec 8)} {som eom : Bool} (htag : c.tag ≠ .none)
    (hfree : (s.newCell c b som eom .hold .held).units ≤ s.get F.VAT_FREE_UNITS)
    (hroom : s.get F.HOLD_USED_UNITS + (s.newCell c b som eom .hold .held).units ≤ 131072) :
    s.arriveCell c b som eom =
      if c.dst.val < 64 then (((s.chargeCell (s.newCell c b som eom .hold .held)).wheelAdd 1).placeHeld (s.newCell c b som eom .hold .held).id).selectState c.dst
      else ((s.chargeCell (s.newCell c b som eom .hold .held)).wheelAdd 1).placeHeld (s.newCell c b som eom .hold .held).id := by
  have hfree' : (s.newCell c b som eom .reserve .waiting).units ≤ s.get F.VAT_FREE_UNITS := hfree
  have hroom' : s.get F.HOLD_USED_UNITS + (s.newCell c b som eom .reserve .waiting).units ≤ 131072 := hroom
  unfold State.arriveCell
  dsimp only
  rw [if_neg htag, if_neg (Nat.not_lt.mpr hfree'), if_neg (Nat.not_lt.mpr hroom')]
  rfl

/-! ### The churn (R89-R91) -/

/-- While no ride-through holds it back, the churn matches on every plane that is in service. -/
theorem State.churn_full {s : State} (hrun : s.sw.stopped = false) (hfull : s.countStalls.on F.RT_STAT_ACTIVE = false) :
    s.churn = ((List.range 3).filter (fun p => s.countStalls.get (planeStat p) == 0 && s.countStalls.domState (6 + p) == 0)).foldl State.churnPlane
      { s.countStalls with sw := { s.countStalls.sw with parity := true } } := by
  unfold State.churn
  rw [if_neg (by simp [hrun]), if_neg (by simp [hfull])]
  rfl

/-! ### Acknowledgement (R94, R96, R108) -/

theorem State.cellGone_cells (s : State) (c : Cell) : (s.cellGone c).sw.cells = s.sw.cells := by
  unfold State.cellGone
  split <;> rfl

theorem State.holdWarn_cells (s : State) : s.holdWarn.sw.cells = s.sw.cells := by
  unfold State.holdWarn
  dsimp only
  split
  · rfl
  · split <;> rfl

/-- Freeing a cell takes every cell of its number out of the vat, and no other. -/
theorem State.free_cells (s : State) (c : Cell) : (s.free c).sw.cells = s.sw.cells.filter (fun x => x.id != c.id) := by
  have hgone : ((s.setCells (s.sw.cells.filter (fun x => x.id != c.id))).cellGone c).sw.cells = s.sw.cells.filter (fun x => x.id != c.id) :=
    State.cellGone_cells ..
  unfold State.free
  dsimp only
  split
  · exact hgone
  · exact hgone
  · exact (State.holdWarn_cells _).trans hgone

theorem State.acked_cells (s : State) (c : Cell) : (s.acked c).sw.cells = s.sw.cells.filter (fun x => x.id != c.id) := State.free_cells s c

/-- A freed cell is in the vat no more. -/
theorem State.not_mem_acked (s : State) (c : Cell) : c.id ∉ (s.acked c).sw.cells.map (fun x => x.id) := by
  rw [State.acked_cells]
  simp

/-- Settles O31. -/
theorem acknowledgedCellIsCounted : Obligations.AcknowledgedCellIsCounted :=
  fun s c => ⟨State.get_set (s.free c) (F.CELLS_OUT_COUNT c.dst) _, State.not_mem_acked s c⟩

/-- Acknowledging brings no cell back. -/
theorem State.foldl_acked_ids (l : List Cell) (s : State) {i : Nat} (h : i ∉ s.sw.cells.map (fun x => x.id)) :
    i ∉ (l.foldl State.acked s).sw.cells.map (fun x => x.id) := by
  induction l generalizing s with
  | nil => exact h
  | cons c l ih =>
    refine ih (s.acked c) fun hmem => h ?_
    rw [State.acked_cells] at hmem
    exact (List.filter_sublist.map _).subset hmem

/-- Every cell acknowledged leaves the vat. -/
theorem State.not_mem_foldl_acked {l : List Cell} (s : State) {c : Cell} (h : c ∈ l) : c.id ∉ (l.foldl State.acked s).sw.cells.map (fun x => x.id) := by
  induction l generalizing s with
  | nil => cases h
  | cons d l ih =>
    rcases List.mem_cons.mp h with rfl | hl
    · exact State.foldl_acked_ids l _ (State.not_mem_acked s c)
    · exact ih _ hl

/-! ### Replay (R97) -/

/-- A cell of a stream that it sends again. -/
def Cell.again (k : Nat) (c : Cell) : Cell :=
  if cellStream c = k ∧ (c.phase = .crossing ∨ c.phase = .accepted) then
    { c with phase := .waiting, replay := true, replays := c.replays + 1, skim := false } else c

theorem State.foldl_wrap_sw (l : List Cell) (s : State) : (l.foldl (fun s c => s.wrap (F.REPLAYED_COUNT c.src)) s).sw = s.sw := by
  induction l generalizing s with
  | nil => rfl
  | cons c l ih => exact ih _

theorem State.replay_cells (s : State) (k : Nat) : (s.replay k).sw.cells = s.sw.cells.map (Cell.again k) :=
  congrArg (fun x => x.cells) (State.foldl_wrap_sw (s.unacked k) _)

theorem Cell.again_stream (k : Nat) (c : Cell) : cellStream (c.again k) = cellStream c := by
  unfold Cell.again
  split <;> rfl

/-- After a replay none of the stream's cells is under way. -/
theorem Cell.again_waits {k : Nat} {c : Cell} (h : cellStream c = k) : ¬((c.again k).phase = .crossing ∨ (c.again k).phase = .accepted) := by
  unfold Cell.again
  by_cases hphase : c.phase = .crossing ∨ c.phase = .accepted
  · simp [h, hphase]
  · simp [hphase]

theorem State.replay_unacked (s : State) (k : Nat) : (s.replay k).unacked k = [] := by
  unfold State.unacked
  rw [State.replay_cells, List.filter_eq_nil_iff]
  intro x hx
  obtain ⟨c, -, rfl⟩ := List.mem_map.mp hx
  by_cases h : cellStream c = k
  · simpa using fun _ => not_or.mp (Cell.again_waits h)
  · simp [Cell.again_stream, h]

theorem Cell.again_replays (k : Nat) (c : Cell) : (c.again k).replays ≤ c.replays + 1 := by
  unfold Cell.again
  split
  · exact Nat.le_refl _
  · exact Nat.le_succ _

/-- A stream whose cells were sent again fewer than three times is only replayed: no plane fails for it. -/
theorem State.replayJudged_few {s : State} {k : Nat} (h : ∀ c ∈ s.sw.cells, cellStream c = k → c.replays < 3) : s.replayJudged k = s.replay k := by
  unfold State.replayJudged
  refine if_neg ?_
  rw [State.replay_cells, List.any_eq_true]
  rintro ⟨x, hx, hmany⟩
  obtain ⟨c, hc, rfl⟩ := List.mem_map.mp hx
  rw [Bool.and_eq_true, decide_eq_true_iff, decide_eq_true_iff, Cell.again_stream] at hmany
  have hfew := h c hc hmany.1
  have hone := Cell.again_replays k c
  omega

theorem State.ackOverdue_cons {s : State} {k : Nat} {c : Cell} {l : List Cell} (hl : s.unacked k = c :: l)
    (h : 2 * c.sentAt + s.get F.ACK_TIMEOUT_CYCLES ≤ 2 * s.now) : s.ackOverdue k = true := by
  unfold State.ackOverdue
  rw [hl]
  exact decide_eq_true h

theorem exec_ackTimeout_overdue {s : State} {st : StreamId} (h : s.ackOverdue (streamOf st) = true) :
    exec (.ackTimeout st) s = .next (s.replayJudged (streamOf st)) := congrArg Host.Outcome.next (if_pos h)

/-! ### The hold pool (R95) -/

theorem exec_holdRelease_due {s : State} {id : Nat} {c : Cell} (hc : s.cell? id = some c) (hheld : c.phase = .held) (hdue : s.heldDue c = true) :
    exec (.holdRelease id) s = .next (s.releaseDue id) := by
  refine congrArg Host.Outcome.next ?_
  rw [hc]
  exact if_pos (by simp [hheld, hdue])

theorem exec_holdAgeExpiry_aged {s : State} {id : Nat} {c : Cell} (hc : s.cell? id = some c) (hheld : c.phase = .held) (hage : s.aged c = true) :
    exec (.holdAgeExpiry id) s = .next (if s.heldDue c then s.releaseDue id else s.expire c) := by
  refine congrArg Host.Outcome.next ?_
  rw [hc]
  exact if_pos (by simp [hheld, hage])

/-! ### The output's verdict (R96, R97) -/

theorem exec_cellAtOutput_crossing {s : State} {id : Nat} {c : Cell} (ok : Bool) (hc : s.cell? id = some c) (hcross : c.phase = .crossing) :
    exec (.cellAtOutput id ok) s = .next (s.atOutput c ok) := by
  refine congrArg Host.Outcome.next ?_
  rw [hc]
  exact if_pos hcross

/-- A message of one cell without a tag, that the vat has room for (R93, R95, R99). -/
theorem exec_cellArrival_untagged {s : State} {c : CellIn} {x : Cell} {part : Part} (hlit : s.isDark = false) (hup : s.shut = false)
    (hlen : c.payload.length ≤ 256) (hx : x = s.newCell c c.payload c.som c.eom part .waiting) (htag : c.tag = .none)
    (hpart : s.partition c.src x.units = some part) : exec (.cellArrival c) s = .next (if s.skims c x then
      (((((s.chargeCell x).wakeLink c.dst).launch x true).payCell x).outUsed c.dst).wrap (F.SKIMMED_COUNT c.src)
      else (s.chargeCell x).wakeLink c.dst).wakeDocks := by
  rw [hx] at hpart
  rw [exec_cellArrival, State.arrive_one hlit hup hlen, State.arriveCell_untagged htag hpart, hx]

/-- A message of one cell with a tag, that the hold pool has room for (R95). -/
theorem exec_cellArrival_tagged {s : State} {c : CellIn} {x : Cell} (hlit : s.isDark = false) (hup : s.shut = false)
    (hlen : c.payload.length ≤ 256) (hx : x = s.newCell c c.payload c.som c.eom .hold .held) (htag : c.tag ≠ .none)
    (hfree : x.units ≤ s.get F.VAT_FREE_UNITS) (hroom : s.get F.HOLD_USED_UNITS + x.units ≤ 131072) :
    exec (.cellArrival c) s = .next (if c.dst.val < 64 then (((s.chargeCell x).wheelAdd 1).placeHeld x.id).selectState c.dst
      else ((s.chargeCell x).wheelAdd 1).placeHeld x.id).wakeDocks := by
  rw [hx] at hfree hroom
  rw [exec_cellArrival, State.arrive_one hlit hup hlen, State.arriveCell_tagged htag hfree hroom, hx]

/-- Settles O30. -/
theorem cellCommandsAct : Obligations.CellCommandsAct := by
  refine ⟨exec_cellArrival, fun s c x part => exec_cellArrival_untagged,
    fun s t c x hlit hup hlen hx htag hfree hroom ht => ht ▸ exec_cellArrival_tagged hlit hup hlen hx htag hfree hroom, fun s => rfl,
    fun s t ht hrun hfull => ?_, fun s id ok c hc hcross => exec_cellAtOutput_crossing ok hc hcross,
    fun s id c hc hcross hseq hwhole => (exec_cellAtOutput_crossing true hc hcross).trans (congrArg Host.Outcome.next ?_),
    fun s st q => rfl, fun s st q c hc hcov hacc => ⟨_, rfl, State.not_mem_foldl_acked s ?_⟩, fun s st => rfl,
    fun s st c l hl hlate => exec_ackTimeout_overdue (State.ackOverdue_cons hl hlate),
    fun s st hlate hfew => ⟨congrArg Host.Outcome.next (State.replayJudged_few hfew),
      (exec_ackTimeout_overdue hlate).trans (congrArg Host.Outcome.next (State.replayJudged_few hfew)), State.replay_unacked ..⟩,
    fun s id c hc hheld => ⟨fun hdue => ⟨exec_holdRelease_due hc hheld hdue, fun hage => ?_⟩, fun hnot hage => ?_⟩⟩
  · subst ht
    exact congrArg Host.Outcome.next (State.churn_full hrun hfull)
  · unfold State.atOutput
    simp [hseq, hwhole]
  · exact List.mem_filter.mpr ⟨hc, by simp [hcov, hacc]⟩
  · rw [exec_holdAgeExpiry_aged hc hheld hage, if_pos hdue]
  · rw [exec_holdAgeExpiry_aged hc hheld hage, if_neg (by simp [hnot])]

end Sys2Proof.Machine
end

section
/-! Planes, banks and the hold pool (R87, R98-R107), shapers, wheels and the governor (R114-R132). -/

namespace Sys2Proof.Machine

/-! ### Reads of registers formed at the read -/

/-- A register whose value is formed at the read. -/
theorem State.peek_derived {s : State} {p addr n off i v : Nat} {k : PageKind} (hg : (pageOf addr).map (fun g => (g.ps.kind, g.n)) = some (k, n))
    (hr : (findReg k (addr % 4096)).map (fun q => (q.1.off, q.2)) = some (off, i)) (hblock : ¬addr % 4096 < 0x40) (hk : k ≠ .global2)
    (hd : ∀ w, s.derived ⟨k, n, off, i, w, p, 0⟩ = some v) : s.peek p addr = v := by
  obtain ⟨g, hpage, hkn⟩ := Option.map_eq_some_iff.mp hg
  obtain ⟨q, hreg, hoi⟩ := Option.map_eq_some_iff.mp hr
  cases hkn
  cases hoi
  unfold State.peek
  simp only [hpage, hreg, if_neg hblock, if_neg hk, hd]

/-- HT_RESULT (R109) is formed at the read. -/
theorem State.peek_htResult (s : State) (p : Nat) : s.peek p 0x50304C = s.htResult := by
  have hg : (pageOf 0x50304C).map (fun g => (g.ps.kind, g.n)) = some (.switch3, 0) := by decide
  have hr : (findReg .switch3 (0x50304C % 4096)).map (fun q => (q.1.off, q.2)) = some (0x4C, 0) := by decide
  exact State.peek_derived hg hr (by decide) (by decide) (fun w => rfl)

/-- A read of HT_RESULT changes nothing. -/
theorem State.read_htResult {s : State} {p : Path} (h : s.mayRead p 0x50304C = true) : s.read p 0x50304C = (s.htResult, s) := by
  have hpage : (pageOf 0x50304C).map (fun g => g.ps.kind) = some .switch3 := by decide
  obtain ⟨g, hg, hkind⟩ := Option.map_eq_some_iff.mp hpage
  unfold State.read
  simp only [h, State.sensed_of_ne s _ (show 0x50304C / 4096 ≠ 0x1220 by decide), hg, hkind, State.peek_htResult]
  simp [h, isLatched, latchedBy]

/-! ### PAGE_SEQ and other fields -/

theorem State.bump_get_ne (s : State) (pg : Nat) {f : Fld} (h : f.key ≠ (hSeq pg).key) : (s.bump pg).get f = s.get f := State.get_set_ne s _ h

/-! ### Failovers (R102) -/

theorem failover_keys_ne : F.PLANE_STAT_FAILOVER.key ≠ F.FAILOVER_LAST_NS.key ∧ F.PLANE_STAT_FAILOVER.key ≠ F.FAILOVER_COUNT_COUNT.key ∧
    F.FAILOVER_LAST_NS.key ≠ F.FAILOVER_COUNT_COUNT.key := by decide

theorem failoverEvent_source : (evSrc 2817).isSome = true := by decide

/-- The registers after the failover that began first has completed. -/
def State.failedOver (s : State) (at_ : Nat) (l : List (Nat × List Nat)) : State :=
  ((s.put F.PLANE_STAT_FAILOVER (!l.isEmpty)).set F.FAILOVER_LAST_NS (s.now - at_)).wrap F.FAILOVER_COUNT_COUNT

theorem State.failedOver_get (s : State) (at_ : Nat) (l : List (Nat × List Nat)) :
    (s.failedOver at_ l).on F.PLANE_STAT_FAILOVER = !l.isEmpty ∧
    (s.failedOver at_ l).get F.FAILOVER_LAST_NS = (s.now - at_) % 2 ^ F.FAILOVER_LAST_NS.width ∧
    (s.failedOver at_ l).get F.FAILOVER_COUNT_COUNT = (s.get F.FAILOVER_COUNT_COUNT + 1) % 2 ^ F.FAILOVER_COUNT_COUNT.width := by
  obtain ⟨hfl, hfc, hlc⟩ := failover_keys_ne
  unfold State.failedOver State.wrap State.on
  refine ⟨?_, ?_, ?_⟩
  · rw [State.get_set_ne _ _ hfc, State.get_set_ne _ _ hfl, State.get_put _ _ rfl]
    cases l <;> rfl
  · rw [State.get_set_ne _ _ hlc, State.get_set]
  · rw [State.get_set, State.get_set_ne _ _ hlc.symm]
    exact congrArg (fun n => (n + 1) % 2 ^ F.FAILOVER_COUNT_COUNT.width) (State.get_set_ne s _ hfc.symm)

theorem exec_failoverComplete {s : State} {at_ : Nat} {lps : List Nat} {l : List (Nat × List Nat)} (hf : s.sw.fails = (at_, lps) :: l)
    (hdone : s.replaysDone lps = true) : exec .failoverComplete s =
      .next (({ s.failedOver at_ l with sw := { (s.failedOver at_ l).sw with fails := l } }).raise 2817) := by
  refine congrArg Host.Outcome.next ?_
  rw [hf]
  exact if_pos hdone

/-! ### Banks (R105) -/

theorem exec_bankCopyComplete {s : State} {b : Fin 50} {e : Nat × Nat} (he : s.sw.copying.find? (fun e => e.2 == b.val) = some e) :
    exec (.bankCopyComplete b) s = .next ((if e.1 = b.val then s.endCopy e.1 else (s.endCopy e.1).setBank e.1 0).raise 2825) := by
  refine congrArg Host.Outcome.next ?_
  rw [he]

theorem holdUsed_ne_seq : F.HOLD_USED_UNITS.key ≠ (hSeq 0x501000).key := by decide

/-- Settles O32. -/
theorem planeAndBankCommandsAct : Obligations.PlaneAndBankCommandsAct := by
  refine ⟨fun s pl i o hin hidle => ?_, fun s pl => rfl, fun s p pl ht => congrArg Host.Outcome.next (State.writeVia_direct ht _),
    fun s at_ lps l hf hdone => ⟨_, exec_failoverComplete hf hdone, ?_⟩, fun s b f bad lost hin hret => congrArg Host.Outcome.next (if_neg (by simp [hin, hret])),
    fun s b e he => ⟨fun hne => ?_, fun heq => ?_⟩, fun s p ht => ⟨_, congrArg Host.Outcome.next (State.writeVia_direct ht _), ?_⟩, fun s p hread => ?_⟩
  · have hgoes : ¬(s.get (planeStat pl) = 2 ∨ s.pairIdle pl i o = false) := by simp [hin, hidle]
    exact ⟨congrArg Host.Outcome.next (if_neg hgoes), congrArg Host.Outcome.next (if_neg hgoes)⟩
  · obtain ⟨hover, hlast, hcount⟩ := State.failedOver_get s at_ l
    exact ⟨hover, hlast, hcount, rfl, State.raise_stands _ failoverEvent_source⟩
  · rw [exec_bankCopyComplete he, if_neg hne]
  · rw [exec_bankCopyComplete he, if_pos heq]
  · exact (State.get_set _ F.HOLD_PEAK_UNITS _).trans (by rw [State.bump_get_ne s _ holdUsed_ne_seq])
  · refine congrArg Host.Outcome.next ((State.readOut_aligned s p (by decide) (by decide)).trans ?_)
    rw [State.readWord, State.read_htResult hread]

/-! ### Shapers (R114) -/

theorem State.getI_setI (s : State) (f : Fld) (v : Int) : (s.setI f v).getI f = toSigned f.width (ofSigned f.width v) :=
  congrArg (toSigned f.width) ((State.get_set ..).trans (Nat.mod_eq_of_lt (ofSigned_lt ..)))

theorem State.placeShaper_getI (s : State) (sh next : Nat) (f : Fld) : (s.placeShaper sh next).getI f = s.getI f := rfl

/-- A refill adds the quantum, up to the burst. -/
theorem State.refill_tokens (s : State) (sh : Nat) : (s.refill sh).getI (F.SH_TOKENS_BYTES sh) =
    toSigned (F.SH_TOKENS_BYTES sh).width (ofSigned (F.SH_TOKENS_BYTES sh).width
      (min (s.get (F.SH_BURST_BYTES sh) : Int) (s.tokens sh + s.get (F.SH_QUANTUM_BYTES sh)))) := by
  unfold State.refill
  dsimp only
  rw [State.placeShaper_getI, State.getI_setI]
  rfl

/-! ### The wheels (R117, R121, R132) -/

/-- The wheel place that an armed commit has once a coarse slot is current. -/
def State.rewheel (rev : Bool) (s : State) (i : Nat) : State := s.setSlot i { s.slot i with wheel := coarseWheel s.now rev (s.slot i).wheel }

theorem State.foldl_rewheel (rev : Bool) {l : List Nat} (hl : l.Nodup) (s : State) (i : Nat) :
    (l.foldl (State.rewheel rev) s).slot i =
      if i ∈ l then { s.slot i with wheel := coarseWheel s.now rev (s.slot i).wheel } else s.slot i := by
  induction l generalizing s with
  | nil => rfl
  | cons j l ih =>
    obtain ⟨hj, hl⟩ := List.nodup_cons.mp hl
    rw [List.foldl_cons, ih hl]
    by_cases hi : i = j
    · subst hi
      rw [if_neg hj, if_pos (List.mem_cons_self ..)]
      exact State.slot_setSlot_self ..
    · have hslot : (s.rewheel rev j).slot i = s.slot i := State.slot_setSlot_ne s _ hi
      have hnow : (s.rewheel rev j).now = s.now := rfl
      simp only [hslot, hnow, List.mem_cons, hi, false_or]

theorem State.armedSlots_nodup (s : State) (c : Nat) : (s.armedSlots c).Nodup := List.nodup_range.filter _

theorem exec_coarseSlot_noneHeld {s : State} (h : ∀ c ∈ s.sw.cells, c.phase ≠ .held) :
    ∃ t, exec .coarseSlot s = .next t ∧ t.slots = ((s.armedSlots 1).foldl (State.rewheel (s.now / 4096 % 1024 == 0)) s).slots := by
  have hheld : s.sw.cells.filter (fun c => decide (c.phase = .held)) = [] := by
    rw [List.filter_eq_nil_iff]
    intro c hc
    simpa using h c hc
  refine ⟨_, rfl, ?_⟩
  rw [hheld]
  cases (s.now / 4096 % 1024 == 0) <;> rfl

theorem wheelFill_ne_seq : F.WHEEL_FILL_ENTRIES.key ≠ (hSeq 0x40000).key := by decide

theorem State.dueInstant_axis {s : State} {i n : Nat} (harmed : (s.slot i).state = .armed) (hcond : (s.slot i).cond = 2)
    (hsure : s.unsure (s.slot i).axis = false) (hpred : s.predict (s.slot i).axis (slotPos (s.slot i)) ((s.slot i).dir == 1) = some (n : Int))
    (hdue : fineSlot n ≤ s.now) (hahead : passed (s.axis (s.slot i).axis).pc (slotPos (s.slot i)) ((s.slot i).dir == 1) = false)
    (hwheel : (s.slot i).wheel ≠ .axisOverflow) : s.dueInstant i = some (fineSlot n : Int) := by
  unfold State.dueInstant
  simp [harmed, hcond, hsure, hpred, hdue, hahead, hwheel]

/-- Settles O34. -/
theorem schedulerCommandsAct : Obligations.SchedulerCommandsAct := by
  refine ⟨fun s sh hen hdue => ⟨_, congrArg Host.Outcome.next (if_pos (by simp [hen, hdue])), State.refill_tokens s sh⟩,
    fun s p v ht => congrArg Host.Outcome.next (State.writeVia_direct ht _), fun s hnone => ?_,
    fun s p a w ht => congrArg Host.Outcome.next (State.writeVia_direct ht _),
    fun s p ht => ⟨_, congrArg Host.Outcome.next (State.writeVia_direct ht _), ?_⟩,
    fun s i n harmed hcond hsure hpred hdue hahead hwheel => congrArg Host.Outcome.next ((if_pos hcond).trans
      (State.instantMet_of_due (State.dueInstant_axis harmed hcond hsure hpred hdue hahead hwheel))),
    fun s g hon => congrArg Host.Outcome.next (if_pos hon), fun s port hbusy hidle => congrArg Host.Outcome.next (if_neg (by simp [hbusy, hidle]))⟩
  · obtain ⟨t, ht, hslots⟩ := exec_coarseSlot_noneHeld hnone
    refine ⟨t, ht, fun i hi => ?_⟩
    have hslot : t.slot i = ((s.armedSlots 1).foldl (State.rewheel (s.now / 4096 % 1024 == 0)) s).slot i := by
      rw [State.slot, hslots]
      rfl
    rw [hslot, State.foldl_rewheel _ (State.armedSlots_nodup s 1), if_pos hi]
  · exact (State.get_set _ F.WHEEL_PEAK_ENTRIES _).trans (by rw [State.bump_get_ne s _ wheelFill_ne_seq])

end Sys2Proof.Machine
end

section
/-! Requests to the pool (R136-R156, R175, R191, R197). -/

namespace Sys2Proof.Machine

/-! ### Check points (R170-R176) -/

/-- No upset waits: a check reads its colour entry as it stands. -/
theorem State.colourSeen_clean {s : State} (h : s.gd.upset = []) (g : Nat) : s.colourSeen g = s := by
  have hfound : s.colourFound g (tget .good s.gd.upset g) = s := by
    rw [h]
    rfl
  have hgd : { s.gd with upset := tdel s.gd.upset g } = s.gd := by
    rw [h]
    show { s.gd with upset := [] } = s.gd
    rw [← h]
  rw [State.colourSeen, hfound]
  exact congrArg (fun d : GuardSt => { s with gd := d }) hgd

theorem State.foldl_colourSeen_clean {s : State} (h : s.gd.upset = []) (l : List Nat) : l.foldl State.colourSeen s = s := by
  induction l with
  | nil => rfl
  | cons g l ih => rw [List.foldl_cons, State.colourSeen_clean h, ih]

/-- A request on its way to its slice, of the expander on M-port `m`. -/
def State.onWay (u : State) (r : Req) (m : Nat) : Req :=
  let eOk := u.mayUse r.init true (u.colour (r.addr / 2097152))
  { r with id := u.pool.nextId, mport := m, phase := .travel, came := u.cycle, eOk := eOk }

/-- A host's line is checked and sent on to its slice (R173). -/
theorem State.present_line {u : State} (r : Req) {m : Nat} (hdrain : u.gd.drain = []) (hclean : u.gd.upset = []) (hlane : r.kind.lane = false)
    (hmport : r.mport = 32 + m) (hm : m < 16) (hlost : u.lost m = false) (hallowed : u.denied r.init r.needs.1 r.needs.2 false r.addr = none) :
    u.present? (.line r) = (u.mapPool (fun p => { p with nextId := p.nextId + 1, reqs := p.reqs ++ [u.onWay r m] })).advance := by
  have hport : r.mport - 32 = m := by omega
  have hmapped : ¬r.mport = 0x7E := by omega
  have hcheck : u.checkLine r = u.mapPool (fun p => { p with nextId := p.nextId + 1, reqs := p.reqs ++ [u.onWay r m] }) := by
    unfold State.checkLine
    simp only [hlane, hallowed, if_neg hmapped, hport, hlost]
    rfl
  unfold State.present?
  rw [hdrain]
  unfold State.check
  rw [State.foldl_colourSeen_clean hclean, ← hcheck]
  rfl

/-! ### A host's request comes (R136, R141, R197) -/

/-- The request of a host as it reaches its check point, with the target of R197 in `mport`. -/
def State.hostLine (s : State) (h tag : Nat) (kind : ReqKind) (noData : Bool) (w : LineData) (win pa m d : Nat) : Req :=
  { port := h, init := h, tag := tag, kind := kind, noData := noData, addr := pa, wr := w, seq := s.nextSeq h, mport := 32 + m, dpa := d,
    creamOk := s.on (F.WIN_ATTR_CREAM win) }

theorem State.colourUpset_nil (s : State) : s.colourUpset [] = s := rfl

/-- A request whose way shows nothing, with no upset waiting, finds the state as it is. -/
theorem State.looked_clean {s : State} (h tag dpa : Nat) (kind : ReqKind) (noData : Bool) (hclean : s.gd.upset = []) :
    s.looked h tag dpa {} kind noData = s := by
  unfold State.looked
  rw [State.colourUpset_nil]
  dsimp only
  split
  · rfl
  · rw [State.colourSeen_clean hclean]
    simp

/-- A request of the write-back lane whose way shows nothing finds the state as it is. -/
theorem State.looked_lane {s : State} (h tag dpa : Nat) {kind : ReqKind} (noData : Bool) (hlane : kind.lane = true) :
    s.looked h tag dpa {} kind noData = s := by
  unfold State.looked
  rw [State.colourUpset_nil]
  dsimp only
  split
  · rfl
  · simp [hlane]

/-- A read that its window maps reaches its check point. -/
theorem State.hostReq_read {s : State} {h tag dpa win pa m d : Nat} {kind : ReqKind} {noData : Bool} (hup : s.shut = false)
    (hlens : s.lens h (dpa / 64 * 64) = some (win, pa)) (hmap : s.poolMap pa = some (m, d)) (hkind : kind = .rdS ∨ kind = .rdO ∨ kind = .rdC) :
    s.hostReq h tag dpa kind noData noBytes = (s.cellsIn h 0).present? (.line (s.hostLine h tag kind noData noBytes win pa m d)) := by
  rcases hkind with rfl | rfl | rfl <;>
  · unfold State.hostReq
    simp [hup, hlens, hmap, ReqKind.lane, targetOf, State.hostLine]

/-- A write that its window maps takes its number and is tracked on its way to its check point. -/
theorem State.hostReq_write {s : State} {h tag dpa win pa m d : Nat} {w : LineData} (hup : s.shut = false)
    (hlens : s.lens h (dpa / 64 * 64) = some (win, pa)) (hmap : s.poolMap pa = some (m, d)) :
    s.hostReq h tag dpa .wrU false w =
      (((s.cellsIn h 64).takeSeq h).trackAdd h (s.nextSeq h) (32 + m)).present? (.line (s.hostLine h tag .wrU false w win pa m d)) := by
  unfold State.hostReq
  simp [hup, hlens, hmap, ReqKind.lane, targetOf, State.hostLine]

theorem rdKind_reads (n : SnpType) (v : MetaVal) : rdKind n v = .rdS ∨ rdKind n v = .rdO ∨ rdKind n v = .rdC := by
  cases n <;> cases v <;> simp [rdKind]

theorem lane_of_reads {k : ReqKind} (h : k = .rdS ∨ k = .rdO ∨ k = .rdC) : k.lane = false := by
  rcases h with rfl | rfl | rfl <;> rfl

/-- A host's read that nothing stops goes to its slice (R141, R153, R172). -/
theorem State.hostMem_read {s : State} {h tag : Nat} {dpa : BitVec 52} {win pa m d : Nat} {kind : ReqKind} {noData : Bool} {r : Req}
    (hup : s.shut = false) (hdrain : s.gd.drain = []) (hclean : s.gd.upset = []) (hlens : s.lens h (dpa.toNat / 64 * 64) = some (win, pa))
    (hmap : s.poolMap pa = some (m, d)) (hm : m < 16) (hlost : (s.cellsIn h 0).lost m = false) (hkind : kind = .rdS ∨ kind = .rdO ∨ kind = .rdC)
    (hr : r = (s.cellsIn h 0).onWay (s.hostLine h tag kind noData noBytes win pa m d) m)
    (hallowed : (s.cellsIn h 0).denied h r.needs.1 r.needs.2 false pa = none) :
    s.hostMem h tag ⟨dpa, {}⟩ kind noData noBytes =
      ((s.cellsIn h 0).mapPool (fun p => { p with nextId := p.nextId + 1, reqs := p.reqs ++ [r] })).advance := by
  have hneeds : r.needs = (s.hostLine h tag kind noData noBytes win pa m d).needs := by
    rw [hr]
    rfl
  rw [hneeds] at hallowed
  rw [State.hostMem, State.looked_clean _ _ _ _ _ hclean, State.hostReq_read hup hlens hmap hkind, hr]
  exact State.present_line _ hdrain hclean (lane_of_reads hkind) rfl hm hlost hallowed

/-- A host's write that nothing stops goes to its slice. -/
theorem State.hostMem_write {s u : State} {h tag : Nat} {dpa : BitVec 52} {win pa m d : Nat} {w : LineData} {r : Req}
    (hup : s.shut = false) (hclean : s.gd.upset = []) (hlens : s.lens h (dpa.toNat / 64 * 64) = some (win, pa))
    (hmap : s.poolMap pa = some (m, d)) (hm : m < 16) (hu : u = ((s.cellsIn h 64).takeSeq h).trackAdd h (s.nextSeq h) (32 + m))
    (hdrain : u.gd.drain = []) (hlost : u.lost m = false) (hallowed : u.denied h false true false pa = none)
    (hr : r = u.onWay (s.hostLine h tag .wrU false w win pa m d) m) :
    s.hostMem h tag ⟨dpa, {}⟩ .wrU false w = (u.mapPool (fun p => { p with nextId := p.nextId + 1, reqs := p.reqs ++ [r] })).advance := by
  have hclean' : u.gd.upset = [] := by
    rw [hu, (State.trackAdd_same ..).part .gd (by decide), (State.takeSeq_same ..).part .gd (by decide)]
    exact hclean
  rw [State.hostMem, State.looked_clean _ _ _ _ _ hclean, State.hostReq_write hup hlens hmap, ← hu, hr]
  exact State.present_line (s.hostLine h tag .wrU false w win pa m d) hdrain hclean' rfl rfl hm hlost hallowed

/-! ### Releases and the write-back lane (R153, R154, R156) -/

/-- What comes to an open lane in which nothing waits is taken at once. -/
theorem State.viaLane_open {s : State} {x : LaneEntry} (hopen : s.wbOpen (sliceOf x.line) = true) (hlane : s.pool.lane = []) : s.viaLane x = s.wbGo x := by
  unfold State.viaLane
  simp [hopen, hlane]

theorem State.releaseLine_held {s : State} {h tag l : Nat} (hdead : s.pool.dead = []) (hheld : hasBit (s.entry l).hosts h = true) :
    s.releaseLine h tag l = (s.sendS2M h tag .cmp).setEntry l { s.entry l with hosts := putBit (s.entry l).hosts h false, age := 3 } := by
  unfold State.releaseLine
  simp [hdead, hheld]

/-- A release by a holder takes effect at once where its slice's lane is open. -/
theorem State.hostMem_release {s u : State} {h tag : Nat} {dpa : BitVec 52} {pa m d : Nat} (hup : s.shut = false) (hdrain : s.gd.drain = [])
    (hlens : s.lensOld h (dpa.toNat / 64 * 64) = some pa) (hmap : s.poolMapOld pa = some (m, d)) (hm : m < 16) (hu : u = s.cellsIn h 0)
    (hlost : u.lost m = false) (hopen : u.wbOpen (sliceOf (pa / 64)) = true) (hlane : u.pool.lane = []) (hdead : u.pool.dead = [])
    (hheld : hasBit (u.entry (pa / 64)).hosts h = true) : s.hostMem h tag ⟨dpa, {}⟩ .rel true noBytes =
      ((u.sendS2M h tag .cmp).setEntry (pa / 64) { u.entry (pa / 64) with hosts := putBit (u.entry (pa / 64)).hosts h false, age := 3 }).advance := by
  have hmapped : ¬32 + m = 0x7E := by omega
  have hpresent : s.hostMem h tag ⟨dpa, {}⟩ .rel true noBytes = u.present? (.line (s.hostLine h tag .rel true noBytes 0 pa m d)) := by
    unfold State.hostMem
    rw [State.looked_lane _ _ _ _ rfl]
    unfold State.hostReq
    simp [hup, hlens, hmap, ReqKind.lane, targetOf, State.hostLine, hu]
  have hcheck : u.check (.line (s.hostLine h tag .rel true noBytes 0 pa m d)) = u.releaseLine h tag (pa / 64) := by
    have hdrop : 32 + m - 32 = m := Nat.add_sub_cancel_left ..
    unfold State.check State.checkLine State.laneLine
    simp only [Access.granules, State.hostLine, ReqKind.lane, List.foldl_nil, decide_true, if_true, if_neg hmapped, hdrop, hlost, Bool.false_and,
      reduceCtorEq, or_true, Bool.false_eq_true, if_false]
    exact State.viaLane_open hopen hlane
  have hdrain' : u.gd.drain = [] := by rw [hu]; exact hdrain
  rw [hpresent, State.present?, hdrain', hcheck, State.releaseLine_held hdead hheld]
  rfl

/-- An answer that a snoop waits for, where its slice's lane is open. -/
theorem State.birspIn_open {u : State} {h bitag k : Nat} {x : Snoop} (hx : u.pool.snoops.find? (fun x => x.host == h && x.bitag == bitag) = some x)
    (hopen : u.wbOpen (sliceOf x.line) = true) (hlane : u.pool.lane = []) (hk : k = 0 ∨ (k = 1 ∧ x.kind = 1) ∨ (k = 2 ∧ x.kind = 0)) :
    u.birspIn h bitag k false = u.snoopEnd x k := by
  unfold State.birspIn
  rw [hx]
  refine (State.viaLane_open (x := .bir h bitag k x.line false) hopen hlane).trans ?_
  show u.birsp h bitag k false = _
  unfold State.birsp
  rw [hx]
  exact if_pos hk

/-! ### Accesses of bound functions (R175, R191) -/

/-- An access at its check point, no drain running and no upset waiting. -/
theorem State.present_clean {u : State} (a : Access) (hdrain : u.gd.drain = []) (hclean : u.gd.upset = []) :
    u.present? a = (match a with
      | .line r => u.checkLine r
      | .read port init tag addr len => u.checkRead port init tag addr len
      | .write port init seq addr data => u.checkWrite port init seq addr data
      | .atomic port init tag addr op => u.checkAtomic port init tag addr op).advance := by
  unfold State.present?
  rw [hdrain]
  unfold State.check
  rw [State.foldl_colourSeen_clean hclean]
  rfl

theorem State.fnRead_eq {s : State} {x h d tag addr len : Nat} (hup : s.shut = false) :
    s.fnRead x h d tag addr len =
      (s.cellsIn (s.srcPort h d) 0).toPool (s.fnPool h d addr) (fun a => .read (s.srcPort h d) (64 + x) tag a len) (.toHost h d false addr len) :=
  if_neg (by simp [hup])

theorem State.fnWrite_eq {s : State} {x h d addr : Nat} {data : List (BitVec 8)} (hup : s.shut = false) :
    s.fnWrite x h d addr data = ((s.cellsIn (s.srcPort h d) data.length).takeSeq (64 + x)).toPool (s.fnPool h d addr)
      (fun a => .write (s.srcPort h d) (64 + x) (s.nextSeq (64 + x)) a data) (.toHost h d true addr data.length) :=
  if_neg (by simp [hup])

theorem State.fnAtomic_eq {s : State} {x h d tag addr : Nat} {op : AtomicOp} (hup : s.shut = false) :
    s.fnAtomic x h d tag addr op = (s.cellsIn (s.srcPort h d) (atomicBytes op)).toPool (s.fnPool h d addr)
      (fun a => .atomic (s.srcPort h d) (64 + x) tag a op) (.toHost h d false addr (atomicBytes op)) :=
  if_neg (by simp [hup])

theorem exec_functionMemRead_bound {s : State} {fn : Fin 256} {g : BitVec 4} {x d : Nat} (tag : BitVec 16) (a : BitVec 64) (len : BitVec 13)
    (hb : s.boundFn fn g.toNat = some (x, d)) : exec (.functionMemRead fn g tag a len) s = .next (s.fnRead fn x d tag.toNat a.toNat len.toNat) := by
  refine congrArg Host.Outcome.next ?_
  rw [hb]

theorem exec_functionMemWrite_bound {s : State} {fn : Fin 256} {g : BitVec 4} {x d : Nat} (a : BitVec 64) (b : List (BitVec 8))
    (hb : s.boundFn fn g.toNat = some (x, d)) : exec (.functionMemWrite fn g a b) s = .next (s.fnWrite fn x d a.toNat b) := by
  refine congrArg Host.Outcome.next ?_
  rw [hb]

theorem exec_functionAtomic_bound {s : State} {fn : Fin 256} {g : BitVec 4} {x d : Nat} (tag : BitVec 16) (a : BitVec 64) (op : AtomicOp)
    (hb : s.boundFn fn g.toNat = some (x, d)) : exec (.functionAtomic fn g tag a op) s = .next (s.fnAtomic fn x d tag.toNat a.toNat op) := by
  refine congrArg Host.Outcome.next ?_
  rw [hb]

theorem exec_function_unbound {s : State} {fn : Fin 256} {g : BitVec 4} (tag : BitVec 16) (a : BitVec 64) (len : BitVec 13) (b : List (BitVec 8))
    (op : AtomicOp) (hb : s.boundFn fn g.toNat = none) : exec (.functionMemRead fn g tag a len) s = .next (s.stale 0) ∧
      exec (.functionMemWrite fn g a b) s = .next (s.stale 0) ∧ exec (.functionAtomic fn g tag a op) s = .next (s.stale 0) := by
  refine ⟨congrArg Host.Outcome.next ?_, congrArg Host.Outcome.next ?_, congrArg Host.Outcome.next ?_⟩ <;> rw [hb]

theorem exec_biconflict {s : State} {h : Fin 32} (tag : BitVec 16) (dpa : BitVec 52) (hup : s.shut = false) : exec (.biconflict h tag dpa) s =
    .next ((if (s.lensOld h dpa.toNat).isSome then s.cellsIn h 0 else (s.cellsIn h 0).unmapped h dpa.toNat).sendS2M h tag.toNat .biConflictAck) :=
  congrArg Host.Outcome.next (if_neg (by simp [hup]))

/-- Back-invalidate answers go to their lane while the hub is up. -/
theorem exec_birsp {s : State} (h : Fin 32) (t : BitVec 12) (b : Bool) (hup : s.shut = false) :
    exec (.birspi h t b) s = .next ((s.cellsIn h 0).birspIn h t.toNat 0 b).advance ∧
    exec (.birsps h t b) s = .next ((s.cellsIn h 0).birspIn h t.toNat 1 b).advance ∧
    exec (.birspe h t b) s = .next ((s.cellsIn h 0).birspIn h t.toNat 2 b).advance :=
  have hin : ¬s.shut = true := by simp [hup]
  ⟨congrArg Host.Outcome.next (if_neg hin), congrArg Host.Outcome.next (if_neg hin), congrArg Host.Outcome.next (if_neg hin)⟩

/-- Settles O35. -/
theorem poolRequestsEnter : Obligations.PoolRequestsEnter := by
  refine ⟨fun s h tag x => ⟨fun n m => rfl, rfl, rfl, rfl, rfl, fun f d p => rfl, fun f d be p => rfl, fun dpa => rfl⟩,
    fun s t h tag dpa k nd r win pa m d hup hdrain hclean hlens hmap hm hlost hr hallowed ht => ?_,
    fun s u h tag dpa w r win pa m d hup hdrain hclean hlens hmap hm hu hdrain' hlost hallowed hr => ?_,
    fun s u h tag dpa pa m d hup hdrain hlens hmap hm hu hlost hopen hlane hdead hheld => ?_,
    fun s h t b hup => exec_birsp h t b hup, fun s u h t x hup hu hx hopen hlane => ?_, fun s h tag dpa hup => ⟨fun hin => ?_, fun hout => ?_⟩,
    fun s fn g tag a hb len b op => exec_function_unbound tag a len b op hb,
    fun s fn g tag a x d hb len b op =>
      ⟨exec_functionMemRead_bound tag a len hb, exec_functionMemWrite_bound a b hb, exec_functionAtomic_bound tag a op hb⟩,
    fun s u fn g tag a x d p hb hup hp => ⟨fun hnone len => ?_, fun q hq hclean => ⟨fun len hu hdrain => ?_, fun b hu hdrain => ?_, fun op hu hdrain => ?_⟩⟩⟩
  · have hreads : (k = .rdS ∨ k = .rdO ∨ k = .rdC) → s.hostMem h tag.toNat ⟨dpa, {}⟩ k nd noBytes = t := fun hk =>
      (State.hostMem_read hup hdrain hclean hlens hmap hm hlost hk hr hallowed).trans ht.symm
    refine ⟨fun n v hk hnd => congrArg Host.Outcome.next ?_, fun hk hnd => congrArg Host.Outcome.next ?_, fun hk hnd => congrArg Host.Outcome.next ?_⟩
    · subst hnd
      rw [← hk]
      exact hreads (hk ▸ rdKind_reads n v)
    · subst hk hnd
      exact hreads (.inl rfl)
    · subst hk hnd
      exact hreads (.inr (.inl rfl))
  · have hwrite := State.hostMem_write hup hclean hlens hmap hm hu hdrain' hlost hallowed hr
    refine ⟨fun hbe => congrArg Host.Outcome.next ?_, congrArg Host.Outcome.next hwrite⟩
    rw [← hbe]
    exact hwrite
  · have hrel := State.hostMem_release (tag := tag.toNat) hup hdrain hlens hmap hm hu hlost hopen hlane hdead hheld
    exact ⟨congrArg Host.Outcome.next hrel, congrArg Host.Outcome.next hrel⟩
  · obtain ⟨hi, hs, he⟩ := exec_birsp h t false hup
    subst hu
    refine ⟨hi.trans ?_, fun hkind => hs.trans ?_, fun hkind => he.trans ?_⟩
    · rw [State.birspIn_open hx hopen hlane (.inl rfl)]
    · rw [State.birspIn_open hx hopen hlane (.inr (.inl ⟨rfl, hkind⟩))]
    · rw [State.birspIn_open hx hopen hlane (.inr (.inr ⟨rfl, hkind⟩))]
  · rw [exec_biconflict tag dpa hup, if_pos hin]
  · rw [exec_biconflict tag dpa hup, if_neg (by simp [hout])]
  · rw [exec_functionMemRead_bound tag a len hb, State.fnRead_eq hup, hnone, hp]
    rfl
  · have hclean' : u.gd.upset = [] := by rw [hu]; exact hclean
    rw [exec_functionMemRead_bound tag a len hb, State.fnRead_eq hup, hq, ← hp, ← hu]
    exact congrArg Host.Outcome.next (State.present_clean (.read p (64 + fn) tag.toNat q len.toNat) hdrain hclean')
  · have hclean' : u.gd.upset = [] := by
      rw [hu, (State.takeSeq_same ..).part .gd (by decide)]
      exact hclean
    rw [exec_functionMemWrite_bound a b hb, State.fnWrite_eq hup, hq, ← hp, ← hu]
    exact congrArg Host.Outcome.next (State.present_clean (.write p (64 + fn) (s.nextSeq (64 + fn)) q b) hdrain hclean')
  · have hclean' : u.gd.upset = [] := by rw [hu]; exact hclean
    rw [exec_functionAtomic_bound tag a op hb, State.fnAtomic_eq hup, hq, ← hp, ← hu]
    exact congrArg Host.Outcome.next (State.present_clean (.atomic p (64 + fn) tag.toNat q op) hdrain hclean')

/-- Settles O36. -/
theorem backInvalidateAnswersAreChecked : Obligations.BackInvalidateAnswersAreChecked := by
  intro s h k bitag block
  refine ⟨fun hnone => ?_, fun x hx => ?_⟩
  · unfold State.birsp
    rw [hnone]
  · have hfound : s.birsp h bitag k block = if block then (s.protoErr h 5).snoopEnd x 0
        else if k = 0 ∨ (k = 1 ∧ x.kind = 1) ∨ (k = 2 ∧ x.kind = 0) then s.snoopEnd x k else (s.protoErr h 4).snoopEnd x 0 := by
      unfold State.birsp
      rw [hx]
    rw [hfound]
    refine ⟨fun hb => if_pos hb, fun hb hk => ?_, fun hb hk hkind => ?_, fun hb hk hkind => ?_⟩ <;> subst hb hk
    · rfl
    · exact if_pos (Or.inr (Or.inl ⟨rfl, hkind⟩))
    · simp [hkind]

end Sys2Proof.Machine
end

section
/-! The expanders' side of the pool (R157, R188, R189). -/

namespace Sys2Proof.Machine

/-! ### Completions (R189) -/

theorem lateCpl_keys_ne (m : Fin 16) : (F.MP_LATE_CPL_COUNT m).key ≠ (F.STALE_COUNT_COUNT 3).key ∧
    (F.MP_LATE_CPL_COUNT m).key ≠ (F.CELLS_IN_COUNT (32 + m)).key := by
  have hm := m.isLt
  simp only [F.MP_LATE_CPL_COUNT, F.STALE_COUNT_COUNT, F.CELLS_IN_COUNT, Fld.key]
  omega

/-- A completion of another generation is late: counted, and nothing else of the pool changes. -/
theorem State.tagDone_late {s : State} {m tag : Nat} (data : Option (BitVec 512 × Bool)) (h : (s.xtag m (tag % 4096)).gen ≠ tag / 4096 % 16) :
    s.tagDone m tag data = ((s.stale 3).sat (F.MP_LATE_CPL_COUNT m)).raise (1287 + 32 * m) := by
  unfold State.tagDone
  exact if_pos h

/-- The data of a read that is under way. -/
theorem State.tagDone_read {s : State} {m tag id : Nat} (d : BitVec 512 × Bool) (hgen : (s.xtag m (tag % 4096)).gen = tag / 4096 % 16)
    (hst : (s.xtag m (tag % 4096)).st = .use (.rd id)) : s.tagDone m tag (some d) =
      (((s.setXtag m (tag % 4096) { s.xtag m (tag % 4096) with st := .free }).readAnswered id d.1 d.2 true).xPump m).advance := by
  unfold State.tagDone
  dsimp only
  rw [if_neg (not_not_intro hgen), hst]

/-- The Cmp of a write that is under way. -/
theorem State.tagDone_write {s : State} {m tag id : Nat} {w : PWrite} (hgen : (s.xtag m (tag % 4096)).gen = tag / 4096 % 16)
    (hst : (s.xtag m (tag % 4096)).st = .use (.wr id)) (hw : s.write? id = some w) : s.tagDone m tag none =
      (((s.setXtag m (tag % 4096) { s.xtag m (tag % 4096) with st := .free }).writeEnd w none).xPump m).advance := by
  have hw' : (s.setXtag m (tag % 4096) { s.xtag m (tag % 4096) with st := .free }).write? id = some w := hw
  unfold State.tagDone
  dsimp only
  rw [if_neg (not_not_intro hgen), hst]
  dsimp only
  rw [hw']

theorem exec_expanderMemdata {s : State} (m : Fin 16) (tag : BitVec 16) (d : BitVec 512) (x : Bool) (hup : s.shut = false) :
    exec (.expanderMemdata m tag d x) s = .next ((s.cellsIn (32 + m) 64).tagDone m tag.toNat (some (d, x))) :=
  congrArg Host.Outcome.next (if_neg (by simp [hup]))

theorem exec_expanderCmp {s : State} (m : Fin 16) (tag : BitVec 16) (hup : s.shut = false) :
    exec (.expanderCmp m tag) s = .next ((s.cellsIn (32 + m) 0).tagDone m tag.toNat none) :=
  congrArg Host.Outcome.next (if_neg (by simp [hup]))

theorem exec_completionTimeout {s : State} {m : Fin 16} {i : BitVec 12} {j : XJob} (hst : (s.xtag m i.toNat).st = .use j)
    (hfew : (s.timeouts m).length < s.get (F.CTO_CFG_LIMIT m)) : exec (.completionTimeout m i) s =
      .next ((((((s.setXtag m i.toNat { s.xtag m i.toNat with st := .wait }).mapPool
        (fun p => { p with ctos := tset p.ctos m (s.timeouts m) })).sat (F.MP_CTO_COUNT_COUNT m)).raise (1282 + 32 * m)).xAbort j 0x28).advance) := by
  refine congrArg Host.Outcome.next ?_
  rw [hst]
  exact if_neg (Nat.not_le.mpr hfew)

theorem protoEvent_source (m : Fin 16) : (evSrc (1286 + 32 * m.val)).isSome = true := by
  revert m
  decide

/-- Settles O37. -/
theorem expanderAnswersAct : Obligations.ExpanderAnswersAct := by
  refine ⟨fun s m tag hup hgen d x => ⟨_, (exec_expanderMemdata m tag d x hup).trans (congrArg Host.Outcome.next (State.tagDone_late _ hgen)), ?_, rfl⟩,
    fun s u m tag id hup hu hgen hst d x => ?_, fun s u m tag id w hup hu hgen hst hw => ?_,
    fun s m a => ⟨_, rfl, State.get_sat (s.emit (.expBirsp m)) _ _, State.raise_stands _ (protoEvent_source m), rfl⟩,
    fun s m i j hst hfew => exec_completionTimeout hst hfew, fun s m i hst => congrArg Host.Outcome.next (if_pos hst),
    fun s h b hany hlink => congrArg Host.Outcome.next ((if_pos hany).trans (if_neg hlink))⟩
  · obtain ⟨hstale, hcells⟩ := lateCpl_keys_ne m
    have hkept : ((s.cellsIn (32 + m) 64).stale 3).get (F.MP_LATE_CPL_COUNT m) = s.get (F.MP_LATE_CPL_COUNT m) :=
      (State.get_set_ne _ _ hstale).trans (State.get_set_ne _ _ hcells)
    rw [State.raise_get, State.get_sat, hkept]
  · subst hu
    exact (exec_expanderMemdata m tag d x hup).trans (congrArg Host.Outcome.next (State.tagDone_read (d, x) hgen hst))
  · subst hu
    exact (exec_expanderCmp m tag hup).trans (congrArg Host.Outcome.next (State.tagDone_write hgen hst hw))

end Sys2Proof.Machine
end

section
/-! Regions, windows and losses of the pool (R134-R138, R147-R149, R160-R162), its directory and its guard (R164-R183). -/

namespace Sys2Proof.Machine

/-! ### Writes of block registers -/

/-- An aligned offset of a block register that neither commits nor aborts a transaction nor holds a guard rule: the page's kind and unit, and the
register's offset, index and banking. -/
def isReg (a : Nat) (k : PageKind) (n off i : Nat) (b : Bank) : Bool :=
  decide (a % 4 = 0) && decide (a ≠ 0x2050) && decide (a ≠ 0x2054) && decide (¬a % 4096 < 0x40) && !guardRule ⟨0, a, 0⟩ &&
  decide ((pageOf a).map (fun g => (g.ps.kind, g.n)) = some (k, n)) &&
  decide ((findReg k (a % 4096)).map (fun q => (q.1.off, q.2, q.1.bank)) = some (off, i, b))

/-- A whole write that acts at once stores its word and does what the register does (R4, R35). -/
theorem State.write_fx {s t : State} {p : Path} {a v n off i : Nat} {k : PageKind} {b : Bank} (hreg : isReg a k n off i b = true)
    (ht : s.takes p a v)
    (he : (s.storeAt (pathCode p) a v).effect s ⟨k, n, off, i, s.bankOf (pathCode p) n b - 1, pathCode p, v⟩ = t) :
    s.write p a v 15 = t.settled := by
  simp only [isReg, Bool.and_eq_true, decide_eq_true_iff, Bool.not_eq_true'] at hreg
  obtain ⟨⟨⟨⟨⟨⟨halign, hcommit⟩, habort⟩, hblock⟩, hrule⟩, hpage⟩, hfind⟩ := hreg
  have hrule : guardRule ⟨0, a, v⟩ = false := hrule
  rw [State.write_direct halign ht hcommit habort, State.applyDirect_win hpage hfind hblock hrule he]

/-! ### Bits -/

/-- A bit reads as put. -/
theorem hasBit_putBit_same (v b : Nat) (x : Bool) : hasBit (putBit v b x) b = x := by
  have hpos : 0 < 2 ^ b := Nat.two_pow_pos b
  have hup : (v + 2 ^ b) / 2 ^ b = v / 2 ^ b + 1 := Nat.add_div_right v hpos
  unfold putBit
  split
  · next h =>
    cases x
    · have hone : v / 2 ^ b % 2 = 1 := by simpa [hasBit] using h
      have hdown : (v - 2 ^ b) / 2 ^ b = v / 2 ^ b - 1 := by simpa using Nat.sub_mul_div v (2 ^ b) 1
      unfold hasBit
      simp only [Bool.false_eq_true, if_false, hdown]
      simp
      omega
    · exact h
  · next h =>
    cases x
    · simpa using h
    · have hzero : v / 2 ^ b % 2 = 0 := by
        have : ¬v / 2 ^ b % 2 = 1 := by simpa [hasBit] using h
        omega
      unfold hasBit
      simp only [if_true, hup]
      simp
      omega

/-- An even number has no bit 0. -/
theorem hasBit_zero_of_even {v : Nat} (h : v % 2 = 0) : hasBit v 0 = false := by
  unfold hasBit
  simp [h]

/-! ### Regions and windows (R134-R138) -/

theorem isReg_regCfg (r : Fin 16) : isReg (regCfg r) .dir1 0 0x48 r .plain = true := by
  revert r
  decide

theorem isReg_winAttr : isReg 0x602054 .dir2 0 0x54 0 (.win .lensWin) = true := by decide

/-- What a stored write of REG_CFG does: a region that was on and is now off is recalled (R135). -/
theorem State.effect_regCfg (s s0 : State) (r w p v : Nat) : s.effect s0 ⟨.dir1, 0, 0x48, r, w, p, v⟩ =
    if s0.on (F.REG_CFG_EN r) && !hasBit v 0 then s.regionRecall r (s0.region r) else s := rfl

/-- What a stored write of WIN_ATTR does: a window that was on and is now off is recalled (R138). -/
theorem State.effect_winAttr (s s0 : State) (w p v : Nat) : s.effect s0 ⟨.dir2, 0, 0x54, 0, w, p, v⟩ =
    if 0x54 = 0x54 ∧ s0.on (F.WIN_ATTR_EN w) ∧ !hasBit v 0 then s.windowRecall w else s := rfl

theorem State.regionRecallEnd_done {s : State} {r : Nat} {e : Nat × Region} (he : s.pool.recalls.find? (fun e => e.1 == r) = some e)
    (hdir : s.pool.dir.any (fun x => e.2.holds (x.2.line * 64)) = false) (hreqs : s.pool.reqs.any (fun r => e.2.holds r.addr) = false) :
    s.regionRecallEnd r =
      (((s.mapPool (fun p => { p with recalls := tdel p.recalls r })).put (F.REG_CFG_RECALL r) false).poolRecall).raise 2838 := by
  unfold State.regionRecallEnd
  rw [he]
  exact if_neg (by simp only [hdir, hreqs]; decide)

theorem State.windowRecallEnd_done {s : State} {h w : Nat} (hany : s.pool.wins.any (fun x => x.host == h && x.win == w) = true)
    (hdir : s.pool.dir = []) (hreqs : s.pool.reqs = []) : s.windowRecallEnd h w =
      ((s.mapPool (fun p => { p with wins := p.wins.filter (fun y => !(y.host == h && y.win == w)) })).put
        (F.WIN_ATTR_RECALL (h * 64 + w)) false).raise 2848 := by
  have hsome : (s.pool.wins.find? (fun x => x.host == h && x.win == w)).isSome = true := by
    rw [List.find?_isSome]
    exact List.any_eq_true.mp hany
  obtain ⟨x, hx⟩ := Option.isSome_iff_exists.mp hsome
  unfold State.windowRecallEnd
  rw [hx]
  exact if_neg (by simp [hdir, hreqs])

theorem poolEvents_source : (evSrc 2848).isSome = true ∧ (evSrc 2836).isSome = true ∧ (evSrc 2840).isSome = true ∧ (evSrc 2843).isSome = true := by
  decide

/-- The state of a loss walk that has ended, before its event. -/
def State.walkOver (s : State) (port : Nat) (w : Walk) : State :=
  let s1 := s.mapPool (fun p => { p with walks := p.walks.filter (fun x => x.port != port) })
  let s2 := if s1.pool.walks.isEmpty then s1.set F.LOSS_STAT_BUSY 0 else s1
  s2.fmRec { seq := 0, typ := 0x21, source := port, ref := w.seq, status := w.listed, addr := 0, data := 0 }

theorem State.walkEnd_over {s : State} {port : Nat} {w : Walk} (hw : s.pool.walks.find? (fun w => w.port == port) = some w)
    (hsnoops : s.pool.snoops = []) : s.walkEnd port = (s.walkOver port w).raise 2836 := by
  unfold State.walkEnd
  rw [hw]
  exact if_neg (by simp [hsnoops])

theorem State.walkOver_walks (s : State) (port : Nat) (w : Walk) :
    (s.walkOver port w).pool.walks = s.pool.walks.filter (fun x => x.port != port) := by
  unfold State.walkOver
  dsimp only
  rw [(State.fmRec_same ..).part .pool (by decide)]
  split <;> rfl

/-- LOSS_STAT.BUSY falls with the last walk. -/
theorem State.walkOver_busy {s : State} {port : Nat} {w : Walk} (h : s.pool.walks.filter (fun x => x.port != port) = []) :
    (s.walkOver port w).get F.LOSS_STAT_BUSY = 0 := by
  have hlast : (s.mapPool (fun p => { p with walks := p.walks.filter (fun x => x.port != port) })).pool.walks.isEmpty = true := by
    show (s.pool.walks.filter (fun x => x.port != port)).isEmpty = true
    rw [h]
    rfl
  unfold State.walkOver
  dsimp only
  rw [if_pos hlast, State.get_of_regs ((State.fmRec_same ..).part .regs (by decide)), State.get_set]
  rfl

/-! ### Cream caches (R147, R149) -/

theorem isReg_crCtrl (n : Fin 8) : isReg (0x610040 + 0x1000 * n.val) .cream n 0x40 0 .plain = true := by
  revert n
  decide

theorem isReg_poolLost : isReg 0x601244 .dir1 0 0x244 0 .plain = true := by decide

/-- A bank that has met its limit of corrected errors is retired with both events. -/
theorem State.creamFault_limit {s : State} {n b : Nat} (h : s.creamBank n b ≠ 2) : s.creamFault n b true =
    ((((s.softRecord 6 (8 * n + b) 0).set (F.CR_BANK_STAT_STATE n) (s.get (F.CR_BANK_STAT_STATE n) -
      4 ^ b * bits (s.get (F.CR_BANK_STAT_STATE n)) (2 * b) 2 + 4 ^ b * 2)).creamDrop n (some b)).raise (2881 + 4 * n)).raise (2883 + 4 * n) :=
  if_neg h

/-- Settles O38. -/
theorem regionsAndWindowsAct : Obligations.RegionsAndWindowsAct := by
  refine ⟨fun s p r v ht => congrArg Host.Outcome.next (State.write_fx (isReg_regCfg r) ht ?_),
    fun s p r v hv ht hen hlt => ?_, fun s r => rfl,
    fun s r e he hdir hreqs => congrArg Host.Outcome.next (State.regionRecallEnd_done he hdir hreqs),
    fun s p c ht => congrArg Host.Outcome.next (State.write_fx isReg_winAttr ht ?_), fun s p w v hw hv ht hen => ?_, fun s h w => rfl,
    fun s h w hany hdir hreqs => ⟨_, congrArg Host.Outcome.next (State.windowRecallEnd_done hany hdir hreqs), rfl, ?_,
      State.raise_stands _ poolEvents_source.1⟩, fun s port => rfl,
    fun s port w hw hsnoops => ⟨_, congrArg Host.Outcome.next (State.walkEnd_over hw hsnoops), State.walkOver_walks s port w,
      State.raise_stands _ poolEvents_source.2.1, fun hlast => State.walkOver_busy ((State.walkOver_walks s port w).symm.trans hlast)⟩,
    fun s p m ht => congrArg Host.Outcome.next (State.write_fx isReg_poolLost ht ?_),
    fun s n b k => ⟨rfl, rfl, fun hfew => congrArg Host.Outcome.next (if_neg (Nat.not_le.mpr hfew))⟩,
    fun s n b w k hw hin hmany => ?_,
    fun s p n v hv ht => ?_, fun s p n ht => congrArg Host.Outcome.next (State.write_fx (isReg_crCtrl n) ht rfl)⟩
  · rw [State.effect_regCfg, hasBit_putBit_same]
    exact if_neg (by simp)
  · have heven : hasBit v 0 = false := hasBit_zero_of_even (by omega)
    subst hv
    refine congrArg Host.Outcome.next (State.write_fx (isReg_regCfg r) ht ?_)
    rw [State.effect_regCfg, heven, hen]
    rfl
  · have hodd : hasBit (2 * b2n c + 1) 0 = true := by cases c <;> rfl
    rw [State.effect_winAttr, hodd]
    exact if_neg (by simp)
  · have heven : hasBit v 0 = false := hasBit_zero_of_even (by omega)
    subst hw hv
    refine congrArg Host.Outcome.next (State.write_fx isReg_winAttr ht ?_)
    rw [State.effect_winAttr, heven]
    exact if_pos ⟨rfl, hen, rfl⟩
  · exact (State.raise_get ..).trans (State.get_put _ false rfl)
  · have hm : bits m.toNat 0 16 = m.toNat := by
      unfold bits
      rw [Nat.pow_zero, Nat.div_one]
      exact Nat.mod_eq_of_lt m.isLt
    show State.set _ _ (Nat.land _ (65535 - bits m.toNat 0 16)) = _
    rw [hm]
  · subst hw
    exact congrArg Host.Outcome.next ((if_pos hmany).trans (State.creamFault_limit hin))
  · subst hv
    exact congrArg Host.Outcome.next (State.write_fx (isReg_crCtrl n) ht rfl)

end Sys2Proof.Machine
end

section
/-! Directory slices, the reflectors, entry commands and the guard (R164-R183). -/

namespace Sys2Proof.Machine

/-! ### Fields that a soft record and a slice's state leave alone -/

theorem sliceFld_cases (d : Nat) : sliceFld d = F.SLICE_STAT0_STATE ∨ sliceFld d = F.SLICE_STAT1_STATE := by
  unfold sliceFld
  split
  · exact .inl rfl
  · exact .inr rfl

theorem reflector_cases (g : Nat) : reflector g = F.SPARE_STAT_DP0 ∨ reflector g = F.SPARE_STAT_DP1 := by
  unfold reflector
  split
  · exact .inl rfl
  · exact .inr rfl

theorem State.setSlice_get_ne (s : State) (d v : Nat) {f : Fld} (h : f.key ≠ (sliceFld d).key) : (s.setSlice d v).get f = s.get f :=
  State.get_set_ne _ _ h

/-- A field of neither the fail log, nor the soft repair log, nor the slices' states. -/
def sliceApart (f : Fld) : Bool :=
  f.key != F.REP_LOG_ELEM.key && f.key != F.SLICE_FAIL_LOG_CAUSE.key && f.key != F.SLICE_FAIL_LOG_SLICE.key &&
  f.key != F.SLICE_STAT0_STATE.key && f.key != F.SLICE_STAT1_STATE.key

theorem ne_sliceFld {f : Fld} (h0 : f.key ≠ F.SLICE_STAT0_STATE.key) (h1 : f.key ≠ F.SLICE_STAT1_STATE.key) (d : Nat) : f.key ≠ (sliceFld d).key := by
  rcases sliceFld_cases d with h | h <;> rw [h] <;> assumption

/-! ### A slice's failure (R164) -/

/-- The state of a slice that has failed, recorded, logged and raised. -/
def State.sliceLogged (s : State) (d cause : Nat) : State :=
  ((((s.softRecord 5 d 0).set F.SLICE_FAIL_LOG_CAUSE cause).set F.SLICE_FAIL_LOG_SLICE d).setSlice d 1).raise 2840

theorem State.sliceLogged_get (s : State) (d cause : Nat) {f : Fld} (h : sliceApart f = true) : (s.sliceLogged d cause).get f = s.get f := by
  simp only [sliceApart, Bool.and_eq_true, bne_iff_ne] at h
  obtain ⟨⟨⟨⟨hrep, hcause⟩, hslice⟩, h0⟩, h1⟩ := h
  rw [State.sliceLogged, State.raise_get, State.setSlice_get_ne _ _ _ (ne_sliceFld h0 h1 d), State.get_set_ne _ _ hslice, State.get_set_ne _ _ hcause,
    State.softRecord_get_ne _ _ _ _ _ hrep]

theorem sliceLog_keys_ne : F.SLICE_FAIL_LOG_CAUSE.key ≠ F.SLICE_FAIL_LOG_SLICE.key ∧ F.SLICE_FAIL_LOG_CAUSE.key ≠ F.SLICE_STAT0_STATE.key ∧
    F.SLICE_FAIL_LOG_CAUSE.key ≠ F.SLICE_STAT1_STATE.key ∧ F.SLICE_FAIL_LOG_SLICE.key ≠ F.SLICE_STAT0_STATE.key ∧
    F.SLICE_FAIL_LOG_SLICE.key ≠ F.SLICE_STAT1_STATE.key := by decide

/-- SLICE_FAIL_LOG names the cause and the slice. -/
theorem State.sliceLogged_log (s : State) (d cause : Nat) : (s.sliceLogged d cause).get F.SLICE_FAIL_LOG_CAUSE = cause % 2 ^ F.SLICE_FAIL_LOG_CAUSE.width ∧
    (s.sliceLogged d cause).get F.SLICE_FAIL_LOG_SLICE = d % 2 ^ F.SLICE_FAIL_LOG_SLICE.width := by
  obtain ⟨hcs, hc0, hc1, hs0, hs1⟩ := sliceLog_keys_ne
  rw [State.sliceLogged, State.raise_get, State.raise_get]
  constructor
  · rw [State.setSlice_get_ne _ _ _ (ne_sliceFld hc0 hc1 d), State.get_set_ne _ _ hcs, State.get_set]
  · rw [State.setSlice_get_ne _ _ _ (ne_sliceFld hs0 hs1 d), State.get_set]

theorem State.sliceLogged_pool (s : State) (d cause : Nat) : (s.sliceLogged d cause).pool = s.pool := (State.softRecord_same ..).part .pool (by decide)

theorem sliceApart_spare : sliceApart F.SPARE_STAT_DX = true ∧ sliceApart F.SPARE_STAT_DP0 = true ∧ sliceApart F.SPARE_STAT_DP1 = true := by
  decide

theorem State.sliceLogged_reflector (s : State) (d cause g : Nat) : (s.sliceLogged d cause).get (reflector g) = s.get (reflector g) := by
  obtain ⟨-, h0, h1⟩ := sliceApart_spare
  rcases reflector_cases g with h | h <;> rw [h]
  · exact State.sliceLogged_get s d cause h0
  · exact State.sliceLogged_get s d cause h1

/-- The first slice of its group to fail, with the spare free, is fenced for reconstruction. -/
theorem State.sliceFail_first {s : State} {d cause : Nat} (hok : s.sliceState d = 0) (hdead : s.pool.dead = []) (hgroup : s.onRecon (d / 16) = [])
    (hrefl : s.get (reflector (d / 16)) ≠ 2) (hspare : s.get F.SPARE_STAT_DX = 0) : s.sliceFail d cause =
      (s.sliceLogged d cause).mapPool (fun p => { p with fenced := d :: p.fenced, failAt := tset p.failAt d s.now }) := by
  have hrefl' : (s.sliceLogged d cause).get (reflector (d / 16)) ≠ 2 := by rwa [State.sliceLogged_reflector]
  have hspare' : ((s.sliceLogged d cause).mapPool (fun p => { p with fenced := d :: p.fenced, failAt := tset p.failAt d s.now })).get F.SPARE_STAT_DX = 0 :=
    (State.sliceLogged_get s d cause sliceApart_spare.1).trans hspare
  have hgo : ¬(!(s.onRecon (d / 16)).isEmpty || (s.sliceLogged d cause).get (reflector (d / 16)) == 2) = true := by simp [hgroup, hrefl']
  exact (if_neg (by simp [hok, hdead])).trans ((if_neg hgo).trans (if_pos hspare'))

/-! ### The spare slice and the reflectors (R165) -/

theorem sliceFld_ne_spare (d : Nat) : F.SPARE_STAT_DX.key ≠ (sliceFld d).key := ne_sliceFld (by decide) (by decide) d

theorem exec_dxFail {s : State} (h : s.get F.SPARE_STAT_DX ≠ 2) : exec .dxFail s =
    .next ((if (((s.softRecord 5 34 0).stopRebuild (List.range 32)).set F.SPARE_STAT_DX 2).on F.SPARE_STAT_ROLE_VALID then
      ((((s.softRecord 5 34 0).stopRebuild (List.range 32)).set F.SPARE_STAT_DX 2).setSlice
        ((((s.softRecord 5 34 0).stopRebuild (List.range 32)).set F.SPARE_STAT_DX 2).get F.SPARE_STAT_ROLE) 1).set F.SPARE_STAT_ROLE_VALID 0
      else ((s.softRecord 5 34 0).stopRebuild (List.range 32)).set F.SPARE_STAT_DX 2).raise 2843) :=
  congrArg Host.Outcome.next (if_neg h)

theorem spareDx_ne_roleValid : F.SPARE_STAT_DX.key ≠ F.SPARE_STAT_ROLE_VALID.key := by decide

theorem State.rebuildDone_full {s : State} {d : Nat} (hon : s.on F.REBUILD_STAT_ACTIVE = true) (hd : s.get F.REBUILD_STAT_SLICE = d)
    (hrow : s.rebuildRow = 49152) : s.rebuildDone d = ((s.setSlice d 3).sets [(F.REBUILD_STAT_ACTIVE, 0), (F.REBUILD_STAT_ROW, 49152),
      (F.SPARE_STAT_ROLE_VALID, 1), (F.SPARE_STAT_ROLE, d), (F.REBUILD_LAST_US, (s.now - s.pool.rebAt) / 1000)]).raise 2842 :=
  if_pos ⟨hon, hd, hrow⟩

theorem State.reconServes_spareTaken {s s1 : State} {d : Nat} (hf : s.pool.fenced.contains d = true)
    (hs1 : s1 = (((s.restoreTrackers d).mapPool (fun p => { p with fenced := p.fenced.erase d })).set F.RECON_LAST_NS
      (s.now - tget 0 s.pool.failAt d)).raise 2841) (htaken : s1.get F.SPARE_STAT_DX ≠ 0) : s.reconServes d = s1.advance := by
  subst hs1
  exact (if_pos hf).trans (congrArg State.advance (if_neg htaken))

/-! ### Writes of the directory's and the guard's registers -/

theorem isReg_sliceCmd : isReg 0x603058 .dir3 0 0x58 0 .plain = true := by decide

theorem isReg_entCmd : isReg 0x60404C .dir4 0 0x4C 0 .plain = true := by decide

theorem isReg_logStat : isReg 0x703044 .guard3 0 0x44 0 .plain = true := by decide

theorem isReg_drainMax : isReg 0x70004C .guard0 0 0x4C 0 .plain = true := by decide

/-- What a stored write of ENT_CMD does (R171). -/
theorem State.effect_entCmd (s s0 : State) (w p v : Nat) : s.effect s0 ⟨.dir4, 0, 0x4C, 0, w, p, v⟩ = s.entCmd v := rfl

theorem hasBit_one_zero : hasBit 1 0 = true := by decide

theorem hasBit_top : hasBit (2 ^ 31) 31 = true := by decide

/-- Settles O39. -/
theorem directoryAndGuardAct : Obligations.DirectoryAndGuardAct := by
  refine ⟨fun s d row n => ⟨rfl, rfl, rfl, fun hmany => congrArg Host.Outcome.next (if_pos hmany)⟩,
    fun s d hok hdead hgroup hrefl hspare => ⟨_, congrArg Host.Outcome.next (State.sliceFail_first hok hdead hgroup hrefl hspare), ?_, ?_, ?_, ?_,
      State.raise_stands _ poolEvents_source.2.2.1⟩,
    fun s d hon hd hrow => congrArg Host.Outcome.next (State.rebuildDone_full hon hd hrow),
    fun s g hin hnone => congrArg Host.Outcome.next ((if_neg hin).trans (if_pos (by rw [hnone]; rfl))),
    fun s hin _ _ => ⟨_, exec_dxFail hin, ?_, State.raise_stands _ poolEvents_source.2.2.2⟩,
    fun s s1 d hf _ hs1 htaken => congrArg Host.Outcome.next (State.reconServes_spareTaken hf hs1 htaken),
    fun s p d ht => congrArg Host.Outcome.next (State.write_fx isReg_sliceCmd ht rfl), fun s d => ⟨rfl, rfl⟩, fun s g => rfl, fun s => rfl,
    fun s p ht => congrArg Host.Outcome.next (State.write_fx isReg_entCmd ht (State.effect_entCmd ..)),
    fun s p ht => congrArg Host.Outcome.next (State.write_fx isReg_entCmd ht (State.effect_entCmd ..)),
    fun s hd hnone => congrArg Host.Outcome.next (if_neg (by simp [hd, hnone])),
    fun s hd => congrArg Host.Outcome.next (if_neg (by simp [hd])),
    fun s p ht => congrArg Host.Outcome.next (State.write_fx isReg_logStat ht (if_pos ⟨rfl, hasBit_one_zero⟩)),
    fun s p ht => congrArg Host.Outcome.next (State.write_fx isReg_drainMax ht (if_pos ⟨rfl, hasBit_top⟩))⟩
  · exact (State.sliceLogged_log s d 1).1
  · exact (State.sliceLogged_log s d 1).2.trans (Nat.mod_eq_of_lt d.isLt)
  · exact congrArg (fun p : PoolSt => d.val :: p.fenced) (State.sliceLogged_pool s d 1)
  · exact (tget_tset ..).trans (if_pos rfl)
  · rw [State.raise_get]
    split
    · rw [State.get_set_ne _ _ spareDx_ne_roleValid, State.setSlice_get_ne _ _ _ (sliceFld_ne_spare _), State.get_set]
      rfl
    · exact State.get_set ..

end Sys2Proof.Machine
end

section
/-! The links of host and memory ports (R161, R187, R193-R200) and the bindings (R184, R190-R193, R197, R198). -/

namespace Sys2Proof.Machine

/-! ### Events that stay through deliveries and records -/

theorem foldl_evKept {α : Type} {g : State → α → State} (h : ∀ s a, EvKept s (g s a)) (l : List α) (s : State) : EvKept s (l.foldl g s) := by
  induction l generalizing s with
  | nil => exact EvKept.refl s
  | cons a l ih => exact (h s a).trans (ih _)

/-- What is read of the registers after a list of operations that each keep it. -/
theorem foldl_get_kept {α : Type} {g : State → α → State} {f : Fld} (h : ∀ s a, (g s a).get f = s.get f) (l : List α) (s : State) :
    (l.foldl g s).get f = s.get f := by
  induction l generalizing s with
  | nil => rfl
  | cons a l ih => exact (ih _).trans (h s a)

/-- The events' state is a part of `sig`. -/
theorem EvKept.of_sig {s t : State} (h : t.sig = s.sig) : EvKept s t := fun e he => by
  unfold State.evStat State.evRec at *
  rw [h]
  exact he

theorem State.setTgt_kept (s : State) (t : Nat) (r : TgtRec) : EvKept s (s.setTgt t r) := fun _ he => he

theorem State.setMail_kept (s : State) (h : Nat) (m : Mail) : EvKept s (s.setMail h m) := fun _ he => he

theorem State.redeliverAs_kept (s : State) (fast : Bool) (ev : Nat) : EvKept s (s.redeliverAs fast ev) := by
  unfold State.redeliverAs
  split
  · exact EvKept.refl s
  · exact ((State.deliver_kept s ev _ fast).trans (State.occurAll_kept 40 _ _)).trans (EvKept.of_sig rfl)

theorem State.redeliver_kept (s : State) (ev : Nat) : EvKept s (s.redeliver ev) := State.redeliverAs_kept s _ ev

theorem State.retarget_kept (s : State) (t : Nat) : EvKept s (s.retarget t) := by
  unfold State.retarget
  split
  · refine foldl_evKept (fun s ev => ?_) _ _
    split
    · exact State.redeliver_kept s ev
    · exact EvKept.refl s
  · unfold State.dropTarget
    dsimp only
    refine EvKept.trans ?_ (foldl_evKept (fun s ev => State.redeliverAs_kept s false ev) _ _)
    exact (State.setTgt_kept s t _).trans (foldl_evKept (fun s ev => State.redeliverAs_kept s true ev) _ _)

theorem State.postRec_kept (s : State) (h : Nat) (r : Rec) : EvKept s (s.postRec h r) := by
  have hput : EvKept s (s.putRec h r).1 := fun e he => (State.putRec_evStat s h r e).trans he
  unfold State.postRec
  split
  · exact (hput.trans (State.raise_kept _ _)).trans (EvKept.of_sig rfl)
  · exact hput.trans (EvKept.of_sig rfl)

theorem State.complete_kept (s : State) (h seq status data addr : Nat) : EvKept s (s.complete h seq status data addr) := by
  unfold State.complete
  dsimp only
  split
  · exact EvKept.refl s
  · split
    · exact State.setMail_kept s h _
    · exact (State.setMail_kept s h _).trans (State.postRec_kept _ _ _)

theorem State.readEntry_kept (s : State) (h : Nat) (c : CmdHead) : EvKept s (s.readEntry h c) := by
  unfold State.readEntry
  dsimp only
  split
  · exact EvKept.refl s
  · split
    · split
      · exact (State.setMail_kept s h _).trans (State.complete_kept _ _ _ _ _ _)
      · exact State.setMail_kept s h _
    · exact EvKept.trans ((State.setMail_kept s h _).trans (State.raise_kept _ (64 + 2 * h))) (State.postRec_kept _ _ _)

theorem State.readPosted_kept (s : State) (h : Nat) : EvKept s (s.readPosted h) := by
  unfold State.readPosted
  split
  · exact foldl_evKept (fun s c => State.readEntry_kept s h c) _ _
  · exact EvKept.refl s

/-! ### Fields of a list -/

theorem State.sets_cons (s : State) (f : Fld) (v : Nat) (l : List (Fld × Nat)) : s.sets ((f, v) :: l) = (s.set f v).sets l := rfl

/-- A list of writes that names no field of a key leaves it as it is. -/
theorem State.sets_get_ne {l : List (Fld × Nat)} {f : Fld} (h : ∀ p ∈ l, f.key ≠ p.1.key) (s : State) : (s.sets l).get f = s.get f := by
  induction l generalizing s with
  | nil => rfl
  | cons p l ih => exact (ih (fun q hq => h q (List.mem_cons_of_mem _ hq)) _).trans (State.get_set_ne _ _ (h p List.mem_cons_self))

/-- The first of a list of writes reads back, where no later one names it. -/
theorem State.sets_get_head {l : List (Fld × Nat)} {f : Fld} {v : Nat} (h : ∀ p ∈ l, f.key ≠ p.1.key) (s : State) :
    (s.sets ((f, v) :: l)).get f = v % 2 ^ f.width := (State.sets_get_ne h _).trans (State.get_set s f v)

/-! ### An H-port comes up (R139, R194) -/

/-- A field of an H-port's status is no field of its lanes. -/
def lanesKeep (f : Fld) : Prop :=
  ∀ w, f.key ≠ (F.TX_FFE_PRESET w).key ∧ f.key ≠ (F.TX_FFE_C_PRE w).key ∧ f.key ≠ (F.TX_FFE_C_POST w).key ∧ f.key ≠ (F.LN_STAT_SIGNAL w).key ∧
    f.key ≠ (F.LN_STAT_CDR_LOCK w).key ∧ f.key ≠ (F.LN_STAT_ADAPTED w).key ∧ f.key ≠ (F.MAC_STAT_RATE w).key

theorem State.lanesUp_get {f : Fld} (h : lanesKeep f) (s : State) (p rate : Nat) : (s.lanesUp p rate).get f = s.get f := by
  refine foldl_get_kept (fun s m => ?_) _ _
  refine (foldl_get_kept (fun s l => ?_) _ _).trans (State.get_set_ne _ _ (h m).2.2.2.2.2.2)
  obtain ⟨hpreset, hpre, hpost, hsignal, hlock, hadapted, -⟩ := h (4 * m + l)
  have hffe : (if 3 ≤ rate then s.fresh.2.sets [(F.TX_FFE_PRESET (4 * m + l), s.fresh.1), (F.TX_FFE_C_PRE (4 * m + l), s.fresh.1 / 16),
      (F.TX_FFE_C_POST (4 * m + l), s.fresh.1 / 1024)] else s).get f = s.get f := by
    split
    · exact State.sets_get_ne (by simp [hpreset, hpre, hpost]) _
    · rfl
  have hshown : ∀ u : State, (if u.on (F.LN_STAT_RETIRED (4 * m + l)) then u else u.sets [(F.LN_STAT_SIGNAL (4 * m + l), 1),
      (F.LN_STAT_CDR_LOCK (4 * m + l), 1), (F.LN_STAT_ADAPTED (4 * m + l), 1)]).get f = u.get f := fun u => by
    split
    · rfl
    · exact State.sets_get_ne (by simp [hsignal, hlock, hadapted]) _
  exact (hshown _).trans hffe

/-- An H-port that has trained, before its lanes and its host are told. -/
def State.hpShown (s : State) (h rate width : Nat) (caps : LinkCaps) : State :=
  s.sets [(F.HP_STAT_LINK h, 2), (F.HP_STAT_RATE h, rate), (F.HP_STAT_WIDTH h, width), (F.HP_STAT_IDE h, b2n caps.ide)]

theorem hpStat_keys_ne (h : Nat) : (F.HP_STAT_LINK h).key ≠ (F.HP_STAT_RATE h).key ∧ (F.HP_STAT_LINK h).key ≠ (F.HP_STAT_WIDTH h).key ∧
    (F.HP_STAT_LINK h).key ≠ (F.HP_STAT_IDE h).key ∧ (F.HP_STAT_RATE h).key ≠ (F.HP_STAT_WIDTH h).key ∧
    (F.HP_STAT_RATE h).key ≠ (F.HP_STAT_IDE h).key ∧ (F.HP_STAT_WIDTH h).key ≠ (F.HP_STAT_IDE h).key := by
  simp only [F.HP_STAT_LINK, F.HP_STAT_RATE, F.HP_STAT_WIDTH, F.HP_STAT_IDE, Fld.key]
  omega

theorem State.hpShown_get (s : State) (h rate width : Nat) (caps : LinkCaps) :
    (s.hpShown h rate width caps).get (F.HP_STAT_LINK h) = 2 ∧
    (s.hpShown h rate width caps).get (F.HP_STAT_RATE h) = rate % 2 ^ (F.HP_STAT_RATE h).width ∧
    (s.hpShown h rate width caps).get (F.HP_STAT_WIDTH h) = width % 2 ^ (F.HP_STAT_WIDTH h).width ∧
    (s.hpShown h rate width caps).get (F.HP_STAT_IDE h) = b2n caps.ide := by
  obtain ⟨hlr, hlw, hli, hrw, hri, hwi⟩ := hpStat_keys_ne h
  unfold State.hpShown
  refine ⟨?_, ?_, ?_, ?_⟩
  · rw [State.sets_get_head (by simp [hlr, hlw, hli])]
    rfl
  · rw [State.sets_cons, State.sets_get_head (by simp [hrw, hri])]
  · rw [State.sets_cons, State.sets_cons, State.sets_get_head (by simp [hwi])]
  · rw [State.sets_cons, State.sets_cons, State.sets_cons, State.sets_get_head (by simp)]
    cases caps.ide <;> rfl

theorem State.hpUp_fits {s : State} {h rate width : Nat} {caps : LinkCaps}
    (hfits : linkFits false rate width ((s.trainedAs h).eff (F.HP_CTRL_MAX_RATE h)) ((s.trainedAs h).eff (F.HP_CTRL_MAX_WIDTH h)) = true) :
    ∃ u : State, u = ((s.trainedAs h).hpShown h rate width caps).raise (256 + 32 * h) ∧
      s.hpUp h rate width caps = ((((u.lanesUp h rate).setPartner h caps).emit (.linkCap h u.l1Exit)).retarget h).readPosted h :=
  ⟨_, rfl, if_pos hfits⟩

theorem State.hpUp_get {s : State} {h rate width : Nat} {caps : LinkCaps}
    (hfits : linkFits false rate width ((s.trainedAs h).eff (F.HP_CTRL_MAX_RATE h)) ((s.trainedAs h).eff (F.HP_CTRL_MAX_WIDTH h)) = true)
    {f : Fld} (hkeep : lanesKeep f) : (s.hpUp h rate width caps).get f = ((s.trainedAs h).hpShown h rate width caps).get f := by
  obtain ⟨u, hu, hup⟩ := State.hpUp_fits (caps := caps) hfits
  rw [hup, State.get_of_regs ((State.readPosted_same ..).part .regs (by decide)), State.get_of_regs ((State.retarget_same ..).part .regs (by decide)),
    State.emit_get, State.get_of_regs ((State.setPartner_same ..).part .regs (by decide)), State.lanesUp_get hkeep, hu, State.raise_get]

theorem hpUpEvent_source (h : Fin 32) : (evSrc (256 + 32 * h.val)).isSome = true := by
  revert h
  decide

theorem State.hpUp_evStat {s : State} {h : Fin 32} {rate width : Nat} {caps : LinkCaps}
    (hfits : linkFits false rate width ((s.trainedAs h).eff (F.HP_CTRL_MAX_RATE h)) ((s.trainedAs h).eff (F.HP_CTRL_MAX_WIDTH h)) = true) :
    (s.hpUp h rate width caps).evStat (256 + 32 * h.val) = true := by
  obtain ⟨u, hu, hup⟩ := State.hpUp_fits (caps := caps) hfits
  have hraised : u.evStat (256 + 32 * h.val) = true := by
    rw [hu]
    exact State.raise_stands _ (hpUpEvent_source h)
  rw [hup]
  refine State.readPosted_kept _ _ _ (State.retarget_kept _ _ _ ?_)
  exact ((EvKept.of_sig ((State.lanesUp_same ..).part .sig (by decide))).trans (EvKept.of_sig ((State.setPartner_same ..).part .sig (by decide)))) _ hraised

theorem hpStat_lanesKeep (h : Nat) : lanesKeep (F.HP_STAT_LINK h) ∧ lanesKeep (F.HP_STAT_RATE h) ∧ lanesKeep (F.HP_STAT_WIDTH h) ∧
    lanesKeep (F.HP_STAT_IDE h) := by
  simp only [lanesKeep, F.HP_STAT_LINK, F.HP_STAT_RATE, F.HP_STAT_WIDTH, F.HP_STAT_IDE, F.TX_FFE_PRESET, F.TX_FFE_C_PRE, F.TX_FFE_C_POST,
    F.LN_STAT_SIGNAL, F.LN_STAT_CDR_LOCK, F.LN_STAT_ADAPTED, F.MAC_STAT_RATE, Fld.key]
  refine ⟨fun w => ?_, fun w => ?_, fun w => ?_, fun w => ?_⟩ <;> omega

/-! ### Links go down, retrain and are measured -/

theorem isReg_hpCtrl (h : Fin 32) : isReg (0x100040 + 0x10000 * h.val) .hport0 h 0x40 0 .plain = true := by
  revert h
  decide

theorem isReg_mpCtrl (m : Fin 16) : isReg (0x300040 + 0x10000 * m.val) .mport m 0x40 0 .plain = true := by
  revert m
  decide

/-- What a stored write of HP_CTRL does. -/
theorem State.effect_hpCtrl (s s0 : State) (n w p v : Nat) : s.effect s0 ⟨.hport0, n, 0x40, 0, w, p, v⟩ = s.hpCtrl s0 n v := rfl

/-- What a stored write of MP_CTRL does. -/
theorem State.effect_mpCtrl (s s0 : State) (n w p v : Nat) : s.effect s0 ⟨.mport, n, 0x40, 0, w, p, v⟩ = s.mpCtrl n v := rfl

theorem State.mpUp_fits {s u : State} {m rate width : Nat} (caps : LinkCaps) (dev : MpDevice) (hu : u = s.trainedAs (32 + m))
    (hfits : linkFits true rate width (u.eff (F.MP_CTRL_MAX_RATE m)) (u.eff (F.MP_CTRL_MAX_WIDTH m)) = true) :
    (∀ gib, dev = .expander gib → u.eff (F.MP_CTRL_MODE m) = 1 → s.mpUp m rate width caps dev =
      ((u.mpJoin m rate width caps 1).set (F.MP_CAP_GIB m) (min 2048 gib)).emit (.hdm m 0 gib)) ∧
    (dev = .pcie [] → u.eff (F.MP_CTRL_MODE m) = 2 → s.mpUp m rate width caps dev = u.mpJoin m rate width caps 2) := by
  subst hu
  refine ⟨fun gib hdev hmode => ?_, fun hdev hmode => ?_⟩ <;>
  · subst hdev
    refine (if_pos hfits).trans ?_
    rw [hmode]
    rfl

theorem exec_ltrMessage_host (s : State) (h : Fin 32) (v : Word) : exec (.ltrMessage (h.castLE (by decide)) (.ltr v)) s =
    .next ((s.set (F.HP_LTR_VALUE h) v.toNat).ltr h v.toNat (s.get (F.HP_LTR_VALUE h) != v.toNat)) := by
  show execLtrMessage (h.castLE (by decide)) (.ltr v) s = _
  simp only [execLtrMessage, Fin.val_castLE, h.isLt, if_true]

theorem exec_ltrMessage_aspm {s : State} {h : Fin 32} (on : Bool) (hup : s.get (F.HP_STAT_LINK h) = 2) :
    exec (.ltrMessage (h.castLE (by decide)) (.aspm on)) s = .next ((s.setPartner h { s.partner h with aspm := on }).selectState h) := by
  show execLtrMessage (h.castLE (by decide)) (.aspm on) s = _
  simp only [execLtrMessage, State.portUp, Fin.val_castLE, h.isLt, if_true, hup]
  rfl

theorem exec_dlatMeasUpdate_host {s : State} {h : Fin 32} (rtt : BitVec 16) (hup : s.get (F.HP_STAT_LINK h) = 2) (hrate : s.get (F.HP_STAT_RATE h) = 7) :
    exec (.dlatMeasUpdate (h.castLE (by decide)) rtt) s =
      .next (((s.set (F.HP_STAT2_RTT h) rtt.toNat).set (F.DLAT_MEAS_NS h) (16 + rtt.toNat / 2)).selectState h) := by
  show execDlatMeasUpdate (h.castLE (by decide)) rtt s = _
  simp only [execDlatMeasUpdate, Fin.val_castLE, h.isLt, if_true, hup, hrate]
  rfl

/-- Settles O40. -/
theorem portCommandsAct : Obligations.PortCommandsAct := by
  refine ⟨fun s u h rate width caps hlink hu => ⟨fun hfits => ⟨_, congrArg Host.Outcome.next (if_pos hlink), ?_⟩, fun hfits => ?_⟩,
    fun s h rate width caps hlink => congrArg Host.Outcome.next (if_neg (by simp [hlink])), fun s h => rfl,
    fun s u h hup hu => congrArg Host.Outcome.next ((if_neg hup).trans (by rw [hu])),
    fun s p h ht => congrArg Host.Outcome.next (State.write_fx (isReg_hpCtrl h) ht (State.effect_hpCtrl ..)),
    fun s p h v hv ht => ?_,
    fun s m rate width caps d hlink => congrArg Host.Outcome.next (if_pos hlink),
    fun s u m rate width caps hlink hu hfits => ⟨fun gib hmode => ?_, fun hmode => ?_⟩, fun s m => rfl,
    fun s m hup => congrArg Host.Outcome.next (if_neg hup), fun s p m v hv ht => ?_, exec_ltrMessage_host,
    fun s h on hup => exec_ltrMessage_aspm on hup,
    fun s port => ⟨fun hport => congrArg Host.Outcome.next (if_pos hport), fun hport => congrArg Host.Outcome.next (if_neg (by omega))⟩,
    fun s port hport hlow => ⟨fun hdeep => ?_, fun hdeep => ?_⟩, fun s h rtt hup hrate => exec_dlatMeasUpdate_host rtt hup hrate⟩
  · subst hu
    obtain ⟨hlink, hrate, hwidth, hide⟩ := State.hpShown_get (s.trainedAs h) h rate width caps
    obtain ⟨klink, krate, kwidth, kide⟩ := hpStat_lanesKeep h
    exact ⟨(State.hpUp_get hfits klink).trans hlink, (State.hpUp_get hfits krate).trans hrate, (State.hpUp_get hfits kwidth).trans hwidth,
      (State.hpUp_get hfits kide).trans hide, State.hpUp_evStat hfits⟩
  · subst hu
    exact congrArg Host.Outcome.next ((if_pos hlink).trans (if_neg (by simp [hfits])))
  · subst hv
    exact congrArg Host.Outcome.next (State.write_fx (isReg_hpCtrl h) ht (State.effect_hpCtrl ..))
  · exact congrArg Host.Outcome.next ((if_pos hlink).trans ((State.mpUp_fits caps _ hu hfits).1 gib rfl hmode))
  · exact congrArg Host.Outcome.next ((if_pos hlink).trans ((State.mpUp_fits caps _ hu hfits).2 rfl hmode))
  · subst hv
    exact congrArg Host.Outcome.next (State.write_fx (isReg_mpCtrl m) ht (State.effect_mpCtrl ..))
  · exact congrArg Host.Outcome.next ((if_pos hport).trans ((if_neg hlow).trans (if_pos hdeep)))
  · exact congrArg Host.Outcome.next ((if_pos hport).trans ((if_neg hlow).trans (if_neg hdeep)))

end Sys2Proof.Machine
end

section
/-! Bindings, fences and the traffic between hosts and functions (R184, R190-R193, R197, R198). -/

namespace Sys2Proof.Machine

theorem State.bindStart_err {s : State} {b : BindReq} {e : Nat} (he : s.bindErr b.h b.host b.vdsp b.src b.id b.base b.size b.dev = some e) :
    s.bindStart b = s.complete b.h b.seq e 0 := by
  simp only [State.bindStart, State.bindNow, he]
  rfl

theorem State.bindStart_now {s : State} {b : BindReq} (he : s.bindErr b.h b.host b.vdsp b.src b.id b.base b.size b.dev = none)
    (hdeep : s.get (F.LSTATE_STATE b.host) ≠ 4) :
    s.bindStart b = s.bind b.h b.seq b.host (b.vdsp - 1) b.src b.id b.base b.size b.dev := by
  unfold State.bindStart
  rw [if_neg (by simp [hdeep])]
  simp only [State.bindNow, he]

/-- A host's link in DEEP leaves it before the binding is made. -/
theorem State.bindStart_deep {s : State} {b : BindReq} (he : s.bindErr b.h b.host b.vdsp b.src b.id b.base b.size b.dev = none)
    (hdeep : s.get (F.LSTATE_STATE b.host) = 4) :
    s.bindStart b = (s.exitLink b.host).mapPort (fun p => { p with binds := p.binds ++ [b] }) := by
  unfold State.bindStart
  rw [if_pos (by simp [he, hdeep])]

theorem exec_fenceComplete {s : State} {h : Fin 32} {q : Word} {f : Fence}
    (hf : s.port.fences.find? (fun f => f.host == h.val && f.seq == q.toNat) = some f) :
    exec (.fenceComplete h q) s = .next (if s.fenceWaits f then s else s.fenceDone f) := by
  refine congrArg Host.Outcome.next ?_
  rw [hf]

/-- With no write on its way to an expander, none is to be taken from its initiator. -/
theorem exec_targetError {s : State} (i : BitVec 9) (q : Word) (g : TargetLog) (hw : s.pool.writes = []) : exec (.targetError i q g) s =
    .next (((s.mapPool (fun p => { p with writes := [] })).mapPort
      (fun p => { p with errLog := tset p.errLog g.port g.span })).dropWrite i.toNat q.toNat g.port 0x25 g.span.len.toNat g.span.addr.toNat) := by
  show execTargetError i q g s = _
  simp only [execTargetError, State.mapPool, hw, List.map_nil]

/-- A function that is PRESENT is sent its host's requests. -/
theorem exec_hostFunctionRequest {s : State} {h : Fin 32} {d : Fin 16} (tag : BitVec 16) (posted : Bool) (st : FnReq)
    (hbound : s.get (F.VDSP_STAT_STATE h d) = 1) : exec (.hostFunctionRequest h d tag posted st) s = .next (s.fnReq h d tag.toNat posted st) :=
  congrArg Host.Outcome.next (if_pos (Or.inl hbound))

theorem State.fnReq_done {s : State} (h d tag : Nat) (w : TlpSpan) (hup : s.shut = false) : s.fnReq h d tag false (.done w) = s.toFn h d false w := by
  simp [State.fnReq, hup]

theorem State.fnReq_sent {s : State} (h d tag : Nat) (w : TlpSpan) (hup : s.shut = false) :
    s.fnReq h d tag false (.sent w) = (s.toFn h d false w).mapPort (fun p => { p with np := p.np ++ [(h, d, tag)] }) := by
  simp [State.fnReq, hup]

theorem State.fnReq_posted {s : State} (h d tag : Nat) (w : TlpSpan) (hup : s.shut = false) : s.fnReq h d tag true (.sent w) =
    ((s.toFn h d true w).takeSeq h).mapPort (fun p => { p with wtrack := p.wtrack ++
      [⟨h, s.nextSeq h, s.srcPort h d, 1, s.get (F.VDSP_STAT_SLOT h d) + 1, w.addr.toNat, w.len.toNat⟩] }) := by
  simp [State.fnReq, hup]

/-- Settles O41. -/
theorem bindingCommandsAct : Obligations.BindingCommandsAct := by
  refine ⟨fun s h q host vdsp src id b z d hruns => ⟨fun e he => ?_, fun he => ⟨fun hdeep => ?_, fun hdeep => ?_⟩⟩,
    fun s h q host vdsp slot g f hruns => congrArg Host.Outcome.next (if_pos hruns),
    fun s h d hst => ⟨congrArg Host.Outcome.next (if_pos hst), congrArg Host.Outcome.next (if_pos hst)⟩,
    fun s h q i g hruns => congrArg Host.Outcome.next (if_pos hruns),
    fun s h q f hf => ⟨fun hw => (exec_fenceComplete hf).trans (congrArg Host.Outcome.next (if_pos hw)),
      fun hw => (exec_fenceComplete hf).trans (congrArg Host.Outcome.next (if_neg (by simp [hw])))⟩,
    fun s i q g hw => exec_targetError i q g hw,
    fun s h d tag w hst hup => ⟨⟨_, (exec_hostFunctionRequest tag false _ hst).trans (congrArg Host.Outcome.next (State.fnReq_done h d tag.toNat w hup)),
        rfl, rfl⟩,
      (exec_hostFunctionRequest tag false _ hst).trans (congrArg Host.Outcome.next (State.fnReq_sent h d tag.toNat w hup)),
      (exec_hostFunctionRequest tag true _ hst).trans (congrArg Host.Outcome.next (State.fnReq_posted h d tag.toNat w hup)),
      fun q => exec_hostFunctionRequest tag true _ hst⟩⟩
  · exact congrArg Host.Outcome.next ((if_pos hruns).trans (State.bindStart_err he))
  · exact congrArg Host.Outcome.next ((if_pos hruns).trans (State.bindStart_now he hdeep))
  · exact congrArg Host.Outcome.next ((if_pos hruns).trans (State.bindStart_deep he hdeep))

end Sys2Proof.Machine
end

section
/-! PLLs (R206, R207, R413) and the lane sequencer (R211, R212). -/

namespace Sys2Proof.Machine

/-! ### Losses and returns of PLLs -/

theorem pllF_keys_ne (m : Nat) (k : Fin 2) : (pllF m (1 - k : Nat)).key ≠ (pllF m k).key := by
  have hab : (F.MAC_STAT_PLL_B m).key ≠ (F.MAC_STAT_PLL_A m).key := by
    simp only [F.MAC_STAT_PLL_A, F.MAC_STAT_PLL_B, Fld.key]
    omega
  match k with
  | 0 => exact hab
  | 1 => exact hab.symm

/-- One PLL of a pair loses lock. -/
theorem exec_pllLockLoss_one {s : State} {m : Fin 80} {pll : Fin 2} (h : s.get (pllF m pll) = 0) : exec (.pllLockLoss m pll false) s =
    .next (if (s.pllLost m pll).noPll m then (s.pllLost m pll).macroDead m
      else if s.get (F.MAC_STAT_ACTIVE m) = pll then (s.pllLost m pll).pllSwitch m else s.pllLost m pll) :=
  congrArg Host.Outcome.next (if_neg (by simp [h]))

/-- Both PLLs of a pair lose lock in the same cycle. -/
theorem exec_pllLockLoss_both {s : State} {m : Fin 80} {pll : Fin 2} (h : s.get (pllF m pll) = 0) (hother : s.get (pllF m (1 - pll : Nat)) = 0) :
    exec (.pllLockLoss m pll true) s = .next (if ((s.pllLost m pll).pllLost m (1 - pll)).noPll m then
      ((s.pllLost m pll).pllLost m (1 - pll)).macroDead m else if s.get (F.MAC_STAT_ACTIVE m) = pll then
      ((s.pllLost m pll).pllLost m (1 - pll)).pllSwitch m else (s.pllLost m pll).pllLost m (1 - pll)) := by
  show execPllLockLoss m pll true s = _
  simp only [execPllLockLoss, h, hother]
  rfl

/-- A PLL of a pair returns: as standby, or in the exit from DEEP. -/
theorem exec_pllReturn_macro {s : State} {m : Fin 81} {pll : Fin 2} (hm : m.val < 80) (hret : s.get (pllF m pll) = 1) :
    (s.deepLeaves m = false → s.get (pllF m (1 - pll : Nat)) = 0 → exec (.pllReturn m pll) s = .next (s.set (pllF m pll) 0)) ∧
    (s.deepLeaves m = true → exec (.pllReturn m pll) s =
      .next (if s.get (pllF m (1 - pll : Nat)) = 0 then (s.set (pllF m pll) 0).seqFree m else s.set (pllF m pll) 0)) := by
  have hmacro : ¬m.val = 80 := by omega
  refine ⟨fun hawake hother => congrArg Host.Outcome.next ((if_neg hmacro).trans ((if_neg (by simp [hawake])).trans (if_pos ⟨hret, hother⟩))),
    fun hdeep => congrArg Host.Outcome.next ((if_neg hmacro).trans ((if_pos ⟨hret, hdeep⟩).trans ?_))⟩
  show (if (s.set (pllF m pll) 0).get (pllF m (1 - pll)) = 0 then _ else _) = _
  rw [State.get_set_ne _ _ (pllF_keys_ne m pll)]

theorem exec_pllRetry_host {s : State} {m : Fin 32} {k : Fin 2} (hnone : s.noPll m = true) (hlost : s.get (pllF m k) = 1)
    (hawake : s.deepLeaves m = false) : exec (.pllRetry (m.castLE (by decide)) (some k)) s =
      .next ((((s.set (pllF m k) 0).set (F.MAC_STAT_ACTIVE m) k).set (F.HP_STAT_LINK m) 1).beginTrain m) := by
  have hport : macroPort m.val = m.val := if_pos m.isLt
  show execPllRetry (m.castLE (by decide)) (some k) s = _
  simp only [execPllRetry, Fin.val_castLE, hnone, hlost, hawake, hport, m.isLt, and_self, if_true]

theorem isReg_macCtrl : isReg 0x1220080 .lane32 0 0x80 0 (.win .lwMacro) = true := by decide

/-- A tap of a lane at a limit of its range begins an episode, unless one runs (R210). -/
theorem exec_tapRail {s t : State} {m : Fin 80} {lane : Fin 4} {x : Macro} (hx : tget {} t.link.macros m = x)
    (ht : t = s.tapsMove (4 * m.val + lane)) (hlane : lane.val < macroLanes m)
    (hrail : t.atRail (4 * m.val + lane) = true) : exec (.tapRail m lane) s = .next (if x.railed.contains lane.val then t
      else ((t.set (F.LN_STAT_RAIL (4 * m + lane)) 1).setMacro m { x with railed := lane.val :: x.railed }).laneEv 5 m lane) := by
  subst ht hx
  exact congrArg Host.Outcome.next (if_neg (by simp [hrail]; exact hlane))

/-- Settles O42. -/
theorem pllCommandsAct : Obligations.PllCommandsAct := by
  refine ⟨fun s m pll h => ⟨fun hnone => (exec_pllLockLoss_one h).trans (congrArg Host.Outcome.next (if_pos hnone)),
      fun hsome => (exec_pllLockLoss_one h).trans (congrArg Host.Outcome.next (if_neg (by simp [hsome])))⟩,
    fun s m pll h hother => exec_pllLockLoss_both h hother, fun s p m v hm hv ht => ?_,
    fun s m pll hm hret => ⟨(exec_pllReturn_macro hm hret).1,
      fun hdeep hother => ((exec_pllReturn_macro hm hret).2 hdeep).trans (congrArg Host.Outcome.next (if_pos hother)),
      fun hdeep hother => ((exec_pllReturn_macro hm hret).2 hdeep).trans (congrArg Host.Outcome.next (if_neg hother))⟩,
    fun s pll hret hother => congrArg Host.Outcome.next ((if_pos rfl).trans (if_pos ⟨hret, hother⟩)), fun s m => rfl,
    fun s m k hnone hlost hawake => exec_pllRetry_host hnone hlost hawake,
    fun s t m lane ht hlane => ⟨fun hrail hfirst => (exec_tapRail rfl ht hlane hrail).trans
        (congrArg Host.Outcome.next (if_neg fun h => Bool.false_ne_true (hfirst.symm.trans h))),
      fun hrail hagain => (exec_tapRail rfl ht hlane hrail).trans (congrArg Host.Outcome.next (if_pos hagain)), fun hfree => ?_⟩,
    fun s port => ⟨fun hport => congrArg Host.Outcome.next (if_pos hport), fun hport => congrArg Host.Outcome.next (if_neg (by omega))⟩,
    fun s t port hport hdeep ht => ?_⟩
  · subst hm hv
    exact congrArg Host.Outcome.next (State.write_fx isReg_macCtrl ht rfl)
  · subst ht
    exact congrArg Host.Outcome.next (if_pos (Or.inr hfree))
  · rw [ht]
    exact congrArg Host.Outcome.next ((if_pos hport).trans (congrArg (State.bindsGo · port) (if_pos hdeep)))

/-! ### The sequencer's commands (R211, R212) -/

theorem isReg_seqCtrl : isReg 0x122008C .lane32 0 0x8C 0 (.win .lwMacro) = true := by decide

theorem isReg_seqCmd : isReg 0x1220098 .lane32 0 0x98 0 (.win .lwMacro) = true := by decide

/-- What a stored write of SEQ_CTRL does. -/
theorem State.effect_seqCtrl (s s0 : State) (w p v : Nat) : s.effect s0 ⟨.lane32, 0, 0x8C, 0, w, p, v⟩ =
    if hasBit v 1 then s.seqStop w else if hasBit v 0 then s.seqStart w (bits v 16 6) else s := rfl

/-- The word that starts a program at a step. -/
theorem startWord_bits (step : Fin 64) : hasBit (65536 * step.val + 1) 1 = false ∧ hasBit (65536 * step.val + 1) 0 = true ∧
    bits (65536 * step.val + 1) 16 6 = step.val := by
  revert step
  decide

/-- The word that stops a program, whatever START_STEP holds. -/
theorem stopWord_bit (k : Nat) : hasBit (65536 * k + 2) 1 = true := by
  unfold hasBit
  simp
  omega

theorem State.effect_seqStart (s s0 : State) (w p : Nat) (step : Fin 64) :
    s.effect s0 ⟨.lane32, 0, 0x8C, 0, w, p, 65536 * step.val + 1⟩ = s.seqStart w step := by
  obtain ⟨hstop, hstart, hstep⟩ := startWord_bits step
  rw [State.effect_seqCtrl, hstop, hstart, hstep]
  rfl

theorem State.effect_seqStop (s s0 : State) (w p k : Nat) : s.effect s0 ⟨.lane32, 0, 0x8C, 0, w, p, 65536 * k + 2⟩ = s.seqStop w :=
  (State.effect_seqCtrl ..).trans (if_pos (stopWord_bit k))

/-- A dock port's lanes take their rate as the port's rate in force (R201, R212). -/
theorem State.macroRate_dock {s u : State} {m x r : Nat} (hdock : 64 ≤ m) (hr : r = x % 16 % 4)
    (hu : u = ((s.tapsStop m).sets [(F.MAC_STAT_RATE m, r), (F.DL_STAT_RATE (m - 64), r)]).mapTrain (m - 64) (fun t => { t with txRate := r })) :
    s.macroRate m (x % 16) = if (s.lk (m - 64)).train.on && !(s.lk (m - 64)).train.flitTx then u.dockSends (m - 64) 1 r (s.lk (m - 64)).train.mask
      else if s.get (F.DL_STAT_STAGE (m - 64)) = 8 then u.dockSends (m - 64) 2 r (s.get (F.DL_STAT_WIDTH (m - 64))) else u := by
  subst hr hu
  exact if_neg (by omega)

/-- The step that the sequencer is ready to run does what its OP says, on its operand. -/
theorem seqOp_next {s t : State} {m op x : Nat} (f : State → Nat → State) (hready : s.seqReady m = true) (hx : s.seqWord m % 2 ^ 23 = x)
    (hop : s.seqWord m / 2 ^ 27 = op) (hf : f s x = t) : (Host.Outcome.next (s.seqOp m op f) : Res) = .next t :=
  congrArg Host.Outcome.next ((State.seqOp_ready f hready hop).trans (by rw [hx, hf]))

/-- Settles O43. -/
theorem sequencerStepsAct : Obligations.SequencerStepsAct := by
  refine ⟨fun s p step ht => congrArg Host.Outcome.next (State.write_fx isReg_seqCtrl ht (State.effect_seqStart ..)), fun s p m v hm hv ht => ?_,
    fun s p next ht => congrArg Host.Outcome.next (State.write_fx isReg_seqCmd ht rfl), fun s u m x r hready hdock hx hr hop hu => ?_,
    fun s m x hready _ hx => ⟨fun hop => seqOp_next _ hready hx hop rfl, fun hop => seqOp_next _ hready hx hop rfl,
      fun hop hhost => seqOp_next _ hready hx hop (congrArg (State.seqNext · m) (if_pos hhost)), fun hop => seqOp_next _ hready hx hop rfl,
      fun hop => seqOp_next _ hready hx hop rfl, fun hop => seqOp_next _ hready hx hop rfl, fun hop => seqOp_next _ hready hx hop rfl,
      fun hop => seqOp_next _ hready hx hop rfl, fun hop => seqOp_next _ hready hx hop rfl, fun hop => seqOp_next _ hready hx hop (congrArg (s.set _) (Nat.mod_mod ..)),
      fun hop => seqOp_next _ hready hx hop rfl,
      fun hop => congrArg Host.Outcome.next (if_pos (by simp only [hready, hop, decide_true, Bool.and_self]))⟩,
    fun s m hwait hheld => congrArg Host.Outcome.next (if_pos ⟨hwait, hheld⟩),
    fun s m hwait hheld => ⟨fun hmet => congrArg Host.Outcome.next (if_pos ⟨hwait, hheld, hmet⟩),
      fun hmet => congrArg Host.Outcome.next (if_neg (by simp [hmet])), congrArg Host.Outcome.next (if_pos ⟨hwait, hheld⟩)⟩⟩
  · subst hm hv
    exact congrArg Host.Outcome.next (State.write_fx isReg_seqCtrl ht (State.effect_seqStop ..))
  · exact seqOp_next _ hready hx hop (congrArg (State.seqNext · m) (State.macroRate_dock hdock hr hu))

end Sys2Proof.Machine
end

section
/-! Training of dock lanes, the loupe, the audit and the injector (R214-R227). -/

namespace Sys2Proof.Machine

/-! ### Training (R214-R221) -/

theorem isReg_dlCmd (n : Fin 16) : isReg (0x400060 + 0x10000 * n.val) .dport0 n 0x60 0 .plain = true := by
  revert n
  decide

/-- What a stored write of DL_CMD does. -/
theorem State.effect_dlCmd (s s0 : State) (n w p v : Nat) : s.effect s0 ⟨.dport0, n, 0x60, 0, w, p, v⟩ =
    if hasBit v 8 then (if hasBit v 1 then (if hasBit v 0 then s.slip n 0 else s).slip n 1 else if hasBit v 0 then s.slip n 0 else s).dlRestart n
    else if hasBit v 1 then (if hasBit v 0 then s.slip n 0 else s).slip n 1 else if hasBit v 0 then s.slip n 0 else s := rfl

theorem State.effect_slip (s s0 : State) (n w p : Nat) (lane : Fin 2) :
    s.effect s0 ⟨.dport0, n, 0x60, 0, w, p, 2 ^ lane.val⟩ = s.slip n lane := by
  match lane with
  | 0 => exact State.effect_dlCmd ..
  | 1 => exact State.effect_dlCmd ..

theorem State.effect_dlRestart (s s0 : State) (n w p : Nat) : s.effect s0 ⟨.dport0, n, 0x60, 0, w, p, 256⟩ = s.dlRestart n := State.effect_dlCmd ..

/-! ### The loupe (R222, R223) -/

theorem isReg_eyeCtrl : isReg 0x122011C .lane32 0 0x11C 0 (.win .lwLane) = true := by decide

/-- What a stored write of EYE_CTRL does. -/
theorem State.effect_eyeCtrl (s s0 : State) (w p v : Nat) : s.effect s0 ⟨.lane32, 0, 0x11C, 0, w, p, v⟩ =
    if hasBit v 30 then s.eyeAbort w 3 else if hasBit v 31 then s.eyeGo w else s := rfl

/-- Clearing the bit below leaves bit 31 as it is. -/
theorem hasBit_top_putBit_below (v : Nat) : hasBit (putBit v 30 false) 31 = hasBit v 31 := by
  unfold putBit
  split
  · next h =>
    have hset : v / 2 ^ 30 % 2 = 1 := by simpa [hasBit] using h
    have hsame : (v - 2 ^ 30) / 2 ^ 31 = v / 2 ^ 31 := by omega
    unfold hasBit
    simp only [Bool.false_eq_true, if_false, hsame]
  · rfl

theorem State.effect_eyeGo (s s0 : State) (w p v : Nat) :
    s.effect s0 ⟨.lane32, 0, 0x11C, 0, w, p, putBit (putBit v 31 true) 30 false⟩ = s.eyeGo w := by
  rw [State.effect_eyeCtrl, if_neg (by simp [hasBit_putBit_same]), if_pos ((hasBit_top_putBit_below _).trans (hasBit_putBit_same v 31 true))]

theorem eye_keys_ne (w : Nat) : (F.EYE_STAT_BUSY w).key ≠ (F.EYE_STAT_ABORT w).key ∧ (F.EYE_STAT_BUSY w).key ≠ (F.EYE_CTRL_GO w).key ∧
    (F.EYE_STAT_BUSY w).key ≠ (F.LN_STAT_LOUPE w).key ∧ (F.EYE_STAT_ABORT w).key ≠ (F.EYE_CTRL_GO w).key ∧
    (F.EYE_STAT_ABORT w).key ≠ (F.LN_STAT_LOUPE w).key := by
  simp only [F.EYE_STAT_BUSY, F.EYE_STAT_ABORT, F.EYE_CTRL_GO, F.LN_STAT_LOUPE, Fld.key]
  omega

theorem eyeErr_keys_ne (w : Nat) : (F.EYE_ERR_LO_COUNT w).key ≠ (F.EYE_ERR_HI_COUNT w).key ∧
    (∀ p ∈ [(F.EYE_STAT_BUSY w, 0), (F.EYE_STAT_ABORT w, 0), (F.EYE_CTRL_GO w, 0), (F.LN_STAT_LOUPE w, 0)],
      (F.EYE_ERR_LO_COUNT w).key ≠ p.1.key ∧ (F.EYE_ERR_HI_COUNT w).key ≠ p.1.key) := by
  simp only [List.mem_cons, List.not_mem_nil, or_false, forall_eq_or_imp, forall_eq, F.EYE_ERR_LO_COUNT, F.EYE_ERR_HI_COUNT, F.EYE_STAT_BUSY,
    F.EYE_STAT_ABORT, F.EYE_CTRL_GO, F.LN_STAT_LOUPE, Fld.key]
  omega

/-- A field that no lane event logs. -/
def notLogged (f : Fld) : Prop := f.key ≠ F.LW_LOG_KIND.key ∧ f.key ≠ F.LW_LOG_LANE.key ∧ f.key ≠ F.LW_LOG_MACRO.key

theorem State.laneEv_get {f : Fld} (h : notLogged f) (s : State) (bit m l : Nat) : (s.laneEv bit m l).get f = s.get f := by
  obtain ⟨hkind, hlane, hmacro⟩ := h
  exact (State.raise_get ..).trans (State.sets_get_ne (by simp [hkind, hlane, hmacro]) s)

theorem eye_notLogged (w : Nat) : notLogged (F.EYE_ERR_LO_COUNT w) ∧ notLogged (F.EYE_ERR_HI_COUNT w) ∧ notLogged (F.EYE_STAT_BUSY w) ∧
    notLogged (F.EYE_STAT_ABORT w) ∧ notLogged (F.LN_STAT_LOUPE w) := by
  simp only [notLogged, F.EYE_ERR_LO_COUNT, F.EYE_ERR_HI_COUNT, F.EYE_STAT_BUSY, F.EYE_STAT_ABORT, F.LN_STAT_LOUPE, F.LW_LOG_KIND, F.LW_LOG_LANE,
    F.LW_LOG_MACRO, Fld.key]
  omega

/-- A scan of lane `w` that has ended with its count of errors. -/
def State.eyeDone (s : State) (w errs : Nat) : State :=
  (s.set64 (F.EYE_ERR_LO_COUNT w) (F.EYE_ERR_HI_COUNT w) errs).sets
    [(F.EYE_STAT_BUSY w, 0), (F.EYE_STAT_ABORT w, 0), (F.EYE_CTRL_GO w, 0), (F.LN_STAT_LOUPE w, 0)]

theorem State.eyeDone_errs (s : State) (w : Nat) {errs : Nat} (h : errs < 2 ^ 64) :
    (s.eyeDone w errs).get64 (F.EYE_ERR_LO_COUNT w) (F.EYE_ERR_HI_COUNT w) = errs := by
  obtain ⟨hne, hothers⟩ := eyeErr_keys_ne w
  have hlo := State.sets_get_ne (fun p hp => (hothers p hp).1) (s.set64 (F.EYE_ERR_LO_COUNT w) (F.EYE_ERR_HI_COUNT w) errs)
  have hhi := State.sets_get_ne (fun p hp => (hothers p hp).2) (s.set64 (F.EYE_ERR_LO_COUNT w) (F.EYE_ERR_HI_COUNT w) errs)
  refine Eq.trans ?_ (State.get64_set64 s rfl rfl hne h)
  unfold State.get64 State.eyeDone
  rw [hlo, hhi]

theorem State.eyeDone_stat (s : State) (w errs : Nat) : (s.eyeDone w errs).get (F.EYE_STAT_BUSY w) = 0 ∧
    (s.eyeDone w errs).get (F.EYE_STAT_ABORT w) = 0 ∧ (s.eyeDone w errs).get (F.LN_STAT_LOUPE w) = 0 := by
  obtain ⟨hba, hbg, hbl, hag, hal⟩ := eye_keys_ne w
  unfold State.eyeDone
  refine ⟨?_, ?_, ?_⟩
  · rw [State.sets_get_head (by simp [hba, hbg, hbl])]
    rfl
  · rw [State.sets_cons, State.sets_get_head (by simp [hag, hal])]
    rfl
  · rw [State.sets_cons, State.sets_cons, State.sets_cons, State.sets_get_head (by simp)]
    rfl

theorem laneEvent_source : (evSrc 3908).isSome = true := by decide

/-! ### The audit (R224, R225) -/

theorem lane_of_index (m : Fin 80) (lane : Fin 4) : (4 * m.val + lane) / 4 = m.val := by omega

/-- An audit that is due, while no scan runs, from where it stands. -/
theorem exec_audit {s : State} {m : Fin 80} {lane : Fin 4} (mism : List Nat) (badCal : BitVec 8) (hlane : lane.val < macroLanes m)
    (hperiod : s.get (F.AUDIT_CFG_PERIOD_MS m) ≠ 0) (hlive : s.laneLive m = true) (hidle : s.on (F.EYE_STAT_BUSY (4 * m.val + lane)) = false)
    (hfirst : s.auditAt (4 * m.val + lane) = 0) : exec (.audit m lane mism badCal) s =
      .next ((s.auditFrom (4 * m.val + lane) 0 mism badCal.toNat).auditTo (4 * m.val + lane) (0 + mism.length)) := by
  show execAudit m lane mism badCal s = _
  unfold execAudit
  dsimp only
  rw [hfirst, if_pos (by simp [hlane, hperiod, hlive, hidle])]

/-- Two steps that agree on a list's members fold it alike. -/
theorem foldl_congr_mem {α β : Type} {f g : β → α → β} {l : List α} (h : ∀ u, ∀ k ∈ l, f u k = g u k) (s : β) : l.foldl f s = l.foldl g s := by
  induction l generalizing s with
  | nil => rfl
  | cons k l ih =>
    rw [List.foldl_cons, List.foldl_cons, h s k List.mem_cons_self]
    exact ih (fun u j hj => h u j (List.mem_cons_of_mem k hj)) _

/-- An audit that brings all eight slices looks at each of them. -/
theorem State.auditFrom_all (s : State) (m : Fin 80) (lane : Fin 4) {mism : List Nat} (badCal : Nat) (hlen : mism.length = 8) :
    s.auditFrom (4 * m.val + lane) 0 mism badCal = (List.range 8).foldl (fun s k =>
      if s.get (F.AUDIT_CFG_SLICE_LIMIT m) < mism.getD k 0 ∨ hasBit badCal k then s.samplerFail (4 * m.val + lane) k else s) s := by
  unfold State.auditFrom
  refine foldl_congr_mem (fun u k hk => ?_) s
  have hk8 : k < 0 + mism.length := by
    have := List.mem_range.mp hk
    omega
  simp only [lane_of_index, hk8, Nat.zero_le, true_and, Nat.sub_zero]

/-- An audit that finds none of its slices at fault changes nothing. -/
theorem State.auditFrom_good (s : State) (m : Fin 80) (lane : Fin 4) {mism : List Nat} {badCal : Nat}
    (hgood : ∀ k, k < mism.length → mism.getD k 0 ≤ s.get (F.AUDIT_CFG_SLICE_LIMIT m) ∧ hasBit badCal k = false) :
    s.auditFrom (4 * m.val + lane) 0 mism badCal = s := by
  unfold State.auditFrom
  have hkept : ∀ k, (if 0 ≤ k ∧ k < 0 + mism.length ∧
      (s.get (F.AUDIT_CFG_SLICE_LIMIT ((4 * m.val + lane) / 4)) < mism.getD (k - 0) 0 ∨ hasBit badCal k) then s.samplerFail (4 * m.val + lane) k else s) = s := by
    intro k
    refine if_neg ?_
    rintro ⟨-, hk, hbad⟩
    obtain ⟨hlimit, hcal⟩ := hgood k (by omega)
    rw [lane_of_index, Nat.sub_zero, hcal] at hbad
    exact hbad.elim (fun hover => absurd hover (Nat.not_lt.mpr hlimit)) (fun h => Bool.false_ne_true h)
  induction List.range 8 with
  | nil => rfl
  | cons k l ih => rw [List.foldl_cons, hkept k, ih]

/-- An audit of a lane whose loupe does not spare, and that holds back no GO, shows whether it stands before a slice. -/
theorem State.auditTo_shown {s : State} {w k : Nat} (hfree : s.get (F.LN_STAT_LOUPE w) ≠ 3) (hgo : s.on (F.EYE_CTRL_GO w) = false) :
    s.auditTo w k = (s.setAudit w (if k < 8 then k else 0)).set (F.LN_STAT_LOUPE w) (b2n (decide (k < 8))) := by
  have hshown : (s.get (F.LN_STAT_LOUPE w) != 3) = true := by simpa using hfree
  unfold State.auditTo
  simp [hfree, hgo, hshown]

theorem State.auditAt_setAudit (s : State) (w k : Nat) : (s.setAudit w k).auditAt w = k := (tget_tput ..).trans (if_pos rfl)

/-- An audit that finds none of its slices at fault, of a lane whose loupe does not spare and that holds back no GO. -/
theorem exec_audit_good {s : State} {m : Fin 80} {lane : Fin 4} {mism : List Nat} {badCal : BitVec 8} (hlane : lane.val < macroLanes m)
    (hperiod : s.get (F.AUDIT_CFG_PERIOD_MS m) ≠ 0) (hlive : s.laneLive m = true) (hidle : s.on (F.EYE_STAT_BUSY (4 * m.val + lane)) = false)
    (hfirst : s.auditAt (4 * m.val + lane) = 0) (hfree : s.get (F.LN_STAT_LOUPE (4 * m.val + lane)) ≠ 3)
    (hgo : s.on (F.EYE_CTRL_GO (4 * m.val + lane)) = false)
    (hgood : ∀ k, k < mism.length → mism.getD k 0 ≤ s.get (F.AUDIT_CFG_SLICE_LIMIT m) ∧ hasBit badCal.toNat k = false) :
    exec (.audit m lane mism badCal) s = .next ((s.setAudit (4 * m.val + lane) (if mism.length < 8 then mism.length else 0)).set
      (F.LN_STAT_LOUPE (4 * m.val + lane)) (b2n (decide (mism.length < 8)))) := by
  rw [exec_audit mism badCal hlane hperiod hlive hidle hfirst, State.auditFrom_good s m lane hgood, State.auditTo_shown hfree hgo, Nat.zero_add]

/-! ### The injector (R227) -/

theorem isReg_injCtrl : isReg 0x122013C .lane32 0 0x13C 0 (.win .lwLane) = true := by decide

/-- ONE is sent where the generator drives; a near loop's checker counts it. -/
theorem State.laneFx_inject {t s : State} {w p v : Nat} (hone : hasBit v 8 = true) (hdrives : t.genDrives w = true)
    (hrate : t.get (F.INJ_CTRL_RATE_LOG2 w) = s.get (F.INJ_CTRL_RATE_LOG2 w)) : t.laneFx s ⟨.lane32, 0, 0x13C, 0, w, p, v⟩ =
      if t.nearLoop w && t.on (F.PRBS_CTRL_CHK_EN w) then (t.emit (.inject (w / 4) (t.ballOf w))).sat (F.PRBS_ERR_COUNT w)
      else t.emit (.inject (w / 4) (t.ballOf w)) := by
  unfold State.laneFx
  simp [hone, hdrives, hrate]

/-- Settles O45. -/
theorem trainingCommandsAct : Obligations.TrainingCommandsAct := by
  refine ⟨fun s n lane f hwide => congrArg Host.Outcome.next (if_neg (by simp [hwide])),
    fun s n f hwiden => congrArg Host.Outcome.next (if_pos (by simp [hwiden])),
    fun s p n lane ht => congrArg Host.Outcome.next (State.write_fx (isReg_dlCmd n) ht (State.effect_slip ..)),
    fun s p n ht => congrArg Host.Outcome.next (State.write_fx (isReg_dlCmd n) ht (State.effect_dlRestart ..)),
    fun s n hon hready => ⟨fun hrate => ?_, fun hrate => congrArg Host.Outcome.next (if_pos (by simp [hon, hrate, hready]))⟩,
    fun s n hsilent => congrArg Host.Outcome.next (if_pos hsilent),
    fun s n lane hon hmask hstage hready => congrArg Host.Outcome.next (if_pos (by simp [hon, hmask, hstage, hready])),
    fun s p value w v hw hv ht => ?_, fun s p w v hw hv ht hstop => ?_, fun s m lane errs hbusy => ⟨_, congrArg Host.Outcome.next (if_pos hbusy), ?_⟩,
    fun s m lane mism badCal hlane hperiod hlive hidle => ⟨fun hfirst hlen => ⟨?_, fun hcal hlimit hfree hgo => ?_⟩, fun hfirst hnone hloupe hgo => ?_⟩,
    fun s m lane mism badCal hbusy => congrArg Host.Outcome.next (if_neg (by simp [hbusy])),
    fun s t p w v hw hv hone ht hstored => ⟨?_, fun hdrives hrate => State.laneFx_inject hone hdrives hrate⟩⟩
  · refine congrArg Host.Outcome.next (if_pos ?_)
    rcases hrate with h | h <;> simp [hon, hready, h]
  · subst hw hv
    exact congrArg Host.Outcome.next (State.write_fx isReg_eyeCtrl ht (State.effect_eyeGo ..))
  · subst hw hv
    exact congrArg Host.Outcome.next (State.write_fx isReg_eyeCtrl ht ((State.effect_eyeCtrl ..).trans (if_pos hstop)))
  · obtain ⟨hlo, hhi, hbusyLog, habortLog, hloupeLog⟩ := eye_notLogged (4 * m.val + lane)
    obtain ⟨hdone, habort, hloupe⟩ := s.eyeDone_stat (4 * m.val + lane) errs.toNat
    have herrs := s.eyeDone_errs (4 * m.val + lane) errs.isLt
    refine ⟨?_, (State.laneEv_get hbusyLog ..).trans hdone, (State.laneEv_get habortLog ..).trans habort, (State.laneEv_get hloupeLog ..).trans hloupe,
      State.raise_stands _ laneEvent_source⟩
    unfold State.get64 at herrs ⊢
    rw [State.laneEv_get hlo, State.laneEv_get hhi]
    exact herrs
  · rw [exec_audit mism badCal hlane hperiod hlive hidle hfirst, State.auditFrom_all s m lane badCal.toNat hlen, hlen]
  · subst hcal
    refine ⟨_, exec_audit_good hlane hperiod hlive hidle hfirst hfree hgo fun k _ => ⟨hlimit k, by simp [hasBit]⟩, ?_, ?_, fun f hf => State.get_set_ne _ _ hf⟩
    · rw [hlen]
      exact State.get_set ..
    · rw [hlen]
      exact State.auditAt_setAudit ..
  · subst hnone
    exact ⟨_, exec_audit_good hlane hperiod hlive hidle hfirst (by omega) hgo fun k hk => absurd hk (Nat.not_lt_zero k), State.get_set ..,
      fun f hf => State.get_set_ne _ _ hf⟩
  · subst hw hv hstored
    exact congrArg Host.Outcome.next (State.write_fx isReg_injCtrl ht rfl)

end Sys2Proof.Machine
end

section
/-! Flits and the link's timers (R233-R264). -/

namespace Sys2Proof.Machine

/-! ### The record of a dock link -/

theorem State.lk_setLk (s : State) (n : Nat) (k : Link) : (s.setLk n k).lk n = k := (tget_tset ..).trans (if_pos rfl)

theorem State.lk_mapLk (s : State) (n : Nat) (f : Link → Link) : (s.mapLk n f).lk n = f (s.lk n) := State.lk_setLk ..

/-! ### What a received flit meets (R236, R238, R241) -/

theorem State.rxFlit_closed {s : State} {n : Nat} (h : FlitHdr) (f : State → State) (hclosed : s.takesFlits n = false) : s.rxFlit n h f = s :=
  if_pos (by simp [hclosed])

theorem State.rxFlit_bad {s : State} {n : Nat} {h : FlitHdr} (f : State → State) (hopen : s.takesFlits n = true)
    (hbad : fecGood (wireErrs h) = false) : s.rxFlit n h f = s.crcBad n (rsFixes (wireErrs h)).length :=
  (if_neg (by simp [hopen])).trans (if_neg (by simp [hbad]))

theorem State.rxFlit_good {s v : State} {n : Nat} {h : FlitHdr} (f : State → State) (hopen : s.takesFlits n = true)
    (hgood : fecGood (wireErrs h) = true) (hv : v = s.sat (F.LK_FEC_CORR_COUNT n) (rsFixes (wireErrs h)).length) : s.rxFlit n h f = f v := by
  subst hv
  exact (if_neg (by simp [hopen])).trans (if_pos hgood)

theorem State.plainIn_closed {s : State} {n : Nat} (h : FlitHdr) (f : State → State) (hclosed : s.takesFlits n = false) : s.plainIn n h f = s := by
  unfold State.plainIn State.rxGood
  exact State.rxFlit_closed h _ hclosed

theorem State.plainIn_bad {s : State} {n : Nat} {h : FlitHdr} (f : State → State) (hopen : s.takesFlits n = true)
    (hbad : fecGood (wireErrs h) = false) : s.plainIn n h f = s.crcBad n (rsFixes (wireErrs h)).length := by
  unfold State.plainIn State.rxGood
  exact State.rxFlit_bad _ hopen hbad

/-- Before the partner's INIT has come a flit of the running link is only counted. -/
theorem State.rxGood_waits {s v : State} {n : Nat} {h : FlitHdr} (sequenced : Bool) (f : State → State) (hopen : s.takesFlits n = true)
    (hgood : fecGood (wireErrs h) = true) (hv : v = s.sat (F.LK_FEC_CORR_COUNT n) (rsFixes (wireErrs h)).length) (hwaits : v.takesSeq n = false) :
    s.rxGood n h sequenced f = v.rxTime n false :=
  (State.rxFlit_good _ hopen hgood hv).trans (if_pos (by simp [hwaits]))

/-- A good flit of the running link does its work after what every good flit brings. -/
theorem State.rxGood_works {s v u : State} {n : Nat} {h : FlitHdr} {sequenced : Bool} (f : State → State) (hopen : s.takesFlits n = true)
    (hgood : fecGood (wireErrs h) = true) (hv : v = s.sat (F.LK_FEC_CORR_COUNT n) (rsFixes (wireErrs h)).length) (hseq : v.takesSeq n = true)
    (hu : u = v.rxHead n h sequenced) (hup : u.lkState n ≠ 0) : s.rxGood n h sequenced f = f u := by
  subst hu
  exact (State.rxFlit_good _ hopen hgood hv).trans ((if_neg (by simp [hseq])).trans (if_neg hup))

/-! ### What the flits' work is -/

/-- A flit in error below half of its limit lowers no rate. -/
theorem State.crcBad_counted {s u : State} {n fixed : Nat}
    (hu : u = (((s.rxTime n true).sat (F.LK_FEC_CORR_COUNT n) fixed).sat (F.LK_CRC_FAIL_COUNT n)).nak n)
    (hfew : 2 * (u.lk n).winFail ≤ u.get (F.LK_LIMITS_CRC_LIMIT n)) : s.crcBad n fixed = u := by
  subst hu
  unfold State.crcBad
  dsimp only
  rw [if_neg (by omega), if_neg (by omega)]

/-- The work of a DATA or DATA_BAD flit that is next in order and has a credit (R242, R249). -/
def State.dataWork (n : Nat) (f : RxFlit) (s1 : State) : State :=
  if f.cls = 0 ∨ 6 ≤ f.cls then s1.protocol n
  else match s1.outOfOrder n f.seq with
  | some t => t
  | none =>
    let k := s1.lk n
    if k.left.getD (f.cls - 1) 0 = 0 then s1.protocol n
    else
      let s2 := s1.mapLk n (fun k => { k with left := setAt k.left (f.cls - 1) (k.left.getD (f.cls - 1) 0 - 1) })
      if s2.sealed n then (s2.acceptSeq n f.seq false).mapLk n (fun k => { k with staged := k.staged ++ [f] })
      else (s2.acceptSeq n f.seq true).handOn n f

theorem State.dataIn_eq (s : State) (n : Nat) (h : FlitHdr) (f : RxFlit) : s.dataIn n h f = s.rxGood n h true (State.dataWork n f) := rfl

theorem State.dataWork_accepted {u v : State} {n : Nat} {f : RxFlit} (hlow : 1 ≤ f.cls) (hhigh : f.cls ≤ 5) (hnext : u.outOfOrder n f.seq = none)
    (hcredit : (u.lk n).left.getD (f.cls - 1) 0 ≠ 0)
    (hv : v = u.mapLk n (fun k => { k with left := setAt k.left (f.cls - 1) (k.left.getD (f.cls - 1) 0 - 1) })) : State.dataWork n f u =
      if v.sealed n then (v.acceptSeq n f.seq false).mapLk n (fun k => { k with staged := k.staged ++ [f] }) else (v.acceptSeq n f.seq true).handOn n f := by
  subst hv
  unfold State.dataWork
  rw [if_neg (by omega), hnext]
  exact if_neg hcredit

/-- The SEAL of a group that carries the tag and the counter expected hands the group on (R253). -/
theorem State.sealIn_good {s x u v : State} {n : Nat} {h : FlitHdr} {tag : BitVec 128} {counter count : Nat} {key : Option Nat} {iv : List (BitVec 8)}
    (hopen : s.takesFlits n = true) (hgood : fecGood (wireErrs h) = true)
    (hx : x = s.sat (F.LK_FEC_CORR_COUNT n) (rsFixes (wireErrs h)).length) (hseq : x.takesSeq n = true) (hu : u = x.rxHead n h true)
    (hup : u.lkState n ≠ 0) (hnext : u.outOfOrder n h.seq.toNat = none) (hsealed : u.sealed n = true) (hc : counter = (u.lk n).sealRx)
    (hkey : key = u.slotKey (u.lk n).crypt.rxSlot) (hiv : iv = sealIv (u.lk n).crypt.saltRx (u.lk n).sealRx)
    (htag : tag = sealTag key iv (u.lk n).staged h.seq.toNat counter count)
    (hv : v = ((u.acceptSeq n h.seq.toNat true).sat (F.KS_USES_COUNT (u.lk n).crypt.rxSlot)).mapLk n (fun k =>
      { k with staged := [], sealRx := (k.sealRx + 1) % 2 ^ 64 })) : s.sealIn n h tag counter count = v.handGroup n key iv (u.lk n).staged := by
  subst hkey hiv hv
  refine (State.rxGood_works _ hopen hgood hx hseq hu hup).trans ?_
  dsimp only
  rw [hnext]
  exact (if_neg (by simp [hsealed])).trans (if_pos ⟨hc, htag⟩)

/-- The INIT that the hub waits for, from its partner and of its version (R238). -/
theorem State.initIn_first {v w : State} {n depth id : Nat} {enc : Bool} {credits : List Nat} (hinit : v.lkState n = 1) (hfirst : (v.lk n).initRx = false)
    (hcredits : credits.any (fun c => decide (511 < c)) = false) (hlow : 32 ≤ depth) (hhigh : depth ≤ 256)
    (hid : id = v.get64 (F.LK_PID_LO_ID n) (F.LK_PID_HI_ID n)) (hw : w = v.encAgreed n enc) (hup : w.lkState n ≠ 0) :
    v.initIn n 1 enc credits depth id = ((w.mapLk n (fun k => { k with
        initRx := true, pDepth := depth, left := k.offer, seen := [0, 0, 0, 0, 0], ret := [0, 0, 0, 0, 0], owe := [0, 0, 0, 0, 0] })).sets
      [(F.LK_AVAIL0_PCIE n, credits.getD 0 0), (F.LK_AVAIL0_ETH n, credits.getD 1 0), (F.LK_AVAIL1_DISP n, credits.getD 2 0),
       (F.LK_AVAIL1_SIG n, credits.getD 3 0), (F.LK_AVAIL2_MGMT n, credits.getD 4 0), (F.CH_INFO_STATE n (chW 5 0), 1),
       (F.CH_INFO_WORD n (chW 5 0), chWord (chW 5 0) 0)]).initDone n := by
  subst hw
  have hfits : ¬depth < 32 := by omega
  have hfits' : ¬256 < depth := by omega
  unfold State.initIn
  dsimp only
  rw [if_neg (by simp [hinit]), if_neg (by simp [hcredits, hfits, hfits', hid, hfirst]), if_neg (by simp [hfirst]), if_neg hup]

/-! ### Bytes on the lanes, bits on a lane (R204, R237) -/

/-- Two bytes further on, the lanes take turns as before. -/
theorem zipIdx_parity (l : List (BitVec 8)) (p k : Nat) : ((l.zipIdx (k + 2)).filter (fun x => x.2 % 2 == p)).map (fun x => x.1) =
    ((l.zipIdx k).filter (fun x => x.2 % 2 == p)).map (fun x => x.1) := by
  induction l generalizing k with
  | nil => rfl
  | cons a l ih =>
    have hpar : (k + 2) % 2 = k % 2 := by omega
    have hrest := ih (k + 1)
    rw [List.zipIdx_cons, List.zipIdx_cons, List.filter_cons, List.filter_cons, hpar]
    split
    · rw [List.map_cons, List.map_cons]
      exact congrArg (a :: ·) hrest
    · exact hrest

theorem laneBytes_two (a b : BitVec 8) (l : List (BitVec 8)) : laneBytes 3 0 (a :: b :: l) = a :: laneBytes 3 0 l ∧
    laneBytes 3 1 (a :: b :: l) = b :: laneBytes 3 1 l :=
  ⟨congrArg (a :: ·) (zipIdx_parity l 0 0), congrArg (b :: ·) (zipIdx_parity l 1 0)⟩

theorem laneBytes_one (l : List (BitVec 8)) (k : Fin 2) : laneBytes (2 ^ k.val) k l = l ∧ laneBytes (2 ^ k.val) (1 - k.val) l = [] := by
  match k with
  | 0 => exact ⟨rfl, rfl⟩
  | 1 => exact ⟨rfl, rfl⟩

theorem dockSymbols_pam4 (l : List (BitVec 8)) (a : BitVec 8) (rate : Nat) : dockSymbols (rate + 2) (a :: l) =
    [(0, 1), (2, 3), (4, 5), (6, 7)].map (fun i => gray (a.getLsbD i.1) (a.getLsbD i.2)) ++ dockSymbols (rate + 2) l := by
  have hrate : 2 ≤ rate + 2 := by omega
  unfold dockSymbols
  rw [if_pos hrate, if_pos hrate]
  rfl

theorem dockSymbols_nrz (l : List (BitVec 8)) (a : BitVec 8) (k : Fin 2) : dockSymbols k (a :: l) =
    (List.range 8).map (fun i => if a.getLsbD i then 1 else -1) ++ dockSymbols k l := by
  have hrate : ¬2 ≤ k.val := by omega
  unfold dockSymbols
  rw [if_neg hrate, if_neg hrate]
  rfl

/-! ### The flit time -/

/-- A link with flits in both directions that sends INIT, or that resumes, does so in its flit time (R246, R255). -/
theorem State.flitSlot_runs {s u : State} {n : Nat} (hu : u = (((s.epochCheck n false).epochCheck n true).pmPoll n).rtResume n)
    (hwide : (s.lk n).widen = false) (htrained : (s.lk n).train.on = false) (hstage : u.get (F.DL_STAT_STAGE n) = 8) :
    (u.lkState n = 1 → s.flitSlot n = s.sendInit n) ∧ (u.lkState n ≠ 1 → (u.lk n).resume = true → s.flitSlot n = u.sendPlain n 0 []) := by
  subst hu
  unfold State.flitSlot
  simp only [hwide, htrained, Bool.false_eq_true, if_false, Bool.false_and]
  refine ⟨fun hinit => ?_, fun hinit hresume => ?_⟩
  · rw [if_neg (by simp [hstage]), if_pos hinit]
  · rw [if_neg (by simp [hstage]), if_neg hinit, if_neg (by simp [hresume]), if_pos hresume]

/-- Settles O46. -/
theorem flitsAct : Obligations.FlitsAct := by
  refine ⟨fun s n => rfl, fun s u n hu hwide htrained hstage => ?_,
    fun s n h hclosed => ⟨congrArg Host.Outcome.next (State.plainIn_closed h _ hclosed), congrArg Host.Outcome.next (State.rxFlit_closed h _ hclosed),
      congrArg Host.Outcome.next (if_neg (by simp [hclosed]))⟩,
    fun s n h hopen hbad => ⟨congrArg Host.Outcome.next (State.plainIn_bad _ hopen hbad), congrArg Host.Outcome.next (State.rxFlit_bad _ hopen hbad)⟩,
    fun s v u n h hopen hgood hv => ⟨fun hwaits => congrArg Host.Outcome.next (State.rxGood_waits false _ hopen hgood hv hwaits),
      congrArg Host.Outcome.next (State.rxFlit_good _ hopen hgood hv), fun hseq hu hup => ?_⟩,
    fun s n h cls chan p b => ⟨rfl, rfl⟩, fun s x u v n h cls chan p b hopen hgood hx hseq hu hup hlow hhigh hnext hcredit hv => ?_,
    fun s n h tag c k => rfl, fun s x u v n h tag c k key iv hopen hgood hx hseq hu hup hnext hsealed hc hkey hiv htag hv =>
      congrArg (fun t : State => Host.Outcome.next t.sigDrain) (State.sealIn_good hopen hgood hx hseq hu hup hnext hsealed hc hkey hiv htag hv),
    fun s v n h ver d enc cr id hopen hgood hv => ?_,
    fun s v w n h d enc cr id hopen hgood hv hinit hfirst hcredits hlow hhigh hid hw hup => ?_, fun s n h op st cnt => rfl,
    fun s n hopen => congrArg Host.Outcome.next (if_pos hopen),
    fun s u n hopen hu hfew => congrArg Host.Outcome.next ((if_pos hopen).trans (State.crcBad_counted hu hfew)),
    fun s n => ⟨_, rfl, congrArg Link.nakArmed (State.lk_mapLk ..), rfl⟩, fun s n m l hmirror hup => ?_,
    fun s n hgroup => ⟨_, congrArg Host.Outcome.next (if_pos hgroup), congrArg Link.sealDue (State.lk_mapLk ..), rfl⟩,
    fun s n hinit hfirst => congrArg Host.Outcome.next (if_pos ⟨hinit, hfirst⟩), fun s n hup => congrArg Host.Outcome.next (if_pos hup),
    fun s n hdown hmode hcause hon hsilent hfailed hpll => congrArg Host.Outcome.next (if_pos ?_),
    fun l a b => ⟨(laneBytes_two a b l).1, (laneBytes_two a b l).2, laneBytes_one l⟩,
    fun l a rate => ⟨dockSymbols_pam4 l a rate, dockSymbols_nrz l a⟩⟩
  · obtain ⟨hinit, hresume⟩ := State.flitSlot_runs hu hwide htrained hstage
    exact ⟨fun h => congrArg Host.Outcome.next (hinit h), fun h hr => congrArg Host.Outcome.next (hresume h hr)⟩
  · have hworks : ∀ f : State → State, s.plainIn n h f = f u := fun f => State.rxGood_works f hopen hgood hv hseq hu hup
    refine ⟨congrArg Host.Outcome.next (hworks _), fun num => congrArg Host.Outcome.next (hworks _), fun num turn dev => congrArg Host.Outcome.next (hworks _),
      fun htgt => congrArg Host.Outcome.next ((hworks _).trans (if_pos (by simp [htgt]))),
      fun r htgt => congrArg Host.Outcome.next ((hworks _).trans (if_neg (by simp [htgt]))),
      fun hmirror => congrArg Host.Outcome.next ((hworks _).trans ?_), fun m l hmirror => congrArg Host.Outcome.next ((hworks _).trans ?_),
      fun st cnt hst => congrArg Host.Outcome.next ((hworks _).trans (if_pos ⟨rfl, hst⟩))⟩
    · rw [hmirror]
    · rw [hmirror]
  · have hdata : ∀ bad chan body, s.dataIn n h ⟨h.seq.toNat, cls.toNat, chan, bad, body⟩ =
        if v.sealed n then (v.acceptSeq n h.seq.toNat false).mapLk n (fun k => { k with staged := k.staged ++ [⟨h.seq.toNat, cls.toNat, chan, bad, body⟩] })
        else (v.acceptSeq n h.seq.toNat true).handOn n ⟨h.seq.toNat, cls.toNat, chan, bad, body⟩ := fun bad chan body =>
      (State.rxGood_works _ hopen hgood hx hseq hu hup).trans (State.dataWork_accepted hlow hhigh hnext hcredit hv)
    refine ⟨fun hplain => ⟨congrArg (fun t : State => Host.Outcome.next t.sigDrain) ((hdata ..).trans (if_neg (by simp [hplain]))),
      congrArg Host.Outcome.next ((hdata ..).trans (if_neg (by simp [hplain])))⟩,
      fun hsealed => congrArg (fun t : State => Host.Outcome.next t.sigDrain) ((hdata ..).trans (if_pos hsealed))⟩
  · subst hv
    exact congrArg Host.Outcome.next (State.rxFlit_good _ hopen hgood rfl)
  · subst hv
    refine congrArg Host.Outcome.next ((State.rxFlit_good _ hopen hgood rfl).trans ?_)
    exact State.initIn_first hinit hfirst (by simpa [List.any_map] using hcredits) hlow hhigh hid hw hup
  · refine congrArg Host.Outcome.next ?_
    rw [hmirror]
    exact if_pos hup
  · refine ⟨hdown, hmode, hcause, by simp [hon], by simp [hsilent], by simp [hfailed], ?_⟩
    rcases hpll with h | h <;> simp [h]

end Sys2Proof.Machine
end

section
/-! Retrains, echoes, and the messages of a link that is up (R257-R271, R285). -/

namespace Sys2Proof.Machine

/-! ### LK_CMD and CH_CMD (R257, R264, R268) -/

theorem isReg_lkCmd (n : Fin 16) : isReg (0x401064 + 0x10000 * n.val) .dport1 n 0x64 0 .plain = true := by
  revert n
  decide

theorem isReg_chCmd (n : Fin 16) : isReg (0x40304C + 0x10000 * n.val) .dport3 n 0x4C 0 (.win .chSel) = true := by
  revert n
  decide

/-- What a stored write of LK_CMD does. -/
theorem State.effect_lkCmd (s s0 : State) (n w p v : Nat) : s.effect s0 ⟨.dport1, n, 0x64, 0, w, p, v⟩ =
    if hasBit v 1 then ((if hasBit v 0 then s.retrainCmd n v else s).sealOut n).lkDown n 10 else if hasBit v 0 then s.retrainCmd n v else s := rfl

/-- The word that asks for a retrain to a rate on a mask of lanes. -/
theorem retrainWord_bits (rate mask : BitVec 2) : hasBit (256 * rate.toNat + 16 * mask.toNat + 1) 1 = false ∧
    hasBit (256 * rate.toNat + 16 * mask.toNat + 1) 0 = true ∧ bits (256 * rate.toNat + 16 * mask.toNat + 1) 8 2 = rate.toNat ∧
    bits (256 * rate.toNat + 16 * mask.toNat + 1) 4 2 = mask.toNat := by
  revert rate mask
  decide

theorem State.effect_lkRetrain (s s0 : State) (n w p : Nat) (rate mask : BitVec 2) :
    s.effect s0 ⟨.dport1, n, 0x64, 0, w, p, 256 * rate.toNat + 16 * mask.toNat + 1⟩ =
      (s.rtStart n rate.toNat mask.toNat 0).mapLk n (fun k => { k with rtSoft := k.rtReq.isSome || k.rtWait.isSome }) := by
  obtain ⟨hdown, hgo, hrate, hmask⟩ := retrainWord_bits rate mask
  rw [State.effect_lkCmd, hdown, hgo, if_neg (by decide), if_pos rfl, State.retrainCmd, hrate, hmask]

theorem State.effect_lkDown (s s0 : State) (n w p : Nat) : s.effect s0 ⟨.dport1, n, 0x64, 0, w, p, 2⟩ = (s.sealOut n).lkDown n 10 := by
  have hdown : hasBit 2 1 = true := by decide
  have hgo : hasBit 2 0 = false := by decide
  rw [State.effect_lkCmd, if_pos hdown, hgo]
  rfl

/-- What a stored write of CH_CMD does. -/
theorem State.effect_chCmd (s s0 : State) (n w p v : Nat) : s.effect s0 ⟨.dport3, n, 0x4C, 0, w, p, v⟩ =
    if hasBit v 0 then (if hasBit v 1 then (s.sendMgmt n 3 (chMsg w (s.chGen n w) ++ [0])).chClose n w else s).chOpen n w
    else if hasBit v 1 then (s.sendMgmt n 3 (chMsg w (s.chGen n w) ++ [0])).chClose n w else s := rfl

theorem State.effect_chOpen (s s0 : State) (n w p : Nat) : s.effect s0 ⟨.dport3, n, 0x4C, 0, w, p, 1⟩ = s.chOpen n w := State.effect_chCmd ..

theorem State.effect_chClose (s s0 : State) (n w p : Nat) :
    s.effect s0 ⟨.dport3, n, 0x4C, 0, w, p, 2⟩ = (s.sendMgmt n 3 (chMsg w (s.chGen n w) ++ [0])).chClose n w := State.effect_chCmd ..

/-! ### T-MGMT messages of a link that is up (R268-R271, R285) -/

/-- A link past INIT takes T-MGMT messages. -/
theorem State.whenUp_up {s : State} {n : Nat} (f : State → State) (hup : 2 ≤ s.lkState n) : s.whenUp n f = f s := by
  have hinit : s.lkState n ≠ 1 := by omega
  exact if_pos ⟨by omega, by simp [State.takesSeq, hinit]⟩

/-- A direction whose map or mask has changed, without an ALLOT on its way, sends one in the next epoch. -/
theorem State.epochCheck_sends {s : State} {n : Nat} {rx : Bool} (hpend : (dirOf (s.lk n) rx).pend = none) (hdirty : (dirOf (s.lk n) rx).dirty = true)
    (hsent : (dirOf (s.lk n) rx).sent ≠ some (s.epoch n rx)) (hown : s.orphan n = false) : s.epochCheck n rx = s.sendAllot n rx := by
  unfold State.epochCheck
  simp only [hpend]
  exact if_pos (by simp [hdirty, hsent, hown, PrismDir.waits, hpend])

theorem State.chCloseIn_open {s : State} {n cls idx gen w : Nat} (hlow : 1 ≤ cls) (hhigh : cls ≤ 4) (hidx : idx < 32) (hw : w = chW cls idx)
    (hopen : s.chState n w = 1) (hgen : s.chGen n w = gen) : s.chCloseIn n cls idx gen = s.chClose n w := by
  subst hw
  exact (if_neg (by omega)).trans (if_pos ⟨hopen, hgen⟩)

/-- The ALLOT that has been sent under a number. -/
theorem State.allotSent_pend {s : State} {n num : Nat} {rx : Bool} {a : Allot} (hpend : (dirOf (s.lk n) rx).pend = some a) (hnum : a.num = num)
    (hepoch : a.epoch.isSome = true) : s.allotSent n num rx = some a := by
  unfold State.allotSent
  simp [hpend, hnum, hepoch]

theorem State.allotSent_none {s : State} {n : Nat} {rx : Bool} (num : Nat) (hpend : (dirOf (s.lk n) rx).pend = none) : s.allotSent n num rx = none := by
  unfold State.allotSent
  rw [hpend]
  rfl

theorem State.allotAck_pend {s : State} {n num : Nat} {rx : Bool} {a : Allot} (hsent : s.allotSent n num rx = some a) :
    s.allotAck n num rx = s.setDir n rx { dirOf (s.lk n) rx with pend := some { a with acked := true } } := by
  unfold State.allotAck
  rw [hsent]

/-- A BAD_MAP ends the ALLOT that it answers. -/
theorem State.allotNak_pend {s : State} {n num : Nat} {rx : Bool} {a : Allot} (hsent : s.allotSent n num rx = some a) : s.allotNak n num rx 2 =
    ((((s.set (if rx then F.PR_STAT_RX_NAK n else F.PR_STAT_TX_NAK n) 2).setDir n rx
      { dirOf (s.lk n) rx with pend := none }).set (if rx then F.PR_STAT_RX_PENDING n else F.PR_STAT_TX_PENDING n) 0).raise (dpEv n 2 2)) := by
  unfold State.allotNak
  rw [if_neg (by decide), hsent]
  rfl

theorem State.allotNak_none {s : State} {n num : Nat} {rx : Bool} (hsent : s.allotSent n num rx = none) : s.allotNak n num rx 2 = s.raise (dpEv n 2 2) := by
  unfold State.allotNak
  rw [if_neg (by decide), hsent]

/-! ### Retrains that no answer comes to, and echoes (R260, R262) -/

theorem exec_retrainTimeout {s : State} {n : Fin 16} {q : RtReq} (hreq : (s.lk n).rtReq = some q) :
    (3 ≤ q.reps → exec (.retrainTimeout n) s = .next (s.lkDown n 6)) ∧
    (∀ (num : Nat) (t : State), q.reps < 3 → num = ((s.lk n).rtNum + 1) % 256 → t = (s.mapLk n (fun k => { k with
      rtNum := num, rtReq := some { q with num := num, reps := q.reps + 1 } })).declare n →
      exec (.retrainTimeout n) s = .next (t.sendMgmt n 0x10 (t.rtMsg n num q.rate q.mask q.reason))) := by
  refine ⟨fun hlast => congrArg Host.Outcome.next ?_, fun num t hmore hnum ht => congrArg Host.Outcome.next ?_⟩
  · rw [hreq]
    exact if_pos hlast
  · subst hnum ht
    rw [hreq]
    exact if_neg (by omega)

theorem exec_echoTimeout {s : State} {n : Fin 16} {q t1 : Nat} (hout : (s.lk n).echoOut = some (q, t1)) :
    exec (.echoTimeout n) s = .next (if t1 + 10000 ≤ s.now then s.mapLk n (fun k => { k with echoOut := none }) else s) := by
  refine congrArg Host.Outcome.next ?_
  rw [hout]

/-- Settles O47. -/
theorem linkMessagesAct : Obligations.LinkMessagesAct := by
  refine ⟨fun s p n rate mask v hv ht => ?_,
    fun s p n ht => congrArg Host.Outcome.next (State.write_fx (isReg_lkCmd n) ht (State.effect_lkDown ..)), fun s n hup => ?_,
    fun s n q hreq => exec_retrainTimeout hreq,
    fun s n hup hen => ⟨_, congrArg Host.Outcome.next (if_pos ⟨hup, hen⟩), congrArg Link.echoDue (State.lk_mapLk ..), rfl⟩,
    fun s n q t1 hout => ⟨fun hlate => ⟨_, (exec_echoTimeout hout).trans (congrArg Host.Outcome.next (if_pos hlate)),
      congrArg Link.echoOut (State.lk_mapLk ..), rfl⟩, fun hearly => (exec_echoTimeout hout).trans (congrArg Host.Outcome.next (if_neg (by omega)))⟩,
    fun s n ns => rfl, fun s n code b => rfl,
    fun s p n ht => congrArg Host.Outcome.next (State.write_fx (isReg_chCmd n) ht (State.effect_chOpen ..)),
    fun s p n w t ht hw hstored => ?_⟩
  · subst hv
    exact congrArg Host.Outcome.next (State.write_fx (isReg_lkCmd n) ht (State.effect_lkRetrain ..))
  · have hrun : ∀ f : State → State, (Host.Outcome.next (s.whenUp n f) : Res) = .next (f s) := fun f => congrArg Host.Outcome.next (State.whenUp_up f hup)
    refine ⟨fun r => ⟨hrun _, hrun _⟩, fun d => hrun _, fun cls idx gen => ⟨hrun _, hrun _⟩, fun num reason rx => ⟨hrun _, hrun _⟩, hrun _, hrun _,
      fun code hreq hack => (hrun _).trans (congrArg Host.Outcome.next (if_neg (not_or.mpr ⟨hreq, hack⟩))), fun rx => hrun _,
      fun rx hpend hdirty hsent hown => (hrun _).trans (congrArg Host.Outcome.next (State.epochCheck_sends hpend hdirty hsent hown)),
      fun cls idx gen w hlow hhigh hidx hw hopen hgen =>
        (hrun _).trans (congrArg Host.Outcome.next (State.chCloseIn_open hlow hhigh hidx hw hopen hgen)),
      fun num rx a hpend hnum hepoch => ?_,
      fun num rx hpend => (hrun _).trans (congrArg Host.Outcome.next (State.allotNak_none (State.allotSent_none _ hpend)))⟩
    have hsent := State.allotSent_pend hpend hnum hepoch
    exact ⟨(hrun _).trans (congrArg Host.Outcome.next (State.allotAck_pend hsent)), (hrun _).trans (congrArg Host.Outcome.next (State.allotNak_pend hsent))⟩
  · subst hw hstored
    exact congrArg Host.Outcome.next (State.write_fx (isReg_chCmd n) ht (State.effect_chClose ..))

end Sys2Proof.Machine
end

section
/-! Ethernet, the doors of the hosts, and the sideband (R274-R276, R288-R291). -/

namespace Sys2Proof.Machine

/-! ### The forwarder and the doors (R274-R276) -/

/-- A frame of a length that is carried, and that the boundary clock does not take, goes to the forwarder. -/
theorem State.ethIn_carried {s : State} {p pair : Nat} {b : List (BitVec 8)} (hlow : 14 ≤ b.length) (hhigh : b.length ≤ 9216)
    (hptp : s.ptpTaken p b = false) : s.ethIn p pair b = s.corePush (fwdXbar p) 68 (fwdKind p pair) (.forward p) b :=
  (if_neg (by omega)).trans (if_neg (by simp [hptp]))

/-- A frame to an address that is learned goes to the port it was learned on. -/
theorem State.fwdGo_known {s u : State} {p : Nat} {b : List (BitVec 8)} {e : FwdEntry} (hopen : (s.fwdPort p).block = false)
    (hunicast : (b.getD 0 0).toNat % 2 = 0) (hu : u = s.fwdLearn p b)
    (he : u.link.fwd.find? (fun e => e.mac == macAt b 0 && e.vid == outerVid b && e.dom == (s.fwdPort p).dom) = some e)
    (hother : e.port ≠ p) (hpass : (u.fwdPort e.port).block = false) (hup : u.fwdUp e.port = true) : s.fwdGo p b = u.fwdSend e.port b := by
  subst hu
  have hmulti : ¬(b.getD 0 0).toNat % 2 = 1 := by omega
  unfold State.fwdGo
  dsimp only
  rw [if_neg (by simp [hopen]), he, if_neg hmulti]
  exact if_neg (by simp [hother, hpass, hup])

theorem exec_fwdPortCfg {s : State} {h : Fin 32} {q : Word} (port : BitVec 16) (dom : BitVec 8) (learn block : Bool) (hruns : s.runs h q.toNat 0x0110 = true) :
    exec (.fwdPortCfg h q port dom learn block) s = .next (if s.get F.FM_PATH_REQ ≠ h then s.complete h q.toNat 1 0
      else if 544 ≤ port.toNat ∨ 16 ≤ dom.toNat then s.complete h q.toNat 6 0
      else (s.mapLinks (fun k => { k with fwdP := tset k.fwdP port.toNat ⟨dom.toNat, learn, block⟩ })).complete h q.toNat 0 0) :=
  congrArg Host.Outcome.next (if_pos hruns)

theorem State.doorOf_tset (s : State) (h k : Nat) (d : Door) :
    (s.mapLinks (fun l => { l with doors := tset l.doors h d })).doorOf k = if k = h then d else s.doorOf k := tget_tset ..

/-! ### The sideband (R290) -/

/-- A good packet on a sideband that runs is acknowledged, and delivered unless it repeats the last one. -/
theorem State.sbuIn_good {s : State} {n seq : Nat} (f : State → State) (hen : s.on (F.SBU_CTRL_EN n) = true) (hmode : s.on (F.PD_STAT_MODE n) = true) :
    s.sbuIn n seq true f = if (s.lk n).sbuSeen = some seq then (s.sbuGood n).sbuOut n 4 0 [BitVec.ofNat 8 seq]
      else f ((((s.sbuGood n).sbuOut n 4 0 [BitVec.ofNat 8 seq]).mapLk n (fun k => { k with sbuSeen := some seq })).set (F.SBU_STAT_RX_SEQ n) seq) := by
  unfold State.sbuIn
  rw [if_neg (by simp [hen, hmode]), if_neg (by simp)]

/-- A packet whose CRC fails is counted. -/
theorem State.sbuIn_bad {s : State} {n seq : Nat} (f : State → State) (hen : s.on (F.SBU_CTRL_EN n) = true) (hmode : s.on (F.PD_STAT_MODE n) = true) :
    s.sbuIn n seq false f = s.sat (F.SBU_ERR_COUNT n) := by
  unfold State.sbuIn
  rw [if_neg (by simp [hen, hmode]), if_pos (by simp)]

theorem State.sbuAck_off {s : State} {n acked : Nat} {ok : Bool} (hoff : s.on (F.SBU_CTRL_EN n) = false ∨ s.on (F.PD_STAT_MODE n) = false) :
    s.sbuAck n acked ok = s := by
  unfold State.sbuAck
  rcases hoff with h | h <;> rw [if_pos (by simp [h])]

theorem State.sbuAck_bad {s : State} {n acked : Nat} (hen : s.on (F.SBU_CTRL_EN n) = true) (hmode : s.on (F.PD_STAT_MODE n) = true) :
    s.sbuAck n acked false = s.sat (F.SBU_ERR_COUNT n) := by
  unfold State.sbuAck
  rw [if_neg (by simp [hen, hmode]), if_pos (by simp)]

/-- The acknowledgement of the packet that waits for it lets the next one go. -/
theorem State.sbuAck_match {s : State} {n acked : Nat} (hen : s.on (F.SBU_CTRL_EN n) = true) (hmode : s.on (F.PD_STAT_MODE n) = true)
    (hup : s.on (F.SBU_STAT_UP n) = true) (hout : (s.lk n).sbuOut = true) (hseq : s.get (F.SBU_STAT_TX_SEQ n) = acked) :
    s.sbuAck n acked true = (s.setLk n { s.lk n with sbuOut := false, sbuReps := 0, sbuQ := (s.lk n).sbuQ.drop 1 }).sbuNext n := by
  have hgood : s.sbuGood n = s := if_pos hup
  unfold State.sbuAck
  rw [if_neg (by simp [hen, hmode]), if_neg (by simp)]
  dsimp only
  rw [hgood]
  exact if_pos (by simp [hout, hseq])

theorem State.sbuTimeout_waits {s : State} {n : Nat} {p : SbuPkt} {l : List SbuPkt} (hout : (s.lk n).sbuOut = true) (hq : (s.lk n).sbuQ = p :: l) :
    s.sbuTimeout n = if s.get (F.SBU_CTRL_RETRY n) ≤ (s.lk n).sbuReps then
        (if s.on (F.SBU_STAT_UP n) then
          ((s.setLk n { s.lk n with sbuOut := false, sbuReps := 0, sbuQ := (s.lk n).sbuQ.drop 1 }).set (F.SBU_STAT_UP n) 0).raise (dpEv n 3 5)
        else s.setLk n { s.lk n with sbuOut := false, sbuReps := 0, sbuQ := (s.lk n).sbuQ.drop 1 })
      else (s.setLk n { s.lk n with sbuReps := (s.lk n).sbuReps + 1 }).sbuOut n p.typ (s.get (F.SBU_STAT_TX_SEQ n)) p.body := by
  unfold State.sbuTimeout
  dsimp only
  rw [hout, hq]

/-- Settles O49. -/
theorem ethernetAndSidebandAct : Obligations.EthernetAndSidebandAct := by
  refine ⟨fun s port pair b hup => ⟨congrArg Host.Outcome.next (if_pos hup), fun hlow hhigh hptp => congrArg Host.Outcome.next ((if_pos hup).trans ?_)⟩,
    fun s u port b e hopen hunicast hu he hother hpass hdst => State.fwdGo_known hopen hunicast hu he hother hpass hdst, fun s mac vid dom => rfl,
    fun s h q port dom learn block hruns => ⟨fun hreq => (exec_fwdPortCfg port dom learn block hruns).trans (congrArg Host.Outcome.next (if_pos hreq)),
      fun hreq hbad => (exec_fwdPortCfg port dom learn block hruns).trans (congrArg Host.Outcome.next ((if_neg (not_not_intro hreq)).trans (if_pos hbad))),
      fun hreq hport hdom => (exec_fwdPortCfg port dom learn block hruns).trans
        (congrArg Host.Outcome.next ((if_neg (not_not_intro hreq)).trans (if_neg (by omega))))⟩,
    fun s h q dom hruns hreq hdom => congrArg Host.Outcome.next ((if_pos hruns).trans ((if_neg (not_not_intro hreq)).trans (if_neg (by omega)))),
    fun s h v r d feats hfeats => ⟨_, rfl, ?_, fun k hk => (State.doorOf_tset ..).trans (if_neg hk), rfl, rfl⟩,
    fun s n q f hen hmode => ⟨fun m => ⟨congrArg Host.Outcome.next (State.sbuIn_bad _ hen hmode), congrArg Host.Outcome.next (State.sbuIn_bad _ hen hmode), rfl, rfl⟩,
      rfl, fun hseen => ?_, fun hseen => ?_⟩,
    fun s n q ok => ⟨rfl, fun hoff => congrArg Host.Outcome.next (State.sbuAck_off hoff), fun hen hmode => congrArg Host.Outcome.next (State.sbuAck_bad hen hmode)⟩,
    fun s n q hen hmode hup hout hseq => congrArg Host.Outcome.next (State.sbuAck_match hen hmode hup hout hseq),
    fun s n p l hout hq => ⟨fun hmore => congrArg Host.Outcome.next ((State.sbuTimeout_waits hout hq).trans (if_neg (by omega))),
      fun hlast hup => ⟨_, congrArg Host.Outcome.next ((State.sbuTimeout_waits hout hq).trans ((if_pos hlast).trans (if_pos hup))), ?_, ?_, ?_⟩⟩⟩
  · exact congrArg State.sigDrain (State.ethIn_carried hlow hhigh hptp)
  · subst hfeats
    exact (State.doorOf_tset ..).trans (if_pos rfl)
  · rw [State.sbuIn_good f hen hmode, if_pos hseen, BitVec.ofNat_toNat, BitVec.setWidth_eq]
  · rw [State.sbuIn_good f hen hmode, if_neg hseen, BitVec.ofNat_toNat, BitVec.setWidth_eq]
  · exact (State.raise_get ..).trans (State.get_set ..)
  · refine (congrArg Link.sbuQ (State.lk_setLk s n _)).trans ?_
    rw [hq]
    rfl
  · exact congrArg Link.sbuOut (State.lk_setLk s n _)

end Sys2Proof.Machine
end

section
/-! USB Power Delivery: attach, contracts and their messages (R294-R304, R315). -/

namespace Sys2Proof.Machine

/-! ### An attached port's messages -/

theorem State.pd_setPd (s : State) (n : Nat) (x : PdPort) : (s.setPd n x).pd n = x := (tget_tset ..).trans (if_pos rfl)

theorem State.pd_mapPd (s : State) (n : Nat) (f : PdPort → PdPort) : (s.mapPd n f).pd n = f (s.pd n) := State.pd_setPd ..

/-- A message or timer of an attached port acts, and Rp follows. -/
theorem pdDo_acts {s t : State} {n : Nat} {f : State → State} (hatt : s.on (F.PD_STAT_ATTACHED n) = true) (hf : f s = t) :
    (Host.Outcome.next (s.pdDo n f) : Res) = .next (t.pdShow n) :=
  congrArg Host.Outcome.next ((if_pos hatt).trans (congrArg (State.pdShow · n) hf))

/-- What a port's CC pins show is looked at where nothing stands against an attach. -/
theorem State.attach_rd {u : State} {n : Nat} (cc2 ra : Bool) (hfree : u.on (F.PD_STAT_ATTACHED n) = false) (hen : u.on (F.PD_CTRL_EN n) = true)
    (herr : (u.pd n).errRec = false) (hsafe : (u.pd n).needSafe = false) (hlock : u.on (F.VB_STAT_LOCKOUT n) = false)
    (hheld : u.pow.busHeld = false) (hrole : (u.pd n).role ≠ 1) : u.attach n (.rd cc2 ra) = u.attachSrc n cc2 ra := by
  unfold State.attach
  dsimp only
  rw [if_neg (by simp [hfree, hen, herr, hsafe, hlock, hheld]), if_neg (by simp [hrole])]

/-- A sink's EPR_Mode Enter, where R303's conditions hold and the port is free. -/
theorem State.eprFree {s : State} {n : Nat} (hseq : (s.pd n).seq = .idle ∨ (s.pd n).seq = .caps) :
    (decide ((s.pd n).seq = .idle) || decide ((s.pd n).seq = .caps)) = true := by
  rcases hseq with h | h <;> rw [h] <;> rfl

/-! ### The PD page (R315) -/

theorem isReg_pdCtrl (n : Fin 16) : isReg (pdAddr n 0x40) .dport4 n 0x40 0 .plain = true := by
  revert n
  decide

theorem isReg_pdSrc (n : Fin 16) : isReg (pdAddr n 0x48) .dport4 n 0x48 0 .plain = true := by
  revert n
  decide

theorem isReg_pdCmd (n : Fin 16) : isReg (pdAddr n 0x54) .dport4 n 0x54 0 .plain = true := by
  revert n
  decide

/-- What a stored write of PD_CTRL does. -/
theorem State.effect_pdCtrl (s s0 : State) (n w p v : Nat) : s.effect s0 ⟨.dport4, n, 0x40, 0, w, p, v⟩ = s.pdEnable s0 n := rfl

/-- What a stored write of PD_CMD does. -/
theorem State.effect_pdCmd (s s0 : State) (n w p v : Nat) : s.effect s0 ⟨.dport4, n, 0x54, 0, w, p, v⟩ = s.pdCmd n v := rfl

/-! ### Contracts and their messages (R299-R304) -/

/-- The messages of an attached port that R299 to R304 let act. -/
theorem pdContracts_attached {s : State} {n : Fin 16} (hatt : s.on (F.PD_STAT_ATTACHED n) = true) :
    (s.on (F.PD_STAT_EPR n) = true → exec (.eprKeepalive n) s = .next ((s.pdSend n .eprKeepAliveAck).pdShow n) ∧
      exec (.eprKeepaliveTimeout n) s = .next ((s.hardReset n true).pdShow n)) ∧
    (s.pdSource n = false → exec (.eprMode ⟨n, false⟩) s = .next ((s.pdSend n .eprMode [4 * 2 ^ 24 + 4 * 2 ^ 16]).pdShow n)) ∧
    (s.pdSource n = true → ((s.pd n).seq = .idle ∨ (s.pd n).seq = .caps) →
      (s.on (F.PD_STAT_CONTRACT n) = true → s.on (F.PD_STAT_EPR n) = false → s.eprOk n = true →
        exec (.eprMode ⟨n, false⟩) s = .next ((s.eprEnter n).pdShow n)) ∧
      (s.on (F.PD_STAT_EPR n) = true → exec (.eprMode ⟨n, true⟩) s = .next (((s.vdmAbort n).eprLeft n).pdShow n))) := by
  refine ⟨fun hepr => ⟨pdDo_acts hatt (if_pos hepr), pdDo_acts hatt (if_pos hepr)⟩, fun hsink => pdDo_acts hatt ?_,
    fun hsource hseq => ⟨fun hcontract hspr hok => pdDo_acts hatt ?_, fun hepr => pdDo_acts hatt ?_⟩⟩
  · exact (if_neg Bool.false_ne_true).trans (if_neg (by simp [hsink]))
  · exact (if_neg Bool.false_ne_true).trans ((if_pos (by simp [hsource, hcontract, hspr, hok])).trans (if_pos (State.eprFree hseq)))
  · refine (if_pos rfl).trans (if_pos ?_)
    rw [hepr, hsource]
    exact State.eprFree hseq

theorem pdSourceCapRepeat_acts {s : State} {n : Fin 16} {m : PdMsg} {k : Nat} {l : List (PdMsg × Nat)} (hatt : s.on (F.PD_STAT_ATTACHED n) = true)
    (hun : (s.pd n).unacked = (m, k) :: l) (hkind : m.kind = .sourceCaps) (hseq : (s.pd n).seq = .caps) (hfew : (s.pd n).caps < 50) :
    exec (.sourceCapRepeat n) s = .next (((s.setPd n { s.pd n with caps := (s.pd n).caps + 1, unacked := ((s.pd n).unacked.map
      (fun e => if e.1 = m then (e.1, 0) else e)) }).emit (.pd n m)).pdShow n) := by
  have hfind : (s.pd n).unacked.find? (fun m => decide (m.1.kind = .sourceCaps) || decide (m.1.kind = .eprSourceCaps)) = some (m, k) := by
    rw [hun]
    exact List.find?_cons_of_pos (by simp [hkind])
  refine pdDo_acts hatt ?_
  dsimp only
  rw [hfind]
  exact if_pos ⟨hseq, hfew⟩

theorem pdGoodcrcTimeout_acts {s : State} {n : Fin 16} {m : PdMsg} {k : Nat} {l : List (PdMsg × Nat)} (hatt : s.on (F.PD_STAT_ATTACHED n) = true)
    (hun : (s.pd n).unacked = (m, k) :: l) (hk : k < 2) :
    exec (.goodcrcTimeout n) s = .next (((s.setPd n { s.pd n with unacked := (m, k + 1) :: l }).emit (.pd n m)).pdShow n) := by
  refine pdDo_acts hatt ?_
  dsimp only
  rw [hun]
  exact if_pos hk

theorem pdVconnFault_acts {s : State} {n : Fin 16} (hatt : s.on (F.PD_STAT_ATTACHED n) = true) (hon : s.on (F.PD_STAT_VCONN_ON n) = true)
    (hseq : (s.pd n).seq ≠ .cable) : exec (.vconnFault n) s =
      .next ((((s.set (F.PD_STAT_VCONN_ON n) 0).mapPd n (fun x => { x with vcFault := true })).raise (pdEv n 11)).pdShow n) := by
  have hkept : ((((s.set (F.PD_STAT_VCONN_ON n) 0).mapPd n (fun x => { x with vcFault := true })).raise (pdEv n 11)).pd n).seq ≠ .cable := fun h =>
    hseq ((congrArg PdPort.seq (State.pd_mapPd (s.set (F.PD_STAT_VCONN_ON n) 0) n (fun x => { x with vcFault := true }))).symm.trans h)
  exact pdDo_acts hatt ((if_pos hon).trans (if_neg hkept))

/-- Settles O50. -/
theorem pdContractsAct : Obligations.PdContractsAct := by
  refine ⟨fun s n cc => rfl, fun s u n cc2 ra hu hfree hen herr hsafe hlock hheld hrole => ?_,
    fun s n hfree hen herr => ⟨fun hrole htry => ⟨_, congrArg Host.Outcome.next (if_pos (by simp [hfree, hen, herr, hrole, htry])), ?_,
        fun f hf => State.get_set_ne _ _ hf⟩,
      fun htry cc2 => ⟨congrArg Host.Outcome.next ((if_neg (by simp [hfree, htry])).trans (if_pos rfl)),
        congrArg Host.Outcome.next ((if_neg (by simp [hfree, htry])).trans (if_neg (by decide)))⟩⟩,
    fun s n herr => congrArg Host.Outcome.next (if_pos herr), fun s n hatt => ?_,
    fun s p n v ht => congrArg Host.Outcome.next (State.write_fx (isReg_pdSrc n) ht rfl), fun s p n v hv ht => ?_, fun s => rfl, fun s u hn hu => ?_⟩
  · subst hu
    exact congrArg (fun t : State => Host.Outcome.next (t.pdShow n)) (State.attach_rd cc2 ra hfree hen herr hsafe hlock hheld hrole)
  · refine (State.get_set ..).trans ?_
    split <;> rfl
  · obtain ⟨hkeep, hsinkEpr, hsourceEpr⟩ := pdContracts_attached hatt
    refine ⟨congrArg Host.Outcome.next (if_pos hatt), fun rdo pdo => ⟨pdDo_acts hatt rfl, pdDo_acts hatt rfl⟩, hkeep, hsinkEpr, hsourceEpr,
      pdDo_acts hatt rfl, pdDo_acts hatt rfl, fun hsource hseq => pdDo_acts hatt (if_pos (by simp [hsource, hseq])),
      fun hsink => pdDo_acts hatt (if_neg (by simp [hsink])), fun pdo => pdDo_acts hatt rfl, fun pdo hseq => pdDo_acts hatt (if_neg hseq),
      fun pdo hsink => pdDo_acts hatt (if_pos hsink), fun m k l hun hkind hseq hfew => pdSourceCapRepeat_acts hatt hun hkind hseq hfew,
      fun m k l hun hk => pdGoodcrcTimeout_acts hatt hun hk, pdDo_acts hatt rfl,
      fun hseq => ⟨fun v => pdDo_acts hatt (if_pos hseq), pdDo_acts hatt (if_pos hseq), pdDo_acts hatt (if_pos hseq)⟩,
      fun hon hseq => pdVconnFault_acts hatt hon hseq, pdDo_acts hatt rfl, fun rdo pdo hseq => pdDo_acts hatt ?_,
      fun hseq => pdDo_acts hatt ?_, fun hseq => pdDo_acts hatt (if_pos hseq), fun c => pdDo_acts hatt rfl, pdDo_acts hatt rfl, pdDo_acts hatt rfl,
      pdDo_acts hatt rfl, pdDo_acts hatt rfl, pdDo_acts hatt rfl⟩
    · unfold State.srcTransition
      rw [hseq]
    · rw [hseq]
  · subst hv
    exact congrArg Host.Outcome.next (State.write_fx (isReg_pdCtrl n) ht (State.effect_pdCtrl ..))
  · subst hu
    refine congrArg Host.Outcome.next ?_
    unfold State.govFirmware
    rw [if_neg hn]

end Sys2Proof.Machine
end

section
/-! USB Power Delivery: swaps, resets and the way into and out of Mbaloth mode (R305-R314). -/

namespace Sys2Proof.Machine

/-! ### The hub's own swap request (R308) -/

theorem pdSwapRequest_answers {s : State} {n : Fin 16} (hatt : s.on (F.PD_STAT_ATTACHED n) = true) (hseq : (s.pd n).seq = .swapReq)
    (hown : (s.pd n).own = 2) :
    exec (.accept n) s = .next ((((s.drDone n).swapEnd n 1).pdNext n).pdShow n) ∧
    exec (.reject n) s = .next (((s.swapEnd n 2).pdNext n).pdShow n) ∧ exec (.notSupported n) s = .next (((s.swapEnd n 7).pdNext n).pdShow n) ∧
    exec (.senderResponseTimeout n) s = .next (((s.swapEnd n 6).pdNext n).pdShow n) ∧
    ((s.pd n).sent < s.get (F.PD_SWAP_ATTEMPTS n) → exec (.pdWait n) s = .next (((s.pdNext n).set (F.PD_STAT_SWAP n) 2).pdShow n)) := by
  have hrefused : ∀ res, s.pdRefused n res = (s.swapEnd n res).pdNext n := fun res => by
    unfold State.pdRefused
    rw [hseq]
  refine ⟨pdDo_acts hatt ?_, pdDo_acts hatt (hrefused 2), pdDo_acts hatt (hrefused 7), pdDo_acts hatt (hrefused 6), fun hfew => pdDo_acts hatt ?_⟩
  · unfold State.pdAccept
    rw [hseq]
    exact if_pos hown
  · unfold State.pdWait
    dsimp only
    rw [hseq]
    exact if_neg (by omega)

theorem pdSwapRetry_acts {s : State} {n : Fin 16} (hatt : s.on (F.PD_STAT_ATTACHED n) = true) (hown : (s.pd n).own ≠ 0)
    (hswap : s.get (F.PD_STAT_SWAP n) = 2) :
    (s.get (F.PD_SWAP_ATTEMPTS n) ≤ (s.pd n).sent → exec (.swapRetry n) s = .next (((s.swapEnd n 3).pdNext n).pdShow n)) ∧
    ((s.pd n).sent < s.get (F.PD_SWAP_ATTEMPTS n) → (s.pd n).seq = .idle → exec (.swapRetry n) s = .next (((s.vdmAbort n).sendSwap n).pdShow n)) := by
  have hwaits : ¬((s.pd n).own = 0 ∨ s.get (F.PD_STAT_SWAP n) ≠ 2) := by simp [hown, hswap]
  exact ⟨fun hlast => pdDo_acts hatt ((if_neg hwaits).trans (if_pos hlast)),
    fun hfew hseq => pdDo_acts hatt ((if_neg hwaits).trans ((if_neg (by omega)).trans (if_pos (by simp [hseq]))))⟩

/-! ### Structured VDMs (R310-R314) -/

theorem pdVdmBusy_acts {s : State} {n : Fin 16} (hatt : s.on (F.PD_STAT_ATTACHED n) = true) (hlow : 1 ≤ (s.pd n).vdm) (hhigh : (s.pd n).vdm ≤ 4)
    (hhold : (s.pd n).hold = false) :
    (3 ≤ (s.pd n).busy → exec (.vdmBusy n) s = .next ((s.vdmFail n).pdShow n)) ∧
    ((s.pd n).busy < 3 → exec (.vdmBusy n) s = .next ((s.setPd n { s.pd n with busy := (s.pd n).busy + 1, hold := true }).pdShow n)) := by
  have hruns : ¬((s.pd n).vdm = 0 ∨ 4 < (s.pd n).vdm ∨ (s.pd n).hold = true) := by
    rw [hhold]
    rintro (h | h | h)
    · omega
    · omega
    · exact Bool.false_ne_true h
  exact ⟨fun hmany => pdDo_acts hatt ((if_neg hruns).trans (if_neg (by omega))), fun hfew => pdDo_acts hatt ((if_neg hruns).trans (if_pos hfew))⟩

/-- An answer to the VDM of a stage acts on a port that waits for it. -/
theorem vdmAt_acts {s t u : State} {n : Nat} {stage : Nat} {f : State → State} (hatt : s.on (F.PD_STAT_ATTACHED n) = true) (hhold : (s.pd n).hold = false)
    (hseq : (s.pd n).seq = .idle) (ht : t = s.mapPd n (fun x => { x with busy := 0 })) (hstage : (s.pd n).vdm = stage) (hf : f t = u) :
    (Host.Outcome.next (s.vdmAt n stage f) : Res) = .next (u.pdShow n) := by
  subst ht
  exact pdDo_acts hatt ((if_pos ⟨hstage, by simp [hhold], by simp [hseq]⟩).trans hf)

/-- Settles O51. -/
theorem pdSwapsAndModesAct : Obligations.PdSwapsAndModesAct := by
  refine ⟨fun s n hatt => ⟨pdDo_acts hatt rfl, pdDo_acts hatt rfl, pdDo_acts hatt rfl, pdDo_acts hatt rfl, pdDo_acts hatt rfl, pdDo_acts hatt rfl,
      pdDo_acts hatt rfl, pdDo_acts hatt rfl, pdDo_acts hatt rfl, pdDo_acts hatt rfl, pdDo_acts hatt rfl,
      fun hseq hown => pdSwapRequest_answers hatt hseq hown, fun hseq => pdDo_acts hatt ?_,
      fun hown hswap hlast => (pdSwapRetry_acts hatt hown hswap).1 hlast, fun hown hswap hfew hseq => (pdSwapRetry_acts hatt hown hswap).2 hfew hseq,
      fun hlow hhigh => ⟨pdDo_acts hatt (if_pos ⟨hlow, hhigh⟩), fun hhold hmany => (pdVdmBusy_acts hatt hlow hhigh hhold).1 hmany,
        fun hhold hfew => (pdVdmBusy_acts hatt hlow hhigh hhold).2 hfew⟩,
      fun hhold => pdDo_acts hatt (if_pos hhold), fun v hv => pdDo_acts hatt (if_pos hv), fun hmode hfailed t ht hlast => pdDo_acts hatt ?_⟩,
    fun s t n hatt hhold hseq ht => ⟨fun hstage => vdmAt_acts hatt hhold hseq ht hstage rfl,
      fun hstage l => ⟨fun hin => vdmAt_acts hatt hhold hseq ht hstage (if_pos (by simpa using hin)),
        fun hout => vdmAt_acts hatt hhold hseq ht hstage (if_neg (by simpa using hout))⟩,
      fun hstage => ⟨fun v => vdmAt_acts hatt hhold hseq ht hstage rfl, vdmAt_acts hatt hhold hseq ht hstage rfl,
        fun v w l => vdmAt_acts hatt hhold hseq ht hstage rfl⟩,
      fun hstage v a b => vdmAt_acts hatt hhold hseq ht hstage rfl⟩,
    fun s p n => ⟨fun ht => congrArg Host.Outcome.next (State.write_fx (isReg_pdCmd n) ht (State.effect_pdCmd ..)),
      fun ht => congrArg Host.Outcome.next (State.write_fx (isReg_pdCmd n) ht (State.effect_pdCmd ..)),
      fun ht => congrArg Host.Outcome.next (State.write_fx (isReg_pdCmd n) ht (State.effect_pdCmd ..)),
      fun ht => congrArg Host.Outcome.next (State.write_fx (isReg_pdCmd n) ht (State.effect_pdCmd ..)),
      fun ht => congrArg Host.Outcome.next (State.write_fx (isReg_pdCmd n) ht (State.effect_pdCmd ..)),
      fun ht => congrArg Host.Outcome.next (State.write_fx (isReg_pdCmd n) ht (State.effect_pdCmd ..)),
      fun ht => congrArg Host.Outcome.next (State.write_fx (isReg_pdCmd n) ht (State.effect_pdCmd ..))⟩⟩
  · unfold State.psRdy
    rw [hseq]
  · subst ht
    exact (if_pos (by simp [hmode, hfailed])).trans (if_pos hlast)

end Sys2Proof.Machine
end

section
/-! VBUS feeds, the dock bus and the eFuse (R316-R330); scan-out (R332-R346). -/

namespace Sys2Proof.Machine

/-! ### Feeds (R316-R319) -/

theorem Fld.mod_width {f : Fld} {v w : Nat} (hw : f.width = w) (hv : v < 2 ^ w) : v % 2 ^ f.width = v :=
  Nat.mod_eq_of_lt (hw ▸ hv)

theorem feedStat_width (f : Fin 2) : (feedStat f).width = 2 := by
  revert f
  decide

theorem feedStat_other (f : Fin 2) : (feedStat (1 - f : Nat)).width = 2 ∧ (feedStat f).key ≠ (feedStat (1 - f : Nat)).key := by
  revert f
  decide

theorem feedStat_ne_count (f : Fin 2) :
    (feedStat f).key ≠ F.FD_CHANGE_COUNT_COUNT.key ∧ (feedStat (1 - f : Nat)).key ≠ F.FD_CHANGE_COUNT_COUNT.key := by
  revert f
  decide

/-- A feed's own state is no business of the feed that takes over. -/
theorem State.feedOver_get_self (s : State) (f : Fin 2) : (s.feedOver f).get (feedStat f) = s.get (feedStat f) := by
  unfold State.feedOver
  split
  · exact State.get_set_ne _ _ (feedStat_other f).2
  · rfl

theorem State.feedOver_get_other {s : State} {f : Fin 2} (hup : s.feedUp (1 - f : Nat) = true) : (s.feedOver f).get (feedStat (1 - f : Nat)) = 2 := by
  rw [State.feedOver, if_pos hup, State.get_set]
  exact Fld.mod_width (feedStat_other f).1 (by decide)

/-- Setting one feed's state leaves whether the other is up. -/
theorem State.feedUp_set_other (s : State) (f : Fin 2) (v : Nat) : (s.set (feedStat f) v).feedUp (1 - f : Nat) = s.feedUp (1 - f : Nat) := by
  rw [State.feedUp, State.feedUp, State.get_set_ne _ _ (feedStat_other f).2.symm]

theorem feedReverse_answers {s : State} {f : Fin 2} (hcond : s.get (feedStat f) = 2) : Answers (exec (.feedReverse f) s) (fun t =>
    t.get (feedStat f) = 1 ∧ (s.feedUp (1 - f : Nat) = true → t.get (feedStat (1 - f : Nat)) = 2) ∧ t.evStat 164 = true) := by
  refine ⟨_, congrArg Host.Outcome.next (if_pos hcond), ?_, fun hup => ?_, State.raise_stands _ (by decide)⟩
  · rw [State.raise_get, State.get_sat_ne _ _ (feedStat_ne_count f).1, State.feedOver_get_self, State.get_set]
    exact Fld.mod_width (feedStat_width f) (by decide)
  · rw [State.raise_get, State.get_sat_ne _ _ (feedStat_ne_count f).2]
    exact State.feedOver_get_other ((State.feedUp_set_other ..).trans hup)

theorem gateOn_answers {s : State} {n : Fin 16} (hstate : s.vbState n = 2) :
    Answers (exec (.gateOn n) s) (fun t => t.on (F.VB_STAT_GATE_ON n) = true ∧ t.vbState n = 3) := by
  refine ⟨_, congrArg Host.Outcome.next (if_pos hstate), ?_, ?_⟩
  · have hgate : (F.VB_STAT_GATE_ON n).key ≠ (F.VB_STAT_STATE n).key := by
      simp only [F.VB_STAT_GATE_ON, F.VB_STAT_STATE, Fld.key]
      omega
    have hset : (s.sets [(F.VB_STAT_GATE_ON n, 1), (F.VB_STAT_STATE n, 3)]).get (F.VB_STAT_GATE_ON n) = 1 :=
      State.sets_get_head (by simpa using hgate) s
    unfold State.on
    rw [hset]
    rfl
  · exact State.get_set ..

/-! ### The eFuse (R322-R326) -/

theorem limiting_acts {s : State} {n : Fin 16} (hdriven : s.vbDriven n = true) :
    (s.on (F.VB_STAT_LIMITING n) = false → exec (.limiting n true) s =
      .next ((s.sets [(F.VB_STAT_LIMITING n, 1), (F.VB_STAT_TIMER n, 1)]).raise (vbEv n 3))) ∧
    (s.on (F.VB_STAT_LIMITING n) = true → exec (.limiting n false) s =
      .next ((s.sets [(F.VB_STAT_LIMITING n, 0), (F.VB_STAT_TIMER n, 0)]).resumeMove n)) :=
  ⟨fun hoff => congrArg Host.Outcome.next (if_neg (by simp [hdriven, hoff])),
    fun hon => congrArg Host.Outcome.next (if_neg (by simp [hdriven, hon]))⟩

theorem moveTimeout_acts {s : State} {n : Fin 16} (hmove : s.vbState n = 5) :
    (s.get (F.VB_VOUT_MV n) < s.targetMv n → exec (.moveTimeout n) s = .next (s.latchOff n 4)) ∧
    (s.targetMv n ≤ s.get (F.VB_VOUT_MV n) → exec (.moveTimeout n) s = .next (s.latchOff n 3)) :=
  ⟨fun hlow => congrArg Host.Outcome.next ((if_pos hmove).trans (congrArg (s.latchOff n) (if_pos hlow))),
    fun hhigh => congrArg Host.Outcome.next ((if_pos hmove).trans (congrArg (s.latchOff n) (if_neg (by omega))))⟩

theorem isReg_vbCmd (n : Fin 16) : isReg (0x405058 + 0x10000 * n.val) .dport5 n 0x58 0 .plain = true := by
  revert n
  decide

/-- A write to VB_CMD acts through the power rules. -/
theorem State.effect_vbCmd (s s0 : State) (n w p v : Nat) : s.effect s0 ⟨.dport5, n, 0x58, 0, w, p, v⟩ = s.powFx s0 ⟨.dport5, n, 0x58, 0, 0, p, v⟩ :=
  rfl

/-- Settles O52. -/
theorem vbusCommandsAct : Obligations.VbusCommandsAct :=
  ⟨fun s f hcond => feedReverse_answers hcond,
    fun s f hup => ⟨congrArg Host.Outcome.next (if_pos hup), congrArg Host.Outcome.next (if_pos hup)⟩,
    fun s f hdown hen => congrArg Host.Outcome.next (if_pos (by simp [hdown, hen])),
    fun s => ⟨_, rfl, State.raise_stands _ (by decide)⟩,
    fun s hheld => congrArg Host.Outcome.next (if_neg (by simp [hheld])),
    fun s n => ⟨fun htrack hstate => congrArg Host.Outcome.next (if_pos (by simp [htrack, hstate])),
      fun hmove => ⟨congrArg Host.Outcome.next (if_pos hmove), (moveTimeout_acts hmove).1, (moveTimeout_acts hmove).2⟩,
      fun en => rfl,
      fun hbuck => congrArg Host.Outcome.next (if_pos hbuck),
      fun hgate => ⟨congrArg Host.Outcome.next (if_pos hgate), gateOn_answers hgate⟩,
      fun hdriven hoff => (limiting_acts hdriven).1 hoff,
      fun hdriven hon => (limiting_acts hdriven).2 hon,
      fun htimer => congrArg Host.Outcome.next (if_pos htimer),
      fun hdriven => ⟨congrArg Host.Outcome.next (if_pos hdriven),
        fun hstill => congrArg Host.Outcome.next (if_pos (by simp [hdriven, hstill]))⟩,
      fun hstate hgood hoff => congrArg Host.Outcome.next (if_pos ⟨hstate, hgood, by simp [hoff]⟩),
      fun hgate => congrArg Host.Outcome.next (if_pos hgate),
      fun hwait => congrArg Host.Outcome.next (if_pos hwait),
      fun hramp hgate hwin htimer => congrArg Host.Outcome.next (if_pos ⟨hramp, hgate, hwin, by simp [htimer]⟩),
      fun t hdisch ht => congrArg Host.Outcome.next ((if_pos hdisch).trans (by rw [ht]))⟩,
    fun s p n => ⟨fun ht => congrArg Host.Outcome.next (State.write_fx (isReg_vbCmd n) ht (State.effect_vbCmd ..)),
      fun ht => congrArg Host.Outcome.next (State.write_fx (isReg_vbCmd n) ht (State.effect_vbCmd ..))⟩,
    fun s l a b bus => rfl⟩

/-! ### Scan-out (R332-R346) -/

theorem isReg_soCtrl (n : Fin 8) : isReg (soAddr n 0x40) .scanout n 0x40 0 .plain = true := by
  revert n
  decide

theorem isReg_soCmd (n : Fin 8) : isReg (soAddr n 0x68) .scanout n 0x68 0 .plain = true := by
  revert n
  decide

/-- A write to a scan-out page acts through the raster engine's rules. -/
theorem State.effect_scanout (s s0 : State) (n off i w p v : Nat) :
    s.effect s0 ⟨.scanout, n, off, i, w, p, v⟩ = s.soFx s0 ⟨.scanout, n, off, i, w, p, v⟩ := rfl

/-- Settles O53. -/
theorem scanCommandsAct : Obligations.ScanCommandsAct := by
  refine ⟨fun s n hdue => congrArg Host.Outcome.next (if_pos hdue), fun s t n ht hen hdue hsend hout => ?_,
    fun s n hsend hline => congrArg Host.Outcome.next (if_pos (by simp [hsend, hline])),
    fun s n l hfetch => ⟨congrArg Host.Outcome.next (if_pos hfetch), congrArg Host.Outcome.next (if_pos hfetch)⟩,
    fun s p n => ⟨fun ht => congrArg Host.Outcome.next (State.write_fx (isReg_soCtrl n) ht (State.effect_scanout ..)),
      fun ht => congrArg Host.Outcome.next (State.write_fx (isReg_soCtrl n) ht (State.effect_scanout ..)),
      fun ht => congrArg Host.Outcome.next (State.write_fx (isReg_soCmd n) ht (State.effect_scanout ..))⟩⟩
  subst ht
  exact congrArg Host.Outcome.next (if_pos (by simp [hen, hdue, hsend, hout]))

end Sys2Proof.Machine
end

section
/-! The signal bridge: messages, responses, mailbox commands, timers and writes (R349-R364, R397, R398). -/

namespace Sys2Proof.Machine

/-! ### A lane and its messages (R348) -/

theorem State.brLane_setBrLane (s : State) (k : Nat) (l : List SigIn) : (s.setBrLane k l).brLane k = l := (tget_tput ..).trans (if_pos rfl)

theorem State.setBrLane_on (s : State) (k : Nat) (l : List SigIn) (f : Fld) : (s.setBrLane k l).on f = s.on f := rfl

/-- A message that enters an empty lane and is not kept for a hook ring leaves it empty again. -/
theorem State.sigEnter_alone {s t : State} {m : SigIn} {k : Nat} (hk : m.src % 4 = k) (hempty : s.brLane k = [])
    (hrun : (s.setBrLane k [m]).sigRun m = some t) : s.sigEnter m = (t.setBrLane k []).sigDrain := by
  subst hk
  unfold State.sigEnter State.laneGo
  dsimp only
  rw [hempty, List.nil_append, State.brLane_setBrLane]
  simp only [List.length_singleton, State.lanePump, State.brLane_setBrLane, hrun]

/-! ### Messages of a dock device (R350, R354) -/

theorem State.fromDock_enters {s u : State} {n : Fin 16} {t : Fin 32} {ch : BitVec 16} {op : Nat} {due : Option (BitVec 64)} {b : List (BitVec 8)}
    {m : SigIn} (hopen : s.shut = false) (hu : u = (s.cellsIn (48 + n) b.length).cellsOut 65 b.length)
    (hm : m = { src := 48 + n, orig := .dock n t, ch := ch.toNat, op := op, due := due.map (fun t => t.toNat), payload := b,
                tin := s.stampIn (48 + n) 0 }) :
    s.fromDock n t op ch due b = u.sigEnter m := by
  subst hu hm
  exact if_neg (by simp [hopen])

/-! ### Responses on the register channel (R350, R358) -/

theorem State.wrap_get_ne (s : State) {f g : Fld} (d : Nat) (h : g.key ≠ f.key) : (s.wrap f d).get g = s.get g := State.get_set_ne s _ h

theorem State.outUsed_get (s : State) (p : Nat) (f : Fld) : (s.outUsed p).get f = s.get f := rfl

/-- The bridge's own port has no link to wake. -/
theorem State.cellsOut_bridge (s : State) (bytes : Nat) : s.cellsOut 65 bytes = (s.wrap (F.CELLS_OUT_COUNT 65) (cellsOf bytes)).outUsed 65 := by
  unfold State.cellsOut State.wakeLink
  exact if_neg (by decide)

theorem State.crossed_brCtrl (s : State) (n bytes : Nat) :
    ((s.cellsIn (48 + n) bytes).cellsOut 65 bytes).on F.BR_CTRL_EN = s.on F.BR_CTRL_EN := by
  have hout : F.BR_CTRL_EN.key ≠ (F.CELLS_OUT_COUNT 65).key := by decide
  have hin : F.BR_CTRL_EN.key ≠ (F.CELLS_IN_COUNT (48 + n)).key := by
    simp only [F.BR_CTRL_EN, F.CELLS_IN_COUNT, Fld.key]
    omega
  unfold State.on
  rw [State.cellsOut_bridge, State.outUsed_get, State.wrap_get_ne _ _ hout, State.cellsIn, State.wrap_get_ne _ _ hin]

/-- A response of a device on index 0 is taken as such while the bridge is on. -/
theorem State.sigRun_reply {u : State} {m : SigIn} {n t : Nat} (hen : u.on F.BR_CTRL_EN = true) (hhook : m.hook = none) (horig : m.orig = .dock n t)
    (hch : m.ch = 0) (hop : m.op = 0x81 ∨ m.op = 0x82) (hdue : m.due = none) :
    u.sigRun m = some (u.sigReplyBytes n (some t) (m.op == 0x81) m.payload) := by
  unfold State.sigRun
  rw [hhook]
  dsimp only
  rw [horig, if_neg (by simp [hen]), if_pos ⟨by simp [hch], rfl⟩]
  exact if_pos ⟨hch, hop, hdue⟩

theorem leBytes_two (q : BitVec 16) (l : List (BitVec 8)) :
    ((leBytes 2 q.toNat ++ l).getD 0 0).toNat + 256 * ((leBytes 2 q.toNat ++ l).getD 1 0).toNat = q.toNat := by
  have hq := q.isLt
  simp [leBytes]
  omega

/-- A good REG_ACK ends the write it answers. -/
theorem State.reply_ack {u : State} {n t : Nat} {q : BitVec 16} {o : RegOp}
    (hfind : (u.sigTgt (32 * n + t)).out.find? (fun o => o.seq == q.toNat && o.write == true && o.sbu == false) = some o) :
    u.sigReplyBytes n (some t) true (leBytes 2 q.toNat ++ [0]) = u.opGood (32 * n + t) o [] := by
  unfold State.sigReplyBytes State.sigReply
  dsimp only
  rw [leBytes_two, List.findSome?_singleton]
  simp only [Option.isNone_some, hfind, Option.map_some]
  rfl

/-- A good REG_DATA of the length asked for ends the read it answers. -/
theorem State.reply_data {u : State} {n t : Nat} {q : BitVec 16} {d : List (BitVec 8)} {o : RegOp} (hlen : d.length ≤ 232)
    (hfind : (u.sigTgt (32 * n + t)).out.find? (fun o => o.seq == q.toNat && o.write == false && o.sbu == false) = some o)
    (hsame : o.len = d.length) :
    u.sigReplyBytes n (some t) false (leBytes 2 q.toNat ++ [0] ++ (BitVec.ofNat 8 d.length :: [0, 0, 0, 0] ++ d)) = u.opGood (32 * n + t) o d := by
  have hdata : ((leBytes 2 q.toNat ++ [0] ++ (BitVec.ofNat 8 d.length :: [0, 0, 0, 0] ++ d)).drop 8).take
      ((leBytes 2 q.toNat ++ [0] ++ (BitVec.ofNat 8 d.length :: [0, 0, 0, 0] ++ d)).getD 3 0).toNat = d := by
    simp [leBytes, Nat.mod_eq_of_lt (by omega : d.length < 256)]
  unfold State.sigReplyBytes State.sigReply
  dsimp only
  rw [hdata, List.append_assoc, leBytes_two, List.findSome?_singleton]
  simp only [Option.isNone_some, hfind, Option.map_some]
  refine (if_neg fun h => h rfl).trans (if_neg ?_)
  simp [hsame]

/-- A response crosses the core to an empty lane of the bridge and is done there. -/
theorem State.respond_done {s u t' : State} {n : Fin 16} {t : Fin 32} {op : Nat} {q : BitVec 16} {d : List (BitVec 8)} {m : SigIn}
    (hopen : s.shut = false) (hen : s.on F.BR_CTRL_EN = true) (hempty : s.brLane ((48 + n.val) % 4) = [])
    (hu : u = ((s.cellsIn (48 + n) d.length).cellsOut 65 d.length).setBrLane ((48 + n.val) % 4) [m]) (hop : op = 0x81 ∨ op = 0x82)
    (hm : m = { src := 48 + n, orig := .dock n t, ch := 0, op := op, tin := s.stampIn (48 + n) 0,
                payload := leBytes 2 q.toNat ++ [0] ++ (if op = 0x82 then BitVec.ofNat 8 d.length :: [0, 0, 0, 0] ++ d else []) })
    (hreply : u.sigReplyBytes n (some t.val) (op == 0x81) m.payload = t') :
    s.respond n t op q 0 d = (t'.setBrLane ((48 + n.val) % 4) []).sigDrain := by
  have hon : u.on F.BR_CTRL_EN = true := by
    rw [hu, State.setBrLane_on, State.crossed_brCtrl, hen]
  have hmop : m.op = op := by rw [hm]
  have hrun : u.sigRun m = some t' := by
    rw [State.sigRun_reply (n := n) (t := t) hon (by rw [hm]) (by rw [hm]) (by rw [hm]) (hmop ▸ hop) (by rw [hm]), hmop, hreply]
  subst hu
  refine (if_neg (by simp [hopen])).trans ?_
  subst hm
  exact State.sigEnter_alone rfl hempty hrun

theorem regAck_acts {s u : State} {n : Fin 16} {t : Fin 32} {q : BitVec 16} {m : SigIn} {o : RegOp} (hopen : s.shut = false)
    (hen : s.on F.BR_CTRL_EN = true) (hempty : s.brLane ((48 + n.val) % 4) = [])
    (hu : u = ((s.cellsIn (48 + n) 0).cellsOut 65 0).setBrLane ((48 + n.val) % 4) [m])
    (hm : m = { src := 48 + n, orig := .dock n t, ch := 0, op := 0x81, tin := s.stampIn (48 + n) 0, payload := leBytes 2 q.toNat ++ [0] })
    (hfind : (s.sigTgt (32 * n + t)).out.find? (fun o => o.seq == q.toNat && o.write == true && o.sbu == false) = some o) :
    exec (.regAck n t q 0) s = .next (((u.opGood (32 * n + t) o []).setBrLane ((48 + n.val) % 4) []).sigDrain) := by
  have hbr : (u.sigTgt (32 * n + t)).out = (s.sigTgt (32 * n + t)).out := by
    subst hu
    rfl
  have hreply : u.sigReplyBytes n (some t.val) true m.payload = u.opGood (32 * n + t) o [] := by
    subst hm
    exact State.reply_ack (hbr ▸ hfind)
  exact congrArg Host.Outcome.next (State.respond_done (d := []) hopen hen hempty hu (.inl rfl) hm hreply)

theorem regData_acts {s u : State} {n : Fin 16} {t : Fin 32} {q : BitVec 16} {d : List (BitVec 8)} {m : SigIn} {o : RegOp} (hopen : s.shut = false)
    (hen : s.on F.BR_CTRL_EN = true) (hempty : s.brLane ((48 + n.val) % 4) = []) (hlen : d.length ≤ 232)
    (hu : u = ((s.cellsIn (48 + n) d.length).cellsOut 65 d.length).setBrLane ((48 + n.val) % 4) [m])
    (hm : m = { src := 48 + n, orig := .dock n t, ch := 0, op := 0x82, tin := s.stampIn (48 + n) 0,
                payload := leBytes 2 q.toNat ++ [0] ++ (BitVec.ofNat 8 d.length :: [0, 0, 0, 0] ++ d) })
    (hfind : (s.sigTgt (32 * n + t)).out.find? (fun o => o.seq == q.toNat && o.write == false && o.sbu == false) = some o)
    (hsame : o.len = d.length) :
    exec (.regData n t q 0 d) s = .next (((u.opGood (32 * n + t) o d).setBrLane ((48 + n.val) % 4) []).sigDrain) := by
  have hbr : (u.sigTgt (32 * n + t)).out = (s.sigTgt (32 * n + t)).out := by
    subst hu
    rfl
  have hreply : u.sigReplyBytes n (some t.val) false m.payload = u.opGood (32 * n + t) o d := by
    subst hm
    exact State.reply_data hlen (hbr ▸ hfind) hsame
  exact congrArg Host.Outcome.next (State.respond_done hopen hen hempty hu (.inr rfl) hm hreply)

/-! ### Mailbox commands (R357, R359) -/

/-- The release tag that a SIG_SEND's TAG field asks for. -/
def sigSendTag (tag : BitVec 2) (ax : Fin 8) (dir : Bool) (v : BitVec 64) : Tag :=
  if tag = 1 then .time v.toNat else if tag = 2 then .axis ax v.toInt dir else .none

/-- A SIG_SEND with a tag that R357 knows and room in a message is a message of the host. -/
theorem sigSend_enters {s : State} {h : Fin 32} {q : Word} {ch : BitVec 16} {op : BitVec 8} {tag : BitVec 2} {ax : Fin 8} {dir : Bool} {v : BitVec 64}
    {b : List (BitVec 8)} (hruns : s.runs h q.toNat 0x0120 = true) (htag : tag ≠ 3) (hlen : b.length ≤ 244) :
    exec (.sigSend h q ch op tag ax dir v b) s = .next (s.sigEnter
      { src := h, orig := .host h q.toNat, ch := ch.toNat, op := op.toNat, payload := b, tag := sigSendTag tag ax dir v, tin := s.now }) := by
  refine congrArg Host.Outcome.next ((if_pos hruns).trans (if_neg ?_))
  rintro (hthree | hlong)
  · exact htag hthree
  · omega

theorem semTake_acts {s : State} {h : Fin 32} {q : Word} {port tch : BitVec 8} {k : Nat} (hruns : s.runs h q.toNat 0x0124 = true)
    (hen : s.on F.BR_CTRL_EN = true) (hport : port.toNat < 16) (htch : tch.toNat < 32) (hk : k = 32 * port.toNat + tch.toNat) :
    exec (.semTake h q port tch) s = .next (((s.mapSigTgt k (fun x => { x with wait := x.wait ++ [.take h q.toNat] })).sigGo k).sigDrain) := by
  subst hk
  exact congrArg Host.Outcome.next ((if_pos hruns).trans ((if_neg (by simp [hen])).trans (if_neg (by omega))))

/-- A SEM_GIVE goes by the target of its token. -/
theorem semGive_runs {s : State} {h : Fin 32} {q : Word} (hruns : s.runs h q.toNat 0x0125 = true) (hen : s.on F.BR_CTRL_EN = true) :
    (∀ k, s.tokTarget (s.cmdToken h q.toNat) = some k → exec (.semGive h q) s = .next ((((s.semFree k).complete h q.toNat 0 0).sigGo k).sigDrain)) ∧
    (s.tokTarget (s.cmdToken h q.toNat) = none → exec (.semGive h q) s = .next ((s.stale 4).cmdFail h q.toNat .stale)) := by
  refine ⟨fun k htok => congrArg Host.Outcome.next ((if_pos hruns).trans ((if_neg (by simp [hen])).trans ?_)),
    fun htok => congrArg Host.Outcome.next ((if_pos hruns).trans ((if_neg (by simp [hen])).trans ?_))⟩
  · rw [htok]
  · rw [htok]

/-! ### Timers (R358-R364, R397) -/

theorem State.pollDue_sends {s : State} {e n t : Nat} (hpl : s.on (F.PL_CTRL_EN e) = true) (hen : s.on F.BR_CTRL_EN = true)
    (hbusy : s.on (F.PL_STAT_BUSY e) = false) (hn : n = s.get (F.PL_CTRL_PORT e)) (ht : t = 32 * n + s.get (F.PL_CTRL_TCH e))
    (hsem : (s.sigTgt t).sem = .free) (hsbu : s.pollSbu e n = false) :
    s.pollDue e = (((s.opNum.2.set (F.PL_STAT_BUSY e) 1).set (F.PL_STAT_VIA_SBU e) 0).mapSigTgt t (fun x => { x with
      wait := x.wait ++ [.op { num := s.opNum.1, write := false, addr := s.get (F.PL_ADDR_ADDR e), len := s.get (F.PL_CTRL_LEN e),
                               why := .poll e }] })).sigGo t := by
  subst ht hn
  unfold State.pollDue
  dsimp only
  rw [if_neg (by simp [hpl]), if_neg (by simp [hbusy, hsem]), if_neg (by simp [hen]), if_neg (by simp [hsbu])]

theorem State.raDrop_found {s : State} {b c : Nat} {e : Nat × RaBuf} (hfind : s.br.bufs.find? (fun e => e.1 == b) = some e) :
    s.raDrop b c = (s.mapBr (fun r => { r with bufs := tdel r.bufs b })).dpfLog e.2 c := by
  unfold State.raDrop
  rw [hfind]

theorem State.hookFail_head {s : State} {k : Nat} {m : SigIn} {l : List SigIn} {r : SigReason} (hlane : s.brLane k = m :: l)
    (hhook : m.hook.isSome = true) : s.hookFail k r = ((s.setBrLane k l).sigFail m.orig m.src m.ch m.op 65 r).laneGo k := by
  unfold State.hookFail
  rw [hlane]
  exact if_pos hhook

theorem regTimeout_acts {s : State} {n : Fin 16} {t : Fin 32} {q : BitVec 16} {o : RegOp}
    (hfind : (s.sigTgt (32 * n.val + t.val)).out.find? (fun o => o.seq == q.toNat) = some o) :
    exec (.regTimeout n t q) s = .next ((s.opFail (32 * n.val + t.val) o.num .timeout).sigDrain) := by
  refine congrArg Host.Outcome.next ?_
  rw [hfind]

theorem semWaitTimeout_acts {s : State} {h : Fin 32} {q : Word} {k : Nat} {x : SigTarget}
    (hfind : s.br.tgts.find? (fun e => e.2.wait.contains (.take h q.toNat)) = some (k, x)) :
    exec (.semWaitTimeout h q) s = .next ((((s.mapSigTgt k (fun x => { x with wait := x.wait.erase (.take h q.toNat) })).cmdFail h q.toNat
      .semBusy).sigGo k).sigDrain) := by
  refine congrArg Host.Outcome.next ?_
  rw [hfind]

/-! ### Register writes (R353, R364, R398) -/

theorem isReg_rtW0 : isReg 0x902044 .bridge2 0 0x44 0 (.win .rtSel) = true := by decide

theorem isReg_dpfStat : isReg 0x905044 .bridge5 0 0x44 0 .plain = true := by decide

theorem isReg_engBrcmd (e : Fin 24) : isReg (0xA1005C + 0x1000 * e.val) .engpage e 0x5C 0 .plain = true := by
  revert e
  decide

theorem State.effect_rtW0 (s s0 : State) (n w p v : Nat) : s.effect s0 ⟨.bridge2, n, 0x44, 0, w, p, v⟩ = s.brFx s0 ⟨.bridge2, n, 0x44, 0, w, p, v⟩ :=
  rfl

/-- DPF_STAT.CLR empties the log of discarded prefetches. -/
theorem State.effect_dpfClr (s s0 : State) (n w p : Nat) : s.effect s0 ⟨.bridge5, n, 0x44, 0, w, p, 1⟩ = s.set F.DPF_STAT_FILL 0 := by
  have hfx : s.effect s0 ⟨.bridge5, n, 0x44, 0, w, p, 1⟩ = s.brFx s0 ⟨.bridge5, n, 0x44, 0, w, p, 1⟩ := rfl
  rw [hfx, State.brFx, if_neg (by simp), if_neg (by simp), if_pos ⟨rfl, rfl, hasBit_one_zero⟩]

/-- ENG_BRCMD of a bridge engine sends its message. -/
theorem State.effect_engBrcmd (s s0 : State) {e : Nat} (i w p v : Nat) (hlow : 19 ≤ e) (hhigh : e < 23) (hv : v < 2 ^ 18) :
    s.effect s0 ⟨.engpage, e, 0x5C, i, w, p, v⟩ = s.engSend e v := by
  have hfx : s.effect s0 ⟨.engpage, e, 0x5C, i, w, p, v⟩ = s.engFx ⟨.engpage, e, 0x5C, i, w, p, v⟩ := rfl
  rw [hfx, State.engFx, if_neg (by simp), if_neg (by simp), if_neg (by simp), if_pos ⟨rfl, rfl, hlow, hhigh⟩, Nat.mod_eq_of_lt hv]

/-- Settles O54. -/
theorem bridgeCommandsAct : Obligations.BridgeCommandsAct :=
  ⟨fun s u n t ch due b m hopen hu hm =>
      ⟨congrArg Host.Outcome.next (State.fromDock_enters hopen hu hm), congrArg Host.Outcome.next (State.fromDock_enters hopen hu (by rw [hm]))⟩,
    fun s n t ch q due b hshut =>
      ⟨congrArg Host.Outcome.next (if_pos hshut), congrArg Host.Outcome.next (if_pos hshut), congrArg Host.Outcome.next (if_pos hshut)⟩,
    fun s n t q st d => ⟨rfl, rfl⟩,
    fun s u n t q m o hopen hen hempty hu hm hfind => regAck_acts hopen hen hempty hu hm hfind,
    fun s u n t q d m o hopen hen hempty hlen hu hm hfind hsame => regData_acts hopen hen hempty hlen hu hm hfind hsame,
    fun s h q ch op ax dir v b hruns => ⟨fun hlen => sigSend_enters (tag := 0) hruns (by decide) hlen,
      fun hlen => sigSend_enters (tag := 1) hruns (by decide) hlen, fun hlen => sigSend_enters (tag := 2) hruns (by decide) hlen,
      fun hlong => congrArg Host.Outcome.next ((if_pos hruns).trans (if_pos (.inr hlong)))⟩,
    fun s h q port tch len a ha hruns => congrArg Host.Outcome.next (if_pos hruns),
    fun s h q port tch len a d hruns => congrArg Host.Outcome.next (if_pos hruns),
    fun s h q port tch len a am xm hruns => congrArg Host.Outcome.next (if_pos hruns),
    fun s h q port tch k hruns hen hport htch hk => semTake_acts hruns hen hport htch hk,
    fun s h q hruns hen => semGive_runs hruns hen,
    fun s n t q o hfind => regTimeout_acts hfind,
    fun s h q k x hfind => semWaitTimeout_acts hfind,
    fun s n t htok => congrArg Host.Outcome.next (if_pos htok),
    fun s e => rfl,
    fun s b => rfl,
    fun s b e hfind => congrArg Host.Outcome.next (State.raDrop_found hfind),
    fun s e n t hpl hen hbusy hn ht hsem hsbu =>
      congrArg Host.Outcome.next (congrArg State.sigDrain (State.pollDue_sends hpl hen hbusy hn ht hsem hsbu)),
    fun s k m l hlane hhook => congrArg Host.Outcome.next (State.hookFail_head hlane hhook),
    fun s p v ht => congrArg Host.Outcome.next (State.write_fx isReg_rtW0 ht (State.effect_rtW0 ..)),
    fun s p ht => congrArg Host.Outcome.next (State.write_fx isReg_dpfStat ht (State.effect_dpfClr ..)),
    fun s p e o hlow hhigh ht => congrArg Host.Outcome.next (State.write_fx (isReg_engBrcmd e) ht
      (State.effect_engBrcmd _ _ _ _ _ _ hlow hhigh o.isLt))⟩

end Sys2Proof.Machine
end

section
/-! Engine control: CSRs, waits, returns, traps, checkpoints, programs and the ENGINES registers (R387-R399). -/

namespace Sys2Proof.Machine

/-! ### One bit of a word -/

/-- Setting a clear bit leaves every other bit. -/
theorem hasBit_add_pow {v b c : Nat} (hne : c ≠ b) (hclear : hasBit v b = false) : hasBit (v + 2 ^ b) c = hasBit v c := by
  have heven : v / 2 ^ b % 2 = 0 := by
    have hnot : v / 2 ^ b % 2 ≠ 1 := by simpa [hasBit] using hclear
    omega
  unfold hasBit
  rcases Nat.lt_or_gt_of_ne hne with hlt | hgt
  · obtain ⟨k, rfl⟩ := Nat.exists_eq_add_of_lt hlt
    have hpow : v + 2 ^ (c + k + 1) = v + 2 ^ c * (2 * 2 ^ k) := by rw [Nat.add_assoc, Nat.pow_add, Nat.pow_succ']
    rw [hpow, Nat.add_mul_div_left _ _ (Nat.two_pow_pos c), Nat.add_mul_mod_self_left]
  · obtain ⟨k, rfl⟩ := Nat.exists_eq_add_of_lt hgt
    have hpow : 2 ^ (b + k + 1) = 2 ^ b * 2 * 2 ^ k := by rw [Nat.add_assoc, Nat.pow_add, Nat.pow_succ', Nat.mul_assoc]
    have hhalf : (v / 2 ^ b + 1) / 2 = v / 2 ^ b / 2 := by omega
    rw [hpow, ← Nat.div_div_eq_div_mul, ← Nat.div_div_eq_div_mul, ← Nat.div_div_eq_div_mul, ← Nat.div_div_eq_div_mul,
      Nat.add_div_right _ (Nat.two_pow_pos b), hhalf]

/-- Setting or clearing a bit leaves every other bit. -/
theorem hasBit_putBit_ne {b c : Nat} (v : Nat) (x : Bool) (hne : c ≠ b) : hasBit (putBit v b x) c = hasBit v c := by
  have hsame := hasBit_putBit_same v b false
  unfold putBit at hsame ⊢
  split
  · next hset =>
    cases x
    · rw [if_pos hset, if_neg Bool.false_ne_true] at hsame
      have hle : 2 ^ b ≤ v := Nat.le_of_not_lt fun hlt => by simp [hasBit, Nat.div_eq_of_lt hlt] at hset
      have hback := hasBit_add_pow hne hsame
      rw [Nat.sub_add_cancel hle] at hback
      exact hback.symm
    · rfl
  · next hclear =>
    cases x
    · rfl
    · exact hasBit_add_pow hne (Bool.eq_false_iff.mpr hclear)

/-! ### Instructions that change the core alone (R387-R389) -/

/-- An instruction that answers its core and nothing more. -/
theorem State.instr_core {s : State} {e : Nat} {f : State → EngCore → State} {c : EngCore} (h : s.engReady e = true)
    (hf : ∀ u, f u (s.engCore e) = u.setCore e c) : (s.instr e f).engCore e = c ∧ (s.instr e f).mem = s.mem := by
  rw [State.instr_ready h, hf]
  exact ⟨State.ranTo_engCore h c, rfl⟩

/-- A trap outside a trap and a fast handler enters the normal handler (R389). -/
theorem State.engTrap_enters {s : State} {e cause imm : Nat} (h : s.engReady e = true) (htrap : (s.engCore e).trap = false)
    (hfast : (s.engCore e).inFast = false) {f : State → EngCore → State} (hf : ∀ u c, f u c = u.engTrap e cause imm) :
    ((s.instr e f).engCore e).npc = (s.engCore e).pc ∧ ((s.instr e f).engCore e).pc = (s.engCore e).nvec ∧
      ((s.instr e f).engCore e).cause = cause + 256 * imm ∧ ((s.instr e f).engCore e).trap = true ∧ ((s.instr e f).engCore e).inNormal = true ∧
      ((s.instr e f).engCore e).alt = false := by
  have hown := State.mirrors_fetch h ((s.engCore e).pc / 4)
  have hcore : (s.set (F.ENG_PC_PC e) ((s.engCore e).pc / 4)).engCore e = s.engCore e := by
    rw [State.engCore_own hown, State.engCore_own (State.engReady_iff h).1]
    rfl
  rw [State.instr_ready h, hf, State.engTrap, hcore, if_neg (by simp [htrap, hfast]), State.engCore_setCore _ hown]
  exact ⟨rfl, rfl, rfl, hasBit_putBit_same .., (hasBit_putBit_ne _ _ (by decide)).trans (hasBit_putBit_same ..), rfl⟩

/-- WAIT goes on behind itself, sleeping or not (R388). -/
theorem State.wait_core {s : State} {e : Fin 24} (h : s.engReady e = true) :
    Answers (exec (.wait e) s) (fun t => (t.engCore e).pc = ((s.engCore e).pc + 4) % 2 ^ 32 ∧
      (t.get (F.ENG_STAT_STATE e) = 2 ∨ t.get (F.ENG_STAT_STATE e) = 3)) := by
  have hkeys : (F.ENG_STAT_STATE e).key ≠ (F.ENG_PC_PC e).key ∧ F.LOCK_STAT_MGMT.key ≠ (F.ENG_STAT_STATE e).key := by
    simp only [F.ENG_STAT_STATE, F.ENG_PC_PC, F.LOCK_STAT_MGMT, Fld.key]
    omega
  refine ⟨_, congrArg Host.Outcome.next (State.instr_ready h _), ?_⟩
  dsimp only
  split
  · exact ⟨congrArg EngCore.pc (State.ranTo_engCore h _), .inl ((State.get_set_ne s _ hkeys.1).trans (State.engReady_iff h).2.1)⟩
  · refine ⟨?_, .inr (State.get_set ..)⟩
    have hown := (State.mirrors_setCore (s.set (F.ENG_PC_PC e) ((s.engCore e).pc / 4)) e e ((s.engCore e).next 1)).trans (State.mirrors_fetch h _)
    rw [State.engCore_own ((State.mirrors_set _ _ _ hkeys.2).trans hown)]
    exact congrArg EngCore.pc ((State.engCore_own hown).symm.trans (State.ranTo_engCore h _))

/-! ### Checkpoints (R391) -/

/-- Writing the journal into EN02's memory leaves every core. -/
theorem State.journal_engCore (l : List (Nat × Nat)) (s : State) (e : Nat) :
    (l.foldl (fun v w => v.setEngWord 2 1 w.1 w.2) s).engCore e = s.engCore e := by
  induction l generalizing s with
  | nil => rfl
  | cons w l ih => exact (ih _).trans rfl

theorem ckpt_acts {s t u : State} (h : s.engReady 0 = true) (ht : t = (s.set (F.ENG_PC_PC 0) ((s.engCore 0).pc / 4)).setCore 0 ((s.engCore 0).next 1))
    (hu : u = t.engs.journal.foldl (fun v w => v.setEngWord 2 1 w.1 w.2) t) :
    (t.paired = true → t.engRuns 2 = true → exec (.ckpt 0) s =
      .next (((u.setEngs { u.engs with journal := [], ckpt := some (u.engCore 0) }).set F.LOCK_STAT_EN02_READY 1).sat F.CKPT_COUNT_COUNT)) ∧
    (t.paired = false ∨ t.engRuns 2 = false → exec (.ckpt 0) s = .next t) := by
  have hexec : exec (.ckpt 0) s = .next t.ckptNow := by
    subst ht
    exact congrArg Host.Outcome.next (State.instr_ready h _)
  rw [hexec]
  refine ⟨fun hpair hruns => congrArg Host.Outcome.next ((if_pos (by simp [hpair, hruns])).trans ?_),
    fun hnot => congrArg Host.Outcome.next (if_neg ?_)⟩
  · rw [hu, State.journal_engCore]
  · rcases hnot with h | h <;> simp [h]

/-! ### Programs (R396) -/

/-- A load by the fabric manager's host into a bridge engine stops it, and goes by the program. -/
theorem engLoad_runs {s t : State} {h : Fin 32} {q : Word} {e : BitVec 8} {b : List (BitVec 8)} (hruns : s.runs h q.toNat 0x0130 = true)
    (hreq : s.get F.FM_PATH_REQ = h) (hlow : 19 ≤ e.toNat) (hhigh : e.toNat ≤ 22) (hlen : b.length < 2 ^ 32)
    (ht : t = (s.engStop e.toNat 0).clearMem e.toNat) :
    (∀ err g, progBad b = some err → exec (.engLoad h q e b (BitVec.ofNat 32 b.length) g) s = .next (t.loadFails h q.toNat e.toNat err)) ∧
    (∀ g, progBad b = none → s.progSigned g = false → exec (.engLoad h q e b (BitVec.ofNat 32 b.length) g) s = .next (t.loadFails h q.toNat e.toNat 8)) ∧
    (∀ g, progBad b = none → s.progSigned g = true → exec (.engLoad h q e b (BitVec.ofNat 32 b.length) g) s =
      .next (((((t.loadWords e.toNat 0 (wordsOf ((b.drop 64).take (prog32 b 8)))).loadWords e.toNat 1
        (wordsOf ((b.drop (64 + prog32 b 8)).take (prog32 b 12)))).engStart e.toNat (4 * prog32 b 16)).raise 3845).complete h q.toNat 0 0)) := by
  have hwhole : ¬b.length ≠ (BitVec.ofNat 32 b.length).toNat := not_not_intro (by rw [BitVec.toNat_ofNat, Nat.mod_eq_of_lt hlen])
  subst ht
  refine ⟨fun err g hbad => ?_, fun g hgood hsig => ?_, fun g hgood hsig => ?_⟩ <;>
    refine congrArg Host.Outcome.next ((if_pos hruns).trans ((if_neg (not_not_intro hreq)).trans ((if_neg (by omega)).trans ((if_neg hwhole).trans ?_))))
  · rw [hbad]
  · rw [hgood]
    exact if_pos (by simp [hsig])
  · rw [hgood]
    exact if_neg (by simp [hsig])

theorem engStop_runs {s : State} {h : Fin 32} {q : Word} {e : BitVec 8} (hruns : s.runs h q.toNat 0x0131 = true) (hreq : s.get F.FM_PATH_REQ = h)
    (hlow : 19 ≤ e.toNat) (hhigh : e.toNat ≤ 22) (heng : s.engRuns e.toNat = true) :
    exec (.engStop h q e) s = .next ((s.engStop e.toNat 4).complete h q.toNat 0 0) :=
  congrArg Host.Outcome.next ((if_pos hruns).trans ((if_neg (not_not_intro hreq)).trans ((if_neg (by omega)).trans
    (congrArg (fun t : State => t.complete h q.toNat 0 0) (if_pos heng)))))

/-! ### The ENGINES registers (R399) -/

theorem isReg_engCtrl (e : Fin 24) : isReg (0xA10040 + 0x1000 * e.val) .engpage e 0x40 0 .plain = true := by
  revert e
  decide

theorem isReg_mwData : isReg 0xA01048 .engine1 0 0x48 0 .plain = true := by decide

/-- A write to an engine's page, or to the memory window, acts through the engines' rules. -/
theorem State.effect_engpage (s s0 : State) (n off i w p v : Nat) : s.effect s0 ⟨.engpage, n, off, i, w, p, v⟩ = s.engFx ⟨.engpage, n, off, i, w, p, v⟩ :=
  rfl

theorem State.effect_engine1 (s s0 : State) (n off i w p v : Nat) : s.effect s0 ⟨.engine1, n, off, i, w, p, v⟩ = s.engFx ⟨.engine1, n, off, i, w, p, v⟩ :=
  rfl

/-- Settles O57. -/
theorem engineControlActs : Obligations.EngineControlActs := by
  refine ⟨fun s e gd ga h => ⟨?_, ?_, ?_, ?_, ?_, ?_, fun he => ?_, State.wait_core h, fun htrap hfast => ⟨fun i => ?_, ?_⟩⟩,
    fun s t u h ht hu => ckpt_acts h ht hu,
    fun s e hown hruns => ⟨fun hok => congrArg Host.Outcome.next (if_pos (by simp [hown, hruns, hok])),
      fun hok => congrArg Host.Outcome.next (if_pos (by simp [hown, hruns, hok])), congrArg Host.Outcome.next (if_pos (by simp [hown, hruns]))⟩,
    fun s e hruns hpair => congrArg Host.Outcome.next ((if_neg (by simp [hruns])).trans (if_neg (by simpa using fun h => absurd h (by simpa using hpair)))),
    fun s hruns => congrArg Host.Outcome.next (if_pos hruns),
    fun s hlock hruns => congrArg Host.Outcome.next (if_pos ⟨hlock, hruns⟩),
    fun s t h q e b hruns hreq hlow hhigh hlen ht => engLoad_runs hruns hreq hlow hhigh hlen ht,
    fun s h q e hruns hreq hlow hhigh heng => engStop_runs hruns hreq hlow hhigh heng,
    fun s p e => ⟨fun ht => congrArg Host.Outcome.next (State.write_fx (isReg_engCtrl e) ht (State.effect_engpage ..)),
      fun ht => congrArg Host.Outcome.next (State.write_fx (isReg_engCtrl e) ht (State.effect_engpage ..))⟩,
    fun s p => rfl,
    fun s p v ht => congrArg Host.Outcome.next (State.write_fx isReg_mwData ht (State.effect_engine1 ..))⟩
  case refine_1 => exact ⟨_, congrArg Host.Outcome.next (State.instr_ready h _), regWritten_setCore h rfl⟩
  case refine_2 => exact ⟨_, congrArg Host.Outcome.next (State.instr_ready h _), regWritten_setCore h rfl⟩
  case refine_3 =>
    rw [State.g_toNat]
    exact ⟨_, rfl, State.instr_core h fun u => rfl⟩
  case refine_4 => exact ⟨_, rfl, State.instr_core h fun u => rfl⟩
  case refine_5 =>
    refine ⟨_, congrArg Host.Outcome.next (State.instr_ready h _), ?_⟩
    refine ⟨congrArg EngCore.pc (State.ranTo_engCore h _), ?_, ?_, ?_, rfl⟩
    · exact (congrArg EngCore.inNormal (State.ranTo_engCore h _)).trans ((hasBit_putBit_ne _ _ (by decide)).trans (hasBit_putBit_same ..))
    · exact (congrArg EngCore.trap (State.ranTo_engCore h _)).trans (hasBit_putBit_same ..)
    · exact (congrArg EngCore.inFast (State.ranTo_engCore h _)).trans
        ((hasBit_putBit_ne _ _ (by decide)).trans (hasBit_putBit_ne _ _ (by decide)))
  case refine_6 =>
    refine ⟨_, congrArg Host.Outcome.next (State.instr_ready h _), ?_⟩
    refine ⟨congrArg EngCore.pc (State.ranTo_engCore h _), ?_, congrArg EngCore.alt (State.ranTo_engCore h _), ?_, rfl⟩
    · exact (congrArg EngCore.inFast (State.ranTo_engCore h _)).trans (hasBit_putBit_same ..)
    · exact (congrArg EngCore.inNormal (State.ranTo_engCore h _)).trans (hasBit_putBit_ne _ _ (by decide))
  case refine_7 =>
    exact ⟨_, congrArg Host.Outcome.next ((State.instr_ready h _).trans (if_neg he)), congrArg EngCore.pc (State.ranTo_engCore h _), rfl⟩
  case refine_8 => exact ⟨_, rfl, State.engTrap_enters h htrap hfast fun _ _ => rfl⟩
  case refine_9 =>
    obtain ⟨hnpc, hpc, hcause, htrapped, hnormal, _⟩ := State.engTrap_enters h htrap hfast (cause := 1) (imm := 0) (f := fun s _ => s.engTrap e 1 0) fun _ _ => rfl
    exact ⟨_, rfl, hnpc, hpc, hcause, htrapped, hnormal⟩

end Sys2Proof.Machine
end

section
/-! Power, starts and the shutdown test (R400-R421, R447): what PORST_N records of a shutdown that runs. -/

namespace Sys2Proof.Machine

/-- A die held off by a thermal trip that has cooled down, with the shutdown's run bit set. -/
def cooledInShutdown : State := { pwr := { dark := [6], cool := true }, rep := { run := true } }

set_option maxRecDepth 4000 in
/-- PORST_N ends the running shutdown unrecorded (BIST_STAT.PHASE 5); the cold start alone leaves PHASE as it was. -/
theorem cooledInShutdown_phase :
    cooledInShutdown.porst.get F.BIST_STAT_PHASE ≠ (((cooledInShutdown.undark 6).coldStart 6 false).raise 31).get F.BIST_STAT_PHASE := by decide

/-- Refutes O58: the clause for PORST_N on a die that a thermal trip holds off and that has cooled down leaves out the running shutdown, whose
test PORST_N ends with BIST_STAT.PHASE 5 (R447) before the cold start, which keeps that register. -/
theorem not_powerCommandsAct : ¬ Obligations.PowerCommandsAct := by
  intro h
  obtain ⟨_, _, _, _, _, _, _, _, _, _, _, _, _, hdark, _⟩ := h
  obtain ⟨_, _, hcool⟩ := hdark cooledInShutdown rfl
  exact cooledInShutdown_phase (congrArg (fun t => t.get F.BIST_STAT_PHASE) (Host.Outcome.next.inj (hcool rfl).1))

end Sys2Proof.Machine
end

section
/-! Keys, sessions, the life cycle and OTP (R422-R439). -/

namespace Sys2Proof.Machine

/-! ### The registers (R424, R427, R432, R437, R439) -/

theorem isReg_kvCmd : isReg 0x1002040 .key2 0 0x40 0 .perPath = true := by decide

theorem isReg_drbgStat : isReg 0x1000060 .key0 0 0x60 0 .plain = true := by decide

theorem isReg_rootCmd : isReg 0x1000048 .key0 0 0x48 0 .plain = true := by decide

theorem isReg_lcReq : isReg 0x1044 .global1 0 0x44 0 .plain = true := by decide

theorem isReg_otpCmd : isReg 0x1230048 .otp48 0 0x48 0 .plain = true := by decide

/-- A word whose top bit is set, with 31 bits below it. -/
theorem hasBit_31_of_lt {v : Nat} (h : v < 2 ^ 31) : hasBit (2 ^ 31 + v) 31 = true := by
  have hone : (2 ^ 31 + v) / 2 ^ 31 % 2 = 1 := by omega
  unfold hasBit
  rw [hone]
  rfl

/-- Every command of the vault is a KV_CMD word with GO. -/
theorem kvWord_go (op : Fin 16) (t c : BitVec 8) (a : BitVec 2) (x : Bool) : hasBit (kvWord op t.toNat c.toNat a.toNat x) 31 = true := by
  have ht := t.isLt
  have hc := c.isLt
  have ha := a.isLt
  have hop := op.isLt
  have hx : b2n x ≤ 1 := by cases x <;> decide
  have hword : kvWord op t.toNat c.toNat a.toNat x = 2 ^ 31 + (65536 * t.toNat + 256 * c.toNat + 64 * b2n x + 16 * a.toNat + op) := by
    unfold kvWord
    omega
  rw [hword]
  exact hasBit_31_of_lt (by omega)

/-- KV_CMD with GO runs the path's command. -/
theorem State.effect_kvCmd (s s0 : State) {v : Nat} (n i w p : Nat) (hgo : hasBit v 31 = true) : s.effect s0 ⟨.key2, n, 0x40, i, w, p, v⟩ = s.kvRun p :=
  if_pos ⟨rfl, hgo⟩

/-- A command of the vault is a write of KV_CMD. -/
theorem kvCmd_acts {s : State} {p : Path} {v : Nat} (ht : s.takes p 0x1002040 v) (hgo : hasBit v 31 = true) :
    (Host.Outcome.next (s.write p 0x1002040 v 15) : Res) = .next (((s.storeAt (pathCode p) 0x1002040 v).kvRun (pathCode p)).settled) :=
  congrArg Host.Outcome.next (State.write_fx isReg_kvCmd ht (State.effect_kvCmd _ _ _ _ _ _ hgo))

/-- A write to the page of the DRBG and the root cell acts through the vault's rules. -/
theorem State.effect_key0 (s s0 : State) (n off i w p v : Nat) : s.effect s0 ⟨.key0, n, off, i, w, p, v⟩ = s.vaultFx s0 ⟨.key0, n, off, i, w, p, v⟩ := rfl

theorem State.effect_rootGen (s s0 : State) (n i w p : Nat) : s.effect s0 ⟨.key0, n, 0x48, i, w, p, 1⟩ = s.rootGen :=
  if_pos ⟨rfl, hasBit_one_zero⟩

theorem State.effect_lcReq (s s0 : State) (n i w p : Nat) (k : BitVec 8) (t : BitVec 3) :
    s.effect s0 ⟨.global1, n, 0x44, i, w, p, 256 * k.toNat + t.toNat⟩ = s.lcAccept t.toNat := by
  have ht := t.isLt
  have hbits : bits (256 * k.toNat + t.toNat) 0 3 = t.toNat := by
    unfold bits
    omega
  show (if 0x44 = 0x44 then s.lcAccept (bits (256 * k.toNat + t.toNat) 0 3) else s) = _
  rw [if_pos rfl, hbits]

theorem State.effect_otpGo (s s0 : State) (n i w p : Nat) (x : BitVec 8) : s.effect s0 ⟨.otp48, n, 0x48, i, w, p, 2 ^ 31 + x.toNat⟩ = s.otpGo :=
  if_pos ⟨rfl, hasBit_31_of_lt (by have := x.isLt; omega)⟩

/-! ### Tampers (R434) -/

/-- What a tamper erases and records before the fabric die acts. -/
def State.tampered (s : State) (src : Nat) : State :=
  (s.eraseRoot.sets [(F.TAMPER_STAT_LAST, 2 ^ src), (F.TAMPER_STAT_LATCH, putBit (s.get F.TAMPER_STAT_LATCH) src true),
    (F.TAMPER_TIME_S, s.vault.secs / 1000000000)]).sat F.TAMPER_COUNT_COUNT

theorem tamperTrip_acts {s : State} {src : Fin 8} (hen : hasBit (s.get F.TAMPER_EN_SRC) src = true) (hlit : s.isDark = false) :
    exec (.tamperTrip src) s = .next (s.tampered src).tamperFabric :=
  congrArg Host.Outcome.next ((if_pos hen).trans (if_neg (by simp [hlit])))

/-! ### SPDM (R430) -/

/-- A request that the responder can answer is answered. -/
theorem spdmReq_answers {s t : State} {h code : Nat} {ok : Bool} {f : State → State × Option (List (BitVec 8))} {b : Option (List (BitVec 8))}
    (hon : s.spdmOn h = true) (hok : ok = true) (hf : f s = (t, b)) : (Host.Outcome.next (s.spdmReq h code ok f) : Res) = .next (t.spdmAns h code b) := by
  subst hok
  refine congrArg Host.Outcome.next ((if_pos hon).trans ((if_pos rfl).trans ?_))
  rw [hf]

/-- What the responder answers once the algorithms have been negotiated. -/
theorem spdmNegotiated_answers {s : State} {h : Fin 32} (hon : s.spdmOn h = true) (halgs : (s.spdm h).algs = true) :
    (∀ l : List (BitVec 8), exec (.getDigests h l) s = .next (s.spdmAns h 4 (some (leBytes 48 (Config.sha384 (l.take 16384)))))) ∧
    (∀ (o n : BitVec 16) (l : List (BitVec 8)), exec (.getCertificate h 0 o n l) s =
      .next (s.spdmAns h 5 (some (((l.take 16384).drop o.toNat).take n.toNat)))) ∧
    exec (.getMeasurements h 0) s = .next (s.spdmAns h 7 (some [4])) ∧
    (∀ i : BitVec 8, 1 ≤ i.toNat → i.toNat ≤ 4 → exec (.getMeasurements h i) s = .next (s.spdmAns h 7 (some (s.measure384 i.toNat)))) ∧
    (∀ (k : Nat) (x : BitVec 256), s.scalar = some k → exec (.challenge h 0 x) s =
        .next (s.fresh.2.spdmAns h 6 (some (Config.sign k (leBytes 32 x.toNat) s.fresh.1))) ∧
      exec (.keyExchange h 0 x) s = .next ((s.fresh.2.fresh.2.setSpdm h { s.spdm h with sess := 1 }).spdmAns h 8
        (some (Config.ecdhPublic s.fresh.1 ++ Config.sign k (leBytes 32 x.toNat ++ Config.ecdhPublic s.fresh.1) s.fresh.2.fresh.1)))) := by
  refine ⟨fun l => spdmReq_answers hon halgs rfl, fun o n l => spdmReq_answers hon (by simp [halgs]) rfl, spdmReq_answers hon (by simp [halgs]) rfl,
    fun i hlow hhigh => spdmReq_answers hon (by simp [halgs, hhigh]) ?_, fun k x hk =>
      ⟨spdmReq_answers hon (by simp [halgs, hk]) ?_, spdmReq_answers hon (by simp [halgs, hk]) ?_⟩⟩
  · rw [if_neg (by omega), if_neg (by omega)]
  · rw [hk]
    rfl
  · rw [hk]
    rfl

/-! ### Life cycle and OTP (R437-R439) -/

theorem lcReq_jtag {s : State} {k : BitVec 8} {t : BitVec 3} (hlit : s.isDark = false) :
    (k ≠ 0x5A → exec (.lcReq .jtag k t) s = .next (s.jtagRefuse .badValue)) ∧
    (k = 0x5A → s.lcAllowed none t.toNat = true → exec (.lcReq .jtag k t) s = .next (s.lcAccept t.toNat)) ∧
    (k = 0x5A → s.lcAllowed none t.toNat = false → exec (.lcReq .jtag k t) s = .next (s.jtagRefuse .lifeCycle)) := by
  have hdark : ¬s.isDark = true := by simp [hlit]
  refine ⟨fun hkey => congrArg Host.Outcome.next ((if_neg hdark).trans (if_pos fun h => hkey (BitVec.eq_of_toNat_eq h))),
    fun hkey hok => congrArg Host.Outcome.next ((if_neg hdark).trans ((if_neg (not_not_intro (congrArg BitVec.toNat hkey))).trans (if_pos hok))),
    fun hkey hbad => congrArg Host.Outcome.next ((if_neg hdark).trans ((if_neg (not_not_intro (congrArg BitVec.toNat hkey))).trans (if_neg (by simp [hbad]))))⟩

theorem lcBlowDone_acts {s : State} {t : Nat} (hblow : s.otp.blow = some t) : exec .lcBlowDone s = .next ((s.lcBlow t).warmStart 4) := by
  refine congrArg Host.Outcome.next ?_
  rw [hblow]

theorem otpWriteDone_acts {s u : State} {id g : Nat} {data : List Nat} (hbusy : s.otp.busy = some (id, g, data))
    (hu : u = (s.set F.OTP_STAT_BUSY 0).mapOtp (fun o => { o with busy := none })) :
    exec (.otpWriteDone true) s = .next (((u.otpPut (slotAt id g) (recHeader id g :: data ++ [crcWords (recHeader id g :: data)])).sets
      [(F.OTP_STAT_RESULT, 0), (F.OTP_STAT_GEN, g)]).raise 4080) ∧
    exec (.otpWriteDone false) s = .next (((((List.range (data.length + 2)).foldl (fun s i =>
      s.fresh.2.otpPut (slotAt id g + i) [s.fresh.1 % 2 ^ 32]) u).mapOtp (fun o => { o with bad := (4 * id + g) :: o.bad })).set F.OTP_STAT_RESULT 3).raise 4081) := by
  subst hu
  refine ⟨congrArg Host.Outcome.next ?_, congrArg Host.Outcome.next ?_⟩ <;>
  · unfold State.otpDone
    rw [hbusy]
    rfl

/-- Settles O59. -/
theorem vaultCommandsAct : Obligations.VaultCommandsAct :=
  ⟨fun s p t c a x => ⟨fun ht => kvCmd_acts ht (kvWord_go 1 t 0 a x), fun ht => kvCmd_acts ht (kvWord_go 2 t c a x),
      fun ht => kvCmd_acts ht (kvWord_go 3 t c a x), fun ht => kvCmd_acts ht (kvWord_go 4 t c 0 false),
      fun ht => kvCmd_acts ht (kvWord_go 5 t 0 0 false), fun ht => kvCmd_acts ht (kvWord_go 6 0 0 0 false)⟩,
    fun s hon => ⟨congrArg Host.Outcome.next (if_pos hon), fun r => congrArg Host.Outcome.next (if_pos hon)⟩,
    fun s p => ⟨fun ht => congrArg Host.Outcome.next (State.write_fx isReg_drbgStat ht (State.effect_key0 ..)),
      fun ht => congrArg Host.Outcome.next (State.write_fx isReg_rootCmd ht (State.effect_rootGen ..))⟩,
    fun s src => rfl,
    fun s src hen hlit => ⟨s.tampered src, rfl, tamperTrip_acts hen hlit⟩,
    fun s h hon => ⟨spdmReq_answers hon rfl rfl, fun hver => spdmReq_answers hon hver rfl, fun hcaps => spdmReq_answers hon (by simp [hcaps]) rfl,
      fun halgs => spdmNegotiated_answers hon halgs,
      fun hsess => congrArg Host.Outcome.next ((if_neg (by simp)).trans (Host.Outcome.next.inj (spdmReq_answers hon (by simp [hsess]) rfl))),
      fun hsess => spdmReq_answers hon (by simp [hsess]) rfl⟩,
    fun s port sub rx set hon => ⟨fun k hport => congrArg Host.Outcome.next ((if_pos hon).trans (if_pos hport)),
      congrArg Host.Outcome.next (if_pos hon), congrArg Host.Outcome.next (if_pos hon)⟩,
    fun s p k t ht => congrArg Host.Outcome.next (State.write_fx isReg_lcReq ht (State.effect_lcReq ..)),
    fun s k t hlit => lcReq_jtag hlit,
    fun s t hblow => lcBlowDone_acts hblow,
    fun s p i ht => congrArg Host.Outcome.next (State.write_fx isReg_otpCmd ht (State.effect_otpGo ..)),
    fun s ok => rfl,
    fun s u id g data hbusy hu => otpWriteDone_acts hbusy hu⟩

end Sys2Proof.Machine
end

section
/-! The service USB and the SMBus (R455-R463, R473, R474). -/

namespace Sys2Proof.Machine

/-! ### The bus (R455, R462, R463) -/

theorem suspend_answers {s : State} (hup : s.usbUp = true) (hawake : s.usbSuspended = false) :
    Answers (exec .suspend s) (fun t => t.usb.sus = some s.now ∧ t.evStat 54 = true) := by
  refine ⟨_, congrArg Host.Outcome.next (if_pos (by simp [hup, hawake])), ?_, State.raise_stands _ (by decide)⟩
  rw [(State.raise_same ..).part .usb (by decide)]
  rfl

theorem State.usbReason_awake {s : State} {r : Nat} (hup : s.usbUp = true) (hen : hasBit (s.get F.SVC_WAKE_EN_SRC) r = true)
    (hawake : s.usbSuspended = false) : s.usbReason r = s.set F.SVC_WAKE_LOG_REASON (putBit (s.get F.SVC_WAKE_LOG_REASON) r true) :=
  (if_pos (by simp [hup, hen])).trans (if_neg (by simp [hawake]))

/-! ### Control requests (R458, R461) -/

/-- The status stage of the request that is held carries it out (R461). -/
theorem State.usbControl_done {s t : State} {d : Nat} {q : UsbReq} {ok : Bool} {act : State → State} (hthere : s.devThere d = true)
    (hheld : s.usb.ctl = some q) (hact : act (s.mapUsb (fun u => { u with ctl := none })) = t) : s.usbControl d q ok true act = t :=
  (if_neg (by simp [hthere])).trans ((if_pos rfl).trans ((if_pos hheld).trans hact))

/-- The SETUP of a request that the device takes is held until its status stage. -/
theorem State.usbControl_setup {s : State} {d : Nat} {q : UsbReq} {ok : Bool} {act : State → State} (hthere : s.devThere d = true) (hok : ok = true) :
    s.usbControl d q ok false act = s.usbSetup q :=
  (if_neg (by simp [hthere])).trans ((if_neg Bool.false_ne_true).trans (if_pos hok))

theorem getView_test {s : State} (hthere : s.devThere 1 = true) (htest : s.testMode = true) :
    exec .getView s = .next ((s.mapUsb (fun u => { u with ctl := none })).emit (.usbData 0 (leBytes 4 (512 + s.life)))) := by
  refine congrArg Host.Outcome.next ((if_pos hthere).trans ?_)
  rw [if_pos htest]

theorem State.usbDev_setDev (s : State) (d : Nat) (x : UsbDev) : (s.setDev d x).usbDev d = x := (tget_tset ..).trans (if_pos rfl)

theorem setAddress_answers {s : State} {d : UsbDevice} {a : BitVec 7} (hthere : s.devThere (devNo d) = true) (hheld : s.usb.ctl = some (.setAddress d a)) :
    Answers (exec (.setAddress d a true) s) (fun t => (t.usbDev (devNo d)).addr = a.toNat ∧ t.usb.ctl = none ∧ t.regs = s.regs) :=
  ⟨_, congrArg Host.Outcome.next (State.usbControl_done hthere hheld rfl), congrArg UsbDev.addr (State.usbDev_setDev ..), rfl, rfl⟩

/-! ### Endpoints (R456, R457, R459, R460) -/

theorem ep1In_acts {s : State} (hcfg : s.devCfg 1 ≠ 0) (hrun : s.halted 1 1 = false) :
    (s.get F.SVC_WAKE_LOG_REASON = s.usb.ep1 → exec .ep1In s = .next (s.emit (.usbAns 1 2))) ∧
    (s.get F.SVC_WAKE_LOG_REASON ≠ s.usb.ep1 → Answers (exec .ep1In s) (fun t => t.usb.ep1 = s.get F.SVC_WAKE_LOG_REASON ∧ t.regs = s.regs)) := by
  have hgoes : ¬s.halted 1 1 = true := by simp [hrun]
  exact ⟨fun hsame => congrArg Host.Outcome.next ((if_neg hcfg).trans ((if_neg hgoes).trans (if_pos hsame))),
    fun hnew => ⟨_, congrArg Host.Outcome.next ((if_neg hcfg).trans ((if_neg hgoes).trans (if_neg hnew))), rfl, rfl⟩⟩

/-- A whole command of the OP asked for is carried out (R459). -/
theorem State.ep2Run_whole {s t : State} {op n a : Nat} {b : List (BitVec 8)} {f : State → Nat → Nat → List (BitVec 8) → State} (hcfg : s.devCfg 1 = 2)
    (htake : s.ep2Take 8 = (t, some (op, n, a, b))) : s.ep2Run op f = f (t.ep2Drop op n) n a b := by
  unfold State.ep2Run
  rw [if_pos hcfg, htake]
  exact if_pos rfl

theorem pingToken_acts {s : State} (hcfg : s.devCfg 1 = 2) (hhigh : s.usb.high = true) (hrun : s.halted 1 2 = false) :
    (s.usb.bufs.length < 2 → exec .pingToken s = .next (s.emit (.usbAns 2 0))) ∧
    (2 ≤ s.usb.bufs.length → exec .pingToken s = .next ((s.sat F.SVC_FLOW_NAK).emit (.usbAns 2 2))) := by
  have hgoes : ¬s.halted 1 2 = true := by simp [hrun]
  exact ⟨fun hroom => congrArg Host.Outcome.next ((if_pos ⟨hcfg, hhigh⟩).trans ((if_neg hgoes).trans (if_pos hroom))),
    fun hfull => congrArg Host.Outcome.next ((if_pos ⟨hcfg, hhigh⟩).trans ((if_neg hgoes).trans (if_neg (by omega))))⟩

theorem recoveryImage_acts {s : State} {img : FwImage} (hcfg : s.devCfg 2 ≠ 0) (hphase : s.get F.START_STAT_PHASE = 6) :
    (s.imageResult img = 1 → exec (.recoveryImage img) s = .next ((s.set F.IMG_STAT_RESULT 1).imageTaken img)) ∧
    (s.imageResult img ≠ 1 → exec (.recoveryImage img) s = .next (s.set F.IMG_STAT_RESULT (s.imageResult img))) := by
  refine ⟨fun hgood => congrArg Host.Outcome.next ((if_pos ⟨hcfg, hphase⟩).trans ((if_pos hgood).trans ?_)),
    fun hbad => congrArg Host.Outcome.next ((if_pos ⟨hcfg, hphase⟩).trans (if_neg hbad))⟩
  rw [hgood]

/-! ### The SMBus (R473, R474) -/

/-- A transaction with a good PEC reaches the management space of a die that is awake. -/
theorem State.smbus_reaches {s : State} {f : State → State} (hlit : (s.wakeBy 2).isDark = false) : s.smbus true f = f (s.wakeBy 2) := by
  have hpwr : s.isDark = (s.wakeBy 2).isDark := by
    rw [State.isDark, State.isDark, (State.wakeBy_same s 2).part .pwr (by decide)]
  exact if_pos (by simp [hpwr, hlit])

/-- Settles O60. -/
theorem usbAndSmbusCommandsAct : Obligations.UsbAndSmbusCommandsAct := by
  refine ⟨fun s => ⟨fun hoff => congrArg Host.Outcome.next ((if_neg (by simp [hoff])).trans (if_pos rfl)),
      fun hon => congrArg Host.Outcome.next ((if_neg (by simp [hon])).trans (if_neg Bool.false_ne_true))⟩,
    fun s hup => ⟨fun hs => congrArg Host.Outcome.next (if_pos hup), fun hawake => suspend_answers hup hawake,
      fun hsus => congrArg Host.Outcome.next (if_pos (by simp [hup, hsus]))⟩,
    fun s r => rfl,
    fun s r hup hen hawake => congrArg Host.Outcome.next (State.usbReason_awake hup hen hawake),
    fun s n on => rfl,
    fun s n on hchange => congrArg Host.Outcome.next (if_neg hchange),
    fun s hthere => ⟨fun a n hform => congrArg Host.Outcome.next ((if_pos hthere).trans (if_neg (by simp [hform]))),
      fun a n r hform hr => congrArg Host.Outcome.next ((if_pos hthere).trans ((if_pos hform).trans (by rw [hr]))),
      fun a n l hheld => congrArg Host.Outcome.next (State.usbControl_done hthere hheld rfl),
      fun a n l hform hlen => congrArg Host.Outcome.next (State.usbControl_setup hthere (by simp [hform, hlen])),
      fun htest => getView_test hthere htest⟩,
    fun s d hthere => ⟨fun a => ⟨congrArg Host.Outcome.next (State.usbControl_setup hthere rfl), fun hheld => setAddress_answers hthere hheld⟩,
      fun c hheld => congrArg Host.Outcome.next (State.usbControl_done hthere hheld rfl),
      fun f => ⟨fun hheld => congrArg Host.Outcome.next (State.usbControl_done hthere hheld rfl),
        fun hheld => congrArg Host.Outcome.next (State.usbControl_done hthere hheld rfl)⟩⟩,
    fun s hcfg hrun => ep1In_acts hcfg hrun,
    fun s t n a b hcfg => ⟨fun htake => congrArg Host.Outcome.next (State.ep2Run_whole hcfg htake),
      fun r htake hr => congrArg Host.Outcome.next ((State.ep2Run_whole hcfg htake).trans (by rw [hr])),
      fun hlen => congrArg Host.Outcome.next (if_pos ⟨hcfg, hlen⟩), fun hhigh hrun => pingToken_acts hcfg hhigh hrun⟩,
    fun s img hcfg hphase => recoveryImage_acts hcfg hphase,
    fun s b l hcfg => ⟨congrArg Host.Outcome.next ((if_neg hcfg).trans (if_pos rfl)),
      congrArg Host.Outcome.next ((if_neg hcfg).trans (if_neg Bool.false_ne_true))⟩,
    fun s hlit => ⟨fun o => ⟨_, congrArg Host.Outcome.next (State.smbus_reaches hlit), rfl, rfl⟩,
      fun r hr => congrArg Host.Outcome.next ((State.smbus_reaches hlit).trans (by rw [hr])),
      fun v => congrArg Host.Outcome.next (State.smbus_reaches hlit)⟩,
    fun s => rfl⟩

end Sys2Proof.Machine
end
